-- ==== Sys2Proof/Word.lean ====
section
/-! DEFINITION. The plainest data of the block: bytes, 32-bit register words (R13), and the two sparse containers the
state is built from. Their operations are in `Sys2Proof.Machine.Ops`. -/

namespace Sys2Proof

/-- A byte of a frame, buffer or memory. -/
abbrev Byte := BitVec 8

/-- A register word as it travels over a host path (R454). -/
abbrev Word := BitVec 32

/-- A sparse map from numbers to numbers, keys strictly rising; an absent key stands for a default. -/
abbrev KMap := List (Nat × Nat)

/-- A sparse table of records, keys strictly rising; an absent key stands for the default record. -/
abbrev Tab (α : Type) := List (Nat × α)

end Sys2Proof
end

