-- ==== Sys2Proof/Payload.lean ====
section
/-! DEFINITION. The records that commands carry as operands: what arrives from outside the block. -/

namespace Sys2Proof

/-- A tile message from a store (Table 03.10), with the port it came on: TYPE, LAYER, FLAGS, tile, FIELD_ID, GEN, TAG,
TILE_CRC and the payload bytes. -/
structure TileMsgIn where
  port : Nat := 0
  type : Nat := 2
  layer : Nat := 0
  flags : Nat := 0
  tx : Int := 0
  ty : Int := 0
  field : Nat := 0
  gen : Nat := 0
  tag : Nat := 0
  crc : Nat := 0
  payload : List Nat := []
  deriving DecidableEq, Repr, Inhabited

/-- A HELLO message of the twin partner (R441): UNIT, PAIR_STATE code, PREF_ACTIVE, CFG_CRC, IMPL_ID, MIR_VER. -/
structure HelloMsg where
  unit : Nat := 0
  state : Nat := 0
  pref : Bool := false
  cfgCrc : Nat := 0
  implId : Nat := 0
  mirVer : Nat := 1
  deriving DecidableEq, Repr, Inhabited

/-- A MIRROR message (R448, Tables 13.10 and 13.11): the fields of its header, and its sections as KIND and content
words. -/
structure MirrorMsg where
  unit : Nat := 0
  rate : Nat := 1
  snuff : Bool := false
  handover : Bool := false
  tick : Nat := 0
  edgePt : Nat := 0
  hoTick : Nat := 0
  sects : List (Nat × List Nat) := []
  deriving DecidableEq, Repr, Inhabited

/-- A CAN frame (R395, Table 12.4): identifier, format bits, data bytes, and for CAN XL its SDT, VCID, AF and SEC. -/
structure CanFrame where
  id : Nat := 0
  ide : Bool := false
  fdf : Bool := false
  xlf : Bool := false
  brs : Bool := false
  esi : Bool := false
  rtr : Bool := false
  data : List Nat := []
  sdt : Nat := 1
  vcid : Nat := 0
  af : Nat := 0
  sec : Bool := false
  deriving DecidableEq, Repr, Inhabited

/-- What a tracking channel measures at an epoch (R232, Table 07.5): channel, C/N0 in 0.25 dB-Hz, pseudorange, carrier
phase, Doppler, half-cycle flag, whether it survived the consistency check (R234), elevation and azimuth. -/
structure ChanObs where
  ch : Nat := 0
  cn0 : Nat := 0
  pr : Nat := 0
  cp : Int := 0
  dopp : Int := 0
  half : Bool := false
  kept : Bool := true
  elev : Int := 0
  az : Nat := 0
  deriving DecidableEq, Repr, Inhabited

/-- A time solution (R243): GPS time in ns at its DT, its uncertainty in ns, the oscillator's frequency error in 10^-12 and
the uncertainty of that in ppb. -/
structure TimeSol where
  gps : Int := 0
  unc : Nat := 0
  freq : Int := 0
  freqUnc : Nat := 0
  deriving DecidableEq, Repr, Inhabited

/-- What the signals and the position engine's arithmetic give at an epoch (R228 to R235; log entry 14): the signals wanted
as (SIG, SV, elevation), the observations, whether the solution passes the consistency check, whether the float ambiguities have converged, the ratio of the ratio test in 0.1, position in 10^-9 ° and mm, velocity in
mm/s, the covariances of position and velocity as EE, NN, UU, EN, EU, NU, PDOP in 0.1, gain codes, and the time solution. -/
structure EpochIn where
  want : List (Nat × Nat × Int) := []
  obs : List ChanObs := []
  consistent : Bool := true
  conv : Bool := false
  ratio : Nat := 0
  lat : Int := 0
  lon : Int := 0
  h : Int := 0
  ve : Int := 0
  vn : Int := 0
  vu : Int := 0
  posCov : List Int := []
  velCov : List Int := []
  pdop : Nat := 0
  agc1 : Nat := 0
  agc5 : Nat := 0
  time : TimeSol := {}
  deriving DecidableEq, Repr, Inhabited

/-- A demodulated navigation unit (R233): its length in bits and its bits, the first the most significant of the first byte, the DT of its
first bit in ns, the DT in fabric cycles at which the ephemeris and clock it completes expire, whether it carries ionosphere parameters, and
the UTC parameters it carries: LEAP_SEC and an announced leap second as (GPS second of the event, new LEAP_SEC). -/
structure NavUnit where
  nbits : Nat := 0
  bits : List Nat := []
  dt : Nat := 0
  expiry : Option Nat := none
  iono : Bool := false
  utc : Option (Nat × Option (Int × Nat)) := none
  deriving DecidableEq, Repr, Inhabited

end Sys2Proof
end

