-- ==== Sys2Proof/Syntax.lean ====
section
/-! DEFINITION. The commands of the block: one constructor for each row of the opcode table. Every command carries `el`,
the fabric cycles of DT (R33) that pass between the command before it and this one; what else it carries is what comes
from outside the block: words and bytes of a host or a bus, levels of pins, measured values, durations. -/

namespace Sys2Proof

inductive Instr where
  /-- TICK, R42: A tick edge on the grid starts a tick, which runs phases T0 to T6 in order. -/
  | tick (el : Nat) (t1 t2 t3 t4 t5 : BitVec 16)
  /-- TICK_OVERRUN, R51: At the T5 deadline of a tick whose T5 has not completed, the device abandons the tick, counts
  the overrun and carries over the last committed commands. -/
  | tickOverrun (el : Nat) (t1 t2 t3 t4 : BitVec 16)
  /-- LOCKSTEP_MISMATCH, R30: A lockstep mismatch of a firmware core pair raises EVT_SYS_LOCKSTEP, counts it and
  causes a logic-die reset. -/
  | lockstepMismatch (el : Nat) (pairB : Bool)
  /-- ECC_CORRECTED, R32: A corrected single-bit SRAM or MRAM error is counted in SYS_MEM_ERR and has no other effect. -/
  | eccCorrected (el : Nat) (mram : Bool)
  /-- ECC_UNCORRECTABLE, R32: An uncorrectable SRAM error raises EVT_SYS_ECC_UE; the owning block handles the data,
  and in firmware data it causes a logic-die reset. -/
  | eccUncorrectable (el : Nat) (site : Fin 5) (i : BitVec 12)
  /-- LO_HI_LATCH_READ, R36: A read of the low word of a LO/HI pair samples the whole value and latches the upper half
  for the following HI read. -/
  | loHiLatchRead (el : Nat) (a : BitVec 24)
  /-- CLR_MAX, R60: A write of 1 to CLR_MAX sets PH_MAX of all five phase registers to zero. -/
  | clrMax (el : Nat)
  /-- REGISTER_WRITE, R19: A host write to a register field that has no row of its own takes effect under its access
  code and takes-effect value. -/
  | registerWrite (el : Nat) (path : Fin 3) (a : BitVec 24) (w : Word)
  /-- SEGMENT_SENSOR_STALE, R72: A fold or sway sensor whose newest sample is older than STALE_MAX sets FOLD_STALE or
  SWAY_STALE and fires EVT_GEO_SENSOR_STALE. -/
  | segmentSensorStale (el : Nat) (seg : Fin 8)
  /-- PT_IDX_SNAPSHOT, R84: A write of PT_IDX snapshots the readback registers of that point from the last completed
  T2. -/
  | ptIdxSnapshot (el : Nat) (n : BitVec 10)
  /-- FIELD_OPEN, R94: FIELD_CMD = OPEN from CLOSED takes FIELD_ID and CELL_SIZE at the next commit and enters OPEN. -/
  | fieldOpen (el : Nat)
  /-- FIELD_CLOSE, R94: FIELD_CMD = CLOSE from OPEN enters CLOSING at the next commit, or discards dirty tiles and
  journal when no store is selected. -/
  | fieldClose (el : Nat)
  /-- FIELD_ABANDON, R94: FIELD_CMD = ABANDON enters CLOSED at once and discards every tile and journal entry,
  counting the losses. -/
  | fieldAbandon (el : Nat)
  /-- FLUSH_DONE, R94: When the journal is empty and no dirty or provisional tile remains in CLOSING, COV reaches
  CLOSED and fires EVT_TPL_FLUSH_DONE. -/
  | flushDone (el : Nat)
  /-- CONF_TIMEOUT, R100: An edge awaiting confirmation beyond CONF_WAIT resolves as no opening or as a closing at the
  commanded time plus latency, and CONF_TIMEOUTS is incremented. -/
  | confTimeout (el : Nat) (pt : Fin 1024)
  /-- TILE_WRITEBACK, R113: A DIRTY tile not written back for WB_INTERVAL is sent as TILE_PUT without eviction. -/
  | tileWriteback (el : Nat) (slot : Fin 416)
  /-- TILE_PIN, R114: PIN_CMD = pin pins a tile of the open field, fetching it at once, or sets PIN_FULL when 64 are
  held. -/
  | tilePin (el : Nat)
  /-- TILE_UNPIN, R114: PIN_CMD = unpin removes the pin of one tile. -/
  | tileUnpin (el : Nat)
  /-- TILE_UNPIN_ALL, R114: PIN_CMD = unpin all removes every pin. -/
  | tileUnpinAll (el : Nat)
  /-- REQ_TIMEOUT, R115: A tile request unanswered within REQ_TIMEOUT is repeated, and after RETRY_MAX repeats the
  store is declared failed. -/
  | reqTimeout (el : Nat) (slot : Fin 416)
  /-- STORE_PROBE, R115: While the store is failed the TPL sends one probe TILE_REQ each second. -/
  | storeProbe (el : Nat)
  /-- PROVISIONAL_REREQUEST, R128: Once each second while STORE_OK is set, the TPL requests again the home copy of a
  tile made PROVISIONAL by a NAK. -/
  | provisionalRerequest (el : Nat) (slot : Fin 416)
  /-- TILE_DATA, R119: A received TILE_DATA is verified and made resident with matching journal entries replayed, or
  merged into a PROVISIONAL tile, or rejected as a timeout. -/
  | tileData (el : Nat) (m : TileMsgIn)
  /-- TILE_ABSENT, R121: A received TILE_ABSENT creates the tile filled with FILL, or merges the fill into a
  PROVISIONAL tile, after checking its TILE_CRC. -/
  | tileAbsent (el : Nat) (m : TileMsgIn)
  /-- TILE_ACK, R112: A TILE_ACK acknowledges a put: an evicting slot becomes FREE and an unpainted written-back tile
  becomes CLEAN. -/
  | tileAck (el : Nat) (m : TileMsgIn)
  /-- TILE_NAK, R128: A TILE_NAK to a put counts as an unanswered put; to a request it ends the request and makes the
  slot PROVISIONAL. -/
  | tileNak (el : Nat) (m : TileMsgIn)
  /-- BOUNDARY_UPDATE, R129: A TILE_DATA with BITS_ONLY and TAG 0 replaces EXCL and HEAD of a resident tile, is held
  for a LOADING tile, or is discarded. -/
  | boundaryUpdate (el : Nat) (m : TileMsgIn)
  /-- HELD_SPAN_TIMEOUT, R566: A span still unpainted 1,000 ms after it was held makes the TPL discard a tile at once
  to make room. -/
  | heldSpanTimeout (el : Nat) (pt : Fin 1024)
  /-- COV_PEEK, R132: A write of PEEK_Y samples the coverage cell and prescription index at PEEK_X, PEEK_Y into the
  peek registers. -/
  | covPeek (el : Nat) (x y : BitVec 32)
  /-- SLOT_SNAPSHOT, R133: A write of SLOT_IDX snapshots that slot's tile, state, pin, layer, GEN and CRC. -/
  | slotSnapshot (el : Nat) (slot : BitVec 9)
  /-- HOLD_EXPIRED, R156: HOLD lasting HOLD_MAX sets HOLD_EXP, fires EVT_DEC_HOLD_EXPIRED and makes the product act as
  STOP. -/
  | holdExpired (el : Nat) (prod : Fin 8)
  /-- LATENCY_STORE, R168: Every 10 s while an entry has changed, DEC writes the older copy of the stored latency
  table to MRAM. -/
  | latencyStore (el : Nat)
  /-- DEC_SNAPSHOT, R166: A write of PTD_IDX snapshots that point's committed window, reason, flags, latencies and
  D_SINCE. -/
  | decSnapshot (el : Nat) (n : BitVec 10)
  /-- LOOP_UPDATE, R178: In every LOOP_DIV-th tick each running loop computes its set point, process value and
  actuator duty. -/
  | loopUpdate (el : Nat) (prod : Fin 8)
  /-- FB_LOSS, R180: No feedback edge for FB_TIMEOUT while the loop drives sets FB_LOST, fires EVT_RATE_FB_LOSS and
  applies FB_LOSS_POLICY. -/
  | fbLoss (el : Nat) (prod : Fin 8)
  /-- RATE_DEVIATION, R181: A loop deviating beyond DEV_PCT for DEV_TIME sets DEV_ACT and fires EVT_RATE_DEVIATION. -/
  | rateDeviation (el : Nat) (prod : Fin 8)
  /-- DUTY_REFRESH, R189: In ticks with (n + a) mod NODE_REFRESH = 0, node a receives duty commands for its pulsed
  points that are on. -/
  | dutyRefresh (el : Nat) (bus : Fin 4) (node : Fin 64)
  /-- RATE_SNAPSHOT, R192: A write of PTR_IDX snapshots that point's rate, index, demand, duty, slot and flags from
  the last commit. -/
  | rateSnapshot (el : Nat) (n : BitVec 10)
  /-- SSP_DRDY, R202: A DRDY edge of the selected polarity starts a transaction, or is ignored and counted in OVERRATE
  when too early or during a transaction. -/
  | sspDrdy (el : Nat) (port : Fin 4)
  /-- SSP_PERIODIC_START, R202: In PERIODIC mode the device starts a transaction at each multiple of 1 / PER_RATE from
  T_epoch. -/
  | sspPeriodicStart (el : Nat) (port : Fin 4)
  /-- SSP_SAMPLE, R203: A completed transaction is decoded, scaled and axis-mapped, or discarded as BAD, with counter
  jumps counted in MISSED. -/
  | sspSample (el : Nat) (port : Fin 4) (rx : List Byte)
  /-- SSP_STALE, R204: A port without an accepted sample for its staleness limit sets STALE and fires EVT_SSP_STALE. -/
  | sspStale (el : Nat) (port : Fin 4)
  /-- IMU_RETURN, R213: After the active unit has delivered for 1 s without a stale period the pose engine returns to
  INERTIAL with attitude re-levelled. -/
  | imuReturn (el : Nat)
  /-- HISTORY_QUERY, R218: A write of HQ_DT_HI runs a history query at that DT and snapshots status and the
  interpolated entry. -/
  | historyQuery (el : Nat) (hi : Word)
  /-- POSE_RESET, R223: A write of 1 to POSE_RESET sets ALIGN_STATE to NONE at the next T1. -/
  | poseReset (el : Nat)
  /-- IMU_PRIMARY, R213: A write of 1 to IMU_PRIMARY returns the pose engine to the VEHICLE port if it is not stale. -/
  | imuPrimary (el : Nat)
  /-- ANT_OPEN, R226: Bias current below ANT_OPEN_MA for 100 ms sets ANT_STATE OPEN and fires EVT_GNSS_ANT. -/
  | antOpen (el : Nat) (ma : BitVec 6)
  /-- ANT_SHORT, R226: Current limit reached for 1 ms switches the bias off, counts ANT_SHORTS and fires EVT_GNSS_ANT. -/
  | antShort (el : Nat)
  /-- ANT_RETRY, R226: ANT_RETRY seconds after a short the bias is switched on again. -/
  | antRetry (el : Nat)
  /-- SIGNAL_DETECTION, R229: Detection of a signal moves a channel from ACQ to PULL_IN or from REACQ to CODE_LOCK. -/
  | signalDetection (el : Nat) (ch : Fin 128)
  /-- CHANNEL_TIMEOUT, R229: A channel state timer expires, returning ACQ or REACQ to IDLE, PULL_IN to CODE_LOCK, or a
  weak channel to REACQ. -/
  | channelTimeout (el : Nat) (ch : Fin 128)
  /-- PHASE_LOSS, R229: Carrier phase loss or a cycle slip returns the channel to CODE_LOCK, sets SLIP and restarts
  LOCK_TIME. -/
  | phaseLoss (el : Nat) (ch : Fin 128) (slip : Bool)
  /-- MEASUREMENT_EPOCH, R231: At each measurement epoch the receiver samples all channels together and produces raw
  records. -/
  | measurementEpoch (el : Nat) (e : EpochIn)
  /-- NAV_UNIT, R233: A demodulated navigation unit is checked, counted in NAV_PASS or NAV_FAIL, used if it passes and
  streamed if enabled. -/
  | navUnit (el : Nat) (ch : Fin 128) (u : NavUnit)
  /-- RAW_IDX_SNAPSHOT, R232: A write of RAW_IDX snapshots that channel's raw record from the last complete epoch. -/
  | rawIdxSnapshot (el : Nat) (ch : BitVec 7)
  /-- RTCM_PUSH, R236: RTCM_PUSH appends that many bytes of RTCM_BUF to the input queue, or is refused whole with
  RTCM_OVF. -/
  | rtcmPush (el : Nat) (n : BitVec 13)
  /-- RTCM_FRAME, R237: A framed RTCM 3 message is checked and used, ignored as unsupported, or discarded as a CRC
  error. -/
  | rtcmFrame (el : Nat)
  /-- CORRECTION_EPOCH_CLOSE, R238: A correction epoch closes on its last message for every constellation or 200 ms
  after its first message. -/
  | correctionEpochClose (el : Nat)
  /-- CORR_AGE, R239: A correction age beyond CORR_AGE_MAX drops the solution to SBAS or STANDALONE and fires
  EVT_GNSS_CORR_AGE. -/
  | corrAge (el : Nat)
  /-- EMBER_BURST, R241: Once a second in EMBER the receiver tracks a 25 ms burst to update the time mapping and code
  phases. -/
  | emberBurst (el : Nat) (obs : List ChanObs) (t : TimeSol)
  /-- EPHEMERIS_BURST, R241: When a used ephemeris expires within 30 min, the receiver runs a burst of up to 60 s to
  decode a new one. -/
  | ephemerisBurst (el : Nat) (sig : Fin 7) (sv : BitVec 8) (expiry : Nat) (ok : Bool)
  /-- MAP_REANCHOR, R244: Once per second the receiver re-anchors the DT-to-GPS mapping line. -/
  | mapReanchor (el : Nat)
  /-- MAP_SNAP, R244: A write of 1 to MAP_SNAP latches the mapping parameters and TIME_STATUS as one set. -/
  | mapSnap (el : Nat)
  /-- HOLDOVER, R249: 2 s after the last good time solution TIME_STATUS becomes HOLDOVER and EVT_TIME_STATUS fires. -/
  | holdover (el : Nat)
  /-- FREERUN, R250: HO_TIME beyond HOLDOVER_MAX makes TIME_STATUS FREERUN. -/
  | freerun (el : Nat)
  /-- TIME_RETURN, R251: After 10 s of good time solutions the receiver returns to GNSS, slewing a small phase error
  or stepping a large one. -/
  | timeReturn (el : Nat)
  /-- LEAP_SECOND, R246: At the announced UTC second boundary LEAP_SEC changes and EVT_TIME_LEAP fires. -/
  | leapSecond (el : Nat)
  /-- TPO_PULSE, R247: TPO is asserted for TPO_WIDTH at each DT whose mapped GPS time, less TPO_OFS, is a whole TPO
  period. -/
  | tpoPulse (el : Nat)
  /-- FEATURE_TILE, R258: An arriving feature tile is checked in order and discarded, held as NOT_YET, or accepted for
  warping and fusion. -/
  | featureTile (el : Nat) (hdr : List Byte) (cells : List (Fin 16384 × List Byte))
  /-- CAMERA_TRIGGER, R259: At E(k) + TRG_PHASE for ticks with k mod TRIG_DIV = 0, GRID asserts the TRG pins of
  enabled SYNC sources. -/
  | cameraTrigger (el : Nat)
  /-- NET_LOAD, R270: A write of 1 to NET_LOAD validates the network image and loads it, clears the target layer and
  enters AUDIT, or refuses it with NET_ERR. -/
  | netLoad (el : Nat)
  /-- WIN_CLEAR, R276: A write of 1 to WIN_CLEAR frees every target block without a record. -/
  | winClear (el : Nat)
  /-- HEALTH_WINDOW, R280: At the end of each 1 s window GRID judges source rates and consistency and moves sources
  between health states. -/
  | healthWindow (el : Nat)
  /-- AUDIT_REQ, R282: A write of 1 to AUDIT_REQ enters AUDIT with cause HOST. -/
  | auditReq (el : Nat)
  /-- SRC_RETRY, R280: A write of 1 to SRC_RETRY releases a source held SUSPECT with cause AUDIT. -/
  | srcRetry (el : Nat) (src : Fin 16)
  /-- CAL_RESET, R285: A CAL_RESET bit zeroes that source's corrections, clears its CAL_CONV and CAL_OOB bits and
  enters AUDIT with cause CAL. -/
  | calReset (el : Nat) (mask : BitVec 16)
  /-- CAL_STORE, R289: Every 10 s while corrections change, CAL writes them to MRAM. -/
  | calStore (el : Nat)
  /-- PAIR_SNAPSHOT, R292: A write of PAIR_A and PAIR_B snapshots the contradiction and shared counts of that source
  pair. -/
  | pairSnapshot (el : Nat) (a b : Fin 16)
  /-- GRID_PEEK, R292: A write of PEEK_Y samples the target cell at the peek position. -/
  | gridPeek (el : Nat) (y : Word)
  /-- PULSE_START, R308: An on command at its DT is admitted and starts phase 0, is deferred under MIN_OFF, waits for
  admission, merges with a running pulse or is ignored. -/
  | pulseStart (el : Nat) (ch : Fin 32)
  /-- PULSE_END, R308: An off command at its DT ends drive into end decay subject to MIN_ON, or cancels a deferred or
  waiting start. -/
  | pulseEnd (el : Nat) (ch : Fin 32)
  /-- STAGGER_MAX_EXPIRY, R311: A start waiting under STAGGER for STAGGER_MAX continues under SHARE. -/
  | staggerMaxExpiry (el : Nat) (grp : Fin 8)
  /-- MIN_OFF_END, R306: At the end of MIN_OFF a deferred start proceeds with the latest command deciding. -/
  | minOffEnd (el : Nat) (ch : Fin 32)
  /-- PHASE_END, R299: A drive phase ends on its time, current or opening kink and the pulse continues with the next
  phase. -/
  | phaseEnd (el : Nat) (ch : Fin 32) (ma pin : BitVec 16)
  /-- PULSE_RECORD, R316: At end of drive plus CK_WIN or the next start, the per-pulse record is completed and sent to
  DEC, COV, readback and the stream. -/
  | pulseRecord (el : Nat) (ch : Fin 32) (temp : BitVec 10)
  /-- SC_SUP, R320: Channel current above 6.0 A for 2 µs turns the low side off, latches the channel and fires
  EVT_IDC_FAULT. -/
  | scSup (el : Nat) (ch : Fin 32) (ma : BitVec 16) (held : Nat)
  /-- SC_GND, R320: Current not falling after the low side turns off turns HSGg off, ends the group's pulses and
  latches the group. -/
  | scGnd (el : Nat) (ch : Fin 32) (ma : BitVec 16)
  /-- HSG_OC, R320: HSGg current above 10.0 A for 2 µs turns HSGg off and latches the group. -/
  | hsgOc (el : Nat) (grp : Fin 8) (ma : BitVec 16) (held : Nat)
  /-- OPEN_LOAD, R320: Current below I_HI / 16 at OL_T after pulse start reports an OPEN fault while the pulse
  continues. -/
  | openLoad (el : Nat) (ch : Fin 32) (ma : BitVec 16)
  /-- MISMATCH, R321: HSGg current differing from the channel sum by over 300 mA for 200 µs sets MISMATCH. -/
  | mismatch (el : Nat) (grp : Fin 8) (ma : BitVec 16) (held : Nat)
  /-- IDC_OFF_TEST, R322: In an off window of at least 200 µs a channel runs an off-state test or an offset
  calibration and reports DIAG_OFF. -/
  | idcOffTest (el : Nat) (ch : Fin 32) (a b : Fin 3) (ofs : BitVec 12)
  /-- IDC_FLT_CLR, R323: A write of 1 to FLT_CLR clears a channel latch unless the fault is found again. -/
  | idcFltClr (el : Nat) (ch : Fin 32)
  /-- GRP_FLT_CLR, R323: A write of 1 to GRP_FLT_CLR clears the group latch unless the fault is found again. -/
  | grpFltClr (el : Nat) (grp : Fin 8)
  /-- REC_CH_SNAPSHOT, R329: A write of REC_CH snapshots that channel's last per-pulse record. -/
  | recChSnapshot (el : Nat) (grp : Fin 8) (ch : BitVec 2)
  /-- HOLD_WINDOW_END, R328: At the end of a channel's or switch's HOLD_WINDOW after a logic-die reset, it takes its
  snuff state. -/
  | holdWindowEnd (el : Nat) (out : Fin 48)
  /-- LSW_SWITCH_ON, R333: A switch-on of a load switch is admitted against the bank limit and starts inrush, or
  waits. -/
  | lswSwitchOn (el : Nat) (ch : Fin 16)
  /-- LSW_SWITCH_OFF, R336: A switch-off of a load switch turns its output off. -/
  | lswSwitchOff (el : Nat) (ch : Fin 16)
  /-- LSW_ADMIT_TIMEOUT, R333: After 10 ms of waiting a switch-on starts with its inrush limit cut to the headroom. -/
  | lswAdmitTimeout (el : Nat) (ch : Fin 16)
  /-- INRUSH_END, R339: At the end of the inrush curve or window the switch's limit drops to I_STEADY. -/
  | inrushEnd (el : Nat) (ch : Fin 16)
  /-- BANK_PEAK, R334: I_BANK above 16,000 mA for 10 ms cuts every inrushing switch of the bank to steady and fires
  EVT_LSW_BANK_PEAK. -/
  | bankPeak (el : Nat) (bank : Fin 4) (i0 i1 i2 i3 : BitVec 16) (held : Nat)
  /-- BANK_OVERLOAD, R334: I_BANK above 16,000 mA for 1 s turns off the most loaded switch with FAULT OVERLOAD, as a
  thermal event. -/
  | bankOverload (el : Nat) (bank : Fin 4) (i0 i1 i2 i3 : BitVec 16) (held : Nat)
  /-- REVERSE_BLOCK, R335: An output more than 0.2 V above VPWR opens the switch and counts REVERSE_CNT; it closes
  when the output falls back. -/
  | reverseBlock (el : Nat) (ch : Fin 16) (mv : BitVec 16)
  /-- LSW_OVERLOAD, R341: A switch in current limit for OVL_TIME after inrush is turned off with FAULT OVERLOAD as a
  thermal event. -/
  | lswOverload (el : Nat) (ch : Fin 16) (i : BitVec 16) (held : Nat)
  /-- THERMAL_SHUTDOWN, R342: A switch reaching 175 °C enters COOL and turns off, counting a thermal event. -/
  | thermalShutdown (el : Nat) (ch : Fin 16) (temp : BitVec 10)
  /-- COOL_RESTART, R344: A switch cooled 15 K below shutdown restarts if the retry counter permits, no latch is set
  and it is commanded on. -/
  | coolRestart (el : Nat) (ch : Fin 16) (temp : BitVec 10)
  /-- LSW_FLT_CLR, R345: A write of 1 to FLT_CLR resets the latch and retry counter and restarts the switch if
  permitted. -/
  | lswFltClr (el : Nat) (ch : Fin 16)
  /-- LSW_OPEN, R346: Current below OL_ON_MA for 10 ms after inrush reports FAULT OPEN. -/
  | lswOpen (el : Nat) (ch : Fin 16) (i : BitVec 16) (held : Nat)
  /-- LSW_SC_GND, R346: Current limit with output below 2.0 V for 1 ms reports FAULT SC_GND. -/
  | lswScGnd (el : Nat) (ch : Fin 16) (i mv : BitVec 16) (held : Nat)
  /-- LSW_OFF_TEST, R347: In an off window with OFF_DIAG_EN set the switch output is pulled up and judged for
  DIAG_OFF. -/
  | lswOffTest (el : Nat) (ch : Fin 16) (mv : BitVec 16)
  /-- SNUFF_TABLE_WRITE, R352: A write to a snuff table entry reaches each power die's copy within 100 µs, with
  SNUFF_SYNC showing agreement. -/
  | snuffTableWrite (el : Nat) (i : Fin 60) (w : Word)
  /-- SNUFF_STORE, R352: A write of 1 to SNUFF_STORE writes the snuff table into the valid configuration image, or
  sets SNUFF_NOIMG without an image. -/
  | snuffStore (el : Nat)
  /-- SAFE_N_ASSERT, R355: A filtered fall of SAFE_N drives every output to its snuff state within 50 µs and commits
  every point off. -/
  | safeNAssert (el : Nat)
  /-- SAFE_N_AUTO_RELEASE, R356: Under AUTO the SAFE_N path ends once SAFE_N has been high for 10 ms. -/
  | safeNAutoRelease (el : Nat)
  /-- SAFE_CLR, R356: A write of SAFE_CLR while SAFE_N is high ends the SAFE_N path under HOST_CLEAR. -/
  | safeClr (el : Nat)
  /-- WDG_EN, R357: Setting WDG_EN in HOST mode arms the watchdog and posts the first challenge; clearing it ends an
  active watchdog path. -/
  | wdgEn (el : Nat) (en : Bool)
  /-- RESPONSE, R358: A watchdog response is accepted with a new challenge, or counted as an error, and ERR_CNT
  reaching ERR_LIMIT expires the watchdog. -/
  | response (el : Nat) (v : BitVec 16)
  /-- WATCHDOG_EXPIRED, R359: A missing response at WIN_CLOSE or ERR_LIMIT errors start the watchdog snuff path, set
  WDG_EXP and fire EVT_WDG_EXPIRED. -/
  | watchdogExpired (el : Nat)
  /-- PWM_UPDATE_POINT, R372: At an update point the PWM output takes its buffered values written at least one cycle
  before the reload edge. -/
  | pwmUpdatePoint (el : Nat) (out : Fin 12)
  /-- OUT_EN, R367: Setting an OUT_EN bit starts that output's counter from 0; clearing it holds the output inactive. -/
  | outEn (el : Nat) (mask : BitVec 12)
  /-- TRIP_ASSERT, R377: A filtered trip assertion holds the mapped pair groups inactive within 25 ns and fires
  EVT_TRIP_ASSERT. -/
  | tripAssert (el : Nat) (inp : Fin 4) (held : Nat)
  /-- TRIP_BLANK_END, R378: An assertion still present when blanking ends acts at that instant. -/
  | tripBlankEnd (el : Nat) (inp : Fin 4)
  /-- TRIP_CLR, R379: A TRIP_CLR bit releases the latched hold at each group's next period boundary with the input not
  asserted. -/
  | tripClr (el : Nat) (mask : BitVec 4)
  /-- FBK_EDGE, R380: A count edge on an FBK channel changes POS and LAST_EDGE_DT, and ends a feedback loss. -/
  | fbkEdge (el : Nat) (ch : Fin 8) (pinB a b : Bool) (held : Nat)
  /-- INDEX_PULSE, R384: An index edge captures POS, homes or judges it against the expected count, and applies
  IDX_POLICY on a mismatch. -/
  | indexPulse (el : Nat) (ch : Fin 8) (held : Nat)
  /-- POS_LOAD, R381: A write of 1 to POS_LOAD sets POS to POS_VAL. -/
  | posLoad (el : Nat) (ch : Fin 8)
  /-- FBK_CLR, R393: A write of 1 to FBK_CLR clears SUSPECT, MISS_RUN and IDX_MISSING. -/
  | fbkClr (el : Nat) (ch : Fin 8)
  /-- SSI_TRANSFER, R386: SSI_LEAD before each tick edge the device clocks in one SSI word and checks it. -/
  | ssiTransfer (el : Nat) (ch : Fin 8) (low : Bool)
  /-- SSI_WORD, R387: A completed SSI word updates POS, or is rejected with SSI_ERR_LAST and counted. -/
  | ssiWord (el : Nat) (ch : Fin 8) (raw : BitVec 41) (high : Nat)
  /-- GIN_CHANGE, R388: A GIN level held for DEB_MS is accepted, sets GIN_CHG and fires EVT_GIN_CHANGE when enabled. -/
  | ginChange (el : Nat) (i : Fin 24) (level : Bool) (held : Nat)
  /-- CAN_FRAME_RX, R398: A received frame that no protocol layer consumes is written to the receive queue or shadow
  buffer, or dropped. -/
  | canFrameRx (el : Nat) (ctl : Fin 6) (f : CanFrame) (ago : BitVec 20)
  /-- RX_ACK, R398: A write of RX_ACK releases that many receive entries and moves a shadowed frame to the queue tail. -/
  | rxAck (el : Nat) (ctl : Fin 6) (n : BitVec 6)
  /-- ABD_START, R397: A write of ABD_START sets listen-only mode and starts automatic bit-rate detection. -/
  | abdStart (el : Nat) (ctl : Fin 6)
  /-- ABD_TRY_FRAME, R397: A frame received at a candidate timing counts toward LOCKED or moves detection to the next
  candidate. -/
  | abdTryFrame (el : Nat) (ctl : Fin 6) (err : Fin 3) (fast : Bool)
  /-- ABD_TMO, R397: ABD_TMO passing without lock ends detection in FAILED and fires EVT_CAN_ABD. -/
  | abdTmo (el : Nat) (ctl : Fin 6)
  /-- TX_GO, R399: A write of TX_GO queues the mailbox frame, or refuses a boom-bus frame with a forbidden identifier. -/
  | txGo (el : Nat) (ctl : Fin 6)
  /-- MAILBOX_TX_DONE, R399: The mailbox frame is acknowledged on the bus or aborted and TX_BUSY clears. -/
  | mailboxTxDone (el : Nat) (ctl : Fin 6) (acked : Bool)
  /-- BUS_ON, R426: A write of BUS_ON leaves bus-off after 128 × 11 recessive bits. -/
  | busOn (el : Nat) (ctl : Fin 6)
  /-- ADDRESS_CLAIM_TIMEOUT, R401: 250 ms after an uncontested claim the device begins to use its address. -/
  | addressClaimTimeout (el : Nat) (ctl : Fin 2)
  /-- ADDRESS_CLAIMED_RX, R401: A contesting Address Claimed is judged by NAME; a lost claim moves to a free address
  or sends Cannot Claim. -/
  | addressClaimedRx (el : Nat) (ctl : Fin 2) (sa : BitVec 8) (name : BitVec 64)
  /-- REQUEST_FOR_ADDRESS_CLAIMED, R401: The device answers Request for Address Claimed in every state. -/
  | requestForAddressClaimed (el : Nat) (ctl : Fin 2)
  /-- TP_RTS, R402: An RTS opens a receive session with CTS, or is refused with Connection Abort when the buffer is
  busy. -/
  | tpRts (el : Nat) (ctl : Fin 2) (sa : BitVec 8) (etp : Bool) (pgn : BitVec 18) (len : Word)
  /-- TP_BAM, R402: A BAM opens a broadcast receive session, or is ignored when the buffer is busy. -/
  | tpBam (el : Nat) (ctl : Fin 2) (sa : BitVec 8) (pgn : BitVec 18) (len : BitVec 16)
  /-- TP_DATA_TRANSFER, R402: A transport data packet is reassembled; completion sets TP_RX_FULL, sends End of Message
  Acknowledgement and fires EVT_CAN_TP_RX. -/
  | tpDataTransfer (el : Nat) (ctl : Fin 2) (sa seq : BitVec 8) (data : List Byte)
  /-- TP_RX_ACK, R402: A write of TP_RX_ACK releases the receive transport buffer. -/
  | tpRxAck (el : Nat) (ctl : Fin 2)
  /-- TP_TX_GO, R402: A write of TP_TX_GO sends the transmit buffer as a single frame, BAM, RTS/CTS or ETP. -/
  | tpTxGo (el : Nat) (ctl : Fin 2)
  /-- TP_CTS_RX, R402: A CTS or acknowledgement from the receiver advances or completes a transmit session and sets
  TP_TX_RES. -/
  | tpCtsRx (el : Nat) (ctl : Fin 2) (sa : BitVec 8) (kind : Fin 3) (n : BitVec 8) (next : BitVec 24)
  /-- WHEEL_BASED_SPEED, R403: PGN 65096 from the accepted source gives tractor speed and machine direction to the
  pose engine. -/
  | wheelBasedSpeed (el : Nat) (ctl : Fin 2) (sa : BitVec 8) (speed : BitVec 16) (dir : BitVec 2)
  /-- GROUND_BASED_SPEED, R403: PGN 65097 from the accepted source gives tractor speed to the pose engine. -/
  | groundBasedSpeed (el : Nat) (ctl : Fin 2) (sa : BitVec 8) (speed : BitVec 16)
  /-- GNSS_POSITION_DATA, R404: PGN 129029, reassembled from fast packets, gives a position solution with a covariance
  formed from HDOP. -/
  | gnssPositionData (el : Nat) (ctl : Fin 2) (sa : BitVec 8) (lat lon h : Int) (method : BitVec 4) (hdop : BitVec 16)
  /-- COG_SOG_RAPID_UPDATE, R404: PGN 129026 gives horizontal velocity, paired with the newest 129029 within 200 ms. -/
  | cogSogRapidUpdate (el : Nat) (ctl : Fin 2) (sa : BitVec 8) (cog sog : BitVec 16)
  /-- LATENCY, R413: A received LATENCY frame yields per-pulse latency records for sampling and painting, or discards
  stale ones. -/
  | latency (el : Nat) (bus : Fin 4) (node : Fin 64) (data : List Byte)
  /-- STATUS, R414: A received STATUS frame updates the node's readback and returns a LOST node to READY. -/
  | status (el : Nat) (bus : Fin 4) (node : Fin 64) (data : List Byte)
  /-- FAULT, R415: A received FAULT frame is gathered for the tick's storm coalescer. -/
  | fault (el : Nat) (bus : Fin 4) (node : Fin 64) (data : List Byte)
  /-- CONFIG_ACK, R420: A received CONFIG_ACK reports each key's status and completes enrolment to READY when keys 1
  to 4 are accepted. -/
  | configAck (el : Nat) (bus : Fin 4) (node : Fin 64) (data : List Byte)
  /-- ENROL_REQ, R419: An ENROL_REQ is answered with ADDR_ASSIGN for a known UID, or adds the UID to the new-node
  list. -/
  | enrolReq (el : Nat) (bus : Fin 4) (data : List Byte)
  /-- BEACON_RX, R443: An active module receiving a BEACON of another UNIT fires EVT_PAIR_DUAL and, as UNIT 1, goes to
  SEEK. -/
  | beaconRx (el : Nat) (bus : Fin 4) (unit : Fin 2)
  /-- NODE_LOST, R421: A READY node silent for 3 × STAT_DIV ticks becomes LOST and fires EVT_CAN_NODE_LOST. -/
  | nodeLost (el : Nat) (bus : Fin 4) (node : Fin 64)
  /-- POLL_GO, R426: A write of POLL_GO sends POLL to POLL_NODE. -/
  | pollGo (el : Nat) (bus : Fin 4) (node : BitVec 6)
  /-- NEW_NEXT, R426: A write of NEW_NEXT removes the oldest entry of the new-node list. -/
  | newNext (el : Nat) (bus : Fin 4)
  /-- BUS_SUPPLY_CLEAR, R423: BUS_SUPPLY clears after 2 s without a SUPPLY-class code from the bus. -/
  | busSupplyClear (el : Nat) (bus : Fin 4)
  /-- BUS_LOAD, R425: Every second the device measures each bus's load into LOAD_LAST and fires EVT_CAN_LOAD above
  50%. -/
  | busLoad (el : Nat) (ctl : Fin 6) (pct : Fin 101)
  /-- TS, R429: Received training sets drive link training from CONFIG to UP and fire EVT_KSP_LINK_UP. -/
  | ts (el : Nat) (port : Fin 2) (locked : BitVec 4) (width : BitVec 3) (endCode : BitVec 2) (cols : Nat)
  /-- LANE_LOCK, R429: Block lock on lanes moves training from LOCK to DESKEW and CONFIG. -/
  | laneLock (el : Nat) (port : Fin 2) (lane : Fin 4)
  /-- LANE_LOCK_LOSS, R429: 16 invalid sync headers within 64 blocks on a lane start a retrain. -/
  | laneLockLoss (el : Nat) (port : Fin 2) (lane : Fin 4)
  /-- TRAIN_TIMEOUT, R429: No UP within 100 ms counts TRAIN_FAIL and restarts training from LOCK. -/
  | trainTimeout (el : Nat) (port : Fin 2)
  /-- RETRAIN, R452: A write of 1 to RETRAIN starts a retrain of the port. -/
  | retrain (el : Nat) (port : Fin 2)
  /-- LINK_DOWN, R435: A retrain not UP within 50 ms discards partial messages, resets credits and sequence, counts
  DOWN_CNT and fires EVT_KSP_LINK_DOWN. -/
  | linkDown (el : Nat) (port : Fin 2)
  /-- DATA_PACKET, R434: A received DATA packet is accepted in order, or discarded with NAK on a check or sequence
  failure. -/
  | dataPacket (el : Nat) (port : Fin 2) (bytes : List Byte)
  /-- LINK_PACKET, R432: A received LINK packet updates acknowledgement and credit and replays from ACK_SEQ + 1 on
  NAK. -/
  | linkPacket (el : Nat) (port : Fin 2) (ack : BitVec 12) (nak : Bool) (c0 c1 c2 c3 c4 : BitVec 16)
  /-- LINK_KEEPALIVE, R432: A port sends a LINK packet at least every 100 µs while the link is idle. -/
  | linkKeepalive (el : Nat) (port : Fin 2)
  /-- LINK_SILENCE, R432: No LINK packet for 1 ms while UP starts a retrain. -/
  | linkSilence (el : Nat) (port : Fin 2)
  /-- REG_WR, R437: A REG_WR message writes its words in consecutive fabric cycles and is answered by REG_RSP. -/
  | regWr (el : Nat) (port : Fin 2) (tag : BitVec 8) (noinc : Bool) (addr : BitVec 24) (ws : List Word)
  /-- REG_RD, R437: A REG_RD message reads its words in consecutive fabric cycles and returns them in REG_RSP. -/
  | regRd (el : Nat) (port : Fin 2) (tag : BitVec 8) (noinc : Bool) (addr : BitVec 24) (n1 : BitVec 6)
  /-- TIMESYNC_RX, R445: A TIMESYNC received on KSP1 updates PT_OFS and PT_RATE of a module that is not the first
  active. -/
  | timesyncRx (el : Nat) (tx echoTx echoRx : BitVec 64)
  /-- HELLO, R441: A received HELLO is checked for consistency and settles the pairing roles, or sets PAIR_ERR and
  fires EVT_PAIR_REFUSED. -/
  | hello (el : Nat) (h : HelloMsg)
  /-- HELLO_SEND, R441: HELLO is sent at LINK UP and every 100 ms until the pairing state has settled. -/
  | helloSend (el : Nat)
  /-- PAIR_WAIT_EXPIRY, R440: No partner within PAIR_WAIT moves a SEEK module to LISTEN. -/
  | pairWaitExpiry (el : Nat)
  /-- BEACON_LISTEN_EXPIRY, R440: No beacon heard for BEACON_LISTEN moves a LISTEN module to ALONE. -/
  | beaconListenExpiry (el : Nat)
  /-- MIRROR_RX, R447: A received MIRROR gives the standby's commit its point states, paint, latencies, config and
  tiles, or completes a join snapshot. -/
  | mirrorRx (el : Nat) (m : MirrorMsg)
  /-- MIRROR_STALE, R449: No MIRROR message for MIRROR_STALE clears SYNCED. -/
  | mirrorStale (el : Nat)
  /-- HEARTBEAT_EDGE, R450: An edge on PAIR_HB_IN counts as a heartbeat from the partner. -/
  | heartbeatEdge (el : Nat) (held : Nat)
  /-- ROLE_SWAP, R451: A write of ROLE_SWAP starts a handover, naming a handover tick 8 ticks ahead. -/
  | roleSwap (el : Nat) (byPartner : Bool)
  /-- RETURN_HOLD_EXPIRY, R451: A STANDBY with PREF_ACTIVE and RETURN_EN SYNCED for RETURN_HOLD starts a handover. -/
  | returnHoldExpiry (el : Nat) (byPartner : Bool)
  /-- WR, R470: An HSPI WR frame writes its words to ascending addresses after its CRC passes and returns a status
  byte. -/
  | wr (el : Nat) (quad : Bool) (addr : BitVec 24) (ws : List Word) (crc : BitVec 16)
  /-- RD, R470: An HSPI RD frame reads its words from ascending addresses after its header CRC passes. -/
  | rd (el : Nat) (quad : Bool) (addr : BitVec 24) (len : BitVec 8) (crc : BitVec 16)
  /-- WR_NOINC, R470: An HSPI WR_NOINC frame writes every word to ADDR. -/
  | wrNoinc (el : Nat) (quad : Bool) (addr : BitVec 24) (ws : List Word) (crc : BitVec 16)
  /-- RD_NOINC, R470: An HSPI RD_NOINC frame reads every word from ADDR. -/
  | rdNoinc (el : Nat) (quad : Bool) (addr : BitVec 24) (len : BitVec 8) (crc : BitVec 16)
  /-- HSPI_ABORT, R472: A frame cut short by a rise of HSPI_CS_N has no effect and is counted. -/
  | hspiAbort (el : Nat)
  /-- KEY, R462: Writes to KEY unlock the page on 0x5A then 0xA5 within 16 cycles, or lock it on any other value. -/
  | key (el : Nat) (a : BitVec 24) (v : BitVec 8)
  /-- LOCK_TIMEOUT, R462: An unlocked page locks again 1,000 ms after it unlocked. -/
  | lockTimeout (el : Nat) (a : BitVec 24)
  /-- SOFT_RST, R460: A write of 1 to SOFT_RST returns the page's RW and RWS fields to reset values. -/
  | softRst (el : Nat) (a : BitVec 24)
  /-- FREEZE, R461: Setting FREEZE holds the page's RO readings; clearing it returns live values. -/
  | freeze (el : Nat) (a : BitVec 24) (on_ : Bool)
  /-- UPD_HOLD, R463: Setting UPD_HOLD holds the page's pending RWS values, globally for the SYS page, until cleared. -/
  | updHold (el : Nat) (a : BitVec 24) (on_ : Bool)
  /-- DISCARD, R464: A write of 1 to DISCARD drops every pending RWS value of the page and its regions. -/
  | discard (el : Nat) (a : BitVec 24)
  /-- RATE_LIMIT_END, R478: At the end of RL_MS, held-back firings of an event are delivered once with the newest
  EDATA. -/
  | rateLimitEnd (el : Nat) (e : BitVec 8)
  /-- PEND_CLEAR, R479: A write of 1 to a PEND bit clears it and its RAW bit. -/
  | pendClear (el : Nat) (a : BitVec 24) (mask : Word)
  /-- START, R482: A write of START sets a check unit's STATE to INIT. -/
  | start (el : Nat) (n : Fin 8)
  /-- DATA_IN, R483: A write to DATA_IN feeds FEED_W bits of the word into the check unit. -/
  | dataIn (el : Nat) (n : Fin 8) (w : Word)
  /-- STATE_WRITE, R484: A write of STATE_LO applies the held STATE_HI and STATE_LO together. -/
  | stateWrite (el : Nat) (n : Fin 8) (lo : Word)
  /-- DMA_GO, R485: A write of DMA_GO starts feeding DMA_LEN bytes from DMA_SRC, or is refused with DMA_ERR. -/
  | dmaGo (el : Nat) (n : Fin 8)
  /-- DMA_ABORT, R485: A write of DMA_ABORT stops the feed after the current byte. -/
  | dmaAbort (el : Nat) (n : Fin 8)
  /-- DMA_DONE, R485: The DMA feed completes and EVT_CRC_DONE fires with value 0. -/
  | dmaDone (el : Nat) (n : Fin 8)
  /-- VBAT_START, R500: VBAT at or above VSTART for 1 ms moves the device from OFF to KINDLE. -/
  | vbatStart (el : Nat) (mv : BitVec 16) (held : Nat)
  /-- POWER_ON_RESET, R503: VBAT below VRST for 20 µs takes the device to OFF with a power-on reset. -/
  | powerOnReset (el : Nat) (mv : BitVec 16) (held : Nat)
  /-- KINDLE, R507: After a power-on or system reset the device verifies firmware, loads the image and handshakes the
  power dies. -/
  | kindle (el : Nat) (vbat va vb vc vd : BitVec 16)
  /-- HOST_WAIT_EXPIRY, R512: At the end of HOST_WAIT without a host the device selects AUTONOMOUS or PLAIN and fires
  EVT_PWR_MODE. -/
  | hostWaitExpiry (el : Nat)
  /-- MODE_REQ, R514: MODE_REQ moves the device to HOST or AUTONOMOUS at the next commit. -/
  | modeReq (el : Nat) (m : BitVec 2)
  /-- DIM_ENTRY, R494: VBAT falling below VWARN in LIT enters DIM, starts an undervoltage episode and sheds marked
  switches. -/
  | dimEntry (el : Nat) (mv : BitVec 16) (held : Nat)
  /-- DIM_END, R495: VBAT at or above VWARN + 300 mV for 10 ms returns DIM to LIT, logs the episode and fires
  EVT_PWR_DIM_END. -/
  | dimEnd (el : Nat) (mv low : BitVec 16) (held : Nat)
  /-- DIM_MAX, R496: DIM lasting longer than DIM_MAX enters SNUFFED with cause DIM_MAX. -/
  | dimMax (el : Nat)
  /-- EPISODE_UPDATE, R497: Every 100 ms during an undervoltage episode the lowest VBAT is written to MRAM. -/
  | episodeUpdate (el : Nat) (mv : BitVec 16)
  /-- BANK_SUSPEND, R499: VPWR_k below VBANK_UV or above the overvoltage level suspends the bank and fires
  EVT_PWR_BANK_SUSP. -/
  | bankSuspend (el : Nat) (bank : Fin 4) (mv : BitVec 16) (held : Nat)
  /-- BANK_RESUME, R499: At the release condition the bank resumes and EVT_PWR_BANK_OK fires. -/
  | bankResume (el : Nat) (bank : Fin 4) (mv : BitVec 16) (held : Nat)
  /-- VBAT_OVERVOLTAGE, R493: VBAT rising above 40 V sets VBAT_OV, reported only. -/
  | vbatOvervoltage (el : Nat) (mv : BitVec 16) (held : Nat)
  /-- SNS5V_FAULT, R491: A SNS5V load above 450 mA for 1 ms switches the output off, sets SNS5V_FLT and fires
  EVT_PWR_SNS5V. -/
  | sns5vFault (el : Nat) (ma : BitVec 10) (held : Nat)
  /-- SNS5V_RETRY, R491: Every 100 ms after a fault the device retries SNS5V and clears SNS5V_FLT when it holds for 10
  ms. -/
  | sns5vRetry (el : Nat) (ma : BitVec 10) (held : Nat)
  /-- SNUFF_REQ, R501: A write of SNUFF_REQ enters SNUFFED with cause HOST. -/
  | snuffReq (el : Nat)
  /-- SNUFF_CLR, R501: SNUFF_CLR in HOST mode leaves SNUFFED at the next commit once every cause has gone. -/
  | snuffClr (el : Nat)
  /-- OT_WARN, R502: The logic-die temperature rising through OT_WARN fires EVT_PWR_OVERTEMP. -/
  | otWarn (el : Nat) (t : BitVec 10)
  /-- OVERTEMP, R502: The logic die at 150 °C enters SNUFFED with cause OVERTEMP. -/
  | overtemp (el : Nat) (t : BitVec 10)
  /-- RESET_N_FALL, R503: RESET_N low for 1 µs starts a logic-die reset. -/
  | resetNFall (el : Nat) (held : Nat)
  /-- RESET_N_LONG, R503: RESET_N still low 10 ms after its fall turns the reset into a system reset and outputs take
  their snuff states. -/
  | resetNLong (el : Nat)
  /-- RESET_N_RISE, R503: The rise of RESET_N begins the Relight or KINDLE that follows the reset. -/
  | resetNRise (el : Nat)
  /-- SYSTEM_RESET, R503: RST_CMD = 0xD1 causes a system reset, with outputs in snuff states, unless refused while a
  point is on. -/
  | systemReset (el : Nat)
  /-- LOGIC_DIE_RESET, R503: RST_CMD = 0xE7 causes a logic-die reset with the power dies holding their outputs, unless
  refused while a point is on. -/
  | logicDieReset (el : Nat)
  /-- RELIGHT, R515: After a logic-die reset the device checks its state, adopts the power dies and resumes within 8
  ms. -/
  | relight (el : Nat) (checks readback : Bool)
  /-- EMBER_REQ, R518: A write of EMBER_REQ asks the device to enter EMBER from LIT or SNUFFED in HOST or AUTONOMOUS
  mode. -/
  | emberReq (el : Nat)
  /-- IGNITION_OFF, R518: IGN_GIN at the key-off level for EMBER_DELAY asks the device to enter EMBER. -/
  | ignitionOff (el : Nat)
  /-- EMBER_ENTRY, R519: The device commits all points off, closes the field, saves CAL, stops its blocks and power
  dies, and enters EMBER. -/
  | emberEntry (el : Nat)
  /-- EMBER_WAKE, R521: Key-on, a fall of HSPI_CS_N, a CAN0 or CAN1 frame or EMBER_TIMER wakes the device into KINDLE. -/
  | emberWake (el : Nat) (src : Fin 4)
  /-- CFG_STORE, R522: A write of 1 to CFG_STORE writes the configuration image in the background. -/
  | cfgStore (el : Nat)
  /-- CFG_ERASE, R522: A write of 1 to CFG_ERASE invalidates the configuration image. -/
  | cfgErase (el : Nat)
  /-- FW_PUSH, R523: FW_PUSH writes 1 KB of FW_BUF into the staged bank at FW_OFS, or is refused while a trial runs. -/
  | fwPush (el : Nat)
  /-- FW_ACTIVATE, R524: FW_ACTIVATE verifies the staged bank in the background and sets FW_PENDING or FW_ERR. -/
  | fwActivate (el : Nat)
  /-- FW_CONFIRM, R525: FW_CONFIRM within FW_TRIAL makes the trial bank the running bank. -/
  | fwConfirm (el : Nat)
  /-- FW_TRIAL_EXPIRY, R525: At the end of FW_TRIAL the trial bank is confirmed in hostless modes, or fails and the
  previous bank boots at the next KINDLE. -/
  | fwTrialExpiry (el : Nat)
  /-- TOKEN_REFILL, R532: Each bucket gains one token every TB_PERIOD up to TB_BURST. -/
  | tokenRefill (el : Nat) (bucket : Fin 514)
  /-- TRIGGER_SET_CHANGE, R529: A change to a trigger set's list or SNAP_N increments TS_GEN and stages a TSET_DEF
  record before its next use. -/
  | triggerSetChange (el : Nat) (set : Fin 32) (entry : Option (Fin 64)) (v : BitVec 24)
  /-- RD_OFS, R534: A write of RD_OFS copies the record at that offset into REC_WIN if it passes its CRC. -/
  | rdOfs (el : Nat) (ofs : BitVec 21)
  /-- RD_STREAM, R534: A write of RD_STREAM sends every record from RD_OFS to WR_PTR on KSP0 VC4, ending with a
  stream-end message. -/
  | rdStream (el : Nat)
  /-- LOG_CLR, R535: An accepted LOG_CLR aborts a stream, records the change, discards the log, increments LOG_GEN and
  writes a CLEARED record. -/
  | logClr (el : Nat) (path : Fin 3)
  /-- REC_TRIG, R528: A write of REC_TRIG writes a MANUAL record with trigger set TRIG_SEL. -/
  | recTrig (el : Nat)
  /-- COUNTED_WRITE, R537: A write to a counted field is checked against the change conditions and refused, or starts
  the counted act. -/
  | countedWrite (el : Nat) (path : Fin 3) (idx : Fin 12) (v : Word)
  /-- COUNTED_CHANGE_DONE, R539: The counted act completes: new value, count and history are in MRAM, CNT_BUSY clears
  and EVT_CNT_CHANGE fires. -/
  | countedChangeDone (el : Nat)
  /-- HIST_N, R546: A write of HIST_N fills the history entry of that change of setting HIST_SET. -/
  | histN (el : Nat) (n : BitVec 8)
  /-- T_GO, R541: T_GO queues a test request in the lowest free slot, runs or refuses it by class, or sets Q_FULL. -/
  | tGo (el : Nat)
  /-- TEST_START, R542: A waiting intrusive test starts at a window opening that leaves its target idle. -/
  | testStart (el : Nat) (slot : Fin 16)
  /-- TEST_WAIT_MAX, R541: A channel-intrusive request not started within TEST_WAIT_MAX ends DEFERRED and fires
  EVT_TST_DEFERRED. -/
  | testWaitMax (el : Nat) (slot : Fin 16)
  /-- TEST_DONE, R544: A finished test reports STATUS and RESULT in its slot and fires EVT_TST_DONE or EVT_TST_FAIL. -/
  | testDone (el : Nat) (slot : Fin 16) (pass : Bool) (detail : Word)
  /-- AUTO_PER, R544: Every AUTO_PER seconds the tests selected by AUTO_MASK run again without a slot. -/
  | autoPer (el : Nat) (fails : BitVec 5)
  /-- LOGIC_DIE_BELOW_OT_WARN, R501: The logic-die temperature falling below OT_WARN ends the OVERTEMP cause and
  clears its bit in SNUFF_CAUSES. -/
  | logicDieBelowOtWarn (el : Nat) (t : BitVec 10)
  /-- ANT_OK, R226: Bias current rising to ANT_OPEN_MA or above sets ANT_STATE OK and fires EVT_GNSS_ANT. -/
  | antOk (el : Nat) (ma : BitVec 6)
  /-- CARRIER_PHASE_LOCK, R229: A channel in CODE_LOCK that locks carrier phase enters PHASE_LOCK, with carrier phase
  valid and navigation data demodulated. -/
  | carrierPhaseLock (el : Nat) (ch : Fin 128)
  /-- NEXT_WHOLE_GPS_SECOND, R251: At the next whole GPS second the mapping is stepped by −E, and a new TPO_RATE takes
  effect. -/
  | nextWholeGpsSecond (el : Nat)
  /-- MIN_ON_END, R307: At pulse start plus MIN_ON, an early off command that fell sooner takes effect, ending drive
  with TRUNCATED and STRETCHED set. -/
  | minOnEnd (el : Nat) (ch : Fin 32)
  /-- END_DECAY_DONE, R310: A channel's end decay finishes or its current falls below 50 mA, so it stops counting in
  the group load and the power die re-evaluates waiting starts. -/
  | endDecayDone (el : Nat) (ch : Fin 32)
  /-- SAFE_N_RISE, R356: SAFE_N returning high clears SAFE_LEVEL and starts the 10 ms count of the AUTO release. -/
  | safeNRise (el : Nat)
  /-- TRIP_DEASSERT, R379: A filtered trip input going inactive clears its TRIP_LEVEL bit, so a held group can be
  released at a later period boundary. -/
  | tripDeassert (el : Nat) (inp : Fin 4) (held : Nat)
  /-- BUS_ERROR, R426: An error on a CAN bus changes TEC or REC_ERR and moves CAN_STATE between ERROR_ACTIVE,
  ERROR_PASSIVE and BUS_OFF. -/
  | busError (el : Nat) (ctl : Fin 6) (tec : BitVec 9) (rec : BitVec 8)
  /-- SHADE_END, R424: SHADE_TIME after a Shade began, the Shade on the bus ends, SHADE_ACT clears and a new Shade may
  start. -/
  | shadeEnd (el : Nat) (bus : Fin 4)
  /-- ABD_MEASURE_DONE, R397: After 64 edges have been measured, bit-rate detection leaves MEASURE for TRY with the
  nearest candidate. -/
  | abdMeasureDone (el : Nat) (ctl : Fin 6) (ns : Nat)
  /-- LANE_LOCK_WAIT_EXPIRY, R429: With lane 0 locked and 10 ms passed in LOCK, the port moves to DESKEW without the
  other lanes. -/
  | laneLockWaitExpiry (el : Nat) (port : Fin 2)
  /-- TILE_PUT, R448: A standby acting as the partner store receives a TILE_PUT and keeps it, passes it to its home,
  or answers TILE_NAK when no slot is found. -/
  | tilePut (el : Nat) (m : TileMsgIn)
  /-- TILE_REQUEST_RX, R448: A device receives a TILE_REQ on KSP1 VC1, as partner store or for a standby's repair or
  join, and answers it as a store would. -/
  | tileRequestRx (el : Nat) (m : TileMsgIn)
  /-- EMBER_FLUSH_MAX_EXPIRY, R519: If COV has not reached CLOSED within EMBER_FLUSH_MAX at entry into EMBER, it
  abandons the field and the entry continues. -/
  | emberFlushMaxExpiry (el : Nat)
  /-- FW_PUSH_DONE, R523: A staged firmware push reaches MRAM and FW_BUSY clears. -/
  | fwPushDone (el : Nat)
  /-- FW_VERIFY_DONE, R524: The background verification of the staged bank completes, setting FW_PENDING or reporting
  FW_ERR. -/
  | fwVerifyDone (el : Nat)
  /-- STREAM_END, R534: A log stream reaches WR_PTR, sends its TYPE 0x61 end message with status complete and
  STREAMING clears. -/
  | streamEnd (el : Nat)
  /-- CMD_ERR_FRAME, R467: An HSPI frame with an unknown command code, or with QUAD while QUAD_EN is clear, returns
  CMD_ERR and has no other effect. -/
  | cmdErrFrame (el : Nat) (cmd : BitVec 8)
  deriving DecidableEq, Repr, Inhabited

end Sys2Proof
end

