-- ==== Sys2Proof/Config.lean ====
section
/-! DEFINITION. What one device fixes, and the free values: constants without a body, so that no proof sees a value. -/

namespace Sys2Proof

/-- The free value drawn at position `k` of the run's sequence: every value the spec leaves open is one of these,
narrowed to its width where it is stored (log entry 2). -/
opaque Config.free : Nat → Nat

/-- Whether the part is a VQ1024-X9 (R7): DEV_ID.GRADE reads 9 then, and 7 otherwise (R60, Table 01.20). -/
opaque Config.gradeX9 : Bool

/-- The CRC-32 of a configuration image by its contents (R509, R522): the spec does not give the image's layout
(log entry 11). -/
opaque Config.imageCrc : List (Nat × Nat) → List Int → Nat

/-- What the boot logic's verification finds of a firmware bank by its number and content (R507, R524): 0 verified, 1
SIGNATURE, 3 FORMAT; the spec gives neither the key nor the layout of the header (log entry 22). -/
opaque Config.fwCheck : Nat → List (Nat × Nat) → Nat

/-- FW_VER in the header of a firmware bank by its number and content (R507). -/
opaque Config.fwVersion : Nat → List (Nat × Nat) → Nat

/-- The phase T1 to T5, as 0 to 4, that runs in a tick so long after its edge, by tick count and time (R42, Table 01.9): what
the phases take is the device's own (log entry 36). -/
opaque Config.phaseAt : Nat → Nat → Fin 5

/-- The standard deviation with which the fusion filter starts in its error of this number, in that error's unit (R206; log entry 125). -/
opaque Config.poseSigma : Nat → Nat

/-- The noise density, per square root of a second, with which an error of the fusion filter walks beside GYRO_ND and ACC_ND, in INERTIAL
(false) or KINEMATIC mode, by the number of the error (R206, R216; log entry 125). -/
opaque Config.poseWalk : Bool → Nat → Nat

/-- The bias current in mA that the antenna draws when its bias is switched on, by instant (R226): the spec does not give what an antenna
draws (log entry 131). -/
opaque Config.antCurrent : Nat → BitVec 6

/-- The GRADE code of DEV_ID (Table 01.20). -/
def Config.grade : Nat := if Config.gradeX9 then 9 else 7

end Sys2Proof
end

