-- ==== Sys2Proof/Machine/Field.lean ====
section
/-! DEFINITION. What a register field is (R17, R19, R24), the page map (R455), the regions outside the pages (R456),
and the event numbers with their default priorities (R475). -/

namespace Sys2Proof.Machine

/-- Access codes of Table 00.5 (R19). -/
inductive Access where
  | ro | rw | wo | w1c | rws | rwl | rwc
  deriving DecidableEq, Repr, Inhabited

/-- Takes-effect values of Table 00.6 (R24); `none` is the dash of a field the host cannot write. -/
inductive Effect where
  | none | now | tick | pulse | period | restart
  deriving DecidableEq, Repr, Inhabited

/-- One register field: word address, lowest bit, width, reset value, access code, takes-effect value (R17). -/
structure Field where
  addr : Nat
  lo : Nat
  width : Nat
  reset : Nat
  acc : Access
  eff : Effect
  deriving DecidableEq, Repr, Inhabited

/-- The key of a field in the register maps: its word address and lowest bit. -/
def Field.key (f : Field) : Nat := 32 * f.addr + f.lo

/-- Whether a page of Table 14.1 starts at base `b` (R455). -/
def isPage (b : Nat) : Bool :=
  b % 0x1000 == 0 &&
  (b < 0x007000 || (0x010000 ≤ b && b < 0x018000) || (0x030000 ≤ b && b < 0x03A000) || (0x040000 ≤ b && b < 0x04D000) ||
   (0x050000 ≤ b && b < 0x058000) || (0x060000 ≤ b && b < 0x066000) || (0x070000 ≤ b && b < 0x073000) ||
   (0x078000 ≤ b && b < 0x081000))

/-- BLOCK code in PG_ID of the page at base `b` (Table 14.1). -/
def pageBlock (b : Nat) : Nat :=
  if b < 0x007000 then 1 + b / 0x1000
  else if b < 0x018000 then 0x10
  else if b < 0x03A000 then 0x11 + (b - 0x030000) / 0x1000
  else if b < 0x048000 then 0x20
  else if b < 0x04A000 then 0x21
  else if b < 0x04D000 then 0x22 + (b - 0x04A000) / 0x1000
  else if b < 0x058000 then 0x25
  else if b < 0x066000 then 0x30
  else if b < 0x072000 then 0x31
  else if b < 0x073000 then 0x32
  else if b < 0x080000 then 0x33
  else 0x40

/-- INSTANCE in PG_ID of the page at base `b` (Table 14.3). -/
def pageInstance (b : Nat) : Nat :=
  if 0x010000 ≤ b && b < 0x018000 then (b - 0x010000) / 0x1000
  else if 0x040000 ≤ b && b < 0x048000 then (b - 0x040000) / 0x1000
  else if b == 0x049000 then 1
  else if 0x050000 ≤ b && b < 0x058000 then (b - 0x050000) / 0x1000
  else if 0x060000 ≤ b && b < 0x066000 then (b - 0x060000) / 0x1000
  else if b == 0x071000 then 1
  else if 0x078000 ≤ b && b < 0x080000 then (b - 0x078000) / 0x1000
  else 0

/-- The pages on which PG_EN acts (R459, Table 14.4). -/
def pageHasEn (b : Nat) : Bool :=
  b == 0x034000 || b == 0x035000 || b == 0x038000 || b == 0x039000 || (0x060000 ≤ b && b < 0x066000) ||
  b == 0x070000 || b == 0x071000 || (0x050000 ≤ b && b < 0x058000) || (0x078000 ≤ b && b < 0x080000)

/-- The page that holds and discards the shadowed values of address `a`: its own page, or the page Table 14.2 names
for a region outside the pages (R456). -/
def shadowPage (a : Nat) : Nat :=
  if 0x020000 ≤ a && a < 0x030000 then 0x010000
  else if a < 0x400000 then a / 0x1000 * 0x1000
  else if a < 0x440000 then 0x033000
  else if a < 0x450000 then 0x040000
  else if a < 0x460000 then 0x038000
  else 0x062000 + 0x1000 * ((a - 0x460000) / 0x200)

/-- All page bases of Table 14.1, in rising order. -/
def pageBases : List Nat :=
  (List.range 7).map (0x1000 * ·) ++ (List.range 8).map (0x010000 + 0x1000 * ·) ++
  (List.range 10).map (0x030000 + 0x1000 * ·) ++ (List.range 13).map (0x040000 + 0x1000 * ·) ++
  (List.range 8).map (0x050000 + 0x1000 * ·) ++ (List.range 6).map (0x060000 + 0x1000 * ·) ++
  (List.range 3).map (0x070000 + 0x1000 * ·) ++ (List.range 9).map (0x078000 + 0x1000 * ·)

/-! ### Event numbers (R475, Table 14.8) -/

/-- Event number of EVT_SYS_TICK_OVERRUN, Table 14.8. -/
def EVT.SYS_TICK_OVERRUN : Nat := 0
/-- Event number of EVT_SYS_TICK_DEGRADED, Table 14.8. -/
def EVT.SYS_TICK_DEGRADED : Nat := 1
/-- Event number of EVT_SYS_PHASE_BUDGET, Table 14.8. -/
def EVT.SYS_PHASE_BUDGET : Nat := 2
/-- Event number of EVT_SYS_RATE_REFUSED, Table 14.8. -/
def EVT.SYS_RATE_REFUSED : Nat := 3
/-- Event number of EVT_SYS_LOCKSTEP, Table 14.8. -/
def EVT.SYS_LOCKSTEP : Nat := 4
/-- Event number of EVT_SYS_ECC_UE, Table 14.8. -/
def EVT.SYS_ECC_UE : Nat := 5
/-- Event number of EVT_PWR_DIM, Table 14.8. -/
def EVT.PWR_DIM : Nat := 8
/-- Event number of EVT_PWR_DIM_END, Table 14.8. -/
def EVT.PWR_DIM_END : Nat := 9
/-- Event number of EVT_PWR_DIM_MAX, Table 14.8. -/
def EVT.PWR_DIM_MAX : Nat := 10
/-- Event number of EVT_PWR_BANK_SUSP, Table 14.8. -/
def EVT.PWR_BANK_SUSP : Nat := 11
/-- Event number of EVT_PWR_BANK_OK, Table 14.8. -/
def EVT.PWR_BANK_OK : Nat := 12
/-- Event number of EVT_PWR_SNUFFED, Table 14.8. -/
def EVT.PWR_SNUFFED : Nat := 13
/-- Event number of EVT_PWR_RELIGHT, Table 14.8. -/
def EVT.PWR_RELIGHT : Nat := 14
/-- Event number of EVT_PWR_MODE, Table 14.8. -/
def EVT.PWR_MODE : Nat := 15
/-- Event number of EVT_PWR_FW_ROLLBACK, Table 14.8. -/
def EVT.PWR_FW_ROLLBACK : Nat := 16
/-- Event number of EVT_PWR_SNS5V, Table 14.8. -/
def EVT.PWR_SNS5V : Nat := 17
/-- Event number of EVT_PWR_OVERTEMP, Table 14.8. -/
def EVT.PWR_OVERTEMP : Nat := 18
/-- Event number of EVT_EVH_OVERFLOW, Table 14.8. -/
def EVT.EVH_OVERFLOW : Nat := 20
/-- Event number of EVT_HIF_CRC_ERR, Table 14.8. -/
def EVT.HIF_CRC_ERR : Nat := 21
/-- Event number of EVT_HIF_ADDR_ERR, Table 14.8. -/
def EVT.HIF_ADDR_ERR : Nat := 22
/-- Event number of EVT_WDG_SAFE, Table 14.8. -/
def EVT.WDG_SAFE : Nat := 24
/-- Event number of EVT_WDG_ERROR, Table 14.8. -/
def EVT.WDG_ERROR : Nat := 25
/-- Event number of EVT_WDG_EXPIRED, Table 14.8. -/
def EVT.WDG_EXPIRED : Nat := 26
/-- Event number of EVT_REC_FULL, Table 14.8. -/
def EVT.REC_FULL : Nat := 28
/-- Event number of EVT_REC_RATE_LIMIT, Table 14.8. -/
def EVT.REC_RATE_LIMIT : Nat := 29
/-- Event number of EVT_CNT_CHANGE, Table 14.8. -/
def EVT.CNT_CHANGE : Nat := 30
/-- Event number of EVT_CNT_FROZEN, Table 14.8. -/
def EVT.CNT_FROZEN : Nat := 31
/-- Event number of EVT_TST_DONE, Table 14.8. -/
def EVT.TST_DONE : Nat := 32
/-- Event number of EVT_TST_DEFERRED, Table 14.8. -/
def EVT.TST_DEFERRED : Nat := 33
/-- Event number of EVT_TST_REFUSED, Table 14.8. -/
def EVT.TST_REFUSED : Nat := 34
/-- Event number of EVT_TST_FAIL, Table 14.8. -/
def EVT.TST_FAIL : Nat := 35
/-- Event number of EVT_GEO_NOT_WORKING, Table 14.8. -/
def EVT.GEO_NOT_WORKING : Nat := 40
/-- Event number of EVT_GEO_SWAY_CLAMP, Table 14.8. -/
def EVT.GEO_SWAY_CLAMP : Nat := 41
/-- Event number of EVT_GEO_SENSOR_STALE, Table 14.8. -/
def EVT.GEO_SENSOR_STALE : Nat := 42
/-- Event number of EVT_GEO_SEG_REFUSED, Table 14.8. -/
def EVT.GEO_SEG_REFUSED : Nat := 43
/-- Event number of EVT_GEO_BIND_REFUSED, Table 14.8. -/
def EVT.GEO_BIND_REFUSED : Nat := 44
/-- Event number of EVT_COV_TILE_MISS, Table 14.8. -/
def EVT.COV_TILE_MISS : Nat := 48
/-- Event number of EVT_COV_TILE_CRC, Table 14.8. -/
def EVT.COV_TILE_CRC : Nat := 49
/-- Event number of EVT_COV_FIELD_ABORT, Table 14.8. -/
def EVT.COV_FIELD_ABORT : Nat := 50
/-- Event number of EVT_TPL_STORE_FAIL, Table 14.8. -/
def EVT.TPL_STORE_FAIL : Nat := 52
/-- Event number of EVT_TPL_DISCARD, Table 14.8. -/
def EVT.TPL_DISCARD : Nat := 53
/-- Event number of EVT_TPL_FLUSH_DONE, Table 14.8. -/
def EVT.TPL_FLUSH_DONE : Nat := 54
/-- Event number of EVT_DEC_LAT_RESET, Table 14.8. -/
def EVT.DEC_LAT_RESET : Nat := 56
/-- Event number of EVT_DEC_POSE_POLICY, Table 14.8. -/
def EVT.DEC_POSE_POLICY : Nat := 57
/-- Event number of EVT_DEC_HOLD_EXPIRED, Table 14.8. -/
def EVT.DEC_HOLD_EXPIRED : Nat := 58
/-- Event number of EVT_RATE_TABLE_INVALID, Table 14.8. -/
def EVT.RATE_TABLE_INVALID : Nat := 60
/-- Event number of EVT_RATE_FB_LOSS, Table 14.8. -/
def EVT.RATE_FB_LOSS : Nat := 61
/-- Event number of EVT_RATE_DEVIATION, Table 14.8. -/
def EVT.RATE_DEVIATION : Nat := 62
/-- Event number of EVT_RATE_PH_CONFLICT, Table 14.8. -/
def EVT.RATE_PH_CONFLICT : Nat := 63
/-- Event number of EVT_RATE_CFG_REFUSED, Table 14.8. -/
def EVT.RATE_CFG_REFUSED : Nat := 64
/-- Event number of EVT_POSE_CLASS, Table 14.8. -/
def EVT.POSE_CLASS : Nat := 72
/-- Event number of EVT_POSE_ALIGNED, Table 14.8. -/
def EVT.POSE_ALIGNED : Nat := 73
/-- Event number of EVT_POSE_GNSS_EXCL, Table 14.8. -/
def EVT.POSE_GNSS_EXCL : Nat := 74
/-- Event number of EVT_POSE_ODO_EXCL, Table 14.8. -/
def EVT.POSE_ODO_EXCL : Nat := 75
/-- Event number of EVT_POSE_REANCHOR, Table 14.8. -/
def EVT.POSE_REANCHOR : Nat := 76
/-- Event number of EVT_POSE_STEP, Table 14.8. -/
def EVT.POSE_STEP : Nat := 77
/-- Event number of EVT_POSE_IMU_LOST, Table 14.8. -/
def EVT.POSE_IMU_LOST : Nat := 78
/-- Event number of EVT_POSE_IMU_SWITCH, Table 14.8. -/
def EVT.POSE_IMU_SWITCH : Nat := 79
/-- Event number of EVT_POSE_RANGE, Table 14.8. -/
def EVT.POSE_RANGE : Nat := 80
/-- Event number of EVT_SSP_STALE, Table 14.8. -/
def EVT.SSP_STALE : Nat := 84
/-- Event number of EVT_SSP_CFG_REFUSED, Table 14.8. -/
def EVT.SSP_CFG_REFUSED : Nat := 85
/-- Event number of EVT_GNSS_ANT, Table 14.8. -/
def EVT.GNSS_ANT : Nat := 88
/-- Event number of EVT_GNSS_SOL_TYPE, Table 14.8. -/
def EVT.GNSS_SOL_TYPE : Nat := 89
/-- Event number of EVT_GNSS_RTCM_ERR, Table 14.8. -/
def EVT.GNSS_RTCM_ERR : Nat := 90
/-- Event number of EVT_GNSS_CORR_AGE, Table 14.8. -/
def EVT.GNSS_CORR_AGE : Nat := 91
/-- Event number of EVT_TIME_STATUS, Table 14.8. -/
def EVT.TIME_STATUS : Nat := 92
/-- Event number of EVT_TIME_STEP, Table 14.8. -/
def EVT.TIME_STEP : Nat := 93
/-- Event number of EVT_TIME_LEAP, Table 14.8. -/
def EVT.TIME_LEAP : Nat := 94
/-- Event number of EVT_GRID_TILE_DROP, Table 14.8. -/
def EVT.GRID_TILE_DROP : Nat := 96
/-- Event number of EVT_GRID_LATE, Table 14.8. -/
def EVT.GRID_LATE : Nat := 97
/-- Event number of EVT_GRID_WIN_FULL, Table 14.8. -/
def EVT.GRID_WIN_FULL : Nat := 98
/-- Event number of EVT_GRID_NET_REFUSED, Table 14.8. -/
def EVT.GRID_NET_REFUSED : Nat := 99
/-- Event number of EVT_GRID_MODE, Table 14.8. -/
def EVT.GRID_MODE : Nat := 100
/-- Event number of EVT_GRID_SRC_SUSPECT, Table 14.8. -/
def EVT.GRID_SRC_SUSPECT : Nat := 101
/-- Event number of EVT_GRID_SRC_OK, Table 14.8. -/
def EVT.GRID_SRC_OK : Nat := 102
/-- Event number of EVT_CAL_OUT_OF_BOUNDS, Table 14.8. -/
def EVT.CAL_OUT_OF_BOUNDS : Nat := 104
/-- Event number of EVT_CAL_CONVERGED, Table 14.8. -/
def EVT.CAL_CONVERGED : Nat := 105
/-- Event number of EVT_IDC_PROFILE, Table 14.8. -/
def EVT.IDC_PROFILE : Nat := 112
/-- Event number of EVT_IDC_CONT_EXCESS, Table 14.8. -/
def EVT.IDC_CONT_EXCESS : Nat := 113
/-- Event number of EVT_IDC_KINK_LOST, Table 14.8. -/
def EVT.IDC_KINK_LOST : Nat := 114
/-- Event number of EVT_IDC_FAULT, Table 14.8. -/
def EVT.IDC_FAULT : Nat := 115
/-- Event number of EVT_IDC_GRP_LATCH, Table 14.8. -/
def EVT.IDC_GRP_LATCH : Nat := 116
/-- Event number of EVT_LSW_FAULT, Table 14.8. -/
def EVT.LSW_FAULT : Nat := 120
/-- Event number of EVT_LSW_LATCH, Table 14.8. -/
def EVT.LSW_LATCH : Nat := 121
/-- Event number of EVT_LSW_BANK_PEAK, Table 14.8. -/
def EVT.LSW_BANK_PEAK : Nat := 122
/-- Event number of EVT_LSW_SHED, Table 14.8. -/
def EVT.LSW_SHED : Nat := 123
/-- Event number of EVT_LSW_CFG_REFUSED, Table 14.8. -/
def EVT.LSW_CFG_REFUSED : Nat := 124
/-- Event number of EVT_TRIP_ASSERT, Table 14.8. -/
def EVT.TRIP_ASSERT : Nat := 128
/-- Event number of EVT_FBK_INDEX_MISMATCH, Table 14.8. -/
def EVT.FBK_INDEX_MISMATCH : Nat := 130
/-- Event number of EVT_FBK_SUSPECT, Table 14.8. -/
def EVT.FBK_SUSPECT : Nat := 131
/-- Event number of EVT_FBK_SSI_ERR, Table 14.8. -/
def EVT.FBK_SSI_ERR : Nat := 132
/-- Event number of EVT_GIN_CHANGE, Table 14.8. -/
def EVT.GIN_CHANGE : Nat := 134
/-- Event number of EVT_CAN_ABD, Table 14.8. -/
def EVT.CAN_ABD : Nat := 136
/-- Event number of EVT_CAN_ADDR, Table 14.8. -/
def EVT.CAN_ADDR : Nat := 137
/-- Event number of EVT_CAN_TP_RX, Table 14.8. -/
def EVT.CAN_TP_RX : Nat := 138
/-- Event number of EVT_CAN_NODE_NEW, Table 14.8. -/
def EVT.CAN_NODE_NEW : Nat := 139
/-- Event number of EVT_CAN_NODE_LOST, Table 14.8. -/
def EVT.CAN_NODE_LOST : Nat := 140
/-- Event number of EVT_CAN_NODE_FAULT, Table 14.8. -/
def EVT.CAN_NODE_FAULT : Nat := 141
/-- Event number of EVT_CAN_BUS_SUPPLY, Table 14.8. -/
def EVT.CAN_BUS_SUPPLY : Nat := 142
/-- Event number of EVT_CAN_LOAD, Table 14.8. -/
def EVT.CAN_LOAD : Nat := 143
/-- Event number of EVT_KSP_LINK_UP, Table 14.8. -/
def EVT.KSP_LINK_UP : Nat := 152
/-- Event number of EVT_KSP_LINK_DOWN, Table 14.8. -/
def EVT.KSP_LINK_DOWN : Nat := 153
/-- Event number of EVT_KSP_WIDTH, Table 14.8. -/
def EVT.KSP_WIDTH : Nat := 154
/-- Event number of EVT_KSP_ERR, Table 14.8. -/
def EVT.KSP_ERR : Nat := 155
/-- Event number of EVT_PAIR_STATE, Table 14.8. -/
def EVT.PAIR_STATE : Nat := 160
/-- Event number of EVT_PAIR_REFUSED, Table 14.8. -/
def EVT.PAIR_REFUSED : Nat := 161
/-- Event number of EVT_PAIR_DUAL, Table 14.8. -/
def EVT.PAIR_DUAL : Nat := 162
/-- Event number of EVT_PAIR_PATH, Table 14.8. -/
def EVT.PAIR_PATH : Nat := 163
/-- Event number of EVT_PAIR_TAKEOVER, Table 14.8. -/
def EVT.PAIR_TAKEOVER : Nat := 164
/-- Event number of EVT_CRC_DONE, Table 14.8. -/
def EVT.CRC_DONE : Nat := 168

/-- Event numbers with their default priority, in rising order (Table 14.8). -/
def evtPrioTable : List (Nat × Nat) :=
  [(0, 2), (1, 3), (2, 1), (3, 1), (4, 3), (5, 3), (8, 2), (9, 1), (10, 3), (11, 2), (12, 1), (13, 3),
   (14, 2), (15, 1), (16, 2), (17, 2), (18, 2), (20, 1), (21, 1), (22, 1), (24, 3), (25, 2), (26, 3), (28, 2),
   (29, 1), (30, 1), (31, 2), (32, 0), (33, 1), (34, 1), (35, 2), (40, 1), (41, 1), (42, 2), (43, 1), (44, 1),
   (48, 1), (49, 2), (50, 2), (52, 2), (53, 2), (54, 0), (56, 1), (57, 2), (58, 2), (60, 1), (61, 2), (62, 1),
   (63, 1), (64, 1), (72, 1), (73, 0), (74, 1), (75, 1), (76, 1), (77, 1), (78, 2), (79, 2), (80, 2), (84, 2),
   (85, 1), (88, 2), (89, 1), (90, 1), (91, 1), (92, 1), (93, 1), (94, 0), (96, 1), (97, 1), (98, 1), (99, 1),
   (100, 1), (101, 2), (102, 1), (104, 2), (105, 0), (112, 1), (113, 2), (114, 1), (115, 2), (116, 2), (120, 2), (121, 2),
   (122, 1), (123, 1), (124, 1), (128, 2), (130, 1), (131, 2), (132, 1), (134, 0), (136, 0), (137, 2), (138, 0), (139, 1),
   (140, 2), (141, 1), (142, 2), (143, 1), (152, 0), (153, 2), (154, 1), (155, 1), (160, 1), (161, 2), (162, 3), (163, 2),
   (164, 3), (168, 0)]

/-- Default priority of event `e` (R477): 0 for a number that Table 14.8 does not list. -/
def evtPrioDefault (e : Nat) : Nat := ((evtPrioTable.find? (fun x => x.1 == e)).map (·.2)).getD 0

/-- Reset value of REC_ROUTE of event `e`: set for events of priority 2 and 3 (R477). -/
def evtRecDefault (e : Nat) : Nat := if 2 ≤ evtPrioDefault e then 1 else 0

/-- For each block: the first page base and the range of its event numbers in Table 14.8. -/
def evtBlocks : List (Nat × Nat × Nat) :=
  [(0x000000, 0, 5), (0x001000, 8, 18), (0x002000, 20, 20), (0x080000, 21, 22), (0x003000, 24, 26), (0x004000, 28, 29),
   (0x005000, 30, 31), (0x006000, 32, 35), (0x010000, 40, 44), (0x030000, 48, 50), (0x031000, 52, 54), (0x032000, 56, 58),
   (0x033000, 60, 64), (0x034000, 72, 80), (0x037000, 84, 85), (0x035000, 88, 91), (0x036000, 92, 94), (0x038000, 96, 102),
   (0x039000, 104, 105), (0x040000, 112, 116), (0x048000, 120, 124), (0x04B000, 128, 128), (0x050000, 130, 132), (0x04C000, 134, 134),
   (0x060000, 136, 143), (0x070000, 152, 155), (0x072000, 160, 164), (0x078000, 168, 168)]

/-- The page base and bit on which event `e` about instance `inst` appears (R458, R474): the page of the instance
where the block has one page per instance, the first or second LSW page by switch number, else the first page. -/
def evtPage (e inst : Nat) : Nat × Nat :=
  match evtBlocks.find? (fun x => x.2.1 ≤ e && e ≤ x.2.2) with
  | none => (0x002000, 0)
  | some (b, lo, _) =>
    ((if b == 0x010000 then b + 0x1000 * (if e == 44 then 0 else inst % 8)
      else if b == 0x040000 then b + 0x1000 * (if e == 116 then inst % 8 else if e == 112 then 0 else inst / 4 % 8)
      else if b == 0x048000 then b + 0x1000 * (if e == 122 then 0 else inst / 8 % 2)
      else if b == 0x050000 then b + 0x1000 * (inst % 8)
      else if b == 0x060000 then b + 0x1000 * (if e == 139 || e == 140 || e == 141 then 2 + inst / 64 % 4 else inst % 6)
      else if b == 0x070000 then b + 0x1000 * (inst % 2)
      else if b == 0x078000 then b + 0x1000 * (inst % 8)
      else b), e - lo)

end Sys2Proof.Machine
end

