-- ==== Sys2Proof/Machine/Layout.lean ====
section
/-! DEFINITION. The register space: one `Field` for every field of the spec's register tables, with its address,
bits, access code, reset value and takes-effect value (R17), and `fieldsAt`, the fields of one word (R454 to R456). -/

namespace Sys2Proof.Machine

/-! ### SYS page (R60, Tables 01.8 to 01.20) -/

/-- SYS TICK_RATE, R60. -/
def SYS.TICK_RATE : Field := ⟨0x000000 + 0x40, 0, 2, 1, .rws, .tick⟩
/-- SYS TICK_DEGRADE_EN, R60. -/
def SYS.TICK_DEGRADE_EN : Field := ⟨0x000000 + 0x40, 4, 1, 0, .rw, .now⟩
/-- SYS TICK_RATE_ACT, R60. -/
def SYS.TICK_RATE_ACT : Field := ⟨0x000000 + 0x44, 0, 2, 1, .ro, .none⟩
/-- SYS DEGRADED, R60. -/
def SYS.DEGRADED : Field := ⟨0x000000 + 0x44, 2, 1, 0, .ro, .none⟩
/-- SYS RATE_REFUSED, R60. -/
def SYS.RATE_REFUSED : Field := ⟨0x000000 + 0x44, 3, 1, 0, .ro, .none⟩
/-- SYS PHASE, R60. -/
def SYS.PHASE : Field := ⟨0x000000 + 0x44, 4, 3, 0, .ro, .none⟩
/-- SYS OVR_RUN, R60. -/
def SYS.OVR_RUN : Field := ⟨0x000000 + 0x44, 8, 2, 0, .ro, .none⟩
/-- SYS TICK_CNT_LO, R60. -/
def SYS.TICK_CNT_LO : Field := ⟨0x000000 + 0x48, 0, 32, 0, .ro, .none⟩
/-- SYS TICK_CNT_HI, R60. -/
def SYS.TICK_CNT_HI : Field := ⟨0x000000 + 0x4c, 0, 16, 0, .ro, .none⟩
/-- SYS DT_LO, R60. -/
def SYS.DT_LO : Field := ⟨0x000000 + 0x50, 0, 32, 0, .ro, .none⟩
/-- SYS DT_HI, R60. -/
def SYS.DT_HI : Field := ⟨0x000000 + 0x54, 0, 32, 0, .ro, .none⟩
/-- SYS TICK_DT_LO, R60. -/
def SYS.TICK_DT_LO : Field := ⟨0x000000 + 0x58, 0, 32, 0, .ro, .none⟩
/-- SYS TICK_DT_HI, R60. -/
def SYS.TICK_DT_HI : Field := ⟨0x000000 + 0x5c, 0, 32, 0, .ro, .none⟩
/-- SYS LAST_COMMIT, R60. -/
def SYS.LAST_COMMIT : Field := ⟨0x000000 + 0x60, 0, 32, 0, .ro, .none⟩
/-- SYS COMMIT_OFS, R60. -/
def SYS.COMMIT_OFS : Field := ⟨0x000000 + 0x64, 0, 20, 0, .ro, .none⟩
/-- SYS OVR_TOTAL, R60. -/
def SYS.OVR_TOTAL : Field := ⟨0x000000 + 0x68, 0, 32, 0, .ro, .none⟩
/-- SYS PH_LAST, R60. -/
def SYS.PH_LAST (k : Nat) : Field := ⟨0x000000 + 0x70 + 0x4 * k, 0, 16, 0, .ro, .none⟩
/-- SYS PH_MAX, R60. -/
def SYS.PH_MAX (k : Nat) : Field := ⟨0x000000 + 0x70 + 0x4 * k, 16, 16, 0, .ro, .none⟩
/-- SYS CLR_MAX, R60. -/
def SYS.CLR_MAX : Field := ⟨0x000000 + 0x84, 0, 1, 0, .wo, .now⟩
/-- SYS PTS_BOUND, R60. -/
def SYS.PTS_BOUND : Field := ⟨0x000000 + 0x88, 0, 11, 0, .ro, .none⟩
/-- SYS RATE_MAX, R60. -/
def SYS.RATE_MAX : Field := ⟨0x000000 + 0x88, 16, 2, 3, .ro, .none⟩
/-- SYS STATE, R60. -/
def SYS.STATE : Field := ⟨0x000000 + 0x8c, 0, 3, 1, .ro, .none⟩
/-- SYS MODE, R60. -/
def SYS.MODE : Field := ⟨0x000000 + 0x8c, 4, 2, 0, .ro, .none⟩
/-- SYS BULK_SHARE, R60. -/
def SYS.BULK_SHARE : Field := ⟨0x000000 + 0x90, 0, 4, 4, .rw, .now⟩
/-- SYS SRAM_CE, R60. -/
def SYS.SRAM_CE : Field := ⟨0x000000 + 0x94, 0, 16, 0, .ro, .none⟩
/-- SYS SRAM_UE, R60. -/
def SYS.SRAM_UE : Field := ⟨0x000000 + 0x94, 16, 8, 0, .ro, .none⟩
/-- SYS MRAM_CE, R60. -/
def SYS.MRAM_CE : Field := ⟨0x000000 + 0x94, 24, 8, 0, .ro, .none⟩
/-- SYS LS_PAIR_A, R60. -/
def SYS.LS_PAIR_A : Field := ⟨0x000000 + 0x98, 0, 8, 0, .ro, .none⟩
/-- SYS LS_PAIR_B, R60. -/
def SYS.LS_PAIR_B : Field := ⟨0x000000 + 0x98, 8, 8, 0, .ro, .none⟩
/-- SYS PART, R60. -/
def SYS.PART : Field := ⟨0x000000 + 0x9c, 0, 16, 0x400, .ro, .none⟩
/-- SYS GRADE, R60. -/
def SYS.GRADE : Field := ⟨0x000000 + 0x9c, 16, 4, Config.grade, .ro, .none⟩
/-- SYS DIE_REV, R60. -/
def SYS.DIE_REV : Field := ⟨0x000000 + 0x9c, 20, 8, 1, .ro, .none⟩

/-! ### Point descriptor n (R74, Table 02.3) -/

/-- PD VALID, R74. -/
def PD.VALID (n : Nat) : Field := ⟨0x020000 + 0x40 * n + 0x0, 0, 1, 0, .rws, .tick⟩
/-- PD KIND, R74. -/
def PD.KIND (n : Nat) : Field := ⟨0x020000 + 0x40 * n + 0x0, 1, 3, 0, .rws, .tick⟩
/-- PD SEG, R74. -/
def PD.SEG (n : Nat) : Field := ⟨0x020000 + 0x40 * n + 0x0, 4, 3, 0, .rws, .tick⟩
/-- PD PRODUCT, R74. -/
def PD.PRODUCT (n : Nat) : Field := ⟨0x020000 + 0x40 * n + 0x0, 8, 3, 0, .rws, .tick⟩
/-- PD SECTION, R74. -/
def PD.SECTION (n : Nat) : Field := ⟨0x020000 + 0x40 * n + 0x0, 12, 7, 0, .rws, .tick⟩
/-- PD SECT_EN, R74. -/
def PD.SECT_EN (n : Nat) : Field := ⟨0x020000 + 0x40 * n + 0x0, 19, 1, 0, .rws, .tick⟩
/-- PD PAINT_SOURCE, R74. -/
def PD.PAINT_SOURCE (n : Nat) : Field := ⟨0x020000 + 0x40 * n + 0x0, 20, 1, 0, .rws, .tick⟩
/-- PD BIND_KIND, R74. -/
def PD.BIND_KIND (n : Nat) : Field := ⟨0x020000 + 0x40 * n + 0x4, 0, 2, 0, .rws, .tick⟩
/-- PD LOCAL_CH, R74. -/
def PD.LOCAL_CH (n : Nat) : Field := ⟨0x020000 + 0x40 * n + 0x4, 8, 5, 0, .rws, .tick⟩
/-- PD BUS, R74. -/
def PD.BUS (n : Nat) : Field := ⟨0x020000 + 0x40 * n + 0x4, 16, 2, 0, .rws, .tick⟩
/-- PD NODE, R74. -/
def PD.NODE (n : Nat) : Field := ⟨0x020000 + 0x40 * n + 0x4, 18, 6, 0, .rws, .tick⟩
/-- PD NODE_PT, R74. -/
def PD.NODE_PT (n : Nat) : Field := ⟨0x020000 + 0x40 * n + 0x4, 24, 4, 0, .rws, .tick⟩
/-- PD OFS_X, R74. -/
def PD.OFS_X (n : Nat) : Field := ⟨0x020000 + 0x40 * n + 0x8, 0, 32, 0, .rws, .tick⟩
/-- PD OFS_Y, R74. -/
def PD.OFS_Y (n : Nat) : Field := ⟨0x020000 + 0x40 * n + 0xc, 0, 32, 0, .rws, .tick⟩
/-- PD OFS_Z, R74. -/
def PD.OFS_Z (n : Nat) : Field := ⟨0x020000 + 0x40 * n + 0x10, 0, 32, 0, .rws, .tick⟩
/-- PD FOOT_W, R74. -/
def PD.FOOT_W (n : Nat) : Field := ⟨0x020000 + 0x40 * n + 0x14, 0, 16, 0, .rws, .tick⟩
/-- PD FOOT_L, R74. -/
def PD.FOOT_L (n : Nat) : Field := ⟨0x020000 + 0x40 * n + 0x14, 16, 16, 0, .rws, .tick⟩
/-- PD FOOT_DX, R74. -/
def PD.FOOT_DX (n : Nat) : Field := ⟨0x020000 + 0x40 * n + 0x18, 0, 16, 0, .rws, .tick⟩
/-- PD FOOT_DY, R74. -/
def PD.FOOT_DY (n : Nat) : Field := ⟨0x020000 + 0x40 * n + 0x18, 16, 16, 0, .rws, .tick⟩
/-- PD LAT_ON_DEF, R74. -/
def PD.LAT_ON_DEF (n : Nat) : Field := ⟨0x020000 + 0x40 * n + 0x1c, 0, 16, 0, .rws, .tick⟩
/-- PD LAT_OFF_DEF, R74. -/
def PD.LAT_OFF_DEF (n : Nat) : Field := ⟨0x020000 + 0x40 * n + 0x1c, 16, 16, 0, .rws, .tick⟩
/-- PD TRANSPORT_DELAY, R74. -/
def PD.TRANSPORT_DELAY (n : Nat) : Field := ⟨0x020000 + 0x40 * n + 0x20, 0, 16, 0, .rws, .tick⟩
/-- PD PROFILE, R74. -/
def PD.PROFILE (n : Nat) : Field := ⟨0x020000 + 0x40 * n + 0x24, 0, 4, 0, .rws, .tick⟩
/-- PD NOZZLE_TBL, R74. -/
def PD.NOZZLE_TBL (n : Nat) : Field := ⟨0x020000 + 0x40 * n + 0x24, 8, 8, 0, .rws, .tick⟩

/-! ### Segment registers of GEOn (R84, Table 02.6) -/

/-- GEO SEG_EN, R84. -/
def GEO.SEG_EN (n : Nat) : Field := ⟨0x010000 + 0x1000 * n + 0x40, 0, 1, 0, .rws, .tick⟩
/-- GEO PARENT, R84. -/
def GEO.PARENT (n : Nat) : Field := ⟨0x010000 + 0x1000 * n + 0x40, 4, 4, 15, .rws, .tick⟩
/-- GEO FOLD_AXIS, R84. -/
def GEO.FOLD_AXIS (n : Nat) : Field := ⟨0x010000 + 0x1000 * n + 0x40, 8, 2, 0, .rws, .tick⟩
/-- GEO FOLD_SRC, R84. -/
def GEO.FOLD_SRC (n : Nat) : Field := ⟨0x010000 + 0x1000 * n + 0x40, 10, 2, 0, .rws, .tick⟩
/-- GEO FOLD_FBK, R84. -/
def GEO.FOLD_FBK (n : Nat) : Field := ⟨0x010000 + 0x1000 * n + 0x40, 12, 3, 0, .rws, .tick⟩
/-- GEO SWAY_EN, R84. -/
def GEO.SWAY_EN (n : Nat) : Field := ⟨0x010000 + 0x1000 * n + 0x40, 15, 1, 0, .rws, .tick⟩
/-- GEO SENS_SSP, R84. -/
def GEO.SENS_SSP (n : Nat) : Field := ⟨0x010000 + 0x1000 * n + 0x40, 16, 2, 0, .rws, .tick⟩
/-- GEO SHAPE, R84. -/
def GEO.SHAPE (n : Nat) : Field := ⟨0x010000 + 0x1000 * n + 0x40, 18, 1, 0, .rws, .tick⟩
/-- GEO MOUNT_X, R84. -/
def GEO.MOUNT_X (n : Nat) : Field := ⟨0x010000 + 0x1000 * n + 0x44, 0, 32, 0, .rws, .tick⟩
/-- GEO MOUNT_Y, R84. -/
def GEO.MOUNT_Y (n : Nat) : Field := ⟨0x010000 + 0x1000 * n + 0x48, 0, 32, 0, .rws, .tick⟩
/-- GEO MOUNT_Z, R84. -/
def GEO.MOUNT_Z (n : Nat) : Field := ⟨0x010000 + 0x1000 * n + 0x4c, 0, 32, 0, .rws, .tick⟩
/-- GEO YAW0, R84. -/
def GEO.YAW0 (n : Nat) : Field := ⟨0x010000 + 0x1000 * n + 0x50, 0, 16, 0, .rws, .tick⟩
/-- GEO ROLL0, R84. -/
def GEO.ROLL0 (n : Nat) : Field := ⟨0x010000 + 0x1000 * n + 0x50, 16, 16, 0, .rws, .tick⟩
/-- GEO PITCH0, R84. -/
def GEO.PITCH0 (n : Nat) : Field := ⟨0x010000 + 0x1000 * n + 0x54, 0, 16, 0, .rws, .tick⟩
/-- GEO FOLD_FIXED, R84. -/
def GEO.FOLD_FIXED (n : Nat) : Field := ⟨0x010000 + 0x1000 * n + 0x54, 16, 16, 0, .rws, .tick⟩
/-- GEO WORK_MIN, R84. -/
def GEO.WORK_MIN (n : Nat) : Field := ⟨0x010000 + 0x1000 * n + 0x58, 0, 16, 0xf8f8, .rws, .tick⟩
/-- GEO WORK_MAX, R84. -/
def GEO.WORK_MAX (n : Nat) : Field := ⟨0x010000 + 0x1000 * n + 0x58, 16, 16, 0x708, .rws, .tick⟩
/-- GEO FOLD_ZERO, R84. -/
def GEO.FOLD_ZERO (n : Nat) : Field := ⟨0x010000 + 0x1000 * n + 0x5c, 0, 32, 0, .rws, .tick⟩
/-- GEO FOLD_GAIN, R84. -/
def GEO.FOLD_GAIN (n : Nat) : Field := ⟨0x010000 + 0x1000 * n + 0x60, 0, 32, 0, .rws, .tick⟩
/-- GEO SWAY_TAU, R84. -/
def GEO.SWAY_TAU (n : Nat) : Field := ⟨0x010000 + 0x1000 * n + 0x64, 0, 16, 2000, .rws, .tick⟩
/-- GEO IMU_DIST, R84. -/
def GEO.IMU_DIST (n : Nat) : Field := ⟨0x010000 + 0x1000 * n + 0x64, 16, 16, 0, .rws, .tick⟩
/-- GEO SWAY_MAX, R84. -/
def GEO.SWAY_MAX (n : Nat) : Field := ⟨0x010000 + 0x1000 * n + 0x68, 0, 16, 500, .rws, .tick⟩
/-- GEO STALE_MAX, R84. -/
def GEO.STALE_MAX (n : Nat) : Field := ⟨0x010000 + 0x1000 * n + 0x68, 16, 8, 20, .rws, .tick⟩
/-- GEO SEG_ACTIVE, R84. -/
def GEO.SEG_ACTIVE (n : Nat) : Field := ⟨0x010000 + 0x1000 * n + 0x6c, 0, 1, 0, .ro, .none⟩
/-- GEO WORKING, R84. -/
def GEO.WORKING (n : Nat) : Field := ⟨0x010000 + 0x1000 * n + 0x6c, 1, 1, 0, .ro, .none⟩
/-- GEO FOLD_STALE, R84. -/
def GEO.FOLD_STALE (n : Nat) : Field := ⟨0x010000 + 0x1000 * n + 0x6c, 2, 1, 0, .ro, .none⟩
/-- GEO SWAY_STALE, R84. -/
def GEO.SWAY_STALE (n : Nat) : Field := ⟨0x010000 + 0x1000 * n + 0x6c, 3, 1, 0, .ro, .none⟩
/-- GEO SWAY_CLAMP, R84. -/
def GEO.SWAY_CLAMP (n : Nat) : Field := ⟨0x010000 + 0x1000 * n + 0x6c, 4, 1, 0, .ro, .none⟩
/-- GEO CFG_ERR, R84. -/
def GEO.CFG_ERR (n : Nat) : Field := ⟨0x010000 + 0x1000 * n + 0x6c, 8, 3, 0, .ro, .none⟩
/-- GEO FOLD_ACT, R84. -/
def GEO.FOLD_ACT (n : Nat) : Field := ⟨0x010000 + 0x1000 * n + 0x6c, 16, 16, 0, .ro, .none⟩
/-- GEO SWAY_ACT, R84. -/
def GEO.SWAY_ACT (n : Nat) : Field := ⟨0x010000 + 0x1000 * n + 0x70, 0, 16, 0, .ro, .none⟩
/-- GEO PT_COUNT, R84. -/
def GEO.PT_COUNT (n : Nat) : Field := ⟨0x010000 + 0x1000 * n + 0x74, 0, 11, 0, .ro, .none⟩

/-! ### Point readback, binding status and field origin of GEO0 (R84, Table 02.7) -/

/-- GEOP PT_IDX, R84. -/
def GEOP.PT_IDX : Field := ⟨0x010000 + 0x80, 0, 10, 0, .rw, .now⟩
/-- GEOP PT_X, R84. -/
def GEOP.PT_X : Field := ⟨0x010000 + 0x84, 0, 32, 0, .ro, .none⟩
/-- GEOP PT_Y, R84. -/
def GEOP.PT_Y : Field := ⟨0x010000 + 0x88, 0, 32, 0, .ro, .none⟩
/-- GEOP PT_Z, R84. -/
def GEOP.PT_Z : Field := ⟨0x010000 + 0x8c, 0, 32, 0, .ro, .none⟩
/-- GEOP PT_VE, R84. -/
def GEOP.PT_VE : Field := ⟨0x010000 + 0x90, 0, 16, 0, .ro, .none⟩
/-- GEOP PT_VN, R84. -/
def GEOP.PT_VN : Field := ⟨0x010000 + 0x90, 16, 16, 0, .ro, .none⟩
/-- GEOP TRAVEL_HDG, R84. -/
def GEOP.TRAVEL_HDG : Field := ⟨0x010000 + 0x94, 0, 16, 0, .ro, .none⟩
/-- GEOP STR_HDG, R84. -/
def GEOP.STR_HDG : Field := ⟨0x010000 + 0x94, 16, 16, 0, .ro, .none⟩
/-- GEOP PT_SPD, R84. -/
def GEOP.PT_SPD : Field := ⟨0x010000 + 0x98, 0, 16, 0, .ro, .none⟩
/-- GEOP REVERSE, R84. -/
def GEOP.REVERSE : Field := ⟨0x010000 + 0x98, 16, 1, 0, .ro, .none⟩
/-- GEOP GEO_VALID, R84. -/
def GEOP.GEO_VALID : Field := ⟨0x010000 + 0x98, 17, 1, 0, .ro, .none⟩
/-- GEOP PT_TICK, R84. -/
def GEOP.PT_TICK : Field := ⟨0x010000 + 0x9c, 0, 32, 0, .ro, .none⟩
/-- GEOP ERR_PT, R84. -/
def GEOP.ERR_PT : Field := ⟨0x010000 + 0xa0, 0, 10, 0, .ro, .none⟩
/-- GEOP ERR_CODE, R84. -/
def GEOP.ERR_CODE : Field := ⟨0x010000 + 0xa0, 12, 4, 0, .ro, .none⟩
/-- GEOP ERR_COUNT, R84. -/
def GEOP.ERR_COUNT : Field := ⟨0x010000 + 0xa0, 16, 16, 0, .ro, .none⟩
/-- GEOP ORG_LAT, R84. -/
def GEOP.ORG_LAT : Field := ⟨0x010000 + 0xb0, 0, 32, 0, .rwl, .tick⟩
/-- GEOP ORG_LON, R84. -/
def GEOP.ORG_LON : Field := ⟨0x010000 + 0xb4, 0, 32, 0, .rwl, .tick⟩
/-- GEOP ORG_H, R84. -/
def GEOP.ORG_H : Field := ⟨0x010000 + 0xb8, 0, 32, 0, .rwl, .tick⟩

/-! ### COV page (R132, Table 03.14) -/

/-- COV CELL_SIZE, R132. -/
def COV.CELL_SIZE : Field := ⟨0x030000 + 0x40, 0, 2, 1, .rws, .tick⟩
/-- COV FIELD_ID, R132. -/
def COV.FIELD_ID : Field := ⟨0x030000 + 0x44, 0, 32, 0, .rws, .tick⟩
/-- COV FIELD_CMD, R132. -/
def COV.FIELD_CMD : Field := ⟨0x030000 + 0x48, 0, 2, 0, .wo, .tick⟩
/-- COV FIELD_STATE, R132. -/
def COV.FIELD_STATE : Field := ⟨0x030000 + 0x4c, 0, 2, 0, .ro, .none⟩
/-- COV CELL_SIZE_ACT, R132. -/
def COV.CELL_SIZE_ACT : Field := ⟨0x030000 + 0x4c, 2, 2, 1, .ro, .none⟩
/-- COV CMD_IGNORED, R132. -/
def COV.CMD_IGNORED : Field := ⟨0x030000 + 0x4c, 4, 1, 0, .ro, .none⟩
/-- COV CONF_WAIT, R132. -/
def COV.CONF_WAIT : Field := ⟨0x030000 + 0x50, 0, 11, 200, .rws, .tick⟩
/-- COV MISS_POLICY, R132. -/
def COV.MISS_POLICY : Field := ⟨0x030000 + 0x54, 0, 16, 0, .rws, .tick⟩
/-- COV RX_EN, R132. -/
def COV.RX_EN : Field := ⟨0x030000 + 0x58, 0, 8, 0, .rws, .tick⟩
/-- COV RX_MISS_IDX0, R132. -/
def COV.RX_MISS_IDX0 : Field := ⟨0x030000 + 0x5c, 0, 32, 0, .rws, .tick⟩
/-- COV RX_MISS_IDX1, R132. -/
def COV.RX_MISS_IDX1 : Field := ⟨0x030000 + 0x60, 0, 32, 0, .rws, .tick⟩
/-- COV CONF_NONE, R132. -/
def COV.CONF_NONE : Field := ⟨0x030000 + 0x64, 0, 16, 0, .ro, .none⟩
/-- COV FIELD_ID_ACT, R132. -/
def COV.FIELD_ID_ACT : Field := ⟨0x030000 + 0x68, 0, 32, 0, .ro, .none⟩
/-- COV MISS_CNT, R132. -/
def COV.MISS_CNT : Field := ⟨0x030000 + 0x70, 0, 32, 0, .ro, .none⟩
/-- COV CONF_TIMEOUTS, R132. -/
def COV.CONF_TIMEOUTS : Field := ⟨0x030000 + 0x74, 0, 16, 0, .ro, .none⟩
/-- COV PAINT_CMD_FALLBACK, R132. -/
def COV.PAINT_CMD_FALLBACK : Field := ⟨0x030000 + 0x74, 16, 11, 0, .ro, .none⟩
/-- COV TILES_DISCARDED, R132. -/
def COV.TILES_DISCARDED : Field := ⟨0x030000 + 0x78, 0, 16, 0, .ro, .none⟩
/-- COV PAINT_LOST, R132. -/
def COV.PAINT_LOST : Field := ⟨0x030000 + 0x78, 16, 16, 0, .ro, .none⟩
/-- COV JNL_USED, R132. -/
def COV.JNL_USED : Field := ⟨0x030000 + 0x7c, 0, 12, 0, .ro, .none⟩
/-- COV JNL_MAX, R132. -/
def COV.JNL_MAX : Field := ⟨0x030000 + 0x7c, 16, 12, 0, .ro, .none⟩
/-- COV PEEK_X, R132. -/
def COV.PEEK_X : Field := ⟨0x030000 + 0x80, 0, 32, 0, .rw, .now⟩
/-- COV PEEK_Y, R132. -/
def COV.PEEK_Y : Field := ⟨0x030000 + 0x84, 0, 32, 0, .wo, .now⟩
/-- COV PEEK_CELL, R132. -/
def COV.PEEK_CELL : Field := ⟨0x030000 + 0x88, 0, 4, 0, .ro, .none⟩
/-- COV PEEK_RX, R132. -/
def COV.PEEK_RX : Field := ⟨0x030000 + 0x88, 8, 8, 0, .ro, .none⟩
/-- COV PEEK_RES, R132. -/
def COV.PEEK_RES : Field := ⟨0x030000 + 0x88, 16, 1, 0, .ro, .none⟩
/-- COV PEEK_RX_RES, R132. -/
def COV.PEEK_RX_RES : Field := ⟨0x030000 + 0x88, 17, 1, 0, .ro, .none⟩

/-! ### TPL page (R133, Table 03.15) -/

/-- TPL STORE_SEL, R133. -/
def TPL.STORE_SEL : Field := ⟨0x031000 + 0x40, 0, 2, 0, .rw, .now⟩
/-- TPL STORE_READY, R133. -/
def TPL.STORE_READY : Field := ⟨0x031000 + 0x40, 2, 1, 0, .rw, .now⟩
/-- TPL PF_TIME, R133. -/
def TPL.PF_TIME : Field := ⟨0x031000 + 0x40, 8, 8, 100, .rw, .now⟩
/-- TPL PF_MARGIN, R133. -/
def TPL.PF_MARGIN : Field := ⟨0x031000 + 0x40, 16, 8, 20, .rw, .now⟩
/-- TPL FETCH_MAX, R133. -/
def TPL.FETCH_MAX : Field := ⟨0x031000 + 0x40, 24, 5, 16, .rw, .now⟩
/-- TPL REQ_TIMEOUT, R133. -/
def TPL.REQ_TIMEOUT : Field := ⟨0x031000 + 0x44, 0, 16, 200, .rw, .now⟩
/-- TPL WB_INTERVAL, R133. -/
def TPL.WB_INTERVAL : Field := ⟨0x031000 + 0x44, 16, 8, 10, .rw, .now⟩
/-- TPL RETRY_MAX, R133. -/
def TPL.RETRY_MAX : Field := ⟨0x031000 + 0x44, 24, 4, 3, .rw, .now⟩
/-- TPL STORE_ACT, R133. -/
def TPL.STORE_ACT : Field := ⟨0x031000 + 0x48, 0, 2, 3, .ro, .none⟩
/-- TPL STORE_OK, R133. -/
def TPL.STORE_OK : Field := ⟨0x031000 + 0x48, 2, 1, 0, .ro, .none⟩
/-- TPL RES_COV, R133. -/
def TPL.RES_COV : Field := ⟨0x031000 + 0x48, 8, 9, 0, .ro, .none⟩
/-- TPL RES_RX, R133. -/
def TPL.RES_RX : Field := ⟨0x031000 + 0x48, 17, 6, 0, .ro, .none⟩
/-- TPL PROV_CNT, R133. -/
def TPL.PROV_CNT : Field := ⟨0x031000 + 0x48, 23, 9, 0, .ro, .none⟩
/-- TPL DIRTY_CNT, R133. -/
def TPL.DIRTY_CNT : Field := ⟨0x031000 + 0x4c, 0, 9, 0, .ro, .none⟩
/-- TPL REQ_NAKS, R133. -/
def TPL.REQ_NAKS : Field := ⟨0x031000 + 0x4c, 16, 16, 0, .ro, .none⟩
/-- TPL FETCH_CNT, R133. -/
def TPL.FETCH_CNT : Field := ⟨0x031000 + 0x50, 0, 32, 0, .ro, .none⟩
/-- TPL PUT_CNT, R133. -/
def TPL.PUT_CNT : Field := ⟨0x031000 + 0x54, 0, 32, 0, .ro, .none⟩
/-- TPL PIN_TX, R133. -/
def TPL.PIN_TX : Field := ⟨0x031000 + 0x60, 0, 16, 0, .rw, .now⟩
/-- TPL PIN_TY, R133. -/
def TPL.PIN_TY : Field := ⟨0x031000 + 0x60, 16, 16, 0, .rw, .now⟩
/-- TPL PIN_LAYER, R133. -/
def TPL.PIN_LAYER : Field := ⟨0x031000 + 0x64, 0, 4, 0, .rw, .now⟩
/-- TPL PIN_CMD, R133. -/
def TPL.PIN_CMD : Field := ⟨0x031000 + 0x64, 4, 2, 0, .wo, .now⟩
/-- TPL PIN_FULL, R133. -/
def TPL.PIN_FULL : Field := ⟨0x031000 + 0x64, 6, 1, 0, .ro, .none⟩
/-- TPL SLOT_IDX, R133. -/
def TPL.SLOT_IDX : Field := ⟨0x031000 + 0x70, 0, 9, 0, .rw, .now⟩
/-- TPL SLOT_TX, R133. -/
def TPL.SLOT_TX : Field := ⟨0x031000 + 0x74, 0, 16, 0, .ro, .none⟩
/-- TPL SLOT_TY, R133. -/
def TPL.SLOT_TY : Field := ⟨0x031000 + 0x74, 16, 16, 0, .ro, .none⟩
/-- TPL SLOT_STATE, R133. -/
def TPL.SLOT_STATE : Field := ⟨0x031000 + 0x78, 0, 3, 0, .ro, .none⟩
/-- TPL SLOT_PIN, R133. -/
def TPL.SLOT_PIN : Field := ⟨0x031000 + 0x78, 3, 1, 0, .ro, .none⟩
/-- TPL SLOT_LAYER, R133. -/
def TPL.SLOT_LAYER : Field := ⟨0x031000 + 0x78, 4, 4, 0, .ro, .none⟩
/-- TPL SLOT_GEN, R133. -/
def TPL.SLOT_GEN : Field := ⟨0x031000 + 0x78, 16, 16, 0, .ro, .none⟩
/-- TPL SLOT_CRC, R133. -/
def TPL.SLOT_CRC : Field := ⟨0x031000 + 0x7c, 0, 32, 0, .ro, .none⟩

/-! ### DEC page (R166, Table 04.8) -/

/-- DEC AUTO_EN, R166. -/
def DEC.AUTO_EN : Field := ⟨0x032000 + 0x40, 0, 8, 0, .rws, .tick⟩
/-- DEC MASTER_SRC, R166. -/
def DEC.MASTER_SRC : Field := ⟨0x032000 + 0x40, 8, 2, 0, .rws, .tick⟩
/-- DEC MASTER_GIN, R166. -/
def DEC.MASTER_GIN : Field := ⟨0x032000 + 0x40, 10, 5, 16, .rws, .tick⟩
/-- DEC MASTER_POL, R166. -/
def DEC.MASTER_POL : Field := ⟨0x032000 + 0x40, 15, 1, 0, .rws, .tick⟩
/-- DEC MASTER_ON, R166. -/
def DEC.MASTER_ON : Field := ⟨0x032000 + 0x40, 16, 1, 0, .rws, .tick⟩
/-- DEC MASTER_ACT, R166. -/
def DEC.MASTER_ACT : Field := ⟨0x032000 + 0x44, 0, 1, 0, .ro, .none⟩
/-- DEC POSE_CLASS, R166. -/
def DEC.POSE_CLASS : Field := ⟨0x032000 + 0x44, 1, 3, 0, .ro, .none⟩
/-- DEC BELOW_MIN, R166. -/
def DEC.BELOW_MIN : Field := ⟨0x032000 + 0x44, 4, 8, 0, .ro, .none⟩
/-- DEC HOLD_ACT, R166. -/
def DEC.HOLD_ACT : Field := ⟨0x032000 + 0x44, 12, 8, 0, .ro, .none⟩
/-- DEC HOLD_EXP, R166. -/
def DEC.HOLD_EXP : Field := ⟨0x032000 + 0x44, 20, 8, 0, .ro, .none⟩
/-- DEC EDGE_CNT, R166. -/
def DEC.EDGE_CNT : Field := ⟨0x032000 + 0x48, 0, 32, 0, .ro, .none⟩
/-- DEC MISS_APPLIED_CNT, R166. -/
def DEC.MISS_APPLIED_CNT : Field := ⟨0x032000 + 0x4c, 0, 16, 0, .ro, .none⟩
/-- DEC CHAT_HOLD_CNT, R166. -/
def DEC.CHAT_HOLD_CNT : Field := ⟨0x032000 + 0x4c, 16, 16, 0, .ro, .none⟩
/-- DEC LAT_REJECTS, R166. -/
def DEC.LAT_REJECTS : Field := ⟨0x032000 + 0x50, 0, 16, 0, .ro, .none⟩
/-- DEC LAT_RESETS, R166. -/
def DEC.LAT_RESETS : Field := ⟨0x032000 + 0x50, 16, 16, 0, .ro, .none⟩
/-- DEC SAMPLE_CNT, R166. -/
def DEC.SAMPLE_CNT : Field := ⟨0x032000 + 0x54, 0, 32, 0, .ro, .none⟩
/-- DEC OVL_FRAC, R166. -/
def DEC.OVL_FRAC (p : Nat) : Field := ⟨0x032000 + 0x80 + 0x10 * p, 0, 7, 50, .rws, .tick⟩
/-- DEC OVL_EN, R166. -/
def DEC.OVL_EN (p : Nat) : Field := ⟨0x032000 + 0x80 + 0x10 * p, 7, 1, 1, .rws, .tick⟩
/-- DEC BND_FRAC, R166. -/
def DEC.BND_FRAC (p : Nat) : Field := ⟨0x032000 + 0x80 + 0x10 * p, 8, 7, 50, .rws, .tick⟩
/-- DEC BND_EN, R166. -/
def DEC.BND_EN (p : Nat) : Field := ⟨0x032000 + 0x80 + 0x10 * p, 15, 1, 1, .rws, .tick⟩
/-- DEC HEAD_FRAC, R166. -/
def DEC.HEAD_FRAC (p : Nat) : Field := ⟨0x032000 + 0x80 + 0x10 * p, 16, 7, 50, .rws, .tick⟩
/-- DEC ZRX_EN, R166. -/
def DEC.ZRX_EN (p : Nat) : Field := ⟨0x032000 + 0x80 + 0x10 * p, 23, 1, 1, .rws, .tick⟩
/-- DEC HEAD_POLICY, R166. -/
def DEC.HEAD_POLICY (p : Nat) : Field := ⟨0x032000 + 0x80 + 0x10 * p, 24, 2, 0, .rws, .tick⟩
/-- DEC SPOT_EN, R166. -/
def DEC.SPOT_EN (p : Nat) : Field := ⟨0x032000 + 0x80 + 0x10 * p, 26, 1, 0, .rws, .tick⟩
/-- DEC MIN_ON_DIST, R166. -/
def DEC.MIN_ON_DIST (p : Nat) : Field := ⟨0x032000 + 0x84 + 0x10 * p, 0, 16, 300, .rws, .tick⟩
/-- DEC MIN_OFF_DIST, R166. -/
def DEC.MIN_OFF_DIST (p : Nat) : Field := ⟨0x032000 + 0x84 + 0x10 * p, 16, 16, 300, .rws, .tick⟩
/-- DEC POSE_MIN, R166. -/
def DEC.POSE_MIN (p : Nat) : Field := ⟨0x032000 + 0x88 + 0x10 * p, 0, 3, 2, .rws, .tick⟩
/-- DEC POSE_POLICY, R166. -/
def DEC.POSE_POLICY (p : Nat) : Field := ⟨0x032000 + 0x88 + 0x10 * p, 3, 2, 0, .rws, .tick⟩
/-- DEC HOLD_MAX, R166. -/
def DEC.HOLD_MAX (p : Nat) : Field := ⟨0x032000 + 0x88 + 0x10 * p, 8, 8, 20, .rws, .tick⟩
/-- DEC LAT_ALPHA_SH, R166. -/
def DEC.LAT_ALPHA_SH (p : Nat) : Field := ⟨0x032000 + 0x88 + 0x10 * p, 16, 3, 3, .rws, .tick⟩
/-- DEC LAT_GATE, R166. -/
def DEC.LAT_GATE (p : Nat) : Field := ⟨0x032000 + 0x88 + 0x10 * p, 20, 7, 50, .rws, .tick⟩
/-- DEC MIN_SPEED, R166. -/
def DEC.MIN_SPEED (p : Nat) : Field := ⟨0x032000 + 0x8c + 0x10 * p, 0, 16, 139, .rws, .tick⟩
/-- DEC LAT_TC_ON, R166. -/
def DEC.LAT_TC_ON (p : Nat) : Field := ⟨0x032000 + 0x8c + 0x10 * p, 16, 8, 0, .rws, .tick⟩
/-- DEC LAT_TC_OFF, R166. -/
def DEC.LAT_TC_OFF (p : Nat) : Field := ⟨0x032000 + 0x8c + 0x10 * p, 24, 8, 0, .rws, .tick⟩
/-- DEC SECT_VOTE, R166. -/
def DEC.SECT_VOTE (s : Nat) : Field := ⟨0x032000 + 0x200 + 0x4 * s, 0, 2, 0, .rws, .tick⟩
/-- DEC SECT_FRAC, R166. -/
def DEC.SECT_FRAC (s : Nat) : Field := ⟨0x032000 + 0x200 + 0x4 * s, 2, 7, 50, .rws, .tick⟩
/-- DEC SECT_LEAD_EN, R166. -/
def DEC.SECT_LEAD_EN (s : Nat) : Field := ⟨0x032000 + 0x200 + 0x4 * s, 9, 1, 0, .rws, .tick⟩
/-- DEC SECT_LEAD, R166. -/
def DEC.SECT_LEAD (s : Nat) : Field := ⟨0x032000 + 0x200 + 0x4 * s, 10, 10, 0, .rws, .tick⟩
/-- DEC SECT_LEAD_BAD, R166. -/
def DEC.SECT_LEAD_BAD (s : Nat) : Field := ⟨0x032000 + 0x200 + 0x4 * s, 20, 1, 0, .ro, .none⟩
/-- DEC MAN_OFF, R166. -/
def DEC.MAN_OFF (i : Nat) : Field := ⟨0x032000 + 0x400 + 0x4 * i, 0, 32, 0, .rws, .tick⟩
/-- DEC MAN_ON, R166. -/
def DEC.MAN_ON (i : Nat) : Field := ⟨0x032000 + 0x410 + 0x4 * i, 0, 32, 0, .rws, .tick⟩
/-- DEC SECT_STATE, R166. -/
def DEC.SECT_STATE (i : Nat) : Field := ⟨0x032000 + 0x420 + 0x4 * i, 0, 32, 0, .ro, .none⟩
/-- DEC FORCE, R166. -/
def DEC.FORCE (w : Nat) : Field := ⟨0x032000 + 0x500 + 0x4 * w, 0, 32, 0, .rws, .tick⟩
/-- DEC PTD_IDX, R166. -/
def DEC.PTD_IDX : Field := ⟨0x032000 + 0x700, 0, 10, 0, .rw, .now⟩
/-- DEC S_OPEN, R166. -/
def DEC.S_OPEN : Field := ⟨0x032000 + 0x704, 0, 1, 0, .ro, .none⟩
/-- DEC S_CLOSE, R166. -/
def DEC.S_CLOSE : Field := ⟨0x032000 + 0x704, 1, 1, 0, .ro, .none⟩
/-- DEC EDGE_VALID, R166. -/
def DEC.EDGE_VALID : Field := ⟨0x032000 + 0x704, 2, 1, 0, .ro, .none⟩
/-- DEC REASON, R166. -/
def DEC.REASON : Field := ⟨0x032000 + 0x704, 3, 5, 0, .ro, .none⟩
/-- DEC MISS_APPLIED, R166. -/
def DEC.MISS_APPLIED : Field := ⟨0x032000 + 0x704, 8, 1, 0, .ro, .none⟩
/-- DEC TGT_FB, R166. -/
def DEC.TGT_FB : Field := ⟨0x032000 + 0x704, 9, 1, 0, .ro, .none⟩
/-- DEC CHAT_HOLD, R166. -/
def DEC.CHAT_HOLD : Field := ⟨0x032000 + 0x704, 10, 1, 0, .ro, .none⟩
/-- DEC LAT_ON_MEAS, R166. -/
def DEC.LAT_ON_MEAS : Field := ⟨0x032000 + 0x704, 11, 1, 0, .ro, .none⟩
/-- DEC LAT_OFF_MEAS, R166. -/
def DEC.LAT_OFF_MEAS : Field := ⟨0x032000 + 0x704, 12, 1, 0, .ro, .none⟩
/-- DEC EDGE_T, R166. -/
def DEC.EDGE_T : Field := ⟨0x032000 + 0x704, 16, 16, 0, .ro, .none⟩
/-- DEC L_ON_ACT, R166. -/
def DEC.L_ON_ACT : Field := ⟨0x032000 + 0x708, 0, 16, 0, .ro, .none⟩
/-- DEC L_OFF_ACT, R166. -/
def DEC.L_OFF_ACT : Field := ⟨0x032000 + 0x708, 16, 16, 0, .ro, .none⟩
/-- DEC N_LAT_ON, R166. -/
def DEC.N_LAT_ON : Field := ⟨0x032000 + 0x70c, 0, 16, 0, .ro, .none⟩
/-- DEC N_LAT_OFF, R166. -/
def DEC.N_LAT_OFF : Field := ⟨0x032000 + 0x70c, 16, 16, 0, .ro, .none⟩
/-- DEC D_SINCE, R166. -/
def DEC.D_SINCE : Field := ⟨0x032000 + 0x710, 0, 32, 0, .ro, .none⟩
/-- DEC PTD_TICK, R166. -/
def DEC.PTD_TICK : Field := ⟨0x032000 + 0x714, 0, 32, 0, .ro, .none⟩

/-! ### Rate tables (R169, Table 05.1) -/

/-- RT RATE, R169. -/
def RT.RATE (p : Nat) (i : Nat) : Field := ⟨0x400000 + 0x400 * p + 0x0 + 0x4 * i, 0, 24, 0, .rws, .tick⟩

/-! ### Nozzle flow tables (R172, Table 05.3) -/

/-- NZ NPTS, R172. -/
def NZ.NPTS (t : Nat) : Field := ⟨0x402000 + 0x80 * t + 0x0, 0, 4, 0, .rws, .tick⟩
/-- NZ DUTY_MIN, R172. -/
def NZ.DUTY_MIN (t : Nat) : Field := ⟨0x402000 + 0x80 * t + 0x0, 16, 10, 0, .rws, .tick⟩
/-- NZ P, R172. -/
def NZ.P (t : Nat) (j : Nat) : Field := ⟨0x402000 + 0x80 * t + 0x8 + 0x8 * j, 0, 16, 0, .rws, .tick⟩
/-- NZ Q_FULL, R172. -/
def NZ.Q_FULL (t : Nat) (j : Nat) : Field := ⟨0x402000 + 0x80 * t + 0xc + 0x8 * j, 0, 32, 0, .rws, .tick⟩

/-! ### RATE page (R192, Table 05.9) -/

/-- RATE NODE_REFRESH, R192. -/
def RATE.NODE_REFRESH : Field := ⟨0x033000 + 0x40, 0, 8, 10, .rws, .tick⟩
/-- RATE PH_GUARD, R192. -/
def RATE.PH_GUARD : Field := ⟨0x033000 + 0x40, 8, 8, 5, .rws, .tick⟩
/-- RATE PH_MODE, R192. -/
def RATE.PH_MODE : Field := ⟨0x033000 + 0x40, 16, 2, 0, .rws, .tick⟩
/-- RATE PH_CONFLICT, R192. -/
def RATE.PH_CONFLICT : Field := ⟨0x033000 + 0x44, 0, 8, 0, .ro, .none⟩
/-- RATE LIMIT_CNT, R192. -/
def RATE.LIMIT_CNT : Field := ⟨0x033000 + 0x48, 0, 16, 0, .ro, .none⟩
/-- RATE PROD_EN, R192. -/
def RATE.PROD_EN (p : Nat) : Field := ⟨0x033000 + 0x80 + 0x40 * p, 0, 1, 0, .rws, .tick⟩
/-- RATE LOOP_EN, R192. -/
def RATE.LOOP_EN (p : Nat) : Field := ⟨0x033000 + 0x80 + 0x40 * p, 1, 1, 0, .rws, .tick⟩
/-- RATE RATE_UNIT, R192. -/
def RATE.RATE_UNIT (p : Nat) : Field := ⟨0x033000 + 0x80 + 0x40 * p, 2, 2, 0, .rws, .tick⟩
/-- RATE LOOP_KIND, R192. -/
def RATE.LOOP_KIND (p : Nat) : Field := ⟨0x033000 + 0x80 + 0x40 * p, 4, 2, 0, .rws, .tick⟩
/-- RATE SPD_COMP, R192. -/
def RATE.SPD_COMP (p : Nat) : Field := ⟨0x033000 + 0x80 + 0x40 * p, 6, 1, 1, .rws, .tick⟩
/-- RATE PULSED, R192. -/
def RATE.PULSED (p : Nat) : Field := ⟨0x033000 + 0x80 + 0x40 * p, 7, 1, 0, .rws, .tick⟩
/-- RATE OFF_MODE, R192. -/
def RATE.OFF_MODE (p : Nat) : Field := ⟨0x033000 + 0x80 + 0x40 * p, 8, 1, 0, .rws, .tick⟩
/-- RATE FB_LOSS_POLICY, R192. -/
def RATE.FB_LOSS_POLICY (p : Nat) : Field := ⟨0x033000 + 0x80 + 0x40 * p, 9, 2, 0, .rws, .tick⟩
/-- RATE PRESS_SRC, R192. -/
def RATE.PRESS_SRC (p : Nat) : Field := ⟨0x033000 + 0x80 + 0x40 * p, 11, 2, 0, .rws, .tick⟩
/-- RATE ACT_PWM, R192. -/
def RATE.ACT_PWM (p : Nat) : Field := ⟨0x033000 + 0x80 + 0x40 * p, 13, 4, 0, .rws, .tick⟩
/-- RATE ACT_PAIR, R192. -/
def RATE.ACT_PAIR (p : Nat) : Field := ⟨0x033000 + 0x80 + 0x40 * p, 17, 1, 0, .rws, .tick⟩
/-- RATE FB_FBK, R192. -/
def RATE.FB_FBK (p : Nat) : Field := ⟨0x033000 + 0x80 + 0x40 * p, 18, 3, 0, .rws, .tick⟩
/-- RATE PRESS_FBK, R192. -/
def RATE.PRESS_FBK (p : Nat) : Field := ⟨0x033000 + 0x80 + 0x40 * p, 21, 3, 0, .rws, .tick⟩
/-- RATE RATE_FIXED, R192. -/
def RATE.RATE_FIXED (p : Nat) : Field := ⟨0x033000 + 0x84 + 0x40 * p, 0, 24, 0, .rws, .tick⟩
/-- RATE PULSE_FREQ, R192. -/
def RATE.PULSE_FREQ (p : Nat) : Field := ⟨0x033000 + 0x88 + 0x40 * p, 0, 16, 150, .rws, .tick⟩
/-- RATE RATE_SCALE, R192. -/
def RATE.RATE_SCALE (p : Nat) : Field := ⟨0x033000 + 0x88 + 0x40 * p, 16, 16, 1000, .rws, .tick⟩
/-- RATE PRESS_SET, R192. -/
def RATE.PRESS_SET (p : Nat) : Field := ⟨0x033000 + 0x8c + 0x40 * p, 0, 16, 300, .rws, .tick⟩
/-- RATE PRESS_NOM, R192. -/
def RATE.PRESS_NOM (p : Nat) : Field := ⟨0x033000 + 0x8c + 0x40 * p, 16, 16, 300, .rws, .tick⟩
/-- RATE KP, R192. -/
def RATE.KP (p : Nat) : Field := ⟨0x033000 + 0x90 + 0x40 * p, 0, 16, 0x100, .rws, .tick⟩
/-- RATE KI, R192. -/
def RATE.KI (p : Nat) : Field := ⟨0x033000 + 0x90 + 0x40 * p, 16, 16, 0x80, .rws, .tick⟩
/-- RATE FF, R192. -/
def RATE.FF (p : Nat) : Field := ⟨0x033000 + 0x94 + 0x40 * p, 0, 16, 0x100, .rws, .tick⟩
/-- RATE LOOP_DIV, R192. -/
def RATE.LOOP_DIV (p : Nat) : Field := ⟨0x033000 + 0x94 + 0x40 * p, 16, 8, 10, .rws, .tick⟩
/-- RATE DEV_PCT, R192. -/
def RATE.DEV_PCT (p : Nat) : Field := ⟨0x033000 + 0x94 + 0x40 * p, 24, 8, 10, .rws, .tick⟩
/-- RATE FB_SCALE, R192. -/
def RATE.FB_SCALE (p : Nat) : Field := ⟨0x033000 + 0x98 + 0x40 * p, 0, 32, 0, .rws, .tick⟩
/-- RATE PF0, R192. -/
def RATE.PF0 (p : Nat) : Field := ⟨0x033000 + 0x9c + 0x40 * p, 0, 16, 0, .rws, .tick⟩
/-- RATE PGAIN, R192. -/
def RATE.PGAIN (p : Nat) : Field := ⟨0x033000 + 0x9c + 0x40 * p, 16, 16, 0, .rws, .tick⟩
/-- RATE DUTY_LO, R192. -/
def RATE.DUTY_LO (p : Nat) : Field := ⟨0x033000 + 0xa0 + 0x40 * p, 0, 10, 0, .rws, .tick⟩
/-- RATE DUTY_HI, R192. -/
def RATE.DUTY_HI (p : Nat) : Field := ⟨0x033000 + 0xa0 + 0x40 * p, 16, 10, 1000, .rws, .tick⟩
/-- RATE DUTY_OFF, R192. -/
def RATE.DUTY_OFF (p : Nat) : Field := ⟨0x033000 + 0xa4 + 0x40 * p, 0, 10, 0, .rws, .tick⟩
/-- RATE CELLS_PER_REV, R192. -/
def RATE.CELLS_PER_REV (p : Nat) : Field := ⟨0x033000 + 0xa4 + 0x40 * p, 16, 8, 1, .rws, .tick⟩
/-- RATE FB_TIMEOUT, R192. -/
def RATE.FB_TIMEOUT (p : Nat) : Field := ⟨0x033000 + 0xa4 + 0x40 * p, 24, 8, 20, .rws, .tick⟩
/-- RATE DEV_TIME, R192. -/
def RATE.DEV_TIME (p : Nat) : Field := ⟨0x033000 + 0xa8 + 0x40 * p, 0, 8, 30, .rws, .tick⟩
/-- RATE PRESS_HOST, R192. -/
def RATE.PRESS_HOST (p : Nat) : Field := ⟨0x033000 + 0xa8 + 0x40 * p, 16, 16, 0, .rws, .tick⟩
/-- RATE FS, R192. -/
def RATE.FS (p : Nat) : Field := ⟨0x033000 + 0xac + 0x40 * p, 0, 32, 0, .rws, .tick⟩
/-- RATE LOOP_SP, R192. -/
def RATE.LOOP_SP (p : Nat) : Field := ⟨0x033000 + 0xb0 + 0x40 * p, 0, 32, 0, .ro, .none⟩
/-- RATE LOOP_PV, R192. -/
def RATE.LOOP_PV (p : Nat) : Field := ⟨0x033000 + 0xb4 + 0x40 * p, 0, 32, 0, .ro, .none⟩
/-- RATE LOOP_DUTY, R192. -/
def RATE.LOOP_DUTY (p : Nat) : Field := ⟨0x033000 + 0xb8 + 0x40 * p, 0, 10, 0, .ro, .none⟩
/-- RATE FB_LOST, R192. -/
def RATE.FB_LOST (p : Nat) : Field := ⟨0x033000 + 0xb8 + 0x40 * p, 10, 1, 0, .ro, .none⟩
/-- RATE DEV_ACT, R192. -/
def RATE.DEV_ACT (p : Nat) : Field := ⟨0x033000 + 0xb8 + 0x40 * p, 11, 1, 0, .ro, .none⟩
/-- RATE PRESS_STALE, R192. -/
def RATE.PRESS_STALE (p : Nat) : Field := ⟨0x033000 + 0xb8 + 0x40 * p, 12, 1, 0, .ro, .none⟩
/-- RATE LOOP_ERR, R192. -/
def RATE.LOOP_ERR (p : Nat) : Field := ⟨0x033000 + 0xb8 + 0x40 * p, 13, 3, 0, .ro, .none⟩
/-- RATE PRESS_ACT, R192. -/
def RATE.PRESS_ACT (p : Nat) : Field := ⟨0x033000 + 0xb8 + 0x40 * p, 16, 16, 0, .ro, .none⟩
/-- RATE PH_EPOCH_LO, R192. -/
def RATE.PH_EPOCH_LO (p : Nat) : Field := ⟨0x033000 + 0xbc + 0x40 * p, 0, 32, 0, .ro, .none⟩
/-- RATE PH_EPOCH_HI, R192. -/
def RATE.PH_EPOCH_HI (p : Nat) : Field := ⟨0x033000 + 0x280 + 0x4 * p, 0, 32, 0, .ro, .none⟩
/-- RATE PTR_IDX, R192. -/
def RATE.PTR_IDX : Field := ⟨0x033000 + 0x300, 0, 10, 0, .rw, .now⟩
/-- RATE PT_RATE, R192. -/
def RATE.PT_RATE : Field := ⟨0x033000 + 0x304, 0, 24, 0, .ro, .none⟩
/-- RATE PT_RX_IDX, R192. -/
def RATE.PT_RX_IDX : Field := ⟨0x033000 + 0x304, 24, 8, 0, .ro, .none⟩
/-- RATE PT_DEMAND, R192. -/
def RATE.PT_DEMAND : Field := ⟨0x033000 + 0x308, 0, 32, 0, .ro, .none⟩
/-- RATE PT_DUTY, R192. -/
def RATE.PT_DUTY : Field := ⟨0x033000 + 0x30c, 0, 10, 0, .ro, .none⟩
/-- RATE PT_SLOT, R192. -/
def RATE.PT_SLOT : Field := ⟨0x033000 + 0x30c, 16, 4, 0, .ro, .none⟩
/-- RATE RATE_LOW, R192. -/
def RATE.RATE_LOW : Field := ⟨0x033000 + 0x30c, 20, 1, 0, .ro, .none⟩
/-- RATE RATE_HIGH, R192. -/
def RATE.RATE_HIGH : Field := ⟨0x033000 + 0x30c, 21, 1, 0, .ro, .none⟩
/-- RATE PRESS_RANGE, R192. -/
def RATE.PRESS_RANGE : Field := ⟨0x033000 + 0x30c, 22, 1, 0, .ro, .none⟩
/-- RATE NZ_INVALID, R192. -/
def RATE.NZ_INVALID : Field := ⟨0x033000 + 0x30c, 23, 1, 0, .ro, .none⟩
/-- RATE PTR_TICK, R192. -/
def RATE.PTR_TICK : Field := ⟨0x033000 + 0x310, 0, 32, 0, .ro, .none⟩

/-! ### POSE page (R223, Table 06.11) -/

/-- POSE POSE_EN, R223. -/
def POSE.POSE_EN : Field := ⟨0x034000 + 0x40, 0, 1, 0, .rws, .tick⟩
/-- POSE NHC_EN, R223. -/
def POSE.NHC_EN : Field := ⟨0x034000 + 0x40, 1, 1, 1, .rws, .tick⟩
/-- POSE ZUPT_EN, R223. -/
def POSE.ZUPT_EN : Field := ⟨0x034000 + 0x40, 2, 1, 1, .rws, .tick⟩
/-- POSE GNSS_SRC, R223. -/
def POSE.GNSS_SRC : Field := ⟨0x034000 + 0x40, 3, 2, 0, .rws, .tick⟩
/-- POSE WHL_EN, R223. -/
def POSE.WHL_EN : Field := ⟨0x034000 + 0x40, 5, 1, 0, .rws, .tick⟩
/-- POSE WHL_FBK, R223. -/
def POSE.WHL_FBK : Field := ⟨0x034000 + 0x40, 6, 3, 0, .rws, .tick⟩
/-- POSE STEER_EN, R223. -/
def POSE.STEER_EN : Field := ⟨0x034000 + 0x40, 9, 1, 0, .rws, .tick⟩
/-- POSE STEER_FBK, R223. -/
def POSE.STEER_FBK : Field := ⟨0x034000 + 0x40, 10, 3, 0, .rws, .tick⟩
/-- POSE CAN_SPD, R223. -/
def POSE.CAN_SPD : Field := ⟨0x034000 + 0x40, 13, 2, 0, .rws, .tick⟩
/-- POSE CAN_SPD_BUS, R223. -/
def POSE.CAN_SPD_BUS : Field := ⟨0x034000 + 0x40, 15, 1, 0, .rws, .tick⟩
/-- POSE DIR_SRC, R223. -/
def POSE.DIR_SRC : Field := ⟨0x034000 + 0x40, 16, 2, 0, .rws, .tick⟩
/-- POSE POSE_RESET, R223. -/
def POSE.POSE_RESET : Field := ⟨0x034000 + 0x44, 0, 1, 0, .wo, .now⟩
/-- POSE IMU_PRIMARY, R223. -/
def POSE.IMU_PRIMARY : Field := ⟨0x034000 + 0x44, 1, 1, 0, .wo, .now⟩
/-- POSE ANT_X, R223. -/
def POSE.ANT_X : Field := ⟨0x034000 + 0x48, 0, 32, 0, .rws, .tick⟩
/-- POSE ANT_Y, R223. -/
def POSE.ANT_Y : Field := ⟨0x034000 + 0x4c, 0, 32, 0, .rws, .tick⟩
/-- POSE ANT_Z, R223. -/
def POSE.ANT_Z : Field := ⟨0x034000 + 0x50, 0, 32, 0, .rws, .tick⟩
/-- POSE REAR_AXLE_X, R223. -/
def POSE.REAR_AXLE_X : Field := ⟨0x034000 + 0x54, 0, 16, 0, .rws, .tick⟩
/-- POSE WHEELBASE, R223. -/
def POSE.WHEELBASE : Field := ⟨0x034000 + 0x54, 16, 16, 3000, .rws, .tick⟩
/-- POSE WHL_SCALE, R223. -/
def POSE.WHL_SCALE : Field := ⟨0x034000 + 0x58, 0, 32, 0, .rws, .tick⟩
/-- POSE STEER_ZERO, R223. -/
def POSE.STEER_ZERO : Field := ⟨0x034000 + 0x5c, 0, 32, 0, .rws, .tick⟩
/-- POSE STEER_GAIN, R223. -/
def POSE.STEER_GAIN : Field := ⟨0x034000 + 0x60, 0, 32, 0, .rws, .tick⟩
/-- POSE GATE_POS, R223. -/
def POSE.GATE_POS : Field := ⟨0x034000 + 0x64, 0, 8, 163, .rws, .tick⟩
/-- POSE GATE_VEL, R223. -/
def POSE.GATE_VEL : Field := ⟨0x034000 + 0x64, 8, 8, 163, .rws, .tick⟩
/-- POSE GATE_SPD, R223. -/
def POSE.GATE_SPD : Field := ⟨0x034000 + 0x64, 16, 8, 108, .rws, .tick⟩
/-- POSE GATE_YAW, R223. -/
def POSE.GATE_YAW : Field := ⟨0x034000 + 0x64, 24, 8, 108, .rws, .tick⟩
/-- POSE MEAS_AGE_MAX, R223. -/
def POSE.MEAS_AGE_MAX : Field := ⟨0x034000 + 0x68, 0, 16, 500, .rws, .tick⟩
/-- POSE CLASS_AGE, R223. -/
def POSE.CLASS_AGE : Field := ⟨0x034000 + 0x68, 16, 16, 500, .rws, .tick⟩
/-- POSE SIG_FIX, R223. -/
def POSE.SIG_FIX : Field := ⟨0x034000 + 0x6c, 0, 16, 50, .rws, .tick⟩
/-- POSE SIG_FLOAT, R223. -/
def POSE.SIG_FLOAT : Field := ⟨0x034000 + 0x6c, 16, 16, 300, .rws, .tick⟩
/-- POSE SIG_STD, R223. -/
def POSE.SIG_STD : Field := ⟨0x034000 + 0x70, 0, 16, 3000, .rws, .tick⟩
/-- POSE DR_SIG_MAX, R223. -/
def POSE.DR_SIG_MAX : Field := ⟨0x034000 + 0x70, 16, 16, 500, .rws, .tick⟩
/-- POSE DR_MAX, R223. -/
def POSE.DR_MAX : Field := ⟨0x034000 + 0x74, 0, 16, 300, .rws, .tick⟩
/-- POSE REANCHOR_TIME, R223. -/
def POSE.REANCHOR_TIME : Field := ⟨0x034000 + 0x74, 16, 8, 20, .rws, .tick⟩
/-- POSE IMU_STALE, R223. -/
def POSE.IMU_STALE : Field := ⟨0x034000 + 0x74, 24, 8, 10, .rws, .tick⟩
/-- POSE STEP_WARN, R223. -/
def POSE.STEP_WARN : Field := ⟨0x034000 + 0x78, 0, 16, 50, .rws, .tick⟩
/-- POSE RELIGHT_GAP_MAX, R223. -/
def POSE.RELIGHT_GAP_MAX : Field := ⟨0x034000 + 0x78, 16, 16, 500, .rws, .tick⟩
/-- POSE ALIGN_SPD, R223. -/
def POSE.ALIGN_SPD : Field := ⟨0x034000 + 0x7c, 0, 16, 1000, .rws, .tick⟩
/-- POSE ALIGN_DIST, R223. -/
def POSE.ALIGN_DIST : Field := ⟨0x034000 + 0x7c, 16, 16, 5000, .rws, .tick⟩
/-- POSE CAN_LAT, R223. -/
def POSE.CAN_LAT : Field := ⟨0x034000 + 0x80, 0, 16, 0, .rws, .tick⟩
/-- POSE CAN_SIG, R223. -/
def POSE.CAN_SIG : Field := ⟨0x034000 + 0x80, 16, 16, 100, .rws, .tick⟩
/-- POSE WHL_SIG, R223. -/
def POSE.WHL_SIG : Field := ⟨0x034000 + 0x84, 0, 16, 50, .rws, .tick⟩
/-- POSE STEER_SIG, R223. -/
def POSE.STEER_SIG : Field := ⟨0x034000 + 0x84, 16, 16, 50, .rws, .tick⟩
/-- POSE GYRO_ND, R223. -/
def POSE.GYRO_ND : Field := ⟨0x034000 + 0x88, 0, 16, 10, .rws, .tick⟩
/-- POSE ACC_ND, R223. -/
def POSE.ACC_ND : Field := ⟨0x034000 + 0x88, 16, 16, 100, .rws, .tick⟩
/-- POSE GNSS_R_SCALE, R223. -/
def POSE.GNSS_R_SCALE : Field := ⟨0x034000 + 0x8c, 0, 16, 100, .rws, .tick⟩
/-- POSE POS_X, R223. -/
def POSE.POS_X : Field := ⟨0x034000 + 0xc0, 0, 32, 0, .ro, .none⟩
/-- POSE POS_Y, R223. -/
def POSE.POS_Y : Field := ⟨0x034000 + 0xc4, 0, 32, 0, .ro, .none⟩
/-- POSE POS_Z, R223. -/
def POSE.POS_Z : Field := ⟨0x034000 + 0xc8, 0, 32, 0, .ro, .none⟩
/-- POSE VEL_E, R223. -/
def POSE.VEL_E : Field := ⟨0x034000 + 0xcc, 0, 16, 0, .ro, .none⟩
/-- POSE VEL_N, R223. -/
def POSE.VEL_N : Field := ⟨0x034000 + 0xcc, 16, 16, 0, .ro, .none⟩
/-- POSE VEL_U, R223. -/
def POSE.VEL_U : Field := ⟨0x034000 + 0xd0, 0, 16, 0, .ro, .none⟩
/-- POSE SPD_VRP, R223. -/
def POSE.SPD_VRP : Field := ⟨0x034000 + 0xd0, 16, 16, 0, .ro, .none⟩
/-- POSE HDG, R223. -/
def POSE.HDG : Field := ⟨0x034000 + 0xd4, 0, 16, 0, .ro, .none⟩
/-- POSE ROLL, R223. -/
def POSE.ROLL : Field := ⟨0x034000 + 0xd4, 16, 16, 0, .ro, .none⟩
/-- POSE PITCH, R223. -/
def POSE.PITCH : Field := ⟨0x034000 + 0xd8, 0, 16, 0, .ro, .none⟩
/-- POSE OMEGA_Z, R223. -/
def POSE.OMEGA_Z : Field := ⟨0x034000 + 0xd8, 16, 16, 0, .ro, .none⟩
/-- POSE OMEGA_X, R223. -/
def POSE.OMEGA_X : Field := ⟨0x034000 + 0xdc, 0, 16, 0, .ro, .none⟩
/-- POSE OMEGA_Y, R223. -/
def POSE.OMEGA_Y : Field := ⟨0x034000 + 0xdc, 16, 16, 0, .ro, .none⟩
/-- POSE SIG_E, R223. -/
def POSE.SIG_E : Field := ⟨0x034000 + 0xe0, 0, 16, 0, .ro, .none⟩
/-- POSE SIG_N, R223. -/
def POSE.SIG_N : Field := ⟨0x034000 + 0xe0, 16, 16, 0, .ro, .none⟩
/-- POSE SIG_U, R223. -/
def POSE.SIG_U : Field := ⟨0x034000 + 0xe4, 0, 16, 0, .ro, .none⟩
/-- POSE SIG_HDG, R223. -/
def POSE.SIG_HDG : Field := ⟨0x034000 + 0xe4, 16, 16, 0, .ro, .none⟩
/-- POSE SIG_VH, R223. -/
def POSE.SIG_VH : Field := ⟨0x034000 + 0xe8, 0, 16, 0, .ro, .none⟩
/-- POSE CLASS, R223. -/
def POSE.CLASS : Field := ⟨0x034000 + 0xec, 0, 3, 0, .ro, .none⟩
/-- POSE ALIGN_STATE, R223. -/
def POSE.ALIGN_STATE : Field := ⟨0x034000 + 0xec, 3, 2, 0, .ro, .none⟩
/-- POSE IMU_MODE, R223. -/
def POSE.IMU_MODE : Field := ⟨0x034000 + 0xec, 5, 1, 1, .ro, .none⟩
/-- POSE IMU_ACT, R223. -/
def POSE.IMU_ACT : Field := ⟨0x034000 + 0xec, 6, 2, 0, .ro, .none⟩
/-- POSE GNSS_EXCL, R223. -/
def POSE.GNSS_EXCL : Field := ⟨0x034000 + 0xec, 8, 1, 0, .ro, .none⟩
/-- POSE ODO_EXCL, R223. -/
def POSE.ODO_EXCL : Field := ⟨0x034000 + 0xec, 9, 1, 0, .ro, .none⟩
/-- POSE STEP, R223. -/
def POSE.STEP : Field := ⟨0x034000 + 0xec, 10, 1, 0, .ro, .none⟩
/-- POSE POS_RANGE, R223. -/
def POSE.POS_RANGE : Field := ⟨0x034000 + 0xec, 11, 1, 0, .ro, .none⟩
/-- POSE ZUPT_ACT, R223. -/
def POSE.ZUPT_ACT : Field := ⟨0x034000 + 0xec, 12, 1, 0, .ro, .none⟩
/-- POSE GNSS_AGE, R223. -/
def POSE.GNSS_AGE : Field := ⟨0x034000 + 0xec, 16, 16, 0xffff, .ro, .none⟩
/-- POSE POSE_TICK, R223. -/
def POSE.POSE_TICK : Field := ⟨0x034000 + 0xf0, 0, 32, 0, .ro, .none⟩
/-- POSE WHL_K, R223. -/
def POSE.WHL_K : Field := ⟨0x034000 + 0xf4, 0, 16, 0, .ro, .none⟩
/-- POSE CAN_K, R223. -/
def POSE.CAN_K : Field := ⟨0x034000 + 0xf4, 16, 16, 0, .ro, .none⟩
/-- POSE GNSS_REJ, R223. -/
def POSE.GNSS_REJ : Field := ⟨0x034000 + 0xf8, 0, 16, 0, .ro, .none⟩
/-- POSE ODO_REJ, R223. -/
def POSE.ODO_REJ : Field := ⟨0x034000 + 0xf8, 16, 16, 0, .ro, .none⟩
/-- POSE REANCHOR_CNT, R223. -/
def POSE.REANCHOR_CNT : Field := ⟨0x034000 + 0xfc, 0, 8, 0, .ro, .none⟩
/-- POSE IMU_SWITCH_CNT, R223. -/
def POSE.IMU_SWITCH_CNT : Field := ⟨0x034000 + 0xfc, 8, 8, 0, .ro, .none⟩
/-- POSE HQ_DT_LO, R223. -/
def POSE.HQ_DT_LO : Field := ⟨0x034000 + 0x100, 0, 32, 0, .rw, .now⟩
/-- POSE HQ_DT_HI, R223. -/
def POSE.HQ_DT_HI : Field := ⟨0x034000 + 0x104, 0, 32, 0, .rw, .now⟩
/-- POSE HQ_STATUS, R223. -/
def POSE.HQ_STATUS : Field := ⟨0x034000 + 0x108, 0, 2, 0, .ro, .none⟩
/-- POSE HQ_ENTRY, R223. -/
def POSE.HQ_ENTRY (i : Nat) : Field := ⟨0x034000 + 0x140 + 0x4 * i, 0, 32, 0, .ro, .none⟩

/-! ### SSP port n (R224, Table 06.12) -/

/-- SSP ROLE, R224. -/
def SSP.ROLE (n : Nat) : Field := ⟨0x037100 + 0x80 * n + 0x0, 0, 2, 0, .rws, .tick⟩
/-- SSP SPI_MODE, R224. -/
def SSP.SPI_MODE (n : Nat) : Field := ⟨0x037100 + 0x80 * n + 0x0, 2, 1, 0, .rws, .tick⟩
/-- SSP TRIG, R224. -/
def SSP.TRIG (n : Nat) : Field := ⟨0x037100 + 0x80 * n + 0x0, 3, 1, 0, .rws, .tick⟩
/-- SSP DRDY_POL, R224. -/
def SSP.DRDY_POL (n : Nat) : Field := ⟨0x037100 + 0x80 * n + 0x0, 4, 1, 0, .rws, .tick⟩
/-- SSP PER_RATE, R224. -/
def SSP.PER_RATE (n : Nat) : Field := ⟨0x037100 + 0x80 * n + 0x0, 5, 3, 2, .rws, .tick⟩
/-- SSP SCK_DIV, R224. -/
def SSP.SCK_DIV (n : Nat) : Field := ⟨0x037100 + 0x80 * n + 0x0, 8, 8, 40, .rws, .tick⟩
/-- SSP RX_LEN_M1, R224. -/
def SSP.RX_LEN_M1 (n : Nat) : Field := ⟨0x037100 + 0x80 * n + 0x0, 16, 5, 0, .rws, .tick⟩
/-- SSP CMD_LEN, R224. -/
def SSP.CMD_LEN (n : Nat) : Field := ⟨0x037100 + 0x80 * n + 0x0, 21, 3, 0, .rws, .tick⟩
/-- SSP BE, R224. -/
def SSP.BE (n : Nat) : Field := ⟨0x037100 + 0x80 * n + 0x0, 24, 1, 0, .rws, .tick⟩
/-- SSP SSP_CMD, R224. -/
def SSP.SSP_CMD (n : Nat) : Field := ⟨0x037100 + 0x80 * n + 0x4, 0, 32, 0, .rws, .tick⟩
/-- SSP SSP_LAT, R224. -/
def SSP.SSP_LAT (n : Nat) : Field := ⟨0x037100 + 0x80 * n + 0x8, 0, 16, 0, .rws, .tick⟩
/-- SSP STAT_OFS, R224. -/
def SSP.STAT_OFS (n : Nat) : Field := ⟨0x037100 + 0x80 * n + 0x8, 16, 8, 0, .rws, .tick⟩
/-- SSP STAT_MASK, R224. -/
def SSP.STAT_MASK (n : Nat) : Field := ⟨0x037100 + 0x80 * n + 0x8, 24, 8, 0, .rws, .tick⟩
/-- SSP AXMAP, R224. -/
def SSP.AXMAP (n : Nat) : Field := ⟨0x037100 + 0x80 * n + 0xc, 0, 9, 0x88, .rws, .tick⟩
/-- SSP CNT_EN, R224. -/
def SSP.CNT_EN (n : Nat) : Field := ⟨0x037100 + 0x80 * n + 0xc, 9, 1, 0, .rws, .tick⟩
/-- SSP CNT_OFS, R224. -/
def SSP.CNT_OFS (n : Nat) : Field := ⟨0x037100 + 0x80 * n + 0xc, 10, 5, 0, .rws, .tick⟩
/-- SSP CNT_W16, R224. -/
def SSP.CNT_W16 (n : Nat) : Field := ⟨0x037100 + 0x80 * n + 0xc, 15, 1, 0, .rws, .tick⟩
/-- SSP OFS, R224. -/
def SSP.OFS (n : Nat) (k : Nat) : Field := ⟨0x037100 + 0x80 * n + 0x10 + 0x8 * k, 0, 5, 0, .rws, .tick⟩
/-- SSP WIDTH, R224. -/
def SSP.WIDTH (n : Nat) (k : Nat) : Field := ⟨0x037100 + 0x80 * n + 0x10 + 0x8 * k, 5, 2, 0, .rws, .tick⟩
/-- SSP EN, R224. -/
def SSP.EN (n : Nat) (k : Nat) : Field := ⟨0x037100 + 0x80 * n + 0x10 + 0x8 * k, 7, 1, 0, .rws, .tick⟩
/-- SSP MANT, R224. -/
def SSP.MANT (n : Nat) (k : Nat) : Field := ⟨0x037100 + 0x80 * n + 0x14 + 0x8 * k, 0, 16, 0, .rws, .tick⟩
/-- SSP EXP, R224. -/
def SSP.EXP (n : Nat) (k : Nat) : Field := ⟨0x037100 + 0x80 * n + 0x14 + 0x8 * k, 16, 8, 0, .rws, .tick⟩
/-- SSP LEV_X, R224. -/
def SSP.LEV_X (n : Nat) : Field := ⟨0x037100 + 0x80 * n + 0x48, 0, 32, 0, .rws, .tick⟩
/-- SSP LEV_Y, R224. -/
def SSP.LEV_Y (n : Nat) : Field := ⟨0x037100 + 0x80 * n + 0x4c, 0, 32, 0, .rws, .tick⟩
/-- SSP LEV_Z, R224. -/
def SSP.LEV_Z (n : Nat) : Field := ⟨0x037100 + 0x80 * n + 0x50, 0, 32, 0, .rws, .tick⟩
/-- SSP ACTIVE, R224. -/
def SSP.ACTIVE (n : Nat) : Field := ⟨0x037100 + 0x80 * n + 0x54, 0, 1, 0, .ro, .none⟩
/-- SSP STALE, R224. -/
def SSP.STALE (n : Nat) : Field := ⟨0x037100 + 0x80 * n + 0x54, 1, 1, 0, .ro, .none⟩
/-- SSP CFG_ERR, R224. -/
def SSP.CFG_ERR (n : Nat) : Field := ⟨0x037100 + 0x80 * n + 0x54, 2, 3, 0, .ro, .none⟩
/-- SSP SAMPLES, R224. -/
def SSP.SAMPLES (n : Nat) : Field := ⟨0x037100 + 0x80 * n + 0x58, 0, 32, 0, .ro, .none⟩
/-- SSP MISSED, R224. -/
def SSP.MISSED (n : Nat) : Field := ⟨0x037100 + 0x80 * n + 0x5c, 0, 16, 0, .ro, .none⟩
/-- SSP BAD, R224. -/
def SSP.BAD (n : Nat) : Field := ⟨0x037100 + 0x80 * n + 0x5c, 16, 16, 0, .ro, .none⟩
/-- SSP LAST_DT_LO, R224. -/
def SSP.LAST_DT_LO (n : Nat) : Field := ⟨0x037100 + 0x80 * n + 0x60, 0, 32, 0, .ro, .none⟩
/-- SSP LAST_DT_HI, R224. -/
def SSP.LAST_DT_HI (n : Nat) : Field := ⟨0x037100 + 0x80 * n + 0x64, 0, 32, 0, .ro, .none⟩
/-- SSP OVERRATE, R224. -/
def SSP.OVERRATE (n : Nat) : Field := ⟨0x037100 + 0x80 * n + 0x68, 0, 16, 0, .ro, .none⟩

/-! ### GNSS page (R253, Table 07.13) -/

/-- GNSS GNSS_EN, R253. -/
def GNSS.GNSS_EN : Field := ⟨0x035000 + 0x40, 0, 1, 1, .rw, .now⟩
/-- GNSS CONST_EN, R253. -/
def GNSS.CONST_EN : Field := ⟨0x035000 + 0x40, 1, 3, 7, .rw, .now⟩
/-- GNSS SBAS_EN, R253. -/
def GNSS.SBAS_EN : Field := ⟨0x035000 + 0x40, 4, 1, 1, .rw, .now⟩
/-- GNSS L5_EN, R253. -/
def GNSS.L5_EN : Field := ⟨0x035000 + 0x40, 5, 1, 1, .rw, .now⟩
/-- GNSS RTK_EN, R253. -/
def GNSS.RTK_EN : Field := ⟨0x035000 + 0x40, 6, 1, 1, .rw, .now⟩
/-- GNSS EMBER_TRK, R253. -/
def GNSS.EMBER_TRK : Field := ⟨0x035000 + 0x40, 7, 1, 1, .rw, .now⟩
/-- GNSS NAV_RATE, R253. -/
def GNSS.NAV_RATE : Field := ⟨0x035000 + 0x40, 8, 3, 3, .rw, .now⟩
/-- GNSS SPACING_MODE, R253. -/
def GNSS.SPACING_MODE : Field := ⟨0x035000 + 0x40, 11, 2, 0, .rw, .now⟩
/-- GNSS RAW_STREAM_EN, R253. -/
def GNSS.RAW_STREAM_EN : Field := ⟨0x035000 + 0x40, 13, 1, 0, .rw, .now⟩
/-- GNSS NAV_STREAM_EN, R253. -/
def GNSS.NAV_STREAM_EN : Field := ⟨0x035000 + 0x40, 14, 1, 0, .rw, .now⟩
/-- GNSS ELEV_MASK, R253. -/
def GNSS.ELEV_MASK : Field := ⟨0x035000 + 0x40, 16, 8, 10, .rw, .now⟩
/-- GNSS CN0_MASK, R253. -/
def GNSS.CN0_MASK : Field := ⟨0x035000 + 0x40, 24, 8, 30, .rw, .now⟩
/-- GNSS ANT_EN, R253. -/
def GNSS.ANT_EN : Field := ⟨0x035000 + 0x44, 0, 1, 1, .rw, .now⟩
/-- GNSS ANT_V, R253. -/
def GNSS.ANT_V : Field := ⟨0x035000 + 0x44, 1, 1, 0, .rw, .now⟩
/-- GNSS ANT_OPEN_MA, R253. -/
def GNSS.ANT_OPEN_MA : Field := ⟨0x035000 + 0x44, 8, 8, 3, .rw, .now⟩
/-- GNSS ANT_RETRY, R253. -/
def GNSS.ANT_RETRY : Field := ⟨0x035000 + 0x44, 16, 8, 5, .rw, .now⟩
/-- GNSS TRK_CN0_MIN, R253. -/
def GNSS.TRK_CN0_MIN : Field := ⟨0x035000 + 0x44, 24, 8, 22, .rw, .now⟩
/-- GNSS FIX_RATIO, R253. -/
def GNSS.FIX_RATIO : Field := ⟨0x035000 + 0x48, 0, 8, 30, .rw, .now⟩
/-- GNSS CORR_AGE_MAX, R253. -/
def GNSS.CORR_AGE_MAX : Field := ⟨0x035000 + 0x48, 8, 8, 10, .rw, .now⟩
/-- GNSS ANT_STATE, R253. -/
def GNSS.ANT_STATE : Field := ⟨0x035000 + 0x4c, 0, 2, 0, .ro, .none⟩
/-- GNSS ANT_MA, R253. -/
def GNSS.ANT_MA : Field := ⟨0x035000 + 0x4c, 2, 6, 0, .ro, .none⟩
/-- GNSS ANT_SHORTS, R253. -/
def GNSS.ANT_SHORTS : Field := ⟨0x035000 + 0x4c, 8, 8, 0, .ro, .none⟩
/-- GNSS AGC_L1, R253. -/
def GNSS.AGC_L1 : Field := ⟨0x035000 + 0x4c, 16, 8, 0, .ro, .none⟩
/-- GNSS AGC_L5, R253. -/
def GNSS.AGC_L5 : Field := ⟨0x035000 + 0x4c, 24, 8, 0, .ro, .none⟩
/-- GNSS CH_TRACK, R253. -/
def GNSS.CH_TRACK : Field := ⟨0x035000 + 0x50, 0, 8, 0, .ro, .none⟩
/-- GNSS SV_USED, R253. -/
def GNSS.SV_USED : Field := ⟨0x035000 + 0x50, 8, 8, 0, .ro, .none⟩
/-- GNSS SOL_TYPE, R253. -/
def GNSS.SOL_TYPE : Field := ⟨0x035000 + 0x50, 16, 3, 0, .ro, .none⟩
/-- GNSS PDOP, R253. -/
def GNSS.PDOP : Field := ⟨0x035000 + 0x50, 24, 8, 0, .ro, .none⟩
/-- GNSS SOL_DT_LO, R253. -/
def GNSS.SOL_DT_LO : Field := ⟨0x035000 + 0x54, 0, 32, 0, .ro, .none⟩
/-- GNSS SOL_DT_HI, R253. -/
def GNSS.SOL_DT_HI : Field := ⟨0x035000 + 0x58, 0, 32, 0, .ro, .none⟩
/-- GNSS SOL_LAT, R253. -/
def GNSS.SOL_LAT : Field := ⟨0x035000 + 0x5c, 0, 32, 0, .ro, .none⟩
/-- GNSS SOL_LON, R253. -/
def GNSS.SOL_LON : Field := ⟨0x035000 + 0x60, 0, 32, 0, .ro, .none⟩
/-- GNSS SOL_H, R253. -/
def GNSS.SOL_H : Field := ⟨0x035000 + 0x64, 0, 32, 0, .ro, .none⟩
/-- GNSS SOL_VE, R253. -/
def GNSS.SOL_VE : Field := ⟨0x035000 + 0x68, 0, 16, 0, .ro, .none⟩
/-- GNSS SOL_VN, R253. -/
def GNSS.SOL_VN : Field := ⟨0x035000 + 0x68, 16, 16, 0, .ro, .none⟩
/-- GNSS SOL_VU, R253. -/
def GNSS.SOL_VU : Field := ⟨0x035000 + 0x6c, 0, 16, 0, .ro, .none⟩
/-- GNSS SOL_SIG_H, R253. -/
def GNSS.SOL_SIG_H : Field := ⟨0x035000 + 0x6c, 16, 16, 0, .ro, .none⟩
/-- GNSS SOL_SIG_U, R253. -/
def GNSS.SOL_SIG_U : Field := ⟨0x035000 + 0x70, 0, 16, 0, .ro, .none⟩
/-- GNSS CORR_AGE, R253. -/
def GNSS.CORR_AGE : Field := ⟨0x035000 + 0x70, 16, 16, 0xffff, .ro, .none⟩
/-- GNSS BASE_ID, R253. -/
def GNSS.BASE_ID : Field := ⟨0x035000 + 0x74, 0, 12, 0, .ro, .none⟩
/-- GNSS RTCM_PUSH, R253. -/
def GNSS.RTCM_PUSH : Field := ⟨0x035000 + 0x80, 0, 13, 0, .wo, .now⟩
/-- GNSS RTCM_FREE, R253. -/
def GNSS.RTCM_FREE : Field := ⟨0x035000 + 0x84, 0, 14, 8192, .ro, .none⟩
/-- GNSS RTCM_OVF, R253. -/
def GNSS.RTCM_OVF : Field := ⟨0x035000 + 0x84, 14, 1, 0, .w1c, .now⟩
/-- GNSS RTCM_CRC_ERR, R253. -/
def GNSS.RTCM_CRC_ERR : Field := ⟨0x035000 + 0x88, 0, 16, 0, .ro, .none⟩
/-- GNSS RTCM_UNSUP, R253. -/
def GNSS.RTCM_UNSUP : Field := ⟨0x035000 + 0x88, 16, 16, 0, .ro, .none⟩
/-- GNSS NAV_PASS, R253. -/
def GNSS.NAV_PASS : Field := ⟨0x035000 + 0x8c, 0, 16, 0, .ro, .none⟩
/-- GNSS NAV_FAIL, R253. -/
def GNSS.NAV_FAIL : Field := ⟨0x035000 + 0x8c, 16, 16, 0, .ro, .none⟩
/-- GNSS RAW_IDX, R253. -/
def GNSS.RAW_IDX : Field := ⟨0x035000 + 0xc0, 0, 7, 0, .rw, .now⟩
/-- GNSS RAW_REC, R253. -/
def GNSS.RAW_REC (i : Nat) : Field := ⟨0x035000 + 0xc4 + 0x4 * i, 0, 32, 0, .ro, .none⟩

/-! ### TIME page (R254, Table 07.14) -/

/-- TIME TPO_EN, R254. -/
def TIME.TPO_EN : Field := ⟨0x036000 + 0x40, 0, 1, 1, .rw, .now⟩
/-- TIME TPO_RATE, R254. -/
def TIME.TPO_RATE : Field := ⟨0x036000 + 0x40, 1, 2, 0, .rw, .now⟩
/-- TIME TPO_POL, R254. -/
def TIME.TPO_POL : Field := ⟨0x036000 + 0x40, 3, 1, 0, .rw, .now⟩
/-- TIME TPO_STOP_FREERUN, R254. -/
def TIME.TPO_STOP_FREERUN : Field := ⟨0x036000 + 0x40, 4, 1, 0, .rw, .now⟩
/-- TIME TPO_WIDTH, R254. -/
def TIME.TPO_WIDTH : Field := ⟨0x036000 + 0x40, 16, 16, 100, .rw, .now⟩
/-- TIME TPO_OFS, R254. -/
def TIME.TPO_OFS : Field := ⟨0x036000 + 0x44, 0, 32, 0, .rw, .now⟩
/-- TIME HOLDOVER_MAX, R254. -/
def TIME.HOLDOVER_MAX : Field := ⟨0x036000 + 0x48, 0, 16, 600, .rw, .now⟩
/-- TIME HO_DRIFT, R254. -/
def TIME.HO_DRIFT : Field := ⟨0x036000 + 0x48, 16, 16, 10, .rw, .now⟩
/-- TIME TIME_STATUS, R254. -/
def TIME.TIME_STATUS : Field := ⟨0x036000 + 0x4c, 0, 2, 3, .ro, .none⟩
/-- TIME SLEWING, R254. -/
def TIME.SLEWING : Field := ⟨0x036000 + 0x4c, 2, 1, 0, .ro, .none⟩
/-- TIME STEP, R254. -/
def TIME.STEP : Field := ⟨0x036000 + 0x4c, 3, 1, 0, .w1c, .now⟩
/-- TIME UTC_VALID, R254. -/
def TIME.UTC_VALID : Field := ⟨0x036000 + 0x4c, 4, 1, 0, .ro, .none⟩
/-- TIME LEAP_PENDING, R254. -/
def TIME.LEAP_PENDING : Field := ⟨0x036000 + 0x4c, 5, 1, 0, .ro, .none⟩
/-- TIME LEAP_SEC, R254. -/
def TIME.LEAP_SEC : Field := ⟨0x036000 + 0x4c, 8, 8, 0, .ro, .none⟩
/-- TIME HO_TIME, R254. -/
def TIME.HO_TIME : Field := ⟨0x036000 + 0x4c, 16, 16, 0, .ro, .none⟩
/-- TIME TIME_UNC, R254. -/
def TIME.TIME_UNC : Field := ⟨0x036000 + 0x50, 0, 32, 0xffffffff, .ro, .none⟩
/-- TIME FREQ_ERR, R254. -/
def TIME.FREQ_ERR : Field := ⟨0x036000 + 0x54, 0, 32, 0, .ro, .none⟩
/-- TIME MAP_SNAP, R254. -/
def TIME.MAP_SNAP : Field := ⟨0x036000 + 0x58, 0, 1, 0, .wo, .now⟩
/-- TIME MAP_DT_LO, R254. -/
def TIME.MAP_DT_LO : Field := ⟨0x036000 + 0x5c, 0, 32, 0, .ro, .none⟩
/-- TIME MAP_DT_HI, R254. -/
def TIME.MAP_DT_HI : Field := ⟨0x036000 + 0x60, 0, 32, 0, .ro, .none⟩
/-- TIME MAP_NSW_LO, R254. -/
def TIME.MAP_NSW_LO : Field := ⟨0x036000 + 0x64, 0, 32, 0, .ro, .none⟩
/-- TIME MAP_NSW_HI, R254. -/
def TIME.MAP_NSW_HI : Field := ⟨0x036000 + 0x68, 0, 18, 0, .ro, .none⟩
/-- TIME MAP_WEEK, R254. -/
def TIME.MAP_WEEK : Field := ⟨0x036000 + 0x68, 18, 14, 0, .ro, .none⟩
/-- TIME MAP_RATE, R254. -/
def TIME.MAP_RATE : Field := ⟨0x036000 + 0x6c, 0, 32, 0, .ro, .none⟩
/-- TIME TPO_DT_LO, R254. -/
def TIME.TPO_DT_LO : Field := ⟨0x036000 + 0x70, 0, 32, 0, .ro, .none⟩
/-- TIME TPO_DT_HI, R254. -/
def TIME.TPO_DT_HI : Field := ⟨0x036000 + 0x74, 0, 32, 0, .ro, .none⟩
/-- TIME STEP_SIZE, R254. -/
def TIME.STEP_SIZE : Field := ⟨0x036000 + 0x78, 0, 32, 0, .ro, .none⟩
/-- TIME SLEW_REM, R254. -/
def TIME.SLEW_REM : Field := ⟨0x036000 + 0x7c, 0, 32, 0, .ro, .none⟩

/-! ### Camera model s (R262, Table 08.3) -/

/-- CAM MOUNT, R262. -/
def CAM.MOUNT (s : Nat) : Field := ⟨0x450000 + 0x80 * s + 0x0, 0, 4, 15, .rws, .tick⟩
/-- CAM TIMING, R262. -/
def CAM.TIMING (s : Nat) : Field := ⟨0x450000 + 0x80 * s + 0x0, 4, 1, 0, .rws, .tick⟩
/-- CAM TRG_PIN, R262. -/
def CAM.TRG_PIN (s : Nat) : Field := ⟨0x450000 + 0x80 * s + 0x0, 5, 3, 0, .rws, .tick⟩
/-- CAM EXP_RATE, R262. -/
def CAM.EXP_RATE (s : Nat) : Field := ⟨0x450000 + 0x80 * s + 0x0, 8, 8, 30, .rws, .tick⟩
/-- CAM CAP_DLY, R262. -/
def CAM.CAP_DLY (s : Nat) : Field := ⟨0x450000 + 0x80 * s + 0x0, 16, 16, 0, .rws, .tick⟩
/-- CAM MAP_W, R262. -/
def CAM.MAP_W (s : Nat) : Field := ⟨0x450000 + 0x80 * s + 0x4, 0, 16, 128, .rws, .tick⟩
/-- CAM MAP_H, R262. -/
def CAM.MAP_H (s : Nat) : Field := ⟨0x450000 + 0x80 * s + 0x4, 16, 16, 128, .rws, .tick⟩
/-- CAM FX, R262. -/
def CAM.FX (s : Nat) : Field := ⟨0x450000 + 0x80 * s + 0x8, 0, 32, 0, .rws, .tick⟩
/-- CAM FY, R262. -/
def CAM.FY (s : Nat) : Field := ⟨0x450000 + 0x80 * s + 0xc, 0, 32, 0, .rws, .tick⟩
/-- CAM CX, R262. -/
def CAM.CX (s : Nat) : Field := ⟨0x450000 + 0x80 * s + 0x10, 0, 32, 0, .rws, .tick⟩
/-- CAM CY, R262. -/
def CAM.CY (s : Nat) : Field := ⟨0x450000 + 0x80 * s + 0x14, 0, 32, 0, .rws, .tick⟩
/-- CAM K1, R262. -/
def CAM.K1 (s : Nat) : Field := ⟨0x450000 + 0x80 * s + 0x18, 0, 32, 0, .rws, .tick⟩
/-- CAM K2, R262. -/
def CAM.K2 (s : Nat) : Field := ⟨0x450000 + 0x80 * s + 0x1c, 0, 32, 0, .rws, .tick⟩
/-- CAM CAM_X, R262. -/
def CAM.CAM_X (s : Nat) : Field := ⟨0x450000 + 0x80 * s + 0x20, 0, 32, 0, .rws, .tick⟩
/-- CAM CAM_Y, R262. -/
def CAM.CAM_Y (s : Nat) : Field := ⟨0x450000 + 0x80 * s + 0x24, 0, 32, 0, .rws, .tick⟩
/-- CAM CAM_Z, R262. -/
def CAM.CAM_Z (s : Nat) : Field := ⟨0x450000 + 0x80 * s + 0x28, 0, 32, 0, .rws, .tick⟩
/-- CAM CAM_YAW, R262. -/
def CAM.CAM_YAW (s : Nat) : Field := ⟨0x450000 + 0x80 * s + 0x2c, 0, 16, 0, .rws, .tick⟩
/-- CAM CAM_PITCH, R262. -/
def CAM.CAM_PITCH (s : Nat) : Field := ⟨0x450000 + 0x80 * s + 0x2c, 16, 16, 0, .rws, .tick⟩
/-- CAM CAM_ROLL, R262. -/
def CAM.CAM_ROLL (s : Nat) : Field := ⟨0x450000 + 0x80 * s + 0x30, 0, 16, 0, .rws, .tick⟩

/-! ### GRID page (R292, Table 08.14) -/

/-- GRID GRID_EN, R292. -/
def GRID.GRID_EN : Field := ⟨0x038000 + 0x40, 0, 1, 0, .rws, .tick⟩
/-- GRID CONTRA_POLICY, R292. -/
def GRID.CONTRA_POLICY : Field := ⟨0x038000 + 0x40, 1, 2, 0, .rws, .tick⟩
/-- GRID TGT_LOG_EN, R292. -/
def GRID.TGT_LOG_EN : Field := ⟨0x038000 + 0x40, 3, 1, 0, .rws, .tick⟩
/-- GRID GRID_POSE_MIN, R292. -/
def GRID.GRID_POSE_MIN : Field := ⟨0x038000 + 0x40, 4, 3, 1, .rws, .tick⟩
/-- GRID TRIG_DIV, R292. -/
def GRID.TRIG_DIV : Field := ⟨0x038000 + 0x40, 8, 8, 33, .rws, .tick⟩
/-- GRID TRG_PHASE, R292. -/
def GRID.TRG_PHASE : Field := ⟨0x038000 + 0x40, 16, 10, 0, .rws, .tick⟩
/-- GRID TRG_POL, R292. -/
def GRID.TRG_POL : Field := ⟨0x038000 + 0x40, 26, 1, 0, .rws, .tick⟩
/-- GRID TRG_WIDTH, R292. -/
def GRID.TRG_WIDTH : Field := ⟨0x038000 + 0x44, 0, 16, 100, .rws, .tick⟩
/-- GRID LATE_MS, R292. -/
def GRID.LATE_MS : Field := ⟨0x038000 + 0x44, 16, 16, 100, .rws, .tick⟩
/-- GRID GROUND_Z, R292. -/
def GRID.GROUND_Z : Field := ⟨0x038000 + 0x48, 0, 16, 0, .rws, .tick⟩
/-- GRID RANGE_MAX, R292. -/
def GRID.RANGE_MAX : Field := ⟨0x038000 + 0x48, 16, 16, 10000, .rws, .tick⟩
/-- GRID WIN_AHEAD, R292. -/
def GRID.WIN_AHEAD : Field := ⟨0x038000 + 0x4c, 0, 16, 10000, .rws, .tick⟩
/-- GRID RETIRE_DIST, R292. -/
def GRID.RETIRE_DIST : Field := ⟨0x038000 + 0x4c, 16, 16, 500, .rws, .tick⟩
/-- GRID VERDICT_THR, R292. -/
def GRID.VERDICT_THR : Field := ⟨0x038000 + 0x50, 0, 8, 128, .rws, .tick⟩
/-- GRID CONS_MAX_PCT, R292. -/
def GRID.CONS_MAX_PCT : Field := ⟨0x038000 + 0x50, 8, 8, 30, .rws, .tick⟩
/-- GRID RATE_MIN_PCT, R292. -/
def GRID.RATE_MIN_PCT : Field := ⟨0x038000 + 0x50, 16, 8, 50, .rws, .tick⟩
/-- GRID RECOVER_S, R292. -/
def GRID.RECOVER_S : Field := ⟨0x038000 + 0x50, 24, 8, 2, .rws, .tick⟩
/-- GRID CONS_MIN_CELLS, R292. -/
def GRID.CONS_MIN_CELLS : Field := ⟨0x038000 + 0x54, 0, 16, 2000, .rws, .tick⟩
/-- GRID AGREE_MIN, R292. -/
def GRID.AGREE_MIN : Field := ⟨0x038000 + 0x54, 16, 8, 90, .rws, .tick⟩
/-- GRID RES_MAX, R292. -/
def GRID.RES_MAX : Field := ⟨0x038000 + 0x54, 24, 8, 10, .rws, .tick⟩
/-- GRID AUDIT_WIN, R292. -/
def GRID.AUDIT_WIN : Field := ⟨0x038000 + 0x58, 0, 8, 5, .rws, .tick⟩
/-- GRID AUDIT_MIN_TILES, R292. -/
def GRID.AUDIT_MIN_TILES : Field := ⟨0x038000 + 0x58, 8, 8, 30, .rws, .tick⟩
/-- GRID AUDIT_MAX, R292. -/
def GRID.AUDIT_MAX : Field := ⟨0x038000 + 0x58, 16, 16, 60, .rws, .tick⟩
/-- GRID AUDIT_REQ, R292. -/
def GRID.AUDIT_REQ : Field := ⟨0x038000 + 0x5c, 0, 1, 0, .wo, .now⟩
/-- GRID NET_LOAD, R292. -/
def GRID.NET_LOAD : Field := ⟨0x038000 + 0x5c, 1, 1, 0, .wo, .now⟩
/-- GRID WIN_CLEAR, R292. -/
def GRID.WIN_CLEAR : Field := ⟨0x038000 + 0x5c, 2, 1, 0, .wo, .now⟩
/-- GRID GRID_MODE, R292. -/
def GRID.GRID_MODE : Field := ⟨0x038000 + 0x60, 0, 2, 0, .ro, .none⟩
/-- GRID AUDIT_CAUSE, R292. -/
def GRID.AUDIT_CAUSE : Field := ⟨0x038000 + 0x60, 2, 3, 0, .ro, .none⟩
/-- GRID NET_ERR, R292. -/
def GRID.NET_ERR : Field := ⟨0x038000 + 0x60, 5, 3, 0, .ro, .none⟩
/-- GRID NET_OK, R292. -/
def GRID.NET_OK : Field := ⟨0x038000 + 0x60, 8, 1, 0, .ro, .none⟩
/-- GRID BLK_USED, R292. -/
def GRID.BLK_USED : Field := ⟨0x038000 + 0x60, 16, 8, 0, .ro, .none⟩
/-- GRID BLK_MAX, R292. -/
def GRID.BLK_MAX : Field := ⟨0x038000 + 0x60, 24, 8, 0, .ro, .none⟩
/-- GRID SRC_OK_MASK, R292. -/
def GRID.SRC_OK_MASK : Field := ⟨0x038000 + 0x64, 0, 16, 0, .ro, .none⟩
/-- GRID SRC_SUSPECT_MASK, R292. -/
def GRID.SRC_SUSPECT_MASK : Field := ⟨0x038000 + 0x64, 16, 16, 0, .ro, .none⟩
/-- GRID LOAD_EST, R292. -/
def GRID.LOAD_EST : Field := ⟨0x038000 + 0x68, 0, 16, 0, .ro, .none⟩
/-- GRID LOAD_ACT, R292. -/
def GRID.LOAD_ACT : Field := ⟨0x038000 + 0x68, 16, 16, 0, .ro, .none⟩
/-- GRID TILES_FUSED, R292. -/
def GRID.TILES_FUSED : Field := ⟨0x038000 + 0x6c, 0, 32, 0, .ro, .none⟩
/-- GRID LATE_USED, R292. -/
def GRID.LATE_USED : Field := ⟨0x038000 + 0x70, 0, 16, 0, .ro, .none⟩
/-- GRID TOO_LATE, R292. -/
def GRID.TOO_LATE : Field := ⟨0x038000 + 0x70, 16, 16, 0, .ro, .none⟩
/-- GRID DROP_HIST, R292. -/
def GRID.DROP_HIST : Field := ⟨0x038000 + 0x74, 0, 16, 0, .ro, .none⟩
/-- GRID DROP_OTHER, R292. -/
def GRID.DROP_OTHER : Field := ⟨0x038000 + 0x74, 16, 16, 0, .ro, .none⟩
/-- GRID WIN_FULL, R292. -/
def GRID.WIN_FULL : Field := ⟨0x038000 + 0x78, 0, 16, 0, .ro, .none⟩
/-- GRID SUPERSEDED, R292. -/
def GRID.SUPERSEDED : Field := ⟨0x038000 + 0x78, 16, 16, 0, .ro, .none⟩
/-- GRID REC_ONLY, R292. -/
def GRID.REC_ONLY : Field := ⟨0x038000 + 0x7c, 0, 32, 0, .ro, .none⟩
/-- GRID TGT_THR, R292. -/
def GRID.TGT_THR (p : Nat) : Field := ⟨0x038000 + 0x80 + 0x8 * p, 0, 32, 0x80808080, .rws, .tick⟩
/-- GRID CLASS_EN, R292. -/
def GRID.CLASS_EN (p : Nat) : Field := ⟨0x038000 + 0x84 + 0x8 * p, 0, 4, 1, .rws, .tick⟩
/-- GRID FALLBACK, R292. -/
def GRID.FALLBACK (p : Nat) : Field := ⟨0x038000 + 0x84 + 0x8 * p, 4, 2, 0, .rws, .tick⟩
/-- GRID AUDIT_FB, R292. -/
def GRID.AUDIT_FB (p : Nat) : Field := ⟨0x038000 + 0x84 + 0x8 * p, 6, 1, 0, .rws, .tick⟩
/-- GRID TGT_MIN, R292. -/
def GRID.TGT_MIN (p : Nat) : Field := ⟨0x038000 + 0x84 + 0x8 * p, 8, 8, 1, .rws, .tick⟩
/-- GRID NOCOV_FRAC, R292. -/
def GRID.NOCOV_FRAC (p : Nat) : Field := ⟨0x038000 + 0x84 + 0x8 * p, 16, 7, 10, .rws, .tick⟩
/-- GRID SRC_EN, R292. -/
def GRID.SRC_EN (s : Nat) : Field := ⟨0x038000 + 0x100 + 0x10 * s, 0, 1, 0, .rws, .tick⟩
/-- GRID SRC_FORCE, R292. -/
def GRID.SRC_FORCE (s : Nat) : Field := ⟨0x038000 + 0x100 + 0x10 * s, 1, 1, 0, .rws, .tick⟩
/-- GRID SRC_RETRY, R292. -/
def GRID.SRC_RETRY (s : Nat) : Field := ⟨0x038000 + 0x100 + 0x10 * s, 2, 1, 0, .wo, .now⟩
/-- GRID HEALTH, R292. -/
def GRID.HEALTH (s : Nat) : Field := ⟨0x038000 + 0x104 + 0x10 * s, 0, 3, 0, .ro, .none⟩
/-- GRID SUS_CAUSE, R292. -/
def GRID.SUS_CAUSE (s : Nat) : Field := ⟨0x038000 + 0x104 + 0x10 * s, 3, 3, 0, .ro, .none⟩
/-- GRID SRC_ERR, R292. -/
def GRID.SRC_ERR (s : Nat) : Field := ⟨0x038000 + 0x104 + 0x10 * s, 6, 3, 0, .ro, .none⟩
/-- GRID RATE_LAST, R292. -/
def GRID.RATE_LAST (s : Nat) : Field := ⟨0x038000 + 0x104 + 0x10 * s, 16, 8, 0, .ro, .none⟩
/-- GRID AGREE_LAST, R292. -/
def GRID.AGREE_LAST (s : Nat) : Field := ⟨0x038000 + 0x104 + 0x10 * s, 24, 8, 0, .ro, .none⟩
/-- GRID SRC_TILES, R292. -/
def GRID.SRC_TILES (s : Nat) : Field := ⟨0x038000 + 0x108 + 0x10 * s, 0, 16, 0, .ro, .none⟩
/-- GRID HDR_ERR, R292. -/
def GRID.HDR_ERR (s : Nat) : Field := ⟨0x038000 + 0x108 + 0x10 * s, 16, 16, 0, .ro, .none⟩
/-- GRID AGE_LAST, R292. -/
def GRID.AGE_LAST (s : Nat) : Field := ⟨0x038000 + 0x10c + 0x10 * s, 0, 8, 0, .ro, .none⟩
/-- GRID RES_LAST, R292. -/
def GRID.RES_LAST (s : Nat) : Field := ⟨0x038000 + 0x10c + 0x10 * s, 8, 8, 0, .ro, .none⟩
/-- GRID PAIR_A, R292. -/
def GRID.PAIR_A : Field := ⟨0x038000 + 0x200, 0, 4, 0, .rw, .now⟩
/-- GRID PAIR_B, R292. -/
def GRID.PAIR_B : Field := ⟨0x038000 + 0x200, 4, 4, 0, .rw, .now⟩
/-- GRID CONTRA_CNT, R292. -/
def GRID.CONTRA_CNT : Field := ⟨0x038000 + 0x204, 0, 32, 0, .ro, .none⟩
/-- GRID SHARED_CNT, R292. -/
def GRID.SHARED_CNT : Field := ⟨0x038000 + 0x208, 0, 32, 0, .ro, .none⟩
/-- GRID PEEK_X, R292. -/
def GRID.PEEK_X : Field := ⟨0x038000 + 0x220, 0, 32, 0, .rw, .now⟩
/-- GRID PEEK_Y, R292. -/
def GRID.PEEK_Y : Field := ⟨0x038000 + 0x224, 0, 32, 0, .wo, .now⟩
/-- GRID PEEK_SCORE, R292. -/
def GRID.PEEK_SCORE : Field := ⟨0x038000 + 0x228, 0, 32, 0, .ro, .none⟩
/-- GRID PEEK_META, R292. -/
def GRID.PEEK_META : Field := ⟨0x038000 + 0x22c, 0, 32, 0, .ro, .none⟩
/-- GRID PEEK_RES, R292. -/
def GRID.PEEK_RES : Field := ⟨0x038000 + 0x230, 0, 1, 0, .ro, .none⟩

/-! ### CAL page (R293, Table 08.15) -/

/-- CAL CAL_EN, R293. -/
def CAL.CAL_EN : Field := ⟨0x039000 + 0x40, 0, 1, 0, .rws, .tick⟩
/-- CAL CAL_CH, R293. -/
def CAL.CAL_CH : Field := ⟨0x039000 + 0x40, 1, 5, 0, .rws, .tick⟩
/-- CAL CAL_SEARCH, R293. -/
def CAL.CAL_SEARCH : Field := ⟨0x039000 + 0x40, 6, 3, 3, .rws, .tick⟩
/-- CAL CAL_GAIN, R293. -/
def CAL.CAL_GAIN : Field := ⟨0x039000 + 0x40, 16, 8, 32, .rws, .tick⟩
/-- CAL CONV_N, R293. -/
def CAL.CONV_N : Field := ⟨0x039000 + 0x40, 24, 8, 10, .rws, .tick⟩
/-- CAL CONV_ANG, R293. -/
def CAL.CONV_ANG : Field := ⟨0x039000 + 0x44, 0, 8, 2, .rws, .tick⟩
/-- CAL CONV_POS, R293. -/
def CAL.CONV_POS : Field := ⟨0x039000 + 0x44, 8, 8, 2, .rws, .tick⟩
/-- CAL CAL_DECIM, R293. -/
def CAL.CAL_DECIM : Field := ⟨0x039000 + 0x44, 16, 16, 10, .rws, .tick⟩
/-- CAL CAL_FIX, R293. -/
def CAL.CAL_FIX : Field := ⟨0x039000 + 0x48, 0, 16, 0, .rws, .tick⟩
/-- CAL CAL_RESET, R293. -/
def CAL.CAL_RESET : Field := ⟨0x039000 + 0x48, 16, 16, 0, .wo, .now⟩
/-- CAL CAL_CONV, R293. -/
def CAL.CAL_CONV : Field := ⟨0x039000 + 0x4c, 0, 16, 0, .ro, .none⟩
/-- CAL CAL_OOB, R293. -/
def CAL.CAL_OOB : Field := ⟨0x039000 + 0x4c, 16, 16, 0, .ro, .none⟩
/-- CAL D_X, R293. -/
def CAL.D_X (s : Nat) : Field := ⟨0x039000 + 0x100 + 0x10 * s, 0, 16, 0, .ro, .none⟩
/-- CAL D_Y, R293. -/
def CAL.D_Y (s : Nat) : Field := ⟨0x039000 + 0x100 + 0x10 * s, 16, 16, 0, .ro, .none⟩
/-- CAL D_Z, R293. -/
def CAL.D_Z (s : Nat) : Field := ⟨0x039000 + 0x104 + 0x10 * s, 0, 16, 0, .ro, .none⟩
/-- CAL D_YAW, R293. -/
def CAL.D_YAW (s : Nat) : Field := ⟨0x039000 + 0x104 + 0x10 * s, 16, 16, 0, .ro, .none⟩
/-- CAL D_PITCH, R293. -/
def CAL.D_PITCH (s : Nat) : Field := ⟨0x039000 + 0x108 + 0x10 * s, 0, 16, 0, .ro, .none⟩
/-- CAL D_ROLL, R293. -/
def CAL.D_ROLL (s : Nat) : Field := ⟨0x039000 + 0x108 + 0x10 * s, 16, 16, 0, .ro, .none⟩
/-- CAL CAL_UPD, R293. -/
def CAL.CAL_UPD (s : Nat) : Field := ⟨0x039000 + 0x10c + 0x10 * s, 0, 16, 0, .ro, .none⟩

/-! ### Profile header k (R298, Table 09.2) -/

/-- PRF N_PH_M1, R298. -/
def PRF.N_PH_M1 (k : Nat) : Field := ⟨0x440000 + 0x80 * k + 0x0, 0, 3, 0, .rws, .tick⟩
/-- PRF END_FAST, R298. -/
def PRF.END_FAST (k : Nat) : Field := ⟨0x440000 + 0x80 * k + 0x0, 3, 1, 0, .rws, .tick⟩
/-- PRF OK_EN, R298. -/
def PRF.OK_EN (k : Nat) : Field := ⟨0x440000 + 0x80 * k + 0x0, 4, 1, 0, .rws, .tick⟩
/-- PRF CK_EN, R298. -/
def PRF.CK_EN (k : Nat) : Field := ⟨0x440000 + 0x80 * k + 0x0, 5, 1, 0, .rws, .tick⟩
/-- PRF MIN_ON, R298. -/
def PRF.MIN_ON (k : Nat) : Field := ⟨0x440000 + 0x80 * k + 0x0, 8, 8, 5, .rws, .tick⟩
/-- PRF MIN_OFF, R298. -/
def PRF.MIN_OFF (k : Nat) : Field := ⟨0x440000 + 0x80 * k + 0x0, 16, 16, 200, .rws, .tick⟩
/-- PRF OK_DIP, R298. -/
def PRF.OK_DIP (k : Nat) : Field := ⟨0x440000 + 0x80 * k + 0x4, 0, 12, 0, .rws, .tick⟩
/-- PRF OK_RATIO, R298. -/
def PRF.OK_RATIO (k : Nat) : Field := ⟨0x440000 + 0x80 * k + 0x4, 16, 8, 150, .rws, .tick⟩
/-- PRF OK_BLANK, R298. -/
def PRF.OK_BLANK (k : Nat) : Field := ⟨0x440000 + 0x80 * k + 0x4, 24, 8, 0, .rws, .tick⟩
/-- PRF CK_THR, R298. -/
def PRF.CK_THR (k : Nat) : Field := ⟨0x440000 + 0x80 * k + 0x8, 0, 16, 0, .rws, .tick⟩
/-- PRF CK_BLANK, R298. -/
def PRF.CK_BLANK (k : Nat) : Field := ⟨0x440000 + 0x80 * k + 0x8, 16, 8, 0, .rws, .tick⟩
/-- PRF CK_WIN, R298. -/
def PRF.CK_WIN (k : Nat) : Field := ⟨0x440000 + 0x80 * k + 0x8, 24, 8, 20, .rws, .tick⟩
/-- PRF KINK_STEP, R298. -/
def PRF.KINK_STEP (k : Nat) : Field := ⟨0x440000 + 0x80 * k + 0xc, 0, 8, 10, .rws, .tick⟩
/-- PRF OL_T, R298. -/
def PRF.OL_T (k : Nat) : Field := ⟨0x440000 + 0x80 * k + 0xc, 8, 8, 10, .rws, .tick⟩

/-! ### Phase m of profile k (R298, Table 09.3) -/

/-- PHS KIND, R298. -/
def PHS.KIND (k : Nat) (m : Nat) : Field := ⟨0x440000 + 0x80 * k + 0x10 + 0x8 * m, 0, 2, 0, .rws, .tick⟩
/-- PHS PEAK, R298. -/
def PHS.PEAK (k : Nat) (m : Nat) : Field := ⟨0x440000 + 0x80 * k + 0x10 + 0x8 * m, 2, 1, 0, .rws, .tick⟩
/-- PHS FAST, R298. -/
def PHS.FAST (k : Nat) (m : Nat) : Field := ⟨0x440000 + 0x80 * k + 0x10 + 0x8 * m, 3, 1, 0, .rws, .tick⟩
/-- PHS END, R298. -/
def PHS.END (k : Nat) (m : Nat) : Field := ⟨0x440000 + 0x80 * k + 0x10 + 0x8 * m, 4, 2, 0, .rws, .tick⟩
/-- PHS I_HI, R298. -/
def PHS.I_HI (k : Nat) (m : Nat) : Field := ⟨0x440000 + 0x80 * k + 0x10 + 0x8 * m, 8, 12, 0, .rws, .tick⟩
/-- PHS I_LO, R298. -/
def PHS.I_LO (k : Nat) (m : Nat) : Field := ⟨0x440000 + 0x80 * k + 0x10 + 0x8 * m, 20, 12, 0, .rws, .tick⟩
/-- PHS T_MAX, R298. -/
def PHS.T_MAX (k : Nat) (m : Nat) : Field := ⟨0x440000 + 0x80 * k + 0x14 + 0x8 * m, 0, 16, 0, .rws, .tick⟩
/-- PHS T_MIN, R298. -/
def PHS.T_MIN (k : Nat) (m : Nat) : Field := ⟨0x440000 + 0x80 * k + 0x14 + 0x8 * m, 16, 16, 0, .rws, .tick⟩

/-! ### IDC group page g (R329, Table 09.12) -/

/-- IDG GRP_OVL_POLICY, R329. -/
def IDG.GRP_OVL_POLICY (g : Nat) : Field := ⟨0x040000 + 0x1000 * g + 0x40, 0, 2, 0, .rws, .tick⟩
/-- IDG STAGGER_MAX, R329. -/
def IDG.STAGGER_MAX (g : Nat) : Field := ⟨0x040000 + 0x1000 * g + 0x40, 2, 10, 25, .rws, .tick⟩
/-- IDG PEAK_LIM, R329. -/
def IDG.PEAK_LIM (g : Nat) : Field := ⟨0x040000 + 0x1000 * g + 0x40, 16, 7, 80, .rws, .tick⟩
/-- IDG DIM_STRETCH, R329. -/
def IDG.DIM_STRETCH (g : Nat) : Field := ⟨0x040000 + 0x1000 * g + 0x40, 24, 3, 2, .rws, .tick⟩
/-- IDG REC_STREAM_EN, R329. -/
def IDG.REC_STREAM_EN (g : Nat) : Field := ⟨0x040000 + 0x1000 * g + 0x40, 27, 1, 0, .rws, .tick⟩
/-- IDG HSG_ON, R329. -/
def IDG.HSG_ON (g : Nat) : Field := ⟨0x040000 + 0x1000 * g + 0x44, 0, 1, 0, .ro, .none⟩
/-- IDG BANK_SUSP, R329. -/
def IDG.BANK_SUSP (g : Nat) : Field := ⟨0x040000 + 0x1000 * g + 0x44, 1, 1, 0, .ro, .none⟩
/-- IDG GRP_LATCH, R329. -/
def IDG.GRP_LATCH (g : Nat) : Field := ⟨0x040000 + 0x1000 * g + 0x44, 2, 1, 0, .ro, .none⟩
/-- IDG HSG_OC, R329. -/
def IDG.HSG_OC (g : Nat) : Field := ⟨0x040000 + 0x1000 * g + 0x44, 3, 1, 0, .ro, .none⟩
/-- IDG MISMATCH, R329. -/
def IDG.MISMATCH (g : Nat) : Field := ⟨0x040000 + 0x1000 * g + 0x44, 4, 1, 0, .ro, .none⟩
/-- IDG LOAD_NOW, R329. -/
def IDG.LOAD_NOW (g : Nat) : Field := ⟨0x040000 + 0x1000 * g + 0x44, 8, 7, 0, .ro, .none⟩
/-- IDG WAITING, R329. -/
def IDG.WAITING (g : Nat) : Field := ⟨0x040000 + 0x1000 * g + 0x44, 16, 4, 0, .ro, .none⟩
/-- IDG CONT_EXCESS, R329. -/
def IDG.CONT_EXCESS (g : Nat) : Field := ⟨0x040000 + 0x1000 * g + 0x44, 20, 4, 0, .ro, .none⟩
/-- IDG STAGGER_CNT, R329. -/
def IDG.STAGGER_CNT (g : Nat) : Field := ⟨0x040000 + 0x1000 * g + 0x48, 0, 16, 0, .ro, .none⟩
/-- IDG SHARE_CNT, R329. -/
def IDG.SHARE_CNT (g : Nat) : Field := ⟨0x040000 + 0x1000 * g + 0x48, 16, 16, 0, .ro, .none⟩
/-- IDG DEFER_CNT, R329. -/
def IDG.DEFER_CNT (g : Nat) : Field := ⟨0x040000 + 0x1000 * g + 0x4c, 0, 16, 0, .ro, .none⟩
/-- IDG DEFER_CANCEL, R329. -/
def IDG.DEFER_CANCEL (g : Nat) : Field := ⟨0x040000 + 0x1000 * g + 0x4c, 16, 16, 0, .ro, .none⟩
/-- IDG I_HSG, R329. -/
def IDG.I_HSG (g : Nat) : Field := ⟨0x040000 + 0x1000 * g + 0x50, 0, 12, 0, .ro, .none⟩
/-- IDG DIE_TEMP, R329. -/
def IDG.DIE_TEMP (g : Nat) : Field := ⟨0x040000 + 0x1000 * g + 0x50, 16, 10, 0, .ro, .none⟩
/-- IDG GRP_FLT_CLR, R329. -/
def IDG.GRP_FLT_CLR (g : Nat) : Field := ⟨0x040000 + 0x1000 * g + 0x54, 0, 1, 0, .wo, .now⟩
/-- IDG PROF_SEL, R329. -/
def IDG.PROF_SEL (g : Nat) : Field := ⟨0x040000 + 0x1000 * g + 0x58, 0, 4, 0, .rw, .now⟩
/-- IDG PROF_ERR, R329. -/
def IDG.PROF_ERR (g : Nat) : Field := ⟨0x040000 + 0x1000 * g + 0x58, 4, 3, 0, .ro, .none⟩
/-- IDG REC_CH, R329. -/
def IDG.REC_CH (g : Nat) : Field := ⟨0x040000 + 0x1000 * g + 0x80, 0, 2, 0, .rw, .now⟩
/-- IDG REC, R329. -/
def IDG.REC (g : Nat) (i : Nat) : Field := ⟨0x040000 + 0x1000 * g + 0x84 + 0x4 * i, 0, 32, 0, .ro, .none⟩

/-! ### IDC channel c (R329, Table 09.13) -/

/-- IDC SHORT_MODE, R329. -/
def IDC.SHORT_MODE (c : Nat) : Field := ⟨0x040100 + 0x1000 * (c / 4) + 0x40 * (c % 4) + 0x0, 0, 1, 0, .rws, .tick⟩
/-- IDC TEMP_SRC, R329. -/
def IDC.TEMP_SRC (c : Nat) : Field := ⟨0x040100 + 0x1000 * (c / 4) + 0x40 * (c % 4) + 0x0, 1, 1, 0, .rws, .tick⟩
/-- IDC DIRECT_EN, R329. -/
def IDC.DIRECT_EN (c : Nat) : Field := ⟨0x040100 + 0x1000 * (c / 4) + 0x40 * (c % 4) + 0x0, 2, 1, 0, .rws, .tick⟩
/-- IDC DIRECT_ON, R329. -/
def IDC.DIRECT_ON (c : Nat) : Field := ⟨0x040100 + 0x1000 * (c / 4) + 0x40 * (c % 4) + 0x0, 3, 1, 0, .rws, .tick⟩
/-- IDC DIRECT_PROFILE, R329. -/
def IDC.DIRECT_PROFILE (c : Nat) : Field := ⟨0x040100 + 0x1000 * (c / 4) + 0x40 * (c % 4) + 0x0, 4, 4, 0, .rws, .tick⟩
/-- IDC HOLD_WINDOW, R329. -/
def IDC.HOLD_WINDOW (c : Nat) : Field := ⟨0x040100 + 0x1000 * (c / 4) + 0x40 * (c % 4) + 0x0, 8, 7, 20, .rws, .tick⟩
/-- IDC R26, R329. -/
def IDC.R26 (c : Nat) : Field := ⟨0x040100 + 0x1000 * (c / 4) + 0x40 * (c % 4) + 0x0, 16, 16, 0, .rws, .tick⟩
/-- IDC FLT_CLR, R329. -/
def IDC.FLT_CLR (c : Nat) : Field := ⟨0x040100 + 0x1000 * (c / 4) + 0x40 * (c % 4) + 0x4, 0, 1, 0, .wo, .now⟩
/-- IDC CH_STATE, R329. -/
def IDC.CH_STATE (c : Nat) : Field := ⟨0x040100 + 0x1000 * (c / 4) + 0x40 * (c % 4) + 0x8, 0, 3, 0, .ro, .none⟩
/-- IDC PHASE, R329. -/
def IDC.PHASE (c : Nat) : Field := ⟨0x040100 + 0x1000 * (c / 4) + 0x40 * (c % 4) + 0x8, 3, 3, 0, .ro, .none⟩
/-- IDC FAULT, R329. -/
def IDC.FAULT (c : Nat) : Field := ⟨0x040100 + 0x1000 * (c / 4) + 0x40 * (c % 4) + 0x8, 8, 3, 0, .ro, .none⟩
/-- IDC DIAG_OFF, R329. -/
def IDC.DIAG_OFF (c : Nat) : Field := ⟨0x040100 + 0x1000 * (c / 4) + 0x40 * (c % 4) + 0x8, 11, 3, 0, .ro, .none⟩
/-- IDC PK_WARN, R329. -/
def IDC.PK_WARN (c : Nat) : Field := ⟨0x040100 + 0x1000 * (c / 4) + 0x40 * (c % 4) + 0x8, 14, 1, 0, .ro, .none⟩
/-- IDC I_NOW, R329. -/
def IDC.I_NOW (c : Nat) : Field := ⟨0x040100 + 0x1000 * (c / 4) + 0x40 * (c % 4) + 0x8, 16, 12, 0, .ro, .none⟩
/-- IDC PULSE_CNT, R329. -/
def IDC.PULSE_CNT (c : Nat) : Field := ⟨0x040100 + 0x1000 * (c / 4) + 0x40 * (c % 4) + 0xc, 0, 32, 0, .ro, .none⟩
/-- IDC OPEN_MISS, R329. -/
def IDC.OPEN_MISS (c : Nat) : Field := ⟨0x040100 + 0x1000 * (c / 4) + 0x40 * (c % 4) + 0x10, 0, 16, 0, .ro, .none⟩
/-- IDC SEAT_MISS, R329. -/
def IDC.SEAT_MISS (c : Nat) : Field := ⟨0x040100 + 0x1000 * (c / 4) + 0x40 * (c % 4) + 0x10, 16, 16, 0, .ro, .none⟩
/-- IDC OFS_CAL, R329. -/
def IDC.OFS_CAL (c : Nat) : Field := ⟨0x040100 + 0x1000 * (c / 4) + 0x40 * (c % 4) + 0x14, 0, 12, 0, .ro, .none⟩
/-- IDC TEMP_LAST, R329. -/
def IDC.TEMP_LAST (c : Nat) : Field := ⟨0x040100 + 0x1000 * (c / 4) + 0x40 * (c % 4) + 0x14, 16, 10, 0, .ro, .none⟩
/-- IDC HOLD_PULSES, R329. -/
def IDC.HOLD_PULSES (c : Nat) : Field := ⟨0x040100 + 0x1000 * (c / 4) + 0x40 * (c % 4) + 0x18, 0, 16, 0, .ro, .none⟩

/-! ### LSW bank registers (R362, Table 10.11) -/

/-- LSB LSW_PWM_FREQ, R362. -/
def LSB.LSW_PWM_FREQ : Field := ⟨0x048000 + 0x40, 0, 2, 1, .rws, .tick⟩
/-- LSB BANK_SUSP, R362. -/
def LSB.BANK_SUSP (b : Nat) : Field := ⟨0x048000 + 0x44, 8 * b, 1, 0, .ro, .none⟩
/-- LSB BANK_HI, R362. -/
def LSB.BANK_HI (b : Nat) : Field := ⟨0x048000 + 0x44, 8 * b + 1, 1, 0, .ro, .none⟩
/-- LSB I_BANK_A, R362. -/
def LSB.I_BANK_A : Field := ⟨0x048000 + 0x48, 0, 16, 0, .ro, .none⟩
/-- LSB I_BANK_B, R362. -/
def LSB.I_BANK_B : Field := ⟨0x048000 + 0x48, 16, 16, 0, .ro, .none⟩
/-- LSB I_BANK_C, R362. -/
def LSB.I_BANK_C : Field := ⟨0x048000 + 0x4c, 0, 16, 0, .ro, .none⟩
/-- LSB I_BANK_D, R362. -/
def LSB.I_BANK_D : Field := ⟨0x048000 + 0x4c, 16, 16, 0, .ro, .none⟩
/-- LSB INRUSH_CUT_CNT, R362. -/
def LSB.INRUSH_CUT_CNT : Field := ⟨0x048000 + 0x50, 0, 16, 0, .ro, .none⟩
/-- LSB BANK_OVL_CNT, R362. -/
def LSB.BANK_OVL_CNT : Field := ⟨0x048000 + 0x50, 16, 16, 0, .ro, .none⟩
/-- LSB BANK_WAIT_CNT, R362. -/
def LSB.BANK_WAIT_CNT : Field := ⟨0x048000 + 0x54, 0, 16, 0, .ro, .none⟩
/-- LSB REVERSE_CNT, R362. -/
def LSB.REVERSE_CNT : Field := ⟨0x048000 + 0x54, 16, 16, 0, .ro, .none⟩

/-! ### Load switch n (R362, Table 10.12) -/

/-- LSW ROLE, R362. -/
def LSW.ROLE (n : Nat) : Field := ⟨0x048100 + 0x1000 * (n / 8) + 0x40 * (n % 8) + 0x0, 0, 1, 0, .rws, .tick⟩
/-- LSW INRUSH_MODE, R362. -/
def LSW.INRUSH_MODE (n : Nat) : Field := ⟨0x048100 + 0x1000 * (n / 8) + 0x40 * (n % 8) + 0x0, 1, 2, 0, .rws, .tick⟩
/-- LSW LOAD_TYPE, R362. -/
def LSW.LOAD_TYPE (n : Nat) : Field := ⟨0x048100 + 0x1000 * (n / 8) + 0x40 * (n % 8) + 0x0, 3, 3, 0, .rws, .tick⟩
/-- LSW THERM_MODE, R362. -/
def LSW.THERM_MODE (n : Nat) : Field := ⟨0x048100 + 0x1000 * (n / 8) + 0x40 * (n % 8) + 0x0, 6, 1, 0, .rws, .tick⟩
/-- LSW SHED_ON_DIM, R362. -/
def LSW.SHED_ON_DIM (n : Nat) : Field := ⟨0x048100 + 0x1000 * (n / 8) + 0x40 * (n % 8) + 0x0, 7, 1, 0, .rws, .tick⟩
/-- LSW DUAL_FED, R362. -/
def LSW.DUAL_FED (n : Nat) : Field := ⟨0x048100 + 0x1000 * (n / 8) + 0x40 * (n % 8) + 0x0, 8, 1, 0, .rws, .tick⟩
/-- LSW OFF_DIAG_EN, R362. -/
def LSW.OFF_DIAG_EN (n : Nat) : Field := ⟨0x048100 + 0x1000 * (n / 8) + 0x40 * (n % 8) + 0x0, 9, 1, 1, .rws, .tick⟩
/-- LSW AUX_SRC, R362. -/
def LSW.AUX_SRC (n : Nat) : Field := ⟨0x048100 + 0x1000 * (n / 8) + 0x40 * (n % 8) + 0x0, 10, 3, 0, .rws, .tick⟩
/-- LSW AUX_SEL, R362. -/
def LSW.AUX_SEL (n : Nat) : Field := ⟨0x048100 + 0x1000 * (n / 8) + 0x40 * (n % 8) + 0x0, 13, 7, 0, .rws, .tick⟩
/-- LSW AUX_ON, R362. -/
def LSW.AUX_ON (n : Nat) : Field := ⟨0x048100 + 0x1000 * (n / 8) + 0x40 * (n % 8) + 0x0, 20, 1, 0, .rws, .tick⟩
/-- LSW AUX_FORCE, R362. -/
def LSW.AUX_FORCE (n : Nat) : Field := ⟨0x048100 + 0x1000 * (n / 8) + 0x40 * (n % 8) + 0x0, 21, 2, 0, .rws, .tick⟩
/-- LSW HOLD_WINDOW, R362. -/
def LSW.HOLD_WINDOW (n : Nat) : Field := ⟨0x048100 + 0x1000 * (n / 8) + 0x40 * (n % 8) + 0x0, 23, 7, 20, .rws, .tick⟩
/-- LSW I_NOM, R362. -/
def LSW.I_NOM (n : Nat) : Field := ⟨0x048100 + 0x1000 * (n / 8) + 0x40 * (n % 8) + 0x4, 0, 16, 1000, .rws, .tick⟩
/-- LSW I_BOOST, R362. -/
def LSW.I_BOOST (n : Nat) : Field := ⟨0x048100 + 0x1000 * (n / 8) + 0x40 * (n % 8) + 0x4, 16, 16, 2000, .rws, .tick⟩
/-- LSW T_BOOST, R362. -/
def LSW.T_BOOST (n : Nat) : Field := ⟨0x048100 + 0x1000 * (n / 8) + 0x40 * (n % 8) + 0x8, 0, 11, 20, .rws, .tick⟩
/-- LSW LIM_PCT, R362. -/
def LSW.LIM_PCT (n : Nat) : Field := ⟨0x048100 + 0x1000 * (n / 8) + 0x40 * (n % 8) + 0x8, 16, 9, 150, .rws, .tick⟩
/-- LSW RETRY_MAX, R362. -/
def LSW.RETRY_MAX (n : Nat) : Field := ⟨0x048100 + 0x1000 * (n / 8) + 0x40 * (n % 8) + 0x8, 25, 4, 3, .rws, .tick⟩
/-- LSW RETRY_WINDOW, R362. -/
def LSW.RETRY_WINDOW (n : Nat) : Field := ⟨0x048100 + 0x1000 * (n / 8) + 0x40 * (n % 8) + 0xc, 0, 16, 1000, .rws, .tick⟩
/-- LSW OVL_TIME, R362. -/
def LSW.OVL_TIME (n : Nat) : Field := ⟨0x048100 + 0x1000 * (n / 8) + 0x40 * (n % 8) + 0xc, 16, 16, 100, .rws, .tick⟩
/-- LSW AUX_DUTY, R362. -/
def LSW.AUX_DUTY (n : Nat) : Field := ⟨0x048100 + 0x1000 * (n / 8) + 0x40 * (n % 8) + 0x10, 0, 10, 1000, .rws, .tick⟩
/-- LSW OL_ON_MA, R362. -/
def LSW.OL_ON_MA (n : Nat) : Field := ⟨0x048100 + 0x1000 * (n / 8) + 0x40 * (n % 8) + 0x10, 16, 16, 50, .rws, .tick⟩
/-- LSW FLT_CLR, R362. -/
def LSW.FLT_CLR (n : Nat) : Field := ⟨0x048100 + 0x1000 * (n / 8) + 0x40 * (n % 8) + 0x14, 0, 1, 0, .wo, .now⟩
/-- LSW CH_STATE, R362. -/
def LSW.CH_STATE (n : Nat) : Field := ⟨0x048100 + 0x1000 * (n / 8) + 0x40 * (n % 8) + 0x18, 0, 4, 0, .ro, .none⟩
/-- LSW FAULT, R362. -/
def LSW.FAULT (n : Nat) : Field := ⟨0x048100 + 0x1000 * (n / 8) + 0x40 * (n % 8) + 0x18, 4, 4, 0, .ro, .none⟩
/-- LSW DIAG_OFF, R362. -/
def LSW.DIAG_OFF (n : Nat) : Field := ⟨0x048100 + 0x1000 * (n / 8) + 0x40 * (n % 8) + 0x18, 8, 3, 0, .ro, .none⟩
/-- LSW OUT_ON, R362. -/
def LSW.OUT_ON (n : Nat) : Field := ⟨0x048100 + 0x1000 * (n / 8) + 0x40 * (n % 8) + 0x18, 11, 1, 0, .ro, .none⟩
/-- LSW THERM_LATCH, R362. -/
def LSW.THERM_LATCH (n : Nat) : Field := ⟨0x048100 + 0x1000 * (n / 8) + 0x40 * (n % 8) + 0x18, 12, 1, 0, .ro, .none⟩
/-- LSW RESTARTS, R362. -/
def LSW.RESTARTS (n : Nat) : Field := ⟨0x048100 + 0x1000 * (n / 8) + 0x40 * (n % 8) + 0x18, 13, 4, 0, .ro, .none⟩
/-- LSW CFG_ERR, R362. -/
def LSW.CFG_ERR (n : Nat) : Field := ⟨0x048100 + 0x1000 * (n / 8) + 0x40 * (n % 8) + 0x18, 17, 3, 0, .ro, .none⟩
/-- LSW I_MEAS, R362. -/
def LSW.I_MEAS (n : Nat) : Field := ⟨0x048100 + 0x1000 * (n / 8) + 0x40 * (n % 8) + 0x1c, 0, 16, 0, .ro, .none⟩
/-- LSW CH_TEMP, R362. -/
def LSW.CH_TEMP (n : Nat) : Field := ⟨0x048100 + 0x1000 * (n / 8) + 0x40 * (n % 8) + 0x1c, 16, 10, 0, .ro, .none⟩
/-- LSW THERM_CNT, R362. -/
def LSW.THERM_CNT (n : Nat) : Field := ⟨0x048100 + 0x1000 * (n / 8) + 0x40 * (n % 8) + 0x20, 0, 16, 0, .ro, .none⟩
/-- LSW SW_ON_CNT, R362. -/
def LSW.SW_ON_CNT (n : Nat) : Field := ⟨0x048100 + 0x1000 * (n / 8) + 0x40 * (n % 8) + 0x20, 16, 16, 0, .ro, .none⟩

/-! ### WDG page (R363, Table 10.13) -/

/-- WDG WDG_EN, R363. -/
def WDG.WDG_EN : Field := ⟨0x003000 + 0x40, 0, 1, 0, .rwl, .now⟩
/-- WDG ERR_LIMIT, R363. -/
def WDG.ERR_LIMIT : Field := ⟨0x003000 + 0x40, 1, 3, 3, .rwl, .now⟩
/-- WDG SAFE_RELEASE, R363. -/
def WDG.SAFE_RELEASE : Field := ⟨0x003000 + 0x40, 4, 1, 1, .rwl, .now⟩
/-- WDG WIN_OPEN, R363. -/
def WDG.WIN_OPEN : Field := ⟨0x003000 + 0x44, 0, 16, 10, .rwl, .now⟩
/-- WDG WIN_CLOSE, R363. -/
def WDG.WIN_CLOSE : Field := ⟨0x003000 + 0x44, 16, 16, 100, .rwl, .now⟩
/-- WDG WDG_KEY, R363. -/
def WDG.WDG_KEY : Field := ⟨0x003000 + 0x48, 0, 16, 0, .rwl, .now⟩
/-- WDG CHALLENGE, R363. -/
def WDG.CHALLENGE : Field := ⟨0x003000 + 0x4c, 0, 16, 0, .ro, .none⟩
/-- WDG RESPONSE, R363. -/
def WDG.RESPONSE : Field := ⟨0x003000 + 0x50, 0, 16, 0, .wo, .now⟩
/-- WDG WDG_ARMED, R363. -/
def WDG.WDG_ARMED : Field := ⟨0x003000 + 0x54, 0, 1, 0, .ro, .none⟩
/-- WDG WDG_EXP, R363. -/
def WDG.WDG_EXP : Field := ⟨0x003000 + 0x54, 1, 1, 0, .ro, .none⟩
/-- WDG ERR_CNT, R363. -/
def WDG.ERR_CNT : Field := ⟨0x003000 + 0x54, 2, 3, 0, .ro, .none⟩
/-- WDG LAST_ERR, R363. -/
def WDG.LAST_ERR : Field := ⟨0x003000 + 0x54, 5, 2, 0, .ro, .none⟩
/-- WDG SAFE_LEVEL, R363. -/
def WDG.SAFE_LEVEL : Field := ⟨0x003000 + 0x54, 7, 1, 0, .ro, .none⟩
/-- WDG SAFE_LATCHED, R363. -/
def WDG.SAFE_LATCHED : Field := ⟨0x003000 + 0x54, 8, 1, 0, .ro, .none⟩
/-- WDG SNUFF_ACT, R363. -/
def WDG.SNUFF_ACT : Field := ⟨0x003000 + 0x54, 9, 1, 0, .ro, .none⟩
/-- WDG SNUFF_SYNC, R363. -/
def WDG.SNUFF_SYNC : Field := ⟨0x003000 + 0x54, 10, 1, 1, .ro, .none⟩
/-- WDG SNUFF_NOIMG, R363. -/
def WDG.SNUFF_NOIMG : Field := ⟨0x003000 + 0x54, 11, 1, 0, .ro, .none⟩
/-- WDG SAFE_CLR, R363. -/
def WDG.SAFE_CLR : Field := ⟨0x003000 + 0x58, 0, 1, 0, .wo, .now⟩
/-- WDG SNUFF_STORE, R363. -/
def WDG.SNUFF_STORE : Field := ⟨0x003000 + 0x58, 1, 1, 0, .wo, .now⟩
/-- WDG WDG_EXP_CNT, R363. -/
def WDG.WDG_EXP_CNT : Field := ⟨0x003000 + 0x5c, 0, 16, 0, .ro, .none⟩
/-- WDG SAFE_CNT, R363. -/
def WDG.SAFE_CNT : Field := ⟨0x003000 + 0x5c, 16, 16, 0, .ro, .none⟩
/-- WDG SNUFF_STATE, R363. -/
def WDG.SNUFF_STATE (i : Nat) : Field := ⟨0x003000 + 0x100 + 0x4 * i, 0, 2, 0, .rwl, .now⟩
/-- WDG SNUFF_DUTY, R363. -/
def WDG.SNUFF_DUTY (i : Nat) : Field := ⟨0x003000 + 0x100 + 0x4 * i, 2, 10, 0, .rwl, .now⟩
/-- WDG SNUFF_FREQ, R363. -/
def WDG.SNUFF_FREQ (i : Nat) : Field := ⟨0x003000 + 0x100 + 0x4 * i, 16, 16, 0, .rwl, .now⟩

/-! ### PWM page (R391, Table 11.5) -/

/-- PWM OUT_EN, R391. -/
def PWM.OUT_EN : Field := ⟨0x04A000 + 0x40, 0, 12, 0, .rw, .now⟩
/-- PWM UPD_HOLD, R391. -/
def PWM.UPD_HOLD : Field := ⟨0x04A000 + 0x40, 16, 1, 0, .rw, .now⟩
/-- PWM OWNED, R391. -/
def PWM.OWNED : Field := ⟨0x04A000 + 0x44, 0, 12, 0, .ro, .none⟩
/-- PWM MINP_DROP_CNT, R391. -/
def PWM.MINP_DROP_CNT : Field := ⟨0x04A000 + 0x48, 0, 16, 0, .ro, .none⟩
/-- PWM MINP_STR_CNT, R391. -/
def PWM.MINP_STR_CNT : Field := ⟨0x04A000 + 0x48, 16, 16, 0, .ro, .none⟩
/-- PWM DEAD, R391. -/
def PWM.DEAD (k : Nat) : Field := ⟨0x04A000 + 0x80 + 0x4 * k, 0, 10, 200, .rw, .period⟩
/-- PWM PAIR_EN, R391. -/
def PWM.PAIR_EN (k : Nat) : Field := ⟨0x04A000 + 0x80 + 0x4 * k, 16, 1, 0, .rw, .period⟩
/-- PWM ALIGN, R391. -/
def PWM.ALIGN (o : Nat) : Field := ⟨0x04A000 + 0x100 + 0x10 * o, 0, 1, 0, .rw, .period⟩
/-- PWM UPD_MODE, R391. -/
def PWM.UPD_MODE (o : Nat) : Field := ⟨0x04A000 + 0x100 + 0x10 * o, 1, 1, 0, .rw, .period⟩
/-- PWM POL, R391. -/
def PWM.POL (o : Nat) : Field := ⟨0x04A000 + 0x100 + 0x10 * o, 2, 1, 0, .rw, .period⟩
/-- PWM MINP_MODE, R391. -/
def PWM.MINP_MODE (o : Nat) : Field := ⟨0x04A000 + 0x100 + 0x10 * o, 3, 2, 0, .rw, .period⟩
/-- PWM PSC, R391. -/
def PWM.PSC (o : Nat) : Field := ⟨0x04A000 + 0x100 + 0x10 * o, 5, 4, 0, .rw, .period⟩
/-- PWM MIN_PULSE, R391. -/
def PWM.MIN_PULSE (o : Nat) : Field := ⟨0x04A000 + 0x100 + 0x10 * o, 16, 12, 100, .rw, .period⟩
/-- PWM PER, R391. -/
def PWM.PER (o : Nat) : Field := ⟨0x04A000 + 0x104 + 0x10 * o, 0, 16, 19999, .rw, .period⟩
/-- PWM CMP, R391. -/
def PWM.CMP (o : Nat) : Field := ⟨0x04A000 + 0x108 + 0x10 * o, 0, 16, 0, .rw, .period⟩
/-- PWM OUT_LVL, R391. -/
def PWM.OUT_LVL (o : Nat) : Field := ⟨0x04A000 + 0x10c + 0x10 * o, 0, 1, 0, .ro, .none⟩
/-- PWM TRIPPED, R391. -/
def PWM.TRIPPED (o : Nat) : Field := ⟨0x04A000 + 0x10c + 0x10 * o, 1, 1, 0, .ro, .none⟩
/-- PWM IN_SNUFF, R391. -/
def PWM.IN_SNUFF (o : Nat) : Field := ⟨0x04A000 + 0x10c + 0x10 * o, 2, 1, 0, .ro, .none⟩
/-- PWM CMP_ACT, R391. -/
def PWM.CMP_ACT (o : Nat) : Field := ⟨0x04A000 + 0x10c + 0x10 * o, 16, 16, 0, .ro, .none⟩

/-! ### TRIP page (R392, Table 11.6) -/

/-- TRIP TRIP_MAP, R392. -/
def TRIP.TRIP_MAP (t : Nat) : Field := ⟨0x04B000 + 0x40 + 0x4 * t, 0, 6, 0, .rw, .now⟩
/-- TRIP TRIP_POL, R392. -/
def TRIP.TRIP_POL (t : Nat) : Field := ⟨0x04B000 + 0x40 + 0x4 * t, 6, 1, 0, .rw, .now⟩
/-- TRIP TRIP_MODE, R392. -/
def TRIP.TRIP_MODE (t : Nat) : Field := ⟨0x04B000 + 0x40 + 0x4 * t, 7, 1, 0, .rw, .now⟩
/-- TRIP FILT, R392. -/
def TRIP.FILT (t : Nat) : Field := ⟨0x04B000 + 0x40 + 0x4 * t, 8, 4, 4, .rw, .now⟩
/-- TRIP TRIP_BLANK, R392. -/
def TRIP.TRIP_BLANK (t : Nat) : Field := ⟨0x04B000 + 0x40 + 0x4 * t, 16, 8, 25, .rw, .now⟩
/-- TRIP TRIP_LEVEL, R392. -/
def TRIP.TRIP_LEVEL : Field := ⟨0x04B000 + 0x50, 0, 4, 0, .ro, .none⟩
/-- TRIP TRIP_LATCHED, R392. -/
def TRIP.TRIP_LATCHED : Field := ⟨0x04B000 + 0x50, 4, 4, 0, .ro, .none⟩
/-- TRIP GRP_HELD, R392. -/
def TRIP.GRP_HELD : Field := ⟨0x04B000 + 0x50, 8, 6, 0, .ro, .none⟩
/-- TRIP TRIP_CLR, R392. -/
def TRIP.TRIP_CLR : Field := ⟨0x04B000 + 0x54, 0, 4, 0, .wo, .now⟩
/-- TRIP TRIP_CNT, R392. -/
def TRIP.TRIP_CNT : Field := ⟨0x04B000 + 0x58, 0, 32, 0, .ro, .none⟩

/-! ### FBK page n (R393, Table 11.7) -/

/-- FBK MODE, R393. -/
def FBK.MODE (n : Nat) : Field := ⟨0x050000 + 0x1000 * n + 0x40, 0, 2, 0, .rws, .tick⟩
/-- FBK EDGE_SEL, R393. -/
def FBK.EDGE_SEL (n : Nat) : Field := ⟨0x050000 + 0x1000 * n + 0x40, 2, 2, 0, .rws, .tick⟩
/-- FBK DIR_B, R393. -/
def FBK.DIR_B (n : Nat) : Field := ⟨0x050000 + 0x1000 * n + 0x40, 4, 1, 0, .rws, .tick⟩
/-- FBK INV, R393. -/
def FBK.INV (n : Nat) : Field := ⟨0x050000 + 0x1000 * n + 0x40, 5, 1, 0, .rws, .tick⟩
/-- FBK IDX_EN, R393. -/
def FBK.IDX_EN (n : Nat) : Field := ⟨0x050000 + 0x1000 * n + 0x40, 6, 1, 0, .rws, .tick⟩
/-- FBK IDX_HOME, R393. -/
def FBK.IDX_HOME (n : Nat) : Field := ⟨0x050000 + 0x1000 * n + 0x40, 7, 1, 0, .rws, .tick⟩
/-- FBK IDX_POLICY, R393. -/
def FBK.IDX_POLICY (n : Nat) : Field := ⟨0x050000 + 0x1000 * n + 0x40, 8, 2, 0, .rws, .tick⟩
/-- FBK SUSP_STALE, R393. -/
def FBK.SUSP_STALE (n : Nat) : Field := ⟨0x050000 + 0x1000 * n + 0x40, 10, 1, 0, .rws, .tick⟩
/-- FBK GLITCH, R393. -/
def FBK.GLITCH (n : Nat) : Field := ⟨0x050000 + 0x1000 * n + 0x40, 12, 4, 2, .rws, .tick⟩
/-- FBK WIN_MS, R393. -/
def FBK.WIN_MS (n : Nat) : Field := ⟨0x050000 + 0x1000 * n + 0x40, 16, 10, 100, .rws, .tick⟩
/-- FBK PER_MIN_EDGES, R393. -/
def FBK.PER_MIN_EDGES (n : Nat) : Field := ⟨0x050000 + 0x1000 * n + 0x44, 0, 8, 10, .rws, .tick⟩
/-- FBK ZERO_MS, R393. -/
def FBK.ZERO_MS (n : Nat) : Field := ⟨0x050000 + 0x1000 * n + 0x44, 8, 16, 1000, .rws, .tick⟩
/-- FBK IDX_PERIOD, R393. -/
def FBK.IDX_PERIOD (n : Nat) : Field := ⟨0x050000 + 0x1000 * n + 0x48, 0, 32, 0, .rws, .tick⟩
/-- FBK IDX_POS, R393. -/
def FBK.IDX_POS (n : Nat) : Field := ⟨0x050000 + 0x1000 * n + 0x4c, 0, 32, 0, .rws, .tick⟩
/-- FBK IDX_TOL, R393. -/
def FBK.IDX_TOL (n : Nat) : Field := ⟨0x050000 + 0x1000 * n + 0x50, 0, 16, 2, .rws, .tick⟩
/-- FBK SSI_BITS, R393. -/
def FBK.SSI_BITS (n : Nat) : Field := ⟨0x050000 + 0x1000 * n + 0x54, 0, 6, 24, .rws, .tick⟩
/-- FBK SSI_ERR_EN, R393. -/
def FBK.SSI_ERR_EN (n : Nat) : Field := ⟨0x050000 + 0x1000 * n + 0x54, 6, 1, 0, .rws, .tick⟩
/-- FBK SSI_ERR_POL, R393. -/
def FBK.SSI_ERR_POL (n : Nat) : Field := ⟨0x050000 + 0x1000 * n + 0x54, 7, 1, 0, .rws, .tick⟩
/-- FBK SSI_CRC_W, R393. -/
def FBK.SSI_CRC_W (n : Nat) : Field := ⟨0x050000 + 0x1000 * n + 0x54, 8, 4, 0, .rws, .tick⟩
/-- FBK SSI_CRC_INV, R393. -/
def FBK.SSI_CRC_INV (n : Nat) : Field := ⟨0x050000 + 0x1000 * n + 0x54, 12, 1, 0, .rws, .tick⟩
/-- FBK SSI_GRAY, R393. -/
def FBK.SSI_GRAY (n : Nat) : Field := ⟨0x050000 + 0x1000 * n + 0x54, 13, 1, 0, .rws, .tick⟩
/-- FBK SSI_CLK, R393. -/
def FBK.SSI_CLK (n : Nat) : Field := ⟨0x050000 + 0x1000 * n + 0x54, 16, 8, 50, .rws, .tick⟩
/-- FBK SSI_CRC_POLY, R393. -/
def FBK.SSI_CRC_POLY (n : Nat) : Field := ⟨0x050000 + 0x1000 * n + 0x58, 0, 8, 0, .rws, .tick⟩
/-- FBK SSI_LEAD, R393. -/
def FBK.SSI_LEAD (n : Nat) : Field := ⟨0x050000 + 0x1000 * n + 0x58, 8, 16, 100, .rws, .tick⟩
/-- FBK SSI_TMO, R393. -/
def FBK.SSI_TMO (n : Nat) : Field := ⟨0x050000 + 0x1000 * n + 0x58, 24, 8, 40, .rws, .tick⟩
/-- FBK POS_VAL, R393. -/
def FBK.POS_VAL (n : Nat) : Field := ⟨0x050000 + 0x1000 * n + 0x5c, 0, 32, 0, .rw, .now⟩
/-- FBK POS_LOAD, R393. -/
def FBK.POS_LOAD (n : Nat) : Field := ⟨0x050000 + 0x1000 * n + 0x60, 0, 1, 0, .wo, .now⟩
/-- FBK FBK_CLR, R393. -/
def FBK.FBK_CLR (n : Nat) : Field := ⟨0x050000 + 0x1000 * n + 0x60, 1, 1, 0, .wo, .now⟩
/-- FBK POS, R393. -/
def FBK.POS (n : Nat) : Field := ⟨0x050000 + 0x1000 * n + 0x80, 0, 32, 0, .ro, .none⟩
/-- FBK FREQ, R393. -/
def FBK.FREQ (n : Nat) : Field := ⟨0x050000 + 0x1000 * n + 0x84, 0, 32, 0, .ro, .none⟩
/-- FBK FREQ_DT_LO, R393. -/
def FBK.FREQ_DT_LO (n : Nat) : Field := ⟨0x050000 + 0x1000 * n + 0x88, 0, 32, 0, .ro, .none⟩
/-- FBK FREQ_DT_HI, R393. -/
def FBK.FREQ_DT_HI (n : Nat) : Field := ⟨0x050000 + 0x1000 * n + 0x8c, 0, 32, 0, .ro, .none⟩
/-- FBK METHOD, R393. -/
def FBK.METHOD (n : Nat) : Field := ⟨0x050000 + 0x1000 * n + 0x90, 0, 2, 0, .ro, .none⟩
/-- FBK IDX_SYNC, R393. -/
def FBK.IDX_SYNC (n : Nat) : Field := ⟨0x050000 + 0x1000 * n + 0x90, 2, 1, 0, .ro, .none⟩
/-- FBK SUSPECT, R393. -/
def FBK.SUSPECT (n : Nat) : Field := ⟨0x050000 + 0x1000 * n + 0x90, 3, 1, 0, .ro, .none⟩
/-- FBK IDX_MISSING, R393. -/
def FBK.IDX_MISSING (n : Nat) : Field := ⟨0x050000 + 0x1000 * n + 0x90, 4, 1, 0, .ro, .none⟩
/-- FBK MISS_RUN, R393. -/
def FBK.MISS_RUN (n : Nat) : Field := ⟨0x050000 + 0x1000 * n + 0x90, 5, 2, 0, .ro, .none⟩
/-- FBK SSI_ERR_LAST, R393. -/
def FBK.SSI_ERR_LAST (n : Nat) : Field := ⟨0x050000 + 0x1000 * n + 0x90, 7, 3, 0, .ro, .none⟩
/-- FBK IDX_CAPT, R393. -/
def FBK.IDX_CAPT (n : Nat) : Field := ⟨0x050000 + 0x1000 * n + 0x94, 0, 32, 0, .ro, .none⟩
/-- FBK IDX_ERR, R393. -/
def FBK.IDX_ERR (n : Nat) : Field := ⟨0x050000 + 0x1000 * n + 0x98, 0, 32, 0, .ro, .none⟩
/-- FBK IDX_MISMATCH_CNT, R393. -/
def FBK.IDX_MISMATCH_CNT (n : Nat) : Field := ⟨0x050000 + 0x1000 * n + 0x9c, 0, 16, 0, .ro, .none⟩
/-- FBK SSI_ERR_CNT, R393. -/
def FBK.SSI_ERR_CNT (n : Nat) : Field := ⟨0x050000 + 0x1000 * n + 0x9c, 16, 16, 0, .ro, .none⟩
/-- FBK LAST_EDGE_DT_LO, R393. -/
def FBK.LAST_EDGE_DT_LO (n : Nat) : Field := ⟨0x050000 + 0x1000 * n + 0xa0, 0, 32, 0, .ro, .none⟩
/-- FBK LAST_EDGE_DT_HI, R393. -/
def FBK.LAST_EDGE_DT_HI (n : Nat) : Field := ⟨0x050000 + 0x1000 * n + 0xa4, 0, 32, 0, .ro, .none⟩

/-! ### GIN page (R394, Table 11.8) -/

/-- GIN GIN_STATE, R394. -/
def GIN.GIN_STATE : Field := ⟨0x04C000 + 0x40, 0, 24, 0, .ro, .none⟩
/-- GIN PULL, R394. -/
def GIN.PULL : Field := ⟨0x04C000 + 0x44, 0, 24, 0, .rw, .now⟩
/-- GIN GIN_EVT_EN, R394. -/
def GIN.GIN_EVT_EN : Field := ⟨0x04C000 + 0x48, 0, 24, 0, .rw, .now⟩
/-- GIN GIN_CHG, R394. -/
def GIN.GIN_CHG : Field := ⟨0x04C000 + 0x4c, 0, 24, 0, .w1c, .now⟩
/-- GIN PLAIN_SPEED, R394. -/
def GIN.PLAIN_SPEED : Field := ⟨0x04C000 + 0x50, 0, 16, 0, .ro, .none⟩
/-- GIN PLAIN_GATE, R394. -/
def GIN.PLAIN_GATE : Field := ⟨0x04C000 + 0x50, 16, 1, 0, .ro, .none⟩
/-- GIN DEB_MS, R394. -/
def GIN.DEB_MS (i : Nat) : Field := ⟨0x04C000 + 0x80 + 4 * (i / 4), 8 * (i % 4), 8, 10, .rw, .now⟩

/-! ### CAN page n (R426, Table 12.18) -/

/-- CAN PROTO, R426. -/
def CAN.PROTO (n : Nat) : Field := ⟨0x060000 + 0x1000 * n + 0x40, 0, 2, 0, .rws, .tick⟩
/-- CAN FRAME, R426. -/
def CAN.FRAME (n : Nat) : Field := ⟨0x060000 + 0x1000 * n + 0x40, 2, 2, 0, .rws, .tick⟩
/-- CAN LISTEN, R426. -/
def CAN.LISTEN (n : Nat) : Field := ⟨0x060000 + 0x1000 * n + 0x40, 4, 1, 0, .rws, .tick⟩
/-- CAN TDC_EN, R426. -/
def CAN.TDC_EN (n : Nat) : Field := ⟨0x060000 + 0x1000 * n + 0x40, 5, 1, 1, .rws, .tick⟩
/-- CAN XL_SDT, R426. -/
def CAN.XL_SDT (n : Nat) : Field := ⟨0x060000 + 0x1000 * n + 0x40, 8, 8, 0x1, .rws, .tick⟩
/-- CAN XL_VCID, R426. -/
def CAN.XL_VCID (n : Nat) : Field := ⟨0x060000 + 0x1000 * n + 0x40, 16, 8, 0, .rws, .tick⟩
/-- CAN NBRP, R426. -/
def CAN.NBRP (n : Nat) : Field := ⟨0x060000 + 0x1000 * n + 0x44, 0, 5, 2, .rws, .tick⟩
/-- CAN NTSEG1, R426. -/
def CAN.NTSEG1 (n : Nat) : Field := ⟨0x060000 + 0x1000 * n + 0x44, 5, 8, 69, .rws, .tick⟩
/-- CAN NTSEG2, R426. -/
def CAN.NTSEG2 (n : Nat) : Field := ⟨0x060000 + 0x1000 * n + 0x44, 13, 7, 10, .rws, .tick⟩
/-- CAN NSJW, R426. -/
def CAN.NSJW (n : Nat) : Field := ⟨0x060000 + 0x1000 * n + 0x44, 20, 7, 10, .rws, .tick⟩
/-- CAN DBRP, R426. -/
def CAN.DBRP (n : Nat) : Field := ⟨0x060000 + 0x1000 * n + 0x48, 0, 5, 1, .rws, .tick⟩
/-- CAN DTSEG1, R426. -/
def CAN.DTSEG1 (n : Nat) : Field := ⟨0x060000 + 0x1000 * n + 0x48, 5, 6, 7, .rws, .tick⟩
/-- CAN DTSEG2, R426. -/
def CAN.DTSEG2 (n : Nat) : Field := ⟨0x060000 + 0x1000 * n + 0x48, 11, 5, 2, .rws, .tick⟩
/-- CAN DSJW, R426. -/
def CAN.DSJW (n : Nat) : Field := ⟨0x060000 + 0x1000 * n + 0x48, 16, 5, 2, .rws, .tick⟩
/-- CAN TDCO, R426. -/
def CAN.TDCO (n : Nat) : Field := ⟨0x060000 + 0x1000 * n + 0x4c, 0, 8, 8, .rws, .tick⟩
/-- CAN XL_AF, R426. -/
def CAN.XL_AF (n : Nat) : Field := ⟨0x060000 + 0x1000 * n + 0x50, 0, 32, 0, .rws, .tick⟩
/-- CAN ABD_START, R426. -/
def CAN.ABD_START (n : Nat) : Field := ⟨0x060000 + 0x1000 * n + 0x54, 0, 1, 0, .wo, .now⟩
/-- CAN BUS_ON, R426. -/
def CAN.BUS_ON (n : Nat) : Field := ⟨0x060000 + 0x1000 * n + 0x54, 1, 1, 0, .wo, .now⟩
/-- CAN CAN_STATE, R426. -/
def CAN.CAN_STATE (n : Nat) : Field := ⟨0x060000 + 0x1000 * n + 0x58, 0, 3, 0, .ro, .none⟩
/-- CAN CFG_ERR, R426. -/
def CAN.CFG_ERR (n : Nat) : Field := ⟨0x060000 + 0x1000 * n + 0x58, 3, 3, 0, .ro, .none⟩
/-- CAN ABD_STATE, R426. -/
def CAN.ABD_STATE (n : Nat) : Field := ⟨0x060000 + 0x1000 * n + 0x58, 6, 3, 0, .ro, .none⟩
/-- CAN TEC, R426. -/
def CAN.TEC (n : Nat) : Field := ⟨0x060000 + 0x1000 * n + 0x58, 16, 8, 0, .ro, .none⟩
/-- CAN REC_ERR, R426. -/
def CAN.REC_ERR (n : Nat) : Field := ⟨0x060000 + 0x1000 * n + 0x58, 24, 8, 0, .ro, .none⟩
/-- CAN ABD_NOM, R426. -/
def CAN.ABD_NOM (n : Nat) : Field := ⟨0x060000 + 0x1000 * n + 0x5c, 0, 4, 0, .ro, .none⟩
/-- CAN ABD_DATA, R426. -/
def CAN.ABD_DATA (n : Nat) : Field := ⟨0x060000 + 0x1000 * n + 0x5c, 4, 4, 0, .ro, .none⟩
/-- CAN ABD_FRAMES, R426. -/
def CAN.ABD_FRAMES (n : Nat) : Field := ⟨0x060000 + 0x1000 * n + 0x5c, 8, 8, 4, .rw, .now⟩
/-- CAN ABD_TMO, R426. -/
def CAN.ABD_TMO (n : Nat) : Field := ⟨0x060000 + 0x1000 * n + 0x5c, 16, 16, 5000, .rw, .now⟩
/-- CAN LOAD_LAST, R426. -/
def CAN.LOAD_LAST (n : Nat) : Field := ⟨0x060000 + 0x1000 * n + 0x60, 0, 8, 0, .ro, .none⟩
/-- CAN LOAD_MAX, R426. -/
def CAN.LOAD_MAX (n : Nat) : Field := ⟨0x060000 + 0x1000 * n + 0x60, 8, 8, 0, .ro, .none⟩
/-- CAN RXQ_CNT, R426. -/
def CAN.RXQ_CNT (n : Nat) : Field := ⟨0x060000 + 0x1000 * n + 0x64, 0, 6, 0, .ro, .none⟩
/-- CAN SHADOW_FULL, R426. -/
def CAN.SHADOW_FULL (n : Nat) : Field := ⟨0x060000 + 0x1000 * n + 0x64, 6, 1, 0, .ro, .none⟩
/-- CAN RX_HEAD, R426. -/
def CAN.RX_HEAD (n : Nat) : Field := ⟨0x060000 + 0x1000 * n + 0x64, 8, 5, 0, .ro, .none⟩
/-- CAN RX_ACK, R426. -/
def CAN.RX_ACK (n : Nat) : Field := ⟨0x060000 + 0x1000 * n + 0x68, 0, 6, 0, .wo, .now⟩
/-- CAN RX_DROP, R426. -/
def CAN.RX_DROP (n : Nat) : Field := ⟨0x060000 + 0x1000 * n + 0x6c, 0, 16, 0, .ro, .none⟩
/-- CAN RTR_IGN, R426. -/
def CAN.RTR_IGN (n : Nat) : Field := ⟨0x060000 + 0x1000 * n + 0x6c, 16, 16, 0, .ro, .none⟩
/-- CAN XL_OVERSIZE, R426. -/
def CAN.XL_OVERSIZE (n : Nat) : Field := ⟨0x060000 + 0x1000 * n + 0x70, 0, 16, 0, .ro, .none⟩
/-- CAN XL_MISMATCH, R426. -/
def CAN.XL_MISMATCH (n : Nat) : Field := ⟨0x060000 + 0x1000 * n + 0x70, 16, 16, 0, .ro, .none⟩
/-- CAN TX_ID, R426. -/
def CAN.TX_ID (n : Nat) : Field := ⟨0x060000 + 0x1000 * n + 0x74, 0, 29, 0, .rw, .now⟩
/-- CAN TX_IDE, R426. -/
def CAN.TX_IDE (n : Nat) : Field := ⟨0x060000 + 0x1000 * n + 0x74, 29, 1, 0, .rw, .now⟩
/-- CAN TX_LEN, R426. -/
def CAN.TX_LEN (n : Nat) : Field := ⟨0x060000 + 0x1000 * n + 0x78, 0, 7, 0, .rw, .now⟩
/-- CAN TX_BRS, R426. -/
def CAN.TX_BRS (n : Nat) : Field := ⟨0x060000 + 0x1000 * n + 0x78, 7, 1, 0, .rw, .now⟩
/-- CAN TX_GO, R426. -/
def CAN.TX_GO (n : Nat) : Field := ⟨0x060000 + 0x1000 * n + 0x78, 8, 1, 0, .wo, .now⟩
/-- CAN TX_BUSY, R426. -/
def CAN.TX_BUSY (n : Nat) : Field := ⟨0x060000 + 0x1000 * n + 0x78, 9, 1, 0, .ro, .none⟩
/-- CAN TX_REFUSED, R426. -/
def CAN.TX_REFUSED (n : Nat) : Field := ⟨0x060000 + 0x1000 * n + 0x78, 10, 1, 0, .ro, .none⟩
/-- CAN TX_DATA, R426. -/
def CAN.TX_DATA (n : Nat) (i : Nat) : Field := ⟨0x060000 + 0x1000 * n + 0x100 + 0x4 * i, 0, 32, 0, .rw, .now⟩

/-! ### ISO 11783 registers of CANn (R426, Table 12.19) -/

/-- ISO ISO_NAME_LO, R426. -/
def ISO.ISO_NAME_LO (n : Nat) : Field := ⟨0x060000 + 0x1000 * n + 0x80, 0, 32, 0, .rws, .tick⟩
/-- ISO ISO_NAME_HI, R426. -/
def ISO.ISO_NAME_HI (n : Nat) : Field := ⟨0x060000 + 0x1000 * n + 0x84, 0, 32, 0, .rws, .tick⟩
/-- ISO PREF_SA, R426. -/
def ISO.PREF_SA (n : Nat) : Field := ⟨0x060000 + 0x1000 * n + 0x88, 0, 8, 128, .rws, .tick⟩
/-- ISO SA_ACT, R426. -/
def ISO.SA_ACT (n : Nat) : Field := ⟨0x060000 + 0x1000 * n + 0x88, 8, 8, 254, .ro, .none⟩
/-- ISO CLAIMED, R426. -/
def ISO.CLAIMED (n : Nat) : Field := ⟨0x060000 + 0x1000 * n + 0x88, 16, 1, 0, .ro, .none⟩
/-- ISO CANNOT_CLAIM, R426. -/
def ISO.CANNOT_CLAIM (n : Nat) : Field := ⟨0x060000 + 0x1000 * n + 0x88, 17, 1, 0, .ro, .none⟩
/-- ISO SPD_SA, R426. -/
def ISO.SPD_SA (n : Nat) : Field := ⟨0x060000 + 0x1000 * n + 0x8c, 0, 8, 0xff, .rws, .tick⟩
/-- ISO NAV_SA, R426. -/
def ISO.NAV_SA (n : Nat) : Field := ⟨0x060000 + 0x1000 * n + 0x8c, 8, 8, 0xff, .rws, .tick⟩
/-- ISO TP_CTS_PKTS, R426. -/
def ISO.TP_CTS_PKTS (n : Nat) : Field := ⟨0x060000 + 0x1000 * n + 0x8c, 16, 8, 16, .rws, .tick⟩
/-- ISO UERE_FIX, R426. -/
def ISO.UERE_FIX (n : Nat) : Field := ⟨0x060000 + 0x1000 * n + 0x90, 0, 16, 20, .rws, .tick⟩
/-- ISO UERE_FLOAT, R426. -/
def ISO.UERE_FLOAT (n : Nat) : Field := ⟨0x060000 + 0x1000 * n + 0x90, 16, 16, 200, .rws, .tick⟩
/-- ISO UERE_STD, R426. -/
def ISO.UERE_STD (n : Nat) : Field := ⟨0x060000 + 0x1000 * n + 0x94, 0, 16, 2000, .rws, .tick⟩
/-- ISO NAV_VSIG, R426. -/
def ISO.NAV_VSIG (n : Nat) : Field := ⟨0x060000 + 0x1000 * n + 0x94, 16, 16, 100, .rws, .tick⟩
/-- ISO TP_RX_LEN, R426. -/
def ISO.TP_RX_LEN (n : Nat) : Field := ⟨0x060000 + 0x1000 * n + 0xa0, 0, 17, 0, .ro, .none⟩
/-- ISO TP_RX_FULL, R426. -/
def ISO.TP_RX_FULL (n : Nat) : Field := ⟨0x060000 + 0x1000 * n + 0xa0, 17, 1, 0, .ro, .none⟩
/-- ISO TP_RX_PGN, R426. -/
def ISO.TP_RX_PGN (n : Nat) : Field := ⟨0x060000 + 0x1000 * n + 0xa4, 0, 18, 0, .ro, .none⟩
/-- ISO TP_RX_SA, R426. -/
def ISO.TP_RX_SA (n : Nat) : Field := ⟨0x060000 + 0x1000 * n + 0xa4, 18, 8, 0, .ro, .none⟩
/-- ISO TP_RX_ACK, R426. -/
def ISO.TP_RX_ACK (n : Nat) : Field := ⟨0x060000 + 0x1000 * n + 0xa8, 0, 1, 0, .wo, .now⟩
/-- ISO TP_REFUSED, R426. -/
def ISO.TP_REFUSED (n : Nat) : Field := ⟨0x060000 + 0x1000 * n + 0xac, 0, 16, 0, .ro, .none⟩
/-- ISO TP_TX_LEN, R426. -/
def ISO.TP_TX_LEN (n : Nat) : Field := ⟨0x060000 + 0x1000 * n + 0xb0, 0, 17, 0, .rw, .now⟩
/-- ISO TP_TX_PGN, R426. -/
def ISO.TP_TX_PGN (n : Nat) : Field := ⟨0x060000 + 0x1000 * n + 0xb4, 0, 18, 0, .rw, .now⟩
/-- ISO TP_TX_DA, R426. -/
def ISO.TP_TX_DA (n : Nat) : Field := ⟨0x060000 + 0x1000 * n + 0xb4, 18, 8, 0xff, .rw, .now⟩
/-- ISO TP_TX_GO, R426. -/
def ISO.TP_TX_GO (n : Nat) : Field := ⟨0x060000 + 0x1000 * n + 0xb8, 0, 1, 0, .wo, .now⟩
/-- ISO TP_TX_BUSY, R426. -/
def ISO.TP_TX_BUSY (n : Nat) : Field := ⟨0x060000 + 0x1000 * n + 0xb8, 1, 1, 0, .ro, .none⟩
/-- ISO TP_TX_RES, R426. -/
def ISO.TP_TX_RES (n : Nat) : Field := ⟨0x060000 + 0x1000 * n + 0xb8, 2, 2, 0, .ro, .none⟩

/-! ### VNP registers of CANn, n = 2 to 5 (R426, Table 12.20) -/

/-- VNP RPT_DIV, R426. -/
def VNP.RPT_DIV (n : Nat) : Field := ⟨0x060000 + 0x1000 * n + 0x80, 0, 8, 8, .rws, .tick⟩
/-- VNP BCN_TMO, R426. -/
def VNP.BCN_TMO (n : Nat) : Field := ⟨0x060000 + 0x1000 * n + 0x80, 8, 8, 20, .rws, .tick⟩
/-- VNP STAT_DIV, R426. -/
def VNP.STAT_DIV (n : Nat) : Field := ⟨0x060000 + 0x1000 * n + 0x80, 16, 16, 100, .rws, .tick⟩
/-- VNP SHADE_TIME, R426. -/
def VNP.SHADE_TIME (n : Nat) : Field := ⟨0x060000 + 0x1000 * n + 0x84, 0, 16, 2000, .rws, .tick⟩
/-- VNP SHADE_NODES, R426. -/
def VNP.SHADE_NODES (n : Nat) : Field := ⟨0x060000 + 0x1000 * n + 0x84, 16, 6, 8, .rws, .tick⟩
/-- VNP SHADE_EN, R426. -/
def VNP.SHADE_EN (n : Nat) : Field := ⟨0x060000 + 0x1000 * n + 0x84, 22, 1, 1, .rws, .tick⟩
/-- VNP FLT_REP, R426. -/
def VNP.FLT_REP (n : Nat) : Field := ⟨0x060000 + 0x1000 * n + 0x88, 0, 16, 1000, .rws, .tick⟩
/-- VNP NODE_READY_LO, R426. -/
def VNP.NODE_READY_LO (n : Nat) : Field := ⟨0x060000 + 0x1000 * n + 0x8c, 0, 32, 0, .ro, .none⟩
/-- VNP NODE_READY_HI, R426. -/
def VNP.NODE_READY_HI (n : Nat) : Field := ⟨0x060000 + 0x1000 * n + 0x90, 0, 32, 0, .ro, .none⟩
/-- VNP SHADE_ACT, R426. -/
def VNP.SHADE_ACT (n : Nat) : Field := ⟨0x060000 + 0x1000 * n + 0x94, 0, 1, 0, .ro, .none⟩
/-- VNP BUS_SUPPLY, R426. -/
def VNP.BUS_SUPPLY (n : Nat) : Field := ⟨0x060000 + 0x1000 * n + 0x94, 1, 1, 0, .ro, .none⟩
/-- VNP SHADE_REM, R426. -/
def VNP.SHADE_REM (n : Nat) : Field := ⟨0x060000 + 0x1000 * n + 0x94, 16, 16, 0, .ro, .none⟩
/-- VNP NEW_UID_LO, R426. -/
def VNP.NEW_UID_LO (n : Nat) : Field := ⟨0x060000 + 0x1000 * n + 0x98, 0, 32, 0, .ro, .none⟩
/-- VNP NEW_UID_HI, R426. -/
def VNP.NEW_UID_HI (n : Nat) : Field := ⟨0x060000 + 0x1000 * n + 0x9c, 0, 32, 0, .ro, .none⟩
/-- VNP NEW_CNT, R426. -/
def VNP.NEW_CNT (n : Nat) : Field := ⟨0x060000 + 0x1000 * n + 0xa0, 0, 5, 0, .ro, .none⟩
/-- VNP NEW_NEXT, R426. -/
def VNP.NEW_NEXT (n : Nat) : Field := ⟨0x060000 + 0x1000 * n + 0xa0, 5, 1, 0, .wo, .now⟩
/-- VNP POLL_NODE, R426. -/
def VNP.POLL_NODE (n : Nat) : Field := ⟨0x060000 + 0x1000 * n + 0xa0, 16, 6, 0, .rw, .now⟩
/-- VNP POLL_GO, R426. -/
def VNP.POLL_GO (n : Nat) : Field := ⟨0x060000 + 0x1000 * n + 0xa0, 22, 1, 0, .wo, .now⟩
/-- VNP RPT_STALE, R426. -/
def VNP.RPT_STALE (n : Nat) : Field := ⟨0x060000 + 0x1000 * n + 0xa4, 0, 16, 0, .ro, .none⟩
/-- VNP VNP_UNKNOWN, R426. -/
def VNP.VNP_UNKNOWN (n : Nat) : Field := ⟨0x060000 + 0x1000 * n + 0xa4, 16, 16, 0, .ro, .none⟩
/-- VNP NODE_IDX, R426. -/
def VNP.NODE_IDX (n : Nat) : Field := ⟨0x060000 + 0x1000 * n + 0xc0, 0, 6, 0, .rw, .now⟩
/-- VNP NODE_STATE, R426. -/
def VNP.NODE_STATE (n : Nat) : Field := ⟨0x060000 + 0x1000 * n + 0xc4, 0, 2, 0, .ro, .none⟩
/-- VNP N_PTS_M1, R426. -/
def VNP.N_PTS_M1 (n : Nat) : Field := ⟨0x060000 + 0x1000 * n + 0xc4, 2, 4, 0, .ro, .none⟩
/-- VNP LAT_RPT, R426. -/
def VNP.LAT_RPT (n : Nat) : Field := ⟨0x060000 + 0x1000 * n + 0xc4, 6, 1, 0, .ro, .none⟩
/-- VNP N_SNUFFED, R426. -/
def VNP.N_SNUFFED (n : Nat) : Field := ⟨0x060000 + 0x1000 * n + 0xc4, 7, 1, 0, .ro, .none⟩
/-- VNP PT_ERR, R426. -/
def VNP.PT_ERR (n : Nat) : Field := ⟨0x060000 + 0x1000 * n + 0xc4, 8, 1, 0, .ro, .none⟩
/-- VNP VNP_VER, R426. -/
def VNP.VNP_VER (n : Nat) : Field := ⟨0x060000 + 0x1000 * n + 0xc4, 16, 8, 0, .ro, .none⟩
/-- VNP N_TEMP, R426. -/
def VNP.N_TEMP (n : Nat) : Field := ⟨0x060000 + 0x1000 * n + 0xc4, 24, 8, 0, .ro, .none⟩
/-- VNP N_VSUP, R426. -/
def VNP.N_VSUP (n : Nat) : Field := ⟨0x060000 + 0x1000 * n + 0xc8, 0, 16, 0, .ro, .none⟩
/-- VNP N_PT_STATE, R426. -/
def VNP.N_PT_STATE (n : Nat) : Field := ⟨0x060000 + 0x1000 * n + 0xc8, 16, 16, 0, .ro, .none⟩
/-- VNP N_UID_LO, R426. -/
def VNP.N_UID_LO (n : Nat) : Field := ⟨0x060000 + 0x1000 * n + 0xcc, 0, 32, 0, .ro, .none⟩
/-- VNP N_UID_HI, R426. -/
def VNP.N_UID_HI (n : Nat) : Field := ⟨0x060000 + 0x1000 * n + 0xd0, 0, 32, 0, .ro, .none⟩
/-- VNP VENDOR, R426. -/
def VNP.VENDOR (n : Nat) : Field := ⟨0x060000 + 0x1000 * n + 0xd4, 0, 16, 0, .ro, .none⟩
/-- VNP N_RX_LATE, R426. -/
def VNP.N_RX_LATE (n : Nat) : Field := ⟨0x060000 + 0x1000 * n + 0xd4, 16, 8, 0, .ro, .none⟩
/-- VNP N_RECORDS, R426. -/
def VNP.N_RECORDS (n : Nat) : Field := ⟨0x060000 + 0x1000 * n + 0xd8, 0, 16, 0, .ro, .none⟩
/-- VNP N_FAULTS, R426. -/
def VNP.N_FAULTS (n : Nat) : Field := ⟨0x060000 + 0x1000 * n + 0xd8, 16, 16, 0, .ro, .none⟩

/-! ### KSP page n (R452, Table 13.12) -/

/-- KSP KSP_EN, R452. -/
def KSP.KSP_EN (n : Nat) : Field := ⟨0x070000 + 0x1000 * n + 0x40, 0, 1, 1, .rw, .now⟩
/-- KSP KSP_MODE, R452. -/
def KSP.KSP_MODE (n : Nat) : Field := ⟨0x070000 + 0x1000 * n + 0x40, 1, 1, n, .rw, .now⟩
/-- KSP MAX_WIDTH, R452. -/
def KSP.MAX_WIDTH (n : Nat) : Field := ⟨0x070000 + 0x1000 * n + 0x40, 2, 2, 2, .rw, .now⟩
/-- KSP TSYNC_DIV, R452. -/
def KSP.TSYNC_DIV (n : Nat) : Field := ⟨0x070000 + 0x1000 * n + 0x40, 8, 8, 10, .rw, .now⟩
/-- KSP LINK_STATE, R452. -/
def KSP.LINK_STATE (n : Nat) : Field := ⟨0x070000 + 0x1000 * n + 0x44, 0, 3, 0, .ro, .none⟩
/-- KSP WIDTH, R452. -/
def KSP.WIDTH (n : Nat) : Field := ⟨0x070000 + 0x1000 * n + 0x44, 3, 2, 0, .ro, .none⟩
/-- KSP LANE_LOCK, R452. -/
def KSP.LANE_LOCK (n : Nat) : Field := ⟨0x070000 + 0x1000 * n + 0x44, 5, 4, 0, .ro, .none⟩
/-- KSP FAR_END, R452. -/
def KSP.FAR_END (n : Nat) : Field := ⟨0x070000 + 0x1000 * n + 0x44, 9, 2, 0, .ro, .none⟩
/-- KSP CRC_ERR, R452. -/
def KSP.CRC_ERR (n : Nat) : Field := ⟨0x070000 + 0x1000 * n + 0x48, 0, 16, 0, .ro, .none⟩
/-- KSP REPLAY_CNT, R452. -/
def KSP.REPLAY_CNT (n : Nat) : Field := ⟨0x070000 + 0x1000 * n + 0x48, 16, 16, 0, .ro, .none⟩
/-- KSP RETRAIN_CNT, R452. -/
def KSP.RETRAIN_CNT (n : Nat) : Field := ⟨0x070000 + 0x1000 * n + 0x4c, 0, 16, 0, .ro, .none⟩
/-- KSP DOWN_CNT, R452. -/
def KSP.DOWN_CNT (n : Nat) : Field := ⟨0x070000 + 0x1000 * n + 0x4c, 16, 16, 0, .ro, .none⟩
/-- KSP RX_DISCARD, R452. -/
def KSP.RX_DISCARD (n : Nat) : Field := ⟨0x070000 + 0x1000 * n + 0x50, 0, 16, 0, .ro, .none⟩
/-- KSP TRAIN_FAIL, R452. -/
def KSP.TRAIN_FAIL (n : Nat) : Field := ⟨0x070000 + 0x1000 * n + 0x50, 16, 16, 0, .ro, .none⟩
/-- KSP RETRAIN, R452. -/
def KSP.RETRAIN (n : Nat) : Field := ⟨0x070000 + 0x1000 * n + 0x54, 0, 1, 0, .wo, .now⟩
/-- KSP TX_MBPS, R452. -/
def KSP.TX_MBPS (n : Nat) (k : Nat) : Field := ⟨0x070000 + 0x1000 * n + 0x60 + 0x4 * k, 0, 16, 0, .ro, .none⟩
/-- KSP RX_MBPS, R452. -/
def KSP.RX_MBPS (n : Nat) (k : Nat) : Field := ⟨0x070000 + 0x1000 * n + 0x60 + 0x4 * k, 16, 16, 0, .ro, .none⟩
/-- KSP TX_CREDIT, R452. -/
def KSP.TX_CREDIT (n : Nat) (k : Nat) : Field := ⟨0x070000 + 0x1000 * n + 0x80 + 0x4 * k, 0, 16, 0, .ro, .none⟩
/-- KSP RX_FREE, R452. -/
def KSP.RX_FREE (n : Nat) (k : Nat) : Field := ⟨0x070000 + 0x1000 * n + 0x80 + 0x4 * k, 16, 16, 0, .ro, .none⟩

/-! ### PAIR page (R453, Table 13.13) -/

/-- PAIR PAIR_EN, R453. -/
def PAIR.PAIR_EN : Field := ⟨0x072000 + 0x40, 0, 1, 0, .rwc, .restart⟩
/-- PAIR UNIT, R453. -/
def PAIR.UNIT : Field := ⟨0x072000 + 0x40, 1, 1, 0, .rwc, .restart⟩
/-- PAIR PREF_ACTIVE, R453. -/
def PAIR.PREF_ACTIVE : Field := ⟨0x072000 + 0x40, 2, 1, 0, .rwc, .restart⟩
/-- PAIR RETURN_EN, R453. -/
def PAIR.RETURN_EN : Field := ⟨0x072000 + 0x44, 0, 1, 1, .rw, .now⟩
/-- PAIR ROLE_SWAP, R453. -/
def PAIR.ROLE_SWAP : Field := ⟨0x072000 + 0x44, 1, 1, 0, .wo, .now⟩
/-- PAIR RETURN_HOLD, R453. -/
def PAIR.RETURN_HOLD : Field := ⟨0x072000 + 0x44, 8, 8, 10, .rw, .now⟩
/-- PAIR PAIR_WAIT, R453. -/
def PAIR.PAIR_WAIT : Field := ⟨0x072000 + 0x44, 16, 16, 2000, .rw, .now⟩
/-- PAIR BEACON_LISTEN, R453. -/
def PAIR.BEACON_LISTEN : Field := ⟨0x072000 + 0x48, 0, 16, 50, .rw, .now⟩
/-- PAIR MIRROR_STALE, R453. -/
def PAIR.MIRROR_STALE : Field := ⟨0x072000 + 0x48, 16, 16, 1000, .rw, .now⟩
/-- PAIR PAIR_STATE, R453. -/
def PAIR.PAIR_STATE : Field := ⟨0x072000 + 0x4c, 0, 3, 0, .ro, .none⟩
/-- PAIR SYNCED, R453. -/
def PAIR.SYNCED : Field := ⟨0x072000 + 0x4c, 3, 1, 0, .ro, .none⟩
/-- PAIR HB_PIN_OK, R453. -/
def PAIR.HB_PIN_OK : Field := ⟨0x072000 + 0x4c, 4, 1, 0, .ro, .none⟩
/-- PAIR HB_KSP_OK, R453. -/
def PAIR.HB_KSP_OK : Field := ⟨0x072000 + 0x4c, 5, 1, 0, .ro, .none⟩
/-- PAIR PARTNER_UNIT, R453. -/
def PAIR.PARTNER_UNIT : Field := ⟨0x072000 + 0x4c, 6, 1, 0, .ro, .none⟩
/-- PAIR STALE_TAKEOVER, R453. -/
def PAIR.STALE_TAKEOVER : Field := ⟨0x072000 + 0x4c, 7, 1, 0, .ro, .none⟩
/-- PAIR PAIR_ERR, R453. -/
def PAIR.PAIR_ERR : Field := ⟨0x072000 + 0x4c, 8, 3, 0, .ro, .none⟩
/-- PAIR HB_MISS, R453. -/
def PAIR.HB_MISS : Field := ⟨0x072000 + 0x4c, 11, 2, 0, .ro, .none⟩
/-- PAIR TAKEOVER_CNT, R453. -/
def PAIR.TAKEOVER_CNT : Field := ⟨0x072000 + 0x50, 0, 16, 0, .ro, .none⟩
/-- PAIR HANDOVER_CNT, R453. -/
def PAIR.HANDOVER_CNT : Field := ⟨0x072000 + 0x50, 16, 16, 0, .ro, .none⟩
/-- PAIR DEC_DIFF, R453. -/
def PAIR.DEC_DIFF : Field := ⟨0x072000 + 0x54, 0, 16, 0, .ro, .none⟩
/-- PAIR TILE_REPAIR, R453. -/
def PAIR.TILE_REPAIR : Field := ⟨0x072000 + 0x54, 16, 16, 0, .ro, .none⟩
/-- PAIR LAST_TAKEOVER, R453. -/
def PAIR.LAST_TAKEOVER : Field := ⟨0x072000 + 0x58, 0, 32, 0, .ro, .none⟩
/-- PAIR PT_OFS_LO, R453. -/
def PAIR.PT_OFS_LO : Field := ⟨0x072000 + 0x5c, 0, 32, 0, .ro, .none⟩
/-- PAIR PT_OFS_HI, R453. -/
def PAIR.PT_OFS_HI : Field := ⟨0x072000 + 0x60, 0, 32, 0, .ro, .none⟩
/-- PAIR PT_RATE, R453. -/
def PAIR.PT_RATE : Field := ⟨0x072000 + 0x64, 0, 32, 0, .ro, .none⟩
/-- PAIR MIRROR_KBPS, R453. -/
def PAIR.MIRROR_KBPS : Field := ⟨0x072000 + 0x68, 0, 16, 0, .ro, .none⟩
/-- PAIR CFG_IGNORED, R453. -/
def PAIR.CFG_IGNORED : Field := ⟨0x072000 + 0x68, 16, 16, 0, .ro, .none⟩

/-! ### Common page header at base b (R458, Table 14.3) -/

/-- HDR BLOCK, R458. -/
def HDR.BLOCK (b : Nat) : Field := ⟨b + 0x0, 0, 8, pageBlock b, .ro, .none⟩
/-- HDR INSTANCE, R458. -/
def HDR.INSTANCE (b : Nat) : Field := ⟨b + 0x0, 8, 4, pageInstance b, .ro, .none⟩
/-- HDR MINOR, R458. -/
def HDR.MINOR (b : Nat) : Field := ⟨b + 0x4, 0, 8, 0, .ro, .none⟩
/-- HDR MAJOR, R458. -/
def HDR.MAJOR (b : Nat) : Field := ⟨b + 0x4, 8, 8, 1, .ro, .none⟩
/-- HDR PG_EN, R458. -/
def HDR.PG_EN (b : Nat) : Field := ⟨b + 0x8, 0, 1, 1, .rws, .tick⟩
/-- HDR SOFT_RST, R458. -/
def HDR.SOFT_RST (b : Nat) : Field := ⟨b + 0x8, 1, 1, 0, .wo, .now⟩
/-- HDR FREEZE, R458. -/
def HDR.FREEZE (b : Nat) : Field := ⟨b + 0x8, 2, 1, 0, .rw, .now⟩
/-- HDR IN_SERVICE, R458. -/
def HDR.IN_SERVICE (b : Nat) : Field := ⟨b + 0xc, 0, 1, 1, .ro, .none⟩
/-- HDR UNLOCKED, R458. -/
def HDR.UNLOCKED (b : Nat) : Field := ⟨b + 0xc, 1, 1, 0, .ro, .none⟩
/-- HDR FROZEN, R458. -/
def HDR.FROZEN (b : Nat) : Field := ⟨b + 0xc, 2, 1, 0, .ro, .none⟩
/-- HDR PG_EVT_RAW, R458. -/
def HDR.PG_EVT_RAW (b : Nat) : Field := ⟨b + 0x10, 0, 32, 0, .ro, .none⟩
/-- HDR PG_EVT_EN, R458. -/
def HDR.PG_EVT_EN (b : Nat) : Field := ⟨b + 0x14, 0, 32, 0, .rw, .now⟩
/-- HDR PG_EVT_PEND, R458. -/
def HDR.PG_EVT_PEND (b : Nat) : Field := ⟨b + 0x18, 0, 32, 0, .w1c, .now⟩
/-- HDR KEY, R458. -/
def HDR.KEY (b : Nat) : Field := ⟨b + 0x1c, 0, 8, 0, .wo, .now⟩
/-- HDR LOCK_OPEN, R458. -/
def HDR.LOCK_OPEN (b : Nat) : Field := ⟨b + 0x1c, 8, 1, 0, .ro, .none⟩
/-- HDR UPD_HOLD, R458. -/
def HDR.UPD_HOLD (b : Nat) : Field := ⟨b + 0x20, 0, 1, 0, .rw, .now⟩
/-- HDR DISCARD, R458. -/
def HDR.DISCARD (b : Nat) : Field := ⟨b + 0x20, 1, 1, 0, .wo, .now⟩
/-- HDR SHADOW_PEND, R458. -/
def HDR.SHADOW_PEND (b : Nat) : Field := ⟨b + 0x20, 2, 1, 0, .ro, .none⟩
/-- HDR HELD, R458. -/
def HDR.HELD (b : Nat) : Field := ⟨b + 0x20, 3, 1, 0, .ro, .none⟩

/-! ### HIF page (R486, Table 14.9) -/

/-- HIF HSPI_DUMMY, R486. -/
def HIF.HSPI_DUMMY : Field := ⟨0x080000 + 0x40, 0, 4, 8, .rw, .now⟩
/-- HIF QUAD_EN, R486. -/
def HIF.QUAD_EN : Field := ⟨0x080000 + 0x40, 4, 1, 1, .rw, .now⟩
/-- HIF HOST_SEEN, R486. -/
def HIF.HOST_SEEN : Field := ⟨0x080000 + 0x44, 0, 1, 0, .ro, .none⟩
/-- HIF LAST_SRC, R486. -/
def HIF.LAST_SRC : Field := ⟨0x080000 + 0x44, 1, 2, 0, .ro, .none⟩
/-- HIF HSPI_FRAMES, R486. -/
def HIF.HSPI_FRAMES : Field := ⟨0x080000 + 0x48, 0, 32, 0, .ro, .none⟩
/-- HIF HSPI_CRC_ERR, R486. -/
def HIF.HSPI_CRC_ERR : Field := ⟨0x080000 + 0x4c, 0, 16, 0, .ro, .none⟩
/-- HIF HSPI_ABORT, R486. -/
def HIF.HSPI_ABORT : Field := ⟨0x080000 + 0x4c, 16, 16, 0, .ro, .none⟩
/-- HIF ADDR_ERRS, R486. -/
def HIF.ADDR_ERRS : Field := ⟨0x080000 + 0x50, 0, 16, 0, .ro, .none⟩
/-- HIF LOCK_REFUSED, R486. -/
def HIF.LOCK_REFUSED : Field := ⟨0x080000 + 0x50, 16, 16, 0, .ro, .none⟩
/-- HIF ERR_ADDR, R486. -/
def HIF.ERR_ADDR : Field := ⟨0x080000 + 0x54, 0, 24, 0, .ro, .none⟩
/-- HIF HIF_SCRATCH, R486. -/
def HIF.HIF_SCRATCH : Field := ⟨0x080000 + 0x58, 0, 32, 0, .rw, .now⟩

/-! ### EVH page (R487, Table 14.10) -/

/-- EVH IRQ_EN, R487. -/
def EVH.IRQ_EN (n : Nat) : Field := ⟨0x002000 + 0x40 + 0x4 * n, 0, 1, 0, .rw, .now⟩
/-- EVH IRQ_OD, R487. -/
def EVH.IRQ_OD (n : Nat) : Field := ⟨0x002000 + 0x40 + 0x4 * n, 1, 1, 1, .rw, .now⟩
/-- EVH IRQ_PULSE, R487. -/
def EVH.IRQ_PULSE (n : Nat) : Field := ⟨0x002000 + 0x40 + 0x4 * n, 2, 1, 0, .rw, .now⟩
/-- EVH PRIO_MIN, R487. -/
def EVH.PRIO_MIN (n : Nat) : Field := ⟨0x002000 + 0x40 + 0x4 * n, 3, 2, 0, .rw, .now⟩
/-- EVH IRQ_TOP, R487. -/
def EVH.IRQ_TOP (n : Nat) : Field := ⟨0x002000 + 0x40 + 0x4 * n, 16, 9, 0x100, .ro, .none⟩
/-- EVH KSP_DROP, R487. -/
def EVH.KSP_DROP : Field := ⟨0x002000 + 0x50, 0, 16, 0, .ro, .none⟩
/-- EVH EVT_PEND_ALL, R487. -/
def EVH.EVT_PEND_ALL (i : Nat) : Field := ⟨0x002000 + 0x80 + 0x4 * i, 0, 32, 0, .w1c, .now⟩
/-- EVH EVT_RAW_ALL, R487. -/
def EVH.EVT_RAW_ALL (i : Nat) : Field := ⟨0x002000 + 0xa0 + 0x4 * i, 0, 32, 0, .ro, .none⟩
/-- EVH IRQ_ROUTE, R487. -/
def EVH.IRQ_ROUTE (e : Nat) : Field := ⟨0x002000 + 0x400 + 0x4 * e, 0, 4, 0, .rw, .now⟩
/-- EVH KSP_ROUTE, R487. -/
def EVH.KSP_ROUTE (e : Nat) : Field := ⟨0x002000 + 0x400 + 0x4 * e, 4, 1, 0, .rw, .now⟩
/-- EVH REC_ROUTE, R487. -/
def EVH.REC_ROUTE (e : Nat) : Field := ⟨0x002000 + 0x400 + 0x4 * e, 5, 1, evtRecDefault e, .rw, .now⟩
/-- EVH PRIO, R487. -/
def EVH.PRIO (e : Nat) : Field := ⟨0x002000 + 0x400 + 0x4 * e, 6, 2, evtPrioDefault e, .rw, .now⟩
/-- EVH RL_MS, R487. -/
def EVH.RL_MS (e : Nat) : Field := ⟨0x002000 + 0x400 + 0x4 * e, 8, 8, 0, .rw, .now⟩
/-- EVH COAL, R487. -/
def EVH.COAL (e : Nat) : Field := ⟨0x002000 + 0x400 + 0x4 * e, 16, 16, 0, .ro, .none⟩

/-! ### CRC page n (R488, Table 14.11) -/

/-- CRC WIDTH, R488. -/
def CRC.WIDTH (n : Nat) : Field := ⟨0x078000 + 0x1000 * n + 0x40, 0, 7, 32, .rw, .now⟩
/-- CRC REFIN, R488. -/
def CRC.REFIN (n : Nat) : Field := ⟨0x078000 + 0x1000 * n + 0x40, 7, 1, 1, .rw, .now⟩
/-- CRC REFOUT, R488. -/
def CRC.REFOUT (n : Nat) : Field := ⟨0x078000 + 0x1000 * n + 0x40, 8, 1, 1, .rw, .now⟩
/-- CRC FEED_W, R488. -/
def CRC.FEED_W (n : Nat) : Field := ⟨0x078000 + 0x1000 * n + 0x40, 9, 2, 2, .rw, .now⟩
/-- CRC POLY_LO, R488. -/
def CRC.POLY_LO (n : Nat) : Field := ⟨0x078000 + 0x1000 * n + 0x44, 0, 32, 0x4c11db7, .rw, .now⟩
/-- CRC POLY_HI, R488. -/
def CRC.POLY_HI (n : Nat) : Field := ⟨0x078000 + 0x1000 * n + 0x48, 0, 32, 0, .rw, .now⟩
/-- CRC INIT_LO, R488. -/
def CRC.INIT_LO (n : Nat) : Field := ⟨0x078000 + 0x1000 * n + 0x4c, 0, 32, 0xffffffff, .rw, .now⟩
/-- CRC INIT_HI, R488. -/
def CRC.INIT_HI (n : Nat) : Field := ⟨0x078000 + 0x1000 * n + 0x50, 0, 32, 0, .rw, .now⟩
/-- CRC XOROUT_LO, R488. -/
def CRC.XOROUT_LO (n : Nat) : Field := ⟨0x078000 + 0x1000 * n + 0x54, 0, 32, 0xffffffff, .rw, .now⟩
/-- CRC XOROUT_HI, R488. -/
def CRC.XOROUT_HI (n : Nat) : Field := ⟨0x078000 + 0x1000 * n + 0x58, 0, 32, 0, .rw, .now⟩
/-- CRC START, R488. -/
def CRC.START (n : Nat) : Field := ⟨0x078000 + 0x1000 * n + 0x5c, 0, 1, 0, .wo, .now⟩
/-- CRC DATA_IN, R488. -/
def CRC.DATA_IN (n : Nat) : Field := ⟨0x078000 + 0x1000 * n + 0x60, 0, 32, 0, .wo, .now⟩
/-- CRC STATE_LO, R488. -/
def CRC.STATE_LO (n : Nat) : Field := ⟨0x078000 + 0x1000 * n + 0x64, 0, 32, 0, .rw, .now⟩
/-- CRC STATE_HI, R488. -/
def CRC.STATE_HI (n : Nat) : Field := ⟨0x078000 + 0x1000 * n + 0x68, 0, 32, 0, .rw, .now⟩
/-- CRC RESULT_LO, R488. -/
def CRC.RESULT_LO (n : Nat) : Field := ⟨0x078000 + 0x1000 * n + 0x6c, 0, 32, 0xffffffff, .ro, .none⟩
/-- CRC RESULT_HI, R488. -/
def CRC.RESULT_HI (n : Nat) : Field := ⟨0x078000 + 0x1000 * n + 0x70, 0, 32, 0, .ro, .none⟩
/-- CRC DMA_SRC, R488. -/
def CRC.DMA_SRC (n : Nat) : Field := ⟨0x078000 + 0x1000 * n + 0x74, 0, 24, 0, .rw, .now⟩
/-- CRC DMA_LEN, R488. -/
def CRC.DMA_LEN (n : Nat) : Field := ⟨0x078000 + 0x1000 * n + 0x78, 0, 25, 0, .rw, .now⟩
/-- CRC DMA_GO, R488. -/
def CRC.DMA_GO (n : Nat) : Field := ⟨0x078000 + 0x1000 * n + 0x7c, 0, 1, 0, .wo, .now⟩
/-- CRC DMA_ABORT, R488. -/
def CRC.DMA_ABORT (n : Nat) : Field := ⟨0x078000 + 0x1000 * n + 0x7c, 1, 1, 0, .wo, .now⟩
/-- CRC DMA_BUSY, R488. -/
def CRC.DMA_BUSY (n : Nat) : Field := ⟨0x078000 + 0x1000 * n + 0x80, 0, 1, 0, .ro, .none⟩
/-- CRC DMA_ERR, R488. -/
def CRC.DMA_ERR (n : Nat) : Field := ⟨0x078000 + 0x1000 * n + 0x80, 1, 1, 0, .w1c, .now⟩
/-- CRC FEED_IGN, R488. -/
def CRC.FEED_IGN (n : Nat) : Field := ⟨0x078000 + 0x1000 * n + 0x80, 2, 1, 0, .w1c, .now⟩
/-- CRC DMA_DONE, R488. -/
def CRC.DMA_DONE (n : Nat) : Field := ⟨0x078000 + 0x1000 * n + 0x84, 0, 25, 0, .ro, .none⟩

/-! ### PWR page (R526, Table 15.9) -/

/-- PWR NOM_SYS, R526. -/
def PWR.NOM_SYS : Field := ⟨0x001000 + 0x40, 0, 2, 0, .rw, .now⟩
/-- PWR SNS5V_EN, R526. -/
def PWR.SNS5V_EN : Field := ⟨0x001000 + 0x40, 2, 1, 1, .rw, .now⟩
/-- PWR IGN_EN, R526. -/
def PWR.IGN_EN : Field := ⟨0x001000 + 0x40, 3, 1, 0, .rw, .now⟩
/-- PWR IGN_GIN, R526. -/
def PWR.IGN_GIN : Field := ⟨0x001000 + 0x40, 4, 5, 23, .rw, .now⟩
/-- PWR IGN_POL, R526. -/
def PWR.IGN_POL : Field := ⟨0x001000 + 0x40, 9, 1, 0, .rw, .now⟩
/-- PWR VWARN, R526. -/
def PWR.VWARN : Field := ⟨0x001000 + 0x44, 0, 8, 0, .rw, .now⟩
/-- PWR VBANK_UV, R526. -/
def PWR.VBANK_UV : Field := ⟨0x001000 + 0x44, 8, 8, 60, .rw, .now⟩
/-- PWR DIM_MAX, R526. -/
def PWR.DIM_MAX : Field := ⟨0x001000 + 0x44, 16, 16, 2000, .rw, .now⟩
/-- PWR HOST_WAIT, R526. -/
def PWR.HOST_WAIT : Field := ⟨0x001000 + 0x48, 0, 16, 500, .rw, .restart⟩
/-- PWR EMBER_DELAY, R526. -/
def PWR.EMBER_DELAY : Field := ⟨0x001000 + 0x48, 16, 16, 30, .rw, .now⟩
/-- PWR EMBER_FLUSH_MAX, R526. -/
def PWR.EMBER_FLUSH_MAX : Field := ⟨0x001000 + 0x4c, 0, 16, 10, .rw, .now⟩
/-- PWR EMBER_TIMER, R526. -/
def PWR.EMBER_TIMER : Field := ⟨0x001000 + 0x4c, 16, 16, 0, .rw, .now⟩
/-- PWR OT_WARN, R526. -/
def PWR.OT_WARN : Field := ⟨0x001000 + 0x50, 0, 8, 125, .rw, .now⟩
/-- PWR FW_TRIAL, R526. -/
def PWR.FW_TRIAL : Field := ⟨0x001000 + 0x50, 8, 8, 60, .rw, .now⟩
/-- PWR RST_CMD, R526. -/
def PWR.RST_CMD : Field := ⟨0x001000 + 0x54, 0, 8, 0, .rwl, .now⟩
/-- PWR SNUFF_REQ, R526. -/
def PWR.SNUFF_REQ : Field := ⟨0x001000 + 0x54, 8, 1, 0, .rwl, .now⟩
/-- PWR SNUFF_CLR, R526. -/
def PWR.SNUFF_CLR : Field := ⟨0x001000 + 0x54, 9, 1, 0, .rwl, .tick⟩
/-- PWR EMBER_REQ, R526. -/
def PWR.EMBER_REQ : Field := ⟨0x001000 + 0x54, 10, 1, 0, .rwl, .now⟩
/-- PWR MODE_REQ, R526. -/
def PWR.MODE_REQ : Field := ⟨0x001000 + 0x54, 11, 2, 0, .rwl, .tick⟩
/-- PWR CFG_STORE, R526. -/
def PWR.CFG_STORE : Field := ⟨0x001000 + 0x54, 13, 1, 0, .rwl, .now⟩
/-- PWR CFG_ERASE, R526. -/
def PWR.CFG_ERASE : Field := ⟨0x001000 + 0x54, 14, 1, 0, .rwl, .now⟩
/-- PWR FW_ACTIVATE, R526. -/
def PWR.FW_ACTIVATE : Field := ⟨0x001000 + 0x54, 15, 1, 0, .rwl, .now⟩
/-- PWR FW_CONFIRM, R526. -/
def PWR.FW_CONFIRM : Field := ⟨0x001000 + 0x54, 16, 1, 0, .rwl, .now⟩
/-- PWR FW_OFS, R526. -/
def PWR.FW_OFS : Field := ⟨0x001000 + 0x58, 0, 11, 0, .rw, .now⟩
/-- PWR FW_PUSH, R526. -/
def PWR.FW_PUSH : Field := ⟨0x001000 + 0x58, 16, 1, 0, .wo, .now⟩
/-- PWR UV_ACT, R526. -/
def PWR.UV_ACT : Field := ⟨0x001000 + 0x5c, 0, 1, 0, .ro, .none⟩
/-- PWR VBAT_OV, R526. -/
def PWR.VBAT_OV : Field := ⟨0x001000 + 0x5c, 1, 1, 0, .ro, .none⟩
/-- PWR BANK_SUSP, R526. -/
def PWR.BANK_SUSP : Field := ⟨0x001000 + 0x5c, 2, 4, 0, .ro, .none⟩
/-- PWR BANK_OV, R526. -/
def PWR.BANK_OV : Field := ⟨0x001000 + 0x5c, 6, 4, 0, .ro, .none⟩
/-- PWR SNS5V_FLT, R526. -/
def PWR.SNS5V_FLT : Field := ⟨0x001000 + 0x5c, 10, 1, 0, .ro, .none⟩
/-- PWR CFG_VALID, R526. -/
def PWR.CFG_VALID : Field := ⟨0x001000 + 0x5c, 11, 1, 0, .ro, .none⟩
/-- PWR NOM_ACT, R526. -/
def PWR.NOM_ACT : Field := ⟨0x001000 + 0x5c, 12, 2, 0, .ro, .none⟩
/-- PWR FW_RUN, R526. -/
def PWR.FW_RUN : Field := ⟨0x001000 + 0x5c, 14, 1, 0, .ro, .none⟩
/-- PWR FW_TRIAL_ACT, R526. -/
def PWR.FW_TRIAL_ACT : Field := ⟨0x001000 + 0x5c, 15, 1, 0, .ro, .none⟩
/-- PWR FW_PENDING, R526. -/
def PWR.FW_PENDING : Field := ⟨0x001000 + 0x5c, 16, 1, 0, .ro, .none⟩
/-- PWR FW_BUSY, R526. -/
def PWR.FW_BUSY : Field := ⟨0x001000 + 0x5c, 17, 1, 0, .ro, .none⟩
/-- PWR FW_ERR, R526. -/
def PWR.FW_ERR : Field := ⟨0x001000 + 0x5c, 18, 3, 0, .ro, .none⟩
/-- PWR SNUFF_CAUSE, R526. -/
def PWR.SNUFF_CAUSE : Field := ⟨0x001000 + 0x5c, 21, 3, 0, .ro, .none⟩
/-- PWR LAST_RESET, R526. -/
def PWR.LAST_RESET : Field := ⟨0x001000 + 0x5c, 24, 3, 0, .ro, .none⟩
/-- PWR RST_REFUSED, R526. -/
def PWR.RST_REFUSED : Field := ⟨0x001000 + 0x5c, 27, 1, 0, .ro, .none⟩
/-- PWR BOOT_REC, R526. -/
def PWR.BOOT_REC : Field := ⟨0x001000 + 0x5c, 28, 1, 0, .ro, .none⟩
/-- PWR VBAT_MV, R526. -/
def PWR.VBAT_MV : Field := ⟨0x001000 + 0x60, 0, 16, 0, .ro, .none⟩
/-- PWR VMIN_MV, R526. -/
def PWR.VMIN_MV : Field := ⟨0x001000 + 0x60, 16, 16, 0, .ro, .none⟩
/-- PWR VPWR_A_MV, R526. -/
def PWR.VPWR_A_MV : Field := ⟨0x001000 + 0x64, 0, 16, 0, .ro, .none⟩
/-- PWR VPWR_B_MV, R526. -/
def PWR.VPWR_B_MV : Field := ⟨0x001000 + 0x64, 16, 16, 0, .ro, .none⟩
/-- PWR VPWR_C_MV, R526. -/
def PWR.VPWR_C_MV : Field := ⟨0x001000 + 0x68, 0, 16, 0, .ro, .none⟩
/-- PWR VPWR_D_MV, R526. -/
def PWR.VPWR_D_MV : Field := ⟨0x001000 + 0x68, 16, 16, 0, .ro, .none⟩
/-- PWR DIM_CNT, R526. -/
def PWR.DIM_CNT : Field := ⟨0x001000 + 0x6c, 0, 16, 0, .ro, .none⟩
/-- PWR DIM_LAST, R526. -/
def PWR.DIM_LAST : Field := ⟨0x001000 + 0x6c, 16, 16, 0, .ro, .none⟩
/-- PWR RELIGHT_CNT, R526. -/
def PWR.RELIGHT_CNT : Field := ⟨0x001000 + 0x70, 0, 16, 0, .ro, .none⟩
/-- PWR RELIGHT_FAIL, R526. -/
def PWR.RELIGHT_FAIL : Field := ⟨0x001000 + 0x70, 16, 16, 0, .ro, .none⟩
/-- PWR POWER_CYCLES, R526. -/
def PWR.POWER_CYCLES : Field := ⟨0x001000 + 0x74, 0, 32, 0, .ro, .none⟩
/-- PWR OP_TIME, R526. -/
def PWR.OP_TIME : Field := ⟨0x001000 + 0x78, 0, 32, 0, .ro, .none⟩
/-- PWR LOGIC_TEMP, R526. -/
def PWR.LOGIC_TEMP : Field := ⟨0x001000 + 0x7c, 0, 10, 0, .ro, .none⟩
/-- PWR SNS5V_MA, R526. -/
def PWR.SNS5V_MA : Field := ⟨0x001000 + 0x7c, 10, 10, 0, .ro, .none⟩
/-- PWR FW_VER_A, R526. -/
def PWR.FW_VER_A : Field := ⟨0x001000 + 0x80, 0, 32, 0, .ro, .none⟩
/-- PWR FW_VER_B, R526. -/
def PWR.FW_VER_B : Field := ⟨0x001000 + 0x84, 0, 32, 0, .ro, .none⟩
/-- PWR SNUFF_CAUSES, R526. -/
def PWR.SNUFF_CAUSES : Field := ⟨0x001000 + 0x88, 0, 6, 0, .ro, .none⟩

/-! ### REC page (R545, Table 16.9) -/

/-- REC REC_EN, R545. -/
def REC.REC_EN : Field := ⟨0x004000 + 0x40, 0, 1, 1, .rw, .now⟩
/-- REC TB_BURST, R545. -/
def REC.TB_BURST : Field := ⟨0x004000 + 0x40, 8, 8, 8, .rw, .now⟩
/-- REC TB_PERIOD, R545. -/
def REC.TB_PERIOD : Field := ⟨0x004000 + 0x40, 16, 16, 1000, .rw, .now⟩
/-- REC RD_OFS, R545. -/
def REC.RD_OFS : Field := ⟨0x004000 + 0x44, 0, 21, 0, .rw, .now⟩
/-- REC RD_STREAM, R545. -/
def REC.RD_STREAM : Field := ⟨0x004000 + 0x48, 0, 1, 0, .wo, .now⟩
/-- REC LOG_CLR, R545. -/
def REC.LOG_CLR : Field := ⟨0x004000 + 0x48, 1, 1, 0, .rwc, .now⟩
/-- REC REC_TRIG, R545. -/
def REC.REC_TRIG : Field := ⟨0x004000 + 0x48, 2, 1, 0, .wo, .now⟩
/-- REC TRIG_SEL, R545. -/
def REC.TRIG_SEL : Field := ⟨0x004000 + 0x48, 3, 5, 0, .rw, .now⟩
/-- REC REC_FULL, R545. -/
def REC.REC_FULL : Field := ⟨0x004000 + 0x4c, 0, 1, 0, .ro, .none⟩
/-- REC STREAMING, R545. -/
def REC.STREAMING : Field := ⟨0x004000 + 0x4c, 1, 1, 0, .ro, .none⟩
/-- REC RD_VALID, R545. -/
def REC.RD_VALID : Field := ⟨0x004000 + 0x4c, 2, 1, 0, .ro, .none⟩
/-- REC WR_PTR, R545. -/
def REC.WR_PTR : Field := ⟨0x004000 + 0x50, 0, 21, 0, .ro, .none⟩
/-- REC RD_NEXT, R545. -/
def REC.RD_NEXT : Field := ⟨0x004000 + 0x54, 0, 21, 0, .ro, .none⟩
/-- REC REC_SEQ, R545. -/
def REC.REC_SEQ : Field := ⟨0x004000 + 0x58, 0, 32, 0, .ro, .none⟩
/-- REC LOST_CNT, R545. -/
def REC.LOST_CNT : Field := ⟨0x004000 + 0x5c, 0, 16, 0, .ro, .none⟩
/-- REC RL_DROP, R545. -/
def REC.RL_DROP : Field := ⟨0x004000 + 0x5c, 16, 16, 0, .ro, .none⟩
/-- REC STAGE_DROP, R545. -/
def REC.STAGE_DROP : Field := ⟨0x004000 + 0x60, 0, 16, 0, .ro, .none⟩
/-- REC STAGE_KB, R545. -/
def REC.STAGE_KB : Field := ⟨0x004000 + 0x60, 16, 8, 0, .ro, .none⟩
/-- REC LOG_GEN, R545. -/
def REC.LOG_GEN : Field := ⟨0x004000 + 0x60, 24, 8, 0, .ro, .none⟩
/-- REC EVT_LO, R545. -/
def REC.EVT_LO (s : Nat) : Field := ⟨0x004000 + 0x100 + 0x4 * s, 0, 8, 0, .rw, .now⟩
/-- REC EVT_HI, R545. -/
def REC.EVT_HI (s : Nat) : Field := ⟨0x004000 + 0x100 + 0x4 * s, 8, 8, 0, .rw, .now⟩
/-- REC SNAP_N, R545. -/
def REC.SNAP_N (s : Nat) : Field := ⟨0x004000 + 0x100 + 0x4 * s, 16, 7, 0, .rw, .now⟩
/-- REC TS_EN, R545. -/
def REC.TS_EN (s : Nat) : Field := ⟨0x004000 + 0x100 + 0x4 * s, 23, 1, 0, .rw, .now⟩
/-- REC TS_GEN, R545. -/
def REC.TS_GEN (s : Nat) : Field := ⟨0x004000 + 0x100 + 0x4 * s, 24, 8, 0, .ro, .none⟩
/-- REC SL_SET, R545. -/
def REC.SL_SET : Field := ⟨0x004000 + 0x180, 0, 5, 0, .rw, .now⟩
/-- REC SL_IDX, R545. -/
def REC.SL_IDX : Field := ⟨0x004000 + 0x180, 8, 6, 0, .rw, .now⟩
/-- REC SL_ADDR, R545. -/
def REC.SL_ADDR : Field := ⟨0x004000 + 0x184, 0, 24, 0, .rw, .now⟩

/-! ### CNT page (R546, Table 16.10) -/

/-- CNT IMPL_ID, R546. -/
def CNT.IMPL_ID : Field := ⟨0x005000 + 0x40, 0, 32, 0, .rwc, .now⟩
/-- CNT BIND_LOCK, R546. -/
def CNT.BIND_LOCK : Field := ⟨0x005000 + 0x44, 0, 1, 0, .rwc, .tick⟩
/-- CNT MAX_APP_SPEED, R546. -/
def CNT.MAX_APP_SPEED : Field := ⟨0x005000 + 0x48, 0, 16, 0, .rwc, .tick⟩
/-- CNT SEC_LEVEL, R546. -/
def CNT.SEC_LEVEL : Field := ⟨0x005000 + 0x4c, 0, 2, 0, .rwc, .now⟩
/-- CNT FW_FLOOR, R546. -/
def CNT.FW_FLOOR : Field := ⟨0x005000 + 0x50, 0, 32, 0, .rwc, .now⟩
/-- CNT MACHINE_SN, R546. -/
def CNT.MACHINE_SN : Field := ⟨0x005000 + 0x54, 0, 32, 0, .rwc, .now⟩
/-- CNT OEM_CODE, R546. -/
def CNT.OEM_CODE : Field := ⟨0x005000 + 0x58, 0, 16, 0, .rwc, .now⟩
/-- CNT CFG_LOCK, R546. -/
def CNT.CFG_LOCK : Field := ⟨0x005000 + 0x5c, 0, 1, 0, .rwc, .now⟩
/-- CNT SNUFF_LOCK, R546. -/
def CNT.SNUFF_LOCK : Field := ⟨0x005000 + 0x5c, 1, 1, 0, .rwc, .now⟩
/-- CNT ASSET_TAG, R546. -/
def CNT.ASSET_TAG : Field := ⟨0x005000 + 0x60, 0, 32, 0, .rwc, .now⟩
/-- CNT HOURS_BASE, R546. -/
def CNT.HOURS_BASE : Field := ⟨0x005000 + 0x64, 0, 32, 0, .rwc, .now⟩
/-- CNT USED, R546. -/
def CNT.USED (i : Nat) : Field := ⟨0x005000 + 0x80 + 0x4 * i, 0, 32, 0, .ro, .none⟩
/-- CNT FROZEN, R546. -/
def CNT.FROZEN : Field := ⟨0x005000 + 0x90, 0, 13, 0, .ro, .none⟩
/-- CNT LAST_ERR_IDX, R546. -/
def CNT.LAST_ERR_IDX : Field := ⟨0x005000 + 0x94, 0, 4, 0, .ro, .none⟩
/-- CNT LAST_ERR, R546. -/
def CNT.LAST_ERR : Field := ⟨0x005000 + 0x94, 4, 3, 0, .ro, .none⟩
/-- CNT CNT_BUSY, R546. -/
def CNT.CNT_BUSY : Field := ⟨0x005000 + 0x94, 7, 1, 0, .ro, .none⟩
/-- CNT REFUSED_CNT, R546. -/
def CNT.REFUSED_CNT : Field := ⟨0x005000 + 0x94, 16, 16, 0, .ro, .none⟩
/-- CNT HIST_SET, R546. -/
def CNT.HIST_SET : Field := ⟨0x005000 + 0xc0, 0, 4, 0, .rw, .now⟩
/-- CNT HIST_N, R546. -/
def CNT.HIST_N : Field := ⟨0x005000 + 0xc0, 8, 8, 1, .rw, .now⟩
/-- CNT HIST_ENTRY, R546. -/
def CNT.HIST_ENTRY (i : Nat) : Field := ⟨0x005000 + 0xc4 + 0x4 * i, 0, 32, 0, .ro, .none⟩

/-! ### TST page (R547, Table 16.11) -/

/-- TST T_ID, R547. -/
def TST.T_ID : Field := ⟨0x006000 + 0x40, 0, 6, 0, .rw, .now⟩
/-- TST T_TARGET, R547. -/
def TST.T_TARGET : Field := ⟨0x006000 + 0x40, 6, 5, 0, .rw, .now⟩
/-- TST T_PARAM, R547. -/
def TST.T_PARAM : Field := ⟨0x006000 + 0x40, 16, 16, 0, .rw, .now⟩
/-- TST T_GO, R547. -/
def TST.T_GO : Field := ⟨0x006000 + 0x44, 0, 1, 0, .wo, .now⟩
/-- TST T_SLOT, R547. -/
def TST.T_SLOT : Field := ⟨0x006000 + 0x44, 4, 4, 0, .ro, .none⟩
/-- TST Q_FULL, R547. -/
def TST.Q_FULL : Field := ⟨0x006000 + 0x44, 8, 1, 0, .ro, .none⟩
/-- TST TEST_WAIT_MAX, R547. -/
def TST.TEST_WAIT_MAX : Field := ⟨0x006000 + 0x48, 0, 16, 100, .rw, .now⟩
/-- TST TST_SLOT, R547. -/
def TST.TST_SLOT : Field := ⟨0x006000 + 0x48, 16, 8, 5, .rw, .now⟩
/-- TST AUTO_PER, R547. -/
def TST.AUTO_PER : Field := ⟨0x006000 + 0x48, 24, 8, 60, .rw, .now⟩
/-- TST AUTO_MASK, R547. -/
def TST.AUTO_MASK : Field := ⟨0x006000 + 0x4c, 0, 8, 0x7, .rw, .now⟩
/-- TST FINISHED, R547. -/
def TST.FINISHED : Field := ⟨0x006000 + 0x50, 0, 16, 0, .w1c, .now⟩
/-- TST S_ID, R547. -/
def TST.S_ID (q : Nat) : Field := ⟨0x006000 + 0x100 + 0x8 * q, 0, 6, 0, .ro, .none⟩
/-- TST S_TARGET, R547. -/
def TST.S_TARGET (q : Nat) : Field := ⟨0x006000 + 0x100 + 0x8 * q, 6, 5, 0, .ro, .none⟩
/-- TST STATUS, R547. -/
def TST.STATUS (q : Nat) : Field := ⟨0x006000 + 0x100 + 0x8 * q, 12, 3, 0, .ro, .none⟩
/-- TST RESULT, R547. -/
def TST.RESULT (q : Nat) : Field := ⟨0x006000 + 0x100 + 0x8 * q, 16, 3, 0, .ro, .none⟩
/-- TST DETAIL, R547. -/
def TST.DETAIL (q : Nat) : Field := ⟨0x006000 + 0x104 + 0x8 * q, 0, 32, 0, .ro, .none⟩

/-! ### VNP node tables (R419): entry a of the table of CAN(2 + b), a 64-bit UID in two words -/

/-- Low word of the UID of node-table entry a of bus b, R419. -/
def NODE.UID_LO (b a : Nat) : Field := ⟨0x460000 + 0x200 * b + 8 * a, 0, 32, 0, .rws, .tick⟩
/-- High word of the UID of node-table entry a of bus b, R419. -/
def NODE.UID_HI (b a : Nat) : Field := ⟨0x460004 + 0x200 * b + 8 * a, 0, 32, 0, .rws, .tick⟩

/-- Fields of SYS page (R60, Tables 01.8 to 01.20) among which a word at offset o is looked up. -/
def SYS.cands (o : Nat) : List Field :=
   [SYS.TICK_RATE, SYS.TICK_DEGRADE_EN, SYS.TICK_RATE_ACT, SYS.DEGRADED, SYS.RATE_REFUSED, SYS.PHASE, SYS.OVR_RUN, SYS.TICK_CNT_LO, SYS.TICK_CNT_HI,
    SYS.DT_LO, SYS.DT_HI, SYS.TICK_DT_LO, SYS.TICK_DT_HI, SYS.LAST_COMMIT, SYS.COMMIT_OFS, SYS.OVR_TOTAL, SYS.CLR_MAX, SYS.PTS_BOUND, SYS.RATE_MAX,
    SYS.STATE, SYS.MODE, SYS.BULK_SHARE, SYS.SRAM_CE, SYS.SRAM_UE, SYS.MRAM_CE, SYS.LS_PAIR_A, SYS.LS_PAIR_B, SYS.PART, SYS.GRADE, SYS.DIE_REV] ++
   (if 0x70 ≤ o && o < 0x84 then
    [SYS.PH_LAST ((o - 0x70) / 0x4), SYS.PH_MAX ((o - 0x70) / 0x4)] else [])

/-- Fields of Point descriptor n (R74, Table 02.3) among which a word at offset o is looked up. -/
def PD.cands (n : Nat) (_o : Nat) : List Field :=
   [PD.VALID n, PD.KIND n, PD.SEG n, PD.PRODUCT n, PD.SECTION n, PD.SECT_EN n, PD.PAINT_SOURCE n, PD.BIND_KIND n, PD.LOCAL_CH n, PD.BUS n, PD.NODE n,
    PD.NODE_PT n, PD.OFS_X n, PD.OFS_Y n, PD.OFS_Z n, PD.FOOT_W n, PD.FOOT_L n, PD.FOOT_DX n, PD.FOOT_DY n, PD.LAT_ON_DEF n, PD.LAT_OFF_DEF n,
    PD.TRANSPORT_DELAY n, PD.PROFILE n, PD.NOZZLE_TBL n]

/-- Fields of Segment registers of GEOn (R84, Table 02.6) among which a word at offset o is looked up. -/
def GEO.cands (n : Nat) (_o : Nat) : List Field :=
   [GEO.SEG_EN n, GEO.PARENT n, GEO.FOLD_AXIS n, GEO.FOLD_SRC n, GEO.FOLD_FBK n, GEO.SWAY_EN n, GEO.SENS_SSP n, GEO.SHAPE n, GEO.MOUNT_X n,
    GEO.MOUNT_Y n, GEO.MOUNT_Z n, GEO.YAW0 n, GEO.ROLL0 n, GEO.PITCH0 n, GEO.FOLD_FIXED n, GEO.WORK_MIN n, GEO.WORK_MAX n, GEO.FOLD_ZERO n,
    GEO.FOLD_GAIN n, GEO.SWAY_TAU n, GEO.IMU_DIST n, GEO.SWAY_MAX n, GEO.STALE_MAX n, GEO.SEG_ACTIVE n, GEO.WORKING n, GEO.FOLD_STALE n,
    GEO.SWAY_STALE n, GEO.SWAY_CLAMP n, GEO.CFG_ERR n, GEO.FOLD_ACT n, GEO.SWAY_ACT n, GEO.PT_COUNT n]

/-- Fields of Point readback, binding status and field origin of GEO0 (R84, Table 02.7) among which a word at offset o is looked up. -/
def GEOP.cands (_o : Nat) : List Field :=
   [GEOP.PT_IDX, GEOP.PT_X, GEOP.PT_Y, GEOP.PT_Z, GEOP.PT_VE, GEOP.PT_VN, GEOP.TRAVEL_HDG, GEOP.STR_HDG, GEOP.PT_SPD, GEOP.REVERSE, GEOP.GEO_VALID,
    GEOP.PT_TICK, GEOP.ERR_PT, GEOP.ERR_CODE, GEOP.ERR_COUNT, GEOP.ORG_LAT, GEOP.ORG_LON, GEOP.ORG_H]

/-- Fields of COV page (R132, Table 03.14) among which a word at offset o is looked up. -/
def COV.cands (_o : Nat) : List Field :=
   [COV.CELL_SIZE, COV.FIELD_ID, COV.FIELD_CMD, COV.FIELD_STATE, COV.CELL_SIZE_ACT, COV.CMD_IGNORED, COV.CONF_WAIT, COV.MISS_POLICY, COV.RX_EN,
    COV.RX_MISS_IDX0, COV.RX_MISS_IDX1, COV.CONF_NONE, COV.FIELD_ID_ACT, COV.MISS_CNT, COV.CONF_TIMEOUTS, COV.PAINT_CMD_FALLBACK,
    COV.TILES_DISCARDED, COV.PAINT_LOST, COV.JNL_USED, COV.JNL_MAX, COV.PEEK_X, COV.PEEK_Y, COV.PEEK_CELL, COV.PEEK_RX, COV.PEEK_RES, COV.PEEK_RX_RES]

/-- Fields of TPL page (R133, Table 03.15) among which a word at offset o is looked up. -/
def TPL.cands (_o : Nat) : List Field :=
   [TPL.STORE_SEL, TPL.STORE_READY, TPL.PF_TIME, TPL.PF_MARGIN, TPL.FETCH_MAX, TPL.REQ_TIMEOUT, TPL.WB_INTERVAL, TPL.RETRY_MAX, TPL.STORE_ACT,
    TPL.STORE_OK, TPL.RES_COV, TPL.RES_RX, TPL.PROV_CNT, TPL.DIRTY_CNT, TPL.REQ_NAKS, TPL.FETCH_CNT, TPL.PUT_CNT, TPL.PIN_TX, TPL.PIN_TY,
    TPL.PIN_LAYER, TPL.PIN_CMD, TPL.PIN_FULL, TPL.SLOT_IDX, TPL.SLOT_TX, TPL.SLOT_TY, TPL.SLOT_STATE, TPL.SLOT_PIN, TPL.SLOT_LAYER, TPL.SLOT_GEN,
    TPL.SLOT_CRC]

/-- Fields of DEC page (R166, Table 04.8) among which a word at offset o is looked up. -/
def DEC.cands (o : Nat) : List Field :=
   [DEC.AUTO_EN, DEC.MASTER_SRC, DEC.MASTER_GIN, DEC.MASTER_POL, DEC.MASTER_ON, DEC.MASTER_ACT, DEC.POSE_CLASS, DEC.BELOW_MIN, DEC.HOLD_ACT,
    DEC.HOLD_EXP, DEC.EDGE_CNT, DEC.MISS_APPLIED_CNT, DEC.CHAT_HOLD_CNT, DEC.LAT_REJECTS, DEC.LAT_RESETS, DEC.SAMPLE_CNT, DEC.PTD_IDX, DEC.S_OPEN,
    DEC.S_CLOSE, DEC.EDGE_VALID, DEC.REASON, DEC.MISS_APPLIED, DEC.TGT_FB, DEC.CHAT_HOLD, DEC.LAT_ON_MEAS, DEC.LAT_OFF_MEAS, DEC.EDGE_T,
    DEC.L_ON_ACT, DEC.L_OFF_ACT, DEC.N_LAT_ON, DEC.N_LAT_OFF, DEC.D_SINCE, DEC.PTD_TICK] ++
   (if 0x80 ≤ o && o < 0x100 then
    [DEC.OVL_FRAC ((o - 0x80) / 0x10), DEC.OVL_EN ((o - 0x80) / 0x10), DEC.BND_FRAC ((o - 0x80) / 0x10), DEC.BND_EN ((o - 0x80) / 0x10),
    DEC.HEAD_FRAC ((o - 0x80) / 0x10), DEC.ZRX_EN ((o - 0x80) / 0x10), DEC.HEAD_POLICY ((o - 0x80) / 0x10), DEC.SPOT_EN ((o - 0x80) / 0x10),
    DEC.MIN_ON_DIST ((o - 0x80) / 0x10), DEC.MIN_OFF_DIST ((o - 0x80) / 0x10), DEC.POSE_MIN ((o - 0x80) / 0x10), DEC.POSE_POLICY ((o - 0x80) / 0x10),
    DEC.HOLD_MAX ((o - 0x80) / 0x10), DEC.LAT_ALPHA_SH ((o - 0x80) / 0x10), DEC.LAT_GATE ((o - 0x80) / 0x10), DEC.MIN_SPEED ((o - 0x80) / 0x10),
    DEC.LAT_TC_ON ((o - 0x80) / 0x10), DEC.LAT_TC_OFF ((o - 0x80) / 0x10)] else []) ++
   (if 0x200 ≤ o && o < 0x400 then
    [DEC.SECT_VOTE ((o - 0x200) / 0x4), DEC.SECT_FRAC ((o - 0x200) / 0x4), DEC.SECT_LEAD_EN ((o - 0x200) / 0x4), DEC.SECT_LEAD ((o - 0x200) / 0x4),
    DEC.SECT_LEAD_BAD ((o - 0x200) / 0x4)] else []) ++
   (if 0x400 ≤ o && o < 0x410 then
    [DEC.MAN_OFF ((o - 0x400) / 0x4)] else []) ++
   (if 0x410 ≤ o && o < 0x420 then
    [DEC.MAN_ON ((o - 0x410) / 0x4)] else []) ++
   (if 0x420 ≤ o && o < 0x430 then
    [DEC.SECT_STATE ((o - 0x420) / 0x4)] else []) ++
   (if 0x500 ≤ o && o < 0x600 then
    [DEC.FORCE ((o - 0x500) / 0x4)] else [])

/-- Fields of Rate tables (R169, Table 05.1) among which a word at offset o is looked up. -/
def RT.cands (p : Nat) (o : Nat) : List Field :=
   [] ++
   (if o < 0x400 then
    [RT.RATE p (o / 0x4)] else [])

/-- Fields of Nozzle flow tables (R172, Table 05.3) among which a word at offset o is looked up. -/
def NZ.cands (t : Nat) (o : Nat) : List Field :=
   [NZ.NPTS t, NZ.DUTY_MIN t] ++
   (if 0x8 ≤ o && o < 0x80 then
    [NZ.P t ((o - 0x8) / 0x8), NZ.Q_FULL t ((o - 0x8) / 0x8)] else [])

/-- Fields of RATE page (R192, Table 05.9) among which a word at offset o is looked up. -/
def RATE.cands (o : Nat) : List Field :=
   [RATE.NODE_REFRESH, RATE.PH_GUARD, RATE.PH_MODE, RATE.PH_CONFLICT, RATE.LIMIT_CNT, RATE.PTR_IDX, RATE.PT_RATE, RATE.PT_RX_IDX, RATE.PT_DEMAND,
    RATE.PT_DUTY, RATE.PT_SLOT, RATE.RATE_LOW, RATE.RATE_HIGH, RATE.PRESS_RANGE, RATE.NZ_INVALID, RATE.PTR_TICK] ++
   (if 0x80 ≤ o && o < 0x280 then
    [RATE.PROD_EN ((o - 0x80) / 0x40), RATE.LOOP_EN ((o - 0x80) / 0x40), RATE.RATE_UNIT ((o - 0x80) / 0x40), RATE.LOOP_KIND ((o - 0x80) / 0x40),
    RATE.SPD_COMP ((o - 0x80) / 0x40), RATE.PULSED ((o - 0x80) / 0x40), RATE.OFF_MODE ((o - 0x80) / 0x40), RATE.FB_LOSS_POLICY ((o - 0x80) / 0x40),
    RATE.PRESS_SRC ((o - 0x80) / 0x40), RATE.ACT_PWM ((o - 0x80) / 0x40), RATE.ACT_PAIR ((o - 0x80) / 0x40), RATE.FB_FBK ((o - 0x80) / 0x40),
    RATE.PRESS_FBK ((o - 0x80) / 0x40), RATE.RATE_FIXED ((o - 0x80) / 0x40), RATE.PULSE_FREQ ((o - 0x80) / 0x40),
    RATE.RATE_SCALE ((o - 0x80) / 0x40), RATE.PRESS_SET ((o - 0x80) / 0x40), RATE.PRESS_NOM ((o - 0x80) / 0x40), RATE.KP ((o - 0x80) / 0x40),
    RATE.KI ((o - 0x80) / 0x40), RATE.FF ((o - 0x80) / 0x40), RATE.LOOP_DIV ((o - 0x80) / 0x40), RATE.DEV_PCT ((o - 0x80) / 0x40),
    RATE.FB_SCALE ((o - 0x80) / 0x40), RATE.PF0 ((o - 0x80) / 0x40), RATE.PGAIN ((o - 0x80) / 0x40), RATE.DUTY_LO ((o - 0x80) / 0x40),
    RATE.DUTY_HI ((o - 0x80) / 0x40), RATE.DUTY_OFF ((o - 0x80) / 0x40), RATE.CELLS_PER_REV ((o - 0x80) / 0x40), RATE.FB_TIMEOUT ((o - 0x80) / 0x40),
    RATE.DEV_TIME ((o - 0x80) / 0x40), RATE.PRESS_HOST ((o - 0x80) / 0x40), RATE.FS ((o - 0x80) / 0x40), RATE.LOOP_SP ((o - 0x80) / 0x40),
    RATE.LOOP_PV ((o - 0x80) / 0x40), RATE.LOOP_DUTY ((o - 0x80) / 0x40), RATE.FB_LOST ((o - 0x80) / 0x40), RATE.DEV_ACT ((o - 0x80) / 0x40),
    RATE.PRESS_STALE ((o - 0x80) / 0x40), RATE.LOOP_ERR ((o - 0x80) / 0x40), RATE.PRESS_ACT ((o - 0x80) / 0x40), RATE.PH_EPOCH_LO ((o - 0x80) / 0x40)] else []) ++
   (if 0x280 ≤ o && o < 0x2a0 then
    [RATE.PH_EPOCH_HI ((o - 0x280) / 0x4)] else [])

/-- Fields of POSE page (R223, Table 06.11) among which a word at offset o is looked up. -/
def POSE.cands (o : Nat) : List Field :=
   [POSE.POSE_EN, POSE.NHC_EN, POSE.ZUPT_EN, POSE.GNSS_SRC, POSE.WHL_EN, POSE.WHL_FBK, POSE.STEER_EN, POSE.STEER_FBK, POSE.CAN_SPD, POSE.CAN_SPD_BUS,
    POSE.DIR_SRC, POSE.POSE_RESET, POSE.IMU_PRIMARY, POSE.ANT_X, POSE.ANT_Y, POSE.ANT_Z, POSE.REAR_AXLE_X, POSE.WHEELBASE, POSE.WHL_SCALE,
    POSE.STEER_ZERO, POSE.STEER_GAIN, POSE.GATE_POS, POSE.GATE_VEL, POSE.GATE_SPD, POSE.GATE_YAW, POSE.MEAS_AGE_MAX, POSE.CLASS_AGE, POSE.SIG_FIX,
    POSE.SIG_FLOAT, POSE.SIG_STD, POSE.DR_SIG_MAX, POSE.DR_MAX, POSE.REANCHOR_TIME, POSE.IMU_STALE, POSE.STEP_WARN, POSE.RELIGHT_GAP_MAX,
    POSE.ALIGN_SPD, POSE.ALIGN_DIST, POSE.CAN_LAT, POSE.CAN_SIG, POSE.WHL_SIG, POSE.STEER_SIG, POSE.GYRO_ND, POSE.ACC_ND, POSE.GNSS_R_SCALE,
    POSE.POS_X, POSE.POS_Y, POSE.POS_Z, POSE.VEL_E, POSE.VEL_N, POSE.VEL_U, POSE.SPD_VRP, POSE.HDG, POSE.ROLL, POSE.PITCH, POSE.OMEGA_Z,
    POSE.OMEGA_X, POSE.OMEGA_Y, POSE.SIG_E, POSE.SIG_N, POSE.SIG_U, POSE.SIG_HDG, POSE.SIG_VH, POSE.CLASS, POSE.ALIGN_STATE, POSE.IMU_MODE,
    POSE.IMU_ACT, POSE.GNSS_EXCL, POSE.ODO_EXCL, POSE.STEP, POSE.POS_RANGE, POSE.ZUPT_ACT, POSE.GNSS_AGE, POSE.POSE_TICK, POSE.WHL_K, POSE.CAN_K,
    POSE.GNSS_REJ, POSE.ODO_REJ, POSE.REANCHOR_CNT, POSE.IMU_SWITCH_CNT, POSE.HQ_DT_LO, POSE.HQ_DT_HI, POSE.HQ_STATUS] ++
   (if 0x140 ≤ o && o < 0x180 then
    [POSE.HQ_ENTRY ((o - 0x140) / 0x4)] else [])

/-- Fields of SSP port n (R224, Table 06.12) among which a word at offset o is looked up. -/
def SSP.cands (n : Nat) (o : Nat) : List Field :=
   [SSP.ROLE n, SSP.SPI_MODE n, SSP.TRIG n, SSP.DRDY_POL n, SSP.PER_RATE n, SSP.SCK_DIV n, SSP.RX_LEN_M1 n, SSP.CMD_LEN n, SSP.BE n, SSP.SSP_CMD n,
    SSP.SSP_LAT n, SSP.STAT_OFS n, SSP.STAT_MASK n, SSP.AXMAP n, SSP.CNT_EN n, SSP.CNT_OFS n, SSP.CNT_W16 n, SSP.LEV_X n, SSP.LEV_Y n, SSP.LEV_Z n,
    SSP.ACTIVE n, SSP.STALE n, SSP.CFG_ERR n, SSP.SAMPLES n, SSP.MISSED n, SSP.BAD n, SSP.LAST_DT_LO n, SSP.LAST_DT_HI n, SSP.OVERRATE n] ++
   (if 0x10 ≤ o && o < 0x48 then
    [SSP.OFS n ((o - 0x10) / 0x8), SSP.WIDTH n ((o - 0x10) / 0x8), SSP.EN n ((o - 0x10) / 0x8), SSP.MANT n ((o - 0x10) / 0x8),
    SSP.EXP n ((o - 0x10) / 0x8)] else [])

/-- Fields of GNSS page (R253, Table 07.13) among which a word at offset o is looked up. -/
def GNSS.cands (o : Nat) : List Field :=
   [GNSS.GNSS_EN, GNSS.CONST_EN, GNSS.SBAS_EN, GNSS.L5_EN, GNSS.RTK_EN, GNSS.EMBER_TRK, GNSS.NAV_RATE, GNSS.SPACING_MODE, GNSS.RAW_STREAM_EN,
    GNSS.NAV_STREAM_EN, GNSS.ELEV_MASK, GNSS.CN0_MASK, GNSS.ANT_EN, GNSS.ANT_V, GNSS.ANT_OPEN_MA, GNSS.ANT_RETRY, GNSS.TRK_CN0_MIN, GNSS.FIX_RATIO,
    GNSS.CORR_AGE_MAX, GNSS.ANT_STATE, GNSS.ANT_MA, GNSS.ANT_SHORTS, GNSS.AGC_L1, GNSS.AGC_L5, GNSS.CH_TRACK, GNSS.SV_USED, GNSS.SOL_TYPE, GNSS.PDOP,
    GNSS.SOL_DT_LO, GNSS.SOL_DT_HI, GNSS.SOL_LAT, GNSS.SOL_LON, GNSS.SOL_H, GNSS.SOL_VE, GNSS.SOL_VN, GNSS.SOL_VU, GNSS.SOL_SIG_H, GNSS.SOL_SIG_U,
    GNSS.CORR_AGE, GNSS.BASE_ID, GNSS.RTCM_PUSH, GNSS.RTCM_FREE, GNSS.RTCM_OVF, GNSS.RTCM_CRC_ERR, GNSS.RTCM_UNSUP, GNSS.NAV_PASS, GNSS.NAV_FAIL,
    GNSS.RAW_IDX] ++
   (if 0xc4 ≤ o && o < 0xe4 then
    [GNSS.RAW_REC ((o - 0xc4) / 0x4)] else [])

/-- Fields of TIME page (R254, Table 07.14) among which a word at offset o is looked up. -/
def TIME.cands (_o : Nat) : List Field :=
   [TIME.TPO_EN, TIME.TPO_RATE, TIME.TPO_POL, TIME.TPO_STOP_FREERUN, TIME.TPO_WIDTH, TIME.TPO_OFS, TIME.HOLDOVER_MAX, TIME.HO_DRIFT,
    TIME.TIME_STATUS, TIME.SLEWING, TIME.STEP, TIME.UTC_VALID, TIME.LEAP_PENDING, TIME.LEAP_SEC, TIME.HO_TIME, TIME.TIME_UNC, TIME.FREQ_ERR,
    TIME.MAP_SNAP, TIME.MAP_DT_LO, TIME.MAP_DT_HI, TIME.MAP_NSW_LO, TIME.MAP_NSW_HI, TIME.MAP_WEEK, TIME.MAP_RATE, TIME.TPO_DT_LO, TIME.TPO_DT_HI,
    TIME.STEP_SIZE, TIME.SLEW_REM]

/-- Fields of Camera model s (R262, Table 08.3) among which a word at offset o is looked up. -/
def CAM.cands (s : Nat) (_o : Nat) : List Field :=
   [CAM.MOUNT s, CAM.TIMING s, CAM.TRG_PIN s, CAM.EXP_RATE s, CAM.CAP_DLY s, CAM.MAP_W s, CAM.MAP_H s, CAM.FX s, CAM.FY s, CAM.CX s, CAM.CY s,
    CAM.K1 s, CAM.K2 s, CAM.CAM_X s, CAM.CAM_Y s, CAM.CAM_Z s, CAM.CAM_YAW s, CAM.CAM_PITCH s, CAM.CAM_ROLL s]

/-- Fields of GRID page (R292, Table 08.14) among which a word at offset o is looked up. -/
def GRID.cands (o : Nat) : List Field :=
   [GRID.GRID_EN, GRID.CONTRA_POLICY, GRID.TGT_LOG_EN, GRID.GRID_POSE_MIN, GRID.TRIG_DIV, GRID.TRG_PHASE, GRID.TRG_POL, GRID.TRG_WIDTH, GRID.LATE_MS,
    GRID.GROUND_Z, GRID.RANGE_MAX, GRID.WIN_AHEAD, GRID.RETIRE_DIST, GRID.VERDICT_THR, GRID.CONS_MAX_PCT, GRID.RATE_MIN_PCT, GRID.RECOVER_S,
    GRID.CONS_MIN_CELLS, GRID.AGREE_MIN, GRID.RES_MAX, GRID.AUDIT_WIN, GRID.AUDIT_MIN_TILES, GRID.AUDIT_MAX, GRID.AUDIT_REQ, GRID.NET_LOAD,
    GRID.WIN_CLEAR, GRID.GRID_MODE, GRID.AUDIT_CAUSE, GRID.NET_ERR, GRID.NET_OK, GRID.BLK_USED, GRID.BLK_MAX, GRID.SRC_OK_MASK,
    GRID.SRC_SUSPECT_MASK, GRID.LOAD_EST, GRID.LOAD_ACT, GRID.TILES_FUSED, GRID.LATE_USED, GRID.TOO_LATE, GRID.DROP_HIST, GRID.DROP_OTHER,
    GRID.WIN_FULL, GRID.SUPERSEDED, GRID.REC_ONLY, GRID.PAIR_A, GRID.PAIR_B, GRID.CONTRA_CNT, GRID.SHARED_CNT, GRID.PEEK_X, GRID.PEEK_Y,
    GRID.PEEK_SCORE, GRID.PEEK_META, GRID.PEEK_RES] ++
   (if 0x80 ≤ o && o < 0xc0 then
    [GRID.TGT_THR ((o - 0x80) / 0x8), GRID.CLASS_EN ((o - 0x80) / 0x8), GRID.FALLBACK ((o - 0x80) / 0x8), GRID.AUDIT_FB ((o - 0x80) / 0x8),
    GRID.TGT_MIN ((o - 0x80) / 0x8), GRID.NOCOV_FRAC ((o - 0x80) / 0x8)] else []) ++
   (if 0x100 ≤ o && o < 0x200 then
    [GRID.SRC_EN ((o - 0x100) / 0x10), GRID.SRC_FORCE ((o - 0x100) / 0x10), GRID.SRC_RETRY ((o - 0x100) / 0x10), GRID.HEALTH ((o - 0x100) / 0x10),
    GRID.SUS_CAUSE ((o - 0x100) / 0x10), GRID.SRC_ERR ((o - 0x100) / 0x10), GRID.RATE_LAST ((o - 0x100) / 0x10),
    GRID.AGREE_LAST ((o - 0x100) / 0x10), GRID.SRC_TILES ((o - 0x100) / 0x10), GRID.HDR_ERR ((o - 0x100) / 0x10), GRID.AGE_LAST ((o - 0x100) / 0x10),
    GRID.RES_LAST ((o - 0x100) / 0x10)] else [])

/-- Fields of CAL page (R293, Table 08.15) among which a word at offset o is looked up. -/
def CAL.cands (o : Nat) : List Field :=
   [CAL.CAL_EN, CAL.CAL_CH, CAL.CAL_SEARCH, CAL.CAL_GAIN, CAL.CONV_N, CAL.CONV_ANG, CAL.CONV_POS, CAL.CAL_DECIM, CAL.CAL_FIX, CAL.CAL_RESET,
    CAL.CAL_CONV, CAL.CAL_OOB] ++
   (if 0x100 ≤ o && o < 0x200 then
    [CAL.D_X ((o - 0x100) / 0x10), CAL.D_Y ((o - 0x100) / 0x10), CAL.D_Z ((o - 0x100) / 0x10), CAL.D_YAW ((o - 0x100) / 0x10),
    CAL.D_PITCH ((o - 0x100) / 0x10), CAL.D_ROLL ((o - 0x100) / 0x10), CAL.CAL_UPD ((o - 0x100) / 0x10)] else [])

/-- Fields of Profile header k (R298, Table 09.2) among which a word at offset o is looked up. -/
def PRF.cands (k : Nat) (_o : Nat) : List Field :=
   [PRF.N_PH_M1 k, PRF.END_FAST k, PRF.OK_EN k, PRF.CK_EN k, PRF.MIN_ON k, PRF.MIN_OFF k, PRF.OK_DIP k, PRF.OK_RATIO k, PRF.OK_BLANK k, PRF.CK_THR k,
    PRF.CK_BLANK k, PRF.CK_WIN k, PRF.KINK_STEP k, PRF.OL_T k]

/-- Fields of Phase m of profile k (R298, Table 09.3) among which a word at offset o is looked up. -/
def PHS.cands (k : Nat) (o : Nat) : List Field :=
   [] ++
   (if 0x10 ≤ o && o < 0x50 then
    [PHS.KIND k ((o - 0x10) / 0x8), PHS.PEAK k ((o - 0x10) / 0x8), PHS.FAST k ((o - 0x10) / 0x8), PHS.END k ((o - 0x10) / 0x8),
    PHS.I_HI k ((o - 0x10) / 0x8), PHS.I_LO k ((o - 0x10) / 0x8), PHS.T_MAX k ((o - 0x10) / 0x8), PHS.T_MIN k ((o - 0x10) / 0x8)] else [])

/-- Fields of IDC group page g (R329, Table 09.12) among which a word at offset o is looked up. -/
def IDG.cands (g : Nat) (o : Nat) : List Field :=
   [IDG.GRP_OVL_POLICY g, IDG.STAGGER_MAX g, IDG.PEAK_LIM g, IDG.DIM_STRETCH g, IDG.REC_STREAM_EN g, IDG.HSG_ON g, IDG.BANK_SUSP g, IDG.GRP_LATCH g,
    IDG.HSG_OC g, IDG.MISMATCH g, IDG.LOAD_NOW g, IDG.WAITING g, IDG.CONT_EXCESS g, IDG.STAGGER_CNT g, IDG.SHARE_CNT g, IDG.DEFER_CNT g,
    IDG.DEFER_CANCEL g, IDG.I_HSG g, IDG.DIE_TEMP g, IDG.GRP_FLT_CLR g, IDG.PROF_SEL g, IDG.PROF_ERR g, IDG.REC_CH g] ++
   (if 0x84 ≤ o && o < 0xac then
    [IDG.REC g ((o - 0x84) / 0x4)] else [])

/-- Fields of IDC channel c (R329, Table 09.13) among which a word at offset o is looked up. -/
def IDC.cands (c : Nat) (_o : Nat) : List Field :=
   [IDC.SHORT_MODE c, IDC.TEMP_SRC c, IDC.DIRECT_EN c, IDC.DIRECT_ON c, IDC.DIRECT_PROFILE c, IDC.HOLD_WINDOW c, IDC.R26 c, IDC.FLT_CLR c,
    IDC.CH_STATE c, IDC.PHASE c, IDC.FAULT c, IDC.DIAG_OFF c, IDC.PK_WARN c, IDC.I_NOW c, IDC.PULSE_CNT c, IDC.OPEN_MISS c, IDC.SEAT_MISS c,
    IDC.OFS_CAL c, IDC.TEMP_LAST c, IDC.HOLD_PULSES c]

/-- Fields of LSW bank registers (R362, Table 10.11) among which a word at offset o is looked up. -/
def LSB.cands (_o : Nat) : List Field :=
   [LSB.LSW_PWM_FREQ, LSB.BANK_SUSP 0, LSB.BANK_SUSP 1, LSB.BANK_SUSP 2, LSB.BANK_SUSP 3, LSB.BANK_HI 0, LSB.BANK_HI 1, LSB.BANK_HI 2, LSB.BANK_HI 3,
    LSB.I_BANK_A, LSB.I_BANK_B, LSB.I_BANK_C, LSB.I_BANK_D, LSB.INRUSH_CUT_CNT, LSB.BANK_OVL_CNT, LSB.BANK_WAIT_CNT, LSB.REVERSE_CNT]

/-- Fields of Load switch n (R362, Table 10.12) among which a word at offset o is looked up. -/
def LSW.cands (n : Nat) (_o : Nat) : List Field :=
   [LSW.ROLE n, LSW.INRUSH_MODE n, LSW.LOAD_TYPE n, LSW.THERM_MODE n, LSW.SHED_ON_DIM n, LSW.DUAL_FED n, LSW.OFF_DIAG_EN n, LSW.AUX_SRC n,
    LSW.AUX_SEL n, LSW.AUX_ON n, LSW.AUX_FORCE n, LSW.HOLD_WINDOW n, LSW.I_NOM n, LSW.I_BOOST n, LSW.T_BOOST n, LSW.LIM_PCT n, LSW.RETRY_MAX n,
    LSW.RETRY_WINDOW n, LSW.OVL_TIME n, LSW.AUX_DUTY n, LSW.OL_ON_MA n, LSW.FLT_CLR n, LSW.CH_STATE n, LSW.FAULT n, LSW.DIAG_OFF n, LSW.OUT_ON n,
    LSW.THERM_LATCH n, LSW.RESTARTS n, LSW.CFG_ERR n, LSW.I_MEAS n, LSW.CH_TEMP n, LSW.THERM_CNT n, LSW.SW_ON_CNT n]

/-- Fields of WDG page (R363, Table 10.13) among which a word at offset o is looked up. -/
def WDG.cands (o : Nat) : List Field :=
   [WDG.WDG_EN, WDG.ERR_LIMIT, WDG.SAFE_RELEASE, WDG.WIN_OPEN, WDG.WIN_CLOSE, WDG.WDG_KEY, WDG.CHALLENGE, WDG.RESPONSE, WDG.WDG_ARMED, WDG.WDG_EXP,
    WDG.ERR_CNT, WDG.LAST_ERR, WDG.SAFE_LEVEL, WDG.SAFE_LATCHED, WDG.SNUFF_ACT, WDG.SNUFF_SYNC, WDG.SNUFF_NOIMG, WDG.SAFE_CLR, WDG.SNUFF_STORE,
    WDG.WDG_EXP_CNT, WDG.SAFE_CNT] ++
   (if 0x100 ≤ o && o < 0x1f0 then
    [WDG.SNUFF_STATE ((o - 0x100) / 0x4), WDG.SNUFF_DUTY ((o - 0x100) / 0x4), WDG.SNUFF_FREQ ((o - 0x100) / 0x4)] else [])

/-- Fields of PWM page (R391, Table 11.5) among which a word at offset o is looked up. -/
def PWM.cands (o : Nat) : List Field :=
   [PWM.OUT_EN, PWM.UPD_HOLD, PWM.OWNED, PWM.MINP_DROP_CNT, PWM.MINP_STR_CNT] ++
   (if 0x80 ≤ o && o < 0x98 then
    [PWM.DEAD ((o - 0x80) / 0x4), PWM.PAIR_EN ((o - 0x80) / 0x4)] else []) ++
   (if 0x100 ≤ o && o < 0x1c0 then
    [PWM.ALIGN ((o - 0x100) / 0x10), PWM.UPD_MODE ((o - 0x100) / 0x10), PWM.POL ((o - 0x100) / 0x10), PWM.MINP_MODE ((o - 0x100) / 0x10),
    PWM.PSC ((o - 0x100) / 0x10), PWM.MIN_PULSE ((o - 0x100) / 0x10), PWM.PER ((o - 0x100) / 0x10), PWM.CMP ((o - 0x100) / 0x10),
    PWM.OUT_LVL ((o - 0x100) / 0x10), PWM.TRIPPED ((o - 0x100) / 0x10), PWM.IN_SNUFF ((o - 0x100) / 0x10), PWM.CMP_ACT ((o - 0x100) / 0x10)] else [])

/-- Fields of TRIP page (R392, Table 11.6) among which a word at offset o is looked up. -/
def TRIP.cands (o : Nat) : List Field :=
   [TRIP.TRIP_LEVEL, TRIP.TRIP_LATCHED, TRIP.GRP_HELD, TRIP.TRIP_CLR, TRIP.TRIP_CNT] ++
   (if 0x40 ≤ o && o < 0x50 then
    [TRIP.TRIP_MAP ((o - 0x40) / 0x4), TRIP.TRIP_POL ((o - 0x40) / 0x4), TRIP.TRIP_MODE ((o - 0x40) / 0x4), TRIP.FILT ((o - 0x40) / 0x4),
    TRIP.TRIP_BLANK ((o - 0x40) / 0x4)] else [])

/-- Fields of FBK page n (R393, Table 11.7) among which a word at offset o is looked up. -/
def FBK.cands (n : Nat) (_o : Nat) : List Field :=
   [FBK.MODE n, FBK.EDGE_SEL n, FBK.DIR_B n, FBK.INV n, FBK.IDX_EN n, FBK.IDX_HOME n, FBK.IDX_POLICY n, FBK.SUSP_STALE n, FBK.GLITCH n, FBK.WIN_MS n,
    FBK.PER_MIN_EDGES n, FBK.ZERO_MS n, FBK.IDX_PERIOD n, FBK.IDX_POS n, FBK.IDX_TOL n, FBK.SSI_BITS n, FBK.SSI_ERR_EN n, FBK.SSI_ERR_POL n,
    FBK.SSI_CRC_W n, FBK.SSI_CRC_INV n, FBK.SSI_GRAY n, FBK.SSI_CLK n, FBK.SSI_CRC_POLY n, FBK.SSI_LEAD n, FBK.SSI_TMO n, FBK.POS_VAL n,
    FBK.POS_LOAD n, FBK.FBK_CLR n, FBK.POS n, FBK.FREQ n, FBK.FREQ_DT_LO n, FBK.FREQ_DT_HI n, FBK.METHOD n, FBK.IDX_SYNC n, FBK.SUSPECT n,
    FBK.IDX_MISSING n, FBK.MISS_RUN n, FBK.SSI_ERR_LAST n, FBK.IDX_CAPT n, FBK.IDX_ERR n, FBK.IDX_MISMATCH_CNT n, FBK.SSI_ERR_CNT n,
    FBK.LAST_EDGE_DT_LO n, FBK.LAST_EDGE_DT_HI n]

/-- Fields of GIN page (R394, Table 11.8) among which a word at offset o is looked up. -/
def GIN.cands (o : Nat) : List Field :=
   [GIN.GIN_STATE, GIN.PULL, GIN.GIN_EVT_EN, GIN.GIN_CHG, GIN.PLAIN_SPEED, GIN.PLAIN_GATE] ++
   (if 0x80 ≤ o && o < 0x98 then (List.range 4).map (fun j => GIN.DEB_MS (4 * ((o - 0x80) / 4) + j)) else [])

/-- Fields of CAN page n (R426, Table 12.18) among which a word at offset o is looked up. -/
def CAN.cands (n : Nat) (o : Nat) : List Field :=
   [CAN.PROTO n, CAN.FRAME n, CAN.LISTEN n, CAN.TDC_EN n, CAN.XL_SDT n, CAN.XL_VCID n, CAN.NBRP n, CAN.NTSEG1 n, CAN.NTSEG2 n, CAN.NSJW n,
    CAN.DBRP n, CAN.DTSEG1 n, CAN.DTSEG2 n, CAN.DSJW n, CAN.TDCO n, CAN.XL_AF n, CAN.ABD_START n, CAN.BUS_ON n, CAN.CAN_STATE n, CAN.CFG_ERR n,
    CAN.ABD_STATE n, CAN.TEC n, CAN.REC_ERR n, CAN.ABD_NOM n, CAN.ABD_DATA n, CAN.ABD_FRAMES n, CAN.ABD_TMO n, CAN.LOAD_LAST n, CAN.LOAD_MAX n,
    CAN.RXQ_CNT n, CAN.SHADOW_FULL n, CAN.RX_HEAD n, CAN.RX_ACK n, CAN.RX_DROP n, CAN.RTR_IGN n, CAN.XL_OVERSIZE n, CAN.XL_MISMATCH n, CAN.TX_ID n,
    CAN.TX_IDE n, CAN.TX_LEN n, CAN.TX_BRS n, CAN.TX_GO n, CAN.TX_BUSY n, CAN.TX_REFUSED n] ++
   (if 0x100 ≤ o && o < 0x140 then
    [CAN.TX_DATA n ((o - 0x100) / 0x4)] else [])

/-- Fields of ISO 11783 registers of CANn (R426, Table 12.19) among which a word at offset o is looked up. -/
def ISO.cands (n : Nat) (_o : Nat) : List Field :=
   [ISO.ISO_NAME_LO n, ISO.ISO_NAME_HI n, ISO.PREF_SA n, ISO.SA_ACT n, ISO.CLAIMED n, ISO.CANNOT_CLAIM n, ISO.SPD_SA n, ISO.NAV_SA n,
    ISO.TP_CTS_PKTS n, ISO.UERE_FIX n, ISO.UERE_FLOAT n, ISO.UERE_STD n, ISO.NAV_VSIG n, ISO.TP_RX_LEN n, ISO.TP_RX_FULL n, ISO.TP_RX_PGN n,
    ISO.TP_RX_SA n, ISO.TP_RX_ACK n, ISO.TP_REFUSED n, ISO.TP_TX_LEN n, ISO.TP_TX_PGN n, ISO.TP_TX_DA n, ISO.TP_TX_GO n, ISO.TP_TX_BUSY n,
    ISO.TP_TX_RES n]

/-- Fields of VNP registers of CANn, n = 2 to 5 (R426, Table 12.20) among which a word at offset o is looked up. -/
def VNP.cands (n : Nat) (_o : Nat) : List Field :=
   [VNP.RPT_DIV n, VNP.BCN_TMO n, VNP.STAT_DIV n, VNP.SHADE_TIME n, VNP.SHADE_NODES n, VNP.SHADE_EN n, VNP.FLT_REP n, VNP.NODE_READY_LO n,
    VNP.NODE_READY_HI n, VNP.SHADE_ACT n, VNP.BUS_SUPPLY n, VNP.SHADE_REM n, VNP.NEW_UID_LO n, VNP.NEW_UID_HI n, VNP.NEW_CNT n, VNP.NEW_NEXT n,
    VNP.POLL_NODE n, VNP.POLL_GO n, VNP.RPT_STALE n, VNP.VNP_UNKNOWN n, VNP.NODE_IDX n, VNP.NODE_STATE n, VNP.N_PTS_M1 n, VNP.LAT_RPT n,
    VNP.N_SNUFFED n, VNP.PT_ERR n, VNP.VNP_VER n, VNP.N_TEMP n, VNP.N_VSUP n, VNP.N_PT_STATE n, VNP.N_UID_LO n, VNP.N_UID_HI n, VNP.VENDOR n,
    VNP.N_RX_LATE n, VNP.N_RECORDS n, VNP.N_FAULTS n]

/-- Fields of KSP page n (R452, Table 13.12) among which a word at offset o is looked up. -/
def KSP.cands (n : Nat) (o : Nat) : List Field :=
   [KSP.KSP_EN n, KSP.KSP_MODE n, KSP.MAX_WIDTH n, KSP.TSYNC_DIV n, KSP.LINK_STATE n, KSP.WIDTH n, KSP.LANE_LOCK n, KSP.FAR_END n, KSP.CRC_ERR n,
    KSP.REPLAY_CNT n, KSP.RETRAIN_CNT n, KSP.DOWN_CNT n, KSP.RX_DISCARD n, KSP.TRAIN_FAIL n, KSP.RETRAIN n] ++
   (if 0x60 ≤ o && o < 0x74 then
    [KSP.TX_MBPS n ((o - 0x60) / 0x4), KSP.RX_MBPS n ((o - 0x60) / 0x4)] else []) ++
   (if 0x80 ≤ o && o < 0x94 then
    [KSP.TX_CREDIT n ((o - 0x80) / 0x4), KSP.RX_FREE n ((o - 0x80) / 0x4)] else [])

/-- Fields of PAIR page (R453, Table 13.13) among which a word at offset o is looked up. -/
def PAIR.cands (_o : Nat) : List Field :=
   [PAIR.PAIR_EN, PAIR.UNIT, PAIR.PREF_ACTIVE, PAIR.RETURN_EN, PAIR.ROLE_SWAP, PAIR.RETURN_HOLD, PAIR.PAIR_WAIT, PAIR.BEACON_LISTEN,
    PAIR.MIRROR_STALE, PAIR.PAIR_STATE, PAIR.SYNCED, PAIR.HB_PIN_OK, PAIR.HB_KSP_OK, PAIR.PARTNER_UNIT, PAIR.STALE_TAKEOVER, PAIR.PAIR_ERR,
    PAIR.HB_MISS, PAIR.TAKEOVER_CNT, PAIR.HANDOVER_CNT, PAIR.DEC_DIFF, PAIR.TILE_REPAIR, PAIR.LAST_TAKEOVER, PAIR.PT_OFS_LO, PAIR.PT_OFS_HI,
    PAIR.PT_RATE, PAIR.MIRROR_KBPS, PAIR.CFG_IGNORED]

/-- Fields of Common page header at base b (R458, Table 14.3) among which a word at offset o is looked up. -/
def HDR.cands (b : Nat) (_o : Nat) : List Field :=
   [HDR.BLOCK b, HDR.INSTANCE b, HDR.MINOR b, HDR.MAJOR b, HDR.PG_EN b, HDR.SOFT_RST b, HDR.FREEZE b, HDR.IN_SERVICE b, HDR.UNLOCKED b, HDR.FROZEN b,
    HDR.PG_EVT_RAW b, HDR.PG_EVT_EN b, HDR.PG_EVT_PEND b, HDR.KEY b, HDR.LOCK_OPEN b, HDR.UPD_HOLD b, HDR.DISCARD b, HDR.SHADOW_PEND b, HDR.HELD b]

/-- Fields of HIF page (R486, Table 14.9) among which a word at offset o is looked up. -/
def HIF.cands (_o : Nat) : List Field :=
   [HIF.HSPI_DUMMY, HIF.QUAD_EN, HIF.HOST_SEEN, HIF.LAST_SRC, HIF.HSPI_FRAMES, HIF.HSPI_CRC_ERR, HIF.HSPI_ABORT, HIF.ADDR_ERRS, HIF.LOCK_REFUSED,
    HIF.ERR_ADDR, HIF.HIF_SCRATCH]

/-- Fields of EVH page (R487, Table 14.10) among which a word at offset o is looked up. -/
def EVH.cands (o : Nat) : List Field :=
   [EVH.KSP_DROP] ++
   (if 0x40 ≤ o && o < 0x50 then
    [EVH.IRQ_EN ((o - 0x40) / 0x4), EVH.IRQ_OD ((o - 0x40) / 0x4), EVH.IRQ_PULSE ((o - 0x40) / 0x4), EVH.PRIO_MIN ((o - 0x40) / 0x4),
    EVH.IRQ_TOP ((o - 0x40) / 0x4)] else []) ++
   (if 0x80 ≤ o && o < 0xa0 then
    [EVH.EVT_PEND_ALL ((o - 0x80) / 0x4)] else []) ++
   (if 0xa0 ≤ o && o < 0xc0 then
    [EVH.EVT_RAW_ALL ((o - 0xa0) / 0x4)] else []) ++
   (if 0x400 ≤ o && o < 0x800 then
    [EVH.IRQ_ROUTE ((o - 0x400) / 0x4), EVH.KSP_ROUTE ((o - 0x400) / 0x4), EVH.REC_ROUTE ((o - 0x400) / 0x4), EVH.PRIO ((o - 0x400) / 0x4),
    EVH.RL_MS ((o - 0x400) / 0x4), EVH.COAL ((o - 0x400) / 0x4)] else [])

/-- Fields of CRC page n (R488, Table 14.11) among which a word at offset o is looked up. -/
def CRC.cands (n : Nat) (_o : Nat) : List Field :=
   [CRC.WIDTH n, CRC.REFIN n, CRC.REFOUT n, CRC.FEED_W n, CRC.POLY_LO n, CRC.POLY_HI n, CRC.INIT_LO n, CRC.INIT_HI n, CRC.XOROUT_LO n,
    CRC.XOROUT_HI n, CRC.START n, CRC.DATA_IN n, CRC.STATE_LO n, CRC.STATE_HI n, CRC.RESULT_LO n, CRC.RESULT_HI n, CRC.DMA_SRC n, CRC.DMA_LEN n,
    CRC.DMA_GO n, CRC.DMA_ABORT n, CRC.DMA_BUSY n, CRC.DMA_ERR n, CRC.FEED_IGN n, CRC.DMA_DONE n]

/-- Fields of PWR page (R526, Table 15.9) among which a word at offset o is looked up. -/
def PWR.cands (_o : Nat) : List Field :=
   [PWR.NOM_SYS, PWR.SNS5V_EN, PWR.IGN_EN, PWR.IGN_GIN, PWR.IGN_POL, PWR.VWARN, PWR.VBANK_UV, PWR.DIM_MAX, PWR.HOST_WAIT, PWR.EMBER_DELAY,
    PWR.EMBER_FLUSH_MAX, PWR.EMBER_TIMER, PWR.OT_WARN, PWR.FW_TRIAL, PWR.RST_CMD, PWR.SNUFF_REQ, PWR.SNUFF_CLR, PWR.EMBER_REQ, PWR.MODE_REQ,
    PWR.CFG_STORE, PWR.CFG_ERASE, PWR.FW_ACTIVATE, PWR.FW_CONFIRM, PWR.FW_OFS, PWR.FW_PUSH, PWR.UV_ACT, PWR.VBAT_OV, PWR.BANK_SUSP, PWR.BANK_OV,
    PWR.SNS5V_FLT, PWR.CFG_VALID, PWR.NOM_ACT, PWR.FW_RUN, PWR.FW_TRIAL_ACT, PWR.FW_PENDING, PWR.FW_BUSY, PWR.FW_ERR, PWR.SNUFF_CAUSE,
    PWR.LAST_RESET, PWR.RST_REFUSED, PWR.BOOT_REC, PWR.VBAT_MV, PWR.VMIN_MV, PWR.VPWR_A_MV, PWR.VPWR_B_MV, PWR.VPWR_C_MV, PWR.VPWR_D_MV, PWR.DIM_CNT,
    PWR.DIM_LAST, PWR.RELIGHT_CNT, PWR.RELIGHT_FAIL, PWR.POWER_CYCLES, PWR.OP_TIME, PWR.LOGIC_TEMP, PWR.SNS5V_MA, PWR.FW_VER_A, PWR.FW_VER_B,
    PWR.SNUFF_CAUSES]

/-- Fields of REC page (R545, Table 16.9) among which a word at offset o is looked up. -/
def REC.cands (o : Nat) : List Field :=
   [REC.REC_EN, REC.TB_BURST, REC.TB_PERIOD, REC.RD_OFS, REC.RD_STREAM, REC.LOG_CLR, REC.REC_TRIG, REC.TRIG_SEL, REC.REC_FULL, REC.STREAMING,
    REC.RD_VALID, REC.WR_PTR, REC.RD_NEXT, REC.REC_SEQ, REC.LOST_CNT, REC.RL_DROP, REC.STAGE_DROP, REC.STAGE_KB, REC.LOG_GEN, REC.SL_SET, REC.SL_IDX,
    REC.SL_ADDR] ++
   (if 0x100 ≤ o && o < 0x180 then
    [REC.EVT_LO ((o - 0x100) / 0x4), REC.EVT_HI ((o - 0x100) / 0x4), REC.SNAP_N ((o - 0x100) / 0x4), REC.TS_EN ((o - 0x100) / 0x4),
    REC.TS_GEN ((o - 0x100) / 0x4)] else [])

/-- Fields of CNT page (R546, Table 16.10) among which a word at offset o is looked up. -/
def CNT.cands (o : Nat) : List Field :=
   [CNT.IMPL_ID, CNT.BIND_LOCK, CNT.MAX_APP_SPEED, CNT.SEC_LEVEL, CNT.FW_FLOOR, CNT.MACHINE_SN, CNT.OEM_CODE, CNT.CFG_LOCK, CNT.SNUFF_LOCK,
    CNT.ASSET_TAG, CNT.HOURS_BASE, CNT.FROZEN, CNT.LAST_ERR_IDX, CNT.LAST_ERR, CNT.CNT_BUSY, CNT.REFUSED_CNT, CNT.HIST_SET, CNT.HIST_N] ++
   (if 0x80 ≤ o && o < 0x90 then
    [CNT.USED ((o - 0x80) / 0x4)] else []) ++
   (if 0xc4 ≤ o && o < 0xe4 then
    [CNT.HIST_ENTRY ((o - 0xc4) / 0x4)] else [])

/-- Fields of TST page (R547, Table 16.11) among which a word at offset o is looked up. -/
def TST.cands (o : Nat) : List Field :=
   [TST.T_ID, TST.T_TARGET, TST.T_PARAM, TST.T_GO, TST.T_SLOT, TST.Q_FULL, TST.TEST_WAIT_MAX, TST.TST_SLOT, TST.AUTO_PER, TST.AUTO_MASK, TST.FINISHED] ++
   (if 0x100 ≤ o && o < 0x180 then
    [TST.S_ID ((o - 0x100) / 0x8), TST.S_TARGET ((o - 0x100) / 0x8), TST.STATUS ((o - 0x100) / 0x8), TST.RESULT ((o - 0x100) / 0x8),
    TST.DETAIL ((o - 0x100) / 0x8)] else [])

/-- The fields of a page at base `b`, header included, among which offset `o` is looked up (R455, Table 14.1). -/
def pageCands (b o : Nat) : List Field :=
  (if o < 0x040 then HDR.cands b o else
   if b < 0x010000 then
     (if b = 0x000000 then SYS.cands o else if b = 0x001000 then PWR.cands o else if b = 0x002000 then EVH.cands o
      else if b = 0x003000 then WDG.cands o else if b = 0x004000 then REC.cands o else if b = 0x005000 then CNT.cands o
      else if b = 0x006000 then TST.cands o else [])
   else if b < 0x018000 then GEO.cands ((b - 0x010000) / 0x1000) o ++ (if b = 0x010000 then GEOP.cands o else [])
   else if b < 0x040000 then
     (if b = 0x030000 then COV.cands o else if b = 0x031000 then TPL.cands o else if b = 0x032000 then DEC.cands o
      else if b = 0x033000 then RATE.cands o else if b = 0x034000 then POSE.cands o else if b = 0x035000 then GNSS.cands o
      else if b = 0x036000 then TIME.cands o
      else if b = 0x037000 then (if 0x100 ≤ o && o < 0x300 then SSP.cands ((o - 0x100) / 0x80) ((o - 0x100) % 0x80) else [])
      else if b = 0x038000 then GRID.cands o else if b = 0x039000 then CAL.cands o else [])
   else if b < 0x048000 then IDG.cands ((b - 0x040000) / 0x1000) o ++
     (if 0x100 ≤ o && o < 0x200 then IDC.cands (4 * ((b - 0x040000) / 0x1000) + (o - 0x100) / 0x40) o else [])
   else if b < 0x04A000 then (if b = 0x048000 then LSB.cands o else []) ++
     (if 0x100 ≤ o && o < 0x300 then LSW.cands (8 * ((b - 0x048000) / 0x1000) + (o - 0x100) / 0x40) o else [])
   else if b = 0x04A000 then PWM.cands o else if b = 0x04B000 then TRIP.cands o else if b = 0x04C000 then GIN.cands o
   else if b < 0x050000 then []
   else if b < 0x058000 then FBK.cands ((b - 0x050000) / 0x1000) o
   else if b < 0x062000 then CAN.cands ((b - 0x060000) / 0x1000) o ++ ISO.cands ((b - 0x060000) / 0x1000) o
   else if b < 0x066000 then CAN.cands ((b - 0x060000) / 0x1000) o ++ VNP.cands ((b - 0x060000) / 0x1000) o
   else if b = 0x070000 then KSP.cands 0 o else if b = 0x071000 then KSP.cands 1 o else if b = 0x072000 then PAIR.cands o
   else if b < 0x078000 then []
   else if b < 0x080000 then CRC.cands ((b - 0x078000) / 0x1000) o
   else if b = 0x080000 then HIF.cands o else [])

/-- The fields of the tables outside the pages at address `a` (R456, Table 14.2). -/
def tableCands (a : Nat) : List Field :=
  if a < 0x030000 then PD.cands ((a - 0x020000) / 0x40) (a % 0x40)
  else if a < 0x402000 then RT.cands ((a - 0x400000) / 0x400) (a % 0x400)
  else if a < 0x40A000 then NZ.cands ((a - 0x402000) / 0x80) (a % 0x80)
  else if a < 0x440000 then []
  else if a < 0x440800 then PRF.cands ((a - 0x440000) / 0x80) (a % 0x80) ++ PHS.cands ((a - 0x440000) / 0x80) (a % 0x80)
  else if a < 0x450000 then []
  else if a < 0x450800 then CAM.cands ((a - 0x450000) / 0x80) (a % 0x80)
  else if a < 0x460000 then []
  else if a < 0x460800 then [NODE.UID_LO ((a - 0x460000) / 0x200) ((a % 0x200) / 8), NODE.UID_HI ((a - 0x460000) / 0x200) ((a % 0x200) / 8)]
  else []

/-- The fields of the word at address `a`: none where no page or table defines it (R454). -/
def fieldsAt (a : Nat) : List Field :=
  (if isPage (a / 0x1000 * 0x1000) then pageCands (a / 0x1000 * 0x1000) (a % 0x1000)
   else if (0x020000 ≤ a && a < 0x030000) || 0x400000 ≤ a then tableCands a
   else []).filter (fun f => f.addr == a)

end Sys2Proof.Machine
end

