-- ==== Sys2Proof/Machine/Operands.lean ====
section
/-! DEFINITION. Forms of operands and numbers: bit fields, signed fields, clamping, byte order (R13), time units of DT
(R33), check values (R469, R482), and the fixed-point functions the geometry of the spec names (log entry 5). -/

namespace Sys2Proof.Machine

/-! ### Bit fields and signed fields -/

/-- Bits [lo + w - 1 : lo] of `v`. -/
def bitsOf (v lo w : Nat) : Nat := v / 2 ^ lo % 2 ^ w

/-- Bit `i` of `v`. -/
def bitOf (v i : Nat) : Bool := v / 2 ^ i % 2 == 1

/-- `v` with bit `i` set to `b`. -/
def setBitOf (v i : Nat) (b : Bool) : Nat :=
  if bitOf v i == b then v else if b then v + 2 ^ i else v - 2 ^ i

/-- One bit as a number. -/
def b2n (b : Bool) : Nat := if b then 1 else 0

/-- The signed value of a `w`-bit field. -/
def toS (w v : Nat) : Int := if v % 2 ^ w < 2 ^ (w - 1) then ((v % 2 ^ w : Nat) : Int) else ((v % 2 ^ w : Nat) : Int) - 2 ^ w

/-- The `w`-bit field that holds the signed value `i`, wrapped. -/
def ofS (w : Nat) (i : Int) : Nat := (i % 2 ^ w).toNat

/-- `i` limited to the range of a signed `w`-bit field. -/
def clampS (w : Nat) (i : Int) : Int := max (-(2 ^ (w - 1))) (min (2 ^ (w - 1) - 1) i)

/-- The signed `w`-bit field that holds `i`, saturated. -/
def satS (w : Nat) (i : Int) : Nat := ofS w (clampS w i)

/-- The unsigned `w`-bit field that holds `i`, saturated at both ends. -/
def satU (w : Nat) (i : Int) : Nat := (max 0 (min (2 ^ w - 1) i)).toNat

/-- `v` held at the limits `lo` and `hi`. -/
def held (lo hi v : Nat) : Nat := max lo (min hi v)

/-- `n / d` rounded to the nearest integer, halves away from zero; `d` positive. -/
def roundDiv (n d : Int) : Int := if 0 ≤ n then (2 * n + d) / (2 * d) else -((-(2 * n) + d) / (2 * d))

/-- Natural division rounded up. -/
def ceilDiv (n d : Nat) : Nat := (n + d - 1) / d

/-- Number of set bits of `v` among bits 0 to `w` - 1. -/
def popCount : Nat → Nat → Nat
  | 0, _ => 0
  | w + 1, v => v % 2 + popCount w (v / 2)

/-- The lowest set bit of `v` at or above `i`, looking at `fuel` bits. -/
def lowestSet : Nat → Nat → Nat → Option Nat
  | 0, _, _ => none
  | fuel + 1, i, v => if bitOf v i then some i else lowestSet fuel (i + 1) v

/-! ### Byte order (R13: little-endian) -/

/-- The low `n` bytes of `v`, least significant first. -/
def bytesLE : Nat → Nat → List Nat
  | 0, _ => []
  | n + 1, v => v % 256 :: bytesLE n (v / 256)

/-- The number whose bytes, least significant first, are `bs`. -/
def ofBytesLE : List Nat → Nat
  | [] => 0
  | b :: bs => b % 256 + 256 * ofBytesLE bs

/-- The bytes of 32-bit words, each least significant byte first. -/
def wordsToBytes (ws : List Nat) : List Nat := ws.flatMap (bytesLE 4)

/-- The 32-bit words of a byte string, the last one filled with zeros. -/
def bytesToWords : Nat → List Nat → List Nat
  | 0, _ => []
  | n + 1, bs => ofBytesLE (bs.take 4) :: bytesToWords n (bs.drop 4)

/-! ### Device time: DT advances in fabric cycles of 2.5 ns (R33) -/

/-- Fabric cycles of `n` microseconds. -/
def us (n : Nat) : Nat := 400 * n
/-- Fabric cycles of `n` milliseconds. -/
def ms (n : Nat) : Nat := 400000 * n
/-- Fabric cycles of `n` seconds. -/
def sec (n : Nat) : Nat := 400000000 * n
/-- DT in whole nanoseconds, rounded down, from fabric cycles (R33). -/
def nsOf (c : Nat) : Nat := 5 * c / 2
/-- The first fabric cycle at which DT has reached `n` nanoseconds. -/
def cyclesOfNs (n : Nat) : Nat := (2 * n + 4) / 5
/-- Tick period in fabric cycles of a TICK_RATE code (R37, Table 01.3). -/
def periodOf (code : Nat) : Nat :=
  if code == 0 then us 2000 else if code == 1 then us 1000 else if code == 2 then us 500 else us 250
/-- The TICK_RATE code of a period in cycles. -/
def rateCode (p : Nat) : Nat := if p = 800000 then 0 else if p = 400000 then 1 else if p = 200000 then 2 else 3

/-- Tick rate in Hz of a TICK_RATE code (R37, Table 01.3). -/
def rateHz (code : Nat) : Nat := if code == 0 then 500 else if code == 1 then 1000 else if code == 2 then 2000 else 4000
/-- Points guaranteed at a TICK_RATE code (R37, R38, Table 01.3). -/
def ptsGuaranteed (code : Nat) : Nat := if code ≤ 1 then 1024 else if code == 2 then 512 else 128

/-! ### Check values -/

/-- One CRC step of R482: `b` is the message bit. -/
def crcBit (width poly : Nat) (st : Nat) (b : Bool) : Nat :=
  let sh := (2 * st) % 2 ^ width
  if (bitOf st (width - 1)) != b then sh ^^^ (poly % 2 ^ width) else sh

/-- The bits of a byte in the order R482 feeds them. -/
def byteBits (refin : Bool) (byte : Nat) : List Bool :=
  (List.range 8).map (fun k => bitOf byte (if refin then k else 7 - k))

/-- feed(byte) of R482. -/
def crcFeed (width poly : Nat) (refin : Bool) (st byte : Nat) : Nat :=
  (byteBits refin byte).foldl (crcBit width poly) (st % 2 ^ width)

/-- reflect(v, w) of R482. -/
def reflect (w v : Nat) : Nat := (List.range w).foldl (fun a k => 2 * a + v / 2 ^ k % 2) 0

/-- RESULT of R482 from a STATE. -/
def crcResult (width : Nat) (refout : Bool) (xorout st : Nat) : Nat :=
  (if refout then reflect width st else st % 2 ^ width) ^^^ (xorout % 2 ^ width)

/-- CRC-16 of R358 and R469: polynomial 0x1021, initial value 0xFFFF, no reflection, no final XOR. -/
def crc16 (bs : List Nat) : Nat := bs.foldl (crcFeed 16 0x1021 false) 0xFFFF

/-- CRC-32 of TILE_CRC (Table 03.10): polynomial 0x04C11DB7, reflected, initial value and final XOR all ones. -/
def crc32 (bs : List Nat) : Nat := crcResult 32 true 0xFFFFFFFF (bs.foldl (crcFeed 32 0x04C11DB7 true) 0xFFFFFFFF)

/-! ### Roots and angles (log entry 5: exact integer square roots, 48-bit fixed-point series) -/

/-- Bitwise integer square root: bits from `k` - 1 down, `r` found so far. -/
def isqrtAux : Nat → Nat → Nat → Nat
  | 0, r, _ => r
  | k + 1, r, n => if (r + 2 ^ k) * (r + 2 ^ k) ≤ n then isqrtAux k (r + 2 ^ k) n else isqrtAux k r n

/-- The largest `r` with `r * r ≤ n`, for `n` below 2^128. -/
def isqrt (n : Nat) : Nat := isqrtAux 64 0 n

/-- The square root of `n` rounded to the nearest integer. -/
def isqrtNear (n : Nat) : Nat := let r := isqrt n; if r * r + r < n then r + 1 else r

/-- One in the fixed-point format of `sinF` and `cosF`. -/
def fxOne : Int := 2 ^ 48

/-- π in 48-bit fixed point. -/
def fxPi : Int := 884279719003555

/-- The Taylor series of sine at `x` (fixed point), `k` further terms from the term `t` of odd order `n`. -/
def sinSeries (x2 : Int) : Nat → Int → Int → Int
  | 0, _, t => t
  | k + 1, n, t => t + sinSeries x2 k (n + 2) (-(t * x2 / fxOne) / ((n + 1) * (n + 2)))

/-- Sine of `u / half` times π/2, for `u` from 0 to `half`: exact at both ends. -/
def sinQuarter (u half : Int) : Int :=
  if u = half then fxOne else sinSeries ((u * fxPi / (2 * half)) * (u * fxPi / (2 * half)) / fxOne) 11 1 (u * fxPi / (2 * half))

/-- Sine, in fixed point, of an angle in units of 0.005°. -/
def sinH (a : Int) : Int :=
  let m := a % 72000
  let q := fun (u : Int) => sinQuarter u 18000
  if m ≤ 18000 then q m else if m ≤ 36000 then q (36000 - m) else if m ≤ 54000 then -(q (m - 36000)) else -(q (72000 - m))

/-- Sine, in fixed point, of an angle in units of 0.01°. -/
def sinC (a : Int) : Int := sinH (2 * a)

/-- Cosine, in fixed point, of an angle in units of 0.01°. -/
def cosC (a : Int) : Int := sinH (2 * a + 18000)

/-- A fixed-point number rounded to the nearest integer. -/
def fxRound (v : Int) : Int := roundDiv v fxOne

/-- The angle of (u, v) with u, v ≥ 0, from the u axis, in 0.01° rounded to nearest: the largest `k` whose lower half
boundary lies at or below the direction, found by bits. -/
def atanSearch (u v : Int) : Nat → Int → Int
  | 0, k => k
  | n + 1, k =>
    let c := k + 2 ^ n
    if c ≤ 9000 ∧ 0 ≤ v * sinH (2 * c - 1 + 18000) - u * sinH (2 * c - 1) then atanSearch u v n c else atanSearch u v n k

/-- The angle of the vector (x, y) from the x axis toward the y axis, in 0.01°, from 0 to 35,999; 0 for the zero
vector. -/
def atan2C (y x : Int) : Int :=
  (if x = 0 ∧ y = 0 then 0
   else if 0 ≤ x ∧ 0 ≤ y then atanSearch x y 14 0
   else if x < 0 ∧ 0 ≤ y then 9000 + atanSearch y (-x) 14 0
   else if x < 0 ∧ y < 0 then 18000 + atanSearch (-x) (-y) 14 0
   else 27000 + atanSearch (-y) x 14 0) % 36000

/-- An angle difference in 0.01°, wrapped to -18,000 to 17,999. -/
def wrapC (a : Int) : Int := (a + 18000) % 36000 - 18000

end Sys2Proof.Machine
end

