-- ==== Sys2Proof/Machine/State.lean ====
section
/-! DEFINITION. The state of the block, as plain data. Every register field lives in `Dev.regs` under its field key
(`Sys2Proof.Machine.Layout`), absent where it holds its reset value; what the spec gives beside the registers lives in
one record per block; and the commands that wait stand in `State.pending`. `State.reset` is the block right after a
power-on reset. -/

namespace Sys2Proof.Machine

/-- Why a step may stop with a fault: this model has no such case (`NOTES.md`, Stops). -/
inductive Fault where
  /-- Raised by no meaning; present so that the type names its one reason. Safe. -/
  | impossible
  deriving DecidableEq, Repr

/-- Why a step may refuse. -/
inductive Refusal where
  /-- Raised by an arm of `exec` whose command has no meaning yet, by its mnemonic. Safe: the run stops. -/
  | notModelled (mnemonic : String)
  deriving DecidableEq, Repr


/-! ### SYS: the tick grid (R37 to R56) -/

/-- The tick grid and its epoch (R40, R41, R55, R569). Edges lie at `tEpoch + (n - nEpoch) * period`, in fabric
cycles of DT. `nextN` is the count of the next tick to start; `rateChg` are the period changes to come, each with the tick
it names. -/
structure SysBlk where
  gridOn : Bool := false
  tEpoch : Nat := 0
  nEpoch : Nat := 0
  period : Nat := 400000
  nextN : Nat := 0
  rateChg : List (Nat × Nat) := []
  deriving DecidableEq, Repr, Inhabited

/-- The shadow copy of a field that takes effect at a commit (R20): the value written last with its DT, whether it was
written under an UPD_HOLD (R49, R463), and whether a commit has refused it, so that it is read but awaits nothing. -/
structure PendVal where
  val : Nat := 0
  at_ : Nat := 0
  under : Bool := false
  dead : Bool := false
  deriving DecidableEq, Repr, Inhabited

/-- Everything that waits for a commit (R20, R48): the shadow values, and FIELD_CMD (R94), SNUFF_CLR (R501) and MODE_REQ
(R514), each with the DT of its write and whether it was written under an UPD_HOLD. -/
structure Waits where
  pend : Tab PendVal := []
  cmd : Nat := 0
  cmdAt : Nat := 0
  cmdUnder : Bool := false
  clr : Bool := false
  clrAt : Nat := 0
  clrUnder : Bool := false
  mode : Nat := 0
  modeAt : Nat := 0
  modeUnder : Bool := false
  deriving DecidableEq, Repr, Inhabited

/-! ### HIF: the host paths (R457 to R473) -/

/-- Host-side state: upper-half latches by the address of the high word (R36), pages unlocked with the DT of their
unlock and pages that have taken 0x5A with its DT (R462), frozen readings by page (R461), the held upper half of CRC
state writes (R484), and the last answer of the host SPI (R470, R471). -/
structure HifBlk where
  inService : Bool := false
  latch : KMap := []
  unlocked : KMap := []
  keyHalf : KMap := []
  frozen : Tab KMap := []
  stateHi : KMap := []
  rspStatus : Nat := 0
  rspData : List Nat := []
  rspCrc : Nat := 0
  deriving DecidableEq, Repr, Inhabited

/-! ### EVH: the event hub (R474 to R481) -/

/-- One firing of an event, as it is delivered: number, EDATA, DT in nanoseconds, tick count (R476), and for a node
fault the words of its aggregated fault record (Table 12.16). -/
structure Firing where
  num : Nat := 0
  edata : Nat := 0
  dt : Nat := 0
  tick : Nat := 0
  agg : List Nat := []
  deriving DecidableEq, Repr, Inhabited

/-- The rate limit of one event (R478): the DT at which the interval ends, and the newest firing held back. -/
structure RateLim where
  until_ : Nat := 0
  heldBack : Option Firing := none
  deriving DecidableEq, Repr, Inhabited

/-- The event hub: rate limits by event, the queues of EVENT messages of KSP0 and KSP1 with their priorities (R481),
and the DT of the last pulse of each IRQ pin in pulse mode (R480). -/
structure EvhBlk where
  limits : Tab RateLim := []
  queue0 : List (Nat × Firing) := []
  queue1 : List (Nat × Firing) := []
  irqPulse : KMap := []
  deriving DecidableEq, Repr, Inhabited

/-! ### REC, CNT, TST (R527 to R547) -/

/-- A token bucket (R532): tokens used since full, DT of the last refill, and records held back since the last one. -/
structure Bucket where
  used : Nat := 0
  last : Nat := 0
  heldBack : Nat := 0
  deriving DecidableEq, Repr, Inhabited

/-- The recorder outside MRAM: staged records in order (R530), token buckets (R532), trigger-set snapshot lists by
64 * set + index (R529), sets whose TSET_DEF record is due, the last EVT_REC_RATE_LIMIT, and a running stream with
its position (R534). -/
structure RecBlk where
  staging : List (List Nat) := []
  buckets : Tab Bucket := []
  lists : KMap := []
  defDue : List Nat := []
  lastRateEvt : Option Nat := none
  stream : Option Nat := none
  window : List Nat := []
  deriving DecidableEq, Repr, Inhabited

/-- A counted act in progress (R539): setting, old and new value, path, DT of its start. -/
structure CntAct where
  idx : Nat := 0
  old : Nat := 0
  new : Nat := 0
  path : Nat := 0
  start : Nat := 0
  deriving DecidableEq, Repr, Inhabited

/-- One stored copy of a counted setting (R539): sequence number, value, whether its CRC passes. -/
structure CntCopy where
  seq : Nat := 0
  val : Nat := 0
  used : Nat := 0
  ok : Bool := true
  deriving DecidableEq, Repr, Inhabited

/-- A counted setting in MRAM (R536, R539): its two copies and its history entries, oldest first. -/
structure CntSetting where
  a : CntCopy := {}
  b : CntCopy := {}
  hist : List (List Nat) := []
  deriving DecidableEq, Repr, Inhabited

/-- A request slot of the self-test scheduler (R541): the DT the request was made, the parameter, for a test that runs the DT of its
end and of a cut (R542), and the open and close latencies that VALVE_CYCLE has recorded, in cycles. -/
structure TstSlot where
  since : Nat := 0
  param : Nat := 0
  endAt : Option Nat := none
  cut : Option Nat := none
  opens : List Nat := []
  closes : List Nat := []
  deriving DecidableEq, Repr, Inhabited

/-- The self-test scheduler: slots, and the DT of the last repetition of the AUTO tests (R544). -/
structure TstBlk where
  slots : Tab TstSlot := []
  lastAuto : Nat := 0
  deriving DecidableEq, Repr, Inhabited

/-! ### GEO (R62 to R84) -/

/-- A vector in fixed-point units of 2^-48 (lengths in mm). -/
structure Vec3 where
  x : Int := 0
  y : Int := 0
  z : Int := 0
  deriving DecidableEq, Repr, Inhabited

/-- A 3 by 3 matrix by rows, in fixed point. -/
structure Mat3 where
  r1 : Vec3 := {}
  r2 : Vec3 := {}
  r3 : Vec3 := {}
  deriving DecidableEq, Repr, Inhabited

/-- A rigid transform (R81): rotation and translation. -/
structure Xform where
  rot : Mat3 := {}
  tr : Vec3 := {}
  deriving DecidableEq, Repr, Inhabited

/-- What T2 holds of one enabled segment (R81): M, SEG_OK, and psi_s in fixed-point units of 0.01°. -/
structure SegGeo where
  xf : Xform := {}
  ok : Bool := false
  psi : Int := 0
  deriving DecidableEq, Repr, Inhabited

/-- The outputs of T2 for one point (R81): field-frame position in mm, velocity in mm/s, headings in 0.01°, the
vehicle-frame position `pv` that becomes p_prev. -/
structure PtGeo where
  x : Int := 0
  y : Int := 0
  z : Int := 0
  ve : Int := 0
  vn : Int := 0
  spd : Nat := 0
  trHdg : Nat := 0
  strHdg : Nat := 0
  rev : Bool := false
  valid : Bool := false
  pv : Vec3 := {}
  deriving DecidableEq, Repr, Inhabited

/-- One completed T2 (R81, R102): the tick-edge DT it worked for, the segments, and GEO_VALID of each point. -/
structure GeoFrame where
  dt : Nat := 0
  segs : Tab SegGeo := []
  valid : List Nat := []
  deriving DecidableEq, Repr, Inhabited

/-- GEO state: point outputs of the last completed T2 with its tick, past frames (newest first) as far as the pose
history reaches, psi_s and yaw rate per segment, filtered fold angles of SSP sources, the segments that were out of
working position (bit mask), and points whose p_prev restarts (R78). -/
structure GeoBlk where
  pts : Tab PtGeo := []
  tick : Nat := 0
  frames : List GeoFrame := []
  psi : Tab Int := []
  tilt : Tab Int := []
  notWorking : Nat := 0
  renewed : List Nat := []
  deriving DecidableEq, Repr, Inhabited

/-! ### COV and TPL (R85 to R133) -/

/-- Slot states of Table 03.6. -/
inductive SlotState where
  | free | loading | clean | dirty | writeback | provisional
  deriving DecidableEq, Repr, Inhabited

/-- An outstanding tile request or put (R115): tag, repeats made, DT at which it was sent last. -/
structure TileReq where
  tag : Nat := 0
  tries : Nat := 0
  sentAt : Nat := 0
  isPut : Bool := false
  deriving DecidableEq, Repr, Inhabited

/-- A cache slot (R108): state, LAYER, tile, GEN, cells that differ from the fill value by index (R88), whether it was
painted since its last put was sent, whether a put evicts it, the DT of its last writeback or first paint, an
outstanding request, a held boundary update (R129), and whether its content is damaged (R123). -/
structure Slot where
  st : SlotState := .free
  layer : Nat := 0
  tx : Int := 0
  ty : Int := 0
  gen : Nat := 0
  fill : Nat := 0
  cells : KMap := []
  painted : Bool := false
  evicting : Bool := false
  wbAt : Nat := 0
  provAsk : Nat := 0
  req : Option TileReq := none
  heldUpd : Option KMap := none
  bad : Bool := false
  deriving DecidableEq, Repr, Inhabited

/-- A pinned tile (R114). -/
structure Pin where
  field : Nat := 0
  layer : Nat := 0
  tx : Int := 0
  ty : Int := 0
  deriving DecidableEq, Repr, Inhabited

/-- A journal entry (R118, Table 03.9), its CHK being right unless `bad`. -/
structure JEntry where
  point : Nat := 0
  cont : Bool := false
  tx : Int := 0
  ty : Int := 0
  x0 : Int := 0
  y0 : Int := 0
  x1 : Int := 0
  y1 : Int := 0
  hdg : Nat := 0
  w : Nat := 0
  l : Nat := 0
  opened : Bool := true
  bad : Bool := false
  deriving DecidableEq, Repr, Inhabited

/-- A valve edge of a point in valve time (R97, R100): commanded time; whether it is an opening; whether it awaits
confirmation; the time it resolved to, `none` for an opening that did not happen. -/
structure VEdge where
  cmd : Nat := 0
  isOpen : Bool := false
  wait : Bool := false
  t : Option Nat := none
  deriving DecidableEq, Repr, Inhabited

/-- A pulse grid (R184): epoch and period in cycles, slot offset, duty in 0.1 %. -/
structure PulseGrid where
  epoch : Nat := 0
  tp : Nat := 0
  ofs : Nat := 0
  duty : Nat := 1000
  deriving DecidableEq, Repr, Inhabited

/-- Painting state of a point (R97 to R104, R566): valve edges not yet painted past, whether product is applied at the
end of the last paint, the ground time painted up to, whether a stroke continues there, since when a span is held, the
state commanded last, the commanded start of the last pulse, the commanded start of the last recorded pulse with its
seat time, the last on command, and of a node point the pulse grid sent to its node last with the first grid start that makes a
pulse of its own (R188, R189). -/
structure PtPaint where
  edges : List VEdge := []
  applying : Bool := false
  upTo : Nat := 0
  stroke : Bool := false
  heldAt : Option Nat := none
  cmdOn : Bool := false
  lastStart : Nat := 0
  lastRec : Option (Nat × Option Nat) := none
  onAt : Nat := 0
  sent : Option PulseGrid := none
  pulseFrom : Nat := 0
  deriving DecidableEq, Repr, Inhabited

/-- The last query of a point and kind without a miss (R117): N, N_COV, N_EXCL, N_HEAD, RX_IDX. -/
structure LastQuery where
  n : Nat := 0
  cov : Nat := 0
  excl : Nat := 0
  head : Nat := 0
  deriving DecidableEq, Repr, Inhabited

/-- Coverage: pending FIELD_CMD (R94) and whether UPD_HOLD keeps it (R26), painting state by point, last queries without a miss by point for the on and
off kind, last RX_IDX without a miss by point, suspension intervals of the banks (R101) as (bank, start, end) and times without
load current of the load switches (R97) as (switch, start, end), end 0 while one lasts, and the tick of the last
EVT_COV_TILE_MISS. -/
structure CovBlk where
  cmd : Nat := 0
  cmdAt : Nat := 0
  cmdUnder : Bool := false
  paint : Tab PtPaint := []
  lastOn : Tab LastQuery := []
  lastOff : Tab LastQuery := []
  lastRx : KMap := []
  bankOff : List (Nat × Nat × Nat) := []
  noLoad : List (Nat × Nat × Nat) := []
  missTick : Option Nat := none
  deriving DecidableEq, Repr, Inhabited

/-- Tile placement: slots 0 to 383 coverage and 384 to 415 prescription, pins, journal, next request tag, DT of the last
probe, the tile of the request that failed last, the outstanding probes of tiles that hold no request in a slot (tag, layer,
tile), the wanted tiles of the last prediction (need time in ms, layer, tile), damaged tiles whose home copies are to be
fetched (R123), store messages that wait for the next T6 (R119), the STORE_SEL and STORE_READY that the last T6 or selection
has read with whether a change of link state awaits a T6 (R109, R133), and whether paint awaits a slot (R566). -/
structure TplBlk where
  slots : Tab Slot := []
  pins : List Pin := []
  journal : List JEntry := []
  nextTag : Nat := 1
  lastProbe : Nat := 0
  lastFail : Option (Nat × Int × Int) := none
  probes : List (Nat × Nat × Int × Int) := []
  refetch : List (Nat × Int × Int) := []
  selSeen : Nat := 0
  selDue : Bool := false
  roomDue : Bool := false
  wanted : List (Nat × Nat × Int × Int) := []
  inbox : List TileMsgIn := []
  deriving DecidableEq, Repr, Inhabited

/-! ### DEC (R134 to R168, R567) -/

/-- A latency filter of one point and kind (R139): LF and the accumulators in units of 2^-16 * 0.1 µs. -/
structure LatFilt where
  cnt : Nat := 0
  acc : Int := 0
  lf : Int := 0
  rej : Nat := 0
  rejAcc : Int := 0
  tLast : Int := 25
  n : Nat := 0
  deriving DecidableEq, Repr, Inhabited

/-- A query result (R106, Table 03.5) with the footprint centre it was made at; TGT is PRESENT, from FALLBACK or not
(R143). -/
structure QSample where
  n : Nat := 1
  cov : Nat := 0
  excl : Nat := 0
  head : Nat := 0
  rx : Nat := 0
  tgt : Bool := false
  tgtFb : Bool := false
  noField : Bool := false
  covMiss : Bool := false
  rxMiss : Bool := false
  cx : Int := 0
  cy : Int := 0
  deriving DecidableEq, Repr, Inhabited

/-- The decision state of one point: committed window with the tick of its commit (R166), samples of the last completed T3
and of the one before by kind (R136), latency filters, D_SINCE in mm times cycles per second and the DT of an edge that T2
has not taken yet (R149), the low-speed gate (R157), and the own want of a member that its section's vote has decided
(R167). -/
structure PtDec where
  sOpen : Bool := false
  s : Bool := false
  edge : Option Nat := none
  reason : Nat := 0
  missApplied : Bool := false
  tgtFb : Bool := false
  chatHold : Bool := false
  qOn : Option QSample := none
  qOff : Option QSample := none
  pOn : Option QSample := none
  pOff : Option QSample := none
  latOn : LatFilt := {}
  latOff : LatFilt := {}
  dSince : Int := 1717986918000000000
  lastEdge : Option Nat := none
  lowGate : Bool := false
  own : Option Bool := none
  deriving DecidableEq, Repr, Inhabited

/-- The pose policy of one product (R156): behaviour in force (0 normal, 1 CONSERVATIVE, 2 HOLD, 3 STOP) and the DT at
which HOLD began. -/
structure PolicySt where
  act : Nat := 0
  holdFrom : Option Nat := none
  deriving DecidableEq, Repr, Inhabited

/-- A latency sample received and not yet applied (R137, R139): units of 0.1 µs, temperature in °C, DT of its
arrival. -/
structure LatSample where
  pt : Nat := 0
  isOpen : Bool := false
  s : Int := 0
  temp : Int := 25
  dt : Nat := 0
  deriving DecidableEq, Repr, Inhabited

/-- An entry of the stored latency table (R168, Table 04.10). -/
structure LatEntry where
  bind : Nat := 0
  cntOn : Nat := 0
  cntOff : Nat := 0
  tOn : Int := 0
  tOff : Int := 0
  lfOn : Nat := 0
  lfOff : Nat := 0
  deriving DecidableEq, Repr, Inhabited

/-- One stored copy of the latency table (R168): sequence number, entries, whether its CRC passes. -/
structure LatCopy where
  seq : Nat := 0
  entries : Tab LatEntry := []
  ok : Bool := false
  deriving DecidableEq, Repr, Inhabited

/-- DEC state: points, product policies, latency samples waiting for a T3, whether a stored entry has changed and the DT of
the last store (R168), opening and close of the last committed window with the tick of its commit, the tick of the last
completed T3, whether every point opens its next window off (R161), the points that do so after a Relight (R567), and what
PTD_IDX shows of each point, as the last commit left it (R166). -/
structure DecBlk where
  pts : Tab PtDec := []
  pol : Tab PolicySt := []
  samples : List LatSample := []
  latChanged : Bool := false
  latStoredAt : Nat := 0
  winOpen : Nat := 0
  winClose : Nat := 0
  tick : Nat := 0
  t3Tick : Option Nat := none
  openOff : Bool := false
  relightOff : List Nat := []
  shown : Tab (List Nat) := []
  deriving DecidableEq, Repr, Inhabited

/-! ### RATE (R169 to R192) -/

/-- The rate results of one point at the last commit (R171, R174, R185, R192). -/
structure PtRate where
  rate : Nat := 0
  rx : Nat := 0
  demand : Nat := 0
  duty : Nat := 0
  slot : Nat := 0
  low : Bool := false
  high : Bool := false
  press : Bool := false
  nzInv : Bool := false
  deriving DecidableEq, Repr, Inhabited

/-- A product loop (R178 to R184): the integrator I in units of 2^-32 %, since when the loop deviates or agrees, since when
SP has been above 0 with LOOP_DUTY above DUTY_LO, when feedback was lost, PH_EPOCH in cycles, and the tick of the last update. -/
structure LoopSt where
  i : Int := 0
  devFrom : Option Nat := none
  okFrom : Option Nat := none
  runFrom : Option Nat := none
  lostAt : Option Nat := none
  epoch : Nat := 0
  updTick : Option Nat := none
  deriving DecidableEq, Repr, Inhabited

/-- RATE state: points, loops, and the tick of the last commit. -/
structure RateBlk where
  pts : Tab PtRate := []
  loops : Tab LoopSt := []
  tick : Nat := 0
  deriving DecidableEq, Repr, Inhabited

/-! ### POSE and SSP (R193 to R224) -/

/-- The pose of one T1 (Table 06.1), with the flags of a history entry (Table 06.9): its DT in fabric cycles, tick, and
the values in their units. -/
structure PoseEntry where
  dt : Nat := 0
  tick : Nat := 0
  x : Int := 0
  y : Int := 0
  z : Int := 0
  ve : Int := 0
  vn : Int := 0
  vu : Int := 0
  spd : Nat := 0
  hdg : Nat := 0
  roll : Int := 0
  pitch : Int := 0
  ox : Int := 0
  oy : Int := 0
  oz : Int := 0
  ozv : Int := 0
  sigE : Nat := 0
  sigN : Nat := 0
  sigU : Nat := 0
  sigHdg : Nat := 0
  sigVh : Nat := 0
  cls : Nat := 0
  step : Bool := false
  kin : Bool := true
  gnssExcl : Bool := false
  odoExcl : Bool := false
  gap : Bool := false
  bad : Bool := false
  deriving DecidableEq, Repr, Inhabited

/-- A FIELD_ORIGIN (R62, R63): latitude and longitude in 10^-7 °, height in mm. -/
structure Origin where
  lat : Int := 0
  lon : Int := 0
  h : Int := 0
  deriving DecidableEq, Repr, Inhabited

/-- The fusion filter (R206): the instant of its state, position in mm, velocity in mm/s, attitude (vehicle to field axes), angular rate
about the vehicle axes in µrad/s (in KINEMATIC mode the yaw rate alone), gyro bias in µrad/s, accelerometer bias in µm/s², the scale errors
WHL_K and CAN_K in 10^-6, all in fixed point; the covariance of the 17 errors by rows, in fixed point of the products of their units, the
attitude error in µrad; and whether a position and a velocity have been taken. -/
structure Filt where
  t : Nat := 0
  p : Vec3 := {}
  v : Vec3 := {}
  c : Mat3 := ⟨⟨2 ^ 48, 0, 0⟩, ⟨0, 2 ^ 48, 0⟩, ⟨0, 0, 2 ^ 48⟩⟩
  om : Vec3 := {}
  bg : Vec3 := {}
  ba : Vec3 := {}
  kw : Int := 0
  kc : Int := 0
  cov : List (List Int) := []
  posSet : Bool := false
  velSet : Bool := false
  deriving DecidableEq, Repr, Inhabited

/-- The second of samples from which the attitude is levelled (R213, R214): its start, the number of samples, the sums of their specific
force in µm/s², and the GNSS velocity (east, north, in mm/s) with its DT at its start. -/
structure LevelSt where
  since : Option Nat := none
  n : Nat := 0
  sx : Int := 0
  sy : Int := 0
  sz : Int := 0
  v0 : Option (Int × Int × Nat) := none
  deriving DecidableEq, Repr, Inhabited

/-- Measurement kinds of Table 06.6. -/
inductive MeasKind where
  | gnssPos | gnssVel | wheel | canSpeed | steer | nhc | zupt
  deriving DecidableEq, Repr, Inhabited

/-- A measurement queued for T1 (R207): kind, its DT and the DT at which it was complete, up to three values (for a satellite
solution latitude and longitude in 10^-9 ° and height in mm), the standard deviation of a speed or an angle, and for a satellite solution
its type (0 none, 1 to 3 code solutions, 4 RTK float, 5 RTK fixed), its velocity (east, north, up) in mm/s, its horizontal speed, whether
it has a velocity, and the covariance of its position or velocity as EE, NN, UU, EN, EU, NU. -/
structure Meas where
  kind : MeasKind := .gnssPos
  dt : Nat := 0
  at_ : Nat := 0
  v1 : Int := 0
  v2 : Int := 0
  v3 : Int := 0
  sig : Nat := 0
  solType : Nat := 0
  spd : Nat := 0
  ve : Int := 0
  vn : Int := 0
  vu : Int := 0
  hasVel : Bool := false
  cov : List Int := []
  deriving DecidableEq, Repr, Inhabited

/-- A decoded inertial sample (R203): port, capture DT, the DT at which it was complete, gyro in µrad/s, accelerometer in µm/s², temperature in m°C. -/
structure ImuSample where
  port : Nat := 0
  dt : Nat := 0
  at_ : Nat := 0
  gx : Int := 0
  gy : Int := 0
  gz : Int := 0
  ax : Int := 0
  ay : Int := 0
  az : Int := 0
  temp : Int := 0
  deriving DecidableEq, Repr, Inhabited

/-- Alignment progress (R214): ALIGN_STATE, whether the heading is set, and the distance travelled since then in mm. -/
structure AlignSt where
  st : Nat := 0
  hdgSet : Bool := false
  dist : Nat := 0
  deriving DecidableEq, Repr, Inhabited

/-- The pose engine: last pose, history ring (newest first), queued measurements and vehicle samples, alignment, the
last GNSS position judged (DT, type, accepted), the DT of the last accepted GNSS position, the last accepted speed of each
odometry source, since when GNSS is excluded and since when its solutions agree with one another, the
newest solution, the excluded odometry sources, since when the vehicle is stationary, newest tractor speed and its direction,
whether the spare unit is in use, whether the mode is KINEMATIC, since when the active unit has delivered, commands that
wait for T1, whether the next entry follows a Relight gap, whether the engine ran in the last T1, whether FIELD_ORIGIN
awaits the first pose (R96), whether the saved state is damaged (R220), the filter, the levelling, the frame in which the engine works while
FIELD_ORIGIN awaits its first pose, and the DT of the last wheel speed taken. -/
structure PoseBlk where
  pose : PoseEntry := {}
  hist : List PoseEntry := []
  meas : List Meas := []
  samples : List ImuSample := []
  align : AlignSt := {}
  gnssLast : Option (Nat × Nat × Bool) := none
  gnssAcc : Option Nat := none
  odoAcc : List Meas := []
  exclFrom : Option Nat := none
  agreeFrom : Option Nat := none
  lastSol : Option Meas := none
  exclSrc : List MeasKind := []
  stillFrom : Option Nat := none
  canSpd : Option Int := none
  canRev : Bool := false
  spare : Bool := false
  kin : Bool := true
  goodFrom : Option Nat := none
  resetReq : Bool := false
  gapDue : Bool := false
  running : Bool := false
  orgDue : Bool := false
  bad : Bool := false
  filt : Filt := {}
  level : LevelSt := {}
  frame : Origin := {}
  whlDt : Nat := 0
  deriving DecidableEq, Repr, Inhabited

/-- A read transaction of a sensor SPI port (R201): the capture DT of its sample, the fall of SSPn_CS_N, the command bytes it sends, the
number of bytes it reads, SPI mode 3 rather than 0, and the divider of SCK. -/
structure SspTxn where
  cap : Nat := 0
  start : Nat := 0
  cmd : List Nat := []
  rxLen : Nat := 1
  mode3 : Bool := false
  div : Nat := 20
  deriving DecidableEq, Repr, Inhabited

/-- A sensor SPI port (R201 to R205): last accepted DRDY edge, the transaction that runs, the rise of SSPn_CS_N after the last one, last
counter, last accepted sample with the DT of its completion. -/
structure SspPort where
  lastEdge : Option Nat := none
  running : Option SspTxn := none
  csHigh : Nat := 0
  lastCnt : Option Nat := none
  last : ImuSample := {}
  lastAt : Option Nat := none
  nextPer : Nat := 0
  deriving DecidableEq, Repr, Inhabited

/-! ### GNSS and TIME (R225 to R254) -/

/-- Channel states of Table 07.3. -/
inductive ChanState where
  | idle | acq | pullIn | codeLock | phaseLock | reacq
  deriving DecidableEq, Repr, Inhabited

/-- A tracking channel (R228 to R230): state, signal, satellite, DT of entry into the state, since when the C/N0 lies
below TRK_CN0_MIN, since when it is at 35 dB-Hz or more in CODE_LOCK, narrow spacing in use, a slip not yet reported,
start of LOCK_TIME, the last code phase (as a pseudorange of 2^-8 m), the last two bits of the last LNAV word. -/
structure Chan where
  st : ChanState := .idle
  sig : Nat := 0
  sv : Nat := 0
  since : Nat := 0
  weakSince : Option Nat := none
  strongSince : Option Nat := none
  narrow : Bool := false
  slip : Bool := false
  lockFrom : Nat := 0
  code : Nat := 0
  last2 : Nat := 0
  deriving DecidableEq, Repr, Inhabited

/-- The correction epoch that collects observations (R238): its time in ms of GPS time, station, DT of its first
message, constellations seen and those whose last message has come (bit masks), and its observations by cell: constellation, satellite,
SIG of Table 07.2, and the cell's MSM fields (R237). -/
structure CorrEpoch where
  time : Nat := 0
  station : Nat := 0
  first : Nat := 0
  seen : Nat := 0
  done : Nat := 0
  obs : List (List Int) := []
  deriving DecidableEq, Repr, Inhabited

/-- The receiver: channels, raw records and header of the last complete epoch, epoch DT, RTCM input queue, correction
epochs that collect and the newest closed one, reference station positions by ID with the DT of their arrival, antenna
descriptors of 1033, navigation data by 256 * SIG + SV with the DT at which it expires, DT of the bursts run last, of the
last switch-off of the bias by a short, and of the last EVT_GNSS_RTCM_ERR, the DT until which ambiguities are kept
(R239), whether ambiguity resolution has just been restarted (R238), whether the present excess of the correction age has
been reported, whether an almanac is held, the position held, of the last solution or from the image (R242, R522), reference positions by
station ID (earth-centred x, y, z and antenna height in 0.1 mm, R237), DT of the newest ionosphere parameters and of the newest SBAS
correction (R233), the satellites used last (constellation, number), where the search of the whole sky stands (R228), and the grid point of
the last epoch: whether in GPS time, and its time in ns (R231). -/
structure GnssBlk where
  chans : Tab Chan := []
  raw : Tab (List Nat) := []
  header : List Nat := []
  lastEpoch : Option Nat := none
  rtcm : List Nat := []
  opens : List CorrEpoch := []
  closed : Option CorrEpoch := none
  stations : KMap := []
  descr : List Nat := []
  nav : KMap := []
  biasOffAt : Option Nat := none
  rtcmEvt : Option Nat := none
  ambUntil : Option Nat := none
  ambNew : Bool := false
  ageFired : Bool := false
  almanac : Bool := false
  startPos : List Int := []
  bases : Tab (List Int) := []
  ionoAt : Option Nat := none
  sbasAt : Option Nat := none
  usedSats : List (Nat × Nat) := []
  skyAt : Nat := 0
  epochAt : Option (Bool × Int) := none
  lastBurst : Option Nat := none
  lastEphBurst : Option Nat := none
  deriving DecidableEq, Repr, Inhabited

/-- The mapping from DT to GPS time (R244): anchor DT in ns, GPS week, ns of the week, rate in 10^-12. -/
structure TimeMap where
  dt : Nat := 0
  week : Nat := 0
  nsw : Nat := 0
  rate : Int := 0
  deriving DecidableEq, Repr, Inhabited

/-- Civil time (R243 to R252): the mapping in force, the oscillator's part of its rate, DT of the newest good time solution
and of the first of the present run of them, the published minus the solved time at the newest one, the DT of the good
solution that the mapping stands on with the published GPS time there (R249), UNC0 and FREQ_UNC of it, the phase error
still to be removed as of a DT in ns with the part being removed per second (R245), a step to be made with the GPS second it
awaits (R251), UNC0 and FREQ_UNC of the newest good solution, the announced leap second (GPS second of the event, new LEAP_SEC), the period code in use with the GPS second
it was taken at, the last leading edge of TPO with the TPO_OFS and the multiple of the period (in ns of GPS time) it marks, and since when TPO
pulses (R248). -/
structure TimeBlk where
  map : TimeMap := {}
  freqRate : Int := 0
  lastGood : Option Nat := none
  goodFrom : Option Nat := none
  err : Int := 0
  base : Option Nat := none
  baseGps : Int := 0
  unc0 : Nat := 0
  freqUnc : Nat := 0
  slew : Int := 0
  slewAt : Nat := 0
  slewNow : Int := 0
  stepDue : Option (Int × Int) := none
  unc1 : Nat := 0
  freqUnc1 : Nat := 0
  leap : Option (Int × Nat) := none
  tpoRate : Nat := 0
  lastSec : Int := 0
  tpoEdge : Option Nat := none
  tpoMark : Option (Int × Int) := none
  tpoFrom : Nat := 0
  deriving DecidableEq, Repr, Inhabited

/-! ### GRID and CAL (R255 to R293) -/

/-- A layer of the fusion network (Table 08.5): sub-network, ReLU, shift, rows of weights, biases. -/
structure NetLayer where
  net : Nat := 0
  relu : Bool := false
  shift : Nat := 0
  nIn : Nat := 1
  nOut : Nat := 1
  w : List (List Int) := []
  b : List Int := []
  deriving DecidableEq, Repr, Inhabited

/-- A fusion network in working memory (R266): feature format, embedding width, classes, layers in descriptor order. -/
structure FusionNet where
  featFmt : Nat := 0
  emb : Nat := 8
  nClass : Nat := 1
  layers : List NetLayer := []
  deriving DecidableEq, Repr, Inhabited

/-- A target cell (Table 08.6): scores, the 8 latent values, and the fields of the meta word. -/
structure TCell where
  score : Nat := 0
  latent : List Int := [0, 0, 0, 0, 0, 0, 0, 0]
  age : Nat := 0
  valid : Bool := false
  decided : Bool := false
  recUpd : Bool := false
  lastSrc : Nat := 0
  mask : Nat := 0
  deriving DecidableEq, Repr, Inhabited

/-- A target block in use (R272): its coordinates and its cells by 32 * row + column. -/
structure TBlock where
  bx : Int := 0
  by_ : Int := 0
  cells : Tab TCell := []
  deriving DecidableEq, Repr, Inhabited

/-- What a source gathered in one window of 1 s (R280, R283): tiles, audit comparisons that agreed and all of them, the sum
of its pairs' residuals in 0.1 cell and their number. -/
structure SrcWin where
  tiles : Nat := 0
  agree : Nat := 0
  total : Nat := 0
  res : Nat := 0
  pairs : Nat := 0
  deriving DecidableEq, Repr, Inhabited

/-- A source beside its registers (R279 to R284): the running window, the windows before it (newest first), windows in a row
below and at the rate limit, whether the cause of its SUSPECT state has been lifted, windows spent in its state, windows in
a row of failed judgement, and whether it has passed. -/
structure GridSrc where
  cur : SrcWin := {}
  past : List SrcWin := []
  badRun : Nat := 0
  goodRun : Nat := 0
  lifted : Bool := true
  inState : Nat := 0
  failRun : Nat := 0
  passed : Bool := false
  deriving DecidableEq, Repr, Inhabited

/-- A feature tile whose header has passed checks 1 to 5 (R258): source, origin in the feature map, capture DT, and its
cells that carry data as (128 * v + u, features). -/
structure GridTile where
  src : Nat := 0
  u0 : Nat := 0
  v0 : Nat := 0
  cap : Nat := 0
  cells : List (Nat × List Int) := []
  deriving DecidableEq, Repr, Inhabited

/-- GRID (R255 to R282): the network in use and one that awaits T6, target blocks, sources, a tile held as NOT_YET, tiles that arrived behind
it as (arrival DT, header, cells), triggers of the last 8 s as (count, DT) newest first with the count, the pins asserted last and the tick of
the last trigger, shared and
contradicting updates by 16 * source + previous source since power-on and as they stood at the start of the running window,
windows in a row in which a pair disagreed, the tick rate at the start of the running window, the tick
of the last window end, DT of the last
EVT_GRID_LATE and EVT_GRID_WIN_FULL, last answers by 2 * point + kind (R277), MACs of the running window, and sources whose
cells are to be cleared in T6. -/
structure GridBlk where
  net : Option FusionNet := none
  netDue : Option FusionNet := none
  blocks : List TBlock := []
  src : Tab GridSrc := []
  held : List GridTile := []
  waiting : List (Nat × List Nat × List (Nat × List Int)) := []
  trigTick : Option Nat := none
  trigs : List (Nat × Nat) := []
  trigCnt : Nat := 0
  trigPins : Nat := 0
  shared : KMap := []
  contra : KMap := []
  shared0 : KMap := []
  contra0 : KMap := []
  pairRun : KMap := []
  winHz : Nat := 0
  winTick : Option Nat := none
  lateEvt : Option Nat := none
  fullEvt : Option Nat := none
  lastTgt : KMap := []
  macs : Nat := 0
  clearDue : Nat := 0
  deriving DecidableEq, Repr, Inhabited

/-- A warped tile kept for overlap checks (R286): capture DT, pose and mount transform it was warped with, and the value of
the chosen feature channel by ground cell. -/
structure WarpTile where
  cap : Nat := 0
  pose : PoseEntry := {}
  ms : Xform := {}
  cells : List ((Int × Int) × Int) := []
  deriving DecidableEq, Repr, Inhabited

/-- CAL (R285 to R289): corrections by source (D_X, D_Y, D_Z, D_YAW, D_PITCH, D_ROLL in 2^-16 of their units), consecutive
changes within the convergence limits, the warped tiles of each source that may still find a partner, newest first, changes that await T6, pairs passed over in
SERVICE, and whether corrections have changed since the store at a DT. -/
structure CalBlk where
  corr : Tab (List Int) := []
  run : KMap := []
  tiles : Tab (List WarpTile) := []
  due : List (Nat × List Int) := []
  skipped : Nat := 0
  changed : Bool := false
  storedAt : Nat := 0
  deriving DecidableEq, Repr, Inhabited

/-! ### IDC (R294 to R329) -/

/-- A phase of a drive profile (Table 09.3). -/
structure Phase where
  kind : Nat := 0
  peak : Bool := false
  fast : Bool := false
  endOn : Nat := 0
  iHi : Nat := 0
  iLo : Nat := 0
  tMax : Nat := 0
  tMin : Nat := 0
  deriving DecidableEq, Repr, Inhabited

/-- A drive profile (Tables 09.2 and 09.3) as a pulse takes it at its start: the phases in use, and the header values it
needs. -/
structure Profile where
  phases : List Phase := []
  endFast : Bool := false
  okEn : Bool := false
  ckEn : Bool := false
  minOn : Nat := 5
  minOff : Nat := 200
  okDip : Nat := 0
  okRatio : Nat := 150
  okBlank : Nat := 0
  ckThr : Nat := 0
  ckBlank : Nat := 0
  ckWin : Nat := 20
  kinkStep : Nat := 10
  olT : Nat := 10
  deriving DecidableEq, Repr, Inhabited

/-- Channel activity (Table 09.13); end decay, the latch, the hold window and the snuff state stand beside it. -/
inductive IdcAct where
  | idle | wait | defer | on
  deriving DecidableEq, Repr, Inhabited

/-- What the converter samples of a pulse have shown (R296, R299, R314, R319): the last current with its DT; the low side with the DT
of its last switching; whether a RAMP regulates, whether I_HI was reached in the phase, whether the current fell since the low side
turned off, whether it fell below 50 mA in fast decay; the running step with its samples' sum and number, and the means of the two
steps before it (newest first); the running maximum and the lowest step since the dip; up to four on-intervals and the end of a run
of stretched ones; when an opening was found in the phase; the best seating so far (d2 and its time); and the low side's on-time in
the phase, with the sum and number of the current samples in it. -/
structure PulseSense where
  cur : Nat := 0
  curAt : Nat := 0
  lsOn : Bool := false
  lsAt : Nat := 0
  reg : Bool := false
  hit : Bool := false
  fell : Bool := false
  drained : Bool := false
  step : Nat := 0
  sum : Nat := 0
  cnt : Nat := 0
  prev : List Nat := []
  dipMax : Option Nat := none
  dipLow : Option (Nat × Nat) := none
  lens : List Nat := []
  runEnd : Option Nat := none
  foundAt : Option Nat := none
  best : Option (Nat × Nat) := none
  onTime : Nat := 0
  curSum : Nat := 0
  curCnt : Nat := 0
  deriving DecidableEq, Repr, Inhabited

/-- A pulse (R304 to R318): point driven (none for DIRECT), profile, commanded start, actual start once started, commanded
end (none for a pulse that lasts until an off command), delay added by group overlap, end of drive once ended, current
phase with its start, opening and seating found, flags of Table 09.9, highest step current in mA, peak limit under SHARE in
mA, start of waiting or of the deferral, PSEQ, whether a hold window took it (R328), what its samples show. -/
structure Pulse where
  pt : Option Nat := none
  prof : Profile := {}
  cmd : Nat := 0
  start : Nat := 0
  cmdEnd : Option Nat := none
  delay : Nat := 0
  ended : Nat := 0
  phase : Nat := 0
  phaseAt : Nat := 0
  openT : Option Nat := none
  seatT : Option Nat := none
  flags : Nat := 0
  iPk : Nat := 0
  limit : Option Nat := none
  waitFrom : Nat := 0
  seq : Nat := 0
  held : Bool := false
  sense : PulseSense := {}
  deriving DecidableEq, Repr, Inhabited

/-- A command on its way to a channel (R304): its DT, whether it turns on, the commanded end of a grid pulse. -/
structure DrvCmd where
  dt : Nat := 0
  on : Bool := false
  endAt : Option Nat := none
  deriving DecidableEq, Repr, Inhabited

/-- An inductive channel beside its registers: activity, end decay in progress, commands to come in DT order, the pulse that
waits, is deferred or runs, the pulse whose closing window is open, end of drive of the previous pulse, pulse count of PSEQ,
last record, consecutive missed openings and seatings, commanded state, grid in use (none: continuous), the first grid
start that may still be used, end of the time for which its pulses are laid out, end of a running hold window, snuff state in force, latch, whether the next off window is a
calibration, last coil temperature, whether the end decay is fast with the level at which it counts (R310), since when an off window
can stand (R322), the FAULT that PROF_INVALID covers (R302). -/
structure IdcCh where
  act : IdcAct := .idle
  decay : Bool := false
  cmds : List DrvCmd := []
  pulse : Option Pulse := none
  done : Option Pulse := none
  lastEnd : Option Nat := none
  seq : Nat := 0
  lastRec : List Nat := []
  runMissO : Nat := 0
  runMissS : Nat := 0
  comOn : Bool := false
  grid : Option PulseGrid := none
  gridFrom : Nat := 0
  laidTo : Nat := 0
  holdEnd : Option Nat := none
  snuff : Option Nat := none
  latched : Bool := false
  calNext : Bool := false
  coilTemp : Option Int := none
  decFast : Bool := false
  decLvl : Nat := 0
  offFrom : Nat := 0
  under : Nat := 0
  deriving DecidableEq, Repr, Inhabited

/-- What the drive holds beside its channels (R302): profiles accepted so far as a mask, and the last PROF_ERR of each. -/
structure IdcBlk where
  accepted : Nat := 0
  errs : KMap := []
  deriving DecidableEq, Repr, Inhabited

/-! ### LSW and WDG (R330 to R363) -/

/-- A command on its way to a load switch (R336): its DT, whether it turns on, the override of AUX_FORCE it brings (1 off,
2 on), and whether it opens a committed window, at which ended snuff paths, hold windows and sheds are left. -/
structure LswCmd where
  dt : Nat := 0
  on : Bool := false
  force : Nat := 0
  opens : Bool := false
  deriving DecidableEq, Repr, Inhabited

/-- A load switch beside its registers (R332 to R361): commands to come in DT order, commanded state and override in
force, output driven with the DT of switch-on, inrush running, limit of a cut start in mA, commanded DT of a switch-on
that waits, whether it is a restart, whether the temperature forbids a restart, restarts begun (newest first), output
opened against reverse current, shed in DIM, held off by DUAL_FED or idle by the pairing, snuff state in force, end of a
running hold window, output state kept by HOLD_LAST or the hold window, chopping in force (period in cycles, duty), the
DT of the last off-state test, and the end of its last inrush. -/
structure LswCh where
  cmds : List LswCmd := []
  com : Bool := false
  force : Nat := 0
  drv : Bool := false
  onAt : Nat := 0
  inr : Bool := false
  cut : Option Nat := none
  waitFrom : Option Nat := none
  restart : Bool := false
  hot : Bool := false
  restarts : List Nat := []
  rev : Bool := false
  shed : Bool := false
  dualOff : Bool := false
  idle : Bool := false
  snuff : Option Nat := none
  holdEnd : Option Nat := none
  last : Bool × Option (Nat × Nat) := (false, none)
  chop : Option (Nat × Nat) := none
  testAt : Option Nat := none
  inrEnd : Nat := 0
  deriving DecidableEq, Repr, Inhabited

/-- The snuff paths and the watchdog (R354 to R359): the paths of SAFE_N and of the watchdog, DT at which SAFE_N last
returned high, DT from which the response window counts, and whether the window has no earliest time; and
beside them the DT of the last check of each bank's overload (R334). -/
structure WdgBlk where
  safePath : Bool := false
  wdgPath : Bool := false
  highAt : Nat := 0
  from_ : Nat := 0
  first : Bool := true
  ovlAt : Tab Nat := []
  deriving DecidableEq, Repr, Inhabited

/-! ### PWM, TRIP, FBK and GIN (R364 to R394) -/

/-- A pulse output (R365, R372): DT of the start of the running period, DT up to which update points are worked off, DT
of the last change that no period gave, and the last change of values with the reference before and after it (R370). -/
structure PwmOut where
  base : Nat := 0
  synced : Nat := 0
  edgeAt : Option Nat := none
  turn : Option (Nat × Bool × Bool) := none
  deriving DecidableEq, Repr, Inhabited

/-- A trip input (R377 to R379): level of its filtered input; asserted and waiting for its blanking to end; pair groups it holds; groups cleared at their
next period boundary. -/
structure TripIn where
  high : Bool := true
  waits : Bool := false
  holds : Nat := 0
  clr : Nat := 0
  deriving DecidableEq, Repr, Inhabited

/-- PWM and TRIP beside their registers: outputs, values in force by field key, buffered values that await an update point,
values written under UPD_HOLD (R373), trip inputs, and whether the outputs stand in their snuff states. -/
structure PwmBlk where
  outs : Tab PwmOut := []
  act : KMap := []
  buf : KMap := []
  held : KMap := []
  trips : Tab TripIn := []
  snuff : Bool := false
  deriving DecidableEq, Repr, Inhabited

/-- A motion feedback channel beside its registers (R380 to R387): count edges as (DT, sign), newest first, as far as the
speed window reaches; the newest two edge DTs; start of the window (R380, R390); count since the last index and whether
one has been seen; indices in a row without mismatch; good SSI words as (capture DT, position), newest first; capture DT of
a running transfer; the tick edge that the last transfer was for (R386); whether the newest edge counted down; DT of the last EVT_FBK_SSI_ERR; DT of the newest good word; T0 of the newest sample delivered (R385). -/
structure FbkCh where
  edges : List (Nat × Int) := []
  e1 : Option Nat := none
  e2 : Option Nat := none
  winFrom : Nat := 0
  lastIdxPos : Option Int := none
  homed : Bool := false
  goodRun : Nat := 0
  words : List (Nat × Nat) := []
  ssiRun : Option Nat := none
  ssiEdge : Option Nat := none
  e1Neg : Bool := false
  errEvt : Option Nat := none
  lastGood : Option Nat := none
  sample : Option Nat := none
  deriving DecidableEq, Repr, Inhabited

/-! ### CAN and VNP (R395 to R426) -/

/-- A node slot of a boom bus (R418 to R421): state of Table 12.15, UID, points, latency reports, version, vendor, accepted
keys 0x01 to 0x04 as a mask, tick of its last frame, last STATUS, counts, PT_ERR, whether a resync is due, the tick of its last
SUPPLY-class code, whether a point that a commit makes new was on (R78, R164), and the tick of its last duty refresh (R189). -/
structure VnpNode where
  st : Nat := 0
  uid : Nat := 0
  pts : Nat := 1
  latRpt : Bool := false
  ver : Nat := 0
  vendor : Nat := 0
  acked : Nat := 0
  heard : Nat := 0
  snuffed : Bool := false
  temp : Nat := 0
  vsup : Nat := 0
  ptState : Nat := 0
  rxLate : Nat := 0
  records : Nat := 0
  faults : Nat := 0
  ptErr : Bool := false
  resync : Bool := false
  supTick : Option Nat := none
  edgeDue : Bool := false
  dutyTick : Option Nat := none
  deriving DecidableEq, Repr, Inhabited

/-- A FAULT frame gathered in the running tick (R415, R422). -/
structure NodeFault where
  bus : Nat := 0
  node : Nat := 0
  code : Nat := 0
  count : Nat := 0
  mask : Nat := 0
  detail : Nat := 0
  deriving DecidableEq, Repr, Inhabited

/-- A transport session (R402): whether it is ETP or a BAM, the parameter group, the far address, the length in bytes, the
bytes moved so far, and the packets of the running CTS still to come. -/
structure TpSess where
  etp : Bool := false
  bam : Bool := false
  pgn : Nat := 0
  addr : Nat := 0
  len : Nat := 0
  data : List Nat := []
  burst : Nat := 0
  deriving DecidableEq, Repr, Inhabited

/-- An NMEA 2000 fast packet under reassembly (R403): source address, sequence counter, next frame, length, bytes so far, and the receive
DT of its first frame. -/
structure FastPkt where
  sa : Nat := 0
  seq : Nat := 0
  next : Nat := 1
  total : Nat := 0
  data : List Nat := []
  rx : Nat := 0
  deriving DecidableEq, Repr, Inhabited

/-- A CAN controller beside its registers: frames handed to the bus since the last T0, oldest first (log entry 10), the
mailbox frame that waits, the shadow entry, bit-rate detection (start of the run, candidate, candidates tried, good frames
in a row, data candidate, whether a fast phase was seen), address claim (DT of the claim, addresses others hold), sources of R403 once heard, transport sessions, the
fast packet under reassembly, newest 129029 with its DT, new nodes as (UID, payload bytes), end of a running Shade, DT of the last
SUPPLY-class code and that code, the FAULT frames of the running tick, and the last SNUFF sent. -/
structure CanCtl where
  tx : List CanFrame := []
  mail : Option CanFrame := none
  shadow : Option (List Nat) := none
  abdFrom : Nat := 0
  abdCand : Nat := 0
  abdTried : Nat := 0
  abdGood : Nat := 0
  abdData : Nat := 0
  abdFast : Bool := false
  claimFrom : Option Nat := none
  taken : List (Nat × Nat) := []
  claimSa : Nat := 128
  spdSrc : Option Nat := none
  navSrc : Option Nat := none
  tpRx : Option TpSess := none
  tpTx : Option TpSess := none
  fast : Option FastPkt := none
  nav : Option (Nat × List Int) := none
  newNodes : List (Nat × List Nat) := []
  shadeUntil : Option Nat := none
  supplyAt : Option Nat := none
  supplyCode : Nat := 0
  faults : List NodeFault := []
  snuffSent : Bool := false
  deriving DecidableEq, Repr, Inhabited

/-! ### KSP and PAIR (R427 to R453) -/

/-- Link states of Table 13.2. -/
inductive LinkState where
  | disabled | lock | deskew | config | up
  deriving DecidableEq, Repr, Inhabited

/-- A DATA packet in the replay buffer (R431, R434). -/
structure KspPacket where
  seq : Nat := 0
  vc : Nat := 0
  som : Bool := true
  eom : Bool := true
  payload : List Nat := []
  deriving DecidableEq, Repr, Inhabited

/-- One virtual channel of a port (R433): messages that wait to be sent, oldest first; whether the first of them has a
packet out; units sent and the far end's credit limit, mod 2^16; units received, and of those the units whose credit is withheld (R257); the partial message received; payload
bytes sent and received in the running second. -/
structure KspVc where
  txq : List (List Nat) := []
  midTx : Bool := false
  sentUnits : Nat := 0
  credit : Nat := 0
  rxUnits : Nat := 0
  heldUnits : Nat := 0
  partialRx : Option (List Nat) := none
  txBytes : Nat := 0
  rxBytes : Nat := 0
  deriving DecidableEq, Repr, Inhabited

/-- A stream port (R429 to R435): link state with the DT of entry, the mode and width read at the last entry into LOCK,
locked lanes, TS sets received in a row and sent, start of a running training and of a running retrain with whether the
link was up before it, packet sequence numbers, virtual channels, replay buffer, consecutive replays of one packet, DT of
the last LINK packet, whether a NAK is out, DT of the last EVT_KSP_ERR, start of the running second, and the content of the
last LINK packet sent (ACK_SEQ, NAK, the five credit limits) with its DT. -/
structure KspPort where
  st : LinkState := .disabled
  since : Nat := 0
  partner : Bool := false
  maxW : Nat := 2
  lanes : Nat := 0
  tsRx : Nat := 0
  tsTx : Nat := 0
  farLocked : Nat := 0
  width : Nat := 0
  trainFrom : Nat := 0
  retrainFrom : Option Nat := none
  txSeq : Nat := 0
  rxNext : Nat := 0
  vcs : Tab KspVc := []
  replay : List KspPacket := []
  replaySeq : Nat := 0
  replayRun : Nat := 0
  lastLink : Nat := 0
  nakOut : Bool := false
  errEvt : Option Nat := none
  secFrom : Nat := 0
  linkTx : List Nat := []
  linkTxAt : Nat := 0
  deriving DecidableEq, Repr, Inhabited

/-- Pairing states of Table 13.9. -/
inductive PairState where
  | off | seek | listen | joining | standby | active | alone
  deriving DecidableEq, Repr, Inhabited

/-- The pairing (R440 to R451): the role binding in force (R440), state and DT of entry, the partner's last HELLO and the
DT it came, DT of the last HELLO sent, heartbeats seen in the tick that ends at the next edge and in the one after it, ticks
of silence by path, the last MIRROR message with its DT, MIRROR messages received in a row, since when SYNCED, an announced
handover tick with whether this module gives up the role, snapshot wanted, whether the ticks are aligned, DT of the last
beacon heard from another unit, the DTs of the last TIMESYNC exchange and the offset it gave, whether a partner has been
heard since ALONE, the level of PAIR_HB_OUT, tiles still to be fetched in JOINING and whether the snapshot is in, what the
next MIRROR message carries of configuration, paint, latencies and tiles and what was last sent of nodes, field and loops, a
handover asked for by this standby, the tags of tile messages passed on to this module's own home, and the PT of the grid's epoch. -/
structure PairBlk where
  en : Bool := false
  unit : Nat := 0
  pref : Bool := false
  st : PairState := .off
  since : Nat := 0
  hello : Option HelloMsg := none
  helloAt : Nat := 0
  helloSent : Option Nat := none
  hbPin : Bool := false
  hbKsp : Bool := false
  pinSilent : Nat := 0
  kspSilent : Nat := 0
  mirror : Option MirrorMsg := none
  mirrorAt : Nat := 0
  mirrorRun : Nat := 0
  syncedFrom : Option Nat := none
  handover : Option (Nat × Bool) := none
  snapWant : Bool := false
  aligned : Bool := false
  lastBeacon : Option Nat := none
  tsTx : Nat := 0
  tsRxTx : Nat := 0
  tsRxAt : Nat := 0
  heard : Bool := false
  hbOut : Bool := false
  fetch : List (Nat × Int × Int) := []
  joinMaster : Bool := false
  mirCfg : List (Nat × Nat) := []
  mirPaint : List (List Nat) := []
  mirLat : List (List Nat) := []
  mirTile : List (List Nat) := []
  mirNode : List (List Nat) := []
  mirField : List Nat := []
  mirRate : Tab LoopSt := []
  hbPinNew : Bool := false
  hbKspNew : Bool := false
  swapReq : Bool := false
  fwd : List (Nat × Nat) := []
  lastOfs : Option (Nat × Int) := none
  gridPt : Nat := 0
  deriving DecidableEq, Repr, Inhabited

/-! ### PWR: supply, reset and start-up (R489 to R526) -/

/-- Device states of Table 00.2 (R8). -/
inductive DevState where
  | off | kindle | lit | dim | snuffed | ember
  deriving DecidableEq, Repr, Inhabited

/-- Operating modes of Table 00.3 (R9). -/
inductive OpMode where
  | host | autonomous | plain
  deriving DecidableEq, Repr, Inhabited

/-- What stands between a reset and the end of the KINDLE or Relight that follows it (R503): nothing; a logic-die
reset whose Relight is to come; a system reset whose KINDLE is to come. -/
inductive ResetStage where
  | none | relight | kindle
  deriving DecidableEq, Repr, Inhabited

/-- What the outputs stand in from a reset to the first commit (R510): driven as committed, off after a power-on
reset, or in their snuff states after a system reset. -/
inductive OutHold where
  | none | off | snuff
  deriving DecidableEq, Repr, Inhabited

/-- An undervoltage episode (R497): DT of its start and lowest VBAT, mV. -/
structure Episode where
  start : Nat := 0
  minMv : Nat := 0
  lastUpd : Nat := 0
  deriving DecidableEq, Repr, Inhabited

/-- The power and start-up state: device state and mode; whether mode selection is done and the first tick edge is
awaited (R512, R513); the reset in progress, and whether it still becomes a system reset where RESET_N stays low (R503); what
the outputs stand in; the fall of RESET_N while it is low; the end of HOST_WAIT; the end of the last Relight (R506); whether
the KINDLE that runs ends in SNUFFED (R506), began with a wake (R521) or pauses for VBAT (R498); DT of the last logic-die reset
and of the start of its Relight; the undervoltage episode; whether DIM_MAX takes effect after the commit in work (R496);
whether EVT_LSW_SHED has fired in this DIM (R348); SNUFF_CLR, an edge of the master input and MODE_REQ awaiting the next commit
(R501, R514); EMBER asked for, awaiting LIT (R518); DT of the last accepted change of each input; start of the counting of
OP_TIME; entry into LIT after KINDLE (R525); a staged firmware push as offset in KB and DT, and a running verification (R523,
R524); start of an entry into EMBER (R519); SNS5V switched off by a fault (R491); entry into EMBER; outputs committed off for
EMBER (R519). -/
structure PwrBlk where
  st : DevState := .kindle
  mode : OpMode := .host
  modeSel : Bool := false
  stage : ResetStage := .kindle
  stageMaySys : Bool := false
  outHold : OutHold := .off
  resetLow : Option Nat := none
  hostWaitTill : Option Nat := none
  relightEnd : Option Nat := none
  stormEnd : Bool := false
  wake : Bool := false
  resetAt : Nat := 0
  relightFrom : Nat := 0
  uv : Option Episode := none
  paused : Bool := false
  dimMaxDue : Bool := false
  dimShed : Bool := false
  snuffClr : Bool := false
  clrAt : Nat := 0
  clrUnder : Bool := false
  masterConfirm : Bool := false
  modeReq : Nat := 0
  modeAt : Nat := 0
  modeUnder : Bool := false
  emberReq : Bool := false
  ginAt : KMap := []
  opSince : Nat := 0
  litAt : Option Nat := none
  fwPush : Option (Nat × Nat) := none
  fwVerify : Option Nat := none
  emberWait : Option Nat := none
  sns5vOffAt : Option Nat := none
  emberAt : Nat := 0
  outOff : Bool := false
  deriving DecidableEq, Repr, Inhabited

/-- A firmware bank (R507, R523): its bytes by offset, and FW_VER, 0 while the bank does not verify. -/
structure FwBank where
  bytes : List Host.Cell := []
  ver : Nat := 0
  deriving DecidableEq, Repr, Inhabited

/-- The configuration image (R522): values by field key, the snapshot lists of the trigger sets (R545), the receiver's almanac and position, its CRC-32, whether
that CRC passes and the layout version. -/
structure CfgImage where
  fields : KMap := []
  lists : KMap := []
  almanac : Bool := false
  pos : List Int := []
  crc : Nat := 0
  crcOk : Bool := true
  layout : Nat := 1
  deriving DecidableEq, Repr, Inhabited

/-- The on-die MRAM (R31, R504): event log records in order with LOG_GEN, counted settings, the configuration image,
the firmware banks with the update state of R525, POWER_CYCLES, OP_TIME in fabric cycles, the open undervoltage
episode, the two copies of the latency table (R168), and the CAL corrections (R289). The network image (R266) is the window at
0x600000 of `Dev.mem`, which MRAM backs. -/
structure Mram where
  log : List (List Nat) := []
  logGen : Nat := 0
  cnt : Tab CntSetting := [(4, { a := { seq := 0, val := 1 }, b := { seq := 0, val := 1 } })]
  image : Option CfgImage := none
  fwA : FwBank := { ver := 1 }
  fwB : FwBank := {}
  fwRun : Nat := 0
  fwPending : Bool := false
  fwTrial : Bool := false
  fwFailed : Bool := false
  powerCycles : Nat := 0
  opCycles : Nat := 0
  episode : Option Episode := none
  latCopyA : LatCopy := {}
  latCopyB : LatCopy := {}
  cal : KMap := []
  deriving DecidableEq, Repr, Inhabited

/-! ### The block and the state -/

/-- Everything the block holds but device time and the queue of commands. `regs` holds the values of the register fields
by field key, `pend` the shadow values that await a commit (R20), `mem` the bytes of the memory windows, `t0` the
register fields of the input pages as latched at the last tick edge with the tick it was latched for (R43), with the trip and
output blocks in `t0Pwm`, `cuts` what waited for the commit at the DTs of the tick under way, newest first (R48), `freeCtr` the
number of free values drawn so far (the model's own field, log entry 2). -/
structure Dev where
  regs : KMap := []
  pend : Tab PendVal := []
  mem : List Host.Cell := []
  t0 : KMap := []
  t0For : Option Nat := none
  t0Pwm : PwmBlk := {}
  cuts : List (Nat × Waits) := []
  sys : SysBlk := {}
  hif : HifBlk := {}
  evh : EvhBlk := {}
  rec_ : RecBlk := {}
  cntAct : Option CntAct := none
  tst : TstBlk := {}
  geo : GeoBlk := {}
  cov : CovBlk := {}
  tpl : TplBlk := {}
  dec : DecBlk := {}
  rate : RateBlk := {}
  pose : PoseBlk := {}
  ssp : Tab SspPort := []
  gnss : GnssBlk := {}
  time : TimeBlk := {}
  t0Ssp : Tab SspPort := []
  t0Fbk : Tab FbkCh := []
  fbk : Tab FbkCh := []
  ksp : Tab KspPort := []
  pair : PairBlk := {}
  idc : Tab IdcCh := []
  idcB : IdcBlk := {}
  vnp : Tab VnpNode := []
  can : Tab CanCtl := []
  lsw : Tab LswCh := []
  wdg : WdgBlk := {}
  pwm : PwmBlk := {}
  grid : GridBlk := {}
  cal : CalBlk := {}
  pwr : PwrBlk := {}
  mram : Mram := {}
  freeCtr : Nat := 0
  deriving DecidableEq, Repr, Inhabited

/-- The state: device time in fabric cycles (R33), the block, and the commands that wait, first in, first out. -/
structure State where
  dt : Nat := 0
  dev : Dev := {}
  pending : List Instr := []
  deriving DecidableEq, Repr, Inhabited

/-- The block right after a power-on reset (R503, Table 15.6): DT zero, KINDLE, every register at its reset value, no
command waiting, MRAM as shipped. -/
def State.reset : State := {}

end Sys2Proof.Machine
end

