-- ==== Sys2Proof/Machine/Ops.lean ====
section
/-! DEFINITION. The named operations over the state: sparse tables, register fields, memory windows, free values, the
tick grid, and `State.run`, the frame in which every command acts. -/

namespace Sys2Proof.Machine

/-! ### Sparse tables: keys strictly rising -/

/-- The entry at key `k`. -/
def tget? {α : Type} : Tab α → Nat → Option α
  | [], _ => none
  | (a, v) :: t, k => if a = k then some v else tget? t k

/-- The entry at key `k`, or the default record. -/
def tget {α : Type} [Inhabited α] (t : Tab α) (k : Nat) : α := (tget? t k).getD default

/-- The table with the entry at key `k` set to `v`. -/
def tset {α : Type} : Tab α → Nat → α → Tab α
  | [], k, v => [(k, v)]
  | (a, x) :: t, k, v => if a = k then (k, v) :: t else if k < a then (k, v) :: (a, x) :: t else (a, x) :: tset t k v

/-- The table without an entry at key `k`. -/
def tdel {α : Type} : Tab α → Nat → Tab α
  | [], _ => []
  | (a, x) :: t, k => if a = k then tdel t k else (a, x) :: tdel t k

/-- The table with its entry at `k` changed by `f`, from the default record where it had none. -/
def tmod {α : Type} [Inhabited α] (t : Tab α) (k : Nat) (f : α → α) : Tab α := tset t k (f (tget t k))

/-- A map in which an absent key stands for `dflt`: set `k` to `v`, keeping no entry equal to the default. -/
def kput (dflt : Nat) (m : KMap) (k v : Nat) : KMap := if v = dflt then tdel m k else tset m k v

/-- Keys strictly rising: the canonical form of a table. -/
def sortedKeys {α : Type} : Tab α → Bool
  | [] => true
  | [_] => true
  | (a, _) :: (b, y) :: t => decide (a < b) && sortedKeys ((b, y) :: t)

/-! ### Register fields -/

/-- The active value of a field (R20, R24): its entry in the register file, or its reset value. -/
def Dev.rd (d : Dev) (f : Field) : Nat := (tget? d.regs f.key).getD f.reset

/-- Whether a one-bit field is set. -/
def Dev.on (d : Dev) (f : Field) : Bool := d.rd f == 1

/-- The signed value of a field. -/
def Dev.rdS (d : Dev) (f : Field) : Int := toS f.width (d.rd f)

/-- A field's value held at the limits `lo` and `hi`. -/
def Dev.rdH (d : Dev) (lo hi : Nat) (f : Field) : Nat := held lo hi (d.rd f)

/-- Sets the active value of a field, narrowed to its width. -/
def Dev.wr (d : Dev) (f : Field) (v : Nat) : Dev :=
  { d with regs := kput f.reset d.regs f.key (v % 2 ^ f.width) }

/-- Sets a one-bit field. -/
def Dev.wrB (d : Dev) (f : Field) (b : Bool) : Dev := d.wr f (b2n b)

/-- Sets a signed field, saturated. -/
def Dev.wrS (d : Dev) (f : Field) (v : Int) : Dev := d.wr f (satS f.width v)

/-- Sets an unsigned field, saturated at both ends. -/
def Dev.wrU (d : Dev) (f : Field) (v : Int) : Dev := d.wr f (satU f.width v)

/-- Adds to a counter that saturates. -/
def Dev.add (d : Dev) (f : Field) (n : Nat) : Dev := d.wr f (min (2 ^ f.width - 1) (d.rd f + n))

/-- Counts one on a counter that saturates. -/
def Dev.bump (d : Dev) (f : Field) : Dev := d.add f 1

/-- Writes a 64-bit value to a pair of fields, low half first. -/
def Dev.wr2 (d : Dev) (lo hi : Field) (v : Nat) : Dev := (d.wr lo (v % 2 ^ 32)).wr hi (v / 2 ^ 32)

/-- The 64-bit value of a pair of fields. -/
def Dev.rd2 (d : Dev) (lo hi : Field) : Nat := d.rd lo + 2 ^ 32 * d.rd hi

/-- The value a host reads of a shadowed field (R20): the pending value, else the active one. -/
def Dev.rdP (d : Dev) (f : Field) : Nat := ((tget? d.pend f.key).map (·.val)).getD (d.rd f)

/-- Applies `f` to each element of a list in turn. -/
def Dev.each {α : Type} (d : Dev) (l : List α) (f : Dev → α → Dev) : Dev := l.foldl f d

/-- Applies `f` where the condition holds. -/
def Dev.when (d : Dev) (c : Bool) (f : Dev → Dev) : Dev := if c then f d else d

/-! ### The values a commit admits (R47 to R49) -/

/-- The value of a field as a commit would leave it: the admitted value of `adm`, or the active one. -/
def Dev.cand (d : Dev) (adm : KMap) (f : Field) : Nat := (tget? adm f.key).getD (d.rd f)

/-- Whether a commit would leave a one-bit field set. -/
def Dev.candOn (d : Dev) (adm : KMap) (f : Field) : Bool := d.cand adm f == 1

/-- The signed value of a field as a commit would leave it. -/
def Dev.candS (d : Dev) (adm : KMap) (f : Field) : Int := toS f.width (d.cand adm f)

/-- The field with a key. -/
def fieldOfKey (k : Nat) : Option Field := (fieldsAt (k / 32)).find? (fun f => f.lo == k % 32)

/-- The register file with the values of `adm` active. -/
def Dev.applyAdm (d : Dev) (adm : KMap) : Dev :=
  adm.foldl (fun d x => match fieldOfKey x.1 with | some f => d.wr f x.2 | none => d) d

/-- Whether `adm` holds a field of the words from address `a` to below `b`. -/
def admHas (adm : KMap) (a b : Nat) : Bool := adm.any (fun x => 32 * a ≤ x.1 && x.1 < 32 * b)

/-- `adm` without the fields of the words from address `a` to below `b`. -/
def admDrop (adm : KMap) (a b : Nat) : KMap := adm.filter (fun x => !(32 * a ≤ x.1 && x.1 < 32 * b))

/-- The points with VALID active, in rising order. -/
def Dev.validPts (d : Dev) : List Nat :=
  (d.regs.filter (fun x => 32 * 0x020000 ≤ x.1 && x.1 < 32 * 0x030000 && x.1 % (32 * 0x40) == 0 && x.2 == 1)).map
    (fun x => (x.1 / 32 - 0x020000) / 0x40)

/-- The points named by fields of `adm` in the descriptor table, in rising order. -/
def admPts (adm : KMap) : List Nat :=
  ((adm.filter (fun x => 32 * 0x020000 ≤ x.1 && x.1 < 32 * 0x030000)).map (fun x => (x.1 / 32 - 0x020000) / 0x40)).dedup

/-- The points with VALID as a commit would leave them. -/
def Dev.candPts (d : Dev) (adm : KMap) : List Nat :=
  ((d.validPts ++ admPts adm).mergeSort (· ≤ ·)).dedup.filter (fun n => d.candOn adm (PD.VALID n))

/-! ### Memory windows: (address, byte) pairs, addresses strictly rising, no entry 0; an unlisted byte reads 0 -/

/-- The byte at an address of a memory window. -/
def memGet (m : List Host.Cell) (a : Nat) : Nat := ((tget? m a).map BitVec.toNat).getD 0

/-- A window memory with the byte at `a` set: setting 0, what an unlisted address reads as, removes the entry. -/
def memSet (m : List Host.Cell) (a v : Nat) : List Host.Cell :=
  if v % 256 = 0 then tdel m a else tset m a (BitVec.ofNat 8 v)

/-- The canonical form of a window memory. -/
def Memory.wf (m : List Host.Cell) : Bool := sortedKeys m && m.all (fun c => c.2 != 0)

/-- `bs` stored from address `a` upward. -/
def memSetBytes (m : List Host.Cell) : Nat → List Nat → List Host.Cell
  | _, [] => m
  | a, b :: bs => memSetBytes (memSet m a b) (a + 1) bs

/-- The `n` bytes from address `a` upward. -/
def memGetBytes (m : List Host.Cell) (a n : Nat) : List Nat := (List.range n).map (fun k => memGet m (a + k))

/-- The little-endian word at `a` (R13). -/
def memGetWord (m : List Host.Cell) (a : Nat) : Nat := ofBytesLE (memGetBytes m a 4)

/-! ### Free values -/

/-- Draws a free value of `w` bits (log entry 2). -/
def Dev.draw (d : Dev) (w : Nat) : Nat × Dev := (Config.free d.freeCtr % 2 ^ w, { d with freeCtr := d.freeCtr + 1 })

/-- Draws a free signed value of `w` bits. -/
def Dev.drawS (d : Dev) (w : Nat) : Int × Dev := (toS w (Config.free d.freeCtr), { d with freeCtr := d.freeCtr + 1 })

/-! ### Pair time (R445) -/

/-- PT_OFS in ns. -/
def Dev.ptOfs (d : Dev) : Int := toS 64 (d.rd2 PAIR.PT_OFS_LO PAIR.PT_OFS_HI)

/-- Pair time of a DT in ns: DT × (1 + PT_RATE) + PT_OFS, and DT itself while PAIR_EN is clear (R440). -/
def Dev.ptOf (d : Dev) (ns : Nat) : Nat :=
  if d.pair.en then ((ns : Int) + (ns : Int) * d.rdS PAIR.PT_RATE / 1000000000000 + d.ptOfs).toNat else ns

/-- The DT, in fabric cycles, of a pair time in ns. -/
def Dev.dtOfPt (d : Dev) (pt : Nat) : Nat :=
  cyclesOfNs (if d.pair.en then ((((pt : Int) - d.ptOfs) * 1000000000000 / (1000000000000 + d.rdS PAIR.PT_RATE)).toNat) else pt)

/-- A length of pair time as a length of DT, in cycles, rounded up. -/
def Dev.dtLen (d : Dev) (c : Nat) : Nat :=
  let q : Nat := (1000000000000 + d.rdS PAIR.PT_RATE).toNat
  if d.pair.en then (c * 1000000000000 + q - 1) / q else c

/-! ### The tick grid (R40, R445) -/

/-- The DT, in fabric cycles, of the edge that starts tick `n`, under the epoch in force: edges are a period of pair time apart. -/
def Dev.edgeOf (d : Dev) (n : Nat) : Nat := d.sys.tEpoch + d.dtLen ((n - d.sys.nEpoch) * d.sys.period)

/-- The edge that starts the next tick. -/
def Dev.nextEdge (d : Dev) : Nat := d.edgeOf d.sys.nextN

/-- The length of the window that opens at the next tick's edge: the period in force there (R41, R55). -/
def Dev.winLen (d : Dev) : Nat := ((d.sys.rateChg.filter (fun x => decide (x.1 ≤ d.sys.nextN))).getLast?.map (·.2)).getD d.sys.period

/-- Whether the edge of the next tick has passed by `now`. -/
def Dev.edgePassed (d : Dev) (now : Nat) : Bool := d.sys.gridOn && decide (d.nextEdge ≤ now)

/-- The tick count of the current tick (R40, Table 01.10). -/
def Dev.tickCnt (d : Dev) (now : Nat) : Nat := if d.edgePassed now then d.sys.nextN else d.sys.nextN - 1

/-- What waits for a commit. -/
def Dev.waits (d : Dev) : Waits :=
  { pend := d.pend, cmd := d.cov.cmd, cmdAt := d.cov.cmdAt, cmdUnder := d.cov.cmdUnder, clr := d.pwr.snuffClr, clrAt := d.pwr.clrAt,
    clrUnder := d.pwr.clrUnder, mode := d.pwr.modeReq, modeAt := d.pwr.modeAt, modeUnder := d.pwr.modeUnder }

/-- The block with `w` waiting for a commit. -/
def Dev.withWaits (d : Dev) (w : Waits) : Dev :=
  { d with pend := w.pend, cov := { d.cov with cmd := w.cmd, cmdAt := w.cmdAt, cmdUnder := w.cmdUnder },
           pwr := { d.pwr with snuffClr := w.clr, clrAt := w.clrAt, clrUnder := w.clrUnder, modeReq := w.mode, modeAt := w.modeAt,
                               modeUnder := w.modeUnder } }

/-- Notes that `w` waited up to `now`. -/
def noteWaits (now : Nat) (w : Waits) : List (Nat × Waits) → List (Nat × Waits)
  | [] => [(now, w)]
  | x :: l => if x.2 = w then (now, w) :: l else (now, w) :: x :: l

/-- What waited at the cut (R48): a write that completes at or after it is not among it. -/
def Dev.waitsAt (d : Dev) (cut : Nat) : Waits :=
  ((d.cuts.filter (fun x => decide (cut ≤ x.1))).getLast?.map (·.2)).getD d.waits

/-- What waits after a commit that found `cut` waiting and left `done` of it, where `cur` waits by now: what was written since the
cut stands (R48), and what was dropped since stays dropped (R464). -/
def Waits.merge (cur cut done : Waits) : Waits :=
  { pend := cur.pend.filterMap (fun x => if tget? cut.pend x.1 = some x.2 then (tget? done.pend x.1).map (fun v => (x.1, v)) else some x),
    cmd := if cur.cmdAt = cut.cmdAt then done.cmd else cur.cmd, cmdAt := cur.cmdAt,
    cmdUnder := if cur.cmdAt = cut.cmdAt then done.cmdUnder && cur.cmdUnder else cur.cmdUnder,
    clr := if cur.clrAt = cut.clrAt then done.clr else cur.clr, clrAt := cur.clrAt,
    clrUnder := if cur.clrAt = cut.clrAt then done.clrUnder && cur.clrUnder else cur.clrUnder,
    mode := if cur.modeAt = cut.modeAt then done.mode else cur.mode, modeAt := cur.modeAt,
    modeUnder := if cur.modeAt = cut.modeAt then done.modeUnder && cur.modeUnder else cur.modeUnder }

/-- The latch of T0 (R43): with the first command after a tick edge, the registers of the PWM, TRIP, GIN and FBK pages
stand latched as they were at the edge, and what waits for the commit is noted with the DT up to which it stood (R48). -/
def Dev.captureT0 (d : Dev) (now : Nat) : Dev :=
  if d.edgePassed now then
    if d.t0For != some d.sys.nextN then
      { d with t0 := d.regs.filter (fun x => 32 * 0x04A000 ≤ x.1 && x.1 < 32 * 0x058000), t0For := some d.sys.nextN,
               t0Ssp := d.ssp, t0Fbk := d.fbk, t0Pwm := d.pwm, cuts := [(now, d.waits)] }
    else { d with cuts := noteWaits now d.waits d.cuts }
  else d

/-- A field of an input page as latched at T0. -/
def Dev.rdT0 (d : Dev) (f : Field) : Nat := (tget? d.t0 f.key).getD f.reset

/-! ### The frame of a command -/

/-- Device time when a command acts: `el` cycles later, or unchanged while there is no power (R34). -/
def State.now (s : State) (el : Nat) : Nat := if s.dev.pwr.st = .off then s.dt else s.dt + el

/-- A command that acts on the block at its DT: DT advances, the T0 latch is taken if an edge has passed, `f` acts, and
the queue stands. -/
def State.run (s : State) (el : Nat) (f : Nat → Dev → Dev) : Host.Outcome State Fault Refusal :=
  .next { s with dt := s.now el, dev := f (s.now el) (s.dev.captureT0 (s.now el)) }

/-- A power-on reset: DT starts from zero (R34). -/
def State.runZero (s : State) (el : Nat) (f : Nat → Dev → Dev) : Host.Outcome State Fault Refusal :=
  .next { s with dt := 0, dev := f (s.now el) s.dev }

/-! ### What the mirror carries (R448) -/

/-- Whether the CONFIG section carries field `f`: RWS, and the RWL fields of FIELD_ORIGIN, which a commit applies too (log entry 140). -/
def Field.mirrored (f : Field) : Bool := f.acc == .rws || (f.acc == .rwl && f.eff == .tick && f.addr != 0x001054)

/-- The value of word `a` in a CONFIG section. -/
def Dev.mirrorWord (d : Dev) (a : Nat) : Nat := ((fieldsAt a).filter Field.mirrored).foldl (fun v f => v + d.rd f * 2 ^ f.lo) 0

/-- Whether this module mirrors what it does to a partner: it is ACTIVE, or ALONE. -/
def Dev.mirrors (d : Dev) : Bool := d.pair.st == .active || d.pair.st == .alone

/-- Adds an entry of the PAINT section. -/
def Dev.mirrorPaint (d : Dev) (e : List Nat) : Dev :=
  if d.mirrors then { d with pair := { d.pair with mirPaint := d.pair.mirPaint ++ [e] } } else d

/-- Adds an entry of the LATENCY section. -/
def Dev.mirrorLat (d : Dev) (e : List Nat) : Dev :=
  if d.mirrors then { d with pair := { d.pair with mirLat := d.pair.mirLat ++ [e] } } else d

/-- Adds an entry of the TILE section. -/
def Dev.mirrorTile (d : Dev) (e : List Nat) : Dev :=
  if d.mirrors then { d with pair := { d.pair with mirTile := d.pair.mirTile ++ [e] } } else d

/-! ### Device states -/

/-- LIT or DIM: the device decides and drives (R8). -/
def Dev.running (d : Dev) : Bool := d.pwr.st == .lit || d.pwr.st == .dim

/-- LIT, DIM or SNUFFED: the tick runs. -/
def Dev.ticking (d : Dev) : Bool := d.running || d.pwr.st == .snuffed

/-- Powered and with its firmware running: neither OFF nor in a reset nor in KINDLE before the register space serves. -/
def Dev.alive (d : Dev) : Bool := d.pwr.st != .off && d.pwr.stage == .none

/-- STATE code of Table 01.19; OFF has none. -/
def DevState.code : DevState → Nat
  | .off => 0 | .kindle => 1 | .lit => 2 | .dim => 3 | .snuffed => 4 | .ember => 5

/-- MODE code of Table 00.3. -/
def OpMode.code : OpMode → Nat
  | .host => 0 | .autonomous => 1 | .plain => 2

/-- The header of a page is in force with PG_EN set, on the pages where it acts (R459). -/
def Dev.pgEn (d : Dev) (b : Nat) : Bool := d.on (HDR.PG_EN b)

end Sys2Proof.Machine
end

