-- ==== Sys2Proof/Machine/PwmWave.lean ====
section
/-! DEFINITION. The waveforms of the pulse outputs (R364 to R371, R374, R375): counting, dead time, short pulses, and the
level of a pin at an instant. -/

namespace Sys2Proof.Machine

/-- Base address of the PWM page. -/
def pwmPage : Nat := 0x04A000

/-- Output `n` beside its registers. -/
def Dev.pwmOut (d : Dev) (n : Nat) : PwmOut := tget d.pwm.outs n

/-- Changes output `n`. -/
def Dev.modPwm (d : Dev) (n : Nat) (f : PwmOut → PwmOut) : Dev := { d with pwm := { d.pwm with outs := tmod d.pwm.outs n f } }

/-- The value in force of a buffered field (R372). -/
def Dev.pwmAct (d : Dev) (f : Field) : Nat := (tget? d.pwm.act f.key).getD f.reset

/-- The fields that an output buffers (R372). -/
def pwmFields (n : Nat) : List Field :=
  [PWM.ALIGN n, PWM.UPD_MODE n, PWM.POL n, PWM.MINP_MODE n, PWM.PSC n, PWM.MIN_PULSE n, PWM.PER n, PWM.CMP n]

/-- Whether PAIR_EN of the pair of output `n` is in force. -/
def Dev.pwmPaired (d : Dev) (n : Nat) : Bool := d.pwmAct (PWM.PAIR_EN (n / 2)) == 1

/-- The output whose counter and values govern output `n` (R369). -/
def Dev.pwmGov (d : Dev) (n : Nat) : Nat := if d.pwmPaired n then n / 2 * 2 else n

/-- Whether OUT_EN of output `n` is set. -/
def Dev.outEn (d : Dev) (n : Nat) : Bool := bitOf (d.rd PWM.OUT_EN) n

/-- Whether the counter of output `n` runs (R367). -/
def Dev.pwmRuns (d : Dev) (n : Nat) : Bool := d.outEn n || (d.pwmPaired n && n % 2 == 0 && d.outEn (n + 1))

/-- PER of output `n` from a reading of its fields, held at its limits (R365). -/
def perOf (align per : Nat) : Nat := if align = 0 then held 2 0xFFFE per else max 2 per

/-- PER in force. -/
def Dev.pwmPer (d : Dev) (n : Nat) : Nat := perOf (d.pwmAct (PWM.ALIGN n)) (d.pwmAct (PWM.PER n))

/-- Fabric cycles of one clock of output `n` (R365). -/
def Dev.pwmClk (d : Dev) (n : Nat) : Nat := 2 ^ min 12 (d.pwmAct (PWM.PSC n))

/-- The period of output `n` in fabric cycles (R365). -/
def Dev.pwmPeriod (d : Dev) (n : Nat) : Nat :=
  (if d.pwmAct (PWM.ALIGN n) = 0 then d.pwmPer n + 1 else 2 * d.pwmPer n) * d.pwmClk n

/-- CMP for a duty in 0.1 % (R368). -/
def cmpOfDuty (align per duty : Nat) : Nat := (2 * duty * (if align = 0 then per + 1 else per) + 1000) / 2000

/-- The snuff state of output `n` (R375): its own entry, or that of the even output of its pair. -/
def Dev.pwmSnuffState (d : Dev) (n : Nat) : Nat := d.rd (WDG.SNUFF_STATE (48 + d.pwmGov n))

/-- CMP that governs output `n`: in force, or from SNUFF_DUTY (R375). -/
def Dev.pwmCmp (d : Dev) (n : Nat) : Nat :=
  if d.pwm.snuff && d.pwmSnuffState n == 3 then
    cmpOfDuty (d.pwmAct (PWM.ALIGN n)) (d.pwmPer n) (min 1000 (d.rd (WDG.SNUFF_DUTY (48 + d.pwmGov n))))
  else d.pwmAct (PWM.CMP n)

/-! ### The waveform of one period (R365, R369 to R371) -/

/-- Active pulses of a period in cycles from its start, as (start, length): of the governing output and of the odd output of
a pair; length 0 for none. `drops` and `strs` count short pulses (R371). -/
structure PwmShape where
  even : Nat × Nat := (0, 0)
  odd : Nat × Nat := (0, 0)
  drops : Nat := 0
  strs : Nat := 0
  deriving DecidableEq, Repr, Inhabited

/-- Whether a short pulse is stretched, else dropped (Table 11.1). -/
def Dev.pwmStretch (d : Dev) (n : Nat) : Bool :=
  match d.pwmAct (PWM.MINP_MODE n) with
  | 1 => false
  | 2 => true
  | _ => !d.pwmPaired n

/-- The reference of governing output `n` (R365): start and length of its active part, and the period. -/
def Dev.pwmRef (d : Dev) (n : Nat) : Nat × Nat × Nat :=
  let per := d.pwmPer n
  let c := d.pwmCmp n
  let k := d.pwmClk n
  if d.pwmAct (PWM.ALIGN n) = 0 then (0, min c (per + 1) * k, (per + 1) * k)
  else ((per - min c per) * k, 2 * min c per * k, 2 * per * k)

/-- The waveform of governing output `n`, and of its pair. -/
def Dev.pwmShape (d : Dev) (n : Nat) : PwmShape :=
  let (s, l, p) := d.pwmRef n
  let mp := 4 * d.pwmAct (PWM.MIN_PULSE n)
  let str := d.pwmStretch n
  if !d.pwmPaired n then
    (if l = 0 || l = p || mp ≤ l then { even := (s, l) }
     else if str then { even := (s, min p mp), strs := 1 } else { drops := 1 })
  else if l = 0 then { odd := (0, p) }
  else if l = p then { even := (0, p) }
  else
    let dead := d.pwmAct (PWM.DEAD (n / 2))
    let le := l - dead
    let lo := p - l - dead
    let short := fun (x : Nat) => decide (0 < x) && decide (x < mp)
    if short le && str then
      let lo' := lo - (mp - le)
      if decide (0 < lo') && decide (lo' < mp) || (lo' = 0 && 0 < lo) then { even := (s + dead, mp), strs := 1, drops := 1 }
      else { even := (s + dead, mp), odd := (s + l + dead + (mp - le), lo'), strs := 1 }
    else if short lo && str then
      let le' := le - (mp - lo)
      if decide (0 < le') && decide (le' < mp) || (le' = 0 && 0 < le) then { odd := (s + l + dead, mp), strs := 1, drops := 1 }
      else { even := (s + dead + (mp - lo), le'), odd := (s + l + dead, mp), strs := 1 }
    else
      { even := if short le then (0, 0) else (s + dead, le), odd := if short lo then (0, 0) else (s + l + dead, lo),
        drops := b2n (short le) + b2n (short lo) }

/-- Whether a pulse of a periodic waveform is active `t` cycles after the start of a period. -/
def inPulse (p : Nat) (w : Nat × Nat) (t : Nat) : Bool := p != 0 && decide ((t + p - w.1 % p) % p < w.2)

/-- Cycles from the newest edge of a pulse to `t` cycles after the start of a period; none where it has no edge. -/
def edgeAge (p : Nat) (w : Nat × Nat) (t : Nat) : Option Nat :=
  if w.2 = 0 || p ≤ w.2 then none else some (min ((t + p - w.1 % p) % p) ((t + p - (w.1 + w.2) % p) % p))

/-- Whether a trip holds the group of output `n` (Table 11.2). -/
def Dev.pwmTripped (d : Dev) (n : Nat) : Bool := bitOf (d.rd TRIP.GRP_HELD) (n / 2)

/-- The reference of governing output `n` at `now` (R365), or what its snuff state puts in its place (R375). -/
def Dev.pwmRefAt (d : Dev) (now n : Nat) : Bool :=
  let r := d.pwmRef n
  if d.pwm.snuff && d.pwmSnuffState n == 0 then false
  else if d.pwm.snuff && d.pwmSnuffState n == 1 then true
  else inPulse r.2.2 (r.1, r.2.1) (now - (d.pwmOut n).base)

/-- The dead time that a change of values at `u` calls for in output `n` of a pair at `now` (R370): some true while the output stays inactive,
some false where the reference has not changed and the output that was active goes on. -/
def Dev.pwmTurn (d : Dev) (now n : Nat) : Option Bool :=
  let g := d.pwmGov n
  match (d.pwmOut g).turn with
  | some (u, before, after) =>
    if !d.pwmPaired n || decide (now < u) || decide (u + d.pwmAct (PWM.DEAD (n / 2)) ≤ now) then none
    else if before != after then some true
    else if u = (d.pwmOut g).base && (after == decide (n = g)) then some false
    else none
  | none => none

/-- Whether output `n` is active at `now` (Table 11.2): a snuff state overrides PLAIN mode (R11, R389). -/
def Dev.pwmActive (d : Dev) (now n : Nat) : Bool :=
  let g := d.pwmGov n
  let w := if n = g then (d.pwmShape g).even else (d.pwmShape g).odd
  let turn := d.pwmTurn now n
  let run := match turn with
    | some true => false
    | some false => w.2 != 0
    | none => inPulse (d.pwmPeriod g) w (now - (d.pwmOut g).base)
  if d.pwmTripped n || !d.outEn n || d.pwr.outOff then false
  else if d.pwm.snuff then
    match d.pwmSnuffState n with
    | 0 => false
    | 1 => n == g && turn != some true
    | _ => run
  else d.pwr.mode != .plain && run

/-- The pin level of output `n` (R366). -/
def Dev.pwmLevel (d : Dev) (now n : Nat) : Bool := d.pwmActive now n != (d.pwmAct (PWM.POL n) == 1)

end Sys2Proof.Machine
end

