-- ==== Sys2Proof/Machine/Read.lean ====
section
/-! DEFINITION. What a read of a register word gives (R19, R20, R454): fields from the register file, fields that show
the state of a block, frozen pages (R461), and the mapping of DT to civil time (R244). -/

namespace Sys2Proof.Machine

/-! ### Civil time (R244) -/

/-- dt_to_gps of R244, in ns of GPS time, for a DT in ns. -/
def TimeMap.gps (m : TimeMap) (dt : Nat) : Int :=
  let d : Int := (dt : Int) - m.dt
  m.week * 604800000000000 + m.nsw + d + d * m.rate / 1000000000000

/-- dt_to_utc of R244. -/
def Dev.utc (d : Dev) (dt : Nat) : Int := d.time.map.gps dt - d.rd TIME.LEAP_SEC * 1000000000

/-! ### Operating time and the log -/

/-- Operating time outside OFF and EMBER in fabric cycles (Table 15.9). -/
def Dev.opCycles (d : Dev) (now : Nat) : Nat :=
  d.mram.opCycles + (if d.pwr.st = .off ∨ d.pwr.st = .ember then 0 else now - d.pwr.opSince)

/-- An image with its CRC-32 computed over what it holds (R509); list entries stand apart from fields. -/
def CfgImage.sealed (i : CfgImage) : CfgImage :=
  { i with crc := Config.imageCrc (i.fields ++ i.lists.map (fun x => (2 ^ 40 + x.1, x.2))) i.pos % 2 ^ 32, crcOk := true }

/-- OP_TIME of Table 15.9, 0.1 s. -/
def Dev.opTime (d : Dev) (now : Nat) : Nat := d.opCycles now / 40000000 % 2 ^ 32

/-- The bytes of the log in use: the header and the records (R527). -/
def Dev.wrPtr (d : Dev) : Nat := 64 + (d.mram.log.map (fun r => 4 * r.length)).sum

/-- Bytes of the staging buffer in use (R530). -/
def Dev.stageBytes (d : Dev) : Nat := (d.rec_.staging.map (fun r => 4 * r.length)).sum

/-! ### Counted settings (R536, R539) -/

/-- The copy of a counted setting in use: the valid one with the higher sequence number. -/
def CntSetting.cur (c : CntSetting) : CntCopy :=
  if c.a.ok && (!c.b.ok || decide (c.b.seq ≤ c.a.seq)) then c.a else c.b

/-- The budget of setting `i` (Table 16.3). -/
def cntBudget (i : Nat) : Nat := if i = 12 then 255 else 16

/-- The stored value of setting `i`. -/
def Dev.cntVal (d : Dev) (i : Nat) : Nat := (tget d.mram.cnt i).cur.val

/-- The changes used by setting `i`. -/
def Dev.cntUsed (d : Dev) (i : Nat) : Nat := (tget d.mram.cnt i).cur.used

/-! ### Shadow status of a page (R458, R463) -/

/-- Whether the page at base `b` has pending values. -/
def Dev.shadowPend (d : Dev) (b : Nat) : Bool := d.pend.any (fun x => shadowPage (x.1 / 32) == b && !x.2.dead)

/-- Whether a hold covers the page at base `b`: its own UPD_HOLD or the one of the SYS page. -/
def Dev.holdOn (d : Dev) (b : Nat) : Bool := d.on (HDR.UPD_HOLD b) || d.on (HDR.UPD_HOLD 0)

/-- Whether the page at base `b` has values held (R49, R463). -/
def Dev.heldPend (d : Dev) (b : Nat) : Bool :=
  d.holdOn b && d.pend.any (fun x => shadowPage (x.1 / 32) == b && x.2.under && !x.2.dead)

/-- Whether the page at base `b` is unlocked at `now` (R462). -/
def Dev.unlocked (d : Dev) (now b : Nat) : Bool :=
  match tget? d.hif.unlocked b with
  | none => false
  | some t => decide (now < t + ms 1000)

/-! ### Events pending by number (R479, R480) -/

/-- The bit of event `e` in a header register, over the pages on which it can appear (R474). -/
def Dev.evtBit (d : Dev) (reg : Nat → Field) (e : Nat) : Bool :=
  (List.range 16).any (fun k =>
    let i := match e with
      | 139 | 140 | 141 => 64 * k
      | _ => if 112 ≤ e && e ≤ 115 then 4 * k else if 120 ≤ e && e ≤ 124 then 8 * k else k
    let pb := evtPage e i
    bitOf (d.rd (reg pb.1)) pb.2)

/-- Whether event `e` is pending. -/
def Dev.evtPending (d : Dev) (e : Nat) : Bool := d.evtBit HDR.PG_EVT_PEND e

/-- Word `i` of EVT_PEND_ALL or EVT_RAW_ALL (Table 14.10). -/
def Dev.evtWord (d : Dev) (reg : Nat → Field) (i : Nat) : Nat :=
  (evtPrioTable.filter (fun x => x.1 / 32 == i && d.evtBit reg x.1)).foldl (fun a x => a + 2 ^ (x.1 % 32)) 0

/-- Whether event `e` asserts pin `n` while pending (R480). -/
def Dev.irqMeets (d : Dev) (n e : Nat) : Bool :=
  d.on (EVH.IRQ_EN n) && bitOf (d.rd (EVH.IRQ_ROUTE e)) n && decide (d.rd (EVH.PRIO_MIN n) ≤ d.rd (EVH.PRIO e))

/-- IRQ_TOP of pin `n` (R480): the pending event of highest priority among those routed to the pin, the lowest number among
equals (log entry 18). -/
def Dev.irqTop (d : Dev) (n : Nat) : Nat :=
  (evtPrioTable.foldl (fun (best : Option (Nat × Nat)) x =>
    if bitOf (d.rd (EVH.IRQ_ROUTE x.1)) n && d.evtPending x.1 then
      match best with
      | none => some (x.1, d.rd (EVH.PRIO x.1))
      | some b => if b.2 < d.rd (EVH.PRIO x.1) then some (x.1, d.rd (EVH.PRIO x.1)) else best
    else best) none |>.map (·.1)).getD 0x100

/-- Whether IRQn_N is asserted at `now` (R480): released in KINDLE and during a logic-die reset; in pulse mode for 1 µs
from a firing that meets the condition. -/
def Dev.irqAsserted (d : Dev) (now n : Nat) : Bool :=
  d.pwr.st != .kindle && d.pwr.stage == .none &&
  (if d.on (EVH.IRQ_PULSE n) then
    match tget? d.evh.irqPulse n with
    | none => false
    | some t => decide (now < t + us 1)
   else evtPrioTable.any (fun x => d.irqMeets n x.1 && d.evtPending x.1))

/-! ### Check-value units (R482, R483) -/

/-- WIDTH of unit `n`, held at 3 and 64. -/
def Dev.crcWidth (d : Dev) (n : Nat) : Nat := d.rdH 3 64 (CRC.WIDTH n)

/-- RESULT of unit `n` (R482). -/
def Dev.crcResultOf (d : Dev) (n : Nat) : Nat :=
  crcResult (d.crcWidth n) (d.on (CRC.REFOUT n)) (d.rd2 (CRC.XOROUT_LO n) (CRC.XOROUT_HI n))
    (d.rd2 (CRC.STATE_LO n) (CRC.STATE_HI n))

/-! ### Fields that show the state of a block -/

/-- Fields of the common header (Table 14.3). -/
def Dev.liveHdr (d : Dev) (now b : Nat) (f : Field) : Nat :=
  if f = HDR.IN_SERVICE b then b2n (d.pgEn b)
  else if f = HDR.UNLOCKED b || f = HDR.LOCK_OPEN b then b2n (d.unlocked now b)
  else if f = HDR.FROZEN b then d.rd (HDR.FREEZE b)
  else if f = HDR.SHADOW_PEND b then b2n (d.shadowPend b)
  else if f = HDR.HELD b then b2n (d.heldPend b)
  else d.rd f

/-- PHASE between a tick's edge and its TICK or TICK_OVERRUN (Table 01.9): 0 at the edge, 7 from the deadline on, and in between
the phase that runs, which the block learns only with the durations of the tick: a free value of 1 to 5 (log entry 36). -/
def Dev.phaseNow (d : Dev) (now : Nat) : Nat :=
  if now = d.nextEdge then 0
  else if d.nextEdge + (d.sys.period - us 20) ≤ now then 7
  else 1 + (Config.phaseAt d.sys.nextN (now - d.nextEdge)).val

/-- Fields of the SYS page (Tables 01.9 to 01.19). -/
def Dev.liveSys (d : Dev) (now : Nat) (f : Field) : Nat :=
  if f = SYS.STATE then (if d.pwr.st = .kindle && d.pwr.modeSel && !d.pwr.stormEnd && d.edgePassed now then DevState.lit.code else d.pwr.st.code)
  else if f = SYS.MODE then d.pwr.mode.code
  else if f = SYS.DT_LO then nsOf now % 2 ^ 32
  else if f = SYS.DT_HI then nsOf now / 2 ^ 32 % 2 ^ 32
  else if f = SYS.TICK_CNT_LO then d.tickCnt now % 2 ^ 32
  else if f = SYS.TICK_CNT_HI then d.tickCnt now / 2 ^ 32 % 2 ^ 16
  else if f = SYS.TICK_DT_LO then (if d.edgePassed now then nsOf d.nextEdge % 2 ^ 32 else d.rd f)
  else if f = SYS.TICK_DT_HI then (if d.edgePassed now then nsOf d.nextEdge / 2 ^ 32 % 2 ^ 32 else d.rd f)
  else if f = SYS.PHASE then (if d.edgePassed now then d.phaseNow now else d.rd f)
  else if f = SYS.GRADE then Config.grade
  else d.rd f

/-- Fields of the PWR page (Table 15.9). -/
def Dev.livePwr (d : Dev) (now : Nat) (f : Field) : Nat :=
  if f = PWR.UV_ACT then b2n d.pwr.uv.isSome
  else if f = PWR.FW_RUN then d.mram.fwRun
  else if f = PWR.FW_TRIAL_ACT then b2n d.mram.fwTrial
  else if f = PWR.FW_PENDING then b2n d.mram.fwPending
  else if f = PWR.FW_BUSY then b2n d.pwr.fwPush.isSome
  else if f = PWR.POWER_CYCLES then d.mram.powerCycles % 2 ^ 32
  else if f = PWR.OP_TIME then d.opTime now
  else if f = PWR.FW_VER_A then d.mram.fwA.ver % 2 ^ 32
  else if f = PWR.FW_VER_B then d.mram.fwB.ver % 2 ^ 32
  else d.rd f

/-- Fields of the EVH page (Table 14.10). -/
def Dev.liveEvh (d : Dev) (f : Field) : Nat :=
  let o := f.addr % 0x1000
  if 0x040 ≤ o && o < 0x050 && f.lo == 16 then d.irqTop ((o - 0x040) / 4)
  else if 0x080 ≤ o && o < 0x0A0 then d.evtWord HDR.PG_EVT_PEND ((o - 0x080) / 4)
  else if 0x0A0 ≤ o && o < 0x0C0 then d.evtWord HDR.PG_EVT_RAW ((o - 0x0A0) / 4)
  else d.rd f

/-- Fields of the REC page (Table 16.9). -/
def Dev.liveRec (d : Dev) (f : Field) : Nat :=
  if f = REC.WR_PTR then d.wrPtr % 2 ^ 21
  else if f = REC.STAGE_KB then (d.stageBytes + 1023) / 1024 % 2 ^ 8
  else if f = REC.LOG_GEN then d.mram.logGen % 2 ^ 8
  else if f = REC.STREAMING then b2n d.rec_.stream.isSome
  else d.rd f

/-- Fields of the CNT page (Table 16.10). -/
def Dev.liveCnt (d : Dev) (f : Field) : Nat :=
  let o := f.addr % 0x1000
  if 0x080 ≤ o && o < 0x090 then
    ofBytesLE ((List.range 4).map (fun k => d.cntUsed (o - 0x080 + k)))
  else if f = CNT.FROZEN then
    (List.range 13).foldl (fun a i => a + (if cntBudget i ≤ d.cntUsed i then 2 ^ i else 0)) 0
  else if f = CNT.CNT_BUSY then b2n d.cntAct.isSome
  else d.rd f

/-- STATUS of test slot `q` (Table 16.8): a test that is cut waits again from the instant of the cut (R542). -/
def Dev.tstStatus (d : Dev) (now q : Nat) : Nat :=
  match (tget d.tst.slots q : TstSlot).cut with
  | some t => if t ≤ now then 1 else d.rd (TST.STATUS q)
  | none => d.rd (TST.STATUS q)

/-- Fields of the TST page (Table 16.11). -/
def Dev.liveTst (d : Dev) (now : Nat) (f : Field) : Nat :=
  let q := (f.addr % 0x1000 - 0x100) / 8
  if 0x100 ≤ f.addr % 0x1000 && f = TST.STATUS q then d.tstStatus now q else d.rd f

/-- Fields of a check-value page (Table 14.11). -/
def Dev.liveCrc (d : Dev) (n : Nat) (f : Field) : Nat :=
  if f = CRC.RESULT_LO n then d.crcResultOf n % 2 ^ 32
  else if f = CRC.RESULT_HI n then d.crcResultOf n / 2 ^ 32
  else d.rd f

/-- Fields of the PWM page that show its pins (Table 11.5). -/
def Dev.livePwm (d : Dev) (now : Nat) (f : Field) : Nat :=
  let n := (f.addr % 0x1000 - 0x100) / 0x10
  if f = PWM.OUT_LVL n then b2n (d.pwmLevel now n)
  else if f = PWM.TRIPPED n then b2n (d.pwmTripped n)
  else if f = PWM.IN_SNUFF n then b2n d.pwm.snuff
  else d.rd f

/-- Restarts of switch `n` within its RETRY_WINDOW (R343). -/
def Dev.lswRestarts (d : Dev) (now n : Nat) : Nat :=
  (((tget d.lsw n).restarts.filter (fun t => decide (now < t + ms (max 1 (d.rd (LSW.RETRY_WINDOW n)))))).length)

/-- Whether the output of switch `n` is on at `now`: driven, not opened against reverse current, and within its on-interval
where it is chopped (R335, R337). -/
def Dev.lswOutOn (d : Dev) (now n : Nat) : Bool :=
  let c : LswCh := tget d.lsw n
  c.drv && !c.rev &&
  match c.chop with
  | none => true
  | some (p, duty) => decide ((now - c.onAt) % max 1 p < duty * p / 1000)

/-- Fields of the LSW pages that show a switch (Table 10.12). -/
def Dev.liveLsw (d : Dev) (now : Nat) (f : Field) : Nat :=
  let o := f.addr % 0x1000
  let n := (f.addr - 0x048000) / 0x1000 * 8 + (o - 0x100) / 0x40
  if o < 0x100 then d.rd f
  else if f = LSW.OUT_ON n then b2n (d.lswOutOn now n)
  else if f = LSW.RESTARTS n then min 15 (d.lswRestarts now n)
  else d.rd f

/-- HO_TIME (R249): seconds since the good solution that the mapping stands on. -/
def Dev.hoTime (d : Dev) (now : Nat) : Nat :=
  match d.time.base with
  | none => 0
  | some b => (now - b) / sec 1

/-- TIME_UNC (R249). -/
def Dev.timeUnc (d : Dev) (now : Nat) : Nat :=
  if d.rd TIME.TIME_STATUS = 3 then 0xFFFFFFFF
  else
    let t := d.hoTime now
    min 0xFFFFFFFF (d.time.unc0 + d.time.freqUnc * t + d.rd TIME.HO_DRIFT * t * t / 2000)

/-- Fields of the GNSS and TIME pages that show the receiver (Tables 07.13 and 07.14). -/
def Dev.liveTime (d : Dev) (now : Nat) (f : Field) : Nat :=
  if f = GNSS.RTCM_FREE then 8192 - d.gnss.rtcm.length
  else if f = TIME.HO_TIME then min 0xFFFF (d.hoTime now)
  else if f = TIME.TIME_UNC then d.timeUnc now
  else d.rd f

/-- LINK_STATE code of Table 13.2. -/
def LinkState.code : LinkState → Nat
  | .disabled => 0 | .lock => 1 | .deskew => 2 | .config => 3 | .up => 4

/-- Receive buffer of a virtual channel in units of 64 bytes (Table 13.6). -/
def vcBuffer (k : Nat) : Nat := if k = 1 || k = 2 then 4096 else if k = 3 then 2048 else 128

/-- Fields of the KSP pages that show a link (Table 13.12). -/
def Dev.liveKsp (d : Dev) (f : Field) : Nat :=
  let n := (f.addr - 0x070000) / 0x1000
  let o := f.addr % 0x1000
  let p : KspPort := tget d.ksp n
  if f = KSP.LINK_STATE n then p.st.code
  else if f = KSP.WIDTH n then p.width
  else if f = KSP.LANE_LOCK n then p.lanes
  else if 0x080 ≤ o && o < 0x094 then
    let v : KspVc := tget p.vcs ((o - 0x080) / 4)
    if f.lo == 0 then (v.credit + 65536 - v.sentUnits) % 65536 else vcBuffer ((o - 0x080) / 4)
  else d.rd f

/-- How many slots of the tile caches satisfy `p`, by slot number and slot. -/
def Dev.slotCount (d : Dev) (p : Nat → Slot → Bool) : Nat := (d.tpl.slots.filter (fun x => p x.1 x.2)).length

/-- Fields of the TPL page that count slots (Table 03.15). -/
def Dev.liveTpl (d : Dev) (f : Field) : Nat :=
  if f = TPL.RES_COV then d.slotCount (fun i s => decide (i < 384) && s.st != .free)
  else if f = TPL.RES_RX then d.slotCount (fun i s => decide (384 ≤ i) && s.st != .free)
  else if f = TPL.PROV_CNT then d.slotCount (fun _ s => s.st == .provisional)
  else if f = TPL.DIRTY_CNT then d.slotCount (fun _ s => s.st == .dirty || s.st == .writeback)
  else d.rd f

/-- NODE_READY of boom bus `b`, nodes `from_` to `from_ + 31` (Table 12.18). -/
def Dev.nodeReady (d : Dev) (b from_ : Nat) : Nat :=
  (List.range 32).foldl (fun a k => a + (if (tget d.vnp (64 * b + from_ + k)).st = 2 then 2 ^ k else 0)) 0

/-- Fields of a CAN page that show a boom bus (Table 12.18). -/
def Dev.liveVnp (d : Dev) (now : Nat) (f : Field) : Nat :=
  let n := (f.addr - 0x060000) / 0x1000
  let c : CanCtl := tget d.can n
  let left := match c.shadeUntil with | none => 0 | some t => t - now
  if f = VNP.NODE_READY_LO n then d.nodeReady (n - 2) 0
  else if f = VNP.NODE_READY_HI n then d.nodeReady (n - 2) 32
  else if f = VNP.SHADE_ACT n then b2n (decide (0 < left))
  else if f = VNP.SHADE_REM n then (left + 399999) / 400000
  else if f = VNP.NEW_UID_LO n then (c.newNodes.headD (0, [])).1 % 2 ^ 32
  else if f = VNP.NEW_UID_HI n then (c.newNodes.headD (0, [])).1 / 2 ^ 32
  else if f = VNP.NEW_CNT n then c.newNodes.length
  else d.rd f

/-- The live value of a field that the host reads (R19): what the block shows, without regard to a freeze. -/
def Dev.live (d : Dev) (now : Nat) (f : Field) : Nat :=
  let b := f.addr / 0x1000 * 0x1000
  if isPage b && f.addr % 0x1000 < 0x040 then d.liveHdr now b f
  else if b == 0x000000 then d.liveSys now f
  else if b == 0x001000 then d.livePwr now f
  else if b == 0x002000 then d.liveEvh f
  else if b == 0x004000 then d.liveRec f
  else if b == 0x005000 then d.liveCnt f
  else if b == 0x006000 then d.liveTst now f
  else if 0x078000 ≤ b && b < 0x080000 then d.liveCrc ((b - 0x078000) / 0x1000) f
  else if b == 0x04A000 && 0x100 ≤ f.addr % 0x1000 then d.livePwm now f
  else if b == 0x048000 || b == 0x049000 then d.liveLsw now f
  else if b == 0x035000 || b == 0x036000 then d.liveTime now f
  else if b == 0x070000 || b == 0x071000 then d.liveKsp f
  else if b == 0x031000 then d.liveTpl f
  else if 0x062000 ≤ b && b < 0x066000 then d.liveVnp now f
  else d.rd f

/-- The command fields (R23), which read as zero at all times. -/
def isCommandField (f : Field) : Bool := f.addr == 0x001054 || (f.addr == 0x004048 && f.lo == 1)

/-- What a read of one field gives (Table 00.5, R20, R23). -/
def Dev.readField (d : Dev) (now : Nat) (f : Field) : Nat :=
  if isCommandField f then 0
  else match f.acc with
  | .wo => 0
  | .rws => d.rdP f
  | .rwl => if f.eff = .tick then d.rdP f else d.rd f
  | .rwc => if f.eff = .tick then d.rdP f else d.rd f
  | .ro | .w1c => d.live now f
  | .rw => d.rd f

/-- The part of word `a` that the fields selected by `p` give. -/
def Dev.wordOf (d : Dev) (now a : Nat) (p : Field → Bool) : Nat :=
  ((fieldsAt a).filter p).foldl (fun acc f => acc + d.readField now f % 2 ^ f.width * 2 ^ f.lo) 0

/-- Whether address `a` lies in a window of bytes that a host reads back. -/
def isMemWindow (a : Nat) : Bool :=
  (0x470000 ≤ a && a < 0x4B0000) || (0x600000 ≤ a && a < 0x700000) ||
  (0x060000 ≤ a && a < 0x066000 && 0x400 ≤ a % 0x1000 && a % 0x1000 < 0xE00)

/-- The live word at `a`, whatever a freeze holds (R454, R529). -/
def Dev.liveWord (d : Dev) (now a : Nat) : Nat :=
  if 0x004400 ≤ a && a < 0x004600 then (d.rec_.window.getD ((a - 0x004400) / 4) 0)
  else if isMemWindow a then memGetWord d.mem a
  else d.wordOf now a (fun _ => true)

/-- The word at `a` as a host reads it: on a frozen page the RO fields as they were (R461). -/
def Dev.readWord (d : Dev) (now a : Nat) : Nat :=
  let b := a / 0x1000 * 0x1000
  if isPage b then
    match tget? d.hif.frozen b with
    | none => d.liveWord now a
    | some snap =>
      if (0x004400 ≤ a && a < 0x004600) || isMemWindow a then (tget? snap a).getD 0
      else (tget? snap a).getD 0 + d.wordOf now a (fun f => f.acc != .ro)
  else d.liveWord now a

/-- The RO part of every word of the page at base `b`, by address, zero words left out. -/
def Dev.freezePage (d : Dev) (now b : Nat) : KMap :=
  ((List.range 1024).map (fun k =>
    let a := b + 4 * k
    (a, if (0x004400 ≤ a && a < 0x004600) || isMemWindow a then d.liveWord now a
        else d.wordOf now a (fun f => f.acc == .ro)))).filter (fun x => x.2 != 0)

/-- The word whose latch a read of word `a` fills (R36): the upper half of a LO/HI pair. -/
def hiOf (a : Nat) : Option Nat :=
  let b := a / 0x1000 * 0x1000
  let o := a % 0x1000
  if b == 0x000000 && (o == 0x048 || o == 0x050 || o == 0x058) then some (a + 4)
  else if b == 0x033000 && 0x0BC ≤ o && o < 0x280 && (o - 0x0BC) % 0x40 == 0 then some (b + 0x280 + 4 * ((o - 0x0BC) / 0x40))
  else if b == 0x035000 && o == 0x054 then some (a + 4)
  else if b == 0x036000 && o == 0x070 then some (a + 4)
  else if b == 0x037000 && 0x100 ≤ o && o < 0x300 && (o - 0x100) % 0x80 == 0x060 then some (a + 4)
  else if 0x050000 ≤ b && b < 0x058000 && (o == 0x088 || o == 0x0A0) then some (a + 4)
  else if b == 0x072000 && o == 0x05C then some (a + 4)
  else if 0x078000 ≤ b && b < 0x080000 && (o == 0x064 || o == 0x06C) then some (a + 4)
  else none

/-- Whether word `a` is the upper half of a pair that reads as latched. -/
def isHi (a : Nat) : Bool :=
  let o := a % 0x1000
  hiOf (a - 4) == some a ||
  (a / 0x1000 * 0x1000 == 0x033000 && 0x280 ≤ o && o < 0x2A0)

/-- A read of one word by a host: the word, and the block with the upper half latched where the word is a lower half
(R36); TIME_STATUS reads as MAP_SNAP latched it, once (R244, log entry 130). -/
def Dev.hostRead (d : Dev) (now a : Nat) : Nat × Dev :=
  if isHi a then ((tget? d.hif.latch a).getD 0, d)
  else if a = 0x03604C then
    match tget? d.hif.latch a with
    | none => (d.readWord now a, d)
    | some st =>
      let w := d.readWord now a
      (w - w % 4 + st % 4, { d with hif := { d.hif with latch := d.hif.latch.filter (fun x => x.1 != a) } })
  else match hiOf a with
  | none => (d.readWord now a, d)
  | some h => (d.readWord now a, { d with hif := { d.hif with latch := tset d.hif.latch h (d.readWord now h) } })

end Sys2Proof.Machine
end

