-- ==== Sys2Proof/Machine/Flags.lean ====
section
/-! DEFINITION. The event flags and what a firing does (R474 to R481), and the recorder's records, buckets and staging
buffer (R527 to R533). -/

namespace Sys2Proof.Machine

/-! ### Records (R528 to R533) -/

/-- The trigger set an EVENT record of event `e` uses (R529): the lowest-numbered enabled one whose range holds it. -/
def Dev.triggerSet (d : Dev) (e : Nat) : Option Nat :=
  (List.range 32).find? (fun s => d.on (REC.TS_EN s) && decide (d.rd (REC.EVT_LO s) ≤ e) && decide (e ≤ d.rd (REC.EVT_HI s)))

/-- SNAP_N of set `s`, held at 64 (Table 16.9). -/
def Dev.snapN (d : Dev) (s : Nat) : Nat := min 64 (d.rd (REC.SNAP_N s))

/-- The snapshot addresses of set `s`. -/
def Dev.snapList (d : Dev) (s : Nat) : List Nat :=
  (List.range (d.snapN s)).map (fun i => (tget? d.rec_.lists (64 * s + i)).getD 0)

/-- UTC_NS of a record (Table 16.1): valid while UTC_VALID and TIME_STATUS is GNSS or HOLDOVER. -/
def Dev.utcStamp (d : Dev) (ns : Nat) : Bool × Nat :=
  if d.on TIME.UTC_VALID && decide (d.rd TIME.TIME_STATUS ≤ 1) then (true, ofS 64 (d.utc ns)) else (false, 0)

/-- A record (R528): header words of Table 16.1, body, CRC-32. `trig` is the DT of the trigger in ns. -/
def Dev.buildRecord (d : Dev) (kind code flags trig tick edata snap rlHeld : Nat) (body : List Nat) : List Nat :=
  let u := d.utcStamp trig
  let words : List Nat :=
    [kind + 2 ^ 8 * code + 2 ^ 16 * (13 + body.length) + 2 ^ 24 * b2n u.1 + 2 ^ 25 * flags, d.rd REC.REC_SEQ, d.opTime ((2 * trig + 4) / 5),
     d.mram.powerCycles % 2 ^ 32, trig % 2 ^ 32, trig / 2 ^ 32 % 2 ^ 32, u.2 % 2 ^ 32, u.2 / 2 ^ 32, tick % 2 ^ 32, edata, snap,
     min 0xFFFF rlHeld] ++ body
  words ++ [crc32 (wordsToBytes words)]

/-- The staging buffer takes a record (R530), with the next SEQ; refused while REC_FULL is set (R533), and dropped where
the 64 KB are full. `mk` builds the record. -/
def Dev.stagePut (d : Dev) (mk : Dev → List Nat) : Dev :=
  if d.on REC.REC_FULL then d.bump REC.LOST_CNT
  else
    let r := mk d
    if 65536 < d.stageBytes + 4 * r.length then d.bump REC.STAGE_DROP
    else { d with rec_ := { d.rec_ with staging := d.rec_.staging ++ [r] } }.wr REC.REC_SEQ (d.rd REC.REC_SEQ + 1)

/-- The state of bucket `k` after the tokens gained by `now` (R532). -/
def Dev.bucketNow (d : Dev) (now k : Nat) : Bucket :=
  let b : Bucket := tget d.rec_.buckets k
  let per := ms (max 1 (d.rd REC.TB_PERIOD))
  let gain := (now - b.last) / per
  { b with used := b.used - gain, last := if b.used ≤ gain then now else b.last + gain * per }

/-- TB_BURST and TB_PERIOD change (R532): every bucket has gained its tokens by `now`; its tokens stay, up to the new TB_BURST. -/
def Dev.bucketsSet (d : Dev) (now burst per : Nat) : Dev :=
  let old := max 1 (d.rd REC.TB_BURST)
  let new := max 1 burst
  let ks := if old < new then List.range 514 else d.rec_.buckets.map (·.1)
  let d := d.each ks (fun d k =>
    let b := d.bucketNow now k
    let b : Bucket := { b with used := b.used + new - old, last := if b.used = 0 then now else b.last }
    { d with rec_ := { d.rec_ with buckets := tset d.rec_.buckets k b } })
  (d.wr REC.TB_BURST burst).wr REC.TB_PERIOD per

/-- Draws a token from bucket `k` (R532): whether there was one, and the records held back since the last. -/
def Dev.drawToken (d : Dev) (now k : Nat) : Bool × Nat × Dev :=
  let b := d.bucketNow now k
  if b.used < max 1 (d.rd REC.TB_BURST) then
    (true, b.heldBack, { d with rec_ := { d.rec_ with buckets := tset d.rec_.buckets k { b with used := b.used + 1, heldBack := 0 } } })
  else
    (false, 0, { d with rec_ := { d.rec_ with
      buckets := tset d.rec_.buckets k { b with heldBack := min 0xFFFF (b.heldBack + 1) } } }.bump REC.RL_DROP)

/-- The TSET_DEF record of set `s` (Table 16.2), where one is due (R529). -/
def Dev.stageDef (d : Dev) (now s : Nat) : Dev :=
  if d.rec_.defDue.contains s then
    ({ d with rec_ := { d.rec_ with defDue := d.rec_.defDue.filter (· != s) } }).stagePut (fun d =>
      d.buildRecord 0x06 0 0 (nsOf now) (d.tickCnt now) 0 0 0
        ((s + 2 ^ 8 * d.snapN s + 2 ^ 16 * d.rd (REC.TS_GEN s)) :: d.snapList s))
  else d

/-- An EVENT or MANUAL record with the snapshot of set `s?` (R529). -/
def Dev.stageSnap (d : Dev) (now kind code trig tick edata rlHeld : Nat) (s? : Option Nat) : Dev :=
  match s? with
  | none => d.stagePut (fun d => d.buildRecord kind code 0 trig tick edata 0 rlHeld [])
  | some s =>
    (d.stageDef now s).stagePut (fun d =>
      let n := d.snapN s
      d.buildRecord kind code 0 trig tick edata
        ((if n = 0 then 0 else s) + 2 ^ 8 * n + 2 ^ 16 * d.rd (REC.TS_GEN s)) rlHeld
        ((d.snapList s).map (fun a => d.liveWord now (a / 4 * 4))))

/-! ### Firing an event (R474) -/

/-- Sets the RAW bit of an event, its PEND bit where PG_EVT_EN enables it, and starts the pulse of each pin in pulse mode
whose condition it meets (R474, R480). -/
def Dev.setFlags (d : Dev) (now e inst : Nat) : Dev :=
  let p := evtPage e inst
  let d := d.wr (HDR.PG_EVT_RAW p.1) (setBitOf (d.rd (HDR.PG_EVT_RAW p.1)) p.2 true)
  if bitOf (d.rd (HDR.PG_EVT_EN p.1)) p.2 then
    let d := d.wr (HDR.PG_EVT_PEND p.1) (setBitOf (d.rd (HDR.PG_EVT_PEND p.1)) p.2 true)
    d.each (List.range 4) (fun d n =>
      if d.irqMeets n e then { d with evh := { d.evh with irqPulse := tset d.evh.irqPulse n now } } else d)
  else d

/-- `l` with `x` put behind every message of at least its priority (R481). -/
def putByPrio (l : List (Nat × Firing)) (x : Nat × Firing) : List (Nat × Firing) :=
  l.filter (fun y => decide (x.1 ≤ y.1)) ++ x :: l.filter (fun y => decide (y.1 < x.1))

/-- Queues the EVENT message of a firing on a port (R481): whether the port had room, and the block. -/
def Dev.queueEvent (d : Dev) (port : Nat) (f : Firing) : Bool × Dev :=
  let q := if port = 0 then d.evh.queue0 else d.evh.queue1
  if q.length < 64 then
    let q' := putByPrio q (d.rd (EVH.PRIO f.num), f)
    (true, { d with evh := if port = 0 then { d.evh with queue0 := q' } else { d.evh with queue1 := q' } })
  else (false, d.bump EVH.KSP_DROP)

/-- The ports on which EVENT messages are sent: KSP0, and KSP1 while it runs in HOST mode (R481). -/
def Dev.eventPorts (d : Dev) : List Nat := if (tget d.ksp 1).partner || d.rd (KSP.KSP_MODE 1) != 0 then [0] else [0, 1]

mutual

/-- A firing (R474), with further firings that it causes by itself up to `fuel` deep: an overflow of a port's queue
(R481), or a record held back by its bucket (R532). -/
def Dev.fireN : Nat → Dev → Nat → Firing → Dev
  | 0, d, now, f => d.setFlags now f.num (f.edata % 2 ^ 16)
  | fuel + 1, d, now, f =>
    let d := d.setFlags now f.num (f.edata % 2 ^ 16)
    let lim : RateLim := tget d.evh.limits f.num
    let d := match lim.heldBack with
      | none => d
      | some g => if lim.until_ ≤ now then Dev.deliverN fuel d now lim.until_ g else d
    let lim : RateLim := tget d.evh.limits f.num
    if now < lim.until_ then
      { d with evh := { d.evh with limits := tset d.evh.limits f.num { lim with heldBack := some f } } }.bump (EVH.COAL (f.num % 256))
    else Dev.deliverN fuel d now now f

/-- Delivery of a firing along its KSP and recorder routes (R478, R481), opening its rate-limit interval at `start`. -/
def Dev.deliverN : Nat → Dev → Nat → Nat → Firing → Dev
  | 0, d, _, _, _ => d
  | fuel + 1, d, now, start, f =>
    let rl := d.rd (EVH.RL_MS f.num)
    let d := { d with evh := { d.evh with
      limits := if rl = 0 then tdel d.evh.limits f.num else tset d.evh.limits f.num { until_ := start + ms rl, heldBack := none } } }
    let d := if d.on (EVH.KSP_ROUTE f.num) then
        d.eventPorts.foldl (fun d port =>
          let r := d.queueEvent port f
          if r.1 || f.num = EVT.EVH_OVERFLOW then r.2
          else Dev.fireN fuel r.2 now { num := EVT.EVH_OVERFLOW, edata := port, dt := nsOf now, tick := d.tickCnt now }) d
      else d
    if d.on (EVH.REC_ROUTE f.num) then Dev.recordN fuel d now f else d

/-- The records of a delivered firing (Table 16.2): an EVENT record, and for a node fault an AGGREGATE record. -/
def Dev.recordN : Nat → Dev → Nat → Firing → Dev
  | 0, d, _, _ => d
  | fuel + 1, d, now, f =>
    if !d.on REC.REC_EN then d.bump REC.LOST_CNT
    else
      let t := d.drawToken now f.num
      let d := if t.1 then t.2.2.stageSnap now 0x01 f.num f.dt f.tick f.edata t.2.1 (t.2.2.triggerSet f.num)
        else Dev.rateLimitN fuel t.2.2 now
      if f.agg.isEmpty then d
      else
        let code := f.edata / 2 ^ 16
        let t := d.drawToken now (256 + code)
        if t.1 then t.2.2.stagePut (fun d => d.buildRecord 0x03 code 0 f.dt f.tick 0 0 t.2.1 f.agg)
        else Dev.rateLimitN fuel t.2.2 now

/-- EVT_REC_RATE_LIMIT, at most once per second while RL_DROP rises (R532). -/
def Dev.rateLimitN : Nat → Dev → Nat → Dev
  | 0, d, _ => d
  | fuel + 1, d, now =>
    if (match d.rec_.lastRateEvt with | none => true | some t => decide (t + sec 1 ≤ now)) then
      Dev.fireN fuel { d with rec_ := { d.rec_ with lastRateEvt := some now } } now
        { num := EVT.REC_RATE_LIMIT, edata := 0, dt := nsOf now, tick := d.tickCnt now }
    else d

end

/-- An event fires at `now` about instance `inst` with the reported value `val` (R474, R476). -/
def Dev.fire (d : Dev) (now e inst val : Nat) : Dev :=
  Dev.fireN 8 d now { num := e, edata := inst % 2 ^ 16 + 2 ^ 16 * (val % 2 ^ 16), dt := nsOf now, tick := d.tickCnt now }

/-- A node fault event with the aggregated fault record it carries. -/
def Dev.fireAgg (d : Dev) (now e inst val : Nat) (agg : List Nat) : Dev :=
  Dev.fireN 8 d now { num := e, edata := inst % 2 ^ 16 + 2 ^ 16 * (val % 2 ^ 16), dt := nsOf now, tick := d.tickCnt now, agg := agg }

/-- Whether an event that its chapter limits to once per second may fire again. -/
def secPassed (last : Option Nat) (now : Nat) : Bool :=
  match last with
  | none => true
  | some t => decide (t + sec 1 ≤ now)

/-! ### Records that no event causes -/

/-- A record that is never limited (R532), staged while REC_EN is set. -/
def Dev.stageFree (d : Dev) (now kind code flags : Nat) (body : List Nat) : Dev :=
  if d.on REC.REC_EN then
    d.stagePut (fun d => d.buildRecord kind code flags (nsOf now) (d.tickCnt now) 0 0 0 body)
  else d.bump REC.LOST_CNT

/-- A record of a limited kind without snapshot (R532). -/
def Dev.stageLimited (d : Dev) (now kind code bucket : Nat) (body : List Nat) : Dev :=
  if d.on REC.REC_EN then
    let t := d.drawToken now bucket
    if t.1 then t.2.2.stagePut (fun d => d.buildRecord kind code 0 (nsOf now) (d.tickCnt now) 0 0 t.2.1 body)
    else Dev.rateLimitN 8 t.2.2 now
  else d.bump REC.LOST_CNT

/-- Writes one staged record to the log, or the FULL record in its place, with its SEQ (R530, R533). -/
def Dev.logPut (d : Dev) (now : Nat) (r : List Nat) : Dev :=
  if d.on REC.REC_FULL then d.bump REC.LOST_CNT
  else if 1572864 < d.wrPtr + 4 * r.length + 512 then
    let full := (d.wr REC.REC_SEQ (r.getD 1 0)).buildRecord 0x08 0 0 (nsOf now) (d.tickCnt now) 0 0 0 []
    let d := { d with mram := { d.mram with log := d.mram.log ++ [full] } }.wr REC.REC_SEQ (r.getD 1 0 + 1)
    (d.wr REC.REC_FULL 1).fire now EVT.REC_FULL 0 0
  else { d with mram := { d.mram with log := d.mram.log ++ [r] } }

/-- The recorder's T6 work: the staging buffer is written to MRAM in SEQ order (R530). -/
def Dev.recWriteOut (d : Dev) (now : Nat) : Dev :=
  d.rec_.staging.foldl (fun d r => d.logPut now r) { d with rec_ := { d.rec_ with staging := [] } }

end Sys2Proof.Machine
end

