-- ==== Sys2Proof/Machine/KspLink.lean ====
section
/-! DEFINITION. The stream port's link: training, packets, credit, replay and retraining (R428 to R435). -/

namespace Sys2Proof.Machine

/-- The port `n`. -/
def Dev.port (d : Dev) (n : Nat) : KspPort := tget d.ksp n

/-- The port `n` changed by `f`. -/
def Dev.modPort (d : Dev) (n : Nat) (f : KspPort → KspPort) : Dev := { d with ksp := tmod d.ksp n f }

/-- KSP_EN in force on port `n`: the field and PG_EN (R459). -/
def Dev.kspOn (d : Dev) (n : Nat) : Bool := d.on (KSP.KSP_EN n) && d.pgEn (0x070000 + 0x1000 * n) && d.pwr.st != .ember

/-- Whether port `n` is UP. -/
def Dev.kspUp (d : Dev) (n : Nat) : Bool := (d.port n).st == .up

/-- Virtual channels in order of transmit priority (Table 13.6). -/
def vcOrder : List Nat := [3, 0, 1, 2, 4]

/-- Credit units of a packet of `len` bytes (R433). -/
def creditUnits (len : Nat) : Nat := (len + 63) / 64

/-- Entry into LOCK (R429): the mode and MAX_WIDTH are read (Table 13.12), and each lane seeks lock anew; KSP0 always runs HOST (R430). -/
def Dev.enterLock (d : Dev) (now n : Nat) : Dev :=
  let partner := n = 1 && d.on (KSP.KSP_MODE 1)
  let maxW := min 2 (d.rd (KSP.MAX_WIDTH n))
  d.modPort n (fun p => { p with st := .lock, since := now, trainFrom := now, partner := partner, maxW := maxW, lanes := 0, tsRx := 0, tsTx := 0 })

/-- The port follows KSP_EN in force (Table 13.2): it leaves DISABLED for LOCK, and enters DISABLED from any state; a link
that was UP is then down after 50 ms (R435). -/
def Dev.kspEnable (d : Dev) (now n : Nat) : Dev :=
  if d.kspOn n then (if (d.port n).st = .disabled then d.enterLock now n else d)
  else d.modPort n (fun p => { p with st := .disabled, since := now, lanes := 0,
                                      retrainFrom := if p.st = .up then some now else p.retrainFrom })

/-- A retrain (R429, R435): from UP it is timed from here; in training it is a failed attempt (TRAIN_FAIL). -/
def Dev.kspRetrain (d : Dev) (now n : Nat) : Dev :=
  match (d.port n).st with
  | .disabled => d
  | .up => (d.modPort n (fun p => { p with retrainFrom := some now })).enterLock now n
  | _ => (d.bump (KSP.TRAIN_FAIL n)).enterLock now n

/-- The largest width code 0, 1 or 2 no wider than `maxW` for which both ends report the lanes locked (R429). -/
def commonWidth (maxW own far : Nat) : Option Nat :=
  let ok := fun w => decide (w ≤ maxW) && (List.range (2 ^ w)).all (fun k => bitOf own k && bitOf far k)
  if ok 2 then some 2 else if ok 1 then some 1 else if ok 0 then some 0 else none

/-- A lane locks (R429): DESKEW when all lanes are locked, or when lane 0 is and 10 ms have passed in LOCK. -/
def Dev.kspLaneLock (d : Dev) (now n lane : Nat) : Dev :=
  if (d.port n).st = .disabled then d
  else d.modPort n (fun p =>
    let lanes := setBitOf p.lanes lane true
    if p.st = .lock && (lanes == 15 || (bitOf lanes 0 && decide (p.since + ms 10 ≤ now))) then { p with lanes := lanes, st := .deskew, since := now }
    else { p with lanes := lanes })

/-- 10 ms have passed in LOCK (R429): DESKEW if lane 0 is locked. -/
def Dev.kspLockWait (d : Dev) (now n : Nat) : Dev :=
  d.modPort n (fun p =>
    if p.st = .lock && bitOf p.lanes 0 && decide (p.since + ms 10 ≤ now) then { p with st := .deskew, since := now } else p)

/-- A lane loses lock (R429): a retrain, where the lane is in use or the port is in training. -/
def Dev.kspLaneLoss (d : Dev) (now n lane : Nat) : Dev :=
  let was := bitOf (d.port n).lanes lane
  let d := d.modPort n (fun p => { p with lanes := setBitOf p.lanes lane false })
  if !was then d
  else match (d.port n).st with
  | .up => if lane < 2 ^ (d.port n).width then d.kspRetrain now n else d
  | .deskew | .config => d.kspRetrain now n
  | _ => d

/-- The attempt has not reached UP within 100 ms (R429). -/
def Dev.kspTrainTimeout (d : Dev) (now n : Nat) : Dev :=
  match (d.port n).st with
  | .disabled | .up => d
  | _ => if (d.port n).trainFrom + ms 100 ≤ now then d.kspRetrain now n else d

/-- A retrain has lasted 50 ms without UP (R435): the link is down. -/
def Dev.kspDown (d : Dev) (now n : Nat) : Dev :=
  match (d.port n).retrainFrom with
  | none => d
  | some t =>
    if t + ms 50 ≤ now && (d.port n).st != .up then
      let d := d.modPort n (fun p =>
        { p with retrainFrom := none, txSeq := 0, rxNext := 0, replay := [], replaySeq := 0, replayRun := 0, nakOut := false,
                 vcs := p.vcs.map (fun x => (x.1, { x.2 with
                   txq := if x.2.midTx then x.2.txq.tail else x.2.txq, midTx := false, sentUnits := 0, credit := 0, rxUnits := 0, heldUnits := 0, partialRx := none })) })
      (d.bump (KSP.DOWN_CNT n)).fire now EVT.KSP_LINK_DOWN n 0
    else d

/-! ### Sending -/

/-- The EVENT message of a firing (Table 13.7). -/
def eventBytes (prio : Nat) (f : Firing) : List Nat :=
  wordsToBytes [0x44 + 2 ^ 8 * f.num + 2 ^ 16 * prio, f.tick % 2 ^ 32, f.dt % 2 ^ 32, f.dt / 2 ^ 32, f.edata]

/-- Queues a message on a virtual channel of port `n`. -/
def Dev.kspQueue (d : Dev) (n vc : Nat) (bytes : List Nat) : Dev :=
  d.modPort n (fun p => { p with vcs := tmod p.vcs vc (fun v => { v with txq := v.txq ++ [bytes] }) })

/-- Moves the next queued EVENT message to VC0 where VC0 has nothing waiting (R481). -/
def Dev.takeEvent (d : Dev) (n : Nat) : Dev :=
  if (tget (d.port n).vcs 0).txq.isEmpty then
    match (if n = 0 then d.evh.queue0 else d.evh.queue1) with
    | [] => d
    | x :: rest =>
      ({ d with evh := if n = 0 then { d.evh with queue0 := rest } else { d.evh with queue1 := rest } }).kspQueue n 0
        (eventBytes x.1 x.2)
  else d

/-- Bytes that the replay buffer holds (R434): headers, padded payloads and CRCs. -/
def KspPort.replayBytes (p : KspPort) : Nat := (p.replay.map (fun k => 20 + (k.payload.length + 3) / 4 * 4)).sum

/-- Whether the first waiting packet of virtual channel `k` may go: credit (R433) and room for its replay (R434). -/
def KspPort.canSend (p : KspPort) (k : Nat) : Bool :=
  let v : KspVc := tget p.vcs k
  match v.txq with
  | [] => false
  | m :: _ =>
    let len := min 1024 m.length
    decide (creditUnits len ≤ (v.credit + 65536 - v.sentUnits) % 65536) &&
    decide (p.replayBytes + 20 + (len + 3) / 4 * 4 ≤ 65536)

/-- Sends the first waiting packet of virtual channel `k` (R431): at most 1,024 bytes, in sequence, kept for replay. -/
def KspPort.sendOne (p : KspPort) (k : Nat) : KspPort :=
  let v : KspVc := tget p.vcs k
  match v.txq with
  | [] => p
  | m :: rest =>
    let part := m.take 1024
    let left := m.drop 1024
    let pk : KspPacket := { seq := p.txSeq, vc := k, som := !v.midTx, eom := left.isEmpty, payload := part }
    { p with
      txSeq := (p.txSeq + 1) % 4096
      replay := p.replay ++ [pk]
      vcs := tset p.vcs k { v with
        txq := if left.isEmpty then rest else left :: rest
        midTx := !left.isEmpty
        sentUnits := (v.sentUnits + creditUnits part.length) % 65536
        txBytes := v.txBytes + part.length } }

/-- Sends what credit and the replay buffer allow, by priority, at most `fuel` packets (R433). -/
def Dev.kspPump : Nat → Dev → Nat → Dev
  | 0, d, _ => d
  | fuel + 1, d, n =>
    if (d.port n).st = .up then
      let d := d.takeEvent n
      match vcOrder.find? (fun k => (d.port n).canSend k) with
      | none => d
      | some k => Dev.kspPump fuel (d.modPort n (fun p => p.sendOne k)) n
    else d

/-- Queues a message and sends what may go. -/
def Dev.kspSend (d : Dev) (n vc : Nat) (bytes : List Nat) : Dev := Dev.kspPump 4096 (d.kspQueue n vc bytes) n

/-- The LINK packet that the port sends now (R432, Table 13.5): acknowledgement, NAK and the five credit limits; what GRID cannot take yet is
not granted again (R257). -/
def Dev.kspSendLink (d : Dev) (now n : Nat) : Dev :=
  if (d.port n).st = .up then
    d.modPort n (fun p => { p with
      linkTx := [(p.rxNext + 4095) % 4096, b2n p.nakOut] ++
        (List.range 5).map (fun k => ((tget p.vcs k).rxUnits + 65536 - (tget p.vcs k).heldUnits + vcBuffer k) % 65536)
      linkTxAt := now })
  else d

/-- The VC2 units that GRID withheld are granted again (R257). -/
def Dev.freeCredits (d : Dev) (now : Nat) : Dev :=
  if (tget (d.port 0).vcs 2).heldUnits = 0 then d
  else (d.modPort 0 (fun p => { p with vcs := tmod p.vcs 2 (fun v => { v with heldUnits := 0 }) })).kspSendLink now 0

/-- Entry into UP (R429, R435) at width `w`: the retrain is counted where the link had been UP, and what waits is sent. -/
def Dev.kspEnterUp (d : Dev) (now n w : Nat) : Dev :=
  let re := (d.port n).retrainFrom
  let maxW := (d.port n).maxW
  let d := d.modPort n (fun p => { p with st := .up, since := now, width := w, retrainFrom := none, lastLink := now, secFrom := now })
  let d := if re.isSome then d.bump (KSP.RETRAIN_CNT n) else d
  let d := d.fire now EVT.KSP_LINK_UP n w
  let d := d.when (decide (w < maxW)) (fun d => d.fire now EVT.KSP_WIDTH n w)
  Dev.kspPump 4096 (d.kspSendLink now n) n

/-- TS columns arrive (R429, Table 13.3): `cols` of them alike, while as many are sent. DESKEW is left for CONFIG with the
first (log entry 7); in CONFIG the width is the common one, and UP follows 8 matching sets in a row and 16 sent. A PARTNER
port pairs only with a PARTNER port (R430). Answers the width when the port may enter UP. -/
def Dev.kspTs (d : Dev) (now n locked width endCode cols : Nat) : Option Nat × Dev :=
  match (d.port n).st with
  | .deskew =>
    (none, (d.wr (KSP.FAR_END n) endCode).modPort n (fun p => { p with st := .config, since := now, farLocked := locked, tsRx := 0, tsTx := 0 }))
  | .config =>
    let d := (d.wr (KSP.FAR_END n) endCode).modPort n (fun p => { p with farLocked := locked })
    let p := d.port n
    match commonWidth p.maxW p.lanes locked with
    | none => (none, d.modPort n (fun p => { p with tsRx := 0, tsTx := p.tsTx + cols }))
    | some w =>
      if width = 2 ^ w && (endCode == 2) == p.partner then
        let rx := min 8 (p.tsRx + cols)
        let tx := p.tsTx + cols
        let d := d.modPort n (fun p => { p with tsRx := rx, tsTx := tx })
        (if 8 ≤ rx ∧ 16 ≤ tx then some w else none, d)
      else (none, d.modPort n (fun p => { p with tsRx := 0, tsTx := p.tsTx + cols }))
  | _ => (none, d)

/-! ### Receiving -/

/-- An error of a received DATA packet (R434): counted, answered by NAK, and reported at most once per second. -/
def Dev.kspRxErr (d : Dev) (now n : Nat) : Dev :=
  let d := d.bump (KSP.CRC_ERR n)
  let d := d.modPort n (fun p => { p with nakOut := true })
  let d := if secPassed (d.port n).errEvt now then
      (d.modPort n (fun p => { p with errEvt := some now })).fire now EVT.KSP_ERR n 0
    else d
  d.kspSendLink now n

/-- A LINK packet arrives (R432 to R434): acknowledged packets leave the replay buffer, a NAK replays the rest, and the
credit limits are taken over. -/
def Dev.kspLinkRx (d : Dev) (now n ack : Nat) (nak : Bool) (credits : List Nat) : Dev :=
  if (d.port n).st != .up then d
  else
    let d := d.modPort n (fun p => { p with
      lastLink := now
      replay := p.replay.filter (fun k => decide (2048 ≤ (ack + 4096 - k.seq) % 4096))
      vcs := (List.range 5).foldl (fun v k => match credits[k]? with
        | some c => tmod v k (fun x => { x with credit := c % 65536 })
        | none => v) p.vcs })
    let d := if nak then
        let s := (ack + 1) % 4096
        let run := if (d.port n).replayRun != 0 && (d.port n).replaySeq == s then (d.port n).replayRun + 1 else 1
        let d := (d.bump (KSP.REPLAY_CNT n)).modPort n (fun p => { p with replaySeq := s, replayRun := run })
        if run = 4 then (d.modPort n (fun p => { p with replayRun := 0 })).kspRetrain now n else d
      else d.modPort n (fun p => { p with replayRun := 0 })
    Dev.kspPump 4096 d n

/-- Whether the port accepts a message of VC `vc` and TYPE `ty` (R430, R436). -/
def vcAccepts (partner : Bool) (vc ty : Nat) : Bool :=
  if partner then (vc == 1 && 1 ≤ ty && ty ≤ 6) || (vc == 3 && (ty == 0x51 || ty == 0x52)) || (vc == 0 && ty == 0x45)
  else (vc == 0 && (ty == 0x41 || ty == 0x42)) || (vc == 1 && 1 ≤ ty && ty ≤ 6) || (vc == 2 && ty == 0x21)

/-- Whether the port's mode takes packets of VC `vc` at all (R430). -/
def vcTaken (partner : Bool) (vc : Nat) : Bool :=
  if partner then vc == 0 || vc == 1 || vc == 3 else vc == 0 || vc == 1 || vc == 2 || vc == 4

/-- A DATA packet arrives as bytes (R431, R434): checked, taken in sequence and joined to its message; answers a message
that it completes, as (VC, bytes). VC2 units that arrive while GRID holds a tile are withheld (R257, R258). -/
def Dev.kspPacketRx (d : Dev) (now n : Nat) (bs : List Nat) : Option (Nat × List Nat) × Dev :=
  if (d.port n).st != .up then (none, d)
  else
    let hdr := bs.take 12
    let w0 := ofBytesLE (bs.take 4)
    let len := bitsOf w0 16 11
    let padded := (len + 3) / 4 * 4
    let body := bs.take (16 + padded)
    let hOk := bs.length ≥ 16 && crc16 hdr == bitsOf (ofBytesLE ((bs.drop 12).take 4)) 0 16
    let cOk := bs.length ≥ 20 + padded && crc32 body == ofBytesLE ((bs.drop (16 + padded)).take 4) && 1 ≤ len && len ≤ 1024
    let seq := bitsOf (ofBytesLE ((bs.drop 4).take 4)) 0 12
    if hOk && bitOf w0 3 then
      if cOk then
        let pl := bs.drop 16
        (none, d.kspLinkRx now n (bitsOf (ofBytesLE (pl.take 4)) 0 12) (bitOf (ofBytesLE (pl.take 4)) 12)
          ((List.range 5).map (fun k => ofBytesLE ((pl.drop (4 + 2 * k)).take 2))))
      else (none, d)
    else if (d.port n).nakOut && hOk && seq != (d.port n).rxNext then (none, d)
    else if !(hOk && cOk && seq == (d.port n).rxNext) then (none, d.kspRxErr now n)
    else
      let vc := bitsOf w0 0 3
      let payload := (bs.drop 16).take len
      let d := d.modPort n (fun p => { p with rxNext := (p.rxNext + 1) % 4096, nakOut := false })
      if !vcTaken (d.port n).partner vc then
        let d := if vc < 5 then d.modPort n (fun p => { p with vcs := tmod p.vcs vc (fun v => { v with rxUnits := (v.rxUnits + creditUnits len) % 65536 }) }) else d
        (none, (d.bump (KSP.RX_DISCARD n)).kspSendLink now n)
      else
        let v : KspVc := tget (d.port n).vcs vc
        let msg := if bitOf w0 4 then payload else (v.partialRx.getD []) ++ payload
        let eom := bitOf w0 5
        let d := d.modPort n (fun p => { p with vcs := tset p.vcs vc { v with
          rxUnits := (v.rxUnits + creditUnits len) % 65536
          heldUnits := if n = 0 && vc == 2 && !d.grid.held.isEmpty then v.heldUnits + creditUnits len else v.heldUnits
          rxBytes := v.rxBytes + len
          partialRx := if eom then none else some msg } })
        let d := d.kspSendLink now n
        if eom then
          (if vcAccepts (d.port n).partner vc (msg.headD 0) then (some (vc, msg), d) else (none, d.bump (KSP.RX_DISCARD n)))
        else (none, d)

/-- The payload rates over the last second (Table 13.12), renewed once a second. -/
def Dev.kspRates (d : Dev) (now n : Nat) : Dev :=
  if (d.port n).secFrom + sec 1 ≤ now then
    let d := d.each (List.range 5) (fun d k =>
      (d.wrU (KSP.TX_MBPS n k) ((tget (d.port n).vcs k).txBytes / 1000000)).wrU (KSP.RX_MBPS n k) ((tget (d.port n).vcs k).rxBytes / 1000000))
    let kb := (tget (d.port 1).vcs 3).txBytes + (tget (d.port 1).vcs 3).rxBytes
    let d := if n = 1 then d.wrU PAIR.MIRROR_KBPS (kb / 1000) else d
    d.modPort n (fun p => { p with secFrom := now, vcs := p.vcs.map (fun x => (x.1, { x.2 with txBytes := 0, rxBytes := 0 })) })
  else d

end Sys2Proof.Machine
end

