-- ==== Sys2Proof/Machine/Geo.lean ====
section
/-! DEFINITION. The implement model (R62 to R84): the geometry of T2, the validation of segment and descriptor changes at
a commit, and the commands of the family. Lengths and matrices are in fixed point of 2^-48 (log entry 5). -/

namespace Sys2Proof.Machine

/-! ### Vectors and rotations in fixed point -/

/-- A product of two fixed-point numbers. -/
def fxMul (a b : Int) : Int := a * b / fxOne

/-- Sine of an angle in units of 2^-16 times 0.01°. -/
def sinA (a : Int) : Int :=
  let m := a % 2359296000
  let q := fun (u : Int) => sinQuarter u 589824000
  if m ≤ 589824000 then q m else if m ≤ 1179648000 then q (1179648000 - m)
  else if m ≤ 1769472000 then -(q (m - 1179648000)) else -(q (2359296000 - m))

/-- Cosine of an angle in units of 2^-16 times 0.01°. -/
def cosA (a : Int) : Int := sinA (a + 589824000)

def Vec3.add (a b : Vec3) : Vec3 := ⟨a.x + b.x, a.y + b.y, a.z + b.z⟩
def Vec3.sub (a b : Vec3) : Vec3 := ⟨a.x - b.x, a.y - b.y, a.z - b.z⟩
def Vec3.dot (a b : Vec3) : Int := fxMul a.x b.x + fxMul a.y b.y + fxMul a.z b.z
def Vec3.scale (k : Int) (a : Vec3) : Vec3 := ⟨k * a.x, k * a.y, k * a.z⟩
/-- The vector with whole-number components. -/
def Vec3.ofInts (x y z : Int) : Vec3 := ⟨x * fxOne, y * fxOne, z * fxOne⟩
/-- The cross product. -/
def Vec3.cross (a b : Vec3) : Vec3 :=
  ⟨fxMul a.y b.z - fxMul a.z b.y, fxMul a.z b.x - fxMul a.x b.z, fxMul a.x b.y - fxMul a.y b.x⟩

/-- The identity rotation. -/
def Mat3.one : Mat3 := ⟨⟨fxOne, 0, 0⟩, ⟨0, fxOne, 0⟩, ⟨0, 0, fxOne⟩⟩
/-- A matrix applied to a vector. -/
def Mat3.app (m : Mat3) (v : Vec3) : Vec3 := ⟨m.r1.dot v, m.r2.dot v, m.r3.dot v⟩
/-- The transpose. -/
def Mat3.tr (m : Mat3) : Mat3 := ⟨⟨m.r1.x, m.r2.x, m.r3.x⟩, ⟨m.r1.y, m.r2.y, m.r3.y⟩, ⟨m.r1.z, m.r2.z, m.r3.z⟩⟩
/-- The product of two matrices. -/
def Mat3.mul (a b : Mat3) : Mat3 :=
  let t := b.tr
  ⟨⟨a.r1.dot t.r1, a.r1.dot t.r2, a.r1.dot t.r3⟩, ⟨a.r2.dot t.r1, a.r2.dot t.r2, a.r2.dot t.r3⟩,
   ⟨a.r3.dot t.r1, a.r3.dot t.r2, a.r3.dot t.r3⟩⟩
/-- Rotation about z by an angle in 2^-16 times 0.01°. -/
def Mat3.rotZ (a : Int) : Mat3 := ⟨⟨cosA a, -(sinA a), 0⟩, ⟨sinA a, cosA a, 0⟩, ⟨0, 0, fxOne⟩⟩
/-- Rotation about y. -/
def Mat3.rotY (a : Int) : Mat3 := ⟨⟨cosA a, 0, sinA a⟩, ⟨0, fxOne, 0⟩, ⟨-(sinA a), 0, cosA a⟩⟩
/-- Rotation about x. -/
def Mat3.rotX (a : Int) : Mat3 := ⟨⟨fxOne, 0, 0⟩, ⟨0, cosA a, -(sinA a)⟩, ⟨0, sinA a, cosA a⟩⟩

/-- Units of 0.01° as 2^-16 times 0.01°. -/
def fineA (c : Int) : Int := c * 65536

/-- Rfold of R81: the identity for FOLD_AXIS 0, and a rotation about x, y or z for 1, 2 or 3. -/
def rFold (axis : Nat) (a : Int) : Mat3 :=
  if axis = 1 then Mat3.rotX a else if axis = 2 then Mat3.rotY a else if axis = 3 then Mat3.rotZ a else Mat3.one

/-- The attitude rotation of R194. -/
def rAtt (hdg : Nat) (pitch roll : Int) : Mat3 :=
  ((Mat3.rotZ (fineA (9000 - hdg))).mul (Mat3.rotY (fineA pitch))).mul (Mat3.rotX (fineA roll))

/-- The identity transform. -/
def Xform.one : Xform := ⟨Mat3.one, {}⟩
/-- A transform applied to a point. -/
def Xform.app (m : Xform) (v : Vec3) : Vec3 := (m.rot.app v).add m.tr

/-- The heading, clockwise from north in 0.01°, of a horizontal vector (east, north) (R65). -/
def headingOf (e n : Int) : Nat := (atan2C e n).toNat

/-! ### Sensors of a segment (R68, R70, R72) -/

/-- Whether FBK channel `ch` delivers samples (R385): it is enabled and not suspect with SUSP_STALE set. -/
def Dev.fbkDelivers (d : Dev) (ch : Nat) : Bool :=
  d.pgEn (0x050000 + 0x1000 * ch) && d.rd (FBK.MODE ch) != 0 && !(d.rdT0 (FBK.SUSPECT ch) == 1 && d.on (FBK.SUSP_STALE ch))

/-- Whether the newest sample of FBK channel `ch` is older than `maxMs` at `at_` (R72): a good word in SSI mode (R387), and
in the counting modes the position of every T0 at which the channel delivers. -/
def Dev.fbkStale (d : Dev) (at_ ch maxMs : Nat) : Bool :=
  let old := fun (t : Option Nat) => match t with | none => true | some t => decide (t + ms maxMs < at_)
  if d.rd (FBK.MODE ch) == 3 && d.fbkDelivers ch then old (tget d.t0Fbk ch).lastGood
  else !d.fbkDelivers ch && old (tget d.fbk ch).sample

/-- Whether the newest accepted sample of SSP port `p` is older than `maxMs` at `at_`. -/
def Dev.sspStale (d : Dev) (ssp : Tab SspPort) (at_ p maxMs : Nat) : Bool :=
  d.rd (SSP.ROLE p) != 3 ||
  match (tget ssp p).lastAt with
  | none => true
  | some _ => decide ((tget ssp p).last.dt + ms maxMs < at_)

/-- STALE_MAX of segment `s` in ms, 0 held at 1. -/
def Dev.segStaleMax (d : Dev) (s : Nat) : Nat := max 1 (d.rd (GEO.STALE_MAX s))

/-- Whether the fold source of segment `s` is stale at `at_` (R72). -/
def Dev.foldStaleAt (d : Dev) (ssp : Tab SspPort) (at_ s : Nat) : Bool :=
  if d.rd (GEO.FOLD_SRC s) = 1 then d.fbkStale at_ (d.rd (GEO.FOLD_FBK s)) (d.segStaleMax s)
  else if d.rd (GEO.FOLD_SRC s) = 2 then d.sspStale ssp at_ (d.rd (GEO.SENS_SSP s)) (d.segStaleMax s)
  else false

/-- Whether the sway source of segment `s` is stale at `at_` (R72). -/
def Dev.swayStaleAt (d : Dev) (ssp : Tab SspPort) (at_ s : Nat) : Bool :=
  d.on (GEO.SWAY_EN s) && d.sspStale ssp at_ (d.rd (GEO.SENS_SSP s)) (d.segStaleMax s)

/-- Sets FOLD_STALE of segment `s` where its fold source is stale and SWAY_STALE where its sway source alone is, with
EVT_GEO_SENSOR_STALE on each change to 1 (R72). -/
def Dev.setSegStale (d : Dev) (now s : Nat) (fold swaySrc : Bool) : Dev :=
  let sway := swaySrc && !fold
  let f0 := d.on (GEO.FOLD_STALE s)
  let w0 := d.on (GEO.SWAY_STALE s)
  let d := (d.wrB (GEO.FOLD_STALE s) fold).wrB (GEO.SWAY_STALE s) sway
  let d := d.when (fold && !f0) (fun d => d.fire now EVT.GEO_SENSOR_STALE s 1)
  d.when (sway && !w0) (fun d => d.fire now EVT.GEO_SENSOR_STALE s 1)

/-- Tilt of an inertial unit about an axis from its accelerometers, in 0.01° (R68, R194): 1 roll, 2 pitch. -/
def tiltOf (axis : Nat) (i : ImuSample) : Int :=
  if axis = 1 then wrapC (atan2C i.ay i.az) else wrapC (atan2C (-i.ax) i.az)

/-- The fold angle of segment `s` in 0.01° (R68) with the filtered angle of an SSP source, in 2^-16 times 0.01°, low-pass
filtered with a time constant of 100 ms, in steps of the tick period (log entry 6). -/
def Dev.foldAngle (d : Dev) (s : Nat) : Int × Option Int :=
  let src := d.rd (GEO.FOLD_SRC s)
  if src = 1 then
    (roundDiv ((toS 32 (d.rdT0 (FBK.POS (d.rd (GEO.FOLD_FBK s)))) - d.rdS (GEO.FOLD_ZERO s)) * d.rdS (GEO.FOLD_GAIN s)) 10000, none)
  else if src = 2 then
    let ax := d.rd (GEO.FOLD_AXIS s)
    if (tget d.t0Ssp (d.rd (GEO.SENS_SSP s))).lastAt.isNone then (d.rdS (GEO.FOLD_ACT s), none) else
    let veh := if ax = 1 then d.pose.pose.roll else d.pose.pose.pitch
    let x := fineA (wrapC (tiltOf ax (tget d.t0Ssp (d.rd (GEO.SENS_SSP s))).last - veh))
    let y := match tget? d.geo.tilt s with
      | none => x
      | some y => y + (x - y) * (min d.sys.period 40000000 : Nat) / 40000000
    (roundDiv y 65536, some y)
  else (d.rdS (GEO.FOLD_FIXED s), none)

/-! ### T2 (R81) -/

/-- What a pass over the segments carries: the block, the transforms so far, and each segment's own sway rate in µrad/s. -/
structure SegPass where
  d : Dev
  segs : Tab SegGeo
  rates : Tab Int

/-- An angular rate in µrad/s over the tick period as an angle in 2^-16 times 0.01°. -/
def rateToAngle (w : Int) (period : Nat) : Int :=
  w * period * 18000 * 65536 * fxOne / (fxPi * 400000000000000)

/-- An angle in 2^-16 times 0.01° over the tick period as a rate in µrad/s. -/
def angleToRate (a : Int) (period : Nat) : Int :=
  if period = 0 then 0 else a * fxPi * 400000000000000 / (period * 18000 * 65536 * fxOne)

/-- One segment of T2 (R69, R70, R81), for the tick edge `edge`. A fold angle beyond signed 16 bits is saturated (log entry
113). -/
def Dev.t2Seg (edge : Nat) (p : SegPass) (s : Nat) : SegPass :=
  let d := p.d
  if !d.on (GEO.SEG_EN s) then p
  else
    let par := d.rd (GEO.PARENT s)
    let pg : SegGeo := tget p.segs par
    let mPar := if par = 15 then Xform.one else pg.xf
    let okPar := par = 15 || pg.ok
    let foldStale := d.foldStaleAt d.t0Ssp edge s
    let swayStale := d.swayStaleAt d.t0Ssp edge s
    let d := d.setSegStale edge s foldStale swayStale
    let fa := d.foldAngle s
    let fold := clampS 16 fa.1
    let d := match fa.2 with
      | some y => { d with geo := { d.geo with tilt := tset d.geo.tilt s y } }
      | none => d
    let working := decide (d.rdS (GEO.WORK_MIN s) ≤ fold) && decide (fold ≤ d.rdS (GEO.WORK_MAX s))
    let bad := !working || foldStale
    let was := bitOf d.geo.notWorking s
    let d := { d with geo := { d.geo with notWorking := setBitOf d.geo.notWorking s bad } }
    let d := d.when (bad && !was) (fun d => d.fire edge EVT.GEO_NOT_WORKING s 0)
    -- sway (R70)
    let psi0 : Int := (tget? d.geo.psi s).getD 0
    let wImu := (tget d.t0Ssp (d.rd (GEO.SENS_SSP s))).last.gz
    let wPar := 100 * d.pose.pose.ozv + (if par = 15 then 0 else (tget? p.rates par).getD 0)
    let tau := d.rd (GEO.SWAY_TAU s)
    let leak := if tau = 0 then 0 else psi0 * d.sys.period / (ms tau : Nat)
    let psi1 := psi0 - leak + rateToAngle (wImu - wPar) d.sys.period
    let lim := fineA (d.rd (GEO.SWAY_MAX s))
    let clamp := decide (lim < psi1 ∨ psi1 < -lim)
    let psi := if !d.on (GEO.SWAY_EN s) then 0 else if swayStale then psi0
      else if lim < psi1 then lim else if psi1 < -lim then -lim else psi1
    let doSway := d.on (GEO.SWAY_EN s) && !swayStale
    let clampWas := d.on (GEO.SWAY_CLAMP s)
    let d := if doSway then d.wrB (GEO.SWAY_CLAMP s) clamp
      else if !d.on (GEO.SWAY_EN s) then d.wrB (GEO.SWAY_CLAMP s) false else d
    let d := d.when (doSway && clamp && !clampWas) (fun d => d.fire edge EVT.GEO_SWAY_CLAMP s 1)
    let d := { d with geo := { d.geo with psi := tset d.geo.psi s psi } }
    let d := (d.wrB (GEO.WORKING s) working).wrS (GEO.FOLD_ACT s) fold |>.wrS (GEO.SWAY_ACT s) (roundDiv psi 65536)
    -- the transform
    let rot := (((Mat3.rotZ (fineA (d.rdS (GEO.YAW0 s)))).mul (Mat3.rotY (fineA (d.rdS (GEO.PITCH0 s))))).mul
      (Mat3.rotX (fineA (d.rdS (GEO.ROLL0 s))))).mul (rFold (d.rd (GEO.FOLD_AXIS s)) (fineA fold))
    let mount := Vec3.ofInts (d.rdS (GEO.MOUNT_X s)) (d.rdS (GEO.MOUNT_Y s)) (d.rdS (GEO.MOUNT_Z s))
    let sg : SegGeo := { xf := ⟨mPar.rot.mul rot, mPar.app mount⟩, ok := okPar && working && !foldStale, psi := psi }
    { d := d, segs := tset p.segs s sg,
      rates := tset p.rates s (angleToRate (psi - psi0) d.sys.period) }

/-- The sway angle of a point (R71), in 2^-16 times 0.01°. -/
def Dev.pointSway (d : Dev) (s : Nat) (psi ofsY : Int) : Int :=
  if d.on (GEO.SHAPE s) then
    (if d.rd (GEO.IMU_DIST s) = 0 then 0 else psi * ofsY.natAbs / (d.rd (GEO.IMU_DIST s) : Nat))
  else psi

/-- The vehicle-frame position of an offset (mm) from point `n`'s segment frame, and the direction of its segment's x
axis, for a segment as a T2 left it (R81). -/
def Dev.segPoint (d : Dev) (g : SegGeo) (s : Nat) (ox oy oz : Int) : Vec3 × Vec3 :=
  let r := g.xf.rot.mul (Mat3.rotZ (d.pointSway s g.psi oy))
  ((r.app (Vec3.ofInts ox oy oz)).add g.xf.tr, r.app (Vec3.ofInts 1 0 0))

/-- The vehicle-frame position of point `n`. -/
def Dev.pointVeh (d : Dev) (g : SegGeo) (n : Nat) : Vec3 × Vec3 :=
  d.segPoint g (d.rd (PD.SEG n)) (d.rdS (PD.OFS_X n)) (d.rdS (PD.OFS_Y n)) (d.rdS (PD.OFS_Z n))

/-- One bound point of T2 (R81). A position beyond signed 32 bits is saturated (log entry 113). -/
def Dev.t2Point (d : Dev) (segs : Tab SegGeo) (n : Nat) : PtGeo :=
  let p := d.pose.pose
  let g : SegGeo := tget segs (d.rd (PD.SEG n))
  let pf := d.pointVeh g n
  let pv := pf.1
  let prev := if d.geo.renewed.contains n then pv else ((tget? d.geo.pts n).map (·.pv)).getD pv
  let r := rAtt p.hdg p.pitch p.roll
  let rel := pv.sub prev
  let relV : Vec3 := if d.sys.period = 0 then {} else
    ⟨rel.x * 400000000 / d.sys.period, rel.y * 400000000 / d.sys.period, rel.z * 400000000 / d.sys.period⟩
  let om : Vec3 := ⟨p.ox * fxOne / 10000, p.oy * fxOne / 10000, p.oz * fxOne / 10000⟩
  let v := (Vec3.ofInts p.ve p.vn p.vu).add (r.app ((om.cross pv).add relV))
  let pos := (Vec3.ofInts p.x p.y p.z).add (r.app pv)
  let ve := v.x / 4294967296
  let vn := v.y / 4294967296
  let spd := (isqrtNear ((ve * ve + vn * vn) / 65536).toNat + 128) / 256
  let f := r.app pf.2
  let str := headingOf f.x f.y
  let fast := decide (100 ≤ spd)
  { x := clampS 32 (fxRound pos.x), y := clampS 32 (fxRound pos.y), z := clampS 32 (fxRound pos.z),
    ve := fxRound v.x, vn := fxRound v.y, spd := spd,
    trHdg := if fast then headingOf v.x v.y else str, strHdg := str,
    rev := fast && decide (ve * f.x + vn * f.y < 0), valid := g.ok, pv := pv }

/-- T2 of the tick whose edge lies at `edge` (R80, R81): segments, then bound points, then the frame for later look-ups. -/
def Dev.runT2 (d : Dev) (edge tick : Nat) : Dev :=
  let p := (List.range 8).foldl (Dev.t2Seg edge) { d := d, segs := [], rates := [] }
  let d := p.d
  let pts := d.validPts.map (fun n => (n, d.t2Point p.segs n))
  let fr : GeoFrame := { dt := edge, segs := p.segs, valid := (pts.filter (fun x => x.2.valid)).map (·.1) }
  let frames := fr :: d.geo.frames.filter (fun g => decide (edge ≤ g.dt + sec 4))
  { d with geo := { d.geo with pts := pts, tick := tick, renewed := [], frames := frames } }

/-! ### Validation at a commit (R73, R75) -/

/-- First and end address of the configuration words of segment `s`. -/
def segLo (s : Nat) : Nat := 0x010040 + 0x1000 * s
/-- End of the configuration words of segment `s`. -/
def segHi (s : Nat) : Nat := 0x01006C + 0x1000 * s

/-- Whether an active or pending clear of SEG_EN is in `adm` for segment `s`. -/
def Dev.segCleared (d : Dev) (adm : KMap) (s : Nat) : Bool := d.on (GEO.SEG_EN s) && !d.candOn adm (GEO.SEG_EN s)

/-- The refusal code of a pending segment configuration, codes 1 to 4 and 6 of Table 02.2, the lowest that applies;
`adm` holds what the pass has left so far. -/
def Dev.segCode (d : Dev) (adm : KMap) (s : Nat) : Nat :=
  let en := d.candOn adm (GEO.SEG_EN s)
  let par := d.cand adm (GEO.PARENT s)
  if en && !(par = 15 || (decide (par < s) && d.candOn adm (GEO.SEG_EN par))) then 1
  else if d.segCleared adm s &&
    (List.range 8).any (fun c => decide (s < c) && d.candOn adm (GEO.SEG_EN c) && d.cand adm (GEO.PARENT c) == s) then 1
  else if d.cand adm (GEO.FOLD_SRC s) = 3 || (d.cand adm (GEO.FOLD_SRC s) = 2 &&
    (d.cand adm (GEO.FOLD_AXIS s) = 0 || d.cand adm (GEO.FOLD_AXIS s) = 3)) then 2
  else if d.candOn adm (GEO.SHAPE s) && d.cand adm (GEO.IMU_DIST s) = 0 then 3
  else if d.candS adm (GEO.WORK_MAX s) < d.candS adm (GEO.WORK_MIN s) then 4
  else if (d.cand adm (GEO.FOLD_SRC s) = 2 || d.candOn adm (GEO.SWAY_EN s)) &&
    d.cand adm (SSP.ROLE (d.cand adm (GEO.SENS_SSP s))) != 3 then 6
  else 0

/-- Refuses the pending configuration of segment `s` (R73): it stays readable but awaits nothing. -/
def segRefuse (acc : KMap × Tab Nat) (s code : Nat) : KMap × Tab Nat :=
  (admDrop acc.1 (segLo s) (segHi s), tset acc.2 s code)

/-- Step 1 of R75: what the pass leaves admitted, and the code of each judged segment. -/
def Dev.segStep1 (d : Dev) (adm : KMap) : KMap × Tab Nat :=
  (List.range 8).foldl (fun acc s =>
    if admHas adm (segLo s) (segHi s) then
      (if d.segCode acc.1 s = 0 then (acc.1, tset acc.2 s 0) else segRefuse acc s (d.segCode acc.1 s))
    else acc) (adm, [])

/-- The channel a point is bound to, as a commit would leave it: kind, channel or bus, node, node point (R75). -/
def Dev.bindKey (d : Dev) (adm : KMap) (n : Nat) : Option (Nat × Nat × Nat × Nat) :=
  let k := d.cand adm (PD.BIND_KIND n)
  if k = 0 then none
  else if k = 3 then some (3, d.cand adm (PD.BUS n), d.cand adm (PD.NODE n), d.cand adm (PD.NODE_PT n))
  else some (k, d.cand adm (PD.LOCAL_CH n), 0, 0)

/-- Whether controller CANn runs the Velest Node Protocol (R395, R459). -/
def Dev.canVnp (d : Dev) (n : Nat) : Bool :=
  d.rd (CAN.PROTO n) == 2 && d.pgEn (0x060000 + 0x1000 * n) && d.pwr.mode != .plain

/-- Whether `adm` changes VALID or the word at 0x04 of point `n` (R77, R78). -/
def Dev.bindChanged (d : Dev) (adm : KMap) (n : Nat) : Bool :=
  ([PD.VALID n, PD.BIND_KIND n, PD.LOCAL_CH n, PD.BUS n, PD.NODE n, PD.NODE_PT n]).any (fun f => d.cand adm f != d.rd f)

/-- The refusal code of a pending descriptor (Table 02.4), the lowest that applies. `acc` holds the descriptors as the
pass leaves them so far with later ones at their active values; `new` the pending descriptor added. The role of a switch (code 4) and
the protocol of a controller (code 5) are those in force before the commit (log entry 114). -/
def Dev.ptCode (d : Dev) (acc new : KMap) (n : Nat) : Nat :=
  let v := d.candOn new (PD.VALID n)
  let k := d.cand new (PD.BIND_KIND n)
  let others := (d.candPts acc).filter (· != n)
  if v && !d.candOn new (GEO.SEG_EN (d.cand new (PD.SEG n))) then 1
  else if v && k != 0 && others.any (fun m => d.bindKey acc m == d.bindKey new n) then 2
  else if v && k = 2 && 15 < d.cand new (PD.LOCAL_CH n) then 3
  else if v && k = 2 && d.rd (LSW.ROLE (d.cand new (PD.LOCAL_CH n))) != 0 then 4
  else if v && k = 3 && !d.canVnp (2 + d.cand new (PD.BUS n)) then 5
  else if v && !d.candOn new (RATE.PROD_EN (d.cand new (PD.PRODUCT n))) then 6
  else if v && d.cand new (PD.FOOT_W n) < 10 then 7
  else if v && !d.on (PD.VALID n) && ptsGuaranteed (d.rd SYS.TICK_RATE_ACT) < others.length + 1 then 8
  else if d.on CNT.BIND_LOCK && d.bindChanged new n then 9
  else 0

/-- First and end address of the descriptor of point `n`. -/
def ptLo (n : Nat) : Nat := 0x020000 + 0x40 * n

/-- Step 3 of R75 over the pending descriptors in rising index: what is left admitted, and the refusals in order. -/
def Dev.ptStep3 (d : Dev) (adm : KMap) : KMap × List (Nat × Nat) :=
  let base := admDrop adm 0x020000 0x030000
  (admPts adm).foldl (fun acc n =>
    let mine := adm.filter (fun x => 32 * ptLo n ≤ x.1 && x.1 < 32 * (ptLo n + 0x40))
    let new := mine.foldl (fun m x => tset m x.1 x.2) acc.1
    let code := d.ptCode acc.1 new n
    if code = 0 then (new, acc.2) else (acc.1, acc.2 ++ [(n, code)])) (base, [])

/-- Steps 4 and 5 of R75 for segments: code 5 where accepted points stay bound, then code 1 until no clear is left whose
child stays enabled. -/
def Dev.segStep45 (d : Dev) (acc : KMap × Tab Nat) : KMap × Tab Nat :=
  let pts := d.candPts acc.1
  let acc := (List.range 8).foldl (fun a s =>
    if tget? a.2 s == some 0 && d.segCleared a.1 s && pts.any (fun n => d.cand a.1 (PD.SEG n) == s) then segRefuse a s 5 else a) acc
  (List.range 8).foldl (fun a _ =>
    (List.range 8).foldl (fun a s =>
      if tget? a.2 s == some 0 && d.segCleared a.1 s &&
        (List.range 8).any (fun c => d.candOn a.1 (GEO.SEG_EN c) && d.cand a.1 (GEO.PARENT c) == s) then segRefuse a s 1 else a) a) acc

/-- Reports the outcome of the validation on the GEO pages (R73, R75). -/
def Dev.geoReport (d : Dev) (now : Nat) (codes : Tab Nat) (refused : List (Nat × Nat)) : Dev :=
  let d := d.each codes (fun d x =>
    (d.wr (GEO.CFG_ERR x.1) x.2).when (x.2 != 0) (fun d => d.fire now EVT.GEO_SEG_REFUSED x.1 x.2))
  d.each refused (fun d x =>
    (((d.wr GEOP.ERR_PT x.1).wr GEOP.ERR_CODE x.2).bump GEOP.ERR_COUNT).fire now EVT.GEO_BIND_REFUSED x.1 x.2)

/-- SEG_ACTIVE and PT_COUNT after a commit (Table 02.6), and the points that a commit made new (R78). -/
def Dev.geoAfterCommit (d : Dev) (renewed : List Nat) : Dev :=
  let pts := d.validPts
  let d := d.each (List.range 8) (fun d s =>
    (d.wr (GEO.SEG_ACTIVE s) (d.rd (GEO.SEG_EN s))).wr (GEO.PT_COUNT s) (pts.filter (fun n => d.rd (PD.SEG n) == s)).length)
  let d := d.wr SYS.PTS_BOUND pts.length
  let nw := (List.range 8).foldl (fun m s => if d.on (GEO.SEG_EN s) then m else setBitOf m s false) d.geo.notWorking
  { d with geo := { d.geo with renewed := d.geo.renewed ++ renewed, notWorking := nw } }

/-! ### Commands -/

/-- PT_IDX written (R84): the readback words hold the point's outputs of the last completed T2. -/
def Dev.ptIdxWrite (d : Dev) (n : Nat) : Dev :=
  let p : PtGeo := tget d.geo.pts n
  let d := d.wr GEOP.PT_IDX n
  let d := ((d.wrS GEOP.PT_X p.x).wrS GEOP.PT_Y p.y).wrS GEOP.PT_Z p.z
  let d := (d.wrS GEOP.PT_VE p.ve).wrS GEOP.PT_VN p.vn
  let d := (d.wr GEOP.TRAVEL_HDG p.trHdg).wr GEOP.STR_HDG p.strHdg
  let d := ((d.wrU GEOP.PT_SPD p.spd).wrB GEOP.REVERSE p.rev).wrB GEOP.GEO_VALID p.valid
  d.wr GEOP.PT_TICK (d.geo.tick % 2 ^ 32)

/-- PT_IDX_SNAPSHOT, R84. -/
def execPtIdxSnapshot (el : Nat) (n : BitVec 10) (s : State) : Host.Outcome State Fault Refusal :=
  s.run el (fun _ d => if d.hif.inService then d.ptIdxWrite n.toNat else d)

/-- The newest tick edge at `now`. -/
def Dev.lastEdge (d : Dev) (now : Nat) : Nat := if d.edgePassed now then d.nextEdge else d.edgeOf (d.sys.nextN - 1)

/-- The staleness of one segment's sensors at the newest T0 (R72). -/
def Dev.segStaleCheck (d : Dev) (now s : Nat) : Dev :=
  if d.on (GEO.SEG_EN s) then
    let e := d.lastEdge now
    d.setSegStale now s (d.foldStaleAt d.t0Ssp e s) (d.swayStaleAt d.t0Ssp e s)
  else d

/-- SEGMENT_SENSOR_STALE, R72: the newest sample of a segment's sensor has passed STALE_MAX. -/
def execSegmentSensorStale (el : Nat) (seg : Fin 8) (s : State) : Host.Outcome State Fault Refusal :=
  s.run el (fun now d => if d.ticking then d.segStaleCheck now seg.val else d)

end Sys2Proof.Machine
end

