-- ==== Sys2Proof/Machine/PoseHist.lean ====
section
/-! DEFINITION. The pose history (R217 to R219): entries newest first, and the one query function that COV, GRID and the
filter share. -/

namespace Sys2Proof.Machine

/-- Outcomes of a history query (R218). -/
inductive PoseQuery where
  | notYet
  | outOfHistory
  | found (e : PoseEntry)
  deriving DecidableEq, Repr, Inhabited

/-- Linear interpolation between `a` at time 0 and `b` at time `span`, at time `t`. -/
def lerp (a b : Int) (t span : Nat) : Int := if span = 0 then a else a + roundDiv ((b - a) * t) span

/-- Interpolation of an angle in 0.01° along the shorter difference. -/
def lerpAng (a b : Int) (t span : Nat) : Int := a + (if span = 0 then 0 else roundDiv (wrapC (b - a) * t) span)

/-- The entry at DT `t` between entry `a` before it and entry `b` after it (R218); `period` is the tick period. -/
def interpolate (a b : PoseEntry) (t period : Nat) : PoseEntry :=
  let k := t - a.dt
  let n := b.dt - a.dt
  let l := fun (x y : Int) => lerp x y k n
  let u := fun (x y : Nat) => (lerp x y k n).toNat
  { dt := t, tick := a.tick,
    x := l a.x b.x, y := l a.y b.y, z := l a.z b.z, ve := l a.ve b.ve, vn := l a.vn b.vn, vu := l a.vu b.vu,
    spd := u a.spd b.spd, hdg := (lerpAng a.hdg b.hdg k n % 36000).toNat, roll := wrapC (lerpAng a.roll b.roll k n),
    pitch := wrapC (lerpAng a.pitch b.pitch k n), ox := l a.ox b.ox, oy := l a.oy b.oy, oz := l a.oz b.oz,
    ozv := l a.ozv b.ozv, sigE := u a.sigE b.sigE, sigN := u a.sigN b.sigN, sigU := u a.sigU b.sigU,
    sigHdg := u a.sigHdg b.sigHdg, sigVh := u a.sigVh b.sigVh, cls := min a.cls b.cls, step := a.step || b.step,
    kin := a.kin || b.kin, gnssExcl := a.gnssExcl || b.gnssExcl, odoExcl := a.odoExcl || b.odoExcl,
    gap := a.gap || b.gap || decide (2 * period < n), bad := false }

/-- The two entries on either side of `t`, from entries newest first. -/
def bracket (t : Nat) : List PoseEntry → Option (PoseEntry × PoseEntry)
  | b :: a :: rest => if a.dt ≤ t then some (a, b) else bracket t (a :: rest)
  | _ => none

/-- A query of the history at DT `t` (R218). -/
def Dev.poseAt (d : Dev) (t : Nat) : PoseQuery :=
  match d.pose.hist with
  | [] => .outOfHistory
  | n :: rest =>
    if n.dt < t then .notYet
    else if t = n.dt then .found n
    else if t + sec 4 < n.dt then .outOfHistory
    else match bracket t (n :: rest) with
    | none => .outOfHistory
    | some (a, b) => if a.dt + sec 4 < n.dt then .outOfHistory else .found (interpolate a b t d.sys.period)

/-- The pose at `t`, where the history has it. -/
def Dev.pose? (d : Dev) (t : Nat) : Option PoseEntry :=
  match d.poseAt t with
  | .found e => some e
  | _ => none

/-- The completed T2 nearest to DT `t` (R101, R102). -/
def Dev.frameAt (d : Dev) (t : Nat) : Option GeoFrame :=
  d.geo.frames.foldl (fun best f =>
    match best with
    | none => some f
    | some b => if (if f.dt ≤ t then t - f.dt else f.dt - t) < (if b.dt ≤ t then t - b.dt else b.dt - t) then some f else best) none

/-- The words of a history entry (Table 06.9), with its CHK. -/
def PoseEntry.wordsAt (e : PoseEntry) (ns : Nat) : List Nat :=
  let w : List Nat :=
    [ns % 2 ^ 32, ns / 2 ^ 32, satS 32 e.x, satS 32 e.y, satS 32 e.z, satS 16 e.ve + 2 ^ 16 * satS 16 e.vn,
     satS 16 e.vu + 2 ^ 16 * min 65535 e.spd, e.hdg + 2 ^ 16 * satS 16 e.roll,
     satS 16 e.pitch + 2 ^ 16 * e.cls + 2 ^ 19 * b2n e.step + 2 ^ 20 * b2n e.kin + 2 ^ 21 * b2n e.gnssExcl + 2 ^ 22 * b2n e.odoExcl +
       2 ^ 23 * b2n e.gap,
     satS 16 e.ox + 2 ^ 16 * satS 16 e.oy, satS 16 e.ozv + 2 ^ 16 * min 65535 e.sigE, min 65535 e.sigN + 2 ^ 16 * min 65535 e.sigHdg,
     e.tick % 2 ^ 32, 0, 0]
  w ++ [crc16 (wordsToBytes w)]

/-- The words of a history entry in device time (Table 06.9). -/
def PoseEntry.words (e : PoseEntry) : List Nat := e.wordsAt (nsOf e.dt)

end Sys2Proof.Machine
end

