-- ==== Sys2Proof/Machine/Tiles.lean ====
section
/-! DEFINITION. Tiles of the coverage and prescription rasters (R85 to R90): addressing, cells, run-length code and
messages (R126, R130), and the rasterising of footprints and of their sweeps (R103). -/

namespace Sys2Proof.Machine

/-! ### Addressing (R85, R87, R89) -/

/-- Cell edge C in mm of a CELL_SIZE code (Table 03.1). -/
def cellEdge (code : Nat) : Nat := if code = 0 then 20 else if code = 1 then 50 else if code = 2 then 100 else 200

/-- Cell edge of a layer: 0 coverage at the cell size in force, 1 to 8 prescription (R90). -/
def Dev.layerEdge (d : Dev) (layer : Nat) : Nat := if layer = 0 then cellEdge (d.rd COV.CELL_SIZE_ACT) else 1000

/-- Cells of one tile. -/
def tileCells : Nat := 65536

/-- Tile and nibble index of cell (cx, cy) (R87, R88). -/
def tileOf (cx cy : Int) : Int × Int × Nat :=
  (cx / 256, cy / 256, (256 * (cy % 256) + cx % 256).toNat)

/-- Whether a tile lies in the addressable area (R89). -/
def tileInRange (tx ty : Int) : Bool :=
  decide (-32768 ≤ tx) && decide (tx ≤ 32767) && decide (-32768 ≤ ty) && decide (ty ≤ 32767)

/-! ### Cells of a slot (R86, R88) -/

/-- The cell `k` of a slot: a nibble of coverage or a byte of prescription. -/
def Slot.cell (s : Slot) (k : Nat) : Nat := (tget? s.cells k).getD s.fill

/-- The slot with cell `k` set. -/
def Slot.setCell (s : Slot) (k v : Nat) : Slot := { s with cells := kput s.fill s.cells k v }

/-- One more application in a cell: COUNT + 1, saturating at 3; EXCL and HEAD stay (R86, R104). -/
def paintNibble (v : Nat) : Nat := v / 4 * 4 + min 3 (v % 4 + 1)

/-- The merge of a store's cell and a provisional one (R121). -/
def mergeNibble (store prov : Nat) : Nat := store / 4 * 4 + min 3 (store % 4 + prov % 4)

/-- The maximal runs (value, length) of a tile from sorted cells over a fill value, from cell `i` up to `n`. -/
def runsFrom (fill n : Nat) : Nat → KMap → List (Nat × Nat)
  | i, [] => if i < n then [(fill, n - i)] else []
  | i, (k, v) :: t => (if i < k then [(fill, k - i)] else []) ++ (v, 1) :: runsFrom fill n (k + 1) t

/-- Joins neighbouring runs of one value. -/
def joinRuns : List (Nat × Nat) → List (Nat × Nat)
  | [] => []
  | (v, n) :: t =>
    match joinRuns t with
    | (w, m) :: r => if v = w then (v, n + m) :: r else (v, n) :: (w, m) :: r
    | [] => [(v, n)]

/-- The runs of a slot's content. -/
def Slot.runs (s : Slot) : List (Nat × Nat) := joinRuns (runsFrom s.fill tileCells 0 s.cells)

/-- The values of a run list. -/
def expandRuns (rs : List (Nat × Nat)) : List Nat := rs.flatMap (fun r => List.replicate r.2 r.1)

/-- Two nibbles to a byte, the even one low (R88). -/
def packNibbles : List Nat → List Nat
  | [] => []
  | [a] => [a % 16]
  | a :: b :: t => (a % 16 + 16 * (b % 16)) :: packNibbles t

/-- The nibbles of bytes, low nibble first. -/
def unpackNibbles (bs : List Nat) : List Nat := bs.flatMap (fun b => [b % 16, b / 16 % 16])

/-- The runs of a list of values. -/
def runsOf (vs : List Nat) : List (Nat × Nat) := joinRuns (vs.map (fun v => (v, 1)))

/-- The stored bytes of a slot's content: 32,768 for coverage (R88), 65,536 for prescription (R90). -/
def Slot.bytes (s : Slot) : List Nat :=
  if s.layer = 0 then packNibbles (expandRuns s.runs) else expandRuns s.runs

/-- TILE_CRC of a slot's content (Table 03.10). -/
def Slot.crc (s : Slot) : Nat := crc32 s.bytes

/-- The sparse cells of a run list over a fill value, from cell `i`. -/
def cellsOfRuns (fill : Nat) : Nat → List (Nat × Nat) → KMap
  | _, [] => []
  | i, (v, n) :: t =>
    (if v = fill then [] else (List.range n).map (fun k => (i + k, v))) ++ cellsOfRuns fill (i + n) t

/-! ### The run-length code (R130, Table 03.12) -/

/-- The tokens of one run, at most 65,536 cells of nibble `v`: a short run up to 14, a long run from 15. -/
def rleToken (v n : Nat) : List Nat :=
  if n ≤ 14 then [16 * v + n] else [16 * v + 15, (n - 1) % 256, (n - 1) / 256]

/-- The code of a run list: this device's encoder uses run tokens only (log entry 8). -/
def rleEncode (rs : List (Nat × Nat)) : List Nat := rs.flatMap (fun r => rleToken r.1 r.2)

/-- Decodes tokens to runs; `fuel` bounds their number; none where a token is cut short or malformed. -/
def rleDecodeN : Nat → List Nat → Option (List (Nat × Nat))
  | _, [] => some []
  | 0, _ :: _ => none
  | fuel + 1, b :: rest =>
    let lo := b % 16
    let hi := b / 16
    if lo = 15 then
      match rest with
      | l :: h :: rest' => (rleDecodeN fuel rest').map (fun rs => (hi, l + 256 * h + 1) :: rs)
      | _ => none
    else if lo = 0 then
      match rest with
      | c :: rest' =>
        let n := c + 1
        let nb := (n + 1) / 2
        if hi = 0 && decide (nb ≤ rest'.length) then
          (rleDecodeN fuel (rest'.drop nb)).map (fun rs => ((unpackNibbles (rest'.take nb)).take n).map (fun v => (v, 1)) ++ rs)
        else none
      | [] => none
    else (rleDecodeN fuel rest).map (fun rs => (hi, lo) :: rs)

/-- Decodes a coded payload to exactly one tile of runs (R127, R128). -/
def rleDecode (bs : List Nat) : Option (List (Nat × Nat)) :=
  match rleDecodeN bs.length bs with
  | none => none
  | some rs => if (rs.map (·.2)).sum = tileCells then some (joinRuns rs) else none

/-- The runs of a message's content: coded or raw coverage, or raw prescription bytes (R130). -/
def contentRuns (layer : Nat) (comp : Bool) (bs : List Nat) : Option (List (Nat × Nat)) :=
  if layer = 0 then
    (if comp then rleDecode bs else if bs.length = 32768 then some (runsOf (unpackNibbles bs)) else none)
  else if comp then none
  else if bs.length = 65536 then some (runsOf bs) else none

/-- The uncompressed bytes of a run list of a layer. -/
def runBytes (layer : Nat) (rs : List (Nat × Nat)) : List Nat :=
  if layer = 0 then packNibbles (expandRuns rs) else expandRuns rs

/-- A tile message's bytes (Table 03.10). -/
def tileMsgBytes (type layer flags : Nat) (tx ty : Int) (field gen tag crc : Nat) (payload : List Nat) : List Nat :=
  wordsToBytes [type + 2 ^ 8 * layer + 2 ^ 16 * flags, ofS 16 tx + 2 ^ 16 * ofS 16 ty, field, gen + 2 ^ 16 * tag, crc, payload.length] ++
  payload

/-! ### Footprints and sweeps (R103) -/

/-- A footprint rectangle: centre in mm, heading in 0.01°, length along the heading and width across it, mm. -/
structure Foot where
  x : Int
  y : Int
  hdg : Nat
  w : Nat
  l : Nat
  deriving DecidableEq, Repr, Inhabited

/-- A corner of a rectangle in fixed point: `su` and `sv` select the sides along and across the heading. -/
def Foot.corner (f : Foot) (su sv : Int) : Int × Int :=
  let s := sinC f.hdg
  let c := cosC f.hdg
  (f.x * fxOne + (su * f.l * s - sv * f.w * c) / 2, f.y * fxOne + (su * f.l * c + sv * f.w * s) / 2)

/-- The corners, counter-clockwise, of the area that a rectangle sweeps in moving by (dx, dy) mm. -/
def sweepCorners (f : Foot) (dx dy : Int) : List (Int × Int) :=
  let s := sinC f.hdg
  let c := cosC f.hdg
  let du := dx * s + dy * c
  let dv := dy * s - dx * c
  let g : Foot := { f with x := f.x + dx, y := f.y + dy }
  if 0 ≤ du ∧ 0 ≤ dv then
    [f.corner (-1) (-1), f.corner 1 (-1), g.corner 1 (-1), g.corner 1 1, g.corner (-1) 1, f.corner (-1) 1]
  else if du < 0 ∧ 0 ≤ dv then
    [f.corner 1 (-1), f.corner 1 1, g.corner 1 1, g.corner (-1) 1, g.corner (-1) (-1), f.corner (-1) (-1)]
  else if du < 0 ∧ dv < 0 then
    [f.corner 1 1, f.corner (-1) 1, g.corner (-1) 1, g.corner (-1) (-1), g.corner 1 (-1), f.corner 1 (-1)]
  else
    [f.corner (-1) 1, f.corner (-1) (-1), g.corner (-1) (-1), g.corner 1 (-1), g.corner 1 1, f.corner 1 1]

/-- Whether point `q` lies inside the edge from `a` to `b` of a counter-clockwise area, with the rule of R103 for a point
exactly on it: inside where the outward normal points west, or due south. -/
def insideEdge (q a b : Int × Int) : Bool :=
  let dx := b.1 - a.1
  let dy := b.2 - a.2
  let cr := dx * (q.2 - a.2) - dy * (q.1 - a.1)
  if dx = 0 ∧ dy = 0 then true
  else if cr = 0 then decide (dy < 0) || (decide (dy = 0) && decide (0 < dx))
  else decide (0 < cr)

/-- Whether a point lies inside a counter-clockwise area. -/
def insideArea (q : Int × Int) (cs : List (Int × Int)) : Bool :=
  ((cs.zip (cs.tail ++ cs.take 1))).all (fun e => insideEdge q e.1 e.2)

/-- The cells of edge `c` (mm) whose centres lie inside an area (R103). -/
def cellsIn (c : Nat) (cs : List (Int × Int)) : List (Int × Int) :=
  let xs := cs.map (fun p => p.1 / fxOne)
  let ys := cs.map (fun p => p.2 / fxOne)
  let lo := fun (l : List Int) => l.foldl min (l.headD 0) / (c : Int)
  let hi := fun (l : List Int) => (l.foldl max (l.headD 0) + 1) / (c : Int)
  let n := (hi xs - lo xs + 1).toNat
  let m := (hi ys - lo ys + 1).toNat
  ((List.range m).flatMap (fun (j : Nat) => (List.range n).map (fun (i : Nat) => (lo xs + (i : Int), lo ys + (j : Int))))).filter
    (fun p => insideArea ((p.1 * c * 2 + c) * fxOne / 2, (p.2 * c * 2 + c) * fxOne / 2) cs)

/-- The footprint at least C long (R103). -/
def Foot.atLeast (f : Foot) (c : Nat) : Foot := { f with l := max f.l c }

/-- The cells of a sweep from `f` by (dx, dy): all of them for a new stroke, and those outside the footprint at the start
for one that goes on (R104). -/
def sweepCells (c : Nat) (f : Foot) (dx dy : Int) (cont : Bool) : List (Int × Int) :=
  let f := f.atLeast c
  let all := cellsIn c (sweepCorners f dx dy)
  if cont then
    let start := sweepCorners f 0 0
    all.filter (fun p => !insideArea ((p.1 * c * 2 + c) * fxOne / 2, (p.2 * c * 2 + c) * fxOne / 2) start)
  else all

/-- The cells of a query's rectangle, with a minimum of one cell (R106). -/
def footCells (c : Nat) (f : Foot) : List (Int × Int) :=
  match cellsIn c (sweepCorners (f.atLeast c) 0 0) with
  | [] => [(f.x / (c : Int), f.y / (c : Int))]
  | l => l

end Sys2Proof.Machine
end

