-- ==== Sys2Proof/Machine/Tpl.lean ====
section
/-! DEFINITION. Tile placement (R108 to R130): slots, the store and its messages, prefetch, eviction, writeback, pins, the
paint journal's replay, and the commands of the family. -/

namespace Sys2Proof.Machine

/-! ### Slots -/

/-- Slot `i`; an absent entry is FREE. -/
def Dev.slot (d : Dev) (i : Nat) : Slot := tget d.tpl.slots i

/-- Sets slot `i`; a FREE slot leaves no entry. -/
def Dev.setSlot (d : Dev) (i : Nat) (s : Slot) : Dev :=
  { d with tpl := { d.tpl with slots := if s.st = .free then tdel d.tpl.slots i else tset d.tpl.slots i s } }

/-- The slots of a layer's cache: 0 to 383 coverage, 384 to 415 prescription. -/
def slotRange (layer : Nat) : List Nat := if layer = 0 then List.range 384 else (List.range 32).map (· + 384)

/-- Whether slot number `i` belongs to the cache of `layer`. -/
def slotFits (layer i : Nat) : Bool := if layer = 0 then decide (i < 384) else decide (384 ≤ i)

/-- SLOT_STATE code (Table 03.15). -/
def SlotState.code : SlotState → Nat
  | .free => 0 | .loading => 1 | .clean => 2 | .dirty => 3 | .writeback => 4 | .provisional => 5

/-- The slot that holds or loads a tile. -/
def Dev.findSlot (d : Dev) (layer : Nat) (tx ty : Int) : Option (Nat × Slot) :=
  d.tpl.slots.find? (fun x => x.2.layer == layer && x.2.tx == tx && x.2.ty == ty)

/-- Resident: neither FREE nor LOADING (R120). -/
def Slot.resident (s : Slot) : Bool := s.st != .free && s.st != .loading

/-- Whether a query is answered from the slot (Table 03.6). -/
def Slot.answers (s : Slot) : Bool := s.st == .clean || s.st == .dirty || s.st == .writeback

/-- Whether a tile is pinned for the open field (R114). -/
def Dev.pinned (d : Dev) (layer : Nat) (tx ty : Int) : Bool :=
  d.tpl.pins.any (fun p => p.field == d.rd COV.FIELD_ID_ACT && p.layer == layer && p.tx == tx && p.ty == ty)

/-- Whether a tile is wanted by the last prediction (R110). -/
def Dev.isWanted (d : Dev) (layer : Nat) (tx ty : Int) : Bool :=
  d.tpl.wanted.any (fun w => w.2.1 == layer && w.2.2.1 == tx && w.2.2.2 == ty)

/-- Squared distance of a tile's centre from the VRP, mm². -/
def Dev.tileDist (d : Dev) (layer : Nat) (tx ty : Int) : Nat :=
  let c : Int := d.layerEdge layer
  let dx := (tx * 256 + 128) * c - d.pose.pose.x
  let dy := (ty * 256 + 128) * c - d.pose.pose.y
  (dx * dx + dy * dy).toNat

/-- JNL_USED and JNL_MAX follow the journal. -/
def Dev.setJournal (d : Dev) (j : List JEntry) : Dev :=
  let d := ({ d with tpl := { d.tpl with journal := j } }).wr COV.JNL_USED j.length
  if d.rd COV.JNL_MAX < j.length then d.wr COV.JNL_MAX (min 4095 j.length) else d

/-! ### Journal replay (R119) -/

/-- The cells of a journal entry that lie in its tile, as indices. -/
def JEntry.cells (c : Nat) (e : JEntry) : List Nat :=
  ((sweepCells c { x := e.x0, y := e.y0, hdg := e.hdg, w := e.w, l := e.l } (e.x1 - e.x0) (e.y1 - e.y0) e.cont).filter
    (fun p => p.1 / 256 == e.tx && p.2 / 256 == e.ty)).map (fun p => (tileOf p.1 p.2).2.2)

/-- Adds the cells of an entry to COUNT. -/
def Slot.paintCells (s : Slot) (ks : List Nat) : Slot := ks.foldl (fun s k => s.setCell k (paintNibble (s.cell k))) s

/-- Replays every journal entry that names the tile of slot `i` into it and frees them; answers whether there was one. An
entry whose CHK fails is discarded and counted in PAINT_LOST (R123). -/
def Dev.replay (d : Dev) (i : Nat) : Bool × Dev :=
  let s := d.slot i
  if s.layer != 0 then (false, d)
  else
    let mine := d.tpl.journal.filter (fun e => e.tx == s.tx && e.ty == s.ty)
    let good := mine.filter (fun e => !e.bad)
    let c := d.layerEdge 0
    let s := good.foldl (fun s e => s.paintCells (e.cells c)) s
    let d := (d.setSlot i s).setJournal (d.tpl.journal.filter (fun e => !(e.tx == s.tx && e.ty == s.ty)))
    (!good.isEmpty, d.add COV.PAINT_LOST (mine.length - good.length))

/-! ### The store (R109) -/

/-- STORE_SEL resolved (Table 03.7): 1 host store on KSP0, 2 the twin partner on KSP1, 3 none. -/
def Dev.resolveStore (d : Dev) : Nat :=
  let host := d.on TPL.STORE_READY && d.kspUp 0
  let partner := d.kspUp 1 && (d.port 1).partner && (d.pair.st == .active || d.pair.st == .standby)
  match d.rd TPL.STORE_SEL with
  | 0 => if host then 1 else if partner then 2 else 3
  | 1 => if host then 1 else 3
  | 2 => if partner then 2 else 3
  | _ => 3

/-- Sends a tile message to the store in force, on VC1 of its port (R126). -/
def Dev.toStore (d : Dev) (bytes : List Nat) : Dev :=
  if d.rd TPL.STORE_ACT = 1 then d.kspSend 0 1 bytes else if d.rd TPL.STORE_ACT = 2 then d.kspSend 1 1 bytes else d

/-- The next request tag, from 1 to 65,535. -/
def Dev.newTag (d : Dev) : Nat × Dev :=
  (d.tpl.nextTag, { d with tpl := { d.tpl with nextTag := if d.tpl.nextTag ≥ 65535 then 1 else d.tpl.nextTag + 1 } })

/-- The TAG of a request or put of slot `i`: that of the one outstanding, which is repeated, or the next one (log entry 115). -/
def Dev.tagOf (d : Dev) (i : Nat) (isPut : Bool) : Nat × Dev :=
  match (d.slot i).req with
  | some r => if r.isPut == isPut then (r.tag, d) else d.newTag
  | none => d.newTag

/-- Sends TILE_REQ for the tile of slot `i` with `tries` repeats made (R111). -/
def Dev.sendReq (d : Dev) (now i tries : Nat) : Dev :=
  let s := d.slot i
  let t := d.tagOf i false
  (t.2.setSlot i { s with req := some { tag := t.1, tries := tries, sentAt := now, isPut := false }, provAsk := now }).toStore
    (tileMsgBytes 1 s.layer 0 s.tx s.ty (d.rd COV.FIELD_ID_ACT) s.gen t.1 0 [])

/-- Damage found by the directory CRC (R123): event, the slot freed, the tile counted, and its home copy to be fetched. The
directory CRC is the CRC of the content as last changed; `Slot.bad` says that the content no longer gives it. -/
def Dev.damaged (d : Dev) (now i : Nat) : Dev :=
  let s := d.slot i
  let d := ((d.setSlot i {}).bump COV.TILES_DISCARDED).fire now EVT.COV_TILE_CRC 0 0
  { d with tpl := { d.tpl with refetch := d.tpl.refetch ++ [(s.layer, s.tx, s.ty)] } }

/-- Sends TILE_PUT for slot `i` (R112, R113), GEN advanced by one; the CRC is checked first (R123). -/
def Dev.sendPut (d : Dev) (now i tries : Nat) (evict : Bool) : Dev :=
  let s := d.slot i
  if s.bad then d.damaged now i
  else
    let t := d.tagOf i true
    let gen := (s.gen + 1) % 65536
    let coded := rleEncode s.runs
    let comp := decide (coded.length < 32768)
    (t.2.setSlot i { s with st := .writeback, gen := gen, painted := false, evicting := evict, wbAt := now,
                            req := some { tag := t.1, tries := tries, sentAt := now, isPut := true } }).toStore
      (tileMsgBytes 4 s.layer (b2n comp) s.tx s.ty (d.rd COV.FIELD_ID_ACT) gen t.1 s.crc (if comp then coded else s.bytes))

/-- A slot becomes PROVISIONAL, filled with 0x0, and takes the journal entries that name its tile (R115, R120). A request that
stays outstanding (`keep`) still takes its answer. -/
def Dev.makeProvisional (d : Dev) (i : Nat) (keep : Bool) : Dev :=
  let s := d.slot i
  ((d.setSlot i { s with st := .provisional, fill := 0, cells := [], req := if keep then s.req else none, bad := false }).replay i).2

/-- The TILE_REQs outstanding: of slots, and probes. -/
def Dev.reqsOut (d : Dev) : Nat :=
  (d.tpl.slots.filter (fun x => match x.2.req with | some r => !r.isPut | none => false)).length + d.tpl.probes.length

/-- Whether this module puts tiles: a standby sends no TILE_PUT (R447). -/
def Dev.puts (d : Dev) : Bool := d.on TPL.STORE_OK && d.pair.st != .standby

/-- FETCH_MAX, 0 held at 1 (Table 03.15). -/
def Dev.fetchMax (d : Dev) : Nat := max 1 (d.rd TPL.FETCH_MAX)

/-- Requests the home copy of the tile of slot `i` while fewer than FETCH_MAX requests are outstanding (R111, R128); asked again at
the next T6 where it cannot be. -/
def Dev.askHome (d : Dev) (now i : Nat) : Dev :=
  if d.reqsOut < d.fetchMax then d.sendReq now i 0 else d.setSlot i { d.slot i with provAsk := 0 }

/-- STORE_OK is set again (R115): outstanding requests are reissued and the home copy of each PROVISIONAL tile asked. -/
def Dev.storeBack (d : Dev) (now : Nat) : Dev :=
  let d := d.wr TPL.STORE_OK 1
  let d := { d with tpl := { d.tpl with probes := [] } }
  let d := d.each d.tpl.slots (fun d x =>
    match (d.slot x.1).req with
    | some r => if r.isPut then d.sendPut now x.1 0 (d.slot x.1).evicting else d.sendReq now x.1 0
    | none => d)
  d.each d.tpl.slots (fun d x => if (d.slot x.1).st = .provisional && (d.slot x.1).req.isNone then d.askHome now x.1 else d)

/-- The store is declared failed (R115) at a request for the tile of slot `i`. -/
def Dev.storeFail (d : Dev) (now i : Nat) : Dev :=
  let s := d.slot i
  let d := { d with tpl := { d.tpl with lastFail := some (s.layer, s.tx, s.ty), lastProbe := now } }
  let d := (d.wr TPL.STORE_OK 0).fire now EVT.TPL_STORE_FAIL 0 0
  d.each d.tpl.slots (fun d x => if (d.slot x.1).st = .loading then d.makeProvisional x.1 true else d)

/-- A request of slot `i` counts as timed out (R115): repeated up to RETRY_MAX times, then the store is failed. Of a failed store
nothing times out: probes alone are sent to it. -/
def Dev.reqTimedOut (d : Dev) (now i : Nat) : Dev :=
  match (d.slot i).req with
  | none => d
  | some r =>
    if !d.on TPL.STORE_OK then d
    else if r.tries < d.rd TPL.RETRY_MAX then
      (if r.isPut then d.sendPut now i (r.tries + 1) (d.slot i).evicting else d.sendReq now i (r.tries + 1))
    else d.storeFail now i

/-- REQ_TIMEOUT in cycles, at least 10 ms (Table 03.15). -/
def Dev.reqTimeout (d : Dev) : Nat := ms (max 10 (d.rd TPL.REQ_TIMEOUT))

/-- The request of slot `i` has gone unanswered for REQ_TIMEOUT (R115). -/
def Dev.reqCheck (d : Dev) (now i : Nat) : Dev :=
  match (d.slot i).req with
  | some r => if d.on TPL.STORE_OK && decide (r.sentAt + d.reqTimeout ≤ now) then d.reqTimedOut now i else d
  | none => d

/-! ### Making room (R112, R122) -/

/-- The better victim of two: not wanted before wanted, then the higher rank, then the farther. -/
def victimBetter (a b : Bool × Nat × Nat) : Bool :=
  if a.1 != b.1 then !a.1 else if a.2.1 != b.2.1 then decide (b.2.1 < a.2.1) else decide (b.2.2 < a.2.2)

/-- The victim among the unpinned tiles of a cache whose state `rank` gives a number; none has rank 0. -/
def Dev.victim (d : Dev) (layer : Nat) (rank : Slot → Nat) : Option Nat :=
  (d.tpl.slots.foldl (fun (best : Option (Nat × (Bool × Nat × Nat))) x =>
    let s := x.2
    if slotFits layer x.1 && !d.pinned s.layer s.tx s.ty && rank s != 0 then
      let k := (d.isWanted s.layer s.tx s.ty, rank s, d.tileDist s.layer s.tx s.ty)
      match best with
      | none => some (x.1, k)
      | some b => if victimBetter k b.2 then some (x.1, k) else best
    else best) none).map (·.1)

/-- Discards the tile of slot `i` (R116, R122). -/
def Dev.discard (d : Dev) (now i : Nat) : Dev :=
  ((d.setSlot i {}).bump COV.TILES_DISCARDED).fire now EVT.TPL_DISCARD 0 0

/-- A FREE slot of a cache. -/
def Dev.freeSlot (d : Dev) (layer : Nat) : Option Nat :=
  (slotRange layer).find? (fun i => (tget? d.tpl.slots i).isNone)

/-- Rank of CLEAN over DIRTY for R112. -/
def rankEvict (s : Slot) : Nat := if s.st = .clean then 2 else if s.st = .dirty then 1 else 0
/-- Rank of tiles that hold paint not at home: while STORE_OK is clear, or is taken to be (R566), a put under way counts for nothing. -/
def rankDirty (s : Slot) : Nat := if s.st = .dirty || s.st = .writeback then 1 else 0
/-- Rank of PROVISIONAL tiles. -/
def rankProv (s : Slot) : Nat := if s.st = .provisional then 1 else 0

/-- A FREE slot, made under R122 where none is: `force` acts as if STORE_OK were clear (R566). None while a victim awaits its
TILE_ACK, or while every tile is pinned. A DIRTY victim is put in T6 alone (`put`); outside it the next T6 makes the room (R131).
With STORE_OK set a tile under writeback is no victim: its TILE_ACK makes it FREE or CLEAN. -/
def Dev.takeSlot (d : Dev) (now layer : Nat) (force put : Bool) : Option Nat × Dev :=
  match d.freeSlot layer with
  | some i => (some i, d)
  | none =>
    let ok := d.puts && !force
    match (if ok then d.victim layer rankEvict else d.victim layer (fun s => if s.st = .clean then 2 else 0)) with
    | some i =>
      if (d.slot i).st = .clean then (some i, d.setSlot i {})
      else if put then (none, d.sendPut now i 0 true)
      else (none, { d with tpl := { d.tpl with roomDue := true } })
    | none =>
      if ok && d.tpl.slots.any (fun x => slotFits layer x.1 && x.2.st == .writeback && !d.pinned x.2.layer x.2.tx x.2.ty) then (none, d)
      else match d.victim layer rankDirty with
      | some i => (some i, d.discard now i)
      | none => match d.victim layer rankProv with
        | some i => (some i, d.discard now i)
        | none => (none, d)

/-- A new slot for a tile in state `st`, filled with 0x0. -/
def Dev.createTile (d : Dev) (now i layer : Nat) (tx ty : Int) (st : SlotState) : Dev :=
  d.setSlot i { st := st, layer := layer, tx := tx, ty := ty, wbAt := now, provAsk := now }

/-- With no store a tile is created CLEAN, and takes journal entries that name it (R116). -/
def Dev.createBlank (d : Dev) (now i layer : Nat) (tx ty : Int) : Dev :=
  let r := (d.createTile now i layer tx ty .clean).replay i
  if r.1 then r.2.setSlot i { r.2.slot i with st := .dirty, painted := true } else r.2

/-- Fetches a tile that is not resident (R111): a slot, TILE_REQ, LOADING; with no store it is created (R116). -/
def Dev.fetchTile (d : Dev) (now layer : Nat) (tx ty : Int) : Dev :=
  if (d.findSlot layer tx ty).isSome || !tileInRange tx ty then d
  else if d.rd TPL.STORE_ACT = 3 then
    if layer != 0 then d
    else
      let t := d.takeSlot now layer false true
      match t.1 with
      | none => t.2
      | some i => t.2.createBlank now i layer tx ty
  else if !d.on TPL.STORE_OK || d.fetchMax ≤ d.reqsOut then d
  else
    match d.freeSlot layer with
    | none => (d.takeSlot now layer false true).2
    | some i => (d.createTile now i layer tx ty .loading).sendReq now i 0

/-! ### Store selection (R109) -/

/-- With no store left during CLOSING every dirty or provisional tile and every journal entry is discarded (R94). -/
def Dev.closeWithoutStore (d : Dev) : Dev :=
  let lost := d.tpl.journal.length
  let d := d.each d.tpl.slots (fun d x =>
    if x.2.st = .dirty || x.2.st = .writeback || x.2.st = .provisional then (d.setSlot x.1 {}).bump COV.TILES_DISCARDED
    else if x.2.st = .loading then d.setSlot x.1 {} else d)
  (d.add COV.PAINT_LOST lost).setJournal []

/-- STORE_SEL and STORE_READY as one number. -/
def Dev.storeSel (d : Dev) : Nat := d.rd TPL.STORE_SEL + 4 * d.rd TPL.STORE_READY

/-- The store is selected anew, at a field open and at a change of link state (R109). With no store, prescription tiles go, a
LOADING slot becomes FREE, so that its tile is created where it is wanted or painted (R116), and a WRITEBACK one DIRTY (log
entry 9). -/
def Dev.selectStore (d : Dev) (now : Nat) : Dev :=
  let new := d.resolveStore
  let old := d.rd TPL.STORE_ACT
  let d := { (d.wr TPL.STORE_ACT new) with tpl := { d.tpl with selSeen := d.storeSel, selDue := false } }
  if new = 3 then
    let d : Dev := d.wr TPL.STORE_OK 0
    let d : Dev := { d with tpl := { d.tpl with probes := [] } }
    if d.rd COV.FIELD_STATE = 2 then d.closeWithoutStore
    else d.each d.tpl.slots (fun d x =>
      if x.2.st = .loading || x.2.layer != 0 then d.setSlot x.1 {}
      else if x.2.st = .writeback then d.setSlot x.1 { d.slot x.1 with st := .dirty, req := none, evicting := false }
      else d.setSlot x.1 { d.slot x.1 with req := none })
  else if new != old || !d.on TPL.STORE_OK then d.storeBack now
  else d

/-- A change of link state: the store is selected anew, in T6 (R109, R131). -/
def Dev.linkChange (d : Dev) (now : Nat) : Dev :=
  if d.edgePassed now then { d with tpl := { d.tpl with selDue := true } } else d.selectStore now

/-! ### Answers of the store (R119 to R121, R127 to R129) -/

/-- The first answer of a failed store sets STORE_OK again (R115). -/
def Dev.storeAnswered (d : Dev) (now : Nat) : Dev :=
  if !d.on TPL.STORE_OK && d.rd TPL.STORE_ACT != 3 then d.storeBack now else d

/-- EXCL and HEAD of a cell replaced, COUNT kept (R129). -/
def boundaryNibble (old new : Nat) : Nat := new / 4 * 4 + old % 4

/-- A boundary update applied to a coverage slot: every cell's EXCL and HEAD from the runs of the payload (R129). -/
def Slot.applyBits (s : Slot) (rs : List (Nat × Nat)) : Slot :=
  let vs := expandRuns rs
  let merged := (vs.zipIdx).map (fun x => boundaryNibble (s.cell x.2) x.1)
  { s with fill := 0, cells := cellsOfRuns 0 0 (runsOf merged) }

/-- The slot's content replaced by a run list. -/
def Slot.load (s : Slot) (rs : List (Nat × Nat)) : Slot :=
  match rs with
  | [(v, _)] => { s with fill := v, cells := [] }
  | _ => { s with fill := 0, cells := cellsOfRuns 0 0 rs }

/-- Two run lists of one length merged cell by cell (R121): the store's and the provisional copy's. -/
def mergeRuns (st pr : List (Nat × Nat)) : List (Nat × Nat) :=
  runsOf (((expandRuns st).zip (expandRuns pr)).map (fun x => mergeNibble x.1 x.2))

/-- A tile's home copy arrives for slot `i` as runs (R119, R121). -/
def Dev.acceptTile (d : Dev) (now i gen : Nat) (rs : List (Nat × Nat)) : Dev :=
  let s := d.slot i
  let d := d.bump TPL.FETCH_CNT
  let d :=
    if s.st = .provisional then
      (if s.layer = 0 then
        d.setSlot i { s.load (mergeRuns rs s.runs) with st := .dirty, gen := gen, req := none, heldUpd := none, wbAt := now, painted := true }
       else d.setSlot i { s.load rs with st := .clean, gen := gen, req := none, heldUpd := none })
    else
      let s' := { s.load rs with st := .clean, gen := gen, req := none, heldUpd := none }
      let r := (d.setSlot i s').replay i
      if r.1 then r.2.setSlot i { r.2.slot i with st := .dirty, painted := true, wbAt := now } else r.2
  match s.heldUpd with
  | none => d
  | some u => d.setSlot i ((d.slot i).applyBits u)

/-- The slot whose outstanding request carries the tag of a message. -/
def Dev.slotOfTag (d : Dev) (tag : Nat) : Option (Nat × Slot) :=
  d.tpl.slots.find? (fun x => match x.2.req with | some r => r.tag == tag | none => false)

/-- Whether a message names the tile and field of a slot (R128). -/
def Dev.matchesSlot (d : Dev) (m : TileMsgIn) (s : Slot) : Bool :=
  m.field == d.rd COV.FIELD_ID_ACT && m.layer == s.layer && m.tx == s.tx && m.ty == s.ty

/-- A boundary update (R129). One that does not decode, fails its TILE_CRC or names another field is dropped (log entry 116). -/
def Dev.boundary (d : Dev) (m : TileMsgIn) : Dev :=
  match contentRuns 0 (bitOf m.flags 0) m.payload with
  | none => d
  | some rs =>
    if m.layer != 0 || m.field != d.rd COV.FIELD_ID_ACT || crc32 (runBytes 0 rs) != m.crc then d
    else match d.findSlot 0 m.tx m.ty with
    | none => d
    | some (i, s) =>
      if s.st = .loading then d.setSlot i { s with heldUpd := some rs } else d.setSlot i (s.applyBits rs)

/-- The answer to a probe whose request stands in no slot (R115): a PROVISIONAL slot of its tile takes it, a FREE slot where none
holds the tile; a tile that is resident otherwise keeps its content. -/
def Dev.probeSlot (d : Dev) (now : Nat) (m : TileMsgIn) : Dev :=
  match d.tpl.probes.find? (fun x => x.1 == m.tag) with
  | some (tag, layer, tx, ty) =>
    let d := { d with tpl := { d.tpl with probes := d.tpl.probes.filter (fun x => x.1 != tag) } }
    let r : TileReq := { tag := tag, tries := 0, sentAt := now, isPut := false }
    match d.findSlot layer tx ty with
    | some (i, s) => if s.st = .provisional then d.setSlot i { s with req := some r } else d.storeAnswered now
    | none =>
      match d.freeSlot layer with
      | some i => d.setSlot i { st := .loading, layer := layer, tx := tx, ty := ty, wbAt := now, provAsk := now, req := some r }
      | none => d.storeAnswered now
  | none => d

/-- A message of the store is handled in T6 (R119, R128). -/
def Dev.tileMsg (d : Dev) (now : Nat) (m : TileMsgIn) : Dev :=
  if m.type = 2 && bitOf m.flags 1 && m.tag = 0 then d.boundary m
  else
    let d := d.probeSlot now m
    match d.slotOfTag m.tag with
    | none => d
    | some (i, s) =>
      let isPut := (s.req.map (·.isPut)).getD false
      match m.type with
      | 2 =>
        if isPut then d else
        match contentRuns m.layer (bitOf m.flags 0) m.payload with
        | none => d.reqTimedOut now i
        | some rs =>
          if d.matchesSlot m s && crc32 (runBytes m.layer rs) == m.crc then (d.acceptTile now i m.gen rs).storeAnswered now
          else d.reqTimedOut now i
      | 3 =>
        if isPut then d else
        let fill := bitsOf m.flags 4 4
        let rs := [(fill, tileCells)]
        if d.matchesSlot m s && crc32 (runBytes m.layer rs) == m.crc then (d.acceptTile now i m.gen rs).storeAnswered now
        else d.reqTimedOut now i
      | 5 =>
        if isPut && m.gen == s.gen then
          let d := d.bump TPL.PUT_CNT
          let d := d.mirrorTile [s.layer + 2 ^ 16 * s.gen, ofS 16 s.tx + 2 ^ 16 * ofS 16 s.ty, s.crc, 0]
          let d := if s.painted then d.setSlot i { s with st := .dirty, req := none, evicting := false }
            else if s.evicting then d.setSlot i {}
            else d.setSlot i { s with st := .clean, req := none }
          d.storeAnswered now
        else d
      | 6 =>
        let d := d.bump TPL.REQ_NAKS
        if isPut then (d.reqTimedOut now i)
        else if s.st = .loading then (d.makeProvisional i false).storeAnswered now
        else (d.setSlot i { s with req := none, provAsk := now }).storeAnswered now
      | _ => d

/-- The answer of this module's home to a message passed on goes back to the partner; false where the tag is not of one. -/
def Dev.tileBack (d : Dev) (m : TileMsgIn) : Bool × Dev :=
  match d.pair.fwd.find? (fun x => x.1 == m.tag) with
  | some x =>
    let d := { d with pair := { d.pair with fwd := d.pair.fwd.filter (fun y => y.1 != m.tag) } }
    (true, d.kspSend 1 1 (tileMsgBytes m.type m.layer m.flags m.tx m.ty m.field m.gen x.2 m.crc m.payload))
  | none => (false, d)

/-- A message of the store arrives: handled at once in T6, kept for the next T6 during T0 to T5 (R119, Table 03.13). -/
def Dev.tileMsgRx (d : Dev) (now : Nat) (m : TileMsgIn) : Dev :=
  let b := if m.port = 0 then d.tileBack m else (false, d)
  if b.1 then b.2
  else if d.edgePassed now then { d with tpl := { d.tpl with inbox := d.tpl.inbox ++ [m] } } else d.tileMsg now m

/-- Whether a layer is in use: coverage, and the prescription of a product with RX_EN set (R91). -/
def Dev.layerUsed (d : Dev) (layer : Nat) : Bool := layer == 0 || (decide (layer ≤ 8) && bitOf (d.rd COV.RX_EN) (layer - 1))

/-! ### Prediction (R110) -/

/-- The corners of a point's footprint in the vehicle frame at the last T2, mm. -/
def Dev.footCorners (d : Dev) (g : SegGeo) (n : Nat) : List (Int × Int) :=
  let s := d.rd (PD.SEG n)
  let cx := d.rdS (PD.OFS_X n) + d.rdS (PD.FOOT_DX n)
  let cy := d.rdS (PD.OFS_Y n) + d.rdS (PD.FOOT_DY n)
  let l : Int := max (d.rd (PD.FOOT_L n)) (d.layerEdge 0)
  let w : Int := d.rd (PD.FOOT_W n)
  let r := g.xf.rot.mul (Mat3.rotZ (d.pointSway s g.psi (d.rdS (PD.OFS_Y n))))
  ([(1, 1), (1, -1), (-1, 1), (-1, -1)] : List (Int × Int)).map (fun q =>
    let v := (r.app (Vec3.ofInts (2 * cx + q.1 * l) (2 * cy + q.2 * w) (2 * d.rdS (PD.OFS_Z n)))).add (g.xf.tr.scale 2)
    (fxRound v.x / 2, fxRound v.y / 2))

/-- IMPL_HALF, rearmost and foremost footprint edge in mm (R110). -/
def Dev.implExtent (d : Dev) : Nat × Int × Int :=
  match d.geo.frames with
  | [] => (0, 0, 0)
  | f :: _ =>
    let cs := d.validPts.flatMap (fun n => d.footCorners (tget f.segs (d.rd (PD.SEG n))) n)
    match cs with
    | [] => (0, 0, 0)
    | c :: _ => (cs.foldl (fun a p => max a p.2.natAbs) 0, cs.foldl (fun a p => min a p.1) c.1, cs.foldl (fun a p => max a p.1) c.1)

/-- Position and heading of the VRP after `t` ms at constant speed and yaw rate: it moves along its velocity, which is against its
heading where the machine drives backward. -/
def Dev.pathAt (d : Dev) (t : Nat) : Int × Int × Nat :=
  let p := d.pose.pose
  let course : Int := if p.ve = 0 ∧ p.vn = 0 then p.hdg else headingOf (p.ve * fxOne) (p.vn * fxOne)
  let half := p.ozv * t * 18000 * 65536 * fxOne / (fxPi * 20000000)
  let chord : Int := if p.ozv = 0 then (p.spd * t / 1000 : Nat) else roundDiv (2 * p.spd * 10000 * sinA half) (p.ozv * fxOne)
  let hdg := (course - roundDiv half 65536) % 36000
  (p.x + fxRound (chord * sinC hdg), p.y + fxRound (chord * cosC hdg), ((p.hdg - roundDiv (2 * half) 65536) % 36000).toNat)

/-- Whether a tile overlaps the rectangle from `rear` to `fore` and `half` to each side at a path position. -/
def bandHits (c : Int) (pos : Int × Int × Nat) (rear fore : Int) (half : Nat) (tx ty : Int) : Bool :=
  let s := sinC pos.2.2
  let k := cosC pos.2.2
  let e : Int := 256 * c
  let cs : List (Int × Int) := [(tx * e, ty * e), (tx * e + e, ty * e), (tx * e, ty * e + e), (tx * e + e, ty * e + e)]
  let loc := cs.map (fun q =>
    let dx := q.1 - pos.1
    let dy := q.2 - pos.2.1
    (dx * s + dy * k, dy * s - dx * k))
  let us := loc.map (·.1)
  let vs := loc.map (·.2)
  let rect : List (Int × Int) := [(rear, half), (rear, -half), (fore, half), (fore, -half)]
  let wx := rect.map (fun q => pos.1 * fxOne + q.1 * s - q.2 * k)
  let wy := rect.map (fun q => pos.2.1 * fxOne + q.1 * k + q.2 * s)
  let mx := fun (l : List Int) => l.foldl max (l.headD 0)
  let mn := fun (l : List Int) => l.foldl min (l.headD 0)
  decide (rear * fxOne ≤ mx us) && decide (mn us ≤ fore * fxOne) && decide (-(half : Int) * fxOne ≤ mx vs) && decide (mn vs ≤ half * fxOne) &&
  decide (mn wx ≤ (tx * e + e) * fxOne) && decide (tx * e * fxOne ≤ mx wx) && decide (mn wy ≤ (ty * e + e) * fxOne) && decide (ty * e * fxOne ≤ mx wy)

/-- Whether a tile overlaps the disc of radius `r` around (x, y). -/
def discHits (c x y : Int) (r : Nat) (tx ty : Int) : Bool :=
  let e : Int := 256 * c
  let nx := max (tx * e) (min x (tx * e + e))
  let ny := max (ty * e) (min y (ty * e + e))
  decide ((nx - x) * (nx - x) + (ny - y) * (ny - y) ≤ (r * r : Nat))

/-- The tiles of a layer wanted for one sample of the path, `k` half seconds ahead. -/
def Dev.wantedAt (d : Dev) (layer k : Nat) : List (Nat × Nat × Int × Int) :=
  let c : Int := d.layerEdge layer
  let ext := d.implExtent
  let half := ext.1 + 100 * d.rd TPL.PF_MARGIN
  let pos := d.pathAt (500 * k)
  let reach : Int := half + max ext.2.1.natAbs ext.2.2.natAbs
  let e : Int := 256 * c
  let x0 := (pos.1 - reach) / e
  let y0 := (pos.2.1 - reach) / e
  let n := ((pos.1 + reach) / e - x0 + 1).toNat
  let m := ((pos.2.1 + reach) / e - y0 + 1).toNat
  ((List.range m).flatMap (fun (j : Nat) => (List.range n).map (fun (i : Nat) => (500 * k, layer, x0 + (i : Int), y0 + (j : Int))))).filter
    (fun w => tileInRange w.2.2.1 w.2.2.2 &&
      (bandHits c pos ext.2.1 ext.2.2 half w.2.2.1 w.2.2.2 || (k == 0 && discHits c pos.1 pos.2.1 half w.2.2.1 w.2.2.2)))

/-- Adds a wanted tile unless it is there already with an earlier need. -/
def addWanted (l : List (Nat × Nat × Int × Int)) (w : Nat × Nat × Int × Int) : List (Nat × Nat × Int × Int) :=
  if l.any (fun x => x.2 == w.2) then l else l ++ [w]

/-- The wanted tiles in rising need time (R110): coverage, and prescription of every product with RX_EN set. -/
def Dev.predict (d : Dev) : List (Nat × Nat × Int × Int) :=
  let layers := 0 :: ((List.range 8).filter (fun p => bitOf (d.rd COV.RX_EN) p)).map (· + 1)
  let ks := List.range (held 10 255 (d.rd TPL.PF_TIME) / 5 + 1)
  (ks.flatMap (fun k => layers.flatMap (fun l => d.wantedAt l k))).foldl addWanted []

/-! ### T6 (Table 03.13) -/

/-- FREE slots of a cache. -/
def Dev.freeCount (d : Dev) (layer : Nat) : Nat :=
  (if layer = 0 then 384 else 32) - (d.tpl.slots.filter (fun x => slotFits layer x.1)).length

/-- The victim of R112 among the tiles neither wanted nor pinned. A DIRTY tile goes by TILE_PUT, so only while STORE_OK is set. -/
def Dev.evictVictim (d : Dev) (layer : Nat) : Option Nat :=
  d.victim layer (fun s => if d.isWanted s.layer s.tx s.ty || (s.st = .dirty && !d.on TPL.STORE_OK) then 0 else rankEvict s)

/-- Evictions while fewer than `low` slots are FREE (R112), `fuel` at most: CLEAN tiles become FREE at once, and one DIRTY tile a T6
is put (log entry 117). -/
def Dev.evictN : Nat → Dev → Nat → Nat → Nat → Dev
  | 0, d, _, _, _ => d
  | fuel + 1, d, now, layer, low =>
    if low ≤ d.freeCount layer then d
    else match d.evictVictim layer with
      | none => d
      | some i => if (d.slot i).st = .clean then Dev.evictN fuel (d.setSlot i {}) now layer low else d.sendPut now i 0 true

/-- Evictions of one T6. -/
def Dev.evict (d : Dev) (now layer low : Nat) : Dev := Dev.evictN low d now layer low

/-- Writeback of slot `i` where WB_INTERVAL has passed (R113). -/
def Dev.writebackCheck (d : Dev) (now i : Nat) : Dev :=
  let s := d.slot i
  if s.st = .dirty && d.puts && decide (s.wbAt + sec (max 1 (d.rd TPL.WB_INTERVAL)) ≤ now) then d.sendPut now i 0 false else d

/-- A PROVISIONAL tile's home copy is asked again once a second while STORE_OK is set (R128). -/
def Dev.reRequest (d : Dev) (now i : Nat) : Dev :=
  let s := d.slot i
  if s.st = .provisional && s.req.isNone && d.on TPL.STORE_OK && decide (s.provAsk + sec 1 ≤ now) then d.askHome now i else d

/-- Room for one more request: where FETCH_MAX are outstanding the oldest probe, or the request of the last slot, is given up (log
entry 118). -/
def Dev.reqRoom (d : Dev) : Dev :=
  if d.reqsOut < d.fetchMax then d
  else match d.tpl.probes with
    | _ :: rest => { d with tpl := { d.tpl with probes := rest } }
    | [] =>
      match (d.tpl.slots.filter (fun x => match x.2.req with | some r => !r.isPut | none => false)).getLast? with
      | some x => d.setSlot x.1 { x.2 with req := none, provAsk := 0 }
      | none => d

/-- A probe of a failed store, once a second while a field holds tiles (R93, R115): the wanted tile with the earliest need that is
PROVISIONAL or absent, else the tile of the request that failed last. The request of a PROVISIONAL tile stands in its slot. -/
def Dev.probeCheck (d : Dev) (now : Nat) : Dev :=
  if d.on TPL.STORE_OK || d.rd TPL.STORE_ACT = 3 || d.rd COV.FIELD_STATE = 0 || now < d.tpl.lastProbe + sec 1 then d
  else
    let want := d.tpl.wanted.find? (fun w => match d.findSlot w.2.1 w.2.2.1 w.2.2.2 with
      | none => true
      | some x => x.2.st == .provisional)
    match (match want with | some w => some w.2 | none => d.tpl.lastFail) with
    | none => d
    | some (layer, tx, ty) =>
      let d := { d with tpl := { d.tpl with lastProbe := now } }
      let prov : Option (Nat × Slot) := (d.findSlot layer tx ty).filter (fun x => x.2.st == .provisional)
      match prov with
      | some (i, s) => (if s.req.isSome then d else d.reqRoom).sendReq now i 0
      | none =>
        let same := d.tpl.probes.find? (fun x => x.2 == (layer, tx, ty))
        let t : Nat × Dev := match same with | some x => (x.1, d) | none => d.reqRoom.newTag
        let d := if same.isSome then t.2 else { t.2 with tpl := { t.2.tpl with probes := t.2.tpl.probes ++ [(t.1, layer, tx, ty)] } }
        d.toStore (tileMsgBytes 1 layer 0 tx ty (d.rd COV.FIELD_ID_ACT) 0 t.1 0 [])

/-- COV reaches CLOSED when the journal is empty and no dirty or provisional tile remains (R94): the cache is emptied and
EVT_TPL_FLUSH_DONE fires. -/
def Dev.flushCheck (d : Dev) (now : Nat) : Dev :=
  if d.rd COV.FIELD_STATE = 2 && d.tpl.journal.isEmpty &&
    d.tpl.slots.all (fun x => x.2.st == .clean || x.2.st == .loading) then
    (({ d with tpl := { d.tpl with slots := [], wanted := [], probes := [], refetch := [] } }).wr COV.FIELD_STATE 0).fire now
      EVT.TPL_FLUSH_DONE 0 0
  else d

/-- Damaged tiles whose home copies are to be fetched are asked for (R123). -/
def Dev.refetchAll (d : Dev) (now : Nat) : Dev :=
  let d : Dev := d.each d.tpl.refetch (fun d t => d.fetchTile now t.1 t.2.1 t.2.2)
  { d with tpl := { d.tpl with refetch := d.tpl.refetch.filter (fun t => (d.findSlot t.1 t.2.1 t.2.2).isNone && tileInRange t.2.1 t.2.2) } }

/-- The TPL's T6 work (Table 03.13). -/
def Dev.tplT6 (d : Dev) (now : Nat) : Dev :=
  let d := if d.tpl.selDue || d.tpl.selSeen != d.storeSel then d.selectStore now else d
  let d : Dev := d.each d.tpl.inbox (fun d m => d.tileMsg now m)
  let d : Dev := { d with tpl := { d.tpl with inbox := [] } }
  let idx : List Nat := d.tpl.slots.map (·.1)
  let d := d.each idx (fun d i => d.reqCheck now i)
  let d := d.each idx (fun d i => d.reRequest now i)
  let d := d.probeCheck now
  if d.rd COV.FIELD_STATE = 1 then
    let d : Dev := if d.tpl.roomDue then (d.takeSlot now 0 false true).2 else d
    let d := { d with tpl := { d.tpl with wanted := d.predict, roomDue := false } }
    let d := d.refetchAll now
    let pins := (d.tpl.pins.filter (fun p => p.field == d.rd COV.FIELD_ID_ACT && d.layerUsed p.layer)).map (fun p => (0, p.layer, p.tx, p.ty))
    let d := d.each (pins ++ d.tpl.wanted) (fun d w => d.fetchTile now w.2.1 w.2.2.1 w.2.2.2)
    let d := (d.evict now 0 16).evict now 1 2
    d.each (d.tpl.slots.map (·.1)) (fun d i => d.writebackCheck now i)
  else if d.rd COV.FIELD_STATE = 2 then
    let d : Dev := d.each d.tpl.journal (fun d e => d.fetchTile now 0 e.tx e.ty)
    let d : Dev := d.each (d.tpl.slots.map (·.1)) (fun d i =>
      if (d.slot i).st = .dirty && d.puts then d.sendPut now i 0 true else d)
    d.flushCheck now
  else d

/-! ### Host actions of the TPL page -/

/-- PIN_CMD written (R114): 1 pin, 2 unpin, 3 unpin all. A tile pinned in T6 is fetched in it, any other in the next one (R131,
R133). A pin names any LAYER of Table 03.10; one of a product with RX_EN clear, or numbered 9 to 15, is held and fetches nothing (R91,
log entry 119). -/
def Dev.pinCmd (d : Dev) (now cmd : Nat) : Dev :=
  let p : Pin := { field := d.rd COV.FIELD_ID_ACT, layer := d.rd TPL.PIN_LAYER, tx := d.rdS TPL.PIN_TX, ty := d.rdS TPL.PIN_TY }
  match cmd with
  | 1 =>
    if d.tpl.pins.contains p then d.wr TPL.PIN_FULL 0
    else if 64 ≤ d.tpl.pins.length then d.wr TPL.PIN_FULL 1
    else
      let d := ({ d with tpl := { d.tpl with pins := d.tpl.pins ++ [p] } }).wr TPL.PIN_FULL 0
      if d.rd COV.FIELD_STATE = 1 && !d.edgePassed now && d.layerUsed p.layer then d.fetchTile now p.layer p.tx p.ty else d
  | 2 => { d with tpl := { d.tpl with pins := d.tpl.pins.filter (fun q => q != p) } }
  | 3 => { d with tpl := { d.tpl with pins := [] } }
  | _ => d

/-- SLOT_IDX written (R133): the slot words are a snapshot of the slot; 416 to 511 read as a FREE slot, and SLOT_CRC of a slot
without a resident tile reads 0 (log entry 120). -/
def Dev.slotIdxWrite (d : Dev) (i : Nat) : Dev :=
  let s := d.slot i
  let d := (d.wr TPL.SLOT_IDX i).wr TPL.SLOT_STATE s.st.code
  let d := (d.wrS TPL.SLOT_TX s.tx).wrS TPL.SLOT_TY s.ty
  let d := (d.wr TPL.SLOT_LAYER s.layer).wr TPL.SLOT_GEN s.gen
  (d.wrB TPL.SLOT_PIN (s.st != .free && d.pinned s.layer s.tx s.ty)).wr TPL.SLOT_CRC (if s.resident then s.crc else 0)

/-! ### Commands -/

/-- Whether T6 runs: ticks are made, and no edge has passed whose tick is still to come (R46, R131). What falls due before it is done
in the T6 that comes. -/
def Dev.inT6 (d : Dev) (now : Nat) : Bool := d.ticking && !d.edgePassed now

/-- TILE_WRITEBACK, R113: WB_INTERVAL of a slot's tile has passed. -/
def execTileWriteback (el : Nat) (slot : Fin 416) (s : State) : Host.Outcome State Fault Refusal :=
  s.run el (fun now d => if d.inT6 now then d.writebackCheck now slot.val else d)

/-- TILE_PIN, R114. -/
def execTilePin (el : Nat) (s : State) : Host.Outcome State Fault Refusal :=
  s.run el (fun now d => if d.hif.inService then d.pinCmd now 1 else d)

/-- TILE_UNPIN, R114. -/
def execTileUnpin (el : Nat) (s : State) : Host.Outcome State Fault Refusal :=
  s.run el (fun now d => if d.hif.inService then d.pinCmd now 2 else d)

/-- TILE_UNPIN_ALL, R114. -/
def execTileUnpinAll (el : Nat) (s : State) : Host.Outcome State Fault Refusal :=
  s.run el (fun now d => if d.hif.inService then d.pinCmd now 3 else d)

/-- REQ_TIMEOUT, R115: a slot's request has gone unanswered for REQ_TIMEOUT. -/
def execReqTimeout (el : Nat) (slot : Fin 416) (s : State) : Host.Outcome State Fault Refusal :=
  s.run el (fun now d => if d.inT6 now then d.reqCheck now slot.val else d)

/-- STORE_PROBE, R115. -/
def execStoreProbe (el : Nat) (s : State) : Host.Outcome State Fault Refusal :=
  s.run el (fun now d => if d.inT6 now then d.probeCheck now else d)

/-- PROVISIONAL_REREQUEST, R128. -/
def execProvisionalRerequest (el : Nat) (slot : Fin 416) (s : State) : Host.Outcome State Fault Refusal :=
  s.run el (fun now d => if d.inT6 now then d.reRequest now slot.val else d)

/-- TILE_DATA, R119: a tile of the store arrives. -/
def execTileData (el : Nat) (m : TileMsgIn) (s : State) : Host.Outcome State Fault Refusal :=
  s.run el (fun now d => if d.ticking then d.tileMsgRx now { m with type := 2 } else d)

/-- TILE_ABSENT, R121: the store holds no copy. -/
def execTileAbsent (el : Nat) (m : TileMsgIn) (s : State) : Host.Outcome State Fault Refusal :=
  s.run el (fun now d => if d.ticking then d.tileMsgRx now { m with type := 3 } else d)

/-- TILE_ACK, R112: the store has taken a TILE_PUT. -/
def execTileAck (el : Nat) (m : TileMsgIn) (s : State) : Host.Outcome State Fault Refusal :=
  s.run el (fun now d => if d.ticking then d.tileMsgRx now { m with type := 5 } else d)

/-- TILE_NAK, R128: the store refuses a request or put. -/
def execTileNak (el : Nat) (m : TileMsgIn) (s : State) : Host.Outcome State Fault Refusal :=
  s.run el (fun now d => if d.ticking then d.tileMsgRx now { m with type := 6 } else d)

/-- BOUNDARY_UPDATE, R129. -/
def execBoundaryUpdate (el : Nat) (m : TileMsgIn) (s : State) : Host.Outcome State Fault Refusal :=
  s.run el (fun now d => if d.ticking then
    d.tileMsgRx now { m with type := 2, tag := 0, flags := setBitOf m.flags 1 true } else d)

/-- FLUSH_DONE, R94. -/
def execFlushDone (el : Nat) (s : State) : Host.Outcome State Fault Refusal :=
  s.run el (fun now d => if d.edgePassed now then d else d.flushCheck now)

/-- SLOT_SNAPSHOT, R133. -/
def execSlotSnapshot (el : Nat) (slot : BitVec 9) (s : State) : Host.Outcome State Fault Refusal :=
  s.run el (fun _ d => if d.hif.inService then d.slotIdxWrite slot.toNat else d)

end Sys2Proof.Machine
end

