-- ==== Sys2Proof/Machine/Latency.lean ====
section
/-! DEFINITION. Measured latency (R137 to R141): samples, filters, and the filtered latency of a point, in units of
2^-16 times 0.1 µs. -/

namespace Sys2Proof.Machine

/-- Units of 0.1 µs in filter units. -/
def latUnit (t : Int) : Int := t * 65536

/-- Temperature coefficient of a point's product, in 0.1 µs per °C (R139). -/
def Dev.latTc (d : Dev) (n : Nat) (isOpen : Bool) : Int :=
  let p := d.rd (PD.PRODUCT n)
  10 * (if isOpen then d.rdS (DEC.LAT_TC_ON p) else d.rdS (DEC.LAT_TC_OFF p))

/-- A limit in percent: 0 held at 1, above 100 at 100 (Table 04.8). -/
def Dev.rdPct (d : Dev) (f : Field) : Nat := d.rdH 1 100 f

/-- The filter of a point and kind. -/
def PtDec.filt (p : PtDec) (isOpen : Bool) : LatFilt := if isOpen then p.latOn else p.latOff

/-- The entry of a filter in the mirror (Table 13.11, LATENCY). -/
def LatFilt.entry (f : LatFilt) (n : Nat) (isOpen : Bool) : List Nat :=
  [n + 2 ^ 10 * b2n (!isOpen), min 255 f.cnt + 2 ^ 8 * min 255 f.rej + 2 ^ 16 * satS 10 f.tLast,
   satU 32 ((if f.cnt < 8 then f.acc else f.lf) / 65536), satU 32 (f.rejAcc / 65536)]

/-- Sets the filter of a point and kind. -/
def Dev.setFilt (d : Dev) (n : Nat) (isOpen : Bool) (f : LatFilt) : Dev :=
  let d := d.mirrorLat (f.entry n isOpen)
  { d with dec := { d.dec with pts := tmod d.dec.pts n (fun p => if isOpen then { p with latOn := f } else { p with latOff := f }),
                               latChanged := true } }

/-- lat_update of R139 for one sample. -/
def Dev.latUpdate (d : Dev) (now : Nat) (s : LatSample) : Dev :=
  let p := d.rd (PD.PRODUCT s.pt)
  let sn := latUnit (s.s - d.latTc s.pt s.isOpen * (s.temp - 25))
  let f := (tget d.dec.pts s.pt).filt s.isOpen
  let f := { f with tLast := s.temp, n := min 65535 (f.n + 1) }
  let d := d.bump DEC.SAMPLE_CNT
  if f.cnt < 8 then
    let f := { f with acc := f.acc + sn, cnt := f.cnt + 1 }
    d.setFilt s.pt s.isOpen (if f.cnt = 8 then { f with lf := f.acc / 8 } else f)
  else if f.lf * (d.rdPct (DEC.LAT_GATE p) : Nat) < 100 * ((sn - f.lf).natAbs : Int) then
    let f := { f with rej := f.rej + 1, rejAcc := f.rejAcc + sn }
    let d := d.bump DEC.LAT_REJECTS
    if f.rej = 8 then
      ((d.setFilt s.pt s.isOpen { f with lf := f.rejAcc / 8, rej := 0, rejAcc := 0 }).bump DEC.LAT_RESETS).fire now EVT.DEC_LAT_RESET s.pt
        (b2n (!s.isOpen))
    else d.setFilt s.pt s.isOpen f
  else
    d.setFilt s.pt s.isOpen { f with rej := 0, rejAcc := 0, lf := f.lf + (sn - f.lf) / 2 ^ (max 1 (d.rd (DEC.LAT_ALPHA_SH p))) }

/-- A latency sample is received (R137, R138): zero and negative samples are not used. -/
def Dev.latSample (d : Dev) (now n : Nat) (isOpen : Bool) (s temp : Int) : Dev :=
  if 0 < s then { d with dec := { d.dec with samples := d.dec.samples ++ [{ pt := n, isOpen := isOpen, s := s, temp := temp, dt := now }] } }
  else d

/-- The samples received before T0 are applied in DT order (R139). -/
def Dev.latApply (d : Dev) (now edge : Nat) : Dev :=
  let due := (d.dec.samples.filter (fun s => decide (s.dt < edge))).mergeSort (fun a b => a.dt ≤ b.dt)
  let d := { d with dec := { d.dec with samples := d.dec.samples.filter (fun s => !decide (s.dt < edge)) } }
  d.each (due.filter (fun s => d.on (PD.VALID s.pt))) (fun d s => d.latUpdate now s)

/-- Whether point `n` is an accepted member of section `s` (R151). -/
def Dev.inSection (d : Dev) (s n : Nat) : Bool := d.on (PD.VALID n) && d.on (PD.SECT_EN n) && d.rd (PD.SECTION n) == s

/-- The lead of section `s`, where SECT_LEAD_EN is set and the lead is an accepted member (R154). -/
def Dev.leadOf (d : Dev) (s : Nat) : Option Nat :=
  let n := d.rd (DEC.SECT_LEAD s)
  if d.on (DEC.SECT_LEAD_EN s) && d.inSection s n then some n else none

/-- The point whose latencies hold for point `n` (R140). -/
def Dev.latOwner (d : Dev) (n : Nat) : Nat :=
  if d.on (PD.SECT_EN n) then (d.leadOf (d.rd (PD.SECTION n))).getD n else n

/-- lat(pt, kind) of R139 for a point's own filter. -/
def Dev.latOwn (d : Dev) (n : Nat) (isOpen : Bool) : Int :=
  let f := (tget d.dec.pts n).filt isOpen
  if f.cnt < 8 then latUnit (100 * (if isOpen then d.rd (PD.LAT_ON_DEF n) else d.rd (PD.LAT_OFF_DEF n)))
  else max 0 (min (latUnit 6553500) (f.lf + latUnit (d.latTc n isOpen * (f.tLast - 25))))

/-- The filtered latency of a point (R140). -/
def Dev.lat (d : Dev) (n : Nat) (isOpen : Bool) : Int := d.latOwn (d.latOwner n) isOpen

/-- The filtered latency in fabric cycles. -/
def Dev.latCycles (d : Dev) (n : Nat) (isOpen : Bool) : Nat := (d.lat n isOpen * 40 / 65536).toNat

/-- TRANSPORT_DELAY in fabric cycles. -/
def Dev.transport (d : Dev) (n : Nat) : Nat := 4000 * d.rd (PD.TRANSPORT_DELAY n)

/-! ### Nodes and power banks of a point -/

/-- Node slot `a` of boom bus `b`. -/
def Dev.node (d : Dev) (b a : Nat) : VnpNode := tget d.vnp (64 * b + a)

/-- Changes node slot `a` of boom bus `b`. -/
def Dev.setNode (d : Dev) (b a : Nat) (v : VnpNode) : Dev := { d with vnp := tset d.vnp (64 * b + a) v }

/-- The node slot of a point bound to a node. -/
def Dev.nodeOfPt (d : Dev) (n : Nat) : VnpNode := d.node (d.rd (PD.BUS n)) (d.rd (PD.NODE n))

/-- A point whose NODE_PT its node does not have (R421). -/
def Dev.ptBeyond (d : Dev) (n : Nat) : Bool :=
  d.rd (PD.BIND_KIND n) == 3 && (d.nodeOfPt n).st != 0 && decide ((d.nodeOfPt n).pts ≤ d.rd (PD.NODE_PT n))

/-- The point bound to a channel kind and number: IDC (1) or LSW (2). -/
def Dev.ptOfCh (d : Dev) (kind ch : Nat) : Option Nat :=
  d.validPts.find? (fun n => d.rd (PD.BIND_KIND n) == kind && d.rd (PD.LOCAL_CH n) == ch)

/-- The point bound to point `k` of node `a` on boom bus `b`. -/
def Dev.ptOfNode (d : Dev) (b a k : Nat) : Option Nat :=
  d.validPts.find? (fun n => d.rd (PD.BIND_KIND n) == 3 && d.rd (PD.BUS n) == b && d.rd (PD.NODE n) == a && d.rd (PD.NODE_PT n) == k)

/-- The power bank of a point's channel: 0 to 3 for A to D (R295). -/
def Dev.bankOfPt (d : Dev) (n : Nat) : Option Nat :=
  if d.rd (PD.BIND_KIND n) = 1 then some (d.rd (PD.LOCAL_CH n) / 8)
  else if d.rd (PD.BIND_KIND n) = 2 then some (d.rd (PD.LOCAL_CH n) % 8 / 2)
  else none

/-- Whether a point is pulsed (R175). -/
def Dev.pulsedPt (d : Dev) (n : Nat) : Bool :=
  d.on (RATE.PULSED (d.rd (PD.PRODUCT n))) && (d.rd (PD.BIND_KIND n) == 1 || d.rd (PD.BIND_KIND n) == 3)

/-- Tp of a product in fabric cycles (R184): 10^7 / PULSE_FREQ µs to the nearest 10 µs. -/
def Dev.pulsePeriod (d : Dev) (p : Nat) : Nat :=
  let f := d.rd (RATE.PULSE_FREQ p)
  if f = 0 then 0 else 4000 * ((2 * 1000000 + f) / (2 * f))

end Sys2Proof.Machine
end

