-- ==== Sys2Proof/Machine/Cov.lean ====
section
/-! DEFINITION. Coverage (R85 to R107, R117 to R125, R566): field sessions, the applied interval, painting, queries, and
the commands of the family. -/

namespace Sys2Proof.Machine

/-! ### Valve edges of a point (R97 to R100) -/

/-- Changes the painting state of a point. -/
def Dev.modPaint (d : Dev) (n : Nat) (f : PtPaint → PtPaint) : Dev :=
  { d with cov := { d.cov with paint := tmod d.cov.paint n f } }

/-- The painting state of a point. -/
def Dev.paintOf (d : Dev) (n : Nat) : PtPaint := tget d.cov.paint n

/-- Whether a CONFIRMED node point is painted as COMMANDED, its node sending no latency reports (R97). -/
def Dev.cmdFallback (d : Dev) (n : Nat) : Bool :=
  d.rd (PD.BIND_KIND n) == 3 && !d.on (PD.PAINT_SOURCE n) && (d.nodeOfPt n).st != 0 && !(d.nodeOfPt n).latRpt

/-- Whether the edges of a point resolve from committed times (Table 03.4). -/
def Dev.paintCmd (d : Dev) (n : Nat) : Bool := d.on (PD.PAINT_SOURCE n) || d.cmdFallback n

/-- The entry of a confirmation of a local point in the mirror (Table 13.11, PAINT), at DT `t`. -/
def paintEntry (n : Nat) (isOpen : Bool) (t : Nat) : List Nat :=
  [n + 2 ^ 10 * b2n (!isOpen), nsOf t % 2 ^ 32, nsOf t / 2 ^ 32, 0]

/-- A confirmation of a point bound to an IDC channel or a load switch is mirrored (R448). -/
def Dev.mirrorConf (d : Dev) (n : Nat) (isOpen : Bool) (t : Option Nat) : Dev :=
  match t with
  | some t => if d.rd (PD.BIND_KIND n) == 1 || d.rd (PD.BIND_KIND n) == 2 then d.mirrorPaint (paintEntry n isOpen t) else d
  | none => d

/-- A valve edge of a point resolved at valve time `t`. -/
def Dev.pushEdge (d : Dev) (n : Nat) (isOpen : Bool) (t : Nat) : Dev :=
  let d := if d.rd (PD.BIND_KIND n) == 2 then d.mirrorConf n isOpen (some t) else d
  d.modPaint n (fun p => { p with edges := p.edges ++ [{ cmd := t, isOpen := isOpen, wait := false, t := some t }] })

/-- A valve edge that awaits confirmation. -/
def Dev.pushWait (d : Dev) (n : Nat) (isOpen : Bool) (cmd : Nat) : Dev :=
  d.modPaint n (fun p => { p with edges := p.edges ++ [{ cmd := cmd, isOpen := isOpen, wait := true, t := none }] })

/-- An edge is commanded for a point at DT `cmd` (R97): IDC, node and UNBOUND points; a load switch reports its own. -/
def Dev.covCommand (d : Dev) (n : Nat) (isOpen : Bool) (cmd : Nat) : Dev :=
  let k := d.rd (PD.BIND_KIND n)
  let d := if isOpen then d.modPaint n (fun p => { p with onAt := cmd }) else d
  if k = 2 || d.ptBeyond n then d
  else if d.paintCmd n then d.pushEdge n isOpen (cmd + d.latCycles n isOpen)
  else if k = 0 then d
  else d.pushWait n isOpen cmd

/-- A switch-on or load current again, or the loss of either, of a point's load switch goes to the mirror (R448): a loss not before the
opening that it ends. -/
def Dev.mirrorLoad (d : Dev) (n : Nat) (load : Bool) (t : Nat) : Dev :=
  let last := ((d.paintOf n).edges.filterMap (fun e => if e.isOpen then e.t else none)).foldl max t
  if d.paintCmd n then d else d.mirrorConf n load (some last)

/-- The committed window of a point (R164): state at the opening, edge if any, state at the close, the opening's DT. -/
def Dev.covWindow (d : Dev) (n : Nat) (sOpen : Bool) (edge : Option Nat) (sClose : Bool) (opening : Nat) : Dev :=
  let d := if (d.paintOf n).cmdOn != sOpen then d.covCommand n sOpen opening else d
  let d := match edge with
    | some pos => if sOpen != sClose then d.covCommand n sClose (opening + 4000 * pos) else d
    | none => d
  d.modPaint n (fun p => { p with cmdOn := sClose })

/-- How an edge without confirmation resolves (R100, R99): an opening counts as none, which leaves a gap from its filtered
opening time where product was applied; a closing counts at its commanded time plus the filtered close latency. -/
def Dev.unconfirmed (d : Dev) (n : Nat) (e : VEdge) : VEdge :=
  { e with isOpen := false, wait := false, t := some (e.cmd + d.latCycles n e.isOpen) }

/-- Resolves the edges of a point that satisfy `sel` by `f`. -/
def Dev.resolveEdges (d : Dev) (n : Nat) (sel : VEdge → Bool) (f : VEdge → VEdge) : Dev :=
  d.modPaint n (fun p => { p with edges := p.edges.map (fun e => if e.wait && sel e then f e else e) })

/-- CONF_WAIT in cycles. -/
def Dev.confWait (d : Dev) : Nat := ms (d.rdH 1 2000 COV.CONF_WAIT)

/-- Edges of a point whose CONF_WAIT has passed resolve, counted in CONF_TIMEOUTS (R100). -/
def Dev.confCheck (d : Dev) (now n : Nat) : Dev :=
  let late := fun (e : VEdge) => decide (e.cmd + d.confWait ≤ now)
  let k := ((d.paintOf n).edges.filter (fun e => e.wait && late e)).length
  if k = 0 then d else (d.resolveEdges n late (d.unconfirmed n)).add COV.CONF_TIMEOUTS k

/-- A report on the opening commanded at `start` arrives, with the time it found or none (R100). -/
def Dev.confirmOpen (d : Dev) (n start : Nat) (t : Option Nat) : Dev :=
  match ((d.paintOf n).edges.filter (fun e => e.wait && e.isOpen && decide (e.cmd ≤ start))).getLast? with
  | none => d
  | some e =>
    let sel := fun (x : VEdge) => x.isOpen && x.cmd == e.cmd
    match t with
    | some t => d.resolveEdges n sel (fun x => { x with wait := false, t := some t })
    | none => (d.resolveEdges n sel (d.unconfirmed n)).bump COV.CONF_NONE

/-- The closing edge of a point whose last pulse is on record resolves by it (R99, R100). -/
def Dev.tryClose (d : Dev) (now n : Nat) : Dev :=
  let p := d.paintOf n
  match p.lastRec, p.edges.find? (fun e => e.wait && !e.isOpen) with
  | some (start, seat), some e =>
    let last := if d.rd (PD.BIND_KIND n) = 1 then start == p.lastStart
      else !d.pulsedPt n || decide (e.cmd < start + d.pulsePeriod (d.rd (PD.PRODUCT n)))
    if decide (e.cmd ≤ now) && decide (start ≤ e.cmd) && last then
      let sel := fun (x : VEdge) => !x.isOpen && x.cmd == e.cmd
      match seat with
      | some t => d.resolveEdges n sel (fun x => { x with wait := false, t := some t })
      | none => (d.resolveEdges n sel (d.unconfirmed n)).bump COV.CONF_NONE
    else d
  | _, _ => d

/-- A pulse of point `n` starts, commanded at `cmd`. -/
def Dev.covPulseStart (d : Dev) (n cmd : Nat) : Dev := d.modPaint n (fun p => { p with lastStart := cmd })

/-- A pulse of a CONFIRMED point is commanded at `cmd` (R99): each opening inside the interval awaits its own confirmation,
whether or not the channel starts the pulse. -/
def Dev.covPulseCmd (d : Dev) (n cmd : Nat) : Dev :=
  let p := d.paintOf n
  if d.paintCmd n || p.edges.any (fun e => e.wait && e.isOpen && e.cmd == cmd) then d else d.pushWait n true cmd

/-- The record of a pulse commanded at `start` arrives (R97, R99, R100): opening and seat time, where present. -/
def Dev.covRecord (d : Dev) (now n start : Nat) (openT seatT : Option Nat) : Dev :=
  if d.paintCmd n then d
  else
    let d := (d.mirrorConf n true openT).mirrorConf n false seatT
    ((d.confirmOpen n start openT).modPaint n (fun p => { p with lastRec := some (start, seatT) })).tryClose now n

/-! ### Position of a point in the past (R102) -/

/-- Footprint centre (field frame, mm) and STR_HDG of point `n` at DT `t`. -/
def Dev.footAt (d : Dev) (n t : Nat) : Option (Int × Int × Nat) :=
  match d.pose? t, d.frameAt t with
  | some p, some f =>
    let s := d.rd (PD.SEG n)
    let g : SegGeo := tget f.segs s
    let rot := g.xf.rot.mul (Mat3.rotZ (d.pointSway s g.psi (d.rdS (PD.OFS_Y n))))
    let v := (rot.app (Vec3.ofInts (d.rdS (PD.OFS_X n) + d.rdS (PD.FOOT_DX n)) (d.rdS (PD.OFS_Y n) + d.rdS (PD.FOOT_DY n))
      (d.rdS (PD.OFS_Z n)))).add g.xf.tr
    let r := rAtt p.hdg p.pitch p.roll
    let w := (Vec3.ofInts p.x p.y p.z).add (r.app v)
    let h := r.app (rot.app (Vec3.ofInts 1 0 0))
    some (fxRound w.x, fxRound w.y, headingOf h.x h.y)
  | _, _ => none

/-- Whether the T2 nearest to `t` gave GEO_VALID for point `n` (R101). -/
def Dev.geoValidAt (d : Dev) (n t : Nat) : Bool :=
  match d.frameAt t with
  | none => false
  | some f => f.valid.contains n

/-- Whether the bank of point `n` was suspended at `t` (R101). -/
def Dev.bankOffAt (d : Dev) (n t : Nat) : Bool :=
  match d.bankOfPt n with
  | none => false
  | some b => d.cov.bankOff.any (fun x => x.1 == b && decide (x.2.1 ≤ t) && (x.2.2 == 0 || decide (t < x.2.2)))

/-- The times without load current of the load switch of point `n`, where they count (R97, PAINT_SOURCE = CONFIRMED). -/
def Dev.noLoadOf (d : Dev) (n : Nat) : List (Nat × Nat × Nat) :=
  if d.rd (PD.BIND_KIND n) = 2 && !d.on (PD.PAINT_SOURCE n) then d.cov.noLoad.filter (fun x => x.1 == d.rd (PD.LOCAL_CH n)) else []

/-- Whether the switch of point `n` was without load current at ground time `g`, TRANSPORT_DELAY after the valve (R97, R98). -/
def Dev.noLoadAt (d : Dev) (n g : Nat) : Bool :=
  let td := d.transport n
  (d.noLoadOf n).any (fun x => decide (x.2.1 + td ≤ g) && (x.2.2 == 0 || decide (g < x.2.2 + td)))

/-! ### Painting a span (R103, R104, R118, R120) -/

/-- The tiles that cells touch, in order of first touch. -/
def tilesOf (cells : List (Int × Int)) : List (Int × Int) := (cells.map (fun p => (p.1 / 256, p.2 / 256))).dedup

/-- The cells of a span that lie in a tile, as indices. -/
def cellsOfTile (cells : List (Int × Int)) (t : Int × Int) : List Nat :=
  (cells.filter (fun p => p.1 / 256 == t.1 && p.2 / 256 == t.2)).map (fun p => (tileOf p.1 p.2).2.2)

/-- Paints cells into the resident tile of slot `i`: a CLEAN one becomes DIRTY, and an eviction under way becomes a periodic
writeback (Table 03.6). -/
def Dev.paintSlot (d : Dev) (now i : Nat) (ks : List Nat) : Dev :=
  if ks.isEmpty then d
  else
    let s := (d.slot i).paintCells ks
    d.setSlot i (match s.st with
      | .clean => { s with st := .dirty, painted := true, wbAt := now }
      | _ => { s with painted := true, evicting := false })

/-- The tile that most journal entries name, the lowest column, then row, among equals. -/
def mostNamed (j : List JEntry) : Option (Int × Int) :=
  let ts := (j.map (fun e => (e.tx, e.ty))).dedup
  let cnt := fun (t : Int × Int) => (j.filter (fun e => e.tx == t.1 && e.ty == t.2)).length
  ts.foldl (fun best t =>
    match best with
    | none => some t
    | some b => if cnt b < cnt t || (cnt t == cnt b && (decide (t.1 < b.1) || (t.1 == b.1 && decide (t.2 < b.2)))) then some t else best) none

/-- Makes the tile a PROVISIONAL one with its journal entries replayed (R120); none where it waits for a slot. -/
def Dev.provisionalFor (d : Dev) (now : Nat) (t : Int × Int) (force : Bool) : Bool × Dev :=
  match d.findSlot 0 t.1 t.2 with
  | some (i, s) => (true, if s.st = .loading then d.makeProvisional i true else d)
  | none =>
    let k := d.takeSlot now 0 force false
    match k.1 with
    | some i => (true, (k.2.createTile now i 0 t.1 t.2 .provisional).makeProvisional i false)
    | none => (false, k.2)

/-- Whether an entry can be carried on by a span of point `n` that starts at (x, y) with heading `h` and ends at (x1, y1)
(R118). -/
def JEntry.extends (e : JEntry) (n : Nat) (t : Int × Int) (x y : Int) (h : Nat) (x1 y1 : Int) : Bool :=
  e.opened && !e.bad && e.point == n && e.tx == t.1 && e.ty == t.2 && e.x1 == x && e.y1 == y &&
  decide ((wrapC ((h : Int) - e.hdg)).natAbs ≤ 50) &&
  decide ((x1 - e.x0) * (x1 - e.x0) + (y1 - e.y0) * (y1 - e.y0) ≤ 16000000)

/-- A span of a point: start, heading there, end, and whether it goes on with a stroke (R103, R104). -/
structure Span where
  pt : Nat
  x : Int
  y : Int
  hdg : Nat
  x1 : Int
  y1 : Int
  cont : Bool
  deriving DecidableEq, Repr, Inhabited

/-- Whether a span carries on an open journal entry of tile `t` (R118). -/
def Dev.jnlGoesOn (d : Dev) (sp : Span) (t : Int × Int) : Bool :=
  sp.cont && d.tpl.journal.any (fun e => e.extends sp.pt t sp.x sp.y sp.hdg sp.x1 sp.y1)

/-- Writes or carries on the journal entry of a span for a tile that is not resident (R118). -/
def Dev.journalSpan (d : Dev) (sp : Span) (t : Int × Int) : Dev :=
  if d.jnlGoesOn sp t then
    d.setJournal (d.tpl.journal.map (fun e =>
      if e.extends sp.pt t sp.x sp.y sp.hdg sp.x1 sp.y1 then { e with x1 := sp.x1, y1 := sp.y1 } else e))
  else
    d.setJournal (d.tpl.journal.map (fun e => if e.point == sp.pt && e.tx == t.1 && e.ty == t.2 then { e with opened := false } else e) ++
      [{ point := sp.pt, cont := sp.cont, tx := t.1, ty := t.2, x0 := sp.x, y0 := sp.y, x1 := sp.x1, y1 := sp.y1, hdg := sp.hdg,
         w := d.rd (PD.FOOT_W sp.pt), l := max (d.rd (PD.FOOT_L sp.pt)) (d.layerEdge 0) }])

/-- Makes the tile of a span ready where paint needs a slot for it: with no store it is created (R116), an absent tile of a failed
store becomes PROVISIONAL, and so does the tile named most by a full journal that needs a new entry (R120). False where no slot
can be had. -/
def Dev.readyTile (d : Dev) (now : Nat) (sp : Span) (t : Int × Int) (force : Bool) : Bool × Dev :=
  let fs := d.findSlot 0 t.1 t.2
  if (match fs with | some x => x.2.resident | none => false) then (true, d)
  else if fs.isNone && d.rd TPL.STORE_ACT = 3 then
    let k := d.takeSlot now 0 force false
    match k.1 with
    | some i => (true, k.2.createBlank now i 0 t.1 t.2)
    | none => (false, k.2)
  else if fs.isNone && !d.on TPL.STORE_OK then d.provisionalFor now t force
  else if d.jnlGoesOn sp t || d.tpl.journal.length < 2048 then (true, d)
  else match mostNamed d.tpl.journal with
    | none => (true, d)
    | some m => d.provisionalFor now m force

/-- Paints the cells of a span that lie in one tile, into the tile or into the journal (R118). -/
def Dev.paintTile (d : Dev) (now : Nat) (sp : Span) (cells : List (Int × Int)) (t : Int × Int) (force : Bool) : Bool × Dev :=
  let r := d.readyTile now sp t force
  if !r.1 then r
  else (true, match r.2.findSlot 0 t.1 t.2 with
    | some (i, s) => if s.resident then r.2.paintSlot now i (cellsOfTile cells t) else r.2.journalSpan sp t
    | none => r.2.journalSpan sp t)

/-- Paints one span (R103, R104), tile by tile: false, with nothing painted, where it waits for a slot, which the next T6 then makes
(R566, R131). -/
def Dev.paintSpan (d : Dev) (now : Nat) (sp : Span) (force : Bool) : Bool × Dev :=
  let c := d.layerEdge 0
  let cells := sweepCells c { x := sp.x, y := sp.y, hdg := sp.hdg, w := d.rd (PD.FOOT_W sp.pt), l := d.rd (PD.FOOT_L sp.pt) }
    (sp.x1 - sp.x) (sp.y1 - sp.y) sp.cont
  let r := ((tilesOf cells).filter (fun t => tileInRange t.1 t.2)).foldl (fun (a : Bool × Dev) t =>
    if a.1 then a.2.paintTile now sp cells t force else a) (true, d)
  if r.1 then r else (false, { d with tpl := { d.tpl with roomDue := true } })

/-! ### Painting a point (R98, R100, R101, R103) -/

/-- The ground times in (a, b] at which painting of point `n` may start, stop or change. -/
def Dev.paintMarks (d : Dev) (n a b : Nat) : List Nat :=
  let td := d.transport n
  let es := (d.paintOf n).edges.filterMap (fun e => if e.wait then none else e.t.map (· + td))
  let bk := match d.bankOfPt n with
    | none => []
    | some k => (d.cov.bankOff.filter (fun x => x.1 == k)).flatMap (fun x => [x.2.1, x.2.2])
  let nl := (d.noLoadOf n).flatMap (fun x => if x.2.2 = 0 then [x.2.1 + td] else [x.2.1 + td, x.2.2 + td])
  let fr := (d.geo.frames.zip d.geo.frames.tail).filterMap (fun q =>
    if q.1.valid.contains n != q.2.valid.contains n then some ((q.1.dt + q.2.dt) / 2) else none)
  (((es ++ bk ++ nl ++ fr ++ [b]).filter (fun t => decide (a < t) && decide (t ≤ b))).mergeSort (· ≤ ·)).dedup

/-- Applies the resolved edges of point `n` that reach the ground by `g`, in the order of their times. -/
def Dev.takeEdges (d : Dev) (n g : Nat) : Dev :=
  let td := d.transport n
  let due := fun (e : VEdge) => !e.wait && (match e.t with | some t => decide (t + td ≤ g) | none => true)
  d.modPaint n (fun p =>
    let es := (p.edges.filter due).mergeSort (fun a b => a.t.getD 0 ≤ b.t.getD 0)
    es.foldl (fun p e =>
      if e.isOpen then { p with applying := true, stroke := p.stroke && p.applying }
      else { p with applying := false, stroke := false }) { p with edges := p.edges.filter (fun e => !due e) })

/-- Paints point `n` over marks in rising order, up to the first span that must wait (R566). -/
def Dev.paintOver (d : Dev) (now n : Nat) (paintable : Bool) : List Nat → Dev
  | [] => d
  | g :: rest =>
    let p := d.paintOf n
    let mid := (p.upTo + g) / 2
    let ends := fun (d : Dev) (stroke : Bool) =>
      Dev.paintOver ((d.modPaint n (fun p => { p with upTo := g, stroke := stroke, heldAt := none })).takeEdges n g) now n paintable rest
    if !(paintable && p.applying) then ends d false
    else if !d.geoValidAt n mid || d.bankOffAt n mid || d.noLoadAt n mid then ends d false
    else match d.footAt n p.upTo, d.footAt n g with
      | some a, some b =>
        let force := match p.heldAt with | some t => decide (t + ms 1000 ≤ now) | none => false
        let r := d.paintSpan now { pt := n, x := a.1, y := a.2.1, hdg := a.2.2, x1 := b.1, y1 := b.2.1, cont := p.stroke } force
        if r.1 then ends r.2 true
        else r.2.modPaint n (fun p => { p with heldAt := some (p.heldAt.getD now) })
      | _, _ => ends d false

/-- Whether this module paints: a field is OPEN and its role in a pair does not keep it from the outputs (R445, R447). -/
def Dev.covPaints (d : Dev) : Bool :=
  d.rd COV.FIELD_STATE == 1 && !(d.pair.st == .seek || d.pair.st == .listen || d.pair.st == .joining)

/-- Painting of one point up to the newest instant that R98 and R100 allow, not later than the tick edge (R103). -/
def Dev.paintPoint (d : Dev) (now edge n : Nat) : Dev :=
  let d := (d.confCheck now n).tryClose now n
  let p := d.paintOf n
  let lim := p.edges.foldl (fun m e => if e.wait then min m (e.cmd + d.transport n) else m) edge
  if lim ≤ p.upTo then d
  else (d.takeEdges n p.upTo).paintOver now n d.covPaints (d.paintMarks n p.upTo lim)

/-- The painting of T3 (R103, R105), with PAINT_CMD_FALLBACK (R97). -/
def Dev.covPaint (d : Dev) (now edge : Nat) : Dev :=
  let pts := d.validPts
  (d.each pts (fun d n => d.paintPoint now edge n)).wr COV.PAINT_CMD_FALLBACK (pts.filter (fun n => d.cmdFallback n)).length

/-! ### Queries (R106, R117) -/

/-- MISS_POLICY of product `p`: 0 APPLY, 1 SKIP, 2 HOLD_LAST (Table 03.8). -/
def Dev.missPolicy (d : Dev) (p : Nat) : Nat :=
  let v := bitsOf (d.rd COV.MISS_POLICY) (2 * p) 2
  if v = 3 then 0 else v

/-- RX_MISS_IDX of product `p`. -/
def Dev.rxMissIdx (d : Dev) (p : Nat) : Nat :=
  if p < 4 then bitsOf (d.rd COV.RX_MISS_IDX0) (8 * p) 8 else bitsOf (d.rd COV.RX_MISS_IDX1) (8 * (p - 4)) 8

/-- Whether product `p` uses its prescription layer (R91). -/
def Dev.rxOn (d : Dev) (p : Nat) : Bool := bitOf (d.rd COV.RX_EN) p

/-- A coverage cell as a query sees it: none where its tile is a miss; 0x4 outside the addressable area (R89). -/
def Dev.covCell (d : Dev) (c : Int × Int) : Option Nat :=
  let t := tileOf c.1 c.2
  if !tileInRange t.1 t.2.1 then some 4
  else match d.findSlot 0 t.1 t.2.1 with
  | some x => if x.2.answers then some (x.2.cell t.2.2) else none
  | none => none

/-- The rate index of product `p` at a position (R90); none on an RX_MISS. -/
def Dev.rxCell (d : Dev) (p : Nat) (x y : Int) : Option Nat :=
  let t := tileOf (x / 1000) (y / 1000)
  if !tileInRange t.1 t.2.1 then none
  else match d.findSlot (p + 1) t.1 t.2.1 with
  | some s => if s.2.answers then some (s.2.cell t.2.2) else none
  | none => none

/-- `a` scaled from `n` to `m` cells, to the nearest (R117). -/
def scaleCount (a n m : Nat) : Nat := if n = 0 then 0 else (2 * a * m + n) / (2 * n)

/-- One query of point `n`, on or off, with GRID's answer (R106, Table 03.5). -/
def Dev.covQuery (d : Dev) (now n : Nat) (isOn : Bool) (f : Foot) (tgt : Bool × Bool) : QSample × Dev :=
  let p := d.rd (PD.PRODUCT n)
  let cells := footCells (d.layerEdge 0) f
  let q : QSample := { n := cells.length, tgt := tgt.1, tgtFb := tgt.2, cx := f.x, cy := f.y }
  if d.rd COV.FIELD_STATE != 1 then ({ q with noField := true, rx := d.rxMissIdx p }, d)
  else
    let vals := cells.map d.covCell
    let miss := vals.any (·.isNone)
    let vs := vals.map (·.getD 0)
    let last : LastQuery := tget (if isOn then d.cov.lastOn else d.cov.lastOff) n
    let hold := d.missPolicy p == 2
    let q := if miss then
        (if hold then { q with cov := scaleCount last.cov last.n q.n, excl := scaleCount last.excl last.n q.n,
                               head := scaleCount last.head last.n q.n, covMiss := true }
         else { q with covMiss := true })
      else { q with cov := (vs.filter (fun v => v % 4 != 0)).length, excl := (vs.filter (fun v => bitOf v 2)).length,
                    head := (vs.filter (fun v => bitOf v 3)).length }
    let rx := if d.rxOn p then d.rxCell p f.x f.y else some (d.rxMissIdx p)
    let q := match rx with
      | some v => { q with rx := v }
      | none => { q with rxMiss := true, rx := if hold then (tget? d.cov.lastRx n).getD (d.rxMissIdx p) else d.rxMissIdx p }
    let l : LastQuery := { n := q.n, cov := q.cov, excl := q.excl, head := q.head }
    let d := if miss then d
      else if isOn then { d with cov := { d.cov with lastOn := tset d.cov.lastOn n l } }
      else { d with cov := { d.cov with lastOff := tset d.cov.lastOff n l } }
    let d := if d.rxOn p && !q.rxMiss then { d with cov := { d.cov with lastRx := tset d.cov.lastRx n q.rx } } else d
    if q.covMiss || q.rxMiss then
      let d := d.bump COV.MISS_CNT
      if d.cov.missTick = some (d.tickCnt now) then (q, d)
      else (q, ({ d with cov := { d.cov with missTick := some (d.tickCnt now) } }).fire now EVT.COV_TILE_MISS n 0)
    else (q, d)

/-! ### Field sessions (R93 to R96) -/

/-- Every tile and journal entry discarded (R94, ABANDON). -/
def Dev.covDiscardAll (d : Dev) : Dev :=
  let k := (d.tpl.slots.filter (fun x => x.2.st == .dirty || x.2.st == .writeback || x.2.st == .provisional)).length
  let j := d.tpl.journal.length
  let d := (d.add COV.TILES_DISCARDED k).add COV.PAINT_LOST j
  { d with tpl := { d.tpl with slots := [], wanted := [], probes := [], refetch := [] } }.setJournal []

/-- A field begins at `now` (R94): its figures and its cache start empty. -/
def Dev.fieldBegin (d : Dev) (now : Nat) : Dev :=
  let d := (((d.wr COV.MISS_CNT 0).wr COV.CONF_TIMEOUTS 0).wr COV.CONF_NONE 0).wr COV.JNL_MAX 0
  let pts : Tab PtPaint := d.cov.paint.map (fun x => (x.1, { x.2 with upTo := max now x.2.upTo, stroke := false, heldAt := none }))
  let d := { d with cov := { d.cov with lastOn := [], lastOff := [], lastRx := [], paint := pts },
                    tpl := { d.tpl with slots := [], wanted := [], probes := [], refetch := [], pins := d.tpl.pins.filter (fun p => p.field == d.rd COV.FIELD_ID_ACT) } }
  d.selectStore now

/-- A field is opened (R94, R96) at `now` with the identity and cell size that stand. -/
def Dev.fieldOpen (d : Dev) (now : Nat) : Dev :=
  (((d.wr COV.FIELD_STATE 1).wr COV.FIELD_ID_ACT (d.rd COV.FIELD_ID)).wr COV.CELL_SIZE_ACT (d.rd COV.CELL_SIZE)).fieldBegin now

/-- The field enters CLOSING (R94). -/
def Dev.fieldClosing (d : Dev) (now : Nat) : Dev :=
  let d := d.wr COV.FIELD_STATE 2
  (if d.rd TPL.STORE_ACT = 3 then d.closeWithoutStore else d).flushCheck now

/-- The field is abandoned (R94). -/
def Dev.fieldAbandon (d : Dev) : Dev := (d.covDiscardAll).wr COV.FIELD_STATE 0

/-- FIELD_CMD written (R94); UPD_HOLD of its page keeps it as every field written under it (R26). -/
def Dev.fieldAsk (d : Dev) (now c : Nat) : Dev :=
  if c = 0 then d else { d with cov := { d.cov with cmd := c, cmdAt := now, cmdUnder := d.holdOn 0x030000 } }

/-- The FIELD_CMD acted on at a commit (R94). -/
def Dev.fieldCommand (d : Dev) (now : Nat) : Dev :=
  let c := if d.cov.cmdUnder then 0 else d.cov.cmd
  let st := d.rd COV.FIELD_STATE
  let d := { d with cov := { d.cov with cmd := if d.cov.cmdUnder then d.cov.cmd else 0 } }
  if c = 0 then d
  else if c = 1 && st == 0 then (d.fieldOpen now).wr COV.CMD_IGNORED 0
  else if c = 2 && st == 1 then (d.fieldClosing now).wr COV.CMD_IGNORED 0
  else if c = 3 && st != 0 then d.fieldAbandon.wr COV.CMD_IGNORED 0
  else d.wr COV.CMD_IGNORED 1

/-- FIELD_ID_ACT and CELL_SIZE_ACT follow the values applied while CLOSED (R95, Table 03.14). -/
def Dev.fieldFollow (d : Dev) : Dev :=
  if d.rd COV.FIELD_STATE = 0 then (d.wr COV.FIELD_ID_ACT (d.rd COV.FIELD_ID)).wr COV.CELL_SIZE_ACT (d.rd COV.CELL_SIZE) else d

/-- A FIELD_ORIGIN change was committed (R95): an open field enters CLOSING. -/
def Dev.fieldAbort (d : Dev) (now : Nat) : Dev :=
  if d.rd COV.FIELD_STATE = 1 then (d.wr COV.FIELD_STATE 1).fire now EVT.COV_FIELD_ABORT 0 0 |>.fieldClosing now else d

/-- A point is made new (R78): its edges, stroke and held counts start afresh at `now`. -/
def Dev.covRenew (d : Dev) (now n : Nat) : Dev :=
  { d with cov := { d.cov with paint := tset d.cov.paint n { upTo := now }, lastOn := tdel d.cov.lastOn n,
                               lastOff := tdel d.cov.lastOff n, lastRx := tdel d.cov.lastRx n } }

/-! ### Bank suspensions (R101) -/

/-- A bank's suspension begins at `t`. -/
def Dev.covBankOff (d : Dev) (b t : Nat) : Dev :=
  { d with cov := { d.cov with bankOff := d.cov.bankOff ++ [(b, t, 0)] } }

/-- A bank's suspension ends at `t`; ended ones older than the pose history are dropped. -/
def Dev.covBankOn (d : Dev) (b t : Nat) : Dev :=
  let l := (d.cov.bankOff.filter (fun x => x.2.2 == 0 || decide (t < x.2.2 + sec 4))).map
    (fun x => if x.1 == b && x.2.2 == 0 then (x.1, x.2.1, t) else x)
  { d with cov := { d.cov with bankOff := l } }

/-- The on-state diagnostics of load switch `k` no longer show load current, from `t` on (R97). -/
def Dev.covNoLoad (d : Dev) (k t : Nat) : Dev :=
  if d.cov.noLoad.any (fun x => x.1 == k && x.2.2 == 0) then d
  else
    let d := match d.ptOfCh 2 k with | some n => d.mirrorLoad n false t | none => d
    { d with cov := { d.cov with noLoad := d.cov.noLoad ++ [(k, t, 0)] } }

/-- They show it again from `t` on, or a new switch-on begins at `t` (`fresh`); times older than the pose history are dropped. -/
def Dev.covLoad (d : Dev) (k t : Nat) (fresh : Bool) : Dev :=
  let d := match d.ptOfCh 2 k with
    | some n => if !fresh && d.cov.noLoad.any (fun x => x.1 == k && x.2.2 == 0) then d.mirrorLoad n true t else d
    | none => d
  let l := (d.cov.noLoad.filter (fun x => x.2.2 == 0 || decide (t < x.2.2 + sec 11))).map
    (fun x => if x.1 == k && x.2.2 == 0 then (x.1, x.2.1, t) else x)
  { d with cov := { d.cov with noLoad := l } }

/-! ### Host actions -/

/-- PEEK_Y written (Table 03.14): the cell at (PEEK_X, y) is sampled. PEEK_CELL and PEEK_RX read 0 where they are not valid (log
entry 121). -/
def Dev.covPeek (d : Dev) (y : Int) : Dev :=
  let x := d.rdS COV.PEEK_X
  let c : Int := d.layerEdge 0
  let t := tileOf (x / c) (y / c)
  let cell := if tileInRange t.1 t.2.1 then
      (match d.findSlot 0 t.1 t.2.1 with | some s => if s.2.answers then some (s.2.cell t.2.2) else none | none => none) else none
  let rx := d.rxCell 0 x y
  let d := (d.wr COV.PEEK_CELL (cell.getD 0)).wr COV.PEEK_RX (rx.getD 0)
  (d.wrB COV.PEEK_RES cell.isSome).wrB COV.PEEK_RX_RES rx.isSome

/-! ### Commands -/

/-- FIELD_OPEN, R94: OPEN is written to FIELD_CMD and acted on at the next commit. -/
def execFieldOpen (el : Nat) (s : State) : Host.Outcome State Fault Refusal :=
  s.run el (fun now d => if d.hif.inService then d.fieldAsk now 1 else d)

/-- FIELD_CLOSE, R94. -/
def execFieldClose (el : Nat) (s : State) : Host.Outcome State Fault Refusal :=
  s.run el (fun now d => if d.hif.inService then d.fieldAsk now 2 else d)

/-- FIELD_ABANDON, R94. -/
def execFieldAbandon (el : Nat) (s : State) : Host.Outcome State Fault Refusal :=
  s.run el (fun now d => if d.hif.inService then d.fieldAsk now 3 else d)

/-- CONF_TIMEOUT, R100: CONF_WAIT has passed for edges of a point. -/
def execConfTimeout (el : Nat) (pt : Fin 1024) (s : State) : Host.Outcome State Fault Refusal :=
  s.run el (fun now d => if d.ticking && d.on (PD.VALID pt.val) then d.confCheck now pt.val else d)

/-- A span of point `n` has been held for 1,000 ms (R566): room is made at once as if STORE_OK were clear; the next T3 paints it. -/
def Dev.heldDue (d : Dev) (now : Nat) : Dev :=
  if (d.freeSlot 0).isSome then d else (d.takeSlot now 0 true false).2

/-- HELD_SPAN_TIMEOUT, R566: a span has been held for 1,000 ms. -/
def execHeldSpanTimeout (el : Nat) (pt : Fin 1024) (s : State) : Host.Outcome State Fault Refusal :=
  s.run el (fun now d =>
    match (d.paintOf pt.val).heldAt with
    | some t => if d.ticking && decide (t + ms 1000 ≤ now) then d.heldDue now else d
    | none => d)

/-- COV_PEEK, R132. -/
def execCovPeek (el : Nat) (x y : BitVec 32) (s : State) : Host.Outcome State Fault Refusal :=
  s.run el (fun _ d => if d.hif.inService then (d.wr COV.PEEK_X x.toNat).covPeek y.toInt else d)

end Sys2Proof.Machine
end

