-- ==== Sys2Proof/Machine/Net.lean ====
section
/-! DEFINITION. The fusion network (R266, R267, R270, R271): its image, the checks of a load, its arithmetic and its load on
the array. -/

namespace Sys2Proof.Machine

/-- The window of the network image. -/
def netBase : Nat := 0x600000

/-- A word of the image. -/
def Dev.netWord (d : Dev) (ofs : Nat) : Nat := memGetWord d.mem (netBase + ofs)

/-- A signed byte. -/
def int8 (v : Nat) : Int := toS 8 v

/-- A layer descriptor with its arrays (Table 08.5). -/
def Dev.netLayer (d : Dev) (k : Nat) : NetLayer :=
  let o := 0x40 + 16 * k
  let w0 := d.netWord o
  let nIn := bitsOf (d.netWord (o + 4)) 0 16
  let nOut := bitsOf (d.netWord (o + 4)) 16 16
  let wo := d.netWord (o + 8)
  let bo := d.netWord (o + 12)
  { net := bitsOf w0 0 2, relu := bitOf w0 8, shift := bitsOf w0 16 5, nIn := nIn, nOut := nOut,
    w := (List.range nOut).map (fun r => (memGetBytes d.mem (netBase + wo + r * nIn) nIn).map int8),
    b := (List.range nOut).map (fun r => toS 32 (d.netWord (bo + 4 * r))) }

/-- The layers of a sub-network, in descriptor order. -/
def FusionNet.sub (n : FusionNet) (k : Nat) : List NetLayer := n.layers.filter (fun l => l.net == k)

/-- Inputs and outputs of sub-network `k` (R267). -/
def FusionNet.shape (n : FusionNet) (k : Nat) : Nat × Nat :=
  match k with
  | 0 => (36, n.emb)
  | 1 => (n.emb + 9, 8)
  | 2 => (8, n.nClass)
  | _ => (n.emb, n.nClass)

/-- Whether each layer takes as many values as the one before it gives. -/
def chained : List NetLayer → Bool
  | a :: b :: r => a.nOut == b.nIn && chained (b :: r)
  | _ => true

/-- M_x of R271: multiplications of sub-network `k`. -/
def FusionNet.macsOf (n : FusionNet) (k : Nat) : Nat := ((n.sub k).map (fun l => l.nIn * l.nOut)).sum

/-- Operations of one feature cell in the estimate (R271). -/
def FusionNet.estMacs (n : FusionNet) : Nat := n.macsOf 0 + 2 * (n.macsOf 1 + n.macsOf 2 + n.macsOf 3)

/-- TRIG_DIV, 0 held at 1. -/
def Dev.trigDiv (d : Dev) : Nat := max 1 (d.rd GRID.TRIG_DIV)

/-- Tiles per second of a set of sources, times TRIG_DIV (R271). -/
def Dev.tileRate (d : Dev) (srcs : List Nat) : Nat :=
  (srcs.map (fun s => if d.on (CAM.TIMING s) then d.trigDiv * d.rd (CAM.EXP_RATE s) else rateHz (d.rd SYS.TICK_RATE_ACT))).sum

/-- The estimate of R271 for a set of sources, in MAC/s times TRIG_DIV. -/
def Dev.loadEst (d : Dev) (n : FusionNet) (srcs : List Nat) : Nat := d.tileRate srcs * 16384 * n.estMacs

/-- Whether an estimate is within the limit of 307.2 GMAC/s. -/
def Dev.loadFits (d : Dev) (n : FusionNet) (srcs : List Nat) : Bool := decide (d.loadEst n srcs ≤ 307200000000 * d.trigDiv)

/-- The sources that run: enabled and not out of service. -/
def Dev.gridSrcs (d : Dev) : List Nat := (List.range 16).filter (fun s => d.on (GRID.SRC_EN s) && d.rd (GRID.SRC_ERR s) != 4)

/-- The image in the window, checked in the order of Table 08.8: the refusal code, or the network. -/
def Dev.netCheck (d : Dev) : Nat × FusionNet :=
  let h0 := d.netWord 0
  let nl := bitsOf h0 24 8
  let h1 := d.netWord 4
  let len := d.netWord 8
  if len < 0x40 + 16 * nl || 1048576 < len then (1, {})
  else if crc32 (memGetBytes d.mem (netBase + 0x40) (len - 0x40)) != d.netWord 12 then (2, {})
  else
    let emb := bitsOf h1 0 8
    let nc := bitsOf h1 8 3
    let ks := List.range nl
    let res := bitsOf h1 11 21 != 0 || (List.range 12).any (fun i => d.netWord (0x10 + 4 * i) != 0) ||
      ks.any (fun k => let w := d.netWord (0x40 + 16 * k)
                       bitsOf w 2 6 != 0 || bitsOf w 9 7 != 0 || bitsOf w 21 11 != 0)
    let dims := ks.any (fun k => let w := d.netWord (0x44 + 16 * k)
                                 let a := bitsOf w 0 16
                                 let b := bitsOf w 16 16
                                 a == 0 || decide (256 < a) || b == 0 || decide (256 < b))
    if bitsOf h0 0 16 != 1 || nl < 4 || 32 < nl || emb < 8 || 64 < emb || nc < 1 || 4 < nc || res || dims then (3, {})
    else
      let net : FusionNet := { featFmt := bitsOf h0 16 8, emb := emb, nClass := nc, layers := ks.map d.netLayer }
      let okSub := fun (k : Nat) =>
        match net.sub k with
        | [] => false
        | l :: r => l.nIn == (net.shape k).1 && ((l :: r).getLast?.map (·.nOut)) == some (net.shape k).2 && chained (l :: r)
      let range := ks.any (fun k =>
        let o := 0x40 + 16 * k
        let w := d.netWord (o + 4)
        let a := bitsOf w 0 16
        let b := bitsOf w 16 16
        decide (len < d.netWord (o + 8) + a * b) || decide (len < d.netWord (o + 12) + 4 * b))
      if !(List.range 4).all okSub then (4, {})
      else if range then (5, {})
      else if !d.loadFits net d.gridSrcs then (6, {})
      else (0, net)

/-! ### Arithmetic (R267) -/

/-- sat_int8 of R267. -/
def satInt8 (v : Int) : Int := max (-128) (min 127 v)

/-- One output of a layer. -/
def NetLayer.out (l : NetLayer) (x : List Int) (w : List Int) (b : Int) : Int :=
  let acc := toS 32 (ofS 32 (b + ((w.zip x).map (fun p => p.1 * p.2)).sum))
  let y := satInt8 (if l.shift = 0 then acc else (acc + 2 ^ (l.shift - 1)) / 2 ^ l.shift)
  if l.relu then max y 0 else y

/-- A layer applied to its inputs. -/
def NetLayer.run (l : NetLayer) (x : List Int) : List Int := (l.w.zip l.b).map (fun p => l.out x p.1 p.2)

/-- A sub-network applied to its inputs. -/
def FusionNet.eval (n : FusionNet) (k : Nat) (x : List Int) : List Int := (n.sub k).foldl (fun v l => l.run v) x

/-- Scores of HEAD or AUD (R267): class k in byte k, 0 for classes beyond N_CLASS. -/
def FusionNet.scores (n : FusionNet) (k : Nat) (x : List Int) : Nat :=
  ((n.eval k x).take n.nClass).zipIdx.foldl (fun a p => a + (p.1 + 128).toNat % 256 * 2 ^ (8 * p.2)) 0

/-- Class `k` of a score word. -/
def classOf (score k : Nat) : Nat := bitsOf score (8 * k) 8

/-- Class by class, `f` of two score words. -/
def scoreMap (f : Nat → Nat → Nat) (a b : Nat) : Nat :=
  (List.range 4).foldl (fun acc k => acc + f (classOf a k) (classOf b k) * 2 ^ (8 * k)) 0

end Sys2Proof.Machine
end

