-- ==== Sys2Proof/Machine/Grid.lean ====
section
/-! DEFINITION. The target layer, target queries, and the health and service of GRID's sources (R268, R272 to R284). -/

namespace Sys2Proof.Machine

/-- Whether GRID runs (R291, R292). -/
def Dev.gridRuns (d : Dev) : Bool := d.on GRID.GRID_EN && d.pgEn 0x038000 && d.pwr.mode != .plain && d.ticking

/-! ### Target blocks (R272, Table 08.6) -/

/-- The meta word of a target cell. -/
def TCell.meta_ (c : TCell) : Nat :=
  c.age + 2 ^ 8 * b2n c.valid + 2 ^ 9 * b2n c.decided + 2 ^ 10 * b2n c.recUpd + 2 ^ 12 * c.lastSrc + 2 ^ 16 * c.mask

/-- The block that holds a ground cell. -/
def Dev.blockOf (d : Dev) (g : Int × Int) : Option TBlock :=
  d.grid.blocks.find? (fun b => b.bx == g.1 / 32 && b.by_ == g.2 / 32)

/-- The index of a ground cell in its block. -/
def cellIdx (g : Int × Int) : Nat := (32 * (g.2 % 32) + g.1 % 32).toNat

/-- A ground cell; none where no block holds it. -/
def Dev.tcell (d : Dev) (g : Int × Int) : Option TCell := (d.blockOf g).map (fun b => tget b.cells (cellIdx g))

/-- The target blocks, with BLK_USED and BLK_MAX. -/
def Dev.setBlocks (d : Dev) (bs : List TBlock) : Dev :=
  let d := ({ d with grid := { d.grid with blocks := bs } }).wrU GRID.BLK_USED bs.length
  if d.rd GRID.BLK_MAX < bs.length then d.wrU GRID.BLK_MAX bs.length else d

/-- Sets a ground cell in the block that holds it. -/
def Dev.setTcell (d : Dev) (g : Int × Int) (c : TCell) : Dev :=
  { d with grid := { d.grid with
    blocks := d.grid.blocks.map (fun b => if b.bx == g.1 / 32 && b.by_ == g.2 / 32 then { b with cells := tset b.cells (cellIdx g) c } else b) } }

/-- The target layer cleared (R276). -/
def Dev.clearLayer (d : Dev) : Dev := d.setBlocks []

/-- POS_F of a point: the centre of its footprint (R142). -/
def Dev.posF (d : Dev) (n : Nat) : Int × Int :=
  let g : PtGeo := tget d.geo.pts n
  let fx := d.rdS (PD.FOOT_DX n)
  let fy := d.rdS (PD.FOOT_DY n)
  (g.x + fxRound (fx * sinC g.strHdg - fy * cosC g.strHdg), g.y + fxRound (fx * cosC g.strHdg + fy * sinC g.strHdg))

/-- What blocks are judged against in R273: position, heading and half the footprint's length, in 2^-48 mm, of each point of
a spot product, or of the vehicle. -/
def Dev.retireRefs (d : Dev) : List (Int × Int × Nat × Int) :=
  let ps := d.validPts.filter (fun n => d.on (DEC.SPOT_EN (d.rd (PD.PRODUCT n))))
  if ps.isEmpty then [(d.pose.pose.x, d.pose.pose.y, d.pose.pose.hdg, 0)]
  else ps.map (fun n => ((d.posF n).1, (d.posF n).2, (tget d.geo.pts n).trHdg, (d.rd (PD.FOOT_L n) : Int) * fxOne / 2))

/-- How far ahead of the nearest edge of retirement a block reaches, in 2^-48 mm: below -RETIRE_DIST it may be retired. -/
def blockAhead (refs : List (Int × Int × Nat × Int)) (b : TBlock) : Int :=
  let vs := refs.flatMap (fun r => [(0, 0), (640, 0), (0, 640), (640, 640)].map (fun (o : Int × Int) =>
    (640 * b.bx + o.1 - r.1) * sinC r.2.2.1 + (640 * b.by_ + o.2 - r.2.1) * cosC r.2.2.1 + r.2.2.2))
  vs.foldl max (vs.headD 0)

/-- Whether R273 would retire a block now. -/
def Dev.retirable (d : Dev) (refs : List (Int × Int × Nat × Int)) (b : TBlock) : Bool :=
  decide (blockAhead refs b < -((d.rd GRID.RETIRE_DIST : Int) * fxOne))

/-- The target record of a retired block (R273). -/
def Dev.targetRecord (d : Dev) (now : Nat) (b : TBlock) : List Nat :=
  let head := match d.grid.net with
    | some n => fun (l : List Int) => n.scores 2 l
    | none => fun _ => 0
  wordsToBytes ([0x22, ofS 16 b.bx + 2 ^ 16 * ofS 16 b.by_, nsOf now % 2 ^ 32, nsOf now / 2 ^ 32 % 2 ^ 32] ++
    (List.range 1024).flatMap (fun k => let c : TCell := tget b.cells k
                                        [c.score, head c.latent, c.meta_]))

/-- Block retirement in T6 (R273). -/
def Dev.gridRetire (d : Dev) (now : Nat) : Dev :=
  let refs := d.retireRefs
  let out := d.grid.blocks.filter (d.retirable refs)
  let d := d.setBlocks (d.grid.blocks.filter (fun b => !d.retirable refs b))
  if d.on GRID.TGT_LOG_EN then
    d.each (out.filter (fun b => b.cells.any (fun (x : Nat × TCell) => x.2.valid))) (fun d b => d.kspSend 0 4 (d.targetRecord now b))
  else d

/-- A block for a ground cell that has none (R272): a free one, or the most-behind one that may be retired. False where
there is none, which is counted; and where the cell lies beyond WIN_AHEAD, which is not. -/
def Dev.allocBlock (d : Dev) (now : Nat) (g : Int × Int) : Bool × Dev :=
  let dx := 20 * g.1 + 10 - d.pose.pose.x
  let dy := 20 * g.2 + 10 - d.pose.pose.y
  let lim : Int := d.rd GRID.WIN_AHEAD
  if lim * lim < dx * dx + dy * dy then (false, d)
  else
    let new : TBlock := { bx := g.1 / 32, by_ := g.2 / 32 }
    if d.grid.blocks.length < 172 then (true, d.setBlocks (d.grid.blocks ++ [new]))
    else
      let refs := d.retireRefs
      let cand := (d.grid.blocks.filter (d.retirable refs)).foldl (fun (best : Option TBlock) b =>
        match best with
        | none => some b
        | some x => if blockAhead refs b < blockAhead refs x then some b else some x) none
      match cand with
      | some b => (true, d.setBlocks (d.grid.blocks.filter (fun x => !(x.bx == b.bx && x.by_ == b.by_)) ++ [new]))
      | none =>
        let d := d.bump GRID.WIN_FULL
        if secPassed d.grid.fullEvt now then
          (false, ({ d with grid := { d.grid with fullEvt := some now } }).fire now EVT.GRID_WIN_FULL 0 0)
        else (false, d)

/-! ### Target queries (R277, R278) -/

/-- Whether some enabled class of product `p` reaches its threshold. -/
def Dev.isTarget (d : Dev) (p : Nat) (c : TCell) : Bool :=
  c.valid && (List.range 4).any (fun k => bitOf (d.rd (GRID.CLASS_EN p)) k && decide (classOf (d.rd (GRID.TGT_THR p)) k ≤ classOf c.score k))

/-- The answer to a target query of point `n`, on or off: TGT is PRESENT, and TGT_FB. The cells it reads are DECIDED. -/
def Dev.gridTgt (d : Dev) (n : Nat) (isOn : Bool) (f : Foot) : (Bool × Bool) × Dev :=
  let p := d.rd (PD.PRODUCT n)
  if !d.on (DEC.SPOT_EN p) then ((false, false), d)
  else
    let cells := footCells 20 f
    let mode := d.rd GRID.GRID_MODE
    let dark := mode == 0 || mode == 3 || (mode == 1 && d.on (GRID.AUDIT_FB p))
    let seen := cells.filterMap (fun g => (d.tcell g).map (fun c => (g, c)))
    let nt := if dark then 0 else (seen.filter (fun x => d.isTarget p x.2)).length
    let nc := if dark then cells.length else cells.length - (seen.filter (fun x => x.2.valid)).length
    let d := d.each seen (fun d x => d.setTcell x.1 { x.2 with decided := true })
    let key := 2 * n + b2n isOn
    let keep := fun (d : Dev) (v : Bool) => ((v, false), ({ d with grid := { d.grid with lastTgt := tset d.grid.lastTgt key (b2n v) } } : Dev))
    if max 1 (d.rd (GRID.TGT_MIN p)) ≤ nt then keep d true
    else if d.rdH 1 100 (GRID.NOCOV_FRAC p) * cells.length ≤ 100 * nc then
      match d.rd (GRID.FALLBACK p) with
      | 1 => ((false, true), d)
      | 2 => (((tget? d.grid.lastTgt key).getD 1 == 1, true), d)
      | _ => ((true, true), d)
    else keep d false

/-- The last answers of a point are forgotten (R277): it was bound, or SPOT_EN of its product was set. -/
def Dev.tgtForget (d : Dev) (n : Nat) : Dev :=
  { d with grid := { d.grid with lastTgt := d.grid.lastTgt.filter (fun x => x.1 / 2 != n) } }

/-! ### Health (R279 to R281) -/

/-- The state of source `s` beside its registers. -/
def Dev.gsrc (d : Dev) (s : Nat) : GridSrc := tget d.grid.src s

/-- Source `s` changed by `f`. -/
def Dev.modSrc (d : Dev) (s : Nat) (f : GridSrc → GridSrc) : Dev := { d with grid := { d.grid with src := tmod d.grid.src s f } }

/-- HEALTH of source `s` set, with the masks that show it. -/
def Dev.setHealth (d : Dev) (s h : Nat) : Dev :=
  let d := (d.wr (GRID.HEALTH s) h).modSrc s (fun g => { g with inState := 0, failRun := 0, passed := false })
  let d := d.wr GRID.SRC_OK_MASK (setBitOf (d.rd GRID.SRC_OK_MASK) s (h == 2))
  d.wr GRID.SRC_SUSPECT_MASK (setBitOf (d.rd GRID.SRC_SUSPECT_MASK) s (h == 3))

/-- GRID_MODE set, with its event at a change (R282). -/
def Dev.setGridMode (d : Dev) (now m : Nat) : Dev :=
  let d := if m = 1 then d else d.wr GRID.AUDIT_CAUSE 0
  if d.rd GRID.GRID_MODE = m then d else (d.wr GRID.GRID_MODE m).fire now EVT.GRID_MODE 0 m

/-- Entry into AUDIT, or another cause in it (R282): sources are judged afresh. -/
def Dev.enterAudit (d : Dev) (now cause : Nat) : Dev :=
  if d.gridRuns && d.on GRID.NET_OK then
    let d := { d with grid := { d.grid with src := d.grid.src.map (fun (x : Nat × GridSrc) => (x.1, { x.2 with passed := false })) } }
    (d.setGridMode now 1).wr GRID.AUDIT_CAUSE cause
  else d

/-- A source enters SUSPECT (R280, R281). -/
def Dev.suspect (d : Dev) (now s cause : Nat) : Dev :=
  if d.rd (GRID.HEALTH s) = 0 ∨ d.rd (GRID.HEALTH s) = 3 then d
  else
    let d := ((d.setHealth s 3).wr (GRID.SUS_CAUSE s) cause).modSrc s (fun g => { g with badRun := 0, goodRun := 0, lifted := decide (cause ≤ 2) })
    let d := { d with grid := { d.grid with clearDue := setBitOf d.grid.clearDue s true } }
    (d.fire now EVT.GRID_SRC_SUSPECT s 3).enterAudit now 3

/-- The undecided cells that a source which entered SUSPECT has updated are cleared (R281). -/
def Dev.clearSuspect (d : Dev) : Dev :=
  let m := d.grid.clearDue
  if m = 0 then d
  else
    let bs : List TBlock := d.grid.blocks.map (fun (b : TBlock) => { b with cells := b.cells.map (fun (x : Nat × TCell) =>
      if !x.2.decided && (x.2.mask &&& m) != 0 then (x.1, { x.2 with score := 0, latent := ({} : TCell).latent, age := 0, mask := 0, valid := false })
      else x) })
    { d with grid := { d.grid with blocks := bs, clearDue := 0 } }

/-- The expected tiles per second of a source, times TRIG_DIV, at a tick rate in Hz (Table 08.3). -/
def Dev.expRate (d : Dev) (hz s : Nat) : Nat := if d.on (CAM.TIMING s) then d.trigDiv * d.rd (CAM.EXP_RATE s) else hz

/-- Shared and contradicting updates of a pair, both directions, in the running window. -/
def Dev.pairWin (d : Dev) (s t : Nat) : Nat × Nat :=
  let v := fun (m : KMap) => (tget? m (16 * s + t)).getD 0 + (tget? m (16 * t + s)).getD 0
  (v d.grid.shared - v d.grid.shared0, v d.grid.contra - v d.grid.contra0)

/-- Whether a pair overlaps in the running window (R280). -/
def Dev.pairOverlaps (d : Dev) (s t : Nat) : Bool := s != t && decide (d.rd GRID.CONS_MIN_CELLS ≤ (d.pairWin s t).1)

/-- Whether a pair disagrees in the running window (R280). -/
def Dev.pairDisagrees (d : Dev) (s t : Nat) : Bool :=
  d.pairOverlaps s t && decide (d.rd GRID.CONS_MAX_PCT * (d.pairWin s t).1 < 100 * (d.pairWin s t).2)

/-- The partners with which a source disagrees. -/
def Dev.partners (d : Dev) (s : Nat) : List Nat := (List.range 16).filter (fun t => d.pairDisagrees s t)

/-- The source made suspect by consistency (Table 08.11): of those that disagree with two or more partners that agree among
themselves, the one with the highest contradiction fraction. -/
def Dev.consSuspect (d : Dev) : Option Nat :=
  let ok := fun (s : Nat) =>
    let h := d.rd (GRID.HEALTH s)
    let ps := d.partners s
    (h == 1 || h == 2 || h == 4) && decide (2 ≤ ps.length) && ps.all (fun a => ps.all (fun b => !d.pairDisagrees a b))
  let frac := fun (s : Nat) => ((List.range 16).filter (fun t => d.pairOverlaps s t)).foldl (fun (a : Nat × Nat) t =>
    (a.1 + (d.pairWin s t).2, a.2 + (d.pairWin s t).1)) (0, 0)
  ((List.range 16).filter ok).foldl (fun (best : Option Nat) s =>
    match best with
    | none => some s
    | some b => if (frac b).1 * (frac s).2 < (frac s).1 * (frac b).2 then some s else best) none

/-- The rate rules for one source at a window's end (R280): rows 1 of Table 08.11 and the ways out of SUSPECT. -/
def Dev.rateJudge (d : Dev) (now hz s : Nat) : Dev :=
  let h := d.rd (GRID.HEALTH s)
  let tiles := (d.gsrc s).cur.tiles
  let d := d.wrU (GRID.RATE_LAST s) tiles
  let den := if d.on (CAM.TIMING s) then 1 else d.trigDiv
  let num := if d.on (CAM.TIMING s) then d.rd (CAM.EXP_RATE s) else hz
  let good := decide (d.rd GRID.RATE_MIN_PCT * num ≤ 100 * tiles * den)
  if h = 0 then d
  else if h = 3 then
    let cause := d.rd (GRID.SUS_CAUSE s)
    let free := !d.on (GRID.SRC_FORCE s) && ((d.gsrc s).lifted || cause == 4)
    let d := d.modSrc s (fun g => { g with goodRun := if free && good then g.goodRun + 1 else 0 })
    if max 1 (d.rd GRID.RECOVER_S) ≤ (d.gsrc s).goodRun then
      ((d.setHealth s 4).modSrc s (fun g => { g with goodRun := 0, badRun := 0 })).enterAudit now 3
    else d
  else
    let d := d.modSrc s (fun g => { g with badRun := if good then 0 else g.badRun + 1 })
    if 2 ≤ (d.gsrc s).badRun then d.suspect now s 1 else d

/-- AUDIT_WIN, held at 1 and 60. -/
def Dev.auditWin (d : Dev) : Nat := d.rdH 1 60 GRID.AUDIT_WIN

/-- The measures of a source over the last AUDIT_WIN windows (R283). -/
def Dev.auditSum (d : Dev) (s : Nat) : SrcWin :=
  ((d.gsrc s).past.take d.auditWin).foldl (fun (a : SrcWin) w =>
    { tiles := a.tiles + w.tiles, agree := a.agree + w.agree, total := a.total + w.total, res := a.res + w.res, pairs := a.pairs + w.pairs }) {}

/-- The judgement of one source in AUDIT (R284), by the tiles of the window that ends. With no ground update to compare, AGREE is a free value. -/
def Dev.auditJudge (d : Dev) (now s : Nat) : Dev :=
  let h := d.rd (GRID.HEALTH s)
  let m := d.auditSum s
  let w := d.auditWin
  if (h = 2 ∨ h = 4) ∧ w ≤ (d.gsrc s).inState ∧ d.rd GRID.AUDIT_MIN_TILES ≤ ((d.gsrc s).past.headD {}).tiles then
    let ag := if m.total = 0 then ((d.draw 7).1 % 101, (d.draw 7).2) else (100 * m.agree / m.total, d)
    let res := if m.pairs = 0 then 0 else (2 * m.res + m.pairs) / (2 * m.pairs)
    let d := (ag.2.wrU (GRID.AGREE_LAST s) ag.1).wrU (GRID.RES_LAST s) res
    let cal := !(d.on CAL.CAL_EN && d.pgEn 0x039000) || bitOf (d.rd CAL.CAL_FIX) s || bitOf (d.rd CAL.CAL_CONV) s
    let pass := decide (d.rd GRID.AGREE_MIN ≤ ag.1) && (m.pairs == 0 || decide (res ≤ d.rd GRID.RES_MAX)) && cal
    if pass then
      let d := if h = 4 then (d.setHealth s 2).fire now EVT.GRID_SRC_OK s 2 else d
      d.modSrc s (fun g => { g with passed := true, failRun := 0 })
    else
      let d := d.modSrc s (fun g => { g with passed := false, failRun := g.failRun + 1 })
      if d.rd GRID.AUDIT_MAX ≤ (d.gsrc s).failRun then d.suspect now s 5 else d
  else d

/-- The judgement at a window's end in AUDIT, and entry into SERVICE (R284). -/
def Dev.auditEnd (d : Dev) (now : Nat) : Dev :=
  if d.rd GRID.GRID_MODE = 1 then
    let d := d.each (List.range 16) (fun d s => d.auditJudge now s)
    let live := (List.range 16).filter (fun s => d.rd (GRID.HEALTH s) == 2 || d.rd (GRID.HEALTH s) == 4)
    if live.any (fun s => d.rd (GRID.HEALTH s) == 2) && live.all (fun s => (d.gsrc s).passed) then d.setGridMode now 2 else d
  else d

/-- LOAD_ACT of the second that ends (R271). -/
def Dev.loadShow (d : Dev) : Dev := ({ d with grid := { d.grid with macs := 0 } }).wrU GRID.LOAD_ACT (roundDiv d.grid.macs 100000000)

/-- The end of the health window of tick `n` (R280): rates, consistency, contradicting pairs, audit. -/
def Dev.gridWindow (d : Dev) (now n : Nat) : Dev :=
  let hz := if d.grid.winHz = 0 then rateHz (d.rd SYS.TICK_RATE_ACT) else d.grid.winHz
  let pairs := (List.range 16).flatMap (fun s => ((List.range 16).filter (fun t => decide (s < t))).map (fun t => (s, t)))
  let dis := pairs.filter (fun p => d.pairDisagrees p.1 p.2)
  let cons := d.consSuspect
  let d := { d with grid := { d.grid with src := d.grid.src.map (fun (x : Nat × GridSrc) => (x.1, { x.2 with inState := x.2.inState + 1 })) } }
  let d := d.each (List.range 16) (fun d s => d.rateJudge now hz s)
  let d := match cons with | some s => d.suspect now s 2 | none => d
  let run : KMap := dis.map (fun p => (16 * p.1 + p.2, (tget? d.grid.pairRun (16 * p.1 + p.2)).getD 0 + 1))
  let d := if run.any (fun x => decide (3 ≤ x.2)) then d.enterAudit now 4 else d
  let d := { d with grid := { d.grid with
    pairRun := run.filter (fun x => decide (x.2 < 3)), shared0 := d.grid.shared, contra0 := d.grid.contra, winTick := some n,
    winHz := rateHz (d.rd SYS.TICK_RATE_ACT),
    src := d.grid.src.map (fun (x : Nat × GridSrc) => (x.1, { x.2 with past := (x.2.cur :: x.2.past).take 60, cur := {} })) } }
  d.loadShow.auditEnd now

/-- Whether a health window ends with tick `n` (R280). -/
def Dev.winEnds (d : Dev) (n : Nat) : Bool := (n + 1) % rateHz (d.rd SYS.TICK_RATE_ACT) == 0 && d.grid.winTick != some n

/-! ### Commits, loads and starts (R270, R271, R276, R282) -/

/-- The refusal of an enabled source with the candidate values of `c` (Table 08.14, SRC_ERR): codes 1 to 4, the lowest that
applies; `others` the sources enabled before it. -/
def srcCode (c : Dev) (others : List Nat) (s : Nat) : Nat :=
  let m := c.rd (CAM.MOUNT s)
  let bad := fun (v : Nat) => decide (v < 128) || decide (4096 < v)
  if !c.on (CAM.TIMING s) && decide (8 ≤ (others.filter (fun t => !c.on (CAM.TIMING t))).length) then 1
  else if m != 15 && (decide (7 < m) || !c.on (GEO.SEG_EN m)) then 2
  else if c.rd (CAM.FX s) = 0 || c.rd (CAM.FY s) = 0 || bad (c.rd (CAM.MAP_W s)) || bad (c.rd (CAM.MAP_H s)) then 3
  else match c.grid.net with
    | some n => if c.loadFits n (others ++ [s]) then 0 else 4
    | none => 0

/-- The source enables that a commit judges (R271): what stays admitted, and the code of each enable judged. -/
def Dev.gridStep (d : Dev) (adm : KMap) : KMap × List (Nat × Nat) :=
  (List.range 16).foldl (fun acc s =>
    if d.candOn acc.1 (GRID.SRC_EN s) && !d.on (GRID.SRC_EN s) then
      let c := d.applyAdm acc.1
      let others := c.gridSrcs.filter (fun t => d.on (GRID.SRC_EN t) || decide (t < s))
      let code := srcCode c others s
      (if code = 0 then acc.1 else tdel acc.1 (GRID.SRC_EN s).key, acc.2 ++ [(s, code)])
    else acc) (adm, [])

/-- Sources are taken out of service while the estimate exceeds the limit, the highest first (R271). -/
def Dev.gridShed : Nat → Dev → Nat → FusionNet → Dev
  | 0, d, _, _ => d
  | fuel + 1, d, now, n =>
    if d.loadFits n d.gridSrcs then d
    else match d.gridSrcs.getLast? with
      | none => d
      | some s => Dev.gridShed fuel (((d.wr (GRID.SRC_ERR s) 4).setHealth s 0).fire now EVT.GRID_SRC_SUSPECT s 0) now n

/-- LOAD_EST re-evaluated (R271): sources leave service, and those that had left before return where they fit. -/
def Dev.gridLoad (d : Dev) (now : Nat) : Dev :=
  match d.grid.net with
  | none => d.wr GRID.LOAD_EST 0
  | some n =>
    let out := (List.range 16).filter (fun s => d.on (GRID.SRC_EN s) && d.rd (GRID.SRC_ERR s) == 4)
    let d := Dev.gridShed 16 d now n
    let d := d.each out (fun d s =>
      if d.loadFits n (d.gridSrcs ++ [s]) then (d.wr (GRID.SRC_ERR s) 0).setHealth s 1 else d)
    d.wrU GRID.LOAD_EST (roundDiv (d.loadEst n d.gridSrcs) (100000000 * d.trigDiv : Nat))

/-- GRID_MODE follows GRID_EN and NET_OK (R282). -/
def Dev.gridFollow (d : Dev) (now : Nat) : Dev :=
  if d.gridRuns && d.on GRID.NET_OK then (if d.rd GRID.GRID_MODE = 0 then d.enterAudit now 1 else d)
  else d.setGridMode now 0

/-- GRID after a commit (R262, R271, R276, R280, R282); `codes` from the judgement of the enables, `old` the block before the
commit. -/
def Dev.gridReport (d : Dev) (now : Nat) (codes : List (Nat × Nat)) (old : Dev) : Dev :=
  let d := d.each codes (fun d x => d.wr (GRID.SRC_ERR x.1) x.2)
  let d := d.each (List.range 16) (fun d s =>
    let en := d.on (GRID.SRC_EN s)
    if en && !old.on (GRID.SRC_EN s) then (d.modSrc s (fun _ => {})).setHealth s 1
    else if !en && old.on (GRID.SRC_EN s) then (d.wr (GRID.SRC_ERR s) 0).setHealth s 0
    else if en && d.rd (GRID.SRC_ERR s) != 4 then
      let fresh := fun (t : Nat) => !old.on (GRID.SRC_EN t) || old.on (CAM.TIMING t)
      let others := (List.range 16).filter (fun t => t != s && d.on (GRID.SRC_EN t) && (if fresh s = fresh t then decide (t < s) else fresh s))
      d.wr (GRID.SRC_ERR s) (match srcCode d others s with | 4 => 0 | c => c)
    else d)
  let d := d.gridLoad now
  let d := d.each ((List.range 16).filter (fun s => d.on (GRID.SRC_FORCE s))) (fun d s => d.suspect now s 4)
  let d := if old.on GRID.GRID_EN && !d.on GRID.GRID_EN then d.clearLayer else d
  let d := d.each (List.range 8) (fun d p =>
    if d.on (DEC.SPOT_EN p) && !old.on (DEC.SPOT_EN p) then d.each (d.validPts.filter (fun n => d.rd (PD.PRODUCT n) == p)) Dev.tgtForget else d)
  d.gridFollow now

/-- NET_LOAD (R270): the image is checked; one that passes is taken over in the next T6. -/
def Dev.netLoad (d : Dev) (now : Nat) : Dev :=
  let r := d.netCheck
  let d := d.wr GRID.NET_ERR r.1
  if r.1 = 0 then { d with grid := { d.grid with netDue := some r.2 } } else d.fire now EVT.GRID_NET_REFUSED 0 r.1

/-- The copy of an accepted network in T6 (R270). -/
def Dev.netCopy (d : Dev) (now : Nat) : Dev :=
  match d.grid.netDue with
  | none => d
  | some n =>
    let d := ({ d with grid := { d.grid with net := some n, netDue := none } }).wr GRID.NET_OK 1
    (d.clearLayer.gridLoad now).enterAudit now 1

/-- KINDLE and Relight (R270, R276, R279, R282): the image in MRAM is loaded, the layer cleared, enabled sources wait. -/
def Dev.gridStart (d : Dev) (now : Nat) : Dev :=
  let d := ({ d with grid := { d.grid with held := [], waiting := [], clearDue := 0, netDue := none } }).freeCredits now
  let d := (d.clearLayer.netLoad now)
  let d := match d.grid.netDue with
    | some n => ({ d with grid := { d.grid with net := some n, netDue := none } }).wr GRID.NET_OK 1
    | none => d
  let d := d.each ((List.range 16).filter (fun s => d.on (GRID.SRC_EN s) && d.rd (GRID.SRC_ERR s) != 4)) (fun d s => (d.modSrc s (fun _ => {})).setHealth s 1)
  ((d.gridLoad now).setGridMode now 0).gridFollow now

/-- GRID stops (R276, R291): entry into EMBER, or into PLAIN. -/
def Dev.gridStop (d : Dev) (now : Nat) : Dev :=
  (({ d.clearLayer with grid := { d.clearLayer.grid with held := [], waiting := [] } }).freeCredits now).setGridMode now 0

/-! ### Triggers (R259, R260) -/

/-- TRG_PHASE in cycles, held at one period minus 10 µs. -/
def Dev.trgPhase (d : Dev) : Nat := min (us (10 * d.rd GRID.TRG_PHASE)) (d.sys.period - us 10)

/-- TRG_WIDTH in cycles: 0 held at 1 µs, and at half the trigger interval. -/
def Dev.trgWidth (d : Dev) : Nat := min (us (max 1 (d.rd GRID.TRG_WIDTH))) (d.trigDiv * d.sys.period / 2)

/-- CAMERA_TRIGGER (R259): the trigger of the newest tick that gives one, if its instant has come and it has not been given. -/
def Dev.camTrigger (d : Dev) (now : Nat) : Dev :=
  let k := d.tickCnt now - d.tickCnt now % d.trigDiv
  let t := d.edgeOf k + d.trgPhase
  let given := match d.grid.trigTick with | some j => decide (k ≤ j) | none => false
  if d.gridRuns && d.sys.gridOn && decide (d.sys.nEpoch ≤ k) && decide (t ≤ now) && !given then
    let pins := ((List.range 16).filter (fun s => d.on (GRID.SRC_EN s) && !d.on (CAM.TIMING s))).foldl (fun m s => setBitOf m (d.rd (CAM.TRG_PIN s)) true) 0
    { d with grid := { d.grid with trigCnt := d.grid.trigCnt + 1, trigPins := pins, trigTick := some k,
                                   trigs := (d.grid.trigCnt + 1, t) :: d.grid.trigs.filter (fun (x : Nat × Nat) => decide (now ≤ x.2 + sec 8)) } }
  else d

/-- The level of pin TRGn at `now`. -/
def Dev.trgLevel (d : Dev) (now n : Nat) : Bool :=
  (bitOf d.grid.trigPins n && match d.grid.trigs with | [] => false | x :: _ => decide (now < x.2 + d.trgWidth)) != d.on GRID.TRG_POL

/-! ### Readback (R292) -/

/-- PAIR_A and PAIR_B written: the counts of the pair. -/
def Dev.pairSnap (d : Dev) (a b : Nat) : Dev :=
  let v := fun (m : KMap) => if a = b then (tget? m (16 * a + b)).getD 0 else (tget? m (16 * a + b)).getD 0 + (tget? m (16 * b + a)).getD 0
  (((d.wr GRID.PAIR_A a).wr GRID.PAIR_B b).wrU GRID.CONTRA_CNT (v d.grid.contra)).wrU GRID.SHARED_CNT (v d.grid.shared)

/-- PEEK_Y written: the target cell at (PEEK_X, PEEK_Y). -/
def Dev.gridPeek (d : Dev) (y : Nat) : Dev :=
  let c := d.tcell (d.rdS GRID.PEEK_X / 20, toS 32 y / 20)
  let v := c.getD {}
  ((d.wr GRID.PEEK_SCORE v.score).wr GRID.PEEK_META v.meta_).wrB GRID.PEEK_RES c.isSome

end Sys2Proof.Machine
end

