-- ==== Sys2Proof/Machine/Dec.lean ====
section
/-! DEFINITION. Look-ahead and section decision (R134 to R168, R567): the queries of T3, the decisions of T4, their
commit, the stored latencies, and the commands of the family. Edge positions are in units of 10 µs. -/

namespace Sys2Proof.Machine

/-- The decision state of a point. -/
def Dev.decOf (d : Dev) (n : Nat) : PtDec := tget d.dec.pts n

/-- Changes the decision state of a point. -/
def Dev.modDec (d : Dev) (n : Nat) (f : PtDec → PtDec) : Dev := { d with dec := { d.dec with pts := tmod d.dec.pts n f } }

/-- GEO's outputs for a point. -/
def Dev.geoOf (d : Dev) (n : Nat) : PtGeo := tget d.geo.pts n

/-! ### The look-ahead footprint (R141, R142) -/

/-- L_on or L_off in cycles (R141). -/
def Dev.lookAhead (d : Dev) (n : Nat) (isOn : Bool) : Nat := d.latCycles n isOn + d.transport n

/-- `n / d` rounded to nearest, for a divisor of either sign. -/
def roundDivS (n d : Int) : Int := if d < 0 then roundDiv (-n) (-d) else roundDiv n d

/-- footprint_at of R142: `tau` cycles after T_ref. -/
def Dev.footprintAt (d : Dev) (n tau : Nat) : Foot :=
  let g := d.geoOf n
  let w := d.pose.pose.ozv
  let phi := rateToAngle (100 * w) tau
  let mv : Int × Int :=
    if w.natAbs * tau < 400000000 then (roundDiv (g.ve * tau) 400000000, roundDiv (g.vn * tau) 400000000)
    else
      let h := phi / 2
      let k := 20000 * sinA h
      (roundDivS ((g.ve * cosA h - g.vn * sinA h) * k) (w * fxOne * fxOne), roundDivS ((g.ve * sinA h + g.vn * cosA h) * k) (w * fxOne * fxOne))
  let hdg := (((g.strHdg : Int) - roundDiv phi 65536) % 36000).toNat
  let fx := d.rdS (PD.FOOT_DX n)
  let fy := d.rdS (PD.FOOT_DY n)
  { x := g.x + mv.1 + fxRound (fx * sinC hdg - fy * cosC hdg), y := g.y + mv.2 + fxRound (fx * cosC hdg + fy * sinC hdg),
    hdg := hdg, w := d.rd (PD.FOOT_W n), l := d.rd (PD.FOOT_L n) }

/-- T_ref integration of D_SINCE at a T2 (R149): `edge` is the tick edge, `dt` the time since the last T2. -/
def Dev.decSince (d : Dev) (edge dt n : Nat) : Dev :=
  let spd : Int := (d.geoOf n).spd
  d.modDec n (fun p =>
    match p.lastEdge with
    | some te => { p with dSince := spd * ((edge : Int) - te), lastEdge := if edge < te then some te else none }
    | none => { p with dSince := min 1717986918000000000 (p.dSince + spd * dt) })

/-- The queries of T3 for one point (R136, R142). -/
def Dev.decQuery (d : Dev) (now n : Nat) : Dev :=
  let fOn := d.footprintAt n (d.sys.period + d.winLen + d.lookAhead n true)
  let fOff := d.footprintAt n (d.sys.period + d.winLen + d.lookAhead n false)
  let ta := d.gridTgt n true fOn
  let a := ta.2.covQuery now n true fOn ta.1
  let tb := a.2.gridTgt n false fOff
  let b := tb.2.covQuery now n false fOff tb.1
  b.2.modDec n (fun p => { p with pOn := p.qOn, pOff := p.qOff, qOn := some a.1, qOff := some b.1 })

/-- DEC's T3 (R139, R165) of tick `k`; samples of a T3 that did not directly precede are dropped (R136). -/
def Dev.decT3 (d : Dev) (now edge k : Nat) : Dev :=
  let d := d.latApply now edge
  let d := if d.dec.t3Tick = some (k - 1) then d
    else { d with dec := { d.dec with pts := d.dec.pts.map (fun x => (x.1, { x.2 with qOn := none, qOff := none })) } }
  let d := d.each d.validPts (fun d n => d.decQuery now n)
  { d with dec := { d.dec with t3Tick := some k } }

/-! ### Footprint tests (R143, R146) -/

/-- The tests of Table 04.2, in its order. -/
inductive FootTest where
  | overlap | boundary | headland | zeroRx | target
  deriving DecidableEq, Repr, Inhabited

/-- All tests, in the order of Table 04.2. -/
def footTests : List FootTest := [.overlap, .boundary, .headland, .zeroRx, .target]

/-- REASON of a failing test (Table 04.9). -/
def FootTest.reason : FootTest → Nat
  | .overlap => 1 | .boundary => 2 | .headland => 3 | .zeroRx => 4 | .target => 5

/-- Whether a test is enabled for product `p`; `susp`: OVERLAP suspended by the pose policy. -/
def Dev.testOn (d : Dev) (p : Nat) (susp : Bool) : FootTest → Bool
  | .overlap => d.on (DEC.OVL_EN p) && !susp
  | .boundary => d.on (DEC.BND_EN p)
  | .headland => d.rd (DEC.HEAD_POLICY p) == 1 || d.rd (DEC.HEAD_POLICY p) == 2
  | .zeroRx => d.on (DEC.ZRX_EN p) && d.rxOn p
  | .target => d.on (DEC.SPOT_EN p)

/-- The rate table entry an index selects is zero. -/
def Dev.rxZero (d : Dev) (p rx : Nat) : Bool := d.rd (RT.RATE p rx) == 0

/-- Whether a test fails on a sample (Tables 04.2 and 04.3). -/
def Dev.testFails (d : Dev) (p : Nat) (q : QSample) : FootTest → Bool
  | .overlap => decide (d.rdPct (DEC.OVL_FRAC p) * q.n ≤ 100 * q.cov)
  | .boundary => decide (d.rdPct (DEC.BND_FRAC p) * q.n ≤ 100 * q.excl)
  | .headland =>
    if d.rd (DEC.HEAD_POLICY p) = 1 then decide (d.rdPct (DEC.HEAD_FRAC p) * q.n ≤ 100 * q.head)
    else decide (100 * q.head < d.rdPct (DEC.HEAD_FRAC p) * q.n)
  | .zeroRx => !q.noField && d.rxZero p q.rx
  | .target => !q.tgt

/-- Positions in one window (R44). -/
def Dev.positions (d : Dev) : Nat := d.winLen / 4000

/-- A position limited to the window (R148). -/
def Dev.limPos (d : Dev) (t : Int) : Nat := (max 0 (min ((d.positions : Int) - 1) t)).toNat

/-- t_i of a fraction test (R146): counts `c0` of `n0` and `c1` of `n1`, threshold `fr` percent. -/
def Dev.crossFrac (d : Dev) (fr c0 n0 c1 n1 : Nat) : Nat :=
  d.limPos (roundDivS ((d.positions : Int) * n1 * ((fr : Int) * n0 - 100 * c0)) (100 * ((c1 : Int) * n0 - (c0 : Int) * n1)))

/-- The crossings of 1 m cell edges between `a` and `b` along one axis, in units of 2^-32 of the way. -/
def edgeCrossings (a b : Int) : List Nat :=
  if a = b then []
  else
    let lo := min a b
    let hi := max a b
    let k0 := (lo + 999) / 1000
    let n := (hi / 1000 - k0 + 1).toNat
    (List.range n).map (fun (i : Nat) => (((k0 + (i : Int)) * 1000 - a) * 4294967296 / (b - a)).toNat)

/-- t_i of ZERO_RX (Table 04.2): the first cell edge between the two centres at which the entry changes between zero and
non-zero, or 0. -/
def Dev.crossZero (d : Dev) (p : Nat) (a b : QSample) : Nat :=
  let us := ((edgeCrossings a.cx b.cx ++ edgeCrossings a.cy b.cy).mergeSort (· ≤ ·)).dedup
  let at_ := fun (u : Nat) => d.rxZero p ((d.rxCell p (a.cx + (b.cx - a.cx) * u / 4294967296) (a.cy + (b.cy - a.cy) * u / 4294967296)).getD (d.rxMissIdx p))
  let segs := us.zip (us.tail ++ [4294967296])
  let start := d.rxZero p a.rx
  match segs.find? (fun s => at_ ((s.1 + s.2) / 2) != start) with
  | some s => d.limPos (roundDiv ((d.positions : Int) * s.1) 4294967296)
  | none => 0

/-- t_i of a test whose outcome changes from `a` to `b` (R146, Table 04.2). -/
def Dev.crossing (d : Dev) (p : Nat) (a b : QSample) : FootTest → Nat
  | .overlap => d.crossFrac (d.rdPct (DEC.OVL_FRAC p)) a.cov a.n b.cov b.n
  | .boundary => d.crossFrac (d.rdPct (DEC.BND_FRAC p)) a.excl a.n b.excl b.n
  | .headland => d.crossFrac (d.rdPct (DEC.HEAD_FRAC p)) a.head a.n b.head b.n
  | .zeroRx => d.crossZero p a b
  | .target => if b.tgt then 0 else d.positions - 1

/-- An automatic decision: wanted state, edge position if it differs from the state at the opening, exemption of R150,
REASON. -/
structure Auto where
  want : Bool := false
  t : Nat := 0
  exempt : Bool := false
  reason : Nat := 0
  votes : Bool := true
  deriving DecidableEq, Repr, Inhabited

/-- tests_and_edge of R165: the tests on the opening sample `a` and the closing sample `b` for state `s`. -/
def Dev.testsAndEdge (d : Dev) (p : Nat) (susp : Bool) (a b : QSample) (s : Bool) : Auto :=
  let ts := footTests.filter (d.testOn p susp)
  let f0 := fun t => d.testFails p a t
  let f1 := fun t => d.testFails p b t
  match ts.find? f1 with
  | none =>
    let cs := (ts.filter (fun t => f0 t)).map (d.crossing p a b)
    { want := true, t := if s then 0 else cs.foldl max 0, reason := 0 }
  | some t1 =>
    let cs := (ts.filter f1).map (fun t => if f0 t then 0 else d.crossing p a b t)
    { want := false, t := if s then cs.foldl min (d.positions - 1) else 0,
      exempt := ts.contains .boundary && f1 .boundary, reason := t1.reason }

/-! ### Pose policy (R155, R156) -/

/-- POSE_MIN, held at 4. -/
def Dev.poseMin (d : Dev) (p : Nat) : Nat := min 4 (d.rd (DEC.POSE_MIN p))

/-- Whether product `p` lies below POSE_MIN (R155). -/
def Dev.belowMin (d : Dev) (p : Nat) : Bool := d.on (RATE.PROD_EN p) && decide (d.pose.pose.cls < d.poseMin p)

/-- The behaviour POSE_POLICY selects while below POSE_MIN: 1 CONSERVATIVE, 2 HOLD, 3 STOP (Table 04.6). -/
def Dev.policyWant (d : Dev) (p : Nat) : Nat :=
  match d.rd (DEC.POSE_POLICY p) with
  | 0 => if d.pose.pose.cls = 0 then 2 else 1
  | 1 => 2
  | _ => 3

/-- The bits of a product in BELOW_MIN, HOLD_ACT and HOLD_EXP. -/
def Dev.policyBits (d : Dev) (p : Nat) (below hold exp : Bool) : Dev :=
  ((d.wr DEC.BELOW_MIN (setBitOf (d.rd DEC.BELOW_MIN) p below)).wr DEC.HOLD_ACT (setBitOf (d.rd DEC.HOLD_ACT) p hold)).wr DEC.HOLD_EXP
    (setBitOf (d.rd DEC.HOLD_EXP) p exp)

/-- The pose policy of product `p` at `t` (R156). -/
def Dev.policyStep (d : Dev) (now t p : Nat) : Dev :=
  if !d.on (RATE.PROD_EN p) then ({ d with dec := { d.dec with pol := tdel d.dec.pol p } }).policyBits p false false false
  else
    let o : PolicySt := tget d.dec.pol p
    let below := d.belowMin p
    let exp0 := below && bitOf (d.rd DEC.HOLD_EXP) p
    let want := if !below then 0 else if exp0 then 3 else d.policyWant p
    let from_ := if want = 2 then some (o.holdFrom.getD t) else none
    let hm := d.rd (DEC.HOLD_MAX p)
    let expired := want == 2 && hm != 0 && (match from_ with | some f => decide (f + ms (100 * hm) ≤ t) | none => false)
    let act := if expired then 3 else want
    let d := ({ d with dec := { d.dec with pol := tset d.dec.pol p { act := act, holdFrom := if expired then none else from_ } } }).policyBits p below (act == 2)
      (exp0 || expired)
    let d := if expired then d.fire now EVT.DEC_HOLD_EXPIRED p 0 else d
    if act != o.act then d.fire now EVT.DEC_POSE_POLICY p act else d

/-- The behaviour in force for product `p`. -/
def Dev.policyOf (d : Dev) (p : Nat) : Nat := (tget d.dec.pol p).act

/-! ### Gates (R157) -/

/-- REASON of the gate that is closed for a point, if one is; with the new low-speed gate state. -/
def Dev.gateOf (d : Dev) (n : Nat) : Option Nat × Bool :=
  let g := d.geoOf n
  let m := d.rd (DEC.MIN_SPEED (d.rd (PD.PRODUCT n)))
  let low := if (d.decOf n).lowGate then decide (g.spd < m + 50) else decide (g.spd < m)
  let mx := d.rd CNT.MAX_APP_SPEED
  (if !g.valid then some 9 else if g.rev then some 10 else if low || (mx != 0 && decide (mx < g.spd)) then some 11 else none, low)

/-- The gates of every point at a T4. -/
def Dev.gateStep (d : Dev) : Dev := d.each d.validPts (fun d n => d.modDec n (fun p => { p with lowGate := (d.gateOf n).2 }))

/-! ### The automatic want of a point (R165) -/

/-- The state of a point at the opening of the window planned (R144, R161, R567). -/
def Dev.stateOpen (d : Dev) (n : Nat) : Bool := !(d.dec.openOff || d.dec.relightOff.contains n) && (d.decOf n).s

/-- The automatic want of a point for the state `s` at the opening, with the miss flag of R158. -/
def Dev.autoOf (d : Dev) (n : Nat) (s : Bool) : Auto × Bool :=
  let p := d.rd (PD.PRODUCT n)
  let c := d.decOf n
  let q : QSample := (if s then c.qOff else c.qOn).getD {}
  let a : QSample := (if s then c.pOff else c.pOn).getD q
  match (d.gateOf n).1 with
  | some r => ({ want := false, t := 0, exempt := true, reason := r, votes := false }, false)
  | none =>
    if d.policyOf p = 3 then ({ want := false, t := 0, exempt := true, reason := 7 }, false)
    else if d.policyOf p = 2 then ({ want := s, t := 0, reason := 8 }, false)
    else if (q.covMiss || q.rxMiss) && d.missPolicy p == 1 then ({ want := false, t := 0, exempt := true, reason := 6 }, false)
    else (d.testsAndEdge p (d.policyOf p == 1) a q s, q.covMiss || q.rxMiss)

/-! ### Sections (R151 to R153) -/

/-- The members of a section, in rising index. -/
def Dev.members (d : Dev) (sec : Nat) : List Nat := d.validPts.filter (d.inSection sec)

/-- The outcome of a vote (Table 04.4). -/
def Dev.vote (d : Dev) (sec c m : Nat) : Bool :=
  match d.rd (DEC.SECT_VOTE sec) with
  | 0 => decide (1 ≤ c)
  | 1 => decide (c = m)
  | 2 => decide (m < 2 * c)
  | _ => decide (d.rdPct (DEC.SECT_FRAC sec) * m ≤ 100 * c)

/-- Voting members that want on at position `t`. -/
def countAt (s : Bool) (vs : List Auto) (t : Nat) : Nat := (vs.filter (fun a => if a.t ≤ t then a.want else s)).length

/-- vote_and_edge of R153 for the state `s` of the section: its want, edge and exemption. -/
def Dev.voteAndEdge (d : Dev) (sec : Nat) (s : Bool) (vs : List Auto) : Auto :=
  if vs.isEmpty then { want := false, t := 0, exempt := true, reason := 20 }
  else
    let m := vs.length
    let final := d.vote sec (vs.filter (·.want)).length m
    let ts := ((0 :: vs.map (·.t)).mergeSort (· ≤ ·)).dedup
    let ok := fun (t : Nat) => ts.all (fun u => decide (u < t) || d.vote sec (countAt s vs u) m == final)
    { want := final, t := (ts.find? ok).getD 0, exempt := !final && vs.any (fun a => !a.want && a.exempt), reason := 20 }

/-- The reference member of a section (R153). -/
def Dev.refMember (d : Dev) (sec : Nat) (voting : List Nat) : Option Nat :=
  match d.leadOf sec with
  | some n => some n
  | none => voting.head?

/-! ### Anti-chatter (R149) -/

/-- The position at which R149 allows an edge of a point in state `s`: none where SPD is 0 and the distance is not made. -/
def Dev.chatPos (d : Dev) (n : Nat) (s : Bool) : Option Nat :=
  let p := d.rd (PD.PRODUCT n)
  let spd := (d.geoOf n).spd
  let need : Int := 400000000 * ((if s then d.rd (DEC.MIN_ON_DIST p) else d.rd (DEC.MIN_OFF_DIST p) : Nat) : Int)
  let d0 : Int := (d.decOf n).dSince + (spd * d.sys.period : Nat)
  if need ≤ d0 then some 0
  else if spd = 0 then none
  else some (((need - d0) + ((spd * 4000 : Nat) : Int) - 1) / ((spd * 4000 : Nat) : Int)).toNat

/-- An automatic decision under R149 with reference point `n` and state `s`: the edge, or none where it is held. -/
def Dev.antiChatter (d : Dev) (n : Nat) (s : Bool) (a : Auto) : Option Nat :=
  if a.want == s || a.exempt then some a.t
  else match d.chatPos n s with
  | none => none
  | some t => if d.positions - 1 < max a.t t then none else some (max a.t t)

/-! ### Precedence (R159, R162) -/

/-- A GIN level as latched at T0. -/
def Dev.ginT0 (d : Dev) (i : Nat) : Bool := bitOf (d.rdT0 GIN.GIN_STATE) i

/-- The master switch (R162). -/
def Dev.masterOn (d : Dev) : Bool :=
  let g := d.ginT0 (min 23 (d.rd DEC.MASTER_GIN)) != d.on DEC.MASTER_POL
  let r := d.on DEC.MASTER_ON
  if d.pwr.mode = .plain then d.ginT0 16
  else match d.rd DEC.MASTER_SRC with
  | 0 => r
  | 1 => g
  | _ => r && g

/-- Whether a snuff path is active (R57, R161). -/
def Dev.snuffActive (d : Dev) : Bool := d.on WDG.SNUFF_ACT || d.pwr.st == .snuffed

/-- FORCE of a point: 1 off, 2 on, 0 and 3 none. -/
def Dev.forceOf (d : Dev) (n : Nat) : Nat :=
  let v := bitsOf (d.rd (DEC.FORCE (n / 16))) (2 * (n % 16)) 2
  if v = 3 then 0 else v

/-- A bit of the MAN_OFF or MAN_ON words for the section of a point that is a member. -/
def Dev.manBit (d : Dev) (reg : Nat → Field) (n : Nat) : Bool :=
  let s := d.rd (PD.SECTION n)
  d.on (PD.SECT_EN n) && bitOf (d.rd (reg (s / 32))) (s % 32)

/-- What a level of Table 04.7 gives a point: state, edge position, REASON, CHAT_HOLD, MISS_APPLIED, and the own want of a member
whose section's vote decides. -/
structure Pick where
  want : Bool := false
  t : Nat := 0
  reason : Nat := 0
  hold : Bool := false
  miss : Bool := false
  own : Option Bool := none
  deriving DecidableEq, Repr, Inhabited

/-- What level 5 gives a point in state `s` at the opening. `secs` holds the sections' decisions with the position R149 leaves them and
their state. Where R149 holds the section's edge a member keeps its own state: there is no edge in this window. -/
def Dev.level5 (d : Dev) (secs : Tab (Auto × Option Nat × Bool)) (n : Nat) (s : Bool) : Pick :=
  if d.on (PD.SECT_EN n) then
    match tget? secs (d.rd (PD.SECTION n)) with
    | none => { reason := 20 }
    | some (v, pos, ss) =>
      let own := d.autoOf n ss
      let reason := if own.1.want == v.want then own.1.reason else 20
      if !own.1.votes then { reason := own.1.reason }
      else match pos with
      | none => if v.want == s then { want := s, reason := reason, miss := own.2, own := some own.1.want }
        else { want := s, reason := 19, hold := true, miss := own.2 }
      | some t => { want := v.want, t := t, reason := reason, miss := own.2, own := some own.1.want }
  else
    let own := d.autoOf n s
    match d.antiChatter n s own.1 with
    | none => { want := s, reason := 19, hold := true, miss := own.2 }
    | some t => { want := own.1.want, t := t, reason := own.1.reason, miss := own.2 }

/-- The decision of one point by the first level of Table 04.7 that applies (R159, R165). -/
def Dev.decision (d : Dev) (master : Bool) (secs : Tab (Auto × Option Nat × Bool)) (n : Nat) : PtDec :=
  let c := d.decOf n
  let s := d.stateOpen n
  let q := if s then c.qOff else c.qOn
  let p : Pick :=
    if d.pwr.emberWait.isSome then { reason := 22 }
    else if d.snuffActive then { reason := 18 }
    else if d.forceOf n = 1 then { reason := 17 }
    else if d.forceOf n = 2 then { want := true, reason := 16 }
    else if !master then { reason := 15 }
    else if d.manBit DEC.MAN_OFF n then { reason := 14 }
    else if bitOf (d.rd DEC.AUTO_EN) (d.rd (PD.PRODUCT n)) then d.level5 secs n s
    else if d.on (PD.SECT_EN n) then
      match (d.gateOf n).1 with
      | some g => { reason := g }
      | none => if d.manBit DEC.MAN_ON n then { want := true, reason := 12 } else { reason := 13 }
    else { reason := 13 }
  { c with sOpen := s, s := p.want, edge := if p.want == s then none else some p.t, reason := p.reason, missApplied := p.miss,
           tgtFb := (q.map (·.tgtFb)).getD false, chatHold := p.hold, own := p.own }

/-- The decisions of the sections in use (R151, R153). -/
def Dev.sectionVotes (d : Dev) : Tab (Auto × Option Nat × Bool) :=
  let secs := (((d.validPts.filter (fun n => d.on (PD.SECT_EN n))).map (fun n => d.rd (PD.SECTION n))).mergeSort (· ≤ ·)).dedup
  secs.map (fun k =>
    let ms := d.members k
    let ss := ms.any d.stateOpen
    let voting := ms.filter (fun n => (d.gateOf n).1.isNone)
    let v := d.voteAndEdge k ss (voting.map (fun n => (d.autoOf n ss).1))
    (k, v, match d.refMember k voting with
      | some n => d.antiChatter n ss v
      | none => some v.t, ss))

/-- Whether a key names a field that selects the level of Table 04.7: AUTO_EN and the master's fields, MAN_OFF and MAN_ON,
FORCE. -/
def levelKey (k : Nat) : Bool :=
  let o := k / 32 - 0x032000
  decide (0x032000 ≤ k / 32) && (o == 0x040 || (decide (0x400 ≤ o) && decide (o < 0x420)) || (decide (0x500 ≤ o) && decide (o < 0x600)))

/-- The block with the levels of Table 04.7 as the commit of this tick leaves them: a value `adm` written before the cut
places its edge in the window this tick plans (R160). -/
def Dev.levelsOf (d : Dev) (adm : KMap) : Dev := d.applyAdm (adm.filter (fun x => levelKey x.1))

/-- T4 of DEC (R165): pose policies and gates are judged, and the decision of every point is made, by the levels that the
values `adm` admitted by the cut leave; it is committed only at T5. -/
def Dev.decT4 (d : Dev) (now edge : Nat) (adm : KMap) : Dev × Tab PtDec :=
  let d := d.wr DEC.POSE_CLASS d.pose.pose.cls
  let d := d.each (List.range 8) (fun d p => d.policyStep now edge p)
  let d := d.gateStep
  let secs := d.sectionVotes
  let v := d.levelsOf adm
  let m := v.masterOn
  (d, d.validPts.map (fun n => (n, v.decision m secs n)))

/-! ### The commit (R47, R78, R151, R166) -/

/-- A point new under R78 is off throughout the window, with its latency at the defaults. -/
def renewedDec : PtDec := { reason := 21 }

/-- SECT_STATE and SECT_LEAD_BAD from the committed states (R151, R154). -/
def Dev.sectionState (d : Dev) : Dev :=
  let on_ := (d.validPts.filter (fun n => d.on (PD.SECT_EN n) && (d.decOf n).s)).map (fun n => d.rd (PD.SECTION n))
  let d := d.each (List.range 4) (fun d w =>
    d.wr (DEC.SECT_STATE w) ((List.range 32).foldl (fun a b => a + (if on_.contains (32 * w + b) then 2 ^ b else 0)) 0))
  d.each (List.range 128) (fun d k => d.wrB (DEC.SECT_LEAD_BAD k) (d.on (DEC.SECT_LEAD_EN k) && (d.leadOf k).isNone))

/-- Whether a member's own want differs from the committed state of its section, which is on while any member of it is committed on in
`dec` (R151, R167). -/
def Dev.outvoted (d : Dev) (dec : Tab PtDec) (n : Nat) (c : PtDec) : Bool :=
  match c.own with
  | none => false
  | some w => w != dec.any (fun x => d.inSection (d.rd (PD.SECTION n)) x.1 && x.2.s)

/-- What PTD_IDX shows of point `n` after the commit of tick `k` (Table 04.8): the fields in their order. -/
def Dev.ptdOf (d : Dev) (k n : Nat) : List Nat :=
  let c := d.decOf n
  [b2n c.sOpen, b2n c.s, b2n c.edge.isSome, c.reason, b2n c.missApplied, b2n c.tgtFb, b2n c.chatHold, b2n (decide (8 ≤ c.latOn.cnt)),
   b2n (decide (8 ≤ c.latOff.cnt)), c.edge.getD 0, (roundDiv (d.lat n true) 6553600).toNat, (roundDiv (d.lat n false) 6553600).toNat,
   c.latOn.n, c.latOff.n, (max 0 (c.dSince / 400000000)).toNat, k % 2 ^ 32]

/-- The bits of a product with PROD_EN clear read 0 and it is under no policy (R155). -/
def Dev.policyClear (d : Dev) : Dev :=
  d.each ((List.range 8).filter (fun p => !d.on (RATE.PROD_EN p))) (fun d p =>
    ({ d with dec := { d.dec with pol := tdel d.dec.pol p } }).policyBits p false false false)

/-- Commits the decisions of tick `k` for the window from `opening` (R47): `dec` from T4, `fresh` the points the commit made
new. Painting takes the edges (R97) unless `drive` names another state for a point (the outputs follow a snuff path). -/
def Dev.decCommit (d : Dev) (k opening : Nat) (dec : Tab PtDec) (fresh : List Nat) : Dev :=
  let master := d.masterOn
  let dec : Tab PtDec := d.validPts.map (fun n => (n, if fresh.contains n then renewedDec else (tget? dec n).getD renewedDec))
  let dec : Tab PtDec := dec.map (fun x => (x.1, if d.outvoted dec x.1 x.2 then { x.2 with reason := 20 } else x.2))
  let edges := (dec.filter (fun x => x.2.edge.isSome)).length
  let upd : Tab PtDec := dec.map (fun x =>
    let c := d.decOf x.1
    let te := match x.2.edge with
      | some t => some (opening + 4000 * t)
      | none => if fresh.contains x.1 then none else if x.2.sOpen != c.s then some opening else c.lastEdge
    (x.1, { x.2 with lastEdge := te }))
  let d := { d with dec := { d.dec with pts := upd, winOpen := opening, winClose := opening + d.winLen, tick := k, openOff := false,
                                        relightOff := [], latChanged := d.dec.latChanged || !fresh.isEmpty } }
  let d := ((d.add DEC.EDGE_CNT edges).add DEC.MISS_APPLIED_CNT (dec.filter (fun x => x.2.missApplied)).length).add DEC.CHAT_HOLD_CNT
    (dec.filter (fun x => x.2.chatHold)).length
  let d := ((d.wrB DEC.MASTER_ACT master).sectionState).policyClear
  { d with dec := { d.dec with shown := d.validPts.map (fun n => (n, d.ptdOf k n)) } }

/-! ### Stored latencies (R168) -/

/-- PD_BIND, descriptor word 0x04 of a point. -/
def Dev.bindWord (d : Dev) (n : Nat) : Nat :=
  d.rd (PD.BIND_KIND n) + 2 ^ 8 * d.rd (PD.LOCAL_CH n) + 2 ^ 16 * d.rd (PD.BUS n) + 2 ^ 18 * d.rd (PD.NODE n) + 2 ^ 24 * d.rd (PD.NODE_PT n)

/-- The stored entry of a point (Table 04.10). -/
def Dev.latEntry (d : Dev) (n : Nat) : LatEntry :=
  let c := d.decOf n
  let k := fun (f : LatFilt) => if f.cnt < 8 then 0 else 8
  { bind := d.bindWord n, cntOn := k c.latOn, cntOff := k c.latOff, tOn := c.latOn.tLast, tOff := c.latOff.tLast,
    lfOn := (roundDiv c.latOn.lf 65536).toNat, lfOff := (roundDiv c.latOff.lf 65536).toNat }

/-- The older of the two stored copies is written (R168). -/
def Dev.latStore (d : Dev) (now : Nat) : Dev :=
  let m := d.mram
  let es : Tab LatEntry := d.validPts.map (fun n => (n, d.latEntry n))
  let newer := if m.latCopyA.ok && (!m.latCopyB.ok || decide (m.latCopyB.seq < m.latCopyA.seq)) then m.latCopyA.seq else m.latCopyB.seq
  let c : LatCopy := { seq := (newer + 1) % 2 ^ 32, entries := es, ok := true }
  let aOlder := !m.latCopyA.ok || (m.latCopyB.ok && decide (m.latCopyA.seq < m.latCopyB.seq))
  { d with mram := if aOlder then { m with latCopyA := c } else { m with latCopyB := c },
           dec := { d.dec with latChanged := false, latStoredAt := now } }

/-- The store every 10 s while any entry has changed (R168). -/
def Dev.latStoreCheck (d : Dev) (now : Nat) : Dev :=
  if d.dec.latChanged && decide (d.dec.latStoredAt + sec 10 ≤ now) then d.latStore now else d

/-- A filter restored from its stored values. -/
def restoredFilt (cnt lf : Nat) (t : Int) : LatFilt := if cnt = 8 then { cnt := 8, lf := latUnit lf, tLast := t } else {}

/-- The latencies restored at KINDLE after a power-on reset (R168). -/
def Dev.latRestore (d : Dev) : Dev :=
  let a := d.mram.latCopyA
  let b := d.mram.latCopyB
  let c? := if a.ok && (!b.ok || decide (b.seq < a.seq)) then some a else if b.ok then some b else none
  match c? with
  | none => d
  | some c => d.each d.validPts (fun d n =>
      match tget? c.entries n with
      | some e => if e.bind = d.bindWord n then
          d.modDec n (fun p => { p with latOn := restoredFilt e.cntOn e.lfOn e.tOn, latOff := restoredFilt e.cntOff e.lfOff e.tOff })
        else d
      | none => d)

/-! ### Commands -/

/-- The fields that PTD_IDX fills, in the order of `Dev.ptdOf`. -/
def ptdFields : List Field :=
  [DEC.S_OPEN, DEC.S_CLOSE, DEC.EDGE_VALID, DEC.REASON, DEC.MISS_APPLIED, DEC.TGT_FB, DEC.CHAT_HOLD, DEC.LAT_ON_MEAS, DEC.LAT_OFF_MEAS,
   DEC.EDGE_T, DEC.L_ON_ACT, DEC.L_OFF_ACT, DEC.N_LAT_ON, DEC.N_LAT_OFF, DEC.D_SINCE, DEC.PTD_TICK]

/-- PTD_IDX written (R166): 0x704 to 0x714 show point `n` as the last commit left it; a point that it did not decide reads 0. -/
def Dev.ptdIdxWrite (d : Dev) (n : Nat) : Dev :=
  (d.wr DEC.PTD_IDX n).each (ptdFields.zip ((tget? d.dec.shown n).getD (List.replicate 15 0 ++ [d.dec.tick % 2 ^ 32])))
    (fun d x => d.wr x.1 x.2)

/-- HOLD_EXPIRED, R156: HOLD_MAX of continuous HOLD has passed for a product. -/
def execHoldExpired (el : Nat) (prod : Fin 8) (s : State) : Host.Outcome State Fault Refusal :=
  s.run el (fun now d => if d.ticking && d.policyOf prod.val == 2 then d.policyStep now now prod.val else d)

/-- LATENCY_STORE, R168: the 10 s store of changed latencies. -/
def execLatencyStore (el : Nat) (s : State) : Host.Outcome State Fault Refusal :=
  s.run el (fun now d => if d.alive then d.latStoreCheck now else d)

/-- DEC_SNAPSHOT, R166. -/
def execDecSnapshot (el : Nat) (n : BitVec 10) (s : State) : Host.Outcome State Fault Refusal :=
  s.run el (fun _ d => if d.hif.inService then d.ptdIdxWrite n.toNat else d)

end Sys2Proof.Machine
end

