-- ==== Sys2Proof/Machine/Rate.lean ====
section
/-! DEFINITION. Rate, metering and pulse phasing (R169 to R192): targets, duties, product loops, validation of product
configurations, pulse slots, and the commands of the family. -/

namespace Sys2Proof.Machine

/-- The rate results of a point. -/
def Dev.rateOf (d : Dev) (n : Nat) : PtRate := tget d.rate.pts n

/-- The loop of a product. -/
def Dev.loopOf (d : Dev) (p : Nat) : LoopSt := tget d.rate.loops p

/-- Changes the loop of a product. -/
def Dev.modLoop (d : Dev) (p : Nat) (f : LoopSt → LoopSt) : Dev :=
  { d with rate := { d.rate with loops := tmod d.rate.loops p f } }

/-! ### Line pressure (R173) -/

/-- FB_TIMEOUT in cycles, 0 held at 0.1 s. -/
def Dev.fbTimeout (d : Dev) (p : Nat) : Nat := ms (100 * max 1 (d.rd (RATE.FB_TIMEOUT p)))

/-- FREQ of FBK channel `ch` as latched at T0, 0.001 Hz. -/
def Dev.fbkFreq (d : Dev) (ch : Nat) : Int := toS 32 (d.rdT0 (FBK.FREQ ch))

/-- Whether the pressure measurement of product `p` is stale at `edge` (R173). -/
def Dev.pressStale (d : Dev) (edge p : Nat) : Bool :=
  d.rd (RATE.PRESS_SRC p) == 1 &&
  match (tget d.t0Fbk (d.rd (RATE.PRESS_FBK p))).e1 with
  | none => true
  | some t => decide (t + d.fbTimeout p < edge)

/-- Line pressure of product `p` in units of 10^-5 kPa (R173). -/
def Dev.pressure (d : Dev) (edge p : Nat) : Nat :=
  match d.rd (RATE.PRESS_SRC p) with
  | 1 =>
    if d.pressStale edge p then 100000 * d.rd (RATE.PRESS_NOM p)
    else ((d.fbkFreq (d.rd (RATE.PRESS_FBK p)) - 1000 * d.rd (RATE.PF0 p)) * d.rd (RATE.PGAIN p)).toNat
  | 2 => 100000 * d.rd (RATE.PRESS_HOST p)
  | _ => 100000 * d.rd (RATE.PRESS_NOM p)

/-! ### Nozzle flow and duty (R171, R172, R174) -/

/-- Whether nozzle flow table `t` is valid (R172). -/
def Dev.nozzleOk (d : Dev) (t : Nat) : Bool :=
  let n := d.rd (NZ.NPTS t)
  decide (2 ≤ n) && decide (n ≤ 15) &&
  (List.range n).all (fun j => decide (0 < d.rd (NZ.Q_FULL t j)) && (j + 1 == n || decide (d.rd (NZ.P t j) < d.rd (NZ.P t (j + 1)))))

/-- Q_FULL of table `t` at pressure `pr` (10^-5 kPa) as a fraction, with PRESS_RANGE (R174). -/
def Dev.nozzleFlow (d : Dev) (t pr : Nat) : (Nat × Nat) × Bool :=
  let n := d.rd (NZ.NPTS t)
  let p := fun j => 100000 * d.rd (NZ.P t j)
  let q := fun j => d.rd (NZ.Q_FULL t j)
  if pr < p 0 then ((q 0, 1), true)
  else if p (n - 1) < pr then ((q (n - 1), 1), true)
  else match (List.range (n - 1)).find? (fun j => decide (pr ≤ p (j + 1))) with
  | some j =>
    let w := p (j + 1) - p j
    (((((q j : Int) * w + ((q (j + 1) : Int) - q j) * ((pr - p j : Nat) : Int)).toNat), w), false)
  | none => ((q (n - 1), 1), false)

/-- The target rate of a point (R171): the index used and R. -/
def Dev.targetRate (d : Dev) (n : Nat) : Nat × Nat :=
  let p := d.rd (PD.PRODUCT n)
  let rx := (((d.decOf n).qOn).map (·.rx)).getD 0
  let r := if d.rxOn p then d.rd (RT.RATE p rx) else d.rd (RATE.RATE_FIXED p)
  (rx, r * min 2000 (d.rd (RATE.RATE_SCALE p)) / 1000)

/-- The demand of a point for target `r` (R171), truncated. -/
def Dev.demandOf (d : Dev) (n r : Nat) : Nat :=
  let p := d.rd (PD.PRODUCT n)
  let v := if d.on (RATE.SPD_COMP p) then (d.geoOf n).spd else d.pose.pose.spd
  if d.rd (RATE.RATE_UNIT p) = 2 then r * d.rd (PD.FOOT_W n) * v / 10000000 else r * d.rd (PD.FOOT_W n) * v * 6 / 100000000

/-- The rate results of a point in T4 (R171, R174, R175); its slot stays. -/
def Dev.rateT4Pt (d : Dev) (edge n : Nat) : PtRate :=
  let p := d.rd (PD.PRODUCT n)
  let t := d.targetRate n
  let dem := d.demandOf n t.2
  let o : PtRate := { rate := t.2 % 2 ^ 24, rx := t.1, demand := min 4294967295 dem, duty := 1000, slot := (d.rateOf n).slot }
  if !d.pulsedPt n then o
  else
    let nt := d.rd (PD.NOZZLE_TBL n)
    let hi := min 1000 (d.rd (RATE.DUTY_HI p))
    if !d.nozzleOk nt then { o with duty := hi, nzInv := true }
    else
      let q := d.nozzleFlow nt (d.pressure edge p)
      let du := (2 * 1000 * dem * q.1.2 + q.1.1) / (2 * q.1.1)
      let lo := max (d.rd (NZ.DUTY_MIN nt)) (d.rd (RATE.DUTY_LO p))
      let o := { o with press := q.2 }
      if dem = 0 then { o with duty := 0 }
      else if du < lo then { o with duty := lo, low := true }
      else if hi < du then { o with duty := hi, high := true }
      else { o with duty := du }

/-- RATE's part of T4 before the loops: pressures reported, and the results of every point. -/
def Dev.rateT4 (d : Dev) (edge : Nat) : Dev × Tab PtRate :=
  let d := d.each (List.range 8) (fun d p =>
    (d.wr (RATE.PRESS_ACT p) (min 65535 ((d.pressure edge p + 50000) / 100000))).wrB (RATE.PRESS_STALE p) (d.pressStale edge p))
  (d, d.validPts.map (fun n => (n, d.rateT4Pt edge n)))

/-! ### Product loops (R176 to R182) -/

/-- An enabled loop (R178). -/
def Dev.loopEnabled (d : Dev) (p : Nat) : Bool := d.on (RATE.PROD_EN p) && d.on (RATE.LOOP_EN p) && d.rd (RATE.LOOP_KIND p) != 0

/-- The set point of loop `p` (R176, R177) from the planned states and the rate results. -/
def Dev.loopSp (d : Dev) (edge p : Nat) (dec : Tab PtDec) (rate : Tab PtRate) : Nat :=
  let pts := (dec.filter (fun x => x.2.s && d.rd (PD.PRODUCT x.1) == p)).map (·.1)
  let n := pts.length
  if n = 0 then 0
  else
    let dem := fun m => (tget rate m).demand
    match d.rd (RATE.LOOP_KIND p) with
    | 1 =>
      (pts.map (fun m =>
        if d.pulsedPt m && d.nozzleOk (d.rd (PD.NOZZLE_TBL m)) then
          (let q := (d.nozzleFlow (d.rd (PD.NOZZLE_TBL m)) (d.pressure edge p)).1
           (tget rate m).duty * q.1 / (1000 * q.2))
        else dem m)).sum
    | 2 => d.rd (RATE.PRESS_SET p)
    | 3 => (pts.map dem).sum / (n * max 1 (d.rd (RATE.CELLS_PER_REV p)))
    | _ => 0

/-- The process value of loop `p` (Table 05.5); with FB_SCALE 0 the spec states no result: a free value. -/
def Dev.loopPv (d : Dev) (edge p : Nat) : Int × Dev :=
  let f := d.fbkFreq (d.rd (RATE.FB_FBK p))
  let sc := d.rd (RATE.FB_SCALE p)
  match d.rd (RATE.LOOP_KIND p) with
  | 1 => if sc = 0 then d.drawS 32 else (f * 6000 / (sc : Int), d)
  | 2 => (((d.pressure edge p + 50000) / 100000 : Nat), d)
  | 3 => if sc = 0 then d.drawS 32 else (f / (sc : Int), d)
  | _ => (0, d)

/-- One in the loops' fixed point. -/
def loopOne : Int := 4294967296

/-- DUTY_LO and DUTY_HI of product `p` in the loops' fixed point, in %. -/
def Dev.loopLims (d : Dev) (p : Nat) : Int × Int :=
  (d.rd (RATE.DUTY_LO p) * loopOne / 10, (min 1000 (d.rd (RATE.DUTY_HI p)) : Nat) * loopOne / 10)

/-- `u` limited to the loop's duty range, in 0.1 %. -/
def Dev.loopDuty (d : Dev) (p : Nat) (u : Int) : Nat :=
  let l := d.loopLims p
  (roundDiv (10 * max l.1 (min l.2 u)) loopOne).toNat

/-- The feed-forward term FF × 100 × SP / FS in fixed point; with FS 0 the spec states no result: a free value. -/
def Dev.loopFf (d : Dev) (p sp : Nat) : Int × Dev :=
  let fs := d.rd (RATE.FS p)
  if fs = 0 then d.drawS 40 else ((d.rd (RATE.FF p) : Int) * 100 * sp * loopOne / (256 * (fs : Int)), d)

/-- Whether the integrator of loop `p` is held: a snuff path is active (R182), or a trip holds its actuator (R376). -/
def Dev.loopHeld (d : Dev) (p : Nat) : Bool :=
  d.on WDG.SNUFF_ACT || d.pwr.st == .snuffed || bitOf (d.rdT0 TRIP.GRP_HELD) (d.rd (RATE.ACT_PWM p) / 2)

/-- One update of R178. -/
def Dev.loopUpdate (d : Dev) (p sp : Nat) (pv : Int) (dt : Nat) : Dev :=
  let r := d.loopFf p sp
  let d := r.2
  let fs : Int := max 1 (d.rd (RATE.FS p))
  let e := 100 * ((sp : Int) - pv) * loopOne / fs
  let l := d.loopLims p
  let i := (d.loopOf p).i
  let base := r.1 + d.rd (RATE.KP p) * e / 256
  let u0 := base + i
  let i' := if d.loopHeld p = true ∨ (l.2 ≤ u0 ∧ 0 < e) ∨ (u0 ≤ l.1 ∧ e < 0) then i
    else max 0 (min (100 * loopOne) (i + d.rd (RATE.KI p) * e * dt / (256 * 400000000)))
  (d.modLoop p (fun x => { x with i := i' })).wr (RATE.LOOP_DUTY p) (d.loopDuty p (base + i'))

/-- Whether feedback of loop `p` is lost at `t` (R180): `e1` is its newest edge. -/
def Dev.fbLostAt (d : Dev) (t p : Nat) (e1 : Option Nat) : Bool :=
  !(d.rd (RATE.LOOP_KIND p) == 2 && d.rd (RATE.PRESS_SRC p) != 1) &&
  match (d.loopOf p).runFrom with
  | none => false
  | some f => decide (max f (e1.getD 0) + d.fbTimeout p ≤ t)

/-- FB_LOST set, with its event (R180). -/
def Dev.fbLose (d : Dev) (now p : Nat) : Dev :=
  ((d.modLoop p (fun x => { x with lostAt := some now })).wr (RATE.FB_LOST p) 1).fire now EVT.RATE_FB_LOSS p 0

/-- FB_LOST of a loop at `t` (R180): it clears at the first edge. -/
def Dev.fbCheck (d : Dev) (now t p : Nat) (e1 : Option Nat) : Dev :=
  match (d.loopOf p).lostAt with
  | some l => if l < e1.getD 0 then (d.modLoop p (fun x => { x with lostAt := none, runFrom := some t })).wr (RATE.FB_LOST p) 0 else d
  | none => if d.fbLostAt t p e1 then d.fbLose now p else d

/-- DEV_ACT of a loop at `t` (R181). -/
def Dev.devCheck (d : Dev) (now t p sp : Nat) (pv : Int) : Dev :=
  let pct := d.rd (RATE.DEV_PCT p)
  let hold := ms (100 * d.rd (RATE.DEV_TIME p))
  let dev := pct != 0 && sp != 0 && !d.on (RATE.FB_LOST p) && decide (pct * sp < 100 * ((sp : Int) - pv).natAbs)
  let d := d.modLoop p (fun x => if dev then { x with devFrom := some (x.devFrom.getD t), okFrom := none }
    else { x with devFrom := none, okFrom := some (x.okFrom.getD t) })
  let act := d.on (RATE.DEV_ACT p)
  match (d.loopOf p).devFrom, (d.loopOf p).okFrom with
  | some f, _ => if !act && decide (f + hold ≤ t) then (d.wr (RATE.DEV_ACT p) 1).fire now EVT.RATE_DEVIATION p 1 else d
  | none, some f => if act && decide (f + hold ≤ t) then d.wr (RATE.DEV_ACT p) 0 else d
  | none, none => d

/-- The update of loop `p` in tick `k`, one of its own (R178), with `sp` and `pv`: LOOP_DUTY, LOOP_SP and LOOP_PV. -/
def Dev.loopTick (d : Dev) (k p sp : Nat) (pv : Int) : Dev :=
  let d := d.modLoop p (fun x => { x with updTick := some k })
  ((d.loopUpdate p sp pv (max 1 (d.rd (RATE.LOOP_DIV p)) * d.sys.period)).wr (RATE.LOOP_SP p) (min 4294967295 sp)).wrU (RATE.LOOP_PV p) pv

/-- Whether tick `k` is one in which loop `p` updates (R178). -/
def Dev.loopDue (d : Dev) (k p : Nat) : Bool := k % max 1 (d.rd (RATE.LOOP_DIV p)) == 0

/-- Loop `p` in the T4 of tick `k` (R176 to R181), with the states `dec` that its commit leaves. -/
def Dev.loopStep (d : Dev) (now edge k : Nat) (dec : Tab PtDec) (rate : Tab PtRate) (p : Nat) : Dev :=
  if !d.loopEnabled p then
    ((d.modLoop p (fun x => { x with devFrom := none, okFrom := none, runFrom := none, lostAt := none })).wr (RATE.FB_LOST p) 0).wr (RATE.DEV_ACT p) 0
  else
    let sp := d.loopSp edge p dec rate
    let r := d.loopPv edge p
    let d := r.2
    let e1 := (tget d.t0Fbk (d.rd (RATE.FB_FBK p))).e1
    let run := sp != 0 && decide (d.rd (RATE.DUTY_LO p) < d.rd (RATE.LOOP_DUTY p))
    let d := d.modLoop p (fun x => { x with runFrom := if run then some (x.runFrom.getD edge) else none })
    let d := (d.fbCheck now edge p e1).devCheck now edge p sp r.1
    if sp = 0 then
      let d := (d.wr (RATE.LOOP_DUTY p) (d.rd (RATE.DUTY_OFF p))).wr (RATE.LOOP_SP p) 0
      let d := d.wrU (RATE.LOOP_PV p) r.1
      if d.on (RATE.OFF_MODE p) && !d.loopHeld p then d.modLoop p (fun x => { x with i := 0 }) else d
    else if d.on (RATE.FB_LOST p) then
      (match d.rd (RATE.FB_LOSS_POLICY p) with
       | 1 => d
       | 2 => d.wr (RATE.LOOP_DUTY p) (d.rd (RATE.DUTY_OFF p))
       | _ => let f := d.loopFf p sp
              f.2.wr (RATE.LOOP_DUTY p) (f.2.loopDuty p f.1))
    else if d.loopDue k p then d.loopTick k p sp r.1
    else d

/-- The product loops in the T4 of tick `k` (R191), before the commit admits its values: `dec` holds the planned decisions, of which
the points in `fresh` are committed off or not at all (R78, R177). -/
def Dev.loopsT4 (d : Dev) (now edge k : Nat) (dec : Tab PtDec) (rate : Tab PtRate) (fresh : List Nat) : Dev :=
  d.each (List.range 8) (fun d p => d.loopStep now edge k (dec.filter (fun x => !fresh.contains x.1)) rate p)

/-! ### Validation of product configurations (R183) -/

/-- First and end address of the configuration words of product `p`. -/
def prodLo (p : Nat) : Nat := 0x033080 + 0x40 * p
/-- End of the configuration words of product `p`. -/
def prodHi (p : Nat) : Nat := 0x033080 + 0x40 * p + 0x30

/-- An enabled loop as a commit would leave it. -/
def Dev.candLoop (d : Dev) (adm : KMap) (p : Nat) : Bool :=
  d.candOn adm (RATE.PROD_EN p) && d.candOn adm (RATE.LOOP_EN p) && d.cand adm (RATE.LOOP_KIND p) != 0

/-- The outputs an enabled loop owns. -/
def Dev.candOuts (d : Dev) (adm : KMap) (p : Nat) : List Nat :=
  if d.candLoop adm p then
    (if d.candOn adm (RATE.ACT_PAIR p) then [d.cand adm (RATE.ACT_PWM p), d.cand adm (RATE.ACT_PWM p) + 1] else [d.cand adm (RATE.ACT_PWM p)])
  else []

/-- The refusal code of a pending product configuration other than 3, the lowest that applies (Table 05.7). -/
def Dev.prodCode (d : Dev) (adm : KMap) (p : Nat) : Nat :=
  if (d.candOuts adm p).any (fun o => (List.range p).any (fun q => (d.candOuts adm q).contains o)) then 1
  else if d.candOn adm (RATE.ACT_PAIR p) && (d.cand adm (RATE.ACT_PWM p) % 2 == 1 || decide (10 < d.cand adm (RATE.ACT_PWM p))) then 2
  else if d.candOn adm (RATE.PULSED p) && (decide (d.cand adm (RATE.PULSE_FREQ p) < 10) || decide (1000 < d.cand adm (RATE.PULSE_FREQ p))) then 4
  else if d.candOn adm (RATE.PULSED p) && (d.cand adm (RATE.RATE_UNIT p) == 1 || d.cand adm (RATE.RATE_UNIT p) == 2) then 5
  else if d.candOn adm (RATE.LOOP_EN p) && d.cand adm (RATE.LOOP_KIND p) != 0 && d.cand adm (RATE.FS p) == 0 then 6
  else 0

/-- Refuses the pending configuration of product `p`. -/
def prodRefuse (acc : KMap × Tab Nat) (p code : Nat) : KMap × Tab Nat := (admDrop acc.1 (prodLo p) (prodHi p), tset acc.2 p code)

/-- Step 2 of R75 for products. -/
def Dev.prodStep2 (d : Dev) (adm : KMap) : KMap × Tab Nat :=
  (List.range 8).foldl (fun acc p =>
    if admHas adm (prodLo p) (prodHi p) then
      (if d.prodCode acc.1 p = 0 then (acc.1, tset acc.2 p 0) else prodRefuse acc p (d.prodCode acc.1 p))
    else acc) (adm, [])

/-- Step 4 of R75 for products: code 3 against the accepted descriptors. -/
def Dev.prodStep4 (d : Dev) (acc : KMap × Tab Nat) : KMap × Tab Nat :=
  let pts := d.candPts acc.1
  (List.range 8).foldl (fun a p =>
    if tget? a.2 p == some 0 && d.on (RATE.PROD_EN p) && !d.candOn a.1 (RATE.PROD_EN p) && pts.any (fun n => d.cand a.1 (PD.PRODUCT n) == p)
    then prodRefuse a p 3 else a) acc

/-- Reports the outcome (R183). -/
def Dev.prodReport (d : Dev) (now : Nat) (codes : Tab Nat) : Dev :=
  d.each codes (fun d x => (d.wr (RATE.LOOP_ERR x.1) x.2).when (x.2 != 0) (fun d => d.fire now EVT.RATE_CFG_REFUSED x.1 x.2))

/-! ### Drive profiles as the table holds them (R298, R301) -/

/-- Profile `k` of the active table. -/
def Dev.profileAt (d : Dev) (k : Nat) : Profile :=
  { phases := (List.range (d.rd (PRF.N_PH_M1 k) + 1)).map (fun m =>
      { kind := d.rd (PHS.KIND k m), peak := d.on (PHS.PEAK k m), fast := d.on (PHS.FAST k m), endOn := d.rd (PHS.END k m),
        iHi := d.rd (PHS.I_HI k m), iLo := d.rd (PHS.I_LO k m), tMax := d.rd (PHS.T_MAX k m), tMin := d.rd (PHS.T_MIN k m) }),
    endFast := d.on (PRF.END_FAST k), okEn := d.on (PRF.OK_EN k), ckEn := d.on (PRF.CK_EN k), minOn := max 5 (d.rd (PRF.MIN_ON k)),
    minOff := d.rd (PRF.MIN_OFF k), okDip := d.rd (PRF.OK_DIP k), okRatio := d.rd (PRF.OK_RATIO k), okBlank := d.rd (PRF.OK_BLANK k),
    ckThr := d.rd (PRF.CK_THR k), ckBlank := d.rd (PRF.CK_BLANK k), kinkStep := d.rdH 4 50 (PRF.KINK_STEP k), ckWin := max 1 (d.rd (PRF.CK_WIN k)), olT := max 1 (d.rd (PRF.OL_T k)) }

/-- I_PK of a profile (R301): the largest I_HI of its PEAK phases, or of all where none is. -/
def Profile.iPk (p : Profile) : Nat :=
  let pk := p.phases.filter (·.peak)
  (if pk.isEmpty then p.phases else pk).foldl (fun a x => max a x.iHi) 0

/-- T_PEAK of a profile in 10 µs (R301). -/
def Profile.tPeak (p : Profile) : Nat := ((p.phases.filter (·.peak)).map (·.tMax)).sum

/-! ### Pulse slots (R184 to R186) -/

/-- PH_MODE in force: 1 ALIGNED, else SPREAD (R185). -/
def Dev.phAligned (d : Dev) : Bool := d.rd RATE.PH_MODE == 1

/-- The points R185 gives a slot, per product, in rising index. -/
def Dev.slotPts (d : Dev) (p : Nat) : List Nat := d.validPts.filter (fun n => d.rd (PD.PRODUCT n) == p && d.on (RATE.PULSED p))

/-- bitrev4. -/
def bitrev4 (k : Nat) : Nat := reflect 4 k

/-- circ_dist of R186. -/
def circDist (a b : Nat) : Nat := let x := (max a b) - (min a b); min x (16 - x)

/-- The first slot at or after `s` whose distance to every slot of `es` reaches `sep`; none after 16 tries. -/
def findSlot16 (es : List Nat) (sep s : Nat) : Option Nat :=
  ((List.range 16).map (fun k => (s + k) % 16)).find? (fun x => es.all (fun e => decide (sep ≤ circDist x e)))

/-- OFS(s) of R184 in cycles: s × Tp / 16 to the nearest 10 µs, halves upward. -/
def slotOfs (tp s : Nat) : Nat := 4000 * ((2 * s * (tp / 4000) + 16) / 32)

/-- SEP of R186 for group `g` and period `tp` (cycles). -/
def Dev.slotSep (d : Dev) (g tp : Nat) : Nat :=
  let pk := ((d.validPts.filter (fun n => d.rd (PD.BIND_KIND n) == 1 && d.rd (PD.LOCAL_CH n) / 4 == g)).map
    (fun n => (d.profileAt (d.rd (PD.PROFILE n))).tPeak)).foldl max 0
  if tp = 0 then 16 else ceilDiv ((4000 * pk + 40000 * d.rd RATE.PH_GUARD) * 16) tp

/-- Sets the slot of a point. -/
def Dev.setPtSlot (d : Dev) (n s : Nat) : Dev := { d with rate := { d.rate with pts := tmod d.rate.pts n (fun x => { x with slot := s }) } }

/-- R186 for product `p` in group `g`: how many members could not be separated. -/
def Dev.separate (d : Dev) (p g : Nat) : Dev × Nat :=
  let ms := (d.slotPts p).filter (fun n => d.rd (PD.BIND_KIND n) == 1 && d.rd (PD.LOCAL_CH n) / 4 == g)
  let sep := d.slotSep g (d.pulsePeriod p)
  let r := ms.foldl (fun (a : Dev × List Nat × Nat) n =>
    let s := (a.1.rateOf n).slot
    match (if a.2.1.isEmpty then some s else findSlot16 a.2.1 sep s) with
    | some x => (a.1.setPtSlot n x, a.2.1 ++ [x], a.2.2)
    | none => (a.1, a.2.1 ++ [s], a.2.2 + 1)) (d, [], 0)
  (r.1, r.2.2)

/-- Assigns the slots of the products listed (R185, R186); PH_CONFLICT shows the last assignment of each group, and
EVT_RATE_PH_CONFLICT fires for each member that could not be separated. -/
def Dev.assignSlots (d : Dev) (now : Nat) (prods : List Nat) : Dev :=
  let al := d.phAligned
  let d := d.each prods (fun d p =>
    d.each ((d.slotPts p).zipIdx) (fun d x => d.setPtSlot x.1 (if al then 0 else bitrev4 (x.2 % 16))))
  d.each (List.range 8) (fun d g =>
    let s := (List.range 8).foldl (fun (b : Dev × Nat) p =>
      if prods.contains p then (let x := b.1.separate p g; (x.1, b.2 + x.2)) else b) (d, 0)
    let mine := prods.any (fun p => (d.slotPts p).any (fun n => d.rd (PD.BIND_KIND n) == 1 && d.rd (PD.LOCAL_CH n) / 4 == g))
    let d := if mine then s.1.wr RATE.PH_CONFLICT (setBitOf (s.1.rd RATE.PH_CONFLICT) g (s.2 != 0)) else s.1
    d.each (List.range s.2) (fun d _ => d.fire now EVT.RATE_PH_CONFLICT g 1))

/-- What R184 and R185 compare across a commit: per product its slot points, PULSE_FREQ and whether PROD_EN and PULSED are
both set; and the phase mode. -/
def Dev.phaseKey (d : Dev) : List (List Nat × Nat × Bool) × Bool :=
  ((List.range 8).map (fun p => (d.slotPts p, d.rd (RATE.PULSE_FREQ p), d.on (RATE.PROD_EN p) && d.on (RATE.PULSED p))), d.phAligned)

/-- The key before a commit; before the first commit after a KINDLE no point is accepted and no product pulses yet. -/
def Dev.keyBefore (d : Dev) : List (List Nat × Nat × Bool) × Bool :=
  if d.dec.winOpen = 0 then (d.phaseKey.1.map (fun x => ([], x.2.1, false)), d.phAligned) else d.phaseKey

/-- Slots and pulse grids after a commit whose state before it had the key `old` (R184, R185). -/
def Dev.phaseCommit (d : Dev) (now opening : Nat) (old : List (List Nat × Nat × Bool) × Bool) : Dev :=
  let new := d.phaseKey
  let prods := (List.range 8).filter (fun p =>
    (new.1.getD p ([], 0, false)).1 != (old.1.getD p ([], 0, false)).1 || (new.1.getD p ([], 0, false)).2.1 != (old.1.getD p ([], 0, false)).2.1 ||
    new.2 != old.2)
  let epochs := (List.range 8).filter (fun p =>
    let n := new.1.getD p ([], 0, false)
    let o := old.1.getD p ([], 0, false)
    n.2.1 != o.2.1 || new.2 != old.2 || (n.2.2 && !o.2.2))
  let d := d.each epochs (fun d p =>
    (d.modLoop p (fun x => { x with epoch := opening })).wr2 (RATE.PH_EPOCH_LO p) (RATE.PH_EPOCH_HI p) (nsOf opening))
  if prods.isEmpty then d else d.assignSlots now prods

/-- Commits the rate results of tick `k` (R191). -/
def Dev.rateCommit (d : Dev) (now k : Nat) (rate : Tab PtRate) (fresh : List Nat) : Dev :=
  let upd : Tab PtRate := d.validPts.map (fun n =>
    (n, { (tget rate n) with slot := (d.rateOf n).slot, low := !fresh.contains n && (tget rate n).low, high := !fresh.contains n && (tget rate n).high }))
  let lim := (upd.filter (fun x => x.2.low || x.2.high)).length
  let d := { d with rate := { d.rate with pts := upd, tick := k } }.add RATE.LIMIT_CNT lim
  if upd.any (fun x => x.2.nzInv) then d.fire now EVT.RATE_TABLE_INVALID 0 0 else d

/-! ### Commands -/

/-- PTR_IDX written (R192): 0x304 to 0x310 show the last commit. -/
def Dev.ptrIdxWrite (d : Dev) (n : Nat) : Dev :=
  let c := d.rateOf n
  let d := ((d.wr RATE.PTR_IDX n).wr RATE.PT_RATE c.rate).wr RATE.PT_RX_IDX c.rx
  let d := ((d.wr RATE.PT_DEMAND c.demand).wr RATE.PT_DUTY c.duty).wr RATE.PT_SLOT c.slot
  let d := ((d.wrB RATE.RATE_LOW c.low).wrB RATE.RATE_HIGH c.high).wrB RATE.PRESS_RANGE c.press
  (d.wrB RATE.NZ_INVALID c.nzInv).wr RATE.PTR_TICK (d.rate.tick % 2 ^ 32)

/-- The update of loop `p` in tick `k`, whose commit has been made, where tick `k` is one of its own and has not brought it (R178):
with the states and rates of the last commit. -/
def Dev.loopLate (d : Dev) (k p : Nat) : Dev :=
  if d.loopEnabled p && d.loopDue k p && d.rd SYS.LAST_COMMIT == k % 2 ^ 32 && (d.loopOf p).updTick != some k && !d.on (RATE.FB_LOST p) then
    let sp := d.loopSp (d.edgeOf k) p d.dec.pts d.rate.pts
    if sp = 0 then d
    else
      let r := d.loopPv (d.edgeOf k) p
      r.2.loopTick k p sp r.1
  else d

/-- LOOP_UPDATE, R178: the update of a loop in the running tick; each tick of its own brings it in T4, so this does what is still to
be done (log entry 123). -/
def execLoopUpdate (el : Nat) (prod : Fin 8) (s : State) : Host.Outcome State Fault Refusal :=
  s.run el (fun now d => if d.ticking then d.loopLate (d.tickCnt now) prod.val else d)

/-- FB_LOSS, R180: no feedback edge for FB_TIMEOUT. -/
def execFbLoss (el : Nat) (prod : Fin 8) (s : State) : Host.Outcome State Fault Refusal :=
  s.run el (fun now d =>
    if d.ticking && d.loopEnabled prod.val then d.fbCheck now now prod.val (tget d.fbk (d.rd (RATE.FB_FBK prod.val))).e1 else d)

/-- RATE_DEVIATION, R181: a loop has deviated, or agreed, for DEV_TIME. -/
def execRateDeviation (el : Nat) (prod : Fin 8) (s : State) : Host.Outcome State Fault Refusal :=
  s.run el (fun now d =>
    if d.ticking && d.loopEnabled prod.val then
      let r := d.loopPv now prod.val
      r.2.devCheck now now prod.val (r.2.rd (RATE.LOOP_SP prod.val)) r.1
    else d)

/-- RATE_SNAPSHOT, R192. -/
def execRateSnapshot (el : Nat) (n : BitVec 10) (s : State) : Host.Outcome State Fault Refusal :=
  s.run el (fun _ d => if d.hif.inService then d.ptrIdxWrite n.toNat else d)

end Sys2Proof.Machine
end

