-- ==== Sys2Proof/Machine/Kink.lean ====
section
/-! DEFINITION. What the samples of a channel's current and pin voltage show of a pulse (R296, R299, R311, R314, R319, R320): regulation
of the low side, the opening and seating kinks, the coil temperature. -/

namespace Sys2Proof.Machine

/-- The phase a pulse is in. -/
def Pulse.ph (p : Pulse) : Phase := p.prof.phases.getD p.phase {}

/-- Changes what the samples of a pulse have shown. -/
def Pulse.modSense (p : Pulse) (f : PulseSense → PulseSense) : Pulse := { p with sense := f p.sense }

/-- FLAGS with bit `b` set. -/
def Pulse.flag (p : Pulse) (b : Nat) : Pulse := { p with flags := setBitOf p.flags b true }

/-! ### Thresholds and regulation (R297, R299, R311) -/

/-- The thresholds of the phase a pulse is in, upper and lower, mA: I_HI' and I_LO' in a PEAK phase limited under SHARE (R311). -/
def Pulse.thr (p : Pulse) : Nat × Nat :=
  let ph := p.ph
  match p.limit with
  | some h => if ph.peak && decide (h < ph.iHi) then (h, ph.iLo - (ph.iHi - h)) else (ph.iHi, ph.iLo)
  | none => (ph.iHi, ph.iLo)

/-- Whether the low side regulates: in a REGULATE phase, and in a RAMP that has reached I_HI before its opening (R299). -/
def Pulse.regulates (p : Pulse) : Bool := p.ph.kind == 1 || (p.ph.kind == 0 && p.sense.reg)

/-- The least on and off interval of regulation (Table 09.1): 12.5 µs. -/
def chopMin : Nat := 5000

/-- Whether the logic die looks for an opening in a pulse at `t` (R314). -/
def Pulse.seeks (p : Pulse) (kind t : Nat) : Bool :=
  p.prof.okEn && p.openT.isNone && p.ph.peak && p.ph.kind == kind && decide (p.start + 40000 * p.prof.okBlank ≤ t)

/-- An opening is found at `now`, at time `t` (R314). -/
def Pulse.opened (p : Pulse) (now t : Nat) : Pulse := { p with openT := some t }.modSense (fun q => { q with foundAt := some now })

/-- An on-interval from `a` to `b` has ended in regulation (Table 09.7, stretch): a run of intervals of at least OK_RATIO % of the mean of
the four before it, ended by a shorter one, is an opening at the end of the run's last. -/
def Pulse.onInterval (p : Pulse) (a b : Nat) (judged : Bool) : Pulse :=
  if !(judged && p.seeks 1 a && decide (p.phaseAt ≤ a)) then p
  else
    let q := p.sense
    if q.lens.length = 4 && decide (p.prof.okRatio * q.lens.sum ≤ 400 * (b - a)) then p.modSense (fun q => { q with runEnd := some b })
    else match q.runEnd with
      | some e => p.opened b e
      | none => p.modSense (fun q => { q with lens := (q.lens ++ [b - a]).drop (q.lens.length - 3) })

/-- The low side switches at `t`. -/
def Pulse.switch (p : Pulse) (on_ : Bool) (t : Nat) (judged : Bool) : Pulse :=
  let a := p.sense.lsAt
  let p := p.modSense (fun q => { q with lsOn := on_, lsAt := t, fell := false, onTime := if on_ then q.onTime else q.onTime + (t - max a p.phaseAt) })
  if on_ then p else p.onInterval a t judged

/-- Regulation up to `t` with the current last sampled (R299): off at I_HI, on at I_LO, each interval at least 12.5 µs. -/
def Pulse.regTo (p : Pulse) (t : Nat) (judged : Bool) : Pulse :=
  let q := p.sense
  let at_ := max q.curAt (max (q.lsAt + chopMin) p.phaseAt)
  if !p.regulates || decide (t < at_) then p
  else if q.lsOn && decide (p.thr.1 ≤ q.cur) then p.switch false at_ judged
  else if !q.lsOn && decide (q.cur ≤ p.thr.2) then p.switch true at_ judged
  else p

/-- A phase begins at `t` (R299): the low side of a RAMP on, of a DECAY off, of a REGULATE phase as it was. -/
def Pulse.enter (p : Pulse) (k t : Nat) : Pulse :=
  let p := ({ p with phase := k, phaseAt := t }).modSense (fun q =>
    { q with reg := false, hit := false, drained := false, dipMax := none, dipLow := none, lens := [], runEnd := none, foundAt := none,
             onTime := 0, curSum := 0, curCnt := 0 })
  let on_ := if p.ph.kind = 0 then true else if p.ph.kind = 1 then p.sense.lsOn else false
  if on_ == p.sense.lsOn then p else p.modSense (fun q => { q with lsOn := on_, lsAt := t, fell := false })

/-! ### Steps and kinks (R314) -/

/-- KINK_STEP in cycles. -/
def Profile.stepLen (p : Profile) : Nat := us p.kinkStep

/-- The dip of Table 09.7 with the mean `v` of the step whose centre is `c`, known at `now`. -/
def Pulse.dipStep (p : Pulse) (now c v : Nat) : Pulse :=
  match p.sense.dipMax, p.sense.dipLow with
  | some m, none =>
    if v + p.prof.okDip ≤ m then p.modSense (fun q => { q with dipLow := some (v, c) }) else p.modSense (fun q => { q with dipMax := some (max m v) })
  | _, some l =>
    if v < l.1 then p.modSense (fun q => { q with dipLow := some (v, c) })
    else if p.prof.okDip ≤ 2 * (v - l.1) then p.opened now l.2
    else p
  | none, none => p.modSense (fun q => { q with dipMax := some v })

/-- A step of a running pulse is complete: number `k`, mean `v`. -/
def Pulse.driveStep (p : Pulse) (now k v : Nat) (judged : Bool) : Pulse :=
  let l := p.prof.stepLen
  let a := p.start + k * l
  let p := { p with iPk := max p.iPk v }
  if judged && p.seeks 0 a && p.sense.lsOn && !p.sense.reg && decide (p.phaseAt ≤ a) then p.dipStep now (a + l / 2) v else p

/-- A step of the closing window is complete: number `k`, mean `v`: d2 of the step before it (Table 09.7). -/
def Pulse.closeStep (p : Pulse) (k v : Nat) : Pulse :=
  let l := p.prof.stepLen
  let d2 : Int := match p.sense.prev with | [b, a] => (v : Int) - 2 * b + a | _ => -1
  let m := if p.prof.endFast then d2.natAbs else d2.toNat
  let c := p.ended + (k - 1) * l + l / 2
  let known := p.sense.prev.length == 2 && (p.prof.endFast || decide (0 ≤ d2)) && decide (p.prof.ckThr ≤ m) && decide (c ≤ p.ended + ms p.prof.ckWin)
  if known && (match p.sense.best with | some b => decide (b.1 < m) | none => true) then p.modSense (fun q => { q with best := some (m, c) }) else p

/-- A sample `v` at `t` enters the steps laid from `from_`; `fin` takes each step that it completes, by number and mean. -/
def Pulse.stepSample (p : Pulse) (from_ t v : Nat) (fin : Pulse → Nat → Nat → Pulse) : Pulse :=
  let k := (t - from_) / p.prof.stepLen
  let q := p.sense
  if k = q.step then p.modSense (fun q => { q with sum := q.sum + v, cnt := q.cnt + 1 })
  else
    let p := if q.cnt = 0 then p else fin p q.step (q.sum / q.cnt)
    p.modSense (fun x => { x with step := k, sum := v, cnt := 1,
                                  prev := if q.cnt = 0 || k != q.step + 1 then [] else (q.sum / q.cnt :: q.prev).take 2 })

/-- A converter sample of a running pulse at `t` (R296, R299): its current `v` in mA; `judged` where kinks are looked for (R328). -/
def Pulse.sample (p : Pulse) (t v : Nat) (judged : Bool) : Pulse :=
  let p := p.regTo t judged
  let ph := p.ph
  let hi := p.thr.1
  let fast := ph.kind == 2 && ph.fast
  let p := p.modSense (fun q =>
    { q with cur := v, curAt := t, hit := q.hit || decide (hi ≤ v), reg := q.reg || (ph.kind == 0 && ph.endOn == 2 && decide (hi ≤ v)),
             fell := q.fell || (!q.lsOn && decide (v + 50 < hi)), drained := q.drained || (fast && decide (v < 50)),
             curSum := q.curSum + v, curCnt := q.curCnt + 1 })
  let p := p.regTo t judged
  if fast then p else p.stepSample p.start t v (fun p k m => p.driveStep t k m judged)

/-- A converter sample in the closing window at `t` (R314): current in mA with slow end decay, pin voltage in 10 mV, which the clamp
holds at 45 V (R294), with fast. -/
def Pulse.closeSample (p : Pulse) (t ma pin : Nat) : Pulse :=
  if !p.prof.ckEn || decide (t < p.ended + 40000 * p.prof.ckBlank) || decide (p.ended + ms p.prof.ckWin < t) then p
  else p.stepSample p.ended t (if p.prof.endFast then min 4500 pin else ma) Pulse.closeStep

/-- The time at which the phase of a pulse ends with the current last sampled (R299), `tMax` being its limit: at the limit, or on its
current or opening, not before T_MIN; and whether it is the limit that ends it. -/
def Pulse.phaseEnd (p : Pulse) (tMax : Option Nat) : Option (Nat × Bool) :=
  let ph := p.ph
  let q := p.sense
  let least := p.phaseAt + 4000 * ph.tMin
  let cur := if ph.endOn != 1 || decide (q.curAt < p.phaseAt) then none
    else if (ph.kind = 0 ∧ p.thr.1 ≤ q.cur) ∨ (ph.kind = 2 ∧ q.cur ≤ p.thr.2) then some (max q.curAt least) else none
  let open_ := if ph.endOn = 2 then q.foundAt.map (fun t => max t least) else none
  let lim := tMax.map (fun t => p.phaseAt + t)
  match (if cur.isSome then cur else open_), lim with
  | some a, some b => if a ≤ b then some (a, false) else some (b, true)
  | some a, none => some (a, false)
  | none, some b => some (b, true)
  | none, none => none

/-- The end of drive of a pulse at `t`: the steps begin anew for the closing window. -/
def Pulse.endAt (p : Pulse) (t : Nat) : Pulse :=
  { p with ended := t }.modSense (fun q =>
    { q with onTime := if q.lsOn then q.onTime + (t - max q.lsAt p.phaseAt) else q.onTime, lsOn := false, step := 0, sum := 0, cnt := 0, prev := [] })

/-- The temperature of R319 from the coil's resistance, by the bank voltage in mV and R26 in mΩ; none where the final phase gave less than
2 ms or no current. -/
def Pulse.coilTemp (p : Pulse) (mv r26 : Nat) : Option Int :=
  let t := p.ended - p.phaseAt
  let q := p.sense
  if p.phase + 1 < p.prof.phases.length ∨ t < ms 2 ∨ q.curSum = 0 ∨ r26 = 0 then none
  else
    let r : Nat := q.onTime * mv * 1000 * q.curCnt
    let den : Nat := t * q.curSum
    some (25 + ((r : Int) - r26 * den) * 100000 / (393 * r26 * den))

end Sys2Proof.Machine
end

