-- ==== Sys2Proof/Machine/Idc.lean ====
section
/-! DEFINITION. Inductive actuator drive (R294 to R329): profiles, pulses, group admission, records, diagnostics, and the
commands of the family. -/

namespace Sys2Proof.Machine

/-- Channel `c`. -/
def Dev.idcCh (d : Dev) (c : Nat) : IdcCh := tget d.idc c

/-- Changes channel `c`. -/
def Dev.modIdc (d : Dev) (c : Nat) (f : IdcCh → IdcCh) : Dev := { d with idc := tmod d.idc c f }

/-- The channels of group `g`. -/
def groupChs (g : Nat) : List Nat := (List.range 4).map (fun c => 4 * g + c)

/-- Whether channel `c` is driven by DIRECT_ON (R304). -/
def Dev.idcDirect (d : Dev) (c : Nat) : Bool := d.on (IDC.DIRECT_EN c) && (d.ptOfCh 1 c).isNone

/-- Whether channel `c` drives anything. -/
def Dev.idcUsed (d : Dev) (c : Nat) : Bool := (d.ptOfCh 1 c).isSome || d.on (IDC.DIRECT_EN c)

/-- The profile number of channel `c`. -/
def Dev.idcProfNo (d : Dev) (c : Nat) : Nat :=
  match d.ptOfCh 1 c with
  | some n => d.rd (PD.PROFILE n)
  | none => d.rd (IDC.DIRECT_PROFILE c)

/-- Whether the bank of channel `c` is suspended. -/
def Dev.idcSusp (d : Dev) (c : Nat) : Bool := d.on (IDG.BANK_SUSP (c / 4))

/-- Whether channel `c` ignores commands as latched (Table 09.5, R302, R303, R320). -/
def Dev.idcBlocked (d : Dev) (c : Nat) : Bool :=
  (d.idcCh c).latched || d.on (IDG.GRP_LATCH (c / 4)) || !bitOf d.idcB.accepted (d.idcProfNo c) ||
  bitOf (d.rd (IDG.CONT_EXCESS (c / 4))) (c % 4)

/-! ### Group load (R310) -/

/-- I_HI of the last phase of a profile. -/
def Profile.iLast (p : Profile) : Nat := (p.phases.getLast?.getD {}).iHi

/-- I_HI of the phase that drives before a decay that begins in the phase of a pulse, or of that phase (R310). -/
def Pulse.drivenHi (p : Pulse) : Nat :=
  (((p.prof.phases.take (p.phase + 1)).filter (fun x => x.kind != 2)).getLast?.getD {}).iHi

/-- The level at which a channel counts toward its group's load (R310). -/
def IdcCh.level (ch : IdcCh) : Nat :=
  match ch.act, ch.pulse with
  | .on, some p =>
    if p.ph.kind = 2 then (if p.ph.fast && !p.sense.drained then p.drivenHi else 0)
    else if p.ph.peak then (match p.limit with | some l => min l p.prof.iPk | none => p.prof.iPk)
    else p.ph.iHi
  | _, _ =>
    if ch.decay && ch.decFast then ch.decLvl else 0

/-- Whether a channel needs its high-side switch (R310, R327): in its on phases, and in fast decay, whose current still flows
through it. -/
def IdcCh.needsHsg (ch : IdcCh) : Bool :=
  ch.act == .on || (ch.decay && ch.decFast)

/-- The group load without channel `c`. -/
def Dev.groupLoad (d : Dev) (g c : Nat) : Nat := (((groupChs g).filter (· != c)).map (fun k => (d.idcCh k).level)).sum

/-- PEAK_LIM in mA, held at 10 and 80. -/
def Dev.peakLim (d : Dev) (g : Nat) : Nat := 100 * d.rdH 10 80 (IDG.PEAK_LIM g)

/-- CH_STATE, PHASE and the group's readings follow the channels (Tables 09.12 and 09.13). -/
def Dev.idcShow (d : Dev) (g : Nat) : Dev :=
  let d := d.each (groupChs g) (fun d c =>
    let ch := d.idcCh c
    let st := if (d.idcUsed c && !bitOf d.idcB.accepted (d.idcProfNo c)) || ch.latched || d.on (IDG.GRP_LATCH g) then 5 else if ch.holdEnd.isSome then 6 else if ch.snuff.isSome then 7
      else match ch.act with
      | .on => 3 | .wait => 1 | .defer => 2 | .idle => if ch.decay then 4 else 0
    (d.wr (IDC.CH_STATE c) st).wr (IDC.PHASE c) (if ch.act = .on then (ch.pulse.map (·.phase)).getD 0 else 0))
  let load := ((groupChs g).map (fun k => (d.idcCh k).level)).sum
  let hsg := !d.on (IDG.GRP_LATCH g) && !d.on (IDG.BANK_SUSP g) && (groupChs g).any (fun k => (d.idcCh k).needsHsg)
  let w := (groupChs g).foldl (fun a k => a + (if (d.idcCh k).act = .wait then 2 ^ (k % 4) else 0)) 0
  ((d.wr (IDG.LOAD_NOW g) (min 127 (load / 100))).wrB (IDG.HSG_ON g) hsg).wr (IDG.WAITING g) w

/-! ### Records (R315 to R319) -/

/-- Units of 0.1 µs in a span of cycles, saturated below the code for none. -/
def tenths (c : Nat) : Nat := min 4294967294 (c / 40)

/-- A pulse whose opening and seat times are filled as R317 has it, with the latencies of its point. -/
def Dev.recTimes (d : Dev) (p : Pulse) : Pulse × Option Nat × Option Nat :=
  let lat := fun isOpen => match p.pt with | some n => d.latCycles n isOpen | none => 0
  let p := if p.openT.isSome && p.prof.okEn then p.flag 7 else p
  let p := if p.seatT.isSome && p.prof.ckEn then p.flag 8 else p
  let lost := bitOf p.flags 14 || bitOf p.flags 15
  let op := if p.prof.okEn then (p, p.openT) else (p.flag 9, some (p.start + lat true))
  let p := op.1
  if p.prof.ckEn then (p, op.2, p.seatT)
  else if lost then (p, op.2, none)
  else (p.flag 10, op.2, some (p.ended + lat false))

/-- The words of a record (Table 09.8). -/
def recWords (c : Nat) (p : Pulse) (openT seatT : Option Nat) (temp : Int) : List Nat :=
  let ns := nsOf p.cmd
  let ce := p.cmdEnd.getD p.ended
  let w : List Nat :=
    [c + 2 ^ 5 * p.pt.getD 0 + 2 ^ 16 * p.seq, ns % 2 ^ 32, ns / 2 ^ 32, tenths (p.start - p.cmd),
     (match openT with | some t => tenths (t - p.cmd) | none => 4294967295), tenths (ce - p.cmd),
     (match seatT with | some t => tenths (t - ce) | none => 4294967295), min 4095 p.iPk + 2 ^ 12 * ofS 10 temp, p.flags % 2 ^ 16]
  w ++ [crc16 (wordsToBytes w)]

/-- Counts of missed kinks (R315): sixteen in a row fire the event. -/
def Dev.kinkMiss (d : Dev) (now c : Nat) (openKind missed : Bool) : Dev :=
  let ch := d.idcCh c
  let run := if openKind then ch.runMissO else ch.runMissS
  let run' := if missed then run + 1 else 0
  let lost := run' == 16
  let d := d.modIdc c (fun x => if openKind then { x with runMissO := if lost then 0 else run' } else { x with runMissS := if lost then 0 else run' })
  let d := if missed then d.bump (if openKind then IDC.OPEN_MISS c else IDC.SEAT_MISS c) else d
  if lost then d.fire now EVT.IDC_KINK_LOST c (b2n (!openKind)) else d

/-- The temperature of the group's power die as last read. -/
def Dev.dieTemp (d : Dev) (c : Nat) : Int := d.rdS (IDG.DIE_TEMP (c / 4))

/-- VPWR_MV of bank `b`. -/
def vpwrField (b : Nat) : Field :=
  match b with | 0 => PWR.VPWR_A_MV | 1 => PWR.VPWR_B_MV | 2 => PWR.VPWR_C_MV | _ => PWR.VPWR_D_MV

/-- TEMP of the record of `p` on channel `c` (R319): the coil's, its last estimate where the final phase was short, or the die's (log
entry 137). -/
def Dev.recTemp (d : Dev) (c : Nat) (p : Pulse) : Int :=
  let t := if d.on (IDC.TEMP_SRC c) && d.rd (IDC.R26 c) != 0 then
      (match p.coilTemp (d.rd (vpwrField (c / 8))) (d.rd (IDC.R26 c)) with
       | some t => t
       | none => (d.idcCh c).coilTemp.getD (d.dieTemp c))
    else d.dieTemp c
  max (-40) (min 150 t)

/-- The closing window of channel `c` is over; an off window may begin (R322). -/
def Dev.closeWindow (d : Dev) (now c : Nat) : Dev := d.modIdc c (fun x => { x with done := none, offFrom := now })

/-- A VALVE_CYCLE test that runs on channel `c` takes the latencies of a record (Table 16.7): opening from the commanded start, seating
from the commanded end `ce`. -/
def Dev.tstRecord (d : Dev) (c : Nat) (p : Pulse) (ce : Nat) : Dev :=
  match (List.range 16).find? (fun q => d.rd (TST.STATUS q) == 2 && d.rd (TST.S_ID q) == 32 && d.rd (TST.S_TARGET q) == c) with
  | none => d
  | some q =>
    { d with tst := { d.tst with slots := tmod d.tst.slots q (fun (t : TstSlot) =>
      { t with opens := t.opens ++ (if bitOf p.flags 7 then (p.openT.map (· - p.cmd)).toList else []),
               closes := t.closes ++ (if bitOf p.flags 8 then (p.seatT.map (· - ce)).toList else []) }) } }

/-- The record of the pulse whose window closes is completed (R316 to R319); a pulse that a hold window took leaves none (R328). -/
def Dev.finishRecord (d : Dev) (now c : Nat) : Dev :=
  match (d.idcCh c).done with
  | none => d
  | some p =>
    if p.held || (d.idcCh c).holdEnd.isSome then d.closeWindow now c else
    let r := d.recTimes { p with seatT := p.sense.best.map (·.2) }
    let p := r.1
    let coil := d.on (IDC.TEMP_SRC c) && d.rd (IDC.R26 c) != 0
    let temp := d.recTemp c p
    let ws := recWords c p r.2.1 r.2.2 temp
    let d := (d.closeWindow now c).modIdc c (fun x =>
      { x with lastRec := ws, coilTemp := if coil && (p.coilTemp (d.rd (vpwrField (c / 8))) (d.rd (IDC.R26 c))).isSome then some temp else x.coilTemp })
    let d := (d.wrS (IDC.TEMP_LAST c) temp).wrB (IDC.PK_WARN c) (bitOf p.flags 11)
    let d := if p.prof.okEn then d.kinkMiss now c true (!bitOf p.flags 7) else d
    let d := if p.prof.ckEn then d.kinkMiss now c false (!bitOf p.flags 8) else d
    let use := !bitOf p.flags 3 && !bitOf p.flags 5
    let ce := p.cmdEnd.getD p.ended
    let d := match p.pt with
      | none => d
      | some n =>
        let d := match p.openT with
          | some t => if use && bitOf p.flags 7 then d.latSample now n true (((t : Int) - p.cmd) / 40) temp else d
          | none => d
        let d := match p.seatT with
          | some t => if use && bitOf p.flags 8 then d.latSample now n false (((t : Int) - ce) / 40) temp else d
          | none => d
        d.covRecord now n p.cmd r.2.1 r.2.2
    let d := d.tstRecord c p ce
    if d.on (IDG.REC_STREAM_EN (c / 4)) then d.kspSend 0 4 ([0x31, 0, 0, 0] ++ wordsToBytes ws) else d

/-! ### Starting and ending pulses (R304 to R312) -/

/-- Ends the drive of channel `c` at `now` with flags set, into its profile's end decay (R300), or into slow decay (R326). -/
def Dev.endDrive (d : Dev) (now c : Nat) (fl : List Nat) (slow : Bool) : Dev :=
  match (d.idcCh c).act, (d.idcCh c).pulse with
  | .on, some p =>
    let p := fl.foldl Pulse.flag ({ p with prof := if slow then { p.prof with endFast := false } else p.prof }.endAt now)
    d.modIdc c (fun x => { x with act := .idle, decay := true, pulse := none, done := some p, lastEnd := some now, decFast := p.prof.endFast,
                                  decLvl := p.drivenHi })
  | _, _ => d

/-- Whether a start waits or is deferred on channel `c`. -/
def Dev.startHeld (d : Dev) (c : Nat) : Bool := (d.idcCh c).act == .wait || (d.idcCh c).act == .defer

/-- Drops a start that waits or is deferred. -/
def Dev.dropStart (d : Dev) (now c : Nat) : Dev :=
  if d.startHeld c then d.modIdc c (fun x => { x with act := .idle, pulse := none, offFrom := now }) else d

/-- An off command cancels a start that waits or is deferred, counted in DEFER_CANCEL (R306, Table 09.5). -/
def Dev.cancelStart (d : Dev) (now c : Nat) : Dev :=
  if d.startHeld c then (d.dropStart now c).bump (IDG.DEFER_CANCEL (c / 4)) else d

/-- Whether the latest command of channel `c` that is due by `now` turns it off. -/
def IdcCh.offDue (ch : IdcCh) (now : Nat) : Bool :=
  match (ch.cmds.filter (fun k => decide (k.dt ≤ now))).getLast? with | some k => !k.on | none => false

/-- Starts the pulse that channel `c` holds, at `now`, with its peak limited to `limit` where given. -/
def Dev.startPulse (d : Dev) (now c : Nat) (limit : Option Nat) : Dev :=
  match (d.idcCh c).pulse with
  | none => d
  | some p =>
    let d := d.finishRecord now c
    let p := if limit.isSome then p.flag 1 else p
    let p := if d.pwr.st = .dim then p.flag 12 else p
    let seq := ((d.idcCh c).seq + 1) % 65536
    let p := { p with start := now, delay := now - p.waitFrom, limit := limit, seq := seq, held := (d.idcCh c).holdEnd.isSome, sense := {} }
    let p := (p.enter 0 now).modSense (fun q => { q with lsOn := p.ph.kind != 2, lsAt := now, curAt := now })
    let d := d.modIdc c (fun x => { x with act := .on, decay := false, pulse := some p, seq := seq })
    let g := c / 4
    let d := if bitOf p.flags 0 then d.bump (IDG.STAGGER_CNT g) else d
    let d := if bitOf p.flags 1 then d.bump (IDG.SHARE_CNT g) else d
    let d := if bitOf p.flags 2 then d.bump (IDG.DEFER_CNT g) else d
    let d := d.bump (IDC.PULSE_CNT c)
    let d := if (d.idcCh c).holdEnd.isSome then d.bump (IDC.HOLD_PULSES c) else d
    match p.pt with
    | some n => d.covPulseStart n p.cmd
    | none => d

/-- Whether another start of the group waits ahead of the one channel `c` holds (R311). -/
def Dev.waitsAhead (d : Dev) (c : Nat) (p : Pulse) : Bool :=
  (groupChs (c / 4)).any (fun k => k != c && (d.idcCh k).act == .wait &&
    (match (d.idcCh k).pulse with | some q => decide (q.cmd < p.cmd) || (q.cmd == p.cmd && decide (k < c)) | none => false))

/-- Admission of the start that channel `c` holds (R310, R311, Table 09.6). -/
def Dev.admitStart (d : Dev) (now c : Nat) : Dev :=
  match (d.idcCh c).pulse with
  | none => d
  | some p =>
    let g := c / 4
    let load := d.groupLoad g c
    let lim := d.peakLim g
    let head := lim - load
    let pol := d.rd (IDG.GRP_OVL_POLICY g)
    let ahead := d.waitsAhead c p
    let share := if pol = 1 then true else if pol = 2 then false
      else decide (p.waitFrom + 4000 * min 1000 (d.rd (IDG.STAGGER_MAX g)) ≤ now)
    if !ahead && decide (load + p.prof.iPk ≤ lim) then d.startPulse now c none
    else if !ahead && share && decide (p.prof.iLast ≤ head) then d.startPulse now c (some head)
    else
      let p := if pol = 2 then p.flag 2 else if pol = 1 then p else p.flag 0
      d.modIdc c (fun x => { x with act := .wait, pulse := some p })

/-- Admission, limits and release after a change of phase in group `g` (R312): limits rise with the headroom, and waiting
starts are served in the order of their commanded DT. -/
def Dev.readmit (d : Dev) (now g : Nat) : Dev :=
  let d := d.each (groupChs g) (fun d c =>
    match (d.idcCh c).act, (d.idcCh c).pulse with
    | .on, some p =>
      (match p.limit with
       | some l =>
         let head := d.peakLim g - d.groupLoad g c
         d.modIdc c (fun x => { x with pulse := some { p with limit := if p.prof.iPk ≤ head then none else some (max l head) } })
       | none => d)
    | _, _ => d)
  let key : Nat → Nat := fun c => ((d.idcCh c).pulse.map (·.cmd)).getD 0
  let ws := ((groupChs g).filter (fun c => (d.idcCh c).act == .wait && !(d.idcCh c).offDue now)).mergeSort (fun a b => decide (key a < key b) || (key a == key b && decide (a ≤ b)))
  (d.each ws (fun d c => d.admitStart now c)).idcShow g

/-- A pulse that may start asks admission, after MIN_ON has been compared (R307). -/
def Dev.askStart (d : Dev) (now c : Nat) : Dev :=
  match (d.idcCh c).pulse with
  | none => d
  | some p =>
    let p := { p with waitFrom := now }
    let minOn := 40000 * p.prof.minOn
    match p.cmdEnd with
    | some e =>
      if e < now + minOn then
        (if d.on (IDC.SHORT_MODE c) then d.modIdc c (fun x => { x with act := .idle, pulse := none })
         else (d.modIdc c (fun x => { x with pulse := some ({ p with cmdEnd := some (now + minOn) }.flag 4) })).admitStart now c)
      else (d.modIdc c (fun x => { x with pulse := some p })).admitStart now c
    | none => (d.modIdc c (fun x => { x with pulse := some p })).admitStart now c

/-- Whether MIN_OFF after the end of drive runs at `now` on channel `c` (R306). -/
def IdcCh.minOffRuns (ch : IdcCh) (now : Nat) (p : Profile) : Bool :=
  match ch.lastEnd with | some e => decide (now < e + 4000 * p.minOff) | none => false

/-- An on command acts on channel `c` (Table 09.5, R306, R309). -/
def Dev.idcOn (d : Dev) (now c : Nat) (k : DrvCmd) : Dev :=
  let ch := d.idcCh c
  let d := match ch.act, d.ptOfCh 1 c with | .on, _ => d | _, some n => d.covPulseCmd n k.dt | _, none => d
  if d.idcBlocked c || d.idcSusp c then d
  else match ch.act, ch.pulse with
  | .on, some p => d.modIdc c (fun x => { x with pulse := some ({ p with cmdEnd := k.endAt }.flag 6) })
  | _, _ =>
    let p : Pulse := { pt := d.ptOfCh 1 c, prof := d.profileAt (d.idcProfNo c), cmd := k.dt, cmdEnd := k.endAt,
                       flags := if d.idcDirect c then 8192 else 0 }
    if ch.minOffRuns now p.prof || ch.decay then d.modIdc c (fun x => { x with act := .defer, pulse := some ({ p with waitFrom := now }.flag 3) })
    else (d.modIdc c (fun x => { x with pulse := some p })).askStart now c

/-- An off command acts on channel `c` (Table 09.5, R306, R307, R311). -/
def Dev.idcOff (d : Dev) (now c : Nat) (k : DrvCmd) : Dev :=
  let ch := d.idcCh c
  match ch.act, ch.pulse with
  | .on, some p =>
    let least := p.start + 40000 * p.prof.minOn
    match p.cmdEnd with
    | none =>
      let e := max (k.dt + p.delay) least
      let short := decide (k.dt + p.delay < least)
      let p := { p with cmdEnd := some (if short then least - p.delay else k.dt) }
      let p := if short then (p.flag 5).flag 4 else p
      if e ≤ now then (d.modIdc c (fun x => { x with pulse := some p })).endDrive now c [] false
      else d.modIdc c (fun x => { x with pulse := some p })
    | some e =>
      if e + p.delay ≤ now then d.endDrive now c [] false
      else if now < least then d.modIdc c (fun x => { x with pulse := some ((({ p with cmdEnd := some (least - p.delay) }).flag 5).flag 4) })
      else (d.modIdc c (fun x => { x with pulse := some { p with cmdEnd := some k.dt } })).endDrive now c [5] false
  | _, _ => d.cancelStart now c

/-! ### Phases and what time brings (R299, R306, R325) -/

/-- T_MAX of the phase a pulse is in, in cycles, stretched in DIM (R325); none where the phase lasts to the pulse's end. -/
def Dev.phaseMax (d : Dev) (c : Nat) (p : Pulse) : Option Nat :=
  let ph := p.ph
  if ph.tMax = 0 then none
  else
    let k := if d.pwr.st = .dim && ph.peak && ph.endOn != 0 then d.rdH 1 4 (IDG.DIM_STRETCH (c / 4)) else 1
    some (4000 * ph.tMax * k)

/-- The phase of the pulse `p` of channel `c` ends at `t`, at its limit or before (R299): a RAMP whose limit ends it below I_HI sets
PK_NOT_REACHED. -/
def Dev.nextPhase (d : Dev) (t c : Nat) (p : Pulse) (lim : Bool) : Dev :=
  let miss := lim && p.ph.kind == 0 && !p.sense.hit
  let p := if miss then p.flag 11 else p
  let d := if miss then d.wr (IDC.PK_WARN c) 1 else d
  (d.modIdc c (fun x => { x with pulse := some (p.enter (min (p.phase + 1) (p.prof.phases.length - 1)) t) })).readmit t (c / 4)

/-- What time alone brings to a channel (R299, R306, R307, Table 09.5): the end of its pulse, the end of a phase, the end of a start that
waits past its own commanded end, the end of a deferral. -/
inductive IdcDue where
  | drive | phase (lim : Bool) | cancel | defer
  deriving DecidableEq, Repr, Inhabited

/-- The next thing that time brings to channel `c`, with its DT (R306, log entry 138). -/
def Dev.idcNext (d : Dev) (c : Nat) : Option (Nat × IdcDue) :=
  let ch := d.idcCh c
  match ch.act, ch.pulse with
  | .on, some p =>
    let e := p.cmdEnd.map (fun e => (max (e + p.delay) (p.start + 40000 * p.prof.minOn), IdcDue.drive))
    let f := (p.phaseEnd (d.phaseMax c p)).map (fun x => (x.1, IdcDue.phase x.2))
    (match e, f with
     | some a, some b => if a.1 ≤ b.1 then e else f
     | some _, none => e
     | none, _ => f)
  | .wait, some p => p.cmdEnd.map (fun e => (e, IdcDue.cancel))
  | .defer, some p =>
    let over_ := match ch.lastEnd with | some e => e + 4000 * p.prof.minOff | none => 0
    let free := if p.waitFrom < over_ then some over_ else if ch.decay then none else some (max ch.offFrom p.waitFrom)
    (match free, p.cmdEnd with
     | some t, some e => if e ≤ t then some (e, .cancel) else some (t, .defer)
     | some t, none => some (t, .defer)
     | none, some e => some (e, .cancel)
     | none, none => none)
  | _, _ => none

/-- What time has brought to channel `c` by `t`, in order, `fuel` steps at most. -/
def Dev.idcTimeN : Nat → Dev → Nat → Nat → Dev
  | 0, d, _, _ => d
  | fuel + 1, d, t, c =>
    match d.idcNext c with
    | none => d
    | some (at_, what) =>
      if t < at_ then d
      else
        let d := match what, (d.idcCh c).pulse with
          | .drive, _ => (d.endDrive at_ c [] false).readmit at_ (c / 4)
          | .phase lim, some p => d.nextPhase at_ c p lim
          | .cancel, _ => (d.cancelStart at_ c).readmit at_ (c / 4)
          | .defer, _ => (d.askStart at_ c).readmit at_ (c / 4)
          | .phase _, none => d
        Dev.idcTimeN fuel d t c

/-- What time has brought to channel `c` by `t`: a pulse has at most eight phases, its end, and a start that follows. -/
def Dev.idcTime (d : Dev) (t c : Nat) : Dev := Dev.idcTimeN 24 d t c

/-- Commands of channel `c` that are due by `now` act in order, `fuel` at most; what time brought before a command acts before it. -/
def Dev.idcRunN : Nat → Dev → Nat → Nat → Dev
  | 0, d, _, _ => d
  | fuel + 1, d, now, c =>
    match (d.idcCh c).cmds with
    | [] => d.idcTime now c
    | k :: rest =>
      if k.dt ≤ now then
        let d := (d.idcTime (k.dt - 1) c).modIdc c (fun x => { x with cmds := rest })
        let d := if k.on then d.idcOn now c k else d.idcOff now c k
        Dev.idcRunN fuel (d.readmit now (c / 4)) now c
      else d.idcTime now c

/-- Everything due on channel `c` at `now`. -/
def Dev.idcRun (d : Dev) (now c : Nat) : Dev := Dev.idcRunN ((d.idcCh c).cmds.length + 1) d now c

/-- A converter sample of channel `c` (R296): its current in mA, and the voltage of its pin in 10 mV, which stands for the current in the
closing window of fast decay (R314); phases end on it (R299), and admission follows (R310, R312). -/
def Dev.idcSense (d : Dev) (now c ma pin : Nat) : Dev :=
  let d := (d.idcTime now c).wr (IDC.I_NOW c) (min 4095 ma)
  let ch := d.idcCh c
  let judged := d.alive && ch.holdEnd.isNone
  let d := d.modIdc c (fun x =>
    { x with pulse := if x.act = .on then x.pulse.map (fun p => p.sample now ma judged) else x.pulse,
             done := if judged then x.done.map (fun p => p.closeSample now ma pin) else x.done })
  let d := if ch.act = .on then d.idcTime now c else d
  d.readmit now (c / 4)

/-! ### Faults (R320 to R323) -/

/-- Sets FAULT of channel `c`; a change to a value other than NONE fires EVT_IDC_FAULT (R323). While FAULT is PROF_INVALID (R302), the
value waits under it. -/
def Dev.idcFault (d : Dev) (now c code : Nat) : Dev :=
  let old := d.rd (IDC.FAULT c)
  if old = 5 then d.modIdc c (fun x => { x with under := code })
  else
    let d := d.wr (IDC.FAULT c) code
    if code != 0 && code != old then d.fire now EVT.IDC_FAULT c code else d

/-- The fault of channel `c` beside PROF_INVALID. -/
def Dev.idcFaultOf (d : Dev) (c : Nat) : Nat := if d.rd (IDC.FAULT c) = 5 then (d.idcCh c).under else d.rd (IDC.FAULT c)

/-- The fault of channel `c` is gone. -/
def Dev.idcFaultEnd (d : Dev) (c : Nat) : Dev :=
  if d.rd (IDC.FAULT c) = 5 then d.modIdc c (fun x => { x with under := 0 }) else d.wr (IDC.FAULT c) 0

/-- Latches channel `c` (R320). -/
def Dev.idcLatch (d : Dev) (now c code : Nat) : Dev :=
  let d := (d.dropStart now c).endDrive now c [14] false
  ((d.modIdc c (fun x => { x with latched := true })).idcFault now c code).readmit now (c / 4)

/-- Latches group `g` (R320): HSGg off, every pulse of the group ends with FAULT. -/
def Dev.idcGroupLatch (d : Dev) (now g : Nat) (hsgOc : Bool) : Dev :=
  let d := d.each (groupChs g) (fun d c => (d.dropStart now c).endDrive now c [14] false)
  let was := d.on (IDG.GRP_LATCH g)
  let d := (d.wr (IDG.GRP_LATCH g) 1).wrB (IDG.HSG_OC g) hsgOc
  let d := if was then d else d.fire now EVT.IDC_GRP_LATCH g (b2n hsgOc)
  d.idcShow g

/-- SC_GND of channel `c`. -/
def Dev.idcScGnd (d : Dev) (now c : Nat) : Dev := (d.idcGroupLatch now (c / 4) false).idcFault now c 2

/-- DIAG_OFF of Table 09.11 for pin levels 0 LOW, 1 MID, 2 HIGH. -/
def offDiag (hsgOn mismatch : Bool) (a b : Nat) : Nat :=
  if hsgOn then
    (if b = 2 && !mismatch then 1 else if b = 0 && !mismatch then 2 else if b = 0 && mismatch then 3 else 5)
  else if a = 0 && b = 1 then 1 else if a = 1 && b = 0 then 2 else if a = 0 && b = 0 then 3 else if a = 2 && b = 2 then 4 else 5

/-- Whether a channel-intrusive test of TST runs on channel `c` (R324, Table 16.7). -/
def Dev.tstUses (d : Dev) (now c : Nat) : Bool :=
  (List.range 16).any (fun q => d.tstStatus now q == 2 && (d.rd (TST.S_ID q) == 16 || d.rd (TST.S_ID q) == 17) && d.rd (TST.S_TARGET q) == c)

/-- An off window of channel `c` that has lasted 200 µs (R322): idle, past its closing window, no start deferred; not used by a test of
TST (R324). -/
def Dev.idcOffWindow (d : Dev) (now c : Nat) : Bool :=
  let ch := d.idcCh c
  ch.act == .idle && !ch.decay && ch.done.isNone && decide (ch.offFrom + us 200 ≤ now) && !d.tstUses now c

/-- An off-state test or offset calibration of channel `c` (R322). -/
def Dev.idcOffTest (d : Dev) (now c a b : Nat) (ofs : Int) : Dev :=
  if !d.idcOffWindow now c then d
  else if (d.idcCh c).calNext then (d.modIdc c (fun x => { x with calNext := false, offFrom := now })).wrS (IDC.OFS_CAL c) ofs
  else
    let code := offDiag (d.on (IDG.HSG_ON (c / 4))) (d.on (IDG.MISMATCH (c / 4))) a b
    let d := (d.wr (IDC.DIAG_OFF c) code).modIdc c (fun x => { x with calNext := code != 5, offFrom := now })
    match code with
    | 1 => if d.idcFaultOf c = 1 then d.idcFaultEnd c else d
    | 2 => d.idcFault now c 1
    | 3 => d.idcScGnd now c
    | 4 => d.idcLatch now c 3
    | _ => d

/-! ### Profiles and the commit (R302, R303, R304) -/

/-- First address of profile `k`. -/
def profLo (k : Nat) : Nat := 0x440000 + 0x80 * k

/-- The profile as a commit would leave it. -/
def Dev.candPhases (d : Dev) (adm : KMap) (k : Nat) : List Phase :=
  (List.range (d.cand adm (PRF.N_PH_M1 k) + 1)).map (fun m =>
    { kind := d.cand adm (PHS.KIND k m), peak := d.candOn adm (PHS.PEAK k m), fast := d.candOn adm (PHS.FAST k m),
      endOn := d.cand adm (PHS.END k m), iHi := d.cand adm (PHS.I_HI k m), iLo := d.cand adm (PHS.I_LO k m),
      tMax := d.cand adm (PHS.T_MAX k m), tMin := d.cand adm (PHS.T_MIN k m) })

/-- PROF_ERR of a list of phases, the lowest that applies (Table 09.4). -/
def profCode (ps : List Phase) : Nat :=
  let last := ps.getLast?.getD {}
  let pk : Profile := { phases := ps }
  if ps.any (fun p => p.kind == 3 || p.endOn == 3 || (p.endOn == 1 && p.kind == 1) || (p.endOn == 2 && (p.kind == 2 || !p.peak))) then 1
  else if (ps.zip ps.tail).any (fun q => !q.1.peak && q.2.peak) then 2
  else if last.kind != 1 || last.peak || last.tMax != 0 || ps.dropLast.any (fun p => p.tMax == 0) then 3
  else if ps.any (fun p => p.peak && decide (4000 < p.iHi)) || decide (last.iHi < 200) || decide (2000 < last.iHi) || decide (pk.iPk < last.iHi) ||
    ps.any (fun p => p.kind == 1 && decide ((p.iHi : Int) - p.iLo < 50)) then 4
  else if ps.any (fun p => p.tMax != 0 && decide (p.tMax < p.tMin)) then 5
  else 0

/-- Validation of the pending profiles (R302): what is left admitted, and the code of each judged profile. -/
def Dev.profStep (d : Dev) (adm : KMap) : KMap × Tab Nat :=
  (List.range 16).foldl (fun acc k =>
    if admHas adm (profLo k) (profLo k + 0x80) then
      let code := profCode (d.candPhases acc.1 k)
      (if code = 0 then acc.1 else admDrop acc.1 (profLo k) (profLo k + 0x80), tset acc.2 k code)
    else acc) (adm, [])

/-- PROF_ERR of each page shows the result of the profile PROF_SEL names. -/
def Dev.profErrShow (d : Dev) : Dev :=
  d.each (List.range 8) (fun d g => d.wr (IDG.PROF_ERR g) ((tget? d.idcB.errs (d.rd (IDG.PROF_SEL g))).getD 0))

/-- Reports the outcome of profile validation (R302). -/
def Dev.profReport (d : Dev) (now : Nat) (codes : Tab Nat) : Dev :=
  let d := d.each codes (fun d x =>
    let b := d.idcB
    let d := { d with idcB := { accepted := if x.2 = 0 then setBitOf b.accepted x.1 true else b.accepted, errs := kput 0 b.errs x.1 x.2 } }
    d.when (x.2 != 0) (fun d => d.fire now EVT.IDC_PROFILE x.1 x.2))
  if codes.isEmpty then d else d.profErrShow

/-- The sum check of R303 for group `g`: CONT_EXCESS with its event and faults. -/
def Dev.contCheck (d : Dev) (now g : Nat) : Dev :=
  let r := (groupChs g).foldl (fun (a : Nat × Nat) c =>
    if d.idcUsed c then
      let i := (d.profileAt (d.idcProfNo c)).iLast
      (if 6000 < a.1 + i then (a.1, a.2 + 2 ^ (c % 4)) else (a.1 + i, a.2))
    else a) (0, 0)
  let old := d.rd (IDG.CONT_EXCESS g)
  let d := d.wr (IDG.CONT_EXCESS g) r.2
  d.each (groupChs g) (fun d c =>
    if bitOf r.2 (c % 4) then
      (if bitOf old (c % 4) then d else (d.fire now EVT.IDC_CONT_EXCESS c 1).idcFault now c 6)
    else if d.idcFaultOf c = 6 then d.idcFaultEnd c else d)

/-- FAULT = PROF_INVALID of the channels whose profile has never been accepted (R302), over any other; they recover at the commit that
accepts it, and their state is shown. -/
def Dev.profFaults (d : Dev) (now : Nat) : Dev :=
  let d := d.each (List.range 32) (fun d c =>
    let f := d.rd (IDC.FAULT c)
    if d.idcUsed c && !bitOf d.idcB.accepted (d.idcProfNo c) then (if f = 5 then d else (d.idcFault now c 5).modIdc c (fun x => { x with under := f }))
    else if f = 5 then d.wr (IDC.FAULT c) (d.idcCh c).under else d)
  d.each (List.range 8) (fun d g => d.idcShow g)

/-- The grid pulse starts in [a, b) of a grid (R184). -/
def PulseGrid.starts (g : PulseGrid) (a b : Nat) : List Nat :=
  if g.tp = 0 then []
  else
    let base := g.epoch + g.ofs
    let j0 := if a ≤ base then 0 else (a - base + g.tp - 1) / g.tp
    let n := if b ≤ base + j0 * g.tp then 0 else (b - 1 - (base + j0 * g.tp)) / g.tp + 1
    (List.range n).map (fun k => base + (j0 + k) * g.tp)

/-- The length of a grid pulse (R184), to the nearest 10 µs. -/
def PulseGrid.len (g : PulseGrid) : Nat := 4000 * ((2 * g.duty * (g.tp / 4000) + 1000) / 2000)

/-- Commands of a channel that is on over [a, b) of a window, from grid starts not before `from_` (R188, R305). -/
def gridCmds (g : PulseGrid) (from_ a b : Nat) : List DrvCmd :=
  ((g.starts a b).filter (fun t => decide (from_ ≤ t))).map (fun t => { dt := t, on := true, endAt := some (t + g.len) })

/-- The on edge of a pulsed channel at `t` (R188): the first pulse, and the first grid start that may follow it. -/
def edgePulse (g : PulseGrid) (t : Nat) : DrvCmd × Nat :=
  let e := t + g.len
  match (g.starts (t + 1) (e + 1)).head? with
  | some s => ({ dt := t, on := true, endAt := some (s + g.len) }, s + 1)
  | none => ({ dt := t, on := true, endAt := some e }, t + 1)

/-- Channel `c` is commanded on from `t` to `b`: with a grid in use by pulses, else continuously. -/
def Dev.chOn (d : Dev) (c t b : Nat) : Dev :=
  d.modIdc c (fun x =>
    match x.grid with
    | some g =>
      let x := { x with laidTo := b }
      if g.duty = 0 then { x with comOn := true, gridFrom := t }
      else if 1000 ≤ g.duty then { x with comOn := true, gridFrom := t + 1, cmds := x.cmds ++ [{ dt := t, on := true, endAt := none }] }
      else
        let e := edgePulse g t
        { x with comOn := true, gridFrom := e.2, cmds := x.cmds ++ e.1 :: gridCmds g e.2 t b }
    | none => { x with comOn := true, cmds := x.cmds ++ [{ dt := t, on := true, endAt := none }] })

/-- Channel `c` stays on over [a, b): its grid pulses; a channel held through every period stays as it is (R305). -/
def Dev.chStay (d : Dev) (c a b : Nat) : Dev :=
  d.modIdc c (fun x =>
    match x.grid with
    | none => x
    | some g =>
      let a := max a x.laidTo
      let x := { x with laidTo := max b x.laidTo }
      let running := match x.pulse with | some p => p.cmdEnd.isNone | none => false
      if g.duty = 0 then
        -- a pulse without an end ends at the next grid start (R187)
        if running || (x.cmds.getLast?.map (fun k => k.on && k.endAt.isNone)).getD false then
          (match ((g.starts a b).filter (fun t => decide (x.gridFrom ≤ t))).head? with
           | some t => { x with cmds := x.cmds ++ [{ dt := t, on := false }] }
           | none => x)
        else x
      else if 1000 ≤ g.duty then
        if running || x.cmds.any (fun k => k.on && k.endAt.isNone) then x
        else match ((g.starts a b).filter (fun t => decide (x.gridFrom ≤ t))).head? with
          | some t => { x with cmds := x.cmds ++ [{ dt := t, on := true, endAt := none }] }
          | none => x
      else { x with cmds := x.cmds ++ gridCmds g x.gridFrom a b })

/-- Channel `c` is commanded off at `t`: grid pulses after it are not started (R188). -/
def Dev.chOff (d : Dev) (c t : Nat) : Dev :=
  d.modIdc c (fun x => { x with comOn := false, cmds := x.cmds.filter (fun k => decide (k.dt < t)) ++ [{ dt := t, on := false }] })

/-- Whether a continuous channel that is commanded on does not drive although nothing keeps it from it (R164): its profile has been
accepted since, the hold sum is within the limit again, or a fault has been cleared. -/
def Dev.chLapsed (d : Dev) (c : Nat) : Bool :=
  let x := d.idcCh c
  let cont := match x.grid with | some g => decide (1000 ≤ g.duty) | none => true
  cont && x.act == .idle && !d.idcBlocked c && !d.idcSusp c && !x.cmds.any (·.on)

/-- Whether channel `c` may not drive (R302, R303): its profile has never been accepted, or the hold sum of its group has no room for it. -/
def Dev.idcBarred (d : Dev) (c : Nat) : Bool :=
  !bitOf d.idcB.accepted (d.idcProfNo c) || bitOf (d.rd (IDG.CONT_EXCESS (c / 4))) (c % 4)

/-- The window [a, b) of channel `c` (R164, R304): state at the opening, edge position, state at the close. -/
def Dev.chWindow (d : Dev) (c a b : Nat) (sOpen : Bool) (edge : Option Nat) (s : Bool) : Dev :=
  let was := (d.idcCh c).comOn
  if d.idcBarred c then (if was then d.chOff c a else d) else
  let d := if sOpen && (!was || d.chLapsed c) then d.chOn c a b else if !sOpen && was then d.chOff c a else if sOpen then d.chStay c a b else d
  match edge with
  | some pos => if s then d.chOn c (a + 4000 * pos) b else d.chOff c (a + 4000 * pos)
  | none => d

/-- The grid of a pulsed point; none where it is not pulsed. -/
def Dev.gridOfPt (d : Dev) (n : Nat) : Option PulseGrid :=
  if d.pulsedPt n then
    let p := d.rd (PD.PRODUCT n)
    let tp := d.pulsePeriod p
    some { epoch := (d.loopOf p).epoch, tp := tp, ofs := slotOfs tp (d.rateOf n).slot, duty := (d.rateOf n).duty }
  else none

/-- The handover of a committed window to channel `c` (R304): a bound point's, or DIRECT_ON's; a channel in a snuff state
keeps to that, pulsing on its grid (R327). -/
def Dev.idcWindow (d : Dev) (c a b : Nat) (snuff : Bool) : Dev :=
  if snuff then
    (if d.idcBarred c then (if (d.idcCh c).comOn then d.chOff c a else d)
     else match (d.idcCh c).snuff with
     | some 0 => d
     | some 1 => if !(d.idcCh c).comOn || d.chLapsed c then d.chOn c a b else d
     | some 2 => if !(d.idcCh c).comOn then d else if d.chLapsed c then d.chOn c a b else d.chStay c a b
     | some _ => if (d.idcCh c).comOn then d.chStay c a b else d.chOn c a b
     | none => d)
  else
    let d := d.modIdc c (fun x =>
      let ks := if x.holdEnd.isSome then x.cmds.filter (fun k => decide (k.dt < a)) else x.cmds
      { x with snuff := none, holdEnd := none, cmds := ks })
    match d.ptOfCh 1 c with
    | some n =>
      let k := d.decOf n
      (d.modIdc c (fun x => { x with grid := d.gridOfPt n })).chWindow c a b k.sOpen k.edge k.s
    | none =>
      let on_ := d.on (IDC.DIRECT_EN c) && d.on (IDC.DIRECT_ON c) && d.pwr.emberWait.isNone
      (d.modIdc c (fun x => { x with grid := none })).chWindow c a b on_ none on_

/-! ### Suspension, snuff states and the hold window (R326 to R328) -/

/-- The bank of die `k` is suspended (R326). -/
def Dev.idcBankOff (d : Dev) (now k : Nat) : Dev :=
  d.each [2 * k, 2 * k + 1] (fun d g =>
    let d := d.each (groupChs g) (fun d c => (d.dropStart now c).endDrive now c [15] true)
    (d.wr (IDG.BANK_SUSP g) 1).idcShow g)

/-- The commanded state of a continuous channel at this instant: the one before its next command, or the one at the window's close. -/
def IdcCh.onNow (ch : IdcCh) (now : Nat) : Bool :=
  match (ch.cmds.filter (fun q => decide (now < q.dt))).head? with
  | some k => !k.on
  | none => ch.comOn

/-- The bank of die `k` returns (R326): a continuous channel whose committed state is on at this instant starts at once, a pulsed one at
its next grid pulse. -/
def Dev.idcBankOn (d : Dev) (now k : Nat) : Dev :=
  d.each [2 * k, 2 * k + 1] (fun d g =>
    let d := d.wr (IDG.BANK_SUSP g) 0
    let d := d.each (groupChs g) (fun d c =>
      let ch := d.idcCh c
      let cont := match ch.grid with | some g => decide (1000 ≤ g.duty) | none => true
      let d := d.modIdc c (fun x => { x with cmds := x.cmds.filter (fun q => decide (now < q.dt)) })
      if ch.onNow now && cont then (d.modIdc c (fun x => { x with cmds := { dt := now, on := true, endAt := none } :: x.cmds })).idcRun now c else d)
    d.readmit now g)

/-- Tells COV the commanded state of the point on channel `c` from `t` on. -/
def Dev.chPaint (d : Dev) (c t : Nat) (on_ : Bool) : Dev :=
  match d.ptOfCh 1 c with
  | some n => d.covWindow n on_ none on_ t
  | none => d

/-- SNUFF_FREQ of entry `i` as a period, held at 1.0 Hz and 100.0 Hz (R327), and its duty. -/
def Dev.snuffGrid (d : Dev) (now i : Nat) : PulseGrid :=
  let f := d.rdH 10 1000 (WDG.SNUFF_FREQ i)
  { epoch := now, tp := 4000 * ((2 * 1000000 + f) / (2 * f)), ofs := 0, duty := min 1000 (d.rd (WDG.SNUFF_DUTY i)) }

/-- Channel `c` takes its stored snuff state at `now` (R327); pulses are laid out up to `b`. -/
def Dev.idcSnuff (d : Dev) (now c b : Nat) : Dev :=
  let st := d.rd (WDG.SNUFF_STATE c)
  let d := d.modIdc c (fun x => { x with snuff := some st, holdEnd := none })
  let d := match st with
    | 0 => ((d.modIdc c (fun x => { x with cmds := [] })).chOff c now).chPaint c now false
    | 1 => ((d.modIdc c (fun x => { x with grid := none, cmds := [] })).chOn c now b).chPaint c now true
    | 2 => d
    | _ => let g := d.snuffGrid now c
           (((d.modIdc c (fun x => { x with grid := some g, cmds := [], gridFrom := now })).chOff c now).chOn c now b).chPaint c now true
  (d.idcRun now c).idcShow (c / 4)

/-- A logic-die reset at `now` (R328): the channel continues on its grid for its HOLD_WINDOW. -/
def Dev.idcHold (d : Dev) (now c : Nat) : Dev :=
  let e := now + ms (min 100 (d.rd (IDC.HOLD_WINDOW c)))
  let d := (d.wr (IDC.HOLD_PULSES c) 0).modIdc c (fun x =>
    { x with holdEnd := some e, gridFrom := max x.gridFrom d.dec.winClose, pulse := x.pulse.map (fun p => { p with held := p.held || x.act == .on }),
             done := x.done.map (fun p => { p with held := true }) })
  if (d.idcCh c).comOn then d.chStay c d.dec.winClose e else d

/-- The end of a channel's hold window (R328): its snuff state. -/
def Dev.idcHoldEnd (d : Dev) (now c : Nat) : Dev :=
  match (d.idcCh c).holdEnd with
  | some e => if e ≤ now && d.pwr.stage != .none then d.idcSnuff now c (now + ms 100) else d
  | none => d

/-! ### Commands -/

/-- REC_CH written (R329): the last record of a channel of the group is shown. -/
def Dev.recChWrite (d : Dev) (g c : Nat) : Dev :=
  let ws := (d.idcCh (4 * g + c)).lastRec
  (d.wr (IDG.REC_CH g) c).each (List.range 10) (fun d i => d.wr (IDG.REC g i) (ws.getD i 0))

/-- A channel whose latch has been cleared while it stands in the snuff state ON runs its profile again (R11, R327). -/
def Dev.snuffAgain (d : Dev) (now c : Nat) : Dev :=
  if (d.idcCh c).snuff = some 1 && d.chLapsed c then (d.chOn c now now).idcRun now c else d

/-- FLT_CLR of channel `c` (R323). -/
def Dev.idcFltClr (d : Dev) (now c : Nat) : Dev :=
  if (d.idcCh c).latched then
    (((d.modIdc c (fun x => { x with latched := false, cmds := [] })).idcFaultEnd c).snuffAgain now c).idcShow (c / 4)
  else d

/-- GRP_FLT_CLR of group `g` (R323). -/
def Dev.grpFltClr (d : Dev) (now g : Nat) : Dev :=
  if d.on (IDG.GRP_LATCH g) then
    let d := ((d.wr (IDG.GRP_LATCH g) 0).wr (IDG.HSG_OC g) 0).wr (IDG.MISMATCH g) 0
    (d.each (groupChs g) (fun d c =>
      let d := d.modIdc c (fun x => { x with cmds := [] })
      let d := if (d.idcFaultOf c = 2 || d.idcFaultOf c = 4) && !(d.idcCh c).latched then d.idcFaultEnd c else d
      d.snuffAgain now c)).idcShow g
  else d

/-- Whether the power dies drive: any state but OFF, EMBER and KINDLE before the outputs. -/
def Dev.driving (d : Dev) : Bool := d.pwr.st != .off && d.pwr.st != .ember && d.pwr.outHold != .off

/-- While the logic die is in reset, a channel that pulses in its snuff state goes on with its grid (R327, R328). -/
def Dev.idcFeed (d : Dev) (now c : Nat) : Dev :=
  let x := d.idcCh c
  if d.pwr.stage != .none && x.snuff.isSome && x.comOn && decide (x.laidTo ≤ now + ms 1100) then d.chStay c x.laidTo (now + ms 2200) else d

/-- PULSE_START, R308: an on command of a channel is due. -/
def execPulseStart (el : Nat) (ch : Fin 32) (s : State) : Host.Outcome State Fault Refusal :=
  s.run el (fun now d => if d.driving then (d.idcFeed now ch.val).idcRun now ch.val else d)

/-- PULSE_END, R308: a pulse's end or an off command is due. -/
def execPulseEnd (el : Nat) (ch : Fin 32) (s : State) : Host.Outcome State Fault Refusal :=
  s.run el (fun now d => if d.driving then d.idcRun now ch.val else d)

/-- STAGGER_MAX_EXPIRY, R311: waiting starts of a group are judged again. -/
def execStaggerMaxExpiry (el : Nat) (grp : Fin 8) (s : State) : Host.Outcome State Fault Refusal :=
  s.run el (fun now d => if d.driving then d.readmit now grp.val else d)

/-- MIN_OFF_END, R306. -/
def execMinOffEnd (el : Nat) (ch : Fin 32) (s : State) : Host.Outcome State Fault Refusal :=
  s.run el (fun now d => if d.driving then d.idcTime now ch.val else d)

/-- MIN_ON_END, R307: a pulse cut short by an off command ends. -/
def execMinOnEnd (el : Nat) (ch : Fin 32) (s : State) : Host.Outcome State Fault Refusal :=
  s.run el (fun now d => if d.driving then d.idcRun now ch.val else d)

/-- PHASE_END, R299 and R314: the channel is sampled, its current in mA and its pin in 10 mV; phases end by their time, by the current or by
an opening that the samples show. -/
def execPhaseEnd (el : Nat) (ch : Fin 32) (ma pin : BitVec 16) (s : State) : Host.Outcome State Fault Refusal :=
  s.run el (fun now d => if d.driving then d.idcSense now ch.val ma.toNat pin.toNat else d)

/-- The end decay of channel `c` is over, or its current, or that of a fast DECAY phase, has fallen below 50 mA (R310). -/
def Dev.decayOver (d : Dev) (now c : Nat) : Dev :=
  let d := d.modIdc c (fun x =>
    { x with decay := false, offFrom := if x.decay then now else x.offFrom,
             pulse := if x.act = .on then x.pulse.map (fun p => if p.ph.kind = 2 then p.modSense (fun q => { q with drained := true }) else p) else x.pulse })
  (d.idcTime now c).readmit now (c / 4)

/-- END_DECAY_DONE, R310: the current of a decaying channel has fallen below 50 mA. -/
def execEndDecayDone (el : Nat) (ch : Fin 32) (s : State) : Host.Outcome State Fault Refusal :=
  s.run el (fun now d => if d.driving then d.decayOver now ch.val else d)

/-- PULSE_RECORD, R316: the closing window of a channel's last pulse has passed; `temp` is what the power die's temperature reads. -/
def execPulseRecord (el : Nat) (ch : Fin 32) (temp : BitVec 10) (s : State) : Host.Outcome State Fault Refusal :=
  s.run el (fun now d =>
    match (d.idcCh ch.val).done with
    | some p => if d.alive && decide (p.ended + ms p.prof.ckWin ≤ now) then
        (d.wrS (IDG.DIE_TEMP (ch.val / 4)) temp.toInt).finishRecord now ch.val else d
    | none => d)

/-- SC_SUP, R297 and R320: the comparator of a channel sees at least `ma` mA for `held` cycles up to this instant; more than 6.0 A for 2 µs
latches the channel. -/
def execScSup (el : Nat) (ch : Fin 32) (ma : BitVec 16) (held : Nat) (s : State) : Host.Outcome State Fault Refusal :=
  s.run el (fun now d => if d.driving && (d.idcCh ch.val).act == .on && decide (6000 < ma.toNat) && decide (us 2 ≤ held) then
    d.idcLatch now ch.val 3 else d)

/-- Whether the current of channel `c` has not fallen since its low side turned off in regulation, 100 µs ago, `ma` being its least since
(R320). -/
def Dev.notFallen (d : Dev) (now c ma : Nat) : Bool :=
  match (d.idcCh c).act, (d.idcCh c).pulse with
  | .on, some p => p.regulates && !p.sense.lsOn && !p.sense.fell && decide (p.sense.lsAt + us 100 ≤ now) && decide (p.thr.1 ≤ ma + 50)
  | _, _ => false

/-- SC_GND, R320: the least current of a channel since its low side turned off in regulation is `ma` mA. -/
def execScGnd (el : Nat) (ch : Fin 32) (ma : BitVec 16) (s : State) : Host.Outcome State Fault Refusal :=
  s.run el (fun now d => if d.driving && d.notFallen now ch.val ma.toNat then d.idcScGnd now ch.val else d)

/-- HSG_OC, R297 and R320: a high-side switch carries at least `ma` mA for `held` cycles up to this instant; more than 10.0 A for 2 µs latches the
group. -/
def execHsgOc (el : Nat) (grp : Fin 8) (ma : BitVec 16) (held : Nat) (s : State) : Host.Outcome State Fault Refusal :=
  s.run el (fun now d => if d.driving && d.on (IDG.HSG_ON grp.val) && decide (10000 < ma.toNat) && decide (us 2 ≤ held) then
    let d := d.wr (IDG.I_HSG grp.val) (min 4095 ma.toNat)
    let on_ := (groupChs grp.val).filter (fun c => (d.idcCh c).act == .on)
    (d.idcGroupLatch now grp.val true).each on_ (fun d c => d.idcFault now c 4) else d)

/-- OPEN_LOAD, R320: the current of a channel is `ma` mA at OL_T in phase 0; where that is below I_HI / 16 the fault is reported, and the pulse
continues. -/
def execOpenLoad (el : Nat) (ch : Fin 32) (ma : BitVec 16) (s : State) : Host.Outcome State Fault Refusal :=
  s.run el (fun now d =>
    match (d.idcCh ch.val).act, (d.idcCh ch.val).pulse with
    | .on, some p =>
      if d.driving && p.phase == 0 && decide (p.start + 40000 * p.prof.olT ≤ now) && decide (16 * ma.toNat < p.ph.iHi) then d.idcFault now ch.val 1 else d
    | _, _ => d)

/-- What the converter's last samples say of the current that the channels of group `g` draw through its high side (R310, R321): those whose
low side is on, or that decay fast (log entry 139). -/
def Dev.drawnSum (d : Dev) (g : Nat) : Nat :=
  ((groupChs g).filter (fun c =>
    match (d.idcCh c).act, (d.idcCh c).pulse with
    | .on, some p => p.sense.lsOn || (p.ph.kind == 2 && p.ph.fast)
    | _, _ => (d.idcCh c).decay && (d.idcCh c).decFast)).map (fun c => d.rd (IDC.I_NOW c)) |>.sum

/-- MISMATCH, R321: a high-side switch carries `ma` mA, and its difference from the sum of the channels' currents has stood `held` cycles: above
300 mA for 200 µs sets MISMATCH. -/
def execMismatch (el : Nat) (grp : Fin 8) (ma : BitVec 16) (held : Nat) (s : State) : Host.Outcome State Fault Refusal :=
  s.run el (fun _ d => if d.driving && d.on (IDG.HSG_ON grp.val) then
    let d := d.wr (IDG.I_HSG grp.val) (min 4095 ma.toNat)
    if decide (300 < ((ma.toNat : Int) - d.drawnSum grp.val).natAbs) && decide (us 200 ≤ held) then d.wr (IDG.MISMATCH grp.val) 1 else d else d)

/-- IDC_OFF_TEST, R322: an off window is used; pin levels in steps A and B (0 LOW, 1 MID, 2 HIGH), and the sense offset that
a calibration finds, mA. -/
def execIdcOffTest (el : Nat) (ch : Fin 32) (a b : Fin 3) (ofs : BitVec 12) (s : State) : Host.Outcome State Fault Refusal :=
  s.run el (fun now d => if d.ticking then d.idcOffTest now ch.val a.val b.val ofs.toInt else d)

/-- IDC_FLT_CLR, R323. -/
def execIdcFltClr (el : Nat) (ch : Fin 32) (s : State) : Host.Outcome State Fault Refusal :=
  s.run el (fun now d => if d.hif.inService then d.idcFltClr now ch.val else d)

/-- GRP_FLT_CLR, R323. -/
def execGrpFltClr (el : Nat) (grp : Fin 8) (s : State) : Host.Outcome State Fault Refusal :=
  s.run el (fun now d => if d.hif.inService then d.grpFltClr now grp.val else d)

/-- REC_CH_SNAPSHOT, R329. -/
def execRecChSnapshot (el : Nat) (grp : Fin 8) (ch : BitVec 2) (s : State) : Host.Outcome State Fault Refusal :=
  s.run el (fun _ d => if d.hif.inService then d.recChWrite grp.val ch.toNat else d)

end Sys2Proof.Machine
end

