-- ==== Sys2Proof/Machine/Vnp.lean ====
section
/-! DEFINITION. The Velest Node Protocol on the boom buses (R405 to R425): beacons, commands, reports, enrolment, fault
storms, and the commands of the family. Boom bus `b` is controller CAN(2 + b). -/

namespace Sys2Proof.Machine

/-- Controller `n`. -/
def Dev.canCtl (d : Dev) (n : Nat) : CanCtl := tget d.can n

/-- Changes controller `n`. -/
def Dev.modCan (d : Dev) (n : Nat) (f : CanCtl → CanCtl) : Dev := { d with can := tmod d.can n f }

/-- A frame is handed to the bus (log entry 10). -/
def Dev.canSend (d : Dev) (n : Nat) (f : CanFrame) : Dev := d.modCan n (fun c => { c with tx := c.tx ++ [f] })

/-- Whether this module sends VNP frames (R417, R395): not in the roles that leave the buses to the partner. -/
def Dev.vnpMaster (d : Dev) : Bool := d.pair.st == .off || d.pair.st == .active || d.pair.st == .alone

/-- Whether controller CAN(2 + b) takes part in VNP. -/
def Dev.vnpOn (d : Dev) (b : Nat) : Bool := d.canVnp (2 + b) && !d.on (CAN.LISTEN (2 + b)) && d.rd (CAN.CAN_STATE (2 + b)) != 3

/-- Whether this module sends on boom bus `b`. -/
def Dev.vnpTx (d : Dev) (b : Nat) : Bool := d.vnpOn b && d.vnpMaster

/-- The boom buses on which this module sends. -/
def Dev.vnpBuses (d : Dev) : List Nat := (List.range 4).filter d.vnpTx

/-- The next payload length that a CAN FD data length code expresses (R406). -/
def fdLen (n : Nat) : Nat :=
  if n ≤ 8 then n else if n ≤ 12 then 12 else if n ≤ 16 then 16 else if n ≤ 20 then 20 else if n ≤ 24 then 24 else if n ≤ 32 then 32
  else if n ≤ 48 then 48 else 64

/-- A VNP frame of boom bus `b` (R405, R406). -/
def Dev.vnpFrame (d : Dev) (b fn addr : Nat) (payload : List Nat) : CanFrame :=
  let n := 2 + b
  if d.rd (CAN.FRAME n) = 2 then
    { id := 64 * fn + addr, xlf := true, data := payload, sdt := d.rd (CAN.XL_SDT n), vcid := d.rd (CAN.XL_VCID n), af := d.rd (CAN.XL_AF n) }
  else { id := 64 * fn + addr, fdf := true, brs := true, data := payload ++ List.replicate (fdLen payload.length - payload.length) 0 }

/-- Sends a VNP frame where this module sends on the bus. -/
def Dev.vnpSend (d : Dev) (b fn addr : Nat) (payload : List Nat) : Dev :=
  if d.vnpTx b then d.canSend (2 + b) (d.vnpFrame b fn addr payload) else d

/-! ### Beacon and snuff (R407, R416) -/

/-- The beacon of tick `k`, whose edge is `edge`, sent at `now` (Table 12.7), in pair time (R445). -/
def Dev.beaconBytes (d : Dev) (now edge k b : Nat) (carry : Bool) : List Nat :=
  let ctl := d.canCtl (2 + b)
  bytesLE 8 (d.ptOf (nsOf edge)) ++ bytesLE 2 ((d.ptOf (nsOf now) - d.ptOf (nsOf edge)) / 10) ++
  [k % 256, d.rd SYS.TICK_RATE_ACT % 4 + 4 * b2n d.snuffActive + 8 * b2n carry + 16 * (d.pair.unit % 2) + 32 * b2n ctl.shadeUntil.isSome]

/-- Sends a VNP frame ahead of those that are queued (R416). -/
def Dev.vnpSendFirst (d : Dev) (b fn addr : Nat) (payload : List Nat) : Dev :=
  if d.vnpTx b then d.modCan (2 + b) (fun c => { c with tx := d.vnpFrame b fn addr payload :: c.tx }) else d

/-- SNUFF frames on every bus: 1 at the start of a path and each T0 while it lasts, ahead of the queued frames; 0 at its end (R416). -/
def Dev.vnpSnuff (d : Dev) (on_ : Bool) : Dev :=
  d.each (List.range 4) (fun d b => ((if on_ then d.vnpSendFirst b 0 0 [1] else d.vnpSend b 0 0 [0])).modCan (2 + b) (fun c => { c with snuffSent := on_ }))

/-- The frames of T0 (R407, R416): those handed to the buses before it are gone. -/
def Dev.vnpT0 (d : Dev) (now edge k : Nat) (carry : Bool) : Dev :=
  let d := d.each (List.range 6) (fun d n => d.modCan n (fun c => { c with tx := [] }))
  let d := if d.snuffActive then d.vnpSnuff true else d
  d.each (List.range 4) (fun d b => d.vnpSend b 1 0 (d.beaconBytes now edge k b carry))

/-! ### Node slots (R419 to R421) -/

/-- The nodes of boom bus `b` with an entry. -/
def Dev.busNodes (d : Dev) (b : Nat) : List (Nat × VnpNode) :=
  (d.vnp.filter (fun x => x.1 / 64 == b)).map (fun x => (x.1 % 64, x.2))

/-- Every READY node is resynced in the next window (R412). -/
def Dev.vnpResyncAll (d : Dev) : Dev := { d with vnp := d.vnp.map (fun x => (x.1, { x.2 with resync := true })) }

/-- The points bound to node `a` of bus `b` that it has, by NODE_PT. -/
def Dev.nodePts (d : Dev) (b a : Nat) : List (Nat × Nat) :=
  let v := d.node b a
  ((d.validPts.filter (fun n => d.rd (PD.BIND_KIND n) == 3 && d.rd (PD.BUS n) == b && d.rd (PD.NODE n) == a)).map
    (fun n => (d.rd (PD.NODE_PT n), n))).filter (fun x => decide (x.1 < v.pts))

/-- PT_ERR of every node (R421). -/
def Dev.ptErrUpdate (d : Dev) : Dev :=
  let bad := d.validPts.filter d.ptBeyond
  { d with vnp := d.vnp.map (fun x => (x.1, { x.2 with ptErr := bad.any (fun n => 64 * d.rd (PD.BUS n) + d.rd (PD.NODE n) == x.1) })) }

/-- The UID of table entry `a` of bus `b` (R419). -/
def Dev.tableUid (d : Dev) (b a : Nat) : Nat := d.rd2 (NODE.UID_LO b a) (NODE.UID_HI b a)

/-- A node whose table entry no longer holds its UID is ABSENT (R419). -/
def Dev.nodeTableCommit (d : Dev) : Dev :=
  ({ d with vnp := d.vnp.filter (fun x => x.2.uid == d.tableUid (x.1 / 64) (x.1 % 64)) }).ptErrUpdate

/-! ### Commands to nodes (R409, R411, R412, R189) -/

/-- Number with the bits listed set. -/
def maskOf (l : List Nat) : Nat := l.foldl (fun a k => setBitOf a k true) 0

/-- The EDGE payload of node `a` for the window opened by tick `w` (Table 12.8). -/
def Dev.edgeBytes (d : Dev) (w b a : Nat) : List Nat :=
  let ps := (d.nodePts b a).mergeSort (fun x y => x.1 ≤ y.1)
  let es := ps.filter (fun x => (d.decOf x.2).edge.isSome)
  [w % 256, 0] ++ bytesLE 2 (maskOf (es.map (·.1))) ++ bytesLE 2 (maskOf ((ps.filter (fun x => (d.decOf x.2).s)).map (·.1))) ++ [0, 0] ++
  es.map (fun x => ((d.decOf x.2).edge.getD 0) % 256)

/-- GRID_REF of product `p` for the tick edge `edge` (Table 12.9), in ns of pair time (R445). -/
def Dev.gridRef (d : Dev) (p edge : Nat) : Nat :=
  let tp := d.pulsePeriod p
  let e : Int := (d.loopOf p).epoch
  if tp = 0 then 0 else d.ptOf (nsOf (e + (((edge : Int) - e) / (tp : Int)) * (tp : Int)).toNat) % 2 ^ 32

/-- Sends a DUTY frame for the points `ps` (NODE_PT, point) of product `p` (Table 12.9). -/
def Dev.dutySend (d : Dev) (edge b a p : Nat) (ps : List (Nat × Nat)) : Dev :=
  if ps.isEmpty then d
  else
    let ps := ps.mergeSort (fun x y => x.1 ≤ y.1)
    d.vnpSend b 5 a (bytesLE 2 (maskOf (ps.map (·.1))) ++ [0, 0] ++ bytesLE 4 (d.gridRef p edge) ++ bytesLE 4 (d.pulsePeriod p / 4000) ++
      ps.flatMap (fun x => bytesLE 2 ((d.rateOf x.2).duty % 1024 + 1024 * ((d.rateOf x.2).slot % 16))))

/-- DUTY frames for those of node `a`'s pulsed points that `sel` picks, one per product. -/
def Dev.dutyFrames (d : Dev) (edge b a : Nat) (sel : Nat → Bool) : Dev :=
  let ps := (d.nodePts b a).filter (fun x => d.pulsedPt x.2 && sel x.2)
  d.each (List.range 8) (fun d p => d.dutySend edge b a p (ps.filter (fun x => d.rd (PD.PRODUCT x.2) == p)))

/-- The earliest edge of node `a` in the committed window. -/
def Dev.firstEdge (d : Dev) (b a : Nat) : Option Nat :=
  ((d.nodePts b a).filterMap (fun x => (d.decOf x.2).edge)).foldl (fun m e => match m with | none => some e | some x => some (min x e)) none

/-- The openings of a CONFIRMED node point's pulses in the window [a, b) await their records (R99), on the grid sent last. -/
def Dev.nodePulses (d : Dev) (n a b : Nat) : Dev :=
  let k := d.decOf n
  let p := d.paintOf n
  match p.sent with
  | none => d
  | some g =>
    if d.paintCmd n || !d.pulsedPt n || g.duty = 0 || 1000 ≤ g.duty || !(k.sOpen || k.s) then d
    else
      let fresh := decide (a ≤ p.onAt) && decide (p.onAt < b)
      let from_ := if fresh then (edgePulse g p.onAt).2 else p.pulseFrom
      let end_ := if k.s then b else match k.edge with | some pos => a + 4000 * pos | none => a
      let d := d.modPaint n (fun p => { p with pulseFrom := from_ })
      d.each ((g.starts a end_).filter (fun t => decide (from_ ≤ t))) (fun d t => d.pushWait n true t)

/-- Whether the refresh of node `a` of bus `b` is due in tick `k` and has not been sent in it (R189). -/
def Dev.refreshDue (d : Dev) (k b a : Nat) : Bool :=
  (k + a) % d.rdH 10 255 RATE.NODE_REFRESH == 0 && (d.node b a).dutyTick != some k

/-- Whether point `n` of node `a` of bus `b` is sent its duty at the commit of tick `k`: it is on, and its node is refreshed or
resynced or its own edge turns it on (R189, R412). -/
def Dev.dutyDue (d : Dev) (k b a n : Nat) : Bool :=
  (d.decOf n).s && ((d.node b a).resync || d.refreshDue k b a || (d.decOf n).edge.isSome)

/-- The grid sent to the points of node `a` that `sel` picks is noted. -/
def Dev.gridSent (d : Dev) (b a : Nat) (sel : Nat → Bool) : Dev :=
  d.each ((d.nodePts b a).filter (fun x => d.pulsedPt x.2 && sel x.2)) (fun d x => d.modPaint x.2 (fun p => { p with sent := d.gridOfPt x.2 }))

/-- The nodes of the points in `fresh`, made new by a commit, that were on before it are to be told (R78, R164); `old` is the block
before it. -/
def Dev.nodesReleased (d old : Dev) (fresh : List Nat) : Dev :=
  let ks := (fresh.filter (fun n => old.rd (PD.BIND_KIND n) == 3 && (old.decOf n).s)).map (fun n => 64 * old.rd (PD.BUS n) + old.rd (PD.NODE n))
  { d with vnp := d.vnp.map (fun x => (x.1, if ks.contains x.1 then { x.2 with edgeDue := true } else x.2)) }

/-- The commands to nodes after the commit of tick `k` whose edge is `edge`, for the window [a, b) (R409, R189, R412): an EDGE frame
also where a point that is made new was on (R164). -/
def Dev.vnpCommit (d : Dev) (edge k wa wb : Nat) : Dev :=
  let ready := d.vnp.filter (fun x => x.2.st == 2)
  let nodes := ready.filter (fun x => d.vnpTx (x.1 / 64))
  let due := nodes.filterMap (fun x =>
    let e := d.firstEdge (x.1 / 64) (x.1 % 64)
    if e.isSome || x.2.resync || x.2.edgeDue then some (e.getD 0, x.1) else none)
  let order := due.mergeSort (fun x y => decide (x.1 < y.1) || (x.1 == y.1 && decide (x.2 ≤ y.2)))
  let d := d.each order (fun d x => d.vnpSend (x.2 / 64) 4 (x.2 % 64) (d.edgeBytes (k + 1) (x.2 / 64) (x.2 % 64)))
  let d := d.each nodes (fun d x =>
    let b := x.1 / 64
    let a := x.1 % 64
    d.dutyFrames edge b a (d.dutyDue k b a))
  let d := d.each ready (fun d x => d.gridSent (x.1 / 64) (x.1 % 64) (d.dutyDue k (x.1 / 64) (x.1 % 64)))
  let d := d.each ready (fun d x => d.each (d.nodePts (x.1 / 64) (x.1 % 64)) (fun d p => d.nodePulses p.2 wa wb))
  { d with vnp := d.vnp.map (fun x => (x.1,
      if x.2.st = 2 && d.vnpTx (x.1 / 64) then
        { x.2 with resync := false, edgeDue := false, dutyTick := if d.refreshDue k (x.1 / 64) (x.1 % 64) then some k else x.2.dutyTick }
      else x.2)) }

/-! ### Reports (R413 to R415) -/

/-- A node of boom bus `b` has been heard. -/
def Dev.nodeHeard (d : Dev) (now b a : Nat) : Dev :=
  if (d.node b a).st = 0 then d else d.setNode b a { d.node b a with heard := d.tickCnt now }

/-- One latency record (Table 12.10) of node `a`, its CMD_T in pair time (R445). -/
def Dev.latRecord (d : Dev) (now b a : Nat) (r : List Nat) : Dev :=
  let by_ := fun k => r.getD k 0
  let t10 := d.ptOf (nsOf now) / 10000
  let ct := by_ 3 + 256 * by_ 4 + 65536 * by_ 5
  let start := d.dtOfPt (10000 * (t10 - (t10 + 16777216 - ct) % 16777216))
  if start + ms 2000 < now then d.bump (VNP.RPT_STALE (2 + b))
  else
    let d := d.setNode b a { d.node b a with records := min 65535 ((d.node b a).records + 1) }
    match d.ptOfNode b a (by_ 0 % 16) with
    | none => d
    | some n =>
      let oo := by_ 6 + 256 * by_ 7
      let cl := by_ 8 + 256 * by_ 9
      let so := by_ 10 + 256 * by_ 11
      let off := (((d.paintOf n).edges.find? (fun e => !e.isOpen && decide (start ≤ e.cmd))).map (·.cmd)).getD now
      let ce := if cl = 65535 then off else start + 4000 * cl
      let temp := toS 8 (by_ 2)
      let use := !bitOf (by_ 1) 0 && !bitOf (by_ 1) 1
      let d := if bitOf (by_ 0) 4 && oo != 65535 && use then d.latSample now n true (100 * oo) temp else d
      let d := if bitOf (by_ 0) 5 && so != 65535 && use then d.latSample now n false (100 * so) temp else d
      d.covRecord now n start (if oo = 65535 then none else some (start + 4000 * oo)) (if so = 65535 then none else some (ce + 4000 * so))

/-- The records of a LATENCY payload after its header. -/
def recordsOf : Nat → List Nat → List (List Nat)
  | 0, _ => []
  | n + 1, bs => if bs.length < 12 then [] else bs.take 12 :: recordsOf n (bs.drop 12)

/-- A LATENCY frame of node `a` (R413). -/
def Dev.vnpLatency (d : Dev) (now b a : Nat) (bs : List Nat) : Dev :=
  if (d.node b a).st = 0 then d
  else (d.nodeHeard now b a).each (recordsOf (bs.getD 0 0 % 8) (bs.drop 4)) (fun d r => d.latRecord now b a r)

/-- A STATUS frame of node `a` (R414, R421, R412). -/
def Dev.vnpStatus (d : Dev) (now b a : Nat) (bs : List Nat) : Dev :=
  let v := d.node b a
  if v.st = 0 then d
  else
    let by_ := fun k => bs.getD k 0
    let lost := v.st == 3
    let again := lost || bitOf (by_ 3) 0 || bitOf (by_ 3) 1
    d.setNode b a { v with heard := d.tickCnt now, st := if lost then 2 else v.st, vsup := by_ 0 + 256 * by_ 1, temp := by_ 2,
                           snuffed := bitOf (by_ 3) 1, ptState := by_ 4 + 256 * by_ 5, rxLate := by_ 6, resync := v.resync || again }

/-- Whether a node fault code is of class SUPPLY (Table 12.12). -/
def supplyClass (code : Nat) : Bool := code == 0x10 || code == 0x11 || code == 0x12

/-- A FAULT frame of node `a` (R415): gathered for the end of the tick. -/
def Dev.vnpFault (d : Dev) (now b a : Nat) (bs : List Nat) : Dev :=
  let v := d.node b a
  if v.st = 0 then d
  else
    let by_ := fun k => bs.getD k 0
    let f : NodeFault := { bus := b, node := a, code := by_ 0, count := by_ 1, mask := by_ 2 + 256 * by_ 3, detail := by_ 4 + 256 * by_ 5 }
    let sup := supplyClass f.code
    let d := d.setNode b a { v with heard := d.tickCnt now, faults := min 65535 (v.faults + 1),
                                    supTick := if sup then some (d.tickCnt now) else v.supTick }
    let d := d.modCan (2 + b) (fun c => { c with faults := c.faults ++ [f] })
    if sup then d.modCan (2 + b) (fun c => { c with supplyAt := some now, supplyCode := f.code }) else d

/-- A CONFIG_ACK frame of node `a` (R420, R421): READY once keys 0x01 to 0x04 are accepted. -/
def Dev.vnpConfigAck (d : Dev) (now b a : Nat) (bs : List Nat) : Dev :=
  let v := d.node b a
  if v.st = 0 then d
  else
    let ks := (bytesToWords (bs.length / 4) bs).filter (fun w => decide (1 ≤ w % 256) && decide (w % 256 ≤ 4) && w / 256 % 256 == 0)
    let acked := ks.foldl (fun m w => setBitOf m (w % 256 - 1) true) v.acked
    let ready := v.st == 1 && acked == 15
    d.setNode b a { v with heard := d.tickCnt now, acked := acked, st := if ready then 2 else v.st, resync := v.resync || ready }

/-- The configuration entries the device writes itself (R420). -/
def Dev.configBytes (d : Dev) (b : Nat) : List Nat :=
  let n := 2 + b
  wordsToBytes [1 + 256 * max 5 (d.rd (VNP.BCN_TMO n)), 2 + 256 * max 1 (d.rd (VNP.RPT_DIV n)), 3 + 256 * max 10 (d.rd (VNP.STAT_DIV n)),
    4 + 256 * d.rd (VNP.FLT_REP n)]

/-- An ENROL_REQ frame (R418, R419); a module that is not the master notes it and answers nothing (R417). -/
def Dev.vnpEnrol (d : Dev) (now b : Nat) (bs : List Nat) : Dev :=
  let uid := ofBytesLE (bs.take 8)
  let by_ := fun k => bs.getD k 0
  if uid == 0 || uid == 2 ^ 64 - 1 then d
  else match (List.range 64).find? (fun a => d.tableUid b a == uid) with
  | some a =>
    let d := d.setNode b a { st := 1, uid := uid, pts := by_ 8 % 16 + 1, latRpt := bitOf (by_ 8) 4, ver := by_ 9, vendor := by_ 10 + 256 * by_ 11,
                             heard := d.tickCnt now, resync := true }
    ((d.vnpSend b 25 a (bytesLE 8 uid ++ [a])).vnpSend b 16 a (d.configBytes b)).ptErrUpdate
  | none =>
    let l := (d.canCtl (2 + b)).newNodes
    if l.any (fun x => x.1 == uid) || 16 ≤ l.length then d
    else (d.modCan (2 + b) (fun c => { c with newNodes := c.newNodes ++ [(uid, bs)] })).fire now EVT.CAN_NODE_NEW (64 * b + uid % 64) 0

/-- A READY node silent for 3 × STAT_DIV ticks is LOST (R421). -/
def Dev.nodeLostCheck (d : Dev) (now b a : Nat) : Dev :=
  let v := d.node b a
  if v.st = 2 && decide (v.heard + 3 * max 10 (d.rd (VNP.STAT_DIV (2 + b))) ≤ d.tickCnt now) then
    (d.setNode b a { v with st := 3 }).fire now EVT.CAN_NODE_LOST (64 * b + a) 3
  else d

/-! ### Fault storms (R422 to R424) -/

/-- Starts a Shade on bus `b` for code `code` unless one runs (R424). -/
def Dev.shadeStart (d : Dev) (now b code : Nat) : Dev :=
  let t := d.rd (VNP.SHADE_TIME (2 + b))
  if !d.on (VNP.SHADE_EN (2 + b)) || (d.canCtl (2 + b)).shadeUntil.isSome || !d.vnpTx b then d
  else (d.vnpSend b 2 0 (bytesLE 2 t ++ [code, 0])).modCan (2 + b) (fun c => { c with shadeUntil := if t = 0 then none else some (now + ms t) })

/-- The Shade of bus `b` ends (R424). -/
def Dev.shadeCheck (d : Dev) (now b : Nat) : Dev :=
  match (d.canCtl (2 + b)).shadeUntil with
  | some t => if t ≤ now then d.modCan (2 + b) (fun c => { c with shadeUntil := none }) else d
  | none => d

/-- Whether the faults of bus `b` are attributed to its supply in tick `k` (R423). -/
def Dev.supplyCause (d : Dev) (b k : Nat) : Bool :=
  let ready := (d.busNodes b).filter (fun x => x.2.st == 2)
  let hit := ready.filter (fun x => match x.2.supTick with | some t => decide (k < t + 10) | none => false)
  !hit.isEmpty && decide (ready.length ≤ 4 * hit.length)

/-- BUS_SUPPLY of bus `b` in tick `k` (R423). -/
def Dev.supplyStep (d : Dev) (now b k : Nat) : Dev :=
  if d.supplyCause b k then
    let was := d.on (VNP.BUS_SUPPLY (2 + b))
    let d := d.wr (VNP.BUS_SUPPLY (2 + b)) 1
    let d := if was then d else d.fire now EVT.CAN_BUS_SUPPLY (2 + b) 1
    d.shadeStart now b ((((d.canCtl (2 + b)).faults.find? (fun f => supplyClass f.code)).map (·.code)).getD (d.canCtl (2 + b)).supplyCode)
  else d

/-- BUS_SUPPLY clears when no SUPPLY-class code has come for 2 s (R423). -/
def Dev.supplyClear (d : Dev) (now b : Nat) : Dev :=
  match (d.canCtl (2 + b)).supplyAt with
  | some t => if d.on (VNP.BUS_SUPPLY (2 + b)) && decide (t + sec 2 ≤ now) then d.wr (VNP.BUS_SUPPLY (2 + b)) 0 else d
  | none => d

/-- The aggregated record of one code (Table 12.16). -/
def Dev.aggRecord (d : Dev) (k code : Nat) (fs : List NodeFault) : List Nat :=
  let mine := fs.filter (fun f => f.code == code)
  let buses := (mine.map (·.bus)).dedup
  let cause := supplyClass code && buses.any (fun b => d.supplyCause b k)
  let nodes := (mine.map (fun f => 64 * f.bus + f.node)).dedup
  let pts := (mine.flatMap (fun f => (List.range 16).filterMap (fun j => if bitOf f.mask j then d.ptOfNode f.bus f.node j else none))).dedup
  let words := fun (l : List Nat) (n : Nat) => (List.range n).map (fun w => maskOf ((l.filter (fun x => x / 32 == w)).map (· % 32)))
  [code + 2 ^ 8 * maskOf buses + 2 ^ 12 * b2n cause, k % 2 ^ 32, nodes.length + 2 ^ 16 * min 65535 ((mine.map (·.count)).sum)] ++
  words nodes 8 ++ words pts 32

/-- The end of tick `k` for the FAULT frames gathered in it (R422 to R424). -/
def Dev.stormStep (d : Dev) (now k : Nat) : Dev :=
  let fs := (List.range 4).flatMap (fun b => (d.canCtl (2 + b)).faults)
  let d := d.each (List.range 4) (fun d b => d.supplyStep now b k)
  let d := d.each (List.range 4) (fun d b =>
    let mine := fs.filter (fun f => f.bus == b)
    if max 1 (d.rd (VNP.SHADE_NODES (2 + b))) ≤ ((mine.map (·.node)).dedup).length then d.shadeStart now b ((mine.head?.map (·.code)).getD 0) else d)
  let codes := ((fs.map (·.code)).mergeSort (· ≤ ·)).dedup
  let d := d.each codes (fun d code =>
    let inst := (((fs.filter (fun f => f.code == code)).map (fun f => 64 * f.bus + f.node)).foldl min 255)
    d.fireAgg now EVT.CAN_NODE_FAULT inst code (d.aggRecord k code fs))
  d.each (List.range 4) (fun d b => d.modCan (2 + b) (fun c => { c with faults := [] }))

/-! ### Host actions of the VNP registers -/

/-- NODE_IDX written (Table 12.20): the node's words are shown. -/
def Dev.nodeIdxWrite (d : Dev) (b a : Nat) : Dev :=
  let n := 2 + b
  let v := d.node b a
  let d := ((d.wr (VNP.NODE_IDX n) a).wr (VNP.NODE_STATE n) v.st).wr (VNP.N_PTS_M1 n) (v.pts - 1)
  let d := ((d.wrB (VNP.LAT_RPT n) v.latRpt).wrB (VNP.N_SNUFFED n) v.snuffed).wrB (VNP.PT_ERR n) v.ptErr
  let d := ((d.wr (VNP.VNP_VER n) v.ver).wr (VNP.N_TEMP n) v.temp).wr (VNP.N_VSUP n) v.vsup
  let d := ((d.wr (VNP.N_PT_STATE n) v.ptState).wr (VNP.VENDOR n) v.vendor).wr (VNP.N_RX_LATE n) v.rxLate
  ((d.wr2 (VNP.N_UID_LO n) (VNP.N_UID_HI n) v.uid).wr (VNP.N_RECORDS n) v.records).wr (VNP.N_FAULTS n) v.faults

/-- NEW_NEXT written (R419). -/
def Dev.newNext (d : Dev) (b : Nat) : Dev := d.modCan (2 + b) (fun c => { c with newNodes := c.newNodes.tail })

/-- POLL_GO written (R414). -/
def Dev.pollGo (d : Dev) (b : Nat) : Dev := d.vnpSend b 12 (d.rd (VNP.POLL_NODE (2 + b))) [0]

/-! ### Commands -/

/-- The bytes of an operand. -/
def natBytes (l : List Byte) : List Nat := l.map BitVec.toNat

/-- Whether reports of boom bus `b` are heard. -/
def Dev.vnpHears (d : Dev) (b : Nat) : Bool := d.alive && d.vnpOn b

/-- LATENCY, R413. -/
def execLatency (el : Nat) (bus : Fin 4) (node : Fin 64) (data : List Byte) (s : State) : Host.Outcome State Fault Refusal :=
  s.run el (fun now d => if d.vnpHears bus.val then d.vnpLatency now bus.val node.val (natBytes data) else d)

/-- STATUS, R414. -/
def execStatus (el : Nat) (bus : Fin 4) (node : Fin 64) (data : List Byte) (s : State) : Host.Outcome State Fault Refusal :=
  s.run el (fun now d => if d.vnpHears bus.val then d.vnpStatus now bus.val node.val (natBytes data) else d)

/-- FAULT, R415. -/
def execFault (el : Nat) (bus : Fin 4) (node : Fin 64) (data : List Byte) (s : State) : Host.Outcome State Fault Refusal :=
  s.run el (fun now d => if d.vnpHears bus.val then d.vnpFault now bus.val node.val (natBytes data) else d)

/-- CONFIG_ACK, R420. -/
def execConfigAck (el : Nat) (bus : Fin 4) (node : Fin 64) (data : List Byte) (s : State) : Host.Outcome State Fault Refusal :=
  s.run el (fun now d => if d.vnpHears bus.val then d.vnpConfigAck now bus.val node.val (natBytes data) else d)

/-- ENROL_REQ, R419. -/
def execEnrolReq (el : Nat) (bus : Fin 4) (data : List Byte) (s : State) : Host.Outcome State Fault Refusal :=
  s.run el (fun now d => if d.vnpHears bus.val then d.vnpEnrol now bus.val (natBytes data) else d)

/-- NODE_LOST, R421. -/
def execNodeLost (el : Nat) (bus : Fin 4) (node : Fin 64) (s : State) : Host.Outcome State Fault Refusal :=
  s.run el (fun now d => if d.ticking then d.nodeLostCheck now bus.val node.val else d)

/-- BUS_SUPPLY_CLEAR, R423. -/
def execBusSupplyClear (el : Nat) (bus : Fin 4) (s : State) : Host.Outcome State Fault Refusal :=
  s.run el (fun now d => if d.alive then d.supplyClear now bus.val else d)

/-- SHADE_END, R424. -/
def execShadeEnd (el : Nat) (bus : Fin 4) (s : State) : Host.Outcome State Fault Refusal :=
  s.run el (fun now d => if d.alive then d.shadeCheck now bus.val else d)

/-- The duty refresh of node `a` of bus `b`, where tick `k` is one of its own and has not brought it yet (R189). -/
def Dev.dutyRefresh (d : Dev) (k b a : Nat) : Dev :=
  if (d.node b a).st == 2 && d.vnpTx b && d.refreshDue k b a then
    let on_ := fun n => (d.decOf n).s
    let d := (d.dutyFrames (d.edgeOf k) b a on_).gridSent b a on_
    d.setNode b a { d.node b a with dutyTick := some k }
  else d

/-- DUTY_REFRESH, R189: a node receives the duty of its pulsed points that are on. -/
def execDutyRefresh (el : Nat) (bus : Fin 4) (node : Fin 64) (s : State) : Host.Outcome State Fault Refusal :=
  s.run el (fun now d => if d.ticking then d.dutyRefresh (d.tickCnt now) bus.val node.val else d)

/-- POLL_GO, R426. -/
def execPollGo (el : Nat) (bus : Fin 4) (node : BitVec 6) (s : State) : Host.Outcome State Fault Refusal :=
  s.run el (fun _ d => if d.hif.inService then (d.wr (VNP.POLL_NODE (2 + bus.val)) node.toNat).pollGo bus.val else d)

/-- NEW_NEXT, R426. -/
def execNewNext (el : Nat) (bus : Fin 4) (s : State) : Host.Outcome State Fault Refusal :=
  s.run el (fun _ d => if d.hif.inService then d.newNext bus.val else d)

end Sys2Proof.Machine
end

