-- ==== Sys2Proof/Machine/Pwm.lean ====
section
/-! DEFINITION. Pulse outputs and trip inputs (R367 to R379, R391, R392): update points, trips, the product loops' writes, and
the commands of these blocks. -/

namespace Sys2Proof.Machine

/-! ### Update points (R372, R373) -/

/-- The first period boundary of output `n` after `t`. -/
def Dev.pwmBoundary (d : Dev) (n t : Nat) : Nat :=
  let b := (d.pwmOut n).base
  let p := max 1 (d.pwmPeriod n)
  if t < b then b else b + ((t - b) / p + 1) * p

/-- The first update point of output `n` after `t` (R372). -/
def Dev.pwmUpdate (d : Dev) (n t : Nat) : Nat :=
  let bound := d.pwmBoundary n t
  if d.pwmAct (PWM.UPD_MODE n) = 0 then bound
  else
    let p := max 1 (d.pwmPeriod n)
    let mid := bound - p + (if d.pwmAct (PWM.ALIGN n) = 0 then (d.pwmPer n + 1) / 2 else d.pwmPer n) * d.pwmClk n
    if t < mid then mid else bound

/-- The buffered values of the fields `fs` come into force. -/
def Dev.pwmTake (d : Dev) (fs : List Field) : Dev :=
  d.each fs (fun d f =>
    match tget? d.pwm.buf f.key with
    | none => d
    | some v => { d with pwm := { d.pwm with act := kput f.reset d.pwm.act f.key v, buf := tdel d.pwm.buf f.key } })

/-- The fields taken at the update points of output `n`: its own, and with an even output those of its pair. -/
def Dev.pwmGroupFields (d : Dev) (n : Nat) : List Field :=
  pwmFields n ++ (if n % 2 = 0 then [PWM.DEAD (n / 2), PWM.PAIR_EN (n / 2)] else []) ++
  (if n % 2 = 0 && d.pwmPaired n then pwmFields (n + 1) else [])

/-- Whether output `n` takes buffered values: not while it continues under HOLD_LAST (R375). -/
def Dev.pwmTakes (d : Dev) (n : Nat) : Bool := !(d.pwm.snuff && d.pwmSnuffState n == 2)

/-- Groups held by any input show in GRP_HELD, latched inputs in TRIP_LATCHED (Table 11.6). -/
def Dev.tripShow (d : Dev) : Dev :=
  let held := (List.range 4).foldl (fun a t => a ||| (tget d.pwm.trips t).holds) 0
  let latched := (List.range 4).foldl (fun a t => a + (if !d.on (TRIP.TRIP_MODE t) && (tget d.pwm.trips t).holds != 0 then 2 ^ t else 0)) 0
  (d.wr TRIP.GRP_HELD held).wr TRIP.TRIP_LATCHED latched

/-- The values or the state of the pair of output `n` change at `u`, its reference having been `before` (R370). -/
def Dev.pwmTurns (d : Dev) (n u : Nat) (before : Bool) : Dev :=
  if d.pwmPaired n then d.modPwm (d.pwmGov n) (fun o => { o with turn := some (u, before, d.pwmRefAt u (d.pwmGov n)) }) else d

/-- A period boundary of group `k` at `t` (R379): each input that is not asserted and is in CYCLE mode or cleared releases it; the outputs
resume with dead time. -/
def Dev.tripBoundary (d : Dev) (k t : Nat) : Dev :=
  let was := bitOf (d.rd TRIP.GRP_HELD) k
  let d := d.each (List.range 4) (fun d t =>
    let x : TripIn := tget d.pwm.trips t
    if bitOf x.holds k && !bitOf (d.rd TRIP.TRIP_LEVEL) t && (d.on (TRIP.TRIP_MODE t) || bitOf x.clr k) then
      { d with pwm := { d.pwm with trips := tset d.pwm.trips t { x with holds := setBitOf x.holds k false, clr := setBitOf x.clr k false } } }
    else d)
  let d := d.tripShow
  if was && !bitOf (d.rd TRIP.GRP_HELD) k then d.pwmTurns (2 * k) t (!d.pwmRefAt t (2 * k)) else d

/-- Brings governing output `n` up to `now`: the first update point since takes the buffered values, short pulses of the
periods that began are counted, and a boundary that passed releases trips. -/
def Dev.pwmSyncGov (d : Dev) (now n : Nat) : Dev :=
  let o := d.pwmOut n
  if !d.pwmRuns n || now ≤ o.synced then d.modPwm n (fun o => { o with synced := max o.synced now })
  else
    let u := d.pwmUpdate n o.synced
    let b := d.pwmBoundary n o.synced
    let d := if u ≤ now && d.pwmTakes n then
        (let p0 := d.pwmPaired n
         let before := d.pwmRefAt (u - 1) n
         let d := d.modPwm n (fun o => { o with base := if u = b then u else o.base })
         let d := d.pwmTake (d.pwmGroupFields n)
         let d := if before == d.pwmRefAt u n && !p0 then d else d.pwmTurns n u before
         if p0 && !d.pwmPaired n then d.modPwm (n + 1) (fun _ => d.pwmOut n) else d)
      else d
    let p := max 1 (d.pwmPeriod n)
    let k := (now - (d.pwmOut n).base) / p
    let started := if b ≤ now then k + b2n (u ≤ now && u == b && d.pwmTakes n) else 0
    let sh := d.pwmShape n
    let d := (d.add PWM.MINP_DROP_CNT (started * sh.drops)).add PWM.MINP_STR_CNT (started * sh.strs)
    let d := d.modPwm n (fun o => { o with base := o.base + k * p, synced := now })
    let d := (d.wr (PWM.CMP_ACT n) (d.pwmAct (PWM.CMP n)))
    if b ≤ now && (n % 2 == 0 || !d.pwmRuns (n - 1)) then d.tripBoundary (n / 2) (d.pwmOut n).base else d

/-- Brings output `n` up to `now`. -/
def Dev.pwmSync (d : Dev) (now n : Nat) : Dev := d.pwmSyncGov now (d.pwmGov n)

/-- Brings every output up to `now`. -/
def Dev.pwmSyncAll (d : Dev) (now : Nat) : Dev := d.each (List.range 12) (fun d n => d.pwmSync now n)

/-- A write of a buffered field (R372, R373). -/
def Dev.pwmWrite (d : Dev) (now : Nat) (f : Field) (v : Nat) : Dev :=
  let d := d.pwmSyncAll now
  let d := d.wr f v
  let v := d.rd f
  if d.on PWM.UPD_HOLD then { d with pwm := { d.pwm with held := tset d.pwm.held f.key v } }
  else { d with pwm := { d.pwm with buf := tset d.pwm.buf f.key v } }

/-- UPD_HOLD of the PWM page written (R373): at the clear the values written under it await the next update points. -/
def Dev.pwmUpdHold (d : Dev) (now : Nat) (h : Bool) : Dev :=
  let d := (d.pwmSyncAll now).wrB PWM.UPD_HOLD h
  if h then d
  else { d with pwm := { d.pwm with buf := d.pwm.held.foldl (fun b x => tset b x.1 x.2) d.pwm.buf, held := [] } }

/-- OUT_EN written (R367): counters of outputs newly enabled start from 0, taking their buffered values. -/
def Dev.outEnWrite (d : Dev) (now v : Nat) : Dev :=
  let d := d.pwmSyncAll now
  let old := d.rd PWM.OUT_EN
  let ran := (List.range 12).filter (fun n => d.pwmRuns (d.pwmGov n))
  let d := d.wr PWM.OUT_EN v
  d.each (List.range 12) (fun d n =>
    if bitOf old n == d.outEn n then d
    else
      let d := d.modPwm n (fun o => { o with edgeAt := some now })
      if d.outEn n && !ran.contains n then
        (let d := d.pwmTake (d.pwmGroupFields (d.pwmGov n))
         let d := d.modPwm (d.pwmGov n) (fun o => { o with base := now, synced := now })
         (d.wr (PWM.CMP_ACT n) (d.pwmAct (PWM.CMP n))).tripBoundary (n / 2) now)
      else d)

/-- The outputs enter or leave their snuff states (R375). -/
def Dev.pwmSnuffSet (d : Dev) (now : Nat) (on_ : Bool) : Dev :=
  let o := d.pwmSyncAll now
  let d := { o with pwm := { o.pwm with snuff := on_ } }
  d.each (List.range 12) (fun d n => (d.modPwm n (fun x => { x with edgeAt := some now })).pwmTurns n now (o.pwmRefAt (now - 1) (o.pwmGov n)))

/-! ### Trip inputs (R377 to R379) -/

/-- Changes trip input `t`. -/
def Dev.modTrip (d : Dev) (t : Nat) (f : TripIn → TripIn) : Dev := { d with pwm := { d.pwm with trips := tmod d.pwm.trips t f } }

/-- Whether blanking hides input `t` at `now` (R378). -/
def Dev.tripBlanked (d : Dev) (now t : Nat) : Bool :=
  let blank := 8 * d.rd (TRIP.TRIP_BLANK t)
  (List.range 12).any (fun n =>
    let g := d.pwmGov n
    let young := fun (a : Option Nat) => match a with | some x => decide (x < blank) | none => false
    bitOf (d.rd (TRIP.TRIP_MAP t)) (n / 2) &&
    (young ((d.pwmOut n).edgeAt.map (fun e => now - e)) ||
     (d.outEn n && !d.pwmTripped n && !(d.pwm.snuff && decide (d.pwmSnuffState n ≤ 1)) &&
      young (edgeAge (d.pwmPeriod g) (if n = g then (d.pwmShape g).even else (d.pwmShape g).odd) (now - (d.pwmOut g).base)))))

/-- An assertion of input `t` acts (R377). -/
def Dev.tripAct (d : Dev) (now t : Nat) : Dev :=
  let m := d.rd (TRIP.TRIP_MAP t)
  let was := d.rd TRIP.GRP_HELD
  let d := d.modTrip t (fun x => { x with waits := false, holds := x.holds ||| m, clr := 0 })
  let c := bitsOf (d.rd TRIP.TRIP_CNT) (8 * t) 8
  let d := d.wr TRIP.TRIP_CNT (d.rd TRIP.TRIP_CNT + (if c < 255 then 2 ^ (8 * t) else 0))
  let d := d.each (List.range 12) (fun d n =>
    if bitOf m (n / 2) && !bitOf was (n / 2) && d.outEn n then d.modPwm n (fun o => { o with edgeAt := some now }) else d)
  d.tripShow.fire now EVT.TRIP_ASSERT t 0

/-- A filtered assertion of input `t` (R377, R378). -/
def Dev.tripAssert (d : Dev) (now t : Nat) : Dev :=
  if bitOf (d.rd TRIP.TRIP_LEVEL) t then d
  else
    let d := d.pwmSyncAll now
    let d := d.wr TRIP.TRIP_LEVEL (setBitOf (d.rd TRIP.TRIP_LEVEL) t true)
    if d.tripBlanked now t then d.modTrip t (fun x => { x with waits := true }) else d.tripAct now t

/-- The end of blanking of input `t` (R378). -/
def Dev.tripBlankEnd (d : Dev) (now t : Nat) : Dev :=
  let d := d.pwmSyncAll now
  if (tget d.pwm.trips t).waits && bitOf (d.rd TRIP.TRIP_LEVEL) t && !d.tripBlanked now t then d.tripAct now t else d

/-- Input `t` is no longer asserted (R379). -/
def Dev.tripDeassert (d : Dev) (now t : Nat) : Dev :=
  let d := d.pwmSyncAll now
  (d.wr TRIP.TRIP_LEVEL (setBitOf (d.rd TRIP.TRIP_LEVEL) t false)).modTrip t (fun x => { x with waits := false })

/-- The level that asserts input `t` (Table 11.6). -/
def Dev.tripPol (d : Dev) (t : Nat) : Bool := d.on (TRIP.TRIP_POL t)

/-- The configuration of input `t` has been written (R377): TRIP_POL decides anew whether its level asserts it, and an input that is asserted
holds the groups its map names. -/
def Dev.tripCfg (d : Dev) (now t : Nat) : Dev :=
  let x : TripIn := tget d.pwm.trips t
  let now_ := x.high == d.tripPol t
  let d := if now_ && !bitOf (d.rd TRIP.TRIP_LEVEL) t then d.tripAssert now t
    else if !now_ && bitOf (d.rd TRIP.TRIP_LEVEL) t then d.tripDeassert now t
    else if now_ && !x.waits then d.modTrip t (fun x => { x with holds := x.holds ||| d.rd (TRIP.TRIP_MAP t) })
    else d
  d.tripShow

/-- The filtered level of input `t` turns (R377), having stood for `held` cycles: FILT of them pass the filter. -/
def Dev.tripLevel (d : Dev) (now t held : Nat) (high : Bool) : Dev :=
  if d.rd (TRIP.FILT t) ≤ held then (d.modTrip t (fun x => { x with high := high })).tripCfg now t else d

/-- TRIP_CLR written (R379): held groups are cleared at their next boundary with the input not asserted. -/
def Dev.tripClr (d : Dev) (now mask : Nat) : Dev :=
  let d := d.pwmSyncAll now
  d.each (List.range 4) (fun d t => if bitOf mask t then d.modTrip t (fun x => { x with clr := x.holds }) else d)

/-! ### Product loops (R368) -/

/-- The output an enabled loop writes (R368). -/
def Dev.loopOut (d : Dev) (p : Nat) : Nat := if d.on (RATE.ACT_PAIR p) then d.rd (RATE.ACT_PWM p) / 2 * 2 else d.rd (RATE.ACT_PWM p)

/-- The commit's write of the loops' duties into CMP, and OWNED (R368). -/
def Dev.pwmCommit (d : Dev) (now : Nat) : Dev :=
  let loops := (List.range 8).filter d.loopEnabled
  let owned := (loops.flatMap (fun p => d.candOuts [] p)).foldl (fun a o => setBitOf a o true) 0
  let d := d.wr PWM.OWNED owned
  d.each loops (fun d p =>
    let o := d.loopOut p
    if o < 12 then
      d.pwmWrite now (PWM.CMP o) (cmpOfDuty (d.rd (PWM.ALIGN o)) (perOf (d.rd (PWM.ALIGN o)) (d.rd (PWM.PER o))) (d.rd (RATE.LOOP_DUTY p)))
    else d)

/-! ### Commands -/

/-- PWM_UPDATE_POINT, R372: output `out` has reached an update point. -/
def execPwmUpdatePoint (el : Nat) (out : Fin 12) (s : State) : Host.Outcome State Fault Refusal :=
  s.run el (fun now d => if d.pwr.st = .off then d else d.pwmSync now out.val)

/-- OUT_EN, R367: a write of OUT_EN. -/
def execOutEn (el : Nat) (mask : BitVec 12) (s : State) : Host.Outcome State Fault Refusal :=
  s.run el (fun now d => if d.hif.inService then d.outEnWrite now mask.toNat else d)

/-- TRIP_ASSERT, R377: a trip input has stood at its asserting level for `held` cycles. -/
def execTripAssert (el : Nat) (inp : Fin 4) (held : Nat) (s : State) : Host.Outcome State Fault Refusal :=
  s.run el (fun now d => if d.pwr.st = .off then d else d.tripLevel now inp.val held (d.tripPol inp.val))

/-- TRIP_BLANK_END, R378. -/
def execTripBlankEnd (el : Nat) (inp : Fin 4) (s : State) : Host.Outcome State Fault Refusal :=
  s.run el (fun now d => if d.pwr.st = .off then d else d.tripBlankEnd now inp.val)

/-- TRIP_DEASSERT, R379: a trip input has stood at the other level for `held` cycles. -/
def execTripDeassert (el : Nat) (inp : Fin 4) (held : Nat) (s : State) : Host.Outcome State Fault Refusal :=
  s.run el (fun now d => if d.pwr.st = .off then d else d.tripLevel now inp.val held (!d.tripPol inp.val))

/-- TRIP_CLR, R379: a write of TRIP_CLR. -/
def execTripClr (el : Nat) (mask : BitVec 4) (s : State) : Host.Outcome State Fault Refusal :=
  s.run el (fun now d => if d.hif.inService then d.tripClr now mask.toNat else d)

end Sys2Proof.Machine
end

