-- ==== Sys2Proof/Machine/Lsw.lean ====
section
/-! DEFINITION. Load switches (R330 to R353, R360 to R362): bank limits and admission, inrush, thermal protection, diagnostics,
the order of states, the commit, and the commands of these blocks. -/

namespace Sys2Proof.Machine

/-- Switch `n` beside its registers. -/
def Dev.lswCh (d : Dev) (n : Nat) : LswCh := tget d.lsw n

/-- Changes switch `n`. -/
def Dev.modLsw (d : Dev) (n : Nat) (f : LswCh → LswCh) : Dev := { d with lsw := tmod d.lsw n f }

/-- The bank of switch `n`, 0 to 3 (Table 10.2). -/
def lswBank (n : Nat) : Nat := n % 8 / 2

/-- The four switches of bank `b`, lowest first. -/
def bankSwitches (b : Nat) : List Nat := [2 * b, 2 * b + 1, 8 + 2 * b, 9 + 2 * b]

/-- The highest current limit of the class of switch `n` (Table 10.1), mA. -/
def lswClassLim (n : Nat) : Nat := if n < 8 then 30000 else 12000

/-- The highest I_NOM of the class of switch `n`, mA. -/
def lswClassNom (n : Nat) : Nat := if n < 8 then 10000 else 4000

/-- I_STEADY from I_NOM and LIM_PCT (R339). -/
def steadyOf (n iNom pct : Nat) : Nat := min (iNom * held 110 300 pct / 100) (lswClassLim n)

/-- I_STEADY of switch `n`. -/
def Dev.lswSteady (d : Dev) (n : Nat) : Nat := steadyOf n (d.rd (LSW.I_NOM n)) (d.rd (LSW.LIM_PCT n))

/-- Whether switch `n` acts as AUXILIARY (R336, R338). -/
def Dev.lswAux (d : Dev) (n : Nat) : Bool := d.on (LSW.ROLE n) || d.pwr.mode == .plain

/-- Whether inrush follows the curve of LOAD_TYPE, else the window (Table 10.4). -/
def Dev.lswProfile (d : Dev) (n : Nat) : Bool :=
  match d.rd (LSW.INRUSH_MODE n) with
  | 1 => true
  | 2 => false
  | _ => !d.lswAux n

/-- The curve of a LOAD_TYPE (Table 10.5): K0 in percent, the end of its plateau and the end of the curve in ms. -/
def loadCurve (t : Nat) : Nat × Nat × Nat :=
  match t with
  | 0 => (1000, 2, 60)
  | 1 => (300, 1, 5)
  | 2 => (600, 50, 500)
  | 3 => (200, 0, 1000)
  | 4 => (200, 5, 50)
  | _ => (800, 10, 20)

/-- Cycles from switch-on to the end of inrush (R339, R340). -/
def Dev.lswInrush (d : Dev) (n : Nat) : Nat :=
  if d.lswProfile n then ms (loadCurve (d.rd (LSW.LOAD_TYPE n))).2.2 else ms (d.rdH 1 2000 (LSW.T_BOOST n))

/-- The inrush limit of switch `n`, `t` cycles after switch-on (Table 10.4), mA. -/
def Dev.lswInrushLim (d : Dev) (n t : Nat) : Nat :=
  let st := d.lswSteady n
  if d.lswInrush n ≤ t then st
  else if d.lswProfile n then
    let (k0, t0, t1) := loadCurve (d.rd (LSW.LOAD_TYPE n))
    let pct := d.rdH 110 300 (LSW.LIM_PCT n)
    let k := if t ≤ ms t0 then k0 * 1000 else
      ((k0 * 1000 : Nat) + ((pct : Int) - k0) * 1000 * ((t - ms t0 : Nat) : Int) / ((ms t1 - ms t0 : Nat) : Int) : Int).toNat
    min (max (k * d.rd (LSW.I_NOM n) / 100000) st) (lswClassLim n)
  else min (max (d.rd (LSW.I_BOOST n)) st) (lswClassLim n)

/-- The current limit in force of a switch that is on (R339). -/
def Dev.lswLimit (d : Dev) (now n : Nat) : Nat :=
  let c := d.lswCh n
  if c.inr then
    let l := d.lswInrushLim n (now - c.onAt)
    match c.cut with | some x => min l x | none => l
  else d.lswSteady n

/-- The limits in force of the other switches of the bank of `n` (R333). -/
def Dev.bankLoad (d : Dev) (now n : Nat) : Nat :=
  (((bankSwitches (lswBank n)).filter (fun m => m != n && (d.lswCh m).drv)).map (fun m => d.lswLimit now m)).sum

/-! ### The order of states (R351) -/

/-- Chopping period of AUX_DUTY in cycles (Table 10.11). -/
def Dev.lswChopPeriod (d : Dev) : Nat :=
  match d.rd LSB.LSW_PWM_FREQ with | 0 => us 10000 | 1 => us 5000 | 2 => us 2000 | _ => us 1000

/-- The drive of a switch whose commanded state is on: whether it drives, and its chopping (R337). -/
def Dev.lswOnDrive (d : Dev) (n : Nat) : Bool × Option (Nat × Nat) :=
  let duty := d.rd (LSW.AUX_DUTY n)
  let p := d.lswChopPeriod
  if !d.lswAux n || 1000 ≤ duty then (true, none)
  else if duty = 0 || duty * p / 1000 < us 50 then (false, none)
  else (true, some (p, duty))

/-- The drive of snuff state PWM (R353): SNUFF_FREQ held at 1 Hz and 1,000 Hz. -/
def Dev.lswSnuffPwm (d : Dev) (n : Nat) : Bool × Option (Nat × Nat) :=
  let p := 4000000000 / d.rdH 10 10000 (WDG.SNUFF_FREQ (32 + n))
  let duty := d.rd (WDG.SNUFF_DUTY (32 + n))
  if duty = 0 then (false, none) else if 1000 ≤ duty then (true, none) else (true, some (p, duty))

/-- What reaches the output of switch `n` (Table 10.8). -/
def Dev.lswWant (d : Dev) (n : Nat) : Bool × Option (Nat × Nat) :=
  let c := d.lswCh n
  if d.on (LSW.THERM_LATCH n) || c.hot || d.on (LSB.BANK_SUSP (lswBank n)) || c.dualOff || c.shed || !(d.pwr.st != .off && d.pwr.st != .ember && d.pwr.outHold != .off) then (false, none)
  else match c.snuff with
  | some 0 => (false, none)
  | some 1 => (true, none)
  | some 2 => c.last
  | some _ => d.lswSnuffPwm n
  | none =>
    if c.holdEnd.isSome then c.last
    else if c.force = 1 then (false, none)
    else if c.force = 2 then (true, none)
    else if c.com && !c.idle then d.lswOnDrive n
    else (false, none)

/-- CH_STATE of switch `n` shows what it does (Table 10.12). -/
def Dev.lswShow (d : Dev) (now n : Nat) : Dev :=
  let c := d.lswCh n
  d.wr (LSW.CH_STATE n)
    (if d.on (LSW.THERM_LATCH n) then 6
     else if c.hot then 5
     else if d.on (LSB.BANK_SUSP (lswBank n)) then 10
     else if c.dualOff then 11
     else if c.shed then 9
     else if c.snuff.isSome then 8
     else if c.holdEnd.isSome then 7
     else if c.waitFrom.isSome then 1
     else if !c.drv then 0
     else if c.inr then 2
     else if d.lswLimit now n ≤ d.rd (LSW.I_MEAS n) then 4
     else 3)

/-- An event of a switch: the logic die fires it, so not during its reset (R360). -/
def Dev.lswFire (d : Dev) (now e n v : Nat) : Dev := if d.pwr.stage = .none then d.fire now e n v else d

/-- FAULT of switch `n` found as `code` (R346): EVT_LSW_FAULT at a change to a value other than NONE. -/
def Dev.lswFault (d : Dev) (now n code : Nat) : Dev :=
  if d.rd (LSW.FAULT n) = code then d else (d.wr (LSW.FAULT n) code).lswFire now EVT.LSW_FAULT n code

/-! ### Switch-on and switch-off (R333, R336) -/

/-- A switch-on that is admitted, at `now`, with its limit cut to `cut` if given. -/
def Dev.lswStart (d : Dev) (now n : Nat) (cut : Option Nat) : Dev :=
  let c := d.lswCh n
  let d := d.modLsw n (fun c => { c with drv := true, onAt := now, inr := true, cut := cut, waitFrom := none, restart := false, chop := (d.lswWant n).2,
                                         restarts := if c.restart then now :: c.restarts.take 14 else c.restarts })
  let d := d.bump (LSW.SW_ON_CNT n)
  let d := match d.ptOfCh 2 n with
    | some pt => if c.drv then d else (d.covLoad n now true).pushEdge pt true (now + d.latCycles pt true)
    | none => d
  d.lswShow now n

/-- Whether the latest command of a switch that is due by `now` turns it off. -/
def LswCh.offDue (c : LswCh) (now : Nat) : Bool :=
  match (c.cmds.filter (fun k => decide (k.dt ≤ now))).getLast? with | some k => !k.on | none => false

/-- Serves the waiting switch-ons of bank `b` in order of commanded DT, lower channel first (R333). -/
def Dev.lswAdmitN : Nat → Dev → Nat → Nat → Dev
  | 0, d, _, _ => d
  | fuel + 1, d, now, b =>
    let waiting := ((bankSwitches b).filter (fun n => (d.lswWant n).1 && !(d.lswCh n).offDue now)).filterMap
      (fun n => (d.lswCh n).waitFrom.map (fun t => (t, n)))
    match waiting.foldl (fun (m : Option (Nat × Nat)) x =>
        match m with | none => some x | some y => if x.1 < y.1 || (x.1 == y.1 && x.2 < y.2) then some x else some y) none with
    | none => d
    | some (t, n) =>
      let load := d.bankLoad now n
      if load + d.lswInrushLim n 0 ≤ 40000 then Dev.lswAdmitN fuel (d.lswStart now n none) now b
      else if t + ms 10 ≤ now && load + d.lswSteady n ≤ 40000 then Dev.lswAdmitN fuel (d.lswStart now n (some (40000 - load))) now b
      else d

/-- Serves the waiting switch-ons of bank `b`. -/
def Dev.lswAdmit (d : Dev) (now b : Nat) : Dev := Dev.lswAdmitN 4 d now b

/-- Switch `n` turns off at `now`. -/
def Dev.lswStop (d : Dev) (now n : Nat) : Dev :=
  let was := (d.lswCh n).drv
  let d := d.modLsw n (fun c => { c with drv := false, inr := false, cut := none, waitFrom := none, restart := false, chop := none, rev := false })
  let d := if was then
      (let d := d.wr (LSW.I_MEAS n) 0
       match d.ptOfCh 2 n with
       | some pt => d.pushEdge pt false (now + d.latCycles pt false)
       | none => d)
    else d
  (d.lswAdmit now (lswBank n)).lswShow now n

/-- Switch `n` takes the state that reaches its output (R351), `cmd` being the commanded DT of a switch-on. -/
def Dev.lswApply (d : Dev) (now cmd n : Nat) : Dev :=
  let w := d.lswWant n
  let c := d.lswCh n
  if !w.1 then (if c.drv || c.waitFrom.isSome then d.lswStop now n else d.lswShow now n)
  else if c.drv then (d.modLsw n (fun c => { c with chop := w.2 })).lswShow now n
  else if c.waitFrom.isSome then d
  else
    let d := (d.modLsw n (fun c => { c with waitFrom := some cmd })).lswAdmit now (lswBank n)
    if (d.lswCh n).waitFrom.isSome then (d.bump LSB.BANK_WAIT_CNT).lswShow now n else d

/-- Whether switch `n` is held by the pairing (R350, Table 10.8 row 3): its module is not the master. -/
def Dev.lswStandby (d : Dev) (n : Nat) : Bool := !d.vnpMaster && d.on (LSW.DUAL_FED n)

/-- Whether switch `n` is held idle by the pairing: an APPLICATION switch with a point on a module that is not the master. -/
def Dev.lswIdle (d : Dev) (n : Nat) : Bool := !d.vnpMaster && !d.on (LSW.ROLE n) && (d.ptOfCh 2 n).isSome

/-- Whether switch `n` is shed (R348). -/
def Dev.lswSheds (d : Dev) (n : Nat) : Bool := d.pwr.st == .dim && d.lswAux n && d.on (LSW.SHED_ON_DIM n)

/-- EVT_LSW_SHED, once in an episode of DIM (R348). -/
def Dev.shedEvent (d : Dev) (now : Nat) : Dev :=
  if d.pwr.dimShed then d else ({ d with pwr := { d.pwr with dimShed := true } }).fire now EVT.LSW_SHED 0 0

/-- Executes the command `k` of switch `n` (R336): the first of a committed window also ends what ends there (R348, R350,
R354, R567). -/
def Dev.lswExec (d : Dev) (now n : Nat) (k : LswCmd) : Dev :=
  let d := if k.opens && d.lswSheds n then d.shedEvent now else d
  let d := d.modLsw n (fun c =>
    if k.opens then
      { c with com := k.on, force := k.force, holdEnd := none, shed := d.lswSheds n, dualOff := d.lswStandby n, idle := d.lswIdle n,
               snuff := if d.snuffActive then c.snuff else none }
    else { c with com := k.on })
  d.lswApply now k.dt n

/-- Executes the commands of switch `n` that are due (R336). -/
def Dev.lswRun (d : Dev) (now n : Nat) : Dev :=
  let due := (d.lswCh n).cmds.filter (fun k => decide (k.dt ≤ now))
  (d.modLsw n (fun c => { c with cmds := c.cmds.filter (fun k => !decide (k.dt ≤ now)) })).each due (fun d k => d.lswExec now n k)

/-! ### The commit (R332, R336, R338, R348, R361) -/

/-- First address of the configuration words of switch `n`. -/
def lswLo (n : Nat) : Nat := 0x048100 + 0x1000 * (n / 8) + 0x40 * (n % 8)

/-- The refusal code of a pending configuration of switch `n` (Table 10.10); `acc` holds what the commit accepts. -/
def Dev.lswCode (d : Dev) (acc : KMap) (n : Nat) : Nat :=
  let val := fun (m : Nat) (f : Field) => if m ≤ n then d.cand acc f else d.rd f
  let bank := bankSwitches (lswBank n)
  let sel := d.cand acc (LSW.AUX_SEL n)
  let top := match d.cand acc (LSW.AUX_SRC n) with | 1 => 23 | 3 => 7 | 4 => 7 | _ => 127
  if d.cand acc (LSW.ROLE n) = 1 && (d.candPts acc).any (fun p => d.cand acc (PD.BIND_KIND p) == 2 && d.cand acc (PD.LOCAL_CH p) == n) then 1
  else if 6 ≤ d.cand acc (LSW.LOAD_TYPE n) then 2
  else if d.cand acc (LSW.I_NOM n) = 0 || lswClassNom n < d.cand acc (LSW.I_NOM n) then 3
  else if 16000 < (bank.map (fun m => val m (LSW.I_NOM m))).sum ||
    40000 < (bank.map (fun m => steadyOf m (val m (LSW.I_NOM m)) (val m (LSW.LIM_PCT m)))).sum then 4
  else if top < sel then 5
  else 0

/-- The commit's check of the pending switch configurations, in ascending order (R361). -/
def Dev.lswStep (d : Dev) (adm : KMap) : KMap × Tab Nat :=
  (List.range 16).foldl (fun acc n =>
    if admHas adm (lswLo n) (lswLo n + 0x14) then
      (let c := d.lswCode acc.1 n
       if c = 0 then (acc.1, tset acc.2 n 0) else (admDrop acc.1 (lswLo n) (lswLo n + 0x14), tset acc.2 n c))
    else acc) (adm, [])

/-- CFG_ERR and the events of the check (R361). -/
def Dev.lswReport (d : Dev) (now : Nat) (codes : Tab Nat) : Dev :=
  d.each codes (fun d x =>
    let d := d.wr (LSW.CFG_ERR x.1) x.2
    if x.2 = 0 then d else d.fire now EVT.LSW_CFG_REFUSED x.1 x.2)

/-- The committed window of a group of points: state at its opening, and its changes as (position, state). -/
def Dev.anyOn (d : Dev) (pts : List Nat) : Bool × List (Nat × Bool) :=
  let st := fun (q : Nat) => pts.any (fun n =>
    let k := d.decOf n
    match k.edge with
    | some t => if t ≤ q then k.s else k.sOpen
    | none => k.s)
  let open_ := pts.any (fun n => let k := d.decOf n; k.sOpen && !(k.edge == some 0 && !k.s) || (k.edge == some 0 && k.s))
  let qs := (((pts.filterMap (fun n => (d.decOf n).edge)).mergeSort (· ≤ ·)).dedup)
  (open_, (qs.filter (fun q => q != 0)).map (fun q => (q, st q)))

/-- The points that AUX_SRC of switch `n` follows (Table 10.3). -/
def Dev.auxPts (d : Dev) (n : Nat) : List Nat :=
  let sel := d.rd (LSW.AUX_SEL n)
  match d.rd (LSW.AUX_SRC n) with
  | 2 => d.validPts.filter (fun p => d.inSection sel p)
  | 3 => d.validPts.filter (fun p => d.rd (PD.SEG p) == sel)
  | _ => d.validPts.filter (fun p => d.rd (PD.PRODUCT p) == sel)

/-- The commanded window of switch `n` (R336, R338): state at its opening and changes. -/
def Dev.lswPlan (d : Dev) (n : Nat) : Bool × List (Nat × Bool) :=
  if d.pwr.emberWait.isSome then (false, [])
  else if d.pwr.mode = .plain then (d.ginT0 n && d.ginT0 16 && d.on GIN.PLAIN_GATE, [])
  else if d.on (LSW.ROLE n) then
    match d.rd (LSW.AUX_SRC n) with
    | 1 => (d.ginT0 (d.rd (LSW.AUX_SEL n)), [])
    | 2 | 3 | 4 => d.anyOn (d.auxPts n)
    | _ => (d.on (LSW.AUX_ON n), [])
  else match d.ptOfCh 2 n with
    | some p => d.anyOn [p]
    | none => (false, [])

/-- The handover of the committed window that opens at `a` to the switches (R164, R336). -/
def Dev.lswCommit (d : Dev) (a : Nat) : Dev :=
  d.each (List.range 16) (fun d n =>
    let w := d.lswPlan n
    let f := if d.lswAux n && d.pwr.emberWait.isNone then d.rd (LSW.AUX_FORCE n) % 3 else 0
    let ks := { dt := a, on := w.1, force := f, opens := true } :: w.2.map (fun x => ({ dt := a + 4000 * x.1, on := x.2 } : LswCmd))
    d.modLsw n (fun c => { c with cmds := c.cmds.filter (fun k => decide (k.dt < a)) ++ ks }))

/-! ### Thermal protection (R341 to R345) -/

/-- THERM_LATCH set, with EVT_LSW_LATCH (R343). -/
def Dev.lswSetLatch (d : Dev) (now n : Nat) : Dev :=
  (d.wr (LSW.THERM_LATCH n) 1).lswFire now EVT.LSW_LATCH n (d.rd (LSW.FAULT n))

/-- A thermal event of switch `n` (R342, R343); `hot` where it reached its shutdown temperature. -/
def Dev.lswThermal (d : Dev) (now n code : Nat) (hot : Bool) : Dev :=
  let d := (d.bump (LSW.THERM_CNT n)).lswFault now n code
  let d := d.modLsw n (fun c => { c with hot := c.hot || hot || decide (160 < toS 10 (d.rd (LSW.CH_TEMP n))) })
  let d := if d.on (LSW.THERM_MODE n) then d.lswSetLatch now n
    else if d.rd (LSW.RETRY_MAX n) ≤ d.lswRestarts now n then (d.lswFault now n 6).lswSetLatch now n
    else d
  let d := d.lswStop now n
  let d := (d.modLsw n (fun c => { c with restart := true })).lswApply now now n
  if (d.lswCh n).waitFrom.isSome then d else d.modLsw n (fun c => { c with restart := false })

/-- The temperature of switch `n` permits a restart (R342, R344). -/
def Dev.lswCool (d : Dev) (now n : Nat) : Dev :=
  let d := d.modLsw n (fun c => { c with hot := false, restart := true })
  let d := d.lswApply now now n
  if (d.lswCh n).waitFrom.isSome then d else d.modLsw n (fun c => { c with restart := false })

/-- FLT_CLR of switch `n` (R345). -/
def Dev.lswFltClr (d : Dev) (now n : Nat) : Dev :=
  let d := (d.wr (LSW.THERM_LATCH n) 0).wr (LSW.FAULT n) 0
  (d.modLsw n (fun c => { c with restarts := [], restart := false })).lswApply now now n

/-! ### Banks (R334, R349), the supply (R348), snuff states (R353) and the hold window (R360) -/

/-- The measured currents of bank `b`, in the order of its switches; a switch that is off carries none, and one at OL_ON_MA or more
shows load current (R97). -/
def Dev.bankMeas (d : Dev) (now b : Nat) (is : List Nat) : Dev :=
  let d := d.each ((bankSwitches b).zip is) (fun d x =>
    if (d.lswCh x.1).drv && decide (d.rd (LSW.OL_ON_MA x.1) ≤ x.2) then d.covLoad x.1 now false else d)
  let d := d.each ((bankSwitches b).zip is) (fun d x => d.wr (LSW.I_MEAS x.1) (if (d.lswCh x.1).drv then x.2 else 0))
  let total := ((bankSwitches b).map (fun n => d.rd (LSW.I_MEAS n))).sum
  let f := match b with | 0 => LSB.I_BANK_A | 1 => LSB.I_BANK_B | 2 => LSB.I_BANK_C | _ => LSB.I_BANK_D
  (d.wrU f total).wrB (LSB.BANK_HI b) (decide (16000 < total))

/-- The inrush of switch `n` ends (R339, R334). -/
def Dev.inrushOver (d : Dev) (now n : Nat) : Dev := (d.modLsw n (fun c => { c with inr := false, cut := none, inrEnd := now })).lswShow now n

/-- I_BANK of bank `b` has lain above 16,000 mA for `held` cycles: 10 ms end the inrush of its switches (R334). -/
def Dev.bankPeak (d : Dev) (now b held : Nat) : Dev :=
  if d.on (LSB.BANK_HI b) && decide (ms 10 ≤ held) then
    let d := d.each ((bankSwitches b).filter (fun n => (d.lswCh n).inr)) (fun d n => d.inrushOver now n)
    ((d.bump LSB.INRUSH_CUT_CNT).lswFire now EVT.LSW_BANK_PEAK b 0).lswAdmit now b
  else d

/-- I_BANK of bank `b` has lain above 16,000 mA for `held` cycles (R334): after 1 s, and every second while it lasts, the switch of the
highest ratio I_MEAS / I_NOM turns off. -/
def Dev.bankOverload (d : Dev) (now b held : Nat) : Dev :=
  let since := match tget? d.wdg.ovlAt b with | some t => decide (t + sec 1 ≤ now) | none => true
  if d.on (LSB.BANK_HI b) && decide (sec 1 ≤ held) && since then
    let d := { d with wdg := { d.wdg with ovlAt := tset d.wdg.ovlAt b now } }
    let best := ((bankSwitches b).filter (fun n => (d.lswCh n).drv)).foldl (fun (m : Option Nat) n =>
      match m with
      | none => some n
      | some x => if d.rd (LSW.I_MEAS x) * d.rd (LSW.I_NOM n) < d.rd (LSW.I_MEAS n) * d.rd (LSW.I_NOM x) then some n else some x) none
    match best with
    | some n => (d.bump LSB.BANK_OVL_CNT).lswThermal now n 4 false
    | none => d
  else d

/-- The load switches of bank `b` at its suspension or return (R349). -/
def Dev.lswBankSusp (d : Dev) (now b : Nat) (susp : Bool) : Dev :=
  (d.wrB (LSB.BANK_SUSP b) susp).each (bankSwitches b) (fun d n => d.lswApply now now n)

/-- Entry into DIM (R348): AUXILIARY switches with SHED_ON_DIM are off, with EVT_LSW_SHED once per episode. -/
def Dev.lswDim (d : Dev) (now : Nat) : Dev :=
  let ns := (List.range 16).filter d.lswSheds
  let d := d.each ns (fun d n => (d.modLsw n (fun c => { c with shed := true })).lswApply now now n)
  if ns.isEmpty then d else d.shedEvent now

/-- The module has given up or not yet taken the master role (R350, R444): its dual-fed switches and those with a point are
off; they are driven again from the next commit. -/
def Dev.lswRole (d : Dev) (now : Nat) : Dev :=
  d.each (List.range 16) (fun d n =>
    if d.lswStandby n || d.lswIdle n then
      (d.modLsw n (fun c => { c with dualOff := c.dualOff || d.lswStandby n, idle := c.idle || d.lswIdle n })).lswApply now now n
    else d)

/-- The stored snuff state governs switch `n` from now on (R353). -/
def Dev.lswSnuffSet (d : Dev) (n : Nat) : Dev :=
  let w := d.lswWant n
  d.modLsw n (fun c => { c with last := if c.snuff.isSome || c.holdEnd.isSome then c.last else w,
                                snuff := some (d.rd (WDG.SNUFF_STATE (32 + n))), holdEnd := none })

/-- Switch `n` takes its stored snuff state (R353). -/
def Dev.lswSnuff (d : Dev) (now n : Nat) : Dev := (d.lswSnuffSet n).lswApply now now n

/-- A logic-die reset (R360): switch `n` continues for its HOLD_WINDOW. -/
def Dev.lswHold (d : Dev) (now n : Nat) : Dev :=
  let w := d.lswWant n
  (d.modLsw n (fun c => { c with last := if c.snuff.isSome || c.holdEnd.isSome then c.last else w,
                                 holdEnd := some (now + ms (min 100 (d.rd (LSW.HOLD_WINDOW n)))) })).lswShow now n

/-- The end of the hold window of switch `n` (R360). -/
def Dev.lswHoldEnd (d : Dev) (now n : Nat) : Dev :=
  match (d.lswCh n).holdEnd with
  | some e => if e ≤ now && d.pwr.stage != .none then d.lswSnuff now n else d
  | none => d

/-- Whether on-state diagnostics of switch `n` are reported: it is on, and no logic-die reset runs (R346, R360). -/
def Dev.lswJudged (d : Dev) (n : Nat) : Bool := d.driving && d.pwr.stage == .none && (d.lswCh n).drv

/-- An off-state test of switch `n` that finds `mv` at its output (Table 10.7). -/
def Dev.lswOffTest (d : Dev) (now n mv : Nat) : Dev :=
  let c := d.lswCh n
  let free := c.cmds.all (fun k => decide (k.dt ≤ now) || decide (now + us 200 ≤ k.dt) || !k.on)
  let due := match c.testAt with | none => true | some t => decide (t + ms 10 ≤ now)
  if !c.drv && c.waitFrom.isNone && d.on (LSW.OFF_DIAG_EN n) && free && due then
    let d := d.modLsw n (fun c => { c with testAt := some now })
    if mv < 1000 then d.wr (LSW.DIAG_OFF n) 1
    else if 2000 ≤ mv && mv ≤ 4000 then d.wr (LSW.DIAG_OFF n) 2
    else if 5000 < mv then
      (if d.on (LSW.DUAL_FED n) then d.wr (LSW.DIAG_OFF n) 4 else (d.wr (LSW.DIAG_OFF n) 3).lswFault now n 3)
    else d.wr (LSW.DIAG_OFF n) 5
  else d

/-! ### Commands -/

/-- LSW_SWITCH_ON, R333: a command of a switch is due. -/
def execLswSwitchOn (el : Nat) (ch : Fin 16) (s : State) : Host.Outcome State Fault Refusal :=
  s.run el (fun now d => if d.driving then d.lswRun now ch.val else d)

/-- LSW_SWITCH_OFF, R336: a command of a switch is due. -/
def execLswSwitchOff (el : Nat) (ch : Fin 16) (s : State) : Host.Outcome State Fault Refusal :=
  s.run el (fun now d => if d.driving then d.lswRun now ch.val else d)

/-- LSW_ADMIT_TIMEOUT, R333: the waiting switch-ons of the bank of a switch are judged again. -/
def execLswAdmitTimeout (el : Nat) (ch : Fin 16) (s : State) : Host.Outcome State Fault Refusal :=
  s.run el (fun now d => if d.driving then d.lswAdmit now (lswBank ch.val) else d)

/-- INRUSH_END, R339: the inrush of a switch has reached its end. -/
def execInrushEnd (el : Nat) (ch : Fin 16) (s : State) : Host.Outcome State Fault Refusal :=
  s.run el (fun now d =>
    let n := ch.val
    if d.driving && (d.lswCh n).inr && decide ((d.lswCh n).onAt + d.lswInrush n ≤ now) then
      (d.inrushOver now n).lswAdmit now (lswBank n)
    else d)

/-- BANK_PEAK, R334: the currents of the four switches of a bank, mA, in the order of Table 10.2, and the cycles for which their sum has
lain above 16,000 mA. -/
def execBankPeak (el : Nat) (bank : Fin 4) (i0 i1 i2 i3 : BitVec 16) (held : Nat) (s : State) : Host.Outcome State Fault Refusal :=
  s.run el (fun now d => if d.driving then
    (d.bankMeas now bank.val [i0.toNat, i1.toNat, i2.toNat, i3.toNat]).bankPeak now bank.val held else d)

/-- BANK_OVERLOAD, R334: the currents of the four switches of a bank, mA, and the cycles for which their sum has lain above 16,000 mA. -/
def execBankOverload (el : Nat) (bank : Fin 4) (i0 i1 i2 i3 : BitVec 16) (held : Nat) (s : State) : Host.Outcome State Fault Refusal :=
  s.run el (fun now d => if d.driving then
    (d.bankMeas now bank.val [i0.toNat, i1.toNat, i2.toNat, i3.toNat]).bankOverload now bank.val held else d)

/-- REVERSE_BLOCK, R335: the output of a switch lies `mv` mV above its supply pin; more than 200 mV opens a switch that is on, and less closes
it again. -/
def execReverseBlock (el : Nat) (ch : Fin 16) (mv : BitVec 16) (s : State) : Host.Outcome State Fault Refusal :=
  s.run el (fun _ d =>
    let above := decide (200 < mv.toInt)
    if d.driving && (d.lswCh ch.val).drv && (d.lswCh ch.val).rev != above then
      (let d := d.modLsw ch.val (fun c => { c with rev := above })
       if above then d.bump LSB.REVERSE_CNT else d)
    else d)

/-- LSW_OVERLOAD, R341: a switch carries `i` mA and has stayed in its limit for `held` cycles; OVL_TIME in limit after its inrush turns it off. -/
def execLswOverload (el : Nat) (ch : Fin 16) (i : BitVec 16) (held : Nat) (s : State) : Host.Outcome State Fault Refusal :=
  s.run el (fun now d =>
    let n := ch.val
    let t := ms (max 1 (d.rd (LSW.OVL_TIME n)))
    if d.driving && (d.lswCh n).drv && !(d.lswCh n).inr && decide (d.lswLimit now n ≤ i.toNat) && decide (t ≤ held) &&
        decide ((d.lswCh n).inrEnd + t ≤ now) then
      (d.wr (LSW.I_MEAS n) i.toNat).lswThermal now n 4 false
    else d)

/-- THERMAL_SHUTDOWN, R342: a channel measures `temp` °C; at 175 °C its switch shuts down. -/
def execThermalShutdown (el : Nat) (ch : Fin 16) (temp : BitVec 10) (s : State) : Host.Outcome State Fault Refusal :=
  s.run el (fun now d =>
    if d.driving then
      let d := d.wrS (LSW.CH_TEMP ch.val) temp.toInt
      if decide (175 ≤ temp.toInt) && (d.lswCh ch.val).drv then d.lswThermal now ch.val 5 true else d
    else d)

/-- COOL_RESTART, R344: a channel measures `temp` °C; 15 K below the shutdown level the temperature permits a restart. -/
def execCoolRestart (el : Nat) (ch : Fin 16) (temp : BitVec 10) (s : State) : Host.Outcome State Fault Refusal :=
  s.run el (fun now d =>
    if d.driving then
      let d := d.wrS (LSW.CH_TEMP ch.val) temp.toInt
      if decide (temp.toInt ≤ 160) && (d.lswCh ch.val).hot then d.lswCool now ch.val else d
    else d)

/-- LSW_FLT_CLR, R345: a write of FLT_CLR. -/
def execLswFltClr (el : Nat) (ch : Fin 16) (s : State) : Host.Outcome State Fault Refusal :=
  s.run el (fun now d => if d.hif.inService then d.lswFltClr now ch.val else d)

/-- LSW_OPEN, R346: at most `i` mA flow through a switch that is on, for `held` cycles; below OL_ON_MA for 10 ms after inrush is OPEN. -/
def execLswOpen (el : Nat) (ch : Fin 16) (i : BitVec 16) (held : Nat) (s : State) : Host.Outcome State Fault Refusal :=
  s.run el (fun now d =>
    let n := ch.val
    if d.lswJudged n && !(d.lswCh n).inr && decide (i.toNat < d.rd (LSW.OL_ON_MA n)) && decide (ms 10 ≤ held) && decide ((d.lswCh n).inrEnd + ms 10 ≤ now) then
      (((d.wr (LSW.I_MEAS n) i.toNat).lswFault now n 1).lswShow now n).covNoLoad n now
    else d)

/-- LSW_SC_GND, R346: a switch carries `i` mA with its output at `mv` mV for `held` cycles; in current limit below 2.0 V for 1 ms is SC_GND. -/
def execLswScGnd (el : Nat) (ch : Fin 16) (i mv : BitVec 16) (held : Nat) (s : State) : Host.Outcome State Fault Refusal :=
  s.run el (fun now d => if d.lswJudged ch.val && decide (d.lswLimit now ch.val ≤ i.toNat) && decide (mv.toNat < 2000) && decide (ms 1 ≤ held) then
    (((d.wr (LSW.I_MEAS ch.val) i.toNat).lswFault now ch.val 2).lswShow now ch.val).covLoad ch.val now false else d)

/-- LSW_OFF_TEST, R347: an off-state test finds `mv` millivolts at the output. -/
def execLswOffTest (el : Nat) (ch : Fin 16) (mv : BitVec 16) (s : State) : Host.Outcome State Fault Refusal :=
  s.run el (fun now d => if d.driving && d.pwr.stage == .none then d.lswOffTest now ch.val mv.toNat else d)

/-- HOLD_WINDOW_END, R328 and R360: the hold window of an IDC channel (0 to 31) or a load switch (32 to 47) ends. -/
def execHoldWindowEnd (el : Nat) (out : Fin 48) (s : State) : Host.Outcome State Fault Refusal :=
  s.run el (fun now d => if out.val < 32 then d.idcHoldEnd now out.val else d.lswHoldEnd now (out.val - 32))

end Sys2Proof.Machine
end

