-- ==== Sys2Proof/Machine/Wdg.lean ====
section
/-! DEFINITION. Snuff paths (R352 to R356), the serial watchdog (R357 to R359) and their commands. -/

namespace Sys2Proof.Machine

/-- Base address of the WDG page. -/
def wdgPage : Nat := 0x003000

/-! ### Snuff paths (R353 to R355) -/

/-- The end of the time up to which a snuff pulse grid is laid out. -/
def Dev.snuffUntil (d : Dev) (now : Nat) : Nat := if now < d.dec.winClose then d.dec.winClose else now + ms 100

/-- Every driven output takes its stored snuff state (R327, R353, R375). -/
def Dev.outputsSnuff (d : Dev) (now : Nat) : Dev :=
  if d.driving then
    let d := d.each (List.range 32) (fun d c => if d.rd (WDG.SNUFF_STATE c) = 0 then d.cancelStart now c else d)
    let d := d.each (List.range 32) (fun d c => d.idcSnuff now c (d.snuffUntil now))
    let d := d.each (List.range 16) (fun d n => d.lswSnuffSet n)
    let d := d.each (List.range 16) (fun d n => d.lswApply now now n)
    d.pwmSnuffSet now true
  else d

/-- Brings SNUFF_ACT and the outputs in line with the snuff paths: at the start of a path every output takes its snuff state
(R355), DEC commits every point off (R161) and the nodes are told (R416); at the end of the last path the nodes are
resynchronised and every point opens its next window off. -/
def Dev.pathSync (d : Dev) (now : Nat) : Dev :=
  let want := d.wdg.safePath || d.wdg.wdgPath || d.pwr.st == .snuffed
  if want && !d.on WDG.SNUFF_ACT then ((d.wr WDG.SNUFF_ACT 1).outputsSnuff now).vnpSnuff true
  else if !want && d.on WDG.SNUFF_ACT then
    let d := (d.wr WDG.SNUFF_ACT 0).pwmSnuffSet now (d.pwr.outHold == .snuff)
    let d := (d.vnpSnuff false).vnpResyncAll
    { d with dec := { d.dec with openOff := true } }
  else d

/-! ### SAFE_N (R355, R356) -/

/-- SAFE_N is asserted (R355). -/
def Dev.safeAssert (d : Dev) (now : Nat) : Dev :=
  if d.on WDG.SAFE_LEVEL then d
  else
    let d := ((d.wr WDG.SAFE_LEVEL 1).wr WDG.SAFE_LATCHED 1).bump WDG.SAFE_CNT
    let d := ({ d with wdg := { d.wdg with safePath := true } }).pathSync now
    d.fire now EVT.WDG_SAFE 0 0

/-- The SAFE_N path ends (R356). -/
def Dev.safeEnd (d : Dev) (now : Nat) : Dev := ({ d with wdg := { d.wdg with safePath := false } }.wr WDG.SAFE_LATCHED 0).pathSync now

/-- Whether the SAFE_N path ends as under AUTO (R356). -/
def Dev.safeAuto (d : Dev) : Bool := d.rd WDG.SAFE_RELEASE == 0 || d.pwr.mode != .host

/-- The path's end under AUTO, once SAFE_N has been high for 10 ms (R356). -/
def Dev.safeAutoCheck (d : Dev) (now : Nat) : Dev :=
  if d.wdg.safePath && d.safeAuto && !d.on WDG.SAFE_LEVEL && decide (d.wdg.highAt + ms 10 ≤ now) then d.safeEnd now else d

/-- SAFE_N returns high (R356). -/
def Dev.safeRise (d : Dev) (now : Nat) : Dev :=
  if d.on WDG.SAFE_LEVEL then { d with wdg := { d.wdg with highAt := now } }.wr WDG.SAFE_LEVEL 0 else d

/-- SAFE_CLR written (R356). -/
def Dev.safeClr (d : Dev) (now : Nat) : Dev :=
  if d.wdg.safePath && !d.safeAuto && !d.on WDG.SAFE_LEVEL then d.safeEnd now else d

/-! ### The watchdog (R357 to R359) -/

/-- A new CHALLENGE (R358): a free value, never 0 and never the previous one. -/
def Dev.newChallenge (d : Dev) : Dev :=
  let prev := d.rd WDG.CHALLENGE
  let r := d.draw 16
  let c := if prev = 0 then 1 + r.1 % 65535 else (let x := 1 + r.1 % 65534; if x < prev then x else x + 1)
  r.2.wr WDG.CHALLENGE c

/-- RESPONSE that is correct for the challenge in force (R358). -/
def Dev.wdgAnswer (d : Dev) : Nat := crc16 (bytesLE 2 (d.rd WDG.CHALLENGE) ++ bytesLE 2 (d.rd WDG.WDG_KEY))

/-- Cycles from the last accepted response to the opening and to the close of the window (R358, Table 10.13). -/
def Dev.wdgOpen (d : Dev) : Nat := ms (d.rd WDG.WIN_OPEN)
/-- Cycles to the close of the window. -/
def Dev.wdgClose (d : Dev) : Nat := ms (max (d.rd WDG.WIN_CLOSE) (d.rd WDG.WIN_OPEN + 5))

/-- The window starts afresh at `now`. -/
def Dev.wdgWindow (d : Dev) (now : Nat) (first : Bool) : Dev := { d with wdg := { d.wdg with from_ := now, first := first } }

/-- The watchdog is armed (R357). -/
def Dev.wdgArm (d : Dev) (now : Nat) : Dev := ((d.wr WDG.WDG_ARMED 1).newChallenge).wdgWindow now true

/-- The watchdog expires (R359). -/
def Dev.wdgExpire (d : Dev) (now : Nat) : Dev :=
  let d := ((d.wr WDG.WDG_EXP 1).bump WDG.WDG_EXP_CNT).newChallenge
  let d := ({ d with wdg := { d.wdg with wdgPath := true } }).pathSync now
  d.fire now EVT.WDG_EXPIRED 0 0

/-- No response came by the close of the window (R358). -/
def Dev.wdgLate (d : Dev) (now : Nat) : Dev :=
  if d.on WDG.WDG_ARMED && !d.on WDG.WDG_EXP && decide (d.wdg.from_ + d.wdgClose ≤ now) then (d.wr WDG.LAST_ERR 3).wdgExpire now else d

/-- The watchdog path ends (R359). -/
def Dev.wdgPathEnd (d : Dev) (now : Nat) : Dev := ({ d with wdg := { d.wdg with wdgPath := false } }.wr WDG.WDG_EXP 0).pathSync now

/-- The watchdog is disarmed: WDG_EN clears, and an active path ends (R357, R359). -/
def Dev.wdgDisarm (d : Dev) (now : Nat) : Dev :=
  let d := (d.wr WDG.WDG_EN 0).wr WDG.WDG_ARMED 0
  if d.wdg.wdgPath then d.wdgPathEnd now else d

/-- WDG_EN written (R357): it arms the watchdog in HOST mode. -/
def Dev.wdgEnWrite (d : Dev) (now : Nat) (b : Bool) : Dev :=
  if !b then d.wdgDisarm now
  else
    let d := d.wr WDG.WDG_EN 1
    if d.pwr.mode == .host && !d.on WDG.WDG_ARMED then d.wdgArm now else d

/-- RESPONSE written (R358, R359). -/
def Dev.wdgResponse (d : Dev) (now v : Nat) : Dev :=
  if !d.on WDG.WDG_ARMED then d
  else
    let d := d.wdgLate now
    let ok := v % 65536 == d.wdgAnswer
    let early := !d.on WDG.WDG_EXP && !d.wdg.first && decide (now < d.wdg.from_ + d.wdgOpen)
    if ok && d.on WDG.WDG_EXP then (((d.wr WDG.ERR_CNT 0).newChallenge).wdgWindow now false).wdgPathEnd now
    else if ok && !early then ((d.wr WDG.ERR_CNT (d.rd WDG.ERR_CNT - 1)).newChallenge).wdgWindow now false
    else
      let kind := if ok then 1 else 2
      let d := ((d.bump WDG.ERR_CNT).wr WDG.LAST_ERR kind).fire now EVT.WDG_ERROR 0 kind
      if !d.on WDG.WDG_EXP && decide (max 1 (d.rd WDG.ERR_LIMIT) ≤ d.rd WDG.ERR_CNT) then d.wdgExpire now else d

/-! ### The snuff table (R352) -/

/-- The fields of snuff entry `i`. -/
def snuffFields (i : Nat) : List Field := [WDG.SNUFF_STATE i, WDG.SNUFF_DUTY i, WDG.SNUFF_FREQ i]

/-- A write to the word of snuff entry `i`: ignored while SNUFF_LOCK is set (R352, Table 16.3). While a snuff path is active the die's
new copy governs the output at once. -/
def Dev.snuffWrite (d : Dev) (now i w : Nat) : Dev :=
  if d.cntVal 9 != 0 then d
  else
    let d := if 48 ≤ i then d.pwmSyncAll now else d
    let old := (snuffFields i).map d.rd
    let d := (snuffFields i).foldl (fun d f => d.wr f (bitsOf w f.lo f.width)) d
    let new := (snuffFields i).map d.rd
    if !d.on WDG.SNUFF_ACT || !d.driving || old == new || (old.head? == new.head? && new.head? != some 3) then d
    else if i < 32 then d.idcSnuff now i (d.snuffUntil now)
    else if i < 48 then d.lswSnuff now (i - 32)
    else d.modPwm (i - 48) (fun o => { o with edgeAt := some now })

/-- SNUFF_STORE written (R352): the table goes into the valid image, whose CRC-32 is computed again. -/
def Dev.snuffStore (d : Dev) : Dev :=
  if d.cntVal 9 != 0 then d
  else match d.mram.image, d.on PWR.CFG_VALID with
  | some img, true =>
    let fs := (List.range 60).foldl (fun m i => (snuffFields i).foldl (fun m f => kput f.reset m f.key (d.rd f)) m) img.fields
    { d with mram := { d.mram with image := some { img with fields := fs }.sealed } }.wr WDG.SNUFF_NOIMG 0
  | _, _ => d.wr WDG.SNUFF_NOIMG 1

/-! ### Commands -/

/-- SNUFF_TABLE_WRITE, R352: a write of snuff entry `i`, on the unlocked page. -/
def execSnuffTableWrite (el : Nat) (i : Fin 60) (w : Word) (s : State) : Host.Outcome State Fault Refusal :=
  s.run el (fun now d => if d.hif.inService && d.unlocked now wdgPage then d.snuffWrite now i.val w.toNat else d)

/-- SNUFF_STORE, R352: a write of 1 to SNUFF_STORE. -/
def execSnuffStore (el : Nat) (s : State) : Host.Outcome State Fault Refusal :=
  s.run el (fun _ d => if d.hif.inService then d.snuffStore else d)

/-- SAFE_N_ASSERT, R355: SAFE_N falls and its filter passes. -/
def execSafeNAssert (el : Nat) (s : State) : Host.Outcome State Fault Refusal :=
  s.run el (fun now d => if d.pwr.st = .off then d else d.safeAssert now)

/-- SAFE_N_AUTO_RELEASE, R356: SAFE_N has been high for 10 ms. -/
def execSafeNAutoRelease (el : Nat) (s : State) : Host.Outcome State Fault Refusal :=
  s.run el (fun now d => if d.pwr.st = .off then d else d.safeAutoCheck now)

/-- SAFE_N_RISE, R356: SAFE_N returns high. -/
def execSafeNRise (el : Nat) (s : State) : Host.Outcome State Fault Refusal :=
  s.run el (fun now d => if d.pwr.st = .off then d else d.safeRise now)

/-- SAFE_CLR, R356: a write of 1 to SAFE_CLR. -/
def execSafeClr (el : Nat) (s : State) : Host.Outcome State Fault Refusal :=
  s.run el (fun now d => if d.hif.inService then d.safeClr now else d)

/-- WDG_EN, R357: a write of WDG_EN, on the unlocked page. -/
def execWdgEn (el : Nat) (en : Bool) (s : State) : Host.Outcome State Fault Refusal :=
  s.run el (fun now d => if d.hif.inService && d.unlocked now wdgPage then d.wdgEnWrite now en else d)

/-- RESPONSE, R358: a write of RESPONSE. -/
def execResponse (el : Nat) (v : BitVec 16) (s : State) : Host.Outcome State Fault Refusal :=
  s.run el (fun now d => if d.hif.inService then d.wdgResponse now v.toNat else d)

/-- WATCHDOG_EXPIRED, R359: the window has closed without a response. -/
def execWatchdogExpired (el : Nat) (s : State) : Host.Outcome State Fault Refusal :=
  s.run el (fun now d => if d.alive && d.pwr.st != .ember then d.wdgLate now else d)

end Sys2Proof.Machine
end

