-- ==== Sys2Proof/Machine/Fbk.lean ====
section
/-! DEFINITION. Motion feedback and switch inputs (R380 to R390, R393, R394): counting, speed, index, serial position, the
inputs, PLAIN mode's speed and gate, and the commands of these blocks. -/

namespace Sys2Proof.Machine

/-- Channel `n` beside its registers. -/
def Dev.fbkCh (d : Dev) (n : Nat) : FbkCh := tget d.fbk n

/-- Changes channel `n`. -/
def Dev.modFbk (d : Dev) (n : Nat) (f : FbkCh → FbkCh) : Dev := { d with fbk := tmod d.fbk n f }

/-- Whether PLAIN mode governs channel `n` (R389). -/
def Dev.fbkPlain (d : Dev) (n : Nat) : Bool := d.pwr.mode == .plain && n == 0

/-- MODE in force (R389, R459). -/
def Dev.fbkMode (d : Dev) (n : Nat) : Nat :=
  if d.fbkPlain n then 2 else if d.pgEn (0x050000 + 0x1000 * n) then d.rd (FBK.MODE n) else 0

/-- WIN_MS in force. -/
def Dev.fbkWin (d : Dev) (n : Nat) : Nat := if d.fbkPlain n then 200 else d.rdH 1 1000 (FBK.WIN_MS n)

/-- POS of channel `n`. -/
def Dev.fbkPos (d : Dev) (n : Nat) : Int := d.rdS (FBK.POS n)

/-- Sets POS, which wraps (R380). -/
def Dev.setPos (d : Dev) (n : Nat) (p : Int) : Dev := d.wr (FBK.POS n) (ofS 32 p)

/-! ### Counting (R380, Table 11.3) -/

/-- The count of an edge of pin A or B (`pinB`) after which the levels are `a` and `b`. -/
def Dev.fbkCount (d : Dev) (n : Nat) (pinB a b : Bool) : Int :=
  let c : Int := match d.fbkMode n with
    | 1 => if pinB == (a == b) then 1 else -1
    | 2 =>
      let sel := if d.fbkPlain n then 0 else d.rd (FBK.EDGE_SEL n)
      if pinB || (sel = 1 && a) || (sel ≠ 1 && sel ≠ 2 && !a) then 0
      else if d.on (FBK.DIR_B n) && b then -1 else 1
    | _ => 0
  if d.on (FBK.INV n) then -c else c

/-- The FREQ window and the edge history restart (R380, R390). -/
def Dev.fbkRestart (d : Dev) (now n : Nat) : Dev := d.modFbk n (fun c => { c with edges := [], e1 := none, e2 := none, winFrom := now, words := [] })

/-- A mismatch (R384, R385): counted, SUSPECT at the third in a row. -/
def Dev.idxMismatch (d : Dev) (now n : Nat) : Dev :=
  let d := d.modFbk n (fun c => { c with goodRun := 0 })
  let run := min 3 (d.rd (FBK.MISS_RUN n) + 1)
  let d := ((d.wr (FBK.MISS_RUN n) run).bump (FBK.IDX_MISMATCH_CNT n)).fire now EVT.FBK_INDEX_MISMATCH n 0
  if run = 3 && !d.on (FBK.SUSPECT n) then (d.wr (FBK.SUSPECT n) 1).fire now EVT.FBK_SUSPECT n 1 else d

/-- A travel of more than IDX_PERIOD + IDX_TOL since the last index (R384). -/
def Dev.idxTravel (d : Dev) (now n : Nat) : Dev :=
  match (d.fbkCh n).lastIdxPos with
  | none => d
  | some p =>
    if d.fbkMode n = 1 && d.on (FBK.IDX_EN n) && d.rd (FBK.IDX_PERIOD n) ≠ 0 &&
       decide (d.rd (FBK.IDX_PERIOD n) + d.rd (FBK.IDX_TOL n) < (clampS 33 (toS 32 (ofS 32 (d.fbkPos n - p)))).natAbs) then
      ((d.modFbk n (fun c => { c with lastIdxPos := none })).wr (FBK.IDX_MISSING n) 1).idxMismatch now n
    else d

/-- An edge of pin A or B of channel `n` (R380). -/
def Dev.fbkEdge (d : Dev) (now n : Nat) (pinB a b : Bool) : Dev :=
  let c := d.fbkCount n pinB a b
  if c = 0 then d
  else
    let d := d.setPos n (d.fbkPos n + c)
    let d := d.modFbk n (fun x => { x with edges := (now, c) :: x.edges, e2 := x.e1, e1 := some now, e1Neg := decide (c < 0) })
    let d := d.wr2 (FBK.LAST_EDGE_DT_LO n) (FBK.LAST_EDGE_DT_HI n) (nsOf now)
    let d := d.each (List.range 8) (fun d p =>
      if d.ticking && d.loopEnabled p && d.rd (RATE.FB_FBK p) == n && (d.loopOf p).lostAt.isSome then d.fbCheck now now p (some now) else d)
    d.idxTravel now n

/-! ### Speed at T0 (R382, R383) -/

/-- Sets a field in the register file and in the T0 latch. -/
def Dev.wrT0 (d : Dev) (f : Field) (v : Nat) : Dev := { d.wr f v with t0 := kput f.reset d.t0 f.key (v % 2 ^ f.width) }

/-- FREQ, FREQ_DT and METHOD of a channel. -/
def Dev.fbkShow (d : Dev) (n : Nat) (freq : Int) (dt method : Nat) : Dev :=
  let ns := nsOf dt
  (((d.wrT0 (FBK.FREQ n) (satS 32 freq)).wr (FBK.FREQ_DT_LO n) (ns % 2 ^ 32)).wr (FBK.FREQ_DT_HI n) (ns / 2 ^ 32)).wr (FBK.METHOD n) method

/-- FREQ of a counting channel over the window that ends at the edge `e` (R382); the window method needs a full window
(log entry 12). -/
def Dev.fbkSpeed (d : Dev) (e n : Nat) : Dev :=
  let c : FbkCh := tget d.t0Fbk n
  let win := ms (d.fbkWin n)
  let quad := d.fbkMode n == 1
  let inWin := c.edges.filter (fun x => decide (e < x.1 + win) && decide (x.1 ≤ e))
  let total : Int := if quad then (inWin.map (·.2)).sum else inWin.length
  match c.e1 with
  | none => d.fbkShow n 0 e 2
  | some l =>
    if l + ms (max 1 (d.rd (FBK.ZERO_MS n))) ≤ e then d.fbkShow n 0 e 2
    else if max 1 (d.rd (FBK.PER_MIN_EDGES n)) ≤ inWin.length && decide (c.winFrom + win ≤ e) then
      d.fbkShow n (roundDiv (total * 1000000) (d.fbkWin n)) (e - win / 2) 0
    else match c.e2 with
      | none => d.fbkShow n 0 e 2
      | some q =>
        let gap := max 1 (max (l - q) (e - l))
        let f : Int := roundDiv 400000000000 gap
        d.fbkShow n (if quad && c.e1Neg then -f else f) (q + (l - q) / 2) 1

/-- FREQ of an SSI channel (R383): the change between the oldest and the newest good word of the window. -/
def Dev.ssiSpeed (d : Dev) (e n : Nat) : Dev :=
  let c : FbkCh := tget d.t0Fbk n
  let win := ms (d.fbkWin n)
  let ws := c.words.filter (fun x => decide (e < x.1 + win) && decide (x.1 ≤ e))
  match ws.head?, ws.getLast? with
  | some a, some b =>
    if b.1 < a.1 then
      let bits := d.rdH 8 32 (FBK.SSI_BITS n)
      let diff := toS bits (ofS bits ((a.2 : Int) - b.2))
      d.fbkShow n (roundDiv (diff * 400000000000) ((a.1 - b.1 : Nat) : Int)) (b.1 + (a.1 - b.1) / 2) 0
    else d.fbkShow n 0 e 2
  | _, _ => d.fbkShow n 0 e 2

/-- The T0 work of the feedback channels for the edge `e` (R380, R382); a channel that is suspect with SUSP_STALE set
delivers nothing (R385). -/
def Dev.fbkT0 (d : Dev) (e : Nat) : Dev :=
  d.each (List.range 8) (fun d n =>
    let d := d.modFbk n (fun c => { c with edges := c.edges.filter (fun x => decide (e < x.1 + ms 1000)),
                                           words := c.words.filter (fun x => decide (e < x.1 + ms 1000)) })
    let d := if d.fbkDelivers n then d.modFbk n (fun c => { c with sample := some e }) else d
    if d.rdT0 (FBK.SUSPECT n) == 1 && d.on (FBK.SUSP_STALE n) then { d with t0Fbk := tmod d.t0Fbk n (fun c => { c with e1 := none }) }
    else match d.fbkMode n with
      | 0 => d.fbkShow n 0 e 2
      | 3 => d.ssiSpeed e n
      | _ => d.fbkSpeed e n)

/-- The speed and the gate of PLAIN mode at T0 (R389): 100 pulses to the metre, closed below 0.5 km/h, open again at
0.6 km/h. -/
def Dev.plainT0 (d : Dev) : Dev :=
  if d.pwr.mode = .plain then
    let f := (toS 32 (d.rdT0 (FBK.FREQ 0))).natAbs
    let gate := if d.on GIN.PLAIN_GATE then decide (500000 ≤ 36 * f) else decide (600000 ≤ 36 * f)
    (d.wr GIN.PLAIN_SPEED (min 65535 (f / 100))).wrB GIN.PLAIN_GATE gate
  else d

/-- The commit's part for the feedback channels (R380): a change of MODE, EDGE_SEL, DIR_B or INV in `adm` restarts the
window; a change of MODE enables the channel anew. -/
def Dev.fbkCommit (d : Dev) (now : Nat) (adm : KMap) : Dev :=
  d.each (List.range 8) (fun d n =>
    let chg := fun (f : Field) => d.cand adm f != d.rd f
    if chg (FBK.MODE n) then ((d.fbkRestart now n).modFbk n (fun c => { c with homed := false, lastIdxPos := none })).wr (FBK.IDX_SYNC n) 0
    else if chg (FBK.EDGE_SEL n) || chg (FBK.DIR_B n) || chg (FBK.INV n) then d.fbkRestart now n
    else d)

/-! ### Index (R384) -/

/-- A rising edge of the index input. -/
def Dev.indexPulse (d : Dev) (now n : Nat) : Dev :=
  if d.fbkMode n = 1 && d.on (FBK.IDX_EN n) then
    let zero := d.rdS (FBK.IDX_POS n)
    let seen := fun (d : Dev) => d.modFbk n (fun c => { c with lastIdxPos := some (d.fbkPos n), homed := true })
    if d.on (FBK.IDX_HOME n) && !(d.fbkCh n).homed then seen ((d.setPos n zero).wr (FBK.IDX_SYNC n) 1)
    else
      let per := d.rd (FBK.IDX_PERIOD n)
      if per = 0 then seen d
      else
        let cap := d.fbkPos n
        let r := (cap - zero) % (per : Int)
        let err := if 2 * r ≤ per then r else r - per
        if err.natAbs ≤ d.rd (FBK.IDX_TOL n) then
          let d := (d.wr (FBK.MISS_RUN n) 0).modFbk n (fun c => { c with goodRun := c.goodRun + 1 })
          seen (if 8 ≤ (d.fbkCh n).goodRun then d.wr (FBK.SUSPECT n) 0 else d)
        else
          let d := ((d.wr (FBK.IDX_CAPT n) (ofS 32 cap)).wr (FBK.IDX_ERR n) (ofS 32 err)).idxMismatch now n
          seen (match d.rd (FBK.IDX_POLICY n) with
            | 1 => d.setPos n (cap - err)
            | 2 => d.setPos n zero
            | _ => d)
  else d

/-- POS_LOAD written (R381). -/
def Dev.posLoad (d : Dev) (n : Nat) : Dev :=
  let v := d.rdS (FBK.POS_VAL n)
  let old := d.fbkPos n
  (d.setPos n v).modFbk n (fun c => { c with lastIdxPos := c.lastIdxPos.map (fun p => p + v - old) })

/-- FBK_CLR written (Table 11.7). -/
def Dev.fbkClr (d : Dev) (n : Nat) : Dev := ((d.wr (FBK.SUSPECT n) 0).wr (FBK.MISS_RUN n) 0).wr (FBK.IDX_MISSING n) 0

/-! ### Synchronous serial position (R386, R387) -/

/-- A rejected word (R387): 1 CRC, 2 ERR_BIT, 3 TIMEOUT, 4 BUSY. -/
def Dev.ssiReject (d : Dev) (now n code : Nat) : Dev :=
  let d := (d.bump (FBK.SSI_ERR_CNT n)).wr (FBK.SSI_ERR_LAST n) code
  if secPassed (d.fbkCh n).errEvt now then (d.modFbk n (fun c => { c with errEvt := some now })).fire now EVT.FBK_SSI_ERR n code else d

/-- The check of R386 over `bits` bits of `v`, most significant first, initial value 0. -/
def ssiCrc (w poly : Nat) : Nat → Nat → Nat
  | 0, _ => 0
  | bits + 1, v => crcBit w poly (ssiCrc w poly bits (v / 2)) (v % 2 == 1)

/-- The number whose Gray code of `w` bits is `g`. -/
def grayDecode : Nat → Nat → Nat
  | 0, _ => 0
  | w + 1, g => let r := grayDecode w (g / 2); 2 * r + (g % 2 + r) % 2

/-- The one transfer for a tick edge starts (R386), SSI_LEAD before it at the earliest: with the data line low it is not run. -/
def Dev.ssiStart (d : Dev) (now n : Nat) (low : Bool) : Dev :=
  let e := d.nextEdge
  if d.fbkMode n = 3 && d.sys.gridOn && decide (e ≤ now + us (d.rd (FBK.SSI_LEAD n))) && (d.fbkCh n).ssiEdge != some e then
    let d := d.modFbk n (fun c => { c with ssiEdge := some e })
    if low then d.ssiReject now n 4 else d.modFbk n (fun c => { c with ssiRun := some now })
  else d

/-- The bits of a transfer on channel `n` (R386): data, error bit and check. -/
def Dev.ssiLen (d : Dev) (n : Nat) : Nat := d.rdH 8 32 (FBK.SSI_BITS n) + d.rd (FBK.SSI_ERR_EN n) + min 8 (d.rd (FBK.SSI_CRC_W n))

/-- Cycles of one clock of a transfer: SSI_CLK × 10 kHz, from 100 kHz to 2 MHz (R386). -/
def Dev.ssiClk (d : Dev) (n : Nat) : Nat := 40000 / d.rdH 10 200 (FBK.SSI_CLK n)

/-- A transfer whose last bit has been clocked in ends with the bits `raw`, the last one lowest, and the data line high `high` cycles after
the last clock (R386, R387). -/
def Dev.ssiWord (d : Dev) (now n raw high : Nat) : Dev :=
  match (d.fbkCh n).ssiRun with
  | none => d
  | some t =>
    if now < t + d.ssiLen n * d.ssiClk n then d else
    let late := decide (us (max 1 (d.rd (FBK.SSI_TMO n))) < high)
    let d := d.modFbk n (fun c => { c with ssiRun := none })
    let bits := d.rdH 8 32 (FBK.SSI_BITS n)
    let w := min 8 (d.rd (FBK.SSI_CRC_W n))
    let e := d.rd (FBK.SSI_ERR_EN n)
    let body := bitsOf raw w (bits + e)
    let crc := ssiCrc w (d.rd (FBK.SSI_CRC_POLY n)) (bits + e) body
    let want := if d.on (FBK.SSI_CRC_INV n) then 2 ^ w - 1 - crc else crc
    let data := body / 2 ^ e % 2 ^ bits
    if 0 < w && raw % 2 ^ w ≠ want then d.ssiReject now n 1
    else if e = 1 && body % 2 = d.rd (FBK.SSI_ERR_POL n) then d.ssiReject now n 2
    else if late then d.ssiReject now n 3
    else
      let pos := if d.on (FBK.SSI_GRAY n) then grayDecode bits data else data
      (d.wr (FBK.POS n) pos).modFbk n (fun c => { c with words := (t, pos) :: c.words, lastGood := some t })

/-! ### Switch inputs (R388) -/

/-- An accepted change of input `i`. -/
def Dev.ginAccept (d : Dev) (now i : Nat) (level : Bool) : Dev :=
  if bitOf (d.rd GIN.GIN_STATE) i == level then d
  else
    let d := d.wr GIN.GIN_STATE (setBitOf (d.rd GIN.GIN_STATE) i level)
    let d := d.wr GIN.GIN_CHG (setBitOf (d.rd GIN.GIN_CHG) i true)
    if bitOf (d.rd GIN.GIN_EVT_EN) i && d.alive then d.fire now EVT.GIN_CHANGE i (b2n level) else d

/-! ### Commands -/

/-- Whether a level that has stood for `held` cycles passes the filter of the pins of channel `n` (R380): GLITCH × 50 ns. -/
def Dev.fbkPasses (d : Dev) (n held : Nat) : Bool := decide (20 * d.rd (FBK.GLITCH n) ≤ held)

/-- FBK_EDGE, R380: an edge of pin A, or B where `pinB`, whose new level has stood for `held` cycles; `a` and `b` are the levels after it. -/
def execFbkEdge (el : Nat) (ch : Fin 8) (pinB a b : Bool) (held : Nat) (s : State) : Host.Outcome State Fault Refusal :=
  s.run el (fun now d => if d.pwr.st = .off || !d.fbkPasses ch.val held then d else d.fbkEdge now ch.val pinB a b)

/-- INDEX_PULSE, R384: a rising edge of the index input, whose new level has stood for `held` cycles. -/
def execIndexPulse (el : Nat) (ch : Fin 8) (held : Nat) (s : State) : Host.Outcome State Fault Refusal :=
  s.run el (fun now d => if d.pwr.st = .off || !d.fbkPasses ch.val held then d else d.indexPulse now ch.val)

/-- POS_LOAD, R381: a write of 1 to POS_LOAD. -/
def execPosLoad (el : Nat) (ch : Fin 8) (s : State) : Host.Outcome State Fault Refusal :=
  s.run el (fun _ d => if d.hif.inService then d.posLoad ch.val else d)

/-- FBK_CLR, R393: a write of 1 to FBK_CLR. -/
def execFbkClr (el : Nat) (ch : Fin 8) (s : State) : Host.Outcome State Fault Refusal :=
  s.run el (fun _ d => if d.hif.inService then d.fbkClr ch.val else d)

/-- SSI_TRANSFER, R386: the first clock edge of a transfer; `low` where the data line is low at the start. -/
def execSsiTransfer (el : Nat) (ch : Fin 8) (low : Bool) (s : State) : Host.Outcome State Fault Refusal :=
  s.run el (fun now d => if d.pwr.st = .off then d else d.ssiStart now ch.val low)

/-- SSI_WORD, R387: the bits of a transfer, and the cycles after the last clock at which the data line is high again. -/
def execSsiWord (el : Nat) (ch : Fin 8) (raw : BitVec 41) (high : Nat) (s : State) : Host.Outcome State Fault Refusal :=
  s.run el (fun now d => if d.pwr.st = .off then d else d.ssiWord now ch.val raw.toNat high)

end Sys2Proof.Machine
end

