-- ==== Sys2Proof/Machine/Ssp.lean ====
section
/-! DEFINITION. Sensor SPI ports (R200 to R205, R224): transactions, samples, staleness, validation, and the commands of the
ports. -/

namespace Sys2Proof.Machine

/-- Port `n` beside its registers. -/
def Dev.sspPort (d : Dev) (n : Nat) : SspPort := tget d.ssp n

/-- Changes port `n`. -/
def Dev.modSsp (d : Dev) (n : Nat) (f : SspPort → SspPort) : Dev := { d with ssp := tmod d.ssp n f }

/-- SSP_LAT of port `n` in cycles. -/
def Dev.sspLat (d : Dev) (n : Nat) : Nat := us (d.rd (SSP.SSP_LAT n))

/-- The transaction of port `n` that an event at `now` starts (R201), its sample captured at `cap`: SSPn_CS_N has been high for 1 µs, the
command bytes are those of SSP_CMD, low byte first, and RX_LEN_M1 + 1 bytes are read at 200 MHz / SCK_DIV. -/
def Dev.sspTxn (d : Dev) (now n cap : Nat) : SspTxn :=
  { cap := cap - d.sspLat n, start := max now ((d.sspPort n).csHigh + us 1), cmd := bytesLE (d.rd (SSP.CMD_LEN n)) (d.rd (SSP.SSP_CMD n)),
    rxLen := d.rd (SSP.RX_LEN_M1 n) + 1, mode3 := d.on (SSP.SPI_MODE n), div := max 20 (d.rd (SSP.SCK_DIV n)) }

/-- The instant at which the last data bit of a transaction is clocked in (R201): one SCK period is SCK_DIV × 5 ns. -/
def SspTxn.lastBit (x : SspTxn) : Nat := x.start + 8 * (x.cmd.length + x.rxLen) * (2 * x.div)

/-- A DRDY edge of the selected polarity (R202): accepted, or ignored and counted in OVERRATE. -/
def Dev.sspDrdy (d : Dev) (now n : Nat) : Dev :=
  let p := d.sspPort n
  if d.rd (SSP.ROLE n) = 0 || d.on (SSP.TRIG n) then d
  else if p.running.isSome || (match p.lastEdge with | some t => decide (now < t + us 240) | none => false) then d.bump (SSP.OVERRATE n)
  else d.modSsp n (fun p => { p with lastEdge := some now, running := some (d.sspTxn now n now) })

/-- The interval of PER_RATE in cycles (Table 06.12). -/
def perRateCycles (r : Nat) : Nat := us (4000 / 2 ^ min 4 r)

/-- A periodic start (R202): at T_epoch + k / PER_RATE, one for each k. -/
def Dev.sspPeriodic (d : Dev) (now n : Nat) : Dev :=
  let per := perRateCycles (d.rd (SSP.PER_RATE n))
  if d.rd (SSP.ROLE n) = 0 || !d.on (SSP.TRIG n) || !d.sys.gridOn || decide (now < d.sys.tEpoch) then d
  else
    let k := (now - d.sys.tEpoch) / per
    let start := d.sys.tEpoch + k * per
    if start < (d.sspPort n).nextPer || (d.sspPort n).running.isSome then d
    else d.modSsp n (fun p => { p with nextPer := start + per, running := some (let x := d.sspTxn start n start; { x with cap := x.start - d.sspLat n }) })

/-- The `len` bytes at offset `o` as a number, in the byte order of the port (R203). -/
def bytesAt (be : Bool) (bs : List Nat) (o len : Nat) : Nat :=
  let w := (List.range len).map (fun k => bs.getD (o + k) 0)
  ofBytesLE (if be then w.reverse else w)

/-- Field `k` of a sample, scaled (R203): raw × MANT × 2^EXP. -/
def Dev.sspField (d : Dev) (n k : Nat) (bs : List Nat) : Int :=
  if d.on (SSP.EN n k) then
    let len := d.rd (SSP.WIDTH n k) + 2
    let raw := toS (8 * len) (bytesAt (d.on (SSP.BE n)) bs (d.rd (SSP.OFS n k)) len)
    let v := raw * d.rd (SSP.MANT n k)
    let e := d.rdS (SSP.EXP n k)
    if 0 ≤ e then v * 2 ^ e.toNat else roundDiv v (2 ^ (-e).toNat)
  else 0

/-- An axis of the target frame by AXMAP (R203): `i` 0 to 2 from the sensor's three values. -/
def Dev.axis (d : Dev) (n i : Nat) (v : Nat → Int) : Int :=
  let sel := bitsOf (d.rd (SSP.AXMAP n)) (3 * i) 3
  if bitOf sel 2 then -(v (sel % 4)) else v (sel % 4)

/-- A transaction that read the bytes `rx` is complete (R203, R204): it takes as many as it reads, and is over no earlier than its last bit. -/
def Dev.sspSample (d : Dev) (now n : Nat) (rx : List Nat) : Dev :=
  match (d.sspPort n).running with
  | none => d
  | some x =>
    if now < x.lastBit then d
    else
    let cap := x.cap
    let bs := rx.take x.rxLen
    let d := d.modSsp n (fun p => { p with running := none, csHigh := now })
    let w := if d.on (SSP.CNT_W16 n) then 16 else 8
    let cnt := bytesAt (d.on (SSP.BE n)) bs (d.rd (SSP.CNT_OFS n)) (w / 8)
    let last := (d.sspPort n).lastCnt
    let cntOn := d.on (SSP.CNT_EN n)
    if (bs.getD (d.rd (SSP.STAT_OFS n)) 0 &&& d.rd (SSP.STAT_MASK n)) ≠ 0 || (cntOn && last == some cnt) then d.bump (SSP.BAD n)
    else
      let jump := match last with | some l => (cnt + 2 ^ w - l) % 2 ^ w | none => 1
      let d := if cntOn then d.add (SSP.MISSED n) (jump - 1) else d
      let g := fun (i : Nat) => d.axis n i (fun k => d.sspField n k bs)
      let a := fun (i : Nat) => d.axis n i (fun k => d.sspField n (3 + k) bs)
      let s : ImuSample := { port := n, dt := cap, at_ := now, gx := g 0, gy := g 1, gz := g 2, ax := a 0, ay := a 1, az := a 2, temp := d.sspField n 6 bs }
      let d := d.modSsp n (fun p => { p with last := s, lastAt := some now, lastCnt := if cntOn then some cnt else none })
      let d := ((d.bump (SSP.SAMPLES n)).wr2 (SSP.LAST_DT_LO n) (SSP.LAST_DT_HI n) (nsOf cap)).wr (SSP.STALE n) 0
      let role := d.rd (SSP.ROLE n)
      if role = 1 || role = 2 then { d with pose := { d.pose with samples := d.pose.samples ++ [s] } } else d

/-- The staleness limit of port `n` in ms (R204): IMU_STALE, or STALE_MAX of the segments that read the port. -/
def Dev.sspLimit (d : Dev) (n : Nat) : Nat :=
  if d.rd (SSP.ROLE n) = 3 then
    match (List.range 8).filter (fun s => d.on (GEO.SEG_EN s) && d.rd (GEO.SENS_SSP s) == n && (d.rd (GEO.FOLD_SRC s) == 2 || d.on (GEO.SWAY_EN s))) with
    | s :: rest => (rest.map d.segStaleMax).foldl min (d.segStaleMax s)
    | [] => 10
  else max 1 (d.rd POSE.IMU_STALE)

/-- STALE of port `n` at `now`, with EVT_SSP_STALE at its change to 1 (R204). -/
def Dev.sspStaleCheck (d : Dev) (now n : Nat) : Dev :=
  let old := match (d.sspPort n).lastAt with | some t => decide (t + ms (d.sspLimit n) ≤ now) | none => true
  if d.rd (SSP.ROLE n) ≠ 0 && old && !d.on (SSP.STALE n) then (d.wr (SSP.STALE n) 1).fire now EVT.SSP_STALE n 1 else d

/-! ### Validation (R205) -/

/-- First address of the configuration words of port `n`. -/
def sspLo (n : Nat) : Nat := 0x037100 + 0x80 * n

/-- The refusal code of a pending configuration of port `n` (Table 06.5). -/
def Dev.sspCode (d : Dev) (acc : KMap) (n : Nat) : Nat :=
  let role := d.cand acc (SSP.ROLE n)
  let other := (List.range 4).filter (· != n)
  let roleOf := fun (m : Nat) => if m < n then d.cand acc (SSP.ROLE m) else d.rd (SSP.ROLE m)
  let ax := d.cand acc (SSP.AXMAP n)
  let sels := (List.range 3).map (fun i => bitsOf ax (3 * i) 2)
  let last := d.cand acc (SSP.RX_LEN_M1 n)
  let en := fun (k : Nat) => d.candOn acc (SSP.EN n k)
  if ((role = 1 || role = 2) && other.any (fun m => roleOf m == role)) || (role = 2 && !other.any (fun m => roleOf m == 1)) then 1
  else if sels.mergeSort (· ≤ ·) ≠ [0, 1, 2] then 2
  else if (role ≠ 0 && !(List.range 6).all en) || (List.range 7).any (fun k => d.cand acc (SSP.WIDTH n k) == 3 ||
      (en k && decide (last < d.cand acc (SSP.OFS n k) + d.cand acc (SSP.WIDTH n k) + 1))) ||
      (d.cand acc (SSP.STAT_MASK n) != 0 && decide (last < d.cand acc (SSP.STAT_OFS n))) ||
      (d.candOn acc (SSP.CNT_EN n) && decide (last < d.cand acc (SSP.CNT_OFS n) + d.cand acc (SSP.CNT_W16 n))) then 3
  else if d.candOn acc (SSP.TRIG n) && 5 ≤ d.cand acc (SSP.PER_RATE n) then 4
  else if 4 < d.cand acc (SSP.CMD_LEN n) then 5
  else 0

/-- The commit's check of the pending ports, in ascending order (R205). -/
def Dev.sspStep (d : Dev) (adm : KMap) : KMap × Tab Nat :=
  (List.range 4).foldl (fun acc n =>
    if admHas adm (sspLo n) (sspLo n + 0x54) then
      (let c := d.sspCode acc.1 n
       if c = 0 then (acc.1, tset acc.2 n 0) else (admDrop acc.1 (sspLo n) (sspLo n + 0x54), tset acc.2 n c))
    else acc) (adm, [])

/-- What a commit that applied the check's result leaves on the page (R205): CFG_ERR, ACTIVE, and a port newly in use starts
to count its silence. `was` holds the roles before. -/
def Dev.sspReport (d : Dev) (now : Nat) (codes : Tab Nat) (was : List Nat) : Dev :=
  let d := d.each codes (fun d x =>
    let d := d.wr (SSP.CFG_ERR x.1) x.2
    if x.2 = 0 then d else d.fire now EVT.SSP_CFG_REFUSED x.1 x.2)
  d.each (List.range 4) (fun d n =>
    let role := d.rd (SSP.ROLE n)
    let d := d.wrB (SSP.ACTIVE n) (role != 0)
    if was.getD n 0 = role then d
    else (d.modSsp n (fun _ => { lastAt := if role = 0 then none else some now })).wr (SSP.STALE n) 0)

/-! ### Commands -/

/-- SSP_DRDY, R202: a DRDY edge of the polarity that DRDY_POL selects. -/
def execSspDrdy (el : Nat) (port : Fin 4) (s : State) : Host.Outcome State Fault Refusal :=
  s.run el (fun now d => if d.alive then d.sspDrdy now port.val else d)

/-- SSP_PERIODIC_START, R202: a point of the periodic grid is reached. -/
def execSspPeriodicStart (el : Nat) (port : Fin 4) (s : State) : Host.Outcome State Fault Refusal :=
  s.run el (fun now d => if d.alive then d.sspPeriodic now port.val else d)

/-- SSP_SAMPLE, R203: a transaction is complete; `rx` are the bytes read. -/
def execSspSample (el : Nat) (port : Fin 4) (rx : List Byte) (s : State) : Host.Outcome State Fault Refusal :=
  s.run el (fun now d => if d.alive then d.sspSample now port.val (natBytes rx) else d)

/-- SSP_STALE, R204: no sample has been accepted for the limit. -/
def execSspStale (el : Nat) (port : Fin 4) (s : State) : Host.Outcome State Fault Refusal :=
  s.run el (fun now d => if d.alive then d.sspStaleCheck now port.val else d)

end Sys2Proof.Machine
end

