-- ==== Sys2Proof/Machine/Geodesy.lean ====
section
/-! DEFINITION. Geodetic positions and the field frame (R62, R196, R197): the WGS 84 ellipsoid, east-north-up frames, and the
re-expression of poses between frames, in fixed point of 2^-48 (log entry 5). -/

namespace Sys2Proof.Machine

/-- Sine of an angle in 10^-9 °. -/
def sinN (a : Int) : Int :=
  let m := a % 360000000000
  let q := fun (u : Int) => sinQuarter u 90000000000
  if m ≤ 90000000000 then q m else if m ≤ 180000000000 then q (180000000000 - m)
  else if m ≤ 270000000000 then -(q (m - 180000000000)) else -(q (360000000000 - m))

/-- Cosine of an angle in 10^-9 °. -/
def cosN (a : Int) : Int := sinN (a + 90000000000)

/-- The first eccentricity squared of WGS 84 in fixed point: f (2 - f) with f = 1 / 298.257223563. -/
def wgsE2 : Int := (2 * 1000000000 * 298257223563 - 1000000000 * 1000000000) * fxOne / (298257223563 * 298257223563)

/-- The earth-centred position, in fixed-point mm, of latitude and longitude in 10^-9 ° and height in mm. -/
def ecef (lat lon h : Int) : Vec3 :=
  let s := sinN lat
  let c := cosN lat
  let w : Int := isqrt ((fxOne - fxMul wgsE2 (fxMul s s)) * fxOne).toNat
  let n : Int := 6378137000 * fxOne * fxOne / w
  let r := fxMul (n + h * fxOne) c
  ⟨fxMul r (cosN lon), fxMul r (sinN lon), fxMul (fxMul n (fxOne - wgsE2) + h * fxOne) s⟩

/-- The rotation from earth-centred to east-north-up axes at a latitude and longitude. -/
def enuRot (lat lon : Int) : Mat3 :=
  ⟨⟨-(sinN lon), cosN lon, 0⟩,
   ⟨-(fxMul (sinN lat) (cosN lon)), -(fxMul (sinN lat) (sinN lon)), cosN lat⟩,
   ⟨fxMul (cosN lat) (cosN lon), fxMul (cosN lat) (sinN lon), sinN lat⟩⟩

/-- The FIELD_ORIGIN in force. -/
def Dev.origin (d : Dev) : Origin := ⟨d.rdS GEOP.ORG_LAT, d.rdS GEOP.ORG_LON, d.rdS GEOP.ORG_H⟩

/-- The axes of a field frame. -/
def Origin.rot (o : Origin) : Mat3 := enuRot (100 * o.lat) (100 * o.lon)

/-- The earth-centred position of a field frame's origin. -/
def Origin.pos (o : Origin) : Vec3 := ecef (100 * o.lat) (100 * o.lon) o.h

/-- A geodetic position in the field frame of `o`, in mm (R196). -/
def Origin.field (o : Origin) (lat lon h : Int) : Int × Int × Int :=
  let v := o.rot.app ((ecef lat lon h).sub o.pos)
  (fxRound v.x, fxRound v.y, fxRound v.z)

/-- A pose expressed in the frame of `a`, re-expressed in the frame of `b` (R197): position, velocity, attitude, the vertical rate and the
standard deviations along the new axes, with a CHK computed again. -/
def PoseEntry.reframe (e : PoseEntry) (a b : Origin) : PoseEntry :=
  let r := b.rot.mul a.rot.tr
  let p := b.rot.app ((a.rot.tr.app (Vec3.ofInts e.x e.y e.z)).add (a.pos.sub b.pos))
  let v := r.app (Vec3.ofInts e.ve e.vn e.vu)
  let m := r.mul (rAtt e.hdg e.pitch e.roll)
  let hor : Int := isqrt ((m.r1.x * m.r1.x + m.r2.x * m.r2.x).toNat)
  let sig := fun (w : Vec3) =>
    let q := fun (c : Int) (s : Nat) => fxMul c c * (s * s : Nat)
    min 0xFFFF (isqrtNear (fxRound (q w.x e.sigE + q w.y e.sigN + q w.z e.sigU)).toNat)
  { e with x := fxRound p.x, y := fxRound p.y, z := fxRound p.z, ve := fxRound v.x, vn := fxRound v.y, vu := fxRound v.z,
           hdg := headingOf m.r1.x m.r2.x, pitch := wrapC (atan2C (-m.r3.x) hor), roll := wrapC (atan2C m.r3.y m.r3.z),
           ozv := fxRound (m.app (Vec3.ofInts e.ox e.oy e.oz)).z, sigE := sig r.r1, sigN := sig r.r2, sigU := sig r.r3, bad := false }

/-- A row of the filter's covariance with its position, velocity and attitude errors along the axes that `r` turns to. -/
def errorTurn (r : Mat3) (l : List Int) : List Int :=
  let t := fun (i : Nat) => let v := r.app ⟨l.getD i 0, l.getD (i + 1) 0, l.getD (i + 2) 0⟩; [v.x, v.y, v.z]
  t 0 ++ t 3 ++ t 6 ++ l.drop 9

/-- The filter's state, expressed in the frame of `a`, in the frame of `b` (R197). -/
def Filt.reframe (x : Filt) (a b : Origin) : Filt :=
  let r := b.rot.mul a.rot.tr
  let half := x.cov.map (errorTurn r)
  { x with p := b.rot.app ((a.rot.tr.app x.p).add (a.pos.sub b.pos)), v := r.app x.v, c := r.mul x.c,
           cov := (List.range half.length).map (fun j => errorTurn r (half.map (fun row => row.getD j 0))) }

/-- The pose engine in the frame of `b` in place of that of `a` (R197): every history entry, the last pose and the filter. -/
def PoseBlk.reframe (p : PoseBlk) (a b : Origin) : PoseBlk :=
  if a = b then p
  else { p with pose := p.pose.reframe a b, hist := p.hist.map (fun e => e.reframe a b), filt := p.filt.reframe a b }

/-- A FIELD_ORIGIN change from `a` to the one in force (R197), while the engine works in that frame. -/
def Dev.reframe (d : Dev) (a : Origin) : Dev :=
  if d.pose.orgDue then d else { d with pose := d.pose.reframe a d.origin }

end Sys2Proof.Machine
end

