-- ==== Sys2Proof/Machine/Filter.lean ====
section
/-! DEFINITION. The fusion filter (R206 to R208, R216): an error-state Kalman filter of 17 states. Errors are listed as position in mm
(0 to 2), velocity in mm/s (3 to 5), attitude about the field axes in µrad (6 to 8), gyro bias in µrad/s (9 to 11), accelerometer bias in
µm/s² (12 to 14), WHL_K and CAN_K in 10^-6 (15, 16). In KINEMATIC mode the states in use are position, horizontal velocity, heading, yaw rate
(in place 11, with the sign of a gyro bias), WHL_K and CAN_K. The spec names the states, the models and the noises; the arithmetic is the
model's (log entry 13). -/

namespace Sys2Proof.Machine

/-! ### Lists of fixed-point numbers -/

/-- A quotient of two fixed-point numbers; 0 where the divisor is 0. -/
def fxDiv (a b : Int) : Int := if b = 0 then 0 else a * fxOne / b

/-- The sum of two lists. -/
def rowAdd (a b : List Int) : List Int := List.zipWith (· + ·) a b

/-- The scalar product of two lists. -/
def rowDot (a b : List Int) : Int := (List.zipWith fxMul a b).sum

/-- The combination of the rows `vs`, each of length `k`, with the weights `ws`. -/
def rowsLin (k : Nat) (ws : List Int) (vs : List (List Int)) : List Int :=
  (ws.zip vs).foldl (fun acc x => rowAdd acc (x.2.map (fxMul x.1))) (List.replicate k 0)

/-- The solution of a system of `n` equations, each with its right side, by elimination. -/
def rowsSolve : Nat → List (List Int × Int) → List Int
  | 0, _ => []
  | _, [] => []
  | n + 1, (row, b) :: rest =>
    let p := row.headD 0
    let less := rest.map (fun x =>
      let f := fxDiv (x.1.headD 0) p
      (List.zipWith (fun y z => y - fxMul f z) x.1.tail row.tail, x.2 - fxMul f b))
    let xs := rowsSolve n less
    fxDiv (b - rowDot row.tail xs) p :: xs

/-- The solution of `m` x = `b`. -/
def matSolve (m : List (List Int)) (b : List Int) : List Int := rowsSolve m.length (m.zip b)

/-- A square matrix with the diagonal `f`. -/
def matDiag (n : Nat) (f : Nat → Int) : List (List Int) :=
  (List.range n).map (fun i => (List.range n).map (fun j => if i = j then f i else 0))

/-- The columns of `m`, whose rows have length `n`. -/
def matTr (n : Nat) (m : List (List Int)) : List (List Int) := (List.range n).map (fun j => m.map (fun r => r.getD j 0))

/-- A symmetric 3 by 3 covariance by its entries EE, NN, UU, EN, EU, NU, in whole units. -/
def covRows (c : List Int) : List (List Int) :=
  let g := fun (i : Nat) => c.getD i 0 * fxOne
  [[g 0, g 3, g 4], [g 3, g 1, g 5], [g 4, g 5, g 2]]

/-! ### Vectors and rotations -/

/-- A vector as a list. -/
def Vec3.list (a : Vec3) : List Int := [a.x, a.y, a.z]

/-- A list of three as a vector. -/
def Vec3.ofList (l : List Int) : Vec3 := ⟨l.getD 0 0, l.getD 1 0, l.getD 2 0⟩

/-- A vector changed by components. -/
def Vec3.map (f : Int → Int) (a : Vec3) : Vec3 := ⟨f a.x, f a.y, f a.z⟩

/-- A vector over `t` cycles of 2.5 ns: its integral over that time where it is a rate per second. -/
def Vec3.over (t : Int) (a : Vec3) : Vec3 := a.map (fun x => x * t / 400000000)

/-- The unit vector of `a`. -/
def Vec3.unit (a : Vec3) : Vec3 :=
  let n : Int := isqrt (a.dot a * fxOne).toNat
  a.map (fun x => fxDiv x n)

/-- The rotation by the vector `w` in µrad: the exponential series of its cross product. -/
def Mat3.exp (w : Vec3) : Mat3 :=
  let r := w.map (· / 1000000)
  let x : Mat3 := ⟨⟨0, -r.z, r.y⟩, ⟨r.z, 0, -r.x⟩, ⟨-r.y, r.x, 0⟩⟩
  ((List.range 12).foldl (fun (acc : Mat3 × Mat3) (k : Nat) =>
    let m := acc.2.mul x
    let q := fun (v : Vec3) => v.map (· / ((k : Int) + 1))
    let t : Mat3 := ⟨q m.r1, q m.r2, q m.r3⟩
    (⟨acc.1.r1.add t.r1, acc.1.r2.add t.r2, acc.1.r3.add t.r3⟩, t)) (Mat3.one, Mat3.one)).1

/-- The rotation nearest by rows to a matrix that is one but for rounding. -/
def Mat3.ortho (m : Mat3) : Mat3 :=
  let a := m.r1.unit
  let b := (m.r2.sub (a.map (fxMul (a.dot m.r2)))).unit
  ⟨a, b, a.cross b⟩

/-- The heading of a rotation's x axis, its pitch and its roll in 0.01° (R194). -/
def Mat3.angles (m : Mat3) : Nat × Int × Int :=
  let hor : Int := isqrt ((m.r1.x * m.r1.x + m.r2.x * m.r2.x).toNat)
  (headingOf m.r1.x m.r2.x, wrapC (atan2C (-m.r3.x) hor), wrapC (atan2C m.r3.y m.r3.z))

/-- A geodetic position (10^-9 °, 10^-9 °, mm) of the earth-centred point `x`, improved from a first guess. -/
def geodeticOf (x : Vec3) : Nat → Int × Int × Int → Int × Int × Int
  | 0, g => g
  | k + 1, (lat, lon, h) =>
    let e := (enuRot lat lon).app (x.sub (ecef lat lon h))
    let c := cosN lat
    geodeticOf x k (lat + roundDiv (fxRound e.y * 57295779513) (6378137000 + h),
      lon + (if c = 0 then 0 else fxRound (fxDiv (e.x * 57295779513) (fxMul c ((6378137000 + h) * fxOne) )) ), h + fxRound e.z)

/-! ### The state and its errors -/

/-- Standard gravity in µm/s², along the field frame's up axis (log entry 124). -/
def gravity : Int := 9806650

/-- The initial variance of error `i`, whole units squared (log entry 125). -/
def sigma0 (i : Nat) : Int := (Config.poseSigma i * Config.poseSigma i : Nat) * fxOne

/-- The start of the filter: nothing known but the initial covariance. -/
def Filt.start (t : Nat) : Filt := { t := t, cov := matDiag 17 sigma0 }

/-- The errors in use in KINEMATIC mode (R206). -/
def kinUsed : List Nat := [0, 1, 2, 3, 4, 8, 11, 15, 16]

/-- The state with the error `e` added. -/
def Filt.inject (x : Filt) (kin : Bool) (e : List Int) : Filt :=
  let v3 := fun (i : Nat) => Vec3.ofList (e.drop i)
  { x with p := x.p.add (v3 0), v := x.v.add (v3 3), c := ((Mat3.exp (v3 6)).mul x.c).ortho, om := x.om.sub (v3 9),
           bg := if kin then x.bg else x.bg.add (v3 9), ba := x.ba.add (v3 12),
           kw := max (-100000 * fxOne) (min (100000 * fxOne) (x.kw + e.getD 15 0)),
           kc := max (-100000 * fxOne) (min (100000 * fxOne) (x.kc + e.getD 16 0)) }

/-- The error of `x` against `y`. -/
def Filt.error (x : Filt) (kin : Bool) (y : Filt) : List Int :=
  let r := x.c.mul y.c.tr
  let half := fun (a : Int) => a * 500000
  (x.p.sub y.p).list ++ (x.v.sub y.v).list ++ [half (r.r3.y - r.r2.z), half (r.r1.z - r.r3.x), half (r.r2.x - r.r1.y)] ++
    (if kin then (y.om.sub x.om).list else (x.bg.sub y.bg).list) ++ (x.ba.sub y.ba).list ++ [x.kw - y.kw, x.kc - y.kc]

/-- The error of one unit in place `j`, with the sign `s`. -/
def unitError (j : Nat) (s : Int) : List Int := (List.range 17).map (fun i => if i = j then s * fxOne else 0)

/-- The covariance with the errors `js` at their initial variance, correlated with nothing. -/
def covOpen (js : List Nat) (var : Nat → Int) (m : List (List Int)) : List (List Int) :=
  (List.range 17).map (fun i => (List.range 17).map (fun j =>
    if js.contains i || js.contains j then (if i = j then var i else 0) else (m.getD i []).getD j 0))

/-! ### Propagation (R206) -/

/-- The state carried `t` cycles on with its last rates held: constant speed and rate of turn. -/
def Filt.coast (x : Filt) (t : Int) : Filt :=
  let yaw := (x.c.app x.om).z
  { x with t := (x.t + t).toNat, p := x.p.add (x.v.over t), v := (Mat3.exp (Vec3.over t ⟨0, 0, yaw⟩)).app x.v,
           c := (x.c.mul (Mat3.exp (x.om.over t))).ortho }

/-- The specific force of the reference point, µm/s²: that of the unit, less its bias and what the rotation makes at the unit's place `lev`
in mm (R203); `om` is the rate now and `x.om` the rate one interval of `t` cycles before. -/
def Filt.force (x : Filt) (lev om : Vec3) (t : Int) (s : ImuSample) : Vec3 :=
  let acc := if t = 0 then {} else (om.sub x.om).map (fun a => a * 400000000 / t)
  let rad := om.map (· / 1000000)
  let turn := (rad.cross (rad.cross lev)).map (· * 1000)
  let swing := ((acc.map (· / 1000)).cross lev)
  (((Vec3.ofInts s.ax s.ay s.az).sub x.ba).sub turn).sub swing

/-- Strapdown integration of a vehicle sample, over the time since the state's instant. -/
def Filt.strapdown (x : Filt) (lev : Vec3) (s : ImuSample) : Filt :=
  let t : Int := (s.dt - x.t : Nat)
  let om := (Vec3.ofInts s.gx s.gy s.gz).sub x.bg
  let a := ((x.c.app (x.force lev om t s)).sub (Vec3.ofInts 0 0 gravity)).map (· / 1000)
  { x with t := max x.t s.dt, om := om, c := (x.c.mul (Mat3.exp (om.over t))).ortho, v := x.v.add (a.over t),
           p := x.p.add ((x.v.over t).add (((a.over t).over t).map (· / 2))) }

/-- The noise that enters error `i` in a second, whole units squared: GYRO_ND on the attitude, ACC_ND on the velocity, and the walk of each
state (R216; log entry 125). -/
def Dev.poseNoise (d : Dev) (kin : Bool) (i : Nat) : Int :=
  let walk : Int := (Config.poseWalk kin i * Config.poseWalk kin i : Nat) * fxOne
  let own : Int :=
    if i < 3 then 0
    else if i < 6 then let k : Int := d.rd POSE.ACC_ND * fxOne * 980665 / 100000000; fxMul k k
    else if i < 9 then let k : Int := d.rd POSE.GYRO_ND * fxOne * 17453293 / 1000000; fxMul k k
    else 0
  walk + own

/-- A propagation `f` of state and covariance, over `t` cycles: the transition is the change of `f` with each error. -/
def Dev.propagate (d : Dev) (x : Filt) (kin : Bool) (t : Int) (f : Filt → Filt) : Filt :=
  let y := f x
  let cols := (List.range 17).map (fun j => (f (x.inject kin (unitError j 1))).error kin y)
  let fp := x.cov.map (fun r => rowsLin 17 r cols)
  let m := (matTr 17 fp).map (fun r => rowsLin 17 r cols)
  let q := (List.range 17).map (fun i => d.poseNoise kin i * t / 400000000)
  let used := fun (i : Nat) => !kin || kinUsed.contains i
  { y with cov := m.zipIdx.map (fun r => r.1.zipIdx.map (fun e =>
      if used r.2 && used e.2 then (if r.2 = e.2 then e.1 + q.getD r.2 0 else e.1) else 0)) }

/-! ### Correction (R207) -/

/-- A measurement against the model `h` at the state `at_`: what it differs by, its noise. -/
structure Innov where
  nu : List Int := []
  noise : List (List Int) := []
  cols : List (List Int) := []
  deriving DecidableEq, Repr, Inhabited

/-- The innovation of the value `z` against the model `h`, with the change of `h` with each error. -/
def Filt.innov (x : Filt) (kin : Bool) (z : List Int) (noise : List (List Int)) (h : Filt → List Int) : Innov :=
  { nu := List.zipWith (· - ·) z (h x), noise := noise,
    cols := (List.range 17).map (fun j =>
      List.zipWith (fun a b => (a - b) / 2) (h (x.inject kin (unitError j 1))) (h (x.inject kin (unitError j (-1))))) }

/-- The normalised innovation nu' S^-1 nu, and the corrected state, which a rejected measurement does not reach. -/
def Filt.correct (x : Filt) (kin : Bool) (m : Innov) : Int × Filt :=
  let k := m.nu.length
  let ph := x.cov.map (fun r => rowsLin k r m.cols)
  let hph := (List.range k).map (fun a => rowsLin k (m.cols.map (fun c => c.getD a 0)) ph)
  let s := List.zipWith rowAdd m.noise hph
  let y := matSolve s m.nu
  let gain := ph.map (matSolve s)
  let cov := List.zipWith (fun r g => List.zipWith (fun e q => e - rowDot g q) r ph) x.cov gain
  (rowDot m.nu y, { x.inject kin (ph.map (rowDot y)) with cov := cov })

end Sys2Proof.Machine
end

