-- ==== Sys2Proof/Machine/Pose.lean ====
section
/-! DEFINITION. The pose engine (R193 to R223): the inertial unit, measurements with their models and judgement, exclusion and re-anchoring,
alignment, quality class, the history, and the commands of the engine. -/

namespace Sys2Proof.Machine

/-- Whether the pose engine is enabled (R222, R459). -/
def Dev.poseEn (d : Dev) : Bool := d.on POSE.POSE_EN && d.pgEn 0x034000 && d.pwr.mode != .plain

/-- Whether the direction source reports reverse (R198, R199). -/
def Dev.inReverse (d : Dev) : Bool :=
  match d.rd POSE.DIR_SRC with
  | 1 => decide (d.fbkFreq (d.rd POSE.WHL_FBK) < 0)
  | 2 => d.pose.canRev
  | _ => false

/-- Changes the filter. -/
def Dev.modFilt (d : Dev) (f : Filt → Filt) : Dev := { d with pose := { d.pose with filt := f d.pose.filt } }

/-! ### The inertial unit (R206, R213) -/

/-- The accepted port of a vehicle role. -/
def Dev.rolePort (d : Dev) (role : Nat) : Option Nat := (List.range 4).find? (fun n => d.rd (SSP.ROLE n) == role)

/-- The active vehicle unit. -/
def Dev.imuPort (d : Dev) : Option Nat := if d.pose.spare then d.rolePort 2 else d.rolePort 1

/-- Whether port `n` has accepted no sample for its limit at `t`. -/
def Dev.imuStaleAt (d : Dev) (t n : Nat) : Bool :=
  match (d.sspPort n).lastAt with
  | some a => decide (a + ms (d.sspLimit n) ≤ t)
  | none => true

/-- Whether the active unit is configured and not stale at `t`. -/
def Dev.imuGood (d : Dev) (t : Nat) : Bool := match d.imuPort with | some n => !d.imuStaleAt t n | none => false

/-- The filter on a spare unit (R213): the bias states at zero with their initial covariance. -/
def Filt.newUnit (x : Filt) : Filt := { x with bg := {}, ba := {}, cov := covOpen [9, 10, 11, 12, 13, 14] sigma0 x.cov }

/-- The filter in KINEMATIC mode (R206): level, with horizontal velocity and the yaw rate alone. -/
def Filt.level (x : Filt) : Filt :=
  { x with v := { x.v with z := 0 }, om := ⟨0, 0, (x.c.app x.om).z⟩, c := rAtt x.c.angles.1 0 0, cov := covOpen [11] sigma0 x.cov }

/-- The pose engine follows the staleness of its unit at `t` (R213): a switch to the spare, or KINEMATIC mode. -/
def Dev.imuLoss (d : Dev) (now t : Nat) : Dev :=
  let d := if d.imuGood t || d.pose.spare then d
    else match d.rolePort 1, d.rolePort 2 with
      | some _, some q => if d.imuStaleAt t q then d else
          ((({ d with pose := { d.pose with spare := true } }).modFilt Filt.newUnit).bump POSE.IMU_SWITCH_CNT).fire now EVT.POSE_IMU_SWITCH q 0
      | _, _ => d
  if d.imuGood t then
    match d.imuPort.map (fun n => (d.sspPort n).last.at_ != 0) with
    | some true => { d with pose := { d.pose with goodFrom := some (d.pose.goodFrom.getD t) } }
    | _ => d
  else
    let d := { d with pose := { d.pose with goodFrom := none, level := {} } }
    if d.pose.kin then d
    else (({ d with pose := { d.pose with kin := true } }).modFilt Filt.level).fire now EVT.POSE_IMU_LOST (d.imuPort.getD 0) 0

/-- ROLL and PITCH from the mean specific force of the levelling second, less the acceleration that GNSS velocity shows (R213, R214); the
acceleration lies along the heading, which before alignment is the course, reversed in reverse. -/
def Dev.levelled (d : Dev) (x : Filt) : Filt :=
  let l := d.pose.level
  let mean := fun (a : Int) => a * fxOne / max 1 (l.n : Int)
  let h := if d.pose.align.st = 2 then x.c.angles.1
    else match d.pose.lastSol with
      | some m => (headingOf m.ve m.vn + (if d.inReverse then 18000 else 0)) % 36000
      | none => x.c.angles.1
  let acc : Vec3 := match l.v0, d.pose.lastSol with
    | some (ve, vn, t), some m =>
      if m.hasVel && decide (t < m.dt) then
        let k := fun (a b : Int) => (a - b) * 1000 * 400000000 * fxOne / ((m.dt - t : Nat) : Int)
        (rAtt h 0 0).tr.app ⟨k m.ve ve, k m.vn vn, 0⟩
      else {}
    | _, _ => {}
  let f := (⟨mean l.sx, mean l.sy, mean l.sz⟩ : Vec3).sub acc
  let roll := wrapC (atan2C f.y f.z)
  let pitch := wrapC (atan2C (-f.x) (isqrt (f.y * f.y + f.z * f.z).toNat))
  { x with c := rAtt x.c.angles.1 pitch roll, cov := covOpen [6, 7] sigma0 x.cov }

/-- The return to INERTIAL once the active unit has delivered for 1 s, the attitude levelled again (R213). -/
def Dev.imuReturn (d : Dev) (t : Nat) : Dev :=
  match d.pose.goodFrom with
  | some g =>
    if d.pose.kin && decide (g + sec 1 ≤ t) then
      let d := d.modFilt (fun x => let y := d.levelled x; { y with cov := covOpen [5, 9, 10, 11, 12, 13, 14] sigma0 y.cov })
      { d with pose := { d.pose with kin := false, level := {} } }
    else d
  | none => d

/-- IMU_PRIMARY written (R213): back to the VEHICLE port, if it is not stale. -/
def Dev.imuPrimary (d : Dev) (now : Nat) : Dev :=
  match d.rolePort 1 with
  | some n => if d.pose.spare && !d.imuStaleAt now n then { d with pose := { d.pose with spare := false, goodFrom := some now } } else d
  | none => d

/-- The place of the active unit relative to the VRP, mm (R203). -/
def Dev.imuLever (d : Dev) : Vec3 :=
  match d.imuPort with
  | some n => Vec3.ofInts (d.rdS (SSP.LEV_X n)) (d.rdS (SSP.LEV_Y n)) (d.rdS (SSP.LEV_Z n))
  | none => {}

/-- A sample of the active unit enters the levelling second while one runs (R213, R214). -/
def Dev.levelTake (d : Dev) (s : ImuSample) : Dev :=
  if d.pose.align.st = 0 || d.pose.kin then
    let l := d.pose.level
    let x := d.pose.filt
    let f := x.force d.imuLever ((Vec3.ofInts s.gx s.gy s.gz).sub x.bg) 0 s
    let v0 := match l.v0, d.pose.lastSol with
      | none, some m => if m.hasVel then some (m.ve, m.vn, m.dt) else none
      | v, _ => v
    { d with pose := { d.pose with level := { since := some (l.since.getD s.dt), n := l.n + 1, sx := l.sx + fxRound f.x, sy := l.sy + fxRound f.y,
                                              sz := l.sz + fxRound f.z, v0 := v0 } } }
  else d

/-- The vehicle samples queued by `edge` carry the state on in capture-DT order; in KINEMATIC mode it is carried to `edge` at constant speed
and yaw rate (R206, R207). -/
def Dev.poseSamples (d : Dev) (edge : Nat) : Dev :=
  let due := (d.pose.samples.filter (fun s => decide (s.at_ ≤ edge) && d.imuPort == some s.port)).mergeSort (fun a b => a.dt ≤ b.dt)
  let d := { d with pose := { d.pose with samples := d.pose.samples.filter (fun s => decide (edge < s.at_)) } }
  let lev := d.imuLever
  let d := due.foldl (fun d s =>
    let d := d.levelTake s
    if d.pose.kin then d
    else d.modFilt (fun x => d.propagate x false (s.dt - x.t : Nat) (fun y => y.strapdown lev s))) d
  if d.pose.kin then d.modFilt (fun x => let t : Int := (edge - x.t : Nat); d.propagate x true t (fun y => y.coast t)) else d

/-! ### Measurements and their models (R198, R199, R207, R208) -/

/-- The frame in which the engine works: that of FIELD_ORIGIN, or of its first solution while FIELD_ORIGIN awaits the first pose (R96). -/
def Dev.poseFrame (d : Dev) : Origin := if d.pose.orgDue then d.pose.frame else d.origin

/-- Wheel speed in mm/s (R199) from FREQ of WHL_FBK, signed by DIR_SRC. -/
def Dev.wheelSpeed (d : Dev) : Int :=
  let v : Int := ((d.fbkFreq (d.rd POSE.WHL_FBK)).natAbs * d.rd POSE.WHL_SCALE / 1000000 : Nat)
  if d.inReverse then -v else v

/-- Steering angle in 10^-6 ° (R199). -/
def Dev.steerAngle (d : Dev) : Int :=
  (toS 32 (d.rdT0 (FBK.POS (d.rd POSE.STEER_FBK))) - d.rdS POSE.STEER_ZERO) * d.rdS POSE.STEER_GAIN

/-- v_axle of R208: the velocity of the rear-axle centre in the vehicle frame, mm/s. -/
def Dev.axle (d : Dev) (x : Filt) : Vec3 :=
  (x.c.tr.app x.v).add ((x.om.map (· / 1000000)).cross (Vec3.ofInts (d.rdS POSE.REAR_AXLE_X) 0 0))

/-- The antenna relative to the VRP, mm. -/
def Dev.ant (d : Dev) : Vec3 := Vec3.ofInts (d.rdS POSE.ANT_X) (d.rdS POSE.ANT_Y) (d.rdS POSE.ANT_Z)

/-- WHEELBASE, held at 1 or more (Table 06.11). -/
def Dev.wheelbase (d : Dev) : Int := max 1 (d.rd POSE.WHEELBASE)

/-- The model of a measurement at a state (Table 06.6). -/
def Dev.model (d : Dev) (m : Meas) (x : Filt) : List Int :=
  let om := x.om.map (· / 1000000)
  match m.kind with
  | .gnssPos => (x.p.add (x.c.app d.ant)).list
  | .gnssVel => (x.v.add (x.c.app (om.cross d.ant))).list
  | .wheel => [fxMul (fxOne + x.kw / 1000000) (d.axle x).x]
  | .canSpeed => [fxMul (fxOne + x.kc / 1000000) (d.axle x).x]
  | .steer => [x.om.z - fxDiv (fxMul (d.axle x).x (sinN (1000 * m.v1))) (cosN (1000 * m.v1)) * 1000000 / d.wheelbase]
  | .nhc => [(d.axle x).y, (d.axle x).z]
  | .zupt => x.v.list ++ [x.om.z]

/-- The axes of the engine's frame against east, north and up at a geodetic position. -/
def Dev.localTurn (d : Dev) (m : Meas) : Mat3 := d.poseFrame.rot.mul (enuRot m.v1 m.v2).tr

/-- The value of a measurement, in the field frame. -/
def Dev.measValue (d : Dev) (m : Meas) : List Int :=
  let o := d.poseFrame
  match m.kind with
  | .gnssPos => (o.rot.app ((ecef m.v1 m.v2 m.v3).sub o.pos)).list
  | .gnssVel => ((d.localTurn m).app (Vec3.ofInts m.ve m.vn m.vu)).list
  | .wheel | .canSpeed => [m.v1 * fxOne]
  | .steer => [0]
  | .nhc => [0, 0]
  | .zupt => [0, 0, 0, 0]

/-- The covariance of a solution along the axes of the engine's frame. -/
def Dev.solCov (d : Dev) (m : Meas) : List (List Int) :=
  let turn := (covRows m.cov).map (fun r => ((d.localTurn m).app (Vec3.ofList r)).list)
  (matTr 3 turn).map (fun r => ((d.localTurn m).app (Vec3.ofList r)).list)

/-- The noise of a measurement at a state (Table 06.6). -/
def Dev.measNoise (d : Dev) (m : Meas) (x : Filt) : List (List Int) :=
  let sq := fun (s : Int) => s * s * fxOne
  match m.kind with
  | .gnssPos | .gnssVel => (d.solCov m).map (fun r => r.map (fun a => a * max 1 (d.rd POSE.GNSS_R_SCALE) / 100))
  | .wheel | .canSpeed => [[sq m.sig]]
  | .steer =>
    let c := cosN (1000 * m.v1)
    let s := fxDiv ((d.axle x).x * ((m.sig : Int) * 17453293 / 100000) / d.wheelbase) (fxMul c c)
    [[fxMul s s]]
  | .nhc => matDiag 2 (fun _ => sq 50)
  | .zupt => matDiag 4 (fun i => if i < 3 then sq 5 else sq 500)

/-- The state at the history entry `e`. -/
def Filt.atEntry (x : Filt) (e : PoseEntry) : Filt :=
  { x with t := e.dt, p := Vec3.ofInts e.x e.y e.z, v := Vec3.ofInts e.ve e.vn e.vu, c := rAtt e.hdg e.pitch e.roll,
           om := Vec3.ofInts (100 * e.ox) (100 * e.oy) (100 * e.oz) }

/-- The state at the DT of a measurement (R207): the history's where that lies before the state's instant and the history has it, else the
current state carried there. -/
def Dev.stateAt (d : Dev) (t : Nat) : Filt :=
  let x := d.pose.filt
  match (if t < x.t then d.pose? t else none) with
  | some e => x.atEntry e
  | none => x.coast ((t : Int) - x.t)

/-- The first position or velocity of a filter that has none, taken with its covariance (log entry 126). -/
def Dev.firstTake (d : Dev) (m : Meas) (x : Filt) : Option Filt :=
  let c := (d.solCov m).map (fun r => r.map id)
  let place := fun (o : Nat) (p : List (List Int)) => (List.range 17).map (fun i => (List.range 17).map (fun j =>
    if o ≤ i && i < o + 3 && o ≤ j && j < o + 3 then (c.getD (i - o) []).getD (j - o) 0 else (p.getD i []).getD j 0))
  match m.kind with
  | .gnssPos => if x.posSet then none else
      some { x with posSet := true, p := (Vec3.ofList (d.measValue m)).sub (x.c.app d.ant), cov := place 0 (covOpen [0, 1, 2] sigma0 x.cov) }
  | .gnssVel => if x.velSet then none else
      some { x with velSet := true, v := Vec3.ofList (d.measValue m), cov := place 3 (covOpen [3, 4, 5] sigma0 x.cov) }
  | _ => none

/-- A measurement against the prediction (R207): its normalised innovation in units of 0.1, rounded up, and the state it corrects. -/
def Dev.correct (d : Dev) (m : Meas) : Nat × Filt :=
  let x := d.pose.filt
  match d.firstTake m x with
  | some y => (0, y)
  | none =>
    let s := d.stateAt m.dt
    let i := s.innov d.pose.kin (d.measValue m) (d.measNoise m s) (d.model m)
    let r := x.correct d.pose.kin i
    (((10 * r.1 + fxOne - 1) / fxOne).toNat, r.2)

/-- The measurements that a T1 makes itself (Table 06.6): wheel speed, one for each window, steering yaw rate, non-holonomic, zero velocity. -/
def Dev.ownMeas (d : Dev) (edge : Nat) : List Meas :=
  let whl := d.rd POSE.WHL_FBK
  let dtW := cyclesOfNs (d.rd2 (FBK.FREQ_DT_LO whl) (FBK.FREQ_DT_HI whl))
  let x := d.pose.filt
  let spd := isqrt (fxRound x.v.x * fxRound x.v.x + fxRound x.v.y * fxRound x.v.y).toNat
  let w := if d.on POSE.WHL_EN && d.fbkDelivers whl && decide (d.pose.whlDt < dtW) then
      [({ kind := .wheel, dt := dtW, at_ := edge, v1 := d.wheelSpeed, sig := d.rd POSE.WHL_SIG } : Meas)] else []
  let s := if d.on POSE.STEER_EN && d.fbkDelivers (d.rd POSE.STEER_FBK) && decide (500 ≤ fxRound (d.axle x).x) then
      [({ kind := .steer, dt := edge, at_ := edge, v1 := d.steerAngle, sig := d.rd POSE.STEER_SIG } : Meas)] else []
  let n := if d.on POSE.NHC_EN && decide (500 ≤ spd) then [({ kind := .nhc, dt := edge, at_ := edge, sig := 50 } : Meas)] else []
  let z := if d.on POSE.ZUPT_EN && d.on POSE.ZUPT_ACT then [({ kind := .zupt, dt := edge, at_ := edge, sig := 5 } : Meas)] else []
  w ++ s ++ n ++ z

/-- A measurement arrives and waits for a T1 (R207). -/
def Dev.measIn (d : Dev) (m : Meas) : Dev := { d with pose := { d.pose with meas := d.pose.meas ++ [m] } }

/-! ### Judgement, exclusion, standstill (R208 to R211) -/

/-- The gate of a kind in units of 0.1 (Table 06.6). -/
def Dev.gateOfKind (d : Dev) : MeasKind → Nat
  | .gnssPos => max 1 (d.rd POSE.GATE_POS)
  | .gnssVel => max 1 (d.rd POSE.GATE_VEL)
  | .steer => max 1 (d.rd POSE.GATE_YAW)
  | _ => max 1 (d.rd POSE.GATE_SPD)

/-- Whether two solutions in a row agree (R210): the second differs from the first, advanced by its own velocity, within GATE_POS under
their covariances. -/
def Dev.solAgree (d : Dev) (a b : Meas) : Bool :=
  let on : Vec3 := ((d.localTurn a).app (Vec3.ofInts a.ve a.vn a.vu)).over ((b.dt - a.dt : Nat) : Int)
  let nu := ((Vec3.ofList (d.measValue b)).sub ((Vec3.ofList (d.measValue a)).add on)).list
  let y := matSolve (List.zipWith rowAdd (d.solCov a) (d.solCov b)) nu
  decide (10 * rowDot nu y ≤ (d.gateOfKind .gnssPos : Int) * fxOne)

/-- The newest solution takes its place in the run of those that agree (R210). -/
def Dev.solNote (d : Dev) (m : Meas) : Dev :=
  let agree := match d.pose.lastSol with | some a => d.solAgree a m | none => false
  { d with pose := { d.pose with lastSol := some m, agreeFrom := if agree then some (d.pose.agreeFrom.getD m.dt) else some m.dt } }

/-- Sets an exclusion flag, with its event at the change to 1 (R209). -/
def Dev.setExcl (d : Dev) (now : Nat) (f : Field) (e : Nat) (b : Bool) : Dev :=
  let was := d.on f
  let d := d.wrB f b
  if b && !was then d.fire now e 0 1 else d

/-- A measurement judged in the T1 at `edge` with normalised innovation `nis` (R209). -/
def Dev.judge (d : Dev) (now edge : Nat) (m : Meas) (nis : Nat) : Dev :=
  let ok := decide (nis ≤ d.gateOfKind m.kind)
  match m.kind with
  | .gnssPos =>
    let d := d.solNote m
    let d := { d with pose := { d.pose with gnssLast := some (m.dt, m.solType, ok) } }
    if ok then
      ({ d with pose := { d.pose with gnssAcc := some m.dt, exclFrom := none } }).setExcl now POSE.GNSS_EXCL EVT.POSE_GNSS_EXCL false
    else
      (({ d with pose := { d.pose with exclFrom := some (d.pose.exclFrom.getD edge) } }).bump POSE.GNSS_REJ).setExcl now POSE.GNSS_EXCL
        EVT.POSE_GNSS_EXCL true
  | .gnssVel =>
    let sol := d.pose.lastSol.map (fun (a : Meas) => { a with spd := m.spd, ve := m.ve, vn := m.vn, vu := m.vu, hasVel := true })
    let d := { d with pose := { d.pose with lastSol := sol } }
    if ok then d else d.bump POSE.GNSS_REJ
  | .wheel | .canSpeed =>
    let d := if m.kind = .wheel then { d with pose := { d.pose with whlDt := m.dt } } else d
    if ok then
      let d := { d with pose := { d.pose with odoAcc := m :: d.pose.odoAcc.filter (fun a => a.kind != m.kind) } }
      if d.pose.exclSrc.contains m.kind then
        ({ d with pose := { d.pose with exclSrc := d.pose.exclSrc.filter (· != m.kind) } }).setExcl now POSE.ODO_EXCL EVT.POSE_ODO_EXCL false
      else d
    else
      (({ d with pose := { d.pose with exclSrc := m.kind :: d.pose.exclSrc.filter (· != m.kind) } }).bump POSE.ODO_REJ).setExcl now POSE.ODO_EXCL
        EVT.POSE_ODO_EXCL true
  | .steer | .nhc | .zupt => if ok then d else d.bump POSE.ODO_REJ

/-- A measurement in a T1 at `edge` (R207, R209): it corrects the state if its normalised innovation is within its gate. -/
def Dev.measure (d : Dev) (now edge : Nat) (m : Meas) : Dev :=
  let r := d.correct m
  let d := if r.1 ≤ d.gateOfKind m.kind then d.modFilt (fun _ => r.2) else d
  d.judge now edge m r.1

/-- The measurements due are judged in DT order; older than MEAS_AGE_MAX they are discarded (R207). -/
def Dev.judgeAll (d : Dev) (now edge : Nat) (due : List Meas) : Dev :=
  due.foldl (fun d m => if m.dt + ms (d.rdH 10 3900 POSE.MEAS_AGE_MAX) < edge then d else d.measure now edge m) d

/-- Whether an odometry source is enabled (Table 06.6). -/
def Dev.odoOn (d : Dev) : MeasKind → Bool
  | .wheel => d.on POSE.WHL_EN
  | .canSpeed => d.rd POSE.CAN_SPD == 1 || d.rd POSE.CAN_SPD == 2
  | _ => false

/-- Whether the vehicle is stationary at `t` (R208): the three conditions held for 0.5 s. -/
def Dev.stillStep (d : Dev) (t : Nat) : Dev :=
  let whl := !d.odoOn .wheel || d.wheelSpeed == 0
  let can := !d.odoOn .canSpeed || d.pose.canSpd == some 0
  let gyro := d.pose.kin || match d.imuPort with
    | some n => let s := (d.sspPort n).last
                decide (s.gx * s.gx + s.gy * s.gy + s.gz * s.gz < 8727 * 8727)
    | none => true
  let sat := match d.pose.lastSol with | some m => !m.hasVel || decide (m.spd < 100) | none => true
  if whl && can && gyro && sat then
    let from_ := d.pose.stillFrom.getD t
    ({ d with pose := { d.pose with stillFrom := some from_ } }).wrB POSE.ZUPT_ACT (decide (from_ + ms 500 ≤ t))
  else ({ d with pose := { d.pose with stillFrom := none } }).wr POSE.ZUPT_ACT 0

/-! ### Re-anchoring, alignment and class (R210, R214, R215) -/

/-- Whether the solutions held out are taken as the truth (R210). -/
def Dev.reanchorDue (d : Dev) (edge : Nat) : Bool :=
  let t := ms (100 * max 1 (d.rd POSE.REANCHOR_TIME))
  (match d.pose.exclFrom with | some x => decide (x + t ≤ edge) | none => false) &&
  (match d.pose.agreeFrom with | some x => decide (x + t ≤ edge) | none => false) &&
  (match d.pose.lastSol with
   | some m => (!d.odoOn .wheel && !d.odoOn .canSpeed) ||
       d.pose.odoAcc.any (fun (a : Meas) => d.odoOn a.kind && decide ((m.spd - a.v1.natAbs : Int).natAbs ≤ 3 * a.sig))
   | none => false)

/-- Position and velocity set to a solution and their covariances to its covariance, heading and biases kept (R210). -/
def Dev.reanchored (d : Dev) (m : Meas) (x : Filt) : Filt :=
  let y := (d.firstTake { m with kind := .gnssPos } { x with posSet := false }).getD x
  if m.hasVel then
    let z := (d.firstTake { m with kind := .gnssVel } { y with velSet := false }).getD y
    { z with v := z.v.sub (z.c.app ((z.om.map (· / 1000000)).cross d.ant)) }
  else y

/-- ROLL and PITCH, and then the heading step (R214), in the T1 at `edge`. -/
def Dev.alignLevel (d : Dev) (edge : Nat) : Dev :=
  let d := if d.pose.resetReq then { d with pose := { d.pose with align := {}, level := {}, resetReq := false } } else d
  if d.pose.align.st ≠ 0 then d
  else if d.pose.kin then { d with pose := { d.pose with align := { d.pose.align with st := 1 } } }
  else match d.pose.level.since with
    | some f =>
      if d.pose.goodFrom.isSome && decide (f + sec 1 ≤ edge) then
        let d := d.modFilt d.levelled
        { d with pose := { d.pose with align := { d.pose.align with st := 1 }, level := {} } }
      else d
    | none => d

/-- The heading from the course of the antenna velocity (R214): corrected for the lever arm of the antenna under the yaw rate, reversed while
the direction source reports reverse; its variance is that of the velocity across the course. -/
def Dev.headed (d : Dev) (m : Meas) (x : Filt) : Filt :=
  let w := (x.om.map (· / 1000000)).z
  let side := fxMul w d.ant.x
  let v := (d.localTurn m).app (Vec3.ofInts m.ve m.vn m.vu)
  let fwd : Int := isqrt (v.x * v.x + v.y * v.y - side * side).toNat
  let turn : Int := atan2C side (if d.inReverse then -fwd else fwd)
  let h := ((headingOf v.x v.y + turn) % 36000).toNat
  let s := max (m.cov.getD 0 0) (m.cov.getD 1 0)
  let spd2 : Int := max 1 (m.spd * m.spd : Nat)
  { x with c := rAtt h x.c.angles.2.1 x.c.angles.2.2, cov := covOpen [8] (fun _ => s * 1000000000000 * fxOne / spd2) x.cov }

/-- The heading step of LEVELLED (R214): once the solution's speed reaches ALIGN_SPD. -/
def Dev.alignHead (d : Dev) : Dev :=
  match d.pose.lastSol with
  | some m =>
    if d.pose.align.st = 1 && !d.pose.align.hdgSet && m.hasVel && decide (d.rd POSE.ALIGN_SPD ≤ m.spd) then
      let d := d.modFilt (d.headed m)
      { d with pose := { d.pose with align := { d.pose.align with hdgSet := true, dist := 0 } } }
    else d
  | none => d

/-- The distance of ALIGNED (R214): `moved` mm since the last pose; a SIG_HDG above 2.00° starts the heading step again. -/
def Dev.alignStep (d : Dev) (now moved sigHdg : Nat) : Dev :=
  let a := d.pose.align
  if a.st = 1 && a.hdgSet then
    let dist := a.dist + moved
    if 200 < sigHdg then { d with pose := { d.pose with align := { a with hdgSet := false, dist := 0 } } }
    else if d.rd POSE.ALIGN_DIST ≤ dist then
      ({ d with pose := { d.pose with align := { a with st := 2, dist := dist } } }).fire now EVT.POSE_ALIGNED 0 2
    else { d with pose := { d.pose with align := { a with dist := dist } } }
  else d

/-- CLASS of a pose at `edge` (R215). -/
def Dev.poseClass (d : Dev) (edge sigH : Nat) (range : Bool) : Nat :=
  let aligned := d.pose.align.st == 2
  let age := ms (d.rd POSE.CLASS_AGE)
  let ty := match d.pose.gnssLast with | some (t, ty, true) => if edge ≤ t + age then ty else 0 | _ => 0
  let dr := match d.pose.gnssAcc with | some t => decide (edge ≤ t + ms (100 * d.rd POSE.DR_MAX)) | none => false
  let odo := d.pose.odoAcc.any (fun a => decide (edge ≤ a.dt + age))
  if !aligned || range then 0
  else if ty = 5 && decide (sigH ≤ d.rd POSE.SIG_FIX) && !d.pose.kin then 4
  else if 4 ≤ ty && decide (sigH ≤ d.rd POSE.SIG_FLOAT) then 3
  else if 1 ≤ ty && decide (sigH ≤ d.rd POSE.SIG_STD) then 2
  else if dr && decide (sigH ≤ d.rd POSE.DR_SIG_MAX) && (!d.pose.kin || odo) then 1
  else 0

/-! ### T1 (R207, R217, R223) -/

/-- The registers of the POSE page show the pose of the last T1 (Table 06.11). -/
def Dev.poseShow (d : Dev) (edge : Nat) (e : PoseEntry) (whlK canK : Int) : Dev :=
  let d := ((d.wrS POSE.POS_X e.x).wrS POSE.POS_Y e.y).wrS POSE.POS_Z e.z
  let d := ((d.wrS POSE.VEL_E e.ve).wrS POSE.VEL_N e.vn).wrS POSE.VEL_U e.vu
  let d := ((d.wrU POSE.SPD_VRP e.spd).wr POSE.HDG e.hdg).wrS POSE.ROLL e.roll
  let d := ((d.wrS POSE.PITCH e.pitch).wrS POSE.OMEGA_Z e.ozv).wrS POSE.OMEGA_X e.ox
  let d := ((d.wrS POSE.OMEGA_Y e.oy).wrU POSE.SIG_E e.sigE).wrU POSE.SIG_N e.sigN
  let d := ((d.wrU POSE.SIG_U e.sigU).wrU POSE.SIG_HDG e.sigHdg).wrU POSE.SIG_VH e.sigVh
  let d := ((d.wr POSE.CLASS e.cls).wr POSE.ALIGN_STATE d.pose.align.st).wrB POSE.IMU_MODE d.pose.kin
  let d := ((d.wr POSE.IMU_ACT (d.imuPort.getD 0)).wrB POSE.STEP e.step).wr POSE.POSE_TICK (e.tick % 2 ^ 32)
  let d := (d.wrS POSE.WHL_K (max (-10000) (min 10000 whlK))).wrS POSE.CAN_K (max (-10000) (min 10000 canK))
  d.wr POSE.GNSS_AGE (match d.pose.gnssAcc with | some t => min 0xFFFF ((edge - t) / ms 1) | none => 0xFFFF)

/-- The status of a stopped engine (R222). -/
def Dev.poseStop (d : Dev) (now : Nat) : Dev :=
  let was := d.rd POSE.CLASS
  let d := { d with pose := { d.pose with pose := {}, align := {}, gnssLast := none, gnssAcc := none, odoAcc := [], exclFrom := none,
                                          agreeFrom := none, lastSol := none, exclSrc := [], stillFrom := none, kin := true, goodFrom := none,
                                          meas := [], samples := [], running := false, filt := {}, level := {}, whlDt := 0 } }
  let d := ((d.poseShow 0 {} 0 0).wr POSE.IMU_ACT 0).wr POSE.POSE_TICK 0
  let d := (((d.wr POSE.GNSS_EXCL 0).wr POSE.ODO_EXCL 0).wr POSE.POS_RANGE 0).wr POSE.ZUPT_ACT 0
  if was = 0 then d else d.fire now EVT.POSE_CLASS 0 0

/-- The engine starts in the T1 at `edge` (R206, R222): the filter at its start, in INERTIAL mode if a vehicle unit is configured and not lost. -/
def Dev.poseBegin (d : Dev) (edge : Nat) : Dev :=
  if d.pose.running then d
  else { d with pose := { d.pose with filt := Filt.start edge, kin := !d.imuGood edge, goodFrom := none, level := {}, whlDt := 0 } }

/-- One axis saturated at ±2,000,000,000 mm (R196). -/
def posAxis (v : Int) : Int := max (-2000000000) (min 2000000000 v)

/-- Horizontal distance in mm. -/
def distOf (dx dy : Int) : Nat := isqrt (dx * dx + dy * dy).toNat

/-- A standard deviation from a variance in fixed point, saturating (R216). -/
def sigmaFx (v : Int) : Nat := min 0xFFFF (isqrtNear (max 0 (roundDiv v fxOne)).toNat)

/-- The pose of a state (Table 06.1), its CLASS and flags left to be set. -/
def Filt.entry (x : Filt) (kin : Bool) (edge k : Nat) : PoseEntry :=
  let a := x.c.angles
  let v := fun (i : Nat) => (x.cov.getD i []).getD i 0
  let rate := fun (w : Int) => roundDiv w (100 * fxOne)
  { dt := edge, tick := k, x := posAxis (fxRound x.p.x), y := posAxis (fxRound x.p.y), z := posAxis (fxRound x.p.z), ve := fxRound x.v.x,
    vn := fxRound x.v.y, vu := fxRound x.v.z, spd := distOf (fxRound x.v.x) (fxRound x.v.y), hdg := a.1,
    roll := if kin then 0 else a.2.2, pitch := if kin then 0 else a.2.1, ox := rate x.om.x, oy := rate x.om.y, oz := rate x.om.z,
    ozv := rate (x.c.app x.om).z, sigE := sigmaFx (v 0), sigN := sigmaFx (v 1), sigU := sigmaFx (v 2),
    sigHdg := min 0xFFFF (isqrtNear (max 0 (roundDiv (v 8) (fxOne * 30462))).toNat), sigVh := sigmaFx (max (v 3) (v 4)), kin := kin }

/-- T1 of tick `k` with the edge `edge` (R207). -/
def Dev.poseT1 (d : Dev) (now edge k : Nat) : Dev :=
  if !d.poseEn then (if d.pose.running then d.poseStop now else d)
  else
    let d := ((((d.poseBegin edge).imuLoss now edge).imuReturn edge).poseSamples edge).stillStep edge
    let isDue := fun (m : Meas) => decide (m.at_ ≤ edge) && decide (m.dt ≤ edge)
    let due := (d.pose.meas.filter isDue ++ d.ownMeas edge).mergeSort (fun a b => a.dt ≤ b.dt)
    let d := { d with pose := { d.pose with meas := d.pose.meas.filter (fun m => !isDue m) } }
    let d := match d.pose.orgDue && !d.pose.filt.posSet, due.find? (fun m => m.kind == .gnssPos) with
      | true, some m => { d with pose := { d.pose with frame := ⟨roundDiv m.v1 100, roundDiv m.v2 100, m.v3⟩ } }
      | _, _ => d
    let d := d.judgeAll now edge due
    let anchor : Bool := d.reanchorDue edge
    let d : Dev := match anchor, d.pose.lastSol with
      | true, some m =>
        ((({ d with pose := { d.pose with exclFrom := none, gnssAcc := some edge, gnssLast := some (m.dt, m.solType, true) } }).modFilt
          (d.reanchored m)).bump POSE.REANCHOR_CNT).fire now EVT.POSE_REANCHOR 0 0
      | _, _ => d
    let d := (d.alignLevel edge).alignHead
    let x := d.pose.filt.coast ((edge : Int) - d.pose.filt.t)
    let e := x.entry d.pose.kin edge k
    let out := decide (e.x ≠ fxRound x.p.x ∨ e.y ≠ fxRound x.p.y ∨ e.z ≠ fxRound x.p.z)
    let old := d.pose.pose
    let had := d.pose.running && !d.pose.gapDue
    let dt : Int := (edge - old.dt : Nat)
    let jump := distOf (e.x - old.x - old.ve * dt / 400000000) (e.y - old.y - old.vn * dt / 400000000)
    let step := anchor || (had && decide (d.rd POSE.STEP_WARN < jump))
    let d := d.alignStep now (if had then distOf (e.x - old.x) (e.y - old.y) else 0) e.sigHdg
    let cls := d.poseClass edge (max e.sigE e.sigN) out
    let e := { e with cls := cls, step := step, gnssExcl := d.on POSE.GNSS_EXCL, odoExcl := d.on POSE.ODO_EXCL, gap := d.pose.gapDue }
    let wasCls := d.rd POSE.CLASS
    let d := { d with pose := { d.pose with pose := e, hist := e :: (d.pose.hist.take 15999).filter (fun h => decide (edge ≤ h.dt + sec 4)), gapDue := false,
                                            running := true } }
    let d := d.poseShow edge e (roundDiv x.kw (10 * fxOne)) (roundDiv x.kc (10 * fxOne))
    let d := if out && !d.on POSE.POS_RANGE then (d.wr POSE.POS_RANGE 1).fire now EVT.POSE_RANGE 0 1 else d.wrB POSE.POS_RANGE out
    let d := if step then d.fire now EVT.POSE_STEP 0 0 else d
    if wasCls = cls then d else d.fire now EVT.POSE_CLASS 0 cls

/-- The FIELD_ORIGIN of AUTONOMOUS mode without one in the image (R96): the first pose of class STANDALONE or better, whatever
its place in the frame in which the engine worked until then; it is set with that T1. -/
def Dev.orgFromPose (d : Dev) (edge : Nat) : Dev :=
  let e := d.pose.pose
  if d.pose.orgDue && d.pose.running && decide (2 ≤ d.poseClass edge (max e.sigE e.sigN) false) then
    let a := d.pose.frame
    let at_ := (a.rot.tr.app (Vec3.ofInts e.x e.y e.z)).add a.pos
    let g := geodeticOf at_ 6 (100 * a.lat, 100 * a.lon, a.h)
    let d := ((d.wrS GEOP.ORG_LAT (roundDiv g.1 100)).wrS GEOP.ORG_LON (roundDiv g.2.1 100)).wrS GEOP.ORG_H g.2.2
    ({ d with pose := { d.pose with orgDue := false } }).reframe a
  else d

/-! ### History queries and Relight (R218, R220) -/

/-- HQ_DT_HI written (R218, Table 06.11): the query runs and its result is shown. -/
def Dev.historyQuery (d : Dev) (hi : Nat) : Dev :=
  let d := d.wr POSE.HQ_DT_HI hi
  let ns := d.rd2 POSE.HQ_DT_LO POSE.HQ_DT_HI
  let show_ := fun (d : Dev) (ws : List Nat) => d.each (List.range 16) (fun d i => d.wr (POSE.HQ_ENTRY i) (ws.getD i 0))
  match d.poseAt (cyclesOfNs ns) with
  | .notYet => show_ (d.wr POSE.HQ_STATUS 1) []
  | .outOfHistory => show_ (d.wr POSE.HQ_STATUS 2) []
  | .found e =>
    let w := (e.words.drop 2).take 13
    let w := ns % 2 ^ 32 :: ns / 2 ^ 32 :: w
    show_ (d.wr POSE.HQ_STATUS 0) (w ++ [crc16 (wordsToBytes w)])

/-- The history from the newest entry down to the first one whose CHK fails (R220). -/
def soundHist (l : List PoseEntry) : List PoseEntry := l.takeWhile (fun e => !e.bad)

/-- The pose engine at a Relight after a reset that began at `from_` (R220): the state is carried over the gap at its last velocity and
yaw rate with the noise of the gap, or lost. -/
def Dev.poseRelight (d : Dev) (now from_ : Nat) : Dev :=
  let keep := !d.pose.bad && decide (now ≤ from_ + ms (d.rd POSE.RELIGHT_GAP_MAX))
  let d := { d with pose := { d.pose with hist := soundHist d.pose.hist, gapDue := keep, meas := [], samples := [], bad := false } }
  if keep then
    if d.pose.running then d.modFilt (fun x => let t : Int := (now - x.t : Nat); d.propagate x d.pose.kin t (fun y => y.coast t)) else d
  else { d with pose := { d.pose with align := {}, running := false } }

/-! ### Commands -/

/-- IMU_RETURN, R213: the active unit has delivered for 1 s. -/
def execImuReturn (el : Nat) (s : State) : Host.Outcome State Fault Refusal :=
  s.run el (fun now d => if d.ticking && d.poseEn then d.imuReturn now else d)

/-- HISTORY_QUERY, R218: a write of HQ_DT_HI. -/
def execHistoryQuery (el : Nat) (hi : Word) (s : State) : Host.Outcome State Fault Refusal :=
  s.run el (fun _ d => if d.hif.inService then d.historyQuery hi.toNat else d)

/-- POSE_RESET, R223: a write of 1 to POSE_RESET. -/
def execPoseReset (el : Nat) (s : State) : Host.Outcome State Fault Refusal :=
  s.run el (fun _ d => if d.hif.inService then { d with pose := { d.pose with resetReq := true } } else d)

/-- IMU_PRIMARY, R213: a write of 1 to IMU_PRIMARY. -/
def execImuPrimary (el : Nat) (s : State) : Host.Outcome State Fault Refusal :=
  s.run el (fun now d => if d.hif.inService then d.imuPrimary now else d)

end Sys2Proof.Machine
end

