-- ==== Sys2Proof/Machine/Can.lean ====
section
/-! DEFINITION. The CAN controllers (R395 to R399) and ISO 11783 on CAN0 and CAN1 (R400 to R404), with the commands of the
family. -/

namespace Sys2Proof.Machine

/-- Base address of the page of controller `n` (R426). -/
def canPage (n : Nat) : Nat := 0x060000 + 0x1000 * n

/-- Whether controller `n` is in service: PROTO is not OFF, PG_EN is set, and the mode is not PLAIN (R395, R459). -/
def Dev.canActive (d : Dev) (n : Nat) : Bool :=
  d.rd (CAN.PROTO n) != 0 && d.pgEn (canPage n) && d.pwr.mode != .plain && d.alive && d.pwr.st != .ember

/-- Whether controller `n` may transmit: in service, not in listen-only mode (R397), not in bus-off. -/
def Dev.canTx (d : Dev) (n : Nat) : Bool := d.canActive n && !d.on (CAN.LISTEN n) && d.rd (CAN.CAN_STATE n) != 3

/-- Whether controller `n` runs ISO 11783 and may transmit. -/
def Dev.isoTx (d : Dev) (n : Nat) : Bool := d.canTx n && d.rd (CAN.PROTO n) == 1

/-- Whether controller `n` receives ISO 11783 parameter groups. -/
def Dev.isoRx (d : Dev) (n : Nat) : Bool := d.alive && d.canActive n && d.rd (CAN.PROTO n) == 1 && d.rd (CAN.CAN_STATE n) != 3

/-! ### ISO 11783 frames (R400, log entry 16) -/

/-- Sends a frame with a 29-bit identifier in classic format. -/
def Dev.isoSend (d : Dev) (n id : Nat) (data : List Nat) : Dev :=
  if d.isoTx n then d.canSend n { id := id, ide := true, data := data } else d

/-- The NAME of controller `n` (R401). -/
def Dev.isoName (d : Dev) (n : Nat) : Nat := d.rd2 (ISO.ISO_NAME_LO n) (ISO.ISO_NAME_HI n)

/-- Address Claimed, or Cannot Claim from address 254. -/
def Dev.sendClaim (d : Dev) (n sa : Nat) : Dev := d.isoSend n (0x18EEFF00 + sa) (bytesLE 8 (d.isoName n))

/-- The address the device answers to: the one in use. -/
def Dev.isoSa (d : Dev) (n : Nat) : Nat := d.rd (ISO.SA_ACT n)

/-! ### Address claim (R401) -/

/-- A claim of address `sa` begins. -/
def Dev.claim (d : Dev) (now n sa : Nat) : Dev :=
  let d := ((d.wr (ISO.SA_ACT n) 254).wr (ISO.CLAIMED n) 0).wr (ISO.CANNOT_CLAIM n) 0
  (d.modCan n (fun c => { c with claimFrom := some now, claimSa := sa })).sendClaim n sa

/-- The device claims PREF_SA when PROTO becomes ISO11783. -/
def Dev.claimStart (d : Dev) (now n : Nat) : Dev := (d.modCan n (fun c => { c with taken := [] })).claim now n (d.rd (ISO.PREF_SA n))

/-- The claim of an address that no NAME contested is complete after 250 ms. -/
def Dev.claimDone (d : Dev) (now n : Nat) : Dev :=
  let c := d.canCtl n
  match c.claimFrom with
  | some t =>
    if t + ms 250 ≤ now && d.isoTx n then
      ((d.modCan n (fun c => { c with claimFrom := none })).wr (ISO.SA_ACT n) c.claimSa).wr (ISO.CLAIMED n) 1
    else d
  | none => d

/-- The next free address from 128 to 247, those above `sa` first. -/
def Dev.freeAddr (d : Dev) (n sa : Nat) : Option Nat :=
  let all := (List.range 120).map (128 + ·)
  let free := fun a => a != sa && !(d.canCtl n).taken.any (fun x => x.1 == a)
  ((all.filter (fun a => decide (sa < a))) ++ all).find? free

/-- The device has lost its address `sa`: the next free one if the NAME is self-configurable (its bit 63), else Cannot
Claim. -/
def Dev.claimLost (d : Dev) (now n sa : Nat) : Dev :=
  let next := if bitOf (d.isoName n) 63 then d.freeAddr n sa else none
  match next with
  | some a => d.claim now n a
  | none =>
    let d := (((d.modCan n (fun c => { c with claimFrom := none })).wr (ISO.SA_ACT n) 254).wr (ISO.CLAIMED n) 0).wr (ISO.CANNOT_CLAIM n) 1
    (d.sendClaim n 254).fire now EVT.CAN_ADDR n 0

/-- Whether the device claims or holds an address on controller `n`. -/
def Dev.claims (d : Dev) (n : Nat) : Bool := (d.canCtl n).claimFrom.isSome || d.on (ISO.CLAIMED n)

/-- Another control function claims `sa` with `name`: a contest goes to the lower NAME. -/
def Dev.claimedRx (d : Dev) (now n sa name : Nat) : Dev :=
  let mine := d.claims n && (d.canCtl n).claimSa == sa
  if mine && decide (d.isoName n < name) then d.sendClaim n sa
  else
    let d := d.modCan n (fun c => { c with taken := (c.taken.filter (fun x => x.1 != sa && x.2 != name)) ++ (if sa < 254 then [(sa, name)] else []) })
    if mine then d.claimLost now n sa else d

/-- Request for Address Claimed is answered in every state. -/
def Dev.claimRequest (d : Dev) (n : Nat) : Dev :=
  if d.claims n then d.sendClaim n (d.canCtl n).claimSa else if d.on (ISO.CANNOT_CLAIM n) then d.sendClaim n 254 else d

/-! ### Configuration (R395, R396) -/

/-- The level of CANn_STB (R554): high while PROTO is OFF, in PLAIN mode and in EMBER, low otherwise. -/
def Dev.canStb (d : Dev) (n : Nat) : Bool := d.rd (CAN.PROTO n) == 0 || d.pwr.mode == .plain || d.pwr.st == .ember

/-- The CFG_ERR code of controller `n` as a commit of `adm` would leave it, 0 for none (R426). -/
def Dev.canCode (d : Dev) (adm : KMap) (n : Nat) : Nat :=
  let c := d.cand adm
  let proto := c (CAN.PROTO n)
  let frame := c (CAN.FRAME n)
  let out := fun v lo hi => decide (v < lo ∨ hi < v)
  if (2 ≤ n && proto == 1) || (n < 2 && proto == 2) then 1
  else if frame == 3 || (proto == 2 && frame == 0) || (proto == 1 && frame != 0) then 2
  else if out (c (CAN.NTSEG1 n)) 2 255 || out (c (CAN.NTSEG2 n)) 1 127 || out (c (CAN.NSJW n)) 1 (c (CAN.NTSEG2 n)) ||
      out (c (CAN.DTSEG1 n)) 1 63 || out (c (CAN.DTSEG2 n)) 1 31 || out (c (CAN.DSJW n)) 1 (c (CAN.DTSEG2 n)) then 3
  else 0

/-- Validation of the CAN configuration at a commit (R47, R395): what remains of `adm`, and the code of each controller with
a candidate. -/
def Dev.canStep (d : Dev) (adm : KMap) : KMap × List (Nat × Nat) :=
  (List.range 6).foldl (fun acc n =>
    if admHas acc.1 (canPage n + 0x40) (canPage n + 0x54) then
      let code := d.canCode acc.1 n
      (if code = 0 then acc.1 else admDrop acc.1 (canPage n + 0x40) (canPage n + 0x54), acc.2 ++ [(n, code)])
    else acc) (adm, [])

/-- CAN_STATE follows PROTO, PG_EN, LISTEN and the mode; a controller out of service keeps no frame, session or claim. -/
def Dev.canFollow (d : Dev) (n : Nat) : Dev :=
  if !d.canActive n then
    let d := d.modCan n (fun c => { c with mail := none, tpRx := none, tpTx := none, claimFrom := none, tx := [] })
    let d := ((d.wr (CAN.CAN_STATE n) 0).wr (CAN.TX_BUSY n) 0).wr (CAN.TEC n) 0
    let d := d.wr (CAN.REC_ERR n) 0
    if n < 2 then ((d.wr (ISO.CLAIMED n) 0).wr (ISO.SA_ACT n) 254).wr (ISO.TP_TX_BUSY n) 0 else d
  else if d.on (CAN.LISTEN n) then d.wr (CAN.CAN_STATE n) 4
  else if d.rd (CAN.CAN_STATE n) = 0 || d.rd (CAN.CAN_STATE n) = 4 then d.wr (CAN.CAN_STATE n) 1
  else d

/-- The 250 kbit/s row of Table 12.2 (R396). -/
def Dev.loadIsoTiming (d : Dev) (n : Nat) : Dev :=
  (((d.wr (CAN.NBRP n) 4).wr (CAN.NTSEG1 n) 69).wr (CAN.NTSEG2 n) 10).wr (CAN.NSJW n) 10

/-- Controller `n` after a change of what it runs; `was` says whether it ran ISO 11783 and could transmit before. -/
def Dev.canSettle (d : Dev) (now n : Nat) (was : Bool) : Dev :=
  let d := if d.rd (CAN.PROTO n) = 1 then d.loadIsoTiming n else d
  let d := d.canFollow n
  let d := if !d.on (CAN.LISTEN n) && d.rd (CAN.ABD_STATE n) != 0 then d.wr (CAN.ABD_STATE n) 0 else d
  if d.isoTx n && !was then d.claimStart now n else d

/-- After the values of a commit are active: CFG_ERR is shown and the controllers follow; `old` is the block before. -/
def Dev.canReport (d : Dev) (now : Nat) (codes : List (Nat × Nat)) (old : Dev) : Dev :=
  let d := d.each codes (fun d x => d.wr (CAN.CFG_ERR x.1) x.2)
  d.each (List.range 6) (fun d n => d.canSettle now n (old.isoTx n))

/-- The controllers at the end of mode selection and at the end of a Relight: they run what is configured. -/
def Dev.canStart (d : Dev) (now : Nat) : Dev := d.each (List.range 6) (fun d n => d.canSettle now n false)

/-! ### Receive queue (R398) -/

/-- The receive entry of a frame (Table 12.4), in bytes; `dt` in ns. -/
def rxEntry (f : CanFrame) (dt : Nat) : List Nat :=
  bytesLE 4 (f.id % 2 ^ 29 + 2 ^ 29 * b2n f.ide + 2 ^ 30 * b2n f.fdf + 2 ^ 31 * b2n f.xlf) ++ bytesLE 8 dt ++
  bytesLE 4 (f.data.length % 128 + 2 ^ 7 * b2n f.brs + 2 ^ 8 * b2n f.esi) ++ f.data.map (· % 256) ++ List.replicate (64 - f.data.length) 0

/-- An entry is written at the tail of the queue. -/
def Dev.rxPut (d : Dev) (n : Nat) (e : List Nat) : Dev :=
  let cnt := d.rd (CAN.RXQ_CNT n)
  let i := (d.rd (CAN.RX_HEAD n) + cnt) % 32
  { d with mem := memSetBytes d.mem (canPage n + 0x400 + 0x50 * i) e }.wr (CAN.RXQ_CNT n) (cnt + 1)

/-- A frame for the host (R398): the queue, the shadow buffer, or dropped. -/
def Dev.rxQueue (d : Dev) (n dt : Nat) (f : CanFrame) : Dev :=
  let e := rxEntry f dt
  if d.rd (CAN.RXQ_CNT n) < 32 then d.rxPut n e
  else if (d.canCtl n).shadow.isNone then (d.modCan n (fun c => { c with shadow := some e })).wr (CAN.SHADOW_FULL n) 1
  else d.bump (CAN.RX_DROP n)

/-- RX_ACK written with `k` (R398): no more entries are released than are owned. -/
def Dev.rxAck (d : Dev) (n k : Nat) : Dev :=
  let k := min k (d.rd (CAN.RXQ_CNT n))
  let d := (d.wr (CAN.RX_HEAD n) ((d.rd (CAN.RX_HEAD n) + k) % 32)).wr (CAN.RXQ_CNT n) (d.rd (CAN.RXQ_CNT n) - k)
  match (d.canCtl n).shadow with
  | some e => if k = 0 then d else ((d.modCan n (fun c => { c with shadow := none })).wr (CAN.SHADOW_FULL n) 0).rxPut n e
  | none => d

/-! ### Mailbox (R399) -/

/-- The mailbox frame as written, of no more bytes than its format carries (log entry 17). -/
def Dev.mailFrame (d : Dev) (n : Nat) : CanFrame :=
  let fmt := d.rd (CAN.FRAME n)
  let len := min (if fmt = 0 then 8 else 64) (d.rd (CAN.TX_LEN n))
  let bs := (List.range 16).flatMap (fun i => bytesLE 4 (d.rd (CAN.TX_DATA n i)))
  let pad := if fmt = 1 then fdLen len - len else 0
  { id := d.rd (CAN.TX_ID n), ide := d.on (CAN.TX_IDE n), fdf := fmt == 1, xlf := fmt == 2, brs := fmt == 1 && d.on (CAN.TX_BRS n),
    data := bs.take len ++ List.replicate pad 0,
    sdt := d.rd (CAN.XL_SDT n), vcid := d.rd (CAN.XL_VCID n), af := d.rd (CAN.XL_AF n) }

/-- Whether the host may send identifier `f` on a boom bus: function 16, or 0x780 to 0x7FF. -/
def hostIdOk (f : CanFrame) : Bool := !f.ide && (f.id / 64 == 16 || (0x780 ≤ f.id && f.id ≤ 0x7FF))

/-- Whether the host may transmit on controller `n`: a standby sends no VNP frame (R417). -/
def Dev.hostTx (d : Dev) (n : Nat) : Bool := d.canTx n && (d.rd (CAN.PROTO n) != 2 || d.vnpMaster)

/-- TX_GO written (R399). -/
def Dev.txGo (d : Dev) (n : Nat) : Dev :=
  if d.on (CAN.TX_BUSY n) then d
  else
    let f := d.mailFrame n
    if d.rd (CAN.PROTO n) = 2 && !hostIdOk f then d.wr (CAN.TX_REFUSED n) 1
    else
      let d := d.wr (CAN.TX_REFUSED n) 0
      if d.hostTx n then (d.modCan n (fun c => { c with mail := some f })).wr (CAN.TX_BUSY n) 1 else d

/-- The mailbox frame has been acknowledged, or is aborted (R399). -/
def Dev.mailDone (d : Dev) (n : Nat) (acked : Bool) : Dev :=
  match (d.canCtl n).mail with
  | none => d
  | some f =>
    let d := (d.modCan n (fun c => { c with mail := none })).wr (CAN.TX_BUSY n) 0
    if acked && d.hostTx n then d.canSend n f else d

/-! ### Bus errors and load (R425, R426) -/

/-- The error counters of the controller stand at `tec` and `rec` (R426): CAN_STATE as ISO 11898-1 places it (log entry
17). -/
def Dev.busError (d : Dev) (n tec rec_ : Nat) : Dev :=
  if !d.canActive n || d.on (CAN.LISTEN n) || d.rd (CAN.CAN_STATE n) == 3 then d
  else
    let d := (d.wr (CAN.TEC n) (min 255 tec)).wr (CAN.REC_ERR n) (min 255 rec_)
    if 255 < tec then
      let d := (d.wr (CAN.CAN_STATE n) 3).wr (CAN.TX_BUSY n) 0
      d.modCan n (fun c => { c with mail := none })
    else d.wr (CAN.CAN_STATE n) (if 127 < tec || 127 < rec_ then 2 else 1)

/-- BUS_ON written (R426): the controller returns from bus-off, its counters zero. -/
def Dev.busOn (d : Dev) (now n : Nat) : Dev :=
  if d.rd (CAN.CAN_STATE n) = 3 then
    (((d.wr (CAN.CAN_STATE n) 1).wr (CAN.TEC n) 0).wr (CAN.REC_ERR n) 0).canSettle now n false
  else d

/-- The load of a bus over the last second (R425). -/
def Dev.busLoad (d : Dev) (now n pct : Nat) : Dev :=
  let d := (d.wr (CAN.LOAD_LAST n) pct).wr (CAN.LOAD_MAX n) (max pct (d.rd (CAN.LOAD_MAX n)))
  if 50 < pct then d.fire now EVT.CAN_LOAD n pct else d

/-! ### Bit-rate detection (R397) -/

/-- ABD_START written. -/
def Dev.abdStart (d : Dev) (now n : Nat) : Dev :=
  let d := ((d.wr (CAN.LISTEN n) 1).wr (CAN.ABD_STATE n) 1).canFollow n
  d.modCan n (fun c => { c with abdFrom := now, abdCand := 0, abdTried := 0, abdGood := 0, abdData := 0, abdFast := false })

/-- Detection ends in `st` and EVT_CAN_ABD fires. -/
def Dev.abdEnd (d : Dev) (now n st : Nat) : Dev := (d.wr (CAN.ABD_STATE n) st).fire now EVT.CAN_ABD n st

/-- Bit time of nominal candidate `k`, in ns. -/
def abdNs (k : Nat) : Nat := match k with | 0 => 8000 | 1 => 4000 | 2 => 2000 | _ => 1000

/-- The candidate nearest an interval. -/
def abdNearest (ns : Nat) : Nat :=
  (List.range 4).foldl (fun b k => if ((abdNs k : Int) - ns).natAbs < ((abdNs b : Int) - ns).natAbs then k else b) 0

/-- 64 edges are measured; `ns` is the shortest interval between two. -/
def Dev.abdMeasured (d : Dev) (n ns : Nat) : Dev :=
  if d.rd (CAN.ABD_STATE n) = 1 && d.canActive n then
    (d.wr (CAN.ABD_STATE n) 2).modCan n (fun c => { c with abdCand := abdNearest ns, abdTried := 0, abdGood := 0, abdData := 0, abdFast := false })
  else d

/-- The timings found are written (Table 12.2; 125 kbit/s with twice the prescaler of 250 kbit/s, log entry 17). -/
def Dev.abdWrite (d : Dev) (n : Nat) : Dev :=
  let c := d.canCtl n
  let brp := match c.abdCand with | 0 => 8 | 1 => 4 | 2 => 2 | _ => 1
  let d := (((d.wr (CAN.NBRP n) brp).wr (CAN.NTSEG1 n) 69).wr (CAN.NTSEG2 n) 10).wr (CAN.NSJW n) 10
  let d := d.wr (CAN.ABD_NOM n) (c.abdCand + 1)
  if c.abdFast then
    let t := match c.abdData with | 0 => (29, 10) | 1 => (14, 5) | 2 => (11, 4) | 3 => (7, 2) | _ => (5, 2)
    ((((d.wr (CAN.DBRP n) 1).wr (CAN.DTSEG1 n) t.1).wr (CAN.DTSEG2 n) t.2).wr (CAN.DSJW n) t.2).wr (CAN.ABD_DATA n) (c.abdData + 1)
  else d.wr (CAN.ABD_DATA n) 0

/-- The next nominal candidate, or FAILED when each has been tried. -/
def Dev.abdNextNom (d : Dev) (now n : Nat) : Dev :=
  let c := d.canCtl n
  if 3 ≤ c.abdTried then d.abdEnd now n 4
  else d.modCan n (fun c => { c with abdTried := c.abdTried + 1, abdCand := (c.abdCand + 1) % 4, abdGood := 0, abdData := 0, abdFast := false })

/-- A frame at the candidate timing: `err` 0 none, 1 in the nominal phase, 2 in the data phase; `fast` whether it showed a
fast phase. -/
def Dev.abdTry (d : Dev) (now n err : Nat) (fast : Bool) : Dev :=
  if d.rd (CAN.ABD_STATE n) = 2 && d.canActive n then
    let d := d.modCan n (fun c => { c with abdFast := c.abdFast || fast })
    if err = 0 then
      let d := d.modCan n (fun c => { c with abdGood := c.abdGood + 1 })
      if max 1 (d.rd (CAN.ABD_FRAMES n)) ≤ (d.canCtl n).abdGood then (d.abdWrite n).abdEnd now n 3 else d
    else if err = 2 && fast then
      if (d.canCtl n).abdData < 4 then d.modCan n (fun c => { c with abdData := c.abdData + 1, abdGood := 0 }) else d.abdNextNom now n
    else d.abdNextNom now n
  else d

/-- ABD_TMO passes without lock. -/
def Dev.abdTimeout (d : Dev) (now n : Nat) : Dev :=
  let st := d.rd (CAN.ABD_STATE n)
  if (st = 1 || st = 2) && decide ((d.canCtl n).abdFrom + ms (d.rd (CAN.ABD_TMO n)) ≤ now) then d.abdEnd now n 4 else d

/-! ### Transport protocol, receive (R402) -/

/-- Address of the receive transport buffer of controller `n`; the transmit buffer lies 0x10000 above. -/
def tpBuf (n : Nat) : Nat := 0x470000 + 0x20000 * n

/-- Sends a connection management frame to `da`: TP.CM, or ETP.CM for an ETP session. -/
def Dev.tpCm (d : Dev) (n da : Nat) (etp : Bool) (data : List Nat) : Dev :=
  d.isoSend n ((if etp then 0x18C80000 else 0x18EC0000) + 256 * da + d.isoSa n) data

/-- Packets of a message. -/
def tpPackets (len : Nat) : Nat := (len + 6) / 7

/-- CTS for the next packets of the receive session. -/
def Dev.tpCts (d : Dev) (n : Nat) (s : TpSess) : Dev :=
  let got := s.data.length / 7
  let k := min (max 1 (d.rd (ISO.TP_CTS_PKTS n))) (tpPackets s.len - got)
  let d := d.modCan n (fun c => { c with tpRx := some { s with burst := k } })
  if s.etp then d.tpCm n s.addr true ([21, k] ++ bytesLE 3 (got + 1) ++ bytesLE 3 s.pgn)
  else d.tpCm n s.addr false ([17, k, got + 1, 255, 255] ++ bytesLE 3 s.pgn)

/-- Whether the receive transport buffer is owned by software or in use. -/
def Dev.tpRxBusy (d : Dev) (n : Nat) : Bool := d.on (ISO.TP_RX_FULL n) || (d.canCtl n).tpRx.isSome

/-- RTS from `sa`. -/
def Dev.tpRts (d : Dev) (n sa : Nat) (etp : Bool) (pgn len : Nat) : Dev :=
  if d.tpRxBusy n || 65536 < len then
    (d.bump (ISO.TP_REFUSED n)).tpCm n sa etp ([255, 2, 255, 255, 255] ++ bytesLE 3 pgn)
  else d.tpCts n { etp := etp, pgn := pgn, addr := sa, len := len }

/-- BAM from `sa`. -/
def Dev.tpBam (d : Dev) (n sa pgn len : Nat) : Dev :=
  if d.tpRxBusy n || 65536 < len then d.bump (ISO.TP_REFUSED n)
  else d.modCan n (fun c => { c with tpRx := some { bam := true, pgn := pgn, addr := sa, len := len } })

/-- A message is complete: it is in the buffer, which belongs to software. -/
def Dev.tpDone (d : Dev) (now n : Nat) (s : TpSess) (data : List Nat) : Dev :=
  let d := if s.bam then d
    else if s.etp then d.tpCm n s.addr true ([23] ++ bytesLE 4 s.len ++ bytesLE 3 s.pgn)
    else d.tpCm n s.addr false ([19] ++ bytesLE 2 s.len ++ [tpPackets s.len % 256, 255] ++ bytesLE 3 s.pgn)
  let d := { d with mem := memSetBytes d.mem (tpBuf n) data }.modCan n (fun c => { c with tpRx := none })
  let d := (((d.wr (ISO.TP_RX_LEN n) s.len).wr (ISO.TP_RX_PGN n) s.pgn).wr (ISO.TP_RX_SA n) s.addr).wr (ISO.TP_RX_FULL n) 1
  d.fire now EVT.CAN_TP_RX n 0

/-- A data packet of the receive session: `seq` counts from 1, within each burst for ETP. A packet out of order is asked for
again, and ends a BAM session (log entry 16). -/
def Dev.tpData (d : Dev) (now n sa seq : Nat) (bytes : List Nat) : Dev :=
  match (d.canCtl n).tpRx with
  | none => d
  | some s =>
    if s.addr != sa then d
    else
      let got := s.data.length / 7
      let kBurst := min (max 1 (d.rd (ISO.TP_CTS_PKTS n))) (s.burst + got)
      let expect := if s.etp then got % kBurst + 1 else got + 1
      if seq != expect then
        if s.bam then d.modCan n (fun c => { c with tpRx := none }) else d.tpCts n s
      else
        let data := s.data ++ (bytes.take 7).map (· % 256)
        if s.len ≤ data.length then d.tpDone now n s (data.take s.len)
        else
          let s' := { s with data := data, burst := s.burst - 1 }
          if s'.burst = 0 && !s.bam then d.tpCts n s' else d.modCan n (fun c => { c with tpRx := some s' })

/-- TP_RX_ACK written. -/
def Dev.tpRxAck (d : Dev) (n : Nat) : Dev := d.wr (ISO.TP_RX_FULL n) 0

/-- The sender aborts its session. -/
def Dev.tpAbortRx (d : Dev) (n sa : Nat) : Dev :=
  match (d.canCtl n).tpRx with
  | some s => if s.addr = sa && !s.bam then d.modCan n (fun c => { c with tpRx := none }) else d
  | none => d

/-! ### Transport protocol, transmit (R402) -/

/-- Packet `i`, from 0, of a message. -/
def tpPacket (data : List Nat) (i : Nat) : List Nat :=
  let p := (data.drop (7 * i)).take 7
  p ++ List.replicate (7 - p.length) 255

/-- Sends packets `from_` to `from_` + `k` - 1 of session `s`, numbered from `base` + 1. -/
def Dev.tpSendData (d : Dev) (n : Nat) (s : TpSess) (from_ k base : Nat) : Dev :=
  d.each (List.range k) (fun d j =>
    d.isoSend n ((if s.etp then 0x1CC70000 else 0x1CEB0000) + 256 * s.addr + d.isoSa n) ((base + j + 1) % 256 :: tpPacket s.data (from_ + j)))

/-- The transmit session ends with TP_TX_RES `r`. -/
def Dev.tpTxEnd (d : Dev) (n r : Nat) : Dev :=
  ((d.modCan n (fun c => { c with tpTx := none })).wr (ISO.TP_TX_BUSY n) 0).wr (ISO.TP_TX_RES n) r

/-- TP_TX_GO written: a single frame, BAM, RTS/CTS or ETP. -/
def Dev.tpTxGo (d : Dev) (n : Nat) : Dev :=
  let len := d.rd (ISO.TP_TX_LEN n)
  let pgn := d.rd (ISO.TP_TX_PGN n)
  let da := d.rd (ISO.TP_TX_DA n)
  if d.on (ISO.TP_TX_BUSY n) then d
  else if !d.isoTx n || !d.on (ISO.CLAIMED n) || len = 0 || 65536 < len || (da = 255 && 1785 < len) then d.wr (ISO.TP_TX_RES n) 2
  else
    let data := memGetBytes d.mem (tpBuf n + 0x10000) len
    let s : TpSess := { pgn := pgn, addr := da, len := len, data := data, etp := decide (1785 < len) }
    if len ≤ 8 then
      let id := 0x18000000 + (if pgn / 256 % 256 < 240 then 256 * (pgn / 256 * 256 + da) else 256 * pgn) + d.isoSa n
      (d.isoSend n id data).tpTxEnd n 1
    else if da = 255 then
      let d := d.tpCm n 255 false ([32] ++ bytesLE 2 len ++ [tpPackets len, 255] ++ bytesLE 3 pgn)
      (d.tpSendData n s 0 (tpPackets len) 0).tpTxEnd n 1
    else
      let d := ((d.modCan n (fun c => { c with tpTx := some s })).wr (ISO.TP_TX_BUSY n) 1).wr (ISO.TP_TX_RES n) 0
      if s.etp then d.tpCm n da true ([20] ++ bytesLE 4 len ++ bytesLE 3 pgn)
      else d.tpCm n da false ([16] ++ bytesLE 2 len ++ [tpPackets len, 255] ++ bytesLE 3 pgn)

/-- The receiver's answer to the transmit session: `kind` 0 CTS for `k` packets from packet `next`, counted from 1; 1 End of
Message Acknowledgement; 2 Connection Abort. -/
def Dev.tpAnswer (d : Dev) (n sa kind k next : Nat) : Dev :=
  match (d.canCtl n).tpTx with
  | none => d
  | some s =>
    if s.addr != sa then d
    else match kind with
    | 0 =>
      let k := min k (tpPackets s.len + 1 - next)
      if k = 0 || next = 0 then d
      else if s.etp then (d.tpCm n sa true ([22, k] ++ bytesLE 3 (next - 1) ++ bytesLE 3 s.pgn)).tpSendData n s (next - 1) k 0
      else d.tpSendData n s (next - 1) k (next - 1)
    | 1 => d.tpTxEnd n 1
    | _ => d.tpTxEnd n 2

/-! ### Pose inputs (R403, R404) -/

/-- DT stamped on a bus message: its receive DT `rx` less CAN_LAT (R198). -/
def Dev.canStamp (d : Dev) (rx : Nat) : Nat := rx - 4000 * d.rd POSE.CAN_LAT

/-- Whether the speed source `sa` is accepted, with the source kept. -/
def Dev.spdAccept (d : Dev) (n sa : Nat) : Bool × Dev :=
  let want := d.rd (ISO.SPD_SA n)
  if want != 255 then (want == sa, d)
  else match (d.canCtl n).spdSrc with
  | some x => (x == sa, d)
  | none => (true, d.modCan n (fun c => { c with spdSrc := some sa }))

/-- Whether the navigation source `sa` is accepted, with the source kept. -/
def Dev.navAccept (d : Dev) (n sa : Nat) : Bool × Dev :=
  let want := d.rd (ISO.NAV_SA n)
  if want != 255 then (want == sa, d)
  else match (d.canCtl n).navSrc with
  | some x => (x == sa, d)
  | none => (true, d.modCan n (fun c => { c with navSrc := some sa }))

/-- The bus of the tractor speed and of the machine direction. -/
def Dev.spdBus (d : Dev) : Nat := d.rd POSE.CAN_SPD_BUS

/-- A tractor speed of `mms` mm/s for the pose engine, received at `rx`, signed by DIR_SRC (R199). -/
def Dev.tractorSpeed (d : Dev) (now rx mms : Nat) : Dev :=
  let v : Int := if d.inReverse then -(mms : Int) else mms
  let d := { d with pose := { d.pose with canSpd := some v } }
  if d.poseEn then d.measIn { kind := .canSpeed, dt := d.canStamp rx, at_ := now, v1 := v, sig := d.rd POSE.CAN_SIG } else d

/-- PGN 65096 (R403): `mms` in mm/s, no speed above 64,255; `dir` 0 reverse, 1 forward, others no statement. -/
def Dev.wheelBased (d : Dev) (now rx n sa mms dir : Nat) : Dev :=
  let a := d.spdAccept n sa
  let d := a.2
  if a.1 && d.spdBus == n then
    let d := if dir < 2 then { d with pose := { d.pose with canRev := dir == 0 } } else d
    if d.rd POSE.CAN_SPD = 1 && mms ≤ 64255 then d.tractorSpeed now rx mms else d
  else d

/-- PGN 65097 (R403). -/
def Dev.groundBased (d : Dev) (now rx n sa mms : Nat) : Dev :=
  let a := d.spdAccept n sa
  let d := a.2
  if a.1 && d.spdBus == n && d.rd POSE.CAN_SPD = 2 && mms ≤ 64255 then d.tractorSpeed now rx mms else d

/-- Whether the pose engine takes its satellite solution from controller `n` (Table 06.12). -/
def Dev.navFrom (d : Dev) (n : Nat) : Bool := d.rd POSE.GNSS_SRC == n + 1

/-- UERE of a GNSS method, mm (R404): 4 RTK fixed, 5 RTK float. -/
def Dev.uere (d : Dev) (n method : Nat) : Nat :=
  match method with
  | 4 => d.rd (ISO.UERE_FIX n)
  | 5 => d.rd (ISO.UERE_FLOAT n)
  | _ => d.rd (ISO.UERE_STD n)

/-- PGN 129029 received at `rx` (R403, R404): latitude and longitude in 10^-9 °, height in mm, HDOP in 0.01; method 0 is no solution. -/
def Dev.navPosition (d : Dev) (now rx n sa : Nat) (lat lon h : Int) (method hdop : Nat) : Dev :=
  let a := d.navAccept n sa
  let d := a.2
  if a.1 && method != 0 then
    let ty := match method with | 4 => 5 | 5 => 4 | _ => 1
    let d := d.modCan n (fun c => { c with nav := some (now, [lat, lon, h]) })
    if d.navFrom n && d.poseEn then
      let s : Int := (hdop * d.uere n method / 100 : Nat)
      d.measIn { kind := .gnssPos, dt := d.canStamp rx, at_ := now, v1 := lat, v2 := lon, v3 := h, solType := ty,
                 cov := [s * s, s * s, 4 * s * s, 0, 0, 0] }
    else d
  else d

/-- PGN 129026 (R403, R404): course over ground in 10^-4 rad and speed in cm/s; a velocity for the solution of the newest
129029 received within 200 ms before. -/
def Dev.navVelocity (d : Dev) (now rx n sa cog sog : Nat) : Dev :=
  let a := d.navAccept n sa
  let d := a.2
  let paired := match (d.canCtl n).nav with | some x => decide (now ≤ x.1 + ms 200) | none => false
  if a.1 && paired && d.navFrom n && d.poseEn && sog ≤ 65532 && cog ≤ 65532 then
    let ang : Int := (cog : Int) * 5729577951308 / 1000000
    let ve := fxRound (sinN ang * (10 * sog))
    let vn := fxRound (cosN ang * (10 * sog))
    let at_ := match (d.canCtl n).nav with | some x => x.2 | none => []
    let s : Int := d.rd (ISO.NAV_VSIG n)
    d.measIn { kind := .gnssVel, dt := d.canStamp rx, at_ := now, v1 := at_.getD 0 0, v2 := at_.getD 1 0, v3 := at_.getD 2 0, hasVel := true,
               spd := 10 * sog, ve := ve, vn := vn, cov := [s * s, s * s, s * s, 0, 0, 0] }
  else d

/-- A complete 129029 message of `bs` bytes from `sa`, its first frame received at `rx` (R403; layout, log entry 16). -/
def Dev.navMessage (d : Dev) (now rx n sa : Nat) (bs : List Nat) : Dev :=
  let i64 := fun k => toS 64 (ofBytesLE ((bs.drop k).take 8))
  let hdop := toS 16 (ofBytesLE ((bs.drop 34).take 2))
  let none_ := fun k => i64 k == 2 ^ 63 - 1
  if bs.length < 36 || none_ 7 || none_ 15 || none_ 23 || hdop < 0 || hdop == 32767 then d
  else d.navPosition now rx n sa (i64 7 / 10000000) (i64 15 / 10000000) (i64 23 / 1000) (bs.getD 31 0 / 16) hdop.toNat

/-- A frame of the fast packets of 129029 from `sa`, received at `rx` (R403): frame 0 opens a message, frames out of sequence drop it. -/
def Dev.fastFrame (d : Dev) (now rx n sa : Nat) (bs : List Nat) : Dev :=
  let a := d.navAccept n sa
  let d := a.2
  let seq := bs.getD 0 0 / 32
  let cnt := bs.getD 0 0 % 32
  let take_ := fun (p : FastPkt) =>
    if p.total ≤ p.data.length then (d.modCan n (fun c => { c with fast := none })).navMessage now p.rx n sa (p.data.take p.total)
    else d.modCan n (fun c => { c with fast := some p })
  if !a.1 then d
  else if cnt = 0 then take_ { sa := sa, seq := seq, next := 1, total := bs.getD 1 0, data := bs.drop 2, rx := rx }
  else match (d.canCtl n).fast with
    | some p =>
      if p.sa == sa && p.seq == seq && p.next == cnt then take_ { p with next := cnt + 1, data := p.data ++ bs.drop 1 }
      else d.modCan n (fun c => { c with fast := none })
    | none => d

/-! ### Commands -/

/-- RX_ACK, R398. -/
def execRxAck (el : Nat) (ctl : Fin 6) (n : BitVec 6) (s : State) : Host.Outcome State Fault Refusal :=
  s.run el (fun _ d => if d.hif.inService then d.rxAck ctl.val n.toNat else d)

/-- ABD_START, R397. -/
def execAbdStart (el : Nat) (ctl : Fin 6) (s : State) : Host.Outcome State Fault Refusal :=
  s.run el (fun now d => if d.hif.inService then d.abdStart now ctl.val else d)

/-- ABD_MEASURE_DONE, R397. -/
def execAbdMeasureDone (el : Nat) (ctl : Fin 6) (ns : Nat) (s : State) : Host.Outcome State Fault Refusal :=
  s.run el (fun _ d => if d.alive then d.abdMeasured ctl.val ns else d)

/-- ABD_TRY_FRAME, R397. -/
def execAbdTryFrame (el : Nat) (ctl : Fin 6) (err : Fin 3) (fast : Bool) (s : State) : Host.Outcome State Fault Refusal :=
  s.run el (fun now d => if d.alive then d.abdTry now ctl.val err.val fast else d)

/-- ABD_TMO, R397. -/
def execAbdTmo (el : Nat) (ctl : Fin 6) (s : State) : Host.Outcome State Fault Refusal :=
  s.run el (fun now d => if d.alive then d.abdTimeout now ctl.val else d)

/-- TX_GO, R399. -/
def execTxGo (el : Nat) (ctl : Fin 6) (s : State) : Host.Outcome State Fault Refusal :=
  s.run el (fun _ d => if d.hif.inService then d.txGo ctl.val else d)

/-- MAILBOX_TX_DONE, R399. -/
def execMailboxTxDone (el : Nat) (ctl : Fin 6) (acked : Bool) (s : State) : Host.Outcome State Fault Refusal :=
  s.run el (fun _ d => if d.alive then d.mailDone ctl.val acked else d)

/-- BUS_ON, R426. -/
def execBusOn (el : Nat) (ctl : Fin 6) (s : State) : Host.Outcome State Fault Refusal :=
  s.run el (fun now d => if d.hif.inService then d.busOn now ctl.val else d)

/-- BUS_ERROR, R426. -/
def execBusError (el : Nat) (ctl : Fin 6) (tec : BitVec 9) (rec : BitVec 8) (s : State) : Host.Outcome State Fault Refusal :=
  s.run el (fun _ d => if d.alive then d.busError ctl.val tec.toNat rec.toNat else d)

/-- BUS_LOAD, R425. -/
def execBusLoad (el : Nat) (ctl : Fin 6) (pct : Fin 101) (s : State) : Host.Outcome State Fault Refusal :=
  s.run el (fun now d => if d.alive && d.canActive ctl.val then d.busLoad now ctl.val pct.val else d)

/-- ADDRESS_CLAIM_TIMEOUT, R401. -/
def execAddressClaimTimeout (el : Nat) (ctl : Fin 2) (s : State) : Host.Outcome State Fault Refusal :=
  s.run el (fun now d => if d.alive then d.claimDone now ctl.val else d)

/-- ADDRESS_CLAIMED_RX, R401. -/
def execAddressClaimedRx (el : Nat) (ctl : Fin 2) (sa : BitVec 8) (name : BitVec 64) (s : State) : Host.Outcome State Fault Refusal :=
  s.run el (fun now d => if d.isoRx ctl.val then d.claimedRx now ctl.val sa.toNat name.toNat else d)

/-- REQUEST_FOR_ADDRESS_CLAIMED, R401. -/
def execRequestForAddressClaimed (el : Nat) (ctl : Fin 2) (s : State) : Host.Outcome State Fault Refusal :=
  s.run el (fun _ d => if d.isoRx ctl.val then d.claimRequest ctl.val else d)

/-- TP_RTS, R402: an RTS sent to the claimed address. -/
def execTpRts (el : Nat) (ctl : Fin 2) (sa : BitVec 8) (etp : Bool) (pgn : BitVec 18) (len : Word) (s : State) : Host.Outcome State Fault Refusal :=
  s.run el (fun _ d => if d.isoRx ctl.val && d.on (ISO.CLAIMED ctl.val) then d.tpRts ctl.val sa.toNat etp pgn.toNat len.toNat else d)

/-- TP_BAM, R402. -/
def execTpBam (el : Nat) (ctl : Fin 2) (sa : BitVec 8) (pgn : BitVec 18) (len : BitVec 16) (s : State) : Host.Outcome State Fault Refusal :=
  s.run el (fun _ d => if d.isoRx ctl.val then d.tpBam ctl.val sa.toNat pgn.toNat len.toNat else d)

/-- TP_DATA_TRANSFER, R402. -/
def execTpDataTransfer (el : Nat) (ctl : Fin 2) (sa seq : BitVec 8) (data : List Byte) (s : State) : Host.Outcome State Fault Refusal :=
  s.run el (fun now d => if d.isoRx ctl.val then d.tpData now ctl.val sa.toNat seq.toNat (natBytes data) else d)

/-- TP_RX_ACK, R402. -/
def execTpRxAck (el : Nat) (ctl : Fin 2) (s : State) : Host.Outcome State Fault Refusal :=
  s.run el (fun _ d => if d.hif.inService then d.tpRxAck ctl.val else d)

/-- TP_TX_GO, R402. -/
def execTpTxGo (el : Nat) (ctl : Fin 2) (s : State) : Host.Outcome State Fault Refusal :=
  s.run el (fun _ d => if d.hif.inService then d.tpTxGo ctl.val else d)

/-- TP_CTS_RX, R402. -/
def execTpCtsRx (el : Nat) (ctl : Fin 2) (sa : BitVec 8) (kind : Fin 3) (n : BitVec 8) (next : BitVec 24) (s : State) :
    Host.Outcome State Fault Refusal :=
  s.run el (fun _ d => if d.isoRx ctl.val then d.tpAnswer ctl.val sa.toNat kind.val n.toNat next.toNat else d)

/-- WHEEL_BASED_SPEED, R403. -/
def execWheelBasedSpeed (el : Nat) (ctl : Fin 2) (sa : BitVec 8) (speed : BitVec 16) (dir : BitVec 2) (s : State) :
    Host.Outcome State Fault Refusal :=
  s.run el (fun now d => if d.isoRx ctl.val then d.wheelBased now now ctl.val sa.toNat speed.toNat dir.toNat else d)

/-- GROUND_BASED_SPEED, R403. -/
def execGroundBasedSpeed (el : Nat) (ctl : Fin 2) (sa : BitVec 8) (speed : BitVec 16) (s : State) : Host.Outcome State Fault Refusal :=
  s.run el (fun now d => if d.isoRx ctl.val then d.groundBased now now ctl.val sa.toNat speed.toNat else d)

/-- GNSS_POSITION_DATA, R404. -/
def execGnssPositionData (el : Nat) (ctl : Fin 2) (sa : BitVec 8) (lat lon h : Int) (method : BitVec 4) (hdop : BitVec 16) (s : State) :
    Host.Outcome State Fault Refusal :=
  s.run el (fun now d => if d.isoRx ctl.val then d.navPosition now now ctl.val sa.toNat lat lon h method.toNat hdop.toNat else d)

/-- COG_SOG_RAPID_UPDATE, R404. -/
def execCogSogRapidUpdate (el : Nat) (ctl : Fin 2) (sa : BitVec 8) (cog sog : BitVec 16) (s : State) : Host.Outcome State Fault Refusal :=
  s.run el (fun now d => if d.isoRx ctl.val then d.navVelocity now now ctl.val sa.toNat cog.toNat sog.toNat else d)

end Sys2Proof.Machine
end

