-- ==== Sys2Proof/Machine/Crc.lean ====
section
/-! DEFINITION. The eight check-value units (R482 to R485, R488). -/

namespace Sys2Proof.Machine

/-- The page of unit `n`. -/
def crcPage (n : Nat) : Nat := 0x078000 + 0x1000 * n

/-- STATE of unit `n`, as 64 bits. -/
def Dev.crcState (d : Dev) (n : Nat) : Nat := d.rd2 (CRC.STATE_LO n) (CRC.STATE_HI n)

/-- Sets STATE of unit `n`. -/
def Dev.setCrcState (d : Dev) (n v : Nat) : Dev := d.wr2 (CRC.STATE_LO n) (CRC.STATE_HI n) v

/-- Whether a DMA of unit `n` runs. -/
def Dev.crcBusy (d : Dev) (n : Nat) : Bool := d.on (CRC.DMA_BUSY n)

/-- Feeds bytes into unit `n` (R482). -/
def Dev.crcFeedBytes (d : Dev) (n : Nat) (bs : List Nat) : Dev :=
  d.setCrcState n (bs.foldl (crcFeed (d.crcWidth n) (d.rd2 (CRC.POLY_LO n) (CRC.POLY_HI n)) (d.on (CRC.REFIN n))) (d.crcState n))

/-- A write that a running DMA ignores (R485). -/
def Dev.crcIgnore (d : Dev) (n : Nat) : Dev := d.wr (CRC.FEED_IGN n) 1

/-- START written (R482): STATE = INIT, in its low WIDTH bits. -/
def Dev.crcStart (d : Dev) (n : Nat) : Dev :=
  if d.crcBusy n then d.crcIgnore n
  else if d.pgEn (crcPage n) then d.setCrcState n (d.rd2 (CRC.INIT_LO n) (CRC.INIT_HI n) % 2 ^ d.crcWidth n)
  else d

/-- DATA_IN written (R483): FEED_W bits of the word, least significant byte first. -/
def Dev.crcDataIn (d : Dev) (n w : Nat) : Dev :=
  if d.crcBusy n then d.crcIgnore n
  else if d.pgEn (crcPage n) then d.crcFeedBytes n (bytesLE (2 ^ min 2 (d.rd (CRC.FEED_W n))) w)
  else d

/-- STATE_HI written (R484): held until STATE_LO is written. -/
def Dev.crcStateHi (d : Dev) (n v : Nat) : Dev :=
  if d.crcBusy n then d.crcIgnore n else { d with hif := { d.hif with stateHi := tset d.hif.stateHi n v } }

/-- STATE_LO written (R484): both halves together, the upper one as held or as it stands. -/
def Dev.crcStateLo (d : Dev) (n v : Nat) : Dev :=
  if d.crcBusy n then d.crcIgnore n
  else
    let hi := (tget? d.hif.stateHi n).getD (d.rd (CRC.STATE_HI n))
    ({ d with hif := { d.hif with stateHi := tdel d.hif.stateHi n } }).setCrcState n (v % 2 ^ 32 + 2 ^ 32 * (hi % 2 ^ 32))

/-- A configuration field of unit `n` written (R485). -/
def Dev.crcConfig (d : Dev) (n : Nat) (f : Field) (v : Nat) : Dev := if d.crcBusy n then d.crcIgnore n else d.wr f v

/-- DMA_LEN of unit `n`: 0 is held at 1, the largest length is 2^24 (Table 14.11). -/
def Dev.crcLen (d : Dev) (n : Nat) : Nat := d.rdH 1 (2 ^ 24) (CRC.DMA_LEN n)

/-- Whether a source lies wholly in the point descriptor table or in the table window (R485). -/
def crcSourceOk (src len : Nat) : Bool :=
  (0x020000 ≤ src && src + len ≤ 0x030000) || (0x400000 ≤ src && src + len ≤ 0x800000)

/-- Byte `a` of the register space, as a host would read it. -/
def Dev.spaceByte (d : Dev) (now a : Nat) : Nat := bitsOf (d.readWord now (a / 4 * 4)) (8 * (a % 4)) 8

/-- The running DMA of unit `n` ends after `k` bytes, with the value of EVT_CRC_DONE (R476, R485). -/
def Dev.crcEnd (d : Dev) (now n k val : Nat) : Dev :=
  let d := d.crcFeedBytes n ((List.range k).map (fun i => d.spaceByte now (d.rd (CRC.DMA_SRC n) + i)))
  (((d.wr (CRC.DMA_BUSY n) 0).wr (CRC.DMA_DONE n) k)).fire now EVT.CRC_DONE n val

/-- DMA_GO written (R485): the feed starts, or is refused for its source. -/
def Dev.crcDmaGo (d : Dev) (now n : Nat) : Dev :=
  if d.crcBusy n || !d.pgEn (crcPage n) then d
  else if crcSourceOk (d.rd (CRC.DMA_SRC n)) (d.crcLen n) then (d.wr (CRC.DMA_BUSY n) 1).wr (CRC.DMA_DONE n) 0
  else (d.wr (CRC.DMA_ERR n) 1).fire now EVT.CRC_DONE n 2

/-- A running DMA of unit `n` is aborted (R485). How many bytes it has fed by then is open: a free value up to its length
(log entry 2). -/
def Dev.crcAbort (d : Dev) (now n : Nat) : Dev :=
  if d.crcBusy n then
    let r := d.draw 25
    r.2.crcEnd now n (min r.1 (d.crcLen n)) 1
  else d

/-- The running DMA of unit `n` has fed every byte (R485). -/
def Dev.crcDone (d : Dev) (now n : Nat) : Dev := if d.crcBusy n then d.crcEnd now n (d.crcLen n) 0 else d

/-- The units follow PG_EN after a commit (R459): without it a running DMA is aborted. -/
def Dev.crcFollow (d : Dev) (now : Nat) : Dev :=
  d.each (List.range 8) (fun d n => if d.pgEn (crcPage n) then d else d.crcAbort now n)

/-! ### Commands -/

/-- START, R482: a write of START. -/
def execStart (el : Nat) (n : Fin 8) (s : State) : Host.Outcome State Fault Refusal :=
  s.run el (fun _ d => if d.hif.inService then d.crcStart n.val else d)

/-- DATA_IN, R483: a write to DATA_IN. -/
def execDataIn (el : Nat) (n : Fin 8) (w : Word) (s : State) : Host.Outcome State Fault Refusal :=
  s.run el (fun _ d => if d.hif.inService then d.crcDataIn n.val w.toNat else d)

/-- STATE_WRITE, R484: a write of STATE_LO. -/
def execStateWrite (el : Nat) (n : Fin 8) (lo : Word) (s : State) : Host.Outcome State Fault Refusal :=
  s.run el (fun _ d => if d.hif.inService then d.crcStateLo n.val lo.toNat else d)

/-- DMA_GO, R485: a write of DMA_GO. -/
def execDmaGo (el : Nat) (n : Fin 8) (s : State) : Host.Outcome State Fault Refusal :=
  s.run el (fun now d => if d.hif.inService then d.crcDmaGo now n.val else d)

/-- DMA_ABORT, R485: a write of DMA_ABORT. -/
def execDmaAbort (el : Nat) (n : Fin 8) (s : State) : Host.Outcome State Fault Refusal :=
  s.run el (fun now d => if d.hif.inService then d.crcAbort now n.val else d)

/-- DMA_DONE, R485: the feed completes. -/
def execDmaDone (el : Nat) (n : Fin 8) (s : State) : Host.Outcome State Fault Refusal :=
  s.run el (fun now d => if d.alive then d.crcDone now n.val else d)

end Sys2Proof.Machine
end

