-- ==== Sys2Proof/Machine/Time.lean ====
section
/-! DEFINITION. Civil time (R243 to R252): the mapping from DT to GPS time, its steering, holdover and return, leap seconds
and the time pulse. -/

namespace Sys2Proof.Machine

/-- Nanoseconds of a GPS week. -/
def weekNs : Int := 604800000000000

/-- TIME_STATUS set, with its event at a change (R243). -/
def Dev.setTimeStatus (d : Dev) (now st : Nat) : Dev :=
  if d.rd TIME.TIME_STATUS = st then d
  else
    let was := d.rd TIME.TIME_STATUS
    let d := if was = 3 || (was = 2 && d.on TIME.TPO_STOP_FREERUN) then { d with time := { d.time with tpoFrom := now } } else d
    (d.wr TIME.TIME_STATUS st).fire now EVT.TIME_STATUS 0 st

/-- A mapping line through GPS time `gps` at DT `dt` in ns (R244). -/
def TimeMap.through (dt : Nat) (gps rate : Int) : TimeMap :=
  { dt := dt, week := (gps / weekNs).toNat, nsw := (gps % weekNs).toNat, rate := rate }

/-- The part of a phase error that is removed in a second (R245): at most 200 ns. -/
def slewPart (e : Int) : Int := max (-200) (min 200 e)

/-- The mapping set to a line through a time solution at `dtNs` (R251). -/
def Dev.mapSet (d : Dev) (dtNs : Nat) (t : TimeSol) : Dev :=
  { d with time := { d.time with map := .through dtNs t.gps t.freq, freqRate := t.freq, slew := 0, slewNow := 0, slewAt := dtNs,
                                 stepDue := none, lastSec := t.gps / 1000000000 } }

/-- The mapping stands on the good solution at `epoch` (R249), the newest. -/
def Dev.mapStands (d : Dev) (epoch : Nat) : Dev :=
  { d with time := { d.time with base := some epoch, baseGps := d.time.map.gps (nsOf epoch), unc0 := d.time.unc1,
                                 freqUnc := d.time.freqUnc1, freqRate := d.rdS TIME.FREQ_ERR } }

/-- A good time solution at `epoch` (R243, R245, R249): from INVALID it sets the mapping; in GNSS it is what the mapping
follows; in the other states it counts for the return. -/
def Dev.timeGood (d : Dev) (now epoch : Nat) (t : TimeSol) : Dev :=
  let run := match d.time.lastGood with
    | some l => if epoch ≤ l + sec 2 then some (d.time.goodFrom.getD epoch) else some epoch
    | none => some epoch
  let d := ({ d with time := { d.time with lastGood := some epoch, goodFrom := run, unc1 := t.unc, freqUnc1 := t.freqUnc,
                                           err := d.time.map.gps (nsOf epoch) - t.gps } }).wr
    TIME.FREQ_ERR (satS 32 t.freq)
  match d.rd TIME.TIME_STATUS with
  | 3 => ((d.mapSet (nsOf epoch) t).mapStands epoch).setTimeStatus now 0
  | 0 =>
    let d := d.mapStands epoch
    if d.on TIME.SLEWING then d
    else { d with time := { d.time with slew := d.time.err, slewAt := nsOf epoch } }
  | _ => d

/-- One re-anchoring of the mapping (R244, R245), a second after the last: the phase error still to be removed, and the
rate of the next second. -/
def Dev.reanchor1 (d : Dev) : Dev :=
  let t := d.time
  let a := t.map.dt + 1000000000
  let rem := t.slew - t.slewNow * ((a - t.slewAt : Nat) : Int) / 1000000000
  let part := slewPart rem
  let d := { d with time := { t with map := .through a (t.map.gps a) (t.freqRate - 1000 * part), slew := rem, slewAt := a, slewNow := part } }
  if d.on TIME.SLEWING then
    (d.wr TIME.SLEW_REM (satS 32 rem)).wrB TIME.SLEWING (decide (rem ≠ 0))
  else d

/-- MAP_REANCHOR: every second that has passed (R244), at most 64 of them. -/
def Dev.reanchor : Nat → Dev → Nat → Dev
  | 0, d, _ => d
  | fuel + 1, d, now =>
    if d.rd TIME.TIME_STATUS ≠ 3 && decide (d.time.map.dt + 1000000000 ≤ nsOf now) then Dev.reanchor fuel d.reanchor1 now else d

/-- HOLDOVER 2 s after the last good solution (R249): the mapping runs from that solution on at the oscillator's rate. -/
def Dev.holdoverCheck (d : Dev) (now : Nat) : Dev :=
  match d.time.base with
  | none => d
  | some b =>
    if d.rd TIME.TIME_STATUS = 0 && decide (b + sec 2 ≤ now) then
      let d := { d with time := { d.time with
        map := .through (nsOf b) d.time.baseGps d.time.freqRate, slew := 0, slewNow := 0, slewAt := nsOf b, goodFrom := none } }
      ((d.wr TIME.SLEWING 0).wr TIME.SLEW_REM 0).setTimeStatus now 1
    else d

/-- FREERUN once the time since the last good solution exceeds HOLDOVER_MAX (R250). -/
def Dev.freerunCheck (d : Dev) (now : Nat) : Dev :=
  let past := match d.time.base with | some b => decide (b + sec (max 1 (d.rd TIME.HOLDOVER_MAX)) < now) | none => false
  if d.rd TIME.TIME_STATUS = 1 && past then d.setTimeStatus now 2 else d

/-- The return to GNSS after 10 s of good solutions (R251): a small error is slewed away, a large one stepped. -/
def Dev.timeReturn (d : Dev) (now : Nat) : Dev :=
  match d.time.goodFrom, d.time.lastGood with
  | some f, some l =>
    if (d.rd TIME.TIME_STATUS = 1 || d.rd TIME.TIME_STATUS = 2) && d.time.stepDue.isNone && decide (f + sec 10 ≤ now)
        && decide (now ≤ l + sec 2) then
      let e := d.time.err
      if e.natAbs < 20000 then
        let d := d.mapStands l
        let d := { d with time := { d.time with slew := e, slewAt := nsOf now } }
        let part := slewPart e
        let d := { d with time := { d.time with map := .through (nsOf now) (d.time.map.gps (nsOf now)) (d.time.freqRate - 1000 * part),
                                                slewNow := part } }
        ((d.wrB TIME.SLEWING (decide (e ≠ 0))).wr TIME.SLEW_REM (satS 32 e)).setTimeStatus now 0
      else
        { d with time := { d.time with stepDue := some (e, (d.time.map.gps (nsOf now) - e) / 1000000000 + 1) } }
    else d
  | _, _ => d

/-- The mapping as stepped by -E (R251). -/
def TimeMap.shift (m : TimeMap) (e : Int) : TimeMap := .through m.dt (m.week * weekNs + m.nsw - e) m.rate

/-- A whole GPS second (R251, R254): a step that awaits it is made, and a new TPO_RATE takes effect. -/
def Dev.gpsSecond (d : Dev) (now : Nat) : Dev :=
  let d := match d.time.stepDue with
    | none => d
    | some (e, s) =>
      let m := d.time.map.shift e
      if s * 1000000000 ≤ m.gps (nsOf now) then
        let l := d.time.lastGood.getD now
        let d := { d with time := { d.time with map := m, stepDue := none, slew := 0, slewNow := 0, slewAt := nsOf now } }
        let d := d.mapStands l
        (((d.wr TIME.STEP 1).wr TIME.STEP_SIZE (satS 32 e)).fire now EVT.TIME_STEP 0 0).setTimeStatus now 0
      else d
  let s := d.time.map.gps (nsOf now) / 1000000000
  if d.rd TIME.TIME_STATUS ≠ 3 && decide (d.time.lastSec < s) then
    { d with time := { d.time with lastSec := s, tpoRate := d.rd TIME.TPO_RATE } }
  else d

/-- The leap second that the parameters named (R246). -/
def Dev.leapCheck (d : Dev) (now : Nat) : Dev :=
  match d.time.leap with
  | none => d
  | some (s, v) =>
    if d.rd TIME.TIME_STATUS ≠ 3 && decide (s * 1000000000 ≤ d.time.map.gps (nsOf now)) then
      ((({ d with time := { d.time with leap := none } }).wr TIME.LEAP_SEC v).wr TIME.LEAP_PENDING 0).fire now EVT.TIME_LEAP 0 0
    else d

/-- The UTC parameters of a passing navigation unit (R246). -/
def Dev.utcParams (d : Dev) (v : Nat) (leap : Option (Int × Nat)) : Dev :=
  let d := (d.wr TIME.LEAP_SEC v).wr TIME.UTC_VALID 1
  match leap with
  | none => ({ d with time := { d.time with leap := none } }).wr TIME.LEAP_PENDING 0
  | some x => ({ d with time := { d.time with leap := some x } }).wr TIME.LEAP_PENDING 1

/-- MAP_SNAP (R244): the mapping and TIME_STATUS latched as one set; the next read of TIME_STATUS gives the latched one (log entry 130). -/
def Dev.mapSnap (d : Dev) : Dev :=
  let m := d.time.map
  let d := { d with hif := { d.hif with latch := tset d.hif.latch 0x03604C (d.rd TIME.TIME_STATUS) } }
  (((d.wr2 TIME.MAP_DT_LO TIME.MAP_DT_HI m.dt).wr TIME.MAP_NSW_LO (m.nsw % 2 ^ 32)).wr TIME.MAP_NSW_HI (m.nsw / 2 ^ 32)).wr
    TIME.MAP_WEEK m.week |>.wrS TIME.MAP_RATE m.rate

/-! ### The time pulse (R247, R248) -/

/-- The TPO period in use, in ns. -/
def Dev.tpoPeriod (d : Dev) : Nat := 1000000000 / 10 ^ d.time.tpoRate

/-- TPO_WIDTH in cycles: 0 is held at 1 µs, a period or more at half the period. -/
def Dev.tpoWidth (d : Dev) : Nat :=
  let w := 1000 * max 1 (d.rd TIME.TPO_WIDTH)
  cyclesOfNs (if d.tpoPeriod ≤ w then d.tpoPeriod / 2 else w)

/-- Whether TPO pulses in the present states (Table 07.12). -/
def Dev.tpoActive (d : Dev) : Bool :=
  d.on TIME.TPO_EN && d.ticking && d.pwr.stage == .none &&
  (match d.rd TIME.TIME_STATUS with | 3 => false | 2 => !d.on TIME.TPO_STOP_FREERUN | _ => true)

/-- The latest DT up to `now` at which a mapping reaches a multiple of `per` ns plus `ofs` (R231, R247). -/
def TimeMap.lastEdge (m : TimeMap) (now per : Nat) (ofs : Int) : Nat :=
  let back := (m.gps (nsOf now) - ofs) % (per : Int) * 1000000000000 / (1000000000000 + m.rate)
  ((2 * (nsOf now : Int) - 2 * back + 4) / 5).toNat

/-- The mapping that places an edge: one at or past a second that awaits a step falls on the corrected time (R251). -/
def Dev.tpoMap (d : Dev) (now : Nat) : TimeMap :=
  match d.time.stepDue with
  | none => d.time.map
  | some (e, s) =>
    let m := d.time.map.shift e
    if (d.time.map.gps (nsOf now) - d.rdS TIME.TPO_OFS) / 1000000000 < s then d.time.map else m

/-- The multiple of the period, in ns of GPS time less TPO_OFS, that the newest edge marks (R247). -/
def Dev.tpoMultiple (d : Dev) (now : Nat) : Int :=
  let g := (d.tpoMap now).gps (nsOf now) - d.rdS TIME.TPO_OFS
  g - g % (d.tpoPeriod : Int)

/-- TPO_PULSE (R247): the newest leading edge, where TPO has pulsed since before it. An edge marks a multiple of the period not marked
before; after a change of TPO_OFS it is any edge after the last. -/
def Dev.tpoPulse (d : Dev) (now : Nat) : Dev :=
  if d.tpoActive then
    let ofs := d.rdS TIME.TPO_OFS
    let e := (d.tpoMap now).lastEdge now d.tpoPeriod ofs
    let k := d.tpoMultiple now
    let fresh := match d.time.tpoMark with
      | none => true
      | some (o, j) => if o = ofs then decide (j < k) else match d.time.tpoEdge with | some t => decide (t < e) | none => true
    if fresh && decide (d.time.tpoFrom ≤ e) then
      ({ d with time := { d.time with tpoEdge := some e, tpoMark := some (ofs, k) } }).wr2 TIME.TPO_DT_LO TIME.TPO_DT_HI (nsOf e)
    else d
  else d

/-- TPO begins to pulse at `now`, with the first edge from then on (R248). -/
def Dev.tpoStart (d : Dev) (now : Nat) : Dev := { d with time := { d.time with tpoEdge := none, tpoFrom := now } }

/-- The level of the TPO pin at `now` (R247, R248). -/
def Dev.tpoLevel (d : Dev) (now : Nat) : Bool :=
  let a := d.tpoActive && match d.time.tpoEdge with | none => false | some t => decide (now < t + d.tpoWidth)
  a != d.on TIME.TPO_POL

/-! ### Commands -/

/-- MAP_REANCHOR, R244. -/
def execMapReanchor (el : Nat) (s : State) : Host.Outcome State Fault Refusal :=
  s.run el (fun now d => if d.alive then Dev.reanchor 64 d now else d)

/-- MAP_SNAP, R244: a write of 1 to MAP_SNAP. -/
def execMapSnap (el : Nat) (s : State) : Host.Outcome State Fault Refusal :=
  s.run el (fun _ d => if d.hif.inService then d.mapSnap else d)

/-- HOLDOVER, R249. -/
def execHoldover (el : Nat) (s : State) : Host.Outcome State Fault Refusal :=
  s.run el (fun now d => if d.alive then d.holdoverCheck now else d)

/-- FREERUN, R250. -/
def execFreerun (el : Nat) (s : State) : Host.Outcome State Fault Refusal :=
  s.run el (fun now d => if d.alive then d.freerunCheck now else d)

/-- TIME_RETURN, R251. -/
def execTimeReturn (el : Nat) (s : State) : Host.Outcome State Fault Refusal :=
  s.run el (fun now d => if d.alive then d.timeReturn now else d)

/-- NEXT_WHOLE_GPS_SECOND, R251, R254. -/
def execNextWholeGpsSecond (el : Nat) (s : State) : Host.Outcome State Fault Refusal :=
  s.run el (fun now d => if d.alive then d.gpsSecond now else d)

/-- LEAP_SECOND, R246. -/
def execLeapSecond (el : Nat) (s : State) : Host.Outcome State Fault Refusal :=
  s.run el (fun now d => if d.alive then d.leapCheck now else d)

/-- TPO_PULSE, R247. -/
def execTpoPulse (el : Nat) (s : State) : Host.Outcome State Fault Refusal :=
  s.run el (fun now d => d.tpoPulse now)

end Sys2Proof.Machine
end

