-- ==== Sys2Proof/Machine/Gnss.lean ====
section
/-! DEFINITION. The satellite receiver (R225 to R242): the antenna, tracking channels, measurement epochs and their
solution, navigation data, RTCM 3 corrections, and tracking in EMBER. -/

namespace Sys2Proof.Machine

/-- Whether the receiver runs (R240, R241, R253): enabled, powered, and outside EMBER. -/
def Dev.gnssOn (d : Dev) : Bool := d.on GNSS.GNSS_EN && d.pgEn 0x035000 && d.alive && d.pwr.st != .ember

/-! ### The antenna (R226, Table 07.1) -/

/-- ANT_STATE set, with its event at a change. -/
def Dev.setAnt (d : Dev) (now st : Nat) : Dev :=
  if d.rd GNSS.ANT_STATE = st then d else (d.wr GNSS.ANT_STATE st).fire now EVT.GNSS_ANT 0 st

/-- The bias is switched on, and its current measured (R226). -/
def Dev.biasOn (d : Dev) (now : Nat) : Dev := (d.wr GNSS.ANT_MA (Config.antCurrent now).toNat).setAnt now 1

/-- ANT_EN in force: the bias is switched. -/
def Dev.antEnApply (d : Dev) (now : Nat) : Dev :=
  if d.on GNSS.ANT_EN then (if d.rd GNSS.ANT_STATE = 0 then d.biasOn now else d)
  else ({ d with gnss := { d.gnss with biasOffAt := none } }.wr GNSS.ANT_MA 0).setAnt now 0

/-- ANT_OPEN_MA, held at 1 and 20. -/
def Dev.antOpenMa (d : Dev) : Nat := d.rdH 1 20 GNSS.ANT_OPEN_MA

/-- A bias current below the threshold for 100 ms. -/
def Dev.antOpen (d : Dev) (now ma : Nat) : Dev :=
  if d.rd GNSS.ANT_STATE = 1 ∧ ma < d.antOpenMa then (d.wr GNSS.ANT_MA ma).setAnt now 2 else d

/-- A bias current back at the threshold or above. -/
def Dev.antOk (d : Dev) (now ma : Nat) : Dev :=
  if d.rd GNSS.ANT_STATE = 2 ∧ d.antOpenMa ≤ ma then (d.wr GNSS.ANT_MA ma).setAnt now 1 else d

/-- The current limit for 1 ms: the bias is off until ANT_RETRY. -/
def Dev.antShort (d : Dev) (now : Nat) : Dev :=
  if d.rd GNSS.ANT_STATE = 1 ∨ d.rd GNSS.ANT_STATE = 2 then
    ((({ d with gnss := { d.gnss with biasOffAt := some now } }).wr GNSS.ANT_MA 0).bump GNSS.ANT_SHORTS).setAnt now 3
  else d

/-- The bias is switched on again ANT_RETRY seconds after a short. -/
def Dev.antRetry (d : Dev) (now : Nat) : Dev :=
  match d.gnss.biasOffAt with
  | none => d
  | some t =>
    if d.rd GNSS.ANT_STATE = 3 ∧ t + sec (max 1 (d.rd GNSS.ANT_RETRY)) ≤ now then
      ({ d with gnss := { d.gnss with biasOffAt := none } }).biasOn now
    else d

/-! ### Channels (R227 to R230) -/

/-- STATE code of Table 07.3. -/
def ChanState.code : ChanState → Nat
  | .idle => 0 | .acq => 1 | .pullIn => 2 | .codeLock => 3 | .phaseLock => 4 | .reacq => 5

/-- Whether a state is CODE_LOCK or PHASE_LOCK. -/
def ChanState.locked (s : ChanState) : Bool := s == .codeLock || s == .phaseLock

/-- Channel `n`. -/
def Dev.chan (d : Dev) (n : Nat) : Chan := tget d.gnss.chans n

/-- Channel `n` changed by `f`. -/
def Dev.modChan (d : Dev) (n : Nat) (f : Chan → Chan) : Dev := { d with gnss := { d.gnss with chans := tmod d.gnss.chans n f } }

/-- A channel enters a state. -/
def Chan.enter (c : Chan) (now : Nat) (st : ChanState) : Chan := { c with st := st, since := now, weakSince := none, strongSince := none, narrow := false }

/-- A signal is detected (R229). -/
def Dev.chanDetect (d : Dev) (now n : Nat) : Dev :=
  match (d.chan n).st with
  | .acq => d.modChan n (·.enter now .pullIn)
  | .reacq => d.modChan n (·.enter now .codeLock)
  | _ => d

/-- The state timer of a channel, and 1 s of weak signal (R229). -/
def Dev.chanTimeout (d : Dev) (now n : Nat) : Dev :=
  let c := d.chan n
  match c.st with
  | .acq => if c.since + sec 60 ≤ now then d.modChan n (fun _ => {}) else d
  | .reacq => if c.since + sec 10 ≤ now then d.modChan n (fun _ => {}) else d
  | .pullIn => if c.since + ms 200 ≤ now then d.modChan n (·.enter now .codeLock) else d
  | .codeLock | .phaseLock =>
    (match c.weakSince with
     | some t => if t + sec 1 ≤ now then d.modChan n (·.enter now .reacq) else d
     | none => d)
  | .idle => d

/-- Carrier phase lock in CODE_LOCK (R229). -/
def Dev.chanPhaseLock (d : Dev) (now n : Nat) : Dev :=
  if (d.chan n).st = .codeLock then d.modChan n (fun c => { c with st := .phaseLock, since := now, lockFrom := now }) else d

/-- A loss of phase, or a cycle slip alone (R229). -/
def Dev.chanPhaseLoss (d : Dev) (now n : Nat) (slip : Bool) : Dev :=
  if (d.chan n).st = .phaseLock then
    d.modChan n (fun c => { c with slip := true, lockFrom := now, st := if slip then .phaseLock else .codeLock,
                                   since := if slip then c.since else now })
  else d

/-- Whether signal `sig` may be tracked (R228). -/
def Dev.sigEnabled (d : Dev) (sig : Nat) : Bool :=
  if sig = 6 then d.on GNSS.SBAS_EN
  else sig < 6 && bitOf (d.rd GNSS.CONST_EN) (sig / 2) && (sig % 2 == 0 || d.on GNSS.L5_EN)

/-- ELEV_MASK, held at 60. -/
def Dev.elevMask (d : Dev) : Nat := min 60 (d.rd GNSS.ELEV_MASK)

/-- The wanted signals in the order in which they are served (R228): L1 band before L5 band, each in descending
elevation. -/
def Dev.wantOrder (d : Dev) (want : List (Nat × Nat × Int)) : List (Nat × Nat) :=
  let w := want.filter (fun x => d.sigEnabled x.1 && decide ((d.elevMask : Int) ≤ x.2.2))
  let by_ := fun (l : List (Nat × Nat × Int)) => (l.mergeSort (fun a b => b.2.2 ≤ a.2.2)).map (fun x => (x.1, x.2.1))
  by_ (w.filter (fun x => x.1 % 2 == 0)) ++ by_ (w.filter (fun x => x.1 % 2 == 1))

/-- The satellite numbers of the constellation of a signal (log entry 132). -/
def svNumbers (sig : Nat) : List Nat :=
  match sig / 2 with
  | 0 => (List.range 32).map (· + 1)
  | 1 => (List.range 36).map (· + 1)
  | 2 => (List.range 63).map (· + 1)
  | _ => (List.range 39).map (· + 120)

/-- The signals of the whole sky from place `at_` of the search on, L1 band first (R228). -/
def Dev.skyOrder (d : Dev) (at_ : Nat) : List (Nat × Nat) :=
  let l := ([0, 2, 4, 6, 1, 3, 5].filter d.sigEnabled).flatMap (fun g => (svNumbers g).map (fun v => (g, v)))
  l.drop (at_ % max 1 l.length) ++ l.take (at_ % max 1 l.length)

/-- Whether a channel works on the signal `w`. -/
def Chan.tracks (c : Chan) (w : Nat × Nat) : Bool := c.st != .idle && c.sig == w.1 && c.sv == w.2

/-- The channel that gives way to the signal in place `r` of the order `l` where none is IDLE (R228): of those whose signal comes after it or
is not wanted, the one whose signal comes last. -/
def Dev.chanYield (d : Dev) (l : List (Nat × Nat)) (r : Nat) : Option Nat :=
  let place := fun (n : Nat) => (l.findIdx? (fun w => (d.chan n).tracks w)).getD l.length
  (List.range 128).foldl (fun best n =>
    if place n ≤ r then best
    else match best with
      | some b => if place b < place n then some n else best
      | none => some n) none

/-- Allocation (R228): channels of signals no longer enabled are released; each wanted signal that no channel tracks takes the lowest IDLE
channel, or one of a signal that is served after it. Without a position the IDLE channels search the whole sky in turn. -/
def Dev.chanAlloc (d : Dev) (now : Nat) (want : List (Nat × Nat × Int)) : Dev :=
  let d := { d with gnss := { d.gnss with chans := d.gnss.chans.map (fun (x : Nat × Chan) => if d.sigEnabled x.2.sig then x else (x.1, {})) } }
  let known := !d.gnss.startPos.isEmpty
  let l := if known then d.wantOrder want else d.skyOrder d.gnss.skyAt
  d.each l.zipIdx (fun d x =>
    let w := x.1
    if (List.range 128).any (fun n => (d.chan n).tracks w) then d
    else
      let idle := (List.range 128).find? (fun n => (d.chan n).st == ChanState.idle)
      match idle.orElse (fun _ => if known then d.chanYield l x.2 else none) with
      | none => d
      | some n =>
        let d := if known then d else { d with gnss := { d.gnss with skyAt := d.gnss.skyAt + 1 } }
        d.modChan n (fun _ => { st := .acq, sig := w.1, sv := w.2, since := now }))

/-- Wide spacing of a signal in 0.01 chip (Table 07.2). -/
def wideSpacing (sig : Nat) : Nat := if sig = 2 || sig = 4 then 50 else 100

/-- Narrow spacing of a signal in 0.01 chip (Table 07.2). -/
def narrowSpacing (sig : Nat) : Nat := if sig = 2 || sig = 4 then 15 else if sig = 1 || sig = 3 || sig = 5 then 50 else 20

/-- The spacing of a channel in use (R230). -/
def Dev.spacing (d : Dev) (c : Chan) : Nat :=
  let narrow := c.st.locked && (match d.rd GNSS.SPACING_MODE with | 1 => false | 2 => true | _ => c.narrow)
  if narrow then narrowSpacing c.sig else wideSpacing c.sig

/-- The C/N0 of an observation at `epoch` (R229, R230). -/
def Dev.chanCn0 (d : Dev) (epoch : Nat) (o : ChanObs) : Dev :=
  if (d.chan o.ch).st.locked then
    d.modChan o.ch (fun c =>
      let strong := if 140 ≤ o.cn0 then some (c.strongSince.getD epoch) else none
      { c with
        weakSince := if o.cn0 < 4 * d.rd GNSS.TRK_CN0_MIN then some (c.weakSince.getD epoch) else none
        strongSince := strong
        narrow := if c.narrow then decide (120 ≤ o.cn0) else match strong with | some t => decide (t + sec 1 ≤ epoch) | none => false })
  else d

/-! ### Epochs (R231 to R235) -/

/-- The interval of measurement epochs in ns (R231). -/
def Dev.epochNs (d : Dev) : Nat :=
  match d.rd GNSS.NAV_RATE with | 0 => 1000000000 | 1 => 500000000 | 2 => 200000000 | 3 => 100000000 | _ => 50000000

/-- The point of the epoch grid at or before `now` (R231): whether in GPS time, and its time in ns. -/
def Dev.epochPoint (d : Dev) (now : Nat) : Bool × Int :=
  let gps := decide (d.rd TIME.TIME_STATUS ≤ 1)
  let t : Int := if gps then d.time.map.gps (nsOf now) else nsOf now
  (gps, t - t % (d.epochNs : Int))

/-- The newest epoch DT at or before `now` (R231). -/
def Dev.epochDt (d : Dev) (now : Nat) : Nat :=
  if d.rd TIME.TIME_STATUS ≤ 1 then d.time.map.lastEdge now d.epochNs 0
  else cyclesOfNs (nsOf now / d.epochNs * d.epochNs)

/-- The constellation and number of a channel's satellite. -/
def Dev.satOf (d : Dev) (ch : Nat) : Nat × Nat := ((d.chan ch).sig / 2, (d.chan ch).sv)

/-- Whether an observation is open to the solution (R234): its channel locked, its satellite at or above ELEV_MASK, its C/N0 at CN0_MASK. -/
def Dev.obsOpen (d : Dev) (o : ChanObs) : Bool :=
  (d.chan o.ch).st.locked && decide ((d.elevMask : Int) ≤ o.elev) && decide (4 * d.rd GNSS.CN0_MASK ≤ o.cn0)

/-- Whether an observation counts in the solution (R234): it is open to it, and it is not the one that the consistency check excludes of its
constellation. -/
def Dev.obsUsed (d : Dev) (obs : List ChanObs) (o : ChanObs) : Bool :=
  d.obsOpen o && (obs.find? (fun x => d.obsOpen x && !x.kept && (d.satOf x.ch).1 == (d.satOf o.ch).1)).map ChanObs.ch != some o.ch

/-- The satellites of the used observations: constellation and number. -/
def Dev.satsUsed (d : Dev) (obs : List ChanObs) : List (Nat × Nat) :=
  ((obs.filter (d.obsUsed obs)).map (fun o => d.satOf o.ch)).dedup

/-- A raw record (Table 07.5). -/
def Dev.rawRecord (d : Dev) (epoch n : Nat) (obs : List ChanObs) (o : ChanObs) : List Nat :=
  let c := d.chan n
  let lock := if c.st = .phaseLock then min 0xFFFF ((epoch - c.lockFrom) / ms 10) else 0
  [n + 2 ^ 8 * c.sig + 2 ^ 12 * c.st.code + 2 ^ 16 * (c.sv % 256) + 2 ^ 24 * (o.cn0 % 256), o.pr % 2 ^ 32, o.pr / 2 ^ 32 % 2 ^ 32,
   ofS 64 o.cp % 2 ^ 32, ofS 64 o.cp / 2 ^ 32, ofS 32 o.dopp,
   lock + 2 ^ 16 * b2n c.st.locked + 2 ^ 17 * b2n (c.st == .phaseLock) + 2 ^ 18 * b2n o.half + 2 ^ 19 * b2n c.slip
     + 2 ^ 20 * b2n (d.obsUsed obs o),
   d.spacing c + 2 ^ 8 * ofS 8 o.elev + 2 ^ 16 * (o.az % 512)]

/-- The epoch header (Table 07.6) over `recs`. -/
def Dev.epochHeader (d : Dev) (epoch : Nat) (recs : List (List Nat)) : List Nat :=
  let st := d.rd TIME.TIME_STATUS
  let g := d.time.map.gps (nsOf epoch)
  let wk := if st = 3 then 0 else (g / weekNs).toNat
  let tow := if st = 3 then 0 else (g % weekNs).toNat
  let head := [nsOf epoch % 2 ^ 32, nsOf epoch / 2 ^ 32, wk % 65536 + 2 ^ 16 * (recs.length % 256) + 2 ^ 24 * d.rd GNSS.SOL_TYPE + 2 ^ 27 * st,
               tow % 2 ^ 32, tow / 2 ^ 32, 0, 0]
  head ++ [crc32 (wordsToBytes (head ++ [0] ++ recs.flatten))]

/-- How far time of week `b` lies after `a`, in ms, wrapped to half a week. -/
def towAfter (a b : Nat) : Int := ((b : Int) - a + 302400000) % 604800000 - 302400000

/-- The age of the newest closed correction epoch at `now`, in ms of GPS time (R238). -/
def Dev.corrAgeMs (d : Dev) (now : Nat) : Option Nat :=
  match d.gnss.closed with
  | none => none
  | some c =>
    if d.rd TIME.TIME_STATUS = 3 then none
    else some (towAfter c.time ((d.time.map.gps (nsOf now) / 1000000) % 604800000).toNat).toNat

/-- CORR_AGE_MAX in ms, 0 held at 1 s. -/
def Dev.corrAgeMax (d : Dev) : Nat := 1000 * max 1 (d.rd GNSS.CORR_AGE_MAX)

/-- A correction age beyond CORR_AGE_MAX (R239): reported once, and ambiguities are kept for 30 s more. -/
def Dev.corrAgeCheck (d : Dev) (now : Nat) : Dev :=
  match d.corrAgeMs now with
  | none => d
  | some a =>
    if a ≤ d.corrAgeMax then { d with gnss := { d.gnss with ageFired := false } }
    else if d.gnss.ageFired then d
    else
      ({ d with gnss := { d.gnss with ageFired := true, ambUntil := if 3 ≤ d.rd GNSS.SOL_TYPE then some (now + sec 30) else d.gnss.ambUntil } }).fire
        now EVT.GNSS_CORR_AGE 0 0

/-- Whether corrections may be used at `epoch` (R238, R239): fresh, with the position of their station within 60 s. -/
def Dev.corrUsable (d : Dev) (epoch : Nat) : Bool :=
  (match d.corrAgeMs epoch with | some a => decide (a ≤ d.corrAgeMax) | none => false) &&
  (match d.gnss.closed with
   | some c => (match tget? d.gnss.stations c.station with | some t => decide (epoch ≤ t + sec 60) | none => false)
   | none => false)

/-- SOL_TYPE of an epoch (R234, Table 07.8). -/
def Dev.solType (d : Dev) (epoch : Nat) (e : EpochIn) : Nat :=
  let conv := e.conv || (match d.gnss.ambUntil with | some t => decide (epoch ≤ t) | none => false)
  if (d.satsUsed e.obs).length < 4 || !e.consistent then 0
  else if d.on GNSS.RTK_EN && d.corrUsable epoch && conv then
    (if max 15 (d.rd GNSS.FIX_RATIO) ≤ e.ratio && !d.gnss.ambNew then 4 else 3)
  else if d.on GNSS.SBAS_EN && (match d.gnss.sbasAt with | some t => decide (epoch ≤ t + sec 12) | none => false) then 2
  else 1

/-- SOL_TYPE set, with its event at a change (R234). -/
def Dev.setSolType (d : Dev) (now ty : Nat) : Dev :=
  if d.rd GNSS.SOL_TYPE = ty then d else (d.wr GNSS.SOL_TYPE ty).fire now EVT.GNSS_SOL_TYPE 0 ty

/-- The receiver's type as the pose engine sees it (R198). -/
def poseSolType (ty : Nat) : Nat := match ty with | 3 => 4 | 4 => 5 | t => t

/-- The standard deviation of the largest of some variances. -/
def sigmaOf (l : List Int) : Nat := isqrtNear (l.foldl max 0).toNat

/-- The solution of an epoch (R234): its fields, and the measurements for the pose engine (Table 06.6). -/
def Dev.solution (d : Dev) (now epoch : Nat) (e : EpochIn) : Dev :=
  let ty := d.solType epoch e
  let d := d.setSolType now ty
  let d := (((d.wrU GNSS.SV_USED (d.satsUsed e.obs).length).wrU GNSS.PDOP e.pdop).wr2 GNSS.SOL_DT_LO GNSS.SOL_DT_HI (nsOf epoch)).wr
    GNSS.CORR_AGE (match d.corrAgeMs epoch with | some a => min 0xFFFF (a / 100) | none => 0xFFFF)
  let d := { d with gnss := { d.gnss with ambNew := false, ambUntil := if 3 ≤ ty then none else d.gnss.ambUntil, usedSats := d.satsUsed e.obs } }
  if ty = 0 then d
  else
    let d := { d with gnss := { d.gnss with startPos := [e.lat / 100, e.lon / 100, e.h] } }
    let d := ((d.wrS GNSS.SOL_LAT (e.lat / 100)).wrS GNSS.SOL_LON (e.lon / 100)).wrS GNSS.SOL_H e.h
    let d := (((d.wrS GNSS.SOL_VE e.ve).wrS GNSS.SOL_VN e.vn).wrS GNSS.SOL_VU e.vu).wrU GNSS.SOL_SIG_H (sigmaOf (e.posCov.take 2))
    let d := d.wrU GNSS.SOL_SIG_U (sigmaOf ((e.posCov.drop 2).take 1))
    if d.rd POSE.GNSS_SRC = 0 && d.poseEn then
      let spd := isqrt (e.ve * e.ve + e.vn * e.vn).toNat
      let p : Meas := { kind := .gnssPos, dt := epoch, at_ := now, v1 := e.lat, v2 := e.lon, v3 := e.h, solType := poseSolType ty,
                        spd := spd, ve := e.ve, vn := e.vn, vu := e.vu, hasVel := true, cov := e.posCov }
      (d.measIn p).measIn { p with kind := .gnssVel, cov := e.velCov }
    else d

/-- A measurement epoch (R231 to R235): channels, solution, time, raw records. -/
def Dev.gnssEpoch (d : Dev) (now : Nat) (e : EpochIn) : Dev :=
  let epoch := d.epochDt now
  let point := d.epochPoint now
  let fresh := match d.gnss.epochAt with
    | some (g, t) => if g = point.1 then decide (t < point.2) else decide (d.gnss.lastEpoch.getD 0 < epoch)
    | none => true
  if !fresh then d
  else
    let d := { d with gnss := { d.gnss with epochAt := some point } }
    let d := d.each e.obs (fun d o => (d.chanCn0 epoch o).modChan o.ch (fun c => if c.st.locked then { c with code := o.pr } else c))
    let d := (d.wrU GNSS.AGC_L1 e.agc1).wrU GNSS.AGC_L5 e.agc5
    let d := d.wr GNSS.CH_TRACK ((d.gnss.chans.filter (fun (x : Nat × Chan) => x.2.st.locked)).length)
    let d := (d.corrAgeCheck now).solution now epoch e
    let d := if 1 ≤ d.rd GNSS.SOL_TYPE ∧ 5 ≤ d.rd GNSS.SV_USED ∧ e.time.unc ≤ 50 then (d.timeGood now epoch e.time).timeReturn now else d
    let recs : Tab (List Nat) := (d.gnss.chans.filter (fun (x : Nat × Chan) => x.2.st != .idle)).map (fun (x : Nat × Chan) =>
      (x.1, d.rawRecord epoch x.1 e.obs ((e.obs.find? (fun o => o.ch == x.1)).getD { ch := x.1 })))
    let head := d.epochHeader epoch (recs.map (fun (x : Nat × List Nat) => x.2))
    let chans : Tab Chan := d.gnss.chans.map (fun (x : Nat × Chan) => (x.1, { x.2 with slip := false }))
    let d := { d with gnss := { d.gnss with raw := recs, header := head, lastEpoch := some epoch, almanac := true, chans := chans } }
    let d := if d.on GNSS.RAW_STREAM_EN then
        d.kspSend 0 4 ([0x32, 0, 0, 0] ++ wordsToBytes (head ++ (recs.map (fun (x : Nat × List Nat) => x.2)).flatten)) else d
    d.chanAlloc now e.want

/-- RAW_IDX written (R232): the record of that channel of the last complete epoch. -/
def Dev.rawSnap (d : Dev) (n : Nat) : Dev :=
  let r := (tget? d.gnss.raw n).getD [n]
  (d.wr GNSS.RAW_IDX n).each (List.range 8) (fun d i => d.wr (GNSS.RAW_REC i) (r.getD i 0))

/-- The receiver stops with its enable (R253). -/
def Dev.gnssEnable (d : Dev) (now : Nat) : Dev :=
  if d.on GNSS.GNSS_EN && d.pgEn 0x035000 then d
  else
    let d := { d with gnss := { d.gnss with chans := [], raw := [] } }
    ((d.wr GNSS.CH_TRACK 0).wr GNSS.SV_USED 0).setSolType now 0

/-! ### Navigation data (R233) -/

/-- Bits [lo, lo + w) of a byte string, first bit the most significant of the first byte. -/
def bitsBE (bs : List Nat) (lo w : Nat) : Nat :=
  (List.range w).foldl (fun a k => 2 * a + (bs.getD ((lo + k) / 8) 0) / 2 ^ (7 - (lo + k) % 8) % 2) 0

/-- The remainder of the first `n` bits of a string by the polynomial of CRC-24Q: 0 where they end with their own CRC. -/
def crc24Bits (bs : List Nat) (n : Nat) : Nat :=
  (List.range n).foldl (fun r k => (2 * r % 2 ^ 24) ^^^ (if (r / 2 ^ 23 + bitsBE bs k 1) % 2 = 1 then 0x864CFB else 0)) 0

/-- The source bits, from 1, that enter each parity bit of an LNAV word, and which of the last two bits of the word before does (0 for the
29th, 1 for the 30th; log entry 133). -/
def lnavParity : List (Nat × List Nat) :=
  [(0, [1, 2, 3, 5, 6, 10, 11, 12, 13, 14, 17, 18, 20, 23]), (1, [2, 3, 4, 6, 7, 11, 12, 13, 14, 15, 18, 19, 21, 24]),
   (0, [1, 3, 4, 5, 7, 8, 12, 13, 14, 15, 16, 19, 20, 22]), (1, [2, 4, 5, 6, 8, 9, 13, 14, 15, 16, 17, 20, 21, 23]),
   (1, [1, 3, 5, 6, 7, 9, 10, 14, 15, 16, 17, 18, 21, 22, 24]), (0, [3, 5, 6, 8, 9, 10, 11, 13, 15, 19, 22, 23, 24])]

/-- Whether the six parity bits of an LNAV word agree, after a word whose last two bits were `last2`. -/
def lnavOk (bs : List Nat) (last2 : Nat) : Bool :=
  let d30 := last2 % 2
  let src := fun (k : Nat) => (bitsBE bs (k - 1) 1 + d30) % 2
  lnavParity.zipIdx.all (fun x =>
    let star := if x.1.1 = 0 then last2 / 2 % 2 else d30
    decide (((x.1.2.map src).sum + star) % 2 = bitsBE bs (24 + x.2) 1))

/-- The check of a unit by its signal (Table 07.7): the parity of an LNAV word, CRC-24Q of every other unit. -/
def Chan.unitOk (c : Chan) (u : NavUnit) : Bool :=
  if c.sig = 0 then u.nbits == 30 && lnavOk u.bits c.last2 else decide (24 < u.nbits) && crc24Bits u.bits u.nbits == 0

/-- What a unit that passes is used for (R233): ephemeris and clock of its satellite, ionosphere, UTC, and SBAS corrections. -/
def Dev.navUse (d : Dev) (now : Nat) (c : Chan) (u : NavUnit) : Dev :=
  let d := match u.expiry with
    | some x => { d with gnss := { d.gnss with nav := tset d.gnss.nav (256 * c.sig + c.sv) x } }
    | none => d
  let d := if u.iono then { d with gnss := { d.gnss with ionoAt := some now } } else d
  let d := if c.sig = 6 then { d with gnss := { d.gnss with sbasAt := some now } } else d
  match u.utc with
  | some (v, leap) => d.utcParams v leap
  | none => d

/-- A demodulated unit of channel `n` (R233). -/
def Dev.navUnit (d : Dev) (now n : Nat) (u : NavUnit) : Dev :=
  let c := d.chan n
  if c.st != .phaseLock then d
  else
    let pass := c.unitOk u
    let d := d.modChan n (fun c => if c.sig = 0 then { c with last2 := bitsBE u.bits 28 2 } else c)
    let d := d.bump (if pass then GNSS.NAV_PASS else GNSS.NAV_FAIL)
    let d := if pass then d.navUse now c u else d
    if d.on GNSS.NAV_STREAM_EN then
      d.kspSend 0 4 ([0x33, 0, 0, 0] ++ wordsToBytes [n + 2 ^ 7 * b2n pass + 2 ^ 8 * c.sig + 2 ^ 16 * (c.sv % 256), u.dt % 2 ^ 32,
        u.dt / 2 ^ 32 % 2 ^ 32, u.nbits % 65536] ++ u.bits.map (· % 256))
    else d

/-! ### RTCM 3 (R236 to R238) -/

/-- RTCM_PUSH of `n` bytes (R236): appended, or refused whole. -/
def Dev.rtcmPush (d : Dev) (n : Nat) : Dev :=
  if n = 0 then d
  else if 1024 < n ∨ 8192 < d.gnss.rtcm.length + n then d.wr GNSS.RTCM_OVF 1
  else { d with gnss := { d.gnss with rtcm := d.gnss.rtcm ++ memGetBytes d.mem 0x035400 n } }

/-- CRC-24Q. -/
def crc24q (bs : List Nat) : Nat := bs.foldl (crcFeed 24 0x864CFB false) 0

/-- EVT_GNSS_RTCM_ERR, at most once per second (R237). -/
def Dev.rtcmErr (d : Dev) (now : Nat) : Dev :=
  if secPassed d.gnss.rtcmEvt now then
    ({ d with gnss := { d.gnss with rtcmEvt := some now } }).fire now EVT.GNSS_RTCM_ERR 0 0
  else d

/-- The constellation of an MSM4 or MSM7 of Table 07.9: 0 GPS, 1 Galileo, 2 BeiDou. -/
def msmConst (num : Nat) : Option Nat :=
  match num with
  | 1074 | 1077 => some 0
  | 1094 | 1097 => some 1
  | 1124 | 1127 => some 2
  | _ => none

/-- SIG of Table 07.2 of an MSM signal number of a constellation (log entry 134). -/
def msmSignal (k id : Nat) : Option Nat :=
  if 22 ≤ id ∧ id ≤ 24 then some (2 * k + 1)
  else match k with
    | 0 => if id = 2 then some 0 else none
    | 1 => if 2 ≤ id ∧ id ≤ 6 then some 2 else none
    | _ => if 30 ≤ id ∧ id ≤ 32 then some 4 else none

/-- The cells of an MSM4 or, with `seven`, MSM7 of constellation `k` (R237; its layout, log entry 134): for each cell of a signal of Table
07.2 its constellation, satellite and SIG, the satellite's fields and its own, signed where they are. -/
def msmCells (k : Nat) (seven : Bool) (m : List Nat) : List (List Int) :=
  let sats := (List.range 64).filter (fun i => bitsBE m (73 + i) 1 == 1)
  let sigs := (List.range 32).filter (fun i => bitsBE m (137 + i) 1 == 1)
  let pairs := sats.zipIdx.flatMap (fun s => sigs.map (fun g => (s, g)))
  let cells := (pairs.zipIdx.filter (fun x => bitsBE m (169 + x.2) 1 == 1)).map (fun x => x.1)
  let satW : List (Nat × Bool) := if seven then [(8, false), (4, false), (10, false), (14, true)] else [(8, false), (10, false)]
  let sigW : List (Nat × Bool) :=
    if seven then [(20, true), (24, true), (10, false), (1, false), (10, false), (15, true)]
    else [(15, true), (22, true), (4, false), (1, false), (6, false)]
  let fields := fun (base n i : Nat) (ws : List (Nat × Bool)) => (ws.zipIdx.map (fun w =>
    let v := bitsBE m (base + n * ((ws.take w.2).map Prod.fst).sum + i * w.1.1) w.1.1
    if w.1.2 then toS w.1.1 v else (v : Int)))
  let satAt := 169 + pairs.length
  let sigAt := satAt + sats.length * (satW.map Prod.fst).sum
  cells.zipIdx.filterMap (fun x =>
    (msmSignal k (x.1.2 + 1)).map (fun g =>
      [(k : Int), (x.1.1.1 : Int) + 1, (g : Int)] ++ fields satAt sats.length x.1.1.2 satW ++ fields sigAt cells.length x.2 sigW))

/-- The base position of a 1005 or 1006 (R237): earth-centred x, y, z and antenna height, in 0.1 mm (its layout, log entry 134). -/
def basePosition (m : List Nat) : List Int :=
  [toS 38 (bitsBE m 34 38), toS 38 (bitsBE m 74 38), toS 38 (bitsBE m 114 38), if bitsBE m 0 12 = 1006 then bitsBE m 152 16 else 0]

/-- A correction epoch closes (R238): the newest one is used from then on; a new reference station restarts ambiguity
resolution. -/
def Dev.corrClose (d : Dev) (now : Nat) (c : CorrEpoch) : Dev :=
  let d := { d with gnss := { d.gnss with opens := d.gnss.opens.filter (fun x => x.time != c.time) } }
  match d.gnss.closed with
  | none => ({ d with gnss := { d.gnss with closed := some c } }).wr GNSS.BASE_ID c.station
  | some o =>
    if towAfter o.time c.time < 0 then d
    else
      let d := ({ d with gnss := { d.gnss with closed := some c } }).wr GNSS.BASE_ID c.station
      let d := if c.station = o.station then d
        else
          let d := { d with gnss := { d.gnss with ambNew := true, ambUntil := none } }
          if d.rd GNSS.SOL_TYPE = 4 then d.setSolType now 3 else d
      d.corrAgeCheck now

/-- An MSM of constellation `k` arrives (R238). -/
def Dev.msmRx (d : Dev) (now k station tow : Nat) (more : Bool) (cells : List (List Int)) : Dev :=
  let tow := if k = 2 then (tow + 14000) % 604800000 else tow % 604800000
  let old := match d.gnss.closed with | some c => decide (towAfter c.time tow < 0) | none => false
  if old then d
  else
    let c := (d.gnss.opens.find? (fun x => x.time == tow)).getD { time := tow, station := station, first := now }
    let c := { c with seen := setBitOf c.seen k true, done := setBitOf c.done k (!more), obs := c.obs ++ cells }
    let d := { d with gnss := { d.gnss with opens := d.gnss.opens.filter (fun x => x.time != tow) ++ [c] } }
    if c.done = c.seen then d.corrClose now c else d

/-- A checked message of Table 07.9 (R237, R238). -/
def Dev.rtcmMsg (d : Dev) (now : Nat) (m : List Nat) : Dev :=
  let num := bitsBE m 0 12
  let station := bitsBE m 12 12
  if num = 1005 ∨ num = 1006 then
    { d with gnss := { d.gnss with stations := tset d.gnss.stations station now, bases := tset d.gnss.bases station (basePosition m) } }
  else if num = 1033 then { d with gnss := { d.gnss with descr := m } }
  else match msmConst num with
    | some k => d.msmRx now k station (bitsBE m 24 30) (bitsBE m 54 1 == 1) (msmCells k (num % 10 == 7) m)
    | none => (d.bump GNSS.RTCM_UNSUP).rtcmErr now

/-- The next frame of the input queue (R237): bytes before a preamble go; a frame that is not yet whole waits. -/
def Dev.rtcmFrame (d : Dev) (now : Nat) : Dev :=
  let q := d.gnss.rtcm.dropWhile (· != 0xD3)
  let d := { d with gnss := { d.gnss with rtcm := q } }
  if q.length < 3 then d
  else if bitsBE q 8 6 ≠ 0 then ((({ d with gnss := { d.gnss with rtcm := q.drop 1 } }).bump GNSS.RTCM_CRC_ERR).rtcmErr now)
  else
    let len := bitsBE q 14 10
    if q.length < len + 6 then d
    else if crc24q (q.take (len + 3)) = bitsBE q (8 * (len + 3)) 24 then
      ({ d with gnss := { d.gnss with rtcm := q.drop (len + 6) } }).rtcmMsg now ((q.drop 3).take len)
    else (({ d with gnss := { d.gnss with rtcm := q.drop 1 } }).bump GNSS.RTCM_CRC_ERR).rtcmErr now

/-- A correction epoch closes 200 ms after its first message (R238). -/
def Dev.corrTimeout (d : Dev) (now : Nat) : Dev :=
  d.each (d.gnss.opens.filter (fun c => decide (c.first + ms 200 ≤ now))) (fun d c => d.corrClose now c)

/-! ### EMBER (R241) -/

/-- Tracking in EMBER is on. -/
def Dev.emberTrk (d : Dev) : Bool := d.pwr.st == .ember && d.on GNSS.EMBER_TRK && d.on GNSS.GNSS_EN && d.pgEn 0x035000

/-- The burst of a second (R241), over the L1-band signals of up to 8 satellites: it renews their code phases, and a good time solution from
them steers the mapping and the oscillator's frequency as in service (R245, R251). -/
def Dev.emberBurst (d : Dev) (now : Nat) (obs : List ChanObs) (t : TimeSol) : Dev :=
  if d.emberTrk && (match d.gnss.lastBurst with | some b => decide (b + sec 1 ≤ now) | none => true) then
    let obs := obs.filter (fun o => (d.chan o.ch).st.locked && (d.chan o.ch).sig % 2 == 0)
    let sats := ((obs.map (fun o => d.satOf o.ch)).dedup).take 8
    let d := { d with gnss := { d.gnss with lastBurst := some now, usedSats := sats } }
    let d := d.each obs (fun d o => if sats.contains (d.satOf o.ch) then d.modChan o.ch (fun c => { c with code := o.pr }) else d)
    if 5 ≤ sats.length ∧ t.unc ≤ 50 then (((Dev.reanchor 64 d now).timeGood now now t).timeReturn now).gpsSecond now else d
  else d

/-- The channels that go on into EMBER (R241): the locked L1-band ones of up to 8 satellites while EMBER_TRK is set, else none. -/
def Dev.emberChans (d : Dev) : Dev :=
  let l1 := d.gnss.chans.filter (fun (x : Nat × Chan) => x.2.st.locked && x.2.sig % 2 == 0)
  let keep : Tab Chan := if d.on GNSS.EMBER_TRK && d.on GNSS.GNSS_EN && d.pgEn 0x035000 then l1.take 8 else []
  let d := { d with gnss := { d.gnss with chans := keep, raw := [] } }
  (d.wr GNSS.CH_TRACK 0).wr GNSS.SV_USED 0

/-- The channels after EMBER search around their last code phase and Doppler (R229, R240; log entry 135). -/
def Dev.emberReacq (d : Dev) (now : Nat) : Dev :=
  { d with gnss := { d.gnss with chans := d.gnss.chans.map (fun (x : Nat × Chan) => (x.1, x.2.enter now .reacq)) } }

/-- The burst that decodes a new ephemeris (R241) for the satellite of `key`, where a used one expires within 30 min. -/
def Dev.ephBurst (d : Dev) (now key expiry : Nat) (ok : Bool) : Dev :=
  let due := d.gnss.usedSats.contains (key / 256 / 2, key % 256) &&
    match tget? d.gnss.nav key with | some x => decide (x ≤ now + sec 1800) | none => false
  if d.emberTrk && due && (match d.gnss.lastEphBurst with | some b => decide (b + sec 600 ≤ now) | none => true) then
    let d := { d with gnss := { d.gnss with lastEphBurst := some now } }
    if ok then { d with gnss := { d.gnss with nav := tset d.gnss.nav key expiry } } else d
  else d

/-! ### Commands -/

/-- ANT_OPEN, R226: the bias current has been `ma` for 100 ms. -/
def execAntOpen (el : Nat) (ma : BitVec 6) (s : State) : Host.Outcome State Fault Refusal :=
  s.run el (fun now d => if d.alive then d.antOpen now ma.toNat else d)

/-- ANT_SHORT, R226: the current limit has been reached for 1 ms. -/
def execAntShort (el : Nat) (s : State) : Host.Outcome State Fault Refusal :=
  s.run el (fun now d => if d.alive then d.antShort now else d)

/-- ANT_RETRY, R226. -/
def execAntRetry (el : Nat) (s : State) : Host.Outcome State Fault Refusal :=
  s.run el (fun now d => if d.alive then d.antRetry now else d)

/-- ANT_OK, R226: the bias current has risen to `ma`. -/
def execAntOk (el : Nat) (ma : BitVec 6) (s : State) : Host.Outcome State Fault Refusal :=
  s.run el (fun now d => if d.alive then d.antOk now ma.toNat else d)

/-- SIGNAL_DETECTION, R229. -/
def execSignalDetection (el : Nat) (ch : Fin 128) (s : State) : Host.Outcome State Fault Refusal :=
  s.run el (fun now d => if d.gnssOn then d.chanDetect now ch else d)

/-- CHANNEL_TIMEOUT, R229. -/
def execChannelTimeout (el : Nat) (ch : Fin 128) (s : State) : Host.Outcome State Fault Refusal :=
  s.run el (fun now d => if d.gnssOn then d.chanTimeout now ch else d)

/-- CARRIER_PHASE_LOCK, R229. -/
def execCarrierPhaseLock (el : Nat) (ch : Fin 128) (s : State) : Host.Outcome State Fault Refusal :=
  s.run el (fun now d => if d.gnssOn then d.chanPhaseLock now ch else d)

/-- PHASE_LOSS, R229: a loss of phase, or with `slip` a cycle slip alone. -/
def execPhaseLoss (el : Nat) (ch : Fin 128) (slip : Bool) (s : State) : Host.Outcome State Fault Refusal :=
  s.run el (fun now d => if d.gnssOn then d.chanPhaseLoss now ch slip else d)

/-- MEASUREMENT_EPOCH, R231. -/
def execMeasurementEpoch (el : Nat) (e : EpochIn) (s : State) : Host.Outcome State Fault Refusal :=
  s.run el (fun now d => if d.gnssOn then d.gnssEpoch now e else d)

/-- NAV_UNIT, R233. -/
def execNavUnit (el : Nat) (ch : Fin 128) (u : NavUnit) (s : State) : Host.Outcome State Fault Refusal :=
  s.run el (fun now d => if d.gnssOn then d.navUnit now ch u else d)

/-- RAW_IDX_SNAPSHOT, R232: a write of RAW_IDX. -/
def execRawIdxSnapshot (el : Nat) (ch : BitVec 7) (s : State) : Host.Outcome State Fault Refusal :=
  s.run el (fun _ d => if d.hif.inService then d.rawSnap ch.toNat else d)

/-- RTCM_PUSH, R236: a write of RTCM_PUSH. -/
def execRtcmPush (el : Nat) (n : BitVec 13) (s : State) : Host.Outcome State Fault Refusal :=
  s.run el (fun _ d => if d.hif.inService then d.rtcmPush n.toNat else d)

/-- RTCM_FRAME, R237: the next frame of the input queue. -/
def execRtcmFrame (el : Nat) (s : State) : Host.Outcome State Fault Refusal :=
  s.run el (fun now d => if d.gnssOn then d.rtcmFrame now else d)

/-- CORRECTION_EPOCH_CLOSE, R238: 200 ms after the first message of an epoch. -/
def execCorrectionEpochClose (el : Nat) (s : State) : Host.Outcome State Fault Refusal :=
  s.run el (fun now d => if d.gnssOn then d.corrTimeout now else d)

/-- CORR_AGE, R239. -/
def execCorrAge (el : Nat) (s : State) : Host.Outcome State Fault Refusal :=
  s.run el (fun now d => if d.gnssOn then d.corrAgeCheck now else d)

/-- EMBER_BURST, R241: the burst of a second, with what it observes and the time solution. -/
def execEmberBurst (el : Nat) (obs : List ChanObs) (t : TimeSol) (s : State) : Host.Outcome State Fault Refusal :=
  s.run el (fun now d => d.emberBurst now obs t)

/-- EPHEMERIS_BURST, R241: a burst for the satellite `sv` of signal `sig`; whether it decoded an ephemeris, and its expiry. -/
def execEphemerisBurst (el : Nat) (sig : Fin 7) (sv : BitVec 8) (expiry : Nat) (ok : Bool) (s : State) : Host.Outcome State Fault Refusal :=
  s.run el (fun now d => d.ephBurst now (256 * sig + sv.toNat) expiry ok)

end Sys2Proof.Machine
end

