-- ==== Sys2Proof/Machine/Pair.lean ====
section
/-! DEFINITION. Twin pairing (R440 to R451): roles, pair time, the mirror, joining, heartbeat and role return, with the
commands of the family; and the partner's side of a tile store (R448). -/

namespace Sys2Proof.Machine

/-! ### States (R440) -/

/-- PAIR_STATE code of Table 13.9. -/
def PairState.code : PairState → Nat
  | .off => 0 | .seek => 1 | .listen => 2 | .joining => 3 | .standby => 4 | .active => 5 | .alone => 6

/-- A change of pairing state, with EVT_PAIR_STATE (R440). -/
def Dev.setPair (d : Dev) (now : Nat) (st : PairState) : Dev :=
  if d.pair.st = st then d
  else
    let d := { d with pair := { d.pair with st := st, since := now, lastBeacon := none, handover := none, swapReq := false, heard := false, tsTx := 0, lastOfs := none } }
    let d := if st = .standby then d.wr PAIR.HB_MISS 0
      else ({ d with pair := { d.pair with mirror := none, mirrorRun := 0, syncedFrom := none } }).wr PAIR.SYNCED 0
    (d.wr PAIR.PAIR_STATE st.code).fire now EVT.PAIR_STATE 0 st.code

/-- Whether KSP1 is UP with a partner. -/
def Dev.pairLink (d : Dev) : Bool := d.kspUp 1 && (d.port 1).partner

/-! ### Pair time (R445) -/

/-- Sets PT_OFS. -/
def Dev.setPtOfs (d : Dev) (ns : Int) : Dev := d.wr2 PAIR.PT_OFS_LO PAIR.PT_OFS_HI (ofS 64 ns)

/-- The first module to become ACTIVE after KINDLE sets PT = DT. -/
def Dev.ptFirst (d : Dev) : Dev := (d.setPtOfs 0).wr PAIR.PT_RATE 0

/-- The tick grid follows pair time (R446): its epoch keeps its PT. -/
def Dev.gridToPt (d : Dev) : Dev := { d with sys := { d.sys with tEpoch := d.dtOfPt d.pair.gridPt } }

/-- A TIMESYNC of the far end arrives at `now` with its TX_DT and the echoes of ours, in ns (R445, log entry 19). -/
def Dev.timesync (d : Dev) (now tx echoTx echoRx : Nat) : Dev :=
  let t4 : Int := nsOf now
  let d := { d with pair := { d.pair with tsRxTx := tx, tsRxAt := nsOf now } }
  let follows := d.pair.st == .seek || d.pair.st == .listen || d.pair.st == .joining || d.pair.st == .standby
  if !follows || echoTx = 0 || echoTx != d.pair.tsTx then d
  else
    let ofs := (((echoRx : Int) - echoTx) - (t4 - tx)) / 2
    let rate : Int := match d.pair.lastOfs with
      | some (t, o) => if t < nsOf now then clampS 32 ((ofs - o) * 1000000000000 / ((nsOf now - t : Nat) : Int)) else d.rdS PAIR.PT_RATE
      | none => 0
    let d := { d with pair := { d.pair with lastOfs := some (nsOf now, ofs) } }
    let d := (d.wrS PAIR.PT_RATE rate).setPtOfs (ofs - t4 * rate / 1000000000000)
    if d.pair.aligned && d.sys.gridOn then d.gridToPt else d

/-- The TIMESYNC message of port `n` sent at `now` (Table 13.7, R438): the master of a pair gives its instants in PT, which its partner
follows (log entry 19). -/
def Dev.timesyncSend (d : Dev) (now n : Nat) : Dev :=
  let w : Nat → List Nat := fun v => [v % 2 ^ 32, v / 2 ^ 32]
  let p := d.pair
  let own := fun t => if n = 1 && d.mirrors then d.ptOf t else t
  let d := if n = 1 then { d with pair := { p with tsTx := own (nsOf now) } } else d
  d.kspSend n 0 (wordsToBytes ([0x45] ++ w (own (nsOf now)) ++ (if n = 1 then (w p.tsRxTx ++ w (own p.tsRxAt) : List Nat) else [0, 0, 0, 0])))

/-- TIMESYNC at T0 of tick `k` (R438): on KSP0 every TSYNC_DIV ticks, on a PARTNER port in every tick. -/
def Dev.timesyncT0 (d : Dev) (now k : Nat) : Dev :=
  let div := d.rd (KSP.TSYNC_DIV 0)
  let d := if d.kspUp 0 && div != 0 && k % div == 0 then d.timesyncSend now 0 else d
  if d.pairLink then d.timesyncSend now 1 else d

/-! ### HELLO (R441, R442) -/

/-- CFG_CRC of HELLO: the CRC-32 of the configuration image. -/
def Dev.cfgCrc (d : Dev) : Nat := (d.mram.image.map (·.crc)).getD 0

/-- Sends HELLO. -/
def Dev.helloSend (d : Dev) (now : Nat) : Dev :=
  if d.pairLink then
    ({ d with pair := { d.pair with helloSent := some now } }).kspSend 1 3
      (wordsToBytes [0x51 + 2 ^ 8 * d.pair.unit + 2 ^ 16 * d.pair.st.code + 2 ^ 19 * b2n d.pair.pref, d.cfgCrc, d.cntVal 0 % 2 ^ 32, 1])
  else d

/-- Whether HELLO is still sent: the pairing state has not settled. -/
def Dev.helloDue (d : Dev) (now : Nat) : Bool :=
  (d.pair.st == .seek || d.pair.st == .listen || d.pair.st == .joining || d.pair.st == .alone) &&
  (match d.pair.helloSent with | none => true | some t => decide (t + ms 100 ≤ now))

/-- PAIR_ERR of a partner's HELLO, 0 for a consistent one. -/
def Dev.helloErr (d : Dev) (h : HelloMsg) : Nat :=
  if h.cfgCrc != d.cfgCrc then 1
  else if h.implId != d.cntVal 0 % 2 ^ 32 then 2
  else if h.unit = d.pair.unit then 3
  else if h.mirVer != 1 then 4
  else 0

/-- Whether this module becomes ACTIVE of two modules in SEEK (R442). -/
def Dev.pairWins (d : Dev) (h : HelloMsg) : Bool := if d.pair.pref != h.pref then d.pair.pref else d.pair.unit == 0

/-- A HELLO arrives (R441, R442). -/
def Dev.helloRx (d : Dev) (now : Nat) (h : HelloMsg) : Dev :=
  let d := { d with pair := { d.pair with hello := some h, helloAt := now } }.wr PAIR.PARTNER_UNIT (h.unit % 2)
  let code := d.helloErr h
  let was := d.rd PAIR.PAIR_ERR
  let d := d.wr PAIR.PAIR_ERR code
  let d := if code != 0 && code != was then d.fire now EVT.PAIR_REFUSED 0 code else d
  match d.pair.st with
  | .seek | .listen =>
    if code != 0 then d.setPair now .seek
    else if h.state = 5 || h.state = 6 then
      (({ d with pair := { d.pair with aligned := false, joinMaster := false, fetch := [] } }).setPair now .joining).helloSend now
    else if h.state = 4 then d.setPair now .seek
    else if d.pairWins h then ((d.ptFirst.setPair now .active).helloSend now)
    else (({ d with pair := { d.pair with aligned := false, joinMaster := false, fetch := [] } }).setPair now .joining).helloSend now
  | .joining => d
  | .active =>
    if code != 0 then d
    else if h.state = 3 || h.state = 4 then { d with pair := { d.pair with snapWant := true } }
    else if h.state ≤ 2 then (d.setPair now .alone).helloSend now
    else d
  | .alone =>
    if code != 0 then d
    else if h.state = 4 then d.setPair now .active
    else if h.state = 3 then { d with pair := { d.pair with snapWant := true } }
    else d.helloSend now
  | _ => d

/-- PAIR_WAIT passes in SEEK without a partner (R440): LISTEN. -/
def Dev.pairWait (d : Dev) (now : Nat) : Dev :=
  if d.pair.st = .seek && decide (d.pair.since + ms (max 100 (d.rd PAIR.PAIR_WAIT)) ≤ now) && !(d.pairLink && d.pair.hello.isSome) then
    d.setPair now .listen
  else d

/-- BEACON_LISTEN passes in LISTEN without a beacon (R440): ALONE. -/
def Dev.beaconListen (d : Dev) (now : Nat) : Dev :=
  let t := ms (max 20 (d.rd PAIR.BEACON_LISTEN))
  let quiet := match d.pair.lastBeacon with | some x => decide (x + t ≤ now) | none => true
  if d.pair.st = .listen && decide (d.pair.since + t ≤ now) && quiet then d.ptFirst.setPair now .alone else d

/-- A BEACON of unit `u` is heard on boom bus `b` (R440, R443). -/
def Dev.beaconRx (d : Dev) (now b u : Nat) : Dev :=
  match d.pair.st with
  | .listen => { d with pair := { d.pair with lastBeacon := some now } }
  | .active | .alone =>
    if u = d.pair.unit then d
    else
      let d := d.fire now EVT.PAIR_DUAL b 0
      if d.pair.unit = 1 then d.setPair now .seek else d
  | _ => d

/-- The pairing at the end of KINDLE, of a Relight, or of mode selection (R440, R515): the role binding takes effect.
`resume` says that the module was ALONE and has heard no partner since. -/
def Dev.pairStart (d : Dev) (now : Nat) (resume : Bool) : Dev :=
  let v := d.cntVal 3
  let en := bitOf v 0
  let d := { d with pair := { d.pair with en := en, unit := v / 2 % 2, pref := bitOf v 2, hello := none, helloSent := none, aligned := false } }
  let d := ((d.wrB PAIR.PAIR_EN en).wr PAIR.UNIT (v / 2 % 2)).wrB PAIR.PREF_ACTIVE (bitOf v 2)
  if !en then d.setPair now .off
  else if resume then d.setPair now .alone
  else (({ d with pair := { d.pair with st := .off } }).setPair now .seek).helloSend now

/-! ### The mirror that is sent (R448) -/

/-- The words of the FIELD section: the fields named, each in its bits of its register's word. -/
def Dev.fieldWords (d : Dev) : List Nat :=
  [d.rd COV.FIELD_STATE + 4 * d.rd COV.CELL_SIZE_ACT, d.rd COV.FIELD_ID_ACT, d.rd TPL.STORE_ACT]

/-- The NODE section entries of every enrolled node. -/
def Dev.nodeWords (d : Dev) : List (List Nat) :=
  d.vnp.map (fun x => [x.1 / 64 + 4 * (x.1 % 64) + 2 ^ 8 * x.2.st, x.2.uid % 2 ^ 32, x.2.uid / 2 ^ 32])

/-- The RATE section entry of product `p`. -/
def Dev.rateWords (d : Dev) (p : Nat) : List Nat :=
  let l : LoopSt := tget d.rate.loops p
  let e := d.ptOf (nsOf l.epoch)
  [p + 8 * d.rd (RATE.LOOP_DUTY p), satS 32 (l.i / 65536), e % 2 ^ 32, e / 2 ^ 32]

/-- The COMMIT section entry of point `n`. -/
def Dev.commitWord (d : Dev) (n : Nat) : Nat :=
  let c := d.decOf n
  let r := d.rateOf n
  b2n c.sOpen + 2 * b2n c.s + 4 * b2n c.edge.isSome + 8 * (c.reason % 32) + 2 ^ 8 * (c.edge.getD 0 % 1024) + 2 ^ 18 * (r.duty % 1024) +
    2 ^ 28 * (r.slot % 16)

/-- The words of the register file that hold a mirrored field away from its reset value, with their values. -/
def Dev.rwsWords (d : Dev) : List (Nat × Nat) :=
  let as := ((d.regs.filter (fun x => match fieldOfKey x.1 with | some f => f.mirrored | none => false)).map (fun x => x.1 / 32)).dedup
  as.map (fun a => (a, d.mirrorWord a))

/-- The sections of the MIRROR message after a commit; `full` for a snapshot (R448, R449). -/
def Dev.mirrorSects (d : Dev) (full : Bool) : List (Nat × List Nat) :=
  let p := d.pair
  let pt := fun (e : List Nat) =>
    let t := d.ptOf (e.getD 1 0 + 2 ^ 32 * e.getD 2 0)
    [e.getD 0 0, t % 2 ^ 32, t / 2 ^ 32, 0]
  let lat := if full then d.validPts.flatMap (fun n => [(d.decOf n).latOn.entry n true, (d.decOf n).latOff.entry n false]) else p.mirLat
  let rate := if full then (List.range 8).map d.rateWords
    else ((List.range 8).filter (fun k => (tget d.rate.loops k : LoopSt) != tget p.mirRate k)).map d.rateWords
  let cfg := if full then d.rwsWords else p.mirCfg
  let tiles := if full then
      (d.tpl.slots.filter (fun x => x.2.resident)).map (fun x =>
        [x.2.layer + 2 ^ 16 * x.2.gen, ofS 16 x.2.tx + 2 ^ 16 * ofS 16 x.2.ty, x.2.crc, 0])
    else p.mirTile
  let gone := (p.mirNode.filter (fun w => (tget? d.vnp (64 * (w.headD 0 % 4) + w.headD 0 / 4 % 64)).isNone)).map (fun w => [w.headD 0 % 2 ^ 8, 0, 0])
  let nodes := if full then d.nodeWords else d.nodeWords.filter (fun w => !p.mirNode.contains w) ++ gone
  let field := if full || d.fieldWords != p.mirField then d.fieldWords else []
  let opt := fun (k : Nat) (ws : List Nat) => if full || !ws.isEmpty then [(k, ws)] else []
  [(1, d.pose.pose.wordsAt (d.ptOf (nsOf d.pose.pose.dt))), (2, d.validPts.map d.commitWord)] ++ opt 3 (if full then [] else p.mirPaint.flatMap pt) ++ opt 4 lat.flatten ++
    opt 5 rate.flatten ++ opt 6 (cfg.flatMap (fun x => [x.1, x.2])) ++ opt 7 tiles.flatten ++ opt 8 nodes.flatten ++ opt 9 field

/-- The bytes of a MIRROR message (Table 13.10). -/
def mirrorBytes (m : MirrorMsg) : List Nat :=
  wordsToBytes ([0x52 + 2 ^ 8 * m.unit + 2 ^ 9 * m.rate + 2 ^ 11 * b2n m.snuff + 2 ^ 12 * b2n m.handover, m.tick, m.edgePt % 2 ^ 32,
    m.edgePt / 2 ^ 32, m.hoTick, m.sects.length] ++ m.sects.flatMap (fun x => (x.1 + 2 ^ 8 * (4 * x.2.length)) :: x.2))

/-- Sends the MIRROR message after the commit of tick `k`, whose edge is `edge` (R448, R449). -/
def Dev.mirrorSend (d : Dev) (edge k : Nat) : Dev :=
  if !d.mirrors || !d.pairLink then { d with pair := { d.pair with mirPaint := [], mirLat := [], mirTile := [], mirCfg := [] } }
  else
    let full := d.pair.snapWant
    let m : MirrorMsg := { unit := d.pair.unit, rate := d.rd SYS.TICK_RATE_ACT, snuff := d.snuffActive, handover := d.pair.handover.isSome,
                           tick := k % 2 ^ 32, edgePt := d.ptOf (nsOf edge), hoTick := (d.pair.handover.map (·.1)).getD 0 % 2 ^ 32,
                           sects := d.mirrorSects full }
    let d := { d with pair := { d.pair with snapWant := false, mirPaint := [], mirLat := [], mirTile := [], mirCfg := [], mirNode := d.nodeWords,
                                            mirField := d.fieldWords, mirRate := d.rate.loops } }
    d.kspSend 1 3 (mirrorBytes m)

/-! ### The mirror that is received (R447 to R449) -/

/-- The entries of `n` words each of a section. -/
def entriesOf (n : Nat) : Nat → List Nat → List (List Nat)
  | 0, _ => []
  | fuel + 1, ws => if ws.length < n || n = 0 then [] else ws.take n :: entriesOf n fuel (ws.drop n)

/-- The words of section `kind` of a message. -/
def mirSect (m : MirrorMsg) (kind : Nat) : List Nat := (m.sects.filter (fun x => x.1 == kind)).flatMap (·.2)

/-- Whether a message is a snapshot: it holds every section (R449). -/
def mirFull (m : MirrorMsg) : Bool := (List.range 9).all (fun k => m.sects.any (fun x => x.1 == k + 1))

/-- A history entry from the words of Table 06.9, its time from PT to this module's DT. -/
def Dev.poseOfWords (d : Dev) (w : List Nat) (old : PoseEntry) : PoseEntry :=
  let g := fun i => w.getD i 0
  let hs := fun (i : Nat) (hi : Bool) => if hi then toS 16 (g i / 2 ^ 16) else toS 16 (g i % 2 ^ 16)
  { old with dt := d.dtOfPt (g 0 + 2 ^ 32 * g 1), x := toS 32 (g 2), y := toS 32 (g 3), z := toS 32 (g 4), ve := hs 5 false, vn := hs 5 true,
             vu := hs 6 false, spd := g 6 / 2 ^ 16, hdg := g 7 % 2 ^ 16, roll := hs 7 true, pitch := hs 8 false, cls := bitsOf (g 8) 16 3,
             step := bitOf (g 8) 19, kin := bitOf (g 8) 20, gnssExcl := bitOf (g 8) 21, odoExcl := bitOf (g 8) 22, gap := bitOf (g 8) 23,
             ox := hs 9 false, oy := hs 9 true, ozv := hs 10 false, sigE := g 10 / 2 ^ 16, sigN := g 11 % 2 ^ 16, sigHdg := g 11 / 2 ^ 16,
             tick := g 12 }

/-- The standby paints with the pose that the mirror of tick `k` carries (R447). -/
def Dev.mirrorPose (d : Dev) (k : Nat) : Dev :=
  match d.pair.st, d.pair.mirror with
  | .standby, some m =>
    if m.tick = k % 2 ^ 32 && !(mirSect m 1).isEmpty then
      match d.pose.hist with
      | e :: rest =>
        let e' := { d.poseOfWords (mirSect m 1) e with dt := e.dt, tick := e.tick }
        { d with pose := { d.pose with pose := e', hist := e' :: rest } }
      | [] => d
    else d
  | _, _ => d

/-- A PAINT entry: a confirmation of a local point at the active (R447). -/
def Dev.mirrorPaintIn (d : Dev) (e : List Nat) : Dev :=
  let n := e.getD 0 0 % 1024
  let isOpen := !bitOf (e.getD 0 0) 10
  let t := d.dtOfPt (e.getD 1 0 + 2 ^ 32 * e.getD 2 0)
  if !d.on (PD.VALID n) || d.paintCmd n then d
  else if d.rd (PD.BIND_KIND n) = 2 then d.pushEdge n isOpen t
  else if isOpen then d.confirmOpen n t (some t)
  else
    match ((d.paintOf n).edges.filter (fun e => e.wait && !e.isOpen && decide (e.cmd ≤ t))).getLast? with
    | some x => d.resolveEdges n (fun y => !y.isOpen && y.cmd == x.cmd) (fun y => { y with wait := false, t := some t })
    | none => d

/-- A LATENCY entry: the filter of the active is taken over. -/
def Dev.mirrorLatIn (d : Dev) (e : List Nat) : Dev :=
  let n := e.getD 0 0 % 1024
  let isOpen := !bitOf (e.getD 0 0) 10
  let f := (d.decOf n).filt isOpen
  let cnt := e.getD 1 0 % 256
  let lf : Int := (e.getD 2 0 : Int) * 65536
  if !d.on (PD.VALID n) then d
  else d.setFilt n isOpen { f with cnt := cnt, rej := bitsOf (e.getD 1 0) 8 8, tLast := toS 10 (e.getD 1 0 / 2 ^ 16),
                                   lf := if cnt < 8 then f.lf else lf, acc := if cnt < 8 then lf else f.acc,
                                   rejAcc := (e.getD 3 0 : Int) * 65536 }

/-- A RATE entry: loop and pulse grid of a product. -/
def Dev.mirrorRateIn (d : Dev) (e : List Nat) : Dev :=
  let p := e.getD 0 0 % 8
  let d := d.wr (RATE.LOOP_DUTY p) (bitsOf (e.getD 0 0) 3 10)
  { d with rate := { d.rate with loops := tmod d.rate.loops p (fun l =>
      { l with i := toS 32 (e.getD 1 0) * 65536, epoch := d.dtOfPt (e.getD 2 0 + 2 ^ 32 * e.getD 3 0) }) } }

/-- Asks the partner for the tile of slot `i` on KSP1 (R448, R449). -/
def Dev.askPartner (d : Dev) (now i : Nat) : Dev :=
  let s := d.slot i
  let t := d.newTag
  (t.2.setSlot i { s with req := some { tag := t.1, tries := 0, sentAt := now, isPut := false } }).kspSend 1 1
    (tileMsgBytes 1 s.layer 0 s.tx s.ty (d.rd COV.FIELD_ID_ACT) s.gen t.1 0 [])

/-- A TILE entry: GEN is applied, a tile whose CRC differs is asked for (R447, R448), and one that agrees is as its home has it (log
entry 140). -/
def Dev.mirrorTileIn (d : Dev) (now : Nat) (e : List Nat) : Dev :=
  let layer := e.getD 0 0 % 16
  let tx := toS 16 (e.getD 1 0)
  let ty := toS 16 (e.getD 1 0 / 2 ^ 16)
  match d.findSlot layer tx ty with
  | some (i, s) =>
    let same := s.crc == e.getD 2 0
    let d := d.setSlot i { s with gen := e.getD 0 0 / 2 ^ 16, st := if same && s.st == .dirty then .clean else s.st }
    if !same && s.req.isNone && s.resident then (d.askPartner now i).bump PAIR.TILE_REPAIR else d
  | none => d

/-- A NODE entry; of a node that this module has not heard enrol, all 16 points and the latency reports are assumed (log entry 140). -/
def Dev.mirrorNodeIn (d : Dev) (e : List Nat) : Dev :=
  let b := e.getD 0 0 % 4
  let a := bitsOf (e.getD 0 0) 2 6
  let st := bitsOf (e.getD 0 0) 8 2
  if st = 0 then { d with vnp := tdel d.vnp (64 * b + a) }
  else
    let v : VnpNode := (tget? d.vnp (64 * b + a)).getD { pts := 16, latRpt := true, heard := d.sys.nextN }
    d.setNode b a { v with st := st, uid := e.getD 1 0 + 2 ^ 32 * e.getD 2 0 }

/-- The FIELD section: with the field that opens the figures of the last one go, with the one that closes the cache (log entry 140). -/
def Dev.mirrorFieldIn (d : Dev) (now : Nat) (ws : List Nat) : Dev :=
  match ws with
  | [w, id, _] =>
    let was := d.rd COV.FIELD_STATE
    let d := ((d.wr COV.FIELD_STATE (w % 4)).wr COV.CELL_SIZE_ACT (w / 4 % 4)).wr COV.FIELD_ID_ACT id
    if w % 4 = 0 && was != 0 then { d with tpl := { d.tpl with slots := [], wanted := [], probes := [], refetch := [] } }.setJournal []
    else if w % 4 = 1 && was = 0 then d.fieldBegin now
    else d
  | _ => d

/-- The sections that act when they arrive (R447). -/
def Dev.mirrorSectsIn (d : Dev) (now : Nat) (m : MirrorMsg) : Dev :=
  let es := fun (n kind : Nat) => entriesOf n (mirSect m kind).length (mirSect m kind)
  let d := d.mirrorFieldIn now (mirSect m 9)
  let d := d.each (es 3 8) (fun d e => d.mirrorNodeIn e)
  let d := d.each (es 4 4) (fun d e => d.mirrorLatIn e)
  let d := d.each (es 4 5) (fun d e => d.mirrorRateIn e)
  let d := d.each (es 4 3) (fun d e => d.mirrorPaintIn e)
  d.each (es 4 7) (fun d e => d.mirrorTileIn now e)

/-- A tile that a snapshot lists is fetched from the active (R449). -/
def Dev.fetchListed (d : Dev) (now : Nat) (t : Nat × Int × Int × Nat) : Dev :=
  match d.findSlot t.1 t.2.1 t.2.2.1 with
  | some x => d.askPartner now x.1
  | none =>
    let k := d.takeSlot now t.1 true false
    match k.1 with
    | some i =>
      let d := k.2.createTile now i t.1 t.2.1 t.2.2.1 .loading
      (d.setSlot i { d.slot i with gen := t.2.2.2 }).askPartner now i
    | none => k.2

/-- The tiles that a snapshot lists (R449): layer, TX, TY, GEN. -/
def listedTiles (m : MirrorMsg) : List (Nat × Int × Int × Nat) :=
  (entriesOf 4 (mirSect m 7).length (mirSect m 7)).map (fun e => (e.getD 0 0 % 16, toS 16 (e.getD 1 0), toS 16 (e.getD 1 0 / 2 ^ 16), e.getD 0 0 / 2 ^ 16))

/-- The tiles that a snapshot lists are fetched from the active (R449). -/
def Dev.joinFetch (d : Dev) (now : Nat) (m : MirrorMsg) : Dev :=
  let ts := listedTiles m
  let d := { d with pair := { d.pair with fetch := ts.map (fun (t : Nat × Int × Int × Nat) => (t.1, t.2.1, t.2.2.1)), joinMaster := true } }
  d.each ts (fun d t => d.fetchListed now t)

/-- The joiner takes the tick grid of the active (R446). -/
def Dev.pairAlign (d : Dev) (now : Nat) (m : MirrorMsg) : Dev :=
  let per := periodOf m.rate
  let e := d.dtOfPt m.edgePt
  let n := m.tick + 1 + (now - (e + per)) / per + b2n (decide (e + per ≤ now))
  { d with sys := { d.sys with tEpoch := e, nEpoch := m.tick, period := per, gridOn := true, nextN := n, rateChg := [] },
           pair := { d.pair with aligned := true, gridPt := m.edgePt }, t0For := none }.wr SYS.TICK_RATE_ACT m.rate

/-- A MIRROR message arrives (R446 to R450). -/
def Dev.mirrorRx (d : Dev) (now : Nat) (m : MirrorMsg) : Dev :=
  let beat : PairBlk := if d.edgePassed now then { d.pair with hbKspNew := true } else { d.pair with hbKsp := true }
  let d := { d with pair := { beat with heard := true, mirrorAt := now } }
  match d.pair.st with
  | .joining =>
    let d := if d.pair.aligned then d else d.pairAlign now m
    if mirFull m && !d.pair.joinMaster then
      (({ d with pair := { d.pair with mirror := some m } }).mirrorSectsIn now { m with sects := m.sects.filter (fun x => x.1 != 7) }).joinFetch now m
    else { d with pair := { d.pair with mirror := some { m with sects := (d.pair.mirror.map (·.sects)).getD [] } } }
  | .standby =>
    let kept := match d.pair.mirror with | some o => o.sects.filter (fun x => x.1 == 6) | none => []
    let next := match d.pair.mirror with | some o => m.tick == (o.tick + 1) % 2 ^ 32 | none => true
    let run := if next then d.pair.mirrorRun + 1 else 1
    let d := { d with pair := { d.pair with mirror := some { m with sects := kept ++ m.sects }, mirrorRun := run,
                                            handover := if m.handover then some (m.hoTick, false) else none } }
    let d := if !d.on PAIR.SYNCED && 100 ≤ run then
        ({ d with pair := { d.pair with syncedFrom := some now } }).wr PAIR.SYNCED 1 else d
    let d := d.mirrorSectsIn now m
    if mirFull m then d.each ((listedTiles m).filter (fun t => (d.findSlot t.1 t.2.1 t.2.2.1).isNone)) (fun d t => d.fetchListed now t) else d
  | _ => d

/-- No MIRROR message for MIRROR_STALE (R449): SYNCED clears, and a snapshot is asked for. -/
def Dev.mirrorStale (d : Dev) (now : Nat) : Dev :=
  if d.pair.st = .standby && decide (d.pair.mirrorAt + ms (max 10 (d.rd PAIR.MIRROR_STALE)) ≤ now) && d.on PAIR.SYNCED then
    (({ d with pair := { d.pair with mirrorRun := 0, syncedFrom := none } }).wr PAIR.SYNCED 0).helloSend now
  else d

/-- The end of joining (R449): the snapshot is in and every tile fetched. -/
def Dev.joinCheck (d : Dev) (now : Nat) : Dev :=
  if d.pair.st = .joining && d.pair.joinMaster then
    let left := d.pair.fetch.filter (fun t => match d.findSlot t.1 t.2.1 t.2.2 with | some x => x.2.req.isSome | none => false)
    let d := { d with pair := { d.pair with fetch := left } }
    if left.isEmpty then
      ((({ d with pair := { d.pair with mirrorRun := 100, syncedFrom := some now } }).setPair now .standby).wr PAIR.SYNCED 1).helloSend now
    else d
  else d

/-- The configuration that the mirror gives the commit of a standby or joiner: field keys and values, with every other RWS
field at its reset value for a snapshot (R447, R449). -/
def Dev.mirrorCfg (d : Dev) : KMap :=
  match d.pair.mirror with
  | none => []
  | some m =>
    let ws := entriesOf 2 (mirSect m 6).length (mirSect m 6)
    let given := ws.flatMap (fun w =>
      ((fieldsAt (w.getD 0 0)).filter Field.mirrored).map (fun f => (f.key, bitsOf (w.getD 1 0) f.lo f.width)))
    let cleared := if mirFull m then
        (d.regs.filterMap (fun x => match fieldOfKey x.1 with | some f => if f.mirrored then some (x.1, f.reset) else none | none => none))
      else []
    given.foldl (fun a x => tset a x.1 x.2) cleared

/-- Whether this module's commits take the states of the mirror: a standby, and a joiner that has the snapshot (R447, R449). -/
def Dev.follows (d : Dev) : Bool := d.pair.st == .standby || (d.pair.st == .joining && d.pair.joinMaster)

/-- The commit of a standby at tick `k` (R447): every point takes what the mirror of the tick carries; without one, the
states last mirrored hold. Where its own decision differs from the mirror, DEC_DIFF counts. -/
def Dev.mirrorDec (d : Dev) (k : Nat) (dec : Tab PtDec) : Dev × Tab PtDec :=
  if !d.follows then (d, dec)
  else
    let m : MirrorMsg := d.pair.mirror.getD {}
    let ws := if m.tick = k % 2 ^ 32 then mirSect m 2 else []
    let mine := d.validPts.zipIdx.map (fun x =>
      let n := x.1
      let own : PtDec := (tget? dec n).getD {}
      let c := match ws[x.2]? with
        | some w => { own with sOpen := bitOf w 0, s := bitOf w 1, edge := if bitOf w 2 then some (bitsOf w 8 10) else none, reason := bitsOf w 3 5 }
        | none => { own with sOpen := (d.decOf n).s, s := (d.decOf n).s, edge := none, reason := (d.decOf n).reason }
      (n, c, decide (x.2 < ws.length) && decide (c.s ≠ own.s ∨ c.edge ≠ own.edge)))
    (d.add PAIR.DEC_DIFF (mine.filter (fun x => x.2.2)).length, mine.map (fun x => (x.1, x.2.1)))

/-- The duties and slots that the mirror of tick `k` carries (R447). -/
def Dev.mirrorDuty (d : Dev) (k : Nat) : Dev :=
  match d.follows, d.pair.mirror with
  | true, some m =>
    if m.tick = k % 2 ^ 32 then
      let ws := mirSect m 2
      let pts := d.validPts.zipIdx.foldl (fun (t : Tab PtRate) x =>
        match ws[x.2]? with
        | some w => tmod t x.1 (fun (r : PtRate) => { r with duty := bitsOf w 18 10, slot := bitsOf w 28 4 })
        | none => t) d.rate.pts
      { d with rate := { d.rate with pts := pts } }
    else d
  | _, _ => d

/-- The mirror used by a commit is spent but for its states. -/
def Dev.mirrorSpent (d : Dev) : Dev :=
  { d with pair := { d.pair with mirror := d.pair.mirror.map (fun m => { m with sects := m.sects.filter (fun x => x.1 != 6) }) } }

/-! ### Heartbeat, takeover and handover (R450, R451) -/

/-- An edge of PAIR_HB_IN after which the level lasts `held` cycles (R450): the filter passes 1 µs. -/
def Dev.heartbeat (d : Dev) (now held : Nat) : Dev :=
  if d.pair.en && decide (us 1 ≤ held) then
    { d with pair := if d.edgePassed now then { d.pair with hbPinNew := true, heard := true } else { d.pair with hbPin := true, heard := true } }
  else d

/-- One path checked at a tick edge: `seen` in the tick just ended, `silent` ticks before; the flag, and its event (R450). -/
def Dev.pathCheck (d : Dev) (now : Nat) (f : Field) (seen : Bool) (silent : Nat) : Nat × Dev :=
  if seen then (0, d.wr f 1)
  else
    let n := min 3 (silent + 1)
    (n, if n = 3 && d.on f then (d.wr f 0).fire now EVT.PAIR_PATH 0 0 else d)

/-- The standby becomes ALONE at the edge of tick `k` (R450). -/
def Dev.takeover (d : Dev) (now k : Nat) : Dev :=
  let stale := !d.on PAIR.SYNCED
  let d := ((d.bump PAIR.TAKEOVER_CNT).wr PAIR.LAST_TAKEOVER (k % 2 ^ 32)).wrB PAIR.STALE_TAKEOVER stale
  (((d.setPair now .alone).fire now EVT.PAIR_TAKEOVER 0 0).vnpResyncAll).wr PAIR.HB_MISS 3

/-- Whether a handover may stand: no snuff path, no DIM (R451). -/
def Dev.handoverOk (d : Dev) : Bool := !d.snuffActive && d.pwr.st != .dim

/-- The handover due at the edge of tick `k` (R451): the active steps back, its partner becomes ACTIVE. -/
def Dev.handoverStep (d : Dev) (now k : Nat) : Dev :=
  match d.pair.handover with
  | none => d
  | some (h, gives) =>
    if !d.handoverOk then { d with pair := { d.pair with handover := none } }
    else if h % 2 ^ 32 = k % 2 ^ 32 then
      let d := d.bump PAIR.HANDOVER_CNT
      if gives then
        (({ d with pair := { d.pair with mirrorAt := now } }).setPair now .standby).wr PAIR.SYNCED 1
      else (d.setPair now .active).vnpResyncAll
    else d

/-- The pairing at the edge of tick `k` (R450, R451): a standby judges the paths; an active whose partner has neither heartbeat nor link is
ALONE (log entry 140). -/
def Dev.pairEdge (d : Dev) (now k : Nat) : Dev :=
  if !d.pair.en then d
  else
    let pin := d.pair.hbPin
    let ksp := d.pair.hbKsp
    let follows := d.pair.st == .standby
    let silent := fun (n : Nat) (seen : Bool) => if seen then 0 else min 3 (n + 1)
    let a := if follows then d.pathCheck now PAIR.HB_PIN_OK pin d.pair.pinSilent else (silent d.pair.pinSilent pin, d)
    let b := if follows then a.2.pathCheck now PAIR.HB_KSP_OK ksp d.pair.kspSilent else (silent d.pair.kspSilent ksp, a.2)
    let q : PairBlk := b.2.pair
    let q : PairBlk := { q with pinSilent := a.1, kspSilent := b.1, hbPin := q.hbPinNew, hbKsp := q.hbKspNew }
    let d : Dev := { b.2 with pair := { q with hbPinNew := false, hbKspNew := false } }
    let d := if d.pair.st = .standby then
        (if pin || ksp then d.wr PAIR.HB_MISS 0
         else
          let m : Nat := d.rd PAIR.HB_MISS + 1
          if 3 ≤ m then d.takeover now k else d.wr PAIR.HB_MISS m)
      else if d.pair.st = .active && a.1 = 3 && !d.pairLink then d.setPair now .alone
      else d
    d.handoverStep now k

/-- PAIR_HB_OUT toggles at the end of a commit that was completed (R450). -/
def Dev.hbToggle (d : Dev) : Dev :=
  if d.pair.st = .active || d.pair.st = .standby || d.pair.st = .alone then { d with pair := { d.pair with hbOut := !d.pair.hbOut } } else d

/-- A handover is announced by the active, 8 ticks ahead of tick `k` (R451). -/
def Dev.handoverStart (d : Dev) (k : Nat) : Dev :=
  if d.pair.st = .active && d.pair.handover.isNone && d.handoverOk then { d with pair := { d.pair with handover := some (k + 8, true) } } else d

/-- ROLE_SWAP written here, or by the partner's host (R451, log entry 20). -/
def Dev.roleSwap (d : Dev) (now : Nat) : Dev :=
  if d.pair.st = .standby then { d with pair := { d.pair with swapReq := true } } else d.handoverStart (d.tickCnt now)

/-- A standby with PREF_ACTIVE and RETURN_EN has been SYNCED for RETURN_HOLD (R451). -/
def Dev.returnHold (d : Dev) (now : Nat) : Dev :=
  match d.pair.syncedFrom with
  | some t =>
    if d.pair.st = .standby && d.pair.pref && d.on PAIR.RETURN_EN && decide (t + sec (max 1 (d.rd PAIR.RETURN_HOLD)) ≤ now) then
      { d with pair := { d.pair with swapReq := true } }
    else d
  | none => d

/-! ### The partner as tile store (R448) -/

/-- Answers a tile message of the partner with `type`. -/
def Dev.tileAnswer (d : Dev) (m : TileMsgIn) (type flags gen crc : Nat) (payload : List Nat) : Dev :=
  d.kspSend 1 1 (tileMsgBytes type m.layer flags m.tx m.ty m.field gen m.tag crc payload)

/-- A tile message passed on to this module's own home, under a tag of its own. -/
def Dev.tileForward (d : Dev) (m : TileMsgIn) : Dev :=
  let t := d.newTag
  let d := { t.2 with pair := { t.2.pair with fwd := t.2.pair.fwd ++ [(t.1, m.tag)] } }
  d.kspSend 0 1 (tileMsgBytes m.type m.layer m.flags m.tx m.ty m.field m.gen t.1 m.crc m.payload)

/-- Whether this module has a home of its own on KSP0. -/
def Dev.hasHome (d : Dev) : Bool := d.rd TPL.STORE_ACT == 1 && d.on TPL.STORE_OK

/-- The slot of a tile that the partner names, where the field is the open one and the tile resident. -/
def Dev.tileHeld (d : Dev) (m : TileMsgIn) : Option (Nat × Slot) :=
  match d.findSlot m.layer m.tx m.ty with
  | some x => if x.2.resident && m.field == d.rd COV.FIELD_ID_ACT then some x else none
  | none => none

/-- A TILE_REQ of the partner (R448): from the cache, else from this module's home, else TILE_ABSENT with FILL 0. -/
def Dev.tileReqRx (d : Dev) (m : TileMsgIn) : Dev :=
  match d.tileHeld m with
  | some (_, s) =>
    let coded := rleEncode s.runs
    let comp := s.layer == 0 && decide (coded.length < 32768)
    d.tileAnswer m 2 (b2n comp) s.gen s.crc (if comp then coded else s.bytes)
  | none =>
    if d.mirrors then d.tileAnswer m 6 0 m.gen 0 []
    else if d.hasHome then d.tileForward m
    else d.tileAnswer m 3 0 0 (crc32 (runBytes m.layer [(0, tileCells)])) []

/-- Whether a copy of generation `g` is newer than one of generation `h` (R127). -/
def genNewer (g h : Nat) : Bool := let x := (g + 65536 - h) % 65536; 1 ≤ x && x ≤ 32767

/-- A slot for a tile that the partner puts: a FREE one, or that of a CLEAN tile whose copy this module's own home holds. -/
def Dev.keepSlot (d : Dev) (layer : Nat) : Option Nat :=
  match d.freeSlot layer with
  | some i => some i
  | none => if d.hasHome then d.victim layer (fun s => if s.st = .clean then 1 else 0) else none

/-- A TILE_PUT of the partner (R448, R127): kept in the cache, passed on to this module's home, or refused. -/
def Dev.tilePutRx (d : Dev) (now : Nat) (m : TileMsgIn) : Dev :=
  match contentRuns m.layer (bitOf m.flags 0) m.payload with
  | none => d.tileAnswer m 6 0 m.gen 0 []
  | some rs =>
    if crc32 (runBytes m.layer rs) != m.crc then d.tileAnswer m 6 0 m.gen 0 []
    else match d.tileHeld m with
    | some (i, s) =>
      let d := if genNewer m.gen s.gen then d.setSlot i { s.load rs with gen := m.gen, st := .dirty, painted := true, wbAt := now } else d
      d.tileAnswer m 5 0 m.gen 0 []
    | none =>
      if m.field != d.rd COV.FIELD_ID_ACT then (if d.hasHome then d.tileForward m else d.tileAnswer m 6 0 m.gen 0 [])
      else
      match d.keepSlot m.layer with
      | some i =>
        let d := d.createTile now i m.layer m.tx m.ty .dirty
        (d.setSlot i { (d.slot i).load rs with gen := m.gen, painted := true }).tileAnswer m 5 0 m.gen 0 []
      | none => if d.hasHome then d.tileForward m else d.tileAnswer m 6 0 m.gen 0 []

/-- Whether this module serves tiles to the partner on KSP1. -/
def Dev.servesTiles (d : Dev) : Bool := d.alive && d.pairLink && (d.pair.st == .standby || d.mirrors)

/-! ### Commands -/

/-- TIMESYNC_RX, R445. -/
def execTimesyncRx (el : Nat) (tx echoTx echoRx : BitVec 64) (s : State) : Host.Outcome State Fault Refusal :=
  s.run el (fun now d => if d.alive && d.pairLink && d.pair.en then d.timesync now tx.toNat echoTx.toNat echoRx.toNat else d)

/-- HELLO, R441. -/
def execHello (el : Nat) (h : HelloMsg) (s : State) : Host.Outcome State Fault Refusal :=
  s.run el (fun now d => if d.alive && d.pairLink && d.pair.en then d.helloRx now h else d)

/-- HELLO_SEND, R441. -/
def execHelloSend (el : Nat) (s : State) : Host.Outcome State Fault Refusal :=
  s.run el (fun now d => if d.alive && d.helloDue now then d.helloSend now else d)

/-- PAIR_WAIT_EXPIRY, R440. -/
def execPairWaitExpiry (el : Nat) (s : State) : Host.Outcome State Fault Refusal :=
  s.run el (fun now d => if d.alive then d.pairWait now else d)

/-- BEACON_LISTEN_EXPIRY, R440. -/
def execBeaconListenExpiry (el : Nat) (s : State) : Host.Outcome State Fault Refusal :=
  s.run el (fun now d => if d.alive then d.beaconListen now else d)

/-- BEACON_RX, R443. -/
def execBeaconRx (el : Nat) (bus : Fin 4) (unit : Fin 2) (s : State) : Host.Outcome State Fault Refusal :=
  s.run el (fun now d => if d.vnpHears bus.val then d.beaconRx now bus.val unit.val else d)

/-- MIRROR_RX, R447. -/
def execMirrorRx (el : Nat) (m : MirrorMsg) (s : State) : Host.Outcome State Fault Refusal :=
  s.run el (fun now d => if d.alive && d.pairLink && d.pair.en then d.mirrorRx now m else d)

/-- MIRROR_STALE, R449. -/
def execMirrorStale (el : Nat) (s : State) : Host.Outcome State Fault Refusal :=
  s.run el (fun now d => if d.alive then d.mirrorStale now else d)

/-- HEARTBEAT_EDGE, R450. -/
def execHeartbeatEdge (el : Nat) (held : Nat) (s : State) : Host.Outcome State Fault Refusal :=
  s.run el (fun now d => if d.alive then d.heartbeat now held else d)

/-- ROLE_SWAP, R451: on either module. -/
def execRoleSwap (el : Nat) (byPartner : Bool) (s : State) : Host.Outcome State Fault Refusal :=
  s.run el (fun now d => if d.alive && (byPartner || d.hif.inService) then d.roleSwap now else d)

/-- RETURN_HOLD_EXPIRY, R451: of this standby, or of the partner. -/
def execReturnHoldExpiry (el : Nat) (byPartner : Bool) (s : State) : Host.Outcome State Fault Refusal :=
  s.run el (fun now d => if d.alive then (if byPartner then d.handoverStart (d.tickCnt now) else d.returnHold now) else d)

/-- TILE_PUT, R448. -/
def execTilePut (el : Nat) (m : TileMsgIn) (s : State) : Host.Outcome State Fault Refusal :=
  s.run el (fun now d => if d.servesTiles then d.tilePutRx now m else d)

/-- TILE_REQUEST_RX, R448. -/
def execTileRequestRx (el : Nat) (m : TileMsgIn) (s : State) : Host.Outcome State Fault Refusal :=
  s.run el (fun _ d => if d.servesTiles then d.tileReqRx m else d)

end Sys2Proof.Machine
end

