-- ==== Sys2Proof/Machine/Rec.lean ====
section
/-! DEFINITION. The event log and its reading (R527 to R535), the counted settings (R536 to R539, R546), and the commands of
both families. -/

namespace Sys2Proof.Machine

/-! ### Trigger sets (R529) -/

/-- A change to the list or SNAP_N of set `s`: TS_GEN counts on, and a TSET_DEF record is due before the next use. -/
def Dev.tsChanged (d : Dev) (s : Nat) : Dev :=
  { d with rec_ := { d.rec_ with defDue := if d.rec_.defDue.contains s then d.rec_.defDue else d.rec_.defDue ++ [s] } }.wr (REC.TS_GEN s)
    (d.rd (REC.TS_GEN s) + 1)

/-- SNAP_N of set `s` written. -/
def Dev.snapNWrite (d : Dev) (s n : Nat) : Dev := if d.rd (REC.SNAP_N s) = n then d else (d.wr (REC.SNAP_N s) n).tsChanged s

/-- Entry `i` of the list of set `s` written. -/
def Dev.snapListWrite (d : Dev) (s i a : Nat) : Dev :=
  if (tget? d.rec_.lists (64 * s + i)).getD 0 = a then d
  else ({ d with rec_ := { d.rec_ with lists := kput 0 d.rec_.lists (64 * s + i) a } }).tsChanged s

/-- SL_SET or SL_IDX written: SL_ADDR shows that entry. -/
def Dev.snapShow (d : Dev) : Dev := d.wr REC.SL_ADDR ((tget? d.rec_.lists (64 * d.rd REC.SL_SET + d.rd REC.SL_IDX)).getD 0)

/-! ### Reading and clearing the log (R534, R535) -/

/-- The records from offset `o` on, with their offsets. -/
def logFrom : Nat → List (List Nat) → List (Nat × List Nat)
  | _, [] => []
  | o, r :: rest => (o, r) :: logFrom (o + 4 * r.length) rest

/-- In T6 the staged records reach MRAM (R530). -/
def Dev.recFlush (d : Dev) (now : Nat) : Dev := if d.inT6 now then d.recWriteOut now else d

/-- KINDLE walks the log (R531): SEQ follows the last record, and a FULL record has left it full. -/
def Dev.recWalk (d : Dev) : Dev :=
  match d.mram.log.getLast? with
  | none => d
  | some r => (d.wr REC.REC_SEQ (r.getD 1 0 + 1)).wrB REC.REC_FULL (r.getD 0 0 % 2 ^ 8 == 0x08)

/-- The records of the log with their offsets: the first follows the log header (R527). -/
def Dev.logRecords (d : Dev) : List (Nat × List Nat) := logFrom 64 d.mram.log

/-- RD_OFS written (R534): the record that begins there is copied. -/
def Dev.rdOfs (d : Dev) (o : Nat) : Dev :=
  let d := d.wr REC.RD_OFS o
  match d.logRecords.find? (fun x => x.1 == o) with
  | some x => ({ d with rec_ := { d.rec_ with window := x.2 } }.wr REC.RD_VALID 1).wr REC.RD_NEXT (o + 4 * x.2.length)
  | none => d.wr REC.RD_VALID 0

/-- The end message of a stream at offset `o` (R534). -/
def Dev.streamEndMsg (d : Dev) (o status : Nat) : Dev :=
  { d with rec_ := { d.rec_ with stream := none } }.kspSend 0 4 (wordsToBytes [0x61, o, status])

/-- Sends the records from offset `o` up to WR_PTR; the stream then stands there. -/
def Dev.streamPart (d : Dev) (o : Nat) : Dev :=
  let d := d.each (d.logRecords.filter (fun x => decide (o ≤ x.1))) (fun d x => d.kspSend 0 4 (wordsToBytes (0x60 :: x.2)))
  { d with rec_ := { d.rec_ with stream := some d.wrPtr } }

/-- RD_STREAM written (R534); one stream runs at a time. -/
def Dev.rdStream (d : Dev) : Dev := if d.rec_.stream.isSome then d else d.streamPart (d.rd REC.RD_OFS)

/-- The stream has reached WR_PTR (R534). -/
def Dev.streamEnd (d : Dev) : Dev :=
  match d.rec_.stream with
  | none => d
  | some o =>
    let d := if o < d.wrPtr then d.streamPart o else d
    d.streamEndMsg d.wrPtr 0

/-- A running stream is aborted (R535). -/
def Dev.streamAbort (d : Dev) : Dev :=
  match d.rec_.stream with
  | none => d
  | some o => d.streamEndMsg o 1

/-- REC_TRIG written (R528): a MANUAL record with trigger set TRIG_SEL. -/
def Dev.recTrig (d : Dev) (now : Nat) : Dev :=
  if d.on REC.REC_EN then
    let t := d.drawToken now 513
    if t.1 then t.2.2.stageSnap now 0x09 0 (nsOf now) (d.tickCnt now) 0 t.2.1 (some (d.rd REC.TRIG_SEL)) else Dev.rateLimitN 8 t.2.2 now
  else d.bump REC.LOST_CNT

/-- The tokens gained by bucket `k` (R532). -/
def Dev.tokenRefill (d : Dev) (now k : Nat) : Dev :=
  match tget? d.rec_.buckets k with
  | none => d
  | some _ => { d with rec_ := { d.rec_ with buckets := tset d.rec_.buckets k (d.bucketNow now k) } }

/-! ### Counted settings (R536 to R539) -/

/-- The field of setting `i`, but for the role binding and LOG_CLR (Table 16.3). -/
def cntField : Nat → Option Field
  | 0 => some CNT.IMPL_ID
  | 1 => some CNT.BIND_LOCK
  | 2 => some CNT.MAX_APP_SPEED
  | 4 => some CNT.SEC_LEVEL
  | 5 => some CNT.FW_FLOOR
  | 6 => some CNT.MACHINE_SN
  | 7 => some CNT.OEM_CODE
  | 8 => some CNT.CFG_LOCK
  | 9 => some CNT.SNUFF_LOCK
  | 10 => some CNT.ASSET_TAG
  | 11 => some CNT.HOURS_BASE
  | _ => none

/-- The page of the field of setting `i`. -/
def cntPage (i : Nat) : Nat := if i = 3 then 0x072000 else if i = 12 then 0x004000 else 0x005000

/-- The value as the field of setting `i` holds it. -/
def cntNarrow (i v : Nat) : Nat := if i = 3 then v % 8 else v % 2 ^ ((cntField i).map (·.width)).getD 1

/-- The first condition of Table 16.4 that a change of setting `i` to `v` over `path` fails, 0 where all hold. -/
def Dev.cntRefusal (d : Dev) (now path i v : Nat) : Nat :=
  if !d.unlocked now (cntPage i) then 1
  else if d.cntAct.isSome then 2
  else if i = 4 && v != 1 && v != 2 then 3
  else if cntBudget i ≤ d.cntUsed i then 4
  else if (i = 4 || i = 5) && decide (v < d.cntVal i) then 5
  else if d.cntVal 4 = 2 && path != 0 then 6
  else 0

/-- A refusal (R537): reported, and recorded where it is SPENT, LOWER or PATH. -/
def Dev.cntRefuse (d : Dev) (now i v code : Nat) : Dev :=
  let d := ((d.wr CNT.LAST_ERR code).wr CNT.LAST_ERR_IDX i).bump CNT.REFUSED_CNT
  if 4 ≤ code then d.stageLimited now 0x05 i 512 [code, v] else d

/-- The history entry of a change (Table 16.5). -/
def Dev.histEntry (d : Dev) (now i path n old new : Nat) : List Nat :=
  let ws := [i + 2 ^ 4 * path + 2 ^ 8 * n, old, new, d.opTime now, d.mram.powerCycles % 2 ^ 32, nsOf now % 2 ^ 32, nsOf now / 2 ^ 32]
  ws ++ [crc16 (wordsToBytes ws)]

/-- The new value, its count and the history entry go to MRAM as one act (R539): the older copy is replaced. -/
def Dev.cntStore (d : Dev) (now i path old new val : Nat) : Dev :=
  let s : CntSetting := tget d.mram.cnt i
  let c := s.cur
  let e := d.histEntry now i path (c.used + 1) old new
  let n : CntCopy := { seq := c.seq + 1, val := val, used := c.used + 1 }
  let s' : CntSetting := if s.a = c then { s with b := n, hist := s.hist ++ [e] } else { s with a := n, hist := s.hist ++ [e] }
  { d with mram := { d.mram with cnt := tset d.mram.cnt i s' } }

/-- An accepted LOG_CLR (R535): the stream ends, the change is in the history, the log is discarded. -/
def Dev.logClear (d : Dev) (now path : Nat) : Dev :=
  let d := d.streamAbort
  let n := d.mram.log.length + d.rec_.staging.length
  let gen := (d.mram.logGen + 1) % 256
  let d := d.cntStore now 12 path n gen 0
  let d := { d with mram := { d.mram with log := [], logGen := gen }, rec_ := { d.rec_ with staging := [] } }
  let d := ((d.wr REC.REC_SEQ 0).wr REC.REC_FULL 0).wr REC.LOST_CNT 0
  d.stageFree now 0x0A 0 0 [n, gen]

/-- A write of `v` to the field of setting `i` over `path` (R537): whether it was ignored as locked (R462, R538), and the
block. An accepted change starts the counted act (R539). -/
def Dev.cntWrite (d : Dev) (now path i v : Nat) : Bool × Dev :=
  let v := cntNarrow i v
  if i != 12 && v = d.cntVal i then (false, d)
  else if i = 12 && v = 0 then (false, d)
  else
    let code := d.cntRefusal now path i v
    if code != 0 then (code == 1 || (d.cntVal 4 == 2 && path != 0), d.cntRefuse now i v code)
    else
      let old := d.cntVal i
      let d := if i = 12 then d.logClear now path else d
      (false, { d with cntAct := some { idx := i, old := old, new := v, path := path, start := now } })

/-- The new value takes effect as the field says (R539): at the completion, by the next commit, or at the next restart. -/
def Dev.cntEffect (d : Dev) (now i v : Nat) : Dev :=
  match cntField i with
  | none => d
  | some f => if f.eff = .tick then { d with pend := tset d.pend f.key { val := v, at_ := now } } else d.wr f v

/-- The counted act completes (R539). -/
def Dev.cntDone (d : Dev) (now : Nat) : Dev :=
  match d.cntAct with
  | none => d
  | some a =>
    let d := { d with cntAct := none }
    let d := if a.idx = 12 then d else (d.cntStore now a.idx a.path a.old a.new a.new).cntEffect now a.idx a.new
    let d := d.fire now EVT.CNT_CHANGE a.idx 0
    let d := if d.cntUsed a.idx = cntBudget a.idx then d.fire now EVT.CNT_FROZEN a.idx 0 else d
    d.stageFree now 0x04 a.idx 0 ((tget d.mram.cnt a.idx : CntSetting).hist.getLast?.getD [])

/-- The counted settings are read from MRAM at KINDLE (R539). -/
def Dev.cntLoad (d : Dev) : Dev :=
  let d := { d with cntAct := none }
  d.each [0, 1, 2, 4, 5, 6, 7, 8, 9, 10, 11] (fun d i => match cntField i with | some f => d.wr f (d.cntVal i) | none => d)

/-- HIST_N written (R546): the history entry of that change. -/
def Dev.histShow (d : Dev) (n : Nat) : Dev :=
  let d := d.wr CNT.HIST_N n
  let e := ((tget d.mram.cnt (d.rd CNT.HIST_SET) : CntSetting).hist.find? (fun e => e.getD 0 0 / 2 ^ 8 == n)).getD []
  d.each (List.range 8) (fun d k => d.wr (CNT.HIST_ENTRY k) (e.getD k 0))

/-! ### Commands -/

/-- TRIGGER_SET_CHANGE, R529: an entry of the list of a set, or its SNAP_N, is written. -/
def execTriggerSetChange (el : Nat) (set : Fin 32) (entry : Option (Fin 64)) (v : BitVec 24) (s : State) : Host.Outcome State Fault Refusal :=
  s.run el (fun _ d => if d.hif.inService then
    (match entry with
     | some i => ((((d.wr REC.SL_SET set.val).wr REC.SL_IDX i.val).wr REC.SL_ADDR v.toNat).snapListWrite set.val i.val v.toNat)
     | none => d.snapNWrite set.val (v.toNat % 128)) else d)

/-- RD_OFS, R534. -/
def execRdOfs (el : Nat) (ofs : BitVec 21) (s : State) : Host.Outcome State Fault Refusal :=
  s.run el (fun now d => if d.hif.inService then (d.recFlush now).rdOfs ofs.toNat else d)

/-- RD_STREAM, R534. -/
def execRdStream (el : Nat) (s : State) : Host.Outcome State Fault Refusal :=
  s.run el (fun now d => if d.hif.inService then (d.recFlush now).rdStream else d)

/-- STREAM_END, R534. -/
def execStreamEnd (el : Nat) (s : State) : Host.Outcome State Fault Refusal :=
  s.run el (fun now d => if d.alive then (d.recFlush now).streamEnd else d)

/-- LOG_CLR, R535: LOG_CLR is written over a host path (0 HSPI, 1 KSP0, 2 KSP1). -/
def execLogClr (el : Nat) (path : Fin 3) (s : State) : Host.Outcome State Fault Refusal :=
  s.run el (fun now d => if d.hif.inService then (d.cntWrite now path.val 12 1).2 else d)

/-- REC_TRIG, R528. -/
def execRecTrig (el : Nat) (s : State) : Host.Outcome State Fault Refusal :=
  s.run el (fun now d => if d.hif.inService then d.recTrig now else d)

/-- TOKEN_REFILL, R532. -/
def execTokenRefill (el : Nat) (bucket : Fin 514) (s : State) : Host.Outcome State Fault Refusal :=
  s.run el (fun now d => if d.alive then d.tokenRefill now bucket.val else d)

/-- COUNTED_WRITE, R537: a write to the field of a counted setting over a host path. -/
def execCountedWrite (el : Nat) (path : Fin 3) (idx : Fin 12) (v : Word) (s : State) : Host.Outcome State Fault Refusal :=
  s.run el (fun now d => if d.hif.inService then (d.cntWrite now path.val idx.val v.toNat).2 else d)

/-- COUNTED_CHANGE_DONE, R539. -/
def execCountedChangeDone (el : Nat) (s : State) : Host.Outcome State Fault Refusal :=
  s.run el (fun now d => if d.alive then d.cntDone now else d)

/-- HIST_N, R546. -/
def execHistN (el : Nat) (n : BitVec 8) (s : State) : Host.Outcome State Fault Refusal :=
  s.run el (fun _ d => if d.hif.inService then d.histShow n.toNat else d)

end Sys2Proof.Machine
end

