-- ==== Sys2Proof/Machine/Tst.lean ====
section
/-! DEFINITION. The self-test scheduler (R540 to R544, R547) and its commands. -/

namespace Sys2Proof.Machine

/-- Class of a test (Table 16.7): 0 non-intrusive, 1 channel-intrusive, 2 system-intrusive; none for no test or a target
outside the table. -/
def tstClass (id target : Nat) : Option Nat :=
  if id ≤ 3 then some 0
  else if id = 4 then (if target < 8 then some 0 else none)
  else if id = 16 || id = 17 then some 1
  else if id = 18 then (if target < 16 then some 1 else none)
  else if id = 32 || id = 33 then some 2
  else if id = 34 then (if target < 4 then some 2 else none)
  else none

/-- Class of the request in slot `q`. -/
def Dev.slotClass (d : Dev) (q : Nat) : Option Nat := tstClass (d.rd (TST.S_ID q)) (d.rd (TST.S_TARGET q))

/-- The internal state of slot `q`. -/
def Dev.tslot (d : Dev) (q : Nat) : TstSlot := tget d.tst.slots q

/-- Sets the internal state of slot `q`. -/
def Dev.setTslot (d : Dev) (q : Nat) (t : TstSlot) : Dev := { d with tst := { d.tst with slots := tset d.tst.slots q t } }

/-- Slot `q` ends with a final status, result and detail (R544): its FINISHED bit sets. -/
def Dev.tstFinish (d : Dev) (q status result detail : Nat) : Dev :=
  let d := ((d.wr (TST.STATUS q) status).wr (TST.RESULT q) result).wr (TST.DETAIL q) detail
  d.wr TST.FINISHED (setBitOf (d.rd TST.FINISHED) q true)

/-- Slots freed by a write of `mask` to FINISHED (Table 16.11). -/
def Dev.tstFree (d : Dev) (mask : Nat) : Dev :=
  d.each ((List.range 16).filter (fun q => bitOf mask q && bitOf (d.rd TST.FINISHED) q)) (fun d q =>
    let d := ((d.wr (TST.STATUS q) 0).wr (TST.RESULT q) 0).wr (TST.DETAIL q) 0
    let d := (d.wr (TST.S_ID q) 0).wr (TST.S_TARGET q) 0
    { d with tst := { d.tst with slots := tdel d.tst.slots q } }.wr TST.FINISHED (setBitOf (d.rd TST.FINISHED) q false))

/-- Standstill (R541): ZUPT_ACT, or with POSE_EN clear every feedback channel at FREQ 0. -/
def Dev.standstill (d : Dev) : Bool :=
  if d.poseEn then d.on POSE.ZUPT_ACT else (List.range 8).all (fun n => d.rdS (FBK.FREQ n) == 0)

/-- Whether an intrusive test runs (R541). -/
def Dev.intrusiveRuns (d : Dev) : Bool :=
  (List.range 16).any (fun q => d.rd (TST.STATUS q) == 2 && (d.slotClass q).getD 0 != 0)

/-- Whether a request of the class of slot `q` in a lower slot still waits or runs: requests of one class run in slot order (R541). -/
def Dev.tstBehind (d : Dev) (q : Nat) : Bool :=
  (List.range q).any (fun p => (d.rd (TST.STATUS p) == 1 || d.rd (TST.STATUS p) == 2) && d.slotClass p == d.slotClass q)

/-- Tests whose cut has come wait again (R542). -/
def Dev.tstTurn (d : Dev) (now : Nat) : Dev :=
  d.each ((List.range 16).filter (fun q => d.rd (TST.STATUS q) != d.tstStatus now q)) (fun d q =>
    let d := (d.setTslot q { d.tslot q with endAt := none, cut := none }).wr (TST.STATUS q) 1
    if d.rd (TST.S_ID q) = 18 then d else d.modIdc (d.rd (TST.S_TARGET q)) (fun x => { x with offFrom := now }))

/-- The pulses of VALVE_CYCLE on channel `c` from `t`: `n` of them, 100 ms long and 200 ms apart (log entry 21). -/
def Dev.valvePulses (d : Dev) (c t n : Nat) : Dev :=
  d.modIdc c (fun x => { x with grid := none, cmds := x.cmds ++ (List.range n).map (fun k =>
    ({ dt := t + ms (200 * k), on := true, endAt := some (t + ms (200 * k + 100)) } : DrvCmd)) })

/-- Slot `q` runs until `endAt`. -/
def Dev.tstRun (d : Dev) (q endAt : Nat) : Dev := (d.setTslot q { d.tslot q with endAt := some endAt }).wr (TST.STATUS q) 2

/-- A request is refused (R541). -/
def Dev.tstRefuse (d : Dev) (now q result : Nat) : Dev := (d.tstFinish q 5 result 0).fire now EVT.TST_REFUSED q result

/-- The refusal that the conditions of a system-intrusive test call for (R541): 4 for MODE, 2 for BUSY_APPLYING, 0 for none. -/
def Dev.tstSystemRefusal (d : Dev) : Nat :=
  if d.pwr.mode != .host || d.pwr.st != .lit then 4 else if d.on DEC.MASTER_ACT || !d.standstill then 2 else 0

/-- A system-intrusive request (R541): refused, or started where no intrusive test runs and none of its class stands before it. In
SNUFF_PATH every output takes its snuff state; it leaves it with the window of the next commit (log entry 21). -/
def Dev.tstSystem (d : Dev) (now q : Nat) : Dev :=
  let r := d.tstSystemRefusal
  if r != 0 then d.tstRefuse now q r
  else if d.intrusiveRuns || d.tstBehind q then d.wr (TST.STATUS q) 1
  else
    let n := max 1 (min 64 (d.tslot q).param)
    let d := d.tstRun q (now + ms 1)
    if d.rd (TST.S_ID q) = 32 then (d.setTslot q { d.tslot q with endAt := some (now + ms (200 * n)) }).valvePulses (d.rd (TST.S_TARGET q)) now n
    else if d.rd (TST.S_ID q) = 33 then d.outputsSnuff now
    else d

/-- T_GO written (R541). -/
def Dev.tGo (d : Dev) (now : Nat) : Dev :=
  let d := d.tstTurn now
  match (List.range 16).find? (fun q => d.rd (TST.STATUS q) == 0) with
  | none => d.wr TST.Q_FULL 1
  | some q =>
    let id := d.rd TST.T_ID
    let tg := d.rd TST.T_TARGET
    let d := (((d.wr TST.Q_FULL 0).wr TST.T_SLOT q).wr (TST.S_ID q) id).wr (TST.S_TARGET q) tg
    let d := d.setTslot q { since := now, param := d.rd TST.T_PARAM }
    match tstClass id tg with
    | none => d.tstRefuse now q 3
    | some 0 => d.wr (TST.STATUS q) 2
    | some 1 => d.wr (TST.STATUS q) 1
    | _ => d.tstSystem now q

/-- Length of a channel-intrusive test (Table 16.7). -/
def tstLen (id : Nat) : Nat := if id = 17 then ms 12 else ms 1

/-- The DT from which the commands of the committed window have the target of slot `q` on (R542): its first pulse or switch-on; none where
they leave it idle. -/
def Dev.tstOnAt (d : Dev) (q : Nat) : Option Nat :=
  let c := d.rd (TST.S_TARGET q)
  let ts := if d.rd (TST.S_ID q) = 18 then ((d.lswCh c).cmds.filter (fun k => k.on || k.force == 2)).map (·.dt)
    else ((d.idcCh c).cmds.filter (·.on)).map (·.dt)
  ts.foldl (fun m t => some (min t (m.getD t))) none

/-- Whether the target of slot `q` stands in an off window now (R322, R347). -/
def Dev.tstIdle (d : Dev) (now q : Nat) : Bool :=
  let c := d.rd (TST.S_TARGET q)
  if d.rd (TST.S_ID q) = 18 then !(d.lswCh c).drv && !(d.lswCh c).com else d.idcOffWindow now c

/-- A waiting intrusive test starts (R541, R542): a channel-intrusive one at a window opening whose window leaves its target idle, a
system-intrusive one once no other intrusive test runs. -/
def Dev.tstStart (d : Dev) (now q : Nat) : Dev :=
  let d := d.tstTurn now
  if d.rd (TST.STATUS q) != 1 || d.intrusiveRuns || d.tstBehind q || !d.running then d
  else match d.slotClass q with
  | some 1 => if now = d.dec.winOpen && d.tstIdle now q && (d.tstOnAt q).isNone then d.tstRun q (now + tstLen (d.rd (TST.S_ID q))) else d
  | some 2 => d.tstSystem now q
  | _ => d

/-- TEST_WAIT_MAX has passed (R541). -/
def Dev.tstDefer (d : Dev) (now q : Nat) : Dev :=
  let d := d.tstTurn now
  if d.rd (TST.STATUS q) = 1 && d.slotClass q == some 1 && decide ((d.tslot q).since + ms (100 * max 1 (d.rd TST.TEST_WAIT_MAX)) ≤ now) then
    (d.tstFinish q 4 0 0).fire now EVT.TST_DEFERRED q 0
  else d

/-- Before the outputs take the window of a commit (R543), a system test ends ABORTED with the master on, motion, or a snuff path; its
pulses end where that window opens. -/
def Dev.tstAbort (d : Dev) : Dev :=
  if !(d.on DEC.MASTER_ACT || !d.standstill || d.snuffActive) then d
  else d.each ((List.range 16).filter (fun q => d.rd (TST.STATUS q) == 2 && d.slotClass q == some 2)) (fun d q =>
    let d := d.tstFinish q 6 0 0
    if d.rd (TST.S_ID q) = 32 then d.modIdc (d.rd (TST.S_TARGET q)) (fun x =>
      { x with cmds := x.cmds.filter (fun k => decide (k.dt < d.dec.winOpen)) ++ [{ dt := d.dec.winOpen, on := false }] }) else d)

/-- The commit reads the window it made (R542): a channel test whose target is switched on before its end is cut 50 µs before that and
waits again; in SNUFFED it is cut at once (R541). -/
def Dev.tstCommit (d : Dev) (now : Nat) : Dev :=
  (d.each ((List.range 16).filter (fun q => d.rd (TST.STATUS q) == 2 && d.slotClass q == some 1)) (fun d q =>
    if d.snuffActive then d.setTslot q { d.tslot q with cut := some now }
    else match d.tstOnAt q with
      | some t => if decide (t < (d.tslot q).endAt.getD 0) then d.setTslot q { d.tslot q with cut := some (t - us 50) } else d
      | none => d)).tstTurn now

/-- Tiles failing R123. -/
def Dev.badTiles (d : Dev) : Nat := (d.tpl.slots.filter (fun x => x.2.bad)).length

/-- Whether the configuration image passes its check. -/
def Dev.imageOk (d : Dev) : Bool := (d.mram.image.map (·.crcOk)).getD true

/-- The test in slot `q` is complete (R544); `pass` and `detail` are what it found, but for the checks of data the state
holds: CFG_CRC, TILE_SWEEP, and the latencies of VALVE_CYCLE. -/
def Dev.tstDone (d : Dev) (now q : Nat) (pass : Bool) (detail : Nat) : Dev :=
  let d := d.tstTurn now
  if d.rd (TST.STATUS q) != 2 || decide (now < (d.tslot q).endAt.getD 0) || (d.slotClass q == some 0 && d.tstBehind q) then d
  else
    let id := d.rd (TST.S_ID q)
    let mean := fun (l : List Nat) => min 0xFFFF (l.sum / max 1 l.length / 4000)
    let r := match id with
      | 2 => (d.imageOk, (d.mram.image.map CfgImage.crc).getD 0)
      | 3 => (d.badTiles == 0, d.badTiles)
      | 32 => (pass, mean (d.tslot q).opens + 2 ^ 16 * mean (d.tslot q).closes)
      | _ => (pass, detail)
    let d := if id = 16 ∨ id = 17 then d.modIdc (d.rd (TST.S_TARGET q)) (fun x => { x with offFrom := now }) else d
    let d := (d.tstFinish q 3 (b2n (!r.1)) r.2).fire now EVT.TST_DONE q 0
    if r.1 then d else d.fire now EVT.TST_FAIL q id

/-- The tests of AUTO_MASK run again (R544); `fails` says which of those that look at the world fail. -/
def Dev.tstAuto (d : Dev) (now fails : Nat) : Dev :=
  if decide (d.tst.lastAuto + sec (max 1 (d.rd TST.AUTO_PER)) ≤ now) then
    let d := { d with tst := { d.tst with lastAuto := now } }
    d.each ((List.range 5).filter (fun k => bitOf (d.rd TST.AUTO_MASK) k)) (fun d k =>
      let bad := if k = 2 then !d.imageOk else if k = 3 then d.badTiles != 0 else bitOf fails k
      if bad then d.fire now EVT.TST_FAIL 0 k else d)
  else d

/-! ### Commands -/

/-- T_GO, R541. -/
def execTGo (el : Nat) (s : State) : Host.Outcome State Fault Refusal :=
  s.run el (fun now d => if d.hif.inService then d.tGo now else d)

/-- TEST_START, R542. -/
def execTestStart (el : Nat) (slot : Fin 16) (s : State) : Host.Outcome State Fault Refusal :=
  s.run el (fun now d => d.tstStart now slot.val)

/-- TEST_WAIT_MAX, R541. -/
def execTestWaitMax (el : Nat) (slot : Fin 16) (s : State) : Host.Outcome State Fault Refusal :=
  s.run el (fun now d => if d.alive then d.tstDefer now slot.val else d)

/-- TEST_DONE, R544. -/
def execTestDone (el : Nat) (slot : Fin 16) (pass : Bool) (detail : Word) (s : State) : Host.Outcome State Fault Refusal :=
  s.run el (fun now d => if d.ticking then d.tstDone now slot.val pass detail.toNat else d)

/-- AUTO_PER, R544. -/
def execAutoPer (el : Nat) (fails : BitVec 5) (s : State) : Host.Outcome State Fault Refusal :=
  s.run el (fun now d => if d.ticking then d.tstAuto now fails.toNat else d)

end Sys2Proof.Machine
end

