-- ==== Sys2Proof/Machine/Warp.lean ====
section
/-! DEFINITION. Feature tiles: their checks, warping onto the ground, fusion (R255 to R268, R275), and calibration refinement
from overlapping tiles (R285 to R289). -/

namespace Sys2Proof.Machine

/-! ### Warping (R263, R264) -/

/-- B of R263: camera axes in the axes of the mount frame. -/
def camAxes : Mat3 := ⟨⟨0, 0, fxOne⟩, ⟨-fxOne, 0, 0⟩, ⟨0, -fxOne, 0⟩⟩

/-- The corrections of source `s` in 2^-16 of their units (R285). -/
def Dev.corrOf (d : Dev) (s : Nat) : List Int := if (tget? d.cal.corr s).isSome then tget d.cal.corr s else [0, 0, 0, 0, 0, 0]

/-- Mc of R264 for the corrections `c`: from camera axes to the vehicle frame. -/
def Dev.camXform (d : Dev) (s : Nat) (ms_ : Xform) (c : List Int) : Xform :=
  let mm := fun (f : Field) (i : Nat) => d.rdS f * fxOne + c.getD i 0 * (fxOne / 65536)
  let an := fun (f : Field) (i : Nat) => fineA (d.rdS f) + c.getD i 0
  { rot := (((ms_.rot.mul (Mat3.rotZ (an (CAM.CAM_YAW s) 3))).mul (Mat3.rotY (an (CAM.CAM_PITCH s) 4))).mul
      (Mat3.rotX (an (CAM.CAM_ROLL s) 5))).mul camAxes,
    tr := ms_.app ⟨mm (CAM.CAM_X s) 0, mm (CAM.CAM_Y s) 1, mm (CAM.CAM_Z s) 2⟩ }

/-- Ms of R264: the mount frame of source `s` at DT `t`, with its sway. -/
def Dev.mountAt (d : Dev) (s t : Nat) : Option Xform :=
  let m := d.rd (CAM.MOUNT s)
  if m = 15 then some Xform.one
  else (d.frameAt t).bind (fun f => (tget? f.segs m).map (fun g =>
    { rot := g.xf.rot.mul (Mat3.rotZ (d.pointSway m g.psi (d.rdS (CAM.CAM_Y s)))), tr := g.xf.tr }))

/-- Where a ray from a camera meets the ground plane (R264), in the vehicle frame, with its length; none where it does not
point down or is longer than RANGE_MAX. -/
def Dev.groundHit (d : Dev) (mc : Xform) (ray : Vec3) : Option (Vec3 × Int) :=
  let v := mc.rot.app ray
  if 0 ≤ v.z then none
  else
    let t := (d.rdS GRID.GROUND_Z * fxOne - mc.tr.z) * fxOne / v.z
    let len : Int := isqrt (v.dot v * fxOne).toNat
    let r := fxMul t len
    if (d.rd GRID.RANGE_MAX : Int) * fxOne < r then none
    else some (⟨mc.tr.x + fxMul t v.x, mc.tr.y + fxMul t v.y, mc.tr.z + fxMul t v.z⟩, r)

/-- The ray of a feature-map position in half cells, in camera axes, with the radial terms (R264). -/
def Dev.camRay (d : Dev) (s : Nat) (u2 v2 : Int) : Vec3 :=
  let x := (u2 * 32768 - d.rdS (CAM.CX s)) * fxOne / (d.rd (CAM.FX s) : Int)
  let y := (v2 * 32768 - d.rdS (CAM.CY s)) * fxOne / (d.rd (CAM.FY s) : Int)
  let r2 := fxMul x x + fxMul y y
  let k := fxOne + fxMul (d.rdS (CAM.K1 s) * 1048576) r2 + fxMul (d.rdS (CAM.K2 s) * 1048576) (fxMul r2 r2)
  ⟨fxMul x k, fxMul y k, fxOne⟩

/-- A vehicle-frame point in the field frame of a pose, in 2^-48 mm. -/
def PoseEntry.toField (p : PoseEntry) (v : Vec3) : Int × Int :=
  let r := rAtt p.hdg p.pitch p.roll
  let w := r.app v
  (p.x * fxOne + w.x, p.y * fxOne + w.y)

/-- An area's corners in counter-clockwise order. -/
def ccw (cs : List (Int × Int)) : List (Int × Int) :=
  let a := ((cs.zip (cs.tail ++ cs.take 1)).map (fun e => e.1.1 * e.2.2 - e.2.1 * e.1.2)).sum
  if a < 0 then cs.reverse else cs

/-- What a feature cell gives on the ground (R264): its 2 cm cells, the ground range in mm, and the angle of the centre's ray
from the ground normal in whole degrees. -/
structure CellHit where
  cells : List (Int × Int)
  range : Nat
  angle : Nat

/-- One feature cell warped onto the ground. -/
def Dev.warpCell (d : Dev) (t : GridTile) (mc : Xform) (p : PoseEntry) (k : Nat) : Option CellHit :=
  let u : Int := 2 * (t.u0 + k % 128 : Nat)
  let v : Int := 2 * (t.v0 + k / 128 : Nat)
  let hit := fun (a b : Int) => d.groundHit mc (d.camRay t.src (u + a) (v + b))
  match hit 0 0, hit 2 0, hit 2 2, hit 0 2, hit 1 1 with
  | some a, some b, some c, some e, some m =>
    let cs := ccw ([a, b, c, e].map (fun (x : Vec3 × Int) => p.toField x.1))
    let g := p.toField m.1
    let dx := m.1.x - mc.tr.x
    let dy := m.1.y - mc.tr.y
    let dz := mc.tr.z - m.1.z
    let hor : Int := isqrt (dx * dx + dy * dy).toNat
    some { cells := (match cellsIn 20 cs with | [] => [(g.1 / (20 * fxOne), g.2 / (20 * fxOne))] | l => l),
           range := (hor / fxOne).toNat, angle := min 90 ((atan2C hor dz) / 100).toNat }
  | _, _, _, _, _ => none

/-! ### Fusion (R267 to R269, R272, R275) -/

/-- verdict of R268. -/
def Dev.verdict (d : Dev) (n : FusionNet) (score : Nat) : Bool :=
  (List.range n.nClass).any (fun k => decide (d.rd GRID.VERDICT_THR ≤ classOf score k))

/-- combine of R268, as CONTRA_POLICY gives (R269). -/
def Dev.combine (d : Dev) (old h : Nat) (others : Bool) : Nat :=
  if others then
    match d.rd GRID.CONTRA_POLICY with
    | 1 => scoreMap min old h
    | 2 => h
    | _ => scoreMap max old h
  else h

/-- audit_compare of R268: one ground update with a VALID prior, whose score `score` the AUD head's is held against. -/
def Dev.auditCompare (d : Dev) (s : Nat) (n : FusionNet) (aud score : Nat) : Dev :=
  let ok := d.verdict n aud == d.verdict n score
  d.modSrc s (fun g => { g with cur := { g.cur with total := g.cur.total + 1, agree := g.cur.agree + b2n ok } })

/-- Counts MACs executed. -/
def Dev.countMacs (d : Dev) (k : Nat) : Dev := { d with grid := { d.grid with macs := d.grid.macs + k } }

/-- A count by pair of sources, saturating. -/
def pairBump (m : KMap) (s t : Nat) : KMap := tset m (16 * s + t) (min 0xFFFFFFFF ((tget? m (16 * s + t)).getD 0 + 1))

/-- What fusing one feature cell carries: the block, and whether a SCORE has changed. -/
structure FuseAcc where
  d : Dev
  changed : Bool

/-- fuse of R268 for one ground cell `c`, with the embedding `e` of source `s`. -/
def fuseCell (now s : Nat) (n : FusionNet) (age : Nat) (e : List Int) (aud : Nat) (a : FuseAcc) (g : Int × Int) : FuseAcc :=
  let d := a.d
  if d.rd (GRID.HEALTH s) = 4 then
    match d.tcell g with
    | some c => if c.valid then { a with d := d.auditCompare s n aud c.score } else a
    | none => a
  else
    let r := if (d.blockOf g).isSome then (true, d) else d.allocBlock now g
    let d := r.2
    if !r.1 then { a with d := d }
    else
      let c := (d.tcell g).getD {}
      let l := n.eval 1 (e ++ c.latent ++ [if c.valid then 127 else 0])
      let h := n.scores 2 l
      let d := d.countMacs (n.macsOf 1 + n.macsOf 2)
      let d := if c.valid && c.lastSrc != s then
          { d with grid := { d.grid with
            shared := pairBump d.grid.shared s c.lastSrc,
            contra := if d.verdict n h != d.verdict n c.score then pairBump d.grid.contra s c.lastSrc else d.grid.contra } }
        else d
      let score := if c.decided then c.score else d.combine c.score h ((c.mask &&& (0xFFFF - 2 ^ s)) != 0)
      let c' : TCell := { c with latent := l, score := score, recUpd := c.recUpd || c.decided, age := if c.decided then c.age else min 255 age,
                                 valid := true, lastSrc := s, mask := setBitOf c.mask s true }
      let d := d.setTcell g c'
      let d := if c.decided then d.bump GRID.REC_ONLY else d
      let d := if d.rd GRID.GRID_MODE = 1 && c.valid then d.auditCompare s n aud score else d
      { d := d, changed := a.changed || score != c.score }

/-- One feature cell of a tile: ENC, then its ground cells (R268). -/
def Dev.fuseOne (now : Nat) (t : GridTile) (n : FusionNet) (mc : Xform) (p : PoseEntry) (age : Nat) (a : FuseAcc) (x : Nat × List Int) : FuseAcc :=
  match a.d.warpCell t mc p x.1 with
  | none => a
  | some hit =>
    let side : List Int := [min age 127, min (hit.range / 50) 127, hit.angle, t.src]
    let e := n.eval 0 (x.2.take 32 ++ side)
    let auditing := a.d.rd GRID.GRID_MODE == 1 || a.d.rd (GRID.HEALTH t.src) == 4
    let aud := if auditing then n.scores 3 e else 0
    let d := a.d.countMacs (n.macsOf 0 + (if auditing then n.macsOf 3 else 0))
    hit.cells.foldl (fuseCell now t.src n age e aud) { a with d := d }

/-! ### Calibration refinement (R285 to R289) -/

/-- Whether the corrections of source `s` are refined (R285). -/
def Dev.calRefines (d : Dev) (s : Nat) : Bool := d.on CAL.CAL_EN && d.pgEn 0x039000 && d.on (GRID.SRC_EN s) && !bitOf (d.rd CAL.CAL_FIX) s

/-- The value of a warped tile at a ground cell; 0 where it has none. -/
def WarpTile.at_ (t : WarpTile) (g : Int × Int) : Int := ((t.cells.find? (fun x => x.1 == g)).map (·.2)).getD 0

/-- The sum of products of two patches of 32 x 32 cells with the second shifted by (kx, ky) (R286). -/
def patchCorr (a b : WarpTile) (o : Int × Int) (kx ky : Int) : Int :=
  ((List.range 1024).map (fun (i : Nat) =>
    let g : Int × Int := (o.1 + (i % 32 : Nat), o.2 + (i / 32 : Nat))
    a.at_ g * b.at_ (g.1 + kx, g.2 + ky))).sum

/-- The refinement of a peak by a parabola, in 0.1 cell. -/
def parabola (m z p : Int) : Int := if m - 2 * z + p = 0 then 0 else roundDiv (5 * (p - m)) (2 * z - m - p)

/-- The shift of the second patch against the first, in 0.1 cell (R286). -/
def patchShift (a b : WarpTile) (o : Int × Int) (search : Nat) : Int × Int :=
  let rs : List Int := (List.range (2 * search + 1)).map (fun (i : Nat) => (i : Int) - search)
  let best := (rs.flatMap (fun y => rs.map (fun x => (x, y)))).foldl (fun (m : (Int × Int) × Int) k =>
    let v := patchCorr a b o k.1 k.2
    if m.2 < v then (k, v) else m) ((0, 0), patchCorr a b o 0 0)
  let k := best.1
  let c := fun (x y : Int) => patchCorr a b o (k.1 + x) (k.2 + y)
  (10 * k.1 + parabola (c (-1) 0) best.2 (c 1 0), 10 * k.2 + parabola (c 0 (-1)) best.2 (c 0 1))

/-- The cells that two warped tiles share. -/
def sharedCells (a b : WarpTile) : List (Int × Int) := (a.cells.map (·.1)).filter (fun g => b.cells.any (fun x => x.1 == g))

/-- The partial derivatives of the field position of a ground point (2^-48 mm) to the six corrections of source `s`, per unit
(R287), for a tile it was seen in. -/
def Dev.calJac (d : Dev) (s : Nat) (t : WarpTile) (g : Int × Int) : List (Int × Int) :=
  let c := d.corrOf s
  let mc := d.camXform s t.ms c
  let r := rAtt t.pose.hdg t.pose.pitch t.pose.roll
  let gz := d.rdS GRID.GROUND_Z * fxOne
  let rel : Vec3 := ⟨g.1 - t.pose.x * fxOne, g.2 - t.pose.y * fxOne, 0⟩
  -- the ground point over which `rel` lies: its height in the vehicle frame is GROUND_Z (R264)
  let x := rel.x - fxMul r.r1.z gz
  let y := rel.y - fxMul r.r2.z gz
  let det := fxMul r.r1.x r.r2.y - fxMul r.r1.y r.r2.x
  let v : Vec3 := if det = 0 then {} else ⟨(fxMul r.r2.y x - fxMul r.r1.y y) * fxOne / det, (fxMul r.r1.x y - fxMul r.r2.x x) * fxOne / det, gz⟩
  let ray := mc.rot.tr.app (v.sub mc.tr)
  let at_ := fun (c : List Int) => (d.groundHit (d.camXform s t.ms c) ray).map (fun h => t.pose.toField h.1)
  let base := at_ c
  (List.range 6).map (fun i =>
    match base, at_ (c.set i (c.getD i 0 + 65536)) with
    | some a, some b => (b.1 - a.1, b.2 - a.2)
    | _, _ => (0, 0))

/-- The smallest change of six corrections, in 2^-16 of their units, that moves a point by (dx, dy) in 2^-48 mm under the
derivatives `j`: the least-squares solution of R287. -/
def leastChange (j : List (Int × Int)) (dx dy : Int) : List Int :=
  let a := (j.map (fun p => p.1 * p.1)).sum
  let b := (j.map (fun p => p.1 * p.2)).sum
  let c := (j.map (fun p => p.2 * p.2)).sum
  let det := a * c - b * b
  if det = 0 then [0, 0, 0, 0, 0, 0]
  else
    let l1 := c * dx - b * dy
    let l2 := a * dy - b * dx
    j.map (fun p => (p.1 * l1 + p.2 * l2) * 65536 / det)

/-- The corner of the patch centred on shared cells, and the centre in 2^-48 mm. -/
def patchOf (cells : List (Int × Int)) : (Int × Int) × (Int × Int) :=
  let n : Int := max 1 cells.length
  let cx := (cells.map (·.1)).sum / n
  let cy := (cells.map (·.2)).sum / n
  ((cx - 16, cy - 16), ((20 * cx + 10) * fxOne, (20 * cy + 10) * fxOne))

/-- Queues a change of the corrections of a source for T6. -/
def Dev.calDue (d : Dev) (s : Nat) (ch : List Int) : Dev := { d with cal := { d.cal with due := d.cal.due ++ [(s, ch)] } }

/-- One tile pair (R286, R287): its residual counts for both sources in AUDIT, and the changes it asks for wait for T6. -/
def Dev.calPair (d : Dev) (s u : Nat) (a b : WarpTile) (shared : List (Int × Int)) : Dev :=
  let po := patchOf shared
  let k := patchShift a b po.1 (max 1 (d.rd CAL.CAL_SEARCH))
  let res := isqrt (k.1 * k.1 + k.2 * k.2).toNat
  let note := fun (d : Dev) (x : Nat) => d.modSrc x (fun g => { g with cur := { g.cur with res := g.cur.res + res, pairs := g.cur.pairs + 1 } })
  let d := if s = u then note d s else note (note d s) u
  let dx := -(2 * k.1 * fxOne)
  let dy := -(2 * k.2 * fxOne)
  if s = u then
    (if d.calRefines s then
      let j := ((d.calJac s b po.2).zip (d.calJac s a po.2)).map (fun p => (p.1.1 - p.2.1, p.1.2 - p.2.2))
      d.calDue s (leastChange j dx dy)
     else d)
  else
    let both := d.calRefines s && d.calRefines u
    let h : Int := if both then 2 else 1
    let d := if d.calRefines u then d.calDue u (leastChange (d.calJac u b po.2) (dx / h) (dy / h)) else d
    if d.calRefines s then d.calDue s (leastChange (d.calJac s a po.2) (-dx / h) (-dy / h)) else d

/-- A pair that qualifies is used in AUDIT, and one in CAL_DECIM in SERVICE (R286). -/
def Dev.calUse (d : Dev) (s u : Nat) (a b : WarpTile) (shared : List (Int × Int)) : Dev :=
  if d.rd GRID.GRID_MODE = 1 then d.calPair s u a b shared
  else if d.rd GRID.GRID_MODE = 2 && d.on CAL.CAL_EN && d.pgEn 0x039000 then
    (if max 1 (d.rd CAL.CAL_DECIM) ≤ d.cal.skipped + 1 then
      ({ d with cal := { d.cal with skipped := 0 } }).calPair s u a b shared
     else { d with cal := { d.cal with skipped := d.cal.skipped + 1 } })
  else d

/-- Each ground cell once, with the value given last. -/
def onceEach (l : List ((Int × Int) × Int)) : List ((Int × Int) × Int) :=
  l.foldr (fun x acc => if acc.any (fun y => y.1 == x.1) then acc else x :: acc) []

/-- A warped tile of source `s` is paired with the tile before it and with those of other sources captured within 50 ms of it (R286). Tiles are
kept while one captured within 50 ms of them can still pass check 5. -/
def Dev.calTile (d : Dev) (now s : Nat) (t : WarpTile) : Dev :=
  let d := match tget? d.cal.tiles s with
    | some (o :: _) =>
      let sh := sharedCells o t
      if t.cells.length ≤ 4 * sh.length && o.cells.length ≤ 4 * sh.length && !sh.isEmpty then d.calUse s s o t sh else d
    | _ => d
  let d := d.each ((List.range 16).filter (fun u => u != s && (d.rd (GRID.HEALTH u) == 2 || d.rd (GRID.HEALTH u) == 4))) (fun d u =>
    d.each ((tget? d.cal.tiles u).getD []) (fun d o =>
      let near := if o.cap ≤ t.cap then decide (t.cap ≤ o.cap + ms 50) else decide (o.cap ≤ t.cap + ms 50)
      let sh := sharedCells o t
      if near && decide (256 ≤ sh.length) then d.calUse u s o t sh else d))
  let fit := fun (l : List WarpTile) => l.take 1 ++ (l.drop 1).filter (fun o => decide (now ≤ o.cap + sec 4 + ms 50))
  { d with cal := { d.cal with tiles := tset d.cal.tiles s (fit (t :: (tget? d.cal.tiles s).getD [])) } }

/-- The corrections of source `s` as its registers show them, rounded. -/
def Dev.calShow (d : Dev) (s : Nat) : Dev :=
  let c := (d.corrOf s).map (fun v => roundDiv v 65536)
  let g := fun (i : Nat) => c.getD i 0
  (((((d.wrS (CAL.D_X s) (g 0)).wrS (CAL.D_Y s) (g 1)).wrS (CAL.D_Z s) (g 2)).wrS (CAL.D_YAW s) (g 3)).wrS (CAL.D_PITCH s) (g 4)).wrS (CAL.D_ROLL s) (g 5)

/-- The bound of correction `i` in 2^-16 of its unit: ±50 mm or ±2.00° (R285). -/
def corrBound (i : Nat) : Int := if i < 3 then 50 * 65536 else 200 * 65536

/-- The set of sources refined. -/
def Dev.calSet (d : Dev) : Nat := (List.range 16).foldl (fun m x => setBitOf m x (d.calRefines x)) 0

/-- EVT_CAL_CONVERGED once CAL_CONV has become equal to the set of sources refined, which it was not before (R288). -/
def Dev.calConverged (d : Dev) (now : Nat) (was : Bool) : Dev :=
  if !was && d.calSet != 0 && d.rd CAL.CAL_CONV == d.calSet then d.fire now EVT.CAL_CONVERGED 0 0 else d

/-- A change applied to the corrections of a source in T6 (R287, R288). -/
def Dev.calApply (d : Dev) (now s : Nat) (ch : List Int) : Dev :=
  if !d.calRefines s then d
  else
    let gain : Int := max 1 (d.rd CAL.CAL_GAIN)
    let step : List Int := ch.map (fun v => v * gain / 256)
    let sum := ((d.corrOf s).zip step).map (fun p => p.1 + p.2)
    let lim := sum.zipIdx.map (fun p => max (-(corrBound p.2)) (min (corrBound p.2) p.1))
    let oob := sum.zipIdx.any (fun p => decide (corrBound p.2 < p.1.natAbs))
    let small := step.zipIdx.all (fun p => decide (p.1.natAbs ≤ 65536 * (if p.2 < 3 then d.rd CAL.CONV_POS else d.rd CAL.CONV_ANG)))
    let run := if small then (tget? d.cal.run s).getD 0 + 1 else 0
    let before := d.rd CAL.CAL_CONV
    let d := ({ d with cal := { d.cal with corr := tset d.cal.corr s lim, run := tset d.cal.run s run, changed := true } }).calShow s
    let conv := if !small then false else bitOf before s || decide (max 1 (d.rd CAL.CONV_N) ≤ run)
    let d := (d.bump (CAL.CAL_UPD s)).wr CAL.CAL_CONV (setBitOf before s conv)
    let d := d.calConverged now (decide (before = d.calSet))
    if oob && !(bitOf (d.rd CAL.CAL_OOB) s && d.rd (GRID.HEALTH s) == 3) then
      let d := (d.wr CAL.CAL_OOB (setBitOf (d.rd CAL.CAL_OOB) s true)).fire now EVT.CAL_OUT_OF_BOUNDS s 1
      (d.suspect now s 3).enterAudit now 5
    else d

/-- CAL's part of T6: the changes that observations asked for (R287, R290). -/
def Dev.calT6 (d : Dev) (now : Nat) : Dev :=
  ({ d with cal := { d.cal with due := [] } }).each d.cal.due (fun d x => d.calApply now x.1 x.2)

/-- CAL_RESET of the sources in `mask` (R285). -/
def Dev.calReset (d : Dev) (now mask : Nat) : Dev :=
  if mask % 65536 = 0 then d
  else
    let d := d.each ((List.range 16).filter (bitOf mask)) (fun d s =>
      let d := ({ d with cal := { d.cal with corr := tdel d.cal.corr s, run := tdel d.cal.run s, changed := true } }).calShow s
      let d := (d.wr CAL.CAL_CONV (setBitOf (d.rd CAL.CAL_CONV) s false)).wr CAL.CAL_OOB (setBitOf (d.rd CAL.CAL_OOB) s false)
      d.modSrc s (fun g => if d.rd (GRID.SUS_CAUSE s) = 3 then { g with lifted := true } else g))
    d.enterAudit now 5

/-- The fields that hold the corrections of source `s`, in order. -/
def corrFields (s : Nat) : List Field := [CAL.D_X s, CAL.D_Y s, CAL.D_Z s, CAL.D_YAW s, CAL.D_PITCH s, CAL.D_ROLL s]

/-- The corrections written to MRAM (R289). -/
def Dev.calSave (d : Dev) (now : Nat) : Dev :=
  let m : KMap := (List.range 16).flatMap (fun s => (corrFields s).zipIdx.map (fun p => (8 * s + p.2, d.rd p.1)))
  { d with mram := { d.mram with cal := m.filter (fun x => x.2 != 0) }, cal := { d.cal with changed := false, storedAt := now } }

/-- CAL_STORE (R289): every 10 s while corrections change. -/
def Dev.calStore (d : Dev) (now : Nat) : Dev :=
  if d.cal.changed && decide (d.cal.storedAt + sec 10 ≤ now) then d.calSave now else d

/-- The corrections restored from MRAM (R289), none of them confirmed. -/
def Dev.calRestore (d : Dev) : Dev :=
  let d := { d with cal := {} }
  let d := d.each (List.range 16) (fun d s =>
    let c := (List.range 6).map (fun i => toS 16 ((tget? d.mram.cal (8 * s + i)).getD 0) * 65536)
    let d := if c.all (· == 0) then d else { d with cal := { d.cal with corr := tset d.cal.corr s c } }
    (d.calShow s).wr (CAL.CAL_UPD s) 0)
  (d.wr CAL.CAL_CONV 0).wr CAL.CAL_OOB 0

/-! ### Tile checks (R255 to R261) -/

/-- A tile that has passed check 6 is counted, judged by its source's health, and warped and fused (R258, R260, R261, R264,
R275, R279); `newer`: a newer tile of a LATEST source has completed its header checks (check 7). -/
def Dev.tileAccept (d : Dev) (now : Nat) (newer : Bool) (t : GridTile) (p : PoseEntry) : Dev :=
  let s := t.src
  let d := (d.bump (GRID.SRC_TILES s)).modSrc s (fun g => { g with cur := { g.cur with tiles := g.cur.tiles + 1 } })
  if newer && d.on (CAM.TIMING s) then d.bump GRID.SUPERSEDED
  else
  let age16 := (now - t.cap) / ms 16
  let late := decide (t.cap + ms (d.rd GRID.LATE_MS) < now)
  let d := d.wrU (GRID.AGE_LAST s) age16
  let d := if d.rd (GRID.HEALTH s) = 1 then d.setHealth s 2 else d
  let h := d.rd (GRID.HEALTH s)
  match d.grid.net, d.mountAt s t.cap with
  | some n, some ms_ =>
    if h = 2 ∨ h = 4 then
      let mc := d.camXform s ms_ (d.corrOf s)
      let a := t.cells.foldl (Dev.fuseOne now t n mc p age16) { d := d, changed := false }
      let d := a.d
      let ch := d.rd CAL.CAL_CH
      let w : WarpTile := { cap := t.cap, pose := p, ms := ms_, cells := onceEach (t.cells.flatMap (fun x =>
        match d.warpCell t mc p x.1 with
        | some hit => hit.cells.map (fun g => (g, x.2.getD ch 0))
        | none => [])) }
      let d := d.calTile now s w
      if h = 2 then
        let d := d.bump GRID.TILES_FUSED
        if late then
          let d := d.bump (if a.changed then GRID.LATE_USED else GRID.TOO_LATE)
          if secPassed d.grid.lateEvt now then
            ({ d with grid := { d.grid with lateEvt := some now } }).fire now EVT.GRID_LATE s 0
          else d
        else d
      else d
    else d
  | _, _ => d

/-- What checks 1 to 5 make of a feature tile (Table 08.2). -/
inductive TileFate where
  | other
  | hdrErr (s : Nat)
  | hist (s : Nat)
  | pass (t : GridTile)

/-- Checks 1 to 5 (Table 08.2) of a tile whose header arrived at `at_`: the 64 bytes of its header, and its cells that carry data (R255). -/
def Dev.tileHeader (d : Dev) (at_ : Nat) (hdr : List Nat) (cells : List (Nat × List Int)) : TileFate :=
  let w := fun (o : Nat) => ofBytesLE ((hdr.drop o).take 4)
  let s := bitsOf (w 0) 8 4
  if hdr.length < 64 || crc32 (hdr.take 60) != w 0x3C || bitsOf (w 0) 0 8 != 0x21 then .other
  else if !(d.gridRuns && d.on GRID.NET_OK && d.on (GRID.SRC_EN s)) || d.rd (GRID.SRC_ERR s) != 0 then .other
  else
    let u0 := bitsOf (w 0x10) 0 16
    let v0 := bitsOf (w 0x10) 16 16
    let fmt := match d.grid.net with | some n => n.featFmt | none => 0
    if bitsOf (w 0) 16 8 != fmt || w 0x18 != 524288 || decide (d.rd (CAM.MAP_W s) < u0 + 128) || decide (d.rd (CAM.MAP_H s) < v0 + 128) then .hdrErr s
    else
      let dly := d.rdS (CAM.CAP_DLY s) * 400
      let capDt := cyclesOfNs (w 8 + 2 ^ 32 * w 12)
      let raw := if d.on (CAM.TIMING s) then (if at_ + ms 10 < capDt then none else some capDt)
        else (d.grid.trigs.find? (fun (x : Nat × Nat) => x.1 % 65536 == bitsOf (w 4) 16 16 && decide (at_ ≤ x.2 + sec 8))).map (·.2)
      match raw with
      | none => .hdrErr s
      | some r =>
        let cap := ((r : Int) + dly).toNat
        if cap + sec 4 < at_ then .hist s
        else .pass { src := s, u0 := u0, v0 := v0, cap := cap, cells := cells.filter (fun x => decide (x.1 < 16384) && !x.2.all (· == -128)) }

/-- Whether a tile that waits behind a held one is a newer one of source `s` that passes its header checks (check 7). -/
def Dev.tileNewer (d : Dev) (s : Nat) (x : Nat × List Nat × List (Nat × List Int)) : Bool :=
  match d.tileHeader x.1 x.2.1 x.2.2 with
  | .pass t => t.src == s && (match d.poseAt t.cap with | .found p => decide (d.rd GRID.GRID_POSE_MIN ≤ p.cls) | _ => false)
  | _ => false

/-- Checks 6 and 7 (Table 08.2); a tile whose capture lies past the newest pose is held. -/
def Dev.tileCheck6 (d : Dev) (now : Nat) (t : GridTile) : Dev :=
  match d.poseAt t.cap with
  | .notYet => { d with grid := { d.grid with held := d.grid.held ++ [t] } }
  | .outOfHistory => d.bump GRID.DROP_OTHER
  | .found p =>
    if p.cls < d.rd GRID.GRID_POSE_MIN then d.bump GRID.DROP_OTHER else d.tileAccept now (d.grid.waiting.any (d.tileNewer t.src)) t p

/-- A tile that GRID takes, its header arrived at `at_` (R258). -/
def Dev.takeTile (d : Dev) (now at_ : Nat) (hdr : List Nat) (cells : List (Nat × List Int)) : Dev :=
  match d.tileHeader at_ hdr cells with
  | .other => d.bump GRID.DROP_OTHER
  | .hdrErr s => d.bump (GRID.HDR_ERR s)
  | .hist s => (d.bump GRID.DROP_HIST).fire now EVT.GRID_TILE_DROP s 0
  | .pass t => d.tileCheck6 now t

/-- Tiles that waited are taken in arrival order until one is held (R261). -/
def Dev.drainTiles : Nat → Dev → Nat → Dev
  | 0, d, _ => d
  | fuel + 1, d, now =>
    match d.grid.held, d.grid.waiting with
    | [], x :: rest => Dev.drainTiles fuel (({ d with grid := { d.grid with waiting := rest } }).takeTile now x.1 x.2.1 x.2.2) now
    | _, _ => d

/-- A held tile after a T1 (R258) is checked again from check 6; what waited behind it follows, and the credit withheld is given back once
nothing is held. -/
def Dev.gridRelease (d : Dev) (now : Nat) : Dev :=
  let d := ({ d with grid := { d.grid with held := [] } }).each d.grid.held (fun d t => d.tileCheck6 now t)
  let d := Dev.drainTiles d.grid.waiting.length d now
  if d.grid.held.isEmpty then d.freeCredits now else d

/-- A feature tile arrives (R255, R258): behind a held tile it waits, VC2 being in order. -/
def Dev.featureTile (d : Dev) (now : Nat) (hdr : List Nat) (cells : List (Nat × List Int)) : Dev :=
  if d.grid.held.isEmpty then d.takeTile now now hdr cells
  else { d with grid := { d.grid with waiting := d.grid.waiting ++ [(now, hdr, cells)] } }

/-- GRID's and CAL's part of T6 of tick `n` (R290); a network accepted by NET_LOAD is copied, and LOAD_ACT renewed, whether GRID runs or not. -/
def Dev.gridT6 (d : Dev) (now n : Nat) : Dev :=
  let d := if d.gridRuns then
      let d := d.gridRetire now
      let d := if d.winEnds n then d.gridWindow now n else d
      d.calT6 now
    else if d.winEnds n then ({ d with grid := { d.grid with winTick := some n } }).loadShow
    else d
  (d.netCopy now).clearSuspect

/-- What a commit makes of CAL's set of refined sources (R288); `old` the block before it. -/
def Dev.calReport (d : Dev) (now : Nat) (old : Dev) : Dev := d.calConverged now (decide (old.rd CAL.CAL_CONV = old.calSet))

/-! ### Commands -/

/-- FEATURE_TILE, R258: a tile on KSP0 VC2, as its header and its cells that carry data (log entry 15). -/
def execFeatureTile (el : Nat) (hdr : List Byte) (cells : List (Fin 16384 × List Byte)) (s : State) : Host.Outcome State Fault Refusal :=
  s.run el (fun now d => if d.alive && d.kspUp 0 then
    d.featureTile now (hdr.map BitVec.toNat) (cells.map (fun x => (x.1.val, x.2.map BitVec.toInt))) else d)

/-- CAMERA_TRIGGER, R259. -/
def execCameraTrigger (el : Nat) (s : State) : Host.Outcome State Fault Refusal :=
  s.run el (fun now d => d.camTrigger now)

/-- NET_LOAD, R270: a write of 1 to NET_LOAD. -/
def execNetLoad (el : Nat) (s : State) : Host.Outcome State Fault Refusal :=
  s.run el (fun now d => if d.hif.inService then d.netLoad now else d)

/-- WIN_CLEAR, R276: a write of 1 to WIN_CLEAR. -/
def execWinClear (el : Nat) (s : State) : Host.Outcome State Fault Refusal :=
  s.run el (fun _ d => if d.hif.inService then d.clearLayer else d)

/-- HEALTH_WINDOW, R280: the window that ends with the current tick, where it is still to be judged. -/
def execHealthWindow (el : Nat) (s : State) : Host.Outcome State Fault Refusal :=
  s.run el (fun now d => if d.gridRuns && d.winEnds (d.tickCnt now) then (d.gridWindow now (d.tickCnt now)).clearSuspect else d)

/-- AUDIT_REQ, R282: a write of 1 to AUDIT_REQ. -/
def execAuditReq (el : Nat) (s : State) : Host.Outcome State Fault Refusal :=
  s.run el (fun now d => if d.hif.inService then d.enterAudit now 2 else d)

/-- SRC_RETRY lifts cause AUDIT (Table 08.11). -/
def Dev.srcRetry (d : Dev) (s : Nat) : Dev := d.modSrc s (fun g => if d.rd (GRID.SUS_CAUSE s) = 5 then { g with lifted := true } else g)

/-- SRC_RETRY, R280: a write of 1 to SRC_RETRY of source `src`. -/
def execSrcRetry (el : Nat) (src : Fin 16) (s : State) : Host.Outcome State Fault Refusal :=
  s.run el (fun _ d => if d.hif.inService then d.srcRetry src.val else d)

/-- CAL_RESET, R285: a write of CAL_RESET. -/
def execCalReset (el : Nat) (mask : BitVec 16) (s : State) : Host.Outcome State Fault Refusal :=
  s.run el (fun now d => if d.hif.inService then d.calReset now mask.toNat else d)

/-- CAL_STORE, R289. -/
def execCalStore (el : Nat) (s : State) : Host.Outcome State Fault Refusal :=
  s.run el (fun now d => if d.alive then d.calStore now else d)

/-- PAIR_SNAPSHOT, R292: a write of PAIR_A and PAIR_B. -/
def execPairSnapshot (el : Nat) (a b : Fin 16) (s : State) : Host.Outcome State Fault Refusal :=
  s.run el (fun _ d => if d.hif.inService then d.pairSnap a.val b.val else d)

/-- GRID_PEEK, R292: a write of PEEK_Y. -/
def execGridPeek (el : Nat) (y : Word) (s : State) : Host.Outcome State Fault Refusal :=
  s.run el (fun _ d => if d.hif.inService then d.gridPeek y.toNat else d)

end Sys2Proof.Machine
end

