-- ==== Sys2Proof/Machine/Power.lean ====
section
/-! DEFINITION. Supplies (R489 to R499), the states LIT, DIM and SNUFFED (R494, R495, R501, R502) and the operating modes
(R512, R514), with their commands. -/

namespace Sys2Proof.Machine

/-- Base address of the PWR page. -/
def pwrPage : Nat := 0x001000

/-! ### Thresholds (R492, R493, Table 15.2) -/

/-- VWARN in force in mV (R493). -/
def Dev.vwarn (d : Dev) : Nat :=
  if d.rd PWR.VWARN = 0 then (if d.rd PWR.NOM_ACT = 2 then 16000 else 8000) else 100 * d.rdH 70 200 PWR.VWARN

/-- VBANK_UV in mV. -/
def Dev.vbankUv (d : Dev) : Nat := 100 * d.rdH 50 180 PWR.VBANK_UV

/-- OT_WARN in °C. -/
def Dev.otWarn (d : Dev) : Int := (d.rdH 100 145 PWR.OT_WARN : Nat)

/-! ### SNUFFED (R501, Table 15.4) -/

/-- Whether the leaving condition of a cause is met (Table 15.4): for DIM_MAX the end of the episode, which is the release of
VWARN; for OVERTEMP a logic die below OT_WARN. -/
def Dev.causeGone (d : Dev) (c : Nat) : Bool :=
  match c with
  | 2 => d.pwr.uv.isNone
  | 4 => decide (d.rdS PWR.LOGIC_TEMP < d.otWarn)
  | _ => true

/-- SNUFF_CAUSES without the causes that are gone. -/
def Dev.causesNow (d : Dev) : Dev :=
  d.wr PWR.SNUFF_CAUSES ((List.range 6).foldl (fun m c => if d.causeGone c then setBitOf m c false else m) (d.rd PWR.SNUFF_CAUSES))

/-- Entry into SNUFFED with a cause, or a further cause of the stay (R501). At an entry for DIM_MAX the latencies and the
staged records are written first (R168, R530). -/
def Dev.enterSnuffed (d : Dev) (now cause : Nat) : Dev :=
  if !d.ticking then d
  else
    let d := if cause = 2 && d.pwr.st != .snuffed then (d.latStore now).recWriteOut now else d
    let d := (d.wr PWR.SNUFF_CAUSE cause).wr PWR.SNUFF_CAUSES (setBitOf (d.rd PWR.SNUFF_CAUSES) cause true)
    let d := d.causesNow
    let d : Dev := { d with pwr := { d.pwr with snuffClr := false, masterConfirm := false, dimMaxDue := false } }
    let d := if d.pwr.st = .snuffed then d else ({ d with pwr := { d.pwr with st := .snuffed } }).pathSync now
    d.fire now EVT.PWR_SNUFFED 0 cause

/-- Whether VBAT stands at the level that leaving SNUFFED needs (Table 15.3). -/
def Dev.vbatHigh (d : Dev) : Bool := d.pwr.uv.isNone && decide (d.vwarn + 300 ≤ d.rd PWR.VBAT_MV)

/-- SNUFF_CLR written (R501): it counts in HOST mode once no cause persists. -/
def Dev.snuffClr (d : Dev) (now : Nat) : Dev :=
  if d.pwr.st = .snuffed && d.pwr.mode == .host then
    let d := d.causesNow
    { d with pwr := { d.pwr with snuffClr := d.rd PWR.SNUFF_CAUSES == 0, clrAt := now, clrUnder := d.holdOn pwrPage } }
  else d

/-- The master input's confirmation (R501): in AUTONOMOUS mode an edge of MASTER_GIN from off to on, in PLAIN mode a rise of
GIN16, once no cause persists. -/
def Dev.masterEdge (d : Dev) (i : Nat) (level : Bool) : Dev :=
  let hit := match d.pwr.mode with
    | .host => false
    | .autonomous => i == min 23 (d.rd DEC.MASTER_GIN) && level != d.on DEC.MASTER_POL
    | .plain => i == 16 && level
  if hit && d.pwr.st == .snuffed then
    let d := d.causesNow
    if d.rd PWR.SNUFF_CAUSES = 0 then { d with pwr := { d.pwr with masterConfirm := true } } else d
  else d

/-- The commit leaves SNUFFED where it is confirmed and VBAT stands (R501, R161). -/
def Dev.snuffCommit (d : Dev) (now : Nat) : Dev :=
  if d.pwr.st = .snuffed && ((d.pwr.snuffClr && !d.pwr.clrUnder) || d.pwr.masterConfirm) then
    let d := d.causesNow
    let ok := d.rd PWR.SNUFF_CAUSES == 0 && d.vbatHigh
    let d := { d with pwr := { d.pwr with snuffClr := d.pwr.snuffClr && d.pwr.clrUnder, masterConfirm := false } }
    if ok then (({ d with pwr := { d.pwr with st := .lit, litAt := some (d.pwr.litAt.getD now) } }).wr PWR.SNUFF_CAUSE 0).pathSync now else d
  else d

/-- An entry into EMBER asked for in DIM is acted on once the state is LIT (R518), also by way of SNUFFED. -/
def Dev.emberWaits (d : Dev) : Bool := d.pwr.emberReq && d.pwr.st == .lit

/-! ### Entry into EMBER asked for (R518, R519) -/

/-- The entry into EMBER begins (R519): the next commit turns every point and output off, and the field closes. -/
def Dev.emberStart (d : Dev) (now : Nat) : Dev :=
  let d := { d with pwr := { d.pwr with emberReq := false, emberWait := some now } }
  if d.rd COV.FIELD_STATE = 1 then { d with cov := { d.cov with cmd := 2, cmdUnder := false } } else d

/-- EMBER is asked for (R518): acted on from LIT or SNUFFED in HOST or AUTONOMOUS mode; in DIM it waits for LIT. -/
def Dev.emberAsk (d : Dev) (now : Nat) : Dev :=
  if d.pwr.mode = .plain || d.pwr.emberWait.isSome then d
  else if d.pwr.st = .lit || d.pwr.st = .snuffed then d.emberStart now
  else if d.pwr.st = .dim then { d with pwr := { d.pwr with emberReq := true } }
  else d

/-! ### Undervoltage episodes and DIM (R494 to R498) -/

/-- An episode is closed: one DIM record, DIM_CNT and DIM_LAST (R497). -/
def Dev.closeEpisode (d : Dev) (now : Nat) (e : Episode) (cycles : Nat) (byReset : Bool) : Dev :=
  let dur := cycles / ms 1
  let d := { d with pwr := { d.pwr with uv := none }, mram := { d.mram with episode := none } }
  let d := ((d.bump PWR.DIM_CNT).wr PWR.DIM_LAST (min 0xFFFF dur)).wr PWR.VMIN_MV (min 0xFFFF e.minMv)
  d.stageFree now 0x02 0 (b2n byReset) [min 0xFFFF e.minMv, dur % 2 ^ 32, nsOf e.start % 2 ^ 32, nsOf e.start / 2 ^ 32 % 2 ^ 32]

/-- VBAT has lain below VWARN for `held` cycles, at least 50 µs (R494, R497): an episode begins, and LIT becomes DIM. -/
def Dev.dimEntry (d : Dev) (now mv held : Nat) : Dev :=
  if d.alive && decide (us 50 ≤ held) && (d.pwr.st == .lit || d.pwr.st == .snuffed) && d.pwr.uv.isNone && decide (mv < d.vwarn) then
    let e : Episode := { start := now - held, minMv := mv, lastUpd := now }
    let d := (d.wr PWR.VBAT_MV mv).wr PWR.VMIN_MV mv
    let d := { d with pwr := { d.pwr with uv := some e, dimShed := false }, mram := { d.mram with episode := some e } }
    if d.pwr.st = .lit then
      ((({ d with pwr := { d.pwr with st := .dim } }).fire now EVT.PWR_DIM 0 (DevState.code .dim)).lswDim now)
    else d
  else d

/-- VBAT has held VWARN + 300 mV for `held` cycles, at least 10 ms (R495): the episode ends, with `low` the lowest VBAT since its
last update (R497), and DIM becomes LIT. -/
def Dev.dimEnd (d : Dev) (now mv low held : Nat) : Dev :=
  match d.pwr.uv with
  | none => d
  | some e =>
    if d.alive && decide (d.vwarn + 300 ≤ mv) && decide (ms 10 ≤ held) then
      let d := (d.wr PWR.VBAT_MV mv).closeEpisode now { e with minMv := min e.minMv low } (now - e.start) false
      if d.pwr.st = .dim then
        let d := ({ d with pwr := { d.pwr with st := .lit, dimMaxDue := false } }).fire now EVT.PWR_DIM_END 0 (DevState.code .lit)
        if d.pwr.emberReq then d.emberAsk now else d
      else if d.pwr.st = .snuffed then d.causesNow
      else d
    else d

/-- DIM has lasted longer than DIM_MAX (R496): SNUFFED, after the commit of a tick in work. -/
def Dev.dimMax (d : Dev) (now : Nat) : Dev :=
  match d.pwr.uv with
  | none => d
  | some e =>
    if d.alive && d.pwr.st == .dim && !d.pwr.dimMaxDue && decide (e.start + ms (d.rdH 100 60000 PWR.DIM_MAX) ≤ now) then
      let d := d.fire now EVT.PWR_DIM_MAX 0 0
      if d.edgePassed now then { d with pwr := { d.pwr with dimMaxDue := true } } else d.enterSnuffed now 2
    else d

/-- The entry that DIM_MAX left to the end of the commit (R496). -/
def Dev.dimMaxAfter (d : Dev) (now : Nat) : Dev :=
  if d.pwr.dimMaxDue then
    (if d.pwr.st = .dim then d.enterSnuffed now 2 else { d with pwr := { d.pwr with dimMaxDue := false } })
  else d

/-- The lowest VBAT seen, written every 100 ms of an episode (R497). -/
def Dev.episodeUpdate (d : Dev) (now mv : Nat) : Dev :=
  match d.pwr.uv with
  | none => d
  | some e =>
    if d.alive && decide (e.lastUpd + ms 100 ≤ now) then
      let e : Episode := { e with minMv := min e.minMv mv, lastUpd := now }
      { d with pwr := { d.pwr with uv := some e }, mram := { d.mram with episode := some e } }.wr PWR.VMIN_MV e.minMv
    else d

/-! ### Bank supply, SNS5V and the logic die's temperature (R491, R493, R499, R502) -/

/-- Whether the power dies run: any state but OFF and EMBER. -/
def Dev.diesOn (d : Dev) : Bool := d.pwr.st != .off && d.pwr.st != .ember

/-- The power dies are switched off (R508, R519). -/
def Dev.diesOff (d : Dev) (now : Nat) : Dev :=
  let d := d.each (List.range 32) (fun d c =>
    ((d.cancelStart now c).endDrive now c [] true).modIdc c (fun x => { x with cmds := [], comOn := false, grid := none, snuff := none, holdEnd := none }))
  d.each (List.range 16) (fun d n =>
    (d.modLsw n (fun c => { c with cmds := [], com := false, force := 0, snuff := none, holdEnd := none })).lswApply now now n)

/-- VPWR_k has crossed VBANK_UV or the overvoltage level for `held` cycles, at least 20 µs (R499). -/
def Dev.bankSuspend (d : Dev) (now b mv held : Nat) : Dev :=
  if d.diesOn && decide (us 20 ≤ held) && !bitOf (d.rd PWR.BANK_SUSP) b && (decide (mv < d.vbankUv) || decide (40000 < mv)) then
    let d := (d.wr (vpwrField b) mv).wr PWR.BANK_SUSP (setBitOf (d.rd PWR.BANK_SUSP) b true)
    let d := d.wr PWR.BANK_OV (setBitOf (d.rd PWR.BANK_OV) b (decide (40000 < mv)))
    (((d.idcBankOff now b).lswBankSusp now b true).covBankOff b now).fire now EVT.PWR_BANK_SUSP b 0
  else d

/-- The release of Table 15.2 for a suspended bank. -/
def Dev.bankReleased (d : Dev) (b mv : Nat) : Bool :=
  if bitOf (d.rd PWR.BANK_OV) b then decide (mv < 37000) && decide (d.vbankUv ≤ mv) else decide (d.vbankUv + 500 ≤ mv) && decide (mv ≤ 40000)

/-- A suspended bank resumes, its release having held for 5 ms (R499). -/
def Dev.bankResume (d : Dev) (now b mv held : Nat) : Dev :=
  if d.diesOn && decide (ms 5 ≤ held) && bitOf (d.rd PWR.BANK_SUSP) b && d.bankReleased b mv then
    let d := (d.wr (vpwrField b) mv).wr PWR.BANK_SUSP (setBitOf (d.rd PWR.BANK_SUSP) b false)
    let d := d.wr PWR.BANK_OV (setBitOf (d.rd PWR.BANK_OV) b false)
    (((d.idcBankOn now b).lswBankSusp now b false).covBankOn b now).fire now EVT.PWR_BANK_OK b 0
  else d

/-- VBAT overvoltage, held for 20 µs, and its release, held for 5 ms, reported only (R493). -/
def Dev.vbatOv (d : Dev) (mv held : Nat) : Dev :=
  let d := d.wr PWR.VBAT_MV mv
  if 40000 < mv && us 20 ≤ held then d.wr PWR.VBAT_OV 1 else if mv < 37000 && ms 5 ≤ held then d.wr PWR.VBAT_OV 0 else d

/-- A load above 450 mA for 1 ms switches SNS5V off (R491). -/
def Dev.sns5vFault (d : Dev) (now ma held : Nat) : Dev :=
  if d.alive && decide (ms 1 ≤ held) && d.on PWR.SNS5V_EN && d.pwr.sns5vOffAt.isNone && decide (450 < ma) then
    (({ d with pwr := { d.pwr with sns5vOffAt := some now } }.wr PWR.SNS5V_MA ma).wr PWR.SNS5V_FLT 1).fire now EVT.PWR_SNS5V 0 1
  else d

/-- A retry of SNS5V, 100 ms after it was switched off (R491), that has drawn `ma` for `held` cycles: above 450 mA for 1 ms it is off
again, and the fault clears where it holds for 10 ms. -/
def Dev.sns5vRetry (d : Dev) (now ma held : Nat) : Dev :=
  match d.pwr.sns5vOffAt with
  | none => d
  | some t =>
    if !d.on PWR.SNS5V_EN || decide (now < t + ms 100 + held) then d
    else if 450 < ma then (if ms 1 ≤ held then { d with pwr := { d.pwr with sns5vOffAt := some now } }.wr PWR.SNS5V_MA ma else d)
    else if ms 10 ≤ held then ({ d with pwr := { d.pwr with sns5vOffAt := none } }.wr PWR.SNS5V_MA ma).wr PWR.SNS5V_FLT 0
    else d

/-- A reading of the logic die's temperature (R502): EVT_PWR_OVERTEMP at a rise through OT_WARN, SNUFFED at 150 °C, and the
cause OVERTEMP gone below OT_WARN. -/
def Dev.logicTemp (d : Dev) (now : Nat) (t : Int) : Dev :=
  let was := d.rdS PWR.LOGIC_TEMP
  let d := d.wrS PWR.LOGIC_TEMP t
  if !d.alive || d.pwr.st = .ember then d
  else
    let d := if was < d.otWarn && d.otWarn ≤ t then d.fire now EVT.PWR_OVERTEMP 0 0 else d
    if 150 ≤ t && (was < 150 || d.pwr.st != .snuffed) then d.enterSnuffed now 4 else if d.pwr.st = .snuffed then d.causesNow else d

/-! ### Operating modes (R9, R512, R514) -/

/-- A mode takes effect (R512, R514): outside HOST the watchdog is disarmed (R357) and SAFE_N is released under AUTO (R356);
where PLAIN begins, channel 0 counts pulses from then on (R380, R389); where it ends, its overrides end and every point
opens off (R390). -/
def Dev.setMode (d : Dev) (now : Nat) (m : OpMode) : Dev :=
  let was := d.pwr.mode
  let d := { d with pwr := { d.pwr with mode := m } }
  let d := if m = .host then d else (d.wdgDisarm now).safeAutoCheck now
  let d := if was = .plain && m != .plain && d.ticking then
      (((({ d with dec := { d.dec with openOff := true } }).fbkRestart now 0).canStart now).gridStart now)
    else d
  let d := if m = .plain then d.fbkRestart now 0 else d
  d.fire now EVT.PWR_MODE 0 m.code

/-- MODE_REQ written (R20, R514): the value waits for its commit, or for the end of the hold it was written under. -/
def Dev.modeAsk (d : Dev) (now m : Nat) : Dev :=
  { d with pwr := { d.pwr with modeReq := m, modeAt := now, modeUnder := d.holdOn pwrPage } }

/-- MODE_REQ takes effect at the commit (R514). -/
def Dev.modeCommit (d : Dev) (now : Nat) : Dev :=
  let r := if d.pwr.modeUnder then 0 else d.pwr.modeReq
  let d := { d with pwr := { d.pwr with modeReq := if d.pwr.modeUnder then d.pwr.modeReq else 0 } }
  if r = 1 && d.pwr.mode != .host then d.setMode now .host
  else if r = 2 && d.on PWR.CFG_VALID && d.pwr.mode != .autonomous then d.setMode now .autonomous
  else d

/-- The value of a field in the configuration image, its reset value where the image lists none. -/
def Dev.imageVal (d : Dev) (f : Field) : Nat :=
  match d.mram.image with | some i => (tget? i.fields f.key).getD f.reset | none => f.reset

/-- Whether the image holds a FIELD_ORIGIN: its three words are not all 0 (log entry 122). -/
def Dev.imageOrigin (d : Dev) : Bool := [GEOP.ORG_LAT, GEOP.ORG_LON, GEOP.ORG_H].any (fun f => d.imageVal f != 0)

/-- The field that AUTONOMOUS mode opens by itself at the end of KINDLE (R96): identity, cell size and origin are those of the image,
the origin is the first pose's where it holds none, and OPEN is acted on at the first commit. -/
def Dev.autoField (d : Dev) : Dev :=
  if d.rd COV.FIELD_STATE != 0 then d
  else
    let a := d.origin
    let d := { d with pose := { d.pose with orgDue := false } }
    let fs := [COV.FIELD_ID, COV.CELL_SIZE] ++ (if d.imageOrigin then [GEOP.ORG_LAT, GEOP.ORG_LON, GEOP.ORG_H] else [])
    let d := d.each fs (fun d f => d.wr f (d.imageVal f))
    let d := { d with pend := d.pend.filter (fun x => !fs.any (fun f => f.key == x.1)) }
    let d := ({ d with cov := { d.cov with cmd := 1, cmdUnder := false } }).reframe a
    if d.imageOrigin then d else { d with pose := { d.pose with orgDue := true, frame := d.origin } }

/-- The mode is selected (R512, R513): the grid starts at the rate held in TICK_RATE (R569) with its first edge within one
period (log entry 23), and in AUTONOMOUS mode a field opens by itself (R96). -/
def Dev.modeSelect (d : Dev) (now : Nat) (m : OpMode) : Dev :=
  let d := ({ d with pwr := { d.pwr with hostWaitTill := none, modeSel := true } }).setMode now m
  let p := periodOf (d.rd SYS.TICK_RATE)
  let r := d.draw 32
  let d := { r.2 with sys := { d.sys with gridOn := true, tEpoch := now + 1 + r.1 % p, nEpoch := d.sys.nextN, period := p, rateChg := [] } }
  let d := { d with pair := { d.pair with gridPt := d.ptOf (nsOf d.sys.tEpoch) } }
  let d := (d.wr SYS.TICK_RATE_ACT (d.rd SYS.TICK_RATE)).wr SYS.DEGRADED 0
  let d := (d.canStart now).gridStart now
  if m = .autonomous then d.autoField else d

/-- HOST_WAIT in cycles. -/
def Dev.hostWait (d : Dev) : Nat := ms (d.rdH 50 5000 PWR.HOST_WAIT)

/-- HOST_WAIT has ended (R512): AUTONOMOUS with a valid image, otherwise PLAIN. -/
def Dev.hostWaitEnd (d : Dev) (now : Nat) : Dev :=
  match d.pwr.hostWaitTill with
  | none => d
  | some t => if t ≤ now then d.modeSelect now (if d.on PWR.CFG_VALID then .autonomous else .plain) else d

/-- A qualifying host access (R473): HOST_SEEN sets, and within HOST_WAIT it selects HOST (R512). -/
def Dev.hostSeen (d : Dev) (now : Nat) : Dev :=
  let d := (d.hostWaitEnd now).wr HIF.HOST_SEEN 1
  if d.pwr.hostWaitTill.isSome then d.modeSelect now .host else d

/-- The RESET record at the end of a KINDLE or a Relight (Table 16.2). -/
def Dev.resetRecord (d : Dev) (now : Nat) : Dev :=
  d.stageFree now 0x07 0 0 [d.rd PWR.LAST_RESET + 8 * d.rd PWR.SNUFF_CAUSE + 64 * d.pwr.mode.code, d.rd PWR.RELIGHT_CNT]

/-- The first tick edge after mode selection (R513): LIT, or SNUFFED after an escalated system reset (R506). -/
def Dev.firstTick (d : Dev) (now : Nat) : Dev :=
  if d.pwr.st = .kindle && d.pwr.modeSel then
    let storm := d.pwr.stormEnd
    let d := { d with pwr := { d.pwr with st := .lit, stormEnd := false, wake := false, litAt := if storm then none else some now } }
    (if storm then d.enterSnuffed now 5 else d).resetRecord now
  else d

/-! ### Commands -/

/-- Whether a host's write to an RWL field of the PWR page is taken. -/
def Dev.pwrWrites (d : Dev) (now : Nat) : Bool := d.hif.inService && d.unlocked now pwrPage

/-- HOST_WAIT_EXPIRY, R512. -/
def execHostWaitExpiry (el : Nat) (s : State) : Host.Outcome State Fault Refusal :=
  s.run el (fun now d => d.hostWaitEnd now)

/-- MODE_REQ, R514: a write of MODE_REQ, on the unlocked page. -/
def execModeReq (el : Nat) (m : BitVec 2) (s : State) : Host.Outcome State Fault Refusal :=
  s.run el (fun now d => if d.pwrWrites now then d.modeAsk now m.toNat else d)

/-- DIM_ENTRY, R494: VBAT, now `mv`, has lain below VWARN for `held` cycles. -/
def execDimEntry (el : Nat) (mv : BitVec 16) (held : Nat) (s : State) : Host.Outcome State Fault Refusal :=
  s.run el (fun now d => d.dimEntry now mv.toNat held)

/-- DIM_END, R495: VBAT, now `mv`, has held its release level for `held` cycles; `low` the lowest since the last update. -/
def execDimEnd (el : Nat) (mv low : BitVec 16) (held : Nat) (s : State) : Host.Outcome State Fault Refusal :=
  s.run el (fun now d => d.dimEnd now mv.toNat low.toNat held)

/-- DIM_MAX, R496: the episode has lasted DIM_MAX. -/
def execDimMax (el : Nat) (s : State) : Host.Outcome State Fault Refusal :=
  s.run el (fun now d => d.dimMax now)

/-- EPISODE_UPDATE, R497: 100 ms of the episode, with the lowest VBAT since the last update. -/
def execEpisodeUpdate (el : Nat) (mv : BitVec 16) (s : State) : Host.Outcome State Fault Refusal :=
  s.run el (fun now d => d.episodeUpdate now mv.toNat)

/-- BANK_SUSPEND, R499: VPWR of a bank has lain past a suspending level for `held` cycles. -/
def execBankSuspend (el : Nat) (bank : Fin 4) (mv : BitVec 16) (held : Nat) (s : State) : Host.Outcome State Fault Refusal :=
  s.run el (fun now d => d.bankSuspend now bank.val mv.toNat held)

/-- BANK_RESUME, R499: VPWR of a bank has held its release level for `held` cycles. -/
def execBankResume (el : Nat) (bank : Fin 4) (mv : BitVec 16) (held : Nat) (s : State) : Host.Outcome State Fault Refusal :=
  s.run el (fun now d => d.bankResume now bank.val mv.toNat held)

/-- VBAT_OVERVOLTAGE, R493: VBAT has crossed the overvoltage level, or its release level. -/
def execVbatOvervoltage (el : Nat) (mv : BitVec 16) (held : Nat) (s : State) : Host.Outcome State Fault Refusal :=
  s.run el (fun _ d => if d.pwr.st = .off then d else d.vbatOv mv.toNat held)

/-- SNS5V_FAULT, R491: a load of `ma` on SNS5V for `held` cycles. -/
def execSns5vFault (el : Nat) (ma : BitVec 10) (held : Nat) (s : State) : Host.Outcome State Fault Refusal :=
  s.run el (fun now d => d.sns5vFault now ma.toNat held)

/-- SNS5V_RETRY, R491: a retry, with the load it finds. -/
def execSns5vRetry (el : Nat) (ma : BitVec 10) (held : Nat) (s : State) : Host.Outcome State Fault Refusal :=
  s.run el (fun now d => if d.alive then d.sns5vRetry now ma.toNat held else d)

/-- SNUFF_REQ, R501: a write of 1 to SNUFF_REQ, on the unlocked page. -/
def execSnuffReq (el : Nat) (s : State) : Host.Outcome State Fault Refusal :=
  s.run el (fun now d => if d.pwrWrites now then d.enterSnuffed now 3 else d)

/-- SNUFF_CLR, R501: a write of 1 to SNUFF_CLR, on the unlocked page. -/
def execSnuffClr (el : Nat) (s : State) : Host.Outcome State Fault Refusal :=
  s.run el (fun now d => if d.pwrWrites now then d.snuffClr now else d)

/-- OT_WARN, R502: the logic die's temperature rises through OT_WARN. -/
def execOtWarn (el : Nat) (t : BitVec 10) (s : State) : Host.Outcome State Fault Refusal :=
  s.run el (fun now d => if d.pwr.st = .off then d else d.logicTemp now t.toInt)

/-- OVERTEMP, R502: the logic die reaches 150 °C. -/
def execOvertemp (el : Nat) (t : BitVec 10) (s : State) : Host.Outcome State Fault Refusal :=
  s.run el (fun now d => if d.pwr.st = .off then d else d.logicTemp now t.toInt)

/-- LOGIC_DIE_BELOW_OT_WARN, R501: the logic die's temperature falls below OT_WARN. -/
def execLogicDieBelowOtWarn (el : Nat) (t : BitVec 10) (s : State) : Host.Outcome State Fault Refusal :=
  s.run el (fun now d => if d.pwr.st = .off then d else d.logicTemp now t.toInt)

/-- EMBER_REQ, R518: a write of 1 to EMBER_REQ, on the unlocked page. -/
def execEmberReq (el : Nat) (s : State) : Host.Outcome State Fault Refusal :=
  s.run el (fun now d => if d.pwrWrites now then d.emberAsk now else d)

/-- The time for which input `i` must hold a new level (R388): DEB_MS, or the 2 µs of the glitch filter. -/
def Dev.ginHold (d : Dev) (i : Nat) : Nat := max (us 2) (ms (d.rd (GIN.DEB_MS i)))

/-- GIN_CHANGE, R388: input `i` has held a new level for `held` cycles without a break; DEB_MS of them accept it. -/
def execGinChange (el : Nat) (i : Fin 24) (level : Bool) (held : Nat) (s : State) : Host.Outcome State Fault Refusal :=
  s.run el (fun now d =>
    if d.pwr.st = .off || decide (held < d.ginHold i.val) || bitOf (d.rd GIN.GIN_STATE) i.val == level then d
    else
      let d := d.ginAccept now i.val level
      let d := { d with pwr := { d.pwr with ginAt := tset d.pwr.ginAt i.val now } }
      if d.alive then d.masterEdge i.val level else d)

end Sys2Proof.Machine
end

