-- ==== Sys2Proof/Machine/Reset.lean ====
section
/-! DEFINITION. The resets (R503 to R506, R568), KINDLE (R507 to R511), Relight (R515 to R517, R567), the errors that cause a
reset (R30, R32), and their commands. -/

namespace Sys2Proof.Machine

/-! ### The grid across a reset (R40, R516) -/

/-- A period change at the edge of tick `m` to `p` cycles takes effect if it has come due (R41, R55, R569): the edge is the new
T_epoch (R40), and DEGRADED clears where `p` is the rate held in TICK_RATE. -/
def Dev.gridTurnOne (now : Nat) (d : Dev) (x : Nat × Nat) : Dev :=
  let e := d.edgeOf x.1
  if e ≤ now then
    let l := d.sys.rateChg.filter (· != x)
    let d := { d with pair := { d.pair with gridPt := d.pair.gridPt + nsOf ((x.1 - d.sys.nEpoch) * d.sys.period) } }
    let d := { d with sys := { d.sys with tEpoch := e, nEpoch := x.1, nextN := max x.1 d.sys.nextN, period := x.2, rateChg := l } }
    let d := d.wr SYS.TICK_RATE_ACT (rateCode x.2)
    if x.2 = periodOf (d.rd SYS.TICK_RATE) then d.wr SYS.DEGRADED 0 else d
  else d

/-- The period changes that have come due, in order. -/
def Dev.gridTurn (d : Dev) (now : Nat) : Dev := d.sys.rateChg.foldl (Dev.gridTurnOne now) d

/-- The tick count moves past every edge that has fallen by `now` (R516). -/
def Dev.gridAdvance (d : Dev) (now : Nat) : Dev :=
  if d.edgePassed now then
    let d := d.gridTurn now
    if d.nextEdge ≤ now then { d with sys := { d.sys with nextN := d.sys.nextN + 1 + (now - d.nextEdge) / max 1 d.sys.period } } else d
  else d

/-- The grid stops; the tick count is kept (R40). -/
def Dev.gridHalt (d : Dev) (now : Nat) : Dev :=
  let d := d.gridAdvance now
  { d with sys := { d.sys with gridOn := false, rateChg := [] } }

/-! ### System reset (R503, R504, R568) -/

/-- What a reset ends at once: the register space, page locks, pending commits and the entry into EMBER. -/
def Dev.serviceEnds (d : Dev) : Dev :=
  { d with hif := { d.hif with inService := false, unlocked := [], keyHalf := [] },
           mram := { d.mram with fwFailed := d.mram.fwFailed || d.mram.fwTrial } }

/-- A system reset (R503): every output takes its snuff state at once, and KINDLE follows. `storm` for an escalation under
R506. -/
def Dev.systemReset (d : Dev) (now code : Nat) (storm : Bool) : Dev :=
  if d.pwr.st = .off then d
  else
    let opSince := if d.pwr.st = .ember then now else d.pwr.opSince
    let d := (((d.recFlush now).gridHalt now).serviceEnds).wr PWR.LAST_RESET code
    let d := (d.wr PWR.SNUFF_CAUSE 0).wr PWR.SNUFF_CAUSES 0
    let p := { d.pwr with st := .kindle, modeSel := false, stage := .kindle, outHold := .snuff, hostWaitTill := none, relightEnd := none }
    let p := { p with stormEnd := storm, wake := false, paused := false, uv := none, dimMaxDue := false, snuffClr := false }
    let p := { p with masterConfirm := false, modeReq := 0, emberReq := false, opSince := opSince, litAt := none, fwPush := none }
    let p := { p with fwVerify := none, emberWait := none, outOff := false }
    let d := { d with pwr := p }
    d.outputsSnuff now

/-- A logic-die reset (R503): the power dies hold their outputs, the PWM outputs take their snuff states (R364). -/
def Dev.logicDieReset (d : Dev) (now code : Nat) : Dev :=
  let d := d.gridTurn now
  let d := d.each (List.range 8) (fun d n => d.crcAbort now n)
  let d := d.serviceEnds.wr PWR.LAST_RESET code
  let d := d.each (List.range 32) (fun d c => d.idcHold now c)
  let d := d.each (List.range 16) (fun d n => d.lswHold now n)
  let d := d.pwmSnuffSet now true
  { d with pwr := { d.pwr with stage := .relight, resetAt := now, relightFrom := now } }

/-- A cause of a logic-die reset (R503): in KINDLE, EMBER or recovery a system reset with the logic-die code (R568); within 10 s
of the last Relight an escalated one (R506); while a Relight is to come, a failed Relight (R517). -/
def Dev.logicCause (d : Dev) (now code : Nat) : Dev :=
  if d.pwr.st = .off then d
  else if d.pwr.st = .kindle || d.pwr.st = .ember then d.systemReset now code false
  else if d.pwr.stage = .relight then (d.bump PWR.RELIGHT_FAIL).systemReset now 3 false
  else
    match d.pwr.relightEnd with
    | some t => if now < t + sec 10 then d.systemReset now 3 true else d.logicDieReset now code
    | none => d.logicDieReset now code

/-- RST_CMD written (R505): refused while a point is committed on. -/
def Dev.rstCmd (d : Dev) (now v : Nat) : Dev :=
  if v != 0xD1 && v != 0xE7 then d
  else if d.validPts.any (fun n => (d.decOf n).s) then d.wr PWR.RST_REFUSED 1
  else
    let d := d.wr PWR.RST_REFUSED 0
    if v = 0xD1 then d.systemReset now 2 false else d.logicCause now 7

/-! ### RESET_N (R503) -/

/-- RESET_N has been low for `held` cycles; below 1 µs it is ignored. -/
def Dev.resetFall (d : Dev) (now held : Nat) : Dev :=
  if d.pwr.st = .off || d.pwr.resetLow.isSome || decide (held < us 1) then d
  else { d with pwr := { d.pwr with resetLow := some (now - held), stageMaySys := true } }.logicCause now 6

/-- RESET_N is still low 10 ms after its fall. -/
def Dev.resetLong (d : Dev) (now : Nat) : Dev :=
  match d.pwr.resetLow with
  | some t =>
    if d.pwr.stageMaySys && decide (t + ms 10 ≤ now) then
      ({ d with pwr := { d.pwr with stageMaySys := false } }).systemReset now 1 false
    else d
  | none => d

/-- RESET_N rises: the Relight or KINDLE that follows begins. -/
def Dev.resetRise (d : Dev) (now : Nat) : Dev :=
  { d with pwr := { d.pwr with resetLow := none, stageMaySys := false, relightFrom := now } }

/-! ### Power-on reset (R503, R504) -/

/-- The block after a power-on reset: MRAM, with the network image that lies in it (R266), is kept. -/
def Dev.porKeep (d : Dev) : Dev :=
  { regs := [], mem := d.mem.filter (fun c => decide (0x600000 ≤ c.1)), mram := d.mram, freeCtr := d.freeCtr, pwr := { st := .off } }

/-- A counted act that a reset finds in progress is done or not (R539): the spec leaves which. -/
def Dev.cntTorn (d : Dev) (now : Nat) : Dev :=
  match d.cntAct with
  | none => d
  | some a =>
    let r := d.draw 1
    let e := if r.1 = 1 && a.idx != 12 then r.2.cntStore now a.idx a.path a.old a.new a.new else r.2
    { e with cntAct := none }

/-- VBAT lies below VRST (Table 15.3): OFF, by a power-on reset. -/
def Dev.powerOff (d : Dev) (now : Nat) : Dev :=
  let d := (d.recFlush now).cntTorn now
  ({ d with mram := { d.mram with opCycles := d.opCycles now, fwFailed := d.mram.fwFailed || d.mram.fwTrial } }).porKeep

/-! ### KINDLE (R507 to R511) -/

/-- Whether a read-only field at address `a`, from bit `lo`, counts since power-on (R486, R426, R452, R453 and the register tables), or
reports the last commit (R50), the accesses of the host, the counted settings or the firings of events. -/
def countsOn (a lo : Nat) : Bool :=
  let o := a % 0x1000
  (a == 0x000060 || a == 0x000064 || a == 0x002050 || decide (0x002400 ≤ a ∧ a < 0x003000) || a == 0x00305C || a == 0x00405C || (a == 0x004060 && lo == 0)) ||
  ((0x005000 ≤ a && a < 0x006000) || a == 0x0100A0 || (0x032048 ≤ a && a < 0x032058) || a == 0x033048 || (0x0340F8 ≤ a && a < 0x034100)) ||
  ((0x037100 ≤ a && a < 0x037300 && 0x58 ≤ a % 0x80 && a % 0x80 < 0x6C) || (0x03806C ≤ a && a < 0x038080) || (a == 0x038060 && lo == 24)) ||
  ((0x038100 ≤ a && a < 0x038200 && a % 16 == 8) || (0x060000 ≤ a && a < 0x066000 && (o == 0x6C || o == 0x70 || (o == 0x60 && lo == 8)))) ||
  ((0x060000 ≤ a && a < 0x062000 && o == 0xAC) || (0x062000 ≤ a && a < 0x066000 && o == 0xA4) || (0x070000 ≤ a && a < 0x072000 && 0x48 ≤ o && o < 0x54)) ||
  (a == 0x072050 || a == 0x072054 || (a == 0x072068 && lo == 16) || (0x080000 ≤ a && a < 0x081000) || o == 0x010)

/-- Whether a register field keeps its value across a system reset (R61, Table 15.6): counters, the fault latches that the power
dies hold, the retention domain (R364), what shows the coverage, the receiver and the supplies, and events that have fired. -/
def keptField (f : Field) : Bool :=
  let a := f.addr
  (f.acc == .ro && ((0x040000 ≤ a && a < 0x04A000) || (0x030000 ≤ a && a < 0x032000) || (0x035000 ≤ a && a < 0x037000) || countsOn a f.lo)) ||
  (0x04A000 ≤ a && a < 0x058000) ||
  (a % 0x1000 == 0x018 && isPage (a - 0x018)) ||
  [SYS.OVR_TOTAL, SYS.SRAM_CE, SYS.SRAM_UE, SYS.MRAM_CE, SYS.LS_PAIR_A, SYS.LS_PAIR_B, SYS.PH_MAX 0, SYS.PH_MAX 1, SYS.PH_MAX 2, SYS.PH_MAX 3,
   SYS.PH_MAX 4].contains f ||
  [PWR.RELIGHT_CNT, PWR.RELIGHT_FAIL, PWR.DIM_CNT, PWR.DIM_LAST, PWR.VMIN_MV, PWR.VBAT_MV, PWR.VBAT_OV, PWR.BANK_SUSP, PWR.BANK_OV, PWR.LAST_RESET,
   PWR.LOGIC_TEMP].contains f ||
  [HIF.HOST_SEEN, WDG.SAFE_LEVEL, WDG.SAFE_LATCHED].contains f

/-- Whether a key names a kept field. -/
def keptKey (k : Nat) : Bool := ((fieldOfKey k).map keptField).getD false

/-- The block as a system reset leaves it (Table 15.6), at the start of the KINDLE that follows. -/
def Dev.sysKeep (d : Dev) : Dev :=
  let k : Dev := { regs := d.regs.filter (fun x => keptKey x.1), pend := d.pend.filter (fun x => keptKey x.1),
                   mem := d.mem.filter (fun c => decide (0x600000 ≤ c.1)), mram := d.mram, freeCtr := d.freeCtr }
  let k := { k with sys := { nextN := d.sys.nextN }, rec_ := { buckets := d.rec_.buckets }, cov := { bankOff := d.cov.bankOff, noLoad := d.cov.noLoad }, tpl := d.tpl }
  let filts : Tab PtDec := d.dec.pts.map (fun x => (x.1, { latOn := x.2.latOn, latOff := x.2.latOff }))
  let k := { k with dec := { pts := filts, latChanged := d.dec.latChanged, latStoredAt := d.dec.latStoredAt }, pose := { hist := d.pose.hist },
                     grid := { shared := d.grid.shared, contra := d.grid.contra, shared0 := d.grid.shared, contra0 := d.grid.contra } }
  let k := { k with gnss := { d.gnss with chans := [], raw := [], rtcm := [] }, time := d.time, fbk := d.fbk, idc := d.idc, lsw := d.lsw, pwm := d.pwm }
  { k with wdg := { safePath := d.wdg.safePath, highAt := d.wdg.highAt, ovlAt := d.wdg.ovlAt }, pwr := d.pwr }

/-- The firmware bank of number `b`. -/
def Dev.fwBank (d : Dev) (b : Nat) : FwBank := if b = 0 then d.mram.fwA else d.mram.fwB

/-- Sets a firmware bank. -/
def Dev.setFwBank (d : Dev) (b : Nat) (k : FwBank) : Dev := { d with mram := if b = 0 then { d.mram with fwA := k } else { d.mram with fwB := k } }

/-- What verification finds of bank `b`, staged over or as shipped: its code and FW_VER (R507). -/
def Dev.fwVerifyBank (d : Dev) (b : Nat) : Nat × Nat :=
  let k := d.fwBank b
  if k.bytes.isEmpty then (if k.ver = 0 then 1 else 0, k.ver)
  else
    let bs := k.bytes.map (fun c => (c.1, c.2.toNat))
    (Config.fwCheck b bs % 4, Config.fwVersion b bs % 2 ^ 32)

/-- Whether bank `b` runs: it verifies, at or above the rollback floor (R507). -/
def Dev.fwRuns (d : Dev) (b : Nat) : Bool :=
  let v := d.fwVerifyBank b
  v.1 == 0 && decide (d.cntVal 5 ≤ v.2)

/-- The choice of a firmware bank (R507, R525): the block with the bank that runs, whether EVT_PWR_FW_ROLLBACK is due, and whether
a bank runs at all (R508). -/
def Dev.fwChoose (d : Dev) : Dev × Bool × Bool :=
  let m := d.mram
  let want := if m.fwPending || m.fwTrial then 1 - m.fwRun else m.fwRun
  let back := m.fwTrial && !m.fwPending
  let ok := d.fwRuns want
  let d := d.each [0, 1] (fun d b => let v := d.fwVerifyBank b; d.setFwBank b { d.fwBank b with ver := if v.1 = 0 then v.2 else 0 })
  if ok then ({ d with mram := { d.mram with fwRun := want, fwTrial := m.fwPending, fwPending := false, fwFailed := false } }, back, true)
  else ({ d with mram := { d.mram with fwRun := 1 - want, fwTrial := false, fwPending := false, fwFailed := false } }, true, d.fwRuns (1 - want))

/-- Whether the image holds a field (R522). -/
def imageField (f : Field) : Bool :=
  f.acc == .rws || (0x004100 ≤ f.addr && f.addr < 0x004180 && f.acc == .rw) || (0x003100 ≤ f.addr && f.addr < 0x003200) || (f.addr / 0x1000 == 2 && f.acc == .rw && 0x040 ≤ f.addr % 0x1000) ||
  [PWR.NOM_SYS, PWR.VWARN, PWR.VBANK_UV, PWR.DIM_MAX, PWR.HOST_WAIT, PWR.IGN_EN, PWR.IGN_GIN, PWR.IGN_POL, PWR.EMBER_DELAY, PWR.EMBER_FLUSH_MAX,
   PWR.EMBER_TIMER, GEOP.ORG_LAT, GEOP.ORG_LON, GEOP.ORG_H].contains f

/-- Whether a key names a field of the image. -/
def imageKey (k : Nat) : Bool := ((fieldOfKey k).map imageField).getD false

/-- Whether MRAM holds a valid image (R509). -/
def Dev.imageValid (d : Dev) : Bool := match d.mram.image with | some i => i.crcOk && i.layout == 1 | none => false

/-- A valid image is loaded (R509), but for the retention domain where it is kept; the blocks take up what it holds. -/
def Dev.imageLoad (d : Dev) (por : Bool) : Dev :=
  let d := d.wrB PWR.CFG_VALID d.imageValid
  let d := match d.mram.image, d.imageValid with
    | some i, true =>
      let d := d.each (i.fields.filter (fun (x : Nat × Nat) => imageKey x.1 && (por || !keptKey x.1))) (fun d x =>
        match fieldOfKey x.1 with | some f => d.wr f x.2 | none => d)
      let d := { d with rec_ := { d.rec_ with lists := i.lists } }
      let d := d.each ((List.range 32).filter (fun s => (d.snapList s).any (· != 0))) Dev.tsChanged
      { d with gnss := { d.gnss with almanac := d.gnss.almanac || i.almanac, startPos := if por then i.pos else d.gnss.startPos } }
    | _, _ => d
  let d := d.each (List.range 16) (fun d k =>
    if profCode (d.candPhases [] k) = 0 then { d with idcB := { d.idcB with accepted := setBitOf d.idcB.accepted k true } } else d)
  (((d.profErrShow).geoAfterCommit []).nodeTableCommit).fieldFollow

/-- The tiles of a reset that keeps the caches are checked, and their outstanding requests issued again (R123, R124). -/
def Dev.tilesCheck (d : Dev) (now : Nat) : Dev :=
  d.each d.tpl.slots (fun d x =>
    let s := x.2
    if s.bad then d.damaged now x.1
    else if s.st = .loading then (d.setSlot x.1 {}).fetchTile now s.layer s.tx s.ty
    else if s.st = .writeback then (d.setSlot x.1 { s with st := .dirty, req := none }).sendPut now x.1 0 s.evicting
    else d)

/-- The field after a system reset (Table 15.6): it stays OPEN where the loaded FIELD_ID and CELL_SIZE match; otherwise it goes
CLOSING, the values of the open field stay in force, and the loaded ones stay pending (R95). -/
def Dev.fieldAfterReset (d : Dev) (now : Nat) : Dev :=
  if d.rd COV.FIELD_STATE = 0 || (d.rd COV.FIELD_ID == d.rd COV.FIELD_ID_ACT && d.rd COV.CELL_SIZE == d.rd COV.CELL_SIZE_ACT) then d
  else
    let e := d.each [COV.FIELD_ID, COV.CELL_SIZE] (fun d f => { d with pend := tset d.pend f.key { val := d.rd f, at_ := now } })
    let e := (e.wr COV.FIELD_ID (d.rd COV.FIELD_ID_ACT)).wr COV.CELL_SIZE (d.rd COV.CELL_SIZE_ACT)
    if d.rd COV.FIELD_STATE = 1 then e.fieldClosing now else e

/-- The power-die handshake (R510): VPWR measured, NOM_ACT set (R493), the snuff copies loaded. -/
def Dev.handshake (d : Dev) (now vbat : Nat) (vpwr : List Nat) : Dev :=
  let d := (d.wr PWR.VBAT_MV vbat).each (List.range 4) (fun d b => d.wr (vpwrField b) (vpwr.getD b 0))
  let nom := match d.rd PWR.NOM_SYS with
    | 1 => 1
    | 2 => 2
    | _ => if 18000 ≤ vbat then 2 else 1
  let d := (d.wr PWR.NOM_ACT nom).wr WDG.SNUFF_SYNC 1
  let d := if d.pwr.outHold = .snuff then d.outputsSnuff now else d
  d.pathSync now

/-- The register space comes into service, and HOST_WAIT begins (R511, R512). -/
def Dev.inService (d : Dev) (now : Nat) : Dev :=
  { d with hif := { d.hif with inService := true },
           pwr := { d.pwr with stage := .none, hostWaitTill := some (now + d.hostWait), paused := false } }

/-- The blocks start that run from the end of the handshake: ports, antenna, receiver, role (R513). -/
def Dev.unitsStart (d : Dev) (now : Nat) : Dev :=
  let d := (d.kspEnable now 0).kspEnable now 1
  let d := (d.antEnApply now).gnssEnable now
  let d := (d.calRestore).pairStart now false
  (({ d with pose := { d.pose with spare := false } }).tpoStart now).poseStop now

/-- KINDLE from a reset up to the register space in service (R507 to R511), once RESET_N is high; `vbat` and `vpwr` in mV. It
pauses before the handshake while VBAT is low (R498). -/
def Dev.kindle (d : Dev) (now vbat : Nat) (vpwr : List Nat) : Dev :=
  if d.pwr.st != .kindle || d.pwr.stage != .kindle || d.pwr.resetLow.isSome then d
  else
    let low := fun (e : Dev) => decide (vbat < e.vwarn + (if d.pwr.paused then 300 else 0))
    let paused : Dev := { d with pwr := { d.pwr with paused := true } }
    if d.pwr.wake then
      let d := d.wr PWR.NOM_ACT 0
      if low d then paused
      else
        let d := ((d.handshake now vbat vpwr).inService now).unitsStart now
        if d.on WDG.WDG_ARMED then (d.newChallenge).wdgWindow now true else d
    else
      let por := d.pwr.outHold == .off
      let d := (if por then d else ((d.cntTorn now).bucketsSet now REC.TB_BURST.reset REC.TB_PERIOD.reset).sysKeep).recWalk
      let fw := d.fwChoose
      let d := fw.1
      if !fw.2.2 then
        let d := (d.cntLoad).wr PWR.BOOT_REC 1
        let d : Dev := { d with hif := { d.hif with inService := true }, pwr := { d.pwr with stage := .none, outHold := .off, outOff := true } }
        d.diesOff now
      else
        let d := if por then { d with mram := { d.mram with powerCycles := d.mram.powerCycles + 1 } } else d
        let d := (d.imageLoad por).cntLoad
        if low d then paused
        else
          let d := if por then d.latRestore else d
          let d := (d.handshake now vbat vpwr).inService now
          let d := match d.mram.episode with
            | some e => d.closeEpisode now e (e.lastUpd - e.start) true
            | none => d
          let d := if por then d else ((d.selectStore now).tilesCheck now).fieldAfterReset now
          let d := d.unitsStart now
          if fw.2.1 then d.fire now EVT.PWR_FW_ROLLBACK 0 0 else d

/-! ### Relight (R515 to R517) -/

/-- The rate at a Relight (R569): after a degraded rate the one held in TICK_RATE from the next edge, unless it does not carry the
bound points. -/
def Dev.relightRate (d : Dev) (now : Nat) : Dev :=
  if d.on SYS.DEGRADED then
    let c := d.rd SYS.TICK_RATE
    if d.rd SYS.PTS_BOUND ≤ ptsGuaranteed c then
      ({ d with sys := { d.sys with rateChg := [(d.sys.nextN, periodOf c)] } })
    else (d.wr SYS.RATE_REFUSED 1).fire now EVT.SYS_RATE_REFUSED 0 0
  else d

/-- Adoption of the power dies (R328, R360, R567): a channel held goes on up to the window that the first commit governs; a point
whose channel stands in its snuff state opens that window off. -/
def Dev.adopt (d : Dev) (_now : Nat) : Dev :=
  let b := d.nextEdge + 2 * d.sys.period
  let d := d.each (List.range 32) (fun d c =>
    let x := d.idcCh c
    match x.holdEnd with
    | some e => if x.snuff.isNone && x.comOn then d.chStay c e b else d
    | none => d)
  let off := d.validPts.filter (fun n =>
    (d.rd (PD.BIND_KIND n) == 1 && (d.idcCh (d.rd (PD.LOCAL_CH n))).snuff.isSome) || (d.rd (PD.BIND_KIND n) == 2 && (d.lswCh (d.rd (PD.LOCAL_CH n))).snuff.isSome))
  { d with dec := { d.dec with relightOff := off } }

/-- Relight after a logic-die reset (R515, Table 15.8), once RESET_N is high; `checks` whether the checks of Table 15.8 pass,
`readback` whether the power dies agree with the logic die's record. -/
def Dev.relight (d : Dev) (now : Nat) (checks readback : Bool) : Dev :=
  if d.pwr.stage != .relight || d.pwr.resetLow.isSome then d
  else if !checks || !readback || decide (d.pwr.relightFrom + ms 50 < now) then (d.bump PWR.RELIGHT_FAIL).systemReset now 3 false
  else
    let alone := d.pair.en && d.pair.st == .alone && !d.pair.heard
    let d := { d with hif := { d.hif with inService := true }, pwr := { d.pwr with stage := .none, relightEnd := some now } }
    let d := (d.gridAdvance now).relightRate now
    let d := (d.tilesCheck now).poseRelight now d.pwr.resetAt
    let d := (d.adopt now).vnpResyncAll
    let d := ((d.calRestore).gridStart now).tpoStart now
    let d := if d.on WDG.WDG_ARMED then (d.newChallenge).wdgWindow now true else d
    let d := if d.pair.en then d.pairStart now alone else d
    ((d.bump PWR.RELIGHT_CNT).fire now EVT.PWR_RELIGHT 0 0).resetRecord now

/-! ### Errors (R30, R32) -/

/-- An uncorrectable SRAM error (R32), by what it hits: firmware data, a cache slot, a journal entry, an entry of the pose history, the
state of the fusion filter. -/
def Dev.eccUe (d : Dev) (now site i : Nat) : Dev :=
  let d := (d.bump SYS.SRAM_UE).fire now EVT.SYS_ECC_UE 0 0
  match site with
  | 0 => d.logicCause now 5
  | 1 =>
    let s := d.slot i
    if s.st = .free then d
    else if d.alive then d.damaged now i
    else d.setSlot i { s with bad := true }
  | 2 => if i < d.tpl.journal.length then (d.setJournal (d.tpl.journal.eraseIdx i)).bump COV.PAINT_LOST else d
  | 3 => { d with pose := { d.pose with hist := d.pose.hist.zipIdx.map (fun x => if x.2 = i then { x.1 with bad := true } else x.1) } }
  | _ => { d with pose := { d.pose with bad := true } }

/-! ### Commands -/

/-- VBAT_START, R500: VBAT, now `mv`, has stood at or above VSTART for `held` cycles. -/
def execVbatStart (el : Nat) (mv : BitVec 16) (held : Nat) (s : State) : Host.Outcome State Fault Refusal :=
  s.run el (fun now d =>
    if d.pwr.st = .off && decide (6000 ≤ mv.toNat) && decide (ms 1 ≤ held) then
      { d with pwr := { d.pwr with st := .kindle, stage := .kindle, outHold := .off, opSince := now } }.wr PWR.VBAT_MV mv.toNat
    else d)

/-- POWER_ON_RESET, R503: VBAT, now `mv`, has lain below VRST for `held` cycles; 20 µs of them reset. -/
def execPowerOnReset (el : Nat) (mv : BitVec 16) (held : Nat) (s : State) : Host.Outcome State Fault Refusal :=
  if mv.toNat < 4200 ∧ us 20 ≤ held then s.runZero el (fun now d => d.powerOff now) else s.run el (fun _ d => d)

/-- KINDLE, R507. -/
def execKindle (el : Nat) (vbat va vb vc vd : BitVec 16) (s : State) : Host.Outcome State Fault Refusal :=
  s.run el (fun now d => d.kindle now vbat.toNat [va.toNat, vb.toNat, vc.toNat, vd.toNat])

/-- RESET_N_FALL, R503: RESET_N has been low for `held` cycles. -/
def execResetNFall (el : Nat) (held : Nat) (s : State) : Host.Outcome State Fault Refusal := s.run el (fun now d => d.resetFall now held)

/-- RESET_N_LONG, R503: RESET_N has been low for 10 ms. -/
def execResetNLong (el : Nat) (s : State) : Host.Outcome State Fault Refusal := s.run el (fun now d => d.resetLong now)

/-- RESET_N_RISE, R503. -/
def execResetNRise (el : Nat) (s : State) : Host.Outcome State Fault Refusal := s.run el (fun now d => d.resetRise now)

/-- SYSTEM_RESET, R503: RST_CMD = 0xD1 written, on the unlocked page. -/
def execSystemReset (el : Nat) (s : State) : Host.Outcome State Fault Refusal :=
  s.run el (fun now d => if d.pwrWrites now then d.rstCmd now 0xD1 else d)

/-- LOGIC_DIE_RESET, R503: RST_CMD = 0xE7 written, on the unlocked page. -/
def execLogicDieReset (el : Nat) (s : State) : Host.Outcome State Fault Refusal :=
  s.run el (fun now d => if d.pwrWrites now then d.rstCmd now 0xE7 else d)

/-- RELIGHT, R515. -/
def execRelight (el : Nat) (checks readback : Bool) (s : State) : Host.Outcome State Fault Refusal :=
  s.run el (fun now d => d.relight now checks readback)

/-- LOCKSTEP_MISMATCH, R30: in core pair A, or B where `pairB`. -/
def execLockstepMismatch (el : Nat) (pairB : Bool) (s : State) : Host.Outcome State Fault Refusal :=
  s.run el (fun now d => if d.pwr.st = .off then d else
    ((d.bump (if pairB then SYS.LS_PAIR_B else SYS.LS_PAIR_A)).fire now EVT.SYS_LOCKSTEP 0 0).logicCause now 4)

/-- ECC_CORRECTED, R32: in SRAM, or in MRAM where `mram`. -/
def execEccCorrected (el : Nat) (mram : Bool) (s : State) : Host.Outcome State Fault Refusal :=
  s.run el (fun _ d => if d.pwr.st = .off then d else d.bump (if mram then SYS.MRAM_CE else SYS.SRAM_CE))

/-- ECC_UNCORRECTABLE, R32: `site` 0 firmware data, 1 cache slot `i`, 2 journal entry `i`, 3 entry `i` of the pose history, 4 the
fusion filter's state. -/
def execEccUncorrectable (el : Nat) (site : Fin 5) (i : BitVec 12) (s : State) : Host.Outcome State Fault Refusal :=
  s.run el (fun now d => if d.pwr.st = .off then d else d.eccUe now site.val i.toNat)

end Sys2Proof.Machine
end

