-- ==== Sys2Proof/Machine/Ember.lean ====
section
/-! DEFINITION. EMBER (R518 to R521), the configuration image (R522) and the firmware update (R523 to R525), with their
commands. -/

namespace Sys2Proof.Machine

/-! ### EMBER (R518 to R521) -/

/-- Whether the ignition input stands at the key-on level (R518, R521). -/
def Dev.keyOn (d : Dev) : Bool := bitOf (d.rd GIN.GIN_STATE) (min 23 (d.rd PWR.IGN_GIN)) != d.on PWR.IGN_POL

/-- The ignition input has stood at key-off for EMBER_DELAY (R518). -/
def Dev.ignitionOff (d : Dev) (now : Nat) : Dev :=
  let since := (tget? d.pwr.ginAt (min 23 (d.rd PWR.IGN_GIN))).getD 0
  if d.alive && d.on PWR.IGN_EN && !d.keyOn && decide (since + sec (d.rd PWR.EMBER_DELAY) ≤ now) then d.emberAsk now else d

/-- EMBER_FLUSH_MAX has run out with the field not CLOSED (R519): it is abandoned. -/
def Dev.emberFlushEnd (d : Dev) (now : Nat) : Dev :=
  match d.pwr.emberWait with
  | some t =>
    if d.rd COV.FIELD_STATE != 0 && decide (t + sec (max 1 (d.rd PWR.EMBER_FLUSH_MAX)) ≤ now) then d.fieldAbandon else d
  | none => d

/-- EMBER is entered (R519) once the commit has turned everything off and COV is CLOSED, from LIT or SNUFFED. -/
def Dev.emberEnter (d : Dev) (now : Nat) : Dev :=
  if d.alive && d.pwr.emberWait.isSome && d.pwr.outOff && d.rd COV.FIELD_STATE == 0 && (d.pwr.st == .lit || d.pwr.st == .snuffed) then
    let d := (d.latStore now).calSave now
    let d := match d.pwr.uv with
      | some e => d.closeEpisode now e (now - e.start) false
      | none => d
    let d := (d.recWriteOut now).gridHalt now
    let d := ((d.poseStop now).gridStop now).emberChans
    let d := { d with mram := { d.mram with opCycles := d.opCycles now }, hif := { d.hif with inService := false } }
    let p := { d.pwr with st := .ember, emberAt := now, emberWait := none, modeSel := false, outHold := .off, dimMaxDue := false }
    let d : Dev := { d with pwr := p }
    let d := (d.diesOff now).pathSync now
    let d := (d.kspEnable now 0).kspEnable now 1
    d.each (List.range 6) (fun d n => d.modCan n (fun c => { c with tx := [], mail := none }))
  else d

/-- Whether a wake is in force (R521): key-on, a fall of HSPI_CS_N, a frame on CAN0 or CAN1, EMBER_TIMER. -/
def Dev.wakes (d : Dev) (now src : Nat) : Bool :=
  match src with
  | 0 => d.keyOn
  | 3 => d.rd PWR.EMBER_TIMER != 0 && decide (d.pwr.emberAt + sec (60 * d.rd PWR.EMBER_TIMER) ≤ now)
  | _ => true

/-- A wake from EMBER (R521): KINDLE at the check of the running bank. -/
def Dev.emberWake (d : Dev) (now src : Nat) : Dev :=
  if d.pwr.st = .ember && d.wakes now src then
    let p := { d.pwr with st := .kindle, stage := .kindle, wake := true, paused := false, opSince := now, snuffClr := false, masterConfirm := false }
    (({ d with pwr := p }.emberReacq now).wr PWR.SNUFF_CAUSE 0).wr PWR.SNUFF_CAUSES 0
  else d

/-! ### The configuration image (R522) -/

/-- CFG_STORE written (R522), unless CFG_LOCK is set: the image holds the values in force. -/
def Dev.cfgStore (d : Dev) : Dev :=
  if d.cntVal 8 != 0 then d
  else
    let fs := d.regs.filter (fun x => imageKey x.1)
    let pos := if d.gnss.almanac then [d.rdS GNSS.SOL_LAT, d.rdS GNSS.SOL_LON, d.rdS GNSS.SOL_H] else []
    let img : CfgImage := { fields := fs, lists := d.rec_.lists, almanac := d.gnss.almanac, pos := pos }
    { d with mram := { d.mram with image := some img.sealed } }.wr PWR.CFG_VALID 1

/-- CFG_ERASE written (R522), unless CFG_LOCK is set. -/
def Dev.cfgErase (d : Dev) : Dev :=
  if d.cntVal 8 != 0 then d else { d with mram := { d.mram with image := none } }.wr PWR.CFG_VALID 0

/-! ### Field firmware update (R523 to R525) -/

/-- FW_PUSH written (R523): refused while a trial runs, or a push is on its way. -/
def Dev.fwPush (d : Dev) (now : Nat) : Dev :=
  if d.mram.fwTrial || d.pwr.fwPush.isSome then d.wr PWR.FW_ERR 4
  else { d with pwr := { d.pwr with fwPush := some (d.rd PWR.FW_OFS, now) } }

/-- The push is in MRAM (R523). -/
def Dev.fwPushDone (d : Dev) : Dev :=
  match d.pwr.fwPush with
  | none => d
  | some (ofs, _) =>
    let b := 1 - d.mram.fwRun
    let k := d.fwBank b
    let bs := memSetBytes k.bytes (1024 * ofs) (memGetBytes d.mem 0x001400 1024)
    ({ d with pwr := { d.pwr with fwPush := none } }).setFwBank b { k with bytes := bs, ver := 0 }

/-- FW_ACTIVATE written (R524): the staged bank is verified in the background. -/
def Dev.fwActivate (d : Dev) (now : Nat) : Dev := { d with pwr := { d.pwr with fwVerify := some (d.pwr.fwVerify.getD now) } }

/-- The verification ends (R524): FW_PENDING, or FW_ERR. -/
def Dev.fwVerifyDone (d : Dev) : Dev :=
  match d.pwr.fwVerify with
  | none => d
  | some _ =>
    let b := 1 - d.mram.fwRun
    let v := d.fwVerifyBank b
    let d := { d with pwr := { d.pwr with fwVerify := none } }
    if v.1 != 0 then d.wr PWR.FW_ERR (if v.1 = 3 then 3 else 1)
    else if v.2 < d.cntVal 5 then d.wr PWR.FW_ERR 2
    else (({ d with mram := { d.mram with fwPending := true } }).setFwBank b { d.fwBank b with ver := v.2 }).wr PWR.FW_ERR 0

/-- The end of FW_TRIAL from the entry into LIT, in cycles (R525). -/
def Dev.trialEnd (d : Dev) : Option Nat := d.pwr.litAt.map (fun t => t + sec (max 10 (d.rd PWR.FW_TRIAL)))

/-- FW_CONFIRM written (R525): in HOST mode, within FW_TRIAL of LIT. -/
def Dev.fwConfirm (d : Dev) (now : Nat) : Dev :=
  match d.trialEnd with
  | some t =>
    if d.mram.fwTrial && !d.mram.fwFailed && d.pwr.mode == .host && decide (now ≤ t) then { d with mram := { d.mram with fwTrial := false } } else d
  | none => d

/-- FW_TRIAL has run out (R525): in HOST mode the trial has failed, in the others the bank is confirmed. -/
def Dev.fwTrialEnd (d : Dev) (now : Nat) : Dev :=
  match d.trialEnd with
  | some t =>
    if d.mram.fwTrial && !d.mram.fwFailed && decide (t ≤ now) then
      (if d.pwr.mode == .host then { d with mram := { d.mram with fwFailed := true } } else { d with mram := { d.mram with fwTrial := false } })
    else d
  | none => d

/-! ### Commands -/

/-- IGNITION_OFF, R518: the ignition input has stood at the key-off level for EMBER_DELAY. -/
def execIgnitionOff (el : Nat) (s : State) : Host.Outcome State Fault Refusal := s.run el (fun now d => d.ignitionOff now)

/-- EMBER_ENTRY, R519: the entry that was asked for is completed. -/
def execEmberEntry (el : Nat) (s : State) : Host.Outcome State Fault Refusal := s.run el (fun now d => d.emberEnter now)

/-- EMBER_FLUSH_MAX_EXPIRY, R519. -/
def execEmberFlushMaxExpiry (el : Nat) (s : State) : Host.Outcome State Fault Refusal := s.run el (fun now d => d.emberFlushEnd now)

/-- EMBER_WAKE, R521: `src` 0 the ignition input, 1 a fall of HSPI_CS_N, 2 a frame on CAN0 or CAN1, 3 EMBER_TIMER. -/
def execEmberWake (el : Nat) (src : Fin 4) (s : State) : Host.Outcome State Fault Refusal := s.run el (fun now d => d.emberWake now src.val)

/-- CFG_STORE, R522: a write of 1 to CFG_STORE, on the unlocked page. -/
def execCfgStore (el : Nat) (s : State) : Host.Outcome State Fault Refusal :=
  s.run el (fun now d => if d.pwrWrites now then d.cfgStore else d)

/-- CFG_ERASE, R522: a write of 1 to CFG_ERASE, on the unlocked page. -/
def execCfgErase (el : Nat) (s : State) : Host.Outcome State Fault Refusal :=
  s.run el (fun now d => if d.pwrWrites now then d.cfgErase else d)

/-- FW_PUSH, R523: a write of 1 to FW_PUSH. -/
def execFwPush (el : Nat) (s : State) : Host.Outcome State Fault Refusal :=
  s.run el (fun now d => if d.hif.inService then d.fwPush now else d)

/-- FW_PUSH_DONE, R523. -/
def execFwPushDone (el : Nat) (s : State) : Host.Outcome State Fault Refusal := s.run el (fun _ d => if d.alive then d.fwPushDone else d)

/-- FW_ACTIVATE, R524: a write of 1 to FW_ACTIVATE, on the unlocked page. -/
def execFwActivate (el : Nat) (s : State) : Host.Outcome State Fault Refusal :=
  s.run el (fun now d => if d.pwrWrites now then d.fwActivate now else d)

/-- FW_VERIFY_DONE, R524. -/
def execFwVerifyDone (el : Nat) (s : State) : Host.Outcome State Fault Refusal := s.run el (fun _ d => if d.alive then d.fwVerifyDone else d)

/-- FW_CONFIRM, R525: a write of 1 to FW_CONFIRM, on the unlocked page. -/
def execFwConfirm (el : Nat) (s : State) : Host.Outcome State Fault Refusal :=
  s.run el (fun now d => if d.pwrWrites now then d.fwConfirm now else d)

/-- FW_TRIAL_EXPIRY, R525. -/
def execFwTrialExpiry (el : Nat) (s : State) : Host.Outcome State Fault Refusal := s.run el (fun now d => if d.alive then d.fwTrialEnd now else d)

end Sys2Proof.Machine
end

