-- ==== Sys2Proof/Machine/Hif.lean ====
section
/-! DEFINITION. The host interface: the page header (R458 to R464), what a host's write to each field does (R18 to R25), host
SPI frames (R466 to R473), REG messages of VC0 (R437), and the event hub's own commands (R478, R479). -/

namespace Sys2Proof.Machine

/-! ### The page header -/

/-- KEY of the page at base `b` written (R462). -/
def Dev.keyWrite (d : Dev) (now b v : Nat) : Dev :=
  let h := d.hif
  if v = 0x5A then { d with hif := { h with keyHalf := tset h.keyHalf b now } }
  else if v = 0xA5 then
    let ok := match tget? h.keyHalf b with | some t => decide (now ≤ t + 16) | none => false
    { d with hif := { h with keyHalf := tdel h.keyHalf b, unlocked := if ok then tset h.unlocked b now else h.unlocked } }
  else { d with hif := { h with keyHalf := tdel h.keyHalf b, unlocked := tdel h.unlocked b } }

/-- The page at base `b` locks again 1,000 ms after it unlocked (R462). -/
def Dev.lockTimeout (d : Dev) (now b : Nat) : Dev :=
  if d.unlocked now b then d else { d with hif := { d.hif with unlocked := tdel d.hif.unlocked b } }

/-- FREEZE of the page at base `b` written (R461). -/
def Dev.freezeSet (d : Dev) (now b : Nat) (on_ : Bool) : Dev :=
  let d := d.wrB (HDR.FREEZE b) on_
  if !on_ then { d with hif := { d.hif with frozen := tdel d.hif.frozen b } }
  else if (tget? d.hif.frozen b).isSome then d
  else { d with hif := { d.hif with frozen := tset d.hif.frozen b (d.freezePage now b) } }

/-- UPD_HOLD of the page at base `b` written (R463): at the clear, the values that no hold covers any more await a commit. -/
def Dev.holdSet (d : Dev) (b : Nat) (on_ : Bool) : Dev :=
  let d := d.wrB (HDR.UPD_HOLD b) on_
  if on_ then d
  else
    let d := { d with cov := { d.cov with cmdUnder := d.cov.cmdUnder && d.holdOn 0x030000 } }
    let d := { d with pwr := { d.pwr with modeUnder := d.pwr.modeUnder && d.holdOn pwrPage, clrUnder := d.pwr.clrUnder && d.holdOn pwrPage } }
    { d with pend := d.pend.map (fun (x : Nat × PendVal) =>
    if d.holdOn (shadowPage (x.1 / 32)) then x else (x.1, { x.2 with under := false })) }

/-- Whether the pending value with key `k` is dropped by a DISCARD: it belongs to an RWS field, or an RWL field that takes
effect at TICK (R20, R464). -/
def discards (k : Nat) : Bool := ((fieldOfKey k).map (fun f => f.acc == .rws || f.acc == .rwl)).getD false

/-- DISCARD of the page at base `b` written (R464). -/
def Dev.discardPage (d : Dev) (now b : Nat) : Dev :=
  let d := { d with pend := d.pend.filter (fun x => !(shadowPage (x.1 / 32) == b && discards x.1)) }
  if b = pwrPage then { d with pwr := { d.pwr with snuffClr := false, clrAt := now, modeReq := 0, modeAt := now } } else d

/-! ### Pending flags (R479) -/

/-- The header registers in which event `e` can appear: page and bit (R474). -/
def evtSpots (e : Nat) : List (Nat × Nat) :=
  let insts := match e with
    | 139 | 140 | 141 => (List.range 4).map (64 * ·)
    | _ => if 112 ≤ e && e ≤ 115 then (List.range 8).map (4 * ·) else if 120 ≤ e && e ≤ 124 then [0, 8] else List.range 8
  (insts.map (evtPage e)).dedup

/-- Clears the PEND bits of `mask` and the matching RAW bits on the page at base `b` (R479). -/
def Dev.clearFlags (d : Dev) (b mask : Nat) : Dev :=
  let keep := fun (v : Nat) => v - (v &&& mask)
  (d.wr (HDR.PG_EVT_PEND b) (keep (d.rd (HDR.PG_EVT_PEND b)))).wr (HDR.PG_EVT_RAW b)
    (keep (d.rd (HDR.PG_EVT_RAW b)))

/-- A write of `w` to word `i` of EVT_PEND_ALL (R479): the bits are cleared on their pages. -/
def Dev.clearAll (d : Dev) (i w : Nat) : Dev :=
  d.each ((List.range 32).filter (fun k => bitOf w k)) (fun d k =>
    if evtPrioTable.any (fun x => x.1 == 32 * i + k) then
      d.each (evtSpots (32 * i + k)) (fun d (s : Nat × Nat) => d.clearFlags s.1 (2 ^ s.2))
    else d)

/-- Whether any PEND bit is set on any page (Table 14.7). -/
def Dev.anyPend (d : Dev) : Bool := pageBases.any (fun b => d.rd (HDR.PG_EVT_PEND b) != 0)

/-- The rate-limit interval of event `e` has ended (R478): one delivery of the newest firing held back. -/
def Dev.rateLimitEnd (d : Dev) (now e : Nat) : Dev :=
  let l : RateLim := tget d.evh.limits e
  if (tget? d.evh.limits e).isSome && decide (l.until_ ≤ now) then
    match l.heldBack with
    | some g => Dev.deliverN 8 d now l.until_ g
    | none => { d with evh := { d.evh with limits := tdel d.evh.limits e } }
  else d

/-! ### What a write to a field does (R19) -/

/-- Whether a standby ignores host writes to the RWS fields at address `a` (R447). -/
def Dev.standbyIgnores (d : Dev) (a : Nat) : Bool :=
  let b := a / 0x1000 * 0x1000
  d.pair.st == .standby && !(isPage b && (a % 0x1000 < 0x040 || b == 0x070000 || b == 0x071000 || b == 0x072000 || b == 0x080000))

/-- An RWS value, or a value of an RWL field that takes effect at TICK (R19, R20, R49). -/
def Dev.shadowWrite (d : Dev) (now : Nat) (f : Field) (v : Nat) : Dev :=
  { d with pend := tset d.pend f.key { val := v, at_ := now, under := d.holdOn (shadowPage f.addr), dead := false } }

/-- The write of an RW field (R19), with what it acts on besides the register. -/
def Dev.rwField (d : Dev) (now : Nat) (f : Field) (v : Nat) : Dev :=
  let b := f.addr / 0x1000 * 0x1000
  let n := b / 0x1000 % 8
  if f = HDR.FREEZE b then d.freezeSet now b (v == 1)
  else if f = HDR.UPD_HOLD b then d.holdSet b (v == 1)
  else if f = SYS.BULK_SHARE then d.wr f (held 2 8 v)
  else if f.addr % 0x1000 < 0x040 && isPage b then d.wr f v
  else if f.eff = .period then d.pwmWrite now f v
  else if f = PWM.OUT_EN then d.outEnWrite now v
  else if f = PWM.UPD_HOLD then d.pwmUpdHold now (v == 1)
  else if b == 0x004000 && 0x100 ≤ f.addr % 0x1000 && f.addr % 0x1000 < 0x180 && f.lo == 16 then d.snapNWrite ((f.addr % 0x1000 - 0x100) / 4) v
  else if f = REC.SL_ADDR then (d.wr f v).snapListWrite (d.rd REC.SL_SET) (d.rd REC.SL_IDX) v
  else if f = REC.RD_OFS then (d.recFlush now).rdOfs v
  else if f = REC.TB_BURST then d.bucketsSet now v (d.rd REC.TB_PERIOD)
  else if f = REC.TB_PERIOD then d.bucketsSet now (d.rd REC.TB_BURST) v
  else if 0x078000 ≤ b && b < 0x080000 then
    (if f = CRC.STATE_LO n then d.crcStateLo n v else if f = CRC.STATE_HI n then d.crcStateHi n v else d.crcConfig n f v)
  else d.wr f v

/-- What follows the write of the RW fields of word `a`; `o` is the block before it. -/
def Dev.rwAfter (d o : Dev) (now a : Nat) : Dev :=
  let b := a / 0x1000 * 0x1000
  let n := b / 0x1000 % 8
  if a = 0x010080 then d.ptIdxWrite (d.rd GEOP.PT_IDX)
  else if a = 0x031070 then d.slotIdxWrite (d.rd TPL.SLOT_IDX)
  else if a = 0x032700 then d.ptdIdxWrite (d.rd DEC.PTD_IDX)
  else if a = 0x033300 then d.ptrIdxWrite (d.rd RATE.PTR_IDX)
  else if a = 0x034104 then d.historyQuery (d.rd POSE.HQ_DT_HI)
  else if a = 0x035040 then d.gnssEnable now
  else if a = 0x035044 then (if d.rd GNSS.ANT_EN = o.rd GNSS.ANT_EN then d else d.antEnApply now)
  else if a = 0x036040 then (if d.on TIME.TPO_EN && !o.on TIME.TPO_EN then d.tpoStart now else d)
  else if a = 0x0350C0 then d.rawSnap (d.rd GNSS.RAW_IDX)
  else if a = 0x038200 then d.pairSnap (d.rd GRID.PAIR_A) (d.rd GRID.PAIR_B)
  else if a = 0x003040 then d.safeAutoCheck now
  else if 0x04B040 ≤ a && a < 0x04B050 then (d.pwmSyncAll now).tripCfg now ((a - 0x04B040) / 4)
  else if a = 0x004180 then d.snapShow
  else if a = 0x0050C0 then d.histShow (d.rd CNT.HIST_N)
  else if 0x040000 ≤ b && b < 0x048000 && a % 0x1000 == 0x058 then d.profErrShow
  else if 0x040000 ≤ b && b < 0x048000 && a % 0x1000 == 0x080 then d.recChWrite n (d.rd (IDG.REC_CH n))
  else if 0x062000 ≤ b && b < 0x066000 && a % 0x1000 == 0x0C0 then d.nodeIdxWrite (n - 2) (d.rd (VNP.NODE_IDX n))
  else if 0x070000 ≤ b && b < 0x072000 && a % 0x1000 == 0x040 then
    (if d.rd (KSP.KSP_EN n) = o.rd (KSP.KSP_EN n) then d else d.kspEnable now n)
  else d

/-- Whether a write of word `a` snapshots read-only fields, which SOFT_RST does not touch (R460). -/
def snapWord (a : Nat) : Bool :=
  [0x010080, 0x031070, 0x032700, 0x033300, 0x034104, 0x004184, 0x0350C0, 0x038200, 0x0050C0].contains a ||
  (0x040000 ≤ a && a < 0x048000 && a % 0x1000 == 0x080) || (0x062000 ≤ a && a < 0x066000 && a % 0x1000 == 0x0C0)

/-- SOFT_RST on one word (R460): its RWS fields get their reset values as pending ones, its RW fields take theirs at once; a
snapshot index takes its value without a new snapshot. The RWS fields of a standby move by the mirror alone (R447). -/
def Dev.softRstWord (d : Dev) (now a : Nat) : Dev :=
  let b := a / 0x1000 * 0x1000
  let fs := fieldsAt a
  let o := d
  let d := d.each (fs.filter (fun f => f.acc == .rws && !(f = HDR.PG_EN b && !pageHasEn b) && !d.standbyIgnores a)) (fun d f => d.shadowWrite now f f.reset)
  let rws := fs.filter (fun f => f.acc == .rw)
  let plain := snapWord a || (0x078000 ≤ b && b < 0x080000 && a % 0x1000 == 0x068)
  if rws.isEmpty then d
  else if plain then d.each rws (fun d f => d.wr f f.reset)
  else (d.each rws (fun d f => d.rwField now f f.reset)).rwAfter o now a

/-- SOFT_RST (R460): every word of the page in rising order. -/
def Dev.softRst (d : Dev) (now b : Nat) : Dev := (List.range 1024).foldl (fun d k => d.softRstWord now (b + 4 * k)) d

/-- The word of the PWR page that holds its command fields (R23, Table 15.9), on the unlocked page. Of the fields that take
effect at TICK the value written last stands (R20). -/
def Dev.pwrCommands (d : Dev) (now w : Nat) : Dev :=
  let d := d.rstCmd now (bitsOf w 0 8)
  let act := fun (d : Dev) (c : Bool) (f : Dev → Dev) => if c && d.hif.inService then f d else d
  let d := act d (bitOf w 8) (fun d => d.enterSnuffed now 3)
  let d := act d true (fun d => if bitOf w 9 then d.snuffClr now else { d with pwr := { d.pwr with snuffClr := false, clrAt := now } })
  let d := act d (bitOf w 10) (fun d => d.emberAsk now)
  let d := act d true (fun d => d.modeAsk now (bitsOf w 11 2))
  let d := act d (bitOf w 13) Dev.cfgStore
  let d := act d (bitOf w 14) Dev.cfgErase
  let d := act d (bitOf w 15) (fun d => d.fwActivate now)
  act d (bitOf w 16) (fun d => d.fwConfirm now)

/-- The write of the RWL fields `fs` of word `a`, accepted (R19, R20). -/
def Dev.rwlWord (d : Dev) (now a w : Nat) (fs : List Field) : Dev :=
  if a = 0x001054 then d.pwrCommands now w
  else if 0x003100 ≤ a && a < 0x003100 + 4 * 60 then d.snuffWrite now ((a - 0x003100) / 4) w
  else
    let d := d.each fs (fun d f =>
      let v := bitsOf w f.lo f.width
      if f.eff = .tick then d.shadowWrite now f v
      else if f = WDG.WDG_EN then d.wdgEnWrite now (v == 1)
      else d.wr f v)
    if a = 0x003040 then d.safeAutoCheck now else d

/-- The write of the counted fields of word `a` (R21, R537): whether one was ignored as locked, and the block. -/
def Dev.rwcWord (d : Dev) (now path a w : Nat) : Bool × Dev :=
  if a = 0x072040 then d.cntWrite now path 3 (w % 8)
  else if a = 0x004048 then d.cntWrite now path 12 (bitsOf w 1 1)
  else
    (List.range 12).foldl (fun (r : Bool × Dev) i =>
      match cntField i with
      | some f => if f.addr = a then (let q := r.2.cntWrite now path i (bitsOf w f.lo f.width); (r.1 || q.1, q.2)) else r
      | none => r) (false, d)

/-- The write of the W1C field `f` (R19): a one clears. -/
def Dev.w1cField (d : Dev) (f : Field) (v : Nat) : Dev :=
  let b := f.addr / 0x1000 * 0x1000
  if f = HDR.PG_EVT_PEND b then d.clearFlags b v
  else if b == 0x002000 && 0x080 ≤ f.addr % 0x1000 && f.addr % 0x1000 < 0x0A0 then d.clearAll ((f.addr % 0x1000 - 0x080) / 4) v
  else if f = TST.FINISHED then d.tstFree v
  else d.wr f (d.rd f - (d.rd f &&& v))

/-- CLR_MAX written (R60). -/
def Dev.clrMax (d : Dev) : Dev := d.each (List.range 5) (fun d n => d.wr (SYS.PH_MAX n) 0)

/-- The actions of the WO fields of word `a` on pages of one block. -/
def Dev.woWord (d : Dev) (now a w : Nat) : Dev :=
  let bit := fun (k : Nat) (f : Dev → Dev) (d : Dev) => if bitOf w k then f d else d
  if a = 0x000084 then bit 0 Dev.clrMax d
  else if a = 0x001058 then bit 16 (fun d => d.fwPush now) d
  else if a = 0x003050 then d.wdgResponse now (w % 2 ^ 16)
  else if a = 0x003058 then bit 1 Dev.snuffStore (bit 0 (fun d => d.safeClr now) d)
  else if a = 0x004048 then bit 2 (fun d => d.recTrig now) (bit 0 (fun d => (d.recFlush now).rdStream) d)
  else if a = 0x006044 then bit 0 (fun d => d.tGo now) d
  else if a = 0x030048 then d.fieldAsk now (w % 4)
  else if a = 0x030084 then d.covPeek (toS 32 w)
  else if a = 0x031064 then (if bitsOf w 4 2 = 0 then d else d.pinCmd now (bitsOf w 4 2))
  else if a = 0x034044 then bit 1 (fun d => d.imuPrimary now) (bit 0 (fun d => { d with pose := { d.pose with resetReq := true } }) d)
  else if a = 0x035080 then d.rtcmPush (w % 2 ^ 13)
  else if a = 0x036058 then bit 0 Dev.mapSnap d
  else if a = 0x03805C then bit 2 Dev.clearLayer (bit 1 (fun d => d.netLoad now) (bit 0 (fun d => d.enterAudit now 2) d))
  else if a = 0x038224 then d.gridPeek w
  else if a = 0x039048 then d.calReset now (bitsOf w 16 16)
  else if a = 0x04B054 then d.tripClr now (w % 16)
  else if a = 0x072044 then bit 1 (fun d => d.roleSwap now) d
  else d

/-- The actions of the WO fields of word `a` on pages that a block has several of. -/
def Dev.woUnit (d : Dev) (now a w : Nat) : Dev :=
  let b := a / 0x1000 * 0x1000
  let n := b / 0x1000 % 8
  let o := a % 0x1000
  let bit := fun (k : Nat) (f : Dev → Dev) (d : Dev) => if bitOf w k then f d else d
  if b == 0x038000 && 0x100 ≤ o && o < 0x200 && o % 0x10 == 0 then bit 2 (fun d => d.srcRetry ((o - 0x100) / 0x10)) d
  else if 0x040000 ≤ b && b < 0x048000 then
    (if o == 0x054 then bit 0 (fun d => d.grpFltClr now n) d
     else if 0x100 ≤ o && o < 0x200 && o % 0x40 == 4 then bit 0 (fun d => d.idcFltClr now (4 * n + (o - 0x100) / 0x40)) d
     else d)
  else if b == 0x048000 || b == 0x049000 then
    (if 0x100 ≤ o && o < 0x300 && o % 0x40 == 0x14 then bit 0 (fun d => d.lswFltClr now (8 * n + (o - 0x100) / 0x40)) d else d)
  else if 0x050000 ≤ b && b < 0x058000 then (if o == 0x060 then bit 1 (fun d => d.fbkClr n) (bit 0 (fun d => d.posLoad n) d) else d)
  else if 0x060000 ≤ b && b < 0x066000 then
    (if o == 0x054 then bit 1 (fun d => d.busOn now n) (bit 0 (fun d => d.abdStart now n) d)
     else if o == 0x068 then d.rxAck n (w % 64)
     else if o == 0x078 then bit 8 (fun d => d.txGo n) d
     else if o == 0x0A8 && decide (n < 2) then bit 0 (fun d => d.tpRxAck n) d
     else if o == 0x0B8 && decide (n < 2) then bit 0 (fun d => d.tpTxGo n) d
     else if o == 0x0A0 && decide (2 ≤ n) then bit 22 (fun d => d.pollGo (n - 2)) (bit 5 (fun d => d.newNext (n - 2)) d)
     else d)
  else if b == 0x070000 || b == 0x071000 then (if o == 0x054 then bit 0 (fun d => d.kspRetrain now n) d else d)
  else if 0x078000 ≤ b && b < 0x080000 then
    (if o == 0x05C then bit 0 (fun d => d.crcStart n) d
     else if o == 0x060 then d.crcDataIn n w
     else if o == 0x07C then bit 1 (fun d => d.crcAbort now n) (bit 0 (fun d => d.crcDmaGo now n) d)
     else d)
  else d

/-- The actions of the WO fields of the page header (Table 14.3). -/
def Dev.woHeader (d : Dev) (now a w : Nat) : Dev :=
  let b := a / 0x1000 * 0x1000
  if a % 0x1000 = 0x008 then (if bitOf w 1 then d.softRst now b else d)
  else if a % 0x1000 = 0x01C then d.keyWrite now b (w % 256)
  else if a % 0x1000 = 0x020 then (if bitOf w 1 then d.discardPage now b else d)
  else d

/-! ### Words of the register space -/

/-- Whether a host may write the bytes at address `a`: the windows that take bytes and have no fields. -/
def isWriteWindow (a : Nat) : Bool :=
  (0x001400 ≤ a && a < 0x001800) || (0x035400 ≤ a && a < 0x035800) || (0x480000 ≤ a && a < 0x490000) ||
  (0x4A0000 ≤ a && a < 0x4B0000) || (0x600000 ≤ a && a < 0x700000)

/-- Whether address `a` is served: in recovery only the SYS, PWR and HIF pages and the page headers (R508). -/
def Dev.serves (d : Dev) (a : Nat) : Bool :=
  let b := a / 0x1000 * 0x1000
  !d.on PWR.BOOT_REC || b == 0x000000 || b == 0x001000 || b == 0x080000 || (isPage b && a % 0x1000 < 0x040)

/-- The write of the word `w` at address `a` over a path (0 HSPI, 1 KSP0, 2 KSP1): whether a field ignored it as locked, and
the block (R19, R454, R462, R538). -/
def Dev.wordWrite (d : Dev) (now path a w : Nat) : Bool × Dev :=
  if !d.hif.inService || !d.serves a then (false, d)
  else if isWriteWindow a then (false, { d with mem := memSetBytes d.mem a (bytesLE 4 w) })
  else
    let b := a / 0x1000 * 0x1000
    let fs := (fieldsAt a).filter (fun f => !(f = HDR.PG_EN b && !pageHasEn b))
    let of_ := fun (k : Access) => fs.filter (fun f => f.acc == k)
    let take := d.unlocked now b && !(path != 0 && d.cntVal 4 == 2)
    let locked := !(of_ .rwl).isEmpty && !take
    let d := if locked then (d.bump HIF.LOCK_REFUSED).wr HIF.ERR_ADDR a else d
    let o := d
    let d := d.each (of_ .rw) (fun d f => d.rwField now f (bitsOf w f.lo f.width))
    let d := if (of_ .rw).isEmpty then d else d.rwAfter o now a
    let d := if (of_ .rws).isEmpty then d
      else if d.standbyIgnores a then d.bump PAIR.CFG_IGNORED
      else d.each (of_ .rws) (fun d f => d.shadowWrite now f (bitsOf w f.lo f.width))
    let d := if (of_ .rwl).isEmpty || locked then d else d.rwlWord now a w (of_ .rwl)
    let r := if (of_ .rwc).isEmpty then (false, d) else d.rwcWord now path a w
    let d := r.2.each (of_ .w1c) (fun d f => d.w1cField f (bitsOf w f.lo f.width))
    let d := if (of_ .wo).isEmpty then d
      else if isPage b && a % 0x1000 < 0x040 then d.woHeader now a w
      else (d.woWord now a w).woUnit now a w
    (locked || r.1, d)

/-- The read of the word at address `a` (R36, R454, R508). -/
def Dev.wordRead (d : Dev) (now a : Nat) : Nat × Dev :=
  if d.serves a then (if a / 0x1000 = 4 then d.recFlush now else d).hostRead now a else (0, d)

/-- The addresses of `n` words from `a` on, or `n` times `a` (R437, R468). -/
def wordAddrs (a n : Nat) (inc : Bool) : List Nat := (List.range n).map (fun k => if inc then a + 4 * k else a)

/-- How an access of `n` words from `a` on fails (R454): 1 ALIGN, 2 RANGE, with the address refused. -/
def addrFault (as_ : List Nat) : Option (Nat × Nat) :=
  (as_.find? (fun a => a % 4 != 0 || 0x800000 ≤ a)).map (fun a => (if a % 4 != 0 then 1 else 2, a))

/-- An access refused by its address (R454, Table 14.9). -/
def Dev.addrRefuse (d : Dev) (now a : Nat) : Dev := ((d.bump HIF.ADDR_ERRS).wr HIF.ERR_ADDR a).fire now EVT.HIF_ADDR_ERR 0 0

/-- Words written in order: whether one was ignored as locked, and the block. -/
def Dev.writeWords (d : Dev) (now path : Nat) (l : List (Nat × Nat)) : Bool × Dev :=
  l.foldl (fun (r : Bool × Dev) x => let q := r.2.wordWrite now path x.1 x.2; (r.1 || q.1, q.2)) (false, d)

/-- Words read in order. -/
def Dev.readWords (d : Dev) (now : Nat) (l : List Nat) : List Nat × Dev :=
  l.foldl (fun (r : List Nat × Dev) a => let q := r.2.wordRead now a; (r.1 ++ [q.1], q.2)) ([], d)

/-! ### Host SPI (R466 to R473) -/

/-- The bytes that a frame's CRC covers (R468, R469): CMD, ADDR, LEN and the data, most significant byte first. -/
def frameBytes (cmd : Nat) (quad : Bool) (addr len : Nat) (ws : List Nat) : List Nat :=
  [cmd + 128 * b2n quad] ++ (bytesLE 3 addr).reverse ++ [len % 256] ++ ws.flatMap (fun w => (bytesLE 4 w).reverse)

/-- The device's answer (R469, R471): STATUS with MARK and EVT_PEND, DATA, and for a read its CRC. -/
def Dev.answer (d : Dev) (status : Nat) (ws : List Nat) : Dev :=
  let st := status + 0x20 * b2n d.anyPend + 0x40
  { d with hif := { d.hif with rspStatus := st, rspData := ws,
                                rspCrc := crc16 (st :: ws.flatMap (fun w => (bytesLE 4 w).reverse)) } }

/-- What every frame meets first (R467, R470, R472, R521): a device in EMBER wakes at the fall of HSPI_CS_N; NOT_READY,
CMD_ERR or CRC_ERR end the frame with `n` zero words read. -/
def Dev.spiFrame (d : Dev) (now n : Nat) (quad crcOk : Bool) (body : Dev → Dev) : Dev :=
  if d.pwr.st = .off then d
  else
    let d := d.emberWake now 1
    let zeros := List.replicate n 0
    if !d.hif.inService then d.answer 0x10 zeros
    else if quad && !d.on HIF.QUAD_EN then d.answer 0x08 []
    else if !crcOk then ((d.bump HIF.HSPI_CRC_ERR).fire now EVT.HIF_CRC_ERR 0 0).answer 0x01 zeros
    else body ((d.hostSeen now).wr HIF.LAST_SRC 0)

/-- A write frame (R468, R470): WR, or WR_NOINC where `inc` is false; `crc` is the host's. -/
def Dev.spiWrite (d : Dev) (now : Nat) (inc quad : Bool) (addr : Nat) (ws : List Nat) (crc : Nat) : Dev :=
  let ok := crc16 (frameBytes (if inc then 1 else 3) quad addr (ws.length - 1) ws) == crc
  d.spiFrame now 0 quad ok (fun d =>
    let as_ := wordAddrs addr ws.length inc
    match addrFault as_ with
    | some x => (d.addrRefuse now x.2).answer 0x02 []
    | none =>
      let r := d.writeWords now 0 (as_.zip ws)
      (r.2.bump HIF.HSPI_FRAMES).answer (0x04 * b2n r.1) [])

/-- A read frame of `n` words (R468, R470): RD, or RD_NOINC where `inc` is false. -/
def Dev.spiRead (d : Dev) (now : Nat) (inc quad : Bool) (addr n crc : Nat) : Dev :=
  let ok := crc16 (frameBytes (if inc then 2 else 4) quad addr (n - 1) []) == crc
  d.spiFrame now n quad ok (fun d =>
    let as_ := wordAddrs addr n inc
    match addrFault as_ with
    | some x => (d.addrRefuse now x.2).answer 0x02 (List.replicate n 0)
    | none =>
      let r := d.readWords now as_
      (r.2.bump HIF.HSPI_FRAMES).answer 0 r.1)

/-- A frame whose command byte is not of Table 14.5, or asks for QUAD with QUAD_EN clear (R467). -/
def Dev.spiCmdErr (d : Dev) (now cmd : Nat) : Dev :=
  if d.pwr.st = .off then d
  else
    let d := d.emberWake now 1
    if !d.hif.inService then d.answer 0x10 []
    else if cmd % 128 = 0 || 4 < cmd % 128 || (128 ≤ cmd && !d.on HIF.QUAD_EN) then d.answer 0x08 []
    else d

/-- A frame cut short by a rise of HSPI_CS_N (R472). -/
def Dev.spiAbort (d : Dev) (now : Nat) : Dev :=
  if d.pwr.st = .off then d else (d.emberWake now 1).bump HIF.HSPI_ABORT

/-! ### REG messages of VC0 (R437) -/

/-- Whether a port takes REG messages (R430): it is UP and runs in HOST mode. -/
def Dev.regPort (d : Dev) (n : Nat) : Bool := d.kspUp n && !(d.port n).partner

/-- The bytes of REG_RSP (Table 13.7). -/
def regRsp (tag n : Nat) (noinc : Bool) (status addr : Nat) (ws : List Nat) : List Nat :=
  wordsToBytes ([0x43 + 2 ^ 8 * tag + 2 ^ 16 * (n - 1) + 2 ^ 22 * b2n noinc + 2 ^ 24 * status, addr] ++ ws)

/-- What every REG message on port `n` meets first (R472, R473): NOT_READY, ALIGN or RANGE answer it. -/
def Dev.regMsg (d : Dev) (now port tag n : Nat) (noinc : Bool) (addr : Nat) (body : List Nat → Dev → Nat × List Nat × Dev) : Dev :=
  if !d.hif.inService then d.kspSend port 0 (regRsp tag n noinc 4 addr [])
  else
    let d := if port = 0 then d.hostSeen now else d
    let d := d.wr HIF.LAST_SRC (1 + port)
    let as_ := wordAddrs addr n (!noinc)
    match addrFault as_ with
    | some x => (d.addrRefuse now x.2).kspSend port 0 (regRsp tag n noinc x.1 addr [])
    | none =>
      let r := body as_ d
      r.2.2.kspSend port 0 (regRsp tag n noinc r.1 addr r.2.1)

/-- A REG_WR message (R437). -/
def Dev.regWr (d : Dev) (now port tag : Nat) (noinc : Bool) (addr : Nat) (ws : List Nat) : Dev :=
  d.regMsg now port tag ws.length noinc addr (fun as_ d =>
    let r := d.writeWords now (1 + port) (as_.zip ws)
    (if r.1 then 3 else 0, [], r.2))

/-- A REG_RD message (R437). -/
def Dev.regRd (d : Dev) (now port tag n : Nat) (noinc : Bool) (addr : Nat) : Dev :=
  d.regMsg now port tag n noinc addr (fun as_ d =>
    let r := d.readWords now as_
    (0, r.1, r.2))

/-- A REG message as bytes (Table 13.7); one that is not whole is dropped. -/
def Dev.regBytes (d : Dev) (now port : Nat) (bs : List Nat) : Dev :=
  let w0 := ofBytesLE (bs.take 4)
  let n := bitsOf w0 16 6 + 1
  let addr := ofBytesLE ((bs.drop 4).take 3)
  if bs.length < 8 then d
  else if w0 % 256 = 0x41 then
    (if bs.length < 8 + 4 * n then d
     else d.regWr now port (bitsOf w0 8 8) (bitOf w0 22) addr ((List.range n).map (fun k => ofBytesLE ((bs.drop (8 + 4 * k)).take 4))))
  else d.regRd now port (bitsOf w0 8 8) n (bitOf w0 22) addr

/-! ### Commands -/

/-- A command that a host's write to a register brings, while the register space is in service. -/
def State.host (s : State) (el : Nat) (f : Nat → Dev → Dev) : Host.Outcome State Fault Refusal :=
  s.run el (fun now d => if d.hif.inService then f now d else d)

/-- The words of an operand. -/
def natWords (l : List Word) : List Nat := l.map BitVec.toNat

/-- LO_HI_LATCH_READ, R36: a host reads the word at `a`. -/
def execLoHiLatchRead (el : Nat) (a : BitVec 24) (s : State) : Host.Outcome State Fault Refusal :=
  s.host el (fun now d => (d.wordRead now a.toNat).2)

/-- CLR_MAX, R60. -/
def execClrMax (el : Nat) (s : State) : Host.Outcome State Fault Refusal := s.host el (fun _ d => d.clrMax)

/-- REGISTER_WRITE, R19: a host writes the word `w` at `a`, over HSPI (0), KSP0 (1) or KSP1 (2). -/
def execRegisterWrite (el : Nat) (path : Fin 3) (a : BitVec 24) (w : Word) (s : State) : Host.Outcome State Fault Refusal :=
  s.host el (fun now d =>
    match addrFault [a.toNat] with
    | some x => d.addrRefuse now x.2
    | none => (d.wordWrite now path.val a.toNat w.toNat).2)

/-- WR, R470. -/
def execWr (el : Nat) (quad : Bool) (addr : BitVec 24) (ws : List Word) (crc : BitVec 16) (s : State) : Host.Outcome State Fault Refusal :=
  s.run el (fun now d => d.spiWrite now true quad addr.toNat (natWords ws) crc.toNat)

/-- WR_NOINC, R470. -/
def execWrNoinc (el : Nat) (quad : Bool) (addr : BitVec 24) (ws : List Word) (crc : BitVec 16) (s : State) : Host.Outcome State Fault Refusal :=
  s.run el (fun now d => d.spiWrite now false quad addr.toNat (natWords ws) crc.toNat)

/-- RD, R470. -/
def execRd (el : Nat) (quad : Bool) (addr : BitVec 24) (len : BitVec 8) (crc : BitVec 16) (s : State) : Host.Outcome State Fault Refusal :=
  s.run el (fun now d => d.spiRead now true quad addr.toNat (len.toNat + 1) crc.toNat)

/-- RD_NOINC, R470. -/
def execRdNoinc (el : Nat) (quad : Bool) (addr : BitVec 24) (len : BitVec 8) (crc : BitVec 16) (s : State) : Host.Outcome State Fault Refusal :=
  s.run el (fun now d => d.spiRead now false quad addr.toNat (len.toNat + 1) crc.toNat)

/-- CMD_ERR_FRAME, R467. -/
def execCmdErrFrame (el : Nat) (cmd : BitVec 8) (s : State) : Host.Outcome State Fault Refusal :=
  s.run el (fun now d => d.spiCmdErr now cmd.toNat)

/-- HSPI_ABORT, R472. -/
def execHspiAbort (el : Nat) (s : State) : Host.Outcome State Fault Refusal := s.run el (fun now d => d.spiAbort now)

/-- REG_WR, R437: a REG_WR message on a port. -/
def execRegWr (el : Nat) (port : Fin 2) (tag : BitVec 8) (noinc : Bool) (addr : BitVec 24) (ws : List Word) (s : State) :
    Host.Outcome State Fault Refusal :=
  s.run el (fun now d => if d.regPort port.val then d.regWr now port.val tag.toNat noinc addr.toNat (natWords ws) else d)

/-- REG_RD, R437: a REG_RD message on a port. -/
def execRegRd (el : Nat) (port : Fin 2) (tag : BitVec 8) (noinc : Bool) (addr : BitVec 24) (n1 : BitVec 6) (s : State) :
    Host.Outcome State Fault Refusal :=
  s.run el (fun now d => if d.regPort port.val then d.regRd now port.val tag.toNat (n1.toNat + 1) noinc addr.toNat else d)

/-- The base of the page that holds address `a`. -/
def pageOf (a : BitVec 24) : Nat := a.toNat / 0x1000 * 0x1000

/-- KEY, R462: a write of KEY on the page that holds `a`. -/
def execKey (el : Nat) (a : BitVec 24) (v : BitVec 8) (s : State) : Host.Outcome State Fault Refusal :=
  s.host el (fun now d => if isPage (pageOf a) then d.keyWrite now (pageOf a) v.toNat else d)

/-- LOCK_TIMEOUT, R462. -/
def execLockTimeout (el : Nat) (a : BitVec 24) (s : State) : Host.Outcome State Fault Refusal :=
  s.run el (fun now d => d.lockTimeout now (pageOf a))

/-- SOFT_RST, R460. -/
def execSoftRst (el : Nat) (a : BitVec 24) (s : State) : Host.Outcome State Fault Refusal :=
  s.host el (fun now d => if isPage (pageOf a) then d.softRst now (pageOf a) else d)

/-- FREEZE, R461: FREEZE is set or cleared. -/
def execFreeze (el : Nat) (a : BitVec 24) (on_ : Bool) (s : State) : Host.Outcome State Fault Refusal :=
  s.host el (fun now d => if isPage (pageOf a) then d.freezeSet now (pageOf a) on_ else d)

/-- UPD_HOLD, R463: UPD_HOLD of a page header is set or cleared. -/
def execUpdHold (el : Nat) (a : BitVec 24) (on_ : Bool) (s : State) : Host.Outcome State Fault Refusal :=
  s.host el (fun _ d => if isPage (pageOf a) then d.holdSet (pageOf a) on_ else d)

/-- DISCARD, R464. -/
def execDiscard (el : Nat) (a : BitVec 24) (s : State) : Host.Outcome State Fault Refusal :=
  s.host el (fun now d => if isPage (pageOf a) then d.discardPage now (pageOf a) else d)

/-- RATE_LIMIT_END, R478. -/
def execRateLimitEnd (el : Nat) (e : BitVec 8) (s : State) : Host.Outcome State Fault Refusal :=
  s.run el (fun now d => if d.alive then d.rateLimitEnd now e.toNat else d)

/-- PEND_CLEAR, R479: a write of `mask` to PG_EVT_PEND. -/
def execPendClear (el : Nat) (a : BitVec 24) (mask : Word) (s : State) : Host.Outcome State Fault Refusal :=
  s.host el (fun _ d => if isPage (pageOf a) then d.clearFlags (pageOf a) mask.toNat else d)

end Sys2Proof.Machine
end

