-- ==== Sys2Proof/Machine/KspCmd.lean ====
section
/-! DEFINITION. The commands of the stream ports (R429 to R439, R452), and what becomes of the messages that the ports
receive. -/

namespace Sys2Proof.Machine

/-- The word at byte offset `o` of a message. -/
def wordAt (bs : List Nat) (o : Nat) : Nat := ofBytesLE ((bs.drop o).take 4)

/-- A tile message from its bytes (Table 03.10). -/
def tileMsgOf (port : Nat) (bs : List Nat) : TileMsgIn :=
  let w0 := wordAt bs 0
  let w1 := wordAt bs 4
  let w3 := wordAt bs 12
  { port := port, type := w0 % 256, layer := bitsOf w0 8 8, flags := bitsOf w0 16 8, tx := toS 16 (w1 % 2 ^ 16), ty := toS 16 (w1 / 2 ^ 16),
    field := wordAt bs 8, gen := w3 % 2 ^ 16, tag := w3 / 2 ^ 16, crc := wordAt bs 16, payload := (bs.drop 24).take (wordAt bs 20) }

/-- The cells of a feature tile's payload that carry data (R256). -/
def featureCells (bs : List Nat) : List (Nat × List Int) :=
  ((List.range 16384).map (fun k => (k, (bs.drop (32 * k)).take 32))).filterMap (fun x =>
    if x.2.length < 32 || x.2.all (· == 0x80) then none else some (x.1, x.2.map (toS 8)))

/-- The words of a message as long as it is. -/
def msgWords (bs : List Nat) : List Nat := (List.range (bs.length / 4)).map (fun k => wordAt bs (4 * k))

/-- The sections of a MIRROR message (Table 13.10): each a word KIND and LEN, then its content. -/
def mirrorSectsOf : Nat → List Nat → List (Nat × List Nat)
  | 0, _ => []
  | _, [] => []
  | n + 1, w :: ws =>
    let len := (w / 2 ^ 8) / 4
    (w % 2 ^ 8, ws.take len) :: mirrorSectsOf n (ws.drop len)

/-- A MIRROR message from its bytes (Table 13.10). -/
def mirrorOf (bs : List Nat) : MirrorMsg :=
  let w0 := wordAt bs 0
  { unit := bitsOf w0 8 1, rate := bitsOf w0 9 2, snuff := bitOf w0 11, handover := bitOf w0 12, tick := wordAt bs 4,
    edgePt := wordAt bs 8 + 2 ^ 32 * wordAt bs 12, hoTick := wordAt bs 16, sects := mirrorSectsOf (wordAt bs 20) ((msgWords bs).drop 6) }

/-- A HELLO message from its bytes (R441). -/
def helloOf (bs : List Nat) : HelloMsg :=
  let w0 := wordAt bs 0
  { unit := bitsOf w0 8 8 % 2, state := bitsOf w0 16 3, pref := bitOf w0 19, cfgCrc := wordAt bs 4, implId := wordAt bs 8,
    mirVer := wordAt bs 12 % 2 ^ 16 }

/-- A tile message: of a store, or of the partner to this module as its store (R448). -/
def Dev.tileIn (d : Dev) (now : Nat) (m : TileMsgIn) : Dev :=
  if m.port = 1 && d.servesTiles && m.type = 1 then d.tileReqRx m
  else if m.port = 1 && d.servesTiles && m.type = 4 then d.tilePutRx now m
  else if d.ticking then d.tileMsgRx now m
  else d

/-- A whole message that port `n` has received on virtual channel `vc` (R436). -/
def Dev.message (d : Dev) (now n vc : Nat) (bs : List Nat) : Dev :=
  let partner := (d.port n).partner
  match vc with
  | 0 =>
    if partner then
      (if d.alive && d.pair.en then
        d.timesync now (wordAt bs 4 + 2 ^ 32 * wordAt bs 8) (wordAt bs 12 + 2 ^ 32 * wordAt bs 16) (wordAt bs 20 + 2 ^ 32 * wordAt bs 24)
       else d)
    else d.regBytes now n bs
  | 1 => if bs.length < 24 then d else d.tileIn now (tileMsgOf n bs)
  | 2 => if d.alive then d.featureTile now (bs.take 64) (featureCells (bs.drop 64)) else d
  | 3 =>
    if !(d.alive && d.pair.en) then d
    else if bs.headD 0 = 0x51 then d.helloRx now (helloOf bs)
    else d.mirrorRx now (mirrorOf bs)
  | _ => d

/-- A retrain that has lasted 50 ms is a link that is down, and the store selection follows (R435, R109). -/
def Dev.linkFalls (d : Dev) (now n : Nat) : Dev :=
  let e := d.kspDown now n
  if (d.port n).retrainFrom.isSome && (e.port n).retrainFrom.isNone && e.alive then e.linkChange now else e

/-- Whether the ports run: in every device state but OFF. -/
def Dev.powered (d : Dev) : Bool := d.pwr.st != .off

/-! ### Commands -/

/-- TS, R429: columns of training sets arrive; at UP the store selection and HELLO follow. -/
def execTs (el : Nat) (port : Fin 2) (locked : BitVec 4) (width : BitVec 3) (endCode : BitVec 2) (cols : Nat) (s : State) :
    Host.Outcome State Fault Refusal :=
  s.run el (fun now d =>
    if !d.powered then d
    else
      let d := d.linkFalls now port.val
      let r := d.kspTs now port.val locked.toNat width.toNat endCode.toNat cols
      match r.1 with
      | none => r.2
      | some w =>
        let d := r.2.kspEnterUp now port.val w
        if d.alive then
          let d := d.linkChange now
          if port.val = 1 && d.pair.en then d.helloSend now else d
        else d)

/-- LANE_LOCK, R429. -/
def execLaneLock (el : Nat) (port : Fin 2) (lane : Fin 4) (s : State) : Host.Outcome State Fault Refusal :=
  s.run el (fun now d => if d.powered then d.kspLaneLock now port.val lane.val else d)

/-- LANE_LOCK_LOSS, R429. -/
def execLaneLockLoss (el : Nat) (port : Fin 2) (lane : Fin 4) (s : State) : Host.Outcome State Fault Refusal :=
  s.run el (fun now d => if d.powered then d.kspLaneLoss now port.val lane.val else d)

/-- LANE_LOCK_WAIT_EXPIRY, R429. -/
def execLaneLockWaitExpiry (el : Nat) (port : Fin 2) (s : State) : Host.Outcome State Fault Refusal :=
  s.run el (fun now d => if d.powered then d.kspLockWait now port.val else d)

/-- TRAIN_TIMEOUT, R429. -/
def execTrainTimeout (el : Nat) (port : Fin 2) (s : State) : Host.Outcome State Fault Refusal :=
  s.run el (fun now d => if d.powered then d.kspTrainTimeout now port.val else d)

/-- RETRAIN, R452: a write of 1 to RETRAIN. -/
def execRetrain (el : Nat) (port : Fin 2) (s : State) : Host.Outcome State Fault Refusal :=
  s.run el (fun now d => if d.hif.inService then d.kspRetrain now port.val else d)

/-- LINK_DOWN, R435: a retrain has lasted 50 ms; the store selection follows. -/
def execLinkDown (el : Nat) (port : Fin 2) (s : State) : Host.Outcome State Fault Refusal :=
  s.run el (fun now d =>
    if !d.powered then d
    else d.linkFalls now port.val)

/-- DATA_PACKET, R434: a DATA packet arrives as the bytes of Table 13.4. -/
def execDataPacket (el : Nat) (port : Fin 2) (bytes : List Byte) (s : State) : Host.Outcome State Fault Refusal :=
  s.run el (fun now d =>
    if !d.powered then d
    else
      let r := d.kspPacketRx now port.val (bytes.map BitVec.toNat)
      match r.1 with
      | none => r.2
      | some (vc, bs) => r.2.message now port.val vc bs)

/-- LINK_PACKET, R432: a LINK packet arrives with a good CRC. -/
def execLinkPacket (el : Nat) (port : Fin 2) (ack : BitVec 12) (nak : Bool) (c0 c1 c2 c3 c4 : BitVec 16) (s : State) :
    Host.Outcome State Fault Refusal :=
  s.run el (fun now d =>
    if d.powered then d.kspLinkRx now port.val ack.toNat nak [c0.toNat, c1.toNat, c2.toNat, c3.toNat, c4.toNat] else d)

/-- LINK_KEEPALIVE, R432: 100 µs without a LINK packet sent. -/
def execLinkKeepalive (el : Nat) (port : Fin 2) (s : State) : Host.Outcome State Fault Refusal :=
  s.run el (fun now d =>
    if d.powered && d.kspUp port.val && decide ((d.port port.val).linkTxAt + us 100 ≤ now) then d.kspSendLink now port.val else d)

/-- LINK_SILENCE, R432: 1 ms without a LINK packet received while UP. -/
def execLinkSilence (el : Nat) (port : Fin 2) (s : State) : Host.Outcome State Fault Refusal :=
  s.run el (fun now d =>
    if d.powered && d.kspUp port.val && decide ((d.port port.val).lastLink + ms 1 ≤ now) then d.kspRetrain now port.val else d)

end Sys2Proof.Machine
end

