-- ==== Sys2Proof/Machine/CanRx.lean ====
section
/-! DEFINITION. Frames received on the message buses: what a protocol layer consumes, what goes to the host, and what is
counted (R395, R398, R400 to R406). -/

namespace Sys2Proof.Machine

/-- A VNP frame of function `fn` and node address `a` on boom bus `b` (R405): the node's functions and another unit's beacon
are taken, the device's own functions are seen and left, reserved functions are counted, the makers' go to the host. -/
def Dev.vnpRx (d : Dev) (now b dt : Nat) (f : CanFrame) : Dev :=
  let fn := f.id / 64
  let a := f.id % 64
  let hears := d.vnpHears b
  if f.ide || 30 ≤ fn then d.rxQueue (2 + b) dt f
  else if fn = 8 then (if hears then d.vnpFault now b a f.data else d)
  else if fn = 9 then (if hears then d.vnpLatency now b a f.data else d)
  else if fn = 10 then (if hears then d.vnpStatus now b a f.data else d)
  else if fn = 17 then (if hears then d.vnpConfigAck now b a f.data else d)
  else if fn = 24 then (if hears then d.vnpEnrol now b f.data else d)
  else if fn = 1 then (if hears then d.beaconRx now b (bitsOf (f.data.getD 11 0) 4 1) else d)
  else if [0, 2, 4, 5, 12, 16, 25].contains fn then d
  else d.bump (VNP.VNP_UNKNOWN (2 + b))

/-- A connection management frame of TP or ETP from `sa` (log entry 16); `none` where the frame is not for this controller. -/
def Dev.tpCmRx (d : Dev) (n sa da : Nat) (etp : Bool) (bs : List Nat) : Option Dev :=
  let by_ := fun k => bs.getD k 0
  let pgn := by_ 5 + 256 * by_ 6 + 65536 * by_ 7
  let mine := d.on (ISO.CLAIMED n) && d.isoSa n == da
  if !(mine || da == 255) then none
  else if !etp && da == 255 && by_ 0 = 32 then some (d.tpBam n sa pgn (by_ 1 + 256 * by_ 2))
  else if !mine then none
  else match etp, by_ 0 with
    | false, 16 => some (d.tpRts n sa false pgn (by_ 1 + 256 * by_ 2))
    | false, 17 => some (d.tpAnswer n sa 0 (by_ 1) (by_ 2))
    | false, 19 => some (d.tpAnswer n sa 1 0 0)
    | true, 20 => some (d.tpRts n sa true pgn (ofBytesLE ((bs.drop 1).take 4)))
    | true, 21 => some (d.tpAnswer n sa 0 (by_ 1) (ofBytesLE ((bs.drop 2).take 3)))
    | true, 22 => some d
    | true, 23 => some (d.tpAnswer n sa 1 0 0)
    | _, 255 => some ((d.tpAbortRx n sa).tpAnswer n sa 2 0 0)
    | _, _ => none

/-- What the ISO 11783 layer takes of a frame received at `rx` (R198, R400 to R404; wire formats, log entry 16); `none` for a frame of the host. -/
def Dev.isoTake (d : Dev) (now rx n : Nat) (f : CanFrame) : Option Dev :=
  if !f.ide then none
  else
    let sa := f.id % 256
    let ps := f.id / 256 % 256
    let pf := f.id / 65536 % 256
    let pgn := (f.id / 65536 % 1024) * 256 + (if pf < 240 then 0 else ps)
    let by_ := fun k => f.data.getD k 0
    let w16 := fun k => by_ k + 256 * by_ (k + 1)
    if pgn = 65096 then some (d.wheelBased now rx n sa (w16 0) (by_ 7 % 4))
    else if pgn = 65097 then some (d.groundBased now rx n sa (w16 0))
    else if pgn = 129026 then some (d.navVelocity now rx n sa (w16 2) (w16 4))
    else if pgn = 129029 then some (d.fastFrame now rx n sa f.data)
    else if pgn = 0xEE00 && f.data.length = 8 then some (d.claimedRx now n sa (ofBytesLE f.data))
    else if pgn = 0xEA00 && (ps == 255 || (d.on (ISO.CLAIMED n) && ps == d.isoSa n)) && ofBytesLE (f.data.take 3) = 0xEE00 then
      some (d.claimRequest n)
    else if pgn = 0xEC00 then d.tpCmRx n sa ps false f.data
    else if pgn = 0xC800 then d.tpCmRx n sa ps true f.data
    else if (pgn = 0xEB00 || pgn = 0xC700) && (ps == 255 || (d.on (ISO.CLAIMED n) && ps == d.isoSa n)) then
      some (d.tpData now n sa (by_ 0) (f.data.drop 1))
    else none

/-- The format of a frame as FRAME numbers it. -/
def frameFormat (f : CanFrame) : Nat := if f.xlf then 2 else if f.fdf then 1 else 0

/-- A frame received on controller `n`, whose start of frame was sampled at `rx` (R395, R398, R406):
a frame of a format beyond FRAME, or with SEC, is not received, and VNP is spoken in the bus's own format (log entry 17). -/
def Dev.canRx (d : Dev) (now n rx : Nat) (f : CanFrame) : Dev :=
  let dt := nsOf rx
  if f.rtr then d.bump (CAN.RTR_IGN n)
  else if f.xlf && 64 < f.data.length then d.bump (CAN.XL_OVERSIZE n)
  else if d.rd (CAN.FRAME n) < frameFormat f then d
  else match d.rd (CAN.PROTO n) with
  | 2 =>
    if f.xlf && (f.sec || f.sdt != d.rd (CAN.XL_SDT n) || f.vcid != d.rd (CAN.XL_VCID n) || f.af != d.rd (CAN.XL_AF n)) then
      d.bump (CAN.XL_MISMATCH n)
    else if frameFormat f = d.rd (CAN.FRAME n) then d.vnpRx now (n - 2) dt f
    else d.rxQueue n dt f
  | 1 =>
    match d.isoTake now rx n f with
    | some d => d
    | none => d.rxQueue n dt f
  | _ => if f.xlf && f.sec then d else d.rxQueue n dt f

/-! ### Commands -/

/-- CAN_FRAME_RX, R398: a frame of which the start was sampled `ago` cycles before its end. -/
def execCanFrameRx (el : Nat) (ctl : Fin 6) (f : CanFrame) (ago : BitVec 20) (s : State) : Host.Outcome State Fault Refusal :=
  s.run el (fun now d =>
    if d.alive && d.canActive ctl.val && d.rd (CAN.CAN_STATE ctl.val) != 3 then d.canRx now ctl.val (now - ago.toNat) f else d)

end Sys2Proof.Machine
end

