-- ==== Sys2Proof/Machine/Tick.lean ====
section
/-! DEFINITION. The tick (R42 to R50), its commit (R47, R48) and the overrun (R51 to R56), with their commands. A phase's
duration is given in units of 0.1 µs. -/

namespace Sys2Proof.Machine

/-! ### Phases and deadline (R42, Table 01.3, Table 01.4) -/

/-- A duration in units of 0.1 µs, in cycles. -/
def tenthUs (n : Nat) : Nat := 40 * n

/-- The T5 deadline as a time after the tick edge: 20 µs before the next one. -/
def Dev.deadline (d : Dev) : Nat := d.sys.period - us 20

/-- How many of the phases, in order, are complete at the deadline `dl`, `at_` having passed before them. -/
def phasesDone (dl : Nat) : Nat → List Nat → Nat
  | _, [] => 0
  | at_, p :: ps => if at_ + tenthUs p ≤ dl then phasesDone dl (at_ + tenthUs p) ps + 1 else 0

/-- The budgets of T1 to T5 in percent of the period (Table 01.4). -/
def phaseBudget : List Nat := [15, 10, 30, 20, 5]

/-- PH_LAST and PH_MAX of phase T(i + 1), which ran to its end in `t` (R45). -/
def Dev.phaseTime (d : Dev) (i t : Nat) : Dev :=
  let v := min 0xFFFF t
  (d.wr (SYS.PH_LAST i) v).wr (SYS.PH_MAX i) (max v (d.rd (SYS.PH_MAX i)))

/-- The times of the phases that ran to their end. -/
def Dev.phaseTimes (d : Dev) (ts : List Nat) : Dev := d.each ts.zipIdx (fun d x => d.phaseTime x.2 x.1)

/-- EVT_SYS_PHASE_BUDGET for each phase over its budget (R45). -/
def Dev.budgetCheck (d : Dev) (now : Nat) (ts : List Nat) : Dev :=
  d.each (ts.zip phaseBudget) (fun d x => if x.2 * d.sys.period < 100 * tenthUs x.1 then d.fire now EVT.SYS_PHASE_BUDGET 0 0 else d)

/-- Whether a tick edge that has passed starts a tick: the grid runs and the device is in LIT, DIM or SNUFFED, or its mode has
been selected (R513). -/
def Dev.tickDue (d : Dev) (now : Nat) : Bool :=
  d.alive && d.edgePassed now && (d.ticking || (d.pwr.st == .kindle && d.pwr.modeSel))

/-- The period change that begins with the next tick takes effect at its edge (R41). -/
def Dev.turnNext (d : Dev) (now : Nat) : Dev :=
  (d.sys.rateChg.filter (fun x => decide (x.1 ≤ d.sys.nextN))).foldl (Dev.gridTurnOne now) d

/-! ### T0 to T4 -/

/-- T0 of tick `k` with its edge `edge` (R43, R407, R438, R450, R513): what the power dies had to do by now is done, the
latches are shown, and beacon and TIMESYNC are sent; a role that changes at the edge sends from the next one (R450, R451). -/
def Dev.tickT0 (d : Dev) (now edge k : Nat) : Dev :=
  let carry := d.pwr.st != .kindle && d.rd SYS.LAST_COMMIT != (k + 2 ^ 32 - 1) % 2 ^ 32
  let d := (d.each (List.range 32) (fun d c => d.idcRun now c)).each (List.range 16) (fun d n => d.lswRun now n)
  let d := d.firstTick now
  let d := { d with sys := { d.sys with nextN := k + 1 } }.wr2 SYS.TICK_DT_LO SYS.TICK_DT_HI (nsOf edge)
  let d := (d.fbkT0 edge).plainT0
  ((d.vnpT0 now edge k carry).pairEdge now k).timesyncT0 now k

/-- T1 (R207, R96, R258). -/
def Dev.tickT1 (d : Dev) (now edge k : Nat) : Dev :=
  let d := (d.poseT1 now edge k).mirrorPose k
  let e := d.orgFromPose edge
  (if e.origin = d.origin then e else e.clearLayer).gridRelease now

/-- T2 (R81, R149). -/
def Dev.tickT2 (d : Dev) (edge k : Nat) : Dev :=
  let dt := match d.geo.frames.head? with | some f => edge - f.dt | none => d.sys.period
  let d := d.runT2 edge k
  d.each d.validPts (fun d n => d.decSince edge dt n)

/-- T3 (R103, R106, R139). -/
def Dev.tickT3 (d : Dev) (now edge k : Nat) : Dev := (d.covPaint now edge).decT3 now edge k

/-- The mode that the commit of this tick leaves (R514). -/
def Dev.modeNext (d : Dev) : OpMode :=
  if d.pwr.modeUnder then d.pwr.mode
  else if d.pwr.modeReq = 1 then .host
  else if d.pwr.modeReq = 2 && d.on PWR.CFG_VALID then .autonomous
  else d.pwr.mode

/-- Whether a field's pending value waits on at a commit that does not find COV in CLOSED: CELL_SIZE and FIELD_ID (R95). -/
def fieldBound (k : Nat) : Bool := k == COV.CELL_SIZE.key || k == COV.FIELD_ID.key

/-- The shadowed values that the cut admits (R48, R49, R95), with what the mirror of the tick carries on a standby or joiner (R447,
R449). -/
def Dev.admitted (d : Dev) : KMap :=
  let closed := d.rd COV.FIELD_STATE == 0
  let own : KMap := (d.pend.filter (fun x => !x.2.dead && !x.2.under && (closed || !fieldBound x.1))).map (fun x => (x.1, x.2.val))
  if d.pair.st == .standby || d.pair.st == .joining then d.mirrorCfg.foldl (fun m x => tset m x.1 x.2) own else own

/-- T4 (R165, R171): the decisions and rates, which only a commit makes binding. Where the commit leaves PLAIN mode, every
point opens the window off and is decided under the new mode (R390). -/
def Dev.tickT4 (d : Dev) (now edge : Nat) : Dev × Tab PtDec × Tab PtRate :=
  let was := d.pwr.mode
  let next := d.modeNext
  let leaves := was == .plain && next != .plain
  let d := { d with pwr := { d.pwr with mode := next }, dec := { d.dec with openOff := d.dec.openOff || leaves } }
  let a := d.decT4 now edge d.admitted
  let b := a.1.rateT4 edge
  ({ b.1 with pwr := { b.1.pwr with mode := was } }, a.2, b.2)

/-- The cells that the queries of a T3 which did not complete have read remain DECIDED (R291): those of the first points, as many as a free
value says (log entry 136). -/
def Dev.partT3 (d : Dev) (now : Nat) : Dev :=
  let r := d.draw 16
  let e := r.2.each (d.validPts.take (r.1 % (d.validPts.length + 1))) (fun d n => d.decQuery now n)
  { r.2 with grid := { r.2.grid with blocks := e.grid.blocks } }

/-- The first `m` of the phases T1 to T4. -/
def Dev.tickPhases (d : Dev) (now edge k m : Nat) : Dev × Tab PtDec × Tab PtRate :=
  let d := if 1 ≤ m then d.tickT1 now edge k else d
  let d := if 2 ≤ m then d.tickT2 edge k else d
  let d := if 3 ≤ m then d.tickT3 now edge k else if m = 2 then d.partT3 now else d
  if 4 ≤ m then d.tickT4 now edge else (d, [], [])

/-! ### The commit: the values it admits (R47 to R49, R75) -/

/-- What the validation of a commit finds, in the order of R75: the values left, and the codes for the reports. -/
structure Judged where
  adm : KMap := []
  ssp : Tab Nat := []
  seg : Tab Nat := []
  prod : Tab Nat := []
  pts : List (Nat × Nat) := []
  prof : Tab Nat := []
  lsw : Tab Nat := []
  grid : List (Nat × Nat) := []
  can : List (Nat × Nat) := []
  deriving DecidableEq, Repr, Inhabited

/-- The validation of a commit. -/
def Dev.judgeAdm (d : Dev) (adm : KMap) : Judged :=
  let a := d.sspStep adm
  let b := d.segStep1 a.1
  let c := d.prodStep2 b.1
  let p := d.ptStep3 c.1
  let s := d.segStep45 (p.1, b.2)
  let q := d.prodStep4 (s.1, c.2)
  let f := d.profStep q.1
  let l := d.lswStep f.1
  let g := d.gridStep l.1
  let n := d.canStep g.1
  { adm := n.1, ssp := a.2, seg := s.2, prod := q.2, pts := p.2, prof := f.2, lsw := l.2, grid := g.2, can := n.2 }

/-- The check of a pending TICK_RATE (R39, R75 step 6) in the commit of tick `k`: a rate accepted begins with tick k + 2 (R41)
and ends a degradation (R56). -/
def Dev.rateCheck (d : Dev) (now k : Nat) (adm : KMap) : Dev × KMap :=
  match tget? adm SYS.TICK_RATE.key with
  | none => (d, adm)
  | some c =>
    if ptsGuaranteed c < (d.candPts adm).length then
      ((d.wr SYS.RATE_REFUSED 1).fire now EVT.SYS_RATE_REFUSED 0 0, tdel adm SYS.TICK_RATE.key)
    else
      let near := d.sys.rateChg.filter (fun x => decide (x.1 ≤ k + 1))
      let chg := if periodOf c = d.winLen then near else near ++ [(k + 2, periodOf c)]
      ((({ d with sys := { d.sys with rateChg := chg } }).wr SYS.RATE_REFUSED 0).wr SYS.DEGRADED 0, adm)

/-- After a commit that admitted `adm` and left `left`: what is applied no longer waits, what is refused is only read. -/
def Dev.pendAfter (d : Dev) (adm left : KMap) : Dev :=
  { d with pend := (d.pend.filter (fun x => (tget? left x.1).isNone)).map (fun x =>
      (x.1, if (tget? adm x.1).isSome then { x.2 with dead := true } else x.2)) }

/-- The RWS words that a commit changed, for the CONFIG section of the mirror (R448). -/
def Dev.mirrorChanged (d : Dev) (left : KMap) : Dev :=
  if d.mirrors then
    let as := (left.map (fun x => x.1 / 32)).dedup
    let ws := as.map (fun a => (a, d.mirrorWord a))
    { d with pair := { d.pair with mirCfg := d.pair.mirCfg ++ ws } }
  else d

/-- RATE_MAX: the highest TICK_RATE that carries the bound points (Table 01.18). -/
def Dev.rateMax (d : Dev) : Nat :=
  let n := d.rd SYS.PTS_BOUND
  if n ≤ 128 then 3 else if n ≤ 512 then 2 else 1

/-- The points that a commit leaving the values `left` makes new, in rising order (R78). -/
def Dev.freshPts (d : Dev) (left : KMap) : List Nat := (admPts left).filter (fun n => d.bindChanged left n)

/-- The points that the commit of tick `k` will make new. -/
def Dev.freshAhead (d : Dev) (now k : Nat) : List Nat := d.freshPts (d.rateCheck now k (d.judgeAdm d.admitted).adm).2

/-- The registers part of the commit of tick `k`: validation, reports, and the admitted values made active; with it, the points
made new (R78). -/
def Dev.commitRegs (d : Dev) (now k : Nat) : Dev × List Nat :=
  let adm := d.admitted
  let j := d.judgeAdm adm
  let r := d.rateCheck now k j.adm
  let left := r.2
  let old := r.1
  let fresh := old.freshPts left
  let d := ((old.fbkCommit now left).applyAdm left).pendAfter adm left
  let d := (d.geoReport now j.seg j.pts).prodReport now j.prod
  let d := (d.sspReport now j.ssp ((List.range 4).map (fun n => old.rd (SSP.ROLE n)))).profReport now j.prof
  let d := d.lswReport now j.lsw
  let d := if old.origin = d.origin then d else ((d.reframe old.origin).clearLayer).fieldAbort now
  let d := (d.each fresh (fun d n => (d.covRenew now n).tgtForget n)).geoAfterCommit fresh
  let d := ((d.gridReport now j.grid old).calReport now old).canReport now j.can old
  let d := (d.nodesReleased old fresh).nodeTableCommit
  let d := (((d.kspEnable now 0).kspEnable now 1).gnssEnable now).crcFollow now
  let d := (d.fieldCommand now).fieldFollow
  let d := d.wr SYS.RATE_MAX d.rateMax
  (d.mirrorChanged left, fresh)

/-! ### The commit: the window it makes (R44, R47, R164) -/

/-- The window [a, b) of IDC channel `c`: its point's or DIRECT_ON's, its snuff state's, or idle where its point's module is not
the master (R444, R447). -/
def Dev.idcTick (d : Dev) (c a b : Nat) : Dev :=
  if d.snuffActive then d.idcWindow c a b true
  else if !d.vnpMaster && (d.ptOfCh 1 c).isSome then
    (d.modIdc c (fun x => { x with snuff := none, holdEnd := none, grid := none })).chWindow c a b false none false
  else d.idcWindow c a b false

/-- While a snuff path is active, an output that does not stand in its snuff state takes it (R353). -/
def Dev.snuffLate (d : Dev) (now : Nat) : Dev :=
  if d.snuffActive && d.driving then
    let d := d.each (List.range 32) (fun d c => if (d.idcCh c).snuff.isNone then d.idcSnuff now c (d.snuffUntil now) else d)
    d.each (List.range 16) (fun d n => if (d.lswCh n).snuff.isNone then d.lswSnuff now n else d)
  else d

/-- The committed edges as COV takes them (R97); a channel in its snuff state has told COV its own. -/
def Dev.covTick (d : Dev) (opening : Nat) : Dev :=
  d.each d.validPts (fun d n =>
    if d.rd (PD.BIND_KIND n) == 1 && (d.idcCh (d.rd (PD.LOCAL_CH n))).snuff.isSome then d
    else d.covWindow n (d.decOf n).sOpen (d.decOf n).edge (d.decOf n).s opening)

/-- The window [a, b) handed to the outputs (R164, R304, R336, R368). -/
def Dev.commitOutputs (d : Dev) (now a b : Nat) : Dev :=
  let d := { d with pwr := { d.pwr with outOff := d.pwr.emberWait.isSome, outHold := .none } }
  let d := if d.pwm.snuff && !d.snuffActive then d.pwmSnuffSet now false else d
  let d := (d.each (List.range 8) (fun d g => d.contCheck now g)).profFaults now
  let d := d.each (List.range 32) (fun d c => d.idcTick c a b)
  ((d.snuffLate now).lswCommit a).pwmCommit now |>.covTick a

/-- A module that has joined the active's ticks follows the rate of the mirror, including a degradation (R446). -/
def Dev.mirrorRateFollow (d : Dev) (k : Nat) : Dev :=
  match d.pair.aligned && !d.mirrors, d.pair.mirror with
  | true, some m =>
    if m.tick = k % 2 ^ 32 && d.rd SYS.TICK_RATE_ACT != m.rate then
      (({ d with sys := { d.sys with rateChg := [(k + 1, periodOf m.rate)] } }).wr SYS.TICK_RATE_ACT m.rate).wrB SYS.DEGRADED
        (m.rate != d.rd SYS.TICK_RATE)
    else d
  | _, _ => d

/-- What follows the commit of tick `k` (R50, R55, R448, R450, R518, R542): its time, the mirror, the heartbeat, and an entry into EMBER that has waited for LIT. -/
def Dev.commitDone (d : Dev) (now edge k sum : Nat) : Dev :=
  let d := ((d.wr SYS.LAST_COMMIT (k % 2 ^ 32)).wr SYS.COMMIT_OFS (min (2 ^ 20 - 1) (10 * sum))).wr SYS.OVR_RUN 0
  let d := if d.pwr.st = .snuffed then d else (d.mirrorSend edge k).hbToggle
  let d := if d.emberWaits then d.emberAsk now else d
  d.mirrorSpent.tstCommit now

/-- The commit of tick `k` (R47), with the decisions and rates of its T4; `sum` is the time it took after the edge. -/
def Dev.commit (d : Dev) (now edge k sum : Nat) (dec : Tab PtDec) (rate : Tab PtRate) : Dev :=
  let key := d.keyBefore
  let opening := d.edgeOf (k + 1)
  let d := d.loopsT4 now edge k (d.mirrorDec k dec).2 rate (d.freshAhead now k)
  let r := d.commitRegs now k
  let fresh := r.2
  let d := (r.1.snuffCommit now).modeCommit now
  let d := (d.phaseCommit now opening key).mirrorRateFollow k
  let m := d.mirrorDec k dec
  let d := ((m.1.decCommit k opening m.2 fresh).rateCommit now k rate fresh).mirrorDuty k
  let d := (d.tstAbort.commitOutputs now opening (opening + d.winLen)).vnpCommit edge k opening (opening + d.winLen)
  (d.commitDone now edge k sum).dimMaxAfter now

/-! ### T6 (R46) and the overrun (R51 to R55) -/

/-- T6 of tick `k`: tile placement, GRID and CAL, storms, joining, stored latencies, records, port rates. -/
def Dev.tickT6 (d : Dev) (now k : Nat) : Dev :=
  let d := ((d.gridT6 now k).tplT6 now).stormStep now k
  let d := ((d.joinCheck now).latStoreCheck now).recWriteOut now
  ((d.kspRates now 0).kspRates now 1).wr SYS.PHASE 6

/-- The window after an overrun of tick `k` (R52): every point keeps its state, pulses go on, no edge is placed. -/
def Dev.carryOver (d : Dev) (k : Nat) : Dev :=
  let a := d.edgeOf (k + 1)
  let b := a + d.winLen
  let pts := d.dec.pts.map (fun x => (x.1, { x.2 with sOpen := x.2.s, edge := none }))
  let d := { d with dec := { d.dec with pts := pts, winOpen := a, winClose := b } }
  d.each (List.range 32) (fun d c =>
    if (d.idcCh c).snuff.isSome then d.idcWindow c a b true else if (d.idcCh c).comOn then d.chStay c a b else d)

/-- The third overrun in a row, of tick `k` (R55): the rate halves from tick k + 2, or the device enters SNUFFED. -/
def Dev.thirdOverrun (d : Dev) (now k : Nat) : Dev :=
  if d.on SYS.TICK_DEGRADE_EN && decide (d.sys.period < us 2000) then
    let p := 2 * d.sys.period
    let chg := d.sys.rateChg.filter (fun x => decide (x.1 ≤ k + 1)) ++ [(k + 2, p)]
    let d := ({ d with sys := { d.sys with rateChg := chg } }).wr SYS.TICK_RATE_ACT (rateCode p)
    ((d.wr SYS.DEGRADED 1).fire now EVT.SYS_TICK_DEGRADED 0 0).wr SYS.OVR_RUN 0
  else d.enterSnuffed now 1

/-- Tick `k` overruns (R51): the work of the phases that are complete stands, the commands carry over. -/
def Dev.overrun (d : Dev) (now k : Nat) : Dev :=
  let d := (d.fire now EVT.SYS_TICK_OVERRUN 0 0).bump SYS.OVR_TOTAL
  let third := d.rd SYS.OVR_RUN == 2
  let d := (d.bump SYS.OVR_RUN).carryOver k
  let d := if third then d.thirdOverrun now k else d
  (d.wr SYS.PHASE 7).dimMaxAfter now

/-- The cut of a tick that starts at `edge` (R48): the instant at which T5 begins. -/
def cutOf (edge : Nat) (ts : List Nat) : Nat := edge + ((ts.take 4).map tenthUs).sum

/-- After the commit that found `cut` waiting, what was written since the cut waits on (R48). -/
def Dev.waitsOn (d : Dev) (cur cut : Waits) : Dev :=
  if cur = cut then { d with cuts := [] } else { d.withWaits (cur.merge cut d.waits) with cuts := [] }

/-- The tick that the passed edge starts: `ts` are the durations of its phases T1 to T5, or of T1 to T4 where T5 does not
complete. It overruns where T5 is not complete at the deadline (R51). -/
def Dev.runTick (d : Dev) (now : Nat) (ts : List Nat) : Dev :=
  let d := d.turnNext now
  let k := d.sys.nextN
  let edge := d.nextEdge
  let late := decide (edge + d.deadline < now)
  let done := phasesDone d.deadline 0 ts
  let ovr := late || done != 5
  let m := min 4 done
  let cur := d.waits
  let w := d.waitsAt (cutOf edge ts)
  let p := ((d.withWaits w).tickT0 now edge k).tickPhases now edge k m
  let d := p.1.phaseTimes (ts.take (if ovr then m else 5))
  if ovr then { (d.withWaits cur).overrun now k with cuts := [] }
  else (((d.commit now edge k ts.sum p.2.1 p.2.2).waitsOn cur w).budgetCheck now ts).tickT6 now k

/-! ### Commands -/

/-- TICK, R42: the end of T5 of the tick whose edge has passed, with the durations of T1 to T5. Writes that completed before the cut, which the durations give, are applied (R48, log entry 36). -/
def execTick (el : Nat) (t1 t2 t3 t4 t5 : BitVec 16) (s : State) : Host.Outcome State Fault Refusal :=
  s.run el (fun now d =>
    if d.tickDue now then d.runTick now [t1.toNat, t2.toNat, t3.toNat, t4.toNat, t5.toNat] else d)

/-- TICK_OVERRUN, R51: the deadline of a tick whose T5 has not completed, with the durations of T1 to T4. -/
def execTickOverrun (el : Nat) (t1 t2 t3 t4 : BitVec 16) (s : State) : Host.Outcome State Fault Refusal :=
  s.run el (fun now d =>
    if d.tickDue now && decide (d.nextEdge + d.deadline ≤ now) then d.runTick now [t1.toNat, t2.toNat, t3.toNat, t4.toNat] else d)

end Sys2Proof.Machine
end

