-- ==== Sys2Proof/Machine/Dispatch.lean ====
section
/-! DEFINITION. `exec`: one arm for each constructor of `Instr`, each a direct call of that command's meaning. -/

namespace Sys2Proof.Machine

def exec (i : Instr) (s : State) : Host.Outcome State Fault Refusal :=
  match i with
  | .tick el t1 t2 t3 t4 t5 => Sys2Proof.Machine.execTick el t1 t2 t3 t4 t5 s
  | .tickOverrun el t1 t2 t3 t4 => Sys2Proof.Machine.execTickOverrun el t1 t2 t3 t4 s
  | .lockstepMismatch el pairB => Sys2Proof.Machine.execLockstepMismatch el pairB s
  | .eccCorrected el mram => Sys2Proof.Machine.execEccCorrected el mram s
  | .eccUncorrectable el site ix => Sys2Proof.Machine.execEccUncorrectable el site ix s
  | .loHiLatchRead el a => Sys2Proof.Machine.execLoHiLatchRead el a s
  | .clrMax el => Sys2Proof.Machine.execClrMax el s
  | .registerWrite el path a w => Sys2Proof.Machine.execRegisterWrite el path a w s
  | .segmentSensorStale el seg => Sys2Proof.Machine.execSegmentSensorStale el seg s
  | .ptIdxSnapshot el n => Sys2Proof.Machine.execPtIdxSnapshot el n s
  | .fieldOpen el => Sys2Proof.Machine.execFieldOpen el s
  | .fieldClose el => Sys2Proof.Machine.execFieldClose el s
  | .fieldAbandon el => Sys2Proof.Machine.execFieldAbandon el s
  | .flushDone el => Sys2Proof.Machine.execFlushDone el s
  | .confTimeout el pt => Sys2Proof.Machine.execConfTimeout el pt s
  | .tileWriteback el slot => Sys2Proof.Machine.execTileWriteback el slot s
  | .tilePin el => Sys2Proof.Machine.execTilePin el s
  | .tileUnpin el => Sys2Proof.Machine.execTileUnpin el s
  | .tileUnpinAll el => Sys2Proof.Machine.execTileUnpinAll el s
  | .reqTimeout el slot => Sys2Proof.Machine.execReqTimeout el slot s
  | .storeProbe el => Sys2Proof.Machine.execStoreProbe el s
  | .provisionalRerequest el slot => Sys2Proof.Machine.execProvisionalRerequest el slot s
  | .tileData el m => Sys2Proof.Machine.execTileData el m s
  | .tileAbsent el m => Sys2Proof.Machine.execTileAbsent el m s
  | .tileAck el m => Sys2Proof.Machine.execTileAck el m s
  | .tileNak el m => Sys2Proof.Machine.execTileNak el m s
  | .boundaryUpdate el m => Sys2Proof.Machine.execBoundaryUpdate el m s
  | .heldSpanTimeout el pt => Sys2Proof.Machine.execHeldSpanTimeout el pt s
  | .covPeek el x y => Sys2Proof.Machine.execCovPeek el x y s
  | .slotSnapshot el slot => Sys2Proof.Machine.execSlotSnapshot el slot s
  | .holdExpired el prod => Sys2Proof.Machine.execHoldExpired el prod s
  | .latencyStore el => Sys2Proof.Machine.execLatencyStore el s
  | .decSnapshot el n => Sys2Proof.Machine.execDecSnapshot el n s
  | .loopUpdate el prod => Sys2Proof.Machine.execLoopUpdate el prod s
  | .fbLoss el prod => Sys2Proof.Machine.execFbLoss el prod s
  | .rateDeviation el prod => Sys2Proof.Machine.execRateDeviation el prod s
  | .dutyRefresh el bus node => Sys2Proof.Machine.execDutyRefresh el bus node s
  | .rateSnapshot el n => Sys2Proof.Machine.execRateSnapshot el n s
  | .sspDrdy el port => Sys2Proof.Machine.execSspDrdy el port s
  | .sspPeriodicStart el port => Sys2Proof.Machine.execSspPeriodicStart el port s
  | .sspSample el port rx => Sys2Proof.Machine.execSspSample el port rx s
  | .sspStale el port => Sys2Proof.Machine.execSspStale el port s
  | .imuReturn el => Sys2Proof.Machine.execImuReturn el s
  | .historyQuery el hi => Sys2Proof.Machine.execHistoryQuery el hi s
  | .poseReset el => Sys2Proof.Machine.execPoseReset el s
  | .imuPrimary el => Sys2Proof.Machine.execImuPrimary el s
  | .antOpen el ma => Sys2Proof.Machine.execAntOpen el ma s
  | .antShort el => Sys2Proof.Machine.execAntShort el s
  | .antRetry el => Sys2Proof.Machine.execAntRetry el s
  | .signalDetection el ch => Sys2Proof.Machine.execSignalDetection el ch s
  | .channelTimeout el ch => Sys2Proof.Machine.execChannelTimeout el ch s
  | .phaseLoss el ch slip => Sys2Proof.Machine.execPhaseLoss el ch slip s
  | .measurementEpoch el e => Sys2Proof.Machine.execMeasurementEpoch el e s
  | .navUnit el ch u => Sys2Proof.Machine.execNavUnit el ch u s
  | .rawIdxSnapshot el ch => Sys2Proof.Machine.execRawIdxSnapshot el ch s
  | .rtcmPush el n => Sys2Proof.Machine.execRtcmPush el n s
  | .rtcmFrame el => Sys2Proof.Machine.execRtcmFrame el s
  | .correctionEpochClose el => Sys2Proof.Machine.execCorrectionEpochClose el s
  | .corrAge el => Sys2Proof.Machine.execCorrAge el s
  | .emberBurst el obs t => Sys2Proof.Machine.execEmberBurst el obs t s
  | .ephemerisBurst el sig sv expiry ok => Sys2Proof.Machine.execEphemerisBurst el sig sv expiry ok s
  | .mapReanchor el => Sys2Proof.Machine.execMapReanchor el s
  | .mapSnap el => Sys2Proof.Machine.execMapSnap el s
  | .holdover el => Sys2Proof.Machine.execHoldover el s
  | .freerun el => Sys2Proof.Machine.execFreerun el s
  | .timeReturn el => Sys2Proof.Machine.execTimeReturn el s
  | .leapSecond el => Sys2Proof.Machine.execLeapSecond el s
  | .tpoPulse el => Sys2Proof.Machine.execTpoPulse el s
  | .featureTile el hdr cells => Sys2Proof.Machine.execFeatureTile el hdr cells s
  | .cameraTrigger el => Sys2Proof.Machine.execCameraTrigger el s
  | .netLoad el => Sys2Proof.Machine.execNetLoad el s
  | .winClear el => Sys2Proof.Machine.execWinClear el s
  | .healthWindow el => Sys2Proof.Machine.execHealthWindow el s
  | .auditReq el => Sys2Proof.Machine.execAuditReq el s
  | .srcRetry el src => Sys2Proof.Machine.execSrcRetry el src s
  | .calReset el mask => Sys2Proof.Machine.execCalReset el mask s
  | .calStore el => Sys2Proof.Machine.execCalStore el s
  | .pairSnapshot el a b => Sys2Proof.Machine.execPairSnapshot el a b s
  | .gridPeek el y => Sys2Proof.Machine.execGridPeek el y s
  | .pulseStart el ch => Sys2Proof.Machine.execPulseStart el ch s
  | .pulseEnd el ch => Sys2Proof.Machine.execPulseEnd el ch s
  | .staggerMaxExpiry el grp => Sys2Proof.Machine.execStaggerMaxExpiry el grp s
  | .minOffEnd el ch => Sys2Proof.Machine.execMinOffEnd el ch s
  | .phaseEnd el ch ma pin => Sys2Proof.Machine.execPhaseEnd el ch ma pin s
  | .pulseRecord el ch temp => Sys2Proof.Machine.execPulseRecord el ch temp s
  | .scSup el ch ma held => Sys2Proof.Machine.execScSup el ch ma held s
  | .scGnd el ch ma => Sys2Proof.Machine.execScGnd el ch ma s
  | .hsgOc el grp ma held => Sys2Proof.Machine.execHsgOc el grp ma held s
  | .openLoad el ch ma => Sys2Proof.Machine.execOpenLoad el ch ma s
  | .mismatch el grp ma held => Sys2Proof.Machine.execMismatch el grp ma held s
  | .idcOffTest el ch a b ofs => Sys2Proof.Machine.execIdcOffTest el ch a b ofs s
  | .idcFltClr el ch => Sys2Proof.Machine.execIdcFltClr el ch s
  | .grpFltClr el grp => Sys2Proof.Machine.execGrpFltClr el grp s
  | .recChSnapshot el grp ch => Sys2Proof.Machine.execRecChSnapshot el grp ch s
  | .holdWindowEnd el out => Sys2Proof.Machine.execHoldWindowEnd el out s
  | .lswSwitchOn el ch => Sys2Proof.Machine.execLswSwitchOn el ch s
  | .lswSwitchOff el ch => Sys2Proof.Machine.execLswSwitchOff el ch s
  | .lswAdmitTimeout el ch => Sys2Proof.Machine.execLswAdmitTimeout el ch s
  | .inrushEnd el ch => Sys2Proof.Machine.execInrushEnd el ch s
  | .bankPeak el bank i0 i1 i2 i3 held => Sys2Proof.Machine.execBankPeak el bank i0 i1 i2 i3 held s
  | .bankOverload el bank i0 i1 i2 i3 held => Sys2Proof.Machine.execBankOverload el bank i0 i1 i2 i3 held s
  | .reverseBlock el ch mv => Sys2Proof.Machine.execReverseBlock el ch mv s
  | .lswOverload el ch ix held => Sys2Proof.Machine.execLswOverload el ch ix held s
  | .thermalShutdown el ch temp => Sys2Proof.Machine.execThermalShutdown el ch temp s
  | .coolRestart el ch temp => Sys2Proof.Machine.execCoolRestart el ch temp s
  | .lswFltClr el ch => Sys2Proof.Machine.execLswFltClr el ch s
  | .lswOpen el ch ix held => Sys2Proof.Machine.execLswOpen el ch ix held s
  | .lswScGnd el ch ix mv held => Sys2Proof.Machine.execLswScGnd el ch ix mv held s
  | .lswOffTest el ch mv => Sys2Proof.Machine.execLswOffTest el ch mv s
  | .snuffTableWrite el ix w => Sys2Proof.Machine.execSnuffTableWrite el ix w s
  | .snuffStore el => Sys2Proof.Machine.execSnuffStore el s
  | .safeNAssert el => Sys2Proof.Machine.execSafeNAssert el s
  | .safeNAutoRelease el => Sys2Proof.Machine.execSafeNAutoRelease el s
  | .safeClr el => Sys2Proof.Machine.execSafeClr el s
  | .wdgEn el en => Sys2Proof.Machine.execWdgEn el en s
  | .response el v => Sys2Proof.Machine.execResponse el v s
  | .watchdogExpired el => Sys2Proof.Machine.execWatchdogExpired el s
  | .pwmUpdatePoint el out => Sys2Proof.Machine.execPwmUpdatePoint el out s
  | .outEn el mask => Sys2Proof.Machine.execOutEn el mask s
  | .tripAssert el inp held => Sys2Proof.Machine.execTripAssert el inp held s
  | .tripBlankEnd el inp => Sys2Proof.Machine.execTripBlankEnd el inp s
  | .tripClr el mask => Sys2Proof.Machine.execTripClr el mask s
  | .fbkEdge el ch pinB a b held => Sys2Proof.Machine.execFbkEdge el ch pinB a b held s
  | .indexPulse el ch held => Sys2Proof.Machine.execIndexPulse el ch held s
  | .posLoad el ch => Sys2Proof.Machine.execPosLoad el ch s
  | .fbkClr el ch => Sys2Proof.Machine.execFbkClr el ch s
  | .ssiTransfer el ch low => Sys2Proof.Machine.execSsiTransfer el ch low s
  | .ssiWord el ch raw high => Sys2Proof.Machine.execSsiWord el ch raw high s
  | .ginChange el ix level held => Sys2Proof.Machine.execGinChange el ix level held s
  | .canFrameRx el ctl f ago => Sys2Proof.Machine.execCanFrameRx el ctl f ago s
  | .rxAck el ctl n => Sys2Proof.Machine.execRxAck el ctl n s
  | .abdStart el ctl => Sys2Proof.Machine.execAbdStart el ctl s
  | .abdTryFrame el ctl err fast => Sys2Proof.Machine.execAbdTryFrame el ctl err fast s
  | .abdTmo el ctl => Sys2Proof.Machine.execAbdTmo el ctl s
  | .txGo el ctl => Sys2Proof.Machine.execTxGo el ctl s
  | .mailboxTxDone el ctl acked => Sys2Proof.Machine.execMailboxTxDone el ctl acked s
  | .busOn el ctl => Sys2Proof.Machine.execBusOn el ctl s
  | .addressClaimTimeout el ctl => Sys2Proof.Machine.execAddressClaimTimeout el ctl s
  | .addressClaimedRx el ctl sa name => Sys2Proof.Machine.execAddressClaimedRx el ctl sa name s
  | .requestForAddressClaimed el ctl => Sys2Proof.Machine.execRequestForAddressClaimed el ctl s
  | .tpRts el ctl sa etp pgn len => Sys2Proof.Machine.execTpRts el ctl sa etp pgn len s
  | .tpBam el ctl sa pgn len => Sys2Proof.Machine.execTpBam el ctl sa pgn len s
  | .tpDataTransfer el ctl sa seq data => Sys2Proof.Machine.execTpDataTransfer el ctl sa seq data s
  | .tpRxAck el ctl => Sys2Proof.Machine.execTpRxAck el ctl s
  | .tpTxGo el ctl => Sys2Proof.Machine.execTpTxGo el ctl s
  | .tpCtsRx el ctl sa kind n next => Sys2Proof.Machine.execTpCtsRx el ctl sa kind n next s
  | .wheelBasedSpeed el ctl sa speed dir => Sys2Proof.Machine.execWheelBasedSpeed el ctl sa speed dir s
  | .groundBasedSpeed el ctl sa speed => Sys2Proof.Machine.execGroundBasedSpeed el ctl sa speed s
  | .gnssPositionData el ctl sa lat lon h method hdop => Sys2Proof.Machine.execGnssPositionData el ctl sa lat lon h method hdop s
  | .cogSogRapidUpdate el ctl sa cog sog => Sys2Proof.Machine.execCogSogRapidUpdate el ctl sa cog sog s
  | .latency el bus node data => Sys2Proof.Machine.execLatency el bus node data s
  | .status el bus node data => Sys2Proof.Machine.execStatus el bus node data s
  | .fault el bus node data => Sys2Proof.Machine.execFault el bus node data s
  | .configAck el bus node data => Sys2Proof.Machine.execConfigAck el bus node data s
  | .enrolReq el bus data => Sys2Proof.Machine.execEnrolReq el bus data s
  | .beaconRx el bus unit => Sys2Proof.Machine.execBeaconRx el bus unit s
  | .nodeLost el bus node => Sys2Proof.Machine.execNodeLost el bus node s
  | .pollGo el bus node => Sys2Proof.Machine.execPollGo el bus node s
  | .newNext el bus => Sys2Proof.Machine.execNewNext el bus s
  | .busSupplyClear el bus => Sys2Proof.Machine.execBusSupplyClear el bus s
  | .busLoad el ctl pct => Sys2Proof.Machine.execBusLoad el ctl pct s
  | .ts el port locked width endCode cols => Sys2Proof.Machine.execTs el port locked width endCode cols s
  | .laneLock el port lane => Sys2Proof.Machine.execLaneLock el port lane s
  | .laneLockLoss el port lane => Sys2Proof.Machine.execLaneLockLoss el port lane s
  | .trainTimeout el port => Sys2Proof.Machine.execTrainTimeout el port s
  | .retrain el port => Sys2Proof.Machine.execRetrain el port s
  | .linkDown el port => Sys2Proof.Machine.execLinkDown el port s
  | .dataPacket el port bytes => Sys2Proof.Machine.execDataPacket el port bytes s
  | .linkPacket el port ack nak c0 c1 c2 c3 c4 => Sys2Proof.Machine.execLinkPacket el port ack nak c0 c1 c2 c3 c4 s
  | .linkKeepalive el port => Sys2Proof.Machine.execLinkKeepalive el port s
  | .linkSilence el port => Sys2Proof.Machine.execLinkSilence el port s
  | .regWr el port tag noinc addr ws => Sys2Proof.Machine.execRegWr el port tag noinc addr ws s
  | .regRd el port tag noinc addr n1 => Sys2Proof.Machine.execRegRd el port tag noinc addr n1 s
  | .timesyncRx el tx echoTx echoRx => Sys2Proof.Machine.execTimesyncRx el tx echoTx echoRx s
  | .hello el h => Sys2Proof.Machine.execHello el h s
  | .helloSend el => Sys2Proof.Machine.execHelloSend el s
  | .pairWaitExpiry el => Sys2Proof.Machine.execPairWaitExpiry el s
  | .beaconListenExpiry el => Sys2Proof.Machine.execBeaconListenExpiry el s
  | .mirrorRx el m => Sys2Proof.Machine.execMirrorRx el m s
  | .mirrorStale el => Sys2Proof.Machine.execMirrorStale el s
  | .heartbeatEdge el held => Sys2Proof.Machine.execHeartbeatEdge el held s
  | .roleSwap el byPartner => Sys2Proof.Machine.execRoleSwap el byPartner s
  | .returnHoldExpiry el byPartner => Sys2Proof.Machine.execReturnHoldExpiry el byPartner s
  | .wr el quad addr ws crc => Sys2Proof.Machine.execWr el quad addr ws crc s
  | .rd el quad addr len crc => Sys2Proof.Machine.execRd el quad addr len crc s
  | .wrNoinc el quad addr ws crc => Sys2Proof.Machine.execWrNoinc el quad addr ws crc s
  | .rdNoinc el quad addr len crc => Sys2Proof.Machine.execRdNoinc el quad addr len crc s
  | .hspiAbort el => Sys2Proof.Machine.execHspiAbort el s
  | .key el a v => Sys2Proof.Machine.execKey el a v s
  | .lockTimeout el a => Sys2Proof.Machine.execLockTimeout el a s
  | .softRst el a => Sys2Proof.Machine.execSoftRst el a s
  | .freeze el a on_ => Sys2Proof.Machine.execFreeze el a on_ s
  | .updHold el a on_ => Sys2Proof.Machine.execUpdHold el a on_ s
  | .discard el a => Sys2Proof.Machine.execDiscard el a s
  | .rateLimitEnd el e => Sys2Proof.Machine.execRateLimitEnd el e s
  | .pendClear el a mask => Sys2Proof.Machine.execPendClear el a mask s
  | .start el n => Sys2Proof.Machine.execStart el n s
  | .dataIn el n w => Sys2Proof.Machine.execDataIn el n w s
  | .stateWrite el n lo => Sys2Proof.Machine.execStateWrite el n lo s
  | .dmaGo el n => Sys2Proof.Machine.execDmaGo el n s
  | .dmaAbort el n => Sys2Proof.Machine.execDmaAbort el n s
  | .dmaDone el n => Sys2Proof.Machine.execDmaDone el n s
  | .vbatStart el mv held => Sys2Proof.Machine.execVbatStart el mv held s
  | .powerOnReset el mv held => Sys2Proof.Machine.execPowerOnReset el mv held s
  | .kindle el vbat va vb vc vd => Sys2Proof.Machine.execKindle el vbat va vb vc vd s
  | .hostWaitExpiry el => Sys2Proof.Machine.execHostWaitExpiry el s
  | .modeReq el m => Sys2Proof.Machine.execModeReq el m s
  | .dimEntry el mv held => Sys2Proof.Machine.execDimEntry el mv held s
  | .dimEnd el mv low held => Sys2Proof.Machine.execDimEnd el mv low held s
  | .dimMax el => Sys2Proof.Machine.execDimMax el s
  | .episodeUpdate el mv => Sys2Proof.Machine.execEpisodeUpdate el mv s
  | .bankSuspend el bank mv held => Sys2Proof.Machine.execBankSuspend el bank mv held s
  | .bankResume el bank mv held => Sys2Proof.Machine.execBankResume el bank mv held s
  | .vbatOvervoltage el mv held => Sys2Proof.Machine.execVbatOvervoltage el mv held s
  | .sns5vFault el ma held => Sys2Proof.Machine.execSns5vFault el ma held s
  | .sns5vRetry el ma held => Sys2Proof.Machine.execSns5vRetry el ma held s
  | .snuffReq el => Sys2Proof.Machine.execSnuffReq el s
  | .snuffClr el => Sys2Proof.Machine.execSnuffClr el s
  | .otWarn el t => Sys2Proof.Machine.execOtWarn el t s
  | .overtemp el t => Sys2Proof.Machine.execOvertemp el t s
  | .resetNFall el held => Sys2Proof.Machine.execResetNFall el held s
  | .resetNLong el => Sys2Proof.Machine.execResetNLong el s
  | .resetNRise el => Sys2Proof.Machine.execResetNRise el s
  | .systemReset el => Sys2Proof.Machine.execSystemReset el s
  | .logicDieReset el => Sys2Proof.Machine.execLogicDieReset el s
  | .relight el checks readback => Sys2Proof.Machine.execRelight el checks readback s
  | .emberReq el => Sys2Proof.Machine.execEmberReq el s
  | .ignitionOff el => Sys2Proof.Machine.execIgnitionOff el s
  | .emberEntry el => Sys2Proof.Machine.execEmberEntry el s
  | .emberWake el src => Sys2Proof.Machine.execEmberWake el src s
  | .cfgStore el => Sys2Proof.Machine.execCfgStore el s
  | .cfgErase el => Sys2Proof.Machine.execCfgErase el s
  | .fwPush el => Sys2Proof.Machine.execFwPush el s
  | .fwActivate el => Sys2Proof.Machine.execFwActivate el s
  | .fwConfirm el => Sys2Proof.Machine.execFwConfirm el s
  | .fwTrialExpiry el => Sys2Proof.Machine.execFwTrialExpiry el s
  | .tokenRefill el bucket => Sys2Proof.Machine.execTokenRefill el bucket s
  | .triggerSetChange el set entry v => Sys2Proof.Machine.execTriggerSetChange el set entry v s
  | .rdOfs el ofs => Sys2Proof.Machine.execRdOfs el ofs s
  | .rdStream el => Sys2Proof.Machine.execRdStream el s
  | .logClr el path => Sys2Proof.Machine.execLogClr el path s
  | .recTrig el => Sys2Proof.Machine.execRecTrig el s
  | .countedWrite el path idx v => Sys2Proof.Machine.execCountedWrite el path idx v s
  | .countedChangeDone el => Sys2Proof.Machine.execCountedChangeDone el s
  | .histN el n => Sys2Proof.Machine.execHistN el n s
  | .tGo el => Sys2Proof.Machine.execTGo el s
  | .testStart el slot => Sys2Proof.Machine.execTestStart el slot s
  | .testWaitMax el slot => Sys2Proof.Machine.execTestWaitMax el slot s
  | .testDone el slot pass detail => Sys2Proof.Machine.execTestDone el slot pass detail s
  | .autoPer el fails => Sys2Proof.Machine.execAutoPer el fails s
  | .logicDieBelowOtWarn el t => Sys2Proof.Machine.execLogicDieBelowOtWarn el t s
  | .antOk el ma => Sys2Proof.Machine.execAntOk el ma s
  | .carrierPhaseLock el ch => Sys2Proof.Machine.execCarrierPhaseLock el ch s
  | .nextWholeGpsSecond el => Sys2Proof.Machine.execNextWholeGpsSecond el s
  | .minOnEnd el ch => Sys2Proof.Machine.execMinOnEnd el ch s
  | .endDecayDone el ch => Sys2Proof.Machine.execEndDecayDone el ch s
  | .safeNRise el => Sys2Proof.Machine.execSafeNRise el s
  | .tripDeassert el inp held => Sys2Proof.Machine.execTripDeassert el inp held s
  | .busError el ctl tec rec => Sys2Proof.Machine.execBusError el ctl tec rec s
  | .shadeEnd el bus => Sys2Proof.Machine.execShadeEnd el bus s
  | .abdMeasureDone el ctl ns => Sys2Proof.Machine.execAbdMeasureDone el ctl ns s
  | .laneLockWaitExpiry el port => Sys2Proof.Machine.execLaneLockWaitExpiry el port s
  | .tilePut el m => Sys2Proof.Machine.execTilePut el m s
  | .tileRequestRx el m => Sys2Proof.Machine.execTileRequestRx el m s
  | .emberFlushMaxExpiry el => Sys2Proof.Machine.execEmberFlushMaxExpiry el s
  | .fwPushDone el => Sys2Proof.Machine.execFwPushDone el s
  | .fwVerifyDone el => Sys2Proof.Machine.execFwVerifyDone el s
  | .streamEnd el => Sys2Proof.Machine.execStreamEnd el s
  | .cmdErrFrame el cmd => Sys2Proof.Machine.execCmdErrFrame el cmd s

end Sys2Proof.Machine
end

