-- ==== Sys2Proof/WellFormed.lean ====
section
/-! DEFINITION. Well-formed commands: what an operand's type does not say of its length or range. -/

namespace Sys2Proof

/-- Whether a command is well formed: list lengths and ranges of its operands. -/
def Instr.wf : Instr → Bool
  | .tick _ _ _ _ _ _ => true
  | .tickOverrun _ _ _ _ _ => true
  | .lockstepMismatch _ _ => true
  | .eccCorrected _ _ => true
  | .eccUncorrectable _ _ _ => true
  | .loHiLatchRead _ _ => true
  | .clrMax _ => true
  | .registerWrite _ _ _ _ => true
  | .segmentSensorStale _ _ => true
  | .ptIdxSnapshot _ _ => true
  | .fieldOpen _ => true
  | .fieldClose _ => true
  | .fieldAbandon _ => true
  | .flushDone _ => true
  | .confTimeout _ _ => true
  | .tileWriteback _ _ => true
  | .tilePin _ => true
  | .tileUnpin _ => true
  | .tileUnpinAll _ => true
  | .reqTimeout _ _ => true
  | .storeProbe _ => true
  | .provisionalRerequest _ _ => true
  | .tileData _ _ => true
  | .tileAbsent _ _ => true
  | .tileAck _ _ => true
  | .tileNak _ _ => true
  | .boundaryUpdate _ _ => true
  | .heldSpanTimeout _ _ => true
  | .covPeek _ _ _ => true
  | .slotSnapshot _ _ => true
  | .holdExpired _ _ => true
  | .latencyStore _ => true
  | .decSnapshot _ _ => true
  | .loopUpdate _ _ => true
  | .fbLoss _ _ => true
  | .rateDeviation _ _ => true
  | .dutyRefresh _ _ _ => true
  | .rateSnapshot _ _ => true
  | .sspDrdy _ _ => true
  | .sspPeriodicStart _ _ => true
  | .sspSample _ _ rx => decide (rx.length ≤ 32)
  | .sspStale _ _ => true
  | .imuReturn _ => true
  | .historyQuery _ _ => true
  | .poseReset _ => true
  | .imuPrimary _ => true
  | .antOpen _ _ => true
  | .antShort _ => true
  | .antRetry _ => true
  | .signalDetection _ _ => true
  | .channelTimeout _ _ => true
  | .phaseLoss _ _ _ => true
  | .measurementEpoch _ e => e.obs.all (fun x => decide (x.ch < 128))
  | .navUnit _ _ u => decide (u.bits.length ≤ 256)
  | .rawIdxSnapshot _ _ => true
  | .rtcmPush _ _ => true
  | .rtcmFrame _ => true
  | .correctionEpochClose _ => true
  | .corrAge _ => true
  | .emberBurst _ obs _ => obs.all (fun x => decide (x.ch < 128))
  | .ephemerisBurst _ _ _ _ _ => true
  | .mapReanchor _ => true
  | .mapSnap _ => true
  | .holdover _ => true
  | .freerun _ => true
  | .timeReturn _ => true
  | .leapSecond _ => true
  | .tpoPulse _ => true
  | .featureTile _ hdr cells => decide (hdr.length = 64) && cells.all (fun x => decide (x.2.length = 32))
  | .cameraTrigger _ => true
  | .netLoad _ => true
  | .winClear _ => true
  | .healthWindow _ => true
  | .auditReq _ => true
  | .srcRetry _ _ => true
  | .calReset _ _ => true
  | .calStore _ => true
  | .pairSnapshot _ _ _ => true
  | .gridPeek _ _ => true
  | .pulseStart _ _ => true
  | .pulseEnd _ _ => true
  | .staggerMaxExpiry _ _ => true
  | .minOffEnd _ _ => true
  | .phaseEnd _ _ _ _ => true
  | .pulseRecord _ _ _ => true
  | .scSup _ _ _ _ => true
  | .scGnd _ _ _ => true
  | .hsgOc _ _ _ _ => true
  | .openLoad _ _ _ => true
  | .mismatch _ _ _ _ => true
  | .idcOffTest _ _ _ _ _ => true
  | .idcFltClr _ _ => true
  | .grpFltClr _ _ => true
  | .recChSnapshot _ _ _ => true
  | .holdWindowEnd _ _ => true
  | .lswSwitchOn _ _ => true
  | .lswSwitchOff _ _ => true
  | .lswAdmitTimeout _ _ => true
  | .inrushEnd _ _ => true
  | .bankPeak _ _ _ _ _ _ _ => true
  | .bankOverload _ _ _ _ _ _ _ => true
  | .reverseBlock _ _ _ => true
  | .lswOverload _ _ _ _ => true
  | .thermalShutdown _ _ _ => true
  | .coolRestart _ _ _ => true
  | .lswFltClr _ _ => true
  | .lswOpen _ _ _ _ => true
  | .lswScGnd _ _ _ _ _ => true
  | .lswOffTest _ _ _ => true
  | .snuffTableWrite _ _ _ => true
  | .snuffStore _ => true
  | .safeNAssert _ => true
  | .safeNAutoRelease _ => true
  | .safeClr _ => true
  | .wdgEn _ _ => true
  | .response _ _ => true
  | .watchdogExpired _ => true
  | .pwmUpdatePoint _ _ => true
  | .outEn _ _ => true
  | .tripAssert _ _ _ => true
  | .tripBlankEnd _ _ => true
  | .tripClr _ _ => true
  | .fbkEdge _ _ _ _ _ _ => true
  | .indexPulse _ _ _ => true
  | .posLoad _ _ => true
  | .fbkClr _ _ => true
  | .ssiTransfer _ _ _ => true
  | .ssiWord _ _ _ _ => true
  | .ginChange _ _ _ _ => true
  | .canFrameRx _ _ _ _ => true
  | .rxAck _ _ _ => true
  | .abdStart _ _ => true
  | .abdTryFrame _ _ _ _ => true
  | .abdTmo _ _ => true
  | .txGo _ _ => true
  | .mailboxTxDone _ _ _ => true
  | .busOn _ _ => true
  | .addressClaimTimeout _ _ => true
  | .addressClaimedRx _ _ _ _ => true
  | .requestForAddressClaimed _ _ => true
  | .tpRts _ _ _ _ _ _ => true
  | .tpBam _ _ _ _ _ => true
  | .tpDataTransfer _ _ _ _ data => decide (data.length = 7)
  | .tpRxAck _ _ => true
  | .tpTxGo _ _ => true
  | .tpCtsRx _ _ _ _ _ _ => true
  | .wheelBasedSpeed _ _ _ _ _ => true
  | .groundBasedSpeed _ _ _ _ => true
  | .gnssPositionData _ _ _ _ _ _ _ _ => true
  | .cogSogRapidUpdate _ _ _ _ _ => true
  | .latency _ _ _ data => decide (data.length ≤ 64)
  | .status _ _ _ data => decide (data.length ≤ 64)
  | .fault _ _ _ data => decide (data.length ≤ 64)
  | .configAck _ _ _ data => decide (data.length ≤ 64)
  | .enrolReq _ _ data => decide (data.length ≤ 64)
  | .beaconRx _ _ _ => true
  | .nodeLost _ _ _ => true
  | .pollGo _ _ _ => true
  | .newNext _ _ => true
  | .busSupplyClear _ _ => true
  | .busLoad _ _ _ => true
  | .ts _ _ _ _ _ _ => true
  | .laneLock _ _ _ => true
  | .laneLockLoss _ _ _ => true
  | .trainTimeout _ _ => true
  | .retrain _ _ => true
  | .linkDown _ _ => true
  | .dataPacket _ _ _ => true
  | .linkPacket _ _ _ _ _ _ _ _ _ => true
  | .linkKeepalive _ _ => true
  | .linkSilence _ _ => true
  | .regWr _ _ _ _ _ ws => decide (1 ≤ ws.length ∧ ws.length ≤ 64)
  | .regRd _ _ _ _ _ _ => true
  | .timesyncRx _ _ _ _ => true
  | .hello _ _ => true
  | .helloSend _ => true
  | .pairWaitExpiry _ => true
  | .beaconListenExpiry _ => true
  | .mirrorRx _ _ => true
  | .mirrorStale _ => true
  | .heartbeatEdge _ _ => true
  | .roleSwap _ _ => true
  | .returnHoldExpiry _ _ => true
  | .wr _ _ _ ws _ => decide (1 ≤ ws.length ∧ ws.length ≤ 256)
  | .rd _ _ _ _ _ => true
  | .wrNoinc _ _ _ ws _ => decide (1 ≤ ws.length ∧ ws.length ≤ 256)
  | .rdNoinc _ _ _ _ _ => true
  | .hspiAbort _ => true
  | .key _ _ _ => true
  | .lockTimeout _ _ => true
  | .softRst _ _ => true
  | .freeze _ _ _ => true
  | .updHold _ _ _ => true
  | .discard _ _ => true
  | .rateLimitEnd _ _ => true
  | .pendClear _ _ _ => true
  | .start _ _ => true
  | .dataIn _ _ _ => true
  | .stateWrite _ _ _ => true
  | .dmaGo _ _ => true
  | .dmaAbort _ _ => true
  | .dmaDone _ _ => true
  | .vbatStart _ _ _ => true
  | .powerOnReset _ _ _ => true
  | .kindle _ _ _ _ _ _ => true
  | .hostWaitExpiry _ => true
  | .modeReq _ _ => true
  | .dimEntry _ _ _ => true
  | .dimEnd _ _ _ _ => true
  | .dimMax _ => true
  | .episodeUpdate _ _ => true
  | .bankSuspend _ _ _ _ => true
  | .bankResume _ _ _ _ => true
  | .vbatOvervoltage _ _ _ => true
  | .sns5vFault _ _ _ => true
  | .sns5vRetry _ _ _ => true
  | .snuffReq _ => true
  | .snuffClr _ => true
  | .otWarn _ _ => true
  | .overtemp _ _ => true
  | .resetNFall _ _ => true
  | .resetNLong _ => true
  | .resetNRise _ => true
  | .systemReset _ => true
  | .logicDieReset _ => true
  | .relight _ _ _ => true
  | .emberReq _ => true
  | .ignitionOff _ => true
  | .emberEntry _ => true
  | .emberWake _ _ => true
  | .cfgStore _ => true
  | .cfgErase _ => true
  | .fwPush _ => true
  | .fwActivate _ => true
  | .fwConfirm _ => true
  | .fwTrialExpiry _ => true
  | .tokenRefill _ _ => true
  | .triggerSetChange _ _ _ _ => true
  | .rdOfs _ _ => true
  | .rdStream _ => true
  | .logClr _ _ => true
  | .recTrig _ => true
  | .countedWrite _ _ _ _ => true
  | .countedChangeDone _ => true
  | .histN _ _ => true
  | .tGo _ => true
  | .testStart _ _ => true
  | .testWaitMax _ _ => true
  | .testDone _ _ _ _ => true
  | .autoPer _ _ => true
  | .logicDieBelowOtWarn _ _ => true
  | .antOk _ _ => true
  | .carrierPhaseLock _ _ => true
  | .nextWholeGpsSecond _ => true
  | .minOnEnd _ _ => true
  | .endDecayDone _ _ => true
  | .safeNRise _ => true
  | .tripDeassert _ _ _ => true
  | .busError _ _ _ _ => true
  | .shadeEnd _ _ => true
  | .abdMeasureDone _ _ _ => true
  | .laneLockWaitExpiry _ _ => true
  | .tilePut _ _ => true
  | .tileRequestRx _ _ => true
  | .emberFlushMaxExpiry _ => true
  | .fwPushDone _ => true
  | .fwVerifyDone _ => true
  | .streamEnd _ => true
  | .cmdErrFrame _ _ => true

end Sys2Proof
end

