-- ==== Sys2Proof/Safety.lean ====
section
/-! DEFINITION. What counts as a safe run, in the terms the statements use: a command answers a next state at which
something holds of the block; what of the block a command leaves as it was. -/

namespace Sys2Proof

/-- The fabric cycles that pass between the command before and this one (R33). -/
def Instr.elapsed : Instr → Nat
  | .tick el _ _ _ _ _ => el
  | .tickOverrun el _ _ _ _ => el
  | .lockstepMismatch el _ => el
  | .eccCorrected el _ => el
  | .eccUncorrectable el _ _ => el
  | .loHiLatchRead el _ => el
  | .clrMax el => el
  | .registerWrite el _ _ _ => el
  | .segmentSensorStale el _ => el
  | .ptIdxSnapshot el _ => el
  | .fieldOpen el => el
  | .fieldClose el => el
  | .fieldAbandon el => el
  | .flushDone el => el
  | .confTimeout el _ => el
  | .tileWriteback el _ => el
  | .tilePin el => el
  | .tileUnpin el => el
  | .tileUnpinAll el => el
  | .reqTimeout el _ => el
  | .storeProbe el => el
  | .provisionalRerequest el _ => el
  | .tileData el _ => el
  | .tileAbsent el _ => el
  | .tileAck el _ => el
  | .tileNak el _ => el
  | .boundaryUpdate el _ => el
  | .heldSpanTimeout el _ => el
  | .covPeek el _ _ => el
  | .slotSnapshot el _ => el
  | .holdExpired el _ => el
  | .latencyStore el => el
  | .decSnapshot el _ => el
  | .loopUpdate el _ => el
  | .fbLoss el _ => el
  | .rateDeviation el _ => el
  | .dutyRefresh el _ _ => el
  | .rateSnapshot el _ => el
  | .sspDrdy el _ => el
  | .sspPeriodicStart el _ => el
  | .sspSample el _ _ => el
  | .sspStale el _ => el
  | .imuReturn el => el
  | .historyQuery el _ => el
  | .poseReset el => el
  | .imuPrimary el => el
  | .antOpen el _ => el
  | .antShort el => el
  | .antRetry el => el
  | .signalDetection el _ => el
  | .channelTimeout el _ => el
  | .phaseLoss el _ _ => el
  | .measurementEpoch el _ => el
  | .navUnit el _ _ => el
  | .rawIdxSnapshot el _ => el
  | .rtcmPush el _ => el
  | .rtcmFrame el => el
  | .correctionEpochClose el => el
  | .corrAge el => el
  | .emberBurst el _ _ => el
  | .ephemerisBurst el _ _ _ _ => el
  | .mapReanchor el => el
  | .mapSnap el => el
  | .holdover el => el
  | .freerun el => el
  | .timeReturn el => el
  | .leapSecond el => el
  | .tpoPulse el => el
  | .featureTile el _ _ => el
  | .cameraTrigger el => el
  | .netLoad el => el
  | .winClear el => el
  | .healthWindow el => el
  | .auditReq el => el
  | .srcRetry el _ => el
  | .calReset el _ => el
  | .calStore el => el
  | .pairSnapshot el _ _ => el
  | .gridPeek el _ => el
  | .pulseStart el _ => el
  | .pulseEnd el _ => el
  | .staggerMaxExpiry el _ => el
  | .minOffEnd el _ => el
  | .phaseEnd el _ _ _ => el
  | .pulseRecord el _ _ => el
  | .scSup el _ _ _ => el
  | .scGnd el _ _ => el
  | .hsgOc el _ _ _ => el
  | .openLoad el _ _ => el
  | .mismatch el _ _ _ => el
  | .idcOffTest el _ _ _ _ => el
  | .idcFltClr el _ => el
  | .grpFltClr el _ => el
  | .recChSnapshot el _ _ => el
  | .holdWindowEnd el _ => el
  | .lswSwitchOn el _ => el
  | .lswSwitchOff el _ => el
  | .lswAdmitTimeout el _ => el
  | .inrushEnd el _ => el
  | .bankPeak el _ _ _ _ _ _ => el
  | .bankOverload el _ _ _ _ _ _ => el
  | .reverseBlock el _ _ => el
  | .lswOverload el _ _ _ => el
  | .thermalShutdown el _ _ => el
  | .coolRestart el _ _ => el
  | .lswFltClr el _ => el
  | .lswOpen el _ _ _ => el
  | .lswScGnd el _ _ _ _ => el
  | .lswOffTest el _ _ => el
  | .snuffTableWrite el _ _ => el
  | .snuffStore el => el
  | .safeNAssert el => el
  | .safeNAutoRelease el => el
  | .safeClr el => el
  | .wdgEn el _ => el
  | .response el _ => el
  | .watchdogExpired el => el
  | .pwmUpdatePoint el _ => el
  | .outEn el _ => el
  | .tripAssert el _ _ => el
  | .tripBlankEnd el _ => el
  | .tripClr el _ => el
  | .fbkEdge el _ _ _ _ _ => el
  | .indexPulse el _ _ => el
  | .posLoad el _ => el
  | .fbkClr el _ => el
  | .ssiTransfer el _ _ => el
  | .ssiWord el _ _ _ => el
  | .ginChange el _ _ _ => el
  | .canFrameRx el _ _ _ => el
  | .rxAck el _ _ => el
  | .abdStart el _ => el
  | .abdTryFrame el _ _ _ => el
  | .abdTmo el _ => el
  | .txGo el _ => el
  | .mailboxTxDone el _ _ => el
  | .busOn el _ => el
  | .addressClaimTimeout el _ => el
  | .addressClaimedRx el _ _ _ => el
  | .requestForAddressClaimed el _ => el
  | .tpRts el _ _ _ _ _ => el
  | .tpBam el _ _ _ _ => el
  | .tpDataTransfer el _ _ _ _ => el
  | .tpRxAck el _ => el
  | .tpTxGo el _ => el
  | .tpCtsRx el _ _ _ _ _ => el
  | .wheelBasedSpeed el _ _ _ _ => el
  | .groundBasedSpeed el _ _ _ => el
  | .gnssPositionData el _ _ _ _ _ _ _ => el
  | .cogSogRapidUpdate el _ _ _ _ => el
  | .latency el _ _ _ => el
  | .status el _ _ _ => el
  | .fault el _ _ _ => el
  | .configAck el _ _ _ => el
  | .enrolReq el _ _ => el
  | .beaconRx el _ _ => el
  | .nodeLost el _ _ => el
  | .pollGo el _ _ => el
  | .newNext el _ => el
  | .busSupplyClear el _ => el
  | .busLoad el _ _ => el
  | .ts el _ _ _ _ _ => el
  | .laneLock el _ _ => el
  | .laneLockLoss el _ _ => el
  | .trainTimeout el _ => el
  | .retrain el _ => el
  | .linkDown el _ => el
  | .dataPacket el _ _ => el
  | .linkPacket el _ _ _ _ _ _ _ _ => el
  | .linkKeepalive el _ => el
  | .linkSilence el _ => el
  | .regWr el _ _ _ _ _ => el
  | .regRd el _ _ _ _ _ => el
  | .timesyncRx el _ _ _ => el
  | .hello el _ => el
  | .helloSend el => el
  | .pairWaitExpiry el => el
  | .beaconListenExpiry el => el
  | .mirrorRx el _ => el
  | .mirrorStale el => el
  | .heartbeatEdge el _ => el
  | .roleSwap el _ => el
  | .returnHoldExpiry el _ => el
  | .wr el _ _ _ _ => el
  | .rd el _ _ _ _ => el
  | .wrNoinc el _ _ _ _ => el
  | .rdNoinc el _ _ _ _ => el
  | .hspiAbort el => el
  | .key el _ _ => el
  | .lockTimeout el _ => el
  | .softRst el _ => el
  | .freeze el _ _ => el
  | .updHold el _ _ => el
  | .discard el _ => el
  | .rateLimitEnd el _ => el
  | .pendClear el _ _ => el
  | .start el _ => el
  | .dataIn el _ _ => el
  | .stateWrite el _ _ => el
  | .dmaGo el _ => el
  | .dmaAbort el _ => el
  | .dmaDone el _ => el
  | .vbatStart el _ _ => el
  | .powerOnReset el _ _ => el
  | .kindle el _ _ _ _ _ => el
  | .hostWaitExpiry el => el
  | .modeReq el _ => el
  | .dimEntry el _ _ => el
  | .dimEnd el _ _ _ => el
  | .dimMax el => el
  | .episodeUpdate el _ => el
  | .bankSuspend el _ _ _ => el
  | .bankResume el _ _ _ => el
  | .vbatOvervoltage el _ _ => el
  | .sns5vFault el _ _ => el
  | .sns5vRetry el _ _ => el
  | .snuffReq el => el
  | .snuffClr el => el
  | .otWarn el _ => el
  | .overtemp el _ => el
  | .resetNFall el _ => el
  | .resetNLong el => el
  | .resetNRise el => el
  | .systemReset el => el
  | .logicDieReset el => el
  | .relight el _ _ => el
  | .emberReq el => el
  | .ignitionOff el => el
  | .emberEntry el => el
  | .emberWake el _ => el
  | .cfgStore el => el
  | .cfgErase el => el
  | .fwPush el => el
  | .fwActivate el => el
  | .fwConfirm el => el
  | .fwTrialExpiry el => el
  | .tokenRefill el _ => el
  | .triggerSetChange el _ _ _ => el
  | .rdOfs el _ => el
  | .rdStream el => el
  | .logClr el _ => el
  | .recTrig el => el
  | .countedWrite el _ _ _ => el
  | .countedChangeDone el => el
  | .histN el _ => el
  | .tGo el => el
  | .testStart el _ => el
  | .testWaitMax el _ => el
  | .testDone el _ _ _ => el
  | .autoPer el _ => el
  | .logicDieBelowOtWarn el _ => el
  | .antOk el _ => el
  | .carrierPhaseLock el _ => el
  | .nextWholeGpsSecond el => el
  | .minOnEnd el _ => el
  | .endDecayDone el _ => el
  | .safeNRise el => el
  | .tripDeassert el _ _ => el
  | .busError el _ _ _ => el
  | .shadeEnd el _ => el
  | .abdMeasureDone el _ _ => el
  | .laneLockWaitExpiry el _ => el
  | .tilePut el _ => el
  | .tileRequestRx el _ => el
  | .emberFlushMaxExpiry el => el
  | .fwPushDone el => el
  | .fwVerifyDone el => el
  | .streamEnd el => el
  | .cmdErrFrame el _ => el

namespace Machine

/-- The block at the instant at which a command `el` cycles later acts: the latch of T0 is taken where an edge has passed. -/
def State.atCmd (s : State) (el : Nat) : Dev := s.dev.captureT0 (s.now el)

/-- The command answers a next state: DT stands at the command's instant `now`, the queue is as it was, and `D` holds of `now`,
of the block `d` as the command finds it, and of the block `e` it leaves. -/
def Answers (i : Instr) (s : State) (D : Nat → Dev → Dev → Prop) : Prop :=
  ∃ t, exec i s = .next t ∧ t.dt = s.now i.elapsed ∧ t.pending = s.pending ∧ D t.dt (s.atCmd i.elapsed) t.dev

/-- Whether a command takes the block to OFF by a power-on reset (R503): VBAT below 4.2 V for 20 µs. -/
def powersOff (c : Instr) : Prop := ∃ el mv held, c = .powerOnReset el mv held ∧ mv.toNat < 4200 ∧ us 20 ≤ held

/-- The value of a counter that has counted once more: counters stay at their greatest value. -/
def counted (d : Dev) (f : Field) : Nat := min (2 ^ f.width - 1) (d.rd f + 1)

/-- `e` differs from `d` in no more than the registers `fs`. -/
def OnlyRegs (fs : List Field) (d e : Dev) : Prop :=
  e = { d with regs := e.regs } ∧ ∀ g : Field, (∀ f ∈ fs, f.key ≠ g.key) → e.rd g = d.rd g

/-- A register that an event firing or a recorder record may change: the pages EVH and REC, and PG_EVT_RAW and PG_EVT_PEND of
the page headers. -/
def Field.ofEvents (f : Field) : Bool :=
  (decide (0x2000 ≤ f.addr) && decide (f.addr < 0x3000)) || (decide (0x4000 ≤ f.addr) && decide (f.addr < 0x5000)) ||
    ((f.addr % 0x1000 == 0x10 || f.addr % 0x1000 == 0x18) && (decide (f.addr < 0x20000) || decide (0x30000 ≤ f.addr)))

/-- `e` differs from `d` in no more than the registers `fs` and what a firing changes: the event flags, the event handler and
the recorder. -/
def OnlyRegsAndEvents (fs : List Field) (d e : Dev) : Prop :=
  e = { d with regs := e.regs, evh := e.evh, rec_ := e.rec_ } ∧
    ∀ g : Field, g.lo < 32 → g.ofEvents = false → (∀ f ∈ fs, f.key ≠ g.key) → e.rd g = d.rd g

/-- No register outside the address ranges `ps` differs between `d` and `e`, but for what a firing changes. -/
def RegsWithin (ps : List (Nat × Nat)) (d e : Dev) : Prop :=
  ∀ g : Field, g.lo < 32 → g.ofEvents = false → (∀ p ∈ ps, g.addr < p.1 ∨ p.2 ≤ g.addr) → e.rd g = d.rd g

/-- The RAW bit of event `ev` of instance `inst`, in the page header that shows it. -/
def Dev.raised (d : Dev) (ev inst : Nat) : Bool := bitOf (d.rd (HDR.PG_EVT_RAW (evtPage ev inst).1)) (evtPage ev inst).2

/-- Every command that waits is well formed. -/
def State.queueWf (s : State) : Bool := s.pending.all Instr.wf

end Machine

end Sys2Proof
end

