-- ==== Sys2Proof/Certificates/Slice0/Obligations.lean ====
section
/-! DEFINITION. The statements for the provers. -/

open Sys2Proof Sys2Proof.Machine

/-! ### The queue, device time and every command -/

/-- The command at the front of the queue is the one a step runs, on the state with the rest of the queue; a step on an empty
queue leaves the state as it is (log entry 3). -/
def Obligations.StepRunsFrontCommand : Prop :=
  (∀ (c : Instr) (rest : List Instr) (s : State), s.pending = c :: rest → step s = exec c { s with pending := rest }) ∧
  (∀ s : State, s.pending = [] → step s = .next s)

/-- R34: DT is zero after a power-on reset; under every other command it goes on, by the cycles the command carries, in every
state but OFF, and stands in OFF. The queue's rest stands under every command. -/
def Obligations.DtStartsAtPowerOnResetOnly : Prop :=
  (∀ (c : Instr) (s : State), powersOff c → ∃ t, exec c s = .next t ∧ t.dt = 0 ∧ t.pending = s.pending) ∧
  (∀ (c : Instr) (s : State), ¬powersOff c →
    ∃ t, exec c s = .next t ∧ t.pending = s.pending ∧
      t.dt = if s.dev.pwr.st = .off then s.dt else s.dt + c.elapsed)

/-- A run of any length answers a next state: no command stops the block, the commands leave the queue in their order, and
while none of those run is a power-on reset, DT never goes back and gains no more than the cycles they carry.
It rests on the reading or choice of log entry 1. -/
def Obligations.RunTakesQueueInOrder : Prop :=
  ∀ (k : Nat) (s : State), ∃ t, core.run k s = .next t ∧ t.pending = s.pending.drop k ∧
    ((∀ c ∈ s.pending.take k, ¬powersOff c) →
      s.dt ≤ t.dt ∧ t.dt ≤ s.dt + ((s.pending.take k).map Instr.elapsed).sum)

/-- An invariant of every step: the commands that wait are well formed. -/
def Obligations.QueueStaysWellFormed : Prop :=
  ∀ s t : State, s.queueWf = true → step s = .next t → t.queueWf = true

/-- What the spec says of the block right after a power-on reset (R34, R503, Table 15.6): DT zero, KINDLE, no command waiting,
no memory written, and every register at the reset value of its table (R17).
It rests on the reading or choice of log entry 4. -/
def Obligations.ResetState : Prop :=
  State.reset.dt = 0 ∧ State.reset.pending = [] ∧ State.reset.dev.pwr.st = .kindle ∧ State.reset.dev.mem = [] ∧
  Memory.wf State.reset.dev.mem = true ∧ State.reset.queueWf = true ∧
  (∀ f : Field, State.reset.dev.rd f = f.reset)

/-! ### The shared operations over memory and registers -/

/-- Memory windows: storing bytes keeps the canonical form, each byte stored reads back, every byte elsewhere reads as
before. -/
def Obligations.MemoryBytesReadBack : Prop :=
  ∀ (m : List Host.Cell) (a : Nat) (bs : List Nat), Memory.wf m = true →
    Memory.wf (memSetBytes m a bs) = true ∧
    (∀ i (h : i < bs.length), memGet (memSetBytes m a bs) (a + i) = bs[i] % 256) ∧
    (∀ b, b < a ∨ a + bs.length ≤ b → memGet (memSetBytes m a bs) b = memGet m b)

/-- Register file: a field written holds the value narrowed to its width, a counter counts and stays at its greatest value,
every other field holds what it held, and nothing but the register file changes. -/
def Obligations.RegisterFieldsAreIndependent : Prop :=
  ∀ (d : Dev) (f : Field) (v : Nat),
    (d.wr f v).rd f = v % 2 ^ f.width ∧ (d.add f v).rd f = min (2 ^ f.width - 1) (d.rd f + v) ∧
    OnlyRegs [f] d (d.wr f v) ∧ OnlyRegs [f] d (d.add f v)

/-- R474: a firing sets the RAW bit of its event on the page of its instance; it changes only event flags, the event handler
and the recorder. -/
def Obligations.FiringSetsRaw : Prop :=
  ∀ (d : Dev) (now e inst val : Nat), inst < 2 ^ 16 → (evtPage e inst).2 < 32 →
    bitOf ((d.fire now e inst val).rd (HDR.PG_EVT_RAW (evtPage e inst).1)) (evtPage e inst).2 = true ∧
    OnlyRegsAndEvents [] d (d.fire now e inst val)

/-! ### SYS and HIF: the page header, the host's paths, the tick, memory errors -/

/-- R462: the commands of the page lock. 0xA5 within 16 fabric cycles of 0x5A unlocks the page; 0xA5 without it leaves every
page's lock as it was; any other value but 0x5A locks the page; 1,000 ms after it unlocked, a page is locked and its entry is
gone. No other page's lock changes, and nothing but the lock state.
It rests on the readings and choices of log entries 25 and 27. -/
def Obligations.PageLockFollowsKey : Prop :=
  ∀ (s : State) (el : Nat) (a : BitVec 24),
    (∀ v : BitVec 8, Answers (.key el a v) s (fun now d e =>
      (d.hif.inService = true → isPage (pageOf a) = true →
        (v = 0xA5 → (∃ t, tget? d.hif.keyHalf (pageOf a) = some t ∧ now ≤ t + 16) → e.unlocked now (pageOf a) = true) ∧
        (v = 0xA5 → (∀ t, tget? d.hif.keyHalf (pageOf a) = some t → t + 16 < now) → e.hif.unlocked = d.hif.unlocked) ∧
        (v = 0x5A → tget? e.hif.keyHalf (pageOf a) = some now ∧ e.hif.unlocked = d.hif.unlocked) ∧
        (v ≠ 0x5A → v ≠ 0xA5 → e.unlocked now (pageOf a) = false)) ∧
      (∀ b, b ≠ pageOf a → tget? e.hif.unlocked b = tget? d.hif.unlocked b) ∧
      e = { d with hif := { d.hif with keyHalf := e.hif.keyHalf, unlocked := e.hif.unlocked } })) ∧
    Answers (.lockTimeout el a) s (fun now d e =>
      ((∃ t, tget? d.hif.unlocked (pageOf a) = some t ∧ t + ms 1000 ≤ now) → tget? e.hif.unlocked (pageOf a) = none) ∧
      (d.unlocked now (pageOf a) = true → e = d) ∧
      (∀ b, b ≠ pageOf a → tget? e.hif.unlocked b = tget? d.hif.unlocked b) ∧
      e = { d with hif := { d.hif with unlocked := e.hif.unlocked } })

/-- R461, R463: FREEZE keeps the page's RO words as they stand, and clearing it drops them; UPD_HOLD set marks the page,
and cleared it releases every pending value that no other hold covers, with its value.
R460: SOFT_RST works through the words of the page in rising order. A word without RW and RWS fields keeps all its fields;
the one RWS field of a word without RW fields reads as its reset value, which is pending, and no register changes yet. On the DEC page
every RWS field then reads as its reset value while its active value stands, and every RW field is at its reset value.
It rests on the readings and choices of log entries 26 and 32. -/
def Obligations.FreezeHoldAndSoftReset : Prop :=
  (∀ (s : State) (el : Nat) (a : BitVec 24), isPage (pageOf a) = true →
    Answers (.freeze el a true) s (fun now d e => d.hif.inService = true →
      e.rd (HDR.FREEZE (pageOf a)) = 1 ∧
      (tget? d.hif.frozen (pageOf a) = none →
        tget? e.hif.frozen (pageOf a) = some ((d.wrB (HDR.FREEZE (pageOf a)) true).freezePage now (pageOf a))) ∧
      ((tget? d.hif.frozen (pageOf a)).isSome = true → e.hif.frozen = d.hif.frozen) ∧
      e = { d with regs := e.regs, hif := { d.hif with frozen := e.hif.frozen } }) ∧
    Answers (.freeze el a false) s (fun _ d e => d.hif.inService = true →
      e.rd (HDR.FREEZE (pageOf a)) = 0 ∧ tget? e.hif.frozen (pageOf a) = none ∧
      (∀ b, b ≠ pageOf a → tget? e.hif.frozen b = tget? d.hif.frozen b) ∧
      e = { d with regs := e.regs, hif := { d.hif with frozen := e.hif.frozen } }) ∧
    Answers (.updHold el a true) s (fun _ d e => d.hif.inService = true →
      e.rd (HDR.UPD_HOLD (pageOf a)) = 1 ∧ OnlyRegs [HDR.UPD_HOLD (pageOf a)] d e) ∧
    Answers (.updHold el a false) s (fun _ d e => d.hif.inService = true →
      e.rd (HDR.UPD_HOLD (pageOf a)) = 0 ∧ e.pend.map (fun x => (x.1, x.2.val)) = d.pend.map (fun x => (x.1, x.2.val)) ∧
      (∀ x ∈ e.pend, x.2.under = true → e.holdOn (shadowPage (x.1 / 32)) = true))) ∧
  (∀ (s : State) (el : Nat) (a : BitVec 24), isPage (pageOf a) = true →
    Answers (.softRst el a) s (fun now d e => d.hif.inService = true →
      e = (List.range 1024).foldl (fun d k => d.softRstWord now (pageOf a + 4 * k)) d ∧
      (pageOf a = 0x032000 → d.pair.st ≠ .standby →
        (∀ f : Field, fieldOfKey f.key = some f → f.addr / 0x1000 = 0x32 → f.acc = .rws → f ≠ HDR.PG_EN 0x032000 →
          e.rdP f = f.reset ∧ e.rd f = d.rd f) ∧
        (∀ f : Field, fieldOfKey f.key = some f → f.addr / 0x1000 = 0x32 → f.acc = .rw → e.rd f = f.reset))) ∧
    (∀ (d : Dev) (now w : Nat), (∀ f ∈ fieldsAt w, f.acc ≠ .rw ∧ f.acc ≠ .rws) → d.softRstWord now w = d) ∧
    (∀ (d : Dev) (now w : Nat) (f : Field), (∀ g ∈ fieldsAt w, g.acc ≠ .rw) → d.standbyIgnores w = false →
      (fieldsAt w).filter (fun g => g.acc == .rws && !(g = HDR.PG_EN (w / 0x1000 * 0x1000) && !pageHasEn (w / 0x1000 * 0x1000))) = [f] →
      (d.softRstWord now w).rdP f = f.reset ∧ (d.softRstWord now w).regs = d.regs))

/-- R479, R478: clearing PEND bits clears the matching RAW bits of that page and nothing else; at the end of a rate-limit
interval in which a firing was held back, the newest one is delivered; with none held back, the interval ends.
R36, R60: a read of a low word latches the upper half for the read of the high word that follows; CLR_MAX sets PH_MAX of
the five phases to zero and changes nothing else.
It rests on the reading or choice of log entry 43. -/
def Obligations.EventFlagsAndLatches : Prop :=
  (∀ (s : State) (el : Nat),
    (∀ (a : BitVec 24) (mask : BitVec 32), isPage (pageOf a) = true →
      Answers (.pendClear el a mask) s (fun _ d e => d.hif.inService = true →
        (∀ i, i < 32 → bitOf (e.rd (HDR.PG_EVT_PEND (pageOf a))) i =
          (bitOf (d.rd (HDR.PG_EVT_PEND (pageOf a))) i && !bitOf mask.toNat i)) ∧
        (∀ i, i < 32 → bitOf (e.rd (HDR.PG_EVT_RAW (pageOf a))) i =
          (bitOf (d.rd (HDR.PG_EVT_RAW (pageOf a))) i && !bitOf mask.toNat i)) ∧
        OnlyRegs [HDR.PG_EVT_PEND (pageOf a), HDR.PG_EVT_RAW (pageOf a)] d e)) ∧
    (∀ n : BitVec 8, Answers (.rateLimitEnd el n) s (fun now d e => d.alive = true →
      ∀ l : RateLim, tget? d.evh.limits n.toNat = some l → l.until_ ≤ now →
        (∀ g, l.heldBack = some g → e = Dev.deliverN 8 d now l.until_ g ∧
          (g.num = n.toNat → d.on (EVH.KSP_ROUTE n.toNat) = false → d.on (EVH.REC_ROUTE n.toNat) = false →
            e = { d with evh := { d.evh with limits := e.evh.limits } } ∧
            tget? e.evh.limits n.toNat = if d.rd (EVH.RL_MS n.toNat) = 0 then none
              else some { until_ := l.until_ + ms (d.rd (EVH.RL_MS n.toNat)), heldBack := none })) ∧
        (l.heldBack = none → tget? e.evh.limits n.toNat = none ∧ e = { d with evh := { d.evh with limits := e.evh.limits } })))) ∧
  (∀ (s : State) (el : Nat),
    (∀ (a : BitVec 24) (h : Nat), isHi a.toNat = false → hiOf a.toNat = some h → isHi h = true →
      Answers (.loHiLatchRead el a) s (fun now d e => d.hif.inService = true → d.on PWR.BOOT_REC = false →
        (e.hostRead now h).1 = d.readWord now h ∧ e = { d with hif := { d.hif with latch := e.hif.latch } })) ∧
    Answers (.clrMax el) s (fun _ d e => d.hif.inService = true →
      (∀ n, n < 5 → e.rd (SYS.PH_MAX n) = 0) ∧
      OnlyRegs [SYS.PH_MAX 0, SYS.PH_MAX 1, SYS.PH_MAX 2, SYS.PH_MAX 3, SYS.PH_MAX 4] d e))

/-- R19, R20, R454, R456, R462: a word a host writes. An address that is no multiple of four or beyond the space changes
nothing but the count of refused addresses, ERR_ADDR and its event. A word of a memory window holds the bytes written and no
other byte changes. In a word of RWS and RO fields each RWS field gets a pending value, under its holds. A word of RWL fields
of a locked page is refused, counted, and its address noted.
It rests on the reading or choice of log entry 29. -/
def Obligations.HostWordWrite : Prop :=
  ∀ (s : State) (el : Nat) (path : Fin 3) (a : BitVec 24) (w : BitVec 32),
    Answers (.registerWrite el path a w) s (fun now d e => d.hif.inService = true →
      ((∃ x, addrFault [a.toNat] = some x) →
        e.rd HIF.ADDR_ERRS = counted d HIF.ADDR_ERRS ∧ e.rd HIF.ERR_ADDR = a.toNat ∧
        OnlyRegsAndEvents [HIF.ADDR_ERRS, HIF.ERR_ADDR] d e) ∧
      (addrFault [a.toNat] = none → d.on PWR.BOOT_REC = false →
        (isWriteWindow a.toNat = true →
          (∀ i, i < 4 → memGet e.mem (a.toNat + i) = w.toNat / 256 ^ i % 256) ∧
          (∀ b, b < a.toNat ∨ a.toNat + 4 ≤ b → memGet e.mem b = memGet d.mem b) ∧ e = { d with mem := e.mem }) ∧
        (isWriteWindow a.toNat = false → (∀ f ∈ fieldsAt a.toNat, f.acc = .rws ∨ f.acc = .ro) →
          d.standbyIgnores a.toNat = false →
          let fs := (fieldsAt a.toNat).filter (fun f => f.acc == .rws && !(f = HDR.PG_EN (pageOf a) && !pageHasEn (pageOf a)))
          e = { d with pend := e.pend } ∧
          (∀ f ∈ fs, e.rdP f = bitsOf w.toNat f.lo f.width ∧ tget? e.pend f.key =
            some { val := bitsOf w.toNat f.lo f.width, at_ := now, under := d.holdOn (shadowPage f.addr), dead := false }) ∧
          (∀ k, (∀ f ∈ fs, f.key ≠ k) → tget? e.pend k = tget? d.pend k)) ∧
        (isWriteWindow a.toNat = false → fieldsAt a.toNat ≠ [] → (∀ f ∈ fieldsAt a.toNat, f.acc = .rwl) →
          d.unlocked now (pageOf a) = false →
          e.rd HIF.LOCK_REFUSED = counted d HIF.LOCK_REFUSED ∧ e.rd HIF.ERR_ADDR = a.toNat ∧
          OnlyRegs [HIF.LOCK_REFUSED, HIF.ERR_ADDR] d e)))

/-- R464: DISCARD of a page drops every pending value of an RWS field, and of an RWL field (R20), of the page and its regions and
keeps every other; reads of those fields then return the active values; where no other value of the page is pending,
SHADOW_PEND is clear. The active values stand, those that a commit admitted among them, and nothing but the pending values changes.
It rests on the reading or choice of log entry 28. -/
def Obligations.DiscardDropsPending : Prop :=
  ∀ (s : State) (el : Nat) (a : BitVec 24), isPage (pageOf a) = true →
    Answers (.discard el a) s (fun _ d e => d.hif.inService = true →
      e.pend = d.pend.filter (fun x => !(shadowPage (x.1 / 32) == pageOf a && discards x.1)) ∧
      (∀ f : Field, fieldOfKey f.key = some f → (f.acc = .rws ∨ f.acc = .rwl) → shadowPage (f.key / 32) = pageOf a →
        e.rdP f = d.rd f) ∧
      ((∀ x ∈ d.pend, shadowPage (x.1 / 32) = pageOf a → discards x.1 = true) → e.shadowPend (pageOf a) = false) ∧
      (∀ f : Field, shadowPage (f.key / 32) ≠ pageOf a → e.rdP f = d.rdP f) ∧
      (pageOf a ≠ 0x001000 → e = { d with pend := e.pend }) ∧
      (pageOf a = 0x001000 → e.pwr.snuffClr = false ∧ e.pwr.modeReq = 0) ∧
      e = { d with pend := e.pend, pwr := { d.pwr with snuffClr := e.pwr.snuffClr, clrAt := e.pwr.clrAt, modeReq := e.pwr.modeReq, modeAt := e.pwr.modeAt } })

/-- R466 to R473, Tables 14.5 to 14.7: a host-SPI frame that the register space serves. A frame whose CRC fails writes and reads
nothing, is counted and raises its event; one with a word under ALIGN or RANGE has no effect beyond the refused address; a
write frame writes its words in order, a read frame reads its words in order, each frame is counted, and the status byte is
MARK 01 in bits 7:6, EVT_PEND in bit 5 and the frame's own bits below. Words written to the tile window 0x480000 to 0x48FFFF stand
there, each at its address, or the last one where the address does not rise; words read from it are answered as they stand.
It rests on the reading or choice of log entry 30. -/
def Obligations.HostSpiFrames : Prop :=
  ∀ (s : State) (el : Nat) (quad : Bool) (addr : BitVec 24) (ws : List Word) (len : BitVec 8) (crc : BitVec 16),
    (∀ (i : Instr) (inc : Bool),
      (i = .wr el quad addr ws crc ∧ inc = true ∨ i = .wrNoinc el quad addr ws crc ∧ inc = false) →
      Answers i s (fun now d e => d.pwr.st ≠ .off → d.pwr.st ≠ .ember → d.hif.inService = true →
        (quad = true → d.on HIF.QUAD_EN = true) →
        (crc16 (frameBytes (if inc then 1 else 3) quad addr.toNat (ws.length - 1) (natWords ws)) ≠ crc.toNat →
          e.rd HIF.HSPI_CRC_ERR = counted d HIF.HSPI_CRC_ERR ∧ e.hif.rspStatus % 0x20 = 1 ∧
          e = { d with regs := e.regs, evh := e.evh, rec_ := e.rec_, hif := e.hif } ∧ e.hif.latch = d.hif.latch) ∧
        (crc16 (frameBytes (if inc then 1 else 3) quad addr.toNat (ws.length - 1) (natWords ws)) = crc.toNat →
          addrFault (wordAddrs addr.toNat ws.length inc) = none →
          ∃ r : Bool × Dev,
            r = ((d.hostSeen now).wr HIF.LAST_SRC 0).writeWords now 0 ((wordAddrs addr.toNat ws.length inc).zip (natWords ws)) ∧
            e = { r.2.bump HIF.HSPI_FRAMES with hif := e.hif } ∧
            e.hif.rspStatus = 4 * b2n r.1 + 0x20 * b2n (r.2.bump HIF.HSPI_FRAMES).anyPend + 0x40 ∧ e.hif.rspData = []) ∧
        (crc16 (frameBytes (if inc then 1 else 3) quad addr.toNat (ws.length - 1) (natWords ws)) = crc.toNat →
          addr.toNat % 4 = 0 → 0x480000 ≤ addr.toNat → addr.toNat + 4 * (if inc then ws.length else 1) ≤ 0x490000 →
          d.on PWR.BOOT_REC = false → d.pwr.hostWaitTill = none →
          e.rd HIF.HSPI_FRAMES = counted d HIF.HSPI_FRAMES ∧ e.rd HIF.LAST_SRC = 0 ∧ e.rd HIF.HOST_SEEN = 1 ∧
          (inc = true → ∀ (k : Nat) (h : k < ws.length) (j : Nat), j < 4 →
            memGet e.mem (addr.toNat + 4 * k + j) = ws[k].toNat / 256 ^ j % 256) ∧
          (inc = false → ∀ w, ws.getLast? = some w → ∀ j, j < 4 → memGet e.mem (addr.toNat + j) = w.toNat / 256 ^ j % 256) ∧
          (∀ b, b < addr.toNat ∨ addr.toNat + 4 * (if inc then ws.length else 1) ≤ b → memGet e.mem b = memGet d.mem b)))) ∧
    (∀ (i : Instr) (inc : Bool),
      (i = .rd el quad addr len crc ∧ inc = true ∨ i = .rdNoinc el quad addr len crc ∧ inc = false) →
      Answers i s (fun now d e => d.pwr.st ≠ .off → d.pwr.st ≠ .ember → d.hif.inService = true →
        (quad = true → d.on HIF.QUAD_EN = true) →
        (crc16 (frameBytes (if inc then 2 else 4) quad addr.toNat len.toNat []) ≠ crc.toNat →
          e.rd HIF.HSPI_CRC_ERR = counted d HIF.HSPI_CRC_ERR ∧ e.hif.rspStatus % 0x20 = 1 ∧
          e.hif.rspData = List.replicate (len.toNat + 1) 0 ∧
          e = { d with regs := e.regs, evh := e.evh, rec_ := e.rec_, hif := e.hif } ∧ e.hif.latch = d.hif.latch) ∧
        (crc16 (frameBytes (if inc then 2 else 4) quad addr.toNat len.toNat []) = crc.toNat →
          addrFault (wordAddrs addr.toNat (len.toNat + 1) inc) = none →
          ∃ r : List Nat × Dev,
            r = ((d.hostSeen now).wr HIF.LAST_SRC 0).readWords now (wordAddrs addr.toNat (len.toNat + 1) inc) ∧
            e = { r.2.bump HIF.HSPI_FRAMES with hif := e.hif } ∧
            e.hif.rspStatus = 0x20 * b2n (r.2.bump HIF.HSPI_FRAMES).anyPend + 0x40 ∧ e.hif.rspData = r.1) ∧
        (crc16 (frameBytes (if inc then 2 else 4) quad addr.toNat len.toNat []) = crc.toNat →
          addr.toNat % 4 = 0 → 0x480000 ≤ addr.toNat → addr.toNat + 4 * (if inc then len.toNat + 1 else 1) ≤ 0x490000 →
          d.on PWR.BOOT_REC = false → d.pwr.hostWaitTill = none →
          e.rd HIF.HSPI_FRAMES = counted d HIF.HSPI_FRAMES ∧ e.rd HIF.LAST_SRC = 0 ∧ e.rd HIF.HOST_SEEN = 1 ∧ e.mem = d.mem ∧
          e.hif.rspData = (List.range (len.toNat + 1)).map (fun k => memGetWord d.mem (if inc then addr.toNat + 4 * k else addr.toNat))))) ∧
    (∀ cmd : BitVec 8, Answers (.cmdErrFrame el cmd) s (fun _ d e => d.pwr.st ≠ .off → d.pwr.st ≠ .ember → d.hif.inService = true →
      (cmd.toNat % 128 = 0 ∨ 4 < cmd.toNat % 128 ∨ (128 ≤ cmd.toNat ∧ d.on HIF.QUAD_EN = false)) →
      e.hif.rspStatus = 8 + 0x20 * b2n d.anyPend + 0x40 ∧ e = { d with hif := e.hif })) ∧
    Answers (.hspiAbort el) s (fun _ d e => d.pwr.st ≠ .off → d.pwr.st ≠ .ember →
      e.rd HIF.HSPI_ABORT = counted d HIF.HSPI_ABORT ∧ OnlyRegs [HIF.HSPI_ABORT] d e)

/-- R437, Table 13.7: a REG_WR or REG_RD message writes or reads its words in order, and one REG_RSP with its TAG answers it on
the same port, STATUS 3 where a write was refused by a lock, the words read in the answer of a read; a word under ALIGN or
RANGE is answered by STATUS 1 or 2 and nothing is written. Words written by REG_WR to the tile window 0x480000 to 0x48FFFF stand
there, each at its address, and no other byte changes. -/
def Obligations.HostMessagesAreAnswered : Prop :=
  ∀ (s : State) (el : Nat) (port : Fin 2) (tag : BitVec 8) (noinc : Bool) (addr : BitVec 24) (ws : List Word) (n1 : BitVec 6),
    Answers (.regWr el port tag noinc addr ws) s (fun now d e => d.regPort port.val = true → d.hif.inService = true →
      let d1 := (if port.val = 0 then d.hostSeen now else d).wr HIF.LAST_SRC (1 + port.val)
      let as_ := wordAddrs addr.toNat ws.length (!noinc)
      (addrFault as_ = none →
        e = ((d1.writeWords now (1 + port.val) (as_.zip (natWords ws))).2).kspSend port.val 0
          (regRsp tag.toNat ws.length noinc (if (d1.writeWords now (1 + port.val) (as_.zip (natWords ws))).1 then 3 else 0) addr.toNat [])) ∧
      (∀ x, addrFault as_ = some x →
        e = (d1.addrRefuse now x.2).kspSend port.val 0 (regRsp tag.toNat ws.length noinc x.1 addr.toNat [])) ∧
      (noinc = false → addr.toNat % 4 = 0 → 0x480000 ≤ addr.toNat → addr.toNat + 4 * ws.length ≤ 0x490000 → d.on PWR.BOOT_REC = false →
        d.pwr.hostWaitTill = none →
        (∀ (k : Nat) (h : k < ws.length) (j : Nat), j < 4 → memGet e.mem (addr.toNat + 4 * k + j) = ws[k].toNat / 256 ^ j % 256) ∧
        (∀ b, b < addr.toNat ∨ addr.toNat + 4 * ws.length ≤ b → memGet e.mem b = memGet d.mem b))) ∧
    Answers (.regRd el port tag noinc addr n1) s (fun now d e => d.regPort port.val = true → d.hif.inService = true →
      let d1 := (if port.val = 0 then d.hostSeen now else d).wr HIF.LAST_SRC (1 + port.val)
      let as_ := wordAddrs addr.toNat (n1.toNat + 1) (!noinc)
      addrFault as_ = none →
      e = ((d1.readWords now as_).2).kspSend port.val 0 (regRsp tag.toNat (n1.toNat + 1) noinc 0 addr.toNat (d1.readWords now as_).1))

/-- R42, R51: a tick whose phases keep the deadline runs T0 to T4 on what its cut found waiting (R48), the commit of T5 and T6 in order,
what was written since the cut waits on, and it rests in PHASE 6; one that does not is abandoned, counted in OVR_TOTAL and OVR_RUN, keeps
its waiting values, and rests in PHASE 7. With no edge passed, nothing happens.
R30, R32: a corrected memory error is counted and has no other effect. An uncorrectable one is counted and raises EVT_SYS_ECC_UE, and by
what it hits: a cache slot is freed, its tile counted and its home copy to be fetched; a journal entry is lost and counted; a pose
history entry or the pose is marked. In firmware data, as a lockstep mismatch does, which is counted by its pair and raises
EVT_SYS_LOCKSTEP, it causes a logic-die reset in LIT, DIM or SNUFFED.
It rests on the readings and choices of log entries 36 and 37. -/
def Obligations.TickAndMemoryErrors : Prop :=
  (∀ (s : State) (el : Nat) (t1 t2 t3 t4 t5 : BitVec 16),
    Answers (.tick el t1 t2 t3 t4 t5) s (fun now d e =>
      (d.tickDue now = false → e = d) ∧
      (d.tickDue now = true →
        let g := d.turnNext now
        let ts := [t1.toNat, t2.toNat, t3.toNat, t4.toNat, t5.toNat]
        let w := g.waitsAt (cutOf g.nextEdge ts)
        let p := ((g.withWaits w).tickT0 now g.nextEdge g.sys.nextN).tickPhases now g.nextEdge g.sys.nextN 4
        now ≤ g.nextEdge + g.deadline → phasesDone g.deadline 0 ts = 5 →
        e.rd SYS.PHASE = 6 ∧
        e = ((((p.1.phaseTimes ts).commit now g.nextEdge g.sys.nextN ts.sum p.2.1 p.2.2).waitsOn g.waits w).budgetCheck now ts).tickT6 now
          g.sys.nextN)) ∧
    Answers (.tickOverrun el t1 t2 t3 t4) s (fun now d e =>
      ((d.tickDue now = false ∨ now < d.nextEdge + d.deadline) → e = d) ∧
      (d.tickDue now = true → d.nextEdge + d.deadline ≤ now →
        let g := d.turnNext now
        let ts := [t1.toNat, t2.toNat, t3.toNat, t4.toNat]
        let m := min 4 (phasesDone g.deadline 0 ts)
        let p := ((g.withWaits (g.waitsAt (cutOf g.nextEdge ts))).tickT0 now g.nextEdge g.sys.nextN).tickPhases now g.nextEdge g.sys.nextN m
        let q := (p.1.phaseTimes (ts.take m)).withWaits g.waits
        e = { q.overrun now g.sys.nextN with cuts := [] } ∧ e.cuts = [] ∧
        (q.rd SYS.OVR_RUN ≠ 2 → q.pwr.dimMaxDue = false →
          e.rd SYS.OVR_TOTAL = counted q SYS.OVR_TOTAL ∧ e.rd SYS.OVR_RUN = counted q SYS.OVR_RUN ∧ e.rd SYS.PHASE = 7)))) ∧
  (∀ (s : State) (el : Nat),
    (∀ mram : Bool, Answers (.eccCorrected el mram) s (fun _ d e => d.pwr.st ≠ .off →
      e.rd (if mram then SYS.MRAM_CE else SYS.SRAM_CE) = counted d (if mram then SYS.MRAM_CE else SYS.SRAM_CE) ∧
      OnlyRegs [if mram then SYS.MRAM_CE else SYS.SRAM_CE] d e)) ∧
    (∀ (site : Fin 5) (i : BitVec 12), Answers (.eccUncorrectable el site i) s (fun now d e => d.pwr.st ≠ .off →
      (site ≠ 0 → e.rd SYS.SRAM_UE = counted d SYS.SRAM_UE ∧ e.raised EVT.SYS_ECC_UE 0 = true) ∧
      (site = 0 → ∃ q : Dev, e = q.logicCause now 5 ∧ q.rd SYS.SRAM_UE = counted d SYS.SRAM_UE ∧ q.raised EVT.SYS_ECC_UE 0 = true ∧
        OnlyRegsAndEvents [SYS.SRAM_UE] d q ∧
        ((d.pwr.st = .lit ∨ d.pwr.st = .dim ∨ d.pwr.st = .snuffed) → d.pwr.stage ≠ .relight → d.pwr.relightEnd = none →
          e.pwr.stage = .relight ∧ e.pwr.resetAt = now)) ∧
      (site = 1 → (d.slot i.toNat).st = .free → OnlyRegsAndEvents [SYS.SRAM_UE] d e) ∧
      (site = 1 → (d.slot i.toNat).st ≠ .free → d.alive = true →
        e.slot i.toNat = {} ∧ e.rd COV.TILES_DISCARDED = counted d COV.TILES_DISCARDED ∧ e.raised EVT.COV_TILE_CRC 0 = true ∧
        e.tpl.refetch = d.tpl.refetch ++ [((d.slot i.toNat).layer, (d.slot i.toNat).tx, (d.slot i.toNat).ty)] ∧
        (∀ n, n ≠ i.toNat → e.slot n = d.slot n) ∧ OnlyRegsAndEvents [SYS.SRAM_UE, COV.TILES_DISCARDED] { d with tpl := e.tpl } e) ∧
      (site = 1 → (d.slot i.toNat).st ≠ .free → d.alive = false → e.slot i.toNat = { d.slot i.toNat with bad := true }) ∧
      (site = 2 → i.toNat < d.tpl.journal.length →
        e.tpl.journal = d.tpl.journal.eraseIdx i.toNat ∧ e.rd COV.PAINT_LOST = counted d COV.PAINT_LOST ∧ e.tpl.slots = d.tpl.slots) ∧
      (site = 3 → OnlyRegsAndEvents [SYS.SRAM_UE] { d with pose := e.pose } e ∧
        e.pose.hist.length = d.pose.hist.length ∧
        (∀ k (h : k < e.pose.hist.length) (g : k < d.pose.hist.length),
          e.pose.hist[k] = if k = i.toNat then { d.pose.hist[k] with bad := true } else d.pose.hist[k])) ∧
      (site = 4 → e.pose = { d.pose with bad := true } ∧ OnlyRegsAndEvents [SYS.SRAM_UE] { d with pose := e.pose } e))) ∧
    (∀ pairB : Bool, Answers (.lockstepMismatch el pairB) s (fun now d e => d.pwr.st ≠ .off →
      ∃ q : Dev, e = q.logicCause now 4 ∧
        q.rd (if pairB then SYS.LS_PAIR_B else SYS.LS_PAIR_A) = counted d (if pairB then SYS.LS_PAIR_B else SYS.LS_PAIR_A) ∧
        q.raised EVT.SYS_LOCKSTEP 0 = true ∧ OnlyRegsAndEvents [if pairB then SYS.LS_PAIR_B else SYS.LS_PAIR_A] d q ∧
        ((d.pwr.st = .lit ∨ d.pwr.st = .dim ∨ d.pwr.st = .snuffed) → d.pwr.stage ≠ .relight → d.pwr.relightEnd = none →
          e.pwr.stage = .relight ∧ e.pwr.resetAt = now))) ∧
    (∀ (d : Dev) (now code : Nat), (d.pwr.st = .lit ∨ d.pwr.st = .dim ∨ d.pwr.st = .snuffed) → d.pwr.stage ≠ .relight →
      d.pwr.relightEnd = none →
      (d.logicCause now code).pwr.stage = .relight ∧ (d.logicCause now code).pwr.resetAt = now))

/-! ### GEO, COV, TPL: the geometry, the coverage map and its tiles -/

/-- R72, R84: by the newest sample that the last tick edge latched, FOLD_STALE of a segment stands where its fold source is stale and
SWAY_STALE where its sway source alone is, and each change to 1 raises EVT_GEO_SENSOR_STALE; PT_IDX shows the point's outputs of the
last completed T2, and changes no other register.
R132, R133: COV_PEEK shows whether the cell's tile is resident and the cell it holds; SLOT_IDX
shows the slot's state, tile and generation; nothing else changes. -/
def Obligations.GeometryAndCoverageSnapshots : Prop :=
  (∀ (s : State) (el : Nat),
    (∀ seg : Fin 8, Answers (.segmentSensorStale el seg) s (fun now d e => d.ticking = true → d.on (GEO.SEG_EN seg.val) = true →
      e.rd (GEO.FOLD_STALE seg.val) = b2n (d.foldStaleAt d.t0Ssp (d.lastEdge now) seg.val) ∧
      e.rd (GEO.SWAY_STALE seg.val) =
        b2n (d.swayStaleAt d.t0Ssp (d.lastEdge now) seg.val && !d.foldStaleAt d.t0Ssp (d.lastEdge now) seg.val) ∧
      ((d.on (GEO.FOLD_STALE seg.val) = false ∧ e.on (GEO.FOLD_STALE seg.val) = true ∨
        d.on (GEO.SWAY_STALE seg.val) = false ∧ e.on (GEO.SWAY_STALE seg.val) = true) → e.raised EVT.GEO_SENSOR_STALE seg.val = true) ∧
      OnlyRegsAndEvents [GEO.FOLD_STALE seg.val, GEO.SWAY_STALE seg.val] d e)) ∧
    (∀ n : BitVec 10, Answers (.ptIdxSnapshot el n) s (fun _ d e => d.hif.inService = true →
      e.rd GEOP.PT_IDX = n.toNat ∧ e.rd GEOP.PT_X = satS GEOP.PT_X.width (tget d.geo.pts n.toNat).x % 2 ^ GEOP.PT_X.width ∧
      e.rd GEOP.PT_SPD = satU GEOP.PT_SPD.width (tget d.geo.pts n.toNat).spd % 2 ^ GEOP.PT_SPD.width ∧
      e.rd GEOP.GEO_VALID = b2n (tget d.geo.pts n.toNat).valid ∧ e.rd GEOP.PT_TICK = d.geo.tick % 2 ^ 32 ∧
      OnlyRegs [GEOP.PT_IDX, GEOP.PT_X, GEOP.PT_Y, GEOP.PT_Z, GEOP.PT_VE, GEOP.PT_VN, GEOP.TRAVEL_HDG, GEOP.STR_HDG, GEOP.PT_SPD,
        GEOP.REVERSE, GEOP.GEO_VALID, GEOP.PT_TICK] d e))) ∧
  (∀ (s : State) (el : Nat),
    (∀ x y : BitVec 32, Answers (.covPeek el x y) s (fun _ d e => d.hif.inService = true →
      OnlyRegs [COV.PEEK_X, COV.PEEK_CELL, COV.PEEK_RX, COV.PEEK_RES, COV.PEEK_RX_RES] d e ∧ e.rd COV.PEEK_X = x.toNat ∧
      let t := tileOf (x.toInt / d.layerEdge 0) (y.toInt / d.layerEdge 0)
      (∀ q, tileInRange t.1 t.2.1 = true → d.findSlot 0 t.1 t.2.1 = some q → q.2.answers = true →
        e.rd COV.PEEK_RES = 1 ∧ e.rd COV.PEEK_CELL = q.2.cell t.2.2 % 2 ^ COV.PEEK_CELL.width) ∧
      (d.findSlot 0 t.1 t.2.1 = none → e.rd COV.PEEK_RES = 0 ∧ e.rd COV.PEEK_CELL = 0))) ∧
    (∀ i : BitVec 9, Answers (.slotSnapshot el i) s (fun _ d e => d.hif.inService = true →
      e.rd TPL.SLOT_IDX = i.toNat ∧ e.rd TPL.SLOT_STATE = (d.slot i.toNat).st.code % 2 ^ TPL.SLOT_STATE.width ∧
      e.rd TPL.SLOT_GEN = (d.slot i.toNat).gen % 2 ^ TPL.SLOT_GEN.width ∧
      OnlyRegs [TPL.SLOT_IDX, TPL.SLOT_STATE, TPL.SLOT_TX, TPL.SLOT_TY, TPL.SLOT_LAYER, TPL.SLOT_GEN, TPL.SLOT_PIN, TPL.SLOT_CRC] d e)))

/-- R94: FIELD_CMD waits for the next commit, the one written last; an OPEN taken from CLOSED makes the field OPEN under the
FIELD_ID and CELL_SIZE of its registers with the counters of the field at zero and an empty cache; a CLOSE of an open field with paint
waiting makes it CLOSING; an ABANDON makes a field CLOSED, its tiles and journal entries discarded and counted; a
command that the state does not allow sets CMD_IGNORED.
R94, R519: when every tile is clean and the journal empty, CLOSING ends outside T0 to T5: the field is CLOSED, the cache empty, and
EVT_TPL_FLUSH_DONE raised; before, and out of CLOSING, nothing changes.
It rests on the reading or choice of log entry 26. -/
def Obligations.FieldCommands : Prop :=
  (∀ (s : State) (el : Nat),
    Answers (.fieldOpen el) s (fun now d e => d.hif.inService = true →
      e = { d with cov := { d.cov with cmd := 1, cmdAt := now, cmdUnder := d.holdOn 0x030000 } }) ∧
    Answers (.fieldClose el) s (fun now d e => d.hif.inService = true →
      e = { d with cov := { d.cov with cmd := 2, cmdAt := now, cmdUnder := d.holdOn 0x030000 } }) ∧
    Answers (.fieldAbandon el) s (fun now d e => d.hif.inService = true →
      e = { d with cov := { d.cov with cmd := 3, cmdAt := now, cmdUnder := d.holdOn 0x030000 } }) ∧
    (∀ (d : Dev) (now : Nat), d.cov.cmdUnder = false →
      (d.cov.cmd = 1 → d.rd COV.FIELD_STATE = 0 →
        (d.fieldCommand now).rd COV.FIELD_STATE = 1 ∧ (d.fieldCommand now).rd COV.CMD_IGNORED = 0 ∧
        (d.fieldCommand now).rd COV.FIELD_ID_ACT = d.rd COV.FIELD_ID % 2 ^ COV.FIELD_ID_ACT.width ∧
        (d.fieldCommand now).rd COV.CELL_SIZE_ACT = d.rd COV.CELL_SIZE % 2 ^ COV.CELL_SIZE_ACT.width ∧
        (d.fieldCommand now).rd COV.MISS_CNT = 0 ∧ (d.fieldCommand now).rd COV.CONF_TIMEOUTS = 0 ∧ (d.fieldCommand now).tpl.slots = []) ∧
      (d.cov.cmd = 2 → d.rd COV.FIELD_STATE = 1 → d.rd TPL.STORE_ACT ≠ 3 → d.tpl.journal ≠ [] →
        (d.fieldCommand now).rd COV.FIELD_STATE = 2 ∧ (d.fieldCommand now).rd COV.CMD_IGNORED = 0 ∧
        (d.fieldCommand now).tpl = d.tpl) ∧
      (d.cov.cmd = 3 → d.rd COV.FIELD_STATE ≠ 0 →
        (d.fieldCommand now).rd COV.FIELD_STATE = 0 ∧ (d.fieldCommand now).rd COV.CMD_IGNORED = 0 ∧
        (d.fieldCommand now).tpl.slots = [] ∧ (d.fieldCommand now).tpl.journal = [] ∧
        (d.fieldCommand now).rd COV.PAINT_LOST = min (2 ^ COV.PAINT_LOST.width - 1) (d.rd COV.PAINT_LOST + d.tpl.journal.length)) ∧
      (d.cov.cmd = 3 → d.rd COV.FIELD_STATE = 0 →
        (d.fieldCommand now).rd COV.CMD_IGNORED = 1 ∧ (d.fieldCommand now).rd COV.FIELD_STATE = 0) ∧
      (d.cov.cmd = 2 → d.rd COV.FIELD_STATE ≠ 1 → (d.fieldCommand now).rd COV.CMD_IGNORED = 1) ∧
      (d.cov.cmd = 1 → d.rd COV.FIELD_STATE ≠ 0 → (d.fieldCommand now).rd COV.CMD_IGNORED = 1)) ∧
    (∀ (d : Dev) (now : Nat), d.cov.cmdUnder = true → d.fieldCommand now = d)) ∧
  (∀ (s : State) (el : Nat), Answers (.flushDone el) s (fun now d e =>
    (d.edgePassed now = false → d.rd COV.FIELD_STATE = 2 → d.tpl.journal = [] → (∀ x ∈ d.tpl.slots, x.2.st = .clean) →
      e.rd COV.FIELD_STATE = 0 ∧ e.tpl.slots = [] ∧ e.raised EVT.TPL_FLUSH_DONE 0 = true ∧
      OnlyRegsAndEvents [COV.FIELD_STATE] { d with tpl := e.tpl } e) ∧
    ((d.edgePassed now = true ∨ d.rd COV.FIELD_STATE ≠ 2 ∨ d.tpl.journal ≠ []) → e = d)))

/-- R100, R566: a valve movement not confirmed by the end of CONF_WAIT is counted, and no edge of the point waits for it any
longer; for a span held for 1,000 ms room is made as if STORE_OK were clear, where no slot is FREE and a tile may go: one tile goes
and a slot is FREE; where a slot is FREE, or before the 1,000 ms, nothing changes. -/
def Obligations.ConfirmationAndHeldSpans : Prop :=
  ∀ (s : State) (el : Nat) (pt : Fin 1024),
    Answers (.confTimeout el pt) s (fun now d e => d.ticking = true → d.on (PD.VALID pt.val) = true →
      (∀ k, k = ((d.paintOf pt.val).edges.filter (fun x => x.wait && decide (x.cmd + d.confWait ≤ now))).length → 0 < k →
        e.rd COV.CONF_TIMEOUTS = min (2 ^ COV.CONF_TIMEOUTS.width - 1) (d.rd COV.CONF_TIMEOUTS + k)) ∧
      (∀ x ∈ (e.paintOf pt.val).edges, x.wait = true → now < x.cmd + d.confWait) ∧
      (∀ n, n ≠ pt.val → e.paintOf n = d.paintOf n)) ∧
    Answers (.heldSpanTimeout el pt) s (fun now d e => d.ticking = true →
      (∀ t, (d.paintOf pt.val).heldAt = some t → t + ms 1000 ≤ now →
        ((d.freeSlot 0).isSome = true → e = d) ∧
        (d.freeSlot 0 = none → (d.tpl.slots.map (·.1)).Nodup →
          (∃ x ∈ d.tpl.slots, x.1 < 384 ∧ d.pinned x.2.layer x.2.tx x.2.ty = false ∧ x.2.st ≠ .free ∧ x.2.st ≠ .loading) →
          ∃ i, e.freeSlot 0 = some i ∧ (∀ n, n ≠ i → e.slot n = d.slot n) ∧ e.tpl.journal = d.tpl.journal ∧
            OnlyRegsAndEvents [COV.TILES_DISCARDED] { d with tpl := e.tpl } e)) ∧
      (∀ t, (d.paintOf pt.val).heldAt = some t → now < t + ms 1000 → e = d) ∧
      ((d.paintOf pt.val).heldAt = none → e = d))

/-- R114: the pin list. PIN adds the tile named by the PIN registers, where it is not pinned yet and a place of the 64 is free,
and PIN_FULL reports a full list; UNPIN takes that tile's entry out and UNPIN_ALL every entry, and nothing else changes.
R113, R115, R128: the store's timers, in T6. A DIRTY tile WB_INTERVAL after its last writeback goes to the store as WRITEBACK, its
generation one higher; an unanswered request or put is repeated with its tag up to RETRY_MAX times, and the failure of the last clears
STORE_OK, raises EVT_TPL_STORE_FAIL, and leaves no tile LOADING; a failed
store is probed once per second; a PROVISIONAL tile is asked for again after a second, while fewer than FETCH_MAX requests are out.
It rests on the reading or choice of log entry 115. -/
def Obligations.TilePinsAndStoreTimers : Prop :=
  (∀ (s : State) (el : Nat),
    Answers (.tilePin el) s (fun now d e => d.hif.inService = true →
      let p : Pin := { field := d.rd COV.FIELD_ID_ACT, layer := d.rd TPL.PIN_LAYER, tx := d.rdS TPL.PIN_TX, ty := d.rdS TPL.PIN_TY }
      (d.tpl.pins.contains p = true → OnlyRegs [TPL.PIN_FULL] d e ∧ e.rd TPL.PIN_FULL = 0) ∧
      (d.tpl.pins.contains p = false → 64 ≤ d.tpl.pins.length → OnlyRegs [TPL.PIN_FULL] d e ∧ e.rd TPL.PIN_FULL = 1) ∧
      (d.tpl.pins.contains p = false → d.tpl.pins.length < 64 →
        e.tpl.pins = d.tpl.pins ++ [p] ∧ e.rd TPL.PIN_FULL = 0 ∧
        (d.rd COV.FIELD_STATE ≠ 1 ∨ d.edgePassed now = true ∨ d.layerUsed p.layer = false →
          e.tpl = { d.tpl with pins := d.tpl.pins ++ [p] } ∧ OnlyRegs [TPL.PIN_FULL] { d with tpl := e.tpl } e))) ∧
    Answers (.tileUnpin el) s (fun _ d e => d.hif.inService = true →
      let p : Pin := { field := d.rd COV.FIELD_ID_ACT, layer := d.rd TPL.PIN_LAYER, tx := d.rdS TPL.PIN_TX, ty := d.rdS TPL.PIN_TY }
      e = { d with tpl := { d.tpl with pins := d.tpl.pins.filter (fun q => q != p) } }) ∧
    Answers (.tileUnpinAll el) s (fun _ d e => d.hif.inService = true → e = { d with tpl := { d.tpl with pins := [] } })) ∧
  (∀ (s : State) (el : Nat),
    (∀ i : Fin 416, Answers (.tileWriteback el i) s (fun now d e => d.inT6 now = true →
      (d.slot i.val).st = .dirty → d.puts = true → (d.slot i.val).wbAt + sec (max 1 (d.rd TPL.WB_INTERVAL)) ≤ now →
      (d.slot i.val).bad = false →
      (e.slot i.val).st = .writeback ∧ (e.slot i.val).gen = ((d.slot i.val).gen + 1) % 65536 ∧ (e.slot i.val).wbAt = now ∧
      (e.slot i.val).fill = (d.slot i.val).fill ∧ (e.slot i.val).cells = (d.slot i.val).cells ∧
      (e.slot i.val).painted = false ∧ (∀ n, n ≠ i.val → e.slot n = d.slot n))) ∧
    (∀ (i : Fin 416) (r : TileReq), Answers (.reqTimeout el i) s (fun now d e => d.inT6 now = true →
      (d.slot i.val).st ≠ .free → (d.slot i.val).req = some r → d.on TPL.STORE_OK = true → r.sentAt + d.reqTimeout ≤ now →
      (r.tries < d.rd TPL.RETRY_MAX → r.isPut = false →
        (e.slot i.val).req = some { tag := r.tag, tries := r.tries + 1, sentAt := now, isPut := false }) ∧
      (r.tries < d.rd TPL.RETRY_MAX → r.isPut = true → (d.slot i.val).bad = false →
        (e.slot i.val).req = some { tag := r.tag, tries := r.tries + 1, sentAt := now, isPut := true } ∧
        (e.slot i.val).st = .writeback ∧ (e.slot i.val).gen = ((d.slot i.val).gen + 1) % 65536 ∧
        (e.slot i.val).evicting = (d.slot i.val).evicting) ∧
      (d.rd TPL.RETRY_MAX ≤ r.tries →
        e.rd TPL.STORE_OK = 0 ∧ e.raised EVT.TPL_STORE_FAIL 0 = true ∧ e.tpl.lastProbe = now ∧
        e.tpl.lastFail = some ((d.slot i.val).layer, (d.slot i.val).tx, (d.slot i.val).ty) ∧ (∀ n, (e.slot n).st ≠ .loading)))) ∧
    (∀ i : Fin 416, Answers (.reqTimeout el i) s (fun now d e => d.inT6 now = true →
      (∀ r, (d.slot i.val).req = some r → now < r.sentAt + d.reqTimeout) → e = d)) ∧
    Answers (.storeProbe el) s (fun now d e => d.inT6 now = true → d.on TPL.STORE_OK = false → d.rd TPL.STORE_ACT ≠ 3 →
      d.rd COV.FIELD_STATE ≠ 0 →
      (d.tpl.lastProbe + sec 1 ≤ now → d.tpl.lastFail.isSome = true → e.tpl.lastProbe = now) ∧
      (now < d.tpl.lastProbe + sec 1 → e = d)) ∧
    (∀ i : Fin 416, Answers (.provisionalRerequest el i) s (fun now d e => d.inT6 now = true → d.reqsOut < d.fetchMax →
      (d.slot i.val).st = .provisional → (d.slot i.val).req = none → d.on TPL.STORE_OK = true → (d.slot i.val).provAsk + sec 1 ≤ now →
      ∃ q, (e.slot i.val).req = some q ∧ q.tries = 0 ∧ q.isPut = false ∧ q.sentAt = now)))

/-- R112, R119, R121, R128, R129: a tile message that is no answer to the partner waits for T6 once a tick edge has passed, and acts at once
before. TILE_DATA and TILE_ABSENT of a LOADING tile give its content, where tile, field and TILE_CRC are right, and make it CLEAN with
the generation named, where no journal entry waits for it; a wrong one counts as unanswered. A TILE_ACK of the outstanding put with its
generation makes a tile not painted since CLEAN, a painted one DIRTY, an evicted one FREE. A TILE_NAK is counted, and a LOADING tile it
names becomes PROVISIONAL. A boundary update gives a resident tile its EXCL and HEAD bits and waits for a LOADING one. A TILE_ACK
with another generation, and an answer to a tag that is not outstanding, change nothing of the tile. -/
def Obligations.TileMessages : Prop :=
  ∀ (s : State) (el : Nat) (m : TileMsgIn),
    (∀ (i : Instr) (k : TileMsgIn),
      (i = .tileData el m ∧ k = { m with type := 2 } ∨ i = .tileAbsent el m ∧ k = { m with type := 3 } ∨
        i = .tileAck el m ∧ k = { m with type := 5 } ∨ i = .tileNak el m ∧ k = { m with type := 6 } ∨
        i = .boundaryUpdate el m ∧ k = { m with type := 2, tag := 0, flags := setBitOf m.flags 1 true }) →
      Answers i s (fun now d e => d.ticking = true → (k.port = 0 → ∀ x ∈ d.pair.fwd, x.1 ≠ k.tag) →
        (d.edgePassed now = true → e = { d with tpl := { d.tpl with inbox := d.tpl.inbox ++ [k] } }) ∧
        (d.edgePassed now = false → e = d.tileMsg now k))) ∧
    (∀ (i : Instr) (rs : List (Nat × Nat)),
      (i = .tileData el m ∧ contentRuns m.layer (bitOf m.flags 0) m.payload = some rs ∨
        i = .tileAbsent el m ∧ rs = [(bitsOf m.flags 4 4, tileCells)]) →
      Answers i s (fun now d e => d.inT6 now = true → m.port ≠ 0 → m.tag ≠ 0 → (∀ x ∈ d.tpl.probes, x.1 ≠ m.tag) →
        ∀ n x r, d.slotOfTag m.tag = some (n, x) → d.slot n = x → x.req = some r → r.isPut = false → x.st = .loading →
          d.on TPL.STORE_OK = true →
          (d.matchesSlot m x = true → crc32 (runBytes m.layer rs) = m.crc → x.heldUpd = none →
            (∀ j ∈ d.tpl.journal, ¬(j.tx = x.tx ∧ j.ty = x.ty)) →
            e.slot n = { x.load rs with st := .clean, gen := m.gen, req := none, heldUpd := none } ∧
            e.rd TPL.FETCH_CNT = counted d TPL.FETCH_CNT ∧ (∀ l, l ≠ n → e.slot l = d.slot l)) ∧
          ((d.matchesSlot m x = false ∨ crc32 (runBytes m.layer rs) ≠ m.crc) → r.tries < d.rd TPL.RETRY_MAX →
            (e.slot n).req = some { tag := r.tag, tries := r.tries + 1, sentAt := now, isPut := false } ∧ (e.slot n).st = .loading))) ∧
    Answers (.tileAck el m) s (fun now d e => d.inT6 now = true → m.port ≠ 0 → (∀ x ∈ d.tpl.probes, x.1 ≠ m.tag) →
      (d.slotOfTag m.tag = none → e = d) ∧
      (∀ n x r, d.slotOfTag m.tag = some (n, x) → x.req = some r → r.isPut = true →
        (m.gen ≠ x.gen → e = d) ∧
        (m.gen = x.gen → d.on TPL.STORE_OK = true →
          e.rd TPL.PUT_CNT = counted d TPL.PUT_CNT ∧ (∀ l, l ≠ n → e.slot l = d.slot l) ∧
          (x.painted = true → (e.slot n).st = .dirty ∧ (e.slot n).req = none) ∧
          (x.painted = false → x.evicting = true → e.slot n = {}) ∧
          (x.painted = false → x.evicting = false → (e.slot n).st = .clean ∧ (e.slot n).req = none ∧
            (e.slot n).fill = x.fill ∧ (e.slot n).cells = x.cells)))) ∧
    Answers (.tileNak el m) s (fun now d e => d.inT6 now = true → m.port ≠ 0 → (∀ x ∈ d.tpl.probes, x.1 ≠ m.tag) →
      (d.slotOfTag m.tag = none → e = d) ∧
      (∀ n x r, d.slotOfTag m.tag = some (n, x) → d.slot n = x → x.req = some r → d.on TPL.STORE_OK = true →
        (r.isPut = false → e.rd TPL.REQ_NAKS = counted d TPL.REQ_NAKS ∧ (∀ l, l ≠ n → e.slot l = d.slot l)) ∧
        (r.isPut = false → x.st = .loading → (e.slot n).st = .provisional ∧ (e.slot n).req = none) ∧
        (r.isPut = false → x.st ≠ .loading → x.st ≠ .free → e.slot n = { x with req := none, provAsk := now }) ∧
        (r.isPut = true → r.tries < d.rd TPL.RETRY_MAX → x.bad = false →
          (e.slot n).req = some { tag := r.tag, tries := r.tries + 1, sentAt := now, isPut := true } ∧ (e.slot n).st = .writeback))) ∧
    Answers (.boundaryUpdate el m) s (fun now d e => d.inT6 now = true → m.port ≠ 0 →
      (contentRuns 0 (bitOf m.flags 0) m.payload = none → e = d) ∧
      (∀ rs, contentRuns 0 (bitOf m.flags 0) m.payload = some rs →
        ((m.layer ≠ 0 ∨ m.field ≠ d.rd COV.FIELD_ID_ACT ∨ crc32 (runBytes 0 rs) ≠ m.crc ∨ d.findSlot 0 m.tx m.ty = none) → e = d) ∧
        (m.layer = 0 → m.field = d.rd COV.FIELD_ID_ACT → crc32 (runBytes 0 rs) = m.crc →
          ∀ n x, d.findSlot 0 m.tx m.ty = some (n, x) →
            (x.st = .loading → e.slot n = { x with heldUpd := some rs }) ∧
            (x.st ≠ .loading → x.st ≠ .free → e.slot n = x.applyBits rs) ∧ (∀ l, l ≠ n → e.slot l = d.slot l) ∧
            e = { d with tpl := { d.tpl with slots := e.tpl.slots } })))

/-! ### DEC, RATE, SSP, POSE -/

/-- R156, R166, R168: a hold that has lasted HOLD_MAX ends: the policy acts as OFF, HOLD_EXP shows it and EVT_DEC_HOLD_EXPIRED is
raised; latencies changed since the last store are stored in the copy of lower sequence at most every 10 s; PTD_IDX shows the
decision of a point as the last commit left it, and zeros for a point that it did not decide.
R178, R180, R192: a loop that runs, in a tick of its own whose update is still to come, takes its set point and process value,
integrates where it may, and gives the duty of feed-forward, proportional and integral part within its limits, and in any other tick
nothing changes; a loop whose feedback stays
away is lost, with its flag and event, and found again at the next edge; PTR_IDX shows the rate of a point.
It rests on the reading or choice of log entry 123. -/
def Obligations.DecisionAndRateTimers : Prop :=
  (∀ (s : State) (el : Nat),
    (∀ p : Fin 8, Answers (.holdExpired el p) s (fun now d e => d.ticking = true → d.policyOf p.val = 2 →
      d.on (RATE.PROD_EN p.val) = true → d.belowMin p.val = true → d.policyWant p.val = 2 →
      bitOf (d.rd DEC.HOLD_EXP) p.val = false → d.rd (DEC.HOLD_MAX p.val) ≠ 0 →
      ∀ f, (tget d.dec.pol p.val).holdFrom = some f →
        (f + ms (100 * d.rd (DEC.HOLD_MAX p.val)) ≤ now → e.policyOf p.val = 3 ∧ bitOf (e.rd DEC.HOLD_EXP) p.val = true ∧
          bitOf (e.rd (HDR.PG_EVT_RAW 0x032000)) (EVT.DEC_HOLD_EXPIRED - 56) = true) ∧
        (now < f + ms (100 * d.rd (DEC.HOLD_MAX p.val)) → e.policyOf p.val = 2))) ∧
    Answers (.latencyStore el) s (fun now d e => d.alive = true →
      (d.dec.latChanged = true → d.dec.latStoredAt + sec 10 ≤ now →
        e.dec = { d.dec with latChanged := false, latStoredAt := now } ∧ e = { d with dec := e.dec, mram := e.mram } ∧
        (e.mram.latCopyA = d.mram.latCopyA ∨ e.mram.latCopyB = d.mram.latCopyB)) ∧
      (d.dec.latChanged = false → e = d)) ∧
    (∀ n : BitVec 10, Answers (.decSnapshot el n) s (fun _ d e => d.hif.inService = true →
      e.rd DEC.PTD_IDX = n.toNat ∧ e = { d with regs := e.regs } ∧
      (∀ ws, tget? d.dec.shown n.toNat = some ws → ws.length = ptdFields.length →
        ∀ k (h : k < ptdFields.length), e.rd ptdFields[k] = ws.getD k 0 % 2 ^ ptdFields[k].width) ∧
      (tget? d.dec.shown n.toNat = none → e.rd DEC.PTD_TICK = d.dec.tick % 2 ^ 32 ∧
        ∀ f ∈ ptdFields, f ≠ DEC.PTD_TICK → e.rd f = 0) ∧
      OnlyRegs (DEC.PTD_IDX :: ptdFields) d e))) ∧
  (∀ (s : State) (el : Nat),
    (∀ p : Fin 8, Answers (.loopUpdate el p) s (fun now d e => d.ticking = true → d.loopEnabled p.val = true →
      d.on (RATE.FB_LOST p.val) = false →
      let k := d.tickCnt now
      let sp := d.loopSp (d.edgeOf k) p.val d.dec.pts d.rate.pts
      let pv := (d.loopPv (d.edgeOf k) p.val).1
      let fs : Int := d.rd (RATE.FS p.val)
      let err := 100 * ((sp : Int) - pv) * loopOne / fs
      let base := (d.rd (RATE.FF p.val) : Int) * 100 * sp * loopOne / (256 * fs) + d.rd (RATE.KP p.val) * err / 256
      let lim := d.loopLims p.val
      let i := (d.loopOf p.val).i
      let held := d.loopHeld p.val = true ∨ (lim.2 ≤ base + i ∧ 0 < err) ∨ (base + i ≤ lim.1 ∧ err < 0)
      let dt : Nat := max 1 (d.rd (RATE.LOOP_DIV p.val)) * d.sys.period
      (d.loopDue k p.val = true → d.rd SYS.LAST_COMMIT = k % 2 ^ 32 → (d.loopOf p.val).updTick ≠ some k → 0 < sp → 0 < fs →
        (d.rd (RATE.LOOP_KIND p.val) = 2 ∨ d.rd (RATE.FB_SCALE p.val) ≠ 0) →
        (held → (e.loopOf p.val).i = i) ∧
        (¬held → (e.loopOf p.val).i = max 0 (min (100 * loopOne) (i + d.rd (RATE.KI p.val) * err * dt / (256 * 400000000)))) ∧
        e.rd (RATE.LOOP_DUTY p.val) = d.loopDuty p.val (base + (e.loopOf p.val).i) % 2 ^ (RATE.LOOP_DUTY p.val).width ∧
        e.rd (RATE.LOOP_SP p.val) = min 4294967295 sp % 2 ^ (RATE.LOOP_SP p.val).width ∧
        e.rd (RATE.LOOP_PV p.val) = satU (RATE.LOOP_PV p.val).width pv % 2 ^ (RATE.LOOP_PV p.val).width ∧
        (e.loopOf p.val).updTick = some k ∧ (∀ q, q ≠ p.val → e.loopOf q = d.loopOf q) ∧
        OnlyRegs [RATE.LOOP_DUTY p.val, RATE.LOOP_SP p.val, RATE.LOOP_PV p.val] { d with rate := e.rate } e) ∧
      ((d.loopDue k p.val = false ∨ d.rd SYS.LAST_COMMIT ≠ k % 2 ^ 32 ∨ (d.loopOf p.val).updTick = some k ∨ sp = 0) → e = d))) ∧
    (∀ p : Fin 8, Answers (.fbLoss el p) s (fun now d e => d.ticking = true → d.loopEnabled p.val = true →
      let e1 := (tget d.fbk (d.rd (RATE.FB_FBK p.val))).e1
      ((d.loopOf p.val).lostAt = none → d.fbLostAt now p.val e1 = true →
        e.rd (RATE.FB_LOST p.val) = 1 ∧ (e.loopOf p.val).lostAt = some now ∧
        bitOf (e.rd (HDR.PG_EVT_RAW 0x033000)) (EVT.RATE_FB_LOSS - 60) = true ∧
        OnlyRegsAndEvents [RATE.FB_LOST p.val] { d with rate := e.rate } e) ∧
      (∀ l t, (d.loopOf p.val).lostAt = some l → e1 = some t → l < t →
        e.rd (RATE.FB_LOST p.val) = 0 ∧ (e.loopOf p.val).lostAt = none ∧ OnlyRegs [RATE.FB_LOST p.val] { d with rate := e.rate } e))) ∧
    (∀ n : BitVec 10, Answers (.rateSnapshot el n) s (fun _ d e => d.hif.inService = true →
      e.rd RATE.PTR_IDX = n.toNat ∧ e.rd RATE.PT_RATE = (d.rateOf n.toNat).rate % 2 ^ RATE.PT_RATE.width ∧
      e.rd RATE.PT_DUTY = (d.rateOf n.toNat).duty % 2 ^ RATE.PT_DUTY.width ∧ e.rd RATE.PTR_TICK = d.rate.tick % 2 ^ 32 ∧
      e = { d with regs := e.regs })))

/-- R202 to R204: the sensor ports. A data-ready edge or a periodic start begins a transfer that carries the capture time, an
edge while a transfer runs counts in OVERRATE; a transfer is over no earlier than its last bit; a good sample counts, clears STALE and is the
port's newest, a bad one counts in BAD; a port whose newest sample is too old turns STALE with its event.
R213, R218, R223: after one second of good samples the filter leaves kinematic running; POSE_RESET is kept for the next tick;
IMU_PRIMARY returns to the primary sensor only while it is fresh; a history query reports 1 for an instant not yet reached, 2
for one out of the history, and 0 with the instant and the pose where it holds one.
It rests on the readings and choices of log entries 13 and 73. -/
def Obligations.SensorPortsAndPoseCommands : Prop :=
  (∀ (s : State) (el : Nat) (n : Fin 4),
    Answers (.sspDrdy el n) s (fun now d e => d.alive = true → d.rd (SSP.ROLE n.val) ≠ 0 → d.on (SSP.TRIG n.val) = false →
      ((d.sspPort n.val).running.isSome = true → e.rd (SSP.OVERRATE n.val) = counted d (SSP.OVERRATE n.val) ∧ OnlyRegs [SSP.OVERRATE n.val] d e) ∧
      ((d.sspPort n.val).running = none → (∀ t, (d.sspPort n.val).lastEdge = some t → t + us 240 ≤ now) →
        ∃ x : SspTxn, e = { d with ssp := tmod d.ssp n.val (fun p => { p with lastEdge := some now, running := some x }) } ∧
          x.cap = now - d.sspLat n.val ∧ x.start = max now ((d.sspPort n.val).csHigh + us 1) ∧ x.rxLen = d.rd (SSP.RX_LEN_M1 n.val) + 1 ∧
          x.cmd = bytesLE (d.rd (SSP.CMD_LEN n.val)) (d.rd (SSP.SSP_CMD n.val)) ∧ x.mode3 = d.on (SSP.SPI_MODE n.val))) ∧
    Answers (.sspPeriodicStart el n) s (fun now d e => d.alive = true → d.rd (SSP.ROLE n.val) ≠ 0 → d.on (SSP.TRIG n.val) = true →
      d.sys.gridOn = true → d.sys.tEpoch ≤ now → (d.sspPort n.val).running = none →
      let per := perRateCycles (d.rd (SSP.PER_RATE n.val))
      let start := d.sys.tEpoch + (now - d.sys.tEpoch) / per * per
      ((d.sspPort n.val).nextPer ≤ start →
        ∃ x : SspTxn, e = { d with ssp := tmod d.ssp n.val (fun p => { p with nextPer := start + per, running := some x }) } ∧
          x.start = max now ((d.sspPort n.val).csHigh + us 1) ∧ x.cap = x.start - d.sspLat n.val ∧
          x.rxLen = d.rd (SSP.RX_LEN_M1 n.val) + 1) ∧
      (start < (d.sspPort n.val).nextPer → e = d)) ∧
    (∀ rx : List Byte, Answers (.sspSample el n rx) s (fun now d e => d.alive = true → ∀ x, (d.sspPort n.val).running = some x →
      let bs := (natBytes rx).take x.rxLen
      (now < x.lastBit → e = d) ∧ (x.lastBit ≤ now →
      (e.sspPort n.val).running = none ∧ (e.sspPort n.val).csHigh = now ∧
      ((bs.getD (d.rd (SSP.STAT_OFS n.val)) 0 &&& d.rd (SSP.STAT_MASK n.val)) ≠ 0 → e.rd (SSP.BAD n.val) = counted d (SSP.BAD n.val) ∧
        (e.sspPort n.val).lastAt = (d.sspPort n.val).lastAt) ∧
      ((bs.getD (d.rd (SSP.STAT_OFS n.val)) 0 &&& d.rd (SSP.STAT_MASK n.val)) = 0 → d.on (SSP.CNT_EN n.val) = false →
        e.rd (SSP.SAMPLES n.val) = counted d (SSP.SAMPLES n.val) ∧ e.rd (SSP.STALE n.val) = 0 ∧
        (e.sspPort n.val).lastAt = some now ∧ (e.sspPort n.val).last.dt = x.cap)))) ∧
    Answers (.sspStale el n) s (fun now d e => d.alive = true → d.rd (SSP.ROLE n.val) ≠ 0 → d.on (SSP.STALE n.val) = false →
      (∀ t, (d.sspPort n.val).lastAt = some t →
        (t + ms (d.sspLimit n.val) ≤ now → e.rd (SSP.STALE n.val) = 1 ∧
          bitOf (e.rd (HDR.PG_EVT_RAW 0x037000)) (EVT.SSP_STALE - 84) = true ∧ OnlyRegsAndEvents [SSP.STALE n.val] d e) ∧
        (now < t + ms (d.sspLimit n.val) → e = d)))) ∧
  (∀ (s : State) (el : Nat),
    Answers (.imuReturn el) s (fun now d e => d.ticking = true → d.poseEn = true → d.pose.kin = true →
      ∀ g, d.pose.goodFrom = some g →
        (g + sec 1 ≤ now → e.pose.kin = false ∧ e.pose.level = {} ∧ e.pose.pose = d.pose.pose ∧ e.pose.hist = d.pose.hist ∧
          e = { d with pose := { d.pose with kin := false, level := {}, filt := e.pose.filt } }) ∧ (now < g + sec 1 → e = d)) ∧
    Answers (.poseReset el) s (fun _ d e => d.hif.inService = true → e = { d with pose := { d.pose with resetReq := true } }) ∧
    Answers (.imuPrimary el) s (fun now d e => d.hif.inService = true → ∀ n, d.rolePort 1 = some n →
      (d.pose.spare = true → d.imuStaleAt now n = false →
        e = { d with pose := { d.pose with spare := false, goodFrom := some now } }) ∧
      (d.imuStaleAt now n = true → e = d)) ∧
    (∀ hi : Word, Answers (.historyQuery el hi) s (fun _ d e => d.hif.inService = true →
      let q := d.wr POSE.HQ_DT_HI hi.toNat
      let ns := q.rd2 POSE.HQ_DT_LO POSE.HQ_DT_HI
      e.rd POSE.HQ_DT_HI = hi.toNat ∧ e = { d with regs := e.regs } ∧
      (q.poseAt (cyclesOfNs ns) = .notYet → e.rd POSE.HQ_STATUS = 1 ∧ e.rd (POSE.HQ_ENTRY 0) = 0) ∧
      (q.poseAt (cyclesOfNs ns) = .outOfHistory → e.rd POSE.HQ_STATUS = 2 ∧ e.rd (POSE.HQ_ENTRY 0) = 0) ∧
      (∀ x, q.poseAt (cyclesOfNs ns) = .found x → e.rd POSE.HQ_STATUS = 0 ∧ e.rd (POSE.HQ_ENTRY 0) = ns % 2 ^ 32 ∧
        e.rd (POSE.HQ_ENTRY 2) = satS 32 x.x % 2 ^ 32 ∧ e.rd (POSE.HQ_ENTRY 3) = satS 32 x.y % 2 ^ 32))))

/-- R181: at every instant at which a loop is judged. A deviation needs SP above 0, FB_LOST clear, DEV_PCT not 0 and
100 × |SP − PV| above DEV_PCT × SP; the instant it began at stands while it goes on and is gone at a break; once it has lasted
DEV_TIME, DEV_ACT sets and EVT_RATE_DEVIATION is raised, and DEV_ACT clears after DEV_TIME without deviation; nothing else
changes, so nothing the device drives. The command judges its loop so. -/
def Obligations.RateDeviation : Prop :=
  (∀ (d : Dev) (now t p sp : Nat) (pv : Int) (dev : Prop) (hold : Nat), p < 8 →
    (dev ↔ d.rd (RATE.DEV_PCT p) ≠ 0 ∧ 0 < sp ∧ d.on (RATE.FB_LOST p) = false ∧
      (d.rd (RATE.DEV_PCT p) * sp : Int) < 100 * ((sp : Int) - pv).natAbs) →
    hold = ms (100 * d.rd (RATE.DEV_TIME p)) →
    ∀ e, e = d.devCheck now t p sp pv →
      (dev → (e.loopOf p).devFrom = some ((d.loopOf p).devFrom.getD t) ∧ (e.loopOf p).okFrom = none ∧
        (d.on (RATE.DEV_ACT p) = true → e.on (RATE.DEV_ACT p) = true) ∧
        (d.on (RATE.DEV_ACT p) = false →
          ((d.loopOf p).devFrom.getD t + hold ≤ t → e.on (RATE.DEV_ACT p) = true ∧ e.raised EVT.RATE_DEVIATION p = true) ∧
          (t < (d.loopOf p).devFrom.getD t + hold → e.on (RATE.DEV_ACT p) = false ∧ e = { d with rate := e.rate }))) ∧
      (¬ dev → (e.loopOf p).devFrom = none ∧ (e.loopOf p).okFrom = some ((d.loopOf p).okFrom.getD t) ∧
        (d.on (RATE.DEV_ACT p) = false → e.on (RATE.DEV_ACT p) = false) ∧
        (d.on (RATE.DEV_ACT p) = true →
          ((d.loopOf p).okFrom.getD t + hold ≤ t → e.on (RATE.DEV_ACT p) = false) ∧
          (t < (d.loopOf p).okFrom.getD t + hold → e.on (RATE.DEV_ACT p) = true)) ∧
        OnlyRegs [RATE.DEV_ACT p] { d with rate := e.rate } e) ∧
      OnlyRegsAndEvents [RATE.DEV_ACT p] { d with rate := e.rate } e ∧ (∀ q, q ≠ p → e.loopOf q = d.loopOf q)) ∧
  (∀ (s : State) (el : Nat) (p : Fin 8), Answers (.rateDeviation el p) s (fun now d e => d.ticking = true → d.loopEnabled p.val = true →
    let r := d.loopPv now p.val
    e = r.2.devCheck now now p.val (r.2.rd (RATE.LOOP_SP p.val)) r.1 ∧
    ((d.rd (RATE.LOOP_KIND p.val) = 2 ∨ d.rd (RATE.FB_SCALE p.val) ≠ 0) → d.rd (RATE.DEV_PCT p.val) ≠ 0 → d.on (RATE.FB_LOST p.val) = false →
      (d.rd (RATE.DEV_PCT p.val) * d.rd (RATE.LOOP_SP p.val) : Int) < 100 * ((d.rd (RATE.LOOP_SP p.val) : Int) - r.1).natAbs →
      0 < d.rd (RATE.LOOP_SP p.val) → d.on (RATE.DEV_ACT p.val) = false →
      ∀ f, (d.loopOf p.val).devFrom = some f →
        (f + ms (100 * d.rd (RATE.DEV_TIME p.val)) ≤ now → e.on (RATE.DEV_ACT p.val) = true ∧ e.raised EVT.RATE_DEVIATION p.val = true) ∧
        (now < f + ms (100 * d.rd (RATE.DEV_TIME p.val)) → e.on (RATE.DEV_ACT p.val) = false))))

/-! ### GNSS and TIME -/

/-- R226: the antenna supervision: below ANT_OPEN_MA the state turns OPEN, and OK again from there on; a short switches the bias off,
counts, and is tried again after ANT_RETRY; each change of state raises EVT_GNSS_ANT.
R229, Table 07.3: the states of a channel. A detection takes ACQ to PULL_IN and REACQ to CODE_LOCK; ACQ ends after 60 s, REACQ
after 10 s, PULL_IN passes to CODE_LOCK after 200 ms; code lock comes to phase lock; a loss of phase returns to code lock, a
cycle slip restarts the lock time. No other channel changes, and nothing but the channels. -/
def Obligations.AntennaAndChannelStates : Prop :=
  (∀ (s : State) (el : Nat) (ma : BitVec 6),
    Answers (.antOpen el ma) s (fun _ d e => d.alive = true →
      (d.rd GNSS.ANT_STATE = 1 → ma.toNat < d.antOpenMa → e.rd GNSS.ANT_STATE = 2 ∧ e.rd GNSS.ANT_MA = ma.toNat ∧
        bitOf (e.rd (HDR.PG_EVT_RAW 0x035000)) (EVT.GNSS_ANT - 88) = true ∧ OnlyRegsAndEvents [GNSS.ANT_MA, GNSS.ANT_STATE] d e) ∧
      (d.antOpenMa ≤ ma.toNat → e = d)) ∧
    Answers (.antOk el ma) s (fun _ d e => d.alive = true →
      (d.rd GNSS.ANT_STATE = 2 → d.antOpenMa ≤ ma.toNat → e.rd GNSS.ANT_STATE = 1 ∧ e.rd GNSS.ANT_MA = ma.toNat ∧
        e.raised EVT.GNSS_ANT 0 = true ∧ OnlyRegsAndEvents [GNSS.ANT_MA, GNSS.ANT_STATE] d e) ∧
      (d.rd GNSS.ANT_STATE ≠ 2 → e = d)) ∧
    Answers (.antShort el) s (fun now d e => d.alive = true → (d.rd GNSS.ANT_STATE = 1 ∨ d.rd GNSS.ANT_STATE = 2) →
      e.rd GNSS.ANT_STATE = 3 ∧ e.rd GNSS.ANT_MA = 0 ∧ e.rd GNSS.ANT_SHORTS = counted d GNSS.ANT_SHORTS ∧
      e.raised EVT.GNSS_ANT 0 = true ∧ e.gnss = { d.gnss with biasOffAt := some now }) ∧
    Answers (.antRetry el) s (fun now d e => d.alive = true → d.rd GNSS.ANT_STATE = 3 → ∀ t, d.gnss.biasOffAt = some t →
      (t + sec (max 1 (d.rd GNSS.ANT_RETRY)) ≤ now → e.rd GNSS.ANT_STATE = 1 ∧ e.raised EVT.GNSS_ANT 0 = true ∧
        e.gnss = { d.gnss with biasOffAt := none }) ∧
      (now < t + sec (max 1 (d.rd GNSS.ANT_RETRY)) → e = d))) ∧
  (∀ (s : State) (el : Nat) (ch : Fin 128),
    Answers (.signalDetection el ch) s (fun now d e => d.gnssOn = true →
      ((d.chan ch).st = .acq → (e.chan ch).st = .pullIn ∧ (e.chan ch).since = now) ∧
      ((d.chan ch).st = .reacq → (e.chan ch).st = .codeLock ∧ (e.chan ch).since = now) ∧
      ((d.chan ch).st ≠ .acq → (d.chan ch).st ≠ .reacq → e = d)) ∧
    Answers (.channelTimeout el ch) s (fun now d e => d.gnssOn = true →
      ((d.chan ch).st = .acq → (d.chan ch).since + sec 60 ≤ now → (e.chan ch).st = .idle) ∧
      ((d.chan ch).st = .reacq → (d.chan ch).since + sec 10 ≤ now → (e.chan ch).st = .idle) ∧
      ((d.chan ch).st = .pullIn → (d.chan ch).since + ms 200 ≤ now → (e.chan ch).st = .codeLock) ∧
      ((d.chan ch).st.locked = true → ∀ t, (d.chan ch).weakSince = some t → t + sec 1 ≤ now → (e.chan ch).st = .reacq) ∧
      ((d.chan ch).st = .idle → e = d)) ∧
    Answers (.carrierPhaseLock el ch) s (fun now d e => d.gnssOn = true →
      ((d.chan ch).st = .codeLock → (e.chan ch).st = .phaseLock ∧ (e.chan ch).lockFrom = now) ∧
      ((d.chan ch).st ≠ .codeLock → e = d)) ∧
    (∀ slip : Bool, Answers (.phaseLoss el ch slip) s (fun now d e => d.gnssOn = true → (d.chan ch).st = .phaseLock →
      (e.chan ch).slip = true ∧ (e.chan ch).lockFrom = now ∧ (e.chan ch).st = (if slip then .phaseLock else .codeLock))) ∧
    (∀ (i : Instr) (slip : Bool), i ∈ [Instr.signalDetection el ch, .channelTimeout el ch, .carrierPhaseLock el ch, .phaseLoss el ch slip] →
      Answers i s (fun _ d e => e = { d with gnss := { d.gnss with chans := e.gnss.chans } } ∧ ∀ n, n ≠ ch.val → e.chan n = d.chan n)))

/-- R231 to R233: a measurement epoch at a point of the epoch grid not taken before is kept as the newest, with its DT in SOL_DT; at one
already taken nothing changes. A navigation unit of a phase-locked channel counts as passed or failed by its check, and a passed one keeps
the ephemeris it brings; RAW_IDX shows the raw record of a channel.
R241, EMBER tracking: a burst uses the locked L1-band signals of up to 8 satellites; with 5 of them or more and an uncertainty of at most
50 ns it keeps or makes the time GNSS from GNSS and INVALID, else the time stands; one per second; an
ephemeris burst for a used satellite within 30 minutes of its expiry renews that ephemeris, one per 10 minutes.
It rests on the readings and choices of log entries 14 and 78. -/
def Obligations.EpochsUnitsRawRecordsAndBursts : Prop :=
  (∀ (s : State) (el : Nat),
    (∀ x : EpochIn, Answers (.measurementEpoch el x) s (fun now d e => d.gnssOn = true →
      (d.gnss.epochAt = none ∨ (∃ t, d.gnss.epochAt = some ((d.epochPoint now).1, t) ∧ t < (d.epochPoint now).2) →
        e.gnss.lastEpoch = some (d.epochDt now) ∧ e.gnss.epochAt = some (d.epochPoint now) ∧ e.gnss.almanac = true ∧
        e.rd GNSS.SOL_DT_LO = nsOf (d.epochDt now) % 2 ^ 32) ∧
      (∀ t, d.gnss.epochAt = some ((d.epochPoint now).1, t) → (d.epochPoint now).2 ≤ t → e = d))) ∧
    (∀ (ch : Fin 128) (u : NavUnit), Answers (.navUnit el ch u) s (fun _ d e => d.gnssOn = true → d.on GNSS.NAV_STREAM_EN = false →
      ((d.chan ch).st ≠ .phaseLock → e = d) ∧
      ((d.chan ch).st = .phaseLock → (d.chan ch).unitOk u = false → e.rd GNSS.NAV_FAIL = counted d GNSS.NAV_FAIL ∧
        OnlyRegs [GNSS.NAV_FAIL] { d with gnss := { d.gnss with chans := e.gnss.chans } } e) ∧
      (∀ x, (d.chan ch).st = .phaseLock → (d.chan ch).unitOk u = true → u.expiry = some x → u.utc = none →
        e.rd GNSS.NAV_PASS = counted d GNSS.NAV_PASS ∧ tget? e.gnss.nav (256 * (d.chan ch).sig + (d.chan ch).sv) = some x ∧
        OnlyRegs [GNSS.NAV_PASS] { d with gnss := e.gnss } e))) ∧
    (∀ ch : BitVec 7, Answers (.rawIdxSnapshot el ch) s (fun _ d e => d.hif.inService = true →
      e.rd GNSS.RAW_IDX = ch.toNat ∧ e.rd (GNSS.RAW_REC 0) = ((tget? d.gnss.raw ch.toNat).getD [ch.toNat]).getD 0 0 % 2 ^ 32 ∧
      e = { d with regs := e.regs }))) ∧
  (∀ (s : State) (el : Nat),
    (∀ (obs : List ChanObs) (t : TimeSol), Answers (.emberBurst el obs t) s (fun now d e =>
      (d.emberTrk = false ∨ (∃ b, d.gnss.lastBurst = some b ∧ now < b + sec 1) → e = d) ∧
      (d.emberTrk = true → (∀ b, d.gnss.lastBurst = some b → b + sec 1 ≤ now) →
        ∀ sats, sats = (((obs.filter (fun o => (d.chan o.ch).st.locked && (d.chan o.ch).sig % 2 == 0)).map (fun o => d.satOf o.ch)).dedup).take 8 →
          e.gnss.lastBurst = some now ∧ e.gnss.usedSats = sats ∧
          (5 ≤ sats.length → t.unc ≤ 50 → (d.rd TIME.TIME_STATUS = 0 ∨ d.rd TIME.TIME_STATUS = 3) → e.rd TIME.TIME_STATUS = 0) ∧
          ((sats.length < 5 ∨ 50 < t.unc) → e = { d with gnss := { d.gnss with lastBurst := some now, usedSats := sats, chans := e.gnss.chans } })))) ∧
    (∀ (sig : Fin 7) (sv : BitVec 8) (x : Nat) (ok : Bool), Answers (.ephemerisBurst el sig sv x ok) s (fun now d e => d.emberTrk = true →
      (d.gnss.usedSats.contains (sig.val / 2, sv.toNat) = false → e = d) ∧
      (d.gnss.usedSats.contains (sig.val / 2, sv.toNat) = true → (∀ b, d.gnss.lastEphBurst = some b → b + sec 600 ≤ now) →
      ∀ o, tget? d.gnss.nav (256 * sig + sv.toNat) = some o →
        (o ≤ now + sec 1800 → e.gnss.lastEphBurst = some now ∧
          tget? e.gnss.nav (256 * sig + sv.toNat) = some (if ok then x else o) ∧ e = { d with gnss := e.gnss }) ∧
        (now + sec 1800 < o → e = d)))))

/-- R236 to R239, RTCM: a push of 1 to 1,024 bytes that fits appends the window's bytes to the input, one that does not fit sets RTCM_OVF; a
frame whose CRC fails is counted, the search going on one byte later; a passed station message renews its station and its base position; an open
correction epoch closes after 200 ms, and the first one names its station in BASE_ID; corrections older than their limit raise
EVT_GNSS_CORR_AGE once.
It rests on the reading or choice of log entry 75. -/
def Obligations.CorrectionInput : Prop :=
  ∀ (s : State) (el : Nat),
    (∀ n : BitVec 13, Answers (.rtcmPush el n) s (fun _ d e => d.hif.inService = true →
      (0 < n.toNat → n.toNat ≤ 1024 → d.gnss.rtcm.length + n.toNat ≤ 8192 →
        e = { d with gnss := { d.gnss with rtcm := d.gnss.rtcm ++ memGetBytes d.mem 0x035400 n.toNat } }) ∧
      ((1024 < n.toNat ∨ 0 < n.toNat ∧ 8192 < d.gnss.rtcm.length + n.toNat) → e.rd GNSS.RTCM_OVF = 1 ∧ OnlyRegs [GNSS.RTCM_OVF] d e))) ∧
    Answers (.rtcmFrame el) s (fun now d e => d.gnssOn = true → ∀ q, q = d.gnss.rtcm.dropWhile (· != 0xD3) → 3 ≤ q.length →
      bitsBE q 8 6 = 0 → ∀ len, len = bitsBE q 14 10 →
      (q.length < len + 6 → e = { d with gnss := { d.gnss with rtcm := q } }) ∧
      (len + 6 ≤ q.length → crc24q (q.take (len + 3)) ≠ bitsBE q (8 * (len + 3)) 24 →
        e.rd GNSS.RTCM_CRC_ERR = counted d GNSS.RTCM_CRC_ERR ∧ e.gnss.rtcm = q.drop 1) ∧
      (len + 6 ≤ q.length → crc24q (q.take (len + 3)) = bitsBE q (8 * (len + 3)) 24 →
        (bitsBE ((q.drop 3).take len) 0 12 = 1005 ∨ bitsBE ((q.drop 3).take len) 0 12 = 1006) →
        e = { d with gnss := { d.gnss with rtcm := q.drop (len + 6),
                                           stations := tset d.gnss.stations (bitsBE ((q.drop 3).take len) 12 12) now,
                                           bases := tset d.gnss.bases (bitsBE ((q.drop 3).take len) 12 12)
                                             (basePosition ((q.drop 3).take len)) } })) ∧
    Answers (.correctionEpochClose el) s (fun now d e => d.gnssOn = true →
      (∀ c, d.gnss.opens.filter (fun c => decide (c.first + ms 200 ≤ now)) = [c] → d.gnss.closed = none →
        e.gnss.closed = some c ∧ e.rd GNSS.BASE_ID = c.station % 2 ^ GNSS.BASE_ID.width ∧ ∀ x ∈ e.gnss.opens, x.time ≠ c.time) ∧
      ((∀ c ∈ d.gnss.opens, now < c.first + ms 200) → e = d)) ∧
    Answers (.corrAge el) s (fun now d e => d.gnssOn = true → ∀ a, d.corrAgeMs now = some a →
      (a ≤ d.corrAgeMax → e = { d with gnss := { d.gnss with ageFired := false } }) ∧
      (d.corrAgeMax < a → d.gnss.ageFired = false → e.gnss.ageFired = true ∧
        bitOf (e.rd (HDR.PG_EVT_RAW 0x035000)) (EVT.GNSS_CORR_AGE - 88) = true) ∧
      (d.corrAgeMax < a → d.gnss.ageFired = true → e = d))

/-- R246, R249 to R251, the time unit: without a good solution for 2 s GNSS turns HOLDOVER with no steering, HOLDOVER past HOLDOVER_MAX turns
FREERUN; after 10 s of good solutions a small error is slewed out and the status is GNSS, a large one becomes a step that is due
at a whole GPS second, sets STEP and STEP_SIZE and raises EVT_TIME_STEP; a leap second takes effect at its second.
R244, R245, R247, the GPS map: re-anchored second by second while the time is valid, each time with what is left of a phase error and the
rate that removes at most 200 ns of it in the next second; shown whole by MAP_SNAP, with TIME_STATUS latched for its read; the time pulse
takes an edge for each multiple of its period not marked before, and shows the DT of the newest.
It rests on the readings and choices of log entries 77 and 130. -/
def Obligations.TimeStatusMapAndPulse : Prop :=
  (∀ (s : State) (el : Nat),
    Answers (.holdover el) s (fun now d e => d.alive = true → d.rd TIME.TIME_STATUS = 0 → ∀ b, d.time.base = some b →
      (b + sec 2 ≤ now → e.rd TIME.TIME_STATUS = 1 ∧ e.rd TIME.SLEWING = 0 ∧ e.rd TIME.SLEW_REM = 0 ∧ e.time.slew = 0 ∧
        e.time.goodFrom = none ∧ bitOf (e.rd (HDR.PG_EVT_RAW 0x036000)) (EVT.TIME_STATUS - 92) = true) ∧
      (now < b + sec 2 → e = d)) ∧
    Answers (.freerun el) s (fun now d e => d.alive = true → d.rd TIME.TIME_STATUS = 1 →
      (∀ b, d.time.base = some b →
        (b + sec (max 1 (d.rd TIME.HOLDOVER_MAX)) < now → e.rd TIME.TIME_STATUS = 2 ∧ e.raised EVT.TIME_STATUS 0 = true ∧
          OnlyRegsAndEvents [TIME.TIME_STATUS] d e) ∧
        (now ≤ b + sec (max 1 (d.rd TIME.HOLDOVER_MAX)) → e = d)) ∧
      (d.time.base = none → e = d)) ∧
    Answers (.timeReturn el) s (fun now d e => d.alive = true → (d.rd TIME.TIME_STATUS = 1 ∨ d.rd TIME.TIME_STATUS = 2) →
      d.time.stepDue = none → ∀ f l, d.time.goodFrom = some f → d.time.lastGood = some l → f + sec 10 ≤ now → now ≤ l + sec 2 →
      (d.time.err.natAbs < 20000 → e.rd TIME.TIME_STATUS = 0 ∧ e.time.slew = d.time.err ∧
        e.rd TIME.SLEWING = b2n (decide (d.time.err ≠ 0)) ∧ e.raised EVT.TIME_STATUS 0 = true) ∧
      (20000 ≤ d.time.err.natAbs → e.time.stepDue.isSome = true ∧ e = { d with time := { d.time with stepDue := e.time.stepDue } })) ∧
    Answers (.nextWholeGpsSecond el) s (fun now d e => d.alive = true →
      (d.time.stepDue = none → d.rd TIME.TIME_STATUS ≠ 3 → d.time.lastSec < d.time.map.gps (nsOf now) / 1000000000 →
        e = { d with time := { d.time with lastSec := d.time.map.gps (nsOf now) / 1000000000, tpoRate := d.rd TIME.TPO_RATE } }) ∧
      (∀ x q, d.time.stepDue = some (x, q) → q * 1000000000 ≤ (d.time.map.shift x).gps (nsOf now) →
        e.rd TIME.STEP = 1 ∧ e.rd TIME.STEP_SIZE = satS 32 x % 2 ^ 32 ∧ e.rd TIME.TIME_STATUS = 0 ∧ e.time.stepDue = none ∧
        bitOf (e.rd (HDR.PG_EVT_RAW 0x036000)) (EVT.TIME_STEP - 92) = true)) ∧
    Answers (.leapSecond el) s (fun now d e => d.alive = true → d.rd TIME.TIME_STATUS ≠ 3 → ∀ q v, d.time.leap = some (q, v) →
      (q * 1000000000 ≤ d.time.map.gps (nsOf now) →
        e.rd TIME.LEAP_SEC = v % 2 ^ TIME.LEAP_SEC.width ∧ e.rd TIME.LEAP_PENDING = 0 ∧ e.time = { d.time with leap := none } ∧
        bitOf (e.rd (HDR.PG_EVT_RAW 0x036000)) (EVT.TIME_LEAP - 92) = true) ∧
      (d.time.map.gps (nsOf now) < q * 1000000000 → e = d))) ∧
  (∀ (s : State) (el : Nat),
    Answers (.mapReanchor el) s (fun now d e => d.alive = true →
      (d.rd TIME.TIME_STATUS ≠ 3 → d.time.map.dt + 1000000000 ≤ nsOf now → nsOf now < d.time.map.dt + 2000000000 →
        ∀ rem, rem = d.time.slew - d.time.slewNow * ((d.time.map.dt + 1000000000 - d.time.slewAt : Nat) : Int) / 1000000000 →
          e.time.map.dt = d.time.map.dt + 1000000000 ∧ e.time.slew = rem ∧ e.time.slewNow = slewPart rem ∧
          e.time.map.rate = d.time.freqRate - 1000 * slewPart rem ∧
          (d.on TIME.SLEWING = true → e.rd TIME.SLEW_REM = satS 32 rem % 2 ^ 32 ∧ e.rd TIME.SLEWING = b2n (decide (rem ≠ 0))) ∧
          OnlyRegs [TIME.SLEWING, TIME.SLEW_REM] { d with time := e.time } e) ∧
      (d.rd TIME.TIME_STATUS ≠ 3 → d.time.map.dt ≤ nsOf now → nsOf now < d.time.map.dt + 65000000000 →
        e.time.map.dt ≤ nsOf now ∧ nsOf now < e.time.map.dt + 1000000000) ∧
      ((d.rd TIME.TIME_STATUS = 3 ∨ nsOf now < d.time.map.dt + 1000000000) → e = d)) ∧
    Answers (.mapSnap el) s (fun _ d e => d.hif.inService = true →
      e.rd TIME.MAP_DT_LO = d.time.map.dt % 2 ^ 32 ∧ e.rd TIME.MAP_DT_HI = d.time.map.dt / 2 ^ 32 % 2 ^ 32 ∧
      e.rd TIME.MAP_NSW_LO = d.time.map.nsw % 2 ^ 32 ∧ e.rd TIME.MAP_WEEK = d.time.map.week % 2 ^ TIME.MAP_WEEK.width ∧
      e.rd TIME.MAP_RATE = satS TIME.MAP_RATE.width d.time.map.rate % 2 ^ TIME.MAP_RATE.width ∧
      tget? e.hif.latch 0x03604C = some (d.rd TIME.TIME_STATUS) ∧
      OnlyRegs [TIME.MAP_DT_LO, TIME.MAP_DT_HI, TIME.MAP_NSW_LO, TIME.MAP_NSW_HI, TIME.MAP_WEEK, TIME.MAP_RATE]
        { d with hif := { d.hif with latch := e.hif.latch } } e) ∧
    Answers (.tpoPulse el) s (fun now d e =>
      let x := (d.tpoMap now).lastEdge now d.tpoPeriod (d.rdS TIME.TPO_OFS)
      (d.tpoActive = true → (d.time.tpoMark = none ∨ ∃ j, d.time.tpoMark = some (d.rdS TIME.TPO_OFS, j) ∧ j < d.tpoMultiple now) →
        d.time.tpoFrom ≤ x →
        e.time = { d.time with tpoEdge := some x, tpoMark := some (d.rdS TIME.TPO_OFS, d.tpoMultiple now) } ∧
        e.rd TIME.TPO_DT_LO = nsOf x % 2 ^ 32 ∧ e.rd TIME.TPO_DT_HI = nsOf x / 2 ^ 32 % 2 ^ 32) ∧
      ((d.tpoActive = false ∨ x < d.time.tpoFrom ∨ ∃ j, d.time.tpoMark = some (d.rdS TIME.TPO_OFS, j) ∧ d.tpoMultiple now ≤ j) → e = d)))

/-! ### GRID and CAL -/

/-- R259, R270, R276, R280, R282, R292, the grid's own commands: a camera trigger whose time has come is counted and kept, once for its tick;
NET_LOAD shows the result of its checks
and the network comes due, or EVT_GRID_NET_REFUSED is raised; WIN_CLEAR empties the layer; a health window that ends shows the tiles of
each source in RATE_LAST and the load in LOAD_ACT, and the counts of the next begin at zero; AUDIT_REQ enters AUDIT with cause 2;
a source held for cause 5 is lifted; the snapshots of a pair and of a cell.
R258, R261, feature tiles: behind a held tile a tile waits; one with a header that is too short, of another type or whose CRC fails, and
one that the grid does not take now, count in DROP_OTHER and change nothing else; one outside its map or without capture time counts in
HDR_ERR, one too old in DROP_HIST; any other is held while its capture lies past the newest pose, dropped where there is no pose for it, and
of a SUSPECT source counted with its age and not used.
It rests on the readings and choices of log entries 15 and 81. -/
def Obligations.GridAndFeatureTiles : Prop :=
  (∀ (s : State) (el : Nat),
    Answers (.cameraTrigger el) s (fun now d e => d.gridRuns = true → d.sys.gridOn = true →
      ∀ k t, k = d.tickCnt now - d.tickCnt now % d.trigDiv → t = d.edgeOf k + d.trgPhase → d.sys.nEpoch ≤ k → t ≤ now →
      ((∀ j, d.grid.trigTick = some j → j < k) →
        e.grid.trigCnt = d.grid.trigCnt + 1 ∧ e.grid.trigTick = some k ∧ e.grid.trigs.head? = some (d.grid.trigCnt + 1, t) ∧
        (∀ x ∈ d.grid.trigs, now ≤ x.2 + sec 8 → x ∈ e.grid.trigs) ∧ e = { d with grid := e.grid }) ∧
      (∀ j, d.grid.trigTick = some j → k ≤ j → e = d)) ∧
    Answers (.netLoad el) s (fun _ d e => d.hif.inService = true →
      (d.netCheck.1 = 0 → e.rd GRID.NET_ERR = 0 ∧ e.grid = { d.grid with netDue := some d.netCheck.2 } ∧
        OnlyRegs [GRID.NET_ERR] { d with grid := e.grid } e) ∧
      (d.netCheck.1 ≠ 0 → e.rd GRID.NET_ERR = d.netCheck.1 % 2 ^ GRID.NET_ERR.width ∧
        bitOf (e.rd (HDR.PG_EVT_RAW 0x038000)) (EVT.GRID_NET_REFUSED - 96) = true ∧ OnlyRegsAndEvents [GRID.NET_ERR] d e)) ∧
    Answers (.winClear el) s (fun _ d e => d.hif.inService = true →
      e.grid = { d.grid with blocks := [] } ∧ e.rd GRID.BLK_USED = 0 ∧ OnlyRegs [GRID.BLK_USED] { d with grid := e.grid } e) ∧
    Answers (.healthWindow el) s (fun now d e => d.gridRuns = true →
      (d.winEnds (d.tickCnt now) = true →
        e.grid.winTick = some (d.tickCnt now) ∧ e.grid.macs = 0 ∧
        e.rd GRID.LOAD_ACT = satU GRID.LOAD_ACT.width (roundDiv d.grid.macs 100000000) % 2 ^ GRID.LOAD_ACT.width ∧
        e.grid.shared0 = d.grid.shared ∧ e.grid.contra0 = d.grid.contra ∧
        (∀ k, k < 16 → (e.gsrc k).cur = {} ∧
          e.rd (GRID.RATE_LAST k) = satU (GRID.RATE_LAST k).width (d.gsrc k).cur.tiles % 2 ^ (GRID.RATE_LAST k).width)) ∧
      (d.winEnds (d.tickCnt now) = false → e = d)) ∧
    Answers (.auditReq el) s (fun _ d e => d.hif.inService = true →
      (d.gridRuns = true → d.on GRID.NET_OK = true → e.rd GRID.GRID_MODE = 1 ∧ e.rd GRID.AUDIT_CAUSE = 2) ∧
      (d.gridRuns = false → e = d)) ∧
    (∀ src : Fin 16, Answers (.srcRetry el src) s (fun _ d e => d.hif.inService = true →
      (d.rd (GRID.SUS_CAUSE src.val) = 5 → (e.gsrc src.val).lifted = true) ∧
      (d.rd (GRID.SUS_CAUSE src.val) ≠ 5 → e.gsrc src.val = d.gsrc src.val) ∧ (∀ n, n ≠ src.val → e.gsrc n = d.gsrc n) ∧
      e = { d with grid := { d.grid with src := e.grid.src } })) ∧
    (∀ a b : Fin 16, Answers (.pairSnapshot el a b) s (fun _ d e => d.hif.inService = true →
      e.rd GRID.PAIR_A = a.val ∧ e.rd GRID.PAIR_B = b.val ∧
      (a ≠ b → ∀ v, v = (fun m : KMap => (tget? m (16 * a.val + b.val)).getD 0 + (tget? m (16 * b.val + a.val)).getD 0) →
        e.rd GRID.CONTRA_CNT = satU GRID.CONTRA_CNT.width (v d.grid.contra) % 2 ^ GRID.CONTRA_CNT.width ∧
        e.rd GRID.SHARED_CNT = satU GRID.SHARED_CNT.width (v d.grid.shared) % 2 ^ GRID.SHARED_CNT.width) ∧
      OnlyRegs [GRID.PAIR_A, GRID.PAIR_B, GRID.CONTRA_CNT, GRID.SHARED_CNT] d e)) ∧
    (∀ y : Word, Answers (.gridPeek el y) s (fun _ d e => d.hif.inService = true →
      e.rd GRID.PEEK_RES = b2n (d.tcell (d.rdS GRID.PEEK_X / 20, toS 32 y.toNat / 20)).isSome ∧
      (∀ c, d.tcell (d.rdS GRID.PEEK_X / 20, toS 32 y.toNat / 20) = some c →
        e.rd GRID.PEEK_SCORE = c.score % 2 ^ GRID.PEEK_SCORE.width ∧ e.rd GRID.PEEK_META = c.meta_ % 2 ^ GRID.PEEK_META.width) ∧
      OnlyRegs [GRID.PEEK_SCORE, GRID.PEEK_META, GRID.PEEK_RES] d e))) ∧
  (∀ (s : State) (el : Nat) (hdr : List Byte) (cells : List (Fin 16384 × List Byte)),
    Answers (.featureTile el hdr cells) s (fun now d e => d.alive = true → d.kspUp 0 = true →
      ∀ (w : Nat → Nat) (src : Nat) (cs : List (Nat × List Int)), w = (fun o => ofBytesLE (((hdr.map BitVec.toNat).drop o).take 4)) →
      src = bitsOf (w 0) 8 4 → cs = cells.map (fun x => (x.1.val, x.2.map BitVec.toInt)) →
      (d.grid.held ≠ [] → e = { d with grid := { d.grid with waiting := d.grid.waiting ++ [(now, hdr.map BitVec.toNat, cs)] } }) ∧
      (d.grid.held = [] →
        ((hdr.length < 64 ∨ crc32 ((hdr.map BitVec.toNat).take 60) ≠ w 0x3C ∨ bitsOf (w 0) 0 8 ≠ 0x21) →
          e.rd GRID.DROP_OTHER = counted d GRID.DROP_OTHER ∧ OnlyRegs [GRID.DROP_OTHER] d e) ∧
        (64 ≤ hdr.length → crc32 ((hdr.map BitVec.toNat).take 60) = w 0x3C → bitsOf (w 0) 0 8 = 0x21 →
          ((d.gridRuns = false ∨ d.on GRID.NET_OK = false ∨ d.on (GRID.SRC_EN src) = false ∨ d.rd (GRID.SRC_ERR src) ≠ 0) →
            e.rd GRID.DROP_OTHER = counted d GRID.DROP_OTHER ∧ OnlyRegs [GRID.DROP_OTHER] d e) ∧
          (∀ (n : FusionNet) (raw : Option Nat) (inside : Prop), d.gridRuns = true → d.on GRID.NET_OK = true → d.on (GRID.SRC_EN src) = true →
            d.rd (GRID.SRC_ERR src) = 0 → d.grid.net = some n →
            (inside ↔ bitsOf (w 0) 16 8 = n.featFmt ∧ w 0x18 = 524288 ∧
              bitsOf (w 0x10) 0 16 + 128 ≤ d.rd (CAM.MAP_W src) ∧ bitsOf (w 0x10) 16 16 + 128 ≤ d.rd (CAM.MAP_H src)) →
            raw = (if d.on (CAM.TIMING src) then
                (if now + ms 10 < cyclesOfNs (w 8 + 2 ^ 32 * w 12) then none else some (cyclesOfNs (w 8 + 2 ^ 32 * w 12)))
              else (d.grid.trigs.find? (fun x => x.1 % 65536 == bitsOf (w 4) 16 16 && decide (now ≤ x.2 + sec 8))).map (·.2)) →
            ((¬inside ∨ raw = none) → e.rd (GRID.HDR_ERR src) = counted d (GRID.HDR_ERR src) ∧ OnlyRegs [GRID.HDR_ERR src] d e) ∧
            (∀ r cap, inside → raw = some r → cap = ((r : Int) + d.rdS (CAM.CAP_DLY src) * 400).toNat →
              (cap + sec 4 < now → e.rd GRID.DROP_HIST = counted d GRID.DROP_HIST ∧ e.raised EVT.GRID_TILE_DROP src = true ∧
                OnlyRegsAndEvents [GRID.DROP_HIST] d e) ∧
              (now ≤ cap + sec 4 → d.poseAt cap = .notYet →
                ∀ t : GridTile, t.src = src → t.u0 = bitsOf (w 0x10) 0 16 → t.v0 = bitsOf (w 0x10) 16 16 → t.cap = cap →
                  t.cells = cs.filter (fun x => decide (x.1 < 16384) && !x.2.all (· == -128)) →
                  e = { d with grid := { d.grid with held := [t] } }) ∧
              (now ≤ cap + sec 4 → (d.poseAt cap = .outOfHistory ∨ ∃ p, d.poseAt cap = .found p ∧ p.cls < d.rd GRID.GRID_POSE_MIN) →
                e.rd GRID.DROP_OTHER = counted d GRID.DROP_OTHER ∧ OnlyRegs [GRID.DROP_OTHER] d e) ∧
              (∀ p, now ≤ cap + sec 4 → d.poseAt cap = .found p → d.rd GRID.GRID_POSE_MIN ≤ p.cls → d.grid.waiting = [] →
                d.rd (GRID.HEALTH src) = 3 →
                e.rd (GRID.SRC_TILES src) = counted d (GRID.SRC_TILES src) ∧ (e.gsrc src).cur.tiles = (d.gsrc src).cur.tiles + 1 ∧
                e.rd (GRID.AGE_LAST src) = satU (GRID.AGE_LAST src).width ((now - cap) / ms 16 : Nat) % 2 ^ (GRID.AGE_LAST src).width ∧
                e.grid.blocks = d.grid.blocks ∧ OnlyRegs [GRID.SRC_TILES src, GRID.AGE_LAST src] { d with grid := e.grid } e)))))))

/-- R285, R289: CAL_RESET forgets the correction and the run of every source of its mask, and with an empty mask changes nothing;
corrections changed since the last store are stored at most every 10 s. -/
def Obligations.CalibrationCommands : Prop :=
  ∀ (s : State) (el : Nat),
    (∀ mask : BitVec 16, Answers (.calReset el mask) s (fun _ d e => d.hif.inService = true →
      (mask.toNat = 0 → e = d) ∧
      (∀ src, src < 16 → bitOf mask.toNat src = true → tget? e.cal.corr src = none ∧ tget? e.cal.run src = none ∧ e.cal.changed = true ∧
        e.rd (CAL.D_X src) = 0 ∧ e.rd (CAL.D_Y src) = 0 ∧ e.rd (CAL.D_YAW src) = 0))) ∧
    Answers (.calStore el) s (fun now d e => d.alive = true →
      (d.cal.changed = true → d.cal.storedAt + sec 10 ≤ now →
        e.cal = { d.cal with changed := false, storedAt := now } ∧ e = { d with cal := e.cal, mram := { d.mram with cal := e.mram.cal } }) ∧
      (d.cal.changed = false → e = d))

/-! ### IDC: inductive actuator drive -/

/-- R304 to R311: an on command that is due on an idle channel whose group has room starts a pulse at once, with its commanded
DT and the next PSEQ, and counts it; within MIN_OFF of the drive before it is deferred; the end of a pulse that has come begins the
decay, no earlier than MIN_ON after the start; an off command before MIN_ON moves the end to MIN_ON and marks the pulse; a start
deferred by MIN_OFF starts when MIN_OFF is over, and not before.
It rests on the readings or choices of log entries 86 and 138. -/
def Obligations.PulsesStartAndEnd : Prop :=
  ∀ (s : State) (el : Nat) (c : Fin 32),
    Answers (.pulseStart el c) s (fun now d e => d.driving = true → d.pwr.stage = .none →
      (d.idcCh c.val).act = .idle → (d.idcCh c.val).decay = false → (d.idcCh c.val).pulse = none → (d.idcCh c.val).done = none →
      d.idcBlocked c.val = false → d.idcSusp c.val = false →
      ((d.idcCh c.val).cmds = [] → e = d) ∧
      (∀ k, (d.idcCh c.val).cmds = [k] → k.on = true →
        (now < k.dt → e = d) ∧
        (k.dt ≤ now → k.endAt = none → (d.idcCh c.val).lastEnd = none →
          (∀ j ∈ groupChs (c.val / 4), (d.idcCh j).act = .idle ∧ (d.idcCh j).decay = false) →
          (d.profileAt (d.idcProfNo c.val)).iPk ≤ d.peakLim (c.val / 4) →
          (e.idcCh c.val).act = .on ∧ e.rd (IDC.PULSE_CNT c.val) = counted d (IDC.PULSE_CNT c.val) ∧
          ∃ p, (e.idcCh c.val).pulse = some p ∧ p.cmd = k.dt ∧ p.start = now ∧ p.delay = 0 ∧ p.limit = none ∧
            p.seq = ((d.idcCh c.val).seq + 1) % 65536 ∧ (p.prof.phases.head?.map (·.endOn) = some 0 → p.phase = 0 ∧ p.phaseAt = now)) ∧
        (∀ x, k.dt ≤ now → k.endAt = none → (d.idcCh c.val).lastEnd = some x →
          now < x + 4000 * (d.profileAt (d.idcProfNo c.val)).minOff →
          (e.idcCh c.val).act = .defer ∧ ∃ p, (e.idcCh c.val).pulse = some p ∧ p.cmd = k.dt ∧ bitOf p.flags 3 = true))) ∧
    Answers (.pulseEnd el c) s (fun now d e => d.driving = true → (d.idcCh c.val).cmds = [] → (d.idcCh c.val).act = .on →
      ∀ p x, (d.idcCh c.val).pulse = some p → p.cmdEnd = some x →
        let due := max (x + p.delay) (p.start + 40000 * p.prof.minOn)
        (∀ b, p.phaseEnd (d.phaseMax c.val p) = some b → due ≤ b.1) →
        (due ≤ now →
          (e.idcCh c.val).act = .idle ∧ (e.idcCh c.val).pulse = none ∧ (e.idcCh c.val).decay = true ∧
          (e.idcCh c.val).decFast = p.prof.endFast ∧ (e.idcCh c.val).lastEnd = some due ∧ (e.idcCh c.val).done = some (p.endAt due)) ∧
        (now < due → e = d)) ∧
    Answers (.minOnEnd el c) s (fun now d e => d.driving = true → (d.idcCh c.val).act = .on →
      ∀ p, (d.idcCh c.val).pulse = some p → p.limit = none → p.phaseEnd (d.phaseMax c.val p) = none →
        let least := p.start + 40000 * p.prof.minOn
        (∀ k, p.cmdEnd = none → (d.idcCh c.val).cmds = [k] → k.on = false → k.dt ≤ now → k.dt + p.delay < least →
          (now < least → (e.idcCh c.val).act = .on ∧ ∃ q, (e.idcCh c.val).pulse = some q ∧ q.cmdEnd = some (least - p.delay)) ∧
          (least ≤ now → (e.idcCh c.val).act = .idle ∧ ∃ q, (e.idcCh c.val).done = some q ∧ q.ended = now ∧
            q.cmdEnd = some (least - p.delay) ∧ bitOf q.flags 4 = true ∧ bitOf q.flags 5 = true)) ∧
        (∀ x, p.cmdEnd = some x → (d.idcCh c.val).cmds = [] → x + p.delay ≤ least → least ≤ now →
          (e.idcCh c.val).act = .idle ∧ (e.idcCh c.val).done = some (p.endAt least))) ∧
    Answers (.minOffEnd el c) s (fun now d e => d.driving = true → (d.idcCh c.val).act = .defer →
      ∀ p x, (d.idcCh c.val).pulse = some p → (d.idcCh c.val).lastEnd = some x → p.cmdEnd = none →
        p.waitFrom < x + 4000 * p.prof.minOff →
        (now < x + 4000 * p.prof.minOff → e = d) ∧
        (x + 4000 * p.prof.minOff ≤ now → d.waitsAhead c.val p = false →
          d.groupLoad (c.val / 4) c.val + p.prof.iPk ≤ d.peakLim (c.val / 4) →
          (e.idcCh c.val).act = .on ∧
          ∃ q, (e.idcCh c.val).pulse = some q ∧ q.cmd = p.cmd ∧ q.start = x + 4000 * p.prof.minOff ∧ q.limit = none))

/-- R296, R299, R310 to R319: a sample shows in I_NOW. A phase without an end condition passes to the next at its T_MAX, a RAMP that has
not reached I_HI by then sets PK_WARN; one that ends on its current does so at the sample that reaches I_HI, and not below it. A dip whose
rise makes up half of OK_DIP is the opening. A step of the closing window whose second difference reaches CK_THR is the seating. The decay
that is over leaves the group load and lets a deferred start begin; a start that has waited STAGGER_MAX starts with its peak limited to the
room there is; the record is completed when the closing window has passed.
It rests on the readings or choices of log entries 87 and 138. -/
def Obligations.PhasesDecayAndRecords : Prop :=
  ∀ (s : State) (el : Nat) (c : Fin 32),
    (∀ ma pin : BitVec 16, Answers (.phaseEnd el c ma pin) s (fun now d e => d.driving = true →
      e.rd (IDC.I_NOW c.val) = min 4095 ma.toNat ∧
      ((d.idcCh c.val).act = .on → ∀ p, (d.idcCh c.val).pulse = some p → p.cmdEnd = none → p.limit = none →
        let nx := p.prof.phases.getD (p.phase + 1) {}
        (p.phase + 1 < p.prof.phases.length → nx.endOn = 0 → nx.tMax = 0 →
          (p.ph.endOn = 0 → ∀ t, d.phaseMax c.val p = some t → p.phaseAt + t ≤ now →
            (∃ r, (e.idcCh c.val).pulse = some r ∧ r.phase = p.phase + 1 ∧ r.phaseAt = p.phaseAt + t) ∧
            (p.ph.kind = 0 → p.sense.hit = false → e.rd (IDC.PK_WARN c.val) = 1)) ∧
          (p.ph.endOn = 1 → p.ph.kind = 0 → (∀ b, p.phaseEnd (d.phaseMax c.val p) = some b → now < b.1) →
            p.phaseAt + 4000 * p.ph.tMin ≤ now → p.ph.iHi ≤ ma.toNat →
            ∃ r, (e.idcCh c.val).pulse = some r ∧ r.phase = p.phase + 1 ∧ r.phaseAt = now)) ∧
        (p.ph.endOn = 1 → p.ph.kind = 0 → (∀ b, p.phaseEnd (d.phaseMax c.val p) = some b → now < b.1) →
          (∀ t, d.phaseMax c.val p = some t → now < p.phaseAt + t) → ma.toNat < p.ph.iHi →
          ∃ r, (e.idcCh c.val).pulse = some r ∧ r.phase = p.phase ∧ r.phaseAt = p.phaseAt) ∧
        (∀ v x, p.sense.dipLow = some (v, x) → p.ph.kind = 0 → p.ph.endOn = 2 → ma.toNat < p.ph.iHi → d.alive = true →
          (d.idcCh c.val).holdEnd = none → (∀ b, p.phaseEnd (d.phaseMax c.val p) = some b → now < b.1) →
          p.seeks 0 (p.start + p.sense.step * p.prof.stepLen) = true → p.phaseAt ≤ p.start + p.sense.step * p.prof.stepLen →
          p.sense.lsOn = true → p.sense.reg = false → p.sense.cnt ≠ 0 → (now - p.start) / p.prof.stepLen ≠ p.sense.step →
          v ≤ p.sense.sum / p.sense.cnt → p.prof.okDip ≤ 2 * (p.sense.sum / p.sense.cnt - v) →
          ∃ r, (e.idcCh c.val).pulse = some r ∧ r.openT = some x)) ∧
      ((d.idcCh c.val).act = .idle → d.alive = true → (d.idcCh c.val).holdEnd = none →
        ∀ p, (d.idcCh c.val).done = some p →
          (now < p.ended + 40000 * p.prof.ckBlank ∨ p.ended + ms p.prof.ckWin < now ∨ p.prof.ckEn = false →
            (e.idcCh c.val).done = some p) ∧
          (∀ b a, p.prof.ckEn = true → p.prof.endFast = false → p.ended + 40000 * p.prof.ckBlank ≤ now → now ≤ p.ended + ms p.prof.ckWin →
            p.sense.prev = [b, a] → p.sense.best = none → p.sense.cnt ≠ 0 → (now - p.ended) / p.prof.stepLen ≠ p.sense.step →
            2 * b ≤ p.sense.sum / p.sense.cnt + a → p.prof.ckThr ≤ p.sense.sum / p.sense.cnt + a - 2 * b →
            p.ended + (p.sense.step - 1) * p.prof.stepLen + p.prof.stepLen / 2 ≤ p.ended + ms p.prof.ckWin →
            ∃ r, (e.idcCh c.val).done = some r ∧
              r.sense.best = some (p.sense.sum / p.sense.cnt + a - 2 * b, p.ended + (p.sense.step - 1) * p.prof.stepLen + p.prof.stepLen / 2))))) ∧
    Answers (.endDecayDone el c) s (fun now d e => d.driving = true →
      ((d.idcCh c.val).act = .idle → (e.idcCh c.val).decay = false ∧
        ((d.idcCh c.val).decay = true → (e.idcCh c.val).offFrom = now) ∧ ((d.idcCh c.val).decay = false → e.idcCh c.val = d.idcCh c.val)) ∧
      ((d.idcCh c.val).act = .defer → (d.idcCh c.val).decay = true → ∀ p x, (d.idcCh c.val).pulse = some p →
        (d.idcCh c.val).lastEnd = some x → x + 4000 * p.prof.minOff ≤ p.waitFrom → p.waitFrom ≤ now → p.cmdEnd = none →
        d.waitsAhead c.val p = false → d.groupLoad (c.val / 4) c.val + p.prof.iPk ≤ d.peakLim (c.val / 4) →
        (e.idcCh c.val).act = .on ∧ ∃ q, (e.idcCh c.val).pulse = some q ∧ q.cmd = p.cmd ∧ q.start = now)) ∧
    (∀ g : Fin 8, Answers (.staggerMaxExpiry el g) s (fun now d e => d.driving = true →
      ∀ k, k ∈ groupChs g.val → (d.idcCh k).act = .wait → (∀ j ∈ groupChs g.val, j ≠ k → (d.idcCh j).act = .idle ∧ (d.idcCh j).decay = false) →
        ∀ p, (d.idcCh k).pulse = some p → (d.idcCh k).offDue now = false → d.rd (IDG.GRP_OVL_POLICY g.val) = 0 →
          d.peakLim g.val < p.prof.iPk → p.prof.iLast ≤ d.peakLim g.val →
          (p.waitFrom + 4000 * min 1000 (d.rd (IDG.STAGGER_MAX g.val)) ≤ now →
            (e.idcCh k).act = .on ∧ ∃ q, (e.idcCh k).pulse = some q ∧ q.limit = some (d.peakLim g.val) ∧ bitOf q.flags 1 = true ∧
              q.start = now ∧ q.delay = now - p.waitFrom) ∧
          (now < p.waitFrom + 4000 * min 1000 (d.rd (IDG.STAGGER_MAX g.val)) →
            (e.idcCh k).act = .wait ∧ ∃ q, (e.idcCh k).pulse = some q ∧ bitOf q.flags 0 = true))) ∧
    (∀ temp : BitVec 10, Answers (.pulseRecord el c temp) s (fun now d e => d.alive = true →
      ∀ p, (d.idcCh c.val).done = some p →
        (p.ended + ms p.prof.ckWin ≤ now → (e.idcCh c.val).done = none ∧ e.rdS (IDG.DIE_TEMP (c.val / 4)) = temp.toInt ∧
          (p.held = false → (d.idcCh c.val).holdEnd = none → (e.idcCh c.val).lastRec.length = 10 ∧
            (e.idcCh c.val).lastRec.getD 0 0 = c.val + 2 ^ 5 * p.pt.getD 0 + 2 ^ 16 * p.seq ∧
            (e.idcCh c.val).lastRec.getD 1 0 = nsOf p.cmd % 2 ^ 32) ∧
          (p.held = true → (e.idcCh c.val).lastRec = (d.idcCh c.val).lastRec)) ∧
        (now < p.ended + ms p.prof.ckWin → e = d)))

/-- R297, R320, R321: more than 6.0 A for 2 µs latches the channel with FAULT SC_SUP and ends its pulse; a current that does not fall within
100 µs of the low side's turning off, or more than 10.0 A for 2 µs in the high-side switch, latches the group, ends every pulse of it and
raises EVT_IDC_GRP_LATCH; a current below I_HI / 16 at OL_T sets FAULT and the pulse goes on; a difference of more than 300 mA for 200 µs
sets MISMATCH.
It rests on the readings and choices of log entries 87, 88 and 139. -/
def Obligations.ActuatorFaultsLatch : Prop :=
  ∀ (s : State) (el : Nat) (c : Fin 32) (g : Fin 8),
    (∀ (ma : BitVec 16) (held : Nat), Answers (.scSup el c ma held) s (fun now d e => d.driving = true →
      ((d.idcCh c.val).act ≠ .on ∨ ma.toNat ≤ 6000 ∨ held < us 2 → e = d) ∧
      (∀ p, (d.idcCh c.val).act = .on → 6000 < ma.toNat → us 2 ≤ held → (d.idcCh c.val).pulse = some p →
        (e.idcCh c.val).latched = true ∧ (e.idcCh c.val).act = .idle ∧ (e.idcCh c.val).pulse = none ∧ (e.idcCh c.val).lastEnd = some now ∧
        (d.rd (IDC.FAULT c.val) ≠ 5 → e.rd (IDC.FAULT c.val) = 3 ∧
          (d.rd (IDC.FAULT c.val) ≠ 3 → e.raised EVT.IDC_FAULT c.val = true))))) ∧
    (∀ ma : BitVec 16, Answers (.scGnd el c ma) s (fun now d e => d.driving = true →
      ((d.idcCh c.val).act ≠ .on → e = d) ∧
      (∀ p, (d.idcCh c.val).act = .on → (d.idcCh c.val).pulse = some p →
        (ma.toNat + 50 < p.thr.1 ∨ p.sense.lsOn = true ∨ now < p.sense.lsAt + us 100 → e = d) ∧
        (p.regulates = true → p.sense.lsOn = false → p.sense.fell = false → p.sense.lsAt + us 100 ≤ now → p.thr.1 ≤ ma.toNat + 50 →
          e.rd (IDG.GRP_LATCH (c.val / 4)) = 1 ∧ e.rd (IDG.HSG_OC (c.val / 4)) = 0 ∧
          (d.rd (IDC.FAULT c.val) ≠ 5 → e.rd (IDC.FAULT c.val) = 2) ∧
          (∀ k ∈ groupChs (c.val / 4), ∀ q, (d.idcCh k).act = .on → (d.idcCh k).pulse = some q → (e.idcCh k).act = .idle) ∧
          (d.on (IDG.GRP_LATCH (c.val / 4)) = false → e.raised EVT.IDC_GRP_LATCH (c.val / 4) = true))))) ∧
    (∀ (ma : BitVec 16) (held : Nat), Answers (.hsgOc el g ma held) s (fun _ d e => d.driving = true →
      (d.on (IDG.HSG_ON g.val) = false ∨ ma.toNat ≤ 10000 ∨ held < us 2 → e = d) ∧
      (d.on (IDG.HSG_ON g.val) = true → 10000 < ma.toNat → us 2 ≤ held →
        e.rd (IDG.GRP_LATCH g.val) = 1 ∧ e.rd (IDG.HSG_OC g.val) = 1 ∧ e.rd (IDG.I_HSG g.val) = 4095 ∧
        (∀ k ∈ groupChs g.val, ∀ p, (d.idcCh k).act = .on → (d.idcCh k).pulse = some p →
          (e.idcCh k).act = .idle ∧ (d.rd (IDC.FAULT k) ≠ 5 → e.rd (IDC.FAULT k) = 4)) ∧
        (d.on (IDG.GRP_LATCH g.val) = false → e.raised EVT.IDC_GRP_LATCH g.val = true)))) ∧
    (∀ ma : BitVec 16, Answers (.openLoad el c ma) s (fun now d e => d.driving = true → (d.idcCh c.val).act = .on →
      ∀ p, (d.idcCh c.val).pulse = some p →
        (p.phase ≠ 0 ∨ now < p.start + 40000 * p.prof.olT ∨ p.ph.iHi ≤ 16 * ma.toNat → e = d) ∧
        (p.phase = 0 → p.start + 40000 * p.prof.olT ≤ now → 16 * ma.toNat < p.ph.iHi → d.rd (IDC.FAULT c.val) ≠ 5 →
          e.rd (IDC.FAULT c.val) = 1 ∧ OnlyRegsAndEvents [IDC.FAULT c.val] d e ∧
          (d.rd (IDC.FAULT c.val) ≠ 1 → e.raised EVT.IDC_FAULT c.val = true)))) ∧
    (∀ (ma : BitVec 16) (held : Nat), Answers (.mismatch el g ma held) s (fun _ d e => d.driving = true →
      (d.on (IDG.HSG_ON g.val) = true → e.rd (IDG.I_HSG g.val) = min 4095 ma.toNat ∧
        OnlyRegs [IDG.I_HSG g.val, IDG.MISMATCH g.val] d e ∧
        (us 200 ≤ held → (ma.toNat + 300 < d.drawnSum g.val ∨ d.drawnSum g.val + 300 < ma.toNat) → e.rd (IDG.MISMATCH g.val) = 1) ∧
        (held < us 200 ∨ (d.drawnSum g.val ≤ ma.toNat + 300 ∧ ma.toNat ≤ d.drawnSum g.val + 300) →
          e.rd (IDG.MISMATCH g.val) = d.rd (IDG.MISMATCH g.val))) ∧
      (d.on (IDG.HSG_ON g.val) = false → e = d)))

/-- R322, R323, R329: an off window that has lasted 200 µs and that no test of TST uses gives DIAG_OFF, clears or sets the fault it finds,
and is a calibration every other time; FLT_CLR releases a latched channel and GRP_FLT_CLR a latched group; REC_CH shows the last record of
its channel. -/
def Obligations.ActuatorDiagnosticsAndClears : Prop :=
  ∀ (s : State) (el : Nat) (c : Fin 32) (g : Fin 8),
    (∀ (a b : Fin 3) (ofs : BitVec 12), Answers (.idcOffTest el c a b ofs) s (fun now d e => d.ticking = true →
      ((d.idcCh c.val).act ≠ .idle ∨ (d.idcCh c.val).decay = true ∨ (d.idcCh c.val).done ≠ none ∨ now < (d.idcCh c.val).offFrom + us 200 ∨
        d.tstUses now c.val = true → e = d) ∧
      ((d.idcCh c.val).act = .idle → (d.idcCh c.val).decay = false → (d.idcCh c.val).done = none → (d.idcCh c.val).offFrom + us 200 ≤ now →
        d.tstUses now c.val = false →
        (e.idcCh c.val).offFrom = now ∧
        ((d.idcCh c.val).calNext = true → (e.idcCh c.val).calNext = false ∧
          e.rdS (IDC.OFS_CAL c.val) = ofs.toInt ∧ OnlyRegs [IDC.OFS_CAL c.val] { d with idc := e.idc } e) ∧
        ((d.idcCh c.val).calNext = false →
          let code := offDiag (d.on (IDG.HSG_ON (c.val / 4))) (d.on (IDG.MISMATCH (c.val / 4))) a.val b.val
          e.rd (IDC.DIAG_OFF c.val) = code ∧ (e.idcCh c.val).calNext = (code != 5) ∧
          (code = 1 → (d.rd (IDC.FAULT c.val) = 1 → e.rd (IDC.FAULT c.val) = 0) ∧
            (d.rd (IDC.FAULT c.val) ≠ 1 → e.rd (IDC.FAULT c.val) = d.rd (IDC.FAULT c.val))) ∧
          (d.rd (IDC.FAULT c.val) ≠ 5 →
            (code = 2 → e.rd (IDC.FAULT c.val) = 1) ∧
            (code = 3 → e.rd (IDC.FAULT c.val) = 2 ∧ e.rd (IDG.GRP_LATCH (c.val / 4)) = 1) ∧
            (code = 4 → e.rd (IDC.FAULT c.val) = 3 ∧ (e.idcCh c.val).latched = true)))))) ∧
    Answers (.idcFltClr el c) s (fun _ d e => d.hif.inService = true →
      ((d.idcCh c.val).latched = true → (e.idcCh c.val).latched = false ∧
        (d.rd (IDC.FAULT c.val) ≠ 5 → e.rd (IDC.FAULT c.val) = 0) ∧
        ((d.idcCh c.val).snuff ≠ some 1 → (e.idcCh c.val).cmds = [] ∧ (e.idcCh c.val).act = (d.idcCh c.val).act)) ∧
      ((d.idcCh c.val).latched = false → e = d)) ∧
    Answers (.grpFltClr el g) s (fun _ d e => d.hif.inService = true →
      (d.on (IDG.GRP_LATCH g.val) = true → e.rd (IDG.GRP_LATCH g.val) = 0 ∧ e.rd (IDG.HSG_OC g.val) = 0 ∧ e.rd (IDG.MISMATCH g.val) = 0 ∧
        (∀ k ∈ groupChs g.val, (d.idcCh k).latched = false → d.rd (IDC.FAULT k) = 2 ∨ d.rd (IDC.FAULT k) = 4 → e.rd (IDC.FAULT k) = 0) ∧
        (∀ k ∈ groupChs g.val, (d.idcCh k).latched = true → (e.idcCh k).latched = true)) ∧
      (d.on (IDG.GRP_LATCH g.val) = false → e = d)) ∧
    (∀ ch : BitVec 2, Answers (.recChSnapshot el g ch) s (fun _ d e => d.hif.inService = true →
      e.rd (IDG.REC_CH g.val) = ch.toNat ∧
      (∀ i, i < 10 → e.rd (IDG.REC g.val i) = (d.idcCh (4 * g.val + ch.toNat)).lastRec.getD i 0 % 2 ^ (IDG.REC g.val i).width) ∧
      e = { d with regs := e.regs }))

/-! ### LSW: load switches, and the hold window -/

/-- R333, R335, R336, R339, R360: a command of a switch that is due sets its commanded state; a switch that is wanted on starts
at once where its bank has room, with its inrush from that instant; one that is wanted off stops and carries no current; a
start that has waited 10 ms starts with its limit cut to the room there is; inrush ends at its end; an output more than 200 mV above its
supply pin blocks and counts; an output whose hold window ends during a logic-die reset takes its stored snuff state. -/
def Obligations.LoadSwitchesSwitch : Prop :=
  ∀ (s : State) (el : Nat) (c : Fin 16),
    let n := c.val
    Answers (.lswSwitchOn el c) s (fun now d e => d.driving = true → ∀ k, (d.lswCh n).cmds = [k] →
      (now < k.dt → e = d.modLsw n (fun x => { x with cmds := [k] })) ∧
      (k.dt ≤ now → (e.lswCh n).com = k.on ∧ (e.lswCh n).cmds = []) ∧
      (k.dt ≤ now → k.opens = true → (e.lswCh n).force = k.force ∧ (e.lswCh n).holdEnd = none ∧ (e.lswCh n).shed = d.lswSheds n ∧
        (e.lswCh n).dualOff = d.lswStandby n ∧ (e.lswCh n).idle = d.lswIdle n) ∧
      (k.dt ≤ now → k.opens = false → k.on = true → ((d.modLsw n (fun x => { x with com := true })).lswWant n).1 = true →
        (∀ m ∈ bankSwitches (lswBank n), (d.lswCh m).drv = false ∧ (d.lswCh m).waitFrom = none) →
        (e.lswCh n).drv = true ∧ (e.lswCh n).onAt = now ∧ (e.lswCh n).inr = true ∧ (e.lswCh n).cut = none ∧
        (e.lswCh n).waitFrom = none ∧ e.rd (LSW.SW_ON_CNT n) = counted d (LSW.SW_ON_CNT n))) ∧
    Answers (.lswSwitchOff el c) s (fun now d e => d.driving = true → ∀ k, (d.lswCh n).cmds = [k] → k.dt ≤ now → k.on = false →
      k.opens = false → ((d.modLsw n (fun x => { x with com := false })).lswWant n).1 = false → (d.lswCh n).drv = true →
      (e.lswCh n).com = false ∧ (e.lswCh n).drv = false ∧ (e.lswCh n).inr = false ∧ (e.lswCh n).waitFrom = none ∧
      e.rd (LSW.I_MEAS n) = 0) ∧
    Answers (.lswAdmitTimeout el c) s (fun now d e => d.driving = true → ∀ t, (d.lswCh n).waitFrom = some t →
      (d.lswWant n).1 = true → (d.lswCh n).offDue now = false →
      (∀ m ∈ bankSwitches (lswBank n), m ≠ n → (d.lswCh m).waitFrom = none) → 40000 < d.bankLoad now n + d.lswInrushLim n 0 →
      (now < t + ms 10 → e = d) ∧
      (t + ms 10 ≤ now → d.bankLoad now n + d.lswSteady n ≤ 40000 →
        (e.lswCh n).drv = true ∧ (e.lswCh n).onAt = now ∧ (e.lswCh n).cut = some (40000 - d.bankLoad now n) ∧ (e.lswCh n).waitFrom = none)) ∧
    Answers (.inrushEnd el c) s (fun now d e => d.driving = true → (d.lswCh n).inr = true → (d.lswCh n).waitFrom = none →
      (now < (d.lswCh n).onAt + d.lswInrush n → e = d) ∧
      ((d.lswCh n).onAt + d.lswInrush n ≤ now → (e.lswCh n).inr = false ∧ (e.lswCh n).cut = none ∧ (e.lswCh n).inrEnd = now ∧
        (e.lswCh n).drv = (d.lswCh n).drv)) ∧
    (∀ mv : BitVec 16, Answers (.reverseBlock el c mv) s (fun _ d e => d.driving = true → (d.lswCh n).drv = true →
      let above := decide (200 < mv.toInt)
      ((d.lswCh n).rev = above → e = d) ∧
      ((d.lswCh n).rev ≠ above → (e.lswCh n).rev = above ∧
        e.rd LSB.REVERSE_CNT = (if above then counted d LSB.REVERSE_CNT else d.rd LSB.REVERSE_CNT) ∧
        OnlyRegs [LSB.REVERSE_CNT] { d with lsw := e.lsw } e))) ∧
    (∀ o : Fin 48, Answers (.holdWindowEnd el o) s (fun now d e =>
      (∀ x, o.val < 32 → (d.idcCh o.val).holdEnd = some x →
        (x ≤ now → d.pwr.stage ≠ .none → (e.idcCh o.val).snuff = some (d.rd (WDG.SNUFF_STATE o.val)) ∧ (e.idcCh o.val).holdEnd = none ∧
          (d.rd (WDG.SNUFF_STATE o.val) = 0 → (e.idcCh o.val).comOn = false) ∧
          (d.rd (WDG.SNUFF_STATE o.val) = 1 → (e.idcCh o.val).comOn = true ∧ (e.idcCh o.val).grid = none) ∧
          (d.rd (WDG.SNUFF_STATE o.val) = 2 → (e.idcCh o.val).comOn = (d.idcCh o.val).comOn ∧ (e.idcCh o.val).grid = (d.idcCh o.val).grid) ∧
          (d.rd (WDG.SNUFF_STATE o.val) = 3 → (e.idcCh o.val).comOn = true ∧ ∃ g, (e.idcCh o.val).grid = some g ∧ g.epoch = now ∧
            g.duty = min 1000 (d.rd (WDG.SNUFF_DUTY o.val)))) ∧
        (now < x ∨ d.pwr.stage = .none → e = d)) ∧
      (∀ x, 32 ≤ o.val → (d.lswCh (o.val - 32)).holdEnd = some x →
        (x ≤ now → d.pwr.stage ≠ .none → (e.lswCh (o.val - 32)).holdEnd = none ∧
          (e.lswCh (o.val - 32)).snuff = some (d.rd (WDG.SNUFF_STATE o.val)) ∧
          (d.rd (WDG.SNUFF_STATE o.val) = 0 → (e.lswCh (o.val - 32)).drv = false)) ∧
        (now < x ∨ d.pwr.stage = .none → e = d))))

/-- R334, R341 to R347: a bank above 16,000 mA for 10 ms ends the inrush of its switches, and for 1 s turns off the switch of the
highest ratio of current to I_NOM; OVL_TIME in current limit and 175 °C count and set FAULT, and latch under THERM_MODE 1 or
after RETRY_MAX restarts; a cooled switch may start again; FLT_CLR clears latch, fault and count; on-state and off-state
diagnostics give FAULT and DIAG_OFF.
It rests on the reading or choice of log entry 90. -/
def Obligations.LoadSwitchProtection : Prop :=
  ∀ (s : State) (el : Nat) (c : Fin 16) (b : Fin 4) (i0 i1 i2 i3 : BitVec 16),
    let n := c.val
    let i := fun (m : Nat) => if m = 2 * b.val then i0.toNat else if m = 2 * b.val + 1 then i1.toNat else if m = 8 + 2 * b.val then i2.toNat else i3.toNat
    let cur := fun (d : Dev) (m : Nat) => if (d.lswCh m).drv then i m else 0
    let sum := fun (d : Dev) => ((bankSwitches b.val).map (cur d)).sum
    let thermal := fun (now : Nat) (d e : Dev) (m code : Nat) =>
      e.rd (LSW.THERM_CNT m) = counted d (LSW.THERM_CNT m) ∧
      (d.on (LSW.THERM_MODE m) = true → e.rd (LSW.THERM_LATCH m) = 1 ∧ e.rd (LSW.FAULT m) = code ∧ (e.lswCh m).drv = false) ∧
      (d.on (LSW.THERM_MODE m) = false → d.lswRestarts now m < d.rd (LSW.RETRY_MAX m) → e.rd (LSW.FAULT m) = code) ∧
      (d.on (LSW.THERM_MODE m) = false → d.rd (LSW.RETRY_MAX m) ≤ d.lswRestarts now m →
        e.rd (LSW.FAULT m) = 6 ∧ e.rd (LSW.THERM_LATCH m) = 1 ∧ (e.lswCh m).drv = false)
    (∀ held : Nat, Answers (.bankPeak el b i0 i1 i2 i3 held) s (fun _ d e => d.driving = true →
      (∀ m ∈ bankSwitches b.val, e.rd (LSW.I_MEAS m) = cur d m) ∧ e.on (LSB.BANK_HI b.val) = decide (16000 < sum d) ∧
      (sum d ≤ 16000 ∨ held < ms 10 → e.lsw = d.lsw ∧ e.rd LSB.INRUSH_CUT_CNT = d.rd LSB.INRUSH_CUT_CNT) ∧
      (16000 < sum d → ms 10 ≤ held → e.rd LSB.INRUSH_CUT_CNT = counted d LSB.INRUSH_CUT_CNT ∧
        (∀ m ∈ bankSwitches b.val, (d.lswCh m).waitFrom = none → (e.lswCh m).inr = false ∧ (e.lswCh m).drv = (d.lswCh m).drv) ∧
        (d.pwr.stage = .none → e.raised EVT.LSW_BANK_PEAK b.val = true)))) ∧
    (∀ held : Nat, Answers (.bankOverload el b i0 i1 i2 i3 held) s (fun now d e => d.driving = true →
      (sum d ≤ 16000 ∨ held < sec 1 ∨ (∃ t, tget? d.wdg.ovlAt b.val = some t ∧ now < t + sec 1) →
        e.lsw = d.lsw ∧ e.rd LSB.BANK_OVL_CNT = d.rd LSB.BANK_OVL_CNT ∧ (∀ m ∈ bankSwitches b.val, e.rd (LSW.I_MEAS m) = cur d m)) ∧
      (16000 < sum d → sec 1 ≤ held → (∀ t, tget? d.wdg.ovlAt b.val = some t → t + sec 1 ≤ now) →
        e.rd LSB.BANK_OVL_CNT = counted d LSB.BANK_OVL_CNT ∧ tget? e.wdg.ovlAt b.val = some now ∧
        ∃ m ∈ bankSwitches b.val, (d.lswCh m).drv = true ∧ thermal now d e m 4 ∧
          ((∀ x ∈ bankSwitches b.val, 0 < d.rd (LSW.I_NOM x)) → ∀ x ∈ bankSwitches b.val,
            cur d x * d.rd (LSW.I_NOM m) ≤ cur d m * d.rd (LSW.I_NOM x))))) ∧
    (∀ (x : BitVec 16) (held : Nat), Answers (.lswOverload el c x held) s (fun now d e => d.driving = true →
      ((d.lswCh n).drv = false ∨ (d.lswCh n).inr = true ∨ x.toNat < d.lswSteady n ∨ held < ms (max 1 (d.rd (LSW.OVL_TIME n))) ∨
        now < (d.lswCh n).inrEnd + ms (max 1 (d.rd (LSW.OVL_TIME n))) → e = d) ∧
      ((d.lswCh n).drv = true → (d.lswCh n).inr = false → d.lswSteady n ≤ x.toNat → ms (max 1 (d.rd (LSW.OVL_TIME n))) ≤ held →
        (d.lswCh n).inrEnd + ms (max 1 (d.rd (LSW.OVL_TIME n))) ≤ now → thermal now d e n 4))) ∧
    (∀ temp : BitVec 10, Answers (.thermalShutdown el c temp) s (fun now d e => d.driving = true →
      e.rdS (LSW.CH_TEMP n) = temp.toInt ∧
      (temp.toInt < 175 ∨ (d.lswCh n).drv = false → OnlyRegs [LSW.CH_TEMP n] d e) ∧
      (175 ≤ temp.toInt → (d.lswCh n).drv = true → (e.lswCh n).hot = true ∧ (e.lswCh n).drv = false ∧ thermal now d e n 5))) ∧
    (∀ temp : BitVec 10, Answers (.coolRestart el c temp) s (fun now d e => d.driving = true →
      e.rdS (LSW.CH_TEMP n) = temp.toInt ∧
      ((d.lswCh n).hot = false ∨ 160 < temp.toInt → OnlyRegs [LSW.CH_TEMP n] d e) ∧
      ((d.lswCh n).hot = true → temp.toInt ≤ 160 → (e.lswCh n).hot = false ∧
        (((d.modLsw n (fun x => { x with hot := false })).lswWant n).1 = true →
          (∀ m ∈ bankSwitches (lswBank n), (d.lswCh m).drv = false ∧ (d.lswCh m).waitFrom = none) → (d.lswCh n).offDue now = false →
          (e.lswCh n).drv = true ∧ (e.lswCh n).onAt = now ∧ e.rd (LSW.SW_ON_CNT n) = counted d (LSW.SW_ON_CNT n))))) ∧
    Answers (.lswFltClr el c) s (fun _ d e => d.hif.inService = true →
      e.rd (LSW.THERM_LATCH n) = 0 ∧ e.rd (LSW.FAULT n) = 0 ∧ (e.lswCh n).restarts = []) ∧
    (∀ (x : BitVec 16) (held : Nat), Answers (.lswOpen el c x held) s (fun now d e => d.lswJudged n = true →
      ((d.lswCh n).inr = false → x.toNat < d.rd (LSW.OL_ON_MA n) → ms 10 ≤ held → (d.lswCh n).inrEnd + ms 10 ≤ now →
        e.rd (LSW.FAULT n) = 1 ∧ e.rd (LSW.I_MEAS n) = x.toNat ∧ e.lsw = d.lsw ∧
        e.cov.noLoad.any (fun y => y.1 == n && y.2.2 == 0) = true ∧
        (d.rd (LSW.FAULT n) ≠ 1 → e.raised EVT.LSW_FAULT n = true)) ∧
      ((d.lswCh n).inr = true ∨ d.rd (LSW.OL_ON_MA n) ≤ x.toNat ∨ held < ms 10 ∨ now < (d.lswCh n).inrEnd + ms 10 → e = d))) ∧
    (∀ (x mv : BitVec 16) (held : Nat), Answers (.lswScGnd el c x mv held) s (fun now d e => d.lswJudged n = true →
      (d.lswLimit now n ≤ x.toNat → mv.toNat < 2000 → ms 1 ≤ held →
        e.rd (LSW.FAULT n) = 2 ∧ e.rd (LSW.I_MEAS n) = x.toNat ∧ e.lsw = d.lsw ∧
        (0 < now → e.cov.noLoad.any (fun y => y.1 == n && y.2.2 == 0) = false) ∧
        (d.rd (LSW.FAULT n) ≠ 2 → e.raised EVT.LSW_FAULT n = true)) ∧
      (x.toNat < d.lswLimit now n ∨ 2000 ≤ mv.toNat ∨ held < ms 1 → e = d))) ∧
    (∀ mv : BitVec 16, Answers (.lswOffTest el c mv) s (fun now d e => d.driving = true → d.pwr.stage = .none →
      (d.on (LSW.OFF_DIAG_EN n) = false → e = d) ∧
      (∀ t, (d.lswCh n).testAt = some t → now < t + ms 10 → e = d) ∧
      ((d.lswCh n).drv = false → (d.lswCh n).waitFrom = none → (d.lswCh n).cmds = [] → d.on (LSW.OFF_DIAG_EN n) = true →
        (∀ t, (d.lswCh n).testAt = some t → t + ms 10 ≤ now) →
        (e.lswCh n).testAt = some now ∧
        (mv.toNat < 1000 → e.rd (LSW.DIAG_OFF n) = 1) ∧
        (2000 ≤ mv.toNat → mv.toNat ≤ 4000 → e.rd (LSW.DIAG_OFF n) = 2) ∧
        (5000 < mv.toNat → d.on (LSW.DUAL_FED n) = true → e.rd (LSW.DIAG_OFF n) = 4) ∧
        (5000 < mv.toNat → d.on (LSW.DUAL_FED n) = false → e.rd (LSW.DIAG_OFF n) = 3 ∧ e.rd (LSW.FAULT n) = 3))))

/-! ### WDG: the snuff table, SAFE_N and the watchdog -/

/-- R352, R355, R356: the snuff table is written only while SNUFF_LOCK is clear; SNUFF_STORE puts it into a valid image;
SAFE_N asserted starts its path, latches and counts; the path ends, under AUTO, when SAFE_N has been high for 10 ms, and else
at SAFE_CLR with SAFE_N high; at the end of the last path every point opens its next window off.
It rests on the readings and choices of log entries 49 and 89. -/
def Obligations.SnuffTableAndPaths : Prop :=
  -- a path runs: every driven output has taken its stored snuff state, if none ran before
  let snuffed := fun (d e : Dev) => e.rd WDG.SNUFF_ACT = 1 ∧
    (d.on WDG.SNUFF_ACT = true → e.idc = d.idc ∧ e.lsw = d.lsw ∧ e.pwm = d.pwm) ∧
    (d.on WDG.SNUFF_ACT = false → d.driving = true → e.pwm.snuff = true ∧
      (∀ c, c < 32 → (e.idcCh c).snuff = some (d.rd (WDG.SNUFF_STATE c))) ∧
      (∀ n, n < 16 → (e.lswCh n).snuff = some (d.rd (WDG.SNUFF_STATE (32 + n)))))
  let safeOver := fun (d e : Dev) => e.rd WDG.SAFE_LATCHED = 0 ∧ e.wdg = { d.wdg with safePath := false } ∧
    (d.wdg.wdgPath = false → d.pwr.st ≠ .snuffed → e.rd WDG.SNUFF_ACT = 0 ∧
      (d.on WDG.SNUFF_ACT = true → e.dec = { d.dec with openOff := true } ∧ e.pwm.snuff = (d.pwr.outHold == .snuff))) ∧
    (d.wdg.wdgPath = true ∨ d.pwr.st = .snuffed → d.on WDG.SNUFF_ACT = true → OnlyRegs [WDG.SAFE_LATCHED] { d with wdg := e.wdg } e)
  ∀ (s : State) (el : Nat),
    (∀ (i : Fin 60) (w : Word), Answers (.snuffTableWrite el i w) s (fun now d e => d.hif.inService = true → d.unlocked now wdgPage = true →
      (d.cntVal 9 ≠ 0 → e = d) ∧
      (d.cntVal 9 = 0 → ∀ f ∈ snuffFields i.val, e.rd f = bitsOf w.toNat f.lo f.width) ∧
      (d.cntVal 9 = 0 → i.val < 48 → d.on WDG.SNUFF_ACT = false → OnlyRegs (snuffFields i.val) d e) ∧
      (d.cntVal 9 = 0 → d.on WDG.SNUFF_ACT = true → d.driving = true →
        d.rd (WDG.SNUFF_STATE i.val) ≠ bitsOf w.toNat (WDG.SNUFF_STATE i.val).lo (WDG.SNUFF_STATE i.val).width →
        (i.val < 32 → (e.idcCh i.val).snuff = some (e.rd (WDG.SNUFF_STATE i.val))) ∧
        (32 ≤ i.val → i.val < 48 → (e.lswCh (i.val - 32)).snuff = some (e.rd (WDG.SNUFF_STATE i.val)))))) ∧
    Answers (.snuffStore el) s (fun _ d e => d.hif.inService = true →
      (d.cntVal 9 ≠ 0 → e = d) ∧
      (d.cntVal 9 = 0 → d.mram.image = none ∨ d.on PWR.CFG_VALID = false → e.rd WDG.SNUFF_NOIMG = 1 ∧ OnlyRegs [WDG.SNUFF_NOIMG] d e) ∧
      (d.cntVal 9 = 0 → d.on PWR.CFG_VALID = true → ∀ img, d.mram.image = some img →
        e.rd WDG.SNUFF_NOIMG = 0 ∧ ∃ im, e.mram.image = some im ∧ im.crcOk = true ∧ im.pos = img.pos ∧
          im.crc = im.sealed.crc ∧
          (∀ i, i < 60 → ∀ f ∈ snuffFields i, (tget? im.fields f.key).getD f.reset = d.rd f))) ∧
    Answers (.safeNAssert el) s (fun _ d e => d.pwr.st ≠ .off →
      (d.on WDG.SAFE_LEVEL = true → e = d) ∧
      (d.on WDG.SAFE_LEVEL = false → e.raised EVT.WDG_SAFE 0 = true ∧ e.rd WDG.SAFE_LEVEL = 1 ∧ e.rd WDG.SAFE_LATCHED = 1 ∧
        e.rd WDG.SAFE_CNT = counted d WDG.SAFE_CNT ∧ e.wdg = { d.wdg with safePath := true } ∧ snuffed d e)) ∧
    Answers (.safeNRise el) s (fun now d e => d.pwr.st ≠ .off →
      (d.on WDG.SAFE_LEVEL = false → e = d) ∧
      (d.on WDG.SAFE_LEVEL = true → e.rd WDG.SAFE_LEVEL = 0 ∧ e.wdg = { d.wdg with highAt := now } ∧
        OnlyRegs [WDG.SAFE_LEVEL] { d with wdg := e.wdg } e)) ∧
    Answers (.safeNAutoRelease el) s (fun now d e => d.pwr.st ≠ .off → d.wdg.safePath = true →
      (d.safeAuto = true → d.on WDG.SAFE_LEVEL = false → d.wdg.highAt + ms 10 ≤ now → safeOver d e) ∧
      (d.safeAuto = false ∨ d.on WDG.SAFE_LEVEL = true ∨ now < d.wdg.highAt + ms 10 → e = d)) ∧
    Answers (.safeClr el) s (fun _ d e => d.hif.inService = true → d.wdg.safePath = true →
      (d.safeAuto = false → d.on WDG.SAFE_LEVEL = false → safeOver d e) ∧
      (d.safeAuto = true ∨ d.on WDG.SAFE_LEVEL = true → e = d))

/-- R357 to R359: WDG_EN arms the watchdog in HOST mode with a CHALLENGE that is not 0 and not the previous one; a response that
is right and in its window starts the next window and takes one from ERR_CNT; a wrong or early one counts, and expires the
watchdog at ERR_LIMIT; a right one after the expiry ends the path; a window that closes without a response expires it.
It rests on the readings and choices of log entries 2 and 93. -/
def Obligations.WatchdogWindows : Prop :=
  let expired := fun (d e : Dev) => e.rd WDG.WDG_EXP = 1 ∧ e.rd WDG.WDG_EXP_CNT = counted d WDG.WDG_EXP_CNT ∧ e.rd WDG.CHALLENGE ≠ 0 ∧
    e.rd WDG.SNUFF_ACT = 1 ∧ e.wdg = { d.wdg with wdgPath := true } ∧ e.raised EVT.WDG_EXPIRED 0 = true
  ∀ (s : State) (el : Nat),
    (∀ en : Bool, Answers (.wdgEn el en) s (fun now d e => d.hif.inService = true → d.unlocked now wdgPage = true →
      (en = true → d.pwr.mode = .host → d.on WDG.WDG_ARMED = false →
        e.rd WDG.WDG_EN = 1 ∧ e.rd WDG.WDG_ARMED = 1 ∧ e.rd WDG.CHALLENGE ≠ 0 ∧
        e.rd WDG.CHALLENGE ≠ d.rd WDG.CHALLENGE ∧
        e.wdg = { d.wdg with from_ := now, first := true } ∧
        OnlyRegs [WDG.WDG_EN, WDG.WDG_ARMED, WDG.CHALLENGE] { d with wdg := e.wdg, freeCtr := d.freeCtr + 1 } e) ∧
      (en = true → d.pwr.mode ≠ .host ∨ d.on WDG.WDG_ARMED = true → e.rd WDG.WDG_EN = 1 ∧ OnlyRegs [WDG.WDG_EN] d e) ∧
      (en = false → e.rd WDG.WDG_EN = 0 ∧ e.rd WDG.WDG_ARMED = 0 ∧
        (d.wdg.wdgPath = false → OnlyRegs [WDG.WDG_EN, WDG.WDG_ARMED] d e) ∧
        (d.wdg.wdgPath = true → e.rd WDG.WDG_EXP = 0 ∧ e.wdg = { d.wdg with wdgPath := false })))) ∧
    (∀ v : BitVec 16, Answers (.response el v) s (fun now d e => d.hif.inService = true →
      (d.on WDG.WDG_ARMED = false → e = d) ∧
      (d.on WDG.WDG_ARMED = true → d.on WDG.WDG_EXP = false → now < d.wdg.from_ + d.wdgClose →
        (v.toNat = d.wdgAnswer → d.wdg.first = true ∨ d.wdg.from_ + d.wdgOpen ≤ now →
          e.rd WDG.ERR_CNT = (d.rd WDG.ERR_CNT - 1) % 2 ^ 3 ∧ e.rd WDG.CHALLENGE ≠ 0 ∧ e.wdg = { d.wdg with from_ := now, first := false } ∧
          OnlyRegs [WDG.ERR_CNT, WDG.CHALLENGE] { d with wdg := e.wdg, freeCtr := d.freeCtr + 1 } e) ∧
        (v.toNat ≠ d.wdgAnswer → counted d WDG.ERR_CNT < max 1 (d.rd WDG.ERR_LIMIT) →
          e.rd WDG.ERR_CNT = counted d WDG.ERR_CNT ∧ e.rd WDG.LAST_ERR = 2 ∧ e.raised EVT.WDG_ERROR 0 = true ∧
          OnlyRegsAndEvents [WDG.ERR_CNT, WDG.LAST_ERR] d e) ∧
        (v.toNat ≠ d.wdgAnswer → max 1 (d.rd WDG.ERR_LIMIT) ≤ counted d WDG.ERR_CNT →
          e.rd WDG.ERR_CNT = counted d WDG.ERR_CNT ∧ e.rd WDG.LAST_ERR = 2 ∧ e.raised EVT.WDG_ERROR 0 = true ∧ expired d e) ∧
        (v.toNat = d.wdgAnswer → d.wdg.first = false → now < d.wdg.from_ + d.wdgOpen →
          counted d WDG.ERR_CNT < max 1 (d.rd WDG.ERR_LIMIT) →
          e.rd WDG.ERR_CNT = counted d WDG.ERR_CNT ∧ e.rd WDG.LAST_ERR = 1 ∧ e.raised EVT.WDG_ERROR 0 = true ∧ e.wdg = d.wdg)) ∧
      (d.on WDG.WDG_ARMED = true → d.on WDG.WDG_EXP = true → v.toNat = d.wdgAnswer →
        e.rd WDG.ERR_CNT = 0 ∧ e.rd WDG.WDG_EXP = 0 ∧ e.rd WDG.CHALLENGE ≠ 0 ∧
        e.wdg = { d.wdg with from_ := now, first := false, wdgPath := false }))) ∧
    Answers (.watchdogExpired el) s (fun now d e => d.alive = true → d.pwr.st ≠ .ember →
      (d.on WDG.WDG_ARMED = true → d.on WDG.WDG_EXP = false →
        (now < d.wdg.from_ + d.wdgClose → e = d) ∧
        (d.wdg.from_ + d.wdgClose ≤ now → e.rd WDG.LAST_ERR = 3 ∧ expired d e)) ∧
      (d.on WDG.WDG_ARMED = false ∨ d.on WDG.WDG_EXP = true → e = d))

/-! ### PWM, TRIP, GIN, FBK -/

/-- R367, R372, R377 to R379, R388: an output that has reached its update point takes what was written since the last; OUT_EN
takes effect at once; an assertion of a trip input that passes its filter holds the groups of its map, counts and raises EVT_TRIP_ASSERT, unless
blanking hides it, when it waits for the end of blanking; TRIP_CLR asks for the release of what the input holds; an accepted
change of a switch input, one that has held for DEB_MS, shows its new level. -/
def Obligations.PulseOutputsTripsAndInputs : Prop :=
  ∀ (s : State) (el : Nat),
    (∀ o : Fin 12, Answers (.pwmUpdatePoint el o) s (fun now d e => d.pwr.st ≠ .off →
      let g := d.pwmGov o.val
      let from_ := (d.pwmOut g).synced
      (d.pwmRuns g = false ∨ now ≤ from_ → e = d.modPwm g (fun x => { x with synced := max x.synced now })) ∧
      (d.pwmRuns g = true → from_ < now →
        (e.pwmOut g).synced = now ∧ e.rd (PWM.CMP_ACT g) = e.pwmAct (PWM.CMP g) % 2 ^ 16 ∧
        (now < d.pwmUpdate g from_ ∨ d.pwmTakes g = false → e.pwm.act = d.pwm.act ∧ e.pwm.buf = d.pwm.buf) ∧
        (d.pwmUpdate g from_ ≤ now → d.pwmTakes g = true → ∀ f ∈ pwmFields g, tget? e.pwm.buf f.key = none ∧
          (∀ v, tget? d.pwm.buf f.key = some v → e.pwmAct f = v) ∧
          (tget? d.pwm.buf f.key = none → e.pwmAct f = d.pwmAct f))))) ∧
    (∀ mask : BitVec 12, Answers (.outEn el mask) s (fun now d e => d.hif.inService = true →
      e.rd PWM.OUT_EN = mask.toNat ∧
      (∀ n, n < 12 → bitOf (d.rd PWM.OUT_EN) n ≠ bitOf mask.toNat n → (e.pwmOut n).edgeAt = some now))) ∧
    (∀ (t : Fin 4) (held : Nat), Answers (.tripAssert el t held) s (fun now d e => d.pwr.st ≠ .off →
      let h := d.modTrip t.val (fun y => { y with high := d.tripPol t.val })
      let x := h.pwmSyncAll now
      let b := x.wr TRIP.TRIP_LEVEL (setBitOf (x.rd TRIP.TRIP_LEVEL) t.val true)
      (held < d.rd (TRIP.FILT t.val) → e = d) ∧
      (d.rd (TRIP.FILT t.val) ≤ held → (tget e.pwm.trips t.val).high = d.tripPol t.val ∧ bitOf (e.rd TRIP.TRIP_LEVEL) t.val = true) ∧
      (d.rd (TRIP.FILT t.val) ≤ held → bitOf (d.rd TRIP.TRIP_LEVEL) t.val = false →
        (b.tripBlanked now t.val = true → (tget e.pwm.trips t.val).waits = true ∧ (tget e.pwm.trips t.val).holds = (tget b.pwm.trips t.val).holds) ∧
        (b.tripBlanked now t.val = false → (tget e.pwm.trips t.val).waits = false ∧
          (tget e.pwm.trips t.val).holds = (tget b.pwm.trips t.val).holds ||| b.rd (TRIP.TRIP_MAP t.val) ∧
          (∀ k, k < 6 → bitOf (b.rd (TRIP.TRIP_MAP t.val)) k = true → bitOf (e.rd TRIP.GRP_HELD) k = true) ∧
          e.raised EVT.TRIP_ASSERT t.val = true)))) ∧
    (∀ t : Fin 4, Answers (.tripBlankEnd el t) s (fun now d e => d.pwr.st ≠ .off →
      let b := d.pwmSyncAll now
      ((tget b.pwm.trips t.val).waits = true → bitOf (b.rd TRIP.TRIP_LEVEL) t.val = true → b.tripBlanked now t.val = false →
        (tget e.pwm.trips t.val).waits = false ∧ e.raised EVT.TRIP_ASSERT t.val = true ∧
        (tget e.pwm.trips t.val).holds = (tget b.pwm.trips t.val).holds ||| b.rd (TRIP.TRIP_MAP t.val)) ∧
      ((tget b.pwm.trips t.val).waits = false ∨ bitOf (b.rd TRIP.TRIP_LEVEL) t.val = false ∨ b.tripBlanked now t.val = true → e = b))) ∧
    (∀ (t : Fin 4) (held : Nat), Answers (.tripDeassert el t held) s (fun now d e => d.pwr.st ≠ .off →
      (held < d.rd (TRIP.FILT t.val) → e = d) ∧
      (d.rd (TRIP.FILT t.val) ≤ held → (tget e.pwm.trips t.val).high = !d.tripPol t.val ∧ bitOf (e.rd TRIP.TRIP_LEVEL) t.val = false ∧
        (bitOf (d.rd TRIP.TRIP_LEVEL) t.val = true → (tget e.pwm.trips t.val).waits = false ∧
          (tget e.pwm.trips t.val).holds =
            (tget ((d.modTrip t.val (fun y => { y with high := !d.tripPol t.val })).pwmSyncAll now).pwm.trips t.val).holds)))) ∧
    (∀ mask : BitVec 4, Answers (.tripClr el mask) s (fun now d e => d.hif.inService = true →
      let b := d.pwmSyncAll now
      (∀ t, t < 4 → bitOf mask.toNat t = true → tget e.pwm.trips t = { tget b.pwm.trips t with clr := (tget b.pwm.trips t).holds }) ∧
      (∀ t, t < 4 → bitOf mask.toNat t = false → tget e.pwm.trips t = tget b.pwm.trips t) ∧
      e = { b with pwm := { b.pwm with trips := e.pwm.trips } })) ∧
    (∀ (i : Fin 24) (level : Bool) (held : Nat), Answers (.ginChange el i level held) s (fun now d e => d.pwr.st ≠ .off →
      (bitOf (d.rd GIN.GIN_STATE) i.val = level ∨ held < max (us 2) (ms (d.rd (GIN.DEB_MS i.val))) → e = d) ∧
      (bitOf (d.rd GIN.GIN_STATE) i.val ≠ level → max (us 2) (ms (d.rd (GIN.DEB_MS i.val))) ≤ held → tget e.pwr.ginAt i.val = now ∧
        bitOf (e.rd GIN.GIN_STATE) i.val = level ∧ bitOf (e.rd GIN.GIN_CHG) i.val = true ∧
        (d.pwr.st ≠ .snuffed ∨ d.pwr.mode = .host → OnlyRegsAndEvents [GIN.GIN_STATE, GIN.GIN_CHG] { d with pwr := e.pwr } e) ∧
        (bitOf (d.rd GIN.GIN_EVT_EN) i.val = true → d.alive = true → e.raised EVT.GIN_CHANGE i.val = true))))

/-- R380, R381, R384 to R387, R393: an edge moves POS by its count of Table 11.3 and is kept with its DT; the first index of a
homing channel loads IDX_POS; an index within the tolerance clears MISS_RUN, one beyond it captures the position and counts;
POS_LOAD loads POS_VAL; FBK_CLR clears the flags; one transfer starts before each tick edge, no earlier than SSI_LEAD before it; a level that has
not stood for the glitch filter does nothing; a serial word is refused by its CRC, its error bit or its timeout, in this
order, and else becomes POS.
It rests on the reading or choice of log entry 96. -/
def Obligations.MotionFeedback : Prop :=
  ∀ (s : State) (el : Nat) (c : Fin 8),
    let n := c.val
    (∀ (pinB a b : Bool) (held : Nat), Answers (.fbkEdge el c pinB a b held) s (fun now d e => d.pwr.st ≠ .off →
      (d.fbkCount n pinB a b = 0 ∨ held < 20 * d.rd (FBK.GLITCH n) → e = d) ∧
      (d.fbkCount n pinB a b ≠ 0 → 20 * d.rd (FBK.GLITCH n) ≤ held → e.rd (FBK.POS n) = ofS 32 (d.fbkPos n + d.fbkCount n pinB a b) ∧
        (e.fbkCh n).e1 = some now ∧ (e.fbkCh n).e2 = (d.fbkCh n).e1 ∧
        e.rd (FBK.LAST_EDGE_DT_LO n) = nsOf now % 2 ^ 32 ∧ e.rd (FBK.LAST_EDGE_DT_HI n) = nsOf now / 2 ^ 32 % 2 ^ 32) ∧
      (d.fbkMode n = 0 ∨ d.fbkMode n = 3 → d.fbkCount n pinB a b = 0) ∧
      (d.fbkMode n = 1 → d.on (FBK.INV n) = false → d.fbkCount n pinB a b = if (pinB == (a == b)) = true then 1 else -1) ∧
      (d.fbkMode n = 1 → d.on (FBK.INV n) = true → d.fbkCount n pinB a b = if (pinB == (a == b)) = true then -1 else 1) ∧
      (d.fbkMode n = 2 → pinB = true → d.fbkCount n pinB a b = 0) ∧
      (d.fbkMode n = 2 → pinB = false → a = true → d.fbkPlain n = false → d.rd (FBK.EDGE_SEL n) = 0 → d.on (FBK.INV n) = false →
        d.fbkCount n pinB a b = if d.on (FBK.DIR_B n) && b then -1 else 1))) ∧
    (∀ held : Nat, Answers (.indexPulse el c held) s (fun _ d e => d.pwr.st ≠ .off →
      (d.fbkMode n ≠ 1 ∨ d.on (FBK.IDX_EN n) = false ∨ held < 20 * d.rd (FBK.GLITCH n) → e = d) ∧
      (d.fbkMode n = 1 → d.on (FBK.IDX_EN n) = true → 20 * d.rd (FBK.GLITCH n) ≤ held →
        (e.fbkCh n).homed = true ∧ (e.fbkCh n).lastIdxPos = some (e.fbkPos n) ∧
        (d.on (FBK.IDX_HOME n) = true → (d.fbkCh n).homed = false →
          e.fbkPos n = d.rdS (FBK.IDX_POS n) ∧ e.rd (FBK.IDX_SYNC n) = 1 ∧ OnlyRegs [FBK.POS n, FBK.IDX_SYNC n] { d with fbk := e.fbk } e) ∧
        (d.on (FBK.IDX_HOME n) = false ∨ (d.fbkCh n).homed = true →
          let per := d.rd (FBK.IDX_PERIOD n)
          let r := (d.fbkPos n - d.rdS (FBK.IDX_POS n)) % (per : Int)
          let err := if 2 * r ≤ per then r else r - per
          (per = 0 → OnlyRegs [] { d with fbk := e.fbk } e) ∧
          (per ≠ 0 → err.natAbs ≤ d.rd (FBK.IDX_TOL n) → e.rd (FBK.MISS_RUN n) = 0 ∧ (e.fbkCh n).goodRun = (d.fbkCh n).goodRun + 1 ∧
            (8 ≤ (d.fbkCh n).goodRun + 1 → e.rd (FBK.SUSPECT n) = 0)) ∧
          (per ≠ 0 → d.rd (FBK.IDX_TOL n) < err.natAbs →
            e.rd (FBK.IDX_CAPT n) = ofS 32 (d.fbkPos n) ∧ e.rd (FBK.IDX_ERR n) = ofS 32 err ∧ (e.fbkCh n).goodRun = 0 ∧
            e.rd (FBK.IDX_MISMATCH_CNT n) = counted d (FBK.IDX_MISMATCH_CNT n) ∧ e.rd (FBK.MISS_RUN n) = min 3 (d.rd (FBK.MISS_RUN n) + 1) ∧
            e.raised EVT.FBK_INDEX_MISMATCH n = true ∧
            (d.rd (FBK.IDX_POLICY n) = 1 → e.rd (FBK.POS n) = ofS 32 (d.fbkPos n - err)) ∧
            (d.rd (FBK.IDX_POLICY n) = 2 → e.rd (FBK.POS n) = ofS 32 (d.rdS (FBK.IDX_POS n))) ∧
            (d.rd (FBK.IDX_POLICY n) ≠ 1 → d.rd (FBK.IDX_POLICY n) ≠ 2 → e.rd (FBK.POS n) = d.rd (FBK.POS n)) ∧
            (d.rd (FBK.MISS_RUN n) = 2 → e.rd (FBK.SUSPECT n) = 1 ∨ d.on (FBK.SUSPECT n) = true)))))) ∧
    Answers (.posLoad el c) s (fun _ d e => d.hif.inService = true →
      e.rd (FBK.POS n) = ofS 32 (d.rdS (FBK.POS_VAL n)) ∧ OnlyRegs [FBK.POS n] { d with fbk := e.fbk } e ∧
      (e.fbkCh n).e1 = (d.fbkCh n).e1) ∧
    Answers (.fbkClr el c) s (fun _ d e => d.hif.inService = true →
      e.rd (FBK.SUSPECT n) = 0 ∧ e.rd (FBK.MISS_RUN n) = 0 ∧ e.rd (FBK.IDX_MISSING n) = 0 ∧
      OnlyRegs [FBK.SUSPECT n, FBK.MISS_RUN n, FBK.IDX_MISSING n] d e) ∧
    (∀ low : Bool, Answers (.ssiTransfer el c low) s (fun now d e => d.pwr.st ≠ .off →
      let open_ := d.fbkMode n = 3 ∧ d.sys.gridOn = true ∧ d.nextEdge ≤ now + us (d.rd (FBK.SSI_LEAD n)) ∧ (d.fbkCh n).ssiEdge ≠ some d.nextEdge
      (¬open_ → e = d) ∧
      (open_ → (e.fbkCh n).ssiEdge = some d.nextEdge) ∧
      (open_ → low = true → e.rd (FBK.SSI_ERR_LAST n) = 4 ∧ e.rd (FBK.SSI_ERR_CNT n) = counted d (FBK.SSI_ERR_CNT n) ∧
        (e.fbkCh n).ssiRun = (d.fbkCh n).ssiRun) ∧
      (open_ → low = false → (e.fbkCh n).ssiRun = some now ∧ e = { d with fbk := e.fbk }))) ∧
    (∀ (raw : BitVec 41) (high : Nat), Answers (.ssiWord el c raw high) s (fun now d e => d.pwr.st ≠ .off →
      ((d.fbkCh n).ssiRun = none → e = d) ∧
      (∀ t, (d.fbkCh n).ssiRun = some t → now < t + d.ssiLen n * d.ssiClk n → e = d) ∧
      (∀ t, (d.fbkCh n).ssiRun = some t → t + d.ssiLen n * d.ssiClk n ≤ now → (e.fbkCh n).ssiRun = none ∧
        let bits := d.rdH 8 32 (FBK.SSI_BITS n)
        let w := min 8 (d.rd (FBK.SSI_CRC_W n))
        let en := d.rd (FBK.SSI_ERR_EN n)
        let body := bitsOf raw.toNat w (bits + en)
        let crc := ssiCrc w (d.rd (FBK.SSI_CRC_POLY n)) (bits + en) body
        let late := us (max 1 (d.rd (FBK.SSI_TMO n))) < high
        let ok := w = 0 ∨ raw.toNat % 2 ^ w = if d.on (FBK.SSI_CRC_INV n) then 2 ^ w - 1 - crc else crc
        let bad := fun (code : Nat) => e.rd (FBK.SSI_ERR_LAST n) = code ∧
          e.rd (FBK.SSI_ERR_CNT n) = counted d (FBK.SSI_ERR_CNT n) ∧ e.rd (FBK.POS n) = d.rd (FBK.POS n)
        (¬ok → bad 1) ∧
        (ok → en = 1 → body % 2 = d.rd (FBK.SSI_ERR_POL n) → bad 2) ∧
        (ok → en ≠ 1 ∨ body % 2 ≠ d.rd (FBK.SSI_ERR_POL n) → late → bad 3) ∧
        (ok → en ≠ 1 ∨ body % 2 ≠ d.rd (FBK.SSI_ERR_POL n) → ¬late → d.on (FBK.SSI_GRAY n) = false →
          e.rd (FBK.POS n) = body / 2 ^ en % 2 ^ bits ∧ (e.fbkCh n).lastGood = some t ∧ OnlyRegs [FBK.POS n] { d with fbk := e.fbk } e))))

/-! ### CAN: controllers, ISO 11783, and the Velest Node Protocol -/

/-- R395, R398, R399, R425, R426: a remote frame and an XL frame that is too long are counted and dropped, and one of a format beyond
FRAME is not received; a frame for the host is
written at the tail of the queue, then to the shadow buffer, then dropped and counted; RX_ACK releases entries and lets the
shadow entry in; TX_GO takes the mailbox frame, or refuses its identifier; the error counters give the controller's state, and
BUS_ON brings it back.
It rests on the readings and choices of log entries 10 and 17. -/
def Obligations.ControllersQueueAndMailbox : Prop :=
  ∀ (s : State) (el : Nat) (c : Fin 6),
    let n := c.val
    (∀ (f : CanFrame) (ago : BitVec 20), Answers (.canFrameRx el c f ago) s (fun now d e => d.alive = true → d.canActive n = true →
      d.rd (CAN.CAN_STATE n) ≠ 3 →
      (f.rtr = true → e.rd (CAN.RTR_IGN n) = counted d (CAN.RTR_IGN n) ∧ OnlyRegs [CAN.RTR_IGN n] d e) ∧
      (f.rtr = false → f.xlf = true → 64 < f.data.length →
        e.rd (CAN.XL_OVERSIZE n) = counted d (CAN.XL_OVERSIZE n) ∧ OnlyRegs [CAN.XL_OVERSIZE n] d e) ∧
      (f.rtr = false → f.data.length ≤ 64 → d.rd (CAN.FRAME n) < frameFormat f → e = d) ∧
      (f.rtr = false → f.data.length ≤ 64 → frameFormat f ≤ d.rd (CAN.FRAME n) →
        (d.rd (CAN.PROTO n) = 3 ∧ (f.xlf = false ∨ f.sec = false)) ∨ (d.rd (CAN.PROTO n) = 1 ∧ f.ide = false) →
        let base := canPage n + 0x400 + 0x50 * ((d.rd (CAN.RX_HEAD n) + d.rd (CAN.RXQ_CNT n)) % 32)
        (d.rd (CAN.RXQ_CNT n) < 32 → e.rd (CAN.RXQ_CNT n) = d.rd (CAN.RXQ_CNT n) + 1 ∧
          memGetBytes e.mem base 0x50 = rxEntry f (nsOf (now - ago.toNat)) ∧
          (∀ a, a < base ∨ base + 0x50 ≤ a → memGet e.mem a = memGet d.mem a) ∧ OnlyRegs [CAN.RXQ_CNT n] { d with mem := e.mem } e) ∧
        (32 ≤ d.rd (CAN.RXQ_CNT n) → (d.canCtl n).shadow = none → e.rd (CAN.SHADOW_FULL n) = 1 ∧
          (e.canCtl n).shadow = some (rxEntry f (nsOf (now - ago.toNat))) ∧ OnlyRegs [CAN.SHADOW_FULL n] { d with can := e.can } e) ∧
        (32 ≤ d.rd (CAN.RXQ_CNT n) → (d.canCtl n).shadow ≠ none → e.rd (CAN.RX_DROP n) = counted d (CAN.RX_DROP n) ∧
          OnlyRegs [CAN.RX_DROP n] d e)) ∧
      (f.rtr = false → f.xlf = true → f.data.length ≤ 64 → d.rd (CAN.PROTO n) = 2 → d.rd (CAN.FRAME n) = 2 →
        f.sec = true ∨ f.sdt ≠ d.rd (CAN.XL_SDT n) ∨ f.vcid ≠ d.rd (CAN.XL_VCID n) ∨ f.af ≠ d.rd (CAN.XL_AF n) →
        e.rd (CAN.XL_MISMATCH n) = counted d (CAN.XL_MISMATCH n) ∧ OnlyRegs [CAN.XL_MISMATCH n] d e))) ∧
    (∀ k : BitVec 6, Answers (.rxAck el c k) s (fun _ d e => d.hif.inService = true →
      let m := min k.toNat (d.rd (CAN.RXQ_CNT n))
      e.rd (CAN.RX_HEAD n) = (d.rd (CAN.RX_HEAD n) + m) % 32 ∧
      ((d.canCtl n).shadow = none ∨ m = 0 → e.rd (CAN.RXQ_CNT n) = (d.rd (CAN.RXQ_CNT n) - m) % 2 ^ 6 ∧
        OnlyRegs [CAN.RX_HEAD n, CAN.RXQ_CNT n] d e) ∧
      (∀ x, (d.canCtl n).shadow = some x → m ≠ 0 → d.rd (CAN.RXQ_CNT n) < 2 ^ 6 → e.rd (CAN.RXQ_CNT n) = d.rd (CAN.RXQ_CNT n) - m + 1 ∧
        e.rd (CAN.SHADOW_FULL n) = 0 ∧ (e.canCtl n).shadow = none))) ∧
    Answers (.txGo el c) s (fun _ d e => d.hif.inService = true →
      (d.on (CAN.TX_BUSY n) = true → e = d) ∧
      (d.on (CAN.TX_BUSY n) = false → d.rd (CAN.PROTO n) = 2 → hostIdOk (d.mailFrame n) = false →
        e.rd (CAN.TX_REFUSED n) = 1 ∧ OnlyRegs [CAN.TX_REFUSED n] d e) ∧
      (d.on (CAN.TX_BUSY n) = false → d.rd (CAN.PROTO n) ≠ 2 ∨ hostIdOk (d.mailFrame n) = true → e.rd (CAN.TX_REFUSED n) = 0 ∧
        (d.canTx n = true → d.rd (CAN.PROTO n) ≠ 2 ∨ d.vnpMaster = true → e.rd (CAN.TX_BUSY n) = 1 ∧ (e.canCtl n).mail = some (d.mailFrame n) ∧
          OnlyRegs [CAN.TX_REFUSED n, CAN.TX_BUSY n] { d with can := e.can } e))) ∧
    (∀ acked : Bool, Answers (.mailboxTxDone el c acked) s (fun _ d e => d.alive = true →
      ((d.canCtl n).mail = none → e = d) ∧
      (∀ f, (d.canCtl n).mail = some f → (e.canCtl n).mail = none ∧ e.rd (CAN.TX_BUSY n) = 0 ∧
        (e.canCtl n).tx = (d.canCtl n).tx ++ (if acked && d.hostTx n then [f] else []) ∧ OnlyRegs [CAN.TX_BUSY n] { d with can := e.can } e))) ∧
    Answers (.busOn el c) s (fun _ d e => d.hif.inService = true →
      (d.rd (CAN.CAN_STATE n) ≠ 3 → e = d) ∧
      (d.rd (CAN.CAN_STATE n) = 3 → d.canActive n = true → d.on (CAN.LISTEN n) = false →
        e.rd (CAN.CAN_STATE n) = 1 ∧ e.rd (CAN.TEC n) = 0 ∧ e.rd (CAN.REC_ERR n) = 0)) ∧
    (∀ (tec : BitVec 9) (rec : BitVec 8), Answers (.busError el c tec rec) s (fun _ d e => d.alive = true → d.canActive n = true →
      d.on (CAN.LISTEN n) = false → d.rd (CAN.CAN_STATE n) ≠ 3 →
      e.rd (CAN.TEC n) = min 255 tec.toNat ∧ e.rd (CAN.REC_ERR n) = rec.toNat ∧
      (255 < tec.toNat → e.rd (CAN.CAN_STATE n) = 3 ∧ e.rd (CAN.TX_BUSY n) = 0 ∧ (e.canCtl n).mail = none) ∧
      (tec.toNat ≤ 255 → 127 < tec.toNat ∨ 127 < rec.toNat → e.rd (CAN.CAN_STATE n) = 2) ∧
      (tec.toNat ≤ 127 → rec.toNat ≤ 127 → e.rd (CAN.CAN_STATE n) = 1))) ∧
    (∀ pct : Fin 101, Answers (.busLoad el c pct) s (fun _ d e => d.alive = true → d.canActive n = true →
      e.rd (CAN.LOAD_LAST n) = pct.val ∧ e.rd (CAN.LOAD_MAX n) = max pct.val (d.rd (CAN.LOAD_MAX n)) % 2 ^ 8 ∧
      (50 < pct.val → e.raised EVT.CAN_LOAD n = true) ∧ OnlyRegsAndEvents [CAN.LOAD_LAST n, CAN.LOAD_MAX n] d e))

/-- R397, R401: bit-rate detection listens, takes the candidate nearest the shortest interval, counts good frames until ABD_FRAMES
lock it, tries the next candidate after an error, and fails when each has been tried or ABD_TMO has passed; an address claim
is complete after 250 ms, a contest goes to the lower NAME, and a request is answered by the claim.
It rests on the readings and choices of log entries 16, 97 and 101. -/
def Obligations.BitRateDetectionAndAddressClaim : Prop :=
  -- the Address Claimed or Cannot Claim message of address `sa` is all that controller `n` sends, where it may
  let sends := fun (n : Nat) (d e : Dev) (sa : Nat) =>
    (d.isoTx n = true → (e.canCtl n).tx = (d.canCtl n).tx ++ [{ id := 0x18EEFF00 + sa, ide := true, data := bytesLE 8 (d.isoName n) }] ∧
      e = { d with can := e.can }) ∧
    (d.isoTx n = false → e = d)
  ∀ (s : State) (el : Nat),
    (∀ c : Fin 6, let n := c.val
      Answers (.abdStart el c) s (fun now d e => d.hif.inService = true →
        e.rd (CAN.LISTEN n) = 1 ∧ e.rd (CAN.ABD_STATE n) = 1 ∧ (e.canCtl n).abdFrom = now ∧ (e.canCtl n).abdGood = 0 ∧
        (e.canCtl n).abdTried = 0 ∧ (d.canActive n = true → e.rd (CAN.CAN_STATE n) = 4)) ∧
      (∀ ns : Nat, Answers (.abdMeasureDone el c ns) s (fun _ d e => d.alive = true →
        (d.rd (CAN.ABD_STATE n) = 1 → d.canActive n = true → e.rd (CAN.ABD_STATE n) = 2 ∧ (e.canCtl n).abdCand < 4 ∧
          (∀ k, k < 4 → ((abdNs (e.canCtl n).abdCand : Int) - ns).natAbs ≤ ((abdNs k : Int) - ns).natAbs) ∧
          OnlyRegs [CAN.ABD_STATE n] { d with can := e.can } e) ∧
        (d.rd (CAN.ABD_STATE n) ≠ 1 ∨ d.canActive n = false → e = d))) ∧
      (∀ (err : Fin 3) (fast : Bool), Answers (.abdTryFrame el c err fast) s (fun _ d e => d.alive = true → d.canActive n = true →
        (d.rd (CAN.ABD_STATE n) ≠ 2 → e = d) ∧
        (d.rd (CAN.ABD_STATE n) = 2 →
          (err = 0 → (d.canCtl n).abdGood + 1 < max 1 (d.rd (CAN.ABD_FRAMES n)) →
            (e.canCtl n).abdGood = (d.canCtl n).abdGood + 1 ∧ e = { d with can := e.can }) ∧
          (err = 0 → max 1 (d.rd (CAN.ABD_FRAMES n)) ≤ (d.canCtl n).abdGood + 1 → e.rd (CAN.ABD_STATE n) = 3 ∧
            e.rd (CAN.ABD_NOM n) = ((d.canCtl n).abdCand + 1) % 2 ^ 4 ∧ e.rd (CAN.NTSEG1 n) = 69 ∧ e.rd (CAN.NTSEG2 n) = 10 ∧
            e.raised EVT.CAN_ABD n = true) ∧
          (err = 1 → (d.canCtl n).abdTried < 3 → (e.canCtl n).abdCand = ((d.canCtl n).abdCand + 1) % 4 ∧ (e.canCtl n).abdGood = 0 ∧
            (e.canCtl n).abdTried = (d.canCtl n).abdTried + 1 ∧ e = { d with can := e.can }) ∧
          (err = 1 → 3 ≤ (d.canCtl n).abdTried → e.rd (CAN.ABD_STATE n) = 4 ∧ e.raised EVT.CAN_ABD n = true) ∧
          (err = 2 → fast = true → (d.canCtl n).abdData < 4 → (e.canCtl n).abdData = (d.canCtl n).abdData + 1 ∧
            (e.canCtl n).abdCand = (d.canCtl n).abdCand ∧ e = { d with can := e.can })))) ∧
      Answers (.abdTmo el c) s (fun now d e => d.alive = true →
        (d.rd (CAN.ABD_STATE n) = 1 ∨ d.rd (CAN.ABD_STATE n) = 2 → (d.canCtl n).abdFrom + ms (d.rd (CAN.ABD_TMO n)) ≤ now →
          e.rd (CAN.ABD_STATE n) = 4 ∧ e.raised EVT.CAN_ABD n = true ∧ OnlyRegsAndEvents [CAN.ABD_STATE n] d e) ∧
        (now < (d.canCtl n).abdFrom + ms (d.rd (CAN.ABD_TMO n)) → e = d))) ∧
    (∀ c : Fin 2, let n := c.val
      Answers (.addressClaimTimeout el c) s (fun now d e => d.alive = true → ∀ t, (d.canCtl n).claimFrom = some t →
        (now < t + ms 250 → e = d) ∧
        (t + ms 250 ≤ now → d.isoTx n = true → e.rd (ISO.SA_ACT n) = (d.canCtl n).claimSa % 2 ^ 8 ∧ e.rd (ISO.CLAIMED n) = 1 ∧
          (e.canCtl n).claimFrom = none ∧ OnlyRegs [ISO.SA_ACT n, ISO.CLAIMED n] { d with can := e.can } e)) ∧
      (∀ (sa : BitVec 8) (name : BitVec 64), Answers (.addressClaimedRx el c sa name) s (fun now d e => d.isoRx n = true →
        ((d.claims n = false ∨ (d.canCtl n).claimSa ≠ sa.toNat) → e = { d with can := e.can } ∧
          (sa.toNat < 254 → (sa.toNat, name.toNat) ∈ (e.canCtl n).taken)) ∧
        (d.claims n = true → (d.canCtl n).claimSa = sa.toNat → d.isoName n < name.toNat → sends n d e sa.toNat) ∧
        (d.claims n = true → (d.canCtl n).claimSa = sa.toNat → name.toNat ≤ d.isoName n →
          e.rd (ISO.CLAIMED n) = 0 ∧ e.rd (ISO.SA_ACT n) = 254 ∧
          (bitOf (d.isoName n) 63 = false → e.rd (ISO.CANNOT_CLAIM n) = 1 ∧ (e.canCtl n).claimFrom = none ∧
            e.raised EVT.CAN_ADDR n = true) ∧
          (bitOf (d.isoName n) 63 = true → (d.canCtl n).taken = [] → e.rd (ISO.CANNOT_CLAIM n) = 0 ∧
            (e.canCtl n).claimFrom = some now ∧ 128 ≤ (e.canCtl n).claimSa ∧ (e.canCtl n).claimSa ≤ 247 ∧
            (e.canCtl n).claimSa ≠ sa.toNat)))) ∧
      Answers (.requestForAddressClaimed el c) s (fun _ d e => d.isoRx n = true →
        (d.claims n = true → sends n d e (d.canCtl n).claimSa) ∧
        (d.claims n = false → d.on (ISO.CANNOT_CLAIM n) = true → sends n d e 254) ∧
        (d.claims n = false → d.on (ISO.CANNOT_CLAIM n) = false → e = d)))

/-- R402: an RTS or BAM opens the one receive session, or is refused and counted; packets in order fill it, a BAM packet out of
order ends it, and the last one gives the message to software; TP_TX_GO sends a message of up to 8 bytes at once and opens a
session for a longer one to one address; the receiver's answers send packets or end it.
It rests on the reading or choice of log entry 16. -/
def Obligations.TransportProtocol : Prop :=
  ∀ (s : State) (el : Nat) (c : Fin 2),
    let n := c.val
    (∀ (sa : BitVec 8) (etp : Bool) (pgn : BitVec 18) (len : Word), Answers (.tpRts el c sa etp pgn len) s (fun _ d e =>
      d.isoRx n = true → d.on (ISO.CLAIMED n) = true →
      (d.tpRxBusy n = true ∨ 65536 < len.toNat → e.rd (ISO.TP_REFUSED n) = counted d (ISO.TP_REFUSED n) ∧
        (e.canCtl n).tpRx = (d.canCtl n).tpRx ∧ OnlyRegs [ISO.TP_REFUSED n] { d with can := e.can } e) ∧
      (d.tpRxBusy n = false → len.toNat ≤ 65536 → e = { d with can := e.can } ∧
        (e.canCtl n).tpRx = some { etp := etp, pgn := pgn.toNat, addr := sa.toNat, len := len.toNat, burst := min (max 1 (d.rd (ISO.TP_CTS_PKTS n))) (tpPackets len.toNat) }))) ∧
    (∀ (sa : BitVec 8) (pgn : BitVec 18) (len : BitVec 16), Answers (.tpBam el c sa pgn len) s (fun _ d e => d.isoRx n = true →
      (d.tpRxBusy n = true → e.rd (ISO.TP_REFUSED n) = counted d (ISO.TP_REFUSED n) ∧ OnlyRegs [ISO.TP_REFUSED n] d e) ∧
      (d.tpRxBusy n = false → e = d.modCan n (fun x => { x with tpRx := some { bam := true, pgn := pgn.toNat, addr := sa.toNat, len := len.toNat } })))) ∧
    (∀ (sa seq : BitVec 8) (data : List Byte), Answers (.tpDataTransfer el c sa seq data) s (fun _ d e => d.isoRx n = true →
      ((d.canCtl n).tpRx = none → e = d) ∧
      (∀ x, (d.canCtl n).tpRx = some x →
        (x.addr ≠ sa.toNat → e = d) ∧
        (x.addr = sa.toNat → x.bam = true → x.etp = false →
          let all := x.data ++ (natBytes data).take 7
          (seq.toNat ≠ x.data.length / 7 + 1 → (e.canCtl n).tpRx = none ∧ e = { d with can := e.can }) ∧
          (seq.toNat = x.data.length / 7 + 1 → all.length < x.len → e = { d with can := e.can } ∧
            (e.canCtl n).tpRx = some { x with data := all, burst := x.burst - 1 }) ∧
          (seq.toNat = x.data.length / 7 + 1 → x.len ≤ all.length → (∀ y ∈ x.data, y < 256) →
            (e.canCtl n).tpRx = none ∧ memGetBytes e.mem (tpBuf n) x.len = all.take x.len ∧
            (∀ a, a < tpBuf n ∨ tpBuf n + x.len ≤ a → memGet e.mem a = memGet d.mem a) ∧
            e.rd (ISO.TP_RX_LEN n) = x.len % 2 ^ 17 ∧ e.rd (ISO.TP_RX_PGN n) = x.pgn % 2 ^ 18 ∧ e.rd (ISO.TP_RX_SA n) = x.addr % 2 ^ 8 ∧
            e.rd (ISO.TP_RX_FULL n) = 1 ∧ e.raised EVT.CAN_TP_RX n = true))))) ∧
    Answers (.tpRxAck el c) s (fun _ d e => d.hif.inService = true →
      e.rd (ISO.TP_RX_FULL n) = 0 ∧ OnlyRegs [ISO.TP_RX_FULL n] d e) ∧
    Answers (.tpTxGo el c) s (fun _ d e => d.hif.inService = true →
      let len := d.rd (ISO.TP_TX_LEN n)
      let go := d.on (ISO.TP_TX_BUSY n) = false ∧ d.isoTx n = true ∧ d.on (ISO.CLAIMED n) = true
      (d.on (ISO.TP_TX_BUSY n) = true → e = d) ∧
      (d.on (ISO.TP_TX_BUSY n) = false →
        d.isoTx n = false ∨ d.on (ISO.CLAIMED n) = false ∨ len = 0 ∨ 65536 < len ∨ (d.rd (ISO.TP_TX_DA n) = 255 ∧ 1785 < len) →
        e.rd (ISO.TP_TX_RES n) = 2 ∧ OnlyRegs [ISO.TP_TX_RES n] d e) ∧
      (go → 0 < len → len ≤ 8 → e.rd (ISO.TP_TX_RES n) = 1 ∧ e.rd (ISO.TP_TX_BUSY n) = 0 ∧
        ∃ f, (e.canCtl n).tx = (d.canCtl n).tx ++ [f] ∧ f.ide = true ∧ f.data = memGetBytes d.mem (tpBuf n + 0x10000) len) ∧
      (go → 8 < len → len ≤ 1785 → d.rd (ISO.TP_TX_DA n) = 255 → e.rd (ISO.TP_TX_RES n) = 1 ∧ e.rd (ISO.TP_TX_BUSY n) = 0 ∧
        (e.canCtl n).tx.length = (d.canCtl n).tx.length + 1 + (len + 6) / 7) ∧
      (go → 8 < len → len ≤ 65536 → d.rd (ISO.TP_TX_DA n) ≠ 255 → e.rd (ISO.TP_TX_RES n) = 0 ∧ e.rd (ISO.TP_TX_BUSY n) = 1 ∧
        (e.canCtl n).tpTx = some { pgn := d.rd (ISO.TP_TX_PGN n), addr := d.rd (ISO.TP_TX_DA n), len := len, data := memGetBytes d.mem (tpBuf n + 0x10000) len, etp := decide (1785 < len) })) ∧
    (∀ (sa : BitVec 8) (kind : Fin 3) (k : BitVec 8) (next : BitVec 24), Answers (.tpCtsRx el c sa kind k next) s (fun _ d e => d.isoRx n = true →
      ((d.canCtl n).tpTx = none → e = d) ∧
      (∀ x, (d.canCtl n).tpTx = some x →
        (x.addr ≠ sa.toNat → e = d) ∧
        (x.addr = sa.toNat → kind ≠ 0 → (e.canCtl n).tpTx = none ∧ e.rd (ISO.TP_TX_BUSY n) = 0 ∧ e.rd (ISO.TP_TX_RES n) = kind.val ∧
          OnlyRegs [ISO.TP_TX_BUSY n, ISO.TP_TX_RES n] { d with can := e.can } e) ∧
        (x.addr = sa.toNat → kind = 0 → x.etp = false → next.toNat ≠ 0 → d.isoTx n = true → e = { d with can := e.can } ∧
          (e.canCtl n).tpTx = some x ∧
          (e.canCtl n).tx.length = (d.canCtl n).tx.length + min k.toNat (tpPackets x.len + 1 - next.toNat)))))

/-- R403, R404: a speed of the accepted source on the bus of POSE reaches the pose engine in mm/s; a position with its method and
the velocity that follows it within 200 ms reach it as measurements, stamped with the receive DT less CAN_LAT.
It rests on the readings and choices of log entries 16 and 98. -/
def Obligations.PoseInputsFromTheBus : Prop :=
  ∀ (s : State) (el : Nat) (c : Fin 2) (sa : BitVec 8),
    let n := c.val
    -- the source of a speed, and of a position or velocity, that is accepted: the one named, or with 255 the first heard
    let spd := fun (d : Dev) => d.rd (ISO.SPD_SA n) = sa.toNat ∧ sa.toNat ≠ 255 ∨
      d.rd (ISO.SPD_SA n) = 255 ∧ ((d.canCtl n).spdSrc = none ∨ (d.canCtl n).spdSrc = some sa.toNat)
    let nav := fun (d : Dev) => d.rd (ISO.NAV_SA n) = sa.toNat ∧ sa.toNat ≠ 255 ∨
      d.rd (ISO.NAV_SA n) = 255 ∧ ((d.canCtl n).navSrc = none ∨ (d.canCtl n).navSrc = some sa.toNat)
    let taken := fun (now speed : Nat) (d e : Dev) => e.pose.canSpd = some (speed : Int) ∧ e.pose.meas = d.pose.meas ++
      (if d.poseEn then [{ kind := .canSpeed, dt := now - 4000 * d.rd POSE.CAN_LAT, at_ := now, v1 := speed, sig := d.rd POSE.CAN_SIG }] else [])
    (∀ (speed : BitVec 16) (dir : BitVec 2), Answers (.wheelBasedSpeed el c sa speed dir) s (fun now d e => d.isoRx n = true →
      (¬spd d → e = d) ∧
      (spd d → d.rd (ISO.SPD_SA n) = 255 → (e.canCtl n).spdSrc = some sa.toNat) ∧
      (spd d → d.spdBus = n → d.rd POSE.CAN_SPD = 1 → speed.toNat ≤ 64255 → d.rd POSE.DIR_SRC = 0 → taken now speed.toNat d e) ∧
      (spd d → d.spdBus ≠ n ∨ d.rd POSE.CAN_SPD ≠ 1 ∨ 64255 < speed.toNat → e.pose.meas = d.pose.meas ∧ e.pose.canSpd = d.pose.canSpd) ∧
      (spd d → d.spdBus = n → dir.toNat < 2 → e.pose.canRev = (dir.toNat == 0)))) ∧
    (∀ speed : BitVec 16, Answers (.groundBasedSpeed el c sa speed) s (fun now d e => d.isoRx n = true →
      (¬spd d → e = d) ∧
      (spd d → d.rd (ISO.SPD_SA n) = 255 → (e.canCtl n).spdSrc = some sa.toNat) ∧
      (spd d → d.spdBus ≠ n ∨ d.rd POSE.CAN_SPD ≠ 2 ∨ 64255 < speed.toNat → e.pose = d.pose) ∧
      (spd d → d.spdBus = n → d.rd POSE.CAN_SPD = 2 → speed.toNat ≤ 64255 → d.rd POSE.DIR_SRC = 0 → taken now speed.toNat d e))) ∧
    (∀ (lat lon h : Int) (method : BitVec 4) (hdop : BitVec 16), Answers (.gnssPositionData el c sa lat lon h method hdop) s (fun now d e =>
      d.isoRx n = true →
      (¬nav d → e = d) ∧
      (nav d → d.rd (ISO.NAV_SA n) = 255 → (e.canCtl n).navSrc = some sa.toNat) ∧
      (nav d → method.toNat = 0 → e.pose = d.pose ∧ (e.canCtl n).nav = (d.canCtl n).nav) ∧
      (nav d → method.toNat ≠ 0 → (e.canCtl n).nav = some (now, [lat, lon, h]) ∧
        (d.rd POSE.GNSS_SRC = n + 1 → d.poseEn = true → ∃ m : Meas, e.pose.meas = d.pose.meas ++ [m] ∧ m.kind = .gnssPos ∧
          m.dt = now - 4000 * d.rd POSE.CAN_LAT ∧ m.v1 = lat ∧ m.v2 = lon ∧ m.v3 = h ∧
          (method.toNat = 4 → m.solType = 5 ∧ m.cov.head? = some (((hdop.toNat * d.rd (ISO.UERE_FIX n) / 100 : Nat) : Int) ^ 2)) ∧
          (method.toNat = 5 → m.solType = 4 ∧ m.cov.head? = some (((hdop.toNat * d.rd (ISO.UERE_FLOAT n) / 100 : Nat) : Int) ^ 2)) ∧
          (method.toNat ≠ 4 → method.toNat ≠ 5 → m.solType = 1 ∧
            m.cov.head? = some (((hdop.toNat * d.rd (ISO.UERE_STD n) / 100 : Nat) : Int) ^ 2)))))) ∧
    (∀ cog sog : BitVec 16, Answers (.cogSogRapidUpdate el c sa cog sog) s (fun now d e => d.isoRx n = true →
      (¬nav d → e = d) ∧
      (nav d → (d.canCtl n).nav = none → e.pose = d.pose) ∧
      (∀ x, nav d → (d.canCtl n).nav = some x →
        (x.1 + ms 200 < now → e.pose = d.pose) ∧
        (now ≤ x.1 + ms 200 → d.rd POSE.GNSS_SRC = n + 1 → d.poseEn = true → cog.toNat ≤ 65532 → sog.toNat ≤ 65532 →
          ∃ m : Meas, e.pose.meas = d.pose.meas ++ [m] ∧ m.kind = .gnssVel ∧ m.dt = now - 4000 * d.rd POSE.CAN_LAT ∧ m.hasVel = true ∧
            m.spd = 10 * sog.toNat ∧ m.v1 = x.2.getD 0 0 ∧ m.v2 = x.2.getD 1 0 ∧ m.v3 = x.2.getD 2 0))))

/-- R189, R413 to R424: a tick of a node's own sends it one DUTY frame for each product of its pulsed points that are on, once; reports of a
node refresh it; a status makes a lost node READY again and asks for a resync, a fault is
gathered for the end of the tick, the last configuration key acknowledged makes the node READY; an enrolment request of a node
in the table answers with its address and configuration, of an unknown one enters the list of new nodes; a READY node silent
for 3 STAT_DIV ticks is lost; BUS_SUPPLY clears after 2 s and a Shade at its end.
It rests on the reading or choice of log entry 100. -/
def Obligations.NodeProtocol : Prop :=
  ∀ (s : State) (el : Nat) (b : Fin 4),
    let n := 2 + b.val
    (∀ (a : Fin 64) (data : List Byte), let bs := natBytes data
      Answers (.latency el b a data) s (fun now d e => d.vnpHears b.val = true →
        ((d.node b.val a.val).st = 0 → e = d) ∧
        ((d.node b.val a.val).st ≠ 0 → (e.node b.val a.val).heard = d.tickCnt now ∧ (e.node b.val a.val).st = (d.node b.val a.val).st ∧
          (bs.getD 0 0 % 8 = 0 → (e.node b.val a.val).records = (d.node b.val a.val).records) ∧
          (∀ r, recordsOf (bs.getD 0 0 % 8) (bs.drop 4) = [r] →
            let ct := r.getD 3 0 + 256 * r.getD 4 0 + 65536 * r.getD 5 0
            let t10 := d.ptOf (nsOf now) / 10000
            let start := d.dtOfPt (10000 * (t10 - (t10 + 16777216 - ct) % 16777216))
            (start + ms 2000 < now → e.rd (VNP.RPT_STALE n) = counted d (VNP.RPT_STALE n)) ∧
            (now ≤ start + ms 2000 → (e.node b.val a.val).records = min 65535 ((d.node b.val a.val).records + 1))))) ∧
      Answers (.status el b a data) s (fun now d e => d.vnpHears b.val = true →
        ((d.node b.val a.val).st = 0 → e = d) ∧
        ((d.node b.val a.val).st ≠ 0 → e = { d with vnp := e.vnp } ∧ (e.node b.val a.val).heard = d.tickCnt now ∧
          (e.node b.val a.val).st = (if (d.node b.val a.val).st = 3 then 2 else (d.node b.val a.val).st) ∧
          (e.node b.val a.val).vsup = bs.getD 0 0 + 256 * bs.getD 1 0 ∧ (e.node b.val a.val).temp = bs.getD 2 0 ∧
          (e.node b.val a.val).snuffed = bitOf (bs.getD 3 0) 1 ∧ ((d.node b.val a.val).st = 3 → (e.node b.val a.val).resync = true))) ∧
      Answers (.fault el b a data) s (fun now d e => d.vnpHears b.val = true →
        ((d.node b.val a.val).st = 0 → e = d) ∧
        ((d.node b.val a.val).st ≠ 0 → e = { d with vnp := e.vnp, can := e.can } ∧ (e.node b.val a.val).heard = d.tickCnt now ∧
          (e.node b.val a.val).faults = min 65535 ((d.node b.val a.val).faults + 1) ∧
          (e.canCtl n).faults = (d.canCtl n).faults ++ [{ bus := b.val, node := a.val, code := bs.getD 0 0, count := bs.getD 1 0, mask := bs.getD 2 0 + 256 * bs.getD 3 0, detail := bs.getD 4 0 + 256 * bs.getD 5 0 }] ∧
          (supplyClass (bs.getD 0 0) = true → (e.canCtl n).supplyAt = some now))) ∧
      Answers (.configAck el b a data) s (fun now d e => d.vnpHears b.val = true →
        ((d.node b.val a.val).st = 0 → e = d) ∧
        ((d.node b.val a.val).st ≠ 0 → e = { d with vnp := e.vnp } ∧ (e.node b.val a.val).heard = d.tickCnt now) ∧
        (∀ x y : Nat, bs = [4, 0, x, y] → (d.node b.val a.val).st = 1 → (d.node b.val a.val).acked = 7 →
          (e.node b.val a.val).st = 2 ∧ (e.node b.val a.val).resync = true)) ∧
      Answers (.nodeLost el b a) s (fun now d e => d.ticking = true → (d.node b.val a.val).st = 2 →
        let at_ := (d.node b.val a.val).heard + 3 * max 10 (d.rd (VNP.STAT_DIV n))
        (d.tickCnt now < at_ → e = d) ∧
        (at_ ≤ d.tickCnt now → (e.node b.val a.val).st = 3 ∧ e.raised EVT.CAN_NODE_LOST (64 * b.val + a.val) = true ∧
          OnlyRegsAndEvents [] { d with vnp := e.vnp } e)) ∧
      Answers (.dutyRefresh el b a) s (fun now d e => d.ticking = true →
        let k := d.tickCnt now
        let due := (d.node b.val a.val).st = 2 ∧ d.vnpTx b.val = true ∧ (k + a.val) % held 10 255 (d.rd RATE.NODE_REFRESH) = 0 ∧
          (d.node b.val a.val).dutyTick ≠ some k
        let pts := (d.nodePts b.val a.val).filter (fun x => d.pulsedPt x.2 && (d.decOf x.2).s)
        (¬due → e = d) ∧
        (due → e.node b.val a.val = { d.node b.val a.val with dutyTick := some k } ∧
          (∀ x ∈ pts, (e.paintOf x.2).sent = d.gridOfPt x.2) ∧
          (e.canCtl n).tx.take (d.canCtl n).tx.length = (d.canCtl n).tx ∧
          (e.canCtl n).tx.length = (d.canCtl n).tx.length +
            ((List.range 8).filter (fun p => pts.any (fun x => d.rd (PD.PRODUCT x.2) == p))).length ∧
          (∀ f ∈ (e.canCtl n).tx.drop (d.canCtl n).tx.length, f.id = 64 * 5 + a.val)))) ∧
    (∀ data : List Byte, let uid := ofBytesLE ((natBytes data).take 8)
      Answers (.enrolReq el b data) s (fun _ d e => d.vnpHears b.val = true → d.vnpTx b.val = true →
        (uid = 0 ∨ uid = 2 ^ 64 - 1 → e = d) ∧
        (uid ≠ 0 → uid ≠ 2 ^ 64 - 1 →
          (∀ a, (List.range 64).find? (fun x => d.tableUid b.val x == uid) = some a →
            (e.node b.val a).st = 1 ∧ (e.node b.val a).uid = uid ∧ (e.node b.val a).pts = (natBytes data).getD 8 0 % 16 + 1 ∧
            (e.canCtl n).tx = (d.canCtl n).tx ++ [d.vnpFrame b.val 25 a (bytesLE 8 uid ++ [a]), d.vnpFrame b.val 16 a (d.configBytes b.val)]) ∧
          ((List.range 64).find? (fun x => d.tableUid b.val x == uid) = none →
            (d.canCtl n).newNodes.any (fun x => x.1 == uid) = false → (d.canCtl n).newNodes.length < 16 →
            (e.canCtl n).newNodes = (d.canCtl n).newNodes ++ [(uid, natBytes data)] ∧
            e.raised EVT.CAN_NODE_NEW (64 * b.val + uid % 64) = true)))) ∧
    Answers (.busSupplyClear el b) s (fun now d e => d.alive = true → ∀ t, (d.canCtl n).supplyAt = some t → d.on (VNP.BUS_SUPPLY n) = true →
      (t + sec 2 ≤ now → e.rd (VNP.BUS_SUPPLY n) = 0 ∧ OnlyRegs [VNP.BUS_SUPPLY n] d e) ∧ (now < t + sec 2 → e = d)) ∧
    Answers (.shadeEnd el b) s (fun now d e => d.alive = true → ∀ t, (d.canCtl n).shadeUntil = some t →
      (t ≤ now → e = d.modCan n (fun x => { x with shadeUntil := none })) ∧ (now < t → e = d)) ∧
    (∀ a : BitVec 6, Answers (.pollGo el b a) s (fun _ d e => d.hif.inService = true →
      e.rd (VNP.POLL_NODE n) = a.toNat ∧ OnlyRegs [VNP.POLL_NODE n] { d with can := e.can } e ∧
      (d.vnpTx b.val = true → (e.canCtl n).tx = (d.canCtl n).tx ++ [d.vnpFrame b.val 12 a.toNat [0]]))) ∧
    Answers (.newNext el b) s (fun _ d e => d.hif.inService = true →
      e = d.modCan n (fun x => { x with newNodes := x.newNodes.tail }))

/-! ### KSP and PAIR -/

/-- R428 to R432, R435, R452: a port leaves LOCK when every lane is locked, or lane 0 and 10 ms have passed; a lane lost, 100 ms of
training or 1 ms of silence retrains it, and a retrain of 50 ms is a link that is down; with matching training sets it comes
UP; a LINK packet is sent after 100 µs without one.
It rests on the reading or choice of log entry 7. -/
def Obligations.LinkTrains : Prop :=
  ∀ (s : State) (el : Nat) (p : Fin 2),
    let n := p.val
    (∀ lane : Fin 4, Answers (.laneLock el p lane) s (fun now d e => d.powered = true →
        let lanes := setBitOf (d.port n).lanes lane.val true
        ((d.port n).st = .disabled → e = d) ∧
        ((d.port n).st = .lock → e = { d with ksp := e.ksp } ∧ (e.port n).lanes = lanes ∧
          (lanes = 15 ∨ (bitOf lanes 0 = true ∧ (d.port n).since + ms 10 ≤ now) → (e.port n).st = .deskew ∧ (e.port n).since = now) ∧
          (lanes ≠ 15 → bitOf lanes 0 = false ∨ now < (d.port n).since + ms 10 → (e.port n).st = .lock))) ∧
      Answers (.laneLockLoss el p lane) s (fun now d e => d.powered = true →
        (bitOf (d.port n).lanes lane.val = false → e = { d with ksp := e.ksp } ∧ (e.port n).st = (d.port n).st) ∧
        (bitOf (d.port n).lanes lane.val = true → bitOf (e.port n).lanes lane.val = false ∧
          ((d.port n).st = .up → lane.val < 2 ^ (d.port n).width → (e.port n).st = .lock ∧ (e.port n).retrainFrom = some now) ∧
          ((d.port n).st = .up → 2 ^ (d.port n).width ≤ lane.val → (e.port n).st = .up) ∧
          ((d.port n).st = .deskew ∨ (d.port n).st = .config → (e.port n).st = .lock ∧
            e.rd (KSP.TRAIN_FAIL n) = counted d (KSP.TRAIN_FAIL n))))) ∧
    Answers (.laneLockWaitExpiry el p) s (fun now d e => d.powered = true → (d.port n).st = .lock → bitOf (d.port n).lanes 0 = true →
      ((d.port n).since + ms 10 ≤ now → (e.port n).st = .deskew ∧ (e.port n).since = now) ∧
      (now < (d.port n).since + ms 10 → e.port n = d.port n)) ∧
    Answers (.trainTimeout el p) s (fun now d e => d.powered = true →
      ((d.port n).st = .disabled ∨ (d.port n).st = .up ∨ now < (d.port n).trainFrom + ms 100 → e = d) ∧
      ((d.port n).st ≠ .disabled → (d.port n).st ≠ .up → (d.port n).trainFrom + ms 100 ≤ now →
        (e.port n).st = .lock ∧ (e.port n).trainFrom = now ∧ e.rd (KSP.TRAIN_FAIL n) = counted d (KSP.TRAIN_FAIL n))) ∧
    Answers (.retrain el p) s (fun now d e => d.hif.inService = true →
      ((d.port n).st = .disabled → e = d) ∧
      ((d.port n).st = .up → (e.port n).st = .lock ∧ (e.port n).retrainFrom = some now ∧ e = { d with ksp := e.ksp }) ∧
      ((d.port n).st ≠ .disabled → (d.port n).st ≠ .up → (e.port n).st = .lock ∧ e.rd (KSP.TRAIN_FAIL n) = counted d (KSP.TRAIN_FAIL n))) ∧
    Answers (.linkDown el p) s (fun now d e => d.powered = true → (d.port n).st ≠ .up → ∀ t, (d.port n).retrainFrom = some t →
      (now < t + ms 50 → e = d) ∧
      (t + ms 50 ≤ now → e.raised EVT.KSP_LINK_DOWN n = true ∧
        e.rd (KSP.DOWN_CNT n) = counted d (KSP.DOWN_CNT n) ∧ (e.port n).retrainFrom = none ∧ (e.port n).replay = [] ∧
        (e.port n).txSeq = 0 ∧ (e.port n).rxNext = 0 ∧ (e.port n).st = (d.port n).st ∧
        (d.alive = true → d.edgePassed now = true → e.tpl = { d.tpl with selDue := true }))) ∧
    (∀ (locked : BitVec 4) (width : BitVec 3) (endCode : BitVec 2) (cols : Nat), Answers (.ts el p locked width endCode cols) s (fun now d e =>
      d.powered = true → (d.port n).retrainFrom = none →
      ((d.port n).st = .deskew → (e.port n).st = .config ∧ (e.port n).farLocked = locked.toNat ∧ e.rd (KSP.FAR_END n) = endCode.toNat ∧
        OnlyRegs [KSP.FAR_END n] { d with ksp := e.ksp } e) ∧
      ((d.port n).st = .config → ∀ w, commonWidth (d.port n).maxW (d.port n).lanes locked.toNat = some w → width.toNat = 2 ^ w →
        (endCode.toNat == 2) = (d.port n).partner →
        (((d.port n).tsRx + cols < 8 ∨ (d.port n).tsTx + cols < 16) → (e.port n).st = .config ∧
          (e.port n).tsRx = min 8 ((d.port n).tsRx + cols) ∧ (e.port n).tsTx = (d.port n).tsTx + cols) ∧
        (8 ≤ (d.port n).tsRx + cols → 16 ≤ (d.port n).tsTx + cols → (e.port n).st = .up ∧ (e.port n).width = w ∧
          (e.port n).lastLink = now ∧ e.raised EVT.KSP_LINK_UP n = true ∧ e.rd (KSP.FAR_END n) = endCode.toNat ∧
          (d.alive = true → d.pair.en = true → n = 1 → (d.port n).partner = true → e.pair.helloSent = some now))) ∧
      ((d.port n).st = .lock ∨ (d.port n).st = .up → e = d))) ∧
    Answers (.linkKeepalive el p) s (fun now d e => d.powered = true →
      ((d.port n).st = .up → (d.port n).linkTxAt + us 100 ≤ now → e = { d with ksp := e.ksp } ∧ (e.port n).linkTxAt = now ∧
        (e.port n).linkTx.length = 7 ∧ (e.port n).linkTx.head? = some (((d.port n).rxNext + 4095) % 4096) ∧
        (∀ k, k < 5 → (e.port n).linkTx.getD (2 + k) 0 =
          ((tget (d.port n).vcs k).rxUnits + 65536 - (tget (d.port n).vcs k).heldUnits + vcBuffer k) % 65536)) ∧
      ((d.port n).st ≠ .up ∨ now < (d.port n).linkTxAt + us 100 → e = d)) ∧
    Answers (.linkSilence el p) s (fun now d e => d.powered = true →
      ((d.port n).st = .up → (d.port n).lastLink + ms 1 ≤ now → (e.port n).st = .lock ∧ (e.port n).retrainFrom = some now ∧
        e = { d with ksp := e.ksp }) ∧
      ((d.port n).st ≠ .up ∨ now < (d.port n).lastLink + ms 1 → e = d))

/-- R257, R431 to R436: a DATA packet too short for its CRCs or out of sequence counts in CRC_ERR and is answered by NAK; a good one in sequence is taken,
joined to its message, and acts when it ends it, its units counting as credit again but for VC2 while GRID holds a tile; a LINK packet takes acknowledged packets out of the replay buffer and gives
the credit, and its NAK counts a replay. -/
def Obligations.LinkCarriesPackets : Prop :=
  ∀ (s : State) (el : Nat) (p : Fin 2),
    let n := p.val
    (∀ bytes : List Byte, Answers (.dataPacket el p bytes) s (fun now d e => d.powered = true →
      let bs := bytes.map BitVec.toNat
      let w0 := ofBytesLE (bs.take 4)
      let len := bitsOf w0 16 11
      let padded := (len + 3) / 4 * 4
      let vc := bitsOf w0 0 3
      ((d.port n).st ≠ .up → e = d) ∧
      ((d.port n).st = .up → bs.length < 16 → e.rd (KSP.CRC_ERR n) = counted d (KSP.CRC_ERR n) ∧ (e.port n).nakOut = true ∧
        (e.port n).rxNext = (d.port n).rxNext) ∧
      ((d.port n).st = .up → 16 ≤ bs.length → crc16 (bs.take 12) = bitsOf (ofBytesLE ((bs.drop 12).take 4)) 0 16 → bitOf w0 3 = false →
        bitsOf (ofBytesLE ((bs.drop 4).take 4)) 0 12 ≠ (d.port n).rxNext →
        ((d.port n).nakOut = true → e = d) ∧
        ((d.port n).nakOut = false → e.rd (KSP.CRC_ERR n) = counted d (KSP.CRC_ERR n) ∧ (e.port n).nakOut = true)) ∧
      ((d.port n).st = .up → bs.length = 20 + padded → crc16 (bs.take 12) = bitsOf (ofBytesLE ((bs.drop 12).take 4)) 0 16 →
        crc32 (bs.take (16 + padded)) = ofBytesLE ((bs.drop (16 + padded)).take 4) → 1 ≤ len → len ≤ 1024 → bitOf w0 3 = false →
        bitsOf (ofBytesLE ((bs.drop 4).take 4)) 0 12 = (d.port n).rxNext → vcTaken (d.port n).partner vc = true →
        let msg := if bitOf w0 4 then (bs.drop 16).take len else ((tget (d.port n).vcs vc).partialRx.getD []) ++ (bs.drop 16).take len
        ∃ b : Dev, b = { d with ksp := b.ksp } ∧ (b.port n).rxNext = ((d.port n).rxNext + 1) % 4096 ∧ (b.port n).nakOut = false ∧
          (tget (b.port n).vcs vc).rxUnits = ((tget (d.port n).vcs vc).rxUnits + (len + 63) / 64) % 65536 ∧
          (tget (b.port n).vcs vc).heldUnits = (tget (d.port n).vcs vc).heldUnits +
            (if n = 0 ∧ vc = 2 ∧ d.grid.held ≠ [] then (len + 63) / 64 else 0) ∧
          (bitOf w0 5 = false → e = b ∧ (tget (b.port n).vcs vc).partialRx = some msg) ∧
          (bitOf w0 5 = true → (tget (b.port n).vcs vc).partialRx = none ∧
            (vcAccepts (d.port n).partner vc (msg.headD 0) = true → e = b.message now n vc msg) ∧
            (vcAccepts (d.port n).partner vc (msg.headD 0) = false → e = b.bump (KSP.RX_DISCARD n)))))) ∧
    (∀ (ack : BitVec 12) (nak : Bool) (c0 c1 c2 c3 c4 : BitVec 16), Answers (.linkPacket el p ack nak c0 c1 c2 c3 c4) s (fun now d e =>
      d.powered = true →
      ((d.port n).st ≠ .up → e = d) ∧
      ((d.port n).st = .up → (e.port n).lastLink = now ∧
        (∀ k (h : k < 5), (tget (e.port n).vcs k).credit = ([c0, c1, c2, c3, c4][k]'h).toNat) ∧
        (∃ more, (e.port n).replay = (d.port n).replay.filter (fun x => decide (2048 ≤ (ack.toNat + 4096 - x.seq) % 4096)) ++ more) ∧
        (nak = false → (e.port n).replayRun = 0 ∧ (e.port n).st = .up) ∧
        (nak = true → e.rd (KSP.REPLAY_CNT n) = counted d (KSP.REPLAY_CNT n) ∧
          ((d.port n).replayRun = 3 → (d.port n).replaySeq = (ack.toNat + 1) % 4096 → (e.port n).st = .lock)))))

/-- R440 to R443, R450, R451: a HELLO of a consistent partner makes the seeking module ACTIVE or lets it join, and an inconsistent
one is refused with PAIR_ERR; PAIR_WAIT without a partner leads to LISTEN and BEACON_LISTEN without a beacon to ALONE; two
modules heard as active raise EVT_PAIR_DUAL and unit 1 seeks again; a heartbeat counts for its tick; ROLE_SWAP and RETURN_HOLD
ask for a handover 8 ticks ahead.
It rests on the readings and choices of log entries 20 and 104. -/
def Obligations.PairingRoles : Prop :=
  ∀ (s : State) (el : Nat),
    (∀ h : HelloMsg, Answers (.hello el h) s (fun _ d e => d.alive = true → d.pairLink = true → d.pair.en = true →
      e.rd PAIR.PARTNER_UNIT = h.unit % 2 ∧ e.rd PAIR.PAIR_ERR = d.helloErr h ∧ e.pair.hello = some h ∧
      (d.helloErr h ≠ 0 → d.rd PAIR.PAIR_ERR ≠ d.helloErr h → e.raised EVT.PAIR_REFUSED 0 = true) ∧
      (d.pair.st = .seek ∨ d.pair.st = .listen →
        (d.helloErr h ≠ 0 → e.pair.st = .seek) ∧
        (d.helloErr h = 0 → h.state = 5 ∨ h.state = 6 → e.pair.st = .joining ∧ e.rd PAIR.PAIR_STATE = 3) ∧
        (d.helloErr h = 0 → h.state ≤ 3 → d.pairWins h = true → e.pair.st = .active ∧ e.rd PAIR.PAIR_STATE = 5 ∧
          e.rd2 PAIR.PT_OFS_LO PAIR.PT_OFS_HI = 0) ∧
        (d.helloErr h = 0 → h.state ≤ 3 → d.pairWins h = false → e.pair.st = .joining)) ∧
      (d.pair.st = .active → d.helloErr h = 0 →
        (h.state = 3 ∨ h.state = 4 → e.pair.st = .active ∧ e.pair.snapWant = true) ∧ (h.state ≤ 2 → e.pair.st = .alone)) ∧
      (d.pair.st = .alone → d.helloErr h = 0 → h.state = 4 → e.pair.st = .active))) ∧
    Answers (.helloSend el) s (fun now d e => d.alive = true →
      (d.helloDue now = true → d.pairLink = true → e.pair = { d.pair with helloSent := some now } ∧
        e = { d with pair := e.pair, ksp := e.ksp, evh := e.evh }) ∧
      (d.helloDue now = false ∨ d.pairLink = false → e = d)) ∧
    Answers (.pairWaitExpiry el) s (fun now d e => d.alive = true → d.pair.st = .seek →
      let at_ := d.pair.since + ms (max 100 (d.rd PAIR.PAIR_WAIT))
      (at_ ≤ now → d.pairLink = false ∨ d.pair.hello = none → e.pair.st = .listen ∧ e.rd PAIR.PAIR_STATE = 2 ∧
        e.raised EVT.PAIR_STATE 0 = true) ∧
      (now < at_ ∨ (d.pairLink = true ∧ d.pair.hello ≠ none) → e = d)) ∧
    Answers (.beaconListenExpiry el) s (fun now d e => d.alive = true → d.pair.st = .listen →
      let t := ms (max 20 (d.rd PAIR.BEACON_LISTEN))
      (d.pair.since + t ≤ now → (∀ x, d.pair.lastBeacon = some x → x + t ≤ now) → e.pair.st = .alone ∧ e.rd PAIR.PAIR_STATE = 6 ∧
        e.raised EVT.PAIR_STATE 0 = true) ∧
      (now < d.pair.since + t → e = d) ∧ (∀ x, d.pair.lastBeacon = some x → now < x + t → e = d)) ∧
    (∀ (b : Fin 4) (u : Fin 2), Answers (.beaconRx el b u) s (fun now d e => d.vnpHears b.val = true →
      (d.pair.st = .listen → e = { d with pair := { d.pair with lastBeacon := some now } }) ∧
      (d.pair.st = .active ∨ d.pair.st = .alone →
        (u.val = d.pair.unit → e = d) ∧
        (u.val ≠ d.pair.unit → e.raised EVT.PAIR_DUAL b.val = true ∧ (d.pair.unit = 1 → e.pair.st = .seek) ∧
          (d.pair.unit ≠ 1 → e.pair = d.pair))))) ∧
    (∀ held : Nat, Answers (.heartbeatEdge el held) s (fun now d e => d.alive = true →
      (d.pair.en = false ∨ held < us 1 → e = d) ∧
      (d.pair.en = true → us 1 ≤ held → d.edgePassed now = false → e = { d with pair := { d.pair with hbPin := true, heard := true } }) ∧
      (d.pair.en = true → us 1 ≤ held → d.edgePassed now = true → e = { d with pair := { d.pair with hbPinNew := true, heard := true } }))) ∧
    (∀ byPartner : Bool, Answers (.roleSwap el byPartner) s (fun now d e => d.alive = true → byPartner = true ∨ d.hif.inService = true →
        (d.pair.st = .standby → e = { d with pair := { d.pair with swapReq := true } }) ∧
        (d.pair.st = .active → d.pair.handover = none → d.handoverOk = true →
          e = { d with pair := { d.pair with handover := some (d.tickCnt now + 8, true) } }) ∧
        (d.pair.st = .active → d.pair.handover ≠ none ∨ d.handoverOk = false → e = d)) ∧
      Answers (.returnHoldExpiry el byPartner) s (fun now d e => d.alive = true →
        (byPartner = true → d.pair.st = .active → d.pair.handover = none → d.handoverOk = true →
          e = { d with pair := { d.pair with handover := some (d.tickCnt now + 8, true) } }) ∧
        (byPartner = false → d.pair.st = .standby → d.pair.pref = true → d.on PAIR.RETURN_EN = true → ∀ t, d.pair.syncedFrom = some t →
          (t + sec (max 1 (d.rd PAIR.RETURN_HOLD)) ≤ now → e = { d with pair := { d.pair with swapReq := true } }) ∧
          (now < t + sec (max 1 (d.rd PAIR.RETURN_HOLD)) → e = d))))

/-- R445, R447 to R449: the echo of a TIMESYNC gives the offset of pair time; a MIRROR message counts toward SYNCED in a standby and
aligns the ticks of a joiner; a standby without one for MIRROR_STALE is no longer SYNCED; the partner's tile requests and puts
are answered.
It rests on the readings and choices of log entries 19, 103 and 105. -/
def Obligations.PairTimeMirrorAndTiles : Prop :=
  ∀ (s : State) (el : Nat),
    (∀ tx eTx eRx : BitVec 64, Answers (.timesyncRx el tx eTx eRx) s (fun now d e => d.alive = true → d.pairLink = true → d.pair.en = true →
      e.pair.tsRxTx = tx.toNat ∧ e.pair.tsRxAt = nsOf now ∧
      (d.pair.st = .active ∨ d.pair.st = .alone ∨ eTx.toNat = 0 ∨ eTx.toNat ≠ d.pair.tsTx →
        e = { d with pair := { d.pair with tsRxTx := tx.toNat, tsRxAt := nsOf now } }) ∧
      (d.pair.st = .seek ∨ d.pair.st = .listen ∨ d.pair.st = .joining ∨ d.pair.st = .standby → eTx.toNat ≠ 0 → eTx.toNat = d.pair.tsTx →
        let ofs : Int := (((eRx.toNat : Int) - eTx.toNat) - ((nsOf now : Int) - tx.toNat)) / 2
        e.pair.lastOfs = some (nsOf now, ofs) ∧
        (d.pair.lastOfs = none → e.rd PAIR.PT_RATE = 0 ∧ e.rd2 PAIR.PT_OFS_LO PAIR.PT_OFS_HI = ofS 64 ofs)))) ∧
    (∀ m : MirrorMsg, Answers (.mirrorRx el m) s (fun now d e => d.alive = true → d.pairLink = true → d.pair.en = true →
      (d.pair.st = .active ∨ d.pair.st = .alone ∨ d.pair.st = .seek ∨ d.pair.st = .listen ∨ d.pair.st = .off →
        e = { d with pair := e.pair } ∧ e.pair.heard = true ∧ e.pair.mirrorAt = now) ∧
      (d.pair.st = .standby → mirFull m = false →
        let run := if ∀ o, d.pair.mirror = some o → m.tick = (o.tick + 1) % 2 ^ 32 then d.pair.mirrorRun + 1 else 1
        e.pair.heard = true ∧ e.pair.mirrorAt = now ∧ e.pair.mirrorRun = run ∧ (100 ≤ run → e.on PAIR.SYNCED = true) ∧
        e.pair.handover = (if m.handover then some (m.hoTick, false) else none) ∧
        (m.sects = [] → OnlyRegs [PAIR.SYNCED] { d with pair := e.pair } e) ∧
        (∀ w u0 u1, m.sects = [(8, [w, u0, u1])] → bitsOf w 8 2 ≠ 0 →
          (e.node (w % 4) (bitsOf w 2 6)).st = bitsOf w 8 2 ∧ (e.node (w % 4) (bitsOf w 2 6)).uid = u0 + 2 ^ 32 * u1)) ∧
      (d.pair.st = .joining → d.pair.aligned = false → mirFull m = false → e.pair.aligned = true ∧ e.sys.tEpoch = d.dtOfPt m.edgePt ∧
        e.sys.gridOn = true ∧ e.sys.period = periodOf m.rate))) ∧
    Answers (.mirrorStale el) s (fun now d e => d.alive = true → d.pair.st = .standby →
      let at_ := d.pair.mirrorAt + ms (max 10 (d.rd PAIR.MIRROR_STALE))
      (at_ ≤ now → d.on PAIR.SYNCED = true → e.rd PAIR.SYNCED = 0 ∧ e.pair.mirrorRun = 0 ∧ e.pair.syncedFrom = none) ∧
      (now < at_ ∨ d.on PAIR.SYNCED = false → e = d)) ∧
    (∀ m : TileMsgIn,
      -- the answer with these fields is queued on VC1 of KSP1, and sent at once where the port is idle and has the credit
      let said := fun (d e : Dev) (type flags gen crc : Nat) (payload : List Nat) =>
        let bytes := tileMsgBytes type m.layer flags m.tx m.ty m.field gen m.tag crc payload
        let v : KspVc := tget (d.port 1).vcs 1
        (v.txq ≠ [] → d.evh.queue1 = [] → (∀ k ∈ vcOrder, (d.port 1).canSend k = false) →
          (tget (e.port 1).vcs 1).txq = v.txq ++ [bytes]) ∧
        ((∀ k, (tget (d.port 1).vcs k).txq = []) → d.evh.queue1 = [] → (d.port 1).replay = [] →
          creditUnits (min 1024 bytes.length) ≤ (v.credit + 65536 - v.sentUnits) % 65536 →
          ∃ p, (e.port 1).replay.head? = some p ∧ p.seq = (d.port 1).txSeq ∧ p.vc = 1 ∧ p.payload = bytes.take 1024)
      Answers (.tilePut el m) s (fun now d e => d.servesTiles = true →
        let bad := contentRuns m.layer (bitOf m.flags 0) m.payload = none ∨
          ∃ rs, contentRuns m.layer (bitOf m.flags 0) m.payload = some rs ∧ crc32 (runBytes m.layer rs) ≠ m.crc
        (bad → said d e 6 0 m.gen 0 [] ∧ e = { d with ksp := e.ksp, evh := e.evh }) ∧
        (∀ rs, contentRuns m.layer (bitOf m.flags 0) m.payload = some rs → crc32 (runBytes m.layer rs) = m.crc →
          (∀ x, d.tileHeld m = some x → said d e 5 0 m.gen 0 [] ∧ e = { d with tpl := e.tpl, ksp := e.ksp, evh := e.evh } ∧
            (genNewer m.gen x.2.gen = true →
              e.slot x.1 = { x.2.load rs with gen := m.gen, st := .dirty, painted := true, wbAt := now }) ∧
            (genNewer m.gen x.2.gen = false → e.tpl = d.tpl)) ∧
          (d.tileHeld m = none → m.field = d.rd COV.FIELD_ID_ACT →
            (∀ i, d.keepSlot m.layer = some i → (e.slot i).st = .dirty ∧ (e.slot i).gen = m.gen ∧ (e.slot i).layer = m.layer ∧
              (e.slot i).tx = m.tx ∧ (e.slot i).ty = m.ty) ∧
            (d.keepSlot m.layer = none → d.hasHome = false → said d e 6 0 m.gen 0 [] ∧ e.tpl = d.tpl)))) ∧
      Answers (.tileRequestRx el m) s (fun _ d e => d.servesTiles = true →
        (∀ x, d.tileHeld m = some x → e = { d with ksp := e.ksp, evh := e.evh } ∧
          (x.2.layer ≠ 0 → said d e 2 0 x.2.gen x.2.crc x.2.bytes) ∧
          (x.2.layer = 0 → (rleEncode x.2.runs).length < 32768 → said d e 2 1 x.2.gen x.2.crc (rleEncode x.2.runs)) ∧
          (x.2.layer = 0 → 32768 ≤ (rleEncode x.2.runs).length → said d e 2 0 x.2.gen x.2.crc x.2.bytes)) ∧
        (d.tileHeld m = none → d.mirrors = true → said d e 6 0 m.gen 0 [] ∧ e = { d with ksp := e.ksp, evh := e.evh }) ∧
        (d.tileHeld m = none → d.mirrors = false → d.hasHome = true → ∃ t, e.pair.fwd = d.pair.fwd ++ [(t, m.tag)] ∧ e.tpl.slots = d.tpl.slots) ∧
        (d.tileHeld m = none → d.mirrors = false → d.hasHome = false →
          said d e 3 0 0 (crc32 (runBytes m.layer [(0, tileCells)])) [] ∧ e = { d with ksp := e.ksp, evh := e.evh })))

/-! ### CRC: the check-value units -/

/-- R482 to R485: START loads INIT, DATA_IN feeds the bytes of its word, STATE takes the word written with the upper half held for
it; a running DMA ignores these and shows it; DMA_GO starts a feed from a readable source and refuses another; a DMA that ends
shows what it has fed and raises EVT_CRC_DONE.
It rests on the reading or choice of log entry 35. -/
def Obligations.CheckValueUnits : Prop :=
  ∀ (s : State) (el : Nat) (c : Fin 8),
    let n := c.val
    let step := fun (d : Dev) => crcFeed (d.crcWidth n) (d.rd2 (CRC.POLY_LO n) (CRC.POLY_HI n)) (d.on (CRC.REFIN n))
    let space := fun (d : Dev) (now k : Nat) => (List.range k).map (fun i => d.spaceByte now (d.rd (CRC.DMA_SRC n) + i))
    Answers (.start el c) s (fun _ d e => d.hif.inService = true →
      (d.crcBusy n = true → e.rd (CRC.FEED_IGN n) = 1 ∧ OnlyRegs [CRC.FEED_IGN n] d e) ∧
      (d.crcBusy n = false → d.pgEn (crcPage n) = true → OnlyRegs [CRC.STATE_LO n, CRC.STATE_HI n] d e ∧
        e.crcState n = d.rd2 (CRC.INIT_LO n) (CRC.INIT_HI n) % 2 ^ d.crcWidth n) ∧
      (d.crcBusy n = false → d.pgEn (crcPage n) = false → e = d)) ∧
    (∀ w : Word, Answers (.dataIn el c w) s (fun _ d e => d.hif.inService = true →
      (d.crcBusy n = true → e.rd (CRC.FEED_IGN n) = 1 ∧ OnlyRegs [CRC.FEED_IGN n] d e) ∧
      (d.crcBusy n = false → d.pgEn (crcPage n) = true → OnlyRegs [CRC.STATE_LO n, CRC.STATE_HI n] d e ∧
        e.crcState n = (bytesLE (2 ^ min 2 (d.rd (CRC.FEED_W n))) w.toNat).foldl (step d) (d.crcState n) % 2 ^ 64))) ∧
    (∀ lo : Word, Answers (.stateWrite el c lo) s (fun _ d e => d.hif.inService = true → d.crcBusy n = false →
      e.rd (CRC.STATE_LO n) = lo.toNat ∧
      (∀ hi, tget? d.hif.stateHi n = some hi → e.rd (CRC.STATE_HI n) = hi % 2 ^ 32) ∧
      (tget? d.hif.stateHi n = none → e.rd (CRC.STATE_HI n) = d.rd (CRC.STATE_HI n) % 2 ^ 32) ∧ tget? e.hif.stateHi n = none)) ∧
    Answers (.dmaGo el c) s (fun _ d e => d.hif.inService = true →
      (d.crcBusy n = true ∨ d.pgEn (crcPage n) = false → e = d) ∧
      (d.crcBusy n = false → d.pgEn (crcPage n) = true →
        (crcSourceOk (d.rd (CRC.DMA_SRC n)) (d.crcLen n) = true → e.rd (CRC.DMA_BUSY n) = 1 ∧ e.rd (CRC.DMA_DONE n) = 0 ∧
          OnlyRegs [CRC.DMA_BUSY n, CRC.DMA_DONE n] d e) ∧
        (crcSourceOk (d.rd (CRC.DMA_SRC n)) (d.crcLen n) = false → e.rd (CRC.DMA_ERR n) = 1 ∧ e.raised EVT.CRC_DONE n = true ∧
          e.rd (CRC.DMA_BUSY n) = d.rd (CRC.DMA_BUSY n)))) ∧
    Answers (.dmaAbort el c) s (fun _ d e => d.hif.inService = true →
      (d.crcBusy n = false → e = d) ∧
      (d.crcBusy n = true → e.crcBusy n = false ∧ e.rd (CRC.DMA_DONE n) ≤ d.crcLen n ∧ e.raised EVT.CRC_DONE n = true ∧
        e.freeCtr = d.freeCtr + 1)) ∧
    Answers (.dmaDone el c) s (fun now d e => d.alive = true →
      (d.crcBusy n = false → e = d) ∧
      (d.crcBusy n = true → e.crcBusy n = false ∧ e.rd (CRC.DMA_DONE n) = d.crcLen n ∧ e.raised EVT.CRC_DONE n = true ∧
        e.crcState n = (space d now (d.crcLen n)).foldl (step d) (d.crcState n) % 2 ^ 64))

/-! ### PWR: supplies, states, resets, EMBER, image and firmware -/

/-- R491 to R499: VBAT below VWARN for 50 µs begins an episode, and LIT becomes DIM; its release held for 10 ms ends it with one record,
DIM_CNT and DIM_LAST; DIM_MAX leads to SNUFFED; the lowest voltage is kept every 100 ms; a bank outside its limits for 20 µs is
suspended and returns once its release has held for 5 ms; overvoltage of VBAT is shown; SNS5V is switched off by an overload of 1 ms
and tried again.
It rests on the readings and choices of log entries 51 and 58. -/
def Obligations.SupplyEpisodesAndBanks : Prop :=
  ∀ (s : State) (el : Nat) (mv : BitVec 16) (held : Nat),
    Answers (.dimEntry el mv held) s (fun now d e =>
      (d.alive = false ∨ held < us 50 ∨ d.pwr.uv ≠ none ∨ d.vwarn ≤ mv.toNat ∨ (d.pwr.st ≠ .lit ∧ d.pwr.st ≠ .snuffed) → e = d) ∧
      (d.alive = true → us 50 ≤ held → d.pwr.st = .lit ∨ d.pwr.st = .snuffed → d.pwr.uv = none → mv.toNat < d.vwarn →
        e.pwr.uv = some { start := now - held, minMv := mv.toNat, lastUpd := now } ∧ e.mram = { d.mram with episode := e.pwr.uv } ∧
        e.rd PWR.VBAT_MV = mv.toNat ∧ e.rd PWR.VMIN_MV = mv.toNat ∧
        (d.pwr.st = .lit → e.pwr.st = .dim ∧ e.raised EVT.PWR_DIM 0 = true) ∧
        (d.pwr.st = .snuffed → e.pwr.st = .snuffed ∧ OnlyRegs [PWR.VBAT_MV, PWR.VMIN_MV] { d with pwr := e.pwr, mram := e.mram } e))) ∧
    (∀ low : BitVec 16, Answers (.dimEnd el mv low held) s (fun now d e =>
      (d.pwr.uv = none ∨ d.alive = false ∨ mv.toNat < d.vwarn + 300 ∨ held < ms 10 → e = d) ∧
      (∀ x, d.pwr.uv = some x → d.alive = true → d.vwarn + 300 ≤ mv.toNat → ms 10 ≤ held →
        e.pwr.uv = none ∧ e.mram.episode = none ∧ e.rd PWR.VBAT_MV = mv.toNat ∧ e.rd PWR.DIM_CNT = counted d PWR.DIM_CNT ∧
        e.rd PWR.DIM_LAST = min 0xFFFF ((now - x.start) / ms 1) ∧ e.rd PWR.VMIN_MV = min 0xFFFF (min x.minMv low.toNat) ∧
        (d.pwr.st = .dim → e.pwr.st = .lit ∧ e.pwr.dimMaxDue = false ∧ e.raised EVT.PWR_DIM_END 0 = true ∧
          (d.pwr.emberReq = true → d.pwr.mode ≠ .plain → d.pwr.emberWait = none → e.pwr.emberWait = some now) ∧
          (d.pwr.emberReq = false → e.pwr.emberWait = d.pwr.emberWait)) ∧
        (d.pwr.st = .snuffed → e.pwr.st = .snuffed ∧ bitOf (e.rd PWR.SNUFF_CAUSES) 2 = false)))) ∧
    Answers (.dimMax el) s (fun now d e =>
      (d.alive = false ∨ d.pwr.uv = none ∨ d.pwr.st ≠ .dim ∨ d.pwr.dimMaxDue = true → e = d) ∧
      (d.alive = true → ∀ x, d.pwr.uv = some x → d.pwr.st = .dim → d.pwr.dimMaxDue = false →
        let at_ := x.start + ms (d.rdH 100 60000 PWR.DIM_MAX)
        (now < at_ → e = d) ∧
        (at_ ≤ now → e.raised EVT.PWR_DIM_MAX 0 = true) ∧
        (at_ ≤ now → d.edgePassed now = true → e.pwr = { d.pwr with dimMaxDue := true }) ∧
        (at_ ≤ now → d.edgePassed now = false → e.pwr.st = .snuffed ∧ e.pwr.dimMaxDue = false ∧ e.rd PWR.SNUFF_CAUSE = 2 ∧
          bitOf (e.rd PWR.SNUFF_CAUSES) 2 = true ∧ e.rd WDG.SNUFF_ACT = 1 ∧ e.raised EVT.PWR_SNUFFED 0 = true))) ∧
    Answers (.episodeUpdate el mv) s (fun now d e =>
      (d.alive = false ∨ d.pwr.uv = none → e = d) ∧
      (d.alive = true → ∀ x, d.pwr.uv = some x →
        (now < x.lastUpd + ms 100 → e = d) ∧
        (x.lastUpd + ms 100 ≤ now → e.pwr = { d.pwr with uv := some { x with minMv := min x.minMv mv.toNat, lastUpd := now } } ∧
          e.mram = { d.mram with episode := e.pwr.uv } ∧
          e.rd PWR.VMIN_MV = min x.minMv mv.toNat % 2 ^ 16 ∧ OnlyRegs [PWR.VMIN_MV] { d with pwr := e.pwr, mram := e.mram } e))) ∧
    (∀ b : Fin 4, Answers (.bankSuspend el b mv held) s (fun now d e =>
        (d.diesOn = false ∨ held < us 20 ∨ bitOf (d.rd PWR.BANK_SUSP) b.val = true ∨ (d.vbankUv ≤ mv.toNat ∧ mv.toNat ≤ 40000) → e = d) ∧
        (d.diesOn = true → us 20 ≤ held → bitOf (d.rd PWR.BANK_SUSP) b.val = false → mv.toNat < d.vbankUv ∨ 40000 < mv.toNat →
          e.rd PWR.BANK_SUSP = setBitOf (d.rd PWR.BANK_SUSP) b.val true % 2 ^ 4 ∧ e.rd (vpwrField b.val) = mv.toNat ∧
          bitOf (e.rd PWR.BANK_OV) b.val = decide (40000 < mv.toNat) ∧ e.raised EVT.PWR_BANK_SUSP b.val = true ∧
          e.rd (IDG.BANK_SUSP (2 * b.val)) = 1 ∧ e.rd (IDG.BANK_SUSP (2 * b.val + 1)) = 1 ∧ e.rd (LSB.BANK_SUSP b.val) = 1 ∧
          (b.val, now, 0) ∈ e.cov.bankOff ∧ (∀ m ∈ bankSwitches b.val, (e.lswCh m).drv = false ∧ (e.lswCh m).waitFrom = none) ∧
          (∀ c, c / 8 = b.val → (d.startHeld c = true → (e.idcCh c).act = .idle) ∧
            (∀ p, (d.idcCh c).act = .on → (d.idcCh c).pulse = some p →
              (e.idcCh c).act = .idle ∧ (e.idcCh c).decay = true ∧ (e.idcCh c).decFast = false ∧ (e.idcCh c).lastEnd = some now ∧
              ∃ q, (e.idcCh c).done = some q ∧ bitOf q.flags 15 = true)) ∧
          (∀ c, c / 8 ≠ b.val → e.idcCh c = d.idcCh c))) ∧
      Answers (.bankResume el b mv held) s (fun now d e =>
        (d.diesOn = false ∨ held < ms 5 ∨ bitOf (d.rd PWR.BANK_SUSP) b.val = false ∨ d.bankReleased b.val mv.toNat = false → e = d) ∧
        (d.diesOn = true → ms 5 ≤ held → bitOf (d.rd PWR.BANK_SUSP) b.val = true → d.bankReleased b.val mv.toNat = true →
          e.rd PWR.BANK_SUSP = setBitOf (d.rd PWR.BANK_SUSP) b.val false % 2 ^ 4 ∧ e.rd (vpwrField b.val) = mv.toNat ∧
          bitOf (e.rd PWR.BANK_OV) b.val = false ∧ e.raised EVT.PWR_BANK_OK b.val = true ∧
          e.rd (IDG.BANK_SUSP (2 * b.val)) = 0 ∧ e.rd (IDG.BANK_SUSP (2 * b.val + 1)) = 0 ∧ e.rd (LSB.BANK_SUSP b.val) = 0 ∧
          (∀ x ∈ e.cov.bankOff, x.1 = b.val → x.2.2 = 0 → now = 0)))) ∧
    Answers (.vbatOvervoltage el mv held) s (fun _ d e => (d.pwr.st = .off → e = d) ∧
      (d.pwr.st ≠ .off → e.rd PWR.VBAT_MV = mv.toNat ∧
        (40000 < mv.toNat → us 20 ≤ held → e.rd PWR.VBAT_OV = 1) ∧ (mv.toNat < 37000 → ms 5 ≤ held → e.rd PWR.VBAT_OV = 0) ∧
        ((37000 ≤ mv.toNat ∨ held < ms 5) → (mv.toNat ≤ 40000 ∨ held < us 20) → e.rd PWR.VBAT_OV = d.rd PWR.VBAT_OV) ∧
        OnlyRegs [PWR.VBAT_MV, PWR.VBAT_OV] d e)) ∧
    (∀ ma : BitVec 10, Answers (.sns5vFault el ma held) s (fun now d e =>
        (d.alive = false ∨ held < ms 1 ∨ d.on PWR.SNS5V_EN = false ∨ d.pwr.sns5vOffAt ≠ none ∨ ma.toNat ≤ 450 → e = d) ∧
        (d.alive = true → ms 1 ≤ held → d.on PWR.SNS5V_EN = true → d.pwr.sns5vOffAt = none → 450 < ma.toNat →
          e.rd PWR.SNS5V_FLT = 1 ∧ e.rd PWR.SNS5V_MA = ma.toNat ∧ e.raised EVT.PWR_SNS5V 0 = true ∧
          e.pwr = { d.pwr with sns5vOffAt := some now } ∧ OnlyRegsAndEvents [PWR.SNS5V_FLT, PWR.SNS5V_MA] { d with pwr := e.pwr } e)) ∧
      Answers (.sns5vRetry el ma held) s (fun now d e => d.alive = true →
        (d.pwr.sns5vOffAt = none ∨ d.on PWR.SNS5V_EN = false → e = d) ∧
        (∀ t, d.pwr.sns5vOffAt = some t → d.on PWR.SNS5V_EN = true →
          (now < t + ms 100 + held → e = d) ∧
          (t + ms 100 + held ≤ now → 450 < ma.toNat → ms 1 ≤ held → e.pwr = { d.pwr with sns5vOffAt := some now } ∧
            e.rd PWR.SNS5V_MA = ma.toNat ∧ OnlyRegs [PWR.SNS5V_MA] { d with pwr := e.pwr } e) ∧
          (t + ms 100 + held ≤ now → ma.toNat ≤ 450 → ms 10 ≤ held → e.pwr = { d.pwr with sns5vOffAt := none } ∧
            e.rd PWR.SNS5V_FLT = 0 ∧ e.rd PWR.SNS5V_MA = ma.toNat) ∧
          (t + ms 100 + held ≤ now → (450 < ma.toNat ∧ held < ms 1) ∨ (ma.toNat ≤ 450 ∧ held < ms 10) → e = d))))

/-- R501, R502, R512, R514: a cause makes the block SNUFFED, every driven output takes its stored snuff state, and the cause stays
among SNUFF_CAUSES while it persists; SNUFF_CLR counts in HOST mode once none persists; a logic die at 150 °C is a cause, gone below
OT_WARN; MODE_REQ waits for its commit; without a host within HOST_WAIT the mode is AUTONOMOUS with a valid image and else PLAIN,
and the grid starts within one period.
It rests on the readings and choices of log entries 23 and 55. -/
def Obligations.SnuffedCausesAndModes : Prop :=
  let snuffs := fun (d e : Dev) (cause : Nat) => e.pwr.st = .snuffed ∧ e.pwr.snuffClr = false ∧ e.pwr.masterConfirm = false ∧
    e.rd PWR.SNUFF_CAUSE = cause ∧ e.raised EVT.PWR_SNUFFED 0 = true ∧
    (d.pwr.st ≠ .snuffed → e.rd WDG.SNUFF_ACT = 1) ∧
    (d.pwr.st ≠ .snuffed → d.on WDG.SNUFF_ACT = false → d.driving = true → e.pwm.snuff = true ∧
      (∀ c, c < 32 → (e.idcCh c).snuff = some (d.rd (WDG.SNUFF_STATE c))) ∧
      (∀ n, n < 16 → (e.lswCh n).snuff = some (d.rd (WDG.SNUFF_STATE (32 + n)))))
  ∀ (s : State) (el : Nat),
    Answers (.snuffReq el) s (fun now d e => d.pwrWrites now = true →
      (d.ticking = false → e = d) ∧ (d.ticking = true → snuffs d e 3)) ∧
    Answers (.snuffClr el) s (fun now d e => d.pwrWrites now = true →
      (d.pwr.st ≠ .snuffed ∨ d.pwr.mode ≠ .host → e = d) ∧
      (d.pwr.st = .snuffed → d.pwr.mode = .host →
        e.pwr = { d.pwr with snuffClr := e.rd PWR.SNUFF_CAUSES == 0, clrAt := now, clrUnder := d.holdOn pwrPage } ∧
        (∀ c, c < 6 → bitOf (e.rd PWR.SNUFF_CAUSES) c = (bitOf (d.rd PWR.SNUFF_CAUSES) c && !d.causeGone c)) ∧
        OnlyRegs [PWR.SNUFF_CAUSES] { d with pwr := e.pwr } e)) ∧
    (∀ t : BitVec 10,
      let temp := fun (_ : Nat) (d e : Dev) =>
        (d.pwr.st = .off → e = d) ∧
        (d.pwr.st ≠ .off → e.rdS PWR.LOGIC_TEMP = t.toInt) ∧
        (d.pwr.st ≠ .off → d.alive = false ∨ d.pwr.st = .ember → OnlyRegs [PWR.LOGIC_TEMP] d e) ∧
        (d.alive = true → d.pwr.st ≠ .ember →
          (t.toInt < 150 → e.pwr = d.pwr) ∧
          (d.rdS PWR.LOGIC_TEMP < d.otWarn → d.otWarn ≤ t.toInt → e.raised EVT.PWR_OVERTEMP 0 = true) ∧
          (d.pwr.st = .snuffed → t.toInt < d.otWarn → bitOf (e.rd PWR.SNUFF_CAUSES) 4 = false) ∧
          (d.pwr.st ≠ .snuffed → t.toInt < d.otWarn → OnlyRegs [PWR.LOGIC_TEMP] d e) ∧
          (150 ≤ t.toInt → d.ticking = true → d.rdS PWR.LOGIC_TEMP < 150 ∨ d.pwr.st ≠ .snuffed →
            snuffs d e 4 ∧ bitOf (e.rd PWR.SNUFF_CAUSES) 4 = true))
      Answers (.otWarn el t) s temp ∧ Answers (.overtemp el t) s temp ∧ Answers (.logicDieBelowOtWarn el t) s temp) ∧
    (∀ m : BitVec 2, Answers (.modeReq el m) s (fun now d e => d.pwrWrites now = true →
      e = { d with pwr := { d.pwr with modeReq := m.toNat, modeAt := now, modeUnder := d.holdOn pwrPage } })) ∧
    Answers (.hostWaitExpiry el) s (fun now d e =>
      (d.pwr.hostWaitTill = none → e = d) ∧
      (∀ t, d.pwr.hostWaitTill = some t → (now < t → e = d) ∧
        (t ≤ now → e.pwr.mode = (if d.on PWR.CFG_VALID then .autonomous else .plain) ∧ e.pwr.hostWaitTill = none ∧ e.pwr.modeSel = true ∧
          e.raised EVT.PWR_MODE 0 = true ∧ e.rd WDG.WDG_ARMED = 0 ∧
          (d.on PWR.CFG_VALID = true → d.rd COV.FIELD_STATE = 0 → e.cov.cmd = 1) ∧
          e.sys.gridOn = true ∧ now < e.sys.tEpoch ∧ e.sys.tEpoch ≤ now + periodOf (d.rd SYS.TICK_RATE) ∧
          e.sys.period = periodOf (d.rd SYS.TICK_RATE) ∧
          e.rd SYS.TICK_RATE_ACT = d.rd SYS.TICK_RATE % 2 ^ SYS.TICK_RATE_ACT.width)))

/-- R518 to R521: EMBER is asked for by the host or by the ignition input, waits in DIM for LIT, and begins with the field
closing; the field is abandoned at EMBER_FLUSH_MAX; EMBER is entered from LIT or SNUFFED with everything off and COV CLOSED,
and left by a wake into KINDLE.
It rests on the readings and choices of log entries 56 and 135. -/
def Obligations.EmberEntryAndWake : Prop :=
  let asked := fun (now : Nat) (d e : Dev) =>
    (d.pwr.mode = .plain ∨ d.pwr.emberWait ≠ none → e = d) ∧
    (d.pwr.mode ≠ .plain → d.pwr.emberWait = none →
      (d.pwr.st = .lit ∨ d.pwr.st = .snuffed → e.pwr = { d.pwr with emberReq := false, emberWait := some now } ∧
        (d.rd COV.FIELD_STATE = 1 → e.cov = { d.cov with cmd := 2, cmdUnder := false }) ∧
        (d.rd COV.FIELD_STATE ≠ 1 → e.cov = d.cov) ∧ e = { d with pwr := e.pwr, cov := e.cov }) ∧
      (d.pwr.st = .dim → e = { d with pwr := { d.pwr with emberReq := true } }) ∧
      (d.pwr.st ≠ .lit → d.pwr.st ≠ .snuffed → d.pwr.st ≠ .dim → e = d))
  ∀ (s : State) (el : Nat),
    Answers (.emberReq el) s (fun now d e => d.pwrWrites now = true → asked now d e) ∧
    Answers (.ignitionOff el) s (fun now d e =>
      let since := (tget? d.pwr.ginAt (min 23 (d.rd PWR.IGN_GIN))).getD 0
      (d.alive = false ∨ d.on PWR.IGN_EN = false ∨ d.keyOn = true ∨ now < since + sec (d.rd PWR.EMBER_DELAY) → e = d) ∧
      (d.alive = true → d.on PWR.IGN_EN = true → d.keyOn = false → since + sec (d.rd PWR.EMBER_DELAY) ≤ now → asked now d e)) ∧
    Answers (.emberFlushMaxExpiry el) s (fun now d e =>
      (d.pwr.emberWait = none ∨ d.rd COV.FIELD_STATE = 0 → e = d) ∧
      (∀ t, d.pwr.emberWait = some t → d.rd COV.FIELD_STATE ≠ 0 →
        let at_ := t + sec (max 1 (d.rd PWR.EMBER_FLUSH_MAX))
        (now < at_ → e = d) ∧ (at_ ≤ now → e.rd COV.FIELD_STATE = 0 ∧ e.tpl.slots = [] ∧ e.pwr = d.pwr))) ∧
    Answers (.emberEntry el) s (fun now d e =>
      (d.alive = false ∨ d.pwr.emberWait = none ∨ d.pwr.outOff = false ∨ d.rd COV.FIELD_STATE ≠ 0 ∨ (d.pwr.st ≠ .lit ∧ d.pwr.st ≠ .snuffed) →
        e = d) ∧
      (d.alive = true → d.pwr.emberWait ≠ none → d.pwr.outOff = true → d.rd COV.FIELD_STATE = 0 → d.pwr.st = .lit ∨ d.pwr.st = .snuffed →
        e.pwr.st = .ember ∧ e.pwr.emberAt = now ∧ e.pwr.emberWait = none ∧ e.pwr.modeSel = false ∧ e.pwr.uv = none ∧
        e.hif.inService = false ∧ e.sys.gridOn = false ∧
        (∀ c, c < 32 → (e.idcCh c).cmds = [] ∧ (e.idcCh c).comOn = false ∧ (e.idcCh c).grid = none) ∧
        (∀ n, n < 16 → (e.lswCh n).cmds = [] ∧ (e.lswCh n).drv = false))) ∧
    (∀ src : Fin 4, Answers (.emberWake el src) s (fun now d e =>
      (d.pwr.st ≠ .ember ∨ d.wakes now src.val = false → e = d) ∧
      (d.pwr.st = .ember → d.wakes now src.val = true → e.pwr.st = .kindle ∧ e.pwr.stage = .kindle ∧ e.pwr.wake = true ∧
        e.pwr.paused = false ∧ e.pwr.opSince = now ∧ e.rd PWR.SNUFF_CAUSE = 0 ∧ e.rd PWR.SNUFF_CAUSES = 0 ∧
        OnlyRegs [PWR.SNUFF_CAUSE, PWR.SNUFF_CAUSES] { d with pwr := e.pwr, gnss := e.gnss } e)))

/-- R500, R503 to R511, R515 to R517: VBAT at VSTART begins KINDLE, VBAT below VRST is a power-on reset; KINDLE brings the register
space into service, once VBAT is high; RESET_N and RST_CMD cause their resets, RST_CMD not while a point is committed on; a logic-die
cause leads to Relight, soon after a Relight to an escalated system reset; a Relight that passes its checks counts and raises
EVT_PWR_RELIGHT, another fails into a system reset.
It rests on the reading or choice of log entry 52. -/
def Obligations.ResetsKindleAndRelight : Prop :=
  -- a system reset: every output takes its stored snuff state at once, and KINDLE follows
  let sysRst := fun (code : Nat) (storm : Bool) (d e : Dev) =>
    e.pwr.st = .kindle ∧ e.pwr.stage = .kindle ∧ e.pwr.outHold = .snuff ∧ e.pwr.stormEnd = storm ∧ e.pwr.relightEnd = none ∧
    e.rd PWR.LAST_RESET = code ∧ e.rd PWR.SNUFF_CAUSE = 0 ∧ e.rd PWR.SNUFF_CAUSES = 0 ∧
    e.hif.inService = false ∧ e.hif.unlocked = [] ∧ e.sys.gridOn = false ∧ e.pwm.snuff = true ∧
    (∀ c, c < 32 → (e.idcCh c).snuff = some (d.rd (WDG.SNUFF_STATE c))) ∧
    (∀ n, n < 16 → (e.lswCh n).snuff = some (d.rd (WDG.SNUFF_STATE (32 + n))))
  -- a cause of a logic-die reset
  let cause := fun (now code : Nat) (d e : Dev) =>
    (d.pwr.st = .kindle ∨ d.pwr.st = .ember → sysRst code false d e) ∧
    (d.pwr.st ≠ .kindle → d.pwr.st ≠ .ember →
      (d.pwr.stage = .relight → sysRst 3 false d e ∧ e.rd PWR.RELIGHT_FAIL = counted d PWR.RELIGHT_FAIL) ∧
      (d.pwr.stage ≠ .relight → ∀ t, d.pwr.relightEnd = some t → now < t + sec 10 → sysRst 3 true d e) ∧
      (d.pwr.stage ≠ .relight → (∀ t, d.pwr.relightEnd = some t → t + sec 10 ≤ now) →
        e.pwr.stage = .relight ∧ e.pwr.st = d.pwr.st ∧ e.pwr.resetAt = now ∧ e.pwr.relightFrom = now ∧ e.rd PWR.LAST_RESET = code ∧
        e.hif.inService = false ∧ e.hif.unlocked = [] ∧ e.pwm.snuff = true ∧
        (∀ c, c < 32 → (e.idcCh c).holdEnd = some (now + ms (min 100 (d.rd (IDC.HOLD_WINDOW c))))) ∧
        (∀ n, n < 16 → (e.lswCh n).holdEnd = some (now + ms (min 100 (d.rd (LSW.HOLD_WINDOW n)))))))
  let serves := fun (e : Dev) => e.hif.inService = true ∧ e.pwr.stage = .none
  ∀ (s : State) (el : Nat),
    (∀ (mv : BitVec 16) (held : Nat),
      Answers (.vbatStart el mv held) s (fun now d e =>
        (d.pwr.st ≠ .off ∨ mv.toNat < 6000 ∨ held < ms 1 → e = d) ∧
        (d.pwr.st = .off → 6000 ≤ mv.toNat → ms 1 ≤ held → e.rd PWR.VBAT_MV = mv.toNat ∧
          e.pwr = { d.pwr with st := .kindle, stage := .kindle, outHold := .off, opSince := now } ∧
          OnlyRegs [PWR.VBAT_MV] { d with pwr := e.pwr } e)) ∧
      (mv.toNat < 4200 → us 20 ≤ held →
        ∃ t, exec (.powerOnReset el mv held) s = .next t ∧ t.dt = 0 ∧ t.dev.pwr.st = .off ∧ t.dev.regs = [] ∧ t.dev.hif.inService = false ∧
          (∀ a, a < 0x600000 → memGet t.dev.mem a = 0) ∧ (∀ a, 0x600000 ≤ a → memGet t.dev.mem a = memGet s.dev.mem a)) ∧
      (4200 ≤ mv.toNat ∨ held < us 20 → Answers (.powerOnReset el mv held) s (fun _ d e => e = d))) ∧
    (∀ vbat va vb vc vd : BitVec 16, Answers (.kindle el vbat va vb vc vd) s (fun now d e =>
      (d.pwr.st ≠ .kindle ∨ d.pwr.stage ≠ .kindle ∨ d.pwr.resetLow ≠ none → e = d) ∧
      (d.pwr.st = .kindle → d.pwr.stage = .kindle → d.pwr.resetLow = none →
        (d.pwr.wake = true →
          (vbat.toNat < 7000 → e.pwr = { d.pwr with paused := true } ∧ e.hif = d.hif) ∧
          (20300 ≤ vbat.toNat → serves e ∧ e.pwr.hostWaitTill = some (now + d.hostWait) ∧ e.rd PWR.VBAT_MV = vbat.toNat ∧
            (d.rd PWR.NOM_SYS = 1 → e.rd PWR.NOM_ACT = 1) ∧ (d.rd PWR.NOM_SYS = 2 → e.rd PWR.NOM_ACT = 2))) ∧
        (d.pwr.wake = false → d.pwr.outHold = .off ∨ d.cntAct = none →
          (d.fwChoose.2.2 = false → serves e ∧ e.rd PWR.BOOT_REC = 1 ∧ e.pwr.outHold = .off) ∧
          (d.fwChoose.2.2 = true → vbat.toNat < 7000 → e.pwr = { d.pwr with paused := true }) ∧
          (d.fwChoose.2.2 = true → 20300 ≤ vbat.toNat → serves e ∧ e.pwr.hostWaitTill ≠ none ∧ e.rd PWR.VBAT_MV = vbat.toNat))))) ∧
    (∀ held : Nat, Answers (.resetNFall el held) s (fun now d e =>
      (d.pwr.st = .off ∨ d.pwr.resetLow ≠ none ∨ held < us 1 → e = d) ∧
      (d.pwr.st ≠ .off → d.pwr.resetLow = none → us 1 ≤ held →
        cause now 6 d e ∧ e.pwr.resetLow = some (now - held) ∧ e.pwr.stageMaySys = true))) ∧
    Answers (.resetNLong el) s (fun now d e =>
      (d.pwr.resetLow = none ∨ d.pwr.stageMaySys = false → e = d) ∧
      (∀ t, d.pwr.resetLow = some t → d.pwr.stageMaySys = true → (now < t + ms 10 → e = d) ∧
        (t + ms 10 ≤ now → d.pwr.st ≠ .off → sysRst 1 false d e ∧ e.pwr.stageMaySys = false ∧ e.pwr.resetLow = some t))) ∧
    Answers (.resetNRise el) s (fun now d e =>
      e = { d with pwr := { d.pwr with resetLow := none, stageMaySys := false, relightFrom := now } }) ∧
    Answers (.systemReset el) s (fun now d e => d.pwrWrites now = true →
      (d.validPts.any (fun n => (d.decOf n).s) = true → e.rd PWR.RST_REFUSED = 1 ∧ OnlyRegs [PWR.RST_REFUSED] d e) ∧
      (d.validPts.any (fun n => (d.decOf n).s) = false → d.pwr.st ≠ .off → sysRst 2 false d e ∧ e.rd PWR.RST_REFUSED = 0)) ∧
    Answers (.logicDieReset el) s (fun now d e => d.pwrWrites now = true →
      (d.validPts.any (fun n => (d.decOf n).s) = true → e.rd PWR.RST_REFUSED = 1 ∧ OnlyRegs [PWR.RST_REFUSED] d e) ∧
      (d.validPts.any (fun n => (d.decOf n).s) = false → d.pwr.st ≠ .off → cause now 7 d e ∧ e.rd PWR.RST_REFUSED = 0)) ∧
    (∀ checks readback : Bool, Answers (.relight el checks readback) s (fun now d e =>
      (d.pwr.stage ≠ .relight ∨ d.pwr.resetLow ≠ none → e = d) ∧
      (d.pwr.stage = .relight → d.pwr.resetLow = none →
        (checks = false ∨ readback = false ∨ d.pwr.relightFrom + ms 50 < now → d.pwr.st ≠ .off →
          sysRst 3 false d e ∧ e.rd PWR.RELIGHT_FAIL = counted d PWR.RELIGHT_FAIL) ∧
        (checks = true → readback = true → now ≤ d.pwr.relightFrom + ms 50 → e.raised EVT.PWR_RELIGHT 0 = true ∧
          e.rd PWR.RELIGHT_CNT = counted d PWR.RELIGHT_CNT ∧ serves e ∧ e.pwr.relightEnd = some now ∧ e.pwr.st = d.pwr.st))))

/-- R522 to R525: CFG_STORE writes the image and CFG_ERASE erases it unless CFG_LOCK is set; a push puts the FW_STAGE window into the
bank that does not run; a verified bank is pending, a bad or too old one gives FW_ERR; a trial is confirmed by the host within
FW_TRIAL, or fails there in HOST mode.
It rests on the readings and choices of log entries 11, 22, 49 and 50. -/
def Obligations.ImageAndFirmware : Prop :=
  ∀ (s : State) (el : Nat),
    Answers (.cfgStore el) s (fun now d e => d.pwrWrites now = true →
      (d.cntVal 8 ≠ 0 → e = d) ∧
      (d.cntVal 8 = 0 → e.rd PWR.CFG_VALID = 1 ∧ OnlyRegs [PWR.CFG_VALID] { d with mram := e.mram } e ∧
        ∃ img, e.mram = { d.mram with image := some img } ∧ img.fields = d.regs.filter (fun x => imageKey x.1) ∧ img.lists = d.rec_.lists ∧
          img.almanac = d.gnss.almanac ∧ img.layout = 1 ∧ img.crcOk = true ∧ img.crc = img.sealed.crc)) ∧
    Answers (.cfgErase el) s (fun now d e => d.pwrWrites now = true →
      (d.cntVal 8 ≠ 0 → e = d) ∧
      (d.cntVal 8 = 0 → e.rd PWR.CFG_VALID = 0 ∧ e.mram = { d.mram with image := none } ∧ OnlyRegs [PWR.CFG_VALID] { d with mram := e.mram } e)) ∧
    Answers (.fwPush el) s (fun now d e => d.hif.inService = true →
      (d.mram.fwTrial = true ∨ d.pwr.fwPush ≠ none → e.rd PWR.FW_ERR = 4 ∧ OnlyRegs [PWR.FW_ERR] d e) ∧
      (d.mram.fwTrial = false → d.pwr.fwPush = none → e = { d with pwr := { d.pwr with fwPush := some (d.rd PWR.FW_OFS, now) } })) ∧
    Answers (.fwPushDone el) s (fun _ d e => d.alive = true →
      (d.pwr.fwPush = none → e = d) ∧
      (∀ x, d.pwr.fwPush = some x → d.mram.fwRun < 2 → e.pwr.fwPush = none ∧ e.mram.fwRun = d.mram.fwRun ∧
        memGetBytes (e.fwBank (1 - d.mram.fwRun)).bytes (1024 * x.1) 1024 = memGetBytes d.mem 0x001400 1024 ∧
        e.fwBank d.mram.fwRun = d.fwBank d.mram.fwRun ∧
        (∀ a, a < 1024 * x.1 ∨ 1024 * x.1 + 1024 ≤ a →
          memGet (e.fwBank (1 - d.mram.fwRun)).bytes a = memGet (d.fwBank (1 - d.mram.fwRun)).bytes a))) ∧
    Answers (.fwActivate el) s (fun now d e => d.pwrWrites now = true →
      e = { d with pwr := { d.pwr with fwVerify := some (d.pwr.fwVerify.getD now) } }) ∧
    Answers (.fwVerifyDone el) s (fun _ d e => d.alive = true →
      let v := d.fwVerifyBank (1 - d.mram.fwRun)
      (d.pwr.fwVerify = none → e = d) ∧
      (d.pwr.fwVerify ≠ none → e.pwr = { d.pwr with fwVerify := none } ∧
        (v.1 = 3 → e.rd PWR.FW_ERR = 3 ∧ e.mram = d.mram) ∧ (v.1 ≠ 0 → v.1 ≠ 3 → e.rd PWR.FW_ERR = 1 ∧ e.mram = d.mram) ∧
        (v.1 = 0 → v.2 < d.cntVal 5 → e.rd PWR.FW_ERR = 2 ∧ e.mram = d.mram) ∧
        (v.1 = 0 → d.cntVal 5 ≤ v.2 → e.rd PWR.FW_ERR = 0 ∧ e.mram.fwPending = true))) ∧
    Answers (.fwConfirm el) s (fun now d e => d.pwrWrites now = true →
      (d.mram.fwTrial = true → d.mram.fwFailed = false → d.pwr.mode = .host → ∀ t, d.trialEnd = some t →
        (now ≤ t → e = { d with mram := { d.mram with fwTrial := false } }) ∧ (t < now → e = d)) ∧
      (d.mram.fwTrial = false ∨ d.mram.fwFailed = true ∨ d.pwr.mode ≠ .host ∨ d.trialEnd = none → e = d)) ∧
    Answers (.fwTrialExpiry el) s (fun now d e => d.alive = true → d.mram.fwTrial = true → d.mram.fwFailed = false → ∀ t, d.trialEnd = some t →
      (now < t → e = d) ∧
      (t ≤ now → d.pwr.mode = .host → e = { d with mram := { d.mram with fwFailed := true } }) ∧
      (t ≤ now → d.pwr.mode ≠ .host → e = { d with mram := { d.mram with fwTrial := false } }))

/-! ### REC, CNT, TST and the tile code -/

/-- R528 to R535: a trigger set changed counts in TS_GEN; what is staged has reached the log in T6 before it is read; RD_OFS shows the
record that begins there; a stream runs to WR_PTR and ends once; a refused LOG_CLR is reported and an accepted one empties the log under
a new generation; REC_TRIG stages a record where there is a token and room, and with REC_EN clear is counted lost; a bucket refills.
It rests on the readings and choices of log entries 45, 46 and 143. -/
def Obligations.LogReadingAndClearing : Prop :=
  (∀ (d : Dev) (now : Nat),
    (d.inT6 now = false ∨ d.rec_.staging = [] → d.recFlush now = d) ∧
    (d.inT6 now = true → d.on REC.REC_FULL = false → d.wrPtr + (d.rec_.staging.map (fun r => 4 * r.length)).sum + 512 ≤ 1572864 →
      d.recFlush now =
        { d with mram := { d.mram with log := d.mram.log ++ d.rec_.staging }, rec_ := { d.rec_ with staging := [] } })) ∧
  ∀ (s : State) (el : Nat),
    (∀ (set : Fin 32) (v : BitVec 24),
      (∀ i : Fin 64, Answers (.triggerSetChange el set (some i) v) s (fun _ d e => d.hif.inService = true →
        let old := (tget? d.rec_.lists (64 * set.val + i.val)).getD 0
        (tget? e.rec_.lists (64 * set.val + i.val)).getD 0 = v.toNat ∧ e.rd REC.SL_SET = set.val ∧ e.rd REC.SL_IDX = i.val ∧
        e.rd REC.SL_ADDR = v.toNat ∧
        (old = v.toNat → e.rec_ = d.rec_ ∧ e.rd (REC.TS_GEN set.val) = d.rd (REC.TS_GEN set.val)) ∧
        (old ≠ v.toNat → e.rd (REC.TS_GEN set.val) = (d.rd (REC.TS_GEN set.val) + 1) % 2 ^ 8 ∧ set.val ∈ e.rec_.defDue))) ∧
      Answers (.triggerSetChange el set none v) s (fun _ d e => d.hif.inService = true →
        (d.rd (REC.SNAP_N set.val) = v.toNat % 128 → e = d) ∧
        (d.rd (REC.SNAP_N set.val) ≠ v.toNat % 128 → e.rd (REC.SNAP_N set.val) = v.toNat % 128 ∧
          e.rd (REC.TS_GEN set.val) = (d.rd (REC.TS_GEN set.val) + 1) % 2 ^ 8 ∧ set.val ∈ e.rec_.defDue))) ∧
    (∀ o : BitVec 21, Answers (.rdOfs el o) s (fun now d e => d.hif.inService = true → e.rd REC.RD_OFS = o.toNat ∧
      let f := d.recFlush now
      (∀ x, f.logRecords.find? (fun y => y.1 == o.toNat) = some x → e.rd REC.RD_VALID = 1 ∧ e.rec_ = { f.rec_ with window := x.2 } ∧
        e.rd REC.RD_NEXT = (o.toNat + 4 * x.2.length) % 2 ^ 21) ∧
      (f.logRecords.find? (fun y => y.1 == o.toNat) = none → e.rd REC.RD_VALID = 0 ∧ e.rec_ = f.rec_))) ∧
    Answers (.rdStream el) s (fun now d e => d.hif.inService = true →
      let f := d.recFlush now
      (f.rec_.stream ≠ none → e = f) ∧
      (f.rec_.stream = none → e.rec_ = { f.rec_ with stream := some f.wrPtr } ∧ e = { f with rec_ := e.rec_, ksp := e.ksp, evh := e.evh })) ∧
    Answers (.streamEnd el) s (fun now d e => d.alive = true →
      let f := d.recFlush now
      (f.rec_.stream = none → e = f) ∧
      (f.rec_.stream ≠ none → e.rec_ = { f.rec_ with stream := none } ∧ e = { f with rec_ := e.rec_, ksp := e.ksp, evh := e.evh })) ∧
    (∀ path : Fin 3, Answers (.logClr el path) s (fun now d e => d.hif.inService = true →
      let code := d.cntRefusal now path.val 12 1
      (code ≠ 0 → e.rd CNT.LAST_ERR = code ∧ e.rd CNT.LAST_ERR_IDX = 12 ∧ e.rd CNT.REFUSED_CNT = counted d CNT.REFUSED_CNT ∧
        e.mram.log = d.mram.log ∧ e.cntAct = d.cntAct) ∧
      (code = 0 → e.mram.log = [] ∧ e.mram.logGen = (d.mram.logGen + 1) % 256 ∧
        e.cntAct = some { idx := 12, old := d.cntVal 12, new := 1, path := path.val, start := now }))) ∧
    Answers (.recTrig el) s (fun now d e => d.hif.inService = true →
      (d.on REC.REC_EN = false → e.rd REC.LOST_CNT = counted d REC.LOST_CNT ∧ OnlyRegs [REC.LOST_CNT] d e) ∧
      (d.on REC.REC_EN = true → OnlyRegsAndEvents [] d e ∧
        (d.on REC.REC_FULL = false → (d.bucketNow now 513).used < max 1 (d.rd REC.TB_BURST) → d.stageBytes ≤ 64000 →
          d.rec_.staging.length < e.rec_.staging.length ∧ (tget e.rec_.buckets 513).used = (d.bucketNow now 513).used + 1))) ∧
    (∀ k : Fin 514, Answers (.tokenRefill el k) s (fun now d e => d.alive = true →
      (tget? d.rec_.buckets k.val = none → e = d) ∧
      (tget? d.rec_.buckets k.val ≠ none → e = { d with rec_ := e.rec_ } ∧
        let per := ms (max 1 (d.rd REC.TB_PERIOD))
        (tget e.rec_.buckets k.val).used = (tget d.rec_.buckets k.val).used - (now - (tget d.rec_.buckets k.val).last) / per)))

/-- R537 to R539, R546: a write of a counted setting that changes nothing has no effect; another is refused by the first condition of
Table 16.4 that it fails, reported and counted, or starts the counted act; the act's completion stores the value with its count
and history entry and raises EVT_CNT_CHANGE, and EVT_CNT_FROZEN when the budget is spent; HIST_N shows the entry of a change.
It rests on the reading or choice of log entry 46. -/
def Obligations.CountedSettings : Prop :=
  ∀ (s : State) (el : Nat),
    (∀ (path : Fin 3) (i : Fin 12) (v : Word), Answers (.countedWrite el path i v) s (fun now d e => d.hif.inService = true →
      let n := cntNarrow i.val v.toNat
      let code := d.cntRefusal now path.val i.val n
      (n = d.cntVal i.val → e = d) ∧
      (n ≠ d.cntVal i.val → code ≠ 0 → e.rd CNT.LAST_ERR = code ∧ e.rd CNT.LAST_ERR_IDX = i.val ∧
        e.rd CNT.REFUSED_CNT = counted d CNT.REFUSED_CNT ∧ e.mram = d.mram ∧ e.cntAct = d.cntAct) ∧
      (n ≠ d.cntVal i.val → code = 0 →
        e = { d with cntAct := some { idx := i.val, old := d.cntVal i.val, new := n, path := path.val, start := now } }))) ∧
    (∀ (d : Dev) (now path i v : Nat),
      (d.unlocked now (cntPage i) = false → d.cntRefusal now path i v = 1) ∧
      (d.unlocked now (cntPage i) = true → d.cntAct ≠ none → d.cntRefusal now path i v = 2) ∧
      (d.unlocked now (cntPage i) = true → d.cntAct = none → i ≠ 4 → cntBudget i ≤ d.cntUsed i → d.cntRefusal now path i v = 4) ∧
      (d.unlocked now (cntPage i) = true → d.cntAct = none → i ≠ 4 → i ≠ 5 → d.cntUsed i < cntBudget i →
        d.cntRefusal now path i v = if d.cntVal 4 = 2 ∧ path ≠ 0 then 6 else 0)) ∧
    Answers (.countedChangeDone el) s (fun _ d e => d.alive = true →
      (d.cntAct = none → e = d) ∧
      (∀ a, d.cntAct = some a → e.cntAct = none ∧ e.raised EVT.CNT_CHANGE 0 = true ∧
        (a.idx < 12 → d.cntUsed a.idx + 1 = cntBudget a.idx → e.raised EVT.CNT_FROZEN 0 = true) ∧
        (a.idx < 12 → e.cntVal a.idx = a.new ∧ e.cntUsed a.idx = d.cntUsed a.idx + 1 ∧
          (tget e.mram.cnt a.idx).hist.length = (tget d.mram.cnt a.idx).hist.length + 1 ∧
          (∀ j, j ≠ a.idx → tget e.mram.cnt j = tget d.mram.cnt j)))) ∧
    (∀ n : BitVec 8, Answers (.histN el n) s (fun _ d e => d.hif.inService = true → e.rd CNT.HIST_N = n.toNat ∧
      e = { d with regs := e.regs } ∧
      (∀ x, (tget d.mram.cnt (d.rd CNT.HIST_SET)).hist.find? (fun y => y.getD 0 0 / 2 ^ 8 == n.toNat) = some x →
        ∀ k, k < 8 → e.rd (CNT.HIST_ENTRY k) = x.getD k 0 % 2 ^ 32)))

/-- R541 to R544: a test that is cut waits again; T_GO takes a free slot or sets Q_FULL, refuses what Table 16.7 does not have, and
starts a non-intrusive test at once; a channel test starts at the opening of a window that leaves its target idle and is given up at
TEST_WAIT_MAX; a system test runs in HOST mode, LIT, at standstill, without the master input, and else is refused; tests of one class
run in slot order; a test that is done sets its result and its FINISHED bit; the tests of AUTO_MASK run every AUTO_PER.
It rests on the readings and choices of log entry 21. -/
def Obligations.SelfTests : Prop :=
  let refused := fun (e : Dev) (q result : Nat) => e.rd (TST.STATUS q) = 5 ∧ e.rd (TST.RESULT q) = result ∧
    bitOf (e.rd TST.FINISHED) q = true ∧ e.raised EVT.TST_REFUSED q = true
  -- a system test whose turn it is, in a block whose cut tests wait again (`t`)
  let sys := fun (now : Nat) (t e : Dev) (q : Nat) =>
    let n := max 1 (min 64 (e.tslot q).param)
    let c := e.rd (TST.S_TARGET q)
    (t.pwr.mode ≠ .host ∨ t.pwr.st ≠ .lit → refused e q 4) ∧
    (t.pwr.mode = .host → t.pwr.st = .lit → t.on DEC.MASTER_ACT = true ∨ t.standstill = false → refused e q 2) ∧
    (t.pwr.mode = .host → t.pwr.st = .lit → t.on DEC.MASTER_ACT = false → t.standstill = true → t.intrusiveRuns = false →
      (∀ p, p < q → t.rd (TST.STATUS p) = 1 → t.slotClass p ≠ some 2) →
      e.rd (TST.STATUS q) = 2 ∧ (e.tslot q).endAt = some (now + if e.rd (TST.S_ID q) = 32 then ms (200 * n) else ms 1) ∧
      (e.rd (TST.S_ID q) = 32 → (e.idcCh c).grid = none ∧ (e.idcCh c).cmds = (t.idcCh c).cmds ++
        (List.range n).map (fun k => { dt := now + ms (200 * k), on := true, endAt := some (now + ms (200 * k + 100)) })) ∧
      (e.rd (TST.S_ID q) = 33 → t.pwr.outHold ≠ .off → e.pwm.snuff = true ∧
        ∀ k, k < 32 → (e.idcCh k).snuff = some (t.rd (WDG.SNUFF_STATE k))))
  (∀ (d : Dev) (now : Nat), ((∀ q, q < 16 → d.tstStatus now q = d.rd (TST.STATUS q)) → d.tstTurn now = d) ∧
    (∀ q, q < 16 → (d.tstTurn now).rd (TST.STATUS q) = d.tstStatus now q)) ∧
  ∀ (s : State) (el : Nat),
    Answers (.tGo el) s (fun now d e => d.hif.inService = true →
      let t := d.tstTurn now
      ((∀ q, q < 16 → t.rd (TST.STATUS q) ≠ 0) → e.rd TST.Q_FULL = 1 ∧ OnlyRegs [TST.Q_FULL] t e) ∧
      (∀ q, (List.range 16).find? (fun x => t.rd (TST.STATUS x) == 0) = some q →
        e.rd TST.Q_FULL = 0 ∧ e.rd TST.T_SLOT = q ∧ e.rd (TST.S_ID q) = t.rd TST.T_ID % 2 ^ 6 ∧ e.rd (TST.S_TARGET q) = t.rd TST.T_TARGET % 2 ^ 5 ∧
        (e.tslot q).since = now ∧ (e.tslot q).param = t.rd TST.T_PARAM ∧
        (tstClass (t.rd TST.T_ID) (t.rd TST.T_TARGET) = some 0 → e.rd (TST.STATUS q) = 2) ∧
        (tstClass (t.rd TST.T_ID) (t.rd TST.T_TARGET) = some 1 → e.rd (TST.STATUS q) = 1) ∧
        (tstClass (t.rd TST.T_ID) (t.rd TST.T_TARGET) = none → refused e q 3) ∧
        (tstClass (t.rd TST.T_ID) (t.rd TST.T_TARGET) = some 2 → sys now t e q ∧
          (t.tstSystemRefusal = 0 → t.intrusiveRuns = true → e.rd (TST.STATUS q) = 1)))) ∧
    (∀ q : Fin 16,
      Answers (.testStart el q) s (fun now d e =>
        let t := d.tstTurn now
        (t.rd (TST.STATUS q.val) ≠ 1 ∨ t.intrusiveRuns = true ∨ t.tstBehind q.val = true ∨ t.running = false → e = t) ∧
        (t.rd (TST.STATUS q.val) = 1 → t.intrusiveRuns = false → t.tstBehind q.val = false → t.running = true →
          (t.slotClass q.val = some 2 → sys now t e q.val) ∧
          (t.slotClass q.val = some 1 → now = t.dec.winOpen → t.tstIdle now q.val = true → t.tstOnAt q.val = none →
            e.rd (TST.STATUS q.val) = 2 ∧ (e.tslot q.val).endAt = some (now + tstLen (t.rd (TST.S_ID q.val))) ∧
            OnlyRegs [TST.STATUS q.val] { t with tst := e.tst } e) ∧
          (t.slotClass q.val = some 1 → now ≠ t.dec.winOpen ∨ t.tstIdle now q.val = false ∨ t.tstOnAt q.val ≠ none → e = t))) ∧
      Answers (.testWaitMax el q) s (fun now d e => d.alive = true →
        let t := d.tstTurn now
        let at_ := (t.tslot q.val).since + ms (100 * max 1 (t.rd TST.TEST_WAIT_MAX))
        (t.rd (TST.STATUS q.val) ≠ 1 ∨ t.slotClass q.val ≠ some 1 ∨ now < at_ → e = t) ∧
        (t.rd (TST.STATUS q.val) = 1 → t.slotClass q.val = some 1 → at_ ≤ now →
          e.rd (TST.STATUS q.val) = 4 ∧ bitOf (e.rd TST.FINISHED) q.val = true ∧ e.raised EVT.TST_DEFERRED q.val = true)) ∧
      (∀ (pass : Bool) (detail : Word), Answers (.testDone el q pass detail) s (fun now d e => d.ticking = true →
        let t := d.tstTurn now
        (t.rd (TST.STATUS q.val) ≠ 2 ∨ now < (t.tslot q.val).endAt.getD 0 ∨ (t.slotClass q.val = some 0 ∧ t.tstBehind q.val = true) → e = t) ∧
        (t.rd (TST.STATUS q.val) = 2 → (t.tslot q.val).endAt.getD 0 ≤ now → t.slotClass q.val ≠ some 0 ∨ t.tstBehind q.val = false →
          e.rd (TST.STATUS q.val) = 3 ∧ bitOf (e.rd TST.FINISHED) q.val = true ∧ e.raised EVT.TST_DONE q.val = true ∧
          (t.rd (TST.S_ID q.val) = 2 → e.rd (TST.RESULT q.val) = b2n (!t.imageOk) ∧
            (t.imageOk = false → e.raised EVT.TST_FAIL q.val = true)) ∧
          (t.rd (TST.S_ID q.val) = 3 → e.rd (TST.RESULT q.val) = b2n (t.badTiles != 0) ∧ e.rd (TST.DETAIL q.val) = t.badTiles % 2 ^ 32) ∧
          (t.rd (TST.S_ID q.val) ≠ 2 → t.rd (TST.S_ID q.val) ≠ 3 → e.rd (TST.RESULT q.val) = b2n (!pass) ∧
            (pass = false → e.raised EVT.TST_FAIL q.val = true) ∧
            (t.rd (TST.S_ID q.val) ≠ 32 → e.rd (TST.DETAIL q.val) = detail.toNat)))))) ∧
    (∀ fails : BitVec 5, Answers (.autoPer el fails) s (fun now d e => d.ticking = true →
      let at_ := d.tst.lastAuto + sec (max 1 (d.rd TST.AUTO_PER))
      (now < at_ → e = d) ∧
      (at_ ≤ now → e.tst = { d.tst with lastAuto := now } ∧ OnlyRegsAndEvents [] { d with tst := e.tst } e ∧
        (bitOf (d.rd TST.AUTO_MASK) 2 = true → d.imageOk = false → e.raised EVT.TST_FAIL 0 = true) ∧
        (bitOf (d.rd TST.AUTO_MASK) 3 = true → d.badTiles ≠ 0 → e.raised EVT.TST_FAIL 0 = true) ∧
        (∀ k, k < 5 → k ≠ 2 → k ≠ 3 → bitOf (d.rd TST.AUTO_MASK) k = true → bitOf fails.toNat k = true →
          e.raised EVT.TST_FAIL 0 = true))))

/-- R130, Table 03.12: the run-length code loses nothing. For every content of a tile given as runs of nibbles that together are
65,536 cells, its code is bytes, the decoder takes it, and the content decoded has the same cells; the uncompressed form loses
nothing either, and a code cut short by its last byte is refused.
It rests on the reading or choice of log entry 8. -/
def Obligations.TileCodeLosesNothing : Prop :=
  ∀ rs : List (Nat × Nat), (∀ r ∈ rs, r.1 < 16 ∧ 1 ≤ r.2) → (rs.map (·.2)).sum = tileCells →
    (∀ b ∈ rleEncode rs, b < 256) ∧
    (∃ out, rleDecode (rleEncode rs) = some out ∧ expandRuns out = expandRuns rs ∧
      contentRuns 0 true (rleEncode rs) = some out ∧ contentRuns 0 false (packNibbles (expandRuns rs)) = some out) ∧
    unpackNibbles (packNibbles (expandRuns rs)) = expandRuns rs ∧
    rleDecode (rleEncode rs).dropLast = none

/-! ### Frames over whole commands -/

/-- Each command named here leaves every part of the block but those written out, and every register outside the pages of its
unit, as it found them; what a firing changes (the event flags, the event handler and the recorder) is written out where the
command may raise an event. -/
def Obligations.CommandsStayInTheirUnits : Prop :=
  ∀ (s : State) (el : Nat),
    (∀ (c : Fin 32) (g : Fin 8) (ma : BitVec 16) (t : BitVec 10) (held : Nat),
      (∀ i ∈ [Instr.pulseStart el c, .pulseEnd el c, .minOnEnd el c, .minOffEnd el c, .scSup el c ma held, .staggerMaxExpiry el g,
          .pulseRecord el c t, .idcFltClr el c, .grpFltClr el g],
        Answers i s (fun _ d e => RegsWithin [(0x030000, 0x031000), (0x040000, 0x048000)] d e ∧
          e = { d with regs := e.regs, evh := e.evh, rec_ := e.rec_, tst := e.tst, cov := e.cov, dec := e.dec, ksp := e.ksp, pair := e.pair, idc := e.idc })) ∧
      (∀ i ∈ [Instr.scGnd el c ma, .hsgOc el g ma held], Answers i s (fun _ d e => RegsWithin [(0x040000, 0x048000)] d e ∧
        e = { d with regs := e.regs, evh := e.evh, rec_ := e.rec_, idc := e.idc })) ∧
      (∀ i ∈ [Instr.idcFltClr el c, .grpFltClr el g], Answers i s (fun _ d e => (∀ k, k < 32 → (d.idcCh k).snuff ≠ some 1) →
        RegsWithin [(0x040000, 0x048000)] d e ∧ e = { d with regs := e.regs, idc := e.idc }))) ∧
    (∀ (c : Fin 16) (temp : BitVec 10), ∀ i ∈ [Instr.lswAdmitTimeout el c, .inrushEnd el c, .coolRestart el c temp, .lswFltClr el c],
      Answers i s (fun _ d e => RegsWithin [(0x048000, 0x04A000)] d e ∧
        e = { d with regs := e.regs, cov := e.cov, pair := e.pair, lsw := e.lsw })) ∧
    (∀ c : Fin 16, ∀ i ∈ [Instr.lswSwitchOn el c, .lswSwitchOff el c], Answers i s (fun _ d e => RegsWithin [(0x048000, 0x04A000)] d e ∧
      e = { d with regs := e.regs, evh := e.evh, rec_ := e.rec_, cov := e.cov, pair := e.pair, lsw := e.lsw,
                   pwr := { d.pwr with dimShed := e.pwr.dimShed } })) ∧
    (∀ (c : Fin 16) (b : Fin 4) (i0 i1 i2 i3 : BitVec 16) (temp : BitVec 10) (held : Nat), ∀ i ∈ [Instr.lswOverload el c i0 held,
        .thermalShutdown el c temp, .lswOpen el c i0 held, .lswScGnd el c i0 i1 held, .lswOffTest el c i0, .bankPeak el b i0 i1 i2 i3 held],
      Answers i s (fun _ d e => RegsWithin [(0x048000, 0x04A000)] d e ∧
        e = { d with regs := e.regs, evh := e.evh, rec_ := e.rec_, cov := e.cov, pair := e.pair, lsw := e.lsw })) ∧
    (∀ (m : BitVec 12) (t : Fin 4) (held : Nat), ∀ i ∈ [Instr.outEn el m, .tripDeassert el t held, .tripAssert el t held, .tripBlankEnd el t],
      Answers i s (fun _ d e => RegsWithin [(0x04A000, 0x04C000)] d e ∧
        e = { d with regs := e.regs, evh := e.evh, rec_ := e.rec_, pwm := e.pwm })) ∧
    (∀ (c : Fin 8) (p a b : Bool) (held : Nat), Answers (.fbkEdge el c p a b held) s (fun _ d e =>
      RegsWithin [(0x033000, 0x034000), (0x050000, 0x058000)] d e ∧
      e = { d with regs := e.regs, evh := e.evh, rec_ := e.rec_, rate := e.rate, fbk := e.fbk })) ∧
    (∀ (n : Fin 6) (x : BitVec 9) (y : BitVec 8), ∀ i ∈ [Instr.busOn el n, .busError el n x y, .abdStart el n],
      Answers i s (fun _ d e => RegsWithin [(0x060000, 0x066000)] d e ∧ e = { d with regs := e.regs, can := e.can })) ∧
    (∀ (b : Fin 4) (n : Fin 64) (bs : List Byte),
      Answers (.latency el b n bs) s (fun _ d e => RegsWithin [(0x030000, 0x031000), (0x060000, 0x066000)] d e ∧
        e = { d with regs := e.regs, cov := e.cov, dec := e.dec, pair := e.pair, vnp := e.vnp }) ∧
      Answers (.enrolReq el b bs) s (fun _ d e => RegsWithin [] d e ∧
        e = { d with regs := e.regs, evh := e.evh, rec_ := e.rec_, vnp := e.vnp, can := e.can })) ∧
    (∀ (n : Fin 4) (rx : List Byte), Answers (.sspSample el n rx) s (fun _ d e => RegsWithin [(0x037000, 0x038000)] d e ∧
      e = { d with regs := e.regs, pose := e.pose, ssp := e.ssp })) ∧
    (∀ p : Fin 8, Answers (.holdExpired el p) s (fun _ d e => RegsWithin [(0x032000, 0x033000)] d e ∧
        e = { d with regs := e.regs, evh := e.evh, rec_ := e.rec_, dec := e.dec }) ∧
      Answers (.rateDeviation el p) s (fun _ d e => RegsWithin [(0x033000, 0x034000)] d e ∧
        e = { d with regs := e.regs, evh := e.evh, rec_ := e.rec_, rate := e.rate, freeCtr := e.freeCtr })) ∧
    (∀ (x : EpochIn), Answers (.measurementEpoch el x) s (fun _ d e => RegsWithin [(0x035000, 0x037000)] d e ∧
      e = { d with regs := e.regs, evh := e.evh, rec_ := e.rec_, pose := e.pose, gnss := e.gnss, time := e.time, ksp := e.ksp })) ∧
    Answers (.correctionEpochClose el) s (fun _ d e => RegsWithin [(0x035000, 0x036000)] d e ∧
      e = { d with regs := e.regs, evh := e.evh, rec_ := e.rec_, gnss := e.gnss }) ∧
    Answers (.holdover el) s (fun _ d e => RegsWithin [(0x036000, 0x037000)] d e ∧
      e = { d with regs := e.regs, evh := e.evh, rec_ := e.rec_, time := e.time }) ∧
    Answers (.auditReq el) s (fun _ d e => RegsWithin [(0x038000, 0x039000)] d e ∧
      e = { d with regs := e.regs, evh := e.evh, rec_ := e.rec_, grid := e.grid }) ∧
    (∀ (src : Fin 16) (m : BitVec 16), Answers (.srcRetry el src) s (fun _ d e => e = { d with grid := e.grid }) ∧
      Answers (.calReset el m) s (fun _ d e => RegsWithin [(0x038000, 0x03A000)] d e ∧
        e = { d with regs := e.regs, evh := e.evh, rec_ := e.rec_, grid := e.grid, cal := e.cal })) ∧
    (∀ (k : Fin 416) (n : Fin 1024),
      Answers (.confTimeout el n) s (fun _ d e => RegsWithin [(0x030000, 0x031000)] d e ∧ e = { d with regs := e.regs, cov := e.cov }) ∧
      (∀ i ∈ [Instr.storeProbe el, .provisionalRerequest el k], Answers i s (fun _ d e =>
        e = { d with evh := e.evh, tpl := e.tpl, ksp := e.ksp })) ∧
      (∀ i ∈ [Instr.tileWriteback el k, .reqTimeout el k], Answers i s (fun _ d e => RegsWithin [(0x030000, 0x032000)] d e ∧
        e = { d with regs := e.regs, evh := e.evh, rec_ := e.rec_, tpl := e.tpl, ksp := e.ksp })) ∧
      Answers (.emberFlushMaxExpiry el) s (fun _ d e => RegsWithin [(0x030000, 0x032000)] d e ∧ e = { d with regs := e.regs, tpl := e.tpl })) ∧
    (∀ (p : Fin 2) (ack : BitVec 12) (nak : Bool) (c0 c1 c2 c3 c4 : BitVec 16),
      Answers (.laneLockWaitExpiry el p) s (fun _ d e => e = { d with ksp := e.ksp }) ∧
      Answers (.trainTimeout el p) s (fun _ d e => RegsWithin [(0x070000, 0x072000)] d e ∧ e = { d with regs := e.regs, ksp := e.ksp }) ∧
      Answers (.linkPacket el p ack nak c0 c1 c2 c3 c4) s (fun _ d e => RegsWithin [(0x070000, 0x072000)] d e ∧
        e = { d with regs := e.regs, evh := e.evh, ksp := e.ksp })) ∧
    (∀ h : HelloMsg, ∀ i ∈ [Instr.hello el h, .pairWaitExpiry el, .beaconListenExpiry el, .mirrorStale el], Answers i s (fun _ d e =>
      RegsWithin [(0x072000, 0x073000)] d e ∧
      e = { d with regs := e.regs, evh := e.evh, rec_ := e.rec_, ksp := e.ksp, pair := e.pair })) ∧
    (∀ (n : Fin 8) (lo : Word),
      Answers (.stateWrite el n lo) s (fun _ d e => RegsWithin [(0x078000, 0x080000)] d e ∧ e = { d with regs := e.regs, hif := e.hif }) ∧
      (∀ i ∈ [Instr.dmaAbort el n, .dmaDone el n], Answers i s (fun _ d e => RegsWithin [(0x078000, 0x080000)] d e ∧
        e = { d with regs := e.regs, evh := e.evh, rec_ := e.rec_, freeCtr := e.freeCtr }))) ∧
    (∀ (mv low : BitVec 16) (held : Nat),
      Answers (.dimEntry el mv held) s (fun _ d e => RegsWithin [(0x001000, 0x002000), (0x048000, 0x04A000)] d e ∧
        e = { d with regs := e.regs, evh := e.evh, rec_ := e.rec_, cov := e.cov, pair := e.pair, lsw := e.lsw, pwr := e.pwr, mram := e.mram }) ∧
      Answers (.dimEnd el mv low held) s (fun _ d e => RegsWithin [(0x001000, 0x002000)] d e ∧
        e = { d with regs := e.regs, evh := e.evh, rec_ := e.rec_, cov := e.cov, pwr := e.pwr, mram := e.mram })) ∧
    Answers (.fwPushDone el) s (fun _ d e => e = { d with pwr := e.pwr, mram := e.mram }) ∧
    (∀ (q : Fin 16) (pass : Bool) (w : Word),
      Answers (.testStart el q) s (fun _ d e => d.slotClass q.val ≠ some 2 →
        RegsWithin [(0x006000, 0x007000)] d e ∧ e = { d with regs := e.regs, tst := e.tst, idc := e.idc }) ∧
      (∀ i ∈ [Instr.testWaitMax el q, .testDone el q pass w], Answers i s (fun _ d e => RegsWithin [(0x006000, 0x007000)] d e ∧
        e = { d with regs := e.regs, evh := e.evh, rec_ := e.rec_, tst := e.tst, idc := e.idc }))) ∧
    (∀ p : Fin 3, Answers (.logClr el p) s (fun _ d e => RegsWithin [(0x005000, 0x006000)] d e ∧
      e = { d with regs := e.regs, evh := e.evh, rec_ := e.rec_, cntAct := e.cntAct, ksp := e.ksp, mram := e.mram })) ∧
    Answers (.countedChangeDone el) s (fun _ d e => RegsWithin [(0x005000, 0x006000)] d e ∧
      e = { d with regs := e.regs, pend := e.pend, evh := e.evh, rec_ := e.rec_, cntAct := e.cntAct, mram := e.mram })
end

