-- ==== Sys2Proof/Laws/Table.lean ====
section
/-! SUPPORT. What the sparse tables, the memory windows and the register file do: reads after writes, and the canonical
form that every operation keeps. -/

namespace Sys2Proof.Machine

/-! ### Reads of a table after a write -/

@[simp] theorem tget?_nil {α : Type} (k : Nat) : tget? ([] : Tab α) k = none := rfl

@[simp] theorem tget?_tset_self {α : Type} (t : Tab α) (k : Nat) (v : α) : tget? (tset t k v) k = some v := by
  induction t with
  | nil => simp [tset, tget?]
  | cons p t ih =>
    obtain ⟨a, x⟩ := p
    by_cases h : a = k
    · simp [tset, tget?, h]
    · by_cases hk : k < a <;> simp [tset, tget?, h, hk, ih]

theorem tget?_tset_ne {α : Type} (t : Tab α) {j k : Nat} (v : α) (h : k ≠ j) : tget? (tset t k v) j = tget? t j := by
  induction t with
  | nil => simp [tset, tget?, h]
  | cons p t ih =>
    obtain ⟨a, x⟩ := p
    by_cases ha : a = k
    · subst ha
      simp [tset, tget?, h]
    · by_cases hk : k < a
      · simp [tset, tget?, ha, hk, h]
      · simp [tset, tget?, ha, hk, ih]

@[simp] theorem tget?_tdel_self {α : Type} (t : Tab α) (k : Nat) : tget? (tdel t k) k = none := by
  induction t with
  | nil => rfl
  | cons p t ih =>
    obtain ⟨a, x⟩ := p
    by_cases h : a = k <;> simp [tdel, tget?, h, ih]

theorem tget?_tdel_ne {α : Type} (t : Tab α) {j k : Nat} (h : k ≠ j) : tget? (tdel t k) j = tget? t j := by
  induction t with
  | nil => rfl
  | cons p t ih =>
    obtain ⟨a, x⟩ := p
    by_cases ha : a = k
    · subst ha
      simp [tdel, tget?, h, ih]
    · simp [tdel, tget?, ha, ih]

@[simp] theorem tget_tset_self {α : Type} [Inhabited α] (t : Tab α) (k : Nat) (v : α) : tget (tset t k v) k = v := by
  simp [tget]

theorem tget_tset_ne {α : Type} [Inhabited α] (t : Tab α) {j k : Nat} (v : α) (h : k ≠ j) :
    tget (tset t k v) j = tget t j := by simp [tget, tget?_tset_ne t v h]

@[simp] theorem tget_tmod_self {α : Type} [Inhabited α] (t : Tab α) (k : Nat) (f : α → α) :
    tget (tmod t k f) k = f (tget t k) := by simp [tmod]

theorem tget_tmod_ne {α : Type} [Inhabited α] (t : Tab α) {j k : Nat} (f : α → α) (h : k ≠ j) :
    tget (tmod t k f) j = tget t j := tget_tset_ne t _ h

theorem kput_self (dflt : Nat) (m : KMap) (k v : Nat) : (tget? (kput dflt m k v) k).getD dflt = v := by
  by_cases h : v = dflt <;> simp [kput, h]

theorem tget?_kput_ne (dflt : Nat) (m : KMap) {j k : Nat} (v : Nat) (h : k ≠ j) :
    tget? (kput dflt m k v) j = tget? m j := by
  by_cases hv : v = dflt
  · simp [kput, hv, tget?_tdel_ne m h]
  · simp [kput, hv, tget?_tset_ne m v h]

/-! ### The canonical form of a table -/

/-- Every key of the table lies above `b`. -/
def keysAbove {α : Type} (b : Nat) (t : Tab α) : Prop := ∀ p ∈ t, b < p.1

theorem sortedKeys_cons {α : Type} (a : Nat) (x : α) (t : Tab α) :
    sortedKeys ((a, x) :: t) = true ↔ keysAbove a t ∧ sortedKeys t = true := by
  induction t generalizing a x with
  | nil => simp [sortedKeys, keysAbove]
  | cons p t ih =>
    obtain ⟨b, y⟩ := p
    simp only [sortedKeys, Bool.and_eq_true, decide_eq_true_eq]
    constructor
    · rintro ⟨hab, hs⟩
      refine ⟨?_, hs⟩
      intro q hq
      rcases List.mem_cons.mp hq with rfl | hq
      · exact hab
      · exact lt_trans hab (((ih b y).mp hs).1 q hq)
    · rintro ⟨hk, hs⟩
      exact ⟨hk (b, y) (by simp), hs⟩

theorem mem_tset {α : Type} (t : Tab α) (k : Nat) (v : α) (p : Nat × α) (h : p ∈ tset t k v) : p = (k, v) ∨ p ∈ t := by
  induction t with
  | nil => simpa [tset] using h
  | cons q t ih =>
    obtain ⟨a, x⟩ := q
    by_cases ha : a = k
    · simp only [tset, ha, if_true, List.mem_cons] at h ⊢
      rcases h with h | h <;> simp [h]
    · by_cases hk : k < a
      · simp only [tset, ha, hk, if_true, if_false, List.mem_cons] at h ⊢
        exact h
      · simp only [tset, ha, hk, if_false, List.mem_cons] at h ⊢
        rcases h with h | h
        · exact .inr (.inl h)
        · rcases ih h with h | h
          · exact .inl h
          · exact .inr (.inr h)

theorem mem_tdel {α : Type} (t : Tab α) (k : Nat) (p : Nat × α) (h : p ∈ tdel t k) : p ∈ t := by
  induction t with
  | nil => simp [tdel] at h
  | cons q t ih =>
    obtain ⟨a, x⟩ := q
    by_cases ha : a = k
    · simp only [tdel, ha, if_true] at h
      exact List.mem_cons_of_mem _ (ih h)
    · simp only [tdel, ha, if_false, List.mem_cons] at h ⊢
      exact h.imp id ih

theorem sortedKeys_tset {α : Type} (t : Tab α) (k : Nat) (v : α) (h : sortedKeys t = true) :
    sortedKeys (tset t k v) = true := by
  induction t with
  | nil => rfl
  | cons q t ih =>
    obtain ⟨a, x⟩ := q
    obtain ⟨hk, hs⟩ := (sortedKeys_cons a x t).mp h
    by_cases ha : a = k
    · subst ha
      simpa [tset] using (sortedKeys_cons a v t).mpr ⟨hk, hs⟩
    · by_cases hlt : k < a
      · simp only [tset, ha, hlt, if_true, if_false]
        refine (sortedKeys_cons _ _ _).mpr ⟨?_, h⟩
        intro p hp
        rcases List.mem_cons.mp hp with rfl | hp
        · exact hlt
        · exact lt_trans hlt (hk p hp)
      · simp only [tset, ha, hlt, if_false]
        refine (sortedKeys_cons _ _ _).mpr ⟨?_, ih hs⟩
        intro p hp
        rcases mem_tset t k v p hp with rfl | hp
        · exact lt_of_le_of_ne (not_lt.mp hlt) ha
        · exact hk p hp

theorem sortedKeys_tdel {α : Type} (t : Tab α) (k : Nat) (h : sortedKeys t = true) : sortedKeys (tdel t k) = true := by
  induction t with
  | nil => rfl
  | cons q t ih =>
    obtain ⟨a, x⟩ := q
    obtain ⟨hk, hs⟩ := (sortedKeys_cons a x t).mp h
    by_cases ha : a = k
    · simpa [tdel, ha] using ih hs
    · simp only [tdel, ha, if_false]
      exact (sortedKeys_cons _ _ _).mpr ⟨fun p hp => hk p (mem_tdel t k p hp), ih hs⟩

theorem sortedKeys_kput (dflt : Nat) (m : KMap) (k v : Nat) (h : sortedKeys m = true) :
    sortedKeys (kput dflt m k v) = true := by
  by_cases hv : v = dflt
  · simpa [kput, hv] using sortedKeys_tdel m k h
  · simpa [kput, hv] using sortedKeys_tset m k v h

theorem sortedKeys_filter {α : Type} (t : Tab α) (f : Nat × α → Bool) (h : sortedKeys t = true) :
    sortedKeys (t.filter f) = true := by
  induction t with
  | nil => rfl
  | cons q t ih =>
    obtain ⟨a, x⟩ := q
    obtain ⟨hk, hs⟩ := (sortedKeys_cons a x t).mp h
    by_cases hf : f (a, x)
    · simp only [List.filter_cons, hf, if_true]
      exact (sortedKeys_cons _ _ _).mpr ⟨fun p hp => hk p (List.mem_of_mem_filter hp), ih hs⟩
    · simpa [List.filter_cons, hf] using ih hs

/-! ### Memory windows -/

theorem Memory.wf_iff (m : List Host.Cell) : Memory.wf m = true ↔ sortedKeys m = true ∧ ∀ c ∈ m, c.2 ≠ 0 := by
  simp [Memory.wf]

theorem Memory.wf_nil : Memory.wf [] = true := rfl

/-- A byte written to a memory window keeps the canonical form. -/
theorem memSet_wf (m : List Host.Cell) (a v : Nat) (h : Memory.wf m = true) : Memory.wf (memSet m a v) = true := by
  obtain ⟨hs, hz⟩ := (Memory.wf_iff m).mp h
  by_cases hv : v % 256 = 0
  · simp only [memSet, hv, if_true]
    exact (Memory.wf_iff _).mpr ⟨sortedKeys_tdel m a hs, fun c hc => hz c (mem_tdel m a c hc)⟩
  · simp only [memSet, hv, if_false]
    refine (Memory.wf_iff _).mpr ⟨sortedKeys_tset m a _ hs, fun c hc => ?_⟩
    rcases mem_tset m a _ c hc with rfl | hc
    · intro h0
      apply hv
      have := congrArg BitVec.toNat h0
      simpa using this
    · exact hz c hc

/-- Bytes written to a memory window keep the canonical form. -/
theorem memSetBytes_wf (m : List Host.Cell) (a : Nat) (bs : List Nat) (h : Memory.wf m = true) :
    Memory.wf (memSetBytes m a bs) = true := by
  induction bs generalizing m a with
  | nil => exact h
  | cons b bs ih => exact ih _ _ (memSet_wf m a b h)

/-- Keeping some cells of a memory window keeps the canonical form. -/
theorem Memory.wf_filter (m : List Host.Cell) (f : Host.Cell → Bool) (h : Memory.wf m = true) :
    Memory.wf (m.filter f) = true := by
  obtain ⟨hs, hz⟩ := (Memory.wf_iff m).mp h
  exact (Memory.wf_iff _).mpr ⟨sortedKeys_filter m f hs, fun c hc => hz c (List.mem_of_mem_filter hc)⟩

@[simp] theorem memGet_memSet_self (m : List Host.Cell) (a v : Nat) : memGet (memSet m a v) a = v % 256 := by
  by_cases hv : v % 256 = 0 <;> simp [memGet, memSet, hv]

theorem memGet_memSet_ne (m : List Host.Cell) {a b : Nat} (v : Nat) (h : a ≠ b) :
    memGet (memSet m a v) b = memGet m b := by
  by_cases hv : v % 256 = 0
  · simp [memGet, memSet, hv, tget?_tdel_ne m h]
  · simp [memGet, memSet, hv, tget?_tset_ne m _ h]

/-- Bytes outside those written read as before. -/
theorem memGet_memSetBytes_out (m : List Host.Cell) (a b : Nat) (bs : List Nat) (h : b < a ∨ a + bs.length ≤ b) :
    memGet (memSetBytes m a bs) b = memGet m b := by
  induction bs generalizing m a with
  | nil => rfl
  | cons x bs ih =>
    simp only [List.length_cons] at h
    have hne : a ≠ b := by omega
    have hr : b < a + 1 ∨ a + 1 + bs.length ≤ b := by omega
    rw [memSetBytes, ih _ _ hr, memGet_memSet_ne m x hne]

/-- A byte written reads back. -/
theorem memGet_memSetBytes_in (m : List Host.Cell) (a i : Nat) (bs : List Nat) (h : i < bs.length) :
    memGet (memSetBytes m a bs) (a + i) = bs[i] % 256 := by
  induction bs generalizing m a i with
  | nil => simp at h
  | cons x bs ih =>
    cases i with
    | zero => rw [memSetBytes, Nat.add_zero, memGet_memSetBytes_out _ _ _ _ (by omega)]; simp
    | succ i =>
      have h' : i < bs.length := by simpa using h
      have e : a + (i + 1) = a + 1 + i := by omega
      rw [memSetBytes, e, ih _ _ i h']
      simp

/-! ### The register file -/

/-- A register field written reads back, narrowed to its width. -/
@[simp] theorem Dev.rd_wr_self (d : Dev) (f : Field) (v : Nat) : (d.wr f v).rd f = v % 2 ^ f.width := by
  simp [Dev.rd, Dev.wr, kput_self]

/-- A write leaves every other register field alone. -/
theorem Dev.rd_wr_ne (d : Dev) {f g : Field} (v : Nat) (h : f.key ≠ g.key) : (d.wr f v).rd g = d.rd g := by
  simp [Dev.rd, Dev.wr, tget?_kput_ne f.reset d.regs _ h]

/-- A counter counts and saturates (R18). -/
@[simp] theorem Dev.rd_add_self (d : Dev) (f : Field) (n : Nat) :
    (d.add f n).rd f = min (2 ^ f.width - 1) (d.rd f + n) := by
  have h : min (2 ^ f.width - 1) (d.rd f + n) < 2 ^ f.width :=
    lt_of_le_of_lt (min_le_left _ _) (Nat.sub_lt (Nat.two_pow_pos _) Nat.one_pos)
  simp [Dev.add, Nat.mod_eq_of_lt h]

theorem Dev.rd_add_ne (d : Dev) {f g : Field} (n : Nat) (h : f.key ≠ g.key) : (d.add f n).rd g = d.rd g :=
  Dev.rd_wr_ne d _ h

@[simp] theorem Dev.rd_bump_self (d : Dev) (f : Field) :
    (d.bump f).rd f = min (2 ^ f.width - 1) (d.rd f + 1) := Dev.rd_add_self d f 1

theorem Dev.rd_bump_ne (d : Dev) {f g : Field} (h : f.key ≠ g.key) : (d.bump f).rd g = d.rd g :=
  Dev.rd_wr_ne d _ h

theorem Dev.rd_wrB_self (d : Dev) (f : Field) (b : Bool) (h : f.width = 1) : (d.wrB f b).rd f = b2n b := by
  rw [Dev.wrB, Dev.rd_wr_self, h]
  cases b <;> rfl

theorem Dev.rd_wrB_ne (d : Dev) {f g : Field} (b : Bool) (h : f.key ≠ g.key) : (d.wrB f b).rd g = d.rd g :=
  Dev.rd_wr_ne d _ h

/-- Whether a field has key `k` is all that a read depends on, beside its reset value. -/
theorem Dev.rd_congr (d e : Dev) (f : Field) (h : tget? e.regs f.key = tget? d.regs f.key) : e.rd f = d.rd f := by
  simp [Dev.rd, h]

/-- The register file stays sorted under a write. -/
theorem Dev.wr_sorted (d : Dev) (f : Field) (v : Nat) (h : sortedKeys d.regs = true) : sortedKeys (d.wr f v).regs = true :=
  sortedKeys_kput _ _ _ _ h

end Sys2Proof.Machine
end

