-- ==== Sys2Proof/Laws/Event.lean ====
section
/-! SUPPORT. What a firing and a recorder record can change: the event flags of the page headers, the event handler, the
recorder, and nothing else. -/

namespace Sys2Proof.Machine

/-- The key lies in the event handler's or the recorder's page, or is PG_EVT_RAW or PG_EVT_PEND of a page header. -/
def EvtKey (k : Nat) : Prop :=
  (0x2000 ≤ k / 32 ∧ k / 32 < 0x3000) ∨ (0x4000 ≤ k / 32 ∧ k / 32 < 0x5000) ∨
    ((k / 32 % 0x1000 = 0x10 ∨ k / 32 % 0x1000 = 0x18) ∧ (k / 32 < 0x20000 ∨ 0x30000 ≤ k / 32))

/-- `e` differs from `d` in no more than event flags, event handler and recorder. -/
def Quiet (d e : Dev) : Prop :=
  e = { d with regs := e.regs, evh := e.evh, rec_ := e.rec_ } ∧ ∀ k, ¬ EvtKey k → tget? e.regs k = tget? d.regs k

theorem Quiet.refl (d : Dev) : Quiet d d := ⟨rfl, fun _ _ => rfl⟩

theorem Quiet.trans {a b c : Dev} (h : Quiet a b) (g : Quiet b c) : Quiet a c := by
  obtain ⟨h1, h2⟩ := h
  obtain ⟨g1, g2⟩ := g
  refine ⟨?_, fun k hk => (g2 k hk).trans (h2 k hk)⟩
  rw [g1, h1]

theorem Quiet.wr (d : Dev) (f : Field) (v : Nat) (h : EvtKey f.key) : Quiet d (d.wr f v) := by
  refine ⟨rfl, fun k hk => ?_⟩
  have hne : f.key ≠ k := fun e => hk (e ▸ h)
  exact tget?_kput_ne f.reset d.regs _ hne

theorem Quiet.evh (d : Dev) (x : EvhBlk) : Quiet d { d with evh := x } := ⟨rfl, fun _ _ => rfl⟩
theorem Quiet.rec_ (d : Dev) (x : RecBlk) : Quiet d { d with rec_ := x } := ⟨rfl, fun _ _ => rfl⟩

theorem Quiet.each {α : Type} (d : Dev) (l : List α) (f : Dev → α → Dev) (h : ∀ d a, Quiet d (f d a)) :
    Quiet d (d.each l f) := by
  unfold Dev.each
  induction l generalizing d with
  | nil => exact Quiet.refl d
  | cons a l ih => exact (h d a).trans (ih (f d a))

/-- A block of the event numbers lies at a page base outside the point descriptors. -/
theorem evtPage_base (e inst : Nat) :
    (evtPage e inst).1 % 0x1000 = 0 ∧ ((evtPage e inst).1 < 0x20000 ∨ 0x30000 ≤ (evtPage e inst).1) := by
  unfold evtPage
  split
  · simp
  · rename_i b lo hi hf
    have hb : (b % 0x1000 = 0 ∧ (b < 0x18000 ∨ 0x30000 ≤ b)) := by
      have hm := List.mem_of_find?_eq_some hf
      revert hm
      simp only [evtBlocks, List.mem_cons, List.not_mem_nil, or_false, Prod.mk.injEq]
      omega
    dsimp only
    split_ifs <;> simp_all <;> omega

theorem evtKey_raw (e inst : Nat) : EvtKey (HDR.PG_EVT_RAW (evtPage e inst).1).key := by
  have h := evtPage_base e inst
  simp only [EvtKey, Field.key, HDR.PG_EVT_RAW]
  omega

theorem evtKey_pend (e inst : Nat) : EvtKey (HDR.PG_EVT_PEND (evtPage e inst).1).key := by
  have h := evtPage_base e inst
  simp only [EvtKey, Field.key, HDR.PG_EVT_PEND]
  omega

theorem evtKey_coal (e : Nat) : EvtKey (EVH.COAL (e % 256)).key := by
  simp only [EvtKey, Field.key, EVH.COAL]
  omega

/-! ### Records -/

theorem Quiet.wr_rec (d : Dev) (f : Field) (v : Nat) (h : 0x4000 ≤ f.addr ∧ f.addr < 0x5000 ∧ f.lo < 32) : Quiet d (d.wr f v) :=
  Quiet.wr d f v (by simp only [EvtKey, Field.key]; omega)

theorem stagePut_quiet (d : Dev) (mk : Dev → List Nat) : Quiet d (d.stagePut mk) := by
  unfold Dev.stagePut
  split
  · exact Quiet.wr_rec d _ _ (by decide)
  · dsimp only
    split
    · exact Quiet.wr_rec d _ _ (by decide)
    · exact (Quiet.rec_ d _).trans (Quiet.wr_rec _ _ _ (by decide))

theorem drawToken_quiet (d : Dev) (now k : Nat) : Quiet d (d.drawToken now k).2.2 := by
  unfold Dev.drawToken
  dsimp only
  split
  · exact Quiet.rec_ d _
  · exact (Quiet.rec_ d _).trans (Quiet.wr_rec _ _ _ (by decide))

theorem stageDef_quiet (d : Dev) (now s : Nat) : Quiet d (d.stageDef now s) := by
  unfold Dev.stageDef
  split
  · exact (Quiet.rec_ d _).trans (stagePut_quiet _ _)
  · exact Quiet.refl d

theorem stageSnap_quiet (d : Dev) (now kind code trig tick edata rl : Nat) (s? : Option Nat) :
    Quiet d (d.stageSnap now kind code trig tick edata rl s?) := by
  unfold Dev.stageSnap
  split
  · exact stagePut_quiet _ _
  · exact (stageDef_quiet _ _ _).trans (stagePut_quiet _ _)

/-! ### Firings -/

theorem setFlags_quiet (d : Dev) (now e inst : Nat) : Quiet d (d.setFlags now e inst) := by
  unfold Dev.setFlags
  dsimp only
  have h1 : Quiet d (d.wr (HDR.PG_EVT_RAW (evtPage e inst).1)
      (setBitOf (d.rd (HDR.PG_EVT_RAW (evtPage e inst).1)) (evtPage e inst).2 true)) := Quiet.wr d _ _ (evtKey_raw e inst)
  split
  · refine h1.trans ((Quiet.wr _ _ _ (evtKey_pend e inst)).trans (Quiet.each _ _ _ (fun d n => ?_)))
    split
    · exact Quiet.evh d _
    · exact Quiet.refl d
  · exact h1

theorem queueEvent_quiet (d : Dev) (port : Nat) (f : Firing) : Quiet d (d.queueEvent port f).2 := by
  unfold Dev.queueEvent
  dsimp only
  by_cases h : (if port = 0 then d.evh.queue0 else d.evh.queue1).length < 64
  · rw [if_pos h]
    exact Quiet.evh d _
  · rw [if_neg h]
    exact Quiet.wr d _ _ (by simp only [EvtKey, Field.key, EVH.KSP_DROP]; omega)

theorem fireN_succ_quiet (n : Nat) (hd : ∀ d now st f, Quiet d (Dev.deliverN n d now st f)) (d : Dev) (now : Nat)
    (f : Firing) : Quiet d (Dev.fireN (n + 1) d now f) := by
  simp only [Dev.fireN]
  refine (setFlags_quiet d now f.num (f.edata % 2 ^ 16)).trans ?_
  generalize d.setFlags now f.num (f.edata % 2 ^ 16) = d1
  have tail : ∀ d2 : Dev, Quiet d2
      (if now < (tget d2.evh.limits f.num : RateLim).until_ then
        ({ d2 with evh :=
            { d2.evh with
              limits := tset d2.evh.limits f.num { (tget d2.evh.limits f.num : RateLim) with heldBack := some f } } } : Dev).bump
          (EVH.COAL (f.num % 256))
      else Dev.deliverN n d2 now now f) := by
    intro d2
    split
    · exact (Quiet.evh d2 _).trans (Quiet.wr _ _ _ (evtKey_coal _))
    · exact hd _ _ _ _
  split
  · exact tail d1
  · split
    · exact (hd _ _ _ _).trans (tail _)
    · exact tail d1

theorem deliverN_succ_quiet (n : Nat) (hf : ∀ d now f, Quiet d (Dev.fireN n d now f))
    (hr : ∀ d now f, Quiet d (Dev.recordN n d now f)) (d : Dev) (now st : Nat) (f : Firing) :
    Quiet d (Dev.deliverN (n + 1) d now st f) := by
  simp only [Dev.deliverN]
  refine (Quiet.evh d { d.evh with
    limits := if d.rd (EVH.RL_MS f.num) = 0 then tdel d.evh.limits f.num
      else tset d.evh.limits f.num { until_ := st + ms (d.rd (EVH.RL_MS f.num)), heldBack := none } }).trans ?_
  generalize ({ d with evh := { d.evh with
    limits := if d.rd (EVH.RL_MS f.num) = 0 then tdel d.evh.limits f.num
      else tset d.evh.limits f.num { until_ := st + ms (d.rd (EVH.RL_MS f.num)), heldBack := none } } } : Dev) = d1
  have h2 : ∀ (l : List Nat) (d0 : Dev), Quiet d0 (l.foldl (fun d port =>
      if ((d.queueEvent port f).1 || decide (f.num = EVT.EVH_OVERFLOW)) = true then (d.queueEvent port f).2
      else Dev.fireN n (d.queueEvent port f).2 now
        { num := EVT.EVH_OVERFLOW, edata := port, dt := nsOf now, tick := d.tickCnt now }) d0) := by
    intro l
    induction l with
    | nil => exact fun d0 => Quiet.refl d0
    | cons p l ihl =>
      intro d0
      simp only [List.foldl_cons]
      refine Quiet.trans ?_ (ihl _)
      split
      · exact queueEvent_quiet _ _ _
      · exact (queueEvent_quiet _ _ _).trans (hf _ _ _)
  split
  · split
    · exact (h2 _ _).trans (hr _ _ _)
    · exact h2 _ _
  · split
    · exact hr _ _ _
    · exact Quiet.refl _

theorem recordN_succ_quiet (n : Nat) (hl : ∀ d now, Quiet d (Dev.rateLimitN n d now)) (d : Dev) (now : Nat) (f : Firing) :
    Quiet d (Dev.recordN (n + 1) d now f) := by
  simp only [Dev.recordN]
  split
  · exact Quiet.wr_rec d _ _ (by decide)
  · have h1 : Quiet d (if (d.drawToken now f.num).1 = true then
        (d.drawToken now f.num).2.2.stageSnap now 0x01 f.num f.dt f.tick f.edata (d.drawToken now f.num).2.1
          ((d.drawToken now f.num).2.2.triggerSet f.num)
        else Dev.rateLimitN n (d.drawToken now f.num).2.2 now) := by
      split
      · exact (drawToken_quiet _ _ _).trans (stageSnap_quiet _ _ _ _ _ _ _ _ _)
      · exact (drawToken_quiet _ _ _).trans (hl _ _)
    have tail : ∀ (d2 : Dev) (k : Nat) (mk : Dev → List Nat), Quiet d2
        (if (d2.drawToken now k).1 = true then (d2.drawToken now k).2.2.stagePut mk
          else Dev.rateLimitN n (d2.drawToken now k).2.2 now) := by
      intro d2 k mk
      split
      · exact (drawToken_quiet d2 now k).trans (stagePut_quiet _ _)
      · exact (drawToken_quiet d2 now k).trans (hl _ _)
    split
    · exact h1
    · exact h1.trans (tail _ _ _)

theorem rateLimitN_succ_quiet (n : Nat) (hf : ∀ d now f, Quiet d (Dev.fireN n d now f)) (d : Dev) (now : Nat) :
    Quiet d (Dev.rateLimitN (n + 1) d now) := by
  simp only [Dev.rateLimitN]
  have go : Quiet d (Dev.fireN n { d with rec_ := { d.rec_ with lastRateEvt := some now } } now
      { num := EVT.REC_RATE_LIMIT, edata := 0, dt := nsOf now, tick := d.tickCnt now }) :=
    (Quiet.rec_ d { d.rec_ with lastRateEvt := some now }).trans (hf _ _ _)
  split
  · exact go
  · split
    · exact go
    · exact Quiet.refl d

/-- What a firing, a delivery, a record and a rate-limit event can change, by the depth of the firings they cause. -/
theorem fireN_quiet_all (fuel : Nat) :
    (∀ d now f, Quiet d (Dev.fireN fuel d now f)) ∧ (∀ d now st f, Quiet d (Dev.deliverN fuel d now st f)) ∧
    (∀ d now f, Quiet d (Dev.recordN fuel d now f)) ∧ (∀ d now, Quiet d (Dev.rateLimitN fuel d now)) := by
  induction fuel with
  | zero =>
    refine ⟨fun d now f => ?_, fun d now st f => ?_, fun d now f => ?_, fun d now => ?_⟩
    · simpa only [Dev.fireN] using setFlags_quiet _ _ _ _
    · simpa only [Dev.deliverN] using Quiet.refl d
    · simpa only [Dev.recordN] using Quiet.refl d
    · simpa only [Dev.rateLimitN] using Quiet.refl d
  | succ n ih =>
    exact ⟨fireN_succ_quiet n ih.2.1, deliverN_succ_quiet n ih.1 ih.2.2.1, recordN_succ_quiet n ih.2.2.2,
      rateLimitN_succ_quiet n ih.1⟩

theorem fire_quiet (d : Dev) (now e inst val : Nat) : Quiet d (d.fire now e inst val) :=
  (fireN_quiet_all 8).1 d now _

theorem fireAgg_quiet (d : Dev) (now e inst val : Nat) (agg : List Nat)   :
    Quiet d (d.fireAgg now e inst val agg) := (fireN_quiet_all 8).1 d now _

theorem stageFree_quiet (d : Dev) (now kind code flags : Nat) (body : List Nat) :
    Quiet d (d.stageFree now kind code flags body) := by
  unfold Dev.stageFree
  split
  · exact stagePut_quiet _ _
  · exact Quiet.wr_rec d _ _ (by decide)

theorem stageLimited_quiet (d : Dev) (now kind code bucket : Nat) (body : List Nat) :
    Quiet d (d.stageLimited now kind code bucket body) := by
  unfold Dev.stageLimited
  split
  · dsimp only
    split
    · exact (drawToken_quiet _ _ _).trans (stagePut_quiet _ _)
    · exact (drawToken_quiet _ _ _).trans ((fireN_quiet_all 8).2.2.2 _ _)
  · exact Quiet.wr_rec d _ _ (by decide)

/-- A register outside the event registers reads as before. -/
theorem Quiet.rd {d e : Dev} (h : Quiet d e) (f : Field) (hf : ¬ EvtKey f.key) : e.rd f = d.rd f :=
  Dev.rd_congr d e f (h.2 f.key hf)

/-! ### The RAW bit of a firing stays set -/

theorem bitOf_mod (v i w : Nat) (h : i < w) : bitOf (v % 2 ^ w) i = bitOf v i := by
  have e : 2 ^ w = 2 ^ i * 2 ^ (w - i) := by rw [← pow_add]; congr 1; omega
  have e2 : 2 ^ (w - i) = 2 * 2 ^ (w - i - 1) := by rw [← pow_succ']; congr 1; omega
  unfold bitOf
  rw [e, Nat.mod_mul_right_div_self, e2, Nat.mod_mul_right_mod]

theorem bitOf_setBitOf_self (v i : Nat) : bitOf (setBitOf v i true) i = true := by
  unfold setBitOf
  by_cases h : bitOf v i = true
  · simp [h]
  · have h' : ¬ v / 2 ^ i % 2 = 1 := by simpa [bitOf] using h
    simp only [h, Bool.false_eq_true, beq_iff_eq, if_false, if_true]
    simp only [bitOf, Nat.add_div_right v (Nat.two_pow_pos i), beq_iff_eq]
    omega

theorem bitOf_setBitOf_keeps (v i j : Nat) (h : bitOf v j = true) : bitOf (setBitOf v i true) j = true := by
  unfold setBitOf
  by_cases hi : bitOf v i = true
  · simp [hi, h]
  · have hi' : ¬ v / 2 ^ i % 2 = 1 := by simpa [bitOf] using hi
    have hj : v / 2 ^ j % 2 = 1 := by simpa [bitOf] using h
    simp only [hi, Bool.false_eq_true, beq_iff_eq, if_false, if_true]
    simp only [bitOf, beq_iff_eq]
    rcases lt_trichotomy i j with hlt | rfl | hgt
    · have e : 2 ^ j = 2 ^ i * 2 * 2 ^ (j - i - 1) := by
        rw [← pow_succ, ← pow_add]
        congr 1
        omega
      rw [e, ← Nat.div_div_eq_div_mul, ← Nat.div_div_eq_div_mul] at hj ⊢
      rw [Nat.add_div_right v (Nat.two_pow_pos i)]
      have : (v / 2 ^ i).succ / 2 = v / 2 ^ i / 2 := by omega
      rw [this]
      exact hj
    · exact absurd hj hi'
    · have e : 2 ^ i = 2 ^ (i - j - 1) * 2 * 2 ^ j := by
        rw [← pow_succ, ← pow_add]
        congr 1
        omega
      rw [e, Nat.add_mul_div_right v _ (Nat.two_pow_pos j), Nat.add_mod, Nat.mul_mod_left, hj]

/-- A RAW bit of a page header that is set in `d` is set in `e`. -/
def RawKept (d e : Dev) : Prop :=
  ∀ b i, b % 0x1000 = 0 → i < 32 → bitOf (d.rd (HDR.PG_EVT_RAW b)) i = true → bitOf (e.rd (HDR.PG_EVT_RAW b)) i = true

theorem RawKept.refl (d : Dev) : RawKept d d := fun _ _ _ _ h => h

theorem RawKept.trans {a b c : Dev} (h : RawKept a b) (g : RawKept b c) : RawKept a c :=
  fun p i hp hi hb => g p i hp hi (h p i hp hi hb)

/-- A write of a register that is no RAW word keeps every RAW bit. -/
theorem RawKept.wr (d : Dev) (f : Field) (v : Nat) (h : f.key % 32 ≠ 0 ∨ f.key / 32 % 0x1000 ≠ 0x10) : RawKept d (d.wr f v) := by
  intro b i hb hi hs
  have hk : f.key ≠ (HDR.PG_EVT_RAW b).key := by
    intro e
    have : (HDR.PG_EVT_RAW b).key = 32 * (b + 0x10) := rfl
    rw [e, this] at h
    omega
  rwa [Dev.rd_wr_ne d v hk]

theorem RawKept.evh (d : Dev) (x : EvhBlk) : RawKept d { d with evh := x } := fun _ _ _ _ h => h
theorem RawKept.rec_ (d : Dev) (x : RecBlk) : RawKept d { d with rec_ := x } := fun _ _ _ _ h => h

theorem RawKept.each {α : Type} (d : Dev) (l : List α) (f : Dev → α → Dev) (h : ∀ d a, RawKept d (f d a)) :
    RawKept d (d.each l f) := by
  unfold Dev.each
  induction l generalizing d with
  | nil => exact RawKept.refl d
  | cons a l ih => exact (h d a).trans (ih (f d a))

theorem RawKept.raw (d : Dev) (b i : Nat) :
    RawKept d (d.wr (HDR.PG_EVT_RAW b) (setBitOf (d.rd (HDR.PG_EVT_RAW b)) i true)) := by
  intro p j hp hj hs
  by_cases hk : (HDR.PG_EVT_RAW b).key = (HDR.PG_EVT_RAW p).key
  · have hb : b = p := by
      have : 32 * (b + 0x10) + 0 = 32 * (p + 0x10) + 0 := hk
      omega
    subst hb
    rw [Dev.rd_wr_self]
    exact (bitOf_mod _ j 32 hj).trans (bitOf_setBitOf_keeps _ i j hs)
  · rwa [Dev.rd_wr_ne d _ hk]

/-- A firing's flags: its RAW bit is set. -/
theorem setFlags_raw (d : Dev) (now e inst : Nat) (h : (evtPage e inst).2 < 32) :
    bitOf ((d.setFlags now e inst).rd (HDR.PG_EVT_RAW (evtPage e inst).1)) (evtPage e inst).2 = true := by
  have h1 : bitOf ((d.wr (HDR.PG_EVT_RAW (evtPage e inst).1)
      (setBitOf (d.rd (HDR.PG_EVT_RAW (evtPage e inst).1)) (evtPage e inst).2 true)).rd
      (HDR.PG_EVT_RAW (evtPage e inst).1)) (evtPage e inst).2 = true := by
    rw [Dev.rd_wr_self]
    exact (bitOf_mod _ _ 32 h).trans (bitOf_setBitOf_self _ _)
  unfold Dev.setFlags
  dsimp only
  split
  · refine RawKept.trans (RawKept.wr _ _ _ ?_) (RawKept.each _ _ _ (fun d n => ?_)) _ _ (evtPage_base e inst).1 h h1
    · have := evtPage_base e inst
      simp only [Field.key, HDR.PG_EVT_PEND]
      omega
    · split
      · exact RawKept.evh d _
      · exact RawKept.refl d
  · exact h1

theorem setFlags_rawKept (d : Dev) (now e inst : Nat) : RawKept d (d.setFlags now e inst) := by
  unfold Dev.setFlags
  dsimp only
  split
  · refine (RawKept.raw d _ _).trans ((RawKept.wr _ _ _ ?_).trans (RawKept.each _ _ _ (fun d n => ?_)))
    · have := evtPage_base e inst
      simp only [Field.key, HDR.PG_EVT_PEND]
      omega
    · split
      · exact RawKept.evh d _
      · exact RawKept.refl d
  · exact RawKept.raw d _ _

theorem stagePut_rawKept (d : Dev) (mk : Dev → List Nat) : RawKept d (d.stagePut mk) := by
  unfold Dev.stagePut
  split
  · exact RawKept.wr d _ _ (by decide)
  · dsimp only
    split
    · exact RawKept.wr d _ _ (by decide)
    · exact (RawKept.rec_ d _).trans (RawKept.wr _ _ _ (by decide))

theorem drawToken_rawKept (d : Dev) (now k : Nat) : RawKept d (d.drawToken now k).2.2 := by
  unfold Dev.drawToken
  dsimp only
  split
  · exact RawKept.rec_ d _
  · exact (RawKept.rec_ d _).trans (RawKept.wr _ _ _ (by decide))

theorem stageDef_rawKept (d : Dev) (now s : Nat) : RawKept d (d.stageDef now s) := by
  unfold Dev.stageDef
  split
  · exact (RawKept.rec_ d _).trans (stagePut_rawKept _ _)
  · exact RawKept.refl d

theorem stageSnap_rawKept (d : Dev) (now kind code trig tick edata rl : Nat) (s? : Option Nat) :
    RawKept d (d.stageSnap now kind code trig tick edata rl s?) := by
  unfold Dev.stageSnap
  split
  · exact stagePut_rawKept _ _
  · exact (stageDef_rawKept _ _ _).trans (stagePut_rawKept _ _)

theorem queueEvent_rawKept (d : Dev) (port : Nat) (f : Firing) : RawKept d (d.queueEvent port f).2 := by
  unfold Dev.queueEvent
  dsimp only
  by_cases h : (if port = 0 then d.evh.queue0 else d.evh.queue1).length < 64
  · rw [if_pos h]
    exact RawKept.evh d _
  · rw [if_neg h]
    exact RawKept.wr d _ _ (by simp only [Field.key, EVH.KSP_DROP]; omega)

theorem fireN_succ_rawKept' (n : Nat) (hd : ∀ d now st f, RawKept d (Dev.deliverN n d now st f)) (d : Dev) (now : Nat)
    (f : Firing) : RawKept (d.setFlags now f.num (f.edata % 2 ^ 16)) (Dev.fireN (n + 1) d now f) := by
  simp only [Dev.fireN]
  generalize d.setFlags now f.num (f.edata % 2 ^ 16) = d1
  have tail : ∀ d2 : Dev, RawKept d2
      (if now < (tget d2.evh.limits f.num : RateLim).until_ then
        ({ d2 with evh :=
            { d2.evh with
              limits := tset d2.evh.limits f.num { (tget d2.evh.limits f.num : RateLim) with heldBack := some f } } } : Dev).bump
          (EVH.COAL (f.num % 256))
      else Dev.deliverN n d2 now now f) := by
    intro d2
    split
    · exact (RawKept.evh d2 _).trans (RawKept.wr _ _ _ (by simp only [Field.key, EVH.COAL]; omega))
    · exact hd _ _ _ _
  split
  · exact tail d1
  · split
    · exact (hd _ _ _ _).trans (tail _)
    · exact tail d1

theorem deliverN_succ_rawKept (n : Nat) (hf : ∀ d now f, RawKept d (Dev.fireN n d now f))
    (hr : ∀ d now f, RawKept d (Dev.recordN n d now f)) (d : Dev) (now st : Nat) (f : Firing) :
    RawKept d (Dev.deliverN (n + 1) d now st f) := by
  simp only [Dev.deliverN]
  refine (RawKept.evh d { d.evh with
    limits := if d.rd (EVH.RL_MS f.num) = 0 then tdel d.evh.limits f.num
      else tset d.evh.limits f.num { until_ := st + ms (d.rd (EVH.RL_MS f.num)), heldBack := none } }).trans ?_
  generalize ({ d with evh := { d.evh with
    limits := if d.rd (EVH.RL_MS f.num) = 0 then tdel d.evh.limits f.num
      else tset d.evh.limits f.num { until_ := st + ms (d.rd (EVH.RL_MS f.num)), heldBack := none } } } : Dev) = d1
  have h2 : ∀ (l : List Nat) (d0 : Dev), RawKept d0 (l.foldl (fun d port =>
      if ((d.queueEvent port f).1 || decide (f.num = EVT.EVH_OVERFLOW)) = true then (d.queueEvent port f).2
      else Dev.fireN n (d.queueEvent port f).2 now
        { num := EVT.EVH_OVERFLOW, edata := port, dt := nsOf now, tick := d.tickCnt now }) d0) := by
    intro l
    induction l with
    | nil => exact fun d0 => RawKept.refl d0
    | cons p l ihl =>
      intro d0
      simp only [List.foldl_cons]
      refine RawKept.trans ?_ (ihl _)
      split
      · exact queueEvent_rawKept _ _ _
      · exact (queueEvent_rawKept _ _ _).trans (hf _ _ _)
  split
  · split
    · exact (h2 _ _).trans (hr _ _ _)
    · exact h2 _ _
  · split
    · exact hr _ _ _
    · exact RawKept.refl _

theorem recordN_succ_rawKept (n : Nat) (hl : ∀ d now, RawKept d (Dev.rateLimitN n d now)) (d : Dev) (now : Nat) (f : Firing) :
    RawKept d (Dev.recordN (n + 1) d now f) := by
  simp only [Dev.recordN]
  split
  · exact RawKept.wr d _ _ (by decide)
  · have h1 : RawKept d (if (d.drawToken now f.num).1 = true then
        (d.drawToken now f.num).2.2.stageSnap now 0x01 f.num f.dt f.tick f.edata (d.drawToken now f.num).2.1
          ((d.drawToken now f.num).2.2.triggerSet f.num)
        else Dev.rateLimitN n (d.drawToken now f.num).2.2 now) := by
      split
      · exact (drawToken_rawKept _ _ _).trans (stageSnap_rawKept _ _ _ _ _ _ _ _ _)
      · exact (drawToken_rawKept _ _ _).trans (hl _ _)
    have tail : ∀ (d2 : Dev) (k : Nat) (mk : Dev → List Nat), RawKept d2
        (if (d2.drawToken now k).1 = true then (d2.drawToken now k).2.2.stagePut mk
          else Dev.rateLimitN n (d2.drawToken now k).2.2 now) := by
      intro d2 k mk
      split
      · exact (drawToken_rawKept d2 now k).trans (stagePut_rawKept _ _)
      · exact (drawToken_rawKept d2 now k).trans (hl _ _)
    split
    · exact h1
    · exact h1.trans (tail _ _ _)

theorem rateLimitN_succ_rawKept (n : Nat) (hf : ∀ d now f, RawKept d (Dev.fireN n d now f)) (d : Dev) (now : Nat) :
    RawKept d (Dev.rateLimitN (n + 1) d now) := by
  simp only [Dev.rateLimitN]
  have go : RawKept d (Dev.fireN n { d with rec_ := { d.rec_ with lastRateEvt := some now } } now
      { num := EVT.REC_RATE_LIMIT, edata := 0, dt := nsOf now, tick := d.tickCnt now }) :=
    (RawKept.rec_ d { d.rec_ with lastRateEvt := some now }).trans (hf _ _ _)
  split
  · exact go
  · split
    · exact go
    · exact RawKept.refl d

/-- Firings, deliveries, records and rate-limit events keep every RAW bit that is set. -/
theorem fireN_rawKept_all (fuel : Nat) :
    (∀ d now f, RawKept d (Dev.fireN fuel d now f)) ∧ (∀ d now st f, RawKept d (Dev.deliverN fuel d now st f)) ∧
    (∀ d now f, RawKept d (Dev.recordN fuel d now f)) ∧ (∀ d now, RawKept d (Dev.rateLimitN fuel d now)) := by
  induction fuel with
  | zero =>
    refine ⟨fun d now f => ?_, fun d now st f => ?_, fun d now f => ?_, fun d now => ?_⟩
    · simpa only [Dev.fireN] using setFlags_rawKept _ _ _ _
    · simpa only [Dev.deliverN] using RawKept.refl d
    · simpa only [Dev.recordN] using RawKept.refl d
    · simpa only [Dev.rateLimitN] using RawKept.refl d
  | succ n ih =>
    exact ⟨fun d now f => (setFlags_rawKept d now f.num _).trans (fireN_succ_rawKept' n ih.2.1 d now f),
      deliverN_succ_rawKept n ih.1 ih.2.2.1, recordN_succ_rawKept n ih.2.2.2, rateLimitN_succ_rawKept n ih.1⟩

/-- A firing leaves the RAW bit of its event set (R474). -/
theorem fire_raw (d : Dev) (now e inst val : Nat) (hi : inst < 2 ^ 16) (h : (evtPage e inst).2 < 32) :
    bitOf ((d.fire now e inst val).rd (HDR.PG_EVT_RAW (evtPage e inst).1)) (evtPage e inst).2 = true := by
  have he : (inst % 2 ^ 16 + 2 ^ 16 * (val % 2 ^ 16)) % 2 ^ 16 = inst := by omega
  have hk := fireN_succ_rawKept' 7 (fireN_rawKept_all 7).2.1 d now
    { num := e, edata := inst % 2 ^ 16 + 2 ^ 16 * (val % 2 ^ 16), dt := nsOf now, tick := d.tickCnt now }
  simp only [he] at hk
  exact hk _ _ (evtPage_base e inst).1 h (setFlags_raw d now e inst h)

end Sys2Proof.Machine
end

