-- ==== Sys2Proof/Laws/State.lean ====
section
/-! SUPPORT. One lemma for each field of the block and each update of the register file: the update leaves the field as it
is. The same for the latch of T0, a firing and a recorder record. -/

namespace Sys2Proof.Machine


/-! ### `Dev.wr` -/

@[simp] theorem Dev.wr_pend (d : Dev) (f : Field) (v : Nat) : (d.wr f v).pend = d.pend := rfl
@[simp] theorem Dev.wr_mem (d : Dev) (f : Field) (v : Nat) : (d.wr f v).mem = d.mem := rfl
@[simp] theorem Dev.wr_t0 (d : Dev) (f : Field) (v : Nat) : (d.wr f v).t0 = d.t0 := rfl
@[simp] theorem Dev.wr_t0For (d : Dev) (f : Field) (v : Nat) : (d.wr f v).t0For = d.t0For := rfl
@[simp] theorem Dev.wr_t0Pwm (d : Dev) (f : Field) (v : Nat) : (d.wr f v).t0Pwm = d.t0Pwm := rfl
@[simp] theorem Dev.wr_cuts (d : Dev) (f : Field) (v : Nat) : (d.wr f v).cuts = d.cuts := rfl
@[simp] theorem Dev.wr_sys (d : Dev) (f : Field) (v : Nat) : (d.wr f v).sys = d.sys := rfl
@[simp] theorem Dev.wr_hif (d : Dev) (f : Field) (v : Nat) : (d.wr f v).hif = d.hif := rfl
@[simp] theorem Dev.wr_evh (d : Dev) (f : Field) (v : Nat) : (d.wr f v).evh = d.evh := rfl
@[simp] theorem Dev.wr_rec_ (d : Dev) (f : Field) (v : Nat) : (d.wr f v).rec_ = d.rec_ := rfl
@[simp] theorem Dev.wr_cntAct (d : Dev) (f : Field) (v : Nat) : (d.wr f v).cntAct = d.cntAct := rfl
@[simp] theorem Dev.wr_tst (d : Dev) (f : Field) (v : Nat) : (d.wr f v).tst = d.tst := rfl
@[simp] theorem Dev.wr_geo (d : Dev) (f : Field) (v : Nat) : (d.wr f v).geo = d.geo := rfl
@[simp] theorem Dev.wr_cov (d : Dev) (f : Field) (v : Nat) : (d.wr f v).cov = d.cov := rfl
@[simp] theorem Dev.wr_tpl (d : Dev) (f : Field) (v : Nat) : (d.wr f v).tpl = d.tpl := rfl
@[simp] theorem Dev.wr_dec (d : Dev) (f : Field) (v : Nat) : (d.wr f v).dec = d.dec := rfl
@[simp] theorem Dev.wr_rate (d : Dev) (f : Field) (v : Nat) : (d.wr f v).rate = d.rate := rfl
@[simp] theorem Dev.wr_pose (d : Dev) (f : Field) (v : Nat) : (d.wr f v).pose = d.pose := rfl
@[simp] theorem Dev.wr_ssp (d : Dev) (f : Field) (v : Nat) : (d.wr f v).ssp = d.ssp := rfl
@[simp] theorem Dev.wr_gnss (d : Dev) (f : Field) (v : Nat) : (d.wr f v).gnss = d.gnss := rfl
@[simp] theorem Dev.wr_time (d : Dev) (f : Field) (v : Nat) : (d.wr f v).time = d.time := rfl
@[simp] theorem Dev.wr_t0Ssp (d : Dev) (f : Field) (v : Nat) : (d.wr f v).t0Ssp = d.t0Ssp := rfl
@[simp] theorem Dev.wr_t0Fbk (d : Dev) (f : Field) (v : Nat) : (d.wr f v).t0Fbk = d.t0Fbk := rfl
@[simp] theorem Dev.wr_fbk (d : Dev) (f : Field) (v : Nat) : (d.wr f v).fbk = d.fbk := rfl
@[simp] theorem Dev.wr_ksp (d : Dev) (f : Field) (v : Nat) : (d.wr f v).ksp = d.ksp := rfl
@[simp] theorem Dev.wr_pair (d : Dev) (f : Field) (v : Nat) : (d.wr f v).pair = d.pair := rfl
@[simp] theorem Dev.wr_idc (d : Dev) (f : Field) (v : Nat) : (d.wr f v).idc = d.idc := rfl
@[simp] theorem Dev.wr_idcB (d : Dev) (f : Field) (v : Nat) : (d.wr f v).idcB = d.idcB := rfl
@[simp] theorem Dev.wr_vnp (d : Dev) (f : Field) (v : Nat) : (d.wr f v).vnp = d.vnp := rfl
@[simp] theorem Dev.wr_can (d : Dev) (f : Field) (v : Nat) : (d.wr f v).can = d.can := rfl
@[simp] theorem Dev.wr_lsw (d : Dev) (f : Field) (v : Nat) : (d.wr f v).lsw = d.lsw := rfl
@[simp] theorem Dev.wr_wdg (d : Dev) (f : Field) (v : Nat) : (d.wr f v).wdg = d.wdg := rfl
@[simp] theorem Dev.wr_pwm (d : Dev) (f : Field) (v : Nat) : (d.wr f v).pwm = d.pwm := rfl
@[simp] theorem Dev.wr_grid (d : Dev) (f : Field) (v : Nat) : (d.wr f v).grid = d.grid := rfl
@[simp] theorem Dev.wr_cal (d : Dev) (f : Field) (v : Nat) : (d.wr f v).cal = d.cal := rfl
@[simp] theorem Dev.wr_pwr (d : Dev) (f : Field) (v : Nat) : (d.wr f v).pwr = d.pwr := rfl
@[simp] theorem Dev.wr_mram (d : Dev) (f : Field) (v : Nat) : (d.wr f v).mram = d.mram := rfl
@[simp] theorem Dev.wr_freeCtr (d : Dev) (f : Field) (v : Nat) : (d.wr f v).freeCtr = d.freeCtr := rfl

/-! ### `Dev.wrB` -/

@[simp] theorem Dev.wrB_pend (d : Dev) (f : Field) (v : Bool) : (d.wrB f v).pend = d.pend := rfl
@[simp] theorem Dev.wrB_mem (d : Dev) (f : Field) (v : Bool) : (d.wrB f v).mem = d.mem := rfl
@[simp] theorem Dev.wrB_t0 (d : Dev) (f : Field) (v : Bool) : (d.wrB f v).t0 = d.t0 := rfl
@[simp] theorem Dev.wrB_t0For (d : Dev) (f : Field) (v : Bool) : (d.wrB f v).t0For = d.t0For := rfl
@[simp] theorem Dev.wrB_t0Pwm (d : Dev) (f : Field) (v : Bool) : (d.wrB f v).t0Pwm = d.t0Pwm := rfl
@[simp] theorem Dev.wrB_cuts (d : Dev) (f : Field) (v : Bool) : (d.wrB f v).cuts = d.cuts := rfl
@[simp] theorem Dev.wrB_sys (d : Dev) (f : Field) (v : Bool) : (d.wrB f v).sys = d.sys := rfl
@[simp] theorem Dev.wrB_hif (d : Dev) (f : Field) (v : Bool) : (d.wrB f v).hif = d.hif := rfl
@[simp] theorem Dev.wrB_evh (d : Dev) (f : Field) (v : Bool) : (d.wrB f v).evh = d.evh := rfl
@[simp] theorem Dev.wrB_rec_ (d : Dev) (f : Field) (v : Bool) : (d.wrB f v).rec_ = d.rec_ := rfl
@[simp] theorem Dev.wrB_cntAct (d : Dev) (f : Field) (v : Bool) : (d.wrB f v).cntAct = d.cntAct := rfl
@[simp] theorem Dev.wrB_tst (d : Dev) (f : Field) (v : Bool) : (d.wrB f v).tst = d.tst := rfl
@[simp] theorem Dev.wrB_geo (d : Dev) (f : Field) (v : Bool) : (d.wrB f v).geo = d.geo := rfl
@[simp] theorem Dev.wrB_cov (d : Dev) (f : Field) (v : Bool) : (d.wrB f v).cov = d.cov := rfl
@[simp] theorem Dev.wrB_tpl (d : Dev) (f : Field) (v : Bool) : (d.wrB f v).tpl = d.tpl := rfl
@[simp] theorem Dev.wrB_dec (d : Dev) (f : Field) (v : Bool) : (d.wrB f v).dec = d.dec := rfl
@[simp] theorem Dev.wrB_rate (d : Dev) (f : Field) (v : Bool) : (d.wrB f v).rate = d.rate := rfl
@[simp] theorem Dev.wrB_pose (d : Dev) (f : Field) (v : Bool) : (d.wrB f v).pose = d.pose := rfl
@[simp] theorem Dev.wrB_ssp (d : Dev) (f : Field) (v : Bool) : (d.wrB f v).ssp = d.ssp := rfl
@[simp] theorem Dev.wrB_gnss (d : Dev) (f : Field) (v : Bool) : (d.wrB f v).gnss = d.gnss := rfl
@[simp] theorem Dev.wrB_time (d : Dev) (f : Field) (v : Bool) : (d.wrB f v).time = d.time := rfl
@[simp] theorem Dev.wrB_t0Ssp (d : Dev) (f : Field) (v : Bool) : (d.wrB f v).t0Ssp = d.t0Ssp := rfl
@[simp] theorem Dev.wrB_t0Fbk (d : Dev) (f : Field) (v : Bool) : (d.wrB f v).t0Fbk = d.t0Fbk := rfl
@[simp] theorem Dev.wrB_fbk (d : Dev) (f : Field) (v : Bool) : (d.wrB f v).fbk = d.fbk := rfl
@[simp] theorem Dev.wrB_ksp (d : Dev) (f : Field) (v : Bool) : (d.wrB f v).ksp = d.ksp := rfl
@[simp] theorem Dev.wrB_pair (d : Dev) (f : Field) (v : Bool) : (d.wrB f v).pair = d.pair := rfl
@[simp] theorem Dev.wrB_idc (d : Dev) (f : Field) (v : Bool) : (d.wrB f v).idc = d.idc := rfl
@[simp] theorem Dev.wrB_idcB (d : Dev) (f : Field) (v : Bool) : (d.wrB f v).idcB = d.idcB := rfl
@[simp] theorem Dev.wrB_vnp (d : Dev) (f : Field) (v : Bool) : (d.wrB f v).vnp = d.vnp := rfl
@[simp] theorem Dev.wrB_can (d : Dev) (f : Field) (v : Bool) : (d.wrB f v).can = d.can := rfl
@[simp] theorem Dev.wrB_lsw (d : Dev) (f : Field) (v : Bool) : (d.wrB f v).lsw = d.lsw := rfl
@[simp] theorem Dev.wrB_wdg (d : Dev) (f : Field) (v : Bool) : (d.wrB f v).wdg = d.wdg := rfl
@[simp] theorem Dev.wrB_pwm (d : Dev) (f : Field) (v : Bool) : (d.wrB f v).pwm = d.pwm := rfl
@[simp] theorem Dev.wrB_grid (d : Dev) (f : Field) (v : Bool) : (d.wrB f v).grid = d.grid := rfl
@[simp] theorem Dev.wrB_cal (d : Dev) (f : Field) (v : Bool) : (d.wrB f v).cal = d.cal := rfl
@[simp] theorem Dev.wrB_pwr (d : Dev) (f : Field) (v : Bool) : (d.wrB f v).pwr = d.pwr := rfl
@[simp] theorem Dev.wrB_mram (d : Dev) (f : Field) (v : Bool) : (d.wrB f v).mram = d.mram := rfl
@[simp] theorem Dev.wrB_freeCtr (d : Dev) (f : Field) (v : Bool) : (d.wrB f v).freeCtr = d.freeCtr := rfl

/-! ### `Dev.wrS` -/

@[simp] theorem Dev.wrS_pend (d : Dev) (f : Field) (v : Int) : (d.wrS f v).pend = d.pend := rfl
@[simp] theorem Dev.wrS_mem (d : Dev) (f : Field) (v : Int) : (d.wrS f v).mem = d.mem := rfl
@[simp] theorem Dev.wrS_t0 (d : Dev) (f : Field) (v : Int) : (d.wrS f v).t0 = d.t0 := rfl
@[simp] theorem Dev.wrS_t0For (d : Dev) (f : Field) (v : Int) : (d.wrS f v).t0For = d.t0For := rfl
@[simp] theorem Dev.wrS_t0Pwm (d : Dev) (f : Field) (v : Int) : (d.wrS f v).t0Pwm = d.t0Pwm := rfl
@[simp] theorem Dev.wrS_cuts (d : Dev) (f : Field) (v : Int) : (d.wrS f v).cuts = d.cuts := rfl
@[simp] theorem Dev.wrS_sys (d : Dev) (f : Field) (v : Int) : (d.wrS f v).sys = d.sys := rfl
@[simp] theorem Dev.wrS_hif (d : Dev) (f : Field) (v : Int) : (d.wrS f v).hif = d.hif := rfl
@[simp] theorem Dev.wrS_evh (d : Dev) (f : Field) (v : Int) : (d.wrS f v).evh = d.evh := rfl
@[simp] theorem Dev.wrS_rec_ (d : Dev) (f : Field) (v : Int) : (d.wrS f v).rec_ = d.rec_ := rfl
@[simp] theorem Dev.wrS_cntAct (d : Dev) (f : Field) (v : Int) : (d.wrS f v).cntAct = d.cntAct := rfl
@[simp] theorem Dev.wrS_tst (d : Dev) (f : Field) (v : Int) : (d.wrS f v).tst = d.tst := rfl
@[simp] theorem Dev.wrS_geo (d : Dev) (f : Field) (v : Int) : (d.wrS f v).geo = d.geo := rfl
@[simp] theorem Dev.wrS_cov (d : Dev) (f : Field) (v : Int) : (d.wrS f v).cov = d.cov := rfl
@[simp] theorem Dev.wrS_tpl (d : Dev) (f : Field) (v : Int) : (d.wrS f v).tpl = d.tpl := rfl
@[simp] theorem Dev.wrS_dec (d : Dev) (f : Field) (v : Int) : (d.wrS f v).dec = d.dec := rfl
@[simp] theorem Dev.wrS_rate (d : Dev) (f : Field) (v : Int) : (d.wrS f v).rate = d.rate := rfl
@[simp] theorem Dev.wrS_pose (d : Dev) (f : Field) (v : Int) : (d.wrS f v).pose = d.pose := rfl
@[simp] theorem Dev.wrS_ssp (d : Dev) (f : Field) (v : Int) : (d.wrS f v).ssp = d.ssp := rfl
@[simp] theorem Dev.wrS_gnss (d : Dev) (f : Field) (v : Int) : (d.wrS f v).gnss = d.gnss := rfl
@[simp] theorem Dev.wrS_time (d : Dev) (f : Field) (v : Int) : (d.wrS f v).time = d.time := rfl
@[simp] theorem Dev.wrS_t0Ssp (d : Dev) (f : Field) (v : Int) : (d.wrS f v).t0Ssp = d.t0Ssp := rfl
@[simp] theorem Dev.wrS_t0Fbk (d : Dev) (f : Field) (v : Int) : (d.wrS f v).t0Fbk = d.t0Fbk := rfl
@[simp] theorem Dev.wrS_fbk (d : Dev) (f : Field) (v : Int) : (d.wrS f v).fbk = d.fbk := rfl
@[simp] theorem Dev.wrS_ksp (d : Dev) (f : Field) (v : Int) : (d.wrS f v).ksp = d.ksp := rfl
@[simp] theorem Dev.wrS_pair (d : Dev) (f : Field) (v : Int) : (d.wrS f v).pair = d.pair := rfl
@[simp] theorem Dev.wrS_idc (d : Dev) (f : Field) (v : Int) : (d.wrS f v).idc = d.idc := rfl
@[simp] theorem Dev.wrS_idcB (d : Dev) (f : Field) (v : Int) : (d.wrS f v).idcB = d.idcB := rfl
@[simp] theorem Dev.wrS_vnp (d : Dev) (f : Field) (v : Int) : (d.wrS f v).vnp = d.vnp := rfl
@[simp] theorem Dev.wrS_can (d : Dev) (f : Field) (v : Int) : (d.wrS f v).can = d.can := rfl
@[simp] theorem Dev.wrS_lsw (d : Dev) (f : Field) (v : Int) : (d.wrS f v).lsw = d.lsw := rfl
@[simp] theorem Dev.wrS_wdg (d : Dev) (f : Field) (v : Int) : (d.wrS f v).wdg = d.wdg := rfl
@[simp] theorem Dev.wrS_pwm (d : Dev) (f : Field) (v : Int) : (d.wrS f v).pwm = d.pwm := rfl
@[simp] theorem Dev.wrS_grid (d : Dev) (f : Field) (v : Int) : (d.wrS f v).grid = d.grid := rfl
@[simp] theorem Dev.wrS_cal (d : Dev) (f : Field) (v : Int) : (d.wrS f v).cal = d.cal := rfl
@[simp] theorem Dev.wrS_pwr (d : Dev) (f : Field) (v : Int) : (d.wrS f v).pwr = d.pwr := rfl
@[simp] theorem Dev.wrS_mram (d : Dev) (f : Field) (v : Int) : (d.wrS f v).mram = d.mram := rfl
@[simp] theorem Dev.wrS_freeCtr (d : Dev) (f : Field) (v : Int) : (d.wrS f v).freeCtr = d.freeCtr := rfl

/-! ### `Dev.wrU` -/

@[simp] theorem Dev.wrU_pend (d : Dev) (f : Field) (v : Int) : (d.wrU f v).pend = d.pend := rfl
@[simp] theorem Dev.wrU_mem (d : Dev) (f : Field) (v : Int) : (d.wrU f v).mem = d.mem := rfl
@[simp] theorem Dev.wrU_t0 (d : Dev) (f : Field) (v : Int) : (d.wrU f v).t0 = d.t0 := rfl
@[simp] theorem Dev.wrU_t0For (d : Dev) (f : Field) (v : Int) : (d.wrU f v).t0For = d.t0For := rfl
@[simp] theorem Dev.wrU_t0Pwm (d : Dev) (f : Field) (v : Int) : (d.wrU f v).t0Pwm = d.t0Pwm := rfl
@[simp] theorem Dev.wrU_cuts (d : Dev) (f : Field) (v : Int) : (d.wrU f v).cuts = d.cuts := rfl
@[simp] theorem Dev.wrU_sys (d : Dev) (f : Field) (v : Int) : (d.wrU f v).sys = d.sys := rfl
@[simp] theorem Dev.wrU_hif (d : Dev) (f : Field) (v : Int) : (d.wrU f v).hif = d.hif := rfl
@[simp] theorem Dev.wrU_evh (d : Dev) (f : Field) (v : Int) : (d.wrU f v).evh = d.evh := rfl
@[simp] theorem Dev.wrU_rec_ (d : Dev) (f : Field) (v : Int) : (d.wrU f v).rec_ = d.rec_ := rfl
@[simp] theorem Dev.wrU_cntAct (d : Dev) (f : Field) (v : Int) : (d.wrU f v).cntAct = d.cntAct := rfl
@[simp] theorem Dev.wrU_tst (d : Dev) (f : Field) (v : Int) : (d.wrU f v).tst = d.tst := rfl
@[simp] theorem Dev.wrU_geo (d : Dev) (f : Field) (v : Int) : (d.wrU f v).geo = d.geo := rfl
@[simp] theorem Dev.wrU_cov (d : Dev) (f : Field) (v : Int) : (d.wrU f v).cov = d.cov := rfl
@[simp] theorem Dev.wrU_tpl (d : Dev) (f : Field) (v : Int) : (d.wrU f v).tpl = d.tpl := rfl
@[simp] theorem Dev.wrU_dec (d : Dev) (f : Field) (v : Int) : (d.wrU f v).dec = d.dec := rfl
@[simp] theorem Dev.wrU_rate (d : Dev) (f : Field) (v : Int) : (d.wrU f v).rate = d.rate := rfl
@[simp] theorem Dev.wrU_pose (d : Dev) (f : Field) (v : Int) : (d.wrU f v).pose = d.pose := rfl
@[simp] theorem Dev.wrU_ssp (d : Dev) (f : Field) (v : Int) : (d.wrU f v).ssp = d.ssp := rfl
@[simp] theorem Dev.wrU_gnss (d : Dev) (f : Field) (v : Int) : (d.wrU f v).gnss = d.gnss := rfl
@[simp] theorem Dev.wrU_time (d : Dev) (f : Field) (v : Int) : (d.wrU f v).time = d.time := rfl
@[simp] theorem Dev.wrU_t0Ssp (d : Dev) (f : Field) (v : Int) : (d.wrU f v).t0Ssp = d.t0Ssp := rfl
@[simp] theorem Dev.wrU_t0Fbk (d : Dev) (f : Field) (v : Int) : (d.wrU f v).t0Fbk = d.t0Fbk := rfl
@[simp] theorem Dev.wrU_fbk (d : Dev) (f : Field) (v : Int) : (d.wrU f v).fbk = d.fbk := rfl
@[simp] theorem Dev.wrU_ksp (d : Dev) (f : Field) (v : Int) : (d.wrU f v).ksp = d.ksp := rfl
@[simp] theorem Dev.wrU_pair (d : Dev) (f : Field) (v : Int) : (d.wrU f v).pair = d.pair := rfl
@[simp] theorem Dev.wrU_idc (d : Dev) (f : Field) (v : Int) : (d.wrU f v).idc = d.idc := rfl
@[simp] theorem Dev.wrU_idcB (d : Dev) (f : Field) (v : Int) : (d.wrU f v).idcB = d.idcB := rfl
@[simp] theorem Dev.wrU_vnp (d : Dev) (f : Field) (v : Int) : (d.wrU f v).vnp = d.vnp := rfl
@[simp] theorem Dev.wrU_can (d : Dev) (f : Field) (v : Int) : (d.wrU f v).can = d.can := rfl
@[simp] theorem Dev.wrU_lsw (d : Dev) (f : Field) (v : Int) : (d.wrU f v).lsw = d.lsw := rfl
@[simp] theorem Dev.wrU_wdg (d : Dev) (f : Field) (v : Int) : (d.wrU f v).wdg = d.wdg := rfl
@[simp] theorem Dev.wrU_pwm (d : Dev) (f : Field) (v : Int) : (d.wrU f v).pwm = d.pwm := rfl
@[simp] theorem Dev.wrU_grid (d : Dev) (f : Field) (v : Int) : (d.wrU f v).grid = d.grid := rfl
@[simp] theorem Dev.wrU_cal (d : Dev) (f : Field) (v : Int) : (d.wrU f v).cal = d.cal := rfl
@[simp] theorem Dev.wrU_pwr (d : Dev) (f : Field) (v : Int) : (d.wrU f v).pwr = d.pwr := rfl
@[simp] theorem Dev.wrU_mram (d : Dev) (f : Field) (v : Int) : (d.wrU f v).mram = d.mram := rfl
@[simp] theorem Dev.wrU_freeCtr (d : Dev) (f : Field) (v : Int) : (d.wrU f v).freeCtr = d.freeCtr := rfl

/-! ### `Dev.add` -/

@[simp] theorem Dev.add_pend (d : Dev) (f : Field) (v : Nat) : (d.add f v).pend = d.pend := rfl
@[simp] theorem Dev.add_mem (d : Dev) (f : Field) (v : Nat) : (d.add f v).mem = d.mem := rfl
@[simp] theorem Dev.add_t0 (d : Dev) (f : Field) (v : Nat) : (d.add f v).t0 = d.t0 := rfl
@[simp] theorem Dev.add_t0For (d : Dev) (f : Field) (v : Nat) : (d.add f v).t0For = d.t0For := rfl
@[simp] theorem Dev.add_t0Pwm (d : Dev) (f : Field) (v : Nat) : (d.add f v).t0Pwm = d.t0Pwm := rfl
@[simp] theorem Dev.add_cuts (d : Dev) (f : Field) (v : Nat) : (d.add f v).cuts = d.cuts := rfl
@[simp] theorem Dev.add_sys (d : Dev) (f : Field) (v : Nat) : (d.add f v).sys = d.sys := rfl
@[simp] theorem Dev.add_hif (d : Dev) (f : Field) (v : Nat) : (d.add f v).hif = d.hif := rfl
@[simp] theorem Dev.add_evh (d : Dev) (f : Field) (v : Nat) : (d.add f v).evh = d.evh := rfl
@[simp] theorem Dev.add_rec_ (d : Dev) (f : Field) (v : Nat) : (d.add f v).rec_ = d.rec_ := rfl
@[simp] theorem Dev.add_cntAct (d : Dev) (f : Field) (v : Nat) : (d.add f v).cntAct = d.cntAct := rfl
@[simp] theorem Dev.add_tst (d : Dev) (f : Field) (v : Nat) : (d.add f v).tst = d.tst := rfl
@[simp] theorem Dev.add_geo (d : Dev) (f : Field) (v : Nat) : (d.add f v).geo = d.geo := rfl
@[simp] theorem Dev.add_cov (d : Dev) (f : Field) (v : Nat) : (d.add f v).cov = d.cov := rfl
@[simp] theorem Dev.add_tpl (d : Dev) (f : Field) (v : Nat) : (d.add f v).tpl = d.tpl := rfl
@[simp] theorem Dev.add_dec (d : Dev) (f : Field) (v : Nat) : (d.add f v).dec = d.dec := rfl
@[simp] theorem Dev.add_rate (d : Dev) (f : Field) (v : Nat) : (d.add f v).rate = d.rate := rfl
@[simp] theorem Dev.add_pose (d : Dev) (f : Field) (v : Nat) : (d.add f v).pose = d.pose := rfl
@[simp] theorem Dev.add_ssp (d : Dev) (f : Field) (v : Nat) : (d.add f v).ssp = d.ssp := rfl
@[simp] theorem Dev.add_gnss (d : Dev) (f : Field) (v : Nat) : (d.add f v).gnss = d.gnss := rfl
@[simp] theorem Dev.add_time (d : Dev) (f : Field) (v : Nat) : (d.add f v).time = d.time := rfl
@[simp] theorem Dev.add_t0Ssp (d : Dev) (f : Field) (v : Nat) : (d.add f v).t0Ssp = d.t0Ssp := rfl
@[simp] theorem Dev.add_t0Fbk (d : Dev) (f : Field) (v : Nat) : (d.add f v).t0Fbk = d.t0Fbk := rfl
@[simp] theorem Dev.add_fbk (d : Dev) (f : Field) (v : Nat) : (d.add f v).fbk = d.fbk := rfl
@[simp] theorem Dev.add_ksp (d : Dev) (f : Field) (v : Nat) : (d.add f v).ksp = d.ksp := rfl
@[simp] theorem Dev.add_pair (d : Dev) (f : Field) (v : Nat) : (d.add f v).pair = d.pair := rfl
@[simp] theorem Dev.add_idc (d : Dev) (f : Field) (v : Nat) : (d.add f v).idc = d.idc := rfl
@[simp] theorem Dev.add_idcB (d : Dev) (f : Field) (v : Nat) : (d.add f v).idcB = d.idcB := rfl
@[simp] theorem Dev.add_vnp (d : Dev) (f : Field) (v : Nat) : (d.add f v).vnp = d.vnp := rfl
@[simp] theorem Dev.add_can (d : Dev) (f : Field) (v : Nat) : (d.add f v).can = d.can := rfl
@[simp] theorem Dev.add_lsw (d : Dev) (f : Field) (v : Nat) : (d.add f v).lsw = d.lsw := rfl
@[simp] theorem Dev.add_wdg (d : Dev) (f : Field) (v : Nat) : (d.add f v).wdg = d.wdg := rfl
@[simp] theorem Dev.add_pwm (d : Dev) (f : Field) (v : Nat) : (d.add f v).pwm = d.pwm := rfl
@[simp] theorem Dev.add_grid (d : Dev) (f : Field) (v : Nat) : (d.add f v).grid = d.grid := rfl
@[simp] theorem Dev.add_cal (d : Dev) (f : Field) (v : Nat) : (d.add f v).cal = d.cal := rfl
@[simp] theorem Dev.add_pwr (d : Dev) (f : Field) (v : Nat) : (d.add f v).pwr = d.pwr := rfl
@[simp] theorem Dev.add_mram (d : Dev) (f : Field) (v : Nat) : (d.add f v).mram = d.mram := rfl
@[simp] theorem Dev.add_freeCtr (d : Dev) (f : Field) (v : Nat) : (d.add f v).freeCtr = d.freeCtr := rfl

/-! ### `Dev.bump` -/

@[simp] theorem Dev.bump_pend (d : Dev) (f : Field) : (d.bump f).pend = d.pend := rfl
@[simp] theorem Dev.bump_mem (d : Dev) (f : Field) : (d.bump f).mem = d.mem := rfl
@[simp] theorem Dev.bump_t0 (d : Dev) (f : Field) : (d.bump f).t0 = d.t0 := rfl
@[simp] theorem Dev.bump_t0For (d : Dev) (f : Field) : (d.bump f).t0For = d.t0For := rfl
@[simp] theorem Dev.bump_t0Pwm (d : Dev) (f : Field) : (d.bump f).t0Pwm = d.t0Pwm := rfl
@[simp] theorem Dev.bump_cuts (d : Dev) (f : Field) : (d.bump f).cuts = d.cuts := rfl
@[simp] theorem Dev.bump_sys (d : Dev) (f : Field) : (d.bump f).sys = d.sys := rfl
@[simp] theorem Dev.bump_hif (d : Dev) (f : Field) : (d.bump f).hif = d.hif := rfl
@[simp] theorem Dev.bump_evh (d : Dev) (f : Field) : (d.bump f).evh = d.evh := rfl
@[simp] theorem Dev.bump_rec_ (d : Dev) (f : Field) : (d.bump f).rec_ = d.rec_ := rfl
@[simp] theorem Dev.bump_cntAct (d : Dev) (f : Field) : (d.bump f).cntAct = d.cntAct := rfl
@[simp] theorem Dev.bump_tst (d : Dev) (f : Field) : (d.bump f).tst = d.tst := rfl
@[simp] theorem Dev.bump_geo (d : Dev) (f : Field) : (d.bump f).geo = d.geo := rfl
@[simp] theorem Dev.bump_cov (d : Dev) (f : Field) : (d.bump f).cov = d.cov := rfl
@[simp] theorem Dev.bump_tpl (d : Dev) (f : Field) : (d.bump f).tpl = d.tpl := rfl
@[simp] theorem Dev.bump_dec (d : Dev) (f : Field) : (d.bump f).dec = d.dec := rfl
@[simp] theorem Dev.bump_rate (d : Dev) (f : Field) : (d.bump f).rate = d.rate := rfl
@[simp] theorem Dev.bump_pose (d : Dev) (f : Field) : (d.bump f).pose = d.pose := rfl
@[simp] theorem Dev.bump_ssp (d : Dev) (f : Field) : (d.bump f).ssp = d.ssp := rfl
@[simp] theorem Dev.bump_gnss (d : Dev) (f : Field) : (d.bump f).gnss = d.gnss := rfl
@[simp] theorem Dev.bump_time (d : Dev) (f : Field) : (d.bump f).time = d.time := rfl
@[simp] theorem Dev.bump_t0Ssp (d : Dev) (f : Field) : (d.bump f).t0Ssp = d.t0Ssp := rfl
@[simp] theorem Dev.bump_t0Fbk (d : Dev) (f : Field) : (d.bump f).t0Fbk = d.t0Fbk := rfl
@[simp] theorem Dev.bump_fbk (d : Dev) (f : Field) : (d.bump f).fbk = d.fbk := rfl
@[simp] theorem Dev.bump_ksp (d : Dev) (f : Field) : (d.bump f).ksp = d.ksp := rfl
@[simp] theorem Dev.bump_pair (d : Dev) (f : Field) : (d.bump f).pair = d.pair := rfl
@[simp] theorem Dev.bump_idc (d : Dev) (f : Field) : (d.bump f).idc = d.idc := rfl
@[simp] theorem Dev.bump_idcB (d : Dev) (f : Field) : (d.bump f).idcB = d.idcB := rfl
@[simp] theorem Dev.bump_vnp (d : Dev) (f : Field) : (d.bump f).vnp = d.vnp := rfl
@[simp] theorem Dev.bump_can (d : Dev) (f : Field) : (d.bump f).can = d.can := rfl
@[simp] theorem Dev.bump_lsw (d : Dev) (f : Field) : (d.bump f).lsw = d.lsw := rfl
@[simp] theorem Dev.bump_wdg (d : Dev) (f : Field) : (d.bump f).wdg = d.wdg := rfl
@[simp] theorem Dev.bump_pwm (d : Dev) (f : Field) : (d.bump f).pwm = d.pwm := rfl
@[simp] theorem Dev.bump_grid (d : Dev) (f : Field) : (d.bump f).grid = d.grid := rfl
@[simp] theorem Dev.bump_cal (d : Dev) (f : Field) : (d.bump f).cal = d.cal := rfl
@[simp] theorem Dev.bump_pwr (d : Dev) (f : Field) : (d.bump f).pwr = d.pwr := rfl
@[simp] theorem Dev.bump_mram (d : Dev) (f : Field) : (d.bump f).mram = d.mram := rfl
@[simp] theorem Dev.bump_freeCtr (d : Dev) (f : Field) : (d.bump f).freeCtr = d.freeCtr := rfl

/-! ### `Dev.captureT0` -/

@[simp] theorem Dev.captureT0_regs (d : Dev) (now : Nat) : (d.captureT0 now).regs = d.regs := by unfold Dev.captureT0; split; (split <;> rfl); rfl
@[simp] theorem Dev.captureT0_pend (d : Dev) (now : Nat) : (d.captureT0 now).pend = d.pend := by unfold Dev.captureT0; split; (split <;> rfl); rfl
@[simp] theorem Dev.captureT0_mem (d : Dev) (now : Nat) : (d.captureT0 now).mem = d.mem := by unfold Dev.captureT0; split; (split <;> rfl); rfl
@[simp] theorem Dev.captureT0_sys (d : Dev) (now : Nat) : (d.captureT0 now).sys = d.sys := by unfold Dev.captureT0; split; (split <;> rfl); rfl
@[simp] theorem Dev.captureT0_hif (d : Dev) (now : Nat) : (d.captureT0 now).hif = d.hif := by unfold Dev.captureT0; split; (split <;> rfl); rfl
@[simp] theorem Dev.captureT0_evh (d : Dev) (now : Nat) : (d.captureT0 now).evh = d.evh := by unfold Dev.captureT0; split; (split <;> rfl); rfl
@[simp] theorem Dev.captureT0_rec_ (d : Dev) (now : Nat) : (d.captureT0 now).rec_ = d.rec_ := by unfold Dev.captureT0; split; (split <;> rfl); rfl
@[simp] theorem Dev.captureT0_cntAct (d : Dev) (now : Nat) : (d.captureT0 now).cntAct = d.cntAct := by unfold Dev.captureT0; split; (split <;> rfl); rfl
@[simp] theorem Dev.captureT0_tst (d : Dev) (now : Nat) : (d.captureT0 now).tst = d.tst := by unfold Dev.captureT0; split; (split <;> rfl); rfl
@[simp] theorem Dev.captureT0_geo (d : Dev) (now : Nat) : (d.captureT0 now).geo = d.geo := by unfold Dev.captureT0; split; (split <;> rfl); rfl
@[simp] theorem Dev.captureT0_cov (d : Dev) (now : Nat) : (d.captureT0 now).cov = d.cov := by unfold Dev.captureT0; split; (split <;> rfl); rfl
@[simp] theorem Dev.captureT0_tpl (d : Dev) (now : Nat) : (d.captureT0 now).tpl = d.tpl := by unfold Dev.captureT0; split; (split <;> rfl); rfl
@[simp] theorem Dev.captureT0_dec (d : Dev) (now : Nat) : (d.captureT0 now).dec = d.dec := by unfold Dev.captureT0; split; (split <;> rfl); rfl
@[simp] theorem Dev.captureT0_rate (d : Dev) (now : Nat) : (d.captureT0 now).rate = d.rate := by unfold Dev.captureT0; split; (split <;> rfl); rfl
@[simp] theorem Dev.captureT0_pose (d : Dev) (now : Nat) : (d.captureT0 now).pose = d.pose := by unfold Dev.captureT0; split; (split <;> rfl); rfl
@[simp] theorem Dev.captureT0_ssp (d : Dev) (now : Nat) : (d.captureT0 now).ssp = d.ssp := by unfold Dev.captureT0; split; (split <;> rfl); rfl
@[simp] theorem Dev.captureT0_gnss (d : Dev) (now : Nat) : (d.captureT0 now).gnss = d.gnss := by unfold Dev.captureT0; split; (split <;> rfl); rfl
@[simp] theorem Dev.captureT0_time (d : Dev) (now : Nat) : (d.captureT0 now).time = d.time := by unfold Dev.captureT0; split; (split <;> rfl); rfl
@[simp] theorem Dev.captureT0_fbk (d : Dev) (now : Nat) : (d.captureT0 now).fbk = d.fbk := by unfold Dev.captureT0; split; (split <;> rfl); rfl
@[simp] theorem Dev.captureT0_ksp (d : Dev) (now : Nat) : (d.captureT0 now).ksp = d.ksp := by unfold Dev.captureT0; split; (split <;> rfl); rfl
@[simp] theorem Dev.captureT0_pair (d : Dev) (now : Nat) : (d.captureT0 now).pair = d.pair := by unfold Dev.captureT0; split; (split <;> rfl); rfl
@[simp] theorem Dev.captureT0_idc (d : Dev) (now : Nat) : (d.captureT0 now).idc = d.idc := by unfold Dev.captureT0; split; (split <;> rfl); rfl
@[simp] theorem Dev.captureT0_idcB (d : Dev) (now : Nat) : (d.captureT0 now).idcB = d.idcB := by unfold Dev.captureT0; split; (split <;> rfl); rfl
@[simp] theorem Dev.captureT0_vnp (d : Dev) (now : Nat) : (d.captureT0 now).vnp = d.vnp := by unfold Dev.captureT0; split; (split <;> rfl); rfl
@[simp] theorem Dev.captureT0_can (d : Dev) (now : Nat) : (d.captureT0 now).can = d.can := by unfold Dev.captureT0; split; (split <;> rfl); rfl
@[simp] theorem Dev.captureT0_lsw (d : Dev) (now : Nat) : (d.captureT0 now).lsw = d.lsw := by unfold Dev.captureT0; split; (split <;> rfl); rfl
@[simp] theorem Dev.captureT0_wdg (d : Dev) (now : Nat) : (d.captureT0 now).wdg = d.wdg := by unfold Dev.captureT0; split; (split <;> rfl); rfl
@[simp] theorem Dev.captureT0_pwm (d : Dev) (now : Nat) : (d.captureT0 now).pwm = d.pwm := by unfold Dev.captureT0; split; (split <;> rfl); rfl
@[simp] theorem Dev.captureT0_grid (d : Dev) (now : Nat) : (d.captureT0 now).grid = d.grid := by unfold Dev.captureT0; split; (split <;> rfl); rfl
@[simp] theorem Dev.captureT0_cal (d : Dev) (now : Nat) : (d.captureT0 now).cal = d.cal := by unfold Dev.captureT0; split; (split <;> rfl); rfl
@[simp] theorem Dev.captureT0_pwr (d : Dev) (now : Nat) : (d.captureT0 now).pwr = d.pwr := by unfold Dev.captureT0; split; (split <;> rfl); rfl
@[simp] theorem Dev.captureT0_mram (d : Dev) (now : Nat) : (d.captureT0 now).mram = d.mram := by unfold Dev.captureT0; split; (split <;> rfl); rfl
@[simp] theorem Dev.captureT0_freeCtr (d : Dev) (now : Nat) : (d.captureT0 now).freeCtr = d.freeCtr := by unfold Dev.captureT0; split; (split <;> rfl); rfl

/-! ### `Dev.fire` -/

@[simp] theorem Dev.fire_pend (d : Dev) (now e i v : Nat) : (d.fire now e i v).pend = d.pend := (congrArg Dev.pend (fire_quiet d now e i v).1 :)
@[simp] theorem Dev.fire_mem (d : Dev) (now e i v : Nat) : (d.fire now e i v).mem = d.mem := (congrArg Dev.mem (fire_quiet d now e i v).1 :)
@[simp] theorem Dev.fire_t0 (d : Dev) (now e i v : Nat) : (d.fire now e i v).t0 = d.t0 := (congrArg Dev.t0 (fire_quiet d now e i v).1 :)
@[simp] theorem Dev.fire_t0For (d : Dev) (now e i v : Nat) : (d.fire now e i v).t0For = d.t0For := (congrArg Dev.t0For (fire_quiet d now e i v).1 :)
@[simp] theorem Dev.fire_t0Pwm (d : Dev) (now e i v : Nat) : (d.fire now e i v).t0Pwm = d.t0Pwm := (congrArg Dev.t0Pwm (fire_quiet d now e i v).1 :)
@[simp] theorem Dev.fire_cuts (d : Dev) (now e i v : Nat) : (d.fire now e i v).cuts = d.cuts := (congrArg Dev.cuts (fire_quiet d now e i v).1 :)
@[simp] theorem Dev.fire_sys (d : Dev) (now e i v : Nat) : (d.fire now e i v).sys = d.sys := (congrArg Dev.sys (fire_quiet d now e i v).1 :)
@[simp] theorem Dev.fire_hif (d : Dev) (now e i v : Nat) : (d.fire now e i v).hif = d.hif := (congrArg Dev.hif (fire_quiet d now e i v).1 :)
@[simp] theorem Dev.fire_cntAct (d : Dev) (now e i v : Nat) : (d.fire now e i v).cntAct = d.cntAct := (congrArg Dev.cntAct (fire_quiet d now e i v).1 :)
@[simp] theorem Dev.fire_tst (d : Dev) (now e i v : Nat) : (d.fire now e i v).tst = d.tst := (congrArg Dev.tst (fire_quiet d now e i v).1 :)
@[simp] theorem Dev.fire_geo (d : Dev) (now e i v : Nat) : (d.fire now e i v).geo = d.geo := (congrArg Dev.geo (fire_quiet d now e i v).1 :)
@[simp] theorem Dev.fire_cov (d : Dev) (now e i v : Nat) : (d.fire now e i v).cov = d.cov := (congrArg Dev.cov (fire_quiet d now e i v).1 :)
@[simp] theorem Dev.fire_tpl (d : Dev) (now e i v : Nat) : (d.fire now e i v).tpl = d.tpl := (congrArg Dev.tpl (fire_quiet d now e i v).1 :)
@[simp] theorem Dev.fire_dec (d : Dev) (now e i v : Nat) : (d.fire now e i v).dec = d.dec := (congrArg Dev.dec (fire_quiet d now e i v).1 :)
@[simp] theorem Dev.fire_rate (d : Dev) (now e i v : Nat) : (d.fire now e i v).rate = d.rate := (congrArg Dev.rate (fire_quiet d now e i v).1 :)
@[simp] theorem Dev.fire_pose (d : Dev) (now e i v : Nat) : (d.fire now e i v).pose = d.pose := (congrArg Dev.pose (fire_quiet d now e i v).1 :)
@[simp] theorem Dev.fire_ssp (d : Dev) (now e i v : Nat) : (d.fire now e i v).ssp = d.ssp := (congrArg Dev.ssp (fire_quiet d now e i v).1 :)
@[simp] theorem Dev.fire_gnss (d : Dev) (now e i v : Nat) : (d.fire now e i v).gnss = d.gnss := (congrArg Dev.gnss (fire_quiet d now e i v).1 :)
@[simp] theorem Dev.fire_time (d : Dev) (now e i v : Nat) : (d.fire now e i v).time = d.time := (congrArg Dev.time (fire_quiet d now e i v).1 :)
@[simp] theorem Dev.fire_t0Ssp (d : Dev) (now e i v : Nat) : (d.fire now e i v).t0Ssp = d.t0Ssp := (congrArg Dev.t0Ssp (fire_quiet d now e i v).1 :)
@[simp] theorem Dev.fire_t0Fbk (d : Dev) (now e i v : Nat) : (d.fire now e i v).t0Fbk = d.t0Fbk := (congrArg Dev.t0Fbk (fire_quiet d now e i v).1 :)
@[simp] theorem Dev.fire_fbk (d : Dev) (now e i v : Nat) : (d.fire now e i v).fbk = d.fbk := (congrArg Dev.fbk (fire_quiet d now e i v).1 :)
@[simp] theorem Dev.fire_ksp (d : Dev) (now e i v : Nat) : (d.fire now e i v).ksp = d.ksp := (congrArg Dev.ksp (fire_quiet d now e i v).1 :)
@[simp] theorem Dev.fire_pair (d : Dev) (now e i v : Nat) : (d.fire now e i v).pair = d.pair := (congrArg Dev.pair (fire_quiet d now e i v).1 :)
@[simp] theorem Dev.fire_idc (d : Dev) (now e i v : Nat) : (d.fire now e i v).idc = d.idc := (congrArg Dev.idc (fire_quiet d now e i v).1 :)
@[simp] theorem Dev.fire_idcB (d : Dev) (now e i v : Nat) : (d.fire now e i v).idcB = d.idcB := (congrArg Dev.idcB (fire_quiet d now e i v).1 :)
@[simp] theorem Dev.fire_vnp (d : Dev) (now e i v : Nat) : (d.fire now e i v).vnp = d.vnp := (congrArg Dev.vnp (fire_quiet d now e i v).1 :)
@[simp] theorem Dev.fire_can (d : Dev) (now e i v : Nat) : (d.fire now e i v).can = d.can := (congrArg Dev.can (fire_quiet d now e i v).1 :)
@[simp] theorem Dev.fire_lsw (d : Dev) (now e i v : Nat) : (d.fire now e i v).lsw = d.lsw := (congrArg Dev.lsw (fire_quiet d now e i v).1 :)
@[simp] theorem Dev.fire_wdg (d : Dev) (now e i v : Nat) : (d.fire now e i v).wdg = d.wdg := (congrArg Dev.wdg (fire_quiet d now e i v).1 :)
@[simp] theorem Dev.fire_pwm (d : Dev) (now e i v : Nat) : (d.fire now e i v).pwm = d.pwm := (congrArg Dev.pwm (fire_quiet d now e i v).1 :)
@[simp] theorem Dev.fire_grid (d : Dev) (now e i v : Nat) : (d.fire now e i v).grid = d.grid := (congrArg Dev.grid (fire_quiet d now e i v).1 :)
@[simp] theorem Dev.fire_cal (d : Dev) (now e i v : Nat) : (d.fire now e i v).cal = d.cal := (congrArg Dev.cal (fire_quiet d now e i v).1 :)
@[simp] theorem Dev.fire_pwr (d : Dev) (now e i v : Nat) : (d.fire now e i v).pwr = d.pwr := (congrArg Dev.pwr (fire_quiet d now e i v).1 :)
@[simp] theorem Dev.fire_mram (d : Dev) (now e i v : Nat) : (d.fire now e i v).mram = d.mram := (congrArg Dev.mram (fire_quiet d now e i v).1 :)
@[simp] theorem Dev.fire_freeCtr (d : Dev) (now e i v : Nat) : (d.fire now e i v).freeCtr = d.freeCtr := (congrArg Dev.freeCtr (fire_quiet d now e i v).1 :)
theorem Dev.rd_fire (d : Dev) (now e i v : Nat) (f : Field) (h : ¬ EvtKey f.key) : (d.fire now e i v).rd f = d.rd f := (fire_quiet d now e i v).rd f h

/-! ### `Dev.fireAgg` -/

@[simp] theorem Dev.fireAgg_pend (d : Dev) (now e i v : Nat) (g : List Nat) : (d.fireAgg now e i v g).pend = d.pend := (congrArg Dev.pend (fireAgg_quiet d now e i v g).1 :)
@[simp] theorem Dev.fireAgg_mem (d : Dev) (now e i v : Nat) (g : List Nat) : (d.fireAgg now e i v g).mem = d.mem := (congrArg Dev.mem (fireAgg_quiet d now e i v g).1 :)
@[simp] theorem Dev.fireAgg_t0 (d : Dev) (now e i v : Nat) (g : List Nat) : (d.fireAgg now e i v g).t0 = d.t0 := (congrArg Dev.t0 (fireAgg_quiet d now e i v g).1 :)
@[simp] theorem Dev.fireAgg_t0For (d : Dev) (now e i v : Nat) (g : List Nat) : (d.fireAgg now e i v g).t0For = d.t0For := (congrArg Dev.t0For (fireAgg_quiet d now e i v g).1 :)
@[simp] theorem Dev.fireAgg_t0Pwm (d : Dev) (now e i v : Nat) (g : List Nat) : (d.fireAgg now e i v g).t0Pwm = d.t0Pwm := (congrArg Dev.t0Pwm (fireAgg_quiet d now e i v g).1 :)
@[simp] theorem Dev.fireAgg_cuts (d : Dev) (now e i v : Nat) (g : List Nat) : (d.fireAgg now e i v g).cuts = d.cuts := (congrArg Dev.cuts (fireAgg_quiet d now e i v g).1 :)
@[simp] theorem Dev.fireAgg_sys (d : Dev) (now e i v : Nat) (g : List Nat) : (d.fireAgg now e i v g).sys = d.sys := (congrArg Dev.sys (fireAgg_quiet d now e i v g).1 :)
@[simp] theorem Dev.fireAgg_hif (d : Dev) (now e i v : Nat) (g : List Nat) : (d.fireAgg now e i v g).hif = d.hif := (congrArg Dev.hif (fireAgg_quiet d now e i v g).1 :)
@[simp] theorem Dev.fireAgg_cntAct (d : Dev) (now e i v : Nat) (g : List Nat) : (d.fireAgg now e i v g).cntAct = d.cntAct := (congrArg Dev.cntAct (fireAgg_quiet d now e i v g).1 :)
@[simp] theorem Dev.fireAgg_tst (d : Dev) (now e i v : Nat) (g : List Nat) : (d.fireAgg now e i v g).tst = d.tst := (congrArg Dev.tst (fireAgg_quiet d now e i v g).1 :)
@[simp] theorem Dev.fireAgg_geo (d : Dev) (now e i v : Nat) (g : List Nat) : (d.fireAgg now e i v g).geo = d.geo := (congrArg Dev.geo (fireAgg_quiet d now e i v g).1 :)
@[simp] theorem Dev.fireAgg_cov (d : Dev) (now e i v : Nat) (g : List Nat) : (d.fireAgg now e i v g).cov = d.cov := (congrArg Dev.cov (fireAgg_quiet d now e i v g).1 :)
@[simp] theorem Dev.fireAgg_tpl (d : Dev) (now e i v : Nat) (g : List Nat) : (d.fireAgg now e i v g).tpl = d.tpl := (congrArg Dev.tpl (fireAgg_quiet d now e i v g).1 :)
@[simp] theorem Dev.fireAgg_dec (d : Dev) (now e i v : Nat) (g : List Nat) : (d.fireAgg now e i v g).dec = d.dec := (congrArg Dev.dec (fireAgg_quiet d now e i v g).1 :)
@[simp] theorem Dev.fireAgg_rate (d : Dev) (now e i v : Nat) (g : List Nat) : (d.fireAgg now e i v g).rate = d.rate := (congrArg Dev.rate (fireAgg_quiet d now e i v g).1 :)
@[simp] theorem Dev.fireAgg_pose (d : Dev) (now e i v : Nat) (g : List Nat) : (d.fireAgg now e i v g).pose = d.pose := (congrArg Dev.pose (fireAgg_quiet d now e i v g).1 :)
@[simp] theorem Dev.fireAgg_ssp (d : Dev) (now e i v : Nat) (g : List Nat) : (d.fireAgg now e i v g).ssp = d.ssp := (congrArg Dev.ssp (fireAgg_quiet d now e i v g).1 :)
@[simp] theorem Dev.fireAgg_gnss (d : Dev) (now e i v : Nat) (g : List Nat) : (d.fireAgg now e i v g).gnss = d.gnss := (congrArg Dev.gnss (fireAgg_quiet d now e i v g).1 :)
@[simp] theorem Dev.fireAgg_time (d : Dev) (now e i v : Nat) (g : List Nat) : (d.fireAgg now e i v g).time = d.time := (congrArg Dev.time (fireAgg_quiet d now e i v g).1 :)
@[simp] theorem Dev.fireAgg_t0Ssp (d : Dev) (now e i v : Nat) (g : List Nat) : (d.fireAgg now e i v g).t0Ssp = d.t0Ssp := (congrArg Dev.t0Ssp (fireAgg_quiet d now e i v g).1 :)
@[simp] theorem Dev.fireAgg_t0Fbk (d : Dev) (now e i v : Nat) (g : List Nat) : (d.fireAgg now e i v g).t0Fbk = d.t0Fbk := (congrArg Dev.t0Fbk (fireAgg_quiet d now e i v g).1 :)
@[simp] theorem Dev.fireAgg_fbk (d : Dev) (now e i v : Nat) (g : List Nat) : (d.fireAgg now e i v g).fbk = d.fbk := (congrArg Dev.fbk (fireAgg_quiet d now e i v g).1 :)
@[simp] theorem Dev.fireAgg_ksp (d : Dev) (now e i v : Nat) (g : List Nat) : (d.fireAgg now e i v g).ksp = d.ksp := (congrArg Dev.ksp (fireAgg_quiet d now e i v g).1 :)
@[simp] theorem Dev.fireAgg_pair (d : Dev) (now e i v : Nat) (g : List Nat) : (d.fireAgg now e i v g).pair = d.pair := (congrArg Dev.pair (fireAgg_quiet d now e i v g).1 :)
@[simp] theorem Dev.fireAgg_idc (d : Dev) (now e i v : Nat) (g : List Nat) : (d.fireAgg now e i v g).idc = d.idc := (congrArg Dev.idc (fireAgg_quiet d now e i v g).1 :)
@[simp] theorem Dev.fireAgg_idcB (d : Dev) (now e i v : Nat) (g : List Nat) : (d.fireAgg now e i v g).idcB = d.idcB := (congrArg Dev.idcB (fireAgg_quiet d now e i v g).1 :)
@[simp] theorem Dev.fireAgg_vnp (d : Dev) (now e i v : Nat) (g : List Nat) : (d.fireAgg now e i v g).vnp = d.vnp := (congrArg Dev.vnp (fireAgg_quiet d now e i v g).1 :)
@[simp] theorem Dev.fireAgg_can (d : Dev) (now e i v : Nat) (g : List Nat) : (d.fireAgg now e i v g).can = d.can := (congrArg Dev.can (fireAgg_quiet d now e i v g).1 :)
@[simp] theorem Dev.fireAgg_lsw (d : Dev) (now e i v : Nat) (g : List Nat) : (d.fireAgg now e i v g).lsw = d.lsw := (congrArg Dev.lsw (fireAgg_quiet d now e i v g).1 :)
@[simp] theorem Dev.fireAgg_wdg (d : Dev) (now e i v : Nat) (g : List Nat) : (d.fireAgg now e i v g).wdg = d.wdg := (congrArg Dev.wdg (fireAgg_quiet d now e i v g).1 :)
@[simp] theorem Dev.fireAgg_pwm (d : Dev) (now e i v : Nat) (g : List Nat) : (d.fireAgg now e i v g).pwm = d.pwm := (congrArg Dev.pwm (fireAgg_quiet d now e i v g).1 :)
@[simp] theorem Dev.fireAgg_grid (d : Dev) (now e i v : Nat) (g : List Nat) : (d.fireAgg now e i v g).grid = d.grid := (congrArg Dev.grid (fireAgg_quiet d now e i v g).1 :)
@[simp] theorem Dev.fireAgg_cal (d : Dev) (now e i v : Nat) (g : List Nat) : (d.fireAgg now e i v g).cal = d.cal := (congrArg Dev.cal (fireAgg_quiet d now e i v g).1 :)
@[simp] theorem Dev.fireAgg_pwr (d : Dev) (now e i v : Nat) (g : List Nat) : (d.fireAgg now e i v g).pwr = d.pwr := (congrArg Dev.pwr (fireAgg_quiet d now e i v g).1 :)
@[simp] theorem Dev.fireAgg_mram (d : Dev) (now e i v : Nat) (g : List Nat) : (d.fireAgg now e i v g).mram = d.mram := (congrArg Dev.mram (fireAgg_quiet d now e i v g).1 :)
@[simp] theorem Dev.fireAgg_freeCtr (d : Dev) (now e i v : Nat) (g : List Nat) : (d.fireAgg now e i v g).freeCtr = d.freeCtr := (congrArg Dev.freeCtr (fireAgg_quiet d now e i v g).1 :)
theorem Dev.rd_fireAgg (d : Dev) (now e i v : Nat) (g : List Nat) (f : Field) (h : ¬ EvtKey f.key) : (d.fireAgg now e i v g).rd f = d.rd f := (fireAgg_quiet d now e i v g).rd f h

/-! ### `Dev.stageFree` -/

@[simp] theorem Dev.stageFree_pend (d : Dev) (now k c g : Nat) (b : List Nat) : (d.stageFree now k c g b).pend = d.pend := (congrArg Dev.pend (stageFree_quiet d now k c g b).1 :)
@[simp] theorem Dev.stageFree_mem (d : Dev) (now k c g : Nat) (b : List Nat) : (d.stageFree now k c g b).mem = d.mem := (congrArg Dev.mem (stageFree_quiet d now k c g b).1 :)
@[simp] theorem Dev.stageFree_t0 (d : Dev) (now k c g : Nat) (b : List Nat) : (d.stageFree now k c g b).t0 = d.t0 := (congrArg Dev.t0 (stageFree_quiet d now k c g b).1 :)
@[simp] theorem Dev.stageFree_t0For (d : Dev) (now k c g : Nat) (b : List Nat) : (d.stageFree now k c g b).t0For = d.t0For := (congrArg Dev.t0For (stageFree_quiet d now k c g b).1 :)
@[simp] theorem Dev.stageFree_t0Pwm (d : Dev) (now k c g : Nat) (b : List Nat) : (d.stageFree now k c g b).t0Pwm = d.t0Pwm := (congrArg Dev.t0Pwm (stageFree_quiet d now k c g b).1 :)
@[simp] theorem Dev.stageFree_cuts (d : Dev) (now k c g : Nat) (b : List Nat) : (d.stageFree now k c g b).cuts = d.cuts := (congrArg Dev.cuts (stageFree_quiet d now k c g b).1 :)
@[simp] theorem Dev.stageFree_sys (d : Dev) (now k c g : Nat) (b : List Nat) : (d.stageFree now k c g b).sys = d.sys := (congrArg Dev.sys (stageFree_quiet d now k c g b).1 :)
@[simp] theorem Dev.stageFree_hif (d : Dev) (now k c g : Nat) (b : List Nat) : (d.stageFree now k c g b).hif = d.hif := (congrArg Dev.hif (stageFree_quiet d now k c g b).1 :)
@[simp] theorem Dev.stageFree_cntAct (d : Dev) (now k c g : Nat) (b : List Nat) : (d.stageFree now k c g b).cntAct = d.cntAct := (congrArg Dev.cntAct (stageFree_quiet d now k c g b).1 :)
@[simp] theorem Dev.stageFree_tst (d : Dev) (now k c g : Nat) (b : List Nat) : (d.stageFree now k c g b).tst = d.tst := (congrArg Dev.tst (stageFree_quiet d now k c g b).1 :)
@[simp] theorem Dev.stageFree_geo (d : Dev) (now k c g : Nat) (b : List Nat) : (d.stageFree now k c g b).geo = d.geo := (congrArg Dev.geo (stageFree_quiet d now k c g b).1 :)
@[simp] theorem Dev.stageFree_cov (d : Dev) (now k c g : Nat) (b : List Nat) : (d.stageFree now k c g b).cov = d.cov := (congrArg Dev.cov (stageFree_quiet d now k c g b).1 :)
@[simp] theorem Dev.stageFree_tpl (d : Dev) (now k c g : Nat) (b : List Nat) : (d.stageFree now k c g b).tpl = d.tpl := (congrArg Dev.tpl (stageFree_quiet d now k c g b).1 :)
@[simp] theorem Dev.stageFree_dec (d : Dev) (now k c g : Nat) (b : List Nat) : (d.stageFree now k c g b).dec = d.dec := (congrArg Dev.dec (stageFree_quiet d now k c g b).1 :)
@[simp] theorem Dev.stageFree_rate (d : Dev) (now k c g : Nat) (b : List Nat) : (d.stageFree now k c g b).rate = d.rate := (congrArg Dev.rate (stageFree_quiet d now k c g b).1 :)
@[simp] theorem Dev.stageFree_pose (d : Dev) (now k c g : Nat) (b : List Nat) : (d.stageFree now k c g b).pose = d.pose := (congrArg Dev.pose (stageFree_quiet d now k c g b).1 :)
@[simp] theorem Dev.stageFree_ssp (d : Dev) (now k c g : Nat) (b : List Nat) : (d.stageFree now k c g b).ssp = d.ssp := (congrArg Dev.ssp (stageFree_quiet d now k c g b).1 :)
@[simp] theorem Dev.stageFree_gnss (d : Dev) (now k c g : Nat) (b : List Nat) : (d.stageFree now k c g b).gnss = d.gnss := (congrArg Dev.gnss (stageFree_quiet d now k c g b).1 :)
@[simp] theorem Dev.stageFree_time (d : Dev) (now k c g : Nat) (b : List Nat) : (d.stageFree now k c g b).time = d.time := (congrArg Dev.time (stageFree_quiet d now k c g b).1 :)
@[simp] theorem Dev.stageFree_t0Ssp (d : Dev) (now k c g : Nat) (b : List Nat) : (d.stageFree now k c g b).t0Ssp = d.t0Ssp := (congrArg Dev.t0Ssp (stageFree_quiet d now k c g b).1 :)
@[simp] theorem Dev.stageFree_t0Fbk (d : Dev) (now k c g : Nat) (b : List Nat) : (d.stageFree now k c g b).t0Fbk = d.t0Fbk := (congrArg Dev.t0Fbk (stageFree_quiet d now k c g b).1 :)
@[simp] theorem Dev.stageFree_fbk (d : Dev) (now k c g : Nat) (b : List Nat) : (d.stageFree now k c g b).fbk = d.fbk := (congrArg Dev.fbk (stageFree_quiet d now k c g b).1 :)
@[simp] theorem Dev.stageFree_ksp (d : Dev) (now k c g : Nat) (b : List Nat) : (d.stageFree now k c g b).ksp = d.ksp := (congrArg Dev.ksp (stageFree_quiet d now k c g b).1 :)
@[simp] theorem Dev.stageFree_pair (d : Dev) (now k c g : Nat) (b : List Nat) : (d.stageFree now k c g b).pair = d.pair := (congrArg Dev.pair (stageFree_quiet d now k c g b).1 :)
@[simp] theorem Dev.stageFree_idc (d : Dev) (now k c g : Nat) (b : List Nat) : (d.stageFree now k c g b).idc = d.idc := (congrArg Dev.idc (stageFree_quiet d now k c g b).1 :)
@[simp] theorem Dev.stageFree_idcB (d : Dev) (now k c g : Nat) (b : List Nat) : (d.stageFree now k c g b).idcB = d.idcB := (congrArg Dev.idcB (stageFree_quiet d now k c g b).1 :)
@[simp] theorem Dev.stageFree_vnp (d : Dev) (now k c g : Nat) (b : List Nat) : (d.stageFree now k c g b).vnp = d.vnp := (congrArg Dev.vnp (stageFree_quiet d now k c g b).1 :)
@[simp] theorem Dev.stageFree_can (d : Dev) (now k c g : Nat) (b : List Nat) : (d.stageFree now k c g b).can = d.can := (congrArg Dev.can (stageFree_quiet d now k c g b).1 :)
@[simp] theorem Dev.stageFree_lsw (d : Dev) (now k c g : Nat) (b : List Nat) : (d.stageFree now k c g b).lsw = d.lsw := (congrArg Dev.lsw (stageFree_quiet d now k c g b).1 :)
@[simp] theorem Dev.stageFree_wdg (d : Dev) (now k c g : Nat) (b : List Nat) : (d.stageFree now k c g b).wdg = d.wdg := (congrArg Dev.wdg (stageFree_quiet d now k c g b).1 :)
@[simp] theorem Dev.stageFree_pwm (d : Dev) (now k c g : Nat) (b : List Nat) : (d.stageFree now k c g b).pwm = d.pwm := (congrArg Dev.pwm (stageFree_quiet d now k c g b).1 :)
@[simp] theorem Dev.stageFree_grid (d : Dev) (now k c g : Nat) (b : List Nat) : (d.stageFree now k c g b).grid = d.grid := (congrArg Dev.grid (stageFree_quiet d now k c g b).1 :)
@[simp] theorem Dev.stageFree_cal (d : Dev) (now k c g : Nat) (b : List Nat) : (d.stageFree now k c g b).cal = d.cal := (congrArg Dev.cal (stageFree_quiet d now k c g b).1 :)
@[simp] theorem Dev.stageFree_pwr (d : Dev) (now k c g : Nat) (b : List Nat) : (d.stageFree now k c g b).pwr = d.pwr := (congrArg Dev.pwr (stageFree_quiet d now k c g b).1 :)
@[simp] theorem Dev.stageFree_mram (d : Dev) (now k c g : Nat) (b : List Nat) : (d.stageFree now k c g b).mram = d.mram := (congrArg Dev.mram (stageFree_quiet d now k c g b).1 :)
@[simp] theorem Dev.stageFree_freeCtr (d : Dev) (now k c g : Nat) (b : List Nat) : (d.stageFree now k c g b).freeCtr = d.freeCtr := (congrArg Dev.freeCtr (stageFree_quiet d now k c g b).1 :)
theorem Dev.rd_stageFree (d : Dev) (now k c g : Nat) (b : List Nat) (f : Field) (h : ¬ EvtKey f.key) : (d.stageFree now k c g b).rd f = d.rd f := (stageFree_quiet d now k c g b).rd f h

/-! ### `Dev.stageLimited` -/

@[simp] theorem Dev.stageLimited_pend (d : Dev) (now k c u : Nat) (b : List Nat) : (d.stageLimited now k c u b).pend = d.pend := (congrArg Dev.pend (stageLimited_quiet d now k c u b).1 :)
@[simp] theorem Dev.stageLimited_mem (d : Dev) (now k c u : Nat) (b : List Nat) : (d.stageLimited now k c u b).mem = d.mem := (congrArg Dev.mem (stageLimited_quiet d now k c u b).1 :)
@[simp] theorem Dev.stageLimited_t0 (d : Dev) (now k c u : Nat) (b : List Nat) : (d.stageLimited now k c u b).t0 = d.t0 := (congrArg Dev.t0 (stageLimited_quiet d now k c u b).1 :)
@[simp] theorem Dev.stageLimited_t0For (d : Dev) (now k c u : Nat) (b : List Nat) : (d.stageLimited now k c u b).t0For = d.t0For := (congrArg Dev.t0For (stageLimited_quiet d now k c u b).1 :)
@[simp] theorem Dev.stageLimited_t0Pwm (d : Dev) (now k c u : Nat) (b : List Nat) : (d.stageLimited now k c u b).t0Pwm = d.t0Pwm := (congrArg Dev.t0Pwm (stageLimited_quiet d now k c u b).1 :)
@[simp] theorem Dev.stageLimited_cuts (d : Dev) (now k c u : Nat) (b : List Nat) : (d.stageLimited now k c u b).cuts = d.cuts := (congrArg Dev.cuts (stageLimited_quiet d now k c u b).1 :)
@[simp] theorem Dev.stageLimited_sys (d : Dev) (now k c u : Nat) (b : List Nat) : (d.stageLimited now k c u b).sys = d.sys := (congrArg Dev.sys (stageLimited_quiet d now k c u b).1 :)
@[simp] theorem Dev.stageLimited_hif (d : Dev) (now k c u : Nat) (b : List Nat) : (d.stageLimited now k c u b).hif = d.hif := (congrArg Dev.hif (stageLimited_quiet d now k c u b).1 :)
@[simp] theorem Dev.stageLimited_cntAct (d : Dev) (now k c u : Nat) (b : List Nat) : (d.stageLimited now k c u b).cntAct = d.cntAct := (congrArg Dev.cntAct (stageLimited_quiet d now k c u b).1 :)
@[simp] theorem Dev.stageLimited_tst (d : Dev) (now k c u : Nat) (b : List Nat) : (d.stageLimited now k c u b).tst = d.tst := (congrArg Dev.tst (stageLimited_quiet d now k c u b).1 :)
@[simp] theorem Dev.stageLimited_geo (d : Dev) (now k c u : Nat) (b : List Nat) : (d.stageLimited now k c u b).geo = d.geo := (congrArg Dev.geo (stageLimited_quiet d now k c u b).1 :)
@[simp] theorem Dev.stageLimited_cov (d : Dev) (now k c u : Nat) (b : List Nat) : (d.stageLimited now k c u b).cov = d.cov := (congrArg Dev.cov (stageLimited_quiet d now k c u b).1 :)
@[simp] theorem Dev.stageLimited_tpl (d : Dev) (now k c u : Nat) (b : List Nat) : (d.stageLimited now k c u b).tpl = d.tpl := (congrArg Dev.tpl (stageLimited_quiet d now k c u b).1 :)
@[simp] theorem Dev.stageLimited_dec (d : Dev) (now k c u : Nat) (b : List Nat) : (d.stageLimited now k c u b).dec = d.dec := (congrArg Dev.dec (stageLimited_quiet d now k c u b).1 :)
@[simp] theorem Dev.stageLimited_rate (d : Dev) (now k c u : Nat) (b : List Nat) : (d.stageLimited now k c u b).rate = d.rate := (congrArg Dev.rate (stageLimited_quiet d now k c u b).1 :)
@[simp] theorem Dev.stageLimited_pose (d : Dev) (now k c u : Nat) (b : List Nat) : (d.stageLimited now k c u b).pose = d.pose := (congrArg Dev.pose (stageLimited_quiet d now k c u b).1 :)
@[simp] theorem Dev.stageLimited_ssp (d : Dev) (now k c u : Nat) (b : List Nat) : (d.stageLimited now k c u b).ssp = d.ssp := (congrArg Dev.ssp (stageLimited_quiet d now k c u b).1 :)
@[simp] theorem Dev.stageLimited_gnss (d : Dev) (now k c u : Nat) (b : List Nat) : (d.stageLimited now k c u b).gnss = d.gnss := (congrArg Dev.gnss (stageLimited_quiet d now k c u b).1 :)
@[simp] theorem Dev.stageLimited_time (d : Dev) (now k c u : Nat) (b : List Nat) : (d.stageLimited now k c u b).time = d.time := (congrArg Dev.time (stageLimited_quiet d now k c u b).1 :)
@[simp] theorem Dev.stageLimited_t0Ssp (d : Dev) (now k c u : Nat) (b : List Nat) : (d.stageLimited now k c u b).t0Ssp = d.t0Ssp := (congrArg Dev.t0Ssp (stageLimited_quiet d now k c u b).1 :)
@[simp] theorem Dev.stageLimited_t0Fbk (d : Dev) (now k c u : Nat) (b : List Nat) : (d.stageLimited now k c u b).t0Fbk = d.t0Fbk := (congrArg Dev.t0Fbk (stageLimited_quiet d now k c u b).1 :)
@[simp] theorem Dev.stageLimited_fbk (d : Dev) (now k c u : Nat) (b : List Nat) : (d.stageLimited now k c u b).fbk = d.fbk := (congrArg Dev.fbk (stageLimited_quiet d now k c u b).1 :)
@[simp] theorem Dev.stageLimited_ksp (d : Dev) (now k c u : Nat) (b : List Nat) : (d.stageLimited now k c u b).ksp = d.ksp := (congrArg Dev.ksp (stageLimited_quiet d now k c u b).1 :)
@[simp] theorem Dev.stageLimited_pair (d : Dev) (now k c u : Nat) (b : List Nat) : (d.stageLimited now k c u b).pair = d.pair := (congrArg Dev.pair (stageLimited_quiet d now k c u b).1 :)
@[simp] theorem Dev.stageLimited_idc (d : Dev) (now k c u : Nat) (b : List Nat) : (d.stageLimited now k c u b).idc = d.idc := (congrArg Dev.idc (stageLimited_quiet d now k c u b).1 :)
@[simp] theorem Dev.stageLimited_idcB (d : Dev) (now k c u : Nat) (b : List Nat) : (d.stageLimited now k c u b).idcB = d.idcB := (congrArg Dev.idcB (stageLimited_quiet d now k c u b).1 :)
@[simp] theorem Dev.stageLimited_vnp (d : Dev) (now k c u : Nat) (b : List Nat) : (d.stageLimited now k c u b).vnp = d.vnp := (congrArg Dev.vnp (stageLimited_quiet d now k c u b).1 :)
@[simp] theorem Dev.stageLimited_can (d : Dev) (now k c u : Nat) (b : List Nat) : (d.stageLimited now k c u b).can = d.can := (congrArg Dev.can (stageLimited_quiet d now k c u b).1 :)
@[simp] theorem Dev.stageLimited_lsw (d : Dev) (now k c u : Nat) (b : List Nat) : (d.stageLimited now k c u b).lsw = d.lsw := (congrArg Dev.lsw (stageLimited_quiet d now k c u b).1 :)
@[simp] theorem Dev.stageLimited_wdg (d : Dev) (now k c u : Nat) (b : List Nat) : (d.stageLimited now k c u b).wdg = d.wdg := (congrArg Dev.wdg (stageLimited_quiet d now k c u b).1 :)
@[simp] theorem Dev.stageLimited_pwm (d : Dev) (now k c u : Nat) (b : List Nat) : (d.stageLimited now k c u b).pwm = d.pwm := (congrArg Dev.pwm (stageLimited_quiet d now k c u b).1 :)
@[simp] theorem Dev.stageLimited_grid (d : Dev) (now k c u : Nat) (b : List Nat) : (d.stageLimited now k c u b).grid = d.grid := (congrArg Dev.grid (stageLimited_quiet d now k c u b).1 :)
@[simp] theorem Dev.stageLimited_cal (d : Dev) (now k c u : Nat) (b : List Nat) : (d.stageLimited now k c u b).cal = d.cal := (congrArg Dev.cal (stageLimited_quiet d now k c u b).1 :)
@[simp] theorem Dev.stageLimited_pwr (d : Dev) (now k c u : Nat) (b : List Nat) : (d.stageLimited now k c u b).pwr = d.pwr := (congrArg Dev.pwr (stageLimited_quiet d now k c u b).1 :)
@[simp] theorem Dev.stageLimited_mram (d : Dev) (now k c u : Nat) (b : List Nat) : (d.stageLimited now k c u b).mram = d.mram := (congrArg Dev.mram (stageLimited_quiet d now k c u b).1 :)
@[simp] theorem Dev.stageLimited_freeCtr (d : Dev) (now k c u : Nat) (b : List Nat) : (d.stageLimited now k c u b).freeCtr = d.freeCtr := (congrArg Dev.freeCtr (stageLimited_quiet d now k c u b).1 :)
theorem Dev.rd_stageLimited (d : Dev) (now k c u : Nat) (b : List Nat) (f : Field) (h : ¬ EvtKey f.key) : (d.stageLimited now k c u b).rd f = d.rd f := (stageLimited_quiet d now k c u b).rd f h

/-! ### Reads of registers through updates of other state -/

/-- The latch of T0 leaves every register as it is. -/
@[simp] theorem Dev.rd_captureT0 (d : Dev) (now : Nat) (f : Field) : (d.captureT0 now).rd f = d.rd f := by
  simp [Dev.rd]

/-- The latch of T0 changes only the latch. -/
theorem Dev.captureT0_frame (d : Dev) (now : Nat) :
    d.captureT0 now = { d with t0 := (d.captureT0 now).t0, t0For := (d.captureT0 now).t0For,
                               t0Ssp := (d.captureT0 now).t0Ssp, t0Fbk := (d.captureT0 now).t0Fbk,
                               t0Pwm := (d.captureT0 now).t0Pwm, cuts := (d.captureT0 now).cuts } := by
  unfold Dev.captureT0
  split
  · split <;> rfl
  · rfl

@[simp] theorem Dev.rd_with_pend (d : Dev) (v : Tab PendVal) (f : Field) : ({ d with pend := v } : Dev).rd f = d.rd f := rfl
@[simp] theorem Dev.rd_with_mem (d : Dev) (v : List Host.Cell) (f : Field) : ({ d with mem := v } : Dev).rd f = d.rd f := rfl
@[simp] theorem Dev.rd_with_t0 (d : Dev) (v : KMap) (f : Field) : ({ d with t0 := v } : Dev).rd f = d.rd f := rfl
@[simp] theorem Dev.rd_with_t0For (d : Dev) (v : Option Nat) (f : Field) : ({ d with t0For := v } : Dev).rd f = d.rd f := rfl
@[simp] theorem Dev.rd_with_t0Pwm (d : Dev) (v : PwmBlk) (f : Field) : ({ d with t0Pwm := v } : Dev).rd f = d.rd f := rfl
@[simp] theorem Dev.rd_with_cuts (d : Dev) (v : List (Nat × Waits)) (f : Field) : ({ d with cuts := v } : Dev).rd f = d.rd f := rfl
@[simp] theorem Dev.rd_with_sys (d : Dev) (v : SysBlk) (f : Field) : ({ d with sys := v } : Dev).rd f = d.rd f := rfl
@[simp] theorem Dev.rd_with_hif (d : Dev) (v : HifBlk) (f : Field) : ({ d with hif := v } : Dev).rd f = d.rd f := rfl
@[simp] theorem Dev.rd_with_evh (d : Dev) (v : EvhBlk) (f : Field) : ({ d with evh := v } : Dev).rd f = d.rd f := rfl
@[simp] theorem Dev.rd_with_rec_ (d : Dev) (v : RecBlk) (f : Field) : ({ d with rec_ := v } : Dev).rd f = d.rd f := rfl
@[simp] theorem Dev.rd_with_cntAct (d : Dev) (v : Option CntAct) (f : Field) : ({ d with cntAct := v } : Dev).rd f = d.rd f := rfl
@[simp] theorem Dev.rd_with_tst (d : Dev) (v : TstBlk) (f : Field) : ({ d with tst := v } : Dev).rd f = d.rd f := rfl
@[simp] theorem Dev.rd_with_geo (d : Dev) (v : GeoBlk) (f : Field) : ({ d with geo := v } : Dev).rd f = d.rd f := rfl
@[simp] theorem Dev.rd_with_cov (d : Dev) (v : CovBlk) (f : Field) : ({ d with cov := v } : Dev).rd f = d.rd f := rfl
@[simp] theorem Dev.rd_with_tpl (d : Dev) (v : TplBlk) (f : Field) : ({ d with tpl := v } : Dev).rd f = d.rd f := rfl
@[simp] theorem Dev.rd_with_dec (d : Dev) (v : DecBlk) (f : Field) : ({ d with dec := v } : Dev).rd f = d.rd f := rfl
@[simp] theorem Dev.rd_with_rate (d : Dev) (v : RateBlk) (f : Field) : ({ d with rate := v } : Dev).rd f = d.rd f := rfl
@[simp] theorem Dev.rd_with_pose (d : Dev) (v : PoseBlk) (f : Field) : ({ d with pose := v } : Dev).rd f = d.rd f := rfl
@[simp] theorem Dev.rd_with_ssp (d : Dev) (v : Tab SspPort) (f : Field) : ({ d with ssp := v } : Dev).rd f = d.rd f := rfl
@[simp] theorem Dev.rd_with_gnss (d : Dev) (v : GnssBlk) (f : Field) : ({ d with gnss := v } : Dev).rd f = d.rd f := rfl
@[simp] theorem Dev.rd_with_time (d : Dev) (v : TimeBlk) (f : Field) : ({ d with time := v } : Dev).rd f = d.rd f := rfl
@[simp] theorem Dev.rd_with_t0Ssp (d : Dev) (v : Tab SspPort) (f : Field) : ({ d with t0Ssp := v } : Dev).rd f = d.rd f := rfl
@[simp] theorem Dev.rd_with_t0Fbk (d : Dev) (v : Tab FbkCh) (f : Field) : ({ d with t0Fbk := v } : Dev).rd f = d.rd f := rfl
@[simp] theorem Dev.rd_with_fbk (d : Dev) (v : Tab FbkCh) (f : Field) : ({ d with fbk := v } : Dev).rd f = d.rd f := rfl
@[simp] theorem Dev.rd_with_ksp (d : Dev) (v : Tab KspPort) (f : Field) : ({ d with ksp := v } : Dev).rd f = d.rd f := rfl
@[simp] theorem Dev.rd_with_pair (d : Dev) (v : PairBlk) (f : Field) : ({ d with pair := v } : Dev).rd f = d.rd f := rfl
@[simp] theorem Dev.rd_with_idc (d : Dev) (v : Tab IdcCh) (f : Field) : ({ d with idc := v } : Dev).rd f = d.rd f := rfl
@[simp] theorem Dev.rd_with_idcB (d : Dev) (v : IdcBlk) (f : Field) : ({ d with idcB := v } : Dev).rd f = d.rd f := rfl
@[simp] theorem Dev.rd_with_vnp (d : Dev) (v : Tab VnpNode) (f : Field) : ({ d with vnp := v } : Dev).rd f = d.rd f := rfl
@[simp] theorem Dev.rd_with_can (d : Dev) (v : Tab CanCtl) (f : Field) : ({ d with can := v } : Dev).rd f = d.rd f := rfl
@[simp] theorem Dev.rd_with_lsw (d : Dev) (v : Tab LswCh) (f : Field) : ({ d with lsw := v } : Dev).rd f = d.rd f := rfl
@[simp] theorem Dev.rd_with_wdg (d : Dev) (v : WdgBlk) (f : Field) : ({ d with wdg := v } : Dev).rd f = d.rd f := rfl
@[simp] theorem Dev.rd_with_pwm (d : Dev) (v : PwmBlk) (f : Field) : ({ d with pwm := v } : Dev).rd f = d.rd f := rfl
@[simp] theorem Dev.rd_with_grid (d : Dev) (v : GridBlk) (f : Field) : ({ d with grid := v } : Dev).rd f = d.rd f := rfl
@[simp] theorem Dev.rd_with_cal (d : Dev) (v : CalBlk) (f : Field) : ({ d with cal := v } : Dev).rd f = d.rd f := rfl
@[simp] theorem Dev.rd_with_pwr (d : Dev) (v : PwrBlk) (f : Field) : ({ d with pwr := v } : Dev).rd f = d.rd f := rfl
@[simp] theorem Dev.rd_with_mram (d : Dev) (v : Mram) (f : Field) : ({ d with mram := v } : Dev).rd f = d.rd f := rfl
@[simp] theorem Dev.rd_with_freeCtr (d : Dev) (v : Nat) (f : Field) : ({ d with freeCtr := v } : Dev).rd f = d.rd f := rfl

/-! ### The frame of a command -/

/-- A command that acts answers a next state: DT advanced, the block changed by the command, the queue as it was. -/
@[simp] theorem State.run_eq (s : State) (el : Nat) (f : Nat → Dev → Dev) :
    s.run el f = .next { s with dt := s.now el, dev := f (s.now el) (s.dev.captureT0 (s.now el)) } := rfl

/-- A command of the host acts where the register space is in service, and has no effect elsewhere. -/
@[simp] theorem State.host_eq (s : State) (el : Nat) (f : Nat → Dev → Dev) :
    s.host el f = .next { s with
      dt := s.now el
      dev := (if s.dev.hif.inService then f (s.now el) (s.dev.captureT0 (s.now el)) else s.dev.captureT0 (s.now el)) } := by
  simp [State.host, State.run]

/-- DT never goes back under a command. -/
theorem State.le_now (s : State) (el : Nat) : s.dt ≤ s.now el := by
  unfold State.now
  split <;> omega

end Sys2Proof.Machine
end

