-- ==== Sys2Proof/Tests/Slice0.lean ====
section
/-! SUPPORT. Tests: the checks of well-formedness, and for each statement one small state for each of its clauses that meets the
clause's premises, with what the clause says of it. Expected values are worked out from the rules the clause names. -/

namespace Sys2Proof.Tests

open Sys2Proof.Machine

set_option Elab.async false

/-- A block in LIT and HOST mode whose register space is in service. -/
def lit : Dev := { pwr := { st := .lit, mode := .host, stage := .none, outHold := .none }, hif := { inService := true } }

/-- The block with registers set. -/
def withRegs (d : Machine.Dev) (l : List (Field × Nat)) : Machine.Dev := l.foldl (fun d x => d.wr x.1 x.2) d

/-- `lit` with registers set. -/
def L (l : List (Field × Nat)) : Machine.Dev := withRegs lit l

/-- The block that a command at DT `now` leaves. -/
def run (now : Nat) (i : Instr) (d : Machine.Dev) : Machine.Dev :=
  match exec i { dt := now, dev := d } with
  | .next t => t.dev
  | _ => d

/-- `lit` with both KSP links up. -/
def lit2 : Machine.Dev := { lit with ksp := [(0, { st := .up }), (1, { st := .up })] }

/-- `lit` with the tick grid on: edges every 400,000 cycles from DT 0, tick 5 due next. -/
def grid5 : Machine.Dev := { lit with sys := { gridOn := true, nextN := 5 } }

/-! ### The queue, device time, shared operations -/

theorem test_wit_step : (({ pending := [.clrMax 3] } : State)).pending = [.clrMax 3] ∧
    (match step { dev := lit, pending := [.clrMax 3] } with | .next t => t.dt == 3 && t.pending == [] | _ => false) = true := by decide +kernel

theorem test_wit_powers_off : powersOff (.powerOnReset 7 4199 8000) ∧ ¬powersOff (.powerOnReset 7 4200 8000) := by
  refine ⟨⟨7, 4199, 8000, rfl, by decide, by decide⟩, ?_⟩
  rintro ⟨_, _, _, h, hm, _⟩
  cases h
  exact absurd hm (by decide)

theorem test_wit_dt :
    (match exec (.powerOnReset 7 4199 8000) { dt := 9, dev := lit } with | .next t => t.dt == 0 | _ => false) = true ∧
    (match exec (.clrMax 7) { dt := 9, dev := lit } with | .next t => t.dt == 16 | _ => false) = true := by decide +kernel

theorem test_wit_queue : ({ pending := [.clrMax 0] } : State).queueWf = true := by decide +kernel

theorem test_wit_reset : State.reset.dev.rd SYS.TICK_RATE = SYS.TICK_RATE.reset ∧ State.reset.dev.mem = [] := by decide +kernel

theorem test_wit_memory : Memory.wf (memSetBytes [] 0x500000 [1, 0, 2]) = true ∧
    memGet (memSetBytes [] 0x500000 [1, 0, 2]) 0x500002 = 2 := by decide +kernel

theorem test_wit_firing : (evtPage EVT.SYS_ECC_UE 0).2 < 32 ∧ (lit.fire 5 EVT.SYS_ECC_UE 0 0).raised EVT.SYS_ECC_UE 0 = true := by
  decide +kernel

/-! ### Page header, event flags, host words -/

theorem test_key_unlocks :
    (run 100 (.key 0 0x005030 0xA5) { lit with hif := { inService := true, keyHalf := [(0x005000, 84)] } }).unlocked 100 0x005000 = true ∧
    (run 101 (.key 0 0x005030 0xA5) { lit with hif := { inService := true, keyHalf := [(0x005000, 84)] } }).unlocked 101 0x005000 = false := by
  decide +kernel

theorem test_key_locks :
    (run 100 (.key 0 0x005030 0x11) { lit with hif := { inService := true, unlocked := [(0x005000, 84)] } }).unlocked 100 0x005000 = false ∧
    tget? (run 100 (.key 0 0x005030 0x5A) lit).hif.keyHalf 0x005000 = some 100 := by decide +kernel

theorem test_lock_timeout :
    tget? (run (400000000 + 84) (.lockTimeout 0 0x005030) { lit with hif := { inService := true, unlocked := [(0x005000, 84)] } }).hif.unlocked
      0x005000 = none ∧
    tget? (run (400000000 + 83) (.lockTimeout 0 0x005030) { lit with hif := { inService := true, unlocked := [(0x005000, 84)] } }).hif.unlocked
      0x005000 = some 84 := by decide +kernel

theorem test_freeze : (run 0 (.freeze 0 0x072000 true) lit).rd (HDR.FREEZE 0x072000) = 1 ∧
    (tget? (run 0 (.freeze 0 0x072000 true) lit).hif.frozen 0x072000).isSome = true ∧
    tget? (run 0 (.freeze 0 0x072000 false) (run 0 (.freeze 0 0x072000 true) lit)).hif.frozen 0x072000 = none := by decide +kernel

theorem test_upd_hold : (run 0 (.updHold 0 0x072000 true) lit).rd (HDR.UPD_HOLD 0x072000) = 1 := by decide +kernel

theorem test_upd_hold_release :
    ((run 0 (.updHold 0 0x000000 false)
      { L [(HDR.UPD_HOLD 0x000000, 1)] with pend := [(SYS.TICK_RATE.key, { val := 1, under := true })] }).pend.map (·.2.under)) = [false] := by
  decide +kernel

theorem test_discard : fieldOfKey SYS.TICK_RATE.key = some SYS.TICK_RATE ∧ SYS.TICK_RATE.acc = .rws ∧ isPage (pageOf 0x000014) = true ∧
    (run 0 (.discard 0 0x000014) { lit with pend := [(SYS.TICK_RATE.key, { val := 2 })] }).rdP SYS.TICK_RATE = SYS.TICK_RATE.reset ∧
    (run 0 (.discard 0 0x000014) { lit with pend := [(SYS.TICK_RATE.key, { val := 2 })] }).shadowPend 0x000000 = false := by decide +kernel

theorem test_soft_rst : (∀ g ∈ fieldsAt 0x0330AC, g.acc ≠ .rw) ∧
    (fieldsAt 0x0330AC).filter (fun g => g.acc == .rws && !(g = HDR.PG_EN 0x033000 && !pageHasEn 0x033000)) = [RATE.FS 0] ∧
    ((L [(RATE.FS 0, 7)]).softRstWord 0 0x0330AC).rdP (RATE.FS 0) = 0 ∧ ((L [(RATE.FS 0, 7)]).softRstWord 0 0x0330AC).rd (RATE.FS 0) = 7 ∧
    (∀ f ∈ fieldsAt 0x000000, f.acc ≠ .rw ∧ f.acc ≠ .rws) := by decide +kernel

theorem test_pend_clear : isPage (pageOf 0x072018) = true ∧
    bitOf ((run 0 (.pendClear 0 0x072018 2) (L [(HDR.PG_EVT_PEND 0x072000, 3), (HDR.PG_EVT_RAW 0x072000, 3)])).rd (HDR.PG_EVT_RAW 0x072000)) 1 = false ∧
    bitOf ((run 0 (.pendClear 0 0x072018 2) (L [(HDR.PG_EVT_PEND 0x072000, 3), (HDR.PG_EVT_RAW 0x072000, 3)])).rd (HDR.PG_EVT_PEND 0x072000)) 0 = true := by
  decide +kernel

theorem test_rate_limit_end :
    tget? (run 50 (.rateLimitEnd 0 7) { lit with evh := { limits := [(7, { until_ := 50 })] } }).evh.limits 7 = none ∧
    (tget? (run 50 (.rateLimitEnd 0 7) { L [(EVH.RL_MS 7, 1)] with evh := { limits := [(7, { until_ := 50, heldBack := some { num := 7 } })] } }).evh.limits 7)
      = some { until_ := 50 + 400000 } := by decide +kernel

theorem test_lo_hi : isHi 0x000008 = false ∧ hiOf 0x000050 = some 0x000054 ∧ isHi 0x000054 = true ∧
    tget? (run (2 ^ 34) (.loHiLatchRead 0 0x000050) lit).hif.latch 0x000054 = some 10 := by decide +kernel

theorem test_clr_max : (run 0 (.clrMax 0) (L [(SYS.PH_MAX 4, 9)])).rd (SYS.PH_MAX 4) = 0 := by decide +kernel

theorem test_host_word_align : (∃ x, addrFault [0x000041] = some x) ∧ addrFault [0x000040] = none ∧
    (run 0 (.registerWrite 0 0 0x000041 5) lit).rd HIF.ADDR_ERRS = 1 ∧
    (run 0 (.registerWrite 0 0 0x000041 5) lit).rd HIF.ERR_ADDR = 0x41 := by
  refine ⟨⟨(1, 0x41), by decide +kernel⟩, ?_⟩; decide +kernel

theorem test_host_word_rws : isWriteWindow 0x033040 = false ∧ (∀ f ∈ fieldsAt 0x033040, f.acc = .rws ∨ f.acc = .ro) ∧
    lit.standbyIgnores 0x033040 = false ∧ (run 0 (.registerWrite 0 0 0x033040 0x0C) lit).rdP RATE.NODE_REFRESH = 12 ∧
    (run 0 (.registerWrite 0 0 0x033040 0x0C) lit).rd RATE.NODE_REFRESH = 10 := by decide +kernel

theorem test_host_word_locked : fieldsAt 0x001054 ≠ [] ∧ (∀ f ∈ fieldsAt 0x001054, f.acc = .rwl) ∧ lit.unlocked 0 0x001000 = false ∧
    (run 0 (.registerWrite 0 0 0x001054 0x100) lit).rd HIF.LOCK_REFUSED = 1 ∧
    (run 0 (.registerWrite 0 0 0x001054 0x100) lit).rd HIF.ERR_ADDR = 0x1054 := by decide +kernel

theorem test_host_window : isWriteWindow 0x035400 = true ∧ memGet (run 0 (.registerWrite 0 0 0x035400 0x0403) lit).mem 0x035401 = 4 := by
  decide +kernel

theorem test_hspi_crc : (run 0 (.wr 0 false 0x000040 [2] 0) lit).rd HIF.HSPI_CRC_ERR = 1 ∧
    (run 0 (.wr 0 false 0x000040 [2] 0) lit).pend = [] := by decide +kernel

theorem test_hspi_write : (run 0 (.wr 0 false 0x000040 [2] (BitVec.ofNat 16 (crc16 (frameBytes 1 false 0x000040 0 [2])))) lit).rdP SYS.TICK_RATE = 2 ∧
    (run 0 (.wr 0 false 0x000040 [2] (BitVec.ofNat 16 (crc16 (frameBytes 1 false 0x000040 0 [2])))) lit).hif.rspStatus / 0x40 = 1 := by decide +kernel

theorem test_hspi_read :
    (run 0 (.rd 0 false 0x000040 0 (BitVec.ofNat 16 (crc16 (frameBytes 2 false 0x000040 0 [])))) lit).hif.rspData = [1] ∧
    (run 0 (.rdNoinc 0 false 0x000040 0 (BitVec.ofNat 16 (crc16 (frameBytes 2 false 0x000040 0 [])))) lit).hif.rspData = [0] := by decide +kernel

theorem test_hspi_cmd : (run 0 (.cmdErrFrame 0 5) lit).hif.rspStatus = 0x48 ∧ (run 0 (.hspiAbort 0) lit).rd HIF.HSPI_ABORT = 1 := by decide +kernel

theorem test_hspi_window :
    memGet (run 0 (.wr 0 false 0x48FFFC [0x0403] (BitVec.ofNat 16 (crc16 (frameBytes 1 false 0x48FFFC 0 [0x0403])))) lit).mem 0x48FFFD = 4 ∧
    lit.pwr.hostWaitTill = none ∧ lit.on PWR.BOOT_REC = false ∧
    (run 0 (.rd 0 false 0x480000 1 (BitVec.ofNat 16 (crc16 (frameBytes 2 false 0x480000 1 [])))) { lit with mem := [(0x480004, 7)] }).hif.rspData
      = [0, 7] := by decide +kernel

theorem test_reg_window : memGet (run 0 (.regWr 0 0 9 false 0x480000 [5, 0x0600]) lit2).mem 0x480005 = 6 := by decide +kernel

theorem test_reg_wr : lit2.regPort 0 = true ∧ (run 0 (.regWr 0 0 9 false 0x000040 [2]) lit2).rdP SYS.TICK_RATE = 2 ∧
    (∃ x, addrFault (wordAddrs 0x000042 1 true) = some x) ∧ (run 0 (.regWr 0 0 9 false 0x000042 [2]) lit2).rd HIF.ADDR_ERRS = 1 := by
  refine ⟨by decide +kernel, by decide +kernel, ⟨(1, 0x42), by decide +kernel⟩, by decide +kernel⟩

theorem test_reg_rd : lit2.regPort 1 = true ∧ addrFault (wordAddrs 0x000040 2 true) = none := by decide +kernel

/-- An open field with one clean coverage tile at (0, 0) in slot 3. -/
def tile3 : Machine.Dev :=
  { L [(COV.FIELD_STATE, 1), (TPL.STORE_OK, 1)] with tpl := { slots := [(3, { st := .dirty, cells := [(5, 2)], gen := 65535 })] } }

/-! ### Tick and memory errors -/

theorem test_tick : grid5.tickDue 2000000 = true ∧ (grid5.turnNext 2000000).nextEdge = 2000000 ∧
    2000000 ≤ (grid5.turnNext 2000000).nextEdge + grid5.deadline ∧
    phasesDone grid5.deadline 0 [100, 100, 100, 100, 100] = 5 := by decide +kernel

theorem test_tick_overrun : grid5.tickDue 2392000 = true ∧ grid5.nextEdge + grid5.deadline = 2392000 ∧
    phasesDone grid5.deadline 0 [100, 100, 100, 9000] = 4 ∧ grid5.rd SYS.OVR_RUN < 2 := by decide +kernel

theorem test_ecc : (run 0 (.eccCorrected 0 true) lit).rd SYS.MRAM_CE = 1 ∧ (run 0 (.eccCorrected 0 false) lit).rd SYS.SRAM_CE = 1 ∧
    (run 0 (.eccUncorrectable 0 2 1) { lit with tpl := { journal := [{}, { point := 7 }, { point := 9 }] } }).tpl.journal.map (·.point) = [0, 9] ∧
    (run 0 (.eccUncorrectable 0 2 1) { lit with tpl := { journal := [{}, { point := 7 }, { point := 9 }] } }).rd COV.PAINT_LOST = 1 ∧
    (run 0 (.eccUncorrectable 0 4 0) lit).pose.bad = true := by decide +kernel

theorem test_ecc_slot : ((tile3.slot 3).st ≠ .free) ∧ tile3.alive = true ∧ (run 0 (.eccUncorrectable 0 1 3) tile3).slot 3 = {} ∧
    (run 0 (.eccUncorrectable 0 1 3) tile3).tpl.refetch = [(0, 0, 0)] ∧ (run 0 (.eccUncorrectable 0 1 3) tile3).rd COV.TILES_DISCARDED = 1 := by
  decide +kernel

theorem test_logic_cause : (run 8 (.eccUncorrectable 0 0 0) lit).pwr.stage = .relight ∧ (run 8 (.lockstepMismatch 0 true) lit).rd SYS.LS_PAIR_B = 1 ∧
    (run 8 (.lockstepMismatch 0 true) lit).pwr.resetAt = 8 := by decide +kernel

/-! ### GEO, COV, TPL -/

theorem test_fold_stale :
    (L [(GEO.SEG_EN 3, 1), (GEO.FOLD_SRC 3, 1)]).foldStaleAt [] (2 ^ 34) 3 = true ∧
    (run (2 ^ 34) (.segmentSensorStale 0 3) (L [(GEO.SEG_EN 3, 1), (GEO.FOLD_SRC 3, 1)])).rd (GEO.FOLD_STALE 3) = 1 ∧
    (run (2 ^ 34) (.segmentSensorStale 0 3) (L [(GEO.SEG_EN 3, 1), (GEO.FOLD_SRC 3, 1)])).raised EVT.GEO_SENSOR_STALE 3 = true ∧
    (run (2 ^ 34) (.segmentSensorStale 0 3) (L [(GEO.SEG_EN 3, 1), (GEO.SWAY_EN 3, 1)])).rd (GEO.SWAY_STALE 3) = 1 := by decide +kernel

theorem test_pt_idx : (run 0 (.ptIdxSnapshot 0 1023) { lit with geo := { pts := [(1023, { x := -5, spd := 77, valid := true })], tick := 6 } }).rd GEOP.PT_SPD = 77 ∧
    (run 0 (.ptIdxSnapshot 0 1023) { lit with geo := { pts := [(1023, { x := -5, spd := 77, valid := true })], tick := 6 } }).rd GEOP.PT_X
      = 2 ^ GEOP.PT_X.width - 5 := by decide +kernel

theorem test_cov_peek : (run 0 (.covPeek 0 (BitVec.ofNat 32 299) 0) tile3).rd COV.PEEK_RES = 1 ∧
    tileOf (299 / tile3.layerEdge 0) 0 = (0, 0, 5) ∧ (run 0 (.covPeek 0 (BitVec.ofNat 32 299) 0) tile3).rd COV.PEEK_CELL = 2 ∧
    (run 0 (.covPeek 0 (-1) 0) tile3).rd COV.PEEK_RES = 0 := by decide +kernel

theorem test_field_cmd : (run 0 (.fieldOpen 0) lit).cov.cmd = 1 ∧ (run 0 (.fieldClose 0) lit).cov.cmd = 2 ∧ (run 0 (.fieldAbandon 0) lit).cov.cmd = 3 ∧
    (Dev.fieldCommand { lit with cov := { cmd := 1 } } 0).rd COV.FIELD_STATE = 1 ∧
    (Dev.fieldCommand { lit with cov := { cmd := 2 } } 0).rd COV.CMD_IGNORED = 1 ∧
    (Dev.fieldCommand { tile3 with cov := { cmd := 3 } } 0).rd COV.FIELD_STATE = 0 ∧
    (Dev.fieldCommand { tile3 with cov := { cmd := 1 } } 0).rd COV.CMD_IGNORED = 1 ∧
    Dev.fieldCommand { lit with cov := { cmd := 1, cmdUnder := true } } 0 = { lit with cov := { cmd := 1, cmdUnder := true } } := by decide +kernel

theorem test_field_closing : (L [(COV.FIELD_STATE, 1), (TPL.STORE_ACT, 1)]).rd TPL.STORE_ACT ≠ 3 ∧
    (Dev.fieldCommand { L [(COV.FIELD_STATE, 1), (TPL.STORE_ACT, 1)] with tpl := { journal := [{ point := 1 }] }, cov := { cmd := 2 } } 0).rd COV.FIELD_STATE = 2 := by
  decide +kernel

theorem test_flush_done : (run 0 (.flushDone 0) (L [(COV.FIELD_STATE, 2)])).rd COV.FIELD_STATE = 0 ∧
    (run 0 (.flushDone 0) (L [(COV.FIELD_STATE, 2)])).raised EVT.TPL_FLUSH_DONE 0 = true := by decide +kernel

/-- A point with an unconfirmed opening commanded at DT 0. -/
def waits : Machine.Dev := { L [(PD.VALID 1023, 1)] with cov := { paint := [(1023, { edges := [{ isOpen := true, wait := true }], heldAt := some 0 })] } }

theorem test_conf_timeout : waits.confWait = 80000000 ∧ (run 80000000 (.confTimeout 0 1023) waits).rd COV.CONF_TIMEOUTS = 1 ∧
    ((run 80000000 (.confTimeout 0 1023) waits).paintOf 1023).edges.all (fun x => !x.wait) = true ∧
    (run 79999999 (.confTimeout 0 1023) waits).rd COV.CONF_TIMEOUTS = 0 := by decide +kernel

theorem test_held_span : (waits.paintOf 1023).heldAt = some 0 ∧ run 399999999 (.heldSpanTimeout 0 1023) waits = waits := by decide +kernel

/-- Every coverage slot taken: slot 383 by a clean tile, the others by requests, and a span of point 0 held since DT 0. -/
def full384 : Machine.Dev :=
  { lit with tpl := { slots := (List.range 383).map (fun i => (i, { st := .loading, tx := i })) ++ [(383, { st := .clean, ty := 4 })] },
             cov := { paint := [(0, { heldAt := some 0 })] } }

theorem test_held_span_full : full384.freeSlot 0 = none ∧ (full384.slot 383).st = .clean ∧ full384.pinned 0 0 4 = false := by decide +kernel

theorem test_pins : (run 0 (.tilePin 0) (L [(TPL.PIN_TX, 4)])).tpl.pins = [{ tx := 4 }] ∧
    (run 0 (.tilePin 0) { lit with tpl := { pins := List.replicate 64 { tx := 9 } } }).rd TPL.PIN_FULL = 1 ∧
    (run 0 (.tileUnpin 0) { lit with tpl := { pins := [{}, { tx := 9 }] } }).tpl.pins = [{ tx := 9 }] ∧
    (run 0 (.tileUnpinAll 0) { lit with tpl := { pins := [{}, { tx := 9 }] } }).tpl.pins = [] := by decide +kernel

theorem test_writeback : ((run (max 1 (tile3.rd TPL.WB_INTERVAL) * 400000000) (.tileWriteback 0 3) tile3).slot 3).st = .writeback ∧
    ((run (max 1 (tile3.rd TPL.WB_INTERVAL) * 400000000) (.tileWriteback 0 3) tile3).slot 3).gen = 0 := by decide +kernel

/-- `tile3` with a put that was sent at DT 0 after `n` repeats. -/
def asks (n : Nat) (st : SlotState) (put : Bool) : Machine.Dev :=
  { tile3 with tpl := { slots := [(3, { st := st, gen := 4, req := some { tag := 8, tries := n, isPut := put } })] } }

theorem test_req_timeout :
    (((run tile3.reqTimeout (.reqTimeout 0 3) (asks 0 .loading false)).slot 3).req.map (·.tries)) = some 1 ∧ 0 < tile3.rd TPL.RETRY_MAX ∧
    (run tile3.reqTimeout (.reqTimeout 0 3) (asks 15 .loading false)).rd TPL.STORE_OK = 0 ∧ tile3.rd TPL.RETRY_MAX ≤ 15 ∧
    run (tile3.reqTimeout - 1) (.reqTimeout 0 3) (asks 0 .loading false) = asks 0 .loading false := by decide +kernel

/-- A store that failed, in an open field. -/
def probing : Machine.Dev := { L [(TPL.STORE_ACT, 1), (COV.FIELD_STATE, 1)] with tpl := { lastFail := some (0, 1, 2) } }

theorem test_store_probe :
    (run 400000000 (.storeProbe 0) probing).tpl.lastProbe = 400000000 ∧ probing.inT6 400000000 = true ∧
    run 399999999 (.storeProbe 0) probing = probing ∧
    probing.rd TPL.STORE_ACT ≠ 3 ∧ probing.on TPL.STORE_OK = false ∧ probing.rd COV.FIELD_STATE ≠ 0 := by decide +kernel

theorem test_provisional : ((run 400000000 (.provisionalRerequest 0 3)
    { tile3 with tpl := { slots := [(3, { st := .provisional })] } }).slot 3).req.map (fun r => (r.tries, r.isPut, r.sentAt)) = some (0, false, 400000000) := by
  decide +kernel

theorem test_tile_ack : ((run 0 (.tileAck 0 { port := 1, tag := 8, gen := 4 }) (asks 0 .writeback true)).slot 3).st = .clean ∧
    (run 0 (.tileAck 0 { port := 1, tag := 8, gen := 4 }) (asks 0 .writeback true)).rd TPL.PUT_CNT = 1 ∧
    run 0 (.tileAck 0 { port := 1, tag := 8, gen := 5 }) (asks 0 .writeback true) = asks 0 .writeback true ∧
    run 0 (.tileNak 0 { port := 1, tag := 9 }) (asks 0 .writeback true) = asks 0 .writeback true := by decide +kernel

/-- A coverage tile message that carries 65,536 cells of 1 with the check value of its content. -/
def onesMsg (st : Nat) : TileMsgIn :=
  { port := 1, tag := st, flags := 1, gen := 4, payload := rleEncode [(1, 65536)], crc := crc32 (runBytes 0 [(1, 65536)]) }

theorem test_tile_data : (onesMsg 8).port ≠ 0 ∧ (asks 0 .loading false).inT6 0 = true ∧ (asks 0 .loading false).on TPL.STORE_OK = true ∧
    contentRuns 0 true (onesMsg 8).payload = some [(1, 65536)] ∧
    ((asks 0 .loading false).slotOfTag 8).map (fun x => (x.1, x.2.st)) = some (3, .loading) := by decide +kernel

theorem test_tile_data_right : crc32 (runBytes (onesMsg 8).layer [(1, 65536)]) = (onesMsg 8).crc ∧
    (asks 0 .loading false).matchesSlot (onesMsg 8) ((asks 0 .loading false).slot 3) = true :=
  ⟨by simp only [onesMsg], by decide +kernel⟩

theorem test_tile_data_wrong :
    ((run 0 (.tileData 0 { port := 1, tag := 8, tx := 1, payload := rleEncode [(1, 65536)], flags := 1 }) (asks 0 .loading false)).slot 3).req.map (·.tries)
      = some 1 := by decide +kernel

theorem test_boundary : (onesMsg 0).layer = 0 ∧ (onesMsg 0).field = tile3.rd COV.FIELD_ID_ACT ∧
    (tile3.findSlot 0 0 0).map (fun x => (x.1, x.2.st)) = some (3, .dirty) := by decide +kernel

theorem test_tile_waits : grid5.edgePassed 2000000 = true ∧
    ((run 2000000 (.tileData 0 { tag := 8 }) grid5).tpl.inbox.map (·.tag)) = [8] := by decide +kernel

/-! ### DEC, RATE, SSP, POSE -/

theorem test_latency_store :
    (run 4000000000 (.latencyStore 0) { lit with dec := { latChanged := true } }).dec.latStoredAt = 4000000000 ∧
    (run 4000000000 (.latencyStore 0) { lit with dec := { latChanged := true } }).dec.latChanged = false ∧
    run 4000000000 (.latencyStore 0) lit = lit := by decide +kernel

theorem test_dec_snapshot : (run 0 (.decSnapshot 0 1023) { lit with dec := { shown := [(1023, (List.range 16).map (· % 2))], tick := 8 } }).rd DEC.S_CLOSE = 1 ∧
    (run 0 (.decSnapshot 0 1022) { lit with dec := { shown := [(1023, (List.range 16).map (· % 2))], tick := 8 } }).rd DEC.PTD_TICK = 8 ∧
    ptdFields.length = 16 := by decide +kernel

/-- A running flow loop of product 7 with set point 100. -/
def loop7 : Machine.Dev :=
  { L [(RATE.PROD_EN 7, 1), (RATE.LOOP_EN 7, 1), (RATE.LOOP_KIND 7, 1), (RATE.LOOP_SP 7, 100), (RATE.FS 7, 1000), (RATE.FB_SCALE 7, 5), (RATE.DEV_PCT 7, 10),
      (RATE.DEV_TIME 7, 2)] with rate := { loops := [(7, { runFrom := some 0, devFrom := some 100 })] } }

/-- `loop7` in the commit of tick 5 with its one point on. -/
def loop7on : Machine.Dev :=
  { withRegs loop7 [(PD.PRODUCT 0, 7), (PD.VALID 0, 1), (RATE.LOOP_DIV 7, 2), (SYS.LAST_COMMIT, 4)] with
    sys := { gridOn := true, nextN := 5 }, dec := { pts := [(0, { s := true })] },
    rate := { pts := [(0, { demand := 100 })], loops := [(7, {})] } }

theorem test_loop_update : loop7on.loopEnabled 7 = true ∧ loop7on.tickCnt 9 = 4 ∧ loop7on.loopDue 4 7 = true ∧ loop7on.on (RATE.FB_LOST 7) = false ∧
    loop7on.loopSp (loop7on.edgeOf 4) 7 loop7on.dec.pts loop7on.rate.pts = 100 ∧
    (run 9 (.loopUpdate 0 7) loop7on).rd (RATE.LOOP_SP 7) = 100 ∧ ((run 9 (.loopUpdate 0 7) loop7on).loopOf 7).updTick = some 4 := by decide +kernel

theorem test_loop_update_once :
    run 9 (.loopUpdate 0 7) (withRegs loop7on [(SYS.LAST_COMMIT, 3)]) = withRegs loop7on [(SYS.LAST_COMMIT, 3)] := by decide +kernel

theorem test_fb_loss : loop7.fbLostAt (2 ^ 34) 7 none = true ∧ (run (2 ^ 34) (.fbLoss 0 7) loop7).rd (RATE.FB_LOST 7) = 1 ∧
    ((run (2 ^ 34) (.fbLoss 0 7) loop7).loopOf 7).lostAt = some (2 ^ 34) ∧
    (run 9 (.fbLoss 0 7) { loop7 with rate := { loops := [(7, { lostAt := some 4 })] }, fbk := [(loop7.rd (RATE.FB_FBK 7), { e1 := some 5 })] }).rd
      (RATE.FB_LOST 7) = 0 := by decide +kernel

theorem test_deviation : (run (100 + 80000000) (.rateDeviation 0 7) loop7).rd (RATE.DEV_ACT 7) = 1 ∧
    (run (99 + 80000000) (.rateDeviation 0 7) loop7).rd (RATE.DEV_ACT 7) = 0 ∧
    (loop7.devCheck 0 (100 + 80000000) 7 100 0).raised EVT.RATE_DEVIATION 7 = true ∧
    ((loop7.devCheck 0 200 7 100 90).loopOf 7).devFrom = none ∧
    (({ L [(RATE.DEV_ACT 7, 1), (RATE.DEV_TIME 7, 0)] with rate := { loops := [(7, { okFrom := some 5 })] } } : Machine.Dev).devCheck 0 5 7 100 100).rd (RATE.DEV_ACT 7) = 0 := by
  decide +kernel

theorem test_rate_snapshot : (run 0 (.rateSnapshot 0 1023) { lit with rate := { pts := [(1023, { rate := 55, duty := 40 })], tick := 3 } }).rd RATE.PT_RATE = 55 ∧
    (run 0 (.rateSnapshot 0 1023) { lit with rate := { pts := [(1023, { rate := 55, duty := 40 })], tick := 3 } }).rd RATE.PTR_IDX = 1023 := by decide +kernel

/-- Port 3 in the IMU role with data-ready trigger. -/
def port3 (p : SspPort) (trig : Nat) : Machine.Dev :=
  { L [(SSP.ROLE 3, 1), (SSP.TRIG 3, trig)] with ssp := [(3, p)], sys := { gridOn := true, nextN := 5 } }

theorem test_drdy : ((run 96000 (.sspDrdy 0 3) (port3 { lastEdge := some 0 } 0)).sspPort 3).running.isSome = true ∧
    (run 96000 (.sspDrdy 0 3) (port3 { running := some {} } 0)).rd (SSP.OVERRATE 3) = 1 := by decide +kernel

theorem test_periodic : ((run 7 (.sspPeriodicStart 0 3) (port3 {} 1)).sspPort 3).running.isSome = true := by decide +kernel

theorem test_sample : ((run 320 (.sspSample 0 3 [0, 0]) (port3 { running := some { cap := 9 } } 0)).sspPort 3).lastAt = some 320 ∧
    ((run 320 (.sspSample 0 3 [0, 0]) (port3 { running := some { cap := 9 } } 0)).sspPort 3).last.dt = 9 ∧
    (run 320 (.sspSample 0 3 [0, 0]) (port3 { running := some { cap := 9 } } 0)).rd (SSP.SAMPLES 3) = 1 ∧
    (run 320 (.sspSample 0 3 [4, 0]) (withRegs (port3 { running := some { cap := 9 } } 0) [(SSP.STAT_MASK 3, 4)])).rd (SSP.BAD 3) = 1 := by
  decide +kernel

theorem test_sample_early : ({ cap := 9 } : SspTxn).lastBit = 320 ∧
    run 319 (.sspSample 0 3 [0, 0]) (port3 { running := some { cap := 9 } } 0) = port3 { running := some { cap := 9 } } 0 := by decide +kernel

theorem test_ssp_stale : (run (2 ^ 34) (.sspStale 0 3) (port3 { lastAt := some 0 } 0)).rd (SSP.STALE 3) = 1 ∧
    run 0 (.sspStale 0 3) { port3 { lastAt := some 0 } 0 with sys := {} } = { port3 { lastAt := some 0 } 0 with sys := {} } := by decide +kernel

/-- `lit` with the pose engine on. -/
def poseOn (p : PoseBlk) : Machine.Dev := { L [(POSE.POSE_EN, 1), (HDR.PG_EN 0x034000, 1), (SSP.ROLE 2, 1)] with pose := p }

theorem test_imu_return : (poseOn {}).poseEn = true ∧ (run 400000000 (.imuReturn 0) (poseOn { goodFrom := some 0 })).pose.kin = false ∧
    (run 399999999 (.imuReturn 0) (poseOn { goodFrom := some 0 })).pose.kin = true := by decide +kernel

theorem test_pose_reset : (run 0 (.poseReset 0) lit).pose.resetReq = true ∧ (poseOn {}).rolePort 1 = some 2 ∧
    run 0 (.imuPrimary 0) (poseOn { spare := true }) = poseOn { spare := true } ∧
    (run 5 (.imuPrimary 0) { poseOn { spare := true } with ssp := [(2, { lastAt := some 5, last := { dt := 4 } })] }).pose.spare = false := by decide +kernel

theorem test_history : (run 0 (.historyQuery 0 1) { lit with pose := { hist := [{ dt := 400 }] } }).rd POSE.HQ_STATUS = 1 ∧
    (run 0 (.historyQuery 0 0) { lit with pose := { hist := [{ dt := 400 }] } }).rd POSE.HQ_STATUS = 2 ∧
    (run 0 (.historyQuery 0 0) { lit with pose := { hist := [{ dt := 400 }, { dt := 0 }] } }).rd POSE.HQ_STATUS = 0 := by decide +kernel

/-- Product 7 in HOLD since DT 0, with a hold of 0.1 s. -/
def hold7 : Machine.Dev :=
  { L [(RATE.PROD_EN 7, 1), (DEC.HOLD_MAX 7, 1), (DEC.POSE_POLICY 7, 1), (DEC.POSE_MIN 7, 2)] with
    dec := { pol := [(7, { act := 2, holdFrom := some 0 })] } }

theorem test_hold_expired : hold7.policyOf 7 = 2 ∧ hold7.belowMin 7 = true ∧ hold7.policyWant 7 = 2 ∧
    (run 40000000 (.holdExpired 0 7) hold7).policyOf 7 = 3 ∧ bitOf ((run 40000000 (.holdExpired 0 7) hold7).rd DEC.HOLD_EXP) 7 = true ∧
    (run 39999999 (.holdExpired 0 7) hold7).policyOf 7 = 2 := by decide +kernel

/-! ### GNSS, TIME, GRID, CAL -/

theorem test_antenna : lit.antOpenMa = 3 ∧ (run 0 (.antOpen 0 2) (L [(GNSS.ANT_STATE, 1)])).rd GNSS.ANT_STATE = 2 ∧
    (run 0 (.antOk 0 3) (L [(GNSS.ANT_STATE, 2)])).rd GNSS.ANT_STATE = 1 ∧
    (run 9 (.antShort 0) (L [(GNSS.ANT_STATE, 2)])).gnss.biasOffAt = some 9 ∧ (run 9 (.antShort 0) (L [(GNSS.ANT_STATE, 1)])).rd GNSS.ANT_SHORTS = 1 ∧
    (run 399999999 (.antRetry 0) { L [(GNSS.ANT_STATE, 3), (GNSS.ANT_RETRY, 1)] with gnss := { biasOffAt := some 0 } }).rd GNSS.ANT_STATE = 3 := by
  decide +kernel

theorem test_antenna_retry : ∀ d : Machine.Dev, d.gnss.biasOffAt = some 0 → d.rd GNSS.ANT_STATE = 3 → d.rd GNSS.ANT_RETRY = 1 →
    d.antRetry 400000000 = ({ d with gnss := { d.gnss with biasOffAt := none } }).biasOn 400000000 := by
  intro d h a r
  simp [Dev.antRetry, h, a, r, sec]

/-- `lit` with the receiver on and its channel 127 as given. -/
def gnss (c : Chan) : Machine.Dev := { L [(GNSS.GNSS_EN, 1), (HDR.PG_EN 0x035000, 1)] with gnss := { chans := [(127, c)] } }

theorem test_channels : (gnss {}).gnssOn = true ∧ ((run 7 (.signalDetection 0 127) (gnss { st := .acq })).chan 127).st = .pullIn ∧
    ((run 7 (.signalDetection 0 127) (gnss { st := .reacq })).chan 127).st = .codeLock ∧
    ((run 7 (.carrierPhaseLock 0 127) (gnss { st := .codeLock })).chan 127).lockFrom = 7 ∧
    ((run 7 (.phaseLoss 0 127 true) (gnss { st := .phaseLock })).chan 127).st = .phaseLock ∧
    ((run 7 (.phaseLoss 0 127 false) (gnss { st := .phaseLock })).chan 127).st = .codeLock := by decide +kernel

theorem test_channel_timeouts : ((run 24000000000 (.channelTimeout 0 127) (gnss { st := .acq })).chan 127).st = .idle ∧
    ((run 4000000000 (.channelTimeout 0 127) (gnss { st := .reacq })).chan 127).st = .idle ∧
    ((run 80000000 (.channelTimeout 0 127) (gnss { st := .pullIn })).chan 127).st = .codeLock ∧
    ((run 400000000 (.channelTimeout 0 127) (gnss { st := .phaseLock, weakSince := some 0 })).chan 127).st = .reacq := by decide +kernel

theorem test_nav_unit : (run 0 (.navUnit 0 127 { nbits := 25, bits := [1] }) (gnss { st := .phaseLock })).rd GNSS.NAV_FAIL = 1 ∧
    tget? (run 0 (.navUnit 0 127 { nbits := 25, expiry := some 9 }) (gnss { st := .phaseLock, sig := 2, sv := 3 })).gnss.nav 515 = some 9 ∧
    (gnss {}).on GNSS.NAV_STREAM_EN = false := by decide +kernel

theorem test_epoch_taken : ∀ d : Machine.Dev, d.gnss.epochAt = some ((d.epochPoint 4000).1, (d.epochPoint 4000).2) → d.gnssEpoch 4000 {} = d := by
  intro d h
  simp [Dev.gnssEpoch, h]

theorem test_epoch_new : (gnss {}).gnssOn = true ∧ (gnss {}).gnss.epochAt = none := by decide +kernel

theorem test_raw_idx : (run 0 (.rawIdxSnapshot 0 127) lit).rd GNSS.RAW_IDX = 127 ∧ (run 0 (.rawIdxSnapshot 0 127) lit).rd (GNSS.RAW_REC 0) = 127 := by
  decide +kernel

/-- The block in EMBER with EMBER tracking. -/
def ember (g : GnssBlk) : Machine.Dev :=
  { L [(GNSS.GNSS_EN, 1), (GNSS.EMBER_TRK, 1), (HDR.PG_EN 0x035000, 1), (TIME.TIME_STATUS, 3)] with pwr := { st := .ember, stage := .none }, gnss := g }

/-- Five satellites seen on locked GPS L1 channels. -/
def five (g : GnssBlk) : Machine.Dev := ember { g with chans := (List.range 5).map (fun c => (c, { st := .codeLock, sig := 0, sv := c + 1 })) }

theorem test_ember_burst : (five { lastBurst := some 0 }).emberTrk = true ∧ (five {}).rd TIME.TIME_STATUS = 3 ∧
    (run 400000000 (.emberBurst 0 ((List.range 5).map (fun c => { ch := c })) { unc := 50 }) (five { lastBurst := some 0 })).rd TIME.TIME_STATUS = 0 ∧
    (run 400000000 (.emberBurst 0 ((List.range 5).map (fun c => { ch := c })) { unc := 51 }) (five { lastBurst := some 0 })).rd TIME.TIME_STATUS = 3 ∧
    (run 399999999 (.emberBurst 0 [] {}) (five { lastBurst := some 0 })) = five { lastBurst := some 0 } := by decide +kernel

theorem test_ephemeris_burst :
    tget? (run 0 (.ephemerisBurst 0 6 3 77 true) (ember { usedSats := [(3, 3)], nav := [(256 * 6 + 3, 720000000000)] })).gnss.nav (256 * 6 + 3) = some 77 ∧
    tget? (run 0 (.ephemerisBurst 0 6 3 77 true) (ember { usedSats := [(3, 3)], nav := [(256 * 6 + 3, 720000000001)] })).gnss.nav (256 * 6 + 3)
      = some 720000000001 ∧
    tget? (run 0 (.ephemerisBurst 0 6 3 77 true) (ember { nav := [(256 * 6 + 3, 7)] })).gnss.nav (256 * 6 + 3) = some 7 := by
  decide +kernel

theorem test_rtcm_push : (run 0 (.rtcmPush 0 2) { gnss {} with mem := [(0x035400, 5)] }).gnss.rtcm = [5, 0] ∧
    (run 0 (.rtcmPush 0 1025) (gnss {})).rd GNSS.RTCM_OVF = 1 := by decide +kernel

theorem test_rtcm_crc : (run 0 (.rtcmFrame 0) { gnss {} with gnss := { rtcm := [0xD3, 0, 0, 1, 2, 3] } }).rd GNSS.RTCM_CRC_ERR = 1 ∧
    (run 0 (.rtcmFrame 0) { gnss {} with gnss := { rtcm := [0xD3, 0, 0, 1, 2, 3] } }).gnss.rtcm = [0, 0, 1, 2, 3] ∧
    (run 0 (.rtcmFrame 0) { gnss {} with gnss := { rtcm := [7, 0xD3, 0, 1, 9] } }).gnss.rtcm = [0xD3, 0, 1, 9] := by decide +kernel

/-- A station message 1005 of station 9. -/
def msg1005 : List Nat := [0xD3, 0, 3, 0x3E, 0xD0, 0x09]

theorem test_rtcm_station : tget? (run 5 (.rtcmFrame 0) { gnss {} with gnss := { rtcm := msg1005 ++ [crc24q msg1005 / 2 ^ 16, crc24q msg1005 / 2 ^ 8 % 2 ^ 8, crc24q msg1005 % 2 ^ 8] } }).gnss.stations 9
    = some 5 := by decide +kernel

theorem test_corr_epoch : (run 80000000 (.correctionEpochClose 0) { gnss {} with gnss := { opens := [{ station := 9 }] } }).rd GNSS.BASE_ID = 9 ∧
    (run 79999999 (.correctionEpochClose 0) { gnss {} with gnss := { opens := [{ station := 9 }] } }).gnss.closed = none := by decide +kernel

/-- A closed correction epoch of GPS second 0 with the time known, `ms` milliseconds later. -/
def aged (fired : Bool) : Machine.Dev := { gnss {} with gnss := { closed := some {}, ageFired := fired } }

theorem test_corr_age : (withRegs (aged false) [(TIME.TIME_STATUS, 0)]).corrAgeMs 400000000 = some 1000 ∧
    (run (2 ^ 38) (.corrAge 0) (withRegs (aged false) [(TIME.TIME_STATUS, 0)])).gnss.ageFired = true ∧
    (run 400000000 (.corrAge 0) (withRegs (aged true) [(TIME.TIME_STATUS, 0)])).gnss.ageFired = false ∧
    (run (2 ^ 38) (.corrAge 0) (withRegs (aged true) [(TIME.TIME_STATUS, 0)])) = withRegs (aged true) [(TIME.TIME_STATUS, 0)] := by decide +kernel

/-- The time unit in a state. -/
def timeIn (st : Nat) (t : TimeBlk) : Machine.Dev := { L [(TIME.TIME_STATUS, st)] with time := t }

theorem test_holdover : (run 800000000 (.holdover 0) (timeIn 0 { base := some 0, slew := 5 })).rd TIME.TIME_STATUS = 1 ∧
    (run 800000000 (.holdover 0) (timeIn 0 { base := some 0, slew := 5 })).time.slew = 0 ∧
    (run 799999999 (.holdover 0) (timeIn 0 { base := some 0, slew := 5 })).rd TIME.TIME_STATUS = 0 := by decide +kernel

theorem test_freerun : max 1 ((timeIn 1 { base := some 0 }).rd TIME.HOLDOVER_MAX) < (timeIn 1 { base := some 0 }).hoTime (2 ^ 44) ∧
    (run (2 ^ 44) (.freerun 0) (timeIn 1 { base := some 0 })).rd TIME.TIME_STATUS = 2 ∧
    (run 0 (.freerun 0) (timeIn 1 { base := some 0 })).rd TIME.TIME_STATUS = 1 := by decide +kernel

theorem test_time_return :
    (run 4000000000 (.timeReturn 0) (timeIn 2 { goodFrom := some 0, lastGood := some 4000000000, err := 19999 })).rd TIME.TIME_STATUS = 0 ∧
    (run 4000000000 (.timeReturn 0) (timeIn 1 { goodFrom := some 0, lastGood := some 3200000000, err := -20000 })).time.stepDue.isSome = true := by
  decide +kernel

theorem test_time_step :
    (run 0 (.nextWholeGpsSecond 0) (timeIn 1 { stepDue := some (-7, 0) })).rd TIME.STEP = 1 ∧
    (run 0 (.nextWholeGpsSecond 0) (timeIn 1 { stepDue := some (-7, 0) })).rd TIME.STEP_SIZE = 2 ^ 32 - 7 ∧
    (run 400000000 (.nextWholeGpsSecond 0) (timeIn 0 {})).time.lastSec = 1 := by decide +kernel

theorem test_leap : (run 400000000 (.leapSecond 0) (timeIn 0 { leap := some (1, 19) })).rd TIME.LEAP_SEC = 19 ∧
    (run 399999999 (.leapSecond 0) (timeIn 0 { leap := some (1, 19) })).time.leap = some (1, 19) := by decide +kernel

theorem test_map : (run 0 (.mapSnap 0) (timeIn 0 { map := { dt := 2 ^ 33, week := 7, rate := -1 } })).rd TIME.MAP_DT_HI = 2 ∧
    (run 0 (.mapSnap 0) (timeIn 0 { map := { dt := 2 ^ 33, week := 7, rate := -1 } })).rd TIME.MAP_WEEK = 7 ∧
    (run 400000000 (.mapReanchor 0) (timeIn 0 {})).time.map.dt = 1000000000 ∧
    (run 399999999 (.mapReanchor 0) (timeIn 0 {})).time.map.dt = 0 := by decide +kernel

theorem test_tpo : (withRegs (timeIn 0 {}) [(TIME.TPO_EN, 1)]).tpoActive = true ∧
    (run 400000001 (.tpoPulse 0) (withRegs (timeIn 0 {}) [(TIME.TPO_EN, 1)])).time.tpoEdge.isSome = true := by decide +kernel

theorem test_tpo_once : (withRegs (timeIn 0 {}) [(TIME.TPO_EN, 1)]).tpoMultiple 400000001 = 1000000000 ∧
    run 400000001 (.tpoPulse 0) (withRegs (timeIn 0 { tpoMark := some (0, 1000000000) }) [(TIME.TPO_EN, 1)])
      = withRegs (timeIn 0 { tpoMark := some (0, 1000000000) }) [(TIME.TPO_EN, 1)] := by decide +kernel

theorem test_map_slew : (run 400000000 (.mapReanchor 0) (withRegs (timeIn 0 { slew := 250, slewNow := 200 }) [(TIME.SLEWING, 1)])).time.slew = 50 ∧
    (run 400000000 (.mapReanchor 0) (withRegs (timeIn 0 { slew := 250, slewNow := 200 }) [(TIME.SLEWING, 1)])).rd TIME.SLEW_REM = 50 ∧
    tget? (run 0 (.mapSnap 0) (timeIn 1 {})).hif.latch 0x03604C = some 1 := by decide +kernel

/-- `lit` with the grid running. -/
def gridOn : Machine.Dev := { L [(GRID.GRID_EN, 1), (HDR.PG_EN 0x038000, 1)] with sys := { gridOn := true, nextN := 5 } }

theorem test_camera : gridOn.gridRuns = true ∧ (run (1600000 + gridOn.trgPhase) (.cameraTrigger 0) (withRegs gridOn [(GRID.TRIG_DIV, 2)])).grid.trigs
    = [(1, 1600000 + gridOn.trgPhase)] := by decide +kernel

theorem test_net_refused : lit.netCheck.1 = 1 ∧ (run 0 (.netLoad 0) lit).rd GRID.NET_ERR = 1 ∧
    (run 0 (.netLoad 0) lit).raised EVT.GRID_NET_REFUSED 0 = true := by decide +kernel

theorem test_grid_cmds : (run 0 (.winClear 0) { L [(GRID.BLK_USED, 3)] with grid := { blocks := [{}] } }).rd GRID.BLK_USED = 0 ∧
    (run 0 (.auditReq 0) (withRegs gridOn [(GRID.NET_OK, 1)])).rd GRID.AUDIT_CAUSE = 2 ∧
    (run 0 (.srcRetry 0 15) { L [(GRID.SUS_CAUSE 15, 5)] with grid := { src := [(15, { lifted := false })] } }).gsrc 15 = { lifted := true } ∧
    (run 0 (.pairSnapshot 0 3 15) lit).rd GRID.PAIR_B = 15 ∧ (run 0 (.gridPeek 0 0) lit).rd GRID.PEEK_RES = 0 ∧
    gridOn.winEnds 999 = true ∧ gridOn.winEnds 998 = false := by decide +kernel

theorem test_feature_dropped : (run 0 (.featureTile 0 (List.replicate 64 0) []) lit2).rd GRID.DROP_OTHER = 1 ∧ lit2.kspUp 0 = true := by decide +kernel

/-- A tile header of source 15 under feature format `fmt`, captured at `ns`, with its CRC. -/
def tileHdr (fmt ns : Nat) : List (BitVec 8) :=
  let b := bytesLE 4 (0x21 + 0xF00 + 0x10000 * fmt) ++ bytesLE 4 0 ++ bytesLE 8 ns ++ bytesLE 8 0 ++ bytesLE 4 524288 ++ List.replicate 32 0
  (b ++ bytesLE 4 (crc32 b)).map (BitVec.ofNat 8)

/-- GRID running with a network of format 3 and source 15 on with a map of 128 by 128, its newest pose at DT 4,000,000. -/
def gridNet (g : GridBlk) (l : List (Field × Nat)) : Machine.Dev :=
  { withRegs gridOn ([(GRID.NET_OK, 1), (GRID.SRC_EN 15, 1), (CAM.TIMING 15, 1), (CAM.MAP_W 15, 128), (CAM.MAP_H 15, 128)] ++ l) with
    ksp := [(0, { st := .up })], grid := { g with net := some { featFmt := 3 } }, pose := { hist := [{ dt := 4000000 }, { dt := 0 }] } }

theorem test_tile_behind : (run 9 (.featureTile 0 (tileHdr 3 0) []) (gridNet { held := [{}] } [])).grid.waiting.length = 1 ∧
    (gridNet {} []).kspUp 0 = true ∧ (gridNet {} []).gridRuns = true := by decide +kernel

theorem test_tile_header : (tileHdr 3 0).length = 64 ∧ (run 9 (.featureTile 0 (tileHdr 2 0) []) (gridNet {} [])).rd (GRID.HDR_ERR 15) = 1 ∧
    (run 9 (.featureTile 0 (tileHdr 3 0) []) (gridNet {} [(GRID.SRC_EN 15, 0)])).rd GRID.DROP_OTHER = 1 := by decide +kernel

theorem test_tile_old : (run 1600000001 (.featureTile 0 (tileHdr 3 0) []) (gridNet {} [])).rd GRID.DROP_HIST = 1 := by decide +kernel

theorem test_tile_not_yet : (gridNet {} []).poseAt 4000400 = .notYet ∧
    (run 4000400 (.featureTile 0 (tileHdr 3 10001000) []) (gridNet {} [])).grid.held.map (fun t => (t.src, t.cap)) = [(15, 4000400)] := by decide +kernel

theorem test_tile_suspect :
    (run 4000000 (.featureTile 0 (tileHdr 3 10000000) []) (gridNet {} [(GRID.HEALTH 15, 3), (GRID.GRID_POSE_MIN, 0)])).rd (GRID.SRC_TILES 15) = 1 := by
  decide +kernel

theorem test_health_window : (run 399600009 (.healthWindow 0) { gridNet { macs := 300000000 } [] with sys := { gridOn := true, nextN := 1000 } }).rd GRID.LOAD_ACT = 3 ∧
    (run 399600009 (.healthWindow 0) { gridNet { macs := 300000000 } [] with sys := { gridOn := true, nextN := 1000 } }).grid.macs = 0 := by decide +kernel

theorem test_cal : run 0 (.calReset 0 0) lit = lit ∧
    tget? (run 0 (.calReset 0 0x8000) { lit with cal := { corr := [(15, [1])] } }).cal.corr 15 = none ∧
    (run 4000000000 (.calStore 0) { lit with cal := { changed := true } }).cal.storedAt = 4000000000 ∧ run 0 (.calStore 0) lit = lit := by decide +kernel

/-! ### IDC -/

/-- `lit` with channel 31 as given, its profile 0 accepted, with one phase of `iHi` mA. -/
def coil (c : IdcCh) (iHi : Nat) : Machine.Dev :=
  { L [(PHS.I_HI 0 0, iHi)] with idc := [(31, c)], idcB := { accepted := 1 } }

/-- A pulse since DT 1000 with one phase. -/
def pls : Pulse := { start := 1000, phaseAt := 1000, cmd := 900, prof := { phases := [{ peak := true, endOn := 1, iHi := 500, tMax := 10, tMin := 2 }], okEn := true, ckEn := true } }

theorem test_pulse_start : (coil {} 500).driving = true ∧ (coil {} 500).idcBlocked 31 = false ∧ (coil {} 500).idcSusp 31 = false ∧
    ((coil {} 500).profileAt ((coil {} 500).idcProfNo 31)).iPk = 500 ∧ 500 ≤ (coil {} 500).peakLim 7 ∧
    ((run 50 (.pulseStart 0 31) (coil { cmds := [{ dt := 50, on := true }] } 500)).idcCh 31).act = .on ∧
    (((run 50 (.pulseStart 0 31) (coil { cmds := [{ dt := 50, on := true }] } 500)).idcCh 31).pulse.map (fun p => (p.cmd, p.start, p.seq))) = some (50, 50, 1) ∧
    (run 50 (.pulseStart 0 31) (coil { cmds := [{ dt := 50, on := true }] } 500)).rd (IDC.PULSE_CNT 31) = 1 ∧
    run 49 (.pulseStart 0 31) (coil { cmds := [{ dt := 50, on := true }] } 500) = coil { cmds := [{ dt := 50, on := true }] } 500 := by decide +kernel

/-- The first DT at which `pls` may end: MIN_ON of 0.5 ms after its start. -/
def minEnd : Nat := 1000 + 200000

theorem test_pulse_end :
    ((run minEnd (.pulseEnd 0 31) (coil { act := .on, pulse := some { pls with cmdEnd := some 5 } } 500)).idcCh 31).act = .idle ∧
    ((run minEnd (.pulseEnd 0 31) (coil { act := .on, pulse := some { pls with cmdEnd := some 5 } } 500)).idcCh 31).lastEnd = some minEnd ∧
    ((run (minEnd - 1) (.pulseEnd 0 31) (coil { act := .on, pulse := some { pls with cmdEnd := some 5 } } 500)).idcCh 31).act = .on := by decide +kernel

theorem test_min_on :
    ((run minEnd (.minOnEnd 0 31) (coil { act := .on, pulse := some pls, cmds := [{ dt := 1100 }] } 500)).idcCh 31).done.map (fun q => (q.ended, bitOf q.flags 4))
      = some (minEnd, true) ∧
    ((run (minEnd - 1) (.minOnEnd 0 31) (coil { act := .on, pulse := some pls, cmds := [{ dt := 1100 }] } 500)).idcCh 31).act = .on ∧
    ((run minEnd (.minOnEnd 0 31) (coil { act := .on, pulse := some { pls with cmdEnd := some 5 } } 500)).idcCh 31).act = .idle := by decide +kernel

theorem test_min_off :
    ((run 800000 (.minOffEnd 0 31) (coil { act := .defer, pulse := some pls, lastEnd := some 0 } 500)).idcCh 31).act = .on ∧
    ((run 799999 (.minOffEnd 0 31) (coil { act := .defer, pulse := some pls, lastEnd := some 0 } 500)).idcCh 31).act = .defer := by decide +kernel

/-- `pls` with its profile's phases and what its samples showed. -/
def plsOf (l : List Phase) (q : PulseSense) : Pulse := { pls with prof := { pls.prof with phases := l, okDip := 40, ckThr := 30 }, sense := q }

theorem test_phases :
    (((run 41000 (.phaseEnd 0 31 7 0) (coil { act := .on, pulse := some (plsOf [{ tMax := 10, iHi := 500 }, {}] {}) } 500)).idcCh 31).pulse.map
      (fun r => (r.phase, r.phaseAt))) = some (1, 41000) ∧
    (run 41000 (.phaseEnd 0 31 7 0) (coil { act := .on, pulse := some (plsOf [{ tMax := 10, iHi := 500 }, {}] {}) } 500)).rd (IDC.PK_WARN 31) = 1 ∧
    (((run 9000 (.phaseEnd 0 31 7 0) (coil { act := .on, pulse := some (plsOf [{ endOn := 1, tMin := 2, iHi := 7 }, {}] {}) } 500)).idcCh 31).pulse.map
      (fun r => (r.phase, r.phaseAt))) = some (1, 9000) ∧
    (((run 9000 (.phaseEnd 0 31 6 0) (coil { act := .on, pulse := some (plsOf [{ endOn := 1, tMin := 2, iHi := 7 }, {}] {}) } 500)).idcCh 31).pulse.map
      (·.phase)) = some 0 ∧
    (run 9000 (.phaseEnd 0 31 5000 0) (coil {} 500)).rd (IDC.I_NOW 31) = 4095 := by
  decide +kernel

theorem test_opening :
    (((run 9000 (.phaseEnd 0 31 7 0) (coil { act := .on, pulse := some (plsOf [{ peak := true, endOn := 2, iHi := 500 }]
      { dipLow := some (100, 55), lsOn := true, step := 1, sum := 120, cnt := 1 }) } 500)).idcCh 31).pulse.map (·.openT)) = some (some 55) ∧
    (((run 9000 (.phaseEnd 0 31 7 0) (coil { act := .on, pulse := some (plsOf [{ peak := true, endOn := 2, iHi := 500 }]
      { dipLow := some (100, 55), lsOn := true, step := 1, sum := 119, cnt := 1 }) } 500)).idcCh 31).pulse.map (·.openT)) = some none := by
  decide +kernel

theorem test_seating :
    (((run 8020 (.phaseEnd 0 31 7 0) (coil { done := some { plsOf [{}] { prev := [10, 30], sum := 20, cnt := 1, step := 1 } with ended := 20 } } 500)).idcCh 31).done.map
      (·.sense.best)) = some (some (30, 2020)) ∧
    (((run 8020 (.phaseEnd 0 31 7 0) (coil { done := some { plsOf [{}] { prev := [10, 30], sum := 19, cnt := 1, step := 1 } with ended := 20 } } 500)).idcCh 31).done.map
      (·.sense.best)) = some none := by
  decide +kernel

theorem test_decay : ((run 9 (.endDecayDone 0 31) (coil { decay := true } 500)).idcCh 31).decay = false ∧
    run 9 (.endDecayDone 0 31) (coil {} 500) = coil {} 500 ∧
    (((run 800000 (.endDecayDone 0 31) (coil { act := .defer, decay := true, lastEnd := some 0, pulse := some { pls with waitFrom := 800000 } } 500)).idcCh 31).act)
      = .on := by decide +kernel

theorem test_stagger : 31 ∈ groupChs 7 ∧
    (((run (4000 * min 1000 ((coil {} 0).rd (IDG.STAGGER_MAX 7))) (.staggerMaxExpiry 0 7)
      (coil { act := .wait, pulse := some { prof := { phases := [{ iHi := 60000, peak := true }, { iHi := 100 }] } } } 500)).idcCh 31).pulse.map (·.limit)) =
      some (some ((coil {} 0).peakLim 7)) := by decide +kernel

theorem test_pulse_record : ((run 8000020 (.pulseRecord 0 31 5) (coil { done := some { pls with ended := 20 } } 500)).idcCh 31).done = none ∧
    ((run 8000020 (.pulseRecord 0 31 5) (coil { done := some { pls with ended := 20 } } 500)).idcCh 31).lastRec.length = 10 ∧
    ((run 8000019 (.pulseRecord 0 31 5) (coil { done := some { pls with ended := 20 } } 500)).idcCh 31).done.isSome = true := by decide +kernel

/-- `pls` in a REGULATE phase, its low side off since DT 0. -/
def reg : Pulse := plsOf [{ kind := 1, iHi := 500 }] {}

theorem test_shorts : ((run 9 (.scSup 0 31 6001 800) (coil { act := .on, pulse := some pls } 500)).idcCh 31).latched = true ∧
    (run 9 (.scSup 0 31 6001 800) (coil { act := .on, pulse := some pls } 500)).rd (IDC.FAULT 31) = 3 ∧
    run 9 (.scSup 0 31 6000 800) (coil { act := .on, pulse := some pls } 500) = coil { act := .on, pulse := some pls } 500 ∧
    run 9 (.scSup 0 31 6001 799) (coil { act := .on, pulse := some pls } 500) = coil { act := .on, pulse := some pls } 500 := by decide +kernel

theorem test_short_to_ground : reg.regulates = true ∧ reg.thr.1 = 500 ∧
    (run 40000 (.scGnd 0 31 450) (coil { act := .on, pulse := some reg } 500)).rd (IDG.GRP_LATCH 7) = 1 ∧
    (run 40000 (.scGnd 0 31 450) (coil { act := .on, pulse := some reg } 500)).rd (IDC.FAULT 31) = 2 ∧
    (run 40000 (.scGnd 0 31 450) (coil { act := .on, pulse := some reg } 500)).raised EVT.IDC_GRP_LATCH 7 = true ∧
    run 40000 (.scGnd 0 31 449) (coil { act := .on, pulse := some reg } 500) = coil { act := .on, pulse := some reg } 500 ∧
    run 39999 (.scGnd 0 31 450) (coil { act := .on, pulse := some reg } 500) = coil { act := .on, pulse := some reg } 500 := by decide +kernel

theorem test_hsg_oc : (run 9 (.hsgOc 0 7 10001 800) (withRegs (coil { act := .on, pulse := some pls } 500) [(IDG.HSG_ON 7, 1)])).rd (IDC.FAULT 31) = 4 ∧
    ((run 9 (.hsgOc 0 7 10001 800) (withRegs (coil { act := .on, pulse := some pls } 500) [(IDG.HSG_ON 7, 1)])).idcCh 31).act = .idle ∧
    (run 9 (.mismatch 0 7 301 80000) (withRegs lit [(IDG.HSG_ON 7, 1)])).rd (IDG.MISMATCH 7) = 1 ∧
    (run 9 (.mismatch 0 7 300 80000) (withRegs lit [(IDG.HSG_ON 7, 1)])).rd (IDG.MISMATCH 7) = 0 := by decide +kernel

theorem test_open_load : (run 401000 (.openLoad 0 31 31) (coil { act := .on, pulse := some pls } 500)).rd (IDC.FAULT 31) = 1 ∧
    run 401000 (.openLoad 0 31 32) (coil { act := .on, pulse := some pls } 500) = coil { act := .on, pulse := some pls } 500 ∧
    run 400999 (.openLoad 0 31 31) (coil { act := .on, pulse := some pls } 500) = coil { act := .on, pulse := some pls } 500 := by decide +kernel

theorem test_off_test : (run 80000 (.idcOffTest 0 31 0 1 (-3)) (coil { calNext := true } 500)).rdS (IDC.OFS_CAL 31) = -3 ∧
    (run 80000 (.idcOffTest 0 31 0 1 0) (withRegs (coil {} 500) [(IDC.FAULT 31, 1)])).rd (IDC.FAULT 31) = 0 ∧
    (run 80000 (.idcOffTest 0 31 1 0 0) (coil {} 500)).rd (IDC.FAULT 31) = 1 ∧ (run 80000 (.idcOffTest 0 31 0 0 0) (coil {} 500)).rd (IDC.DIAG_OFF 31) = 3 ∧
    ((run 80000 (.idcOffTest 0 31 2 2 0) (coil {} 500)).idcCh 31).latched = true ∧ (run 80000 (.idcOffTest 0 31 1 1 0) (coil {} 500)).rd (IDC.DIAG_OFF 31) = 5 ∧
    run 79999 (.idcOffTest 0 31 1 0 0) (coil {} 500) = coil {} 500 := by
  decide +kernel

theorem test_flt_clr : ((run 9 (.idcFltClr 0 31) (coil { latched := true } 500)).idcCh 31).latched = false ∧
    (run 9 (.grpFltClr 0 7) (withRegs (coil {} 500) [(IDG.GRP_LATCH 7, 1), (IDC.FAULT 31, 2)])).rd (IDC.FAULT 31) = 0 ∧
    (run 9 (.grpFltClr 0 7) (withRegs (coil {} 500) [(IDG.GRP_LATCH 7, 1)])).rd (IDG.GRP_LATCH 7) = 0 ∧
    (run 9 (.recChSnapshot 0 7 3) (coil { lastRec := [8, 9] } 500)).rd (IDG.REC 7 1) = 9 := by decide +kernel

/-! ### LSW -/

/-- `lit` with switch 15 as given. -/
def sw (c : LswCh) (l : List (Field × Nat)) : Machine.Dev := { L l with lsw := [(15, c)] }

theorem test_switch_on : (sw {} []).driving = true ∧ (((sw {} []).modLsw 15 (fun x => { x with com := true })).lswWant 15).1 = true ∧
    ((run 50 (.lswSwitchOn 0 15) (sw { cmds := [{ dt := 50, on := true }] } [])).lswCh 15).drv = true ∧
    ((run 50 (.lswSwitchOn 0 15) (sw { cmds := [{ dt := 50, on := true }] } [])).lswCh 15).inr = true ∧
    (run 50 (.lswSwitchOn 0 15) (sw { cmds := [{ dt := 50, on := true }] } [])).rd (LSW.SW_ON_CNT 15) = 1 ∧
    ((run 49 (.lswSwitchOn 0 15) (sw { cmds := [{ dt := 50, on := true }] } [])).lswCh 15).drv = false ∧
    ((run 50 (.lswSwitchOn 0 15) (sw { cmds := [{ dt := 50, on := true, opens := true, force := 2 }] } [])).lswCh 15).force = 2 := by decide +kernel

theorem test_switch_off : ((run 50 (.lswSwitchOff 0 15) (sw { cmds := [{ dt := 50 }], com := true, drv := true } [(LSW.I_MEAS 15, 9)])).lswCh 15).drv = false ∧
    (run 50 (.lswSwitchOff 0 15) (sw { cmds := [{ dt := 50 }], com := true, drv := true } [(LSW.I_MEAS 15, 9)])).rd (LSW.I_MEAS 15) = 0 := by decide +kernel

/-- Switch 15 waits since DT 0 on a bank that is nearly full. -/
def waiting : Machine.Dev :=
  { L [(LSW.I_NOM 15, 900), (LSW.I_NOM 6, 39000), (LSW.I_NOM 14, 3000)] with
    lsw := [(6, { com := true, drv := true }), (14, { com := true, drv := true }), (15, { com := true, waitFrom := some 0 })] }

theorem test_admit : (waiting.lswWant 15).1 = true ∧ (waiting.lswCh 15).offDue 4000000 = false ∧
    40000 < waiting.bankLoad 4000000 15 + waiting.lswInrushLim 15 0 ∧ waiting.bankLoad 4000000 15 + waiting.lswSteady 15 ≤ 40000 ∧
    ((run 4000000 (.lswAdmitTimeout 0 15) waiting).lswCh 15).cut.isSome = true ∧
    ((run 3999999 (.lswAdmitTimeout 0 15) waiting).lswCh 15).waitFrom = some 0 := by decide +kernel

theorem test_inrush : ((run ((sw {} []).lswInrush 15) (.inrushEnd 0 15) (sw { com := true, drv := true, inr := true } [])).lswCh 15).inr = false ∧
    ((run 0 (.inrushEnd 0 15) (sw { com := true, drv := true, inr := true } [])).lswCh 15).inr = true ∧ 0 < (sw {} []).lswInrush 15 := by decide +kernel

theorem test_reverse : ((run 0 (.reverseBlock 0 15 201) (sw { com := true, drv := true } [])).lswCh 15).rev = true ∧
    (run 0 (.reverseBlock 0 15 201) (sw { com := true, drv := true } [])).rd LSB.REVERSE_CNT = 1 ∧
    (run 0 (.reverseBlock 0 15 200) (sw { com := true, drv := true, rev := true } [])).rd LSB.REVERSE_CNT = 0 := by decide +kernel

/-- The hold windows of channel 31 and switch 15 in a logic-die reset. -/
def holding : Machine.Dev :=
  { L [(WDG.SNUFF_STATE 47, 1)] with pwr := { lit.pwr with stage := .relight }, idc := [(31, { holdEnd := some 9 })], lsw := [(15, { holdEnd := some 9 })] }

theorem test_hold_window : ((run 9 (.holdWindowEnd 0 47) holding).lswCh 15).snuff = some 1 ∧ ((run 9 (.holdWindowEnd 0 47) holding).lswCh 15).holdEnd = none ∧
    run 8 (.holdWindowEnd 0 47) holding = holding ∧ run 8 (.holdWindowEnd 0 31) holding = holding ∧ (holding.idcCh 31).holdEnd = some 9 := by decide +kernel

/-- Bank 3 with switches 6 and 15 on. -/
def bank3 : Machine.Dev := { L [(LSW.I_NOM 6, 900), (LSW.I_NOM 7, 9), (LSW.I_NOM 14, 9), (LSW.I_NOM 15, 90)] with
  lsw := [(6, { com := true, drv := true, inr := true }), (15, { com := true, drv := true })] }

theorem test_bank_peak : bankSwitches 3 = [6, 7, 14, 15] ∧ (run 0 (.bankPeak 0 3 9000 5 5 7001 400000000) bank3).rd LSB.INRUSH_CUT_CNT = 1 ∧
    ((run 0 (.bankPeak 0 3 9000 5 5 7001 400000000) bank3).lswCh 6).inr = false ∧ ((run 0 (.bankPeak 0 3 9000 5 5 7000 400000000) bank3).lswCh 6).inr = true ∧
    (run 0 (.bankPeak 0 3 9000 5 5 7000 400000000) bank3).rd (LSW.I_MEAS 7) = 0 := by decide +kernel

theorem test_bank_overload : (run 0 (.bankOverload 0 3 9000 5 5 7001 400000000) bank3).rd LSB.BANK_OVL_CNT = 1 ∧
    (run 0 (.bankOverload 0 3 9000 5 5 7001 400000000) bank3).rd (LSW.THERM_CNT 15) = 1 ∧ ((run 0 (.bankOverload 0 3 9000 5 5 7001 400000000) bank3).lswCh 6).drv = true := by
  decide +kernel

theorem test_bank_short : (run 0 (.bankPeak 0 3 9000 5 5 7001 3999999) bank3).rd LSB.INRUSH_CUT_CNT = 0 ∧
    (run 0 (.bankOverload 0 3 9000 5 5 7001 399999999) bank3).rd LSB.BANK_OVL_CNT = 0 := by decide +kernel

theorem test_overload : (run (2 ^ 34) (.lswOverload 0 15 65535 (2 ^ 33)) (sw { com := true, drv := true } [(LSW.THERM_MODE 15, 1)])).rd (LSW.THERM_LATCH 15) = 1 ∧
    (run (2 ^ 34) (.lswOverload 0 15 65535 (2 ^ 33)) (sw { com := true, drv := true } [(LSW.RETRY_MAX 15, 0)])).rd (LSW.FAULT 15) = 6 ∧
    (run (2 ^ 34) (.lswOverload 0 15 65535 (2 ^ 33)) (sw { com := true, drv := true } [(LSW.RETRY_MAX 15, 1)])).rd (LSW.FAULT 15) = 4 ∧
    run 0 (.lswOverload 0 15 65535 (2 ^ 33)) (sw { com := true, drv := true } []) = sw { com := true, drv := true } [] := by decide +kernel

theorem test_thermal : (run 0 (.thermalShutdown 0 15 175) (sw { com := true, drv := true } [(LSW.RETRY_MAX 15, 1)])).rd (LSW.FAULT 15) = 5 ∧
    (run 0 (.thermalShutdown 0 15 175) (sw { com := true, drv := true } [(LSW.RETRY_MAX 15, 0)])).rd (LSW.THERM_LATCH 15) = 1 ∧
    (run 0 (.coolRestart 0 15 160) (sw { com := true, hot := true } [])).rdS (LSW.CH_TEMP 15) = 160 ∧
    ((run 0 (.coolRestart 0 15 160) (sw { com := true, hot := true } [])).lswCh 15).drv = true ∧
    (run 0 (.lswFltClr 0 15) (sw { restarts := [3] } [(LSW.FAULT 15, 6), (LSW.THERM_LATCH 15, 1)])).rd (LSW.FAULT 15) = 0 := by decide +kernel

theorem test_on_state : (sw { com := true, drv := true } []).lswJudged 15 = true ∧
    (run 4000000 (.lswOpen 0 15 4 4000000) (sw { com := true, drv := true } [(LSW.OL_ON_MA 15, 5)])).rd (LSW.FAULT 15) = 1 ∧
    (run 4000000 (.lswOpen 0 15 5 4000000) (sw { com := true, drv := true } [(LSW.OL_ON_MA 15, 5)])).rd (LSW.FAULT 15) = 0 ∧
    (run 0 (.lswScGnd 0 15 65535 1999 400000) (sw { com := true, drv := true } [])).rd (LSW.FAULT 15) = 2 := by decide +kernel

theorem test_off_state : (run 0 (.lswOffTest 0 15 999) (sw {} [(LSW.OFF_DIAG_EN 15, 1)])).rd (LSW.DIAG_OFF 15) = 1 ∧
    (run 0 (.lswOffTest 0 15 2000) (sw {} [(LSW.OFF_DIAG_EN 15, 1)])).rd (LSW.DIAG_OFF 15) = 2 ∧
    (run 0 (.lswOffTest 0 15 4000) (sw {} [(LSW.OFF_DIAG_EN 15, 1)])).rd (LSW.DIAG_OFF 15) = 2 ∧
    (run 0 (.lswOffTest 0 15 5001) (sw {} [(LSW.OFF_DIAG_EN 15, 1)])).rd (LSW.FAULT 15) = 3 ∧
    (run 0 (.lswOffTest 0 15 5001) (sw {} [(LSW.OFF_DIAG_EN 15, 1), (LSW.DUAL_FED 15, 1)])).rd (LSW.DIAG_OFF 15) = 4 ∧
    ((run 3999999 (.lswOffTest 0 15 0) (sw { testAt := some 0 } [(LSW.OFF_DIAG_EN 15, 1)])).lswCh 15).testAt = some 0 ∧
    ((run 4000000 (.lswOffTest 0 15 0) (sw { testAt := some 0 } [(LSW.OFF_DIAG_EN 15, 1)])).lswCh 15).testAt = some 4000000 := by decide +kernel

/-! ### WDG, PWM, TRIP, GIN, FBK -/

/-- `d` with its WDG page unlocked at DT 0. -/
def unl (b : Nat) (d : Machine.Dev) : Machine.Dev := { d with hif := { d.hif with unlocked := [(b, 0)] } }

theorem test_snuff_table : (unl wdgPage lit).unlocked 0 wdgPage = true ∧
    (snuffFields 47).all (fun f => (run 0 (.snuffTableWrite 0 47 1) (unl wdgPage lit)).rd f == bitsOf 1 f.lo f.width) = true ∧
    (snuffFields 48).all (fun f => (run 0 (.snuffTableWrite 0 48 1) (unl wdgPage lit)).rd f == bitsOf 1 f.lo f.width) = true ∧
    run 0 (.snuffTableWrite 0 47 1) { unl wdgPage lit with mram := { cnt := [(9, { a := { val := 1 } })] } }
      = { unl wdgPage lit with mram := { cnt := [(9, { a := { val := 1 } })] } } := by decide +kernel

theorem test_snuff_store : (run 0 (.snuffStore 0) lit).rd WDG.SNUFF_NOIMG = 1 ∧ lit.cntVal 9 = 0 ∧
    ({ L [(PWR.CFG_VALID, 1)] with mram := { image := some {} } } : Machine.Dev).on PWR.CFG_VALID = true := by decide +kernel

theorem test_safe_n : (run 9 (.safeNAssert 0) lit).rd WDG.SAFE_CNT = 1 ∧ (run 9 (.safeNAssert 0) lit).wdg.safePath = true ∧
    (run 9 (.safeNAssert 0) lit).raised EVT.WDG_SAFE 0 = true ∧ (run 9 (.safeNRise 0) (L [(WDG.SAFE_LEVEL, 1)])).wdg.highAt = 9 := by decide +kernel

/-- A SAFE_N path whose input is high since DT 0. -/
def safe (l : List (Field × Nat)) : Machine.Dev := { L l with wdg := { safePath := true } }

theorem test_safe_release : (safe [(WDG.SAFE_RELEASE, 0)]).safeAuto = true ∧ (safe [(WDG.SAFE_RELEASE, 1)]).safeAuto = false ∧
    (run 4000000 (.safeNAutoRelease 0) (safe [(WDG.SAFE_RELEASE, 0)])).wdg.safePath = false ∧
    (run 3999999 (.safeNAutoRelease 0) (safe [(WDG.SAFE_RELEASE, 0)])).wdg.safePath = true ∧
    (run 0 (.safeClr 0) (safe [(WDG.SAFE_RELEASE, 1)])).wdg.safePath = false ∧
    (run 0 (.safeClr 0) (safe [(WDG.SAFE_RELEASE, 1), (WDG.SAFE_LEVEL, 1)])).wdg.safePath = true ∧
    (Dev.pathSync (L [(WDG.SNUFF_ACT, 1)]) 0).dec.openOff = true ∧ (safe [(WDG.SNUFF_ACT, 1)]).pathSync 0 = safe [(WDG.SNUFF_ACT, 1)] := by decide +kernel

/-- An armed watchdog whose window counts from DT 0. -/
def dog (l : List (Field × Nat)) : Machine.Dev := L ([(WDG.WDG_EN, 1), (WDG.WDG_ARMED, 1), (WDG.CHALLENGE, 0x1234), (WDG.ERR_LIMIT, 2)] ++ l)

theorem test_wdg_en : lit.pwr.mode = .host ∧ lit.on WDG.WDG_ARMED = false ∧ (unl wdgPage lit).unlocked 5 wdgPage = true ∧
    (run 5 (.wdgEn 0 true) (unl wdgPage (dog []))).rd WDG.WDG_EN = 1 ∧ (run 5 (.wdgEn 0 false) (unl wdgPage (dog []))).rd WDG.WDG_ARMED = 0 := by decide +kernel

theorem test_wdg_response : 0 < (dog []).wdg.from_ + (dog []).wdgClose ∧ (dog []).wdg.first = true ∧ (dog []).wdgAnswer < 65536 ∧ (dog []).wdgAnswer ≠ 7 ∧
    (run 0 (.response 0 7) (dog [])).rd WDG.ERR_CNT = 1 ∧ (run 0 (.response 0 7) (dog [])).rd WDG.LAST_ERR = 2 ∧
    2 ≤ counted (dog [(WDG.ERR_CNT, 1)]) WDG.ERR_CNT ∧ run 0 (.response 0 7) lit = lit ∧
    (run 0 (.response 0 (BitVec.ofNat 16 (dog []).wdgAnswer)) { dog [] with wdg := { first := false } }).rd WDG.LAST_ERR = 1 ∧
    0 < (dog []).wdgOpen := by decide +kernel

theorem test_wdg_expired : (dog []).wdg.from_ + (dog []).wdgClose ≤ 2 ^ 40 ∧ (dog []).alive = true ∧
    run 0 (.watchdogExpired 0) (dog []) = dog [] ∧ (dog [(WDG.WDG_EXP, 1)]).on WDG.WDG_EXP = true := by decide +kernel

theorem test_out_en : (run 9 (.outEn 0 0x800) lit).rd PWM.OUT_EN = 0x800 ∧ ((run 9 (.outEn 0 0x800) lit).pwmOut 11).edgeAt = some 9 := by decide +kernel

theorem test_pwm_update : ((run 9 (.pwmUpdatePoint 0 11) lit).pwmOut (lit.pwmGov 11)).synced = 9 := by decide +kernel

theorem test_trip : bitOf ((run 9 (.tripAssert 0 3 65536) (L [(TRIP.TRIP_MAP 3, 0x20)])).rd TRIP.GRP_HELD) 5 = true ∧
    (run 9 (.tripAssert 0 3 65536) (L [(TRIP.TRIP_MAP 3, 0x20)])).raised EVT.TRIP_ASSERT 3 = true ∧
    (tget (run 9 (.tripBlankEnd 0 3) { L [(TRIP.TRIP_MAP 3, 0x20), (TRIP.TRIP_LEVEL, 8)] with pwm := { trips := [(3, { waits := true })] } }).pwm.trips 3).holds = 0x20 ∧
    bitOf ((run 9 (.tripDeassert 0 3 65536) (L [(TRIP.TRIP_LEVEL, 8)])).rd TRIP.TRIP_LEVEL) 3 = false ∧
    (tget (run 9 (.tripClr 0 8) { lit with pwm := { trips := [(3, { holds := 0x20 })] } }).pwm.trips 3).clr = 0x20 := by decide +kernel

theorem test_trip_filter : (L [(TRIP.FILT 3, 7)]).rd (TRIP.FILT 3) = 7 ∧
    run 9 (.tripAssert 0 3 6) (L [(TRIP.FILT 3, 7)]) = L [(TRIP.FILT 3, 7)] ∧
    bitOf ((run 9 (.tripAssert 0 3 7) (L [(TRIP.FILT 3, 7)])).rd TRIP.TRIP_LEVEL) 3 = true := by decide +kernel

theorem test_gin : bitOf ((run 9 (.ginChange 0 23 true 400000000) (L [(GIN.GIN_EVT_EN, 0x800000)])).rd GIN.GIN_STATE) 23 = true ∧
    bitOf ((run 9 (.ginChange 0 23 true 400000000) (L [(GIN.GIN_EVT_EN, 0x800000)])).rd GIN.GIN_CHG) 23 = true ∧
    (run 9 (.ginChange 0 23 true 400000000) (L [(GIN.GIN_EVT_EN, 0x800000)])).raised EVT.GIN_CHANGE 23 = true ∧ run 9 (.ginChange 0 23 false 400000000) lit = lit ∧
    run 9 (.ginChange 0 23 true 799) (L [(GIN.DEB_MS 23, 0)]) = L [(GIN.DEB_MS 23, 0)] := by decide +kernel

/-- Channel 7 in the mode `m`. -/
def fb (m : Nat) (l : List (Field × Nat)) : Machine.Dev := L ([(FBK.MODE 7, m)] ++ l)

theorem test_edge : (fb 1 []).fbkMode 7 = 1 ∧ (fb 1 []).fbkCount 7 false true true = -1 ∧ (fb 1 []).fbkCount 7 true true true = 1 ∧
    (run 9 (.fbkEdge 0 7 true true true 65536) (fb 1 [])).rd (FBK.POS 7) = 1 ∧ (run 9 (.fbkEdge 0 7 false true true 65536) (fb 1 [])).rd (FBK.POS 7) = 2 ^ 32 - 1 ∧
    ((run 9 (.fbkEdge 0 7 true true true 65536) (fb 1 [])).fbkCh 7).e1 = some 9 := by decide +kernel

theorem test_index : (run 9 (.indexPulse 0 7 65536) (fb 1 [(FBK.IDX_EN 7, 1), (FBK.IDX_HOME 7, 1), (FBK.IDX_POS 7, 2 ^ 32 - 5)])).fbkPos 7 = -5 ∧
    (run 9 (.indexPulse 0 7 65536) (fb 1 [(FBK.IDX_EN 7, 1), (FBK.IDX_PERIOD 7, 100), (FBK.IDX_TOL 7, 2), (FBK.POS 7, 98), (FBK.MISS_RUN 7, 1)])).rd (FBK.MISS_RUN 7) = 0 ∧
    (run 9 (.indexPulse 0 7 65536) (fb 1 [(FBK.IDX_EN 7, 1), (FBK.IDX_PERIOD 7, 100), (FBK.IDX_TOL 7, 2), (FBK.POS 7, 97), (FBK.IDX_POLICY 7, 1)])).fbkPos 7 = 100 ∧
    (run 9 (.indexPulse 0 7 65536) (fb 1 [(FBK.IDX_EN 7, 1), (FBK.IDX_PERIOD 7, 100), (FBK.IDX_TOL 7, 2), (FBK.POS 7, 97), (FBK.IDX_POLICY 7, 2)])).fbkPos 7 = 0 ∧
    (run 9 (.indexPulse 0 7 65536) (fb 1 [(FBK.IDX_EN 7, 1), (FBK.IDX_PERIOD 7, 100), (FBK.IDX_TOL 7, 2), (FBK.POS 7, 97)])).raised EVT.FBK_INDEX_MISMATCH 7 = true := by
  decide +kernel

theorem test_pos_load : (run 9 (.posLoad 0 7) (fb 1 [(FBK.POS_VAL 7, 2 ^ 32 - 5)])).fbkPos 7 = -5 ∧ (run 9 (.fbkClr 0 7) (fb 1 [(FBK.SUSPECT 7, 1)])).rd (FBK.SUSPECT 7) = 0 := by
  decide +kernel

/-- Channel 7 in serial mode on the running grid. -/
def ssi (l : List (Field × Nat)) : Machine.Dev := { fb 3 l with sys := { gridOn := true, nextN := 5 } }

theorem test_ssi : ((run 1999999 (.ssiTransfer 0 7 false) (ssi [])).fbkCh 7).ssiRun = some 1999999 ∧ (run 1999999 (.ssiTransfer 0 7 true) (ssi [])).rd (FBK.SSI_ERR_LAST 7) = 4 ∧
    (run (2 ^ 20) (.ssiWord 0 7 0x1AB 400) { fb 3 [(FBK.SSI_BITS 7, 8)] with fbk := [(7, { ssiRun := some 3 })] }).rd (FBK.POS 7) = 0xAB ∧
    (run (2 ^ 20) (.ssiWord 0 7 0x1AB (2 ^ 20)) { fb 3 [(FBK.SSI_BITS 7, 8)] with fbk := [(7, { ssiRun := some 3 })] }).rd (FBK.SSI_ERR_LAST 7) = 3 ∧
    (run (2 ^ 20) (.ssiWord 0 7 0 400) { fb 3 [(FBK.SSI_BITS 7, 8), (FBK.SSI_ERR_EN 7, 1)] with fbk := [(7, { ssiRun := some 3 })] }).rd (FBK.SSI_ERR_LAST 7) = 2 ∧
    (run (2 ^ 20) (.ssiWord 0 7 0x0D03 400) { fb 3 [(FBK.SSI_BITS 7, 8), (FBK.SSI_CRC_W 7, 4), (FBK.SSI_CRC_POLY 7, 3)] with fbk := [(7, { ssiRun := some 3 })] }).rd
      (FBK.SSI_ERR_LAST 7) = 1 := by decide +kernel

theorem test_ssi_times : run 9 (.ssiTransfer 0 7 false) (ssi []) = ssi [] ∧
    (run 1999999 (.ssiTransfer 0 7 false) { ssi [] with fbk := [(7, { ssiEdge := some 2000000 })] }).fbk = [(7, { ssiEdge := some 2000000 })] ∧
    run 4 (.ssiWord 0 7 0 400) { ssi [] with fbk := [(7, { ssiRun := some 3 })] } = { ssi [] with fbk := [(7, { ssiRun := some 3 })] } := by decide +kernel

/-! ### CAN, ISO, VNP -/

/-- Controller `n` in protocol `p`. -/
def can (n p : Nat) (c : CanCtl) (l : List (Field × Nat)) : Machine.Dev :=
  { L ([(CAN.PROTO n, p), (HDR.PG_EN (canPage n), 1), (CAN.CAN_STATE n, 1)] ++ l) with can := [(n, c)] }

theorem test_can_drops : (can 5 3 {} []).canActive 5 = true ∧ (run 0 (.canFrameRx 0 5 { rtr := true } 0) (can 5 3 {} [])).rd (CAN.RTR_IGN 5) = 1 ∧
    (run 0 (.canFrameRx 0 5 { xlf := true, data := List.replicate 65 0 } 0) (can 5 3 {} [])).rd (CAN.XL_OVERSIZE 5) = 1 ∧
    (run 0 (.canFrameRx 0 5 { xlf := true, sdt := 9 } 0) (can 5 2 {} [(CAN.FRAME 5, 2)])).rd (CAN.XL_MISMATCH 5) = 1 := by decide +kernel

theorem test_can_queue : (run 0 (.canFrameRx 0 5 { id := 7 } 0) (can 5 3 {} [])).rd (CAN.RXQ_CNT 5) = 1 ∧
    (run 0 (.canFrameRx 0 5 { id := 7 } 0) (can 5 3 {} [(CAN.RXQ_CNT 5, 32)])).rd (CAN.SHADOW_FULL 5) = 1 ∧
    (run 0 (.canFrameRx 0 5 { id := 7 } 0) (can 5 3 { shadow := some [] } [(CAN.RXQ_CNT 5, 32)])).rd (CAN.RX_DROP 5) = 1 := by decide +kernel

theorem test_rx_ack : (run 0 (.rxAck 0 5 3) (can 5 3 {} [(CAN.RXQ_CNT 5, 2), (CAN.RX_HEAD 5, 31)])).rd (CAN.RX_HEAD 5) = 1 ∧
    (run 0 (.rxAck 0 5 1) (can 5 3 { shadow := some (List.replicate 80 1) } [(CAN.RXQ_CNT 5, 32), (CAN.SHADOW_FULL 5, 1)])).rd (CAN.RXQ_CNT 5) = 32 ∧
    (run 0 (.rxAck 0 5 1) (can 5 3 { shadow := some (List.replicate 80 1) } [(CAN.RXQ_CNT 5, 32), (CAN.SHADOW_FULL 5, 1)])).rd (CAN.SHADOW_FULL 5) = 0 := by
  decide +kernel

theorem test_tx_go : (run 0 (.txGo 0 5) (can 5 2 {} [(CAN.TX_ID 5, 5)])).rd (CAN.TX_REFUSED 5) = 1 ∧
    (run 0 (.txGo 0 5) (can 5 2 {} [(CAN.TX_ID 5, 0x780)])).rd (CAN.TX_BUSY 5) = 1 ∧
    (run 0 (.mailboxTxDone 0 5 true) (can 5 3 { mail := some { id := 7 } } [(CAN.TX_BUSY 5, 1)])).rd (CAN.TX_BUSY 5) = 0 ∧
    ((run 0 (.mailboxTxDone 0 5 true) (can 5 3 { mail := some { id := 7 } } [(CAN.TX_BUSY 5, 1)])).canCtl 5).tx = [{ id := 7 }] := by decide +kernel

theorem test_bus_state : (run 0 (.busOn 0 5) (can 5 3 {} [(CAN.CAN_STATE 5, 3), (CAN.TEC 5, 9)])).rd (CAN.CAN_STATE 5) = 1 ∧
    (run 0 (.busError 0 5 256 0) (can 5 3 {} [])).rd (CAN.CAN_STATE 5) = 3 ∧ (run 0 (.busError 0 5 128 0) (can 5 3 {} [])).rd (CAN.CAN_STATE 5) = 2 ∧
    (run 0 (.busError 0 5 127 127) (can 5 3 {} [])).rd (CAN.CAN_STATE 5) = 1 ∧
    (run 0 (.busLoad 0 5 51) (can 5 3 {} [])).raised EVT.CAN_LOAD 5 = true ∧ (run 0 (.busLoad 0 5 100) (can 5 3 {} [])).rd (CAN.LOAD_MAX 5) = 100 := by
  decide +kernel

theorem test_abd : (run 9 (.abdStart 0 5) (can 5 3 {} [])).rd (CAN.CAN_STATE 5) = 4 ∧
    (run 9 (.abdMeasureDone 0 5 4000) (can 5 3 {} [(CAN.ABD_STATE 5, 1)])).rd (CAN.ABD_STATE 5) = 2 ∧
    (run 9 (.abdTryFrame 0 5 0 false) (can 5 3 { abdGood := 31 } [(CAN.ABD_STATE 5, 2), (CAN.ABD_FRAMES 5, 32)])).rd (CAN.ABD_STATE 5) = 3 ∧
    ((run 9 (.abdTryFrame 0 5 0 false) (can 5 3 { abdGood := 30 } [(CAN.ABD_STATE 5, 2), (CAN.ABD_FRAMES 5, 32)])).canCtl 5).abdGood = 31 ∧
    ((run 9 (.abdTryFrame 0 5 1 false) (can 5 3 { abdCand := 3, abdTried := 2 } [(CAN.ABD_STATE 5, 2)])).canCtl 5).abdCand = 0 ∧
    (run 9 (.abdTryFrame 0 5 1 false) (can 5 3 { abdTried := 3 } [(CAN.ABD_STATE 5, 2)])).rd (CAN.ABD_STATE 5) = 4 ∧
    ((run 9 (.abdTryFrame 0 5 2 true) (can 5 3 { abdData := 3 } [(CAN.ABD_STATE 5, 2)])).canCtl 5).abdData = 4 ∧
    (run (2 ^ 44) (.abdTmo 0 5) (can 5 3 {} [(CAN.ABD_STATE 5, 2)])).rd (CAN.ABD_STATE 5) = 4 ∧
    (run 0 (.abdTmo 0 5) (can 5 3 {} [(CAN.ABD_STATE 5, 2), (CAN.ABD_TMO 5, 5)])).rd (CAN.ABD_STATE 5) = 2 := by decide +kernel

theorem test_claim : (run 100000000 (.addressClaimTimeout 0 1) (can 1 1 { claimFrom := some 0, claimSa := 0xAB } [])).rd (ISO.SA_ACT 1) = 0xAB ∧
    (run 99999999 (.addressClaimTimeout 0 1) (can 1 1 { claimFrom := some 0 } [])).rd (ISO.CLAIMED 1) = 0 ∧ (can 1 1 {} []).isoRx 1 = true ∧
    ((run 0 (.addressClaimedRx 0 1 0xAB 9) (can 1 1 {} [])).canCtl 1).taken = [(0xAB, 9)] ∧
    (run 0 (.addressClaimedRx 0 1 0xAB 0) (can 1 1 { claimFrom := some 0, claimSa := 0xAB } [])).rd (ISO.CANNOT_CLAIM 1) = 1 ∧
    ((run 0 (.addressClaimedRx 0 1 0xAB 0) (can 1 1 { claimFrom := some 0, claimSa := 0xAB } [(ISO.ISO_NAME_HI 1, 2 ^ 31)])).canCtl 1).claimFrom = some 0 ∧
    ((run 0 (.addressClaimedRx 0 1 0xAB (-1)) (can 1 1 { claimFrom := some 0, claimSa := 0xAB } [])).canCtl 1).tx.length = 1 ∧
    ((run 0 (.requestForAddressClaimed 0 1) (can 1 1 {} [(ISO.CANNOT_CLAIM 1, 1)])).canCtl 1).tx.map (·.id) = [0x18EEFFFE] := by decide +kernel

theorem test_tp_rx : (run 0 (.tpRts 0 1 5 false 7 9) (can 1 1 {} [(ISO.CLAIMED 1, 1)])).canCtl 1 |>.tpRx |>.isSome := by decide +kernel

theorem test_tp_rx_refused : (run 0 (.tpRts 0 1 5 false 7 65537) (can 1 1 {} [(ISO.CLAIMED 1, 1)])).rd (ISO.TP_REFUSED 1) = 1 ∧
    (run 0 (.tpBam 0 1 5 7 9) (can 1 1 {} [(ISO.TP_RX_FULL 1, 1)])).rd (ISO.TP_REFUSED 1) = 1 ∧
    ((run 0 (.tpBam 0 1 5 7 9) (can 1 1 {} [])).canCtl 1).tpRx.map (·.len) = some 9 := by decide +kernel

/-- A BAM session of 9 bytes from address 5, its first packet in. -/
def bam : CanCtl := { tpRx := some { bam := true, pgn := 7, addr := 5, len := 9, data := [1, 2, 3, 4, 5, 6, 7] } }

theorem test_tp_data : ((run 0 (.tpDataTransfer 0 1 5 2 [8, 9, 255, 255, 255, 255, 255]) (can 1 1 bam [])).canCtl 1).tpRx = none ∧
    memGetBytes (run 0 (.tpDataTransfer 0 1 5 2 [8, 9, 255, 255, 255, 255, 255]) (can 1 1 bam [])).mem (tpBuf 1) 9 = [1, 2, 3, 4, 5, 6, 7, 8, 9] ∧
    (run 0 (.tpDataTransfer 0 1 5 2 [8, 9, 255, 255, 255, 255, 255]) (can 1 1 bam [])).rd (ISO.TP_RX_LEN 1) = 9 ∧
    (run 0 (.tpDataTransfer 0 1 5 3 [8]) (can 1 1 bam [])).rd (ISO.TP_RX_FULL 1) = 0 ∧
    run 0 (.tpDataTransfer 0 1 6 2 [8]) (can 1 1 bam []) = can 1 1 bam [] ∧
    (run 0 (.tpRxAck 0 1) (can 1 1 {} [(ISO.TP_RX_FULL 1, 1)])).rd (ISO.TP_RX_FULL 1) = 0 := by decide +kernel

theorem test_tp_tx : (run 0 (.tpTxGo 0 1) (can 1 1 {} [(ISO.CLAIMED 1, 1)])).rd (ISO.TP_TX_RES 1) = 2 ∧
    (run 0 (.tpTxGo 0 1) (can 1 1 {} [(ISO.CLAIMED 1, 1), (ISO.TP_TX_LEN 1, 8)])).rd (ISO.TP_TX_RES 1) = 1 ∧
    (run 0 (.tpTxGo 0 1) (can 1 1 {} [(ISO.CLAIMED 1, 1), (ISO.TP_TX_LEN 1, 9), (ISO.TP_TX_DA 1, 5)])).rd (ISO.TP_TX_BUSY 1) = 1 := by decide +kernel

/-- A send session of 9 bytes to address 5. -/
def sends : CanCtl := { tpTx := some { addr := 5, len := 9, data := [1, 2, 3, 4, 5, 6, 7, 8, 9] } }

theorem test_tp_cts : ((run 0 (.tpCtsRx 0 1 5 0 9 2) (can 1 1 sends [])).canCtl 1).tx.length = 1 ∧
    (run 0 (.tpCtsRx 0 1 5 1 0 0) (can 1 1 sends [(ISO.TP_TX_BUSY 1, 1)])).rd (ISO.TP_TX_BUSY 1) = 0 ∧
    (run 0 (.tpCtsRx 0 1 5 2 0 0) (can 1 1 sends [(ISO.TP_TX_BUSY 1, 1)])).rd (ISO.TP_TX_RES 1) = 2 ∧
    run 0 (.tpCtsRx 0 1 6 2 0 0) (can 1 1 sends []) = can 1 1 sends [] := by decide +kernel

/-- Controller 1 feeds the pose engine with speeds of source `k`. -/
def drives (k : Nat) : Machine.Dev := can 1 1 {} [(POSE.CAN_SPD, k), (POSE.CAN_SPD_BUS, 1), (ISO.SPD_SA 1, 5), (POSE.POSE_EN, 1), (HDR.PG_EN 0x034000, 1)]

theorem test_speeds : ((drives 1).spdAccept 1 5).1 = true ∧ (drives 1).spdBus = 1 ∧ (drives 1).rd POSE.DIR_SRC = 0 ∧
    (run 0 (.wheelBasedSpeed 0 1 5 64255 0) (drives 1)).pose.canSpd = some 64255 ∧ (run 0 (.wheelBasedSpeed 0 1 5 64255 0) (drives 1)).pose.canRev = true ∧
    (run 0 (.wheelBasedSpeed 0 1 6 64255 0) (drives 1)).pose.canSpd = none ∧ (run 0 (.groundBasedSpeed 0 1 5 9) (drives 2)).pose.canSpd = some 9 ∧
    (run 0 (.groundBasedSpeed 0 1 5 64256) (drives 2)).pose.canSpd = none := by decide +kernel

/-- Controller 1 feeds the pose engine with positions of source 5. -/
def navs (c : CanCtl) : Machine.Dev := can 1 1 c [(ISO.NAV_SA 1, 5), (POSE.GNSS_SRC, 2), (POSE.POSE_EN, 1), (HDR.PG_EN 0x034000, 1)]

theorem test_positions : (navs {}).navFrom 1 = true ∧ ((navs {}).navAccept 1 5).1 = true ∧
    ((run 9 (.gnssPositionData 0 1 5 1 2 3 1 0) (navs {})).canCtl 1).nav = some (9, [1, 2, 3]) ∧
    (run 9 (.gnssPositionData 0 1 5 1 2 3 1 0) (navs {})).pose.meas.map (fun m => (m.v1, m.v2, m.v3)) = [(1, 2, 3)] ∧
    ((run 9 (.gnssPositionData 0 1 5 1 2 3 0 0) (navs {})).canCtl 1).nav = none ∧
    (run 80000000 (.cogSogRapidUpdate 0 1 5 0 7) (navs { nav := some (0, [1, 2, 3]) })).pose.meas.map (·.spd) = [70] ∧
    (run 80000001 (.cogSogRapidUpdate 0 1 5 0 7) (navs { nav := some (0, [1, 2, 3]) })).pose.meas = [] := by decide +kernel

/-- Bus 3 in VNP with its node 63 as given. -/
def vnp (x : VnpNode) (l : List (Field × Nat)) : Machine.Dev := { can 5 2 {} l with vnp := [(255, x)], sys := { gridOn := true, nextN := 5 } }

theorem test_node_reports : (vnp {} []).vnpHears 3 = true ∧ ((run 0 (.status 0 3 63 [0, 1, 2, 2]) (vnp { st := 3 } [])).node 3 63).st = 2 ∧
    ((run 0 (.status 0 3 63 [0, 1, 2, 2]) (vnp { st := 3 } [])).node 3 63).resync = true ∧
    ((run 0 (.status 0 3 63 [0, 1, 2, 2]) (vnp { st := 3 } [])).node 3 63).vsup = 256 ∧
    ((run 0 (.fault 0 3 63 [1, 1, 0, 1, 0, 0]) (vnp { st := 2 } [])).canCtl 5).faults.map (·.mask) = [256] ∧
    ((run 0 (.configAck 0 3 63 [4, 0, 0, 0]) (vnp { st := 1, acked := 7 } [])).node 3 63).st = 2 ∧
    ((run 0 (.latency 0 3 63 [0, 0, 0, 0]) (vnp { st := 2 } [])).node 3 63).records = 0 ∧
    run 0 (.status 0 3 63 []) (vnp {} []) = vnp {} [] := by decide +kernel

theorem test_node_records :
    ((run 0 (.latency 0 3 63 [1, 0, 0, 0, 0, 0, 0, 0, 0, 0, 0, 0, 0, 0, 0, 0]) (vnp { st := 2 } [])).node 3 63).records = 1 ∧
    (run 2000000000 (.latency 0 3 63 [1, 0, 0, 0, 0, 0, 0, 0, 0, 0, 0, 0, 0, 0, 0, 0]) (vnp { st := 2 } [])).rd (VNP.RPT_STALE 5) = 1 ∧
    recordsOf 1 (List.replicate 12 5) = [List.replicate 12 5] ∧ recordsOf 2 (List.replicate 12 5) = [List.replicate 12 5] := by decide +kernel

/-- Node 63 not heard since tick 0, tick 30 due next. -/
def late : Machine.Dev := { vnp { st := 2 } [(VNP.STAT_DIV 5, 10)] with sys := { gridOn := true, nextN := 30 } }

theorem test_node_lost : ((run 12000000 (.nodeLost 0 3 63) late).node 3 63).st = 3 ∧
    ((run 11999999 (.nodeLost 0 3 63) late).node 3 63).st = 2 ∧
    run 0 (.dutyRefresh 0 3 63) (vnp { st := 1 } []) = vnp { st := 1 } [] := by decide +kernel

theorem test_enrol : (vnp {} []).vnpTx 3 = true ∧ run 0 (.enrolReq 0 3 []) (vnp {} []) = vnp {} [] ∧
    ((run 0 (.enrolReq 0 3 [7, 0, 0, 0, 0, 0, 0, 0, 3]) (vnp {} [(NODE.UID_LO 3 63, 7)])).node 3 63).st = 1 ∧
    ((run 0 (.enrolReq 0 3 [7, 0, 0, 0, 0, 0, 0, 0, 3]) (vnp {} [(NODE.UID_LO 3 63, 7)])).node 3 63).pts = 4 ∧
    ((run 0 (.enrolReq 0 3 [7, 0, 0, 0, 0, 0, 0, 0, 3]) (vnp {} [])).canCtl 5).newNodes.map (·.1) = [7] ∧
    (run 0 (.enrolReq 0 3 [7, 0, 0, 0, 0, 0, 0, 0, 3]) (vnp {} [])).raised EVT.CAN_NODE_NEW 199 = true := by decide +kernel

theorem test_vnp_timers : (run 800000000 (.busSupplyClear 0 3) (can 5 2 { supplyAt := some 0 } [(VNP.BUS_SUPPLY 5, 1)])).rd (VNP.BUS_SUPPLY 5) = 0 ∧
    (run 799999999 (.busSupplyClear 0 3) (can 5 2 { supplyAt := some 0 } [(VNP.BUS_SUPPLY 5, 1)])).rd (VNP.BUS_SUPPLY 5) = 1 ∧
    ((run 7 (.shadeEnd 0 3) (can 5 2 { shadeUntil := some 7 } [])).canCtl 5).shadeUntil = none ∧
    ((run 6 (.shadeEnd 0 3) (can 5 2 { shadeUntil := some 7 } [])).canCtl 5).shadeUntil = some 7 ∧
    (run 0 (.pollGo 0 3 63) (vnp {} [])).rd (VNP.POLL_NODE 5) = 63 ∧ ((run 0 (.pollGo 0 3 63) (vnp {} [])).canCtl 5).tx.length = 1 ∧
    ((run 0 (.newNext 0 3) (can 5 2 { newNodes := [(1, []), (2, [])] } [])).canCtl 5).newNodes = [(2, [])] := by decide +kernel

/-! ### KSP, PAIR, CRC -/

/-- `lit` with port 1 as given. -/
def port (p : KspPort) : Machine.Dev := { lit with ksp := [(1, p)] }

theorem test_lanes : ((run 0 (.laneLock 0 1 3) (port { st := .lock, lanes := 7 })).port 1).st = .deskew ∧
    ((run 3999999 (.laneLock 0 1 0) (port { st := .lock })).port 1).st = .lock ∧ ((run 4000000 (.laneLock 0 1 0) (port { st := .lock })).port 1).st = .deskew ∧
    ((run 9 (.laneLockLoss 0 1 1) (port { st := .up, lanes := 3, width := 1 })).port 1).retrainFrom = some 9 ∧
    ((run 9 (.laneLockLoss 0 1 1) (port { st := .up, lanes := 3, width := 0 })).port 1).st = .up ∧
    (run 9 (.laneLockLoss 0 1 1) (port { st := .config, lanes := 3 })).rd (KSP.TRAIN_FAIL 1) = 1 ∧
    ((run 4000000 (.laneLockWaitExpiry 0 1) (port { st := .lock, lanes := 1 })).port 1).st = .deskew ∧
    ((run 3999999 (.laneLockWaitExpiry 0 1) (port { st := .lock, lanes := 1 })).port 1).st = .lock := by decide +kernel

theorem test_training : ((run 40000000 (.trainTimeout 0 1) (port { st := .config })).port 1).st = .lock ∧
    ((run 39999999 (.trainTimeout 0 1) (port { st := .config })).port 1).st = .config ∧
    ((run 9 (.retrain 0 1) (port { st := .up })).port 1).retrainFrom = some 9 ∧ (run 9 (.retrain 0 1) (port { st := .lock })).rd (KSP.TRAIN_FAIL 1) = 1 ∧
    (run 20000000 (.linkDown 0 1) (port { st := .lock, retrainFrom := some 0 })).rd (KSP.DOWN_CNT 1) = 1 ∧
    (run 19999999 (.linkDown 0 1) (port { st := .lock, retrainFrom := some 0 })).rd (KSP.DOWN_CNT 1) = 0 := by decide +kernel

theorem test_ts : ((run 9 (.ts 0 1 15 0 1 0) (port { st := .deskew })).port 1).farLocked = 15 ∧ commonWidth 2 15 15 = some 2 ∧
    ((run 9 (.ts 0 1 15 4 1 8) (port { st := .config, lanes := 15, tsTx := 8 })).port 1).st = .up ∧
    ((run 9 (.ts 0 1 15 4 1 8) (port { st := .config, lanes := 15, tsTx := 7 })).port 1).st = .config ∧
    ((run 40000 (.linkKeepalive 0 1) (port { st := .up })).port 1).linkTxAt = 40000 ∧
    ((run 39999 (.linkKeepalive 0 1) (port { st := .up })).port 1).linkTx = [] ∧
    ((run 400000 (.linkSilence 0 1) (port { st := .up })).port 1).st = .lock ∧ ((run 399999 (.linkSilence 0 1) (port { st := .up })).port 1).st = .up := by
  decide +kernel

/-- A DATA packet of sequence 0 on VC2 that begins and ends a message of two bytes, but for its CRCs. -/
def pktHead : List Nat := wordsToBytes [2 + 2 ^ 4 + 2 ^ 5 + 2 ^ 16 * 2, 0, 0]
/-- The packet with its CRCs. -/
def pkt : List Nat :=
  let h := pktHead ++ bytesLE 4 (crc16 pktHead) ++ [0x21, 7, 0, 0]
  h ++ bytesLE 4 (crc32 h)

theorem test_packet : pkt.length = 24 ∧ ((run 9 (.dataPacket 0 0 (pkt.map (BitVec.ofNat 8))) lit2).port 0).rxNext = 1 ∧
    (tget ((run 9 (.dataPacket 0 0 (pkt.map (BitVec.ofNat 8))) lit2).port 0).vcs 2).partialRx = none ∧
    (run 9 (.dataPacket 0 0 [1, 2]) lit2).rd (KSP.CRC_ERR 0) = 1 ∧ ((run 9 (.dataPacket 0 0 [1, 2]) lit2).port 0).nakOut = true ∧
    vcTaken false 2 = true ∧ vcAccepts false 2 0x21 = true ∧ vcAccepts false 2 0x22 = false := by decide +kernel

theorem test_link : ((run 9 (.linkPacket 0 1 5 false 1 2 3 4 65535) (port { st := .up, replay := [{ seq := 5 }, { seq := 6 }] })).port 1).replay.map (·.seq) = [6] ∧
    (tget ((run 9 (.linkPacket 0 1 5 false 1 2 3 4 65535) (port { st := .up })).port 1).vcs 4).credit = 65535 ∧
    (run 9 (.linkPacket 0 1 5 true 1 2 3 4 5) (port { st := .up })).rd (KSP.REPLAY_CNT 1) = 1 ∧
    ((run 9 (.linkPacket 0 1 5 true 1 2 3 4 5) (port { st := .up, replayRun := 3, replaySeq := 6 })).port 1).st = .lock := by decide +kernel

/-- A paired module with its link to the partner up. -/
def pair (p : PairBlk) (l : List (Field × Nat)) : Machine.Dev := { L l with ksp := [(1, { st := .up, partner := true })], pair := { p with en := true } }
/-- A HELLO that agrees with `pair`. -/
def hel (st : Nat) : HelloMsg := { unit := 1, state := st, cfgCrc := (pair {} []).cfgCrc }

theorem test_pair_wait : ((run (2 ^ 40) (.pairWaitExpiry 0) (pair { st := .seek } [])).pair.st) = .listen ∧ (run 0 (.pairWaitExpiry 0) (pair { st := .seek } [])).pair.st = .seek ∧
    (run (2 ^ 40) (.beaconListenExpiry 0) (pair { st := .listen } [])).pair.st = .alone ∧
    (run (2 ^ 40) (.beaconListenExpiry 0) (pair { st := .listen, lastBeacon := some (2 ^ 40) } [])).pair.st = .listen ∧
    (run 9 (.helloSend 0) (pair { st := .seek } [])).pair.helloSent = some 9 := by decide +kernel

theorem test_hello_refused : (pair {} []).helloErr { unit := 0, cfgCrc := (pair {} []).cfgCrc + 1 } = 1 ∧ (pair {} []).pairWins { unit := 1 } = true ∧
    (pair {} []).pairWins { unit := 1, pref := true } = false ∧ (pair {} []).pairLink = true := by decide +kernel

theorem test_beacon : (vnp {} []).vnpHears 3 = true ∧ (run 9 (.beaconRx 0 3 0) { vnp {} [] with pair := { st := .listen } }).pair.lastBeacon = some 9 ∧
    (run 9 (.beaconRx 0 3 0) { vnp {} [] with pair := { st := .active, unit := 1 } }).pair.st = .seek ∧
    (run 9 (.beaconRx 0 3 1) { vnp {} [] with pair := { st := .alone, unit := 1 } }).pair.st = .alone ∧
    (run 9 (.beaconRx 0 3 1) { vnp {} [] with pair := { st := .alone } }).raised EVT.PAIR_DUAL 3 = true := by decide +kernel

theorem test_heartbeat : (run 0 (.heartbeatEdge 0 400) (pair {} [])).pair.hbPin = true ∧ run 0 (.heartbeatEdge 0 399) (pair {} []) = pair {} [] ∧
    (run 2000000 (.heartbeatEdge 0 400) { grid5 with pair := { en := true } }).pair.hbPinNew = true := by decide +kernel

theorem test_handover : (run 0 (.roleSwap 0 false) (pair { st := .standby } [])).pair.swapReq = true ∧
    (run 2000000 (.roleSwap 0 true) { grid5 with pair := { st := .active } }).pair.handover = some (13, true) ∧
    (run 2000000 (.returnHoldExpiry 0 true) { grid5 with pair := { st := .active } }).pair.handover = some (13, true) ∧
    (run (2 ^ 44) (.returnHoldExpiry 0 false) (pair { st := .standby, pref := true, syncedFrom := some 0 } [(PAIR.RETURN_EN, 1)])).pair.swapReq = true ∧
    (run 0 (.returnHoldExpiry 0 false) (pair { st := .standby, pref := true, syncedFrom := some 0 } [(PAIR.RETURN_EN, 1)])).pair.swapReq = false := by decide +kernel

theorem test_timesync : (run 0 (.timesyncRx 0 5 7 107) (pair { st := .standby, tsTx := 7 } [])).rd2 PAIR.PT_OFS_LO PAIR.PT_OFS_HI = 52 ∧
    (run 400 (.timesyncRx 0 5 7 107) (pair { st := .active, tsTx := 7 } [])).pair.tsRxAt = 1000 := by decide +kernel

theorem test_mirror : (run 9 (.mirrorRx 0 {}) (pair { st := .active } [])).pair.mirrorAt = 9 ∧
    (run 9 (.mirrorRx 0 {}) (pair { st := .standby, mirrorRun := 99 } [])).rd PAIR.SYNCED = 1 ∧
    (run 9 (.mirrorRx 0 { handover := true, hoTick := 8 }) (pair { st := .standby } [])).pair.handover = some (8, false) ∧
    (run (2 ^ 34) (.mirrorStale 0) (pair { st := .standby } [(PAIR.SYNCED, 1)])).rd PAIR.SYNCED = 0 ∧
    (run 0 (.mirrorStale 0) (pair { st := .standby } [(PAIR.SYNCED, 1)])).rd PAIR.SYNCED = 1 := by decide +kernel

theorem test_partner_tiles : (pair { st := .standby } []).servesTiles = true ∧ (pair { st := .active } []).mirrors = true ∧
    contentRuns 0 true [1] = none ∧ contentRuns 0 true [0x1F, 255, 255] = some [(1, 65536)] ∧ (pair { st := .standby } []).tileHeld {} = none ∧
    ({ pair { st := .standby } [] with tpl := { slots := [(3, { st := .clean, gen := 4 })] } } : Machine.Dev).tileHeld {} = some (3, { st := .clean, gen := 4 }) := by
  decide +kernel

/-- Check unit 7 as a CRC-16 with initial value 0xFFFF. -/
def crcU (l : List (Field × Nat)) : Machine.Dev :=
  L ([(CRC.WIDTH 7, 16), (CRC.POLY_LO 7, 0x1021), (CRC.INIT_LO 7, 0xFFFF), (CRC.REFIN 7, 0), (CRC.FEED_W 7, 0), (HDR.PG_EN (crcPage 7), 1)] ++ l)

theorem test_crc_unit : (run 0 (.start 0 7) (crcU [])).crcState 7 = 0xFFFF ∧ (run 0 (.start 0 7) (crcU [(CRC.DMA_BUSY 7, 1)])).rd (CRC.FEED_IGN 7) = 1 ∧
    (run 0 (.dataIn 0 7 0x31) (crcU [(CRC.STATE_LO 7, 0xFFFF)])).crcState 7 = 0xC782 ∧
    (run 0 (.stateWrite 0 7 5) { crcU [] with hif := { inService := true, stateHi := [(7, 6)] } }).rd (CRC.STATE_HI 7) = 6 ∧
    (run 0 (.dmaGo 0 7) (crcU [(CRC.DMA_SRC 7, 0x400000), (CRC.DMA_LEN 7, 1)])).rd (CRC.DMA_BUSY 7) = 1 ∧
    (run 0 (.dmaGo 0 7) (crcU [(CRC.DMA_SRC 7, 0x1000), (CRC.DMA_LEN 7, 1)])).rd (CRC.DMA_ERR 7) = 1 ∧
    (run 0 (.dmaDone 0 7) (crcU [(CRC.DMA_SRC 7, 0x620000), (CRC.DMA_LEN 7, 1), (CRC.DMA_BUSY 7, 1)])).rd (CRC.DMA_DONE 7) = 1 ∧
    (crcU [(CRC.DMA_BUSY 7, 1)]).crcBusy 7 = true := by decide +kernel

/-! ### PWR -/

/-- `lit` with the power block `p`, its page unlocked at DT 0, with registers. -/
def pw (p : PwrBlk) (l : List (Field × Nat)) : Machine.Dev := { L l with pwr := p, hif := { inService := true, unlocked := [(pwrPage, 0)] } }

/-- LIT in HOST mode. -/
def litP : PwrBlk := { st := .lit, mode := .host, stage := .none, outHold := .none }

/-- DIM since DT 0 in an episode of lowest voltage 7,000 mV. -/
def dimP : PwrBlk := { litP with st := .dim, uv := some { start := 0, minMv := 7000, lastUpd := 0 } }

theorem test_dim : (run 40000 (.dimEntry 0 7999 20000) lit).pwr.uv = some { start := 20000, minMv := 7999, lastUpd := 40000 } ∧
    run 40000 (.dimEntry 0 8000 20000) lit = lit ∧ run 40000 (.dimEntry 0 7999 19999) lit = lit ∧ (run 40000 (.dimEntry 0 7999 20000) (pw { litP with st := .snuffed } [])).rd PWR.VMIN_MV = 7999 ∧
    run 9 (.dimEnd 0 8299 7900 4000000) (pw dimP []) = pw dimP [] ∧ (run 4800000 (.dimEnd 0 8300 6500 4000000) (pw dimP [])).rd PWR.DIM_LAST = 12 ∧
    (run 4800000 (.dimEnd 0 8300 6500 4000000) (pw dimP [])).rd PWR.VMIN_MV = 6500 ∧
    run 9 (.dimEnd 0 8300 7900 3999999) (pw dimP []) = pw dimP [] ∧ (run 4800000 (.dimEnd 0 8300 7900 4000000) (pw dimP [(PWR.DIM_CNT, 65535)])).rd PWR.DIM_CNT = 65535 := by decide +kernel

theorem test_dim_max : run 39999 (.dimMax 0) (pw dimP []) = pw dimP [] ∧ (pw dimP []).edgePassed 0 = false ∧
    (run (2 ^ 40) (.dimMax 0) (pw dimP [])).rd PWR.SNUFF_CAUSE = 2 ∧
    (run (2 ^ 40) (.dimMax 0) { pw dimP [] with sys := { gridOn := true } }).pwr.dimMaxDue = true ∧
    (run 39999999 (.episodeUpdate 0 6000) (pw dimP [])).pwr.uv = dimP.uv ∧
    ((run 40000000 (.episodeUpdate 0 6000) (pw dimP [])).pwr.uv.map (·.minMv)) = some 6000 ∧
    ((run 40000000 (.episodeUpdate 0 7500) (pw dimP [])).pwr.uv.map (·.minMv)) = some 7000 := by decide +kernel

theorem test_banks : lit.diesOn = true ∧ lit.vbankUv = 6000 ∧ (run 0 (.bankSuspend 0 3 5999 8000) lit).rd PWR.BANK_SUSP = 8 ∧
    run 0 (.bankSuspend 0 3 6000 8000) lit = lit ∧ run 0 (.bankSuspend 0 3 40000 8000) lit = lit ∧ (run 0 (.bankSuspend 0 3 40001 8000) lit).rd PWR.BANK_OV = 8 ∧
    (L [(PWR.BANK_SUSP, 8)]).bankReleased 3 6499 = false ∧ (run 0 (.bankResume 0 3 6500 2000000) (L [(PWR.BANK_SUSP, 8)])).rd PWR.BANK_SUSP = 0 ∧
    (L [(PWR.BANK_SUSP, 8), (PWR.BANK_OV, 8)]).bankReleased 3 36999 = true ∧ (L [(PWR.BANK_SUSP, 8), (PWR.BANK_OV, 8)]).bankReleased 3 37000 = false := by
  decide +kernel

theorem test_overvoltage : (run 0 (.vbatOvervoltage 0 40001 8000) lit).rd PWR.VBAT_OV = 1 ∧ (run 0 (.vbatOvervoltage 0 40000 8000) lit).rd PWR.VBAT_OV = 0 ∧
    (run 0 (.vbatOvervoltage 0 37000 2000000) (L [(PWR.VBAT_OV, 1)])).rd PWR.VBAT_OV = 1 ∧ (run 0 (.vbatOvervoltage 0 36999 2000000) (L [(PWR.VBAT_OV, 1)])).rd PWR.VBAT_OV = 0 := by
  decide +kernel

theorem test_sns5v : (run 7 (.sns5vFault 0 451 400000) (L [(PWR.SNS5V_EN, 1)])).pwr.sns5vOffAt = some 7 ∧ run 7 (.sns5vFault 0 450 400000) (L [(PWR.SNS5V_EN, 1)]) = L [(PWR.SNS5V_EN, 1)] ∧
    (run 40400000 (.sns5vRetry 0 451 400000) (pw { litP with sns5vOffAt := some 0 } [])).pwr.sns5vOffAt = some 40400000 ∧
    (run 44000000 (.sns5vRetry 0 450 4000000) (pw { litP with sns5vOffAt := some 0 } [(PWR.SNS5V_FLT, 1)])).rd PWR.SNS5V_FLT = 0 ∧
    run 43999999 (.sns5vRetry 0 450 4000000) (pw { litP with sns5vOffAt := some 0 } []) = pw { litP with sns5vOffAt := some 0 } [] := by decide +kernel

theorem test_snuffed : (pw litP []).pwrWrites 0 = true ∧ (run 0 (.snuffReq 0) (pw litP [])).rd PWR.SNUFF_CAUSE = 3 ∧ (pw litP []).ticking = true ∧
    ((pw { litP with st := .snuffed } []).enterSnuffed 0 5).rd PWR.SNUFF_CAUSE = 5 ∧ (run 0 (.snuffClr 0) (pw litP [])) = pw litP [] ∧
    (run 0 (.snuffClr 0) (pw { litP with st := .snuffed } [])).pwr.snuffClr = true := by decide +kernel

theorem test_overtemp : (run 0 (.overtemp 0 150) lit).rd PWR.SNUFF_CAUSE = 4 ∧ (run 0 (.overtemp 0 149) lit).pwr.st = .lit ∧
    (run 0 (.otWarn 0 (-40)) lit).rdS PWR.LOGIC_TEMP = -40 ∧ (L [(PWR.OT_WARN, 130)]).otWarn = 130 ∧
    (run 0 (.otWarn 0 130) (L [(PWR.OT_WARN, 130)])).raised EVT.PWR_OVERTEMP 0 = true ∧
    (run 0 (.logicDieBelowOtWarn 0 99) (pw { litP with st := .snuffed } [(PWR.SNUFF_CAUSES, 16)])).rd PWR.SNUFF_CAUSES = 0 := by decide +kernel

theorem test_modes : (run 0 (.modeReq 0 1) (pw litP [])).pwr.modeReq = 1 ∧
    (run 9 (.hostWaitExpiry 0) (pw { litP with hostWaitTill := some 9 } [])).pwr.mode = .plain ∧
    (run 9 (.hostWaitExpiry 0) (pw { litP with hostWaitTill := some 9 } [(PWR.CFG_VALID, 1)])).pwr.mode = .autonomous ∧
    (run 8 (.hostWaitExpiry 0) (pw { litP with hostWaitTill := some 9 } [])).pwr.hostWaitTill = some 9 ∧
    run 9 (.hostWaitExpiry 0) (pw litP []) = pw litP [] := by decide +kernel

theorem test_ember_req : run 0 (.emberReq 0) (pw { litP with mode := .plain } []) = pw { litP with mode := .plain } [] ∧
    (run 5 (.emberReq 0) (pw litP [])).pwr.emberWait = some 5 ∧ (run 5 (.emberReq 0) (pw litP [(COV.FIELD_STATE, 1)])).cov.cmd = 2 ∧
    (run 5 (.emberReq 0) (pw dimP [])).pwr.emberReq = true := by decide +kernel

theorem test_ignition : run 0 (.ignitionOff 0) (pw litP []) = pw litP [] ∧ (pw litP [(PWR.IGN_EN, 1)]).keyOn = false ∧
    (run (2 ^ 44) (.ignitionOff 0) (pw litP [(PWR.IGN_EN, 1)])).pwr.emberWait = some (2 ^ 44) := by decide +kernel

theorem test_ember_entry : (run (2 ^ 44) (.emberFlushMaxExpiry 0) (pw { litP with emberWait := some 0 } [(COV.FIELD_STATE, 2)])).rd COV.FIELD_STATE = 0 ∧
    (run 1 (.emberFlushMaxExpiry 0) (pw { litP with emberWait := some 0 } [(COV.FIELD_STATE, 2)])).rd COV.FIELD_STATE = 2 ∧
    (run 8 (.emberEntry 0) (pw { litP with emberWait := some 0, outOff := true } [])).pwr.st = .ember ∧
    (run 8 (.emberEntry 0) (pw { litP with emberWait := some 0 } [])).pwr.st = .lit ∧
    (run 8 (.emberWake 0 1) (pw { litP with st := .ember } [(PWR.SNUFF_CAUSE, 3)])).rd PWR.SNUFF_CAUSE = 0 ∧
    (pw { litP with st := .ember } []).wakes 8 3 = false := by decide +kernel

/-- Released from power-on reset. -/
def offP : PwrBlk := { st := .off }

theorem test_vbat_start : (run 8 (.vbatStart 0 6000 400000) (pw offP [])).pwr.st = .kindle ∧ run 8 (.vbatStart 0 5999 400000) (pw offP []) = pw offP [] ∧
    run 8 (.vbatStart 0 6000 400000) lit = lit := by decide +kernel

theorem test_kindle :
    run 0 (.kindle 0 24000 0 0 0 0) lit = lit ∧ (pw {} []).fwChoose.2.2 = true ∧ (pw {} []).mram.episode = none ∧ (pw {} []).pwr.outHold = .off ∧
    ({ pw {} [] with mram := { fwA := {} } } : Machine.Dev).fwChoose.2.2 = false := by decide +kernel

theorem test_reset_pins : (run 400 (.resetNFall 0 400) (pw litP [])).pwr.stage = .relight ∧ (run 400 (.resetNFall 0 400) (pw litP [])).pwr.resetLow = some 0 ∧
    (run 4000000 (.resetNLong 0) (pw { litP with resetLow := some 0, stageMaySys := true } [])).rd PWR.LAST_RESET = 1 ∧
    (run 3999999 (.resetNLong 0) (pw { litP with resetLow := some 0, stageMaySys := true } [])).rd PWR.LAST_RESET = 0 ∧
    (run 9 (.resetNRise 0) (pw { litP with resetLow := some 0 } [])).pwr.resetLow = none := by decide +kernel

/-- A block with point 5 valid and committed on. -/
def onP : Machine.Dev := { pw litP [(PD.VALID 5, 1)] with dec := { pts := [(5, { s := true })] } }

theorem test_rst_cmd : onP.validPts.any (fun n => (onP.decOf n).s) = true ∧ (run 0 (.systemReset 0) onP).rd PWR.RST_REFUSED = 1 ∧
    (run 0 (.logicDieReset 0) onP).rd PWR.RST_REFUSED = 1 ∧ (run 0 (.systemReset 0) (pw litP [])).rd PWR.LAST_RESET = 2 ∧
    (run 0 (.logicDieReset 0) (pw litP [])).pwr.stage = .relight := by decide +kernel

theorem test_logic_causes : ((pw { litP with st := .ember } []).logicCause 0 6).pwr.st = .kindle ∧
    ((pw { litP with stage := .relight } []).logicCause 0 6).rd PWR.RELIGHT_FAIL = 1 ∧
    ((pw { litP with relightEnd := some 0 } []).logicCause 3999999999 6).pwr.stormEnd = true ∧
    ((pw { litP with relightEnd := some 0 } []).logicCause 4000000000 6).pwr.stage = .relight := by decide +kernel

theorem test_relight : (run 9 (.relight 0 false true) (pw { litP with stage := .relight } [])).rd PWR.LAST_RESET = 3 ∧
    (run 20000001 (.relight 0 true true) (pw { litP with stage := .relight } [])).rd PWR.LAST_RESET = 3 ∧
    run 9 (.relight 0 true true) (pw litP []) = pw litP [] ∧ (pw { litP with stage := .relight } []).tpl.slots = [] := by decide +kernel

theorem test_image : (pw litP []).cntVal 8 = 0 ∧ (run 0 (.cfgErase 0) (pw litP [(PWR.CFG_VALID, 1)])).rd PWR.CFG_VALID = 0 ∧
    (run 0 (.cfgErase 0) { pw litP [(PWR.CFG_VALID, 1)] with mram := { cnt := [(8, { a := { val := 1 }, b := { val := 1 } })] } }).rd PWR.CFG_VALID = 1 := by decide +kernel

/-- `litP` with the firmware state `m`. -/
def fw (p : PwrBlk) (m : Mram) : Machine.Dev := { pw p [] with mram := m }

theorem test_fw_push : (run 8 (.fwPush 0) (fw litP { fwTrial := true })).rd PWR.FW_ERR = 4 ∧ (run 8 (.fwPush 0) (fw litP {})).pwr.fwPush = some (0, 8) ∧
    memGet ((run 8 (.fwPushDone 0) { fw { litP with fwPush := some (1, 0) } {} with mem := memSet [] 0x001400 7 }).fwBank 1).bytes 1024 = 7 := by decide +kernel

theorem test_fw_verify : (run 8 (.fwActivate 0) (fw litP {})).pwr.fwVerify = some 8 ∧ (fw litP { fwB := { ver := 3 } }).fwVerifyBank 1 = (0, 3) ∧ (fw litP {}).fwVerifyBank 1 = (1, 0) ∧
    (run 9 (.fwVerifyDone 0) (fw { litP with fwVerify := some 8 } {})).rd PWR.FW_ERR = 1 ∧
    (run 9 (.fwVerifyDone 0) (fw { litP with fwVerify := some 8 } { fwB := { ver := 3 } })).mram.fwPending = true ∧
    (run 9 (.fwVerifyDone 0) (fw { litP with fwVerify := some 8 } { fwB := { ver := 3 }, cnt := [(5, { a := { val := 4 }, b := { val := 4 } })] })).rd PWR.FW_ERR = 2 := by
  decide +kernel

theorem test_fw_trial : (fw { litP with litAt := some 0 } {}).trialEnd = some 24000000000 ∧
    (run 9 (.fwConfirm 0) (fw { litP with litAt := some 0 } { fwTrial := true })).mram.fwTrial = false ∧
    (run (2 ^ 40) (.fwTrialExpiry 0) (fw { litP with litAt := some 0 } { fwTrial := true })).mram.fwFailed = true ∧
    (run (2 ^ 40) (.fwTrialExpiry 0) (fw { litP with litAt := some 0, mode := .plain } { fwTrial := true })).mram.fwTrial = false := by decide +kernel

/-! ### REC, CNT, TST -/

/-- A log of two records, of 4 and 5 words. -/
def logged : Machine.Dev := { lit with mram := { log := [[1, 2, 3, 4], [5, 6, 7, 8, 9]] } }

theorem test_log_reading : logged.logRecords.map (·.1) = [64, 80] ∧ (run 0 (.rdOfs 0 80) logged).rec_.window = [5, 6, 7, 8, 9] ∧
    (run 0 (.rdOfs 0 80) logged).rd REC.RD_NEXT = 100 ∧ (run 0 (.rdOfs 0 84) logged).rd REC.RD_VALID = 0 ∧
    (run 0 (.rdStream 0) logged).rec_.stream = some 100 ∧ (run 0 (.streamEnd 0) { logged with rec_ := { stream := some 100 } }).rec_.stream = none := by
  decide +kernel

theorem test_trigger_set : (run 0 (.triggerSetChange 0 31 (some 63) 8) (L [(REC.TS_GEN 31, 255)])).rd (REC.TS_GEN 31) = 0 ∧
    (run 0 (.triggerSetChange 0 31 (some 63) 0) lit).rd (REC.TS_GEN 31) = 0 ∧ (run 0 (.triggerSetChange 0 31 none 5) lit).rd (REC.SNAP_N 31) = 5 ∧
    (run 0 (.triggerSetChange 0 31 none 5) lit).rec_.defDue = [31] := by decide +kernel

/-- `lit` with the pages of the log and of the counted settings unlocked at DT 0. -/
def open_ (m : Mram) : Machine.Dev := { lit with hif := { inService := true, unlocked := [(0x004000, 0), (0x005000, 0)] }, mram := m }

theorem test_log_clr : (run 0 (.logClr 0 0) logged).rd CNT.LAST_ERR = 1 ∧ (open_ {}).cntRefusal 0 0 12 1 = 0 ∧
    (run 0 (.logClr 0 0) (open_ { log := [[1]], logGen := 255 })).mram.logGen = 0 ∧ (run 0 (.logClr 0 0) (open_ { log := [[1]] })).mram.log = [] := by decide +kernel

theorem test_rec_trig : (run 0 (.recTrig 0) lit).rd REC.LOST_CNT = b2n (!lit.on REC.REC_EN) ∧ (L [(REC.REC_EN, 1)]).on REC.REC_EN = true ∧
    (L [(REC.REC_EN, 0)]).on REC.REC_EN = false ∧
    (tget (run (2 ^ 40) (.tokenRefill 0 513) { lit with rec_ := { buckets := [(513, { used := 9, last := 0 })] } }).rec_.buckets 513).used = 0 ∧
    run 9 (.tokenRefill 0 513) lit = lit := by decide +kernel

theorem test_counted_write : run 0 (.countedWrite 0 0 4 1) (open_ {}) = open_ {} ∧ ((run 7 (.countedWrite 0 1 4 2) (open_ {})).cntAct.map (·.path)) = some 1 ∧
    (run 0 (.countedWrite 0 0 11 5) lit).rd CNT.LAST_ERR = 1 ∧ (open_ {}).cntRefusal 399999999 0 11 5 = 0 ∧ (open_ {}).cntRefusal 400000000 0 11 5 = 1 ∧
    ({ open_ {} with cntAct := some {} } : Machine.Dev).cntRefusal 0 0 11 5 = 2 ∧ (open_ {}).cntRefusal 0 0 4 3 = 3 ∧
    (open_ { cnt := [(0, { a := { used := 16 }, b := { used := 16 } })] }).cntRefusal 0 0 0 5 = 4 ∧
    (open_ { cnt := [(4, { a := { val := 2 }, b := { val := 2 } })] }).cntRefusal 0 1 0 5 = 6 ∧
    (open_ { cnt := [(4, { a := { val := 2 }, b := { val := 2 } })] }).cntRefusal 0 0 4 1 = 5 := by decide +kernel

theorem test_counted_done : (run 9 (.countedChangeDone 0) { open_ {} with cntAct := some { idx := 11, new := 5 } }).cntVal 11 = 5 ∧
    (run 9 (.countedChangeDone 0) { open_ {} with cntAct := some { idx := 11, new := 5 } }).cntUsed 11 = 1 ∧
    run 9 (.countedChangeDone 0) lit = lit ∧
    (run 9 (.countedChangeDone 0) { open_ { cnt := [(11, { a := { used := 15 }, b := { used := 15 } })] } with
      cntAct := some { idx := 11, new := 5 } }).raised EVT.CNT_FROZEN 0 = true ∧
    (run 9 (.histN 0 1) (open_ { cnt := [(0, { hist := [[256, 2, 3, 4, 5, 6, 7, 8]] })] })).rd (CNT.HIST_ENTRY 7) = 8 := by decide +kernel

/-- Test `id` of target `t` in slot 15 in status `st`. -/
def tests (id t st : Nat) (x : TstSlot) : Machine.Dev :=
  { L [(TST.S_ID 15, id), (TST.S_TARGET 15, t), (TST.STATUS 15, st)] with tst := { slots := [(15, x)] } }

theorem test_tgo : (run 0 (.tGo 0) (L [(TST.T_ID, 5)])).rd (TST.STATUS 0) = 5 ∧ (run 0 (.tGo 0) (L [(TST.T_ID, 5)])).rd TST.FINISHED = 1 ∧
    (run 0 (.tGo 0) (L [(TST.T_ID, 3)])).rd (TST.STATUS 0) = 2 ∧ (run 0 (.tGo 0) (L [(TST.T_ID, 16)])).rd (TST.STATUS 0) = 1 ∧
    (run 0 (.tGo 0) (L ((List.range 16).map (fun q => (TST.STATUS q, 3))))).rd TST.Q_FULL = 1 ∧
    (run 0 (.tGo 0) { L [(TST.T_ID, 32)] with pwr := { st := .lit, mode := .plain, stage := .none } }).rd (TST.RESULT 0) = 4 := by decide +kernel

/-- `tests 16 31 1` with a window that opens at DT 80,000. -/
def opens (c : IdcCh) : Machine.Dev := { tests 16 31 1 {} with dec := { winOpen := 80000 }, idc := [(31, c)] }

theorem test_test_start : (opens {}).slotClass 15 = some 1 ∧ (opens {}).tstIdle 80000 15 = true ∧ (opens {}).tstOnAt 15 = none ∧
    (opens {}).intrusiveRuns = false ∧ (opens {}).tstBehind 15 = false ∧ (opens {}).running = true ∧ (opens {}).tstTurn 80000 = opens {} ∧
    (run 80000 (.testStart 0 15) (opens {})).rd (TST.STATUS 15) = 2 ∧ (run 80001 (.testStart 0 15) (opens {})).rd (TST.STATUS 15) = 1 ∧
    (opens { cmds := [{ dt := 90000, on := true }] }).tstOnAt 15 = some 90000 := by decide +kernel

theorem test_system_test : (L []).tstSystemRefusal = 0 ∧ (run 0 (.tGo 0) (L [(TST.T_ID, 32)])).rd (TST.STATUS 0) = 2 ∧
    ((run 0 (.tGo 0) (L [(TST.T_ID, 32), (TST.T_PARAM, 2)])).idcCh 0).cmds.map (·.dt) = [0, 80000000] ∧
    (run 0 (.tGo 0) (L [(TST.T_ID, 32), (DEC.MASTER_ACT, 1)])).rd (TST.RESULT 0) = 2 := by decide +kernel

theorem test_test_ends : (run 4000000000 (.testWaitMax 0 15) (tests 16 31 1 {})).rd (TST.STATUS 15) = 4 ∧
    (run 3999999999 (.testWaitMax 0 15) (tests 16 31 1 {})).rd (TST.STATUS 15) = 1 ∧
    (run 9 (.testDone 0 15 false 7) (tests 16 31 2 { endAt := some 9 })).rd (TST.DETAIL 15) = 7 ∧
    (run 9 (.testDone 0 15 false 7) (tests 16 31 2 { endAt := some 9 })).rd (TST.RESULT 15) = 1 ∧
    (run 8 (.testDone 0 15 false 7) (tests 16 31 2 { endAt := some 9 })).rd (TST.STATUS 15) = 2 := by decide +kernel

theorem test_auto : (run 24000000000 (.autoPer 0 1) lit).raised EVT.TST_FAIL 0 = true ∧ (run 23999999999 (.autoPer 0 1) lit).tst.lastAuto = 0 ∧
    bitOf (lit.rd TST.AUTO_MASK) 0 = true := by decide +kernel

theorem test_tile_code : ([(1, 65536)] : List (Nat × Nat)).all (fun r => decide (r.1 < 16) && decide (1 ≤ r.2)) = true ∧
    (([(1, 65536)] : List (Nat × Nat)).map (·.2)).sum = tileCells ∧ rleEncode [(1, 65536)] = [0x1F, 0xFF, 0xFF] ∧ rleToken 2 14 = [0x2E] ∧
    rleToken 2 15 = [0x2F, 14, 0] ∧ rleDecode [0x1F, 0xFF] = none := by decide +kernel

/-! ### Well-formedness and the opcode table -/

theorem test_wf_ssp : Instr.wf (.sspSample 0 0 (List.replicate 33 0)) = false ∧ Instr.wf (.sspSample 0 0 (List.replicate 32 0)) = true := by decide +kernel

theorem test_wf_gnss : Instr.wf (.measurementEpoch 0 { obs := [{ ch := 128 }] }) = false ∧ Instr.wf (.measurementEpoch 0 { obs := [{ ch := 127 }] }) = true ∧
    Instr.wf (.navUnit 0 0 { bits := List.replicate 257 0 }) = false ∧
    Instr.wf (.emberBurst 0 [{ ch := 128 }] {}) = false := by decide +kernel

theorem test_wf_grid : Instr.wf (.featureTile 0 (List.replicate 63 0) []) = false ∧ Instr.wf (.featureTile 0 (List.replicate 64 0) [(0, [])]) = false ∧
    Instr.wf (.featureTile 0 (List.replicate 64 0) [(0, List.replicate 32 0)]) = true := by decide +kernel

theorem test_wf_can : Instr.wf (.tpDataTransfer 0 0 5 1 []) = false ∧ Instr.wf (.latency 0 0 0 (List.replicate 65 0)) = false ∧
    Instr.wf (.status 0 0 0 (List.replicate 65 0)) = false ∧ Instr.wf (.fault 0 0 0 (List.replicate 65 0)) = false ∧
    Instr.wf (.configAck 0 0 0 (List.replicate 65 0)) = false ∧ Instr.wf (.enrolReq 0 0 (List.replicate 65 0)) = false := by decide +kernel

theorem test_wf_words : Instr.wf (.regWr 0 0 0 0 0 []) = false ∧ Instr.wf (.regWr 0 0 0 0 0 (List.replicate 65 0)) = false ∧
    Instr.wf (.wr 0 0 0 [] 0) = false ∧ Instr.wf (.wr 0 0 0 (List.replicate 257 0) 0) = false ∧ Instr.wf (.wrNoinc 0 0 0 [] 0) = false ∧
    Instr.wf (.wrNoinc 0 0 0 (List.replicate 257 0) 0) = false := by decide +kernel

theorem test_no_words : decodeTableWord 8 0 = none ∧ (State.reset.withFetchWord 8 0) = State.reset := by decide +kernel

theorem test_reset : State.reset.pending = [] ∧ step State.reset = .next State.reset := ⟨rfl, rfl⟩

theorem test_front : ∃ t, step { dt := 0, dev := lit, pending := [.clrMax 5] } = .next t ∧ t.dt = 5 ∧ t.pending = [] := by
  exact ⟨_, rfl, by decide +kernel⟩

/-- The worked example of 14_host_interface.md's check units, by both parameter sets. -/
theorem test_crc_example : crc32 [0x31, 0x32, 0x33, 0x34, 0x35, 0x36, 0x37, 0x38, 0x39] = 0xCBF43926 ∧
    crc16 [0x31, 0x32, 0x33, 0x34, 0x35, 0x36, 0x37, 0x38, 0x39] = 0x29B1 := by decide +kernel

end Sys2Proof.Tests
end

section
/-! PROOFS. Device time and the queue under a command (R34). -/

namespace Sys2Proof.Machine

/-- R503: a POWER_ON_RESET powers the block off below 4.2 V for 20 µs, and in no other case. -/
theorem powersOff_powerOnReset_iff (el : Nat) (mv : BitVec 16) (held : Nat) :
    powersOff (.powerOnReset el mv held) ↔ mv.toNat < 4200 ∧ us 20 ≤ held := by
  constructor
  · rintro ⟨_, _, _, ⟨⟩, hlow⟩
    exact hlow
  · intro hlow
    exact ⟨el, mv, held, rfl, hlow⟩

/-- A command that powers the block off runs by the frame that starts DT from zero. -/
theorem exec_eq_runZero_of_powersOff {c : Instr} (hoff : powersOff c) (s : State) :
    exec c s = s.runZero c.elapsed (fun now d => d.powerOff now) := by
  obtain ⟨el, mv, held, rfl, hlow⟩ := hoff
  exact if_pos hlow

/-- What any other command can change: the block, and DT up to the command's instant. The meaning of every constructor but
POWER_ON_RESET is the frame `State.run` over the cycles it carries; POWER_ON_RESET leaves that frame only where it powers off. -/
theorem exec_eq_next_of_not_powersOff {c : Instr} (hon : ¬powersOff c) (s : State) :
    ∃ e : Dev, exec c s = .next { s with dt := s.now c.elapsed, dev := e } := by
  cases c with
  | powerOnReset el mv held =>
    rw [powersOff_powerOnReset_iff] at hon
    exact ⟨_, if_neg hon⟩
  | _ => exact ⟨_, rfl⟩

/-- Settles O2: a power-on reset runs by `State.runZero`, and every other command leaves DT at `State.now`, which goes on by the
command's cycles in every state but OFF. -/
theorem dtStartsAtPowerOnResetOnly : Obligations.DtStartsAtPowerOnResetOnly := by
  constructor
  · intro c s hoff
    exact ⟨_, exec_eq_runZero_of_powersOff hoff s, rfl, rfl⟩
  · intro c s hon
    obtain ⟨e, hnext⟩ := exec_eq_next_of_not_powersOff hon s
    exact ⟨_, hnext, rfl, rfl⟩

end Sys2Proof.Machine
end

section
/-! PROOFS. The frame of registers written and of an event fired after them, in the terms the statements use. -/

namespace Sys2Proof.Machine

theorem OnlyRegs.refl (fs : List Field) (d : Dev) : OnlyRegs fs d d := ⟨rfl, fun _ _ => rfl⟩

theorem OnlyRegs.wr {fs : List Field} (d : Dev) (f : Field) (v : Nat) (hf : f ∈ fs) : OnlyRegs fs d (d.wr f v) :=
  ⟨rfl, fun _ hg => Dev.rd_wr_ne d v (hg f hf)⟩

/-- A register that the statements count as no register of an event is none that a firing may change. -/
theorem Field.not_evtKey_of_ofEvents_eq_false (g : Field) (hlo : g.lo < 32) (hev : g.ofEvents = false) : ¬ EvtKey g.key := by
  have haddr : g.key / 32 = g.addr := by
    unfold Field.key
    omega
  simp only [Field.ofEvents, Bool.or_eq_false_iff, Bool.and_eq_false_iff, decide_eq_false_iff_not, beq_eq_false_iff_ne] at hev
  simp only [EvtKey, haddr]
  omega

/-- Registers written, and then no more than a firing: the frame of both. -/
theorem OnlyRegs.andQuiet {fs : List Field} {a b c : Dev} (hw : OnlyRegs fs a b) (hq : Quiet b c) : OnlyRegsAndEvents fs a c := by
  obtain ⟨hab, hregs⟩ := hw
  refine ⟨?_, fun g hlo hev hg => (hq.rd g (g.not_evtKey_of_ofEvents_eq_false hlo hev)).trans (hregs g hg)⟩
  rw [hq.1, hab]

theorem OnlyRegs.toOnlyRegsAndEvents {fs : List Field} {d e : Dev} (h : OnlyRegs fs d e) : OnlyRegsAndEvents fs d e :=
  h.andQuiet (Quiet.refl e)

/-- A command that runs by the frame of `State.run` answers what holds of its function at the command's instant. -/
theorem answers_of_run {i : Instr} {s : State} {f : Nat → Dev → Dev} {D : Nat → Dev → Dev → Prop} (hrun : exec i s = s.run i.elapsed f)
    (hD : D (s.now i.elapsed) (s.atCmd i.elapsed) (f (s.now i.elapsed) (s.atCmd i.elapsed))) : Answers i s D :=
  ⟨_, hrun, rfl, rfl, hD⟩

/-- A firing raises its event (R474). -/
theorem Dev.raised_fire (d : Dev) (now ev inst val : Nat) (hi : inst < 2 ^ 16) (hb : (evtPage ev inst).2 < 32) :
    (d.fire now ev inst val).raised ev inst = true := fire_raw d now ev inst val hi hb

end Sys2Proof.Machine
end

section
/-! PROOFS. The deviation check of a product loop (R181). -/

namespace Sys2Proof.Machine

/-! ### The loops of the rate block -/

@[simp] theorem Dev.rd_modLoop (d : Dev) (p : Nat) (f : LoopSt → LoopSt) (g : Field) : (d.modLoop p f).rd g = d.rd g := rfl

@[simp] theorem Dev.on_modLoop (d : Dev) (p : Nat) (f : LoopSt → LoopSt) (g : Field) : (d.modLoop p f).on g = d.on g := rfl

@[simp] theorem Dev.loopOf_modLoop_self (d : Dev) (p : Nat) (f : LoopSt → LoopSt) :
    (d.modLoop p f).loopOf p = f (d.loopOf p) := tget_tmod_self d.rate.loops p f

theorem Dev.loopOf_modLoop_ne (d : Dev) {p q : Nat} (f : LoopSt → LoopSt) (h : q ≠ p) :
    (d.modLoop p f).loopOf q = d.loopOf q := tget_tmod_ne d.rate.loops f h.symm

theorem Dev.loopOf_congr {d e : Dev} (h : e.rate = d.rate) (q : Nat) : e.loopOf q = d.loopOf q :=
  congrArg (fun r : RateBlk => tget r.loops q) h

/-- What a change of a loop leaves is the block with its rate state replaced. -/
theorem Dev.with_rate_eq_modLoop {d e : Dev} {p : Nat} {f : LoopSt → LoopSt} (h : e.rate = (d.modLoop p f).rate) :
    { d with rate := e.rate } = d.modLoop p f := by
  rw [h]
  rfl

/-! ### DEV_ACT and its event -/

@[simp] theorem Dev.on_wr_devAct_one (d : Dev) (p : Nat) : (d.wr (RATE.DEV_ACT p) 1).on (RATE.DEV_ACT p) = true := by
  simp [Dev.on, RATE.DEV_ACT]

@[simp] theorem Dev.on_wr_devAct_zero (d : Dev) (p : Nat) : (d.wr (RATE.DEV_ACT p) 0).on (RATE.DEV_ACT p) = false := by
  simp [Dev.on]

/-- DEV_ACT of a product is no register that a firing changes. -/
theorem not_evtKey_devAct {p : Nat} (hp : p < 8) : ¬ EvtKey (RATE.DEV_ACT p).key := by
  simp only [EvtKey, Field.key, RATE.DEV_ACT]
  omega

/-- DEV_ACT set with its event: DEV_ACT reads 1 and EVT_RATE_DEVIATION is raised. -/
theorem Dev.on_and_raised_of_deviation_fired (d : Dev) (now : Nat) {p : Nat} (hp : p < 8) :
    let e := (d.wr (RATE.DEV_ACT p) 1).fire now EVT.RATE_DEVIATION p 1
    e.on (RATE.DEV_ACT p) = true ∧ e.raised EVT.RATE_DEVIATION p = true := by
  constructor
  · rw [Dev.on, Dev.rd_fire _ _ _ _ _ _ (not_evtKey_devAct hp)]
    exact d.on_wr_devAct_one p
  · have hbit : (evtPage EVT.RATE_DEVIATION p).2 = 2 := rfl
    exact Dev.raised_fire _ _ _ _ _ (by omega) (by omega)

/-! ### What the check does -/

/-- Whether loop `p` deviates (R181): the condition `Dev.devCheck` judges by. -/
def Dev.deviates (d : Dev) (p sp : Nat) (pv : Int) : Bool :=
  d.rd (RATE.DEV_PCT p) != 0 && sp != 0 && !d.on (RATE.FB_LOST p) &&
    decide (d.rd (RATE.DEV_PCT p) * sp < 100 * ((sp : Int) - pv).natAbs)

theorem Dev.deviates_iff (d : Dev) (p sp : Nat) (pv : Int) :
    d.deviates p sp pv = true ↔ d.rd (RATE.DEV_PCT p) ≠ 0 ∧ 0 < sp ∧ d.on (RATE.FB_LOST p) = false ∧
      (d.rd (RATE.DEV_PCT p) * sp : Int) < 100 * ((sp : Int) - pv).natAbs := by
  have hcast : (d.rd (RATE.DEV_PCT p) * sp : Int) < 100 * ((sp : Int) - pv).natAbs ↔
      d.rd (RATE.DEV_PCT p) * sp < 100 * ((sp : Int) - pv).natAbs := by norm_cast
  rw [hcast]
  simp [Dev.deviates, Nat.pos_iff_ne_zero, and_assoc]

/-- A loop judged to deviate at `t`: the deviation goes on from where it began, or begins. -/
def LoopSt.deviating (t : Nat) (x : LoopSt) : LoopSt := { x with devFrom := some (x.devFrom.getD t), okFrom := none }

/-- A loop judged to agree at `t`. -/
def LoopSt.agreeing (t : Nat) (x : LoopSt) : LoopSt := { x with devFrom := none, okFrom := some (x.okFrom.getD t) }

/-- DEV_TIME of a product in cycles. -/
def Dev.devHold (d : Dev) (p : Nat) : Nat := ms (100 * d.rd (RATE.DEV_TIME p))

section
variable {d : Dev} {now t p sp : Nat} {pv : Int}

/-- A deviation at `t`: it is noted, and DEV_ACT sets with its event once the deviation has lasted DEV_TIME. -/
theorem Dev.devCheck_of_deviates (hdev : d.deviates p sp pv = true) :
    d.devCheck now t p sp pv =
      if d.on (RATE.DEV_ACT p) = false ∧ (d.loopOf p).devFrom.getD t + d.devHold p ≤ t then
        ((d.modLoop p (.deviating t)).wr (RATE.DEV_ACT p) 1).fire now EVT.RATE_DEVIATION p 1
      else d.modLoop p (.deviating t) := by
  unfold Dev.deviates at hdev
  simp only [Dev.devCheck, hdev, ↓reduceIte, Dev.loopOf_modLoop_self, Dev.on_modLoop, Bool.and_eq_true, Bool.not_eq_eq_eq_not,
    Bool.not_true, decide_eq_true_eq]
  rfl

/-- No deviation at `t`: the agreement is noted, and DEV_ACT clears once it has lasted DEV_TIME. -/
theorem Dev.devCheck_of_agrees (hagree : d.deviates p sp pv = false) :
    d.devCheck now t p sp pv =
      if d.on (RATE.DEV_ACT p) = true ∧ (d.loopOf p).okFrom.getD t + d.devHold p ≤ t then
        (d.modLoop p (.agreeing t)).wr (RATE.DEV_ACT p) 0
      else d.modLoop p (.agreeing t) := by
  unfold Dev.deviates at hagree
  simp only [Dev.devCheck, hagree, Bool.false_eq_true, ↓reduceIte, Dev.loopOf_modLoop_self, Dev.on_modLoop, Bool.and_eq_true,
    decide_eq_true_eq]
  rfl

/-- What a judgement notes about loop `p`. -/
def Dev.judged (d : Dev) (t p sp : Nat) (pv : Int) : LoopSt → LoopSt :=
  if d.deviates p sp pv then .deviating t else .agreeing t

theorem Dev.judged_of_deviates (hdev : d.deviates p sp pv = true) : d.judged t p sp pv = .deviating t := if_pos hdev

theorem Dev.judged_of_agrees (hagree : d.deviates p sp pv = false) : d.judged t p sp pv = .agreeing t := by
  simp [Dev.judged, hagree]

/-- The rate state after a judgement: only what is noted about the loop is new. -/
theorem Dev.devCheck_rate : (d.devCheck now t p sp pv).rate = (d.modLoop p (d.judged t p sp pv)).rate := by
  cases hdev : d.deviates p sp pv with
  | true =>
    rw [Dev.devCheck_of_deviates hdev, Dev.judged_of_deviates hdev]
    split_ifs <;> simp
  | false =>
    rw [Dev.devCheck_of_agrees hdev, Dev.judged_of_agrees hdev]
    split_ifs <;> simp

theorem Dev.loopOf_devCheck_self : (d.devCheck now t p sp pv).loopOf p = d.judged t p sp pv (d.loopOf p) :=
  (Dev.loopOf_congr Dev.devCheck_rate p).trans (d.loopOf_modLoop_self p _)

theorem Dev.loopOf_devCheck_ne {q : Nat} (hq : q ≠ p) : (d.devCheck now t p sp pv).loopOf q = d.loopOf q :=
  (Dev.loopOf_congr Dev.devCheck_rate q).trans (d.loopOf_modLoop_ne _ hq)

/-- Without a deviation a judgement changes no register but DEV_ACT, and fires nothing. -/
theorem Dev.devCheck_onlyRegs_of_agrees (hagree : d.deviates p sp pv = false) :
    OnlyRegs [RATE.DEV_ACT p] { d with rate := (d.devCheck now t p sp pv).rate } (d.devCheck now t p sp pv) := by
  rw [Dev.with_rate_eq_modLoop Dev.devCheck_rate, Dev.judged_of_agrees hagree, Dev.devCheck_of_agrees hagree]
  split_ifs
  · exact OnlyRegs.wr _ _ _ (List.mem_singleton_self _)
  · exact OnlyRegs.refl _ _

/-- A judgement changes no register but DEV_ACT and those of events (R181: nothing the device drives). -/
theorem Dev.devCheck_onlyRegsAndEvents :
    OnlyRegsAndEvents [RATE.DEV_ACT p] { d with rate := (d.devCheck now t p sp pv).rate } (d.devCheck now t p sp pv) := by
  cases hdev : d.deviates p sp pv with
  | true =>
    rw [Dev.with_rate_eq_modLoop Dev.devCheck_rate, Dev.judged_of_deviates hdev, Dev.devCheck_of_deviates hdev]
    split_ifs
    · exact (OnlyRegs.wr _ _ _ (List.mem_singleton_self _)).andQuiet (fire_quiet _ _ _ _ _)
    · exact (OnlyRegs.refl _ _).toOnlyRegsAndEvents
  | false => exact (Dev.devCheck_onlyRegs_of_agrees hdev).toOnlyRegsAndEvents

/-! ### DEV_ACT after a judgement -/

/-- A deviation that has lasted DEV_TIME sets DEV_ACT and raises its event. -/
theorem Dev.devCheck_sets (hp : p < 8) (hdev : d.deviates p sp pv = true) (hoff : d.on (RATE.DEV_ACT p) = false)
    (hlast : (d.loopOf p).devFrom.getD t + d.devHold p ≤ t) :
    (d.devCheck now t p sp pv).on (RATE.DEV_ACT p) = true ∧
      (d.devCheck now t p sp pv).raised EVT.RATE_DEVIATION p = true := by
  rw [Dev.devCheck_of_deviates hdev, if_pos ⟨hoff, hlast⟩]
  exact Dev.on_and_raised_of_deviation_fired _ _ hp

/-- Where DEV_ACT is set already, a deviation is noted and no more. -/
theorem Dev.devCheck_of_deviates_on (hdev : d.deviates p sp pv = true) (hon : d.on (RATE.DEV_ACT p) = true) :
    d.devCheck now t p sp pv = d.modLoop p (.deviating t) := by
  rw [Dev.devCheck_of_deviates hdev, if_neg (by simp [hon])]

/-- A deviation that has not lasted DEV_TIME is noted and no more. -/
theorem Dev.devCheck_of_deviates_early (hdev : d.deviates p sp pv = true)
    (hearly : t < (d.loopOf p).devFrom.getD t + d.devHold p) : d.devCheck now t p sp pv = d.modLoop p (.deviating t) := by
  rw [Dev.devCheck_of_deviates hdev, if_neg (fun h => absurd h.2 (not_le.mpr hearly))]

/-- An agreement that has lasted DEV_TIME clears DEV_ACT. -/
theorem Dev.devCheck_clears (hagree : d.deviates p sp pv = false) (hon : d.on (RATE.DEV_ACT p) = true)
    (hlast : (d.loopOf p).okFrom.getD t + d.devHold p ≤ t) : (d.devCheck now t p sp pv).on (RATE.DEV_ACT p) = false := by
  rw [Dev.devCheck_of_agrees hagree, if_pos ⟨hon, hlast⟩]
  exact Dev.on_wr_devAct_zero _ p

/-- Where DEV_ACT is clear, an agreement is noted and no more. -/
theorem Dev.devCheck_of_agrees_off (hagree : d.deviates p sp pv = false) (hoff : d.on (RATE.DEV_ACT p) = false) :
    d.devCheck now t p sp pv = d.modLoop p (.agreeing t) := by
  rw [Dev.devCheck_of_agrees hagree, if_neg (by simp [hoff])]

/-- An agreement that has not lasted DEV_TIME is noted and no more. -/
theorem Dev.devCheck_of_agrees_early (hagree : d.deviates p sp pv = false)
    (hearly : t < (d.loopOf p).okFrom.getD t + d.devHold p) : d.devCheck now t p sp pv = d.modLoop p (.agreeing t) := by
  rw [Dev.devCheck_of_agrees hagree, if_neg (fun h => absurd h.2 (not_le.mpr hearly))]

end

/-! ### The command -/

/-- Where Table 05.5 states the process value, reading it draws nothing. -/
theorem Dev.loopPv_keeps (d : Dev) (edge p : Nat) (h : d.rd (RATE.LOOP_KIND p) = 2 ∨ d.rd (RATE.FB_SCALE p) ≠ 0) :
    (d.loopPv edge p).2 = d := by
  unfold Dev.loopPv
  dsimp only
  split
  case h_1 hkind => rw [if_neg (h.resolve_left (by omega))]
  case h_2 => rfl
  case h_3 hkind => rw [if_neg (h.resolve_left (by omega))]
  case h_4 => rfl

/-- RATE_DEVIATION: an enabled loop of a running grid is judged at the command's instant, by the set point it holds and the
process value of that instant (log entry 68). -/
def Dev.judgeLoop (now p : Nat) (d : Dev) : Dev :=
  if d.ticking && d.loopEnabled p then
    let r := d.loopPv now p
    r.2.devCheck now now p (r.2.rd (RATE.LOOP_SP p)) r.1
  else d

theorem exec_rateDeviation (el : Nat) (p : Fin 8) (s : State) :
    exec (.rateDeviation el p) s = s.run el (fun now => Dev.judgeLoop now p.val) := rfl

theorem Dev.judgeLoop_of_enabled {d : Dev} {now p : Nat} (htick : d.ticking = true) (hen : d.loopEnabled p = true) :
    d.judgeLoop now p = (d.loopPv now p).2.devCheck now now p ((d.loopPv now p).2.rd (RATE.LOOP_SP p)) (d.loopPv now p).1 := by
  simp [Dev.judgeLoop, htick, hen]

/-- Settles O24: a judgement notes the deviation or the agreement and, once that has lasted DEV_TIME, sets or clears DEV_ACT; the
command RATE_DEVIATION is one judgement. -/
theorem rateDeviation : Obligations.RateDeviation := by
  unfold Obligations.RateDeviation
  constructor
  · rintro d now t p sp pv dev hold hp hdev rfl e rfl
    rw [← Dev.deviates_iff] at hdev
    refine ⟨fun h => ?_, fun h => ?_, Dev.devCheck_onlyRegsAndEvents, fun q hq => Dev.loopOf_devCheck_ne hq⟩
    · have hd : d.deviates p sp pv = true := hdev.mp h
      rw [Dev.loopOf_devCheck_self, Dev.judged_of_deviates hd]
      refine ⟨rfl, rfl, fun hon => ?_, fun hoff => ⟨Dev.devCheck_sets hp hd hoff, fun hearly => ?_⟩⟩
      · rwa [Dev.devCheck_of_deviates_on hd hon]
      · rw [Dev.devCheck_of_deviates_early hd hearly]
        exact ⟨hoff, rfl⟩
    · have hd : d.deviates p sp pv = false := Bool.eq_false_iff.mpr (mt hdev.mpr h)
      rw [Dev.loopOf_devCheck_self, Dev.judged_of_agrees hd]
      refine ⟨rfl, rfl, fun hoff => ?_, fun hon => ⟨Dev.devCheck_clears hd hon, fun hearly => ?_⟩,
        Dev.devCheck_onlyRegs_of_agrees hd⟩
      · rwa [Dev.devCheck_of_agrees_off hd hoff]
      · rwa [Dev.devCheck_of_agrees_early hd hearly]
  · intro s el p
    refine answers_of_run (exec_rateDeviation el p s) (fun htick hen => ⟨Dev.judgeLoop_of_enabled htick hen, ?_⟩)
    intro hkind hpct hfb hover hsp hoff f hf
    rw [Dev.judgeLoop_of_enabled htick hen, Dev.loopPv_keeps _ _ _ hkind]
    have hd := (Dev.deviates_iff _ _ _ _).mpr ⟨hpct, hsp, hfb, hover⟩
    refine ⟨fun hlast => Dev.devCheck_sets p.isLt hd hoff ?_, fun hearly => ?_⟩
    · rwa [hf]
    · rwa [Dev.devCheck_of_deviates_early hd (by rwa [hf])]

end Sys2Proof.Machine
end

section
/-! PROOFS. DISCARD of a page (R464). -/

namespace Sys2Proof.Machine

/-! ### Reads of a table after a filter by key -/

theorem tget?_filter_key {α : Type} (t : Tab α) (p : Nat → Bool) (k : Nat) :
    tget? (t.filter (fun x => p x.1)) k = if p k then tget? t k else none := by
  induction t with
  | nil => simp
  | cons x t ih =>
    obtain ⟨a, v⟩ := x
    by_cases hak : a = k
    · subst hak
      by_cases hp : p a <;> simp [tget?, hp, ih]
    · by_cases hp : p a <;> simp [tget?, hp, hak, ih]

/-! ### The block after a DISCARD -/

theorem discards_key_iff {f : Field} (hf : fieldOfKey f.key = some f) :
    discards f.key = true ↔ f.acc = .rws ∨ f.acc = .rwl := by
  simp [discards, hf]

theorem Dev.discardPage_pend (d : Dev) (now b : Nat) :
    (d.discardPage now b).pend = d.pend.filter (fun x => !(shadowPage (x.1 / 32) == b && discards x.1)) := by
  unfold Dev.discardPage
  split <;> rfl

@[simp] theorem Dev.rd_discardPage (d : Dev) (now b : Nat) (f : Field) : (d.discardPage now b).rd f = d.rd f := by
  unfold Dev.discardPage
  split <;> rfl

/-- A pending value waits no more where the page holds it and DISCARD drops its kind, and stands in every other case. -/
theorem Dev.tget?_discardPage_pend (d : Dev) (now b k : Nat) :
    tget? (d.discardPage now b).pend k =
      if shadowPage (k / 32) = b ∧ discards k = true then none else tget? d.pend k := by
  rw [Dev.discardPage_pend, tget?_filter_key d.pend (fun k => !(shadowPage (k / 32) == b && discards k))]
  by_cases hpage : shadowPage (k / 32) = b <;> by_cases hkind : discards k = true <;> simp [hpage, hkind]

theorem Dev.rdP_discardPage_of_dropped (d : Dev) (now : Nat) {b : Nat} {f : Field} (hpage : shadowPage (f.key / 32) = b)
    (hkind : discards f.key = true) : (d.discardPage now b).rdP f = d.rd f := by
  simp [Dev.rdP, Dev.tget?_discardPage_pend, hpage, hkind]

theorem Dev.rdP_discardPage_of_other_page (d : Dev) (now : Nat) {b : Nat} {f : Field} (hpage : shadowPage (f.key / 32) ≠ b) :
    (d.discardPage now b).rdP f = d.rdP f := by
  simp [Dev.rdP, Dev.tget?_discardPage_pend, hpage]

theorem Dev.shadowPend_discardPage (d : Dev) (now b : Nat)
    (hkind : ∀ x ∈ d.pend, shadowPage (x.1 / 32) = b → discards x.1 = true) :
    (d.discardPage now b).shadowPend b = false := by
  simp only [Dev.shadowPend, Dev.discardPage_pend, List.any_eq_false]
  intro x hx hshown
  obtain ⟨hmem, hkept⟩ := List.mem_filter.mp hx
  obtain ⟨hpage, -⟩ : shadowPage (x.1 / 32) = b ∧ x.2.dead = false := by simpa using hshown
  simp [hpage, hkind x hmem hpage] at hkept

theorem Dev.discardPage_eq_of_ne_pwrPage (d : Dev) (now : Nat) {b : Nat} (hb : b ≠ pwrPage) :
    d.discardPage now b = { d with pend := (d.discardPage now b).pend } := by
  simp [Dev.discardPage, hb]

/-- On the PWR page the commands that wait for a commit go with the pending values (log entry 28). -/
theorem Dev.discardPage_pwrPage_pwr (d : Dev) (now : Nat) :
    (d.discardPage now pwrPage).pwr = { d.pwr with snuffClr := false, clrAt := now, modeReq := 0, modeAt := now } := rfl

theorem Dev.discardPage_frame (d : Dev) (now b : Nat) :
    d.discardPage now b = { d with
      pend := (d.discardPage now b).pend
      pwr := { d.pwr with
        snuffClr := (d.discardPage now b).pwr.snuffClr, clrAt := (d.discardPage now b).pwr.clrAt
        modeReq := (d.discardPage now b).pwr.modeReq, modeAt := (d.discardPage now b).pwr.modeAt } } := by
  unfold Dev.discardPage
  split <;> rfl

/-! ### The command -/

/-- A command of the host answers what its function does where the register space is in service. -/
theorem answers_of_host {i : Instr} {s : State} {f : Nat → Dev → Dev} {D : Nat → Dev → Dev → Prop} (hrun : exec i s = s.host i.elapsed f)
    (hD : D (s.now i.elapsed) (s.atCmd i.elapsed) (f (s.now i.elapsed) (s.atCmd i.elapsed))) :
    Answers i s (fun now d e => d.hif.inService = true → D now d e) := by
  refine answers_of_run hrun (fun hserves => ?_)
  rwa [if_pos hserves]

theorem exec_discard_of_isPage (el : Nat) {a : BitVec 24} (ha : isPage (pageOf a) = true) (s : State) :
    exec (.discard el a) s = s.host el (fun now d => d.discardPage now (pageOf a)) := by
  change execDiscard el a s = _
  simp only [execDiscard, if_pos ha]

/-- Settles O13: what is left pending is a filter of the table by key, so a key dropped reads its active value and every other
key its pending one; beside the table only the waiting commands of the PWR page change. -/
theorem discardDropsPending : Obligations.DiscardDropsPending := by
  intro s el a ha
  refine answers_of_host (exec_discard_of_isPage el ha s) ⟨Dev.discardPage_pend .., ?_, Dev.shadowPend_discardPage _ _ _, ?_,
    Dev.discardPage_eq_of_ne_pwrPage _ _, ?_, Dev.discardPage_frame ..⟩
  · intro f hf hacc hpage
    exact Dev.rdP_discardPage_of_dropped _ _ hpage ((discards_key_iff hf).mpr hacc)
  · intro f hpage
    exact Dev.rdP_discardPage_of_other_page _ _ hpage
  · intro hpwr
    rw [hpwr]
    exact ⟨congrArg (·.snuffClr) (Dev.discardPage_pwrPage_pwr ..), congrArg (·.modeReq) (Dev.discardPage_pwrPage_pwr ..)⟩

end Sys2Proof.Machine
end

section
/-! PROOFS. The step, the run and the state after reset. -/

namespace Sys2Proof.Machine

theorem step_cons (c : Instr) (rest : List Instr) (s : State) (h : s.pending = c :: rest) :
    step s = exec c { s with pending := rest } := by
  simp [step, h]

theorem step_nil (s : State) (h : s.pending = []) : step s = .next s := by
  simp [step, h]

/-- Settles O1. -/
theorem stepRunsFrontCommand : Obligations.StepRunsFrontCommand := ⟨step_cons, step_nil⟩

/-- Settles O5: no register is listed in the register file, so each reads as its reset value. -/
theorem resetState : Obligations.ResetState :=
  ⟨rfl, rfl, rfl, rfl, Memory.wf_nil, rfl, fun _ => rfl⟩

/-- Every step answers a next state and takes one command off the queue, if one waits. -/
theorem step_takes_one (s : State) : ∃ t, step s = .next t ∧ t.pending = s.pending.tail ∧
    ((∀ c ∈ s.pending.take 1, ¬powersOff c) → s.dt ≤ t.dt ∧ t.dt ≤ s.dt + ((s.pending.take 1).map Instr.elapsed).sum) := by
  cases hq : s.pending with
  | nil => exact ⟨s, step_nil s hq, by simp [hq], by simp⟩
  | cons c rest =>
    rw [step_cons c rest s hq]
    by_cases hoff : powersOff c
    · exact ⟨_, exec_eq_runZero_of_powersOff hoff _, rfl, by simp [hoff]⟩
    · obtain ⟨e, hnext⟩ := exec_eq_next_of_not_powersOff hoff { s with pending := rest }
      refine ⟨_, hnext, rfl, fun _ => ⟨State.le_now _ _, ?_⟩⟩
      simp only [State.now, List.take_succ_cons, List.take_zero, List.map_cons, List.map_nil, List.sum_cons, List.sum_nil]
      split <;> omega

/-- A run of `k + 1` steps is a step, and then a run of `k`. -/
theorem core_run_succ (M : Host.Core) {s t : M.State} (k : Nat) (h : M.step s = .next t) : M.run (k + 1) s = M.run k t := by
  simp only [Host.Core.run, h]

/-- Settles O3, by induction on the number of steps: the first takes the front command, the others the rest. -/
theorem runTakesQueueInOrder : Obligations.RunTakesQueueInOrder := by
  unfold Obligations.RunTakesQueueInOrder
  intro k
  induction k with
  | zero => exact fun s => ⟨s, rfl, rfl, by simp⟩
  | succ k ih =>
    intro s
    obtain ⟨t, hstep, hqueue, hdt⟩ := step_takes_one s
    obtain ⟨u, hrun, hrest, hdtRest⟩ := ih t
    have htake : s.pending.take (k + 1) = s.pending.take 1 ++ t.pending.take k := by
      rw [hqueue]
      cases s.pending <;> simp
    refine ⟨u, (core_run_succ core k hstep).trans hrun, by rw [hrest, hqueue, List.drop_tail], fun hon => ?_⟩
    simp only [htake, List.mem_append] at hon
    obtain ⟨hlo, hhi⟩ := hdt (fun c hc => hon c (.inl hc))
    obtain ⟨hlo', hhi'⟩ := hdtRest (fun c hc => hon c (.inr hc))
    rw [htake, List.map_append, List.sum_append]
    omega

end Sys2Proof.Machine
end

section
/-! PROOFS. The shared operations over memory, registers and events. -/

namespace Sys2Proof.Machine

/-- Settles O6. -/
theorem memoryBytesReadBack : Obligations.MemoryBytesReadBack := fun m a bs hwf =>
  ⟨memSetBytes_wf m a bs hwf, fun i h => memGet_memSetBytes_in m a i bs h, fun b h => memGet_memSetBytes_out m a b bs h⟩

/-- Settles O7. -/
theorem registerFieldsAreIndependent : Obligations.RegisterFieldsAreIndependent := fun d f v =>
  ⟨d.rd_wr_self f v, d.rd_add_self f v, OnlyRegs.wr d f v (List.mem_singleton_self f),
    OnlyRegs.wr d f _ (List.mem_singleton_self f)⟩

/-- Settles O8. -/
theorem firingSetsRaw : Obligations.FiringSetsRaw := fun d now e inst val hinst hbit =>
  ⟨fire_raw d now e inst val hinst hbit, (OnlyRegs.refl [] d).andQuiet (fire_quiet d now e inst val)⟩

end Sys2Proof.Machine
end

section
/-! PROOFS. The run-length code of tiles (R130, Table 03.12). -/

namespace Sys2Proof.Machine

/-! ### Joining runs -/

/-- A run put before joined runs: it grows the first of them where that has its value. -/
def joinRun (v n : Nat) : List (Nat × Nat) → List (Nat × Nat)
  | (w, m) :: r => if v = w then (v, n + m) :: r else (v, n) :: (w, m) :: r
  | [] => [(v, n)]

theorem joinRuns_cons (v n : Nat) (t : List (Nat × Nat)) : joinRuns ((v, n) :: t) = joinRun v n (joinRuns t) := by
  rw [joinRuns]
  cases joinRuns t <;> rfl

theorem joinRun_joinRun (v n m : Nat) (l : List (Nat × Nat)) : joinRun v n (joinRun v m l) = joinRun v (n + m) l := by
  cases l with
  | nil => simp [joinRun]
  | cons r l =>
    obtain ⟨w, k⟩ := r
    by_cases h : v = w <;> simp [joinRun, h, Nat.add_assoc]

@[simp] theorem expandRuns_cons (r : Nat × Nat) (rs : List (Nat × Nat)) :
    expandRuns (r :: rs) = List.replicate r.2 r.1 ++ expandRuns rs := rfl

theorem expandRuns_joinRun (v n : Nat) (l : List (Nat × Nat)) :
    expandRuns (joinRun v n l) = List.replicate n v ++ expandRuns l := by
  cases l with
  | nil => rfl
  | cons r l =>
    obtain ⟨w, m⟩ := r
    by_cases h : v = w
    · subst h
      simp [joinRun, ← List.replicate_append_replicate]
    · simp [joinRun, h]

/-- Joining runs keeps the cells. -/
theorem expandRuns_joinRuns (rs : List (Nat × Nat)) : expandRuns (joinRuns rs) = expandRuns rs := by
  induction rs with
  | nil => rfl
  | cons r rs ih => rw [joinRuns_cons, expandRuns_joinRun, ih, expandRuns_cons]

theorem length_expandRuns (rs : List (Nat × Nat)) : (expandRuns rs).length = (rs.map (·.2)).sum := by
  induction rs with
  | nil => rfl
  | cons r rs ih => simp [ih]

/-- The runs of single cells of one value, joined, are one run of them. -/
theorem joinRuns_replicate_append (v n : Nat) (l : List (Nat × Nat)) :
    joinRuns (List.replicate (n + 1) (v, 1) ++ l) = joinRun v (n + 1) (joinRuns l) := by
  induction n with
  | zero => exact joinRuns_cons v 1 l
  | succ n ih => rw [List.replicate_succ, List.cons_append, joinRuns_cons, ih, joinRun_joinRun, Nat.add_comm]

/-- The runs of the cells of a run list are the run list joined. -/
theorem runsOf_expandRuns {rs : List (Nat × Nat)} (hpos : ∀ r ∈ rs, 1 ≤ r.2) : runsOf (expandRuns rs) = joinRuns rs := by
  induction rs with
  | nil => rfl
  | cons r rs ih =>
    obtain ⟨v, n⟩ := r
    obtain ⟨k, rfl⟩ : ∃ k, n = k + 1 := ⟨n - 1, by have := hpos (v, n) (by simp); dsimp only at this; omega⟩
    have hrest : joinRuns ((expandRuns rs).map (fun v => (v, 1))) = joinRuns rs :=
      ih (fun r hr => hpos r (List.mem_cons_of_mem _ hr))
    rw [runsOf, expandRuns_cons, List.map_append, List.map_replicate, joinRuns_replicate_append, hrest, joinRuns_cons]

/-! ### Nibbles -/

/-- Nibbles packed to bytes unpack as they were, where their number is even. -/
theorem unpackNibbles_packNibbles : ∀ {vs : List Nat}, (∀ v ∈ vs, v < 16) → vs.length % 2 = 0 → unpackNibbles (packNibbles vs) = vs
  | [], _, _ => rfl
  | [_], _, h => absurd h (by simp)
  | a :: b :: vs, hlt, heven => by
    have ha : a < 16 := hlt a (by simp)
    have hb : b < 16 := hlt b (by simp)
    have ih : unpackNibbles (packNibbles vs) = vs :=
      unpackNibbles_packNibbles (fun v hv => hlt v (by simp [hv])) (by simp only [List.length_cons] at heven; omega)
    have hlo : (a % 16 + 16 * (b % 16)) % 16 = a := by omega
    have hhi : (a % 16 + 16 * (b % 16)) / 16 % 16 = b := by omega
    simpa [packNibbles, unpackNibbles, hlo, hhi] using ih

theorem length_packNibbles : ∀ vs : List Nat, (packNibbles vs).length = (vs.length + 1) / 2
  | [] => rfl
  | [_] => by simp [packNibbles]
  | _ :: _ :: vs => by simp [packNibbles, length_packNibbles vs]; omega

theorem expandRuns_lt {rs : List (Nat × Nat)} (h : ∀ r ∈ rs, r.1 < 16) : ∀ v ∈ expandRuns rs, v < 16 := by
  intro v hv
  obtain ⟨r, hr, hvr⟩ := List.mem_flatMap.mp hv
  exact List.eq_of_mem_replicate hvr ▸ h r hr

/-! ### Tokens -/

/-- A run that one token can carry: a nibble, and a length of at most one tile. -/
def TokenRun (r : Nat × Nat) : Prop := r.1 < 16 ∧ 1 ≤ r.2 ∧ r.2 ≤ tileCells

theorem rleToken_lt {r : Nat × Nat} (h : TokenRun r) : ∀ b ∈ rleToken r.1 r.2, b < 256 := by
  obtain ⟨hv, h1, hn⟩ := h
  unfold tileCells at hn
  unfold rleToken
  split <;> simp <;> omega

/-- A token is not empty. -/
theorem rleToken_length_pos (v n : Nat) : 1 ≤ (rleToken v n).length := by
  unfold rleToken
  split <;> simp

/-- A token decodes to its run, and the decoder goes on behind it. -/
theorem rleDecodeN_token_append {r : Nat × Nat} (h : TokenRun r) (fuel : Nat) (rest : List Nat) :
    rleDecodeN (fuel + 1) (rleToken r.1 r.2 ++ rest) = (rleDecodeN fuel rest).map (r :: ·) := by
  obtain ⟨v, n⟩ := r
  obtain ⟨hv, h1, hn⟩ := h
  unfold tileCells at hn
  dsimp only at *
  by_cases hshort : n ≤ 14
  · have hlo : (16 * v + n) % 16 = n := by omega
    have hhi : (16 * v + n) / 16 = v := by omega
    simp [rleToken, hshort, rleDecodeN, hlo, hhi, show n ≠ 15 by omega, show n ≠ 0 by omega]
  · have hlo : (16 * v + 15) % 16 = 15 := by omega
    have hhi : (16 * v + 15) / 16 = v := by omega
    have hlen : (n - 1) % 256 + 256 * ((n - 1) / 256) + 1 = n := by omega
    simp [rleToken, hshort, rleDecodeN, hlo, hhi, hlen]

/-- The code of a run list decodes to it, and the decoder goes on behind it. -/
theorem rleDecodeN_encode_append {rs : List (Nat × Nat)} (h : ∀ r ∈ rs, TokenRun r) (fuel : Nat) (rest : List Nat) :
    rleDecodeN (fuel + rs.length) (rleEncode rs ++ rest) = (rleDecodeN fuel rest).map (rs ++ ·) := by
  induction rs with
  | nil => simp [rleEncode]
  | cons r rs ih =>
    have hcode : rleEncode (r :: rs) ++ rest = rleToken r.1 r.2 ++ (rleEncode rs ++ rest) := by simp [rleEncode]
    rw [hcode, List.length_cons, ← Nat.add_assoc, rleDecodeN_token_append (h r (by simp)),
      ih (fun r hr => h r (List.mem_cons_of_mem _ hr)), Option.map_map]
    rfl

theorem length_le_rleEncode (rs : List (Nat × Nat)) : rs.length ≤ (rleEncode rs).length := by
  induction rs with
  | nil => simp
  | cons r rs ih =>
    have := rleToken_length_pos r.1 r.2
    simp only [rleEncode, List.flatMap_cons, List.length_append, List.length_cons] at ih ⊢
    omega

/-- The decoder takes the code of a run list under any fuel that is no less than its length. -/
theorem rleDecodeN_encode {rs : List (Nat × Nat)} (h : ∀ r ∈ rs, TokenRun r) {fuel : Nat} (hf : rs.length ≤ fuel) :
    rleDecodeN fuel (rleEncode rs) = some rs := by
  obtain ⟨k, rfl⟩ := Nat.exists_eq_add_of_le' hf
  have := rleDecodeN_encode_append h k []
  simpa [rleDecodeN] using this

theorem rleDecode_encode {rs : List (Nat × Nat)} (h : ∀ r ∈ rs, TokenRun r) (hsum : (rs.map (·.2)).sum = tileCells) :
    rleDecode (rleEncode rs) = some (joinRuns rs) := by
  simp only [rleDecode, rleDecodeN_encode h (length_le_rleEncode rs), hsum, if_true]

/-- A code cut short by its last byte is refused: where its last token is a short one, a run is missing and the cells are too
few; a long one is cut within. -/
theorem rleDecode_encode_dropLast {rs : List (Nat × Nat)} (h : ∀ r ∈ rs, TokenRun r) (hsum : (rs.map (·.2)).sum = tileCells) :
    rleDecode (rleEncode rs).dropLast = none := by
  obtain ⟨init, r, rfl⟩ : ∃ init r, rs = init ++ [r] :=
    ⟨rs.dropLast, rs.getLast (by rintro rfl; simp [tileCells] at hsum), (List.dropLast_append_getLast _).symm⟩
  have hinit : ∀ x ∈ init, TokenRun x := fun x hx => h x (by simp [hx])
  have hr : TokenRun r := h r (by simp)
  obtain ⟨hv, h1, hn⟩ := hr
  have hcode : rleEncode (init ++ [r]) = rleEncode init ++ rleToken r.1 r.2 := by simp [rleEncode]
  by_cases hshort : r.2 ≤ 14
  · have hcut : (rleEncode (init ++ [r])).dropLast = rleEncode init := by simp [hcode, rleToken, hshort]
    have hfew : (init.map (·.2)).sum ≠ tileCells := by
      simp only [List.map_append, List.sum_append, List.map_cons, List.map_nil, List.sum_singleton] at hsum
      omega
    rw [hcut, rleDecode, rleDecodeN_encode hinit (length_le_rleEncode init)]
    simp [hfew]
  · have hcut : (rleEncode (init ++ [r])).dropLast = rleEncode init ++ [16 * r.1 + 15, (r.2 - 1) % 256] := by
      simp [hcode, rleToken, hshort]
    obtain ⟨k, hk⟩ := Nat.exists_eq_add_of_le' (length_le_rleEncode init)
    have hlen : (rleEncode init ++ [16 * r.1 + 15, (r.2 - 1) % 256]).length = (k + 1 + 1) + init.length := by simp [hk]; omega
    have htail : rleDecodeN (k + 1 + 1) [16 * r.1 + 15, (r.2 - 1) % 256] = none := by
      have hlo : (16 * r.1 + 15) % 16 = 15 := by omega
      simp [rleDecodeN, hlo]
    rw [hcut, rleDecode, hlen, rleDecodeN_encode_append hinit, htail]
    rfl

/-- Settles O59. -/
theorem tileCodeLosesNothing : Obligations.TileCodeLosesNothing := by
  intro rs hrs hsum
  have hpos : ∀ r ∈ rs, 1 ≤ r.2 := fun r hr => (hrs r hr).2
  have htok : ∀ r ∈ rs, TokenRun r := fun r hr =>
    ⟨(hrs r hr).1, hpos r hr, hsum ▸ List.single_le_sum (by simp) _ (List.mem_map_of_mem hr)⟩
  have hlen : (expandRuns rs).length = 65536 := (length_expandRuns rs).trans hsum
  have hunpack : unpackNibbles (packNibbles (expandRuns rs)) = expandRuns rs :=
    unpackNibbles_packNibbles (expandRuns_lt fun r hr => (hrs r hr).1) (by rw [hlen])
  have hpack : (packNibbles (expandRuns rs)).length = 32768 := by rw [length_packNibbles, hlen]
  refine ⟨?_, ⟨joinRuns rs, rleDecode_encode htok hsum, expandRuns_joinRuns rs, rleDecode_encode htok hsum, ?_⟩, hunpack,
    rleDecode_encode_dropLast htok hsum⟩
  · intro b hb
    obtain ⟨r, hr, hbr⟩ := List.mem_flatMap.mp hb
    exact rleToken_lt (htok r hr) b hbr
  · simp only [contentRuns, hpack, hunpack, runsOf_expandRuns hpos]
    rfl

end Sys2Proof.Machine
end

section
/-! PROOFS. What a command answers, from what its function does; frames put together step by step. -/

namespace Sys2Proof.Machine

/-- A command answers what its function does, whatever the block and the instant. -/
theorem answers_of_forall {i : Instr} {s : State} {f : Nat → Dev → Dev} {D : Nat → Dev → Dev → Prop} (hrun : exec i s = s.run i.elapsed f)
    (hD : ∀ now d, D now d (f now d)) : Answers i s D := answers_of_run hrun (hD _ _)

/-- The same for a command of the host, which acts where the register space is in service. -/
theorem answers_of_forall_host {i : Instr} {s : State} {f : Nat → Dev → Dev} {D : Nat → Dev → Dev → Prop}
    (hrun : exec i s = s.host i.elapsed f) (hD : ∀ now d, d.hif.inService = true → D now d (f now d)) :
    Answers i s (fun now d e => d.hif.inService = true → D now d e) := by
  refine answers_of_run hrun (fun hserves => ?_)
  rw [if_pos hserves]
  exact hD _ _ hserves

theorem Answers.and {i : Instr} {s : State} {D E : Nat → Dev → Dev → Prop} (hD : Answers i s D) (hE : Answers i s E) :
    Answers i s (fun now d e => D now d e ∧ E now d e) := by
  obtain ⟨t, ht, hdt, hq, hd⟩ := hD
  obtain ⟨u, hu, -, -, he⟩ := hE
  obtain rfl : u = t := by rw [ht] at hu; exact (Host.Outcome.next.inj hu).symm
  exact ⟨u, ht, hdt, hq, hd, he⟩

/-! ### Frames of registers and of events, one operation after another -/

theorem OnlyRegs.trans {fs : List Field} {a b c : Dev} (h : OnlyRegs fs a b) (g : OnlyRegs fs b c) : OnlyRegs fs a c := by
  obtain ⟨hab, hregs⟩ := h
  obtain ⟨hbc, hregs'⟩ := g
  refine ⟨?_, fun f hf => (hregs' f hf).trans (hregs f hf)⟩
  rw [hbc, hab]

theorem OnlyRegs.thenWr {fs : List Field} {d e : Dev} (h : OnlyRegs fs d e) {f : Field} (hf : f ∈ fs) (v : Nat) :
    OnlyRegs fs d (e.wr f v) := h.trans (OnlyRegs.wr e f v hf)

theorem OnlyRegs.mono {fs gs : List Field} {d e : Dev} (h : OnlyRegs fs d e) (hsub : ∀ f ∈ fs, f ∈ gs) : OnlyRegs gs d e :=
  ⟨h.1, fun g hg => h.2 g (fun f hf => hg f (hsub f hf))⟩

theorem OnlyRegsAndEvents.trans {fs : List Field} {a b c : Dev} (h : OnlyRegsAndEvents fs a b) (g : OnlyRegsAndEvents fs b c) :
    OnlyRegsAndEvents fs a c := by
  obtain ⟨hab, hregs⟩ := h
  obtain ⟨hbc, hregs'⟩ := g
  refine ⟨?_, fun f hlo hev hf => (hregs' f hlo hev hf).trans (hregs f hlo hev hf)⟩
  rw [hbc, hab]

theorem OnlyRegsAndEvents.refl (fs : List Field) (d : Dev) : OnlyRegsAndEvents fs d d := (OnlyRegs.refl fs d).toOnlyRegsAndEvents

theorem OnlyRegsAndEvents.thenQuiet {fs : List Field} {a b c : Dev} (h : OnlyRegsAndEvents fs a b) (hq : Quiet b c) :
    OnlyRegsAndEvents fs a c := h.trans ((OnlyRegs.refl fs b).andQuiet hq)

theorem OnlyRegsAndEvents.thenFire {fs : List Field} {a b : Dev} (h : OnlyRegsAndEvents fs a b) (now ev inst val : Nat) :
    OnlyRegsAndEvents fs a (b.fire now ev inst val) := h.thenQuiet (fire_quiet b now ev inst val)

theorem OnlyRegsAndEvents.thenWr {fs : List Field} {d e : Dev} (h : OnlyRegsAndEvents fs d e) {f : Field} (hf : f ∈ fs) (v : Nat) :
    OnlyRegsAndEvents fs d (e.wr f v) := h.trans (OnlyRegs.wr e f v hf).toOnlyRegsAndEvents

/-- Where the frame holds, a register field of no event page that is not named reads as before. -/
theorem OnlyRegsAndEvents.rd_of_disjoint {fs : List Field} {d e : Dev} (h : OnlyRegsAndEvents fs d e) {g : Field} (hlo : g.lo < 32)
    (hev : g.ofEvents = false) (hne : ∀ f ∈ fs, f.key ≠ g.key) : e.rd g = d.rd g := h.2 g hlo hev hne

theorem Dev.rd_fire_of (d : Dev) (now ev inst val : Nat) {g : Field} (hlo : g.lo < 32) (hev : g.ofEvents = false) :
    (d.fire now ev inst val).rd g = d.rd g := Dev.rd_fire _ _ _ _ _ _ (g.not_evtKey_of_ofEvents_eq_false hlo hev)

end Sys2Proof.Machine
end

section
/-! PROOFS. The page lock (R462). -/

namespace Sys2Proof.Machine

/-- A write of KEY changes no more than the lock state of its page. -/
theorem Dev.keyWrite_frame (d : Dev) (now b v : Nat) : d.keyWrite now b v =
    { d with hif := { d.hif with keyHalf := (d.keyWrite now b v).hif.keyHalf, unlocked := (d.keyWrite now b v).hif.unlocked } } := by
  unfold Dev.keyWrite
  dsimp only
  split_ifs <;> rfl

theorem Dev.keyWrite_unlocked_ne (d : Dev) (now v : Nat) {b c : Nat} (h : c ≠ b) :
    tget? (d.keyWrite now b v).hif.unlocked c = tget? d.hif.unlocked c := by
  have hset : tget? (tset d.hif.unlocked b now) c = tget? d.hif.unlocked c := tget?_tset_ne _ _ h.symm
  have hdel : tget? (tdel d.hif.unlocked b) c = tget? d.hif.unlocked c := tget?_tdel_ne _ h.symm
  unfold Dev.keyWrite
  dsimp only
  split_ifs
  exacts [rfl, hset, rfl, hdel]

/-- 0xA5 no later than 16 cycles after 0x5A unlocks the page. -/
theorem Dev.keyWrite_unlocks (d : Dev) {now b t : Nat} (hhalf : tget? d.hif.keyHalf b = some t) (hsoon : now ≤ t + 16) :
    (d.keyWrite now b 0xA5).unlocked now b = true := by
  simp [Dev.keyWrite, Dev.unlocked, hhalf, hsoon, ms]

/-- 0xA5 later, or without 0x5A before it, unlocks nothing. -/
theorem Dev.keyWrite_unlocked_of_late (d : Dev) {now b : Nat} (hlate : ∀ t, tget? d.hif.keyHalf b = some t → t + 16 < now) :
    (d.keyWrite now b 0xA5).hif.unlocked = d.hif.unlocked := by
  cases hhalf : tget? d.hif.keyHalf b with
  | none => simp [Dev.keyWrite, hhalf]
  | some t => simp [Dev.keyWrite, hhalf, not_le.mpr (hlate t hhalf)]

theorem Dev.keyWrite_half (d : Dev) (now b : Nat) :
    tget? (d.keyWrite now b 0x5A).hif.keyHalf b = some now ∧ (d.keyWrite now b 0x5A).hif.unlocked = d.hif.unlocked := by
  simp [Dev.keyWrite]

/-- Any other value locks the page. -/
theorem Dev.keyWrite_locks (d : Dev) (now b : Nat) {v : Nat} (h5 : v ≠ 0x5A) (hA : v ≠ 0xA5) :
    (d.keyWrite now b v).unlocked now b = false := by
  simp [Dev.keyWrite, Dev.unlocked, h5, hA]

theorem Dev.unlocked_eq_false_of_timeout {d : Dev} {now b t : Nat} (hkey : tget? d.hif.unlocked b = some t) (hover : t + ms 1000 ≤ now) :
    d.unlocked now b = false := by
  simp [Dev.unlocked, hkey, not_lt.mpr hover]

theorem Dev.lockTimeout_frame (d : Dev) (now b : Nat) :
    d.lockTimeout now b = { d with hif := { d.hif with unlocked := (d.lockTimeout now b).hif.unlocked } } := by
  unfold Dev.lockTimeout
  split_ifs <;> rfl

theorem Dev.lockTimeout_unlocked_ne (d : Dev) (now : Nat) {b c : Nat} (h : c ≠ b) :
    tget? (d.lockTimeout now b).hif.unlocked c = tget? d.hif.unlocked c := by
  unfold Dev.lockTimeout
  split_ifs
  · rfl
  · exact tget?_tdel_ne _ h.symm

/-- Settles O9: a key write by its value, and the timeout by whether the page is still unlocked. -/
theorem pageLockFollowsKey : Obligations.PageLockFollowsKey := by
  intro s el a
  constructor
  · intro v
    refine answers_of_forall (f := fun now d =>
      if d.hif.inService then if isPage (pageOf a) then d.keyWrite now (pageOf a) v.toNat else d else d) rfl (fun now d => ?_)
    by_cases hact : d.hif.inService = true ∧ isPage (pageOf a) = true
    · obtain ⟨hserves, hpage⟩ := hact
      rw [if_pos hserves, if_pos hpage]
      refine ⟨fun _ _ => ⟨?_, ?_, ?_, ?_⟩, fun b hb => Dev.keyWrite_unlocked_ne _ _ _ hb, Dev.keyWrite_frame _ _ _ _⟩
      · rintro rfl ⟨t, hhalf, hsoon⟩
        exact d.keyWrite_unlocks hhalf hsoon
      · rintro rfl hlate
        exact d.keyWrite_unlocked_of_late hlate
      · rintro rfl
        exact d.keyWrite_half now _
      · exact fun h5 hA => d.keyWrite_locks now _ (fun h => h5 (BitVec.eq_of_toNat_eq h)) (fun h => hA (BitVec.eq_of_toNat_eq h))
    · have hidle : (if d.hif.inService then if isPage (pageOf a) then d.keyWrite now (pageOf a) v.toNat else d else d) = d := by
        split_ifs with hserves hpage
        · exact absurd ⟨hserves, hpage⟩ hact
        · rfl
        · rfl
      rw [hidle]
      exact ⟨fun hserves hpage => absurd ⟨hserves, hpage⟩ hact, fun _ _ => rfl, rfl⟩
  · refine answers_of_forall (f := fun now d => d.lockTimeout now (pageOf a)) rfl
      (fun now d => ⟨?_, ?_, fun b hb => d.lockTimeout_unlocked_ne now hb, d.lockTimeout_frame now _⟩)
    · rintro ⟨t, hkey, hover⟩
      simp [Dev.lockTimeout, Dev.unlocked_eq_false_of_timeout hkey hover]
    · intro hopen
      simp [Dev.lockTimeout, hopen]

end Sys2Proof.Machine
end

section
/-! PROOFS. PEND clears, the end of rate limiting, the LO/HI latch and CLR_MAX (R36, R60, R478, R479). -/

namespace Sys2Proof.Machine

/-! ### Bits -/

theorem bitOf_eq_testBit (v i : Nat) : bitOf v i = v.testBit i := by
  rw [bitOf, Nat.testBit_eq_decide_div_mod_eq]
  rfl

theorem sub_and_div_two (v m : Nat) : (v - (v &&& m)) / 2 = v / 2 - (v / 2 &&& m / 2) := by
  have hdiv : (v &&& m) / 2 = (v / 2 &&& m / 2) := Nat.and_div_two
  have hle : v &&& m ≤ v := Nat.and_le_left
  have hodd : (v &&& m) % 2 = 1 → v % 2 = 1 := fun h => (Nat.and_mod_two_eq_one.mp h).1
  omega

/-- Taking the bits of `m` off `v` clears them and leaves the others. -/
theorem testBit_sub_and (v m i : Nat) : (v - (v &&& m)).testBit i = (v.testBit i && !m.testBit i) := by
  induction i generalizing v m with
  | zero =>
    have hle : v &&& m ≤ v := Nat.and_le_left
    have hodd : (v &&& m) % 2 = 1 ↔ v % 2 = 1 ∧ m % 2 = 1 := Nat.and_mod_two_eq_one
    have hbit : (v - (v &&& m)) % 2 = 1 ↔ v % 2 = 1 ∧ ¬ m % 2 = 1 := by omega
    simp only [Nat.testBit_zero, hbit, ← decide_not, Bool.decide_and]
  | succ i ih => rw [Nat.testBit_succ, Nat.testBit_succ, Nat.testBit_succ, sub_and_div_two, ih]

theorem bitOf_sub_and (v m i : Nat) : bitOf (v - (v &&& m)) i = (bitOf v i && !bitOf m i) := by
  simp only [bitOf_eq_testBit, testBit_sub_and]

/-! ### Clearing flags -/

theorem key_pend_ne_key_raw (b c : Nat) (hb : b % 0x1000 = 0) (hc : c % 0x1000 = 0) :
    (HDR.PG_EVT_PEND b).key ≠ (HDR.PG_EVT_RAW c).key := by
  simp only [Field.key, HDR.PG_EVT_PEND, HDR.PG_EVT_RAW]
  omega

theorem Dev.bitOf_pend_clearFlags (d : Dev) {b i : Nat} (mask : Nat) (hb : b % 0x1000 = 0) (hi : i < 32) :
    bitOf ((d.clearFlags b mask).rd (HDR.PG_EVT_PEND b)) i = (bitOf (d.rd (HDR.PG_EVT_PEND b)) i && !bitOf mask i) := by
  rw [Dev.clearFlags, Dev.rd_wr_ne _ _ (key_pend_ne_key_raw b b hb hb).symm, Dev.rd_wr_self, ← bitOf_sub_and]
  exact bitOf_mod _ i 32 hi

theorem Dev.bitOf_raw_clearFlags (d : Dev) {b i : Nat} (mask : Nat) (hi : i < 32) :
    bitOf ((d.clearFlags b mask).rd (HDR.PG_EVT_RAW b)) i = (bitOf (d.rd (HDR.PG_EVT_RAW b)) i && !bitOf mask i) := by
  rw [Dev.clearFlags, Dev.rd_wr_self, ← bitOf_sub_and]
  exact bitOf_mod _ i 32 hi

theorem Dev.clearFlags_onlyRegs (d : Dev) (b mask : Nat) :
    OnlyRegs [HDR.PG_EVT_PEND b, HDR.PG_EVT_RAW b] d (d.clearFlags b mask) :=
  (OnlyRegs.wr d _ _ (by simp)).thenWr (by simp) _

/-! ### The end of a rate-limit interval -/

/-- A delivery that no route takes opens the next interval, or ends rate limiting, and does nothing else. -/
theorem Dev.deliverN_of_no_route (d : Dev) (fuel now start : Nat) {f : Firing} (hksp : d.on (EVH.KSP_ROUTE f.num) = false)
    (hrec : d.on (EVH.REC_ROUTE f.num) = false) :
    Dev.deliverN (fuel + 1) d now start f = { d with evh := { d.evh with
      limits := if d.rd (EVH.RL_MS f.num) = 0 then tdel d.evh.limits f.num
        else tset d.evh.limits f.num { until_ := start + ms (d.rd (EVH.RL_MS f.num)), heldBack := none } } } := by
  simp only [Dev.on] at hksp hrec
  simp only [Dev.deliverN, Dev.on, Dev.rd_with_evh, hksp, hrec, Bool.false_eq_true, if_false]

theorem Dev.rateLimitEnd_of_due (d : Dev) {now n : Nat} {l : RateLim} (hl : tget? d.evh.limits n = some l) (hdue : l.until_ ≤ now) :
    d.rateLimitEnd now n = match l.heldBack with
      | some g => Dev.deliverN 8 d now l.until_ g
      | none => { d with evh := { d.evh with limits := tdel d.evh.limits n } } := by
  simp only [Dev.rateLimitEnd, tget, hl, Option.getD_some, Option.isSome_some, decide_eq_true hdue, Bool.and_self, if_true] <;>
    cases l.heldBack <;> rfl

/-! ### Latched halves and CLR_MAX -/

theorem page_ne_four_of_hiOf {a h : Nat} (ha : hiOf a = some h) : a / 0x1000 ≠ 4 := by
  intro hp
  simp [hiOf, hp] at ha

/-- A read of a low half latches the high one. -/
theorem Dev.wordRead_of_hiOf (d : Dev) (now : Nat) {a h : Nat} (hlo : isHi a = false) (ha : hiOf a = some h)
    (hrec : d.on PWR.BOOT_REC = false) :
    (d.wordRead now a).2 = { d with hif := { d.hif with latch := tset d.hif.latch h (d.readWord now h) } } := by
  have hmap : a ≠ 0x03604C := by
    rintro rfl
    simp [hiOf] at ha
  simp [Dev.wordRead, Dev.serves, hrec, page_ne_four_of_hiOf ha, Dev.hostRead, hlo, hmap, ha]

theorem Dev.hostRead_of_latched {d : Dev} {a v : Nat} (now : Nat) (hhi : isHi a = true) (hv : tget? d.hif.latch a = some v) :
    (d.hostRead now a).1 = v := by
  simp [Dev.hostRead, hhi, hv]

theorem key_phMax_ne {m n : Nat} (h : m ≠ n) : (SYS.PH_MAX m).key ≠ (SYS.PH_MAX n).key := by
  simp only [Field.key, SYS.PH_MAX]
  omega

theorem Dev.rd_phMax_clear (d : Dev) (m n : Nat) (h : m = n ∨ d.rd (SYS.PH_MAX n) = 0) : (d.wr (SYS.PH_MAX m) 0).rd (SYS.PH_MAX n) = 0 := by
  by_cases hmn : m = n
  · subst hmn
    rw [Dev.rd_wr_self, Nat.zero_mod]
  · rw [Dev.rd_wr_ne _ _ (key_phMax_ne hmn)]
    exact h.resolve_left hmn

theorem Dev.rd_phMax_each (d : Dev) (l : List Nat) {n : Nat} (h : n ∈ l ∨ d.rd (SYS.PH_MAX n) = 0) :
    (d.each l (fun d m => d.wr (SYS.PH_MAX m) 0)).rd (SYS.PH_MAX n) = 0 := by
  induction l generalizing d with
  | nil => exact h.resolve_left (by simp)
  | cons m l ih =>
    refine ih _ ?_
    rcases h with h | h
    · rcases List.mem_cons.mp h with rfl | h
      · exact .inr (d.rd_phMax_clear _ _ (.inl rfl))
      · exact .inl h
    · exact .inr (d.rd_phMax_clear _ _ (.inr h))

theorem Dev.rd_phMax_clrMax (d : Dev) {n : Nat} (hn : n < 5) : d.clrMax.rd (SYS.PH_MAX n) = 0 :=
  d.rd_phMax_each _ (.inl (List.mem_range.mpr hn))

theorem Dev.clrMax_onlyRegs (d : Dev) :
    OnlyRegs [SYS.PH_MAX 0, SYS.PH_MAX 1, SYS.PH_MAX 2, SYS.PH_MAX 3, SYS.PH_MAX 4] d d.clrMax :=
  ((((OnlyRegs.wr d _ _ (by simp)).thenWr (by simp) _).thenWr (by simp) _).thenWr (by simp) _).thenWr (by simp) _

/-! ### The statement -/

/-- A page starts at a multiple of 0x1000. -/
theorem pageOf_mod (a : BitVec 24) : pageOf a % 0x1000 = 0 := by
  unfold pageOf
  omega

/-- Settles O11. -/
theorem eventFlagsAndLatches : Obligations.EventFlagsAndLatches := by
  refine ⟨fun s el => ⟨fun a mask hpage => ?_, fun n => ?_⟩, fun s el => ⟨fun a h hlo ha hhi => ?_, ?_⟩⟩
  · refine answers_of_forall_host (f := fun _ d => if isPage (pageOf a) then d.clearFlags (pageOf a) mask.toNat else d) rfl
      (fun now d _ => ?_)
    rw [if_pos hpage]
    exact ⟨fun i hi => d.bitOf_pend_clearFlags _ (pageOf_mod a) hi, fun i hi => d.bitOf_raw_clearFlags _ hi,
      d.clearFlags_onlyRegs _ _⟩
  · refine answers_of_forall (f := fun now d => if d.alive then d.rateLimitEnd now n.toNat else d) rfl (fun now d halive l hl hdue => ?_)
    rw [if_pos halive, Dev.rateLimitEnd_of_due d hl hdue]
    constructor
    · rintro g hg
      simp only [hg]
      refine ⟨trivial, fun hnum hksp hrec => ?_⟩
      rw [← hnum] at hksp hrec ⊢
      rw [Dev.deliverN_of_no_route d 7 now l.until_ hksp hrec]
      refine ⟨rfl, ?_⟩
      dsimp only
      split_ifs
      · exact tget?_tdel_self _ _
      · exact tget?_tset_self _ _ _
    · intro hnone
      simp only [hnone]
      exact ⟨tget?_tdel_self _ _, trivial⟩
  · refine answers_of_forall_host (f := fun now d => (d.wordRead now a.toNat).2) rfl (fun now d _ hrec => ?_)
    rw [Dev.wordRead_of_hiOf d now hlo ha hrec]
    exact ⟨Dev.hostRead_of_latched now hhi (tget?_tset_self _ _ _), rfl⟩
  · exact answers_of_forall_host (f := fun _ d => d.clrMax) rfl (fun _ d _ => ⟨fun n hn => d.rd_phMax_clrMax hn, d.clrMax_onlyRegs⟩)

end Sys2Proof.Machine
end

section
/-! PROOFS. What sending on a port leaves as it was; REG messages of a port (R437). -/

namespace Sys2Proof.Machine

/-! ### Sending -/

/-- The block without its ports and without the event handler: what sending leaves as it was. -/
def Dev.sansSend (d : Dev) : Dev := { d with ksp := [], evh := {} }

theorem Dev.sansSend_takeEvent (d : Dev) (n : Nat) : (d.takeEvent n).sansSend = d.sansSend := by
  unfold Dev.takeEvent
  split
  · cases (if n = 0 then d.evh.queue0 else d.evh.queue1) <;> rfl
  · rfl

theorem Dev.sansSend_kspPump (fuel : Nat) (d : Dev) (n : Nat) : (Dev.kspPump fuel d n).sansSend = d.sansSend := by
  induction fuel generalizing d with
  | zero => rfl
  | succ fuel ih =>
    rw [Dev.kspPump]
    split
    · dsimp only
      split
      · exact d.sansSend_takeEvent n
      · exact (ih _).trans (d.sansSend_takeEvent n)
    · rfl

/-- A message sent changes no more than the ports and the event handler's queues. -/
theorem Dev.sansSend_kspSend (d : Dev) (n vc : Nat) (bs : List Nat) : (d.kspSend n vc bs).sansSend = d.sansSend :=
  Dev.sansSend_kspPump 4096 _ n

theorem Dev.eq_of_sansSend {d e : Dev} (h : e.sansSend = d.sansSend) : e = { d with ksp := e.ksp, evh := e.evh } :=
  congrArg (fun x : Dev => { x with ksp := e.ksp, evh := e.evh }) h

@[simp] theorem Dev.mem_kspSend (d : Dev) (n vc : Nat) (bs : List Nat) : (d.kspSend n vc bs).mem = d.mem :=
  (congrArg Dev.mem (d.sansSend_kspSend n vc bs) :)

@[simp] theorem Dev.rd_kspSend (d : Dev) (n vc : Nat) (bs : List Nat) (f : Field) : (d.kspSend n vc bs).rd f = d.rd f :=
  (congrArg (Dev.rd · f) (d.sansSend_kspSend n vc bs) :)

/-! ### Words written to a window -/

theorem memSetBytes_append (m : List Host.Cell) (a : Nat) (xs ys : List Nat) :
    memSetBytes m a (xs ++ ys) = memSetBytes (memSetBytes m a xs) (a + xs.length) ys := by
  induction xs generalizing m a with
  | nil => rfl
  | cons x xs ih => simpa [memSetBytes, Nat.add_assoc, Nat.add_comm 1] using ih (memSet m a x) (a + 1)

@[simp] theorem length_bytesLE (n v : Nat) : (bytesLE n v).length = n := by
  induction n generalizing v with
  | zero => rfl
  | succ n ih => simp [bytesLE, ih]

theorem getElem_bytesLE {n j : Nat} (v : Nat) (h : j < (bytesLE n v).length) : (bytesLE n v)[j] = v / 256 ^ j % 256 := by
  induction n generalizing v j with
  | zero => exact absurd h (by simp [bytesLE])
  | succ n ih =>
    cases j with
    | zero => simp [bytesLE]
    | succ j =>
      simp only [bytesLE, List.getElem_cons_succ]
      rw [ih (v / 256), Nat.div_div_eq_div_mul, pow_succ']

/-- The bytes of words in memory order. -/
def wordBytes (ws : List Nat) : List Nat := ws.flatMap (bytesLE 4)

theorem length_wordBytes (ws : List Nat) : (wordBytes ws).length = 4 * ws.length := by
  induction ws with
  | nil => rfl
  | cons w ws ih =>
    rw [wordBytes, List.flatMap_cons, List.length_append, length_bytesLE, List.length_cons]
    rw [wordBytes] at ih
    omega

theorem getElem_wordBytes {ws : List Nat} {k j : Nat} (hk : k < ws.length) (hj : j < 4) (h : 4 * k + j < (wordBytes ws).length) :
    (wordBytes ws)[4 * k + j] = ws[k] / 256 ^ j % 256 := by
  induction ws generalizing k with
  | nil => exact absurd hk (by simp)
  | cons w ws ih =>
    cases k with
    | zero =>
      have hj' : j < (bytesLE 4 w).length := by simpa using hj
      simp only [wordBytes, List.flatMap_cons, Nat.mul_zero, Nat.zero_add, List.getElem_cons_zero]
      rw [List.getElem_append_left hj', getElem_bytesLE]
    | succ k =>
      have hk' : k < ws.length := by simpa using hk
      have hat : 4 * (k + 1) + j = (bytesLE 4 w).length + (4 * k + j) := by rw [length_bytesLE]; omega
      simp only [wordBytes, List.flatMap_cons, hat, List.getElem_cons_succ]
      rw [List.getElem_append_right (by omega)]
      simpa [wordBytes] using ih hk' (by rw [length_wordBytes]; omega)

theorem Dev.serves_of_not_recovery {d : Dev} (h : d.on PWR.BOOT_REC = false) (a : Nat) : d.serves a = true := by
  simp [Dev.serves, h]

/-- A word of a window stores its bytes and does nothing else. -/
theorem Dev.wordWrite_of_window {d : Dev} (now path : Nat) {a : Nat} (w : Nat) (hserves : d.hif.inService = true)
    (hrec : d.on PWR.BOOT_REC = false) (ha : isWriteWindow a = true) :
    d.wordWrite now path a w = (false, { d with mem := memSetBytes d.mem a (bytesLE 4 w) }) := by
  simp [Dev.wordWrite, hserves, Dev.serves_of_not_recovery hrec, ha]

theorem wordAddrs_succ (a n : Nat) : wordAddrs a (n + 1) true = a :: wordAddrs (a + 4) n true := by
  simp only [wordAddrs, if_true, List.range_succ_eq_map, List.map_cons, List.map_map, Nat.mul_zero, Nat.add_zero]
  congr 1
  refine List.map_congr_left (fun k _ => ?_)
  simp only [Function.comp]
  omega

/-- Words written one after another, `b` of the ones before being ignored as locked. -/
theorem Dev.writeWords_cons (d : Dev) (now path : Nat) (x : Nat × Nat) (l : List (Nat × Nat)) :
    (d.writeWords now path (x :: l)).2 = ((d.wordWrite now path x.1 x.2).2.writeWords now path l).2 := by
  have hflag : ∀ (l : List (Nat × Nat)) (b : Bool) (d : Dev),
      (l.foldl (fun (r : Bool × Dev) x => let q := r.2.wordWrite now path x.1 x.2; (r.1 || q.1, q.2)) (b, d)).2 =
        (d.writeWords now path l).2 := by
    intro l
    induction l with
    | nil => exact fun _ _ => rfl
    | cons y l ih =>
      intro b d
      simp only [Dev.writeWords, List.foldl_cons]
      rw [ih, ih]
  exact hflag l _ _

/-- Words written in order to rising addresses of a window stand there as their bytes, and nothing else changes. -/
theorem Dev.writeWords_window {d : Dev} (now path : Nat) {a : Nat} (ws : List Nat) (hserves : d.hif.inService = true)
    (hrec : d.on PWR.BOOT_REC = false) (hwin : ∀ k < ws.length, isWriteWindow (a + 4 * k) = true) :
    (d.writeWords now path ((wordAddrs a ws.length true).zip ws)).2 = { d with mem := memSetBytes d.mem a (wordBytes ws) } := by
  induction ws generalizing d a with
  | nil => rfl
  | cons w ws ih =>
    have ha : isWriteWindow a = true := by simpa using hwin 0 (by simp)
    have hrest : ∀ k < ws.length, isWriteWindow (a + 4 + 4 * k) = true := by
      intro k hk
      have := hwin (k + 1) (by simpa using hk)
      rwa [show a + 4 * (k + 1) = a + 4 + 4 * k by omega] at this
    rw [List.length_cons, wordAddrs_succ, List.zip_cons_cons, Dev.writeWords_cons,
      Dev.wordWrite_of_window now path w hserves hrec ha, ih (by exact hserves) (by exact hrec) hrest]
    simp [wordBytes, memSetBytes_append]

/-! ### The messages -/

theorem Dev.hostSeen_of_mode_selected {d : Dev} (now : Nat) (h : d.pwr.hostWaitTill = none) : d.hostSeen now = d.wr HIF.HOST_SEEN 1 := by
  simp [Dev.hostSeen, Dev.hostWaitEnd, h]

/-- A REG message of a port in service notes its path, and is answered for its address or for what its words did. -/
theorem Dev.regMsg_of_inService {d : Dev} (now port tag n : Nat) (noinc : Bool) (addr : Nat) (body : List Nat → Dev → Nat × List Nat × Dev)
    (h : d.hif.inService = true) {d1 : Dev} (hd1 : d1 = (if port = 0 then d.hostSeen now else d).wr HIF.LAST_SRC (1 + port)) :
    d.regMsg now port tag n noinc addr body = match addrFault (wordAddrs addr n (!noinc)) with
      | some x => (d1.addrRefuse now x.2).kspSend port 0 (regRsp tag n noinc x.1 addr [])
      | none => (body (wordAddrs addr n (!noinc)) d1).2.2.kspSend port 0
          (regRsp tag n noinc (body (wordAddrs addr n (!noinc)) d1).1 addr (body (wordAddrs addr n (!noinc)) d1).2.1) := by
  subst hd1
  simp only [Dev.regMsg, h, Bool.not_true, Bool.false_eq_true, if_false] <;>
    cases addrFault (wordAddrs addr n (!noinc)) <;> rfl

theorem mem_wordAddrs {a n b : Nat} (h : b ∈ wordAddrs a n true) : ∃ k < n, b = a + 4 * k := by
  obtain ⟨k, hk, rfl⟩ := List.mem_map.mp h
  exact ⟨k, List.mem_range.mp hk, by simp⟩

/-- Aligned words of the tile window are no address fault. -/
theorem addrFault_wordAddrs_eq_none {a n : Nat} (halign : a % 4 = 0) (hend : a + 4 * n ≤ 0x800000) :
    addrFault (wordAddrs a n true) = none := by
  rw [addrFault, Option.map_eq_none_iff, List.find?_eq_none]
  intro b hb
  obtain ⟨k, hk, rfl⟩ := mem_wordAddrs hb
  simp only [Bool.or_eq_true, bne_iff_ne, decide_eq_true_eq, not_or, not_not, not_le]
  omega

theorem isWriteWindow_of_tile {a : Nat} (hlo : 0x480000 ≤ a) (hhi : a < 0x490000) : isWriteWindow a = true := by
  simp [isWriteWindow, hlo, hhi]

theorem length_natWords (ws : List Word) : (natWords ws).length = ws.length := List.length_map ..

/-- Words written to the tile window by a REG_WR stand there, each at its address. -/
theorem Dev.writeWords_tile_window {d : Dev} (now path : Nat) {a : Nat} (ws : List Word) (hserves : d.hif.inService = true)
    (hrec : d.on PWR.BOOT_REC = false) (hlo : 0x480000 ≤ a) (hhi : a + 4 * ws.length ≤ 0x490000) :
    let m := (d.writeWords now path ((wordAddrs a ws.length true).zip (natWords ws))).2.mem
    (∀ (k : Nat) (h : k < ws.length) (j : Nat), j < 4 → memGet m (a + 4 * k + j) = ws[k].toNat / 256 ^ j % 256) ∧
      (∀ b, b < a ∨ a + 4 * ws.length ≤ b → memGet m b = memGet d.mem b) := by
  have hwin : ∀ k < (natWords ws).length, isWriteWindow (a + 4 * k) = true := by
    intro k hk
    rw [length_natWords] at hk
    exact isWriteWindow_of_tile (by omega) (by omega)
  have hm := congrArg Dev.mem (Dev.writeWords_window now path (natWords ws) hserves hrec hwin)
  rw [length_natWords] at hm
  dsimp only at hm ⊢
  rw [hm]
  constructor
  · intro k hk j hj
    have hk' : k < (natWords ws).length := by rwa [length_natWords]
    have hlen : 4 * k + j < (wordBytes (natWords ws)).length := by rw [length_wordBytes, length_natWords]; omega
    rw [Nat.add_assoc, memGet_memSetBytes_in _ _ _ _ hlen, getElem_wordBytes hk' hj, Nat.mod_mod]
    simp [natWords]
  · intro b hb
    exact memGet_memSetBytes_out _ _ _ _ (by rwa [length_wordBytes, length_natWords])

/-- The block as a REG message's words find it, where the mode is selected: HOST_SEEN and LAST_SRC written. -/
theorem Dev.regMsg_start {d d1 : Dev} (now port : Nat) (hmode : d.pwr.hostWaitTill = none)
    (hd1 : d1 = (if port = 0 then d.hostSeen now else d).wr HIF.LAST_SRC (1 + port)) :
    d1.hif = d.hif ∧ d1.mem = d.mem ∧ d1.on PWR.BOOT_REC = d.on PWR.BOOT_REC := by
  subst hd1
  have hsrc : (HIF.LAST_SRC).key ≠ (PWR.BOOT_REC).key := by decide
  have hseen : (HIF.HOST_SEEN).key ≠ (PWR.BOOT_REC).key := by decide
  rw [Dev.hostSeen_of_mode_selected now hmode]
  split <;> simp [Dev.on, Dev.rd_wr_ne _ _ hsrc, Dev.rd_wr_ne _ _ hseen]

/-- Settles O15: both messages are `Dev.regMsg` with a body that writes, or reads, the words in order. -/
theorem hostMessagesAreAnswered : Obligations.HostMessagesAreAnswered := by
  intro s el port tag noinc addr ws n1
  constructor
  · refine answers_of_forall (f := fun now d =>
      if d.regPort port.val then d.regWr now port.val tag.toNat noinc addr.toNat (natWords ws) else d) rfl (fun now d hport hserves => ?_)
    intro d1 as_
    have hanswer := Dev.regMsg_of_inService now port.val tag.toNat ws.length noinc addr.toNat (fun as_ d =>
      let r := d.writeWords now (1 + port.val) (as_.zip (natWords ws))
      (if r.1 then 3 else 0, [], r.2)) hserves (d1 := d1) rfl
    rw [if_pos hport, Dev.regWr, length_natWords, hanswer]
    refine ⟨fun hok => ?_, fun x hx => ?_, fun hinc halign hlo hhi hrec hmode => ?_⟩
    · simp only [as_] at hok
      simp only [hok, as_]
    · simp only [as_] at hx
      simp only [hx]
    · subst hinc
      obtain ⟨hhif, hmem, hrec1⟩ := Dev.regMsg_start (d1 := d1) now port.val hmode rfl
      simp only [Bool.not_false, addrFault_wordAddrs_eq_none halign (show addr.toNat + 4 * ws.length ≤ 0x800000 by omega), Dev.mem_kspSend]
      rw [← hmem]
      exact Dev.writeWords_tile_window now _ ws (by rw [hhif, hserves]) (hrec1.trans hrec) hlo hhi
  · refine answers_of_forall (f := fun now d =>
      if d.regPort port.val then d.regRd now port.val tag.toNat (n1.toNat + 1) noinc addr.toNat else d) rfl
      (fun now d hport hserves => ?_)
    intro d1 as_ hok
    have hanswer := Dev.regMsg_of_inService now port.val tag.toNat (n1.toNat + 1) noinc addr.toNat (fun as_ d =>
      let r := d.readWords now as_
      (0, r.1, r.2)) hserves (d1 := d1) rfl
    rw [if_pos hport, Dev.regRd, hanswer]
    simp only [as_] at hok
    simp only [hok, as_]

end Sys2Proof.Machine
end

section
/-! PROOFS. The tick, its overrun, and memory errors (R30, R32, R42, R51). -/

namespace Sys2Proof.Machine

/-! ### What the commands handed to the inductive channels leave as it was -/

/-- The block without its inductive channels. -/
def Dev.sansIdc (d : Dev) : Dev := { d with idc := [] }

@[simp] theorem Dev.sansIdc_chOff (d : Dev) (c a : Nat) : (d.chOff c a).sansIdc = d.sansIdc := rfl

@[simp] theorem Dev.sansIdc_chStay (d : Dev) (c a b : Nat) : (d.chStay c a b).sansIdc = d.sansIdc := rfl

@[simp] theorem Dev.sansIdc_chOn (d : Dev) (c a b : Nat) : (d.chOn c a b).sansIdc = d.sansIdc := rfl

theorem Dev.sansIdc_idcWindow_snuff (d : Dev) (c a b : Nat) : (d.idcWindow c a b true).sansIdc = d.sansIdc := by
  simp only [Dev.idcWindow, if_true, apply_ite Dev.sansIdc, sansIdc_chOff, ite_self]
  split
  · rfl
  · split <;> simp [apply_ite Dev.sansIdc]

/-- A step on each element that keeps a part of the block, keeps it over the whole list. -/
theorem Dev.each_keeps {α β : Type} (k : Dev → β) (f : Dev → α → Dev) (hf : ∀ d a, k (f d a) = k d) (d : Dev) (l : List α) :
    k (d.each l f) = k d := by
  unfold Dev.each
  induction l generalizing d with
  | nil => rfl
  | cons a l ih => exact (ih _).trans (hf d a)

/-- The block without the decision unit and without the inductive channels. -/
def Dev.sansDecIdc (d : Dev) : Dev := { d with dec := {}, idc := [] }

theorem Dev.sansDecIdc_of_sansIdc {d e : Dev} (h : e.sansIdc = d.sansIdc) : e.sansDecIdc = d.sansDecIdc :=
  (congrArg (fun x : Dev => { x with dec := {} }) h :)

theorem Dev.sansDecIdc_carryOver (d : Dev) (k : Nat) : (d.carryOver k).sansDecIdc = d.sansDecIdc := by
  unfold Dev.carryOver
  refine (Dev.each_keeps Dev.sansDecIdc _ (fun x c => ?_) _ _).trans rfl
  split_ifs
  · exact Dev.sansDecIdc_of_sansIdc (x.sansIdc_idcWindow_snuff c _ _)
  · rfl
  · rfl

theorem Dev.rd_of_sansDecIdc {d e : Dev} (h : e.sansDecIdc = d.sansDecIdc) (f : Field) : e.rd f = d.rd f := (congrArg (Dev.rd · f) h :)

theorem Dev.pwr_of_sansDecIdc {d e : Dev} (h : e.sansDecIdc = d.sansDecIdc) : e.pwr = d.pwr := (congrArg Dev.pwr h :)

theorem Dev.rd_carryOver (d : Dev) (k : Nat) (f : Field) : (d.carryOver k).rd f = d.rd f :=
  Dev.rd_of_sansDecIdc (d.sansDecIdc_carryOver k) f

theorem Dev.pwr_carryOver (d : Dev) (k : Nat) : (d.carryOver k).pwr = d.pwr := Dev.pwr_of_sansDecIdc (d.sansDecIdc_carryOver k)

/-! ### The tick -/

/-- An overrun that is not the third in a row, with no entry of DIM_MAX waiting: it is counted, and the phase is 7 (R51). -/
theorem Dev.overrun_eq (d : Dev) (now k : Nat) (hrun : d.rd SYS.OVR_RUN ≠ 2) (hdim : d.pwr.dimMaxDue = false) :
    d.overrun now k = ((((d.fire now EVT.SYS_TICK_OVERRUN 0 0).bump SYS.OVR_TOTAL).bump SYS.OVR_RUN).carryOver k).wr SYS.PHASE 7 := by
  have hkey : (SYS.OVR_TOTAL).key ≠ (SYS.OVR_RUN).key := by decide
  have hrd : ((d.fire now EVT.SYS_TICK_OVERRUN 0 0).bump SYS.OVR_TOTAL).rd SYS.OVR_RUN = d.rd SYS.OVR_RUN := by
    rw [Dev.rd_bump_ne _ hkey, Dev.rd_fire_of _ _ _ _ _ (by decide) (by decide)]
  have hpwr : ((((d.fire now EVT.SYS_TICK_OVERRUN 0 0).bump SYS.OVR_TOTAL).bump SYS.OVR_RUN).carryOver k).pwr = d.pwr := by
    simp [Dev.pwr_carryOver]
  unfold Dev.overrun
  simp only [hrd, beq_iff_eq, hrun, if_false, Dev.dimMaxAfter, Dev.wr_pwr, hpwr, hdim, Bool.false_eq_true]

theorem Dev.overrun_counts (d : Dev) (now k : Nat) (hrun : d.rd SYS.OVR_RUN ≠ 2) (hdim : d.pwr.dimMaxDue = false) :
    (d.overrun now k).rd SYS.OVR_TOTAL = counted d SYS.OVR_TOTAL ∧ (d.overrun now k).rd SYS.OVR_RUN = counted d SYS.OVR_RUN ∧
      (d.overrun now k).rd SYS.PHASE = 7 := by
  have hphase : (SYS.PHASE).key ≠ (SYS.OVR_TOTAL).key ∧ (SYS.PHASE).key ≠ (SYS.OVR_RUN).key := by decide
  have hkey : (SYS.OVR_RUN).key ≠ (SYS.OVR_TOTAL).key := by decide
  have hfire : ∀ f : Field, f.lo < 32 → f.ofEvents = false → (d.fire now EVT.SYS_TICK_OVERRUN 0 0).rd f = d.rd f :=
    fun f => Dev.rd_fire_of d now _ _ _
  rw [Dev.overrun_eq d now k hrun hdim]
  refine ⟨?_, ?_, Dev.rd_wr_self _ _ _⟩
  · rw [Dev.rd_wr_ne _ _ hphase.1, Dev.rd_carryOver, Dev.rd_bump_ne _ hkey, Dev.rd_bump_self, hfire _ (by decide) (by decide)]
    rfl
  · rw [Dev.rd_wr_ne _ _ hphase.2, Dev.rd_carryOver, Dev.rd_bump_self, Dev.rd_bump_ne _ hkey.symm, hfire _ (by decide) (by decide)]
    rfl

theorem phasesDone_le (dl a : Nat) (ts : List Nat) : phasesDone dl a ts ≤ ts.length := by
  induction ts generalizing a with
  | nil => rfl
  | cons t ts ih =>
    rw [phasesDone]
    split
    · exact Nat.succ_le_succ (ih _)
    · omega

/-- A tick whose five phases keep the deadline commits and goes through T6 (R42, R48). -/
theorem Dev.runTick_of_complete (d : Dev) {now : Nat} {ts : List Nat} (hlen : ts.length = 5) {g : Dev} (hg : d.turnNext now = g)
    (hearly : now ≤ g.nextEdge + g.deadline) (hdone : phasesDone g.deadline 0 ts = 5) :
    d.runTick now ts =
      let w := g.waitsAt (cutOf g.nextEdge ts)
      let p := ((g.withWaits w).tickT0 now g.nextEdge g.sys.nextN).tickPhases now g.nextEdge g.sys.nextN 4
      ((((p.1.phaseTimes ts).commit now g.nextEdge g.sys.nextN ts.sum p.2.1 p.2.2).waitsOn g.waits w).budgetCheck now ts).tickT6 now
        g.sys.nextN := by
  subst hg
  have hall : ts.take 5 = ts := List.take_of_length_le hlen.le
  simp only [Dev.runTick, hdone, decide_eq_false (not_lt.mpr hearly), bne_self_eq_false, Bool.or_self, Bool.false_eq_true, if_false, hall]
  rfl

/-- A tick given the durations of four phases overruns (R51). -/
theorem Dev.runTick_of_overrun (d : Dev) {now : Nat} {ts : List Nat} (hlen : ts.length = 4) {g : Dev} (hg : d.turnNext now = g) :
    d.runTick now ts =
      let m := min 4 (phasesDone g.deadline 0 ts)
      let p := ((g.withWaits (g.waitsAt (cutOf g.nextEdge ts))).tickT0 now g.nextEdge g.sys.nextN).tickPhases now g.nextEdge g.sys.nextN m
      { ((p.1.phaseTimes (ts.take m)).withWaits g.waits).overrun now g.sys.nextN with cuts := [] } := by
  subst hg
  have hfew : (phasesDone (d.turnNext now).deadline 0 ts != 5) = true := by
    have := phasesDone_le (d.turnNext now).deadline 0 ts
    simp only [bne_iff_ne, ne_eq]
    omega
  simp only [Dev.runTick, hfew, Bool.or_true, if_true]

/-! ### Raised events -/

theorem fire_rawKept (d : Dev) (now ev inst val : Nat) : RawKept d (d.fire now ev inst val) := (fireN_rawKept_all 8).1 d now _

theorem RawKept.of_regs {d e : Dev} (h : e.regs = d.regs) : RawKept d e := by
  intro b i _ _ hbit
  rwa [Dev.rd_congr d e _ (by rw [h])]

/-- An event that is raised stays raised under what keeps the RAW bits. -/
theorem RawKept.raised {d e : Dev} (h : RawKept d e) {ev inst : Nat} (hbit : (evtPage ev inst).2 < 32) (hd : d.raised ev inst = true) :
    e.raised ev inst = true := h _ _ (evtPage_base ev inst).1 hbit hd

/-! ### Memory errors -/

/-- An uncorrectable error counted, with its event: what every site begins with (R32). -/
def Dev.eccCounted (d : Dev) (now : Nat) : Dev := (d.bump SYS.SRAM_UE).fire now EVT.SYS_ECC_UE 0 0

theorem Dev.rd_sramUe_eccCounted (d : Dev) (now : Nat) : (d.eccCounted now).rd SYS.SRAM_UE = counted d SYS.SRAM_UE :=
  (Dev.rd_fire_of _ _ _ _ _ (by decide) (by decide)).trans (d.rd_bump_self _)

theorem Dev.raised_eccCounted (d : Dev) (now : Nat) : (d.eccCounted now).raised EVT.SYS_ECC_UE 0 = true :=
  Dev.raised_fire _ _ _ _ _ (by decide) (by decide)

theorem Dev.eccCounted_frame (d : Dev) (now : Nat) : OnlyRegsAndEvents [SYS.SRAM_UE] d (d.eccCounted now) :=
  (OnlyRegs.wr d _ _ (by simp)).toOnlyRegsAndEvents.thenFire _ _ _ _

@[simp] theorem Dev.tpl_eccCounted (d : Dev) (now : Nat) : (d.eccCounted now).tpl = d.tpl := by simp [Dev.eccCounted]
@[simp] theorem Dev.pwr_eccCounted (d : Dev) (now : Nat) : (d.eccCounted now).pwr = d.pwr := by simp [Dev.eccCounted]
@[simp] theorem Dev.pose_eccCounted (d : Dev) (now : Nat) : (d.eccCounted now).pose = d.pose := by simp [Dev.eccCounted]

/-- A counter that the count of the error leaves alone. -/
theorem Dev.counted_eccCounted (d : Dev) (now : Nat) {f : Field} (hlo : f.lo < 32) (hev : f.ofEvents = false)
    (hne : (SYS.SRAM_UE).key ≠ f.key) : counted (d.eccCounted now) f = counted d f := by
  have h : (d.eccCounted now).rd f = d.rd f := (d.eccCounted_frame now).rd_of_disjoint hlo hev (by simpa using hne)
  rw [counted, h, counted]

/-- In LIT, DIM or SNUFFED, with no Relight running or just over, a cause leads to a logic-die reset (R503). -/
theorem Dev.logicCause_of_running (d : Dev) (now code : Nat) (hst : d.pwr.st = .lit ∨ d.pwr.st = .dim ∨ d.pwr.st = .snuffed)
    (hstage : d.pwr.stage ≠ .relight) (hend : d.pwr.relightEnd = none) : d.logicCause now code = d.logicDieReset now code := by
  unfold Dev.logicCause
  rcases hst with h | h | h <;> simp [h, hstage, hend]

theorem Dev.logicCause_relights (d : Dev) (now code : Nat) (hst : d.pwr.st = .lit ∨ d.pwr.st = .dim ∨ d.pwr.st = .snuffed)
    (hstage : d.pwr.stage ≠ .relight) (hend : d.pwr.relightEnd = none) :
    (d.logicCause now code).pwr.stage = .relight ∧ (d.logicCause now code).pwr.resetAt = now := by
  rw [Dev.logicCause_of_running d now code hst hstage hend]
  exact ⟨rfl, rfl⟩

theorem Dev.slot_setSlot_free (d : Dev) (i : Nat) : (d.setSlot i {}).slot i = {} := by
  simp only [Dev.setSlot, if_true, Dev.slot, tget, tget?_tdel_self]
  rfl

theorem Dev.slot_setSlot_ne (d : Dev) {i n : Nat} (x : Slot) (h : n ≠ i) : (d.setSlot i x).slot n = d.slot n := by
  simp only [Dev.setSlot, Dev.slot, tget]
  split_ifs
  · rw [tget?_tdel_ne _ h.symm]
  · rw [tget?_tset_ne _ _ h.symm]

theorem Dev.slot_setSlot_self (d : Dev) (i : Nat) {x : Slot} (h : x.st ≠ .free) : (d.setSlot i x).slot i = x := by
  simp [Dev.setSlot, Dev.slot, h]

theorem Dev.slot_congr {d e : Dev} (h : e.tpl.slots = d.tpl.slots) (n : Nat) : e.slot n = d.slot n := by rw [Dev.slot, h, Dev.slot]

theorem OnlyRegsAndEvents.mono {fs gs : List Field} {d e : Dev} (h : OnlyRegsAndEvents fs d e) (hsub : ∀ f ∈ fs, f ∈ gs) :
    OnlyRegsAndEvents gs d e := ⟨h.1, fun g hlo hev hg => h.2 g hlo hev (fun f hf => hg f (hsub f hf))⟩

theorem OnlyRegsAndEvents.withPose {fs : List Field} {d e : Dev} (h : OnlyRegsAndEvents fs d e) (u : PoseBlk) :
    OnlyRegsAndEvents fs { d with pose := u } { e with pose := u } :=
  ⟨(congrArg (fun x : Dev => { x with pose := u }) h.1 :), h.2⟩

/-- The frame with the tile store replaced on both sides. -/
theorem OnlyRegsAndEvents.withTpl {fs : List Field} {d e : Dev} (h : OnlyRegsAndEvents fs d e) (u : TplBlk) :
    OnlyRegsAndEvents fs { d with tpl := u } { e with tpl := u } :=
  ⟨(congrArg (fun x : Dev => { x with tpl := u }) h.1 :), h.2⟩

/-- A tile freed for damage, counted, with its event (R123); its home copy is still to be noted. -/
def Dev.damageCounted (d : Dev) (now i : Nat) : Dev := ((d.setSlot i {}).bump COV.TILES_DISCARDED).fire now EVT.COV_TILE_CRC 0 0

theorem Dev.damaged_eq (d : Dev) (now i : Nat) : d.damaged now i = { d.damageCounted now i with
    tpl := { (d.damageCounted now i).tpl with
      refetch := (d.damageCounted now i).tpl.refetch ++ [((d.slot i).layer, (d.slot i).tx, (d.slot i).ty)] } } := rfl

theorem Dev.tpl_damageCounted (d : Dev) (now i : Nat) : (d.damageCounted now i).tpl = (d.setSlot i {}).tpl := by
  simp [Dev.damageCounted, Dev.bump]

theorem Dev.damageCounted_frame (d : Dev) (now i : Nat) : OnlyRegsAndEvents [COV.TILES_DISCARDED] (d.setSlot i {}) (d.damageCounted now i) :=
  (OnlyRegs.wr (d.setSlot i {}) _ _ (by simp)).toOnlyRegsAndEvents.thenFire _ _ _ _

theorem Dev.damaged_frame (d : Dev) (now i : Nat) :
    OnlyRegsAndEvents [COV.TILES_DISCARDED] { d with tpl := (d.damaged now i).tpl } (d.damaged now i) := by
  rw [Dev.damaged_eq]
  exact (d.damageCounted_frame now i).withTpl _

theorem Dev.rd_damaged (d : Dev) (now i : Nat) {f : Field} (hlo : f.lo < 32) (hev : f.ofEvents = false)
    (hne : (COV.TILES_DISCARDED).key ≠ f.key) : (d.damaged now i).rd f = d.rd f :=
  ((d.damaged_frame now i).rd_of_disjoint hlo hev (by simpa using hne)).trans (d.rd_with_tpl _ f)

theorem Dev.rd_tilesDiscarded_damaged (d : Dev) (now i : Nat) : (d.damaged now i).rd COV.TILES_DISCARDED = counted d COV.TILES_DISCARDED := by
  rw [Dev.damaged_eq, Dev.rd_with_tpl]
  exact (Dev.rd_fire_of _ _ _ _ _ (by decide) (by decide)).trans (Dev.rd_bump_self _ _)

theorem Dev.raised_damaged (d : Dev) (now i : Nat) : (d.damaged now i).raised EVT.COV_TILE_CRC 0 = true := by
  have hraised : (d.damageCounted now i).raised EVT.COV_TILE_CRC 0 = true := Dev.raised_fire _ _ _ _ _ (by decide) (by decide)
  rw [Dev.damaged_eq]
  exact hraised

theorem Dev.slots_damaged (d : Dev) (now i : Nat) : (d.damaged now i).tpl.slots = (d.setSlot i {}).tpl.slots := by
  rw [Dev.damaged_eq, Dev.tpl_damageCounted]

theorem Dev.refetch_damaged (d : Dev) (now i : Nat) :
    (d.damaged now i).tpl.refetch = d.tpl.refetch ++ [((d.slot i).layer, (d.slot i).tx, (d.slot i).ty)] := by
  rw [Dev.damaged_eq, Dev.tpl_damageCounted]
  rfl

theorem Dev.rawKept_damaged (d : Dev) (now i : Nat) : RawKept d (d.damaged now i) := by
  rw [Dev.damaged_eq]
  exact ((RawKept.of_regs (e := d.setSlot i {}) rfl).trans ((RawKept.wr _ COV.TILES_DISCARDED _ (by decide)).trans
    (fire_rawKept _ _ _ _ _))).trans (RawKept.of_regs rfl)

theorem Dev.rawKept_setJournal (d : Dev) (j : List JEntry) : RawKept d (d.setJournal j) := by
  have h : RawKept d (({ d with tpl := { d.tpl with journal := j } } : Dev).wr COV.JNL_USED j.length) :=
    (RawKept.of_regs (e := { d with tpl := { d.tpl with journal := j } }) rfl).trans (RawKept.wr _ _ _ (by decide))
  unfold Dev.setJournal
  dsimp only
  split_ifs
  · exact h.trans (RawKept.wr _ _ _ (by decide))
  · exact h

theorem Dev.tpl_setJournal (d : Dev) (j : List JEntry) : (d.setJournal j).tpl = { d.tpl with journal := j } := by
  unfold Dev.setJournal
  dsimp only
  split_ifs <;> rfl

theorem Dev.rd_setJournal (d : Dev) (j : List JEntry) {f : Field} (hused : (COV.JNL_USED).key ≠ f.key) (hmax : (COV.JNL_MAX).key ≠ f.key) :
    (d.setJournal j).rd f = d.rd f := by
  unfold Dev.setJournal
  dsimp only
  split_ifs
  · rw [Dev.rd_wr_ne _ _ hmax, Dev.rd_wr_ne _ _ hused, Dev.rd_with_tpl]
  · rw [Dev.rd_wr_ne _ _ hused, Dev.rd_with_tpl]

/-! What an error does to each site, after the count and the event (R32). -/

theorem Dev.eccUe_firmware (d : Dev) (now i : Nat) : d.eccUe now 0 i = (d.eccCounted now).logicCause now 5 := rfl

theorem Dev.eccUe_cacheSlot (d : Dev) (now i : Nat) : d.eccUe now 1 i =
    if ((d.eccCounted now).slot i).st = .free then d.eccCounted now
    else if (d.eccCounted now).alive then (d.eccCounted now).damaged now i
    else (d.eccCounted now).setSlot i { (d.eccCounted now).slot i with bad := true } := rfl

theorem Dev.eccUe_journalEntry (d : Dev) (now i : Nat) : d.eccUe now 2 i =
    if i < (d.eccCounted now).tpl.journal.length then
      ((d.eccCounted now).setJournal ((d.eccCounted now).tpl.journal.eraseIdx i)).bump COV.PAINT_LOST
    else d.eccCounted now := rfl

theorem Dev.eccUe_historyEntry (d : Dev) (now i : Nat) : d.eccUe now 3 i = { d.eccCounted now with
    pose := { (d.eccCounted now).pose with
      hist := (d.eccCounted now).pose.hist.zipIdx.map (fun x => if x.2 = i then { x.1 with bad := true } else x.1) } } := rfl

theorem Dev.eccUe_pose (d : Dev) (now i : Nat) : d.eccUe now 4 i = { d.eccCounted now with
    pose := { (d.eccCounted now).pose with bad := true } } := rfl

/-- No site but firmware data, whose error is a cause of a reset, keeps less than every RAW bit and the count. -/
theorem Dev.eccUe_keeps (d : Dev) (now i : Nat) {site : Nat} (hsite : site ≠ 0) (hlt : site < 5) :
    RawKept (d.eccCounted now) (d.eccUe now site i) ∧ (d.eccUe now site i).rd SYS.SRAM_UE = (d.eccCounted now).rd SYS.SRAM_UE := by
  generalize hq : d.eccCounted now = q
  have hslot : RawKept q (d.eccUe now 1 i) ∧ (d.eccUe now 1 i).rd SYS.SRAM_UE = q.rd SYS.SRAM_UE := by
    rw [Dev.eccUe_cacheSlot, hq]
    split_ifs
    · exact ⟨RawKept.refl _, rfl⟩
    · exact ⟨q.rawKept_damaged now i, q.rd_damaged now i (by decide) (by decide) (by decide)⟩
    · exact ⟨RawKept.of_regs rfl, rfl⟩
  have hjournal : RawKept q (d.eccUe now 2 i) ∧ (d.eccUe now 2 i).rd SYS.SRAM_UE = q.rd SYS.SRAM_UE := by
    rw [Dev.eccUe_journalEntry, hq]
    split_ifs
    · exact ⟨(q.rawKept_setJournal _).trans (RawKept.wr _ COV.PAINT_LOST _ (by decide)),
        (Dev.rd_bump_ne _ (by decide)).trans (q.rd_setJournal _ (by decide) (by decide))⟩
    · exact ⟨RawKept.refl _, rfl⟩
  have hpose : ∀ u : PoseBlk, RawKept q { q with pose := u } ∧ ({ q with pose := u } : Dev).rd SYS.SRAM_UE = q.rd SYS.SRAM_UE :=
    fun _ => ⟨RawKept.of_regs rfl, rfl⟩
  interval_cases site
  · exact absurd rfl hsite
  · exact hslot
  · exact hjournal
  · rw [Dev.eccUe_historyEntry, hq]
    exact hpose _
  · rw [Dev.eccUe_pose, hq]
    exact hpose _

section
variable (d : Dev) (now i : Nat)

theorem Dev.slot_eccCounted : (d.eccCounted now).slot i = d.slot i := Dev.slot_congr (by rw [Dev.tpl_eccCounted]) i

/-- A free slot has nothing to damage. -/
theorem Dev.eccUe_slot_free (hfree : (d.slot i).st = .free) : d.eccUe now 1 i = d.eccCounted now := by
  rw [Dev.eccUe_cacheSlot]
  simp [Dev.slot_eccCounted, hfree]

theorem Dev.alive_eccCounted : (d.eccCounted now).alive = d.alive := by simp [Dev.alive]

theorem Dev.eccUe_slot_alive (hused : (d.slot i).st ≠ .free) (halive : d.alive = true) : d.eccUe now 1 i = (d.eccCounted now).damaged now i := by
  rw [Dev.eccUe_cacheSlot]
  simp [Dev.slot_eccCounted, hused, Dev.alive_eccCounted, halive]

theorem Dev.eccUe_slot_down (hused : (d.slot i).st ≠ .free) (hdown : d.alive = false) :
    (d.eccUe now 1 i).slot i = { d.slot i with bad := true } := by
  rw [Dev.eccUe_cacheSlot]
  simp only [Dev.slot_eccCounted, hused, Dev.alive_eccCounted, hdown, if_false, Bool.false_eq_true]
  exact Dev.slot_setSlot_self _ _ hused

/-- A tile of a cache slot that is hit goes: it is counted, and its home copy is to be fetched (R32, R123). -/
theorem Dev.eccUe_slot (hused : (d.slot i).st ≠ .free) (halive : d.alive = true) :
    let e := d.eccUe now 1 i
    e.slot i = {} ∧ e.rd COV.TILES_DISCARDED = counted d COV.TILES_DISCARDED ∧ e.raised EVT.COV_TILE_CRC 0 = true ∧
      e.tpl.refetch = d.tpl.refetch ++ [((d.slot i).layer, (d.slot i).tx, (d.slot i).ty)] ∧
      (∀ n, n ≠ i → e.slot n = d.slot n) ∧ OnlyRegsAndEvents [SYS.SRAM_UE, COV.TILES_DISCARDED] { d with tpl := e.tpl } e := by
  dsimp only
  rw [Dev.eccUe_slot_alive d now i hused halive]
  refine ⟨?_, ?_, Dev.raised_damaged _ _ _, ?_, fun n hn => ?_, ?_⟩
  · rw [Dev.slot_congr (Dev.slots_damaged _ now i), Dev.slot_setSlot_free]
  · rw [Dev.rd_tilesDiscarded_damaged, Dev.counted_eccCounted d now (by decide) (by decide) (by decide)]
  · rw [Dev.refetch_damaged, Dev.tpl_eccCounted, Dev.slot_eccCounted]
  · rw [Dev.slot_congr (Dev.slots_damaged _ now i), Dev.slot_setSlot_ne _ _ hn, Dev.slot_eccCounted]
  · exact (((d.eccCounted_frame now).withTpl _).mono (by simp)).trans ((Dev.damaged_frame _ now i).mono (by simp))

theorem Dev.eccUe_journal (h : i < d.tpl.journal.length) :
    (d.eccUe now 2 i).tpl.journal = d.tpl.journal.eraseIdx i ∧ (d.eccUe now 2 i).rd COV.PAINT_LOST = counted d COV.PAINT_LOST ∧
      (d.eccUe now 2 i).tpl.slots = d.tpl.slots := by
  have hlost : ∀ q : Dev, ((q.setJournal (d.tpl.journal.eraseIdx i)).bump COV.PAINT_LOST).rd COV.PAINT_LOST = counted q COV.PAINT_LOST := by
    intro q
    rw [Dev.rd_bump_self, Dev.rd_setJournal _ _ (by decide) (by decide), counted]
  rw [Dev.eccUe_journalEntry]
  simp only [Dev.tpl_eccCounted, h, if_true]
  refine ⟨?_, ?_, ?_⟩
  · rw [Dev.bump, Dev.add_tpl, Dev.tpl_setJournal]
  · rw [hlost, Dev.counted_eccCounted d now (by decide) (by decide) (by decide)]
  · rw [Dev.bump, Dev.add_tpl, Dev.tpl_setJournal, Dev.tpl_eccCounted]

end

/-- A lockstep mismatch counted by its pair, with its event (R30). -/
theorem Dev.lockstep_counted (d : Dev) (now : Nat) {f : Field} (hlo : f.lo < 32) (hev : f.ofEvents = false) :
    let q := (d.bump f).fire now EVT.SYS_LOCKSTEP 0 0
    q.rd f = counted d f ∧ q.raised EVT.SYS_LOCKSTEP 0 = true ∧ OnlyRegsAndEvents [f] d q ∧ q.pwr = d.pwr :=
  ⟨(Dev.rd_fire_of _ _ _ _ _ hlo hev).trans (d.rd_bump_self f), Dev.raised_fire _ _ _ _ _ (by decide) (by decide),
    (OnlyRegs.wr d _ _ (by simp)).toOnlyRegsAndEvents.thenFire _ _ _ _, by simp [Dev.bump]⟩

/-- T6 ends the tick in PHASE 6. -/
theorem Dev.rd_phase_tickT6 (d : Dev) (now k : Nat) : (d.tickT6 now k).rd SYS.PHASE = 6 := by
  unfold Dev.tickT6
  exact Dev.rd_wr_self _ _ _

/-- Settles O16. -/
theorem tickAndMemoryErrors : Obligations.TickAndMemoryErrors := by
  refine ⟨fun s el t1 t2 t3 t4 t5 => ⟨?_, ?_⟩, fun s el => ⟨fun mram => ?_, fun site i => ?_, fun pairB => ?_, ?_⟩⟩
  · refine answers_of_forall (f := fun now d =>
      if d.tickDue now then d.runTick now [t1.toNat, t2.toNat, t3.toNat, t4.toNat, t5.toNat] else d) rfl
      (fun now d => ⟨fun h => by simp [h], fun hdue => ?_⟩)
    intro g ts w p hearly hdone
    rw [if_pos hdue, Dev.runTick_of_complete d rfl rfl hearly hdone]
    exact ⟨Dev.rd_phase_tickT6 _ _ _, rfl⟩
  · refine answers_of_forall (f := fun now d =>
      if d.tickDue now && decide (d.nextEdge + d.deadline ≤ now) then d.runTick now [t1.toNat, t2.toNat, t3.toNat, t4.toNat] else d) rfl
      (fun now d => ⟨fun h => ?_, fun hdue hlate => ?_⟩)
    · rcases h with h | h
      · simp [h]
      · simp [not_le.mpr h]
    · intro g ts m p q
      rw [if_pos (by simp [hdue, hlate]), Dev.runTick_of_overrun d rfl rfl]
      exact ⟨rfl, rfl, fun hrun hdim => Dev.overrun_counts q now g.sys.nextN hrun hdim⟩
  · refine answers_of_forall (f := fun _ d => if d.pwr.st = .off then d else d.bump (if mram then SYS.MRAM_CE else SYS.SRAM_CE)) rfl
      (fun now d hpower => ?_)
    rw [if_neg hpower]
    exact ⟨Dev.rd_bump_self _ _, OnlyRegs.wr d _ _ (by simp)⟩
  · refine answers_of_forall (f := fun now d => if d.pwr.st = .off then d else d.eccUe now site.val i.toNat) rfl (fun now d hpower => ?_)
    rw [if_neg hpower]
    refine ⟨fun hsite => ?_, ?_, ?_, ?_, ?_, ?_, ?_, ?_⟩
    · obtain ⟨hraw, hrd⟩ := d.eccUe_keeps now i.toNat (fun h => hsite (Fin.ext h)) site.isLt
      exact ⟨hrd.trans (d.rd_sramUe_eccCounted now), hraw.raised (by decide) (d.raised_eccCounted now)⟩
    · rintro rfl
      refine ⟨d.eccCounted now, d.eccUe_firmware now _, d.rd_sramUe_eccCounted now, d.raised_eccCounted now, d.eccCounted_frame now, ?_⟩
      intro hst hstage hend
      exact Dev.logicCause_relights (d.eccCounted now) now 5 (by simpa using hst) (by simpa using hstage) (by simpa using hend)
    · rintro rfl hfree
      exact (d.eccUe_slot_free now _ hfree) ▸ d.eccCounted_frame now
    · rintro rfl hused halive
      exact d.eccUe_slot now _ hused halive
    · rintro rfl hused hdown
      exact d.eccUe_slot_down now _ hused hdown
    · rintro rfl hi
      exact Dev.eccUe_journal d now i.toNat hi
    · rintro rfl
      refine ⟨(d.eccCounted_frame now).withPose _, by simp [Dev.eccUe_historyEntry], fun k h g => ?_⟩
      simp [Dev.eccUe_historyEntry]
    · rintro rfl
      exact ⟨by simp [Dev.eccUe_pose], (d.eccCounted_frame now).withPose _⟩
  · refine answers_of_forall (f := fun now d => if d.pwr.st = .off then d else
      ((d.bump (if pairB then SYS.LS_PAIR_B else SYS.LS_PAIR_A)).fire now EVT.SYS_LOCKSTEP 0 0).logicCause now 4) rfl
      (fun now d hpower => ?_)
    rw [if_neg hpower]
    obtain ⟨hcount, hraised, hframe, hpwr⟩ := d.lockstep_counted now (f := if pairB then SYS.LS_PAIR_B else SYS.LS_PAIR_A)
      (by cases pairB <;> decide) (by cases pairB <;> decide)
    refine ⟨_, rfl, hcount, hraised, hframe, fun hst hstage hend => ?_⟩
    exact Dev.logicCause_relights _ now 4 (by rwa [hpwr]) (by rwa [hpwr]) (by rwa [hpwr])
  · exact Dev.logicCause_relights

end Sys2Proof.Machine
end

section
/-! PROOFS. The antenna supervision and the tracking channels (R226, R229). -/

namespace Sys2Proof.Machine

theorem OnlyRegs.thenBump {fs : List Field} {d e : Dev} (h : OnlyRegs fs d e) {f : Field} (hf : f ∈ fs) :
    OnlyRegs fs d (e.bump f) := h.thenWr hf _

theorem OnlyRegsAndEvents.thenBump {fs : List Field} {d e : Dev} (h : OnlyRegsAndEvents fs d e) {f : Field} (hf : f ∈ fs) :
    OnlyRegsAndEvents fs d (e.bump f) := h.thenWr hf _

/-- A bit already raised stays so over a firing. -/
theorem Dev.raised_fire_keeps (d : Dev) (now e i v : Nat) {ev inst : Nat} (hb : (evtPage ev inst).2 < 32)
    (h : d.raised ev inst = true) : (d.fire now e i v).raised ev inst = true := (fire_rawKept d now e i v).raised hb h

/-- A change of the antenna state shows the new state and raises EVT_GNSS_ANT. -/
theorem Dev.setAnt_changes (d : Dev) (now : Nat) {st : Nat} (hlt : st < 4) (hne : d.rd GNSS.ANT_STATE ≠ st) :
    (d.setAnt now st).rd GNSS.ANT_STATE = st ∧ (d.setAnt now st).raised EVT.GNSS_ANT 0 = true ∧
      OnlyRegsAndEvents [GNSS.ANT_STATE] d (d.setAnt now st) := by
  rw [Dev.setAnt, if_neg hne]
  refine ⟨?_, Dev.raised_fire _ _ _ _ _ (by decide) (by decide), (OnlyRegs.wr d _ _ (by simp)).toOnlyRegsAndEvents.thenFire _ _ _ _⟩
  rw [Dev.rd_fire_of _ _ _ _ _ (by decide) (by decide), Dev.rd_wr_self]
  exact Nat.mod_eq_of_lt hlt

@[simp] theorem Dev.gnss_setAnt (d : Dev) (now st : Nat) : (d.setAnt now st).gnss = d.gnss := by
  unfold Dev.setAnt
  split <;> simp

theorem Dev.rd_setAnt (d : Dev) (now st : Nat) {f : Field} (hlo : f.lo < 32) (hev : f.ofEvents = false)
    (hne : (GNSS.ANT_STATE).key ≠ f.key) : (d.setAnt now st).rd f = d.rd f := by
  unfold Dev.setAnt
  split
  · rfl
  · rw [Dev.rd_fire_of _ _ _ _ _ hlo hev, Dev.rd_wr_ne _ _ hne]

/-- The current shown with a change of the antenna state. -/
theorem Dev.setAnt_withCurrent (d : Dev) (now ma : Nat) {st : Nat} (hlt : st < 4) (hne : d.rd GNSS.ANT_STATE ≠ st) :
    ((d.wr GNSS.ANT_MA ma).setAnt now st).rd GNSS.ANT_STATE = st ∧
      ((d.wr GNSS.ANT_MA ma).setAnt now st).rd GNSS.ANT_MA = ma % 2 ^ (GNSS.ANT_MA).width ∧
      ((d.wr GNSS.ANT_MA ma).setAnt now st).raised EVT.GNSS_ANT 0 = true ∧
      OnlyRegsAndEvents [GNSS.ANT_MA, GNSS.ANT_STATE] d ((d.wr GNSS.ANT_MA ma).setAnt now st) := by
  have hne' : (d.wr GNSS.ANT_MA ma).rd GNSS.ANT_STATE ≠ st := by rwa [Dev.rd_wr_ne _ _ (by decide)]
  obtain ⟨hst, hev, hframe⟩ := (d.wr GNSS.ANT_MA ma).setAnt_changes now hlt hne'
  refine ⟨hst, ?_, hev, (OnlyRegs.wr d _ _ (by simp)).toOnlyRegsAndEvents.trans (hframe.mono (by simp))⟩
  rw [Dev.rd_setAnt _ _ _ (by decide) (by decide) (by decide), Dev.rd_wr_self]

theorem antMa_narrow (ma : BitVec 6) : ma.toNat % 2 ^ (GNSS.ANT_MA).width = ma.toNat := by
  have := ma.isLt
  simp only [GNSS.ANT_MA]
  omega

/-! ### The channels -/

theorem Dev.chan_modChan_self (d : Dev) (n : Nat) (f : Chan → Chan) : (d.modChan n f).chan n = f (d.chan n) := tget_tmod_self _ _ _

theorem Dev.chan_modChan_ne (d : Dev) {n m : Nat} (f : Chan → Chan) (h : m ≠ n) : (d.modChan n f).chan m = d.chan m :=
  tget_tmod_ne _ _ h.symm

/-- `e` differs from `d` in the tracking channel `n` only. -/
def OnlyChan (n : Nat) (d e : Dev) : Prop :=
  e = { d with gnss := { d.gnss with chans := e.gnss.chans } } ∧ ∀ m, m ≠ n → e.chan m = d.chan m

theorem OnlyChan.refl (n : Nat) (d : Dev) : OnlyChan n d d := ⟨rfl, fun _ _ => rfl⟩

theorem onlyChan_modChan (d : Dev) (n : Nat) (f : Chan → Chan) : OnlyChan n d (d.modChan n f) :=
  ⟨rfl, fun _ h => d.chan_modChan_ne f h⟩

theorem onlyChan_ite {n : Nat} {d e f : Dev} {p : Prop} [Decidable p] (he : OnlyChan n d e) (hf : OnlyChan n d f) :
    OnlyChan n d (if p then e else f) := by
  split
  · exact he
  · exact hf

theorem onlyChan_detect (d : Dev) (now n : Nat) : OnlyChan n d (d.chanDetect now n) := by
  unfold Dev.chanDetect
  split
  · exact onlyChan_modChan _ _ _
  · exact onlyChan_modChan _ _ _
  · exact .refl _ _

theorem onlyChan_phaseLock (d : Dev) (now n : Nat) : OnlyChan n d (d.chanPhaseLock now n) :=
  onlyChan_ite (onlyChan_modChan _ _ _) (.refl _ _)

theorem onlyChan_phaseLoss (d : Dev) (now n : Nat) (slip : Bool) : OnlyChan n d (d.chanPhaseLoss now n slip) :=
  onlyChan_ite (onlyChan_modChan _ _ _) (.refl _ _)

theorem onlyChan_timeout (d : Dev) (now n : Nat) : OnlyChan n d (d.chanTimeout now n) := by
  have hmod (f : Chan → Chan) := onlyChan_modChan d n f
  have hrefl := OnlyChan.refl n d
  simp only [Dev.chanTimeout]
  cases (d.chan n).st with
  | acq => exact onlyChan_ite (hmod _) hrefl
  | reacq => exact onlyChan_ite (hmod _) hrefl
  | pullIn => exact onlyChan_ite (hmod _) hrefl
  | idle => exact hrefl
  | codeLock | phaseLock =>
    cases (d.chan n).weakSince with
    | none => exact hrefl
    | some t => exact onlyChan_ite (hmod _) hrefl

/-- A locked channel that has been weak for a second acquires anew (Table 07.3). -/
theorem Dev.chanTimeout_weak (d : Dev) {now n t : Nat} (hlocked : (d.chan n).st.locked = true)
    (hweak : (d.chan n).weakSince = some t) (hdue : t + sec 1 ≤ now) :
    d.chanTimeout now n = d.modChan n (·.enter now .reacq) := by
  cases hst : (d.chan n).st with
  | codeLock | phaseLock => simp [Dev.chanTimeout, hst, hweak, hdue]
  | acq | reacq | pullIn | idle => simp [ChanState.locked, hst] at hlocked

theorem antennaStates (s : State) (el : Nat) (ma : BitVec 6) :
    Answers (.antOpen el ma) s (fun _ d e => d.alive = true →
      (d.rd GNSS.ANT_STATE = 1 → ma.toNat < d.antOpenMa → e.rd GNSS.ANT_STATE = 2 ∧ e.rd GNSS.ANT_MA = ma.toNat ∧
        bitOf (e.rd (HDR.PG_EVT_RAW 0x035000)) (EVT.GNSS_ANT - 88) = true ∧ OnlyRegsAndEvents [GNSS.ANT_MA, GNSS.ANT_STATE] d e) ∧
      (d.antOpenMa ≤ ma.toNat → e = d)) ∧
    Answers (.antOk el ma) s (fun _ d e => d.alive = true →
      (d.rd GNSS.ANT_STATE = 2 → d.antOpenMa ≤ ma.toNat → e.rd GNSS.ANT_STATE = 1 ∧ e.rd GNSS.ANT_MA = ma.toNat ∧
        e.raised EVT.GNSS_ANT 0 = true ∧ OnlyRegsAndEvents [GNSS.ANT_MA, GNSS.ANT_STATE] d e) ∧
      (d.rd GNSS.ANT_STATE ≠ 2 → e = d)) := by
  constructor
  · refine answers_of_forall (f := fun now d => if d.alive then d.antOpen now ma.toNat else d) rfl (fun now d halive => ?_)
    rw [if_pos halive]
    refine ⟨fun hst hlow => ?_, fun hhigh => if_neg (by omega)⟩
    rw [Dev.antOpen, if_pos ⟨hst, hlow⟩]
    obtain ⟨hopen, hma, hev, hframe⟩ := d.setAnt_withCurrent now ma.toNat (st := 2) (by decide) (by omega)
    exact ⟨hopen, hma.trans (antMa_narrow ma), hev, hframe⟩
  · refine answers_of_forall (f := fun now d => if d.alive then d.antOk now ma.toNat else d) rfl (fun now d halive => ?_)
    rw [if_pos halive]
    refine ⟨fun hst hhigh => ?_, fun hst => if_neg (fun h => hst h.1)⟩
    rw [Dev.antOk, if_pos ⟨hst, hhigh⟩]
    obtain ⟨hok, hma, hev, hframe⟩ := d.setAnt_withCurrent now ma.toNat (st := 1) (by decide) (by omega)
    exact ⟨hok, hma.trans (antMa_narrow ma), hev, hframe⟩

theorem antennaShortAndRetry (s : State) (el : Nat) :
    Answers (.antShort el) s (fun now d e => d.alive = true → (d.rd GNSS.ANT_STATE = 1 ∨ d.rd GNSS.ANT_STATE = 2) →
      e.rd GNSS.ANT_STATE = 3 ∧ e.rd GNSS.ANT_MA = 0 ∧ e.rd GNSS.ANT_SHORTS = counted d GNSS.ANT_SHORTS ∧
      e.raised EVT.GNSS_ANT 0 = true ∧ e.gnss = { d.gnss with biasOffAt := some now }) ∧
    Answers (.antRetry el) s (fun now d e => d.alive = true → d.rd GNSS.ANT_STATE = 3 → ∀ t, d.gnss.biasOffAt = some t →
      (t + sec (max 1 (d.rd GNSS.ANT_RETRY)) ≤ now → e.rd GNSS.ANT_STATE = 1 ∧ e.raised EVT.GNSS_ANT 0 = true ∧
        e.gnss = { d.gnss with biasOffAt := none }) ∧
      (now < t + sec (max 1 (d.rd GNSS.ANT_RETRY)) → e = d)) := by
  constructor
  · refine answers_of_forall (f := fun now d => if d.alive then d.antShort now else d) rfl (fun now d halive hst => ?_)
    rw [if_pos halive, Dev.antShort, if_pos hst]
    generalize hx : (({ d with gnss := { d.gnss with biasOffAt := some now } }).wr GNSS.ANT_MA 0).bump GNSS.ANT_SHORTS = x
    have hstate : x.rd GNSS.ANT_STATE = d.rd GNSS.ANT_STATE := by
      rw [← hx, Dev.rd_bump_ne _ (by decide), Dev.rd_wr_ne _ _ (by decide)]; rfl
    obtain ⟨hshort, hev, -⟩ := x.setAnt_changes now (st := 3) (by decide) (by omega)
    refine ⟨hshort, ?_, ?_, hev, ?_⟩
    · rw [Dev.rd_setAnt _ _ _ (by decide) (by decide) (by decide), ← hx, Dev.rd_bump_ne _ (by decide), Dev.rd_wr_self]
      decide
    · rw [Dev.rd_setAnt _ _ _ (by decide) (by decide) (by decide), ← hx, Dev.rd_bump_self, Dev.rd_wr_ne _ _ (by decide)]
      rfl
    · rw [Dev.gnss_setAnt, ← hx]
      simp
  · refine answers_of_forall (f := fun now d => if d.alive then d.antRetry now else d) rfl (fun now d halive hst t ht => ?_)
    rw [if_pos halive, Dev.antRetry, ht]
    dsimp only
    refine ⟨fun hdue => ?_, fun hearly => if_neg (by omega)⟩
    rw [if_pos ⟨hst, hdue⟩, Dev.biasOn]
    obtain ⟨hon, -, hev, -⟩ := ({ d with gnss := { d.gnss with biasOffAt := none } } : Dev).setAnt_withCurrent now
      (Config.antCurrent now).toNat (st := 1) (by decide) (show d.rd GNSS.ANT_STATE ≠ 1 by omega)
    exact ⟨hon, hev, by simp⟩

theorem channelDetection (s : State) (el : Nat) (ch : Fin 128) :
    Answers (.signalDetection el ch) s (fun now d e => d.gnssOn = true →
      ((d.chan ch).st = .acq → (e.chan ch).st = .pullIn ∧ (e.chan ch).since = now) ∧
      ((d.chan ch).st = .reacq → (e.chan ch).st = .codeLock ∧ (e.chan ch).since = now) ∧
      ((d.chan ch).st ≠ .acq → (d.chan ch).st ≠ .reacq → e = d)) := by
  refine answers_of_forall (f := fun now d => if d.gnssOn then d.chanDetect now ch else d) rfl (fun now d hon => ?_)
  rw [if_pos hon]
  refine ⟨fun hst => ?_, fun hst => ?_, fun hacq hreacq => ?_⟩
  · simp [Dev.chanDetect, hst, Dev.chan_modChan_self, Chan.enter]
  · simp [Dev.chanDetect, hst, Dev.chan_modChan_self, Chan.enter]
  · simp [Dev.chanDetect]

theorem channelTimeouts (s : State) (el : Nat) (ch : Fin 128) :
    Answers (.channelTimeout el ch) s (fun now d e => d.gnssOn = true →
      ((d.chan ch).st = .acq → (d.chan ch).since + sec 60 ≤ now → (e.chan ch).st = .idle) ∧
      ((d.chan ch).st = .reacq → (d.chan ch).since + sec 10 ≤ now → (e.chan ch).st = .idle) ∧
      ((d.chan ch).st = .pullIn → (d.chan ch).since + ms 200 ≤ now → (e.chan ch).st = .codeLock) ∧
      ((d.chan ch).st.locked = true → ∀ t, (d.chan ch).weakSince = some t → t + sec 1 ≤ now → (e.chan ch).st = .reacq) ∧
      ((d.chan ch).st = .idle → e = d)) := by
  refine answers_of_forall (f := fun now d => if d.gnssOn then d.chanTimeout now ch else d) rfl (fun now d hon => ?_)
  rw [if_pos hon]
  refine ⟨fun hst hdue => ?_, fun hst hdue => ?_, fun hst hdue => ?_, fun hlocked t hweak hdue => ?_, fun hst => ?_⟩
  · simp [Dev.chanTimeout, hst, hdue, Dev.chan_modChan_self]
  · simp [Dev.chanTimeout, hst, hdue, Dev.chan_modChan_self]
  · simp [Dev.chanTimeout, hst, hdue, Dev.chan_modChan_self, Chan.enter]
  · rw [d.chanTimeout_weak hlocked hweak hdue, Dev.chan_modChan_self]
    rfl
  · simp [Dev.chanTimeout, hst]

theorem channelPhase (s : State) (el : Nat) (ch : Fin 128) :
    Answers (.carrierPhaseLock el ch) s (fun now d e => d.gnssOn = true →
      ((d.chan ch).st = .codeLock → (e.chan ch).st = .phaseLock ∧ (e.chan ch).lockFrom = now) ∧
      ((d.chan ch).st ≠ .codeLock → e = d)) ∧
    (∀ slip : Bool, Answers (.phaseLoss el ch slip) s (fun now d e => d.gnssOn = true → (d.chan ch).st = .phaseLock →
      (e.chan ch).slip = true ∧ (e.chan ch).lockFrom = now ∧ (e.chan ch).st = (if slip then .phaseLock else .codeLock))) := by
  constructor
  · refine answers_of_forall (f := fun now d => if d.gnssOn then d.chanPhaseLock now ch else d) rfl (fun now d hon => ?_)
    rw [if_pos hon]
    refine ⟨fun hst => ?_, fun hst => if_neg hst⟩
    rw [Dev.chanPhaseLock, if_pos hst, Dev.chan_modChan_self]
    exact ⟨rfl, rfl⟩
  · intro slip
    refine answers_of_forall (f := fun now d => if d.gnssOn then d.chanPhaseLoss now ch slip else d) rfl (fun now d hon hst => ?_)
    rw [if_pos hon, Dev.chanPhaseLoss, if_pos hst, Dev.chan_modChan_self]
    exact ⟨rfl, rfl, rfl⟩

theorem channelCommandsFrame (s : State) (el : Nat) (ch : Fin 128) (i : Instr) (slip : Bool)
    (hi : i ∈ [Instr.signalDetection el ch, .channelTimeout el ch, .carrierPhaseLock el ch, .phaseLoss el ch slip]) :
    Answers i s (fun _ d e => OnlyChan ch.val d e) := by
  have hrefl (d : Dev) := OnlyChan.refl ch.val d
  simp only [List.mem_cons, List.not_mem_nil, or_false] at hi
  obtain rfl | rfl | rfl | rfl := hi
  · exact answers_of_forall (f := fun now d => if d.gnssOn then d.chanDetect now ch else d) rfl
      (fun now d => onlyChan_ite (onlyChan_detect d now ch) (hrefl d))
  · exact answers_of_forall (f := fun now d => if d.gnssOn then d.chanTimeout now ch else d) rfl
      (fun now d => onlyChan_ite (onlyChan_timeout d now ch) (hrefl d))
  · exact answers_of_forall (f := fun now d => if d.gnssOn then d.chanPhaseLock now ch else d) rfl
      (fun now d => onlyChan_ite (onlyChan_phaseLock d now ch) (hrefl d))
  · exact answers_of_forall (f := fun now d => if d.gnssOn then d.chanPhaseLoss now ch slip else d) rfl
      (fun now d => onlyChan_ite (onlyChan_phaseLoss d now ch slip) (hrefl d))

/-- Settles O25: each state change of the antenna goes through `setAnt`, each of a channel through `modChan`. -/
theorem antennaAndChannelStates : Obligations.AntennaAndChannelStates := by
  unfold Obligations.AntennaAndChannelStates
  refine ⟨fun s el ma => ?_, fun s el ch => ?_⟩
  · obtain ⟨hopen, hok⟩ := antennaStates s el ma
    exact ⟨hopen, hok, antennaShortAndRetry s el⟩
  · obtain ⟨hlock, hloss⟩ := channelPhase s el ch
    exact ⟨channelDetection s el ch, channelTimeouts s el ch, hlock, hloss, channelCommandsFrame s el ch⟩

end Sys2Proof.Machine
end

section
/-! PROOFS. The check-value units (R482 to R485). -/

namespace Sys2Proof.Machine

theorem Dev.crcState_setCrcState (d : Dev) (n v : Nat) : (d.setCrcState n v).crcState n = v % 2 ^ 64 := by
  have hkey : (CRC.STATE_HI n).key ≠ (CRC.STATE_LO n).key := by
    simp only [Field.key, CRC.STATE_HI, CRC.STATE_LO]
    omega
  rw [Dev.setCrcState, Dev.wr2, Dev.crcState, Dev.rd2, Dev.rd_wr_self, Dev.rd_wr_ne _ _ hkey, Dev.rd_wr_self]
  simp only [CRC.STATE_LO, CRC.STATE_HI]
  omega

theorem Dev.setCrcState_frame (d : Dev) (n v : Nat) : OnlyRegs [CRC.STATE_LO n, CRC.STATE_HI n] d (d.setCrcState n v) :=
  (OnlyRegs.wr d _ _ (by simp)).thenWr (by simp) _

theorem Dev.crcIgnore_effect (d : Dev) (n : Nat) :
    (d.crcIgnore n).rd (CRC.FEED_IGN n) = 1 ∧ OnlyRegs [CRC.FEED_IGN n] d (d.crcIgnore n) :=
  ⟨Dev.rd_wr_self _ _ _, OnlyRegs.wr _ _ _ (by simp)⟩

theorem Dev.two_pow_crcWidth_le (d : Dev) (n : Nat) : 2 ^ d.crcWidth n ≤ 2 ^ 64 :=
  Nat.pow_le_pow_right (by decide) (by rw [Dev.crcWidth, Dev.rdH, held]; omega)

theorem Dev.crcLen_le (d : Dev) (n : Nat) : d.crcLen n ≤ 2 ^ 24 := by
  rw [Dev.crcLen, Dev.rdH, held]
  omega

theorem evtPage_crcDone (c : Fin 8) : (evtPage EVT.CRC_DONE c.val).2 < 32 := by
  revert c
  decide

theorem Dev.crcEnd_shows (d : Dev) (now : Nat) (c : Fin 8) {k : Nat} (val : Nat) (hk : k ≤ 2 ^ 24) :
    (d.crcEnd now c.val k val).crcBusy c.val = false ∧ (d.crcEnd now c.val k val).rd (CRC.DMA_DONE c.val) = k ∧
      (d.crcEnd now c.val k val).raised EVT.CRC_DONE c.val = true ∧
      (d.crcEnd now c.val k val).crcState c.val =
        ((List.range k).map (fun i => d.spaceByte now (d.rd (CRC.DMA_SRC c.val) + i))).foldl
          (crcFeed (d.crcWidth c.val) (d.rd2 (CRC.POLY_LO c.val) (CRC.POLY_HI c.val)) (d.on (CRC.REFIN c.val)))
          (d.crcState c.val) % 2 ^ 64 := by
  rw [Dev.crcEnd]
  refine ⟨?_, ?_, Dev.raised_fire _ _ _ _ _ (by omega) (evtPage_crcDone c), ?_⟩
  · rw [Dev.crcBusy, Dev.on]
    simp (disch := decide +revert) only [Dev.rd_fire_of, Dev.rd_wr_ne, Dev.rd_wr_self]
    rfl
  · simp (disch := decide +revert) only [Dev.rd_fire_of, Dev.rd_wr_self]
    exact Nat.mod_eq_of_lt (by simp only [CRC.DMA_DONE]; omega)
  · rw [Dev.crcState, Dev.rd2]
    simp (disch := decide +revert) only [Dev.rd_fire_of, Dev.rd_wr_ne]
    exact d.crcState_setCrcState _ _

theorem start_effect (s : State) (el : Nat) (c : Fin 8) :
    Answers (.start el c) s (fun _ d e => d.hif.inService = true →
      (d.crcBusy c.val = true → e.rd (CRC.FEED_IGN c.val) = 1 ∧ OnlyRegs [CRC.FEED_IGN c.val] d e) ∧
      (d.crcBusy c.val = false → d.pgEn (crcPage c.val) = true → OnlyRegs [CRC.STATE_LO c.val, CRC.STATE_HI c.val] d e ∧
        e.crcState c.val = d.rd2 (CRC.INIT_LO c.val) (CRC.INIT_HI c.val) % 2 ^ d.crcWidth c.val) ∧
      (d.crcBusy c.val = false → d.pgEn (crcPage c.val) = false → e = d)) := by
  refine answers_of_forall (f := fun _ d => if d.hif.inService then d.crcStart c.val else d) rfl (fun now d hserves => ?_)
  rw [if_pos hserves, Dev.crcStart]
  refine ⟨fun hbusy => ?_, fun hbusy hen => ?_, fun hbusy hen => ?_⟩
  · rw [if_pos hbusy]
    exact d.crcIgnore_effect _
  · rw [if_neg (by simp [hbusy]), if_pos hen]
    refine ⟨d.setCrcState_frame _ _, (d.crcState_setCrcState _ _).trans (Nat.mod_eq_of_lt ?_)⟩
    exact (Nat.mod_lt _ (Nat.two_pow_pos _)).trans_le (d.two_pow_crcWidth_le _)
  · rw [if_neg (by simp [hbusy]), if_neg (by simp [hen])]

theorem dataIn_effect (s : State) (el : Nat) (c : Fin 8) (w : Word) :
    Answers (.dataIn el c w) s (fun _ d e => d.hif.inService = true →
      (d.crcBusy c.val = true → e.rd (CRC.FEED_IGN c.val) = 1 ∧ OnlyRegs [CRC.FEED_IGN c.val] d e) ∧
      (d.crcBusy c.val = false → d.pgEn (crcPage c.val) = true → OnlyRegs [CRC.STATE_LO c.val, CRC.STATE_HI c.val] d e ∧
        e.crcState c.val = (bytesLE (2 ^ min 2 (d.rd (CRC.FEED_W c.val))) w.toNat).foldl
          (crcFeed (d.crcWidth c.val) (d.rd2 (CRC.POLY_LO c.val) (CRC.POLY_HI c.val)) (d.on (CRC.REFIN c.val)))
          (d.crcState c.val) % 2 ^ 64)) := by
  refine answers_of_forall (f := fun _ d => if d.hif.inService then d.crcDataIn c.val w.toNat else d) rfl (fun now d hserves => ?_)
  rw [if_pos hserves, Dev.crcDataIn]
  refine ⟨fun hbusy => ?_, fun hbusy hen => ?_⟩
  · rw [if_pos hbusy]
    exact d.crcIgnore_effect _
  · rw [if_neg (by simp [hbusy]), if_pos hen]
    exact ⟨d.setCrcState_frame _ _, d.crcState_setCrcState _ _⟩

theorem stateWrite_effect (s : State) (el : Nat) (c : Fin 8) (lo : Word) :
    Answers (.stateWrite el c lo) s (fun _ d e => d.hif.inService = true → d.crcBusy c.val = false →
      e.rd (CRC.STATE_LO c.val) = lo.toNat ∧
      (∀ hi, tget? d.hif.stateHi c.val = some hi → e.rd (CRC.STATE_HI c.val) = hi % 2 ^ 32) ∧
      (tget? d.hif.stateHi c.val = none → e.rd (CRC.STATE_HI c.val) = d.rd (CRC.STATE_HI c.val) % 2 ^ 32) ∧
      tget? e.hif.stateHi c.val = none) := by
  refine answers_of_forall (f := fun _ d => if d.hif.inService then d.crcStateLo c.val lo.toNat else d) rfl
    (fun now d hserves hbusy => ?_)
  rw [if_pos hserves, Dev.crcStateLo, if_neg (by simp [hbusy])]
  generalize hhi : (tget? d.hif.stateHi c.val).getD (d.rd (CRC.STATE_HI c.val)) = h
  have hlt := lo.isLt
  have hhigh (x : Dev) : (x.setCrcState c.val (lo.toNat % 2 ^ 32 + 2 ^ 32 * (h % 2 ^ 32))).rd (CRC.STATE_HI c.val) = h % 2 ^ 32 := by
    rw [Dev.setCrcState, Dev.wr2, Dev.rd_wr_self]
    simp only [CRC.STATE_HI]
    omega
  have hlow (x : Dev) : (x.setCrcState c.val (lo.toNat % 2 ^ 32 + 2 ^ 32 * (h % 2 ^ 32))).rd (CRC.STATE_LO c.val) = lo.toNat := by
    rw [Dev.setCrcState, Dev.wr2, Dev.rd_wr_ne _ _ (by clear * - c; decide +revert), Dev.rd_wr_self]
    simp only [CRC.STATE_LO]
    omega
  refine ⟨hlow _, fun hi hheld => ?_, fun hnone => ?_, tget?_tdel_self _ _⟩
  · rw [hhigh, ← hhi, hheld, Option.getD_some]
  · rw [hhigh, ← hhi, hnone, Option.getD_none]

theorem dmaGo_effect (s : State) (el : Nat) (c : Fin 8) :
    Answers (.dmaGo el c) s (fun _ d e => d.hif.inService = true →
      (d.crcBusy c.val = true ∨ d.pgEn (crcPage c.val) = false → e = d) ∧
      (d.crcBusy c.val = false → d.pgEn (crcPage c.val) = true →
        (crcSourceOk (d.rd (CRC.DMA_SRC c.val)) (d.crcLen c.val) = true → e.rd (CRC.DMA_BUSY c.val) = 1 ∧
          e.rd (CRC.DMA_DONE c.val) = 0 ∧ OnlyRegs [CRC.DMA_BUSY c.val, CRC.DMA_DONE c.val] d e) ∧
        (crcSourceOk (d.rd (CRC.DMA_SRC c.val)) (d.crcLen c.val) = false → e.rd (CRC.DMA_ERR c.val) = 1 ∧
          e.raised EVT.CRC_DONE c.val = true ∧ e.rd (CRC.DMA_BUSY c.val) = d.rd (CRC.DMA_BUSY c.val)))) := by
  refine answers_of_forall (f := fun now d => if d.hif.inService then d.crcDmaGo now c.val else d) rfl (fun now d hserves => ?_)
  rw [if_pos hserves, Dev.crcDmaGo]
  refine ⟨fun hoff => if_pos (by simpa using hoff), fun hbusy hen => ?_⟩
  rw [if_neg (by simp [hbusy, hen])]
  refine ⟨fun hok => ?_, fun hbad => ?_⟩
  · rw [if_pos hok]
    refine ⟨?_, Dev.rd_wr_self _ _ _, (OnlyRegs.wr d _ _ (by simp)).thenWr (by simp) _⟩
    rw [Dev.rd_wr_ne _ _ (by clear * - c; decide +revert), Dev.rd_wr_self]
    rfl
  · rw [if_neg (by simp [hbad])]
    refine ⟨?_, Dev.raised_fire _ _ _ _ _ (by omega) (evtPage_crcDone c), ?_⟩
    · rw [Dev.rd_fire_of _ _ _ _ _ (by clear * - c; decide +revert) (by clear * - c; decide +revert), Dev.rd_wr_self]
      rfl
    · rw [Dev.rd_fire_of _ _ _ _ _ (by clear * - c; decide +revert) (by clear * - c; decide +revert), Dev.rd_wr_ne _ _ (by clear * - c; decide +revert)]

theorem dmaEnds_effect (s : State) (el : Nat) (c : Fin 8) :
    Answers (.dmaAbort el c) s (fun _ d e => d.hif.inService = true →
      (d.crcBusy c.val = false → e = d) ∧
      (d.crcBusy c.val = true → e.crcBusy c.val = false ∧ e.rd (CRC.DMA_DONE c.val) ≤ d.crcLen c.val ∧
        e.raised EVT.CRC_DONE c.val = true ∧ e.freeCtr = d.freeCtr + 1)) ∧
    Answers (.dmaDone el c) s (fun now d e => d.alive = true →
      (d.crcBusy c.val = false → e = d) ∧
      (d.crcBusy c.val = true → e.crcBusy c.val = false ∧ e.rd (CRC.DMA_DONE c.val) = d.crcLen c.val ∧
        e.raised EVT.CRC_DONE c.val = true ∧
        e.crcState c.val = ((List.range (d.crcLen c.val)).map (fun i => d.spaceByte now (d.rd (CRC.DMA_SRC c.val) + i))).foldl
          (crcFeed (d.crcWidth c.val) (d.rd2 (CRC.POLY_LO c.val) (CRC.POLY_HI c.val)) (d.on (CRC.REFIN c.val)))
          (d.crcState c.val) % 2 ^ 64)) := by
  constructor
  · refine answers_of_forall (f := fun now d => if d.hif.inService then d.crcAbort now c.val else d) rfl (fun now d hserves => ?_)
    rw [if_pos hserves, Dev.crcAbort]
    refine ⟨fun hbusy => if_neg (by simp [hbusy]), fun hbusy => ?_⟩
    rw [if_pos hbusy]
    have hle := d.crcLen_le c.val
    obtain ⟨hend, hdone, hev, -⟩ := (d.draw 25).2.crcEnd_shows now c 1 (k := min (d.draw 25).1 (d.crcLen c.val)) (by omega)
    refine ⟨hend, hdone.trans_le (min_le_right _ _), hev, ?_⟩
    simp [Dev.crcEnd, Dev.crcFeedBytes, Dev.setCrcState, Dev.wr2, Dev.draw]
  · refine answers_of_forall (f := fun now d => if d.alive then d.crcDone now c.val else d) rfl (fun now d halive => ?_)
    rw [if_pos halive, Dev.crcDone]
    refine ⟨fun hbusy => if_neg (by simp [hbusy]), fun hbusy => ?_⟩
    rw [if_pos hbusy]
    exact d.crcEnd_shows now c 0 (d.crcLen_le _)

/-- Settles O50, command by command. -/
theorem checkValueUnits : Obligations.CheckValueUnits := by
  unfold Obligations.CheckValueUnits
  exact fun s el c => ⟨start_effect s el c, dataIn_effect s el c, stateWrite_effect s el c, dmaGo_effect s el c,
    dmaEnds_effect s el c⟩

end Sys2Proof.Machine
end

section
/-! PROOFS. Motion feedback (R380 to R387, R393). -/

namespace Sys2Proof.Machine

theorem Dev.raised_wr_keeps (d : Dev) {f : Field} (v : Nat) {ev inst : Nat} (hf : f.key % 32 ≠ 0 ∨ f.key / 32 % 0x1000 ≠ 0x10)
    (hb : (evtPage ev inst).2 < 32) (h : d.raised ev inst = true) : (d.wr f v).raised ev inst = true :=
  (RawKept.wr d f v hf).raised hb h

theorem ofS_lt (i : Int) : ofS 32 i < 2 ^ 32 := by
  unfold ofS
  omega

theorem toS_ofS_toS (v : Nat) : toS 32 (ofS 32 (toS 32 v)) = toS 32 v := by
  unfold toS ofS
  split <;> split <;> omega

/-! ### A channel's registers and its state beside them -/

@[simp] theorem Dev.fbkCh_modFbk (d : Dev) (n : Nat) (f : FbkCh → FbkCh) : (d.modFbk n f).fbkCh n = f (d.fbkCh n) := tget_tmod_self _ _ _

@[simp] theorem Dev.fbkCh_wr (d : Dev) (n : Nat) (f : Field) (v : Nat) : (d.wr f v).fbkCh n = d.fbkCh n := rfl

@[simp] theorem Dev.fbkCh_bump (d : Dev) (n : Nat) (f : Field) : (d.bump f).fbkCh n = d.fbkCh n := rfl

@[simp] theorem Dev.fbkCh_fire (d : Dev) (n now e i v : Nat) : (d.fire now e i v).fbkCh n = d.fbkCh n := by
  rw [Dev.fbkCh, Dev.fire_fbk, Dev.fbkCh]

@[simp] theorem Dev.rd_modFbk (d : Dev) (n : Nat) (f : FbkCh → FbkCh) (g : Field) : (d.modFbk n f).rd g = d.rd g := rfl

/-- POS, the DT of the last edge and the newest two edges of channel `n`. -/
def Dev.edgeView (d : Dev) (n : Nat) : Nat × Nat × Nat × Option Nat × Option Nat :=
  (d.rd (FBK.POS n), d.rd (FBK.LAST_EDGE_DT_LO n), d.rd (FBK.LAST_EDGE_DT_HI n), (d.fbkCh n).e1, (d.fbkCh n).e2)

variable {c : Fin 8}

theorem Dev.edgeView_wr (d : Dev) (n : Nat) {f : Field} (v : Nat) (hpos : f.key ≠ (FBK.POS n).key)
    (hlo : f.key ≠ (FBK.LAST_EDGE_DT_LO n).key) (hhi : f.key ≠ (FBK.LAST_EDGE_DT_HI n).key) :
    (d.wr f v).edgeView n = d.edgeView n := by
  simp only [Dev.edgeView, Dev.rd_wr_ne _ _ hpos, Dev.rd_wr_ne _ _ hlo, Dev.rd_wr_ne _ _ hhi, Dev.fbkCh_wr]

theorem Dev.edgeView_fire (d : Dev) (c : Fin 8) (now e i v : Nat) : (d.fire now e i v).edgeView c.val = d.edgeView c.val := by
  simp (disch := (clear * - c; decide +revert)) only [Dev.edgeView, Dev.rd_fire_of, Dev.fbkCh_fire]

theorem Dev.edgeView_modLoop (d : Dev) (n p : Nat) (f : LoopSt → LoopSt) : (d.modLoop p f).edgeView n = d.edgeView n := rfl

theorem edgeView_ite {n : Nat} {d e f : Dev} {p : Prop} [Decidable p] (he : e.edgeView n = d.edgeView n) (hf : f.edgeView n = d.edgeView n) :
    (if p then e else f).edgeView n = d.edgeView n := by
  split
  · exact he
  · exact hf

theorem key_fbLost_ne (p : Nat) {f : Field} (h : f.lo = 0) : (RATE.FB_LOST p).key ≠ f.key := by
  simp only [Field.key, RATE.FB_LOST, h]
  omega

theorem Dev.edgeView_setFbLost (d : Dev) (n p v : Nat) : (d.wr (RATE.FB_LOST p) v).edgeView n = d.edgeView n :=
  d.edgeView_wr n v (key_fbLost_ne p rfl) (key_fbLost_ne p rfl) (key_fbLost_ne p rfl)

theorem Dev.edgeView_fbCheck (d : Dev) (c : Fin 8) (now t p : Nat) (e1 : Option Nat) :
    (d.fbCheck now t p e1).edgeView c.val = d.edgeView c.val := by
  unfold Dev.fbCheck
  cases (d.loopOf p).lostAt with
  | some l => exact edgeView_ite (Dev.edgeView_setFbLost _ _ _ _) rfl
  | none =>
    refine edgeView_ite ?_ rfl
    rw [Dev.fbLose, Dev.edgeView_fire, Dev.edgeView_setFbLost, Dev.edgeView_modLoop]

/-! ### Index mismatches -/

/-- The registers and the event of a mismatch, before SUSPECT (R384). -/
def Dev.idxMissed (d : Dev) (now n : Nat) : Dev :=
  (((d.modFbk n (fun c => { c with goodRun := 0 })).wr (FBK.MISS_RUN n) (min 3 (d.rd (FBK.MISS_RUN n) + 1))).bump
    (FBK.IDX_MISMATCH_CNT n)).fire now EVT.FBK_INDEX_MISMATCH n 0

/-- The third mismatch in a row makes the channel suspect. -/
theorem Dev.idxMismatch_eq (d : Dev) (now n : Nat) : d.idxMismatch now n =
    if (min 3 (d.rd (FBK.MISS_RUN n) + 1) = 3 && !(d.idxMissed now n).on (FBK.SUSPECT n)) = true then
      ((d.idxMissed now n).wr (FBK.SUSPECT n) 1).fire now EVT.FBK_SUSPECT n 1
    else d.idxMissed now n := rfl

theorem Dev.rd_idxMissed (d : Dev) (now n : Nat) {g : Field} (hlo : g.lo < 32) (hev : g.ofEvents = false)
    (hrun : (FBK.MISS_RUN n).key ≠ g.key) (hcnt : (FBK.IDX_MISMATCH_CNT n).key ≠ g.key) : (d.idxMissed now n).rd g = d.rd g := by
  rw [Dev.idxMissed, Dev.rd_fire_of _ _ _ _ _ hlo hev, Dev.rd_bump_ne _ hcnt, Dev.rd_wr_ne _ _ hrun, Dev.rd_modFbk]

theorem Dev.rd_idxMismatch (d : Dev) (now n : Nat) {g : Field} (hlo : g.lo < 32) (hev : g.ofEvents = false)
    (hrun : (FBK.MISS_RUN n).key ≠ g.key) (hcnt : (FBK.IDX_MISMATCH_CNT n).key ≠ g.key) (hsus : (FBK.SUSPECT n).key ≠ g.key) :
    (d.idxMismatch now n).rd g = d.rd g := by
  rw [Dev.idxMismatch_eq]
  split
  · rw [Dev.rd_fire_of _ _ _ _ _ hlo hev, Dev.rd_wr_ne _ _ hsus, Dev.rd_idxMissed _ _ _ hlo hev hrun hcnt]
  · rw [Dev.rd_idxMissed _ _ _ hlo hev hrun hcnt]

theorem Dev.fbkCh_idxMismatch (d : Dev) (now n : Nat) : (d.idxMismatch now n).fbkCh n = { d.fbkCh n with goodRun := 0 } := by
  have hmissed : (d.idxMissed now n).fbkCh n = { d.fbkCh n with goodRun := 0 } := by simp [Dev.idxMissed, Dev.bump, Dev.add]
  rw [Dev.idxMismatch_eq]
  split
  · rw [Dev.fbkCh_fire, Dev.fbkCh_wr, hmissed]
  · exact hmissed

theorem evtPage_indexMismatch (c : Fin 8) : (evtPage EVT.FBK_INDEX_MISMATCH c.val).2 < 32 := by
  revert c
  decide

theorem Dev.idxMissed_shows (d : Dev) (now : Nat) (c : Fin 8) :
    (d.idxMissed now c.val).rd (FBK.MISS_RUN c.val) = min 3 (d.rd (FBK.MISS_RUN c.val) + 1) ∧
      (d.idxMissed now c.val).rd (FBK.IDX_MISMATCH_CNT c.val) = counted d (FBK.IDX_MISMATCH_CNT c.val) ∧
      (d.idxMissed now c.val).raised EVT.FBK_INDEX_MISMATCH c.val = true := by
  refine ⟨?_, ?_, Dev.raised_fire _ _ _ _ _ (by omega) (evtPage_indexMismatch c)⟩
  · simp (disch := (clear * - c; decide +revert)) only [Dev.idxMissed, Dev.rd_fire_of, Dev.rd_bump_ne, Dev.rd_wr_self]
    exact Nat.mod_eq_of_lt (by simp only [FBK.MISS_RUN]; omega)
  · simp (disch := (clear * - c; decide +revert)) only [Dev.idxMissed, Dev.rd_fire_of, Dev.rd_bump_self, Dev.rd_wr_ne]
    rfl

/-- What a mismatch shows (R384). -/
theorem Dev.idxMismatch_shows (d : Dev) (now : Nat) (c : Fin 8) :
    (d.idxMismatch now c.val).rd (FBK.MISS_RUN c.val) = min 3 (d.rd (FBK.MISS_RUN c.val) + 1) ∧
      (d.idxMismatch now c.val).rd (FBK.IDX_MISMATCH_CNT c.val) = counted d (FBK.IDX_MISMATCH_CNT c.val) ∧
      (d.idxMismatch now c.val).raised EVT.FBK_INDEX_MISMATCH c.val = true ∧
      (d.rd (FBK.MISS_RUN c.val) = 2 → (d.idxMismatch now c.val).rd (FBK.SUSPECT c.val) = 1 ∨ d.on (FBK.SUSPECT c.val) = true) := by
  obtain ⟨hrun, hcnt, hev⟩ := d.idxMissed_shows now c
  have hsus : (d.idxMissed now c.val).on (FBK.SUSPECT c.val) = d.on (FBK.SUSPECT c.val) := by
    rw [Dev.on, d.rd_idxMissed now c.val (by clear * - c; decide +revert) (by clear * - c; decide +revert) (by clear * - c; decide +revert)
      (by clear * - c; decide +revert), Dev.on]
  rw [Dev.idxMismatch_eq]
  split
  · refine ⟨?_, ?_, Dev.raised_fire_keeps _ _ _ _ _ (evtPage_indexMismatch c)
      (Dev.raised_wr_keeps _ _ (.inl (by clear * - c; decide +revert)) (evtPage_indexMismatch c) hev), fun _ => .inl ?_⟩
    · simp (disch := (clear * - c; decide +revert)) only [Dev.rd_fire_of, Dev.rd_wr_ne, hrun]
    · simp (disch := (clear * - c; decide +revert)) only [Dev.rd_fire_of, Dev.rd_wr_ne, hcnt]
    · simp (disch := (clear * - c; decide +revert)) only [Dev.rd_fire_of, Dev.rd_wr_self]
      rfl
  · next hno =>
    refine ⟨hrun, hcnt, hev, fun htwo => .inr ?_⟩
    simpa [htwo, hsus] using hno

theorem Dev.edgeView_idxMismatch (d : Dev) (now : Nat) (c : Fin 8) : (d.idxMismatch now c.val).edgeView c.val = d.edgeView c.val := by
  simp (disch := (clear * - c; decide +revert)) only [Dev.edgeView, Dev.rd_idxMismatch, Dev.fbkCh_idxMismatch]

theorem Dev.edgeView_idxTravel (d : Dev) (now : Nat) (c : Fin 8) : (d.idxTravel now c.val).edgeView c.val = d.edgeView c.val := by
  unfold Dev.idxTravel
  split
  · rfl
  · refine edgeView_ite ?_ rfl
    rw [Dev.edgeView_idxMismatch, Dev.edgeView_wr _ _ _ (by clear * - c; decide +revert) (by clear * - c; decide +revert)
      (by clear * - c; decide +revert)]
    simp [Dev.edgeView]

/-! ### The commands -/

/-- An edge that counts sets POS and the DT of the last edge, and keeps the two newest edges (R380, R381). -/
theorem Dev.fbkEdge_counts (d : Dev) (now : Nat) (c : Fin 8) (pinB a b : Bool) (hcount : d.fbkCount c.val pinB a b ≠ 0) :
    (d.fbkEdge now c.val pinB a b).edgeView c.val = (ofS 32 (d.fbkPos c.val + d.fbkCount c.val pinB a b),
      nsOf now % 2 ^ 32, nsOf now / 2 ^ 32 % 2 ^ 32, some now, (d.fbkCh c.val).e1) := by
  rw [Dev.fbkEdge, if_neg hcount, Dev.edgeView_idxTravel]
  refine (Dev.each_keeps (·.edgeView c.val) _ (fun x p => edgeView_ite (Dev.edgeView_fbCheck _ _ _ _ _ _) rfl) _ _).trans ?_
  simp (disch := (clear * - c; decide +revert)) only [Dev.edgeView, Dev.wr2, Dev.rd_wr_ne, Dev.rd_wr_self, Dev.rd_modFbk, Dev.setPos,
    Dev.fbkCh_wr, Dev.fbkCh_modFbk]
  simp only [FBK.POS, FBK.LAST_EDGE_DT_LO, FBK.LAST_EDGE_DT_HI, Nat.mod_mod, Nat.mod_eq_of_lt (ofS_lt _)]

/-- An index seen: the channel is homed and keeps the position at it. -/
def Dev.idxSeen (d : Dev) (n : Nat) : Dev := d.modFbk n (fun c => { c with lastIdxPos := some (d.fbkPos n), homed := true })

/-- The distance of the position at an index from the nearest expected one (R384). -/
def Dev.idxErr (d : Dev) (n : Nat) : Int :=
  let r := (d.fbkPos n - d.rdS (FBK.IDX_POS n)) % ((d.rd (FBK.IDX_PERIOD n) : Nat) : Int)
  if 2 * r ≤ d.rd (FBK.IDX_PERIOD n) then r else r - d.rd (FBK.IDX_PERIOD n)

/-- What IDX_POLICY makes of the position after an index that does not fit (R384). -/
def Dev.idxPolicy (d : Dev) (n : Nat) (back zero : Int) : Dev :=
  match d.rd (FBK.IDX_POLICY n) with
  | 1 => d.setPos n back
  | 2 => d.setPos n zero
  | _ => d

/-- The position captured and the error shown, before the mismatch is counted. -/
def Dev.idxCaptured (d : Dev) (n : Nat) : Dev :=
  (d.wr (FBK.IDX_CAPT n) (ofS 32 (d.fbkPos n))).wr (FBK.IDX_ERR n) (ofS 32 (d.idxErr n))

/-- The registers after an index that fits. -/
def Dev.idxGood (d : Dev) (n : Nat) : Dev :=
  let d := (d.wr (FBK.MISS_RUN n) 0).modFbk n (fun c => { c with goodRun := c.goodRun + 1 })
  if 8 ≤ (d.fbkCh n).goodRun then d.wr (FBK.SUSPECT n) 0 else d

theorem Dev.indexPulse_homes (d : Dev) (now n : Nat) (hon : (d.fbkMode n = 1 && d.on (FBK.IDX_EN n)) = true)
    (hhome : d.on (FBK.IDX_HOME n) = true) (hnot : (d.fbkCh n).homed = false) :
    d.indexPulse now n = ((d.setPos n (d.rdS (FBK.IDX_POS n))).wr (FBK.IDX_SYNC n) 1).idxSeen n := by
  rw [Dev.indexPulse, if_pos hon, if_pos (by simp [hhome, hnot])]
  rfl

theorem Dev.indexPulse_checks (d : Dev) (now n : Nat) (hon : (d.fbkMode n = 1 && d.on (FBK.IDX_EN n)) = true)
    (hhome : d.on (FBK.IDX_HOME n) = false ∨ (d.fbkCh n).homed = true) :
    d.indexPulse now n =
      if d.rd (FBK.IDX_PERIOD n) = 0 then d.idxSeen n
      else if (d.idxErr n).natAbs ≤ d.rd (FBK.IDX_TOL n) then (d.idxGood n).idxSeen n
      else (((d.idxCaptured n).idxMismatch now n).idxPolicy n (d.fbkPos n - d.idxErr n) (d.rdS (FBK.IDX_POS n))).idxSeen n := by
  rw [Dev.indexPulse, if_pos hon, if_neg (by rcases hhome with h | h <;> simp [h])]
  rfl

theorem Dev.idxSeen_shows (d : Dev) (n : Nat) :
    ((d.idxSeen n).fbkCh n).homed = true ∧ ((d.idxSeen n).fbkCh n).lastIdxPos = some ((d.idxSeen n).fbkPos n) := by
  rw [Dev.idxSeen, Dev.fbkCh_modFbk]
  exact ⟨rfl, rfl⟩

@[simp] theorem Dev.rd_idxSeen (d : Dev) (n : Nat) (f : Field) : (d.idxSeen n).rd f = d.rd f := rfl

@[simp] theorem Dev.raised_idxSeen (d : Dev) (n ev inst : Nat) : (d.idxSeen n).raised ev inst = d.raised ev inst := rfl

@[simp] theorem Dev.goodRun_idxSeen (d : Dev) (n : Nat) : ((d.idxSeen n).fbkCh n).goodRun = (d.fbkCh n).goodRun := by simp [Dev.idxSeen]

theorem Dev.idxGood_shows (d : Dev) (c : Fin 8) :
    (d.idxGood c.val).rd (FBK.MISS_RUN c.val) = 0 ∧ ((d.idxGood c.val).fbkCh c.val).goodRun = (d.fbkCh c.val).goodRun + 1 ∧
      (8 ≤ (d.fbkCh c.val).goodRun + 1 → (d.idxGood c.val).rd (FBK.SUSPECT c.val) = 0) := by
  rw [Dev.idxGood]
  simp only [Dev.fbkCh_modFbk, Dev.fbkCh_wr]
  split
  · refine ⟨?_, by simp, fun _ => ?_⟩
    · simp (disch := (clear * - c; decide +revert)) only [Dev.rd_wr_ne, Dev.rd_modFbk, Dev.rd_wr_self]
      exact Nat.zero_mod _
    · rw [Dev.rd_wr_self, Nat.zero_mod]
  · next hfew => exact ⟨by rw [Dev.rd_modFbk, Dev.rd_wr_self, Nat.zero_mod], by simp, fun h => absurd h hfew⟩

/-- Under IDX_POLICY only POS changes, and by the policy. -/
theorem Dev.idxPolicy_shows (d : Dev) (c : Fin 8) (back zero : Int) :
    OnlyRegs [FBK.POS c.val] d (d.idxPolicy c.val back zero) ∧
      (d.rd (FBK.IDX_POLICY c.val) = 1 → (d.idxPolicy c.val back zero).rd (FBK.POS c.val) = ofS 32 back) ∧
      (d.rd (FBK.IDX_POLICY c.val) = 2 → (d.idxPolicy c.val back zero).rd (FBK.POS c.val) = ofS 32 zero) ∧
      (d.rd (FBK.IDX_POLICY c.val) ≠ 1 → d.rd (FBK.IDX_POLICY c.val) ≠ 2 → d.idxPolicy c.val back zero = d) := by
  have hset (p : Int) : (d.setPos c.val p).rd (FBK.POS c.val) = ofS 32 p :=
    (Dev.rd_wr_self _ _ _).trans (Nat.mod_eq_of_lt (ofS_lt p))
  rw [Dev.idxPolicy]
  split
  · next h1 => exact ⟨OnlyRegs.wr _ _ _ (by simp), fun _ => hset _, fun h => by omega, fun h => absurd h1 h⟩
  · next h2 => exact ⟨OnlyRegs.wr _ _ _ (by simp), fun h => by omega, fun _ => hset _, fun _ h => absurd h2 h⟩
  · next h1 h2 => exact ⟨.refl _ _, fun h => absurd h h1, fun h => absurd h h2, fun _ _ => rfl⟩

theorem Dev.ssiReject_shows (d : Dev) (now : Nat) (c : Fin 8) {code : Nat} (hcode : code < 8) :
    (d.ssiReject now c.val code).rd (FBK.SSI_ERR_LAST c.val) = code ∧
      (d.ssiReject now c.val code).rd (FBK.SSI_ERR_CNT c.val) = counted d (FBK.SSI_ERR_CNT c.val) ∧
      (d.ssiReject now c.val code).rd (FBK.POS c.val) = d.rd (FBK.POS c.val) ∧
      ((d.ssiReject now c.val code).fbkCh c.val).ssiRun = (d.fbkCh c.val).ssiRun ∧
      ((d.ssiReject now c.val code).fbkCh c.val).ssiEdge = (d.fbkCh c.val).ssiEdge := by
  have hwidth : code % 2 ^ (FBK.SSI_ERR_LAST c.val).width = code := Nat.mod_eq_of_lt hcode
  have hcnt (x : Dev) : (x.bump (FBK.SSI_ERR_CNT c.val)).rd (FBK.SSI_ERR_CNT c.val) = counted x (FBK.SSI_ERR_CNT c.val) :=
    Dev.rd_bump_self _ _
  rw [Dev.ssiReject]
  split
  · simp (disch := (clear * - c; decide +revert)) only [Dev.rd_fire_of, Dev.rd_modFbk, Dev.rd_wr_self, Dev.rd_wr_ne, Dev.rd_bump_ne,
      hcnt, hwidth, Dev.fbkCh_fire, Dev.fbkCh_modFbk, Dev.fbkCh_wr, Dev.fbkCh_bump, and_self]
  · simp (disch := (clear * - c; decide +revert)) only [Dev.rd_wr_self, Dev.rd_wr_ne, Dev.rd_bump_ne, hcnt, hwidth, Dev.fbkCh_wr,
      Dev.fbkCh_bump, and_self]

/-- The transfer before the next tick edge is open (R386). -/
def Dev.ssiOpen (d : Dev) (now n : Nat) : Prop :=
  d.fbkMode n = 3 ∧ d.sys.gridOn = true ∧ d.nextEdge ≤ now + us (d.rd (FBK.SSI_LEAD n)) ∧ (d.fbkCh n).ssiEdge ≠ some d.nextEdge

theorem Dev.ssiStart_of_not_open {d : Dev} {now n : Nat} (low : Bool) (h : ¬d.ssiOpen now n) : d.ssiStart now n low = d := by
  rw [Dev.ssiStart, if_neg]
  simpa [Dev.ssiOpen, and_assoc] using h

theorem Dev.ssiStart_of_open {d : Dev} {now n : Nat} (low : Bool) (h : d.ssiOpen now n) : d.ssiStart now n low =
    if low then (d.modFbk n (fun c => { c with ssiEdge := some d.nextEdge })).ssiReject now n 4
    else (d.modFbk n (fun c => { c with ssiEdge := some d.nextEdge })).modFbk n (fun c => { c with ssiRun := some now }) := by
  rw [Dev.ssiStart, if_pos (by simpa [Dev.ssiOpen, and_assoc] using h)]

/-- The bits of a serial word without its CRC (R386). -/
def Dev.ssiBody (d : Dev) (n raw : Nat) : Nat :=
  bitsOf raw (min 8 (d.rd (FBK.SSI_CRC_W n))) (d.rdH 8 32 (FBK.SSI_BITS n) + d.rd (FBK.SSI_ERR_EN n))

/-- The CRC that a serial word must carry. -/
def Dev.ssiWant (d : Dev) (n raw : Nat) : Nat :=
  let w := min 8 (d.rd (FBK.SSI_CRC_W n))
  let crc := ssiCrc w (d.rd (FBK.SSI_CRC_POLY n)) (d.rdH 8 32 (FBK.SSI_BITS n) + d.rd (FBK.SSI_ERR_EN n)) (d.ssiBody n raw)
  if d.on (FBK.SSI_CRC_INV n) then 2 ^ w - 1 - crc else crc

/-- The transfer of a channel is over. -/
def Dev.ssiIdle (d : Dev) (n : Nat) : Dev := d.modFbk n (fun c => { c with ssiRun := none })

theorem Dev.ssiWord_eq (d : Dev) {now n t : Nat} (raw high : Nat) (hrun : (d.fbkCh n).ssiRun = some t)
    (hover : t + d.ssiLen n * d.ssiClk n ≤ now) : d.ssiWord now n raw high =
      if 0 < min 8 (d.rd (FBK.SSI_CRC_W n)) && raw % 2 ^ min 8 (d.rd (FBK.SSI_CRC_W n)) ≠ d.ssiWant n raw then (d.ssiIdle n).ssiReject now n 1
      else if d.rd (FBK.SSI_ERR_EN n) = 1 && d.ssiBody n raw % 2 = d.rd (FBK.SSI_ERR_POL n) then (d.ssiIdle n).ssiReject now n 2
      else if decide (us (max 1 (d.rd (FBK.SSI_TMO n))) < high) then (d.ssiIdle n).ssiReject now n 3
      else
        let data := d.ssiBody n raw / 2 ^ d.rd (FBK.SSI_ERR_EN n) % 2 ^ d.rdH 8 32 (FBK.SSI_BITS n)
        let pos := if d.on (FBK.SSI_GRAY n) then grayDecode (d.rdH 8 32 (FBK.SSI_BITS n)) data else data
        ((d.ssiIdle n).wr (FBK.POS n) pos).modFbk n (fun c => { c with words := (t, pos) :: c.words, lastGood := some t }) := by
  rw [Dev.ssiWord, hrun]
  simp only [if_neg (Nat.not_lt.mpr hover)]
  rfl

/-- What the statement says of a serial word refused with `code`. -/
theorem Dev.ssiWord_refused (d : Dev) (now : Nat) (c : Fin 8) {code : Nat} (hcode : code < 8) :
    (((d.ssiIdle c.val).ssiReject now c.val code).fbkCh c.val).ssiRun = none ∧
      ((d.ssiIdle c.val).ssiReject now c.val code).rd (FBK.SSI_ERR_LAST c.val) = code ∧
      ((d.ssiIdle c.val).ssiReject now c.val code).rd (FBK.SSI_ERR_CNT c.val) = counted d (FBK.SSI_ERR_CNT c.val) ∧
      ((d.ssiIdle c.val).ssiReject now c.val code).rd (FBK.POS c.val) = d.rd (FBK.POS c.val) := by
  obtain ⟨hlast, hcnt, hpos, hrun, -⟩ := (d.ssiIdle c.val).ssiReject_shows now c hcode
  exact ⟨by rw [hrun, Dev.ssiIdle, Dev.fbkCh_modFbk], hlast, hcnt, hpos⟩

/-- A good serial word in plain code becomes POS. -/
theorem Dev.ssiWord_taken (d : Dev) (c : Fin 8) (t : Nat) {pos : Nat} (hpos : pos < 2 ^ 32) :
    let e := ((d.ssiIdle c.val).wr (FBK.POS c.val) pos).modFbk c.val (fun x => { x with words := (t, pos) :: x.words, lastGood := some t })
    (e.fbkCh c.val).ssiRun = none ∧ e.rd (FBK.POS c.val) = pos ∧ (e.fbkCh c.val).lastGood = some t ∧
      OnlyRegs [FBK.POS c.val] { d with fbk := e.fbk } e := by
  simp only [Dev.fbkCh_modFbk, Dev.fbkCh_wr, Dev.rd_modFbk, Dev.rd_wr_self]
  refine ⟨by rw [Dev.ssiIdle, Dev.fbkCh_modFbk], Nat.mod_eq_of_lt hpos, trivial, rfl, fun g hg => Dev.rd_wr_ne _ _ (hg _ (by simp))⟩

theorem fbkEdge_effect (s : State) (el : Nat) (c : Fin 8) (pinB a b : Bool) (held : Nat) :
    Answers (.fbkEdge el c pinB a b held) s (fun now d e => d.pwr.st ≠ .off →
      (d.fbkCount c.val pinB a b = 0 ∨ held < 20 * d.rd (FBK.GLITCH c.val) → e = d) ∧
      (d.fbkCount c.val pinB a b ≠ 0 → 20 * d.rd (FBK.GLITCH c.val) ≤ held →
        e.rd (FBK.POS c.val) = ofS 32 (d.fbkPos c.val + d.fbkCount c.val pinB a b) ∧
        (e.fbkCh c.val).e1 = some now ∧ (e.fbkCh c.val).e2 = (d.fbkCh c.val).e1 ∧
        e.rd (FBK.LAST_EDGE_DT_LO c.val) = nsOf now % 2 ^ 32 ∧ e.rd (FBK.LAST_EDGE_DT_HI c.val) = nsOf now / 2 ^ 32 % 2 ^ 32)) := by
  refine answers_of_forall (f := fun now d => if d.pwr.st = .off || !d.fbkPasses c.val held then d else d.fbkEdge now c.val pinB a b) rfl
    (fun now d hon => ⟨fun hno => ?_, fun hcount hheld => ?_⟩)
  · obtain hzero | hshort := hno
    · simp [Dev.fbkEdge, hzero]
    · rw [if_pos (by simp [Dev.fbkPasses, hshort])]
  · rw [if_neg (by simp [Dev.fbkPasses, hheld, hon])]
    obtain ⟨hpos, hlo, hhi, he1, he2⟩ := (by simpa [Dev.edgeView] using d.fbkEdge_counts now c pinB a b hcount :
      _ ∧ _ ∧ _ ∧ _ ∧ _)
    exact ⟨hpos, he1, he2, hlo, hhi⟩

/-- The count of an edge by mode and direction (Table 11.3). -/
theorem Dev.fbkCount_table (d : Dev) (n : Nat) (pinB a b : Bool) :
    (d.fbkMode n = 0 ∨ d.fbkMode n = 3 → d.fbkCount n pinB a b = 0) ∧
    (d.fbkMode n = 1 → d.on (FBK.INV n) = false → d.fbkCount n pinB a b = if (pinB == (a == b)) = true then 1 else -1) ∧
    (d.fbkMode n = 1 → d.on (FBK.INV n) = true → d.fbkCount n pinB a b = if (pinB == (a == b)) = true then -1 else 1) ∧
    (d.fbkMode n = 2 → pinB = true → d.fbkCount n pinB a b = 0) ∧
    (d.fbkMode n = 2 → pinB = false → a = true → d.fbkPlain n = false → d.rd (FBK.EDGE_SEL n) = 0 → d.on (FBK.INV n) = false →
      d.fbkCount n pinB a b = if d.on (FBK.DIR_B n) && b then -1 else 1) := by
  refine ⟨?_, fun hmode hinv => ?_, fun hmode hinv => ?_, fun hmode hB => ?_, fun hmode hB ha hplain hsel hinv => ?_⟩
  · rintro (hmode | hmode) <;> simp [Dev.fbkCount, hmode]
  · simp [Dev.fbkCount, hmode, hinv]
  · simp [Dev.fbkCount, hmode, hinv, apply_ite Neg.neg]
  · simp [Dev.fbkCount, hmode, hB]
  · simp [Dev.fbkCount, hmode, hB, ha, hplain, hsel, hinv]

theorem indexPulse_home_effect {d e : Dev} {now : Nat} (he : e = d.indexPulse now c.val)
    (hon : (d.fbkMode c.val = 1 && d.on (FBK.IDX_EN c.val)) = true) (hhome : d.on (FBK.IDX_HOME c.val) = true)
    (hnot : (d.fbkCh c.val).homed = false) :
    e.fbkPos c.val = d.rdS (FBK.IDX_POS c.val) ∧ e.rd (FBK.IDX_SYNC c.val) = 1 ∧
      OnlyRegs [FBK.POS c.val, FBK.IDX_SYNC c.val] { d with fbk := e.fbk } e := by
  subst he
  rw [d.indexPulse_homes now c.val hon hhome hnot]
  refine ⟨?_, ?_, rfl, fun g hg => ?_⟩
  · rw [Dev.fbkPos, Dev.rdS, Dev.rd_idxSeen, Dev.rd_wr_ne _ _ (by clear * - c; decide +revert), Dev.setPos, Dev.rd_wr_self]
    exact (congrArg (toS 32) (Nat.mod_eq_of_lt (ofS_lt _))).trans (toS_ofS_toS _)
  · rw [Dev.rd_idxSeen, Dev.rd_wr_self]
    rfl
  · rw [Dev.rd_idxSeen, Dev.rd_wr_ne _ _ (hg _ (by simp)), Dev.setPos, Dev.rd_wr_ne _ _ (hg _ (by simp))]
    rfl

/-- The registers after an index that does not fit: capture, mismatch, policy. -/
def Dev.idxRejected (d : Dev) (now n : Nat) : Dev :=
  ((d.idxCaptured n).idxMismatch now n).idxPolicy n (d.fbkPos n - d.idxErr n) (d.rdS (FBK.IDX_POS n))

/-- What an index that does not fit shows (R384). -/
theorem Dev.idxRejected_shows (d : Dev) (now : Nat) (c : Fin 8) :
    (d.idxRejected now c.val).rd (FBK.IDX_CAPT c.val) = ofS 32 (d.fbkPos c.val) ∧ (d.idxRejected now c.val).rd (FBK.IDX_ERR c.val) = ofS 32 (d.idxErr c.val) ∧
    ((d.idxRejected now c.val).fbkCh c.val).goodRun = 0 ∧
    (d.idxRejected now c.val).rd (FBK.IDX_MISMATCH_CNT c.val) = counted d (FBK.IDX_MISMATCH_CNT c.val) ∧
    (d.idxRejected now c.val).rd (FBK.MISS_RUN c.val) = min 3 (d.rd (FBK.MISS_RUN c.val) + 1) ∧
    (d.idxRejected now c.val).raised EVT.FBK_INDEX_MISMATCH c.val = true ∧
    (d.rd (FBK.IDX_POLICY c.val) = 1 → (d.idxRejected now c.val).rd (FBK.POS c.val) = ofS 32 (d.fbkPos c.val - d.idxErr c.val)) ∧
    (d.rd (FBK.IDX_POLICY c.val) = 2 → (d.idxRejected now c.val).rd (FBK.POS c.val) = ofS 32 (d.rdS (FBK.IDX_POS c.val))) ∧
    (d.rd (FBK.IDX_POLICY c.val) ≠ 1 → d.rd (FBK.IDX_POLICY c.val) ≠ 2 → (d.idxRejected now c.val).rd (FBK.POS c.val) = d.rd (FBK.POS c.val)) ∧
    (d.rd (FBK.MISS_RUN c.val) = 2 → (d.idxRejected now c.val).rd (FBK.SUSPECT c.val) = 1 ∨ d.on (FBK.SUSPECT c.val) = true) := by
  generalize hx : d.idxRejected now c.val = x
  have hcap {g : Field} (h1 : (FBK.IDX_CAPT c.val).key ≠ g.key) (h2 : (FBK.IDX_ERR c.val).key ≠ g.key) :
      (d.idxCaptured c.val).rd g = d.rd g := by
    rw [Dev.idxCaptured, Dev.rd_wr_ne _ _ h2, Dev.rd_wr_ne _ _ h1]
  obtain ⟨hrun, hcnt, hev, hsus⟩ := (d.idxCaptured c.val).idxMismatch_shows now c
  have hpolicy : ((d.idxCaptured c.val).idxMismatch now c.val).rd (FBK.IDX_POLICY c.val) = d.rd (FBK.IDX_POLICY c.val) := by
    simp (disch := (clear * - c; decide +revert)) only [Dev.rd_idxMismatch, hcap]
  rw [Dev.idxRejected] at hx
  obtain ⟨hframe, hback, hzero, hkeep⟩ := ((d.idxCaptured c.val).idxMismatch now c.val).idxPolicy_shows c
    (d.fbkPos c.val - d.idxErr c.val) (d.rdS (FBK.IDX_POS c.val))
  rw [hx] at hframe hback hzero hkeep
  have hrd {g : Field} (h : (FBK.POS c.val).key ≠ g.key) : x.rd g = ((d.idxCaptured c.val).idxMismatch now c.val).rd g :=
    hframe.2 g (by simpa using h)
  rw [hpolicy] at hback hzero hkeep
  rw [hcap (by clear * - c; decide +revert) (by clear * - c; decide +revert)] at hrun hsus
  rw [counted, hcap (by clear * - c; decide +revert) (by clear * - c; decide +revert)] at hcnt
  rw [Dev.on, hcap (by clear * - c; decide +revert) (by clear * - c; decide +revert)] at hsus
  refine ⟨?_, ?_, ?_, ?_, ?_, ?_, hback, hzero, fun h1 h2 => ?_, fun h2 => ?_⟩
  · simp (disch := (clear * - c; decide +revert)) only [hrd, Dev.rd_idxMismatch, Dev.idxCaptured, Dev.rd_wr_ne, Dev.rd_wr_self]
    exact Nat.mod_eq_of_lt (ofS_lt _)
  · simp (disch := (clear * - c; decide +revert)) only [hrd, Dev.rd_idxMismatch, Dev.idxCaptured, Dev.rd_wr_self]
    exact Nat.mod_eq_of_lt (ofS_lt _)
  · have hfbk : x.fbk = ((d.idxCaptured c.val).idxMismatch now c.val).fbk :=
      (congrArg Dev.fbk hframe.1 :)
    rw [Dev.fbkCh, hfbk, ← Dev.fbkCh, Dev.fbkCh_idxMismatch]
  · rw [hrd (by clear * - c; decide +revert), hcnt]
    rfl
  · rw [hrd (by clear * - c; decide +revert), hrun]
  · rw [Dev.raised, hrd, ← Dev.raised, hev]
    clear * - c
    decide +revert
  · rw [hkeep h1 h2]
    simp (disch := (clear * - c; decide +revert)) only [Dev.rd_idxMismatch, hcap]
  · rw [hrd (by clear * - c; decide +revert)]
    exact hsus h2

theorem indexPulse_effect (s : State) (el : Nat) (c : Fin 8) (held : Nat) :
    let n := c.val
    Answers (.indexPulse el c held) s (fun _ d e => d.pwr.st ≠ .off →
      (d.fbkMode n ≠ 1 ∨ d.on (FBK.IDX_EN n) = false ∨ held < 20 * d.rd (FBK.GLITCH n) → e = d) ∧
      (d.fbkMode n = 1 → d.on (FBK.IDX_EN n) = true → 20 * d.rd (FBK.GLITCH n) ≤ held →
        (e.fbkCh n).homed = true ∧ (e.fbkCh n).lastIdxPos = some (e.fbkPos n) ∧
        (d.on (FBK.IDX_HOME n) = true → (d.fbkCh n).homed = false →
          e.fbkPos n = d.rdS (FBK.IDX_POS n) ∧ e.rd (FBK.IDX_SYNC n) = 1 ∧ OnlyRegs [FBK.POS n, FBK.IDX_SYNC n] { d with fbk := e.fbk } e) ∧
        (d.on (FBK.IDX_HOME n) = false ∨ (d.fbkCh n).homed = true →
          (d.rd (FBK.IDX_PERIOD n) = 0 → OnlyRegs [] { d with fbk := e.fbk } e) ∧
          (d.rd (FBK.IDX_PERIOD n) ≠ 0 → (d.idxErr n).natAbs ≤ d.rd (FBK.IDX_TOL n) → e.rd (FBK.MISS_RUN n) = 0 ∧
            (e.fbkCh n).goodRun = (d.fbkCh n).goodRun + 1 ∧ (8 ≤ (d.fbkCh n).goodRun + 1 → e.rd (FBK.SUSPECT n) = 0)) ∧
          (d.rd (FBK.IDX_PERIOD n) ≠ 0 → d.rd (FBK.IDX_TOL n) < (d.idxErr n).natAbs →
            e.rd (FBK.IDX_CAPT n) = ofS 32 (d.fbkPos n) ∧ e.rd (FBK.IDX_ERR n) = ofS 32 (d.idxErr n) ∧ (e.fbkCh n).goodRun = 0 ∧
            e.rd (FBK.IDX_MISMATCH_CNT n) = counted d (FBK.IDX_MISMATCH_CNT n) ∧ e.rd (FBK.MISS_RUN n) = min 3 (d.rd (FBK.MISS_RUN n) + 1) ∧
            e.raised EVT.FBK_INDEX_MISMATCH n = true ∧
            (d.rd (FBK.IDX_POLICY n) = 1 → e.rd (FBK.POS n) = ofS 32 (d.fbkPos n - d.idxErr n)) ∧
            (d.rd (FBK.IDX_POLICY n) = 2 → e.rd (FBK.POS n) = ofS 32 (d.rdS (FBK.IDX_POS n))) ∧
            (d.rd (FBK.IDX_POLICY n) ≠ 1 → d.rd (FBK.IDX_POLICY n) ≠ 2 → e.rd (FBK.POS n) = d.rd (FBK.POS n)) ∧
            (d.rd (FBK.MISS_RUN n) = 2 → e.rd (FBK.SUSPECT n) = 1 ∨ d.on (FBK.SUSPECT n) = true))))) := by
  refine answers_of_forall (f := fun now d => if d.pwr.st = .off || !d.fbkPasses c.val held then d else d.indexPulse now c.val) rfl
    (fun now d hpwr => ⟨fun hno => ?_, fun hmode hen hheld => ?_⟩)
  · obtain hmode | hen | hshort := hno
    · simp [Dev.indexPulse, hmode]
    · simp [Dev.indexPulse, hen]
    · rw [if_pos (by simp [Dev.fbkPasses, hshort])]
  · rw [if_neg (by simp [Dev.fbkPasses, hheld, hpwr])]
    have hon : (d.fbkMode c.val = 1 && d.on (FBK.IDX_EN c.val)) = true := by simp [hmode, hen]
    have hseen : ∃ x : Dev, d.indexPulse now c.val = x.idxSeen c.val := by
      by_cases hhome : d.on (FBK.IDX_HOME c.val) = true ∧ (d.fbkCh c.val).homed = false
      · exact ⟨_, d.indexPulse_homes now c.val hon hhome.1 hhome.2⟩
      · rw [d.indexPulse_checks now c.val hon (by simpa [imp_iff_not_or] using hhome)]
        split
        · exact ⟨_, rfl⟩
        · split <;> exact ⟨_, rfl⟩
    obtain ⟨hhomed, hlast⟩ : ((d.indexPulse now c.val).fbkCh c.val).homed = true ∧
        ((d.indexPulse now c.val).fbkCh c.val).lastIdxPos = some ((d.indexPulse now c.val).fbkPos c.val) := by
      obtain ⟨x, hx⟩ := hseen
      rw [hx]
      exact x.idxSeen_shows _
    refine ⟨hhomed, hlast, fun hhome hnot => indexPulse_home_effect rfl hon hhome hnot, fun hhome => ?_⟩
    rw [d.indexPulse_checks now c.val hon hhome]
    refine ⟨fun hper => ?_, fun hper htol => ?_, fun hper htol => ?_⟩
    · rw [if_pos hper]
      exact ⟨rfl, fun _ _ => rfl⟩
    · rw [if_neg hper, if_pos htol, Dev.rd_idxSeen, Dev.goodRun_idxSeen, Dev.rd_idxSeen]
      exact d.idxGood_shows c
    · rw [if_neg hper, if_neg (by omega)]
      rw [← Dev.idxRejected]
      simp only [Dev.rd_idxSeen, Dev.goodRun_idxSeen, Dev.raised_idxSeen]
      exact d.idxRejected_shows now c

theorem posLoad_effect (s : State) (el : Nat) (c : Fin 8) :
    Answers (.posLoad el c) s (fun _ d e => d.hif.inService = true →
      e.rd (FBK.POS c.val) = ofS 32 (d.rdS (FBK.POS_VAL c.val)) ∧ OnlyRegs [FBK.POS c.val] { d with fbk := e.fbk } e ∧
      (e.fbkCh c.val).e1 = (d.fbkCh c.val).e1) := by
  refine answers_of_forall (f := fun _ d => if d.hif.inService then d.posLoad c.val else d) rfl (fun now d hserves => ?_)
  rw [if_pos hserves, Dev.posLoad]
  refine ⟨(Dev.rd_wr_self _ _ _).trans (Nat.mod_eq_of_lt (ofS_lt _)), ⟨rfl, fun g hg => ?_⟩, by simp [Dev.setPos]⟩
  exact Dev.rd_wr_ne _ _ (hg _ (by simp))

theorem fbkClr_effect (s : State) (el : Nat) (c : Fin 8) :
    Answers (.fbkClr el c) s (fun _ d e => d.hif.inService = true →
      e.rd (FBK.SUSPECT c.val) = 0 ∧ e.rd (FBK.MISS_RUN c.val) = 0 ∧ e.rd (FBK.IDX_MISSING c.val) = 0 ∧
      OnlyRegs [FBK.SUSPECT c.val, FBK.MISS_RUN c.val, FBK.IDX_MISSING c.val] d e) := by
  refine answers_of_forall (f := fun _ d => if d.hif.inService then d.fbkClr c.val else d) rfl (fun now d hserves => ?_)
  rw [if_pos hserves, Dev.fbkClr]
  refine ⟨?_, ?_, ?_, ((OnlyRegs.wr d _ _ (by simp)).thenWr (by simp) _).thenWr (by simp) _⟩
  · simp (disch := (clear * - c; decide +revert)) only [Dev.rd_wr_ne, Dev.rd_wr_self, Nat.zero_mod]
  · simp (disch := (clear * - c; decide +revert)) only [Dev.rd_wr_ne, Dev.rd_wr_self, Nat.zero_mod]
  · rw [Dev.rd_wr_self, Nat.zero_mod]

theorem ssiTransfer_effect (s : State) (el : Nat) (c : Fin 8) (low : Bool) :
    Answers (.ssiTransfer el c low) s (fun now d e => d.pwr.st ≠ .off →
      (¬d.ssiOpen now c.val → e = d) ∧
      (d.ssiOpen now c.val → (e.fbkCh c.val).ssiEdge = some d.nextEdge) ∧
      (d.ssiOpen now c.val → low = true → e.rd (FBK.SSI_ERR_LAST c.val) = 4 ∧
        e.rd (FBK.SSI_ERR_CNT c.val) = counted d (FBK.SSI_ERR_CNT c.val) ∧ (e.fbkCh c.val).ssiRun = (d.fbkCh c.val).ssiRun) ∧
      (d.ssiOpen now c.val → low = false → (e.fbkCh c.val).ssiRun = some now ∧ e = { d with fbk := e.fbk })) := by
  refine answers_of_forall (f := fun now d => if d.pwr.st = .off then d else d.ssiStart now c.val low) rfl (fun now d hon => ?_)
  rw [if_neg hon]
  refine ⟨Dev.ssiStart_of_not_open low, fun hopen => ?_, fun hopen hlow => ?_, fun hopen hhigh => ?_⟩ <;>
    rw [Dev.ssiStart_of_open low hopen]
  · obtain ⟨-, -, -, -, hedge⟩ :=
      (d.modFbk c.val (fun x => { x with ssiEdge := some d.nextEdge })).ssiReject_shows now c (code := 4) (by decide)
    split
    · rw [hedge, Dev.fbkCh_modFbk]
    · rw [Dev.fbkCh_modFbk, Dev.fbkCh_modFbk]
  · rw [if_pos hlow]
    obtain ⟨hlast, hcnt, -, hrun, -⟩ :=
      (d.modFbk c.val (fun x => { x with ssiEdge := some d.nextEdge })).ssiReject_shows now c (code := 4) (by decide)
    exact ⟨hlast, hcnt, by rw [hrun, Dev.fbkCh_modFbk]⟩
  · rw [if_neg (by simp [hhigh]), Dev.fbkCh_modFbk]
    exact ⟨rfl, rfl⟩

theorem ssiWord_effect (s : State) (el : Nat) (c : Fin 8) (raw : BitVec 41) (high : Nat) :
    let n := c.val
    Answers (.ssiWord el c raw high) s (fun now d e => d.pwr.st ≠ .off →
      ((d.fbkCh n).ssiRun = none → e = d) ∧
      (∀ t, (d.fbkCh n).ssiRun = some t → now < t + d.ssiLen n * d.ssiClk n → e = d) ∧
      (∀ t, (d.fbkCh n).ssiRun = some t → t + d.ssiLen n * d.ssiClk n ≤ now → (e.fbkCh n).ssiRun = none ∧
        let w := min 8 (d.rd (FBK.SSI_CRC_W n))
        let en := d.rd (FBK.SSI_ERR_EN n)
        let body := d.ssiBody n raw.toNat
        let late := us (max 1 (d.rd (FBK.SSI_TMO n))) < high
        let ok := w = 0 ∨ raw.toNat % 2 ^ w = d.ssiWant n raw.toNat
        let bad := fun (code : Nat) => e.rd (FBK.SSI_ERR_LAST n) = code ∧
          e.rd (FBK.SSI_ERR_CNT n) = counted d (FBK.SSI_ERR_CNT n) ∧ e.rd (FBK.POS n) = d.rd (FBK.POS n)
        (¬ok → bad 1) ∧
        (ok → en = 1 → body % 2 = d.rd (FBK.SSI_ERR_POL n) → bad 2) ∧
        (ok → en ≠ 1 ∨ body % 2 ≠ d.rd (FBK.SSI_ERR_POL n) → late → bad 3) ∧
        (ok → en ≠ 1 ∨ body % 2 ≠ d.rd (FBK.SSI_ERR_POL n) → ¬late → d.on (FBK.SSI_GRAY n) = false →
          e.rd (FBK.POS n) = body / 2 ^ en % 2 ^ d.rdH 8 32 (FBK.SSI_BITS n) ∧ (e.fbkCh n).lastGood = some t ∧
          OnlyRegs [FBK.POS n] { d with fbk := e.fbk } e))) := by
  intro n
  refine answers_of_forall (f := fun now d => if d.pwr.st = .off then d else d.ssiWord now c.val raw.toNat high) rfl (fun now d hon => ?_)
  rw [if_neg hon]
  refine ⟨fun hidle => by rw [Dev.ssiWord, hidle], fun t hrun hearly => ?_, fun t hrun hover => ?_⟩
  · rw [Dev.ssiWord, hrun]
    exact if_pos hearly
  rw [d.ssiWord_eq raw.toNat high hrun hover]
  have hrefused {code : Nat} (hcode : code < 8) := d.ssiWord_refused now c hcode
  have hbits : d.ssiBody n raw.toNat / 2 ^ d.rd (FBK.SSI_ERR_EN n) % 2 ^ d.rdH 8 32 (FBK.SSI_BITS n) < 2 ^ 32 :=
    (Nat.mod_lt _ (Nat.two_pow_pos _)).trans_le (Nat.pow_le_pow_right (by decide) (by rw [Dev.rdH, held]; omega))
  by_cases hok : min 8 (d.rd (FBK.SSI_CRC_W n)) = 0 ∨ raw.toNat % 2 ^ min 8 (d.rd (FBK.SSI_CRC_W n)) = d.ssiWant n raw.toNat
  case neg =>
    rw [if_pos (by simpa [not_or, Nat.pos_iff_ne_zero] using hok)]
    obtain ⟨hrun', hbad⟩ := hrefused (code := 1) (by decide)
    exact ⟨hrun', fun _ => hbad, fun h => absurd h hok, fun h => absurd h hok, fun h => absurd h hok⟩
  rw [if_neg (by simpa [imp_iff_not_or] using hok)]
  by_cases herr : d.rd (FBK.SSI_ERR_EN n) = 1 ∧ d.ssiBody n raw.toNat % 2 = d.rd (FBK.SSI_ERR_POL n)
  case pos =>
    rw [if_pos (by simpa using herr)]
    obtain ⟨hrun', hbad⟩ := hrefused (code := 2) (by decide)
    exact ⟨hrun', fun h => absurd hok h, fun _ _ _ => hbad, fun _ h => absurd herr (by tauto), fun _ h => absurd herr (by tauto)⟩
  rw [if_neg (by simpa using herr)]
  by_cases hlate : us (max 1 (d.rd (FBK.SSI_TMO n))) < high
  case pos =>
    rw [if_pos (by simpa using hlate)]
    obtain ⟨hrun', hbad⟩ := hrefused (code := 3) (by decide)
    exact ⟨hrun', fun h => absurd hok h, fun _ h1 h2 => absurd ⟨h1, h2⟩ herr, fun _ _ _ => hbad, fun _ _ h => absurd hlate h⟩
  rw [if_neg (by simpa using hlate)]
  refine ⟨?_, fun h => absurd hok h, fun _ h1 h2 => absurd ⟨h1, h2⟩ herr, fun _ _ h => absurd h hlate, fun _ _ _ hplain => ?_⟩
  · dsimp only
    rw [Dev.fbkCh_modFbk, Dev.fbkCh_wr, Dev.ssiIdle, Dev.fbkCh_modFbk]
  · simp only [hplain, Bool.false_eq_true, if_false]
    exact (d.ssiWord_taken c t hbits).2

/-- Settles O40, command by command. -/
theorem motionFeedback : Obligations.MotionFeedback := by
  unfold Obligations.MotionFeedback
  refine fun s el c => ⟨fun pinB a b held => ?_, fun held => indexPulse_effect s el c held, posLoad_effect s el c, fbkClr_effect s el c,
    fun low => ssiTransfer_effect s el c low, fun raw high => ssiWord_effect s el c raw high⟩
  obtain ⟨t, ht, hdt, hq, heffect⟩ := fbkEdge_effect s el c pinB a b held
  refine ⟨t, ht, hdt, hq, fun hon => ?_⟩
  obtain ⟨hnone, hcounts⟩ := heffect hon
  exact ⟨hnone, hcounts, Dev.fbkCount_table _ _ _ _ _⟩

end Sys2Proof.Machine
end

section
/-! PROOFS. The bus controllers: frame queue, mailbox, error states (R395, R398, R399, R425, R426). -/

namespace Sys2Proof.Machine

@[simp] theorem Dev.canCtl_modCan (d : Dev) (n : Nat) (f : CanCtl → CanCtl) : (d.modCan n f).canCtl n = f (d.canCtl n) := tget_tmod_self _ _ _

@[simp] theorem Dev.canCtl_wr (d : Dev) (n : Nat) (f : Field) (v : Nat) : (d.wr f v).canCtl n = d.canCtl n := rfl

@[simp] theorem Dev.rd_modCan (d : Dev) (n : Nat) (f : CanCtl → CanCtl) (g : Field) : (d.modCan n f).rd g = d.rd g := rfl

@[simp] theorem Dev.canActive_modCan (d : Dev) (n m : Nat) (f : CanCtl → CanCtl) : (d.modCan n f).canActive m = d.canActive m := rfl

@[simp] theorem Dev.canTx_modCan (d : Dev) (n m : Nat) (f : CanCtl → CanCtl) : (d.modCan n f).canTx m = d.canTx m := rfl

@[simp] theorem Dev.hostTx_modCan (d : Dev) (n m : Nat) (f : CanCtl → CanCtl) : (d.modCan n f).hostTx m = d.hostTx m := rfl

theorem Dev.canActive_wr (d : Dev) (n v : Nat) {f : Field} (hproto : f.key ≠ (CAN.PROTO n).key) (hpg : f.key ≠ (HDR.PG_EN (canPage n)).key) :
    (d.wr f v).canActive n = d.canActive n := by
  simp only [Dev.canActive, Dev.pgEn, Dev.on, Dev.rd_wr_ne _ _ hproto, Dev.rd_wr_ne _ _ hpg]
  rfl

theorem Dev.hostTx_wr (d : Dev) (n v : Nat) {f : Field} (hproto : f.key ≠ (CAN.PROTO n).key) (hpg : f.key ≠ (HDR.PG_EN (canPage n)).key)
    (hlisten : f.key ≠ (CAN.LISTEN n).key) (hst : f.key ≠ (CAN.CAN_STATE n).key) : (d.wr f v).hostTx n = d.hostTx n := by
  simp only [Dev.hostTx, Dev.canTx, Dev.canActive_wr d n v hproto hpg, Dev.on, Dev.rd_wr_ne _ _ hproto, Dev.rd_wr_ne _ _ hlisten,
    Dev.rd_wr_ne _ _ hst]
  rfl

theorem Dev.bump_shows (d : Dev) (f : Field) : (d.bump f).rd f = counted d f ∧ OnlyRegs [f] d (d.bump f) :=
  ⟨Dev.rd_bump_self _ _, (OnlyRegs.refl _ _).thenBump (by simp)⟩

/-! ### The receive queue -/

theorem length_rxEntry {f : CanFrame} (dt : Nat) (h : f.data.length ≤ 64) : (rxEntry f dt).length = 0x50 := by
  simp only [rxEntry, List.length_append, length_bytesLE, List.length_map, List.length_replicate]
  omega

theorem bytesLE_lt (n v : Nat) : ∀ x ∈ bytesLE n v, x < 256 := by
  induction n generalizing v with
  | zero => simp [bytesLE]
  | succ n ih =>
    intro x hx
    obtain rfl | hx := List.mem_cons.mp hx
    · omega
    · exact ih _ x hx

theorem rxEntry_lt (f : CanFrame) (dt : Nat) : ∀ x ∈ rxEntry f dt, x < 256 := by
  intro x hx
  simp only [rxEntry, List.mem_append, List.mem_map, List.mem_replicate] at hx
  obtain (((hx | hx) | hx) | ⟨y, -, rfl⟩) | ⟨-, rfl⟩ := hx
  · exact bytesLE_lt _ _ x hx
  · exact bytesLE_lt _ _ x hx
  · exact bytesLE_lt _ _ x hx
  · omega
  · omega

theorem memGetBytes_memSetBytes (m : List Host.Cell) (a : Nat) {bs : List Nat} (h : ∀ x ∈ bs, x < 256) :
    memGetBytes (memSetBytes m a bs) a bs.length = bs := by
  refine List.ext_getElem (by simp [memGetBytes]) (fun i h1 h2 => ?_)
  simp only [memGetBytes, List.getElem_map, List.getElem_range]
  rw [memGet_memSetBytes_in _ _ _ _ h2]
  exact Nat.mod_eq_of_lt (h _ (List.getElem_mem h2))

theorem Dev.rd_rxPut (d : Dev) (n : Nat) (e : List Nat) {g : Field} (hg : (CAN.RXQ_CNT n).key ≠ g.key) : (d.rxPut n e).rd g = d.rd g := by
  rw [Dev.rxPut, Dev.rd_wr_ne _ _ hg]
  rfl

theorem Dev.rd_rxqCnt_rxPut (d : Dev) (n : Nat) (e : List Nat) : (d.rxPut n e).rd (CAN.RXQ_CNT n) = (d.rd (CAN.RXQ_CNT n) + 1) % 2 ^ 6 :=
  Dev.rd_wr_self _ _ _

@[simp] theorem Dev.canCtl_rxPut (d : Dev) (n m : Nat) (e : List Nat) : (d.rxPut n e).canCtl m = d.canCtl m := rfl


/-- Address of the place for the next frame in the queue (R399). -/
def Dev.rxTail (d : Dev) (n : Nat) : Nat := canPage n + 0x400 + 0x50 * ((d.rd (CAN.RX_HEAD n) + d.rd (CAN.RXQ_CNT n)) % 32)

theorem Dev.rxQueue_room {d : Dev} {c : Fin 6} (dt : Nat) {f : CanFrame} (hlen : f.data.length ≤ 64) (hroom : d.rd (CAN.RXQ_CNT c.val) < 32) :
    let e := d.rxQueue c.val dt f
    e.rd (CAN.RXQ_CNT c.val) = d.rd (CAN.RXQ_CNT c.val) + 1 ∧
      memGetBytes e.mem (d.rxTail c.val) 0x50 = rxEntry f dt ∧
      (∀ a, a < d.rxTail c.val ∨ d.rxTail c.val + 0x50 ≤ a → memGet e.mem a = memGet d.mem a) ∧
      OnlyRegs [CAN.RXQ_CNT c.val] { d with mem := e.mem } e := by
  rw [Dev.rxQueue, if_pos hroom, Dev.rxPut]
  refine ⟨?_, ?_, fun a ha => memGet_memSetBytes_out _ _ _ _ (by rwa [length_rxEntry dt hlen]), rfl, fun g hg => Dev.rd_wr_ne _ _ (hg _ (by simp))⟩
  · rw [Dev.rd_wr_self]
    exact Nat.mod_eq_of_lt (by simp only [CAN.RXQ_CNT] at hroom ⊢; omega)
  · have h := memGetBytes_memSetBytes d.mem (d.rxTail c.val) (rxEntry_lt f dt)
    rwa [length_rxEntry dt hlen] at h

theorem Dev.rxQueue_shadow {d : Dev} (n dt : Nat) {f : CanFrame} (hfull : 32 ≤ d.rd (CAN.RXQ_CNT n)) (hnone : (d.canCtl n).shadow = none) :
    let e := d.rxQueue n dt f
    e.rd (CAN.SHADOW_FULL n) = 1 ∧ (e.canCtl n).shadow = some (rxEntry f dt) ∧ OnlyRegs [CAN.SHADOW_FULL n] { d with can := e.can } e := by
  rw [Dev.rxQueue, if_neg (by omega), if_pos (by simp [hnone])]
  refine ⟨Dev.rd_wr_self _ _ _, by simp, rfl, fun g hg => Dev.rd_wr_ne _ _ (hg _ (by simp))⟩

theorem Dev.rxQueue_dropped {d : Dev} (n dt : Nat) {f : CanFrame} (hfull : 32 ≤ d.rd (CAN.RXQ_CNT n)) (hsome : (d.canCtl n).shadow ≠ none) :
    d.rxQueue n dt f = d.bump (CAN.RX_DROP n) := by
  rw [Dev.rxQueue, if_neg (by omega), if_neg (by simpa using hsome)]

theorem Dev.canRx_tooLong {d : Dev} (now n rx : Nat) {f : CanFrame} (hrtr : f.rtr = false) (hxl : f.xlf = true) (hlen : 64 < f.data.length) :
    d.canRx now n rx f = d.bump (CAN.XL_OVERSIZE n) := by simp [Dev.canRx, hrtr, hxl, hlen]

theorem Dev.canRx_beyond {d : Dev} (now n rx : Nat) {f : CanFrame} (hrtr : f.rtr = false) (hlen : f.data.length ≤ 64)
    (hfmt : d.rd (CAN.FRAME n) < frameFormat f) : d.canRx now n rx f = d := by
  simp [Dev.canRx, hrtr, Nat.not_lt.mpr hlen, hfmt]

/-- A frame for the host goes to the queue (R398). -/
theorem Dev.canRx_queues {d : Dev} (now n rx : Nat) {f : CanFrame} (hrtr : f.rtr = false) (hlen : f.data.length ≤ 64)
    (hfmt : frameFormat f ≤ d.rd (CAN.FRAME n))
    (hhost : (d.rd (CAN.PROTO n) = 3 ∧ (f.xlf = false ∨ f.sec = false)) ∨ (d.rd (CAN.PROTO n) = 1 ∧ f.ide = false)) :
    d.canRx now n rx f = d.rxQueue n (nsOf rx) f := by
  obtain ⟨hproto, hsec⟩ | ⟨hproto, hide⟩ := hhost
  · have hplain : ¬((f.xlf && f.sec) = true) := by rcases hsec with h | h <;> simp [h]
    simp [Dev.canRx, hrtr, Nat.not_lt.mpr hlen, Nat.not_lt.mpr hfmt, hproto, hplain]
  · simp [Dev.canRx, hrtr, Nat.not_lt.mpr hlen, Nat.not_lt.mpr hfmt, hproto, Dev.isoTake, hide]

theorem Dev.canRx_mismatch {d : Dev} (now n rx : Nat) {f : CanFrame} (hrtr : f.rtr = false) (hxl : f.xlf = true) (hlen : f.data.length ≤ 64)
    (hproto : d.rd (CAN.PROTO n) = 2) (hfmt : d.rd (CAN.FRAME n) = 2)
    (hother : f.sec = true ∨ f.sdt ≠ d.rd (CAN.XL_SDT n) ∨ f.vcid ≠ d.rd (CAN.XL_VCID n) ∨ f.af ≠ d.rd (CAN.XL_AF n)) :
    d.canRx now n rx f = d.bump (CAN.XL_MISMATCH n) := by
  have hmis : (f.xlf && (f.sec || f.sdt != d.rd (CAN.XL_SDT n) || f.vcid != d.rd (CAN.XL_VCID n) || f.af != d.rd (CAN.XL_AF n))) = true := by
    simpa [hxl, or_assoc] using hother
  simp only [Dev.canRx, hrtr, Bool.false_eq_true, if_false, hproto, if_pos hmis]
  rw [if_neg (by simp [hxl, hlen]), if_neg (by simp [hfmt, frameFormat, hxl])]

theorem canFrameRx_effect (s : State) (el : Nat) (c : Fin 6) (f : CanFrame) (ago : BitVec 20) :
    let n := c.val
    Answers (.canFrameRx el c f ago) s (fun now d e => d.alive = true → d.canActive n = true →
      d.rd (CAN.CAN_STATE n) ≠ 3 →
      (f.rtr = true → e.rd (CAN.RTR_IGN n) = counted d (CAN.RTR_IGN n) ∧ OnlyRegs [CAN.RTR_IGN n] d e) ∧
      (f.rtr = false → f.xlf = true → 64 < f.data.length →
        e.rd (CAN.XL_OVERSIZE n) = counted d (CAN.XL_OVERSIZE n) ∧ OnlyRegs [CAN.XL_OVERSIZE n] d e) ∧
      (f.rtr = false → f.data.length ≤ 64 → d.rd (CAN.FRAME n) < frameFormat f → e = d) ∧
      (f.rtr = false → f.data.length ≤ 64 → frameFormat f ≤ d.rd (CAN.FRAME n) →
        (d.rd (CAN.PROTO n) = 3 ∧ (f.xlf = false ∨ f.sec = false)) ∨ (d.rd (CAN.PROTO n) = 1 ∧ f.ide = false) →
        (d.rd (CAN.RXQ_CNT n) < 32 → e.rd (CAN.RXQ_CNT n) = d.rd (CAN.RXQ_CNT n) + 1 ∧
          memGetBytes e.mem (d.rxTail n) 0x50 = rxEntry f (nsOf (now - ago.toNat)) ∧
          (∀ a, a < d.rxTail n ∨ d.rxTail n + 0x50 ≤ a → memGet e.mem a = memGet d.mem a) ∧ OnlyRegs [CAN.RXQ_CNT n] { d with mem := e.mem } e) ∧
        (32 ≤ d.rd (CAN.RXQ_CNT n) → (d.canCtl n).shadow = none → e.rd (CAN.SHADOW_FULL n) = 1 ∧
          (e.canCtl n).shadow = some (rxEntry f (nsOf (now - ago.toNat))) ∧ OnlyRegs [CAN.SHADOW_FULL n] { d with can := e.can } e) ∧
        (32 ≤ d.rd (CAN.RXQ_CNT n) → (d.canCtl n).shadow ≠ none → e.rd (CAN.RX_DROP n) = counted d (CAN.RX_DROP n) ∧
          OnlyRegs [CAN.RX_DROP n] d e)) ∧
      (f.rtr = false → f.xlf = true → f.data.length ≤ 64 → d.rd (CAN.PROTO n) = 2 → d.rd (CAN.FRAME n) = 2 →
        f.sec = true ∨ f.sdt ≠ d.rd (CAN.XL_SDT n) ∨ f.vcid ≠ d.rd (CAN.XL_VCID n) ∨ f.af ≠ d.rd (CAN.XL_AF n) →
        e.rd (CAN.XL_MISMATCH n) = counted d (CAN.XL_MISMATCH n) ∧ OnlyRegs [CAN.XL_MISMATCH n] d e)) := by
  refine answers_of_forall (f := fun now d => if d.alive && d.canActive c.val && d.rd (CAN.CAN_STATE c.val) != 3 then
    d.canRx now c.val (now - ago.toNat) f else d) rfl (fun now d halive hact hst => ?_)
  rw [if_pos (by simp [halive, hact, hst])]
  refine ⟨fun hrtr => ?_, fun hrtr hxl hlen => ?_, fun hrtr hlen hfmt => Dev.canRx_beyond _ _ _ hrtr hlen hfmt,
    fun hrtr hlen hfmt hhost => ?_, fun hrtr hxl hlen hproto hfmt hother => ?_⟩
  · rw [Dev.canRx, if_pos hrtr]
    exact d.bump_shows _
  · rw [Dev.canRx_tooLong _ _ _ hrtr hxl hlen]
    exact d.bump_shows _
  · rw [Dev.canRx_queues _ _ _ hrtr hlen hfmt hhost]
    refine ⟨Dev.rxQueue_room _ hlen, Dev.rxQueue_shadow _ _, fun hfull hsome => ?_⟩
    rw [Dev.rxQueue_dropped _ _ hfull hsome]
    exact d.bump_shows _
  · rw [Dev.canRx_mismatch _ _ _ hrtr hxl hlen hproto hfmt hother]
    exact d.bump_shows _

theorem rxAck_effect (s : State) (el : Nat) (c : Fin 6) (k : BitVec 6) :
    let n := c.val
    Answers (.rxAck el c k) s (fun _ d e => d.hif.inService = true →
      let m := min k.toNat (d.rd (CAN.RXQ_CNT n))
      e.rd (CAN.RX_HEAD n) = (d.rd (CAN.RX_HEAD n) + m) % 32 ∧
      ((d.canCtl n).shadow = none ∨ m = 0 → e.rd (CAN.RXQ_CNT n) = (d.rd (CAN.RXQ_CNT n) - m) % 2 ^ 6 ∧
        OnlyRegs [CAN.RX_HEAD n, CAN.RXQ_CNT n] d e) ∧
      (∀ x, (d.canCtl n).shadow = some x → m ≠ 0 → d.rd (CAN.RXQ_CNT n) < 2 ^ 6 → e.rd (CAN.RXQ_CNT n) = d.rd (CAN.RXQ_CNT n) - m + 1 ∧
        e.rd (CAN.SHADOW_FULL n) = 0 ∧ (e.canCtl n).shadow = none)) := by
  refine answers_of_forall (f := fun _ d => if d.hif.inService then d.rxAck c.val k.toNat else d) rfl (fun now d hserves => ?_)
  rw [if_pos hserves, Dev.rxAck]
  generalize min k.toNat (d.rd (CAN.RXQ_CNT c.val)) = m
  generalize hx : (d.wr (CAN.RX_HEAD c.val) ((d.rd (CAN.RX_HEAD c.val) + m) % 32)).wr (CAN.RXQ_CNT c.val) (d.rd (CAN.RXQ_CNT c.val) - m) = x
  have hhead : x.rd (CAN.RX_HEAD c.val) = (d.rd (CAN.RX_HEAD c.val) + m) % 32 := by
    rw [← hx, Dev.rd_wr_ne _ _ (by clear * - c; decide +revert), Dev.rd_wr_self]
    exact Nat.mod_mod _ _
  have hcnt : x.rd (CAN.RXQ_CNT c.val) = (d.rd (CAN.RXQ_CNT c.val) - m) % 2 ^ 6 := by rw [← hx, Dev.rd_wr_self]; rfl
  have hsh : (x.canCtl c.val).shadow = (d.canCtl c.val).shadow := by rw [← hx]; rfl
  have hframe : OnlyRegs [CAN.RX_HEAD c.val, CAN.RXQ_CNT c.val] d x := by
    rw [← hx]
    exact (OnlyRegs.wr _ _ _ (by simp)).thenWr (by simp) _
  simp only [hsh]
  cases hshadow : (d.canCtl c.val).shadow with
  | none => exact ⟨hhead, fun _ => ⟨hcnt, hframe⟩, fun _ h => by simp at h⟩
  | some e =>
    by_cases hm : m = 0
    · simp only [if_pos hm]
      exact ⟨hhead, fun _ => ⟨hcnt, hframe⟩, fun _ _ h => absurd hm h⟩
    · simp only [if_neg hm]
      refine ⟨?_, fun h => absurd h (by simp [hm]), fun _ _ _ hsmall => ⟨?_, ?_, ?_⟩⟩
      · rw [Dev.rd_rxPut _ _ _ (by clear * - c; decide +revert), Dev.rd_wr_ne _ _ (by clear * - c; decide +revert), Dev.rd_modCan, hhead]
      · rw [Dev.rd_rxqCnt_rxPut, Dev.rd_wr_ne _ _ (by clear * - c; decide +revert), Dev.rd_modCan, hcnt]
        omega
      · rw [Dev.rd_rxPut _ _ _ (by clear * - c; decide +revert), Dev.rd_wr_self, Nat.zero_mod]
      · rw [Dev.canCtl_rxPut, Dev.canCtl_wr, Dev.canCtl_modCan]

/-! ### The mailbox -/

theorem Dev.txGo_refused {d : Dev} {n : Nat} (hidle : d.on (CAN.TX_BUSY n) = false) (hproto : d.rd (CAN.PROTO n) = 2)
    (hid : hostIdOk (d.mailFrame n) = false) : d.txGo n = d.wr (CAN.TX_REFUSED n) 1 := by
  simp [Dev.txGo, hidle, hproto, hid]

/-- A mailbox frame whose identifier is no one's else is taken where the controller sends (R425). -/
theorem Dev.txGo_taken {d : Dev} {c : Fin 6} (hidle : d.on (CAN.TX_BUSY c.val) = false)
    (hid : d.rd (CAN.PROTO c.val) ≠ 2 ∨ hostIdOk (d.mailFrame c.val) = true) : d.txGo c.val =
      if d.hostTx c.val then
        ((d.wr (CAN.TX_REFUSED c.val) 0).modCan c.val (fun x => { x with mail := some (d.mailFrame c.val) })).wr (CAN.TX_BUSY c.val) 1
      else d.wr (CAN.TX_REFUSED c.val) 0 := by
  have hok : ¬(d.rd (CAN.PROTO c.val) = 2 && !hostIdOk (d.mailFrame c.val)) = true := by rcases hid with h | h <;> simp [h]
  rw [Dev.txGo, if_neg (by simp [hidle])]
  simp only [if_neg hok]
  rw [Dev.hostTx_wr d c.val 0 (by clear * - c; decide +revert) (by clear * - c; decide +revert) (by clear * - c; decide +revert)
    (by clear * - c; decide +revert)]

theorem txGo_effect (s : State) (el : Nat) (c : Fin 6) :
    let n := c.val
    Answers (.txGo el c) s (fun _ d e => d.hif.inService = true →
      (d.on (CAN.TX_BUSY n) = true → e = d) ∧
      (d.on (CAN.TX_BUSY n) = false → d.rd (CAN.PROTO n) = 2 → hostIdOk (d.mailFrame n) = false →
        e.rd (CAN.TX_REFUSED n) = 1 ∧ OnlyRegs [CAN.TX_REFUSED n] d e) ∧
      (d.on (CAN.TX_BUSY n) = false → d.rd (CAN.PROTO n) ≠ 2 ∨ hostIdOk (d.mailFrame n) = true → e.rd (CAN.TX_REFUSED n) = 0 ∧
        (d.canTx n = true → d.rd (CAN.PROTO n) ≠ 2 ∨ d.vnpMaster = true → e.rd (CAN.TX_BUSY n) = 1 ∧ (e.canCtl n).mail = some (d.mailFrame n) ∧
          OnlyRegs [CAN.TX_REFUSED n, CAN.TX_BUSY n] { d with can := e.can } e))) := by
  refine answers_of_forall (f := fun _ d => if d.hif.inService then d.txGo c.val else d) rfl (fun now d hserves => ?_)
  rw [if_pos hserves]
  refine ⟨fun hbusy => by rw [Dev.txGo, if_pos hbusy], fun hidle hproto hid => ?_, fun hidle hid => ?_⟩
  · rw [Dev.txGo_refused hidle hproto hid]
    exact ⟨Dev.rd_wr_self _ _ _, OnlyRegs.wr _ _ _ (by simp)⟩
  · rw [Dev.txGo_taken hidle hid]
    refine ⟨?_, fun htx hmaster => ?_⟩
    · split
      · rw [Dev.rd_wr_ne _ _ (by clear * - c; decide +revert), Dev.rd_modCan, Dev.rd_wr_self, Nat.zero_mod]
      · rw [Dev.rd_wr_self, Nat.zero_mod]
    · rw [if_pos (by rcases hmaster with h | h <;> simp [Dev.hostTx, htx, h])]
      refine ⟨Dev.rd_wr_self _ _ _, by rw [Dev.canCtl_wr, Dev.canCtl_modCan], rfl, fun g hg => ?_⟩
      rw [Dev.rd_wr_ne _ _ (hg _ (by simp)), Dev.rd_modCan, Dev.rd_wr_ne _ _ (hg _ (by simp))]
      rfl

theorem mailboxTxDone_effect (s : State) (el : Nat) (c : Fin 6) (acked : Bool) :
    let n := c.val
    Answers (.mailboxTxDone el c acked) s (fun _ d e => d.alive = true →
      ((d.canCtl n).mail = none → e = d) ∧
      (∀ f, (d.canCtl n).mail = some f → (e.canCtl n).mail = none ∧ e.rd (CAN.TX_BUSY n) = 0 ∧
        (e.canCtl n).tx = (d.canCtl n).tx ++ (if acked && d.hostTx n then [f] else []) ∧ OnlyRegs [CAN.TX_BUSY n] { d with can := e.can } e)) := by
  refine answers_of_forall (f := fun _ d => if d.alive then d.mailDone c.val acked else d) rfl (fun now d halive => ?_)
  rw [if_pos halive, Dev.mailDone]
  refine ⟨fun hnone => by rw [hnone], fun f hmail => ?_⟩
  rw [hmail]
  simp only [Dev.hostTx_wr _ c.val 0 (f := CAN.TX_BUSY c.val) (by clear * - c; decide +revert) (by clear * - c; decide +revert)
    (by clear * - c; decide +revert) (by clear * - c; decide +revert), Dev.hostTx_modCan]
  split
  · rw [Dev.canSend, Dev.canCtl_modCan, Dev.canCtl_wr, Dev.canCtl_modCan, Dev.rd_modCan, Dev.rd_wr_self, Nat.zero_mod]
    refine ⟨rfl, rfl, rfl, rfl, fun g hg => ?_⟩
    rw [Dev.rd_modCan, Dev.rd_wr_ne _ _ (hg _ (by simp))]
    rfl
  · rw [Dev.canCtl_wr, Dev.canCtl_modCan, Dev.rd_wr_self, Nat.zero_mod, List.append_nil]
    exact ⟨rfl, rfl, rfl, rfl, fun g hg => Dev.rd_wr_ne _ _ (hg _ (by simp))⟩

/-! ### The error states -/

/-- State and error counters of a controller. -/
def Dev.errView (d : Dev) (n : Nat) : Nat × Nat × Nat := (d.rd (CAN.CAN_STATE n), d.rd (CAN.TEC n), d.rd (CAN.REC_ERR n))

theorem Dev.errView_wr (d : Dev) (n v : Nat) {f : Field} (hst : f.key ≠ (CAN.CAN_STATE n).key) (htec : f.key ≠ (CAN.TEC n).key)
    (hrec : f.key ≠ (CAN.REC_ERR n).key) : (d.wr f v).errView n = d.errView n := by
  simp only [Dev.errView, Dev.rd_wr_ne _ _ hst, Dev.rd_wr_ne _ _ htec, Dev.rd_wr_ne _ _ hrec]

theorem Dev.errView_modCan (d : Dev) (n m : Nat) (f : CanCtl → CanCtl) : (d.modCan m f).errView n = d.errView n := rfl

theorem Dev.errView_isoSend (d : Dev) (n m id : Nat) (bs : List Nat) : (d.isoSend m id bs).errView n = d.errView n := by
  unfold Dev.isoSend
  split
  · exact Dev.errView_modCan _ _ _ _
  · rfl

theorem Dev.errView_claimStart (d : Dev) (now : Nat) (c : Fin 6) : (d.claimStart now c.val).errView c.val = d.errView c.val := by
  rw [Dev.claimStart, Dev.claim, Dev.sendClaim, Dev.errView_isoSend, Dev.errView_modCan]
  simp (disch := (clear * - c; decide +revert)) only [Dev.errView_wr, Dev.errView_modCan]

theorem Dev.errView_loadIsoTiming (d : Dev) (c : Fin 6) : (d.loadIsoTiming c.val).errView c.val = d.errView c.val := by
  rw [Dev.loadIsoTiming]
  simp (disch := (clear * - c; decide +revert)) only [Dev.errView_wr]

theorem Dev.canActive_loadIsoTiming (d : Dev) (c : Fin 6) : (d.loadIsoTiming c.val).canActive c.val = d.canActive c.val := by
  rw [Dev.loadIsoTiming]
  simp (disch := (clear * - c; decide +revert)) only [Dev.canActive_wr]

theorem Dev.listen_loadIsoTiming (d : Dev) (c : Fin 6) : (d.loadIsoTiming c.val).on (CAN.LISTEN c.val) = d.on (CAN.LISTEN c.val) := by
  rw [Dev.loadIsoTiming, Dev.on, Dev.on]
  simp (disch := (clear * - c; decide +revert)) only [Dev.rd_wr_ne]

/-- A controller that is active and sends keeps its state and counters when it settles. -/
theorem Dev.errView_canSettle {d : Dev} (now : Nat) {c : Fin 6} (was : Bool) (hact : d.canActive c.val = true)
    (hlisten : d.on (CAN.LISTEN c.val) = false) (hst : d.rd (CAN.CAN_STATE c.val) = 1) :
    (d.canSettle now c.val was).errView c.val = d.errView c.val := by
  generalize hx : (if d.rd (CAN.PROTO c.val) = 1 then d.loadIsoTiming c.val else d) = x
  have hxview : x.errView c.val = d.errView c.val := by
    rw [← hx]
    split
    · exact d.errView_loadIsoTiming c
    · rfl
  have hxact : x.canActive c.val = true := by
    rw [← hx]
    split
    · rw [d.canActive_loadIsoTiming c, hact]
    · exact hact
  have hxlisten : x.on (CAN.LISTEN c.val) = false := by
    rw [← hx]
    split
    · rw [d.listen_loadIsoTiming c, hlisten]
    · exact hlisten
  have hxst : x.rd (CAN.CAN_STATE c.val) = 1 := (congrArg Prod.fst hxview).trans hst
  have hfollow : x.canFollow c.val = x := by simp [Dev.canFollow, hxact, hxlisten, hxst]
  rw [Dev.canSettle, hx, hfollow, ← hxview]
  generalize hy : (if (!x.on (CAN.LISTEN c.val) && x.rd (CAN.ABD_STATE c.val) != 0) = true then x.wr (CAN.ABD_STATE c.val) 0 else x) = y
  have hyview : y.errView c.val = x.errView c.val := by
    rw [← hy]
    split
    · exact x.errView_wr _ _ (by clear * - c; decide +revert) (by clear * - c; decide +revert) (by clear * - c; decide +revert)
    · rfl
  split
  · rw [y.errView_claimStart now c, hyview]
  · exact hyview

theorem busOn_effect (s : State) (el : Nat) (c : Fin 6) :
    let n := c.val
    Answers (.busOn el c) s (fun _ d e => d.hif.inService = true →
      (d.rd (CAN.CAN_STATE n) ≠ 3 → e = d) ∧
      (d.rd (CAN.CAN_STATE n) = 3 → d.canActive n = true → d.on (CAN.LISTEN n) = false →
        e.rd (CAN.CAN_STATE n) = 1 ∧ e.rd (CAN.TEC n) = 0 ∧ e.rd (CAN.REC_ERR n) = 0)) := by
  refine answers_of_forall (f := fun now d => if d.hif.inService then d.busOn now c.val else d) rfl (fun now d hserves => ?_)
  rw [if_pos hserves, Dev.busOn]
  refine ⟨fun hst => if_neg hst, fun hst hact hlisten => ?_⟩
  rw [if_pos hst]
  generalize hx : ((d.wr (CAN.CAN_STATE c.val) 1).wr (CAN.TEC c.val) 0).wr (CAN.REC_ERR c.val) 0 = x
  have hview : x.errView c.val = (1, 0, 0) := by
    rw [← hx, Dev.errView]
    simp (disch := (clear * - c; decide +revert)) only [Dev.rd_wr_ne, Dev.rd_wr_self, Nat.zero_mod]
    rfl
  have hxact : x.canActive c.val = true := by
    rw [← hx]
    simp (disch := (clear * - c; decide +revert)) only [Dev.canActive_wr, hact]
  have hxlisten : x.on (CAN.LISTEN c.val) = false := by
    rw [← hx, Dev.on]
    simp (disch := (clear * - c; decide +revert)) only [Dev.rd_wr_ne]
    exact hlisten
  have hsettled := (Dev.errView_canSettle now false hxact hxlisten (congrArg Prod.fst hview)).trans hview
  simpa [Dev.errView] using hsettled

theorem busError_effect (s : State) (el : Nat) (c : Fin 6) (tec : BitVec 9) (rec : BitVec 8) :
    let n := c.val
    Answers (.busError el c tec rec) s (fun _ d e => d.alive = true → d.canActive n = true →
      d.on (CAN.LISTEN n) = false → d.rd (CAN.CAN_STATE n) ≠ 3 →
      e.rd (CAN.TEC n) = min 255 tec.toNat ∧ e.rd (CAN.REC_ERR n) = rec.toNat ∧
      (255 < tec.toNat → e.rd (CAN.CAN_STATE n) = 3 ∧ e.rd (CAN.TX_BUSY n) = 0 ∧ (e.canCtl n).mail = none) ∧
      (tec.toNat ≤ 255 → 127 < tec.toNat ∨ 127 < rec.toNat → e.rd (CAN.CAN_STATE n) = 2) ∧
      (tec.toNat ≤ 127 → rec.toNat ≤ 127 → e.rd (CAN.CAN_STATE n) = 1)) := by
  refine answers_of_forall (f := fun _ d => if d.alive then d.busError c.val tec.toNat rec.toNat else d) rfl
    (fun now d halive hact hlisten hst => ?_)
  rw [if_pos halive, Dev.busError, if_neg (by simp [hact, hlisten, hst])]
  have hrec : min 255 rec.toNat = rec.toNat := by
    have := rec.isLt
    omega
  have htecw : min 255 tec.toNat % 2 ^ (CAN.TEC c.val).width = min 255 tec.toNat := Nat.mod_eq_of_lt (by simp only [CAN.TEC]; omega)
  have hrecw : rec.toNat % 2 ^ (CAN.REC_ERR c.val).width = rec.toNat := Nat.mod_eq_of_lt rec.isLt
  rw [hrec]
  by_cases hoff : 255 < tec.toNat
  · rw [if_pos hoff]
    simp (disch := (clear * - c; decide +revert)) only [Dev.rd_modCan, Dev.rd_wr_ne, Dev.rd_wr_self, Dev.canCtl_modCan, htecw, hrecw,
      Nat.zero_mod]
    exact ⟨trivial, trivial, fun _ => ⟨rfl, trivial, trivial⟩, fun h => by omega, fun h => by omega⟩
  · rw [if_neg hoff]
    simp (disch := (clear * - c; decide +revert)) only [Dev.rd_wr_ne, Dev.rd_wr_self, htecw, hrecw]
    refine ⟨trivial, trivial, fun h => absurd h hoff, fun _ hpassive => ?_, fun h1 h2 => ?_⟩
    · rw [if_pos (by simpa using hpassive)]
      rfl
    · rw [if_neg (by simp [h1, h2])]
      rfl

theorem busLoad_effect (s : State) (el : Nat) (c : Fin 6) (pct : Fin 101) :
    let n := c.val
    Answers (.busLoad el c pct) s (fun _ d e => d.alive = true → d.canActive n = true →
      e.rd (CAN.LOAD_LAST n) = pct.val ∧ e.rd (CAN.LOAD_MAX n) = max pct.val (d.rd (CAN.LOAD_MAX n)) % 2 ^ 8 ∧
      (50 < pct.val → e.raised EVT.CAN_LOAD n = true) ∧ OnlyRegsAndEvents [CAN.LOAD_LAST n, CAN.LOAD_MAX n] d e) := by
  refine answers_of_forall (f := fun now d => if d.alive && d.canActive c.val then d.busLoad now c.val pct.val else d) rfl
    (fun now d halive hact => ?_)
  have hpct : pct.val % 2 ^ (CAN.LOAD_LAST c.val).width = pct.val := Nat.mod_eq_of_lt (by simp only [CAN.LOAD_LAST]; omega)
  rw [if_pos (by simp [halive, hact]), Dev.busLoad]
  have hframe := (OnlyRegs.wr d (CAN.LOAD_LAST c.val) pct.val (fs := [CAN.LOAD_LAST c.val, CAN.LOAD_MAX c.val]) (by simp)).thenWr
    (f := CAN.LOAD_MAX c.val) (by simp) (max pct.val (d.rd (CAN.LOAD_MAX c.val)))
  by_cases hhigh : 50 < pct.val
  · rw [if_pos hhigh]
    refine ⟨?_, ?_, fun _ => Dev.raised_fire _ _ _ _ _ (by omega) (by clear * - c; decide +revert), hframe.andQuiet (fire_quiet _ _ _ _ _)⟩
    · simp (disch := (clear * - c; decide +revert)) only [Dev.rd_fire_of, Dev.rd_wr_ne, Dev.rd_wr_self, hpct]
    · simp (disch := (clear * - c; decide +revert)) only [Dev.rd_fire_of, Dev.rd_wr_self]
      rfl
  · rw [if_neg hhigh]
    refine ⟨?_, ?_, fun h => absurd h hhigh, hframe.toOnlyRegsAndEvents⟩
    · simp (disch := (clear * - c; decide +revert)) only [Dev.rd_wr_ne, Dev.rd_wr_self, hpct]
    · exact Dev.rd_wr_self _ _ _

/-- Settles O41, command by command. -/
theorem controllersQueueAndMailbox : Obligations.ControllersQueueAndMailbox := by
  unfold Obligations.ControllersQueueAndMailbox
  exact fun s el c => ⟨fun f ago => canFrameRx_effect s el c f ago, fun k => rxAck_effect s el c k, txGo_effect s el c,
    fun acked => mailboxTxDone_effect s el c acked, busOn_effect s el c, fun tec rec => busError_effect s el c tec rec,
    fun pct => busLoad_effect s el c pct⟩

end Sys2Proof.Machine
end

section
/-! PROOFS. Bit-rate detection and the address claim (R397, R401). -/

namespace Sys2Proof.Machine

@[simp] theorem Dev.canCtl_fire (d : Dev) (n now e i v : Nat) : (d.fire now e i v).canCtl n = d.canCtl n := by
  rw [Dev.canCtl, Dev.fire_can, Dev.canCtl]

theorem OnlyRegs.thenModCan {fs : List Field} {d e : Dev} (h : OnlyRegs fs { d with can := e.can } e) (n : Nat) (f : CanCtl → CanCtl) :
    OnlyRegs fs { d with can := (e.modCan n f).can } (e.modCan n f) := by
  obtain ⟨heq, hregs⟩ := h
  refine ⟨?_, hregs⟩
  conv_lhs => rw [heq]
  rfl

/-! ### Bit-rate detection -/

/-- The fold that keeps the better of two candidates ends on a best one. -/
theorem foldl_argmin {α : Type} (w : α → Nat) (l : List α) (b : α) :
    (l.foldl (fun b k => if w k < w b then k else b) b) ∈ b :: l ∧
      ∀ k ∈ b :: l, w (l.foldl (fun b k => if w k < w b then k else b) b) ≤ w k := by
  induction l generalizing b with
  | nil => simp
  | cons x xs ih =>
    rw [List.foldl_cons]
    obtain ⟨hmem, hmin⟩ := ih (if w x < w b then x else b)
    have hbest : w (if w x < w b then x else b) ≤ w x ∧ w (if w x < w b then x else b) ≤ w b := by split <;> omega
    have hfirst := hmin _ (List.mem_cons_self ..)
    refine ⟨?_, fun k hk => ?_⟩
    · obtain h | h := List.mem_cons.mp hmem
      · rw [h]
        split <;> simp
      · simp [h]
    · obtain rfl | hk := List.mem_cons.mp hk
      · exact hfirst.trans hbest.2
      · obtain rfl | hk := List.mem_cons.mp hk
        · exact hfirst.trans hbest.1
        · exact hmin k (List.mem_cons_of_mem _ hk)

/-- The candidate of a shortest interval is one of the four, and none lies nearer (R397). -/
theorem abdNearest_best (ns : Nat) : abdNearest ns < 4 ∧
    ∀ k, k < 4 → ((abdNs (abdNearest ns) : Int) - ns).natAbs ≤ ((abdNs k : Int) - ns).natAbs := by
  obtain ⟨hmem, hmin⟩ := foldl_argmin (fun k => ((abdNs k : Int) - ns).natAbs) (List.range 4) 0
  refine ⟨?_, fun k hk => hmin k (by simp [hk])⟩
  have h : abdNearest ns ∈ 0 :: List.range 4 := hmem
  obtain h | h := List.mem_cons.mp h
  · omega
  · exact List.mem_range.mp h

theorem Dev.canFollow_of_listen {d : Dev} {n : Nat} (hact : d.canActive n = true) (hlisten : d.on (CAN.LISTEN n) = true) :
    d.canFollow n = d.wr (CAN.CAN_STATE n) 4 := by
  simp [Dev.canFollow, hact, hlisten]

/-- LISTEN and ABD_STATE stand when a controller follows its settings. -/
theorem Dev.abdRegs_canFollow (d : Dev) (c : Fin 6) :
    (d.canFollow c.val).rd (CAN.LISTEN c.val) = d.rd (CAN.LISTEN c.val) ∧
      (d.canFollow c.val).rd (CAN.ABD_STATE c.val) = d.rd (CAN.ABD_STATE c.val) := by
  rw [Dev.canFollow]
  split
  · split
    · simp (disch := (clear * - c; decide +revert)) only [Dev.rd_wr_ne, Dev.rd_modCan, and_self]
    · simp (disch := (clear * - c; decide +revert)) only [Dev.rd_wr_ne, Dev.rd_modCan, and_self]
  · split
    · simp (disch := (clear * - c; decide +revert)) only [Dev.rd_wr_ne, and_self]
    · split
      · simp (disch := (clear * - c; decide +revert)) only [Dev.rd_wr_ne, and_self]
      · exact ⟨rfl, rfl⟩

theorem abdStart_effect (s : State) (el : Nat) (c : Fin 6) :
    let n := c.val
    Answers (.abdStart el c) s (fun now d e => d.hif.inService = true →
      e.rd (CAN.LISTEN n) = 1 ∧ e.rd (CAN.ABD_STATE n) = 1 ∧ (e.canCtl n).abdFrom = now ∧ (e.canCtl n).abdGood = 0 ∧
      (e.canCtl n).abdTried = 0 ∧ (d.canActive n = true → e.rd (CAN.CAN_STATE n) = 4)) := by
  refine answers_of_forall (f := fun now d => if d.hif.inService then d.abdStart now c.val else d) rfl (fun now d hserves => ?_)
  rw [if_pos hserves, Dev.abdStart]
  generalize hx : (d.wr (CAN.LISTEN c.val) 1).wr (CAN.ABD_STATE c.val) 1 = x
  have hlisten : x.rd (CAN.LISTEN c.val) = 1 := by
    rw [← hx, Dev.rd_wr_ne _ _ (by clear * - c; decide +revert), Dev.rd_wr_self]
    rfl
  have habd : x.rd (CAN.ABD_STATE c.val) = 1 := by
    rw [← hx, Dev.rd_wr_self]
    rfl
  obtain ⟨hl, ha⟩ := x.abdRegs_canFollow c
  simp only [Dev.rd_modCan, Dev.canCtl_modCan]
  refine ⟨hl.trans hlisten, ha.trans habd, trivial, trivial, trivial, fun hact => ?_⟩
  have hxact : x.canActive c.val = true := by
    rw [← hx]
    simp (disch := (clear * - c; decide +revert)) only [Dev.canActive_wr, hact]
  rw [Dev.canFollow_of_listen hxact (by simp [Dev.on, hlisten]), Dev.rd_wr_self]
  rfl

theorem abdMeasureDone_effect (s : State) (el : Nat) (c : Fin 6) (ns : Nat) :
    let n := c.val
    Answers (.abdMeasureDone el c ns) s (fun _ d e => d.alive = true →
      (d.rd (CAN.ABD_STATE n) = 1 → d.canActive n = true → e.rd (CAN.ABD_STATE n) = 2 ∧ (e.canCtl n).abdCand < 4 ∧
        (∀ k, k < 4 → ((abdNs (e.canCtl n).abdCand : Int) - ns).natAbs ≤ ((abdNs k : Int) - ns).natAbs) ∧
        OnlyRegs [CAN.ABD_STATE n] { d with can := e.can } e) ∧
      (d.rd (CAN.ABD_STATE n) ≠ 1 ∨ d.canActive n = false → e = d)) := by
  refine answers_of_forall (f := fun _ d => if d.alive then d.abdMeasured c.val ns else d) rfl (fun now d halive => ?_)
  rw [if_pos halive, Dev.abdMeasured]
  refine ⟨fun hst hact => ?_, fun hno => if_neg (by rcases hno with h | h <;> simp [h])⟩
  rw [if_pos (by simp [hst, hact]), Dev.canCtl_modCan, Dev.rd_modCan, Dev.rd_wr_self]
  obtain ⟨hlt, hbest⟩ := abdNearest_best ns
  exact ⟨rfl, hlt, hbest, (OnlyRegs.wr d _ _ (by simp)).thenModCan _ _⟩

theorem evtPage_abd (c : Fin 6) : (evtPage EVT.CAN_ABD c.val).2 < 32 := by
  revert c
  decide

theorem Dev.abdEnd_shows (d : Dev) (now : Nat) (c : Fin 6) {st : Nat} (hst : st < 8) :
    (d.abdEnd now c.val st).rd (CAN.ABD_STATE c.val) = st ∧ (d.abdEnd now c.val st).raised EVT.CAN_ABD c.val = true ∧
      OnlyRegsAndEvents [CAN.ABD_STATE c.val] d (d.abdEnd now c.val st) := by
  rw [Dev.abdEnd]
  refine ⟨?_, Dev.raised_fire _ _ _ _ _ (by omega) (evtPage_abd c), (OnlyRegs.wr _ _ _ (by simp)).andQuiet (fire_quiet _ _ _ _ _)⟩
  rw [Dev.rd_fire_of _ _ _ _ _ (by clear * - c; decide +revert) (by clear * - c; decide +revert), Dev.rd_wr_self]
  exact Nat.mod_eq_of_lt hst

/-- What bit-rate detection writes: the candidate found and its nominal timing. -/
theorem Dev.abdWrite_shows (d : Dev) (c : Fin 6) :
    (d.abdWrite c.val).rd (CAN.ABD_NOM c.val) = ((d.canCtl c.val).abdCand + 1) % 2 ^ 4 ∧
      (d.abdWrite c.val).rd (CAN.NTSEG1 c.val) = 69 ∧ (d.abdWrite c.val).rd (CAN.NTSEG2 c.val) = 10 := by
  rw [Dev.abdWrite]
  split <;>
    simp (disch := (clear * - c; decide +revert)) only [Dev.rd_wr_ne, Dev.rd_wr_self] <;>
    exact ⟨rfl, rfl, rfl⟩

/-- A frame under a candidate: the next candidate is tried after an error, and the last failure ends detection. -/
theorem Dev.abdNextNom_shows (d : Dev) (now : Nat) (c : Fin 6) :
    ((d.canCtl c.val).abdTried < 3 → ((d.abdNextNom now c.val).canCtl c.val).abdCand = ((d.canCtl c.val).abdCand + 1) % 4 ∧
      ((d.abdNextNom now c.val).canCtl c.val).abdGood = 0 ∧
      ((d.abdNextNom now c.val).canCtl c.val).abdTried = (d.canCtl c.val).abdTried + 1 ∧
      d.abdNextNom now c.val = { d with can := (d.abdNextNom now c.val).can }) ∧
    (3 ≤ (d.canCtl c.val).abdTried → (d.abdNextNom now c.val).rd (CAN.ABD_STATE c.val) = 4 ∧
      (d.abdNextNom now c.val).raised EVT.CAN_ABD c.val = true) := by
  rw [Dev.abdNextNom]
  refine ⟨fun hfew => ?_, fun hall => ?_⟩
  · rw [if_neg (by omega), Dev.canCtl_modCan]
    exact ⟨rfl, rfl, rfl, rfl⟩
  · rw [if_pos hall]
    obtain ⟨hst, hev, -⟩ := d.abdEnd_shows now c (st := 4) (by decide)
    exact ⟨hst, hev⟩

theorem abdTryFrame_effect (s : State) (el : Nat) (c : Fin 6) (err : Fin 3) (fast : Bool) :
    let n := c.val
    Answers (.abdTryFrame el c err fast) s (fun _ d e => d.alive = true → d.canActive n = true →
      (d.rd (CAN.ABD_STATE n) ≠ 2 → e = d) ∧
      (d.rd (CAN.ABD_STATE n) = 2 →
        (err = 0 → (d.canCtl n).abdGood + 1 < max 1 (d.rd (CAN.ABD_FRAMES n)) →
          (e.canCtl n).abdGood = (d.canCtl n).abdGood + 1 ∧ e = { d with can := e.can }) ∧
        (err = 0 → max 1 (d.rd (CAN.ABD_FRAMES n)) ≤ (d.canCtl n).abdGood + 1 → e.rd (CAN.ABD_STATE n) = 3 ∧
          e.rd (CAN.ABD_NOM n) = ((d.canCtl n).abdCand + 1) % 2 ^ 4 ∧ e.rd (CAN.NTSEG1 n) = 69 ∧ e.rd (CAN.NTSEG2 n) = 10 ∧
          e.raised EVT.CAN_ABD n = true) ∧
        (err = 1 → (d.canCtl n).abdTried < 3 → (e.canCtl n).abdCand = ((d.canCtl n).abdCand + 1) % 4 ∧ (e.canCtl n).abdGood = 0 ∧
          (e.canCtl n).abdTried = (d.canCtl n).abdTried + 1 ∧ e = { d with can := e.can }) ∧
        (err = 1 → 3 ≤ (d.canCtl n).abdTried → e.rd (CAN.ABD_STATE n) = 4 ∧ e.raised EVT.CAN_ABD n = true) ∧
        (err = 2 → fast = true → (d.canCtl n).abdData < 4 → (e.canCtl n).abdData = (d.canCtl n).abdData + 1 ∧
          (e.canCtl n).abdCand = (d.canCtl n).abdCand ∧ e = { d with can := e.can }))) := by
  refine answers_of_forall (f := fun now d => if d.alive then d.abdTry now c.val err.val fast else d) rfl (fun now d halive hact => ?_)
  rw [if_pos halive, Dev.abdTry]
  refine ⟨fun hst => if_neg (by simp [hst]), fun hst => ?_⟩
  rw [if_pos (by simp [hst, hact])]
  generalize hx : d.modCan c.val (fun x => { x with abdFast := x.abdFast || fast }) = x
  have hctl : x.canCtl c.val = { d.canCtl c.val with abdFast := (d.canCtl c.val).abdFast || fast } := by rw [← hx, Dev.canCtl_modCan]
  have heq : x = { d with can := x.can } := by rw [← hx]; rfl
  have hfr : x.rd (CAN.ABD_FRAMES c.val) = d.rd (CAN.ABD_FRAMES c.val) := by rw [← hx]; rfl
  have hmod (f : CanCtl → CanCtl) : x.modCan c.val f = { d with can := (x.modCan c.val f).can } := by rw [← hx]; rfl
  obtain ⟨hnext, hfail⟩ := x.abdNextNom_shows now c
  have hnextEq : 3 ≤ (x.canCtl c.val).abdTried ∨ x.abdNextNom now c.val = { d with can := (x.abdNextNom now c.val).can } := by
    by_cases hall : 3 ≤ (x.canCtl c.val).abdTried
    · exact .inl hall
    · exact .inr (by rw [Dev.abdNextNom, if_neg hall]; exact hmod _)
  simp only [hctl] at hnext hfail hnextEq
  refine ⟨fun herr hfew => ?_, fun herr henough => ?_, fun herr htried => ?_, fun herr htried => ?_, fun herr hfast hdata => ?_⟩
  · subst herr
    simp only [Fin.val_zero, if_true, Dev.rd_modCan, hfr, Dev.canCtl_modCan, hctl, if_neg (Nat.not_le.mpr hfew)]
    exact ⟨trivial, hmod _⟩
  · subst herr
    simp only [Fin.val_zero, if_true, Dev.rd_modCan, hfr, Dev.canCtl_modCan, hctl, if_pos henough]
    obtain ⟨hend, hev, -, hframe⟩ := ((x.modCan c.val (fun y => { y with abdGood := y.abdGood + 1 })).abdWrite c.val).abdEnd_shows now c
      (st := 3) (by decide)
    obtain ⟨hnom, h1, h2⟩ := (x.modCan c.val (fun y => { y with abdGood := y.abdGood + 1 })).abdWrite_shows c
    rw [Dev.canCtl_modCan, hctl] at hnom
    have hrd {g : Field} (hlo : g.lo < 32) (hg : g.ofEvents = false) (hne : (CAN.ABD_STATE c.val).key ≠ g.key) :=
      hframe g hlo hg (by simpa using hne)
    refine ⟨hend, ?_, ?_, ?_, hev⟩
    · rw [hrd (by clear * - c; decide +revert) (by clear * - c; decide +revert) (by clear * - c; decide +revert), hnom]
    · rw [hrd (by clear * - c; decide +revert) (by clear * - c; decide +revert) (by clear * - c; decide +revert), h1]
    · rw [hrd (by clear * - c; decide +revert) (by clear * - c; decide +revert) (by clear * - c; decide +revert), h2]
  · subst herr
    obtain ⟨hcand, hgood, htr, -⟩ := hnext htried
    exact ⟨hcand, hgood, htr, hnextEq.resolve_left (by omega)⟩
  · subst herr
    exact hfail htried
  · subst herr
    simp only [hfast, hctl]
    rw [if_neg (by decide), if_pos (by decide), if_pos hdata, Dev.canCtl_modCan, hctl]
    exact ⟨rfl, rfl, hmod _⟩

theorem abdTmo_effect (s : State) (el : Nat) (c : Fin 6) :
    let n := c.val
    Answers (.abdTmo el c) s (fun now d e => d.alive = true →
      (d.rd (CAN.ABD_STATE n) = 1 ∨ d.rd (CAN.ABD_STATE n) = 2 → (d.canCtl n).abdFrom + ms (d.rd (CAN.ABD_TMO n)) ≤ now →
        e.rd (CAN.ABD_STATE n) = 4 ∧ e.raised EVT.CAN_ABD n = true ∧ OnlyRegsAndEvents [CAN.ABD_STATE n] d e) ∧
      (now < (d.canCtl n).abdFrom + ms (d.rd (CAN.ABD_TMO n)) → e = d)) := by
  refine answers_of_forall (f := fun now d => if d.alive then d.abdTimeout now c.val else d) rfl (fun now d halive => ?_)
  rw [if_pos halive, Dev.abdTimeout]
  refine ⟨fun hst hdue => ?_, fun hearly => if_neg ?_⟩
  · rw [if_pos (by simpa [hdue] using hst)]
    exact d.abdEnd_shows now c (by decide)
  · simp [Nat.not_le.mpr hearly]

/-! ### The address claim -/

/-- The Address Claimed or Cannot Claim message of `sa` is all that controller `n` sends, where it may. -/
def ClaimSent (n : Nat) (d e : Dev) (sa : Nat) : Prop :=
  (d.isoTx n = true → (e.canCtl n).tx = (d.canCtl n).tx ++ [{ id := 0x18EEFF00 + sa, ide := true, data := bytesLE 8 (d.isoName n) }] ∧
    e = { d with can := e.can }) ∧
  (d.isoTx n = false → e = d)

theorem Dev.sendClaim_sends (d : Dev) (n sa : Nat) : ClaimSent n d (d.sendClaim n sa) sa := by
  rw [ClaimSent, Dev.sendClaim, Dev.isoSend]
  refine ⟨fun htx => ?_, fun htx => if_neg (by simp [htx])⟩
  rw [if_pos htx, Dev.canSend, Dev.canCtl_modCan]
  exact ⟨rfl, rfl⟩

/-- Sending a claim appends to what the controller sends and changes nothing else. -/
theorem Dev.sendClaim_frame (d : Dev) (n sa : Nat) : d.sendClaim n sa = { d with can := (d.sendClaim n sa).can } ∧
    ((d.sendClaim n sa).canCtl n) = { d.canCtl n with tx := ((d.sendClaim n sa).canCtl n).tx } := by
  rw [Dev.sendClaim, Dev.isoSend]
  split
  · rw [Dev.canSend, Dev.canCtl_modCan]
    exact ⟨rfl, rfl⟩
  · exact ⟨rfl, rfl⟩

theorem Dev.rd_sendClaim (d : Dev) (n sa : Nat) (f : Field) : (d.sendClaim n sa).rd f = d.rd f :=
  (congrArg (Dev.rd · f) (d.sendClaim_frame n sa).1 :)

theorem addressClaimTimeout_effect (s : State) (el : Nat) (c : Fin 2) :
    let n := c.val
    Answers (.addressClaimTimeout el c) s (fun now d e => d.alive = true → ∀ t, (d.canCtl n).claimFrom = some t →
      (now < t + ms 250 → e = d) ∧
      (t + ms 250 ≤ now → d.isoTx n = true → e.rd (ISO.SA_ACT n) = (d.canCtl n).claimSa % 2 ^ 8 ∧ e.rd (ISO.CLAIMED n) = 1 ∧
        (e.canCtl n).claimFrom = none ∧ OnlyRegs [ISO.SA_ACT n, ISO.CLAIMED n] { d with can := e.can } e)) := by
  refine answers_of_forall (f := fun now d => if d.alive then d.claimDone now c.val else d) rfl (fun now d halive t ht => ?_)
  rw [if_pos halive, Dev.claimDone]
  simp only [ht]
  refine ⟨fun hearly => if_neg (by simp [Nat.not_le.mpr hearly]), fun hdue htx => ?_⟩
  rw [if_pos (by simp [hdue, htx]), Dev.canCtl_wr, Dev.canCtl_wr, Dev.canCtl_modCan]
  have hfirst := (OnlyRegs.refl [ISO.SA_ACT c.val, ISO.CLAIMED c.val] d).thenModCan c.val (fun x => { x with claimFrom := none })
  refine ⟨?_, ?_, rfl, (hfirst.thenWr (by simp) _).thenWr (by simp) _⟩
  · rw [Dev.rd_wr_ne _ _ (by clear * - c; decide +revert), Dev.rd_wr_self]
    rfl
  · rw [Dev.rd_wr_self]
    rfl

/-- A free address is one of 128 to 247, and not the one lost. -/
theorem Dev.freeAddr_spec {d : Dev} {n sa a : Nat} (h : d.freeAddr n sa = some a) : 128 ≤ a ∧ a ≤ 247 ∧ a ≠ sa := by
  rw [Dev.freeAddr] at h
  have hmem := List.mem_of_find?_eq_some h
  have hfree := List.find?_some h
  simp only [List.mem_append, List.mem_filter, List.mem_map, List.mem_range] at hmem
  refine ⟨?_, ?_, ?_⟩
  · obtain ⟨⟨k, hk, rfl⟩, -⟩ | ⟨k, hk, rfl⟩ := hmem <;> omega
  · obtain ⟨⟨k, hk, rfl⟩, -⟩ | ⟨k, hk, rfl⟩ := hmem <;> omega
  · simp only [Bool.and_eq_true, bne_iff_ne] at hfree
    exact hfree.1

/-- Where at most one address is taken, one is free. -/
theorem Dev.freeAddr_isSome {d : Dev} {n sa : Nat} {l : List (Nat × Nat)} (htaken : (d.canCtl n).taken = l) (hone : ∀ x ∈ l, x.1 = sa) :
    ∃ a, d.freeAddr n sa = some a := by
  rw [← Option.isSome_iff_exists, Dev.freeAddr, List.find?_isSome]
  refine ⟨if sa = 128 then 129 else 128, List.mem_append_right _ ?_, ?_⟩
  · rw [List.mem_map]
    split
    · exact ⟨1, by simp⟩
    · exact ⟨0, by simp⟩
  · have hne : (if sa = 128 then 129 else 128) ≠ sa := by split <;> omega
    simp only [htaken, Bool.and_eq_true, bne_iff_ne, Bool.not_eq_true', List.any_eq_false, beq_iff_eq]
    exact ⟨hne, fun x hx h => hne (h.symm.trans (hone x hx))⟩

/-- The address another NAME claims is noted as taken. -/
def Dev.noteTaken (d : Dev) (n sa name : Nat) : Dev :=
  d.modCan n (fun c => { c with taken := (c.taken.filter (fun x => x.1 != sa && x.2 != name)) ++ (if sa < 254 then [(sa, name)] else []) })

theorem Dev.claimedRx_eq (d : Dev) (now n sa name : Nat) : d.claimedRx now n sa name =
    if (d.claims n && (d.canCtl n).claimSa == sa) && decide (d.isoName n < name) then d.sendClaim n sa
    else if d.claims n && (d.canCtl n).claimSa == sa then (d.noteTaken n sa name).claimLost now n sa else d.noteTaken n sa name := rfl

/-- No address is left: the controller cannot claim (R401). -/
theorem Dev.claimLost_gives_up (d : Dev) (now : Nat) (c : Fin 2) (sa : Nat)
    (hno : (if bitOf (d.isoName c.val) 63 then d.freeAddr c.val sa else none) = none) :
    let e := d.claimLost now c.val sa
    e.rd (ISO.CLAIMED c.val) = 0 ∧ e.rd (ISO.SA_ACT c.val) = 254 ∧ e.rd (ISO.CANNOT_CLAIM c.val) = 1 ∧
      (e.canCtl c.val).claimFrom = none ∧ e.raised EVT.CAN_ADDR c.val = true := by
  rw [Dev.claimLost]
  simp only [hno]
  refine ⟨?_, ?_, ?_, ?_, Dev.raised_fire _ _ _ _ _ (by omega) (by clear * - c; decide +revert)⟩
  · simp (disch := (clear * - c; decide +revert)) only [Dev.rd_fire_of, Dev.rd_sendClaim, Dev.rd_wr_ne, Dev.rd_wr_self, Nat.zero_mod]
  · simp (disch := (clear * - c; decide +revert)) only [Dev.rd_fire_of, Dev.rd_sendClaim, Dev.rd_wr_ne, Dev.rd_wr_self]
    rfl
  · simp (disch := (clear * - c; decide +revert)) only [Dev.rd_fire_of, Dev.rd_sendClaim, Dev.rd_wr_self]
    rfl
  · rw [Dev.canCtl_fire, (Dev.sendClaim_frame _ _ _).2]
    simp only [Dev.canCtl_wr, Dev.canCtl_modCan]

/-- A new address is claimed in place of the one lost (R401). -/
theorem Dev.claimLost_claims_other (d : Dev) (now : Nat) (c : Fin 2) (sa : Nat) {a : Nat}
    (hnext : (if bitOf (d.isoName c.val) 63 then d.freeAddr c.val sa else none) = some a) :
    let e := d.claimLost now c.val sa
    e.rd (ISO.CLAIMED c.val) = 0 ∧ e.rd (ISO.SA_ACT c.val) = 254 ∧ e.rd (ISO.CANNOT_CLAIM c.val) = 0 ∧
      (e.canCtl c.val).claimFrom = some now ∧ (e.canCtl c.val).claimSa = a := by
  rw [Dev.claimLost]
  simp only [hnext]
  rw [Dev.claim, (Dev.sendClaim_frame _ _ _).2, Dev.canCtl_modCan]
  refine ⟨?_, ?_, ?_, rfl, rfl⟩
  · simp (disch := (clear * - c; decide +revert)) only [Dev.rd_sendClaim, Dev.rd_modCan, Dev.rd_wr_ne, Dev.rd_wr_self, Nat.zero_mod]
  · simp (disch := (clear * - c; decide +revert)) only [Dev.rd_sendClaim, Dev.rd_modCan, Dev.rd_wr_ne, Dev.rd_wr_self]
    rfl
  · simp (disch := (clear * - c; decide +revert)) only [Dev.rd_sendClaim, Dev.rd_modCan, Dev.rd_wr_self, Nat.zero_mod]

theorem addressClaimedRx_effect (s : State) (el : Nat) (c : Fin 2) (sa : BitVec 8) (name : BitVec 64) :
    let n := c.val
    Answers (.addressClaimedRx el c sa name) s (fun now d e => d.isoRx n = true →
      ((d.claims n = false ∨ (d.canCtl n).claimSa ≠ sa.toNat) → e = { d with can := e.can } ∧
        (sa.toNat < 254 → (sa.toNat, name.toNat) ∈ (e.canCtl n).taken)) ∧
      (d.claims n = true → (d.canCtl n).claimSa = sa.toNat → d.isoName n < name.toNat → ClaimSent n d e sa.toNat) ∧
      (d.claims n = true → (d.canCtl n).claimSa = sa.toNat → name.toNat ≤ d.isoName n →
        e.rd (ISO.CLAIMED n) = 0 ∧ e.rd (ISO.SA_ACT n) = 254 ∧
        (bitOf (d.isoName n) 63 = false → e.rd (ISO.CANNOT_CLAIM n) = 1 ∧ (e.canCtl n).claimFrom = none ∧
          e.raised EVT.CAN_ADDR n = true) ∧
        (bitOf (d.isoName n) 63 = true → (d.canCtl n).taken = [] → e.rd (ISO.CANNOT_CLAIM n) = 0 ∧
          (e.canCtl n).claimFrom = some now ∧ 128 ≤ (e.canCtl n).claimSa ∧ (e.canCtl n).claimSa ≤ 247 ∧
          (e.canCtl n).claimSa ≠ sa.toNat))) := by
  refine answers_of_forall (f := fun now d => if d.isoRx c.val then d.claimedRx now c.val sa.toNat name.toNat else d) rfl
    (fun now d hrx => ?_)
  rw [if_pos hrx, Dev.claimedRx_eq]
  refine ⟨fun hother => ?_, fun hclaims hmine hlater => ?_, fun hclaims hmine hearlier => ?_⟩
  · have hno : (d.claims c.val && (d.canCtl c.val).claimSa == sa.toNat) = false := by rcases hother with h | h <;> simp [h]
    simp only [hno, Bool.false_and, Bool.false_eq_true, if_false]
    refine ⟨rfl, fun hsa => ?_⟩
    rw [Dev.noteTaken, Dev.canCtl_modCan]
    simp [hsa]
  · rw [if_pos (by simp [hclaims, hmine, hlater])]
    exact d.sendClaim_sends _ _
  · rw [if_neg (by simp [Nat.not_lt.mpr hearlier]), if_pos (by simp [hclaims, hmine])]
    have hname : (d.noteTaken c.val sa.toNat name.toNat).isoName c.val = d.isoName c.val := rfl
    cases hnext : (if bitOf ((d.noteTaken c.val sa.toNat name.toNat).isoName c.val) 63 then
        (d.noteTaken c.val sa.toNat name.toNat).freeAddr c.val sa.toNat else none) with
    | none =>
      obtain ⟨hcl, hsaAct, hcannot, hfrom, hev⟩ := (d.noteTaken c.val sa.toNat name.toNat).claimLost_gives_up now c sa.toNat hnext
      refine ⟨hcl, hsaAct, fun _ => ⟨hcannot, hfrom, hev⟩, fun hself hnone => ?_⟩
      rw [hname, if_pos hself] at hnext
      obtain ⟨a, ha⟩ := Dev.freeAddr_isSome (d := d.noteTaken c.val sa.toNat name.toNat) (n := c.val) (sa := sa.toNat) rfl (by
        rw [Dev.noteTaken, Dev.canCtl_modCan, hnone]
        intro x hx
        split at hx <;> simp at hx
        rw [hx])
      rw [hnext] at ha
      cases ha
    | some a =>
      obtain ⟨hcl, hsaAct, hcannot, hfrom, hnew⟩ := (d.noteTaken c.val sa.toNat name.toNat).claimLost_claims_other now c sa.toNat hnext
      refine ⟨hcl, hsaAct, fun hself => ?_, fun hself _ => ⟨hcannot, hfrom, ?_⟩⟩
      · rw [hname, hself] at hnext
        cases hnext
      · rw [hname, if_pos hself] at hnext
        rw [hnew]
        exact Dev.freeAddr_spec hnext

theorem requestForAddressClaimed_effect (s : State) (el : Nat) (c : Fin 2) :
    let n := c.val
    Answers (.requestForAddressClaimed el c) s (fun _ d e => d.isoRx n = true →
      (d.claims n = true → ClaimSent n d e (d.canCtl n).claimSa) ∧
      (d.claims n = false → d.on (ISO.CANNOT_CLAIM n) = true → ClaimSent n d e 254) ∧
      (d.claims n = false → d.on (ISO.CANNOT_CLAIM n) = false → e = d)) := by
  refine answers_of_forall (f := fun _ d => if d.isoRx c.val then d.claimRequest c.val else d) rfl (fun now d hrx => ?_)
  rw [if_pos hrx, Dev.claimRequest]
  refine ⟨fun hclaims => ?_, fun hclaims hcannot => ?_, fun hclaims hcannot => ?_⟩
  · rw [if_pos hclaims]
    exact d.sendClaim_sends _ _
  · rw [if_neg (by simp [hclaims]), if_pos hcannot]
    exact d.sendClaim_sends _ _
  · rw [if_neg (by simp [hclaims]), if_neg (by simp [hcannot])]

/-- Settles O42, command by command. -/
theorem bitRateDetectionAndAddressClaim : Obligations.BitRateDetectionAndAddressClaim := by
  unfold Obligations.BitRateDetectionAndAddressClaim
  refine fun s el => ⟨fun c => ⟨abdStart_effect s el c, fun ns => abdMeasureDone_effect s el c ns,
    fun err fast => abdTryFrame_effect s el c err fast, abdTmo_effect s el c⟩, fun c => ⟨addressClaimTimeout_effect s el c,
    fun sa name => addressClaimedRx_effect s el c sa name, requestForAddressClaimed_effect s el c⟩⟩

end Sys2Proof.Machine
end

section
/-! PROOFS. Transport-protocol sessions (R402). -/

namespace Sys2Proof.Machine

theorem Dev.isoSend_frame (d : Dev) (n id : Nat) (bs : List Nat) : d.isoSend n id bs = { d with can := (d.isoSend n id bs).can } ∧
    (d.isoSend n id bs).canCtl n = { d.canCtl n with tx := ((d.isoSend n id bs).canCtl n).tx } := by
  rw [Dev.isoSend]
  split
  · rw [Dev.canSend, Dev.canCtl_modCan]
    exact ⟨rfl, rfl⟩
  · exact ⟨rfl, rfl⟩

@[simp] theorem Dev.rd_isoSend (d : Dev) (n id : Nat) (bs : List Nat) (f : Field) : (d.isoSend n id bs).rd f = d.rd f :=
  (congrArg (Dev.rd · f) (d.isoSend_frame n id bs).1 :)

@[simp] theorem Dev.mem_isoSend (d : Dev) (n id : Nat) (bs : List Nat) : (d.isoSend n id bs).mem = d.mem :=
  (congrArg Dev.mem (d.isoSend_frame n id bs).1 :)

@[simp] theorem Dev.tpRx_isoSend (d : Dev) (n id : Nat) (bs : List Nat) : ((d.isoSend n id bs).canCtl n).tpRx = (d.canCtl n).tpRx :=
  (congrArg CanCtl.tpRx (d.isoSend_frame n id bs).2 :)

@[simp] theorem Dev.tpTx_isoSend (d : Dev) (n id : Nat) (bs : List Nat) : ((d.isoSend n id bs).canCtl n).tpTx = (d.canCtl n).tpTx :=
  (congrArg CanCtl.tpTx (d.isoSend_frame n id bs).2 :)

@[simp] theorem Dev.isoTx_modCan (d : Dev) (n m : Nat) (f : CanCtl → CanCtl) : (d.modCan n f).isoTx m = d.isoTx m := rfl

@[simp] theorem Dev.isoTx_isoSend (d : Dev) (n m id : Nat) (bs : List Nat) : (d.isoSend n id bs).isoTx m = d.isoTx m :=
  (congrArg (Dev.isoTx · m) (d.isoSend_frame n id bs).1 :)

/-- A controller that may send appends the frame. -/
theorem Dev.tx_isoSend {d : Dev} {n : Nat} (id : Nat) (bs : List Nat) (htx : d.isoTx n = true) :
    ((d.isoSend n id bs).canCtl n).tx = (d.canCtl n).tx ++ [{ id := id, ide := true, data := bs }] := by
  rw [Dev.isoSend, if_pos htx, Dev.canSend, Dev.canCtl_modCan]

theorem OnlyRegs.thenIsoSend {fs : List Field} {d e : Dev} (h : OnlyRegs fs { d with can := e.can } e) (n id : Nat) (bs : List Nat) :
    OnlyRegs fs { d with can := (e.isoSend n id bs).can } (e.isoSend n id bs) := by
  rw [Dev.isoSend]
  split
  · exact h.thenModCan _ _
  · exact h

/-- `e` differs from `d` in the controllers only. -/
def OnlyCan (d e : Dev) : Prop := e = { d with can := e.can }

theorem OnlyCan.refl (d : Dev) : OnlyCan d d := rfl

theorem OnlyCan.thenModCan {d e : Dev} (h : OnlyCan d e) (n : Nat) (f : CanCtl → CanCtl) : OnlyCan d (e.modCan n f) := by
  unfold OnlyCan at h ⊢
  conv_lhs => rw [h]
  rfl

theorem OnlyCan.thenIsoSend {d e : Dev} (h : OnlyCan d e) (n id : Nat) (bs : List Nat) : OnlyCan d (e.isoSend n id bs) := by
  rw [Dev.isoSend]
  split
  · exact h.thenModCan _ _
  · exact h

theorem OnlyCan.rd {d e : Dev} (h : OnlyCan d e) (f : Field) : e.rd f = d.rd f := (congrArg (Dev.rd · f) h :)

/-! ### A session received -/

theorem Dev.tpCts_onlyCan (d : Dev) (n : Nat) (x : TpSess) : OnlyCan d (d.tpCts n x) := by
  rw [Dev.tpCts]
  split
  · exact ((OnlyCan.refl d).thenModCan _ _).thenIsoSend _ _ _
  · exact ((OnlyCan.refl d).thenModCan _ _).thenIsoSend _ _ _

theorem Dev.tpRx_tpCts (d : Dev) (n : Nat) (x : TpSess) : ((d.tpCts n x).canCtl n).tpRx =
    some { x with burst := min (max 1 (d.rd (ISO.TP_CTS_PKTS n))) (tpPackets x.len - x.data.length / 7) } := by
  rw [Dev.tpCts]
  split <;> simp [Dev.tpCm]

theorem tpRts_effect (s : State) (el : Nat) (c : Fin 2) (sa : BitVec 8) (etp : Bool) (pgn : BitVec 18) (len : Word) :
    let n := c.val
    Answers (.tpRts el c sa etp pgn len) s (fun _ d e =>
      d.isoRx n = true → d.on (ISO.CLAIMED n) = true →
      (d.tpRxBusy n = true ∨ 65536 < len.toNat → e.rd (ISO.TP_REFUSED n) = counted d (ISO.TP_REFUSED n) ∧
        (e.canCtl n).tpRx = (d.canCtl n).tpRx ∧ OnlyRegs [ISO.TP_REFUSED n] { d with can := e.can } e) ∧
      (d.tpRxBusy n = false → len.toNat ≤ 65536 → e = { d with can := e.can } ∧
        (e.canCtl n).tpRx = some { etp := etp, pgn := pgn.toNat, addr := sa.toNat, len := len.toNat, burst := min (max 1 (d.rd (ISO.TP_CTS_PKTS n))) (tpPackets len.toNat) })) := by
  refine answers_of_forall (f := fun _ d => if d.isoRx c.val && d.on (ISO.CLAIMED c.val) then
    d.tpRts c.val sa.toNat etp pgn.toNat len.toNat else d) rfl (fun now d hrx hclaimed => ?_)
  rw [if_pos (by simp [hrx, hclaimed]), Dev.tpRts]
  refine ⟨fun hrefused => ?_, fun hfree hfits => ?_⟩
  · rw [if_pos (by simpa using hrefused), Dev.tpCm]
    refine ⟨?_, Dev.tpRx_isoSend _ _ _ _, OnlyRegs.thenIsoSend (OnlyRegs.thenBump (OnlyRegs.refl _ d) (by simp)) _ _ _⟩
    rw [Dev.rd_isoSend]
    exact Dev.rd_bump_self _ _
  · rw [if_neg (by simp [hfree, hfits])]
    exact ⟨d.tpCts_onlyCan _ _, by simp [Dev.tpRx_tpCts]⟩

theorem tpBam_effect (s : State) (el : Nat) (c : Fin 2) (sa : BitVec 8) (pgn : BitVec 18) (len : BitVec 16) :
    let n := c.val
    Answers (.tpBam el c sa pgn len) s (fun _ d e => d.isoRx n = true →
      (d.tpRxBusy n = true → e.rd (ISO.TP_REFUSED n) = counted d (ISO.TP_REFUSED n) ∧ OnlyRegs [ISO.TP_REFUSED n] d e) ∧
      (d.tpRxBusy n = false → e = d.modCan n (fun x => { x with tpRx := some { bam := true, pgn := pgn.toNat, addr := sa.toNat, len := len.toNat } }))) := by
  refine answers_of_forall (f := fun _ d => if d.isoRx c.val then d.tpBam c.val sa.toNat pgn.toNat len.toNat else d) rfl (fun now d hrx => ?_)
  rw [if_pos hrx, Dev.tpBam]
  refine ⟨fun hbusy => ?_, fun hfree => ?_⟩
  · rw [if_pos (by simp [hbusy])]
    exact d.bump_shows _
  · have := len.isLt
    rw [if_neg (by simp [hfree]; omega)]

/-- The whole message is in the buffer, and the software is told (R402). -/
theorem Dev.tpDone_bam (d : Dev) (now : Nat) (c : Fin 2) {x : TpSess} (hbam : x.bam = true) {data : List Nat} (hlen : data.length = x.len)
    (hbytes : ∀ y ∈ data, y < 256) :
    let e := d.tpDone now c.val x data
    (e.canCtl c.val).tpRx = none ∧ memGetBytes e.mem (tpBuf c.val) x.len = data ∧
      (∀ a, a < tpBuf c.val ∨ tpBuf c.val + x.len ≤ a → memGet e.mem a = memGet d.mem a) ∧
      e.rd (ISO.TP_RX_LEN c.val) = x.len % 2 ^ 17 ∧ e.rd (ISO.TP_RX_PGN c.val) = x.pgn % 2 ^ 18 ∧ e.rd (ISO.TP_RX_SA c.val) = x.addr % 2 ^ 8 ∧
      e.rd (ISO.TP_RX_FULL c.val) = 1 ∧ e.raised EVT.CAN_TP_RX c.val = true := by
  rw [Dev.tpDone]
  simp only [if_pos hbam]
  refine ⟨?_, ?_, fun a ha => ?_, ?_, ?_, ?_, ?_, Dev.raised_fire _ _ _ _ _ (by omega) (by clear * - c; decide +revert)⟩
  · simp only [Dev.canCtl_fire, Dev.canCtl_wr, Dev.canCtl_modCan]
  · rw [Dev.fire_mem, ← hlen]
    exact memGetBytes_memSetBytes d.mem _ hbytes
  · rw [Dev.fire_mem]
    exact memGet_memSetBytes_out d.mem _ _ _ (by rwa [hlen])
  · simp (disch := (clear * - c; decide +revert)) only [Dev.rd_fire_of, Dev.rd_wr_ne, Dev.rd_wr_self]
    rfl
  · simp (disch := (clear * - c; decide +revert)) only [Dev.rd_fire_of, Dev.rd_wr_ne, Dev.rd_wr_self]
    rfl
  · simp (disch := (clear * - c; decide +revert)) only [Dev.rd_fire_of, Dev.rd_wr_ne, Dev.rd_wr_self]
    rfl
  · simp (disch := (clear * - c; decide +revert)) only [Dev.rd_fire_of, Dev.rd_wr_self]
    rfl

theorem natBytes_lt (l : List Byte) : ∀ y ∈ natBytes l, y < 256 := by
  intro y hy
  obtain ⟨b, -, rfl⟩ := List.mem_map.mp hy
  exact b.isLt

/-- A data packet of a broadcast session from its sender (R402). -/
theorem Dev.tpData_bam {d : Dev} (now n : Nat) {sa seq : Nat} {data : List Byte} {x : TpSess} (hrx : (d.canCtl n).tpRx = some x)
    (haddr : x.addr = sa) (hbam : x.bam = true) (hetp : x.etp = false) : d.tpData now n sa seq (natBytes data) =
      if seq ≠ x.data.length / 7 + 1 then d.modCan n (fun c => { c with tpRx := none })
      else if x.len ≤ (x.data ++ (natBytes data).take 7).length then
        d.tpDone now n x ((x.data ++ (natBytes data).take 7).take x.len)
      else d.modCan n (fun c => { c with tpRx := some { x with data := x.data ++ (natBytes data).take 7, burst := x.burst - 1 } }) := by
  have hmod : ((natBytes data).take 7).map (· % 256) = (natBytes data).take 7 :=
    (List.map_congr_left (fun y hy => Nat.mod_eq_of_lt (natBytes_lt data y (List.mem_of_mem_take hy)))).trans (List.map_id' _)
  rw [Dev.tpData, hrx]
  simp only [haddr, bne_self_eq_false, Bool.false_eq_true, if_false, hetp, hbam, hmod, if_true, Bool.not_true, Bool.and_false, bne_iff_ne,
    ne_eq, ite_not]

theorem tpDataTransfer_effect (s : State) (el : Nat) (c : Fin 2) (sa seq : BitVec 8) (data : List Byte) :
    let n := c.val
    Answers (.tpDataTransfer el c sa seq data) s (fun _ d e => d.isoRx n = true →
      ((d.canCtl n).tpRx = none → e = d) ∧
      (∀ x, (d.canCtl n).tpRx = some x →
        (x.addr ≠ sa.toNat → e = d) ∧
        (x.addr = sa.toNat → x.bam = true → x.etp = false →
          let all := x.data ++ (natBytes data).take 7
          (seq.toNat ≠ x.data.length / 7 + 1 → (e.canCtl n).tpRx = none ∧ e = { d with can := e.can }) ∧
          (seq.toNat = x.data.length / 7 + 1 → all.length < x.len → e = { d with can := e.can } ∧
            (e.canCtl n).tpRx = some { x with data := all, burst := x.burst - 1 }) ∧
          (seq.toNat = x.data.length / 7 + 1 → x.len ≤ all.length → (∀ y ∈ x.data, y < 256) →
            (e.canCtl n).tpRx = none ∧ memGetBytes e.mem (tpBuf n) x.len = all.take x.len ∧
            (∀ a, a < tpBuf n ∨ tpBuf n + x.len ≤ a → memGet e.mem a = memGet d.mem a) ∧
            e.rd (ISO.TP_RX_LEN n) = x.len % 2 ^ 17 ∧ e.rd (ISO.TP_RX_PGN n) = x.pgn % 2 ^ 18 ∧ e.rd (ISO.TP_RX_SA n) = x.addr % 2 ^ 8 ∧
            e.rd (ISO.TP_RX_FULL n) = 1 ∧ e.raised EVT.CAN_TP_RX n = true)))) := by
  refine answers_of_forall (f := fun now d => if d.isoRx c.val then d.tpData now c.val sa.toNat seq.toNat (natBytes data) else d) rfl
    (fun now d hrx => ?_)
  rw [if_pos hrx]
  refine ⟨fun hnone => by rw [Dev.tpData, hnone], fun x hx => ⟨fun hother => ?_, fun haddr hbam hetp => ?_⟩⟩
  · rw [Dev.tpData, hx]
    simp only [bne_iff_ne, ne_eq, hother, not_false_eq_true, if_true]
  · rw [Dev.tpData_bam now c.val hx haddr hbam hetp]
    refine ⟨fun hseq => ?_, fun hseq hshort => ?_, fun hseq hfull hbytes => ?_⟩
    · rw [if_pos hseq, Dev.canCtl_modCan]
      exact ⟨rfl, rfl⟩
    · rw [if_neg (by simp [hseq]), if_neg (by omega), Dev.canCtl_modCan]
      exact ⟨rfl, rfl⟩
    · rw [if_neg (by simp [hseq]), if_pos hfull]
      refine d.tpDone_bam now c hbam (by rw [List.length_take]; omega) (fun y hy => ?_)
      obtain hy | hy := List.mem_append.mp (List.mem_of_mem_take hy)
      · exact hbytes y hy
      · exact natBytes_lt data y (List.mem_of_mem_take hy)

theorem tpRxAck_effect (s : State) (el : Nat) (c : Fin 2) :
    let n := c.val
    Answers (.tpRxAck el c) s (fun _ d e => d.hif.inService = true →
      e.rd (ISO.TP_RX_FULL n) = 0 ∧ OnlyRegs [ISO.TP_RX_FULL n] d e) := by
  refine answers_of_forall (f := fun _ d => if d.hif.inService then d.tpRxAck c.val else d) rfl (fun now d hserves => ?_)
  rw [if_pos hserves, Dev.tpRxAck]
  exact ⟨by rw [Dev.rd_wr_self, Nat.zero_mod], OnlyRegs.wr _ _ _ (by simp)⟩

/-! ### A message sent -/

/-- The packets of a message all go, where the controller may send. -/
theorem Dev.tpSendData_sends {d : Dev} {n : Nat} (x : TpSess) (from_ k base : Nat) (htx : d.isoTx n = true) :
    ((d.tpSendData n x from_ k base).canCtl n).tx.length = (d.canCtl n).tx.length + k ∧
      ((d.tpSendData n x from_ k base).canCtl n).tpTx = (d.canCtl n).tpTx ∧ OnlyCan d (d.tpSendData n x from_ k base) := by
  induction k with
  | zero => exact ⟨rfl, rfl, rfl⟩
  | succ k ih =>
    obtain ⟨hlen, htp, honly⟩ := ih
    have hstep : d.tpSendData n x from_ (k + 1) base = (d.tpSendData n x from_ k base).isoSend n
        ((if x.etp then 0x1CC70000 else 0x1CEB0000) + 256 * x.addr + (d.tpSendData n x from_ k base).isoSa n)
        ((base + k + 1) % 256 :: tpPacket x.data (from_ + k)) := by
      simp only [Dev.tpSendData, Dev.each, List.range_succ, List.foldl_append, List.foldl_cons, List.foldl_nil]
    have hstill : (d.tpSendData n x from_ k base).isoTx n = true := by rw [show _ = d.isoTx n from (congrArg (Dev.isoTx · n) honly :), htx]
    rw [hstep, Dev.tx_isoSend _ _ hstill, Dev.tpTx_isoSend]
    exact ⟨by rw [List.length_append, hlen, List.length_singleton]; omega, htp, honly.thenIsoSend _ _ _⟩

theorem Dev.tpTxEnd_shows (d : Dev) (c : Fin 2) {r : Nat} (hr : r < 4) :
    (d.tpTxEnd c.val r).rd (ISO.TP_TX_RES c.val) = r ∧ (d.tpTxEnd c.val r).rd (ISO.TP_TX_BUSY c.val) = 0 ∧
      ((d.tpTxEnd c.val r).canCtl c.val) = { d.canCtl c.val with tpTx := none } ∧
      OnlyRegs [ISO.TP_TX_BUSY c.val, ISO.TP_TX_RES c.val] { d with can := (d.tpTxEnd c.val r).can } (d.tpTxEnd c.val r) := by
  rw [Dev.tpTxEnd, Dev.canCtl_wr, Dev.canCtl_wr, Dev.canCtl_modCan]
  refine ⟨?_, ?_, rfl, ?_⟩
  · rw [Dev.rd_wr_self]
    exact Nat.mod_eq_of_lt hr
  · rw [Dev.rd_wr_ne _ _ (by clear * - c; decide +revert), Dev.rd_wr_self, Nat.zero_mod]
  · exact ((OnlyRegs.thenModCan (OnlyRegs.refl _ d) _ _).thenWr (by simp) _).thenWr (by simp) _

/-- The session of the message in the transmit buffer. -/
def Dev.txSession (d : Dev) (n : Nat) : TpSess :=
  { pgn := d.rd (ISO.TP_TX_PGN n)
    addr := d.rd (ISO.TP_TX_DA n)
    len := d.rd (ISO.TP_TX_LEN n)
    data := memGetBytes d.mem (tpBuf n + 0x10000) (d.rd (ISO.TP_TX_LEN n))
    etp := decide (1785 < d.rd (ISO.TP_TX_LEN n)) }

theorem tpTxGo_effect (s : State) (el : Nat) (c : Fin 2) :
    let n := c.val
    Answers (.tpTxGo el c) s (fun _ d e => d.hif.inService = true →
      let len := d.rd (ISO.TP_TX_LEN n)
      let go := d.on (ISO.TP_TX_BUSY n) = false ∧ d.isoTx n = true ∧ d.on (ISO.CLAIMED n) = true
      (d.on (ISO.TP_TX_BUSY n) = true → e = d) ∧
      (d.on (ISO.TP_TX_BUSY n) = false →
        d.isoTx n = false ∨ d.on (ISO.CLAIMED n) = false ∨ len = 0 ∨ 65536 < len ∨ (d.rd (ISO.TP_TX_DA n) = 255 ∧ 1785 < len) →
        e.rd (ISO.TP_TX_RES n) = 2 ∧ OnlyRegs [ISO.TP_TX_RES n] d e) ∧
      (go → 0 < len → len ≤ 8 → e.rd (ISO.TP_TX_RES n) = 1 ∧ e.rd (ISO.TP_TX_BUSY n) = 0 ∧
        ∃ f, (e.canCtl n).tx = (d.canCtl n).tx ++ [f] ∧ f.ide = true ∧ f.data = memGetBytes d.mem (tpBuf n + 0x10000) len) ∧
      (go → 8 < len → len ≤ 1785 → d.rd (ISO.TP_TX_DA n) = 255 → e.rd (ISO.TP_TX_RES n) = 1 ∧ e.rd (ISO.TP_TX_BUSY n) = 0 ∧
        (e.canCtl n).tx.length = (d.canCtl n).tx.length + 1 + (len + 6) / 7) ∧
      (go → 8 < len → len ≤ 65536 → d.rd (ISO.TP_TX_DA n) ≠ 255 → e.rd (ISO.TP_TX_RES n) = 0 ∧ e.rd (ISO.TP_TX_BUSY n) = 1 ∧
        (e.canCtl n).tpTx = some { pgn := d.rd (ISO.TP_TX_PGN n), addr := d.rd (ISO.TP_TX_DA n), len := len, data := memGetBytes d.mem (tpBuf n + 0x10000) len, etp := decide (1785 < len) })) := by
  refine answers_of_forall (f := fun _ d => if d.hif.inService then d.tpTxGo c.val else d) rfl (fun now d hserves => ?_)
  rw [if_pos hserves, Dev.tpTxGo]
  refine ⟨fun hbusy => if_pos hbusy, fun hidle hno => ?_, fun hgo hpos hshort => ?_, fun hgo hlong hfits hall => ?_, fun hgo hlong hfits hone => ?_⟩
  · simp only [hidle, Bool.false_eq_true, if_false]
    rw [if_pos (by simpa [or_assoc] using hno)]
    exact ⟨Dev.rd_wr_self _ _ _, OnlyRegs.wr _ _ _ (by simp)⟩
  · obtain ⟨hidle, htx, hclaimed⟩ := hgo
    simp only [hidle, Bool.false_eq_true, if_false]
    rw [if_neg (by simp [htx, hclaimed]; omega), if_pos hshort]
    obtain ⟨hres, hbusy, hctl, -⟩ := (d.isoSend c.val (0x18000000 + (if d.rd (ISO.TP_TX_PGN c.val) / 256 % 256 < 240 then
      256 * (d.rd (ISO.TP_TX_PGN c.val) / 256 * 256 + d.rd (ISO.TP_TX_DA c.val)) else 256 * d.rd (ISO.TP_TX_PGN c.val)) + d.isoSa c.val)
      (memGetBytes d.mem (tpBuf c.val + 0x10000) (d.rd (ISO.TP_TX_LEN c.val)))).tpTxEnd_shows c (r := 1) (by decide)
    exact ⟨hres, hbusy, _, by rw [hctl]; exact Dev.tx_isoSend _ _ htx, rfl, rfl⟩
  · obtain ⟨hidle, htx, hclaimed⟩ := hgo
    simp only [hidle, Bool.false_eq_true, if_false]
    rw [if_neg (by simp [htx, hclaimed]; omega), if_neg (by omega), if_pos hall, Dev.tpCm]
    generalize hx : d.isoSend c.val _ _ = x
    have hxtx : x.isoTx c.val = true := by rw [← hx, Dev.isoTx_isoSend, htx]
    have hxlen : (x.canCtl c.val).tx.length = (d.canCtl c.val).tx.length + 1 := by
      rw [← hx, Dev.tx_isoSend _ _ htx, List.length_append, List.length_singleton]
    generalize hy : x.tpSendData c.val _ _ _ _ = y
    obtain ⟨hsent, -, -⟩ := Dev.tpSendData_sends (d.txSession c.val) 0 (tpPackets (d.rd (ISO.TP_TX_LEN c.val))) 0 hxtx
    rw [Dev.txSession] at hsent
    rw [hy, hxlen] at hsent
    obtain ⟨hres, hbusy, hctl, -⟩ := y.tpTxEnd_shows c (r := 1) (by decide)
    exact ⟨hres, hbusy, by rw [hctl]; exact hsent⟩
  · obtain ⟨hidle, htx, hclaimed⟩ := hgo
    simp only [hidle, Bool.false_eq_true, if_false]
    rw [if_neg (by simp [htx, hclaimed, hone]; omega), if_neg (by omega), if_neg hone]
    generalize hx : ((d.modCan c.val _).wr (ISO.TP_TX_BUSY c.val) 1).wr (ISO.TP_TX_RES c.val) 0 = x
    have hres : x.rd (ISO.TP_TX_RES c.val) = 0 := by rw [← hx, Dev.rd_wr_self, Nat.zero_mod]
    have hbusy : x.rd (ISO.TP_TX_BUSY c.val) = 1 := by
      rw [← hx, Dev.rd_wr_ne _ _ (by clear * - c; decide +revert), Dev.rd_wr_self]
      rfl
    have htp := congrArg (fun y => (Dev.canCtl y c.val).tpTx) hx
    simp only [Dev.canCtl_wr, Dev.canCtl_modCan] at htp
    split
    · rw [Dev.tpCm, Dev.rd_isoSend, Dev.rd_isoSend, Dev.tpTx_isoSend]
      exact ⟨hres, hbusy, htp.symm⟩
    · rw [Dev.tpCm, Dev.rd_isoSend, Dev.rd_isoSend, Dev.tpTx_isoSend]
      exact ⟨hres, hbusy, htp.symm⟩

theorem tpCtsRx_effect (s : State) (el : Nat) (c : Fin 2) (sa : BitVec 8) (kind : Fin 3) (k : BitVec 8) (next : BitVec 24) :
    let n := c.val
    Answers (.tpCtsRx el c sa kind k next) s (fun _ d e => d.isoRx n = true →
      ((d.canCtl n).tpTx = none → e = d) ∧
      (∀ x, (d.canCtl n).tpTx = some x →
        (x.addr ≠ sa.toNat → e = d) ∧
        (x.addr = sa.toNat → kind ≠ 0 → (e.canCtl n).tpTx = none ∧ e.rd (ISO.TP_TX_BUSY n) = 0 ∧ e.rd (ISO.TP_TX_RES n) = kind.val ∧
          OnlyRegs [ISO.TP_TX_BUSY n, ISO.TP_TX_RES n] { d with can := e.can } e) ∧
        (x.addr = sa.toNat → kind = 0 → x.etp = false → next.toNat ≠ 0 → d.isoTx n = true → e = { d with can := e.can } ∧
          (e.canCtl n).tpTx = some x ∧
          (e.canCtl n).tx.length = (d.canCtl n).tx.length + min k.toNat (tpPackets x.len + 1 - next.toNat)))) := by
  refine answers_of_forall (f := fun _ d => if d.isoRx c.val then d.tpAnswer c.val sa.toNat kind.val k.toNat next.toNat else d) rfl
    (fun now d hrx => ?_)
  rw [if_pos hrx, Dev.tpAnswer]
  refine ⟨fun hnone => by rw [hnone], fun x hx => ?_⟩
  simp only [hx]
  refine ⟨fun hother => if_pos (by simpa using hother), fun haddr hkind => ?_, fun haddr hkind hetp hnext htx => ?_⟩
  · rw [if_neg (by simp [haddr])]
    have hends {r : Nat} (hr : r < 4) : _ ∧ _ ∧ _ ∧ _ := d.tpTxEnd_shows c hr
    match kind, hkind with
    | 1, _ =>
      obtain ⟨hres, hbusy, hctl, hframe⟩ := hends (r := 1) (by decide)
      exact ⟨(congrArg CanCtl.tpTx hctl :), hbusy, hres, hframe⟩
    | 2, _ =>
      obtain ⟨hres, hbusy, hctl, hframe⟩ := hends (r := 2) (by decide)
      exact ⟨(congrArg CanCtl.tpTx hctl :), hbusy, hres, hframe⟩
  · subst hkind
    rw [if_neg (by simp [haddr])]
    simp only [Fin.val_zero]
    generalize min k.toNat (tpPackets x.len + 1 - next.toNat) = m
    by_cases hm : m = 0
    · rw [if_pos (by simp [hm]), hm]
      exact ⟨rfl, hx, rfl⟩
    · rw [if_neg (by simp [hm, hnext]), if_neg (by simp [hetp])]
      obtain ⟨hlen, htp, honly⟩ := Dev.tpSendData_sends x (next.toNat - 1) m (next.toNat - 1) htx
      exact ⟨honly, htp.trans hx, hlen⟩

/-- Settles O43, command by command. -/
theorem transportProtocol : Obligations.TransportProtocol := by
  unfold Obligations.TransportProtocol
  exact fun s el c => ⟨fun sa etp pgn len => tpRts_effect s el c sa etp pgn len, fun sa pgn len => tpBam_effect s el c sa pgn len,
    fun sa seq data => tpDataTransfer_effect s el c sa seq data, tpRxAck_effect s el c, tpTxGo_effect s el c,
    fun sa kind k next => tpCtsRx_effect s el c sa kind k next⟩

end Sys2Proof.Machine
end

section
/-! PROOFS. Speed and position from the bus (R403, R404). -/

namespace Sys2Proof.Machine

/-- The source `sa` of a setting and of the source heard before is accepted: the one named, or with 255 the first heard. -/
def AcceptedSource (want : Nat) (heard : Option Nat) (sa : Nat) : Prop := want = sa ∧ sa ≠ 255 ∨ want = 255 ∧ (heard = none ∨ heard = some sa)

/-- `x` is the block after a source was accepted: only controller `n` may have noted it. -/
def SourceNoted (n : Nat) (d x : Dev) : Prop := OnlyCan d x ∧ (x.canCtl n).nav = (d.canCtl n).nav

theorem SourceNoted.modCan (d : Dev) (n : Nat) {f : CanCtl → CanCtl} (hf : ∀ y, (f y).nav = y.nav) : SourceNoted n d (d.modCan n f) :=
  ⟨(OnlyCan.refl d).thenModCan _ _, by rw [Dev.canCtl_modCan, hf]⟩

theorem Dev.spdAccept_of_not {d : Dev} {n sa : Nat} (h : ¬AcceptedSource (d.rd (ISO.SPD_SA n)) (d.canCtl n).spdSrc sa) :
    d.spdAccept n sa = (false, d) := by
  rw [Dev.spdAccept]
  by_cases hany : d.rd (ISO.SPD_SA n) = 255
  · cases hsrc : (d.canCtl n).spdSrc with
    | none => exact absurd (.inr ⟨hany, .inl hsrc⟩) h
    | some x =>
      have hne : x ≠ sa := fun hx => h (.inr ⟨hany, .inr (by rw [hsrc, hx])⟩)
      simp [hany, hne]
  · have hne : d.rd (ISO.SPD_SA n) ≠ sa := fun hx => h (.inl ⟨hx, hx ▸ hany⟩)
    simp [hany, hne]

theorem Dev.spdAccept_of_accepted {d : Dev} {n sa : Nat} (h : AcceptedSource (d.rd (ISO.SPD_SA n)) (d.canCtl n).spdSrc sa) :
    ∃ x, d.spdAccept n sa = (true, x) ∧ SourceNoted n d x ∧ (d.rd (ISO.SPD_SA n) = 255 → (x.canCtl n).spdSrc = some sa) := by
  rw [Dev.spdAccept]
  obtain ⟨hwant, hne⟩ | ⟨hany, hsrc | hsrc⟩ := h
  · exact ⟨d, by simp [hwant, hne], ⟨rfl, rfl⟩, fun h => absurd (hwant.symm.trans h) hne⟩
  · exact ⟨d.modCan n (fun y => { y with spdSrc := some sa }), by simp [hany, hsrc], .modCan _ _ (fun _ => rfl), fun _ => by rw [Dev.canCtl_modCan]⟩
  · exact ⟨d, by simp [hany, hsrc], ⟨rfl, rfl⟩, fun _ => hsrc⟩

theorem Dev.navAccept_of_not {d : Dev} {n sa : Nat} (h : ¬AcceptedSource (d.rd (ISO.NAV_SA n)) (d.canCtl n).navSrc sa) :
    d.navAccept n sa = (false, d) := by
  rw [Dev.navAccept]
  by_cases hany : d.rd (ISO.NAV_SA n) = 255
  · cases hsrc : (d.canCtl n).navSrc with
    | none => exact absurd (.inr ⟨hany, .inl hsrc⟩) h
    | some x =>
      have hne : x ≠ sa := fun hx => h (.inr ⟨hany, .inr (by rw [hsrc, hx])⟩)
      simp [hany, hne]
  · have hne : d.rd (ISO.NAV_SA n) ≠ sa := fun hx => h (.inl ⟨hx, hx ▸ hany⟩)
    simp [hany, hne]

theorem Dev.navAccept_of_accepted {d : Dev} {n sa : Nat} (h : AcceptedSource (d.rd (ISO.NAV_SA n)) (d.canCtl n).navSrc sa) :
    ∃ x, d.navAccept n sa = (true, x) ∧ SourceNoted n d x ∧ (d.rd (ISO.NAV_SA n) = 255 → (x.canCtl n).navSrc = some sa) := by
  rw [Dev.navAccept]
  obtain ⟨hwant, hne⟩ | ⟨hany, hsrc | hsrc⟩ := h
  · exact ⟨d, by simp [hwant, hne], ⟨rfl, rfl⟩, fun h => absurd (hwant.symm.trans h) hne⟩
  · exact ⟨d.modCan n (fun y => { y with navSrc := some sa }), by simp [hany, hsrc], .modCan _ _ (fun _ => rfl), fun _ => by rw [Dev.canCtl_modCan]⟩
  · exact ⟨d, by simp [hany, hsrc], ⟨rfl, rfl⟩, fun _ => hsrc⟩

theorem OnlyCan.pose {d x : Dev} (h : OnlyCan d x) : x.pose = d.pose := (congrArg Dev.pose h :)

theorem OnlyCan.spdBus {d x : Dev} (h : OnlyCan d x) : x.spdBus = d.spdBus := h.rd _

theorem OnlyCan.poseEn {d x : Dev} (h : OnlyCan d x) : x.poseEn = d.poseEn := (congrArg Dev.poseEn h :)

/-- A speed taken: it is the tractor's, and a measurement where the pose engine runs. -/
def SpeedTaken (now speed : Nat) (d e : Dev) : Prop :=
  e.pose.canSpd = some (speed : Int) ∧ e.pose.meas = d.pose.meas ++
    (if d.poseEn then [{ kind := .canSpeed, dt := now - 4000 * d.rd POSE.CAN_LAT, at_ := now, v1 := speed, sig := d.rd POSE.CAN_SIG }] else [])

theorem Dev.tractorSpeed_taken {x : Dev} (now speed : Nat) (hdir : x.rd POSE.DIR_SRC = 0) :
    SpeedTaken now speed x (x.tractorSpeed now now speed) := by
  have hfwd : x.inReverse = false := by simp [Dev.inReverse, hdir]
  rw [Dev.tractorSpeed, SpeedTaken]
  simp only [hfwd, Bool.false_eq_true, if_false]
  change (if x.poseEn = true then _ else _ : Dev).pose.canSpd = _ ∧ (if x.poseEn = true then _ else _ : Dev).pose.meas = _
  split
  · exact ⟨rfl, rfl⟩
  · exact ⟨rfl, (List.append_nil _).symm⟩

theorem Dev.tractorSpeed_frame (x : Dev) (now rx speed : Nat) : (x.tractorSpeed now rx speed).can = x.can ∧
    (x.tractorSpeed now rx speed).pose.canRev = x.pose.canRev := by
  rw [Dev.tractorSpeed]
  generalize (if x.inReverse = true then -(speed : Int) else speed) = v
  split
  · exact ⟨rfl, rfl⟩
  · exact ⟨rfl, rfl⟩

theorem SpeedTaken.of_onlyCan {now speed : Nat} {d x e : Dev} (h : OnlyCan d x) (ht : SpeedTaken now speed x e) : SpeedTaken now speed d e := by
  rw [SpeedTaken, h.pose, h.poseEn, h.rd, h.rd] at ht
  exact ht

/-- What the direction of a wheel-based speed sets. -/
def Dev.dirNoted (x : Dev) (dir : Nat) : Dev := if dir < 2 then { x with pose := { x.pose with canRev := dir == 0 } } else x

theorem Dev.wheelBased_of_accepted {d x : Dev} {n sa : Nat} (now rx mms dir : Nat) (h : d.spdAccept n sa = (true, x)) :
    d.wheelBased now rx n sa mms dir =
      if x.spdBus = n then
        (if x.rd POSE.CAN_SPD = 1 ∧ mms ≤ 64255 then (x.dirNoted dir).tractorSpeed now rx mms else x.dirNoted dir)
      else x := by
  have hrd : (x.dirNoted dir).rd POSE.CAN_SPD = x.rd POSE.CAN_SPD := by
    rw [Dev.dirNoted]
    split <;> rfl
  rw [Dev.wheelBased, h]
  simp only [Bool.true_and, beq_iff_eq]
  rw [← Dev.dirNoted, hrd]
  simp only [Bool.and_eq_true, decide_eq_true_eq]

theorem Dev.groundBased_of_accepted {d x : Dev} {n sa : Nat} (now rx mms : Nat) (h : d.spdAccept n sa = (true, x)) :
    d.groundBased now rx n sa mms =
      if x.spdBus = n ∧ x.rd POSE.CAN_SPD = 2 ∧ mms ≤ 64255 then x.tractorSpeed now rx mms else x := by
  rw [Dev.groundBased, h]
  simp only [Bool.true_and, Bool.and_eq_true, beq_iff_eq, decide_eq_true_eq, and_assoc]

/-- The direction noted touches no more than the direction. -/
theorem Dev.dirNoted_keeps (x : Dev) (dir : Nat) : (x.dirNoted dir).can = x.can ∧ (x.dirNoted dir).pose.meas = x.pose.meas ∧
    (x.dirNoted dir).pose.canSpd = x.pose.canSpd ∧ (x.dirNoted dir).poseEn = x.poseEn ∧ (∀ f, (x.dirNoted dir).rd f = x.rd f) ∧
    (dir < 2 → (x.dirNoted dir).pose.canRev = (dir == 0)) := by
  rw [Dev.dirNoted]
  split
  · exact ⟨rfl, rfl, rfl, rfl, fun _ => rfl, fun _ => rfl⟩
  · next h => exact ⟨rfl, rfl, rfl, rfl, fun _ => rfl, fun hlt => absurd hlt h⟩

theorem wheelBasedSpeed_effect (s : State) (el : Nat) (c : Fin 2) (sa : BitVec 8) (speed : BitVec 16) (dir : BitVec 2) :
    let n := c.val
    let spd := fun (d : Dev) => AcceptedSource (d.rd (ISO.SPD_SA n)) (d.canCtl n).spdSrc sa.toNat
    Answers (.wheelBasedSpeed el c sa speed dir) s (fun now d e => d.isoRx n = true →
      (¬spd d → e = d) ∧
      (spd d → d.rd (ISO.SPD_SA n) = 255 → (e.canCtl n).spdSrc = some sa.toNat) ∧
      (spd d → d.spdBus = n → d.rd POSE.CAN_SPD = 1 → speed.toNat ≤ 64255 → d.rd POSE.DIR_SRC = 0 → SpeedTaken now speed.toNat d e) ∧
      (spd d → d.spdBus ≠ n ∨ d.rd POSE.CAN_SPD ≠ 1 ∨ 64255 < speed.toNat → e.pose.meas = d.pose.meas ∧ e.pose.canSpd = d.pose.canSpd) ∧
      (spd d → d.spdBus = n → dir.toNat < 2 → e.pose.canRev = (dir.toNat == 0))) := by
  refine answers_of_forall (f := fun now d => if d.isoRx c.val then d.wheelBased now now c.val sa.toNat speed.toNat dir.toNat else d) rfl
    (fun now d hrx => ?_)
  rw [if_pos hrx]
  by_cases hacc : AcceptedSource (d.rd (ISO.SPD_SA c.val)) (d.canCtl c.val).spdSrc sa.toNat
  case neg =>
    refine ⟨fun _ => ?_, fun h => absurd h hacc, fun h => absurd h hacc, fun h => absurd h hacc, fun h => absurd h hacc⟩
    simp [Dev.wheelBased, Dev.spdAccept_of_not hacc]
  obtain ⟨x, hx, ⟨honly, -⟩, hsrc⟩ := Dev.spdAccept_of_accepted hacc
  obtain ⟨hcan, hmeas, hspd, hen, hrd, hrev⟩ := x.dirNoted_keeps dir.toNat
  rw [Dev.wheelBased_of_accepted now now speed.toNat dir.toNat hx, honly.spdBus, honly.rd]
  refine ⟨fun h => absurd hacc h, fun _ hany => ?_, fun _ hbus hsel hlow hdir => ?_, fun _ hno => ?_, fun _ hbus hdir => ?_⟩
  · have hkeep : (if d.spdBus = c.val then
        (if d.rd POSE.CAN_SPD = 1 ∧ speed.toNat ≤ 64255 then (x.dirNoted dir.toNat).tractorSpeed now now speed.toNat else x.dirNoted dir.toNat)
      else x).can = x.can := by
      split
      · split
        · rw [(Dev.tractorSpeed_frame _ _ _ _).1, hcan]
        · exact hcan
      · rfl
    rw [Dev.canCtl, hkeep]
    exact hsrc hany
  · rw [if_pos hbus, if_pos ⟨hsel, hlow⟩]
    have htaken := Dev.tractorSpeed_taken (x := x.dirNoted dir.toNat) now speed.toNat (by rw [hrd, honly.rd, hdir])
    rw [SpeedTaken, hmeas, hen, hrd, hrd] at htaken
    exact SpeedTaken.of_onlyCan honly htaken
  · rw [← honly.pose]
    split
    · next hbus =>
      rw [if_neg (by rcases hno with h | h | h; exacts [absurd hbus h, fun hs => h hs.1, fun hs => absurd hs.2 (by omega)])]
      exact ⟨hmeas, hspd⟩
    · exact ⟨rfl, rfl⟩
  · rw [if_pos hbus]
    split
    · rw [(Dev.tractorSpeed_frame _ _ _ _).2, hrev hdir]
    · exact hrev hdir

theorem groundBasedSpeed_effect (s : State) (el : Nat) (c : Fin 2) (sa : BitVec 8) (speed : BitVec 16) :
    let n := c.val
    let spd := fun (d : Dev) => AcceptedSource (d.rd (ISO.SPD_SA n)) (d.canCtl n).spdSrc sa.toNat
    Answers (.groundBasedSpeed el c sa speed) s (fun now d e => d.isoRx n = true →
      (¬spd d → e = d) ∧
      (spd d → d.rd (ISO.SPD_SA n) = 255 → (e.canCtl n).spdSrc = some sa.toNat) ∧
      (spd d → d.spdBus ≠ n ∨ d.rd POSE.CAN_SPD ≠ 2 ∨ 64255 < speed.toNat → e.pose = d.pose) ∧
      (spd d → d.spdBus = n → d.rd POSE.CAN_SPD = 2 → speed.toNat ≤ 64255 → d.rd POSE.DIR_SRC = 0 → SpeedTaken now speed.toNat d e)) := by
  refine answers_of_forall (f := fun now d => if d.isoRx c.val then d.groundBased now now c.val sa.toNat speed.toNat else d) rfl
    (fun now d hrx => ?_)
  rw [if_pos hrx]
  by_cases hacc : AcceptedSource (d.rd (ISO.SPD_SA c.val)) (d.canCtl c.val).spdSrc sa.toNat
  case neg =>
    refine ⟨fun _ => ?_, fun h => absurd h hacc, fun h => absurd h hacc, fun h => absurd h hacc⟩
    simp [Dev.groundBased, Dev.spdAccept_of_not hacc]
  obtain ⟨x, hx, ⟨honly, -⟩, hsrc⟩ := Dev.spdAccept_of_accepted hacc
  rw [Dev.groundBased_of_accepted now now speed.toNat hx, honly.spdBus, honly.rd]
  refine ⟨fun h => absurd hacc h, fun _ hany => ?_, fun _ hno => ?_, fun _ hbus hsel hlow hdir => ?_⟩
  · split
    · rw [Dev.canCtl, (Dev.tractorSpeed_frame _ _ _ _).1]
      exact hsrc hany
    · exact hsrc hany
  · rw [if_neg (by rintro ⟨h1, h2, h3⟩; rcases hno with h | h | h; exacts [h h1, h h2, absurd h3 (by omega)])]
    exact honly.pose
  · rw [if_pos ⟨hbus, hsel, hlow⟩]
    exact SpeedTaken.of_onlyCan honly (Dev.tractorSpeed_taken now speed.toNat (by rw [honly.rd, hdir]))

/-! ### Position and velocity -/

/-- The measurement of a position from the bus (R404). -/
def Dev.posMeas (x : Dev) (now n : Nat) (lat lon h : Int) (method hdop : Nat) : Meas :=
  { kind := .gnssPos
    dt := x.canStamp now
    at_ := now
    v1 := lat
    v2 := lon
    v3 := h
    solType := match method with | 4 => 5 | 5 => 4 | _ => 1
    cov := [((hdop * x.uere n method / 100 : Nat) : Int) * ((hdop * x.uere n method / 100 : Nat) : Int),
            ((hdop * x.uere n method / 100 : Nat) : Int) * ((hdop * x.uere n method / 100 : Nat) : Int),
            4 * ((hdop * x.uere n method / 100 : Nat) : Int) * ((hdop * x.uere n method / 100 : Nat) : Int), 0, 0, 0] }

/-- The position kept for the velocity that follows. -/
def Dev.navNoted (x : Dev) (now n : Nat) (lat lon h : Int) : Dev := x.modCan n (fun c => { c with nav := some (now, [lat, lon, h]) })

theorem Dev.navPosition_of_accepted {d x : Dev} {n sa : Nat} (now : Nat) (lat lon h : Int) (method hdop : Nat)
    (hacc : d.navAccept n sa = (true, x)) : d.navPosition now now n sa lat lon h method hdop =
      if (method != 0) = true then
        if (x.navFrom n && x.poseEn) = true then
          (x.navNoted now n lat lon h).measIn (x.posMeas now n lat lon h method hdop)
        else x.navNoted now n lat lon h
      else x := by
  unfold Dev.navPosition
  rw [hacc]
  rfl

theorem Dev.uere_of_onlyCan {d x : Dev} (h : OnlyCan d x) (n method : Nat) : x.uere n method = d.uere n method := by
  simp only [Dev.uere, h.rd]

/-- Solution type and variance by the method of a position (R404). -/
theorem Dev.posMeas_method {d x : Dev} (honly : OnlyCan d x) (now n : Nat) (lat lon h : Int) (method hdop : Nat) :
    let m := x.posMeas now n lat lon h method hdop
    (method = 4 → m.solType = 5 ∧ m.cov.head? = some (((hdop * d.rd (ISO.UERE_FIX n) / 100 : Nat) : Int) ^ 2)) ∧
    (method = 5 → m.solType = 4 ∧ m.cov.head? = some (((hdop * d.rd (ISO.UERE_FLOAT n) / 100 : Nat) : Int) ^ 2)) ∧
    (method ≠ 4 → method ≠ 5 → m.solType = 1 ∧ m.cov.head? = some (((hdop * d.rd (ISO.UERE_STD n) / 100 : Nat) : Int) ^ 2)) := by
  simp only [Dev.posMeas, Dev.uere_of_onlyCan honly, List.head?_cons, pow_two]
  refine ⟨fun h4 => ?_, fun h5 => ?_, fun h4 h5 => ?_⟩
  · subst h4
    exact ⟨rfl, rfl⟩
  · subst h5
    exact ⟨rfl, rfl⟩
  · have hstd : d.uere n method = d.rd (ISO.UERE_STD n) := by
      unfold Dev.uere
      split
      · exact absurd rfl h4
      · exact absurd rfl h5
      · rfl
    refine ⟨?_, by rw [hstd]⟩
    split
    · exact absurd rfl h4
    · exact absurd rfl h5
    · rfl

theorem gnssPositionData_effect (s : State) (el : Nat) (c : Fin 2) (sa : BitVec 8) (lat lon h : Int) (method : BitVec 4) (hdop : BitVec 16) :
    let n := c.val
    let nav := fun (d : Dev) => AcceptedSource (d.rd (ISO.NAV_SA n)) (d.canCtl n).navSrc sa.toNat
    Answers (.gnssPositionData el c sa lat lon h method hdop) s (fun now d e =>
      d.isoRx n = true →
      (¬nav d → e = d) ∧
      (nav d → d.rd (ISO.NAV_SA n) = 255 → (e.canCtl n).navSrc = some sa.toNat) ∧
      (nav d → method.toNat = 0 → e.pose = d.pose ∧ (e.canCtl n).nav = (d.canCtl n).nav) ∧
      (nav d → method.toNat ≠ 0 → (e.canCtl n).nav = some (now, [lat, lon, h]) ∧
        (d.rd POSE.GNSS_SRC = n + 1 → d.poseEn = true → ∃ m : Meas, e.pose.meas = d.pose.meas ++ [m] ∧ m.kind = .gnssPos ∧
          m.dt = now - 4000 * d.rd POSE.CAN_LAT ∧ m.v1 = lat ∧ m.v2 = lon ∧ m.v3 = h ∧
          (method.toNat = 4 → m.solType = 5 ∧ m.cov.head? = some (((hdop.toNat * d.rd (ISO.UERE_FIX n) / 100 : Nat) : Int) ^ 2)) ∧
          (method.toNat = 5 → m.solType = 4 ∧ m.cov.head? = some (((hdop.toNat * d.rd (ISO.UERE_FLOAT n) / 100 : Nat) : Int) ^ 2)) ∧
          (method.toNat ≠ 4 → method.toNat ≠ 5 → m.solType = 1 ∧
            m.cov.head? = some (((hdop.toNat * d.rd (ISO.UERE_STD n) / 100 : Nat) : Int) ^ 2))))) := by
  refine answers_of_forall (f := fun now d => if d.isoRx c.val then
    d.navPosition now now c.val sa.toNat lat lon h method.toNat hdop.toNat else d) rfl (fun now d hrx => ?_)
  rw [if_pos hrx]
  by_cases hacc : AcceptedSource (d.rd (ISO.NAV_SA c.val)) (d.canCtl c.val).navSrc sa.toNat
  case neg =>
    refine ⟨fun _ => ?_, fun h => absurd h hacc, fun h => absurd h hacc, fun h => absurd h hacc⟩
    simp [Dev.navPosition, Dev.navAccept_of_not hacc]
  obtain ⟨x, hx, ⟨honly, hnav⟩, hsrc⟩ := Dev.navAccept_of_accepted hacc
  have hctl : (x.navNoted now c.val lat lon h).canCtl c.val = { x.canCtl c.val with nav := some (now, [lat, lon, h]) } :=
    x.canCtl_modCan c.val _
  have hmeasCtl (m : Meas) : ((x.navNoted now c.val lat lon h).measIn m).canCtl c.val = (x.navNoted now c.val lat lon h).canCtl c.val := rfl
  rw [Dev.navPosition_of_accepted now lat lon h method.toNat hdop.toNat hx]
  refine ⟨fun h => absurd hacc h, fun _ hany => ?_, fun _ hzero => ?_, fun _ hsome => ⟨?_, fun hfrom hen => ?_⟩⟩
  · split
    · split
      · rw [hmeasCtl, hctl]
        exact hsrc hany
      · rw [hctl]
        exact hsrc hany
    · exact hsrc hany
  · rw [if_neg (by simp [hzero])]
    exact ⟨honly.pose, hnav⟩
  · rw [if_pos (by simpa using hsome)]
    split
    · rw [hmeasCtl, hctl]
    · rw [hctl]
  · rw [if_pos (by simpa using hsome), if_pos (by simp [Dev.navFrom, honly.rd, hfrom, honly.poseEn, hen])]
    refine ⟨x.posMeas now c.val lat lon h method.toNat hdop.toNat, ?_, rfl, ?_, rfl, rfl, rfl, Dev.posMeas_method honly _ _ _ _ _ _ _⟩
    · rw [← honly.pose]
      rfl
    · rw [← honly.rd]
      rfl

/-- The measurement of a velocity from the bus, at the position `p` that it follows (R404). -/
def Dev.velMeas (x : Dev) (now n cog sog : Nat) (p : List Int) : Meas :=
  { kind := .gnssVel
    dt := x.canStamp now
    at_ := now
    v1 := p.getD 0 0
    v2 := p.getD 1 0
    v3 := p.getD 2 0
    hasVel := true
    spd := 10 * sog
    ve := fxRound (sinN ((cog : Int) * 5729577951308 / 1000000) * (10 * sog))
    vn := fxRound (cosN ((cog : Int) * 5729577951308 / 1000000) * (10 * sog))
    cov := [(x.rd (ISO.NAV_VSIG n) : Int) * x.rd (ISO.NAV_VSIG n), (x.rd (ISO.NAV_VSIG n) : Int) * x.rd (ISO.NAV_VSIG n),
            (x.rd (ISO.NAV_VSIG n) : Int) * x.rd (ISO.NAV_VSIG n), 0, 0, 0] }

theorem Dev.navVelocity_of_unpaired {d x : Dev} {n sa : Nat} (now cog sog : Nat) (hacc : d.navAccept n sa = (true, x))
    (hnone : (x.canCtl n).nav = none) : d.navVelocity now now n sa cog sog = x := by
  simp [Dev.navVelocity, hacc, hnone]

theorem Dev.navVelocity_of_paired {d x : Dev} {n sa : Nat} (now cog sog : Nat) (hacc : d.navAccept n sa = (true, x)) {p : Nat × List Int}
    (hp : (x.canCtl n).nav = some p) : d.navVelocity now now n sa cog sog =
      if now ≤ p.1 + ms 200 ∧ x.navFrom n = true ∧ x.poseEn = true ∧ sog ≤ 65532 ∧ cog ≤ 65532 then
        x.measIn (x.velMeas now n cog sog p.2)
      else x := by
  rw [Dev.navVelocity, hacc]
  simp only [hp, Bool.true_and, Bool.and_eq_true, decide_eq_true_eq, and_assoc]
  rfl

theorem cogSogRapidUpdate_effect (s : State) (el : Nat) (c : Fin 2) (sa : BitVec 8) (cog sog : BitVec 16) :
    let n := c.val
    let nav := fun (d : Dev) => AcceptedSource (d.rd (ISO.NAV_SA n)) (d.canCtl n).navSrc sa.toNat
    Answers (.cogSogRapidUpdate el c sa cog sog) s (fun now d e => d.isoRx n = true →
      (¬nav d → e = d) ∧
      (nav d → (d.canCtl n).nav = none → e.pose = d.pose) ∧
      (∀ x, nav d → (d.canCtl n).nav = some x →
        (x.1 + ms 200 < now → e.pose = d.pose) ∧
        (now ≤ x.1 + ms 200 → d.rd POSE.GNSS_SRC = n + 1 → d.poseEn = true → cog.toNat ≤ 65532 → sog.toNat ≤ 65532 →
          ∃ m : Meas, e.pose.meas = d.pose.meas ++ [m] ∧ m.kind = .gnssVel ∧ m.dt = now - 4000 * d.rd POSE.CAN_LAT ∧ m.hasVel = true ∧
            m.spd = 10 * sog.toNat ∧ m.v1 = x.2.getD 0 0 ∧ m.v2 = x.2.getD 1 0 ∧ m.v3 = x.2.getD 2 0))) := by
  refine answers_of_forall (f := fun now d => if d.isoRx c.val then
    d.navVelocity now now c.val sa.toNat cog.toNat sog.toNat else d) rfl (fun now d hrx => ?_)
  rw [if_pos hrx]
  by_cases hacc : AcceptedSource (d.rd (ISO.NAV_SA c.val)) (d.canCtl c.val).navSrc sa.toNat
  case neg =>
    refine ⟨fun _ => ?_, fun h => absurd h hacc, fun _ h => absurd h hacc⟩
    simp [Dev.navVelocity, Dev.navAccept_of_not hacc]
  obtain ⟨x, hx, ⟨honly, hnav⟩, -⟩ := Dev.navAccept_of_accepted hacc
  refine ⟨fun h => absurd hacc h, fun _ h => ?_, fun p _ hp => ?_⟩
  · rw [Dev.navVelocity_of_unpaired now cog.toNat sog.toNat hx (hnav.trans h), honly.pose]
  rw [Dev.navVelocity_of_paired now cog.toNat sog.toNat hx (hnav.trans hp)]
  refine ⟨fun hlate => ?_, fun hsoon hfrom hen hcog hsog => ?_⟩
  · rw [if_neg (fun h => absurd h.1 (by omega))]
    exact honly.pose
  · rw [if_pos ⟨hsoon, by simp [Dev.navFrom, honly.rd, hfrom], by rw [honly.poseEn, hen], hsog, hcog⟩]
    refine ⟨x.velMeas now c.val cog.toNat sog.toNat p.2, ?_, rfl, ?_, rfl, rfl, rfl, rfl, rfl⟩
    · rw [← honly.pose]
      rfl
    · rw [← honly.rd]
      rfl

/-- Settles O44, command by command. -/
theorem poseInputsFromTheBus : Obligations.PoseInputsFromTheBus := by
  unfold Obligations.PoseInputsFromTheBus
  exact fun s el c sa => ⟨fun speed dir => wheelBasedSpeed_effect s el c sa speed dir, fun speed => groundBasedSpeed_effect s el c sa speed,
    fun lat lon h method hdop => gnssPositionData_effect s el c sa lat lon h method hdop,
    fun cog sog => cogSogRapidUpdate_effect s el c sa cog sog⟩

end Sys2Proof.Machine
end

section
/-! PROOFS. The rule of the drive machinery: what the operations of actuator channels, load switches and PWM outputs change. -/
namespace Sys2Proof.Machine

/-- A write of `f` stays in the address ranges `ps` and is no write of a RAW word. -/
def Field.writable (ps : List (Nat × Nat)) (f : Field) : Bool :=
  decide (f.lo < 32) && ps.any (fun p => decide (p.1 ≤ f.addr) && decide (f.addr < p.2)) &&
    (f.key % 32 != 0 || f.key / 32 % 0x1000 != 0x10)

/-- `e` differs from `d` in registers of the address ranges `ps`, what a firing changes, and parts that `er` does not see. -/
structure Touches {α : Type} (ps : List (Nat × Nat)) (er : Dev → α) (d e : Dev) : Prop where
  regs : RegsWithin ps d e
  rest : er e = er d
  raw : RawKept d e

section
variable {α β : Type} {ps qs : List (Nat × Nat)} {er : Dev → α} {er' : Dev → β} {a b d e : Dev}

theorem Touches.refl (d : Dev) : Touches ps er d d := ⟨fun _ _ _ _ => rfl, rfl, RawKept.refl d⟩

theorem Touches.trans (h : Touches ps er a b) (g : Touches ps er b d) : Touches ps er a d :=
  ⟨fun f hlo hev hps => (g.regs f hlo hev hps).trans (h.regs f hlo hev hps), g.rest.trans h.rest, h.raw.trans g.raw⟩

theorem RegsWithin.mono (hps : ∀ p ∈ ps, ∃ q ∈ qs, q.1 ≤ p.1 ∧ p.2 ≤ q.2) (h : RegsWithin ps d e) : RegsWithin qs d e :=
  fun f hlo hev hout => h f hlo hev fun p hp => by
    obtain ⟨q, hq, hle⟩ := hps p hp
    have := hout q hq
    omega

theorem Touches.mono (h : Touches ps er d e) (hps : ∀ p ∈ ps, ∃ q ∈ qs, q.1 ≤ p.1 ∧ p.2 ≤ q.2) (her : er e = er d → er' e = er' d) :
    Touches qs er' d e := ⟨h.regs.mono hps, her h.rest, h.raw⟩

/-- A change that leaves the register file alone. -/
theorem Touches.of_regs (hregs : e.regs = d.regs) (her : er e = er d) : Touches ps er d e :=
  ⟨fun _ _ _ _ => by simp [Dev.rd, hregs], her, RawKept.of_regs hregs⟩

theorem Touches.wr (d : Dev) (f : Field) (v : Nat) (hf : f.writable ps = true) (her : er (d.wr f v) = er d) :
    Touches ps er d (d.wr f v) := by
  simp only [Field.writable, Bool.and_eq_true, decide_eq_true_eq, List.any_eq_true, Bool.or_eq_true, bne_iff_ne] at hf
  obtain ⟨⟨hlo, p, hp, hin⟩, hraw⟩ := hf
  refine ⟨fun g hglo _ hout => Dev.rd_wr_ne _ _ (fun hkey => ?_), her, RawKept.wr d f v hraw⟩
  have := hout p hp
  simp only [Field.key] at hkey
  omega

theorem Touches.bump (d : Dev) (f : Field) (hf : f.writable ps = true) (her : er (d.bump f) = er d) :
    Touches ps er d (d.bump f) := Touches.wr d f _ hf her

theorem Touches.fire (d : Dev) (now ev inst val : Nat)
    (her : ∀ r v c, er { d with regs := r, evh := v, rec_ := c } = er d) : Touches ps er d (d.fire now ev inst val) :=
  ⟨fun _ hlo hev _ => Dev.rd_fire_of d now ev inst val hlo hev,
    (congrArg er (fire_quiet d now ev inst val).1).trans (her _ _ _), fire_rawKept d now ev inst val⟩

theorem Touches.ite {c : Prop} [Decidable c] {x y : Dev} (hx : c → Touches ps er d x) (hy : ¬c → Touches ps er d y) :
    Touches ps er d (if c then x else y) := by
  split
  · exact hx ‹_›
  · exact hy ‹_›

/-- An optional operation. -/
theorem Touches.opt {c : Prop} [Decidable c] {x : Dev} (hx : Touches ps er d x) : Touches ps er d (if c then x else d) :=
  Touches.ite (fun _ => hx) (fun _ => Touches.refl d)

theorem Touches.each {γ : Type} (l : List γ) (f : Dev → γ → Dev) (h : ∀ d, ∀ x ∈ l, Touches ps er d (f d x)) (d : Dev) :
    Touches ps er d (d.each l f) := by
  unfold Dev.each
  induction l generalizing d with
  | nil => exact Touches.refl d
  | cons x l ih => exact (h d x (by simp)).trans (ih (fun d y hy => h d y (by simp [hy])) _)

theorem Touches.rd (h : Touches ps er d e) (f : Field) (hlo : f.lo < 32 := by decide) (hev : f.ofEvents = false := by decide)
    (hout : ∀ p ∈ ps, f.addr < p.1 ∨ p.2 ≤ f.addr := by decide) : e.rd f = d.rd f := h.regs f hlo hev hout

end

/-! The paint state of a point: the operations that change only the map's paint state and the mirror's list. -/

/-- `e` differs from `d` in no more than the parts of the map and of the pair. -/
def CovPair (d e : Dev) : Prop := e = { d with cov := e.cov, pair := e.pair }

theorem CovPair.refl (d : Dev) : CovPair d d := rfl

theorem CovPair.trans {a b c : Dev} (h : CovPair a b) (g : CovPair b c) : CovPair a c := by
  unfold CovPair at *
  rw [g, h]

theorem CovPair.ite {c : Prop} [Decidable c] {d x y : Dev} (hx : CovPair d x) (hy : CovPair d y) : CovPair d (if c then x else y) := by
  split <;> assumption

theorem CovPair.touches {α : Type} {ps : List (Nat × Nat)} {er : Dev → α} {d e : Dev} (h : CovPair d e)
    (her : ∀ c p, er { d with cov := c, pair := p } = er d) : Touches ps er d e := by
  unfold CovPair at h
  rw [h]
  exact Touches.of_regs rfl (her _ _)

theorem covPair_modPaint (d : Dev) (n : Nat) (f : PtPaint → PtPaint) : CovPair d (d.modPaint n f) := rfl

theorem covPair_mirrorPaint (d : Dev) (l : List Nat) : CovPair d (d.mirrorPaint l) := CovPair.ite rfl rfl

theorem covPair_mirrorConf (d : Dev) (n : Nat) (isOpen : Bool) (t : Option Nat) : CovPair d (d.mirrorConf n isOpen t) := by
  cases t with
  | none => exact CovPair.refl d
  | some t => exact CovPair.ite (covPair_mirrorPaint d _) rfl

theorem covPair_pushEdge (d : Dev) (n : Nat) (isOpen : Bool) (t : Nat) : CovPair d (d.pushEdge n isOpen t) :=
  (CovPair.ite (covPair_mirrorConf d n isOpen (some t)) (CovPair.refl d)).trans (covPair_modPaint _ _ _)

theorem covPair_pushWait (d : Dev) (n : Nat) (isOpen : Bool) (cmd : Nat) : CovPair d (d.pushWait n isOpen cmd) := rfl

theorem covPair_covCommand (d : Dev) (n : Nat) (isOpen : Bool) (cmd : Nat) : CovPair d (d.covCommand n isOpen cmd) := by
  refine CovPair.trans (b := if isOpen then d.modPaint n (fun p => { p with onAt := cmd }) else d) (CovPair.ite rfl rfl) ?_
  exact CovPair.ite rfl (CovPair.ite (covPair_pushEdge _ _ _ _) (CovPair.ite rfl (covPair_pushWait _ _ _ _)))

theorem covPair_covWindow (d : Dev) (n : Nat) (sOpen : Bool) (edge : Option Nat) (sClose : Bool) (opening : Nat) :
    CovPair d (d.covWindow n sOpen edge sClose opening) := by
  unfold Dev.covWindow
  extract_lets d1 d2
  have h1 : CovPair d d1 := CovPair.ite (covPair_covCommand d n sOpen opening) rfl
  have h2 : CovPair d1 d2 := by
    cases edge with
    | none => exact CovPair.refl d1
    | some pos => exact CovPair.ite (covPair_covCommand _ _ _ _) rfl
  exact (h1.trans h2).trans rfl

theorem covPair_covPulseCmd (d : Dev) (n cmd : Nat) : CovPair d (d.covPulseCmd n cmd) := CovPair.ite rfl (covPair_pushWait _ _ _ _)

theorem covPair_covLoad (d : Dev) (k t : Nat) (fresh : Bool) : CovPair d (d.covLoad k t fresh) := by
  unfold Dev.covLoad
  extract_lets d1 l
  suffices h : CovPair d d1 from h.trans rfl
  show CovPair d (match d.ptOfCh 2 k with
    | some n => if !fresh && d.cov.noLoad.any (fun x => x.1 == k && x.2.2 == 0) then d.mirrorLoad n true t else d
    | none => d)
  split
  · exact CovPair.ite (CovPair.ite rfl (covPair_mirrorConf _ _ _ _)) rfl
  · rfl

end Sys2Proof.Machine
end

section
/-! PROOFS. What the operations of the actuator channels change, and that they keep each channel's snuff state and hold window. -/
namespace Sys2Proof.Machine

/-- Address ranges of the count of unconfirmed movements and of the actuator pages. -/
abbrev idcPages : List (Nat × Nat) := [(0x030064, 0x030068), (0x040000, 0x048000)]

/-- What a channel's operations leave as it was: its snuff state and its hold window. -/
def IdcCh.mode (x : IdcCh) : Option Nat × Option Nat := (x.snuff, x.holdEnd)

/-- The block without registers, recorder, and the parts an actuator channel's operations change. -/
def Dev.sansIdcParts (d : Dev) : Dev :=
  { d with regs := [], evh := {}, rec_ := {}, tst := {}, cov := {}, dec := {}, ksp := [], pair := {}, idc := [] }

/-- A slot of the self-tests without the latencies that a valve test records. -/
def TstSlot.times (t : TstSlot) : TstSlot := { t with opens := [], closes := [] }

/-- The slots of the self-tests without the latencies that a valve test records. -/
def Dev.testTimes (d : Dev) (q : Nat) : TstSlot := (d.tslot q).times

/-- What the operations of the actuator channels leave as it was in the other parts. -/
def Dev.idcRest (d : Dev) : Dev × (Nat → TstSlot) := (d.sansIdcParts, d.testTimes)

/-- What the operations of the actuator channels leave as it was. -/
def Dev.idcKeep (d : Dev) : (Dev × (Nat → TstSlot)) × (Nat → Option Nat × Option Nat) := (d.idcRest, fun k => (d.idcCh k).mode)

/-- What a change of one entry keeps of every value, it keeps of each entry. -/
theorem tget_tmod_keeps {β γ : Type} [Inhabited β] (g : β → γ) (m : Tab β) (c : Nat) {f : β → β} (hf : ∀ x, g (f x) = g x) (k : Nat) :
    g (tget (tmod m c f) k) = g (tget m k) := by
  by_cases hk : c = k
  · rw [← hk, tget_tmod_self, hf]
  · rw [tget_tmod_ne _ _ hk]

theorem Dev.idcCh_modIdc_self (d : Dev) (c : Nat) (f : IdcCh → IdcCh) : (d.modIdc c f).idcCh c = f (d.idcCh c) := tget_tmod_self _ _ _

theorem Dev.idcCh_modIdc_ne (d : Dev) {c k : Nat} (f : IdcCh → IdcCh) (h : c ≠ k) : (d.modIdc c f).idcCh k = d.idcCh k := tget_tmod_ne _ _ h

/-- Address range of the actuator pages. -/
abbrev channelPages : List (Nat × Nat) := [(0x040000, 0x048000)]

/-- The block without registers. -/
def Dev.sansRegs (d : Dev) : Dev := { d with regs := [] }

/-- A change of registers of the address ranges `ps` only. -/
abbrev RegTouch (ps : List (Nat × Nat)) (d e : Dev) : Prop := Touches ps Dev.sansRegs d e

/-- An operation of the actuator channels. -/
abbrev IdcTouch (d e : Dev) : Prop := Touches idcPages Dev.idcKeep d e

theorem idcTouch_modIdc (d : Dev) (c : Nat) (f : IdcCh → IdcCh) (hf : ∀ x, (f x).mode = x.mode) :
    IdcTouch d (d.modIdc c f) := by
  exact Touches.of_regs rfl (Prod.ext rfl (funext fun k => tget_tmod_keeps IdcCh.mode d.idc c hf k))

theorem idcTouch_covPair {d e : Dev} (h : CovPair d e) : IdcTouch d e := h.touches (by intros; rfl)

theorem idcTouch_cancelStart (d : Dev) (now : Nat) {c : Nat} (hc : c < 32) : IdcTouch d (d.cancelStart now c) :=
  Touches.opt ((Touches.opt (idcTouch_modIdc d c _ (by intro; rfl))).trans (Touches.bump _ _ (by clear * - hc; decide +revert) (by rfl)))

/-- The block without registers and the parts that a point's confirmations and latencies stand in. -/
def Dev.sansConf (d : Dev) : Dev := { d with regs := [], cov := {}, dec := {}, pair := {} }

/-- A confirmation or a latency of a point is taken. -/
abbrev ConfTouch (d e : Dev) : Prop := Touches [(0x030064, 0x030068)] Dev.sansConf d e

theorem ConfTouch.idc {d e : Dev} (h : ConfTouch d e) : IdcTouch d e :=
  h.mono (by decide) (fun hk => (congrArg Dev.idcKeep hk :))

theorem confTouch_latSample (d : Dev) (now n : Nat) (isOpen : Bool) (s temp : Int) : ConfTouch d (d.latSample now n isOpen s temp) :=
  Touches.opt (Touches.of_regs rfl rfl)

theorem confTouch_unconfirmed (d : Dev) (n : Nat) (sel : VEdge → Bool) :
    ConfTouch d ((d.resolveEdges n sel (d.unconfirmed n)).bump COV.CONF_NONE) := by
  have h : ConfTouch d (d.resolveEdges n sel (d.unconfirmed n)) := Touches.of_regs rfl rfl
  exact h.trans (Touches.bump _ COV.CONF_NONE (by decide) (by rfl))

theorem confTouch_confirmOpen (d : Dev) (n start : Nat) (t : Option Nat) : ConfTouch d (d.confirmOpen n start t) := by
  unfold Dev.confirmOpen
  split
  · exact Touches.refl d
  · cases t with
    | none => exact confTouch_unconfirmed d n _
    | some t => exact Touches.of_regs rfl rfl

theorem confTouch_tryClose (d : Dev) (now n : Nat) : ConfTouch d (d.tryClose now n) := by
  unfold Dev.tryClose
  dsimp only
  split
  · refine Touches.opt ?_
    split
    · exact Touches.of_regs rfl rfl
    · exact confTouch_unconfirmed d n _
  · exact Touches.refl d

theorem confTouch_covRecord (d : Dev) (now n start : Nat) (openT seatT : Option Nat) :
    ConfTouch d (d.covRecord now n start openT seatT) := by
  refine Touches.ite (fun _ => Touches.refl d) (fun _ => ?_)
  have hconf : ConfTouch d ((d.mirrorConf n true openT).mirrorConf n false seatT) :=
    ((covPair_mirrorConf d n true openT).trans (covPair_mirrorConf _ _ _ _)).touches (by intros; rfl)
  have hpaint : ∀ (x : Dev) f, ConfTouch x (x.modPaint n f) := fun x f => (covPair_modPaint x n f).touches (by intros; rfl)
  exact ((hconf.trans (confTouch_confirmOpen _ _ _ _)).trans (hpaint _ _)).trans (confTouch_tryClose _ _ _)

/-- The latencies that a valve test takes from the pulse `p`, whose end was commanded at `ce`. -/
def tstRecords (p : Pulse) (ce : Nat) (t : TstSlot) : TstSlot :=
  { t with
    opens := t.opens ++ (if bitOf p.flags 7 then (p.openT.map (· - p.cmd)).toList else [])
    closes := t.closes ++ (if bitOf p.flags 8 then (p.seatT.map (· - ce)).toList else []) }

theorem idcTouch_tstRecord (d : Dev) (c : Nat) (p : Pulse) (ce : Nat) : IdcTouch d (d.tstRecord c p ce) := by
  unfold Dev.tstRecord
  split
  · exact Touches.refl d
  rename_i q hq
  refine Touches.of_regs rfl (Prod.ext (Prod.ext rfl (funext fun k => ?_)) rfl)
  exact tget_tmod_keeps TstSlot.times d.tst.slots q (f := tstRecords p ce) (fun _ => rfl) k

theorem idcTouch_kspSend (d : Dev) (n vc : Nat) (bs : List Nat) : IdcTouch d (d.kspSend n vc bs) := by
  have h := d.sansSend_kspSend n vc bs
  refine Touches.of_regs (congrArg Dev.regs h :) (Prod.ext (congrArg Dev.idcRest h :) (funext fun k => ?_))
  exact (congrArg (fun x : Dev => (x.idcCh k).mode) h :)

theorem idcTouch_kinkMiss (d : Dev) (now : Nat) {c : Nat} (hc : c < 32) (openKind missed : Bool) :
    IdcTouch d (d.kinkMiss now c openKind missed) := by
  unfold Dev.kinkMiss
  extract_lets ch run run' lost d1 d2
  have h1 : IdcTouch d d1 := idcTouch_modIdc d c _ (fun x => by cases openKind <;> rfl)
  have h2 : IdcTouch d1 d2 := Touches.opt (by
    cases openKind
    · exact Touches.bump _ _ (by clear * - hc; decide +revert) (by rfl)
    · exact Touches.bump _ _ (by clear * - hc; decide +revert) (by rfl))
  exact (h1.trans h2).trans (Touches.opt (Touches.fire _ _ _ _ _ (by intros; rfl)))

theorem idcTouch_finishRecord (d : Dev) (now : Nat) {c : Nat} (hc : c < 32) : IdcTouch d (d.finishRecord now c) := by
  unfold Dev.finishRecord
  split
  · exact Touches.refl d
  rename_i p hp
  refine Touches.ite (fun _ => idcTouch_modIdc d c _ (by intro; rfl)) (fun _ => ?_)
  extract_lets r q coil temp ws d1 d2 d3 d4 use ce d5 d6
  have h1 : IdcTouch d d1 := (idcTouch_modIdc d c _ (by intro; rfl)).trans (idcTouch_modIdc _ c _ (by intro; rfl))
  have h2 : IdcTouch d1 d2 :=
    (Touches.wr d1 (IDC.TEMP_LAST c) _ (by clear * - hc; decide +revert) (by rfl)).trans
      (Touches.wr _ (IDC.PK_WARN c) _ (by clear * - hc; decide +revert) (by rfl))
  have h3 : IdcTouch d2 d3 := Touches.opt (idcTouch_kinkMiss d2 now hc _ _)
  have h4 : IdcTouch d3 d4 := Touches.opt (idcTouch_kinkMiss d3 now hc _ _)
  have h5 : IdcTouch d4 d5 := by
    show IdcTouch d4 (match q.pt with
      | none => d4
      | some n => _)
    split
    · exact Touches.refl d4
    · extract_lets d7 d8
      have h7 : IdcTouch d4 d7 := by
        show IdcTouch d4 (match q.openT with
          | some t => _
          | none => d4)
        split
        · exact Touches.opt (confTouch_latSample _ _ _ _ _ _).idc
        · exact Touches.refl d4
      have h8 : IdcTouch d7 d8 := by
        show IdcTouch d7 (match q.seatT with
          | some t => _
          | none => d7)
        split
        · exact Touches.opt (confTouch_latSample _ _ _ _ _ _).idc
        · exact Touches.refl d7
      exact (h7.trans h8).trans (confTouch_covRecord _ _ _ _ _ _).idc
  have h6 : IdcTouch d5 d6 := idcTouch_tstRecord _ _ _ _
  exact ((((((h1.trans h2).trans h3).trans h4).trans h5).trans h6)).trans (Touches.opt (idcTouch_kspSend _ _ _ _))

theorem idcTouch_startPulse (d : Dev) (now : Nat) {c : Nat} (hc : c < 32) (limit : Option Nat) :
    IdcTouch d (d.startPulse now c limit) := by
  unfold Dev.startPulse
  split
  · exact Touches.refl d
  extract_lets d1 p1 p2 seq p3 p4 d2 g d3 d4 d5 d6 d7
  have h1 : IdcTouch d d1 := idcTouch_finishRecord d now hc
  have h2 : IdcTouch d1 d2 := idcTouch_modIdc _ c _ (by intro; rfl)
  have h3 : IdcTouch d2 d3 := Touches.opt (Touches.bump _ _ (by subst g; clear * - hc; decide +revert) (by rfl))
  have h4 : IdcTouch d3 d4 := Touches.opt (Touches.bump _ _ (by subst g; clear * - hc; decide +revert) (by rfl))
  have h5 : IdcTouch d4 d5 := Touches.opt (Touches.bump _ _ (by subst g; clear * - hc; decide +revert) (by rfl))
  have h6 : IdcTouch d5 d6 := Touches.bump _ _ (by clear * - hc; decide +revert) (by rfl)
  have h7 : IdcTouch d6 d7 := Touches.opt (Touches.bump _ _ (by clear * - hc; decide +revert) (by rfl))
  refine ((((((h1.trans h2).trans h3).trans h4).trans h5).trans h6).trans h7).trans ?_
  split
  · exact idcTouch_covPair (covPair_modPaint _ _ _)
  · exact Touches.refl d7

theorem idcTouch_admitStart (d : Dev) (now : Nat) {c : Nat} (hc : c < 32) : IdcTouch d (d.admitStart now c) := by
  unfold Dev.admitStart
  split
  · exact Touches.refl d
  extract_lets g load lim head pol ahead share q
  exact Touches.ite (fun _ => idcTouch_startPulse d now hc _)
    (fun _ => Touches.ite (fun _ => idcTouch_startPulse d now hc _) (fun _ => idcTouch_modIdc d c _ (by intro; rfl)))

theorem idcTouch_askStart (d : Dev) (now : Nat) {c : Nat} (hc : c < 32) : IdcTouch d (d.askStart now c) := by
  have hgo : ∀ p : Pulse, IdcTouch d ((d.modIdc c (fun x => { x with pulse := some p })).admitStart now c) := fun p =>
    (idcTouch_modIdc d c _ (by intro; rfl)).trans (idcTouch_admitStart _ now hc)
  unfold Dev.askStart
  split
  · exact Touches.refl d
  extract_lets p minOn
  split
  · exact Touches.ite (fun _ => Touches.ite (fun _ => idcTouch_modIdc d c _ (by intro; rfl)) (fun _ => hgo _)) (fun _ => hgo _)
  · exact hgo _

theorem idcTouch_endDrive (d : Dev) (now c : Nat) (fl : List Nat) (slow : Bool) : IdcTouch d (d.endDrive now c fl slow) := by
  unfold Dev.endDrive
  split
  · exact idcTouch_modIdc d c _ (by intro; rfl)
  · exact Touches.refl d

theorem groupChs_lt {g c : Nat} (hg : g < 8) (hc : c ∈ groupChs g) : c < 32 := by
  simp only [groupChs, List.mem_map, List.mem_range] at hc
  omega

theorem regTouch_idcShow (d : Dev) {g : Nat} (hg : g < 8) : RegTouch channelPages d (d.idcShow g) := by
  unfold Dev.idcShow
  extract_lets d1 load hsg w
  have h1 : RegTouch channelPages d d1 := Touches.each _ _ (fun x c hc => by
    have hc := groupChs_lt hg hc
    exact (Touches.wr x (IDC.CH_STATE c) _ (by clear * - hc; decide +revert) (by rfl)).trans
      (Touches.wr _ (IDC.PHASE c) _ (by clear * - hc; decide +revert) (by rfl))) d
  clear_value w hsg load d1
  exact ((h1.trans (Touches.wr d1 (IDG.LOAD_NOW g) _ (by clear * - hg; decide +revert) (by rfl))).trans
    (Touches.wr _ (IDG.HSG_ON g) _ (by clear * - hg; decide +revert) (by rfl))).trans (Touches.wr _ (IDG.WAITING g) _ (by clear * - hg; decide +revert) (by rfl))

theorem idcTouch_idcShow (d : Dev) {g : Nat} (hg : g < 8) : IdcTouch d (d.idcShow g) :=
  (regTouch_idcShow d hg).mono (by decide) (fun hk => (congrArg Dev.idcKeep hk :))

theorem idcTouch_readmit (d : Dev) (now : Nat) {g : Nat} (hg : g < 8) : IdcTouch d (d.readmit now g) := by
  unfold Dev.readmit
  extract_lets d1 key ws
  have h1 : IdcTouch d d1 := Touches.each _ _ (fun x c _ => by
    dsimp only
    split
    · split
      · exact idcTouch_modIdc x c _ (by intro; rfl)
      · exact Touches.refl x
    · exact Touches.refl x) d
  have h2 : IdcTouch d1 (d1.each ws (fun d c => d.admitStart now c)) := Touches.each _ _ (fun x c hc => by
    have hc : c ∈ groupChs g := (List.mem_filter.mp ((List.mergeSort_perm _ _).mem_iff.mp hc)).1
    exact idcTouch_admitStart x now (groupChs_lt hg hc)) d1
  exact (h1.trans h2).trans (idcTouch_idcShow _ hg)

theorem idcTouch_nextPhase (d : Dev) (t : Nat) {c : Nat} (hc : c < 32) (p : Pulse) (lim : Bool) : IdcTouch d (d.nextPhase t c p lim) := by
  unfold Dev.nextPhase
  extract_lets miss q d1
  have h1 : IdcTouch d d1 := Touches.opt (Touches.wr _ _ _ (by clear * - hc; decide +revert) (by rfl))
  exact (h1.trans (idcTouch_modIdc d1 c _ (by intro; rfl))).trans (idcTouch_readmit _ t (by omega))

theorem idcTouch_idcTimeN (fuel : Nat) (d : Dev) (t : Nat) {c : Nat} (hc : c < 32) : IdcTouch d (Dev.idcTimeN fuel d t c) := by
  have hg : c / 4 < 8 := by omega
  induction fuel generalizing d with
  | zero => exact Touches.refl d
  | succ fuel ih =>
    unfold Dev.idcTimeN
    split
    · exact Touches.refl d
    · refine Touches.ite (fun _ => Touches.refl d) (fun _ => ?_)
      extract_lets d1
      refine Touches.trans (b := d1) ?_ (ih d1)
      subst d1
      split
      · exact (idcTouch_endDrive _ _ _ _ _).trans (idcTouch_readmit _ _ hg)
      · exact idcTouch_nextPhase _ _ hc _ _
      · exact (idcTouch_cancelStart _ _ hc).trans (idcTouch_readmit _ _ hg)
      · exact (idcTouch_askStart _ _ hc).trans (idcTouch_readmit _ _ hg)
      · exact Touches.refl d

theorem idcTouch_idcOn (d : Dev) (now : Nat) {c : Nat} (hc : c < 32) (k : DrvCmd) : IdcTouch d (d.idcOn now c k) := by
  unfold Dev.idcOn
  extract_lets ch d1
  have h1 : IdcTouch d d1 := by
    subst d1
    split
    · exact Touches.refl d
    · exact idcTouch_covPair (covPair_covPulseCmd _ _ _)
    · exact Touches.refl d
  refine h1.trans (Touches.ite (fun _ => Touches.refl d1) (fun _ => ?_))
  split
  · exact idcTouch_modIdc d1 c _ (by intro; rfl)
  · exact Touches.ite (fun _ => idcTouch_modIdc d1 c _ (by intro; rfl)) (fun _ => (idcTouch_modIdc d1 c _ (by intro; rfl)).trans (idcTouch_askStart _ _ hc))

theorem idcTouch_idcOff (d : Dev) (now : Nat) {c : Nat} (hc : c < 32) (k : DrvCmd) : IdcTouch d (d.idcOff now c k) := by
  have hend : ∀ (p : Pulse) fl, IdcTouch d ((d.modIdc c (fun x => { x with pulse := some p })).endDrive now c fl false) := fun p fl =>
    (idcTouch_modIdc d c _ (by intro; rfl)).trans (idcTouch_endDrive _ _ _ _ _)
  unfold Dev.idcOff
  dsimp only
  split
  · split
    · exact Touches.ite (fun _ => hend _ _) (fun _ => idcTouch_modIdc d c _ (by intro; rfl))
    · exact Touches.ite (fun _ => idcTouch_endDrive _ _ _ _ _) (fun _ => Touches.ite (fun _ => idcTouch_modIdc d c _ (by intro; rfl)) (fun _ => hend _ _))
  · exact idcTouch_cancelStart d now hc

theorem idcTouch_idcRunN (fuel : Nat) (d : Dev) (now : Nat) {c : Nat} (hc : c < 32) : IdcTouch d (Dev.idcRunN fuel d now c) := by
  induction fuel generalizing d with
  | zero => exact Touches.refl d
  | succ fuel ih =>
    unfold Dev.idcRunN
    split
    · exact idcTouch_idcTimeN 24 d now hc
    · refine Touches.ite (fun _ => ?_) (fun _ => idcTouch_idcTimeN 24 d now hc)
      extract_lets d1 d2
      have h1 : IdcTouch d d1 := (idcTouch_idcTimeN 24 d _ hc).trans (idcTouch_modIdc _ c _ (by intro; rfl))
      have h2 : IdcTouch d1 d2 := Touches.ite (fun _ => idcTouch_idcOn d1 now hc _) (fun _ => idcTouch_idcOff d1 now hc _)
      exact ((h1.trans h2).trans (idcTouch_readmit _ _ (by omega))).trans (ih _)

theorem idcTouch_idcRun (d : Dev) (now : Nat) {c : Nat} (hc : c < 32) : IdcTouch d (d.idcRun now c) := idcTouch_idcRunN _ d now hc

theorem idcTouch_chPaint (d : Dev) (c t : Nat) (on_ : Bool) : IdcTouch d (d.chPaint c t on_) := by
  unfold Dev.chPaint
  split
  · exact idcTouch_covPair (covPair_covWindow _ _ _ _ _ _)
  · exact Touches.refl d

theorem idcTouch_chOff (d : Dev) (c t : Nat) : IdcTouch d (d.chOff c t) := idcTouch_modIdc d c _ (by intro; rfl)

theorem idcTouch_chOn (d : Dev) (c t b : Nat) : IdcTouch d (d.chOn c t b) := by
  refine idcTouch_modIdc d c _ (fun x => ?_)
  split
  · dsimp only
    split
    · rfl
    · split <;> rfl
  · rfl

end Sys2Proof.Machine
end

section
/-! PROOFS. What the operations of load switches and PWM outputs change, and the outputs as a whole. -/
namespace Sys2Proof.Machine

/-- Address range of the load-switch pages. -/
abbrev lswPages : List (Nat × Nat) := [(0x048000, 0x04A000)]

/-- What a switch's operations leave as it was: its snuff state, its hold window, its commands and its commanded state. -/
def LswCh.mode (x : LswCh) : Option Nat × Option Nat × List LswCmd × Bool × Nat := (x.snuff, x.holdEnd, x.cmds, x.com, x.force)

/-- The block without registers and the parts a load switch's operations change. -/
def Dev.sansLswParts (d : Dev) : Dev := { d with regs := [], cov := {}, pair := {}, lsw := [] }

/-- What the operations of the load switches leave as it was. -/
def Dev.lswKeep (d : Dev) : Dev × (Nat → Option Nat × Option Nat × List LswCmd × Bool × Nat) :=
  (d.sansLswParts, fun k => (d.lswCh k).mode)

theorem Dev.lswCh_modLsw_self (d : Dev) (n : Nat) (f : LswCh → LswCh) : (d.modLsw n f).lswCh n = f (d.lswCh n) := tget_tmod_self _ _ _

theorem Dev.lswCh_modLsw_ne (d : Dev) {n k : Nat} (f : LswCh → LswCh) (h : n ≠ k) : (d.modLsw n f).lswCh k = d.lswCh k := tget_tmod_ne _ _ h

/-- An operation of the load switches. -/
abbrev LswTouch (d e : Dev) : Prop := Touches lswPages Dev.lswKeep d e

theorem lswTouch_modLsw (d : Dev) (n : Nat) (f : LswCh → LswCh) (hf : ∀ x, (f x).mode = x.mode) :
    LswTouch d (d.modLsw n f) := by
  exact Touches.of_regs rfl (Prod.ext rfl (funext fun k => tget_tmod_keeps LswCh.mode d.lsw n hf k))

theorem lswTouch_covPair {d e : Dev} (h : CovPair d e) : LswTouch d e := h.touches (by intros; rfl)

theorem lswTouch_lswShow (d : Dev) (now : Nat) {n : Nat} (hn : n < 16) : LswTouch d (d.lswShow now n) :=
  Touches.wr d (LSW.CH_STATE n) _ (by clear * - hn; decide +revert) (by rfl)

theorem lswTouch_lswStart (d : Dev) (now : Nat) {n : Nat} (hn : n < 16) (cut : Option Nat) : LswTouch d (d.lswStart now n cut) := by
  unfold Dev.lswStart
  extract_lets c d1 d2 d3
  have h1 : LswTouch d d1 := lswTouch_modLsw d n _ (by intro; rfl)
  have h2 : LswTouch d1 d2 := Touches.bump _ _ (by clear * - hn; decide +revert) (by rfl)
  have h3 : LswTouch d2 d3 := by
    subst d3
    split
    · exact Touches.ite (fun _ => Touches.refl d2) (fun _ =>
        lswTouch_covPair ((covPair_covLoad _ _ _ _).trans (covPair_pushEdge _ _ _ _)))
    · exact Touches.refl d2
  exact ((h1.trans h2).trans h3).trans (lswTouch_lswShow d3 now hn)

/-- A fold that keeps its state or takes the element gives an element of the list. -/
theorem foldl_pick_mem {α : Type} (f : Option α → α → Option α) (hf : ∀ m x, f m x = m ∨ f m x = some x) (l : List α) {m : Option α} {y : α}
    (h : l.foldl f m = some y) : m = some y ∨ y ∈ l := by
  induction l generalizing m with
  | nil => exact .inl h
  | cons x l ih =>
    rcases ih h with hm | hy
    · rcases hf m x with hfx | hfx
      · exact .inl (hfx.symm.trans hm)
      · exact .inr (by simp [Option.some.inj (hfx.symm.trans hm)])
    · exact .inr (List.mem_cons_of_mem _ hy)

theorem bankSwitches_lt {b n : Nat} (hb : b < 4) (hn : n ∈ bankSwitches b) : n < 16 := by
  simp only [bankSwitches, List.mem_cons, List.not_mem_nil, or_false] at hn
  omega

theorem lswTouch_lswAdmitN (fuel : Nat) (d : Dev) (now : Nat) {b : Nat} (hb : b < 4) : LswTouch d (Dev.lswAdmitN fuel d now b) := by
  induction fuel generalizing d with
  | zero => exact Touches.refl d
  | succ fuel ih =>
    unfold Dev.lswAdmitN
    extract_lets waiting
    split
    · exact Touches.refl d
    rename_i t n hpick
    have hmem : (t, n) ∈ waiting := (foldl_pick_mem _ (fun m x => by cases m <;> dsimp only; · simp
                                                                     · split <;> simp) waiting hpick).resolve_left (by simp)
    have hn : n < 16 := by
      simp only [waiting, List.mem_filterMap, List.mem_filter, Option.map_eq_some_iff, Prod.mk.injEq] at hmem
      obtain ⟨m, ⟨hm, -⟩, _, -, -, rfl⟩ := hmem
      exact bankSwitches_lt hb hm
    exact Touches.ite (fun _ => (lswTouch_lswStart d now hn _).trans (ih _))
      (fun _ => Touches.ite (fun _ => (lswTouch_lswStart d now hn _).trans (ih _)) (fun _ => Touches.refl d))

theorem lswTouch_lswAdmit (d : Dev) (now : Nat) {b : Nat} (hb : b < 4) : LswTouch d (d.lswAdmit now b) := lswTouch_lswAdmitN 4 d now hb

theorem lswBank_lt (n : Nat) : lswBank n < 4 := by unfold lswBank; omega

theorem lswTouch_lswStop (d : Dev) (now : Nat) {n : Nat} (hn : n < 16) : LswTouch d (d.lswStop now n) := by
  unfold Dev.lswStop
  extract_lets was d1 d2 d3
  have h1 : LswTouch d d1 := lswTouch_modLsw d n _ (by intro; rfl)
  have h3 : LswTouch d1 d3 := by
    refine Touches.ite (fun _ => ?_) (fun _ => Touches.refl d1)
    refine Touches.trans (b := d2) (Touches.wr d1 (LSW.I_MEAS n) _ (by clear * - hn; decide +revert) (by rfl)) ?_
    split
    · exact lswTouch_covPair (covPair_pushEdge _ _ _ _)
    · exact Touches.refl d2
  exact ((h1.trans h3).trans (lswTouch_lswAdmit d3 now (lswBank_lt n))).trans (lswTouch_lswShow _ now hn)

theorem lswTouch_lswApply (d : Dev) (now cmd : Nat) {n : Nat} (hn : n < 16) : LswTouch d (d.lswApply now cmd n) := by
  unfold Dev.lswApply
  extract_lets w c d1
  refine Touches.ite (fun _ => Touches.ite (fun _ => lswTouch_lswStop d now hn) (fun _ => lswTouch_lswShow d now hn)) (fun _ => ?_)
  refine Touches.ite (fun _ => (lswTouch_modLsw d n _ (by intro; rfl)).trans (lswTouch_lswShow _ now hn)) (fun _ => ?_)
  refine Touches.ite (fun _ => Touches.refl d) (fun _ => ?_)
  have h1 : LswTouch d d1 := (lswTouch_modLsw d n _ (by intro; rfl)).trans (lswTouch_lswAdmit _ now (lswBank_lt n))
  exact h1.trans (Touches.opt ((Touches.bump _ _ (by decide) (by rfl)).trans (lswTouch_lswShow _ now hn)))

/-- Address range of the PWM and trip pages. -/
abbrev pwmPages : List (Nat × Nat) := [(0x04A000, 0x04C000)]

/-- The block without registers and the PWM outputs. -/
def Dev.sansPwmParts (d : Dev) : Dev := { d with regs := [], pwm := {} }

/-- What the operations of the PWM outputs leave as it was. -/
def Dev.pwmKeep (d : Dev) : Dev × Bool := (d.sansPwmParts, d.pwm.snuff)

/-- An operation of the PWM outputs. -/
abbrev PwmTouch (d e : Dev) : Prop := Touches pwmPages Dev.pwmKeep d e

theorem PwmTouch.snuff {d e : Dev} (h : PwmTouch d e) : e.pwm.snuff = d.pwm.snuff := congrArg Prod.snd h.rest

theorem pwmTouch_modPwm (d : Dev) (n : Nat) (f : PwmOut → PwmOut) : PwmTouch d (d.modPwm n f) := Touches.of_regs rfl rfl

theorem pwmTouch_pwmTurns (d : Dev) (n u : Nat) (before : Bool) : PwmTouch d (d.pwmTurns n u before) :=
  Touches.opt (pwmTouch_modPwm d _ _)

theorem pwmTouch_pwmTake (d : Dev) (fs : List Field) : PwmTouch d (d.pwmTake fs) :=
  Touches.each _ _ (fun x f _ => by
    dsimp only
    split
    · exact Touches.refl x
    · exact Touches.of_regs rfl rfl) d

theorem pwmTouch_tripShow (d : Dev) : PwmTouch d d.tripShow :=
  (Touches.wr d TRIP.GRP_HELD _ (by decide) (by rfl)).trans (Touches.wr _ TRIP.TRIP_LATCHED _ (by decide) (by rfl))

theorem pwmTouch_tripBoundary (d : Dev) (k t : Nat) : PwmTouch d (d.tripBoundary k t) := by
  unfold Dev.tripBoundary
  extract_lets was d1 d2
  have h1 : PwmTouch d d1 := by
    refine Touches.each _ _ (fun x t _ => ?_) d
    exact Touches.opt (Touches.of_regs rfl rfl)
  exact (h1.trans (pwmTouch_tripShow d1)).trans (Touches.opt (pwmTouch_pwmTurns _ _ _ _))

theorem pwmTouch_pwmSyncGov (d : Dev) (now : Nat) {n : Nat} (hn : n < 12) : PwmTouch d (d.pwmSyncGov now n) := by
  unfold Dev.pwmSyncGov
  extract_lets o u b p0 before d1 d2 d3 d4 p k started sh d5 d6 d7
  refine Touches.ite (fun _ => pwmTouch_modPwm d n _) (fun _ => ?_)
  have h4 : PwmTouch d d4 := by
    refine Touches.opt ?_
    have h2 : PwmTouch d d2 := (pwmTouch_modPwm d n _).trans (pwmTouch_pwmTake _ _)
    have h3 : PwmTouch d2 d3 := Touches.ite (fun _ => Touches.refl d2) (fun _ => pwmTouch_pwmTurns d2 _ _ _)
    exact (h2.trans h3).trans (Touches.opt (pwmTouch_modPwm d3 _ _))
  clear_value d4
  have h5 : PwmTouch d4 d5 := (Touches.wr d4 PWM.MINP_DROP_CNT _ (by decide) (by rfl)).trans (Touches.wr _ PWM.MINP_STR_CNT _ (by decide) (by rfl))
  clear_value d5
  have h7 : PwmTouch d5 d7 := (pwmTouch_modPwm d5 n _).trans (Touches.wr _ (PWM.CMP_ACT n) _ (by clear * - hn; decide +revert) (by rfl))
  exact ((h4.trans h5).trans h7).trans (Touches.opt (pwmTouch_tripBoundary _ _ _))

theorem Dev.pwmGov_lt (d : Dev) {n : Nat} (hn : n < 12) : d.pwmGov n < 12 := by
  unfold Dev.pwmGov
  split <;> omega

theorem pwmTouch_pwmSyncAll (d : Dev) (now : Nat) : PwmTouch d (d.pwmSyncAll now) :=
  Touches.each _ _ (fun x _ hn => pwmTouch_pwmSyncGov x now (x.pwmGov_lt (List.mem_range.mp hn))) d

/-- The PWM outputs go into their snuff states, or leave them. -/
theorem pwmSnuffSet_spec (d : Dev) (now : Nat) (on_ : Bool) :
    Touches pwmPages Dev.sansPwmParts d (d.pwmSnuffSet now on_) ∧ (d.pwmSnuffSet now on_).pwm.snuff = on_ := by
  unfold Dev.pwmSnuffSet
  extract_lets o _ d1
  have ho : Touches pwmPages Dev.sansPwmParts d o :=
    (pwmTouch_pwmSyncAll d now).mono (fun p hp => ⟨p, hp, le_rfl, le_rfl⟩) (congrArg Prod.fst)
  have h1 : Touches pwmPages Dev.sansPwmParts o d1 := Touches.of_regs rfl rfl
  have hon : d1.pwm.snuff = on_ := rfl
  clear_value d1
  have hturns := Touches.each (List.range 12)
    (fun (d : Dev) n => (d.modPwm n (fun x => { x with edgeAt := some now })).pwmTurns n now (o.pwmRefAt (now - 1) (o.pwmGov n)))
    (fun x n _ => (pwmTouch_modPwm x n _).trans (pwmTouch_pwmTurns _ _ _ _)) d1
  exact ⟨(ho.trans h1).trans (hturns.mono (fun p hp => ⟨p, hp, le_rfl, le_rfl⟩) (congrArg Prod.fst)), (PwmTouch.snuff hturns).trans hon⟩

end Sys2Proof.Machine
end

section
/-! PROOFS. The outputs of the block as a whole: what a snuff path's start and end change. -/
namespace Sys2Proof.Machine

theorem Dev.each_range_succ (d : Dev) (n : Nat) (f : Dev → Nat → Dev) :
    d.each (List.range (n + 1)) f = f (d.each (List.range n) f) n := by
  simp [Dev.each, List.range_succ]

/-- A loop over `0 … n - 1` whose turn `c` sets what `g` shows of `c` to `v c` and leaves what it shows of every other index. -/
theorem Dev.each_range_sets {β : Type} (P : Dev → Prop) (g : Dev → Nat → β) (v : Nat → β) (f : Dev → Nat → Dev) (d : Dev) (hd : P d)
    (n : Nat) (hstep : ∀ x c, c < n → P x → P (f x c) ∧ g (f x c) c = v c ∧ ∀ k, k ≠ c → g (f x c) k = g x k) :
    P (d.each (List.range n) f) ∧ (∀ c, c < n → g (d.each (List.range n) f) c = v c) ∧
      ∀ k, n ≤ k → g (d.each (List.range n) f) k = g d k := by
  induction n with
  | zero => exact ⟨hd, fun c hc => absurd hc (by omega), fun _ _ => rfl⟩
  | succ n ih =>
    obtain ⟨hP, hset, hkeep⟩ := ih (fun x c hc => hstep x c (by omega))
    rw [Dev.each_range_succ]
    obtain ⟨hP', hn, hne⟩ := hstep _ n (by omega) hP
    refine ⟨hP', fun c hc => ?_, fun k hk => (hne k (by omega)).trans (hkeep k (by omega))⟩
    by_cases hcn : c = n
    · rw [hcn, hn]
    · exact (hne c hcn).trans (hset c (by omega))

theorem IdcTouch.mode {d e : Dev} (h : IdcTouch d e) (c : Nat) : (e.idcCh c).mode = (d.idcCh c).mode := congrFun (congrArg Prod.snd h.rest) c

theorem LswTouch.mode {d e : Dev} (h : LswTouch d e) (n : Nat) : (e.lswCh n).mode = (d.lswCh n).mode := congrFun (congrArg Prod.snd h.rest) n

/-- Address ranges of the count of unconfirmed movements, the actuator, load-switch, PWM and trip pages. -/
abbrev drivePages : List (Nat × Nat) := [(0x030064, 0x030068), (0x040000, 0x04C000)]

/-- The block without registers, recorder, and the parts that driving its outputs changes. -/
def Dev.sansDrive (d : Dev) : Dev :=
  { d with
    regs := []
    evh := {}
    rec_ := {}
    tst := {}
    cov := {}
    dec := {}
    ksp := []
    pair := {}
    idc := []
    lsw := []
    pwm := {}
    can := []
    vnp := [] }

/-- What the operations of the block's outputs leave as it was. -/
def Dev.driveKeep (d : Dev) : Dev × (Nat → TstSlot) := (d.sansDrive, d.testTimes)

/-- An operation of the block's outputs. -/
abbrev Driven (d e : Dev) : Prop := Touches drivePages Dev.driveKeep d e

theorem Driven.sansDrive {d e : Dev} (h : Driven d e) : e.sansDrive = d.sansDrive := congrArg Prod.fst h.rest

/-- The times of a self-test stand under every operation of the outputs. -/
theorem Driven.testTimes {d e : Dev} (h : Driven d e) (q : Nat) : e.testTimes q = d.testTimes q := congrFun (congrArg Prod.snd h.rest) q

theorem IdcTouch.driven {d e : Dev} (h : IdcTouch d e) : Driven d e :=
  h.mono (by decide) (fun hk => by
    have hk : e.idcRest = d.idcRest := congrArg Prod.fst hk
    exact congrArg (fun x : Dev × (Nat → TstSlot) => (x.1.sansDrive, x.2)) hk)

theorem LswTouch.driven {d e : Dev} (h : LswTouch d e) : Driven d e :=
  h.mono (by decide) (fun hk => (congrArg (fun x : Dev × (Nat → Option Nat × Option Nat × List LswCmd × Bool × Nat) => x.1.driveKeep) hk :))

theorem driven_of_idc {d e : Dev} (h : Touches idcPages Dev.idcRest d e) : Driven d e :=
  h.mono (by decide) (fun hk => congrArg (fun x : Dev × (Nat → TstSlot) => (x.1.sansDrive, x.2)) hk)

theorem driven_of_pwm {d e : Dev} (h : Touches pwmPages Dev.sansPwmParts d e) : Driven d e :=
  h.mono (by decide) (fun hk => (congrArg Dev.driveKeep hk :))

/-- A channel that takes its snuff state keeps every other channel's snuff state and hold window. -/
theorem idcSnuff_spec (d : Dev) (now : Nat) {c : Nat} (hc : c < 32) (b : Nat) :
    Touches idcPages Dev.idcRest d (d.idcSnuff now c b) ∧
      ((d.idcSnuff now c b).idcCh c).mode = (some (d.rd (WDG.SNUFF_STATE c)), none) ∧
      ∀ k, k ≠ c → ((d.idcSnuff now c b).idcCh k).mode = (d.idcCh k).mode := by
  unfold Dev.idcSnuff
  extract_lets st d1 g d2
  have h1 : Touches idcPages Dev.idcRest d d1 := Touches.of_regs rfl rfl
  have hself : (d1.idcCh c).mode = (some st, none) := by
    show ((d.modIdc c _).idcCh c).mode = _
    rw [d.idcCh_modIdc_self]
    rfl
  have hst : st = d.rd (WDG.SNUFF_STATE c) := rfl
  have hne : ∀ k, k ≠ c → (d1.idcCh k).mode = (d.idcCh k).mode := fun k hk => congrArg IdcCh.mode (d.idcCh_modIdc_ne _ hk.symm)
  clear_value g d1 st
  have hrun : IdcTouch d1 ((d2.idcRun now c).idcShow (c / 4)) := by
    refine Touches.trans (Touches.trans (b := d2) ?_ (idcTouch_idcRun d2 now hc)) (idcTouch_idcShow _ (by omega))
    subst d2
    split
    · exact ((idcTouch_modIdc d1 c _ (by intro; rfl)).trans (idcTouch_chOff _ _ _)).trans (idcTouch_chPaint _ _ _ _)
    · exact ((idcTouch_modIdc d1 c _ (by intro; rfl)).trans (idcTouch_chOn _ _ _ _)).trans (idcTouch_chPaint _ _ _ _)
    · exact Touches.refl d1
    · exact (((idcTouch_modIdc d1 c _ (by intro; rfl)).trans (idcTouch_chOff _ _ _)).trans (idcTouch_chOn _ _ _ _)).trans (idcTouch_chPaint _ _ _ _)
  exact ⟨h1.trans (hrun.mono (by decide) (congrArg Prod.fst)), (hrun.mode c).trans (hst ▸ hself), fun k hk => (hrun.mode k).trans (hne k hk)⟩

/-- The stored snuff states stand under every operation of the outputs. -/
theorem Driven.snuffState {d e : Dev} (h : Driven d e) {i : Nat} (hi : i < 60) : e.rd (WDG.SNUFF_STATE i) = d.rd (WDG.SNUFF_STATE i) :=
  h.rd (WDG.SNUFF_STATE i) (by clear * - hi; decide +revert) (by clear * - hi; decide +revert) (by clear * - hi; decide +revert)

/-- Every actuator channel takes its snuff state. -/
def Dev.idcSnuffAll (d : Dev) (now : Nat) : Dev := d.each (List.range 32) (fun d c => d.idcSnuff now c (d.snuffUntil now))

theorem idcSnuffAll_spec (d : Dev) (now : Nat) :
    Driven d (d.idcSnuffAll now) ∧ ∀ c, c < 32 → ((d.idcSnuffAll now).idcCh c).mode = (some (d.rd (WDG.SNUFF_STATE c)), none) := by
  have h := Dev.each_range_sets (fun x => Driven d x) (fun x c => (x.idcCh c).mode)
    (fun c => (some (d.rd (WDG.SNUFF_STATE c)), none)) (fun d c => d.idcSnuff now c (d.snuffUntil now)) d (Touches.refl d) 32
    (fun x c hc hx => by
      obtain ⟨ht, hself, hne⟩ := idcSnuff_spec x now hc (x.snuffUntil now)
      exact ⟨hx.trans (driven_of_idc ht), hself.trans (congrArg (fun v => (some v, none)) (hx.snuffState (by omega))), hne⟩)
  exact ⟨h.1, h.2.1⟩

/-- Every load switch takes its snuff state. -/
def Dev.lswSnuffAll (d : Dev) : Dev := d.each (List.range 16) (fun d n => d.lswSnuffSet n)

theorem lswSnuffAll_spec (d : Dev) :
    Driven d d.lswSnuffAll ∧ d.lswSnuffAll.idc = d.idc ∧
      ∀ n, n < 16 → (d.lswSnuffAll.lswCh n).snuff = some (d.rd (WDG.SNUFF_STATE (32 + n))) := by
  have h := Dev.each_range_sets (fun x => Driven d x ∧ x.idc = d.idc) (fun x n => (x.lswCh n).snuff)
    (fun n => some (d.rd (WDG.SNUFF_STATE (32 + n)))) (fun d n => d.lswSnuffSet n) d ⟨Touches.refl d, rfl⟩ 16
    (fun x n hn hx => by
      refine ⟨⟨hx.1.trans (Touches.of_regs rfl rfl), hx.2⟩, ?_, fun k hk => congrArg LswCh.snuff (x.lswCh_modLsw_ne _ hk.symm)⟩
      show ((x.modLsw n _).lswCh n).snuff = _
      rw [x.lswCh_modLsw_self, ← hx.1.snuffState (by omega : 32 + n < 60)])
  exact ⟨h.1.1, h.1.2, h.2.1⟩

/-- Every load switch follows its snuff state. -/
def Dev.lswApplyAll (d : Dev) (now : Nat) : Dev := d.each (List.range 16) (fun d n => d.lswApply now now n)

theorem lswTouch_lswApplyAll (d : Dev) (now : Nat) : LswTouch d (d.lswApplyAll now) :=
  Touches.each _ _ (fun x _ hn => lswTouch_lswApply x now now (List.mem_range.mp hn)) d

/-- The starts that a snuff state of 0 cancels. -/
def Dev.snuffCancels (d : Dev) (now : Nat) : Dev :=
  d.each (List.range 32) (fun d c => if d.rd (WDG.SNUFF_STATE c) = 0 then d.cancelStart now c else d)

theorem idcTouch_snuffCancels (d : Dev) (now : Nat) : IdcTouch d (d.snuffCancels now) :=
  Touches.each _ _ (fun x _ hc => Touches.opt (idcTouch_cancelStart x now (List.mem_range.mp hc))) d

theorem Dev.outputsSnuff_of_driving {d : Dev} (now : Nat) (hdrv : d.driving = true) :
    d.outputsSnuff now = ((((d.snuffCancels now).idcSnuffAll now).lswSnuffAll).lswApplyAll now).pwmSnuffSet now true := if_pos hdrv

/-- Every driven output takes its stored snuff state. -/
theorem outputsSnuff_spec (d : Dev) (now : Nat) (hdrv : d.driving = true) :
    Driven d (d.outputsSnuff now) ∧ (d.outputsSnuff now).pwm.snuff = true ∧
      (∀ c, c < 32 → ((d.outputsSnuff now).idcCh c).mode = (some (d.rd (WDG.SNUFF_STATE c)), none)) ∧
      (∀ n, n < 16 → ((d.outputsSnuff now).lswCh n).snuff = some (d.rd (WDG.SNUFF_STATE (32 + n)))) := by
  rw [Dev.outputsSnuff_of_driving now hdrv]
  have h1 := (idcTouch_snuffCancels d now).driven
  generalize d.snuffCancels now = d1 at h1 ⊢
  obtain ⟨h2, hidc2⟩ := idcSnuffAll_spec d1 now
  generalize d1.idcSnuffAll now = d2 at h2 hidc2 ⊢
  obtain ⟨h3, hidc3, hlsw3⟩ := lswSnuffAll_spec d2
  generalize d2.lswSnuffAll = d3 at h3 hidc3 hlsw3 ⊢
  have h4 := lswTouch_lswApplyAll d3 now
  generalize d3.lswApplyAll now = d4 at h4 ⊢
  obtain ⟨h5, hpwm⟩ := pwmSnuffSet_spec d4 now true
  generalize d4.pwmSnuffSet now true = d5 at h5 hpwm ⊢
  have hidc : d5.idc = d2.idc :=
    ((congrArg Dev.idc h5.rest :).trans (congrArg (fun x : Dev × (Nat → Option Nat × Option Nat × List LswCmd × Bool × Nat) => x.1.idc) h4.rest :)).trans hidc3
  have hlsw : d5.lsw = d4.lsw := (congrArg Dev.lsw h5.rest :)
  refine ⟨(((h1.trans h2).trans h3).trans h4.driven).trans (driven_of_pwm h5), hpwm, fun c hc => ?_, fun n hn => ?_⟩
  · rw [Dev.idcCh, hidc, ← h1.snuffState (by omega)]
    exact hidc2 c hc
  · rw [Dev.lswCh, hlsw, ← Driven.snuffState (h1.trans h2) (by omega), ← hlsw3 n hn]
    exact (congrArg Prod.fst (h4.mode n) :)

theorem outputsSnuff_driven (d : Dev) (now : Nat) : Driven d (d.outputsSnuff now) := by
  by_cases h : d.driving = true
  · exact (outputsSnuff_spec d now h).1
  · rw [Dev.outputsSnuff, if_neg h]
    exact Touches.refl d

/-- The block without controllers and nodes. -/
def Dev.sansBus (d : Dev) : Dev := { d with can := [], vnp := [] }

theorem Dev.sansBus_vnpSend (d : Dev) (b fn addr : Nat) (bs : List Nat) : (d.vnpSend b fn addr bs).sansBus = d.sansBus := by
  unfold Dev.vnpSend
  split <;> rfl

theorem Dev.sansBus_vnpSendFirst (d : Dev) (b fn addr : Nat) (bs : List Nat) : (d.vnpSendFirst b fn addr bs).sansBus = d.sansBus := by
  unfold Dev.vnpSendFirst
  split <;> rfl

theorem Dev.sansBus_vnpSnuff (d : Dev) (on_ : Bool) : (d.vnpSnuff on_).sansBus = d.sansBus :=
  Dev.each_keeps Dev.sansBus _ (fun d b => by
    show (Dev.modCan _ _ _).sansBus = _
    cases on_
    · exact (d.sansBus_vnpSend b 0 0 [0] :)
    · exact (d.sansBus_vnpSendFirst b 0 0 [1] :)) d _

theorem driven_of_sansBus {d e : Dev} (h : e.sansBus = d.sansBus) : Driven d e :=
  Touches.of_regs (congrArg Dev.regs h :) (congrArg Dev.driveKeep h :)

/-- A path runs, or SNUFFED stands. -/
def Dev.pathWanted (d : Dev) : Bool := d.wdg.safePath || d.wdg.wdgPath || d.pwr.st == .snuffed

theorem Dev.pathSync_of_starts {d : Dev} (now : Nat) (hw : d.pathWanted = true) (hact : d.on WDG.SNUFF_ACT = false) :
    d.pathSync now = ((d.wr WDG.SNUFF_ACT 1).outputsSnuff now).vnpSnuff true := if_pos (by rw [hact]; exact Bool.and_eq_true_iff.mpr ⟨hw, rfl⟩)

/-- The outputs leave their snuff states, and the nodes are told. -/
def Dev.pathEnd (d : Dev) (now : Nat) : Dev :=
  (((d.wr WDG.SNUFF_ACT 0).pwmSnuffSet now (d.pwr.outHold == .snuff)).vnpSnuff false).vnpResyncAll

theorem Dev.pathSync_of_ends {d : Dev} (now : Nat) (hw : d.pathWanted = false) (hact : d.on WDG.SNUFF_ACT = true) :
    d.pathSync now = { d.pathEnd now with dec := { (d.pathEnd now).dec with openOff := true } } := by
  unfold Dev.pathWanted at hw
  simp only [Dev.pathSync, hw, hact]
  rfl

theorem pathEnd_spec (d : Dev) (now : Nat) :
    Driven (d.wr WDG.SNUFF_ACT 0) (d.pathEnd now) ∧ (d.pathEnd now).dec = d.dec ∧ (d.pathEnd now).pwm.snuff = (d.pwr.outHold == .snuff) := by
  unfold Dev.pathEnd
  obtain ⟨ht, hpwm⟩ := pwmSnuffSet_spec (d.wr WDG.SNUFF_ACT 0) now (d.pwr.outHold == .snuff)
  generalize (d.wr WDG.SNUFF_ACT 0).pwmSnuffSet now (d.pwr.outHold == .snuff) = d1 at ht hpwm ⊢
  have hbus := d1.sansBus_vnpSnuff false
  generalize d1.vnpSnuff false = d2 at hbus ⊢
  refine ⟨((driven_of_pwm ht).trans (driven_of_sansBus hbus)).trans (Touches.of_regs rfl rfl), ?_, ?_⟩
  · exact (congrArg Dev.dec hbus :).trans (congrArg Dev.dec ht.rest :)
  · exact (congrArg (·.pwm.snuff) hbus :).trans hpwm

theorem Dev.pathSync_of_stands {d : Dev} (now : Nat) (h : d.pathWanted = d.on WDG.SNUFF_ACT) : d.pathSync now = d := by
  unfold Dev.pathWanted at h
  simp only [Dev.pathSync, h]
  cases d.on WDG.SNUFF_ACT <;> simp

/-- The start of a path: SNUFF_ACT is set, every driven output takes its stored snuff state. -/
theorem pathSync_starts (d : Dev) (now : Nat) (hw : d.pathWanted = true) (hact : d.on WDG.SNUFF_ACT = false) :
    Driven (d.wr WDG.SNUFF_ACT 1) (d.pathSync now) ∧ (d.driving = true → (d.pathSync now).pwm.snuff = true ∧
      (∀ c, c < 32 → ((d.pathSync now).idcCh c).snuff = some (d.rd (WDG.SNUFF_STATE c))) ∧
      (∀ n, n < 16 → ((d.pathSync now).lswCh n).snuff = some (d.rd (WDG.SNUFF_STATE (32 + n))))) := by
  rw [Dev.pathSync_of_starts now hw hact]
  have hbus := ((d.wr WDG.SNUFF_ACT 1).outputsSnuff now).sansBus_vnpSnuff true
  generalize ((d.wr WDG.SNUFF_ACT 1).outputsSnuff now).vnpSnuff true = e at hbus ⊢
  refine ⟨(outputsSnuff_driven _ now).trans (driven_of_sansBus hbus), fun hdrv => ?_⟩
  obtain ⟨-, hpwm, hidc, hlsw⟩ := outputsSnuff_spec (d.wr WDG.SNUFF_ACT 1) now hdrv
  have hstate : ∀ i, i < 60 → (d.wr WDG.SNUFF_ACT 1).rd (WDG.SNUFF_STATE i) = d.rd (WDG.SNUFF_STATE i) := fun i hi =>
    Dev.rd_wr_ne _ _ (by clear * - hi; decide +revert)
  refine ⟨(congrArg (·.pwm.snuff) hbus :).trans hpwm, fun c hc => ?_, fun n hn => ?_⟩
  · rw [← hstate c (by omega), Dev.idcCh, show e.idc = _ from (congrArg Dev.idc hbus :)]
    exact congrArg Prod.fst (hidc c hc)
  · rw [← hstate (32 + n) (by omega), Dev.lswCh, show e.lsw = _ from (congrArg Dev.lsw hbus :)]
    exact hlsw n hn

/-- The end of the last path: SNUFF_ACT is clear, and the points open their next windows off. -/
theorem pathSync_ends (d : Dev) (now : Nat) (hw : d.pathWanted = false) (hact : d.on WDG.SNUFF_ACT = true) :
    Driven (d.wr WDG.SNUFF_ACT 0) (d.pathSync now) ∧ (d.pathSync now).dec = { d.dec with openOff := true } ∧
      (d.pathSync now).pwm.snuff = (d.pwr.outHold == .snuff) := by
  rw [Dev.pathSync_of_ends now hw hact]
  obtain ⟨ht, hdec, hpwm⟩ := pathEnd_spec d now
  generalize d.pathEnd now = e at ht hdec hpwm ⊢
  exact ⟨ht.trans (Touches.of_regs rfl rfl), by rw [hdec], hpwm⟩

/-- What a path's start, its end, or its standing changes. -/
theorem pathSync_driven (d : Dev) (now : Nat) : ∃ v, v < 2 ∧ Driven (d.wr WDG.SNUFF_ACT v) (d.pathSync now) ∨ d.pathSync now = d := by
  cases hw : d.pathWanted <;> cases hact : d.on WDG.SNUFF_ACT
  · exact ⟨0, .inr (Dev.pathSync_of_stands now (by rw [hw, hact]))⟩
  · exact ⟨0, .inl ⟨by decide, (pathSync_ends d now hw hact).1⟩⟩
  · exact ⟨1, .inl ⟨by decide, (pathSync_starts d now hw hact).1⟩⟩
  · exact ⟨0, .inr (Dev.pathSync_of_stands now (by rw [hw, hact]))⟩

/-- Every register but SNUFF_ACT, outside the pages of the outputs, stands. -/
theorem Dev.rd_pathSync (d : Dev) (now : Nat) (f : Field) (hf : WDG.SNUFF_ACT.key ≠ f.key := by decide) (hlo : f.lo < 32 := by decide)
    (hev : f.ofEvents = false := by decide) (hout : ∀ p ∈ drivePages, f.addr < p.1 ∨ p.2 ≤ f.addr := by decide) :
    (d.pathSync now).rd f = d.rd f := by
  obtain ⟨v, ⟨-, h⟩ | h⟩ := pathSync_driven d now
  · exact (h.rd f hlo hev hout).trans (Dev.rd_wr_ne d v hf)
  · rw [h]

theorem Dev.sansDrive_pathSync (d : Dev) (now : Nat) : (d.pathSync now).sansDrive = d.sansDrive := by
  obtain ⟨v, ⟨-, h⟩ | h⟩ := pathSync_driven d now
  · exact h.sansDrive
  · rw [h]

theorem Dev.rawKept_pathSync (d : Dev) (now : Nat) : RawKept d (d.pathSync now) := by
  obtain ⟨v, ⟨-, h⟩ | h⟩ := pathSync_driven d now
  · exact (RawKept.wr d WDG.SNUFF_ACT v (by decide)).trans h.raw
  · rw [h]
    exact RawKept.refl d

theorem Dev.snuffAct_pathSync_of_wanted (d : Dev) (now : Nat) (hw : d.pathWanted = true) : (d.pathSync now).rd WDG.SNUFF_ACT = 1 := by
  cases hact : d.on WDG.SNUFF_ACT
  · exact ((pathSync_starts d now hw hact).1.rd WDG.SNUFF_ACT).trans (Dev.rd_wr_self d _ _)
  · rw [Dev.pathSync_of_stands now (by rw [hw, hact])]
    exact beq_iff_eq.mp hact

end Sys2Proof.Machine
end

section
/-! PROOFS. The serial watchdog: what its path's end, its expiry and its next challenge change. -/
namespace Sys2Proof.Machine

theorem Dev.wdg_pathSync (d : Dev) (now : Nat) : (d.pathSync now).wdg = d.wdg := (congrArg Dev.wdg (d.sansDrive_pathSync now) :)

/-- The next challenge is drawn: it is not 0 and not the previous one. -/
theorem Dev.newChallenge_spec (d : Dev) :
    OnlyRegs [WDG.CHALLENGE] { d with freeCtr := d.freeCtr + 1 } d.newChallenge ∧ d.newChallenge.rd WDG.CHALLENGE ≠ 0 ∧
      d.newChallenge.rd WDG.CHALLENGE ≠ d.rd WDG.CHALLENGE := by
  unfold Dev.newChallenge
  extract_lets prev r x c
  have hc : c ≠ 0 ∧ c < 2 ^ 16 ∧ c ≠ prev := by
    have hr : r.1 < 2 ^ 16 := Nat.mod_lt _ (by decide)
    by_cases hp : prev = 0
    · have hval : c = 1 + r.1 % 65535 := if_pos hp
      omega
    · have hval : c = if x < prev then x else x + 1 := if_neg hp
      have hx : x = 1 + r.1 % 65534 := rfl
      split at hval <;> omega
  have hrd : (r.2.wr WDG.CHALLENGE c).rd WDG.CHALLENGE = c := (Dev.rd_wr_self _ _ _).trans (Nat.mod_eq_of_lt hc.2.1)
  exact ⟨OnlyRegs.wr _ _ _ (by simp), hrd.trans_ne hc.1, hrd.trans_ne hc.2.2⟩

theorem Dev.rd_newChallenge (d : Dev) (f : Field) (hf : WDG.CHALLENGE.key ≠ f.key := by decide) : d.newChallenge.rd f = d.rd f :=
  d.newChallenge_spec.1.2 f (by simpa using hf)

/-- The watchdog's path ends; every register of the watchdog but WDG_EXP and SNUFF_ACT stands. -/
theorem Dev.wdgPathEnd_spec (d : Dev) (now : Nat) :
    (d.wdgPathEnd now).rd WDG.WDG_EXP = 0 ∧ (d.wdgPathEnd now).wdg = { d.wdg with wdgPath := false } ∧
      ∀ f : Field, f.lo < 32 → f.ofEvents = false → (∀ p ∈ drivePages, f.addr < p.1 ∨ p.2 ≤ f.addr) → WDG.WDG_EXP.key ≠ f.key →
        WDG.SNUFF_ACT.key ≠ f.key → (d.wdgPathEnd now).rd f = d.rd f := by
  unfold Dev.wdgPathEnd
  refine ⟨(Dev.rd_pathSync _ now WDG.WDG_EXP).trans (Dev.rd_wr_self _ _ _), Dev.wdg_pathSync _ now, fun f hlo hev hout hne hact => ?_⟩
  exact (Dev.rd_pathSync _ now f hact hlo hev hout).trans (Dev.rd_wr_ne _ _ hne)

/-- The watchdog expires. -/
def WatchdogExpired (d e : Dev) : Prop :=
  e.rd WDG.WDG_EXP = 1 ∧ e.rd WDG.WDG_EXP_CNT = counted d WDG.WDG_EXP_CNT ∧ e.rd WDG.CHALLENGE ≠ 0 ∧
    e.rd WDG.SNUFF_ACT = 1 ∧ e.wdg = { d.wdg with wdgPath := true } ∧ e.raised EVT.WDG_EXPIRED 0 = true

/-- The registers before the path of an expiry starts. -/
def Dev.wdgExpiring (d : Dev) : Dev :=
  { ((d.wr WDG.WDG_EXP 1).bump WDG.WDG_EXP_CNT).newChallenge with wdg := { d.wdg with wdgPath := true } }

theorem Dev.wdgExpire_eq (d : Dev) (now : Nat) :
    d.wdgExpire now = (d.wdgExpiring.pathSync now).fire now EVT.WDG_EXPIRED 0 0 := rfl

theorem Dev.rd_wdgExpire (d : Dev) (now : Nat) (f : Field) (hf : WDG.SNUFF_ACT.key ≠ f.key := by decide) (hlo : f.lo < 32 := by decide)
    (hev : f.ofEvents = false := by decide) (hout : ∀ p ∈ drivePages, f.addr < p.1 ∨ p.2 ≤ f.addr := by decide) :
    (d.wdgExpire now).rd f = ((d.wr WDG.WDG_EXP 1).bump WDG.WDG_EXP_CNT).newChallenge.rd f := by
  rw [Dev.wdgExpire_eq, Dev.rd_fire_of _ _ _ _ _ hlo hev, Dev.rd_pathSync _ now f hf hlo hev hout]
  rfl

theorem Dev.rawKept_wdgExpire (d : Dev) (now : Nat) : RawKept d (d.wdgExpire now) := by
  have h : RawKept d d.wdgExpiring :=
    (((RawKept.wr d WDG.WDG_EXP 1 (by decide)).trans (RawKept.wr _ WDG.WDG_EXP_CNT _ (by decide))).trans
      ((RawKept.of_regs rfl).trans (RawKept.wr _ WDG.CHALLENGE _ (by decide)))).trans (RawKept.of_regs rfl)
  exact (h.trans (Dev.rawKept_pathSync _ now)).trans (fire_rawKept _ _ _ _ _)

theorem Dev.wdgExpire_expires (d : Dev) (now : Nat) : WatchdogExpired d (d.wdgExpire now) := by
  refine ⟨?_, ?_, ?_, ?_, ?_, Dev.raised_fire _ _ _ _ _ (by decide) (by decide)⟩
  · rw [d.rd_wdgExpire now WDG.WDG_EXP, Dev.rd_newChallenge _ WDG.WDG_EXP, Dev.rd_bump_ne _ (by decide)]
    exact Dev.rd_wr_self _ _ _
  · rw [d.rd_wdgExpire now WDG.WDG_EXP_CNT, Dev.rd_newChallenge _ WDG.WDG_EXP_CNT, (Dev.bump_shows _ _).1, counted, counted,
      Dev.rd_wr_ne _ _ (by decide)]
  · rw [d.rd_wdgExpire now WDG.CHALLENGE]
    exact (Dev.newChallenge_spec _).2.1
  · rw [Dev.wdgExpire_eq, Dev.rd_fire_of _ _ _ _ _ (by decide) (by decide)]
    exact Dev.snuffAct_pathSync_of_wanted _ now (by simp [Dev.pathWanted, Dev.wdgExpiring])
  · rw [Dev.wdgExpire_eq, Dev.fire_wdg, Dev.wdg_pathSync]
    rfl

theorem WatchdogExpired.of_eq {d x e : Dev} (h : WatchdogExpired x e) (hcnt : x.rd WDG.WDG_EXP_CNT = d.rd WDG.WDG_EXP_CNT)
    (hwdg : x.wdg = d.wdg) : WatchdogExpired d e := by
  rw [WatchdogExpired, counted, hcnt, hwdg] at h
  exact h

/-! ### The commands of the watchdog -/

theorem Dev.wdgLate_of_expired {d : Dev} (now : Nat) (h : d.on WDG.WDG_EXP = true) : d.wdgLate now = d := by simp [Dev.wdgLate, h]

theorem Dev.wdgLate_of_unarmed {d : Dev} (now : Nat) (h : d.on WDG.WDG_ARMED = false) : d.wdgLate now = d := by simp [Dev.wdgLate, h]

theorem Dev.wdgLate_of_early {d : Dev} {now : Nat} (h : now < d.wdg.from_ + d.wdgClose) : d.wdgLate now = d := by
  simp [Dev.wdgLate, Nat.not_le.mpr h]

theorem Dev.wdgLate_of_late {d : Dev} {now : Nat} (harm : d.on WDG.WDG_ARMED = true) (hexp : d.on WDG.WDG_EXP = false)
    (h : d.wdg.from_ + d.wdgClose ≤ now) : d.wdgLate now = (d.wr WDG.LAST_ERR 3).wdgExpire now := by
  simp [Dev.wdgLate, harm, hexp, h]

theorem watchdogExpired_effect (s : State) (el : Nat) :
    Answers (.watchdogExpired el) s (fun now d e => d.alive = true → d.pwr.st ≠ .ember →
      (d.on WDG.WDG_ARMED = true → d.on WDG.WDG_EXP = false →
        (now < d.wdg.from_ + d.wdgClose → e = d) ∧
        (d.wdg.from_ + d.wdgClose ≤ now → e.rd WDG.LAST_ERR = 3 ∧ WatchdogExpired d e)) ∧
      (d.on WDG.WDG_ARMED = false ∨ d.on WDG.WDG_EXP = true → e = d)) := by
  refine answers_of_forall (f := fun now d => if d.alive && d.pwr.st != .ember then d.wdgLate now else d) rfl (fun now d hal hst => ?_)
  rw [if_pos (by simp [hal, hst])]
  refine ⟨fun harm hexp => ⟨Dev.wdgLate_of_early, fun hlate => ?_⟩, fun h => ?_⟩
  · rw [Dev.wdgLate_of_late harm hexp hlate]
    refine ⟨?_, (Dev.wdgExpire_expires (d.wr WDG.LAST_ERR 3) now).of_eq (Dev.rd_wr_ne _ _ (by decide)) rfl⟩
    rw [Dev.rd_wdgExpire _ now WDG.LAST_ERR, Dev.rd_newChallenge _ WDG.LAST_ERR, Dev.rd_bump_ne _ (by decide), Dev.rd_wr_ne _ _ (by decide)]
    exact Dev.rd_wr_self _ _ _
  · exact h.elim (Dev.wdgLate_of_unarmed now) (Dev.wdgLate_of_expired now)

theorem wdgEn_effect (s : State) (el : Nat) (en : Bool) :
    Answers (.wdgEn el en) s (fun now d e => d.hif.inService = true → d.unlocked now wdgPage = true →
      (en = true → d.pwr.mode = .host → d.on WDG.WDG_ARMED = false →
        e.rd WDG.WDG_EN = 1 ∧ e.rd WDG.WDG_ARMED = 1 ∧ e.rd WDG.CHALLENGE ≠ 0 ∧
        e.rd WDG.CHALLENGE ≠ d.rd WDG.CHALLENGE ∧
        e.wdg = { d.wdg with from_ := now, first := true } ∧
        OnlyRegs [WDG.WDG_EN, WDG.WDG_ARMED, WDG.CHALLENGE] { d with wdg := e.wdg, freeCtr := d.freeCtr + 1 } e) ∧
      (en = true → d.pwr.mode ≠ .host ∨ d.on WDG.WDG_ARMED = true → e.rd WDG.WDG_EN = 1 ∧ OnlyRegs [WDG.WDG_EN] d e) ∧
      (en = false → e.rd WDG.WDG_EN = 0 ∧ e.rd WDG.WDG_ARMED = 0 ∧
        (d.wdg.wdgPath = false → OnlyRegs [WDG.WDG_EN, WDG.WDG_ARMED] d e) ∧
        (d.wdg.wdgPath = true → e.rd WDG.WDG_EXP = 0 ∧ e.wdg = { d.wdg with wdgPath := false }))) := by
  refine answers_of_forall (f := fun now d => if d.hif.inService && d.unlocked now wdgPage then d.wdgEnWrite now en else d) rfl
    (fun now d hsvc hun => ?_)
  rw [if_pos (by simp [hsvc, hun])]
  have hrd : (d.wr WDG.WDG_EN 1).rd WDG.WDG_ARMED = d.rd WDG.WDG_ARMED := Dev.rd_wr_ne _ _ (by decide)
  refine ⟨fun hen hmode harm => ?_, fun hen hno => ?_, fun hen => ?_⟩
  · have hstep : d.wdgEnWrite now en = (d.wr WDG.WDG_EN 1).wdgArm now := by simp [Dev.wdgEnWrite, hen, hmode, Dev.on, hrd, beq_eq_false_iff_ne.mp harm]
    rw [hstep]
    obtain ⟨honly, hnz, hne⟩ := Dev.newChallenge_spec ((d.wr WDG.WDG_EN 1).wr WDG.WDG_ARMED 1)
    refine ⟨?_, ?_, hnz, ?_, rfl, ?_⟩
    · exact (Dev.rd_newChallenge _ _).trans ((Dev.rd_wr_ne _ _ (by decide)).trans (Dev.rd_wr_self _ _ _))
    · exact (Dev.rd_newChallenge _ _).trans (Dev.rd_wr_self _ _ _)
    · exact hne.trans_eq ((Dev.rd_wr_ne _ _ (by decide)).trans (Dev.rd_wr_ne _ _ (by decide)))
    · refine ⟨rfl, fun g hg => ?_⟩
      refine (honly.2 g (by simpa using hg WDG.CHALLENGE (by simp))).trans ?_
      show ((d.wr WDG.WDG_EN 1).wr WDG.WDG_ARMED 1).rd g = d.rd g
      exact (Dev.rd_wr_ne _ _ (hg WDG.WDG_ARMED (by simp))).trans (Dev.rd_wr_ne _ _ (hg WDG.WDG_EN (by simp)))
  · have hstep : d.wdgEnWrite now en = d.wr WDG.WDG_EN 1 := by
      have : ¬((d.pwr.mode == .host && !(d.wr WDG.WDG_EN 1).on WDG.WDG_ARMED) = true) := by
        simp only [Dev.on, hrd]
        rcases hno with h | h
        · simp [h]
        · simp [beq_iff_eq.mp h]
      rw [Dev.wdgEnWrite, hen]
      exact if_neg this
    rw [hstep]
    exact ⟨Dev.rd_wr_self _ _ _, OnlyRegs.wr _ _ _ (by simp)⟩
  · have hstep : d.wdgEnWrite now en = d.wdgDisarm now := by rw [hen]; rfl
    rw [hstep]
    have hboth : OnlyRegs [WDG.WDG_EN, WDG.WDG_ARMED] d ((d.wr WDG.WDG_EN 0).wr WDG.WDG_ARMED 0) :=
      (OnlyRegs.wr (fs := [WDG.WDG_EN, WDG.WDG_ARMED]) d WDG.WDG_EN 0 (by simp)).thenWr (by simp) 0
    have hen0 : ((d.wr WDG.WDG_EN 0).wr WDG.WDG_ARMED 0).rd WDG.WDG_EN = 0 :=
      (Dev.rd_wr_ne _ _ (by decide)).trans (Dev.rd_wr_self _ _ _)
    have harm0 : ((d.wr WDG.WDG_EN 0).wr WDG.WDG_ARMED 0).rd WDG.WDG_ARMED = 0 := Dev.rd_wr_self _ _ _
    unfold Dev.wdgDisarm
    extract_lets x
    cases hpath : d.wdg.wdgPath
    · rw [if_neg (by simp [x, hpath])]
      exact ⟨hen0, harm0, fun _ => hboth, fun h => absurd h (by simp)⟩
    · rw [if_pos (by simp [x, hpath])]
      obtain ⟨hexp, hwdg, hkeep⟩ := x.wdgPathEnd_spec now
      exact ⟨(hkeep _ (by decide) (by decide) (by decide) (by decide) (by decide)).trans hen0,
        (hkeep _ (by decide) (by decide) (by decide) (by decide) (by decide)).trans harm0, fun h => absurd h (by simp), fun _ => ⟨hexp, hwdg⟩⟩

/-- The next window starts, with the next challenge and `err` errors. -/
def Dev.wdgNext (d : Dev) (now err : Nat) : Dev := ((d.wr WDG.ERR_CNT err).newChallenge).wdgWindow now false

theorem Dev.wdgNext_spec (d : Dev) (now err : Nat) :
    (d.wdgNext now err).rd WDG.ERR_CNT = err % 2 ^ 3 ∧ (d.wdgNext now err).rd WDG.CHALLENGE ≠ 0 ∧
      (d.wdgNext now err).wdg = { d.wdg with from_ := now, first := false } ∧
      OnlyRegs [WDG.ERR_CNT, WDG.CHALLENGE] { d with wdg := (d.wdgNext now err).wdg, freeCtr := d.freeCtr + 1 } (d.wdgNext now err) := by
  obtain ⟨honly, hnz, -⟩ := Dev.newChallenge_spec (d.wr WDG.ERR_CNT err)
  refine ⟨(Dev.rd_newChallenge _ _).trans (Dev.rd_wr_self _ _ _), hnz, rfl, rfl, fun g hg => ?_⟩
  exact (honly.2 g (by simpa using hg WDG.CHALLENGE (by simp))).trans (Dev.rd_wr_ne _ _ (hg WDG.ERR_CNT (by simp)))

/-- A response of the wrong kind is counted and reported. -/
def Dev.wdgWrong (d : Dev) (now kind : Nat) : Dev := ((d.bump WDG.ERR_CNT).wr WDG.LAST_ERR kind).fire now EVT.WDG_ERROR 0 kind

theorem Dev.wdgWrong_spec (d : Dev) (now : Nat) {kind : Nat} (hk : kind < 4) :
    (d.wdgWrong now kind).rd WDG.ERR_CNT = counted d WDG.ERR_CNT ∧ (d.wdgWrong now kind).rd WDG.LAST_ERR = kind ∧
      (d.wdgWrong now kind).raised EVT.WDG_ERROR 0 = true ∧ OnlyRegsAndEvents [WDG.ERR_CNT, WDG.LAST_ERR] d (d.wdgWrong now kind) := by
  refine ⟨?_, ?_, Dev.raised_fire _ _ _ _ _ (by decide) (by decide), ?_⟩
  · rw [Dev.wdgWrong, Dev.rd_fire_of _ _ _ _ _ (by decide) (by decide), Dev.rd_wr_ne _ _ (by decide)]
    exact (Dev.bump_shows _ _).1
  · rw [Dev.wdgWrong, Dev.rd_fire_of _ _ _ _ _ (by decide) (by decide), Dev.rd_wr_self]
    exact Nat.mod_eq_of_lt hk
  · exact (((Dev.bump_shows d WDG.ERR_CNT).2.mono (gs := [WDG.ERR_CNT, WDG.LAST_ERR]) (by simp)).thenWr (f := WDG.LAST_ERR) (by simp) kind).andQuiet (fire_quiet _ _ _ _ _)

theorem Dev.wdgResponse_of_right {d : Dev} {now v : Nat} (harm : d.on WDG.WDG_ARMED = true) (hexp : d.on WDG.WDG_EXP = false)
    (hlate : now < d.wdg.from_ + d.wdgClose) (hv : v % 65536 = d.wdgAnswer) (hwin : d.wdg.first = true ∨ d.wdg.from_ + d.wdgOpen ≤ now) :
    d.wdgResponse now v = d.wdgNext now (d.rd WDG.ERR_CNT - 1) := by
  have hearly : (!d.wdg.first && decide (now < d.wdg.from_ + d.wdgOpen)) = false := by
    rcases hwin with h | h
    · simp [h]
    · simp [Nat.not_lt.mpr h]
  simp only [Dev.wdgResponse, harm, Dev.wdgLate_of_early hlate, hexp, hv, Bool.not_false, Bool.true_and, hearly]
  simp [Dev.wdgNext]

theorem Dev.wdgResponse_of_recovered {d : Dev} {now v : Nat} (harm : d.on WDG.WDG_ARMED = true) (hexp : d.on WDG.WDG_EXP = true)
    (hv : v % 65536 = d.wdgAnswer) : d.wdgResponse now v = (d.wdgNext now 0).wdgPathEnd now := by
  simp only [Dev.wdgResponse, harm, Dev.wdgLate_of_expired now hexp, hexp, hv]
  simp [Dev.wdgNext]

theorem Dev.wdgResponse_of_wrong {d : Dev} {now v kind : Nat} (harm : d.on WDG.WDG_ARMED = true) (hexp : d.on WDG.WDG_EXP = false)
    (hlate : now < d.wdg.from_ + d.wdgClose)
    (hv : v % 65536 ≠ d.wdgAnswer ∧ kind = 2 ∨
      v % 65536 = d.wdgAnswer ∧ kind = 1 ∧ d.wdg.first = false ∧ now < d.wdg.from_ + d.wdgOpen) :
    d.wdgResponse now v = if max 1 (d.rd WDG.ERR_LIMIT) ≤ counted d WDG.ERR_CNT then (d.wdgWrong now kind).wdgExpire now else d.wdgWrong now kind := by
  have hk : kind < 4 := by omega
  obtain ⟨herr, -, -, honly⟩ := d.wdgWrong_spec now hk
  have hexp' : (d.wdgWrong now kind).on WDG.WDG_EXP = false := by
    rw [Dev.on, honly.2 WDG.WDG_EXP (by decide) (by decide) (by decide)]
    exact hexp
  have hlim : (d.wdgWrong now kind).rd WDG.ERR_LIMIT = d.rd WDG.ERR_LIMIT := honly.2 _ (by decide) (by decide) (by decide)
  have hstep : d.wdgResponse now v = if !(d.wdgWrong now kind).on WDG.WDG_EXP &&
      decide (max 1 ((d.wdgWrong now kind).rd WDG.ERR_LIMIT) ≤ (d.wdgWrong now kind).rd WDG.ERR_CNT) then (d.wdgWrong now kind).wdgExpire now
      else d.wdgWrong now kind := by
    obtain ⟨hne, rfl⟩ | ⟨heq, rfl, hfirst, hopen⟩ := hv
    · simp only [Dev.wdgResponse, harm, Dev.wdgLate_of_early hlate, hexp, beq_eq_false_iff_ne.mpr hne, Bool.false_and]
      rfl
    · simp only [Dev.wdgResponse, harm, Dev.wdgLate_of_early hlate, hexp, beq_iff_eq.mpr heq, hfirst, decide_eq_true hopen]
      rfl
  rw [hstep, hexp', hlim, herr]
  simp

theorem response_effect (s : State) (el : Nat) (v : BitVec 16) :
    Answers (.response el v) s (fun now d e => d.hif.inService = true →
      (d.on WDG.WDG_ARMED = false → e = d) ∧
      (d.on WDG.WDG_ARMED = true → d.on WDG.WDG_EXP = false → now < d.wdg.from_ + d.wdgClose →
        (v.toNat = d.wdgAnswer → d.wdg.first = true ∨ d.wdg.from_ + d.wdgOpen ≤ now →
          e.rd WDG.ERR_CNT = (d.rd WDG.ERR_CNT - 1) % 2 ^ 3 ∧ e.rd WDG.CHALLENGE ≠ 0 ∧ e.wdg = { d.wdg with from_ := now, first := false } ∧
          OnlyRegs [WDG.ERR_CNT, WDG.CHALLENGE] { d with wdg := e.wdg, freeCtr := d.freeCtr + 1 } e) ∧
        (v.toNat ≠ d.wdgAnswer → counted d WDG.ERR_CNT < max 1 (d.rd WDG.ERR_LIMIT) →
          e.rd WDG.ERR_CNT = counted d WDG.ERR_CNT ∧ e.rd WDG.LAST_ERR = 2 ∧ e.raised EVT.WDG_ERROR 0 = true ∧
          OnlyRegsAndEvents [WDG.ERR_CNT, WDG.LAST_ERR] d e) ∧
        (v.toNat ≠ d.wdgAnswer → max 1 (d.rd WDG.ERR_LIMIT) ≤ counted d WDG.ERR_CNT →
          e.rd WDG.ERR_CNT = counted d WDG.ERR_CNT ∧ e.rd WDG.LAST_ERR = 2 ∧ e.raised EVT.WDG_ERROR 0 = true ∧ WatchdogExpired d e) ∧
        (v.toNat = d.wdgAnswer → d.wdg.first = false → now < d.wdg.from_ + d.wdgOpen →
          counted d WDG.ERR_CNT < max 1 (d.rd WDG.ERR_LIMIT) →
          e.rd WDG.ERR_CNT = counted d WDG.ERR_CNT ∧ e.rd WDG.LAST_ERR = 1 ∧ e.raised EVT.WDG_ERROR 0 = true ∧ e.wdg = d.wdg)) ∧
      (d.on WDG.WDG_ARMED = true → d.on WDG.WDG_EXP = true → v.toNat = d.wdgAnswer →
        e.rd WDG.ERR_CNT = 0 ∧ e.rd WDG.WDG_EXP = 0 ∧ e.rd WDG.CHALLENGE ≠ 0 ∧
        e.wdg = { d.wdg with from_ := now, first := false, wdgPath := false })) := by
  refine answers_of_forall (f := fun now d => if d.hif.inService then d.wdgResponse now v.toNat else d) rfl (fun now d hsvc => ?_)
  rw [if_pos hsvc]
  have hv : v.toNat % 65536 = v.toNat := Nat.mod_eq_of_lt v.isLt
  refine ⟨fun h => by simp [Dev.wdgResponse, h], fun harm hexp hlate => ⟨fun hans hwin => ?_, fun hans hlt => ?_, fun hans hle => ?_,
    fun hans hfirst hopen hlt => ?_⟩, fun harm hexp hans => ?_⟩
  · rw [Dev.wdgResponse_of_right harm hexp hlate (hv.trans hans) hwin]
    exact d.wdgNext_spec now _
  · rw [Dev.wdgResponse_of_wrong (kind := 2) harm hexp hlate (.inl ⟨by rwa [hv], rfl⟩), if_neg (by omega)]
    exact d.wdgWrong_spec now (by decide)
  · rw [Dev.wdgResponse_of_wrong (kind := 2) harm hexp hlate (.inl ⟨by rwa [hv], rfl⟩), if_pos hle]
    obtain ⟨herr, hlast, hev, honly⟩ := d.wdgWrong_spec now (by decide : 2 < 4)
    have hkeep : ∀ f : Field, WDG.WDG_EXP.key ≠ f.key → WDG.WDG_EXP_CNT.key ≠ f.key → WDG.CHALLENGE.key ≠ f.key →
        (((d.wdgWrong now 2).wr WDG.WDG_EXP 1).bump WDG.WDG_EXP_CNT).newChallenge.rd f = (d.wdgWrong now 2).rd f := fun f h1 h2 h3 =>
      (Dev.rd_newChallenge _ f h3).trans ((Dev.rd_bump_ne _ h2).trans (Dev.rd_wr_ne _ _ h1))
    refine ⟨?_, ?_, ((d.wdgWrong now 2).rawKept_wdgExpire now).raised (by decide) hev, ((d.wdgWrong now 2).wdgExpire_expires now).of_eq
      (honly.2 WDG.WDG_EXP_CNT (by decide) (by decide) (by decide)) (congrArg Dev.wdg honly.1 :)⟩
    · rw [Dev.rd_wdgExpire _ now WDG.ERR_CNT, hkeep _ (by decide) (by decide) (by decide), herr]
    · rw [Dev.rd_wdgExpire _ now WDG.LAST_ERR, hkeep _ (by decide) (by decide) (by decide), hlast]
  · rw [Dev.wdgResponse_of_wrong (kind := 1) harm hexp hlate (.inr ⟨hv.trans hans, rfl, hfirst, hopen⟩), if_neg (by omega)]
    obtain ⟨herr, hlast, hev, honly⟩ := d.wdgWrong_spec now (by decide : 1 < 4)
    exact ⟨herr, hlast, hev, (congrArg Dev.wdg honly.1 :)⟩
  · rw [Dev.wdgResponse_of_recovered harm hexp (hv.trans hans)]
    obtain ⟨herr, hch, hwdg, -⟩ := d.wdgNext_spec now 0
    obtain ⟨hexp', hwdg', hkeep⟩ := (d.wdgNext now 0).wdgPathEnd_spec now
    refine ⟨(hkeep _ (by decide) (by decide) (by decide) (by decide) (by decide)).trans herr, hexp', ?_, hwdg'.trans (by rw [hwdg])⟩
    rw [hkeep _ (by decide) (by decide) (by decide) (by decide) (by decide)]
    exact hch

/-- Settles O38, command by command. -/
theorem watchdogWindows : Obligations.WatchdogWindows := by
  unfold Obligations.WatchdogWindows
  exact fun s el => ⟨fun en => wdgEn_effect s el en, fun v => response_effect s el v, watchdogExpired_effect s el⟩

end Sys2Proof.Machine
end

section
/-! PROOFS. The SAFE_N path: a register file the statement does not exclude. -/
namespace Sys2Proof.Machine

/-- A block, LIT and in PLAIN mode, whose SAFE_N path is due to end while the one-bit register SNUFF_ACT holds 2. -/
def snuffActTwo : State :=
  { dt := ms 10
    dev :=
      { regs := [(WDG.SNUFF_ACT.key, 2)]
        wdg := { safePath := true }
        pwr := { st := .lit, mode := .plain } } }

/-- SNUFF_ACT that holds 2 is not on, so no path ends, and it keeps its value. -/
theorem safeNAutoRelease_snuffActTwo :
    exec (.safeNAutoRelease 0) snuffActTwo =
      .next { snuffActTwo with dev := { snuffActTwo.dev with wdg := {} }.wr WDG.SAFE_LATCHED 0 } := rfl

/-- Refutes O37: the statement bounds no register, and where the one-bit SNUFF_ACT holds 2 the end of the last path does not
clear it. A block that comes from reset writes only 0 and 1 to that register. -/
theorem not_snuffTableAndPaths : ¬ Obligations.SnuffTableAndPaths := by
  unfold Obligations.SnuffTableAndPaths
  intro h
  obtain ⟨-, -, -, -, hauto, -⟩ := h snuffActTwo 0
  obtain ⟨t, hexec, -, -, hanswer⟩ := hauto
  rw [safeNAutoRelease_snuffActTwo] at hexec
  obtain rfl := Host.Outcome.next.inj hexec
  obtain ⟨hover, -⟩ := hanswer (by decide) (by decide)
  obtain ⟨-, -, hlast, -⟩ := hover (by decide) (by decide) (by decide)
  exact absurd (hlast (by decide) (by decide)).1 (by decide)

end Sys2Proof.Machine
end

section
/-! PROOFS. The node protocol. -/
namespace Sys2Proof.Machine

theorem Dev.node_setNode (d : Dev) (b a : Nat) (v : VnpNode) : (d.setNode b a v).node b a = v := tget_tset_self _ _ _

theorem Dev.node_congr {d e : Dev} (h : e.vnp = d.vnp) (b a : Nat) : e.node b a = d.node b a := by rw [Dev.node, Dev.node, h]

/-! ### Latency reports -/

/-- The instant a latency record counts from. -/
def Dev.recStart (d : Dev) (now : Nat) (r : List Nat) : Nat :=
  d.dtOfPt (10000 * (d.ptOf (nsOf now) / 10000 - (d.ptOf (nsOf now) / 10000 + 16777216 -
    (r.getD 3 0 + 256 * r.getD 4 0 + 65536 * r.getD 5 0)) % 16777216))

theorem Dev.latRecord_of_stale {d : Dev} {now : Nat} (b a : Nat) {r : List Nat} (h : d.recStart now r + ms 2000 < now) :
    d.latRecord now b a r = d.bump (VNP.RPT_STALE (2 + b)) := if_pos h

/-- A record counts on its node. -/
def Dev.recordCounts (d : Dev) (b a : Nat) : Dev := d.setNode b a { d.node b a with records := min 65535 ((d.node b a).records + 1) }

/-- A record in time counts on its node; what it says of the point changes no node. -/
theorem Dev.latRecord_of_fresh {d : Dev} {now : Nat} (b a : Nat) {r : List Nat} (h : now ≤ d.recStart now r + ms 2000) :
    ConfTouch (d.recordCounts b a) (d.latRecord now b a r) := by
  have hfresh := Nat.not_lt.mpr h
  unfold Dev.latRecord
  unfold Dev.recStart at hfresh
  extract_lets by_ t10 ct start v x
  rw [if_neg hfresh]
  have hx : d.recordCounts b a = x := rfl
  rw [hx]
  clear_value x
  split
  · exact Touches.refl x
  extract_lets off ce y z
  have hy : ConfTouch x y := Touches.opt (confTouch_latSample _ _ _ _ _ _)
  have hz : ConfTouch y z := Touches.opt (confTouch_latSample _ _ _ _ _ _)
  exact (hy.trans hz).trans (confTouch_covRecord _ _ _ _ _ _)

theorem ConfTouch.vnp {d e : Dev} (h : ConfTouch d e) : e.vnp = d.vnp := (congrArg Dev.vnp h.rest :)

theorem Dev.node_latRecord_of_fresh {d : Dev} {now : Nat} (b a : Nat) {r : List Nat} (h : now ≤ d.recStart now r + ms 2000) :
    (d.latRecord now b a r).node b a = { d.node b a with records := min 65535 ((d.node b a).records + 1) } :=
  (Dev.node_congr (Dev.latRecord_of_fresh b a h).vnp b a).trans (d.node_setNode b a _)

theorem Dev.latRecord_keeps (d : Dev) (now b a : Nat) (r : List Nat) :
    ((d.latRecord now b a r).node b a).heard = (d.node b a).heard ∧ ((d.latRecord now b a r).node b a).st = (d.node b a).st := by
  by_cases h : now ≤ d.recStart now r + ms 2000
  · rw [Dev.node_latRecord_of_fresh b a h]
    exact ⟨rfl, rfl⟩
  · rw [Dev.latRecord_of_stale b a (Nat.not_le.mp h)]
    exact ⟨rfl, rfl⟩

theorem latency_effect (s : State) (el : Nat) (b : Fin 4) (a : Fin 64) (data : List Byte) :
    let n := 2 + b.val
    let bs := natBytes data
    Answers (.latency el b a data) s (fun now d e => d.vnpHears b.val = true →
        ((d.node b.val a.val).st = 0 → e = d) ∧
        ((d.node b.val a.val).st ≠ 0 → (e.node b.val a.val).heard = d.tickCnt now ∧ (e.node b.val a.val).st = (d.node b.val a.val).st ∧
          (bs.getD 0 0 % 8 = 0 → (e.node b.val a.val).records = (d.node b.val a.val).records) ∧
          (∀ r, recordsOf (bs.getD 0 0 % 8) (bs.drop 4) = [r] →
            let ct := r.getD 3 0 + 256 * r.getD 4 0 + 65536 * r.getD 5 0
            let t10 := d.ptOf (nsOf now) / 10000
            let start := d.dtOfPt (10000 * (t10 - (t10 + 16777216 - ct) % 16777216))
            (start + ms 2000 < now → e.rd (VNP.RPT_STALE n) = counted d (VNP.RPT_STALE n)) ∧
            (now ≤ start + ms 2000 → (e.node b.val a.val).records = min 65535 ((d.node b.val a.val).records + 1))))) := by
  refine answers_of_forall (f := fun now d => if d.vnpHears b.val then d.vnpLatency now b.val a.val (natBytes data) else d) rfl
    (fun now d hears => ?_)
  rw [if_pos hears]
  refine ⟨fun h => by simp [Dev.vnpLatency, h], fun hst => ?_⟩
  have hheard : d.nodeHeard now b.val a.val = d.setNode b.val a.val { d.node b.val a.val with heard := d.tickCnt now } := if_neg hst
  rw [Dev.vnpLatency, if_neg hst, hheard]
  generalize hx : d.setNode b.val a.val { d.node b.val a.val with heard := d.tickCnt now } = x
  have hnode : x.node b.val a.val = { d.node b.val a.val with heard := d.tickCnt now } := by rw [← hx, Dev.node_setNode]
  have hstart : ∀ r, x.recStart now r = d.recStart now r := fun r => by
    have hpt : x.ptOf = d.ptOf := by rw [← hx]; rfl
    have hdt : x.dtOfPt = d.dtOfPt := by rw [← hx]; rfl
    rw [Dev.recStart, hpt, hdt, Dev.recStart]
  have hrd : ∀ f, x.rd f = d.rd f := fun f => by rw [← hx]; rfl
  have hkeep := fun (y : Dev) r => y.latRecord_keeps now b.val a.val r
  refine ⟨?_, ?_, fun hzero => ?_, fun r hone => ?_⟩
  · rw [Dev.each_keeps (fun y => (y.node b.val a.val).heard) _ (fun y r => (hkeep y r).1), hnode]
  · rw [Dev.each_keeps (fun y => (y.node b.val a.val).st) _ (fun y r => (hkeep y r).2), hnode]
  · have hnone : ∀ l, recordsOf 0 l = [] := fun _ => rfl
    rw [hzero, hnone, Dev.each, List.foldl_nil, hnode]
  · rw [hone, Dev.each, List.foldl_cons, List.foldl_nil]
    show (d.recStart now r + ms 2000 < now → (x.latRecord now b.val a.val r).rd _ = _) ∧
      (now ≤ d.recStart now r + ms 2000 → ((x.latRecord now b.val a.val r).node b.val a.val).records = _)
    rw [← hstart r]
    refine ⟨fun h => ?_, fun h => ?_⟩
    · rw [Dev.latRecord_of_stale _ _ h, (Dev.bump_shows _ _).1, counted, counted, hrd]
    · rw [Dev.node_latRecord_of_fresh _ _ h, hnode]

/-! ### Status, faults, configuration and losses -/

theorem status_effect (s : State) (el : Nat) (b : Fin 4) (a : Fin 64) (data : List Byte) :
    let bs := natBytes data
    Answers (.status el b a data) s (fun now d e => d.vnpHears b.val = true →
        ((d.node b.val a.val).st = 0 → e = d) ∧
        ((d.node b.val a.val).st ≠ 0 → e = { d with vnp := e.vnp } ∧ (e.node b.val a.val).heard = d.tickCnt now ∧
          (e.node b.val a.val).st = (if (d.node b.val a.val).st = 3 then 2 else (d.node b.val a.val).st) ∧
          (e.node b.val a.val).vsup = bs.getD 0 0 + 256 * bs.getD 1 0 ∧ (e.node b.val a.val).temp = bs.getD 2 0 ∧
          (e.node b.val a.val).snuffed = bitOf (bs.getD 3 0) 1 ∧ ((d.node b.val a.val).st = 3 → (e.node b.val a.val).resync = true))) := by
  refine answers_of_forall (f := fun now d => if d.vnpHears b.val then d.vnpStatus now b.val a.val (natBytes data) else d) rfl
    (fun now d hears => ?_)
  rw [if_pos hears]
  refine ⟨fun h => by simp [Dev.vnpStatus, h], fun hst => ?_⟩
  rw [Dev.vnpStatus, if_neg hst]
  simp only [Dev.node_setNode, beq_iff_eq, true_and]
  exact ⟨rfl, fun h => by simp [h]⟩

theorem nodeFault_effect (s : State) (el : Nat) (b : Fin 4) (a : Fin 64) (data : List Byte) :
    let n := 2 + b.val
    let bs := natBytes data
    Answers (.fault el b a data) s (fun now d e => d.vnpHears b.val = true →
        ((d.node b.val a.val).st = 0 → e = d) ∧
        ((d.node b.val a.val).st ≠ 0 → e = { d with vnp := e.vnp, can := e.can } ∧ (e.node b.val a.val).heard = d.tickCnt now ∧
          (e.node b.val a.val).faults = min 65535 ((d.node b.val a.val).faults + 1) ∧
          (e.canCtl n).faults = (d.canCtl n).faults ++ [{ bus := b.val, node := a.val, code := bs.getD 0 0, count := bs.getD 1 0, mask := bs.getD 2 0 + 256 * bs.getD 3 0, detail := bs.getD 4 0 + 256 * bs.getD 5 0 }] ∧
          (supplyClass (bs.getD 0 0) = true → (e.canCtl n).supplyAt = some now))) := by
  refine answers_of_forall (f := fun now d => if d.vnpHears b.val then d.vnpFault now b.val a.val (natBytes data) else d) rfl
    (fun now d hears => ?_)
  rw [if_pos hears]
  refine ⟨fun h => by simp [Dev.vnpFault, h], fun hst => ?_⟩
  rw [Dev.vnpFault, if_neg hst]
  extract_lets _ f sup x y
  have hx : x.node b.val a.val = { d.node b.val a.val with
    heard := d.tickCnt now
    faults := min 65535 ((d.node b.val a.val).faults + 1)
    supTick := if sup then some (d.tickCnt now) else (d.node b.val a.val).supTick } := Dev.node_setNode _ _ _ _
  have hy : (y.canCtl (2 + b.val)).faults = (d.canCtl (2 + b.val)).faults ++ [f] := by
    show ((x.modCan (2 + b.val) _).canCtl (2 + b.val)).faults = _
    rw [Dev.canCtl_modCan]
    rfl
  have hfr : ∀ g : CanCtl → CanCtl, y.modCan (2 + b.val) g = { d with vnp := (y.modCan (2 + b.val) g).vnp, can := (y.modCan (2 + b.val) g).can } :=
    fun _ => rfl
  by_cases hs : sup = true
  · rw [if_pos hs]
    refine ⟨rfl, congrArg VnpNode.heard hx, congrArg VnpNode.faults hx, ?_, fun _ => ?_⟩
    · rw [Dev.canCtl_modCan]
      exact hy
    · rw [Dev.canCtl_modCan]
  · rw [if_neg hs]
    exact ⟨rfl, congrArg VnpNode.heard hx, congrArg VnpNode.faults hx, hy, fun h => absurd h hs⟩

theorem configAck_effect (s : State) (el : Nat) (b : Fin 4) (a : Fin 64) (data : List Byte) :
    let bs := natBytes data
    Answers (.configAck el b a data) s (fun now d e => d.vnpHears b.val = true →
        ((d.node b.val a.val).st = 0 → e = d) ∧
        ((d.node b.val a.val).st ≠ 0 → e = { d with vnp := e.vnp } ∧ (e.node b.val a.val).heard = d.tickCnt now) ∧
        (∀ x y : Nat, bs = [4, 0, x, y] → (d.node b.val a.val).st = 1 → (d.node b.val a.val).acked = 7 →
          (e.node b.val a.val).st = 2 ∧ (e.node b.val a.val).resync = true)) := by
  refine answers_of_forall (f := fun now d => if d.vnpHears b.val then d.vnpConfigAck now b.val a.val (natBytes data) else d) rfl
    (fun now d hears => ?_)
  rw [if_pos hears]
  refine ⟨fun h => by simp [Dev.vnpConfigAck, h], fun hst => ?_, fun x y hbs hst hack => ?_⟩
  · rw [Dev.vnpConfigAck, if_neg hst]
    exact ⟨rfl, congrArg VnpNode.heard (Dev.node_setNode _ _ _ _)⟩
  · have hkeys : (bytesToWords (([4, 0, x, y] : List Nat).length / 4) [4, 0, x, y]).filter
        (fun w => decide (1 ≤ w % 256) && decide (w % 256 ≤ 4) && w / 256 % 256 == 0) = [4 + 65536 * (x % 256 + 256 * (y % 256))] := by
      have hw : ofBytesLE [4, 0, x, y] = 4 + 65536 * (x % 256 + 256 * (y % 256)) := by
        simp only [ofBytesLE]
        omega
      have h1 : (4 + 65536 * (x % 256 + 256 * (y % 256))) % 256 = 4 := by omega
      have h2 : (4 + 65536 * (x % 256 + 256 * (y % 256))) / 256 % 256 = 0 := by omega
      simp [bytesToWords, hw, h1, h2]
    have hacked : setBitOf 7 ((4 + 65536 * (x % 256 + 256 * (y % 256))) % 256 - 1) true = 15 := by
      rw [show (4 + 65536 * (x % 256 + 256 * (y % 256))) % 256 - 1 = 3 by omega]
      decide
    rw [Dev.vnpConfigAck, if_neg (by omega), hbs, hkeys, Dev.node_setNode]
    simp [hst, hack, hacked]

theorem nodeLost_effect (s : State) (el : Nat) (b : Fin 4) (a : Fin 64) :
    let n := 2 + b.val
    Answers (.nodeLost el b a) s (fun now d e => d.ticking = true → (d.node b.val a.val).st = 2 →
        let at_ := (d.node b.val a.val).heard + 3 * max 10 (d.rd (VNP.STAT_DIV n))
        (d.tickCnt now < at_ → e = d) ∧
        (at_ ≤ d.tickCnt now → (e.node b.val a.val).st = 3 ∧ e.raised EVT.CAN_NODE_LOST (64 * b.val + a.val) = true ∧
          OnlyRegsAndEvents [] { d with vnp := e.vnp } e)) := by
  refine answers_of_forall (f := fun now d => if d.ticking then d.nodeLostCheck now b.val a.val else d) rfl (fun now d htick hst => ?_)
  rw [if_pos htick]
  refine ⟨fun h => by simp [Dev.nodeLostCheck, Nat.not_le.mpr h], fun h => ?_⟩
  have hstep : d.nodeLostCheck now b.val a.val =
      (d.setNode b.val a.val { d.node b.val a.val with st := 3 }).fire now EVT.CAN_NODE_LOST (64 * b.val + a.val) 3 := by
    simp [Dev.nodeLostCheck, hst, h]
  rw [hstep]
  refine ⟨?_, Dev.raised_fire _ _ _ _ _ (by omega) (by clear * - b a; decide +revert), ?_⟩
  · rw [Dev.node_congr (Dev.fire_vnp _ _ _ _ _), Dev.node_setNode]
  · rw [Dev.fire_vnp]
    exact OnlyRegs.andQuiet (OnlyRegs.refl (fs := []) _) (fire_quiet _ _ _ _ _)

end Sys2Proof.Machine
end

section
/-! PROOFS. The node protocol: duty frames, enrolment, supply and polls. -/
namespace Sys2Proof.Machine

/-! ### Duty frames -/

theorem OnlyCan.trans {a b c : Dev} (h : OnlyCan a b) (g : OnlyCan b c) : OnlyCan a c := by
  unfold OnlyCan at h g ⊢
  conv_lhs => rw [g, h]

theorem OnlyCan.vnpTx {d e : Dev} (h : OnlyCan d e) (b : Nat) : e.vnpTx b = d.vnpTx b := (congrArg (Dev.vnpTx · b) h :)

theorem Dev.vnpSend_of_master {d : Dev} {b : Nat} (h : d.vnpTx b = true) (fn addr : Nat) (bs : List Nat) :
    d.vnpSend b fn addr bs = d.modCan (2 + b) (fun c => { c with tx := c.tx ++ [d.vnpFrame b fn addr bs] }) := if_pos h

theorem Dev.id_vnpFrame (d : Dev) (b fn addr : Nat) (bs : List Nat) : (d.vnpFrame b fn addr bs).id = 64 * fn + addr := by
  unfold Dev.vnpFrame
  dsimp only
  split <;> rfl

/-- A duty frame goes to node `a` for a product that has a point on. -/
theorem Dev.dutySend_spec {d : Dev} (edge : Nat) {b : Nat} (a p : Nat) (ps : List (Nat × Nat)) (htx : d.vnpTx b = true) :
    ∃ l : List CanFrame, OnlyCan d (d.dutySend edge b a p ps) ∧
      ((d.dutySend edge b a p ps).canCtl (2 + b)).tx = (d.canCtl (2 + b)).tx ++ l ∧
      l.length = (if ps.isEmpty then 0 else 1) ∧ ∀ f ∈ l, f.id = 64 * 5 + a := by
  unfold Dev.dutySend
  split
  · exact ⟨[], OnlyCan.refl d, by simp, rfl, by simp⟩
  · rw [Dev.vnpSend_of_master htx]
    exact ⟨_, (OnlyCan.refl d).thenModCan _ _, congrArg CanCtl.tx (Dev.canCtl_modCan _ _ _), rfl, by simp [Dev.id_vnpFrame]⟩

/-- One duty frame per product that a point of `ps` has. -/
theorem Dev.dutySends_spec (edge : Nat) {b : Nat} (a : Nat) (ps : List (Nat × Nat)) (l : List Nat) (d : Dev) (htx : d.vnpTx b = true) :
    let e := d.each l (fun d p => d.dutySend edge b a p (ps.filter (fun x => d.rd (PD.PRODUCT x.2) == p)))
    ∃ m : List CanFrame, OnlyCan d e ∧ (e.canCtl (2 + b)).tx = (d.canCtl (2 + b)).tx ++ m ∧
      m.length = (l.filter (fun p => ps.any (fun x => d.rd (PD.PRODUCT x.2) == p))).length ∧ ∀ f ∈ m, f.id = 64 * 5 + a := by
  induction l generalizing d with
  | nil => exact ⟨[], OnlyCan.refl d, by simp [Dev.each], rfl, by simp⟩
  | cons p l ih =>
    obtain ⟨m1, hone, htx1, hlen1, hid1⟩ := d.dutySend_spec edge a p (ps.filter (fun x => d.rd (PD.PRODUCT x.2) == p)) htx
    obtain ⟨m2, hmore, htx2, hlen2, hid2⟩ := ih _ ((hone.vnpTx b).trans htx)
    refine ⟨m1 ++ m2, hone.trans hmore, ?_, ?_, fun f hf => (List.mem_append.mp hf).elim (hid1 f) (hid2 f)⟩
    · rw [← List.append_assoc, ← htx1]
      exact htx2
    · simp only [hone.rd] at hlen2
      rw [List.length_append, hlen1, hlen2, List.filter_cons]
      by_cases hany : ps.any (fun x => d.rd (PD.PRODUCT x.2) == p) = true
      · have hne : (ps.filter (fun x => d.rd (PD.PRODUCT x.2) == p)).isEmpty = false := by
          obtain ⟨x, hx, hp⟩ := List.any_eq_true.mp hany
          exact List.isEmpty_eq_false_iff_exists_mem.mpr ⟨x, List.mem_filter.mpr ⟨hx, hp⟩⟩
        rw [hne, if_pos hany, List.length_cons]
        simp [Nat.add_comm]
      · have hem : (ps.filter (fun x => d.rd (PD.PRODUCT x.2) == p)).isEmpty = true := by
          rw [List.isEmpty_iff, List.filter_eq_nil_iff]
          exact fun x hx hp => hany (List.any_eq_true.mpr ⟨x, hx, hp⟩)
        rw [hem, if_neg hany]
        simp

theorem Dev.gridOfPt_modPaint (d : Dev) (m n : Nat) (f : PtPaint → PtPaint) : (d.modPaint m f).gridOfPt n = d.gridOfPt n := rfl

theorem Dev.paintOf_modPaint_self (d : Dev) (n : Nat) (f : PtPaint → PtPaint) : (d.modPaint n f).paintOf n = f (d.paintOf n) :=
  tget_tmod_self _ _ _

theorem Dev.paintOf_modPaint_ne (d : Dev) {m n : Nat} (f : PtPaint → PtPaint) (h : m ≠ n) : (d.modPaint m f).paintOf n = d.paintOf n :=
  tget_tmod_ne _ _ h

/-- The pulse grids of the points listed are kept as sent; nothing but the map's part changes. -/
theorem Dev.gridsSent_spec (l : List (Nat × Nat)) (d : Dev) :
    let e := d.each l (fun d x => d.modPaint x.2 (fun p => { p with sent := d.gridOfPt x.2 }))
    e = { d with cov := e.cov } ∧
      ∀ n, (d.paintOf n).sent = d.gridOfPt n ∨ n ∈ l.map Prod.snd → (e.paintOf n).sent = d.gridOfPt n := by
  induction l generalizing d with
  | nil => exact ⟨rfl, fun n h => h.resolve_right (by simp)⟩
  | cons x l ih =>
    obtain ⟨hcov, hsent⟩ := ih (d.modPaint x.2 (fun p => { p with sent := d.gridOfPt x.2 }))
    refine ⟨hcov, fun n hn => hsent n ?_⟩
    rw [Dev.gridOfPt_modPaint]
    by_cases hx : x.2 = n
    · rw [← hx, Dev.paintOf_modPaint_self]
      exact .inl rfl
    · rw [Dev.paintOf_modPaint_ne _ _ hx]
      exact hn.imp_right (fun h => (List.mem_cons.mp h).resolve_left (Ne.symm hx))

/-- The points of a node that a duty frame names: pulsed and on. -/
def Dev.dutyPts (d : Dev) (b a : Nat) : List (Nat × Nat) := (d.nodePts b a).filter (fun x => d.pulsedPt x.2 && (d.decOf x.2).s)

/-- The duty frames of a tick are sent, and the grids they carry kept. -/
def Dev.dutySent (d : Dev) (k b a : Nat) : Dev :=
  (d.dutyFrames (d.edgeOf k) b a (fun n => (d.decOf n).s)).gridSent b a (fun n => (d.decOf n).s)

theorem Dev.dutySent_spec {d : Dev} (k : Nat) {b : Nat} (a : Nat) (htx : d.vnpTx b = true) :
    (d.dutySent k b a).vnp = d.vnp ∧ (∀ x ∈ d.dutyPts b a, ((d.dutySent k b a).paintOf x.2).sent = d.gridOfPt x.2) ∧
      ∃ m : List CanFrame, ((d.dutySent k b a).canCtl (2 + b)).tx = (d.canCtl (2 + b)).tx ++ m ∧
        m.length = ((List.range 8).filter (fun p => (d.dutyPts b a).any (fun x => d.rd (PD.PRODUCT x.2) == p))).length ∧
        ∀ f ∈ m, f.id = 64 * 5 + a := by
  obtain ⟨m, honly, htx, hlen, hid⟩ := d.dutySends_spec (d.edgeOf k) a (d.dutyPts b a) (List.range 8) htx
  unfold Dev.dutySent
  have hframes : d.dutyFrames (d.edgeOf k) b a (fun n => (d.decOf n).s) = d.each (List.range 8) (fun d' p =>
    d'.dutySend (d.edgeOf k) b a p ((d.dutyPts b a).filter (fun x => d'.rd (PD.PRODUCT x.2) == p))) := rfl
  rw [hframes]
  generalize d.each (List.range 8) (fun d' p =>
    d'.dutySend (d.edgeOf k) b a p ((d.dutyPts b a).filter (fun x => d'.rd (PD.PRODUCT x.2) == p))) = y at honly htx
  have hpts : (y.nodePts b a).filter (fun x => y.pulsedPt x.2 && (d.decOf x.2).s) = d.dutyPts b a :=
    (congrArg (fun y : Dev => (y.nodePts b a).filter (fun x => y.pulsedPt x.2 && (d.decOf x.2).s)) honly :)
  have hgrid : ∀ n, y.gridOfPt n = d.gridOfPt n := fun n => (congrArg (Dev.gridOfPt · n) honly :)
  have hsent : y.gridSent b a (fun n => (d.decOf n).s) = y.each (d.dutyPts b a)
      (fun d x => d.modPaint x.2 (fun p => { p with sent := d.gridOfPt x.2 })) := by
    rw [← hpts]
    rfl
  obtain ⟨hcov, hgrids⟩ := Dev.gridsSent_spec (d.dutyPts b a) y
  rw [← hsent] at hcov hgrids
  generalize y.gridSent b a (fun n => (d.decOf n).s) = z at hcov hgrids
  refine ⟨(congrArg Dev.vnp hcov :).trans (congrArg Dev.vnp honly :), fun x hx => ?_, m, ?_, hlen, hid⟩
  · rw [hgrids x.2 (.inr (List.mem_map_of_mem hx)), hgrid]
  · rw [Dev.canCtl, show z.can = y.can from (congrArg Dev.can hcov :)]
    exact htx

theorem Dev.dutyRefresh_of_due {d : Dev} {k b a : Nat}
    (h : ((d.node b a).st == 2 && d.vnpTx b && d.refreshDue k b a) = true) :
    d.dutyRefresh k b a = (d.dutySent k b a).setNode b a { (d.dutySent k b a).node b a with dutyTick := some k } := if_pos h

theorem dutyRefresh_effect (s : State) (el : Nat) (b : Fin 4) (a : Fin 64) :
    let n := 2 + b.val
    Answers (.dutyRefresh el b a) s (fun now d e => d.ticking = true →
        let k := d.tickCnt now
        let due := (d.node b.val a.val).st = 2 ∧ d.vnpTx b.val = true ∧ (k + a.val) % held 10 255 (d.rd RATE.NODE_REFRESH) = 0 ∧
          (d.node b.val a.val).dutyTick ≠ some k
        let pts := (d.nodePts b.val a.val).filter (fun x => d.pulsedPt x.2 && (d.decOf x.2).s)
        (¬due → e = d) ∧
        (due → e.node b.val a.val = { d.node b.val a.val with dutyTick := some k } ∧
          (∀ x ∈ pts, (e.paintOf x.2).sent = d.gridOfPt x.2) ∧
          (e.canCtl n).tx.take (d.canCtl n).tx.length = (d.canCtl n).tx ∧
          (e.canCtl n).tx.length = (d.canCtl n).tx.length +
            ((List.range 8).filter (fun p => pts.any (fun x => d.rd (PD.PRODUCT x.2) == p))).length ∧
          (∀ f ∈ (e.canCtl n).tx.drop (d.canCtl n).tx.length, f.id = 64 * 5 + a.val))) := by
  refine answers_of_forall (f := fun now d => if d.ticking then d.dutyRefresh (d.tickCnt now) b.val a.val else d) rfl (fun now d htick => ?_)
  rw [if_pos htick]
  extract_lets k due pts
  have hcond : ((d.node b.val a.val).st == 2 && d.vnpTx b.val && d.refreshDue k b.val a.val) = true ↔ due := by
    simp [due, Dev.refreshDue, Dev.rdH, and_assoc]
  refine ⟨fun h => if_neg (fun hc => h (hcond.mp hc)), fun h => ?_⟩
  rw [Dev.dutyRefresh_of_due (hcond.mpr h)]
  obtain ⟨hvnp, hsent, m, htx, hlen, hid⟩ := Dev.dutySent_spec k a.val h.2.1
  generalize d.dutySent k b.val a.val = x at hvnp hsent htx
  have hcan : ∀ v, (x.setNode b.val a.val v).canCtl (2 + b.val) = x.canCtl (2 + b.val) := fun _ => rfl
  rw [hcan, htx]
  refine ⟨?_, hsent, List.take_left, ?_, ?_⟩
  · rw [Dev.node_setNode, Dev.node_congr hvnp]
  · rw [List.length_append, hlen]
    rfl
  · rw [List.drop_left]
    exact hid

/-! ### Enrolment, supply, storms and polls -/

theorem tget?_map_val {α : Type} (t : Tab α) (g : Nat → α → α) (k : Nat) :
    tget? (t.map (fun x => (x.1, g x.1 x.2))) k = (tget? t k).map (g k) := by
  induction t with
  | nil => rfl
  | cons x t ih =>
    obtain ⟨j, v⟩ := x
    by_cases h : j = k
    · simp [tget?, h]
    · simp [tget?, h, ih]

/-- PT_ERR aside, a node stands when the points beyond their nodes are marked. -/
theorem Dev.node_ptErrUpdate (d : Dev) {b a : Nat} {v : VnpNode} (h : tget? d.vnp (64 * b + a) = some v) :
    ∃ p, d.ptErrUpdate.node b a = { v with ptErr := p } := by
  have hmap : tget? d.ptErrUpdate.vnp (64 * b + a) = (tget? d.vnp (64 * b + a)).map (fun v : VnpNode =>
      { v with ptErr := (d.validPts.filter d.ptBeyond).any (fun n => 64 * d.rd (PD.BUS n) + d.rd (PD.NODE n) == 64 * b + a) }) :=
    tget?_map_val d.vnp (fun k (v : VnpNode) =>
      { v with ptErr := (d.validPts.filter d.ptBeyond).any (fun n => 64 * d.rd (PD.BUS n) + d.rd (PD.NODE n) == k) }) _
  exact ⟨_, by rw [Dev.node, tget, hmap, h]; rfl⟩

theorem Dev.canCtl_ptErrUpdate (d : Dev) (n : Nat) : d.ptErrUpdate.canCtl n = d.canCtl n := rfl

/-- An enrolled node is answered with its address and its configuration. -/
theorem Dev.enrolAnswered {d : Dev} {b : Nat} (htx : d.vnpTx b = true) (a uid : Nat) (v : VnpNode) :
    let e := (((d.setNode b a v).vnpSend b 25 a (bytesLE 8 uid ++ [a])).vnpSend b 16 a
      (d.configBytes b)).ptErrUpdate
    (∃ p, e.node b a = { v with ptErr := p }) ∧ (e.canCtl (2 + b)).tx = (d.canCtl (2 + b)).tx ++
      [d.vnpFrame b 25 a (bytesLE 8 uid ++ [a]), d.vnpFrame b 16 a (d.configBytes b)] := by
  have hset : (d.setNode b a v).vnpTx b = true := htx
  rw [Dev.vnpSend_of_master hset]
  generalize hx : (d.setNode b a v).modCan (2 + b) _ = x
  have hxtx : x.vnpTx b = true := by rw [← hx]; exact htx
  have htail : (x.canCtl (2 + b)).tx = (d.canCtl (2 + b)).tx ++ [d.vnpFrame b 25 a (bytesLE 8 uid ++ [a])] := by
    rw [← hx, Dev.canCtl_modCan]
    rfl
  have hframe : x.vnpFrame b 16 a (d.configBytes b) = d.vnpFrame b 16 a (d.configBytes b) := by rw [← hx]; rfl
  have hnode : tget? x.vnp (64 * b + a) = some v := by
    rw [← hx]
    exact tget?_tset_self _ _ _
  rw [Dev.vnpSend_of_master hxtx]
  refine ⟨Dev.node_ptErrUpdate _ hnode, ?_⟩
  rw [Dev.canCtl_ptErrUpdate, Dev.canCtl_modCan]
  show (x.canCtl (2 + b)).tx ++ [x.vnpFrame b 16 a (d.configBytes b)] = _
  rw [htail, hframe, List.append_assoc]
  rfl

theorem enrolReq_effect (s : State) (el : Nat) (b : Fin 4) (data : List Byte) :
    let n := 2 + b.val
    let uid := ofBytesLE ((natBytes data).take 8)
    Answers (.enrolReq el b data) s (fun _ d e => d.vnpHears b.val = true → d.vnpTx b.val = true →
        (uid = 0 ∨ uid = 2 ^ 64 - 1 → e = d) ∧
        (uid ≠ 0 → uid ≠ 2 ^ 64 - 1 →
          (∀ a, (List.range 64).find? (fun x => d.tableUid b.val x == uid) = some a →
            (e.node b.val a).st = 1 ∧ (e.node b.val a).uid = uid ∧ (e.node b.val a).pts = (natBytes data).getD 8 0 % 16 + 1 ∧
            (e.canCtl n).tx = (d.canCtl n).tx ++ [d.vnpFrame b.val 25 a (bytesLE 8 uid ++ [a]), d.vnpFrame b.val 16 a (d.configBytes b.val)]) ∧
          ((List.range 64).find? (fun x => d.tableUid b.val x == uid) = none →
            (d.canCtl n).newNodes.any (fun x => x.1 == uid) = false → (d.canCtl n).newNodes.length < 16 →
            (e.canCtl n).newNodes = (d.canCtl n).newNodes ++ [(uid, natBytes data)] ∧
            e.raised EVT.CAN_NODE_NEW (64 * b.val + uid % 64) = true))) := by
  extract_lets n uid
  refine answers_of_forall (f := fun now d => if d.vnpHears b.val then d.vnpEnrol now b.val (natBytes data) else d) rfl
    (fun now d hears htx => ?_)
  rw [if_pos hears]
  refine ⟨fun h => if_pos (by simpa using h), fun h0 h1 => ⟨fun a ha => ?_, fun hnone hnew hlen => ?_⟩⟩
  · have hstep : d.vnpEnrol now b.val (natBytes data) = _ := if_neg (by simpa using ⟨h0, h1⟩)
    rw [hstep, ha]
    obtain ⟨⟨p, hp⟩, hsent⟩ := Dev.enrolAnswered htx a uid
      { st := 1
        uid := uid
        pts := (natBytes data).getD 8 0 % 16 + 1
        latRpt := bitOf ((natBytes data).getD 8 0) 4
        ver := (natBytes data).getD 9 0
        vendor := (natBytes data).getD 10 0 + 256 * (natBytes data).getD 11 0
        heard := d.tickCnt now
        resync := true }
    exact ⟨congrArg VnpNode.st hp, congrArg VnpNode.uid hp, congrArg VnpNode.pts hp, hsent⟩
  · have hstep : d.vnpEnrol now b.val (natBytes data) = _ := if_neg (by simpa using ⟨h0, h1⟩)
    rw [hstep, hnone]
    dsimp only
    have hroom : ((d.canCtl (2 + b.val)).newNodes.any (fun x => x.1 == uid) || decide (16 ≤ (d.canCtl (2 + b.val)).newNodes.length)) = false := by
      rw [show 2 + b.val = n from rfl, hnew, decide_eq_false (Nat.not_le.mpr hlen)]
      rfl
    rw [if_neg (ne_true_of_eq_false hroom)]
    refine ⟨?_, Dev.raised_fire _ _ _ _ _ (by omega) ?_⟩
    · rw [Dev.canCtl_fire, Dev.canCtl_modCan]
    · have hbit : ∀ u : Fin 64, (evtPage EVT.CAN_NODE_NEW (64 * b.val + u.val)).2 < 32 := by
        clear * - b
        decide +revert
      exact hbit ⟨uid % 64, by omega⟩

theorem busSupplyClear_effect (s : State) (el : Nat) (b : Fin 4) :
    let n := 2 + b.val
    Answers (.busSupplyClear el b) s (fun now d e => d.alive = true → ∀ t, (d.canCtl n).supplyAt = some t → d.on (VNP.BUS_SUPPLY n) = true →
      (t + sec 2 ≤ now → e.rd (VNP.BUS_SUPPLY n) = 0 ∧ OnlyRegs [VNP.BUS_SUPPLY n] d e) ∧ (now < t + sec 2 → e = d)) := by
  refine answers_of_forall (f := fun now d => if d.alive then d.supplyClear now b.val else d) rfl (fun now d hal t ht hon => ?_)
  rw [if_pos hal]
  have hstep : d.supplyClear now b.val = if d.on (VNP.BUS_SUPPLY (2 + b.val)) && decide (t + sec 2 ≤ now) then
      d.wr (VNP.BUS_SUPPLY (2 + b.val)) 0 else d := by rw [Dev.supplyClear, ht]
  rw [hstep]
  refine ⟨fun h => ?_, fun h => if_neg (by simp [Nat.not_le.mpr h])⟩
  rw [if_pos (by simp [hon, h])]
  exact ⟨(Dev.rd_wr_self _ _ _).trans rfl, OnlyRegs.wr _ _ _ (by simp)⟩

theorem shadeEnd_effect (s : State) (el : Nat) (b : Fin 4) :
    let n := 2 + b.val
    Answers (.shadeEnd el b) s (fun now d e => d.alive = true → ∀ t, (d.canCtl n).shadeUntil = some t →
      (t ≤ now → e = d.modCan n (fun x => { x with shadeUntil := none })) ∧ (now < t → e = d)) := by
  refine answers_of_forall (f := fun now d => if d.alive then d.shadeCheck now b.val else d) rfl (fun now d hal t ht => ?_)
  have hstep : d.shadeCheck now b.val = if t ≤ now then d.modCan (2 + b.val) (fun c => { c with shadeUntil := none }) else d := by
    rw [Dev.shadeCheck, ht]
  rw [if_pos hal, hstep]
  exact ⟨fun h => if_pos h, fun h => if_neg (Nat.not_le.mpr h)⟩

theorem OnlyCan.onlyRegs {d x y : Dev} (h : OnlyCan x y) {f : Field} {v : Nat} (hx : d.wr f v = x) :
    y = { d with regs := y.regs, can := y.can } := by
  have hregs : y.regs = x.regs := (congrArg Dev.regs h :)
  rw [hregs, ← hx]
  rw [← hx] at h
  exact h

theorem pollGo_effect (s : State) (el : Nat) (b : Fin 4) (a : BitVec 6) :
    let n := 2 + b.val
    Answers (.pollGo el b a) s (fun _ d e => d.hif.inService = true →
      e.rd (VNP.POLL_NODE n) = a.toNat ∧ OnlyRegs [VNP.POLL_NODE n] { d with can := e.can } e ∧
      (d.vnpTx b.val = true → (e.canCtl n).tx = (d.canCtl n).tx ++ [d.vnpFrame b.val 12 a.toNat [0]])) := by
  refine answers_of_forall (f := fun _ d => if d.hif.inService then (d.wr (VNP.POLL_NODE (2 + b.val)) a.toNat).pollGo b.val else d) rfl
    (fun _ d hsvc => ?_)
  rw [if_pos hsvc]
  generalize hx : d.wr (VNP.POLL_NODE (2 + b.val)) a.toNat = x
  have hpoll : x.rd (VNP.POLL_NODE (2 + b.val)) = a.toNat := by
    rw [← hx, Dev.rd_wr_self]
    exact Nat.mod_eq_of_lt a.isLt
  have honly : OnlyRegs [VNP.POLL_NODE (2 + b.val)] d x := by
    rw [← hx]
    exact OnlyRegs.wr _ _ _ (by simp)
  have hkeep : ∀ f : Field, (VNP.POLL_NODE (2 + b.val)).key ≠ f.key → x.rd f = d.rd f := fun f hf => honly.2 f (by simpa using hf)
  have hframe : x.vnpFrame b.val 12 a.toNat [0] = d.vnpFrame b.val 12 a.toNat [0] := by
    unfold Dev.vnpFrame
    dsimp only
    rw [hkeep _ (by clear * - b; decide +revert), hkeep _ (by clear * - b; decide +revert), hkeep _ (by clear * - b; decide +revert),
      hkeep _ (by clear * - b; decide +revert)]
  have hcan : ∀ y : Dev, OnlyCan x y → y.rd (VNP.POLL_NODE (2 + b.val)) = a.toNat ∧
      OnlyRegs [VNP.POLL_NODE (2 + b.val)] { d with can := y.can } y := fun y hy =>
    ⟨(hy.rd _).trans hpoll, (hy.onlyRegs hx :), fun g hg => (hy.rd g).trans (honly.2 g hg)⟩
  have hsend : x.pollGo b.val = x.vnpSend b.val 12 a.toNat [0] := by rw [Dev.pollGo, hpoll]
  have hmaster : x.vnpTx b.val = d.vnpTx b.val := by
    unfold Dev.vnpTx Dev.vnpOn Dev.vnpMaster Dev.canVnp Dev.pgEn Dev.on
    rw [hkeep _ (by clear * - b; decide +revert), hkeep _ (by clear * - b; decide +revert), hkeep _ (by clear * - b; decide +revert),
      hkeep _ (by clear * - b; decide +revert)]
    rw [← hx]
    rfl
  rw [hsend]
  by_cases hm : d.vnpTx b.val = true
  · rw [Dev.vnpSend_of_master (hmaster.trans hm)]
    obtain ⟨h1, h2⟩ := hcan _ ((OnlyCan.refl x).thenModCan _ _)
    refine ⟨h1, h2, fun _ => ?_⟩
    rw [Dev.canCtl_modCan, hframe, ← hx]
    rfl
  · have hno : x.vnpSend b.val 12 a.toNat [0] = x := if_neg (hmaster ▸ hm)
    rw [hno]
    obtain ⟨h1, h2⟩ := hcan x (OnlyCan.refl x)
    exact ⟨h1, h2, fun h => absurd h hm⟩

theorem newNext_effect (s : State) (el : Nat) (b : Fin 4) :
    let n := 2 + b.val
    Answers (.newNext el b) s (fun _ d e => d.hif.inService = true →
      e = d.modCan n (fun x => { x with newNodes := x.newNodes.tail })) :=
  answers_of_forall (f := fun _ d => if d.hif.inService then d.newNext b.val else d) rfl (fun _ _ hsvc => if_pos hsvc)

/-- Settles O45, command by command. -/
theorem nodeProtocol : Obligations.NodeProtocol := by
  unfold Obligations.NodeProtocol
  exact fun s el b => ⟨fun a data => ⟨latency_effect s el b a data, status_effect s el b a data, nodeFault_effect s el b a data,
    configAck_effect s el b a data, nodeLost_effect s el b a, dutyRefresh_effect s el b a⟩, fun data => enrolReq_effect s el b data,
    busSupplyClear_effect s el b, shadeEnd_effect s el b, fun a => pollGo_effect s el b a, newNext_effect s el b⟩

end Sys2Proof.Machine
end

section
/-! PROOFS. The correction input. -/
namespace Sys2Proof.Machine

theorem rtcmPush_effect (s : State) (el : Nat) (n : BitVec 13) :
    Answers (.rtcmPush el n) s (fun _ d e => d.hif.inService = true →
      (0 < n.toNat → n.toNat ≤ 1024 → d.gnss.rtcm.length + n.toNat ≤ 8192 →
        e = { d with gnss := { d.gnss with rtcm := d.gnss.rtcm ++ memGetBytes d.mem 0x035400 n.toNat } }) ∧
      ((1024 < n.toNat ∨ 0 < n.toNat ∧ 8192 < d.gnss.rtcm.length + n.toNat) → e.rd GNSS.RTCM_OVF = 1 ∧ OnlyRegs [GNSS.RTCM_OVF] d e)) := by
  refine answers_of_forall (f := fun _ d => if d.hif.inService then d.rtcmPush n.toNat else d) rfl (fun _ d hsvc => ?_)
  rw [if_pos hsvc, Dev.rtcmPush]
  refine ⟨fun h0 hmax hfits => ?_, fun hbig => ?_⟩
  · rw [if_neg (by omega), if_neg (by omega)]
  · rw [if_neg (by omega), if_pos (by omega)]
    exact ⟨Dev.rd_wr_self _ _ _, OnlyRegs.wr _ _ _ (by simp)⟩

/-- A frame that fails is reported at most once a second: neither the input nor a register outside the events changes. -/
theorem Dev.rtcmErr_keeps (d : Dev) (now : Nat) :
    (d.rtcmErr now).gnss.rtcm = d.gnss.rtcm ∧ (d.rtcmErr now).rd GNSS.RTCM_CRC_ERR = d.rd GNSS.RTCM_CRC_ERR := by
  unfold Dev.rtcmErr
  split
  · rw [Dev.fire_gnss, Dev.rd_fire_of _ _ _ _ _ (by decide) (by decide)]
    exact ⟨rfl, rfl⟩
  · exact ⟨rfl, rfl⟩

/-- A message of a station renews the station and its base position. -/
theorem Dev.rtcmMsg_of_station {d : Dev} {now : Nat} {m : List Nat} (h : bitsBE m 0 12 = 1005 ∨ bitsBE m 0 12 = 1006) :
    d.rtcmMsg now m = { d with
      gnss := { d.gnss with
        stations := tset d.gnss.stations (bitsBE m 12 12) now
        bases := tset d.gnss.bases (bitsBE m 12 12) (basePosition m) } } := if_pos h

theorem rtcmFrame_effect (s : State) (el : Nat) :
    Answers (.rtcmFrame el) s (fun now d e => d.gnssOn = true → ∀ q, q = d.gnss.rtcm.dropWhile (· != 0xD3) → 3 ≤ q.length →
      bitsBE q 8 6 = 0 → ∀ len, len = bitsBE q 14 10 →
      (q.length < len + 6 → e = { d with gnss := { d.gnss with rtcm := q } }) ∧
      (len + 6 ≤ q.length → crc24q (q.take (len + 3)) ≠ bitsBE q (8 * (len + 3)) 24 →
        e.rd GNSS.RTCM_CRC_ERR = counted d GNSS.RTCM_CRC_ERR ∧ e.gnss.rtcm = q.drop 1) ∧
      (len + 6 ≤ q.length → crc24q (q.take (len + 3)) = bitsBE q (8 * (len + 3)) 24 →
        (bitsBE ((q.drop 3).take len) 0 12 = 1005 ∨ bitsBE ((q.drop 3).take len) 0 12 = 1006) →
        e = { d with gnss := { d.gnss with rtcm := q.drop (len + 6),
                                           stations := tset d.gnss.stations (bitsBE ((q.drop 3).take len) 12 12) now,
                                           bases := tset d.gnss.bases (bitsBE ((q.drop 3).take len) 12 12)
                                             (basePosition ((q.drop 3).take len)) } })) := by
  refine answers_of_forall (f := fun now d => if d.gnssOn then d.rtcmFrame now else d) rfl
    (fun now d hon q hq h3 hzero len hlen => ?_)
  rw [if_pos hon, Dev.rtcmFrame, ← hq, if_neg (by omega), if_neg (by simp [hzero]), ← hlen]
  refine ⟨fun hshort => if_pos hshort, fun hlong hbad => ?_, fun hlong hgood hst => ?_⟩
  · rw [if_neg (by omega), if_neg hbad]
    obtain ⟨hrtcm, herr⟩ := Dev.rtcmErr_keeps
      (({ d with gnss := { d.gnss with rtcm := q.drop 1 } } : Dev).bump GNSS.RTCM_CRC_ERR) now
    exact ⟨herr.trans (Dev.bump_shows _ _).1, hrtcm⟩
  · rw [if_neg (by omega), if_pos hgood]
    exact Dev.rtcmMsg_of_station hst

/-! ### Correction epochs and their age -/

theorem Dev.corrClose_of_first {d : Dev} (now : Nat) (c : CorrEpoch) (h : d.gnss.closed = none) :
    d.corrClose now c = ({ d with
      gnss := { d.gnss with
        opens := d.gnss.opens.filter (fun x => x.time != c.time)
        closed := some c } } : Dev).wr GNSS.BASE_ID c.station := by
  simp only [Dev.corrClose, h]

theorem correctionEpochClose_effect (s : State) (el : Nat) :
    Answers (.correctionEpochClose el) s (fun now d e => d.gnssOn = true →
      (∀ c, d.gnss.opens.filter (fun c => decide (c.first + ms 200 ≤ now)) = [c] → d.gnss.closed = none →
        e.gnss.closed = some c ∧ e.rd GNSS.BASE_ID = c.station % 2 ^ GNSS.BASE_ID.width ∧ ∀ x ∈ e.gnss.opens, x.time ≠ c.time) ∧
      ((∀ c ∈ d.gnss.opens, now < c.first + ms 200) → e = d)) := by
  refine answers_of_forall (f := fun now d => if d.gnssOn then d.corrTimeout now else d) rfl (fun now d hon => ?_)
  rw [if_pos hon, Dev.corrTimeout]
  refine ⟨fun c hone hnone => ?_, fun hnone => ?_⟩
  · rw [hone, Dev.each, List.foldl_cons, List.foldl_nil, Dev.corrClose_of_first now c hnone]
    refine ⟨rfl, Dev.rd_wr_self _ _ _, fun x hx => ?_⟩
    simpa using (List.mem_filter.mp hx).2
  · rw [List.filter_eq_nil_iff.mpr (fun c hc => by simpa using hnone c hc)]
    rfl

theorem corrAge_effect (s : State) (el : Nat) :
    Answers (.corrAge el) s (fun now d e => d.gnssOn = true → ∀ a, d.corrAgeMs now = some a →
      (a ≤ d.corrAgeMax → e = { d with gnss := { d.gnss with ageFired := false } }) ∧
      (d.corrAgeMax < a → d.gnss.ageFired = false → e.gnss.ageFired = true ∧
        bitOf (e.rd (HDR.PG_EVT_RAW 0x035000)) (EVT.GNSS_CORR_AGE - 88) = true) ∧
      (d.corrAgeMax < a → d.gnss.ageFired = true → e = d)) := by
  refine answers_of_forall (f := fun now d => if d.gnssOn then d.corrAgeCheck now else d) rfl (fun now d hon a ha => ?_)
  have hstep : d.corrAgeCheck now = if a ≤ d.corrAgeMax then { d with gnss := { d.gnss with ageFired := false } }
      else if d.gnss.ageFired then d else ({ d with
        gnss := { d.gnss with
          ageFired := true
          ambUntil := if 3 ≤ d.rd GNSS.SOL_TYPE then some (now + sec 30) else d.gnss.ambUntil } } : Dev).fire now EVT.GNSS_CORR_AGE 0 0 := by
    rw [Dev.corrAgeCheck, ha]
  rw [if_pos hon, hstep]
  refine ⟨fun h => if_pos h, fun h hfresh => ?_, fun h hfired => ?_⟩
  · rw [if_neg (by omega), if_neg (by simp [hfresh])]
    exact ⟨congrArg GnssBlk.ageFired (Dev.fire_gnss _ _ _ _ _), Dev.raised_fire _ now EVT.GNSS_CORR_AGE 0 0 (by decide) (by decide)⟩
  · rw [if_neg (by omega), if_pos hfired]

/-- Settles O27, command by command. -/
theorem correctionInput : Obligations.CorrectionInput := by
  unfold Obligations.CorrectionInput
  exact fun s el => ⟨rtcmPush_effect s el, rtcmFrame_effect s el, correctionEpochClose_effect s el, corrAge_effect s el⟩

end Sys2Proof.Machine
end

section
/-! PROOFS. The configuration image and the firmware update. -/
namespace Sys2Proof.Machine

theorem cfgStore_effect (s : State) (el : Nat) :
    Answers (.cfgStore el) s (fun now d e => d.pwrWrites now = true →
      (d.cntVal 8 ≠ 0 → e = d) ∧
      (d.cntVal 8 = 0 → e.rd PWR.CFG_VALID = 1 ∧ OnlyRegs [PWR.CFG_VALID] { d with mram := e.mram } e ∧
        ∃ img, e.mram = { d.mram with image := some img } ∧ img.fields = d.regs.filter (fun x => imageKey x.1) ∧ img.lists = d.rec_.lists ∧
          img.almanac = d.gnss.almanac ∧ img.layout = 1 ∧ img.crcOk = true ∧ img.crc = img.sealed.crc)) := by
  refine answers_of_forall (f := fun now d => if d.pwrWrites now then d.cfgStore else d) rfl (fun now d hw => ?_)
  rw [if_pos hw]
  refine ⟨fun hlock => by simp [Dev.cfgStore, hlock], fun hlock => ?_⟩
  rw [Dev.cfgStore, if_neg (by simp [hlock])]
  exact ⟨Dev.rd_wr_self _ _ _, OnlyRegs.wr _ _ _ (by simp), _, rfl, rfl, rfl, rfl, rfl, rfl, rfl⟩

theorem cfgErase_effect (s : State) (el : Nat) :
    Answers (.cfgErase el) s (fun now d e => d.pwrWrites now = true →
      (d.cntVal 8 ≠ 0 → e = d) ∧
      (d.cntVal 8 = 0 → e.rd PWR.CFG_VALID = 0 ∧ e.mram = { d.mram with image := none } ∧
        OnlyRegs [PWR.CFG_VALID] { d with mram := e.mram } e)) := by
  refine answers_of_forall (f := fun now d => if d.pwrWrites now then d.cfgErase else d) rfl (fun now d hw => ?_)
  rw [if_pos hw]
  refine ⟨fun hlock => by simp [Dev.cfgErase, hlock], fun hlock => ?_⟩
  rw [Dev.cfgErase, if_neg (by simp [hlock])]
  exact ⟨Dev.rd_wr_self _ _ _, rfl, OnlyRegs.wr _ _ _ (by simp)⟩

theorem fwPush_effect (s : State) (el : Nat) :
    Answers (.fwPush el) s (fun now d e => d.hif.inService = true →
      (d.mram.fwTrial = true ∨ d.pwr.fwPush ≠ none → e.rd PWR.FW_ERR = 4 ∧ OnlyRegs [PWR.FW_ERR] d e) ∧
      (d.mram.fwTrial = false → d.pwr.fwPush = none → e = { d with pwr := { d.pwr with fwPush := some (d.rd PWR.FW_OFS, now) } })) := by
  refine answers_of_forall (f := fun now d => if d.hif.inService then d.fwPush now else d) rfl (fun now d hsvc => ?_)
  rw [if_pos hsvc, Dev.fwPush]
  refine ⟨fun h => ?_, fun htrial hpush => if_neg (by simp [htrial, hpush])⟩
  rw [if_pos (by simpa [Option.isSome_iff_ne_none] using h)]
  exact ⟨Dev.rd_wr_self _ _ _, OnlyRegs.wr _ _ _ (by simp)⟩

theorem Dev.fwBank_setFwBank_self (d : Dev) {b : Nat} (k : FwBank) : (d.setFwBank b k).fwBank b = k := by
  by_cases h : b = 0 <;> simp [Dev.setFwBank, Dev.fwBank, h]

theorem Dev.fwBank_setFwBank_other (d : Dev) {b c : Nat} (k : FwBank) (h : b = 0 ↔ c ≠ 0) : (d.setFwBank b k).fwBank c = d.fwBank c := by
  by_cases hb : b = 0
  · have hc : c ≠ 0 := h.mp hb
    simp [Dev.setFwBank, Dev.fwBank, hb, hc]
  · have hc : c = 0 := by omega
    simp [Dev.setFwBank, Dev.fwBank, hb, hc]

theorem length_memGetBytes (m : List Host.Cell) (a n : Nat) : (memGetBytes m a n).length = n := by simp [memGetBytes]

theorem memGetBytes_lt (m : List Host.Cell) (a n : Nat) : ∀ x ∈ memGetBytes m a n, x < 256 := by
  intro x hx
  obtain ⟨i, -, rfl⟩ := List.mem_map.mp hx
  unfold memGet
  cases tget? m (a + i) with
  | none => decide
  | some v => exact v.isLt

/-- Bytes copied from one memory to another read back there, and no other byte changes. -/
theorem memSetBytes_memGetBytes (m m' : List Host.Cell) (a b n : Nat) :
    memGetBytes (memSetBytes m a (memGetBytes m' b n)) a n = memGetBytes m' b n ∧
      ∀ c, c < a ∨ a + n ≤ c → memGet (memSetBytes m a (memGetBytes m' b n)) c = memGet m c := by
  have hback := memGetBytes_memSetBytes m a (memGetBytes_lt m' b n)
  have hout := fun c => memGet_memSetBytes_out m a c (memGetBytes m' b n)
  rw [length_memGetBytes] at hback
  simp only [length_memGetBytes] at hout
  exact ⟨hback, hout⟩

theorem fwPushDone_effect (s : State) (el : Nat) :
    Answers (.fwPushDone el) s (fun _ d e => d.alive = true →
      (d.pwr.fwPush = none → e = d) ∧
      (∀ x, d.pwr.fwPush = some x → d.mram.fwRun < 2 → e.pwr.fwPush = none ∧ e.mram.fwRun = d.mram.fwRun ∧
        memGetBytes (e.fwBank (1 - d.mram.fwRun)).bytes (1024 * x.1) 1024 = memGetBytes d.mem 0x001400 1024 ∧
        e.fwBank d.mram.fwRun = d.fwBank d.mram.fwRun ∧
        (∀ a, a < 1024 * x.1 ∨ 1024 * x.1 + 1024 ≤ a →
          memGet (e.fwBank (1 - d.mram.fwRun)).bytes a = memGet (d.fwBank (1 - d.mram.fwRun)).bytes a))) := by
  refine answers_of_forall (f := fun _ d => if d.alive then d.fwPushDone else d) rfl (fun _ d hal => ?_)
  rw [if_pos hal]
  refine ⟨fun h => by rw [Dev.fwPushDone, h], fun x hx hrun => ?_⟩
  rw [Dev.fwPushDone, hx]
  obtain ⟨ofs, t⟩ := x
  dsimp only
  rw [Dev.fwBank_setFwBank_self, Dev.fwBank_setFwBank_other _ _ (by omega)]
  obtain ⟨hback, hout⟩ := memSetBytes_memGetBytes (d.fwBank (1 - d.mram.fwRun)).bytes d.mem (1024 * ofs) 0x001400 1024
  dsimp only
  refine ⟨rfl, ?_, hback, rfl, hout⟩
  unfold Dev.setFwBank
  dsimp only
  split <;> rfl

theorem fwActivate_effect (s : State) (el : Nat) :
    Answers (.fwActivate el) s (fun now d e => d.pwrWrites now = true →
      e = { d with pwr := { d.pwr with fwVerify := some (d.pwr.fwVerify.getD now) } }) :=
  answers_of_forall (f := fun now d => if d.pwrWrites now then d.fwActivate now else d) rfl (fun _ _ hw => if_pos hw)

theorem Dev.fwVerifyDone_of_some {d : Dev} (h : d.pwr.fwVerify ≠ none) {v : Nat × Nat} (hv : d.fwVerifyBank (1 - d.mram.fwRun) = v) :
    d.fwVerifyDone = (let x : Dev := { d with pwr := { d.pwr with fwVerify := none } }
      if v.1 != 0 then x.wr PWR.FW_ERR (if v.1 = 3 then 3 else 1)
      else if v.2 < d.cntVal 5 then x.wr PWR.FW_ERR 2
      else (({ x with mram := { d.mram with fwPending := true } }).setFwBank (1 - d.mram.fwRun)
        { d.fwBank (1 - d.mram.fwRun) with ver := v.2 }).wr PWR.FW_ERR 0) := by
  obtain ⟨t, ht⟩ := Option.ne_none_iff_exists'.mp h
  rw [Dev.fwVerifyDone, ht, ← hv]
  rfl

theorem fwVerifyDone_effect (s : State) (el : Nat) :
    Answers (.fwVerifyDone el) s (fun _ d e => d.alive = true →
      let v := d.fwVerifyBank (1 - d.mram.fwRun)
      (d.pwr.fwVerify = none → e = d) ∧
      (d.pwr.fwVerify ≠ none → e.pwr = { d.pwr with fwVerify := none } ∧
        (v.1 = 3 → e.rd PWR.FW_ERR = 3 ∧ e.mram = d.mram) ∧ (v.1 ≠ 0 → v.1 ≠ 3 → e.rd PWR.FW_ERR = 1 ∧ e.mram = d.mram) ∧
        (v.1 = 0 → v.2 < d.cntVal 5 → e.rd PWR.FW_ERR = 2 ∧ e.mram = d.mram) ∧
        (v.1 = 0 → d.cntVal 5 ≤ v.2 → e.rd PWR.FW_ERR = 0 ∧ e.mram.fwPending = true))) := by
  refine answers_of_forall (f := fun _ d => if d.alive then d.fwVerifyDone else d) rfl (fun _ d hal => ?_)
  rw [if_pos hal]
  extract_lets v
  refine ⟨fun h => by rw [Dev.fwVerifyDone, h], fun h => ?_⟩
  rw [Dev.fwVerifyDone_of_some h (v := v) rfl]
  extract_lets x
  refine ⟨?_, fun h3 => ?_, fun h0 h3 => ?_, fun h0 hlt => ?_, fun h0 hle => ?_⟩
  · split
    · rfl
    · split <;> rfl
  · rw [if_pos (by simp [h3]), if_pos h3]
    exact ⟨Dev.rd_wr_self _ _ _, rfl⟩
  · rw [if_pos (by simp [h0]), if_neg h3]
    exact ⟨Dev.rd_wr_self _ _ _, rfl⟩
  · rw [if_neg (by simp [h0]), if_pos hlt]
    exact ⟨Dev.rd_wr_self _ _ _, rfl⟩
  · rw [if_neg (by simp [h0]), if_neg (by omega)]
    refine ⟨Dev.rd_wr_self _ _ _, ?_⟩
    unfold Dev.setFwBank
    dsimp only [Dev.wr_mram]
    split <;> rfl

theorem Dev.fwConfirm_of_trialEnd {d : Dev} {t : Nat} (now : Nat) (h : d.trialEnd = some t) :
    d.fwConfirm now = if d.mram.fwTrial && !d.mram.fwFailed && d.pwr.mode == .host && decide (now ≤ t) then
      { d with mram := { d.mram with fwTrial := false } } else d := by rw [Dev.fwConfirm, h]

theorem fwConfirm_effect (s : State) (el : Nat) :
    Answers (.fwConfirm el) s (fun now d e => d.pwrWrites now = true →
      (d.mram.fwTrial = true → d.mram.fwFailed = false → d.pwr.mode = .host → ∀ t, d.trialEnd = some t →
        (now ≤ t → e = { d with mram := { d.mram with fwTrial := false } }) ∧ (t < now → e = d)) ∧
      (d.mram.fwTrial = false ∨ d.mram.fwFailed = true ∨ d.pwr.mode ≠ .host ∨ d.trialEnd = none → e = d)) := by
  refine answers_of_forall (f := fun now d => if d.pwrWrites now then d.fwConfirm now else d) rfl (fun now d hw => ?_)
  rw [if_pos hw]
  refine ⟨fun htrial hfail hmode t ht => ?_, fun hno => ?_⟩
  · rw [Dev.fwConfirm_of_trialEnd now ht]
    exact ⟨fun h => if_pos (by simp [htrial, hfail, hmode, h]), fun h => if_neg (by simp [Nat.not_le.mpr h])⟩
  · cases ht : d.trialEnd with
    | none => rw [Dev.fwConfirm, ht]
    | some t =>
      rw [Dev.fwConfirm_of_trialEnd now ht]
      refine if_neg (fun hc => ?_)
      simp only [Bool.and_eq_true, Bool.not_eq_true', beq_iff_eq] at hc
      simp [hc, ht] at hno

theorem fwTrialExpiry_effect (s : State) (el : Nat) :
    Answers (.fwTrialExpiry el) s (fun now d e => d.alive = true → d.mram.fwTrial = true → d.mram.fwFailed = false →
      ∀ t, d.trialEnd = some t →
      (now < t → e = d) ∧
      (t ≤ now → d.pwr.mode = .host → e = { d with mram := { d.mram with fwFailed := true } }) ∧
      (t ≤ now → d.pwr.mode ≠ .host → e = { d with mram := { d.mram with fwTrial := false } })) := by
  refine answers_of_forall (f := fun now d => if d.alive then d.fwTrialEnd now else d) rfl (fun now d hal htrial hfail t ht => ?_)
  have hstep : d.fwTrialEnd now = if t ≤ now then (if d.pwr.mode == .host then { d with mram := { d.mram with fwFailed := true } }
      else { d with mram := { d.mram with fwTrial := false } }) else d := by
    rw [Dev.fwTrialEnd, ht]
    simp [htrial, hfail]
  rw [if_pos hal, hstep]
  refine ⟨fun h => if_neg (by omega), fun h hmode => ?_, fun h hmode => ?_⟩
  · rw [if_pos h, if_pos (by simp [hmode])]
  · rw [if_pos h, if_neg (by simp [hmode])]

/-- Settles O55, command by command. -/
theorem imageAndFirmware : Obligations.ImageAndFirmware := by
  unfold Obligations.ImageAndFirmware
  exact fun s el => ⟨cfgStore_effect s el, cfgErase_effect s el, fwPush_effect s el, fwPushDone_effect s el, fwActivate_effect s el,
    fwVerifyDone_effect s el, fwConfirm_effect s el, fwTrialExpiry_effect s el⟩

end Sys2Proof.Machine
end

section
/-! PROOFS. Counted settings. -/
namespace Sys2Proof.Machine

theorem Dev.cntWrite_of_refused {d : Dev} {now path i v : Nat} (hi : i < 12) (hne : cntNarrow i v ≠ d.cntVal i)
    (hcode : d.cntRefusal now path i (cntNarrow i v) ≠ 0) :
    (d.cntWrite now path i v).2 = d.cntRefuse now i (cntNarrow i v) (d.cntRefusal now path i (cntNarrow i v)) := by
  have h12 : i ≠ 12 := by omega
  simp [Dev.cntWrite, hne, hcode, h12]

theorem Dev.cntWrite_of_taken {d : Dev} {now path i v : Nat} (hi : i < 12) (hne : cntNarrow i v ≠ d.cntVal i)
    (hcode : d.cntRefusal now path i (cntNarrow i v) = 0) :
    (d.cntWrite now path i v).2 = { d with cntAct := some { idx := i, old := d.cntVal i, new := cntNarrow i v, path := path, start := now } } := by
  have h12 : i ≠ 12 := by omega
  simp [Dev.cntWrite, hne, hcode, h12]

/-- A refusal is one of the reasons of Table 16.4. -/
theorem Dev.cntRefusal_lt (d : Dev) (now path i v : Nat) : d.cntRefusal now path i v < 8 := by
  unfold Dev.cntRefusal
  repeat (split; · decide)
  decide

/-- The registers of a refusal before its record. -/
def Dev.cntRefuseRegs (d : Dev) (i code : Nat) : Dev := ((d.wr CNT.LAST_ERR code).wr CNT.LAST_ERR_IDX i).bump CNT.REFUSED_CNT

theorem Dev.cntRefuse_spec (d : Dev) (now v : Nat) {i code : Nat} (hi : i < 16) (hcode : code < 8) :
    (d.cntRefuse now i v code).rd CNT.LAST_ERR = code ∧ (d.cntRefuse now i v code).rd CNT.LAST_ERR_IDX = i ∧
      (d.cntRefuse now i v code).rd CNT.REFUSED_CNT = counted d CNT.REFUSED_CNT ∧ (d.cntRefuse now i v code).mram = d.mram ∧
      (d.cntRefuse now i v code).cntAct = d.cntAct := by
  have hquiet : Quiet (d.cntRefuseRegs i code) (d.cntRefuse now i v code) := by
    unfold Dev.cntRefuse
    split
    · exact stageLimited_quiet _ _ _ _ _ _
    · exact Quiet.refl _
  have hrd : ∀ f : Field, f.lo < 32 → f.ofEvents = false → (d.cntRefuse now i v code).rd f = (d.cntRefuseRegs i code).rd f :=
    fun f hlo hev => hquiet.rd f (f.not_evtKey_of_ofEvents_eq_false hlo hev)
  refine ⟨?_, ?_, ?_, (congrArg Dev.mram hquiet.1 :), (congrArg Dev.cntAct hquiet.1 :)⟩
  · rw [hrd _ (by decide) (by decide), Dev.cntRefuseRegs, Dev.rd_bump_ne _ (by decide), Dev.rd_wr_ne _ _ (by decide), Dev.rd_wr_self]
    exact Nat.mod_eq_of_lt hcode
  · rw [hrd _ (by decide) (by decide), Dev.cntRefuseRegs, Dev.rd_bump_ne _ (by decide), Dev.rd_wr_self]
    exact Nat.mod_eq_of_lt (by simp only [CNT.LAST_ERR_IDX]; omega)
  · rw [hrd _ (by decide) (by decide), Dev.cntRefuseRegs, (Dev.bump_shows _ _).1, counted, counted, Dev.rd_wr_ne _ _ (by decide),
      Dev.rd_wr_ne _ _ (by decide)]

theorem countedWrite_effect (s : State) (el : Nat) (path : Fin 3) (i : Fin 12) (v : Word) :
    Answers (.countedWrite el path i v) s (fun now d e => d.hif.inService = true →
      let n := cntNarrow i.val v.toNat
      let code := d.cntRefusal now path.val i.val n
      (n = d.cntVal i.val → e = d) ∧
      (n ≠ d.cntVal i.val → code ≠ 0 → e.rd CNT.LAST_ERR = code ∧ e.rd CNT.LAST_ERR_IDX = i.val ∧
        e.rd CNT.REFUSED_CNT = counted d CNT.REFUSED_CNT ∧ e.mram = d.mram ∧ e.cntAct = d.cntAct) ∧
      (n ≠ d.cntVal i.val → code = 0 →
        e = { d with cntAct := some { idx := i.val, old := d.cntVal i.val, new := n, path := path.val, start := now } })) := by
  refine answers_of_forall (f := fun now d => if d.hif.inService then (d.cntWrite now path.val i.val v.toNat).2 else d) rfl
    (fun now d hsvc => ?_)
  rw [if_pos hsvc]
  have h12 : i.val ≠ 12 := by omega
  refine ⟨fun h => by simp [Dev.cntWrite, h, h12], fun hne hcode => ?_, fun hne hcode => Dev.cntWrite_of_taken i.isLt hne hcode⟩
  rw [Dev.cntWrite_of_refused i.isLt hne hcode]
  exact d.cntRefuse_spec now _ (by omega) (d.cntRefusal_lt _ _ _ _)

/-- Table 16.4: the first condition that a write fails. -/
theorem cntRefusal_cases (d : Dev) (now path i v : Nat) :
    (d.unlocked now (cntPage i) = false → d.cntRefusal now path i v = 1) ∧
      (d.unlocked now (cntPage i) = true → d.cntAct ≠ none → d.cntRefusal now path i v = 2) ∧
      (d.unlocked now (cntPage i) = true → d.cntAct = none → i ≠ 4 → cntBudget i ≤ d.cntUsed i → d.cntRefusal now path i v = 4) ∧
      (d.unlocked now (cntPage i) = true → d.cntAct = none → i ≠ 4 → i ≠ 5 → d.cntUsed i < cntBudget i →
        d.cntRefusal now path i v = if d.cntVal 4 = 2 ∧ path ≠ 0 then 6 else 0) := by
  refine ⟨fun h => by simp [Dev.cntRefusal, h], fun h hact => ?_, fun h hact h4 hfull => ?_, fun h hact h4 h5 hroom => ?_⟩
  · simp [Dev.cntRefusal, h, Option.isSome_iff_ne_none.mpr hact]
  · simp [Dev.cntRefusal, h, hact, h4, hfull]
  · simp [Dev.cntRefusal, h, hact, h4, h5, Nat.not_le.mpr hroom]

/-! ### The act's completion -/

/-- The copy in use after a change is the new one. -/
theorem CntSetting.cur_of_stored (s : CntSetting) (val : Nat) (h : List (List Nat)) :
    let n : CntCopy := { seq := s.cur.seq + 1, val := val, used := s.cur.used + 1 }
    (if s.a = s.cur then { s with b := n, hist := h } else { s with a := n, hist := h }).cur = n := by
  intro n
  by_cases hc : s.a = s.cur
  · have hseq : ¬n.seq ≤ s.a.seq := by
      rw [hc]
      simp [n]
    rw [if_pos hc, CntSetting.cur]
    exact if_neg (by simp [hseq, show n.ok = true from rfl])
  · have hb : s.cur = s.b := by
      unfold CntSetting.cur at hc ⊢
      split at hc
      · exact absurd rfl hc
      · rw [if_neg ‹_›]
    have hseq : s.b.seq ≤ n.seq := by
      rw [← hb]
      exact Nat.le_succ _
    rw [if_neg hc, CntSetting.cur]
    exact if_pos (by simp [hseq, show n.ok = true from rfl])

theorem Dev.cntStore_spec (d : Dev) (now i path old new val : Nat) :
    (d.cntStore now i path old new val).cntVal i = val ∧ (d.cntStore now i path old new val).cntUsed i = d.cntUsed i + 1 ∧
      (tget (d.cntStore now i path old new val).mram.cnt i).hist.length = (tget d.mram.cnt i).hist.length + 1 ∧
      ∀ j, j ≠ i → tget (d.cntStore now i path old new val).mram.cnt j = tget d.mram.cnt j := by
  have hcur := CntSetting.cur_of_stored (tget d.mram.cnt i) val
    ((tget d.mram.cnt i).hist ++ [d.histEntry now i path ((tget d.mram.cnt i).cur.used + 1) old new])
  refine ⟨?_, ?_, ?_, fun j hj => tget_tset_ne _ _ hj.symm⟩
  · simp only [Dev.cntStore, Dev.cntVal, tget_tset_self]
    exact congrArg CntCopy.val hcur
  · simp only [Dev.cntStore, Dev.cntUsed, tget_tset_self]
    exact congrArg CntCopy.used hcur
  · simp only [Dev.cntStore, tget_tset_self]
    split <;> simp

theorem Dev.mram_cntEffect (d : Dev) (now i v : Nat) : (d.cntEffect now i v).mram = d.mram := by
  unfold Dev.cntEffect
  split
  · rfl
  · split <;> rfl

theorem Dev.cntAct_cntEffect (d : Dev) (now i v : Nat) : (d.cntEffect now i v).cntAct = d.cntAct := by
  unfold Dev.cntEffect
  split
  · rfl
  · split <;> rfl

theorem stageFree_rawKept (d : Dev) (now k c g : Nat) (bs : List Nat) : RawKept d (d.stageFree now k c g bs) := by
  unfold Dev.stageFree
  split
  · exact stagePut_rawKept d _
  · exact RawKept.wr d REC.LOST_CNT _ (by decide)

/-- The setting of an act, stored and in effect. -/
def Dev.cntApplied (d : Dev) (now : Nat) (a : CntAct) : Dev :=
  if a.idx = 12 then { d with cntAct := none }
  else (({ d with cntAct := none } : Dev).cntStore now a.idx a.path a.old a.new a.new).cntEffect now a.idx a.new

/-- An act's completion as its events see it. -/
def Dev.cntEvents (d : Dev) (now : Nat) (a : CntAct) : Dev :=
  let x := (d.cntApplied now a).fire now EVT.CNT_CHANGE a.idx 0
  if x.cntUsed a.idx = cntBudget a.idx then x.fire now EVT.CNT_FROZEN a.idx 0 else x

theorem Dev.cntDone_of_act {d : Dev} (now : Nat) {a : CntAct} (h : d.cntAct = some a) :
    d.cntDone now = (d.cntEvents now a).stageFree now 0x04 a.idx 0 ((tget (d.cntEvents now a).mram.cnt a.idx).hist.getLast?.getD []) := by
  rw [Dev.cntDone, h]
  rfl

theorem Dev.cntUsed_congr {d e : Dev} (h : e.mram = d.mram) (i : Nat) : e.cntUsed i = d.cntUsed i := by rw [Dev.cntUsed, Dev.cntUsed, h]

theorem Dev.cntEvents_keeps (d : Dev) (now : Nat) (a : CntAct) :
    (d.cntEvents now a).mram = (d.cntApplied now a).mram ∧ (d.cntEvents now a).cntAct = (d.cntApplied now a).cntAct := by
  unfold Dev.cntEvents
  dsimp only
  split
  · exact ⟨by rw [Dev.fire_mram, Dev.fire_mram], by rw [Dev.fire_cntAct, Dev.fire_cntAct]⟩
  · exact ⟨Dev.fire_mram _ _ _ _ _, Dev.fire_cntAct _ _ _ _ _⟩

/-- The page and the bit of the events of counted settings do not depend on the setting. -/
theorem raised_cnt (d : Dev) {ev : Nat} (hev : ev = EVT.CNT_CHANGE ∨ ev = EVT.CNT_FROZEN) (i : Nat) : d.raised ev i = d.raised ev 0 := by
  rcases hev with rfl | rfl <;> rfl

/-- A firing takes the number of its page modulo 2 ^ 16. -/
theorem Dev.fire_mod (d : Dev) (now e i v : Nat) : d.fire now e (i % 2 ^ 16) v = d.fire now e i v := by
  unfold Dev.fire
  rw [Nat.mod_mod]

theorem Dev.raised_fire_cnt (d : Dev) (now i v : Nat) {ev : Nat} (hev : ev = EVT.CNT_CHANGE ∨ ev = EVT.CNT_FROZEN) :
    (d.fire now ev i v).raised ev 0 = true := by
  have hbit : (evtPage ev (i % 2 ^ 16)).2 < 32 := by
    rcases hev with rfl | rfl
    · exact (by decide : (evtPage EVT.CNT_CHANGE 0).2 < 32)
    · exact (by decide : (evtPage EVT.CNT_FROZEN 0).2 < 32)
  rw [← raised_cnt _ hev (i % 2 ^ 16), ← Dev.fire_mod]
  exact Dev.raised_fire d now ev (i % 2 ^ 16) v (Nat.mod_lt _ (by decide)) hbit

theorem Dev.cntEvents_raised (d : Dev) (now : Nat) (a : CntAct) :
    (d.cntEvents now a).raised EVT.CNT_CHANGE 0 = true ∧
      ((d.cntApplied now a).cntUsed a.idx = cntBudget a.idx → (d.cntEvents now a).raised EVT.CNT_FROZEN 0 = true) := by
  have hx := Dev.raised_fire_cnt (d.cntApplied now a) now a.idx 0 (.inl rfl)
  have hused := Dev.cntUsed_congr ((d.cntApplied now a).fire_mram now EVT.CNT_CHANGE a.idx 0) a.idx
  unfold Dev.cntEvents
  dsimp only
  rw [hused]
  refine ⟨?_, fun h => ?_⟩
  · split
    · exact Dev.raised_fire_keeps _ _ _ _ _ (by decide) hx
    · exact hx
  · rw [if_pos h]
    exact Dev.raised_fire_cnt _ _ _ _ (.inr rfl)

theorem Dev.cntApplied_of_lt (d : Dev) (now : Nat) {a : CntAct} (h : a.idx < 12) :
    d.cntApplied now a = (({ d with cntAct := none } : Dev).cntStore now a.idx a.path a.old a.new a.new).cntEffect now a.idx a.new :=
  if_neg (by omega)

theorem Dev.cntAct_cntApplied (d : Dev) (now : Nat) (a : CntAct) : (d.cntApplied now a).cntAct = none := by
  unfold Dev.cntApplied
  split
  · rfl
  · rw [Dev.cntAct_cntEffect]
    rfl

theorem countedChangeDone_effect (s : State) (el : Nat) :
    Answers (.countedChangeDone el) s (fun _ d e => d.alive = true →
      (d.cntAct = none → e = d) ∧
      (∀ a, d.cntAct = some a → e.cntAct = none ∧ e.raised EVT.CNT_CHANGE 0 = true ∧
        (a.idx < 12 → d.cntUsed a.idx + 1 = cntBudget a.idx → e.raised EVT.CNT_FROZEN 0 = true) ∧
        (a.idx < 12 → e.cntVal a.idx = a.new ∧ e.cntUsed a.idx = d.cntUsed a.idx + 1 ∧
          (tget e.mram.cnt a.idx).hist.length = (tget d.mram.cnt a.idx).hist.length + 1 ∧
          (∀ j, j ≠ a.idx → tget e.mram.cnt j = tget d.mram.cnt j)))) := by
  refine answers_of_forall (f := fun now d => if d.alive then d.cntDone now else d) rfl (fun now d hal => ?_)
  rw [if_pos hal]
  refine ⟨fun h => by rw [Dev.cntDone, h], fun a ha => ?_⟩
  rw [Dev.cntDone_of_act now ha]
  obtain ⟨hmram, hact⟩ := d.cntEvents_keeps now a
  obtain ⟨hchange, hfrozen⟩ := d.cntEvents_raised now a
  generalize d.cntEvents now a = x at hmram hact hchange hfrozen ⊢
  have hkept := stageFree_rawKept x now 0x04 a.idx 0 ((tget x.mram.cnt a.idx).hist.getLast?.getD [])
  have hmram' := (x.stageFree_mram now 0x04 a.idx 0 ((tget x.mram.cnt a.idx).hist.getLast?.getD [])).trans hmram
  refine ⟨?_, hkept.raised (by decide) hchange, fun hlt hbudget => hkept.raised (by decide) (hfrozen ?_), fun hlt => ?_⟩
  · rw [Dev.stageFree_cntAct, hact, d.cntAct_cntApplied now a]
  · rw [← hbudget, d.cntApplied_of_lt now hlt, Dev.cntUsed_congr (Dev.mram_cntEffect _ _ _ _)]
    exact (Dev.cntStore_spec { d with cntAct := none } now a.idx a.path a.old a.new a.new).2.1
  · rw [d.cntApplied_of_lt now hlt, Dev.mram_cntEffect] at hmram'
    simp only [Dev.cntVal, Dev.cntUsed, hmram']
    exact Dev.cntStore_spec { d with cntAct := none } now a.idx a.path a.old a.new a.new

/-! ### The history -/

theorem key_histEntry (k : Nat) : (CNT.HIST_ENTRY k).key = 32 * (0x0050C4 + 4 * k) := rfl

theorem histN_effect (s : State) (el : Nat) (n : BitVec 8) :
    Answers (.histN el n) s (fun _ d e => d.hif.inService = true → e.rd CNT.HIST_N = n.toNat ∧
      e = { d with regs := e.regs } ∧
      (∀ x, (tget d.mram.cnt (d.rd CNT.HIST_SET)).hist.find? (fun y => y.getD 0 0 / 2 ^ 8 == n.toNat) = some x →
        ∀ k, k < 8 → e.rd (CNT.HIST_ENTRY k) = x.getD k 0 % 2 ^ 32)) := by
  refine answers_of_forall (f := fun _ d => if d.hif.inService then d.histShow n.toNat else d) rfl (fun _ d hsvc => ?_)
  rw [if_pos hsvc]
  have hset : (d.wr CNT.HIST_N n.toNat).rd CNT.HIST_SET = d.rd CNT.HIST_SET := Dev.rd_wr_ne _ _ (by decide)
  have hn : (d.wr CNT.HIST_N n.toNat).rd CNT.HIST_N = n.toNat := (Dev.rd_wr_self _ _ _).trans (Nat.mod_eq_of_lt n.isLt)
  generalize hx : ((tget d.mram.cnt (d.rd CNT.HIST_SET) : CntSetting).hist.find? (fun y => y.getD 0 0 / 2 ^ 8 == n.toNat)).getD [] = x
  have hstep : d.histShow n.toNat = (d.wr CNT.HIST_N n.toNat).each (List.range 8) (fun d k => d.wr (CNT.HIST_ENTRY k) (x.getD k 0)) := by
    rw [Dev.histShow, Dev.wr_mram, hset, hx]
  obtain ⟨⟨hregs, hN⟩, hentry, -⟩ := Dev.each_range_sets (fun y => y = { d with regs := y.regs } ∧ y.rd CNT.HIST_N = n.toNat)
    (fun y k => y.rd (CNT.HIST_ENTRY k)) (fun k => x.getD k 0 % 2 ^ 32) (fun d k => d.wr (CNT.HIST_ENTRY k) (x.getD k 0))
    (d.wr CNT.HIST_N n.toNat) ⟨rfl, hn⟩ 8 (fun y k hk hy => by
      refine ⟨⟨(congrArg (Dev.wr · (CNT.HIST_ENTRY k) (x.getD k 0)) hy.1 :), ?_⟩, Dev.rd_wr_self _ _ _, fun j hj => ?_⟩
      · rw [Dev.rd_wr_ne _ _ (by clear * - hk; decide +revert)]
        exact hy.2
      · exact Dev.rd_wr_ne _ _ (by rw [key_histEntry, key_histEntry]; omega))
  rw [hstep]
  refine ⟨hN, hregs, fun w hw k hk => ?_⟩
  rw [hentry k hk, ← hx, hw]
  rfl

/-- Settles O57, command by command. -/
theorem countedSettings : Obligations.CountedSettings := by
  unfold Obligations.CountedSettings
  exact fun s el => ⟨fun path i v => countedWrite_effect s el path i v, cntRefusal_cases, countedChangeDone_effect s el,
    fun n => histN_effect s el n⟩

end Sys2Proof.Machine
end

section
/-! PROOFS. The event log. -/
namespace Sys2Proof.Machine

/-! ### What is staged reaches the log -/

/-- With room for all of it, the records given follow those of the log. -/
theorem Dev.logPuts_of_room (now : Nat) (l : List (List Nat)) (d : Dev) (hfull : d.on REC.REC_FULL = false)
    (hroom : d.wrPtr + (l.map (fun r => 4 * r.length)).sum + 512 ≤ 1572864) :
    l.foldl (fun d r => d.logPut now r) d = { d with mram := { d.mram with log := d.mram.log ++ l } } := by
  induction l generalizing d with
  | nil => simp
  | cons r l ih =>
    rw [List.map_cons, List.sum_cons] at hroom
    have hput : d.logPut now r = { d with mram := { d.mram with log := d.mram.log ++ [r] } } := by
      rw [Dev.logPut, if_neg (ne_true_of_eq_false hfull), if_neg (by omega)]
    rw [List.foldl_cons, hput]
    refine (ih { d with mram := { d.mram with log := d.mram.log ++ [r] } } hfull ?_).trans ?_
    · have hptr : ({ d with mram := { d.mram with log := d.mram.log ++ [r] } } : Dev).wrPtr = d.wrPtr + 4 * r.length := by
        simp [Dev.wrPtr, Nat.add_assoc]
      rw [hptr]
      omega
    · simp

theorem Dev.recFlush_of_idle {d : Dev} {now : Nat} (h : d.inT6 now = false ∨ d.rec_.staging = []) : d.recFlush now = d := by
  rcases h with h | h
  · exact if_neg (ne_true_of_eq_false h)
  · have hout : d.recWriteOut now = d := by
      have hrec : ({ d.rec_ with staging := [] } : RecBlk) = d.rec_ := by rw [← h]
      rw [Dev.recWriteOut, h, List.foldl_nil, hrec]
    rw [Dev.recFlush, hout, ite_self]

theorem Dev.recFlush_of_room {d : Dev} {now : Nat} (ht6 : d.inT6 now = true) (hfull : d.on REC.REC_FULL = false)
    (hroom : d.wrPtr + (d.rec_.staging.map (fun r => 4 * r.length)).sum + 512 ≤ 1572864) :
    d.recFlush now = { d with mram := { d.mram with log := d.mram.log ++ d.rec_.staging }, rec_ := { d.rec_ with staging := [] } } := by
  rw [Dev.recFlush, if_pos ht6, Dev.recWriteOut]
  exact Dev.logPuts_of_room now d.rec_.staging { d with rec_ := { d.rec_ with staging := [] } } hfull hroom

/-! ### Trigger sets -/

/-- A set changed counts in TS_GEN, and its definition is due. -/
theorem Dev.tsChanged_spec (d : Dev) (k : Nat) :
    (d.tsChanged k).rd (REC.TS_GEN k) = (d.rd (REC.TS_GEN k) + 1) % 2 ^ 8 ∧ k ∈ (d.tsChanged k).rec_.defDue ∧
      (d.tsChanged k).rec_.lists = d.rec_.lists ∧ ∀ f : Field, (REC.TS_GEN k).key ≠ f.key → (d.tsChanged k).rd f = d.rd f := by
  refine ⟨Dev.rd_wr_self _ _ _, ?_, rfl, fun f hf => Dev.rd_wr_ne _ _ hf⟩
  show k ∈ if d.rec_.defDue.contains k then d.rec_.defDue else d.rec_.defDue ++ [k]
  split
  · exact List.contains_iff_mem.mp ‹_›
  · simp

theorem triggerSetEntry_effect (s : State) (el : Nat) (set : Fin 32) (v : BitVec 24) (i : Fin 64) :
    Answers (.triggerSetChange el set (some i) v) s (fun _ d e => d.hif.inService = true →
        let old := (tget? d.rec_.lists (64 * set.val + i.val)).getD 0
        (tget? e.rec_.lists (64 * set.val + i.val)).getD 0 = v.toNat ∧ e.rd REC.SL_SET = set.val ∧ e.rd REC.SL_IDX = i.val ∧
        e.rd REC.SL_ADDR = v.toNat ∧
        (old = v.toNat → e.rec_ = d.rec_ ∧ e.rd (REC.TS_GEN set.val) = d.rd (REC.TS_GEN set.val)) ∧
        (old ≠ v.toNat → e.rd (REC.TS_GEN set.val) = (d.rd (REC.TS_GEN set.val) + 1) % 2 ^ 8 ∧ set.val ∈ e.rec_.defDue)) := by
  refine answers_of_forall (f := fun _ d => if d.hif.inService then
    ((((d.wr REC.SL_SET set.val).wr REC.SL_IDX i.val).wr REC.SL_ADDR v.toNat).snapListWrite set.val i.val v.toNat) else d) rfl
    (fun _ d hsvc => ?_)
  rw [if_pos hsvc]
  extract_lets old
  generalize hx : ((d.wr REC.SL_SET set.val).wr REC.SL_IDX i.val).wr REC.SL_ADDR v.toNat = x
  have hset : x.rd REC.SL_SET = set.val := by
    rw [← hx, Dev.rd_wr_ne _ _ (by decide), Dev.rd_wr_ne _ _ (by decide), Dev.rd_wr_self]
    exact Nat.mod_eq_of_lt (by simp only [REC.SL_SET]; omega)
  have hidx : x.rd REC.SL_IDX = i.val := by
    rw [← hx, Dev.rd_wr_ne _ _ (by decide), Dev.rd_wr_self]
    exact Nat.mod_eq_of_lt (by simp only [REC.SL_IDX]; omega)
  have haddr : x.rd REC.SL_ADDR = v.toNat := by
    rw [← hx, Dev.rd_wr_self]
    exact Nat.mod_eq_of_lt v.isLt
  have hgen : x.rd (REC.TS_GEN set.val) = d.rd (REC.TS_GEN set.val) := by
    rw [← hx, Dev.rd_wr_ne _ _ (by clear * - set; decide +revert), Dev.rd_wr_ne _ _ (by clear * - set; decide +revert),
      Dev.rd_wr_ne _ _ (by clear * - set; decide +revert)]
  have hrec : x.rec_ = d.rec_ := by rw [← hx]; rfl
  unfold Dev.snapListWrite
  rw [hrec]
  by_cases hold : old = v.toNat
  · rw [if_pos hold, hrec, hgen]
    exact ⟨hold, hset, hidx, haddr, fun _ => ⟨rfl, rfl⟩, fun h => absurd hold h⟩
  · rw [if_neg hold]
    obtain ⟨hts, hdue, hlists, hkeep⟩ := Dev.tsChanged_spec
      ({ x with rec_ := { d.rec_ with lists := kput 0 d.rec_.lists (64 * set.val + i.val) v.toNat } }) set.val
    refine ⟨?_, (hkeep _ (by clear * - set; decide +revert)).trans hset, (hkeep _ (by clear * - set; decide +revert)).trans hidx,
      (hkeep _ (by clear * - set; decide +revert)).trans haddr, fun h => absurd h hold, fun _ => ⟨hts.trans ?_, hdue⟩⟩
    · rw [hlists]
      exact kput_self 0 _ _ _
    · rw [← hgen]
      rfl

theorem triggerSetCount_effect (s : State) (el : Nat) (set : Fin 32) (v : BitVec 24) :
    Answers (.triggerSetChange el set none v) s (fun _ d e => d.hif.inService = true →
        (d.rd (REC.SNAP_N set.val) = v.toNat % 128 → e = d) ∧
        (d.rd (REC.SNAP_N set.val) ≠ v.toNat % 128 → e.rd (REC.SNAP_N set.val) = v.toNat % 128 ∧
          e.rd (REC.TS_GEN set.val) = (d.rd (REC.TS_GEN set.val) + 1) % 2 ^ 8 ∧ set.val ∈ e.rec_.defDue)) := by
  refine answers_of_forall (f := fun _ d => if d.hif.inService then d.snapNWrite set.val (v.toNat % 128) else d) rfl (fun _ d hsvc => ?_)
  rw [if_pos hsvc]
  refine ⟨fun h => if_pos h, fun h => ?_⟩
  rw [Dev.snapNWrite, if_neg h]
  obtain ⟨hts, hdue, -, hkeep⟩ := Dev.tsChanged_spec (d.wr (REC.SNAP_N set.val) (v.toNat % 128)) set.val
  refine ⟨?_, ?_, hdue⟩
  · rw [hkeep _ (by clear * - set; decide +revert), Dev.rd_wr_self]
    exact Nat.mod_eq_of_lt (Nat.mod_lt _ (by decide))
  · rw [hts, Dev.rd_wr_ne _ _ (by clear * - set; decide +revert)]

/-! ### Reading and streaming -/

theorem rdOfs_effect (s : State) (el : Nat) (o : BitVec 21) :
    Answers (.rdOfs el o) s (fun now d e => d.hif.inService = true → e.rd REC.RD_OFS = o.toNat ∧
      let f := d.recFlush now
      (∀ x, f.logRecords.find? (fun y => y.1 == o.toNat) = some x → e.rd REC.RD_VALID = 1 ∧ e.rec_ = { f.rec_ with window := x.2 } ∧
        e.rd REC.RD_NEXT = (o.toNat + 4 * x.2.length) % 2 ^ 21) ∧
      (f.logRecords.find? (fun y => y.1 == o.toNat) = none → e.rd REC.RD_VALID = 0 ∧ e.rec_ = f.rec_)) := by
  refine answers_of_forall (f := fun now d => if d.hif.inService then (d.recFlush now).rdOfs o.toNat else d) rfl (fun now d hsvc => ?_)
  rw [if_pos hsvc]
  generalize d.recFlush now = f
  have hofs : (f.wr REC.RD_OFS o.toNat).rd REC.RD_OFS = o.toNat := (Dev.rd_wr_self _ _ _).trans (Nat.mod_eq_of_lt o.isLt)
  have hlog : (f.wr REC.RD_OFS o.toNat).logRecords = f.logRecords := rfl
  rw [Dev.rdOfs, hlog]
  dsimp only
  cases hfind : f.logRecords.find? (fun y => y.1 == o.toNat) with
  | none =>
    refine ⟨(Dev.rd_wr_ne _ _ (by decide)).trans hofs, fun x hx => absurd hx (by simp), fun _ => ⟨Dev.rd_wr_self _ _ _, rfl⟩⟩
  | some x =>
    refine ⟨(Dev.rd_wr_ne _ _ (by decide)).trans ((Dev.rd_wr_ne _ _ (by decide)).trans hofs), fun y hy => ?_, fun h => absurd h (by simp)⟩
    obtain rfl := Option.some.inj hy
    exact ⟨(Dev.rd_wr_ne _ _ (by decide)).trans (Dev.rd_wr_self _ _ _), rfl, Dev.rd_wr_self _ _ _⟩

/-- A part of the log goes out over the port: the stream runs to WR_PTR. -/
theorem Dev.streamPart_spec (d : Dev) (o : Nat) :
    (d.streamPart o).rec_ = { d.rec_ with stream := some d.wrPtr } ∧ (d.streamPart o).wrPtr = d.wrPtr ∧
      d.streamPart o = { d with rec_ := (d.streamPart o).rec_, ksp := (d.streamPart o).ksp, evh := (d.streamPart o).evh } := by
  unfold Dev.streamPart
  have hsent := Dev.each_keeps Dev.sansSend (fun (d : Dev) (x : Nat × List Nat) => d.kspSend 0 4 (wordsToBytes (0x60 :: x.2)))
    (fun d x => d.sansSend_kspSend 0 4 _) d (d.logRecords.filter (fun x => decide (o ≤ x.1)))
  generalize d.each (d.logRecords.filter (fun x => decide (o ≤ x.1))) _ = y at hsent
  have hptr : y.wrPtr = d.wrPtr := (congrArg Dev.wrPtr hsent :)
  have hrec : y.rec_ = d.rec_ := (congrArg Dev.rec_ hsent :)
  have hall := Dev.eq_of_sansSend hsent
  refine ⟨?_, hptr, ?_⟩
  · show ({ y.rec_ with stream := some y.wrPtr } : RecBlk) = _
    rw [hptr, hrec]
  · exact (congrArg (fun z : Dev => { z with rec_ := { y.rec_ with stream := some y.wrPtr } }) hall :)

theorem rdStream_effect (s : State) (el : Nat) :
    Answers (.rdStream el) s (fun now d e => d.hif.inService = true →
      let f := d.recFlush now
      (f.rec_.stream ≠ none → e = f) ∧
      (f.rec_.stream = none → e.rec_ = { f.rec_ with stream := some f.wrPtr } ∧ e = { f with rec_ := e.rec_, ksp := e.ksp, evh := e.evh })) := by
  refine answers_of_forall (f := fun now d => if d.hif.inService then (d.recFlush now).rdStream else d) rfl (fun now d hsvc => ?_)
  rw [if_pos hsvc]
  generalize d.recFlush now = f
  refine ⟨fun h => if_pos (Option.isSome_iff_ne_none.mpr h), fun h => ?_⟩
  rw [Dev.rdStream, if_neg (by simp [h])]
  obtain ⟨hrec, -, hall⟩ := f.streamPart_spec (f.rd REC.RD_OFS)
  exact ⟨hrec, hall⟩

/-- The end of a stream is told once. -/
theorem Dev.streamEndMsg_spec (d : Dev) (o status : Nat) :
    (d.streamEndMsg o status).rec_ = { d.rec_ with stream := none } ∧
      d.streamEndMsg o status = { d with
        rec_ := (d.streamEndMsg o status).rec_
        ksp := (d.streamEndMsg o status).ksp
        evh := (d.streamEndMsg o status).evh } := by
  have hsent := ({ d with rec_ := { d.rec_ with stream := none } } : Dev).sansSend_kspSend 0 4 (wordsToBytes [0x61, o, status])
  unfold Dev.streamEndMsg
  generalize ({ d with rec_ := { d.rec_ with stream := none } } : Dev).kspSend 0 4 (wordsToBytes [0x61, o, status]) = y at hsent
  have hrec : y.rec_ = { d.rec_ with stream := none } := (congrArg Dev.rec_ hsent :)
  refine ⟨hrec, ?_⟩
  rw [hrec]
  exact Dev.eq_of_sansSend hsent

theorem streamEnd_effect (s : State) (el : Nat) :
    Answers (.streamEnd el) s (fun now d e => d.alive = true →
      let f := d.recFlush now
      (f.rec_.stream = none → e = f) ∧
      (f.rec_.stream ≠ none → e.rec_ = { f.rec_ with stream := none } ∧ e = { f with rec_ := e.rec_, ksp := e.ksp, evh := e.evh })) := by
  refine answers_of_forall (f := fun now d => if d.alive then (d.recFlush now).streamEnd else d) rfl (fun now d hal => ?_)
  rw [if_pos hal]
  generalize d.recFlush now = f
  refine ⟨fun h => by rw [Dev.streamEnd, h], fun h => ?_⟩
  obtain ⟨o, ho⟩ := Option.ne_none_iff_exists'.mp h
  have hstep : f.streamEnd = (if o < f.wrPtr then f.streamPart o else f).streamEndMsg (if o < f.wrPtr then f.streamPart o else f).wrPtr 0 := by
    rw [Dev.streamEnd, ho]
  rw [hstep]
  by_cases hmore : o < f.wrPtr
  · rw [if_pos hmore]
    obtain ⟨hrec, -, hall⟩ := f.streamPart_spec o
    generalize f.streamPart o = g at hrec hall
    obtain ⟨hrec', hall'⟩ := g.streamEndMsg_spec g.wrPtr 0
    generalize g.streamEndMsg g.wrPtr 0 = e at hrec' hall'
    refine ⟨by rw [hrec', hrec], ?_⟩
    rw [hall']
    exact (congrArg (fun z : Dev => { z with rec_ := e.rec_, ksp := e.ksp, evh := e.evh }) hall :)
  · rw [if_neg hmore]
    exact f.streamEndMsg_spec f.wrPtr 0

/-! ### Clearing the log -/

theorem Dev.mram_streamAbort (d : Dev) : d.streamAbort.mram = d.mram := by
  unfold Dev.streamAbort
  split
  · rfl
  · exact (congrArg Dev.mram (d.streamEndMsg_spec _ _).2 :)

theorem Dev.mram_logClear (d : Dev) (now path : Nat) :
    (d.logClear now path).mram.log = [] ∧ (d.logClear now path).mram.logGen = (d.mram.logGen + 1) % 256 := by
  have hab := d.mram_streamAbort
  unfold Dev.logClear
  generalize d.streamAbort = x at hab
  extract_lets y n gen _ _ _ z w
  have hw : (w.stageFree now 0x0A 0 0 [n, gen]).mram = z.mram := Dev.stageFree_mram _ _ _ _ _ _
  rw [hw]
  exact ⟨rfl, by rw [← hab]⟩

theorem logClr_effect (s : State) (el : Nat) (path : Fin 3) :
    Answers (.logClr el path) s (fun now d e => d.hif.inService = true →
      let code := d.cntRefusal now path.val 12 1
      (code ≠ 0 → e.rd CNT.LAST_ERR = code ∧ e.rd CNT.LAST_ERR_IDX = 12 ∧ e.rd CNT.REFUSED_CNT = counted d CNT.REFUSED_CNT ∧
        e.mram.log = d.mram.log ∧ e.cntAct = d.cntAct) ∧
      (code = 0 → e.mram.log = [] ∧ e.mram.logGen = (d.mram.logGen + 1) % 256 ∧
        e.cntAct = some { idx := 12, old := d.cntVal 12, new := 1, path := path.val, start := now })) := by
  refine answers_of_forall (f := fun now d => if d.hif.inService then (d.cntWrite now path.val 12 1).2 else d) rfl (fun now d hsvc => ?_)
  rw [if_pos hsvc]
  extract_lets code
  have hcode : d.cntRefusal now path.val 12 1 = code := rfl
  have hnarrow : cntNarrow 12 1 = 1 := rfl
  refine ⟨fun h => ?_, fun h => ?_⟩
  · have hstep : (d.cntWrite now path.val 12 1).2 = d.cntRefuse now 12 1 code := by simp [Dev.cntWrite, hnarrow, hcode, h]
    rw [hstep]
    obtain ⟨herr, hidx, hcnt, hmram, hact⟩ := d.cntRefuse_spec now 1 (i := 12) (by decide) (d.cntRefusal_lt now path.val 12 1)
    exact ⟨herr, hidx, hcnt, congrArg Mram.log hmram, hact⟩
  · have hstep : (d.cntWrite now path.val 12 1).2 = { d.logClear now path.val with
        cntAct := some { idx := 12, old := d.cntVal 12, new := 1, path := path.val, start := now } } := by
      simp [Dev.cntWrite, hnarrow, hcode, h]
    rw [hstep]
    exact ⟨(d.mram_logClear now path.val).1, (d.mram_logClear now path.val).2, rfl⟩

/-! ### A record by hand, and its bucket -/

theorem length_buildRecord (d : Dev) (kind code flags trig tick edata snap rl : Nat) (body : List Nat) :
    (d.buildRecord kind code flags trig tick edata snap rl body).length = 13 + body.length := by
  simp [Dev.buildRecord]
  omega

/-- The staging buffer takes a record where there is room. -/
theorem Dev.stagePut_of_room {d : Dev} {mk : Dev → List Nat} (hfull : d.on REC.REC_FULL = false)
    (hroom : d.stageBytes + 4 * (mk d).length ≤ 65536) :
    (d.stagePut mk).rec_ = { d.rec_ with staging := d.rec_.staging ++ [mk d] } ∧ (d.stagePut mk).on REC.REC_FULL = false := by
  rw [Dev.stagePut, if_neg (ne_true_of_eq_false hfull), if_neg (by omega)]
  refine ⟨rfl, ?_⟩
  rw [Dev.on, Dev.rd_wr_ne _ _ (by decide)]
  exact hfull

theorem Dev.length_snapList (d : Dev) (k : Nat) : (d.snapList k).length ≤ 64 := by
  simp only [Dev.snapList, List.length_map, List.length_range, Dev.snapN]
  omega

/-- A set's definition is staged where it is due and there is room. -/
theorem Dev.stageDef_of_room {d : Dev} (now k : Nat) (hfull : d.on REC.REC_FULL = false) (hroom : d.stageBytes + 312 ≤ 65536) :
    (d.stageDef now k).on REC.REC_FULL = false ∧ (d.stageDef now k).rec_.buckets = d.rec_.buckets ∧
      d.rec_.staging.length ≤ (d.stageDef now k).rec_.staging.length ∧ (d.stageDef now k).stageBytes ≤ d.stageBytes + 312 := by
  unfold Dev.stageDef
  split
  · generalize hx : ({ d with rec_ := { d.rec_ with defDue := d.rec_.defDue.filter (· != k) } } : Dev) = x
    generalize hmk : (fun (d : Dev) => d.buildRecord 0x06 0 0 (nsOf now) (d.tickCnt now) 0 0 0
        ((k + 2 ^ 8 * d.snapN k + 2 ^ 16 * d.rd (REC.TS_GEN k)) :: d.snapList k)) = mk
    have hlen : (mk x).length ≤ 78 := by
      rw [← hmk]
      have := x.length_snapList k
      simp only [length_buildRecord, List.length_cons]
      omega
    have hbytes : x.stageBytes = d.stageBytes := by rw [← hx]; rfl
    have hfullx : x.on REC.REC_FULL = false := by rw [← hx]; exact hfull
    obtain ⟨hrec, hfull'⟩ := Dev.stagePut_of_room (mk := mk) hfullx (by omega)
    have hstage : x.rec_.staging = d.rec_.staging ∧ x.rec_.buckets = d.rec_.buckets := by rw [← hx]; exact ⟨rfl, rfl⟩
    rw [Dev.stageBytes, hrec]
    refine ⟨hfull', hstage.2, by simp [hstage.1], ?_⟩
    simp only [List.map_append, List.sum_append, List.map_cons, List.map_nil, List.sum_cons, List.sum_nil]
    have : (x.rec_.staging.map (fun r => 4 * r.length)).sum = d.stageBytes := hbytes
    omega
  · exact ⟨hfull, rfl, le_rfl, by omega⟩

theorem Dev.stageSnap_of_room {d : Dev} (now kind code trig tick edata rl k : Nat) (hfull : d.on REC.REC_FULL = false)
    (hroom : d.stageBytes ≤ 64000) :
    d.rec_.staging.length < (d.stageSnap now kind code trig tick edata rl (some k)).rec_.staging.length ∧
      (d.stageSnap now kind code trig tick edata rl (some k)).rec_.buckets = d.rec_.buckets := by
  obtain ⟨hfull', hbuck, hlen, hbytes⟩ := Dev.stageDef_of_room (d := d) now k hfull (by omega)
  unfold Dev.stageSnap
  dsimp only
  generalize d.stageDef now k = x at hfull' hbuck hlen hbytes ⊢
  obtain ⟨hrec, -⟩ := Dev.stagePut_of_room (d := x) (mk := fun d => d.buildRecord kind code 0 trig tick edata
        ((if d.snapN k = 0 then 0 else k) + 2 ^ 8 * d.snapN k + 2 ^ 16 * d.rd (REC.TS_GEN k)) rl
        ((d.snapList k).map (fun a => d.liveWord now (a / 4 * 4)))) hfull' (by
      have := x.length_snapList k
      rw [length_buildRecord, List.length_map]
      omega)
  rw [hrec]
  refine ⟨?_, hbuck⟩
  rw [List.length_append, List.length_singleton]
  omega

theorem Dev.recTrig_quiet {d : Dev} (now : Nat) (h : d.on REC.REC_EN = true) : Quiet d (d.recTrig now) := by
  rw [Dev.recTrig, if_pos h]
  dsimp only
  split
  · exact (drawToken_quiet d now 513).trans (stageSnap_quiet _ _ _ _ _ _ _ _ _)
  · exact (drawToken_quiet d now 513).trans ((fireN_quiet_all 8).2.2.2 _ _)

theorem recTrig_effect (s : State) (el : Nat) :
    Answers (.recTrig el) s (fun now d e => d.hif.inService = true →
      (d.on REC.REC_EN = false → e.rd REC.LOST_CNT = counted d REC.LOST_CNT ∧ OnlyRegs [REC.LOST_CNT] d e) ∧
      (d.on REC.REC_EN = true → OnlyRegsAndEvents [] d e ∧
        (d.on REC.REC_FULL = false → (d.bucketNow now 513).used < max 1 (d.rd REC.TB_BURST) → d.stageBytes ≤ 64000 →
          d.rec_.staging.length < e.rec_.staging.length ∧ (tget e.rec_.buckets 513).used = (d.bucketNow now 513).used + 1))) := by
  refine answers_of_forall (f := fun now d => if d.hif.inService then d.recTrig now else d) rfl (fun now d hsvc => ?_)
  rw [if_pos hsvc]
  refine ⟨fun h => ?_, fun h => ⟨OnlyRegs.andQuiet (OnlyRegs.refl (fs := []) d) (Dev.recTrig_quiet now h), fun hfull htok hroom => ?_⟩⟩
  · rw [Dev.recTrig, if_neg (ne_true_of_eq_false h)]
    exact Dev.bump_shows d REC.LOST_CNT
  · have hdraw : d.drawToken now 513 = (true, (d.bucketNow now 513).heldBack, { d with
        rec_ := { d.rec_ with
          buckets := tset d.rec_.buckets 513 { d.bucketNow now 513 with used := (d.bucketNow now 513).used + 1, heldBack := 0 } } }) :=
      if_pos htok
    rw [Dev.recTrig, if_pos h, hdraw]
    dsimp only
    rw [if_pos rfl]
    obtain ⟨hlen, hbuck⟩ := Dev.stageSnap_of_room (d := { d with
      rec_ := { d.rec_ with
        buckets := tset d.rec_.buckets 513 { d.bucketNow now 513 with used := (d.bucketNow now 513).used + 1, heldBack := 0 } } })
      now 0x09 0 (nsOf now) (d.tickCnt now) 0 (d.bucketNow now 513).heldBack (d.rd REC.TRIG_SEL) hfull hroom
    exact ⟨hlen, by rw [hbuck]; exact congrArg Bucket.used (tget_tset_self _ _ _)⟩

theorem tokenRefill_effect (s : State) (el : Nat) (k : Fin 514) :
    Answers (.tokenRefill el k) s (fun now d e => d.alive = true →
      (tget? d.rec_.buckets k.val = none → e = d) ∧
      (tget? d.rec_.buckets k.val ≠ none → e = { d with rec_ := e.rec_ } ∧
        let per := ms (max 1 (d.rd REC.TB_PERIOD))
        (tget e.rec_.buckets k.val).used = (tget d.rec_.buckets k.val).used - (now - (tget d.rec_.buckets k.val).last) / per)) := by
  refine answers_of_forall (f := fun now d => if d.alive then d.tokenRefill now k.val else d) rfl (fun now d hal => ?_)
  rw [if_pos hal]
  refine ⟨fun h => by rw [Dev.tokenRefill, h], fun h => ?_⟩
  obtain ⟨b, hb⟩ := Option.ne_none_iff_exists'.mp h
  rw [Dev.tokenRefill, hb]
  exact ⟨rfl, congrArg Bucket.used (tget_tset_self _ _ _)⟩

/-- Settles O56, command by command. -/
theorem logReadingAndClearing : Obligations.LogReadingAndClearing := by
  unfold Obligations.LogReadingAndClearing
  exact ⟨fun d now => ⟨Dev.recFlush_of_idle, Dev.recFlush_of_room⟩, fun s el => ⟨fun set v => ⟨fun i => triggerSetEntry_effect s el set v i,
    triggerSetCount_effect s el set v⟩, fun o => rdOfs_effect s el o, rdStream_effect s el, streamEnd_effect s el,
    fun path => logClr_effect s el path, recTrig_effect s el, fun k => tokenRefill_effect s el k⟩⟩

end Sys2Proof.Machine
end

section
/-! PROOFS. The self-test scheduler. -/
namespace Sys2Proof.Machine

/-! ### Cut tests wait again -/

/-- A test that was cut waits again. -/
def Dev.tstWaitAgain (d : Dev) (now q : Nat) : Dev :=
  let d := (d.setTslot q { d.tslot q with endAt := none, cut := none }).wr (TST.STATUS q) 1
  if d.rd (TST.S_ID q) = 18 then d else d.modIdc (d.rd (TST.S_TARGET q)) (fun x => { x with offFrom := now })

theorem Dev.rd_tstWaitAgain (d : Dev) (now q : Nat) (f : Field) : (d.tstWaitAgain now q).rd f = (d.wr (TST.STATUS q) 1).rd f := by
  unfold Dev.tstWaitAgain
  dsimp only
  split <;> rfl

/-- The slots of a list that wait again have STATUS 1; every other slot's status stands. -/
theorem Dev.status_waitAgain (d : Dev) (now : Nat) (l : List Nat) (hl : ∀ q ∈ l, q < 16) {q : Nat} (hq : q < 16) :
    (d.each l (fun d q => d.tstWaitAgain now q)).rd (TST.STATUS q) = if q ∈ l then 1 else d.rd (TST.STATUS q) := by
  unfold Dev.each
  induction l generalizing d with
  | nil => rfl
  | cons p l ih =>
    rw [List.foldl_cons, ih _ (fun x hx => hl x (by simp [hx])), Dev.rd_tstWaitAgain]
    have hp := hl p (by simp)
    by_cases hpq : p = q
    · subst hpq
      simp [Dev.rd_wr_self, TST.STATUS]
    · rw [Dev.rd_wr_ne _ _ (by clear * - hp hq hpq; decide +revert)]
      simp [Ne.symm hpq]

theorem Dev.tstTurn_of_current {d : Dev} {now : Nat} (h : ∀ q, q < 16 → d.tstStatus now q = d.rd (TST.STATUS q)) : d.tstTurn now = d := by
  have hnil : (List.range 16).filter (fun q => d.rd (TST.STATUS q) != d.tstStatus now q) = [] :=
    List.filter_eq_nil_iff.mpr fun q hq => by simp [h q (List.mem_range.mp hq)]
  rw [Dev.tstTurn, hnil]
  rfl

theorem Dev.rd_status_tstTurn (d : Dev) (now : Nat) {q : Nat} (hq : q < 16) : (d.tstTurn now).rd (TST.STATUS q) = d.tstStatus now q := by
  have h := d.status_waitAgain now ((List.range 16).filter (fun q => d.rd (TST.STATUS q) != d.tstStatus now q))
    (fun p hp => List.mem_range.mp (List.mem_filter.mp hp).1) hq
  refine h.trans ?_
  have hcut : d.tstStatus now q = d.rd (TST.STATUS q) ∨ d.tstStatus now q = 1 := by
    unfold Dev.tstStatus
    split
    · split
      · exact .inr rfl
      · exact .inl rfl
    · exact .inl rfl
  by_cases hst : d.tstStatus now q = d.rd (TST.STATUS q)
  · simp [hst]
  · rw [if_pos (List.mem_filter.mpr ⟨List.mem_range.mpr hq, by simpa using Ne.symm hst⟩)]
    exact (hcut.resolve_left hst).symm

/-! ### A test ends or is refused -/

/-- Slot `q` shows that its test was refused with `result`. -/
def TestRefused (e : Dev) (q result : Nat) : Prop :=
  e.rd (TST.STATUS q) = 5 ∧ e.rd (TST.RESULT q) = result ∧ bitOf (e.rd TST.FINISHED) q = true ∧ e.raised EVT.TST_REFUSED q = true

theorem bitOf_setBitOf_mod (v : Nat) {q : Nat} (hq : q < 16) : bitOf (setBitOf v q true % 2 ^ 16) q = true := by
  have hset : bitOf (setBitOf v q true) q = true := bitOf_setBitOf_self v q
  rw [bitOf_eq_testBit] at hset ⊢
  rw [Nat.testBit_mod_two_pow, hset, decide_eq_true hq, Bool.true_and]

/-- What a finished test shows, whatever events follow. -/
theorem Dev.tstFinish_spec (d : Dev) {q : Nat} (hq : q < 16) (status result detail : Nat) :
    (d.tstFinish q status result detail).rd (TST.STATUS q) = status % 2 ^ 3 ∧
      (d.tstFinish q status result detail).rd (TST.RESULT q) = result % 2 ^ 3 ∧
      (d.tstFinish q status result detail).rd (TST.DETAIL q) = detail % 2 ^ 32 ∧
      bitOf ((d.tstFinish q status result detail).rd TST.FINISHED) q = true := by
  unfold Dev.tstFinish
  extract_lets x
  refine ⟨?_, ?_, ?_, ?_⟩
  · rw [Dev.rd_wr_ne _ _ (by clear * - hq; decide +revert), Dev.rd_wr_ne _ _ (by clear * - hq; decide +revert),
      Dev.rd_wr_ne _ _ (by clear * - hq; decide +revert), Dev.rd_wr_self]
    rfl
  · rw [Dev.rd_wr_ne _ _ (by clear * - hq; decide +revert), Dev.rd_wr_ne _ _ (by clear * - hq; decide +revert), Dev.rd_wr_self]
    rfl
  · rw [Dev.rd_wr_ne _ _ (by clear * - hq; decide +revert), Dev.rd_wr_self]
    rfl
  · rw [Dev.rd_wr_self]
    exact bitOf_setBitOf_mod _ hq

theorem Dev.tstRefuse_refused (d : Dev) (now : Nat) {q : Nat} (hq : q < 16) {result : Nat} (hr : result < 8) :
    TestRefused (d.tstRefuse now q result) q result := by
  obtain ⟨hst, hres, -, hfin⟩ := d.tstFinish_spec hq 5 result 0
  unfold Dev.tstRefuse
  refine ⟨?_, ?_, ?_, Dev.raised_fire _ _ _ _ _ (by omega) (by clear * - hq; decide +revert)⟩
  · exact (Dev.rd_fire_of _ _ _ _ _ (by simp [TST.STATUS]) (by clear * - hq; decide +revert)).trans hst
  · exact (Dev.rd_fire_of _ _ _ _ _ (by simp [TST.RESULT]) (by clear * - hq; decide +revert)).trans (hres.trans (Nat.mod_eq_of_lt hr))
  · rw [Dev.rd_fire_of _ _ _ _ _ (by decide) (by decide), hfin]

/-! ### System tests -/

theorem Dev.tstRun_spec (d : Dev) (q t : Nat) :
    (d.tstRun q t).rd (TST.STATUS q) = 2 ∧ (d.tstRun q t).tslot q = { d.tslot q with endAt := some t } ∧
      OnlyRegs [TST.STATUS q] { d with tst := (d.tstRun q t).tst } (d.tstRun q t) := by
  refine ⟨(Dev.rd_wr_self _ _ _).trans rfl, tget_tset_self _ _ _, ?_⟩
  exact OnlyRegs.wr ({ d with tst := (d.tstRun q t).tst }) (TST.STATUS q) 2 (by simp)

/-- A system test that starts in slot `q` of the block `t` shows in `e`: it runs for its time, its valve pulses are commanded, or the
outputs take their snuff states. -/
def SystemTestRuns (now : Nat) (t e : Dev) (q : Nat) : Prop :=
  let n := max 1 (min 64 (e.tslot q).param)
  let c := e.rd (TST.S_TARGET q)
  e.rd (TST.STATUS q) = 2 ∧ (e.tslot q).endAt = some (now + if e.rd (TST.S_ID q) = 32 then ms (200 * n) else ms 1) ∧
    (e.rd (TST.S_ID q) = 32 → (e.idcCh c).grid = none ∧ (e.idcCh c).cmds = (t.idcCh c).cmds ++
      (List.range n).map (fun k => { dt := now + ms (200 * k), on := true, endAt := some (now + ms (200 * k + 100)) })) ∧
    (e.rd (TST.S_ID q) = 33 → t.pwr.outHold ≠ .off → e.pwm.snuff = true ∧
      ∀ k, k < 32 → (e.idcCh k).snuff = some (t.rd (WDG.SNUFF_STATE k)))

/-- What a system test's turn gives in the block `t`: a refusal, or, where nothing runs and no slot before it waits, its start. -/
def SystemTestTurn (now : Nat) (t e : Dev) (q : Nat) : Prop :=
  (t.pwr.mode ≠ .host ∨ t.pwr.st ≠ .lit → TestRefused e q 4) ∧
    (t.pwr.mode = .host → t.pwr.st = .lit → t.on DEC.MASTER_ACT = true ∨ t.standstill = false → TestRefused e q 2) ∧
    (t.pwr.mode = .host → t.pwr.st = .lit → t.on DEC.MASTER_ACT = false → t.standstill = true → t.intrusiveRuns = false →
      (∀ p, p < q → t.rd (TST.STATUS p) = 1 → t.slotClass p ≠ some 2) → SystemTestRuns now t e q)

/-- The test of slot `q` starts now: valve pulses, the snuff states, or nothing but its time. -/
def Dev.tstSystemRun (d : Dev) (now q : Nat) : Dev :=
  let n := max 1 (min 64 (d.tslot q).param)
  let d := d.tstRun q (now + ms 1)
  if d.rd (TST.S_ID q) = 32 then (d.setTslot q { d.tslot q with endAt := some (now + ms (200 * n)) }).valvePulses (d.rd (TST.S_TARGET q)) now n
  else if d.rd (TST.S_ID q) = 33 then d.outputsSnuff now
  else d

theorem Dev.tstSystem_eq (d : Dev) (now q : Nat) :
    d.tstSystem now q = if d.tstSystemRefusal ≠ 0 then d.tstRefuse now q d.tstSystemRefusal
      else if d.intrusiveRuns || d.tstBehind q then d.wr (TST.STATUS q) 1 else d.tstSystemRun now q := by
  unfold Dev.tstSystem
  simp only [bne_iff_ne]
  rfl

theorem systemTestRuns_tstSystemRun (d : Dev) (now : Nat) {q : Nat} (hq : q < 16) (hlit : d.pwr.st = .lit) :
    SystemTestRuns now d (d.tstSystemRun now q) q := by
  obtain ⟨hst, hslot, hregs⟩ := d.tstRun_spec q (now + ms 1)
  have hpwr : (d.tstRun q (now + ms 1)).pwr = d.pwr := rfl
  have hidc : (d.tstRun q (now + ms 1)).idc = d.idc := rfl
  have hsnuff : ∀ k, k < 32 → (d.tstRun q (now + ms 1)).rd (WDG.SNUFF_STATE k) = d.rd (WDG.SNUFF_STATE k) := fun k hk =>
    hregs.2 _ (by simp only [List.mem_singleton, forall_eq]; clear * - hq hk; decide +revert)
  unfold Dev.tstSystemRun
  extract_lets n y
  have hn : n = max 1 (min 64 (d.tslot q).param) := rfl
  change y.rd _ = _ at hst
  change y.tslot q = _ at hslot
  change y.pwr = _ at hpwr
  change y.idc = _ at hidc
  change ∀ k, k < 32 → y.rd _ = _ at hsnuff
  clear_value n y
  by_cases hid : y.rd (TST.S_ID q) = 32
  · rw [if_pos hid]
    generalize hx : y.setTslot q { y.tslot q with endAt := some (now + ms (200 * n)) } = x
    have hxregs : x.regs = y.regs := by rw [← hx]; rfl
    have hxslot : x.tslot q = { d.tslot q with endAt := some (now + ms (200 * n)) } := by
      rw [← hx]
      exact (tget_tset_self _ _ _).trans (by rw [hslot])
    have hxidc : x.idc = d.idc := by rw [← hx]; exact hidc
    generalize he : x.valvePulses (y.rd (TST.S_TARGET q)) now n = e
    have hrd : ∀ f, e.rd f = y.rd f := fun f => by rw [← he]; exact congrArg (fun r => (tget? r f.key).getD f.reset) hxregs
    have hslote : e.tslot q = x.tslot q := by rw [← he]; rfl
    have hch : e.idcCh (y.rd (TST.S_TARGET q)) = { d.idcCh (y.rd (TST.S_TARGET q)) with
        grid := none
        cmds := (d.idcCh (y.rd (TST.S_TARGET q))).cmds ++ (List.range n).map (fun k =>
          ({ dt := now + ms (200 * k), on := true, endAt := some (now + ms (200 * k + 100)) } : DrvCmd)) } := by
      rw [← he]
      refine (x.idcCh_modIdc_self _ _).trans ?_
      rw [show x.idcCh (y.rd (TST.S_TARGET q)) = d.idcCh (y.rd (TST.S_TARGET q)) from congrArg (fun m => tget m _) hxidc]
    simp only [SystemTestRuns, hrd, hslote, hxslot, hid, ← hn, hch, if_true]
    exact ⟨hst, trivial, fun _ => ⟨trivial, trivial⟩, fun h => absurd h (by decide)⟩
  · rw [if_neg hid]
    by_cases hid' : y.rd (TST.S_ID q) = 33
    · rw [if_pos hid']
      have hdrv := outputsSnuff_driven y now
      have hspec := outputsSnuff_spec y now
      generalize y.outputsSnuff now = e at hdrv hspec
      have hrd : ∀ f : Field, f ∈ [TST.STATUS q, TST.S_ID q] → e.rd f = y.rd f := fun f hf => by
        simp only [List.mem_cons, List.not_mem_nil, or_false] at hf
        rcases hf with rfl | rfl
        · exact hdrv.rd _ (by clear * - hq; decide +revert) (by clear * - hq; decide +revert) (by clear * - hq; decide +revert)
        · exact hdrv.rd _ (by clear * - hq; decide +revert) (by clear * - hq; decide +revert) (by clear * - hq; decide +revert)
      have htimes : (e.tslot q).endAt = some (now + ms 1) := (congrArg TstSlot.endAt (hdrv.testTimes q)).trans (congrArg TstSlot.endAt hslot :)
      simp only [SystemTestRuns, hrd (TST.STATUS q) (by simp), hrd (TST.S_ID q) (by simp), hid', htimes]
      refine ⟨hst, by simp, fun h => absurd h (by decide), fun _ hout => ?_⟩
      have hdriving : y.driving = true := by simp [Dev.driving, hpwr, hlit, hout]
      obtain ⟨-, hpwm, hmode, -⟩ := hspec hdriving
      exact ⟨hpwm, fun k hk => (congrArg Prod.fst (hmode k hk)).trans (congrArg some (hsnuff k hk))⟩
    · rw [if_neg hid']
      simp only [SystemTestRuns, hst, hslot, if_neg hid]
      exact ⟨trivial, trivial, fun h => absurd h hid, fun h => absurd h hid'⟩

theorem systemTestTurn_tstSystem (d : Dev) (now : Nat) {q : Nat} (hq : q < 16) (hclass : d.slotClass q = some 2) :
    SystemTestTurn now d (d.tstSystem now q) q := by
  rw [Dev.tstSystem_eq]
  refine ⟨fun h => ?_, fun hmode hst h => ?_, fun hmode hst hmaster hstand hfree hfirst => ?_⟩
  · have hr : d.tstSystemRefusal = 4 := if_pos (by simpa using h)
    rw [hr, if_pos (by decide)]
    exact d.tstRefuse_refused now hq (by decide)
  · have hr : d.tstSystemRefusal = 2 := by rcases h with h | h <;> simp [Dev.tstSystemRefusal, hmode, hst, h]
    rw [hr, if_pos (by decide)]
    exact d.tstRefuse_refused now hq (by decide)
  · have hr : d.tstSystemRefusal = 0 := by simp [Dev.tstSystemRefusal, hmode, hst, hmaster, hstand]
    have hbehind : d.tstBehind q = false := by
      refine List.any_eq_false.mpr fun p hp => ?_
      have hp := List.mem_range.mp hp
      have hruns := List.any_eq_false.mp hfree p (List.mem_range.mpr (by omega))
      intro hwait
      simp only [Bool.and_eq_true, Bool.or_eq_true, beq_iff_eq, hclass] at hwait
      obtain ⟨hst1 | hst2, hcl⟩ := hwait
      · exact hfirst p hp hst1 hcl
      · simp [hst2, hcl] at hruns
    rw [hr, hfree, hbehind, if_neg (by decide), if_neg (by decide)]
    exact systemTestRuns_tstSystemRun d now hq hst

/-- `t` and `x` agree on what a system test of slot `q` asks for. -/
structure AgreeForTest (t x : Dev) (q : Nat) : Prop where
  pwr : x.pwr = t.pwr
  idc : x.idc = t.idc
  master : x.on DEC.MASTER_ACT = t.on DEC.MASTER_ACT
  standstill : x.standstill = t.standstill
  intrusive : x.intrusiveRuns = t.intrusiveRuns
  before : ∀ p, p < q → x.rd (TST.STATUS p) = t.rd (TST.STATUS p) ∧ x.slotClass p = t.slotClass p
  snuff : ∀ k, k < 32 → x.rd (WDG.SNUFF_STATE k) = t.rd (WDG.SNUFF_STATE k)

theorem SystemTestTurn.of_agree {now : Nat} {t x e : Dev} {q : Nat} (ha : AgreeForTest t x q) (h : SystemTestTurn now x e q) :
    SystemTestTurn now t e q := by
  obtain ⟨hpwr, hidc, hmaster, hstand, hintr, hbefore, hsnuff⟩ := ha
  obtain ⟨h4, h2, hrun⟩ := h
  rw [hpwr] at h4 h2 hrun
  rw [hmaster, hstand] at h2 hrun
  rw [hintr] at hrun
  refine ⟨h4, h2, fun hmode hst hm hs hi hfirst => ?_⟩
  obtain ⟨hst2, hend, hvalve, hout⟩ := hrun hmode hst hm hs hi (fun p hp h1 => (hbefore p hp).2 ▸ hfirst p hp ((hbefore p hp).1 ▸ h1))
  refine ⟨hst2, hend, fun hid => ?_, fun hid ho => ?_⟩
  · have hch : ∀ c, x.idcCh c = t.idcCh c := fun c => congrArg (fun m => tget m c) hidc
    rw [← hch]
    exact hvalve hid
  · obtain ⟨hpwm, hall⟩ := hout hid (hpwr ▸ ho)
    exact ⟨hpwm, fun k hk => (hall k hk).trans (congrArg some (hsnuff k hk))⟩

/-! ### A test is asked for -/

/-- The request in slot `q`, as T_GO takes it. -/
def Dev.tstTake (t : Dev) (now q : Nat) : Dev :=
  let d := (((t.wr TST.Q_FULL 0).wr TST.T_SLOT q).wr (TST.S_ID q) (t.rd TST.T_ID)).wr (TST.S_TARGET q) (t.rd TST.T_TARGET)
  d.setTslot q { since := now, param := d.rd TST.T_PARAM }

theorem Dev.onlyRegs_tstTake (t : Dev) (now q : Nat) :
    OnlyRegs [TST.Q_FULL, TST.T_SLOT, TST.S_ID q, TST.S_TARGET q] { t with tst := (t.tstTake now q).tst } (t.tstTake now q) :=
  (((OnlyRegs.wr (fs := [TST.Q_FULL, TST.T_SLOT, TST.S_ID q, TST.S_TARGET q]) { t with tst := (t.tstTake now q).tst } TST.Q_FULL 0
    (by simp)).thenWr (f := TST.T_SLOT) (by simp) q).thenWr (f := TST.S_ID q) (by simp) (t.rd TST.T_ID)).thenWr (f := TST.S_TARGET q) (by simp)
      (t.rd TST.T_TARGET)

theorem Dev.tstTake_spec (t : Dev) (now : Nat) {q : Nat} (hq : q < 16) :
    (t.tstTake now q).rd TST.Q_FULL = 0 ∧ (t.tstTake now q).rd TST.T_SLOT = q ∧ (t.tstTake now q).rd (TST.S_ID q) = t.rd TST.T_ID % 2 ^ 6 ∧
      (t.tstTake now q).rd (TST.S_TARGET q) = t.rd TST.T_TARGET % 2 ^ 5 ∧
      (t.tstTake now q).tslot q = { since := now, param := t.rd TST.T_PARAM } := by
  unfold Dev.tstTake
  extract_lets d
  have hparam : d.rd TST.T_PARAM = t.rd TST.T_PARAM := by
    subst d
    rw [Dev.rd_wr_ne _ _ (by clear * - hq; decide +revert), Dev.rd_wr_ne _ _ (by clear * - hq; decide +revert),
      Dev.rd_wr_ne _ _ (by decide), Dev.rd_wr_ne _ _ (by decide)]
  refine ⟨?_, ?_, ?_, Dev.rd_wr_self _ _ _, (tget_tset_self _ _ _).trans (by rw [hparam])⟩
  · show d.rd TST.Q_FULL = 0
    subst d
    rw [Dev.rd_wr_ne _ _ (by clear * - hq; decide +revert), Dev.rd_wr_ne _ _ (by clear * - hq; decide +revert),
      Dev.rd_wr_ne _ _ (by decide), Dev.rd_wr_self]
    rfl
  · show d.rd TST.T_SLOT = q
    subst d
    rw [Dev.rd_wr_ne _ _ (by clear * - hq; decide +revert), Dev.rd_wr_ne _ _ (by clear * - hq; decide +revert), Dev.rd_wr_self]
    exact Nat.mod_eq_of_lt hq
  · exact (Dev.rd_wr_ne _ _ (by clear * - hq; decide +revert)).trans (Dev.rd_wr_self _ _ _)

theorem tstClass_mod_of_system {id tg : Nat} (h : tstClass id tg = some 2) : tstClass (id % 2 ^ 6) (tg % 2 ^ 5) = some 2 := by
  have hid : id = 32 ∨ id = 33 ∨ (id = 34 ∧ tg < 4) := by
    unfold tstClass at h
    grind
  rcases hid with rfl | rfl | ⟨rfl, htg⟩
  · rfl
  · rfl
  · rw [Nat.mod_eq_of_lt (by omega : tg < 2 ^ 5)]
    simp [tstClass, htg]

theorem OnlyRegs.agreeForTest {t x : Dev} {q : Nat} (hq : q < 16) (hst : t.rd (TST.STATUS q) = 0)
    (h : OnlyRegs [TST.Q_FULL, TST.T_SLOT, TST.S_ID q, TST.S_TARGET q] { t with tst := x.tst } x) : AgreeForTest t x q := by
  obtain ⟨hx, hrd⟩ := h
  simp only [List.mem_cons, List.not_mem_nil, or_false, forall_eq_or_imp, forall_eq] at hrd
  have hrd : ∀ g : Field, TST.Q_FULL.key ≠ g.key ∧ TST.T_SLOT.key ≠ g.key ∧ (TST.S_ID q).key ≠ g.key ∧ (TST.S_TARGET q).key ≠ g.key →
      x.rd g = t.rd g := hrd
  have hpwr : x.pwr = t.pwr := (congrArg Dev.pwr hx :)
  have hmaster : x.rd DEC.MASTER_ACT = t.rd DEC.MASTER_ACT := hrd _ (by clear * - hq; decide +revert)
  have hen : x.poseEn = t.poseEn := by
    simp only [Dev.poseEn, Dev.pgEn, Dev.on, hpwr, hrd POSE.POSE_EN (by clear * - hq; decide +revert),
      hrd (HDR.PG_EN 0x034000) (by clear * - hq; decide +revert)]
  have hfreq : ∀ n, n < 8 → x.rd (FBK.FREQ n) = t.rd (FBK.FREQ n) := fun n hn => hrd _ (by clear * - hq hn; decide +revert)
  have hstat : ∀ p, p < 16 → x.rd (TST.STATUS p) = t.rd (TST.STATUS p) := fun p hp => hrd _ (by clear * - hq hp; decide +revert)
  have hclass : ∀ p, p < 16 → p ≠ q → x.slotClass p = t.slotClass p := fun p hp hpq => by
    rw [Dev.slotClass, Dev.slotClass, hrd (TST.S_ID p) (by simp only [Field.key, TST.Q_FULL, TST.T_SLOT, TST.S_ID, TST.S_TARGET]; omega),
      hrd (TST.S_TARGET p) (by simp only [Field.key, TST.Q_FULL, TST.T_SLOT, TST.S_ID, TST.S_TARGET]; omega)]
  refine ⟨hpwr, (congrArg Dev.idc hx :), by rw [Dev.on, Dev.on, hmaster], ?_, ?_, fun p hp => ⟨hstat p (by omega), hclass p (by omega) (by omega)⟩,
    fun k hk => hrd _ (by clear * - hq hk; decide +revert)⟩
  · rw [Dev.standstill, Dev.standstill, hen, Dev.on, Dev.on, hrd POSE.ZUPT_ACT (by clear * - hq; decide +revert)]
    congr 1
    refine Bool.eq_iff_iff.mpr ?_
    simp only [List.all_eq_true, List.mem_range, Dev.rdS]
    exact forall₂_congr fun n hn => by rw [hfreq n hn]
  · refine Bool.eq_iff_iff.mpr ?_
    simp only [Dev.intrusiveRuns, List.any_eq_true, List.mem_range]
    refine exists_congr fun p => and_congr_right fun hp => ?_
    by_cases hpq : p = q
    · rw [hpq, hstat q hq, hst]
      simp
    · rw [hstat p hp, hclass p hp hpq]

theorem AgreeForTest.refusal {t x : Dev} {q : Nat} (h : AgreeForTest t x q) : x.tstSystemRefusal = t.tstSystemRefusal := by
  simp only [Dev.tstSystemRefusal, h.pwr, h.master, h.standstill]

/-- What the turn of a system test leaves of its request. -/
theorem Dev.tstSystem_keeps (d : Dev) (now : Nat) {q : Nat} (hq : q < 16) :
    (∀ f ∈ [TST.Q_FULL, TST.T_SLOT, TST.S_ID q, TST.S_TARGET q], (d.tstSystem now q).rd f = d.rd f) ∧
      ((d.tstSystem now q).tslot q).since = (d.tslot q).since ∧ ((d.tstSystem now q).tslot q).param = (d.tslot q).param := by
  have hne : ∀ f ∈ [TST.Q_FULL, TST.T_SLOT, TST.S_ID q, TST.S_TARGET q], f.lo < 32 ∧ f.ofEvents = false ∧
      (TST.STATUS q).key ≠ f.key ∧ (TST.RESULT q).key ≠ f.key ∧ (TST.DETAIL q).key ≠ f.key ∧ TST.FINISHED.key ≠ f.key ∧
      ∀ p ∈ drivePages, f.addr < p.1 ∨ p.2 ≤ f.addr := by
    clear * - hq
    decide +revert
  rw [Dev.tstSystem_eq]
  split
  · refine ⟨fun f hf => ?_, ?_⟩
    · obtain ⟨hlo, hev, h1, h2, h3, h4, -⟩ := hne f hf
      rw [Dev.tstRefuse, Dev.rd_fire_of _ _ _ _ _ hlo hev, Dev.tstFinish, Dev.rd_wr_ne _ _ h4, Dev.rd_wr_ne _ _ h3, Dev.rd_wr_ne _ _ h2,
        Dev.rd_wr_ne _ _ h1]
    · have htst : (d.tstRefuse now q d.tstSystemRefusal).tst = d.tst := (congrArg Dev.tst (fire_quiet _ _ _ _ _).1 :)
      rw [Dev.tslot, Dev.tslot, htst]
      exact ⟨rfl, rfl⟩
  split
  · exact ⟨fun f hf => Dev.rd_wr_ne _ _ (hne f hf).2.2.1, rfl, rfl⟩
  · obtain ⟨-, hslot, -, hregs⟩ := d.tstRun_spec q (now + ms 1)
    have hrd : ∀ f ∈ [TST.Q_FULL, TST.T_SLOT, TST.S_ID q, TST.S_TARGET q], (d.tstRun q (now + ms 1)).rd f = d.rd f := fun f hf =>
      hregs f (by simpa using (hne f hf).2.2.1)
    unfold Dev.tstSystemRun
    extract_lets n y
    change y.tslot q = _ at hslot
    change ∀ f ∈ _, y.rd f = _ at hrd
    clear_value y
    have hs : (y.tslot q).since = (d.tslot q).since ∧ (y.tslot q).param = (d.tslot q).param := by rw [hslot]; exact ⟨rfl, rfl⟩
    split
    · refine ⟨hrd, ?_⟩
      generalize hx : y.setTslot q { y.tslot q with endAt := some (now + ms (200 * n)) } = x
      have hxslot : x.tslot q = { y.tslot q with endAt := some (now + ms (200 * n)) } := by rw [← hx]; exact tget_tset_self _ _ _
      show (x.tslot q).since = _ ∧ (x.tslot q).param = _
      rw [hxslot]
      exact hs
    split
    · have hdrv := outputsSnuff_driven y now
      generalize y.outputsSnuff now = e at hdrv
      refine ⟨fun f hf => ?_, ?_⟩
      · obtain ⟨hlo, hev, -, -, -, -, hout⟩ := hne f hf
        exact (hdrv.rd f hlo hev hout).trans (hrd f hf)
      · exact ⟨(congrArg TstSlot.since (hdrv.testTimes q) :).trans hs.1, (congrArg TstSlot.param (hdrv.testTimes q) :).trans hs.2⟩
    · exact ⟨hrd, hs⟩

theorem Dev.tGo_of_full {d : Dev} {now : Nat} (h : (List.range 16).find? (fun x => (d.tstTurn now).rd (TST.STATUS x) == 0) = none) :
    d.tGo now = (d.tstTurn now).wr TST.Q_FULL 1 := by
  unfold Dev.tGo
  dsimp only
  rw [h]

/-- What a request in slot `q` starts, by the class of its test. -/
def Dev.tstAsk (x : Dev) (now q : Nat) : Option Nat → Dev
  | none => x.tstRefuse now q 3
  | some 0 => x.wr (TST.STATUS q) 2
  | some 1 => x.wr (TST.STATUS q) 1
  | _ => x.tstSystem now q

theorem Dev.tGo_of_free {d : Dev} {now q : Nat} (h : (List.range 16).find? (fun x => (d.tstTurn now).rd (TST.STATUS x) == 0) = some q) :
    d.tGo now = ((d.tstTurn now).tstTake now q).tstAsk now q (tstClass ((d.tstTurn now).rd TST.T_ID) ((d.tstTurn now).rd TST.T_TARGET)) := by
  unfold Dev.tGo
  dsimp only
  rw [h]
  rfl

theorem Dev.tstAsk_keeps (x : Dev) (now : Nat) {q : Nat} (hq : q < 16) (c : Option Nat) :
    (∀ f ∈ [TST.Q_FULL, TST.T_SLOT, TST.S_ID q, TST.S_TARGET q], (x.tstAsk now q c).rd f = x.rd f) ∧
      ((x.tstAsk now q c).tslot q).since = (x.tslot q).since ∧ ((x.tstAsk now q c).tslot q).param = (x.tslot q).param := by
  have hne : ∀ f ∈ [TST.Q_FULL, TST.T_SLOT, TST.S_ID q, TST.S_TARGET q], f.lo < 32 ∧ f.ofEvents = false ∧
      (TST.STATUS q).key ≠ f.key ∧ (TST.RESULT q).key ≠ f.key ∧ (TST.DETAIL q).key ≠ f.key ∧ TST.FINISHED.key ≠ f.key := by
    clear * - hq
    decide +revert
  unfold Dev.tstAsk
  split
  · refine ⟨fun f hf => ?_, ?_⟩
    · obtain ⟨hlo, hev, h1, h2, h3, h4⟩ := hne f hf
      rw [Dev.tstRefuse, Dev.rd_fire_of _ _ _ _ _ hlo hev, Dev.tstFinish, Dev.rd_wr_ne _ _ h4, Dev.rd_wr_ne _ _ h3, Dev.rd_wr_ne _ _ h2,
        Dev.rd_wr_ne _ _ h1]
    · have htst : (x.tstRefuse now q 3).tst = x.tst := (congrArg Dev.tst (fire_quiet _ _ _ _ _).1 :)
      rw [Dev.tslot, Dev.tslot, htst]
      exact ⟨rfl, rfl⟩
  · exact ⟨fun f hf => Dev.rd_wr_ne _ _ (hne f hf).2.2.1, rfl, rfl⟩
  · exact ⟨fun f hf => Dev.rd_wr_ne _ _ (hne f hf).2.2.1, rfl, rfl⟩
  · exact x.tstSystem_keeps now hq

theorem tGo_effect (s : State) (el : Nat) :
    Answers (.tGo el) s (fun now d e => d.hif.inService = true →
      let t := d.tstTurn now
      ((∀ q, q < 16 → t.rd (TST.STATUS q) ≠ 0) → e.rd TST.Q_FULL = 1 ∧ OnlyRegs [TST.Q_FULL] t e) ∧
      (∀ q, (List.range 16).find? (fun x => t.rd (TST.STATUS x) == 0) = some q →
        e.rd TST.Q_FULL = 0 ∧ e.rd TST.T_SLOT = q ∧ e.rd (TST.S_ID q) = t.rd TST.T_ID % 2 ^ 6 ∧ e.rd (TST.S_TARGET q) = t.rd TST.T_TARGET % 2 ^ 5 ∧
        (e.tslot q).since = now ∧ (e.tslot q).param = t.rd TST.T_PARAM ∧
        (tstClass (t.rd TST.T_ID) (t.rd TST.T_TARGET) = some 0 → e.rd (TST.STATUS q) = 2) ∧
        (tstClass (t.rd TST.T_ID) (t.rd TST.T_TARGET) = some 1 → e.rd (TST.STATUS q) = 1) ∧
        (tstClass (t.rd TST.T_ID) (t.rd TST.T_TARGET) = none → TestRefused e q 3) ∧
        (tstClass (t.rd TST.T_ID) (t.rd TST.T_TARGET) = some 2 → SystemTestTurn now t e q ∧
          (t.tstSystemRefusal = 0 → t.intrusiveRuns = true → e.rd (TST.STATUS q) = 1)))) := by
  refine answers_of_forall (f := fun now d => if d.hif.inService then d.tGo now else d) rfl (fun now d hsvc => ?_)
  rw [if_pos hsvc]
  extract_lets t
  refine ⟨fun hfull => ?_, fun q hfind => ?_⟩
  · have hnone : (List.range 16).find? (fun x => t.rd (TST.STATUS x) == 0) = none :=
      List.find?_eq_none.mpr fun q hq => by simpa using hfull q (List.mem_range.mp hq)
    rw [Dev.tGo_of_full hnone]
    exact ⟨Dev.rd_wr_self _ _ _, OnlyRegs.wr t TST.Q_FULL 1 (by simp)⟩
  · have hq : q < 16 := List.mem_range.mp (List.mem_of_find?_eq_some hfind)
    have hst0 : t.rd (TST.STATUS q) = 0 := by simpa using List.find?_some hfind
    rw [Dev.tGo_of_free hfind]
    change let e := (t.tstTake now q).tstAsk now q (tstClass (t.rd TST.T_ID) (t.rd TST.T_TARGET)); _
    intro e
    obtain ⟨hfull, hslot, hid, htg, htimes⟩ := t.tstTake_spec now hq
    have hagree := OnlyRegs.agreeForTest hq hst0 (t.onlyRegs_tstTake now q)
    obtain ⟨hkeep, hsince, hparam⟩ := (t.tstTake now q).tstAsk_keeps now hq (tstClass (t.rd TST.T_ID) (t.rd TST.T_TARGET))
    refine ⟨(hkeep _ (by simp)).trans hfull, (hkeep _ (by simp)).trans hslot, (hkeep _ (by simp)).trans hid, (hkeep _ (by simp)).trans htg,
      hsince.trans (by rw [htimes]), hparam.trans (by rw [htimes]), fun h => ?_, fun h => ?_, fun h => ?_, fun h => ?_⟩
    · rw [h]
      exact Dev.rd_wr_self _ _ _
    · rw [h]
      exact Dev.rd_wr_self _ _ _
    · rw [h]
      exact Dev.tstRefuse_refused _ now hq (by decide)
    · rw [h]
      have hclass : (t.tstTake now q).slotClass q = some 2 := by
        rw [Dev.slotClass, hid, htg]
        exact tstClass_mod_of_system h
      refine ⟨(systemTestTurn_tstSystem _ now hq hclass).of_agree hagree, fun hr hi => ?_⟩
      show ((t.tstTake now q).tstSystem now q).rd _ = 1
      rw [Dev.tstSystem_eq, hagree.refusal, hagree.intrusive, hr, hi, if_neg (by decide), Bool.true_or, if_pos rfl]
      exact Dev.rd_wr_self _ _ _

/-! ### Waiting tests -/

theorem testStart_effect (s : State) (el : Nat) (q : Fin 16) :
    Answers (.testStart el q) s (fun now d e =>
      let t := d.tstTurn now
      (t.rd (TST.STATUS q.val) ≠ 1 ∨ t.intrusiveRuns = true ∨ t.tstBehind q.val = true ∨ t.running = false → e = t) ∧
      (t.rd (TST.STATUS q.val) = 1 → t.intrusiveRuns = false → t.tstBehind q.val = false → t.running = true →
        (t.slotClass q.val = some 2 → SystemTestTurn now t e q.val) ∧
        (t.slotClass q.val = some 1 → now = t.dec.winOpen → t.tstIdle now q.val = true → t.tstOnAt q.val = none →
          e.rd (TST.STATUS q.val) = 2 ∧ (e.tslot q.val).endAt = some (now + tstLen (t.rd (TST.S_ID q.val))) ∧
          OnlyRegs [TST.STATUS q.val] { t with tst := e.tst } e) ∧
        (t.slotClass q.val = some 1 → now ≠ t.dec.winOpen ∨ t.tstIdle now q.val = false ∨ t.tstOnAt q.val ≠ none → e = t))) := by
  refine answers_of_forall (f := fun now d => d.tstStart now q.val) rfl (fun now d => ?_)
  unfold Dev.tstStart
  generalize d.tstTurn now = t
  dsimp only
  refine ⟨fun h => if_pos (by simpa [or_assoc] using h), fun hst hi hb hrun => ?_⟩
  rw [if_neg (by simp [hst, hi, hb, hrun])]
  refine ⟨fun hcl => ?_, fun hcl hnow hidle hon => ?_, fun hcl h => ?_⟩
  · rw [hcl]
    exact systemTestTurn_tstSystem t now q.isLt hcl
  · rw [hcl, if_pos (by simp [← hnow, hidle, hon])]
    obtain ⟨hst2, hslot, hregs⟩ := t.tstRun_spec q.val (now + tstLen (t.rd (TST.S_ID q.val)))
    exact ⟨hst2, congrArg TstSlot.endAt hslot, hregs⟩
  · rw [hcl]
    refine if_neg fun hall => ?_
    simp only [Bool.and_eq_true, decide_eq_true_eq, Option.isNone_iff_eq_none] at hall
    obtain ⟨⟨h1, h2⟩, h3⟩ := hall
    rcases h with h | h | h
    · exact h h1
    · simp [h] at h2
    · exact h h3

theorem testWaitMax_effect (s : State) (el : Nat) (q : Fin 16) :
    Answers (.testWaitMax el q) s (fun now d e => d.alive = true →
      let t := d.tstTurn now
      let at_ := (t.tslot q.val).since + ms (100 * max 1 (t.rd TST.TEST_WAIT_MAX))
      (t.rd (TST.STATUS q.val) ≠ 1 ∨ t.slotClass q.val ≠ some 1 ∨ now < at_ → e = t) ∧
      (t.rd (TST.STATUS q.val) = 1 → t.slotClass q.val = some 1 → at_ ≤ now →
        e.rd (TST.STATUS q.val) = 4 ∧ bitOf (e.rd TST.FINISHED) q.val = true ∧ e.raised EVT.TST_DEFERRED q.val = true)) := by
  refine answers_of_forall (f := fun now d => if d.alive then d.tstDefer now q.val else d) rfl (fun now d hal => ?_)
  rw [if_pos hal]
  unfold Dev.tstDefer
  generalize d.tstTurn now = t
  extract_lets at_
  refine ⟨fun h => if_neg ?_, fun hst hcl hle => ?_⟩
  · simp only [Bool.and_eq_true, decide_eq_true_eq, beq_iff_eq]
    rintro ⟨⟨h1, h2⟩, h3⟩
    rcases h with h | h | h
    · exact h h1
    · exact h h2
    · exact absurd h3 (Nat.not_le.mpr h)
  · rw [if_pos (by simp [hst, hcl, at_] at hle ⊢; exact hle)]
    obtain ⟨hst4, -, -, hfin⟩ := t.tstFinish_spec q.isLt 4 0 0
    refine ⟨?_, ?_, Dev.raised_fire _ _ _ _ _ (by omega) (by clear * - q; decide +revert)⟩
    · exact (Dev.rd_fire_of _ _ _ _ _ (by simp [TST.STATUS]) (by clear * - q; decide +revert)).trans hst4
    · rw [Dev.rd_fire_of _ _ _ _ _ (by decide) (by decide), hfin]

/-! ### A test is done -/

/-- The result of the test that runs in slot `q`: whether it passed, and its detail. -/
def Dev.tstVerdict (d : Dev) (q : Nat) (pass : Bool) (detail : Nat) : Bool × Nat :=
  let mean := fun (l : List Nat) => min 0xFFFF (l.sum / max 1 l.length / 4000)
  match d.rd (TST.S_ID q) with
  | 2 => (d.imageOk, (d.mram.image.map CfgImage.crc).getD 0)
  | 3 => (d.badTiles == 0, d.badTiles)
  | 32 => (pass, mean (d.tslot q).opens + 2 ^ 16 * mean (d.tslot q).closes)
  | _ => (pass, detail)

/-- The test of slot `q` ends with the verdict `r`. -/
def Dev.tstEnd (d : Dev) (now q : Nat) (r : Bool × Nat) : Dev :=
  let id := d.rd (TST.S_ID q)
  let d := if id = 16 ∨ id = 17 then d.modIdc (d.rd (TST.S_TARGET q)) (fun x => { x with offFrom := now }) else d
  let d := (d.tstFinish q 3 (b2n (!r.1)) r.2).fire now EVT.TST_DONE q 0
  if r.1 then d else d.fire now EVT.TST_FAIL q id

theorem Dev.tstDone_eq (d : Dev) (now q : Nat) (pass : Bool) (detail : Nat) :
    d.tstDone now q pass detail =
      if (d.tstTurn now).rd (TST.STATUS q) != 2 || decide (now < ((d.tstTurn now).tslot q).endAt.getD 0) ||
        ((d.tstTurn now).slotClass q == some 0 && (d.tstTurn now).tstBehind q) then d.tstTurn now
      else (d.tstTurn now).tstEnd now q ((d.tstTurn now).tstVerdict q pass detail) := rfl

theorem Dev.tstEnd_spec (d : Dev) (now : Nat) {q : Nat} (hq : q < 16) (r : Bool × Nat) :
    (d.tstEnd now q r).rd (TST.STATUS q) = 3 ∧ bitOf ((d.tstEnd now q r).rd TST.FINISHED) q = true ∧
      (d.tstEnd now q r).raised EVT.TST_DONE q = true ∧ (d.tstEnd now q r).rd (TST.RESULT q) = b2n (!r.1) ∧
      (d.tstEnd now q r).rd (TST.DETAIL q) = r.2 % 2 ^ 32 ∧ (r.1 = false → (d.tstEnd now q r).raised EVT.TST_FAIL q = true) := by
  unfold Dev.tstEnd
  extract_lets id x y
  obtain ⟨hst, hres, hdet, hfin⟩ := x.tstFinish_spec hq 3 (b2n (!r.1)) r.2
  have hy : ∀ f : Field, f.lo < 32 → f.ofEvents = false → y.rd f = (x.tstFinish q 3 (b2n (!r.1)) r.2).rd f := fun f hlo hev =>
    Dev.rd_fire_of _ _ _ _ _ hlo hev
  have hdone : y.raised EVT.TST_DONE q = true := Dev.raised_fire _ _ _ _ _ (by omega) (by clear * - hq; decide +revert)
  clear_value y
  generalize he : (if r.1 then y else y.fire now EVT.TST_FAIL q id) = e
  have hrd : ∀ f : Field, f.lo < 32 → f.ofEvents = false → e.rd f = y.rd f := fun f hlo hev => by
    rw [← he]
    split
    · rfl
    · exact Dev.rd_fire_of _ _ _ _ _ hlo hev
  have hshow : ∀ f : Field, f.lo < 32 → f.ofEvents = false → e.rd f = (x.tstFinish q 3 (b2n (!r.1)) r.2).rd f := fun f hlo hev =>
    (hrd f hlo hev).trans (hy f hlo hev)
  refine ⟨(hshow _ (by simp [TST.STATUS]) (by clear * - hq; decide +revert)).trans hst, ?_, ?_, ?_,
    (hshow _ (by simp [TST.DETAIL]) (by clear * - hq; decide +revert)).trans hdet, fun h => ?_⟩
  · rw [hshow _ (by decide) (by decide)]
    exact hfin
  · rw [← he]
    split
    · exact hdone
    · exact Dev.raised_fire_keeps _ _ _ _ _ (by clear * - hq; decide +revert) hdone
  · rw [hshow _ (by simp [TST.RESULT]) (by clear * - hq; decide +revert), hres]
    cases r.1 <;> rfl
  · rw [← he, if_neg (ne_true_of_eq_false h)]
    exact Dev.raised_fire _ _ _ _ _ (by omega) (by clear * - hq; decide +revert)

theorem testDone_effect (s : State) (el : Nat) (q : Fin 16) (pass : Bool) (detail : Word) :
    Answers (.testDone el q pass detail) s (fun now d e => d.ticking = true →
      let t := d.tstTurn now
      (t.rd (TST.STATUS q.val) ≠ 2 ∨ now < (t.tslot q.val).endAt.getD 0 ∨ (t.slotClass q.val = some 0 ∧ t.tstBehind q.val = true) → e = t) ∧
      (t.rd (TST.STATUS q.val) = 2 → (t.tslot q.val).endAt.getD 0 ≤ now → t.slotClass q.val ≠ some 0 ∨ t.tstBehind q.val = false →
        e.rd (TST.STATUS q.val) = 3 ∧ bitOf (e.rd TST.FINISHED) q.val = true ∧ e.raised EVT.TST_DONE q.val = true ∧
        (t.rd (TST.S_ID q.val) = 2 → e.rd (TST.RESULT q.val) = b2n (!t.imageOk) ∧
          (t.imageOk = false → e.raised EVT.TST_FAIL q.val = true)) ∧
        (t.rd (TST.S_ID q.val) = 3 → e.rd (TST.RESULT q.val) = b2n (t.badTiles != 0) ∧ e.rd (TST.DETAIL q.val) = t.badTiles % 2 ^ 32) ∧
        (t.rd (TST.S_ID q.val) ≠ 2 → t.rd (TST.S_ID q.val) ≠ 3 → e.rd (TST.RESULT q.val) = b2n (!pass) ∧
          (pass = false → e.raised EVT.TST_FAIL q.val = true) ∧
          (t.rd (TST.S_ID q.val) ≠ 32 → e.rd (TST.DETAIL q.val) = detail.toNat)))) := by
  refine answers_of_forall (f := fun now d => if d.ticking then d.tstDone now q.val pass detail.toNat else d) rfl (fun now d htick => ?_)
  rw [if_pos htick, Dev.tstDone_eq]
  generalize d.tstTurn now = t
  refine ⟨fun h => if_pos (by simpa [or_assoc] using h), fun hst hle hturn => ?_⟩
  rw [if_neg (by rcases hturn with h | h <;> simp [hst, h, hle])]
  obtain ⟨hst3, hfin, hdone, hres, hdet, hfail⟩ := t.tstEnd_spec now q.isLt (t.tstVerdict q.val pass detail.toNat)
  refine ⟨hst3, hfin, hdone, fun hid => ?_, fun hid => ?_, fun h2 h3 => ?_⟩
  · have hv : (t.tstVerdict q.val pass detail.toNat).1 = t.imageOk := by simp only [Dev.tstVerdict, hid]
    rw [hv] at hres hfail
    exact ⟨hres, hfail⟩
  · have hv : t.tstVerdict q.val pass detail.toNat = (t.badTiles == 0, t.badTiles) := by simp only [Dev.tstVerdict, hid]
    rw [hv] at hres hdet ⊢
    exact ⟨hres, hdet⟩
  · have hv : (t.tstVerdict q.val pass detail.toNat).1 = pass ∧
        (t.rd (TST.S_ID q.val) ≠ 32 → (t.tstVerdict q.val pass detail.toNat).2 = detail.toNat) := by
      unfold Dev.tstVerdict
      dsimp only
      split
      · exact absurd ‹_› h2
      · exact absurd ‹_› h3
      · exact ⟨rfl, fun h => absurd ‹_› h⟩
      · exact ⟨rfl, fun _ => rfl⟩
    rw [hv.1] at hres hfail
    refine ⟨hres, hfail, fun h => ?_⟩
    rw [hdet, hv.2 h]
    exact Nat.mod_eq_of_lt detail.isLt

/-! ### The tests of AUTO_MASK -/

/-- A loop whose turns keep every RAW bit raises what the turn of one of its elements raises, whatever block it meets. -/
theorem Dev.raised_each {α : Type} (P : Dev → Prop) (f : Dev → α → Dev) (hP : ∀ d a, P d → P (f d a)) (hraw : ∀ d a, RawKept d (f d a))
    {ev inst : Nat} (hb : (evtPage ev inst).2 < 32) {l : List α} {a : α} (ha : a ∈ l) (hset : ∀ d, P d → (f d a).raised ev inst = true)
    (d : Dev) (hd : P d) : (d.each l f).raised ev inst = true := by
  unfold Dev.each
  induction l generalizing d with
  | nil => simp at ha
  | cons b l ih =>
    rw [List.foldl_cons]
    rcases List.mem_cons.mp ha with rfl | hmem
    · exact (RawKept.each (f d a) l f hraw).raised hb (hset d hd)
    · exact ih hmem _ (hP d b hd)

/-- Whether the periodic test `k` fails. -/
def Dev.autoBad (d : Dev) (fails k : Nat) : Bool := if k = 2 then !d.imageOk else if k = 3 then d.badTiles != 0 else bitOf fails k

/-- One test of the periodic set. -/
def Dev.autoTest (d : Dev) (now fails k : Nat) : Dev := if d.autoBad fails k then d.fire now EVT.TST_FAIL 0 k else d

theorem Dev.autoTest_quiet (d : Dev) (now fails k : Nat) : Quiet d (d.autoTest now fails k) := by
  unfold Dev.autoTest
  split
  · exact fire_quiet _ _ _ _ _
  · exact Quiet.refl d

theorem Dev.autoTest_rawKept (d : Dev) (now fails k : Nat) : RawKept d (d.autoTest now fails k) := by
  unfold Dev.autoTest
  split
  · exact fire_rawKept _ _ _ _ _
  · exact RawKept.refl d

theorem autoPer_effect (s : State) (el : Nat) (fails : BitVec 5) :
    Answers (.autoPer el fails) s (fun now d e => d.ticking = true →
      let at_ := d.tst.lastAuto + sec (max 1 (d.rd TST.AUTO_PER))
      (now < at_ → e = d) ∧
      (at_ ≤ now → e.tst = { d.tst with lastAuto := now } ∧ OnlyRegsAndEvents [] { d with tst := e.tst } e ∧
        (bitOf (d.rd TST.AUTO_MASK) 2 = true → d.imageOk = false → e.raised EVT.TST_FAIL 0 = true) ∧
        (bitOf (d.rd TST.AUTO_MASK) 3 = true → d.badTiles ≠ 0 → e.raised EVT.TST_FAIL 0 = true) ∧
        (∀ k, k < 5 → k ≠ 2 → k ≠ 3 → bitOf (d.rd TST.AUTO_MASK) k = true → bitOf fails.toNat k = true →
          e.raised EVT.TST_FAIL 0 = true))) := by
  refine answers_of_forall (f := fun now d => if d.ticking then d.tstAuto now fails.toNat else d) rfl (fun now d htick => ?_)
  rw [if_pos htick]
  extract_lets at_
  refine ⟨fun h => if_neg (by simpa using h), fun h => ?_⟩
  generalize hx : ({ d with tst := { d.tst with lastAuto := now } } : Dev) = x
  generalize hl : (List.range 5).filter (fun k => bitOf (d.rd TST.AUTO_MASK) k) = l
  have hauto : d.tstAuto now fails.toNat = x.each l (fun d k => d.autoTest now fails.toNat k) := by
    rw [← hx, ← hl]
    exact if_pos (by simpa using h)
  rw [hauto]
  have hmask : ∀ k, k < 5 → bitOf (d.rd TST.AUTO_MASK) k = true → k ∈ l := fun k hk hb => by
    rw [← hl]
    exact List.mem_filter.mpr ⟨List.mem_range.mpr hk, hb⟩
  have hraise : ∀ k, k < 5 → bitOf (d.rd TST.AUTO_MASK) k = true → d.autoBad fails.toNat k = true →
      (x.each l (fun d k => d.autoTest now fails.toNat k)).raised EVT.TST_FAIL 0 = true := fun k hk hb hbad => by
    refine Dev.raised_each (fun y => y.autoBad fails.toNat k = true) _ (fun y j hy => ?_) (fun y j => y.autoTest_rawKept now _ j)
      (by decide) (hmask k hk hb) (fun y hy => ?_) x ?_
    · exact (congrArg (fun z : Dev => z.autoBad fails.toNat k) (y.autoTest_quiet now fails.toNat j).1).trans hy
    · rw [Dev.autoTest, if_pos hy]
      exact Dev.raised_fire _ _ _ _ _ (by decide) (by decide)
    · rw [← hx]
      exact hbad
  have hquiet : Quiet x (x.each l (fun d k => d.autoTest now fails.toNat k)) := Quiet.each _ _ _ (fun y j => y.autoTest_quiet now _ j)
  have htst : (x.each l (fun d k => d.autoTest now fails.toNat k)).tst = { d.tst with lastAuto := now } := by
    rw [hquiet.1, ← hx]
  refine ⟨htst, ?_, fun hb hbad => hraise 2 (by decide) hb (by simp [Dev.autoBad, hbad]),
    fun hb hbad => hraise 3 (by decide) hb (by simp [Dev.autoBad, hbad]),
    fun k hk h2 h3 hb hbad => hraise k hk hb (by simp [Dev.autoBad, h2, h3, hbad])⟩
  rw [htst, hx]
  exact OnlyRegs.andQuiet (OnlyRegs.refl (fs := []) x) hquiet

/-- Settles O58, command by command. -/
theorem selfTests : Obligations.SelfTests := by
  unfold Obligations.SelfTests
  exact ⟨fun d now => ⟨Dev.tstTurn_of_current, fun _ hq => d.rd_status_tstTurn now hq⟩, fun s el => ⟨tGo_effect s el,
    fun q => ⟨testStart_effect s el q, testWaitMax_effect s el q, testDone_effect s el q⟩, autoPer_effect s el⟩⟩

end Sys2Proof.Machine
end

section
/-! PROOFS. Unconfirmed movements, and the room made for held spans. -/
namespace Sys2Proof.Machine

/-! ### Confirmation timeouts -/

theorem Dev.paintOf_modPaint_map (d : Dev) (n : Nat) (f : PtPaint → PtPaint) :
    (d.modPaint n f).paintOf n = f (d.paintOf n) ∧ ∀ k, k ≠ n → (d.modPaint n f).paintOf k = d.paintOf k :=
  ⟨tget_tmod_self _ _ _, fun _ hk => tget_tmod_ne _ _ hk.symm⟩

theorem confTimeout_effect (s : State) (el : Nat) (pt : Fin 1024) :
    Answers (.confTimeout el pt) s (fun now d e => d.ticking = true → d.on (PD.VALID pt.val) = true →
      (∀ k, k = ((d.paintOf pt.val).edges.filter (fun x => x.wait && decide (x.cmd + d.confWait ≤ now))).length → 0 < k →
        e.rd COV.CONF_TIMEOUTS = min (2 ^ COV.CONF_TIMEOUTS.width - 1) (d.rd COV.CONF_TIMEOUTS + k)) ∧
      (∀ x ∈ (e.paintOf pt.val).edges, x.wait = true → now < x.cmd + d.confWait) ∧
      (∀ n, n ≠ pt.val → e.paintOf n = d.paintOf n)) := by
  refine answers_of_forall (f := fun now d => if d.ticking && d.on (PD.VALID pt.val) then d.confCheck now pt.val else d) rfl
    (fun now d htick hvalid => ?_)
  rw [if_pos (by rw [htick, hvalid]; rfl)]
  unfold Dev.confCheck
  extract_lets late k
  by_cases hk : k = 0
  · rw [if_pos hk]
    refine ⟨fun j hj hpos => absurd (hj.trans hk) (by omega), fun x hx hwait => ?_, fun _ _ => rfl⟩
    have hlate := List.filter_eq_nil_iff.mp (List.length_eq_zero_iff.mp hk) x hx
    simp only [late, hwait, Bool.true_and, decide_eq_true_eq] at hlate
    omega
  · rw [if_neg hk]
    obtain ⟨hself, hne⟩ := d.paintOf_modPaint_map pt.val
      (fun p => { p with edges := p.edges.map (fun e => if e.wait && late e then d.unconfirmed pt.val e else e) })
    refine ⟨fun j hj _ => ?_, fun x hx hwait => ?_, hne⟩
    · rw [hj]
      exact Dev.rd_add_self _ _ _
    · have hx : x ∈ (d.paintOf pt.val).edges.map (fun e => if e.wait && late e then d.unconfirmed pt.val e else e) :=
        (congrArg (x ∈ ·) (congrArg PtPaint.edges hself)).mp hx
      obtain ⟨y, -, rfl⟩ := List.mem_map.mp hx
      by_cases hy : (y.wait && late y) = true
      · rw [if_pos hy] at hwait
        simp [Dev.unconfirmed] at hwait
      · rw [if_neg hy] at hwait ⊢
        simp only [hwait, Bool.true_and, late, decide_eq_true_eq] at hy
        omega

/-! ### The tile that goes -/

/-- One slot looked at in the search for the tile that goes. -/
def Dev.victimStep (d : Dev) (layer : Nat) (rank : Slot → Nat) (best : Option (Nat × (Bool × Nat × Nat))) (x : Nat × Slot) :
    Option (Nat × (Bool × Nat × Nat)) :=
  let s := x.2
  if slotFits layer x.1 && !d.pinned s.layer s.tx s.ty && rank s != 0 then
    let k := (d.isWanted s.layer s.tx s.ty, rank s, d.tileDist s.layer s.tx s.ty)
    match best with
    | none => some (x.1, k)
    | some b => if victimBetter k b.2 then some (x.1, k) else best
  else best

/-- A slot that may go: of the layer, not pinned, and of a state that counts. -/
def Dev.MayGo (d : Dev) (layer : Nat) (rank : Slot → Nat) (x : Nat × Slot) : Prop :=
  slotFits layer x.1 = true ∧ d.pinned x.2.layer x.2.tx x.2.ty = false ∧ rank x.2 ≠ 0

theorem Dev.victim_eq (d : Dev) (layer : Nat) (rank : Slot → Nat) :
    d.victim layer rank = (d.tpl.slots.foldl (d.victimStep layer rank) none).map (·.1) := rfl

theorem Dev.victimStep_of_mayGo {d : Dev} {layer : Nat} {rank : Slot → Nat} {x : Nat × Slot} (h : d.MayGo layer rank x)
    (best : Option (Nat × (Bool × Nat × Nat))) :
    (∃ k, d.victimStep layer rank best x = some (x.1, k)) ∨ d.victimStep layer rank best x = best ∧ best ≠ none := by
  obtain ⟨hfits, hpin, hrank⟩ := h
  unfold Dev.victimStep
  dsimp only
  rw [if_pos (by simp [hfits, hpin, hrank])]
  cases best with
  | none => exact .inl ⟨_, rfl⟩
  | some b =>
    dsimp only
    split
    · exact .inl ⟨_, rfl⟩
    · exact .inr ⟨rfl, by simp⟩

theorem Dev.victimStep_of_stays {d : Dev} {layer : Nat} {rank : Slot → Nat} {x : Nat × Slot} (h : ¬ d.MayGo layer rank x)
    (best : Option (Nat × (Bool × Nat × Nat))) : d.victimStep layer rank best x = best := by
  refine if_neg fun hc => h ?_
  simpa [Dev.MayGo, and_assoc] using hc

/-- The tile that goes is one that may go. -/
theorem Dev.victim_mayGo {d : Dev} {layer i : Nat} {rank : Slot → Nat} (h : d.victim layer rank = some i) :
    ∃ x ∈ d.tpl.slots, x.1 = i ∧ d.MayGo layer rank x := by
  have hfold : ∀ (l : List (Nat × Slot)) (best : Option (Nat × (Bool × Nat × Nat))) b, l.foldl (d.victimStep layer rank) best = some b →
      best = some b ∨ ∃ x ∈ l, x.1 = b.1 ∧ d.MayGo layer rank x := by
    intro l
    induction l with
    | nil => exact fun best b hb => .inl hb
    | cons x l ih =>
      intro best b hb
      rcases ih _ b hb with hstep | ⟨y, hy, hyb⟩
      · by_cases hx : d.MayGo layer rank x
        · rcases Dev.victimStep_of_mayGo hx best with ⟨k, hk⟩ | ⟨hk, -⟩
          · obtain rfl := Option.some.inj (hk.symm.trans hstep)
            exact .inr ⟨x, by simp, rfl, hx⟩
          · exact .inl (hk.symm.trans hstep)
        · exact .inl ((Dev.victimStep_of_stays hx best).symm.trans hstep)
      · exact .inr ⟨y, by simp [hy], hyb⟩
  rw [Dev.victim_eq, Option.map_eq_some_iff] at h
  obtain ⟨b, hb, rfl⟩ := h
  exact (hfold _ _ b hb).resolve_left (by simp)

/-- Where a tile may go, one goes. -/
theorem Dev.victim_ne_none {d : Dev} {layer : Nat} {rank : Slot → Nat} {x : Nat × Slot} (hx : x ∈ d.tpl.slots) (h : d.MayGo layer rank x) :
    d.victim layer rank ≠ none := by
  have hstay : ∀ (l : List (Nat × Slot)) (best : Option (Nat × (Bool × Nat × Nat))), best ≠ none ∨ x ∈ l →
      l.foldl (d.victimStep layer rank) best ≠ none := by
    intro l
    induction l with
    | nil => exact fun best hb => hb.resolve_right (by simp)
    | cons y l ih =>
      intro best hb
      refine ih _ ?_
      by_cases hy : d.MayGo layer rank y
      · rcases Dev.victimStep_of_mayGo hy best with ⟨k, hk⟩ | ⟨hk, hne⟩
        · exact .inl (by simp [hk])
        · exact .inl (by rw [hk]; exact hne)
      · rw [Dev.victimStep_of_stays hy]
        refine hb.imp_right fun hmem => (List.mem_cons.mp hmem).resolve_left fun hxy => ?_
        exact hy (hxy ▸ h)
  rw [Dev.victim_eq]
  simpa using hstay d.tpl.slots none (.inr hx)

/-- In a table with one entry per key, an entry is what its key gives. -/
theorem tget_of_mem {α : Type} [Inhabited α] {t : Tab α} (hnodup : (t.map (·.1)).Nodup) {x : Nat × α} (hx : x ∈ t) : tget t x.1 = x.2 := by
  induction t with
  | nil => simp at hx
  | cons a t ih =>
    obtain ⟨hnotin, hnodup⟩ := List.nodup_cons.mp (by simpa using hnodup : (a.1 :: t.map (·.1)).Nodup)
    rcases List.mem_cons.mp hx with rfl | hmem
    · simp [tget, tget?]
    · have hne : a.1 ≠ x.1 := fun heq => hnotin (heq ▸ List.mem_map_of_mem hmem)
      rw [tget, tget?, if_neg hne]
      exact ih hnodup hmem

/-- The tile of slot `i` goes: the slot is FREE, and no other slot changes. -/
def TileGone (d e : Dev) (i : Nat) : Prop :=
  e.tpl.slots = tdel d.tpl.slots i ∧ e.tpl.journal = d.tpl.journal ∧ OnlyRegsAndEvents [COV.TILES_DISCARDED] { d with tpl := e.tpl } e

theorem tileGone_setSlot (d : Dev) (i : Nat) : TileGone d (d.setSlot i {}) i :=
  ⟨rfl, rfl, (OnlyRegs.refl (fs := [COV.TILES_DISCARDED]) _).toOnlyRegsAndEvents⟩

theorem tileGone_discard (d : Dev) (now i : Nat) : TileGone d (d.discard now i) i := by
  have htpl : (d.discard now i).tpl = (d.setSlot i {}).tpl := (congrArg Dev.tpl (fire_quiet _ _ _ _ _).1 :)
  refine ⟨congrArg TplBlk.slots htpl, (congrArg TplBlk.journal htpl :), ?_⟩
  rw [htpl]
  exact (OnlyRegs.wr (fs := [COV.TILES_DISCARDED]) (d.setSlot i {}) COV.TILES_DISCARDED _ (by simp)).toOnlyRegsAndEvents.thenFire _ _ _ _

theorem Dev.takeSlot_forced {d : Dev} (now : Nat) (hfree : d.freeSlot 0 = none) (hnodup : (d.tpl.slots.map (·.1)).Nodup)
    (hone : ∃ x ∈ d.tpl.slots, x.1 < 384 ∧ d.pinned x.2.layer x.2.tx x.2.ty = false ∧ x.2.st ≠ .free ∧ x.2.st ≠ .loading) :
    ∃ i, i < 384 ∧ TileGone d (d.takeSlot now 0 true false).2 i := by
  have hlt : ∀ {rank i}, d.victim 0 rank = some i → i < 384 := fun h => by
    obtain ⟨x, -, rfl, hfits, -⟩ := Dev.victim_mayGo h
    simpa [slotFits] using hfits
  unfold Dev.takeSlot
  rw [hfree]
  simp only [Bool.not_true, Bool.and_false, Bool.false_eq_true, if_false, Bool.false_and]
  split
  · rename_i i hi
    obtain ⟨x, hx, hxi, -, -, hrank⟩ := Dev.victim_mayGo hi
    have hclean : (d.slot i).st = .clean := by
      rw [Dev.slot, ← hxi, tget_of_mem hnodup hx]
      by_contra hne
      exact hrank (if_neg hne)
    rw [if_pos hclean]
    exact ⟨i, hlt hi, tileGone_setSlot d i⟩
  · rename_i hnoclean
    split
    · rename_i i hi
      exact ⟨i, hlt hi, tileGone_discard d now i⟩
    · rename_i hnodirty
      split
      · rename_i i hi
        exact ⟨i, hlt hi, tileGone_discard d now i⟩
      · rename_i hnoprov
        obtain ⟨x, hx, hx384, hpin, hnf, hnl⟩ := hone
        have hfits : slotFits 0 x.1 = true := by simpa [slotFits] using hx384
        exfalso
        cases hst : x.2.st with
        | free => exact hnf hst
        | loading => exact hnl hst
        | clean => exact Dev.victim_ne_none hx ⟨hfits, hpin, by simp [hst]⟩ hnoclean
        | dirty => exact Dev.victim_ne_none hx ⟨hfits, hpin, by simp [rankDirty, hst]⟩ hnodirty
        | writeback => exact Dev.victim_ne_none hx ⟨hfits, hpin, by simp [rankDirty, hst]⟩ hnodirty
        | provisional => exact Dev.victim_ne_none hx ⟨hfits, hpin, by simp [rankProv, hst]⟩ hnoprov

theorem TileGone.freeSlot {d e : Dev} {i : Nat} (h : TileGone d e i) (hi : i < 384) (hfree : d.freeSlot 0 = none) : e.freeSlot 0 = some i := by
  have hnone := List.find?_eq_none.mp hfree
  have hfree : ∀ j, (tget? e.tpl.slots j).isNone = true ↔ j = i ∨ (tget? d.tpl.slots j).isNone = true := fun j => by
    rw [h.1]
    by_cases hj : j = i
    · rw [hj, tget?_tdel_self]
      simp
    · rw [tget?_tdel_ne _ (Ne.symm hj)]
      simp [hj]
  refine List.find?_eq_some_iff_getElem.mpr ⟨(hfree i).mpr (.inl rfl), i, by simpa [slotRange] using hi, by simp [slotRange], fun j hj => ?_⟩
  have hj384 : j < 384 := by omega
  simp only [slotRange, if_true, List.getElem_range, Bool.not_eq_true']
  have := hnone j (by simpa [slotRange] using hj384)
  rw [Bool.eq_false_iff, Ne, hfree]
  rintro (rfl | hj')
  · omega
  · exact this hj'

theorem heldSpanTimeout_effect (s : State) (el : Nat) (pt : Fin 1024) :
    Answers (.heldSpanTimeout el pt) s (fun now d e => d.ticking = true →
      (∀ t, (d.paintOf pt.val).heldAt = some t → t + ms 1000 ≤ now →
        ((d.freeSlot 0).isSome = true → e = d) ∧
        (d.freeSlot 0 = none → (d.tpl.slots.map (·.1)).Nodup →
          (∃ x ∈ d.tpl.slots, x.1 < 384 ∧ d.pinned x.2.layer x.2.tx x.2.ty = false ∧ x.2.st ≠ .free ∧ x.2.st ≠ .loading) →
          ∃ i, e.freeSlot 0 = some i ∧ (∀ n, n ≠ i → e.slot n = d.slot n) ∧ e.tpl.journal = d.tpl.journal ∧
            OnlyRegsAndEvents [COV.TILES_DISCARDED] { d with tpl := e.tpl } e)) ∧
      (∀ t, (d.paintOf pt.val).heldAt = some t → now < t + ms 1000 → e = d) ∧
      ((d.paintOf pt.val).heldAt = none → e = d)) := by
  refine answers_of_forall (f := fun now d => match (d.paintOf pt.val).heldAt with
    | some t => if d.ticking && decide (t + ms 1000 ≤ now) then d.heldDue now else d
    | none => d) rfl (fun now d htick => ?_)
  refine ⟨fun t ht hdue => ?_, fun t ht hearly => ?_, fun ht => by simp only [ht]⟩
  · simp only [ht, htick, hdue, decide_true, Bool.and_self, if_true, Dev.heldDue]
    refine ⟨fun hfree => if_pos hfree, fun hfree hnodup hone => ?_⟩
    rw [if_neg (by simp [hfree])]
    obtain ⟨i, hi, hgone⟩ := Dev.takeSlot_forced now hfree hnodup hone
    generalize (d.takeSlot now 0 true false).2 = e at hgone
    refine ⟨i, hgone.freeSlot hi hfree, fun n hn => ?_, hgone.2.1, hgone.2.2⟩
    rw [Dev.slot, Dev.slot, tget, tget, hgone.1, tget?_tdel_ne _ (Ne.symm hn)]
  · simp only [ht]
    rw [if_neg (by simp; omega)]

/-- Settles O19, command by command. -/
theorem confirmationAndHeldSpans : Obligations.ConfirmationAndHeldSpans := by
  unfold Obligations.ConfirmationAndHeldSpans
  exact fun s el pt => ⟨confTimeout_effect s el pt, heldSpanTimeout_effect s el pt⟩

end Sys2Proof.Machine
end

section
/-! PROOFS. The operations of the tile store: what they change, and what a slot holds after them. -/
namespace Sys2Proof.Machine

/-! ### What the operations of the tile store leave as it was -/

/-- The tile store without what its operations on tiles change. -/
def TplBlk.kept (t : TplBlk) : TplBlk := { t with slots := [], journal := [], nextTag := 0, probes := [], refetch := [], roomDue := false }

/-- What the operations on tiles leave as it was. -/
def Dev.tileKeep (d : Dev) : Dev := { d with regs := [], evh := {}, rec_ := {}, ksp := [], tpl := d.tpl.kept }

/-- An operation on tiles. -/
abbrev TileTouch (d e : Dev) : Prop := Touches [(0x030000, 0x031000)] Dev.tileKeep d e

theorem tileTouch_setSlot (d : Dev) (i : Nat) (x : Slot) : TileTouch d (d.setSlot i x) := Touches.of_regs rfl rfl

theorem Dev.sansSend_toStore (d : Dev) (bs : List Nat) : (d.toStore bs).sansSend = d.sansSend := by
  unfold Dev.toStore
  split
  · exact d.sansSend_kspSend 0 1 bs
  split
  · exact d.sansSend_kspSend 1 1 bs
  · rfl

theorem tileTouch_toStore (d : Dev) (bs : List Nat) : TileTouch d (d.toStore bs) :=
  Touches.of_regs (congrArg Dev.regs (d.sansSend_toStore bs) :) (congrArg Dev.tileKeep (d.sansSend_toStore bs) :)

theorem tileTouch_newTag (d : Dev) : TileTouch d d.newTag.2 := Touches.of_regs rfl rfl

theorem tileTouch_tagOf (d : Dev) (i : Nat) (isPut : Bool) : TileTouch d (d.tagOf i isPut).2 := by
  unfold Dev.tagOf
  split
  · split
    · exact Touches.refl d
    · exact tileTouch_newTag d
  · exact tileTouch_newTag d

theorem tileTouch_sendReq (d : Dev) (now i tries : Nat) : TileTouch d (d.sendReq now i tries) :=
  ((tileTouch_tagOf d i false).trans (tileTouch_setSlot _ _ _)).trans (tileTouch_toStore _ _)

theorem tileTouch_discard (d : Dev) (now i : Nat) : TileTouch d (d.discard now i) :=
  ((tileTouch_setSlot d i {}).trans (Touches.bump _ COV.TILES_DISCARDED (by decide) (by rfl))).trans (Touches.fire _ _ _ _ _ (by intros; rfl))

theorem tileTouch_damaged (d : Dev) (now i : Nat) : TileTouch d (d.damaged now i) :=
  (((tileTouch_setSlot d i {}).trans (Touches.bump _ COV.TILES_DISCARDED (by decide) (by rfl))).trans
    (Touches.fire _ now EVT.COV_TILE_CRC 0 0 (by intros; rfl))).trans (Touches.of_regs rfl rfl)

theorem tileTouch_sendPut (d : Dev) (now i tries : Nat) (evict : Bool) : TileTouch d (d.sendPut now i tries evict) :=
  Touches.ite (fun _ => tileTouch_damaged d now i)
    (fun _ => ((tileTouch_tagOf d i true).trans (tileTouch_setSlot _ _ _)).trans (tileTouch_toStore _ _))

theorem tileTouch_setJournal (d : Dev) (j : List JEntry) : TileTouch d (d.setJournal j) := by
  have h0 : TileTouch d { d with tpl := { d.tpl with journal := j } } := Touches.of_regs rfl rfl
  have h1 : TileTouch _ (({ d with tpl := { d.tpl with journal := j } } : Dev).wr COV.JNL_USED j.length) :=
    h0.trans (Touches.wr _ COV.JNL_USED _ (by decide) (by rfl))
  exact h1.trans (Touches.opt (Touches.wr _ COV.JNL_MAX _ (by decide) (by rfl)))

theorem tileTouch_replay (d : Dev) (i : Nat) : TileTouch d (d.replay i).2 := by
  unfold Dev.replay
  dsimp only
  split
  · exact Touches.refl d
  · exact ((tileTouch_setSlot d i _).trans (tileTouch_setJournal _ _)).trans (Touches.wr _ COV.PAINT_LOST _ (by decide) (by rfl))

theorem tileTouch_makeProvisional (d : Dev) (i : Nat) (keep : Bool) : TileTouch d (d.makeProvisional i keep) :=
  (tileTouch_setSlot d i _).trans (tileTouch_replay _ i)

theorem tileTouch_createBlank (d : Dev) (now i layer : Nat) (tx ty : Int) : TileTouch d (d.createBlank now i layer tx ty) :=
  ((tileTouch_setSlot d i _).trans (tileTouch_replay _ i)).trans (Touches.opt (tileTouch_setSlot _ _ _))

theorem tileTouch_takeSlot (d : Dev) (now layer : Nat) (force put : Bool) : TileTouch d (d.takeSlot now layer force put).2 := by
  unfold Dev.takeSlot
  split
  · exact Touches.refl d
  · extract_lets ok
    split
    · split
      · exact tileTouch_setSlot d _ _
      · split
        · exact tileTouch_sendPut d _ _ _ _
        · exact Touches.of_regs rfl rfl
    · split
      · exact Touches.refl d
      · split
        · exact tileTouch_discard d _ _
        · split
          · exact tileTouch_discard d _ _
          · exact Touches.refl d

theorem tileTouch_fetchTile (d : Dev) (now layer : Nat) (tx ty : Int) : TileTouch d (d.fetchTile now layer tx ty) := by
  unfold Dev.fetchTile
  refine Touches.ite (fun _ => Touches.refl d) (fun _ => Touches.ite (fun _ => ?_) (fun _ => Touches.ite (fun _ => Touches.refl d) (fun _ => ?_)))
  · refine Touches.ite (fun _ => Touches.refl d) (fun _ => ?_)
    extract_lets t
    have ht : TileTouch d t.2 := tileTouch_takeSlot d now layer false true
    split
    · exact ht
    · exact ht.trans (tileTouch_createBlank _ _ _ _ _ _)
  · split
    · exact tileTouch_takeSlot d now layer false true
    · exact (tileTouch_setSlot d _ _).trans (tileTouch_sendReq _ _ _ _)

theorem tileTouch_reqRoom (d : Dev) : TileTouch d d.reqRoom := by
  unfold Dev.reqRoom
  split
  · exact Touches.refl d
  split
  · exact Touches.of_regs rfl rfl
  split
  · exact tileTouch_setSlot d _ _
  · exact Touches.refl d

theorem TileTouch.kept {d e : Dev} (h : TileTouch d e) : e.tpl.kept = d.tpl.kept := (congrArg Dev.tpl h.rest :)

theorem TileTouch.pins {d e : Dev} (h : TileTouch d e) : e.tpl.pins = d.tpl.pins := (congrArg TplBlk.pins h.kept :)

theorem TileTouch.lastProbe {d e : Dev} (h : TileTouch d e) : e.tpl.lastProbe = d.tpl.lastProbe := (congrArg TplBlk.lastProbe h.kept :)

theorem TileTouch.lastFail {d e : Dev} (h : TileTouch d e) : e.tpl.lastFail = d.tpl.lastFail := (congrArg TplBlk.lastFail h.kept :)

/-! ### What a slot holds -/

theorem Dev.slots_setSlot_congr {d e : Dev} (h : e.tpl.slots = d.tpl.slots) (i : Nat) (x : Slot) :
    (e.setSlot i x).tpl.slots = (d.setSlot i x).tpl.slots := by
  simp only [Dev.setSlot, h]

theorem Dev.tpl_toStore (d : Dev) (bs : List Nat) : (d.toStore bs).tpl = d.tpl := (congrArg Dev.tpl (d.sansSend_toStore bs) :)

theorem Dev.slots_tagOf (d : Dev) (i : Nat) (isPut : Bool) : (d.tagOf i isPut).2.tpl.slots = d.tpl.slots := by
  unfold Dev.tagOf
  split
  · split <;> rfl
  · rfl

/-- A slot with a request of this kind keeps its tag. -/
theorem Dev.tagOf_of_req {d : Dev} {i : Nat} {r : TileReq} (h : (d.slot i).req = some r) : d.tagOf i r.isPut = (r.tag, d) := by
  simp [Dev.tagOf, h]

/-- The request that `sendReq` makes for slot `i`. -/
def Dev.askedSlot (d : Dev) (now i tries : Nat) : Slot :=
  { d.slot i with req := some { tag := (d.tagOf i false).1, tries := tries, sentAt := now, isPut := false }, provAsk := now }

theorem Dev.slots_sendReq (d : Dev) (now i tries : Nat) :
    (d.sendReq now i tries).tpl.slots = (d.setSlot i (d.askedSlot now i tries)).tpl.slots := by
  unfold Dev.sendReq
  dsimp only
  rw [Dev.tpl_toStore]
  exact Dev.slots_setSlot_congr (d.slots_tagOf i false) i _

theorem Dev.slot_sendReq_self (d : Dev) (now tries : Nat) {i : Nat} (h : (d.slot i).st ≠ .free) :
    (d.sendReq now i tries).slot i = d.askedSlot now i tries :=
  (Dev.slot_congr (d.slots_sendReq now i tries) i).trans (d.slot_setSlot_self i h)

/-- The slot as `sendPut` leaves it: its generation one higher, its put outstanding. -/
def Dev.putSlot (d : Dev) (now i tries : Nat) (evict : Bool) : Slot :=
  { d.slot i with
    st := .writeback
    gen := ((d.slot i).gen + 1) % 65536
    painted := false
    evicting := evict
    wbAt := now
    req := some { tag := (d.tagOf i true).1, tries := tries, sentAt := now, isPut := true } }

theorem Dev.slots_sendPut (d : Dev) (now tries : Nat) (evict : Bool) {i : Nat} (hbad : (d.slot i).bad = false) :
    (d.sendPut now i tries evict).tpl.slots = (d.setSlot i (d.putSlot now i tries evict)).tpl.slots := by
  unfold Dev.sendPut
  dsimp only
  rw [if_neg (ne_true_of_eq_false hbad), Dev.tpl_toStore]
  exact Dev.slots_setSlot_congr (d.slots_tagOf i true) i _

theorem Dev.slot_sendPut_self (d : Dev) (now tries : Nat) (evict : Bool) {i : Nat} (hbad : (d.slot i).bad = false) :
    (d.sendPut now i tries evict).slot i = d.putSlot now i tries evict :=
  (Dev.slot_congr (d.slots_sendPut now tries evict hbad) i).trans (d.slot_setSlot_self i (by simp [Dev.putSlot]))

theorem Dev.slot_sendPut_ne (d : Dev) (now tries : Nat) (evict : Bool) {i n : Nat} (hbad : (d.slot i).bad = false) (h : n ≠ i) :
    (d.sendPut now i tries evict).slot n = d.slot n :=
  (Dev.slot_congr (d.slots_sendPut now tries evict hbad) n).trans (d.slot_setSlot_ne _ h)

/-- Painting cells changes no more of a slot than its cells. -/
theorem Slot.paintCells_eq (s : Slot) (ks : List Nat) : ∃ cells, s.paintCells ks = { s with cells := cells } := by
  unfold Slot.paintCells
  induction ks generalizing s with
  | nil => exact ⟨s.cells, rfl⟩
  | cons k ks ih =>
    obtain ⟨cells, hcells⟩ := ih (s.setCell k (paintNibble (s.cell k)))
    exact ⟨cells, hcells⟩

theorem Slot.paintAll_eq {α : Type} (s : Slot) (l : List α) (ks : α → List Nat) :
    ∃ cells, l.foldl (fun s e => s.paintCells (ks e)) s = { s with cells := cells } := by
  induction l generalizing s with
  | nil => exact ⟨s.cells, rfl⟩
  | cons a l ih =>
    obtain ⟨cells, hcells⟩ := s.paintCells_eq (ks a)
    obtain ⟨cells', hcells'⟩ := ih (s.paintCells (ks a))
    refine ⟨cells', hcells'.trans ?_⟩
    rw [hcells]

theorem Dev.slots_setJournal (d : Dev) (j : List JEntry) : (d.setJournal j).tpl.slots = d.tpl.slots := by rw [Dev.tpl_setJournal]

/-- What the journal holds for a tile is painted into its slot: no more than its cells changes. -/
theorem Dev.slots_replay (d : Dev) {i : Nat} (h : (d.slot i).st ≠ .free) :
    ∃ cells, ((d.replay i).2.slot i) = { d.slot i with cells := cells } ∧ ∀ n, n ≠ i → (d.replay i).2.slot n = d.slot n := by
  unfold Dev.replay
  extract_lets s mine good c s' x
  obtain ⟨cells, hcells⟩ := s.paintAll_eq good (fun e => e.cells c)
  have hx : x.tpl.slots = (d.setSlot i { s with cells := cells }).tpl.slots := by
    show ((d.setSlot i s').setJournal _).tpl.slots = _
    rw [Dev.slots_setJournal, ← hcells]
  clear_value x
  split
  · exact ⟨s.cells, rfl, fun _ _ => rfl⟩
  · have hslots : (x.add COV.PAINT_LOST (mine.length - good.length)).tpl.slots = x.tpl.slots := rfl
    exact ⟨cells, (Dev.slot_congr (hslots.trans hx) i).trans (d.slot_setSlot_self i h),
      fun n hn => (Dev.slot_congr (hslots.trans hx) n).trans (d.slot_setSlot_ne _ hn)⟩

theorem Dev.slot_makeProvisional (d : Dev) (i : Nat) (keep : Bool) :
    ((d.makeProvisional i keep).slot i).st = .provisional ∧
      ((d.makeProvisional i keep).slot i).req = (if keep then (d.slot i).req else none) ∧
      ∀ n, n ≠ i → (d.makeProvisional i keep).slot n = d.slot n := by
  unfold Dev.makeProvisional
  extract_lets s
  have hself := d.slot_setSlot_self i
    (x := { s with st := .provisional, fill := 0, cells := [], req := if keep then s.req else none, bad := false }) (by simp)
  have hne := fun n hn => d.slot_setSlot_ne (i := i) (n := n)
    { s with st := .provisional, fill := 0, cells := [], req := if keep then s.req else none, bad := false } hn
  generalize d.setSlot i { s with st := .provisional, fill := 0, cells := [], req := if keep then s.req else none, bad := false } = x at hself hne
  obtain ⟨cells, hcells, hothers⟩ := x.slots_replay (i := i) (by rw [hself]; simp)
  rw [hcells, hself]
  exact ⟨rfl, rfl, fun n hn => (hothers n hn).trans (hne n hn)⟩

theorem mem_of_tget? {α : Type} {t : Tab α} {k : Nat} {v : α} (h : tget? t k = some v) : (k, v) ∈ t := by
  induction t with
  | nil => simp at h
  | cons a t ih =>
    rw [tget?] at h
    split at h
    · obtain rfl := Option.some.inj h
      simp [← ‹a.1 = k›]
    · exact List.mem_cons_of_mem _ (ih h)

/-! ### The failure of the store -/

/-- LOADING tiles become PROVISIONAL. -/
def Dev.loadingLost (d : Dev) (l : List (Nat × Slot)) : Dev :=
  d.each l (fun d x => if (d.slot x.1).st = .loading then d.makeProvisional x.1 true else d)

theorem tileTouch_loadingLost (d : Dev) (l : List (Nat × Slot)) : TileTouch d (d.loadingLost l) :=
  Touches.each _ _ (fun x y _ => Touches.opt (tileTouch_makeProvisional x y.1 true)) d

theorem Dev.loading_of_loadingLost (d : Dev) (l : List (Nat × Slot)) {n : Nat} (h : ((d.loadingLost l).slot n).st = .loading) :
    (d.slot n).st = .loading ∧ ∀ x ∈ l, x.1 ≠ n := by
  unfold Dev.loadingLost Dev.each at h
  induction l generalizing d with
  | nil => exact ⟨h, by simp⟩
  | cons a l ih =>
    rw [List.foldl_cons] at h
    obtain ⟨hn, hl⟩ := ih _ h
    obtain ⟨hst, -, hothers⟩ := d.slot_makeProvisional a.1 true
    by_cases han : a.1 = n
    · exfalso
      subst han
      split at hn
      · rw [hst] at hn
        cases hn
      · exact absurd hn ‹_›
    · have hkeep : ((if (d.slot a.1).st = .loading then d.makeProvisional a.1 true else d) : Dev).slot n = d.slot n := by
        split
        · exact hothers n (Ne.symm han)
        · rfl
      rw [hkeep] at hn
      exact ⟨hn, fun x hx => (List.mem_cons.mp hx).elim (fun h => h ▸ han) (hl x)⟩

/-- STORE_OK clears, as the last retry of slot `i` has failed. -/
def Dev.storeLost (d : Dev) (now i : Nat) : Dev :=
  let d := { d with tpl := { d.tpl with lastFail := some ((d.slot i).layer, (d.slot i).tx, (d.slot i).ty), lastProbe := now } }
  (d.wr TPL.STORE_OK 0).fire now EVT.TPL_STORE_FAIL 0 0

theorem Dev.storeFail_eq (d : Dev) (now i : Nat) : d.storeFail now i = (d.storeLost now i).loadingLost (d.storeLost now i).tpl.slots := rfl

theorem Dev.storeFail_spec (d : Dev) (now i : Nat) :
    (d.storeFail now i).rd TPL.STORE_OK = 0 ∧ (d.storeFail now i).raised EVT.TPL_STORE_FAIL 0 = true ∧
      (d.storeFail now i).tpl.lastProbe = now ∧
      (d.storeFail now i).tpl.lastFail = some ((d.slot i).layer, (d.slot i).tx, (d.slot i).ty) ∧
      ∀ n, ((d.storeFail now i).slot n).st ≠ .loading := by
  have hok : (d.storeLost now i).rd TPL.STORE_OK = 0 :=
    (Dev.rd_fire_of _ _ _ _ _ (by decide) (by decide)).trans ((Dev.rd_wr_self _ _ _).trans rfl)
  have hraised : (d.storeLost now i).raised EVT.TPL_STORE_FAIL 0 = true := Dev.raised_fire _ _ _ _ _ (by decide) (by decide)
  have htpl : (d.storeLost now i).tpl = { d.tpl with
      lastFail := some ((d.slot i).layer, (d.slot i).tx, (d.slot i).ty)
      lastProbe := now } := (congrArg Dev.tpl (fire_quiet _ _ _ _ _).1 :)
  rw [Dev.storeFail_eq]
  generalize d.storeLost now i = x at hok hraised htpl
  have htouch := tileTouch_loadingLost x x.tpl.slots
  refine ⟨(htouch.rd TPL.STORE_OK).trans hok, htouch.raw.raised (by decide) hraised, htouch.lastProbe.trans (by rw [htpl]),
    htouch.lastFail.trans (by rw [htpl]), fun n hn => ?_⟩
  obtain ⟨hload, hkeys⟩ := x.loading_of_loadingLost x.tpl.slots hn
  cases hget : tget? x.tpl.slots n with
  | none => simp [Dev.slot, tget, hget, default, instInhabitedSlot.default] at hload
  | some v => exact hkeys _ (mem_of_tget? hget) rfl

/-! ### The pin list -/

/-- The tile named by the PIN registers joins the pin list. -/
def Dev.pinAdded (d : Dev) (p : Pin) : Dev := ({ d with tpl := { d.tpl with pins := d.tpl.pins ++ [p] } } : Dev).wr TPL.PIN_FULL 0

/-- A tile that has just been pinned is fetched, where the field is open. -/
def Dev.pinFetch (d : Dev) (now : Nat) (p : Pin) : Dev :=
  if d.rd COV.FIELD_STATE = 1 && !d.edgePassed now && d.layerUsed p.layer then d.fetchTile now p.layer p.tx p.ty else d

theorem Dev.pinCmd_pin (d : Dev) (now : Nat) :
    d.pinCmd now 1 =
      let p : Pin := { field := d.rd COV.FIELD_ID_ACT, layer := d.rd TPL.PIN_LAYER, tx := d.rdS TPL.PIN_TX, ty := d.rdS TPL.PIN_TY }
      if d.tpl.pins.contains p then d.wr TPL.PIN_FULL 0
      else if 64 ≤ d.tpl.pins.length then d.wr TPL.PIN_FULL 1 else (d.pinAdded p).pinFetch now p := rfl

theorem tilePin_effect (s : State) (el : Nat) :
    Answers (.tilePin el) s (fun now d e => d.hif.inService = true →
      let p : Pin := { field := d.rd COV.FIELD_ID_ACT, layer := d.rd TPL.PIN_LAYER, tx := d.rdS TPL.PIN_TX, ty := d.rdS TPL.PIN_TY }
      (d.tpl.pins.contains p = true → OnlyRegs [TPL.PIN_FULL] d e ∧ e.rd TPL.PIN_FULL = 0) ∧
      (d.tpl.pins.contains p = false → 64 ≤ d.tpl.pins.length → OnlyRegs [TPL.PIN_FULL] d e ∧ e.rd TPL.PIN_FULL = 1) ∧
      (d.tpl.pins.contains p = false → d.tpl.pins.length < 64 →
        e.tpl.pins = d.tpl.pins ++ [p] ∧ e.rd TPL.PIN_FULL = 0 ∧
        (d.rd COV.FIELD_STATE ≠ 1 ∨ d.edgePassed now = true ∨ d.layerUsed p.layer = false →
          e.tpl = { d.tpl with pins := d.tpl.pins ++ [p] } ∧ OnlyRegs [TPL.PIN_FULL] { d with tpl := e.tpl } e))) := by
  refine answers_of_forall (f := fun now d => if d.hif.inService then d.pinCmd now 1 else d) rfl (fun now d hsvc => ?_)
  rw [if_pos hsvc]
  rw [Dev.pinCmd_pin]
  extract_lets p
  refine ⟨fun hin => ?_, fun hout hfull => ?_, fun hout hroom => ?_⟩
  · rw [if_pos hin]
    exact ⟨OnlyRegs.wr d _ _ (by simp), Dev.rd_wr_self _ _ _⟩
  · rw [if_neg (ne_true_of_eq_false hout), if_pos hfull]
    exact ⟨OnlyRegs.wr d _ _ (by simp), Dev.rd_wr_self _ _ _⟩
  · rw [if_neg (ne_true_of_eq_false hout), if_neg (by omega)]
    generalize hx : d.pinAdded p = x
    have htpl : x.tpl = { d.tpl with pins := d.tpl.pins ++ [p] } := by rw [← hx]; rfl
    have hfull : x.rd TPL.PIN_FULL = 0 := by rw [← hx]; exact Dev.rd_wr_self _ _ _
    have honly : OnlyRegs [TPL.PIN_FULL] { d with tpl := x.tpl } x := by
      rw [htpl, ← hx]
      exact OnlyRegs.wr _ _ _ (by simp)
    have hstate : x.rd COV.FIELD_STATE = d.rd COV.FIELD_STATE := honly.2 _ (by decide)
    have hedge : x.edgePassed now = d.edgePassed now := by
      have hsys : x.sys = d.sys := by rw [← hx]; rfl
      have hen : x.pair = d.pair := by rw [← hx]; rfl
      have hrate : x.rd PAIR.PT_RATE = d.rd PAIR.PT_RATE := honly.2 _ (by decide)
      have hlen : ∀ c, x.dtLen c = d.dtLen c := fun c => by simp only [Dev.dtLen, Dev.rdS, hen, hrate]
      rw [Dev.edgePassed, Dev.edgePassed, Dev.nextEdge, Dev.nextEdge, Dev.edgeOf, Dev.edgeOf, hsys, hlen]
    have hused : x.layerUsed p.layer = d.layerUsed p.layer := by
      have hrx : x.rd COV.RX_EN = d.rd COV.RX_EN := honly.2 _ (by decide)
      simp only [Dev.layerUsed, hrx]
    have htouch : TileTouch x (x.pinFetch now p) := Touches.opt (tileTouch_fetchTile _ _ _ _ _)
    refine ⟨htouch.pins.trans (congrArg TplBlk.pins htpl :), (htouch.rd TPL.PIN_FULL).trans hfull, fun hstay => ?_⟩
    rw [Dev.pinFetch, if_neg (by rw [hstate, hedge, hused]; rcases hstay with h | h | h <;> simp [h])]
    exact ⟨htpl, honly⟩

/-! ### The timers of the store -/

theorem tileWriteback_effect (s : State) (el : Nat) (i : Fin 416) :
    Answers (.tileWriteback el i) s (fun now d e => d.inT6 now = true →
      (d.slot i.val).st = .dirty → d.puts = true → (d.slot i.val).wbAt + sec (max 1 (d.rd TPL.WB_INTERVAL)) ≤ now →
      (d.slot i.val).bad = false →
      (e.slot i.val).st = .writeback ∧ (e.slot i.val).gen = ((d.slot i.val).gen + 1) % 65536 ∧ (e.slot i.val).wbAt = now ∧
      (e.slot i.val).fill = (d.slot i.val).fill ∧ (e.slot i.val).cells = (d.slot i.val).cells ∧
      (e.slot i.val).painted = false ∧ (∀ n, n ≠ i.val → e.slot n = d.slot n)) := by
  refine answers_of_forall (f := fun now d => if d.inT6 now then d.writebackCheck now i.val else d) rfl
    (fun now d ht6 hst hputs hdue hbad => ?_)
  rw [if_pos ht6]
  have hput : d.writebackCheck now i.val = d.sendPut now i.val 0 false := if_pos (by simp [hst, hputs, hdue])
  rw [hput, d.slot_sendPut_self now 0 false hbad]
  exact ⟨rfl, rfl, rfl, rfl, rfl, rfl, fun n hn => d.slot_sendPut_ne now 0 false hbad hn⟩

theorem Dev.reqTimedOut_of_req {d : Dev} (now : Nat) {i : Nat} {r : TileReq} (hreq : (d.slot i).req = some r)
    (hok : d.on TPL.STORE_OK = true) :
    d.reqTimedOut now i = if r.tries < d.rd TPL.RETRY_MAX then
      (if r.isPut then d.sendPut now i (r.tries + 1) (d.slot i).evicting else d.sendReq now i (r.tries + 1)) else d.storeFail now i := by
  simp only [Dev.reqTimedOut, hreq, hok, Bool.not_true, Bool.false_eq_true, if_false]

theorem Dev.askedSlot_of_req {d : Dev} (now tries : Nat) {i : Nat} {r : TileReq} (hreq : (d.slot i).req = some r) (hget : r.isPut = false) :
    d.askedSlot now i tries = { d.slot i with
      req := some { tag := r.tag, tries := tries, sentAt := now, isPut := false }
      provAsk := now } := by
  have htag := Dev.tagOf_of_req hreq
  rw [hget] at htag
  rw [Dev.askedSlot, htag]

theorem Dev.putSlot_of_req {d : Dev} (now tries : Nat) (evict : Bool) {i : Nat} {r : TileReq} (hreq : (d.slot i).req = some r)
    (hput : r.isPut = true) :
    (d.putSlot now i tries evict).req = some { tag := r.tag, tries := tries, sentAt := now, isPut := true } := by
  have htag := Dev.tagOf_of_req hreq
  rw [hput] at htag
  rw [Dev.putSlot, htag]

theorem reqTimeout_effect (s : State) (el : Nat) (i : Fin 416) (r : TileReq) :
    Answers (.reqTimeout el i) s (fun now d e => d.inT6 now = true →
      (d.slot i.val).st ≠ .free → (d.slot i.val).req = some r → d.on TPL.STORE_OK = true → r.sentAt + d.reqTimeout ≤ now →
      (r.tries < d.rd TPL.RETRY_MAX → r.isPut = false →
        (e.slot i.val).req = some { tag := r.tag, tries := r.tries + 1, sentAt := now, isPut := false }) ∧
      (r.tries < d.rd TPL.RETRY_MAX → r.isPut = true → (d.slot i.val).bad = false →
        (e.slot i.val).req = some { tag := r.tag, tries := r.tries + 1, sentAt := now, isPut := true } ∧
        (e.slot i.val).st = .writeback ∧ (e.slot i.val).gen = ((d.slot i.val).gen + 1) % 65536 ∧
        (e.slot i.val).evicting = (d.slot i.val).evicting) ∧
      (d.rd TPL.RETRY_MAX ≤ r.tries →
        e.rd TPL.STORE_OK = 0 ∧ e.raised EVT.TPL_STORE_FAIL 0 = true ∧ e.tpl.lastProbe = now ∧
        e.tpl.lastFail = some ((d.slot i.val).layer, (d.slot i.val).tx, (d.slot i.val).ty) ∧ (∀ n, (e.slot n).st ≠ .loading))) := by
  refine answers_of_forall (f := fun now d => if d.inT6 now then d.reqCheck now i.val else d) rfl
    (fun now d ht6 hst hreq hok hdue => ?_)
  rw [if_pos ht6]
  have hout : d.reqCheck now i.val = d.reqTimedOut now i.val := by simp [Dev.reqCheck, hreq, hok, hdue]
  rw [hout, Dev.reqTimedOut_of_req now hreq hok]
  refine ⟨fun hlt hget => ?_, fun hlt hput hbad => ?_, fun hle => ?_⟩
  · rw [if_pos hlt, if_neg (ne_true_of_eq_false hget), d.slot_sendReq_self now _ hst, Dev.askedSlot_of_req now _ hreq hget]
  · rw [if_pos hlt, if_pos hput, d.slot_sendPut_self now _ _ hbad]
    exact ⟨Dev.putSlot_of_req now _ _ hreq hput, rfl, rfl, rfl⟩
  · rw [if_neg (by omega)]
    exact d.storeFail_spec now i.val

theorem reqTimeout_early (s : State) (el : Nat) (i : Fin 416) :
    Answers (.reqTimeout el i) s (fun now d e => d.inT6 now = true →
      (∀ r, (d.slot i.val).req = some r → now < r.sentAt + d.reqTimeout) → e = d) := by
  refine answers_of_forall (f := fun now d => if d.inT6 now then d.reqCheck now i.val else d) rfl (fun now d ht6 hearly => ?_)
  rw [if_pos ht6]
  unfold Dev.reqCheck
  cases hreq : (d.slot i.val).req with
  | none => rfl
  | some r =>
    have := hearly r hreq
    exact if_neg (by simp; omega)

/-- The tile that a probe of a failed store asks for. -/
def Dev.probeTile (d : Dev) : Option (Nat × Int × Int) :=
  match d.tpl.wanted.find? (fun w => match d.findSlot w.2.1 w.2.2.1 w.2.2.2 with
      | none => true
      | some x => x.2.st == .provisional) with
  | some w => some w.2
  | none => d.tpl.lastFail

/-- The probe of a failed store for a tile: its request, or one of a tile that no slot holds. -/
def Dev.probeFor (d : Dev) (now layer : Nat) (tx ty : Int) : Dev :=
  let prov : Option (Nat × Slot) := (d.findSlot layer tx ty).filter (fun x => x.2.st == .provisional)
  match prov with
  | some (i, s) => (if s.req.isSome then d else d.reqRoom).sendReq now i 0
  | none =>
    let same := d.tpl.probes.find? (fun x => x.2 == (layer, tx, ty))
    let t : Nat × Dev := match same with | some x => (x.1, d) | none => d.reqRoom.newTag
    let d := if same.isSome then t.2 else { t.2 with tpl := { t.2.tpl with probes := t.2.tpl.probes ++ [(t.1, layer, tx, ty)] } }
    d.toStore (tileMsgBytes 1 layer 0 tx ty (d.rd COV.FIELD_ID_ACT) 0 t.1 0 [])

theorem Dev.probeCheck_eq (d : Dev) (now : Nat) :
    d.probeCheck now = if d.on TPL.STORE_OK || d.rd TPL.STORE_ACT = 3 || d.rd COV.FIELD_STATE = 0 || now < d.tpl.lastProbe + sec 1 then d
      else match d.probeTile with
        | none => d
        | some (layer, tx, ty) => ({ d with tpl := { d.tpl with lastProbe := now } } : Dev).probeFor now layer tx ty := rfl

theorem tileTouch_probeFor (d : Dev) (now layer : Nat) (tx ty : Int) : TileTouch d (d.probeFor now layer tx ty) := by
  unfold Dev.probeFor
  extract_lets prov same t _ _ d1
  clear_value prov same
  split
  · refine Touches.trans ?_ (tileTouch_sendReq _ _ _ _)
    split
    · exact Touches.refl d
    · exact tileTouch_reqRoom d
  · have ht : TileTouch d t.2 := by
      subst t
      split
      · exact Touches.refl d
      · exact (tileTouch_reqRoom d).trans (tileTouch_newTag _)
    clear_value t
    have h1 : TileTouch t.2 d1 := Touches.ite (fun _ => Touches.refl _) (fun _ => Touches.of_regs rfl rfl)
    exact (ht.trans h1).trans (tileTouch_toStore _ _)

theorem storeProbe_effect (s : State) (el : Nat) :
    Answers (.storeProbe el) s (fun now d e => d.inT6 now = true → d.on TPL.STORE_OK = false → d.rd TPL.STORE_ACT ≠ 3 →
      d.rd COV.FIELD_STATE ≠ 0 →
      (d.tpl.lastProbe + sec 1 ≤ now → d.tpl.lastFail.isSome = true → e.tpl.lastProbe = now) ∧
      (now < d.tpl.lastProbe + sec 1 → e = d)) := by
  refine answers_of_forall (f := fun now d => if d.inT6 now then d.probeCheck now else d) rfl (fun now d ht6 hok hact hfield => ?_)
  rw [if_pos ht6, Dev.probeCheck_eq]
  refine ⟨fun hdue hfail => ?_, fun hearly => if_pos (by simp [hearly])⟩
  rw [if_neg (by simp [hok, hact, hfield]; omega)]
  have htile : d.probeTile ≠ none := by
    unfold Dev.probeTile
    split
    · simp
    · exact Option.isSome_iff_ne_none.mp hfail
  obtain ⟨⟨layer, tx, ty⟩, hsome⟩ := Option.ne_none_iff_exists'.mp htile
  rw [hsome]
  exact (tileTouch_probeFor _ now layer tx ty).lastProbe

theorem provisionalRerequest_effect (s : State) (el : Nat) (i : Fin 416) :
    Answers (.provisionalRerequest el i) s (fun now d e => d.inT6 now = true → d.reqsOut < d.fetchMax →
      (d.slot i.val).st = .provisional → (d.slot i.val).req = none → d.on TPL.STORE_OK = true → (d.slot i.val).provAsk + sec 1 ≤ now →
      ∃ q, (e.slot i.val).req = some q ∧ q.tries = 0 ∧ q.isPut = false ∧ q.sentAt = now) := by
  refine answers_of_forall (f := fun now d => if d.inT6 now then d.reRequest now i.val else d) rfl
    (fun now d ht6 hroom hst hreq hok hdue => ?_)
  have hask : d.reRequest now i.val = d.askHome now i.val := if_pos (by simp [hst, hreq, hok, hdue])
  rw [if_pos ht6, hask, Dev.askHome, if_pos hroom, d.slot_sendReq_self now 0 (by simp [hst])]
  exact ⟨_, rfl, rfl, rfl, rfl⟩

/-- Settles O20, command by command. -/
theorem tilePinsAndStoreTimers : Obligations.TilePinsAndStoreTimers := by
  unfold Obligations.TilePinsAndStoreTimers
  refine ⟨fun s el => ⟨tilePin_effect s el, ?_, ?_⟩, fun s el => ⟨tileWriteback_effect s el, reqTimeout_effect s el, reqTimeout_early s el,
    storeProbe_effect s el, provisionalRerequest_effect s el⟩⟩
  · exact answers_of_forall (f := fun now d => if d.hif.inService then d.pinCmd now 2 else d) rfl (fun now d hsvc => if_pos hsvc)
  · exact answers_of_forall (f := fun now d => if d.hif.inService then d.pinCmd now 3 else d) rfl (fun now d hsvc => if_pos hsvc)

end Sys2Proof.Machine
end

section
/-! PROOFS. Messages of the tile store. -/
namespace Sys2Proof.Machine

/-! ### A message's way to the tile it names -/

theorem Dev.tileMsgRx_of_own {d : Dev} {m : TileMsgIn} (now : Nat) (h : m.port = 0 → ∀ x ∈ d.pair.fwd, x.1 ≠ m.tag) :
    d.tileMsgRx now m = if d.edgePassed now then { d with tpl := { d.tpl with inbox := d.tpl.inbox ++ [m] } } else d.tileMsg now m := by
  have hback : (if m.port = 0 then d.tileBack m else (false, d)) = (false, d) := by
    split
    · have hnone : d.pair.fwd.find? (fun x => x.1 == m.tag) = none := List.find?_eq_none.mpr fun x hx => by simpa using h ‹_› x hx
      rw [Dev.tileBack, hnone]
    · rfl
  unfold Dev.tileMsgRx
  dsimp only
  rw [hback]
  exact if_neg Bool.false_ne_true

theorem Dev.tileMsgRx_of_inT6 {d : Dev} {m : TileMsgIn} {now : Nat} (ht6 : d.inT6 now = true) (hport : m.port ≠ 0) :
    d.tileMsgRx now m = d.tileMsg now m := by
  rw [Dev.tileMsgRx_of_own now (fun h => absurd h hport), if_neg]
  simp only [Dev.inT6, Bool.and_eq_true, Bool.not_eq_true'] at ht6
  simp [ht6.2]

theorem Dev.ticking_of_inT6 {d : Dev} {now : Nat} (ht6 : d.inT6 now = true) : d.ticking = true := by
  simp only [Dev.inT6, Bool.and_eq_true] at ht6
  exact ht6.1

theorem Dev.probeSlot_of_none {d : Dev} {m : TileMsgIn} (now : Nat) (h : ∀ x ∈ d.tpl.probes, x.1 ≠ m.tag) : d.probeSlot now m = d := by
  have hnone : d.tpl.probes.find? (fun x => x.1 == m.tag) = none := List.find?_eq_none.mpr fun x hx => by simpa using h x hx
  rw [Dev.probeSlot, hnone]

theorem Dev.storeAnswered_of_ok {d : Dev} (now : Nat) (hok : d.on TPL.STORE_OK = true) : d.storeAnswered now = d :=
  if_neg (by simp [hok])

/-- A message acts at once before a tick edge has passed, and waits for T6 after it. -/
theorem tileMessage_waits {i : Instr} {s : State} {k : TileMsgIn}
    (hrun : exec i s = s.run i.elapsed (fun now d => if d.ticking then d.tileMsgRx now k else d)) :
    Answers i s (fun now d e => d.ticking = true → (k.port = 0 → ∀ x ∈ d.pair.fwd, x.1 ≠ k.tag) →
      (d.edgePassed now = true → e = { d with tpl := { d.tpl with inbox := d.tpl.inbox ++ [k] } }) ∧
      (d.edgePassed now = false → e = d.tileMsg now k)) := by
  refine answers_of_forall hrun (fun now d htick hown => ?_)
  rw [if_pos htick, Dev.tileMsgRx_of_own now hown]
  exact ⟨fun h => if_pos h, fun h => if_neg (ne_true_of_eq_false h)⟩

/-! ### Content -/

/-- Loading gives a slot its fill value and its cells. -/
theorem Slot.load_eq (s : Slot) (rs : List (Nat × Nat)) : ∃ fill cells, s.load rs = { s with fill := fill, cells := cells } := by
  unfold Slot.load
  split
  · exact ⟨_, _, rfl⟩
  · exact ⟨_, _, rfl⟩

theorem Dev.replay_of_no_entry {d : Dev} {i : Nat} (hst : (d.slot i).st ≠ .free)
    (hnone : ∀ j ∈ d.tpl.journal, ¬(j.tx = (d.slot i).tx ∧ j.ty = (d.slot i).ty)) :
    (d.replay i).1 = false ∧ ∀ n, (d.replay i).2.slot n = d.slot n := by
  have hmine : d.tpl.journal.filter (fun e => e.tx == (d.slot i).tx && e.ty == (d.slot i).ty) = [] :=
    List.filter_eq_nil_iff.mpr fun j hj => by simpa using hnone j hj
  unfold Dev.replay
  extract_lets s mine good c s' x
  have hgood : good = [] := by
    show mine.filter _ = []
    rw [show mine = [] from hmine]
    rfl
  split
  · exact ⟨rfl, fun _ => rfl⟩
  · refine ⟨by rw [hgood]; rfl, fun n => ?_⟩
    have hs' : s' = d.slot i := by
      show good.foldl _ s = _
      rw [hgood]
      rfl
    have hslots : (x.add COV.PAINT_LOST (mine.length - good.length)).tpl.slots = (d.setSlot i (d.slot i)).tpl.slots := by
      show ((d.setSlot i s').setJournal _).tpl.slots = _
      rw [Dev.slots_setJournal, hs']
    rw [Dev.slot_congr hslots n]
    by_cases hn : n = i
    · rw [hn, d.slot_setSlot_self i hst]
    · exact d.slot_setSlot_ne _ hn

/-- The content of a LOADING tile is taken: the slot is CLEAN with it, no other slot changes, and FETCH_CNT counts. -/
theorem Dev.acceptTile_loading {d : Dev} (now gen : Nat) (rs : List (Nat × Nat)) {i : Nat} (hst : (d.slot i).st = .loading)
    (hheld : (d.slot i).heldUpd = none) (hnone : ∀ j ∈ d.tpl.journal, ¬(j.tx = (d.slot i).tx ∧ j.ty = (d.slot i).ty)) :
    TileTouch (d.bump TPL.FETCH_CNT) (d.acceptTile now i gen rs) ∧
      (d.acceptTile now i gen rs).slot i = { (d.slot i).load rs with st := .clean, gen := gen, req := none, heldUpd := none } ∧
      ∀ n, n ≠ i → (d.acceptTile now i gen rs).slot n = d.slot n := by
  obtain ⟨fill, cells, hload⟩ := (d.slot i).load_eq rs
  have hb : ∀ n, (d.bump TPL.FETCH_CNT).slot n = d.slot n := fun _ => rfl
  have hjnl : (d.bump TPL.FETCH_CNT).tpl.journal = d.tpl.journal := rfl
  unfold Dev.acceptTile
  dsimp only
  rw [hheld, if_neg (by simp [hst])]
  dsimp only
  generalize d.bump TPL.FETCH_CNT = b at hb hjnl ⊢
  generalize hs : d.slot i = s at hst hheld hnone hload ⊢
  have hclean : ({ s.load rs with st := .clean, gen := gen, req := none, heldUpd := none } : Slot).st ≠ .free := by simp
  have hplace : ({ s.load rs with st := .clean, gen := gen, req := none, heldUpd := none } : Slot).tx = s.tx ∧
      ({ s.load rs with st := .clean, gen := gen, req := none, heldUpd := none } : Slot).ty = s.ty := by rw [hload]; exact ⟨rfl, rfl⟩
  generalize ({ s.load rs with st := .clean, gen := gen, req := none, heldUpd := none } : Slot) = t at hclean hplace
  have hself := b.slot_setSlot_self i hclean
  have hne := fun n hn => b.slot_setSlot_ne (i := i) (n := n) t hn
  have htouch := tileTouch_setSlot b i t
  have hj : (b.setSlot i t).tpl.journal = d.tpl.journal := hjnl
  generalize b.setSlot i t = y at hself hne htouch hj ⊢
  obtain ⟨hfalse, hsame⟩ := Dev.replay_of_no_entry (d := y) (i := i) (by rw [hself]; exact hclean)
    (by rw [hself, hj, hplace.1, hplace.2]; exact hnone)
  rw [if_neg (by simp [hfalse])]
  exact ⟨htouch.trans (tileTouch_replay y i), (hsame i).trans hself, fun n hn => ((hsame n).trans (hne n hn)).trans (hb n)⟩

/-- What content `rs` for the tile of slot `i` does: it is taken where tile, field and TILE_CRC are right, and else counts as unanswered. -/
def Dev.tileContent (d : Dev) (now : Nat) (m : TileMsgIn) (i : Nat) (x : Slot) (rs : List (Nat × Nat)) : Dev :=
  if d.matchesSlot m x && crc32 (runBytes m.layer rs) == m.crc then (d.acceptTile now i m.gen rs).storeAnswered now else d.reqTimedOut now i

/-- A message that names a request for content is content of its tile. -/
theorem Dev.tileMsg_content {d : Dev} {m : TileMsgIn} {rs : List (Nat × Nat)} {i : Nat} {x : Slot} {r : TileReq} (now : Nat)
    (hcontent : m.type = 2 ∧ contentRuns m.layer (bitOf m.flags 0) m.payload = some rs ∨
      m.type = 3 ∧ rs = [(bitsOf m.flags 4 4, tileCells)])
    (htag : m.tag ≠ 0) (hprobe : ∀ x ∈ d.tpl.probes, x.1 ≠ m.tag) (hslot : d.slotOfTag m.tag = some (i, x)) (hreq : x.req = some r)
    (hget : r.isPut = false) : d.tileMsg now m = d.tileContent now m i x rs := by
  unfold Dev.tileMsg
  rw [if_neg (by simp [htag]), Dev.probeSlot_of_none now hprobe]
  simp only [hslot, hreq, Option.map_some, Option.getD_some, hget]
  obtain ⟨htype, hruns⟩ | ⟨htype, rfl⟩ := hcontent
  · simp only [htype, hruns]
    rfl
  · simp only [htype]
    rfl

theorem Dev.slot_of_content {d : Dev} {m : TileMsgIn} {rs : List (Nat × Nat)} {n : Nat} {x : Slot} {r : TileReq} (now : Nat)
    (hslot : d.slot n = x) (hreq : x.req = some r) (hget : r.isPut = false) (hst : x.st = .loading) (hok : d.on TPL.STORE_OK = true) :
    (d.matchesSlot m x = true → crc32 (runBytes m.layer rs) = m.crc → x.heldUpd = none →
      (∀ j ∈ d.tpl.journal, ¬(j.tx = x.tx ∧ j.ty = x.ty)) →
      (d.tileContent now m n x rs).slot n = { x.load rs with st := .clean, gen := m.gen, req := none, heldUpd := none } ∧
      (d.tileContent now m n x rs).rd TPL.FETCH_CNT = counted d TPL.FETCH_CNT ∧
      (∀ l, l ≠ n → (d.tileContent now m n x rs).slot l = d.slot l)) ∧
    ((d.matchesSlot m x = false ∨ crc32 (runBytes m.layer rs) ≠ m.crc) → r.tries < d.rd TPL.RETRY_MAX →
      ((d.tileContent now m n x rs).slot n).req = some { tag := r.tag, tries := r.tries + 1, sentAt := now, isPut := false } ∧
      ((d.tileContent now m n x rs).slot n).st = .loading) := by
  subst hslot
  unfold Dev.tileContent
  refine ⟨fun hmatch hcrc hheld hnone => ?_, fun hwrong hlt => ?_⟩
  · rw [if_pos (by simp [hmatch, hcrc])]
    obtain ⟨htouch, hself, hothers⟩ := Dev.acceptTile_loading now m.gen rs hst hheld hnone
    generalize d.acceptTile now n m.gen rs = e at htouch hself hothers
    have hokE : e.on TPL.STORE_OK = true := by
      rw [Dev.on, htouch.rd TPL.STORE_OK, Dev.rd_bump_ne _ (by decide)]
      exact hok
    rw [Dev.storeAnswered_of_ok now hokE]
    exact ⟨hself, (htouch.rd TPL.FETCH_CNT).trans (Dev.rd_bump_self _ _), hothers⟩
  · rw [if_neg (by rcases hwrong with h | h <;> simp [h]), Dev.reqTimedOut_of_req now hreq hok, if_pos hlt,
      if_neg (ne_true_of_eq_false hget), d.slot_sendReq_self now _ (by simp [hst]), Dev.askedSlot_of_req now _ hreq hget]
    exact ⟨rfl, hst⟩

/-! ### Acknowledgements and refusals -/

theorem Dev.tileMsg_of_no_slot {d : Dev} {m : TileMsgIn} (now : Nat) (htype : m.type ≠ 2) (hprobe : ∀ x ∈ d.tpl.probes, x.1 ≠ m.tag)
    (hslot : d.slotOfTag m.tag = none) : d.tileMsg now m = d := by
  unfold Dev.tileMsg
  rw [if_neg (by simp [htype]), Dev.probeSlot_of_none now hprobe]
  simp only [hslot]

/-- The slot of an acknowledged put. -/
def Dev.putAcked (d : Dev) (i : Nat) (x : Slot) : Dev :=
  if x.painted then d.setSlot i { x with st := .dirty, req := none, evicting := false }
  else if x.evicting then d.setSlot i {}
  else d.setSlot i { x with st := .clean, req := none }

theorem Dev.tileMsg_ack {d : Dev} {m : TileMsgIn} {i : Nat} {x : Slot} {r : TileReq} (now : Nat) (htype : m.type = 5)
    (hprobe : ∀ x ∈ d.tpl.probes, x.1 ≠ m.tag) (hslot : d.slotOfTag m.tag = some (i, x)) (hreq : x.req = some r) (hput : r.isPut = true) :
    d.tileMsg now m = if m.gen == x.gen then
      ((((d.bump TPL.PUT_CNT).mirrorTile [x.layer + 2 ^ 16 * x.gen, ofS 16 x.tx + 2 ^ 16 * ofS 16 x.ty, x.crc, 0]).putAcked i x).storeAnswered now)
      else d := by
  unfold Dev.tileMsg
  rw [if_neg (by simp [htype]), Dev.probeSlot_of_none now hprobe]
  simp only [hslot, hreq, Option.map_some, Option.getD_some, hput, htype, Bool.true_and]
  rfl

theorem tileAck_effect (s : State) (el : Nat) (m : TileMsgIn) :
    Answers (.tileAck el m) s (fun now d e => d.inT6 now = true → m.port ≠ 0 → (∀ x ∈ d.tpl.probes, x.1 ≠ m.tag) →
      (d.slotOfTag m.tag = none → e = d) ∧
      (∀ n x r, d.slotOfTag m.tag = some (n, x) → x.req = some r → r.isPut = true →
        (m.gen ≠ x.gen → e = d) ∧
        (m.gen = x.gen → d.on TPL.STORE_OK = true →
          e.rd TPL.PUT_CNT = counted d TPL.PUT_CNT ∧ (∀ l, l ≠ n → e.slot l = d.slot l) ∧
          (x.painted = true → (e.slot n).st = .dirty ∧ (e.slot n).req = none) ∧
          (x.painted = false → x.evicting = true → e.slot n = {}) ∧
          (x.painted = false → x.evicting = false → (e.slot n).st = .clean ∧ (e.slot n).req = none ∧
            (e.slot n).fill = x.fill ∧ (e.slot n).cells = x.cells)))) := by
  refine answers_of_forall (f := fun now d => if d.ticking then d.tileMsgRx now { m with type := 5 } else d) rfl
    (fun now d ht6 hport hprobe => ?_)
  rw [if_pos (Dev.ticking_of_inT6 ht6), Dev.tileMsgRx_of_inT6 (m := { m with type := 5 }) ht6 hport]
  refine ⟨fun hnone => Dev.tileMsg_of_no_slot now (by simp) hprobe hnone, fun n x r hslot hreq hput => ?_⟩
  rw [Dev.tileMsg_ack (m := { m with type := 5 }) now rfl hprobe hslot hreq hput]
  refine ⟨fun hgen => if_neg (by simpa using hgen), fun hgen hok => ?_⟩
  rw [if_pos (by simpa using hgen)]
  generalize hy : (d.bump TPL.PUT_CNT).mirrorTile [x.layer + 2 ^ 16 * x.gen, ofS 16 x.tx + 2 ^ 16 * ofS 16 x.ty, x.crc, 0] = y
  have hyregs : y.regs = (d.bump TPL.PUT_CNT).regs := by
    rw [← hy, Dev.mirrorTile]
    split <;> rfl
  have hyslots : y.tpl.slots = d.tpl.slots := by
    rw [← hy, Dev.mirrorTile]
    split <;> rfl
  have hrd : ∀ f, (y.putAcked n x).rd f = (d.bump TPL.PUT_CNT).rd f := fun f => by
    have hregs : (y.putAcked n x).regs = y.regs := by
      unfold Dev.putAcked
      split
      · rfl
      split <;> rfl
    exact congrArg (fun g => (tget? g f.key).getD f.reset) (hregs.trans hyregs)
  have hokE : (y.putAcked n x).on TPL.STORE_OK = true := by
    rw [Dev.on, hrd, Dev.rd_bump_ne _ (by decide)]
    exact hok
  rw [Dev.storeAnswered_of_ok now hokE]
  refine ⟨(hrd _).trans (Dev.rd_bump_self _ _), fun l hl => ?_, fun hpaint => ?_, fun hpaint hevict => ?_, fun hpaint hevict => ?_⟩
  · have hput : ∀ z, (y.setSlot n z).slot l = d.slot l := fun z => (y.slot_setSlot_ne z hl).trans (Dev.slot_congr hyslots l)
    unfold Dev.putAcked
    split
    · exact hput _
    split
    · exact hput _
    · exact hput _
  · rw [Dev.putAcked, if_pos hpaint, y.slot_setSlot_self n (by simp)]
    exact ⟨rfl, rfl⟩
  · rw [Dev.putAcked, if_neg (ne_true_of_eq_false hpaint), if_pos hevict]
    exact y.slot_setSlot_free n
  · rw [Dev.putAcked, if_neg (ne_true_of_eq_false hpaint), if_neg (ne_true_of_eq_false hevict), y.slot_setSlot_self n (by simp)]
    exact ⟨rfl, rfl, rfl, rfl⟩

/-- What a refusal does to slot `i`. -/
def Dev.tileNaked (d : Dev) (now i : Nat) (x : Slot) (isPut : Bool) : Dev :=
  if isPut then d.reqTimedOut now i
  else if x.st = .loading then (d.makeProvisional i false).storeAnswered now
  else (d.setSlot i { x with req := none, provAsk := now }).storeAnswered now

theorem Dev.tileMsg_nak {d : Dev} {m : TileMsgIn} {i : Nat} {x : Slot} {r : TileReq} (now : Nat) (htype : m.type = 6)
    (hprobe : ∀ x ∈ d.tpl.probes, x.1 ≠ m.tag) (hslot : d.slotOfTag m.tag = some (i, x)) (hreq : x.req = some r) :
    d.tileMsg now m = (d.bump TPL.REQ_NAKS).tileNaked now i x r.isPut := by
  unfold Dev.tileMsg
  rw [if_neg (by simp [htype]), Dev.probeSlot_of_none now hprobe]
  simp only [hslot, hreq, Option.map_some, Option.getD_some, htype]
  rfl

theorem tileNak_effect (s : State) (el : Nat) (m : TileMsgIn) :
    Answers (.tileNak el m) s (fun now d e => d.inT6 now = true → m.port ≠ 0 → (∀ x ∈ d.tpl.probes, x.1 ≠ m.tag) →
      (d.slotOfTag m.tag = none → e = d) ∧
      (∀ n x r, d.slotOfTag m.tag = some (n, x) → d.slot n = x → x.req = some r → d.on TPL.STORE_OK = true →
        (r.isPut = false → e.rd TPL.REQ_NAKS = counted d TPL.REQ_NAKS ∧ (∀ l, l ≠ n → e.slot l = d.slot l)) ∧
        (r.isPut = false → x.st = .loading → (e.slot n).st = .provisional ∧ (e.slot n).req = none) ∧
        (r.isPut = false → x.st ≠ .loading → x.st ≠ .free → e.slot n = { x with req := none, provAsk := now }) ∧
        (r.isPut = true → r.tries < d.rd TPL.RETRY_MAX → x.bad = false →
          (e.slot n).req = some { tag := r.tag, tries := r.tries + 1, sentAt := now, isPut := true } ∧ (e.slot n).st = .writeback))) := by
  refine answers_of_forall (f := fun now d => if d.ticking then d.tileMsgRx now { m with type := 6 } else d) rfl
    (fun now d ht6 hport hprobe => ?_)
  rw [if_pos (Dev.ticking_of_inT6 ht6), Dev.tileMsgRx_of_inT6 (m := { m with type := 6 }) ht6 hport]
  refine ⟨fun hnone => Dev.tileMsg_of_no_slot now (by simp) hprobe hnone, fun n x r hslot hx hreq hok => ?_⟩
  rw [Dev.tileMsg_nak (m := { m with type := 6 }) now rfl hprobe hslot hreq]
  subst hx
  have hb : ∀ l, (d.bump TPL.REQ_NAKS).slot l = d.slot l := fun _ => rfl
  have hnaks : (d.bump TPL.REQ_NAKS).rd TPL.REQ_NAKS = counted d TPL.REQ_NAKS := Dev.rd_bump_self _ _
  have hok : (d.bump TPL.REQ_NAKS).on TPL.STORE_OK = true := by
    rw [Dev.on, Dev.rd_bump_ne _ (by decide)]
    exact hok
  have hmax : (d.bump TPL.REQ_NAKS).rd TPL.RETRY_MAX = d.rd TPL.RETRY_MAX := Dev.rd_bump_ne _ (by decide)
  generalize d.bump TPL.REQ_NAKS = b at hb hnaks hok hmax
  have hans : ∀ e, TileTouch b e → e.storeAnswered now = e := fun e he => by
    refine Dev.storeAnswered_of_ok now ?_
    rw [Dev.on, he.rd TPL.STORE_OK]
    exact hok
  unfold Dev.tileNaked
  refine ⟨fun hget => ?_, fun hget hst => ?_, fun hget hst hfree => ?_, fun hput hlt hbad => ?_⟩
  · rw [if_neg (ne_true_of_eq_false hget)]
    split
    · rw [hans _ (tileTouch_makeProvisional b n false)]
      exact ⟨((tileTouch_makeProvisional b n false).rd TPL.REQ_NAKS).trans hnaks,
        fun l hl => ((b.slot_makeProvisional n false).2.2 l hl).trans (hb l)⟩
    · rw [hans _ (tileTouch_setSlot b n _)]
      exact ⟨hnaks, fun l hl => (b.slot_setSlot_ne _ hl).trans (hb l)⟩
  · rw [if_neg (ne_true_of_eq_false hget), if_pos hst, hans _ (tileTouch_makeProvisional b n false)]
    exact ⟨(b.slot_makeProvisional n false).1, (b.slot_makeProvisional n false).2.1⟩
  · rw [if_neg (ne_true_of_eq_false hget), if_neg hst, hans _ (tileTouch_setSlot b n _)]
    exact b.slot_setSlot_self n hfree
  · rw [← hb n] at hreq hbad
    rw [if_pos hput, Dev.reqTimedOut_of_req now hreq hok, hmax, if_pos hlt, if_pos hput, b.slot_sendPut_self now _ _ hbad]
    exact ⟨Dev.putSlot_of_req now _ _ hreq hput, rfl⟩

/-! ### Boundary updates -/

theorem boundaryUpdate_effect (s : State) (el : Nat) (m : TileMsgIn) :
    Answers (.boundaryUpdate el m) s (fun now d e => d.inT6 now = true → m.port ≠ 0 →
      (contentRuns 0 (bitOf m.flags 0) m.payload = none → e = d) ∧
      (∀ rs, contentRuns 0 (bitOf m.flags 0) m.payload = some rs →
        ((m.layer ≠ 0 ∨ m.field ≠ d.rd COV.FIELD_ID_ACT ∨ crc32 (runBytes 0 rs) ≠ m.crc ∨ d.findSlot 0 m.tx m.ty = none) → e = d) ∧
        (m.layer = 0 → m.field = d.rd COV.FIELD_ID_ACT → crc32 (runBytes 0 rs) = m.crc →
          ∀ n x, d.findSlot 0 m.tx m.ty = some (n, x) →
            (x.st = .loading → e.slot n = { x with heldUpd := some rs }) ∧
            (x.st ≠ .loading → x.st ≠ .free → e.slot n = x.applyBits rs) ∧ (∀ l, l ≠ n → e.slot l = d.slot l) ∧
            e = { d with tpl := { d.tpl with slots := e.tpl.slots } }))) := by
  refine answers_of_forall (f := fun now d => if d.ticking then
    d.tileMsgRx now { m with type := 2, tag := 0, flags := setBitOf m.flags 1 true } else d) rfl (fun now d ht6 hport => ?_)
  have hbit : bitOf (setBitOf m.flags 1 true) 1 = true := bitOf_setBitOf_self m.flags 1
  have hcomp : bitOf (setBitOf m.flags 1 true) 0 = bitOf m.flags 0 := by
    unfold setBitOf
    split
    · rfl
    · have hmod : (m.flags + 2) % 2 = m.flags % 2 := by omega
      simp [bitOf, hmod]
  rw [if_pos (Dev.ticking_of_inT6 ht6), Dev.tileMsgRx_of_inT6 (m := { m with type := 2, tag := 0, flags := setBitOf m.flags 1 true }) ht6 hport, Dev.tileMsg, if_pos (by simp [hbit]), Dev.boundary, hcomp]
  refine ⟨fun hnone => by simp only [hnone], fun rs hrs => ?_⟩
  simp only [hrs]
  refine ⟨fun hwrong => ?_, fun hlayer hfield hcrc n x hfind => ?_⟩
  · by_cases hnot : m.layer ≠ 0 ∨ m.field ≠ d.rd COV.FIELD_ID_ACT ∨ crc32 (runBytes 0 rs) ≠ m.crc
    · exact if_pos (by simpa [or_assoc] using hnot)
    · push Not at hnot
      rw [if_neg (by simp [hnot.1, hnot.2.1, hnot.2.2])]
      obtain ⟨h1, h2, h3⟩ := hnot
      simp only [h1, h2, h3, ne_eq, not_true_eq_false, false_or] at hwrong
      simp only [hwrong]
  · rw [if_neg (by simp [hlayer, hfield, hcrc])]
    simp only [hfind]
    refine ⟨fun hst => ?_, fun hst hfree => ?_, fun l hl => ?_, ?_⟩
    · rw [if_pos hst]
      exact d.slot_setSlot_self n (by simp [hst])
    · rw [if_neg hst]
      exact d.slot_setSlot_self n hfree
    · split
      · exact d.slot_setSlot_ne _ hl
      · exact d.slot_setSlot_ne _ hl
    · split <;> rfl

/-- Settles O21, command by command. -/
theorem tileMessages : Obligations.TileMessages := by
  unfold Obligations.TileMessages
  refine fun s el m => ⟨fun i k hik => ?_, fun i rs hi => ?_, tileAck_effect s el m, tileNak_effect s el m, boundaryUpdate_effect s el m⟩
  · rcases hik with ⟨rfl, rfl⟩ | ⟨rfl, rfl⟩ | ⟨rfl, rfl⟩ | ⟨rfl, rfl⟩ | ⟨rfl, rfl⟩ <;> exact tileMessage_waits rfl
  · rcases hi with ⟨rfl, hruns⟩ | ⟨rfl, hruns⟩
    · refine answers_of_forall (f := fun now d => if d.ticking then d.tileMsgRx now { m with type := 2 } else d) rfl
        (fun now d ht6 hport htag hprobe n x r hslot hx hreq hget hst hok => ?_)
      rw [if_pos (Dev.ticking_of_inT6 ht6), Dev.tileMsgRx_of_inT6 (m := { m with type := 2 }) ht6 hport,
        Dev.tileMsg_content (m := { m with type := 2 }) now (.inl ⟨rfl, hruns⟩) htag hprobe hslot hreq hget]
      exact Dev.slot_of_content now hx hreq hget hst hok
    · refine answers_of_forall (f := fun now d => if d.ticking then d.tileMsgRx now { m with type := 3 } else d) rfl
        (fun now d ht6 hport htag hprobe n x r hslot hx hreq hget hst hok => ?_)
      rw [if_pos (Dev.ticking_of_inT6 ht6), Dev.tileMsgRx_of_inT6 (m := { m with type := 3 }) ht6 hport,
        Dev.tileMsg_content (m := { m with type := 3 }) now (.inr ⟨rfl, hruns⟩) htag hprobe hslot hreq hget]
      exact Dev.slot_of_content now hx hreq hget hst hok

end Sys2Proof.Machine
end

section
/-! PROOFS. A periodic start of a sensor port that comes after its instant. -/
namespace Sys2Proof.Machine

/-- A block, LIT, whose sensor port 0 is sampled periodically, 500 cycles after an instant of its period that no transfer has used. -/
def lateSensorPort : State :=
  { dt := 1000
    dev :=
      { regs := [((SSP.ROLE 0).key, 1), ((SSP.TRIG 0).key, 1)]
        sys := { gridOn := true, tEpoch := 500, nextN := 1, period := 1000000 }
        pwr := { st := .lit, mode := .plain, stage := .none } } }

/-- The transfer that starts fell at the instant of the period, and not when the command comes. -/
theorem running_lateSensorPort :
    ∃ t, exec (.sspPeriodicStart 0 0) lateSensorPort = .next t ∧ ((t.dev.sspPort 0).running.map SspTxn.start) = some 500 :=
  ⟨_, rfl, by decide⟩

/-- Refutes O23: a transfer that a periodic start begins starts at the instant of its period, so where the command comes after that
instant, and the port has been idle, it does not start at the command's instant as the statement says. -/
theorem not_sensorPortsAndPoseCommands : ¬ Obligations.SensorPortsAndPoseCommands := by
  unfold Obligations.SensorPortsAndPoseCommands
  intro h
  obtain ⟨-, ⟨t, hexec, hdt, -, hanswer⟩, -⟩ := h.1 lateSensorPort 0 0
  obtain ⟨t', hexec', hstart⟩ := running_lateSensorPort
  obtain rfl := Host.Outcome.next.inj (hexec.symm.trans hexec')
  have hnow : t.dt = 1000 := hdt
  rw [hnow] at hanswer
  obtain ⟨hbegins, -⟩ := hanswer (by decide) (by decide) (by decide) (by decide) (by decide) (by decide)
  obtain ⟨x, hx, hxstart, -⟩ := hbegins (by decide)
  have hrun : (t.dev.sspPort 0).running = some x := by
    rw [Dev.sspPort, congrArg Dev.ssp hx]
    simp only [Fin.coe_ofNat_eq_mod, Nat.zero_mod, tget_tmod_self]
  rw [hrun] at hstart
  have h500 : x.start = 500 := Option.some.inj hstart
  rw [h500] at hxstart
  exact absurd hxstart (by decide)

end Sys2Proof.Machine
end

section
/-! PROOFS. The time unit: status, step and slew, the GPS map and the time pulse. -/
namespace Sys2Proof.Machine

/-! ### What the operations of the time unit leave as it was -/

/-- The block without registers, recorder and time unit. -/
def Dev.sansTime (d : Dev) : Dev := { d with regs := [], evh := {}, rec_ := {}, time := {} }

/-- An operation of the time unit. -/
abbrev TimeTouch (d e : Dev) : Prop := Touches [(0x036000, 0x037000)] Dev.sansTime d e

theorem timeTouch_time (d : Dev) (t : TimeBlk) : TimeTouch d { d with time := t } := Touches.of_regs rfl rfl

/-- The time pulse starts anew when the time leaves INVALID, or a FREERUN that stopped it. -/
def Dev.tpoRestarted (d : Dev) (now : Nat) : Dev :=
  if d.rd TIME.TIME_STATUS = 3 || (d.rd TIME.TIME_STATUS = 2 && d.on TIME.TPO_STOP_FREERUN) then
    { d with time := { d.time with tpoFrom := now } } else d

theorem Dev.setTimeStatus_eq (d : Dev) (now st : Nat) :
    d.setTimeStatus now st = if d.rd TIME.TIME_STATUS = st then d
      else ((d.tpoRestarted now).wr TIME.TIME_STATUS st).fire now EVT.TIME_STATUS 0 st := rfl

theorem timeTouch_setTimeStatus (d : Dev) (now st : Nat) : TimeTouch d (d.setTimeStatus now st) := by
  rw [Dev.setTimeStatus_eq]
  refine Touches.ite (fun _ => Touches.refl d) (fun _ => ?_)
  have hx : TimeTouch d (d.tpoRestarted now) := Touches.opt (timeTouch_time d _)
  exact (hx.trans (Touches.wr _ TIME.TIME_STATUS _ (by decide) (by rfl))).trans (Touches.fire _ _ _ _ _ (by intros; rfl))

/-- TIME_STATUS after it was set: a change raises its event, and the pulse may start anew. -/
theorem Dev.setTimeStatus_spec (d : Dev) (now : Nat) {st : Nat} (hst : st < 4) :
    (d.setTimeStatus now st).rd TIME.TIME_STATUS = st ∧
      (d.rd TIME.TIME_STATUS ≠ st → (d.setTimeStatus now st).raised EVT.TIME_STATUS 0 = true) ∧
      (∃ t, (d.setTimeStatus now st).time = { d.time with tpoFrom := t }) ∧
      ∀ f : Field, f.lo < 32 → f.ofEvents = false → TIME.TIME_STATUS.key ≠ f.key → (d.setTimeStatus now st).rd f = d.rd f := by
  have hrd : ∀ f, (d.tpoRestarted now).rd f = d.rd f := fun f => by
    unfold Dev.tpoRestarted
    split <;> rfl
  have htime : ∃ t, (d.tpoRestarted now).time = { d.time with tpoFrom := t } := by
    unfold Dev.tpoRestarted
    split
    · exact ⟨now, rfl⟩
    · exact ⟨d.time.tpoFrom, rfl⟩
  rw [Dev.setTimeStatus_eq]
  split
  · exact ⟨‹_›, fun h => absurd ‹_› h, ⟨d.time.tpoFrom, rfl⟩, fun _ _ _ _ => rfl⟩
  · refine ⟨?_, fun _ => Dev.raised_fire _ _ _ _ _ (by decide) (by decide), ?_, fun f hlo hev hf => ?_⟩
    · rw [Dev.rd_fire_of _ _ _ _ _ (by decide) (by decide), Dev.rd_wr_self]
      exact Nat.mod_eq_of_lt hst
    · obtain ⟨t, ht⟩ := htime
      exact ⟨t, (congrArg Dev.time (fire_quiet _ _ _ _ _).1 :).trans ht⟩
    · rw [Dev.rd_fire_of _ _ _ _ _ hlo hev, Dev.rd_wr_ne _ _ hf, hrd]

/-- From GNSS or HOLDOVER to another status, the pulse goes on. -/
theorem Dev.setTimeStatus_of_valid (d : Dev) (now : Nat) {st : Nat} (hne : d.rd TIME.TIME_STATUS ≠ st) (hwas : d.rd TIME.TIME_STATUS < 2) :
    d.setTimeStatus now st = (d.wr TIME.TIME_STATUS st).fire now EVT.TIME_STATUS 0 st := by
  rw [Dev.setTimeStatus_eq, if_neg hne, Dev.tpoRestarted, if_neg (by simp; omega)]

/-! ### Holdover and freerun -/

theorem Dev.holdoverCheck_of_base {d : Dev} {now b : Nat} (hb : d.time.base = some b) :
    d.holdoverCheck now = if d.rd TIME.TIME_STATUS = 0 && decide (b + sec 2 ≤ now) then
      ((({ d with time := { d.time with
        map := .through (nsOf b) d.time.baseGps d.time.freqRate
        slew := 0
        slewNow := 0
        slewAt := nsOf b
        goodFrom := none } } : Dev).wr TIME.SLEWING 0).wr TIME.SLEW_REM 0).setTimeStatus now 1 else d := by
  simp only [Dev.holdoverCheck, hb]

theorem holdover_effect (s : State) (el : Nat) :
    Answers (.holdover el) s (fun now d e => d.alive = true → d.rd TIME.TIME_STATUS = 0 → ∀ b, d.time.base = some b →
      (b + sec 2 ≤ now → e.rd TIME.TIME_STATUS = 1 ∧ e.rd TIME.SLEWING = 0 ∧ e.rd TIME.SLEW_REM = 0 ∧ e.time.slew = 0 ∧
        e.time.goodFrom = none ∧ bitOf (e.rd (HDR.PG_EVT_RAW 0x036000)) (EVT.TIME_STATUS - 92) = true) ∧
      (now < b + sec 2 → e = d)) := by
  refine answers_of_forall (f := fun now d => if d.alive then d.holdoverCheck now else d) rfl (fun now d hal hst b hb => ?_)
  rw [if_pos hal, Dev.holdoverCheck_of_base hb]
  refine ⟨fun hdue => ?_, fun hearly => if_neg (by simp [hst]; omega)⟩
  rw [if_pos (by simp [hst, hdue])]
  generalize hx : ({ d with time := { d.time with
        map := .through (nsOf b) d.time.baseGps d.time.freqRate
        slew := 0
        slewNow := 0
        slewAt := nsOf b
        goodFrom := none } } : Dev) = x
  have hxst : x.rd TIME.TIME_STATUS = 0 := by rw [← hx]; exact hst
  have htime : x.time.slew = 0 ∧ x.time.goodFrom = none := by rw [← hx]; exact ⟨rfl, rfl⟩
  obtain ⟨hnew, hraised, ⟨t, ht⟩, hkeep⟩ := ((x.wr TIME.SLEWING 0).wr TIME.SLEW_REM 0).setTimeStatus_spec now (st := 1) (by decide)
  refine ⟨hnew, ?_, ?_, ?_, ?_, hraised ?_⟩
  · rw [hkeep _ (by decide) (by decide) (by decide), Dev.rd_wr_ne _ _ (by decide), Dev.rd_wr_self]
    rfl
  · rw [hkeep _ (by decide) (by decide) (by decide), Dev.rd_wr_self]
    rfl
  · rw [ht]
    exact htime.1
  · rw [ht]
    exact htime.2
  · rw [Dev.rd_wr_ne _ _ (by decide), Dev.rd_wr_ne _ _ (by decide), hxst]
    decide

theorem freerun_effect (s : State) (el : Nat) :
    Answers (.freerun el) s (fun now d e => d.alive = true → d.rd TIME.TIME_STATUS = 1 →
      (∀ b, d.time.base = some b →
        (b + sec (max 1 (d.rd TIME.HOLDOVER_MAX)) < now → e.rd TIME.TIME_STATUS = 2 ∧ e.raised EVT.TIME_STATUS 0 = true ∧
          OnlyRegsAndEvents [TIME.TIME_STATUS] d e) ∧
        (now ≤ b + sec (max 1 (d.rd TIME.HOLDOVER_MAX)) → e = d)) ∧
      (d.time.base = none → e = d)) := by
  refine answers_of_forall (f := fun now d => if d.alive then d.freerunCheck now else d) rfl (fun now d hal hst => ?_)
  rw [if_pos hal]
  unfold Dev.freerunCheck
  refine ⟨fun b hb => ?_, fun hb => ?_⟩
  · simp only [hb]
    refine ⟨fun hpast => ?_, fun hin => if_neg (by simp [hst]; omega)⟩
    have hne : d.rd TIME.TIME_STATUS ≠ 2 := by omega
    rw [if_pos (by simp [hst, hpast])]
    obtain ⟨hnew, hraised, -, -⟩ := d.setTimeStatus_spec now (st := 2) (by decide)
    refine ⟨hnew, hraised hne, ?_⟩
    rw [d.setTimeStatus_of_valid now hne (by omega)]
    exact (OnlyRegs.wr d _ _ (by simp)).toOnlyRegsAndEvents.thenFire _ _ _ _
  · simp only [hb]
    exact if_neg (by simp)

/-! ### The return to GNSS: slew or step -/

/-- The map after a small error: it is slewed out from `now` on. -/
def Dev.slewFrom (d : Dev) (now l : Nat) : Dev :=
  let d := d.mapStands l
  let d := { d with time := { d.time with slew := d.time.err, slewAt := nsOf now } }
  { d with time := { d.time with
    map := .through (nsOf now) (d.time.map.gps (nsOf now)) (d.time.freqRate - 1000 * slewPart d.time.err)
    slewNow := slewPart d.time.err } }

theorem Dev.timeReturn_of_due {d : Dev} {now f l : Nat} (hf : d.time.goodFrom = some f) (hl : d.time.lastGood = some l)
    (hst : d.rd TIME.TIME_STATUS = 1 ∨ d.rd TIME.TIME_STATUS = 2) (hstep : d.time.stepDue = none) (hgood : f + sec 10 ≤ now)
    (hnew : now ≤ l + sec 2) :
    d.timeReturn now = if d.time.err.natAbs < 20000 then
        (((d.slewFrom now l).wrB TIME.SLEWING (decide (d.time.err ≠ 0))).wr TIME.SLEW_REM (satS 32 d.time.err)).setTimeStatus now 0
      else { d with time := { d.time with
        stepDue := some (d.time.err, (d.time.map.gps (nsOf now) - d.time.err) / 1000000000 + 1) } } := by
  unfold Dev.timeReturn
  rw [hf, hl]
  dsimp only
  rw [if_pos (by rcases hst with h | h <;> simp [h, hstep, hgood, hnew])]
  rfl

theorem timeReturn_effect (s : State) (el : Nat) :
    Answers (.timeReturn el) s (fun now d e => d.alive = true → (d.rd TIME.TIME_STATUS = 1 ∨ d.rd TIME.TIME_STATUS = 2) →
      d.time.stepDue = none → ∀ f l, d.time.goodFrom = some f → d.time.lastGood = some l → f + sec 10 ≤ now → now ≤ l + sec 2 →
      (d.time.err.natAbs < 20000 → e.rd TIME.TIME_STATUS = 0 ∧ e.time.slew = d.time.err ∧
        e.rd TIME.SLEWING = b2n (decide (d.time.err ≠ 0)) ∧ e.raised EVT.TIME_STATUS 0 = true) ∧
      (20000 ≤ d.time.err.natAbs → e.time.stepDue.isSome = true ∧ e = { d with time := { d.time with stepDue := e.time.stepDue } })) := by
  refine answers_of_forall (f := fun now d => if d.alive then d.timeReturn now else d) rfl
    (fun now d hal hst hstep f l hf hl hgood hnew => ?_)
  rw [if_pos hal, Dev.timeReturn_of_due hf hl hst hstep hgood hnew]
  refine ⟨fun hsmall => ?_, fun hlarge => ?_⟩
  · rw [if_pos hsmall]
    have hslew : (d.slewFrom now l).time.slew = d.time.err := rfl
    have hxst : (d.slewFrom now l).rd TIME.TIME_STATUS = d.rd TIME.TIME_STATUS := rfl
    generalize d.slewFrom now l = x at hslew hxst
    obtain ⟨hzero, hraised, ⟨t, ht⟩, hkeep⟩ :=
      ((x.wrB TIME.SLEWING (decide (d.time.err ≠ 0))).wr TIME.SLEW_REM (satS 32 d.time.err)).setTimeStatus_spec now (st := 0) (by decide)
    refine ⟨hzero, by rw [ht]; exact hslew, ?_, hraised ?_⟩
    · rw [hkeep _ (by decide) (by decide) (by decide), Dev.rd_wr_ne _ _ (by decide), Dev.rd_wrB_self _ _ _ rfl]
    · rw [Dev.rd_wr_ne _ _ (by decide), Dev.rd_wrB_ne _ _ (by decide), hxst]
      omega
  · rw [if_neg (by omega)]
    exact ⟨rfl, rfl⟩

/-- A step of the time is taken. -/
def Dev.stepTaken (d : Dev) (now : Nat) (x : Int) : Dev :=
  let l := d.time.lastGood.getD now
  let d := ({ d with time := { d.time with
    map := d.time.map.shift x
    stepDue := none
    slew := 0
    slewNow := 0
    slewAt := nsOf now } } : Dev).mapStands l
  (((d.wr TIME.STEP 1).wr TIME.STEP_SIZE (satS 32 x)).fire now EVT.TIME_STEP 0 0).setTimeStatus now 0

/-- A whole GPS second has begun: the rate of the time pulse that holds from it on. -/
def Dev.newSecond (d : Dev) (now : Nat) : Dev :=
  let s := d.time.map.gps (nsOf now) / 1000000000
  if d.rd TIME.TIME_STATUS ≠ 3 && decide (d.time.lastSec < s) then
    { d with time := { d.time with lastSec := s, tpoRate := d.rd TIME.TPO_RATE } }
  else d

/-- A step that is due is taken. -/
def Dev.stepCheck (d : Dev) (now : Nat) : Dev :=
  match d.time.stepDue with
  | none => d
  | some (x, q) => if q * 1000000000 ≤ (d.time.map.shift x).gps (nsOf now) then d.stepTaken now x else d

theorem Dev.gpsSecond_eq (d : Dev) (now : Nat) : d.gpsSecond now = (d.stepCheck now).newSecond now := rfl

theorem Dev.gpsSecond_of_no_step {d : Dev} {now : Nat} (h : d.time.stepDue = none) : d.gpsSecond now = d.newSecond now := by
  rw [Dev.gpsSecond_eq, Dev.stepCheck, h]

theorem Dev.gpsSecond_of_step {d : Dev} {now : Nat} {x q : Int} (h : d.time.stepDue = some (x, q))
    (hdue : q * 1000000000 ≤ (d.time.map.shift x).gps (nsOf now)) : d.gpsSecond now = (d.stepTaken now x).newSecond now := by
  have hcheck : d.stepCheck now = d.stepTaken now x := by
    rw [Dev.stepCheck, h]
    exact if_pos hdue
  rw [Dev.gpsSecond_eq, hcheck]

theorem Dev.rd_newSecond (d : Dev) (now : Nat) (f : Field) : (d.newSecond now).rd f = d.rd f := by
  unfold Dev.newSecond
  dsimp only
  split <;> rfl

theorem Dev.stepDue_newSecond (d : Dev) (now : Nat) : (d.newSecond now).time.stepDue = d.time.stepDue := by
  unfold Dev.newSecond
  dsimp only
  split <;> rfl

theorem Dev.stepTaken_spec (d : Dev) (now : Nat) (x : Int) :
    (d.stepTaken now x).rd TIME.STEP = 1 ∧ (d.stepTaken now x).rd TIME.STEP_SIZE = satS 32 x % 2 ^ 32 ∧
      (d.stepTaken now x).rd TIME.TIME_STATUS = 0 ∧ (d.stepTaken now x).time.stepDue = none ∧
      (d.stepTaken now x).raised EVT.TIME_STEP 0 = true := by
  unfold Dev.stepTaken
  extract_lets l _ y
  have hy : y.time.stepDue = none := rfl
  clear_value y
  generalize hz : ((y.wr TIME.STEP 1).wr TIME.STEP_SIZE (satS 32 x)).fire now EVT.TIME_STEP 0 0 = z
  have hstep : z.rd TIME.STEP = 1 := by
    rw [← hz, Dev.rd_fire_of _ _ _ _ _ (by decide) (by decide), Dev.rd_wr_ne _ _ (by decide), Dev.rd_wr_self]
    rfl
  have hsize : z.rd TIME.STEP_SIZE = satS 32 x % 2 ^ 32 := by
    rw [← hz, Dev.rd_fire_of _ _ _ _ _ (by decide) (by decide), Dev.rd_wr_self]
    rfl
  have hraised : z.raised EVT.TIME_STEP 0 = true := by
    rw [← hz]
    exact Dev.raised_fire _ _ _ _ _ (by decide) (by decide)
  have hdue : z.time.stepDue = none := by
    rw [← hz]
    exact (congrArg (fun w : Dev => w.time.stepDue) (fire_quiet _ _ _ _ _).1 :).trans hy
  obtain ⟨hzero, -, ⟨t, ht⟩, hkeep⟩ := z.setTimeStatus_spec now (st := 0) (by decide)
  refine ⟨(hkeep _ (by decide) (by decide) (by decide)).trans hstep, (hkeep _ (by decide) (by decide) (by decide)).trans hsize, hzero, ?_,
    (timeTouch_setTimeStatus z now 0).raw.raised (by decide) hraised⟩
  rw [ht]
  exact hdue

theorem nextWholeGpsSecond_effect (s : State) (el : Nat) :
    Answers (.nextWholeGpsSecond el) s (fun now d e => d.alive = true →
      (d.time.stepDue = none → d.rd TIME.TIME_STATUS ≠ 3 → d.time.lastSec < d.time.map.gps (nsOf now) / 1000000000 →
        e = { d with time := { d.time with lastSec := d.time.map.gps (nsOf now) / 1000000000, tpoRate := d.rd TIME.TPO_RATE } }) ∧
      (∀ x q, d.time.stepDue = some (x, q) → q * 1000000000 ≤ (d.time.map.shift x).gps (nsOf now) →
        e.rd TIME.STEP = 1 ∧ e.rd TIME.STEP_SIZE = satS 32 x % 2 ^ 32 ∧ e.rd TIME.TIME_STATUS = 0 ∧ e.time.stepDue = none ∧
        bitOf (e.rd (HDR.PG_EVT_RAW 0x036000)) (EVT.TIME_STEP - 92) = true)) := by
  refine answers_of_forall (f := fun now d => if d.alive then d.gpsSecond now else d) rfl (fun now d hal => ?_)
  rw [if_pos hal]
  refine ⟨fun hnone hst hsec => ?_, fun x q hdue hcome => ?_⟩
  · rw [Dev.gpsSecond_of_no_step hnone]
    exact if_pos (by simp [hst, hsec])
  · rw [Dev.gpsSecond_of_step hdue hcome]
    obtain ⟨hstep, hsize, hst, hnone, hraised⟩ := d.stepTaken_spec now x
    rw [Dev.rd_newSecond, Dev.rd_newSecond, Dev.rd_newSecond, Dev.rd_newSecond, Dev.stepDue_newSecond]
    exact ⟨hstep, hsize, hst, hnone, hraised⟩

theorem leapSecond_effect (s : State) (el : Nat) :
    Answers (.leapSecond el) s (fun now d e => d.alive = true → d.rd TIME.TIME_STATUS ≠ 3 → ∀ q v, d.time.leap = some (q, v) →
      (q * 1000000000 ≤ d.time.map.gps (nsOf now) →
        e.rd TIME.LEAP_SEC = v % 2 ^ TIME.LEAP_SEC.width ∧ e.rd TIME.LEAP_PENDING = 0 ∧ e.time = { d.time with leap := none } ∧
        bitOf (e.rd (HDR.PG_EVT_RAW 0x036000)) (EVT.TIME_LEAP - 92) = true) ∧
      (d.time.map.gps (nsOf now) < q * 1000000000 → e = d)) := by
  refine answers_of_forall (f := fun now d => if d.alive then d.leapCheck now else d) rfl (fun now d hal hst q v hleap => ?_)
  rw [if_pos hal]
  unfold Dev.leapCheck
  simp only [hleap]
  refine ⟨fun hdue => ?_, fun hearly => if_neg (by simp [hst]; omega)⟩
  rw [if_pos (by simp [hst, hdue])]
  refine ⟨?_, ?_, (congrArg Dev.time (fire_quiet _ _ _ _ _).1 :), Dev.raised_fire _ now EVT.TIME_LEAP 0 0 (by decide) (by decide)⟩
  · rw [Dev.rd_fire_of _ _ _ _ _ (by decide) (by decide), Dev.rd_wr_ne _ _ (by decide), Dev.rd_wr_self]
  · rw [Dev.rd_fire_of _ _ _ _ _ (by decide) (by decide), Dev.rd_wr_self]
    rfl

/-! ### The GPS map -/

/-- The map of the time after one re-anchoring. -/
def TimeBlk.reanchored (t : TimeBlk) : TimeBlk :=
  let a := t.map.dt + 1000000000
  let rem := t.slew - t.slewNow * ((a - t.slewAt : Nat) : Int) / 1000000000
  { t with
    map := .through a (t.map.gps a) (t.freqRate - 1000 * slewPart rem)
    slew := rem
    slewAt := a
    slewNow := slewPart rem }

theorem Dev.reanchor1_eq (d : Dev) :
    d.reanchor1 = if d.on TIME.SLEWING then
      (({ d with time := d.time.reanchored } : Dev).wr TIME.SLEW_REM (satS 32 d.time.reanchored.slew)).wrB TIME.SLEWING
        (decide (d.time.reanchored.slew ≠ 0)) else { d with time := d.time.reanchored } := rfl

theorem Dev.time_reanchor1 (d : Dev) : d.reanchor1.time = d.time.reanchored := by
  rw [Dev.reanchor1_eq]
  split <;> rfl

theorem Dev.reanchor1_onlyRegs (d : Dev) : OnlyRegs [TIME.SLEWING, TIME.SLEW_REM] { d with time := d.time.reanchored } d.reanchor1 := by
  rw [Dev.reanchor1_eq]
  split
  · exact (OnlyRegs.wr (fs := [TIME.SLEWING, TIME.SLEW_REM]) _ TIME.SLEW_REM _ (by simp)).thenWr (f := TIME.SLEWING) (by simp) _
  · exact OnlyRegs.refl _ _

theorem Dev.status_reanchor1 (d : Dev) : d.reanchor1.rd TIME.TIME_STATUS = d.rd TIME.TIME_STATUS := d.reanchor1_onlyRegs.2 _ (by decide)

theorem Dev.reanchor_of_due {d : Dev} {now : Nat} (fuel : Nat) (hst : d.rd TIME.TIME_STATUS ≠ 3)
    (hdue : d.time.map.dt + 1000000000 ≤ nsOf now) : Dev.reanchor (fuel + 1) d now = Dev.reanchor fuel d.reanchor1 now := by
  rw [Dev.reanchor, if_pos (by simp [hst, hdue])]

theorem Dev.reanchor_of_current {d : Dev} {now : Nat} (fuel : Nat)
    (h : d.rd TIME.TIME_STATUS = 3 ∨ nsOf now < d.time.map.dt + 1000000000) : Dev.reanchor fuel d now = d := by
  cases fuel with
  | zero => rfl
  | succ fuel =>
    refine if_neg ?_
    simp only [Bool.and_eq_true, decide_eq_true_eq]
    omega

/-- With fuel for its seconds, the map ends less than a second behind. -/
theorem Dev.reanchor_reaches (now fuel : Nat) (d : Dev) (hst : d.rd TIME.TIME_STATUS ≠ 3) (hfrom : d.time.map.dt ≤ nsOf now)
    (hto : nsOf now < d.time.map.dt + (fuel + 1) * 1000000000) :
    (Dev.reanchor fuel d now).time.map.dt ≤ nsOf now ∧ nsOf now < (Dev.reanchor fuel d now).time.map.dt + 1000000000 := by
  induction fuel generalizing d with
  | zero => exact ⟨hfrom, by simpa [Dev.reanchor] using hto⟩
  | succ fuel ih =>
    by_cases hdue : d.time.map.dt + 1000000000 ≤ nsOf now
    · rw [Dev.reanchor_of_due fuel hst hdue]
      have hdt : d.reanchor1.time.map.dt = d.time.map.dt + 1000000000 := by
        rw [Dev.time_reanchor1]
        rfl
      exact ih d.reanchor1 (d.status_reanchor1 ▸ hst) (by omega) (by omega)
    · rw [Dev.reanchor_of_current _ (.inr (by omega))]
      exact ⟨hfrom, by omega⟩

theorem mapReanchor_effect (s : State) (el : Nat) :
    Answers (.mapReanchor el) s (fun now d e => d.alive = true →
      (d.rd TIME.TIME_STATUS ≠ 3 → d.time.map.dt + 1000000000 ≤ nsOf now → nsOf now < d.time.map.dt + 2000000000 →
        ∀ rem, rem = d.time.slew - d.time.slewNow * ((d.time.map.dt + 1000000000 - d.time.slewAt : Nat) : Int) / 1000000000 →
          e.time.map.dt = d.time.map.dt + 1000000000 ∧ e.time.slew = rem ∧ e.time.slewNow = slewPart rem ∧
          e.time.map.rate = d.time.freqRate - 1000 * slewPart rem ∧
          (d.on TIME.SLEWING = true → e.rd TIME.SLEW_REM = satS 32 rem % 2 ^ 32 ∧ e.rd TIME.SLEWING = b2n (decide (rem ≠ 0))) ∧
          OnlyRegs [TIME.SLEWING, TIME.SLEW_REM] { d with time := e.time } e) ∧
      (d.rd TIME.TIME_STATUS ≠ 3 → d.time.map.dt ≤ nsOf now → nsOf now < d.time.map.dt + 65000000000 →
        e.time.map.dt ≤ nsOf now ∧ nsOf now < e.time.map.dt + 1000000000) ∧
      ((d.rd TIME.TIME_STATUS = 3 ∨ nsOf now < d.time.map.dt + 1000000000) → e = d)) := by
  refine answers_of_forall (f := fun now d => if d.alive then Dev.reanchor 64 d now else d) rfl (fun now d hal => ?_)
  rw [if_pos hal]
  refine ⟨fun hst hdue hone rem hrem => ?_, fun hst hfrom hto => Dev.reanchor_reaches now 64 d hst hfrom (by omega),
    fun h => Dev.reanchor_of_current 64 h⟩
  have hdt : d.reanchor1.time.map.dt = d.time.map.dt + 1000000000 := by
    rw [Dev.time_reanchor1]
    rfl
  have hslew : d.time.reanchored.slew = rem := hrem.symm
  rw [Dev.reanchor_of_due 63 hst hdue, Dev.reanchor_of_current 63 (.inr (by omega))]
  refine ⟨hdt, ?_, ?_, ?_, fun hon => ?_, ?_⟩
  · rw [Dev.time_reanchor1, hslew]
  · rw [Dev.time_reanchor1, ← hslew]
    rfl
  · rw [Dev.time_reanchor1, ← hslew]
    rfl
  · rw [Dev.reanchor1_eq, if_pos hon, hslew]
    refine ⟨?_, Dev.rd_wrB_self _ _ _ rfl⟩
    rw [Dev.rd_wrB_ne _ _ (by decide), Dev.rd_wr_self]
    rfl
  · rw [Dev.time_reanchor1]
    exact d.reanchor1_onlyRegs

theorem mapSnap_effect (s : State) (el : Nat) :
    Answers (.mapSnap el) s (fun _ d e => d.hif.inService = true →
      e.rd TIME.MAP_DT_LO = d.time.map.dt % 2 ^ 32 ∧ e.rd TIME.MAP_DT_HI = d.time.map.dt / 2 ^ 32 % 2 ^ 32 ∧
      e.rd TIME.MAP_NSW_LO = d.time.map.nsw % 2 ^ 32 ∧ e.rd TIME.MAP_WEEK = d.time.map.week % 2 ^ TIME.MAP_WEEK.width ∧
      e.rd TIME.MAP_RATE = satS TIME.MAP_RATE.width d.time.map.rate % 2 ^ TIME.MAP_RATE.width ∧
      tget? e.hif.latch 0x03604C = some (d.rd TIME.TIME_STATUS) ∧
      OnlyRegs [TIME.MAP_DT_LO, TIME.MAP_DT_HI, TIME.MAP_NSW_LO, TIME.MAP_NSW_HI, TIME.MAP_WEEK, TIME.MAP_RATE]
        { d with hif := { d.hif with latch := e.hif.latch } } e) := by
  refine answers_of_forall (f := fun _ d => if d.hif.inService then d.mapSnap else d) rfl (fun _ d hsvc => ?_)
  rw [if_pos hsvc]
  unfold Dev.mapSnap Dev.wr2 Dev.wrS
  refine ⟨?_, ?_, ?_, ?_, Dev.rd_wr_self _ _ _, tget?_tset_self _ _ _, ?_⟩
  · rw [Dev.rd_wr_ne _ _ (by decide), Dev.rd_wr_ne _ _ (by decide), Dev.rd_wr_ne _ _ (by decide), Dev.rd_wr_ne _ _ (by decide),
      Dev.rd_wr_ne _ _ (by decide), Dev.rd_wr_self]
    exact Nat.mod_mod _ _
  · rw [Dev.rd_wr_ne _ _ (by decide), Dev.rd_wr_ne _ _ (by decide), Dev.rd_wr_ne _ _ (by decide), Dev.rd_wr_ne _ _ (by decide),
      Dev.rd_wr_self]
    rfl
  · rw [Dev.rd_wr_ne _ _ (by decide), Dev.rd_wr_ne _ _ (by decide), Dev.rd_wr_ne _ _ (by decide), Dev.rd_wr_self]
    exact Nat.mod_mod _ _
  · rw [Dev.rd_wr_ne _ _ (by decide), Dev.rd_wr_self]
  · exact (((((OnlyRegs.wr (fs := [TIME.MAP_DT_LO, TIME.MAP_DT_HI, TIME.MAP_NSW_LO, TIME.MAP_NSW_HI, TIME.MAP_WEEK, TIME.MAP_RATE])
      _ TIME.MAP_DT_LO _ (by simp)).thenWr (f := TIME.MAP_DT_HI) (by simp) _).thenWr (f := TIME.MAP_NSW_LO) (by simp) _).thenWr
      (f := TIME.MAP_NSW_HI) (by simp) _).thenWr (f := TIME.MAP_WEEK) (by simp) _).thenWr (f := TIME.MAP_RATE) (by simp) _

/-! ### The time pulse -/

theorem tpoPulse_effect (s : State) (el : Nat) :
    Answers (.tpoPulse el) s (fun now d e =>
      let x := (d.tpoMap now).lastEdge now d.tpoPeriod (d.rdS TIME.TPO_OFS)
      (d.tpoActive = true → (d.time.tpoMark = none ∨ ∃ j, d.time.tpoMark = some (d.rdS TIME.TPO_OFS, j) ∧ j < d.tpoMultiple now) →
        d.time.tpoFrom ≤ x →
        e.time = { d.time with tpoEdge := some x, tpoMark := some (d.rdS TIME.TPO_OFS, d.tpoMultiple now) } ∧
        e.rd TIME.TPO_DT_LO = nsOf x % 2 ^ 32 ∧ e.rd TIME.TPO_DT_HI = nsOf x / 2 ^ 32 % 2 ^ 32) ∧
      ((d.tpoActive = false ∨ x < d.time.tpoFrom ∨ ∃ j, d.time.tpoMark = some (d.rdS TIME.TPO_OFS, j) ∧ d.tpoMultiple now ≤ j) → e = d)) := by
  refine answers_of_forall (f := fun now d => d.tpoPulse now) rfl (fun now d => ?_)
  unfold Dev.tpoPulse
  dsimp only
  generalize (d.tpoMap now).lastEdge now d.tpoPeriod (d.rdS TIME.TPO_OFS) = x
  refine ⟨fun hact hmark hfrom => ?_, fun h => ?_⟩
  · rw [if_pos hact]
    obtain hnone | ⟨j, hj, hlt⟩ := hmark
    · simp only [hnone, hfrom, decide_true, Bool.and_self, if_true]
      exact ⟨rfl, (Dev.rd_wr_ne _ _ (by decide)).trans ((Dev.rd_wr_self _ _ _).trans (Nat.mod_mod _ _)), Dev.rd_wr_self _ _ _⟩
    · simp only [hj, hlt, hfrom, if_true, decide_true, Bool.and_self]
      exact ⟨rfl, (Dev.rd_wr_ne _ _ (by decide)).trans ((Dev.rd_wr_self _ _ _).trans (Nat.mod_mod _ _)), Dev.rd_wr_self _ _ _⟩
  · by_cases hact : d.tpoActive = true
    · rw [if_pos hact]
      refine if_neg fun hall => ?_
      simp only [Bool.and_eq_true, decide_eq_true_eq] at hall
      obtain h | h | ⟨j, hj, hle⟩ := h
      · simp [h] at hact
      · omega
      · simp only [hj, if_true, decide_eq_true_eq] at hall
        omega
    · exact if_neg hact

/-- Settles O28, command by command. -/
theorem timeStatusMapAndPulse : Obligations.TimeStatusMapAndPulse := by
  unfold Obligations.TimeStatusMapAndPulse
  exact ⟨fun s el => ⟨holdover_effect s el, freerun_effect s el, timeReturn_effect s el, nextWholeGpsSecond_effect s el,
    leapSecond_effect s el⟩, fun s el => ⟨mapReanchor_effect s el, mapSnap_effect s el, tpoPulse_effect s el⟩⟩

end Sys2Proof.Machine
end

section
/-! PROOFS. Measurement epochs, navigation units, raw records and the bursts of EMBER. -/
namespace Sys2Proof.Machine

/-! ### The time unit's part of an epoch -/

theorem timeTouch_mapStands (d : Dev) (epoch : Nat) : TimeTouch d (d.mapStands epoch) := Touches.of_regs rfl rfl

theorem timeTouch_timeGood (d : Dev) (now epoch : Nat) (t : TimeSol) : TimeTouch d (d.timeGood now epoch t) := by
  unfold Dev.timeGood
  extract_lets run _ x
  have hx : TimeTouch d x := by
    have h0 : TimeTouch d { d with time := { d.time with
        lastGood := some epoch
        goodFrom := run
        unc1 := t.unc
        freqUnc1 := t.freqUnc
        err := d.time.map.gps (nsOf epoch) - t.gps } } := timeTouch_time d _
    exact h0.trans (Touches.wr _ TIME.FREQ_ERR _ (by decide) (by rfl))
  clear_value x
  split
  · have h1 : TimeTouch x (x.mapSet (nsOf epoch) t) := timeTouch_time x _
    exact ((hx.trans h1).trans (timeTouch_mapStands _ _)).trans (timeTouch_setTimeStatus _ _ _)
  · refine (hx.trans (timeTouch_mapStands x epoch)).trans ?_
    exact Touches.ite (fun _ => Touches.refl _) (fun _ => timeTouch_time _ _)
  · exact hx

theorem timeTouch_slewFrom (d : Dev) (now l : Nat) : TimeTouch d (d.slewFrom now l) := Touches.of_regs rfl rfl

theorem timeTouch_timeReturn (d : Dev) (now : Nat) : TimeTouch d (d.timeReturn now) := by
  unfold Dev.timeReturn
  split
  · rename_i f l hf hl
    refine Touches.opt (Touches.ite (fun _ => ?_) (fun _ => timeTouch_time d _))
    refine Touches.trans (b := d.slewFrom now l) (timeTouch_slewFrom d now l) ?_
    exact ((Touches.wr _ TIME.SLEWING _ (by decide) (by rfl)).trans (Touches.wr _ TIME.SLEW_REM _ (by decide) (by rfl))).trans (timeTouch_setTimeStatus _ _ _)
  · exact Touches.refl d

theorem timeTouch_stepTaken (d : Dev) (now : Nat) (x : Int) : TimeTouch d (d.stepTaken now x) := by
  unfold Dev.stepTaken
  extract_lets l _ y
  have hy : TimeTouch d y := Touches.of_regs rfl rfl
  clear_value y
  exact (((hy.trans (Touches.wr y TIME.STEP _ (by decide) (by rfl))).trans (Touches.wr _ TIME.STEP_SIZE _ (by decide) (by rfl))).trans
    (Touches.fire _ _ _ _ _ (by intros; rfl))).trans (timeTouch_setTimeStatus _ _ _)

theorem timeTouch_gpsSecond (d : Dev) (now : Nat) : TimeTouch d (d.gpsSecond now) := by
  rw [Dev.gpsSecond_eq]
  refine Touches.trans (b := d.stepCheck now) ?_ (Touches.opt (timeTouch_time _ _))
  unfold Dev.stepCheck
  split
  · exact Touches.refl d
  · exact Touches.opt (timeTouch_stepTaken d now _)

theorem timeTouch_reanchor (fuel : Nat) (d : Dev) (now : Nat) : TimeTouch d (Dev.reanchor fuel d now) := by
  induction fuel generalizing d with
  | zero => exact Touches.refl d
  | succ fuel ih =>
    refine Touches.opt (Touches.trans (b := d.reanchor1) ?_ (ih _))
    rw [Dev.reanchor1_eq]
    have ht : TimeTouch d { d with time := d.time.reanchored } := timeTouch_time d _
    refine Touches.ite (fun _ => ?_) (fun _ => ht)
    exact (ht.trans (Touches.wr _ TIME.SLEW_REM _ (by decide) (by rfl))).trans (Touches.wr _ TIME.SLEWING _ (by decide) (by rfl))

/-! ### The receiver's part of an epoch -/

/-- What of the receiver an epoch marks: the point of its grid, its DT, and that its almanac is known. -/
def GnssBlk.marks (g : GnssBlk) : Option (Bool × Int) × Option Nat × Bool := (g.epochAt, g.lastEpoch, g.almanac)

/-- What the operations of the receiver leave as it was, but for the marks of the epoch. -/
def Dev.sansGnss (d : Dev) : Dev := { d with regs := [], evh := {}, rec_ := {}, pose := {}, gnss := {}, time := {}, ksp := [] }

/-- What the operations of the receiver leave as it was. -/
def Dev.gnssKeep (d : Dev) : Dev × Option (Bool × Int) × Option Nat × Bool := (d.sansGnss, d.gnss.marks)

/-- An operation of the receiver. -/
abbrev GnssTouch (d e : Dev) : Prop := Touches [(0x035000, 0x037000)] Dev.gnssKeep d e

theorem TimeTouch.gnss {d e : Dev} (h : TimeTouch d e) : GnssTouch d e :=
  h.mono (by decide) (fun hk => (congrArg Dev.gnssKeep hk :))

theorem gnssTouch_modChan (d : Dev) (n : Nat) (f : Chan → Chan) : GnssTouch d (d.modChan n f) := Touches.of_regs rfl rfl

theorem gnssTouch_chanCn0 (d : Dev) (epoch : Nat) (o : ChanObs) : GnssTouch d (d.chanCn0 epoch o) := Touches.opt (gnssTouch_modChan d _ _)

/-- What the operations on corrections and on the type of the solution leave as it was. -/
def Dev.corrKeep (d : Dev) : Dev × Option (Bool × Int) × Option Nat × Bool :=
  ({ d with regs := [], evh := {}, rec_ := {}, gnss := {} }, d.gnss.marks)

/-- An operation on corrections or on the type of the solution. -/
abbrev CorrTouch (d e : Dev) : Prop := Touches [(0x035000, 0x036000)] Dev.corrKeep d e

theorem CorrTouch.gnss {d e : Dev} (h : CorrTouch d e) : GnssTouch d e :=
  h.mono (by decide) (fun hk => (congrArg (fun x : Dev × Option (Bool × Int) × Option Nat × Bool => (x.1.sansGnss, x.2)) hk :))

theorem corrTouch_corrAgeCheck (d : Dev) (now : Nat) : CorrTouch d (d.corrAgeCheck now) := by
  unfold Dev.corrAgeCheck
  split
  · exact Touches.refl d
  · refine Touches.ite (fun _ => Touches.of_regs rfl rfl) (fun _ => Touches.ite (fun _ => Touches.refl d) (fun _ => ?_))
    refine Touches.trans (b := { d with gnss := { d.gnss with
      ageFired := true
      ambUntil := if 3 ≤ d.rd GNSS.SOL_TYPE then some (now + sec 30) else d.gnss.ambUntil } }) (Touches.of_regs rfl rfl) (Touches.fire _ _ _ _ _ (by intros; rfl))

theorem corrTouch_setSolType (d : Dev) (now ty : Nat) : CorrTouch d (d.setSolType now ty) :=
  Touches.ite (fun _ => Touches.refl d) (fun _ => (Touches.wr d GNSS.SOL_TYPE _ (by decide) (by rfl)).trans (Touches.fire _ _ _ _ _ (by intros; rfl)))

theorem gnssTouch_corrAgeCheck (d : Dev) (now : Nat) : GnssTouch d (d.corrAgeCheck now) := (corrTouch_corrAgeCheck d now).gnss

theorem gnssTouch_setSolType (d : Dev) (now ty : Nat) : GnssTouch d (d.setSolType now ty) := CorrTouch.gnss (corrTouch_setSolType d now ty)

/-- The solution's registers that stand at every epoch. -/
def Dev.solHead (d : Dev) (now epoch : Nat) (e : EpochIn) : Dev :=
  let ty := d.solType epoch e
  let d := d.setSolType now ty
  (((d.wrU GNSS.SV_USED (d.satsUsed e.obs).length).wrU GNSS.PDOP e.pdop).wr2 GNSS.SOL_DT_LO GNSS.SOL_DT_HI (nsOf epoch)).wr
    GNSS.CORR_AGE (match d.corrAgeMs epoch with | some a => min 0xFFFF (a / 100) | none => 0xFFFF)

theorem gnssTouch_solHead (d : Dev) (now epoch : Nat) (e : EpochIn) : GnssTouch d (d.solHead now epoch e) := by
  unfold Dev.solHead
  extract_lets ty x
  have hx : GnssTouch d x := gnssTouch_setSolType d now ty
  clear_value x
  exact ((((hx.trans (Touches.wr x GNSS.SV_USED _ (by decide) (by rfl))).trans (Touches.wr _ GNSS.PDOP _ (by decide) (by rfl))).trans
    (Touches.wr _ GNSS.SOL_DT_LO _ (by decide) (by rfl))).trans (Touches.wr _ GNSS.SOL_DT_HI _ (by decide) (by rfl))).trans
    (Touches.wr _ GNSS.CORR_AGE _ (by decide) (by rfl))

theorem Dev.solDt_solHead (d : Dev) (now epoch : Nat) (e : EpochIn) : (d.solHead now epoch e).rd GNSS.SOL_DT_LO = nsOf epoch % 2 ^ 32 := by
  unfold Dev.solHead Dev.wr2
  rw [Dev.rd_wr_ne _ _ (by decide), Dev.rd_wr_ne _ _ (by decide), Dev.rd_wr_self]
  exact Nat.mod_mod _ _

/-- Writes of a list of fields, in turn. -/
def Dev.writes (d : Dev) (l : List (Field × Nat)) : Dev := d.each l (fun d x => d.wr x.1 x.2)

theorem Dev.writes_nil (d : Dev) : d.writes [] = d := rfl

theorem Dev.writes_cons (d : Dev) (f : Field) (v : Nat) (l : List (Field × Nat)) : d.writes ((f, v) :: l) = (d.wr f v).writes l := rfl

theorem Touches.writes {α : Type} {ps : List (Nat × Nat)} {er : Dev → α} (d : Dev) (l : List (Field × Nat))
    (hl : l.all (fun x => x.1.writable ps) = true) (her : ∀ d f v, er (Dev.wr d f v) = er d) :
    Touches ps er d (d.writes l) :=
  Touches.each _ _ (fun x y hy => Touches.wr x y.1 y.2 (List.all_eq_true.mp hl y hy) (her x y.1 y.2)) d

theorem Dev.rd_writes_ne (d : Dev) (l : List (Field × Nat)) {f : Field} (hl : l.all (fun x => x.1.key != f.key) = true) :
    (d.writes l).rd f = d.rd f := by
  unfold Dev.writes Dev.each
  induction l generalizing d with
  | nil => rfl
  | cons x l ih =>
    rw [List.all_cons, Bool.and_eq_true, bne_iff_ne] at hl
    exact (ih _ hl.2).trans (Dev.rd_wr_ne _ _ hl.1)

/-- The registers of position and velocity, with what a solution writes to them. -/
def solValues (e : EpochIn) : List (Field × Nat) :=
  [(GNSS.SOL_LAT, satS GNSS.SOL_LAT.width (e.lat / 100)), (GNSS.SOL_LON, satS GNSS.SOL_LON.width (e.lon / 100)),
    (GNSS.SOL_H, satS GNSS.SOL_H.width e.h), (GNSS.SOL_VE, satS GNSS.SOL_VE.width e.ve), (GNSS.SOL_VN, satS GNSS.SOL_VN.width e.vn),
    (GNSS.SOL_VU, satS GNSS.SOL_VU.width e.vu), (GNSS.SOL_SIG_H, satU GNSS.SOL_SIG_H.width (sigmaOf (e.posCov.take 2))),
    (GNSS.SOL_SIG_U, satU GNSS.SOL_SIG_U.width (sigmaOf ((e.posCov.drop 2).take 1)))]

theorem gnssTouch_solValues (d : Dev) (e : EpochIn) : GnssTouch d (d.writes (solValues e)) :=
  Touches.writes d _ (by simp only [solValues, List.all_cons, List.all_nil]; decide) (by intros; rfl)

theorem Dev.solDt_solValues (d : Dev) (e : EpochIn) : (d.writes (solValues e)).rd GNSS.SOL_DT_LO = d.rd GNSS.SOL_DT_LO :=
  Dev.rd_writes_ne d _ (by simp only [solValues, List.all_cons, List.all_nil]; decide)

theorem gnssTouch_measIn (d : Dev) (m : Meas) : GnssTouch d (d.measIn m) := Touches.of_regs rfl rfl

theorem Dev.rd_measIn (d : Dev) (m : Meas) (f : Field) : (d.measIn m).rd f = d.rd f := rfl

theorem solution_spec (d : Dev) (now epoch : Nat) (e : EpochIn) :
    GnssTouch d (d.solution now epoch e) ∧ (d.solution now epoch e).rd GNSS.SOL_DT_LO = nsOf epoch % 2 ^ 32 := by
  have hhead := gnssTouch_solHead d now epoch e
  have hdt := d.solDt_solHead now epoch e
  unfold Dev.solution
  extract_lets ty d1 d2 _ d3 _ d4 d5 d6 d7 spd p
  have h2 : GnssTouch d d2 := hhead
  have hdt2 : d2.rd GNSS.SOL_DT_LO = nsOf epoch % 2 ^ 32 := hdt
  clear_value d2 ty
  have h3 : GnssTouch d2 d3 := Touches.of_regs rfl rfl
  have hdt3 : d3.rd GNSS.SOL_DT_LO = d2.rd GNSS.SOL_DT_LO := rfl
  clear_value d3
  have h4 : GnssTouch d3 d4 := Touches.of_regs rfl rfl
  have hdt4 : d4.rd GNSS.SOL_DT_LO = d3.rd GNSS.SOL_DT_LO := rfl
  have h7 : d7 = d4.writes (solValues e) := by
    simp only [solValues, Dev.writes_cons, Dev.writes_nil]
    rfl
  clear_value d4 d7
  obtain ⟨h4to7, hdt7⟩ : GnssTouch d4 d7 ∧ d7.rd GNSS.SOL_DT_LO = d4.rd GNSS.SOL_DT_LO := by
    rw [h7]
    exact ⟨gnssTouch_solValues d4 e, d4.solDt_solValues e⟩
  have hdt7 : d7.rd GNSS.SOL_DT_LO = nsOf epoch % 2 ^ 32 := ((hdt7.trans hdt4).trans hdt3).trans hdt2
  have hto7 := ((h2.trans h3).trans h4).trans h4to7
  split
  · exact ⟨h2.trans h3, hdt3.trans hdt2⟩
  split
  · exact ⟨(hto7.trans (gnssTouch_measIn d7 _)).trans (gnssTouch_measIn _ _), (Dev.rd_measIn _ _ _).trans ((Dev.rd_measIn _ _ _).trans hdt7)⟩
  · exact ⟨hto7, hdt7⟩

/-- An operation of the channels: it leaves every register and everything but the receiver's channels and its search of the sky. -/
def ChanOnly (d e : Dev) : Prop := e = { d with gnss := { d.gnss with chans := e.gnss.chans, skyAt := e.gnss.skyAt } }

theorem ChanOnly.trans {a b c : Dev} (h : ChanOnly a b) (g : ChanOnly b c) : ChanOnly a c := by
  unfold ChanOnly at *
  rw [g, h]

theorem chanOnly_each {α : Type} (f : Dev → α → Dev) (h : ∀ d a, ChanOnly d (f d a)) (l : List α) (d : Dev) : ChanOnly d (d.each l f) := by
  unfold Dev.each
  induction l generalizing d with
  | nil => rfl
  | cons a l ih => exact (h d a).trans (ih _)

theorem chanOnly_chanAlloc (d : Dev) (now : Nat) (want : List (Nat × Nat × Int)) : ChanOnly d (d.chanAlloc now want) := by
  unfold Dev.chanAlloc
  extract_lets _ x known l
  have hx : ChanOnly d x := rfl
  clear_value x known
  refine hx.trans (chanOnly_each _ (fun y w => ?_) _ x)
  dsimp only
  split
  · rfl
  split
  · rfl
  · cases known <;> rfl

theorem ChanOnly.gnss {d e : Dev} (h : ChanOnly d e) : GnssTouch d e :=
  Touches.of_regs (congrArg Dev.regs h :) (congrArg Dev.gnssKeep h :)

/-! ### A measurement epoch -/

/-- The observations of an epoch, up to the number of channels that track. -/
def Dev.epochObs (d : Dev) (epoch : Nat) (point : Bool × Int) (e : EpochIn) : Dev :=
  let d := { d with gnss := { d.gnss with epochAt := some point } }
  let d := d.each e.obs (fun d o => (d.chanCn0 epoch o).modChan o.ch (fun c => if c.st.locked then { c with code := o.pr } else c))
  let d := (d.wrU GNSS.AGC_L1 e.agc1).wrU GNSS.AGC_L5 e.agc5
  d.wr GNSS.CH_TRACK ((d.gnss.chans.filter (fun (x : Nat × Chan) => x.2.st.locked)).length)

/-- The time solution of an epoch. -/
def Dev.epochTime (d : Dev) (now epoch : Nat) (e : EpochIn) : Dev :=
  if 1 ≤ d.rd GNSS.SOL_TYPE ∧ 5 ≤ d.rd GNSS.SV_USED ∧ e.time.unc ≤ 50 then (d.timeGood now epoch e.time).timeReturn now else d

/-- The records of an epoch, which becomes the newest. -/
def Dev.epochRecords (d : Dev) (epoch : Nat) (e : EpochIn) : Dev :=
  let recs : Tab (List Nat) := (d.gnss.chans.filter (fun (x : Nat × Chan) => x.2.st != .idle)).map (fun (x : Nat × Chan) =>
    (x.1, d.rawRecord epoch x.1 e.obs ((e.obs.find? (fun o => o.ch == x.1)).getD { ch := x.1 })))
  let head := d.epochHeader epoch (recs.map (fun (x : Nat × List Nat) => x.2))
  let chans : Tab Chan := d.gnss.chans.map (fun (x : Nat × Chan) => (x.1, { x.2 with slip := false }))
  let d := { d with gnss := { d.gnss with raw := recs, header := head, lastEpoch := some epoch, almanac := true, chans := chans } }
  if d.on GNSS.RAW_STREAM_EN then
    d.kspSend 0 4 ([0x32, 0, 0, 0] ++ wordsToBytes (head ++ (recs.map (fun (x : Nat × List Nat) => x.2)).flatten)) else d

/-- An epoch at a point of the grid not taken before. -/
def Dev.epochTaken (d : Dev) (now epoch : Nat) (point : Bool × Int) (e : EpochIn) : Dev :=
  ((((((d.epochObs epoch point e).corrAgeCheck now).solution now epoch e).epochTime now epoch e).epochRecords epoch e)).chanAlloc now e.want

theorem Dev.gnssEpoch_eq (d : Dev) (now : Nat) (e : EpochIn) :
    d.gnssEpoch now e =
      let fresh := match d.gnss.epochAt with
        | some (g, t) => if g = (d.epochPoint now).1 then decide (t < (d.epochPoint now).2) else decide (d.gnss.lastEpoch.getD 0 < d.epochDt now)
        | none => true
      if !fresh then d else d.epochTaken now (d.epochDt now) (d.epochPoint now) e := rfl

/-- What an epoch takes leaves every other part of the block alone. -/
theorem epochObs_spec (d : Dev) (epoch : Nat) (point : Bool × Int) (e : EpochIn) :
    GnssTouch { d with gnss := { d.gnss with epochAt := some point } } (d.epochObs epoch point e) := by
  unfold Dev.epochObs
  extract_lets _ x y z
  have hy : GnssTouch x y := Touches.each _ _ (fun u o _ => (gnssTouch_chanCn0 u epoch o).trans (gnssTouch_modChan _ _ _)) x
  clear_value y
  have hz : GnssTouch y z := (Touches.wr y GNSS.AGC_L1 _ (by decide) (by rfl)).trans (Touches.wr _ GNSS.AGC_L5 _ (by decide) (by rfl))
  exact (hy.trans hz).trans (Touches.wr _ GNSS.CH_TRACK _ (by decide) (by rfl))

theorem epochTime_spec (d : Dev) (now epoch : Nat) (e : EpochIn) : TimeTouch d (d.epochTime now epoch e) :=
  Touches.opt ((timeTouch_timeGood d now epoch e.time).trans (timeTouch_timeReturn _ now))

theorem epochRecords_spec (d : Dev) (epoch : Nat) (e : EpochIn) :
    (d.epochRecords epoch e).gnss.lastEpoch = some epoch ∧ (d.epochRecords epoch e).gnss.almanac = true ∧
      (d.epochRecords epoch e).gnss.epochAt = d.gnss.epochAt ∧ (d.epochRecords epoch e).regs = d.regs ∧
      (d.epochRecords epoch e).sansGnss = d.sansGnss := by
  unfold Dev.epochRecords
  extract_lets recs head chans _ x
  have hx : x.gnss.lastEpoch = some epoch ∧ x.gnss.almanac = true ∧ x.gnss.epochAt = d.gnss.epochAt ∧ x.regs = d.regs ∧
      x.sansGnss = d.sansGnss := ⟨rfl, rfl, rfl, rfl, rfl⟩
  clear_value x recs head
  obtain ⟨hlast, halm, hat, hregs, hrest⟩ := hx
  split
  · have hsend := x.sansSend_kspSend 0 4 ([0x32, 0, 0, 0] ++ wordsToBytes (head ++ (recs.map (fun (x : Nat × List Nat) => x.2)).flatten))
    exact ⟨(congrArg (fun y : Dev => y.gnss.lastEpoch) hsend :).trans hlast, (congrArg (fun y : Dev => y.gnss.almanac) hsend :).trans halm,
      (congrArg (fun y : Dev => y.gnss.epochAt) hsend :).trans hat, (congrArg Dev.regs hsend :).trans hregs,
      (congrArg Dev.sansGnss hsend :).trans hrest⟩
  · exact ⟨hlast, halm, hat, hregs, hrest⟩

theorem epochTaken_spec (d : Dev) (now epoch : Nat) (point : Bool × Int) (e : EpochIn) :
    (d.epochTaken now epoch point e).gnss.marks = (some point, some epoch, true) ∧
      (d.epochTaken now epoch point e).rd GNSS.SOL_DT_LO = nsOf epoch % 2 ^ 32 ∧
      Touches [(0x035000, 0x037000)] Dev.sansGnss d (d.epochTaken now epoch point e) := by
  unfold Dev.epochTaken
  have h0 := epochObs_spec d epoch point e
  generalize d.epochObs epoch point e = d0 at h0
  have h1 := gnssTouch_corrAgeCheck d0 now
  generalize d0.corrAgeCheck now = d1 at h1
  obtain ⟨h2, hdt2⟩ := solution_spec d1 now epoch e
  generalize d1.solution now epoch e = d2 at h2 hdt2
  have h3 := epochTime_spec d2 now epoch e
  have hdt3 := h3.rd GNSS.SOL_DT_LO
  generalize d2.epochTime now epoch e = d3 at h3 hdt3
  have hto3 : GnssTouch { d with gnss := { d.gnss with epochAt := some point } } d3 := ((h0.trans h1).trans h2).trans h3.gnss
  have hat3 : d3.gnss.epochAt = some point := (congrArg (fun k : Dev × Option (Bool × Int) × Option Nat × Bool => k.2.1) hto3.rest :)
  obtain ⟨hlast, halm, hat, hregs, hrest⟩ := epochRecords_spec d3 epoch e
  generalize d3.epochRecords epoch e = d4 at hlast halm hat hregs hrest
  have h5 := (chanOnly_chanAlloc d4 now e.want).gnss
  have hregs5 : (d4.chanAlloc now e.want).regs = d4.regs := (congrArg Dev.regs (chanOnly_chanAlloc d4 now e.want) :)
  generalize d4.chanAlloc now e.want = d5 at h5 hregs5
  have hrd : ∀ f, d5.rd f = d3.rd f := fun f => congrArg (fun r => (tget? r f.key).getD f.reset) (hregs5.trans hregs)
  refine ⟨(congrArg Prod.snd h5.rest :).trans ?_, (hrd _).trans (hdt3.trans hdt2), ?_⟩
  · show (d4.gnss.epochAt, d4.gnss.lastEpoch, d4.gnss.almanac) = _
    rw [hlast, halm, hat, hat3]
  · have hstart : Touches [(0x035000, 0x037000)] Dev.sansGnss d { d with gnss := { d.gnss with epochAt := some point } } :=
      Touches.of_regs rfl rfl
    have h3' : Touches [(0x035000, 0x037000)] Dev.sansGnss _ d3 := hto3.mono (by decide) (congrArg Prod.fst)
    have h4 : Touches [(0x035000, 0x037000)] Dev.sansGnss d3 d4 := Touches.of_regs hregs hrest
    exact ((hstart.trans h3').trans h4).trans (h5.mono (by decide) (congrArg Prod.fst))

theorem measurementEpoch_effect (s : State) (el : Nat) (x : EpochIn) :
    Answers (.measurementEpoch el x) s (fun now d e => d.gnssOn = true →
      (d.gnss.epochAt = none ∨ (∃ t, d.gnss.epochAt = some ((d.epochPoint now).1, t) ∧ t < (d.epochPoint now).2) →
        e.gnss.lastEpoch = some (d.epochDt now) ∧ e.gnss.epochAt = some (d.epochPoint now) ∧ e.gnss.almanac = true ∧
        e.rd GNSS.SOL_DT_LO = nsOf (d.epochDt now) % 2 ^ 32) ∧
      (∀ t, d.gnss.epochAt = some ((d.epochPoint now).1, t) → (d.epochPoint now).2 ≤ t → e = d)) := by
  refine answers_of_forall (f := fun now d => if d.gnssOn then d.gnssEpoch now x else d) rfl (fun now d hon => ?_)
  rw [if_pos hon, Dev.gnssEpoch_eq]
  dsimp only
  refine ⟨fun hfresh => ?_, fun t ht hle => ?_⟩
  · have htaken : (match d.gnss.epochAt with
        | some (g, t) => if g = (d.epochPoint now).1 then decide (t < (d.epochPoint now).2) else decide (d.gnss.lastEpoch.getD 0 < d.epochDt now)
        | none => true) = true := by
      obtain hnone | ⟨t, ht, hlt⟩ := hfresh
      · simp only [hnone]
      · simp only [ht, if_true, hlt, decide_true]
    rw [htaken, if_neg (by decide)]
    obtain ⟨hmarks, hdt, -⟩ := epochTaken_spec d now (d.epochDt now) (d.epochPoint now) x
    generalize d.epochTaken now (d.epochDt now) (d.epochPoint now) x = e at hmarks hdt
    obtain ⟨hat, hlast, halm⟩ : e.gnss.epochAt = _ ∧ e.gnss.lastEpoch = _ ∧ e.gnss.almanac = _ := by
      simpa only [GnssBlk.marks, Prod.mk.injEq] using hmarks
    exact ⟨hlast, hat, halm, hdt⟩
  · simp only [ht, if_true]
    exact if_pos (by simp; omega)

/-! ### Navigation units and raw records -/

theorem navUnit_effect (s : State) (el : Nat) (ch : Fin 128) (u : NavUnit) :
    Answers (.navUnit el ch u) s (fun _ d e => d.gnssOn = true → d.on GNSS.NAV_STREAM_EN = false →
      ((d.chan ch).st ≠ .phaseLock → e = d) ∧
      ((d.chan ch).st = .phaseLock → (d.chan ch).unitOk u = false → e.rd GNSS.NAV_FAIL = counted d GNSS.NAV_FAIL ∧
        OnlyRegs [GNSS.NAV_FAIL] { d with gnss := { d.gnss with chans := e.gnss.chans } } e) ∧
      (∀ x, (d.chan ch).st = .phaseLock → (d.chan ch).unitOk u = true → u.expiry = some x → u.utc = none →
        e.rd GNSS.NAV_PASS = counted d GNSS.NAV_PASS ∧ tget? e.gnss.nav (256 * (d.chan ch).sig + (d.chan ch).sv) = some x ∧
        OnlyRegs [GNSS.NAV_PASS] { d with gnss := e.gnss } e)) := by
  refine answers_of_forall (f := fun now d => if d.gnssOn then d.navUnit now ch u else d) rfl (fun now d hon hstream => ?_)
  rw [if_pos hon]
  unfold Dev.navUnit
  generalize hc : d.chan ch = c
  dsimp only
  generalize hx : d.modChan ch (fun c => if c.sig = 0 then { c with last2 := bitsBE u.bits 28 2 } else c) = x
  have hxgnss : x.gnss = { d.gnss with chans := x.gnss.chans } := by rw [← hx]; rfl
  have hxall : x = { d with gnss := x.gnss } := by rw [← hx]; rfl
  have hxregs : ∀ f, x.rd f = d.rd f := fun f => by rw [← hx]; rfl
  have hcount : ∀ f, (x.bump f).rd f = counted d f := fun f => (Dev.rd_bump_self x f).trans (by rw [hxregs, counted])
  refine ⟨fun hst => if_pos (by simp [hst]), fun hst hbad => ?_, fun v hst hok hexp hutc => ?_⟩
  · have hoff : ¬ (x.bump GNSS.NAV_FAIL).on GNSS.NAV_STREAM_EN = true := by
      rw [Dev.on, Dev.rd_bump_ne _ (by decide), hxregs]
      exact ne_true_of_eq_false hstream
    simp only [hst, bne_self_eq_false, Bool.false_eq_true, if_false, hbad]
    rw [if_neg hoff]
    refine ⟨hcount _, ?_⟩
    have hframe : ({ d with gnss := { d.gnss with chans := x.gnss.chans } } : Dev) = x := by rw [← hxgnss, ← hxall]
    show OnlyRegs [GNSS.NAV_FAIL] { d with gnss := { d.gnss with chans := x.gnss.chans } } (x.bump GNSS.NAV_FAIL)
    rw [hframe]
    exact OnlyRegs.wr x _ _ (by simp)
  · simp only [hst, bne_self_eq_false, Bool.false_eq_true, if_false, hok, if_true]
    generalize hy : x.bump GNSS.NAV_PASS = y
    have huse : ∃ g, y.navUse now c u = { y with gnss := g } ∧ tget? g.nav (256 * c.sig + c.sv) = some v := by
      simp only [Dev.navUse, hexp, hutc]
      split
      · split
        · exact ⟨_, rfl, tget?_tset_self _ _ _⟩
        · exact ⟨_, rfl, tget?_tset_self _ _ _⟩
      · split
        · exact ⟨_, rfl, tget?_tset_self _ _ _⟩
        · exact ⟨_, rfl, tget?_tset_self _ _ _⟩
    obtain ⟨g, hg, hnav⟩ := huse
    rw [hg]
    have hoff : ¬ ({ y with gnss := g } : Dev).on GNSS.NAV_STREAM_EN = true := by
      show ¬ y.on GNSS.NAV_STREAM_EN = true
      rw [← hy, Dev.on, Dev.rd_bump_ne _ (by decide), hxregs]
      exact ne_true_of_eq_false hstream
    rw [if_neg hoff]
    refine ⟨?_, hnav, ?_⟩
    · show y.rd GNSS.NAV_PASS = _
      rw [← hy]
      exact hcount _
    · rw [← hy, hxall]
      exact OnlyRegs.wr ({ d with gnss := g } : Dev) GNSS.NAV_PASS (min _ ((({ d with gnss := x.gnss } : Dev)).rd GNSS.NAV_PASS + 1)) (by simp)

theorem rawIdxSnapshot_effect (s : State) (el : Nat) (ch : BitVec 7) :
    Answers (.rawIdxSnapshot el ch) s (fun _ d e => d.hif.inService = true →
      e.rd GNSS.RAW_IDX = ch.toNat ∧ e.rd (GNSS.RAW_REC 0) = ((tget? d.gnss.raw ch.toNat).getD [ch.toNat]).getD 0 0 % 2 ^ 32 ∧
      e = { d with regs := e.regs }) := by
  refine answers_of_forall (f := fun _ d => if d.hif.inService then d.rawSnap ch.toNat else d) rfl (fun _ d hsvc => ?_)
  rw [if_pos hsvc]
  unfold Dev.rawSnap
  dsimp only
  generalize (tget? d.gnss.raw ch.toNat).getD [ch.toNat] = r
  have hloop := Dev.each_range_sets (fun x => x = { d with regs := x.regs } ∧ x.rd GNSS.RAW_IDX = ch.toNat)
    (fun x i => if i < 8 then x.rd (GNSS.RAW_REC i) else 0) (fun i => r.getD i 0 % 2 ^ 32)
    (fun d i => d.wr (GNSS.RAW_REC i) (r.getD i 0)) (d.wr GNSS.RAW_IDX ch.toNat)
    ⟨rfl, (Dev.rd_wr_self _ _ _).trans (Nat.mod_eq_of_lt ch.isLt)⟩ 8 (fun x c hc hx => by
      obtain ⟨hall, hidx⟩ := hx
      refine ⟨⟨?_, (Dev.rd_wr_ne _ _ (by clear * - hc; decide +revert)).trans hidx⟩, ?_, fun k hk => ?_⟩
      · exact (congrArg (fun y : Dev => y.wr (GNSS.RAW_REC c) (r.getD c 0)) hall :)
      · rw [if_pos hc]
        exact Dev.rd_wr_self _ _ _
      · split
        · exact Dev.rd_wr_ne _ _ (by simp only [Field.key, GNSS.RAW_REC]; omega)
        · rfl)
  obtain ⟨⟨hall, hidx⟩, hset, -⟩ := hloop
  exact ⟨hidx, (if_pos (by decide)).symm.trans (hset 0 (by decide)), hall⟩

/-! ### The bursts of EMBER -/

/-- The satellites that a burst uses. -/
def Dev.burstSats (d : Dev) (obs : List ChanObs) : List (Nat × Nat) :=
  (((obs.filter (fun o => (d.chan o.ch).st.locked && (d.chan o.ch).sig % 2 == 0)).map (fun o => d.satOf o.ch)).dedup).take 8

/-- The signals of the satellites used keep their code phase. -/
def Dev.burstObs (d : Dev) (now : Nat) (obs : List ChanObs) (sats : List (Nat × Nat)) : Dev :=
  ({ d with gnss := { d.gnss with lastBurst := some now, usedSats := sats } } : Dev).each
    (obs.filter (fun o => (d.chan o.ch).st.locked && (d.chan o.ch).sig % 2 == 0))
    (fun d o => if sats.contains (d.satOf o.ch) then d.modChan o.ch (fun c => { c with code := o.pr }) else d)

theorem Dev.emberBurst_eq (d : Dev) (now : Nat) (obs : List ChanObs) (t : TimeSol) :
    d.emberBurst now obs t =
      if d.emberTrk && (match d.gnss.lastBurst with | some b => decide (b + sec 1 ≤ now) | none => true) then
        if 5 ≤ (d.burstSats obs).length ∧ t.unc ≤ 50 then
          (((Dev.reanchor 64 (d.burstObs now obs (d.burstSats obs)) now).timeGood now now t).timeReturn now).gpsSecond now
        else d.burstObs now obs (d.burstSats obs)
      else d := rfl

theorem Dev.burstObs_eq (d : Dev) (now : Nat) (obs : List ChanObs) (sats : List (Nat × Nat)) :
    d.burstObs now obs sats = { d with gnss := { d.gnss with
      lastBurst := some now
      usedSats := sats
      chans := (d.burstObs now obs sats).gnss.chans } } := by
  have hkeep := Dev.each_keeps (fun x : Dev => { x with gnss := { x.gnss with chans := [] } })
    (fun (x : Dev) (o : ChanObs) => if sats.contains (x.satOf o.ch) then x.modChan o.ch (fun c => { c with code := o.pr }) else x)
    (fun x o => by dsimp only; split <;> rfl) { d with gnss := { d.gnss with lastBurst := some now, usedSats := sats } }
    (obs.filter (fun o => (d.chan o.ch).st.locked && (d.chan o.ch).sig % 2 == 0))
  exact (congrArg (fun x : Dev => { x with gnss := { x.gnss with chans := (d.burstObs now obs sats).gnss.chans } }) hkeep :)

theorem Dev.status_reanchor (fuel : Nat) (d : Dev) (now : Nat) : (Dev.reanchor fuel d now).rd TIME.TIME_STATUS = d.rd TIME.TIME_STATUS := by
  induction fuel generalizing d with
  | zero => rfl
  | succ fuel ih =>
    rw [Dev.reanchor]
    split
    · exact (ih _).trans d.status_reanchor1
    · rfl

/-- A good solution makes an invalid time GNSS, and leaves GNSS. -/
theorem Dev.status_timeGood (d : Dev) (now epoch : Nat) (t : TimeSol) (h : d.rd TIME.TIME_STATUS = 0 ∨ d.rd TIME.TIME_STATUS = 3) :
    (d.timeGood now epoch t).rd TIME.TIME_STATUS = 0 := by
  unfold Dev.timeGood
  extract_lets run _ x
  have hx : x.rd TIME.TIME_STATUS = d.rd TIME.TIME_STATUS := Dev.rd_wr_ne _ _ (by decide)
  clear_value x
  split
  · exact (Dev.setTimeStatus_spec _ now (st := 0) (by decide)).1
  · rename_i hst
    split
    · exact hst
    · exact hst
  · rename_i hne3 hne0
    rw [← hx] at h
    exact h.elim (fun h => absurd h hne0) (fun h => absurd h hne3)

theorem Dev.timeReturn_of_gnss {d : Dev} (now : Nat) (h : d.rd TIME.TIME_STATUS = 0) : d.timeReturn now = d := by
  unfold Dev.timeReturn
  split
  · exact if_neg (by simp [h])
  · rfl

theorem Dev.status_gpsSecond {d : Dev} (now : Nat) (h : d.rd TIME.TIME_STATUS = 0) : (d.gpsSecond now).rd TIME.TIME_STATUS = 0 := by
  rw [Dev.gpsSecond_eq, Dev.rd_newSecond]
  unfold Dev.stepCheck
  split
  · exact h
  · split
    · exact (d.stepTaken_spec now _).2.2.1
    · exact h

theorem emberBurst_effect (s : State) (el : Nat) (obs : List ChanObs) (t : TimeSol) :
    Answers (.emberBurst el obs t) s (fun now d e =>
      (d.emberTrk = false ∨ (∃ b, d.gnss.lastBurst = some b ∧ now < b + sec 1) → e = d) ∧
      (d.emberTrk = true → (∀ b, d.gnss.lastBurst = some b → b + sec 1 ≤ now) →
        ∀ sats, sats = (((obs.filter (fun o => (d.chan o.ch).st.locked && (d.chan o.ch).sig % 2 == 0)).map (fun o => d.satOf o.ch)).dedup).take 8 →
          e.gnss.lastBurst = some now ∧ e.gnss.usedSats = sats ∧
          (5 ≤ sats.length → t.unc ≤ 50 → (d.rd TIME.TIME_STATUS = 0 ∨ d.rd TIME.TIME_STATUS = 3) → e.rd TIME.TIME_STATUS = 0) ∧
          ((sats.length < 5 ∨ 50 < t.unc) → e = { d with gnss := { d.gnss with lastBurst := some now, usedSats := sats, chans := e.gnss.chans } }))) := by
  refine answers_of_forall (f := fun now d => d.emberBurst now obs t) rfl (fun now d => ?_)
  rw [Dev.emberBurst_eq]
  refine ⟨fun h => if_neg ?_, fun htrk hdue sats hsats => ?_⟩
  · obtain h | ⟨b, hb, hearly⟩ := h
    · simp [h]
    · simp only [hb, Bool.and_eq_true, decide_eq_true_eq]
      omega
  · have hgo : (d.emberTrk && (match d.gnss.lastBurst with | some b => decide (b + sec 1 ≤ now) | none => true)) = true := by
      rw [htrk, Bool.true_and]
      cases hb : d.gnss.lastBurst with
      | none => rfl
      | some b => exact decide_eq_true (hdue b hb)
    rw [if_pos hgo]
    have hs : d.burstSats obs = sats := hsats.symm
    rw [hs]
    have hobs := d.burstObs_eq now obs sats
    generalize d.burstObs now obs sats = x at hobs
    have hlast : x.gnss.lastBurst = some now ∧ x.gnss.usedSats = sats :=
      ⟨(congrArg (fun y : Dev => y.gnss.lastBurst) hobs :), (congrArg (fun y : Dev => y.gnss.usedSats) hobs :)⟩
    have hst : x.rd TIME.TIME_STATUS = d.rd TIME.TIME_STATUS := (congrArg (fun y : Dev => y.rd TIME.TIME_STATUS) hobs :)
    by_cases hgood : 5 ≤ sats.length ∧ t.unc ≤ 50
    · rw [if_pos hgood]
      have hfix := ((timeTouch_reanchor 64 x now).trans (timeTouch_timeGood _ now now t)).trans
        ((timeTouch_timeReturn _ now).trans (timeTouch_gpsSecond _ now))
      have hstatus : (d.rd TIME.TIME_STATUS = 0 ∨ d.rd TIME.TIME_STATUS = 3) →
          ((((Dev.reanchor 64 x now).timeGood now now t).timeReturn now).gpsSecond now).rd TIME.TIME_STATUS = 0 := fun h => by
        have hgnss := Dev.status_timeGood (Dev.reanchor 64 x now) now now t (by rw [Dev.status_reanchor, hst]; exact h)
        rw [Dev.timeReturn_of_gnss now hgnss]
        exact Dev.status_gpsSecond now hgnss
      generalize (((Dev.reanchor 64 x now).timeGood now now t).timeReturn now).gpsSecond now = e at hfix hstatus
      have hgnss : e.gnss = x.gnss := (congrArg Dev.gnss hfix.rest :)
      rw [hgnss]
      exact ⟨hlast.1, hlast.2, fun _ _ h => hstatus h, fun h => absurd hgood (by omega)⟩
    · rw [if_neg hgood]
      exact ⟨hlast.1, hlast.2, fun h5 hunc => absurd ⟨h5, hunc⟩ hgood, fun _ => hobs⟩

theorem ephemerisBurst_effect (s : State) (el : Nat) (sig : Fin 7) (sv : BitVec 8) (x : Nat) (ok : Bool) :
    Answers (.ephemerisBurst el sig sv x ok) s (fun now d e => d.emberTrk = true →
      (d.gnss.usedSats.contains (sig.val / 2, sv.toNat) = false → e = d) ∧
      (d.gnss.usedSats.contains (sig.val / 2, sv.toNat) = true → (∀ b, d.gnss.lastEphBurst = some b → b + sec 600 ≤ now) →
      ∀ o, tget? d.gnss.nav (256 * sig + sv.toNat) = some o →
        (o ≤ now + sec 1800 → e.gnss.lastEphBurst = some now ∧
          tget? e.gnss.nav (256 * sig + sv.toNat) = some (if ok then x else o) ∧ e = { d with gnss := e.gnss }) ∧
        (now + sec 1800 < o → e = d))) := by
  refine answers_of_forall (f := fun now d => d.ephBurst now (256 * sig + sv.toNat) x ok) rfl (fun now d htrk => ?_)
  have hsv : sv.toNat < 256 := sv.isLt
  have hsig : (256 * sig.val + sv.toNat) / 256 / 2 = sig.val / 2 := by omega
  have hmod : (256 * sig.val + sv.toNat) % 256 = sv.toNat := by omega
  unfold Dev.ephBurst
  dsimp only
  rw [hsig, hmod]
  generalize 256 * sig.val + sv.toNat = key
  refine ⟨fun hnot => if_neg (by rw [htrk, hnot]; simp), fun hin hdue o ho => ?_⟩
  refine ⟨fun hsoon => ?_, fun hlate => if_neg ?_⟩
  · rw [if_pos (by
      cases hb : d.gnss.lastEphBurst with
      | none => simp only [htrk, hin, ho, hsoon, decide_true, Bool.and_self]
      | some b => simp only [htrk, hin, ho, hsoon, hdue b hb, decide_true, Bool.and_self])]
    cases ok with
    | false => exact ⟨rfl, ho, rfl⟩
    | true => exact ⟨rfl, tget?_tset_self _ _ _, rfl⟩
  · simp only [htrk, hin, ho, Bool.true_and, Bool.and_eq_true, decide_eq_true_eq, not_and]
    omega

/-- Settles O26, command by command. -/
theorem epochsUnitsRawRecordsAndBursts : Obligations.EpochsUnitsRawRecordsAndBursts := by
  unfold Obligations.EpochsUnitsRawRecordsAndBursts
  exact ⟨fun s el => ⟨measurementEpoch_effect s el, navUnit_effect s el, rawIdxSnapshot_effect s el⟩,
    fun s el => ⟨emberBurst_effect s el, ephemerisBurst_effect s el⟩⟩

end Sys2Proof.Machine
end

section
/-! PROOFS. The commands of the grid and the feature tiles. -/
namespace Sys2Proof.Machine

/-! ### What the judging of a window keeps -/

/-- What the grid shows and keeps of its health windows, beside the judgements themselves. -/
structure WindowView where
  rates : Fin 16 → Nat
  load : Nat
  cur : Nat → SrcWin
  rest : Nat × KMap × KMap × KMap × KMap × Option Nat

def Dev.windowView (d : Dev) : WindowView where
  rates k := d.rd (GRID.RATE_LAST k)
  load := d.rd GRID.LOAD_ACT
  cur k := (d.gsrc k).cur
  rest := (d.grid.macs, d.grid.shared, d.grid.contra, d.grid.shared0, d.grid.contra0, d.grid.winTick)

theorem WindowView.ext_of {v w : WindowView} (hr : v.rates = w.rates) (hl : v.load = w.load) (hc : v.cur = w.cur) (h : v.rest = w.rest) :
    v = w := by
  cases v
  cases w
  simp only at hr hl hc h
  rw [hr, hl, hc, h]

theorem Dev.windowView_eq_of {d : Dev} {rates : Fin 16 → Nat} {load : Nat} {cur : Nat → SrcWin} {rest : Nat × KMap × KMap × KMap × KMap × Option Nat}
    (hr : ∀ k : Fin 16, d.rd (GRID.RATE_LAST k) = rates k) (hl : d.rd GRID.LOAD_ACT = load) (hc : (fun k => (d.gsrc k).cur) = cur)
    (h : (d.grid.macs, d.grid.shared, d.grid.contra, d.grid.shared0, d.grid.contra0, d.grid.winTick) = rest) :
    d.windowView = ⟨rates, load, cur, rest⟩ := WindowView.ext_of (funext hr) hl hc h

theorem Dev.windowView_wr (d : Dev) (f : Field) (v : Nat) (h : f.lo < 32 ∧ (f.lo = 16 → f.addr < 0x038068)) :
    (d.wr f v).windowView = d.windowView := by
  obtain ⟨hlo, h16⟩ := h
  refine WindowView.ext_of (funext fun k => Dev.rd_wr_ne d v ?_) (Dev.rd_wr_ne d v ?_) rfl rfl
  · simp only [Field.key, GRID.RATE_LAST]
    omega
  · simp only [Field.key, GRID.LOAD_ACT]
    omega

theorem Dev.windowView_fire (d : Dev) (now ev inst val : Nat) : (d.fire now ev inst val).windowView = d.windowView :=
  have hgrid : (d.fire now ev inst val).grid = d.grid := Dev.fire_grid _ _ _ _ _
  WindowView.ext_of (funext fun k => Dev.rd_fire_of _ _ _ _ _ (by clear * - k; decide +revert) (by clear * - k; decide +revert))
    (Dev.rd_fire_of _ _ _ _ _ (by decide) (by decide))
    (funext fun k => by simp only [Dev.windowView, Dev.gsrc, hgrid]) (by simp only [Dev.windowView, hgrid])

theorem Dev.windowView_modSrc (d : Dev) (s : Nat) {f : GridSrc → GridSrc} (hf : ∀ g, (f g).cur = g.cur) :
    (d.modSrc s f).windowView = d.windowView :=
  WindowView.ext_of rfl rfl (funext fun k => tget_tmod_keeps GridSrc.cur d.grid.src s hf k) rfl

theorem tget_map_keeps {α γ : Type} [Inhabited α] (g : α → γ) (t : Tab α) (f : α → α) (k : Nat) (hf : ∀ x, g (f x) = g x) :
    g (tget (t.map (fun x => (x.1, f x.2))) k) = g (tget t k) := by
  have hmap : tget? (t.map (fun x => (x.1, f x.2))) k = (tget? t k).map f := tget?_map_val t (fun _ => f) k
  unfold tget
  rw [hmap]
  cases tget? t k <;> simp [hf]

theorem Dev.windowView_ite {c : Prop} [Decidable c] {x y d : Dev} (hx : x.windowView = d.windowView) (hy : y.windowView = d.windowView) :
    (if c then x else y).windowView = d.windowView := by
  split
  · exact hx
  · exact hy

theorem Dev.windowView_setGridMode (d : Dev) (now m : Nat) : (d.setGridMode now m).windowView = d.windowView := by
  unfold Dev.setGridMode
  extract_lets x
  have hx : x.windowView = d.windowView := Dev.windowView_ite rfl (Dev.windowView_wr _ _ _ (by decide))
  refine Dev.windowView_ite hx ?_
  exact (Dev.windowView_fire _ _ _ _ _).trans ((Dev.windowView_wr _ _ _ (by decide)).trans hx)

/-- The block with no source passed. -/
def Dev.nonePassed (d : Dev) : Dev :=
  { d with grid := { d.grid with src := d.grid.src.map (fun (x : Nat × GridSrc) => (x.1, { x.2 with passed := false })) } }

theorem Dev.enterAudit_eq (d : Dev) (now cause : Nat) : d.enterAudit now cause =
    if d.gridRuns && d.on GRID.NET_OK then (d.nonePassed.setGridMode now 1).wr GRID.AUDIT_CAUSE cause else d := rfl

theorem Dev.windowView_enterAudit (d : Dev) (now cause : Nat) : (d.enterAudit now cause).windowView = d.windowView := by
  rw [Dev.enterAudit_eq]
  refine Dev.windowView_ite ?_ rfl
  have hpassed : d.nonePassed.windowView = d.windowView :=
    WindowView.ext_of rfl rfl (funext fun k => tget_map_keeps GridSrc.cur d.grid.src (fun g => { g with passed := false }) k fun _ => rfl) rfl
  exact (Dev.windowView_wr _ _ _ (by decide)).trans ((Dev.windowView_setGridMode _ _ _).trans hpassed)

theorem Dev.windowView_setHealth (d : Dev) (s h : Nat) : (d.setHealth s h).windowView = d.windowView := by
  unfold Dev.setHealth
  extract_lets x y
  have hx : x.windowView = d.windowView :=
    (Dev.windowView_modSrc _ s (by exact fun _ => rfl)).trans (Dev.windowView_wr d (GRID.HEALTH s) h (by simp [GRID.HEALTH]))
  exact (Dev.windowView_wr _ _ _ (by decide)).trans ((Dev.windowView_wr _ _ _ (by decide)).trans hx)

theorem Dev.windowView_suspect (d : Dev) (now s cause : Nat) : (d.suspect now s cause).windowView = d.windowView := by
  unfold Dev.suspect
  extract_lets x y
  have hx : x.windowView = d.windowView :=
    (Dev.windowView_modSrc _ s (by exact fun _ => rfl)).trans
      ((Dev.windowView_wr _ _ _ (by simp [GRID.SUS_CAUSE])).trans (Dev.windowView_setHealth d s 3))
  exact Dev.windowView_ite rfl ((Dev.windowView_enterAudit _ _ _).trans ((Dev.windowView_fire _ _ _ _ _).trans hx))

/-! ### The window of one source -/

/-- The judgement of one source's window by its rate (R279), after RATE_LAST has taken the number of its tiles. -/
def Dev.rateJudged (d : Dev) (now hz s h tiles : Nat) : Dev :=
  let den := if d.on (CAM.TIMING s) then 1 else d.trigDiv
  let num := if d.on (CAM.TIMING s) then d.rd (CAM.EXP_RATE s) else hz
  let good := decide (d.rd GRID.RATE_MIN_PCT * num ≤ 100 * tiles * den)
  if h = 0 then d
  else if h = 3 then
    let cause := d.rd (GRID.SUS_CAUSE s)
    let free := !d.on (GRID.SRC_FORCE s) && ((d.gsrc s).lifted || cause == 4)
    let d := d.modSrc s (fun g => { g with goodRun := if free && good then g.goodRun + 1 else 0 })
    if max 1 (d.rd GRID.RECOVER_S) ≤ (d.gsrc s).goodRun then
      ((d.setHealth s 4).modSrc s (fun g => { g with goodRun := 0, badRun := 0 })).enterAudit now 3
    else d
  else
    let d := d.modSrc s (fun g => { g with badRun := if good then 0 else g.badRun + 1 })
    if 2 ≤ (d.gsrc s).badRun then d.suspect now s 1 else d

theorem Dev.rateJudge_eq (d : Dev) (now hz s : Nat) : d.rateJudge now hz s =
    (d.wrU (GRID.RATE_LAST s) (d.gsrc s).cur.tiles).rateJudged now hz s (d.rd (GRID.HEALTH s)) (d.gsrc s).cur.tiles := rfl

theorem Dev.windowView_rateJudged (d : Dev) (now hz s h tiles : Nat) : (d.rateJudged now hz s h tiles).windowView = d.windowView := by
  unfold Dev.rateJudged
  extract_lets den num good cause free x y
  have hx : x.windowView = d.windowView := Dev.windowView_modSrc d s fun _ => rfl
  have hy : y.windowView = d.windowView := Dev.windowView_modSrc d s fun _ => rfl
  refine Dev.windowView_ite rfl (Dev.windowView_ite (Dev.windowView_ite ?_ hx) ?_)
  · exact (Dev.windowView_enterAudit _ _ _).trans
      ((Dev.windowView_modSrc _ s (by exact fun _ => rfl)).trans ((Dev.windowView_setHealth _ _ _).trans hx))
  · exact Dev.windowView_ite ((Dev.windowView_suspect _ _ _ _).trans hy) hy

/-- What RATE_LAST shows of a window of `n` tiles. -/
def rateShown (s n : Nat) : Nat := satU (GRID.RATE_LAST s).width n % 2 ^ (GRID.RATE_LAST s).width

theorem Dev.windowView_rateJudge (d : Dev) (now hz s : Nat) :
    (d.rateJudge now hz s).windowView = { d.windowView with
      rates := fun k => if k.val = s then rateShown s (d.gsrc s).cur.tiles else d.windowView.rates k } := by
  rw [Dev.rateJudge_eq, Dev.windowView_rateJudged]
  refine WindowView.ext_of (funext fun k => ?_) (Dev.rd_wr_ne _ _ ?_) rfl rfl
  · by_cases hk : k.val = s
    · subst hk
      exact (Dev.rd_wr_self _ _ _).trans (if_pos rfl).symm
    · refine (Dev.rd_wr_ne _ _ ?_).trans (if_neg hk).symm
      simp only [Field.key, GRID.RATE_LAST]
      omega
  · simp only [Field.key, GRID.RATE_LAST, GRID.LOAD_ACT]
    omega

theorem Dev.windowView_rateJudges (d : Dev) (now hz : Nat) : (d.each (List.range 16) (fun d s => d.rateJudge now hz s)).windowView =
    { d.windowView with rates := fun k => rateShown k (d.gsrc k).cur.tiles } := by
  have h := Dev.each_range_sets
    (fun x => x.windowView.cur = d.windowView.cur ∧ x.windowView.load = d.windowView.load ∧ x.windowView.rest = d.windowView.rest)
    (fun x c => if hc : c < 16 then x.windowView.rates ⟨c, hc⟩ else 0) (fun c => rateShown c (d.gsrc c).cur.tiles)
    (fun d s => d.rateJudge now hz s) d ⟨rfl, rfl, rfl⟩ 16 (fun x c hc hP => by
      obtain ⟨hcur, hload, hrest⟩ := hP
      rw [Dev.windowView_rateJudge]
      refine ⟨⟨hcur, hload, hrest⟩, ?_, fun k hk => ?_⟩
      · rw [dif_pos hc]
        exact (if_pos rfl).trans (congrArg (fun w : SrcWin => rateShown c w.tiles) (congrFun hcur c))
      · split
        · exact if_neg hk
        · rfl)
  obtain ⟨⟨hcur, hload, hrest⟩, hrates, -⟩ := h
  refine WindowView.ext_of (funext fun k => ?_) hload hcur hrest
  have hk := hrates k.val k.isLt
  rwa [dif_pos k.isLt] at hk

/-! ### The end of a window -/

theorem Dev.windowView_auditJudge (d : Dev) (now s : Nat) : (d.auditJudge now s).windowView = d.windowView := by
  unfold Dev.auditJudge
  extract_lets h m w ag res x cal pass y z
  have hag : ag.2.windowView = d.windowView := by
    have : ag.2 = d ∨ ag.2 = (d.draw 7).2 := by
      simp only [ag]
      split
      · exact Or.inr rfl
      · exact Or.inl rfl
    rcases this with h | h
    · rw [h]
    · rw [h]
      rfl
  have hx : x.windowView = d.windowView :=
    (Dev.windowView_wr _ _ _ (by simp [GRID.RES_LAST])).trans ((Dev.windowView_wr _ _ _ (by simp [GRID.AGREE_LAST])).trans hag)
  have hy : y.windowView = d.windowView :=
    Dev.windowView_ite ((Dev.windowView_fire _ _ _ _ _).trans ((Dev.windowView_setHealth _ _ _).trans hx)) hx
  have hz : z.windowView = d.windowView :=
    (Dev.windowView_modSrc x s (f := fun g => { g with passed := false, failRun := g.failRun + 1 }) fun _ => rfl).trans hx
  refine Dev.windowView_ite (Dev.windowView_ite ?_ (Dev.windowView_ite ?_ hz)) rfl
  · exact (Dev.windowView_modSrc _ s (by exact fun _ => rfl)).trans hy
  · exact (Dev.windowView_suspect _ _ _ _).trans hz

theorem Dev.windowView_auditEnd (d : Dev) (now : Nat) : (d.auditEnd now).windowView = d.windowView := by
  unfold Dev.auditEnd
  extract_lets x live
  have hx : x.windowView = d.windowView := Dev.each_keeps Dev.windowView _ (fun d s => d.windowView_auditJudge now s) d _
  exact Dev.windowView_ite (Dev.windowView_ite ((Dev.windowView_setGridMode _ _ _).trans hx) hx) rfl

/-- The windows judged, before the next ones begin. -/
def Dev.windowJudged (d : Dev) (now hz : Nat) (cons : Option Nat) : Dev :=
  let d := { d with grid := { d.grid with src := d.grid.src.map (fun (x : Nat × GridSrc) => (x.1, { x.2 with inState := x.2.inState + 1 })) } }
  let d := d.each (List.range 16) (fun d s => d.rateJudge now hz s)
  match cons with | some s => d.suspect now s 2 | none => d

theorem Dev.windowView_windowJudged (d : Dev) (now hz : Nat) (cons : Option Nat) : (d.windowJudged now hz cons).windowView =
    { d.windowView with rates := fun k => rateShown k (d.gsrc k).cur.tiles } := by
  unfold Dev.windowJudged
  extract_lets _ x y
  have hcur : ∀ k, (x.gsrc k).cur = (d.gsrc k).cur := fun k =>
    tget_map_keeps GridSrc.cur d.grid.src (fun g => { g with inState := g.inState + 1 }) k fun _ => rfl
  have hy : y.windowView = { d.windowView with rates := fun k => rateShown k (d.gsrc k).cur.tiles } := by
    refine (Dev.windowView_rateJudges x now hz).trans (WindowView.ext_of (funext fun k => ?_) rfl (funext hcur) rfl)
    exact congrArg (fun w : SrcWin => rateShown k w.tiles) (hcur k)
  cases cons with
  | none => exact hy
  | some s => exact (Dev.windowView_suspect _ _ _ _).trans hy

/-- The next windows begin at zero. -/
def Dev.windowNext (d : Dev) (n hz : Nat) (run : KMap) : Dev :=
  { d with grid := { d.grid with
    pairRun := run.filter (fun x => decide (x.2 < 3)), shared0 := d.grid.shared, contra0 := d.grid.contra, winTick := some n,
    winHz := hz,
    src := d.grid.src.map (fun (x : Nat × GridSrc) => (x.1, { x.2 with past := (x.2.cur :: x.2.past).take 60, cur := {} })) } }

theorem Dev.gsrc_cur_windowNext (d : Dev) (n hz : Nat) (run : KMap) (k : Nat) : ((d.windowNext n hz run).gsrc k).cur = {} := by
  have hmap : tget? (d.windowNext n hz run).grid.src k =
      (tget? d.grid.src k).map (fun g => { g with past := (g.cur :: g.past).take 60, cur := {} }) :=
    tget?_map_val d.grid.src (fun _ (g : GridSrc) => { g with past := (g.cur :: g.past).take 60, cur := {} }) k
  unfold Dev.gsrc tget
  rw [hmap]
  cases tget? d.grid.src k <;> rfl

theorem Dev.gridWindow_eq (d : Dev) (now n : Nat) : ∃ hz hz' cons run x,
    (x = d.windowJudged now hz cons ∨ x = (d.windowJudged now hz cons).enterAudit now 4) ∧
    d.gridWindow now n = (x.windowNext n hz' run).loadShow.auditEnd now :=
  ⟨_, _, d.consSuspect, _, _, (ite_eq_or_eq _ _ _).symm, rfl⟩

theorem Dev.windowView_clearSuspect (d : Dev) : d.clearSuspect.windowView = d.windowView := by
  unfold Dev.clearSuspect
  extract_lets m bs
  exact Dev.windowView_ite rfl rfl

/-- What LOAD_ACT shows of `macs` multiplications. -/
def loadShown (macs : Nat) : Nat := satU GRID.LOAD_ACT.width (roundDiv macs 100000000) % 2 ^ GRID.LOAD_ACT.width

theorem loadShown_eq (macs : Nat) :
    loadShown macs = satU GRID.LOAD_ACT.width (roundDiv macs 100000000) % 2 ^ GRID.LOAD_ACT.width := rfl

theorem Dev.rd_wrU_self (d : Dev) (f : Field) (v : Int) : (d.wrU f v).rd f = satU f.width v % 2 ^ f.width := Dev.rd_wr_self _ _ _

theorem Dev.loadShow_eq (d : Dev) :
    d.loadShow = ({ d with grid := { d.grid with macs := 0 } }).wrU GRID.LOAD_ACT (roundDiv d.grid.macs 100000000) := rfl

theorem Dev.grid_loadShow (d : Dev) : d.loadShow.grid = { d.grid with macs := 0 } := rfl

theorem Dev.rd_loadShow (d : Dev) : d.loadShow.rd GRID.LOAD_ACT = loadShown d.grid.macs := by
  rw [Dev.loadShow_eq, Dev.rd_wrU_self, loadShown_eq]

/-- The load shown is a variable here: spelled out, it would be computed again wherever two views are compared. -/
theorem Dev.windowView_loadShow (d : Dev) {load : Nat} (hload : loadShown d.grid.macs = load) :
    d.loadShow.windowView = { d.windowView with load := load, rest := (0, d.windowView.rest.2) } := by
  refine Dev.windowView_eq_of (fun k => ?_) (d.rd_loadShow.trans hload) ?_ ?_
  · rw [Dev.loadShow_eq]
    refine Dev.rd_wr_ne _ _ ?_
    simp only [Field.key, GRID.RATE_LAST, GRID.LOAD_ACT]
    omega
  · unfold Dev.gsrc
    rw [Dev.grid_loadShow]
    rfl
  · rw [Dev.grid_loadShow]
    rfl

theorem Dev.windowView_windowNext (d : Dev) (n hz : Nat) (run : KMap) : (d.windowNext n hz run).windowView =
    { d.windowView with
      cur := fun _ => {}
      rest := (d.grid.macs, d.grid.shared, d.grid.contra, d.grid.shared, d.grid.contra, some n) } :=
  WindowView.ext_of rfl rfl (funext fun k => d.gsrc_cur_windowNext n hz run k) rfl

theorem Dev.windowView_gridWindow (d : Dev) (now n : Nat) {load : Nat} (hload : loadShown d.grid.macs = load) :
    (d.gridWindow now n).windowView =
    { rates := fun k => rateShown k (d.gsrc k).cur.tiles
      load := load
      cur := fun _ => {}
      rest := (0, d.grid.shared, d.grid.contra, d.grid.shared, d.grid.contra, some n) } := by
  obtain ⟨hz, hz', cons, run, x, hx, heq⟩ := d.gridWindow_eq now n
  have hview : x.windowView = { d.windowView with rates := fun k => rateShown k (d.gsrc k).cur.tiles } := by
    rcases hx with rfl | rfl
    · exact d.windowView_windowJudged now hz cons
    · exact (Dev.windowView_enterAudit _ _ _).trans (d.windowView_windowJudged now hz cons)
  have hmacs : (x.windowNext n hz' run).grid.macs = d.grid.macs := (congrArg (fun v => v.rest.1) hview :)
  rw [heq, Dev.windowView_auditEnd, Dev.windowView_loadShow _ ((congrArg loadShown hmacs).trans hload), Dev.windowView_windowNext, hview]
  have hshared : x.grid.shared = d.grid.shared := (congrArg (fun v => v.rest.2.1) hview :)
  have hcontra : x.grid.contra = d.grid.contra := (congrArg (fun v => v.rest.2.2.1) hview :)
  rw [hshared, hcontra]

/-! ### The commands of the grid -/

theorem cameraTrigger_effect (s : State) (el : Nat) :
    Answers (.cameraTrigger el) s (fun now d e => d.gridRuns = true → d.sys.gridOn = true →
      ∀ k t, k = d.tickCnt now - d.tickCnt now % d.trigDiv → t = d.edgeOf k + d.trgPhase → d.sys.nEpoch ≤ k → t ≤ now →
      ((∀ j, d.grid.trigTick = some j → j < k) →
        e.grid.trigCnt = d.grid.trigCnt + 1 ∧ e.grid.trigTick = some k ∧ e.grid.trigs.head? = some (d.grid.trigCnt + 1, t) ∧
        (∀ x ∈ d.grid.trigs, now ≤ x.2 + sec 8 → x ∈ e.grid.trigs) ∧ e = { d with grid := e.grid }) ∧
      (∀ j, d.grid.trigTick = some j → k ≤ j → e = d)) := by
  refine answers_of_forall (f := fun now d => d.camTrigger now) rfl (fun now d hruns hgrid k t hk ht hepoch hnow => ?_)
  unfold Dev.camTrigger
  dsimp only
  rw [← hk, ← ht]
  refine ⟨fun hnew => ?_, fun j hj hle => if_neg (by simp [hj, hle])⟩
  rw [if_pos (by
    cases htick : d.grid.trigTick with
    | none => simp [hruns, hgrid, hepoch, hnow]
    | some j => simp [hruns, hgrid, hepoch, hnow, hnew j htick])]
  refine ⟨rfl, rfl, rfl, fun x hx hle => List.mem_cons_of_mem _ (List.mem_filter.mpr ⟨hx, by simpa using hle⟩), rfl⟩

theorem netLoad_effect (s : State) (el : Nat) :
    Answers (.netLoad el) s (fun _ d e => d.hif.inService = true →
      (d.netCheck.1 = 0 → e.rd GRID.NET_ERR = 0 ∧ e.grid = { d.grid with netDue := some d.netCheck.2 } ∧
        OnlyRegs [GRID.NET_ERR] { d with grid := e.grid } e) ∧
      (d.netCheck.1 ≠ 0 → e.rd GRID.NET_ERR = d.netCheck.1 % 2 ^ GRID.NET_ERR.width ∧
        bitOf (e.rd (HDR.PG_EVT_RAW 0x038000)) (EVT.GRID_NET_REFUSED - 96) = true ∧ OnlyRegsAndEvents [GRID.NET_ERR] d e)) := by
  refine answers_of_forall (f := fun now d => if d.hif.inService then d.netLoad now else d) rfl (fun now d hserves => ?_)
  rw [if_pos hserves]
  unfold Dev.netLoad
  generalize d.netCheck = r
  dsimp only
  refine ⟨fun h0 => ?_, fun hne => ?_⟩
  · rw [if_pos h0, h0]
    exact ⟨(Dev.rd_wr_self d GRID.NET_ERR 0 :), rfl, OnlyRegs.wr { d with grid := { d.grid with netDue := some r.2 } } GRID.NET_ERR 0 (by simp)⟩
  · rw [if_neg hne]
    exact ⟨(Dev.rd_fire_of _ _ _ _ _ (by decide) (by decide)).trans (Dev.rd_wr_self _ _ _),
      Dev.raised_fire _ _ _ _ _ (by decide) (by decide), (OnlyRegs.wr d _ _ (by simp)).toOnlyRegsAndEvents.thenFire _ _ _ _⟩

theorem Dev.clearLayer_eq (d : Dev) : d.clearLayer = ({ d with grid := { d.grid with blocks := [] } }).wr GRID.BLK_USED 0 := by
  have hnone : ∀ n : Nat, ¬n < ([] : List TBlock).length := Nat.not_lt_zero
  unfold Dev.clearLayer Dev.setBlocks
  exact if_neg (hnone _)

theorem winClear_effect (s : State) (el : Nat) :
    Answers (.winClear el) s (fun _ d e => d.hif.inService = true →
      e.grid = { d.grid with blocks := [] } ∧ e.rd GRID.BLK_USED = 0 ∧ OnlyRegs [GRID.BLK_USED] { d with grid := e.grid } e) := by
  refine answers_of_forall (f := fun _ d => if d.hif.inService then d.clearLayer else d) rfl (fun now d hserves => ?_)
  rw [if_pos hserves]
  rw [Dev.clearLayer_eq]
  exact ⟨rfl, Dev.rd_wr_self _ _ _, OnlyRegs.wr { d with grid := { d.grid with blocks := [] } } GRID.BLK_USED 0 (by simp)⟩

/-- A window that ends (R271, R279, R292). -/
theorem Dev.healthWindow_shows (d : Dev) (now n : Nat) {e : Dev} (he : (d.gridWindow now n).clearSuspect = e) :
    e.grid.winTick = some n ∧ e.grid.macs = 0 ∧ e.rd GRID.LOAD_ACT = loadShown d.grid.macs ∧
    e.grid.shared0 = d.grid.shared ∧ e.grid.contra0 = d.grid.contra ∧
    ∀ k, k < 16 → (e.gsrc k).cur = {} ∧ e.rd (GRID.RATE_LAST k) = rateShown k (d.gsrc k).cur.tiles := by
  generalize hload : loadShown d.grid.macs = load
  have hview := (Dev.windowView_clearSuspect _).trans (d.windowView_gridWindow now n hload)
  rw [he] at hview
  have hrest := congrArg WindowView.rest hview
  simp only [Dev.windowView, Prod.mk.injEq] at hrest
  obtain ⟨hmacs, -, -, hshared, hcontra, htick⟩ := hrest
  exact ⟨htick, hmacs, congrArg WindowView.load hview, hshared, hcontra, fun k hk =>
    ⟨congrFun (congrArg WindowView.cur hview) k, congrFun (congrArg WindowView.rates hview) ⟨k, hk⟩⟩⟩

theorem healthWindow_effect (s : State) (el : Nat) :
    Answers (.healthWindow el) s (fun now d e => d.gridRuns = true →
      (d.winEnds (d.tickCnt now) = true →
        e.grid.winTick = some (d.tickCnt now) ∧ e.grid.macs = 0 ∧
        e.rd GRID.LOAD_ACT = satU GRID.LOAD_ACT.width (roundDiv d.grid.macs 100000000) % 2 ^ GRID.LOAD_ACT.width ∧
        e.grid.shared0 = d.grid.shared ∧ e.grid.contra0 = d.grid.contra ∧
        (∀ k, k < 16 → (e.gsrc k).cur = {} ∧
          e.rd (GRID.RATE_LAST k) = satU (GRID.RATE_LAST k).width (d.gsrc k).cur.tiles % 2 ^ (GRID.RATE_LAST k).width)) ∧
      (d.winEnds (d.tickCnt now) = false → e = d)) := by
  refine answers_of_forall (f := fun now d => if d.gridRuns && d.winEnds (d.tickCnt now) then
    (d.gridWindow now (d.tickCnt now)).clearSuspect else d) rfl (fun now d hruns => ⟨fun hends => ?_, fun hnot => if_neg (by simp [hnot])⟩)
  rw [if_pos (by simp [hruns, hends]), ← loadShown_eq]
  exact d.healthWindow_shows now _ rfl

theorem Dev.rd_setGridMode_one (d : Dev) (now : Nat) : (d.setGridMode now 1).rd GRID.GRID_MODE = 1 := by
  unfold Dev.setGridMode
  dsimp only
  rw [if_pos rfl]
  split
  · assumption
  · exact (Dev.rd_fire_of _ _ _ _ _ (by decide) (by decide)).trans (Dev.rd_wr_self _ _ _)

theorem auditReq_effect (s : State) (el : Nat) :
    Answers (.auditReq el) s (fun _ d e => d.hif.inService = true →
      (d.gridRuns = true → d.on GRID.NET_OK = true → e.rd GRID.GRID_MODE = 1 ∧ e.rd GRID.AUDIT_CAUSE = 2) ∧
      (d.gridRuns = false → e = d)) := by
  refine answers_of_forall (f := fun now d => if d.hif.inService then d.enterAudit now 2 else d) rfl (fun now d hserves => ?_)
  rw [if_pos hserves, Dev.enterAudit_eq]
  refine ⟨fun hruns hnet => ?_, fun hnot => if_neg (by simp [hnot])⟩
  rw [if_pos (by simp [hruns, hnet])]
  exact ⟨(Dev.rd_wr_ne _ _ (by decide)).trans (Dev.rd_setGridMode_one _ _), Dev.rd_wr_self _ _ _⟩

theorem srcRetry_effect (s : State) (el : Nat) (src : Fin 16) :
    Answers (.srcRetry el src) s (fun _ d e => d.hif.inService = true →
      (d.rd (GRID.SUS_CAUSE src.val) = 5 → (e.gsrc src.val).lifted = true) ∧
      (d.rd (GRID.SUS_CAUSE src.val) ≠ 5 → e.gsrc src.val = d.gsrc src.val) ∧ (∀ n, n ≠ src.val → e.gsrc n = d.gsrc n) ∧
      e = { d with grid := { d.grid with src := e.grid.src } }) := by
  refine answers_of_forall (f := fun _ d => if d.hif.inService then d.srcRetry src.val else d) rfl (fun now d hserves => ?_)
  rw [if_pos hserves]
  unfold Dev.srcRetry
  refine ⟨fun h5 => ?_, fun hne => ?_, fun n hn => tget_tmod_ne _ _ (Ne.symm hn), rfl⟩
  · refine (congrArg GridSrc.lifted (tget_tmod_self _ _ _)).trans ?_
    rw [if_pos h5]
  · exact (tget_tmod_self _ _ _).trans (if_neg hne)

theorem pairSnapshot_effect (s : State) (el : Nat) (a b : Fin 16) :
    Answers (.pairSnapshot el a b) s (fun _ d e => d.hif.inService = true →
      e.rd GRID.PAIR_A = a.val ∧ e.rd GRID.PAIR_B = b.val ∧
      (a ≠ b → ∀ v, v = (fun m : KMap => (tget? m (16 * a.val + b.val)).getD 0 + (tget? m (16 * b.val + a.val)).getD 0) →
        e.rd GRID.CONTRA_CNT = satU GRID.CONTRA_CNT.width (v d.grid.contra) % 2 ^ GRID.CONTRA_CNT.width ∧
        e.rd GRID.SHARED_CNT = satU GRID.SHARED_CNT.width (v d.grid.shared) % 2 ^ GRID.SHARED_CNT.width) ∧
      OnlyRegs [GRID.PAIR_A, GRID.PAIR_B, GRID.CONTRA_CNT, GRID.SHARED_CNT] d e) := by
  refine answers_of_forall (f := fun _ d => if d.hif.inService then d.pairSnap a.val b.val else d) rfl (fun now d hserves => ?_)
  rw [if_pos hserves]
  unfold Dev.pairSnap
  dsimp only
  refine ⟨?_, ?_, fun hab v hv => ?_, ?_⟩
  · refine (Dev.rd_wr_ne _ _ (by decide)).trans ((Dev.rd_wr_ne _ _ (by decide)).trans ((Dev.rd_wr_ne _ _ (by decide)).trans
      ((Dev.rd_wr_self _ _ _).trans (Nat.mod_eq_of_lt a.isLt))))
  · exact (Dev.rd_wr_ne _ _ (by decide)).trans ((Dev.rd_wr_ne _ _ (by decide)).trans
      ((Dev.rd_wr_self _ _ _).trans (Nat.mod_eq_of_lt b.isLt)))
  · have hne : ¬a.val = b.val := fun h => hab (Fin.ext h)
    rw [if_neg hne, if_neg hne, hv]
    exact ⟨(Dev.rd_wr_ne _ _ (by decide)).trans (Dev.rd_wr_self _ _ _), Dev.rd_wr_self _ _ _⟩
  · exact (((OnlyRegs.wr d _ _ (by simp)).thenWr (by simp) _).thenWr (by simp) _).thenWr (by simp) _

theorem gridPeek_effect (s : State) (el : Nat) (y : Word) :
    Answers (.gridPeek el y) s (fun _ d e => d.hif.inService = true →
      e.rd GRID.PEEK_RES = b2n (d.tcell (d.rdS GRID.PEEK_X / 20, toS 32 y.toNat / 20)).isSome ∧
      (∀ c, d.tcell (d.rdS GRID.PEEK_X / 20, toS 32 y.toNat / 20) = some c →
        e.rd GRID.PEEK_SCORE = c.score % 2 ^ GRID.PEEK_SCORE.width ∧ e.rd GRID.PEEK_META = c.meta_ % 2 ^ GRID.PEEK_META.width) ∧
      OnlyRegs [GRID.PEEK_SCORE, GRID.PEEK_META, GRID.PEEK_RES] d e) := by
  refine answers_of_forall (f := fun _ d => if d.hif.inService then d.gridPeek y.toNat else d) rfl (fun now d hserves => ?_)
  rw [if_pos hserves]
  unfold Dev.gridPeek
  generalize d.tcell (d.rdS GRID.PEEK_X / 20, toS 32 y.toNat / 20) = cell
  refine ⟨Dev.rd_wrB_self _ _ _ rfl, fun c hc => ?_, ((OnlyRegs.wr d _ _ (by simp)).thenWr (by simp) _).thenWr (by simp) _⟩
  rw [hc]
  exact ⟨(Dev.rd_wrB_ne _ _ (by decide)).trans ((Dev.rd_wr_ne _ _ (by decide)).trans (Dev.rd_wr_self _ _ _)),
    (Dev.rd_wrB_ne _ _ (by decide)).trans (Dev.rd_wr_self _ _ _)⟩

/-! ### Feature tiles -/

/-- The word of a tile's header at an offset. -/
def hdrWord (hdr : List Nat) (o : Nat) : Nat := ofBytesLE ((hdr.drop o).take 4)

/-- The source a tile's header names. -/
def hdrSrc (hdr : List Nat) : Nat := bitsOf (hdrWord hdr 0) 8 4

/-- A header that is whole, of the tile's type, and passes its CRC (check 1). -/
def hdrWhole (hdr : List Nat) : Prop := 64 ≤ hdr.length ∧ crc32 (hdr.take 60) = hdrWord hdr 0x3C ∧ bitsOf (hdrWord hdr 0) 0 8 = 0x21

/-- The grid takes tiles of the source (check 2). -/
def Dev.takesSrc (d : Dev) (s : Nat) : Prop :=
  d.gridRuns = true ∧ d.on GRID.NET_OK = true ∧ d.on (GRID.SRC_EN s) = true ∧ d.rd (GRID.SRC_ERR s) = 0

/-- A tile of the network's format that lies in the map of its source (check 3). -/
def Dev.tileInside (d : Dev) (n : FusionNet) (hdr : List Nat) : Prop :=
  bitsOf (hdrWord hdr 0) 16 8 = n.featFmt ∧ hdrWord hdr 0x18 = 524288 ∧
    bitsOf (hdrWord hdr 0x10) 0 16 + 128 ≤ d.rd (CAM.MAP_W (hdrSrc hdr)) ∧ bitsOf (hdrWord hdr 0x10) 16 16 + 128 ≤ d.rd (CAM.MAP_H (hdrSrc hdr))

/-- The capture time of a tile's header, before its source's delay (check 4). -/
def Dev.tileTime (d : Dev) (at_ : Nat) (hdr : List Nat) : Option Nat :=
  if d.on (CAM.TIMING (hdrSrc hdr)) then
    (if at_ + ms 10 < cyclesOfNs (hdrWord hdr 8 + 2 ^ 32 * hdrWord hdr 12) then none
     else some (cyclesOfNs (hdrWord hdr 8 + 2 ^ 32 * hdrWord hdr 12)))
  else (d.grid.trigs.find? (fun (x : Nat × Nat) => x.1 % 65536 == bitsOf (hdrWord hdr 4) 16 16 && decide (at_ ≤ x.2 + sec 8))).map (·.2)

/-- The tile of a header whose capture DT is `cap`. -/
def featureTileOf (hdr : List Nat) (cells : List (Nat × List Int)) (cap : Nat) : GridTile where
  src := hdrSrc hdr
  u0 := bitsOf (hdrWord hdr 0x10) 0 16
  v0 := bitsOf (hdrWord hdr 0x10) 16 16
  cap := cap
  cells := cells.filter (fun x => decide (x.1 < 16384) && !x.2.all (· == -128))

section header
variable {d : Dev} {now : Nat} {hdr : List Nat} {cells : List (Nat × List Int)}

theorem Dev.tileHeader_of_not_whole (h : ¬hdrWhole hdr) : d.tileHeader now hdr cells = .other := by
  refine if_pos ?_
  simp only [Bool.or_eq_true, bne_iff_ne, decide_eq_true_eq]
  by_contra hnot
  push Not at hnot
  exact h ⟨hnot.1.1, hnot.1.2, hnot.2⟩

theorem Dev.tileHeader_of_not_taken (hw : hdrWhole hdr) (h : ¬d.takesSrc (hdrSrc hdr)) : d.tileHeader now hdr cells = .other := by
  obtain ⟨hlen, hcrc, htype⟩ := hw
  refine (if_neg ?_).trans (if_pos ?_)
  · simp only [Bool.or_eq_true, bne_iff_ne, decide_eq_true_eq]
    push Not
    exact ⟨⟨hlen, hcrc⟩, htype⟩
  · simp only [Bool.or_eq_true, bne_iff_ne, Bool.not_eq_true']
    by_contra hnot
    push Not at hnot
    obtain ⟨hruns, herr⟩ := hnot
    simp only [ne_eq, Bool.not_eq_false, Bool.and_eq_true] at hruns
    exact h ⟨hruns.1.1, hruns.1.2, hruns.2, herr⟩

/-- What becomes of a tile that the grid takes. -/
theorem Dev.tileHeader_of_taken {n : FusionNet} (hw : hdrWhole hdr) (h : d.takesSrc (hdrSrc hdr)) (hnet : d.grid.net = some n) :
    d.tileHeader now hdr cells = if bitsOf (hdrWord hdr 0) 16 8 != n.featFmt || hdrWord hdr 0x18 != 524288 ||
        decide (d.rd (CAM.MAP_W (hdrSrc hdr)) < bitsOf (hdrWord hdr 0x10) 0 16 + 128) ||
        decide (d.rd (CAM.MAP_H (hdrSrc hdr)) < bitsOf (hdrWord hdr 0x10) 16 16 + 128) then .hdrErr (hdrSrc hdr)
      else match d.tileTime now hdr with
        | none => .hdrErr (hdrSrc hdr)
        | some r =>
          if ((r : Int) + d.rdS (CAM.CAP_DLY (hdrSrc hdr)) * 400).toNat + sec 4 < now then .hist (hdrSrc hdr)
          else .pass (featureTileOf hdr cells ((r : Int) + d.rdS (CAM.CAP_DLY (hdrSrc hdr)) * 400).toNat) := by
  obtain ⟨hlen, hcrc, htype⟩ := hw
  obtain ⟨hruns, hok, hen, herr⟩ := h
  refine (if_neg ?_).trans ((if_neg ?_).trans ?_)
  · simp only [Bool.or_eq_true, bne_iff_ne, decide_eq_true_eq]
    push Not
    exact ⟨⟨hlen, hcrc⟩, htype⟩
  · change ¬(!(d.gridRuns && d.on GRID.NET_OK && d.on (GRID.SRC_EN (hdrSrc hdr))) || d.rd (GRID.SRC_ERR (hdrSrc hdr)) != 0) = true
    simp [hruns, hok, hen, herr]
  · rw [hnet]
    rfl

theorem Dev.tileHeader_of_wrong {n : FusionNet} (hw : hdrWhole hdr) (h : d.takesSrc (hdrSrc hdr)) (hnet : d.grid.net = some n)
    (hwrong : ¬d.tileInside n hdr ∨ d.tileTime now hdr = none) : d.tileHeader now hdr cells = .hdrErr (hdrSrc hdr) := by
  rw [Dev.tileHeader_of_taken hw h hnet]
  split
  · rfl
  · next hin =>
    simp only [Bool.or_eq_true, bne_iff_ne, decide_eq_true_eq] at hin
    push Not at hin
    obtain ⟨⟨⟨hfmt, hsize⟩, hx⟩, hy⟩ := hin
    rw [hwrong.resolve_left (fun hnot => hnot ⟨hfmt, hsize, hx, hy⟩)]

theorem Dev.tileHeader_of_right {n : FusionNet} (hw : hdrWhole hdr) (h : d.takesSrc (hdrSrc hdr)) (hnet : d.grid.net = some n)
    (hin : d.tileInside n hdr) {r cap : Nat} (hr : d.tileTime now hdr = some r)
    (hcap : cap = ((r : Int) + d.rdS (CAM.CAP_DLY (hdrSrc hdr)) * 400).toNat) :
    d.tileHeader now hdr cells = if cap + sec 4 < now then .hist (hdrSrc hdr) else .pass (featureTileOf hdr cells cap) := by
  obtain ⟨hfmt, hsize, hx, hy⟩ := hin
  rw [Dev.tileHeader_of_taken hw h hnet, if_neg, hr, hcap]
  simp only [Bool.or_eq_true, bne_iff_ne, decide_eq_true_eq]
  push Not
  exact ⟨⟨⟨hfmt, hsize⟩, hx⟩, hy⟩

end header

theorem hdrSrc_lt (hdr : List Nat) : hdrSrc hdr < 16 := Nat.mod_lt _ (by decide)

/-- A tile of a SUSPECT source is counted with its age, and not used (R279). -/
theorem Dev.tileAccept_of_suspect (d : Dev) (now : Nat) (t : GridTile) (p : PoseEntry) (hsus : d.rd (GRID.HEALTH t.src) = 3) :
    d.tileAccept now false t p =
      ((d.bump (GRID.SRC_TILES t.src)).modSrc t.src (fun g => { g with cur := { g.cur with tiles := g.cur.tiles + 1 } })).wrU
        (GRID.AGE_LAST t.src) ((now - t.cap) / ms 16 : Nat) := by
  unfold Dev.tileAccept
  extract_lets s x age late y z h
  have hy : y.rd (GRID.HEALTH s) = 3 := by
    refine (Dev.rd_wr_ne _ _ ?_).trans ((Dev.rd_bump_ne d ?_).trans hsus)
    · simp only [Field.key, GRID.AGE_LAST, GRID.HEALTH, s]
      omega
    · simp only [Field.key, GRID.SRC_TILES, GRID.HEALTH, s]
      omega
  have hz : z = y := if_neg (by omega)
  have hh : h = 3 := by rw [← hy, ← hz]
  rw [Bool.false_and, if_neg Bool.false_ne_true]
  split
  · rw [if_neg (by omega), hz]
  · exact hz

theorem featureTile_effect (s : State) (el : Nat) (hdr : List Byte) (cells : List (Fin 16384 × List Byte)) :
    Answers (.featureTile el hdr cells) s (fun now d e => d.alive = true → d.kspUp 0 = true →
      ∀ (w : Nat → Nat) (src : Nat) (cs : List (Nat × List Int)), w = (fun o => ofBytesLE (((hdr.map BitVec.toNat).drop o).take 4)) →
      src = bitsOf (w 0) 8 4 → cs = cells.map (fun x => (x.1.val, x.2.map BitVec.toInt)) →
      (d.grid.held ≠ [] → e = { d with grid := { d.grid with waiting := d.grid.waiting ++ [(now, hdr.map BitVec.toNat, cs)] } }) ∧
      (d.grid.held = [] →
        ((hdr.length < 64 ∨ crc32 ((hdr.map BitVec.toNat).take 60) ≠ w 0x3C ∨ bitsOf (w 0) 0 8 ≠ 0x21) →
          e.rd GRID.DROP_OTHER = counted d GRID.DROP_OTHER ∧ OnlyRegs [GRID.DROP_OTHER] d e) ∧
        (64 ≤ hdr.length → crc32 ((hdr.map BitVec.toNat).take 60) = w 0x3C → bitsOf (w 0) 0 8 = 0x21 →
          ((d.gridRuns = false ∨ d.on GRID.NET_OK = false ∨ d.on (GRID.SRC_EN src) = false ∨ d.rd (GRID.SRC_ERR src) ≠ 0) →
            e.rd GRID.DROP_OTHER = counted d GRID.DROP_OTHER ∧ OnlyRegs [GRID.DROP_OTHER] d e) ∧
          (∀ (n : FusionNet) (raw : Option Nat) (inside : Prop), d.gridRuns = true → d.on GRID.NET_OK = true → d.on (GRID.SRC_EN src) = true →
            d.rd (GRID.SRC_ERR src) = 0 → d.grid.net = some n →
            (inside ↔ bitsOf (w 0) 16 8 = n.featFmt ∧ w 0x18 = 524288 ∧
              bitsOf (w 0x10) 0 16 + 128 ≤ d.rd (CAM.MAP_W src) ∧ bitsOf (w 0x10) 16 16 + 128 ≤ d.rd (CAM.MAP_H src)) →
            raw = (if d.on (CAM.TIMING src) then
                (if now + ms 10 < cyclesOfNs (w 8 + 2 ^ 32 * w 12) then none else some (cyclesOfNs (w 8 + 2 ^ 32 * w 12)))
              else (d.grid.trigs.find? (fun x => x.1 % 65536 == bitsOf (w 4) 16 16 && decide (now ≤ x.2 + sec 8))).map (·.2)) →
            ((¬inside ∨ raw = none) → e.rd (GRID.HDR_ERR src) = counted d (GRID.HDR_ERR src) ∧ OnlyRegs [GRID.HDR_ERR src] d e) ∧
            (∀ r cap, inside → raw = some r → cap = ((r : Int) + d.rdS (CAM.CAP_DLY src) * 400).toNat →
              (cap + sec 4 < now → e.rd GRID.DROP_HIST = counted d GRID.DROP_HIST ∧ e.raised EVT.GRID_TILE_DROP src = true ∧
                OnlyRegsAndEvents [GRID.DROP_HIST] d e) ∧
              (now ≤ cap + sec 4 → d.poseAt cap = .notYet →
                ∀ t : GridTile, t.src = src → t.u0 = bitsOf (w 0x10) 0 16 → t.v0 = bitsOf (w 0x10) 16 16 → t.cap = cap →
                  t.cells = cs.filter (fun x => decide (x.1 < 16384) && !x.2.all (· == -128)) →
                  e = { d with grid := { d.grid with held := [t] } }) ∧
              (now ≤ cap + sec 4 → (d.poseAt cap = .outOfHistory ∨ ∃ p, d.poseAt cap = .found p ∧ p.cls < d.rd GRID.GRID_POSE_MIN) →
                e.rd GRID.DROP_OTHER = counted d GRID.DROP_OTHER ∧ OnlyRegs [GRID.DROP_OTHER] d e) ∧
              (∀ p, now ≤ cap + sec 4 → d.poseAt cap = .found p → d.rd GRID.GRID_POSE_MIN ≤ p.cls → d.grid.waiting = [] →
                d.rd (GRID.HEALTH src) = 3 →
                e.rd (GRID.SRC_TILES src) = counted d (GRID.SRC_TILES src) ∧ (e.gsrc src).cur.tiles = (d.gsrc src).cur.tiles + 1 ∧
                e.rd (GRID.AGE_LAST src) = satU (GRID.AGE_LAST src).width ((now - cap) / ms 16 : Nat) % 2 ^ (GRID.AGE_LAST src).width ∧
                e.grid.blocks = d.grid.blocks ∧ OnlyRegs [GRID.SRC_TILES src, GRID.AGE_LAST src] { d with grid := e.grid } e)))))) := by
  refine answers_of_forall (f := fun now d => if d.alive && d.kspUp 0 then
    d.featureTile now (hdr.map BitVec.toNat) (cells.map (fun x => (x.1.val, x.2.map BitVec.toInt))) else d) rfl
    (fun now d halive hup w src cs hw hsrc hcs => ?_)
  rw [if_pos (by simp [halive, hup]), ← hcs]
  have hlen : hdr.length = (hdr.map BitVec.toNat).length := (List.length_map _).symm
  rw [hlen]
  generalize hdr.map BitVec.toNat = bs at hw
  have hword : w = hdrWord bs := hw
  subst hword
  have hsrc' : src = hdrSrc bs := hsrc
  subst hsrc'
  have hsrc16 := hdrSrc_lt bs
  refine ⟨fun hheld => if_neg (by simpa using hheld), fun hheld => ?_⟩
  have htake : d.featureTile now bs cs = d.takeTile now now bs cs := if_pos (by simp [hheld])
  rw [htake]
  unfold Dev.takeTile
  refine ⟨fun hbad => ?_, fun h64 hcrc htype => ⟨fun hnot => ?_, fun n raw inside hruns hok hen herr hnet hin hraw => ?_⟩⟩
  · rw [Dev.tileHeader_of_not_whole (fun hwhole => by
      obtain ⟨hl, hc, ht⟩ := hwhole
      rcases hbad with h | h | h
      · omega
      · exact h hc
      · exact h ht)]
    exact d.bump_shows _
  · rw [Dev.tileHeader_of_not_taken ⟨h64, hcrc, htype⟩ (fun htaken => by
      obtain ⟨hr, hk, he, hz⟩ := htaken
      simp [hr, hk, he, hz] at hnot)]
    exact d.bump_shows _
  · have hwhole : hdrWhole bs := ⟨h64, hcrc, htype⟩
    have htaken : d.takesSrc (hdrSrc bs) := ⟨hruns, hok, hen, herr⟩
    have htime : d.tileTime now bs = raw := hraw.symm
    refine ⟨fun hwrong => ?_, fun r cap hinside hsome hcap => ?_⟩
    · rw [Dev.tileHeader_of_wrong hwhole htaken hnet (hwrong.imp (fun h => fun h' => h (hin.mpr h')) (htime.trans ·))]
      exact d.bump_shows _
    · rw [Dev.tileHeader_of_right hwhole htaken hnet (hin.mp hinside) (htime.trans hsome) hcap]
      refine ⟨fun hold => ?_, fun hnew hpose t ht hu hv hc hcells => ?_, fun hnew hpose => ?_, fun p hnew hpose hcls hnone hsus => ?_⟩
      · rw [if_pos hold]
        exact ⟨(Dev.rd_fire_of _ _ _ _ _ (by decide) (by decide)).trans (Dev.rd_bump_self _ _),
          Dev.raised_fire _ _ _ _ _ (by omega) (by clear * - hsrc16; generalize hdrSrc bs = x at hsrc16; decide +revert),
          (d.bump_shows _).2.toOnlyRegsAndEvents.thenFire _ _ _ _⟩
      · rw [if_neg (by omega)]
        have htile : featureTileOf bs cs cap = t := by
          cases t
          simp only at ht hu hv hc hcells
          rw [ht, hu, hv, hc, hcells]
          rfl
        rw [htile]
        simp only [Dev.tileCheck6, hc, hpose, hheld, List.nil_append]
      · rw [if_neg (by omega)]
        have hdrop : d.tileCheck6 now (featureTileOf bs cs cap) = d.bump GRID.DROP_OTHER := by
          rcases hpose with h | ⟨p, h, hlow⟩
          · simp only [Dev.tileCheck6, featureTileOf, h]
          · simp only [Dev.tileCheck6, featureTileOf, h]
            exact if_pos hlow
        simp only
        rw [hdrop]
        exact d.bump_shows _
      · rw [if_neg (by omega)]
        have haccept : d.tileCheck6 now (featureTileOf bs cs cap) = d.tileAccept now false (featureTileOf bs cs cap) p := by
          simp only [Dev.tileCheck6, featureTileOf, hpose, hnone, List.any_nil]
          exact if_neg (by omega)
        have hne : (GRID.AGE_LAST (hdrSrc bs)).key ≠ (GRID.SRC_TILES (hdrSrc bs)).key := by
          simp only [Field.key, GRID.AGE_LAST, GRID.SRC_TILES]
          omega
        simp only
        rw [haccept, Dev.tileAccept_of_suspect d now (featureTileOf bs cs cap) p hsus]
        refine ⟨(Dev.rd_wr_ne _ _ hne).trans (Dev.rd_bump_self d _), ?_, Dev.rd_wr_self _ _ _, rfl, ?_⟩
        · exact congrArg (fun g : GridSrc => g.cur.tiles)
            (tget_tmod_self d.grid.src (hdrSrc bs) (fun g => { g with cur := { g.cur with tiles := g.cur.tiles + 1 } }))
        · refine OnlyRegs.thenWr ?_ (by simp [featureTileOf]) _
          exact OnlyRegs.thenBump (OnlyRegs.refl _ _) (by simp [featureTileOf])

/-- Settles O29, command by command. -/
theorem gridAndFeatureTiles : Obligations.GridAndFeatureTiles := by
  unfold Obligations.GridAndFeatureTiles
  exact ⟨fun s el => ⟨cameraTrigger_effect s el, netLoad_effect s el, winClear_effect s el, healthWindow_effect s el, auditReq_effect s el,
    srcRetry_effect s el, pairSnapshot_effect s el, gridPeek_effect s el⟩, featureTile_effect⟩

end Sys2Proof.Machine
end

section
/-! PROOFS. What one actuator channel's operations leave of the others, and of the faults. -/
namespace Sys2Proof.Machine

/-! ### What a channel's operations leave as it was -/

/-- A fault, latch, bank suspension or reading of an actuator page that driving leaves as it is. -/
def Field.isFault (f : Field) : Bool :=
  let o := f.addr % 0x1000
  decide (f.lo < 32 ∧ 0x040000 ≤ f.addr ∧ f.addr < 0x048000 ∧ (o = 0x50 ∨ (o = 0x44 ∧ 1 ≤ f.lo ∧ f.lo ≤ 4) ∨
    (0x100 ≤ o ∧ ((o % 0x40 = 8 ∧ (f.lo = 8 ∨ f.lo = 11 ∨ f.lo = 16)) ∨ (o % 0x40 = 0x14 ∧ f.lo = 0)))))

/-- A field that the driving of channel `c` may write: no fault, and no other channel's count or warning. -/
def Field.drives (c : Nat) (f : Field) : Bool :=
  decide (f.lo < 32) && !f.isFault &&
    (List.range 32).all (fun k => k == c || (f.key != (IDC.PULSE_CNT k).key && f.key != (IDC.PK_WARN k).key))

theorem Field.key_ne_of_isFault {f g : Field} (hf : f.lo < 32) (hnot : f.isFault = false) (hg : g.isFault = true) : f.key ≠ g.key := by
  intro hkey
  simp only [Field.isFault, decide_eq_true_eq, decide_eq_false_iff_not] at hnot hg
  have haddr : f.addr = g.addr := by
    simp only [Field.key] at hkey
    omega
  have hlo : f.lo = g.lo := by
    simp only [Field.key] at hkey
    omega
  rw [haddr, hlo] at hnot
  exact hnot hg

theorem Field.ofEvents_of_isFault {g : Field} (hg : g.isFault = true) : g.lo < 32 ∧ g.ofEvents = false := by
  simp only [Field.isFault, decide_eq_true_eq] at hg
  refine ⟨hg.1, ?_⟩
  simp only [Field.ofEvents, Bool.or_eq_false_iff, Bool.and_eq_false_iff, decide_eq_false_iff_not, beq_eq_false_iff_ne]
  omega

/-- A channel's latch, and what it is commanded to: whether it is on, and on what grid. -/
def IdcCh.plan (x : IdcCh) : Bool × Bool × Option PulseGrid := (x.latched, x.comOn, x.grid)

/-- No fault, latch or reading of an actuator changes, and no channel's command. -/
structure FaultsKept (d e : Dev) : Prop where
  faults : ∀ f : Field, f.isFault = true → e.rd f = d.rd f
  plan : ∀ k, (e.idcCh k).plan = (d.idcCh k).plan

theorem FaultsKept.latched {d e : Dev} (h : FaultsKept d e) (k : Nat) : (e.idcCh k).latched = (d.idcCh k).latched :=
  (congrArg Prod.fst (h.plan k) :)

/-- What the operations of another channel leave of channel `k`. -/
def Dev.idcView (d : Dev) (k : Fin 32) : IdcCh × Nat × Nat := (d.idcCh k, d.rd (IDC.PULSE_CNT k), d.rd (IDC.PK_WARN k))

/-- Channel `c` is driven: the other channels and the faults stay as they are. -/
structure DriveOf (c : Nat) (d e : Dev) : Prop where
  others : ∀ k : Fin 32, k.val ≠ c → e.idcView k = d.idcView k
  kept : FaultsKept d e

section
variable {c : Nat} {a b d e : Dev}

theorem FaultsKept.refl (d : Dev) : FaultsKept d d := ⟨fun _ _ => rfl, fun _ => rfl⟩

theorem FaultsKept.trans (h : FaultsKept a b) (g : FaultsKept b d) : FaultsKept a d :=
  ⟨fun f hf => (g.faults f hf).trans (h.faults f hf), fun k => (g.plan k).trans (h.plan k)⟩

theorem FaultsKept.ite {p : Prop} [Decidable p] {x y : Dev} (hx : FaultsKept d x) (hy : FaultsKept d y) : FaultsKept d (if p then x else y) := by
  split
  · exact hx
  · exact hy

theorem FaultsKept.each {γ : Type} (l : List γ) (f : Dev → γ → Dev) (h : ∀ d, ∀ x ∈ l, FaultsKept d (f d x)) (d : Dev) :
    FaultsKept d (d.each l f) := by
  unfold Dev.each
  induction l generalizing d with
  | nil => exact FaultsKept.refl d
  | cons x l ih => exact (h d x (by simp)).trans (ih (fun d y hy => h d y (by simp [hy])) _)

theorem FaultsKept.wr (d : Dev) (f : Field) (v : Nat) (hf : f.lo < 32 ∧ f.isFault = false) : FaultsKept d (d.wr f v) :=
  ⟨fun _ hg => Dev.rd_wr_ne d v (Field.key_ne_of_isFault hf.1 hf.2 hg), fun _ => rfl⟩

theorem FaultsKept.modIdc (d : Dev) (c : Nat) (f : IdcCh → IdcCh) (hf : ∀ x, (f x).plan = x.plan) :
    FaultsKept d (d.modIdc c f) :=
  ⟨fun _ _ => rfl, fun k => tget_tmod_keeps IdcCh.plan d.idc c hf k⟩

theorem DriveOf.refl (c : Nat) (d : Dev) : DriveOf c d d := ⟨fun _ _ => rfl, FaultsKept.refl d⟩

theorem DriveOf.trans (h : DriveOf c a b) (g : DriveOf c b d) : DriveOf c a d :=
  ⟨fun k hk => (g.others k hk).trans (h.others k hk), h.kept.trans g.kept⟩

theorem DriveOf.ite {p : Prop} [Decidable p] {x y : Dev} (hx : p → DriveOf c d x) (hy : ¬p → DriveOf c d y) :
    DriveOf c d (if p then x else y) := by
  split
  · exact hx ‹_›
  · exact hy ‹_›

theorem DriveOf.opt {p : Prop} [Decidable p] {x : Dev} (hx : DriveOf c d x) : DriveOf c d (if p then x else d) :=
  DriveOf.ite (fun _ => hx) (fun _ => DriveOf.refl c d)

theorem DriveOf.wr (d : Dev) (f : Field) (v : Nat) (hf : f.drives c = true) : DriveOf c d (d.wr f v) := by
  simp only [Field.drives, Bool.and_eq_true, decide_eq_true_eq, List.all_eq_true, List.mem_range, Bool.or_eq_true, beq_iff_eq, bne_iff_ne,
    Bool.not_eq_true'] at hf
  obtain ⟨⟨hlo, hnot⟩, hother⟩ := hf
  refine ⟨fun k hk => ?_, FaultsKept.wr d f v ⟨hlo, hnot⟩⟩
  obtain ⟨hcnt, hwarn⟩ := (hother k k.isLt).resolve_left hk
  unfold Dev.idcView
  rw [Dev.rd_wr_ne d v hcnt, Dev.rd_wr_ne d v hwarn]
  rfl

theorem DriveOf.bump (d : Dev) (f : Field) (hf : f.drives c = true) : DriveOf c d (d.bump f) := DriveOf.wr d f _ hf

theorem DriveOf.modIdc (d : Dev) (c : Nat) (f : IdcCh → IdcCh) (hf : ∀ x, (f x).plan = x.plan) :
    DriveOf c d (d.modIdc c f) :=
  ⟨fun _ hk => Prod.ext (Dev.idcCh_modIdc_ne d f (Ne.symm hk)) rfl, FaultsKept.modIdc d c f hf⟩

/-- An operation that leaves the channels and every register of their pages. -/
theorem DriveOf.of_rd (hrd : ∀ f : Field, f.lo < 32 → f.ofEvents = false → 0x040000 ≤ f.addr → e.rd f = d.rd f) (hidc : e.idc = d.idc) :
    DriveOf c d e := by
  have hch : ∀ k, e.idcCh k = d.idcCh k := fun k => congrArg (fun t => tget t k) hidc
  refine ⟨fun k _hne => Prod.ext (hch k) (Prod.ext (hrd _ ?_ ?_ ?_) (hrd _ ?_ ?_ ?_)), fun f hf => ?_, fun k => by rw [hch k]⟩
  any_goals clear * - k; decide +revert
  obtain ⟨hlo, hev⟩ := Field.ofEvents_of_isFault hf
  simp only [Field.isFault, decide_eq_true_eq] at hf
  exact hrd f hlo hev hf.2.1

theorem DriveOf.fire (d : Dev) (now ev inst val : Nat) : DriveOf c d (d.fire now ev inst val) :=
  DriveOf.of_rd (fun _ hlo hev _ => Dev.rd_fire_of d now ev inst val hlo hev) (Dev.fire_idc _ _ _ _ _)

theorem DriveOf.of_regs (hregs : e.regs = d.regs) (hidc : e.idc = d.idc) : DriveOf c d e :=
  DriveOf.of_rd (fun f _ _ _ => by simp [Dev.rd, hregs]) hidc

theorem CovPair.driveOf (h : CovPair d e) : DriveOf c d e :=
  have ht : ConfTouch d e := h.touches (by intros; rfl)
  DriveOf.of_rd (fun f hlo hev ha => ht.rd f hlo hev (by simpa using Or.inr (by omega))) (congrArg Dev.idc ht.rest :)

theorem ConfTouch.driveOf (h : ConfTouch d e) : DriveOf c d e :=
  DriveOf.of_rd (fun f hlo hev ha => h.rd f hlo hev (by simpa using Or.inr (by omega))) (congrArg Dev.idc h.rest :)

end

/-! ### Records -/

/-- The channel without its counts of missed kinks. -/
def IdcCh.sansMiss (x : IdcCh) : IdcCh := { x with runMissO := 0, runMissS := 0 }

/-- The channel without what the end of a record changes. -/
def IdcCh.sansRecord (x : IdcCh) : IdcCh :=
  { x with done := none, offFrom := 0, lastRec := [], coilTemp := none, runMissO := 0, runMissS := 0 }

theorem IDC.pulse_cnt_plain {c : Nat} (hc : c < 32) :
    (IDC.PULSE_CNT c).lo < 32 ∧ (IDC.PULSE_CNT c).ofEvents = false ∧ 0x040000 ≤ (IDC.PULSE_CNT c).addr := by
  decide +revert

/-- What follows the record of channel `c`: it changes no more of the channel than its counts of missed kinks. -/
structure AfterRecord (c : Nat) (d e : Dev) : Prop where
  drive : DriveOf c d e
  self : (e.idcCh c).sansMiss = (d.idcCh c).sansMiss
  count : e.rd (IDC.PULSE_CNT c) = d.rd (IDC.PULSE_CNT c)

section
variable {c : Nat} {a b d e : Dev}

theorem AfterRecord.refl (c : Nat) (d : Dev) : AfterRecord c d d := ⟨DriveOf.refl c d, rfl, rfl⟩

theorem AfterRecord.trans (h : AfterRecord c a b) (g : AfterRecord c b d) : AfterRecord c a d :=
  ⟨h.drive.trans g.drive, g.self.trans h.self, g.count.trans h.count⟩

theorem AfterRecord.opt {p : Prop} [Decidable p] {x : Dev} (hx : AfterRecord c d x) : AfterRecord c d (if p then x else d) := by
  split
  · exact hx
  · exact AfterRecord.refl c d

theorem AfterRecord.wr (d : Dev) (f : Field) (v : Nat) (hf : f.drives c = true ∧ f.key ≠ (IDC.PULSE_CNT c).key) : AfterRecord c d (d.wr f v) :=
  ⟨DriveOf.wr d f v hf.1, rfl, Dev.rd_wr_ne d v hf.2⟩

theorem AfterRecord.of_rd (hc : c < 32) (hrd : ∀ f : Field, f.lo < 32 → f.ofEvents = false → 0x040000 ≤ f.addr → e.rd f = d.rd f)
    (hidc : e.idc = d.idc) : AfterRecord c d e :=
  ⟨DriveOf.of_rd hrd hidc, congrArg (fun t => (tget t c).sansMiss) hidc,
    hrd _ (IDC.pulse_cnt_plain hc).1 (IDC.pulse_cnt_plain hc).2.1 (IDC.pulse_cnt_plain hc).2.2⟩

theorem AfterRecord.fire (hc : c < 32) (d : Dev) (now ev inst val : Nat) : AfterRecord c d (d.fire now ev inst val) :=
  AfterRecord.of_rd hc (fun _ hlo hev _ => Dev.rd_fire_of d now ev inst val hlo hev) (Dev.fire_idc _ _ _ _ _)

theorem AfterRecord.of_regs (hc : c < 32) (hregs : e.regs = d.regs) (hidc : e.idc = d.idc) : AfterRecord c d e :=
  AfterRecord.of_rd hc (fun f _ _ _ => by simp [Dev.rd, hregs]) hidc

theorem ConfTouch.afterRecord (hc : c < 32) (h : ConfTouch d e) : AfterRecord c d e :=
  AfterRecord.of_rd hc (fun f hlo hev ha => h.rd f hlo hev (by simpa using Or.inr (by omega))) (congrArg Dev.idc h.rest :)

end

theorem afterRecord_kinkMiss (d : Dev) (now : Nat) {c : Nat} (hc : c < 32) (openKind missed : Bool) :
    AfterRecord c d (d.kinkMiss now c openKind missed) := by
  unfold Dev.kinkMiss
  extract_lets ch run run' lost d1 d2
  have h1 : AfterRecord c d d1 := by
    refine ⟨DriveOf.modIdc d c _ (fun x => by cases openKind <;> rfl), ?_, rfl⟩
    unfold d1
    rw [Dev.idcCh_modIdc_self]
    cases openKind <;> rfl
  have h2 : AfterRecord c d1 d2 := AfterRecord.opt (by
    cases openKind
    · exact AfterRecord.wr _ _ _ (by clear * - hc; decide +revert)
    · exact AfterRecord.wr _ _ _ (by clear * - hc; decide +revert))
  exact (h1.trans h2).trans (AfterRecord.opt (AfterRecord.fire hc _ _ _ _ _))

theorem afterRecord_kspSend (d : Dev) {c : Nat} (hc : c < 32) (n vc : Nat) (bs : List Nat) : AfterRecord c d (d.kspSend n vc bs) :=
  have h := d.sansSend_kspSend n vc bs
  AfterRecord.of_regs hc (congrArg Dev.regs h :) (congrArg Dev.idc h :)

theorem afterRecord_tstRecord (d : Dev) {c : Nat} (hc : c < 32) (p : Pulse) (ce : Nat) : AfterRecord c d (d.tstRecord c p ce) := by
  unfold Dev.tstRecord
  split
  · exact AfterRecord.refl c d
  · exact AfterRecord.of_regs hc rfl rfl

/-- The latencies and the confirmation that a record gives its point. -/
theorem afterRecord_point (d : Dev) (now : Nat) {c : Nat} (hc : c < 32) (n : Nat) (o s : Option Nat) (uo us : Bool) (lo ls : Nat → Int) (cmd : Nat)
    (temp : Int) (ot st : Option Nat) : AfterRecord c d
      (let d := match o with
          | some t => if uo then d.latSample now n true (lo t) temp else d
          | none => d
        let d := match s with
          | some t => if us then d.latSample now n false (ls t) temp else d
          | none => d
        d.covRecord now n cmd ot st) := by
  extract_lets d1 d2
  have h1 : AfterRecord c d d1 := by
    cases o with
    | none => exact AfterRecord.refl c d
    | some t => exact AfterRecord.opt ((confTouch_latSample _ _ _ _ _ _).afterRecord hc)
  have h2 : AfterRecord c d1 d2 := by
    cases s with
    | none => exact AfterRecord.refl c d1
    | some t => exact AfterRecord.opt ((confTouch_latSample _ _ _ _ _ _).afterRecord hc)
  exact (h1.trans h2).trans ((confTouch_covRecord _ _ _ _ _ _).afterRecord hc)

/-- What a record names its pulse by. -/
def Pulse.names (p : Pulse) : Option Nat × Nat × Nat := (p.pt, p.seq, p.cmd)

theorem Dev.names_recTimes (d : Dev) (p : Pulse) : (d.recTimes p).1.names = p.names := by
  have hif : ∀ {b : Prop} [Decidable b] {x y : Pulse}, x.names = p.names → y.names = p.names → (if b then x else y).names = p.names := by
    intro b _ x y hx hy
    split
    · exact hx
    · exact hy
  unfold Dev.recTimes
  extract_lets lat p1 p2 lost op p3
  have h1 : p1.names = p.names := hif rfl rfl
  have h2 : p2.names = p.names := hif h1 h1
  have h3 : p3.names = p.names := by
    have hop : op.1 = if p2.prof.okEn then p2 else p2.flag 9 := apply_ite Prod.fst _ _ _
    have : p3.names = (if p2.prof.okEn then p2 else p2.flag 9).names := congrArg Pulse.names hop
    rw [this]
    exact hif h2 h2
  split
  · exact h3
  · split
    · exact h3
    · exact h3

/-- The channel keeps the words of its record, and its closing window ends. -/
def Dev.recordTaken (d : Dev) (now c : Nat) (p : Pulse) : Dev :=
  let r := d.recTimes { p with seatT := p.sense.best.map (·.2) }
  let coil := d.on (IDC.TEMP_SRC c) && d.rd (IDC.R26 c) != 0
  let temp := d.recTemp c r.1
  (d.closeWindow now c).modIdc c (fun x =>
    { x with
      lastRec := recWords c r.1 r.2.1 r.2.2 temp
      coilTemp := if coil && (r.1.coilTemp (d.rd (vpwrField (c / 8))) (d.rd (IDC.R26 c))).isSome then some temp else x.coilTemp })

theorem Dev.idcCh_recordTaken (d : Dev) (now c : Nat) (p : Pulse) {x : IdcCh} (hx : (d.recordTaken now c p).idcCh c = x) :
    x.done = none ∧ (∃ r ot st temp, r.names = p.names ∧ x.lastRec = recWords c r ot st temp) ∧
      x.sansRecord = (d.idcCh c).sansRecord := by
  have hclose : (d.closeWindow now c).idcCh c = { d.idcCh c with done := none, offFrom := now } := Dev.idcCh_modIdc_self d c _
  rw [← hx]
  unfold Dev.recordTaken
  extract_lets r coil temp
  rw [Dev.idcCh_modIdc_self, hclose]
  exact ⟨rfl, ⟨r.1, r.2.1, r.2.2, temp, d.names_recTimes _, rfl⟩, rfl⟩

/-- A record that is completed. -/
theorem Dev.afterRecord_finishRecord {d : Dev} {c : Nat} {p : Pulse} (hc : c < 32) (now : Nat) (hdone : (d.idcCh c).done = some p)
    (hheld : (p.held || (d.idcCh c).holdEnd.isSome) = false) : AfterRecord c (d.recordTaken now c p) (d.finishRecord now c) := by
  unfold Dev.finishRecord
  split
  · next hnone => simp [hnone] at hdone
  next q hq =>
  obtain rfl : q = p := Option.some.inj (hq.symm.trans hdone)
  rw [if_neg (ne_true_of_eq_false hheld)]
  extract_lets r q coil temp ws d1 d2 d3 d4 use ce d5 d6
  have h2 : AfterRecord c d1 d2 := (AfterRecord.wr d1 (IDC.TEMP_LAST c) _ (by clear * - hc; decide +revert)).trans
    (AfterRecord.wr _ (IDC.PK_WARN c) _ (by clear * - hc; decide +revert))
  have h3 : AfterRecord c d2 d3 := AfterRecord.opt (afterRecord_kinkMiss d2 now hc _ _)
  have h4 : AfterRecord c d3 d4 := AfterRecord.opt (afterRecord_kinkMiss d3 now hc _ _)
  have h5 : AfterRecord c d4 d5 := by
    show AfterRecord c d4 (match q.pt with
      | none => d4
      | some n => _)
    split
    · exact AfterRecord.refl c d4
    · exact afterRecord_point d4 now hc _ _ _ _ _ _ _ _ _ _ _
  have h6 : AfterRecord c d5 d6 := afterRecord_tstRecord d5 hc _ _
  exact ((((h2.trans h3).trans h4).trans h5).trans h6).trans (AfterRecord.opt (afterRecord_kspSend d6 hc _ _ _))

/-- What the end of a closing window leaves of its channel, by case. -/
theorem Dev.finishRecord_of_none {d : Dev} {c : Nat} (now : Nat) (h : (d.idcCh c).done = none) : d.finishRecord now c = d := by
  unfold Dev.finishRecord
  rw [h]

theorem Dev.finishRecord_of_held {d : Dev} {c : Nat} {p : Pulse} (now : Nat) (hdone : (d.idcCh c).done = some p)
    (hheld : (p.held || (d.idcCh c).holdEnd.isSome) = true) : d.finishRecord now c = d.closeWindow now c := by
  unfold Dev.finishRecord
  rw [hdone]
  exact if_pos hheld

theorem driveOf_recordTaken (d : Dev) (now c : Nat) (p : Pulse) : DriveOf c d (d.recordTaken now c p) :=
  (DriveOf.modIdc d c _ (by intro; rfl)).trans (DriveOf.modIdc _ c _ (by intro; rfl))

theorem driveOf_finishRecord (d : Dev) (now : Nat) {c : Nat} (hc : c < 32) : DriveOf c d (d.finishRecord now c) := by
  cases hdone : (d.idcCh c).done with
  | none =>
    rw [d.finishRecord_of_none now hdone]
    exact DriveOf.refl c d
  | some p =>
    cases hheld : p.held || (d.idcCh c).holdEnd.isSome with
    | true =>
      rw [d.finishRecord_of_held now hdone hheld]
      exact DriveOf.modIdc d c _ (by intro; rfl)
    | false => exact (driveOf_recordTaken d now c p).trans (d.afterRecord_finishRecord hc now hdone hheld).drive

theorem Dev.idcCh_finishRecord (d : Dev) (now : Nat) {c : Nat} (hc : c < 32) :
    ((d.finishRecord now c).idcCh c).sansRecord = (d.idcCh c).sansRecord ∧
      (d.finishRecord now c).rd (IDC.PULSE_CNT c) = d.rd (IDC.PULSE_CNT c) := by
  cases hdone : (d.idcCh c).done with
  | none =>
    rw [d.finishRecord_of_none now hdone]
    exact ⟨rfl, rfl⟩
  | some p =>
    cases hheld : p.held || (d.idcCh c).holdEnd.isSome with
    | true =>
      rw [d.finishRecord_of_held now hdone hheld]
      refine ⟨?_, rfl⟩
      unfold Dev.closeWindow
      rw [Dev.idcCh_modIdc_self]
      rfl
    | false =>
      have h := d.afterRecord_finishRecord hc now hdone hheld
      have hself := congrArg IdcCh.sansRecord h.self
      exact ⟨hself.trans (d.idcCh_recordTaken now c p rfl).2.2, h.count⟩

/-! ### Starting and ending pulses -/

/-- The pulse `q` is `p` as it starts at `now`. -/
structure Pulse.Started (p : Pulse) (now : Nat) (limit : Option Nat) (q : Pulse) : Prop where
  prof : q.prof = p.prof
  cmd : q.cmd = p.cmd
  cmdEnd : q.cmdEnd = p.cmdEnd
  start : q.start = now
  delay : q.delay = now - p.waitFrom
  phase : q.phase = 0
  phaseAt : q.phaseAt = now
  flags : ∀ i, bitOf p.flags i = true → bitOf q.flags i = true
  shared : limit.isSome = true → bitOf q.flags 1 = true
  limited : q.limit = limit

theorem Pulse.flag_keeps (p : Pulse) (b : Nat) {i : Nat} (h : bitOf p.flags i = true) : bitOf (p.flag b).flags i = true :=
  bitOf_setBitOf_keeps _ _ _ h

theorem Pulse.flag_sets (p : Pulse) (b : Nat) : bitOf (p.flag b).flags b = true := bitOf_setBitOf_self _ _

theorem Pulse.enter_eq (p : Pulse) (k t : Nat) : ∃ q, p.enter k t = { p with phase := k, phaseAt := t, sense := q } := by
  unfold Pulse.enter
  extract_lets q on
  split
  · exact ⟨_, rfl⟩
  · exact ⟨_, rfl⟩

theorem idc_opt_bump (d : Dev) (b : Bool) (f : Field) : (if b then d.bump f else d).idc = d.idc := by
  split <;> rfl

theorem rd_opt_bump {d : Dev} (b : Bool) (f : Field) {g : Field} (h : f.key ≠ g.key) : (if b then d.bump f else d).rd g = d.rd g := by
  split
  · exact Dev.rd_bump_ne d h
  · rfl

theorem Dev.startPulse_spec {d : Dev} {c : Nat} {p : Pulse} (hc : c < 32) (now : Nat) (limit : Option Nat)
    (hp : (d.idcCh c).pulse = some p) :
    DriveOf c d (d.startPulse now c limit) ∧
      (((d.startPulse now c limit).idcCh c).act = .on ∧ ((d.startPulse now c limit).idcCh c).cmds = (d.idcCh c).cmds) ∧
      (∃ q, ((d.startPulse now c limit).idcCh c).pulse = some q ∧ p.Started now limit q ∧ q.seq = ((d.idcCh c).seq + 1) % 65536) ∧
      (d.startPulse now c limit).rd (IDC.PULSE_CNT c) = counted d (IDC.PULSE_CNT c) := by
  unfold Dev.startPulse
  split
  · next hnone => simp [hnone] at hp
  next p' hp' =>
  obtain rfl : p = p' := Option.some.inj (hp.symm.trans hp')
  extract_lets d1 p1 p2 seq p3 p4 d2 g d3 d4 d5 d6 d7
  have hrec := d.idcCh_finishRecord now hc
  have h1 : DriveOf c d d1 := driveOf_finishRecord d now hc
  have h2 : DriveOf c d1 d2 := DriveOf.modIdc d1 c _ (by intro; rfl)
  have h3 : DriveOf c d2 d3 := DriveOf.opt (DriveOf.bump _ _ (by subst g; clear * - hc; decide +revert))
  have h4 : DriveOf c d3 d4 := DriveOf.opt (DriveOf.bump _ _ (by subst g; clear * - hc; decide +revert))
  have h5 : DriveOf c d4 d5 := DriveOf.opt (DriveOf.bump _ _ (by subst g; clear * - hc; decide +revert))
  have h6 : DriveOf c d5 d6 := DriveOf.bump _ _ (by clear * - hc; decide +revert)
  have h7 : DriveOf c d6 d7 := DriveOf.opt (DriveOf.bump _ _ (by clear * - hc; decide +revert))
  have hch : d7.idcCh c = d2.idcCh c :=
    congrArg (fun t => tget t c) ((idc_opt_bump _ _ _).trans ((idc_opt_bump _ _ _).trans ((idc_opt_bump _ _ _).trans (idc_opt_bump _ _ _))))
  have hcnt : d7.rd (IDC.PULSE_CNT c) = counted d (IDC.PULSE_CNT c) := by
    have hkey : ∀ x : Dev, x.rd (IDC.PULSE_CNT c) = d.rd (IDC.PULSE_CNT c) →
        counted x (IDC.PULSE_CNT c) = counted d (IDC.PULSE_CNT c) := fun x hx => congrArg (fun n => min (2 ^ 32 - 1) (n + 1)) hx
    refine (rd_opt_bump _ _ (by clear * - hc; decide +revert)).trans ((Dev.rd_bump_self d5 _).trans (hkey d5 ?_))
    refine (rd_opt_bump _ _ (by subst g; clear * - hc; decide +revert)).trans ((rd_opt_bump _ _ (by subst g; clear * - hc; decide +revert)).trans
      ((rd_opt_bump _ _ (by subst g; clear * - hc; decide +revert)).trans hrec.2))
  have hself : d2.idcCh c = { d1.idcCh c with act := .on, decay := false, pulse := some p4, seq := seq } := Dev.idcCh_modIdc_self d1 c _
  have hseq : (d1.idcCh c).seq = (d.idcCh c).seq := (congrArg IdcCh.seq hrec.1 :)
  have hstart : p.Started now limit p4 ∧ p4.seq = ((d.idcCh c).seq + 1) % 65536 := by
    obtain ⟨q, hq⟩ := p3.enter_eq 0 now
    have h4 : ∃ q, p4 = { p3 with phase := 0, phaseAt := now, sense := q } := by
      unfold p4
      rw [hq]
      exact ⟨_, rfl⟩
    clear_value p4
    obtain ⟨q', rfl⟩ := h4
    have hflags : ∀ i, bitOf p1.flags i = true → bitOf p2.flags i = true := fun i hi => by
      unfold p2
      split
      · exact p1.flag_keeps 12 hi
      · exact hi
    have hnames : p2.prof = p.prof ∧ p2.cmd = p.cmd ∧ p2.cmdEnd = p.cmdEnd ∧ p2.waitFrom = p.waitFrom := by
      unfold p2 p1
      split <;> split <;> exact ⟨rfl, rfl, rfl, rfl⟩
    obtain ⟨hprof, hcmd, hend, hwait⟩ := hnames
    refine ⟨⟨hprof, hcmd, hend, rfl, congrArg (now - ·) hwait, rfl, rfl, fun i hi => hflags i ?_, fun hl => hflags 1 ?_, rfl⟩,
      congrArg (fun n => (n + 1) % 65536) hseq⟩
    · unfold p1
      split
      · exact p.flag_keeps 1 hi
      · exact hi
    · unfold p1
      rw [if_pos hl]
      exact p.flag_sets 1
  have hmain : DriveOf c d d7 := (((((h1.trans h2).trans h3).trans h4).trans h5).trans h6).trans h7
  have hcmds : (d1.idcCh c).cmds = (d.idcCh c).cmds := (congrArg IdcCh.cmds hrec.1 :)
  have h7on : ((d7.idcCh c).act = .on ∧ (d7.idcCh c).cmds = (d.idcCh c).cmds) ∧ (∃ q, (d7.idcCh c).pulse = some q ∧ p.Started now limit q ∧ q.seq = ((d.idcCh c).seq + 1) % 65536) := by
    rw [hch, hself]
    exact ⟨⟨rfl, hcmds⟩, p4, rfl, hstart⟩
  clear_value d7 p4
  split
  · next n _ =>
    have hpaint : CovPair d7 (d7.covPulseStart n p4.cmd) := covPair_modPaint _ _ _
    exact ⟨hmain.trans hpaint.driveOf, h7on.1, h7on.2, hcnt⟩
  · exact ⟨hmain, h7on.1, h7on.2, hcnt⟩

theorem driveOf_startPulse (d : Dev) (now : Nat) {c : Nat} (hc : c < 32) (limit : Option Nat) : DriveOf c d (d.startPulse now c limit) := by
  cases hp : (d.idcCh c).pulse with
  | none =>
    unfold Dev.startPulse
    rw [hp]
    exact DriveOf.refl c d
  | some p => exact (d.startPulse_spec hc now limit hp).1

theorem driveOf_admitStart (d : Dev) (now : Nat) {c : Nat} (hc : c < 32) : DriveOf c d (d.admitStart now c) := by
  unfold Dev.admitStart
  split
  · exact DriveOf.refl c d
  extract_lets g load lim head pol ahead share q
  exact DriveOf.ite (fun _ => driveOf_startPulse d now hc _)
    (fun _ => DriveOf.ite (fun _ => driveOf_startPulse d now hc _) (fun _ => DriveOf.modIdc d c _ (by intro; rfl)))

theorem driveOf_askStart (d : Dev) (now : Nat) {c : Nat} (hc : c < 32) : DriveOf c d (d.askStart now c) := by
  have hgo : ∀ p : Pulse, DriveOf c d ((d.modIdc c (fun x => { x with pulse := some p })).admitStart now c) := fun p =>
    (DriveOf.modIdc d c _ (by intro; rfl)).trans (driveOf_admitStart _ now hc)
  unfold Dev.askStart
  split
  · exact DriveOf.refl c d
  extract_lets p minOn
  split
  · exact DriveOf.ite (fun _ => DriveOf.ite (fun _ => DriveOf.modIdc d c _ (by intro; rfl)) (fun _ => hgo _)) (fun _ => hgo _)
  · exact hgo _

theorem driveOf_endDrive (d : Dev) (now c : Nat) (fl : List Nat) (slow : Bool) : DriveOf c d (d.endDrive now c fl slow) := by
  unfold Dev.endDrive
  split
  · exact DriveOf.modIdc d c _ (by intro; rfl)
  · exact DriveOf.refl c d

theorem driveOf_dropStart (d : Dev) (now c : Nat) : DriveOf c d (d.dropStart now c) := DriveOf.opt (DriveOf.modIdc d c _ (by intro; rfl))

theorem driveOf_cancelStart (d : Dev) (now : Nat) {c : Nat} (hc : c < 32) : DriveOf c d (d.cancelStart now c) :=
  DriveOf.opt ((driveOf_dropStart d now c).trans (DriveOf.bump _ _ (by clear * - hc; decide +revert)))

theorem driveOf_idcOn (d : Dev) (now : Nat) {c : Nat} (hc : c < 32) (k : DrvCmd) : DriveOf c d (d.idcOn now c k) := by
  unfold Dev.idcOn
  extract_lets ch d1
  have h1 : DriveOf c d d1 := by
    subst d1
    split
    · exact DriveOf.refl c d
    · exact (covPair_covPulseCmd _ _ _).driveOf
    · exact DriveOf.refl c d
  refine h1.trans (DriveOf.ite (fun _ => DriveOf.refl c d1) (fun _ => ?_))
  split
  · exact DriveOf.modIdc d1 c _ (by intro; rfl)
  · exact DriveOf.ite (fun _ => DriveOf.modIdc d1 c _ (by intro; rfl)) (fun _ => (DriveOf.modIdc d1 c _ (by intro; rfl)).trans (driveOf_askStart _ _ hc))

theorem driveOf_idcOff (d : Dev) (now : Nat) {c : Nat} (hc : c < 32) (k : DrvCmd) : DriveOf c d (d.idcOff now c k) := by
  have hend : ∀ (p : Pulse) fl, DriveOf c d ((d.modIdc c (fun x => { x with pulse := some p })).endDrive now c fl false) := fun p fl =>
    (DriveOf.modIdc d c _ (by intro; rfl)).trans (driveOf_endDrive _ _ _ _ _)
  unfold Dev.idcOff
  dsimp only
  split
  · split
    · exact DriveOf.ite (fun _ => hend _ _) (fun _ => DriveOf.modIdc d c _ (by intro; rfl))
    · exact DriveOf.ite (fun _ => driveOf_endDrive _ _ _ _ _) (fun _ => DriveOf.ite (fun _ => DriveOf.modIdc d c _ (by intro; rfl)) (fun _ => hend _ _))
  · exact driveOf_cancelStart d now hc

/-! ### Showing a group, and admitting again -/

/-- What is shown of a group changes no channel, no fault and no count. -/
structure Shows (d e : Dev) : Prop where
  idc : e.idc = d.idc
  view : ∀ k, e.idcView k = d.idcView k
  kept : FaultsKept d e

theorem Shows.trans {a b d : Dev} (h : Shows a b) (g : Shows b d) : Shows a d :=
  ⟨g.idc.trans h.idc, fun k => (g.view k).trans (h.view k), h.kept.trans g.kept⟩

theorem Shows.wr (d : Dev) (f : Field) (v : Nat) (hf : f.drives 32 = true) : Shows d (d.wr f v) :=
  have h := DriveOf.wr (c := 32) d f v hf
  ⟨rfl, fun k => h.others k (by omega), h.kept⟩

theorem Shows.each {γ : Type} (l : List γ) (f : Dev → γ → Dev) (h : ∀ d, ∀ x ∈ l, Shows d (f d x)) (d : Dev) : Shows d (d.each l f) := by
  unfold Dev.each
  induction l generalizing d with
  | nil => exact ⟨rfl, fun _ => rfl, FaultsKept.refl d⟩
  | cons x l ih => exact (h d x (by simp)).trans (ih (fun d y hy => h d y (by simp [hy])) _)

theorem Shows.idcCh {d e : Dev} (h : Shows d e) (k : Nat) : e.idcCh k = d.idcCh k := congrArg (fun t => tget t k) h.idc

theorem shows_idcShow (d : Dev) {g : Nat} (hg : g < 8) : Shows d (d.idcShow g) := by
  unfold Dev.idcShow
  extract_lets d1 load hsg w
  have h1 : Shows d d1 := Shows.each _ _ (fun x c hc => by
    have hc := groupChs_lt hg hc
    exact (Shows.wr x (IDC.CH_STATE c) _ (by clear * - hc; decide +revert)).trans
      (Shows.wr _ (IDC.PHASE c) _ (by clear * - hc; decide +revert))) d
  exact ((h1.trans (Shows.wr d1 (IDG.LOAD_NOW g) _ (by clear * - hg; decide +revert))).trans
    (Shows.wr _ (IDG.HSG_ON g) _ (by clear * - hg; decide +revert))).trans (Shows.wr _ (IDG.WAITING g) _ (by clear * - hg; decide +revert))

/-- The limit of a pulse that drives with less than its peak rises with the headroom. -/
def Dev.raiseLimit (d : Dev) (g c : Nat) : Dev :=
  match (d.idcCh c).act, (d.idcCh c).pulse with
  | .on, some p =>
    (match p.limit with
     | some l =>
       let head := d.peakLim g - d.groupLoad g c
       d.modIdc c (fun x => { x with pulse := some { p with limit := if p.prof.iPk ≤ head then none else some (max l head) } })
     | none => d)
  | _, _ => d

/-- The channels of a group whose starts wait, by the DT of their commands. -/
def Dev.waiting (d : Dev) (now g : Nat) : List Nat :=
  let key : Nat → Nat := fun c => ((d.idcCh c).pulse.map (·.cmd)).getD 0
  ((groupChs g).filter (fun c => (d.idcCh c).act == .wait && !(d.idcCh c).offDue now)).mergeSort
    (fun a b => decide (key a < key b) || (key a == key b && decide (a ≤ b)))

theorem Dev.readmit_eq (d : Dev) (now g : Nat) : d.readmit now g =
    ((d.each (groupChs g) (fun d c => d.raiseLimit g c)).each ((d.each (groupChs g) (fun d c => d.raiseLimit g c)).waiting now g)
      (fun d c => d.admitStart now c)).idcShow g := rfl

theorem Dev.mem_waiting {d : Dev} {now g c : Nat} (h : c ∈ d.waiting now g) :
    c ∈ groupChs g ∧ (d.idcCh c).act = .wait ∧ (d.idcCh c).offDue now = false := by
  have h := List.mem_filter.mp ((List.mergeSort_perm _ _).mem_iff.mp h)
  simpa using h

theorem driveOf_raiseLimit (d : Dev) (g c : Nat) : DriveOf c d (d.raiseLimit g c) := by
  unfold Dev.raiseLimit
  split
  · split
    · exact DriveOf.modIdc d c _ (by intro; rfl)
    · exact DriveOf.refl c d
  · exact DriveOf.refl c d

theorem Dev.raiseLimit_of_none {d : Dev} {c : Nat} (g : Nat) (h : (d.idcCh c).act = .on → ∀ p, (d.idcCh c).pulse = some p → p.limit = none) :
    d.raiseLimit g c = d := by
  unfold Dev.raiseLimit
  split
  · next p hact hp => rw [h hact p hp]
  · rfl

theorem faultsKept_readmit (d : Dev) (now : Nat) {g : Nat} (hg : g < 8) : FaultsKept d (d.readmit now g) := by
  rw [Dev.readmit_eq]
  have h1 : FaultsKept d (d.each (groupChs g) (fun d c => d.raiseLimit g c)) :=
    FaultsKept.each _ _ (fun x c _ => (driveOf_raiseLimit x g c).kept) d
  refine (h1.trans (FaultsKept.each _ _ (fun x c hc => ?_) _)).trans (shows_idcShow _ hg).kept
  exact (driveOf_admitStart x now (groupChs_lt hg (Dev.mem_waiting hc).1)).kept

/-- Operations on other channels leave the view of a channel. -/
theorem Dev.idcView_each {k : Fin 32} {l : List Nat} (hk : k.val ∉ l) (f : Dev → Nat → Dev) (hf : ∀ d, ∀ c ∈ l, DriveOf c d (f d c)) (d : Dev) :
    (d.each l f).idcView k = d.idcView k := by
  unfold Dev.each
  induction l generalizing d with
  | nil => rfl
  | cons c l ih =>
    simp only [List.mem_cons, not_or] at hk
    exact (ih hk.2 (fun d y hy => hf d y (by simp [hy])) _).trans ((hf d c (by simp)).others k hk.1)

/-- A channel that neither waits nor drives with a limit stays as it is when its group admits again. -/
theorem Dev.idcView_readmit {d : Dev} (k : Fin 32) (now : Nat) {g : Nat} (hg : g < 8) (hwait : (d.idcCh k).act ≠ .wait)
    (hlim : (d.idcCh k).act = .on → ∀ p, (d.idcCh k).pulse = some p → p.limit = none) : (d.readmit now g).idcView k = d.idcView k := by
  have hraise : ∀ (l : List Nat) (x : Dev), x.idcView k = d.idcView k →
      (x.each l (fun d c => d.raiseLimit g c)).idcView k = d.idcView k := by
    intro l
    induction l with
    | nil => exact fun x hx => hx
    | cons c l ih =>
      intro x hx
      refine ih _ ?_
      by_cases hk : k.val = c
      · have hch : x.idcCh k = d.idcCh k := congrArg Prod.fst hx
        rw [← hk]
        dsimp only
        rw [Dev.raiseLimit_of_none g (by rw [hch]; exact hlim)]
        exact hx
      · exact ((driveOf_raiseLimit x g c).others k hk).trans hx
  rw [Dev.readmit_eq, (shows_idcShow _ hg).view]
  have hx := hraise (groupChs g) d rfl
  generalize d.each (groupChs g) (fun d c => d.raiseLimit g c) = x at hx
  have hch : x.idcCh k = d.idcCh k := congrArg Prod.fst hx
  refine (Dev.idcView_each (fun hmem => ?_) _ (fun d c hc => driveOf_admitStart d now (groupChs_lt hg (Dev.mem_waiting hc).1)) x).trans hx
  exact hwait (hch ▸ (Dev.mem_waiting hmem).2.1)

/-! ### What time brings -/

theorem Dev.idcNext_of_idle {d : Dev} {c : Nat} (h : (d.idcCh c).act = .idle) : d.idcNext c = none := by
  unfold Dev.idcNext
  dsimp only
  rw [h]

/-- A pulse without a commanded end has only its phases before it. -/
theorem Dev.idcNext_of_open {d : Dev} {c : Nat} {p : Pulse} (hact : (d.idcCh c).act = .on) (hp : (d.idcCh c).pulse = some p)
    (hend : p.cmdEnd = none) : d.idcNext c = (p.phaseEnd (d.phaseMax c p)).map (fun x => (x.1, IdcDue.phase x.2)) := by
  unfold Dev.idcNext
  dsimp only
  rw [hact, hp]
  dsimp only
  rw [hend]
  rfl

/-- A pulse whose end comes no later than its phase's. -/
theorem Dev.idcNext_of_end {d : Dev} {c x : Nat} {p : Pulse} (hact : (d.idcCh c).act = .on) (hp : (d.idcCh c).pulse = some p)
    (hend : p.cmdEnd = some x)
    (hphase : ∀ b, p.phaseEnd (d.phaseMax c p) = some b → max (x + p.delay) (p.start + 40000 * p.prof.minOn) ≤ b.1) :
    d.idcNext c = some (max (x + p.delay) (p.start + 40000 * p.prof.minOn), IdcDue.drive) := by
  unfold Dev.idcNext
  dsimp only
  rw [hact, hp]
  dsimp only
  rw [hend]
  cases hb : p.phaseEnd (d.phaseMax c p) with
  | none => rfl
  | some b => exact if_pos (hphase b hb)

/-- What is due on a channel, done. -/
def Dev.idcDueDone (d : Dev) (at_ c : Nat) (what : IdcDue) : Dev :=
  match what, (d.idcCh c).pulse with
  | .drive, _ => (d.endDrive at_ c [] false).readmit at_ (c / 4)
  | .phase lim, some p => d.nextPhase at_ c p lim
  | .cancel, _ => (d.cancelStart at_ c).readmit at_ (c / 4)
  | .defer, _ => (d.askStart at_ c).readmit at_ (c / 4)
  | .phase _, none => d

theorem Dev.idcTimeN_rests (fuel : Nat) {d : Dev} {t c : Nat} (h : ∀ x, d.idcNext c = some x → t < x.1) : Dev.idcTimeN fuel d t c = d := by
  cases fuel with
  | zero => rfl
  | succ fuel =>
    unfold Dev.idcTimeN
    split
    · rfl
    · next a what ha => exact if_pos (h _ ha)

theorem Dev.idcTimeN_succ {fuel : Nat} {d : Dev} {t c a : Nat} {what : IdcDue} (h : d.idcNext c = some (a, what)) (ha : a ≤ t) :
    Dev.idcTimeN (fuel + 1) d t c = Dev.idcTimeN fuel (d.idcDueDone a c what) t c := by
  rw [Dev.idcTimeN.eq_def]
  dsimp only
  rw [h]
  dsimp only
  rw [if_neg (by omega)]
  rfl

theorem Dev.idcTime_of_idle {d : Dev} {c : Nat} (t : Nat) (h : (d.idcCh c).act = .idle) : d.idcTime t c = d :=
  Dev.idcTimeN_rests 24 (fun x hx => by simp [Dev.idcNext_of_idle h] at hx)

theorem faultsKept_nextPhase (d : Dev) (t : Nat) {c : Nat} (hc : c < 32) (p : Pulse) (lim : Bool) : FaultsKept d (d.nextPhase t c p lim) := by
  unfold Dev.nextPhase
  extract_lets miss q d1
  have h1 : DriveOf c d d1 := DriveOf.opt (DriveOf.wr _ _ _ (by clear * - hc; decide +revert))
  exact (h1.trans (DriveOf.modIdc d1 c _ (by intro; rfl))).kept.trans (faultsKept_readmit _ t (by omega))

theorem faultsKept_idcDueDone (d : Dev) (t : Nat) {c : Nat} (hc : c < 32) (what : IdcDue) : FaultsKept d (d.idcDueDone t c what) := by
  have hg : c / 4 < 8 := by omega
  unfold Dev.idcDueDone
  split
  · exact (driveOf_endDrive _ _ _ _ _).kept.trans (faultsKept_readmit _ _ hg)
  · exact faultsKept_nextPhase _ _ hc _ _
  · exact (driveOf_cancelStart _ _ hc).kept.trans (faultsKept_readmit _ _ hg)
  · exact (driveOf_askStart _ _ hc).kept.trans (faultsKept_readmit _ _ hg)
  · exact FaultsKept.refl d

theorem faultsKept_idcTimeN (fuel : Nat) (d : Dev) (t : Nat) {c : Nat} (hc : c < 32) : FaultsKept d (Dev.idcTimeN fuel d t c) := by
  induction fuel generalizing d with
  | zero => exact FaultsKept.refl d
  | succ fuel ih =>
    unfold Dev.idcTimeN
    split
    · exact FaultsKept.refl d
    · next a what _ => exact FaultsKept.ite (FaultsKept.refl d) ((faultsKept_idcDueDone d a hc what).trans (ih _))

theorem faultsKept_idcRunN (fuel : Nat) (d : Dev) (now : Nat) {c : Nat} (hc : c < 32) : FaultsKept d (Dev.idcRunN fuel d now c) := by
  induction fuel generalizing d with
  | zero => exact FaultsKept.refl d
  | succ fuel ih =>
    unfold Dev.idcRunN
    split
    · exact faultsKept_idcTimeN 24 d now hc
    · refine FaultsKept.ite ?_ (faultsKept_idcTimeN 24 d now hc)
      extract_lets d1 d2
      have h1 : FaultsKept d d1 := (faultsKept_idcTimeN 24 d _ hc).trans (FaultsKept.modIdc _ c _ (by intro; rfl))
      have h2 : FaultsKept d1 d2 := FaultsKept.ite (driveOf_idcOn d1 now hc _).kept (driveOf_idcOff d1 now hc _).kept
      exact ((h1.trans h2).trans (faultsKept_readmit _ _ (by omega))).trans (ih _)

/-! ### A pulse through its phases -/

/-- The pulse that phase `n` of `p` begins as, at `t`, after a phase that its limit has ended or not. -/
def Pulse.next (p : Pulse) (t : Nat) (lim : Bool) : Pulse :=
  let q := if lim && p.ph.kind == 0 && !p.sense.hit then p.flag 11 else p
  q.enter (min (q.phase + 1) (q.prof.phases.length - 1)) t

theorem Pulse.next_eq (p : Pulse) (t : Nat) (lim : Bool) : ∃ fl q,
    p.next t lim = { p with phase := min (p.phase + 1) (p.prof.phases.length - 1), phaseAt := t, flags := fl, sense := q } := by
  unfold Pulse.next
  dsimp only
  split
  · obtain ⟨q, hq⟩ := (p.flag 11).enter_eq (min (p.phase + 1) (p.prof.phases.length - 1)) t
    exact ⟨_, q, hq⟩
  · obtain ⟨q, hq⟩ := p.enter_eq (min (p.phase + 1) (p.prof.phases.length - 1)) t
    exact ⟨_, q, hq⟩

/-- PK_WARN of a RAMP that its limit has ended below I_HI (R299). -/
def Dev.warnPeak (d : Dev) (c : Nat) (p : Pulse) (lim : Bool) : Dev :=
  if lim && p.ph.kind == 0 && !p.sense.hit then d.wr (IDC.PK_WARN c) 1 else d

theorem Dev.nextPhase_eq (d : Dev) (t c : Nat) (p : Pulse) (lim : Bool) : d.nextPhase t c p lim =
    ((d.warnPeak c p lim).modIdc c (fun x => { x with pulse := some (p.next t lim) })).readmit t (c / 4) := rfl

theorem Dev.nextPhase_view {d : Dev} {p : Pulse} (k : Fin 32) (t : Nat) (lim : Bool) (hact : (d.idcCh k).act = .on) (hlim : p.limit = none) :
    (d.nextPhase t k p lim).idcView k = ({ d.idcCh k with pulse := some (p.next t lim) }, d.rd (IDC.PULSE_CNT k),
      if lim && p.ph.kind == 0 && !p.sense.hit then 1 else d.rd (IDC.PK_WARN k)) := by
  have hnext : (p.next t lim).limit = none := by
    obtain ⟨fl, q, hq⟩ := p.next_eq t lim
    rw [hq]
    exact hlim
  rw [Dev.nextPhase_eq]
  have hd1 : (d.warnPeak k p lim).idcCh k = d.idcCh k := by
    unfold Dev.warnPeak
    split <;> rfl
  have hcnt : (d.warnPeak k p lim).rd (IDC.PULSE_CNT k) = d.rd (IDC.PULSE_CNT k) := by
    unfold Dev.warnPeak
    split
    · exact Dev.rd_wr_ne d 1 (by simp only [Field.key, IDC.PK_WARN, IDC.PULSE_CNT]; omega)
    · rfl
  have hwarn : (d.warnPeak k p lim).rd (IDC.PK_WARN k) = if lim && p.ph.kind == 0 && !p.sense.hit then 1 else d.rd (IDC.PK_WARN k) := by
    unfold Dev.warnPeak
    split
    · exact Dev.rd_wr_self d _ _
    · rfl
  generalize d.warnPeak k p lim = d1 at hd1 hcnt hwarn
  have hself : (d1.modIdc k (fun x => { x with pulse := some (p.next t lim) })).idcCh k = { d.idcCh k with pulse := some (p.next t lim) } :=
    (Dev.idcCh_modIdc_self d1 k _).trans (by rw [hd1])
  refine (Dev.idcView_readmit k t (by omega) (by rw [hself]; simp [hact]) (fun _ r hr => ?_)).trans ?_
  · rw [hself] at hr
    cases hr
    exact hnext
  · exact Prod.ext hself (Prod.ext hcnt hwarn)

/-- What the phases of a pulse leave of it. -/
def Pulse.run (p : Pulse) : Pulse := { p with phase := 0, phaseAt := 0, flags := 0, sense := {} }

theorem Pulse.run_next (p : Pulse) (t : Nat) (lim : Bool) : (p.next t lim).run = p.run := by
  obtain ⟨fl, q, hq⟩ := p.next_eq t lim
  rw [hq]
  rfl

/-- A pulse without a commanded end and without a limit goes through its phases, and goes on. -/
theorem Dev.idcTimeN_of_open (fuel : Nat) {d : Dev} (k : Fin 32) (t : Nat) {p : Pulse} (hact : (d.idcCh k).act = .on)
    (hp : (d.idcCh k).pulse = some p) (hend : p.cmdEnd = none) (hlim : p.limit = none) :
    ((Dev.idcTimeN fuel d t k).idcCh k).act = .on ∧ (∃ q, ((Dev.idcTimeN fuel d t k).idcCh k).pulse = some q ∧ q.run = p.run) ∧
      (Dev.idcTimeN fuel d t k).rd (IDC.PULSE_CNT k) = d.rd (IDC.PULSE_CNT k) := by
  induction fuel generalizing d p with
  | zero => exact ⟨hact, ⟨p, hp, rfl⟩, rfl⟩
  | succ fuel ih =>
    have hnext := Dev.idcNext_of_open hact hp hend
    cases hph : p.phaseEnd (d.phaseMax k p) with
    | none =>
      rw [Dev.idcTimeN_rests _ (fun x hx => by simp [hnext, hph] at hx)]
      exact ⟨hact, ⟨p, hp, rfl⟩, rfl⟩
    | some b =>
      rw [hph] at hnext
      by_cases hle : b.1 ≤ t
      · rw [Dev.idcTimeN_succ hnext hle]
        have hdone : d.idcDueDone b.1 k (.phase b.2) = d.nextPhase b.1 k p b.2 := by
          unfold Dev.idcDueDone
          rw [hp]
        have hview := Dev.nextPhase_view (p := p) k b.1 b.2 hact hlim
        have hch : (d.nextPhase b.1 k p b.2).idcCh k = { d.idcCh k with pulse := some (p.next b.1 b.2) } := congrArg Prod.fst hview
        have hcnt : (d.nextPhase b.1 k p b.2).rd (IDC.PULSE_CNT k) = d.rd (IDC.PULSE_CNT k) := congrArg (fun v => v.2.1) hview
        have hrun := p.run_next b.1 b.2
        rw [hdone]
        obtain ⟨hon, ⟨q, hq, hqrun⟩, hqcnt⟩ := ih (d := d.nextPhase b.1 k p b.2) (p := p.next b.1 b.2) (by rw [hch]; exact hact)
          (by rw [hch]) ((congrArg Pulse.cmdEnd hrun).trans hend) ((congrArg Pulse.limit hrun).trans hlim)
        exact ⟨hon, ⟨q, hq, hqrun.trans hrun⟩, hqcnt.trans hcnt⟩
      · rw [Dev.idcTimeN_rests _ (fun x hx => by
          obtain rfl : (b.1, IdcDue.phase b.2) = x := Option.some.inj (hnext.symm.trans hx)
          exact Nat.lt_of_not_le hle)]
        exact ⟨hact, ⟨p, hp, rfl⟩, rfl⟩

end Sys2Proof.Machine
end

section
/-! PROOFS. A pulse starts, ends, and a deferred start asks again (R304 to R311). -/
namespace Sys2Proof.Machine

/-! ### Admission -/

theorem Dev.groupLoad_modIdc_self (d : Dev) (g c : Nat) (f : IdcCh → IdcCh) : (d.modIdc c f).groupLoad g c = d.groupLoad g c := by
  unfold Dev.groupLoad
  congr 1
  refine List.map_congr_left fun k hk => ?_
  have hne : k ≠ c := by simpa using (List.mem_filter.mp hk).2
  rw [Dev.idcCh_modIdc_ne d f (Ne.symm hne)]

theorem Dev.waitsAhead_modIdc_self (d : Dev) (c : Nat) (f : IdcCh → IdcCh) {p q : Pulse} (hcmd : q.cmd = p.cmd) :
    (d.modIdc c f).waitsAhead c q = d.waitsAhead c p := by
  unfold Dev.waitsAhead
  congr 1
  funext k
  by_cases hk : k = c
  · simp [hk]
  · rw [Dev.idcCh_modIdc_ne d f (Ne.symm hk), hcmd]

theorem Dev.waitsAhead_of_idle {d : Dev} {c : Nat} (p : Pulse) (h : ∀ j ∈ groupChs (c / 4), j ≠ c → (d.idcCh j).act ≠ .wait) :
    d.waitsAhead c p = false := by
  unfold Dev.waitsAhead
  rw [List.any_eq_false]
  intro k hk
  by_cases hc : k = c
  · simp [hc]
  · simp [h k hk hc]

theorem Dev.groupLoad_of_idle {d : Dev} {g c : Nat} (h : ∀ j ∈ groupChs g, j ≠ c → (d.idcCh j).act = .idle ∧ (d.idcCh j).decay = false) :
    d.groupLoad g c = 0 := by
  unfold Dev.groupLoad
  refine List.sum_eq_zero fun n hn => ?_
  obtain ⟨k, hk, rfl⟩ := List.mem_map.mp hn
  obtain ⟨hmem, hne⟩ := List.mem_filter.mp hk
  obtain ⟨hact, hdecay⟩ := h k hmem (by simpa using hne)
  unfold IdcCh.level
  rw [hact, hdecay]
  rfl

theorem Dev.admitStart_of_room {d : Dev} {c : Nat} {p : Pulse} (now : Nat) (hp : (d.idcCh c).pulse = some p)
    (hahead : d.waitsAhead c p = false) (hroom : d.groupLoad (c / 4) c + p.prof.iPk ≤ d.peakLim (c / 4)) :
    d.admitStart now c = d.startPulse now c none := by
  unfold Dev.admitStart
  rw [hp]
  exact if_pos (by simp [hahead, hroom])

/-- A start without a commanded end for which there is room starts at once. -/
theorem Dev.askStart_of_room {d : Dev} {c : Nat} {p : Pulse} (now : Nat) (hp : (d.idcCh c).pulse = some p) (hend : p.cmdEnd = none)
    (hahead : d.waitsAhead c p = false) (hroom : d.groupLoad (c / 4) c + p.prof.iPk ≤ d.peakLim (c / 4)) :
    d.askStart now c = (d.modIdc c (fun x => { x with pulse := some { p with waitFrom := now } })).startPulse now c none := by
  have hask : d.askStart now c = (d.modIdc c (fun x => { x with pulse := some { p with waitFrom := now } })).admitStart now c := by
    unfold Dev.askStart
    rw [hp]
    dsimp only
    rw [hend]
  rw [hask]
  refine Dev.admitStart_of_room now (congrArg IdcCh.pulse (Dev.idcCh_modIdc_self d c _) :) ?_ ?_
  · exact (Dev.waitsAhead_modIdc_self d c _ rfl).trans hahead
  · rw [Dev.groupLoad_modIdc_self]
    exact hroom

/-! ### Running a channel's commands -/

theorem Dev.idcRun_of_nil {d : Dev} {c : Nat} (now : Nat) (h : (d.idcCh c).cmds = []) : d.idcRun now c = d.idcTime now c := by
  unfold Dev.idcRun
  rw [h, Dev.idcRunN.eq_def]
  dsimp only
  rw [h]

/-- The channel with its one command taken. -/
def Dev.cmdTaken (d : Dev) (now c : Nat) (k : DrvCmd) : Dev :=
  let d := (d.idcTime (k.dt - 1) c).modIdc c (fun x => { x with cmds := [] })
  if k.on then d.idcOn now c k else d.idcOff now c k

theorem Dev.idcRun_of_one {d : Dev} {now c : Nat} {k : DrvCmd} (h : (d.idcCh c).cmds = [k]) (hk : k.dt ≤ now)
    (hcmds : (((d.cmdTaken now c k).readmit now (c / 4)).idcCh c).cmds = []) :
    d.idcRun now c = ((d.cmdTaken now c k).readmit now (c / 4)).idcTime now c := by
  have hrun : d.idcRun now c = Dev.idcRunN 1 ((d.cmdTaken now c k).readmit now (c / 4)) now c := by
    unfold Dev.idcRun
    rw [h, Dev.idcRunN.eq_def]
    dsimp only [List.length_cons, List.length_nil]
    rw [h]
    exact if_pos hk
  rw [hrun, Dev.idcRunN.eq_def]
  dsimp only
  rw [hcmds]

theorem Dev.idcRun_of_later {d : Dev} {now c : Nat} {k : DrvCmd} (h : (d.idcCh c).cmds = [k]) (hk : now < k.dt) :
    d.idcRun now c = d.idcTime now c := by
  unfold Dev.idcRun
  rw [h, Dev.idcRunN.eq_def]
  dsimp only [List.length_cons, List.length_nil]
  rw [h]
  exact if_neg (by omega)

/-! ### Phases that end by their time -/

theorem Pulse.phaseEnd_of_timed {p : Pulse} (h : p.ph.endOn = 0) (tMax : Option Nat) :
    p.phaseEnd tMax = tMax.map (fun t => (p.phaseAt + t, true)) := by
  unfold Pulse.phaseEnd
  dsimp only
  rw [h]
  cases tMax <;> rfl

theorem Dev.phaseMax_pos {d : Dev} {c t : Nat} {p : Pulse} (h : d.phaseMax c p = some t) : 0 < t := by
  unfold Dev.phaseMax at h
  dsimp only at h
  split at h
  · simp at h
  · next hne =>
    obtain rfl := Option.some.inj h
    refine Nat.mul_pos (Nat.mul_pos (by decide) (Nat.pos_of_ne_zero hne)) ?_
    split
    · unfold Dev.rdH held
      omega
    · decide

/-! ### An on command of an idle channel -/

/-- The pulse that an on command asks for. -/
def Dev.newPulse (d : Dev) (c : Nat) (k : DrvCmd) : Pulse where
  pt := d.ptOfCh 1 c
  prof := d.profileAt (d.idcProfNo c)
  cmd := k.dt
  cmdEnd := k.endAt
  flags := if d.idcDirect c then 8192 else 0

theorem Dev.idcOn_of_idle {d : Dev} {c : Nat} (now : Nat) (k : DrvCmd) (hact : (d.idcCh c).act = .idle) (hblock : d.idcBlocked c = false)
    (hsusp : d.idcSusp c = false) : ∃ y : Dev, y.idc = d.idc ∧ y.regs = d.regs ∧ d.idcOn now c k =
      if (d.idcCh c).minOffRuns now (d.newPulse c k).prof || (d.idcCh c).decay then
        y.modIdc c (fun x => { x with act := .defer, pulse := some ({ d.newPulse c k with waitFrom := now }.flag 3) })
      else (y.modIdc c (fun x => { x with pulse := some (d.newPulse c k) })).askStart now c := by
  have hcov : ∃ cov pair, (match (d.idcCh c).act, d.ptOfCh 1 c with
      | .on, _ => d
      | _, some n => d.covPulseCmd n k.dt
      | _, none => d) = { d with cov := cov, pair := pair } := by
    rw [hact]
    cases d.ptOfCh 1 c with
    | none => exact ⟨d.cov, d.pair, rfl⟩
    | some n => exact ⟨_, _, covPair_covPulseCmd d n k.dt⟩
  obtain ⟨cov, pair, hcov⟩ := hcov
  refine ⟨{ d with cov := cov, pair := pair }, rfl, rfl, ?_⟩
  unfold Dev.idcOn
  extract_lets ch d1
  have h1 : d1 = { d with cov := cov, pair := pair } := hcov
  clear_value d1
  subst h1
  have hgo : (Dev.idcBlocked { d with cov := cov, pair := pair } c || Dev.idcSusp { d with cov := cov, pair := pair } c) = false := by
    have h : (d.idcBlocked c || d.idcSusp c) = false := by rw [hblock, hsusp]; rfl
    exact h
  rw [if_neg (ne_true_of_eq_false hgo)]
  split
  · next hon _ => exact absurd (hon.symm.trans hact) (by decide)
  · rfl

theorem Dev.idcCh_readmit {d : Dev} (k : Fin 32) (now : Nat) (hwait : (d.idcCh k).act ≠ .wait)
    (hlim : (d.idcCh k).act = .on → ∀ p, (d.idcCh k).pulse = some p → p.limit = none) :
    (d.readmit now (k / 4)).idcCh k = d.idcCh k :=
  congrArg Prod.fst (Dev.idcView_readmit k now (by omega) hwait hlim)

/-- A start that is admitted at `at_`, and what time has brought to its pulse by `now`. -/
theorem Dev.started_spec {d : Dev} (k : Fin 32) (at_ now fuel : Nat) {p : Pulse} (hp : (d.idcCh k).pulse = some p) (hend : p.cmdEnd = none)
    {e : Dev} (he : e = (d.startPulse at_ k none).readmit at_ (k / 4)) :
    (e.idcCh k).cmds = (d.idcCh k).cmds ∧ ((Dev.idcTimeN fuel e now k).idcCh k).act = .on ∧
      (Dev.idcTimeN fuel e now k).rd (IDC.PULSE_CNT k) = counted d (IDC.PULSE_CNT k) ∧
      ∃ q, ((Dev.idcTimeN fuel e now k).idcCh k).pulse = some q ∧ q.cmd = p.cmd ∧ q.start = at_ ∧ q.delay = at_ - p.waitFrom ∧ q.limit = none ∧
        q.seq = ((d.idcCh k).seq + 1) % 65536 ∧ q.prof = p.prof ∧ (at_ = now → (p.prof.phases.head?.map (·.endOn)) = some 0 → q.phase = 0 ∧ q.phaseAt = now) := by
  obtain ⟨-, ⟨hact, hnil⟩, ⟨q, hq, hstart, hseq⟩, hcnt⟩ := d.startPulse_spec k.isLt at_ none hp
  have hview := Dev.idcView_readmit (d := d.startPulse at_ k none) k at_ (g := k / 4) (by omega) (by rw [hact]; decide)
    (fun _ r hr => by cases hq.symm.trans hr; exact hstart.limited)
  rw [← he] at hview
  have hch : e.idcCh k = (d.startPulse at_ k none).idcCh k := congrArg Prod.fst hview
  have hecnt : e.rd (IDC.PULSE_CNT k) = counted d (IDC.PULSE_CNT k) := (congrArg (fun v => v.2.1) hview).trans hcnt
  have hqend : q.cmdEnd = none := hstart.cmdEnd.trans hend
  rw [← hch] at hact hq hnil
  obtain ⟨hon, ⟨r, hr, hrun⟩, hrcnt⟩ := Dev.idcTimeN_of_open (d := e) fuel k now hact hq hqend hstart.limited
  have hfields : r.cmd = q.cmd ∧ r.start = q.start ∧ r.delay = q.delay ∧ r.limit = q.limit ∧ r.seq = q.seq ∧ r.prof = q.prof :=
    ⟨(congrArg Pulse.cmd hrun :), (congrArg Pulse.start hrun :), (congrArg Pulse.delay hrun :), (congrArg Pulse.limit hrun :),
      (congrArg Pulse.seq hrun :), (congrArg Pulse.prof hrun :)⟩
  obtain ⟨hrcmd, hrstart, hrdelay, hrlim, hrseq, hrprof⟩ := hfields
  refine ⟨hnil, hon, hrcnt.trans hecnt, r, hr, hrcmd.trans hstart.cmd, hrstart.trans hstart.start, hrdelay.trans hstart.delay,
    hrlim.trans hstart.limited, hrseq.trans hseq, hrprof.trans hstart.prof, fun hat hhead => ?_⟩
  have hend0 : q.ph.endOn = 0 := by
    unfold Pulse.ph
    rw [hstart.phase, hstart.prof]
    cases hphases : p.prof.phases with
    | nil => simp [hphases] at hhead
    | cons x xs => simpa [hphases] using hhead
  have hrest : Dev.idcTimeN fuel e now k = e := Dev.idcTimeN_rests fuel (fun x hx => by
    rw [Dev.idcNext_of_open hact hq hqend, Pulse.phaseEnd_of_timed hend0] at hx
    cases hmax : e.phaseMax k q with
    | none => simp [hmax] at hx
    | some t =>
      have hpos := Dev.phaseMax_pos hmax
      simp only [hmax, Option.map_some, Option.some.injEq] at hx
      rw [← hx]
      have hqat := hstart.phaseAt
      dsimp only
      omega)
  rw [hrest] at hr
  obtain rfl : q = r := Option.some.inj (hq.symm.trans hr)
  exact ⟨hstart.phase, hstart.phaseAt.trans hat⟩

/-- A start that MIN_OFF defers, and that has no commanded end (R306). -/
theorem Dev.idcNext_of_defer {d : Dev} {c x : Nat} {p : Pulse} (hact : (d.idcCh c).act = .defer) (hp : (d.idcCh c).pulse = some p)
    (hlast : (d.idcCh c).lastEnd = some x) (hend : p.cmdEnd = none) : d.idcNext c =
      if p.waitFrom < x + 4000 * p.prof.minOff then some (x + 4000 * p.prof.minOff, .defer)
      else if (d.idcCh c).decay then none else some (max (d.idcCh c).offFrom p.waitFrom, .defer) := by
  unfold Dev.idcNext
  dsimp only
  rw [hact, hp]
  dsimp only
  rw [hlast, hend]
  dsimp only
  by_cases hoff : p.waitFrom < x + 4000 * p.prof.minOff
  · rw [if_pos hoff, if_pos hoff]
  · rw [if_neg hoff, if_neg hoff]
    cases (d.idcCh c).decay <;> rfl

theorem pulseStart_effect (s : State) (el : Nat) (c : Fin 32) :
    Answers (.pulseStart el c) s (fun now d e => d.driving = true → d.pwr.stage = .none →
      (d.idcCh c.val).act = .idle → (d.idcCh c.val).decay = false → (d.idcCh c.val).pulse = none → (d.idcCh c.val).done = none →
      d.idcBlocked c.val = false → d.idcSusp c.val = false →
      ((d.idcCh c.val).cmds = [] → e = d) ∧
      (∀ k, (d.idcCh c.val).cmds = [k] → k.on = true →
        (now < k.dt → e = d) ∧
        (k.dt ≤ now → k.endAt = none → (d.idcCh c.val).lastEnd = none →
          (∀ j ∈ groupChs (c.val / 4), (d.idcCh j).act = .idle ∧ (d.idcCh j).decay = false) →
          (d.profileAt (d.idcProfNo c.val)).iPk ≤ d.peakLim (c.val / 4) →
          (e.idcCh c.val).act = .on ∧ e.rd (IDC.PULSE_CNT c.val) = counted d (IDC.PULSE_CNT c.val) ∧
          ∃ p, (e.idcCh c.val).pulse = some p ∧ p.cmd = k.dt ∧ p.start = now ∧ p.delay = 0 ∧ p.limit = none ∧
            p.seq = ((d.idcCh c.val).seq + 1) % 65536 ∧ (p.prof.phases.head?.map (·.endOn) = some 0 → p.phase = 0 ∧ p.phaseAt = now)) ∧
        (∀ x, k.dt ≤ now → k.endAt = none → (d.idcCh c.val).lastEnd = some x →
          now < x + 4000 * (d.profileAt (d.idcProfNo c.val)).minOff →
          (e.idcCh c.val).act = .defer ∧ ∃ p, (e.idcCh c.val).pulse = some p ∧ p.cmd = k.dt ∧ bitOf p.flags 3 = true))) := by
  refine answers_of_forall (f := fun now d => if d.driving then (d.idcFeed now c.val).idcRun now c.val else d) rfl
    (fun now d hdrive hstage hidle hdecay hnone hdone hblock hsusp => ?_)
  have hfeed : d.idcFeed now c.val = d := if_neg (by simp [hstage])
  have htime : ∀ t, d.idcTime t c = d := fun t => Dev.idcTime_of_idle t hidle
  rw [if_pos hdrive, hfeed]
  refine ⟨fun hnil => (Dev.idcRun_of_nil now hnil).trans (htime now), fun k hk hon => ⟨fun hlater => ?_, fun hdue hopen hlast hgroup hroom => ?_,
    fun x hdue hopen hlast hoff => ?_⟩⟩
  · exact (Dev.idcRun_of_later hk hlater).trans (htime now)
  all_goals
    have hself : (d.modIdc c (fun x => { x with cmds := [] })).idcCh c = { d.idcCh c with cmds := [] } := Dev.idcCh_modIdc_self d c _
    obtain ⟨y, hyidc, hyregs, hstart⟩ := Dev.idcOn_of_idle (d := d.modIdc c (fun x => { x with cmds := [] })) (c := c) now k
      (by rw [hself]; exact hidle) (by unfold Dev.idcBlocked at hblock ⊢; rw [hself]; exact hblock) hsusp
    rw [hself] at hstart
    have htaken : d.cmdTaken now c k = (d.modIdc c (fun x => { x with cmds := [] })).idcOn now c k := by
      unfold Dev.cmdTaken
      rw [htime, hon]
      rfl
    rw [hstart] at htaken
    have hnew : (d.modIdc c (fun x => { x with cmds := [] })).newPulse c k = d.newPulse c k := rfl
    have hyrd : ∀ f, y.rd f = d.rd f := fun f => congrArg (fun m => (tget? m f.key).getD f.reset) hyregs
    have hyc : y.idcCh c = { d.idcCh c with cmds := [] } := (congrArg (fun t => tget t c.val) hyidc).trans hself
    have hyne : ∀ j, j ≠ c.val → y.idcCh j = d.idcCh j := fun j hj =>
      (congrArg (fun t => tget t j) hyidc).trans (Dev.idcCh_modIdc_ne d _ (Ne.symm hj))
    rw [hnew] at htaken
    clear hstart hyidc hyregs
  · rw [if_neg (by simp [IdcCh.minOffRuns, hlast, hdecay])] at htaken
    have hz : (y.modIdc c (fun x => { x with pulse := some (d.newPulse c k) })).idcCh c =
        { d.idcCh c with cmds := [], pulse := some (d.newPulse c k) } := (Dev.idcCh_modIdc_self y c _).trans (by rw [hyc])
    have hidleOthers : ∀ j ∈ groupChs (c.val / 4), j ≠ c.val → (y.idcCh j).act = .idle ∧ (y.idcCh j).decay = false := fun j hj hne => by
      rw [hyne j hne]
      exact hgroup j hj
    rw [Dev.askStart_of_room now (congrArg IdcCh.pulse hz) hopen
      ((Dev.waitsAhead_modIdc_self y c _ rfl).trans
        (Dev.waitsAhead_of_idle (d.newPulse c k) fun j hj hne => by rw [(hidleOthers j hj hne).1]; decide)) (by
      rw [Dev.groupLoad_modIdc_self, Dev.groupLoad_of_idle hidleOthers, Nat.zero_add]
      refine le_of_le_of_eq hroom ?_
      unfold Dev.peakLim Dev.rdH
      exact congrArg (fun n => 100 * held 10 80 n) (hyrd _).symm)] at htaken
    have hzrd : ∀ f, (y.modIdc c (fun x => { x with pulse := some (d.newPulse c k) })).rd f = d.rd f := hyrd
    generalize y.modIdc c (fun x => { x with pulse := some (d.newPulse c k) }) = z at htaken hz hzrd
    have hw : (z.modIdc c (fun x => { x with pulse := some { d.newPulse c k with waitFrom := now } })).idcCh c =
        { d.idcCh c with cmds := [], pulse := some { d.newPulse c k with waitFrom := now } } := (Dev.idcCh_modIdc_self z c _).trans (by rw [hz])
    obtain ⟨hnil, hact, hcnt, p, hp, hcmd, hstart, hdelay, hlim, hseq, hprof, hphase⟩ := Dev.started_spec
      (d := z.modIdc c (fun x => { x with pulse := some { d.newPulse c k with waitFrom := now } })) c now now 24
      (congrArg IdcCh.pulse hw) hopen rfl
    rw [← htaken] at hnil hact hcnt hp
    rw [Dev.idcRun_of_one hk hdue (hnil.trans (congrArg IdcCh.cmds hw))]
    refine ⟨hact, hcnt.trans ?_, p, hp, hcmd, hstart, hdelay.trans (Nat.sub_self now), hlim, ?_, fun hhead => hphase rfl (hprof ▸ hhead)⟩
    · exact congrArg (fun n => min (2 ^ 32 - 1) (n + 1)) (hzrd (IDC.PULSE_CNT c))
    · rw [hseq, hw]
  · rw [if_pos (by
      have : (d.idcCh c).minOffRuns now (d.newPulse c k).prof = true := by
        unfold IdcCh.minOffRuns
        rw [hlast]
        exact decide_eq_true hoff
      exact (Bool.or_eq_true _ _).mpr (Or.inl this))] at htaken
    have hw : (d.cmdTaken now c k).idcCh c =
        { d.idcCh c with cmds := [], act := .defer, pulse := some ({ d.newPulse c k with waitFrom := now }.flag 3) } := by
      rw [htaken]
      exact (Dev.idcCh_modIdc_self y c _).trans (by rw [hyc])
    have hread := Dev.idcCh_readmit (d := d.cmdTaken now c k) c now (fun h => by rw [hw] at h; cases h)
      (fun h => by rw [hw] at h; cases h)
    rw [hw] at hread
    have hrest : ((d.cmdTaken now c k).readmit now (c.val / 4)).idcTime now c = (d.cmdTaken now c k).readmit now (c.val / 4) :=
      Dev.idcTimeN_rests 24 (fun v hv => by
        have hlastEnd := (congrArg IdcCh.lastEnd hread).trans hlast
        rw [Dev.idcNext_of_defer (congrArg IdcCh.act hread) (congrArg IdcCh.pulse hread) hlastEnd hopen] at hv
        split at hv
        · cases hv
          exact hoff
        · next hnot => exact absurd hoff hnot)
    rw [Dev.idcRun_of_one hk hdue (congrArg IdcCh.cmds hread), hrest, hread]
    exact ⟨rfl, _, rfl, rfl, Pulse.flag_sets _ 3⟩

/-! ### The end of a pulse -/

theorem Dev.idcCh_endDrive {d : Dev} {c : Nat} {p : Pulse} (now : Nat) (hact : (d.idcCh c).act = .on) (hp : (d.idcCh c).pulse = some p) :
    (d.endDrive now c [] false).idcCh c =
      { d.idcCh c with act := .idle, decay := true, pulse := none, done := some (p.endAt now), lastEnd := some now,
                       decFast := p.prof.endFast, decLvl := (p.endAt now).drivenHi } := by
  unfold Dev.endDrive
  rw [hact, hp]
  exact Dev.idcCh_modIdc_self d c _

/-- A pulse whose end is due ends there, and nothing follows on its channel. -/
theorem Dev.idcCh_idcTime_of_end {d : Dev} (c : Fin 32) {t x : Nat} {p : Pulse} (hact : (d.idcCh c).act = .on) (hp : (d.idcCh c).pulse = some p)
    (hend : p.cmdEnd = some x)
    (hphase : ∀ b, p.phaseEnd (d.phaseMax c p) = some b → max (x + p.delay) (p.start + 40000 * p.prof.minOn) ≤ b.1)
    (hdue : max (x + p.delay) (p.start + 40000 * p.prof.minOn) ≤ t) : (d.idcTime t c).idcCh c =
      { d.idcCh c with act := .idle, decay := true, pulse := none,
                       done := some (p.endAt (max (x + p.delay) (p.start + 40000 * p.prof.minOn))),
                       lastEnd := some (max (x + p.delay) (p.start + 40000 * p.prof.minOn)),
                       decFast := p.prof.endFast, decLvl := (p.endAt (max (x + p.delay) (p.start + 40000 * p.prof.minOn))).drivenHi } := by
  have hnext := Dev.idcNext_of_end hact hp hend hphase
  generalize max (x + p.delay) (p.start + 40000 * p.prof.minOn) = due at hnext hdue
  have hch := Dev.idcCh_endDrive due hact hp
  have hidle : ((d.endDrive due c [] false).idcCh c).act = .idle := by rw [hch]
  have hread := Dev.idcCh_readmit (d := d.endDrive due c [] false) c due (by rw [hidle]; decide) (fun h => by rw [hidle] at h; cases h)
  have hdone : d.idcDueDone due c .drive = (d.endDrive due c [] false).readmit due (c / 4) := by
    unfold Dev.idcDueDone
    rw [hp]
  unfold Dev.idcTime
  rw [Dev.idcTimeN_succ hnext hdue, hdone, Dev.idcTimeN_rests 23 (fun v hv => by
    rw [Dev.idcNext_of_idle ((congrArg IdcCh.act hread).trans hidle)] at hv
    cases hv), hread, hch]

theorem pulseEnd_effect (s : State) (el : Nat) (c : Fin 32) :
    Answers (.pulseEnd el c) s (fun now d e => d.driving = true → (d.idcCh c.val).cmds = [] → (d.idcCh c.val).act = .on →
      ∀ p x, (d.idcCh c.val).pulse = some p → p.cmdEnd = some x →
        let due := max (x + p.delay) (p.start + 40000 * p.prof.minOn)
        (∀ b, p.phaseEnd (d.phaseMax c.val p) = some b → due ≤ b.1) →
        (due ≤ now →
          (e.idcCh c.val).act = .idle ∧ (e.idcCh c.val).pulse = none ∧ (e.idcCh c.val).decay = true ∧
          (e.idcCh c.val).decFast = p.prof.endFast ∧ (e.idcCh c.val).lastEnd = some due ∧ (e.idcCh c.val).done = some (p.endAt due)) ∧
        (now < due → e = d)) := by
  refine answers_of_forall (f := fun now d => if d.driving then d.idcRun now c.val else d) rfl (fun now d hdrive hnil hact p x hp hend => ?_)
  rw [if_pos hdrive, Dev.idcRun_of_nil now hnil]
  intro due hphase
  refine ⟨fun hdue => ?_, fun hlater => Dev.idcTimeN_rests 24 (fun v hv => ?_)⟩
  · rw [Dev.idcCh_idcTime_of_end c hact hp hend hphase hdue]
    exact ⟨rfl, rfl, rfl, rfl, rfl, rfl⟩
  · rw [Dev.idcNext_of_end hact hp hend hphase] at hv
    cases hv
    exact hlater

/-! ### MIN_ON -/

theorem Pulse.phaseEnd_some_ne_none (p : Pulse) (t : Nat) : p.phaseEnd (some t) ≠ none := by
  unfold Pulse.phaseEnd
  dsimp only [Option.map_some]
  split
  · split <;> simp
  · simp
  · simp
  · simp_all

theorem Dev.phaseMax_eq_none_iff (d : Dev) (c : Nat) (p : Pulse) : d.phaseMax c p = none ↔ p.ph.tMax = 0 := by
  unfold Dev.phaseMax
  dsimp only
  split
  · next h => simp [h]
  · next h => simp [h]

/-- A phase that nothing ends has no limit, whatever the block. -/
theorem Dev.phaseMax_of_endless {d : Dev} {c : Nat} {p : Pulse} (h : p.phaseEnd (d.phaseMax c p) = none) (e : Dev) : e.phaseMax c p = none := by
  rw [Dev.phaseMax_eq_none_iff, ← Dev.phaseMax_eq_none_iff d c]
  cases hmax : d.phaseMax c p with
  | none => rfl
  | some t => exact absurd (hmax ▸ h) (p.phaseEnd_some_ne_none t)

/-- The pulse `p` of an off command that came before MIN_ON (R307). -/
def Pulse.toMinOn (p : Pulse) : Pulse :=
  (({ p with cmdEnd := some (p.start + 40000 * p.prof.minOn - p.delay) }).flag 5).flag 4

theorem Dev.idcOff_of_short {d : Dev} {now c : Nat} {k : DrvCmd} {p : Pulse} (hact : (d.idcCh c).act = .on) (hp : (d.idcCh c).pulse = some p)
    (hend : p.cmdEnd = none) (hshort : k.dt + p.delay < p.start + 40000 * p.prof.minOn) : d.idcOff now c k =
      if p.start + 40000 * p.prof.minOn ≤ now then (d.modIdc c (fun x => { x with pulse := some p.toMinOn })).endDrive now c [] false
      else d.modIdc c (fun x => { x with pulse := some p.toMinOn }) := by
  unfold Dev.idcOff
  dsimp only
  rw [hact, hp]
  dsimp only
  rw [hend]
  dsimp only
  rw [decide_eq_true hshort, max_eq_right (by omega)]
  rfl

theorem minOnEnd_effect (s : State) (el : Nat) (c : Fin 32) :
    Answers (.minOnEnd el c) s (fun now d e => d.driving = true → (d.idcCh c.val).act = .on →
      ∀ p, (d.idcCh c.val).pulse = some p → p.limit = none → p.phaseEnd (d.phaseMax c.val p) = none →
        let least := p.start + 40000 * p.prof.minOn
        (∀ k, p.cmdEnd = none → (d.idcCh c.val).cmds = [k] → k.on = false → k.dt ≤ now → k.dt + p.delay < least →
          (now < least → (e.idcCh c.val).act = .on ∧ ∃ q, (e.idcCh c.val).pulse = some q ∧ q.cmdEnd = some (least - p.delay)) ∧
          (least ≤ now → (e.idcCh c.val).act = .idle ∧ ∃ q, (e.idcCh c.val).done = some q ∧ q.ended = now ∧
            q.cmdEnd = some (least - p.delay) ∧ bitOf q.flags 4 = true ∧ bitOf q.flags 5 = true)) ∧
        (∀ x, p.cmdEnd = some x → (d.idcCh c.val).cmds = [] → x + p.delay ≤ least → least ≤ now →
          (e.idcCh c.val).act = .idle ∧ (e.idcCh c.val).done = some (p.endAt least))) := by
  refine answers_of_forall (f := fun now d => if d.driving then d.idcRun now c.val else d) rfl (fun now d hdrive hact p hp hlim hphase => ?_)
  rw [if_pos hdrive]
  intro least
  refine ⟨fun k hopen hk hoff hdue hshort => ?_, fun x hend hnil hle hdue => ?_⟩
  · have hrest : d.idcTime (k.dt - 1) c = d := Dev.idcTimeN_rests 24 (fun v hv => by
      rw [Dev.idcNext_of_open hact hp hopen, hphase] at hv
      cases hv)
    have hself : (d.modIdc c (fun x => { x with cmds := [] })).idcCh c = { d.idcCh c with cmds := [] } := Dev.idcCh_modIdc_self d c _
    have htaken : d.cmdTaken now c k = (d.modIdc c (fun x => { x with cmds := [] })).idcOff now c k := by
      unfold Dev.cmdTaken
      rw [hrest, hoff]
      rfl
    rw [Dev.idcOff_of_short (d := d.modIdc c (fun x => { x with cmds := [] })) (by rw [hself]; exact hact) (by rw [hself]; exact hp) hopen hshort]
      at htaken
    have hw : ((d.modIdc c (fun x => { x with cmds := [] })).modIdc c (fun x => { x with pulse := some p.toMinOn })).idcCh c =
        { d.idcCh c with cmds := [], pulse := some p.toMinOn } := (Dev.idcCh_modIdc_self _ c _).trans (by rw [hself])
    have hdelay : least - p.delay + p.delay = least := Nat.sub_add_cancel (by omega)
    refine ⟨fun hearly => ?_, fun hlate => ?_⟩
    · rw [if_neg (by omega)] at htaken
      rw [← htaken] at hw
      have hread := Dev.idcCh_readmit (d := d.cmdTaken now c k) c now (by rw [hw, hact]; decide) (fun _ r hr => by
        rw [hw] at hr
        cases hr
        exact hlim)
      rw [hw] at hread
      rw [Dev.idcRun_of_one hk hdue (congrArg IdcCh.cmds hread)]
      have hstay : ((d.cmdTaken now c k).readmit now (c.val / 4)).idcTime now c = (d.cmdTaken now c k).readmit now (c.val / 4) :=
        Dev.idcTimeN_rests 24 (fun v hv => by
          rw [Dev.idcNext_of_end ((congrArg IdcCh.act hread).trans hact) (congrArg IdcCh.pulse hread) rfl (fun b hb => by
            have hmax := Dev.phaseMax_of_endless hphase ((d.cmdTaken now c k).readmit now (c.val / 4))
            have hnone : p.phaseEnd none = none := (Dev.phaseMax_of_endless hphase d) ▸ hphase
            have hb' : p.phaseEnd (((d.cmdTaken now c k).readmit now (c.val / 4)).phaseMax c p) = some b := hb
            rw [hmax, hnone] at hb'
            cases hb')] at hv
          cases hv
          exact lt_of_lt_of_le hearly (le_max_right _ _))
      rw [hstay, hread]
      exact ⟨hact, p.toMinOn, rfl, rfl⟩
    · rw [if_pos hlate] at htaken
      have hch := Dev.idcCh_endDrive (p := p.toMinOn) now ((congrArg IdcCh.act hw).trans hact) (congrArg IdcCh.pulse hw)
      rw [hw, ← htaken] at hch
      have hread := Dev.idcCh_readmit (d := d.cmdTaken now c k) c now (fun h => by rw [hch] at h; cases h)
        (fun h => by rw [hch] at h; cases h)
      rw [hch] at hread
      rw [Dev.idcRun_of_one hk hdue (congrArg IdcCh.cmds hread), Dev.idcTime_of_idle now (congrArg IdcCh.act hread), hread]
      exact ⟨rfl, _, rfl, rfl, rfl, Pulse.flag_sets _ 4, Pulse.flag_keeps _ 4 (Pulse.flag_sets _ 5)⟩
  · have hmax : max (x + p.delay) least = least := max_eq_right hle
    have hch := Dev.idcCh_idcTime_of_end (t := now) c hact hp hend (fun b hb => by rw [hphase] at hb; cases hb)
      (le_of_eq_of_le hmax hdue)
    rw [Dev.idcRun_of_nil now hnil, hch]
    exact ⟨rfl, congrArg (fun t => some (p.endAt t)) hmax⟩

/-! ### MIN_OFF -/

theorem minOffEnd_effect (s : State) (el : Nat) (c : Fin 32) :
    Answers (.minOffEnd el c) s (fun now d e => d.driving = true → (d.idcCh c.val).act = .defer →
      ∀ p x, (d.idcCh c.val).pulse = some p → (d.idcCh c.val).lastEnd = some x → p.cmdEnd = none →
        p.waitFrom < x + 4000 * p.prof.minOff →
        (now < x + 4000 * p.prof.minOff → e = d) ∧
        (x + 4000 * p.prof.minOff ≤ now → d.waitsAhead c.val p = false →
          d.groupLoad (c.val / 4) c.val + p.prof.iPk ≤ d.peakLim (c.val / 4) →
          (e.idcCh c.val).act = .on ∧
          ∃ q, (e.idcCh c.val).pulse = some q ∧ q.cmd = p.cmd ∧ q.start = x + 4000 * p.prof.minOff ∧ q.limit = none)) := by
  refine answers_of_forall (f := fun now d => if d.driving then d.idcTime now c.val else d) rfl
    (fun now d hdrive hact p x hp hlast hopen hwait => ?_)
  rw [if_pos hdrive]
  have hnext := Dev.idcNext_of_defer hact hp hlast hopen
  rw [if_pos hwait] at hnext
  refine ⟨fun hearly => Dev.idcTimeN_rests 24 (fun v hv => ?_), fun hle hahead hroom => ?_⟩
  · cases hnext.symm.trans hv
    exact hearly
  · generalize x + 4000 * p.prof.minOff = due at hnext hle
    have hdone : d.idcDueDone due c .defer = (d.askStart due c).readmit due (c.val / 4) := by
      unfold Dev.idcDueDone
      rw [hp]
    rw [Dev.askStart_of_room due hp hopen hahead hroom] at hdone
    have hw : (d.modIdc c (fun y => { y with pulse := some { p with waitFrom := due } })).idcCh c =
        { d.idcCh c with pulse := some { p with waitFrom := due } } := Dev.idcCh_modIdc_self d c _
    obtain ⟨-, hon, -, q, hq, hcmd, hstart, -, hlim, -⟩ := Dev.started_spec
      (d := d.modIdc c (fun y => { y with pulse := some { p with waitFrom := due } })) c due now 23 (congrArg IdcCh.pulse hw) hopen rfl
    rw [← hdone] at hon hq
    unfold Dev.idcTime
    rw [Dev.idcTimeN_succ hnext hle]
    exact ⟨hon, q, hq, hcmd, hstart, hlim⟩

/-- Settles O31, command by command. -/
theorem pulsesStartAndEnd : Obligations.PulsesStartAndEnd := by
  unfold Obligations.PulsesStartAndEnd
  exact fun s el c => ⟨pulseStart_effect s el c, pulseEnd_effect s el c, minOnEnd_effect s el c, minOffEnd_effect s el c⟩

end Sys2Proof.Machine
end

section
/-! PROOFS. Faults of the actuator channels: what latches, what a diagnosis finds, what a clear releases (R297, R320 to R323). -/
namespace Sys2Proof.Machine

/-! ### Turns over a group -/

theorem groupChs_nodup (g : Nat) : (groupChs g).Nodup := (List.nodup_range (n := 4)).map (fun a b h => by
  have h : 4 * g + a = 4 * g + b := h
  omega)

/-- In a loop whose turns leave what `g` shows of the others, an element's own turn decides what `g` shows of it. -/
theorem Dev.each_own_turn {β : Type} (g : Dev → Nat → β) (f : Dev → Nat → Dev) {l : List Nat} (hnd : l.Nodup)
    (hother : ∀ x, ∀ c ∈ l, ∀ k ∈ l, k ≠ c → g (f x c) k = g x k) (d : Dev) {k : Nat} (hk : k ∈ l) :
    ∃ x, g x k = g d k ∧ g (d.each l f) k = g (f x k) k := by
  induction l generalizing d with
  | nil => simp at hk
  | cons c l ih =>
    obtain ⟨hc, hnd⟩ := List.nodup_cons.mp hnd
    have hrest : ∀ x, ∀ b ∈ l, ∀ k ∈ l, k ≠ b → g (f x b) k = g x k := fun x b hb k hk => hother x b (by simp [hb]) k (by simp [hk])
    by_cases hkc : k = c
    · subst hkc
      have hlast : ∀ (m : List Nat) (x : Dev), (∀ b ∈ m, b ∈ k :: l ∧ k ≠ b) → g (x.each m f) k = g x k := by
        intro m
        induction m with
        | nil => exact fun _ _ => rfl
        | cons b m ihm =>
          intro x hm
          obtain ⟨hb, hne⟩ := hm b (by simp)
          exact (ihm _ fun y hy => hm y (by simp [hy])).trans (hother x b hb k (by simp) hne)
      exact ⟨d, rfl, hlast l _ fun b hb => ⟨by simp [hb], fun h => hc (h ▸ hb)⟩⟩
    · have hkl : k ∈ l := (List.mem_cons.mp hk).resolve_left hkc
      obtain ⟨x, hx, hturn⟩ := ih hnd hrest (f d c) hkl
      exact ⟨x, hx.trans (hother d c (by simp) k hk hkc), hturn⟩

/-! ### Setting and ending faults -/

theorem Dev.on_congr {d e : Dev} {f : Field} (h : e.rd f = d.rd f) : e.on f = d.on f := by
  unfold Dev.on
  rw [h]

theorem IDC.isFault_fault {c : Nat} (hc : c < 32) : (IDC.FAULT c).isFault = true := by decide +revert

theorem IDC.isFault_diagOff {c : Nat} (hc : c < 32) : (IDC.DIAG_OFF c).isFault = true := by decide +revert

theorem IDG.isFault_latch {g : Nat} (hg : g < 8) : (IDG.GRP_LATCH g).isFault = true ∧ (IDG.HSG_OC g).isFault = true ∧
    (IDG.MISMATCH g).isFault = true ∧ (IDG.I_HSG g).isFault = true := by decide +revert

/-- A fault that no PROF_INVALID covers is set, and a change raises its event (R323). -/
theorem Dev.idcFault_eq {d : Dev} {c code : Nat} (now : Nat) (h5 : d.rd (IDC.FAULT c) ≠ 5) : d.idcFault now c code =
    if code != 0 && code != d.rd (IDC.FAULT c) then (d.wr (IDC.FAULT c) code).fire now EVT.IDC_FAULT c code else d.wr (IDC.FAULT c) code :=
  if_neg h5

theorem Dev.idcFault_shows {d : Dev} {c code : Nat} (hc : c < 32) (now : Nat) (h5 : d.rd (IDC.FAULT c) ≠ 5) (hcode : code < 8) (h0 : code ≠ 0) :
    (d.idcFault now c code).rd (IDC.FAULT c) = code ∧ OnlyRegsAndEvents [IDC.FAULT c] d (d.idcFault now c code) ∧
      (d.rd (IDC.FAULT c) ≠ code → (d.idcFault now c code).raised EVT.IDC_FAULT c = true) := by
  rw [Dev.idcFault_eq now h5]
  have hself : (d.wr (IDC.FAULT c) code).rd (IDC.FAULT c) = code := (Dev.rd_wr_self _ _ _).trans (Nat.mod_eq_of_lt hcode)
  have hplain := Field.ofEvents_of_isFault (IDC.isFault_fault hc)
  have honly : OnlyRegs [IDC.FAULT c] d (d.wr (IDC.FAULT c) code) := OnlyRegs.wr d _ _ (by simp)
  split
  · exact ⟨(Dev.rd_fire_of _ _ _ _ _ hplain.1 hplain.2).trans hself, honly.toOnlyRegsAndEvents.thenFire _ _ _ _,
      fun _ => Dev.raised_fire _ _ _ _ _ (by omega) (by clear * - hc; decide +revert)⟩
  · next hsame =>
    refine ⟨hself, honly.toOnlyRegsAndEvents, fun hne => absurd ?_ hsame⟩
    simp [h0, Ne.symm hne]

/-- The channel without the fault that waits under PROF_INVALID. -/
def IdcCh.sansUnder (x : IdcCh) : IdcCh := { x with under := 0 }

theorem IdcCh.sansUnder_inj {x y : IdcCh} (h : x.sansUnder = y.sansUnder) : x.act = y.act ∧ x.latched = y.latched ∧ x.offFrom = y.offFrom ∧ x.calNext = y.calNext ∧
    x.cmds = y.cmds ∧ x.snuff = y.snuff :=
  ⟨(congrArg IdcCh.act h :), (congrArg IdcCh.latched h :), (congrArg IdcCh.offFrom h :), (congrArg IdcCh.calNext h :),
    (congrArg IdcCh.cmds h :), (congrArg IdcCh.snuff h :)⟩

/-- What a change of channel `c`'s fault leaves: the other faults, latches and readings, and the channels. -/
structure FaultOnly (c : Nat) (d e : Dev) : Prop where
  faults : ∀ f : Field, f.isFault = true → f.key ≠ (IDC.FAULT c).key → e.rd f = d.rd f
  chans : ∀ k, (e.idcCh k).sansUnder = (d.idcCh k).sansUnder
  raw : RawKept d e

theorem FaultOnly.under (d : Dev) (c code : Nat) : FaultOnly c d (d.modIdc c (fun x => { x with under := code })) where
  faults _ _ _ := rfl
  chans k := tget_tmod_keeps IdcCh.sansUnder d.idc c (f := fun x => { x with under := code }) (fun _ => rfl) k
  raw := RawKept.of_regs rfl

theorem FaultOnly.wr (d : Dev) {c : Nat} (hc : c < 32) (code : Nat) : FaultOnly c d (d.wr (IDC.FAULT c) code) where
  faults _ _ hne := Dev.rd_wr_ne d _ (Ne.symm hne)
  chans _ := rfl
  raw := RawKept.wr d _ _ (by clear * - hc; decide +revert)

theorem FaultOnly.fire {c : Nat} {d e : Dev} (h : FaultOnly c d e) (now ev inst val : Nat) : FaultOnly c d (e.fire now ev inst val) where
  faults f hf hne :=
    have hplain := Field.ofEvents_of_isFault hf
    (Dev.rd_fire_of _ _ _ _ _ hplain.1 hplain.2).trans (h.faults f hf hne)
  chans k :=
    have hch : (e.fire now ev inst val).idcCh k = e.idcCh k := congrArg (fun t => tget t k) (Dev.fire_idc _ _ _ _ _)
    (congrArg IdcCh.sansUnder hch).trans (h.chans k)
  raw := h.raw.trans (fire_rawKept _ _ _ _ _)

theorem faultOnly_idcFault (d : Dev) (now : Nat) {c : Nat} (hc : c < 32) (code : Nat) : FaultOnly c d (d.idcFault now c code) := by
  by_cases h5 : d.rd (IDC.FAULT c) = 5
  · have heq : d.idcFault now c code = d.modIdc c (fun x => { x with under := code }) := if_pos h5
    rw [heq]
    exact FaultOnly.under d c code
  · rw [Dev.idcFault_eq now h5]
    split
    · exact (FaultOnly.wr d hc code).fire _ _ _ _
    · exact FaultOnly.wr d hc code

theorem Dev.idcFaultEnd_of_ne {d : Dev} {c : Nat} (h5 : d.rd (IDC.FAULT c) ≠ 5) : d.idcFaultEnd c = d.wr (IDC.FAULT c) 0 := if_neg h5

theorem faultOnly_idcFaultEnd (d : Dev) {c : Nat} (hc : c < 32) : FaultOnly c d (d.idcFaultEnd c) := by
  unfold Dev.idcFaultEnd
  split
  · exact FaultOnly.under d c 0
  · exact FaultOnly.wr d hc 0

theorem IDC.fault_key_ne {j k : Nat} (h : j ≠ k) : (IDC.FAULT j).key ≠ (IDC.FAULT k).key := by
  simp only [Field.key, IDC.FAULT]
  omega

theorem IDG.latch_key_ne_fault (g k : Nat) : (IDG.GRP_LATCH g).key ≠ (IDC.FAULT k).key ∧ (IDG.HSG_OC g).key ≠ (IDC.FAULT k).key ∧
    (IDG.MISMATCH g).key ≠ (IDC.FAULT k).key ∧ (IDG.I_HSG g).key ≠ (IDC.FAULT k).key := by
  simp only [Field.key, IDC.FAULT, IDG.GRP_LATCH, IDG.HSG_OC, IDG.MISMATCH, IDG.I_HSG]
  omega

/-! ### Latching a channel and a group -/

/-- A drive that a latch ends. -/
theorem Dev.endDrive_of_on {d : Dev} {c : Nat} {p : Pulse} (now : Nat) (fl : List Nat) (slow : Bool) (hact : (d.idcCh c).act = .on)
    (hp : (d.idcCh c).pulse = some p) {x : IdcCh} (hx : (d.endDrive now c fl slow).idcCh c = x) :
    x.act = .idle ∧ x.pulse = none ∧ x.lastEnd = some now := by
  rw [← hx]
  unfold Dev.endDrive
  rw [hact, hp]
  dsimp only
  rw [Dev.idcCh_modIdc_self]
  exact ⟨rfl, rfl, rfl⟩

theorem Dev.dropStart_of_not_held {d : Dev} {c : Nat} (now : Nat) (h : d.startHeld c = false) : d.dropStart now c = d :=
  if_neg (ne_true_of_eq_false h)

theorem Dev.startHeld_of_on {d : Dev} {c : Nat} (h : (d.idcCh c).act = .on) : d.startHeld c = false := by
  unfold Dev.startHeld
  rw [h]
  rfl

theorem Dev.startHeld_of_idle {d : Dev} {c : Nat} (h : (d.idcCh c).act = .idle) : d.startHeld c = false := by
  unfold Dev.startHeld
  rw [h]
  rfl

theorem Dev.endDrive_of_idle {d : Dev} {c : Nat} (now : Nat) (fl : List Nat) (slow : Bool) (h : (d.idcCh c).act = .idle) :
    d.endDrive now c fl slow = d := by
  unfold Dev.endDrive
  rw [h]

/-- The drive of a channel ends for a latch. -/
def Dev.latchEnds (d : Dev) (now c : Nat) : Dev := (d.dropStart now c).endDrive now c [14] false

theorem driveOf_latchEnds (d : Dev) (now c : Nat) : DriveOf c d (d.latchEnds now c) :=
  (driveOf_dropStart d now c).trans (driveOf_endDrive _ _ _ _ _)

theorem Dev.latchEnds_of_on {d : Dev} {c : Nat} {p : Pulse} (now : Nat) (hact : (d.idcCh c).act = .on) (hp : (d.idcCh c).pulse = some p) :
    ((d.latchEnds now c).idcCh c).act = .idle ∧ ((d.latchEnds now c).idcCh c).pulse = none ∧ ((d.latchEnds now c).idcCh c).lastEnd = some now := by
  unfold Dev.latchEnds
  rw [Dev.dropStart_of_not_held now (Dev.startHeld_of_on hact)]
  exact Dev.endDrive_of_on now [14] false hact hp rfl

theorem Dev.latchEnds_of_idle {d : Dev} {c : Nat} (now : Nat) (h : (d.idcCh c).act = .idle) : d.latchEnds now c = d := by
  unfold Dev.latchEnds
  rw [Dev.dropStart_of_not_held now (Dev.startHeld_of_idle h)]
  exact Dev.endDrive_of_idle now [14] false h

theorem EVT.idcFault_bit {c : Nat} (hc : c < 32) : (evtPage EVT.IDC_FAULT c).2 < 32 := by decide +revert

theorem EVT.idcGrpLatch_bit {g : Nat} (hg : g < 8) : (evtPage EVT.IDC_GRP_LATCH g).2 < 32 := by decide +revert

/-- What latching a channel leaves of it, once its drive has ended: its fields, its fault and the event. -/
theorem Dev.idcLatch_spec {d : Dev} (c : Fin 32) (now code : Nat) (hcode : code < 8) (h0 : code ≠ 0) (hidle : ((d.latchEnds now c).idcCh c).act = .idle) :
    ((d.idcLatch now c code).idcCh c).sansUnder = { (d.latchEnds now c).idcCh c with latched := true, under := 0 } ∧
      (∀ f : Field, f.isFault = true → f.key ≠ (IDC.FAULT c).key → (d.idcLatch now c code).rd f = d.rd f) ∧
      (d.rd (IDC.FAULT c) ≠ 5 → (d.idcLatch now c code).rd (IDC.FAULT c) = code ∧
        (d.rd (IDC.FAULT c) ≠ code → (d.idcLatch now c code).raised EVT.IDC_FAULT c = true)) := by
  have hend := (driveOf_latchEnds d now c).kept
  have hfault := IDC.isFault_fault c.isLt
  have heq : d.idcLatch now c code =
      (((d.latchEnds now c).modIdc c (fun x => { x with latched := true })).idcFault now c code).readmit now (c / 4) := rfl
  rw [heq]
  have hself : ((d.latchEnds now c).modIdc c (fun x => { x with latched := true })).idcCh c =
      { (d.latchEnds now c).idcCh c with latched := true } := Dev.idcCh_modIdc_self _ c _
  have hrd : ∀ f, ((d.latchEnds now c).modIdc c (fun x => { x with latched := true })).rd f = (d.latchEnds now c).rd f := fun _ => rfl
  generalize (d.latchEnds now c).modIdc c (fun x => { x with latched := true }) = y at hself hrd
  have hset := faultOnly_idcFault y now c.isLt code
  have hch := hset.chans c
  rw [hself] at hch
  have hact : ((y.idcFault now c code).idcCh c).act = .idle := (congrArg IdcCh.act hch :).trans hidle
  have hread := Dev.idcCh_readmit (d := y.idcFault now c code) c now (fun h => by rw [hact] at h; cases h) (fun h => by rw [hact] at h; cases h)
  have hkept := faultsKept_readmit (y.idcFault now c code) now (g := c / 4) (by omega)
  have hraw := (idcTouch_readmit (y.idcFault now c code) now (g := c / 4) (by omega)).raw
  refine ⟨(congrArg IdcCh.sansUnder hread).trans hch, fun f hf hne => ?_, fun h5 => ?_⟩
  · exact (hkept.faults f hf).trans ((hset.faults f hf hne).trans ((hrd f).trans (hend.faults f hf)))
  · have hy5 : y.rd (IDC.FAULT c) = d.rd (IDC.FAULT c) := (hrd _).trans (hend.faults _ hfault)
    obtain ⟨hcodeShown, -, hraised⟩ := Dev.idcFault_shows (d := y) c.isLt now (hy5 ▸ h5) hcode h0
    exact ⟨(hkept.faults _ hfault).trans hcodeShown, fun hne => hraw.raised (EVT.idcFault_bit c.isLt) (hraised (hy5 ▸ hne))⟩

/-- A group that latches (R320): every drive of it ends, and its latch stands. -/
theorem Dev.idcGroupLatch_spec (d : Dev) (now : Nat) {g : Nat} (hg : g < 8) (oc : Bool) :
    (d.idcGroupLatch now g oc).rd (IDG.GRP_LATCH g) = 1 ∧ (d.idcGroupLatch now g oc).rd (IDG.HSG_OC g) = b2n oc ∧
      (∀ f : Field, f.isFault = true → f.key ≠ (IDG.GRP_LATCH g).key → f.key ≠ (IDG.HSG_OC g).key →
        (d.idcGroupLatch now g oc).rd f = d.rd f) ∧
      (∀ k ∈ groupChs g, ∃ x : Dev, x.idcCh k = d.idcCh k ∧ (d.idcGroupLatch now g oc).idcCh k = (x.latchEnds now k).idcCh k) ∧
      (d.on (IDG.GRP_LATCH g) = false → (d.idcGroupLatch now g oc).raised EVT.IDC_GRP_LATCH g = true) := by
  have hkept : FaultsKept d (d.each (groupChs g) (fun d c => d.latchEnds now c)) :=
    FaultsKept.each _ _ (fun x c _ => (driveOf_latchEnds x now c).kept) d
  have hturn : ∀ k ∈ groupChs g, ∃ x : Dev, x.idcCh k = d.idcCh k ∧
      (d.each (groupChs g) (fun d c => d.latchEnds now c)).idcCh k = (x.latchEnds now k).idcCh k := fun k hk =>
    Dev.each_own_turn (fun d k => d.idcCh k) (fun d c => d.latchEnds now c) (groupChs_nodup g) (fun x c _ k hk hne =>
      congrArg Prod.fst ((driveOf_latchEnds x now c).others ⟨k, groupChs_lt hg hk⟩ hne)) d hk
  have heq : d.idcGroupLatch now g oc =
      (let y := d.each (groupChs g) (fun d c => d.latchEnds now c)
       let z := (y.wr (IDG.GRP_LATCH g) 1).wrB (IDG.HSG_OC g) oc
       (if y.on (IDG.GRP_LATCH g) then z else z.fire now EVT.IDC_GRP_LATCH g (b2n oc)).idcShow g) := rfl
  rw [heq]
  generalize d.each (groupChs g) (fun d c => d.latchEnds now c) = y at hkept hturn
  obtain ⟨hlatch, hoc, -, -⟩ := IDG.isFault_latch hg
  have hon : y.on (IDG.GRP_LATCH g) = d.on (IDG.GRP_LATCH g) := Dev.on_congr (hkept.faults _ hlatch)
  have hocne : (IDG.HSG_OC g).key ≠ (IDG.GRP_LATCH g).key := by
    simp only [Field.key, IDG.HSG_OC, IDG.GRP_LATCH]
    omega
  extract_lets y z
  have hzrd : z.rd (IDG.GRP_LATCH g) = 1 ∧ z.rd (IDG.HSG_OC g) = b2n oc :=
    ⟨(Dev.rd_wrB_ne _ _ hocne).trans (Dev.rd_wr_self _ _ _), Dev.rd_wrB_self _ _ _ rfl⟩
  have hzne : ∀ f : Field, f.key ≠ (IDG.GRP_LATCH g).key → f.key ≠ (IDG.HSG_OC g).key → z.rd f = y.rd f := fun f h1 h2 =>
    (Dev.rd_wrB_ne _ _ (Ne.symm h2)).trans (Dev.rd_wr_ne _ _ (Ne.symm h1))
  have hzidc : z.idc = y.idc := rfl
  clear_value z
  have hw : ∃ w, (if y.on (IDG.GRP_LATCH g) then z else z.fire now EVT.IDC_GRP_LATCH g (b2n oc)) = w ∧ w.idc = z.idc ∧
      (∀ f : Field, f.isFault = true → w.rd f = z.rd f) ∧ (y.on (IDG.GRP_LATCH g) = false → w.raised EVT.IDC_GRP_LATCH g = true) := by
    cases h : y.on (IDG.GRP_LATCH g) with
    | true => exact ⟨z, rfl, rfl, fun _ _ => rfl, fun h => by cases h⟩
    | false =>
      refine ⟨_, rfl, Dev.fire_idc _ _ _ _ _, fun f hf => ?_, fun _ => ?_⟩
      · have hplain := Field.ofEvents_of_isFault hf
        exact Dev.rd_fire_of _ _ _ _ _ hplain.1 hplain.2
      · exact Dev.raised_fire _ _ _ _ _ (by omega) (by clear * - hg; decide +revert)
  obtain ⟨w, hw, hwidc, hwrd, hwraised⟩ := hw
  rw [hw]
  have hshow := shows_idcShow w hg
  refine ⟨(hshow.kept.faults _ hlatch).trans ((hwrd _ hlatch).trans hzrd.1), (hshow.kept.faults _ hoc).trans ((hwrd _ hoc).trans hzrd.2),
    fun f hf h1 h2 => ?_, fun k hk => ?_, fun hoff => ?_⟩
  · exact (hshow.kept.faults f hf).trans ((hwrd f hf).trans ((hzne f h1 h2).trans (hkept.faults f hf)))
  · obtain ⟨x, hx, hxk⟩ := hturn k hk
    have hch : (w.idcShow g).idcCh k = y.idcCh k :=
      (hshow.idcCh k).trans (congrArg (fun t => tget t k) (hwidc.trans hzidc))
    exact ⟨x, hx, hch.trans hxk⟩
  · exact (idcTouch_idcShow w hg).raw.raised (EVT.idcGrpLatch_bit hg) (hwraised (hon.trans hoff))

/-- A drive of a group that latches ends. -/
theorem Dev.idcGroupLatch_ends (d : Dev) (now : Nat) {g k : Nat} (hg : g < 8) (oc : Bool) (hk : k ∈ groupChs g) {q : Pulse}
    (hact : (d.idcCh k).act = .on) (hq : (d.idcCh k).pulse = some q) : ((d.idcGroupLatch now g oc).idcCh k).act = .idle := by
  obtain ⟨-, -, -, hturn, -⟩ := d.idcGroupLatch_spec now hg oc
  obtain ⟨x, hx, hxk⟩ := hturn k hk
  rw [hxk]
  exact (Dev.latchEnds_of_on now (hx ▸ hact) (hx ▸ hq)).1

/-! ### The commands of O33 -/

theorem scSup_effect (s : State) (el : Nat) (c : Fin 32) (ma : BitVec 16) (held : Nat) :
    Answers (.scSup el c ma held) s (fun now d e => d.driving = true →
      ((d.idcCh c.val).act ≠ .on ∨ ma.toNat ≤ 6000 ∨ held < us 2 → e = d) ∧
      (∀ p, (d.idcCh c.val).act = .on → 6000 < ma.toNat → us 2 ≤ held → (d.idcCh c.val).pulse = some p →
        (e.idcCh c.val).latched = true ∧ (e.idcCh c.val).act = .idle ∧ (e.idcCh c.val).pulse = none ∧ (e.idcCh c.val).lastEnd = some now ∧
        (d.rd (IDC.FAULT c.val) ≠ 5 → e.rd (IDC.FAULT c.val) = 3 ∧
          (d.rd (IDC.FAULT c.val) ≠ 3 → e.raised EVT.IDC_FAULT c.val = true)))) := by
  refine answers_of_forall (f := fun now d => if d.driving && (d.idcCh c.val).act == .on && decide (6000 < ma.toNat) && decide (us 2 ≤ held) then
    d.idcLatch now c.val 3 else d) rfl (fun now d hdrive => ⟨fun hnot => if_neg ?_, fun p hact hma hheld hp => ?_⟩)
  · simp only [hdrive, Bool.true_and, Bool.and_eq_true, beq_iff_eq, decide_eq_true_eq, not_and]
    rintro ⟨hact, hma⟩ hheld
    rcases hnot with h | h | h
    · exact absurd hact h
    · omega
    · omega
  · rw [if_pos (by simp [hdrive, hact, hma, hheld])]
    obtain ⟨hidle, hnone, hlast⟩ := Dev.latchEnds_of_on now hact hp
    obtain ⟨hch, -, hfault⟩ := d.idcLatch_spec c now 3 (by decide) (by decide) hidle
    exact ⟨(congrArg IdcCh.latched hch :), (congrArg IdcCh.act hch :).trans hidle, (congrArg IdcCh.pulse hch :).trans hnone,
      (congrArg IdcCh.lastEnd hch :).trans hlast, hfault⟩

theorem Dev.notFallen_of_not_on {d : Dev} {now c ma : Nat} (h : (d.idcCh c).act ≠ .on) : d.notFallen now c ma = false := by
  unfold Dev.notFallen
  split
  · next hon _ => exact absurd hon h
  · rfl

theorem Dev.notFallen_of_on {d : Dev} {now c ma : Nat} {p : Pulse} (hact : (d.idcCh c).act = .on) (hp : (d.idcCh c).pulse = some p) :
    d.notFallen now c ma = (p.regulates && !p.sense.lsOn && !p.sense.fell && decide (p.sense.lsAt + us 100 ≤ now) && decide (p.thr.1 ≤ ma + 50)) := by
  unfold Dev.notFallen
  rw [hact, hp]

/-- A short to ground latches the channel's group, and shows on the channel (R320). -/
theorem Dev.idcScGnd_spec (d : Dev) (now : Nat) (c : Fin 32) :
    (d.idcScGnd now c).rd (IDG.GRP_LATCH (c.val / 4)) = 1 ∧ (d.idcScGnd now c).rd (IDG.HSG_OC (c.val / 4)) = 0 ∧
      (d.rd (IDC.FAULT c) ≠ 5 → (d.idcScGnd now c).rd (IDC.FAULT c) = 2) ∧
      (∀ k, ((d.idcScGnd now c).idcCh k).sansUnder = ((d.idcGroupLatch now (c.val / 4) false).idcCh k).sansUnder) ∧
      (d.rd (IDC.DIAG_OFF c) = (d.idcScGnd now c).rd (IDC.DIAG_OFF c)) ∧
      (d.on (IDG.GRP_LATCH (c.val / 4)) = false → (d.idcScGnd now c).raised EVT.IDC_GRP_LATCH (c.val / 4) = true) := by
  have hg : c.val / 4 < 8 := by omega
  obtain ⟨hlatch, hoc, hrd, -, hraised⟩ := d.idcGroupLatch_spec now hg false
  obtain ⟨hfl, hfo, -, -⟩ := IDG.isFault_latch hg
  obtain ⟨hnl, hno, -, -⟩ := IDG.latch_key_ne_fault (c.val / 4) c
  have heq : d.idcScGnd now c = (d.idcGroupLatch now (c.val / 4) false).idcFault now c 2 := rfl
  rw [heq]
  generalize d.idcGroupLatch now (c.val / 4) false = y at hlatch hoc hrd hraised
  have hset := faultOnly_idcFault y now c.isLt 2
  have hdiag : (IDC.DIAG_OFF c).key ≠ (IDG.GRP_LATCH (c.val / 4)).key ∧ (IDC.DIAG_OFF c).key ≠ (IDG.HSG_OC (c.val / 4)).key ∧
      (IDC.DIAG_OFF c).key ≠ (IDC.FAULT c).key := by
    simp only [Field.key, IDC.DIAG_OFF, IDC.FAULT, IDG.GRP_LATCH, IDG.HSG_OC]
    omega
  have hfault := hrd (IDC.FAULT c) (IDC.isFault_fault c.isLt) (Ne.symm hnl) (Ne.symm hno)
  refine ⟨(hset.faults _ hfl hnl).trans hlatch, (hset.faults _ hfo hno).trans hoc, fun h5 => ?_, hset.chans, ?_,
    fun hoff => hset.raw.raised (EVT.idcGrpLatch_bit hg) (hraised hoff)⟩
  · exact (Dev.idcFault_shows (d := y) c.isLt now (hfault ▸ h5) (by decide) (by decide)).1
  · exact ((hset.faults _ (IDC.isFault_diagOff c.isLt) hdiag.2.2).trans (hrd _ (IDC.isFault_diagOff c.isLt) hdiag.1 hdiag.2.1)).symm

theorem scGnd_effect (s : State) (el : Nat) (c : Fin 32) (ma : BitVec 16) :
    Answers (.scGnd el c ma) s (fun now d e => d.driving = true →
      ((d.idcCh c.val).act ≠ .on → e = d) ∧
      (∀ p, (d.idcCh c.val).act = .on → (d.idcCh c.val).pulse = some p →
        (ma.toNat + 50 < p.thr.1 ∨ p.sense.lsOn = true ∨ now < p.sense.lsAt + us 100 → e = d) ∧
        (p.regulates = true → p.sense.lsOn = false → p.sense.fell = false → p.sense.lsAt + us 100 ≤ now → p.thr.1 ≤ ma.toNat + 50 →
          e.rd (IDG.GRP_LATCH (c.val / 4)) = 1 ∧ e.rd (IDG.HSG_OC (c.val / 4)) = 0 ∧
          (d.rd (IDC.FAULT c.val) ≠ 5 → e.rd (IDC.FAULT c.val) = 2) ∧
          (∀ k ∈ groupChs (c.val / 4), ∀ q, (d.idcCh k).act = .on → (d.idcCh k).pulse = some q → (e.idcCh k).act = .idle) ∧
          (d.on (IDG.GRP_LATCH (c.val / 4)) = false → e.raised EVT.IDC_GRP_LATCH (c.val / 4) = true)))) := by
  refine answers_of_forall (f := fun now d => if d.driving && d.notFallen now c.val ma.toNat then d.idcScGnd now c.val else d) rfl
    (fun now d hdrive => ⟨fun hact => if_neg ?_, fun p hact hp => ⟨fun hfell => if_neg ?_, fun hreg hls hfl hlong hma => ?_⟩⟩)
  · simp [Dev.notFallen_of_not_on hact]
  · rw [Dev.notFallen_of_on hact hp]
    simp only [Bool.and_eq_true, Bool.not_eq_true', decide_eq_true_eq, not_and]
    intro _ ⟨⟨⟨_, hls⟩, _⟩, hlong⟩
    rcases hfell with h | h | h
    · omega
    · rw [hls] at h
      cases h
    · omega
  · rw [if_pos (by rw [Dev.notFallen_of_on hact hp]; simp [hdrive, hreg, hls, hfl, hlong, hma])]
    obtain ⟨hlatch, hoc, hfault, hch, -, hraised⟩ := d.idcScGnd_spec now c
    exact ⟨hlatch, hoc, hfault, fun k hk q hon hq =>
      (IdcCh.sansUnder_inj (hch k)).1.trans (d.idcGroupLatch_ends now (by omega) false hk hon hq), hraised⟩

theorem hsgOc_effect (s : State) (el : Nat) (g : Fin 8) (ma : BitVec 16) (held : Nat) :
    Answers (.hsgOc el g ma held) s (fun _ d e => d.driving = true →
      (d.on (IDG.HSG_ON g.val) = false ∨ ma.toNat ≤ 10000 ∨ held < us 2 → e = d) ∧
      (d.on (IDG.HSG_ON g.val) = true → 10000 < ma.toNat → us 2 ≤ held →
        e.rd (IDG.GRP_LATCH g.val) = 1 ∧ e.rd (IDG.HSG_OC g.val) = 1 ∧ e.rd (IDG.I_HSG g.val) = 4095 ∧
        (∀ k ∈ groupChs g.val, ∀ p, (d.idcCh k).act = .on → (d.idcCh k).pulse = some p →
          (e.idcCh k).act = .idle ∧ (d.rd (IDC.FAULT k) ≠ 5 → e.rd (IDC.FAULT k) = 4)) ∧
        (d.on (IDG.GRP_LATCH g.val) = false → e.raised EVT.IDC_GRP_LATCH g.val = true))) := by
  refine answers_of_forall (f := fun now d => if d.driving && d.on (IDG.HSG_ON g.val) && decide (10000 < ma.toNat) && decide (us 2 ≤ held) then
    let d := d.wr (IDG.I_HSG g.val) (min 4095 ma.toNat)
    let on_ := (groupChs g.val).filter (fun c => (d.idcCh c).act == .on)
    (d.idcGroupLatch now g.val true).each on_ (fun d c => d.idcFault now c 4) else d) rfl
    (fun now d hdrive => ⟨fun hnot => if_neg ?_, fun hon hma hheld => ?_⟩)
  · simp only [hdrive, Bool.true_and, Bool.and_eq_true, decide_eq_true_eq, not_and]
    rintro ⟨hon, hma⟩ hheld
    rcases hnot with h | h | h
    · rw [h] at hon
      cases hon
    · omega
    · omega
  · rw [if_pos (by simp [hdrive, hon, hma, hheld])]
    have hmin : min 4095 ma.toNat = 4095 := by omega
    rw [hmin]
    extract_lets y on
    have hy : y.rd (IDG.I_HSG g) = 4095 := Dev.rd_wr_self d _ _
    have hyrd : ∀ f : Field, f.key ≠ (IDG.I_HSG g).key → y.rd f = d.rd f := fun f hf => Dev.rd_wr_ne d _ (Ne.symm hf)
    have hych : ∀ k, y.idcCh k = d.idcCh k := fun _ => rfl
    clear_value y
    obtain ⟨hlatch, hoc, hrd, -, hraised⟩ := y.idcGroupLatch_spec now g.isLt true
    obtain ⟨hfl, hfo, -, hfi⟩ := IDG.isFault_latch g.isLt
    have hne : (IDG.I_HSG g).key ≠ (IDG.GRP_LATCH g).key ∧ (IDG.I_HSG g).key ≠ (IDG.HSG_OC g).key := by
      simp only [Field.key, IDG.I_HSG, IDG.GRP_LATCH, IDG.HSG_OC]
      omega
    have hmem : ∀ k ∈ on, k ∈ groupChs g ∧ (y.idcCh k).act = .on := fun k hk => by simpa [on] using hk
    have hnd : on.Nodup := (groupChs_nodup g).filter _
    have hends : ∀ k ∈ groupChs g, ∀ q, (y.idcCh k).act = .on → (y.idcCh k).pulse = some q → ((y.idcGroupLatch now g true).idcCh k).act = .idle :=
      fun k hk q => y.idcGroupLatch_ends now g.isLt true hk
    generalize y.idcGroupLatch now g true = z at hlatch hoc hrd hraised hends
    have hfaults : ∀ (l : List Nat) (x : Dev), (∀ c ∈ l, c < 32) →
        (∀ f : Field, f.isFault = true → (∀ k, f.key ≠ (IDC.FAULT k).key) → (x.each l (fun d c => d.idcFault now c 4)).rd f = x.rd f) ∧
        (∀ k, ((x.each l (fun d c => d.idcFault now c 4)).idcCh k).sansUnder = (x.idcCh k).sansUnder) ∧
        RawKept x (x.each l (fun d c => d.idcFault now c 4)) := by
      intro l
      induction l with
      | nil => exact fun x _ => ⟨fun _ _ _ => rfl, fun _ => rfl, RawKept.refl x⟩
      | cons c l ih =>
        intro x hl
        have hset := faultOnly_idcFault x now (hl c (by simp)) 4
        obtain ⟨h1, h2, h3⟩ := ih (x.idcFault now c 4) fun k hk => hl k (by simp [hk])
        exact ⟨fun f hf hkey => (h1 f hf hkey).trans (hset.faults f hf (hkey c)), fun k => (h2 k).trans (hset.chans k), hset.raw.trans h3⟩
    have hlt : ∀ c ∈ on, c < 32 := fun c hc => groupChs_lt g.isLt (hmem c hc).1
    obtain ⟨hkeep, hchans, hraw⟩ := hfaults on z hlt
    refine ⟨(hkeep _ hfl fun k => (IDG.latch_key_ne_fault g k).1).trans hlatch, (hkeep _ hfo fun k => (IDG.latch_key_ne_fault g k).2.1).trans hoc,
      (hkeep _ hfi fun k => (IDG.latch_key_ne_fault g k).2.2.2).trans ((hrd _ hfi hne.1 hne.2).trans hy), fun k hk p hact hp => ⟨?_, fun h5 => ?_⟩,
      fun hoff => hraw.raised (EVT.idcGrpLatch_bit g.isLt) (hraised ?_)⟩
    · exact (IdcCh.sansUnder_inj (hchans k)).1.trans (hends k hk p ((congrArg IdcCh.act (hych k)).trans hact) ((congrArg IdcCh.pulse (hych k)).trans hp))
    · have hkon : k ∈ on := by simpa [on, hych k] using ⟨hk, hact⟩
      obtain ⟨x, hx, hturn⟩ := Dev.each_own_turn (fun d k => d.rd (IDC.FAULT k)) (fun d c => d.idcFault now c 4) hnd
        (fun x c hc k hk hne => (faultOnly_idcFault x now (hlt c hc) 4).faults _ (IDC.isFault_fault (hlt k hk)) (IDC.fault_key_ne hne)) z hkon
      have hk32 := hlt k hkon
      have hz : z.rd (IDC.FAULT k) = d.rd (IDC.FAULT k) :=
        (hrd _ (IDC.isFault_fault hk32) (Ne.symm (IDG.latch_key_ne_fault g k).1) (Ne.symm (IDG.latch_key_ne_fault g k).2.1)).trans
          (hyrd _ (Ne.symm (IDG.latch_key_ne_fault g k).2.2.2))
      exact hturn.trans (Dev.idcFault_shows hk32 now (by rw [hx, hz]; exact h5) (by decide) (by decide)).1
    · exact (Dev.on_congr (hyrd _ (Ne.symm hne.1))).trans hoff

end Sys2Proof.Machine
end

section
/-! PROOFS. Open load and mismatch (R297, R321); off tests, clears and record snapshots (R322, R323, R329). -/
namespace Sys2Proof.Machine

/-! ### Open load and mismatch -/

theorem openLoad_effect (s : State) (el : Nat) (c : Fin 32) (ma : BitVec 16) :
    Answers (.openLoad el c ma) s (fun now d e => d.driving = true → (d.idcCh c.val).act = .on →
      ∀ p, (d.idcCh c.val).pulse = some p →
        (p.phase ≠ 0 ∨ now < p.start + 40000 * p.prof.olT ∨ p.ph.iHi ≤ 16 * ma.toNat → e = d) ∧
        (p.phase = 0 → p.start + 40000 * p.prof.olT ≤ now → 16 * ma.toNat < p.ph.iHi → d.rd (IDC.FAULT c.val) ≠ 5 →
          e.rd (IDC.FAULT c.val) = 1 ∧ OnlyRegsAndEvents [IDC.FAULT c.val] d e ∧
          (d.rd (IDC.FAULT c.val) ≠ 1 → e.raised EVT.IDC_FAULT c.val = true))) := by
  refine answers_of_forall (f := fun now d => match (d.idcCh c.val).act, (d.idcCh c.val).pulse with
    | .on, some p =>
      if d.driving && p.phase == 0 && decide (p.start + 40000 * p.prof.olT ≤ now) && decide (16 * ma.toNat < p.ph.iHi) then d.idcFault now c.val 1 else d
    | _, _ => d) rfl (fun now d hdrive hact p hp => ?_)
  rw [hact, hp]
  dsimp only
  refine ⟨fun hnot => if_neg ?_, fun hph holT hma h5 => ?_⟩
  · simp only [hdrive, Bool.true_and, Bool.and_eq_true, beq_iff_eq, decide_eq_true_eq, not_and]
    rintro ⟨hph, holT⟩ hma
    rcases hnot with h | h | h
    · exact h hph
    · omega
    · omega
  · rw [if_pos (by simp [hdrive, hph, holT, hma])]
    exact Dev.idcFault_shows c.isLt now h5 (by decide) (by decide)

theorem Dev.drawnSum_wr_hsg (d : Dev) {g : Nat} (hg : g < 8) (v : Nat) : (d.wr (IDG.I_HSG g) v).drawnSum g = d.drawnSum g := by
  unfold Dev.drawnSum
  refine congrArg List.sum (List.map_congr_left fun k hk => Dev.rd_wr_ne d v ?_)
  have hk := groupChs_lt hg (List.mem_filter.mp hk).1
  simp only [Field.key, IDG.I_HSG, IDC.I_NOW]
  omega

theorem mismatch_effect (s : State) (el : Nat) (g : Fin 8) (ma : BitVec 16) (held : Nat) :
    Answers (.mismatch el g ma held) s (fun _ d e => d.driving = true →
      (d.on (IDG.HSG_ON g.val) = true → e.rd (IDG.I_HSG g.val) = min 4095 ma.toNat ∧
        OnlyRegs [IDG.I_HSG g.val, IDG.MISMATCH g.val] d e ∧
        (us 200 ≤ held → (ma.toNat + 300 < d.drawnSum g.val ∨ d.drawnSum g.val + 300 < ma.toNat) → e.rd (IDG.MISMATCH g.val) = 1) ∧
        (held < us 200 ∨ (d.drawnSum g.val ≤ ma.toNat + 300 ∧ ma.toNat ≤ d.drawnSum g.val + 300) →
          e.rd (IDG.MISMATCH g.val) = d.rd (IDG.MISMATCH g.val))) ∧
      (d.on (IDG.HSG_ON g.val) = false → e = d)) := by
  refine answers_of_forall (f := fun _ d => if d.driving && d.on (IDG.HSG_ON g.val) then
    let d := d.wr (IDG.I_HSG g.val) (min 4095 ma.toNat)
    if decide (300 < ((ma.toNat : Int) - d.drawnSum g.val).natAbs) && decide (us 200 ≤ held) then d.wr (IDG.MISMATCH g.val) 1 else d else d) rfl
    (fun _ d hdrive => ⟨fun hon => ?_, fun hoff => if_neg (by simp [hoff])⟩)
  rw [if_pos (by simp [hdrive, hon])]
  extract_lets y
  have hsum : y.drawnSum g = d.drawnSum g := d.drawnSum_wr_hsg g.isLt _
  have hshown : y.rd (IDG.I_HSG g) = min 4095 ma.toNat := (Dev.rd_wr_self d _ _).trans (Nat.mod_eq_of_lt (show min 4095 ma.toNat < 2 ^ 12 by omega))
  have hne : (IDG.I_HSG g).key ≠ (IDG.MISMATCH g).key := by
    simp only [Field.key, IDG.I_HSG, IDG.MISMATCH]
    omega
  have hkeep : y.rd (IDG.MISMATCH g) = d.rd (IDG.MISMATCH g) := Dev.rd_wr_ne d _ hne
  have honly : OnlyRegs [IDG.I_HSG g, IDG.MISMATCH g] d y := OnlyRegs.wr d _ _ (by simp)
  clear_value y
  rw [hsum]
  split
  · next hc =>
    simp only [Bool.and_eq_true, decide_eq_true_eq] at hc
    refine ⟨(Dev.rd_wr_ne y _ (Ne.symm hne)).trans hshown, honly.thenWr (by simp) 1, fun _ _ => Dev.rd_wr_self y _ _, fun hnot => ?_⟩
    omega
  · next hc =>
    simp only [Bool.and_eq_true, decide_eq_true_eq, not_and] at hc
    refine ⟨hshown, honly, fun hheld hfar => ?_, fun _ => hkeep⟩
    exact absurd hheld (hc (by omega))

/-- Settles O33. -/
theorem actuatorFaultsLatch : Obligations.ActuatorFaultsLatch := by
  unfold Obligations.ActuatorFaultsLatch
  exact fun s el c g => ⟨scSup_effect s el c, scGnd_effect s el c, hsgOc_effect s el g, openLoad_effect s el c, mismatch_effect s el g⟩

/-! ### Off tests -/

/-- A value within a signed field's range reads back. -/
theorem toS_satS_of_fits {w : Nat} (hw : 0 < w) {i : Int} (hlo : -(2 ^ (w - 1)) ≤ i) (hhi : i < 2 ^ (w - 1)) : toS w (satS w i % 2 ^ w) = i := by
  obtain ⟨n, rfl⟩ : ∃ n, w = n + 1 := ⟨w - 1, by omega⟩
  have hcast : ((2 : Int) ^ n) = ((2 ^ n : Nat) : Int) := by simp
  have hclamp : clampS (n + 1) i = i := by
    unfold clampS
    simp only [Nat.add_sub_cancel] at hlo hhi ⊢
    omega
  unfold satS toS ofS
  rw [hclamp]
  simp only [Nat.add_sub_cancel, Nat.pow_succ, Int.pow_succ, hcast] at *
  have hpos : 0 < 2 ^ n := Nat.two_pow_pos n
  generalize (2 : Nat) ^ n = m at *
  rcases Int.lt_or_le i 0 with hneg | hpos0
  · have hmod : i % ((m : Int) * 2) = i + m * 2 := by
      rw [← Int.add_emod_right]
      exact Int.emod_eq_of_lt (by omega) (by omega)
    rw [hmod, Nat.mod_mod, Nat.mod_eq_of_lt (by omega)]
    split <;> omega
  · have hmod : i % ((m : Int) * 2) = i := Int.emod_eq_of_lt hpos0 (by omega)
    rw [hmod, Nat.mod_mod, Nat.mod_eq_of_lt (by omega)]
    split <;> omega

theorem Dev.rdS_wrS_of_fits (d : Dev) (f : Field) {i : Int} (hw : 0 < f.width) (hlo : -(2 ^ (f.width - 1)) ≤ i) (hhi : i < 2 ^ (f.width - 1)) :
    (d.wrS f i).rdS f = i := by
  unfold Dev.rdS Dev.wrS
  rw [Dev.rd_wr_self]
  exact toS_satS_of_fits hw hlo hhi

/-- What an off window's diagnosis shows of channel `c` stays under what follows from its code. -/
structure Diagnosed (c : Nat) (d e : Dev) : Prop where
  diag : e.rd (IDC.DIAG_OFF c) = d.rd (IDC.DIAG_OFF c)
  offFrom : (e.idcCh c).offFrom = (d.idcCh c).offFrom
  calNext : (e.idcCh c).calNext = (d.idcCh c).calNext

theorem IDC.diagOff_key_ne (c g : Nat) : (IDC.DIAG_OFF c).key ≠ (IDG.GRP_LATCH g).key ∧ (IDC.DIAG_OFF c).key ≠ (IDG.HSG_OC g).key ∧
    ∀ k, (IDC.DIAG_OFF c).key ≠ (IDC.FAULT k).key := by
  simp only [Field.key, IDC.DIAG_OFF, IDC.FAULT, IDG.GRP_LATCH, IDG.HSG_OC]
  exact ⟨by omega, by omega, fun k => by omega⟩

theorem Diagnosed.refl (c : Nat) (d : Dev) : Diagnosed c d d := ⟨rfl, rfl, rfl⟩

theorem FaultOnly.diagnosed {c : Nat} {d e : Dev} (h : FaultOnly c d e) (hc : c < 32) : Diagnosed c d e where
  diag := h.faults _ (IDC.isFault_diagOff hc) ((IDC.diagOff_key_ne c 0).2.2 c)
  offFrom := (IdcCh.sansUnder_inj (h.chans c)).2.2.1
  calNext := (IdcCh.sansUnder_inj (h.chans c)).2.2.2.1

/-- A short to ground found on a channel that does not drive. -/
theorem diagnosed_idcScGnd (d : Dev) (now : Nat) (c : Fin 32) (hidle : (d.idcCh c).act = .idle) : Diagnosed c d (d.idcScGnd now c) := by
  obtain ⟨-, -, -, hch, hdiag, -⟩ := d.idcScGnd_spec now c
  obtain ⟨-, -, -, hturn, -⟩ := d.idcGroupLatch_spec now (g := c.val / 4) (by omega) false
  obtain ⟨x, hx, hxc⟩ := hturn c (List.mem_map.mpr ⟨c.val % 4, List.mem_range.mpr (by omega), by omega⟩)
  rw [Dev.latchEnds_of_idle now (hx ▸ hidle), hx] at hxc
  have hsame := hch c
  rw [hxc] at hsame
  exact ⟨hdiag.symm, (IdcCh.sansUnder_inj hsame).2.2.1, (IdcCh.sansUnder_inj hsame).2.2.2.1⟩

/-- A short to the supply found on a channel that does not drive. -/
theorem diagnosed_idcLatch (d : Dev) (now : Nat) (c : Fin 32) (hidle : (d.idcCh c).act = .idle) :
    Diagnosed c d (d.idcLatch now c 3) ∧ ((d.idcLatch now c 3).idcCh c).latched = true ∧
      (d.rd (IDC.FAULT c) ≠ 5 → (d.idcLatch now c 3).rd (IDC.FAULT c) = 3) := by
  have hsame := Dev.latchEnds_of_idle now hidle
  obtain ⟨hch, hrd, hfault⟩ := d.idcLatch_spec c now 3 (by decide) (by decide) (by rw [hsame]; exact hidle)
  rw [hsame] at hch
  exact ⟨⟨hrd _ (IDC.isFault_diagOff c.isLt) ((IDC.diagOff_key_ne c 0).2.2 c), (congrArg IdcCh.offFrom hch :), (congrArg IdcCh.calNext hch :)⟩,
    (congrArg IdcCh.latched hch :), fun h5 => (hfault h5).1⟩

/-- The codes of an off test (Table 09.8). -/
theorem offDiag_mem (hsgOn mismatch : Bool) (a b : Nat) : offDiag hsgOn mismatch a b ∈ [1, 2, 3, 4, 5] := by
  unfold offDiag
  split
  · split
    · simp
    · split
      · simp
      · split <;> simp
  · split
    · simp
    · split
      · simp
      · split
        · simp
        · split <;> simp

/-- Channel `c` once an off test has given its code. -/
def Dev.offTested (d : Dev) (now c code : Nat) : Dev :=
  (d.wr (IDC.DIAG_OFF c) code).modIdc c (fun x => { x with calNext := code != 5, offFrom := now })

/-- What follows from the code of an off test (R322). -/
def Dev.offFault (d : Dev) (now c code : Nat) : Dev :=
  match code with
  | 1 => if d.idcFaultOf c = 1 then d.idcFaultEnd c else d
  | 2 => d.idcFault now c 1
  | 3 => d.idcScGnd now c
  | 4 => d.idcLatch now c 3
  | _ => d

theorem Dev.idcOffTest_of_test {d : Dev} {now c : Nat} (a b : Nat) (ofs : Int) (hwin : d.idcOffWindow now c = true)
    (hcal : (d.idcCh c).calNext = false) : d.idcOffTest now c a b ofs =
      (d.offTested now c (offDiag (d.on (IDG.HSG_ON (c / 4))) (d.on (IDG.MISMATCH (c / 4))) a b)).offFault now c
        (offDiag (d.on (IDG.HSG_ON (c / 4))) (d.on (IDG.MISMATCH (c / 4))) a b) := by
  unfold Dev.idcOffTest
  rw [if_neg (by simp [hwin]), if_neg (by simp [hcal])]
  rfl

theorem Dev.idcOffTest_of_cal {d : Dev} {now c : Nat} (a b : Nat) (ofs : Int) (hwin : d.idcOffWindow now c = true)
    (hcal : (d.idcCh c).calNext = true) : d.idcOffTest now c a b ofs =
      (d.modIdc c (fun x => { x with calNext := false, offFrom := now })).wrS (IDC.OFS_CAL c) ofs := by
  unfold Dev.idcOffTest
  rw [if_neg (by simp [hwin]), if_pos hcal]

/-- What an off test's code means for the channel's fault. -/
theorem offFault_spec (d : Dev) (now : Nat) (c : Fin 32) {code : Nat} (hcode : code ∈ [1, 2, 3, 4, 5]) (hidle : (d.idcCh c).act = .idle) :
    Diagnosed c d (d.offFault now c code) ∧
      (code = 1 → (d.rd (IDC.FAULT c) = 1 → (d.offFault now c code).rd (IDC.FAULT c) = 0) ∧
        (d.rd (IDC.FAULT c) ≠ 1 → (d.offFault now c code).rd (IDC.FAULT c) = d.rd (IDC.FAULT c))) ∧
      (d.rd (IDC.FAULT c) ≠ 5 →
        (code = 2 → (d.offFault now c code).rd (IDC.FAULT c) = 1) ∧
        (code = 3 → (d.offFault now c code).rd (IDC.FAULT c) = 2 ∧ (d.offFault now c code).rd (IDG.GRP_LATCH (c.val / 4)) = 1) ∧
        (code = 4 → (d.offFault now c code).rd (IDC.FAULT c) = 3 ∧ ((d.offFault now c code).idcCh c).latched = true)) := by
  simp only [List.mem_cons, List.not_mem_nil, or_false] at hcode
  rcases hcode with rfl | rfl | rfl | rfl | rfl
  case inl =>
    have heq : d.offFault now c 1 = if d.idcFaultOf c = 1 then d.idcFaultEnd c else d := rfl
    have hdiag : Diagnosed c d (d.offFault now c 1) := by
      rw [heq]
      split
      · exact (faultOnly_idcFaultEnd d c.isLt).diagnosed c.isLt
      · exact Diagnosed.refl _ _
    refine ⟨hdiag, fun _ => ⟨fun h1 => ?_, fun h1 => ?_⟩, fun _ => ⟨by omega, by omega, by omega⟩⟩
    · have hof : d.idcFaultOf c = 1 := by
        unfold Dev.idcFaultOf
        rw [if_neg (by omega), h1]
      rw [heq, if_pos hof, Dev.idcFaultEnd_of_ne (by omega)]
      exact Dev.rd_wr_self _ _ _
    · rw [heq]
      by_cases h5 : d.rd (IDC.FAULT c) = 5
      · split
        · have hend : d.idcFaultEnd c = d.modIdc c (fun x => { x with under := 0 }) := if_pos h5
          rw [hend]
          rfl
        · rfl
      · have hof : d.idcFaultOf c = d.rd (IDC.FAULT c) := if_neg h5
        rw [if_neg (by omega)]
  case inr.inl =>
    exact ⟨(faultOnly_idcFault d now c.isLt 1).diagnosed c.isLt, by omega,
      fun h5 => ⟨fun _ => (Dev.idcFault_shows c.isLt now h5 (by decide) (by decide)).1, by omega, by omega⟩⟩
  case inr.inr.inl =>
    obtain ⟨hlatch, -, hfault, -, -, -⟩ := d.idcScGnd_spec now c
    exact ⟨diagnosed_idcScGnd d now c hidle, by omega, fun h5 => ⟨by omega, fun _ => ⟨hfault h5, hlatch⟩, by omega⟩⟩
  case inr.inr.inr.inl =>
    obtain ⟨hdiag, hlatched, hfault⟩ := diagnosed_idcLatch d now c hidle
    exact ⟨hdiag, by omega, fun h5 => ⟨by omega, by omega, fun _ => ⟨hfault h5, hlatched⟩⟩⟩
  case inr.inr.inr.inr => exact ⟨Diagnosed.refl _ _, by omega, fun _ => ⟨by omega, by omega, by omega⟩⟩

theorem idcOffTest_effect (s : State) (el : Nat) (c : Fin 32) (a b : Fin 3) (ofs : BitVec 12) :
    Answers (.idcOffTest el c a b ofs) s (fun now d e => d.ticking = true →
      ((d.idcCh c.val).act ≠ .idle ∨ (d.idcCh c.val).decay = true ∨ (d.idcCh c.val).done ≠ none ∨ now < (d.idcCh c.val).offFrom + us 200 ∨
        d.tstUses now c.val = true → e = d) ∧
      ((d.idcCh c.val).act = .idle → (d.idcCh c.val).decay = false → (d.idcCh c.val).done = none → (d.idcCh c.val).offFrom + us 200 ≤ now →
        d.tstUses now c.val = false →
        (e.idcCh c.val).offFrom = now ∧
        ((d.idcCh c.val).calNext = true → (e.idcCh c.val).calNext = false ∧
          e.rdS (IDC.OFS_CAL c.val) = ofs.toInt ∧ OnlyRegs [IDC.OFS_CAL c.val] { d with idc := e.idc } e) ∧
        ((d.idcCh c.val).calNext = false →
          let code := offDiag (d.on (IDG.HSG_ON (c.val / 4))) (d.on (IDG.MISMATCH (c.val / 4))) a.val b.val
          e.rd (IDC.DIAG_OFF c.val) = code ∧ (e.idcCh c.val).calNext = (code != 5) ∧
          (code = 1 → (d.rd (IDC.FAULT c.val) = 1 → e.rd (IDC.FAULT c.val) = 0) ∧
            (d.rd (IDC.FAULT c.val) ≠ 1 → e.rd (IDC.FAULT c.val) = d.rd (IDC.FAULT c.val))) ∧
          (d.rd (IDC.FAULT c.val) ≠ 5 →
            (code = 2 → e.rd (IDC.FAULT c.val) = 1) ∧
            (code = 3 → e.rd (IDC.FAULT c.val) = 2 ∧ e.rd (IDG.GRP_LATCH (c.val / 4)) = 1) ∧
            (code = 4 → e.rd (IDC.FAULT c.val) = 3 ∧ (e.idcCh c.val).latched = true))))) := by
  refine answers_of_forall (f := fun now d => if d.ticking then d.idcOffTest now c.val a.val b.val ofs.toInt else d) rfl (fun now d ht => ?_)
  rw [if_pos ht]
  refine ⟨fun hnot => if_pos ?_, fun hidle hdecay hdone hlong hfree => ?_⟩
  · unfold Dev.idcOffWindow
    rcases hnot with h | h | h | h | h
    · simp [h]
    · simp [h]
    · simp [Option.ne_none_iff_isSome.mp h]
    · simp [Nat.not_le.mpr h]
    · simp [h]
  · have hwin : d.idcOffWindow now c = true := by
      unfold Dev.idcOffWindow
      simp [hidle, hdecay, hdone, hlong, hfree]
    cases hcal : (d.idcCh c.val).calNext with
    | true =>
      rw [Dev.idcOffTest_of_cal a b _ hwin hcal]
      have hch : ((d.modIdc c (fun x => { x with calNext := false, offFrom := now })).wrS (IDC.OFS_CAL c) ofs.toInt).idcCh c =
          { d.idcCh c with calNext := false, offFrom := now } :=
        Dev.idcCh_modIdc_self d c (fun x => { x with calNext := false, offFrom := now })
      refine ⟨congrArg IdcCh.offFrom hch, fun _ => ⟨congrArg IdcCh.calNext hch, ?_, OnlyRegs.wr _ _ _ (by simp)⟩, fun h => by cases h⟩
      have hlo := BitVec.le_toInt ofs
      have hhi := BitVec.toInt_lt (x := ofs)
      exact Dev.rdS_wrS_of_fits _ _ (by decide : 0 < 12) hlo hhi
    | false =>
      rw [Dev.idcOffTest_of_test a b _ hwin hcal]
      have hmem := offDiag_mem (d.on (IDG.HSG_ON (c.val / 4))) (d.on (IDG.MISMATCH (c.val / 4))) a.val b.val
      generalize offDiag (d.on (IDG.HSG_ON (c.val / 4))) (d.on (IDG.MISMATCH (c.val / 4))) a.val b.val = code at hmem
      have hlt : code < 2 ^ 3 := by
        simp only [List.mem_cons, List.not_mem_nil, or_false] at hmem
        omega
      have hch : (d.offTested now c code).idcCh c = { d.idcCh c with calNext := code != 5, offFrom := now } :=
        Dev.idcCh_modIdc_self (d.wr (IDC.DIAG_OFF c) code) c _
      have hdiagShown : (d.offTested now c code).rd (IDC.DIAG_OFF c) = code := (Dev.rd_wr_self _ _ _).trans (Nat.mod_eq_of_lt hlt)
      have hfaultSame : (d.offTested now c code).rd (IDC.FAULT c) = d.rd (IDC.FAULT c) :=
        Dev.rd_wr_ne d _ ((IDC.diagOff_key_ne c 0).2.2 c)
      generalize d.offTested now c code = y at hch hdiagShown hfaultSame
      obtain ⟨hdiag, h1, h2⟩ := offFault_spec y now c hmem ((congrArg IdcCh.act hch).trans hidle)
      rw [hfaultSame] at h1 h2
      exact ⟨hdiag.offFrom.trans (congrArg IdcCh.offFrom hch), fun h => (by cases h),
        fun _ => ⟨hdiag.diag.trans hdiagShown, hdiag.calNext.trans (congrArg IdcCh.calNext hch), h1, h2⟩⟩

/-! ### Clears -/

/-- No fault and no latch of an actuator changes. -/
structure LatchesKept (d e : Dev) : Prop where
  faults : ∀ f : Field, f.isFault = true → e.rd f = d.rd f
  latched : ∀ k, (e.idcCh k).latched = (d.idcCh k).latched

theorem LatchesKept.refl (d : Dev) : LatchesKept d d := ⟨fun _ _ => rfl, fun _ => rfl⟩

theorem LatchesKept.trans {a b d : Dev} (h : LatchesKept a b) (g : LatchesKept b d) : LatchesKept a d :=
  ⟨fun f hf => (g.faults f hf).trans (h.faults f hf), fun k => (g.latched k).trans (h.latched k)⟩

theorem FaultsKept.latches {d e : Dev} (h : FaultsKept d e) : LatchesKept d e := ⟨h.faults, h.latched⟩

theorem latchesKept_chOn (d : Dev) (c t b : Nat) : LatchesKept d (d.chOn c t b) := by
  have hmod : ∀ f : IdcCh → IdcCh, (∀ x, (f x).latched = x.latched) → ∀ k, ((d.modIdc c f).idcCh k).latched = (d.idcCh k).latched :=
    fun f hf k => tget_tmod_keeps IdcCh.latched d.idc c hf k
  refine ⟨fun _ _ => rfl, hmod _ (fun x => ?_)⟩
  cases x.grid with
  | none => rfl
  | some g =>
    dsimp only
    split
    · rfl
    · split <;> rfl

theorem latchesKept_snuffAgain (d : Dev) (now : Nat) {c : Nat} (hc : c < 32) : LatchesKept d (d.snuffAgain now c) := by
  unfold Dev.snuffAgain
  split
  · exact (latchesKept_chOn d c now now).trans (faultsKept_idcRunN _ _ now hc).latches
  · exact LatchesKept.refl d

theorem Dev.snuffAgain_of_ne {d : Dev} {c : Nat} (now : Nat) (h : (d.idcCh c).snuff ≠ some 1) : d.snuffAgain now c = d := by
  unfold Dev.snuffAgain
  simp [h]

theorem idcFltClr_effect (s : State) (el : Nat) (c : Fin 32) :
    Answers (.idcFltClr el c) s (fun _ d e => d.hif.inService = true →
      ((d.idcCh c.val).latched = true → (e.idcCh c.val).latched = false ∧
        (d.rd (IDC.FAULT c.val) ≠ 5 → e.rd (IDC.FAULT c.val) = 0) ∧
        ((d.idcCh c.val).snuff ≠ some 1 → (e.idcCh c.val).cmds = [] ∧ (e.idcCh c.val).act = (d.idcCh c.val).act)) ∧
      ((d.idcCh c.val).latched = false → e = d)) := by
  refine answers_of_forall (f := fun now d => if d.hif.inService then d.idcFltClr now c.val else d) rfl (fun now d hs => ?_)
  rw [if_pos hs]
  refine ⟨fun hl => ?_, fun hl => if_neg (by simp [hl])⟩
  have heq : d.idcFltClr now c =
      (((d.modIdc c (fun x => { x with latched := false, cmds := [] })).idcFaultEnd c).snuffAgain now c).idcShow (c / 4) := if_pos hl
  rw [heq]
  have hx : (d.modIdc c (fun x => { x with latched := false, cmds := [] })).idcCh c = { d.idcCh c with latched := false, cmds := [] } :=
    Dev.idcCh_modIdc_self d c _
  have hxrd : ∀ f, (d.modIdc c (fun x => { x with latched := false, cmds := [] })).rd f = d.rd f := fun _ => rfl
  generalize d.modIdc c (fun x => { x with latched := false, cmds := [] }) = x at hx hxrd
  have hend := (faultOnly_idcFaultEnd x c.isLt).chans c
  rw [hx] at hend
  have hfault : d.rd (IDC.FAULT c) ≠ 5 → (x.idcFaultEnd c).rd (IDC.FAULT c) = 0 := fun h5 => by
    rw [Dev.idcFaultEnd_of_ne (by rw [hxrd]; exact h5)]
    exact Dev.rd_wr_self _ _ _
  generalize x.idcFaultEnd c = y at hend hfault
  obtain ⟨hact, hlatched, -, -, hcmds, hsnuff⟩ := IdcCh.sansUnder_inj hend
  have hkept := latchesKept_snuffAgain y now c.isLt
  have hshow := shows_idcShow (y.snuffAgain now c) (g := c.val / 4) (by omega)
  refine ⟨(hshow.kept.latched c).trans ((hkept.latched c).trans hlatched),
    fun h5 => (hshow.kept.faults _ (IDC.isFault_fault c.isLt)).trans ((hkept.faults _ (IDC.isFault_fault c.isLt)).trans (hfault h5)), fun hne => ?_⟩
  have hsame := Dev.snuffAgain_of_ne now (d := y) (c := c) (by rw [hsnuff]; exact hne)
  have hch := hshow.idcCh c
  rw [hsame] at hch ⊢
  exact ⟨(congrArg IdcCh.cmds hch).trans hcmds, (congrArg IdcCh.act hch).trans hact⟩

/-- What GRP_FLT_CLR does on channel `c` of the group. -/
def Dev.grpClrCh (d : Dev) (now c : Nat) : Dev :=
  let d := d.modIdc c (fun x => { x with cmds := [] })
  let d := if (d.idcFaultOf c = 2 || d.idcFaultOf c = 4) && !(d.idcCh c).latched then d.idcFaultEnd c else d
  d.snuffAgain now c

/-- A channel's turn touches its own fault only, ends the faults of a latched group, and leaves the channel's latch. -/
theorem grpClrCh_spec (d : Dev) (now : Nat) {c : Nat} (hc : c < 32) :
    (∀ f : Field, f.isFault = true → f.key ≠ (IDC.FAULT c).key → (d.grpClrCh now c).rd f = d.rd f) ∧
      (∀ k, ((d.grpClrCh now c).idcCh k).latched = (d.idcCh k).latched) ∧
      ((d.idcCh c).latched = false → d.rd (IDC.FAULT c) = 2 ∨ d.rd (IDC.FAULT c) = 4 → (d.grpClrCh now c).rd (IDC.FAULT c) = 0) := by
  unfold Dev.grpClrCh
  extract_lets x y
  have hx : FaultsKept d x := FaultsKept.modIdc d c _ (by intro; rfl)
  clear_value x
  have hy : FaultOnly c x y ∨ x = y := by
    unfold y
    split
    · exact .inl (faultOnly_idcFaultEnd x hc)
    · exact .inr rfl
  have hend : (d.idcCh c).latched = false → d.rd (IDC.FAULT c) = 2 ∨ d.rd (IDC.FAULT c) = 4 → y.rd (IDC.FAULT c) = 0 := fun hl h24 => by
    have hfault : x.rd (IDC.FAULT c) = d.rd (IDC.FAULT c) := hx.faults _ (IDC.isFault_fault hc)
    have h5 : x.rd (IDC.FAULT c) ≠ 5 := by omega
    have hof : x.idcFaultOf c = 2 ∨ x.idcFaultOf c = 4 := by
      unfold Dev.idcFaultOf
      rw [if_neg h5, hfault]
      exact h24
    have hcond : ((x.idcFaultOf c = 2 || x.idcFaultOf c = 4) && !(x.idcCh c).latched) = true := by
      simpa [hx.latched c, hl] using hof
    unfold y
    rw [if_pos hcond, Dev.idcFaultEnd_of_ne h5]
    exact Dev.rd_wr_self _ _ _
  have hkept := latchesKept_snuffAgain y now hc
  refine ⟨fun f hf hne => ?_, fun k => ?_, fun hl h24 => (hkept.faults _ (IDC.isFault_fault hc)).trans (hend hl h24)⟩
  · rcases hy with hy | hy
    · exact (hkept.faults f hf).trans ((hy.faults f hf hne).trans (hx.faults f hf))
    · rw [← hy] at hkept ⊢
      exact (hkept.faults f hf).trans (hx.faults f hf)
  · rcases hy with hy | hy
    · exact (hkept.latched k).trans ((IdcCh.sansUnder_inj (hy.chans k)).2.1.trans (hx.latched k))
    · rw [← hy] at hkept ⊢
      exact (hkept.latched k).trans (hx.latched k)

theorem grpFltClr_effect (s : State) (el : Nat) (g : Fin 8) :
    Answers (.grpFltClr el g) s (fun _ d e => d.hif.inService = true →
      (d.on (IDG.GRP_LATCH g.val) = true → e.rd (IDG.GRP_LATCH g.val) = 0 ∧ e.rd (IDG.HSG_OC g.val) = 0 ∧ e.rd (IDG.MISMATCH g.val) = 0 ∧
        (∀ k ∈ groupChs g.val, (d.idcCh k).latched = false → d.rd (IDC.FAULT k) = 2 ∨ d.rd (IDC.FAULT k) = 4 → e.rd (IDC.FAULT k) = 0) ∧
        (∀ k ∈ groupChs g.val, (d.idcCh k).latched = true → (e.idcCh k).latched = true)) ∧
      (d.on (IDG.GRP_LATCH g.val) = false → e = d)) := by
  refine answers_of_forall (f := fun now d => if d.hif.inService then d.grpFltClr now g.val else d) rfl (fun now d hs => ?_)
  rw [if_pos hs]
  refine ⟨fun hl => ?_, fun hl => if_neg (by simp [hl])⟩
  have heq : d.grpFltClr now g = ((((d.wr (IDG.GRP_LATCH g) 0).wr (IDG.HSG_OC g) 0).wr (IDG.MISMATCH g) 0).each (groupChs g)
      (fun d c => d.grpClrCh now c)).idcShow g := if_pos hl
  rw [heq]
  have hkeys : (IDG.HSG_OC g).key ≠ (IDG.GRP_LATCH g).key ∧ (IDG.MISMATCH g).key ≠ (IDG.GRP_LATCH g).key ∧ (IDG.MISMATCH g).key ≠ (IDG.HSG_OC g).key := by
    simp only [Field.key, IDG.GRP_LATCH, IDG.HSG_OC, IDG.MISMATCH]
    omega
  have hx1 : (((d.wr (IDG.GRP_LATCH g) 0).wr (IDG.HSG_OC g) 0).wr (IDG.MISMATCH g) 0).rd (IDG.GRP_LATCH g) = 0 :=
    (Dev.rd_wr_ne _ _ hkeys.2.1).trans ((Dev.rd_wr_ne _ _ hkeys.1).trans (Dev.rd_wr_self _ _ _))
  have hx2 : (((d.wr (IDG.GRP_LATCH g) 0).wr (IDG.HSG_OC g) 0).wr (IDG.MISMATCH g) 0).rd (IDG.HSG_OC g) = 0 :=
    (Dev.rd_wr_ne _ _ hkeys.2.2).trans (Dev.rd_wr_self _ _ _)
  have hx3 : (((d.wr (IDG.GRP_LATCH g) 0).wr (IDG.HSG_OC g) 0).wr (IDG.MISMATCH g) 0).rd (IDG.MISMATCH g) = 0 := Dev.rd_wr_self _ _ _
  have hxf : ∀ k, (((d.wr (IDG.GRP_LATCH g) 0).wr (IDG.HSG_OC g) 0).wr (IDG.MISMATCH g) 0).rd (IDC.FAULT k) = d.rd (IDC.FAULT k) := fun k =>
    (Dev.rd_wr_ne _ _ (IDG.latch_key_ne_fault g k).2.2.1).trans ((Dev.rd_wr_ne _ _ (IDG.latch_key_ne_fault g k).2.1).trans
      (Dev.rd_wr_ne _ _ (IDG.latch_key_ne_fault g k).1))
  have hxch : ∀ k, (((d.wr (IDG.GRP_LATCH g) 0).wr (IDG.HSG_OC g) 0).wr (IDG.MISMATCH g) 0).idcCh k = d.idcCh k := fun _ => rfl
  generalize ((d.wr (IDG.GRP_LATCH g) 0).wr (IDG.HSG_OC g) 0).wr (IDG.MISMATCH g) 0 = x at hx1 hx2 hx3 hxf hxch
  have hlt : ∀ k ∈ groupChs g, k < 32 := fun k hk => groupChs_lt g.isLt hk
  have hgroup : ∀ f : Field, f.isFault = true → (∀ k, f.key ≠ (IDC.FAULT k).key) →
      (x.each (groupChs g) (fun d c => d.grpClrCh now c)).rd f = x.rd f := fun f hf hne => by
    have hmem : ∀ (l : List Nat) (y : Dev), (∀ k ∈ l, k < 32) → (y.each l (fun d c => d.grpClrCh now c)).rd f = y.rd f := by
      intro l
      induction l with
      | nil => exact fun _ _ => rfl
      | cons c l ih =>
        exact fun y hl => (ih _ fun k hk => hl k (by simp [hk])).trans ((grpClrCh_spec y now (hl c (by simp))).1 f hf (hne c))
    exact hmem _ x hlt
  have hturn : ∀ k ∈ groupChs g, ∃ y : Dev, (y.rd (IDC.FAULT k), (y.idcCh k).latched) = (x.rd (IDC.FAULT k), (x.idcCh k).latched) ∧
      ((x.each (groupChs g) (fun d c => d.grpClrCh now c)).rd (IDC.FAULT k),
        ((x.each (groupChs g) (fun d c => d.grpClrCh now c)).idcCh k).latched) =
      ((y.grpClrCh now k).rd (IDC.FAULT k), ((y.grpClrCh now k).idcCh k).latched) := fun k hk =>
    Dev.each_own_turn (fun d k => (d.rd (IDC.FAULT k), (d.idcCh k).latched)) (fun d c => d.grpClrCh now c) (groupChs_nodup g)
      (fun y c hc k hk hne => by
        obtain ⟨hrd, hlat, -⟩ := grpClrCh_spec y now (hlt c hc)
        exact Prod.ext (hrd _ (IDC.isFault_fault (hlt k hk)) (IDC.fault_key_ne hne)) (hlat k)) x hk
  generalize x.each (groupChs g) (fun d c => d.grpClrCh now c) = z at hgroup hturn
  have hshow := (shows_idcShow z g.isLt).kept
  obtain ⟨hfl, hfo, hfm, -⟩ := IDG.isFault_latch g.isLt
  refine ⟨(hshow.faults _ hfl).trans ((hgroup _ hfl fun k => (IDG.latch_key_ne_fault g k).1).trans hx1),
    (hshow.faults _ hfo).trans ((hgroup _ hfo fun k => (IDG.latch_key_ne_fault g k).2.1).trans hx2),
    (hshow.faults _ hfm).trans ((hgroup _ hfm fun k => (IDG.latch_key_ne_fault g k).2.2.1).trans hx3), fun k hk hlat h24 => ?_, fun k hk hlat => ?_⟩
  · obtain ⟨y, hy, hz⟩ := hturn k hk
    obtain ⟨-, -, hclr⟩ := grpClrCh_spec y now (hlt k hk)
    have hyf : y.rd (IDC.FAULT k) = d.rd (IDC.FAULT k) := (congrArg Prod.fst hy).trans (hxf k)
    have hyl : (y.idcCh k).latched = false := (congrArg Prod.snd hy).trans ((congrArg IdcCh.latched (hxch k)).trans hlat)
    exact (hshow.faults _ (IDC.isFault_fault (hlt k hk))).trans ((congrArg Prod.fst hz).trans (hclr hyl (by rw [hyf]; exact h24)))
  · obtain ⟨y, hy, hz⟩ := hturn k hk
    obtain ⟨-, hlats, -⟩ := grpClrCh_spec y now (hlt k hk)
    exact (hshow.latched k).trans ((congrArg Prod.snd hz).trans ((hlats k).trans ((congrArg Prod.snd hy).trans
      ((congrArg IdcCh.latched (hxch k)).trans hlat))))

theorem recChSnapshot_effect (s : State) (el : Nat) (g : Fin 8) (ch : BitVec 2) :
    Answers (.recChSnapshot el g ch) s (fun _ d e => d.hif.inService = true →
      e.rd (IDG.REC_CH g.val) = ch.toNat ∧
      (∀ i, i < 10 → e.rd (IDG.REC g.val i) = (d.idcCh (4 * g.val + ch.toNat)).lastRec.getD i 0 % 2 ^ (IDG.REC g.val i).width) ∧
      e = { d with regs := e.regs }) := by
  refine answers_of_forall (f := fun _ d => if d.hif.inService then d.recChWrite g.val ch.toNat else d) rfl (fun _ d hs => ?_)
  rw [if_pos hs]
  have heq : d.recChWrite g ch.toNat = (d.wr (IDG.REC_CH g) ch.toNat).each (List.range 10)
      (fun x i => x.wr (IDG.REC g i) ((d.idcCh (4 * g.val + ch.toNat)).lastRec.getD i 0)) := rfl
  rw [heq]
  have hkeys : ∀ i k, k ≠ i → (IDG.REC g i).key ≠ (IDG.REC g k).key := fun i k hk => by
    simp only [Field.key, IDG.REC]
    omega
  have hkey : ∀ i, (IDG.REC g i).key ≠ (IDG.REC_CH g).key := fun i => by
    simp only [Field.key, IDG.REC, IDG.REC_CH]
    omega
  obtain ⟨⟨hch, hrest⟩, hset, -⟩ := Dev.each_range_sets (fun x : Dev => x.rd (IDG.REC_CH g) = ch.toNat ∧ x = { d with regs := x.regs })
    (fun x i => x.rd (IDG.REC g i)) (fun i => (d.idcCh (4 * g.val + ch.toNat)).lastRec.getD i 0 % 2 ^ 32)
    (fun x i => x.wr (IDG.REC g i) ((d.idcCh (4 * g.val + ch.toNat)).lastRec.getD i 0)) (d.wr (IDG.REC_CH g) ch.toNat)
    ⟨(Dev.rd_wr_self _ _ _).trans (Nat.mod_eq_of_lt ch.isLt), rfl⟩ 10 (fun x i _ hx =>
      ⟨⟨(Dev.rd_wr_ne x _ (hkey i)).trans hx.1, congrArg (fun y : Dev => y.wr (IDG.REC g i) ((d.idcCh (4 * g.val + ch.toNat)).lastRec.getD i 0)) hx.2⟩,
        Dev.rd_wr_self _ _ _, fun k hk => Dev.rd_wr_ne x _ (hkeys i k hk)⟩)
  exact ⟨hch, hset, hrest⟩

/-- Settles O34. -/
theorem actuatorDiagnosticsAndClears : Obligations.ActuatorDiagnosticsAndClears := by
  unfold Obligations.ActuatorDiagnosticsAndClears
  exact fun s el c g => ⟨idcOffTest_effect s el c, idcFltClr_effect s el c, grpFltClr_effect s el g, recChSnapshot_effect s el g⟩

end Sys2Proof.Machine
end

section
/-! PROOFS. Samples of a pulse, its phases, its decay and its record (R296, R299, R310 to R319). -/
namespace Sys2Proof.Machine

/-! ### What a sample leaves of a pulse -/

/-- A pulse without its opening, its peak and what its samples have shown beyond the last current. -/
def Pulse.core (p : Pulse) : Pulse := { p with openT := none, iPk := 0, sense := { cur := p.sense.cur, curAt := p.sense.curAt } }

theorem Pulse.core_modSense (p : Pulse) (f : PulseSense → PulseSense) (hcur : (f p.sense).cur = p.sense.cur) (hat : (f p.sense).curAt = p.sense.curAt) :
    (p.modSense f).core = p.core := by
  unfold Pulse.core Pulse.modSense
  dsimp only
  rw [hcur, hat]

theorem Pulse.core_onInterval (p : Pulse) (a b : Nat) (judged : Bool) : (p.onInterval a b judged).core = p.core := by
  unfold Pulse.onInterval
  split
  · rfl
  · dsimp only
    split
    · rfl
    · split <;> rfl

theorem Pulse.core_switch (p : Pulse) (on_ : Bool) (t : Nat) (judged : Bool) : (p.switch on_ t judged).core = p.core := by
  unfold Pulse.switch
  extract_lets a q
  have hq : q.core = p.core := rfl
  clear_value q
  split
  · exact hq
  · exact (q.core_onInterval a t judged).trans hq

theorem Pulse.core_regTo (p : Pulse) (t : Nat) (judged : Bool) : (p.regTo t judged).core = p.core := by
  unfold Pulse.regTo
  extract_lets q at_
  split
  · rfl
  · split
    · exact p.core_switch _ _ _
    · split
      · exact p.core_switch _ _ _
      · rfl

theorem Pulse.core_dipStep (p : Pulse) (now c v : Nat) : (p.dipStep now c v).core = p.core := by
  unfold Pulse.dipStep
  split
  · split <;> rfl
  · split
    · rfl
    · split <;> rfl
  · rfl

theorem Pulse.core_driveStep (p : Pulse) (now k v : Nat) (judged : Bool) : (p.driveStep now k v judged).core = p.core := by
  unfold Pulse.driveStep
  extract_lets l a q
  have hq : q.core = p.core := rfl
  clear_value q
  split
  · exact (q.core_dipStep _ _ _).trans hq
  · exact hq

theorem Pulse.core_stepSample (p : Pulse) (from_ t v : Nat) (fin : Pulse → Nat → Nat → Pulse) (hfin : ∀ k m, (fin p k m).core = p.core) :
    (p.stepSample from_ t v fin).core = p.core := by
  unfold Pulse.stepSample
  extract_lets k q p'
  split
  · exact p.core_modSense _ rfl rfl
  · have hp' : p'.core = p.core := by
      unfold p'
      split
      · rfl
      · exact hfin _ _
    exact (p'.core_modSense _ rfl rfl).trans hp'

/-- A sample leaves the pulse's profile, phase, commands and limit, and is its last current. -/
theorem Pulse.core_sample (p : Pulse) (t v : Nat) (judged : Bool) :
    (p.sample t v judged).core = { p.core with sense := { cur := v, curAt := t } } := by
  unfold Pulse.sample
  extract_lets p1 ph hi fast p2 p3
  have h1 : p1.core = p.core := p.core_regTo t judged
  clear_value p1
  have h2 : p2.core = { p.core with sense := { cur := v, curAt := t } } := by
    rw [← h1]
    rfl
  clear_value p2
  have h3 : p3.core = { p.core with sense := { cur := v, curAt := t } } := (p2.core_regTo t judged).trans h2
  clear_value p3
  split
  · exact h3
  · exact (p3.core_stepSample _ _ _ _ fun k m => p3.core_driveStep t k m judged).trans h3

theorem Pulse.sample_keeps (p : Pulse) (t v : Nat) (judged : Bool) {q : Pulse} (hq : p.sample t v judged = q) :
    q.prof = p.prof ∧ q.phase = p.phase ∧ q.phaseAt = p.phaseAt ∧ q.cmdEnd = p.cmdEnd ∧ q.limit = p.limit ∧ q.sense.cur = v ∧ q.sense.curAt = t := by
  have h := p.core_sample t v judged
  rw [hq] at h
  exact ⟨(congrArg Pulse.prof h :), (congrArg Pulse.phase h :), (congrArg Pulse.phaseAt h :), (congrArg Pulse.cmdEnd h :), (congrArg Pulse.limit h :),
    (congrArg (fun p => p.sense.cur) h :), (congrArg (fun p => p.sense.curAt) h :)⟩

theorem Pulse.thr_of_unlimited {p : Pulse} (h : p.limit = none) : p.thr = (p.ph.iHi, p.ph.iLo) := by
  unfold Pulse.thr
  rw [h]

theorem Pulse.ph_congr {p q : Pulse} (hprof : q.prof = p.prof) (hphase : q.phase = p.phase) : q.ph = p.ph := by
  unfold Pulse.ph
  rw [hprof, hphase]

/-! ### Ends of phases -/

theorem Pulse.phaseEnd_some_le (p : Pulse) (t : Nat) : ∃ b, p.phaseEnd (some t) = some b ∧ b.1 ≤ p.phaseAt + t := by
  unfold Pulse.phaseEnd
  extract_lets ph q least cur op lim
  have hlim : lim = some (p.phaseAt + t) := rfl
  clear_value lim
  rw [hlim]
  cases (if cur.isSome then cur else op) with
  | none => exact ⟨_, rfl, le_refl _⟩
  | some a =>
    dsimp only
    split
    · next h => exact ⟨_, rfl, h⟩
    · exact ⟨_, rfl, le_refl _⟩

/-- A phase whose end is not due has a limit that is not due. -/
theorem Pulse.limit_later {p : Pulse} {tMax : Option Nat} {now : Nat} (h : ∀ b, p.phaseEnd tMax = some b → now < b.1) :
    ∀ t, tMax = some t → now < p.phaseAt + t := fun t ht => by
  obtain ⟨b, hb, hle⟩ := p.phaseEnd_some_le t
  have := h b (ht ▸ hb)
  omega

/-- A RAMP that ends on its current ends at the sample that reaches I_HI (R299). -/
theorem Pulse.phaseEnd_of_reached {p : Pulse} {tMax : Option Nat} (hend : p.ph.endOn = 1) (hkind : p.ph.kind = 0)
    (hleast : p.phaseAt + 4000 * p.ph.tMin ≤ p.sense.curAt) (hhi : p.thr.1 ≤ p.sense.cur)
    (hlater : ∀ t, tMax = some t → p.sense.curAt < p.phaseAt + t) : p.phaseEnd tMax = some (p.sense.curAt, false) := by
  unfold Pulse.phaseEnd
  extract_lets ph q least cur op lim
  have hcur : cur = some p.sense.curAt := by
    have hmax : max q.curAt least = p.sense.curAt := max_eq_left hleast
    have hpast : ¬ p.sense.curAt < p.phaseAt := by omega
    unfold cur
    rw [if_neg (by simp [ph, q, hend, hpast]), if_pos (Or.inl ⟨hkind, hhi⟩), hmax]
  clear_value cur
  rw [hcur]
  dsimp only [Option.isSome_some]
  unfold lim
  cases htMax : tMax with
  | none => rfl
  | some t => exact if_pos (le_of_lt (hlater t htMax))

/-- A RAMP that has not reached I_HI ends at its limit only. -/
theorem Pulse.phaseEnd_of_below {p : Pulse} (tMax : Option Nat) (hend : p.ph.endOn = 1) (hkind : p.ph.kind = 0) (hlow : p.sense.cur < p.thr.1) :
    p.phaseEnd tMax = tMax.map (fun t => (p.phaseAt + t, true)) := by
  unfold Pulse.phaseEnd
  extract_lets ph q least cur op lim
  have hcur : cur = none := by
    unfold cur
    split
    · rfl
    · refine if_neg ?_
      rintro (⟨-, h⟩ | ⟨h, -⟩)
      · exact absurd hlow (Nat.not_lt.mpr h)
      · exact absurd (hkind.symm.trans h) (by decide)
  have hop : op = none := if_neg (by simp [ph, hend])
  clear_value cur op
  rw [hcur, hop]
  unfold lim
  cases tMax <;> rfl

theorem Dev.idcTime_of_later {d : Dev} {c now : Nat} {p : Pulse} (fuel : Nat) (hact : (d.idcCh c).act = .on) (hp : (d.idcCh c).pulse = some p)
    (hend : p.cmdEnd = none) (hlater : ∀ b, p.phaseEnd (d.phaseMax c p) = some b → now < b.1) : Dev.idcTimeN fuel d now c = d := by
  refine Dev.idcTimeN_rests fuel (fun v hv => ?_)
  rw [Dev.idcNext_of_open hact hp hend] at hv
  obtain ⟨b, hb, rfl⟩ := Option.map_eq_some_iff.mp hv
  exact hlater b hb

/-- A phase that nothing ends lasts. -/
theorem Dev.idcTime_of_endless {d : Dev} {c : Nat} {p : Pulse} (fuel now : Nat) (hact : (d.idcCh c).act = .on) (hp : (d.idcCh c).pulse = some p)
    (hend : p.cmdEnd = none) (hon : p.ph.endOn = 0) (hmax : p.ph.tMax = 0) : Dev.idcTimeN fuel d now c = d := by
  refine Dev.idcTime_of_later fuel hact hp hend (fun b hb => ?_)
  rw [Pulse.phaseEnd_of_timed hon, (d.phaseMax_eq_none_iff c p).mpr hmax] at hb
  cases hb

/-- A phase that has ended gives way to one that lasts. -/
theorem Dev.idcTime_of_phase {d : Dev} (c : Fin 32) {now t : Nat} {p : Pulse} {lim : Bool} (hact : (d.idcCh c).act = .on)
    (hp : (d.idcCh c).pulse = some p) (hend : p.cmdEnd = none) (hlim : p.limit = none) (hphase : p.phaseEnd (d.phaseMax c p) = some (t, lim))
    (hdue : t ≤ now) (hlen : p.phase + 1 < p.prof.phases.length) (hon : (p.prof.phases.getD (p.phase + 1) {}).endOn = 0)
    (hmax : (p.prof.phases.getD (p.phase + 1) {}).tMax = 0) : d.idcTime now c = d.nextPhase t c p lim := by
  have hnext : d.idcNext c = some (t, .phase lim) := by
    rw [Dev.idcNext_of_open hact hp hend, hphase]
    rfl
  have hdone : d.idcDueDone t c (.phase lim) = d.nextPhase t c p lim := by
    unfold Dev.idcDueDone
    rw [hp]
  have hch := congrArg Prod.fst (Dev.nextPhase_view c t lim hact hlim)
  have hact' := (congrArg IdcCh.act hch).trans hact
  obtain ⟨fl, q, hq⟩ := p.next_eq t lim
  have hprof : (p.next t lim).prof = p.prof := by rw [hq]
  have hph : (p.next t lim).phase = p.phase + 1 := by
    rw [hq]
    exact min_eq_left (by omega)
  have hcmd : (p.next t lim).cmdEnd = none := by
    rw [hq]
    exact hend
  have hphEq : (p.next t lim).ph = p.prof.phases.getD (p.phase + 1) {} := by
    unfold Pulse.ph
    rw [hprof, hph]
  unfold Dev.idcTime
  rw [Dev.idcTimeN_succ hnext hdue, hdone]
  exact Dev.idcTime_of_endless 23 now hact' (congrArg IdcCh.pulse hch) hcmd (by rw [hphEq]; exact hon) (by rw [hphEq]; exact hmax)

/-! ### A sample of a channel -/

/-- Whether the samples of channel `c` are judged. -/
def Dev.judges (d : Dev) (c : Nat) : Bool := d.alive && (d.idcCh c).holdEnd.isNone

/-- The block once a sample has entered, before the phases go on. -/
def Dev.sampled (d : Dev) (now c ma pin : Nat) : Dev :=
  (d.wr (IDC.I_NOW c) (min 4095 ma)).modIdc c (fun x =>
    { x with
      pulse := if x.act = .on then x.pulse.map (fun p => p.sample now ma (d.judges c)) else x.pulse
      done := if d.judges c then x.done.map (fun p => p.closeSample now ma pin) else x.done })

theorem Dev.idcSense_eq (d : Dev) (now c ma pin : Nat) : d.idcSense now c ma pin =
    (if ((d.idcTime now c).idcCh c).act = .on then ((d.idcTime now c).sampled now c ma pin).idcTime now c
      else (d.idcTime now c).sampled now c ma pin).readmit now (c / 4) := rfl

theorem Dev.idcCh_sampled (d : Dev) (now c ma pin : Nat) : (d.sampled now c ma pin).idcCh c =
    { d.idcCh c with
      pulse := if (d.idcCh c).act = .on then (d.idcCh c).pulse.map (fun p => p.sample now ma (d.judges c)) else (d.idcCh c).pulse
      done := if d.judges c then (d.idcCh c).done.map (fun p => p.closeSample now ma pin) else (d.idcCh c).done } :=
  Dev.idcCh_modIdc_self (d.wr (IDC.I_NOW c) (min 4095 ma)) c _

theorem Dev.sampled_of_on {d : Dev} {c : Nat} {p : Pulse} (now ma pin : Nat) (hact : (d.idcCh c).act = .on) (hp : (d.idcCh c).pulse = some p) :
    ((d.sampled now c ma pin).idcCh c).act = .on ∧ ((d.sampled now c ma pin).idcCh c).pulse = some (p.sample now ma (d.judges c)) := by
  rw [d.idcCh_sampled]
  exact ⟨hact, by simp [hact, hp]⟩

theorem Dev.phaseMax_sampled (d : Dev) (now c ma pin : Nat) {p q : Pulse} (hph : q.ph = p.ph) :
    (d.sampled now c ma pin).phaseMax c q = d.phaseMax c p := by
  have hrd : (d.sampled now c ma pin).rd (IDG.DIM_STRETCH (c / 4)) = d.rd (IDG.DIM_STRETCH (c / 4)) := by
    refine Dev.rd_wr_ne d _ ?_
    simp only [Field.key, IDC.I_NOW, IDG.DIM_STRETCH]
    omega
  unfold Dev.phaseMax Dev.rdH
  rw [hph, hrd]
  rfl

theorem IDC.isFault_iNow {c : Nat} (hc : c < 32) : (IDC.I_NOW c).isFault = true := by decide +revert

theorem Dev.rd_iNow_idcSense (d : Dev) (now ma pin : Nat) {c : Nat} (hc : c < 32) :
    (d.idcSense now c ma pin).rd (IDC.I_NOW c) = min 4095 ma := by
  have hshown : ((d.idcTime now c).sampled now c ma pin).rd (IDC.I_NOW c) = min 4095 ma :=
    (Dev.rd_wr_self (d.idcTime now c) _ _).trans (Nat.mod_eq_of_lt (show min 4095 ma < 2 ^ 12 by omega))
  rw [d.idcSense_eq]
  generalize (d.idcTime now c).sampled now c ma pin = y at hshown
  have hy : FaultsKept y (if ((d.idcTime now c).idcCh c).act = .on then y.idcTime now c else y) :=
    FaultsKept.ite (faultsKept_idcTimeN 24 y now hc) (FaultsKept.refl y)
  exact ((hy.trans (faultsKept_readmit _ now (by omega))).faults _ (IDC.isFault_iNow hc)).trans hshown

/-- A sample of a pulse without a commanded end and without a limit: what the phases make of it shows. -/
theorem Dev.idcView_idcSense_of_on {d : Dev} (c : Fin 32) {now ma pin : Nat} {p : Pulse} {x : Dev} (hx : d.idcTime now c = x)
    (hact : (x.idcCh c).act = .on) (hp : (x.idcCh c).pulse = some p) (hend : p.cmdEnd = none) (hlim : p.limit = none) :
    (d.idcSense now c ma pin).idcView c = ((x.sampled now c ma pin).idcTime now c).idcView c := by
  obtain ⟨hact', hp'⟩ := Dev.sampled_of_on now ma pin hact hp
  rw [d.idcSense_eq, hx, if_pos hact]
  obtain ⟨-, -, -, hend', hlim', -, -⟩ := p.sample_keeps now ma (x.judges c) rfl
  obtain ⟨hon, ⟨r, hr, hrun⟩, -⟩ := Dev.idcTimeN_of_open 24 c now hact' hp' (hend'.trans hend) (hlim'.trans hlim)
  refine Dev.idcView_readmit c now (by omega) (fun h => ?_) (fun _ r' hr' => ?_)
  · exact absurd (hon.symm.trans h) (by decide)
  · obtain rfl : r = r' := Option.some.inj (hr.symm.trans hr')
    exact (congrArg Pulse.limit hrun :).trans (hlim'.trans hlim)

/-- What a sample makes of a phase that has ended by its time: the phase that follows stands (R299). -/
theorem Dev.idcSense_of_timed {d : Dev} (c : Fin 32) {now ma pin t : Nat} {p : Pulse} (hact : (d.idcCh c).act = .on) (hp : (d.idcCh c).pulse = some p)
    (hend : p.cmdEnd = none) (hlim : p.limit = none) (hlen : p.phase + 1 < p.prof.phases.length)
    (hon : (p.prof.phases.getD (p.phase + 1) {}).endOn = 0) (hmax : (p.prof.phases.getD (p.phase + 1) {}).tMax = 0)
    (hend0 : p.ph.endOn = 0) (ht : d.phaseMax c p = some t) (hdue : p.phaseAt + t ≤ now) :
    (∃ r, ((d.idcSense now c ma pin).idcCh c).pulse = some r ∧ r.phase = p.phase + 1 ∧ r.phaseAt = p.phaseAt + t) ∧
      (p.ph.kind = 0 → p.sense.hit = false → (d.idcSense now c ma pin).rd (IDC.PK_WARN c) = 1) := by
  have hx : d.idcTime now c = d.nextPhase (p.phaseAt + t) c p true :=
    Dev.idcTime_of_phase c hact hp hend hlim (by rw [Pulse.phaseEnd_of_timed hend0, ht]; rfl) hdue hlen hon hmax
  have hview := Dev.nextPhase_view c (p.phaseAt + t) true hact hlim
  generalize d.nextPhase (p.phaseAt + t) c p true = x at hx hview
  have hch := congrArg Prod.fst hview
  have hwarn := congrArg (fun v => v.2.2) hview
  obtain ⟨fl, q, hq⟩ := p.next_eq (p.phaseAt + t) true
  rw [hq, min_eq_left (show p.phase + 1 ≤ p.prof.phases.length - 1 by omega)] at hch
  have hact' : (x.idcCh c).act = .on := (congrArg IdcCh.act hch).trans hact
  have hp' := congrArg IdcCh.pulse hch
  dsimp only at hp'
  obtain ⟨hact'', hp''⟩ := Dev.sampled_of_on now ma pin hact' hp'
  have hrest := Dev.idcView_idcSense_of_on (ma := ma) (pin := pin) c hx hact' hp' hend hlim
  generalize hr : Pulse.sample _ now ma (x.judges c) = r at hp''
  obtain ⟨hprof, hph, hphAt, hend', -, -, -⟩ := Pulse.sample_keeps _ now ma (x.judges c) hr
  have hphEq : r.ph = p.prof.phases.getD (p.phase + 1) {} := by
    unfold Pulse.ph
    rw [hprof, hph]
  have hstays : (x.sampled now c ma pin).idcTime now c = x.sampled now c ma pin :=
    Dev.idcTime_of_endless 24 now hact'' hp'' (hend'.trans hend) (by rw [hphEq]; exact hon) (by rw [hphEq]; exact hmax)
  rw [hstays] at hrest
  refine ⟨⟨r, (congrArg IdcCh.pulse (congrArg Prod.fst hrest)).trans hp'', hph, hphAt⟩, fun hkind hhit => ?_⟩
  have hkeep : (x.sampled now c ma pin).rd (IDC.PK_WARN c) = x.rd (IDC.PK_WARN c) := by
    refine Dev.rd_wr_ne x _ ?_
    simp only [Field.key, IDC.I_NOW, IDC.PK_WARN]
    omega
  refine (congrArg (fun v => v.2.2) hrest).trans (hkeep.trans (hwarn.trans ?_))
  simp [hkind, hhit]

/-- A sample that reaches I_HI ends a RAMP that ends on its current (R299). -/
theorem Dev.idcSense_of_reached {d : Dev} (c : Fin 32) {now ma pin : Nat} {p : Pulse} (hact : (d.idcCh c).act = .on) (hp : (d.idcCh c).pulse = some p)
    (hend : p.cmdEnd = none) (hlim : p.limit = none) (hlen : p.phase + 1 < p.prof.phases.length)
    (hon : (p.prof.phases.getD (p.phase + 1) {}).endOn = 0) (hmax : (p.prof.phases.getD (p.phase + 1) {}).tMax = 0)
    (hend1 : p.ph.endOn = 1) (hkind : p.ph.kind = 0) (hlater : ∀ b, p.phaseEnd (d.phaseMax c p) = some b → now < b.1)
    (hleast : p.phaseAt + 4000 * p.ph.tMin ≤ now) (hhi : p.ph.iHi ≤ ma) :
    ∃ r, ((d.idcSense now c ma pin).idcCh c).pulse = some r ∧ r.phase = p.phase + 1 ∧ r.phaseAt = now := by
  have hx : d.idcTime now c = d := Dev.idcTime_of_later 24 hact hp hend hlater
  have hrest := Dev.idcView_idcSense_of_on (ma := ma) (pin := pin) c hx hact hp hend hlim
  obtain ⟨hact', hp'⟩ := Dev.sampled_of_on now ma pin hact hp
  have hmaxSame := fun q hph => Dev.phaseMax_sampled d now c ma pin (p := p) (q := q) hph
  generalize hq : Pulse.sample p now ma (d.judges c) = q at hp'
  obtain ⟨hprof, hph, hphAt, hend', hlim', hcur, hcurAt⟩ := p.sample_keeps now ma (d.judges c) hq
  have hphEq : q.ph = p.ph := Pulse.ph_congr hprof hph
  have hphase : q.phaseEnd ((d.sampled now c ma pin).phaseMax c q) = some (now, false) := by
    rw [hmaxSame q hphEq, ← hcurAt]
    refine Pulse.phaseEnd_of_reached (by rw [hphEq]; exact hend1) (by rw [hphEq]; exact hkind) ?_ ?_ ?_
    · rw [hphAt, hphEq, hcurAt]
      exact hleast
    · rw [Pulse.thr_of_unlimited (hlim'.trans hlim), hphEq, hcur]
      exact hhi
    · rw [hphAt, hcurAt]
      exact Pulse.limit_later hlater
  have hgo := Dev.idcTime_of_phase (d := d.sampled now c ma pin) c hact' hp' (hend'.trans hend) (hlim'.trans hlim) hphase (le_refl now)
    (by rw [hph, hprof]; exact hlen) (by rw [hph, hprof]; exact hon) (by rw [hph, hprof]; exact hmax)
  obtain ⟨fl, s, hs⟩ := q.next_eq now false
  have hch := (congrArg Prod.fst (hrest.trans (congrArg (fun y => y.idcView c) hgo))).trans
    (congrArg Prod.fst (Dev.nextPhase_view (d := d.sampled now c ma pin) (p := q) c now false hact' (hlim'.trans hlim)))
  rw [hs, hph, hprof, min_eq_left (show p.phase + 1 ≤ p.prof.phases.length - 1 by omega)] at hch
  exact ⟨_, congrArg IdcCh.pulse hch, rfl, rfl⟩

/-- A sample below I_HI leaves a RAMP that ends on its current. -/
theorem Dev.idcSense_of_below {d : Dev} (c : Fin 32) {now ma pin : Nat} {p : Pulse} (hact : (d.idcCh c).act = .on) (hp : (d.idcCh c).pulse = some p)
    (hend : p.cmdEnd = none) (hlim : p.limit = none) (hend1 : p.ph.endOn = 1) (hkind : p.ph.kind = 0)
    (hlater : ∀ b, p.phaseEnd (d.phaseMax c p) = some b → now < b.1) (hlow : ma < p.ph.iHi) :
    ∃ r, ((d.idcSense now c ma pin).idcCh c).pulse = some r ∧ r.phase = p.phase ∧ r.phaseAt = p.phaseAt := by
  have hx : d.idcTime now c = d := Dev.idcTime_of_later 24 hact hp hend hlater
  have hrest := Dev.idcView_idcSense_of_on (ma := ma) (pin := pin) c hx hact hp hend hlim
  obtain ⟨hact', hp'⟩ := Dev.sampled_of_on now ma pin hact hp
  have hmaxSame := fun q hph => Dev.phaseMax_sampled d now c ma pin (p := p) (q := q) hph
  generalize hq : Pulse.sample p now ma (d.judges c) = q at hp'
  obtain ⟨hprof, hph, hphAt, hend', hlim', hcur, hcurAt⟩ := p.sample_keeps now ma (d.judges c) hq
  have hphEq : q.ph = p.ph := Pulse.ph_congr hprof hph
  have hstays : (d.sampled now c ma pin).idcTime now c = d.sampled now c ma pin :=
    Dev.idcTime_of_later 24 hact' hp' (hend'.trans hend) (fun b hb => by
      rw [hmaxSame q hphEq, Pulse.phaseEnd_of_below _ (by rw [hphEq]; exact hend1) (by rw [hphEq]; exact hkind)
        (by rw [Pulse.thr_of_unlimited (hlim'.trans hlim), hphEq, hcur]; exact hlow)] at hb
      obtain ⟨t, ht, rfl⟩ := Option.map_eq_some_iff.mp hb
      rw [hphAt]
      exact Pulse.limit_later hlater t ht)
  rw [hstays] at hrest
  exact ⟨q, (congrArg IdcCh.pulse (congrArg Prod.fst hrest)).trans hp', hph, hphAt⟩

/-! ### The opening -/

theorem Pulse.regTo_of_free {p : Pulse} (t : Nat) (judged : Bool) (h : p.regulates = false) : p.regTo t judged = p :=
  if_pos (by simp [h])

/-- A rise of half of OK_DIP above the dip is the opening (R314). -/
theorem Pulse.openT_dipStep {p : Pulse} {v x : Nat} (now c mean : Nat) (hdip : p.sense.dipLow = some (v, x)) (hrise : v ≤ mean)
    (hhalf : p.prof.okDip ≤ 2 * (mean - v)) : (p.dipStep now c mean).openT = some x := by
  have heq : p.dipStep now c mean = if mean < v then p.modSense (fun q => { q with dipLow := some (mean, c) })
      else if p.prof.okDip ≤ 2 * (mean - v) then p.opened now x else p := by
    unfold Pulse.dipStep
    rw [hdip]
    cases p.sense.dipMax <;> rfl
  rw [heq, if_neg (by omega), if_pos hhalf]
  rfl

/-- The sample that completes the rise out of a dip shows the opening (Table 09.7). -/
theorem Pulse.openT_sample {p : Pulse} {now ma v x : Nat} (hdip : p.sense.dipLow = some (v, x)) (hkind : p.ph.kind = 0) (hlim : p.limit = none)
    (hlow : ma < p.ph.iHi) (hseek : p.seeks 0 (p.start + p.sense.step * p.prof.stepLen) = true)
    (hphase : p.phaseAt ≤ p.start + p.sense.step * p.prof.stepLen) (hls : p.sense.lsOn = true) (hreg : p.sense.reg = false) (hcnt : p.sense.cnt ≠ 0)
    (hstep : (now - p.start) / p.prof.stepLen ≠ p.sense.step) (hrise : v ≤ p.sense.sum / p.sense.cnt)
    (hhalf : p.prof.okDip ≤ 2 * (p.sense.sum / p.sense.cnt - v)) : (p.sample now ma true).openT = some x := by
  have hfree : p.regulates = false := by
    unfold Pulse.regulates
    simp [hkind, hreg]
  unfold Pulse.sample
  rw [Pulse.regTo_of_free now true hfree]
  extract_lets p0 ph hi fast q1 q2
  have hhi : ¬ hi ≤ ma := by
    unfold hi
    rw [Pulse.thr_of_unlimited hlim]
    exact Nat.not_le.mpr hlow
  have hfast : fast = false := by simp [fast, ph, p0, hkind]
  have hq1 : q1.sense.reg = false ∧ q1.sense.dipLow = some (v, x) ∧ q1.sense.lsOn = true ∧ q1.sense.cnt = p.sense.cnt ∧ q1.sense.sum = p.sense.sum ∧
      q1.sense.step = p.sense.step := ⟨by simp [q1, p0, Pulse.modSense, hreg, hhi], hdip, hls, rfl, rfl, rfl⟩
  have hq1p : q1.ph = p.ph ∧ q1.prof = p.prof ∧ q1.start = p.start ∧ q1.phaseAt = p.phaseAt ∧ q1.openT = p.openT := ⟨rfl, rfl, rfl, rfl, rfl⟩
  clear_value q1
  obtain ⟨hreg1, hdip1, hls1, hcnt1, hsum1, hstep1⟩ := hq1
  obtain ⟨hph1, hprof1, hstart1, hphAt1, hopen1⟩ := hq1p
  have hq2 : q2 = q1 := Pulse.regTo_of_free now true (by
    unfold Pulse.regulates
    simp [hph1, hkind, hreg1])
  clear_value q2
  subst hq2
  rw [if_neg (by simp [hfast])]
  unfold Pulse.stepSample
  extract_lets k s r
  have hkne : ¬ k = s.step := by
    unfold k s
    rw [hprof1, hstart1, hstep1]
    exact hstep
  rw [if_neg hkne]
  have hr : r = q2.driveStep now p.sense.step (p.sense.sum / p.sense.cnt) true := by
    unfold r s
    rw [hcnt1, hsum1, hstep1]
    exact if_neg hcnt
  have hropen : r.openT = some x := by
    rw [hr]
    unfold Pulse.driveStep
    extract_lets l a q3
    have hseek3 : q3.seeks 0 a = true := by
      have h : q3.seeks 0 a = p.seeks 0 a := by
        unfold Pulse.seeks
        rw [show q3.ph = p.ph from hph1, show q3.prof = p.prof from hprof1, show q3.start = p.start from hstart1, show q3.openT = p.openT from hopen1]
      rw [h]
      unfold a l
      rw [hprof1, hstart1]
      exact hseek
    have hphase3 : q3.phaseAt ≤ a := by
      unfold a l
      rw [show q3.phaseAt = p.phaseAt from hphAt1, hprof1, hstart1]
      exact hphase
    have h3 : q3.sense = q2.sense ∧ q3.prof = q2.prof := ⟨rfl, rfl⟩
    clear_value q3
    rw [if_pos (by simp [hseek3, hphase3, h3.1, hls1, hreg1])]
    exact Pulse.openT_dipStep now _ _ (by rw [h3.1]; exact hdip1) hrise (by rw [h3.2, hprof1]; exact hhalf)
  exact hropen

/-! ### The closing window -/

theorem Pulse.closeSample_of_out {p : Pulse} {t : Nat} (ma pin : Nat)
    (h : t < p.ended + 40000 * p.prof.ckBlank ∨ p.ended + ms p.prof.ckWin < t ∨ p.prof.ckEn = false) : p.closeSample t ma pin = p := by
  refine if_pos ?_
  rcases h with h | h | h <;> simp [h]

/-- The step whose second difference reaches CK_THR is the seating (R316). -/
theorem Pulse.best_closeSample {p : Pulse} {now ma pin a b : Nat} (hck : p.prof.ckEn = true) (hfast : p.prof.endFast = false)
    (hblank : p.ended + 40000 * p.prof.ckBlank ≤ now) (hwin : now ≤ p.ended + ms p.prof.ckWin) (hprev : p.sense.prev = [b, a])
    (hbest : p.sense.best = none) (hcnt : p.sense.cnt ≠ 0) (hstep : (now - p.ended) / p.prof.stepLen ≠ p.sense.step)
    (hpos : 2 * b ≤ p.sense.sum / p.sense.cnt + a) (hthr : p.prof.ckThr ≤ p.sense.sum / p.sense.cnt + a - 2 * b)
    (hin : p.ended + (p.sense.step - 1) * p.prof.stepLen + p.prof.stepLen / 2 ≤ p.ended + ms p.prof.ckWin) :
    (p.closeSample now ma pin).sense.best =
      some (p.sense.sum / p.sense.cnt + a - 2 * b, p.ended + (p.sense.step - 1) * p.prof.stepLen + p.prof.stepLen / 2) := by
  have hguard : ¬ (!p.prof.ckEn || decide (now < p.ended + 40000 * p.prof.ckBlank) || decide (p.ended + ms p.prof.ckWin < now)) = true := by
    simp [hck, hblank, hwin]
  have heq : p.closeSample now ma pin = p.stepSample p.ended now (if p.prof.endFast then min 4500 pin else ma) Pulse.closeStep := if_neg hguard
  rw [heq]
  unfold Pulse.stepSample
  extract_lets k s r
  have hkne : ¬ k = s.step := hstep
  rw [if_neg hkne]
  have hr : r = p.closeStep p.sense.step (p.sense.sum / p.sense.cnt) := if_neg hcnt
  have hrbest : r.sense.best = some (p.sense.sum / p.sense.cnt + a - 2 * b, p.ended + (p.sense.step - 1) * p.prof.stepLen + p.prof.stepLen / 2) := by
    rw [hr]
    generalize p.sense.sum / p.sense.cnt = mean at hpos hthr
    unfold Pulse.closeStep
    extract_lets l d2 m c known
    have hd2 : d2 = ((mean + a - 2 * b : Nat) : Int) := by
      unfold d2
      rw [hprev]
      dsimp only
      omega
    have hm : m = mean + a - 2 * b := by
      unfold m
      rw [hfast, hd2]
      exact Int.toNat_natCast _
    have hknown : known = true := by
      have hlen : p.sense.prev.length = 2 := by rw [hprev]; rfl
      unfold known
      rw [hlen, hm, hd2]
      simp only [beq_self_eq_true, Bool.true_and, Bool.and_eq_true, Bool.or_eq_true, decide_eq_true_eq]
      exact ⟨⟨Or.inr (by omega), hthr⟩, hin⟩
    clear_value known m
    rw [hknown, hbest, hm]
    rfl
  exact hrbest

theorem phaseEnd_effect (s : State) (el : Nat) (c : Fin 32) (ma pin : BitVec 16) :
    Answers (.phaseEnd el c ma pin) s (fun now d e => d.driving = true →
      e.rd (IDC.I_NOW c.val) = min 4095 ma.toNat ∧
      ((d.idcCh c.val).act = .on → ∀ p, (d.idcCh c.val).pulse = some p → p.cmdEnd = none → p.limit = none →
        let nx := p.prof.phases.getD (p.phase + 1) {}
        (p.phase + 1 < p.prof.phases.length → nx.endOn = 0 → nx.tMax = 0 →
          (p.ph.endOn = 0 → ∀ t, d.phaseMax c.val p = some t → p.phaseAt + t ≤ now →
            (∃ r, (e.idcCh c.val).pulse = some r ∧ r.phase = p.phase + 1 ∧ r.phaseAt = p.phaseAt + t) ∧
            (p.ph.kind = 0 → p.sense.hit = false → e.rd (IDC.PK_WARN c.val) = 1)) ∧
          (p.ph.endOn = 1 → p.ph.kind = 0 → (∀ b, p.phaseEnd (d.phaseMax c.val p) = some b → now < b.1) →
            p.phaseAt + 4000 * p.ph.tMin ≤ now → p.ph.iHi ≤ ma.toNat →
            ∃ r, (e.idcCh c.val).pulse = some r ∧ r.phase = p.phase + 1 ∧ r.phaseAt = now)) ∧
        (p.ph.endOn = 1 → p.ph.kind = 0 → (∀ b, p.phaseEnd (d.phaseMax c.val p) = some b → now < b.1) →
          (∀ t, d.phaseMax c.val p = some t → now < p.phaseAt + t) → ma.toNat < p.ph.iHi →
          ∃ r, (e.idcCh c.val).pulse = some r ∧ r.phase = p.phase ∧ r.phaseAt = p.phaseAt) ∧
        (∀ v x, p.sense.dipLow = some (v, x) → p.ph.kind = 0 → p.ph.endOn = 2 → ma.toNat < p.ph.iHi → d.alive = true →
          (d.idcCh c.val).holdEnd = none → (∀ b, p.phaseEnd (d.phaseMax c.val p) = some b → now < b.1) →
          p.seeks 0 (p.start + p.sense.step * p.prof.stepLen) = true → p.phaseAt ≤ p.start + p.sense.step * p.prof.stepLen →
          p.sense.lsOn = true → p.sense.reg = false → p.sense.cnt ≠ 0 → (now - p.start) / p.prof.stepLen ≠ p.sense.step →
          v ≤ p.sense.sum / p.sense.cnt → p.prof.okDip ≤ 2 * (p.sense.sum / p.sense.cnt - v) →
          ∃ r, (e.idcCh c.val).pulse = some r ∧ r.openT = some x)) ∧
      ((d.idcCh c.val).act = .idle → d.alive = true → (d.idcCh c.val).holdEnd = none →
        ∀ p, (d.idcCh c.val).done = some p →
          (now < p.ended + 40000 * p.prof.ckBlank ∨ p.ended + ms p.prof.ckWin < now ∨ p.prof.ckEn = false →
            (e.idcCh c.val).done = some p) ∧
          (∀ b a, p.prof.ckEn = true → p.prof.endFast = false → p.ended + 40000 * p.prof.ckBlank ≤ now → now ≤ p.ended + ms p.prof.ckWin →
            p.sense.prev = [b, a] → p.sense.best = none → p.sense.cnt ≠ 0 → (now - p.ended) / p.prof.stepLen ≠ p.sense.step →
            2 * b ≤ p.sense.sum / p.sense.cnt + a → p.prof.ckThr ≤ p.sense.sum / p.sense.cnt + a - 2 * b →
            p.ended + (p.sense.step - 1) * p.prof.stepLen + p.prof.stepLen / 2 ≤ p.ended + ms p.prof.ckWin →
            ∃ r, (e.idcCh c.val).done = some r ∧
              r.sense.best = some (p.sense.sum / p.sense.cnt + a - 2 * b, p.ended + (p.sense.step - 1) * p.prof.stepLen + p.prof.stepLen / 2)))) := by
  refine answers_of_forall (f := fun now d => if d.driving then d.idcSense now c.val ma.toNat pin.toNat else d) rfl (fun now d hdrive => ?_)
  rw [if_pos hdrive]
  refine ⟨d.rd_iNow_idcSense now _ _ c.isLt, fun hact p hp hend hlim => ⟨fun hlen hon hmax => ⟨fun hend0 t ht hdue => ?_,
    fun hend1 hkind hlater hleast hhi => ?_⟩, fun hend1 hkind hlater _ hlow => ?_, fun v x hdip hkind _ hlow halive hhold hlater hseek hphase hls hreg
      hcnt hstep hrise hhalf => ?_⟩, fun hidle halive hhold p hdone => ?_⟩
  · exact Dev.idcSense_of_timed c hact hp hend hlim hlen hon hmax hend0 ht hdue
  · exact Dev.idcSense_of_reached c hact hp hend hlim hlen hon hmax hend1 hkind hlater hleast hhi
  · exact Dev.idcSense_of_below c hact hp hend hlim hend1 hkind hlater hlow
  · have hx : d.idcTime now c = d := Dev.idcTime_of_later 24 hact hp hend hlater
    have hrest := Dev.idcView_idcSense_of_on (ma := ma.toNat) (pin := pin.toNat) c hx hact hp hend hlim
    obtain ⟨hact', hp'⟩ := Dev.sampled_of_on now ma.toNat pin.toNat hact hp
    have hjudges : d.judges c = true := by
      unfold Dev.judges
      simp [halive, hhold]
    obtain ⟨-, -, -, hend', hlim', -, -⟩ := p.sample_keeps now ma.toNat (d.judges c) rfl
    obtain ⟨-, ⟨r, hr, hrun⟩, -⟩ := Dev.idcTimeN_of_open 24 c now hact' hp' (hend'.trans hend) (hlim'.trans hlim)
    refine ⟨r, (congrArg IdcCh.pulse (congrArg Prod.fst hrest)).trans hr, (congrArg Pulse.openT hrun :).trans ?_⟩
    rw [hjudges]
    exact Pulse.openT_sample hdip hkind hlim hlow hseek hphase hls hreg hcnt hstep hrise hhalf
  · have hx : d.idcTime now c = d := Dev.idcTime_of_idle now hidle
    have hch := d.idcCh_sampled now c ma.toNat pin.toNat
    have hjudges : d.judges c = true := by
      unfold Dev.judges
      simp [halive, hhold]
    rw [hjudges, hdone] at hch
    have hact := (congrArg IdcCh.act hch).trans hidle
    have hshown : ((d.idcSense now c ma.toNat pin.toNat).idcCh c).done = some (p.closeSample now ma.toNat pin.toNat) := by
      rw [d.idcSense_eq, hx, if_neg (by rw [hidle]; decide),
        Dev.idcCh_readmit c now (by rw [hact]; decide) (fun h => by rw [hact] at h; cases h)]
      exact congrArg IdcCh.done hch
    refine ⟨fun hout => hshown.trans (congrArg some (Pulse.closeSample_of_out _ _ hout)),
      fun b a hck hfast hblank hwin hprev hbest hcnt hstep hpos hthr hin => ⟨_, hshown, ?_⟩⟩
    exact Pulse.best_closeSample hck hfast hblank hwin hprev hbest hcnt hstep hpos hthr hin

/-! ### The decay that is over, a wait that is over, and the record -/

theorem endDecayDone_effect (s : State) (el : Nat) (c : Fin 32) :
    Answers (.endDecayDone el c) s (fun now d e => d.driving = true →
      ((d.idcCh c.val).act = .idle → (e.idcCh c.val).decay = false ∧
        ((d.idcCh c.val).decay = true → (e.idcCh c.val).offFrom = now) ∧ ((d.idcCh c.val).decay = false → e.idcCh c.val = d.idcCh c.val)) ∧
      ((d.idcCh c.val).act = .defer → (d.idcCh c.val).decay = true → ∀ p x, (d.idcCh c.val).pulse = some p →
        (d.idcCh c.val).lastEnd = some x → x + 4000 * p.prof.minOff ≤ p.waitFrom → p.waitFrom ≤ now → p.cmdEnd = none →
        d.waitsAhead c.val p = false → d.groupLoad (c.val / 4) c.val + p.prof.iPk ≤ d.peakLim (c.val / 4) →
        (e.idcCh c.val).act = .on ∧ ∃ q, (e.idcCh c.val).pulse = some q ∧ q.cmd = p.cmd ∧ q.start = now)) := by
  refine answers_of_forall (f := fun now d => if d.driving then d.decayOver now c.val else d) rfl (fun now d hdrive => ?_)
  rw [if_pos hdrive]
  unfold Dev.decayOver
  extract_lets y
  have hch : y.idcCh c = { d.idcCh c with
      decay := false
      offFrom := if (d.idcCh c).decay then now else (d.idcCh c).offFrom
      pulse := if (d.idcCh c).act = .on then (d.idcCh c).pulse.map (fun p => if p.ph.kind = 2 then p.modSense (fun q => { q with drained := true }) else p)
        else (d.idcCh c).pulse } := Dev.idcCh_modIdc_self d c _
  have hload : y.groupLoad (c / 4) c = d.groupLoad (c / 4) c := Dev.groupLoad_modIdc_self d _ c _
  have hahead : ∀ p : Pulse, y.waitsAhead c p = d.waitsAhead c p := fun p => Dev.waitsAhead_modIdc_self d c _ rfl
  have hpeak : y.peakLim (c / 4) = d.peakLim (c / 4) := rfl
  clear_value y
  refine ⟨fun hidle => ?_, fun hdefer hdecay p x hp hlast hoff hfrom hopen hnone hroom => ?_⟩
  · rw [hidle, if_neg (by decide)] at hch
    have hact := congrArg IdcCh.act hch
    dsimp only at hact
    rw [Dev.idcTime_of_idle now (hact.trans hidle),
      Dev.idcCh_readmit c now (by rw [hact, hidle]; decide) (fun h => by rw [hact, hidle] at h; cases h), hch]
    refine ⟨rfl, fun h => if_pos h, fun h => ?_⟩
    generalize d.idcCh c = x at h ⊢
    cases x
    dsimp only at h
    subst h
    rfl
  · rw [hdefer, hdecay, if_pos rfl, if_neg (by decide)] at hch
    have hyp : (y.idcCh c).pulse = some p := (congrArg IdcCh.pulse hch).trans hp
    have hnext : y.idcNext c = some (now, .defer) := by
      rw [Dev.idcNext_of_defer ((congrArg IdcCh.act hch).trans hdefer) hyp ((congrArg IdcCh.lastEnd hch).trans hlast) hopen,
        if_neg (by omega), hch]
      exact congrArg (fun n => some (n, IdcDue.defer)) (max_eq_left hfrom)
    have hdone : y.idcDueDone now c .defer = (y.askStart now c).readmit now (c / 4) := by
      unfold Dev.idcDueDone
      rw [hyp]
    have htime : y.idcTime now c = Dev.idcTimeN 23 ((y.askStart now c).readmit now (c / 4)) now c := by
      unfold Dev.idcTime
      rw [Dev.idcTimeN_succ hnext (le_refl now), hdone]
    rw [htime, Dev.askStart_of_room now hyp hopen ((hahead p).trans hnone) (by rw [hload, hpeak]; exact hroom)]
    have hz : (y.modIdc c (fun x => { x with pulse := some { p with waitFrom := now } })).idcCh c =
        { y.idcCh c with pulse := some { p with waitFrom := now } } := Dev.idcCh_modIdc_self y c _
    obtain ⟨-, hon, -, q, hq, hcmd, hstart, -, hlim, -, -, -⟩ := Dev.started_spec c now now 23 (congrArg IdcCh.pulse hz) hopen rfl
    have hread := Dev.idcCh_readmit c now (by rw [hon]; decide) (fun _ r hr => by cases hq.symm.trans hr; exact hlim)
    rw [hread]
    exact ⟨hon, q, hq, hcmd, hstart⟩

theorem Dev.waiting_of_single {d : Dev} {now g k : Nat} (hk : k ∈ groupChs g) (hwait : (d.idcCh k).act = .wait) (hoff : (d.idcCh k).offDue now = false)
    (hothers : ∀ j ∈ groupChs g, j ≠ k → (d.idcCh j).act ≠ .wait) : d.waiting now g = [k] := by
  have hmem : ∀ j, j ∈ d.waiting now g ↔ j = k := fun j => by
    unfold Dev.waiting
    rw [(List.mergeSort_perm _ _).mem_iff, List.mem_filter]
    constructor
    · rintro ⟨hj, hcond⟩
      by_contra hne
      simp [hothers j hj hne] at hcond
    · rintro rfl
      exact ⟨hk, by simp [hwait, hoff]⟩
  have hnd : (d.waiting now g).Nodup := (List.mergeSort_perm _ _).nodup_iff.mpr ((groupChs_nodup g).filter _)
  exact List.perm_singleton.mp ((List.perm_ext_iff_of_nodup hnd (by simp)).mpr (by simpa using hmem))

/-- A start that waits for the group's room, alone in its group (R311). -/
theorem Dev.readmit_of_single {d : Dev} {now g k : Nat} (hg : g < 8) (hk : k ∈ groupChs g) (hwait : (d.idcCh k).act = .wait)
    (hoff : (d.idcCh k).offDue now = false) (hothers : ∀ j ∈ groupChs g, j ≠ k → (d.idcCh j).act = .idle ∧ (d.idcCh j).decay = false) :
    (d.readmit now g).idcCh k = (d.admitStart now k).idcCh k := by
  have hnoOn : ∀ j ∈ groupChs g, (d.idcCh j).act ≠ .on := fun j hj => by
    by_cases hjk : j = k
    · rw [hjk, hwait]
      decide
    · rw [(hothers j hj hjk).1]
      decide
  have hraise : ∀ l : List Nat, (∀ j ∈ l, j ∈ groupChs g) → d.each l (fun d c => d.raiseLimit g c) = d := by
    intro l
    induction l with
    | nil => exact fun _ => rfl
    | cons j l ih =>
      intro hl
      have hj : d.raiseLimit g j = d := Dev.raiseLimit_of_none g (fun h => absurd h (hnoOn j (hl j (by simp))))
      have hturn : d.each (j :: l) (fun d c => d.raiseLimit g c) = (d.raiseLimit g j).each l (fun d c => d.raiseLimit g c) := rfl
      rw [hturn, hj]
      exact ih fun i hi => hl i (by simp [hi])
  rw [Dev.readmit_eq, (shows_idcShow _ hg).idcCh, hraise _ (fun _ h => h),
    Dev.waiting_of_single hk hwait hoff (fun j hj hne => by rw [(hothers j hj hne).1]; decide)]
  rfl

theorem staggerMaxExpiry_effect (s : State) (el : Nat) (g : Fin 8) :
    Answers (.staggerMaxExpiry el g) s (fun now d e => d.driving = true →
      ∀ k, k ∈ groupChs g.val → (d.idcCh k).act = .wait → (∀ j ∈ groupChs g.val, j ≠ k → (d.idcCh j).act = .idle ∧ (d.idcCh j).decay = false) →
        ∀ p, (d.idcCh k).pulse = some p → (d.idcCh k).offDue now = false → d.rd (IDG.GRP_OVL_POLICY g.val) = 0 →
          d.peakLim g.val < p.prof.iPk → p.prof.iLast ≤ d.peakLim g.val →
          (p.waitFrom + 4000 * min 1000 (d.rd (IDG.STAGGER_MAX g.val)) ≤ now →
            (e.idcCh k).act = .on ∧ ∃ q, (e.idcCh k).pulse = some q ∧ q.limit = some (d.peakLim g.val) ∧ bitOf q.flags 1 = true ∧
              q.start = now ∧ q.delay = now - p.waitFrom) ∧
          (now < p.waitFrom + 4000 * min 1000 (d.rd (IDG.STAGGER_MAX g.val)) →
            (e.idcCh k).act = .wait ∧ ∃ q, (e.idcCh k).pulse = some q ∧ bitOf q.flags 0 = true)) := by
  refine answers_of_forall (f := fun now d => if d.driving then d.readmit now g.val else d) rfl
    (fun now d hdrive k hk hwait hothers p hp hoff hpol hpeak hlast => ?_)
  rw [if_pos hdrive, Dev.readmit_of_single g.isLt hk hwait hoff hothers]
  have hgk : k / 4 = g.val := by
    obtain ⟨i, hi, rfl⟩ := List.mem_map.mp hk
    have := List.mem_range.mp hi
    omega
  have hload : d.groupLoad g k = 0 := Dev.groupLoad_of_idle hothers
  have hahead : d.waitsAhead k p = false := Dev.waitsAhead_of_idle p (fun j hj hne => by
    rw [(hothers j (hgk ▸ hj) hne).1]
    decide)
  have hadmit : d.admitStart now k = if p.waitFrom + 4000 * min 1000 (d.rd (IDG.STAGGER_MAX g)) ≤ now then d.startPulse now k (some (d.peakLim g))
      else d.modIdc k (fun x => { x with act := .wait, pulse := some (p.flag 0) }) := by
    unfold Dev.admitStart
    rw [hp]
    dsimp only
    rw [hgk, hload, hahead, hpol, if_neg (by simp [hpeak])]
    simp [hlast]
  rw [hadmit]
  refine ⟨fun hdue => ?_, fun hearly => ?_⟩
  · rw [if_pos hdue]
    obtain ⟨-, ⟨hact, -⟩, ⟨q, hq, hstart, -⟩, -⟩ := d.startPulse_spec (groupChs_lt g.isLt hk) now (some (d.peakLim g)) hp
    exact ⟨hact, q, hq, hstart.limited, hstart.shared rfl, hstart.start, hstart.delay⟩
  · rw [if_neg (by omega), Dev.idcCh_modIdc_self]
    exact ⟨rfl, _, rfl, Pulse.flag_sets p 0⟩

theorem pulseRecord_effect (s : State) (el : Nat) (c : Fin 32) (temp : BitVec 10) :
    Answers (.pulseRecord el c temp) s (fun now d e => d.alive = true →
      ∀ p, (d.idcCh c.val).done = some p →
        (p.ended + ms p.prof.ckWin ≤ now → (e.idcCh c.val).done = none ∧ e.rdS (IDG.DIE_TEMP (c.val / 4)) = temp.toInt ∧
          (p.held = false → (d.idcCh c.val).holdEnd = none → (e.idcCh c.val).lastRec.length = 10 ∧
            (e.idcCh c.val).lastRec.getD 0 0 = c.val + 2 ^ 5 * p.pt.getD 0 + 2 ^ 16 * p.seq ∧
            (e.idcCh c.val).lastRec.getD 1 0 = nsOf p.cmd % 2 ^ 32) ∧
          (p.held = true → (e.idcCh c.val).lastRec = (d.idcCh c.val).lastRec)) ∧
        (now < p.ended + ms p.prof.ckWin → e = d)) := by
  refine answers_of_forall (f := fun now d => match (d.idcCh c.val).done with
    | some p => if d.alive && decide (p.ended + ms p.prof.ckWin ≤ now) then
        (d.wrS (IDG.DIE_TEMP (c.val / 4)) temp.toInt).finishRecord now c.val else d
    | none => d) rfl (fun now d halive p hdone => ?_)
  rw [hdone]
  dsimp only
  refine ⟨fun hdue => ?_, fun hearly => if_neg (by simp [hearly])⟩
  rw [if_pos (by simp [halive, hdue])]
  have htemp : (d.wrS (IDG.DIE_TEMP (c.val / 4)) temp.toInt).rdS (IDG.DIE_TEMP (c.val / 4)) = temp.toInt :=
    Dev.rdS_wrS_of_fits d _ (by decide : 0 < 10) (BitVec.le_toInt temp) (BitVec.toInt_lt (x := temp))
  have hch : ∀ k, (d.wrS (IDG.DIE_TEMP (c.val / 4)) temp.toInt).idcCh k = d.idcCh k := fun _ => rfl
  generalize d.wrS (IDG.DIE_TEMP (c.val / 4)) temp.toInt = y at htemp hch
  rw [← hch] at hdone ⊢
  have hkept := (driveOf_finishRecord y now c.isLt).kept.faults (IDG.DIE_TEMP (c.val / 4)) (by clear * - c; decide +revert)
  have hshown : (y.finishRecord now c).rdS (IDG.DIE_TEMP (c.val / 4)) = temp.toInt :=
    (congrArg (toS (IDG.DIE_TEMP (c.val / 4)).width) hkept).trans htemp
  cases hheld : p.held || (y.idcCh c).holdEnd.isSome with
  | true =>
    have hrec := y.finishRecord_of_held now hdone hheld
    rw [hrec] at hshown ⊢
    have hclose : (y.closeWindow now c).idcCh c = { y.idcCh c with done := none, offFrom := now } := Dev.idcCh_modIdc_self y c _
    refine ⟨congrArg IdcCh.done hclose, hshown, fun hp hh => ?_, fun _ => (congrArg IdcCh.lastRec hclose :)⟩
    rw [hp, hh] at hheld
    cases hheld
  | false =>
    obtain ⟨hrd, ⟨r, ot, st, t, hnames, hlast⟩, -⟩ := y.idcCh_recordTaken now c p rfl
    have hself := (Dev.afterRecord_finishRecord c.isLt now hdone hheld).self
    refine ⟨(congrArg IdcCh.done hself :).trans hrd, hshown, fun _ _ => ?_, fun hp => ?_⟩
    · have hrec : ((y.finishRecord now c).idcCh c).lastRec = recWords c r ot st t := (congrArg IdcCh.lastRec hself :).trans hlast
      have hpt : r.pt = p.pt ∧ r.seq = p.seq ∧ r.cmd = p.cmd :=
        ⟨(congrArg Prod.fst hnames :), (congrArg (fun n => n.2.1) hnames :), (congrArg (fun n => n.2.2) hnames :)⟩
      obtain ⟨hpt, hseq, hcmd⟩ := hpt
      rw [hrec, ← hpt, ← hseq, ← hcmd]
      exact ⟨rfl, rfl, rfl⟩
    · rw [hp] at hheld
      cases hheld

/-- Settles O32. -/
theorem phasesDecayAndRecords : Obligations.PhasesDecayAndRecords := by
  unfold Obligations.PhasesDecayAndRecords
  exact fun s el c => ⟨phaseEnd_effect s el c, endDecayDone_effect s el c, staggerMaxExpiry_effect s el, pulseRecord_effect s el c⟩

end Sys2Proof.Machine
end

section
/-! PROOFS. What a firing leaves of the register file as it stands: the point descriptors and what is read off them. -/
namespace Sys2Proof.Machine

/-- A relation that writes of event registers and changes of the event handler and the recorder keep. -/
structure EventStable (R : Dev → Dev → Prop) : Prop where
  refl : ∀ d, R d d
  trans : ∀ {a b c}, R a b → R b c → R a c
  wr : ∀ d f v, EvtKey f.key → R d (d.wr f v)
  evh : ∀ (d : Dev) x, R d { d with evh := x }
  rec_ : ∀ (d : Dev) x, R d { d with rec_ := x }

section
variable {R : Dev → Dev → Prop} (h : EventStable R)
include h

theorem EventStable.wr_rec (d : Dev) (f : Field) (v : Nat) (hf : 0x4000 ≤ f.addr ∧ f.addr < 0x5000 ∧ f.lo < 32) : R d (d.wr f v) :=
  h.wr d f v (by simp only [EvtKey, Field.key]; omega)

theorem EventStable.each {α : Type} (f : Dev → α → Dev) (hf : ∀ d a, R d (f d a)) (l : List α) (d : Dev) : R d (d.each l f) := by
  unfold Dev.each
  induction l generalizing d with
  | nil => exact h.refl d
  | cons a l ih => exact h.trans (hf d a) (ih (f d a))

omit h in
theorem EventStable.ite {c : Prop} [Decidable c] {d x y : Dev} (hx : R d x) (hy : R d y) : R d (if c then x else y) := by
  split
  · exact hx
  · exact hy

theorem EventStable.stagePut (d : Dev) (mk : Dev → List Nat) : R d (d.stagePut mk) :=
  EventStable.ite (h.wr_rec d _ _ (by decide)) (EventStable.ite (h.wr_rec d _ _ (by decide)) (h.trans (h.rec_ d _) (h.wr_rec _ _ _ (by decide))))

theorem EventStable.drawToken (d : Dev) (now k : Nat) : R d (d.drawToken now k).2.2 := by
  unfold Dev.drawToken
  dsimp only
  split
  · exact h.rec_ d _
  · exact h.trans (h.rec_ d _) (h.wr_rec _ _ _ (by decide))

theorem EventStable.stageSnap (d : Dev) (now kind code trig tick edata rl : Nat) (s? : Option Nat) :
    R d (d.stageSnap now kind code trig tick edata rl s?) := by
  unfold Dev.stageSnap
  split
  · exact h.stagePut d _
  · refine h.trans (b := d.stageDef now _) ?_ (h.stagePut _ _)
    unfold Dev.stageDef
    split
    · exact h.trans (h.rec_ d _) (h.stagePut _ _)
    · exact h.refl d

theorem EventStable.setFlags (d : Dev) (now e inst : Nat) : R d (d.setFlags now e inst) := by
  unfold Dev.setFlags
  extract_lets p d1 d2
  have h1 : R d d1 := h.wr d _ _ (evtKey_raw e inst)
  have h2 : R d1 d2 := h.wr d1 _ _ (evtKey_pend e inst)
  clear_value d2 d1
  split
  · refine h.trans (h.trans h1 h2) (h.each _ (fun x n => ?_) _ d2)
    split
    · exact h.evh x _
    · exact h.refl x
  · exact h1

theorem EventStable.queueEvent (d : Dev) (port : Nat) (f : Firing) : R d (d.queueEvent port f).2 := by
  unfold Dev.queueEvent
  dsimp only
  by_cases hroom : (if port = 0 then d.evh.queue0 else d.evh.queue1).length < 64
  · rw [if_pos hroom]
    exact h.evh d _
  · rw [if_neg hroom]
    exact h.wr d EVH.KSP_DROP _ (by simp only [EvtKey, Field.key, EVH.KSP_DROP]; omega)

/-- Firings, deliveries, records and rate-limit events keep it, by the depth of the firings they cause. -/
theorem EventStable.fireN_all (fuel : Nat) : (∀ d now f, R d (Dev.fireN fuel d now f)) ∧ (∀ d now st f, R d (Dev.deliverN fuel d now st f)) ∧
    (∀ d now f, R d (Dev.recordN fuel d now f)) ∧ (∀ d now, R d (Dev.rateLimitN fuel d now)) := by
  induction fuel with
  | zero =>
    refine ⟨fun d now f => ?_, fun d now st f => ?_, fun d now f => ?_, fun d now => ?_⟩
    · simpa only [Dev.fireN] using h.setFlags _ _ _ _
    · simpa only [Dev.deliverN] using h.refl d
    · simpa only [Dev.recordN] using h.refl d
    · simpa only [Dev.rateLimitN] using h.refl d
  | succ n ih =>
    obtain ⟨hfire, hdeliver, hrecord, hlimit⟩ := ih
    refine ⟨fun d now f => ?_, fun d now st f => ?_, fun d now f => ?_, fun d now => ?_⟩
    · have htail : ∀ x : Dev, R x (if now < (tget x.evh.limits f.num : RateLim).until_ then
          ({ x with evh := { x.evh with
            limits := tset x.evh.limits f.num { (tget x.evh.limits f.num : RateLim) with heldBack := some f } } } : Dev).bump (EVH.COAL (f.num % 256))
          else Dev.deliverN n x now now f) := fun x =>
        EventStable.ite (h.trans (h.evh x _) (h.wr _ _ _ (evtKey_coal _))) (hdeliver x now now f)
      have hflags := h.setFlags d now f.num (f.edata % 2 ^ 16)
      unfold Dev.fireN
      generalize d.setFlags now f.num (f.edata % 2 ^ 16) = d1 at hflags
      refine h.trans hflags ?_
      dsimp only
      split
      · exact htail d1
      · split
        · exact h.trans (hdeliver _ _ _ _) (htail _)
        · exact htail d1
    · unfold Dev.deliverN
      extract_lets rl evh d1 d2
      have h1 : R d d1 := h.evh d _
      clear_value d1
      have hports : ∀ (l : List Nat) (x : Dev), R x (l.foldl (fun d port =>
          let r := d.queueEvent port f
          if r.1 || f.num = EVT.EVH_OVERFLOW then r.2
          else Dev.fireN n r.2 now { num := EVT.EVH_OVERFLOW, edata := port, dt := nsOf now, tick := d.tickCnt now }) x) := by
        intro l
        induction l with
        | nil => exact fun x => h.refl x
        | cons port l ihl =>
          exact fun x => h.trans (EventStable.ite (h.queueEvent x port f) (h.trans (h.queueEvent x port f) (hfire _ _ _))) (ihl _)
      have h2 : R d d2 := EventStable.ite (h.trans h1 (hports _ d1)) h1
      exact EventStable.ite (h.trans h2 (hrecord _ _ _)) h2
    · unfold Dev.recordN
      refine EventStable.ite (h.wr_rec d _ _ (by decide)) ?_
      dsimp only
      have h1 : R d (if (d.drawToken now f.num).1 = true then
          (d.drawToken now f.num).2.2.stageSnap now 0x01 f.num f.dt f.tick f.edata (d.drawToken now f.num).2.1
            ((d.drawToken now f.num).2.2.triggerSet f.num)
          else Dev.rateLimitN n (d.drawToken now f.num).2.2 now) :=
        EventStable.ite (h.trans (h.drawToken d now f.num) (h.stageSnap _ _ _ _ _ _ _ _ _)) (h.trans (h.drawToken d now f.num) (hlimit _ _))
      have htail : ∀ (x : Dev) (k : Nat) (mk : Dev → List Nat), R x (if (x.drawToken now k).1 = true then (x.drawToken now k).2.2.stagePut mk
          else Dev.rateLimitN n (x.drawToken now k).2.2 now) := fun x k mk =>
        EventStable.ite (h.trans (h.drawToken x now k) (h.stagePut _ _)) (h.trans (h.drawToken x now k) (hlimit _ _))
      split
      · exact h1
      · exact h.trans h1 (htail _ _ _)
    · have hgo : R d (Dev.fireN n { d with rec_ := { d.rec_ with lastRateEvt := some now } } now
          { num := EVT.REC_RATE_LIMIT, edata := 0, dt := nsOf now, tick := d.tickCnt now }) := h.trans (h.rec_ d _) (hfire _ _ _)
      unfold Dev.rateLimitN
      dsimp only
      split
      · exact hgo
      · split
        · exact hgo
        · exact h.refl d

theorem EventStable.fire (d : Dev) (now e inst val : Nat) : R d (d.fire now e inst val) := (h.fireN_all 8).1 d now _

end

/-! ### Entries of the register file that no event writes -/

theorem tset_filter {p : Nat × Nat → Bool} (m : KMap) {k : Nat} (v : Nat) (hk : ∀ x, p (k, x) = false) : (tset m k v).filter p = m.filter p := by
  induction m with
  | nil => simp [tset, hk]
  | cons x m ih =>
    obtain ⟨a, y⟩ := x
    unfold tset
    split
    · next ha =>
      subst ha
      simp [hk]
    · split
      · simp [hk]
      · rw [List.filter_cons, List.filter_cons, ih]

theorem tdel_filter {p : Nat × Nat → Bool} (m : KMap) {k : Nat} (hk : ∀ x, p (k, x) = false) : (tdel m k).filter p = m.filter p := by
  induction m with
  | nil => rfl
  | cons x m ih =>
    obtain ⟨a, y⟩ := x
    unfold tdel
    split
    · next ha =>
      subst ha
      simp [hk, ih]
    · rw [List.filter_cons, List.filter_cons, ih]

theorem kput_filter {p : Nat × Nat → Bool} (dflt : Nat) (m : KMap) {k : Nat} (v : Nat) (hk : ∀ x, p (k, x) = false) :
    (kput dflt m k v).filter p = m.filter p := by
  unfold kput
  split
  · exact tdel_filter m hk
  · exact tset_filter m v hk

/-- The entries of the register file that mark valid points. -/
def isPointEntry (x : Nat × Nat) : Bool := 32 * 0x020000 ≤ x.1 && x.1 < 32 * 0x030000 && x.1 % (32 * 0x40) == 0 && x.2 == 1

/-- `e` has the valid points of `d`. -/
def PointsKept (d e : Dev) : Prop := e.regs.filter isPointEntry = d.regs.filter isPointEntry

theorem PointsKept.validPts {d e : Dev} (h : PointsKept d e) : e.validPts = d.validPts :=
  congrArg (List.map (fun x : Nat × Nat => (x.1 / 32 - 0x020000) / 0x40)) h

theorem pointsKept_wr (d : Dev) (f : Field) (v : Nat) (hf : f.key < 32 * 0x020000 ∨ 32 * 0x030000 ≤ f.key) : PointsKept d (d.wr f v) :=
  kput_filter f.reset d.regs _ (fun x => by
    unfold isPointEntry
    rcases hf with h | h
    · simp [Nat.not_le.mpr h]
    · simp [Nat.not_lt.mpr h])

theorem pointsKept_stable : EventStable PointsKept where
  refl _ := rfl
  trans h g := g.trans h
  wr d f v hf := pointsKept_wr d f v (by
    unfold EvtKey at hf
    omega)
  evh _ _ := rfl
  rec_ _ _ := rfl

theorem Dev.validPts_lt {d : Dev} {n : Nat} (h : n ∈ d.validPts) : n < 1024 := by
  unfold Dev.validPts at h
  obtain ⟨x, hx, rfl⟩ := List.mem_map.mp h
  have hx := (List.mem_filter.mp hx).2
  simp only [Bool.and_eq_true, decide_eq_true_eq] at hx
  omega

/-- Which point a channel drives is read off the point descriptors (R24). -/
theorem Dev.ptOfCh_congr {d e : Dev} (hpts : PointsKept d e)
    (hrd : ∀ n < 1024, e.rd (PD.BIND_KIND n) = d.rd (PD.BIND_KIND n) ∧ e.rd (PD.LOCAL_CH n) = d.rd (PD.LOCAL_CH n)) (kind ch : Nat) :
    e.ptOfCh kind ch = d.ptOfCh kind ch := by
  unfold Dev.ptOfCh
  rw [hpts.validPts]
  refine List.find?_congr fun n hn => ?_
  obtain ⟨hkind, hch⟩ := hrd n (Dev.validPts_lt hn)
  rw [hkind, hch]

theorem Field.ofEvents_of_point {f : Field} (hlo : 0x20000 ≤ f.addr) (hhi : f.addr < 0x30000) : f.ofEvents = false := by
  simp only [Field.ofEvents, ← Bool.not_eq_true, Bool.or_eq_true, Bool.and_eq_true, decide_eq_true_eq, beq_iff_eq]
  omega

theorem Dev.ptOfCh_fire (d : Dev) (now ev inst val kind ch : Nat) : (d.fire now ev inst val).ptOfCh kind ch = d.ptOfCh kind ch :=
  Dev.ptOfCh_congr (pointsKept_stable.fire d now ev inst val) (fun n hn => by
    have haddr : 0x20000 ≤ 0x20000 + 0x40 * n + 0x4 ∧ 0x20000 + 0x40 * n + 0x4 < 0x30000 := by omega
    exact ⟨Dev.rd_fire_of _ _ _ _ _ (by decide : 0 < 32) (Field.ofEvents_of_point haddr.1 haddr.2),
      Dev.rd_fire_of _ _ _ _ _ (by decide : 8 < 32) (Field.ofEvents_of_point haddr.1 haddr.2)⟩) kind ch

end Sys2Proof.Machine
end

section
/-! PROOFS. Load switches: a switch is commanded, starts, waits, stops and holds (R333, R335, R336, R339, R360). -/
namespace Sys2Proof.Machine

/-! ### What the operations of the switches leave -/

/-- A field that the switching of an output writes: CH_STATE, SW_ON_CNT, and the bank's BANK_WAIT_CNT. -/
def Field.ofSwitching (f : Field) : Bool :=
  let o := f.addr % 0x1000
  decide (0x048000 ≤ f.addr ∧ f.addr < 0x04A000 ∧ ((o = 0x54 ∧ f.lo = 0) ∨ (o % 0x40 = 0x18 ∧ f.lo = 0) ∨ (o % 0x40 = 0x20 ∧ f.lo = 16)))

/-- A switch without its drive: what starting and stopping it leave. -/
def LswCh.given (x : LswCh) : LswCh :=
  { x with
    drv := false
    onAt := 0
    inr := false
    cut := none
    waitFrom := none
    restart := false
    restarts := []
    rev := false
    chop := none
    inrEnd := 0 }

/-- Outputs switch; those of `stops` may show that they carry no current any longer. -/
structure Switched (stops : List Nat) (d e : Dev) : Prop where
  regs : ∀ f : Field, f.lo < 32 → f.ofSwitching = false → (∀ n ∈ stops, (LSW.I_MEAS n).key ≠ f.key) → e.rd f = d.rd f
  given : ∀ k, (e.lswCh k).given = (d.lswCh k).given
  calm : ∀ k, (d.lswCh k).restart = false → (e.lswCh k).restart = false ∧ (e.lswCh k).restarts = (d.lswCh k).restarts

section
variable {ns : List Nat} {a b d e : Dev}

theorem Switched.refl (ns : List Nat) (d : Dev) : Switched ns d d := ⟨fun _ _ _ _ => rfl, fun _ => rfl, fun _ h => ⟨h, rfl⟩⟩

theorem Switched.trans (h : Switched ns a b) (g : Switched ns b d) : Switched ns a d :=
  ⟨fun f hlo hf hn => (g.regs f hlo hf hn).trans (h.regs f hlo hf hn), fun k => (g.given k).trans (h.given k), fun k hk => by
    obtain ⟨hb, hbs⟩ := h.calm k hk
    obtain ⟨hd, hds⟩ := g.calm k hb
    exact ⟨hd, hds.trans hbs⟩⟩

theorem Switched.stops (h : Switched [] d e) (ns : List Nat) : Switched ns d e := ⟨fun f hlo hf _ => h.regs f hlo hf (by simp), h.given, h.calm⟩

theorem Switched.ite {c : Prop} [Decidable c] {x y : Dev} (hx : Switched ns d x) (hy : Switched ns d y) : Switched ns d (if c then x else y) := by
  split
  · exact hx
  · exact hy

theorem Switched.of_regs (hregs : e.regs = d.regs) (hlsw : e.lsw = d.lsw) : Switched ns d e where
  regs f _ _ _ := by simp [Dev.rd, hregs]
  given k := by simp [Dev.lswCh, hlsw]
  calm k h := by simp [Dev.lswCh, hlsw] at h ⊢; exact h

theorem CovPair.switched (h : CovPair d e) : Switched ns d e := by
  unfold CovPair at h
  rw [h]
  exact Switched.of_regs rfl rfl

theorem Field.key_ne_of_ofSwitching {f g : Field} (hf : f.lo < 32) (hg : g.lo < 32) (hsw : f.ofSwitching = true) (hnot : g.ofSwitching = false) :
    f.key ≠ g.key := by
  intro hkey
  have haddr : f.addr = g.addr := by
    simp only [Field.key] at hkey
    omega
  have hlo : f.lo = g.lo := by
    simp only [Field.key] at hkey
    omega
  rw [Field.ofSwitching, haddr, hlo] at hsw
  exact Bool.false_ne_true (hnot.symm.trans hsw)

theorem Switched.wr (ns : List Nat) (d : Dev) (f : Field) (v : Nat) (hf : f.lo < 32 ∧ f.ofSwitching = true) : Switched ns d (d.wr f v) :=
  ⟨fun _ hlo hg _ => Dev.rd_wr_ne d v (Field.key_ne_of_ofSwitching hf.1 hlo hf.2 hg), fun _ => rfl, fun _ h => ⟨h, rfl⟩⟩

theorem Switched.bump (ns : List Nat) (d : Dev) (f : Field) (hf : f.lo < 32 ∧ f.ofSwitching = true) : Switched ns d (d.bump f) :=
  Switched.wr ns d f _ hf

theorem Switched.modLsw (ns : List Nat) (d : Dev) (n : Nat) (f : LswCh → LswCh) (hf : ∀ x, (f x).given = x.given)
    (hcalm : ∀ x, x.restart = false → (f x).restart = false ∧ (f x).restarts = x.restarts) : Switched ns d (d.modLsw n f) := by
  refine ⟨fun _ _ _ _ => rfl, fun k => tget_tmod_keeps LswCh.given d.lsw n hf k, fun k hk => ?_⟩
  by_cases hkn : n = k
  · subst hkn
    rw [Dev.lswCh_modLsw_self]
    exact hcalm _ hk
  · rw [Dev.lswCh_modLsw_ne d f hkn]
    exact ⟨hk, rfl⟩

end

/-- What shows of switch `n`: its state and how often it was switched on. -/
def Dev.lswView (d : Dev) (n : Nat) : LswCh × Nat := (d.lswCh n, d.rd (LSW.SW_ON_CNT n))

theorem CovPair.lswView {d e : Dev} (h : CovPair d e) (n : Nat) : e.lswView n = d.lswView n := by
  unfold CovPair at h
  rw [h]
  rfl

theorem LSW.chState_switching {n : Nat} (hn : n < 16) : (LSW.CH_STATE n).lo < 32 ∧ (LSW.CH_STATE n).ofSwitching = true := by decide +revert

theorem LSW.swOnCnt_switching {n : Nat} (hn : n < 16) : (LSW.SW_ON_CNT n).lo < 32 ∧ (LSW.SW_ON_CNT n).ofSwitching = true := by decide +revert

theorem switched_lswShow (ns : List Nat) (d : Dev) (now : Nat) {n : Nat} (hn : n < 16) : Switched ns d (d.lswShow now n) :=
  Switched.wr ns d _ _ (LSW.chState_switching hn)

theorem Dev.lswView_lswShow (d : Dev) (now n k : Nat) : (d.lswShow now n).lswView k = d.lswView k := by
  refine Prod.ext rfl (Dev.rd_wr_ne d _ ?_)
  simp only [Field.key, LSW.CH_STATE, LSW.SW_ON_CNT]
  omega

/-! ### Starting a switch -/

/-- Switch `n` once it has started. -/
def Dev.lswStarted (d : Dev) (now n : Nat) (cut : Option Nat) : LswCh :=
  { d.lswCh n with
    drv := true
    onAt := now
    inr := true
    cut := cut
    waitFrom := none
    restart := false
    chop := (d.lswWant n).2
    restarts := if (d.lswCh n).restart then now :: (d.lswCh n).restarts.take 14 else (d.lswCh n).restarts }

theorem Dev.lswStart_spec (d : Dev) (now : Nat) {n : Nat} (hn : n < 16) (cut : Option Nat) : Switched [] d (d.lswStart now n cut) ∧
    (d.lswStart now n cut).lswView n = (d.lswStarted now n cut, counted d (LSW.SW_ON_CNT n)) ∧
    ∀ k, k < 16 → k ≠ n → (d.lswStart now n cut).lswView k = d.lswView k := by
  unfold Dev.lswStart
  extract_lets c d1 d2 d3
  have h1 : Switched [] d d1 := Switched.modLsw [] d n _ (by intro; rfl) (fun x hx => ⟨rfl, by simp [hx]⟩)
  have hself : d1.lswCh n = d.lswStarted now n cut := Dev.lswCh_modLsw_self d n _
  have hne : ∀ k, k ≠ n → d1.lswCh k = d.lswCh k := fun k hk => Dev.lswCh_modLsw_ne d _ (Ne.symm hk)
  have hcnt1 : ∀ k, d1.rd (LSW.SW_ON_CNT k) = d.rd (LSW.SW_ON_CNT k) := fun _ => rfl
  clear_value d1
  have h2 : Switched [] d1 d2 := Switched.bump [] d1 _ (LSW.swOnCnt_switching hn)
  have hcnt2 : d2.rd (LSW.SW_ON_CNT n) = counted d (LSW.SW_ON_CNT n) := by
    refine (d1.rd_bump_self (LSW.SW_ON_CNT n)).trans ?_
    rw [hcnt1]
    rfl
  have hcntNe : ∀ k, k < 16 → k ≠ n → d2.rd (LSW.SW_ON_CNT k) = d.rd (LSW.SW_ON_CNT k) := fun k hk hkn => by
    refine (d1.rd_bump_ne ?_).trans (hcnt1 k)
    simp only [Field.key, LSW.SW_ON_CNT]
    omega
  have hlsw : ∀ k, d2.lswCh k = d1.lswCh k := fun _ => rfl
  clear_value d2
  have h3 : CovPair d2 d3 := by
    unfold d3
    split
    · exact CovPair.ite (CovPair.refl d2) ((covPair_covLoad _ _ _ _).trans (covPair_pushEdge _ _ _ _))
    · exact CovPair.refl d2
  refine ⟨((h1.trans h2).trans h3.switched).trans (switched_lswShow [] d3 now hn), ?_, fun k hk hkn => ?_⟩
  · rw [Dev.lswView_lswShow, h3.lswView]
    exact Prod.ext ((hlsw n).trans hself) hcnt2
  · rw [Dev.lswView_lswShow, h3.lswView]
    exact Prod.ext ((hlsw k).trans (hne k hkn)) (hcntNe k hk hkn)

/-! ### Admission -/

/-- The switches of bank `b` that wait, with the instant from which they wait. -/
def Dev.lswWaiting (d : Dev) (now b : Nat) : List (Nat × Nat) :=
  ((bankSwitches b).filter (fun n => (d.lswWant n).1 && !(d.lswCh n).offDue now)).filterMap (fun n => (d.lswCh n).waitFrom.map (fun t => (t, n)))

/-- The one that has waited longest. -/
def longestWait (l : List (Nat × Nat)) : Option (Nat × Nat) :=
  l.foldl (fun (m : Option (Nat × Nat)) x =>
    match m with | none => some x | some y => if x.1 < y.1 || (x.1 == y.1 && x.2 < y.2) then some x else some y) none

theorem longestWait_mem {l : List (Nat × Nat)} {y : Nat × Nat} (h : longestWait l = some y) : y ∈ l :=
  (foldl_pick_mem _ (fun m x => by
    cases m with
    | none => exact .inr rfl
    | some y =>
      dsimp only
      split
      · exact .inr rfl
      · exact .inl rfl) l h).resolve_left (by simp)

theorem Dev.mem_lswWaiting {d : Dev} {now b t n : Nat} (h : (t, n) ∈ d.lswWaiting now b) : n ∈ bankSwitches b ∧ (d.lswCh n).waitFrom = some t := by
  unfold Dev.lswWaiting at h
  obtain ⟨m, hm, hmap⟩ := List.mem_filterMap.mp h
  obtain ⟨u, hu, heq⟩ := Option.map_eq_some_iff.mp hmap
  cases heq
  exact ⟨(List.mem_filter.mp hm).1, hu⟩

theorem Dev.lswAdmitN_succ (fuel : Nat) (d : Dev) (now b : Nat) : Dev.lswAdmitN (fuel + 1) d now b =
    match longestWait (d.lswWaiting now b) with
    | none => d
    | some (t, n) =>
      if d.bankLoad now n + d.lswInrushLim n 0 ≤ 40000 then Dev.lswAdmitN fuel (d.lswStart now n none) now b
      else if t + ms 10 ≤ now && d.bankLoad now n + d.lswSteady n ≤ 40000 then
        Dev.lswAdmitN fuel (d.lswStart now n (some (40000 - d.bankLoad now n))) now b
      else d := rfl

/-- An admission starts switches that wait, and leaves every other. -/
theorem Dev.lswAdmitN_spec (fuel : Nat) (d : Dev) (now : Nat) {b : Nat} (hb : b < 4) : Switched [] d (Dev.lswAdmitN fuel d now b) ∧
    ∀ k, k < 16 → (d.lswCh k).waitFrom = none → (Dev.lswAdmitN fuel d now b).lswView k = d.lswView k := by
  induction fuel generalizing d with
  | zero => exact ⟨Switched.refl [] d, fun _ _ _ => rfl⟩
  | succ fuel ih =>
    rw [Dev.lswAdmitN_succ]
    split
    · exact ⟨Switched.refl [] d, fun _ _ _ => rfl⟩
    next t n hpick =>
    obtain ⟨hmem, hwait⟩ := Dev.mem_lswWaiting (longestWait_mem hpick)
    have hn := bankSwitches_lt hb hmem
    have hgo : ∀ cut, Switched [] d (Dev.lswAdmitN fuel (d.lswStart now n cut) now b) ∧
        ∀ k, k < 16 → (d.lswCh k).waitFrom = none → (Dev.lswAdmitN fuel (d.lswStart now n cut) now b).lswView k = d.lswView k := fun cut => by
      obtain ⟨hsw, -, hothers⟩ := d.lswStart_spec now hn cut
      obtain ⟨hrun, hrest⟩ := ih (d.lswStart now n cut)
      refine ⟨hsw.trans hrun, fun k hk hnone => ?_⟩
      have hkn : k ≠ n := fun h => by
        rw [h, hwait] at hnone
        cases hnone
      have hview := hothers k hk hkn
      exact (hrest k hk (by rw [show (d.lswStart now n cut).lswCh k = d.lswCh k from congrArg Prod.fst hview]; exact hnone)).trans hview
    split
    · exact hgo none
    · split
      · exact hgo _
      · exact ⟨Switched.refl [] d, fun _ _ _ => rfl⟩

theorem Dev.lswWaiting_of_none {d : Dev} {now b : Nat} (h : ∀ m ∈ bankSwitches b, (d.lswCh m).waitFrom = none) : d.lswWaiting now b = [] := by
  refine List.eq_nil_iff_forall_not_mem.mpr fun x hx => ?_
  obtain ⟨hm, hw⟩ := Dev.mem_lswWaiting (t := x.1) (n := x.2) hx
  rw [h _ hm] at hw
  cases hw

theorem Dev.lswAdmitN_of_none {d : Dev} {now b : Nat} (fuel : Nat) (h : ∀ m ∈ bankSwitches b, (d.lswCh m).waitFrom = none) :
    Dev.lswAdmitN fuel d now b = d := by
  cases fuel with
  | zero => rfl
  | succ fuel =>
    rw [Dev.lswAdmitN_succ, Dev.lswWaiting_of_none h]
    rfl

theorem bankSwitches_nodup (b : Nat) (hb : b < 4) : (bankSwitches b).Nodup := by decide +revert

theorem mem_bankSwitches {n : Nat} (hn : n < 16) : n ∈ bankSwitches (lswBank n) := by decide +revert

/-- Only switch `n` of its bank waits. -/
theorem Dev.lswWaiting_of_single {d : Dev} {now n t : Nat} (hn : n < 16) (hwait : (d.lswCh n).waitFrom = some t) (hwant : (d.lswWant n).1 = true)
    (hoff : (d.lswCh n).offDue now = false) (hothers : ∀ m ∈ bankSwitches (lswBank n), m ≠ n → (d.lswCh m).waitFrom = none) :
    d.lswWaiting now (lswBank n) = [(t, n)] := by
  have hmem : ∀ x, x ∈ d.lswWaiting now (lswBank n) ↔ x = (t, n) := fun x => by
    constructor
    · intro hx
      obtain ⟨hm, hw⟩ := Dev.mem_lswWaiting (t := x.1) (n := x.2) hx
      by_cases hxn : x.2 = n
      · rw [hxn, hwait] at hw
        exact Prod.ext (Option.some.inj hw).symm hxn
      · rw [hothers _ hm hxn] at hw
        cases hw
    · rintro rfl
      refine List.mem_filterMap.mpr ⟨n, List.mem_filter.mpr ⟨mem_bankSwitches hn, by simp [hwant, hoff]⟩, ?_⟩
      rw [hwait]
      rfl
  have hnd : (d.lswWaiting now (lswBank n)).Nodup := by
    refine List.Nodup.filterMap (fun a b x ha hb => ?_) ((bankSwitches_nodup _ (lswBank_lt n)).filter _)
    obtain ⟨u, -, rfl⟩ := Option.map_eq_some_iff.mp ha
    obtain ⟨v, -, hv⟩ := Option.map_eq_some_iff.mp hb
    exact (congrArg Prod.snd hv).symm
  exact List.perm_singleton.mp ((List.perm_ext_iff_of_nodup hnd (by simp)).mpr (by simpa using hmem))

/-- Switch `n` waits alone in its bank: it starts, with a cut limit, or waits on (R336). -/
theorem Dev.lswAdmit_of_single {d : Dev} {now n t : Nat} (hn : n < 16) (hwait : (d.lswCh n).waitFrom = some t) (hwant : (d.lswWant n).1 = true)
    (hoff : (d.lswCh n).offDue now = false) (hothers : ∀ m ∈ bankSwitches (lswBank n), m ≠ n → (d.lswCh m).waitFrom = none) :
    d.lswAdmit now (lswBank n) =
      if d.bankLoad now n + d.lswInrushLim n 0 ≤ 40000 then d.lswStart now n none
      else if t + ms 10 ≤ now && d.bankLoad now n + d.lswSteady n ≤ 40000 then d.lswStart now n (some (40000 - d.bankLoad now n))
      else d := by
  have hrest : ∀ cut, Dev.lswAdmitN 3 (d.lswStart now n cut) now (lswBank n) = d.lswStart now n cut := fun cut => by
    obtain ⟨-, hself, hne⟩ := d.lswStart_spec now hn cut
    refine Dev.lswAdmitN_of_none 3 fun m hm => ?_
    by_cases hmn : m = n
    · rw [hmn, show (d.lswStart now n cut).lswCh n = d.lswStarted now n cut from congrArg Prod.fst hself]
      rfl
    · rw [show (d.lswStart now n cut).lswCh m = d.lswCh m from congrArg Prod.fst (hne m (bankSwitches_lt (lswBank_lt n) hm) hmn)]
      exact hothers m hm hmn
  unfold Dev.lswAdmit
  rw [Dev.lswAdmitN_succ, Dev.lswWaiting_of_single hn hwait hwant hoff hothers]
  dsimp only [longestWait, List.foldl_cons, List.foldl_nil]
  rw [hrest none, hrest]

theorem Dev.lswInrushLim_le (d : Dev) (n t : Nat) : d.lswInrushLim n t ≤ 30000 := by
  have hclass : lswClassLim n ≤ 30000 := by
    unfold lswClassLim
    split <;> omega
  have hsteady : d.lswSteady n ≤ lswClassLim n := min_le_right _ _
  unfold Dev.lswInrushLim
  extract_lets st
  split
  · exact hsteady.trans hclass
  · split
    · exact (min_le_right _ _).trans hclass
    · exact (min_le_right _ _).trans hclass

theorem Dev.bankLoad_of_off {d : Dev} (now : Nat) {n : Nat} (h : ∀ m ∈ bankSwitches (lswBank n), (d.lswCh m).drv = false) : d.bankLoad now n = 0 := by
  have hnil : (bankSwitches (lswBank n)).filter (fun m => m != n && (d.lswCh m).drv) = [] := by
    rw [List.filter_eq_nil_iff]
    exact fun m hm => by simp [h m hm]
  unfold Dev.bankLoad
  rw [hnil]
  rfl

/-! ### Stopping a switch -/

theorem LSW.iMeas_key_ne_swOnCnt (n k : Nat) : (LSW.I_MEAS n).key ≠ (LSW.SW_ON_CNT k).key := by
  simp only [Field.key, LSW.I_MEAS, LSW.SW_ON_CNT]
  omega

theorem LSW.iMeas_plain {n : Nat} (hn : n < 16) : (LSW.I_MEAS n).lo < 32 ∧ (LSW.I_MEAS n).ofSwitching = false := by decide +revert

/-- A switch that stops carries no current, and waits for nothing. -/
theorem Dev.lswStop_spec (d : Dev) (now : Nat) {n : Nat} (hn : n < 16) : Switched [n] d (d.lswStop now n) ∧
    ((d.lswStop now n).lswCh n = { d.lswCh n with
      drv := false
      inr := false
      cut := none
      waitFrom := none
      restart := false
      chop := none
      rev := false }) ∧
    (d.lswStop now n).rd (LSW.SW_ON_CNT n) = d.rd (LSW.SW_ON_CNT n) ∧
    ((d.lswCh n).drv = true → (d.lswStop now n).rd (LSW.I_MEAS n) = 0) := by
  unfold Dev.lswStop
  extract_lets was d1 d2 d3
  have h1 : Switched [n] d d1 := Switched.modLsw [n] d n _ (by intro; rfl) (fun _ _ => ⟨rfl, rfl⟩)
  have hself := Dev.lswCh_modLsw_self d n (fun c => { c with
    drv := false
    inr := false
    cut := none
    waitFrom := none
    restart := false
    chop := none
    rev := false })
  have hcnt1 : d1.rd (LSW.SW_ON_CNT n) = d.rd (LSW.SW_ON_CNT n) := rfl
  change d1.lswCh n = _ at hself
  clear_value d1
  have h2 : Switched [n] d1 d2 := ⟨fun f _ _ hf => Dev.rd_wr_ne d1 0 (hf n (by simp)), fun _ => rfl, fun _ h => ⟨h, rfl⟩⟩
  have hcnt2 : d2.rd (LSW.SW_ON_CNT n) = d1.rd (LSW.SW_ON_CNT n) := Dev.rd_wr_ne d1 0 (LSW.iMeas_key_ne_swOnCnt n n)
  have hlsw2 : d2.lswCh n = d1.lswCh n := rfl
  have hmeas2 : d2.rd (LSW.I_MEAS n) = 0 := Dev.rd_wr_self d1 _ 0
  clear_value d2
  have hview2 : d2.lswView n = d1.lswView n := Prod.ext hlsw2 hcnt2
  have h3 : Switched [n] d1 d3 ∧ d3.lswView n = d1.lswView n ∧ (was = true → d3.rd (LSW.I_MEAS n) = 0) := by
    unfold d3
    split
    · have hcov : ∀ pt, CovPair d2 (d2.pushEdge pt false (now + d2.latCycles pt false)) := fun pt => covPair_pushEdge _ _ _ _
      split
      · refine ⟨h2.trans (hcov _).switched, ((hcov _).lswView n).trans hview2, fun _ => ?_⟩
        exact (((hcov _).switched (ns := [])).regs _ (LSW.iMeas_plain hn).1 (LSW.iMeas_plain hn).2 (by simp)).trans hmeas2
      · exact ⟨h2, hview2, fun _ => hmeas2⟩
    · next hwas => exact ⟨Switched.refl _ d1, rfl, fun h => absurd h hwas⟩
  clear_value d3
  obtain ⟨h3, hview3, hmeas3⟩ := h3
  have hch3 : d3.lswCh n = d1.lswCh n := congrArg Prod.fst hview3
  obtain ⟨hadmit, hkeep⟩ := Dev.lswAdmitN_spec 4 d3 now (lswBank_lt n)
  have hview4 := hkeep n hn (by rw [hch3, hself])
  have hshow := switched_lswShow [] (d3.lswAdmit now (lswBank n)) now hn
  refine ⟨((h1.trans h3).trans (hadmit.stops [n])).trans (hshow.stops [n]), ?_, ?_, fun hwas => ?_⟩
  · exact (congrArg Prod.fst ((Dev.lswView_lswShow _ now n n).trans (hview4.trans hview3))).trans hself
  · exact (congrArg Prod.snd ((Dev.lswView_lswShow _ now n n).trans (hview4.trans hview3))).trans hcnt1
  · have hplain := LSW.iMeas_plain hn
    exact (hshow.regs _ hplain.1 hplain.2 (by simp)).trans ((hadmit.regs _ hplain.1 hplain.2 (by simp)).trans (hmeas3 hwas))

/-! ### A switch takes its state -/

theorem LSB.bankWaitCnt_switching : LSB.BANK_WAIT_CNT.lo < 32 ∧ LSB.BANK_WAIT_CNT.ofSwitching = true := by decide

theorem switched_lswApply (d : Dev) (now cmd : Nat) {n : Nat} (hn : n < 16) : Switched [n] d (d.lswApply now cmd n) := by
  unfold Dev.lswApply
  extract_lets w c d1
  refine Switched.ite (Switched.ite (d.lswStop_spec now hn).1 (switched_lswShow _ d now hn)) (Switched.ite ?_ (Switched.ite (Switched.refl _ d) ?_))
  · exact (Switched.modLsw [n] d n _ (by intro; rfl) (by exact fun _ h => ⟨h, rfl⟩)).trans (switched_lswShow _ _ now hn)
  · have h1 : Switched [n] d d1 := (Switched.modLsw [n] d n _ (by intro; rfl) (by exact fun _ h => ⟨h, rfl⟩)).trans
      ((Dev.lswAdmitN_spec 4 _ now (lswBank_lt n)).1.stops [n])
    exact Switched.ite ((h1.trans (Switched.bump [n] d1 _ LSB.bankWaitCnt_switching)).trans (switched_lswShow _ _ now hn)) h1

/-- A switch that is not wanted on is off and waits for nothing (R333). -/
theorem Dev.lswApply_of_unwanted {d : Dev} (now cmd : Nat) {n : Nat} (hn : n < 16) (hwant : (d.lswWant n).1 = false) :
    ((d.lswApply now cmd n).lswCh n).drv = false ∧ ((d.lswApply now cmd n).lswCh n).waitFrom = none ∧
      ((d.lswCh n).drv = true → ((d.lswApply now cmd n).lswCh n).inr = false ∧ (d.lswApply now cmd n).rd (LSW.I_MEAS n) = 0) := by
  have heq : d.lswApply now cmd n = if (d.lswCh n).drv || (d.lswCh n).waitFrom.isSome then d.lswStop now n else d.lswShow now n := by
    unfold Dev.lswApply
    extract_lets w c d1
    exact if_pos (by simp [w, hwant])
  rw [heq]
  obtain ⟨-, hself, -, hmeas⟩ := d.lswStop_spec now hn
  by_cases hbusy : ((d.lswCh n).drv || (d.lswCh n).waitFrom.isSome) = true
  · rw [if_pos hbusy, hself]
    exact ⟨rfl, rfl, fun hdrv => ⟨rfl, hmeas hdrv⟩⟩
  · rw [if_neg hbusy, show (d.lswShow now n).lswCh n = d.lswCh n from congrArg Prod.fst (d.lswView_lswShow now n n)]
    simp only [Bool.or_eq_true, not_or, Bool.not_eq_true, Option.isSome_eq_false_iff, Option.isNone_iff_eq_none] at hbusy
    exact ⟨hbusy.1, hbusy.2, fun h => absurd (hbusy.1.symm.trans h) (by decide)⟩

/-- What decides whether a switch is wanted on, beside the registers and the power state. -/
def LswCh.asked (x : LswCh) : LswCh := { x.given with cmds := [] }

theorem Dev.lswWant_congr {d e : Dev} {n : Nat} (hrd : e.regs = d.regs) (hpwr : e.pwr = d.pwr) (hch : (e.lswCh n).asked = (d.lswCh n).asked) :
    e.lswWant n = d.lswWant n := by
  have h : ∀ f, e.rd f = d.rd f := fun f => by simp [Dev.rd, hrd]
  have hf : (e.lswCh n).hot = (d.lswCh n).hot ∧ (e.lswCh n).dualOff = (d.lswCh n).dualOff ∧ (e.lswCh n).shed = (d.lswCh n).shed ∧
      (e.lswCh n).snuff = (d.lswCh n).snuff ∧ (e.lswCh n).last = (d.lswCh n).last ∧ (e.lswCh n).holdEnd = (d.lswCh n).holdEnd ∧
      (e.lswCh n).force = (d.lswCh n).force ∧ (e.lswCh n).com = (d.lswCh n).com ∧ (e.lswCh n).idle = (d.lswCh n).idle :=
    ⟨(congrArg LswCh.hot hch :), (congrArg LswCh.dualOff hch :), (congrArg LswCh.shed hch :), (congrArg LswCh.snuff hch :),
      (congrArg LswCh.last hch :), (congrArg LswCh.holdEnd hch :), (congrArg LswCh.force hch :), (congrArg LswCh.com hch :),
      (congrArg LswCh.idle hch :)⟩
  obtain ⟨hhot, hdual, hshed, hsnuff, hlast, hhold, hforce, hcom, hidle⟩ := hf
  unfold Dev.lswWant Dev.lswSnuffPwm Dev.lswOnDrive Dev.lswChopPeriod Dev.lswAux Dev.on Dev.rdH
  dsimp only
  rw [hhot, hdual, hshed, hsnuff, hlast, hhold, hforce, hcom, hidle, hpwr]
  simp only [h]

/-- A switch wanted on in a bank where nothing drives and nothing waits starts at once (R335). -/
theorem Dev.lswApply_of_free {d : Dev} (now cmd : Nat) {n : Nat} (hn : n < 16) (hwant : (d.lswWant n).1 = true)
    (hoff : (d.lswCh n).offDue now = false) (hbank : ∀ m ∈ bankSwitches (lswBank n), (d.lswCh m).drv = false ∧ (d.lswCh m).waitFrom = none) :
    ((d.lswApply now cmd n).lswCh n).drv = true ∧ ((d.lswApply now cmd n).lswCh n).onAt = now ∧ ((d.lswApply now cmd n).lswCh n).inr = true ∧
      ((d.lswApply now cmd n).lswCh n).cut = none ∧ ((d.lswApply now cmd n).lswCh n).waitFrom = none ∧
      (d.lswApply now cmd n).rd (LSW.SW_ON_CNT n) = counted d (LSW.SW_ON_CNT n) := by
  obtain ⟨hdrv, hnone⟩ := hbank n (mem_bankSwitches hn)
  have heq : d.lswApply now cmd n =
      (let x := (d.modLsw n (fun c => { c with waitFrom := some cmd })).lswAdmit now (lswBank n)
       if (x.lswCh n).waitFrom.isSome then (x.bump LSB.BANK_WAIT_CNT).lswShow now n else x) := by
    unfold Dev.lswApply
    extract_lets w c x
    rw [if_neg (by simp [w, hwant]), if_neg (by simp [c, hdrv]), if_neg (by simp [c, hnone])]
  have hself : (d.modLsw n (fun c => { c with waitFrom := some cmd })).lswCh n = { d.lswCh n with waitFrom := some cmd } := Dev.lswCh_modLsw_self d n _
  have hne : ∀ m, m ≠ n → (d.modLsw n (fun c => { c with waitFrom := some cmd })).lswCh m = d.lswCh m :=
    fun m hm => Dev.lswCh_modLsw_ne d _ (Ne.symm hm)
  have hywant : (d.modLsw n (fun c => { c with waitFrom := some cmd })).lswWant n = d.lswWant n :=
    Dev.lswWant_congr rfl rfl (by rw [hself]; rfl)
  have hcnt : (d.modLsw n (fun c => { c with waitFrom := some cmd })).rd (LSW.SW_ON_CNT n) = d.rd (LSW.SW_ON_CNT n) := rfl
  rw [heq]
  generalize d.modLsw n (fun c => { c with waitFrom := some cmd }) = y at hself hne hywant hcnt
  have hload : y.bankLoad now n = 0 := Dev.bankLoad_of_off now fun m hm => by
    by_cases hmn : m = n
    · rw [hmn, hself]
      exact hdrv
    · rw [hne m hmn]
      exact (hbank m hm).1
  have hadmit := Dev.lswAdmit_of_single (d := y) (now := now) (t := cmd) hn (by rw [hself]) (by rw [hywant]; exact hwant) (by rw [hself]; exact hoff)
    (fun m hm hmn => by rw [hne m hmn]; exact (hbank m hm).2)
  have hlim := y.lswInrushLim_le n 0
  rw [hload, Nat.zero_add, if_pos (by omega)] at hadmit
  rw [hadmit]
  obtain ⟨-, hview, -⟩ := y.lswStart_spec now hn none
  have hch : (y.lswStart now n none).lswCh n = y.lswStarted now n none := congrArg Prod.fst hview
  dsimp only
  rw [if_neg (by rw [hch]; exact Bool.false_ne_true), hch]
  refine ⟨rfl, rfl, rfl, rfl, rfl, (congrArg Prod.snd hview).trans ?_⟩
  exact congrArg (fun v => min (2 ^ 16 - 1) (v + 1)) hcnt

end Sys2Proof.Machine
end

section
/-! PROOFS. The commands of the load switches (R333 to R339), and the end of hold windows (R360). -/
namespace Sys2Proof.Machine

/-! ### Commands of a switch -/

theorem Dev.modLsw_congr {d : Dev} {n : Nat} {f g : LswCh → LswCh} (h : f (d.lswCh n) = g (d.lswCh n)) : d.modLsw n f = d.modLsw n g := by
  have htab : tmod d.lsw n f = tmod d.lsw n g := congrArg (tset d.lsw n) h
  unfold Dev.modLsw
  rw [htab]

theorem Dev.lswRun_of_later {d : Dev} {now n : Nat} {k : LswCmd} (h : (d.lswCh n).cmds = [k]) (hk : now < k.dt) :
    d.lswRun now n = d.modLsw n (fun x => { x with cmds := [k] }) := by
  have hnil : [k].filter (fun k => decide (k.dt ≤ now)) = [] := by simp [hk]
  have hrest : [k].filter (fun k => !decide (k.dt ≤ now)) = [k] := by simp [hk]
  unfold Dev.lswRun
  rw [h, hnil]
  refine Dev.modLsw_congr ?_
  rw [h, hrest]

theorem Dev.lswRun_of_due {d : Dev} {now n : Nat} {k : LswCmd} (h : (d.lswCh n).cmds = [k]) (hk : k.dt ≤ now) :
    d.lswRun now n = (d.modLsw n (fun x => { x with cmds := [] })).lswExec now n k := by
  have hdue : [k].filter (fun k => decide (k.dt ≤ now)) = [k] := by simp [hk]
  have hnil : [k].filter (fun k => !decide (k.dt ≤ now)) = [] := by simp [hk]
  have hmod : d.modLsw n (fun c => { c with cmds := c.cmds.filter (fun k => !decide (k.dt ≤ now)) }) = d.modLsw n (fun x => { x with cmds := [] }) := by
    refine Dev.modLsw_congr ?_
    rw [h, hnil]
  unfold Dev.lswRun
  rw [h, hdue, hmod]
  rfl

/-- Switch `n` as a command of a window's opening leaves it before it takes its state. -/
def Dev.lswOpened (d : Dev) (n : Nat) (k : LswCmd) (c : LswCh) : LswCh :=
  { c with
    com := k.on
    force := k.force
    holdEnd := none
    shed := d.lswSheds n
    dualOff := d.lswStandby n
    idle := d.lswIdle n
    snuff := if d.snuffActive then c.snuff else none }

theorem Dev.lswExec_of_command (d : Dev) (now n : Nat) {k : LswCmd} (h : k.opens = false) :
    d.lswExec now n k = (d.modLsw n (fun c => { c with com := k.on })).lswApply now k.dt n := by
  unfold Dev.lswExec
  rw [h]
  rfl

theorem LSW.role_plain {n : Nat} (hn : n < 16) : (LSW.ROLE n).ofEvents = false ∧ (LSW.SHED_ON_DIM n).ofEvents = false ∧ (LSW.DUAL_FED n).ofEvents = false := by
  decide +revert

/-- EVT_LSW_SHED leaves what decides the state of a switch. -/
theorem Dev.shedEvent_spec (d : Dev) (now : Nat) {n : Nat} (hn : n < 16) : (∀ k, (d.shedEvent now).lswCh k = d.lswCh k) ∧
    (d.shedEvent now).lswSheds n = d.lswSheds n ∧ (d.shedEvent now).lswStandby n = d.lswStandby n ∧ (d.shedEvent now).lswIdle n = d.lswIdle n := by
  have hfire : ∀ x : Dev, x.regs = d.regs → x.pair = d.pair → x.pwr.st = d.pwr.st → x.pwr.mode = d.pwr.mode → x.lsw = d.lsw →
      (∀ k, (x.fire now EVT.LSW_SHED 0 0).lswCh k = d.lswCh k) ∧ (x.fire now EVT.LSW_SHED 0 0).lswSheds n = d.lswSheds n ∧
        (x.fire now EVT.LSW_SHED 0 0).lswStandby n = d.lswStandby n ∧ (x.fire now EVT.LSW_SHED 0 0).lswIdle n = d.lswIdle n := by
    intro x hregs hpair hst hmode hlsw
    obtain ⟨hrole, hdim, hdual⟩ := LSW.role_plain hn
    have hrd : ∀ f : Field, f.lo < 32 → f.ofEvents = false → (x.fire now EVT.LSW_SHED 0 0).rd f = d.rd f := fun f hlo hev =>
      (Dev.rd_fire_of _ _ _ _ _ hlo hev).trans (by simp [Dev.rd, hregs])
    have hpts : (x.fire now EVT.LSW_SHED 0 0).ptOfCh 2 n = d.ptOfCh 2 n := by
      refine (x.ptOfCh_fire now EVT.LSW_SHED 0 0 2 n).trans ?_
      unfold Dev.ptOfCh Dev.validPts Dev.rd
      rw [hregs]
    have h1 : (x.fire now EVT.LSW_SHED 0 0).on (LSW.ROLE n) = d.on (LSW.ROLE n) := Dev.on_congr (hrd _ (show 0 < 32 by omega) hrole)
    have h2 : (x.fire now EVT.LSW_SHED 0 0).on (LSW.SHED_ON_DIM n) = d.on (LSW.SHED_ON_DIM n) := Dev.on_congr (hrd _ (by clear * - hn; decide +revert) hdim)
    have h3 : (x.fire now EVT.LSW_SHED 0 0).on (LSW.DUAL_FED n) = d.on (LSW.DUAL_FED n) := Dev.on_congr (hrd _ (by clear * - hn; decide +revert) hdual)
    refine ⟨fun k => ?_, ?_, ?_, ?_⟩
    · unfold Dev.lswCh
      rw [Dev.fire_lsw, hlsw]
    · unfold Dev.lswSheds Dev.lswAux
      rw [h1, h2, Dev.fire_pwr, hst, hmode]
    · unfold Dev.lswStandby Dev.vnpMaster
      rw [h3, Dev.fire_pair, hpair]
    · unfold Dev.lswIdle Dev.vnpMaster
      rw [h1, hpts, Dev.fire_pair, hpair]
  unfold Dev.shedEvent
  split
  · exact ⟨fun _ => rfl, rfl, rfl, rfl⟩
  · exact hfire _ rfl rfl rfl rfl rfl

/-- What the opening of a window sets of a switch, whatever it then switches (R333, R348). -/
theorem Dev.lswExec_given (d : Dev) (now : Nat) {n : Nat} (hn : n < 16) (k : LswCmd) {x : LswCh} (hx : (d.lswExec now n k).lswCh n = x) :
    x.com = k.on ∧ x.cmds = (d.lswCh n).cmds ∧
      (k.opens = true → x.force = k.force ∧ x.holdEnd = none ∧ x.shed = d.lswSheds n ∧ x.dualOff = d.lswStandby n ∧ x.idle = d.lswIdle n) := by
  cases hopens : k.opens with
  | false =>
    rw [d.lswExec_of_command now n hopens] at hx
    have hch : (d.modLsw n (fun c => { c with com := k.on })).lswCh n = { d.lswCh n with com := k.on } := Dev.lswCh_modLsw_self d n _
    have hgiven := (switched_lswApply (d.modLsw n (fun c => { c with com := k.on })) now k.dt hn).given n
    rw [hx, hch] at hgiven
    exact ⟨(congrArg LswCh.com hgiven :), (congrArg LswCh.cmds hgiven :), fun h => by cases h⟩
  | true =>
    obtain ⟨y, hy, hych, hsheds, hstandby, hidle⟩ : ∃ y : Dev, d.lswExec now n k = (y.modLsw n (y.lswOpened n k)).lswApply now k.dt n ∧
        y.lswCh n = d.lswCh n ∧ y.lswSheds n = d.lswSheds n ∧ y.lswStandby n = d.lswStandby n ∧ y.lswIdle n = d.lswIdle n := by
      obtain ⟨hev, hsheds, hstandby, hidle⟩ := d.shedEvent_spec now hn
      refine ⟨if k.opens && d.lswSheds n then d.shedEvent now else d, ?_, ?_⟩
      · unfold Dev.lswExec
        extract_lets y z
        exact congrArg (fun w : Dev => w.lswApply now k.dt n) (Dev.modLsw_congr (if_pos hopens))
      · split
        · exact ⟨hev n, hsheds, hstandby, hidle⟩
        · exact ⟨rfl, rfl, rfl, rfl⟩
    have hch : (y.modLsw n (y.lswOpened n k)).lswCh n = y.lswOpened n k (d.lswCh n) := (Dev.lswCh_modLsw_self y n _).trans (by rw [hych])
    have hgiven := (switched_lswApply (y.modLsw n (y.lswOpened n k)) now k.dt hn).given n
    rw [← hy, hx, hch] at hgiven
    exact ⟨(congrArg LswCh.com hgiven :), (congrArg LswCh.cmds hgiven :), fun _ => ⟨(congrArg LswCh.force hgiven :), (congrArg LswCh.holdEnd hgiven :),
      (congrArg LswCh.shed hgiven :).trans hsheds, (congrArg LswCh.dualOff hgiven :).trans hstandby, (congrArg LswCh.idle hgiven :).trans hidle⟩⟩

theorem lswSwitchOn_effect (s : State) (el : Nat) (c : Fin 16) :
    Answers (.lswSwitchOn el c) s (fun now d e => d.driving = true → ∀ k, (d.lswCh c.val).cmds = [k] →
      (now < k.dt → e = d.modLsw c.val (fun x => { x with cmds := [k] })) ∧
      (k.dt ≤ now → (e.lswCh c.val).com = k.on ∧ (e.lswCh c.val).cmds = []) ∧
      (k.dt ≤ now → k.opens = true → (e.lswCh c.val).force = k.force ∧ (e.lswCh c.val).holdEnd = none ∧ (e.lswCh c.val).shed = d.lswSheds c.val ∧
        (e.lswCh c.val).dualOff = d.lswStandby c.val ∧ (e.lswCh c.val).idle = d.lswIdle c.val) ∧
      (k.dt ≤ now → k.opens = false → k.on = true → ((d.modLsw c.val (fun x => { x with com := true })).lswWant c.val).1 = true →
        (∀ m ∈ bankSwitches (lswBank c.val), (d.lswCh m).drv = false ∧ (d.lswCh m).waitFrom = none) →
        (e.lswCh c.val).drv = true ∧ (e.lswCh c.val).onAt = now ∧ (e.lswCh c.val).inr = true ∧ (e.lswCh c.val).cut = none ∧
        (e.lswCh c.val).waitFrom = none ∧ e.rd (LSW.SW_ON_CNT c.val) = counted d (LSW.SW_ON_CNT c.val))) := by
  refine answers_of_forall (f := fun now d => if d.driving then d.lswRun now c.val else d) rfl (fun now d hdrive k hk => ?_)
  rw [if_pos hdrive]
  refine ⟨fun hlater => Dev.lswRun_of_later hk hlater, fun hdue => ?_, fun hdue hopens => ?_, fun hdue hopens hon hwant hbank => ?_⟩
  all_goals
    rw [Dev.lswRun_of_due hk hdue]
    have hself : (d.modLsw c.val (fun x => { x with cmds := [] })).lswCh c.val = { d.lswCh c.val with cmds := [] } := Dev.lswCh_modLsw_self d c.val _
  · obtain ⟨hcom, hcmds, -⟩ := Dev.lswExec_given (d.modLsw c.val (fun x => { x with cmds := [] })) now c.isLt k rfl
    exact ⟨hcom, hcmds.trans (congrArg LswCh.cmds hself)⟩
  · obtain ⟨-, -, hset⟩ := Dev.lswExec_given (d.modLsw c.val (fun x => { x with cmds := [] })) now c.isLt k rfl
    exact hset hopens
  · rw [Dev.lswExec_of_command _ now _ hopens, hon]
    have hch : ((d.modLsw c.val (fun x => { x with cmds := [] })).modLsw c.val (fun x => { x with com := true })).lswCh c.val =
        { d.lswCh c.val with cmds := [], com := true } := (Dev.lswCh_modLsw_self _ c.val _).trans (by rw [hself])
    have hne : ∀ m, m ≠ c.val → ((d.modLsw c.val (fun x => { x with cmds := [] })).modLsw c.val (fun x => { x with com := true })).lswCh m = d.lswCh m :=
      fun m hm => (Dev.lswCh_modLsw_ne _ _ (Ne.symm hm)).trans (Dev.lswCh_modLsw_ne d _ (Ne.symm hm))
    have hwanted : ((d.modLsw c.val (fun x => { x with cmds := [] })).modLsw c.val (fun x => { x with com := true })).lswWant c.val =
        (d.modLsw c.val (fun x => { x with com := true })).lswWant c.val := Dev.lswWant_congr rfl rfl (by
      rw [hch, Dev.lswCh_modLsw_self]
      rfl)
    have hcnt : ((d.modLsw c.val (fun x => { x with cmds := [] })).modLsw c.val (fun x => { x with com := true })).rd (LSW.SW_ON_CNT c.val) =
        d.rd (LSW.SW_ON_CNT c.val) := rfl
    generalize (d.modLsw c.val (fun x => { x with cmds := [] })).modLsw c.val (fun x => { x with com := true }) = y at hch hne hwanted hcnt
    obtain ⟨h1, h2, h3, h4, h5, h6⟩ := Dev.lswApply_of_free (d := y) now k.dt c.isLt (by rw [hwanted]; exact hwant) (by rw [hch]; rfl) (fun m hm => by
      by_cases hmn : m = c.val
      · rw [hmn, hch]
        exact hbank c.val (mem_bankSwitches c.isLt)
      · rw [hne m hmn]
        exact hbank m hm)
    exact ⟨h1, h2, h3, h4, h5, h6.trans (congrArg (fun v => min (2 ^ 16 - 1) (v + 1)) hcnt)⟩

theorem lswSwitchOff_effect (s : State) (el : Nat) (c : Fin 16) :
    Answers (.lswSwitchOff el c) s (fun now d e => d.driving = true → ∀ k, (d.lswCh c.val).cmds = [k] → k.dt ≤ now → k.on = false →
      k.opens = false → ((d.modLsw c.val (fun x => { x with com := false })).lswWant c.val).1 = false → (d.lswCh c.val).drv = true →
      (e.lswCh c.val).com = false ∧ (e.lswCh c.val).drv = false ∧ (e.lswCh c.val).inr = false ∧ (e.lswCh c.val).waitFrom = none ∧
      e.rd (LSW.I_MEAS c.val) = 0) := by
  refine answers_of_forall (f := fun now d => if d.driving then d.lswRun now c.val else d) rfl
    (fun now d hdrive k hk hdue hon hopens hwant hdrv => ?_)
  rw [if_pos hdrive, Dev.lswRun_of_due hk hdue]
  obtain ⟨hcom, -, -⟩ := Dev.lswExec_given (d.modLsw c.val (fun x => { x with cmds := [] })) now c.isLt k rfl
  rw [Dev.lswExec_of_command _ now _ hopens, hon] at hcom ⊢
  have hch : ((d.modLsw c.val (fun x => { x with cmds := [] })).modLsw c.val (fun x => { x with com := false })).lswCh c.val =
      { d.lswCh c.val with cmds := [], com := false } :=
    (Dev.lswCh_modLsw_self _ c.val _).trans (congrArg (fun x : LswCh => { x with com := false }) (Dev.lswCh_modLsw_self d c.val _))
  have hwanted : ((d.modLsw c.val (fun x => { x with cmds := [] })).modLsw c.val (fun x => { x with com := false })).lswWant c.val =
      (d.modLsw c.val (fun x => { x with com := false })).lswWant c.val := Dev.lswWant_congr rfl rfl (by
    rw [hch, Dev.lswCh_modLsw_self]
    rfl)
  obtain ⟨hoff, hnone, hcur⟩ := Dev.lswApply_of_unwanted now k.dt c.isLt (by rw [hwanted]; exact hwant)
  obtain ⟨hinr, hmeas⟩ := hcur (by rw [hch]; exact hdrv)
  exact ⟨hcom, hoff, hinr, hnone, hmeas⟩

theorem lswAdmitTimeout_effect (s : State) (el : Nat) (c : Fin 16) :
    Answers (.lswAdmitTimeout el c) s (fun now d e => d.driving = true → ∀ t, (d.lswCh c.val).waitFrom = some t →
      (d.lswWant c.val).1 = true → (d.lswCh c.val).offDue now = false →
      (∀ m ∈ bankSwitches (lswBank c.val), m ≠ c.val → (d.lswCh m).waitFrom = none) → 40000 < d.bankLoad now c.val + d.lswInrushLim c.val 0 →
      (now < t + ms 10 → e = d) ∧
      (t + ms 10 ≤ now → d.bankLoad now c.val + d.lswSteady c.val ≤ 40000 →
        (e.lswCh c.val).drv = true ∧ (e.lswCh c.val).onAt = now ∧ (e.lswCh c.val).cut = some (40000 - d.bankLoad now c.val) ∧
        (e.lswCh c.val).waitFrom = none)) := by
  refine answers_of_forall (f := fun now d => if d.driving then d.lswAdmit now (lswBank c.val) else d) rfl
    (fun now d hdrive t hwait hwant hoff hothers hfull => ?_)
  rw [if_pos hdrive, Dev.lswAdmit_of_single c.isLt hwait hwant hoff hothers, if_neg (by omega)]
  refine ⟨fun hearly => if_neg (by simp [Nat.not_le.mpr hearly]), fun hdue hroom => ?_⟩
  rw [if_pos (by simp [hdue, hroom])]
  obtain ⟨-, hview, -⟩ := d.lswStart_spec now c.isLt (some (40000 - d.bankLoad now c.val))
  have hch := congrArg Prod.fst hview
  exact ⟨congrArg LswCh.drv hch, congrArg LswCh.onAt hch, congrArg LswCh.cut hch, congrArg LswCh.waitFrom hch⟩

/-- The end of a switch's inrush. -/
theorem Dev.inrushOver_spec (d : Dev) (now : Nat) {n : Nat} (hn : n < 16) :
    (d.inrushOver now n).lswCh n = { d.lswCh n with inr := false, cut := none, inrEnd := now } ∧
      (∀ k, k ≠ n → (d.inrushOver now n).lswCh k = d.lswCh k) ∧ Switched [] d (d.inrushOver now n) := by
  have hself : (d.modLsw n (fun c => { c with inr := false, cut := none, inrEnd := now })).lswCh n =
      { d.lswCh n with inr := false, cut := none, inrEnd := now } := Dev.lswCh_modLsw_self d n _
  have hne : ∀ k, k ≠ n → (d.modLsw n (fun c => { c with inr := false, cut := none, inrEnd := now })).lswCh k = d.lswCh k :=
    fun k hk => Dev.lswCh_modLsw_ne d _ (Ne.symm hk)
  have hsw : Switched [] d (d.modLsw n (fun c => { c with inr := false, cut := none, inrEnd := now })) :=
    Switched.modLsw [] d n _ (by intro; rfl) (by exact fun _ h => ⟨h, rfl⟩)
  unfold Dev.inrushOver
  generalize d.modLsw n (fun c => { c with inr := false, cut := none, inrEnd := now }) = y at hself hne hsw
  have hview := fun k => congrArg Prod.fst (y.lswView_lswShow now n k)
  exact ⟨(hview n).trans hself, fun k hk => (hview k).trans (hne k hk), hsw.trans (switched_lswShow [] y now hn)⟩

theorem inrushEnd_effect (s : State) (el : Nat) (c : Fin 16) :
    Answers (.inrushEnd el c) s (fun now d e => d.driving = true → (d.lswCh c.val).inr = true → (d.lswCh c.val).waitFrom = none →
      (now < (d.lswCh c.val).onAt + d.lswInrush c.val → e = d) ∧
      ((d.lswCh c.val).onAt + d.lswInrush c.val ≤ now → (e.lswCh c.val).inr = false ∧ (e.lswCh c.val).cut = none ∧ (e.lswCh c.val).inrEnd = now ∧
        (e.lswCh c.val).drv = (d.lswCh c.val).drv)) := by
  refine answers_of_forall (f := fun now d => if d.driving && (d.lswCh c.val).inr && decide ((d.lswCh c.val).onAt + d.lswInrush c.val ≤ now) then
    (d.inrushOver now c.val).lswAdmit now (lswBank c.val) else d) rfl (fun now d hdrive hinr hwait => ⟨fun hearly => if_neg ?_, fun hdue => ?_⟩)
  · simp [Nat.not_le.mpr hearly]
  · rw [if_pos (by simp [hdrive, hinr, hdue])]
    obtain ⟨hself, -, -⟩ := d.inrushOver_spec now c.isLt
    have hview := (Dev.lswAdmitN_spec 4 (d.inrushOver now c.val) now (lswBank_lt c.val)).2 c.val c.isLt (by rw [hself]; exact hwait)
    have hch := (congrArg Prod.fst hview).trans hself
    exact ⟨(congrArg LswCh.inr hch :), (congrArg LswCh.cut hch :), (congrArg LswCh.inrEnd hch :), (congrArg LswCh.drv hch :)⟩

theorem reverseBlock_effect (s : State) (el : Nat) (c : Fin 16) (mv : BitVec 16) :
    Answers (.reverseBlock el c mv) s (fun _ d e => d.driving = true → (d.lswCh c.val).drv = true →
      let above := decide (200 < mv.toInt)
      ((d.lswCh c.val).rev = above → e = d) ∧
      ((d.lswCh c.val).rev ≠ above → (e.lswCh c.val).rev = above ∧
        e.rd LSB.REVERSE_CNT = (if above then counted d LSB.REVERSE_CNT else d.rd LSB.REVERSE_CNT) ∧
        OnlyRegs [LSB.REVERSE_CNT] { d with lsw := e.lsw } e)) := by
  refine answers_of_forall (f := fun _ d =>
    let above := decide (200 < mv.toInt)
    if d.driving && (d.lswCh c.val).drv && (d.lswCh c.val).rev != above then
      (let d := d.modLsw c.val (fun c => { c with rev := above })
       if above then d.bump LSB.REVERSE_CNT else d)
    else d) rfl (fun _ d hdrive hdrv => ?_)
  dsimp only
  generalize decide (200 < mv.toInt) = above
  refine ⟨fun hsame => if_neg (by simp [hsame]), fun hne => ?_⟩
  rw [if_pos (by simp [hdrive, hdrv, hne])]
  have hself : (d.modLsw c.val (fun x => { x with rev := above })).lswCh c.val = { d.lswCh c.val with rev := above } := Dev.lswCh_modLsw_self d c.val _
  have hrest : OnlyRegs [LSB.REVERSE_CNT] { d with lsw := (d.modLsw c.val (fun x => { x with rev := above })).lsw }
      (d.modLsw c.val (fun x => { x with rev := above })) := ⟨rfl, fun _ _ => rfl⟩
  have hcnt : (d.modLsw c.val (fun x => { x with rev := above })).rd LSB.REVERSE_CNT = d.rd LSB.REVERSE_CNT := rfl
  generalize d.modLsw c.val (fun x => { x with rev := above }) = y at hself hrest hcnt
  cases above with
  | true =>
    refine ⟨congrArg LswCh.rev hself, (y.rd_bump_self LSB.REVERSE_CNT).trans ?_, hrest.thenBump (by simp)⟩
    exact congrArg (fun v => min (2 ^ 16 - 1) (v + 1)) hcnt
  | false => exact ⟨congrArg LswCh.rev hself, hcnt, hrest⟩

/-! ### The end of a hold window -/

theorem Dev.idcCh_chPaint (d : Dev) (c t : Nat) (on_ : Bool) (k : Nat) : (d.chPaint c t on_).idcCh k = d.idcCh k := by
  unfold Dev.chPaint
  split
  · next n _ =>
    have h : CovPair d (d.covWindow n on_ none on_ t) := covPair_covWindow _ _ _ _ _ _
    unfold CovPair at h
    rw [h]
    rfl
  · rfl

theorem Dev.idcCh_chOff (d : Dev) (c t : Nat) : ((d.chOff c t).idcCh c).comOn = false ∧ ((d.chOff c t).idcCh c).grid = (d.idcCh c).grid := by
  unfold Dev.chOff
  rw [Dev.idcCh_modIdc_self]
  exact ⟨rfl, rfl⟩

theorem Dev.idcCh_chOn (d : Dev) (c t b : Nat) : ((d.chOn c t b).idcCh c).comOn = true ∧ ((d.chOn c t b).idcCh c).grid = (d.idcCh c).grid := by
  unfold Dev.chOn
  rw [Dev.idcCh_modIdc_self]
  cases (d.idcCh c).grid with
  | none => exact ⟨rfl, rfl⟩
  | some g =>
    dsimp only
    split
    · exact ⟨rfl, rfl⟩
    · split
      · exact ⟨rfl, rfl⟩
      · exact ⟨rfl, rfl⟩

/-- Channel `c` takes the snuff state `st` (R353). -/
def Dev.snuffTakes (d : Dev) (now c b st : Nat) : Dev :=
  match st with
  | 0 => ((d.modIdc c (fun x => { x with cmds := [] })).chOff c now).chPaint c now false
  | 1 => ((d.modIdc c (fun x => { x with grid := none, cmds := [] })).chOn c now b).chPaint c now true
  | 2 => d
  | _ => let g := d.snuffGrid now c
         (((d.modIdc c (fun x => { x with grid := some g, cmds := [], gridFrom := now })).chOff c now).chOn c now b).chPaint c now true

theorem Dev.idcSnuff_eq (d : Dev) (now c b : Nat) : d.idcSnuff now c b =
    ((((d.modIdc c (fun x => { x with snuff := some (d.rd (WDG.SNUFF_STATE c)), holdEnd := none })).snuffTakes now c b
      (d.rd (WDG.SNUFF_STATE c))).idcRun now c).idcShow (c / 4)) := rfl

theorem Dev.snuffTakes_shows (d : Dev) (now c b : Nat) :
    ((d.snuffTakes now c b 0).idcCh c).comOn = false ∧
      (((d.snuffTakes now c b 1).idcCh c).comOn = true ∧ ((d.snuffTakes now c b 1).idcCh c).grid = none) ∧
      d.snuffTakes now c b 2 = d ∧
      (((d.snuffTakes now c b 3).idcCh c).comOn = true ∧ ((d.snuffTakes now c b 3).idcCh c).grid = some (d.snuffGrid now c)) := by
  have h0 : d.snuffTakes now c b 0 = ((d.modIdc c (fun x => { x with cmds := [] })).chOff c now).chPaint c now false := rfl
  have h1 : d.snuffTakes now c b 1 = ((d.modIdc c (fun x => { x with grid := none, cmds := [] })).chOn c now b).chPaint c now true := rfl
  have h3 : d.snuffTakes now c b 3 = (((d.modIdc c (fun x => { x with grid := some (d.snuffGrid now c), cmds := [], gridFrom := now })).chOff c
    now).chOn c now b).chPaint c now true := rfl
  rw [h0, h1, h3, Dev.idcCh_chPaint, Dev.idcCh_chPaint, Dev.idcCh_chPaint]
  obtain ⟨hoff, -⟩ := (d.modIdc c (fun x => { x with cmds := [] })).idcCh_chOff c now
  obtain ⟨hon, hgrid⟩ := (d.modIdc c (fun x => { x with grid := none, cmds := [] })).idcCh_chOn c now b
  obtain ⟨-, hgridOff⟩ := (d.modIdc c (fun x => { x with grid := some (d.snuffGrid now c), cmds := [], gridFrom := now })).idcCh_chOff c now
  obtain ⟨hon3, hgrid3⟩ := ((d.modIdc c (fun x => { x with grid := some (d.snuffGrid now c), cmds := [], gridFrom := now })).chOff c now).idcCh_chOn c now b
  refine ⟨hoff, ⟨hon, hgrid.trans ?_⟩, rfl, hon3, hgrid3.trans (hgridOff.trans ?_)⟩
  · rw [Dev.idcCh_modIdc_self]
  · rw [Dev.idcCh_modIdc_self]

/-- Channel `c` of the actuators as its stored snuff state leaves it (R353). -/
theorem idcSnuff_shows (d : Dev) (now : Nat) (c : Fin 32) (b : Nat) {x : IdcCh} (hx : (d.idcSnuff now c b).idcCh c = x) :
    x.snuff = some (d.rd (WDG.SNUFF_STATE c)) ∧ x.holdEnd = none ∧
      (d.rd (WDG.SNUFF_STATE c) = 0 → x.comOn = false) ∧
      (d.rd (WDG.SNUFF_STATE c) = 1 → x.comOn = true ∧ x.grid = none) ∧
      (d.rd (WDG.SNUFF_STATE c) = 2 → x.comOn = (d.idcCh c).comOn ∧ x.grid = (d.idcCh c).grid) ∧
      (d.rd (WDG.SNUFF_STATE c) = 3 → x.comOn = true ∧ ∃ g, x.grid = some g ∧ g.epoch = now ∧ g.duty = min 1000 (d.rd (WDG.SNUFF_DUTY c))) := by
  obtain ⟨-, hmode, -⟩ := idcSnuff_spec d now c.isLt b
  rw [hx] at hmode
  rw [Dev.idcSnuff_eq] at hx
  have hself : (d.modIdc c (fun x => { x with snuff := some (d.rd (WDG.SNUFF_STATE c)), holdEnd := none })).idcCh c =
      { d.idcCh c with snuff := some (d.rd (WDG.SNUFF_STATE c)), holdEnd := none } := Dev.idcCh_modIdc_self d c _
  have hgridSame : (d.modIdc c (fun x => { x with snuff := some (d.rd (WDG.SNUFF_STATE c)), holdEnd := none })).snuffGrid now c = d.snuffGrid now c := rfl
  generalize d.modIdc c (fun x => { x with snuff := some (d.rd (WDG.SNUFF_STATE c)), holdEnd := none }) = y at hx hself hgridSame
  obtain ⟨h0, ⟨hon1, hgrid1⟩, h2, hon3, hgrid3⟩ := y.snuffTakes_shows now c b
  generalize d.rd (WDG.SNUFF_STATE c) = st at hx hmode
  have hkept := (faultsKept_idcRunN (((y.snuffTakes now c b st).idcCh c).cmds.length + 1) (y.snuffTakes now c b st) now c.isLt)
  have hshow := (shows_idcShow ((y.snuffTakes now c b st).idcRun now c) (g := c.val / 4) (by omega)).kept
  have hplan : x.plan = ((y.snuffTakes now c b st).idcCh c).plan := by
    rw [← hx]
    exact (hshow.plan c).trans (hkept.plan c)
  have hcom : x.comOn = ((y.snuffTakes now c b st).idcCh c).comOn := (congrArg (fun p => p.2.1) hplan :)
  have hgrid : x.grid = ((y.snuffTakes now c b st).idcCh c).grid := (congrArg (fun p => p.2.2) hplan :)
  refine ⟨congrArg Prod.fst hmode, congrArg Prod.snd hmode, fun h => ?_, fun h => ?_, fun h => ?_, fun h => ?_⟩
  · rw [hcom, h]
    exact h0
  · rw [hcom, hgrid, h]
    exact ⟨hon1, hgrid1⟩
  · rw [hcom, hgrid, h, h2, hself]
    exact ⟨rfl, rfl⟩
  · rw [hcom, hgrid, h]
    exact ⟨hon3, _, hgrid3, by rw [hgridSame]; rfl, by rw [hgridSame]; rfl⟩

/-- Switch `n` as its stored snuff state leaves it. -/
theorem lswSnuff_shows (d : Dev) (now : Nat) {n : Nat} (hn : n < 16) {x : LswCh} (hx : (d.lswSnuff now n).lswCh n = x) :
    x.holdEnd = none ∧ x.snuff = some (d.rd (WDG.SNUFF_STATE (32 + n))) ∧ (d.rd (WDG.SNUFF_STATE (32 + n)) = 0 → x.drv = false) := by
  unfold Dev.lswSnuff at hx
  have hself : ((d.lswSnuffSet n).lswCh n).holdEnd = none ∧ ((d.lswSnuffSet n).lswCh n).snuff = some (d.rd (WDG.SNUFF_STATE (32 + n))) := by
    unfold Dev.lswSnuffSet
    rw [Dev.lswCh_modLsw_self]
    exact ⟨rfl, rfl⟩
  generalize d.lswSnuffSet n = y at hx hself
  obtain ⟨hhold, hsnuff⟩ := hself
  have hgiven := (switched_lswApply y now now hn).given n
  rw [hx] at hgiven
  refine ⟨(congrArg LswCh.holdEnd hgiven :).trans hhold, (congrArg LswCh.snuff hgiven :).trans hsnuff, fun h0 => ?_⟩
  have hwant : (y.lswWant n).1 = false := by
    unfold Dev.lswWant
    dsimp only
    rw [hsnuff, h0]
    split <;> rfl
  obtain ⟨hoff, -, -⟩ := Dev.lswApply_of_unwanted now now hn hwant
  rw [hx] at hoff
  exact hoff

theorem holdWindowEnd_effect (s : State) (el : Nat) (o : Fin 48) :
    Answers (.holdWindowEnd el o) s (fun now d e =>
      (∀ x, o.val < 32 → (d.idcCh o.val).holdEnd = some x →
        (x ≤ now → d.pwr.stage ≠ .none → (e.idcCh o.val).snuff = some (d.rd (WDG.SNUFF_STATE o.val)) ∧ (e.idcCh o.val).holdEnd = none ∧
          (d.rd (WDG.SNUFF_STATE o.val) = 0 → (e.idcCh o.val).comOn = false) ∧
          (d.rd (WDG.SNUFF_STATE o.val) = 1 → (e.idcCh o.val).comOn = true ∧ (e.idcCh o.val).grid = none) ∧
          (d.rd (WDG.SNUFF_STATE o.val) = 2 → (e.idcCh o.val).comOn = (d.idcCh o.val).comOn ∧ (e.idcCh o.val).grid = (d.idcCh o.val).grid) ∧
          (d.rd (WDG.SNUFF_STATE o.val) = 3 → (e.idcCh o.val).comOn = true ∧ ∃ g, (e.idcCh o.val).grid = some g ∧ g.epoch = now ∧
            g.duty = min 1000 (d.rd (WDG.SNUFF_DUTY o.val)))) ∧
        (now < x ∨ d.pwr.stage = .none → e = d)) ∧
      (∀ x, 32 ≤ o.val → (d.lswCh (o.val - 32)).holdEnd = some x →
        (x ≤ now → d.pwr.stage ≠ .none → (e.lswCh (o.val - 32)).holdEnd = none ∧
          (e.lswCh (o.val - 32)).snuff = some (d.rd (WDG.SNUFF_STATE o.val)) ∧
          (d.rd (WDG.SNUFF_STATE o.val) = 0 → (e.lswCh (o.val - 32)).drv = false)) ∧
        (now < x ∨ d.pwr.stage = .none → e = d))) := by
  refine answers_of_forall (f := fun now d => if o.val < 32 then d.idcHoldEnd now o.val else d.lswHoldEnd now (o.val - 32)) rfl (fun now d =>
    ⟨fun x ho hx => ?_, fun x ho hx => ?_⟩)
  · have heq : d.idcHoldEnd now o.val = if x ≤ now && d.pwr.stage != .none then d.idcSnuff now o.val (now + ms 100) else d := by
      unfold Dev.idcHoldEnd
      rw [hx]
    rw [if_pos ho, heq]
    refine ⟨fun hdue hstage => ?_, fun hnot => if_neg ?_⟩
    · rw [if_pos (by simp [hdue, hstage])]
      exact idcSnuff_shows d now ⟨o.val, ho⟩ (now + ms 100) rfl
    · rcases hnot with h | h
      · simp [Nat.not_le.mpr h]
      · simp [h]
  · have heq : d.lswHoldEnd now (o.val - 32) = if x ≤ now && d.pwr.stage != .none then d.lswSnuff now (o.val - 32) else d := by
      unfold Dev.lswHoldEnd
      rw [hx]
    have ho32 : 32 + (o.val - 32) = o.val := by omega
    rw [if_neg (by omega), heq]
    refine ⟨fun hdue hstage => ?_, fun hnot => if_neg ?_⟩
    · rw [if_pos (by simp [hdue, hstage])]
      have h := lswSnuff_shows d now (n := o.val - 32) (by omega) rfl
      rw [ho32] at h
      exact h
    · rcases hnot with h | h
      · simp [Nat.not_le.mpr h]
      · simp [h]

/-- Settles O35. -/
theorem loadSwitchesSwitch : Obligations.LoadSwitchesSwitch := by
  unfold Obligations.LoadSwitchesSwitch
  exact fun s el c => ⟨lswSwitchOn_effect s el c, lswSwitchOff_effect s el c, lswAdmitTimeout_effect s el c, inrushEnd_effect s el c,
    reverseBlock_effect s el c, holdWindowEnd_effect s el⟩

end Sys2Proof.Machine
end

section
/-! PROOFS. Protection of the load switches: bank overload, thermal protection, retry, latch and diagnostics (R334, R341 to R347). -/
namespace Sys2Proof.Machine

/-! ### Faults and latches of a switch -/

theorem LSW.fault_plain {n : Nat} (hn : n < 16) : ((LSW.FAULT n).lo < 32 ∧ (LSW.FAULT n).ofEvents = false ∧ (LSW.FAULT n).ofSwitching = false) ∧
    ((LSW.THERM_LATCH n).lo < 32 ∧ (LSW.THERM_LATCH n).ofEvents = false ∧ (LSW.THERM_LATCH n).ofSwitching = false) ∧
    ((LSW.THERM_CNT n).lo < 32 ∧ (LSW.THERM_CNT n).ofEvents = false ∧ (LSW.THERM_CNT n).ofSwitching = false) := by decide +revert

theorem LSW.fault_keys (n : Nat) : (LSW.FAULT n).key ≠ (LSW.THERM_LATCH n).key ∧ (LSW.THERM_CNT n).key ≠ (LSW.FAULT n).key ∧
    (LSW.THERM_CNT n).key ≠ (LSW.THERM_LATCH n).key ∧ (LSW.I_MEAS n).key ≠ (LSW.FAULT n).key ∧ (LSW.I_MEAS n).key ≠ (LSW.THERM_LATCH n).key ∧
    (LSW.I_MEAS n).key ≠ (LSW.THERM_CNT n).key := by
  simp only [Field.key, LSW.FAULT, LSW.THERM_LATCH, LSW.THERM_CNT, LSW.I_MEAS]
  omega

theorem EVT.lswFault_bit {n : Nat} (hn : n < 16) : (evtPage EVT.LSW_FAULT n).2 < 32 := by decide +revert

theorem OnlyRegsAndEvents.thenLswFire {fs : List Field} {d e : Dev} (h : OnlyRegsAndEvents fs d e) (now ev n v : Nat) :
    OnlyRegsAndEvents fs d (e.lswFire now ev n v) := by
  unfold Dev.lswFire
  split
  · exact h.thenFire _ _ _ _
  · exact h

theorem Dev.rd_lswFire (d : Dev) (now ev n v : Nat) {f : Field} (hlo : f.lo < 32) (hev : f.ofEvents = false) :
    (d.lswFire now ev n v).rd f = d.rd f := (OnlyRegsAndEvents.refl [] d).thenLswFire now ev n v |>.rd_of_disjoint hlo hev (by simp)

/-- A fault of a switch shows, and a change of it raises its event while the logic die runs (R343). -/
theorem Dev.lswFault_spec (d : Dev) (now : Nat) {n code : Nat} (hn : n < 16) (hcode : code < 16) :
    (d.lswFault now n code).rd (LSW.FAULT n) = code ∧ OnlyRegsAndEvents [LSW.FAULT n] d (d.lswFault now n code) ∧
      (d.pwr.stage = .none → d.rd (LSW.FAULT n) ≠ code → (d.lswFault now n code).raised EVT.LSW_FAULT n = true) := by
  obtain ⟨⟨hlo, hev, -⟩, -, -⟩ := LSW.fault_plain hn
  unfold Dev.lswFault
  split
  · next hsame => exact ⟨hsame, OnlyRegsAndEvents.refl _ d, fun _ h => absurd hsame h⟩
  · have hself : (d.wr (LSW.FAULT n) code).rd (LSW.FAULT n) = code := (Dev.rd_wr_self _ _ _).trans (Nat.mod_eq_of_lt hcode)
    refine ⟨(Dev.rd_lswFire _ _ _ _ _ hlo hev).trans hself, (OnlyRegs.wr d _ _ (by simp)).toOnlyRegsAndEvents.thenLswFire _ _ _ _, fun hstage _ => ?_⟩
    have hfire : (d.wr (LSW.FAULT n) code).lswFire now EVT.LSW_FAULT n code = (d.wr (LSW.FAULT n) code).fire now EVT.LSW_FAULT n code := if_pos hstage
    rw [hfire]
    exact Dev.raised_fire _ _ _ _ _ (by omega) (EVT.lswFault_bit hn)

theorem Dev.lswSetLatch_spec (d : Dev) (now : Nat) {n : Nat} (hn : n < 16) :
    (d.lswSetLatch now n).rd (LSW.THERM_LATCH n) = 1 ∧ OnlyRegsAndEvents [LSW.THERM_LATCH n] d (d.lswSetLatch now n) := by
  obtain ⟨-, ⟨hlo, hev, -⟩, -⟩ := LSW.fault_plain hn
  exact ⟨(Dev.rd_lswFire _ _ _ _ _ hlo hev).trans (Dev.rd_wr_self _ _ _), (OnlyRegs.wr d _ _ (by simp)).toOnlyRegsAndEvents.thenLswFire _ _ _ _⟩

theorem OnlyRegsAndEvents.lswCh {fs : List Field} {d e : Dev} (h : OnlyRegsAndEvents fs d e) (k : Nat) : e.lswCh k = d.lswCh k := by
  rw [h.1]
  rfl

/-! ### A thermal trip -/

/-- The switch `n` that trips, before it takes its state: it is counted, its fault shows, and it latches where it has to (R343, R344). -/
def Dev.tripped (d : Dev) (now n code : Nat) (hot : Bool) : Dev :=
  let d := (d.bump (LSW.THERM_CNT n)).lswFault now n code
  let d := d.modLsw n (fun c => { c with hot := c.hot || hot || decide (160 < toS 10 (d.rd (LSW.CH_TEMP n))) })
  if d.on (LSW.THERM_MODE n) then d.lswSetLatch now n
  else if d.rd (LSW.RETRY_MAX n) ≤ d.lswRestarts now n then (d.lswFault now n 6).lswSetLatch now n
  else d

theorem Dev.lswThermal_eq (d : Dev) (now n code : Nat) (hot : Bool) : d.lswThermal now n code hot =
    (let x := (((d.tripped now n code hot).lswStop now n).modLsw n (fun c => { c with restart := true })).lswApply now now n
     if (x.lswCh n).waitFrom.isSome then x else x.modLsw n (fun c => { c with restart := false })) := rfl

/-- What a trip of switch `m` under `code` shows (R343, R344). -/
def Tripped (now : Nat) (d e : Dev) (m code : Nat) : Prop :=
  e.rd (LSW.THERM_CNT m) = counted d (LSW.THERM_CNT m) ∧
  (d.on (LSW.THERM_MODE m) = true → e.rd (LSW.THERM_LATCH m) = 1 ∧ e.rd (LSW.FAULT m) = code ∧ (e.lswCh m).drv = false) ∧
  (d.on (LSW.THERM_MODE m) = false → d.lswRestarts now m < d.rd (LSW.RETRY_MAX m) → e.rd (LSW.FAULT m) = code) ∧
  (d.on (LSW.THERM_MODE m) = false → d.rd (LSW.RETRY_MAX m) ≤ d.lswRestarts now m →
    e.rd (LSW.FAULT m) = 6 ∧ e.rd (LSW.THERM_LATCH m) = 1 ∧ (e.lswCh m).drv = false)

theorem LSW.mode_plain {n : Nat} (hn : n < 16) : ((LSW.THERM_MODE n).lo < 32 ∧ (LSW.THERM_MODE n).ofEvents = false) ∧
    ((LSW.RETRY_MAX n).lo < 32 ∧ (LSW.RETRY_MAX n).ofEvents = false) ∧ ((LSW.RETRY_WINDOW n).lo < 32 ∧ (LSW.RETRY_WINDOW n).ofEvents = false) := by
  decide +revert

theorem LSW.mode_keys (n : Nat) : ∀ f ∈ [LSW.THERM_CNT n, LSW.FAULT n], f.key ≠ (LSW.THERM_MODE n).key ∧ f.key ≠ (LSW.RETRY_MAX n).key ∧
    f.key ≠ (LSW.RETRY_WINDOW n).key := by
  simp only [List.mem_cons, List.not_mem_nil, or_false, forall_eq_or_imp, forall_eq, Field.key, LSW.FAULT, LSW.THERM_CNT, LSW.THERM_MODE, LSW.RETRY_MAX,
    LSW.RETRY_WINDOW]
  omega

/-- The registers that a trip of switch `n` sets. -/
abbrev tripFields (n : Nat) : List Field := [LSW.THERM_CNT n, LSW.FAULT n, LSW.THERM_LATCH n]

/-- The trip before the switch takes its state. -/
theorem Dev.tripped_spec (d : Dev) (now : Nat) {n code : Nat} (hn : n < 16) (hcode : code < 16) (hot : Bool) {x : Dev} (hx : d.tripped now n code hot = x) :
    x.rd (LSW.THERM_CNT n) = counted d (LSW.THERM_CNT n) ∧
      (d.on (LSW.THERM_MODE n) = true → x.rd (LSW.THERM_LATCH n) = 1 ∧ x.rd (LSW.FAULT n) = code) ∧
      (d.on (LSW.THERM_MODE n) = false → d.lswRestarts now n < d.rd (LSW.RETRY_MAX n) → x.rd (LSW.FAULT n) = code) ∧
      (d.on (LSW.THERM_MODE n) = false → d.rd (LSW.RETRY_MAX n) ≤ d.lswRestarts now n →
        x.rd (LSW.FAULT n) = 6 ∧ x.rd (LSW.THERM_LATCH n) = 1) ∧
      (hot = true → (x.lswCh n).hot = true) ∧ OnlyRegsAndEvents (tripFields n) { d with lsw := x.lsw } x := by
  obtain ⟨⟨hflo, hfev, -⟩, ⟨hllo, hlev, -⟩, hclo, hcev, -⟩ := LSW.fault_plain hn
  obtain ⟨hfl, hcf, hcl, -, -, -⟩ := LSW.fault_keys n
  obtain ⟨⟨hmlo, hmev⟩, ⟨hrlo, hrev⟩, hwlo, hwev⟩ := LSW.mode_plain hn
  unfold Dev.tripped at hx
  extract_lets d1 d2 at hx
  have hbump : OnlyRegsAndEvents [LSW.THERM_CNT n, LSW.FAULT n] d (d.bump (LSW.THERM_CNT n)) :=
    (OnlyRegs.refl _ d).toOnlyRegsAndEvents.thenBump (by simp)
  have hbumpCnt : (d.bump (LSW.THERM_CNT n)).rd (LSW.THERM_CNT n) = counted d (LSW.THERM_CNT n) := d.rd_bump_self _
  obtain ⟨hfault1, honly1, -⟩ := (d.bump (LSW.THERM_CNT n)).lswFault_spec now hn hcode
  have h1 : OnlyRegsAndEvents [LSW.THERM_CNT n, LSW.FAULT n] d d1 := hbump.trans (honly1.mono (by simp))
  have hcnt1 : d1.rd (LSW.THERM_CNT n) = counted d (LSW.THERM_CNT n) :=
    (honly1.rd_of_disjoint hclo hcev (by simpa using Ne.symm hcf)).trans hbumpCnt
  change d1.rd (LSW.FAULT n) = code at hfault1
  have hch1 := h1.lswCh n
  clear_value d1
  have hmode1 : d1.on (LSW.THERM_MODE n) = d.on (LSW.THERM_MODE n) := Dev.on_congr (h1.rd_of_disjoint hmlo hmev fun f hf => (LSW.mode_keys n f hf).1)
  have hmax1 : d1.rd (LSW.RETRY_MAX n) = d.rd (LSW.RETRY_MAX n) := h1.rd_of_disjoint hrlo hrev fun f hf => (LSW.mode_keys n f hf).2.1
  have hwin1 : d1.rd (LSW.RETRY_WINDOW n) = d.rd (LSW.RETRY_WINDOW n) := h1.rd_of_disjoint hwlo hwev fun f hf => (LSW.mode_keys n f hf).2.2
  have h2 : OnlyRegsAndEvents (tripFields n) { d with lsw := d2.lsw } d2 := by
    refine ⟨?_, fun g hlo hev hne => h1.2 g hlo hev fun f hf => hne f (by simp only [List.mem_cons, List.not_mem_nil, or_false] at hf ⊢; tauto)⟩
    unfold d2 Dev.modLsw
    rw [h1.1]
  have hself : d2.lswCh n = { d1.lswCh n with hot := (d1.lswCh n).hot || hot || decide (160 < toS 10 (d1.rd (LSW.CH_TEMP n))) } :=
    Dev.lswCh_modLsw_self d1 n _
  have hrd2 : ∀ f, d2.rd f = d1.rd f := fun _ => rfl
  clear_value d2
  have hmode2 : d2.on (LSW.THERM_MODE n) = d.on (LSW.THERM_MODE n) := (Dev.on_congr (hrd2 _)).trans hmode1
  have hmax2 : d2.rd (LSW.RETRY_MAX n) = d.rd (LSW.RETRY_MAX n) := (hrd2 _).trans hmax1
  have hrestarts2 : d2.lswRestarts now n = d.lswRestarts now n := by
    have hr : (d2.lswCh n).restarts = (d.lswCh n).restarts := by rw [hself, hch1]
    change (((d2.lswCh n).restarts.filter (fun t => decide (now < t + ms (max 1 (d2.rd (LSW.RETRY_WINDOW n)))))).length) = _
    rw [hr, hrd2, hwin1]
    rfl
  have hcnt2 : d2.rd (LSW.THERM_CNT n) = counted d (LSW.THERM_CNT n) := (hrd2 _).trans hcnt1
  have hfault2 : d2.rd (LSW.FAULT n) = code := (hrd2 _).trans hfault1
  have hhot2 : hot = true → (d2.lswCh n).hot = true := fun h => by simp [hself, h]
  have hlatch : ∀ z : Dev, OnlyRegsAndEvents (tripFields n) d2 z →
      OnlyRegsAndEvents (tripFields n) d2 (z.lswSetLatch now n) ∧ (z.lswSetLatch now n).rd (LSW.THERM_LATCH n) = 1 ∧
        (z.lswSetLatch now n).rd (LSW.FAULT n) = z.rd (LSW.FAULT n) ∧ (z.lswSetLatch now n).rd (LSW.THERM_CNT n) = z.rd (LSW.THERM_CNT n) := fun z hz => by
    obtain ⟨hset, honly⟩ := z.lswSetLatch_spec now hn
    exact ⟨hz.trans (honly.mono (by simp)), hset, honly.rd_of_disjoint hflo hfev (by simpa using Ne.symm hfl),
      honly.rd_of_disjoint hclo hcev (by simpa using Ne.symm hcl)⟩
  have hfrom : ∀ z : Dev, OnlyRegsAndEvents (tripFields n) d2 z → OnlyRegsAndEvents (tripFields n) { d with lsw := z.lsw } z ∧
      (hot = true → (z.lswCh n).hot = true) := fun z hz => by
    have hlsw : z.lsw = d2.lsw := by rw [hz.1]
    refine ⟨?_, fun h => ?_⟩
    · rw [hlsw]
      exact h2.trans hz
    · rw [hz.lswCh]
      exact hhot2 h
  rw [hmode2, hmax2, hrestarts2] at hx
  cases hm : d.on (LSW.THERM_MODE n) with
  | true =>
    rw [hm, if_pos rfl] at hx
    obtain ⟨honly, hset, hf, hc⟩ := hlatch d2 (OnlyRegsAndEvents.refl _ d2)
    obtain ⟨hframe, hhot⟩ := hfrom _ honly
    rw [hx] at hset hf hc hframe hhot
    exact ⟨hc.trans hcnt2, fun _ => ⟨hset, hf.trans hfault2⟩, fun h => (by cases h), fun h => (by cases h), hhot, hframe⟩
  | false =>
    rw [hm, if_neg (by decide)] at hx
    by_cases hmax : d.rd (LSW.RETRY_MAX n) ≤ d.lswRestarts now n
    · rw [if_pos hmax] at hx
      obtain ⟨hfault6, honly6, -⟩ := d2.lswFault_spec now hn (show 6 < 16 by decide)
      obtain ⟨honly, hset, hf, hc⟩ := hlatch (d2.lswFault now n 6) (honly6.mono (by simp))
      obtain ⟨hframe, hhot⟩ := hfrom _ honly
      rw [hx] at hset hf hc hframe hhot
      exact ⟨hc.trans ((honly6.rd_of_disjoint hclo hcev (by simpa using Ne.symm hcf)).trans hcnt2), fun h => (by cases h),
        fun _ h => absurd hmax (Nat.not_le.mpr h), fun _ _ => ⟨hf.trans hfault6, hset⟩, hhot, hframe⟩
    · rw [if_neg hmax] at hx
      obtain ⟨hframe, hhot⟩ := hfrom d2 (OnlyRegsAndEvents.refl _ d2)
      rw [hx] at hcnt2 hfault2 hframe hhot
      exact ⟨hcnt2, fun h => (by cases h), fun _ _ => hfault2, fun _ h => absurd h hmax, hhot, hframe⟩

theorem Dev.lswWant_of_latch {d : Dev} {n : Nat} (h : d.rd (LSW.THERM_LATCH n) = 1) : (d.lswWant n).1 = false := by
  unfold Dev.lswWant
  dsimp only
  rw [if_pos (by simp [Dev.on, h])]

theorem Dev.lswWant_of_hot {d : Dev} {n : Nat} (h : (d.lswCh n).hot = true) : (d.lswWant n).1 = false := by
  unfold Dev.lswWant
  dsimp only
  rw [if_pos (by simp [h])]

/-- What follows a trip: the switch stops and takes its state. -/
theorem Dev.afterTrip_spec (d : Dev) (now : Nat) {n : Nat} (hn : n < 16) {e : Dev}
    (he : (let x := ((d.lswStop now n).modLsw n (fun c => { c with restart := true })).lswApply now now n
      if (x.lswCh n).waitFrom.isSome then x else x.modLsw n (fun c => { c with restart := false })) = e) :
    (∀ f : Field, f.lo < 32 → f.ofSwitching = false → (LSW.I_MEAS n).key ≠ f.key → e.rd f = d.rd f) ∧ (e.lswCh n).hot = (d.lswCh n).hot ∧
      (d.rd (LSW.THERM_LATCH n) = 1 ∨ (d.lswCh n).hot = true → (e.lswCh n).drv = false) ∧ LswTouch d e := by
  obtain ⟨hstop, -, -, -⟩ := d.lswStop_spec now hn
  have htouch := lswTouch_lswStop d now hn
  generalize d.lswStop now n = y at hstop htouch he
  have hself : (y.modLsw n (fun c => { c with restart := true })).lswCh n = { y.lswCh n with restart := true } := Dev.lswCh_modLsw_self y n _
  have hrd : ∀ f, (y.modLsw n (fun c => { c with restart := true })).rd f = y.rd f := fun _ => rfl
  have htouchZ : LswTouch y (y.modLsw n (fun c => { c with restart := true })) := lswTouch_modLsw y n _ (by intro; rfl)
  generalize y.modLsw n (fun c => { c with restart := true }) = z at hself hrd htouchZ he
  have happly := switched_lswApply z now now hn
  have hunwanted := fun h => (Dev.lswApply_of_unwanted (d := z) now now hn h).1
  have htouchApply := lswTouch_lswApply z now now hn
  generalize z.lswApply now now n = w at happly hunwanted htouchApply he
  dsimp only at he
  have hlast : (∀ f, e.rd f = w.rd f) ∧ (e.lswCh n).hot = (w.lswCh n).hot ∧ (e.lswCh n).drv = (w.lswCh n).drv ∧ LswTouch w e := by
    rw [← he]
    split
    · exact ⟨fun _ => rfl, rfl, rfl, Touches.refl w⟩
    · have hw : (w.modLsw n (fun c => { c with restart := false })).lswCh n = { w.lswCh n with restart := false } := Dev.lswCh_modLsw_self w n _
      exact ⟨fun _ => rfl, (congrArg LswCh.hot hw :), (congrArg LswCh.drv hw :), lswTouch_modLsw w n _ (by intro; rfl)⟩
  obtain ⟨hrdE, hhotE, hdrvE, htouchE⟩ := hlast
  have hregs : ∀ f : Field, f.lo < 32 → f.ofSwitching = false → (LSW.I_MEAS n).key ≠ f.key → z.rd f = d.rd f := fun f hlo hf hne =>
    (hrd f).trans (hstop.regs f hlo hf (by simpa using hne))
  have hhotZ : (z.lswCh n).hot = (d.lswCh n).hot := by
    rw [hself]
    exact (congrArg LswCh.hot (hstop.given n) :)
  refine ⟨fun f hlo hf hne => ?_, ?_, fun h => ?_, ((htouch.trans htouchZ).trans htouchApply).trans htouchE⟩
  · exact (hrdE f).trans ((happly.regs f hlo hf (by simpa using hne)).trans (hregs f hlo hf hne))
  · exact hhotE.trans ((congrArg LswCh.hot (happly.given n) :).trans hhotZ)
  · rw [hdrvE]
    refine hunwanted ?_
    rcases h with h | h
    · obtain ⟨-, ⟨hlo, -, hsw⟩, -⟩ := LSW.fault_plain hn
      exact Dev.lswWant_of_latch ((hregs _ hlo hsw (LSW.fault_keys n).2.2.2.2.1).trans h)
    · exact Dev.lswWant_of_hot (hhotZ.trans h)

/-- A trip of a switch (R343, R344). -/
theorem Dev.lswThermal_spec (d : Dev) (now : Nat) {n code : Nat} (hn : n < 16) (hcode : code < 16) (hot : Bool) :
    Tripped now d (d.lswThermal now n code hot) n code ∧
      (hot = true → ((d.lswThermal now n code hot).lswCh n).hot = true ∧ ((d.lswThermal now n code hot).lswCh n).drv = false) ∧
      (d.lswThermal now n code hot).wdg = d.wdg ∧
      ∀ f : Field, f.lo < 32 → f.ofEvents = false → f.ofSwitching = false → (LSW.I_MEAS n).key ≠ f.key → (∀ g ∈ tripFields n, g.key ≠ f.key) →
        (d.lswThermal now n code hot).rd f = d.rd f := by
  generalize hx : d.tripped now n code hot = x
  obtain ⟨hcnt, hmode, hretry, hmax, hhot, honly⟩ := d.tripped_spec now hn hcode hot hx
  rw [Dev.lswThermal_eq, hx]
  generalize he : (let y := ((x.lswStop now n).modLsw n (fun c => { c with restart := true })).lswApply now now n
    if (y.lswCh n).waitFrom.isSome then y else y.modLsw n (fun c => { c with restart := false })) = e
  obtain ⟨hregs, hhotE, hoff, htouch⟩ := x.afterTrip_spec now hn he
  obtain ⟨⟨hflo, -, hfsw⟩, ⟨hllo, -, hlsw⟩, hclo, -, hcsw⟩ := LSW.fault_plain hn
  obtain ⟨-, -, -, hif, hil, hic⟩ := LSW.fault_keys n
  have hfault := hregs (LSW.FAULT n) hflo hfsw hif
  have hlatch := hregs (LSW.THERM_LATCH n) hllo hlsw hil
  refine ⟨⟨(hregs _ hclo hcsw hic).trans hcnt, fun hm => ?_, fun hm hlt => hfault.trans (hretry hm hlt), fun hm hle => ?_⟩, fun h => ?_, ?_,
    fun f hlo hev hsw hne hout => ?_⟩
  · obtain ⟨hl, hf⟩ := hmode hm
    exact ⟨hlatch.trans hl, hfault.trans hf, hoff (Or.inl hl)⟩
  · obtain ⟨hf, hl⟩ := hmax hm hle
    exact ⟨hfault.trans hf, hlatch.trans hl, hoff (Or.inl hl)⟩
  · exact ⟨hhotE.trans (hhot h), hoff (Or.inr (hhot h))⟩
  · have hrest : e.wdg = x.wdg := (congrArg (fun k => k.1.wdg) htouch.rest :)
    rw [hrest, honly.1]
  · exact (hregs f hlo hsw hne).trans (honly.2 f hlo hev hout)

/-- A trip is judged by what no measurement changes. -/
theorem Tripped.of_congr {now m code : Nat} {d z e : Dev} (h : Tripped now z e m code) (hlsw : z.lsw = d.lsw)
    (hrd : ∀ f ∈ [LSW.THERM_CNT m, LSW.THERM_MODE m, LSW.RETRY_MAX m, LSW.RETRY_WINDOW m], z.rd f = d.rd f) : Tripped now d e m code := by
  have hcnt : counted z (LSW.THERM_CNT m) = counted d (LSW.THERM_CNT m) := by
    unfold counted
    rw [hrd _ (by simp)]
  have hmode : z.on (LSW.THERM_MODE m) = d.on (LSW.THERM_MODE m) := Dev.on_congr (hrd _ (by simp))
  have hmax := hrd (LSW.RETRY_MAX m) (by simp)
  have hrestarts : z.lswRestarts now m = d.lswRestarts now m := by
    unfold Dev.lswRestarts
    rw [hlsw, hrd (LSW.RETRY_WINDOW m) (by simp)]
  unfold Tripped at h ⊢
  rw [hcnt, hmode, hmax, hrestarts] at h
  exact h

end Sys2Proof.Machine
end

section
/-! PROOFS. The banks of the load switches, and their diagnostics (R334, R341 to R347). -/
namespace Sys2Proof.Machine

/-! ### What a bank measures -/

theorem CovPair.each {α : Type} {f : Dev → α → Dev} (hf : ∀ d x, CovPair d (f d x)) (d : Dev) (l : List α) : CovPair d (d.each l f) := by
  unfold Dev.each
  induction l generalizing d with
  | nil => exact CovPair.refl d
  | cons x l ih => exact (hf d x).trans (ih _)

theorem Dev.rd_writes_mem (d : Dev) {l : List (Field × Nat)} (hl : l.Pairwise (fun x y => x.1.key ≠ y.1.key)) {f : Field} {v : Nat}
    (h : (f, v) ∈ l) : (d.writes l).rd f = v % 2 ^ f.width := by
  induction l generalizing d with
  | nil => cases h
  | cons x l ih =>
    obtain ⟨hx, hl⟩ := List.pairwise_cons.mp hl
    rcases List.mem_cons.mp h with h | h
    · rw [← h] at hx ⊢
      rw [Dev.writes_cons, Dev.rd_writes_ne _ l (by simpa using fun a b hab => Ne.symm (hx (a, b) hab)), Dev.rd_wr_self]
    · exact ih _ hl h

theorem Dev.on_wrB_self (d : Dev) (f : Field) (b : Bool) (hw : f.width = 1) : (d.wrB f b).on f = b := by
  unfold Dev.on
  rw [Dev.rd_wrB_self _ _ _ hw]
  cases b <;> rfl

/-- The current measured in switch `m`, where `i` names the currents of its bank. -/
def Dev.switchCurrent (d : Dev) (i : Nat → Nat) (m : Nat) : Nat := if (d.lswCh m).drv then i m else 0

theorem Dev.each_measured (d : Dev) (i : Nat → Nat) (l : List Nat) :
    d.each (l.map (fun m => (m, i m))) (fun d x => d.wr (LSW.I_MEAS x.1) (if (d.lswCh x.1).drv then x.2 else 0)) =
      d.writes (l.map (fun m => (LSW.I_MEAS m, d.switchCurrent i m))) := by
  unfold Dev.writes Dev.each
  induction l generalizing d with
  | nil => rfl
  | cons m l ih => exact ih (d.wr (LSW.I_MEAS m) (d.switchCurrent i m))

/-- The register that shows the current of bank `b`. -/
def bankCurrent (b : Nat) : Field := match b with | 0 => LSB.I_BANK_A | 1 => LSB.I_BANK_B | 2 => LSB.I_BANK_C | _ => LSB.I_BANK_D

/-- The registers that a measurement of bank `b` sets. -/
def bankFields (b : Nat) : List Field := bankCurrent b :: LSB.BANK_HI b :: (bankSwitches b).map LSW.I_MEAS

theorem bankFields_keys {b : Nat} (hb : b < 4) :
    (∀ m ∈ bankSwitches b, (bankCurrent b).key ≠ (LSW.I_MEAS m).key ∧ (LSB.BANK_HI b).key ≠ (LSW.I_MEAS m).key) ∧
      ((bankSwitches b).map LSW.I_MEAS).Pairwise (fun x y => x.key ≠ y.key) := by decide +revert

/-- A bank measured: its currents and whether they are above 16,000 mA (R334). -/
theorem Dev.bankMeas_spec (d : Dev) (now : Nat) {b : Nat} (hb : b < 4) {i : Nat → Nat} (hi : ∀ m, i m < 2 ^ 16) {is : List Nat}
    (hzip : (bankSwitches b).zip is = (bankSwitches b).map (fun m => (m, i m))) :
    CovPair d { d.bankMeas now b is with regs := d.regs } ∧ (∀ m ∈ bankSwitches b, (d.bankMeas now b is).rd (LSW.I_MEAS m) = d.switchCurrent i m) ∧
      (d.bankMeas now b is).on (LSB.BANK_HI b) = decide (16000 < ((bankSwitches b).map (d.switchCurrent i)).sum) ∧
      ∀ f, (∀ g ∈ bankFields b, g.key ≠ f.key) → (d.bankMeas now b is).rd f = d.rd f := by
  obtain ⟨hkeys, hpair⟩ := bankFields_keys hb
  unfold Dev.bankMeas
  rw [hzip]
  extract_lets d1 d2 total f
  have h1 : CovPair d d1 := CovPair.each (fun d x => CovPair.ite (covPair_covLoad _ _ _ _) (CovPair.refl d)) d _
  have hd2 : d2 = d1.writes ((bankSwitches b).map (fun m => (LSW.I_MEAS m, d1.switchCurrent i m))) := d1.each_measured i _
  have hlsw : d1.lsw = d.lsw := by
    unfold CovPair at h1
    rw [h1]
  have hregs : d1.regs = d.regs := by
    unfold CovPair at h1
    rw [h1]
  have hcur : ∀ m, d1.switchCurrent i m = d.switchCurrent i m := fun m => by
    unfold Dev.switchCurrent Dev.lswCh
    rw [hlsw]
  clear_value d1
  simp only [hcur] at hd2
  have hlt : ∀ m, d.switchCurrent i m < 2 ^ 16 := fun m => by
    unfold Dev.switchCurrent
    split
    · exact hi m
    · decide
  have hmeas : ∀ m ∈ bankSwitches b, d2.rd (LSW.I_MEAS m) = d.switchCurrent i m := fun m hm => by
    rw [hd2, Dev.rd_writes_mem d1 (l := (bankSwitches b).map (fun m => (LSW.I_MEAS m, d.switchCurrent i m))) (f := LSW.I_MEAS m)
      (v := d.switchCurrent i m) ?_ (List.mem_map.mpr ⟨m, hm, rfl⟩)]
    · exact Nat.mod_eq_of_lt (hlt m)
    · rw [List.pairwise_map] at hpair ⊢
      exact hpair
  have htotal : total = ((bankSwitches b).map (d.switchCurrent i)).sum := by
    unfold total
    rw [List.map_congr_left hmeas]
  have hrest : CovPair d { d2 with regs := d.regs } := by
    have h2 : ∀ (l : List (Field × Nat)) (x : Dev), { x.writes l with regs := x.regs } = x := fun l => by
      induction l with
      | nil => exact fun _ => rfl
      | cons y l ih => exact fun x => congrArg (fun k : Dev => { k with regs := x.regs }) (ih (x.wr y.1 y.2))
    rw [hd2, ← hregs, h2]
    exact h1
  refine ⟨hrest, fun m hm => ?_, ?_, fun g hg => ?_⟩
  · have hk := hkeys m hm
    exact (Dev.rd_wr_ne _ _ hk.2).trans ((Dev.rd_wr_ne d2 _ hk.1).trans (hmeas m hm))
  · rw [← htotal]
    exact Dev.on_wrB_self _ _ _ rfl
  · have hg' : (bankCurrent b).key ≠ g.key ∧ (LSB.BANK_HI b).key ≠ g.key ∧ ∀ m ∈ bankSwitches b, (LSW.I_MEAS m).key ≠ g.key := by
      simpa [bankFields] using hg
    refine (Dev.rd_wr_ne _ _ hg'.2.1).trans ((Dev.rd_wr_ne d2 _ hg'.1).trans ?_)
    rw [hd2, Dev.rd_writes_ne d1 _ (by simpa using hg'.2.2)]
    unfold Dev.rd
    rw [hregs]

theorem CovPair.parts {d x : Dev} (h : CovPair d { x with regs := d.regs }) : x.lsw = d.lsw ∧ x.wdg = d.wdg ∧ x.pwr = d.pwr := by
  unfold CovPair at h
  exact ⟨(congrArg Dev.lsw h :), (congrArg Dev.wdg h :), (congrArg Dev.pwr h :)⟩

/-- The current of switch `m` of bank `b`, of the four measured. -/
def bankInput (b : Nat) (i0 i1 i2 i3 : BitVec 16) (m : Nat) : Nat :=
  if m = 2 * b then i0.toNat else if m = 2 * b + 1 then i1.toNat else if m = 8 + 2 * b then i2.toNat else i3.toNat

theorem bankInput_lt (b : Nat) (i0 i1 i2 i3 : BitVec 16) (m : Nat) : bankInput b i0 i1 i2 i3 m < 2 ^ 16 := by
  unfold bankInput
  split
  · exact i0.isLt
  · split
    · exact i1.isLt
    · split
      · exact i2.isLt
      · exact i3.isLt

theorem zip_bankSwitches (b : Nat) (i0 i1 i2 i3 : BitVec 16) :
    (bankSwitches b).zip [i0.toNat, i1.toNat, i2.toNat, i3.toNat] = (bankSwitches b).map (fun m => (m, bankInput b i0 i1 i2 i3 m)) := by
  simp only [bankSwitches, List.zip_cons_cons, List.zip_nil_right, List.map_cons, List.map_nil, bankInput, if_true, List.cons.injEq, Prod.mk.injEq,
    true_and, and_true]
  refine ⟨?_, ?_, ?_⟩
  · rw [if_neg (by omega)]
  · rw [if_neg (by omega), if_neg (by omega)]
  · rw [if_neg (by omega), if_neg (by omega), if_neg (by omega)]

/-! ### A bank above its limit -/

/-- Registers of a bank that its switching leaves. -/
theorem LSB.bank_plain {b : Nat} (hb : b < 4) : ∀ f ∈ LSB.BANK_HI b :: LSB.INRUSH_CUT_CNT :: (bankSwitches b).map LSW.I_MEAS,
    f.lo < 32 ∧ f.ofEvents = false ∧ f.ofSwitching = false := by decide +revert

theorem LSB.bank_keys {b : Nat} (hb : b < 4) : (∀ f ∈ LSB.BANK_HI b :: (bankSwitches b).map LSW.I_MEAS, LSB.INRUSH_CUT_CNT.key ≠ f.key) ∧
    ∀ f ∈ bankFields b, f.key ≠ LSB.INRUSH_CUT_CNT.key ∧ f.key ≠ LSB.BANK_OVL_CNT.key := by decide +revert

theorem EVT.lswBankPeak_bit {b : Nat} (hb : b < 4) : (evtPage EVT.LSW_BANK_PEAK b).2 < 32 := by decide +revert

/-- The inrush of the switches `l` ends. -/
theorem Dev.each_inrushOver_spec (now : Nat) (l : List Nat) (hl : ∀ n ∈ l, n < 16) (d : Dev) :
    Switched [] d (d.each l (fun d n => d.inrushOver now n)) ∧ (d.each l (fun d n => d.inrushOver now n)).pwr = d.pwr ∧
      ∀ k, ((d.each l (fun d n => d.inrushOver now n)).lswCh k).drv = (d.lswCh k).drv ∧
        ((d.each l (fun d n => d.inrushOver now n)).lswCh k).waitFrom = (d.lswCh k).waitFrom ∧
        ((d.lswCh k).inr = false ∨ k ∈ l → ((d.each l (fun d n => d.inrushOver now n)).lswCh k).inr = false) := by
  unfold Dev.each
  induction l generalizing d with
  | nil => exact ⟨Switched.refl [] d, rfl, fun k => ⟨rfl, rfl, fun h => h.resolve_right (by simp)⟩⟩
  | cons n l ih =>
    obtain ⟨hself, hne, hsw⟩ := d.inrushOver_spec now (hl n (by simp))
    obtain ⟨hrun, hpwr, hch⟩ := ih (fun m hm => hl m (by simp [hm])) (d.inrushOver now n)
    have hpwr1 : (d.inrushOver now n).pwr = d.pwr := rfl
    have h1 : ∀ k, ((d.inrushOver now n).lswCh k).drv = (d.lswCh k).drv ∧ ((d.inrushOver now n).lswCh k).waitFrom = (d.lswCh k).waitFrom ∧
        ((d.lswCh k).inr = false ∨ k = n → ((d.inrushOver now n).lswCh k).inr = false) := fun k => by
      by_cases hk : k = n
      · rw [hk, hself]
        exact ⟨rfl, rfl, fun _ => rfl⟩
      · rw [hne k hk]
        exact ⟨rfl, rfl, fun h => h.resolve_right hk⟩
    refine ⟨hsw.trans hrun, hpwr.trans hpwr1, fun k => ?_⟩
    obtain ⟨hd1, hw1, hi1⟩ := h1 k
    obtain ⟨hd, hw, hi⟩ := hch k
    refine ⟨hd.trans hd1, hw.trans hw1, fun h => hi ?_⟩
    rcases h with h | h
    · exact .inl (hi1 (.inl h))
    · rcases List.mem_cons.mp h with h | h
      · exact .inl (hi1 (.inr h))
      · exact .inr h

/-- A bank whose current has been above its limit for 10 ms ends the inrush of its switches (R334). -/
theorem Dev.bankPeak_cuts {d : Dev} {now b held : Nat} (hb : b < 4) (hhi : d.on (LSB.BANK_HI b) = true) (hheld : ms 10 ≤ held) {e : Dev}
    (he : d.bankPeak now b held = e) :
    (∀ f ∈ LSB.BANK_HI b :: (bankSwitches b).map LSW.I_MEAS, e.rd f = d.rd f) ∧ e.rd LSB.INRUSH_CUT_CNT = counted d LSB.INRUSH_CUT_CNT ∧
      (∀ m ∈ bankSwitches b, (d.lswCh m).waitFrom = none → (e.lswCh m).inr = false ∧ (e.lswCh m).drv = (d.lswCh m).drv) ∧
      (d.pwr.stage = .none → e.raised EVT.LSW_BANK_PEAK b = true) := by
  have hplain := LSB.bank_plain hb
  unfold Dev.bankPeak at he
  rw [if_pos (by simp [hhi, hheld])] at he
  obtain ⟨hsw, hpwr, hch⟩ := Dev.each_inrushOver_spec now ((bankSwitches b).filter (fun n => (d.lswCh n).inr))
    (fun n hn => bankSwitches_lt hb (List.mem_filter.mp hn).1) d
  dsimp only at he
  generalize d.each ((bankSwitches b).filter (fun n => (d.lswCh n).inr)) (fun d n => d.inrushOver now n) = y at hsw hpwr hch he
  have hcount : (y.bump LSB.INRUSH_CUT_CNT).rd LSB.INRUSH_CUT_CNT = counted d LSB.INRUSH_CUT_CNT := by
    obtain ⟨hlo, -, hf⟩ := hplain LSB.INRUSH_CUT_CNT (by simp)
    exact (y.rd_bump_self LSB.INRUSH_CUT_CNT).trans (congrArg (fun v => min (2 ^ 16 - 1) (v + 1)) (hsw.regs _ hlo hf (by simp)))
  have hfire := (OnlyRegs.refl [LSB.INRUSH_CUT_CNT] y).toOnlyRegsAndEvents.thenBump (f := LSB.INRUSH_CUT_CNT) (by simp)
  have hlast := (OnlyRegsAndEvents.refl [] (y.bump LSB.INRUSH_CUT_CNT)).thenLswFire now EVT.LSW_BANK_PEAK b 0
  have hraised : d.pwr.stage = .none → ((y.bump LSB.INRUSH_CUT_CNT).lswFire now EVT.LSW_BANK_PEAK b 0).raised EVT.LSW_BANK_PEAK b = true := fun hstage => by
    rw [← hpwr] at hstage
    rw [show (y.bump LSB.INRUSH_CUT_CNT).lswFire now EVT.LSW_BANK_PEAK b 0 = (y.bump LSB.INRUSH_CUT_CNT).fire now EVT.LSW_BANK_PEAK b 0 from
      if_pos hstage]
    exact Dev.raised_fire _ _ _ _ _ (by omega) (EVT.lswBankPeak_bit hb)
  have hframe := hfire.trans (hlast.mono (by simp))
  have hkeep := fun k => hlast.lswCh k
  generalize (y.bump LSB.INRUSH_CUT_CNT).lswFire now EVT.LSW_BANK_PEAK b 0 = z at he hlast hraised hframe hkeep
  obtain ⟨hadmit, hview⟩ := Dev.lswAdmitN_spec 4 z now hb
  have hraw := (lswTouch_lswAdmit z now hb).raw
  change z.lswAdmit now b = e at he
  change Switched [] z (z.lswAdmit now b) at hadmit
  rw [he] at hadmit hraw
  refine ⟨fun f hf => ?_, ?_, fun m hm hnone => ?_, fun h => hraw.raised (EVT.lswBankPeak_bit hb) (hraised h)⟩
  · obtain ⟨hlo, hev, hsf⟩ := hplain f (by simp only [List.mem_cons] at hf ⊢; tauto)
    exact (hadmit.regs f hlo hsf (by simp)).trans ((hframe.rd_of_disjoint hlo hev (by simpa using (LSB.bank_keys hb).1 f hf)).trans
      (hsw.regs f hlo hsf (by simp)))
  · obtain ⟨hlo, hev, hf⟩ := hplain LSB.INRUSH_CUT_CNT (by simp)
    exact (hadmit.regs _ hlo hf (by simp)).trans ((hlast.rd_of_disjoint hlo hev (by simp)).trans hcount)
  · obtain ⟨hdrv, hwait, hinr⟩ := hch m
    have hzm : z.lswCh m = y.lswCh m := hkeep m
    have hem := (congrArg Prod.fst (hview m (bankSwitches_lt hb hm) (by rw [hzm, hwait]; exact hnone))).trans hzm
    change ((z.lswAdmit now b).lswCh m) = _ at hem
    rw [he] at hem
    rw [hem]
    refine ⟨hinr ?_, hdrv⟩
    cases hi : (d.lswCh m).inr with
    | false => exact .inl rfl
    | true => exact .inr (List.mem_filter.mpr ⟨hm, hi⟩)

theorem bankPeak_effect (s : State) (el : Nat) (b : Fin 4) (i0 i1 i2 i3 : BitVec 16) (held : Nat) :
    Answers (.bankPeak el b i0 i1 i2 i3 held) s (fun _ d e =>
      let cur := d.switchCurrent (bankInput b.val i0 i1 i2 i3)
      let sum := ((bankSwitches b.val).map cur).sum
      d.driving = true →
      (∀ m ∈ bankSwitches b.val, e.rd (LSW.I_MEAS m) = cur m) ∧ e.on (LSB.BANK_HI b.val) = decide (16000 < sum) ∧
      (sum ≤ 16000 ∨ held < ms 10 → e.lsw = d.lsw ∧ e.rd LSB.INRUSH_CUT_CNT = d.rd LSB.INRUSH_CUT_CNT) ∧
      (16000 < sum → ms 10 ≤ held → e.rd LSB.INRUSH_CUT_CNT = counted d LSB.INRUSH_CUT_CNT ∧
        (∀ m ∈ bankSwitches b.val, (d.lswCh m).waitFrom = none → (e.lswCh m).inr = false ∧ (e.lswCh m).drv = (d.lswCh m).drv) ∧
        (d.pwr.stage = .none → e.raised EVT.LSW_BANK_PEAK b.val = true))) := by
  refine answers_of_forall (f := fun now d => if d.driving then
    (d.bankMeas now b.val [i0.toNat, i1.toNat, i2.toNat, i3.toNat]).bankPeak now b.val held else d) rfl (fun now d => ?_)
  intro cur sum hdrive
  rw [if_pos hdrive]
  obtain ⟨hcov, hmeas, hhi, hkept⟩ := d.bankMeas_spec now b.isLt (bankInput_lt b.val i0 i1 i2 i3) (zip_bankSwitches b.val i0 i1 i2 i3)
  generalize d.bankMeas now b.val [i0.toNat, i1.toNat, i2.toNat, i3.toNat] = z at hcov hmeas hhi hkept
  obtain ⟨hlsw, -, hpwr⟩ := hcov.parts
  have hcut : z.rd LSB.INRUSH_CUT_CNT = d.rd LSB.INRUSH_CUT_CNT := hkept _ fun g hg => ((LSB.bank_keys b.isLt).2 g hg).1
  by_cases hpeak : 16000 < sum ∧ ms 10 ≤ held
  · obtain ⟨hsum, hheld⟩ := hpeak
    obtain ⟨hregs, hcnt, hch, hraised⟩ := Dev.bankPeak_cuts b.isLt (hhi.trans (decide_eq_true hsum)) hheld rfl
    refine ⟨fun m hm => ?_, ?_, fun h => by omega, fun _ _ => ⟨hcnt.trans ?_, fun m hm hnone => ?_, fun hstage => hraised ?_⟩⟩
    · exact (hregs _ (List.mem_cons_of_mem _ (List.mem_map_of_mem hm))).trans (hmeas m hm)
    · exact (Dev.on_congr (hregs _ (List.mem_cons_self ..))).trans hhi
    · unfold counted
      rw [hcut]
    · have hm' : z.lswCh m = d.lswCh m := congrArg (fun t => tget t m) hlsw
      obtain ⟨hinr, hdrv⟩ := hch m hm (by rw [hm']; exact hnone)
      exact ⟨hinr, by rw [hdrv, hm']⟩
    · rw [hpwr]
      exact hstage
  · have hsame : z.bankPeak now b.val held = z := by
      unfold Dev.bankPeak
      rw [if_neg]
      rw [hhi]
      simpa using not_and.mp hpeak
    rw [hsame]
    exact ⟨hmeas, hhi, fun _ => ⟨hlsw, hcut⟩, fun h1 h2 => absurd ⟨h1, h2⟩ hpeak⟩

/-! ### A bank overloaded -/

/-- The one of two switches whose current `w` is higher in relation to its nominal current `v`. -/
def higherRatio (w v : Nat → Nat) (m : Option Nat) (n : Nat) : Option Nat :=
  match m with | none => some n | some x => if w x * v n < w n * v x then some n else some x

theorem ratio_trans {wa va wb vb wc vc : Nat} (hb : 0 < vb) (h1 : wa * vb ≤ wb * va) (h2 : wb * vc ≤ wc * vb) : wa * vc ≤ wc * va := by
  refine Nat.le_of_mul_le_mul_right ?_ hb
  calc wa * vc * vb = wa * vb * vc := by ring
    _ ≤ wb * va * vc := Nat.mul_le_mul_right _ h1
    _ = wb * vc * va := by ring
    _ ≤ wc * vb * va := Nat.mul_le_mul_right _ h2
    _ = wc * va * vb := by ring

/-- Of a list not empty a switch of the highest ratio is found. -/
theorem foldl_higherRatio (w v : Nat → Nat) (l : List Nat) (a : Nat) : ∃ x ∈ a :: l, l.foldl (higherRatio w v) (some a) = some x ∧
    ((∀ y ∈ a :: l, 0 < v y) → ∀ y ∈ a :: l, w y * v x ≤ w x * v y) := by
  induction l generalizing a with
  | nil => exact ⟨a, by simp, rfl, fun _ y hy => by simp_all⟩
  | cons n l ih =>
    have hnext : ∃ c, higherRatio w v (some a) n = some c ∧ (c = a ∨ c = n) ∧ w a * v c ≤ w c * v a ∧ w n * v c ≤ w c * v n := by
      by_cases h : w a * v n < w n * v a
      · exact ⟨n, if_pos h, .inr rfl, h.le, le_rfl⟩
      · exact ⟨a, if_neg h, .inl rfl, le_rfl, Nat.le_of_not_lt h⟩
    obtain ⟨c, hc, hca, hac, hnc⟩ := hnext
    have hcmem : c ∈ a :: n :: l := by
      rcases hca with rfl | rfl <;> simp
    have hsub : ∀ y ∈ c :: l, y ∈ a :: n :: l := fun y hy => by
      rcases List.mem_cons.mp hy with rfl | hy
      · exact hcmem
      · simp [hy]
    obtain ⟨x, hx, hfold, hmax⟩ := ih c
    refine ⟨x, hsub x hx, by rw [List.foldl_cons, hc]; exact hfold, fun hpos y hy => ?_⟩
    have hle := hmax fun y hy => hpos y (hsub y hy)
    have hcx := hle c (by simp)
    rcases List.mem_cons.mp hy with rfl | hy
    · exact ratio_trans (hpos c hcmem) hac hcx
    · rcases List.mem_cons.mp hy with rfl | hy
      · exact ratio_trans (hpos c hcmem) hnc hcx
      · exact hle y (List.mem_cons_of_mem _ hy)

/-- Whether a second has passed since bank `b` last turned a switch off for overload. -/
def Dev.overloadDue (d : Dev) (now b : Nat) : Bool := match tget? d.wdg.ovlAt b with | some t => decide (t + sec 1 ≤ now) | none => true

theorem Dev.bankOverload_eq (d : Dev) (now b held : Nat) : d.bankOverload now b held =
    if d.on (LSB.BANK_HI b) && decide (sec 1 ≤ held) && d.overloadDue now b then
      match ((bankSwitches b).filter (fun n => (d.lswCh n).drv)).foldl
          (higherRatio (fun n => d.rd (LSW.I_MEAS n)) (fun n => d.rd (LSW.I_NOM n))) none with
      | some n => ({ d with wdg := { d.wdg with ovlAt := tset d.wdg.ovlAt b now } }.bump LSB.BANK_OVL_CNT).lswThermal now n 4 false
      | none => { d with wdg := { d.wdg with ovlAt := tset d.wdg.ovlAt b now } }
    else d := rfl

theorem tripReads_keys {b : Nat} (hb : b < 4) {m : Nat} (hm : m < 16) : ∀ f ∈ [LSW.THERM_CNT m, LSW.THERM_MODE m, LSW.RETRY_MAX m, LSW.RETRY_WINDOW m, LSW.I_NOM m],
    LSB.BANK_OVL_CNT.key ≠ f.key ∧ ∀ g ∈ bankFields b, g.key ≠ f.key := by decide +revert

theorem bankOvlCnt_plain {m : Nat} (hm : m < 16) : LSB.BANK_OVL_CNT.lo < 32 ∧ LSB.BANK_OVL_CNT.ofEvents = false ∧ LSB.BANK_OVL_CNT.ofSwitching = false ∧
    (LSW.I_MEAS m).key ≠ LSB.BANK_OVL_CNT.key ∧ ∀ g ∈ tripFields m, g.key ≠ LSB.BANK_OVL_CNT.key := by decide +revert

/-- A measured bank whose current has been above its limit for a second: the switch of the highest ratio trips (R341). -/
theorem Dev.bankOverload_trips {d : Dev} {now b held : Nat} (hb : b < 4) (hhi : d.on (LSB.BANK_HI b) = true) (hheld : sec 1 ≤ held)
    (hdue : d.overloadDue now b = true) (hsome : ∃ m ∈ bankSwitches b, (d.lswCh m).drv = true) {e : Dev} (he : d.bankOverload now b held = e) :
    e.rd LSB.BANK_OVL_CNT = counted d LSB.BANK_OVL_CNT ∧ tget? e.wdg.ovlAt b = some now ∧
      ∃ m ∈ bankSwitches b, (d.lswCh m).drv = true ∧ Tripped now d e m 4 ∧
        ((∀ x ∈ bankSwitches b, 0 < d.rd (LSW.I_NOM x)) → ∀ x ∈ bankSwitches b, (d.lswCh x).drv = true →
          d.rd (LSW.I_MEAS x) * d.rd (LSW.I_NOM m) ≤ d.rd (LSW.I_MEAS m) * d.rd (LSW.I_NOM x)) := by
  rw [Dev.bankOverload_eq, if_pos (by simp [hhi, hheld, hdue])] at he
  have hsub : ∀ x ∈ (bankSwitches b).filter (fun n => (d.lswCh n).drv), x ∈ bankSwitches b ∧ (d.lswCh x).drv = true := fun x hx => List.mem_filter.mp hx
  have hall : ∀ x ∈ bankSwitches b, (d.lswCh x).drv = true → x ∈ (bankSwitches b).filter (fun n => (d.lswCh n).drv) :=
    fun x hx hdrv => List.mem_filter.mpr ⟨hx, hdrv⟩
  generalize (bankSwitches b).filter (fun n => (d.lswCh n).drv) = l at he hsub hall
  cases l with
  | nil =>
    obtain ⟨m, hm, hdrv⟩ := hsome
    cases hall m hm hdrv
  | cons a l =>
    obtain ⟨m, hmem, hfold, hmax⟩ := foldl_higherRatio (fun n => d.rd (LSW.I_MEAS n)) (fun n => d.rd (LSW.I_NOM n)) l a
    rw [List.foldl_cons, show higherRatio (fun n => d.rd (LSW.I_MEAS n)) (fun n => d.rd (LSW.I_NOM n)) none a = some a from rfl, hfold] at he
    dsimp only at he
    obtain ⟨hm, hdrv⟩ := hsub m hmem
    have hm16 := bankSwitches_lt hb hm
    have hwdg : tget? { d with wdg := { d.wdg with ovlAt := tset d.wdg.ovlAt b now } }.wdg.ovlAt b = some now := tget?_tset_self _ _ _
    have hrd : ∀ f, Dev.rd { d with wdg := { d.wdg with ovlAt := tset d.wdg.ovlAt b now } } f = d.rd f := fun _ => rfl
    have hlsw : Dev.lsw { d with wdg := { d.wdg with ovlAt := tset d.wdg.ovlAt b now } } = d.lsw := rfl
    have hcount : (Dev.bump { d with wdg := { d.wdg with ovlAt := tset d.wdg.ovlAt b now } } LSB.BANK_OVL_CNT).rd LSB.BANK_OVL_CNT =
        counted d LSB.BANK_OVL_CNT := Dev.rd_bump_self _ _
    generalize ({ d with wdg := { d.wdg with ovlAt := tset d.wdg.ovlAt b now } } : Dev) = y at he hwdg hrd hlsw hcount
    obtain ⟨htrip, -, hkeep, hframe⟩ := (y.bump LSB.BANK_OVL_CNT).lswThermal_spec now hm16 (show 4 < 16 by decide) false
    rw [he] at htrip hkeep hframe
    obtain ⟨hlo, hev, hsw, hmeas, hout⟩ := bankOvlCnt_plain hm16
    refine ⟨(hframe _ hlo hev hsw hmeas hout).trans hcount, by rw [hkeep]; exact hwdg, m, hm, hdrv, htrip.of_congr hlsw fun f hf => ?_, fun hpos x hx hxdrv => ?_⟩
    · exact (y.rd_bump_ne ((tripReads_keys hb hm16 f (List.mem_append_left [LSW.I_NOM m] hf)).1)).trans (hrd f)
    · exact hmax (fun y hy => hpos y (hsub y hy).1) x (hall x hx hxdrv)

theorem bankOverload_effect (s : State) (el : Nat) (b : Fin 4) (i0 i1 i2 i3 : BitVec 16) (held : Nat) :
    Answers (.bankOverload el b i0 i1 i2 i3 held) s (fun now d e =>
      let cur := d.switchCurrent (bankInput b.val i0 i1 i2 i3)
      let sum := ((bankSwitches b.val).map cur).sum
      d.driving = true →
      (sum ≤ 16000 ∨ held < sec 1 ∨ (∃ t, tget? d.wdg.ovlAt b.val = some t ∧ now < t + sec 1) →
        e.lsw = d.lsw ∧ e.rd LSB.BANK_OVL_CNT = d.rd LSB.BANK_OVL_CNT ∧ (∀ m ∈ bankSwitches b.val, e.rd (LSW.I_MEAS m) = cur m)) ∧
      (16000 < sum → sec 1 ≤ held → (∀ t, tget? d.wdg.ovlAt b.val = some t → t + sec 1 ≤ now) →
        e.rd LSB.BANK_OVL_CNT = counted d LSB.BANK_OVL_CNT ∧ tget? e.wdg.ovlAt b.val = some now ∧
        ∃ m ∈ bankSwitches b.val, (d.lswCh m).drv = true ∧ Tripped now d e m 4 ∧
          ((∀ x ∈ bankSwitches b.val, 0 < d.rd (LSW.I_NOM x)) → ∀ x ∈ bankSwitches b.val,
            cur x * d.rd (LSW.I_NOM m) ≤ cur m * d.rd (LSW.I_NOM x)))) := by
  refine answers_of_forall (f := fun now d => if d.driving then
    (d.bankMeas now b.val [i0.toNat, i1.toNat, i2.toNat, i3.toNat]).bankOverload now b.val held else d) rfl (fun now d => ?_)
  intro cur sum hdrive
  rw [if_pos hdrive]
  obtain ⟨hcov, hmeas, hhi, hkept⟩ := d.bankMeas_spec now b.isLt (bankInput_lt b.val i0 i1 i2 i3) (zip_bankSwitches b.val i0 i1 i2 i3)
  generalize d.bankMeas now b.val [i0.toNat, i1.toNat, i2.toNat, i3.toNat] = z at hcov hmeas hhi hkept
  obtain ⟨hlsw, hwdg, -⟩ := hcov.parts
  have hovl : z.rd LSB.BANK_OVL_CNT = d.rd LSB.BANK_OVL_CNT := hkept _ fun g hg => ((LSB.bank_keys b.isLt).2 g hg).2
  have hdueEq : z.overloadDue now b.val = d.overloadDue now b.val := by
    unfold Dev.overloadDue
    rw [hwdg]
  refine ⟨fun hnot => ?_, fun hsum hheld hdue => ?_⟩
  · have hsame : z.bankOverload now b.val held = z := by
      rw [Dev.bankOverload_eq, if_neg]
      rw [hhi, hdueEq]
      rcases hnot with h | h | ⟨t, ht, h⟩
      · simp [Nat.not_lt.mpr (show ((bankSwitches b.val).map (d.switchCurrent (bankInput b.val i0 i1 i2 i3))).sum ≤ 16000 from h)]
      · simp [Nat.not_le.mpr h]
      · simp [Dev.overloadDue, ht, Nat.not_le.mpr h]
    rw [hsame]
    exact ⟨hlsw, hovl, hmeas⟩
  · have hch : ∀ m, z.lswCh m = d.lswCh m := fun m => congrArg (fun t => tget t m) hlsw
    have hsome : ∃ m ∈ bankSwitches b.val, (z.lswCh m).drv = true := by
      by_contra hnone
      have hzero : sum = 0 := List.sum_eq_zero fun x hx => by
        obtain ⟨m, hm, rfl⟩ := List.mem_map.mp hx
        exact if_neg fun h => hnone ⟨m, hm, by rw [hch]; exact h⟩
      omega
    have hdueZ : z.overloadDue now b.val = true := by
      rw [hdueEq]
      unfold Dev.overloadDue
      split
      · next t ht => exact decide_eq_true (hdue t ht)
      · rfl
    obtain ⟨hcnt, hat, m, hm, hdrv, htrip, hmax⟩ := Dev.bankOverload_trips b.isLt (hhi.trans (decide_eq_true hsum)) hheld hdueZ hsome rfl
    have hm16 := bankSwitches_lt b.isLt hm
    have hnom : ∀ x ∈ bankSwitches b.val, z.rd (LSW.I_NOM x) = d.rd (LSW.I_NOM x) := fun x hx =>
      hkept _ (tripReads_keys b.isLt (bankSwitches_lt b.isLt hx) (LSW.I_NOM x) (by simp)).2
    refine ⟨hcnt.trans ?_, hat, m, hm, by rw [← hch]; exact hdrv, htrip.of_congr hlsw fun f hf => ?_, fun hpos x hx => ?_⟩
    · unfold counted
      rw [hovl]
    · exact hkept f (tripReads_keys b.isLt hm16 f (List.mem_append_left [LSW.I_NOM m] hf)).2
    · by_cases hxdrv : (z.lswCh x).drv = true
      · have hle := hmax (fun y hy => by rw [hnom y hy]; exact hpos y hy) x hx hxdrv
        rw [hmeas x hx, hmeas m hm, hnom x hx, hnom m hm] at hle
        exact hle
      · have hx0 : cur x = 0 := if_neg (by rw [← hch]; exact hxdrv)
        rw [hx0, Nat.zero_mul]
        exact Nat.zero_le _

end Sys2Proof.Machine
end

section
/-! PROOFS. Overload, temperature, fault clears and diagnostics of one load switch (R341 to R347). -/
namespace Sys2Proof.Machine

/-! ### Overload and temperature -/

theorem tripReads_other {n : Nat} (hn : n < 16) : ∀ f ∈ [LSW.THERM_CNT n, LSW.THERM_MODE n, LSW.RETRY_MAX n, LSW.RETRY_WINDOW n],
    (LSW.I_MEAS n).key ≠ f.key ∧ (LSW.CH_TEMP n).key ≠ f.key := by decide +revert

/-- A trip after a measurement of the current or of the temperature of its switch. -/
theorem Tripped.of_measured {now n code : Nat} {d e : Dev} (hn : n < 16) {f : Field} {v : Nat} (hf : f = LSW.I_MEAS n ∨ f = LSW.CH_TEMP n)
    (h : Tripped now (d.wr f v) e n code) : Tripped now d e n code :=
  h.of_congr rfl fun g hg => Dev.rd_wr_ne d v (by
    obtain ⟨hmeas, htemp⟩ := tripReads_other hn g hg
    rcases hf with rfl | rfl
    · exact hmeas
    · exact htemp)

theorem Dev.lswLimit_of_steady {d : Dev} {n : Nat} (now : Nat) (h : (d.lswCh n).inr = false) : d.lswLimit now n = d.lswSteady n := by
  unfold Dev.lswLimit
  dsimp only
  rw [if_neg (by simp [h])]

theorem lswOverload_effect (s : State) (el : Nat) (c : Fin 16) (x : BitVec 16) (held : Nat) :
    Answers (.lswOverload el c x held) s (fun now d e => d.driving = true →
      ((d.lswCh c.val).drv = false ∨ (d.lswCh c.val).inr = true ∨ x.toNat < d.lswSteady c.val ∨ held < ms (max 1 (d.rd (LSW.OVL_TIME c.val))) ∨
        now < (d.lswCh c.val).inrEnd + ms (max 1 (d.rd (LSW.OVL_TIME c.val))) → e = d) ∧
      ((d.lswCh c.val).drv = true → (d.lswCh c.val).inr = false → d.lswSteady c.val ≤ x.toNat → ms (max 1 (d.rd (LSW.OVL_TIME c.val))) ≤ held →
        (d.lswCh c.val).inrEnd + ms (max 1 (d.rd (LSW.OVL_TIME c.val))) ≤ now → Tripped now d e c.val 4)) := by
  refine answers_of_forall (f := fun now d =>
    let n := c.val
    let t := ms (max 1 (d.rd (LSW.OVL_TIME n)))
    if d.driving && (d.lswCh n).drv && !(d.lswCh n).inr && decide (d.lswLimit now n ≤ x.toNat) && decide (t ≤ held) &&
        decide ((d.lswCh n).inrEnd + t ≤ now) then
      (d.wr (LSW.I_MEAS n) x.toNat).lswThermal now n 4 false
    else d) rfl (fun now d hdrive => ?_)
  dsimp only
  generalize ms (max 1 (d.rd (LSW.OVL_TIME c.val))) = t
  refine ⟨fun hnot => if_neg ?_, fun hdrv hinr hlim hheld hend => ?_⟩
  · cases hi : (d.lswCh c.val).inr with
    | true => simp
    | false =>
      rw [d.lswLimit_of_steady now hi]
      simp only [Bool.and_eq_true, decide_eq_true_eq, hi] at hnot ⊢
      rintro ⟨⟨⟨⟨⟨-, hd⟩, -⟩, hl⟩, hh⟩, he⟩
      rcases hnot with h | h | h | h | h
      · exact Bool.false_ne_true (h.symm.trans hd)
      · exact Bool.false_ne_true h
      · omega
      · omega
      · omega
  · rw [if_pos (by simp [hdrive, hdrv, hinr, d.lswLimit_of_steady now hinr, hlim, hheld, hend])]
    exact ((d.wr (LSW.I_MEAS c.val) x.toNat).lswThermal_spec now c.isLt (show 4 < 16 by decide) false).1.of_measured c.isLt (.inl rfl)

theorem LSW.chTemp_plain {n : Nat} (hn : n < 16) : (LSW.CH_TEMP n).lo < 32 ∧ (LSW.CH_TEMP n).ofEvents = false ∧ (LSW.CH_TEMP n).ofSwitching = false ∧
    (LSW.I_MEAS n).key ≠ (LSW.CH_TEMP n).key ∧ (∀ g ∈ tripFields n, g.key ≠ (LSW.CH_TEMP n).key) ∧ (LSW.CH_TEMP n).key ≠ (LSW.SW_ON_CNT n).key := by
  decide +revert

/-- A measured temperature shows. -/
theorem Dev.rdS_chTemp (d : Dev) (n : Nat) (temp : BitVec 10) : (d.wrS (LSW.CH_TEMP n) temp.toInt).rdS (LSW.CH_TEMP n) = temp.toInt := by
  have hlt : temp.toInt < 2 ^ (10 - 1) := BitVec.toInt_lt
  have hle : -2 ^ (10 - 1) ≤ temp.toInt := BitVec.le_toInt temp
  exact Dev.rdS_wrS_of_fits d _ (by decide : 0 < 10) hle hlt

theorem Dev.rdS_congr {d e : Dev} {f : Field} (h : e.rd f = d.rd f) : e.rdS f = d.rdS f := by
  unfold Dev.rdS
  rw [h]

theorem thermalShutdown_effect (s : State) (el : Nat) (c : Fin 16) (temp : BitVec 10) :
    Answers (.thermalShutdown el c temp) s (fun now d e => d.driving = true →
      e.rdS (LSW.CH_TEMP c.val) = temp.toInt ∧
      (temp.toInt < 175 ∨ (d.lswCh c.val).drv = false → OnlyRegs [LSW.CH_TEMP c.val] d e) ∧
      (175 ≤ temp.toInt → (d.lswCh c.val).drv = true → (e.lswCh c.val).hot = true ∧ (e.lswCh c.val).drv = false ∧ Tripped now d e c.val 5)) := by
  refine answers_of_forall (f := fun now d =>
    if d.driving then
      let d := d.wrS (LSW.CH_TEMP c.val) temp.toInt
      if decide (175 ≤ temp.toInt) && (d.lswCh c.val).drv then d.lswThermal now c.val 5 true else d
    else d) rfl (fun now d hdrive => ?_)
  rw [if_pos hdrive]
  have hshow := d.rdS_chTemp c.val temp
  have hdrv : ((d.wrS (LSW.CH_TEMP c.val) temp.toInt).lswCh c.val).drv = (d.lswCh c.val).drv := rfl
  dsimp only
  rw [hdrv]
  by_cases htrip : 175 ≤ temp.toInt ∧ (d.lswCh c.val).drv = true
  · rw [if_pos (by simp [htrip])]
    obtain ⟨h, hhot, -, hframe⟩ := (d.wrS (LSW.CH_TEMP c.val) temp.toInt).lswThermal_spec now c.isLt (show 5 < 16 by decide) true
    obtain ⟨hlo, hev, hsw, hmeas, hout, -⟩ := LSW.chTemp_plain c.isLt
    refine ⟨(Dev.rdS_congr (hframe _ hlo hev hsw hmeas hout)).trans hshow, fun hnot => ?_, fun _ _ => ?_⟩
    · rcases hnot with hlow | hoff
      · omega
      · rw [htrip.2] at hoff
        cases hoff
    · obtain ⟨h1, h2⟩ := hhot rfl
      exact ⟨h1, h2, h.of_measured c.isLt (.inr rfl)⟩
  · rw [if_neg (by simpa using htrip)]
    exact ⟨hshow, fun _ => OnlyRegs.wr d _ _ (by simp), fun h1 h2 => absurd ⟨h1, h2⟩ htrip⟩

/-- The registers that decide whether switch `n` is wanted on. -/
def wantFields (n : Nat) : List Field :=
  [LSW.THERM_LATCH n, LSB.BANK_SUSP (lswBank n), WDG.SNUFF_FREQ (32 + n), WDG.SNUFF_DUTY (32 + n), LSW.AUX_DUTY n, LSB.LSW_PWM_FREQ, LSW.ROLE n]

theorem Dev.lswWant_of_wantFields {d e : Dev} {n : Nat} (hrd : ∀ f ∈ wantFields n, e.rd f = d.rd f) (hlsw : e.lsw = d.lsw) (hpwr : e.pwr = d.pwr) :
    e.lswWant n = d.lswWant n := by
  simp only [wantFields, List.mem_cons, List.not_mem_nil, or_false, forall_eq_or_imp, forall_eq] at hrd
  obtain ⟨hlatch, hsusp, hfreq, hduty, haux, hpwm, hrole⟩ := hrd
  unfold Dev.lswWant Dev.lswSnuffPwm Dev.lswOnDrive Dev.lswChopPeriod Dev.lswAux Dev.on Dev.rdH Dev.lswCh
  dsimp only
  rw [hlsw, hpwr, hlatch, hsusp, hfreq, hduty, haux, hpwm, hrole]

theorem wantFields_chTemp {n : Nat} (hn : n < 16) : ∀ f ∈ wantFields n, (LSW.CH_TEMP n).key ≠ f.key := by decide +revert

/-- A switch that has cooled down is no longer hot, and starts where it is wanted on and its bank is free (R344). -/
theorem Dev.lswCool_spec (d : Dev) (now : Nat) {n : Nat} (hn : n < 16) {e : Dev} (he : d.lswCool now n = e) :
    (e.lswCh n).hot = false ∧ (∀ f : Field, f.lo < 32 → f.ofSwitching = false → (LSW.I_MEAS n).key ≠ f.key → e.rd f = d.rd f) ∧
      (((d.modLsw n (fun x => { x with hot := false })).lswWant n).1 = true →
        (∀ m ∈ bankSwitches (lswBank n), (d.lswCh m).drv = false ∧ (d.lswCh m).waitFrom = none) → (d.lswCh n).offDue now = false →
        (e.lswCh n).drv = true ∧ (e.lswCh n).onAt = now ∧ e.rd (LSW.SW_ON_CNT n) = counted d (LSW.SW_ON_CNT n)) := by
  unfold Dev.lswCool at he
  have hself : (d.modLsw n (fun c => { c with hot := false, restart := true })).lswCh n = { d.lswCh n with hot := false, restart := true } :=
    Dev.lswCh_modLsw_self d n _
  have hne : ∀ m, m ≠ n → (d.modLsw n (fun c => { c with hot := false, restart := true })).lswCh m = d.lswCh m :=
    fun m hm => Dev.lswCh_modLsw_ne d _ (Ne.symm hm)
  have hwant : (d.modLsw n (fun c => { c with hot := false, restart := true })).lswWant n = (d.modLsw n (fun x => { x with hot := false })).lswWant n :=
    Dev.lswWant_congr rfl rfl (by rw [hself, Dev.lswCh_modLsw_self]; rfl)
  have hrd : ∀ f, (d.modLsw n (fun c => { c with hot := false, restart := true })).rd f = d.rd f := fun _ => rfl
  generalize d.modLsw n (fun c => { c with hot := false, restart := true }) = y at he hself hne hwant hrd
  rw [← hwant]
  have hsw := switched_lswApply y now now hn
  have hfree := Dev.lswApply_of_free (d := y) now now hn
  dsimp only at he
  generalize y.lswApply now now n = x at he hsw hfree
  have hlast : (e.lswCh n).hot = (x.lswCh n).hot ∧ (e.lswCh n).drv = (x.lswCh n).drv ∧ (e.lswCh n).onAt = (x.lswCh n).onAt ∧ ∀ f, e.rd f = x.rd f := by
    rw [← he]
    split
    · exact ⟨rfl, rfl, rfl, fun _ => rfl⟩
    · rw [Dev.lswCh_modLsw_self]
      exact ⟨rfl, rfl, rfl, fun _ => rfl⟩
  obtain ⟨hhot, hdrv, hat, hregs⟩ := hlast
  refine ⟨?_, fun f hlo hf hm => ?_, fun hw hbank hoff => ?_⟩
  · rw [hhot, show (x.lswCh n).hot = (y.lswCh n).hot from (congrArg LswCh.hot (hsw.given n) :), hself]
  · exact (hregs f).trans ((hsw.regs f hlo hf (by simpa using hm)).trans (hrd f))
  · obtain ⟨h1, h2, -, -, -, h3⟩ := hfree hw (by rw [hself]; exact hoff) (fun m hm => by
      by_cases hmn : m = n
      · rw [hmn, hself]
        exact hbank n (mem_bankSwitches hn)
      · rw [hne m hmn]
        exact hbank m hm)
    refine ⟨hdrv.trans h1, hat.trans h2, (hregs _).trans (h3.trans ?_)⟩
    unfold counted
    rw [hrd]

theorem coolRestart_effect (s : State) (el : Nat) (c : Fin 16) (temp : BitVec 10) :
    Answers (.coolRestart el c temp) s (fun now d e => d.driving = true →
      e.rdS (LSW.CH_TEMP c.val) = temp.toInt ∧
      ((d.lswCh c.val).hot = false ∨ 160 < temp.toInt → OnlyRegs [LSW.CH_TEMP c.val] d e) ∧
      ((d.lswCh c.val).hot = true → temp.toInt ≤ 160 → (e.lswCh c.val).hot = false ∧
        (((d.modLsw c.val (fun x => { x with hot := false })).lswWant c.val).1 = true →
          (∀ m ∈ bankSwitches (lswBank c.val), (d.lswCh m).drv = false ∧ (d.lswCh m).waitFrom = none) → (d.lswCh c.val).offDue now = false →
          (e.lswCh c.val).drv = true ∧ (e.lswCh c.val).onAt = now ∧ e.rd (LSW.SW_ON_CNT c.val) = counted d (LSW.SW_ON_CNT c.val)))) := by
  refine answers_of_forall (f := fun now d =>
    if d.driving then
      let d := d.wrS (LSW.CH_TEMP c.val) temp.toInt
      if decide (temp.toInt ≤ 160) && (d.lswCh c.val).hot then d.lswCool now c.val else d
    else d) rfl (fun now d hdrive => ?_)
  rw [if_pos hdrive]
  have hshow := d.rdS_chTemp c.val temp
  have hhot : ((d.wrS (LSW.CH_TEMP c.val) temp.toInt).lswCh c.val).hot = (d.lswCh c.val).hot := rfl
  obtain ⟨hlo, -, hsw, hmeas, -, hcnt⟩ := LSW.chTemp_plain c.isLt
  dsimp only
  rw [hhot]
  by_cases hcool : temp.toInt ≤ 160 ∧ (d.lswCh c.val).hot = true
  · rw [if_pos (by simp [hcool])]
    have hwant : ((d.wrS (LSW.CH_TEMP c.val) temp.toInt).modLsw c.val (fun x => { x with hot := false })).lswWant c.val =
        (d.modLsw c.val (fun x => { x with hot := false })).lswWant c.val :=
      Dev.lswWant_of_wantFields (fun f hf => Dev.rd_wr_ne d _ (wantFields_chTemp c.isLt f hf)) rfl rfl
    obtain ⟨h1, h2, h3⟩ := (d.wrS (LSW.CH_TEMP c.val) temp.toInt).lswCool_spec now c.isLt rfl
    rw [hwant] at h3
    refine ⟨(Dev.rdS_congr (h2 _ hlo hsw hmeas)).trans hshow, fun hnot => ?_, fun _ _ => ⟨h1, fun hw hbank hoff => ?_⟩⟩
    · rcases hnot with h | h
      · rw [hcool.2] at h
        cases h
      · omega
    · obtain ⟨hd, ha, hc⟩ := h3 hw hbank hoff
      refine ⟨hd, ha, hc.trans ?_⟩
      unfold counted
      rw [show (d.wrS (LSW.CH_TEMP c.val) temp.toInt).rd (LSW.SW_ON_CNT c.val) = d.rd (LSW.SW_ON_CNT c.val) from Dev.rd_wr_ne d _ hcnt]
  · rw [if_neg (by simpa using hcool)]
    exact ⟨hshow, fun _ => OnlyRegs.wr d _ _ (by simp), fun h1 h2 => absurd ⟨h2, h1⟩ hcool⟩

/-! ### Fault clears and diagnostics -/

theorem lswFltClr_effect (s : State) (el : Nat) (c : Fin 16) :
    Answers (.lswFltClr el c) s (fun _ d e => d.hif.inService = true →
      e.rd (LSW.THERM_LATCH c.val) = 0 ∧ e.rd (LSW.FAULT c.val) = 0 ∧ (e.lswCh c.val).restarts = []) := by
  refine answers_of_forall (f := fun now d => if d.hif.inService then d.lswFltClr now c.val else d) rfl (fun now d hserv => ?_)
  rw [if_pos hserv]
  unfold Dev.lswFltClr
  dsimp only
  obtain ⟨⟨hflo, -, hfsw⟩, ⟨hllo, -, hlsw⟩, -⟩ := LSW.fault_plain c.isLt
  obtain ⟨hfl, -, -, hif, hil, -⟩ := LSW.fault_keys c.val
  have hfault : (((d.wr (LSW.THERM_LATCH c.val) 0).wr (LSW.FAULT c.val) 0).modLsw c.val (fun x => { x with restarts := [], restart := false })).rd
      (LSW.FAULT c.val) = 0 := Dev.rd_wr_self (d.wr (LSW.THERM_LATCH c.val) 0) (LSW.FAULT c.val) 0
  have hlatch : (((d.wr (LSW.THERM_LATCH c.val) 0).wr (LSW.FAULT c.val) 0).modLsw c.val (fun x => { x with restarts := [], restart := false })).rd
      (LSW.THERM_LATCH c.val) = 0 := (Dev.rd_wr_ne (d.wr (LSW.THERM_LATCH c.val) 0) 0 hfl).trans (Dev.rd_wr_self d (LSW.THERM_LATCH c.val) 0)
  have hself := Dev.lswCh_modLsw_self ((d.wr (LSW.THERM_LATCH c.val) 0).wr (LSW.FAULT c.val) 0) c.val (fun x => { x with restarts := [], restart := false })
  generalize ((d.wr (LSW.THERM_LATCH c.val) 0).wr (LSW.FAULT c.val) 0).modLsw c.val (fun x => { x with restarts := [], restart := false }) = y
    at hfault hlatch hself
  have hsw := switched_lswApply y now now c.isLt
  obtain ⟨-, hrestarts⟩ := hsw.calm c.val (by rw [hself])
  refine ⟨(hsw.regs _ hllo hlsw (by simpa using hil)).trans hlatch, (hsw.regs _ hflo hfsw (by simpa using hif)).trans hfault, hrestarts.trans ?_⟩
  rw [hself]

theorem covPair_covNoLoad (d : Dev) (k t : Nat) : CovPair d (d.covNoLoad k t) := by
  unfold Dev.covNoLoad
  refine CovPair.ite (CovPair.refl d) ?_
  extract_lets d1
  suffices h : CovPair d d1 from h.trans rfl
  show CovPair d (match d.ptOfCh 2 k with | some n => d.mirrorLoad n false t | none => d)
  split
  · exact CovPair.ite rfl (covPair_mirrorConf _ _ _ _)
  · rfl

/-- The load of switch `k` is noted as missing. -/
theorem Dev.covNoLoad_notes (d : Dev) (k t : Nat) : (d.covNoLoad k t).cov.noLoad.any (fun y => y.1 == k && y.2.2 == 0) = true := by
  unfold Dev.covNoLoad
  split
  · next h => exact h
  · simp

/-- No load is noted as missing any longer. -/
theorem Dev.covLoad_clears (d : Dev) (k : Nat) {t : Nat} (ht : 0 < t) (fresh : Bool) :
    (d.covLoad k t fresh).cov.noLoad.any (fun y => y.1 == k && y.2.2 == 0) = false := by
  unfold Dev.covLoad
  dsimp only
  rw [List.any_eq_false]
  intro y hy
  obtain ⟨x, -, rfl⟩ := List.mem_map.mp hy
  split
  · have : t ≠ 0 := by omega
    simp [this]
  · next h => exact h

/-- An on-state diagnosis of switch `n` under `code`. -/
def Dev.lswDiagnosed (d : Dev) (now n x code : Nat) : Dev := ((d.wr (LSW.I_MEAS n) x).lswFault now n code).lswShow now n

theorem LSW.iMeas_events {n : Nat} (hn : n < 16) : (LSW.I_MEAS n).ofEvents = false ∧ (LSW.FAULT n).key ≠ (LSW.I_MEAS n).key ∧
    (LSW.CH_STATE n).key ≠ (LSW.I_MEAS n).key ∧ (LSW.CH_STATE n).key ≠ (LSW.FAULT n).key := by decide +revert

theorem Dev.lswDiagnosed_spec (d : Dev) (now : Nat) {n code x : Nat} (hn : n < 16) (hcode : code < 16) (hx : x < 2 ^ 16) {y e : Dev}
    (hy : d.lswDiagnosed now n x code = y) (he : CovPair y e) :
    e.rd (LSW.FAULT n) = code ∧ e.rd (LSW.I_MEAS n) = x ∧ e.lsw = d.lsw ∧
      (d.pwr.stage = .none → d.rd (LSW.FAULT n) ≠ code → e.raised EVT.LSW_FAULT n = true) := by
  obtain ⟨hev, hfm, hsm, hsf⟩ := LSW.iMeas_events hn
  have hfault0 : (d.wr (LSW.I_MEAS n) x).rd (LSW.FAULT n) = d.rd (LSW.FAULT n) := Dev.rd_wr_ne d x (Ne.symm hfm)
  have hmeas0 : (d.wr (LSW.I_MEAS n) x).rd (LSW.I_MEAS n) = x := (Dev.rd_wr_self _ _ _).trans (Nat.mod_eq_of_lt hx)
  obtain ⟨hf, honly, hraise⟩ := (d.wr (LSW.I_MEAS n) x).lswFault_spec now hn hcode
  rw [hfault0] at hraise
  have hm := (honly.rd_of_disjoint (LSW.iMeas_plain hn).1 hev (by simpa using hfm)).trans hmeas0
  have hl : ((d.wr (LSW.I_MEAS n) x).lswFault now n code).lsw = d.lsw := by
    rw [honly.1]
    rfl
  unfold Dev.lswDiagnosed at hy
  generalize (d.wr (LSW.I_MEAS n) x).lswFault now n code = z at hy hf hm hl hraise
  have hraw := ((lswTouch_lswShow z now hn).raw).trans (lswTouch_covPair (hy.symm ▸ he)).raw
  have hfy : y.rd (LSW.FAULT n) = z.rd (LSW.FAULT n) := by
    rw [← hy]
    exact Dev.rd_wr_ne _ _ hsf
  have hmy : y.rd (LSW.I_MEAS n) = z.rd (LSW.I_MEAS n) := by
    rw [← hy]
    exact Dev.rd_wr_ne _ _ hsm
  have hly : y.lsw = z.lsw := by
    rw [← hy]
    rfl
  unfold CovPair at he
  have hrd : ∀ f, e.rd f = y.rd f := fun f => by
    rw [he]
    rfl
  refine ⟨(hrd _).trans (hfy.trans hf), (hrd _).trans (hmy.trans hm), ?_, fun hstage hne => hraw.raised (EVT.lswFault_bit hn) (hraise hstage hne)⟩
  rw [show e.lsw = y.lsw by rw [he], hly, hl]

theorem Dev.stage_of_judged {d : Dev} {n : Nat} (h : d.lswJudged n = true) : d.pwr.stage = .none := by
  unfold Dev.lswJudged at h
  simp only [Bool.and_eq_true, beq_iff_eq] at h
  exact h.1.2

theorem lswOpen_effect (s : State) (el : Nat) (c : Fin 16) (x : BitVec 16) (held : Nat) :
    Answers (.lswOpen el c x held) s (fun now d e => d.lswJudged c.val = true →
      ((d.lswCh c.val).inr = false → x.toNat < d.rd (LSW.OL_ON_MA c.val) → ms 10 ≤ held → (d.lswCh c.val).inrEnd + ms 10 ≤ now →
        e.rd (LSW.FAULT c.val) = 1 ∧ e.rd (LSW.I_MEAS c.val) = x.toNat ∧ e.lsw = d.lsw ∧
        e.cov.noLoad.any (fun y => y.1 == c.val && y.2.2 == 0) = true ∧
        (d.rd (LSW.FAULT c.val) ≠ 1 → e.raised EVT.LSW_FAULT c.val = true)) ∧
      ((d.lswCh c.val).inr = true ∨ d.rd (LSW.OL_ON_MA c.val) ≤ x.toNat ∨ held < ms 10 ∨ now < (d.lswCh c.val).inrEnd + ms 10 → e = d)) := by
  refine answers_of_forall (f := fun now d =>
    let n := c.val
    if d.lswJudged n && !(d.lswCh n).inr && decide (x.toNat < d.rd (LSW.OL_ON_MA n)) && decide (ms 10 ≤ held) && decide ((d.lswCh n).inrEnd + ms 10 ≤ now)
    then (d.lswDiagnosed now n x.toNat 1).covNoLoad n now else d) rfl (fun now d hjudged => ⟨fun hinr hlow hheld hend => ?_, fun hnot => if_neg ?_⟩)
  · dsimp only
    rw [if_pos (by simp [hjudged, hinr, hlow, hheld, hend])]
    obtain ⟨hf, hm, hl, hr⟩ := d.lswDiagnosed_spec now c.isLt (show 1 < 16 by decide) x.isLt rfl (covPair_covNoLoad _ c.val now)
    exact ⟨hf, hm, hl, Dev.covNoLoad_notes _ _ _, hr (Dev.stage_of_judged hjudged)⟩
  · rcases hnot with h | h | h | h
    · simp [h]
    · simp [Nat.not_lt.mpr h]
    · simp [Nat.not_le.mpr h]
    · simp [Nat.not_le.mpr h]

theorem lswScGnd_effect (s : State) (el : Nat) (c : Fin 16) (x mv : BitVec 16) (held : Nat) :
    Answers (.lswScGnd el c x mv held) s (fun now d e => d.lswJudged c.val = true →
      (d.lswLimit now c.val ≤ x.toNat → mv.toNat < 2000 → ms 1 ≤ held →
        e.rd (LSW.FAULT c.val) = 2 ∧ e.rd (LSW.I_MEAS c.val) = x.toNat ∧ e.lsw = d.lsw ∧
        (0 < now → e.cov.noLoad.any (fun y => y.1 == c.val && y.2.2 == 0) = false) ∧
        (d.rd (LSW.FAULT c.val) ≠ 2 → e.raised EVT.LSW_FAULT c.val = true)) ∧
      (x.toNat < d.lswLimit now c.val ∨ 2000 ≤ mv.toNat ∨ held < ms 1 → e = d)) := by
  refine answers_of_forall (f := fun now d =>
    if d.lswJudged c.val && decide (d.lswLimit now c.val ≤ x.toNat) && decide (mv.toNat < 2000) && decide (ms 1 ≤ held)
    then (d.lswDiagnosed now c.val x.toNat 2).covLoad c.val now false else d) rfl (fun now d hjudged => ⟨fun hlim hmv hheld => ?_, fun hnot => if_neg ?_⟩)
  · rw [if_pos (by simp [hjudged, hlim, hmv, hheld])]
    obtain ⟨hf, hm, hl, hr⟩ := d.lswDiagnosed_spec now c.isLt (show 2 < 16 by decide) x.isLt rfl (covPair_covLoad _ c.val now false)
    exact ⟨hf, hm, hl, fun hnow => Dev.covLoad_clears _ _ hnow _, hr (Dev.stage_of_judged hjudged)⟩
  · rcases hnot with h | h | h
    · simp [Nat.not_le.mpr h]
    · simp [Nat.not_lt.mpr h]
    · simp [Nat.not_le.mpr h]

/-- What the off test of switch `n` finds at `mv` millivolts (R346). -/
def Dev.lswOffFound (d : Dev) (now n mv : Nat) : Dev :=
  if mv < 1000 then d.wr (LSW.DIAG_OFF n) 1
  else if 2000 ≤ mv && mv ≤ 4000 then d.wr (LSW.DIAG_OFF n) 2
  else if 5000 < mv then
    (if d.on (LSW.DUAL_FED n) then d.wr (LSW.DIAG_OFF n) 4 else (d.wr (LSW.DIAG_OFF n) 3).lswFault now n 3)
  else d.wr (LSW.DIAG_OFF n) 5

theorem LSW.diagOff_plain {n : Nat} (hn : n < 16) : (LSW.DIAG_OFF n).lo < 32 ∧ (LSW.DIAG_OFF n).ofEvents = false ∧
    (LSW.FAULT n).key ≠ (LSW.DIAG_OFF n).key := by decide +revert

theorem Dev.lswOffFound_spec (d : Dev) (now : Nat) {n : Nat} (hn : n < 16) (mv : Nat) {e : Dev} (he : d.lswOffFound now n mv = e) :
    e.lsw = d.lsw ∧ (mv < 1000 → e.rd (LSW.DIAG_OFF n) = 1) ∧ (2000 ≤ mv → mv ≤ 4000 → e.rd (LSW.DIAG_OFF n) = 2) ∧
      (5000 < mv → d.on (LSW.DUAL_FED n) = true → e.rd (LSW.DIAG_OFF n) = 4) ∧
      (5000 < mv → d.on (LSW.DUAL_FED n) = false → e.rd (LSW.DIAG_OFF n) = 3 ∧ e.rd (LSW.FAULT n) = 3) := by
  have hset : ∀ v, v < 2 ^ 3 → (d.wr (LSW.DIAG_OFF n) v).rd (LSW.DIAG_OFF n) = v := fun v hv => (Dev.rd_wr_self _ _ _).trans (Nat.mod_eq_of_lt hv)
  unfold Dev.lswOffFound at he
  by_cases h1 : mv < 1000
  · rw [if_pos h1] at he
    subst e
    exact ⟨rfl, fun _ => hset 1 (by decide), fun h => by omega, fun h => by omega, fun h => by omega⟩
  rw [if_neg h1] at he
  by_cases h2 : 2000 ≤ mv ∧ mv ≤ 4000
  · rw [if_pos (by simp [h2])] at he
    subst e
    exact ⟨rfl, fun h => absurd h h1, fun _ _ => hset 2 (by decide), fun h => by omega, fun h => by omega⟩
  rw [if_neg (by simpa using h2)] at he
  by_cases h3 : 5000 < mv
  · rw [if_pos h3] at he
    cases hdual : d.on (LSW.DUAL_FED n) with
    | true =>
      rw [hdual, if_pos rfl] at he
      subst e
      exact ⟨rfl, fun h => absurd h h1, fun h h' => absurd ⟨h, h'⟩ h2, fun _ _ => hset 4 (by decide), fun _ h => (by cases h)⟩
    | false =>
      rw [hdual, if_neg (by decide)] at he
      subst e
      obtain ⟨hlo, hev, hne⟩ := LSW.diagOff_plain hn
      obtain ⟨hf, honly, -⟩ := (d.wr (LSW.DIAG_OFF n) 3).lswFault_spec now hn (show 3 < 16 by decide)
      refine ⟨?_, fun h => absurd h h1, fun h h' => absurd ⟨h, h'⟩ h2, fun _ h => (by cases h), fun _ _ =>
        ⟨(honly.rd_of_disjoint hlo hev (by simpa using hne)).trans (hset 3 (by decide)), hf⟩⟩
      rw [honly.1]
      rfl
  · rw [if_neg h3] at he
    subst e
    exact ⟨rfl, fun h => absurd h h1, fun h h' => absurd ⟨h, h'⟩ h2, fun h => absurd h h3, fun h => absurd h h3⟩

theorem Dev.lswOffTest_eq (d : Dev) (now n mv : Nat) : d.lswOffTest now n mv =
    if !(d.lswCh n).drv && (d.lswCh n).waitFrom.isNone && d.on (LSW.OFF_DIAG_EN n) &&
        (d.lswCh n).cmds.all (fun k => decide (k.dt ≤ now) || decide (now + us 200 ≤ k.dt) || !k.on) &&
        (match (d.lswCh n).testAt with | none => true | some t => decide (t + ms 10 ≤ now)) then
      (d.modLsw n (fun c => { c with testAt := some now })).lswOffFound now n mv
    else d := rfl

theorem lswOffTest_effect (s : State) (el : Nat) (c : Fin 16) (mv : BitVec 16) :
    Answers (.lswOffTest el c mv) s (fun now d e => d.driving = true → d.pwr.stage = .none →
      (d.on (LSW.OFF_DIAG_EN c.val) = false → e = d) ∧
      (∀ t, (d.lswCh c.val).testAt = some t → now < t + ms 10 → e = d) ∧
      ((d.lswCh c.val).drv = false → (d.lswCh c.val).waitFrom = none → (d.lswCh c.val).cmds = [] → d.on (LSW.OFF_DIAG_EN c.val) = true →
        (∀ t, (d.lswCh c.val).testAt = some t → t + ms 10 ≤ now) →
        (e.lswCh c.val).testAt = some now ∧
        (mv.toNat < 1000 → e.rd (LSW.DIAG_OFF c.val) = 1) ∧
        (2000 ≤ mv.toNat → mv.toNat ≤ 4000 → e.rd (LSW.DIAG_OFF c.val) = 2) ∧
        (5000 < mv.toNat → d.on (LSW.DUAL_FED c.val) = true → e.rd (LSW.DIAG_OFF c.val) = 4) ∧
        (5000 < mv.toNat → d.on (LSW.DUAL_FED c.val) = false → e.rd (LSW.DIAG_OFF c.val) = 3 ∧ e.rd (LSW.FAULT c.val) = 3))) := by
  refine answers_of_forall (f := fun now d => if d.driving && d.pwr.stage == .none then d.lswOffTest now c.val mv.toNat else d) rfl
    (fun now d hdrive hstage => ?_)
  rw [if_pos (by simp [hdrive, hstage]), Dev.lswOffTest_eq]
  refine ⟨fun hoff => if_neg (by simp [hoff]), fun t ht hearly => if_neg (by simp [ht, Nat.not_le.mpr hearly]), fun hdrv hwait hcmds hen hdue => ?_⟩
  have hdue' : (match (d.lswCh c.val).testAt with | none => true | some t => decide (t + ms 10 ≤ now)) = true := by
    split
    · rfl
    · next t ht => exact decide_eq_true (hdue t ht)
  rw [if_pos (by rw [hdue']; simp [hdrv, hwait, hcmds, hen])]
  obtain ⟨hlsw, h⟩ := (d.modLsw c.val (fun x => { x with testAt := some now })).lswOffFound_spec now c.isLt mv.toNat rfl
  refine ⟨?_, h⟩
  rw [show ∀ e : Dev, e.lsw = (d.modLsw c.val (fun x => { x with testAt := some now })).lsw →
    e.lswCh c.val = (d.modLsw c.val (fun x => { x with testAt := some now })).lswCh c.val from fun e h => congrArg (fun t => tget t c.val) h]
  · rw [Dev.lswCh_modLsw_self]
  · exact hlsw

/-- Settles O36. -/
theorem loadSwitchProtection : Obligations.LoadSwitchProtection := by
  unfold Obligations.LoadSwitchProtection
  exact fun s el c b i0 i1 i2 i3 => ⟨bankPeak_effect s el b i0 i1 i2 i3, bankOverload_effect s el b i0 i1 i2 i3, lswOverload_effect s el c,
    thermalShutdown_effect s el c, coolRestart_effect s el c, lswFltClr_effect s el c, lswOpen_effect s el c, lswScGnd_effect s el c,
    lswOffTest_effect s el c⟩

end Sys2Proof.Machine
end

section
/-! PROOFS. Twin pairing: hello, seeking, heartbeats and handover (R440 to R443, R450, R451). -/
namespace Sys2Proof.Machine

/-! ### The pairing state changes -/

/-- The registers that pairing sets beside those of a HELLO. -/
abbrev pairFields : List Field := [PAIR.HB_MISS, PAIR.SYNCED, PAIR.PAIR_STATE, PAIR.PT_OFS_LO, PAIR.PT_OFS_HI, PAIR.PT_RATE]

/-- A step of pairing: what the last HELLO left stands. -/
structure PairStep (d e : Dev) : Prop where
  regs : ∀ f : Field, f.lo < 32 → f.ofEvents = false → (∀ g ∈ pairFields, g.key ≠ f.key) → e.rd f = d.rd f
  raw : RawKept d e
  hello : e.pair.hello = d.pair.hello

theorem PairStep.refl (d : Dev) : PairStep d d := ⟨fun _ _ _ _ => rfl, RawKept.refl d, rfl⟩

theorem PairStep.trans {a b d : Dev} (h : PairStep a b) (g : PairStep b d) : PairStep a d :=
  ⟨fun f hlo hev hf => (g.regs f hlo hev hf).trans (h.regs f hlo hev hf), h.raw.trans g.raw, g.hello.trans h.hello⟩

theorem PairStep.of_regs {d e : Dev} (hregs : e.regs = d.regs) (hhello : e.pair.hello = d.pair.hello) : PairStep d e :=
  ⟨fun f _ _ _ => by simp [Dev.rd, hregs], RawKept.of_regs hregs, hhello⟩

theorem PairStep.ite {c : Prop} [Decidable c] {d x y : Dev} (hx : PairStep d x) (hy : PairStep d y) : PairStep d (if c then x else y) := by
  split
  · exact hx
  · exact hy

theorem PairStep.wr (d : Dev) {f : Field} (hf : f ∈ pairFields) (v : Nat) : PairStep d (d.wr f v) := by
  refine ⟨fun g _ _ hg => Dev.rd_wr_ne d v (hg f hf), RawKept.wr d f v ?_, rfl⟩
  simp only [List.mem_cons, List.not_mem_nil, or_false] at hf
  rcases hf with rfl | rfl | rfl | rfl | rfl | rfl <;> decide

/-- The block with pairing in state `st` from `now` on, before it shows. -/
def Dev.pairMoved (d : Dev) (now : Nat) (st : PairState) : Dev :=
  { d with
    pair := { d.pair with
      st := st
      since := now
      lastBeacon := none
      handover := none
      swapReq := false
      heard := false
      tsTx := 0
      lastOfs := none } }

/-- The block without a mirror of its partner. -/
def Dev.unmirrored (d : Dev) : Dev := { d with pair := { d.pair with mirror := none, mirrorRun := 0, syncedFrom := none } }

/-- What a change to the state `st` does to the mirror: a standby begins one, and no other state has one. -/
def Dev.mirrorFor (d : Dev) (st : PairState) : Dev := if st = .standby then d.wr PAIR.HB_MISS 0 else d.unmirrored.wr PAIR.SYNCED 0

theorem Dev.mirrorFor_spec (d : Dev) (st : PairState) {e : Dev} (he : d.mirrorFor st = e) : PairStep d e ∧ e.pair.unit = d.pair.unit ∧
    e.pair.snapWant = d.pair.snapWant ∧ e.pair.st = d.pair.st ∧ e.rd PAIR.PT_OFS_LO = d.rd PAIR.PT_OFS_LO ∧ e.rd PAIR.PT_OFS_HI = d.rd PAIR.PT_OFS_HI := by
  unfold Dev.mirrorFor at he
  have hun : PairStep d d.unmirrored := PairStep.of_regs rfl rfl
  have hparts : d.unmirrored.pair.unit = d.pair.unit ∧ d.unmirrored.pair.snapWant = d.pair.snapWant ∧ d.unmirrored.pair.st = d.pair.st ∧
      ∀ f, d.unmirrored.rd f = d.rd f := ⟨rfl, rfl, rfl, fun _ => rfl⟩
  generalize d.unmirrored = x at he hun hparts
  obtain ⟨hu, hs, ht, hrd⟩ := hparts
  split at he
  · subst e
    exact ⟨PairStep.wr d (by simp) 0, rfl, rfl, rfl, Dev.rd_wr_ne d 0 (by decide), Dev.rd_wr_ne d 0 (by decide)⟩
  · subst e
    exact ⟨hun.trans (PairStep.wr x (by simp) 0), hu, hs, ht, (Dev.rd_wr_ne x 0 (by decide)).trans (hrd _), (Dev.rd_wr_ne x 0 (by decide)).trans (hrd _)⟩

theorem Dev.setPair_of_ne {d : Dev} {st : PairState} (now : Nat) (h : d.pair.st ≠ st) : d.setPair now st =
    (((d.pairMoved now st).mirrorFor st).wr PAIR.PAIR_STATE st.code).fire now EVT.PAIR_STATE 0 st.code := by
  unfold Dev.setPair
  rw [if_neg h]
  rfl

/-- A change of the pairing state. -/
theorem Dev.setPair_spec (d : Dev) (now : Nat) (st : PairState) {e : Dev} (he : d.setPair now st = e) : e.pair.st = st ∧ PairStep d e ∧
    e.pair.unit = d.pair.unit ∧ e.pair.snapWant = d.pair.snapWant ∧
    (d.pair.st ≠ st → e.rd PAIR.PAIR_STATE = st.code ∧ e.raised EVT.PAIR_STATE 0 = true) ∧
    e.rd2 PAIR.PT_OFS_LO PAIR.PT_OFS_HI = d.rd2 PAIR.PT_OFS_LO PAIR.PT_OFS_HI := by
  by_cases h : d.pair.st = st
  · have hsame : d.setPair now st = d := if_pos h
    rw [hsame] at he
    subst e
    exact ⟨h, PairStep.refl d, rfl, rfl, fun hne => absurd h hne, rfl⟩
  · rw [Dev.setPair_of_ne now h] at he
    have hmove : PairStep d (d.pairMoved now st) := PairStep.of_regs rfl rfl
    have hunit : (d.pairMoved now st).pair.unit = d.pair.unit := rfl
    have hsnap : (d.pairMoved now st).pair.snapWant = d.pair.snapWant := rfl
    have hst : (d.pairMoved now st).pair.st = st := rfl
    have hofs : ∀ f, (d.pairMoved now st).rd f = d.rd f := fun _ => rfl
    generalize d.pairMoved now st = x at he hmove hunit hsnap hst hofs
    obtain ⟨hy, hu, hs, ht, hlo, hhi⟩ := x.mirrorFor_spec st rfl
    generalize x.mirrorFor st = y at he hy hu hs ht hlo hhi
    have hshow : (y.wr PAIR.PAIR_STATE st.code).rd PAIR.PAIR_STATE = st.code :=
      (Dev.rd_wr_self _ _ _).trans (Nat.mod_eq_of_lt (by clear * -; cases st <;> decide))
    have hz : PairStep y (y.wr PAIR.PAIR_STATE st.code) := PairStep.wr y (by simp) _
    have hzlo : (y.wr PAIR.PAIR_STATE st.code).rd PAIR.PT_OFS_LO = y.rd PAIR.PT_OFS_LO := Dev.rd_wr_ne _ _ (by decide)
    have hzhi : (y.wr PAIR.PAIR_STATE st.code).rd PAIR.PT_OFS_HI = y.rd PAIR.PT_OFS_HI := Dev.rd_wr_ne _ _ (by decide)
    have hzpair : (y.wr PAIR.PAIR_STATE st.code).pair = y.pair := rfl
    generalize y.wr PAIR.PAIR_STATE st.code = z at he hshow hz hzlo hzhi hzpair
    have hrd : ∀ f : Field, f.lo < 32 → f.ofEvents = false → e.rd f = z.rd f := fun f hlo hev => by
      rw [← he]
      exact Dev.rd_fire_of z now _ _ _ hlo hev
    have hkeep : e.pair = z.pair := by
      rw [← he]
      exact Dev.fire_pair _ _ _ _ _
    have hlast : PairStep z e := ⟨fun f hlo hev _ => hrd f hlo hev, by rw [← he]; exact fire_rawKept _ _ _ _ _, by rw [hkeep]⟩
    refine ⟨by rw [hkeep, hzpair, ht, hst], ((hmove.trans hy).trans hz).trans hlast, by rw [hkeep, hzpair, hu, hunit], by rw [hkeep, hzpair, hs, hsnap],
      fun _ => ⟨(hrd _ (by decide) (by decide)).trans hshow, ?_⟩, ?_⟩
    · rw [← he]
      exact Dev.raised_fire _ _ _ _ _ (by omega) (by decide)
    · unfold Dev.rd2
      rw [hrd _ (by decide) (by decide), hrd PAIR.PT_OFS_HI (by decide) (by decide), hzlo, hzhi, hlo, hhi, hofs, hofs]

/-! ### HELLO -/

/-- A HELLO sent, or none where the port does not carry one: only the port, its events and the time of the last one change. -/
theorem Dev.helloSend_spec (d : Dev) (now : Nat) {e : Dev} (he : d.helloSend now = e) :
    e.pair = { d.pair with helloSent := e.pair.helloSent } ∧ e = { d with pair := e.pair, ksp := e.ksp, evh := e.evh } ∧
      (d.pairLink = true → e.pair = { d.pair with helloSent := some now }) := by
  unfold Dev.helloSend at he
  by_cases hlink : d.pairLink = true
  · rw [if_pos hlink] at he
    have hsend := Dev.eq_of_sansSend (({ d with pair := { d.pair with helloSent := some now } } : Dev).sansSend_kspSend 1 3
      (wordsToBytes [0x51 + 2 ^ 8 * d.pair.unit + 2 ^ 16 * d.pair.st.code + 2 ^ 19 * b2n d.pair.pref, d.cfgCrc, d.cntVal 0 % 2 ^ 32, 1]))
    rw [he] at hsend
    have hpair : e.pair = { d.pair with helloSent := some now } := (congrArg Dev.pair hsend :)
    refine ⟨by rw [hpair], ?_, fun _ => hpair⟩
    rw [hpair]
    exact hsend
  · rw [if_neg hlink] at he
    subst e
    exact ⟨rfl, rfl, fun h => absurd h hlink⟩

theorem Dev.helloSend_step (d : Dev) (now : Nat) {e : Dev} (he : d.helloSend now = e) : PairStep d e ∧ e.pair.st = d.pair.st ∧
    ∀ f, e.rd f = d.rd f := by
  obtain ⟨hpair, hall, -⟩ := d.helloSend_spec now he
  have hregs : e.regs = d.regs := (congrArg Dev.regs hall :)
  exact ⟨PairStep.of_regs hregs (congrArg (·.hello) hpair :), (congrArg (·.st) hpair :), fun f => by simp [Dev.rd, hregs]⟩

theorem pairStep_ptFirst (d : Dev) : PairStep d d.ptFirst :=
  ((PairStep.wr d (f := PAIR.PT_OFS_LO) (by simp) _).trans (PairStep.wr _ (f := PAIR.PT_OFS_HI) (by simp) _)).trans (PairStep.wr _ (by simp) _)

theorem Dev.rd2_ptFirst (d : Dev) : d.ptFirst.rd2 PAIR.PT_OFS_LO PAIR.PT_OFS_HI = 0 := by
  have hlo : d.ptFirst.rd PAIR.PT_OFS_LO = 0 :=
    (Dev.rd_wr_ne _ _ (by decide)).trans ((Dev.rd_wr_ne _ _ (by decide)).trans ((Dev.rd_wr_self d PAIR.PT_OFS_LO _).trans (by decide)))
  have hhi : d.ptFirst.rd PAIR.PT_OFS_HI = 0 :=
    (Dev.rd_wr_ne _ _ (by decide)).trans ((Dev.rd_wr_self (d.wr PAIR.PT_OFS_LO _) PAIR.PT_OFS_HI _).trans (by decide))
  unfold Dev.rd2
  rw [hlo, hhi, Nat.mul_zero]

/-- The HELLO of the partner kept. -/
def Dev.helloKept (d : Dev) (now : Nat) (h : HelloMsg) : Dev := { d with pair := { d.pair with hello := some h, helloAt := now } }

/-- The HELLO of the partner noted, with what is wrong with it. -/
def Dev.helloNoted (d : Dev) (now : Nat) (h : HelloMsg) : Dev :=
  let d := (d.helloKept now h).wr PAIR.PARTNER_UNIT (h.unit % 2)
  let code := d.helloErr h
  let was := d.rd PAIR.PAIR_ERR
  let d := d.wr PAIR.PAIR_ERR code
  if code != 0 && code != was then d.fire now EVT.PAIR_REFUSED 0 code else d

/-- The block ready to join its partner: not aligned yet, and nothing of the map asked for. -/
def Dev.joinReady (d : Dev) : Dev := { d with pair := { d.pair with aligned := false, joinMaster := false, fetch := [] } }

/-- The module joins its partner (R448). -/
def Dev.joins (d : Dev) (now : Nat) : Dev := (d.joinReady.setPair now .joining).helloSend now

/-- What a seeking module does on a HELLO (R441). -/
def Dev.helloMeets (d : Dev) (now : Nat) (h : HelloMsg) (code : Nat) : Dev :=
  if code != 0 then d.setPair now .seek
  else if h.state = 5 || h.state = 6 then d.joins now
  else if h.state = 4 then d.setPair now .seek
  else if d.pairWins h then ((d.ptFirst.setPair now .active).helloSend now)
  else d.joins now

/-- What a module does on a HELLO, by its pairing state. -/
def Dev.helloActs (d : Dev) (now : Nat) (h : HelloMsg) (code : Nat) : Dev :=
  match d.pair.st with
  | .seek | .listen => d.helloMeets now h code
  | .joining => d
  | .active =>
    if code != 0 then d
    else if h.state = 3 || h.state = 4 then { d with pair := { d.pair with snapWant := true } }
    else if h.state ≤ 2 then (d.setPair now .alone).helloSend now
    else d
  | .alone =>
    if code != 0 then d
    else if h.state = 4 then d.setPair now .active
    else if h.state = 3 then { d with pair := { d.pair with snapWant := true } }
    else d.helloSend now
  | _ => d

theorem Dev.helloRx_eq (d : Dev) (now : Nat) (h : HelloMsg) : d.helloRx now h = (d.helloNoted now h).helloActs now h (d.helloErr h) := rfl

theorem Dev.helloErr_lt (d : Dev) (h : HelloMsg) : d.helloErr h < 8 := by
  unfold Dev.helloErr
  split
  · decide
  · split
    · decide
    · split
      · decide
      · split <;> decide

theorem Dev.helloNoted_spec (d : Dev) (now : Nat) (h : HelloMsg) {e : Dev} (he : d.helloNoted now h = e) :
    e.rd PAIR.PARTNER_UNIT = h.unit % 2 ∧ e.rd PAIR.PAIR_ERR = d.helloErr h ∧ e.pair = { d.pair with hello := some h, helloAt := now } ∧
      (d.helloErr h ≠ 0 → d.rd PAIR.PAIR_ERR ≠ d.helloErr h → e.raised EVT.PAIR_REFUSED 0 = true) := by
  unfold Dev.helloNoted at he
  extract_lets x code was y at he
  have hcode : code = d.helloErr h := rfl
  have hwas : was = d.rd PAIR.PAIR_ERR :=
    Dev.rd_wr_ne (d.helloKept now h) (f := PAIR.PARTNER_UNIT) (g := PAIR.PAIR_ERR) _ (by decide)
  have hunit : y.rd PAIR.PARTNER_UNIT = h.unit % 2 := (Dev.rd_wr_ne x code (by decide)).trans ((Dev.rd_wr_self (d.helloKept now h) PAIR.PARTNER_UNIT _).trans (Nat.mod_eq_of_lt (Nat.mod_lt _ (by decide))))
  have herr : y.rd PAIR.PAIR_ERR = d.helloErr h := (Dev.rd_wr_self x PAIR.PAIR_ERR code).trans (Nat.mod_eq_of_lt (d.helloErr_lt h))
  have hpair : y.pair = { d.pair with hello := some h, helloAt := now } := rfl
  clear_value y code was x
  subst hcode hwas
  split at he
  · subst e
    exact ⟨(Dev.rd_fire_of _ _ _ _ _ (by decide) (by decide)).trans hunit, (Dev.rd_fire_of _ _ _ _ _ (by decide) (by decide)).trans herr,
      (Dev.fire_pair _ _ _ _ _).trans hpair, fun _ _ => Dev.raised_fire _ _ _ _ _ (by omega) (by decide)⟩
  · next hnot =>
    subst e
    exact ⟨hunit, herr, hpair, fun h1 h2 => absurd (by simp [h1, Ne.symm h2]) hnot⟩

theorem Dev.joins_spec (d : Dev) (now : Nat) {e : Dev} (he : d.joins now = e) :
    e.pair.st = .joining ∧ PairStep d e ∧ (d.pair.st ≠ .joining → e.rd PAIR.PAIR_STATE = 3) := by
  have hready : PairStep d d.joinReady := PairStep.of_regs rfl rfl
  obtain ⟨hst, hstep, -, -, hshow, -⟩ := d.joinReady.setPair_spec now .joining rfl
  obtain ⟨hsend, hkeep, hrd⟩ := Dev.helloSend_step _ now he
  exact ⟨hkeep.trans hst, (hready.trans hstep).trans hsend, fun hne => (hrd _).trans (hshow hne).1⟩

theorem Dev.helloMeets_step (d : Dev) (now : Nat) (h : HelloMsg) (code : Nat) : PairStep d (d.helloMeets now h code) := by
  refine PairStep.ite (d.setPair_spec now _ rfl).2.1 (PairStep.ite (d.joins_spec now rfl).2.1 (PairStep.ite (d.setPair_spec now _ rfl).2.1
    (PairStep.ite ?_ (d.joins_spec now rfl).2.1)))
  exact ((pairStep_ptFirst d).trans (d.ptFirst.setPair_spec now _ rfl).2.1).trans (Dev.helloSend_step _ now rfl).1

theorem Dev.helloActs_step (d : Dev) (now : Nat) (h : HelloMsg) (code : Nat) : PairStep d (d.helloActs now h code) := by
  unfold Dev.helloActs
  split
  · exact d.helloMeets_step now h code
  · exact d.helloMeets_step now h code
  · exact PairStep.refl d
  · exact PairStep.ite (PairStep.refl d) (PairStep.ite (PairStep.of_regs rfl rfl)
      (PairStep.ite ((d.setPair_spec now _ rfl).2.1.trans (Dev.helloSend_step _ now rfl).1) (PairStep.refl d)))
  · exact PairStep.ite (PairStep.refl d) (PairStep.ite (d.setPair_spec now _ rfl).2.1
      (PairStep.ite (PairStep.of_regs rfl rfl) (Dev.helloSend_step _ now rfl).1))
  · exact PairStep.refl d

theorem Dev.helloActs_of_seeking {d : Dev} (now : Nat) (h : HelloMsg) (code : Nat) (hst : d.pair.st = .seek ∨ d.pair.st = .listen) :
    d.helloActs now h code = d.helloMeets now h code := by
  unfold Dev.helloActs
  rcases hst with hst | hst <;> rw [hst]

/-- A seeking module's answer to a HELLO (R441, R442). -/
theorem Dev.helloMeets_spec {d : Dev} (now : Nat) (h : HelloMsg) {code : Nat} (hst : d.pair.st = .seek ∨ d.pair.st = .listen) {e : Dev}
    (he : d.helloMeets now h code = e) :
    (code ≠ 0 → e.pair.st = .seek) ∧ (code = 0 → h.state = 5 ∨ h.state = 6 → e.pair.st = .joining ∧ e.rd PAIR.PAIR_STATE = 3) ∧
      (code = 0 → h.state ≤ 3 → d.pairWins h = true → e.pair.st = .active ∧ e.rd PAIR.PAIR_STATE = 5 ∧ e.rd2 PAIR.PT_OFS_LO PAIR.PT_OFS_HI = 0) ∧
      (code = 0 → h.state ≤ 3 → d.pairWins h = false → e.pair.st = .joining) := by
  have hnot : ∀ x : PairState, x = .active ∨ x = .joining → d.pair.st ≠ x := fun x hx => by
    rcases hst with h | h <;> rcases hx with rfl | rfl <;> simp [h]
  unfold Dev.helloMeets at he
  by_cases hcode : code = 0
  · rw [if_neg (by simp [hcode])] at he
    refine ⟨fun h0 => absurd hcode h0, fun _ hs => ?_, fun _ hs hwin => ?_, fun _ hs hlose => ?_⟩
    · rw [if_pos (by simpa using hs)] at he
      obtain ⟨h1, -, h2⟩ := d.joins_spec now he
      exact ⟨h1, h2 (hnot _ (.inr rfl))⟩
    · rw [if_neg (by simp; omega), if_neg (by omega), if_pos hwin] at he
      obtain ⟨h1, -, -, -, h2, h3⟩ := d.ptFirst.setPair_spec now .active rfl
      obtain ⟨-, hkeep, hrd⟩ := Dev.helloSend_step _ now he
      refine ⟨hkeep.trans h1, (hrd _).trans (h2 (hnot _ (.inl rfl))).1, ?_⟩
      have hrd2 : e.rd2 PAIR.PT_OFS_LO PAIR.PT_OFS_HI = (d.ptFirst.setPair now .active).rd2 PAIR.PT_OFS_LO PAIR.PT_OFS_HI := by
        unfold Dev.rd2
        rw [hrd, hrd]
      exact hrd2.trans (h3.trans d.rd2_ptFirst)
    · rw [if_neg (by simp; omega), if_neg (by omega), if_neg (by simp [hlose])] at he
      exact (d.joins_spec now he).1
  · rw [if_pos (by simp [hcode])] at he
    exact ⟨fun _ => (d.setPair_spec now .seek he).1, fun h => absurd h hcode, fun h => absurd h hcode, fun h => absurd h hcode⟩

theorem hello_effect (s : State) (el : Nat) (h : HelloMsg) :
    Answers (.hello el h) s (fun _ d e => d.alive = true → d.pairLink = true → d.pair.en = true →
      e.rd PAIR.PARTNER_UNIT = h.unit % 2 ∧ e.rd PAIR.PAIR_ERR = d.helloErr h ∧ e.pair.hello = some h ∧
      (d.helloErr h ≠ 0 → d.rd PAIR.PAIR_ERR ≠ d.helloErr h → e.raised EVT.PAIR_REFUSED 0 = true) ∧
      (d.pair.st = .seek ∨ d.pair.st = .listen →
        (d.helloErr h ≠ 0 → e.pair.st = .seek) ∧
        (d.helloErr h = 0 → h.state = 5 ∨ h.state = 6 → e.pair.st = .joining ∧ e.rd PAIR.PAIR_STATE = 3) ∧
        (d.helloErr h = 0 → h.state ≤ 3 → d.pairWins h = true → e.pair.st = .active ∧ e.rd PAIR.PAIR_STATE = 5 ∧
          e.rd2 PAIR.PT_OFS_LO PAIR.PT_OFS_HI = 0) ∧
        (d.helloErr h = 0 → h.state ≤ 3 → d.pairWins h = false → e.pair.st = .joining)) ∧
      (d.pair.st = .active → d.helloErr h = 0 →
        (h.state = 3 ∨ h.state = 4 → e.pair.st = .active ∧ e.pair.snapWant = true) ∧ (h.state ≤ 2 → e.pair.st = .alone)) ∧
      (d.pair.st = .alone → d.helloErr h = 0 → h.state = 4 → e.pair.st = .active)) := by
  refine answers_of_forall (f := fun now d => if d.alive && d.pairLink && d.pair.en then d.helloRx now h else d) rfl
    (fun now d halive hlink hen => ?_)
  rw [if_pos (by simp [halive, hlink, hen]), Dev.helloRx_eq]
  obtain ⟨hunit, herr, hpair, hraised⟩ := d.helloNoted_spec now h rfl
  generalize d.helloErr h = code at herr hraised
  generalize d.helloNoted now h = x at hunit herr hpair hraised
  have hst : x.pair.st = d.pair.st := (congrArg (·.st) hpair :)
  have hwins : x.pairWins h = d.pairWins h := by
    unfold Dev.pairWins
    rw [hpair]
  have hstep := x.helloActs_step now h code
  refine ⟨(hstep.regs _ (by decide) (by decide) (by decide)).trans hunit, (hstep.regs _ (by decide) (by decide) (by decide)).trans herr,
    hstep.hello.trans (congrArg (·.hello) hpair), fun h1 h2 => hstep.raw.raised (by decide) (hraised h1 h2), fun hseek => ?_, fun hact hcode => ?_,
    fun halone hcode hs => ?_⟩
  · rw [← hst] at hseek
    rw [Dev.helloActs_of_seeking now h code hseek, ← hwins]
    exact Dev.helloMeets_spec now h hseek rfl
  · have heq : x.helloActs now h code = if code != 0 then x
      else if h.state = 3 || h.state = 4 then { x with pair := { x.pair with snapWant := true } }
      else if h.state ≤ 2 then (x.setPair now .alone).helloSend now
      else x := by
      unfold Dev.helloActs
      rw [hst.trans hact]
    rw [heq, if_neg (by simp [hcode])]
    refine ⟨fun hs => ?_, fun hs => ?_⟩
    · rw [if_pos (by simpa using hs)]
      exact ⟨hst.trans hact, rfl⟩
    · rw [if_neg (by simp; omega), if_pos hs]
      exact (Dev.helloSend_step _ now rfl).2.1.trans (x.setPair_spec now .alone rfl).1
  · have heq : x.helloActs now h code = if code != 0 then x
      else if h.state = 4 then x.setPair now .active
      else if h.state = 3 then { x with pair := { x.pair with snapWant := true } }
      else x.helloSend now := by
      unfold Dev.helloActs
      rw [hst.trans halone]
    rw [heq, if_neg (by simp [hcode]), if_pos hs]
    exact (x.setPair_spec now .active rfl).1

theorem helloSend_effect (s : State) (el : Nat) :
    Answers (.helloSend el) s (fun now d e => d.alive = true →
      (d.helloDue now = true → d.pairLink = true → e.pair = { d.pair with helloSent := some now } ∧
        e = { d with pair := e.pair, ksp := e.ksp, evh := e.evh }) ∧
      (d.helloDue now = false ∨ d.pairLink = false → e = d)) := by
  refine answers_of_forall (f := fun now d => if d.alive && d.helloDue now then d.helloSend now else d) rfl
    (fun now d halive => ⟨fun hdue hlink => ?_, fun hnot => ?_⟩)
  · rw [if_pos (by simp [halive, hdue])]
    obtain ⟨-, hall, hpair⟩ := d.helloSend_spec now rfl
    exact ⟨hpair hlink, hall⟩
  · rcases hnot with h | h
    · exact if_neg (by simp [h])
    · have hsame : d.helloSend now = d := if_neg (by simp [h])
      rw [hsame, ite_self]

/-! ### Waiting for a partner -/

theorem pairWaitExpiry_effect (s : State) (el : Nat) :
    Answers (.pairWaitExpiry el) s (fun now d e => d.alive = true → d.pair.st = .seek →
      let at_ := d.pair.since + ms (max 100 (d.rd PAIR.PAIR_WAIT))
      (at_ ≤ now → d.pairLink = false ∨ d.pair.hello = none → e.pair.st = .listen ∧ e.rd PAIR.PAIR_STATE = 2 ∧
        e.raised EVT.PAIR_STATE 0 = true) ∧
      (now < at_ ∨ (d.pairLink = true ∧ d.pair.hello ≠ none) → e = d)) := by
  refine answers_of_forall (f := fun now d => if d.alive then d.pairWait now else d) rfl (fun now d halive hst => ?_)
  intro at_
  rw [if_pos halive]
  unfold Dev.pairWait
  refine ⟨fun hdue hnone => ?_, fun hnot => if_neg ?_⟩
  · have hno : (d.pairLink && d.pair.hello.isSome) = false := by
      rcases hnone with h | h <;> simp [h]
    rw [if_pos (by rw [hno]; simp [hst, show d.pair.since + ms (max 100 (d.rd PAIR.PAIR_WAIT)) ≤ now from hdue])]
    obtain ⟨h1, -, -, -, h2, -⟩ := d.setPair_spec now .listen rfl
    obtain ⟨h3, h4⟩ := h2 (by rw [hst]; decide)
    exact ⟨h1, h3, h4⟩
  · rcases hnot with h | ⟨h1, h2⟩
    · simp [Nat.not_le.mpr (show now < d.pair.since + ms (max 100 (d.rd PAIR.PAIR_WAIT)) from h)]
    · simp [h1, Option.isSome_iff_ne_none.mpr h2]

theorem beaconListenExpiry_effect (s : State) (el : Nat) :
    Answers (.beaconListenExpiry el) s (fun now d e => d.alive = true → d.pair.st = .listen →
      let t := ms (max 20 (d.rd PAIR.BEACON_LISTEN))
      (d.pair.since + t ≤ now → (∀ x, d.pair.lastBeacon = some x → x + t ≤ now) → e.pair.st = .alone ∧ e.rd PAIR.PAIR_STATE = 6 ∧
        e.raised EVT.PAIR_STATE 0 = true) ∧
      (now < d.pair.since + t → e = d) ∧ (∀ x, d.pair.lastBeacon = some x → now < x + t → e = d)) := by
  refine answers_of_forall (f := fun now d => if d.alive then d.beaconListen now else d) rfl (fun now d halive hst => ?_)
  rw [if_pos halive]
  unfold Dev.beaconListen
  dsimp only
  generalize ms (max 20 (d.rd PAIR.BEACON_LISTEN)) = t
  refine ⟨fun hdue hquiet => ?_, fun hearly => if_neg (by simp [Nat.not_le.mpr hearly]), fun x hx hearly => if_neg (by simp [hx, Nat.not_le.mpr hearly])⟩
  have hq : (match d.pair.lastBeacon with | some x => decide (x + t ≤ now) | none => true) = true := by
    cases hb : d.pair.lastBeacon with
    | none => rfl
    | some x => exact decide_eq_true (hquiet x hb)
  rw [if_pos (by rw [Bool.and_eq_true, Bool.and_eq_true]; exact ⟨⟨decide_eq_true hst, decide_eq_true hdue⟩, hq⟩)]
  obtain ⟨h1, -, -, -, h2, -⟩ := d.ptFirst.setPair_spec now .alone rfl
  obtain ⟨h3, h4⟩ := h2 (by rw [show d.ptFirst.pair.st = d.pair.st from rfl, hst]; decide)
  exact ⟨h1, h3, h4⟩

theorem EVT.pairDual_bit (b : Fin 4) : (evtPage EVT.PAIR_DUAL b.val).2 < 32 := by decide +revert

theorem beaconRx_effect (s : State) (el : Nat) (b : Fin 4) (u : Fin 2) :
    Answers (.beaconRx el b u) s (fun now d e => d.vnpHears b.val = true →
      (d.pair.st = .listen → e = { d with pair := { d.pair with lastBeacon := some now } }) ∧
      (d.pair.st = .active ∨ d.pair.st = .alone →
        (u.val = d.pair.unit → e = d) ∧
        (u.val ≠ d.pair.unit → e.raised EVT.PAIR_DUAL b.val = true ∧ (d.pair.unit = 1 → e.pair.st = .seek) ∧
          (d.pair.unit ≠ 1 → e.pair = d.pair)))) := by
  refine answers_of_forall (f := fun now d => if d.vnpHears b.val then d.beaconRx now b.val u.val else d) rfl
    (fun now d hears => ?_)
  rw [if_pos hears]
  refine ⟨fun hst => ?_, fun hst => ?_⟩
  · unfold Dev.beaconRx
    rw [hst]
  · have heq : d.beaconRx now b.val u.val = if u.val = d.pair.unit then d
      else
        let d := d.fire now EVT.PAIR_DUAL b.val 0
        if d.pair.unit = 1 then d.setPair now .seek else d := by
      unfold Dev.beaconRx
      rcases hst with h | h <;> rw [h]
    rw [heq]
    refine ⟨fun hsame => if_pos hsame, fun hother => ?_⟩
    rw [if_neg hother]
    have hraised : (d.fire now EVT.PAIR_DUAL b.val 0).raised EVT.PAIR_DUAL b.val = true := Dev.raised_fire _ _ _ _ _ (by omega) (EVT.pairDual_bit b)
    have hpair : (d.fire now EVT.PAIR_DUAL b.val 0).pair = d.pair := Dev.fire_pair _ _ _ _ _
    dsimp only
    rw [hpair]
    generalize d.fire now EVT.PAIR_DUAL b.val 0 = x at hraised hpair
    by_cases hunit : d.pair.unit = 1
    · rw [if_pos hunit]
      obtain ⟨h1, h2, -⟩ := x.setPair_spec now .seek rfl
      exact ⟨h2.raw.raised (EVT.pairDual_bit b) hraised, fun _ => h1, fun h => absurd hunit h⟩
    · rw [if_neg hunit]
      exact ⟨hraised, fun h => absurd h hunit, fun _ => hpair⟩

/-! ### Heartbeats and handover -/

theorem heartbeatEdge_effect (s : State) (el held : Nat) :
    Answers (.heartbeatEdge el held) s (fun now d e => d.alive = true →
      (d.pair.en = false ∨ held < us 1 → e = d) ∧
      (d.pair.en = true → us 1 ≤ held → d.edgePassed now = false → e = { d with pair := { d.pair with hbPin := true, heard := true } }) ∧
      (d.pair.en = true → us 1 ≤ held → d.edgePassed now = true → e = { d with pair := { d.pair with hbPinNew := true, heard := true } })) := by
  refine answers_of_forall (f := fun now d => if d.alive then d.heartbeat now held else d) rfl (fun now d halive => ?_)
  rw [if_pos halive]
  unfold Dev.heartbeat
  refine ⟨fun hnot => if_neg ?_, fun hen hheld hedge => ?_, fun hen hheld hedge => ?_⟩
  · rcases hnot with h | h
    · simp [h]
    · simp [Nat.not_le.mpr h]
  · rw [if_pos (by simp [hen, hheld]), if_neg (by simp [hedge])]
  · rw [if_pos (by simp [hen, hheld]), if_pos hedge]

theorem Dev.handoverStart_of_ready {d : Dev} (k : Nat) (hst : d.pair.st = .active) (hnone : d.pair.handover = none) (hok : d.handoverOk = true) :
    d.handoverStart k = { d with pair := { d.pair with handover := some (k + 8, true) } } := if_pos (by simp [hst, hnone, hok])

theorem roleSwap_effect (s : State) (el : Nat) (byPartner : Bool) :
    Answers (.roleSwap el byPartner) s (fun now d e => d.alive = true → byPartner = true ∨ d.hif.inService = true →
      (d.pair.st = .standby → e = { d with pair := { d.pair with swapReq := true } }) ∧
      (d.pair.st = .active → d.pair.handover = none → d.handoverOk = true →
        e = { d with pair := { d.pair with handover := some (d.tickCnt now + 8, true) } }) ∧
      (d.pair.st = .active → d.pair.handover ≠ none ∨ d.handoverOk = false → e = d)) := by
  refine answers_of_forall (f := fun now d => if d.alive && (byPartner || d.hif.inService) then d.roleSwap now else d) rfl
    (fun now d halive hby => ?_)
  rw [if_pos (by simpa [halive] using hby)]
  have hactive : d.pair.st = .active → d.roleSwap now = d.handoverStart (d.tickCnt now) := fun hst => if_neg (by simp [hst])
  refine ⟨fun hst => if_pos hst, fun hst hnone hok => ?_, fun hst hnot => ?_⟩
  · rw [hactive hst, Dev.handoverStart_of_ready _ hst hnone hok]
  · rw [hactive hst]
    refine if_neg ?_
    rcases hnot with h | h
    · simp [h]
    · simp [h]

theorem returnHoldExpiry_effect (s : State) (el : Nat) (byPartner : Bool) :
    Answers (.returnHoldExpiry el byPartner) s (fun now d e => d.alive = true →
      (byPartner = true → d.pair.st = .active → d.pair.handover = none → d.handoverOk = true →
        e = { d with pair := { d.pair with handover := some (d.tickCnt now + 8, true) } }) ∧
      (byPartner = false → d.pair.st = .standby → d.pair.pref = true → d.on PAIR.RETURN_EN = true → ∀ t, d.pair.syncedFrom = some t →
        (t + sec (max 1 (d.rd PAIR.RETURN_HOLD)) ≤ now → e = { d with pair := { d.pair with swapReq := true } }) ∧
        (now < t + sec (max 1 (d.rd PAIR.RETURN_HOLD)) → e = d))) := by
  refine answers_of_forall (f := fun now d => if d.alive then (if byPartner then d.handoverStart (d.tickCnt now) else d.returnHold now) else d) rfl
    (fun now d halive => ?_)
  rw [if_pos halive]
  refine ⟨fun hby hst hnone hok => ?_, fun hby hst hpref hen t ht => ?_⟩
  · rw [if_pos hby, Dev.handoverStart_of_ready _ hst hnone hok]
  · have heq : d.returnHold now =
        if d.pair.st = .standby && d.pair.pref && d.on PAIR.RETURN_EN && decide (t + sec (max 1 (d.rd PAIR.RETURN_HOLD)) ≤ now) then
          { d with pair := { d.pair with swapReq := true } }
        else d := by
      unfold Dev.returnHold
      rw [ht]
    rw [if_neg (by simp [hby]), heq]
    exact ⟨fun hdue => if_pos (by simp [hst, hpref, hen, hdue]), fun hearly => if_neg (by simp [Nat.not_le.mpr hearly])⟩

/-- Settles O48. -/
theorem pairingRoles : Obligations.PairingRoles := by
  unfold Obligations.PairingRoles
  exact fun s el => ⟨hello_effect s el, helloSend_effect s el, pairWaitExpiry_effect s el, beaconListenExpiry_effect s el, beaconRx_effect s el,
    heartbeatEdge_effect s el, fun byPartner => ⟨roleSwap_effect s el byPartner, returnHoldExpiry_effect s el byPartner⟩⟩

end Sys2Proof.Machine
end

section
/-! PROOFS. Pair time, the mirror and the tile requests of the partner (R445, R447 to R449). -/
namespace Sys2Proof.Machine

/-! ### Pair time -/

theorem rd2_wr2 (d : Dev) {lo hi : Field} {v : Nat} (hlo : lo.width = 32) (hhi : hi.width = 32) (hne : hi.key ≠ lo.key) (hv : v < 2 ^ 64) :
    (d.wr2 lo hi v).rd2 lo hi = v := by
  have h1 : (d.wr2 lo hi v).rd lo = v % 2 ^ 32 := by
    refine (Dev.rd_wr_ne _ _ hne).trans ((Dev.rd_wr_self _ _ _).trans ?_)
    rw [hlo]
    exact Nat.mod_mod _ _
  have h2 : (d.wr2 lo hi v).rd hi = v / 2 ^ 32 := by
    refine (Dev.rd_wr_self _ _ _).trans ?_
    rw [hhi]
    exact Nat.mod_eq_of_lt (by omega)
  unfold Dev.rd2
  rw [h1, h2]
  omega

theorem ofS_lt_two_pow (w : Nat) (i : Int) : ofS w i < 2 ^ w := by
  have hpos : (0 : Int) < 2 ^ w := by positivity
  have h1 := Int.emod_nonneg i hpos.ne'
  have h2 := Int.emod_lt_of_pos i hpos
  unfold ofS
  zify
  omega

/-- The times of a TIMESYNC received. -/
def Dev.timesyncHeard (d : Dev) (now tx : Nat) : Dev := { d with pair := { d.pair with tsRxTx := tx, tsRxAt := nsOf now } }

/-- The pair time follows an echoed TIMESYNC (R445). -/
def Dev.timesyncTaken (d : Dev) (now : Nat) (t4 ofs : Int) : Dev :=
  let rate : Int := match d.pair.lastOfs with
    | some (t, o) => if t < nsOf now then clampS 32 ((ofs - o) * 1000000000000 / ((nsOf now - t : Nat) : Int)) else d.rdS PAIR.PT_RATE
    | none => 0
  let d := { d with pair := { d.pair with lastOfs := some (nsOf now, ofs) } }
  let d := (d.wrS PAIR.PT_RATE rate).setPtOfs (ofs - t4 * rate / 1000000000000)
  if d.pair.aligned && d.sys.gridOn then d.gridToPt else d

theorem Dev.timesync_eq (d : Dev) (now tx eTx eRx : Nat) : d.timesync now tx eTx eRx =
    if !(d.pair.st == .seek || d.pair.st == .listen || d.pair.st == .joining || d.pair.st == .standby) || eTx = 0 || eTx != d.pair.tsTx then
      d.timesyncHeard now tx
    else (d.timesyncHeard now tx).timesyncTaken now (nsOf now) ((((eRx : Int) - eTx) - ((nsOf now : Int) - tx)) / 2) := rfl

theorem Dev.timesyncTaken_spec (d : Dev) (now : Nat) (t4 ofs : Int) {e : Dev} (he : d.timesyncTaken now t4 ofs = e) :
    e.pair = { d.pair with lastOfs := some (nsOf now, ofs) } ∧
      (d.pair.lastOfs = none → e.rd PAIR.PT_RATE = 0 ∧ e.rd2 PAIR.PT_OFS_LO PAIR.PT_OFS_HI = ofS 64 ofs) := by
  unfold Dev.timesyncTaken at he
  extract_lets rate _ x y at he
  have hpair : y.pair = { d.pair with lastOfs := some (nsOf now, ofs) } := rfl
  have hgrid : ∀ z : Dev, z.gridToPt.pair = z.pair ∧ ∀ f, z.gridToPt.rd f = z.rd f := fun z => ⟨rfl, fun _ => rfl⟩
  have hlast : e.pair = y.pair ∧ ∀ f, e.rd f = y.rd f := by
    rw [← he]
    split
    · exact hgrid y
    · exact ⟨rfl, fun _ => rfl⟩
  obtain ⟨hkeep, hrd⟩ := hlast
  refine ⟨hkeep.trans hpair, fun hnone => ?_⟩
  have hrate : rate = 0 := by
    unfold rate
    rw [hnone]
  have h1 : y.rd PAIR.PT_RATE = 0 := by
    refine (Dev.rd_wr_ne _ _ (by decide)).trans ((Dev.rd_wr_ne _ _ (by decide)).trans ((Dev.rd_wr_self x PAIR.PT_RATE _).trans ?_))
    rw [hrate]
    decide
  have h2 : y.rd2 PAIR.PT_OFS_LO PAIR.PT_OFS_HI = ofS 64 ofs := by
    refine (rd2_wr2 (x.wrS PAIR.PT_RATE rate) rfl rfl (by decide) (ofS_lt_two_pow 64 _)).trans ?_
    rw [hrate]
    simp
  refine ⟨(hrd _).trans h1, ?_⟩
  unfold Dev.rd2 at h2 ⊢
  rw [hrd, hrd]
  exact h2

theorem timesyncRx_effect (s : State) (el : Nat) (tx eTx eRx : BitVec 64) :
    Answers (.timesyncRx el tx eTx eRx) s (fun now d e => d.alive = true → d.pairLink = true → d.pair.en = true →
      e.pair.tsRxTx = tx.toNat ∧ e.pair.tsRxAt = nsOf now ∧
      (d.pair.st = .active ∨ d.pair.st = .alone ∨ eTx.toNat = 0 ∨ eTx.toNat ≠ d.pair.tsTx →
        e = { d with pair := { d.pair with tsRxTx := tx.toNat, tsRxAt := nsOf now } }) ∧
      (d.pair.st = .seek ∨ d.pair.st = .listen ∨ d.pair.st = .joining ∨ d.pair.st = .standby → eTx.toNat ≠ 0 → eTx.toNat = d.pair.tsTx →
        let ofs : Int := (((eRx.toNat : Int) - eTx.toNat) - ((nsOf now : Int) - tx.toNat)) / 2
        e.pair.lastOfs = some (nsOf now, ofs) ∧
        (d.pair.lastOfs = none → e.rd PAIR.PT_RATE = 0 ∧ e.rd2 PAIR.PT_OFS_LO PAIR.PT_OFS_HI = ofS 64 ofs))) := by
  refine answers_of_forall (f := fun now d => if d.alive && d.pairLink && d.pair.en then d.timesync now tx.toNat eTx.toNat eRx.toNat else d) rfl
    (fun now d halive hlink hen => ?_)
  rw [if_pos (by simp [halive, hlink, hen]), Dev.timesync_eq]
  have hheard : (d.timesyncHeard now tx.toNat).pair = { d.pair with tsRxTx := tx.toNat, tsRxAt := nsOf now } := rfl
  obtain ⟨hpair, hofs⟩ := (d.timesyncHeard now tx.toNat).timesyncTaken_spec now (nsOf now)
    ((((eRx.toNat : Int) - eTx.toNat) - ((nsOf now : Int) - tx.toNat)) / 2) rfl
  have hboth : ∀ (c : Prop) [Decidable c] (x y : Dev), (x.pair.tsRxTx = tx.toNat ∧ x.pair.tsRxAt = nsOf now) →
      (y.pair.tsRxTx = tx.toNat ∧ y.pair.tsRxAt = nsOf now) →
      (if c then x else y).pair.tsRxTx = tx.toNat ∧ (if c then x else y).pair.tsRxAt = nsOf now := fun c _ x y hx hy => by
    split
    · exact hx
    · exact hy
  obtain ⟨h1, h2⟩ := hboth (!(d.pair.st == .seek || d.pair.st == .listen || d.pair.st == .joining || d.pair.st == .standby) || eTx.toNat = 0 ||
    eTx.toNat != d.pair.tsTx) (d.timesyncHeard now tx.toNat) _ ⟨rfl, rfl⟩ ⟨(congrArg (·.tsRxTx) hpair :), (congrArg (·.tsRxAt) hpair :)⟩
  refine ⟨h1, h2, fun hnot => if_pos ?_, fun hst hne heq => ?_⟩
  · rcases hnot with h | h | h | h
    · simp [h]
    · simp [h]
    · simp [h]
    · simp [h]
  · rw [if_neg (by rcases hst with h | h | h | h <;> simp [h, hne, ← heq])]
    exact ⟨(congrArg (·.lastOfs) hpair :), hofs⟩

/-! ### What the sections of a MIRROR message leave -/

/-- What the sections of a MIRROR message leave of the pair. -/
def Dev.mirrorHeld (d : Dev) : Bool × Nat × Nat × Option (Nat × Bool) := (d.pair.heard, d.pair.mirrorAt, d.pair.mirrorRun, d.pair.handover)

/-- An operation of the mirror's sections: every register but the word of PAIR_STATE and SYNCED may change. -/
abbrev MirrorTouch (d e : Dev) : Prop := Touches [(0, 0x07204C), (0x072050, 0x080000)] Dev.mirrorHeld d e

theorem TileTouch.mirror {d e : Dev} (h : TileTouch d e) : MirrorTouch d e := h.mono (by decide) (fun hk => (congrArg Dev.mirrorHeld hk :))

theorem mirrorTouch_mirrorPaint (d : Dev) (l : List Nat) : MirrorTouch d (d.mirrorPaint l) := Touches.opt (Touches.of_regs rfl rfl)

theorem mirrorTouch_mirrorConf (d : Dev) (n : Nat) (isOpen : Bool) (t : Option Nat) : MirrorTouch d (d.mirrorConf n isOpen t) := by
  unfold Dev.mirrorConf
  split
  · exact Touches.opt (mirrorTouch_mirrorPaint d _)
  · exact Touches.refl d

theorem mirrorTouch_pushEdge (d : Dev) (n : Nat) (isOpen : Bool) (t : Nat) : MirrorTouch d (d.pushEdge n isOpen t) := by
  have hconf : MirrorTouch d (if d.rd (PD.BIND_KIND n) == 2 then d.mirrorConf n isOpen (some t) else d) := Touches.opt (mirrorTouch_mirrorConf d _ _ _)
  exact hconf.trans (Touches.of_regs rfl rfl)

theorem mirrorTouch_confirmOpen (d : Dev) (n start : Nat) (t : Option Nat) : MirrorTouch d (d.confirmOpen n start t) := by
  unfold Dev.confirmOpen
  split
  · exact Touches.refl d
  · cases t with
    | none =>
      have h : ∀ sel, MirrorTouch d (d.resolveEdges n sel (d.unconfirmed n)) := fun sel => Touches.of_regs rfl rfl
      exact (h _).trans (Touches.bump _ COV.CONF_NONE (by decide) (by rfl))
    | some t => exact Touches.of_regs rfl rfl

theorem tileTouch_askHome (d : Dev) (now i : Nat) : TileTouch d (d.askHome now i) :=
  Touches.ite (fun _ => tileTouch_sendReq d now i 0) (fun _ => tileTouch_setSlot d i _)

theorem mirrorTouch_wr (d : Dev) (f : Field) (v : Nat) (hf : f.writable [(0, 0x07204C), (0x072050, 0x080000)] = true) : MirrorTouch d (d.wr f v) :=
  Touches.wr d f v hf (by rfl)

theorem mirrorTouch_storeBack (d : Dev) (now : Nat) : MirrorTouch d (d.storeBack now) := by
  unfold Dev.storeBack
  extract_lets d1 _ d2 d3
  have h2 : MirrorTouch d d2 := (mirrorTouch_wr d TPL.STORE_OK 1 (by decide)).trans (Touches.of_regs rfl rfl)
  have h3 : MirrorTouch d2 d3 := Touches.each _ _ (fun x y _ => by
    split
    · exact Touches.ite (fun _ => (tileTouch_sendPut _ _ _ _ _).mirror) (fun _ => (tileTouch_sendReq _ _ _ _).mirror)
    · exact Touches.refl x) d2
  exact (h2.trans h3).trans (Touches.each _ _ (fun x y _ => Touches.opt (tileTouch_askHome x now y.1).mirror) d3)

theorem mirrorTouch_closeWithoutStore (d : Dev) : MirrorTouch d d.closeWithoutStore := by
  unfold Dev.closeWithoutStore
  extract_lets lost d1
  have h1 : MirrorTouch d d1 := Touches.each _ _ (fun x y _ => Touches.ite
    (fun _ => (tileTouch_setSlot x y.1 {}).mirror.trans (Touches.bump _ COV.TILES_DISCARDED (by decide) (by rfl)))
    (fun _ => Touches.opt (tileTouch_setSlot x y.1 {}).mirror)) d
  exact (h1.trans (mirrorTouch_wr _ COV.PAINT_LOST _ (by decide))).trans (tileTouch_setJournal _ _).mirror

theorem mirrorTouch_selectStore (d : Dev) (now : Nat) : MirrorTouch d (d.selectStore now) := by
  unfold Dev.selectStore
  extract_lets new old _ _ d1 d2 _ d3
  have h1 : MirrorTouch d d1 := (mirrorTouch_wr d TPL.STORE_ACT new (by decide)).trans (Touches.of_regs rfl rfl)
  clear_value d1
  have h3 : MirrorTouch d1 d3 := (mirrorTouch_wr d1 TPL.STORE_OK 0 (by decide)).trans (Touches.of_regs rfl rfl)
  clear_value d3
  refine h1.trans (Touches.ite (fun _ => h3.trans (Touches.ite (fun _ => mirrorTouch_closeWithoutStore d3) (fun _ => ?_)))
    (fun _ => Touches.opt (mirrorTouch_storeBack d1 now)))
  exact Touches.each _ _ (fun x y _ => Touches.ite (fun _ => (tileTouch_setSlot x _ _).mirror)
    (fun _ => Touches.ite (fun _ => (tileTouch_setSlot x _ _).mirror) (fun _ => (tileTouch_setSlot x _ _).mirror))) d3

theorem mirrorTouch_fieldBegin (d : Dev) (now : Nat) : MirrorTouch d (d.fieldBegin now) := by
  unfold Dev.fieldBegin
  extract_lets d1 pts _ _ d2
  have h1 : MirrorTouch d d1 := (((mirrorTouch_wr d COV.MISS_CNT 0 (by decide)).trans (mirrorTouch_wr _ COV.CONF_TIMEOUTS 0 (by decide))).trans
    (mirrorTouch_wr _ COV.CONF_NONE 0 (by decide))).trans (mirrorTouch_wr _ COV.JNL_MAX 0 (by decide))
  clear_value d1
  have h2 : MirrorTouch d1 d2 := Touches.of_regs rfl rfl
  exact (h1.trans h2).trans (mirrorTouch_selectStore d2 now)

theorem mirrorTouch_mirrorFieldIn (d : Dev) (now : Nat) (ws : List Nat) : MirrorTouch d (d.mirrorFieldIn now ws) := by
  unfold Dev.mirrorFieldIn
  split
  · extract_lets was d1
    have h1 : MirrorTouch d d1 := ((mirrorTouch_wr d COV.FIELD_STATE _ (by decide)).trans (mirrorTouch_wr _ COV.CELL_SIZE_ACT _ (by decide))).trans
      (mirrorTouch_wr _ COV.FIELD_ID_ACT _ (by decide))
    clear_value d1
    refine h1.trans (Touches.ite (fun _ => ?_) (fun _ => Touches.opt (mirrorTouch_fieldBegin d1 now)))
    have h2 : MirrorTouch d1 { d1 with tpl := { d1.tpl with slots := [], wanted := [], probes := [], refetch := [] } } := Touches.of_regs rfl rfl
    exact h2.trans (tileTouch_setJournal _ _).mirror
  · exact Touches.refl d

theorem mirrorTouch_mirrorNodeIn (d : Dev) (x : List Nat) : MirrorTouch d (d.mirrorNodeIn x) :=
  Touches.ite (fun _ => Touches.of_regs rfl rfl) (fun _ => Touches.of_regs rfl rfl)

theorem mirrorTouch_mirrorLatIn (d : Dev) (x : List Nat) : MirrorTouch d (d.mirrorLatIn x) := by
  unfold Dev.mirrorLatIn
  extract_lets n isOpen f cnt lf
  refine Touches.ite (fun _ => Touches.refl d) (fun _ => ?_)
  unfold Dev.setFilt Dev.mirrorLat
  dsimp only
  split
  · exact Touches.of_regs rfl rfl
  · exact Touches.of_regs rfl rfl

theorem RATE.loopDuty_writable (k : Nat) : (RATE.LOOP_DUTY (k % 8)).writable [(0, 0x07204C), (0x072050, 0x080000)] = true := by
  have hk : k % 8 < 8 := Nat.mod_lt _ (by decide)
  generalize k % 8 = n at hk
  clear * - hk
  decide +revert

theorem mirrorTouch_mirrorRateIn (d : Dev) (x : List Nat) : MirrorTouch d (d.mirrorRateIn x) :=
  (mirrorTouch_wr d _ _ (RATE.loopDuty_writable _)).trans (Touches.of_regs rfl rfl)

theorem mirrorTouch_mirrorPaintIn (d : Dev) (x : List Nat) : MirrorTouch d (d.mirrorPaintIn x) := by
  unfold Dev.mirrorPaintIn
  extract_lets n isOpen t
  refine Touches.ite (fun _ => Touches.refl d) (fun _ => Touches.ite (fun _ => mirrorTouch_pushEdge d _ _ _)
    (fun _ => Touches.ite (fun _ => mirrorTouch_confirmOpen d _ _ _) (fun _ => ?_)))
  split
  · exact Touches.of_regs rfl rfl
  · exact Touches.refl d

theorem mirrorTouch_askPartner (d : Dev) (now i : Nat) : MirrorTouch d (d.askPartner now i) := by
  have h1 := (tileTouch_newTag d).mirror.trans
    (tileTouch_setSlot d.newTag.2 i { d.slot i with req := some { tag := d.newTag.1, tries := 0, sentAt := now, isPut := false } }).mirror
  refine h1.trans ?_
  exact Touches.of_regs (congrArg Dev.regs (Dev.sansSend_kspSend _ 1 1 _) :) (congrArg Dev.mirrorHeld (Dev.sansSend_kspSend _ 1 1 _) :)

theorem mirrorTouch_mirrorTileIn (d : Dev) (now : Nat) (x : List Nat) : MirrorTouch d (d.mirrorTileIn now x) := by
  unfold Dev.mirrorTileIn
  extract_lets layer tx ty
  split
  · extract_lets same d1
    have h1 : MirrorTouch d d1 := (tileTouch_setSlot d _ _).mirror
    exact h1.trans (Touches.opt ((mirrorTouch_askPartner d1 now _).trans (mirrorTouch_wr _ PAIR.TILE_REPAIR _ (by decide))))
  · exact Touches.refl d

theorem mirrorTouch_mirrorSectsIn (d : Dev) (now : Nat) (m : MirrorMsg) : MirrorTouch d (d.mirrorSectsIn now m) := by
  unfold Dev.mirrorSectsIn
  extract_lets es d1 d2 d3 d4 d5
  have h1 : MirrorTouch d d1 := mirrorTouch_mirrorFieldIn d now _
  have h2 : MirrorTouch d1 d2 := Touches.each _ _ (fun x y _ => mirrorTouch_mirrorNodeIn x y) d1
  have h3 : MirrorTouch d2 d3 := Touches.each _ _ (fun x y _ => mirrorTouch_mirrorLatIn x y) d2
  have h4 : MirrorTouch d3 d4 := Touches.each _ _ (fun x y _ => mirrorTouch_mirrorRateIn x y) d3
  have h5 : MirrorTouch d4 d5 := Touches.each _ _ (fun x y _ => mirrorTouch_mirrorPaintIn x y) d4
  exact ((((h1.trans h2).trans h3).trans h4).trans h5).trans (Touches.each _ _ (fun x y _ => mirrorTouch_mirrorTileIn x now y) d5)

theorem MirrorTouch.synced {d e : Dev} (h : MirrorTouch d e) : e.rd PAIR.SYNCED = d.rd PAIR.SYNCED :=
  h.regs PAIR.SYNCED (by decide) (by decide) (by decide)

end Sys2Proof.Machine
end

section
/-! PROOFS. A MIRROR message taken, and the tile messages of the partner (R445, R447 to R449). -/
namespace Sys2Proof.Machine

/-! ### MIRROR messages -/

/-- A MIRROR message heard: it counts as a heartbeat. -/
def Dev.mirrorHeard (d : Dev) (now : Nat) : Dev :=
  let beat : PairBlk := if d.edgePassed now then { d.pair with hbKspNew := true } else { d.pair with hbKsp := true }
  { d with pair := { beat with heard := true, mirrorAt := now } }

/-- How many MIRROR messages in a row a standby has had with `m`. -/
def Dev.mirrorRunWith (d : Dev) (m : MirrorMsg) : Nat :=
  if (match d.pair.mirror with | some o => m.tick == (o.tick + 1) % 2 ^ 32 | none => true) then d.pair.mirrorRun + 1 else 1

/-- A standby keeps the MIRROR message `m`, and is SYNCED after 100 in a row (R447). -/
def Dev.mirrorTaken (d : Dev) (now : Nat) (m : MirrorMsg) : Dev :=
  let kept := match d.pair.mirror with | some o => o.sects.filter (fun x => x.1 == 6) | none => []
  let run := d.mirrorRunWith m
  let d := { d with
    pair := { d.pair with
      mirror := some { m with sects := kept ++ m.sects }
      mirrorRun := run
      handover := if m.handover then some (m.hoTick, false) else none } }
  if !d.on PAIR.SYNCED && 100 ≤ run then ({ d with pair := { d.pair with syncedFrom := some now } }).wr PAIR.SYNCED 1 else d

/-- What a module does with a MIRROR message, by its pairing state. -/
def Dev.mirrorActs (d : Dev) (now : Nat) (m : MirrorMsg) : Dev :=
  match d.pair.st with
  | .joining =>
    let d := if d.pair.aligned then d else d.pairAlign now m
    if mirFull m && !d.pair.joinMaster then
      (({ d with pair := { d.pair with mirror := some m } }).mirrorSectsIn now { m with sects := m.sects.filter (fun x => x.1 != 7) }).joinFetch now m
    else { d with pair := { d.pair with mirror := some { m with sects := (d.pair.mirror.map (·.sects)).getD [] } } }
  | .standby =>
    let d := (d.mirrorTaken now m).mirrorSectsIn now m
    if mirFull m then d.each ((listedTiles m).filter (fun t => (d.findSlot t.1 t.2.1 t.2.2.1).isNone)) (fun d t => d.fetchListed now t) else d
  | _ => d

theorem Dev.mirrorRx_eq (d : Dev) (now : Nat) (m : MirrorMsg) : d.mirrorRx now m = (d.mirrorHeard now).mirrorActs now m := rfl

theorem Dev.mirrorHeard_spec (d : Dev) (now : Nat) {e : Dev} (he : d.mirrorHeard now = e) :
    e = { d with pair := e.pair } ∧ e.pair.heard = true ∧ e.pair.mirrorAt = now ∧ e.pair.st = d.pair.st ∧ e.pair.mirror = d.pair.mirror ∧
      e.pair.mirrorRun = d.pair.mirrorRun ∧ e.pair.aligned = d.pair.aligned ∧ e.pair.en = d.pair.en := by
  subst e
  unfold Dev.mirrorHeard
  dsimp only
  split
  · exact ⟨rfl, rfl, rfl, rfl, rfl, rfl, rfl, rfl⟩
  · exact ⟨rfl, rfl, rfl, rfl, rfl, rfl, rfl, rfl⟩

theorem Dev.mirrorTaken_spec (d : Dev) (now : Nat) (m : MirrorMsg) {e : Dev} (he : d.mirrorTaken now m = e) :
    e.mirrorHeld = (d.pair.heard, d.pair.mirrorAt, d.mirrorRunWith m, if m.handover then some (m.hoTick, false) else none) ∧
      (100 ≤ d.mirrorRunWith m → e.on PAIR.SYNCED = true) ∧ OnlyRegs [PAIR.SYNCED] { d with pair := e.pair } e := by
  unfold Dev.mirrorTaken at he
  extract_lets kept run _ x at he
  have hx : x.mirrorHeld = (d.pair.heard, d.pair.mirrorAt, d.mirrorRunWith m, if m.handover then some (m.hoTick, false) else none) := rfl
  have hframe : OnlyRegs [PAIR.SYNCED] { d with pair := x.pair } x := OnlyRegs.refl _ x
  have hmark : ∀ y : Dev, y = { x with pair := { x.pair with syncedFrom := some now } } → y.mirrorHeld = x.mirrorHeld ∧
      OnlyRegs [PAIR.SYNCED] { d with pair := y.pair } y := fun y hy => by
    subst hy
    exact ⟨rfl, OnlyRegs.refl _ _⟩
  have hrun : run = d.mirrorRunWith m := rfl
  clear_value x run
  subst hrun
  generalize ({ x with pair := { x.pair with syncedFrom := some now } } : Dev) = y at he hmark
  obtain ⟨hy, hyframe⟩ := hmark y rfl
  split at he
  · subst e
    have hset : (y.wr PAIR.SYNCED 1).mirrorHeld = y.mirrorHeld := rfl
    have hall : OnlyRegs [PAIR.SYNCED] { d with pair := (y.wr PAIR.SYNCED 1).pair } (y.wr PAIR.SYNCED 1) := hyframe.thenWr (by simp) 1
    refine ⟨hset.trans (hy.trans hx), fun _ => ?_, hall⟩
    unfold Dev.on
    rw [Dev.rd_wr_self]
    decide
  · next hnot =>
    subst e
    refine ⟨hx, fun hrun => ?_, hframe⟩
    cases hon : x.on PAIR.SYNCED with
    | true => rfl
    | false => exact absurd (by simp [hon, hrun]) hnot

theorem Dev.mirrorActs_of_standby {d : Dev} (now : Nat) {m : MirrorMsg} (hst : d.pair.st = .standby) (hfull : mirFull m = false) :
    d.mirrorActs now m = (d.mirrorTaken now m).mirrorSectsIn now m := by
  unfold Dev.mirrorActs
  rw [hst]
  exact if_neg (by simp [hfull])

theorem Dev.mirrorActs_of_joining {d : Dev} (now : Nat) {m : MirrorMsg} (hst : d.pair.st = .joining) (halign : d.pair.aligned = false)
    (hfull : mirFull m = false) {e : Dev} (he : d.mirrorActs now m = e) :
    e.pair.aligned = true ∧ e.sys.tEpoch = d.dtOfPt m.edgePt ∧ e.sys.gridOn = true ∧ e.sys.period = periodOf m.rate := by
  unfold Dev.mirrorActs at he
  rw [hst] at he
  dsimp only at he
  have haligned : (if d.pair.aligned = true then d else d.pairAlign now m) = d.pairAlign now m := if_neg (by simp [halign])
  rw [haligned, if_neg (by simp [hfull])] at he
  subst e
  exact ⟨rfl, rfl, rfl, rfl⟩

theorem Dev.mirrorSectsIn_of_empty (d : Dev) (now : Nat) {m : MirrorMsg} (h : m.sects = []) : d.mirrorSectsIn now m = d := by
  unfold Dev.mirrorSectsIn
  simp only [mirSect, h]
  rfl

theorem Dev.mirrorSectsIn_of_node (d : Dev) (now : Nat) {m : MirrorMsg} {w u0 u1 : Nat} (h : m.sects = [(8, [w, u0, u1])]) :
    d.mirrorSectsIn now m = d.mirrorNodeIn [w, u0, u1] := by
  unfold Dev.mirrorSectsIn
  simp only [mirSect, h]
  rfl

theorem Dev.mirrorNodeIn_node (d : Dev) {w u0 u1 : Nat} (h : bitsOf w 8 2 ≠ 0) :
    ((d.mirrorNodeIn [w, u0, u1]).node (w % 4) (bitsOf w 2 6)).st = bitsOf w 8 2 ∧
      ((d.mirrorNodeIn [w, u0, u1]).node (w % 4) (bitsOf w 2 6)).uid = u0 + 2 ^ 32 * u1 := by
  unfold Dev.mirrorNodeIn
  dsimp only
  rw [if_neg (show ¬bitsOf ([w, u0, u1].getD 0 0) 8 2 = 0 from h)]
  have hnode := fun v => d.node_setNode (w % 4) (bitsOf w 2 6) v
  exact ⟨congrArg VnpNode.st (hnode _), congrArg VnpNode.uid (hnode _)⟩

theorem mirrorRx_effect (s : State) (el : Nat) (m : MirrorMsg) :
    Answers (.mirrorRx el m) s (fun now d e => d.alive = true → d.pairLink = true → d.pair.en = true →
      (d.pair.st = .active ∨ d.pair.st = .alone ∨ d.pair.st = .seek ∨ d.pair.st = .listen ∨ d.pair.st = .off →
        e = { d with pair := e.pair } ∧ e.pair.heard = true ∧ e.pair.mirrorAt = now) ∧
      (d.pair.st = .standby → mirFull m = false →
        let run := if ∀ o, d.pair.mirror = some o → m.tick = (o.tick + 1) % 2 ^ 32 then d.pair.mirrorRun + 1 else 1
        e.pair.heard = true ∧ e.pair.mirrorAt = now ∧ e.pair.mirrorRun = run ∧ (100 ≤ run → e.on PAIR.SYNCED = true) ∧
        e.pair.handover = (if m.handover then some (m.hoTick, false) else none) ∧
        (m.sects = [] → OnlyRegs [PAIR.SYNCED] { d with pair := e.pair } e) ∧
        (∀ w u0 u1, m.sects = [(8, [w, u0, u1])] → bitsOf w 8 2 ≠ 0 →
          (e.node (w % 4) (bitsOf w 2 6)).st = bitsOf w 8 2 ∧ (e.node (w % 4) (bitsOf w 2 6)).uid = u0 + 2 ^ 32 * u1)) ∧
      (d.pair.st = .joining → d.pair.aligned = false → mirFull m = false → e.pair.aligned = true ∧ e.sys.tEpoch = d.dtOfPt m.edgePt ∧
        e.sys.gridOn = true ∧ e.sys.period = periodOf m.rate)) := by
  refine answers_of_forall (f := fun now d => if d.alive && d.pairLink && d.pair.en then d.mirrorRx now m else d) rfl
    (fun now d halive hlink hen => ?_)
  rw [if_pos (by simp [halive, hlink, hen]), Dev.mirrorRx_eq]
  generalize hx : d.mirrorHeard now = x
  obtain ⟨hframe, hheard, hat, hst, hmirror, hruns, haligned, henx⟩ := d.mirrorHeard_spec now hx
  refine ⟨fun hany => ?_, fun hstand hfull => ?_, fun hjoin halign hfull => ?_⟩
  · have hidle : x.mirrorActs now m = x := by
      unfold Dev.mirrorActs
      rcases hany with h | h | h | h | h <;> rw [hst.trans h]
    rw [hidle]
    exact ⟨hframe, hheard, hat⟩
  · rw [Dev.mirrorActs_of_standby now (hst.trans hstand) hfull]
    intro run
    have hrun : x.mirrorRunWith m = run := by
      unfold Dev.mirrorRunWith run
      rw [hmirror, hruns]
      cases d.pair.mirror with
      | none => simp
      | some o => simp
    obtain ⟨hheld, hsync, honly⟩ := x.mirrorTaken_spec now m rfl
    rw [hrun, hheard, hat] at hheld
    rw [hrun] at hsync
    have htouch := mirrorTouch_mirrorSectsIn (x.mirrorTaken now m) now m
    generalize x.mirrorTaken now m = y at hheld hsync honly htouch
    have hall := htouch.rest.trans hheld
    refine ⟨(congrArg (·.1) hall :), (congrArg (·.2.1) hall :), (congrArg (·.2.2.1) hall :), fun h => (Dev.on_congr htouch.synced).trans (hsync h),
      (congrArg (·.2.2.2) hall :), fun hsects => ?_, fun w u0 u1 hsects hw => ?_⟩
    · rw [Dev.mirrorSectsIn_of_empty y now hsects]
      rw [hframe] at honly
      exact honly
    · rw [Dev.mirrorSectsIn_of_node y now hsects]
      exact y.mirrorNodeIn_node hw
  · obtain ⟨h1, h2, h3, h4⟩ := Dev.mirrorActs_of_joining now (hst.trans hjoin) (haligned.trans halign) hfull rfl
    refine ⟨h1, h2.trans ?_, h3, h4⟩
    have hregs : ∀ f, x.rd f = d.rd f := fun f => by
      rw [hframe]
      rfl
    unfold Dev.dtOfPt Dev.ptOfs Dev.rd2 Dev.rdS
    rw [henx, hregs, hregs, hregs]

theorem mirrorStale_effect (s : State) (el : Nat) :
    Answers (.mirrorStale el) s (fun now d e => d.alive = true → d.pair.st = .standby →
      let at_ := d.pair.mirrorAt + ms (max 10 (d.rd PAIR.MIRROR_STALE))
      (at_ ≤ now → d.on PAIR.SYNCED = true → e.rd PAIR.SYNCED = 0 ∧ e.pair.mirrorRun = 0 ∧ e.pair.syncedFrom = none) ∧
      (now < at_ ∨ d.on PAIR.SYNCED = false → e = d)) := by
  refine answers_of_forall (f := fun now d => if d.alive then d.mirrorStale now else d) rfl (fun now d halive hst => ?_)
  intro at_
  rw [if_pos halive]
  unfold Dev.mirrorStale
  refine ⟨fun hdue hon => ?_, fun hnot => if_neg ?_⟩
  · rw [if_pos (by simp [hst, hon, show d.pair.mirrorAt + ms (max 10 (d.rd PAIR.MIRROR_STALE)) ≤ now from hdue])]
    have hx : (({ d with pair := { d.pair with mirrorRun := 0, syncedFrom := none } } : Dev).wr PAIR.SYNCED 0).rd PAIR.SYNCED = 0 := Dev.rd_wr_self _ _ _
    have hpair : (({ d with pair := { d.pair with mirrorRun := 0, syncedFrom := none } } : Dev).wr PAIR.SYNCED 0).pair =
        { d.pair with mirrorRun := 0, syncedFrom := none } := rfl
    generalize ({ d with pair := { d.pair with mirrorRun := 0, syncedFrom := none } } : Dev).wr PAIR.SYNCED 0 = x at hx hpair
    obtain ⟨hsend, -⟩ := x.helloSend_spec now rfl
    obtain ⟨-, -, hrd⟩ := x.helloSend_step now rfl
    rw [hpair] at hsend
    exact ⟨(hrd _).trans hx, (congrArg (·.mirrorRun) hsend :), (congrArg (·.syncedFrom) hsend :)⟩
  · rcases hnot with h | h
    · simp [Nat.not_le.mpr (show now < d.pair.mirrorAt + ms (max 10 (d.rd PAIR.MIRROR_STALE)) from h)]
    · simp [h]

/-! ### Messages queued on a virtual channel -/

theorem Dev.port_modPort_self (d : Dev) (n : Nat) (f : KspPort → KspPort) : (d.modPort n f).port n = f (d.port n) := tget_tmod_self _ _ _

theorem Dev.kspPump_succ (fuel : Nat) (d : Dev) (n : Nat) : Dev.kspPump (fuel + 1) d n =
    if (d.port n).st = .up then
      (match vcOrder.find? (fun k => ((d.takeEvent n).port n).canSend k) with
      | none => d.takeEvent n
      | some k => Dev.kspPump fuel ((d.takeEvent n).modPort n (fun p => p.sendOne k)) n)
    else d := rfl

theorem Dev.takeEvent_of_none {d : Dev} (h : d.evh.queue1 = []) : d.takeEvent 1 = d := by
  unfold Dev.takeEvent
  split
  · rw [if_neg (by decide), h]
  · rfl

theorem KspPort.sendOne_replay (p : KspPort) (k : Nat) : ∃ l, (p.sendOne k).replay = p.replay ++ l := by
  unfold KspPort.sendOne
  dsimp only
  split
  · exact ⟨[], (List.append_nil _).symm⟩
  · exact ⟨_, rfl⟩

theorem Dev.takeEvent_replay (d : Dev) (n : Nat) : ((d.takeEvent n).port n).replay = (d.port n).replay := by
  unfold Dev.takeEvent
  split
  · split
    · rfl
    · unfold Dev.kspQueue
      rw [Dev.port_modPort_self]
      rfl
  · rfl

/-- What has been sent stays for replay. -/
theorem Dev.kspPump_replay (fuel : Nat) (d : Dev) (n : Nat) : ∃ l, ((Dev.kspPump fuel d n).port n).replay = (d.port n).replay ++ l := by
  induction fuel generalizing d with
  | zero => exact ⟨[], (List.append_nil _).symm⟩
  | succ fuel ih =>
    rw [Dev.kspPump_succ]
    split
    · split
      · exact ⟨[], (d.takeEvent_replay n).trans (List.append_nil _).symm⟩
      · next k _ =>
        obtain ⟨l, hl⟩ := ih ((d.takeEvent n).modPort n (fun p => p.sendOne k))
        obtain ⟨l', hl'⟩ := ((d.takeEvent n).port n).sendOne_replay k
        refine ⟨l' ++ l, hl.trans ?_⟩
        rw [Dev.port_modPort_self, hl', d.takeEvent_replay n, List.append_assoc]
    · exact ⟨[], (List.append_nil _).symm⟩

/-- A virtual channel with a message queued. -/
def KspVc.queued (v : KspVc) (bytes : List Nat) : KspVc := { v with txq := v.txq ++ [bytes] }

/-- A port with a message queued on VC1. -/
def KspPort.queued (p : KspPort) (bytes : List Nat) : KspPort := { p with vcs := tmod p.vcs 1 (fun v => v.queued bytes) }

theorem Dev.kspSend_eq (d : Dev) (bytes : List Nat) : d.kspSend 1 1 bytes = Dev.kspPump (4095 + 1) (d.modPort 1 (fun p => p.queued bytes)) 1 := rfl

theorem KspPort.vc_queued_self (p : KspPort) (bytes : List Nat) :
    tget (p.queued bytes).vcs 1 = (tget p.vcs 1 : KspVc).queued bytes := tget_tmod_self p.vcs 1 (fun v => v.queued bytes)

theorem KspPort.vc_queued_ne (p : KspPort) (bytes : List Nat) {k : Nat} (h : k ≠ 1) : (tget (p.queued bytes).vcs k : KspVc) = tget p.vcs k :=
  tget_tmod_ne p.vcs (fun v => v.queued bytes) (Ne.symm h)

theorem KspPort.canSend_of_empty {p : KspPort} {k : Nat} (h : (tget p.vcs k : KspVc).txq = []) : p.canSend k = false := by
  unfold KspPort.canSend
  dsimp only
  rw [h]

theorem KspPort.canSend_queued (p : KspPort) (bytes : List Nat) (hne : (tget p.vcs 1 : KspVc).txq ≠ []) (k : Nat) :
    (p.queued bytes).canSend k = p.canSend k := by
  by_cases hk : k = 1
  · subst hk
    unfold KspPort.canSend
    rw [KspPort.vc_queued_self]
    unfold KspVc.queued
    dsimp only
    cases hq : (tget p.vcs 1 : KspVc).txq with
    | nil => exact absurd hq hne
    | cons a l => rfl
  · unfold KspPort.canSend
    rw [KspPort.vc_queued_ne p bytes hk]
    rfl

/-- A message behind others that cannot go waits behind them. -/
theorem Dev.kspSend_waits {d : Dev} (bytes : List Nat) (hne : (tget (d.port 1).vcs 1 : KspVc).txq ≠ []) (hevt : d.evh.queue1 = [])
    (hno : ∀ k ∈ vcOrder, (d.port 1).canSend k = false) :
    (tget ((d.kspSend 1 1 bytes).port 1).vcs 1 : KspVc).txq = (tget (d.port 1).vcs 1 : KspVc).txq ++ [bytes] := by
  have hport : (d.modPort 1 (fun p => p.queued bytes)).port 1 = (d.port 1).queued bytes := d.port_modPort_self 1 _
  have hevt' : (d.modPort 1 (fun p => p.queued bytes)).evh.queue1 = [] := hevt
  rw [Dev.kspSend_eq, Dev.kspPump_succ]
  generalize d.modPort 1 (fun p => p.queued bytes) = x at hport hevt'
  have hfind : vcOrder.find? (fun k => (x.port 1).canSend k) = none := List.find?_eq_none.mpr fun k hk => by
    rw [hport, KspPort.canSend_queued _ _ hne, hno k hk]
    exact Bool.false_ne_true
  have hsame : (if (x.port 1).st = .up then
      (match vcOrder.find? (fun k => ((x.takeEvent 1).port 1).canSend k) with
      | none => x.takeEvent 1
      | some k => Dev.kspPump 4095 ((x.takeEvent 1).modPort 1 (fun p => p.sendOne k)) 1)
    else x) = x := by
    rw [Dev.takeEvent_of_none hevt', hfind]
    split <;> rfl
  rw [hsame, hport, KspPort.vc_queued_self]
  rfl

/-- The first packet of the message `bytes` on VC1 of the port. -/
def KspPort.firstPacket (p : KspPort) (bytes : List Nat) : KspPacket where
  seq := p.txSeq
  vc := 1
  som := !(tget p.vcs 1 : KspVc).midTx
  eom := (bytes.drop 1024).isEmpty
  payload := bytes.take 1024

/-- A message on an idle port with the credit for it goes at once. -/
theorem Dev.kspSend_goes {d : Dev} (bytes : List Nat) (hup : (d.port 1).st = .up) (hidle : ∀ k, (tget (d.port 1).vcs k : KspVc).txq = [])
    (hevt : d.evh.queue1 = []) (hreplay : (d.port 1).replay = [])
    (hcredit : creditUnits (min 1024 bytes.length) ≤ ((tget (d.port 1).vcs 1 : KspVc).credit + 65536 - (tget (d.port 1).vcs 1 : KspVc).sentUnits) % 65536) :
    ∃ p, ((d.kspSend 1 1 bytes).port 1).replay.head? = some p ∧ p.seq = (d.port 1).txSeq ∧ p.vc = 1 ∧ p.payload = bytes.take 1024 := by
  have hport : (d.modPort 1 (fun p => p.queued bytes)).port 1 = (d.port 1).queued bytes := d.port_modPort_self 1 _
  have hevt' : (d.modPort 1 (fun p => p.queued bytes)).evh.queue1 = [] := hevt
  rw [Dev.kspSend_eq, Dev.kspPump_succ]
  generalize d.modPort 1 (fun p => p.queued bytes) = x at hport hevt'
  have hvc : tget ((d.port 1).queued bytes).vcs 1 = { (tget (d.port 1).vcs 1 : KspVc) with txq := [bytes] } := by
    rw [KspPort.vc_queued_self, KspVc.queued, hidle 1]
    rfl
  have hempty : ∀ k, k ≠ 1 → (x.port 1).canSend k = false := fun k hk => KspPort.canSend_of_empty (by
    rw [hport, KspPort.vc_queued_ne _ _ hk]
    exact hidle k)
  have hone : (x.port 1).canSend 1 = true := by
    have hbytes : ((d.port 1).queued bytes).replayBytes = 0 := by
      unfold KspPort.replayBytes
      rw [show ((d.port 1).queued bytes).replay = (d.port 1).replay from rfl, hreplay]
      rfl
    rw [hport]
    unfold KspPort.canSend
    rw [hvc, hbytes]
    have hlen : min 1024 bytes.length ≤ 1024 := min_le_left _ _
    exact Bool.and_eq_true_iff.mpr ⟨decide_eq_true hcredit, decide_eq_true (by omega)⟩
  have hfind : vcOrder.find? (fun k => (x.port 1).canSend k) = some 1 := by
    simp only [vcOrder, List.find?_cons, hempty 3 (by decide), hempty 0 (by decide), hone]
  have hsent : ((x.port 1).sendOne 1).replay.head? = some ((d.port 1).firstPacket bytes) := by
    rw [hport]
    unfold KspPort.sendOne
    rw [hvc]
    dsimp only
    rw [show ((d.port 1).queued bytes).replay = (d.port 1).replay from rfl, hreplay]
    rfl
  obtain ⟨l, hl⟩ := Dev.kspPump_replay 4095 (x.modPort 1 (fun p => p.sendOne 1)) 1
  have hgo : (if (x.port 1).st = .up then
      (match vcOrder.find? (fun k => ((x.takeEvent 1).port 1).canSend k) with
      | none => x.takeEvent 1
      | some k => Dev.kspPump 4095 ((x.takeEvent 1).modPort 1 (fun p => p.sendOne k)) 1)
    else x) = Dev.kspPump 4095 (x.modPort 1 (fun p => p.sendOne 1)) 1 := by
    rw [if_pos (by rw [hport]; exact hup), Dev.takeEvent_of_none hevt', hfind]
  rw [hgo, hl, Dev.port_modPort_self]
  refine ⟨(d.port 1).firstPacket bytes, ?_, rfl, rfl, rfl⟩
  rw [List.head?_append, hsent]
  rfl

end Sys2Proof.Machine
end

section
/-! PROOFS. The tile requests and puts of the partner (R448, R449). -/
namespace Sys2Proof.Machine

/-- The answer to `m` with these fields is queued on VC1 of KSP1, and sent at once where the port is idle and has the credit. -/
def TileSaid (m : TileMsgIn) (d e : Dev) (type flags gen crc : Nat) (payload : List Nat) : Prop :=
  let bytes := tileMsgBytes type m.layer flags m.tx m.ty m.field gen m.tag crc payload
  let v : KspVc := tget (d.port 1).vcs 1
  (v.txq ≠ [] → d.evh.queue1 = [] → (∀ k ∈ vcOrder, (d.port 1).canSend k = false) →
    (tget (e.port 1).vcs 1).txq = v.txq ++ [bytes]) ∧
  ((∀ k, (tget (d.port 1).vcs k).txq = []) → d.evh.queue1 = [] → (d.port 1).replay = [] →
    creditUnits (min 1024 bytes.length) ≤ (v.credit + 65536 - v.sentUnits) % 65536 →
    ∃ p, (e.port 1).replay.head? = some p ∧ p.seq = (d.port 1).txSeq ∧ p.vc = 1 ∧ p.payload = bytes.take 1024)

/-- An answer after a step that leaves ports and events. -/
theorem tileSaid_tileAnswer {d x : Dev} (m : TileMsgIn) (hksp : x.ksp = d.ksp) (hevh : x.evh = d.evh) (hup : d.kspUp 1 = true)
    (type flags gen crc : Nat) (payload : List Nat) : TileSaid m d (x.tileAnswer m type flags gen crc payload) type flags gen crc payload := by
  have hport : d.port 1 = x.port 1 := by
    unfold Dev.port
    rw [hksp]
  have hst : (x.port 1).st = .up := by
    rw [← hport]
    exact eq_of_beq hup
  unfold TileSaid Dev.tileAnswer
  rw [hport, ← hevh]
  exact ⟨fun h1 h2 h3 => Dev.kspSend_waits _ h1 h2 h3, fun h1 h2 h3 h4 => Dev.kspSend_goes _ hst h1 h2 h3 h4⟩

theorem Dev.tileAnswer_frame (d : Dev) (m : TileMsgIn) (type flags gen crc : Nat) (payload : List Nat) {e : Dev}
    (he : d.tileAnswer m type flags gen crc payload = e) : e = { d with ksp := e.ksp, evh := e.evh } := by
  subst e
  exact Dev.eq_of_sansSend (d.sansSend_kspSend 1 1 _)

theorem Dev.kspUp_of_serves {d : Dev} (h : d.servesTiles = true) : d.kspUp 1 = true := by
  unfold Dev.servesTiles Dev.pairLink at h
  simp only [Bool.and_eq_true] at h
  exact h.1.2.1

/-- A put whose content is right (R448). -/
def Dev.tilePutGood (d : Dev) (now : Nat) (m : TileMsgIn) (rs : List (Nat × Nat)) : Dev :=
  match d.tileHeld m with
  | some (i, s) =>
    let d := if genNewer m.gen s.gen then d.setSlot i { s.load rs with gen := m.gen, st := .dirty, painted := true, wbAt := now } else d
    d.tileAnswer m 5 0 m.gen 0 []
  | none =>
    if m.field != d.rd COV.FIELD_ID_ACT then (if d.hasHome then d.tileForward m else d.tileAnswer m 6 0 m.gen 0 [])
    else
    match d.keepSlot m.layer with
    | some i =>
      let d := d.createTile now i m.layer m.tx m.ty .dirty
      (d.setSlot i { (d.slot i).load rs with gen := m.gen, painted := true }).tileAnswer m 5 0 m.gen 0 []
    | none => if d.hasHome then d.tileForward m else d.tileAnswer m 6 0 m.gen 0 []

theorem Dev.tilePutRx_of_none {d : Dev} (now : Nat) {m : TileMsgIn} (h : contentRuns m.layer (bitOf m.flags 0) m.payload = none) :
    d.tilePutRx now m = d.tileAnswer m 6 0 m.gen 0 [] := by
  unfold Dev.tilePutRx
  rw [h]

theorem Dev.tilePutRx_of_runs {d : Dev} (now : Nat) {m : TileMsgIn} {rs : List (Nat × Nat)}
    (h : contentRuns m.layer (bitOf m.flags 0) m.payload = some rs) :
    d.tilePutRx now m = if crc32 (runBytes m.layer rs) != m.crc then d.tileAnswer m 6 0 m.gen 0 [] else d.tilePutGood now m rs := by
  unfold Dev.tilePutRx
  rw [h]
  rfl

theorem Slot.load_names (s : Slot) (rs : List (Nat × Nat)) : (s.load rs).st = s.st ∧ (s.load rs).layer = s.layer ∧ (s.load rs).tx = s.tx ∧
    (s.load rs).ty = s.ty := by
  unfold Slot.load
  split
  · exact ⟨rfl, rfl, rfl, rfl⟩
  · exact ⟨rfl, rfl, rfl, rfl⟩

theorem Dev.tilePutGood_of_held {d : Dev} (now : Nat) {m : TileMsgIn} {rs : List (Nat × Nat)} {x : Nat × Slot} (hx : d.tileHeld m = some x)
    (hup : d.kspUp 1 = true) {e : Dev} (he : d.tilePutGood now m rs = e) :
    TileSaid m d e 5 0 m.gen 0 [] ∧ e = { d with tpl := e.tpl, ksp := e.ksp, evh := e.evh } ∧
      (genNewer m.gen x.2.gen = true → e.slot x.1 = { x.2.load rs with gen := m.gen, st := .dirty, painted := true, wbAt := now }) ∧
      (genNewer m.gen x.2.gen = false → e.tpl = d.tpl) := by
  unfold Dev.tilePutGood at he
  rw [hx] at he
  dsimp only at he
  by_cases hgen : genNewer m.gen x.2.gen = true
  · rw [if_pos hgen] at he
    have hslot := d.slot_setSlot_self x.1 (x := { x.2.load rs with gen := m.gen, st := .dirty, painted := true, wbAt := now })
      (by intro h; cases h)
    have hset : ∀ y : Slot, d.setSlot x.1 y = { d with tpl := (d.setSlot x.1 y).tpl } := fun _ => rfl
    have hset' := hset { x.2.load rs with gen := m.gen, st := .dirty, painted := true, wbAt := now }
    generalize d.setSlot x.1 { x.2.load rs with gen := m.gen, st := .dirty, painted := true, wbAt := now } = y at he hslot hset'
    have hframe := y.tileAnswer_frame m 5 0 m.gen 0 [] he
    refine ⟨?_, ?_, fun _ => ?_, fun h => absurd (hgen.symm.trans h) (by decide)⟩
    · rw [← he]
      exact tileSaid_tileAnswer m (congrArg Dev.ksp hset' :) (congrArg Dev.evh hset' :) hup 5 0 m.gen 0 []
    · have htpl : e.tpl = y.tpl := (congrArg Dev.tpl hframe :)
      rw [htpl]
      rw [hset'] at hframe
      exact hframe
    · rw [Dev.slot_congr (congrArg (fun k : Dev => k.tpl.slots) hframe :) x.1]
      exact hslot
  · rw [if_neg hgen] at he
    have hframe := d.tileAnswer_frame m 5 0 m.gen 0 [] he
    have htpl : e.tpl = d.tpl := (congrArg Dev.tpl hframe :)
    refine ⟨?_, ?_, fun h => absurd h hgen, fun _ => htpl⟩
    · rw [← he]
      exact tileSaid_tileAnswer m rfl rfl hup 5 0 m.gen 0 []
    · rw [htpl]
      exact hframe

theorem Dev.tilePutGood_of_slot {d : Dev} (now : Nat) {m : TileMsgIn} {rs : List (Nat × Nat)} (hx : d.tileHeld m = none)
    (hfield : m.field = d.rd COV.FIELD_ID_ACT) {i : Nat} (hi : d.keepSlot m.layer = some i) {e : Dev} (he : d.tilePutGood now m rs = e) :
    (e.slot i).st = .dirty ∧ (e.slot i).gen = m.gen ∧ (e.slot i).layer = m.layer ∧ (e.slot i).tx = m.tx ∧ (e.slot i).ty = m.ty := by
  unfold Dev.tilePutGood at he
  rw [hx] at he
  dsimp only at he
  rw [if_neg (by simp [hfield]), hi] at he
  dsimp only at he
  have hnew : (d.createTile now i m.layer m.tx m.ty .dirty).slot i =
      { st := .dirty, layer := m.layer, tx := m.tx, ty := m.ty, wbAt := now, provAsk := now } := d.slot_setSlot_self i (by intro h; cases h)
  generalize d.createTile now i m.layer m.tx m.ty .dirty = y at he hnew
  obtain ⟨hst, hlayer, htx, hty⟩ := (y.slot i).load_names rs
  rw [hnew] at he hst hlayer htx hty
  generalize ({ st := .dirty, layer := m.layer, tx := m.tx, ty := m.ty, wbAt := now, provAsk := now } : Slot).load rs = z at he hst hlayer htx hty
  have hslot := y.slot_setSlot_self i (x := { z with gen := m.gen, painted := true }) (by rw [hst]; intro h; cases h)
  have hframe := (y.setSlot i { z with gen := m.gen, painted := true }).tileAnswer_frame m 5 0 m.gen 0 [] he
  have hkept : e.slot i = { z with gen := m.gen, painted := true } := (Dev.slot_congr (congrArg (fun k : Dev => k.tpl.slots) hframe :) i).trans hslot
  rw [hkept]
  exact ⟨hst, rfl, hlayer, htx, hty⟩

theorem Dev.tilePutGood_of_full {d : Dev} (now : Nat) {m : TileMsgIn} (rs : List (Nat × Nat)) (hx : d.tileHeld m = none)
    (hfield : m.field = d.rd COV.FIELD_ID_ACT) (hi : d.keepSlot m.layer = none) (hhome : d.hasHome = false) :
    d.tilePutGood now m rs = d.tileAnswer m 6 0 m.gen 0 [] := by
  unfold Dev.tilePutGood
  rw [hx]
  dsimp only
  rw [if_neg (by simp [hfield]), hi]
  dsimp only
  rw [if_neg (by simp [hhome])]

theorem tilePut_effect (s : State) (el : Nat) (m : TileMsgIn) :
    Answers (.tilePut el m) s (fun now d e => d.servesTiles = true →
      let bad := contentRuns m.layer (bitOf m.flags 0) m.payload = none ∨
        ∃ rs, contentRuns m.layer (bitOf m.flags 0) m.payload = some rs ∧ crc32 (runBytes m.layer rs) ≠ m.crc
      (bad → TileSaid m d e 6 0 m.gen 0 [] ∧ e = { d with ksp := e.ksp, evh := e.evh }) ∧
      (∀ rs, contentRuns m.layer (bitOf m.flags 0) m.payload = some rs → crc32 (runBytes m.layer rs) = m.crc →
        (∀ x, d.tileHeld m = some x → TileSaid m d e 5 0 m.gen 0 [] ∧ e = { d with tpl := e.tpl, ksp := e.ksp, evh := e.evh } ∧
          (genNewer m.gen x.2.gen = true →
            e.slot x.1 = { x.2.load rs with gen := m.gen, st := .dirty, painted := true, wbAt := now }) ∧
          (genNewer m.gen x.2.gen = false → e.tpl = d.tpl)) ∧
        (d.tileHeld m = none → m.field = d.rd COV.FIELD_ID_ACT →
          (∀ i, d.keepSlot m.layer = some i → (e.slot i).st = .dirty ∧ (e.slot i).gen = m.gen ∧ (e.slot i).layer = m.layer ∧
            (e.slot i).tx = m.tx ∧ (e.slot i).ty = m.ty) ∧
          (d.keepSlot m.layer = none → d.hasHome = false → TileSaid m d e 6 0 m.gen 0 [] ∧ e.tpl = d.tpl)))) := by
  refine answers_of_forall (f := fun now d => if d.servesTiles then d.tilePutRx now m else d) rfl (fun now d hserves => ?_)
  intro bad
  rw [if_pos hserves]
  have hup := Dev.kspUp_of_serves hserves
  have hsaid : TileSaid m d (d.tileAnswer m 6 0 m.gen 0 []) 6 0 m.gen 0 [] := tileSaid_tileAnswer m rfl rfl hup 6 0 m.gen 0 []
  have hframe := d.tileAnswer_frame m 6 0 m.gen 0 [] rfl
  refine ⟨fun hbad => ?_, fun rs hrs hcrc => ?_⟩
  · have hrefused : d.tilePutRx now m = d.tileAnswer m 6 0 m.gen 0 [] := by
      rcases hbad with h | ⟨rs, h, hcrc⟩
      · exact Dev.tilePutRx_of_none now h
      · rw [Dev.tilePutRx_of_runs now h, if_pos (by simpa using hcrc)]
    rw [hrefused]
    exact ⟨hsaid, hframe⟩
  · rw [Dev.tilePutRx_of_runs now hrs, if_neg (by simp [hcrc])]
    refine ⟨fun x hx => Dev.tilePutGood_of_held now hx hup rfl, fun hnone hfield =>
      ⟨fun i hi => Dev.tilePutGood_of_slot now hnone hfield hi rfl, fun hfull hhome => ?_⟩⟩
    rw [Dev.tilePutGood_of_full now rs hnone hfield hfull hhome]
    exact ⟨hsaid, (congrArg Dev.tpl hframe :)⟩

theorem Dev.tileReqRx_of_held {d : Dev} {m : TileMsgIn} {x : Nat × Slot} (hx : d.tileHeld m = some x) : d.tileReqRx m =
    d.tileAnswer m 2 (b2n (x.2.layer == 0 && decide ((rleEncode x.2.runs).length < 32768))) x.2.gen x.2.crc
      (if (x.2.layer == 0 && decide ((rleEncode x.2.runs).length < 32768)) = true then rleEncode x.2.runs else x.2.bytes) := by
  unfold Dev.tileReqRx
  rw [hx]

theorem Dev.tileForward_spec (d : Dev) (m : TileMsgIn) : ∃ t, (d.tileForward m).pair.fwd = d.pair.fwd ++ [(t, m.tag)] ∧
    (d.tileForward m).tpl.slots = d.tpl.slots := by
  have hfwd : ∀ y : Dev, y.pair.fwd = d.pair.fwd ++ [(d.newTag.1, m.tag)] → y.tpl.slots = d.tpl.slots → ∀ bs, 
      (y.kspSend 0 1 bs).pair.fwd = d.pair.fwd ++ [(d.newTag.1, m.tag)] ∧ (y.kspSend 0 1 bs).tpl.slots = d.tpl.slots := fun y h1 h2 bs => by
    have h := y.sansSend_kspSend 0 1 bs
    exact ⟨(congrArg (fun k : Dev => k.pair.fwd) h :).trans h1, (congrArg (fun k : Dev => k.tpl.slots) h :).trans h2⟩
  exact ⟨d.newTag.1, hfwd { d.newTag.2 with pair := { d.newTag.2.pair with fwd := d.newTag.2.pair.fwd ++ [(d.newTag.1, m.tag)] } } rfl rfl _⟩

theorem tileRequestRx_effect (s : State) (el : Nat) (m : TileMsgIn) :
    Answers (.tileRequestRx el m) s (fun _ d e => d.servesTiles = true →
      (∀ x, d.tileHeld m = some x → e = { d with ksp := e.ksp, evh := e.evh } ∧
        (x.2.layer ≠ 0 → TileSaid m d e 2 0 x.2.gen x.2.crc x.2.bytes) ∧
        (x.2.layer = 0 → (rleEncode x.2.runs).length < 32768 → TileSaid m d e 2 1 x.2.gen x.2.crc (rleEncode x.2.runs)) ∧
        (x.2.layer = 0 → 32768 ≤ (rleEncode x.2.runs).length → TileSaid m d e 2 0 x.2.gen x.2.crc x.2.bytes)) ∧
      (d.tileHeld m = none → d.mirrors = true → TileSaid m d e 6 0 m.gen 0 [] ∧ e = { d with ksp := e.ksp, evh := e.evh }) ∧
      (d.tileHeld m = none → d.mirrors = false → d.hasHome = true → ∃ t, e.pair.fwd = d.pair.fwd ++ [(t, m.tag)] ∧ e.tpl.slots = d.tpl.slots) ∧
      (d.tileHeld m = none → d.mirrors = false → d.hasHome = false →
        TileSaid m d e 3 0 0 (crc32 (runBytes m.layer [(0, tileCells)])) [] ∧ e = { d with ksp := e.ksp, evh := e.evh })) := by
  refine answers_of_forall (f := fun _ d => if d.servesTiles then d.tileReqRx m else d) rfl (fun _ d hserves => ?_)
  rw [if_pos hserves]
  have hup := Dev.kspUp_of_serves hserves
  have hnone : d.tileHeld m = none → d.tileReqRx m = if d.mirrors then d.tileAnswer m 6 0 m.gen 0 []
      else if d.hasHome then d.tileForward m
      else d.tileAnswer m 3 0 0 (crc32 (runBytes m.layer [(0, tileCells)])) [] := fun h => by
    unfold Dev.tileReqRx
    rw [h]
  refine ⟨fun x hx => ?_, fun h hmir => ?_, fun h hmir hhome => ?_, fun h hmir hhome => ?_⟩
  · rw [Dev.tileReqRx_of_held hx]
    refine ⟨d.tileAnswer_frame m _ _ _ _ _ rfl, fun hlayer => ?_, fun hlayer hlen => ?_, fun hlayer hlen => ?_⟩
    · have hcomp : (x.2.layer == 0 && decide ((rleEncode x.2.runs).length < 32768)) = false := by simp [hlayer]
      rw [hcomp]
      exact tileSaid_tileAnswer m rfl rfl hup 2 0 _ _ _
    · have hcomp : (x.2.layer == 0 && decide ((rleEncode x.2.runs).length < 32768)) = true := by simp [hlayer, hlen]
      rw [hcomp]
      exact tileSaid_tileAnswer m rfl rfl hup 2 1 _ _ _
    · have hcomp : (x.2.layer == 0 && decide ((rleEncode x.2.runs).length < 32768)) = false := by simp [Nat.not_lt.mpr hlen]
      rw [hcomp]
      exact tileSaid_tileAnswer m rfl rfl hup 2 0 _ _ _
  · rw [hnone h, if_pos hmir]
    exact ⟨tileSaid_tileAnswer m rfl rfl hup 6 0 _ _ _, d.tileAnswer_frame m _ _ _ _ _ rfl⟩
  · rw [hnone h, if_neg (by simp [hmir]), if_pos hhome]
    exact d.tileForward_spec m
  · rw [hnone h, if_neg (by simp [hmir]), if_neg (by simp [hhome])]
    exact ⟨tileSaid_tileAnswer m rfl rfl hup 3 0 _ _ _, d.tileAnswer_frame m _ _ _ _ _ rfl⟩

/-- Settles O49. -/
theorem pairTimeMirrorAndTiles : Obligations.PairTimeMirrorAndTiles := by
  unfold Obligations.PairTimeMirrorAndTiles
  exact fun s el => ⟨timesyncRx_effect s el, mirrorRx_effect s el, mirrorStale_effect s el, fun m => ⟨tilePut_effect s el m, tileRequestRx_effect s el m⟩⟩

end Sys2Proof.Machine
end

section
/-! PROOFS. The stream port trains, retrains and keeps its link alive (R428 to R432, R435, R452). -/
namespace Sys2Proof.Machine

/-! ### What the tile store and the ports' queues leave of a port -/

/-- What messages sent leave of a port: all but its queues, its sequence and its replay buffer, and all but its queues where it is not up. -/
def KspPort.view (p : KspPort) : KspPort × Option KspPort :=
  ({ p with vcs := [], txSeq := 0, replay := [] }, if p.st = .up then none else some { p with vcs := [] })

/-- What the tile store's operations leave as it was. -/
def Dev.storeKeep (d : Dev) : Dev × (Nat → KspPort × Option KspPort) :=
  ({ d with regs := [], evh := {}, rec_ := {}, ksp := [], tpl := {} }, fun k => (d.port k).view)

/-- An operation of the tile store. -/
abbrev StoreTouch (d e : Dev) : Prop := Touches [(0x030000, 0x032000)] Dev.storeKeep d e

theorem Dev.port_modPort_ne (d : Dev) {n k : Nat} (f : KspPort → KspPort) (h : n ≠ k) : (d.modPort n f).port k = d.port k := tget_tmod_ne _ _ h

theorem Dev.storeKeep_modPort (d : Dev) (n : Nat) {f : KspPort → KspPort} (hf : (f (d.port n)).view = (d.port n).view) :
    (d.modPort n f).storeKeep = d.storeKeep := by
  refine Prod.ext rfl (funext fun k => ?_)
  by_cases hk : n = k
  · subst hk
    change ((d.modPort n f).port n).view = _
    rw [Dev.port_modPort_self]
    exact hf
  · change ((d.modPort n f).port k).view = _
    rw [Dev.port_modPort_ne d f hk]
    rfl

theorem KspPort.view_of_vcs (p : KspPort) (t : Tab KspVc) : ({ p with vcs := t } : KspPort).view = p.view := rfl

theorem KspPort.view_sendOne {p : KspPort} (k : Nat) (hup : p.st = .up) : (p.sendOne k).view = p.view := by
  unfold KspPort.sendOne
  dsimp only
  split
  · rfl
  · unfold KspPort.view
    dsimp only
    rw [if_pos hup, if_pos hup]

theorem Dev.storeKeep_kspQueue (d : Dev) (n vc : Nat) (bs : List Nat) : (d.kspQueue n vc bs).storeKeep = d.storeKeep :=
  d.storeKeep_modPort n (KspPort.view_of_vcs _ _)

theorem Dev.storeKeep_takeEvent (d : Dev) (n : Nat) : (d.takeEvent n).storeKeep = d.storeKeep := by
  unfold Dev.takeEvent
  split
  · split
    · rfl
    · exact (Dev.storeKeep_kspQueue _ _ _ _).trans rfl
  · rfl

theorem Dev.storeKeep_kspPump (fuel : Nat) (d : Dev) (n : Nat) : (Dev.kspPump fuel d n).storeKeep = d.storeKeep := by
  induction fuel generalizing d with
  | zero => rfl
  | succ fuel ih =>
    rw [Dev.kspPump_succ]
    split
    · next hup =>
      have htake := d.storeKeep_takeEvent n
      split
      · exact htake
      · next k _ =>
        have hst : ((d.takeEvent n).port n).st = .up :=
          (congrArg (fun x : Dev × (Nat → KspPort × Option KspPort) => (x.2 n).1.st) htake :).trans hup
        exact (ih _).trans ((Dev.storeKeep_modPort _ n (KspPort.view_sendOne k hst)).trans htake)
    · rfl

theorem storeTouch_kspPump (fuel : Nat) (d : Dev) (n : Nat) : StoreTouch d (Dev.kspPump fuel d n) :=
  Touches.of_regs (congrArg Dev.regs (Dev.sansSend_kspPump fuel d n) :) (Dev.storeKeep_kspPump fuel d n)

theorem storeTouch_kspSend (d : Dev) (n vc : Nat) (bs : List Nat) : StoreTouch d (d.kspSend n vc bs) := by
  have h : StoreTouch d (d.kspQueue n vc bs) := Touches.of_regs rfl (d.storeKeep_kspQueue n vc bs)
  exact h.trans (storeTouch_kspPump 4096 _ n)

theorem storeTouch_toStore (d : Dev) (bs : List Nat) : StoreTouch d (d.toStore bs) :=
  Touches.ite (fun _ => storeTouch_kspSend d 0 1 bs) (fun _ => Touches.opt (storeTouch_kspSend d 1 1 bs))

theorem storeTouch_setSlot (d : Dev) (i : Nat) (x : Slot) : StoreTouch d (d.setSlot i x) := Touches.of_regs rfl rfl

theorem storeTouch_tagOf (d : Dev) (i : Nat) (isPut : Bool) : StoreTouch d (d.tagOf i isPut).2 := by
  have hnew : StoreTouch d d.newTag.2 := Touches.of_regs rfl rfl
  unfold Dev.tagOf
  split
  · split
    · exact Touches.refl d
    · exact hnew
  · exact hnew

theorem storeTouch_sendReq (d : Dev) (now i tries : Nat) : StoreTouch d (d.sendReq now i tries) :=
  ((storeTouch_tagOf d i false).trans (storeTouch_setSlot _ _ _)).trans (storeTouch_toStore _ _)

theorem storeTouch_damaged (d : Dev) (now i : Nat) : StoreTouch d (d.damaged now i) :=
  (((storeTouch_setSlot d i {}).trans (Touches.bump _ COV.TILES_DISCARDED (by decide) (by rfl))).trans
    (Touches.fire _ now EVT.COV_TILE_CRC 0 0 (by intros; rfl))).trans (Touches.of_regs rfl rfl)

theorem storeTouch_sendPut (d : Dev) (now i tries : Nat) (evict : Bool) : StoreTouch d (d.sendPut now i tries evict) :=
  Touches.ite (fun _ => storeTouch_damaged d now i)
    (fun _ => ((storeTouch_tagOf d i true).trans (storeTouch_setSlot _ _ _)).trans (storeTouch_toStore _ _))

theorem storeTouch_setJournal (d : Dev) (j : List JEntry) : StoreTouch d (d.setJournal j) := by
  have h0 : StoreTouch d { d with tpl := { d.tpl with journal := j } } := Touches.of_regs rfl rfl
  have h1 : StoreTouch _ (({ d with tpl := { d.tpl with journal := j } } : Dev).wr COV.JNL_USED j.length) :=
    h0.trans (Touches.wr _ COV.JNL_USED _ (by decide) (by rfl))
  exact h1.trans (Touches.opt (Touches.wr _ COV.JNL_MAX _ (by decide) (by rfl)))

theorem storeTouch_askHome (d : Dev) (now i : Nat) : StoreTouch d (d.askHome now i) :=
  Touches.ite (fun _ => storeTouch_sendReq d now i 0) (fun _ => storeTouch_setSlot d i _)

theorem storeTouch_storeBack (d : Dev) (now : Nat) : StoreTouch d (d.storeBack now) := by
  unfold Dev.storeBack
  extract_lets d1 _ d2 d3
  have h2 : StoreTouch d d2 := (Touches.wr d TPL.STORE_OK 1 (by decide) (by rfl)).trans (Touches.of_regs rfl rfl)
  have h3 : StoreTouch d2 d3 := Touches.each _ _ (fun x y _ => by
    split
    · exact Touches.ite (fun _ => storeTouch_sendPut _ _ _ _ _) (fun _ => storeTouch_sendReq _ _ _ _)
    · exact Touches.refl x) d2
  exact (h2.trans h3).trans (Touches.each _ _ (fun x y _ => Touches.opt (storeTouch_askHome x now y.1)) d3)

theorem storeTouch_closeWithoutStore (d : Dev) : StoreTouch d d.closeWithoutStore := by
  unfold Dev.closeWithoutStore
  extract_lets lost d1
  have h1 : StoreTouch d d1 := Touches.each _ _ (fun x y _ => Touches.ite
    (fun _ => (storeTouch_setSlot x y.1 {}).trans (Touches.bump _ COV.TILES_DISCARDED (by decide) (by rfl)))
    (fun _ => Touches.opt (storeTouch_setSlot x y.1 {}))) d
  have h2 : StoreTouch d1 (d1.add COV.PAINT_LOST lost) := Touches.wr d1 COV.PAINT_LOST _ (by decide) (by rfl)
  exact (h1.trans h2).trans (storeTouch_setJournal _ _)

theorem storeTouch_selectStore (d : Dev) (now : Nat) : StoreTouch d (d.selectStore now) := by
  unfold Dev.selectStore
  extract_lets new old _ _ d1 d2 _ d3
  have h1 : StoreTouch d d1 := (Touches.wr d TPL.STORE_ACT new (by decide) (by rfl)).trans (Touches.of_regs rfl rfl)
  clear_value d1
  have h3 : StoreTouch d1 d3 := (Touches.wr d1 TPL.STORE_OK 0 (by decide) (by rfl)).trans (Touches.of_regs rfl rfl)
  clear_value d3
  refine h1.trans (Touches.ite (fun _ => h3.trans (Touches.ite (fun _ => storeTouch_closeWithoutStore d3) (fun _ => ?_)))
    (fun _ => Touches.opt (storeTouch_storeBack d1 now)))
  exact Touches.each _ _ (fun x y _ => Touches.ite (fun _ => storeTouch_setSlot x _ _)
    (fun _ => Touches.ite (fun _ => storeTouch_setSlot x _ _) (fun _ => storeTouch_setSlot x _ _))) d3

/-- A change of a link's state selects the store anew, or marks that T0 does (R109). -/
theorem storeTouch_linkChange (d : Dev) (now : Nat) : StoreTouch d (d.linkChange now) :=
  Touches.ite (fun _ => Touches.of_regs rfl rfl) (fun _ => storeTouch_selectStore d now)

theorem Dev.linkChange_of_edge {d : Dev} {now : Nat} (h : d.edgePassed now = true) : (d.linkChange now).tpl = { d.tpl with selDue := true } := by
  unfold Dev.linkChange
  rw [if_pos h]

theorem StoreTouch.port {d e : Dev} (h : StoreTouch d e) (k : Nat) : (e.port k).view = (d.port k).view :=
  congrFun (congrArg Prod.snd h.rest) k

theorem KspPort.view_idle {p q : KspPort} (h : q.view = p.view) (hst : p.st ≠ .up) : q = { p with vcs := q.vcs } := by
  have hcore := (congrArg (fun x : KspPort × Option KspPort => x.1.st) h :)
  have hidle := congrArg Prod.snd h
  unfold KspPort.view at hidle
  change q.st = p.st at hcore
  rw [if_neg hst, if_neg (by rw [hcore]; exact hst)] at hidle
  exact (congrArg (fun x : KspPort => { x with vcs := q.vcs }) (Option.some.inj hidle) :)

/-! ### Locking and retraining -/

theorem bitOf_setBitOf_clear (v i : Nat) : bitOf (setBitOf v i false) i = false := by
  unfold setBitOf
  by_cases h : bitOf v i = false
  · simp [h]
  · rw [if_neg (by simpa using h), if_neg (by decide)]
    simp only [bitOf, beq_eq_false_iff_ne, ne_eq, Decidable.not_not] at h ⊢
    have hdiv := Nat.sub_mul_div v (2 ^ i) 1
    rw [Nat.mul_one] at hdiv
    rw [hdiv]
    omega

theorem laneLock_effect (s : State) (el : Nat) (p : Fin 2) (lane : Fin 4) :
    Answers (.laneLock el p lane) s (fun now d e => d.powered = true →
      let lanes := setBitOf (d.port p.val).lanes lane.val true
      ((d.port p.val).st = .disabled → e = d) ∧
      ((d.port p.val).st = .lock → e = { d with ksp := e.ksp } ∧ (e.port p.val).lanes = lanes ∧
        (lanes = 15 ∨ (bitOf lanes 0 = true ∧ (d.port p.val).since + ms 10 ≤ now) → (e.port p.val).st = .deskew ∧ (e.port p.val).since = now) ∧
        (lanes ≠ 15 → bitOf lanes 0 = false ∨ now < (d.port p.val).since + ms 10 → (e.port p.val).st = .lock))) := by
  refine answers_of_forall (f := fun now d => if d.powered then d.kspLaneLock now p.val lane.val else d) rfl (fun now d hpow => ?_)
  intro lanes
  rw [if_pos hpow]
  unfold Dev.kspLaneLock
  refine ⟨fun hst => if_pos hst, fun hst => ?_⟩
  rw [if_neg (by rw [hst]; decide)]
  refine ⟨rfl, ?_⟩
  rw [Dev.port_modPort_self]
  dsimp only
  rw [hst]
  change (if _ then _ else _ : KspPort).lanes = lanes ∧ _
  by_cases hready : lanes = 15 ∨ (bitOf lanes 0 = true ∧ (d.port p.val).since + ms 10 ≤ now)
  · have hcond : (decide (LinkState.lock = LinkState.lock) && (lanes == 15 || (bitOf lanes 0 && decide ((d.port p.val).since + ms 10 ≤ now)))) = true := by
      simpa using hready
    rw [if_pos hcond]
    refine ⟨rfl, fun _ => ⟨rfl, rfl⟩, fun h15 hnot => ?_⟩
    obtain ⟨h0, hdue⟩ := hready.resolve_left h15
    rcases hnot with h | h
    · exact absurd (h0.symm.trans h) (by decide)
    · omega
  · have hcond : ¬(decide (LinkState.lock = LinkState.lock) && (lanes == 15 || (bitOf lanes 0 && decide ((d.port p.val).since + ms 10 ≤ now)))) = true := by
      simpa using hready
    rw [if_neg hcond]
    exact ⟨rfl, fun h => absurd h hready, fun _ _ => rfl⟩

/-- A port in LOCK anew (R428). -/
theorem Dev.enterLock_port (d : Dev) (now n : Nat) : ((d.enterLock now n).port n).st = .lock ∧ ((d.enterLock now n).port n).lanes = 0 ∧
    ((d.enterLock now n).port n).trainFrom = now ∧ ((d.enterLock now n).port n).retrainFrom = (d.port n).retrainFrom := by
  unfold Dev.enterLock
  dsimp only
  rw [Dev.port_modPort_self]
  exact ⟨rfl, rfl, rfl, rfl⟩

theorem Dev.kspRetrain_of_up {d : Dev} (now : Nat) {n : Nat} (hst : (d.port n).st = .up) {e : Dev} (he : d.kspRetrain now n = e) :
    (e.port n).st = .lock ∧ (e.port n).retrainFrom = some now ∧ (e.port n).lanes = 0 ∧ e = { d with ksp := e.ksp } := by
  unfold Dev.kspRetrain at he
  rw [hst] at he
  dsimp only at he
  have hport : ((d.modPort n (fun p => { p with retrainFrom := some now })).port n).retrainFrom = some now := by rw [Dev.port_modPort_self]
  obtain ⟨h1, h2, -, h3⟩ := (d.modPort n (fun p => { p with retrainFrom := some now })).enterLock_port now n
  subst e
  exact ⟨h1, h3.trans hport, h2, rfl⟩

theorem Dev.kspRetrain_of_training {d : Dev} (now : Nat) {n : Nat} (hdis : (d.port n).st ≠ .disabled) (hup : (d.port n).st ≠ .up) {e : Dev}
    (he : d.kspRetrain now n = e) : (e.port n).st = .lock ∧ (e.port n).trainFrom = now ∧ (e.port n).lanes = 0 ∧
      e.rd (KSP.TRAIN_FAIL n) = counted d (KSP.TRAIN_FAIL n) := by
  have heq : d.kspRetrain now n = (d.bump (KSP.TRAIN_FAIL n)).enterLock now n := by
    unfold Dev.kspRetrain
    split
    · next h => exact absurd h hdis
    · next h => exact absurd h hup
    · rfl
  rw [heq] at he
  obtain ⟨h1, h2, h3, -⟩ := (d.bump (KSP.TRAIN_FAIL n)).enterLock_port now n
  subst e
  exact ⟨h1, h3, h2, d.rd_bump_self _⟩

theorem Dev.kspRetrain_of_disabled {d : Dev} (now : Nat) {n : Nat} (h : (d.port n).st = .disabled) : d.kspRetrain now n = d := by
  unfold Dev.kspRetrain
  rw [h]

theorem laneLockLoss_effect (s : State) (el : Nat) (p : Fin 2) (lane : Fin 4) :
    Answers (.laneLockLoss el p lane) s (fun now d e => d.powered = true →
      (bitOf (d.port p.val).lanes lane.val = false → e = { d with ksp := e.ksp } ∧ (e.port p.val).st = (d.port p.val).st) ∧
      (bitOf (d.port p.val).lanes lane.val = true → bitOf (e.port p.val).lanes lane.val = false ∧
        ((d.port p.val).st = .up → lane.val < 2 ^ (d.port p.val).width → (e.port p.val).st = .lock ∧ (e.port p.val).retrainFrom = some now) ∧
        ((d.port p.val).st = .up → 2 ^ (d.port p.val).width ≤ lane.val → (e.port p.val).st = .up) ∧
        ((d.port p.val).st = .deskew ∨ (d.port p.val).st = .config → (e.port p.val).st = .lock ∧
          e.rd (KSP.TRAIN_FAIL p.val) = counted d (KSP.TRAIN_FAIL p.val)))) := by
  refine answers_of_forall (f := fun now d => if d.powered then d.kspLaneLoss now p.val lane.val else d) rfl (fun now d hpow => ?_)
  rw [if_pos hpow]
  unfold Dev.kspLaneLoss
  have hself : (d.modPort p.val (fun x => { x with lanes := setBitOf x.lanes lane.val false })).port p.val =
      { d.port p.val with lanes := setBitOf (d.port p.val).lanes lane.val false } := d.port_modPort_self p.val _
  have hframe : ∀ y : Dev, y = d.modPort p.val (fun x => { x with lanes := setBitOf x.lanes lane.val false }) → y = { d with ksp := y.ksp } ∧
      ∀ f, y.rd f = d.rd f := fun y hy => by
    subst hy
    exact ⟨rfl, fun _ => rfl⟩
  dsimp only
  generalize d.modPort p.val (fun x => { x with lanes := setBitOf x.lanes lane.val false }) = y at hself hframe
  obtain ⟨hy, hrd⟩ := hframe y rfl
  have hst : (y.port p.val).st = (d.port p.val).st := (congrArg KspPort.st hself :)
  have hwidth : (y.port p.val).width = (d.port p.val).width := (congrArg KspPort.width hself :)
  refine ⟨fun hclear => ?_, fun hset => ?_⟩
  · rw [if_pos (by simp [hclear])]
    exact ⟨hy, hst⟩
  · rw [if_neg (by simp [hset])]
    have hbit : bitOf (y.port p.val).lanes lane.val = false := by
      rw [hself]
      exact bitOf_setBitOf_clear _ _
    have hzero : bitOf 0 lane.val = false := by simp [bitOf]
    cases hcase : (d.port p.val).st with
    | up =>
      rw [hst.trans hcase]
      dsimp only
      rw [hwidth]
      by_cases hin : lane.val < 2 ^ (d.port p.val).width
      · rw [if_pos hin]
        obtain ⟨h1, h2, h3, -⟩ := Dev.kspRetrain_of_up now (hst.trans hcase) rfl
        exact ⟨(by rw [h3]; exact hzero), fun _ _ => ⟨h1, h2⟩, fun _ h => absurd hin (Nat.not_lt.mpr h), fun h => (by simp at h)⟩
      · rw [if_neg hin]
        exact ⟨hbit, fun _ h => absurd h hin, fun _ _ => hst.trans hcase, fun h => (by simp at h)⟩
    | deskew =>
      rw [hst.trans hcase]
      obtain ⟨h1, -, h3, h4⟩ := Dev.kspRetrain_of_training now (d := y) (n := p.val) (by rw [hst, hcase]; decide) (by rw [hst, hcase]; decide) rfl
      refine ⟨(by rw [h3]; exact hzero), fun h => (by cases h), fun h => (by cases h), fun _ => ⟨h1, h4.trans ?_⟩⟩
      unfold counted
      rw [hrd]
    | config =>
      rw [hst.trans hcase]
      obtain ⟨h1, -, h3, h4⟩ := Dev.kspRetrain_of_training now (d := y) (n := p.val) (by rw [hst, hcase]; decide) (by rw [hst, hcase]; decide) rfl
      refine ⟨(by rw [h3]; exact hzero), fun h => (by cases h), fun h => (by cases h), fun _ => ⟨h1, h4.trans ?_⟩⟩
      unfold counted
      rw [hrd]
    | disabled =>
      rw [hst.trans hcase]
      exact ⟨hbit, fun h => (by cases h), fun h => (by cases h), fun h => (by simp at h)⟩
    | lock =>
      rw [hst.trans hcase]
      exact ⟨hbit, fun h => (by cases h), fun h => (by cases h), fun h => (by simp at h)⟩

theorem laneLockWaitExpiry_effect (s : State) (el : Nat) (p : Fin 2) :
    Answers (.laneLockWaitExpiry el p) s (fun now d e => d.powered = true → (d.port p.val).st = .lock → bitOf (d.port p.val).lanes 0 = true →
      ((d.port p.val).since + ms 10 ≤ now → (e.port p.val).st = .deskew ∧ (e.port p.val).since = now) ∧
      (now < (d.port p.val).since + ms 10 → e.port p.val = d.port p.val)) := by
  refine answers_of_forall (f := fun now d => if d.powered then d.kspLockWait now p.val else d) rfl (fun now d hpow hst hbit => ?_)
  rw [if_pos hpow]
  unfold Dev.kspLockWait
  rw [Dev.port_modPort_self]
  refine ⟨fun hdue => ?_, fun hearly => if_neg (by simp [Nat.not_le.mpr hearly])⟩
  rw [if_pos (by simp [hst, hbit, hdue])]
  exact ⟨rfl, rfl⟩

theorem trainTimeout_effect (s : State) (el : Nat) (p : Fin 2) :
    Answers (.trainTimeout el p) s (fun now d e => d.powered = true →
      ((d.port p.val).st = .disabled ∨ (d.port p.val).st = .up ∨ now < (d.port p.val).trainFrom + ms 100 → e = d) ∧
      ((d.port p.val).st ≠ .disabled → (d.port p.val).st ≠ .up → (d.port p.val).trainFrom + ms 100 ≤ now →
        (e.port p.val).st = .lock ∧ (e.port p.val).trainFrom = now ∧ e.rd (KSP.TRAIN_FAIL p.val) = counted d (KSP.TRAIN_FAIL p.val))) := by
  refine answers_of_forall (f := fun now d => if d.powered then d.kspTrainTimeout now p.val else d) rfl (fun now d hpow => ?_)
  rw [if_pos hpow]
  unfold Dev.kspTrainTimeout
  refine ⟨fun hnot => ?_, fun hdis hup hdue => ?_⟩
  · split
    · rfl
    · rfl
    · next h1 h2 =>
      rcases hnot with h | h | h
      · exact absurd h h1
      · exact absurd h h2
      · exact if_neg (Nat.not_le.mpr h)
  · split
    · next h => exact absurd h hdis
    · next h => exact absurd h hup
    · rw [if_pos hdue]
      obtain ⟨h1, h2, -, h4⟩ := Dev.kspRetrain_of_training now hdis hup rfl
      exact ⟨h1, h2, h4⟩

theorem retrain_effect (s : State) (el : Nat) (p : Fin 2) :
    Answers (.retrain el p) s (fun now d e => d.hif.inService = true →
      ((d.port p.val).st = .disabled → e = d) ∧
      ((d.port p.val).st = .up → (e.port p.val).st = .lock ∧ (e.port p.val).retrainFrom = some now ∧ e = { d with ksp := e.ksp }) ∧
      ((d.port p.val).st ≠ .disabled → (d.port p.val).st ≠ .up → (e.port p.val).st = .lock ∧
        e.rd (KSP.TRAIN_FAIL p.val) = counted d (KSP.TRAIN_FAIL p.val))) := by
  refine answers_of_forall (f := fun now d => if d.hif.inService then d.kspRetrain now p.val else d) rfl (fun now d hserv => ?_)
  rw [if_pos hserv]
  refine ⟨fun hst => Dev.kspRetrain_of_disabled now hst, fun hst => ?_, fun hdis hup => ?_⟩
  · obtain ⟨h1, h2, -, h4⟩ := Dev.kspRetrain_of_up now hst rfl
    exact ⟨h1, h2, h4⟩
  · obtain ⟨h1, -, -, h4⟩ := Dev.kspRetrain_of_training now hdis hup rfl
    exact ⟨h1, h4⟩

end Sys2Proof.Machine
end

section
/-! PROOFS. Links that come up, go down and stay alive (R429 to R432, R435). -/
namespace Sys2Proof.Machine

/-! ### A link that is down -/

theorem Dev.edgePassed_congr {d e : Dev} (now : Nat) (hsys : e.sys = d.sys) (hpair : e.pair = d.pair) (hrate : e.rd PAIR.PT_RATE = d.rd PAIR.PT_RATE) :
    e.edgePassed now = d.edgePassed now := by
  unfold Dev.edgePassed Dev.nextEdge Dev.edgeOf Dev.dtLen Dev.rdS
  rw [hsys, hpair, hrate]

theorem KSP.port_plain (n : Fin 2) : ((KSP.DOWN_CNT n.val).lo < 32 ∧ (KSP.DOWN_CNT n.val).ofEvents = false ∧
      (∀ p ∈ [(0x030000, 0x032000)], (KSP.DOWN_CNT n.val).addr < p.1 ∨ p.2 ≤ (KSP.DOWN_CNT n.val).addr)) ∧
    ((KSP.FAR_END n.val).lo < 32 ∧ (KSP.FAR_END n.val).ofEvents = false ∧
      (∀ p ∈ [(0x030000, 0x032000)], (KSP.FAR_END n.val).addr < p.1 ∨ p.2 ≤ (KSP.FAR_END n.val).addr)) ∧
    (KSP.DOWN_CNT n.val).key ≠ PAIR.PT_RATE.key ∧ (KSP.RETRAIN_CNT n.val).key ≠ (KSP.FAR_END n.val).key ∧
    (evtPage EVT.KSP_LINK_DOWN n.val).2 < 32 ∧ (evtPage EVT.KSP_LINK_UP n.val).2 < 32 := by decide +revert

/-- A retrain of 50 ms is a link that is down (R432). -/
theorem Dev.kspDown_spec {d : Dev} {now t : Nat} (n : Fin 2) (ht : (d.port n.val).retrainFrom = some t) (hst : (d.port n.val).st ≠ .up)
    (hdue : t + ms 50 ≤ now) {e : Dev} (he : d.kspDown now n.val = e) :
    e.raised EVT.KSP_LINK_DOWN n.val = true ∧ e.rd (KSP.DOWN_CNT n.val) = counted d (KSP.DOWN_CNT n.val) ∧
      ((e.port n.val).retrainFrom = none ∧ (e.port n.val).replay = [] ∧ (e.port n.val).txSeq = 0 ∧ (e.port n.val).rxNext = 0 ∧
        (e.port n.val).st = (d.port n.val).st) ∧
      e.pwr = d.pwr ∧ e.tpl = d.tpl ∧ e.sys = d.sys ∧ e.pair = d.pair ∧ e.rd PAIR.PT_RATE = d.rd PAIR.PT_RATE := by
  obtain ⟨⟨hlo, hev, -⟩, -, hrate, -, hbit, -⟩ := KSP.port_plain n
  unfold Dev.kspDown at he
  rw [ht] at he
  dsimp only at he
  rw [if_pos (by simp [hdue, hst])] at he
  have hport := d.port_modPort_self n.val (fun p => { p with
    retrainFrom := none
    txSeq := 0
    rxNext := 0
    replay := []
    replaySeq := 0
    replayRun := 0
    nakOut := false
    vcs := p.vcs.map (fun x => (x.1, { x.2 with
      txq := if x.2.midTx then x.2.txq.tail else x.2.txq
      midTx := false
      sentUnits := 0
      credit := 0
      rxUnits := 0
      heldUnits := 0
      partialRx := none })) })
  have hparts : ∀ f : KspPort → KspPort, (d.modPort n.val f).pwr = d.pwr ∧ (d.modPort n.val f).tpl = d.tpl ∧ (d.modPort n.val f).sys = d.sys ∧
      (d.modPort n.val f).pair = d.pair ∧ ∀ g, (d.modPort n.val f).rd g = d.rd g := fun _ => ⟨rfl, rfl, rfl, rfl, fun _ => rfl⟩
  have hparts' := hparts (fun p => { p with
    retrainFrom := none
    txSeq := 0
    rxNext := 0
    replay := []
    replaySeq := 0
    replayRun := 0
    nakOut := false
    vcs := p.vcs.map (fun x => (x.1, { x.2 with
      txq := if x.2.midTx then x.2.txq.tail else x.2.txq
      midTx := false
      sentUnits := 0
      credit := 0
      rxUnits := 0
      heldUnits := 0
      partialRx := none })) })
  have hshape := fun y : Dev => Dev.raised_fire (y.bump (KSP.DOWN_CNT n.val)) now EVT.KSP_LINK_DOWN n.val 0 (by omega) hbit
  generalize d.modPort n.val _ = y at he hport hparts'
  obtain ⟨hpwr, htpl, hsys, hpair, hrd⟩ := hparts'
  have hcnt : (y.bump (KSP.DOWN_CNT n.val)).rd (KSP.DOWN_CNT n.val) = counted d (KSP.DOWN_CNT n.val) := by
    refine (y.rd_bump_self _).trans ?_
    unfold counted
    rw [hrd]
  have hksp : e.ksp = y.ksp := by
    rw [← he, Dev.fire_ksp]
    rfl
  have hportE : e.port n.val = y.port n.val := congrArg (fun t => tget t n.val) hksp
  refine ⟨?_, ?_, ?_, ?_, ?_, ?_, ?_, ?_⟩
  · rw [← he]
    exact hshape y
  · rw [← he]
    exact (Dev.rd_fire_of _ _ _ _ _ hlo hev).trans hcnt
  · rw [hportE, hport]
    exact ⟨rfl, rfl, rfl, rfl, rfl⟩
  · rw [← he, Dev.fire_pwr]
    exact hpwr
  · rw [← he, Dev.fire_tpl]
    exact htpl
  · rw [← he, Dev.fire_sys]
    exact hsys
  · rw [← he, Dev.fire_pair]
    exact hpair
  · rw [← he]
    exact (Dev.rd_fire_of _ _ _ _ _ (by decide) (by decide)).trans ((y.rd_bump_ne hrate).trans (hrd _))

theorem Dev.linkFalls_of_none {d : Dev} (now : Nat) {n : Nat} (h : (d.port n).retrainFrom = none) : d.linkFalls now n = d := by
  have hdown : d.kspDown now n = d := by
    unfold Dev.kspDown
    rw [h]
  unfold Dev.linkFalls
  rw [hdown, h]
  rfl

theorem linkDown_effect (s : State) (el : Nat) (p : Fin 2) :
    Answers (.linkDown el p) s (fun now d e => d.powered = true → (d.port p.val).st ≠ .up → ∀ t, (d.port p.val).retrainFrom = some t →
      (now < t + ms 50 → e = d) ∧
      (t + ms 50 ≤ now → e.raised EVT.KSP_LINK_DOWN p.val = true ∧
        e.rd (KSP.DOWN_CNT p.val) = counted d (KSP.DOWN_CNT p.val) ∧ (e.port p.val).retrainFrom = none ∧ (e.port p.val).replay = [] ∧
        (e.port p.val).txSeq = 0 ∧ (e.port p.val).rxNext = 0 ∧ (e.port p.val).st = (d.port p.val).st ∧
        (d.alive = true → d.edgePassed now = true → e.tpl = { d.tpl with selDue := true }))) := by
  refine answers_of_forall (f := fun now d => if !d.powered then d else d.linkFalls now p.val) rfl (fun now d hpow hst t ht => ?_)
  rw [if_neg (by simp [hpow])]
  unfold Dev.linkFalls
  refine ⟨fun hearly => ?_, fun hdue => ?_⟩
  · have hsame : d.kspDown now p.val = d := by
      unfold Dev.kspDown
      rw [ht]
      exact if_neg (by simp [Nat.not_le.mpr hearly])
    rw [hsame]
    exact if_neg (by simp [ht])
  · generalize hx : d.kspDown now p.val = x
    obtain ⟨hraised, hcnt, ⟨hre, hrep, htx, hrx, hstx⟩, hpwr, htpl, hsys, hpair, hrate⟩ := Dev.kspDown_spec p ht hst hdue hx
    obtain ⟨⟨hlo, hev, hout⟩, -, -, -, hbit, -⟩ := KSP.port_plain p
    have halive : x.alive = d.alive := by
      unfold Dev.alive
      rw [hpwr]
    dsimp only
    rw [ht, hre, halive]
    cases ha : d.alive with
    | false => exact ⟨hraised, hcnt, hre, hrep, htx, hrx, hstx, fun h => by cases h⟩
    | true =>
      rw [if_pos (by rfl)]
      have htouch := storeTouch_linkChange x now
      have hport := KspPort.view_idle (htouch.port p.val) (by rw [hstx]; exact hst)
      refine ⟨htouch.raw.raised hbit hraised, (htouch.regs _ hlo hev hout).trans hcnt, ?_, ?_, ?_, ?_, ?_, fun _ hedge => ?_⟩
      · rw [hport]
        exact hre
      · rw [hport]
        exact hrep
      · rw [hport]
        exact htx
      · rw [hport]
        exact hrx
      · rw [hport]
        exact hstx
      · rw [Dev.linkChange_of_edge ((Dev.edgePassed_congr now hsys hpair hrate).trans hedge), htpl]

/-! ### Training sets -/

theorem Dev.storeKeep_kspSendLink_pair (d : Dev) (now n : Nat) : (d.kspSendLink now n).pair = d.pair ∧ (d.kspSendLink now n).pwr = d.pwr ∧
    (d.kspSendLink now n).regs = d.regs ∧ ((d.kspSendLink now n).port n).st = (d.port n).st ∧
    ((d.kspSendLink now n).port n).width = (d.port n).width ∧ ((d.kspSendLink now n).port n).lastLink = (d.port n).lastLink ∧
    ((d.kspSendLink now n).port n).partner = (d.port n).partner := by
  unfold Dev.kspSendLink
  split
  · rw [Dev.port_modPort_self]
    exact ⟨rfl, rfl, rfl, rfl, rfl, rfl, rfl⟩
  · exact ⟨rfl, rfl, rfl, rfl, rfl, rfl, rfl⟩

/-- A link that comes up (R430). -/
theorem Dev.kspEnterUp_spec (d : Dev) (now : Nat) (n : Fin 2) (w : Nat) {e : Dev} (he : d.kspEnterUp now n.val w = e) :
    ((e.port n.val).st = .up ∧ (e.port n.val).width = w ∧ (e.port n.val).lastLink = now ∧ (e.port n.val).partner = (d.port n.val).partner) ∧
      e.raised EVT.KSP_LINK_UP n.val = true ∧ e.rd (KSP.FAR_END n.val) = d.rd (KSP.FAR_END n.val) ∧ e.pair = d.pair ∧ e.pwr = d.pwr := by
  obtain ⟨-, ⟨hlo, hev, hout⟩, -, hkey, -, hbit⟩ := KSP.port_plain n
  unfold Dev.kspEnterUp at he
  extract_lets re maxW d1 d2 d3 d4 at he
  have h1 : d1.port n.val = { d.port n.val with st := .up, since := now, width := w, retrainFrom := none, lastLink := now, secFrom := now } :=
    d.port_modPort_self n.val _
  have hrd1 : d1.rd (KSP.FAR_END n.val) = d.rd (KSP.FAR_END n.val) := rfl
  have hpair1 : d1.pair = d.pair := rfl
  have hpwr1 : d1.pwr = d.pwr := rfl
  clear_value d1
  have h2 : d2.ksp = d1.ksp ∧ d2.rd (KSP.FAR_END n.val) = d1.rd (KSP.FAR_END n.val) ∧ d2.pair = d1.pair ∧ d2.pwr = d1.pwr := by
    unfold d2
    split
    · exact ⟨rfl, d1.rd_bump_ne hkey, rfl, rfl⟩
    · exact ⟨rfl, rfl, rfl, rfl⟩
  clear_value d2
  have h3 : d3.ksp = d2.ksp ∧ d3.rd (KSP.FAR_END n.val) = d2.rd (KSP.FAR_END n.val) ∧ d3.pair = d2.pair ∧ d3.pwr = d2.pwr :=
    ⟨Dev.fire_ksp _ _ _ _ _, Dev.rd_fire_of _ _ _ _ _ hlo hev, Dev.fire_pair _ _ _ _ _, Dev.fire_pwr _ _ _ _ _⟩
  have hraised3 : d3.raised EVT.KSP_LINK_UP n.val = true := Dev.raised_fire _ _ _ _ _ (by omega) hbit
  clear_value d3
  have h4 : d4.ksp = d3.ksp ∧ d4.rd (KSP.FAR_END n.val) = d3.rd (KSP.FAR_END n.val) ∧ d4.pair = d3.pair ∧ d4.pwr = d3.pwr ∧ RawKept d3 d4 := by
    unfold d4 Dev.when
    split
    · exact ⟨Dev.fire_ksp _ _ _ _ _, Dev.rd_fire_of _ _ _ _ _ hlo hev, Dev.fire_pair _ _ _ _ _, Dev.fire_pwr _ _ _ _ _, fire_rawKept _ _ _ _ _⟩
    · exact ⟨rfl, rfl, rfl, rfl, RawKept.refl d3⟩
  clear_value d4
  obtain ⟨hk4, hr4, hp4, hw4, hraw4⟩ := h4
  have hport4 : d4.port n.val = d1.port n.val := congrArg (fun t => tget t n.val) (hk4.trans (h3.1.trans h2.1))
  obtain ⟨hp5, hw5, hregs5, hst5, hwidth5, hlast5, hpart5⟩ := d4.storeKeep_kspSendLink_pair now n.val
  have hraw5 : RawKept d4 (d4.kspSendLink now n.val) := RawKept.of_regs hregs5
  have hrd5 : (d4.kspSendLink now n.val).rd (KSP.FAR_END n.val) = d4.rd (KSP.FAR_END n.val) := by simp [Dev.rd, hregs5]
  generalize d4.kspSendLink now n.val = y at he hp5 hw5 hst5 hwidth5 hlast5 hpart5 hraw5 hrd5
  have htouch := storeTouch_kspPump 4096 y n.val
  rw [he] at htouch
  have hview := congrArg Prod.fst (htouch.port n.val)
  have hst : (e.port n.val).st = (y.port n.val).st := (congrArg KspPort.st hview :)
  have hwidth : (e.port n.val).width = (y.port n.val).width := (congrArg KspPort.width hview :)
  have hlast : (e.port n.val).lastLink = (y.port n.val).lastLink := (congrArg KspPort.lastLink hview :)
  have hpart : (e.port n.val).partner = (y.port n.val).partner := (congrArg KspPort.partner hview :)
  have hpair : e.pair = y.pair := (congrArg (fun k => k.1.pair) htouch.rest :)
  have hpwr : e.pwr = y.pwr := (congrArg (fun k => k.1.pwr) htouch.rest :)
  refine ⟨⟨?_, ?_, ?_, ?_⟩, htouch.raw.raised hbit (hraw5.raised hbit (hraw4.raised hbit hraised3)), ?_, ?_, ?_⟩
  · rw [hst, hst5, hport4, h1]
  · rw [hwidth, hwidth5, hport4, h1]
  · rw [hlast, hlast5, hport4, h1]
  · rw [hpart, hpart5, hport4, h1]
  · rw [htouch.regs _ hlo hev hout, hrd5, hr4, h3.2.1, h2.2.1, hrd1]
  · rw [hpair, hp5, hp4, h3.2.2.1, h2.2.2.1, hpair1]
  · rw [hpwr, hw5, hw4, h3.2.2.2, h2.2.2.2, hpwr1]

theorem Dev.view_helloSend (d : Dev) (now k : Nat) : ((d.helloSend now).port k).view = (d.port k).view := by
  unfold Dev.helloSend
  split
  · exact (storeTouch_kspSend { d with pair := { d.pair with helloSent := some now } } 1 3 _).port k
  · rfl

/-- What follows a link that has come up: the store is selected anew, and the partner greeted. -/
def Dev.linkGreets (d : Dev) (now n : Nat) : Dev :=
  if d.alive then
    let d := d.linkChange now
    if n = 1 && d.pair.en then d.helloSend now else d
  else d

theorem Dev.linkGreets_spec (d : Dev) (now : Nat) (n : Fin 2) (hup : (d.port n.val).st = .up) {e : Dev} (he : d.linkGreets now n.val = e) :
    ((e.port n.val).st = .up ∧ (e.port n.val).width = (d.port n.val).width ∧ (e.port n.val).lastLink = (d.port n.val).lastLink) ∧ RawKept d e ∧
      e.rd (KSP.FAR_END n.val) = d.rd (KSP.FAR_END n.val) ∧
      (d.alive = true → d.pair.en = true → n.val = 1 → (d.port n.val).partner = true → e.pair.helloSent = some now) := by
  obtain ⟨-, ⟨hlo, hev, hout⟩, -⟩ := KSP.port_plain n
  unfold Dev.linkGreets at he
  by_cases halive : d.alive = true
  · rw [if_pos halive] at he
    have htouch := storeTouch_linkChange d now
    dsimp only at he
    generalize d.linkChange now = x at he htouch
    have hview := congrArg Prod.fst (htouch.port n.val)
    have hst : (x.port n.val).st = (d.port n.val).st := (congrArg KspPort.st hview :)
    have hwidth : (x.port n.val).width = (d.port n.val).width := (congrArg KspPort.width hview :)
    have hlast : (x.port n.val).lastLink = (d.port n.val).lastLink := (congrArg KspPort.lastLink hview :)
    have hpart : (x.port n.val).partner = (d.port n.val).partner := (congrArg KspPort.partner hview :)
    have hpair : x.pair = d.pair := (congrArg (fun k => k.1.pair) htouch.rest :)
    by_cases hgreet : n.val = 1 ∧ d.pair.en = true
    · rw [if_pos (by rw [hpair]; simpa using hgreet)] at he
      obtain ⟨-, -, hrd⟩ := x.helloSend_step now he
      obtain ⟨-, -, hsent⟩ := x.helloSend_spec now he
      have hviewE : (e.port n.val).view.1 = (x.port n.val).view.1 := by
        rw [← he]
        exact congrArg Prod.fst (x.view_helloSend now n.val)
      refine ⟨⟨?_, ?_, ?_⟩, ?_, (hrd _).trans (htouch.regs _ hlo hev hout), fun _ _ h1 hp => ?_⟩
      · exact ((congrArg KspPort.st hviewE :).trans hst).trans hup
      · exact (congrArg KspPort.width hviewE :).trans hwidth
      · exact (congrArg KspPort.lastLink hviewE :).trans hlast
      · exact htouch.raw.trans (x.helloSend_step now he).1.raw
      · have hlink : x.pairLink = true := by
          unfold Dev.pairLink Dev.kspUp
          rw [← h1, hst, hup, hpart, hp]
          rfl
        exact (congrArg (·.helloSent) (hsent hlink) :)
    · rw [if_neg (by rw [hpair]; simpa using hgreet)] at he
      subst e
      exact ⟨⟨hst.trans hup, hwidth, hlast⟩, htouch.raw, htouch.regs _ hlo hev hout, fun _ h1 h2 => absurd ⟨h2, h1⟩ hgreet⟩
  · rw [if_neg halive] at he
    subst e
    exact ⟨⟨hup, rfl, rfl⟩, RawKept.refl d, rfl, fun h => absurd h halive⟩

/-- What a training set does to a port that trains. -/
def trainingTaken (now n : Nat) (r : Option Nat × Dev) : Dev :=
  match r.1 with
  | none => r.2
  | some w => (r.2.kspEnterUp now n w).linkGreets now n

theorem Dev.kspTs_of_deskew {d : Dev} (now : Nat) {n : Nat} (locked width endCode cols : Nat) (h : (d.port n).st = .deskew) :
    d.kspTs now n locked width endCode cols =
      (none, (d.wr (KSP.FAR_END n) endCode).modPort n (fun p => { p with st := .config, since := now, farLocked := locked, tsRx := 0, tsTx := 0 })) := by
  unfold Dev.kspTs
  rw [h]

/-- A matching training set in CONFIG (R430). -/
theorem Dev.kspTs_of_match {d : Dev} (now : Nat) {n w locked width endCode : Nat} (cols : Nat) (h : (d.port n).st = .config)
    (hw : commonWidth (d.port n).maxW (d.port n).lanes locked = some w) (hwidth : width = 2 ^ w) (hend : (endCode == 2) = (d.port n).partner)
    {r : Option Nat × Dev} (hr : d.kspTs now n locked width endCode cols = r) :
    r.1 = (if 8 ≤ min 8 ((d.port n).tsRx + cols) ∧ 16 ≤ (d.port n).tsTx + cols then some w else none) ∧
      (r.2.port n = { d.port n with farLocked := locked, tsRx := min 8 ((d.port n).tsRx + cols), tsTx := (d.port n).tsTx + cols }) ∧
      r.2.rd (KSP.FAR_END n) = endCode % 2 ^ 2 ∧ r.2.pair = d.pair ∧ r.2.pwr = d.pwr := by
  unfold Dev.kspTs at hr
  rw [h] at hr
  dsimp only at hr
  have hport : ((d.wr (KSP.FAR_END n) endCode).modPort n (fun p => { p with farLocked := locked })).port n = { d.port n with farLocked := locked } :=
    Dev.port_modPort_self (d.wr (KSP.FAR_END n) endCode) n _
  have hparts : ((d.wr (KSP.FAR_END n) endCode).modPort n (fun p => { p with farLocked := locked })).pair = d.pair ∧
      ((d.wr (KSP.FAR_END n) endCode).modPort n (fun p => { p with farLocked := locked })).pwr = d.pwr ∧
      ((d.wr (KSP.FAR_END n) endCode).modPort n (fun p => { p with farLocked := locked })).rd (KSP.FAR_END n) = endCode % 2 ^ 2 :=
    ⟨rfl, rfl, Dev.rd_wr_self d (KSP.FAR_END n) endCode⟩
  generalize (d.wr (KSP.FAR_END n) endCode).modPort n (fun p => { p with farLocked := locked }) = y at hr hport hparts
  obtain ⟨hpair, hpwr, hfar⟩ := hparts
  rw [hport] at hr
  dsimp only at hr
  rw [hw] at hr
  dsimp only at hr
  rw [if_pos (by simp [hwidth, hend])] at hr
  subst r
  refine ⟨rfl, ?_, hfar, hpair, hpwr⟩
  dsimp only
  rw [Dev.port_modPort_self, hport]

theorem Dev.kspTs_of_other {d : Dev} (now : Nat) {n : Nat} (locked width endCode cols : Nat) (h : (d.port n).st = .lock ∨ (d.port n).st = .up) :
    d.kspTs now n locked width endCode cols = (none, d) := by
  unfold Dev.kspTs
  rcases h with h | h <;> rw [h]

theorem ts_effect (s : State) (el : Nat) (p : Fin 2) (locked : BitVec 4) (width : BitVec 3) (endCode : BitVec 2) (cols : Nat) :
    Answers (.ts el p locked width endCode cols) s (fun now d e =>
      d.powered = true → (d.port p.val).retrainFrom = none →
      ((d.port p.val).st = .deskew → (e.port p.val).st = .config ∧ (e.port p.val).farLocked = locked.toNat ∧ e.rd (KSP.FAR_END p.val) = endCode.toNat ∧
        OnlyRegs [KSP.FAR_END p.val] { d with ksp := e.ksp } e) ∧
      ((d.port p.val).st = .config → ∀ w, commonWidth (d.port p.val).maxW (d.port p.val).lanes locked.toNat = some w → width.toNat = 2 ^ w →
        (endCode.toNat == 2) = (d.port p.val).partner →
        (((d.port p.val).tsRx + cols < 8 ∨ (d.port p.val).tsTx + cols < 16) → (e.port p.val).st = .config ∧
          (e.port p.val).tsRx = min 8 ((d.port p.val).tsRx + cols) ∧ (e.port p.val).tsTx = (d.port p.val).tsTx + cols) ∧
        (8 ≤ (d.port p.val).tsRx + cols → 16 ≤ (d.port p.val).tsTx + cols → (e.port p.val).st = .up ∧ (e.port p.val).width = w ∧
          (e.port p.val).lastLink = now ∧ e.raised EVT.KSP_LINK_UP p.val = true ∧ e.rd (KSP.FAR_END p.val) = endCode.toNat ∧
          (d.alive = true → d.pair.en = true → p.val = 1 → (d.port p.val).partner = true → e.pair.helloSent = some now))) ∧
      ((d.port p.val).st = .lock ∨ (d.port p.val).st = .up → e = d)) := by
  refine answers_of_forall (f := fun now d => if !d.powered then d
    else trainingTaken now p.val ((d.linkFalls now p.val).kspTs now p.val locked.toNat width.toNat endCode.toNat cols)) rfl
    (fun now d hpow hre => ?_)
  rw [if_neg (by simp [hpow]), Dev.linkFalls_of_none now hre]
  have hcode : endCode.toNat % 2 ^ 2 = endCode.toNat := Nat.mod_eq_of_lt endCode.isLt
  refine ⟨fun hst => ?_, fun hst w hw hwidth hend => ?_, fun hst => ?_⟩
  · rw [Dev.kspTs_of_deskew now _ _ _ _ hst]
    change (((d.wr (KSP.FAR_END p.val) endCode.toNat).modPort p.val _).port p.val).st = _ ∧
      (((d.wr (KSP.FAR_END p.val) endCode.toNat).modPort p.val _).port p.val).farLocked = _ ∧ _
    rw [Dev.port_modPort_self]
    exact ⟨rfl, rfl, (Dev.rd_wr_self d _ _).trans hcode, rfl, fun g hg => Dev.rd_wr_ne d _ (hg _ (by simp))⟩
  · generalize hr : d.kspTs now p.val locked.toNat width.toNat endCode.toNat cols = r
    obtain ⟨hfst, hport, hfar, hpair, hpwr⟩ := Dev.kspTs_of_match now cols hst hw hwidth hend hr
    by_cases hdone : 8 ≤ (d.port p.val).tsRx + cols ∧ 16 ≤ (d.port p.val).tsTx + cols
    · rw [if_pos ⟨by omega, hdone.2⟩] at hfst
      have htaken : trainingTaken now p.val r = (r.2.kspEnterUp now p.val w).linkGreets now p.val := by
        unfold trainingTaken
        rw [hfst]
      rw [htaken]
      obtain ⟨⟨hup, hwid, hlast, hpart⟩, hraised, hfarUp, hpairUp, hpwrUp⟩ := r.2.kspEnterUp_spec now p w rfl
      generalize r.2.kspEnterUp now p.val w = y at hup hwid hlast hpart hraised hfarUp hpairUp hpwrUp
      obtain ⟨⟨hup', hwid', hlast'⟩, hraw, hfar', hsent⟩ := y.linkGreets_spec now p hup rfl
      have halive : y.alive = d.alive := by
        unfold Dev.alive
        rw [hpwrUp, hpwr]
      have hpart' : (y.port p.val).partner = (d.port p.val).partner := by rw [hpart, hport]
      rw [halive, hpairUp, hpair, hpart'] at hsent
      obtain ⟨-, -, -, -, -, hbit⟩ := KSP.port_plain p
      exact ⟨fun h => by omega, fun _ _ => ⟨hup', hwid'.trans hwid, hlast'.trans hlast, hraw.raised hbit hraised,
        hfar'.trans (hfarUp.trans (hfar.trans hcode)), hsent⟩⟩
    · rw [if_neg (fun h => hdone ⟨by omega, h.2⟩)] at hfst
      have htaken : trainingTaken now p.val r = r.2 := by
        unfold trainingTaken
        rw [hfst]
      rw [htaken, hport]
      exact ⟨fun _ => ⟨hst, rfl, rfl⟩, fun h1 h2 => absurd ⟨h1, h2⟩ hdone⟩
  · rw [Dev.kspTs_of_other now _ _ _ _ hst]
    rfl

/-! ### LINK packets -/

theorem getD_after_two (a b : Nat) (f : Nat → Nat) {k : Nat} (hk : k < 5) : ([a, b] ++ (List.range 5).map f).getD (2 + k) 0 = f k := by
  rw [List.getD_append_right _ _ _ _ (by simp)]
  simp [hk]

theorem linkKeepalive_effect (s : State) (el : Nat) (p : Fin 2) :
    Answers (.linkKeepalive el p) s (fun now d e => d.powered = true →
      ((d.port p.val).st = .up → (d.port p.val).linkTxAt + us 100 ≤ now → e = { d with ksp := e.ksp } ∧ (e.port p.val).linkTxAt = now ∧
        (e.port p.val).linkTx.length = 7 ∧ (e.port p.val).linkTx.head? = some (((d.port p.val).rxNext + 4095) % 4096) ∧
        (∀ k, k < 5 → (e.port p.val).linkTx.getD (2 + k) 0 =
          ((tget (d.port p.val).vcs k).rxUnits + 65536 - (tget (d.port p.val).vcs k).heldUnits + vcBuffer k) % 65536)) ∧
      ((d.port p.val).st ≠ .up ∨ now < (d.port p.val).linkTxAt + us 100 → e = d)) := by
  refine answers_of_forall (f := fun now d => if d.powered && d.kspUp p.val && decide ((d.port p.val).linkTxAt + us 100 ≤ now) then
    d.kspSendLink now p.val else d) rfl (fun now d hpow => ⟨fun hst hdue => ?_, fun hnot => if_neg ?_⟩)
  · have hup : d.kspUp p.val = true := by
      unfold Dev.kspUp
      rw [hst]
      rfl
    rw [if_pos (by simp [hpow, hup, hdue])]
    unfold Dev.kspSendLink
    rw [if_pos hst]
    refine ⟨rfl, ?_⟩
    rw [Dev.port_modPort_self]
    exact ⟨rfl, rfl, rfl, fun k hk => getD_after_two _ _ _ hk⟩
  · unfold Dev.kspUp
    rcases hnot with h | h
    · simp [h]
    · simp [Nat.not_le.mpr h]

theorem linkSilence_effect (s : State) (el : Nat) (p : Fin 2) :
    Answers (.linkSilence el p) s (fun now d e => d.powered = true →
      ((d.port p.val).st = .up → (d.port p.val).lastLink + ms 1 ≤ now → (e.port p.val).st = .lock ∧ (e.port p.val).retrainFrom = some now ∧
        e = { d with ksp := e.ksp }) ∧
      ((d.port p.val).st ≠ .up ∨ now < (d.port p.val).lastLink + ms 1 → e = d)) := by
  refine answers_of_forall (f := fun now d => if d.powered && d.kspUp p.val && decide ((d.port p.val).lastLink + ms 1 ≤ now) then
    d.kspRetrain now p.val else d) rfl (fun now d hpow => ⟨fun hst hdue => ?_, fun hnot => if_neg ?_⟩)
  · have hup : d.kspUp p.val = true := by
      unfold Dev.kspUp
      rw [hst]
      rfl
    rw [if_pos (by simp [hpow, hup, hdue])]
    obtain ⟨h1, h2, -, h4⟩ := Dev.kspRetrain_of_up now hst rfl
    exact ⟨h1, h2, h4⟩
  · unfold Dev.kspUp
    rcases hnot with h | h
    · simp [h]
    · simp [Nat.not_le.mpr h]

/-- Settles O46. -/
theorem linkTrains : Obligations.LinkTrains := by
  unfold Obligations.LinkTrains
  exact fun s el p => ⟨fun lane => ⟨laneLock_effect s el p lane, laneLockLoss_effect s el p lane⟩, laneLockWaitExpiry_effect s el p,
    trainTimeout_effect s el p, retrain_effect s el p, linkDown_effect s el p,
    fun locked width endCode cols => ts_effect s el p locked width endCode cols, linkKeepalive_effect s el p, linkSilence_effect s el p⟩

end Sys2Proof.Machine
end

section
/-! PROOFS. SNUFFED and its causes (R501, R502): which causes stand, and what entering SNUFFED does. -/
namespace Sys2Proof.Machine

theorem bitOf_add_two_pow_ne {w i j : Nat} (h : bitOf w i = false) (hij : i ≠ j) : bitOf (w + 2 ^ i) j = bitOf w j := by
  simp only [bitOf, beq_eq_false_iff_ne, ne_eq] at h ⊢
  rcases Nat.lt_or_gt_of_ne hij with hlt | hgt
  · have hsplit : 2 ^ j = 2 ^ i * 2 * 2 ^ (j - i - 1) := by
      rw [← Nat.pow_succ, ← Nat.pow_add]
      congr 1
      omega
    have hhalf : (w + 2 ^ i) / (2 ^ i * 2) = w / (2 ^ i * 2) := by
      rw [← Nat.div_div_eq_div_mul, ← Nat.div_div_eq_div_mul, Nat.add_div_right _ (Nat.two_pow_pos i)]
      omega
    rw [hsplit, ← Nat.div_div_eq_div_mul, hhalf, Nat.div_div_eq_div_mul]
  · have hsplit : 2 ^ i = 2 * 2 ^ (i - j - 1) * 2 ^ j := by
      rw [← Nat.pow_succ', ← Nat.pow_add]
      congr 1
      omega
    rw [hsplit, Nat.add_mul_div_right _ _ (Nat.two_pow_pos j), Nat.mul_comm 2, Nat.add_mul_mod_self_right]

/-- Setting or clearing a bit leaves every other bit as it was. -/
theorem bitOf_setBitOf_ne (v : Nat) {i j : Nat} (b : Bool) (hij : i ≠ j) : bitOf (setBitOf v i b) j = bitOf v j := by
  unfold setBitOf
  split
  · rfl
  rename_i hdiff
  cases b
  · have hset : bitOf v i = true := by simpa using hdiff
    have hle : 2 ^ i ≤ v := by
      by_contra hlt
      rw [bitOf, Nat.div_eq_of_lt (by omega)] at hset
      cases hset
    have hclr := bitOf_setBitOf_clear v i
    rw [setBitOf, if_neg (by rw [hset]; decide), if_neg (by decide)] at hclr
    rw [if_neg (by decide), ← bitOf_add_two_pow_ne hclr hij, Nat.sub_add_cancel hle]
  · exact bitOf_add_two_pow_ne (by simpa using hdiff) hij

theorem bitOf_setBitOf (v i : Nat) (b : Bool) : bitOf (setBitOf v i b) i = b := by
  cases b
  · exact bitOf_setBitOf_clear v i
  · exact bitOf_setBitOf_self v i

/-- Clearing the bits of a list whose causes are gone. -/
theorem bitOf_foldl_clear (gone : Nat → Bool) (l : List Nat) (v j : Nat) :
    bitOf (l.foldl (fun m c => if gone c then setBitOf m c false else m) v) j = (bitOf v j && !(decide (j ∈ l) && gone j)) := by
  induction l generalizing v with
  | nil => simp
  | cons c l ih =>
    rw [List.foldl_cons, ih]
    by_cases hj : j = c
    · subst hj
      cases hg : gone j <;> simp [bitOf_setBitOf_clear]
    · have hv : bitOf (if gone c = true then setBitOf v c false else v) j = bitOf v j := by
        split
        · exact bitOf_setBitOf_ne v false (Ne.symm hj)
        · rfl
      simp [hv, hj]

/-- A cause stays among the causes exactly while it persists. -/
theorem Dev.bitOf_causesNow (d : Dev) {j : Nat} (hj : j < 6) :
    bitOf (d.causesNow.rd PWR.SNUFF_CAUSES) j = (bitOf (d.rd PWR.SNUFF_CAUSES) j && !d.causeGone j) := by
  have hmod := bitOf_mod ((List.range 6).foldl (fun m c => if d.causeGone c then setBitOf m c false else m) (d.rd PWR.SNUFF_CAUSES)) j 6 hj
  unfold Dev.causesNow
  rw [Dev.rd_wr_self]
  refine hmod.trans ((bitOf_foldl_clear d.causeGone _ _ j).trans ?_)
  simp [hj]

theorem Dev.onlyRegs_causesNow (d : Dev) : OnlyRegs [PWR.SNUFF_CAUSES] d d.causesNow := OnlyRegs.wr d PWR.SNUFF_CAUSES _ (by simp)

theorem Dev.causeGone_congr {d e : Dev} (huv : e.pwr.uv = d.pwr.uv) (ht : e.rd PWR.LOGIC_TEMP = d.rd PWR.LOGIC_TEMP)
    (hw : e.rd PWR.OT_WARN = d.rd PWR.OT_WARN) (j : Nat) : e.causeGone j = d.causeGone j := by
  have hwarn : e.otWarn = d.otWarn := by simp only [Dev.otWarn, Dev.rdH, hw]
  unfold Dev.causeGone
  rw [huv, hwarn, Dev.rdS_congr ht]

/-! ### Entering SNUFFED -/

/-- The block without registers, recorder, retained memory and decision. -/
def Dev.sansStores (d : Dev) : Dev := { d with regs := [], evh := {}, rec_ := {}, mram := {}, dec := {} }

/-- An operation that stores what the block keeps: the latencies and the staged records. -/
abbrev Stores (d e : Dev) : Prop := Touches [(0x004000, 0x005000)] Dev.sansStores d e

theorem stores_logPut (d : Dev) (now : Nat) (r : List Nat) : Stores d (d.logPut now r) := by
  unfold Dev.logPut
  refine Touches.ite (fun _ => Touches.bump _ _ (by decide) (by rfl)) (fun _ => Touches.ite (fun _ => ?_) (fun _ => Touches.of_regs rfl rfl))
  extract_lets full _ x
  have h1 : Stores d x := Touches.trans (b := { d with mram := { d.mram with log := d.mram.log ++ [full] } })
    (Touches.of_regs rfl rfl) (Touches.wr _ REC.REC_SEQ _ (by decide) (by rfl))
  have h2 : Stores x (x.wr REC.REC_FULL 1) := Touches.wr x REC.REC_FULL 1 (by decide) (by rfl)
  exact (h1.trans h2).trans (Touches.fire _ now EVT.REC_FULL 0 0 (by intros; rfl))

theorem stores_recWriteOut (d : Dev) (now : Nat) : Stores d (d.recWriteOut now) :=
  Touches.trans (b := { d with rec_ := { d.rec_ with staging := [] } }) (Touches.of_regs rfl rfl)
    (Touches.each d.rec_.staging (fun d r => d.logPut now r) (fun x r _ => stores_logPut x now r) _)

theorem stores_latStore (d : Dev) (now : Nat) : Stores d (d.latStore now) := Touches.of_regs rfl rfl

/-- What the block stores before it is SNUFFED by the supply (R501). -/
def Dev.snuffStores (d : Dev) (now cause : Nat) : Dev :=
  if cause = 2 && d.pwr.st != .snuffed then (d.latStore now).recWriteOut now else d

theorem stores_snuffStores (d : Dev) (now cause : Nat) : Stores d (d.snuffStores now cause) :=
  Touches.ite (fun _ => (stores_latStore d now).trans (stores_recWriteOut _ now)) (fun _ => Touches.refl d)

/-- The cause taken, and the causes that persist. -/
def Dev.snuffCaused (d : Dev) (cause : Nat) : Dev :=
  ((d.wr PWR.SNUFF_CAUSE cause).wr PWR.SNUFF_CAUSES (setBitOf (d.rd PWR.SNUFF_CAUSES) cause true)).causesNow

theorem Dev.onlyRegs_snuffCaused (d : Dev) (cause : Nat) : OnlyRegs [PWR.SNUFF_CAUSE, PWR.SNUFF_CAUSES] d (d.snuffCaused cause) :=
  (((OnlyRegs.wr d PWR.SNUFF_CAUSE cause (by simp)).thenWr (by simp) _).trans ((Dev.onlyRegs_causesNow _).mono (by simp)))

theorem Dev.snuffCause_snuffCaused (d : Dev) (cause : Nat) : (d.snuffCaused cause).rd PWR.SNUFF_CAUSE = cause % 8 :=
  ((Dev.onlyRegs_causesNow _).2 _ (by decide)).trans ((Dev.rd_wr_ne _ _ (by decide)).trans (Dev.rd_wr_self d _ _))

theorem Dev.causeGone_wrCauses (d : Dev) (v w j : Nat) : ((d.wr PWR.SNUFF_CAUSE v).wr PWR.SNUFF_CAUSES w).causeGone j = d.causeGone j :=
  have h : OnlyRegs [PWR.SNUFF_CAUSE, PWR.SNUFF_CAUSES] d ((d.wr PWR.SNUFF_CAUSE v).wr PWR.SNUFF_CAUSES w) :=
    (OnlyRegs.wr d PWR.SNUFF_CAUSE v (by simp)).thenWr (by simp) w
  Dev.causeGone_congr (d := d) (congrArg (fun x => x.pwr.uv) h.1) (h.2 PWR.LOGIC_TEMP (by decide)) (h.2 PWR.OT_WARN (by decide)) j

theorem Dev.bitOf_snuffCaused (d : Dev) (cause : Nat) {j : Nat} (hj : j < 6) :
    bitOf ((d.snuffCaused cause).rd PWR.SNUFF_CAUSES) j =
      ((decide (cause = j) || bitOf (d.rd PWR.SNUFF_CAUSES) j) && !d.causeGone j) := by
  have hmod := bitOf_mod (setBitOf (d.rd PWR.SNUFF_CAUSES) cause true) j 6 hj
  have hbit : bitOf (setBitOf (d.rd PWR.SNUFF_CAUSES) cause true) j = (decide (cause = j) || bitOf (d.rd PWR.SNUFF_CAUSES) j) := by
    by_cases h : cause = j
    · rw [h, bitOf_setBitOf]
      simp
    · rw [bitOf_setBitOf_ne _ _ h]
      simp [h]
  unfold Dev.snuffCaused
  rw [Dev.bitOf_causesNow _ hj, Dev.rd_wr_self, Dev.causeGone_wrCauses]
  exact congrArg (· && !d.causeGone j) (hmod.trans hbit)

/-- The power unit, with no pending clear, no confirmation of the master and no pending DIM_MAX. -/
def Dev.snuffForgets (d : Dev) : Dev := { d with pwr := { d.pwr with snuffClr := false, masterConfirm := false, dimMaxDue := false } }

/-- The outputs take their snuff states, where the block is not SNUFFED yet. -/
def Dev.snuffOutputs (d : Dev) (now : Nat) : Dev :=
  if d.pwr.st = .snuffed then d else ({ d with pwr := { d.pwr with st := .snuffed } }).pathSync now

theorem Dev.enterSnuffed_of_ticking {d : Dev} (now cause : Nat) (h : d.ticking = true) :
    d.enterSnuffed now cause = ((((d.snuffStores now cause).snuffCaused cause).snuffForgets).snuffOutputs now).fire now EVT.PWR_SNUFFED 0 cause := by
  unfold Dev.enterSnuffed
  rw [if_neg (by simp [h])]
  rfl

theorem Dev.enterSnuffed_of_not_ticking {d : Dev} (now cause : Nat) (h : d.ticking = false) : d.enterSnuffed now cause = d :=
  if_pos (by simp [h])

/-- The block in the state SNUFFED. -/
def Dev.nowSnuffed (d : Dev) : Dev := { d with pwr := { d.pwr with st := .snuffed } }

theorem Dev.pathWanted_nowSnuffed (d : Dev) : d.nowSnuffed.pathWanted = true := by simp [Dev.pathWanted, Dev.nowSnuffed]

theorem Dev.snuffOutputs_of_snuffed {d : Dev} (now : Nat) (h : d.pwr.st = .snuffed) : d.snuffOutputs now = d := if_pos h

theorem Dev.snuffOutputs_of_not_snuffed {d : Dev} (now : Nat) (h : d.pwr.st ≠ .snuffed) :
    d.snuffOutputs now = d.nowSnuffed.pathSync now := if_neg h

/-- The state is SNUFFED; no register changes but SNUFF_ACT and those of the outputs' pages. -/
theorem Dev.snuffOutputs_spec (d : Dev) (now : Nat) :
    (d.snuffOutputs now).pwr = { d.pwr with st := .snuffed } ∧ RawKept d (d.snuffOutputs now) ∧
    (∀ f : Field, WDG.SNUFF_ACT.key ≠ f.key → f.lo < 32 → f.ofEvents = false → (∀ p ∈ drivePages, f.addr < p.1 ∨ p.2 ≤ f.addr) →
      (d.snuffOutputs now).rd f = d.rd f) ∧
    (d.pwr.st ≠ .snuffed → (d.snuffOutputs now).rd WDG.SNUFF_ACT = 1) := by
  by_cases h : d.pwr.st = .snuffed
  · rw [Dev.snuffOutputs_of_snuffed now h]
    exact ⟨by rw [← h], RawKept.refl d, fun _ _ _ _ _ => rfl, fun hn => absurd h hn⟩
  · rw [Dev.snuffOutputs_of_not_snuffed now h]
    exact ⟨(congrArg Dev.pwr (Dev.sansDrive_pathSync d.nowSnuffed now) :),
      (RawKept.of_regs (e := d.nowSnuffed) rfl).trans (Dev.rawKept_pathSync d.nowSnuffed now),
      fun f hk hlo hev hout => Dev.rd_pathSync d.nowSnuffed now f hk hlo hev hout,
      fun _ => Dev.snuffAct_pathSync_of_wanted _ now d.pathWanted_nowSnuffed⟩

/-- Every driven output takes its stored snuff state. -/
theorem Dev.snuffOutputs_drives (d : Dev) (now : Nat) (h : d.pwr.st ≠ .snuffed) (hact : d.on WDG.SNUFF_ACT = false) (hdrv : d.driving = true) :
    (d.snuffOutputs now).pwm.snuff = true ∧
      (∀ c, c < 32 → ((d.snuffOutputs now).idcCh c).snuff = some (d.rd (WDG.SNUFF_STATE c))) ∧
      (∀ n, n < 16 → ((d.snuffOutputs now).lswCh n).snuff = some (d.rd (WDG.SNUFF_STATE (32 + n)))) := by
  rw [Dev.snuffOutputs_of_not_snuffed now h]
  refine (pathSync_starts d.nowSnuffed now d.pathWanted_nowSnuffed hact).2 ?_
  simp only [Dev.driving, Bool.and_eq_true] at hdrv ⊢
  exact ⟨⟨rfl, rfl⟩, hdrv.2⟩

/-- What entering SNUFFED does (R501, R502): the state, the cause, the causes that persist, and the outputs in their snuff states. -/
theorem Dev.enterSnuffed_spec (d : Dev) (now cause : Nat) (htick : d.ticking = true) :
    let e := d.enterSnuffed now cause
    e.pwr = { d.pwr with st := .snuffed, snuffClr := false, masterConfirm := false, dimMaxDue := false } ∧
    e.rd PWR.SNUFF_CAUSE = cause % 8 ∧
    (∀ j, j < 6 → bitOf (e.rd PWR.SNUFF_CAUSES) j = ((decide (cause = j) || bitOf (d.rd PWR.SNUFF_CAUSES) j) && !d.causeGone j)) ∧
    e.rd PWR.LOGIC_TEMP = d.rd PWR.LOGIC_TEMP ∧ RawKept d e ∧ e.raised EVT.PWR_SNUFFED 0 = true ∧
    (d.pwr.st ≠ .snuffed → e.rd WDG.SNUFF_ACT = 1) ∧
    (d.pwr.st ≠ .snuffed → d.on WDG.SNUFF_ACT = false → d.driving = true → e.pwm.snuff = true ∧
      (∀ c, c < 32 → (e.idcCh c).snuff = some (d.rd (WDG.SNUFF_STATE c))) ∧
      (∀ n, n < 16 → (e.lswCh n).snuff = some (d.rd (WDG.SNUFF_STATE (32 + n))))) := by
  intro e
  have hstores := stores_snuffStores d now cause
  have he : e = ((((d.snuffStores now cause).snuffCaused cause).snuffForgets).snuffOutputs now).fire now EVT.PWR_SNUFFED 0 cause :=
    Dev.enterSnuffed_of_ticking now cause htick
  clear_value e
  generalize d.snuffStores now cause = x at hstores he
  have hpwr : x.pwr = d.pwr := (congrArg Dev.pwr hstores.rest :)
  have hregs := x.onlyRegs_snuffCaused cause
  have hxy : RawKept x (x.snuffCaused cause) :=
    ((RawKept.wr x PWR.SNUFF_CAUSE _ (by decide)).trans (RawKept.wr _ PWR.SNUFF_CAUSES _ (by decide))).trans (RawKept.wr _ PWR.SNUFF_CAUSES _ (by decide))
  have hcause := x.snuffCause_snuffCaused cause
  have hcauses := fun {j} hj => x.bitOf_snuffCaused cause (j := j) hj
  generalize x.snuffCaused cause = y at hregs hxy hcause hcauses he
  have hypwr : y.pwr = d.pwr := (congrArg Dev.pwr hregs.1).trans hpwr
  have hrd : ∀ f : Field, f.lo < 32 → f.ofEvents = false → (f.addr < 0x004000 ∨ 0x005000 ≤ f.addr) → PWR.SNUFF_CAUSE.key ≠ f.key →
      PWR.SNUFF_CAUSES.key ≠ f.key → y.rd f = d.rd f := fun f hlo hev hout h1 h2 =>
    (hregs.2 f (by simpa using ⟨h1, h2⟩)).trans (hstores.regs f hlo hev (by simpa using hout))
  obtain ⟨hpwr', hraw', hrd', hact'⟩ := y.snuffForgets.snuffOutputs_spec now
  have hdrives := fun h1 h2 h3 => y.snuffForgets.snuffOutputs_drives now h1 h2 h3
  generalize y.snuffForgets.snuffOutputs now = z at hpwr' hraw' hrd' hact' hdrives he
  have hfire : ∀ f : Field, f.lo < 32 → f.ofEvents = false → e.rd f = z.rd f := fun f hlo hev => by
    rw [he]
    exact Dev.rd_fire_of z now _ _ _ hlo hev
  have hx : ∀ f : Field, f.lo < 32 → f.ofEvents = false → (f.addr < 0x004000 ∨ 0x005000 ≤ f.addr) → x.rd f = d.rd f :=
    fun f hlo hev hout => hstores.regs f hlo hev (by simpa using hout)
  have hgone : ∀ j, x.causeGone j = d.causeGone j := Dev.causeGone_congr (by rw [hpwr]) (hx _ (by decide) (by decide) (by decide))
    (hx _ (by decide) (by decide) (by decide))
  have hst : y.snuffForgets.pwr.st = d.pwr.st := congrArg (fun p => p.st) hypwr
  refine ⟨?_, ?_, fun j hj => ?_, ?_, ?_, ?_, fun h => ?_, fun h hact hdrv => ?_⟩
  · rw [he, Dev.fire_pwr, hpwr', ← hypwr]
    rfl
  · rw [hfire _ (by decide) (by decide), hrd' _ (by decide) (by decide) (by decide) (by decide)]
    exact hcause
  · rw [hfire _ (by decide) (by decide), hrd' _ (by decide) (by decide) (by decide) (by decide)]
    refine (hcauses hj).trans ?_
    rw [hgone, hx _ (by decide) (by decide) (by decide)]
  · rw [hfire _ (by decide) (by decide), hrd' _ (by decide) (by decide) (by decide) (by decide)]
    exact hrd _ (by decide) (by decide) (by decide) (by decide) (by decide)
  · rw [he]
    exact ((hstores.raw.trans hxy).trans (RawKept.of_regs rfl)).trans (hraw'.trans (fire_rawKept _ _ _ _ _))
  · rw [he]
    exact Dev.raised_fire _ _ _ _ _ (by omega) (by decide)
  · rw [hfire _ (by decide) (by decide)]
    exact hact' (by rwa [hst])
  · have hy : y.on WDG.SNUFF_ACT = false := (Dev.on_congr (hrd _ (by decide) (by decide) (by decide) (by decide) (by decide))).trans hact
    have hdriving : y.snuffForgets.driving = true := by
      simp only [Dev.driving, Dev.snuffForgets, hypwr] at hdrv ⊢
      exact hdrv
    obtain ⟨h1, h2, h3⟩ := hdrives (by rwa [hst]) hy hdriving
    have hstate : ∀ i, i < 48 → y.rd (WDG.SNUFF_STATE i) = d.rd (WDG.SNUFF_STATE i) := fun i hi =>
      hrd _ (show 0 < 32 by omega) (by clear * - hi; decide +revert) (by simp only [WDG.SNUFF_STATE]; omega) (by simp only [Field.key, WDG.SNUFF_STATE, PWR.SNUFF_CAUSE]; omega)
        (by simp only [Field.key, WDG.SNUFF_STATE, PWR.SNUFF_CAUSES]; omega)
    refine ⟨by rw [he, Dev.fire_pwm, h1], fun c hc => ?_, fun n hn => ?_⟩
    · rw [← hstate c (by omega), he, Dev.idcCh, Dev.fire_idc]
      exact h2 c hc
    · rw [← hstate (32 + n) (by omega), he, Dev.lswCh, Dev.fire_lsw]
      exact h3 n hn

end Sys2Proof.Machine
end

section
/-! PROOFS. The supply's episodes: DIM, its end and DIM_MAX (R491 to R497); VBAT and SNS5V (R493, R499). -/
namespace Sys2Proof.Machine

/-! ### The way into EMBER -/

theorem Dev.emberAsk_of_refused {d : Dev} (now : Nat) (h : d.pwr.mode = .plain ∨ d.pwr.emberWait ≠ none) : d.emberAsk now = d := by
  refine if_pos ?_
  rw [Bool.or_eq_true, decide_eq_true_eq, Option.isSome_iff_ne_none]
  exact h

theorem Dev.emberAsk_of_taken {d : Dev} (now : Nat) (hm : d.pwr.mode ≠ .plain) (hw : d.pwr.emberWait = none) :
    d.emberAsk now = if d.pwr.st = .lit || d.pwr.st = .snuffed then d.emberStart now
      else if d.pwr.st = .dim then { d with pwr := { d.pwr with emberReq := true } } else d := if_neg (by simp [hm, hw])

theorem Dev.emberAsk_of_serves {d : Dev} (now : Nat) (hm : d.pwr.mode ≠ .plain) (hw : d.pwr.emberWait = none)
    (hst : d.pwr.st = .lit ∨ d.pwr.st = .snuffed) : d.emberAsk now = d.emberStart now :=
  (Dev.emberAsk_of_taken now hm hw).trans (if_pos (by simpa using hst))

theorem Dev.emberAsk_of_dim {d : Dev} (now : Nat) (hm : d.pwr.mode ≠ .plain) (hw : d.pwr.emberWait = none) (hst : d.pwr.st = .dim) :
    d.emberAsk now = { d with pwr := { d.pwr with emberReq := true } } :=
  (Dev.emberAsk_of_taken now hm hw).trans ((if_neg (by simp [hst])).trans (if_pos hst))

theorem Dev.emberAsk_of_other {d : Dev} (now : Nat) (hm : d.pwr.mode ≠ .plain) (hw : d.pwr.emberWait = none)
    (h1 : d.pwr.st ≠ .lit) (h2 : d.pwr.st ≠ .snuffed) (h3 : d.pwr.st ≠ .dim) : d.emberAsk now = d :=
  (Dev.emberAsk_of_taken now hm hw).trans ((if_neg (by simp [h1, h2])).trans (if_neg h3))

/-- The power unit waiting for EMBER. -/
def Dev.emberBegins (d : Dev) (now : Nat) : Dev := { d with pwr := { d.pwr with emberReq := false, emberWait := some now } }

/-- The map's unit about to close its field. -/
def Dev.covFlushes (d : Dev) : Dev := { d with cov := { d.cov with cmd := 2, cmdUnder := false } }

theorem Dev.emberStart_of_open {d : Dev} (now : Nat) (h : d.rd COV.FIELD_STATE = 1) : d.emberStart now = (d.emberBegins now).covFlushes :=
  if_pos h

theorem Dev.emberStart_of_not_open {d : Dev} (now : Nat) (h : d.rd COV.FIELD_STATE ≠ 1) : d.emberStart now = d.emberBegins now := if_neg h

/-- The way into EMBER begins: the field, if OPEN, is to close. -/
theorem Dev.emberStart_spec (d : Dev) (now : Nat) :
    (d.emberStart now).pwr = { d.pwr with emberReq := false, emberWait := some now } ∧
    (d.rd COV.FIELD_STATE = 1 → (d.emberStart now).cov = { d.cov with cmd := 2, cmdUnder := false }) ∧
    (d.rd COV.FIELD_STATE ≠ 1 → (d.emberStart now).cov = d.cov) ∧
    d.emberStart now = { d with pwr := (d.emberStart now).pwr, cov := (d.emberStart now).cov } := by
  by_cases h : d.rd COV.FIELD_STATE = 1
  · rw [Dev.emberStart_of_open now h]
    exact ⟨rfl, fun _ => rfl, fun hn => absurd h hn, rfl⟩
  · rw [Dev.emberStart_of_not_open now h]
    exact ⟨rfl, fun hs => absurd hs h, fun _ => rfl, rfl⟩

/-! ### The end of an episode -/

/-- The episode's record: its duration, its lowest voltage, and its end. -/
theorem Dev.closeEpisode_spec (d : Dev) (now : Nat) (x : Episode) (cycles : Nat) (byReset : Bool) :
    let e := d.closeEpisode now x cycles byReset
    OnlyRegsAndEvents [PWR.DIM_CNT, PWR.DIM_LAST, PWR.VMIN_MV]
      { d with pwr := { d.pwr with uv := none }, mram := { d.mram with episode := none } } e ∧
    e.rd PWR.DIM_CNT = counted d PWR.DIM_CNT ∧ e.rd PWR.DIM_LAST = min 0xFFFF (cycles / ms 1) ∧
    e.rd PWR.VMIN_MV = min 0xFFFF x.minMv ∧ RawKept d e := by
  unfold Dev.closeEpisode
  extract_lets dur _ _ d1 d2 e
  have h1 : OnlyRegs [PWR.DIM_CNT, PWR.DIM_LAST, PWR.VMIN_MV] d1 d2 :=
    ((((OnlyRegs.refl _ d1).thenBump (by simp)).thenWr (by simp) _).thenWr (by simp) _)
  have hq : Quiet d2 e := stageFree_quiet _ _ _ _ _ _
  have hraw : RawKept d2 e := stageFree_rawKept _ _ _ _ _ _
  have hcnt : d2.rd PWR.DIM_CNT = counted d PWR.DIM_CNT :=
    (Dev.rd_wr_ne _ _ (by decide)).trans ((Dev.rd_wr_ne _ _ (by decide)).trans (d1.rd_bump_self PWR.DIM_CNT))
  have hlast : d2.rd PWR.DIM_LAST = min 0xFFFF dur % 2 ^ 16 := (Dev.rd_wr_ne _ _ (by decide)).trans (Dev.rd_wr_self _ _ _)
  have hmin : d2.rd PWR.VMIN_MV = min 0xFFFF x.minMv % 2 ^ 16 := Dev.rd_wr_self _ _ _
  have hraw2 : RawKept d d2 :=
    ((RawKept.of_regs (e := d1) rfl).trans (RawKept.wr d1 PWR.DIM_CNT _ (by decide))).trans
      ((RawKept.wr _ PWR.DIM_LAST _ (by decide)).trans (RawKept.wr _ PWR.VMIN_MV _ (by decide)))
  clear_value d2 e
  refine ⟨h1.toOnlyRegsAndEvents.thenQuiet hq, ?_, ?_, ?_, hraw2.trans hraw⟩
  · exact (hq.rd _ (Field.not_evtKey_of_ofEvents_eq_false _ (by decide) (by decide))).trans hcnt
  · exact (hq.rd _ (Field.not_evtKey_of_ofEvents_eq_false _ (by decide) (by decide))).trans (hlast.trans (Nat.mod_eq_of_lt (by omega)))
  · exact (hq.rd _ (Field.not_evtKey_of_ofEvents_eq_false _ (by decide) (by decide))).trans (hmin.trans (Nat.mod_eq_of_lt (by omega)))

/-! ### DIM begins and ends -/

/-- The loads that shed go off, and their event. -/
theorem Dev.lswDim_spec (d : Dev) (now : Nat) : ∃ m, LswTouch d m ∧ (d.lswDim now = m ∨ d.lswDim now = m.shedEvent now) := by
  unfold Dev.lswDim
  extract_lets ns e
  have h : LswTouch d e := Touches.each ns _ (fun x n hn => (lswTouch_modLsw x n _ (by intro; rfl)).trans
    (lswTouch_lswApply _ now now (List.mem_range.mp (List.mem_of_mem_filter hn)))) d
  refine ⟨e, h, ?_⟩
  split
  · exact .inl rfl
  · exact .inr rfl

/-- The loads' shedding leaves every register of the power page, the episode and the retained memory as they were. -/
theorem Dev.lswDim_keeps (d : Dev) (now : Nat) : (d.lswDim now).pwr.st = d.pwr.st ∧ (d.lswDim now).pwr.uv = d.pwr.uv ∧
    (d.lswDim now).mram = d.mram ∧ RawKept d (d.lswDim now) ∧
    (∀ f : Field, f.lo < 32 → f.ofEvents = false → f.addr < 0x030000 → (d.lswDim now).rd f = d.rd f) := by
  obtain ⟨m, hm, h⟩ := d.lswDim_spec now
  have hpwr : m.pwr = d.pwr := (congrArg (fun x => x.1.pwr) hm.rest :)
  have hmram : m.mram = d.mram := (congrArg (fun x => x.1.mram) hm.rest :)
  have hrd : ∀ f : Field, f.lo < 32 → f.ofEvents = false → f.addr < 0x030000 → m.rd f = d.rd f :=
    fun f hlo hev hout => hm.regs f hlo hev (by simp only [lswPages, List.mem_singleton, forall_eq]; omega)
  rcases h with h | h
  · rw [h, hpwr]
    exact ⟨rfl, rfl, hmram, hm.raw, hrd⟩
  · rw [h]
    unfold Dev.shedEvent
    split
    · rw [hpwr]
      exact ⟨rfl, rfl, hmram, hm.raw, hrd⟩
    · rw [Dev.fire_pwr, Dev.fire_mram]
      refine ⟨congrArg (fun p => p.st) hpwr, congrArg (fun p => p.uv) hpwr, hmram,
        hm.raw.trans ((RawKept.of_regs rfl).trans (fire_rawKept { m with pwr := { m.pwr with dimShed := true } } now EVT.LSW_SHED 0 0)), fun f hlo hev hout => ?_⟩
      exact (Dev.rd_fire_of _ _ _ _ _ hlo hev).trans (hrd f hlo hev hout)

/-- The episode that begins, kept in the retained memory. -/
def Dev.episodeBegins (d : Dev) (now mv held : Nat) : Dev :=
  let x : Episode := { start := now - held, minMv := mv, lastUpd := now }
  { (d.wr PWR.VBAT_MV mv).wr PWR.VMIN_MV mv with pwr := { d.pwr with uv := some x, dimShed := false }, mram := { d.mram with episode := some x } }

theorem Dev.episodeBegins_spec (d : Dev) (now held : Nat) (mv : BitVec 16) :
    let e := d.episodeBegins now mv.toNat held
    e.pwr.uv = some { start := now - held, minMv := mv.toNat, lastUpd := now } ∧ e.mram = { d.mram with episode := e.pwr.uv } ∧
      e.rd PWR.VBAT_MV = mv.toNat ∧ e.rd PWR.VMIN_MV = mv.toNat ∧ e.pwr.st = d.pwr.st ∧
      OnlyRegs [PWR.VBAT_MV, PWR.VMIN_MV] { d with pwr := e.pwr, mram := e.mram } e := by
  have hmv : mv.toNat % 2 ^ 16 = mv.toNat := Nat.mod_eq_of_lt mv.isLt
  have hregs : OnlyRegs [PWR.VBAT_MV, PWR.VMIN_MV] d ((d.wr PWR.VBAT_MV mv.toNat).wr PWR.VMIN_MV mv.toNat) :=
    (OnlyRegs.wr d PWR.VBAT_MV _ (by simp)).thenWr (by simp) _
  refine ⟨rfl, rfl, ?_, ?_, rfl, rfl, fun g hg => hregs.2 g hg⟩
  · exact (Dev.rd_wr_ne _ _ (by decide)).trans ((Dev.rd_wr_self d PWR.VBAT_MV _).trans hmv)
  · exact (Dev.rd_wr_self _ PWR.VMIN_MV _).trans hmv

theorem dimEntry_effect (s : State) (el : Nat) (mv : BitVec 16) (held : Nat) :
    Answers (.dimEntry el mv held) s (fun now d e =>
      (d.alive = false ∨ held < us 50 ∨ d.pwr.uv ≠ none ∨ d.vwarn ≤ mv.toNat ∨ (d.pwr.st ≠ .lit ∧ d.pwr.st ≠ .snuffed) → e = d) ∧
      (d.alive = true → us 50 ≤ held → d.pwr.st = .lit ∨ d.pwr.st = .snuffed → d.pwr.uv = none → mv.toNat < d.vwarn →
        e.pwr.uv = some { start := now - held, minMv := mv.toNat, lastUpd := now } ∧ e.mram = { d.mram with episode := e.pwr.uv } ∧
        e.rd PWR.VBAT_MV = mv.toNat ∧ e.rd PWR.VMIN_MV = mv.toNat ∧
        (d.pwr.st = .lit → e.pwr.st = .dim ∧ e.raised EVT.PWR_DIM 0 = true) ∧
        (d.pwr.st = .snuffed → e.pwr.st = .snuffed ∧ OnlyRegs [PWR.VBAT_MV, PWR.VMIN_MV] { d with pwr := e.pwr, mram := e.mram } e))) := by
  refine answers_of_forall (f := fun now d => d.dimEntry now mv.toNat held) rfl (fun now d => ⟨fun h => ?_, fun ha hh hst huv hmv => ?_⟩)
  · refine if_neg (fun hc => ?_)
    simp only [Bool.and_eq_true, Bool.or_eq_true, decide_eq_true_eq, beq_iff_eq, Option.isNone_iff_eq_none] at hc
    obtain ⟨⟨⟨⟨hal, hhe⟩, hst⟩, huv⟩, hmv⟩ := hc
    rcases h with h | h | h | h | ⟨h1, h2⟩
    · rw [hal] at h
      cases h
    · omega
    · exact h huv
    · omega
    · exact hst.elim h1 h2
  · obtain ⟨hu, hm, hv, hmin, hs, honly⟩ := d.episodeBegins_spec now held mv
    have heq : d.dimEntry now mv.toNat held = if (d.episodeBegins now mv.toNat held).pwr.st = .lit then
        (({ d.episodeBegins now mv.toNat held with pwr := { (d.episodeBegins now mv.toNat held).pwr with st := .dim } }).fire now EVT.PWR_DIM 0
          (DevState.code .dim)).lswDim now else d.episodeBegins now mv.toNat held :=
      if_pos (by simp [ha, hh, hst, huv, hmv])
    generalize d.episodeBegins now mv.toNat held = x at hu hm hv hmin hs honly heq
    rw [heq]
    rcases hst with hst | hst
    · rw [if_pos (hs.trans hst)]
      obtain ⟨k1, k2, k3, k4, k5⟩ := (({ x with pwr := { x.pwr with st := .dim } }).fire now EVT.PWR_DIM 0 (DevState.code .dim)).lswDim_keeps now
      rw [Dev.fire_pwr] at k1 k2
      rw [Dev.fire_mram] at k3
      refine ⟨k2.trans hu, ?_, ?_, ?_, fun _ => ⟨k1, k4.raised (by decide) (Dev.raised_fire _ _ _ _ _ (by omega) (by decide))⟩, fun h => ?_⟩
      · rw [k2, k3]
        exact hm
      · exact (k5 _ (by decide) (by decide) (by decide)).trans ((Dev.rd_fire_of _ _ _ _ _ (by decide) (by decide)).trans hv)
      · exact (k5 _ (by decide) (by decide) (by decide)).trans ((Dev.rd_fire_of _ _ _ _ _ (by decide) (by decide)).trans hmin)
      · rw [hst] at h
        cases h
    · have hx : x.pwr.st = .snuffed := hs.trans hst
      rw [if_neg (by rw [hx]; decide)]
      refine ⟨hu, hm, hv, hmin, fun h => ?_, fun _ => ⟨hx, honly⟩⟩
      rw [hst] at h
      cases h

/-- The episode of `x` closed at its end. -/
def Dev.episodeEnds (d : Dev) (now mv low : Nat) (x : Episode) : Dev :=
  (d.wr PWR.VBAT_MV mv).closeEpisode now { x with minMv := min x.minMv low } (now - x.start) false

/-- The block LIT again. -/
def Dev.litAgain (d : Dev) : Dev := { d with pwr := { d.pwr with st := .lit, dimMaxDue := false } }

theorem Dev.dimEnd_of_none {d : Dev} (now mv low held : Nat) (h : d.pwr.uv = none) : d.dimEnd now mv low held = d := by
  unfold Dev.dimEnd
  rw [h]

theorem Dev.dimEnd_of_some {d : Dev} (now mv low held : Nat) {x : Episode} (h : d.pwr.uv = some x) :
    d.dimEnd now mv low held =
      if d.alive && decide (d.vwarn + 300 ≤ mv) && decide (ms 10 ≤ held) then
        let e := d.episodeEnds now mv low x
        if e.pwr.st = .dim then
          let f := e.litAgain.fire now EVT.PWR_DIM_END 0 (DevState.code .lit)
          if f.pwr.emberReq then f.emberAsk now else f
        else if e.pwr.st = .snuffed then e.causesNow else e
      else d := by
  unfold Dev.dimEnd
  rw [h]
  rfl

/-- A request for EMBER that waited in DIM is asked again: the state, the episode and the registers stand. -/
theorem Dev.emberAgain_spec (d : Dev) (now : Nat) (hst : d.pwr.st = .lit) :
    let e := if d.pwr.emberReq then d.emberAsk now else d
    e.pwr.st = .lit ∧ e.pwr.uv = d.pwr.uv ∧ e.pwr.dimMaxDue = d.pwr.dimMaxDue ∧ e.mram = d.mram ∧ e.regs = d.regs ∧
      (d.pwr.emberReq = true → d.pwr.mode ≠ .plain → d.pwr.emberWait = none → e.pwr.emberWait = some now) ∧
      (d.pwr.emberReq = false → e.pwr.emberWait = d.pwr.emberWait) := by
  intro e
  cases hreq : d.pwr.emberReq
  · have he : e = d := if_neg (by rw [hreq]; decide)
    rw [he]
    exact ⟨hst, rfl, rfl, rfl, rfl, (fun h => by cases h), fun _ => rfl⟩
  · have he : e = d.emberAsk now := if_pos hreq
    by_cases hplain : d.pwr.mode = .plain ∨ d.pwr.emberWait ≠ none
    · rw [he, Dev.emberAsk_of_refused now hplain]
      exact ⟨hst, rfl, rfl, rfl, rfl, fun _ hm hw => absurd hplain (by simp [hm, hw]), fun _ => rfl⟩
    · obtain ⟨hm, hw⟩ := not_or.mp hplain
      have hw : d.pwr.emberWait = none := by simpa using hw
      obtain ⟨hpwr, -, -, hrest⟩ := d.emberStart_spec now
      rw [he, Dev.emberAsk_of_serves now hm hw (.inl hst), hpwr]
      exact ⟨hst, rfl, rfl, (congrArg Dev.mram hrest :), (congrArg Dev.regs hrest :), fun _ _ _ => rfl, (fun h => by cases h)⟩

theorem dimEnd_effect (s : State) (el : Nat) (mv : BitVec 16) (held : Nat) (low : BitVec 16) :
    Answers (.dimEnd el mv low held) s (fun now d e =>
      (d.pwr.uv = none ∨ d.alive = false ∨ mv.toNat < d.vwarn + 300 ∨ held < ms 10 → e = d) ∧
      (∀ x, d.pwr.uv = some x → d.alive = true → d.vwarn + 300 ≤ mv.toNat → ms 10 ≤ held →
        e.pwr.uv = none ∧ e.mram.episode = none ∧ e.rd PWR.VBAT_MV = mv.toNat ∧ e.rd PWR.DIM_CNT = counted d PWR.DIM_CNT ∧
        e.rd PWR.DIM_LAST = min 0xFFFF ((now - x.start) / ms 1) ∧ e.rd PWR.VMIN_MV = min 0xFFFF (min x.minMv low.toNat) ∧
        (d.pwr.st = .dim → e.pwr.st = .lit ∧ e.pwr.dimMaxDue = false ∧ e.raised EVT.PWR_DIM_END 0 = true ∧
          (d.pwr.emberReq = true → d.pwr.mode ≠ .plain → d.pwr.emberWait = none → e.pwr.emberWait = some now) ∧
          (d.pwr.emberReq = false → e.pwr.emberWait = d.pwr.emberWait)) ∧
        (d.pwr.st = .snuffed → e.pwr.st = .snuffed ∧ bitOf (e.rd PWR.SNUFF_CAUSES) 2 = false))) := by
  refine answers_of_forall (f := fun now d => d.dimEnd now mv.toNat low.toNat held) rfl (fun now d => ⟨fun h => ?_, fun x hx ha hmv hh => ?_⟩)
  · cases huv : d.pwr.uv with
    | none => exact Dev.dimEnd_of_none now _ _ _ huv
    | some x =>
      refine (Dev.dimEnd_of_some now _ _ _ huv).trans (if_neg fun hc => ?_)
      simp only [Bool.and_eq_true, decide_eq_true_eq] at hc
      obtain ⟨⟨hal, hv⟩, hhe⟩ := hc
      rcases h with h | h | h | h
      · rw [huv] at h
        cases h
      · rw [hal] at h
        cases h
      · omega
      · omega
  · obtain ⟨honly, hcnt, hlast, hmin, -⟩ := (d.wr PWR.VBAT_MV mv.toNat).closeEpisode_spec now { x with minMv := min x.minMv low.toNat } (now - x.start) false
    have heq := (Dev.dimEnd_of_some now mv.toNat low.toNat held hx).trans (if_pos (by simp [ha, hmv, hh]))
    have hends : d.episodeEnds now mv.toNat low.toNat x =
      (d.wr PWR.VBAT_MV mv.toNat).closeEpisode now { x with minMv := min x.minMv low.toNat } (now - x.start) false := rfl
    rw [← hends] at honly hcnt hlast hmin
    generalize d.episodeEnds now mv.toNat low.toNat x = y at honly hcnt hlast hmin heq
    have hpwr : y.pwr = { d.pwr with uv := none } := (congrArg Dev.pwr honly.1 :)
    have hmram : y.mram = { d.mram with episode := none } := (congrArg Dev.mram honly.1 :)
    have hvbat : y.rd PWR.VBAT_MV = mv.toNat := (honly.2 PWR.VBAT_MV (by decide) (by decide) (by decide)).trans
      ((Dev.rd_wr_self d PWR.VBAT_MV _).trans (Nat.mod_eq_of_lt mv.isLt))
    have hcnt : y.rd PWR.DIM_CNT = counted d PWR.DIM_CNT := by
      rw [hcnt, counted, counted, Dev.rd_wr_ne _ _ (by decide)]
    rw [heq]
    clear heq hends
    dsimp only
    by_cases hdim : d.pwr.st = .dim
    · rw [if_pos (by rw [hpwr]; exact hdim)]
      have hraised : (y.litAgain.fire now EVT.PWR_DIM_END 0 (DevState.code .lit)).raised EVT.PWR_DIM_END 0 = true :=
        Dev.raised_fire _ _ _ _ _ (by omega) (by decide)
      have hzpwr : (y.litAgain.fire now EVT.PWR_DIM_END 0 (DevState.code .lit)).pwr = { d.pwr with uv := none, st := .lit, dimMaxDue := false } := by
        rw [Dev.fire_pwr, Dev.litAgain, hpwr]
      have hzmram : (y.litAgain.fire now EVT.PWR_DIM_END 0 (DevState.code .lit)).mram = y.mram := Dev.fire_mram _ _ _ _ _
      have hzrd : ∀ f : Field, f.lo < 32 → f.ofEvents = false → (y.litAgain.fire now EVT.PWR_DIM_END 0 (DevState.code .lit)).rd f = y.rd f :=
        fun f hlo hev => Dev.rd_fire_of _ _ _ _ _ hlo hev
      generalize y.litAgain.fire now EVT.PWR_DIM_END 0 (DevState.code .lit) = z at hraised hzpwr hzmram hzrd
      obtain ⟨g1, g2, g3, g4, g5, g6, g7⟩ := z.emberAgain_spec now (by rw [hzpwr])
      have hrd : ∀ f : Field, f.lo < 32 → f.ofEvents = false → (if z.pwr.emberReq then z.emberAsk now else z).rd f = y.rd f :=
        fun f hlo hev => (Dev.rd_congr _ _ f (by rw [g5])).trans (hzrd f hlo hev)
      rw [hzpwr] at g2 g3 g6 g7
      rw [hzpwr] at hrd g1 g4 g5
      rw [hzpwr]
      refine ⟨g2, ?_, (hrd _ (by decide) (by decide)).trans hvbat, (hrd _ (by decide) (by decide)).trans hcnt,
        (hrd _ (by decide) (by decide)).trans hlast, (hrd _ (by decide) (by decide)).trans hmin,
        fun _ => ⟨g1, g3, (RawKept.of_regs g5).raised (by decide) hraised, g6, g7⟩, fun h => ?_⟩
      · rw [g4, hzmram, hmram]
      · rw [hdim] at h
        cases h
    · rw [if_neg (by rw [hpwr]; exact hdim)]
      by_cases hsn : d.pwr.st = .snuffed
      · rw [if_pos (by rw [hpwr]; exact hsn)]
        have hc := y.onlyRegs_causesNow
        have hgone : y.causeGone 2 = true := by
          simp only [Dev.causeGone, hpwr, Option.isNone_none]
        have hbit := y.bitOf_causesNow (j := 2) (by omega)
        rw [hgone, Bool.not_true, Bool.and_false] at hbit
        generalize y.causesNow = z at hc hbit
        have hzpwr : z.pwr = y.pwr := (congrArg Dev.pwr hc.1 :)
        have hzmram : z.mram = y.mram := (congrArg Dev.mram hc.1 :)
        refine ⟨by rw [hzpwr, hpwr], ?_, (hc.2 PWR.VBAT_MV (by decide)).trans hvbat, (hc.2 PWR.DIM_CNT (by decide)).trans hcnt,
          (hc.2 PWR.DIM_LAST (by decide)).trans hlast, (hc.2 PWR.VMIN_MV (by decide)).trans hmin, fun h => absurd h hdim, fun _ => ⟨?_, hbit⟩⟩
        · rw [hzmram, hmram]
        · rw [hzpwr, hpwr]
          exact hsn
      · rw [if_neg (by rw [hpwr]; exact hsn)]
        exact ⟨by rw [hpwr], by rw [hmram], hvbat, hcnt, hlast, hmin, fun h => absurd h hdim, fun h => absurd h hsn⟩

end Sys2Proof.Machine
end

section
/-! PROOFS. DIM_MAX, the episode's updates, overvoltage of VBAT, and SNS5V (R493 to R499). -/
namespace Sys2Proof.Machine

theorem Dev.dimMax_of_none {d : Dev} (now : Nat) (h : d.pwr.uv = none) : d.dimMax now = d := by
  unfold Dev.dimMax
  rw [h]

theorem Dev.dimMax_of_some {d : Dev} (now : Nat) {x : Episode} (h : d.pwr.uv = some x) :
    d.dimMax now = if d.alive && d.pwr.st == .dim && !d.pwr.dimMaxDue && decide (x.start + ms (d.rdH 100 60000 PWR.DIM_MAX) ≤ now) then
      if (d.fire now EVT.PWR_DIM_MAX 0 0).edgePassed now then
        { d.fire now EVT.PWR_DIM_MAX 0 0 with pwr := { (d.fire now EVT.PWR_DIM_MAX 0 0).pwr with dimMaxDue := true } }
      else (d.fire now EVT.PWR_DIM_MAX 0 0).enterSnuffed now 2
    else d := by
  unfold Dev.dimMax
  rw [h]

theorem dimMax_effect (s : State) (el : Nat) :
    Answers (.dimMax el) s (fun now d e =>
      (d.alive = false ∨ d.pwr.uv = none ∨ d.pwr.st ≠ .dim ∨ d.pwr.dimMaxDue = true → e = d) ∧
      (d.alive = true → ∀ x, d.pwr.uv = some x → d.pwr.st = .dim → d.pwr.dimMaxDue = false →
        let at_ := x.start + ms (d.rdH 100 60000 PWR.DIM_MAX)
        (now < at_ → e = d) ∧
        (at_ ≤ now → e.raised EVT.PWR_DIM_MAX 0 = true) ∧
        (at_ ≤ now → d.edgePassed now = true → e.pwr = { d.pwr with dimMaxDue := true }) ∧
        (at_ ≤ now → d.edgePassed now = false → e.pwr.st = .snuffed ∧ e.pwr.dimMaxDue = false ∧ e.rd PWR.SNUFF_CAUSE = 2 ∧
          bitOf (e.rd PWR.SNUFF_CAUSES) 2 = true ∧ e.rd WDG.SNUFF_ACT = 1 ∧ e.raised EVT.PWR_SNUFFED 0 = true))) := by
  refine answers_of_forall (f := fun now d => d.dimMax now) rfl (fun now d => ⟨fun h => ?_, fun ha x hx hst hdue => ?_⟩)
  · cases hx : d.pwr.uv with
    | none => exact Dev.dimMax_of_none now hx
    | some x =>
      refine (Dev.dimMax_of_some now hx).trans (if_neg fun hc => ?_)
      simp only [Bool.and_eq_true, decide_eq_true_eq, beq_iff_eq, Bool.not_eq_true'] at hc
      obtain ⟨⟨⟨hal, hst⟩, hdue⟩, -⟩ := hc
      simp [hx, hal, hst, hdue] at h
  · intro at_
    have heq := Dev.dimMax_of_some now hx
    rcases Nat.lt_or_ge now at_ with hlt | hge
    · rw [if_neg (fun hc => Nat.not_le.mpr hlt (of_decide_eq_true (Bool.and_eq_true_iff.mp hc).2))] at heq
      exact ⟨fun _ => heq, fun h => absurd h (by omega), fun h => absurd h (by omega), fun h => absurd h (by omega)⟩
    rw [if_pos (by simpa [ha, hst, hdue] using hge)] at heq
    have hraised : (d.fire now EVT.PWR_DIM_MAX 0 0).raised EVT.PWR_DIM_MAX 0 = true := Dev.raised_fire _ _ _ _ _ (by omega) (by decide)
    have hpwr : (d.fire now EVT.PWR_DIM_MAX 0 0).pwr = d.pwr := Dev.fire_pwr _ _ _ _ _
    have hedge : (d.fire now EVT.PWR_DIM_MAX 0 0).edgePassed now = d.edgePassed now :=
      Dev.edgePassed_congr now (Dev.fire_sys _ _ _ _ _) (Dev.fire_pair _ _ _ _ _) (Dev.rd_fire_of _ _ _ _ _ (by decide) (by decide))
    have hrd : (d.fire now EVT.PWR_DIM_MAX 0 0).rd PWR.SNUFF_CAUSES = d.rd PWR.SNUFF_CAUSES := Dev.rd_fire_of _ _ _ _ _ (by decide) (by decide)
    generalize d.fire now EVT.PWR_DIM_MAX 0 0 = y at heq hraised hpwr hedge hrd
    rw [heq, hedge]
    obtain ⟨e1, e2, e3, -, e5, e6, e7, -⟩ := y.enterSnuffed_spec now 2 (by simp [Dev.ticking, Dev.running, hpwr, hst])
    have hgone : y.causeGone 2 = false := by simp [Dev.causeGone, hpwr, hx]
    refine ⟨fun h => absurd h (by omega), fun _ => ?_, fun _ he => ?_, fun _ he => ?_⟩
    · split
      · exact hraised
      · exact e5.raised (by decide) hraised
    · rw [if_pos he, hpwr]
    · rw [if_neg (by simp [he])]
      refine ⟨by rw [e1], by rw [e1], e2, ?_, e7 (by rw [hpwr, hst]; decide), e6⟩
      rw [e3 2 (by omega), hgone]
      rfl

theorem episodeUpdate_effect (s : State) (el : Nat) (mv : BitVec 16) :
    Answers (.episodeUpdate el mv) s (fun now d e =>
      (d.alive = false ∨ d.pwr.uv = none → e = d) ∧
      (d.alive = true → ∀ x, d.pwr.uv = some x →
        (now < x.lastUpd + ms 100 → e = d) ∧
        (x.lastUpd + ms 100 ≤ now → e.pwr = { d.pwr with uv := some { x with minMv := min x.minMv mv.toNat, lastUpd := now } } ∧
          e.mram = { d.mram with episode := e.pwr.uv } ∧
          e.rd PWR.VMIN_MV = min x.minMv mv.toNat % 2 ^ 16 ∧ OnlyRegs [PWR.VMIN_MV] { d with pwr := e.pwr, mram := e.mram } e))) := by
  refine answers_of_forall (f := fun now d => d.episodeUpdate now mv.toNat) rfl (fun now d => ⟨fun h => ?_, fun ha x hx => ⟨fun hlt => ?_, fun hge => ?_⟩⟩)
  · unfold Dev.episodeUpdate
    cases hx : d.pwr.uv with
    | none => rfl
    | some x =>
      have ha : d.alive = false := h.resolve_right (by simp [hx])
      exact if_neg (by simp [ha])
  · unfold Dev.episodeUpdate
    rw [hx]
    exact if_neg (by simp; omega)
  · unfold Dev.episodeUpdate
    rw [hx]
    dsimp only
    rw [if_pos (by simp [ha, hge])]
    exact ⟨rfl, rfl, Dev.rd_wr_self _ PWR.VMIN_MV _, OnlyRegs.wr _ _ _ (by simp)⟩

theorem vbatOvervoltage_effect (s : State) (el : Nat) (mv : BitVec 16) (held : Nat) :
    Answers (.vbatOvervoltage el mv held) s (fun _ d e => (d.pwr.st = .off → e = d) ∧
      (d.pwr.st ≠ .off → e.rd PWR.VBAT_MV = mv.toNat ∧
        (40000 < mv.toNat → us 20 ≤ held → e.rd PWR.VBAT_OV = 1) ∧ (mv.toNat < 37000 → ms 5 ≤ held → e.rd PWR.VBAT_OV = 0) ∧
        ((37000 ≤ mv.toNat ∨ held < ms 5) → (mv.toNat ≤ 40000 ∨ held < us 20) → e.rd PWR.VBAT_OV = d.rd PWR.VBAT_OV) ∧
        OnlyRegs [PWR.VBAT_MV, PWR.VBAT_OV] d e)) := by
  refine answers_of_forall (f := fun _ d => if d.pwr.st = .off then d else d.vbatOv mv.toNat held) rfl (fun now d => ⟨fun h => if_pos h, fun h => ?_⟩)
  rw [if_neg h]
  have hmv : (d.wr PWR.VBAT_MV mv.toNat).rd PWR.VBAT_MV = mv.toNat := (Dev.rd_wr_self d PWR.VBAT_MV _).trans (Nat.mod_eq_of_lt mv.isLt)
  have hov : (d.wr PWR.VBAT_MV mv.toNat).rd PWR.VBAT_OV = d.rd PWR.VBAT_OV := Dev.rd_wr_ne d _ (by decide)
  have honly : OnlyRegs [PWR.VBAT_MV, PWR.VBAT_OV] d (d.wr PWR.VBAT_MV mv.toNat) := OnlyRegs.wr d _ _ (by simp)
  have heq : d.vbatOv mv.toNat held = if 40000 < mv.toNat ∧ us 20 ≤ held then (d.wr PWR.VBAT_MV mv.toNat).wr PWR.VBAT_OV 1
      else if mv.toNat < 37000 ∧ ms 5 ≤ held then (d.wr PWR.VBAT_MV mv.toNat).wr PWR.VBAT_OV 0 else d.wr PWR.VBAT_MV mv.toNat := by
    simp only [Dev.vbatOv, Bool.and_eq_true, decide_eq_true_eq]
  rw [heq]
  generalize d.wr PWR.VBAT_MV mv.toNat = y at hmv hov honly
  by_cases hhi : 40000 < mv.toNat ∧ us 20 ≤ held
  · rw [if_pos hhi]
    exact ⟨(Dev.rd_wr_ne y _ (by decide)).trans hmv, fun _ _ => Dev.rd_wr_self y _ _, fun hlo _ => by omega, fun _ h2 => by omega, honly.thenWr (by simp) _⟩
  · rw [if_neg hhi]
    by_cases hlo : mv.toNat < 37000 ∧ ms 5 ≤ held
    · rw [if_pos hlo]
      exact ⟨(Dev.rd_wr_ne y _ (by decide)).trans hmv, fun h1 h2 => absurd ⟨h1, h2⟩ hhi, fun _ _ => Dev.rd_wr_self y _ _, fun h1 _ => by omega,
        honly.thenWr (by simp) _⟩
    · rw [if_neg hlo]
      exact ⟨hmv, fun h1 h2 => absurd ⟨h1, h2⟩ hhi, fun h1 h2 => absurd ⟨h1, h2⟩ hlo, fun _ _ => hov, honly⟩

theorem sns5vFault_effect (s : State) (el held : Nat) (ma : BitVec 10) :
    Answers (.sns5vFault el ma held) s (fun now d e =>
        (d.alive = false ∨ held < ms 1 ∨ d.on PWR.SNS5V_EN = false ∨ d.pwr.sns5vOffAt ≠ none ∨ ma.toNat ≤ 450 → e = d) ∧
        (d.alive = true → ms 1 ≤ held → d.on PWR.SNS5V_EN = true → d.pwr.sns5vOffAt = none → 450 < ma.toNat →
          e.rd PWR.SNS5V_FLT = 1 ∧ e.rd PWR.SNS5V_MA = ma.toNat ∧ e.raised EVT.PWR_SNS5V 0 = true ∧
          e.pwr = { d.pwr with sns5vOffAt := some now } ∧ OnlyRegsAndEvents [PWR.SNS5V_FLT, PWR.SNS5V_MA] { d with pwr := e.pwr } e)) := by
  refine answers_of_forall (f := fun now d => d.sns5vFault now ma.toNat held) rfl (fun now d => ⟨fun h => ?_, fun ha hh hen hoff hma => ?_⟩)
  · refine if_neg fun hc => ?_
    simp only [Bool.and_eq_true, decide_eq_true_eq, Option.isNone_iff_eq_none] at hc
    obtain ⟨⟨⟨⟨hal, hhe⟩, hen⟩, hoff⟩, hma⟩ := hc
    rcases h with h | h | h | h | h
    · rw [hal] at h
      cases h
    · omega
    · rw [hen] at h
      cases h
    · exact h hoff
    · omega
  · have heq : d.sns5vFault now ma.toNat held =
        (({ d with pwr := { d.pwr with sns5vOffAt := some now } }.wr PWR.SNS5V_MA ma.toNat).wr PWR.SNS5V_FLT 1).fire now EVT.PWR_SNS5V 0 1 :=
      if_pos (by simp [ha, hh, hen, hoff, hma])
    rw [heq, Dev.fire_pwr]
    refine ⟨?_, ?_, Dev.raised_fire _ _ _ _ _ (by omega) (by decide), rfl,
      (((OnlyRegs.wr _ PWR.SNS5V_MA _ (by simp)).thenWr (by simp) _).toOnlyRegsAndEvents).thenFire _ _ _ _⟩
    · exact (Dev.rd_fire_of _ _ _ _ _ (by decide) (by decide)).trans (Dev.rd_wr_self _ PWR.SNS5V_FLT _)
    · exact (Dev.rd_fire_of _ _ _ _ _ (by decide) (by decide)).trans ((Dev.rd_wr_ne _ _ (by decide)).trans
        ((Dev.rd_wr_self _ PWR.SNS5V_MA _).trans (Nat.mod_eq_of_lt ma.isLt)))

theorem sns5vRetry_effect (s : State) (el held : Nat) (ma : BitVec 10) :
      Answers (.sns5vRetry el ma held) s (fun now d e => d.alive = true →
        (d.pwr.sns5vOffAt = none ∨ d.on PWR.SNS5V_EN = false → e = d) ∧
        (∀ t, d.pwr.sns5vOffAt = some t → d.on PWR.SNS5V_EN = true →
          (now < t + ms 100 + held → e = d) ∧
          (t + ms 100 + held ≤ now → 450 < ma.toNat → ms 1 ≤ held → e.pwr = { d.pwr with sns5vOffAt := some now } ∧
            e.rd PWR.SNS5V_MA = ma.toNat ∧ OnlyRegs [PWR.SNS5V_MA] { d with pwr := e.pwr } e) ∧
          (t + ms 100 + held ≤ now → ma.toNat ≤ 450 → ms 10 ≤ held → e.pwr = { d.pwr with sns5vOffAt := none } ∧
            e.rd PWR.SNS5V_FLT = 0 ∧ e.rd PWR.SNS5V_MA = ma.toNat) ∧
          (t + ms 100 + held ≤ now → (450 < ma.toNat ∧ held < ms 1) ∨ (ma.toNat ≤ 450 ∧ held < ms 10) → e = d))) := by
  refine answers_of_forall (f := fun now d => if d.alive then d.sns5vRetry now ma.toNat held else d) rfl (fun now d ha => ?_)
  rw [if_pos ha]
  have hma : ma.toNat % 2 ^ 10 = ma.toNat := Nat.mod_eq_of_lt ma.isLt
  unfold Dev.sns5vRetry
  refine ⟨fun h => ?_, fun t ht hen => ?_⟩
  · cases ht : d.pwr.sns5vOffAt with
    | none => rfl
    | some t =>
      have hen : d.on PWR.SNS5V_EN = false := h.resolve_left (by simp [ht])
      exact if_pos (by simp [hen])
  · rw [ht]
    dsimp only
    refine ⟨fun hlt => if_pos (by simp [hlt]), fun hge hhi hh => ?_, fun hge hlo hh => ?_, fun hge hcase => ?_⟩
    · rw [if_neg (by simp [hen]; omega), if_pos hhi, if_pos hh]
      exact ⟨rfl, (Dev.rd_wr_self _ PWR.SNS5V_MA _).trans hma, OnlyRegs.wr _ _ _ (by simp)⟩
    · rw [if_neg (by simp [hen]; omega), if_neg (by omega), if_pos hh]
      exact ⟨rfl, Dev.rd_wr_self _ PWR.SNS5V_FLT _, (Dev.rd_wr_ne _ _ (by decide)).trans ((Dev.rd_wr_self _ PWR.SNS5V_MA _).trans hma)⟩
    · rw [if_neg (by simp [hen]; omega)]
      rcases hcase with ⟨hhi, hh⟩ | ⟨hlo, hh⟩
      · rw [if_pos hhi, if_neg (by omega)]
      · rw [if_neg (by omega), if_neg (by omega)]

end Sys2Proof.Machine
end

section
/-! PROOFS. The supply of the banks: suspension and return (R326, R333, R491 to R499). -/
namespace Sys2Proof.Machine

/-! ### The actuators of a suspended bank -/

/-- A channel whose bank is suspended: a start that is held is dropped, a drive ends with the slow decay. -/
def Dev.suspEnds (d : Dev) (now c : Nat) : Dev := (d.dropStart now c).endDrive now c [15] true

/-- What the suspension leaves of a channel. -/
def IdcCh.Suspended (now : Nat) (x y : IdcCh) : Prop :=
  (x.act = .wait ∨ x.act = .defer → y.act = .idle) ∧
  (∀ p, x.act = .on → x.pulse = some p → y.act = .idle ∧ y.decay = true ∧ y.decFast = false ∧ y.lastEnd = some now ∧
    ∃ q, y.done = some q ∧ bitOf q.flags 15 = true)

theorem Dev.idcCh_dropStart_ne (d : Dev) (now : Nat) {c k : Nat} (h : c ≠ k) : (d.dropStart now c).idcCh k = d.idcCh k := by
  unfold Dev.dropStart
  split
  · exact Dev.idcCh_modIdc_ne d _ h
  · rfl

theorem Dev.idcCh_endDrive_ne (d : Dev) (now : Nat) {c k : Nat} (fl : List Nat) (slow : Bool) (h : c ≠ k) :
    (d.endDrive now c fl slow).idcCh k = d.idcCh k := by
  unfold Dev.endDrive
  split
  · exact Dev.idcCh_modIdc_ne d _ h
  · rfl

theorem Dev.idcCh_suspEnds_ne (d : Dev) (now : Nat) {c k : Nat} (h : c ≠ k) : (d.suspEnds now c).idcCh k = d.idcCh k :=
  (Dev.idcCh_endDrive_ne _ now _ _ h).trans (Dev.idcCh_dropStart_ne d now h)

theorem Dev.suspended_suspEnds (d : Dev) (now c : Nat) : (d.idcCh c).Suspended now ((d.suspEnds now c).idcCh c) := by
  unfold Dev.suspEnds
  refine ⟨fun hheld => ?_, fun p hact hp => ?_⟩
  · have hdrop : ((d.dropStart now c).idcCh c).act = .idle := by
      rw [Dev.dropStart, if_pos (by simpa [Dev.startHeld] using hheld), Dev.idcCh_modIdc_self]
    rw [Dev.endDrive_of_idle now [15] true hdrop]
    exact hdrop
  · rw [Dev.dropStart_of_not_held now (Dev.startHeld_of_on hact)]
    unfold Dev.endDrive
    rw [hact, hp]
    dsimp only
    rw [Dev.idcCh_modIdc_self]
    exact ⟨rfl, rfl, rfl, rfl, _, rfl, Pulse.flag_sets _ 15⟩

theorem idcTouch_suspEnds (d : Dev) (now c : Nat) : IdcTouch d (d.suspEnds now c) := by
  refine Touches.trans (b := d.dropStart now c) ?_ (idcTouch_endDrive _ _ _ _ _)
  exact Touches.opt (idcTouch_modIdc d c _ (by intro; rfl))

/-- A group of a suspended bank. -/
def Dev.groupSusp (d : Dev) (now g : Nat) : Dev :=
  ((d.each (groupChs g) (fun d c => d.suspEnds now c)).wr (IDG.BANK_SUSP g) 1).idcShow g

theorem IDG.isFault_bankSusp {g : Nat} (hg : g < 8) : (IDG.BANK_SUSP g).isFault = true ∧ (IDG.BANK_SUSP g).writable idcPages = true := by
  decide +revert

theorem IDG.bankSusp_key_ne {g k : Nat} (h : g ≠ k) : (IDG.BANK_SUSP g).key ≠ (IDG.BANK_SUSP k).key := by
  simp only [Field.key, IDG.BANK_SUSP]
  omega

theorem Dev.groupSusp_spec (d : Dev) (now : Nat) {g : Nat} (hg : g < 8) :
    IdcTouch d (d.groupSusp now g) ∧ (d.groupSusp now g).rd (IDG.BANK_SUSP g) = 1 ∧
      (∀ k, k ≠ g → k < 8 → (d.groupSusp now g).rd (IDG.BANK_SUSP k) = d.rd (IDG.BANK_SUSP k)) ∧
      (∀ k, k ∉ groupChs g → (d.groupSusp now g).idcCh k = d.idcCh k) ∧
      (∀ k ∈ groupChs g, (d.idcCh k).Suspended now ((d.groupSusp now g).idcCh k)) := by
  have htouch : IdcTouch d (d.each (groupChs g) (fun d c => d.suspEnds now c)) :=
    Touches.each _ _ (fun x c _ => idcTouch_suspEnds x now c) d
  have hkept : FaultsKept d (d.each (groupChs g) (fun d c => d.suspEnds now c)) :=
    FaultsKept.each _ _ (fun x c _ => (driveOf_dropStart x now c).kept.trans (driveOf_endDrive _ _ _ _ _).kept) d
  have hturn : ∀ k ∈ groupChs g, ∃ x : Dev, x.idcCh k = d.idcCh k ∧
      (d.each (groupChs g) (fun d c => d.suspEnds now c)).idcCh k = (x.suspEnds now k).idcCh k := fun k hk =>
    Dev.each_own_turn (fun d k => d.idcCh k) (fun d c => d.suspEnds now c) (groupChs_nodup g)
      (fun x c _ k _ hne => Dev.idcCh_suspEnds_ne x now (Ne.symm hne)) d hk
  have hout : ∀ k, k ∉ groupChs g → (d.each (groupChs g) (fun d c => d.suspEnds now c)).idcCh k = d.idcCh k := fun k hk => by
    have h : ∀ l : List Nat, k ∉ l → ∀ x : Dev, (x.each l (fun d c => d.suspEnds now c)).idcCh k = x.idcCh k := by
      intro l
      induction l with
      | nil => exact fun _ _ => rfl
      | cons c l ih =>
        intro hl x
        simp only [List.mem_cons, not_or] at hl
        exact (ih hl.2 _).trans (Dev.idcCh_suspEnds_ne x now (Ne.symm hl.1))
    exact h _ hk d
  unfold Dev.groupSusp
  generalize d.each (groupChs g) (fun d c => d.suspEnds now c) = y at htouch hkept hturn hout
  obtain ⟨hfault, hw⟩ := IDG.isFault_bankSusp hg
  have hshow := shows_idcShow (y.wr (IDG.BANK_SUSP g) 1) hg
  have hch : ∀ k, ((y.wr (IDG.BANK_SUSP g) 1).idcShow g).idcCh k = y.idcCh k := fun k => (hshow.idcCh k :)
  refine ⟨(htouch.trans (Touches.wr y _ 1 hw (by rfl))).trans (idcTouch_idcShow _ hg), (hshow.kept.faults _ hfault).trans (Dev.rd_wr_self y _ 1),
    fun k hk hk8 => ?_, fun k hk => (hch k).trans (hout k hk), fun k hk => ?_⟩
  · have hf := (IDG.isFault_bankSusp hk8).1
    exact (hshow.kept.faults _ hf).trans ((Dev.rd_wr_ne y 1 (IDG.bankSusp_key_ne (Ne.symm hk))).trans (hkept.faults _ hf))
  · obtain ⟨x, hx, hxk⟩ := hturn k hk
    rw [hch, hxk, ← hx]
    exact x.suspended_suspEnds now k

theorem mem_groupChs {g k : Nat} : k ∈ groupChs g ↔ k / 4 = g := by
  simp only [groupChs, List.mem_map, List.mem_range]
  constructor
  · rintro ⟨c, hc, rfl⟩
    omega
  · intro h
    exact ⟨k % 4, by omega, by omega⟩

/-- The actuators of a bank that is suspended (R326). -/
theorem Dev.idcBankOff_spec (d : Dev) (now : Nat) {b : Nat} (hb : b < 4) :
    IdcTouch d (d.idcBankOff now b) ∧ (d.idcBankOff now b).rd (IDG.BANK_SUSP (2 * b)) = 1 ∧ (d.idcBankOff now b).rd (IDG.BANK_SUSP (2 * b + 1)) = 1 ∧
      (∀ k, k / 8 ≠ b → (d.idcBankOff now b).idcCh k = d.idcCh k) ∧
      (∀ k, k / 8 = b → (d.idcCh k).Suspended now ((d.idcBankOff now b).idcCh k)) := by
  have heq : d.idcBankOff now b = (d.groupSusp now (2 * b)).groupSusp now (2 * b + 1) := rfl
  rw [heq]
  obtain ⟨h1, h2, -, h4, h5⟩ := d.groupSusp_spec now (g := 2 * b) (by omega)
  generalize d.groupSusp now (2 * b) = y at h1 h2 h4 h5
  obtain ⟨g1, g2, g3, g4, g5⟩ := y.groupSusp_spec now (g := 2 * b + 1) (by omega)
  refine ⟨h1.trans g1, (g3 _ (by omega) (by omega)).trans h2, g2, fun k hk => ?_, fun k hk => ?_⟩
  · rw [g4 k (by rw [mem_groupChs]; omega), h4 k (by rw [mem_groupChs]; omega)]
  · by_cases hk2 : k / 4 = 2 * b
    · rw [g4 k (by rw [mem_groupChs]; omega)]
      exact h5 k (mem_groupChs.mpr hk2)
    · rw [← h4 k (by rw [mem_groupChs]; omega)]
      exact g5 k (by rw [mem_groupChs]; omega)

/-! ### The switches of a suspended bank -/

/-- A switch that is off and waits for nothing. -/
def Dev.lswRests (d : Dev) (n : Nat) : Prop := (d.lswCh n).drv = false ∧ (d.lswCh n).waitFrom = none

/-- A switch that rests keeps resting while another one stops. -/
theorem Dev.lswRests_lswStop {d : Dev} (now : Nat) {n k : Nat} (hk : k < 16) (hne : n ≠ k) (h : d.lswRests k) :
    (d.lswStop now n).lswRests k := by
  unfold Dev.lswStop
  extract_lets was d1 d2 d3
  have h1 : d1.lswCh k = d.lswCh k := Dev.lswCh_modLsw_ne d _ hne
  have h3 : d3.lswCh k = d1.lswCh k := by
    subst d3
    split
    · have hcov : ∀ pt, CovPair d2 (d2.pushEdge pt false (now + d2.latCycles pt false)) := fun pt => covPair_pushEdge _ _ _ _
      split
      · exact (congrArg Prod.fst ((hcov _).lswView k) :)
      · rfl
    · rfl
  clear_value d3
  have hrest : d3.lswRests k := by
    unfold Dev.lswRests
    rw [h3, h1]
    exact h
  have hadmit := (Dev.lswAdmitN_spec 4 d3 now (lswBank_lt n)).2 k hk hrest.2
  have hch : ((d3.lswAdmit now (lswBank n)).lswShow now n).lswCh k = d3.lswCh k :=
    (congrArg Prod.fst ((Dev.lswView_lswShow _ now n k).trans hadmit) :)
  unfold Dev.lswRests
  rw [hch]
  exact hrest

theorem LSB.bankSusp_plain {b : Nat} (hb : b < 4) : (LSB.BANK_SUSP b).lo < 32 ∧ (LSB.BANK_SUSP b).ofSwitching = false ∧
    (LSB.BANK_SUSP b).ofEvents = false ∧ (LSB.BANK_SUSP b).writable lswPages = true := by decide +revert

theorem LSW.iMeas_key_ne_bankSusp (n : Nat) {b : Nat} (hb : b < 4) : (LSW.I_MEAS n).key ≠ (LSB.BANK_SUSP b).key := by
  simp only [Field.key, LSW.I_MEAS, LSB.BANK_SUSP]
  omega

theorem lswBank_of_mem {b n : Nat} (hb : b < 4) (h : n ∈ bankSwitches b) : lswBank n = b := by
  simp only [bankSwitches, List.mem_cons, List.not_mem_nil, or_false] at h
  unfold lswBank
  omega

theorem Dev.lswApply_of_susp {d : Dev} (now cmd : Nat) {n : Nat} (h : d.on (LSB.BANK_SUSP (lswBank n)) = true) :
    (d.lswWant n).1 = false ∧ d.lswApply now cmd n = if (d.lswCh n).drv || (d.lswCh n).waitFrom.isSome then d.lswStop now n else d.lswShow now n := by
  have hwant : (d.lswWant n).1 = false := by
    unfold Dev.lswWant
    dsimp only
    rw [if_pos (by simp [h])]
  refine ⟨hwant, ?_⟩
  unfold Dev.lswApply
  extract_lets w c d1
  exact if_pos (by simp [w, hwant])

/-- The switches of a suspended bank go off, one after the other. -/
theorem Dev.lswRests_each {d : Dev} (now : Nat) {b : Nat} (hb : b < 4) (hs : d.on (LSB.BANK_SUSP b) = true) {l : List Nat} (hl : ∀ n ∈ l, n ∈ bankSwitches b) :
    (d.each l (fun d n => d.lswApply now now n)).rd (LSB.BANK_SUSP b) = d.rd (LSB.BANK_SUSP b) ∧
      ∀ k, k < 16 → k ∈ l ∨ d.lswRests k → (d.each l (fun d n => d.lswApply now now n)).lswRests k := by
  induction l generalizing d with
  | nil => exact ⟨rfl, fun k _ h => h.resolve_left (by simp)⟩
  | cons n l ih =>
    have hn := hl n (by simp)
    have hn16 := bankSwitches_lt hb hn
    have hbank := lswBank_of_mem hb hn
    obtain ⟨hwant, heq⟩ := Dev.lswApply_of_susp now now (hbank.symm ▸ hs : d.on (LSB.BANK_SUSP (lswBank n)) = true)
    obtain ⟨hdrv, hwait, -⟩ := Dev.lswApply_of_unwanted now now hn16 hwant
    have hrd : (d.lswApply now now n).rd (LSB.BANK_SUSP b) = d.rd (LSB.BANK_SUSP b) :=
      (switched_lswApply d now now hn16).regs _ (LSB.bankSusp_plain hb).1 (LSB.bankSusp_plain hb).2.1
        (by simpa using LSW.iMeas_key_ne_bankSusp n hb)
    have hother : ∀ k, k < 16 → n ≠ k → d.lswRests k → (d.lswApply now now n).lswRests k := fun k hk hne hrest => by
      rw [heq]
      split
      · exact Dev.lswRests_lswStop now hk hne hrest
      · exact hrest
    obtain ⟨ih1, ih2⟩ := ih (d := d.lswApply now now n) ((Dev.on_congr hrd).trans hs) (fun m hm => hl m (by simp [hm]))
    refine ⟨ih1.trans hrd, fun k hk hor => ih2 k hk ?_⟩
    by_cases hnk : n = k
    · subst hnk
      exact .inr ⟨hdrv, hwait⟩
    · rcases hor with hmem | hrest
      · exact .inl ((List.mem_cons.mp hmem).resolve_left (Ne.symm hnk))
      · exact .inr (hother k hk hnk hrest)

theorem lswTouch_lswBankSusp (d : Dev) (now : Nat) {b : Nat} (hb : b < 4) (susp : Bool) : LswTouch d (d.lswBankSusp now b susp) :=
  Touches.trans (b := d.wrB (LSB.BANK_SUSP b) susp) (Touches.wr d _ _ (LSB.bankSusp_plain hb).2.2.2 (by rfl))
    (Touches.each (bankSwitches b) (fun d n => d.lswApply now now n) (fun x n hn => lswTouch_lswApply x now now (bankSwitches_lt hb hn)) _)

/-- The switches of a bank that is suspended are off and wait for nothing. -/
theorem Dev.lswBankSusp_spec (d : Dev) (now : Nat) {b : Nat} (hb : b < 4) : (d.lswBankSusp now b true).rd (LSB.BANK_SUSP b) = 1 ∧
    ∀ k ∈ bankSwitches b, (d.lswBankSusp now b true).lswRests k := by
  have hset : (d.wrB (LSB.BANK_SUSP b) true).rd (LSB.BANK_SUSP b) = 1 := Dev.rd_wrB_self _ _ _ rfl
  have hon : (d.wrB (LSB.BANK_SUSP b) true).on (LSB.BANK_SUSP b) = true := beq_iff_eq.mpr hset
  obtain ⟨h1, h2⟩ := Dev.lswRests_each now hb hon (l := bankSwitches b) (fun _ h => h)
  exact ⟨h1.trans hset, fun k hk => h2 k (bankSwitches_lt hb hk) (.inl hk)⟩

/-! ### A bank is suspended and returns -/

theorem vpwrField_spec {b : Nat} (hb : b < 4) : (vpwrField b).width = 16 ∧ (vpwrField b).key ≠ PWR.BANK_SUSP.key ∧
    (vpwrField b).key ≠ PWR.BANK_OV.key ∧ (vpwrField b).lo < 32 ∧ (vpwrField b).ofEvents = false ∧ (vpwrField b).addr < 0x030000 := by decide +revert

theorem EVT.pwrBank_bit {b : Nat} (hb : b < 4) : (evtPage EVT.PWR_BANK_SUSP b).2 < 32 ∧ (evtPage EVT.PWR_BANK_OK b).2 < 32 := by decide +revert

/-- The bank's supply noted: its voltage, its suspension and its overvoltage. -/
def Dev.bankNoted (d : Dev) (b mv : Nat) (susp ov : Bool) : Dev :=
  ((d.wr (vpwrField b) mv).wr PWR.BANK_SUSP (setBitOf (d.rd PWR.BANK_SUSP) b susp)).wr PWR.BANK_OV (setBitOf (d.rd PWR.BANK_OV) b ov)

theorem Dev.bankNoted_spec (d : Dev) {b : Nat} (hb : b < 4) (mv : BitVec 16) (susp ov : Bool) :
    let e := d.bankNoted b mv.toNat susp ov
    e.rd PWR.BANK_SUSP = setBitOf (d.rd PWR.BANK_SUSP) b susp % 2 ^ 4 ∧ e.rd (vpwrField b) = mv.toNat ∧ bitOf (e.rd PWR.BANK_OV) b = ov ∧
      e = { d with regs := e.regs } := by
  obtain ⟨hwidth, hsusp, hov, -⟩ := vpwrField_spec hb
  refine ⟨(Dev.rd_wr_ne _ _ (by decide)).trans (Dev.rd_wr_self _ _ _), ?_, ?_, rfl⟩
  · refine (Dev.rd_wr_ne _ _ (Ne.symm hov)).trans ((Dev.rd_wr_ne _ _ (Ne.symm hsusp)).trans ((Dev.rd_wr_self _ _ _).trans ?_))
    rw [hwidth]
    exact Nat.mod_eq_of_lt mv.isLt
  · have hmod := bitOf_mod (setBitOf (d.rd PWR.BANK_OV) b ov) b 4 hb
    unfold Dev.bankNoted
    rw [Dev.rd_wr_self]
    exact hmod.trans (bitOf_setBitOf _ b ov)

theorem Dev.bankNoted_eq (d : Dev) {b : Nat} (hb : b < 4) (mv : Nat) (susp ov : Bool) :
    d.bankNoted b mv susp ov =
      (let x := (d.wr (vpwrField b) mv).wr PWR.BANK_SUSP (setBitOf (d.rd PWR.BANK_SUSP) b susp)
       x.wr PWR.BANK_OV (setBitOf (x.rd PWR.BANK_OV) b ov)) := by
  obtain ⟨-, -, hov, -⟩ := vpwrField_spec hb
  unfold Dev.bankNoted
  dsimp only
  rw [Dev.rd_wr_ne _ _ (show PWR.BANK_SUSP.key ≠ PWR.BANK_OV.key by decide), Dev.rd_wr_ne _ _ hov]

/-- What the units of a bank leave of the power page. -/
theorem Dev.rd_of_bankTouch {a x y : Dev} (h1 : IdcTouch a x) (h2 : LswTouch x y) (f : Field) (hlo : f.lo < 32) (hev : f.ofEvents = false)
    (hout : f.addr < 0x030000) : y.rd f = a.rd f := by
  refine (h2.regs f hlo hev ?_).trans (h1.regs f hlo hev ?_)
  · simp only [lswPages, List.mem_singleton, forall_eq]
    omega
  · simp only [idcPages, List.mem_cons, List.not_mem_nil, or_false, forall_eq_or_imp, forall_eq]
    omega

theorem bankSuspend_effect (s : State) (el : Nat) (mv : BitVec 16) (held : Nat) (b : Fin 4) :
    Answers (.bankSuspend el b mv held) s (fun now d e =>
        (d.diesOn = false ∨ held < us 20 ∨ bitOf (d.rd PWR.BANK_SUSP) b.val = true ∨ (d.vbankUv ≤ mv.toNat ∧ mv.toNat ≤ 40000) → e = d) ∧
        (d.diesOn = true → us 20 ≤ held → bitOf (d.rd PWR.BANK_SUSP) b.val = false → mv.toNat < d.vbankUv ∨ 40000 < mv.toNat →
          e.rd PWR.BANK_SUSP = setBitOf (d.rd PWR.BANK_SUSP) b.val true % 2 ^ 4 ∧ e.rd (vpwrField b.val) = mv.toNat ∧
          bitOf (e.rd PWR.BANK_OV) b.val = decide (40000 < mv.toNat) ∧ e.raised EVT.PWR_BANK_SUSP b.val = true ∧
          e.rd (IDG.BANK_SUSP (2 * b.val)) = 1 ∧ e.rd (IDG.BANK_SUSP (2 * b.val + 1)) = 1 ∧ e.rd (LSB.BANK_SUSP b.val) = 1 ∧
          (b.val, now, 0) ∈ e.cov.bankOff ∧ (∀ m ∈ bankSwitches b.val, (e.lswCh m).drv = false ∧ (e.lswCh m).waitFrom = none) ∧
          (∀ c, c / 8 = b.val → (d.startHeld c = true → (e.idcCh c).act = .idle) ∧
            (∀ p, (d.idcCh c).act = .on → (d.idcCh c).pulse = some p →
              (e.idcCh c).act = .idle ∧ (e.idcCh c).decay = true ∧ (e.idcCh c).decFast = false ∧ (e.idcCh c).lastEnd = some now ∧
              ∃ q, (e.idcCh c).done = some q ∧ bitOf q.flags 15 = true)) ∧
          (∀ c, c / 8 ≠ b.val → e.idcCh c = d.idcCh c))) := by
  refine answers_of_forall (f := fun now d => d.bankSuspend now b.val mv.toNat held) rfl (fun now d => ⟨fun h => ?_, fun hdies hh hs hmv => ?_⟩)
  · refine if_neg fun hc => ?_
    simp only [Bool.and_eq_true, Bool.or_eq_true, decide_eq_true_eq, Bool.not_eq_true'] at hc
    obtain ⟨⟨⟨hdies, hh⟩, hs⟩, hmv⟩ := hc
    rcases h with h | h | h | h
    · rw [hdies] at h
      cases h
    · omega
    · rw [hs] at h
      cases h
    · omega
  · have hb := b.isLt
    obtain ⟨n1, n2, n3, hrest⟩ := d.bankNoted_spec hb mv true (decide (40000 < mv.toNat))
    have heq : d.bankSuspend now b.val mv.toNat held =
        ((((d.bankNoted b.val mv.toNat true (decide (40000 < mv.toNat))).idcBankOff now b.val).lswBankSusp now b.val true).covBankOff b.val now).fire now
          EVT.PWR_BANK_SUSP b.val 0 := by
      rw [Dev.bankNoted_eq d hb]
      exact if_pos (by simp [hdies, hh, hs, hmv])
    generalize d.bankNoted b.val mv.toNat true (decide (40000 < mv.toNat)) = a at n1 n2 n3 hrest heq
    have hidc : a.idc = d.idc := (congrArg Dev.idc hrest :)
    have hach : ∀ c, a.idcCh c = d.idcCh c := fun c => congrArg (fun t => tget t c) hidc
    obtain ⟨t1, s1, s2, hout, hin⟩ := a.idcBankOff_spec now hb
    generalize a.idcBankOff now b.val = x at t1 s1 s2 hout hin heq
    have t2 := lswTouch_lswBankSusp x now hb true
    obtain ⟨s3, hoff⟩ := x.lswBankSusp_spec now hb
    generalize x.lswBankSusp now b.val true = y at t2 s3 hoff heq
    have hyidc : ∀ c, y.idcCh c = x.idcCh c := fun c => (congrArg (fun z => tget z.1.idc c) t2.rest :)
    have hrd : ∀ f : Field, f.lo < 32 → f.ofEvents = false → (d.bankSuspend now b.val mv.toNat held).rd f = y.rd f := fun f hlo hev => by
      rw [heq]
      exact Dev.rd_fire_of (y.covBankOff b.val now) _ _ _ _ hlo hev
    have hech : ∀ c, (d.bankSuspend now b.val mv.toNat held).idcCh c = y.idcCh c := fun c => by
      rw [heq, Dev.idcCh, Dev.fire_idc]
      rfl
    obtain ⟨-, -, -, hvlo, hvev, hvaddr⟩ := vpwrField_spec hb
    have hsusp : ∀ g, g < 8 → (IDG.BANK_SUSP g).lo < 32 ∧ (IDG.BANK_SUSP g).ofEvents = false ∧
        ∀ p ∈ lswPages, (IDG.BANK_SUSP g).addr < p.1 ∨ p.2 ≤ (IDG.BANK_SUSP g).addr := by decide
    refine ⟨?_, ?_, ?_, ?_, ?_, ?_, ?_, ?_, fun m hm => ?_, fun c hc => ?_, fun c hc => ?_⟩
    · exact (hrd _ (by decide) (by decide)).trans ((Dev.rd_of_bankTouch t1 t2 _ (by decide) (by decide) (by decide)).trans n1)
    · exact (hrd _ hvlo hvev).trans ((Dev.rd_of_bankTouch t1 t2 _ hvlo hvev hvaddr).trans n2)
    · rw [hrd _ (by decide) (by decide), Dev.rd_of_bankTouch t1 t2 _ (by decide) (by decide) (by decide)]
      exact n3
    · rw [heq]
      exact Dev.raised_fire _ _ _ _ _ (by omega) (EVT.pwrBank_bit hb).1
    · obtain ⟨h1, h2, h3⟩ := hsusp (2 * b.val) (by omega)
      exact (hrd _ h1 h2).trans ((t2.regs _ h1 h2 h3).trans s1)
    · obtain ⟨h1, h2, h3⟩ := hsusp (2 * b.val + 1) (by omega)
      exact (hrd _ h1 h2).trans ((t2.regs _ h1 h2 h3).trans s2)
    · exact (hrd _ (LSB.bankSusp_plain hb).1 (LSB.bankSusp_plain hb).2.2.1).trans s3
    · rw [heq, Dev.fire_cov]
      simp [Dev.covBankOff]
    · rw [heq, Dev.lswCh, Dev.fire_lsw]
      exact hoff m hm
    · have h := hin c hc
      rw [hach] at h
      rw [hech, hyidc]
      exact ⟨fun hheld => h.1 (by simpa [Dev.startHeld] using hheld), h.2⟩
    · rw [hech, hyidc, hout c hc, hach]

end Sys2Proof.Machine
end

section
/-! PROOFS. A bank returns (R326, R492), and the supply as a whole. -/
namespace Sys2Proof.Machine

/-- A channel's turn when its bank returns: the commands that have passed are dropped, a continuous one that is on starts again. -/
def Dev.bankTurn (d : Dev) (now c : Nat) : Dev :=
  let ch := d.idcCh c
  let cont := match ch.grid with | some g => decide (1000 ≤ g.duty) | none => true
  let d := d.modIdc c (fun x => { x with cmds := x.cmds.filter (fun q => decide (now < q.dt)) })
  if ch.onNow now && cont then (d.modIdc c (fun x => { x with cmds := { dt := now, on := true, endAt := none } :: x.cmds })).idcRun now c else d

theorem bankTurn_keeps (d : Dev) (now : Nat) {c : Nat} (hc : c < 32) : FaultsKept d (d.bankTurn now c) ∧ IdcTouch d (d.bankTurn now c) := by
  unfold Dev.bankTurn
  extract_lets ch cont d1
  have h1 : FaultsKept d d1 := FaultsKept.modIdc d c _ (by intro; rfl)
  have h2 : IdcTouch d d1 := idcTouch_modIdc d c _ (by intro; rfl)
  refine ⟨FaultsKept.ite ?_ h1, Touches.ite (fun _ => ?_) (fun _ => h2)⟩
  · exact (h1.trans (FaultsKept.modIdc d1 c _ (by intro; rfl))).trans (faultsKept_idcRunN _ _ now hc)
  · exact (h2.trans (idcTouch_modIdc d1 c _ (by intro; rfl))).trans (idcTouch_idcRun _ now hc)

/-- A group of a bank that returns. -/
def Dev.groupReturns (d : Dev) (now g : Nat) : Dev :=
  ((d.wr (IDG.BANK_SUSP g) 0).each (groupChs g) (fun d c => d.bankTurn now c)).readmit now g

theorem Dev.groupReturns_spec (d : Dev) (now : Nat) {g : Nat} (hg : g < 8) :
    IdcTouch d (d.groupReturns now g) ∧ (d.groupReturns now g).rd (IDG.BANK_SUSP g) = 0 ∧
      (∀ k, k ≠ g → k < 8 → (d.groupReturns now g).rd (IDG.BANK_SUSP k) = d.rd (IDG.BANK_SUSP k)) := by
  obtain ⟨hfault, hw⟩ := IDG.isFault_bankSusp hg
  have hset : (d.wr (IDG.BANK_SUSP g) 0).rd (IDG.BANK_SUSP g) = 0 := Dev.rd_wr_self d _ 0
  have hne : ∀ k, k ≠ g → (d.wr (IDG.BANK_SUSP g) 0).rd (IDG.BANK_SUSP k) = d.rd (IDG.BANK_SUSP k) := fun k hk =>
    Dev.rd_wr_ne d 0 (IDG.bankSusp_key_ne (Ne.symm hk))
  have htouch : IdcTouch d (d.wr (IDG.BANK_SUSP g) 0) := Touches.wr d _ 0 hw (by rfl)
  unfold Dev.groupReturns
  generalize d.wr (IDG.BANK_SUSP g) 0 = y at hset hne htouch
  have hkept : FaultsKept y ((y.each (groupChs g) (fun d c => d.bankTurn now c)).readmit now g) :=
    (FaultsKept.each _ _ (fun x c hc => (bankTurn_keeps x now (groupChs_lt hg hc)).1) y).trans (faultsKept_readmit _ now hg)
  have hturns : IdcTouch y ((y.each (groupChs g) (fun d c => d.bankTurn now c)).readmit now g) :=
    Touches.trans (Touches.each (groupChs g) (fun d c => d.bankTurn now c) (fun x c hc => (bankTurn_keeps x now (groupChs_lt hg hc)).2) y)
      (idcTouch_readmit _ now hg)
  exact ⟨htouch.trans hturns, (hkept.faults _ hfault).trans hset,
    fun k hk hk8 => (hkept.faults _ (IDG.isFault_bankSusp hk8).1).trans (hne k hk)⟩

theorem Dev.idcBankOn_spec (d : Dev) (now : Nat) {b : Nat} (hb : b < 4) :
    IdcTouch d (d.idcBankOn now b) ∧ (d.idcBankOn now b).rd (IDG.BANK_SUSP (2 * b)) = 0 ∧ (d.idcBankOn now b).rd (IDG.BANK_SUSP (2 * b + 1)) = 0 := by
  have heq : d.idcBankOn now b = (d.groupReturns now (2 * b)).groupReturns now (2 * b + 1) := rfl
  rw [heq]
  obtain ⟨h1, h2, -⟩ := d.groupReturns_spec now (g := 2 * b) (by omega)
  generalize d.groupReturns now (2 * b) = y at h1 h2
  obtain ⟨g1, g2, g3⟩ := y.groupReturns_spec now (g := 2 * b + 1) (by omega)
  exact ⟨h1.trans g1, (g3 _ (by omega) (by omega)).trans h2, g2⟩

/-- The suspension flag of a bank's switches stands while they take their states. -/
theorem Dev.rd_lswBankSusp (d : Dev) (now : Nat) {b : Nat} (hb : b < 4) (susp : Bool) :
    (d.lswBankSusp now b susp).rd (LSB.BANK_SUSP b) = b2n susp := by
  have h : ∀ (l : List Nat), (∀ n ∈ l, n ∈ bankSwitches b) → ∀ x : Dev,
      (x.each l (fun d n => d.lswApply now now n)).rd (LSB.BANK_SUSP b) = x.rd (LSB.BANK_SUSP b) := by
    intro l
    induction l with
    | nil => exact fun _ _ => rfl
    | cons n l ih =>
      intro hl x
      have hn := bankSwitches_lt hb (hl n (by simp))
      exact (ih (fun m hm => hl m (by simp [hm])) _).trans ((switched_lswApply x now now hn).regs _ (LSB.bankSusp_plain hb).1
        (LSB.bankSusp_plain hb).2.1 (by simpa using LSW.iMeas_key_ne_bankSusp n hb))
  exact (h _ (fun _ hn => hn) _).trans (Dev.rd_wrB_self _ _ _ rfl)

/-- A suspension that has ended is closed. -/
theorem Dev.bankOff_covBankOn (d : Dev) (b t : Nat) : ∀ x ∈ (d.covBankOn b t).cov.bankOff, x.1 = b → x.2.2 = 0 → t = 0 := by
  intro x hx hb h0
  simp only [Dev.covBankOn, List.mem_map] at hx
  obtain ⟨y, -, rfl⟩ := hx
  by_cases hy : y.1 == b && y.2.2 == 0
  · rw [if_pos hy] at h0
    exact h0
  · rw [if_neg hy] at hb h0
    exact absurd (by simp [hb, h0]) hy

theorem bankResume_effect (s : State) (el : Nat) (mv : BitVec 16) (held : Nat) (b : Fin 4) :
      Answers (.bankResume el b mv held) s (fun now d e =>
        (d.diesOn = false ∨ held < ms 5 ∨ bitOf (d.rd PWR.BANK_SUSP) b.val = false ∨ d.bankReleased b.val mv.toNat = false → e = d) ∧
        (d.diesOn = true → ms 5 ≤ held → bitOf (d.rd PWR.BANK_SUSP) b.val = true → d.bankReleased b.val mv.toNat = true →
          e.rd PWR.BANK_SUSP = setBitOf (d.rd PWR.BANK_SUSP) b.val false % 2 ^ 4 ∧ e.rd (vpwrField b.val) = mv.toNat ∧
          bitOf (e.rd PWR.BANK_OV) b.val = false ∧ e.raised EVT.PWR_BANK_OK b.val = true ∧
          e.rd (IDG.BANK_SUSP (2 * b.val)) = 0 ∧ e.rd (IDG.BANK_SUSP (2 * b.val + 1)) = 0 ∧ e.rd (LSB.BANK_SUSP b.val) = 0 ∧
          (∀ x ∈ e.cov.bankOff, x.1 = b.val → x.2.2 = 0 → now = 0))) := by
  refine answers_of_forall (f := fun now d => d.bankResume now b.val mv.toNat held) rfl (fun now d => ⟨fun h => ?_, fun hdies hh hs hrel => ?_⟩)
  · refine if_neg fun hc => ?_
    simp only [Bool.and_eq_true, decide_eq_true_eq] at hc
    obtain ⟨⟨⟨hdies, hh⟩, hs⟩, hrel⟩ := hc
    rcases h with h | h | h | h
    · rw [hdies] at h
      cases h
    · omega
    · rw [hs] at h
      cases h
    · rw [hrel] at h
      cases h
  · have hb := b.isLt
    obtain ⟨n1, n2, n3, -⟩ := d.bankNoted_spec hb mv false false
    have heq : d.bankResume now b.val mv.toNat held =
        ((((d.bankNoted b.val mv.toNat false false).idcBankOn now b.val).lswBankSusp now b.val false).covBankOn b.val now).fire now
          EVT.PWR_BANK_OK b.val 0 := by
      rw [Dev.bankNoted_eq d hb]
      exact if_pos (by simp [hdies, hh, hs, hrel])
    generalize d.bankNoted b.val mv.toNat false false = a at n1 n2 n3 heq
    obtain ⟨t1, s1, s2⟩ := a.idcBankOn_spec now hb
    generalize a.idcBankOn now b.val = x at t1 s1 s2 heq
    have t2 := lswTouch_lswBankSusp x now hb false
    have s3 := x.rd_lswBankSusp now hb false
    generalize x.lswBankSusp now b.val false = y at t2 s3 heq
    have hrd : ∀ f : Field, f.lo < 32 → f.ofEvents = false → (d.bankResume now b.val mv.toNat held).rd f = y.rd f := fun f hlo hev => by
      rw [heq]
      exact Dev.rd_fire_of (y.covBankOn b.val now) _ _ _ _ hlo hev
    obtain ⟨-, -, -, hvlo, hvev, hvaddr⟩ := vpwrField_spec hb
    have hsusp : ∀ g, g < 8 → (IDG.BANK_SUSP g).lo < 32 ∧ (IDG.BANK_SUSP g).ofEvents = false ∧
        ∀ p ∈ lswPages, (IDG.BANK_SUSP g).addr < p.1 ∨ p.2 ≤ (IDG.BANK_SUSP g).addr := by decide
    refine ⟨?_, ?_, ?_, ?_, ?_, ?_, ?_, ?_⟩
    · exact (hrd _ (by decide) (by decide)).trans ((Dev.rd_of_bankTouch t1 t2 _ (by decide) (by decide) (by decide)).trans n1)
    · exact (hrd _ hvlo hvev).trans ((Dev.rd_of_bankTouch t1 t2 _ hvlo hvev hvaddr).trans n2)
    · rw [hrd _ (by decide) (by decide), Dev.rd_of_bankTouch t1 t2 _ (by decide) (by decide) (by decide)]
      exact n3
    · rw [heq]
      exact Dev.raised_fire _ _ _ _ _ (by omega) (EVT.pwrBank_bit hb).2
    · obtain ⟨h1, h2, h3⟩ := hsusp (2 * b.val) (by omega)
      exact (hrd _ h1 h2).trans ((t2.regs _ h1 h2 h3).trans s1)
    · obtain ⟨h1, h2, h3⟩ := hsusp (2 * b.val + 1) (by omega)
      exact (hrd _ h1 h2).trans ((t2.regs _ h1 h2 h3).trans s2)
    · exact (hrd _ (LSB.bankSusp_plain hb).1 (LSB.bankSusp_plain hb).2.2.1).trans s3
    · rw [heq, Dev.fire_cov]
      exact y.bankOff_covBankOn b.val now

/-- Settles O51: an episode begins and ends as the supply falls and returns, and each bank is suspended and returns on its own supply. -/
theorem supplyEpisodesAndBanks : Obligations.SupplyEpisodesAndBanks := by
  unfold Obligations.SupplyEpisodesAndBanks
  exact fun s el mv held => ⟨dimEntry_effect s el mv held, fun low => dimEnd_effect s el mv held low, dimMax_effect s el, episodeUpdate_effect s el mv,
    fun b => ⟨bankSuspend_effect s el mv held b, bankResume_effect s el mv held b⟩, vbatOvervoltage_effect s el mv held,
    fun ma => ⟨sns5vFault_effect s el held ma, sns5vRetry_effect s el held ma⟩⟩

end Sys2Proof.Machine
end

section
/-! PROOFS. What the units do when a mode is selected (R512, R514): the controllers, GRID and the paths. -/
namespace Sys2Proof.Machine

/-- Address ranges of GRID, the outputs and the controllers, and the count of unconfirmed movements. -/
abbrev unitPages : List (Nat × Nat) := [(0x030064, 0x030068), (0x038000, 0x039000), (0x040000, 0x04C000), (0x060000, 0x066000)]

/-- The block without registers, recorder, outputs, controllers, GRID, feedback and paths. -/
def Dev.sansUnits (d : Dev) : Dev := { d.sansDrive with grid := {}, fbk := [], wdg := {} }

/-- An operation by which units start: GRID, the outputs, the controllers. -/
abbrev UnitTouch (d e : Dev) : Prop := Touches unitPages Dev.sansUnits d e

/-- The same, with the page of the paths. -/
abbrev ModeTouch (d e : Dev) : Prop := Touches ((0x003000, 0x004000) :: unitPages) Dev.sansUnits d e

theorem UnitTouch.mode {d e : Dev} (h : UnitTouch d e) : ModeTouch d e := Touches.mono h (by decide) id

theorem UnitTouch.pwr {d e : Dev} (h : UnitTouch d e) : e.pwr = d.pwr := (congrArg Dev.pwr h.rest :)

/-! ### The controllers -/

/-- Address range of the pages of the controllers. -/
abbrev canPages : List (Nat × Nat) := [(0x060000, 0x066000)]

/-- The block without registers and controllers. -/
def Dev.sansCtls (d : Dev) : Dev := { d with regs := [], can := [] }

/-- An operation of the controllers. -/
abbrev CanTouch (d e : Dev) : Prop := Touches canPages Dev.sansCtls d e

theorem CanTouch.unit {d e : Dev} (h : CanTouch d e) : UnitTouch d e := h.mono (by decide) (fun hk => (congrArg Dev.sansUnits hk :))

theorem canTouch_modCan (d : Dev) (n : Nat) (f : CanCtl → CanCtl) : CanTouch d (d.modCan n f) := Touches.of_regs rfl rfl

theorem canTouch_isoSend (d : Dev) (n id : Nat) (data : List Nat) : CanTouch d (d.isoSend n id data) :=
  Touches.opt (canTouch_modCan d n _)

theorem canTouch_claim (d : Dev) (now : Nat) {n : Nat} (hn : n < 6) (sa : Nat) : CanTouch d (d.claim now n sa) := by
  unfold Dev.claim
  extract_lets x
  have hx : CanTouch d x := ((Touches.wr d (ISO.SA_ACT n) _ (by clear * - hn; decide +revert) (by rfl)).trans
    (Touches.wr _ (ISO.CLAIMED n) _ (by clear * - hn; decide +revert) (by rfl))).trans
      (Touches.wr _ (ISO.CANNOT_CLAIM n) _ (by clear * - hn; decide +revert) (by rfl))
  exact hx.trans ((canTouch_modCan x n _).trans (canTouch_isoSend _ n _ _))

theorem canTouch_loadIsoTiming (d : Dev) {n : Nat} (hn : n < 6) : CanTouch d (d.loadIsoTiming n) :=
  (((Touches.wr d (CAN.NBRP n) _ (by clear * - hn; decide +revert) (by rfl)).trans
    (Touches.wr _ (CAN.NTSEG1 n) _ (by clear * - hn; decide +revert) (by rfl))).trans
      (Touches.wr _ (CAN.NTSEG2 n) _ (by clear * - hn; decide +revert) (by rfl))).trans
        (Touches.wr _ (CAN.NSJW n) _ (by clear * - hn; decide +revert) (by rfl))

theorem canTouch_canFollow (d : Dev) {n : Nat} (hn : n < 6) : CanTouch d (d.canFollow n) := by
  unfold Dev.canFollow
  refine Touches.ite (fun _ => ?_) (fun _ => Touches.ite (fun _ => Touches.wr d (CAN.CAN_STATE n) _ (by clear * - hn; decide +revert) (by rfl))
    (fun _ => Touches.opt (Touches.wr d (CAN.CAN_STATE n) _ (by clear * - hn; decide +revert) (by rfl))))
  extract_lets x y z
  have hy : CanTouch x y := ((Touches.wr x (CAN.CAN_STATE n) _ (by clear * - hn; decide +revert) (by rfl)).trans
    (Touches.wr _ (CAN.TX_BUSY n) _ (by clear * - hn; decide +revert) (by rfl))).trans
      (Touches.wr _ (CAN.TEC n) _ (by clear * - hn; decide +revert) (by rfl))
  have hz : CanTouch y z := Touches.wr y (CAN.REC_ERR n) _ (by clear * - hn; decide +revert) (by rfl)
  refine (((canTouch_modCan d n _).trans hy).trans hz).trans (Touches.opt ?_)
  exact ((Touches.wr z (ISO.CLAIMED n) _ (by clear * - hn; decide +revert) (by rfl)).trans
    (Touches.wr _ (ISO.SA_ACT n) _ (by clear * - hn; decide +revert) (by rfl))).trans
      (Touches.wr _ (ISO.TP_TX_BUSY n) _ (by clear * - hn; decide +revert) (by rfl))

theorem canTouch_canSettle (d : Dev) (now : Nat) {n : Nat} (hn : n < 6) (was : Bool) : CanTouch d (d.canSettle now n was) := by
  unfold Dev.canSettle
  extract_lets x y z
  have hx : CanTouch d x := Touches.opt (canTouch_loadIsoTiming d hn)
  have hz : CanTouch y z := Touches.opt (Touches.wr y (CAN.ABD_STATE n) _ (by clear * - hn; decide +revert) (by rfl))
  refine ((hx.trans (canTouch_canFollow x hn)).trans hz).trans (Touches.opt ?_)
  exact (canTouch_modCan z n _).trans (canTouch_claim _ now hn _)

theorem unitTouch_canStart (d : Dev) (now : Nat) : UnitTouch d (d.canStart now) :=
  Touches.each (List.range 6) (fun d n => d.canSettle now n false) (fun x _ hn => CanTouch.unit (canTouch_canSettle x now (List.mem_range.mp hn) false)) d

/-! ### GRID -/

/-- The block without registers, recorder and GRID. -/
def Dev.sansFusion (d : Dev) : Dev := { d with regs := [], evh := {}, rec_ := {}, grid := {} }

/-- An operation of GRID alone. -/
abbrev FusionTouch (d e : Dev) : Prop := Touches [(0x038000, 0x039000)] Dev.sansFusion d e

theorem FusionTouch.unit {d e : Dev} (h : FusionTouch d e) : UnitTouch d e := Touches.mono h (by decide) (fun hk => (congrArg Dev.sansUnits hk :))

theorem fusionTouch_fire (d : Dev) (now ev inst val : Nat) : FusionTouch d (d.fire now ev inst val) := Touches.fire d now ev inst val (by intros; rfl)

theorem fusionTouch_setGridMode (d : Dev) (now m : Nat) : FusionTouch d (d.setGridMode now m) := by
  unfold Dev.setGridMode
  extract_lets x
  have hx : FusionTouch d x := Touches.ite (fun _ => Touches.refl d) (fun _ => Touches.wr d GRID.AUDIT_CAUSE _ (by decide) (by rfl))
  exact hx.trans (Touches.ite (fun _ => Touches.refl x) (fun _ => (Touches.wr x GRID.GRID_MODE _ (by decide) (by rfl)).trans (fusionTouch_fire _ now _ _ _)))

theorem fusionTouch_enterAudit (d : Dev) (now cause : Nat) : FusionTouch d (d.enterAudit now cause) := by
  unfold Dev.enterAudit
  refine Touches.opt ?_
  extract_lets _ x
  have hx : FusionTouch d x := Touches.of_regs rfl rfl
  exact hx.trans ((fusionTouch_setGridMode x now 1).trans (Touches.wr _ GRID.AUDIT_CAUSE _ (by decide) (by rfl)))

theorem unitTouch_setGridMode (d : Dev) (now m : Nat) : UnitTouch d (d.setGridMode now m) := FusionTouch.unit (fusionTouch_setGridMode d now m)

theorem unitTouch_enterAudit (d : Dev) (now cause : Nat) : UnitTouch d (d.enterAudit now cause) := FusionTouch.unit (fusionTouch_enterAudit d now cause)

theorem unitTouch_fire (d : Dev) (now ev inst val : Nat) : UnitTouch d (d.fire now ev inst val) := Touches.fire d now ev inst val (by intros; rfl)

theorem unitTouch_modSrc (d : Dev) (s : Nat) (f : GridSrc → GridSrc) : UnitTouch d (d.modSrc s f) := Touches.of_regs rfl rfl

theorem unitTouch_setHealth (d : Dev) {s : Nat} (hs : s < 16) (h : Nat) : UnitTouch d (d.setHealth s h) := by
  unfold Dev.setHealth
  extract_lets x y
  have hx : UnitTouch d x := (Touches.wr d (GRID.HEALTH s) _ (by clear * - hs; decide +revert) (by rfl)).trans (unitTouch_modSrc _ s _)
  exact hx.trans ((Touches.wr x GRID.SRC_OK_MASK _ (by decide) (by rfl)).trans (Touches.wr y GRID.SRC_SUSPECT_MASK _ (by decide) (by rfl)))

theorem unitTouch_clearLayer (d : Dev) : UnitTouch d d.clearLayer := by
  rw [Dev.clearLayer_eq]
  exact Touches.trans (b := { d with grid := { d.grid with blocks := [] } }) (Touches.of_regs rfl rfl) (Touches.wr _ GRID.BLK_USED _ (by decide) (by rfl))

theorem unitTouch_freeCredits (d : Dev) (now : Nat) : UnitTouch d (d.freeCredits now) := by
  unfold Dev.freeCredits Dev.kspSendLink
  split
  · exact Touches.refl d
  · exact Touches.trans (b := d.modPort 0 (fun p => { p with vcs := tmod p.vcs 2 (fun v => { v with heldUnits := 0 }) }))
      (Touches.of_regs rfl rfl) (Touches.opt (Touches.of_regs rfl rfl))

theorem unitTouch_netLoad (d : Dev) (now : Nat) : UnitTouch d (d.netLoad now) := by
  unfold Dev.netLoad
  extract_lets r x
  have hx : UnitTouch d x := Touches.wr d GRID.NET_ERR _ (by decide) (by rfl)
  exact hx.trans (Touches.ite (fun _ => Touches.of_regs rfl rfl) (fun _ => unitTouch_fire x now _ _ _))

theorem mem_gridSrcs_lt {d : Dev} {s : Nat} (h : s ∈ d.gridSrcs) : s < 16 := by
  unfold Dev.gridSrcs at h
  exact List.mem_range.mp (List.mem_filter.mp h).1

theorem unitTouch_gridShed (fuel : Nat) (d : Dev) (now : Nat) (n : FusionNet) : UnitTouch d (Dev.gridShed fuel d now n) := by
  induction fuel generalizing d with
  | zero => exact Touches.refl d
  | succ fuel ih =>
    unfold Dev.gridShed
    split
    · exact Touches.refl d
    split
    · exact Touches.refl d
    next s hs =>
      have hs : s < 16 := mem_gridSrcs_lt (List.mem_of_getLast? hs)
      exact (((Touches.wr d (GRID.SRC_ERR s) _ (by clear * - hs; decide +revert) (by rfl)).trans (unitTouch_setHealth _ hs 0)).trans
        (unitTouch_fire _ now _ _ _)).trans (ih _)

theorem unitTouch_gridLoad (d : Dev) (now : Nat) : UnitTouch d (d.gridLoad now) := by
  unfold Dev.gridLoad
  split
  · exact Touches.wr d GRID.LOAD_EST _ (by decide) (by rfl)
  next n _ =>
    extract_lets out x y
    have hy : UnitTouch x y := Touches.each out _ (fun z s hs => by
      have hs : s < 16 := List.mem_range.mp (List.mem_filter.mp hs).1
      exact Touches.opt ((Touches.wr z (GRID.SRC_ERR s) _ (by clear * - hs; decide +revert) (by rfl)).trans (unitTouch_setHealth _ hs 1))) x
    exact ((unitTouch_gridShed 16 d now n).trans hy).trans (Touches.wr y GRID.LOAD_EST _ (by decide) (by rfl))

theorem unitTouch_gridFollow (d : Dev) (now : Nat) : UnitTouch d (d.gridFollow now) :=
  Touches.ite (fun _ => Touches.opt (unitTouch_enterAudit d now 1)) (fun _ => unitTouch_setGridMode d now 0)

/-- GRID with nothing held or waiting. -/
def Dev.gridEmptied (d : Dev) : Dev := { d with grid := { d.grid with held := [], waiting := [], clearDue := 0, netDue := none } }

/-- GRID with network `n` in force. -/
def Dev.netInForce (d : Dev) (n : FusionNet) : Dev := { d with grid := { d.grid with net := some n, netDue := none } }

theorem unitTouch_gridStart (d : Dev) (now : Nat) : UnitTouch d (d.gridStart now) := by
  unfold Dev.gridStart
  extract_lets _ x y _ z w
  have hx : UnitTouch d x := Touches.trans (b := d.gridEmptied) (Touches.of_regs rfl rfl) (unitTouch_freeCredits d.gridEmptied now)
  have hy : UnitTouch x y := (unitTouch_clearLayer x).trans (unitTouch_netLoad _ now)
  have hz : UnitTouch y z := by
    subst z
    split
    · next n _ => exact Touches.trans (b := y.netInForce n) (Touches.of_regs rfl rfl) (Touches.wr (y.netInForce n) GRID.NET_OK 1 (by decide) (by rfl))
    · exact Touches.refl y
  have hw : UnitTouch z w := Touches.each _ _ (fun a s hs => by
    have hs : s < 16 := List.mem_range.mp (List.mem_filter.mp hs).1
    exact (unitTouch_modSrc a s _).trans (unitTouch_setHealth _ hs 1)) z
  exact ((((hx.trans hy).trans hz).trans hw).trans (unitTouch_gridLoad w now)).trans ((unitTouch_setGridMode _ now 0).trans (unitTouch_gridFollow _ now))

/-! ### The paths -/

theorem modeTouch_pathSync (d : Dev) (now : Nat) : ModeTouch d (d.pathSync now) := by
  obtain ⟨v, ⟨-, h⟩ | h⟩ := pathSync_driven d now
  · have hset : ModeTouch d (d.wr WDG.SNUFF_ACT v) := Touches.wr d WDG.SNUFF_ACT v (by decide) (by rfl)
    exact hset.trans (h.mono (by decide) (fun hk => by
      have hk : (d.pathSync now).sansDrive = (d.wr WDG.SNUFF_ACT v).sansDrive := congrArg Prod.fst hk
      exact congrArg (fun x : Dev => { x with grid := {}, fbk := [], wdg := {} }) hk))
  · rw [h]
    exact Touches.refl d

theorem modeTouch_wdgDisarm (d : Dev) (now : Nat) : ModeTouch d (d.wdgDisarm now) ∧ (d.wdgDisarm now).rd WDG.WDG_ARMED = 0 := by
  unfold Dev.wdgDisarm
  extract_lets x
  have hx : ModeTouch d x := (Touches.wr d WDG.WDG_EN 0 (by decide) (by rfl)).trans (Touches.wr _ WDG.WDG_ARMED 0 (by decide) (by rfl))
  have harmed : x.rd WDG.WDG_ARMED = 0 := Dev.rd_wr_self _ WDG.WDG_ARMED 0
  clear_value x
  split
  · unfold Dev.wdgPathEnd
    have hy : ModeTouch x ({ x with wdg := { x.wdg with wdgPath := false } }.wr WDG.WDG_EXP 0) :=
      Touches.trans (b := { x with wdg := { x.wdg with wdgPath := false } }) (Touches.of_regs rfl rfl) (Touches.wr _ WDG.WDG_EXP 0 (by decide) (by rfl))
    exact ⟨(hx.trans hy).trans (modeTouch_pathSync _ now), (Dev.rd_pathSync _ now WDG.WDG_ARMED).trans ((Dev.rd_wr_ne _ _ (by decide)).trans harmed)⟩
  · exact ⟨hx, harmed⟩

theorem modeTouch_safeAutoCheck (d : Dev) (now : Nat) :
    ModeTouch d (d.safeAutoCheck now) ∧ (d.safeAutoCheck now).rd WDG.WDG_ARMED = d.rd WDG.WDG_ARMED := by
  unfold Dev.safeAutoCheck
  split
  · unfold Dev.safeEnd
    have hy : ModeTouch d ({ d with wdg := { d.wdg with safePath := false } }.wr WDG.SAFE_LATCHED 0) :=
      Touches.trans (b := { d with wdg := { d.wdg with safePath := false } }) (Touches.of_regs rfl rfl) (Touches.wr _ WDG.SAFE_LATCHED 0 (by decide) (by rfl))
    exact ⟨hy.trans (modeTouch_pathSync _ now), (Dev.rd_pathSync _ now WDG.WDG_ARMED).trans (Dev.rd_wr_ne _ _ (by decide))⟩
  · exact ⟨Touches.refl d, rfl⟩

/-! ### A mode is set -/

theorem unitTouch_fbkRestart (d : Dev) (now n : Nat) : UnitTouch d (d.fbkRestart now n) := Touches.of_regs rfl rfl

/-- The points open off in the next window, where the block leaves PLAIN. -/
def Dev.opensOff (d : Dev) : Dev := { d with dec := { d.dec with openOff := true } }

/-- The units that PLAIN does not run start as the block leaves it. -/
def Dev.unitsReturn (d : Dev) (now : Nat) : Dev := ((d.opensOff.fbkRestart now 0).canStart now).gridStart now

theorem unitTouch_unitsReturn (d : Dev) (now : Nat) : UnitTouch d (d.unitsReturn now) :=
  Touches.trans (b := d.opensOff) (Touches.of_regs rfl rfl)
    (((unitTouch_fbkRestart _ now 0).trans (unitTouch_canStart _ now)).trans (unitTouch_gridStart _ now))

/-- The block in mode `m`. -/
def Dev.inMode (d : Dev) (m : OpMode) : Dev := { d with pwr := { d.pwr with mode := m } }

theorem Dev.setMode_of_not_host (d : Dev) (now : Nat) {m : OpMode} (hm : m ≠ .host) :
    d.setMode now m =
      (let x := ((d.inMode m).wdgDisarm now).safeAutoCheck now
       let y := if d.pwr.mode = .plain && m != .plain && x.ticking then x.unitsReturn now else x
       let z := if m = .plain then y.fbkRestart now 0 else y
       z.fire now EVT.PWR_MODE 0 m.code) := by
  have h : (if m = .host then d.inMode m else ((d.inMode m).wdgDisarm now).safeAutoCheck now) =
    ((d.inMode m).wdgDisarm now).safeAutoCheck now := if_neg hm
  rw [← h]
  rfl

theorem Dev.setMode_spec (d : Dev) (now : Nat) {m : OpMode} (hm : m ≠ .host) :
    ModeTouch (d.inMode m) (d.setMode now m) ∧ (d.setMode now m).rd WDG.WDG_ARMED = 0 ∧
      (d.setMode now m).raised EVT.PWR_MODE 0 = true := by
  rw [Dev.setMode_of_not_host d now hm]
  extract_lets x y z
  have hx : ModeTouch (d.inMode m) x ∧ x.rd WDG.WDG_ARMED = 0 := by
    obtain ⟨ha, hb⟩ := modeTouch_wdgDisarm (d.inMode m) now
    obtain ⟨ha', hb'⟩ := modeTouch_safeAutoCheck ((d.inMode m).wdgDisarm now) now
    exact ⟨ha.trans ha', hb'.trans hb⟩
  have hy : UnitTouch x y := Touches.opt (unitTouch_unitsReturn x now)
  have hz : UnitTouch y z := Touches.opt (unitTouch_fbkRestart y now 0)
  have h := (hy.trans hz).trans (unitTouch_fire z now EVT.PWR_MODE 0 m.code)
  exact ⟨hx.1.trans (UnitTouch.mode h), (h.rd WDG.WDG_ARMED (by decide) (by decide) (by decide)).trans hx.2,
    Dev.raised_fire _ _ _ _ _ (by omega) (by decide)⟩

end Sys2Proof.Machine
end

section
/-! PROOFS. SNUFFED asked for and cleared, the logic die's temperature, and the mode without a host (R501, R502, R512, R514). -/
namespace Sys2Proof.Machine

/-! ### SNUFFED asked for and cleared -/

/-- What entering SNUFFED for `cause` shows of the block. -/
def Snuffs (d e : Dev) (cause : Nat) : Prop :=
  e.pwr.st = .snuffed ∧ e.pwr.snuffClr = false ∧ e.pwr.masterConfirm = false ∧
    e.rd PWR.SNUFF_CAUSE = cause ∧ e.raised EVT.PWR_SNUFFED 0 = true ∧
    (d.pwr.st ≠ .snuffed → e.rd WDG.SNUFF_ACT = 1) ∧
    (d.pwr.st ≠ .snuffed → d.on WDG.SNUFF_ACT = false → d.driving = true → e.pwm.snuff = true ∧
      (∀ c, c < 32 → (e.idcCh c).snuff = some (d.rd (WDG.SNUFF_STATE c))) ∧
      (∀ n, n < 16 → (e.lswCh n).snuff = some (d.rd (WDG.SNUFF_STATE (32 + n)))))

theorem snuffs_enterSnuffed (d : Dev) (now : Nat) {cause : Nat} (hc : cause < 8) (htick : d.ticking = true) :
    Snuffs d (d.enterSnuffed now cause) cause := by
  obtain ⟨h1, h2, -, -, -, h6, h7, h8⟩ := d.enterSnuffed_spec now cause htick
  exact ⟨by rw [h1], by rw [h1], by rw [h1], h2.trans (Nat.mod_eq_of_lt hc), h6, h7, h8⟩

theorem snuffReq_effect (s : State) (el : Nat) : Answers (.snuffReq el) s (fun now d e => d.pwrWrites now = true →
      (d.ticking = false → e = d) ∧ (d.ticking = true → Snuffs d e 3)) := by
  refine answers_of_forall (f := fun now d => if d.pwrWrites now then d.enterSnuffed now 3 else d) rfl (fun now d hw => ?_)
  rw [if_pos hw]
  exact ⟨fun h => Dev.enterSnuffed_of_not_ticking now 3 h, fun h => snuffs_enterSnuffed d now (by omega) h⟩

theorem snuffClr_effect (s : State) (el : Nat) : Answers (.snuffClr el) s (fun now d e => d.pwrWrites now = true →
      (d.pwr.st ≠ .snuffed ∨ d.pwr.mode ≠ .host → e = d) ∧
      (d.pwr.st = .snuffed → d.pwr.mode = .host →
        e.pwr = { d.pwr with snuffClr := e.rd PWR.SNUFF_CAUSES == 0, clrAt := now, clrUnder := d.holdOn pwrPage } ∧
        (∀ c, c < 6 → bitOf (e.rd PWR.SNUFF_CAUSES) c = (bitOf (d.rd PWR.SNUFF_CAUSES) c && !d.causeGone c)) ∧
        OnlyRegs [PWR.SNUFF_CAUSES] { d with pwr := e.pwr } e)) := by
  refine answers_of_forall (f := fun now d => if d.pwrWrites now then d.snuffClr now else d) rfl (fun now d hw => ⟨fun h => ?_, fun hst hm => ?_⟩)
  · rw [if_pos hw]
    refine if_neg fun hc => ?_
    simp only [Bool.and_eq_true, decide_eq_true_eq, beq_iff_eq] at hc
    exact h.elim (· hc.1) (· hc.2)
  · have heq : d.snuffClr now = { d.causesNow with pwr := { d.causesNow.pwr with
        snuffClr := d.causesNow.rd PWR.SNUFF_CAUSES == 0, clrAt := now, clrUnder := d.causesNow.holdOn pwrPage } } :=
      if_pos (by simp [hst, hm])
    have hregs := d.onlyRegs_causesNow
    have hhold : d.causesNow.holdOn pwrPage = d.holdOn pwrPage := by
      unfold Dev.holdOn
      rw [Dev.on_congr (hregs.2 (HDR.UPD_HOLD pwrPage) (by decide)), Dev.on_congr (hregs.2 (HDR.UPD_HOLD 0) (by decide))]
    rw [if_pos hw, heq, hhold]
    exact ⟨rfl, fun c hc => d.bitOf_causesNow hc, rfl, hregs.2⟩

/-! ### The temperature of the logic die -/

/-- The warning of a temperature that has risen to OT_WARN. -/
def Dev.tempWarned (d : Dev) (now : Nat) (t : Int) : Dev :=
  if d.rdS PWR.LOGIC_TEMP < d.otWarn && d.otWarn ≤ t then (d.wrS PWR.LOGIC_TEMP t).fire now EVT.PWR_OVERTEMP 0 0 else d.wrS PWR.LOGIC_TEMP t

theorem Dev.otWarn_wrTemp (d : Dev) (t : Int) : (d.wrS PWR.LOGIC_TEMP t).otWarn = d.otWarn := by
  have h : (d.wrS PWR.LOGIC_TEMP t).rd PWR.OT_WARN = d.rd PWR.OT_WARN := Dev.rd_wr_ne d _ (by decide)
  unfold Dev.otWarn Dev.rdH
  rw [h]

theorem Dev.otWarn_le (d : Dev) : d.otWarn ≤ 145 := by
  unfold Dev.otWarn Dev.rdH held
  omega

theorem Dev.rdS_wrTemp (d : Dev) (t : BitVec 10) : (d.wrS PWR.LOGIC_TEMP t.toInt).rdS PWR.LOGIC_TEMP = t.toInt :=
  Dev.rdS_wrS_of_fits d PWR.LOGIC_TEMP (by decide) (BitVec.le_toInt t) (BitVec.toInt_lt (x := t))

theorem Dev.tempWarned_spec (d : Dev) (now : Nat) (t : BitVec 10) :
    let e := d.tempWarned now t.toInt
    OnlyRegsAndEvents [PWR.LOGIC_TEMP] d e ∧ e.rdS PWR.LOGIC_TEMP = t.toInt ∧
      (d.rdS PWR.LOGIC_TEMP < d.otWarn → d.otWarn ≤ t.toInt → e.raised EVT.PWR_OVERTEMP 0 = true) ∧
      (t.toInt < d.otWarn → OnlyRegs [PWR.LOGIC_TEMP] d e) := by
  intro e
  have hregs : OnlyRegs [PWR.LOGIC_TEMP] d (d.wrS PWR.LOGIC_TEMP t.toInt) := OnlyRegs.wr d _ _ (by simp)
  have hlo := BitVec.le_toInt t
  have hhi := BitVec.toInt_lt (x := t)
  have htemp : (d.wrS PWR.LOGIC_TEMP t.toInt).rdS PWR.LOGIC_TEMP = t.toInt := d.rdS_wrTemp t
  by_cases hwarn : d.rdS PWR.LOGIC_TEMP < d.otWarn ∧ d.otWarn ≤ t.toInt
  · have he : e = (d.wrS PWR.LOGIC_TEMP t.toInt).fire now EVT.PWR_OVERTEMP 0 0 := if_pos (by simp [hwarn.1, hwarn.2])
    rw [he]
    refine ⟨hregs.toOnlyRegsAndEvents.thenFire _ _ _ _, (Dev.rdS_congr (Dev.rd_fire_of _ _ _ _ _ (by decide) (by decide))).trans htemp,
      fun _ _ => Dev.raised_fire _ _ _ _ _ (by omega) (by decide), fun h => ?_⟩
    omega
  · have he : e = d.wrS PWR.LOGIC_TEMP t.toInt := if_neg (by simpa using hwarn)
    rw [he]
    exact ⟨hregs.toOnlyRegsAndEvents, htemp, fun h1 h2 => absurd ⟨h1, h2⟩ hwarn, fun _ => hregs⟩

theorem Dev.logicTemp_of_asleep {d : Dev} (now : Nat) (t : Int) (h : d.alive = false ∨ d.pwr.st = .ember) :
    d.logicTemp now t = d.wrS PWR.LOGIC_TEMP t := by
  refine if_pos ?_
  rw [Bool.or_eq_true, Bool.not_eq_true', decide_eq_true_eq]
  exact h

theorem Dev.logicTemp_of_awake {d : Dev} (now : Nat) (t : Int) (ha : d.alive = true) (hst : d.pwr.st ≠ .ember) :
    d.logicTemp now t = if 150 ≤ t && (d.rdS PWR.LOGIC_TEMP < 150 || d.pwr.st != .snuffed) then (d.tempWarned now t).enterSnuffed now 4
      else if d.pwr.st = .snuffed then (d.tempWarned now t).causesNow else d.tempWarned now t := by
  have hawake : ¬ (!(d.wrS PWR.LOGIC_TEMP t).alive || decide ((d.wrS PWR.LOGIC_TEMP t).pwr.st = .ember)) = true := by
    rw [Bool.or_eq_true, Bool.not_eq_true', decide_eq_true_eq]
    exact not_or.mpr ⟨ne_false_of_eq_true ha, hst⟩
  have hwarned : (d.tempWarned now t).pwr = d.pwr := by
    unfold Dev.tempWarned
    split
    · exact Dev.fire_pwr _ _ _ _ _
    · rfl
  have heq : d.logicTemp now t = (if 150 ≤ t && (d.rdS PWR.LOGIC_TEMP < 150 || (d.tempWarned now t).pwr.st != .snuffed) then
      (d.tempWarned now t).enterSnuffed now 4
      else if (d.tempWarned now t).pwr.st = .snuffed then (d.tempWarned now t).causesNow else d.tempWarned now t) := by
    unfold Dev.logicTemp
    rw [if_neg hawake]
    unfold Dev.tempWarned
    rw [Dev.otWarn_wrTemp]
  rw [heq, hwarned]

theorem logicTemp_effect {i : Instr} (s : State) (t : BitVec 10)
    (hrun : exec i s = s.run i.elapsed (fun now d => if d.pwr.st = .off then d else d.logicTemp now t.toInt)) :
    Answers i s (fun _ d e =>
        (d.pwr.st = .off → e = d) ∧
        (d.pwr.st ≠ .off → e.rdS PWR.LOGIC_TEMP = t.toInt) ∧
        (d.pwr.st ≠ .off → d.alive = false ∨ d.pwr.st = .ember → OnlyRegs [PWR.LOGIC_TEMP] d e) ∧
        (d.alive = true → d.pwr.st ≠ .ember →
          (t.toInt < 150 → e.pwr = d.pwr) ∧
          (d.rdS PWR.LOGIC_TEMP < d.otWarn → d.otWarn ≤ t.toInt → e.raised EVT.PWR_OVERTEMP 0 = true) ∧
          (d.pwr.st = .snuffed → t.toInt < d.otWarn → bitOf (e.rd PWR.SNUFF_CAUSES) 4 = false) ∧
          (d.pwr.st ≠ .snuffed → t.toInt < d.otWarn → OnlyRegs [PWR.LOGIC_TEMP] d e) ∧
          (150 ≤ t.toInt → d.ticking = true → d.rdS PWR.LOGIC_TEMP < 150 ∨ d.pwr.st ≠ .snuffed →
            Snuffs d e 4 ∧ bitOf (e.rd PWR.SNUFF_CAUSES) 4 = true))) := by
  refine answers_of_forall hrun (fun now d => ?_)
  by_cases hoff : d.pwr.st = .off
  · have halive : d.alive = false := by simp [Dev.alive, hoff]
    rw [if_pos hoff]
    exact ⟨fun _ => rfl, fun h => absurd hoff h, fun h => absurd hoff h, fun h => absurd h (by simp [halive])⟩
  rw [if_neg hoff]
  refine ⟨fun h => absurd h hoff, ?_⟩
  have hlo := BitVec.le_toInt t
  have hhi := BitVec.toInt_lt (x := t)
  have hwarnLe := d.otWarn_le
  by_cases hasleep : d.alive = false ∨ d.pwr.st = .ember
  · rw [Dev.logicTemp_of_asleep now _ hasleep]
    refine ⟨fun _ => d.rdS_wrTemp t, fun _ _ => OnlyRegs.wr d _ _ (by simp), fun ha hst => ?_⟩
    rcases hasleep with h | h
    · rw [h] at ha
      cases ha
    · exact absurd h hst
  obtain ⟨halive, hember⟩ := not_or.mp hasleep
  obtain ⟨honly, htemp, hraised, hquiet⟩ := d.tempWarned_spec now t
  have hotw : (d.tempWarned now t.toInt).otWarn = d.otWarn := by
    unfold Dev.otWarn Dev.rdH
    rw [honly.2 PWR.OT_WARN (by decide) (by decide) (by decide)]
  rw [Dev.logicTemp_of_awake now _ (by simpa using halive) hember]
  generalize d.tempWarned now t.toInt = y at honly htemp hraised hquiet hotw
  have hpwr : y.pwr = d.pwr := (congrArg Dev.pwr honly.1 :)
  have hrd : ∀ f : Field, f.lo < 32 → f.ofEvents = false → PWR.LOGIC_TEMP.key ≠ f.key → y.rd f = d.rd f := fun f hlo hev hne =>
    honly.2 f hlo hev (by simpa using hne)
  have hgone : y.causeGone 4 = decide (t.toInt < d.otWarn) := by simp only [Dev.causeGone, htemp, hotw]
  have hticking : y.ticking = d.ticking := by simp only [Dev.ticking, Dev.running, hpwr]
  by_cases hhot : 150 ≤ t.toInt ∧ (d.rdS PWR.LOGIC_TEMP < 150 ∨ d.pwr.st ≠ .snuffed)
  · rw [if_pos (by simpa using hhot)]
    have hkeep : (y.enterSnuffed now 4).rd PWR.LOGIC_TEMP = y.rd PWR.LOGIC_TEMP ∧ RawKept y (y.enterSnuffed now 4) := by
      by_cases htick : y.ticking = true
      · obtain ⟨-, -, -, h4, h5, -⟩ := y.enterSnuffed_spec now 4 htick
        exact ⟨h4, h5⟩
      · rw [Dev.enterSnuffed_of_not_ticking now 4 (by simpa using htick)]
        exact ⟨rfl, RawKept.refl y⟩
    refine ⟨fun _ => (Dev.rdS_congr hkeep.1).trans htemp, fun _ h => absurd h hasleep, fun _ _ => ⟨fun h => absurd h (by omega),
      fun h1 h2 => hkeep.2.raised (by decide) (hraised h1 h2), fun _ h => absurd h (by omega), fun _ h => absurd h (by omega),
      fun _ htick _ => ?_⟩⟩
    obtain ⟨h1, h2, h3, -, -, h6, h7, h8⟩ := y.enterSnuffed_spec now 4 (hticking.trans htick)
    have hst : y.pwr.st = d.pwr.st := congrArg (fun p => p.st) hpwr
    have hact : y.on WDG.SNUFF_ACT = d.on WDG.SNUFF_ACT := Dev.on_congr (hrd _ (by decide) (by decide) (by decide))
    have hdrv : y.driving = d.driving := by simp only [Dev.driving, hpwr]
    have hstate : ∀ i, i < 48 → y.rd (WDG.SNUFF_STATE i) = d.rd (WDG.SNUFF_STATE i) := fun i hi =>
      hrd _ (show 0 < 32 by omega) (by clear * - hi; decide +revert) (by simp only [Field.key, WDG.SNUFF_STATE, PWR.LOGIC_TEMP]; omega)
    rw [hst, hact, hdrv] at h8
    rw [hst] at h7
    refine ⟨⟨by rw [h1], by rw [h1], by rw [h1], h2, h6, h7, fun g1 g2 g3 => ?_⟩, ?_⟩
    · obtain ⟨k1, k2, k3⟩ := h8 g1 g2 g3
      exact ⟨k1, fun c hc => (k2 c hc).trans (by rw [hstate c (by omega)]), fun n hn => (k3 n hn).trans (by rw [hstate (32 + n) (by omega)])⟩
    · rw [h3 4 (by omega), hgone]
      simp only [decide_true, Bool.true_or, Bool.true_and, Bool.not_eq_true', decide_eq_false_iff_not]
      omega
  rw [if_neg (by simpa using hhot)]
  by_cases hsn : d.pwr.st = .snuffed
  · rw [if_pos hsn]
    have hregs := y.onlyRegs_causesNow
    have hbit := y.bitOf_causesNow (j := 4) (by omega)
    have hraw : RawKept y y.causesNow := RawKept.wr y PWR.SNUFF_CAUSES _ (by decide)
    have hzpwr : y.causesNow.pwr = y.pwr := rfl
    refine ⟨fun _ => (Dev.rdS_congr (hregs.2 PWR.LOGIC_TEMP (by decide))).trans htemp, fun _ h => absurd h hasleep, fun _ _ => ⟨fun _ => hzpwr.trans hpwr,
      fun h1 h2 => hraw.raised (by decide) (hraised h1 h2), fun _ hlt => ?_, fun h => absurd hsn h, fun h1 _ h2 => absurd ⟨h1, h2⟩ hhot⟩⟩
    rw [hbit, hgone]
    simp [hlt]
  · rw [if_neg hsn]
    exact ⟨fun _ => htemp, fun _ h => absurd h hasleep, fun _ _ => ⟨fun _ => hpwr, hraised, fun h => absurd h hsn, fun _ h => hquiet h,
      fun h1 _ h2 => absurd ⟨h1, h2⟩ hhot⟩⟩

end Sys2Proof.Machine
end

section
/-! PROOFS. The mode without a host: the grid starts and the field opens (R512, R514). -/
namespace Sys2Proof.Machine

theorem periodOf_pos (c : Nat) : 0 < periodOf c := by
  unfold periodOf
  split
  · decide
  split
  · decide
  split
  · decide
  · decide

/-- The tick grid that begins, in pair time. -/
def Dev.tickBegins (d : Dev) (now : Nat) : Dev :=
  let p := periodOf (d.rd SYS.TICK_RATE)
  let r := d.draw 32
  let e := { r.2 with sys := { d.sys with gridOn := true, tEpoch := now + 1 + r.1 % p, nEpoch := d.sys.nextN, period := p, rateChg := [] } }
  let e := { e with pair := { e.pair with gridPt := e.ptOf (nsOf e.sys.tEpoch) } }
  (e.wr SYS.TICK_RATE_ACT (e.rd SYS.TICK_RATE)).wr SYS.DEGRADED 0

theorem Dev.tickBegins_spec (d : Dev) (now : Nat) :
    let e := d.tickBegins now
    e.pwr = d.pwr ∧ e.sys.gridOn = true ∧ now < e.sys.tEpoch ∧ e.sys.tEpoch ≤ now + periodOf (d.rd SYS.TICK_RATE) ∧
      e.sys.period = periodOf (d.rd SYS.TICK_RATE) ∧ e.rd SYS.TICK_RATE_ACT = d.rd SYS.TICK_RATE % 2 ^ SYS.TICK_RATE_ACT.width ∧
      RawKept d e ∧ ∀ f : Field, SYS.TICK_RATE_ACT.key ≠ f.key → SYS.DEGRADED.key ≠ f.key → e.rd f = d.rd f := by
  have hlt := Nat.mod_lt (d.draw 32).1 (periodOf_pos (d.rd SYS.TICK_RATE))
  unfold Dev.tickBegins
  extract_lets p r _ _ _ _ y e
  have hx : y.regs = d.regs := rfl
  have hsys : y.sys = { d.sys with gridOn := true, tEpoch := now + 1 + r.1 % p, nEpoch := d.sys.nextN, period := p, rateChg := [] } := rfl
  have hpwr : y.pwr = d.pwr := rfl
  have hrate : y.rd SYS.TICK_RATE = d.rd SYS.TICK_RATE := rfl
  clear_value y
  refine ⟨hpwr, ?_, ?_, ?_, ?_, ?_, ?_, fun f h1 h2 => ?_⟩
  · exact congrArg (fun z => z.gridOn) hsys
  · rw [show e.sys.tEpoch = now + 1 + r.1 % p from congrArg (fun z => z.tEpoch) hsys]
    omega
  · rw [show e.sys.tEpoch = now + 1 + r.1 % p from congrArg (fun z => z.tEpoch) hsys]
    have : r.1 % p < p := hlt
    have hp : p = periodOf (d.rd SYS.TICK_RATE) := rfl
    omega
  · exact congrArg (fun z => z.period) hsys
  · exact (Dev.rd_wr_ne _ _ (by decide)).trans ((Dev.rd_wr_self y SYS.TICK_RATE_ACT _).trans (by rw [hrate]))
  · exact (RawKept.of_regs hx).trans ((RawKept.wr y SYS.TICK_RATE_ACT _ (by decide)).trans (RawKept.wr _ SYS.DEGRADED _ (by decide)))
  · exact (Dev.rd_wr_ne _ _ h2).trans ((Dev.rd_wr_ne _ _ h1).trans (Dev.rd_congr d y f (by rw [hx])))

/-- The field of the image opens, where none is open. -/
abbrev FieldTouch (d e : Dev) : Prop :=
  Touches [(0x0100b0, 0x0100bc), (0x030040, 0x030048)] (fun x : Dev => { x with regs := [], pend := [], cov := {}, pose := {} }) d e

theorem fieldTouch_reframe (d : Dev) (a : Origin) : FieldTouch d (d.reframe a) ∧ (d.reframe a).cov = d.cov := by
  unfold Dev.reframe
  split
  · exact ⟨Touches.refl d, rfl⟩
  · exact ⟨Touches.of_regs rfl rfl, rfl⟩

/-- The registers of the field that the image gives. -/
def Dev.imageFields (d : Dev) : List Field :=
  [COV.FIELD_ID, COV.CELL_SIZE] ++ (if d.imageOrigin then [GEOP.ORG_LAT, GEOP.ORG_LON, GEOP.ORG_H] else [])

theorem Dev.imageFields_writable (d : Dev) : ∀ f ∈ d.imageFields, f.writable [(0x0100b0, 0x0100bc), (0x030040, 0x030048)] = true := by
  unfold Dev.imageFields
  split <;> decide

/-- No origin is due. -/
def Dev.originSettled (d : Dev) : Dev := { d with pose := { d.pose with orgDue := false } }

/-- The opening asked for, with the pending values of the fields dropped. -/
def Dev.fieldAsked (d : Dev) (fs : List Field) : Dev :=
  { d with pend := d.pend.filter (fun x => !fs.any (fun f => f.key == x.1)), cov := { d.cov with cmd := 1, cmdUnder := false } }

/-- The origin of the map stays due, in the frame in force. -/
def Dev.originDue (d : Dev) : Dev := { d with pose := { d.pose with orgDue := true, frame := d.origin } }

theorem Dev.autoField_of_closed {d : Dev} (h : d.rd COV.FIELD_STATE = 0) :
    d.autoField =
      (let x := d.originSettled.each d.imageFields (fun d f => d.wr f (d.imageVal f))
       let y := (x.fieldAsked d.imageFields).reframe d.origin
       if y.imageOrigin then y else y.originDue) := by
  unfold Dev.autoField
  rw [if_neg (by simp [h])]
  rfl

theorem fieldTouch_autoField (d : Dev) : FieldTouch d d.autoField ∧ (d.rd COV.FIELD_STATE = 0 → d.autoField.cov.cmd = 1) := by
  by_cases h : d.rd COV.FIELD_STATE = 0
  · rw [Dev.autoField_of_closed h]
    extract_lets x y
    have hx : FieldTouch d x := Touches.trans (b := d.originSettled) (Touches.of_regs rfl rfl)
      (Touches.each _ _ (fun z f hf => Touches.wr z f _ (d.imageFields_writable f hf) (by rfl)) d.originSettled)
    have hx' : FieldTouch x (x.fieldAsked d.imageFields) := Touches.of_regs rfl rfl
    obtain ⟨hy, hcov⟩ := fieldTouch_reframe (x.fieldAsked d.imageFields) d.origin
    have hcmd : y.cov.cmd = 1 := by
      rw [show y.cov = (x.fieldAsked d.imageFields).cov from hcov]
      rfl
    have hall : FieldTouch d y := (hx.trans hx').trans hy
    clear_value x y
    split
    · exact ⟨hall, fun _ => hcmd⟩
    · exact ⟨hall.trans (Touches.of_regs rfl rfl), fun _ => hcmd⟩
  · have heq : d.autoField = d := if_pos (by simpa using h)
    rw [heq]
    exact ⟨Touches.refl d, fun h0 => absurd h0 h⟩

/-- A mode chosen without a host. -/
def Dev.hostMissed (d : Dev) : Dev := { d with pwr := { d.pwr with hostWaitTill := none, modeSel := true } }

/-- The units under the mode chosen: the grid has begun. -/
def Dev.modeRuns (d : Dev) (now : Nat) (m : OpMode) : Dev := (((d.hostMissed.setMode now m).tickBegins now).canStart now).gridStart now

theorem Dev.modeSelect_eq (d : Dev) (now : Nat) (m : OpMode) :
    d.modeSelect now m = if m = .autonomous then (d.modeRuns now m).autoField else d.modeRuns now m := rfl

theorem Dev.modeRuns_spec (d : Dev) (now : Nat) {m : OpMode} (hm : m ≠ .host) :
    let e := d.modeRuns now m
    e.pwr = { d.pwr with hostWaitTill := none, modeSel := true, mode := m } ∧ e.raised EVT.PWR_MODE 0 = true ∧ e.rd WDG.WDG_ARMED = 0 ∧
      e.sys.gridOn = true ∧ now < e.sys.tEpoch ∧ e.sys.tEpoch ≤ now + periodOf (d.rd SYS.TICK_RATE) ∧
      e.sys.period = periodOf (d.rd SYS.TICK_RATE) ∧ e.rd SYS.TICK_RATE_ACT = d.rd SYS.TICK_RATE % 2 ^ SYS.TICK_RATE_ACT.width ∧
      e.rd COV.FIELD_STATE = d.rd COV.FIELD_STATE := by
  unfold Dev.modeRuns
  obtain ⟨hset, harmed, hraised⟩ := d.hostMissed.setMode_spec now hm
  have hpwr : (d.hostMissed.setMode now m).pwr = { d.pwr with hostWaitTill := none, modeSel := true, mode := m } := (congrArg Dev.pwr hset.rest :)
  have hrate : (d.hostMissed.setMode now m).rd SYS.TICK_RATE = d.rd SYS.TICK_RATE := hset.rd SYS.TICK_RATE (by decide) (by decide) (by decide)
  have hfield : (d.hostMissed.setMode now m).rd COV.FIELD_STATE = d.rd COV.FIELD_STATE := hset.rd COV.FIELD_STATE (by decide) (by decide) (by decide)
  generalize d.hostMissed.setMode now m = x at harmed hraised hpwr hrate hfield
  obtain ⟨t1, t2, t3, t4, t5, t6, t7, t8⟩ := x.tickBegins_spec now
  generalize x.tickBegins now = y at t1 t2 t3 t4 t5 t6 t7 t8
  have hunits : UnitTouch y ((y.canStart now).gridStart now) := (unitTouch_canStart y now).trans (unitTouch_gridStart _ now)
  generalize (y.canStart now).gridStart now = z at hunits
  have hsys : z.sys = y.sys := (congrArg Dev.sys hunits.rest :)
  intro e
  refine ⟨hunits.pwr.trans (t1.trans hpwr), (t7.trans hunits.raw).raised (by decide) hraised, ?_, ?_, ?_, ?_, ?_, ?_, ?_⟩
  · exact (hunits.rd WDG.WDG_ARMED (by decide) (by decide) (by decide)).trans ((t8 _ (by decide) (by decide)).trans harmed)
  · rw [show e.sys = y.sys from hsys]
    exact t2
  · rw [show e.sys = y.sys from hsys]
    exact t3
  · rw [show e.sys = y.sys from hsys, ← hrate]
    exact t4
  · rw [show e.sys = y.sys from hsys, ← hrate]
    exact t5
  · rw [← hrate]
    exact (hunits.rd SYS.TICK_RATE_ACT (by decide) (by decide) (by decide)).trans t6
  · exact (hunits.rd COV.FIELD_STATE (by decide) (by decide) (by decide)).trans ((t8 _ (by decide) (by decide)).trans hfield)

theorem hostWaitExpiry_effect (s : State) (el : Nat) : Answers (.hostWaitExpiry el) s (fun now d e =>
      (d.pwr.hostWaitTill = none → e = d) ∧
      (∀ t, d.pwr.hostWaitTill = some t → (now < t → e = d) ∧
        (t ≤ now → e.pwr.mode = (if d.on PWR.CFG_VALID then .autonomous else .plain) ∧ e.pwr.hostWaitTill = none ∧ e.pwr.modeSel = true ∧
          e.raised EVT.PWR_MODE 0 = true ∧ e.rd WDG.WDG_ARMED = 0 ∧
          (d.on PWR.CFG_VALID = true → d.rd COV.FIELD_STATE = 0 → e.cov.cmd = 1) ∧
          e.sys.gridOn = true ∧ now < e.sys.tEpoch ∧ e.sys.tEpoch ≤ now + periodOf (d.rd SYS.TICK_RATE) ∧
          e.sys.period = periodOf (d.rd SYS.TICK_RATE) ∧
          e.rd SYS.TICK_RATE_ACT = d.rd SYS.TICK_RATE % 2 ^ SYS.TICK_RATE_ACT.width))) := by
  refine answers_of_forall (f := fun now d => d.hostWaitEnd now) rfl (fun now d => ⟨fun h => ?_, fun t ht => ⟨fun hlt => ?_, fun hge => ?_⟩⟩)
  · unfold Dev.hostWaitEnd
    rw [h]
  · unfold Dev.hostWaitEnd
    rw [ht]
    exact if_neg (by omega)
  · have heq : d.hostWaitEnd now = d.modeSelect now (if d.on PWR.CFG_VALID then .autonomous else .plain) := by
      unfold Dev.hostWaitEnd
      rw [ht]
      exact if_pos hge
    rw [heq, Dev.modeSelect_eq]
    cases hcfg : d.on PWR.CFG_VALID with
    | false =>
      obtain ⟨h1, h2, h3, h4, h5, h6, h7, h8, -⟩ := d.modeRuns_spec now (m := .plain) (by decide)
      rw [if_neg (by decide), if_neg (by decide)]
      exact ⟨by rw [h1], by rw [h1], by rw [h1], h2, h3, (fun h => by cases h), h4, h5, h6, h7, h8⟩
    | true =>
      obtain ⟨h1, h2, h3, h4, h5, h6, h7, h8, h9⟩ := d.modeRuns_spec now (m := .autonomous) (by decide)
      rw [if_pos rfl, if_pos rfl]
      generalize d.modeRuns now .autonomous = y at h1 h2 h3 h4 h5 h6 h7 h8 h9
      obtain ⟨hfield, hcmd⟩ := fieldTouch_autoField y
      have hpwr : y.autoField.pwr = y.pwr := (congrArg Dev.pwr hfield.rest :)
      have hsys : y.autoField.sys = y.sys := (congrArg Dev.sys hfield.rest :)
      rw [hpwr, hsys, h1]
      exact ⟨rfl, rfl, rfl, hfield.raw.raised (by decide) h2, (hfield.rd WDG.WDG_ARMED (by decide) (by decide) (by decide)).trans h3,
        fun _ h => hcmd (h9.trans h), h4, h5, h6, h7, (hfield.rd SYS.TICK_RATE_ACT (by decide) (by decide) (by decide)).trans h8⟩

theorem modeReq_effect (s : State) (el : Nat) (m : BitVec 2) : Answers (.modeReq el m) s (fun now d e => d.pwrWrites now = true →
      e = { d with pwr := { d.pwr with modeReq := m.toNat, modeAt := now, modeUnder := d.holdOn pwrPage } }) :=
  answers_of_forall (f := fun now d => if d.pwrWrites now then d.modeAsk now m.toNat else d) rfl (fun _ _ hw => if_pos hw)

/-- Settles O52: a cause makes the block SNUFFED with its outputs in their snuff states, and a block without a host chooses its mode. -/
theorem snuffedCausesAndModes : Obligations.SnuffedCausesAndModes := by
  unfold Obligations.SnuffedCausesAndModes
  exact fun s el => ⟨snuffReq_effect s el, snuffClr_effect s el,
    fun t => ⟨logicTemp_effect s t rfl, logicTemp_effect s t rfl, logicTemp_effect s t rfl⟩, fun m => modeReq_effect s el m, hostWaitExpiry_effect s el⟩

end Sys2Proof.Machine
end

section
/-! PROOFS. Operations that leave the power unit and its page as they were: what starting and stopping the other units changes. -/
namespace Sys2Proof.Machine

/-- Every page but that of the power unit. -/
abbrev otherPages : List (Nat × Nat) := [(0, 0x001000), (0x002000, 0x800000)]

/-- The power unit, the register space's service, and whether the tick runs. -/
def Dev.pwrHif (d : Dev) : PwrBlk × HifBlk × Bool := (d.pwr, d.hif, d.sys.gridOn)

/-- An operation of units other than the power unit. -/
abbrev PwrTouch (d e : Dev) : Prop := Touches otherPages Dev.pwrHif d e

section
variable {a d e : Dev}

theorem PwrTouch.pwr (h : PwrTouch d e) : e.pwr = d.pwr := (congrArg Prod.fst h.rest :)

theorem PwrTouch.hif (h : PwrTouch d e) : e.hif = d.hif := (congrArg (fun x => x.2.1) h.rest :)

theorem PwrTouch.gridOn (h : PwrTouch d e) : e.sys.gridOn = d.sys.gridOn := (congrArg (fun x => x.2.2) h.rest :)

theorem PwrTouch.thenWr (h : PwrTouch a d) {f : Field} {v : Nat} (hf : f.writable otherPages = true) : PwrTouch a (d.wr f v) :=
  h.trans (Touches.wr d f v hf (by rfl))

theorem pwrTouch_fire (d : Dev) (now ev inst val : Nat) : PwrTouch d (d.fire now ev inst val) := Touches.fire d now ev inst val (by intros; rfl)

theorem Stores.powered (h : Stores d e) : PwrTouch d e := Touches.mono h (by decide) (fun hk => (congrArg Dev.pwrHif hk :))

theorem ModeTouch.powered (h : ModeTouch d e) : PwrTouch d e := Touches.mono h (by decide) (fun hk => (congrArg Dev.pwrHif hk :))

theorem StoreTouch.powered (h : StoreTouch d e) : PwrTouch d e :=
  Touches.mono h (by decide) (fun hk => (congrArg (fun x => x.1.pwrHif) hk :))

theorem TileTouch.powered (h : TileTouch d e) : PwrTouch d e := Touches.mono h (by decide) (fun hk => (congrArg Dev.pwrHif hk :))

theorem GnssTouch.powered (h : GnssTouch d e) : PwrTouch d e :=
  Touches.mono h (by decide) (fun hk => (congrArg (fun x => x.1.pwrHif) hk :))

theorem IdcTouch.powered (h : IdcTouch d e) : PwrTouch d e :=
  Touches.mono h (by decide) (fun hk => (congrArg (fun x => x.1.1.pwrHif) hk :))

theorem LswTouch.powered (h : LswTouch d e) : PwrTouch d e :=
  Touches.mono h (by decide) (fun hk => (congrArg (fun x => x.1.pwrHif) hk :))

theorem Driven.powered (h : Driven d e) : PwrTouch d e :=
  Touches.mono h (by decide) (fun hk => (congrArg (fun x => x.1.pwrHif) hk :))

end

/-! ### Stores -/

/-! ### The tick grid -/

/-- The grid at the edge of a period change. -/
def Dev.gridTurned (d : Dev) (x : Nat × Nat) : Dev :=
  let l := d.sys.rateChg.filter (· != x)
  let e := d.edgeOf x.1
  let d := { d with pair := { d.pair with gridPt := d.pair.gridPt + nsOf ((x.1 - d.sys.nEpoch) * d.sys.period) } }
  { d with sys := { d.sys with tEpoch := e, nEpoch := x.1, nextN := max x.1 d.sys.nextN, period := x.2, rateChg := l } }

theorem Dev.gridTurnOne_eq (now : Nat) (d : Dev) (x : Nat × Nat) :
    Dev.gridTurnOne now d x = if d.edgeOf x.1 ≤ now then
      if x.2 = periodOf (((d.gridTurned x).wr SYS.TICK_RATE_ACT (rateCode x.2)).rd SYS.TICK_RATE) then
        ((d.gridTurned x).wr SYS.TICK_RATE_ACT (rateCode x.2)).wr SYS.DEGRADED 0
      else (d.gridTurned x).wr SYS.TICK_RATE_ACT (rateCode x.2)
    else d := rfl

/-- The block without registers, pair and tick grid. -/
def Dev.sansGrid (d : Dev) : Dev := { d with regs := [], pair := {}, sys := {} }

/-- What the turns of the tick grid leave as it was. -/
def Dev.gridKeep (d : Dev) : Dev × Bool := (d.sansGrid, d.sys.gridOn)

/-- An operation of the tick grid: the registers of the rate, the grid and its place in pair time. -/
abbrev GridTouch (d e : Dev) : Prop := Touches [(0, 0x001000)] Dev.gridKeep d e

theorem GridTouch.powered {d e : Dev} (h : GridTouch d e) : PwrTouch d e :=
  Touches.mono h (by decide) (fun hk => (congrArg (fun x => (x.1.pwr, x.1.hif, x.2)) hk :))

theorem gridTouch_gridTurnOne (now : Nat) (d : Dev) (x : Nat × Nat) : GridTouch d (Dev.gridTurnOne now d x) := by
  rw [Dev.gridTurnOne_eq]
  have h : GridTouch d ((d.gridTurned x).wr SYS.TICK_RATE_ACT (rateCode x.2)) :=
    Touches.trans (b := d.gridTurned x) (Touches.of_regs rfl rfl) (Touches.wr _ SYS.TICK_RATE_ACT _ (by decide) (by rfl))
  exact Touches.opt (Touches.ite (fun _ => h.trans (Touches.wr _ SYS.DEGRADED _ (by decide) (by rfl))) (fun _ => h))

theorem gridTouch_gridTurn (d : Dev) (now : Nat) : GridTouch d (d.gridTurn now) :=
  Touches.each d.sys.rateChg (fun d x => Dev.gridTurnOne now d x) (fun y x _ => gridTouch_gridTurnOne now y x) d

theorem gridTouch_gridAdvance (d : Dev) (now : Nat) : GridTouch d (d.gridAdvance now) := by
  unfold Dev.gridAdvance
  refine Touches.opt ((gridTouch_gridTurn d now).trans ?_)
  dsimp only
  generalize d.gridTurn now = y
  split
  · exact Touches.of_regs rfl rfl
  · exact Touches.refl y

/-- The grid that halts. -/
theorem gridHalt_spec (d : Dev) (now : Nat) : Touches [(0, 0x001000)] Dev.sansGrid d (d.gridHalt now) ∧ (d.gridHalt now).sys.gridOn = false :=
  ⟨Touches.trans ((gridTouch_gridAdvance d now).mono (by decide) (fun hk => congrArg Prod.fst hk)) (Touches.of_regs rfl rfl), rfl⟩

/-! ### The pose engine, GRID and the receiver -/

theorem pwrTouch_poseShow (d : Dev) (edge : Nat) (x : PoseEntry) (w c : Int) : PwrTouch d (d.poseShow edge x w c) := by
  unfold Dev.poseShow
  dsimp only
  repeat refine PwrTouch.thenWr ?_ (by decide)
  exact Touches.refl d

/-- The pose engine without what it works on. -/
def Dev.poseCleared (d : Dev) : Dev :=
  { d with pose := { d.pose with pose := {}, align := {}, gnssLast := none, gnssAcc := none, odoAcc := [], exclFrom := none,
                                 agreeFrom := none, lastSol := none, exclSrc := [], stillFrom := none, kin := true, goodFrom := none,
                                 meas := [], samples := [], running := false, filt := {}, level := {}, whlDt := 0 } }

/-- The registers of a pose engine that stands. -/
def Dev.poseShown (d : Dev) : Dev :=
  ((((((d.poseCleared.poseShow 0 {} 0 0).wr POSE.IMU_ACT 0).wr POSE.POSE_TICK 0).wr POSE.GNSS_EXCL 0).wr POSE.ODO_EXCL 0).wr POSE.POS_RANGE 0).wr
    POSE.ZUPT_ACT 0

theorem Dev.poseStop_eq (d : Dev) (now : Nat) :
    d.poseStop now = if d.rd POSE.CLASS = 0 then d.poseShown else d.poseShown.fire now EVT.POSE_CLASS 0 0 := rfl

theorem pwrTouch_poseStop (d : Dev) (now : Nat) : PwrTouch d (d.poseStop now) := by
  have h0 : PwrTouch d d.poseCleared := Touches.of_regs rfl rfl
  have h : PwrTouch d d.poseShown :=
    (((((PwrTouch.thenWr (h0.trans (pwrTouch_poseShow _ 0 {} 0 0)) (by decide)).thenWr (by decide)).thenWr (by decide)).thenWr (by decide)).thenWr
      (by decide)).thenWr (by decide)
  rw [Dev.poseStop_eq]
  exact Touches.ite (fun _ => h) (fun _ => h.trans (pwrTouch_fire _ now _ _ _))

theorem unitTouch_gridStop (d : Dev) (now : Nat) : UnitTouch d (d.gridStop now) := by
  unfold Dev.gridStop
  exact (Touches.trans (unitTouch_clearLayer d) (Touches.trans (b := { d.clearLayer with grid := { d.clearLayer.grid with held := [], waiting := [] } })
    (Touches.of_regs rfl rfl) (unitTouch_freeCredits _ now))).trans (unitTouch_setGridMode _ now 0)

/-- The receiver with the channels `t` and no raw records. -/
def Dev.gnssHolds (d : Dev) (t : Tab Chan) : Dev := { d with gnss := { d.gnss with chans := t, raw := [] } }

theorem pwrTouch_gnssHolds (d : Dev) (t : Tab Chan) : PwrTouch d (((d.gnssHolds t).wr GNSS.CH_TRACK 0).wr GNSS.SV_USED 0) := by
  have h : PwrTouch d (d.gnssHolds t) := Touches.of_regs rfl rfl
  exact (h.thenWr (by decide)).thenWr (by decide)

theorem pwrTouch_emberChans (d : Dev) : PwrTouch d d.emberChans := pwrTouch_gnssHolds d _

theorem pwrTouch_setSolType (d : Dev) (now ty : Nat) : PwrTouch d (d.setSolType now ty) := (gnssTouch_setSolType d now ty).powered

theorem pwrTouch_gnssEnable (d : Dev) (now : Nat) : PwrTouch d (d.gnssEnable now) :=
  Touches.ite (fun _ => Touches.refl d) (fun _ => (pwrTouch_gnssHolds d []).trans (pwrTouch_setSolType _ now 0))

theorem pwrTouch_setAnt (d : Dev) (now st : Nat) : PwrTouch d (d.setAnt now st) :=
  Touches.ite (fun _ => Touches.refl d) (fun _ => Touches.trans (Touches.wr d GNSS.ANT_STATE st (by decide) (by rfl)) (pwrTouch_fire _ now _ _ _))

/-- The antenna's bias stays off. -/
def Dev.biasRests (d : Dev) : Dev := { d with gnss := { d.gnss with biasOffAt := none } }

theorem pwrTouch_antEnApply (d : Dev) (now : Nat) : PwrTouch d (d.antEnApply now) := by
  have h : PwrTouch d d.biasRests := Touches.of_regs rfl rfl
  refine Touches.ite (fun _ => Touches.opt ?_) (fun _ => Touches.trans (h.thenWr (f := GNSS.ANT_MA) (v := 0) (by decide)) (pwrTouch_setAnt _ now 0))
  exact Touches.trans (Touches.wr d GNSS.ANT_MA _ (by decide) (by rfl)) (pwrTouch_setAnt _ now 1)

/-! ### The stream ports and the pair -/

/-- Enabling or disabling a port changes that port alone. -/
theorem Dev.kspEnable_modPort (d : Dev) (now n : Nat) : ∃ f, d.kspEnable now n = d.modPort n f ∨ d.kspEnable now n = d := by
  unfold Dev.kspEnable
  split
  · split
    · exact ⟨_, .inl rfl⟩
    · exact ⟨id, .inr rfl⟩
  · exact ⟨_, .inl rfl⟩

theorem Dev.sansSend_kspEnable (d : Dev) (now n : Nat) : d.kspEnable now n = { d with ksp := (d.kspEnable now n).ksp } := by
  obtain ⟨f, h | h⟩ := d.kspEnable_modPort now n
  · rw [h]
    rfl
  · rw [h]

theorem pwrTouch_kspEnable (d : Dev) (now n : Nat) : PwrTouch d (d.kspEnable now n) := by
  rw [Dev.sansSend_kspEnable]
  exact Touches.of_regs rfl rfl

/-- The block without registers, recorder, stream ports and pairing. -/
def Dev.sansPairing (d : Dev) : Dev := { d with regs := [], evh := {}, rec_ := {}, ksp := [], pair := {} }

/-- An operation of pairing. -/
abbrev PairTouch (d e : Dev) : Prop := Touches [(0x072000, 0x073000)] Dev.sansPairing d e

theorem PairTouch.powered {d e : Dev} (h : PairTouch d e) : PwrTouch d e := Touches.mono h (by decide) (fun hk => (congrArg Dev.pwrHif hk :))

theorem pairTouch_pair (d : Dev) (p : PairBlk) : PairTouch d { d with pair := p } := Touches.of_regs rfl rfl

theorem pairTouch_setPair (d : Dev) (now : Nat) (st : PairState) : PairTouch d (d.setPair now st) := by
  unfold Dev.setPair
  split
  · exact Touches.refl d
  extract_lets _ x _ y
  have hx : PairTouch d x := pairTouch_pair d _
  have hy : PairTouch x y := by
    subst y
    split
    · exact Touches.wr x PAIR.HB_MISS 0 (by decide) (by rfl)
    · exact (pairTouch_pair x { x.pair with mirror := none, mirrorRun := 0, syncedFrom := none }).trans (Touches.wr _ PAIR.SYNCED 0 (by decide) (by rfl))
  exact ((hx.trans hy).trans (Touches.wr y PAIR.PAIR_STATE _ (by decide) (by rfl))).trans (Touches.fire _ now _ _ _ (by intros; rfl))

theorem pairTouch_helloSend (d : Dev) (now : Nat) : PairTouch d (d.helloSend now) := by
  obtain ⟨-, heq, -⟩ := d.helloSend_spec now rfl
  rw [heq]
  exact Touches.of_regs rfl rfl

theorem pwrTouch_setPair (d : Dev) (now : Nat) (st : PairState) : PwrTouch d (d.setPair now st) := (pairTouch_setPair d now st).powered

theorem pwrTouch_helloSend (d : Dev) (now : Nat) : PwrTouch d (d.helloSend now) := (pairTouch_helloSend d now).powered

theorem pwrTouch_pairStart (d : Dev) (now : Nat) (resume : Bool) : PwrTouch d (d.pairStart now resume) := by
  unfold Dev.pairStart
  extract_lets v en _ x y
  have hx : PwrTouch d x := Touches.of_regs rfl rfl
  have hy : PwrTouch d y := ((hx.thenWr (by decide)).thenWr (by decide)).thenWr (by decide)
  clear_value y
  split
  · exact hy.trans (pwrTouch_setPair y now .off)
  split
  · exact hy.trans (pwrTouch_setPair y now .alone)
  · exact hy.trans (Touches.trans (b := { y with pair := { y.pair with st := .off } }) (Touches.of_regs rfl rfl)
      (Touches.trans (pwrTouch_setPair _ now .seek) (pwrTouch_helloSend _ now)))

/-! ### Calibration -/

/-- Address range of the page of calibration. -/
abbrev calPages : List (Nat × Nat) := [(0x039000, 0x03A000)]

theorem CAL.shown_writable {s : Nat} (hs : s < 16) : [CAL.D_X s, CAL.D_Y s, CAL.D_Z s, CAL.D_YAW s, CAL.D_PITCH s, CAL.D_ROLL s].all
    (fun f => f.writable calPages) = true := by decide +revert

theorem CAL.upd_writable {s : Nat} (hs : s < 16) : (CAL.CAL_UPD s).writable otherPages = true := by decide +revert

theorem RegTouch.powered {d e : Dev} (h : RegTouch calPages d e) : PwrTouch d e := Touches.mono h (by decide) (fun hk => (congrArg Dev.pwrHif hk :))

theorem calTouch_calShow (d : Dev) {s : Nat} (hs : s < 16) : RegTouch calPages d (d.calShow s) := by
  have h := CAL.shown_writable hs
  simp only [List.all_cons, List.all_nil, Bool.and_true, Bool.and_eq_true] at h
  obtain ⟨h1, h2, h3, h4, h5, h6⟩ := h
  have hwr : ∀ {x : Dev} {f v}, RegTouch calPages d x → f.writable calPages = true → RegTouch calPages d (x.wr f v) :=
    fun hx hf => hx.trans (Touches.wr _ _ _ hf (by rfl))
  exact hwr (hwr (hwr (hwr (hwr (hwr (Touches.refl d) h1) h2) h3) h4) h5) h6

theorem pwrTouch_calShow (d : Dev) {s : Nat} (hs : s < 16) : PwrTouch d (d.calShow s) := RegTouch.powered (calTouch_calShow d hs)

theorem pwrTouch_calRestore (d : Dev) : PwrTouch d d.calRestore := by
  unfold Dev.calRestore
  extract_lets x y
  have hx : PwrTouch d x := Touches.of_regs rfl rfl
  have hy : PwrTouch x y := Touches.each (List.range 16) _ (fun z s hs => by
    have hs : s < 16 := List.mem_range.mp hs
    dsimp only
    refine PwrTouch.thenWr (Touches.trans ?_ (pwrTouch_calShow _ hs)) (CAL.upd_writable hs)
    split
    · exact Touches.refl z
    · exact Touches.of_regs rfl rfl) x
  exact (PwrTouch.thenWr (hx.trans hy) (by decide)).thenWr (by decide)

theorem pwrTouch_tpoStart (d : Dev) (now : Nat) : PwrTouch d (d.tpoStart now) := Touches.of_regs rfl rfl

/-- The pose engine without its spare. -/
def Dev.poseSpareless (d : Dev) : Dev := { d with pose := { d.pose with spare := false } }

/-- The units that start once the register space is in service. -/
theorem pwrTouch_unitsStart (d : Dev) (now : Nat) : PwrTouch d (d.unitsStart now) := by
  have hports : PwrTouch d ((d.kspEnable now 0).kspEnable now 1) := (pwrTouch_kspEnable d now 0).trans (pwrTouch_kspEnable _ now 1)
  have hgnss := fun x : Dev => (pwrTouch_antEnApply x now).trans (pwrTouch_gnssEnable _ now)
  have hpair := fun x : Dev => (pwrTouch_calRestore x).trans (pwrTouch_pairStart _ now false)
  have hpose : ∀ x : Dev, PwrTouch x ((x.poseSpareless.tpoStart now).poseStop now) := fun x =>
    Touches.trans (b := x.poseSpareless) (Touches.of_regs rfl rfl) ((pwrTouch_tpoStart _ now).trans (pwrTouch_poseStop _ now))
  exact ((hports.trans (hgnss _)).trans (hpair _)).trans (hpose _)

/-! ### The tiles -/

theorem storeTouch_flushCheck (d : Dev) (now : Nat) : StoreTouch d (d.flushCheck now) := by
  unfold Dev.flushCheck
  split
  · exact Touches.trans (b := { d with tpl := { d.tpl with slots := [], wanted := [], probes := [], refetch := [] } }) (Touches.of_regs rfl rfl)
      (Touches.trans (Touches.wr _ COV.FIELD_STATE 0 (by decide) (by rfl)) (Touches.fire _ now _ _ _ (by intros; rfl)))
  · exact Touches.refl d

theorem storeTouch_fieldClosing (d : Dev) (now : Nat) : StoreTouch d (d.fieldClosing now) := by
  unfold Dev.fieldClosing
  extract_lets x
  have hx : StoreTouch d x := Touches.wr d COV.FIELD_STATE 2 (by decide) (by rfl)
  exact hx.trans ((Touches.opt (storeTouch_closeWithoutStore x)).trans (storeTouch_flushCheck _ now))

theorem pwrTouch_tilesCheck (d : Dev) (now : Nat) : PwrTouch d (d.tilesCheck now) := by
  refine Touches.each d.tpl.slots _ (fun x y _ => ?_) d
  dsimp only
  split
  · exact (tileTouch_damaged x now _).powered
  split
  · exact TileTouch.powered ((tileTouch_setSlot x _ _).trans (tileTouch_fetchTile _ now _ _ _))
  split
  · exact TileTouch.powered ((tileTouch_setSlot x _ _).trans (tileTouch_sendPut _ now _ _ _))
  · exact Touches.refl x

theorem pwrTouch_selectStore (d : Dev) (now : Nat) : PwrTouch d (d.selectStore now) := (storeTouch_selectStore d now).powered

theorem pwrTouch_fieldAfterReset (d : Dev) (now : Nat) : PwrTouch d (d.fieldAfterReset now) := by
  unfold Dev.fieldAfterReset
  split
  · exact Touches.refl d
  extract_lets x y
  have hx : PwrTouch d x := Touches.of_regs rfl rfl
  have hy : PwrTouch d y := (hx.thenWr (by decide)).thenWr (by decide)
  exact Touches.ite (fun _ => hy.trans (storeTouch_fieldClosing y now).powered) (fun _ => hy)

end Sys2Proof.Machine
end

section
/-! PROOFS. EMBER: asked for, entered with every output off, and left by a wake (R518 to R521). -/
namespace Sys2Proof.Machine

/-! ### The power dies off -/

/-- In a loop over a list, what each element's own turn establishes of it, and the turns of the others keep, holds of each at the end. -/
theorem Dev.each_establishes {P : Dev → Prop} {Q : Dev → Nat → Prop} {f : Dev → Nat → Dev} {l : List Nat} (hP : ∀ x, ∀ n ∈ l, P x → P (f x n))
    (hown : ∀ x, ∀ n ∈ l, P x → Q (f x n) n) (hkeep : ∀ x, ∀ n ∈ l, ∀ k ∈ l, n ≠ k → P x → Q x k → Q (f x n) k) {d : Dev} (hd : P d) :
    P (d.each l f) ∧ ∀ k ∈ l, Q (d.each l f) k := by
  have h : ∀ m : List Nat, (∀ n ∈ m, n ∈ l) → ∀ x, P x → P (x.each m f) ∧ ∀ k ∈ l, k ∈ m ∨ Q x k → Q (x.each m f) k := by
    intro m
    induction m with
    | nil => exact fun _ x hx => ⟨hx, fun k _ hk => hk.resolve_left (by simp)⟩
    | cons n m ih =>
      intro hm x hx
      have hn := hm n (by simp)
      obtain ⟨h1, h2⟩ := ih (fun k hk => hm k (by simp [hk])) (f x n) (hP x n hn hx)
      refine ⟨h1, fun k hk hor => h2 k hk ?_⟩
      by_cases hnk : n = k
      · exact .inr (hnk ▸ hown x n hn hx)
      · rcases hor with hmem | hq
        · exact .inl ((List.mem_cons.mp hmem).resolve_left (Ne.symm hnk))
        · exact .inr (hkeep x n hn k hk hnk hx hq)
  obtain ⟨h1, h2⟩ := h l (fun _ hn => hn) d hd
  exact ⟨h1, fun k hk => h2 k hk (.inl hk)⟩

/-- A channel that holds no command, no grid and no snuff state. -/
def IdcCh.cleared (x : IdcCh) : IdcCh := { x with cmds := [], comOn := false, grid := none, snuff := none, holdEnd := none }

/-- A channel whose die goes off. -/
def Dev.chanOff (d : Dev) (now c : Nat) : Dev := ((d.cancelStart now c).endDrive now c [] true).modIdc c IdcCh.cleared

/-- A switch that holds no command and no snuff state. -/
def LswCh.cleared (x : LswCh) : LswCh := { x with cmds := [], com := false, force := 0, snuff := none, holdEnd := none }

/-- A switch whose die goes off. -/
def Dev.switchOff (d : Dev) (now n : Nat) : Dev := (d.modLsw n LswCh.cleared).lswApply now now n

theorem Dev.diesOff_eq (d : Dev) (now : Nat) :
    d.diesOff now = (d.each (List.range 32) (fun d c => d.chanOff now c)).each (List.range 16) (fun d n => d.switchOff now n) := rfl

theorem chanOff_touches (d : Dev) (now : Nat) {c : Nat} (hc : c < 32) : Touches idcPages Dev.idcRest d (d.chanOff now c) := by
  have h : IdcTouch d ((d.cancelStart now c).endDrive now c [] true) := (idcTouch_cancelStart d now hc).trans (idcTouch_endDrive _ _ _ _ _)
  exact (h.mono (fun p hp => ⟨p, hp, le_refl _, le_refl _⟩) (fun hk => congrArg Prod.fst hk)).trans (Touches.of_regs rfl rfl)

theorem Dev.idcCh_chanOff_ne (d : Dev) (now : Nat) {c k : Nat} (h : c ≠ k) : (d.chanOff now c).idcCh k = d.idcCh k := by
  unfold Dev.chanOff Dev.cancelStart
  rw [Dev.idcCh_modIdc_ne _ _ h, Dev.idcCh_endDrive_ne _ now _ _ h]
  split
  · exact Dev.idcCh_dropStart_ne d now h
  · rfl

theorem Dev.chansOff_spec (d : Dev) (now : Nat) :
    Touches idcPages Dev.idcRest d (d.each (List.range 32) (fun d c => d.chanOff now c)) ∧
      ∀ c ∈ List.range 32, ((d.each (List.range 32) (fun d c => d.chanOff now c)).idcCh c).cmds = [] ∧
        ((d.each (List.range 32) (fun d c => d.chanOff now c)).idcCh c).comOn = false ∧
        ((d.each (List.range 32) (fun d c => d.chanOff now c)).idcCh c).grid = none := by
  refine ⟨Touches.each _ _ (fun x c hc => chanOff_touches x now (List.mem_range.mp hc)) d, ?_⟩
  refine (Dev.each_establishes (P := fun _ => True) (Q := fun x c => (x.idcCh c).cmds = [] ∧ (x.idcCh c).comOn = false ∧ (x.idcCh c).grid = none)
    (fun _ _ _ _ => trivial) (fun x c _ _ => ?_) (fun x c _ k _ hne _ hq => ?_) trivial).2
  · rw [Dev.chanOff, Dev.idcCh_modIdc_self]
    exact ⟨rfl, rfl, rfl⟩
  · rw [Dev.idcCh_chanOff_ne x now hne]
    exact hq

theorem switchOff_touches (d : Dev) (now : Nat) {n : Nat} (hn : n < 16) : Touches lswPages Dev.sansLswParts d (d.switchOff now n) :=
  Touches.trans (b := d.modLsw n LswCh.cleared) (Touches.of_regs rfl rfl)
    ((lswTouch_lswApply _ now now hn).mono (fun p hp => ⟨p, hp, le_refl _, le_refl _⟩) (fun hk => congrArg Prod.fst hk))

theorem Dev.lswWant_of_not_driving {d : Dev} (n : Nat) (h : d.driving = false) : (d.lswWant n).1 = false := by
  unfold Dev.driving at h
  unfold Dev.lswWant
  dsimp only
  rw [if_pos]
  simp [h]

theorem Dev.lswApply_of_not_driving {d : Dev} (now cmd n : Nat) (h : d.driving = false) :
    d.lswApply now cmd n = if (d.lswCh n).drv || (d.lswCh n).waitFrom.isSome then d.lswStop now n else d.lswShow now n := by
  unfold Dev.lswApply
  extract_lets w c d1
  exact if_pos (by simp [w, Dev.lswWant_of_not_driving n h])

theorem Dev.cmds_lswApply (d : Dev) (now cmd : Nat) {n : Nat} (hn : n < 16) (k : Nat) : ((d.lswApply now cmd n).lswCh k).cmds = (d.lswCh k).cmds :=
  (congrArg LswCh.cmds ((switched_lswApply d now cmd hn).given k) :)

/-- Where nothing drives, every switch ends off with no command. -/
theorem Dev.switchesOff_spec (d : Dev) (now : Nat) :
    Touches lswPages Dev.sansLswParts d (d.each (List.range 16) (fun d n => d.switchOff now n)) ∧
      (d.driving = false → ∀ n ∈ List.range 16, (d.each (List.range 16) (fun d n => d.switchOff now n)).lswRests n ∧
        ((d.each (List.range 16) (fun d n => d.switchOff now n)).lswCh n).cmds = []) := by
  refine ⟨Touches.each _ _ (fun x n hn => switchOff_touches x now (List.mem_range.mp hn)) d, fun hdrv => ?_⟩
  refine (Dev.each_establishes (P := fun x => x.driving = false) (Q := fun x n => x.lswRests n ∧ (x.lswCh n).cmds = [])
    (fun x n hn hx => ?_) (fun x n hn hx => ?_) (fun x n hn k hk hne hx hq => ?_) hdrv).2
  · have hpwr : (x.switchOff now n).pwr = x.pwr := (congrArg Dev.pwr (switchOff_touches x now (List.mem_range.mp hn)).rest :)
    simpa only [Dev.driving, hpwr] using hx
  · have hn := List.mem_range.mp hn
    have hx' : (x.modLsw n LswCh.cleared).driving = false := hx
    obtain ⟨hoff, hwait, -⟩ := Dev.lswApply_of_unwanted (d := x.modLsw n LswCh.cleared) now now hn (Dev.lswWant_of_not_driving n hx')
    refine ⟨⟨hoff, hwait⟩, (Dev.cmds_lswApply _ now now hn n).trans ?_⟩
    rw [Dev.lswCh_modLsw_self]
    rfl
  · have hn := List.mem_range.mp hn
    have hx' : (x.modLsw n LswCh.cleared).driving = false := hx
    have hch : (x.modLsw n LswCh.cleared).lswCh k = x.lswCh k := Dev.lswCh_modLsw_ne x _ hne
    obtain ⟨hrest, hcmds⟩ := hq
    have hrest' : (x.modLsw n LswCh.cleared).lswRests k := by
      unfold Dev.lswRests
      rw [hch]
      exact hrest
    refine ⟨?_, (Dev.cmds_lswApply _ now now hn k).trans (by rw [hch]; exact hcmds)⟩
    unfold Dev.switchOff
    rw [Dev.lswApply_of_not_driving now now n hx']
    split
    · exact Dev.lswRests_lswStop now (List.mem_range.mp hk) hne hrest'
    · exact hrest'

/-- The power dies off (R519): no channel and no switch holds a command, and where nothing drives every switch is off. -/
theorem Dev.diesOff_spec (d : Dev) (now : Nat) :
    PwrTouch d (d.diesOff now) ∧ (d.diesOff now).sys = d.sys ∧
      (∀ c, c < 32 → ((d.diesOff now).idcCh c).cmds = [] ∧ ((d.diesOff now).idcCh c).comOn = false ∧ ((d.diesOff now).idcCh c).grid = none) ∧
      (d.driving = false → ∀ n, n < 16 → ((d.diesOff now).lswCh n).cmds = [] ∧ ((d.diesOff now).lswCh n).drv = false) := by
  rw [Dev.diesOff_eq]
  obtain ⟨h1, hch⟩ := d.chansOff_spec now
  generalize d.each (List.range 32) (fun d c => d.chanOff now c) = x at h1 hch
  obtain ⟨h2, hsw⟩ := x.switchesOff_spec now
  generalize x.each (List.range 16) (fun d n => d.switchOff now n) = y at h2 hsw
  have hpwr : x.pwr = d.pwr := (congrArg (fun z => z.1.pwr) h1.rest :)
  have hidc : ∀ c, y.idcCh c = x.idcCh c := fun c => (congrArg (fun z : Dev => tget z.idc c) h2.rest :)
  refine ⟨?_, ?_, fun c hc => ?_, fun hdrv n hn => ?_⟩
  · exact Touches.trans (Touches.mono h1 (by decide) (fun hk => (congrArg (fun z => z.1.pwrHif) hk :)))
      (Touches.mono h2 (by decide) (fun hk => (congrArg Dev.pwrHif hk :)))
  · exact (congrArg Dev.sys h2.rest :).trans (congrArg (fun z => z.1.sys) h1.rest :)
  · rw [hidc]
    exact hch c (List.mem_range.mpr hc)
  · obtain ⟨hrest, hcmds⟩ := hsw (by simpa only [Dev.driving, hpwr] using hdrv) n (List.mem_range.mpr hn)
    exact ⟨hcmds, hrest.1⟩

theorem Dev.outputsSnuff_of_not_driving {d : Dev} (now : Nat) (h : d.driving = false) : d.outputsSnuff now = d := by
  unfold Dev.outputsSnuff
  rw [if_neg (by simp [h])]

/-- A path that starts or ends while nothing drives leaves channels and switches alone. -/
theorem Dev.pathSync_of_not_driving {d : Dev} (now : Nat) (h : d.driving = false) : (d.pathSync now).idc = d.idc ∧ (d.pathSync now).lsw = d.lsw := by
  cases hw : d.pathWanted <;> cases hact : d.on WDG.SNUFF_ACT
  · rw [Dev.pathSync_of_stands now (by rw [hw, hact])]
    exact ⟨rfl, rfl⟩
  · rw [Dev.pathSync_of_ends now hw hact]
    unfold Dev.pathEnd
    have hpwm := (pwmSnuffSet_spec (d.wr WDG.SNUFF_ACT 0) now (d.pwr.outHold == .snuff)).1
    generalize (d.wr WDG.SNUFF_ACT 0).pwmSnuffSet now (d.pwr.outHold == .snuff) = x at hpwm ⊢
    have hbus := x.sansBus_vnpSnuff false
    generalize x.vnpSnuff false = y at hbus ⊢
    exact ⟨(congrArg Dev.idc hbus :).trans (congrArg Dev.idc hpwm.rest :), (congrArg Dev.lsw hbus :).trans (congrArg Dev.lsw hpwm.rest :)⟩
  · rw [Dev.pathSync_of_starts now hw hact, Dev.outputsSnuff_of_not_driving (d := d.wr WDG.SNUFF_ACT 1) now h]
    have hbus := (d.wr WDG.SNUFF_ACT 1).sansBus_vnpSnuff true
    generalize (d.wr WDG.SNUFF_ACT 1).vnpSnuff true = y at hbus ⊢
    exact ⟨(congrArg Dev.idc hbus :), (congrArg Dev.lsw hbus :)⟩
  · rw [Dev.pathSync_of_stands now (by rw [hw, hact])]
    exact ⟨rfl, rfl⟩

end Sys2Proof.Machine
end

section
/-! PROOFS. The commands of EMBER (R518 to R521). -/
namespace Sys2Proof.Machine

/-- What an asked-for EMBER does to the block. -/
def EmberAsked (now : Nat) (d e : Dev) : Prop :=
    (d.pwr.mode = .plain ∨ d.pwr.emberWait ≠ none → e = d) ∧
    (d.pwr.mode ≠ .plain → d.pwr.emberWait = none →
      (d.pwr.st = .lit ∨ d.pwr.st = .snuffed → e.pwr = { d.pwr with emberReq := false, emberWait := some now } ∧
        (d.rd COV.FIELD_STATE = 1 → e.cov = { d.cov with cmd := 2, cmdUnder := false }) ∧
        (d.rd COV.FIELD_STATE ≠ 1 → e.cov = d.cov) ∧ e = { d with pwr := e.pwr, cov := e.cov }) ∧
      (d.pwr.st = .dim → e = { d with pwr := { d.pwr with emberReq := true } }) ∧
      (d.pwr.st ≠ .lit → d.pwr.st ≠ .snuffed → d.pwr.st ≠ .dim → e = d))

theorem emberAsked_emberAsk (d : Dev) (now : Nat) : EmberAsked now d (d.emberAsk now) :=
  ⟨Dev.emberAsk_of_refused now, fun hm hw => ⟨fun hst => (Dev.emberAsk_of_serves now hm hw hst).symm ▸ d.emberStart_spec now,
    Dev.emberAsk_of_dim now hm hw, Dev.emberAsk_of_other now hm hw⟩⟩

theorem emberReq_effect (s : State) (el : Nat) : Answers (.emberReq el) s (fun now d e => d.pwrWrites now = true → EmberAsked now d e) := by
  refine answers_of_forall (f := fun now d => if d.pwrWrites now then d.emberAsk now else d) rfl (fun now d hw => ?_)
  rw [if_pos hw]
  exact emberAsked_emberAsk d now

theorem ignitionOff_effect (s : State) (el : Nat) : Answers (.ignitionOff el) s (fun now d e =>
      let since := (tget? d.pwr.ginAt (min 23 (d.rd PWR.IGN_GIN))).getD 0
      (d.alive = false ∨ d.on PWR.IGN_EN = false ∨ d.keyOn = true ∨ now < since + sec (d.rd PWR.EMBER_DELAY) → e = d) ∧
      (d.alive = true → d.on PWR.IGN_EN = true → d.keyOn = false → since + sec (d.rd PWR.EMBER_DELAY) ≤ now → EmberAsked now d e)) := by
  refine answers_of_forall (f := fun now d => d.ignitionOff now) rfl (fun now d => ?_)
  intro since
  refine ⟨fun h => ?_, fun ha hen hkey hdue => ?_⟩
  · refine if_neg fun hc => ?_
    simp only [Bool.and_eq_true, Bool.not_eq_true', decide_eq_true_eq] at hc
    obtain ⟨⟨⟨ha, hen⟩, hkey⟩, hdue⟩ := hc
    rcases h with h | h | h | h
    · rw [ha] at h
      cases h
    · rw [hen] at h
      cases h
    · rw [hkey] at h
      cases h
    · exact absurd hdue (Nat.not_le.mpr h)
  · have heq : d.ignitionOff now = d.emberAsk now := if_pos (by simpa [ha, hen, hkey] using hdue)
    rw [heq]
    exact emberAsked_emberAsk d now

theorem Dev.emberFlushEnd_of_none {d : Dev} (now : Nat) (h : d.pwr.emberWait = none) : d.emberFlushEnd now = d := by
  unfold Dev.emberFlushEnd
  rw [h]

theorem Dev.emberFlushEnd_of_some {d : Dev} (now : Nat) {t : Nat} (h : d.pwr.emberWait = some t) :
    d.emberFlushEnd now =
      if d.rd COV.FIELD_STATE != 0 && decide (t + sec (max 1 (d.rd PWR.EMBER_FLUSH_MAX)) ≤ now) then d.fieldAbandon else d := by
  unfold Dev.emberFlushEnd
  rw [h]

/-- A field that is abandoned leaves no tile. -/
theorem Dev.fieldAbandon_spec (d : Dev) : d.fieldAbandon.rd COV.FIELD_STATE = 0 ∧ d.fieldAbandon.tpl.slots = [] ∧ d.fieldAbandon.pwr = d.pwr := by
  refine ⟨Dev.rd_wr_self _ COV.FIELD_STATE 0, ?_, ?_⟩
  · unfold Dev.fieldAbandon Dev.covDiscardAll Dev.setJournal
    dsimp only
    split <;> rfl
  · unfold Dev.fieldAbandon Dev.covDiscardAll Dev.setJournal
    dsimp only
    split <;> rfl

theorem emberFlushMaxExpiry_effect (s : State) (el : Nat) : Answers (.emberFlushMaxExpiry el) s (fun now d e =>
      (d.pwr.emberWait = none ∨ d.rd COV.FIELD_STATE = 0 → e = d) ∧
      (∀ t, d.pwr.emberWait = some t → d.rd COV.FIELD_STATE ≠ 0 →
        let at_ := t + sec (max 1 (d.rd PWR.EMBER_FLUSH_MAX))
        (now < at_ → e = d) ∧ (at_ ≤ now → e.rd COV.FIELD_STATE = 0 ∧ e.tpl.slots = [] ∧ e.pwr = d.pwr))) := by
  refine answers_of_forall (f := fun now d => d.emberFlushEnd now) rfl (fun now d => ⟨fun h => ?_, fun t ht hf => ?_⟩)
  · cases hw : d.pwr.emberWait with
    | none => exact Dev.emberFlushEnd_of_none now hw
    | some t => exact (Dev.emberFlushEnd_of_some now hw).trans (if_neg (by simp [h.resolve_left (by simp [hw])]))
  · intro at_
    have heq := Dev.emberFlushEnd_of_some now ht
    refine ⟨fun hlt => heq.trans (if_neg fun hc => ?_), fun hge => ?_⟩
    · exact Nat.not_le.mpr hlt (of_decide_eq_true (Bool.and_eq_true_iff.mp hc).2)
    · rw [heq, if_pos (Bool.and_eq_true_iff.mpr ⟨by simpa using hf, decide_eq_true hge⟩)]
      exact d.fieldAbandon_spec

theorem emberWake_effect (s : State) (el : Nat) (src : Fin 4) : Answers (.emberWake el src) s (fun now d e =>
      (d.pwr.st ≠ .ember ∨ d.wakes now src.val = false → e = d) ∧
      (d.pwr.st = .ember → d.wakes now src.val = true → e.pwr.st = .kindle ∧ e.pwr.stage = .kindle ∧ e.pwr.wake = true ∧
        e.pwr.paused = false ∧ e.pwr.opSince = now ∧ e.rd PWR.SNUFF_CAUSE = 0 ∧ e.rd PWR.SNUFF_CAUSES = 0 ∧
        OnlyRegs [PWR.SNUFF_CAUSE, PWR.SNUFF_CAUSES] { d with pwr := e.pwr, gnss := e.gnss } e)) := by
  refine answers_of_forall (f := fun now d => d.emberWake now src.val) rfl (fun now d => ⟨fun h => ?_, fun hst hw => ?_⟩)
  · refine if_neg fun hc => ?_
    rw [Bool.and_eq_true, decide_eq_true_eq] at hc
    rcases h with h | h
    · exact h hc.1
    · rw [hc.2] at h
      cases h
  · rw [show d.emberWake now src.val = _ from if_pos (by simp [hst, hw])]
    exact ⟨rfl, rfl, rfl, rfl, rfl, (Dev.rd_wr_ne _ _ (by decide)).trans (Dev.rd_wr_self _ PWR.SNUFF_CAUSE 0), Dev.rd_wr_self _ PWR.SNUFF_CAUSES 0,
      (OnlyRegs.wr _ PWR.SNUFF_CAUSE 0 (by simp)).thenWr (by simp) 0⟩

/-! ### The way in -/

/-- The episode that stands is closed. -/
def Dev.episodeSettled (d : Dev) (now : Nat) : Dev :=
  match d.pwr.uv with
  | some x => d.closeEpisode now x (now - x.start) false
  | none => d

theorem Dev.uv_episodeSettled (d : Dev) (now : Nat) : (d.episodeSettled now).pwr.uv = none := by
  unfold Dev.episodeSettled
  split
  · next x _ =>
    have h := (d.closeEpisode_spec now x (now - x.start) false).1.1
    rw [h]
  · assumption

/-- The units stopped before EMBER, what they keep stored. -/
def Dev.unitsRest (d : Dev) (now : Nat) : Dev :=
  ((((((((d.latStore now).calSave now).episodeSettled now).recWriteOut now).gridHalt now).poseStop now).gridStop now).emberChans)

theorem Dev.unitsRest_spec (d : Dev) (now : Nat) : (d.unitsRest now).pwr.uv = none ∧ (d.unitsRest now).sys.gridOn = false := by
  unfold Dev.unitsRest
  have huv := ((d.latStore now).calSave now).uv_episodeSettled now
  generalize ((d.latStore now).calSave now).episodeSettled now = x at huv
  have hrec := (stores_recWriteOut x now).powered.pwr
  obtain ⟨hgrid, hoff⟩ := gridHalt_spec (x.recWriteOut now) now
  have hpwr : ((x.recWriteOut now).gridHalt now).pwr = x.pwr := (congrArg Dev.pwr hgrid.rest :).trans hrec
  generalize (x.recWriteOut now).gridHalt now = y at hpwr hoff
  have hrest : PwrTouch y ((y.poseStop now).gridStop now).emberChans :=
    ((pwrTouch_poseStop y now).trans (unitTouch_gridStop _ now).mode.powered).trans (pwrTouch_emberChans _)
  rw [hrest.pwr, hrest.gridOn, hpwr]
  exact ⟨huv, hoff⟩

/-- The block in EMBER, its operating time stored. -/
def Dev.inEmber (d : Dev) (now : Nat) : Dev :=
  { d with
    mram := { d.mram with opCycles := d.opCycles now }
    hif := { d.hif with inService := false }
    pwr := { d.pwr with st := .ember, emberAt := now, emberWait := none, modeSel := false, outHold := .off, dimMaxDue := false } }

/-- The controllers hold no frame. -/
def Dev.busEmptied (d : Dev) : Dev := d.each (List.range 6) (fun d n => d.modCan n (fun c => { c with tx := [], mail := none }))

theorem Dev.sansBus_busEmptied (d : Dev) : d.busEmptied.sansBus = d.sansBus :=
  Dev.each_keeps Dev.sansBus (fun d n => d.modCan n (fun c => { c with tx := [], mail := none })) (fun _ _ => rfl) d _

theorem Dev.emberEnter_eq {d : Dev} (now : Nat) (ha : d.alive = true) (hw : d.pwr.emberWait ≠ none) (hoff : d.pwr.outOff = true)
    (hf : d.rd COV.FIELD_STATE = 0) (hst : d.pwr.st = .lit ∨ d.pwr.st = .snuffed) :
    d.emberEnter now = ((((((d.unitsRest now).inEmber now).diesOff now).pathSync now).kspEnable now 0).kspEnable now 1).busEmptied := by
  have hw : d.pwr.emberWait.isSome = true := Option.isSome_iff_ne_none.mpr hw
  unfold Dev.emberEnter
  rw [if_pos (by simpa [ha, hoff, hf, hw] using hst)]
  extract_lets a b c e _ _ _ _ _ x y z
  have he : e = d.unitsRest now := rfl
  clear_value e
  have hx : x = e.inEmber now := rfl
  rw [← he, ← hx]
  rfl

theorem emberEntry_effect (s : State) (el : Nat) : Answers (.emberEntry el) s (fun now d e =>
      (d.alive = false ∨ d.pwr.emberWait = none ∨ d.pwr.outOff = false ∨ d.rd COV.FIELD_STATE ≠ 0 ∨ (d.pwr.st ≠ .lit ∧ d.pwr.st ≠ .snuffed) →
        e = d) ∧
      (d.alive = true → d.pwr.emberWait ≠ none → d.pwr.outOff = true → d.rd COV.FIELD_STATE = 0 → d.pwr.st = .lit ∨ d.pwr.st = .snuffed →
        e.pwr.st = .ember ∧ e.pwr.emberAt = now ∧ e.pwr.emberWait = none ∧ e.pwr.modeSel = false ∧ e.pwr.uv = none ∧
        e.hif.inService = false ∧ e.sys.gridOn = false ∧
        (∀ c, c < 32 → (e.idcCh c).cmds = [] ∧ (e.idcCh c).comOn = false ∧ (e.idcCh c).grid = none) ∧
        (∀ n, n < 16 → (e.lswCh n).cmds = [] ∧ (e.lswCh n).drv = false))) := by
  refine answers_of_forall (f := fun now d => d.emberEnter now) rfl (fun now d => ⟨fun h => ?_, fun ha hw hoff hf hst => ?_⟩)
  · refine if_neg fun hc => ?_
    simp only [Bool.and_eq_true, Bool.or_eq_true, beq_iff_eq, Option.isSome_iff_ne_none] at hc
    obtain ⟨⟨⟨⟨ha, hw⟩, hoff⟩, hf⟩, hst⟩ := hc
    rcases h with h | h | h | h | ⟨h1, h2⟩
    · rw [ha] at h
      cases h
    · exact hw h
    · rw [hoff] at h
      cases h
    · exact h hf
    · exact hst.elim h1 h2
  · rw [Dev.emberEnter_eq now ha hw hoff hf hst]
    obtain ⟨huv, hgrid⟩ := d.unitsRest_spec now
    generalize d.unitsRest now = x at huv hgrid
    have hdrv : (x.inEmber now).driving = false := rfl
    obtain ⟨hdies, -, hch, hsw⟩ := (x.inEmber now).diesOff_spec now
    have hsw := hsw hdrv
    generalize (x.inEmber now).diesOff now = y at hdies hch hsw
    have hydrv : y.driving = false := by
      simp only [Dev.driving, hdies.pwr]
      rfl
    obtain ⟨hidc, hlsw⟩ := Dev.pathSync_of_not_driving now hydrv
    have hpath := (modeTouch_pathSync y now).powered
    generalize y.pathSync now = z at hidc hlsw hpath
    have hports : PwrTouch z ((z.kspEnable now 0).kspEnable now 1) := (pwrTouch_kspEnable z now 0).trans (pwrTouch_kspEnable _ now 1)
    have hports' : ((z.kspEnable now 0).kspEnable now 1).idc = z.idc ∧ ((z.kspEnable now 0).kspEnable now 1).lsw = z.lsw := by
      rw [Dev.sansSend_kspEnable (z.kspEnable now 0), Dev.sansSend_kspEnable z]
      exact ⟨rfl, rfl⟩
    generalize (z.kspEnable now 0).kspEnable now 1 = w at hports hports'
    have hbus := w.sansBus_busEmptied
    generalize w.busEmptied = e at hbus
    have htouch : PwrTouch (x.inEmber now) w := (hdies.trans hpath).trans hports
    have hpwr : e.pwr = (x.inEmber now).pwr := (congrArg Dev.pwr hbus :).trans htouch.pwr
    have hhif : e.hif = (x.inEmber now).hif := (congrArg Dev.hif hbus :).trans htouch.hif
    have hon : e.sys.gridOn = x.sys.gridOn := (congrArg (fun a => a.sys.gridOn) hbus :).trans htouch.gridOn
    have heidc : e.idc = y.idc := (congrArg Dev.idc hbus :).trans (hports'.1.trans hidc)
    have helsw : e.lsw = y.lsw := (congrArg Dev.lsw hbus :).trans (hports'.2.trans hlsw)
    rw [hpwr, hhif, hon]
    refine ⟨rfl, rfl, rfl, rfl, huv, rfl, hgrid, fun c hc => ?_, fun n hn => ?_⟩
    · rw [Dev.idcCh, heidc]
      exact hch c hc
    · rw [Dev.lswCh, helsw]
      exact hsw n hn

/-- Settles O53: EMBER is asked for, waits for the field, is entered with every output off, and left by a wake into KINDLE. -/
theorem emberEntryAndWake : Obligations.EmberEntryAndWake := by
  unfold Obligations.EmberEntryAndWake
  exact fun s el => ⟨emberReq_effect s el, ignitionOff_effect s el, emberFlushMaxExpiry_effect s el, emberEntry_effect s el,
    fun src => emberWake_effect s el src⟩

end Sys2Proof.Machine
end

section
/-! PROOFS. System resets and logic-die resets (R503 to R506, R568): what they end at once and the outputs they leave. -/
namespace Sys2Proof.Machine

/-! ### A system reset -/

/-- What a system reset with `code` shows: every output in its stored snuff state at once, and KINDLE to follow. -/
def SysRst (code : Nat) (storm : Bool) (d e : Dev) : Prop :=
    e.pwr.st = .kindle ∧ e.pwr.stage = .kindle ∧ e.pwr.outHold = .snuff ∧ e.pwr.stormEnd = storm ∧ e.pwr.relightEnd = none ∧
    e.rd PWR.LAST_RESET = code ∧ e.rd PWR.SNUFF_CAUSE = 0 ∧ e.rd PWR.SNUFF_CAUSES = 0 ∧
    e.hif.inService = false ∧ e.hif.unlocked = [] ∧ e.sys.gridOn = false ∧ e.pwm.snuff = true ∧
    (∀ c, c < 32 → (e.idcCh c).snuff = some (d.rd (WDG.SNUFF_STATE c))) ∧
    (∀ n, n < 16 → (e.lswCh n).snuff = some (d.rd (WDG.SNUFF_STATE (32 + n))))

/-- What a reset ends at once, with its kind noted. -/
def Dev.resetBegins (d : Dev) (now code : Nat) : Dev :=
  ((((d.recFlush now).gridHalt now).serviceEnds.wr PWR.LAST_RESET code).wr PWR.SNUFF_CAUSE 0).wr PWR.SNUFF_CAUSES 0

/-- The power unit of a system reset that began operation at `op`: nothing that waited is left. -/
def PwrBlk.atReset (p : PwrBlk) (op : Nat) (storm : Bool) : PwrBlk :=
  { p with
    st := .kindle, modeSel := false, stage := .kindle, outHold := .snuff, hostWaitTill := none, relightEnd := none, stormEnd := storm
    wake := false, paused := false, uv := none, dimMaxDue := false, snuffClr := false, masterConfirm := false, modeReq := 0
    emberReq := false, opSince := op, litAt := none, fwPush := none, fwVerify := none, emberWait := none, outOff := false }

/-- The block a system reset holds before its outputs take their snuff states. -/
def Dev.resetHolds (d : Dev) (now code op : Nat) (storm : Bool) : Dev :=
  { d.resetBegins now code with pwr := (d.resetBegins now code).pwr.atReset op storm }

theorem Dev.resetBegins_spec (d : Dev) (now : Nat) {code : Nat} (hcode : code < 8) :
    let e := d.resetBegins now code
    e.pwr = d.pwr ∧ e.hif.inService = false ∧ e.hif.unlocked = [] ∧ e.sys.gridOn = false ∧
      e.rd PWR.LAST_RESET = code ∧ e.rd PWR.SNUFF_CAUSE = 0 ∧ e.rd PWR.SNUFF_CAUSES = 0 ∧
      (∀ f : Field, f.lo < 32 → f.ofEvents = false → 0x001000 ≤ f.addr → (f.addr < 0x004000 ∨ 0x005000 ≤ f.addr) →
        (∀ g ∈ [PWR.LAST_RESET, PWR.SNUFF_CAUSE, PWR.SNUFF_CAUSES], g.key ≠ f.key) → e.rd f = d.rd f) := by
  have hrec : Stores d (d.recFlush now) := Touches.opt (stores_recWriteOut d now)
  unfold Dev.resetBegins
  generalize d.recFlush now = x at hrec
  obtain ⟨hgrid, hoff⟩ := gridHalt_spec x now
  generalize x.gridHalt now = y at hgrid hoff
  have hpwr : y.pwr = d.pwr := (congrArg Dev.pwr hgrid.rest :).trans (congrArg Dev.pwr hrec.rest :)
  have hrd : ∀ f : Field, y.serviceEnds.rd f = y.rd f := fun _ => rfl
  have hspwr : y.serviceEnds.pwr = y.pwr := rfl
  have hshif : y.serviceEnds.hif.inService = false ∧ y.serviceEnds.hif.unlocked = [] := ⟨rfl, rfl⟩
  have hson : y.serviceEnds.sys.gridOn = y.sys.gridOn := rfl
  generalize y.serviceEnds = z at hrd hspwr hshif hson
  have hregs : OnlyRegs [PWR.LAST_RESET, PWR.SNUFF_CAUSE, PWR.SNUFF_CAUSES] z (((z.wr PWR.LAST_RESET code).wr PWR.SNUFF_CAUSE 0).wr PWR.SNUFF_CAUSES 0) :=
    ((OnlyRegs.wr z PWR.LAST_RESET code (by simp)).thenWr (by simp) 0).thenWr (by simp) 0
  intro e
  refine ⟨hspwr.trans hpwr, hshif.1, hshif.2, hson.trans hoff, ?_, ?_, Dev.rd_wr_self _ PWR.SNUFF_CAUSES 0, fun f hlo hev h1 h2 hne => ?_⟩
  · exact (Dev.rd_wr_ne _ _ (by decide)).trans ((Dev.rd_wr_ne _ _ (by decide)).trans ((Dev.rd_wr_self z PWR.LAST_RESET code).trans
      (Nat.mod_eq_of_lt hcode)))
  · exact (Dev.rd_wr_ne _ _ (by decide)).trans (Dev.rd_wr_self _ PWR.SNUFF_CAUSE 0)
  · refine (hregs.2 f hne).trans ((hrd f).trans ((hgrid.regs f hlo hev ?_).trans (hrec.regs f hlo hev ?_)))
    · simp only [List.mem_singleton, forall_eq]
      omega
    · simp only [List.mem_singleton, forall_eq]
      omega

theorem Dev.systemReset_eq {d : Dev} (now code : Nat) (storm : Bool) (h : d.pwr.st ≠ .off) :
    d.systemReset now code storm =
      (d.resetHolds now code (if d.pwr.st = .ember then now else d.pwr.opSince) storm).outputsSnuff now := by
  unfold Dev.systemReset
  rw [if_neg h]
  rfl

/-- What a system reset with `code` does. -/
theorem Dev.systemReset_spec {d : Dev} (now : Nat) {code : Nat} (storm : Bool) (h : d.pwr.st ≠ .off) (hcode : code < 8) :
    let e := d.systemReset now code storm
    SysRst code storm d e ∧ e.pwr.resetLow = d.pwr.resetLow ∧ e.pwr.stageMaySys = d.pwr.stageMaySys ∧
      e.rd PWR.RELIGHT_FAIL = d.rd PWR.RELIGHT_FAIL ∧ e.rd PWR.RST_REFUSED = d.rd PWR.RST_REFUSED := by
  rw [Dev.systemReset_eq now code storm h]
  obtain ⟨hpwr, hserv, hunl, hgrid, hlast, hcause, hcauses, hkeep⟩ := Dev.resetBegins_spec d now hcode
  generalize (if d.pwr.st = .ember then now else d.pwr.opSince) = op
  have hregs : ∀ f, (d.resetHolds now code op storm).rd f = (d.resetBegins now code).rd f := fun _ => rfl
  have hhif : (d.resetHolds now code op storm).hif = (d.resetBegins now code).hif := rfl
  have hon : (d.resetHolds now code op storm).sys.gridOn = (d.resetBegins now code).sys.gridOn := rfl
  have hp : (d.resetHolds now code op storm).pwr = d.pwr.atReset op storm := congrArg (fun p : PwrBlk => p.atReset op storm) hpwr
  generalize d.resetBegins now code = b at *
  generalize d.resetHolds now code op storm = z at *
  have hdriving : z.driving = true := by
    unfold Dev.driving
    rw [hp]
    rfl
  obtain ⟨hdriven, hpwm, hidc, hlsw⟩ := outputsSnuff_spec z now hdriving
  have hpt := hdriven.powered
  generalize z.outputsSnuff now = e at *
  have hst : ∀ n, n < 48 → z.rd (WDG.SNUFF_STATE n) = d.rd (WDG.SNUFF_STATE n) := fun n hn => by
    rw [hregs]
    have hlo : (WDG.SNUFF_STATE n).lo < 32 := (show 0 < 32 by omega)
    refine hkeep _ hlo (by clear * - hn; decide +revert) ?_ (.inl ?_) fun g hg => ?_
    · simp only [WDG.SNUFF_STATE]
      omega
    · simp only [WDG.SNUFF_STATE]
      omega
    · simp only [List.mem_cons, List.not_mem_nil, or_false] at hg
      rcases hg with rfl | rfl | rfl <;> simp only [Field.key, WDG.SNUFF_STATE, PWR.LAST_RESET, PWR.SNUFF_CAUSE, PWR.SNUFF_CAUSES] <;> omega
  have hpe : e.pwr = d.pwr.atReset op storm := hpt.pwr.trans hp
  have hpw := fun (f : Field) hlo hev hout => (hpt.rd f hlo hev hout).trans (hregs f)
  have hkept := fun (f : Field) hlo hev h1 h2 hne hout => (hpw f hlo hev hout).trans (hkeep f hlo hev h1 h2 hne)
  have hpe : e.pwr = d.pwr.atReset op storm := hpt.pwr.trans hp
  refine ⟨⟨?_, ?_, ?_, ?_, ?_, (hpw _ (by decide) (by decide) (by decide)).trans hlast, (hpw _ (by decide) (by decide) (by decide)).trans hcause,
    (hpw _ (by decide) (by decide) (by decide)).trans hcauses, ?_, ?_, ?_, hpwm, fun c hc => ?_, fun n hn => ?_⟩, ?_, ?_,
    hkept _ (by decide) (by decide) (by decide) (by decide) (by decide) (by decide),
    hkept _ (by decide) (by decide) (by decide) (by decide) (by decide) (by decide)⟩
  any_goals rw [hpe]; rfl
  · rw [hpt.hif, hhif, hserv]
  · rw [hpt.hif, hhif, hunl]
  · rw [hpt.gridOn, hon, hgrid]
  · exact (congrArg Prod.fst (hidc c hc) :).trans (congrArg some (hst c (by omega)))
  · exact (hlsw n hn).trans (congrArg some (hst (32 + n) (by omega)))

end Sys2Proof.Machine
end

section
/-! PROOFS. The reset of the logic die (R505, R568): what it ends and the hold windows it begins. -/
namespace Sys2Proof.Machine

/-! ### The check-value units -/

/-- The block without registers, events, recorder and the count of free values. -/
def Dev.sansCrc (d : Dev) : Dev := { d with regs := [], evh := {}, rec_ := {}, freeCtr := 0 }

theorem crcTouch_crcEnd (d : Dev) (now : Nat) {n : Nat} (hn : n < 8) (k val : Nat) :
    Touches [(0x078000, 0x080000)] Dev.sansCrc d (d.crcEnd now n k val) := by
  have hstate : ∀ v, Touches [(0x078000, 0x080000)] Dev.sansCrc d (d.setCrcState n v) := fun v =>
    (Touches.wr d (CRC.STATE_LO n) _ (by clear * - hn; decide +revert) (by rfl)).trans
      (Touches.wr _ (CRC.STATE_HI n) _ (by clear * - hn; decide +revert) (by rfl))
  unfold Dev.crcEnd Dev.crcFeedBytes
  exact (((hstate _).trans (Touches.wr _ (CRC.DMA_BUSY n) 0 (by clear * - hn; decide +revert) (by rfl))).trans
    (Touches.wr _ (CRC.DMA_DONE n) k (by clear * - hn; decide +revert) (by rfl))).trans (Touches.fire _ now _ n val (by intros; rfl))

theorem crcTouch_crcAbort (d : Dev) (now : Nat) {n : Nat} (hn : n < 8) : Touches [(0x078000, 0x080000)] Dev.sansCrc d (d.crcAbort now n) := by
  unfold Dev.crcAbort
  exact Touches.opt (Touches.trans (b := (d.draw 25).2) (Touches.of_regs rfl rfl) (crcTouch_crcEnd _ now hn _ _))

/-! ### The hold windows -/

/-- When the hold window of channel `c` ends that begins at `now`. -/
def Dev.idcHoldTill (d : Dev) (now c : Nat) : Nat := now + ms (min 100 (d.rd (IDC.HOLD_WINDOW c)))

/-- When the hold window of switch `n` ends that begins at `now`. -/
def Dev.lswHoldTill (d : Dev) (now n : Nat) : Nat := now + ms (min 100 (d.rd (LSW.HOLD_WINDOW n)))

/-- A channel whose hold window runs to `e`. -/
def IdcCh.holds (x : IdcCh) (e winClose : Nat) : IdcCh :=
  { x with holdEnd := some e, gridFrom := max x.gridFrom winClose, pulse := x.pulse.map (fun p => { p with held := p.held || x.act == .on }),
           done := x.done.map (fun p => { p with held := true }) }

/-- The block with the hold window of channel `c` begun. -/
def Dev.idcHeld (d : Dev) (now c : Nat) : Dev := (d.wr (IDC.HOLD_PULSES c) 0).modIdc c (fun x => x.holds (d.idcHoldTill now c) d.dec.winClose)

theorem Dev.idcHold_eq (d : Dev) (now c : Nat) :
    d.idcHold now c = if ((d.idcHeld now c).idcCh c).comOn then (d.idcHeld now c).chStay c (d.idcHeld now c).dec.winClose (d.idcHoldTill now c)
      else d.idcHeld now c := rfl

theorem idcTouch_chStay (d : Dev) (c a b : Nat) : IdcTouch d (d.chStay c a b) := by
  refine idcTouch_modIdc d c _ (fun x => ?_)
  dsimp only
  repeat' split
  all_goals rfl

/-- A hold window begins: what it leaves as it was, and where it ends. -/
theorem idcHold_spec (d : Dev) (now : Nat) {c : Nat} (hc : c < 32) :
    Touches idcPages Dev.idcRest d (d.idcHold now c) ∧ ((d.idcHold now c).idcCh c).holdEnd = some (d.idcHoldTill now c) ∧
      (∀ k, c ≠ k → ((d.idcHold now c).idcCh k).holdEnd = (d.idcCh k).holdEnd) ∧
      ∀ k, (d.idcHold now c).rd (IDC.HOLD_WINDOW k) = d.rd (IDC.HOLD_WINDOW k) := by
  rw [Dev.idcHold_eq]
  have h0 : Touches idcPages Dev.idcRest d (d.idcHeld now c) :=
    Touches.trans (Touches.wr d (IDC.HOLD_PULSES c) 0 (by clear * - hc; decide +revert) (by rfl)) (Touches.of_regs rfl rfl)
  have hself : ((d.idcHeld now c).idcCh c).holdEnd = some (d.idcHoldTill now c) := by
    rw [Dev.idcHeld, Dev.idcCh_modIdc_self]
    rfl
  have hother : ∀ k, c ≠ k → ((d.idcHeld now c).idcCh k).holdEnd = (d.idcCh k).holdEnd := fun k hk => by
    rw [Dev.idcHeld, Dev.idcCh_modIdc_ne _ _ hk]
    rfl
  have hwin : ∀ k, (d.idcHeld now c).rd (IDC.HOLD_WINDOW k) = d.rd (IDC.HOLD_WINDOW k) := fun k =>
    Dev.rd_wr_ne (f := IDC.HOLD_PULSES c) d 0 (by simp only [Field.key, IDC.HOLD_PULSES, IDC.HOLD_WINDOW]; omega)
  generalize d.idcHeld now c = e at *
  have hstay : IdcTouch e (if (e.idcCh c).comOn then e.chStay c e.dec.winClose (d.idcHoldTill now c) else e) :=
    Touches.opt (idcTouch_chStay e c _ _)
  have hregs : ∀ f, (if (e.idcCh c).comOn then e.chStay c e.dec.winClose (d.idcHoldTill now c) else e).rd f = e.rd f := fun f => by
    split <;> rfl
  generalize (if (e.idcCh c).comOn then e.chStay c e.dec.winClose (d.idcHoldTill now c) else e) = x at hstay hregs
  have hmode : ∀ k, (x.idcCh k).holdEnd = (e.idcCh k).holdEnd := fun k => (congrArg (fun y => (y.2 k).2) hstay.rest :)
  exact ⟨h0.trans (hstay.mono (fun p hp => ⟨p, hp, le_refl _, le_refl _⟩) (fun hk => congrArg Prod.fst hk)), (hmode c).trans hself,
    fun k hk => (hmode k).trans (hother k hk), fun k => (hregs _).trans (hwin k)⟩

theorem idcHoldAll_spec (d : Dev) (now : Nat) :
    Touches idcPages Dev.idcRest d (d.each (List.range 32) (fun d c => d.idcHold now c)) ∧
      ∀ c, c < 32 → ((d.each (List.range 32) (fun d c => d.idcHold now c)).idcCh c).holdEnd = some (d.idcHoldTill now c) := by
  refine ⟨Touches.each _ _ (fun x c hc => (idcHold_spec x now (List.mem_range.mp hc)).1) d, fun c hc => ?_⟩
  refine (Dev.each_establishes (P := fun x => ∀ k, x.rd (IDC.HOLD_WINDOW k) = d.rd (IDC.HOLD_WINDOW k))
    (Q := fun x c => (x.idcCh c).holdEnd = some (d.idcHoldTill now c)) (fun x n hn hx k => ?_) (fun x n hn hx => ?_) (fun x n hn k _ hne _ hq => ?_)
    (fun _ => rfl)).2 c (List.mem_range.mpr hc)
  all_goals obtain ⟨-, hself, hother, hwin⟩ := idcHold_spec x now (List.mem_range.mp hn)
  · exact (hwin k).trans (hx k)
  · rw [hself, Dev.idcHoldTill, hx n, Dev.idcHoldTill]
  · exact (hother k hne).trans hq

/-- A switch that wants `w`, with its hold window running to `e`. -/
def LswCh.holds (c : LswCh) (w : Bool × Option (Nat × Nat)) (e : Nat) : LswCh :=
  { c with last := if c.snuff.isSome || c.holdEnd.isSome then c.last else w, holdEnd := some e }

theorem Dev.lswHold_eq (d : Dev) (now n : Nat) :
    d.lswHold now n = (d.modLsw n (fun c => c.holds (d.lswWant n) (d.lswHoldTill now n))).lswShow now n := rfl

/-- A hold window of a switch begins: what it leaves as it was, and where it ends. -/
theorem lswHold_spec (d : Dev) (now : Nat) {n : Nat} (hn : n < 16) :
    Touches lswPages Dev.sansLswParts d (d.lswHold now n) ∧ ((d.lswHold now n).lswCh n).holdEnd = some (d.lswHoldTill now n) ∧
      (∀ k, n ≠ k → ((d.lswHold now n).lswCh k).holdEnd = (d.lswCh k).holdEnd) ∧
      ∀ k, (d.lswHold now n).rd (LSW.HOLD_WINDOW k) = d.rd (LSW.HOLD_WINDOW k) := by
  rw [Dev.lswHold_eq]
  have hmod : Touches lswPages Dev.sansLswParts d (d.modLsw n (fun c => c.holds (d.lswWant n) (d.lswHoldTill now n))) := Touches.of_regs rfl rfl
  have hself := Dev.lswCh_modLsw_self d n (fun c => c.holds (d.lswWant n) (d.lswHoldTill now n))
  have hother := fun k (hk : n ≠ k) => Dev.lswCh_modLsw_ne d (fun c => c.holds (d.lswWant n) (d.lswHoldTill now n)) hk
  have hregs : ∀ f, (d.modLsw n (fun c => c.holds (d.lswWant n) (d.lswHoldTill now n))).rd f = d.rd f := fun _ => rfl
  generalize d.modLsw n (fun c => c.holds (d.lswWant n) (d.lswHoldTill now n)) = e at *
  have hch : ∀ k, (e.lswShow now n).lswCh k = e.lswCh k := fun _ => rfl
  refine ⟨hmod.trans ((lswTouch_lswShow e now hn).mono (fun p hp => ⟨p, hp, le_refl _, le_refl _⟩) (fun hk => congrArg Prod.fst hk)), ?_,
    fun k hk => ?_, fun k => ?_⟩
  · rw [hch, hself]
    rfl
  · rw [hch, hother k hk]
  · exact (Dev.rd_wr_ne (f := LSW.CH_STATE n) e _ (by simp only [Field.key, LSW.CH_STATE, LSW.HOLD_WINDOW]; omega)).trans (hregs _)

theorem lswHoldAll_spec (d : Dev) (now : Nat) :
    Touches lswPages Dev.sansLswParts d (d.each (List.range 16) (fun d n => d.lswHold now n)) ∧
      ∀ n, n < 16 → ((d.each (List.range 16) (fun d n => d.lswHold now n)).lswCh n).holdEnd = some (d.lswHoldTill now n) := by
  refine ⟨Touches.each _ _ (fun x c hc => (lswHold_spec x now (List.mem_range.mp hc)).1) d, fun c hc => ?_⟩
  refine (Dev.each_establishes (P := fun x => ∀ k, x.rd (LSW.HOLD_WINDOW k) = d.rd (LSW.HOLD_WINDOW k))
    (Q := fun x c => (x.lswCh c).holdEnd = some (d.lswHoldTill now c)) (fun x n hn hx k => ?_) (fun x n hn hx => ?_) (fun x n hn k _ hne _ hq => ?_)
    (fun _ => rfl)).2 c (List.mem_range.mpr hc)
  all_goals obtain ⟨-, hself, hother, hwin⟩ := lswHold_spec x now (List.mem_range.mp hn)
  · exact (hwin k).trans (hx k)
  · rw [hself, Dev.lswHoldTill, hx n, Dev.lswHoldTill]
  · exact (hother k hne).trans hq

/-! ### The reset -/

/-- What a reset of the logic die ends at once, with its kind noted. -/
def Dev.dieBegins (d : Dev) (now code : Nat) : Dev :=
  ((d.gridTurn now).each (List.range 8) (fun d n => d.crcAbort now n)).serviceEnds.wr PWR.LAST_RESET code

/-- The block with its power unit in Relight. -/
def Dev.inRelight (d : Dev) (now : Nat) : Dev := { d with pwr := { d.pwr with stage := .relight, resetAt := now, relightFrom := now } }

theorem Dev.logicDieReset_eq (d : Dev) (now code : Nat) :
    d.logicDieReset now code =
      ((((d.dieBegins now code).each (List.range 32) (fun d c => d.idcHold now c)).each (List.range 16) (fun d n => d.lswHold now n)).pwmSnuffSet now
        true).inRelight now := by
  unfold Dev.logicDieReset Dev.dieBegins Dev.inRelight
  dsimp only

theorem Dev.dieBegins_spec (d : Dev) (now : Nat) {code : Nat} (hcode : code < 8) :
    let e := d.dieBegins now code
    e.pwr = d.pwr ∧ e.hif.inService = false ∧ e.hif.unlocked = [] ∧ e.rd PWR.LAST_RESET = code ∧
      (∀ f : Field, f.lo < 32 → f.ofEvents = false → 0x001000 ≤ f.addr → (f.addr < 0x078000 ∨ 0x080000 ≤ f.addr) → PWR.LAST_RESET.key ≠ f.key →
        e.rd f = d.rd f) := by
  have hturn := gridTouch_gridTurn d now
  unfold Dev.dieBegins
  generalize d.gridTurn now = x at hturn
  have hdma : Touches [(0x078000, 0x080000)] Dev.sansCrc x (x.each (List.range 8) (fun d n => d.crcAbort now n)) :=
    Touches.each _ _ (fun y n hn => crcTouch_crcAbort y now (List.mem_range.mp hn)) x
  generalize x.each (List.range 8) (fun d n => d.crcAbort now n) = y at hdma
  have hpwr : y.serviceEnds.pwr = d.pwr := (congrArg Dev.pwr hdma.rest :).trans hturn.powered.pwr
  intro e
  refine ⟨hpwr, rfl, rfl, (Dev.rd_wr_self _ PWR.LAST_RESET code).trans (Nat.mod_eq_of_lt hcode), fun f hlo hev h1 h2 hne => ?_⟩
  refine (Dev.rd_wr_ne _ _ hne).trans (Eq.trans (b := y.rd f) rfl ((hdma.regs f hlo hev ?_).trans (hturn.regs f hlo hev ?_)))
  · simp only [List.mem_singleton, forall_eq]
    omega
  · simp only [List.mem_singleton, forall_eq]
    omega

/-- What a reset of the logic die with `code` does. -/
theorem Dev.logicDieReset_spec (d : Dev) (now : Nat) {code : Nat} (hcode : code < 8) :
    let e := d.logicDieReset now code
    e.pwr = { d.pwr with stage := .relight, resetAt := now, relightFrom := now } ∧ e.hif.inService = false ∧ e.hif.unlocked = [] ∧
      e.pwm.snuff = true ∧ e.rd PWR.LAST_RESET = code ∧ (∀ c, c < 32 → (e.idcCh c).holdEnd = some (d.idcHoldTill now c)) ∧
      (∀ n, n < 16 → (e.lswCh n).holdEnd = some (d.lswHoldTill now n)) ∧ e.rd PWR.RST_REFUSED = d.rd PWR.RST_REFUSED := by
  rw [Dev.logicDieReset_eq]
  obtain ⟨hpwr, hserv, hunl, hlast, hkeep⟩ := Dev.dieBegins_spec d now hcode
  generalize d.dieBegins now code = x at *
  obtain ⟨hi, hidc⟩ := idcHoldAll_spec x now
  generalize x.each (List.range 32) (fun d c => d.idcHold now c) = y at *
  obtain ⟨hl, hlsw⟩ := lswHoldAll_spec y now
  generalize y.each (List.range 16) (fun d n => d.lswHold now n) = z at *
  obtain ⟨hp, hpwm⟩ := pwmSnuffSet_spec z now true
  generalize z.pwmSnuffSet now true = w at *
  have hwpwr : w.pwr = d.pwr :=
    ((congrArg Dev.pwr hp.rest :).trans ((congrArg Dev.pwr hl.rest :).trans (congrArg (fun u : Dev × (Nat → TstSlot) => u.1.pwr) hi.rest :))).trans hpwr
  have hwhif : w.hif = x.hif :=
    (congrArg Dev.hif hp.rest :).trans ((congrArg Dev.hif hl.rest :).trans (congrArg (fun u : Dev × (Nat → TstSlot) => u.1.hif) hi.rest :))
  have hwidc : w.idc = y.idc := (congrArg Dev.idc hp.rest :).trans (congrArg Dev.idc hl.rest :)
  have hwlsw : w.lsw = z.lsw := (congrArg Dev.lsw hp.rest :)
  have hwrd := fun (f : Field) hlo hev h1 h2 h3 => (hp.rd f hlo hev h1).trans ((hl.rd f hlo hev h2).trans (hi.rd f hlo hev h3))
  intro e
  refine ⟨?_, (congrArg HifBlk.inService hwhif :).trans hserv, (congrArg HifBlk.unlocked hwhif :).trans hunl, hpwm,
    (hwrd PWR.LAST_RESET (by decide) (by decide) (by decide) (by decide) (by decide)).trans hlast, fun c hc => ?_, fun n hn => ?_,
    (hwrd PWR.RST_REFUSED (by decide) (by decide) (by decide) (by decide) (by decide)).trans
      (hkeep _ (by decide) (by decide) (by decide) (by decide) (by decide))⟩
  · exact congrArg (fun p : PwrBlk => { p with stage := .relight, resetAt := now, relightFrom := now }) hwpwr
  · have hwin : x.rd (IDC.HOLD_WINDOW c) = d.rd (IDC.HOLD_WINDOW c) :=
      hkeep _ (by clear * - hc; decide +revert) (by clear * - hc; decide +revert) (by clear * - hc; decide +revert)
        (by clear * - hc; decide +revert) (by clear * - hc; decide +revert)
    have hch : e.idcCh c = y.idcCh c := congrArg (fun t => tget t c) hwidc
    rw [hch, hidc c hc, Dev.idcHoldTill, hwin, Dev.idcHoldTill]
  · have hwin : y.rd (LSW.HOLD_WINDOW n) = d.rd (LSW.HOLD_WINDOW n) :=
      (hi.rd (LSW.HOLD_WINDOW n) (by clear * - hn; decide +revert) (by clear * - hn; decide +revert) (by clear * - hn; decide +revert)).trans
        (hkeep _ (by clear * - hn; decide +revert) (by clear * - hn; decide +revert) (by clear * - hn; decide +revert)
        (by clear * - hn; decide +revert) (by clear * - hn; decide +revert))
    have hch : e.lswCh n = z.lswCh n := congrArg (fun t => tget t n) hwlsw
    rw [hch, hlsw n hn, Dev.lswHoldTill, hwin, Dev.lswHoldTill]

end Sys2Proof.Machine
end

section
/-! PROOFS. The commands of the reset kinds (R500, R503 to R506, R515). -/
namespace Sys2Proof.Machine

/-! ### The cause of a logic-die reset -/

/-- What a cause of a logic-die reset with `code` does. -/
def CauseTaken (now code : Nat) (d e : Dev) : Prop :=
    (d.pwr.st = .kindle ∨ d.pwr.st = .ember → SysRst code false d e) ∧
    (d.pwr.st ≠ .kindle → d.pwr.st ≠ .ember →
      (d.pwr.stage = .relight → SysRst 3 false d e ∧ e.rd PWR.RELIGHT_FAIL = counted d PWR.RELIGHT_FAIL) ∧
      (d.pwr.stage ≠ .relight → ∀ t, d.pwr.relightEnd = some t → now < t + sec 10 → SysRst 3 true d e) ∧
      (d.pwr.stage ≠ .relight → (∀ t, d.pwr.relightEnd = some t → t + sec 10 ≤ now) →
        e.pwr.stage = .relight ∧ e.pwr.st = d.pwr.st ∧ e.pwr.resetAt = now ∧ e.pwr.relightFrom = now ∧ e.rd PWR.LAST_RESET = code ∧
        e.hif.inService = false ∧ e.hif.unlocked = [] ∧ e.pwm.snuff = true ∧
        (∀ c, c < 32 → (e.idcCh c).holdEnd = some (now + ms (min 100 (d.rd (IDC.HOLD_WINDOW c))))) ∧
        (∀ n, n < 16 → (e.lswCh n).holdEnd = some (now + ms (min 100 (d.rd (LSW.HOLD_WINDOW n)))))))

/-- What both kinds of reset leave to the rules of RESET_N and RST_CMD. -/
def RstKept (d e : Dev) : Prop :=
  e.pwr.resetLow = d.pwr.resetLow ∧ e.pwr.stageMaySys = d.pwr.stageMaySys ∧ e.rd PWR.RST_REFUSED = d.rd PWR.RST_REFUSED

theorem rstKept_systemReset {d : Dev} (now : Nat) {code : Nat} (storm : Bool) (h : d.pwr.st ≠ .off) (hcode : code < 8) :
    RstKept d (d.systemReset now code storm) := by
  obtain ⟨-, hlow, hmay, -, href⟩ := Dev.systemReset_spec now storm h hcode
  exact ⟨hlow, hmay, href⟩

theorem rstKept_logicDieReset (d : Dev) (now : Nat) {code : Nat} (hcode : code < 8) : RstKept d (d.logicDieReset now code) := by
  obtain ⟨hpwr, -, -, -, -, -, -, href⟩ := Dev.logicDieReset_spec d now hcode
  exact ⟨(congrArg PwrBlk.resetLow hpwr :), (congrArg PwrBlk.stageMaySys hpwr :), href⟩

theorem SysRst.of_eq {code : Nat} {storm : Bool} {d x e : Dev} (h : SysRst code storm x e)
    (hst : ∀ n, n < 48 → x.rd (WDG.SNUFF_STATE n) = d.rd (WDG.SNUFF_STATE n)) : SysRst code storm d e := by
  obtain ⟨h1, h2, h3, h4, h5, h6, h7, h8, h9, h10, h11, h12, hidc, hlsw⟩ := h
  exact ⟨h1, h2, h3, h4, h5, h6, h7, h8, h9, h10, h11, h12, fun c hc => (hidc c hc).trans (congrArg some (hst c (by omega))),
    fun n hn => (hlsw n hn).trans (congrArg some (hst (32 + n) (by omega)))⟩

/-- A Relight that fails ends in a system reset, counted. -/
theorem Dev.relightFails_spec {d : Dev} (now : Nat) (h : d.pwr.st ≠ .off) :
    let e := (d.bump PWR.RELIGHT_FAIL).systemReset now 3 false
    SysRst 3 false d e ∧ e.rd PWR.RELIGHT_FAIL = counted d PWR.RELIGHT_FAIL ∧ RstKept d e := by
  have hs : (d.bump PWR.RELIGHT_FAIL).pwr.st ≠ .off := h
  have hfail := Dev.rd_bump_self d PWR.RELIGHT_FAIL
  have hne : ∀ f : Field, PWR.RELIGHT_FAIL.key ≠ f.key → (d.bump PWR.RELIGHT_FAIL).rd f = d.rd f := fun f hf => Dev.rd_bump_ne _ hf
  have hp : (d.bump PWR.RELIGHT_FAIL).pwr = d.pwr := rfl
  generalize d.bump PWR.RELIGHT_FAIL = x at *
  obtain ⟨hrst, hlow, hmay, hf, href⟩ := Dev.systemReset_spec (code := 3) now false hs (by decide)
  refine ⟨hrst.of_eq fun n hn => hne _ ?_, hf.trans hfail, hlow.trans (by rw [hp]), hmay.trans (by rw [hp]), href.trans (hne _ (by decide))⟩
  simp only [Field.key, WDG.SNUFF_STATE, PWR.RELIGHT_FAIL]
  omega

theorem Dev.logicCause_of_kindle {d : Dev} (now code : Nat) (h : d.pwr.st = .kindle ∨ d.pwr.st = .ember) :
    d.logicCause now code = d.systemReset now code false := by
  unfold Dev.logicCause
  rcases h with h | h <;> simp [h]

theorem Dev.logicCause_of_relight {d : Dev} (now code : Nat) (h0 : d.pwr.st ≠ .off) (h1 : d.pwr.st ≠ .kindle) (h2 : d.pwr.st ≠ .ember)
    (h : d.pwr.stage = .relight) : d.logicCause now code = (d.bump PWR.RELIGHT_FAIL).systemReset now 3 false := by
  unfold Dev.logicCause
  rw [if_neg h0, if_neg (by simp [h1, h2]), if_pos h]

theorem Dev.logicCause_of_storm {d : Dev} (now code : Nat) (h0 : d.pwr.st ≠ .off) (h1 : d.pwr.st ≠ .kindle) (h2 : d.pwr.st ≠ .ember)
    (h : d.pwr.stage ≠ .relight) {t : Nat} (ht : d.pwr.relightEnd = some t) (hlt : now < t + sec 10) :
    d.logicCause now code = d.systemReset now 3 true := by
  unfold Dev.logicCause
  rw [if_neg h0, if_neg (by simp [h1, h2]), if_neg h, ht]
  exact if_pos hlt

theorem Dev.logicCause_of_quiet {d : Dev} (now code : Nat) (h0 : d.pwr.st ≠ .off) (h1 : d.pwr.st ≠ .kindle) (h2 : d.pwr.st ≠ .ember)
    (h : d.pwr.stage ≠ .relight) (hq : ∀ t, d.pwr.relightEnd = some t → t + sec 10 ≤ now) :
    d.logicCause now code = d.logicDieReset now code := by
  unfold Dev.logicCause
  rw [if_neg h0, if_neg (by simp [h1, h2]), if_neg h]
  split
  · exact if_neg (Nat.not_lt.mpr (hq _ (by assumption)))
  · rfl

/-- What a cause of a logic-die reset does, by what it meets. -/
theorem Dev.logicCause_spec {d : Dev} (now : Nat) {code : Nat} (h0 : d.pwr.st ≠ .off) (hcode : code < 8) :
    CauseTaken now code d (d.logicCause now code) ∧ RstKept d (d.logicCause now code) := by
  by_cases hk : d.pwr.st = .kindle ∨ d.pwr.st = .ember
  · rw [Dev.logicCause_of_kindle now code hk]
    exact ⟨⟨fun _ => (Dev.systemReset_spec now false h0 hcode).1, fun h1 h2 => absurd hk (not_or.mpr ⟨h1, h2⟩)⟩, rstKept_systemReset now false h0 hcode⟩
  obtain ⟨h1, h2⟩ := not_or.mp hk
  by_cases hr : d.pwr.stage = .relight
  · rw [Dev.logicCause_of_relight now code h0 h1 h2 hr]
    obtain ⟨hrst, hfail, hkept⟩ := d.relightFails_spec now h0
    exact ⟨⟨fun h => absurd h hk, fun _ _ => ⟨fun _ => ⟨hrst, hfail⟩, fun h => absurd hr h, fun h => absurd hr h⟩⟩, hkept⟩
  by_cases hq : ∀ t, d.pwr.relightEnd = some t → t + sec 10 ≤ now
  · rw [Dev.logicCause_of_quiet now code h0 h1 h2 hr hq]
    obtain ⟨hpwr, hserv, hunl, hpwm, hlast, hidc, hlsw, -⟩ := Dev.logicDieReset_spec d now hcode
    exact ⟨⟨fun h => absurd h hk, fun _ _ => ⟨fun h => absurd h hr, fun _ t ht hlt => absurd (hq t ht) (Nat.not_le.mpr hlt), fun _ _ =>
      ⟨(congrArg PwrBlk.stage hpwr :), (congrArg PwrBlk.st hpwr :), (congrArg PwrBlk.resetAt hpwr :), (congrArg PwrBlk.relightFrom hpwr :), hlast, hserv, hunl, hpwm,
        hidc, hlsw⟩⟩⟩, rstKept_logicDieReset d now hcode⟩
  · obtain ⟨t, ht⟩ := not_forall.mp hq
    obtain ⟨hrt, hlt⟩ := Classical.not_imp.mp ht
    rw [Dev.logicCause_of_storm now code h0 h1 h2 hr hrt (Nat.not_le.mp hlt)]
    exact ⟨⟨fun h => absurd h hk, fun _ _ => ⟨fun h => absurd h hr, fun _ _ _ _ => (Dev.systemReset_spec now true h0 (by decide)).1,
      fun _ h => absurd h hq⟩⟩, rstKept_systemReset now true h0 (by decide)⟩

/-! ### RESET_N -/

/-- A cause met by a block that differs in RST_REFUSED and RESET_N. -/
theorem CauseTaken.congr {now code : Nat} {d x e : Dev} (h : CauseTaken now code x e) (hst : x.pwr.st = d.pwr.st)
    (hstage : x.pwr.stage = d.pwr.stage) (hend : x.pwr.relightEnd = d.pwr.relightEnd)
    (hne : ∀ f : Field, PWR.RST_REFUSED.key ≠ f.key → x.rd f = d.rd f) : CauseTaken now code d e := by
  have hsys : ∀ c b, SysRst c b x e → SysRst c b d e := fun c b hx => hx.of_eq fun n _ => hne _ (by
    simp only [Field.key, WDG.SNUFF_STATE, PWR.RST_REFUSED]; omega)
  have hidc : ∀ c, x.rd (IDC.HOLD_WINDOW c) = d.rd (IDC.HOLD_WINDOW c) := fun c => hne _ (by
    simp only [Field.key, IDC.HOLD_WINDOW, PWR.RST_REFUSED]; omega)
  have hlsw : ∀ c, x.rd (LSW.HOLD_WINDOW c) = d.rd (LSW.HOLD_WINDOW c) := fun c => hne _ (by
    simp only [Field.key, LSW.HOLD_WINDOW, PWR.RST_REFUSED]; omega)
  have hfail : counted x PWR.RELIGHT_FAIL = counted d PWR.RELIGHT_FAIL := by
    unfold counted
    rw [hne _ (by decide)]
  unfold CauseTaken at h
  simp only [hst, hstage, hend, hidc, hlsw, hfail] at h
  obtain ⟨hk, hrun⟩ := h
  refine ⟨fun h => hsys _ _ (hk h), fun h1 h2 => ?_⟩
  obtain ⟨hr, hs, hq⟩ := hrun h1 h2
  exact ⟨fun h => ⟨hsys _ _ (hr h).1, (hr h).2⟩, fun h t ht hlt => hsys _ _ (hs h t ht hlt), hq⟩

/-- The block with RESET_N low since `t`. -/
def Dev.resetHeld (d : Dev) (t : Nat) : Dev := { d with pwr := { d.pwr with resetLow := some t, stageMaySys := true } }

theorem resetNFall_effect (s : State) (el held : Nat) : Answers (.resetNFall el held) s (fun now d e =>
      (d.pwr.st = .off ∨ d.pwr.resetLow ≠ none ∨ held < us 1 → e = d) ∧
      (d.pwr.st ≠ .off → d.pwr.resetLow = none → us 1 ≤ held →
        CauseTaken now 6 d e ∧ e.pwr.resetLow = some (now - held) ∧ e.pwr.stageMaySys = true)) := by
  refine answers_of_forall (f := fun now d => d.resetFall now held) rfl (fun now d => ⟨fun h => if_pos ?_, fun hst hlow hheld => ?_⟩)
  · simp only [Bool.or_eq_true, decide_eq_true_eq, Option.isSome_iff_ne_none]
    rcases h with h | h | h
    · exact .inl (.inl h)
    · exact .inl (.inr h)
    · exact .inr h
  · have heq : d.resetFall now held = (d.resetHeld (now - held)).logicCause now 6 := if_neg (by simp [hst, hlow, Nat.not_lt.mpr hheld])
    rw [heq]
    have hst' : (d.resetHeld (now - held)).pwr.st ≠ .off := hst
    obtain ⟨hcause, hl, hm, -⟩ := Dev.logicCause_spec (code := 6) now hst' (by decide)
    exact ⟨hcause.congr rfl rfl rfl (fun _ _ => rfl), hl, hm⟩

theorem Dev.resetLong_of_none {d : Dev} (now : Nat) (h : d.pwr.resetLow = none) : d.resetLong now = d := by
  unfold Dev.resetLong
  rw [h]

/-- The block in which RESET_N has asked for its system reset. -/
def Dev.resetAsked (d : Dev) : Dev := { d with pwr := { d.pwr with stageMaySys := false } }

theorem Dev.resetLong_of_some {d : Dev} (now : Nat) {t : Nat} (h : d.pwr.resetLow = some t) :
    d.resetLong now = if d.pwr.stageMaySys && decide (t + ms 10 ≤ now) then d.resetAsked.systemReset now 1 false else d := by
  unfold Dev.resetLong
  rw [h]
  rfl

theorem resetNLong_effect (s : State) (el : Nat) : Answers (.resetNLong el) s (fun now d e =>
      (d.pwr.resetLow = none ∨ d.pwr.stageMaySys = false → e = d) ∧
      (∀ t, d.pwr.resetLow = some t → d.pwr.stageMaySys = true → (now < t + ms 10 → e = d) ∧
        (t + ms 10 ≤ now → d.pwr.st ≠ .off → SysRst 1 false d e ∧ e.pwr.stageMaySys = false ∧ e.pwr.resetLow = some t))) := by
  refine answers_of_forall (f := fun now d => d.resetLong now) rfl (fun now d => ⟨fun h => ?_, fun t ht hmay => ⟨fun hlt => ?_, fun hdue hst => ?_⟩⟩)
  · cases hl : d.pwr.resetLow with
    | none => exact Dev.resetLong_of_none now hl
    | some t => exact (Dev.resetLong_of_some now hl).trans (if_neg (by simp [h.resolve_left (by simp [hl])]))
  · exact (Dev.resetLong_of_some now ht).trans (if_neg (by simp [Nat.not_le.mpr hlt]))
  · rw [Dev.resetLong_of_some now ht, if_pos (by simp [hmay, hdue])]
    have hst' : d.resetAsked.pwr.st ≠ .off := hst
    obtain ⟨hrst, hl, hm, -⟩ := Dev.systemReset_spec (code := 1) now false hst' (by decide)
    exact ⟨hrst.of_eq fun n _ => rfl, hm, hl.trans ht⟩

theorem resetNRise_effect (s : State) (el : Nat) : Answers (.resetNRise el) s (fun now d e =>
      e = { d with pwr := { d.pwr with resetLow := none, stageMaySys := false, relightFrom := now } }) :=
  answers_of_forall (f := fun now d => d.resetRise now) rfl (fun _ _ => rfl)

/-! ### RST_CMD -/

theorem Dev.rstCmd_of_painting {d : Dev} (now : Nat) {v : Nat} (hv : v = 0xD1 ∨ v = 0xE7) (h : d.validPts.any (fun n => (d.decOf n).s) = true) :
    d.rstCmd now v = d.wr PWR.RST_REFUSED 1 := by
  unfold Dev.rstCmd
  rw [if_neg (by rcases hv with rfl | rfl <;> simp), if_pos h]

theorem Dev.rstCmd_refused {d : Dev} (now : Nat) {v : Nat} (hv : v = 0xD1 ∨ v = 0xE7) (h : d.validPts.any (fun n => (d.decOf n).s) = true) :
    (d.rstCmd now v).rd PWR.RST_REFUSED = 1 ∧ OnlyRegs [PWR.RST_REFUSED] d (d.rstCmd now v) := by
  rw [Dev.rstCmd_of_painting now hv h]
  exact ⟨Dev.rd_wr_self d PWR.RST_REFUSED 1, OnlyRegs.wr d PWR.RST_REFUSED 1 (by simp)⟩

/-- What RST_CMD finds, its refusal cleared. -/
theorem Dev.rstTaken_spec (d : Dev) : let x := d.wr PWR.RST_REFUSED 0
    x.pwr = d.pwr ∧ x.rd PWR.RST_REFUSED = 0 ∧ ∀ f : Field, PWR.RST_REFUSED.key ≠ f.key → x.rd f = d.rd f :=
  ⟨rfl, Dev.rd_wr_self d PWR.RST_REFUSED 0, fun _ h => Dev.rd_wr_ne d 0 h⟩

theorem systemReset_effect (s : State) (el : Nat) : Answers (.systemReset el) s (fun now d e => d.pwrWrites now = true →
      (d.validPts.any (fun n => (d.decOf n).s) = true → e.rd PWR.RST_REFUSED = 1 ∧ OnlyRegs [PWR.RST_REFUSED] d e) ∧
      (d.validPts.any (fun n => (d.decOf n).s) = false → d.pwr.st ≠ .off → SysRst 2 false d e ∧ e.rd PWR.RST_REFUSED = 0)) := by
  refine answers_of_forall (f := fun now d => if d.pwrWrites now then d.rstCmd now 0xD1 else d) rfl (fun now d hw => ?_)
  rw [if_pos hw]
  refine ⟨Dev.rstCmd_refused now (.inl rfl), fun hidle hst => ?_⟩
  have heq : d.rstCmd now 0xD1 = (d.wr PWR.RST_REFUSED 0).systemReset now 2 false := by
    unfold Dev.rstCmd
    rw [if_neg (by simp), if_neg (by simp [hidle]), if_pos rfl]
  obtain ⟨hpwr, href, hne⟩ := d.rstTaken_spec
  rw [heq]
  generalize d.wr PWR.RST_REFUSED 0 = x at *
  obtain ⟨hrst, -, -, -, hr⟩ := Dev.systemReset_spec (d := x) (code := 2) now false (by rw [hpwr]; exact hst) (by decide)
  refine ⟨hrst.of_eq fun n _ => hne _ ?_, hr.trans href⟩
  simp only [Field.key, WDG.SNUFF_STATE, PWR.RST_REFUSED]
  omega

theorem logicDieReset_effect (s : State) (el : Nat) : Answers (.logicDieReset el) s (fun now d e => d.pwrWrites now = true →
      (d.validPts.any (fun n => (d.decOf n).s) = true → e.rd PWR.RST_REFUSED = 1 ∧ OnlyRegs [PWR.RST_REFUSED] d e) ∧
      (d.validPts.any (fun n => (d.decOf n).s) = false → d.pwr.st ≠ .off → CauseTaken now 7 d e ∧ e.rd PWR.RST_REFUSED = 0)) := by
  refine answers_of_forall (f := fun now d => if d.pwrWrites now then d.rstCmd now 0xE7 else d) rfl (fun now d hw => ?_)
  rw [if_pos hw]
  refine ⟨Dev.rstCmd_refused now (.inr rfl), fun hidle hst => ?_⟩
  have heq : d.rstCmd now 0xE7 = (d.wr PWR.RST_REFUSED 0).logicCause now 7 := by
    unfold Dev.rstCmd
    rw [if_neg (by simp), if_neg (by simp [hidle]), if_neg (by decide)]
  obtain ⟨-, href, hne⟩ := d.rstTaken_spec
  rw [heq]
  have hst' : (d.wr PWR.RST_REFUSED 0).pwr.st ≠ .off := hst
  obtain ⟨hcause, -, -, hr⟩ := Dev.logicCause_spec (code := 7) now hst' (by decide)
  exact ⟨hcause.congr rfl rfl rfl hne, hr.trans href⟩

end Sys2Proof.Machine
end

section
/-! PROOFS. The power-on reset and KINDLE (R503, R507 to R512). -/
namespace Sys2Proof.Machine

/-! ### VBAT -/

theorem vbatStart_effect (s : State) (el : Nat) (mv : BitVec 16) (held : Nat) : Answers (.vbatStart el mv held) s (fun now d e =>
      (d.pwr.st ≠ .off ∨ mv.toNat < 6000 ∨ held < ms 1 → e = d) ∧
      (d.pwr.st = .off → 6000 ≤ mv.toNat → ms 1 ≤ held → e.rd PWR.VBAT_MV = mv.toNat ∧
        e.pwr = { d.pwr with st := .kindle, stage := .kindle, outHold := .off, opSince := now } ∧
        OnlyRegs [PWR.VBAT_MV] { d with pwr := e.pwr } e)) := by
  refine answers_of_forall (f := fun now d =>
    if d.pwr.st = .off && decide (6000 ≤ mv.toNat) && decide (ms 1 ≤ held) then
      { d with pwr := { d.pwr with st := .kindle, stage := .kindle, outHold := .off, opSince := now } }.wr PWR.VBAT_MV mv.toNat
    else d) rfl (fun now d => ⟨fun h => if_neg fun hc => ?_, fun hst hmv hheld => ?_⟩)
  · simp only [Bool.and_eq_true, decide_eq_true_eq] at hc
    obtain ⟨⟨hst, hmv⟩, hheld⟩ := hc
    rcases h with h | h | h
    · exact h hst
    · exact absurd hmv (Nat.not_le.mpr h)
    · exact absurd hheld (Nat.not_le.mpr h)
  · dsimp only
    rw [if_pos (by simp [hst, hmv, hheld])]
    exact ⟨(Dev.rd_wr_self _ PWR.VBAT_MV _).trans (Nat.mod_eq_of_lt mv.isLt), rfl, OnlyRegs.wr _ PWR.VBAT_MV _ (by simp)⟩

/-! ### What stands in memory -/

theorem tget?_filter {α : Type} (p : Nat → Bool) (m : Tab α) (k : Nat) :
    tget? (m.filter (fun c => p c.1)) k = if p k = true then tget? m k else none := by
  induction m with
  | nil => simp [tget?]
  | cons c t ih =>
    by_cases hp : p c.1 = true
    · rw [List.filter_cons_of_pos (by simpa using hp)]
      by_cases hk : c.1 = k
      · simp [tget?, hk, hk ▸ hp]
      · simp [tget?, hk, ih]
    · rw [List.filter_cons_of_neg (by simpa using hp), ih]
      by_cases hk : c.1 = k
      · simp [hk ▸ hp]
      · simp [tget?, hk]

theorem memGet_filter_of_not {p : Nat → Bool} (m : List Host.Cell) {a : Nat} (h : p a = false) : memGet (m.filter (fun c => p c.1)) a = 0 := by
  have hg := tget?_filter p m a
  rw [memGet]
  exact (congrArg (fun x : Option (BitVec 8) => (x.map BitVec.toNat).getD 0) (hg.trans (if_neg (by simp [h]))) :)

theorem memGet_filter_of {p : Nat → Bool} (m : List Host.Cell) {a : Nat} (h : p a = true) :
    memGet (m.filter (fun c => p c.1)) a = memGet m a :=
  congrArg (fun x : Option (BitVec 8) => (x.map BitVec.toNat).getD 0) ((tget?_filter p m a).trans (if_pos h))

theorem Dev.mem_cntTorn (d : Dev) (now : Nat) : (d.cntTorn now).mem = d.mem := by
  unfold Dev.cntTorn
  split
  · rfl
  · dsimp only
    split <;> rfl

theorem Dev.mem_powerOff (d : Dev) (now : Nat) : (d.powerOff now).mem = d.mem.filter (fun c => decide (0x600000 ≤ c.1)) := by
  have hrec : Stores d (d.recFlush now) := Touches.opt (stores_recWriteOut d now)
  have hmem : ((d.recFlush now).cntTorn now).mem = d.mem := (Dev.mem_cntTorn _ now).trans (congrArg Dev.mem hrec.rest :)
  exact congrArg (fun m : List Host.Cell => m.filter (fun c => decide (0x600000 ≤ c.1))) hmem

theorem powerOnReset_effect (s : State) (el : Nat) (mv : BitVec 16) (held : Nat) :
    (mv.toNat < 4200 → us 20 ≤ held →
      ∃ t, exec (.powerOnReset el mv held) s = .next t ∧ t.dt = 0 ∧ t.dev.pwr.st = .off ∧ t.dev.regs = [] ∧ t.dev.hif.inService = false ∧
        (∀ a, a < 0x600000 → memGet t.dev.mem a = 0) ∧ (∀ a, 0x600000 ≤ a → memGet t.dev.mem a = memGet s.dev.mem a)) ∧
    (4200 ≤ mv.toNat ∨ held < us 20 → Answers (.powerOnReset el mv held) s (fun _ d e => e = d)) := by
  have hexec : exec (.powerOnReset el mv held) s =
      if mv.toNat < 4200 ∧ us 20 ≤ held then s.runZero el (fun now d => d.powerOff now) else s.run el (fun _ d => d) := rfl
  refine ⟨fun hmv hheld => ⟨_, hexec.trans (if_pos ⟨hmv, hheld⟩), rfl, rfl, rfl, rfl, fun a ha => ?_, fun a ha => ?_⟩, fun h => ?_⟩
  · exact (congrArg (memGet · a) (Dev.mem_powerOff _ _) :).trans (memGet_filter_of_not (p := fun x => decide (0x600000 ≤ x)) _ (by simpa using ha))
  · exact (congrArg (memGet · a) (Dev.mem_powerOff _ _) :).trans (memGet_filter_of (p := fun x => decide (0x600000 ≤ x)) _ (by simpa using ha))
  · exact answers_of_forall (f := fun _ d => d) (hexec.trans (if_neg (by omega))) (fun _ _ => rfl)

/-! ### The choice of a firmware bank -/

theorem Dev.fwBank_congr {d e : Dev} (h : e.mram = d.mram) (b : Nat) : e.fwBank b = d.fwBank b := by rw [Dev.fwBank, h, Dev.fwBank]

theorem Dev.fwVerifyBank_congr {d e : Dev} (h : e.mram = d.mram) (b : Nat) : e.fwVerifyBank b = d.fwVerifyBank b := by
  rw [Dev.fwVerifyBank, Dev.fwBank_congr h, Dev.fwVerifyBank]

theorem Dev.fwRuns_congr {d e : Dev} (h : e.mram = d.mram) (b : Nat) : e.fwRuns b = d.fwRuns b := by
  rw [Dev.fwRuns, Dev.fwVerifyBank_congr h, Dev.cntVal, h, Dev.fwRuns, Dev.cntVal]

/-- Bank `b` with the version its content shows. -/
def Dev.bankVersioned (d : Dev) (b : Nat) : Dev :=
  d.setFwBank b { d.fwBank b with ver := if (d.fwVerifyBank b).1 = 0 then (d.fwVerifyBank b).2 else 0 }

theorem Dev.mram_bankVersioned_congr {d e : Dev} (h : e.mram = d.mram) (b : Nat) : (e.bankVersioned b).mram = (d.bankVersioned b).mram := by
  rw [Dev.bankVersioned, Dev.fwVerifyBank_congr h, Dev.fwBank_congr h, Dev.setFwBank, h, Dev.bankVersioned, Dev.setFwBank]

/-- The bank to run. -/
def Dev.fwWanted (d : Dev) : Nat := if d.mram.fwPending || d.mram.fwTrial then 1 - d.mram.fwRun else d.mram.fwRun

/-- Whether a bank runs. -/
theorem Dev.fwChoose_runs (d : Dev) :
    d.fwChoose.2.2 = if d.fwRuns d.fwWanted then true else ((d.bankVersioned 0).bankVersioned 1).fwRuns (1 - d.fwWanted) := by
  unfold Dev.fwChoose
  extract_lets m want back ok x
  split
  · next h => exact (if_pos h).symm
  · next h => exact (if_neg h).symm

theorem Dev.fwChoose_runs_congr {d e : Dev} (h : e.mram = d.mram) : e.fwChoose.2.2 = d.fwChoose.2.2 := by
  have hw : e.fwWanted = d.fwWanted := by simp only [Dev.fwWanted, h]
  rw [e.fwChoose_runs, d.fwChoose_runs, hw, Dev.fwRuns_congr h,
    Dev.fwRuns_congr (Dev.mram_bankVersioned_congr (Dev.mram_bankVersioned_congr h 0) 1)]

/-! ### The supply's handshake -/

theorem Dev.vwarn_bounds (d : Dev) : 7000 ≤ d.vwarn ∧ d.vwarn ≤ 20000 := by
  unfold Dev.vwarn Dev.rdH held
  split
  · split <;> omega
  · omega

/-- What the supply inputs show in the handshake. -/
def Dev.supplyShown (d : Dev) (vbat : Nat) (vpwr : List Nat) : Dev :=
  (d.wr PWR.VBAT_MV vbat).each (List.range 4) (fun d b => d.wr (vpwrField b) (vpwr.getD b 0))

/-- The nominal voltage the handshake takes. -/
def Dev.nomTaken (d : Dev) (vbat : Nat) : Nat :=
  match d.rd PWR.NOM_SYS with
  | 1 => 1
  | 2 => 2
  | _ => if 18000 ≤ vbat then 2 else 1

/-- The outputs take their snuff states where they are held in them. -/
def Dev.outputsHeld (d : Dev) (now : Nat) : Dev := if d.pwr.outHold = .snuff then d.outputsSnuff now else d

theorem Dev.handshake_eq (d : Dev) (now vbat : Nat) (vpwr : List Nat) :
    d.handshake now vbat vpwr = ((((d.supplyShown vbat vpwr).wr PWR.NOM_ACT ((d.supplyShown vbat vpwr).nomTaken vbat)).wr WDG.SNUFF_SYNC 1).outputsHeld
      now).pathSync now := rfl

theorem supplyShown_only (d : Dev) (vbat : Nat) (vpwr : List Nat) :
    OnlyRegs [PWR.VPWR_A_MV, PWR.VPWR_B_MV, PWR.VPWR_C_MV, PWR.VPWR_D_MV] (d.wr PWR.VBAT_MV vbat) (d.supplyShown vbat vpwr) := by
  unfold Dev.supplyShown Dev.each
  generalize d.wr PWR.VBAT_MV vbat = x
  exact (((OnlyRegs.wr x PWR.VPWR_A_MV _ (by simp)).thenWr (by simp [vpwrField]) _).thenWr (by simp [vpwrField]) _).thenWr (by simp [vpwrField]) _

/-- What the handshake of the supply shows. -/
theorem Dev.handshake_spec (d : Dev) (now : Nat) {vbat : Nat} (vpwr : List Nat) (hv : vbat < 2 ^ 16) :
    let e := d.handshake now vbat vpwr
    e.pwr = d.pwr ∧ e.rd PWR.VBAT_MV = vbat ∧ e.rd PWR.HOST_WAIT = d.rd PWR.HOST_WAIT ∧
      (d.rd PWR.NOM_SYS = 1 → e.rd PWR.NOM_ACT = 1) ∧ (d.rd PWR.NOM_SYS = 2 → e.rd PWR.NOM_ACT = 2) := by
  rw [Dev.handshake_eq]
  have hx := supplyShown_only d vbat vpwr
  have hpwr : (d.supplyShown vbat vpwr).pwr = d.pwr := (congrArg Dev.pwr hx.1 :)
  have hvbat : (d.supplyShown vbat vpwr).rd PWR.VBAT_MV = vbat :=
    (hx.2 _ (by decide)).trans ((Dev.rd_wr_self d PWR.VBAT_MV vbat).trans (Nat.mod_eq_of_lt hv))
  have hkeep : ∀ f : Field, (∀ g ∈ [PWR.VPWR_A_MV, PWR.VPWR_B_MV, PWR.VPWR_C_MV, PWR.VPWR_D_MV], g.key ≠ f.key) → PWR.VBAT_MV.key ≠ f.key →
      (d.supplyShown vbat vpwr).rd f = d.rd f := fun f h1 h2 => (hx.2 f h1).trans (Dev.rd_wr_ne d _ h2)
  have hnom := hkeep PWR.NOM_SYS (by decide) (by decide)
  have hwait := hkeep PWR.HOST_WAIT (by decide) (by decide)
  generalize d.supplyShown vbat vpwr = x at *
  have hy : ∀ n, ((x.wr PWR.NOM_ACT n).wr WDG.SNUFF_SYNC 1).pwr = x.pwr ∧ OnlyRegs [PWR.NOM_ACT, WDG.SNUFF_SYNC] x ((x.wr PWR.NOM_ACT n).wr WDG.SNUFF_SYNC 1) ∧
      ((x.wr PWR.NOM_ACT n).wr WDG.SNUFF_SYNC 1).rd PWR.NOM_ACT = n % 2 ^ PWR.NOM_ACT.width := fun n =>
    ⟨rfl, (OnlyRegs.wr x PWR.NOM_ACT n (by simp)).thenWr (by simp) 1, (Dev.rd_wr_ne _ _ (by decide)).trans (Dev.rd_wr_self x PWR.NOM_ACT n)⟩
  obtain ⟨hyp, hyr, hyn⟩ := hy (x.nomTaken vbat)
  generalize (x.wr PWR.NOM_ACT (x.nomTaken vbat)).wr WDG.SNUFF_SYNC 1 = y at *
  have hz : PwrTouch y ((y.outputsHeld now).pathSync now) :=
    Touches.trans (Touches.opt (outputsSnuff_driven y now).powered) (modeTouch_pathSync _ now).powered
  generalize (y.outputsHeld now).pathSync now = z at hz
  intro e
  refine ⟨hz.pwr.trans (hyp.trans hpwr), (hz.rd PWR.VBAT_MV).trans ((hyr.2 _ (by decide)).trans hvbat),
    (hz.rd PWR.HOST_WAIT).trans ((hyr.2 _ (by decide)).trans hwait), fun h => (hz.rd PWR.NOM_ACT).trans (hyn.trans ?_),
    fun h => (hz.rd PWR.NOM_ACT).trans (hyn.trans ?_)⟩
  · rw [Dev.nomTaken, hnom, h]
    rfl
  · rw [Dev.nomTaken, hnom, h]
    rfl

end Sys2Proof.Machine
end

section
/-! PROOFS. KINDLE brings the register space into service (R507 to R512). -/
namespace Sys2Proof.Machine

/-- The register space in service. -/
def Dev.servesHosts (e : Dev) : Prop := e.hif.inService = true ∧ e.pwr.stage = .none

theorem Dev.servesHosts_of_powered {d e : Dev} (h : PwrTouch d e) (hd : d.servesHosts) : e.servesHosts :=
  ⟨(congrArg HifBlk.inService h.hif :).trans hd.1, (congrArg PwrBlk.stage h.pwr :).trans hd.2⟩

/-- The block after the handshake of its supply, its register space in service. -/
def Dev.served (d : Dev) (now vbat : Nat) (vpwr : List Nat) : Dev := (d.handshake now vbat vpwr).inService now

/-- What stands once the register space is in service. -/
theorem Dev.served_spec (d : Dev) (now : Nat) {vbat : Nat} (vpwr : List Nat) (hv : vbat < 2 ^ 16) :
    let e := d.served now vbat vpwr
    e.servesHosts ∧ e.pwr.hostWaitTill = some (now + d.hostWait) ∧ e.rd PWR.VBAT_MV = vbat ∧
      (d.rd PWR.NOM_SYS = 1 → e.rd PWR.NOM_ACT = 1) ∧ (d.rd PWR.NOM_SYS = 2 → e.rd PWR.NOM_ACT = 2) := by
  obtain ⟨-, hvbat, hwait, h1, h2⟩ := d.handshake_spec now vpwr hv
  have hrd : ∀ f, (d.served now vbat vpwr).rd f = (d.handshake now vbat vpwr).rd f := fun _ => rfl
  have hw : (d.handshake now vbat vpwr).hostWait = d.hostWait := by rw [Dev.hostWait, Dev.rdH, hwait, Dev.hostWait, Dev.rdH]
  intro e
  exact ⟨⟨rfl, rfl⟩, congrArg (fun w => some (now + w)) hw, (hrd _).trans hvbat, fun h => (hrd _).trans (h1 h), fun h => (hrd _).trans (h2 h)⟩

/-- Whether VBAT is too low to go on. -/
def Dev.kindleLow (d e : Dev) (vbat : Nat) : Bool := decide (vbat < e.vwarn + (if d.pwr.paused then 300 else 0))

theorem Dev.kindleLow_of_low {d e : Dev} {vbat : Nat} (h : vbat < 7000) : d.kindleLow e vbat = true := by
  have := e.vwarn_bounds
  exact decide_eq_true (by omega)

theorem Dev.not_kindleLow_of_high {d e : Dev} {vbat : Nat} (h : 20300 ≤ vbat) : ¬ d.kindleLow e vbat = true := by
  have := e.vwarn_bounds
  refine fun h => absurd (of_decide_eq_true h) ?_
  split <;> omega

/-! ### A wake from EMBER -/

/-- The units start, the watchdog with a new window where it is armed. -/
def Dev.unitsWake (d : Dev) (now : Nat) : Dev :=
  let e := d.unitsStart now
  if e.on WDG.WDG_ARMED then e.newChallenge.wdgWindow now true else e

theorem pwrTouch_newWindow (d : Dev) (now : Nat) : PwrTouch d (d.newChallenge.wdgWindow now true) := by
  have h : PwrTouch d d.newChallenge := by
    unfold Dev.newChallenge
    extract_lets prev r x c
    exact PwrTouch.thenWr (a := d) (d := r.2) (f := WDG.CHALLENGE) (Touches.of_regs rfl rfl) (by decide)
  exact h.trans (Touches.of_regs rfl rfl)

theorem pwrTouch_unitsWake (d : Dev) (now : Nat) : PwrTouch d (d.unitsWake now) :=
  (pwrTouch_unitsStart d now).trans (Touches.opt (pwrTouch_newWindow _ now))

/-- KINDLE, its voltage too low. -/
def Dev.kindlePaused (d : Dev) : Dev := { d with pwr := { d.pwr with paused := true } }

theorem Dev.kindle_of_wake {d : Dev} (now vbat : Nat) (vpwr : List Nat) (hst : d.pwr.st = .kindle) (hstage : d.pwr.stage = .kindle)
    (hlow : d.pwr.resetLow = none) (hw : d.pwr.wake = true) :
    d.kindle now vbat vpwr =
      if d.kindleLow (d.wr PWR.NOM_ACT 0) vbat then d.kindlePaused
      else ((d.wr PWR.NOM_ACT 0).served now vbat vpwr).unitsWake now := by
  unfold Dev.kindle
  rw [if_neg (by simp [hst, hstage, hlow])]
  exact if_pos hw

/-! ### After a reset -/

/-- The block as KINDLE finds it, with its log walked. -/
def Dev.kindleWalk (d : Dev) (now : Nat) : Dev :=
  (if d.pwr.outHold == .off then d else ((d.cntTorn now).bucketsSet now REC.TB_BURST.reset REC.TB_PERIOD.reset).sysKeep).recWalk

/-- The loader's state: no bank runs. -/
def Dev.bootRec (d : Dev) : Dev :=
  let d := (d.cntLoad).wr PWR.BOOT_REC 1
  { d with hif := { d.hif with inService := true }, pwr := { d.pwr with stage := .none, outHold := .off, outOff := true } }

/-- The image and the counted settings loaded. -/
def Dev.kindleLoad (d : Dev) (por : Bool) : Dev :=
  ((if por then { d with mram := { d.mram with powerCycles := d.mram.powerCycles + 1 } } else d).imageLoad por).cntLoad

/-- The episode that a reset cut is closed. -/
def Dev.episodeCut (d : Dev) (now : Nat) : Dev :=
  match d.mram.episode with
  | some e => d.closeEpisode now e (e.lastUpd - e.start) true
  | none => d

/-- The map after a reset: a store is selected, its tiles checked and its field closed where it no longer matches. -/
def Dev.mapAfter (d : Dev) (now : Nat) (por : Bool) : Dev := if por then d else ((d.selectStore now).tilesCheck now).fieldAfterReset now

/-- The units start after a reset, with the map the reset left. -/
def Dev.unitsAfter (d : Dev) (now : Nat) (por back : Bool) : Dev :=
  let e := (((d.episodeCut now).mapAfter now por).unitsStart now)
  if back then e.fire now EVT.PWR_FW_ROLLBACK 0 0 else e

theorem Dev.kindle_of_reset {d : Dev} (now vbat : Nat) (vpwr : List Nat) (hst : d.pwr.st = .kindle) (hstage : d.pwr.stage = .kindle)
    (hlow : d.pwr.resetLow = none) (hw : d.pwr.wake = false) :
    d.kindle now vbat vpwr =
      let fw := (d.kindleWalk now).fwChoose
      let por := d.pwr.outHold == .off
      if !fw.2.2 then fw.1.bootRec.diesOff now
      else if d.kindleLow (fw.1.kindleLoad por) vbat then d.kindlePaused
      else ((if por then (fw.1.kindleLoad por).latRestore else fw.1.kindleLoad por).served now vbat vpwr).unitsAfter now por fw.2.1 := by
  unfold Dev.kindle
  rw [if_neg (by simp [hst, hstage, hlow])]
  exact if_neg (by simp [hw])

theorem Dev.mram_recWalk (d : Dev) : d.recWalk.mram = d.mram := by
  unfold Dev.recWalk
  split <;> rfl

theorem Dev.mram_cntTorn_of_none {d : Dev} (now : Nat) (h : d.cntAct = none) : d.cntTorn now = d := by
  unfold Dev.cntTorn
  rw [h]

/-- Bucket `k` with the tokens it has gained, its capacity changed from `old` to `new`. -/
def Dev.bucketResized (d : Dev) (now old new k : Nat) : Dev :=
  let b := d.bucketNow now k
  let b : Bucket := { b with used := b.used + new - old, last := if b.used = 0 then now else b.last }
  { d with rec_ := { d.rec_ with buckets := tset d.rec_.buckets k b } }

theorem Dev.mram_bucketsSet (d : Dev) (now burst per : Nat) : (d.bucketsSet now burst per).mram = d.mram := by
  unfold Dev.bucketsSet
  extract_lets old new ks x
  exact (Dev.each_keeps Dev.mram (fun x k => x.bucketResized now old new k) (fun _ _ => rfl) d ks :)

theorem Dev.mram_kindleWalk {d : Dev} (now : Nat) (h : d.pwr.outHold = .off ∨ d.cntAct = none) : (d.kindleWalk now).mram = d.mram := by
  rw [Dev.kindleWalk, Dev.mram_recWalk]
  by_cases hp : (d.pwr.outHold == .off) = true
  · rw [if_pos hp]
  · have hc : d.cntAct = none := h.resolve_left (by simpa using hp)
    rw [if_neg hp, Dev.mram_cntTorn_of_none now hc]
    exact (Dev.mram_bucketsSet d now REC.TB_BURST.reset REC.TB_PERIOD.reset :)

theorem Dev.episodeCut_spec (d : Dev) (now : Nat) : (d.episodeCut now).hif = d.hif ∧ (d.episodeCut now).pwr.stage = d.pwr.stage ∧
    (d.episodeCut now).pwr.hostWaitTill = d.pwr.hostWaitTill ∧ (d.episodeCut now).rd PWR.VBAT_MV = d.rd PWR.VBAT_MV := by
  unfold Dev.episodeCut
  split
  · next e _ =>
    obtain ⟨hregs, -⟩ := d.closeEpisode_spec now e (e.lastUpd - e.start) true
    refine ⟨(congrArg Dev.hif hregs.1 :), (congrArg (fun x : Dev => x.pwr.stage) hregs.1 :), (congrArg (fun x : Dev => x.pwr.hostWaitTill) hregs.1 :),
      hregs.2 _ (by decide) (by decide) (by decide)⟩
  · exact ⟨rfl, rfl, rfl, rfl⟩

theorem Dev.unitsAfter_spec (d : Dev) (now : Nat) (por back : Bool) (hd : d.servesHosts) : (d.unitsAfter now por back).servesHosts ∧
    (d.unitsAfter now por back).pwr.hostWaitTill = d.pwr.hostWaitTill ∧ (d.unitsAfter now por back).rd PWR.VBAT_MV = d.rd PWR.VBAT_MV := by
  obtain ⟨hhif, hstage, hwait, hvbat⟩ := d.episodeCut_spec now
  unfold Dev.unitsAfter
  generalize d.episodeCut now = x at *
  have hx : x.servesHosts := ⟨(congrArg HifBlk.inService hhif :).trans hd.1, hstage.trans hd.2⟩
  have hmap : PwrTouch x (x.mapAfter now por) := Touches.ite (fun _ => Touches.refl x) (fun _ =>
    ((pwrTouch_selectStore x now).trans (pwrTouch_tilesCheck _ now)).trans (pwrTouch_fieldAfterReset _ now))
  have h := (hmap.trans (pwrTouch_unitsStart (x.mapAfter now por) now)).trans
    (Touches.opt (c := back = true) (pwrTouch_fire ((x.mapAfter now por).unitsStart now) now EVT.PWR_FW_ROLLBACK 0 0))
  exact ⟨Dev.servesHosts_of_powered h hx, (congrArg PwrBlk.hostWaitTill (PwrTouch.pwr h) :).trans hwait, (h.rd PWR.VBAT_MV).trans hvbat⟩

theorem Dev.bootRec_spec (d : Dev) : d.bootRec.servesHosts ∧ d.bootRec.rd PWR.BOOT_REC = 1 ∧ d.bootRec.pwr.outHold = .off :=
  ⟨⟨rfl, rfl⟩, Dev.rd_wr_self d.cntLoad PWR.BOOT_REC 1, rfl⟩

theorem kindle_effect (s : State) (el : Nat) (vbat va vb vc vd : BitVec 16) : Answers (.kindle el vbat va vb vc vd) s (fun now d e =>
      (d.pwr.st ≠ .kindle ∨ d.pwr.stage ≠ .kindle ∨ d.pwr.resetLow ≠ none → e = d) ∧
      (d.pwr.st = .kindle → d.pwr.stage = .kindle → d.pwr.resetLow = none →
        (d.pwr.wake = true →
          (vbat.toNat < 7000 → e.pwr = { d.pwr with paused := true } ∧ e.hif = d.hif) ∧
          (20300 ≤ vbat.toNat → e.servesHosts ∧ e.pwr.hostWaitTill = some (now + d.hostWait) ∧ e.rd PWR.VBAT_MV = vbat.toNat ∧
            (d.rd PWR.NOM_SYS = 1 → e.rd PWR.NOM_ACT = 1) ∧ (d.rd PWR.NOM_SYS = 2 → e.rd PWR.NOM_ACT = 2))) ∧
        (d.pwr.wake = false → d.pwr.outHold = .off ∨ d.cntAct = none →
          (d.fwChoose.2.2 = false → e.servesHosts ∧ e.rd PWR.BOOT_REC = 1 ∧ e.pwr.outHold = .off) ∧
          (d.fwChoose.2.2 = true → vbat.toNat < 7000 → e.pwr = { d.pwr with paused := true }) ∧
          (d.fwChoose.2.2 = true → 20300 ≤ vbat.toNat → e.servesHosts ∧ e.pwr.hostWaitTill ≠ none ∧ e.rd PWR.VBAT_MV = vbat.toNat)))) := by
  refine answers_of_forall (f := fun now d => d.kindle now vbat.toNat [va.toNat, vb.toNat, vc.toNat, vd.toNat]) rfl (fun now d =>
    ⟨fun h => if_pos ?_, fun hst hstage hreset => ⟨fun hw => ?_, fun hw hcnt => ?_⟩⟩)
  · simp only [Bool.or_eq_true, bne_iff_ne, Option.isSome_iff_ne_none]
    exact or_assoc.mpr h
  · generalize [va.toNat, vb.toNat, vc.toNat, vd.toNat] = vpwr
    rw [Dev.kindle_of_wake now _ vpwr hst hstage hreset hw]
    refine ⟨fun hlow => ?_, fun hhigh => ?_⟩
    · rw [if_pos (Dev.kindleLow_of_low hlow)]
      exact ⟨rfl, rfl⟩
    · rw [if_neg (Dev.not_kindleLow_of_high hhigh)]
      obtain ⟨hserves, hwait, hvbat, h1, h2⟩ := (d.wr PWR.NOM_ACT 0).served_spec now vpwr vbat.isLt
      have hsys : (d.wr PWR.NOM_ACT 0).rd PWR.NOM_SYS = d.rd PWR.NOM_SYS := Dev.rd_wr_ne d 0 (by decide)
      have hhost : (d.wr PWR.NOM_ACT 0).hostWait = d.hostWait := by rw [Dev.hostWait, Dev.rdH, Dev.rd_wr_ne d 0 (by decide), Dev.hostWait, Dev.rdH]
      generalize (d.wr PWR.NOM_ACT 0).served now vbat.toNat vpwr = x at *
      have h := pwrTouch_unitsWake x now
      generalize x.unitsWake now = e at *
      exact ⟨Dev.servesHosts_of_powered h hserves, (congrArg PwrBlk.hostWaitTill h.pwr :).trans (hwait.trans (congrArg (fun w => some (now + w)) hhost)),
        (h.rd PWR.VBAT_MV).trans hvbat, fun hn => (h.rd PWR.NOM_ACT).trans (h1 (hsys.trans hn)),
        fun hn => (h.rd PWR.NOM_ACT).trans (h2 (hsys.trans hn))⟩
  · generalize [va.toNat, vb.toNat, vc.toNat, vd.toNat] = vpwr
    rw [Dev.kindle_of_reset now _ vpwr hst hstage hreset hw, ← Dev.fwChoose_runs_congr (Dev.mram_kindleWalk now hcnt)]
    dsimp only
    generalize (d.kindleWalk now).fwChoose = fw
    refine ⟨fun hfw => ?_, fun hfw hlow => ?_, fun hfw hhigh => ?_⟩
    · rw [if_pos (by simp [hfw])]
      obtain ⟨hserves, hboot, hout⟩ := fw.1.bootRec_spec
      obtain ⟨h, -⟩ := fw.1.bootRec.diesOff_spec now
      generalize fw.1.bootRec = x at *
      exact ⟨Dev.servesHosts_of_powered h hserves, (h.rd PWR.BOOT_REC).trans hboot, (congrArg PwrBlk.outHold h.pwr :).trans hout⟩
    · rw [if_neg (by simp [hfw]), if_pos (Dev.kindleLow_of_low hlow)]
      rfl
    · rw [if_neg (by simp [hfw]), if_neg (Dev.not_kindleLow_of_high hhigh)]
      generalize (if (d.pwr.outHold == OutHold.off) = true then _ else _ : Dev) = y
      obtain ⟨hserves, hwait, hvbat, -⟩ := y.served_spec now vpwr vbat.isLt
      obtain ⟨hs, hw, hv⟩ := (y.served now vbat.toNat vpwr).unitsAfter_spec now (d.pwr.outHold == OutHold.off) fw.2.1 hserves
      exact ⟨hs, by rw [hw, hwait]; simp, hv.trans hvbat⟩

end Sys2Proof.Machine
end

section
/-! PROOFS. Relight (R516, R517), and the resets with KINDLE together. -/
namespace Sys2Proof.Machine

theorem pwrTouch_relightRate (d : Dev) (now : Nat) : PwrTouch d (d.relightRate now) := by
  unfold Dev.relightRate
  refine Touches.opt ?_
  extract_lets c
  refine Touches.ite (fun _ => Touches.of_regs rfl rfl) (fun _ => ?_)
  exact (Touches.wr d SYS.RATE_REFUSED 1 (by decide) (by rfl)).trans (pwrTouch_fire _ now EVT.SYS_RATE_REFUSED 0 0)

theorem pwrTouch_poseRelight (d : Dev) (now from_ : Nat) : PwrTouch d (d.poseRelight now from_) := by
  unfold Dev.poseRelight
  extract_lets keep _ x
  have hx : PwrTouch d x := Touches.of_regs rfl rfl
  clear_value x
  refine hx.trans (Touches.ite (fun _ => Touches.opt (Touches.of_regs rfl rfl)) (fun _ => Touches.of_regs rfl rfl))

theorem pwrTouch_adopt (d : Dev) (now : Nat) : PwrTouch d (d.adopt now) := by
  unfold Dev.adopt
  extract_lets b x off
  have hx : PwrTouch d x := by
    refine Touches.each _ _ (fun y c _ => ?_) d
    dsimp only
    split
    · exact Touches.opt (idcTouch_chStay y c _ b).powered
    · exact Touches.refl y
  clear_value x
  exact hx.trans (Touches.of_regs rfl rfl)

theorem pwrTouch_vnpResyncAll (d : Dev) : PwrTouch d d.vnpResyncAll := Touches.of_regs rfl rfl

/-- The register space in service again after a Relight. -/
def Dev.relit (d : Dev) (now : Nat) : Dev :=
  { d with hif := { d.hif with inService := true }, pwr := { d.pwr with stage := .none, relightEnd := some now } }

/-- The tick grid of a block that is lit again. -/
def Dev.gridRelit (d : Dev) (now : Nat) : Dev := (d.gridAdvance now).relightRate now

/-- The units of a block that is lit again, its tick grid advanced. -/
def Dev.unitsRelit (d : Dev) (now : Nat) : Dev :=
  ((((((((d.tilesCheck now).poseRelight now d.pwr.resetAt).adopt now).vnpResyncAll).calRestore).gridStart now).tpoStart now))

theorem pwrTouch_unitsRelit (d : Dev) (now : Nat) : PwrTouch d (d.unitsRelit now) := by
  have h2 := (pwrTouch_tilesCheck d now).trans (pwrTouch_poseRelight _ now d.pwr.resetAt)
  have h3 := fun x : Dev => (pwrTouch_adopt x now).trans (pwrTouch_vnpResyncAll _)
  have h4 := fun x : Dev => ((pwrTouch_calRestore x).trans (unitTouch_gridStart _ now).mode.powered).trans (pwrTouch_tpoStart _ now)
  exact (h2.trans (h3 _)).trans (h4 _)

/-- The watchdog and the pair of a block that is lit again. -/
def Dev.pairRelit (d : Dev) (now : Nat) (alone : Bool) : Dev :=
  let e := if d.on WDG.WDG_ARMED then d.newChallenge.wdgWindow now true else d
  if e.pair.en then e.pairStart now alone else e

theorem pwrTouch_pairRelit (d : Dev) (now : Nat) (alone : Bool) : PwrTouch d (d.pairRelit now alone) :=
  Touches.trans (Touches.opt (pwrTouch_newWindow d now)) (Touches.opt (pwrTouch_pairStart _ now alone))

/-- Whether a Relight fails. -/
def Dev.relightFails (d : Dev) (now : Nat) (checks readback : Bool) : Prop :=
  checks = false ∨ readback = false ∨ d.pwr.relightFrom + ms 50 < now

theorem Dev.relight_of_fails {d : Dev} {now : Nat} {checks readback : Bool} (hst : d.pwr.stage = .relight) (hlow : d.pwr.resetLow = none)
    (h : d.relightFails now checks readback) : d.relight now checks readback = (d.bump PWR.RELIGHT_FAIL).systemReset now 3 false := by
  unfold Dev.relight
  rw [if_neg (by simp [hst, hlow])]
  refine if_pos ?_
  simp only [Bool.or_eq_true, Bool.not_eq_true', decide_eq_true_eq]
  exact or_assoc.mpr h

theorem Dev.relight_of_passes {d : Dev} {now : Nat} (hst : d.pwr.stage = .relight) (hlow : d.pwr.resetLow = none)
    (h : now ≤ d.pwr.relightFrom + ms 50) :
    d.relight now true true = ((((((d.relit now).gridRelit now).unitsRelit now).pairRelit now (d.pair.en && d.pair.st == .alone && !d.pair.heard)).bump
      PWR.RELIGHT_CNT).fire now EVT.PWR_RELIGHT 0 0).resetRecord now := by
  unfold Dev.relight
  rw [if_neg (by simp [hst, hlow]), if_neg (by simp [Nat.not_lt.mpr h])]
  extract_lets alone _ _ x y z w v u r
  have hx : d.relit now = x := rfl
  clear_value x
  have hy : x.gridRelit now = y := rfl
  clear_value y
  have hz : (y.tilesCheck now).poseRelight now y.pwr.resetAt = z := rfl
  clear_value z
  have hw : (z.adopt now).vnpResyncAll = w := rfl
  clear_value w
  have hv : (w.calRestore.gridStart now).tpoStart now = v := rfl
  clear_value v
  have hr : v.pairRelit now alone = r := rfl
  rw [hx, hy, Dev.unitsRelit, hz, hw, hv, hr]

/-- What follows a Relight that passed: its count, its event and its record. -/
theorem Dev.relightNoted_spec (d : Dev) (now : Nat) : let e := ((d.bump PWR.RELIGHT_CNT).fire now EVT.PWR_RELIGHT 0 0).resetRecord now
    e.pwr = d.pwr ∧ e.hif = d.hif ∧ e.raised EVT.PWR_RELIGHT 0 = true ∧ e.rd PWR.RELIGHT_CNT = counted d PWR.RELIGHT_CNT := by
  have hx : (d.bump PWR.RELIGHT_CNT).pwr = d.pwr ∧ (d.bump PWR.RELIGHT_CNT).hif = d.hif ∧ (d.bump PWR.RELIGHT_CNT).rd PWR.RELIGHT_CNT = counted d PWR.RELIGHT_CNT :=
    ⟨rfl, rfl, Dev.rd_bump_self d PWR.RELIGHT_CNT⟩
  obtain ⟨hpwr, hhif, hcnt⟩ := hx
  generalize d.bump PWR.RELIGHT_CNT = x at *
  have hfire := pwrTouch_fire x now EVT.PWR_RELIGHT 0 0
  have hraised : (x.fire now EVT.PWR_RELIGHT 0 0).raised EVT.PWR_RELIGHT 0 = true := Dev.raised_fire _ _ _ _ _ (by omega) (by decide)
  have hrd := Dev.rd_fire_of x now EVT.PWR_RELIGHT 0 0 (g := PWR.RELIGHT_CNT) (by decide) (by decide)
  generalize x.fire now EVT.PWR_RELIGHT 0 0 = y at *
  have hq : Quiet y (y.resetRecord now) := stageFree_quiet _ _ _ _ _ _
  have hraw : RawKept y (y.resetRecord now) := stageFree_rawKept _ _ _ _ _ _
  intro e
  refine ⟨(congrArg Dev.pwr hq.1 :).trans (hfire.pwr.trans hpwr), (congrArg Dev.hif hq.1 :).trans (hfire.hif.trans hhif),
    hraw.raised (by decide) hraised, (hq.rd PWR.RELIGHT_CNT ?_).trans (hrd.trans hcnt)⟩
  exact PWR.RELIGHT_CNT.not_evtKey_of_ofEvents_eq_false (by decide) (by decide)

theorem relight_effect (s : State) (el : Nat) (checks readback : Bool) : Answers (.relight el checks readback) s (fun now d e =>
      (d.pwr.stage ≠ .relight ∨ d.pwr.resetLow ≠ none → e = d) ∧
      (d.pwr.stage = .relight → d.pwr.resetLow = none →
        (checks = false ∨ readback = false ∨ d.pwr.relightFrom + ms 50 < now → d.pwr.st ≠ .off →
          SysRst 3 false d e ∧ e.rd PWR.RELIGHT_FAIL = counted d PWR.RELIGHT_FAIL) ∧
        (checks = true → readback = true → now ≤ d.pwr.relightFrom + ms 50 → e.raised EVT.PWR_RELIGHT 0 = true ∧
          e.rd PWR.RELIGHT_CNT = counted d PWR.RELIGHT_CNT ∧ e.servesHosts ∧ e.pwr.relightEnd = some now ∧ e.pwr.st = d.pwr.st))) := by
  refine answers_of_forall (f := fun now d => d.relight now checks readback) rfl (fun now d => ⟨fun h => if_pos ?_, fun hst hlow => ⟨fun hf hoff => ?_,
    fun hc hr hin => ?_⟩⟩)
  · simpa [Option.isSome_iff_ne_none] using h
  · rw [Dev.relight_of_fails hst hlow hf]
    obtain ⟨hrst, hfail, -⟩ := d.relightFails_spec now hoff
    exact ⟨hrst, hfail⟩
  · subst hc hr
    rw [Dev.relight_of_passes hst hlow hin]
    have hserves : (d.relit now).servesHosts := ⟨rfl, rfl⟩
    have hend : (d.relit now).pwr.relightEnd = some now := rfl
    have hstate : (d.relit now).pwr.st = d.pwr.st := rfl
    have hcnt : (d.relit now).rd PWR.RELIGHT_CNT = d.rd PWR.RELIGHT_CNT := rfl
    generalize d.relit now = x at *
    have hx := (((gridTouch_gridAdvance x now).powered.trans (pwrTouch_relightRate _ now)).trans (pwrTouch_unitsRelit (x.gridRelit now) now)).trans
      (pwrTouch_pairRelit _ now (d.pair.en && d.pair.st == .alone && !d.pair.heard))
    generalize ((x.gridRelit now).unitsRelit now).pairRelit now _ = y at *
    obtain ⟨hpwr, hhif, hraised, hcounted⟩ := y.relightNoted_spec now
    generalize ((y.bump PWR.RELIGHT_CNT).fire now EVT.PWR_RELIGHT 0 0).resetRecord now = e at *
    have hpwr := hpwr.trans (PwrTouch.pwr hx)
    refine ⟨hraised, hcounted.trans ?_, ⟨(congrArg HifBlk.inService (hhif.trans (PwrTouch.hif hx)) :).trans hserves.1,
      (congrArg PwrBlk.stage hpwr :).trans hserves.2⟩, (congrArg PwrBlk.relightEnd hpwr :).trans hend, (congrArg PwrBlk.st hpwr :).trans hstate⟩
    rw [counted, hx.rd PWR.RELIGHT_CNT, hcnt, counted]

/-- Settles O54: each kind of reset ends what it ends through the rule of its own stage, and KINDLE and Relight bring the register space back. -/
theorem resetsKindleAndRelight : Obligations.ResetsKindleAndRelight := by
  unfold Obligations.ResetsKindleAndRelight
  exact fun s el => ⟨fun mv held => ⟨vbatStart_effect s el mv held, powerOnReset_effect s el mv held⟩, kindle_effect s el, resetNFall_effect s el,
    resetNLong_effect s el, resetNRise_effect s el, systemReset_effect s el, logicDieReset_effect s el, relight_effect s el⟩

end Sys2Proof.Machine
end

section
/-! PROOFS. Two fields of one word that are written through the shadow registers have different places (R19, R455). -/
namespace Sys2Proof.Machine

/-- Whether each field's key lies beyond the key before it. -/
def keysRise : List Field → Bool
  | f :: g :: t => decide (f.key < g.key) && keysRise (g :: t)
  | _ => true

/-- The fields written through the shadow registers. -/
def rwsOf (fs : List Field) : List Field := fs.filter (fun f => f.acc == .rws)

/-- At address `a`, no two fields written through the shadow registers have the same lowest bit. -/
def OneRws (a : Nat) (fs : List Field) : Prop :=
  ∀ f ∈ fs, ∀ g ∈ fs, f.acc = .rws → g.acc = .rws → f.addr = a → g.addr = a → f.lo = g.lo → f = g

theorem key_lt_of_keysRise {f : Field} {t : List Field} (h : keysRise (f :: t) = true) : ∀ g ∈ t, f.key < g.key := by
  induction t generalizing f with
  | nil => exact fun g hg => absurd hg (by simp)
  | cons x t ih =>
    rw [keysRise, Bool.and_eq_true, decide_eq_true_eq] at h
    obtain ⟨hlt, hrise⟩ := h
    intro g hg
    rcases List.mem_cons.mp hg with rfl | hg
    · exact hlt
    · exact hlt.trans (ih hrise g hg)

theorem keysRise_tail {f : Field} {t : List Field} (h : keysRise (f :: t) = true) : keysRise t = true := by
  cases t with
  | nil => rfl
  | cons x t => exact (Bool.and_eq_true_iff.mp h).2

theorem eq_of_keysRise {fs : List Field} (h : keysRise fs = true) {f g : Field} (hf : f ∈ fs) (hg : g ∈ fs) (hkey : f.key = g.key) : f = g := by
  induction fs with
  | nil => exact absurd hf (by simp)
  | cons x t ih =>
    have hlt := key_lt_of_keysRise h
    rcases List.mem_cons.mp hf with rfl | hft <;> rcases List.mem_cons.mp hg with rfl | hgt
    · rfl
    · exact absurd hkey (hlt g hgt).ne
    · exact absurd hkey (hlt f hft).ne'
    · exact ih (keysRise_tail h) hft hgt

section
variable {a : Nat} {fs gs : List Field}

theorem OneRws.of_rise (h : keysRise (rwsOf fs) = true) : OneRws a fs := fun f hf g hg hfa hga hf' hg' hlo =>
  eq_of_keysRise h (List.mem_filter.mpr ⟨hf, by simp [hfa]⟩) (List.mem_filter.mpr ⟨hg, by simp [hga]⟩) (by rw [Field.key, Field.key, hf', hg', hlo])

theorem OneRws.nil : OneRws a [] := fun _ hf => absurd hf (by simp)

theorem OneRws.append (hf : OneRws a fs) (hg : OneRws a gs) (hsep : ∀ f ∈ fs, f.acc = .rws → f.addr = a → ∀ g ∈ gs, g.acc = .rws → g.addr ≠ a) :
    OneRws a (fs ++ gs) := by
  intro x hx y hy hxa hya hxd hyd hlo
  rcases List.mem_append.mp hx with hx | hx <;> rcases List.mem_append.mp hy with hy | hy
  · exact hf x hx y hy hxa hya hxd hyd hlo
  · exact absurd hyd (hsep x hx hxa hxd y hy hya)
  · exact absurd hxd (hsep y hy hya hyd x hx hxa)
  · exact hg x hx y hy hxa hya hxd hyd hlo

theorem not_rws_of_rwsOf_nil (h : rwsOf fs = []) {f : Field} (hf : f ∈ fs) : f.acc ≠ .rws := fun hacc =>
  List.not_mem_nil (h ▸ List.mem_filter.mpr ⟨hf, by simp [hacc]⟩ : f ∈ ([] : List Field))

/-- Fields with another way of writing add nothing. -/
theorem OneRws.append_others (hf : OneRws a fs) (hg : rwsOf gs = []) : OneRws a (fs ++ gs) :=
  hf.append (OneRws.of_rise (by rw [hg]; rfl)) (fun _ _ _ _ _ hy hya => absurd hya (not_rws_of_rwsOf_nil hg hy))

/-- The fields written through the shadow registers lie where `c` does not hold of their place in the page. -/
def rwsClear (c : Nat → Bool) (fs : List Field) : Bool := (rwsOf fs).all (fun f => !c (f.addr % 0x1000))

end

/-! ### The pages without shadow registers, and the header -/

theorem oneRws_header (a b o : Nat) : OneRws a (HDR.cands b o) := OneRws.of_rise (by rfl)

theorem rwsOf_pwr (o : Nat) : rwsOf (PWR.cands o) = [] := rfl

theorem rwsOf_evh (o : Nat) : rwsOf (EVH.cands o) = [] := by
  unfold EVH.cands
  split_ifs <;> rfl

theorem rwsOf_wdg (o : Nat) : rwsOf (WDG.cands o) = [] := by
  unfold WDG.cands
  split_ifs <;> rfl

theorem rwsOf_rec (o : Nat) : rwsOf (REC.cands o) = [] := by
  unfold REC.cands
  split_ifs <;> rfl

theorem rwsOf_cnt (o : Nat) : rwsOf (CNT.cands o) = [] := by
  unfold CNT.cands
  split_ifs <;> rfl

theorem rwsOf_tst (o : Nat) : rwsOf (TST.cands o) = [] := by
  unfold TST.cands
  split_ifs <;> rfl

theorem rwsOf_geop (o : Nat) : rwsOf (GEOP.cands o) = [] := rfl

theorem rwsOf_tpl (o : Nat) : rwsOf (TPL.cands o) = [] := rfl

theorem rwsOf_gnss (o : Nat) : rwsOf (GNSS.cands o) = [] := by
  unfold GNSS.cands
  split_ifs <;> rfl

theorem rwsOf_time (o : Nat) : rwsOf (TIME.cands o) = [] := rfl

theorem rwsOf_pwm (o : Nat) : rwsOf (PWM.cands o) = [] := by
  unfold PWM.cands
  split_ifs <;> rfl

theorem rwsOf_trip (o : Nat) : rwsOf (TRIP.cands o) = [] := by
  unfold TRIP.cands
  split_ifs <;> rfl

theorem rwsOf_gin (o : Nat) : rwsOf (GIN.cands o) = [] := by
  unfold GIN.cands
  split_ifs <;> rfl

theorem rwsOf_ksp (n o : Nat) : rwsOf (KSP.cands n o) = [] := by
  unfold KSP.cands
  split_ifs <;> rfl

theorem rwsOf_pair (o : Nat) : rwsOf (PAIR.cands o) = [] := rfl

theorem rwsOf_crc (n o : Nat) : rwsOf (CRC.cands n o) = [] := rfl

theorem rwsOf_hif (o : Nat) : rwsOf (HIF.cands o) = [] := rfl

end Sys2Proof.Machine
end

section
/-! PROOFS. The pages and tables with shadow registers: each field has a place of its own in its word (R19, R455). -/
namespace Sys2Proof.Machine

section
variable {a : Nat} {fs gs : List Field} {c k : Bool}

/-- At address `a`, the fields written through the shadow registers lie where `c` is false. -/
def RwsClear (a : Nat) (c : Bool) (fs : List Field) : Prop := ∀ f ∈ fs, f.acc = .rws → f.addr = a → c = false

theorem RwsClear.of_all {p : Nat → Bool} (h : rwsClear p fs = true) : RwsClear a (p (a % 0x1000)) fs := fun x hx hxa hxd => by
  have h := List.all_eq_true.mp h x (List.mem_filter.mpr ⟨hx, by simp [hxa]⟩)
  rw [hxd] at h
  simpa using h

theorem RwsClear.part (hf : RwsClear a c fs) (hk : k = true → c = false) : RwsClear a c (fs ++ if k then gs else []) := by
  intro x hx hxa hxd
  rcases List.mem_append.mp hx with hx | hx
  · exact hf x hx hxa hxd
  · split at hx
    · next h => exact hk h
    · exact absurd hx (by simp)

theorem OneRws.part (hf : OneRws a fs) (hclear : RwsClear a c fs) (hg : c = true → OneRws a gs) : OneRws a (fs ++ if c then gs else []) := by
  by_cases hc : c = true
  · rw [if_pos hc]
    exact hf.append (hg hc) (fun x hx hxa hxd => absurd (hclear x hx hxa hxd) (by simp [hc]))
  · rw [if_neg hc, List.append_nil]
    exact hf

theorem OneRws.ite (hf : c = true → OneRws a fs) : OneRws a (if c then fs else []) := by
  split
  · next h => exact hf h
  · exact OneRws.nil

theorem rwsOf_ite (h : rwsOf gs = []) : rwsOf (if c then gs else []) = [] := by
  split
  · exact h
  · rfl

end

/-- Whether offset `o` lies from `l` up to `h`. -/
abbrev inPart (l h o : Nat) : Bool := decide (l ≤ o) && decide (o < h)

theorem inPart_iff {l h o : Nat} : inPart l h o = true ↔ l ≤ o ∧ o < h := by simp [inPart]

theorem inPart_exclusive {l h l' h' o : Nat} (hsep : h ≤ l' ∨ h' ≤ l) (hin : inPart l h o = true) : inPart l' h' o = false := by
  rw [inPart_iff] at hin
  refine Bool.eq_false_iff.mpr fun h => ?_
  rw [inPart_iff] at h
  omega

/-! ### Pages with one list of fields -/

theorem oneRws_sys (a o : Nat) : OneRws a (SYS.cands o) := (OneRws.of_rise (by decide)).append_others (rwsOf_ite rfl)

theorem oneRws_cov (a o : Nat) : OneRws a (COV.cands o) := OneRws.of_rise (show keysRise (rwsOf (COV.cands 0)) = true by decide)

theorem oneRws_geo (a : Nat) {n : Nat} (hn : n < 8) (o : Nat) : OneRws a (GEO.cands n o) :=
  OneRws.of_rise ((by decide : ∀ n, n < 8 → keysRise (rwsOf (GEO.cands n 0)) = true) n hn)

theorem oneRws_pose (a o : Nat) : OneRws a (POSE.cands o) := (OneRws.of_rise (by decide)).append_others (rwsOf_ite rfl)

theorem oneRws_cam (a : Nat) {s : Nat} (hs : s < 16) (o : Nat) : OneRws a (CAM.cands s o) :=
  OneRws.of_rise ((by decide : ∀ s, s < 16 → keysRise (rwsOf (CAM.cands s 0)) = true) s hs)

theorem oneRws_cal (a o : Nat) : OneRws a (CAL.cands o) := (OneRws.of_rise (by decide)).append_others (rwsOf_ite rfl)

theorem oneRws_idg (a : Nat) {g : Nat} (hg : g < 8) (o : Nat) : OneRws a (IDG.cands g o) :=
  (OneRws.of_rise (by clear * - hg; decide +revert)).append_others (rwsOf_ite rfl)

theorem oneRws_idc (a : Nat) {c : Nat} (hc : c < 32) (o : Nat) : OneRws a (IDC.cands c o) :=
  OneRws.of_rise ((by decide : ∀ c, c < 32 → keysRise (rwsOf (IDC.cands c 0)) = true) c hc)

theorem oneRws_lsb (a o : Nat) : OneRws a (LSB.cands o) := OneRws.of_rise (by rfl)

theorem oneRws_lsw (a : Nat) {n : Nat} (hn : n < 16) (o : Nat) : OneRws a (LSW.cands n o) :=
  OneRws.of_rise ((by decide : ∀ n, n < 16 → keysRise (rwsOf (LSW.cands n 0)) = true) n hn)

theorem oneRws_fbk (a : Nat) {n : Nat} (hn : n < 8) (o : Nat) : OneRws a (FBK.cands n o) :=
  OneRws.of_rise ((by decide : ∀ n, n < 8 → keysRise (rwsOf (FBK.cands n 0)) = true) n hn)

theorem oneRws_pd (a n o : Nat) : OneRws a (PD.cands n o) := by
  refine OneRws.of_rise ?_
  rw [show rwsOf (PD.cands n o) = PD.cands n o from rfl]
  simp only [PD.cands, keysRise, Bool.and_true, Bool.and_eq_true, decide_eq_true_eq]
  simp only [Field.key, PD.VALID, PD.KIND, PD.SEG, PD.PRODUCT, PD.SECTION, PD.SECT_EN,
    PD.PAINT_SOURCE, PD.BIND_KIND, PD.LOCAL_CH, PD.BUS, PD.NODE, PD.NODE_PT, PD.OFS_X, PD.OFS_Y, PD.OFS_Z, PD.FOOT_W, PD.FOOT_L, PD.FOOT_DX, PD.FOOT_DY,
    PD.LAT_ON_DEF, PD.LAT_OFF_DEF, PD.TRANSPORT_DELAY, PD.PROFILE, PD.NOZZLE_TBL]
  omega

/-! ### Pages with parts -/

theorem oneRws_dec (a : Nat) : OneRws a (DEC.cands (a % 0x1000)) := by
  refine OneRws.part (OneRws.append_others (OneRws.part (OneRws.part (OneRws.part (OneRws.part (OneRws.of_rise (by decide)) ?_ fun h => OneRws.of_rise ?_) ?_
    fun h => OneRws.of_rise ?_) ?_ fun _ => OneRws.of_rise (by rfl)) ?_ fun _ => OneRws.of_rise (by rfl)) (rwsOf_ite rfl)) ?_ fun _ =>
    OneRws.of_rise (by rfl)
  · exact RwsClear.of_all (p := inPart 0x80 0x100) (by decide)
  · rw [inPart_iff] at h
    have hi : (a % 0x1000 - 0x80) / 0x10 < 8 := by omega
    generalize (a % 0x1000 - 0x80) / 0x10 = i at *
    clear * - hi
    decide +revert
  · exact (RwsClear.of_all (p := inPart 0x200 0x400) (by decide)).part (inPart_exclusive (by decide))
  · rw [inPart_iff] at h
    have hi : (a % 0x1000 - 0x200) / 0x4 < 128 := by omega
    generalize (a % 0x1000 - 0x200) / 0x4 = i at *
    clear * - hi
    decide +revert
  · exact ((RwsClear.of_all (p := inPart 0x400 0x410) (by decide)).part (inPart_exclusive (by decide))).part (inPart_exclusive (by decide))
  · exact (((RwsClear.of_all (p := inPart 0x410 0x420) (by decide)).part (inPart_exclusive (by decide))).part (inPart_exclusive (by decide))).part
      (inPart_exclusive (by decide))
  · exact (((((RwsClear.of_all (p := inPart 0x500 0x600) (by decide)).part (inPart_exclusive (by decide))).part (inPart_exclusive (by decide))).part
      (inPart_exclusive (by decide))).part (inPart_exclusive (by decide))).part (inPart_exclusive (by decide))

theorem oneRws_nz (a t : Nat) : OneRws a (NZ.cands t (a % 0x80)) := by
  refine OneRws.part (OneRws.of_rise ?_) (fun f hf _ hfd => ?_) (fun h => OneRws.of_rise ?_)
  · rw [show rwsOf [NZ.NPTS t, NZ.DUTY_MIN t] = [NZ.NPTS t, NZ.DUTY_MIN t] from rfl]
    simp only [keysRise, Bool.and_true, decide_eq_true_eq]
    simp only [Field.key, NZ.NPTS, NZ.DUTY_MIN]
    omega
  · have hin : f.addr = 0x402000 + 0x80 * t := by
      simp only [List.mem_cons, List.not_mem_nil, or_false] at hf
      rcases hf with rfl | rfl <;> rfl
    refine Bool.eq_false_iff.mpr fun h => ?_
    rw [inPart_iff] at h
    omega
  · generalize (a % 0x80 - 0x8) / 0x8 = i
    rw [show rwsOf [NZ.P t i, NZ.Q_FULL t i] = [NZ.P t i, NZ.Q_FULL t i] from rfl]
    simp only [keysRise, Bool.and_true, decide_eq_true_eq]
    simp only [Field.key, NZ.P, NZ.Q_FULL]
    omega

theorem oneRws_rate (a : Nat) : OneRws a (RATE.cands (a % 0x1000)) := by
  refine OneRws.append_others (OneRws.part (OneRws.of_rise (by decide)) (RwsClear.of_all (p := inPart 0x80 0x280) (by decide)) (fun h => OneRws.of_rise ?_)) (rwsOf_ite rfl)
  rw [inPart_iff] at h
  have hi : (a % 0x1000 - 0x80) / 0x40 < 8 := by omega
  generalize (a % 0x1000 - 0x80) / 0x40 = i at *
  clear * - hi
  decide +revert

theorem oneRws_grid (a : Nat) : OneRws a (GRID.cands (a % 0x1000)) := by
  refine OneRws.part (OneRws.part (OneRws.of_rise (by decide)) (RwsClear.of_all (p := inPart 0x80 0xc0) (by decide)) (fun h => OneRws.of_rise ?_))
    (RwsClear.part (RwsClear.of_all (p := inPart 0x100 0x200) (by decide)) (inPart_exclusive (by decide))) (fun h => OneRws.of_rise ?_)
  · rw [inPart_iff] at h
    have hi : (a % 0x1000 - 0x80) / 0x8 < 8 := by omega
    generalize (a % 0x1000 - 0x80) / 0x8 = i at *
    clear * - hi
    decide +revert
  · rw [inPart_iff] at h
    have hi : (a % 0x1000 - 0x100) / 0x10 < 16 := by omega
    generalize (a % 0x1000 - 0x100) / 0x10 = i at *
    clear * - hi
    decide +revert

end Sys2Proof.Machine
end

section
/-! PROOFS. Every word of the register space: two of its fields written through the shadow registers have different places (R19, R455). -/
namespace Sys2Proof.Machine

theorem rwsOf_append_part {fs gs : List Field} {c : Bool} (h : rwsOf gs = []) : rwsOf (fs ++ if c then gs else []) = rwsOf fs := by
  rw [rwsOf, List.filter_append]
  exact (congrArg (rwsOf fs ++ ·) (rwsOf_ite h)).trans (List.append_nil _)

/-- Fields from offset `l` on, after fields below it. -/
theorem OneRws.append_from {a l : Nat} {fs gs : List Field} (hf : OneRws a fs) (hg : OneRws a gs)
    (hlow : (rwsOf fs).all (fun f => decide (f.addr % 0x1000 < l)) = true) (hhigh : (rwsOf gs).all (fun f => decide (l ≤ f.addr % 0x1000)) = true) :
    OneRws a (fs ++ gs) := by
  refine hf.append hg (fun f hfm hfa hfd g hgm hga hgd => ?_)
  have h1 := List.all_eq_true.mp hlow f (List.mem_filter.mpr ⟨hfm, by simp [hfa]⟩)
  have h2 := List.all_eq_true.mp hhigh g (List.mem_filter.mpr ⟨hgm, by simp [hga]⟩)
  rw [decide_eq_true_eq, hfd] at h1
  rw [decide_eq_true_eq, hgd] at h2
  omega

/-! ### The buses -/

theorem rwsOf_can (n o : Nat) : rwsOf (CAN.cands n o) = rwsOf (CAN.cands n 0) := (rwsOf_append_part rfl).trans (rwsOf_append_part rfl).symm

theorem oneRws_can (a : Nat) {n : Nat} (hn : n < 6) (o : Nat) : OneRws a (CAN.cands n o) := by
  refine OneRws.of_rise ?_
  rw [rwsOf_can]
  exact (by decide : ∀ n, n < 6 → keysRise (rwsOf (CAN.cands n 0)) = true) n hn

theorem can_below (n o : Nat) (hn : n < 6) : (rwsOf (CAN.cands n o)).all (fun f => decide (f.addr % 0x1000 < 0x80)) = true := by
  rw [rwsOf_can]
  exact (by decide : ∀ n, n < 6 → (rwsOf (CAN.cands n 0)).all (fun f => decide (f.addr % 0x1000 < 0x80)) = true) n hn

theorem oneRws_canIso (a : Nat) {n : Nat} (hn : n < 6) (o : Nat) : OneRws a (CAN.cands n o ++ ISO.cands n o) :=
  (oneRws_can a hn o).append_from (l := 0x80)
    (OneRws.of_rise ((by decide : ∀ n, n < 6 → keysRise (rwsOf (ISO.cands n 0)) = true) n hn)) (can_below n o hn)
    ((by decide : ∀ n, n < 6 → (rwsOf (ISO.cands n 0)).all (fun f => decide (0x80 ≤ f.addr % 0x1000)) = true) n hn)

theorem oneRws_canVnp (a : Nat) {n : Nat} (hn : n < 6) (o : Nat) : OneRws a (CAN.cands n o ++ VNP.cands n o) :=
  (oneRws_can a hn o).append_from (l := 0x80)
    (OneRws.of_rise ((by decide : ∀ n, n < 6 → keysRise (rwsOf (VNP.cands n 0)) = true) n hn)) (can_below n o hn)
    ((by decide : ∀ n, n < 6 → (rwsOf (VNP.cands n 0)).all (fun f => decide (0x80 ≤ f.addr % 0x1000)) = true) n hn)

/-! ### The pages of the actuators and the sensor ports -/

theorem oneRws_idgIdc (a : Nat) {g : Nat} (hg : g < 8) :
    OneRws a (IDG.cands g (a % 0x1000) ++ if inPart 0x100 0x200 (a % 0x1000) then IDC.cands (4 * g + (a % 0x1000 - 0x100) / 0x40) (a % 0x1000) else []) := by
  refine (oneRws_idg a hg _).part ?_ fun h => ?_
  · refine RwsClear.part (RwsClear.of_all (p := inPart 0x100 0x200) ?_) (inPart_exclusive (by decide))
    clear * - hg
    decide +revert
  · rw [inPart_iff] at h
    exact oneRws_idc a (by omega) _

theorem oneRws_lsbLsw (a b : Nat) {g : Nat} (hg : g < 2) : OneRws a ((if b = 0x048000 then LSB.cands (a % 0x1000) else []) ++
    if inPart 0x100 0x300 (a % 0x1000) then LSW.cands (8 * g + (a % 0x1000 - 0x100) / 0x40) (a % 0x1000) else []) := by
  refine OneRws.part ?_ ?_ fun h => ?_
  · split
    · exact oneRws_lsb a _
    · exact OneRws.nil
  · split
    · exact RwsClear.of_all (p := inPart 0x100 0x300) (by rfl)
    · exact fun f hf => absurd hf (by simp)
  · rw [inPart_iff] at h
    exact oneRws_lsw a (by omega) _

theorem oneRws_ssp (a : Nat) : OneRws a (if inPart 0x100 0x300 (a % 0x1000) then
    SSP.cands ((a % 0x1000 - 0x100) / 0x80) ((a % 0x1000 - 0x100) % 0x80) else []) := by
  refine OneRws.ite fun h => ?_
  rw [inPart_iff] at h
  have hn : (a % 0x1000 - 0x100) / 0x80 < 4 := by omega
  generalize (a % 0x1000 - 0x100) / 0x80 = n at hn
  refine OneRws.part (OneRws.of_rise ?_) (RwsClear.of_all (p := fun o => inPart 0x10 0x48 ((o - 0x100) % 0x80)) ?_) fun h => OneRws.of_rise ?_
  · clear * - hn
    decide +revert
  · clear * - hn
    decide +revert
  · rw [inPart_iff] at h
    have hi : ((a % 0x1000 - 0x100) % 0x80 - 0x10) / 0x8 < 7 := by omega
    generalize ((a % 0x1000 - 0x100) % 0x80 - 0x10) / 0x8 = i at hi
    clear * - hn hi
    decide +revert

/-! ### The tables -/

theorem oneRws_rt (a p o : Nat) : OneRws a (RT.cands p o) := by
  unfold RT.cands
  rw [List.nil_append]
  split
  · exact OneRws.of_rise (by rfl)
  · exact OneRws.nil

theorem oneRws_profile (a : Nat) {k : Nat} (hk : k < 16) : OneRws a (PRF.cands k (a % 0x80) ++ PHS.cands k (a % 0x80)) := by
  have hmod : a % 0x80 = a % 0x1000 % 0x80 := (Nat.mod_mod_of_dvd a (by decide)).symm
  unfold PHS.cands
  rw [List.nil_append, hmod]
  refine OneRws.part (OneRws.of_rise ((by decide : ∀ k, k < 16 → keysRise (rwsOf (PRF.cands k 0)) = true) k hk))
    (RwsClear.of_all (p := fun o => inPart 0x10 0x50 (o % 0x80))
      ((by decide : ∀ k, k < 16 → rwsClear (fun o => inPart 0x10 0x50 (o % 0x80)) (PRF.cands k 0) = true) k hk)) fun h => OneRws.of_rise ?_
  rw [inPart_iff] at h
  have hi : (a % 0x1000 % 0x80 - 0x10) / 0x8 < 8 := by omega
  generalize (a % 0x1000 % 0x80 - 0x10) / 0x8 = i at hi
  clear * - hk hi
  decide +revert

theorem oneRws_node (a b n : Nat) : OneRws a [NODE.UID_LO b n, NODE.UID_HI b n] := by
  refine OneRws.of_rise ?_
  rw [show rwsOf [NODE.UID_LO b n, NODE.UID_HI b n] = [NODE.UID_LO b n, NODE.UID_HI b n] from rfl]
  simp only [keysRise, Bool.and_true, decide_eq_true_eq]
  simp only [Field.key, NODE.UID_LO, NODE.UID_HI]
  omega

theorem oneRws_tableCands (a : Nat) : OneRws a (tableCands a) := by
  unfold tableCands
  split
  · exact oneRws_pd a _ _
  split
  · exact oneRws_rt a _ _
  split
  · exact oneRws_nz a _
  split
  · exact OneRws.nil
  split
  · exact oneRws_profile a (by omega)
  split
  · exact OneRws.nil
  split
  · exact oneRws_cam a (by omega) _
  split
  · exact OneRws.nil
  split
  · exact oneRws_node a _ _
  · exact OneRws.nil

/-! ### The pages -/

theorem OneRws.others {a : Nat} {fs : List Field} (h : rwsOf fs = []) : OneRws a fs := OneRws.of_rise (by rw [h]; rfl)

theorem oneRws_systemPages (a b : Nat) : OneRws a (if b = 0x000000 then SYS.cands (a % 0x1000) else if b = 0x001000 then PWR.cands (a % 0x1000)
    else if b = 0x002000 then EVH.cands (a % 0x1000) else if b = 0x003000 then WDG.cands (a % 0x1000) else if b = 0x004000 then REC.cands (a % 0x1000)
    else if b = 0x005000 then CNT.cands (a % 0x1000) else if b = 0x006000 then TST.cands (a % 0x1000) else []) := by
  repeat' split
  · exact oneRws_sys a _
  · exact OneRws.others (rwsOf_pwr _)
  · exact OneRws.others (rwsOf_evh _)
  · exact OneRws.others (rwsOf_wdg _)
  · exact OneRws.others (rwsOf_rec _)
  · exact OneRws.others (rwsOf_cnt _)
  · exact OneRws.others (rwsOf_tst _)
  · exact OneRws.nil

theorem OneRws.cases {a : Nat} {c : Prop} [Decidable c] {fs gs : List Field} (hf : c → OneRws a fs) (hg : ¬c → OneRws a gs) :
    OneRws a (if c then fs else gs) := by
  split
  · exact hf ‹_›
  · exact hg ‹_›

theorem oneRws_fieldPages (a b : Nat) : OneRws a (if b = 0x030000 then COV.cands (a % 0x1000) else if b = 0x031000 then TPL.cands (a % 0x1000)
    else if b = 0x032000 then DEC.cands (a % 0x1000) else if b = 0x033000 then RATE.cands (a % 0x1000) else if b = 0x034000 then POSE.cands (a % 0x1000)
    else if b = 0x035000 then GNSS.cands (a % 0x1000) else if b = 0x036000 then TIME.cands (a % 0x1000)
    else if b = 0x037000 then (if inPart 0x100 0x300 (a % 0x1000) then SSP.cands ((a % 0x1000 - 0x100) / 0x80) ((a % 0x1000 - 0x100) % 0x80) else [])
    else if b = 0x038000 then GRID.cands (a % 0x1000) else if b = 0x039000 then CAL.cands (a % 0x1000) else []) :=
  .cases (fun _ => oneRws_cov a _) fun _ => .cases (fun _ => .others (rwsOf_tpl _)) fun _ => .cases (fun _ => oneRws_dec a) fun _ =>
  .cases (fun _ => oneRws_rate a) fun _ => .cases (fun _ => oneRws_pose a _) fun _ => .cases (fun _ => .others (rwsOf_gnss _)) fun _ =>
  .cases (fun _ => .others (rwsOf_time _)) fun _ => .cases (fun _ => oneRws_ssp a) fun _ => .cases (fun _ => oneRws_grid a) fun _ =>
  .cases (fun _ => oneRws_cal a _) fun _ => .nil

theorem oneRws_geoPages (a b : Nat) {n : Nat} (hn : n < 8) :
    OneRws a (GEO.cands n (a % 0x1000) ++ if b = 0x010000 then GEOP.cands (a % 0x1000) else []) := by
  refine (oneRws_geo a hn _).append_others ?_
  split
  · exact rwsOf_geop _
  · rfl

theorem oneRws_pageCands (a : Nat) {b : Nat} (hb : b < 0x081000) : OneRws a (pageCands b (a % 0x1000)) :=
  .cases (fun _ => oneRws_header a b _) fun _ => .cases (fun _ => oneRws_systemPages a b) fun _ =>
  .cases (fun _ => oneRws_geoPages a b (by omega)) fun _ => .cases (fun _ => oneRws_fieldPages a b) fun _ =>
  .cases (fun _ => oneRws_idgIdc a (by omega)) fun _ => .cases (fun _ => oneRws_lsbLsw a b (by omega)) fun _ =>
  .cases (fun _ => .others (rwsOf_pwm _)) fun _ => .cases (fun _ => .others (rwsOf_trip _)) fun _ => .cases (fun _ => .others (rwsOf_gin _)) fun _ =>
  .cases (fun _ => .nil) fun _ => .cases (fun _ => oneRws_fbk a (by omega) _) fun _ => .cases (fun _ => oneRws_canIso a (by omega) _) fun _ =>
  .cases (fun _ => oneRws_canVnp a (by omega) _) fun _ => .cases (fun _ => .others (rwsOf_ksp _ _)) fun _ =>
  .cases (fun _ => .others (rwsOf_ksp _ _)) fun _ => .cases (fun _ => .others (rwsOf_pair _)) fun _ => .cases (fun _ => .nil) fun _ =>
  .cases (fun _ => .others (rwsOf_crc _ _)) fun _ => .cases (fun _ => .others (rwsOf_hif _)) fun _ => .nil

/-! ### Every word -/

theorem addr_of_mem_fieldsAt {a : Nat} {f : Field} (h : f ∈ fieldsAt a) : f.addr = a := by
  unfold fieldsAt at h
  exact beq_iff_eq.mp (List.mem_filter.mp h).2

/-- Two fields of a word that are written through the shadow registers and have the same key are the same. -/
theorem eq_of_rws_of_key {a : Nat} {f g : Field} (hf : f ∈ fieldsAt a) (hg : g ∈ fieldsAt a) (hfa : f.acc = .rws) (hga : g.acc = .rws)
    (hkey : f.key = g.key) : f = g := by
  have hfd := addr_of_mem_fieldsAt hf
  have hgd := addr_of_mem_fieldsAt hg
  have hlo : f.lo = g.lo := by
    simp only [Field.key] at hkey
    omega
  have hall : OneRws a (if isPage (a / 0x1000 * 0x1000) then pageCands (a / 0x1000 * 0x1000) (a % 0x1000)
      else if (0x020000 ≤ a && a < 0x030000) || 0x400000 ≤ a then tableCands a else []) := by
    split
    · next h =>
      refine oneRws_pageCands a ?_
      simp only [isPage, Bool.and_eq_true, Bool.or_eq_true, decide_eq_true_eq] at h
      omega
    split
    · exact oneRws_tableCands a
    · exact OneRws.nil
  unfold fieldsAt at hf hg
  exact hall f (List.mem_filter.mp hf).1 g (List.mem_filter.mp hg).1 hfa hga hfd hgd hlo

end Sys2Proof.Machine
end

section
/-! PROOFS. A word a host writes (R19, R454, R456, R462). -/
namespace Sys2Proof.Machine

/-! ### Shadow writes -/

/-- The pending value that a write of `v` to a field gives it. -/
def Dev.pendOf (d : Dev) (now : Nat) (f : Field) (v : Nat) : PendVal :=
  { val := v, at_ := now, under := d.holdOn (shadowPage f.addr), dead := false }

/-- Fields of different keys written through the shadow registers: each has its pending value, and nothing else changes. -/
theorem Dev.shadowEach_spec (now : Nat) (v : Field → Nat) (l : List Field) (hinj : ∀ f ∈ l, ∀ g ∈ l, f.key = g.key → f = g) (d : Dev) :
    d.each l (fun d f => d.shadowWrite now f (v f)) = { d with pend := (d.each l (fun d f => d.shadowWrite now f (v f))).pend } ∧
      (∀ f ∈ l, tget? (d.each l (fun d f => d.shadowWrite now f (v f))).pend f.key = some (d.pendOf now f (v f))) ∧
      ∀ k, (∀ f ∈ l, f.key ≠ k) → tget? (d.each l (fun d f => d.shadowWrite now f (v f))).pend k = tget? d.pend k := by
  induction l generalizing d with
  | nil => exact ⟨rfl, fun f hf => absurd hf (by simp), fun _ _ => rfl⟩
  | cons x t ih =>
    have hstep : d.each (x :: t) (fun d f => d.shadowWrite now f (v f)) = (d.shadowWrite now x (v x)).each t (fun d f => d.shadowWrite now f (v f)) := rfl
    rw [hstep]
    have hself : tget? (d.shadowWrite now x (v x)).pend x.key = some (d.pendOf now x (v x)) := tget?_tset_self _ _ _
    have hother : ∀ k, x.key ≠ k → tget? (d.shadowWrite now x (v x)).pend k = tget? d.pend k := fun k hk => tget?_tset_ne _ _ hk
    have hpendOf : ∀ f, (d.shadowWrite now x (v x)).pendOf now f (v f) = d.pendOf now f (v f) := fun _ => rfl
    have hrest : d.shadowWrite now x (v x) = { d with pend := (d.shadowWrite now x (v x)).pend } := rfl
    obtain ⟨h1, h2, h3⟩ := ih (fun f hf g hg => hinj f (by simp [hf]) g (by simp [hg])) (d.shadowWrite now x (v x))
    generalize d.shadowWrite now x (v x) = y at *
    generalize y.each t (fun d f => d.shadowWrite now f (v f)) = e at *
    refine ⟨h1.trans (by rw [hrest]), fun f hf => ?_, fun k hk => ?_⟩
    · by_cases hft : ∃ g ∈ t, g.key = f.key
      · obtain ⟨g, hg, hkey⟩ := hft
        have hgf : g = f := hinj g (by simp [hg]) f hf hkey
        exact (h2 f (hgf ▸ hg)).trans (congrArg some (hpendOf f))
      · have hfx : f = x := (List.mem_cons.mp hf).resolve_right (fun h => hft ⟨f, h, rfl⟩)
        exact (h3 f.key (fun g hg hk => hft ⟨g, hg, hk⟩)).trans (hfx ▸ hself)
    · exact (h3 k (fun f hf => hk f (by simp [hf]))).trans (hother k (hk x (by simp)))

theorem Dev.rdP_of_pend {d : Dev} {f : Field} {p : PendVal} (h : tget? d.pend f.key = some p) : d.rdP f = p.val := by
  rw [Dev.rdP, h]
  rfl

/-! ### Words -/

/-- The fields of word `a` that a host's write reaches. -/
def writeFields (a : Nat) : List Field :=
  (fieldsAt a).filter (fun f => !(f = HDR.PG_EN (a / 0x1000 * 0x1000) && !pageHasEn (a / 0x1000 * 0x1000)))

/-- Those of them with access `k`. -/
def writeFieldsOf (a : Nat) (k : Access) : List Field := (writeFields a).filter (fun f => f.acc == k)

theorem mem_writeFieldsOf {a : Nat} {k : Access} {f : Field} (h : f ∈ writeFieldsOf a k) : f ∈ fieldsAt a ∧ f.acc = k := by
  obtain ⟨h1, h2⟩ := List.mem_filter.mp h
  exact ⟨(List.mem_filter.mp h1).1, beq_iff_eq.mp h2⟩

theorem writeFieldsOf_nil {a : Nat} {k : Access} (h : ∀ f ∈ fieldsAt a, f.acc ≠ k) : writeFieldsOf a k = [] :=
  List.eq_nil_iff_forall_not_mem.mpr fun f hf => h f (mem_writeFieldsOf hf).1 (mem_writeFieldsOf hf).2

/-- A word of fields written through the shadow registers. -/
theorem Dev.wordWrite_of_shadow {d : Dev} (now path : Nat) {a : Nat} (w : Nat) (hs : d.hif.inService = true) (hb : d.on PWR.BOOT_REC = false)
    (hw : isWriteWindow a = false) (hf : ∀ f ∈ fieldsAt a, f.acc = .rws ∨ f.acc = .ro) (hst : d.standbyIgnores a = false) :
    (d.wordWrite now path a w).2 = d.each (writeFieldsOf a .rws) (fun d f => d.shadowWrite now f (bitsOf w f.lo f.width)) := by
  have hnil : ∀ k, k ≠ .rws → k ≠ .ro → writeFieldsOf a k = [] := fun k h1 h2 => writeFieldsOf_nil fun f hfm hk =>
    (hf f hfm).elim (fun h => h1 (hk.symm.trans h)) (fun h => h2 (hk.symm.trans h))
  unfold Dev.wordWrite
  rw [if_neg (by simp [hs, Dev.serves_of_not_recovery hb]), if_neg (by simp [hw])]
  extract_lets b fs of_ take locked d1 o d2 d3 d4 d5 r d6 d7
  have hof : ∀ k, of_ k = writeFieldsOf a k := fun _ => rfl
  have hrw : of_ .rw = [] := hnil .rw (by simp) (by simp)
  have hrwl : of_ .rwl = [] := hnil .rwl (by simp) (by simp)
  have h1 : d1 = d := if_neg (by simp [locked, hrwl])
  have h2 : d2 = d := by simp only [d2, hrw, h1, Dev.each, List.foldl_nil]
  have h3 : d3 = d := by simp only [d3, hrw, h2, List.isEmpty_nil, if_true]
  have h4 : d4 = d.each (writeFieldsOf a .rws) (fun d f => d.shadowWrite now f (bitsOf w f.lo f.width)) := by
    simp only [d4, h3, hof]
    split
    · next h => rw [List.isEmpty_iff.mp h, Dev.each, List.foldl_nil]
    · rw [if_neg (by simp [hst])]
  have h5 : d5 = d4 := if_pos (by simp [hrwl])
  have h6 : r.2 = d4 := by simp only [r, hof, hnil .rwc (by simp) (by simp), List.isEmpty_nil, if_true, h5]
  have h7 : d6 = d4 := by simp only [d6, hof, hnil .w1c (by simp) (by simp), Dev.each, List.foldl_nil, h6]
  have h8 : d7 = d4 := by simp only [d7, hof, hnil .wo (by simp) (by simp), List.isEmpty_nil, if_true, h7]
  exact h8.trans h4

/-- A word of fields that a lock covers, where the page is locked. -/
theorem Dev.wordWrite_of_locked {d : Dev} (now path : Nat) {a : Nat} (w : Nat) (hs : d.hif.inService = true) (hb : d.on PWR.BOOT_REC = false)
    (hw : isWriteWindow a = false) (hne : fieldsAt a ≠ []) (hf : ∀ f ∈ fieldsAt a, f.acc = .rwl) (hl : d.unlocked now (a / 0x1000 * 0x1000) = false) :
    (d.wordWrite now path a w).2 = (d.bump HIF.LOCK_REFUSED).wr HIF.ERR_ADDR a := by
  have hnil : ∀ k, k ≠ .rwl → writeFieldsOf a k = [] := fun k h => writeFieldsOf_nil fun f hfm hk => h (hk.symm.trans (hf f hfm))
  have hsome : writeFieldsOf a .rwl ≠ [] := by
    obtain ⟨f, hfm⟩ := List.exists_mem_of_ne_nil _ hne
    refine List.ne_nil_of_mem (List.mem_filter.mpr ⟨List.mem_filter.mpr ⟨hfm, ?_⟩, by simp [hf f hfm]⟩ : f ∈ writeFieldsOf a .rwl)
    have hen : f ≠ HDR.PG_EN (a / 0x1000 * 0x1000) := fun h => by
      have := hf f hfm
      rw [h] at this
      cases this
    simp [hen]
  unfold Dev.wordWrite
  rw [if_neg (by simp [hs, Dev.serves_of_not_recovery hb]), if_neg (by simp [hw])]
  extract_lets b fs of_ take locked d1 o d2 d3 d4 d5 r d6 d7
  have hof : ∀ k, of_ k = writeFieldsOf a k := fun _ => rfl
  have hlocked : locked = true := by
    have hempty : (writeFieldsOf a .rwl).isEmpty = false := by simpa using hsome
    simp [locked, hof, hempty, take, b, hl]
  have h1 : d1 = (d.bump HIF.LOCK_REFUSED).wr HIF.ERR_ADDR a := if_pos hlocked
  have h2 : d2 = d1 := by simp only [d2, hof, hnil .rw (by simp), Dev.each, List.foldl_nil]
  have h3 : d3 = d2 := by simp only [d3, hof, hnil .rw (by simp), List.isEmpty_nil, if_true]
  have h4 : d4 = d3 := by simp only [d4, hof, hnil .rws (by simp), List.isEmpty_nil, if_true]
  have h5 : d5 = d4 := if_pos (by simp [hlocked])
  have h6 : r.2 = d5 := by simp only [r, hof, hnil .rwc (by simp), List.isEmpty_nil, if_true]
  have h7 : d6 = r.2 := by simp only [d6, hof, hnil .w1c (by simp), Dev.each, List.foldl_nil]
  have h8 : d7 = d6 := by simp only [d7, hof, hnil .wo (by simp), List.isEmpty_nil, if_true]
  exact h8.trans (h7.trans (h6.trans (h5.trans (h4.trans (h3.trans (h2.trans h1))))))

theorem Dev.addrRefuse_spec (d : Dev) (now : Nat) {a : Nat} (ha : a < 2 ^ 24) :
    (d.addrRefuse now a).rd HIF.ADDR_ERRS = counted d HIF.ADDR_ERRS ∧ (d.addrRefuse now a).rd HIF.ERR_ADDR = a ∧
      OnlyRegsAndEvents [HIF.ADDR_ERRS, HIF.ERR_ADDR] d (d.addrRefuse now a) := by
  unfold Dev.addrRefuse
  refine ⟨?_, ?_, (((OnlyRegs.refl [HIF.ADDR_ERRS, HIF.ERR_ADDR] d).thenBump (by simp)).thenWr (by simp) a).toOnlyRegsAndEvents.thenFire _ _ _ _⟩
  · rw [Dev.rd_fire_of _ _ _ _ _ (by decide) (by decide), Dev.rd_wr_ne _ _ (by decide), Dev.rd_bump_self]
    rfl
  · rw [Dev.rd_fire_of _ _ _ _ _ (by decide) (by decide), Dev.rd_wr_self]
    exact Nat.mod_eq_of_lt ha

theorem addrFault_eq {a : Nat} {x : Nat × Nat} (h : addrFault [a] = some x) : x.2 = a := by
  unfold addrFault at h
  obtain ⟨y, hy, rfl⟩ := Option.map_eq_some_iff.mp h
  exact List.mem_singleton.mp (List.mem_of_find?_eq_some hy)

/-- Settles O12: a word is refused for its address, stored in a window, taken by the shadow registers or refused by the lock, by its kind. -/
theorem hostWordWrite : Obligations.HostWordWrite := by
  unfold Obligations.HostWordWrite
  intro s el path a w
  refine answers_of_forall_host (f := fun now d =>
    match addrFault [a.toNat] with
    | some x => d.addrRefuse now x.2
    | none => (d.wordWrite now path.val a.toNat w.toNat).2) rfl (fun now d hs => ⟨?_, ?_⟩)
  · rintro ⟨x, hx⟩
    rw [hx]
    dsimp only
    rw [addrFault_eq hx]
    exact d.addrRefuse_spec now a.isLt
  · intro hok hb
    rw [hok]
    dsimp only
    refine ⟨fun hw => ?_, fun hw hf hst => ?_, fun hw hne hf hl => ?_⟩
    · rw [Dev.wordWrite_of_window now path.val w.toNat hs hb hw]
      refine ⟨fun i hi => ?_, fun b hout => memGet_memSetBytes_out _ _ _ _ ?_, rfl⟩
      · refine (memGet_memSetBytes_in d.mem a.toNat i (bytesLE 4 w.toNat) (by rw [length_bytesLE]; exact hi)).trans ?_
        rw [getElem_bytesLE, Nat.mod_mod]
      · rw [length_bytesLE]
        exact hout
    · rw [Dev.wordWrite_of_shadow now path.val w.toNat hs hb hw hf hst]
      have hfs : (fieldsAt a.toNat).filter (fun f => f.acc == .rws && !(f = HDR.PG_EN (pageOf a) && !pageHasEn (pageOf a))) = writeFieldsOf a.toNat .rws :=
        (List.filter_filter ..).symm
      rw [hfs]
      obtain ⟨hrest, hpend, hother⟩ := Dev.shadowEach_spec now (fun f => bitsOf w.toNat f.lo f.width) (writeFieldsOf a.toNat .rws) (fun f hfm g hgm hkey =>
        eq_of_rws_of_key (mem_writeFieldsOf hfm).1 (mem_writeFieldsOf hgm).1 (mem_writeFieldsOf hfm).2 (mem_writeFieldsOf hgm).2 hkey) d
      exact ⟨hrest, fun f hfm => ⟨Dev.rdP_of_pend (hpend f hfm), hpend f hfm⟩, hother⟩
    · rw [Dev.wordWrite_of_locked now path.val w.toNat hs hb hw hne hf hl]
      refine ⟨(Dev.rd_wr_ne _ _ (by decide)).trans (Dev.rd_bump_self d HIF.LOCK_REFUSED), (Dev.rd_wr_self _ HIF.ERR_ADDR _).trans (Nat.mod_eq_of_lt a.isLt),
        ((OnlyRegs.refl _ d).thenBump (by simp)).thenWr (by simp) _⟩

end Sys2Proof.Machine
end

section
/-! PROOFS. FREEZE, UPD_HOLD and SOFT_RST of a page (R460, R461, R463). -/
namespace Sys2Proof.Machine

/-! ### FREEZE -/

theorem Dev.freezeSet_on (d : Dev) (now b : Nat) :
    d.freezeSet now b true = if (tget? d.hif.frozen b).isSome then d.wrB (HDR.FREEZE b) true
      else { d.wrB (HDR.FREEZE b) true with
        hif := { d.hif with frozen := tset d.hif.frozen b ((d.wrB (HDR.FREEZE b) true).freezePage now b) } } := rfl

theorem Dev.freezeSet_off (d : Dev) (now b : Nat) :
    d.freezeSet now b false = { d.wrB (HDR.FREEZE b) false with hif := { d.hif with frozen := tdel d.hif.frozen b } } := rfl

theorem freezeOn_effect (s : State) (el : Nat) {a : BitVec 24} (ha : isPage (pageOf a) = true) :
    Answers (.freeze el a true) s (fun now d e => d.hif.inService = true →
      e.rd (HDR.FREEZE (pageOf a)) = 1 ∧
      (tget? d.hif.frozen (pageOf a) = none →
        tget? e.hif.frozen (pageOf a) = some ((d.wrB (HDR.FREEZE (pageOf a)) true).freezePage now (pageOf a))) ∧
      ((tget? d.hif.frozen (pageOf a)).isSome = true → e.hif.frozen = d.hif.frozen) ∧
      e = { d with regs := e.regs, hif := { d.hif with frozen := e.hif.frozen } }) := by
  refine answers_of_forall_host (f := fun now d => if isPage (pageOf a) then d.freezeSet now (pageOf a) true else d) rfl (fun now d _ => ?_)
  dsimp only
  rw [if_pos ha, Dev.freezeSet_on]
  have hrd : (d.wrB (HDR.FREEZE (pageOf a)) true).rd (HDR.FREEZE (pageOf a)) = 1 := Dev.rd_wrB_self _ _ _ rfl
  by_cases hf : (tget? d.hif.frozen (pageOf a)).isSome = true
  · rw [if_pos hf]
    exact ⟨hrd, fun h => absurd hf (by simp [h]), fun _ => rfl, rfl⟩
  · rw [if_neg hf]
    exact ⟨hrd, fun _ => tget?_tset_self _ _ _, fun h => absurd h hf, rfl⟩

theorem freezeOff_effect (s : State) (el : Nat) {a : BitVec 24} (ha : isPage (pageOf a) = true) :
    Answers (.freeze el a false) s (fun _ d e => d.hif.inService = true →
      e.rd (HDR.FREEZE (pageOf a)) = 0 ∧ tget? e.hif.frozen (pageOf a) = none ∧
      (∀ b, b ≠ pageOf a → tget? e.hif.frozen b = tget? d.hif.frozen b) ∧
      e = { d with regs := e.regs, hif := { d.hif with frozen := e.hif.frozen } }) := by
  refine answers_of_forall_host (f := fun now d => if isPage (pageOf a) then d.freezeSet now (pageOf a) false else d) rfl (fun now d _ => ?_)
  dsimp only
  rw [if_pos ha, Dev.freezeSet_off]
  have hrd : (d.wrB (HDR.FREEZE (pageOf a)) false).rd (HDR.FREEZE (pageOf a)) = 0 := Dev.rd_wrB_self _ _ _ rfl
  exact ⟨hrd, tget?_tdel_self _ _, fun b hb => tget?_tdel_ne _ hb.symm, rfl⟩

/-! ### UPD_HOLD -/

/-- Pending values that no hold covers are released. -/
def Dev.released (d : Dev) (x : Nat × PendVal) : Nat × PendVal :=
  if d.holdOn (shadowPage (x.1 / 32)) then x else (x.1, { x.2 with under := false })

theorem Dev.holdSet_off (d : Dev) (b : Nat) :
    (d.holdSet b false).regs = (d.wrB (HDR.UPD_HOLD b) false).regs ∧ (d.holdSet b false).pair = d.pair ∧
      (d.holdSet b false).pend = d.pend.map (d.wrB (HDR.UPD_HOLD b) false).released := ⟨rfl, rfl, rfl⟩

theorem Dev.holdOn_congr {d e : Dev} (h : e.regs = d.regs) (b : Nat) : e.holdOn b = d.holdOn b := by
  simp only [Dev.holdOn, Dev.on, Dev.rd, h]

theorem Dev.val_released (d : Dev) (x : Nat × PendVal) : ((d.released x).1, (d.released x).2.val) = (x.1, x.2.val) := by
  unfold Dev.released
  split <;> rfl

theorem Dev.holdOn_of_released {d : Dev} {x : Nat × PendVal} (h : (d.released x).2.under = true) : d.holdOn (shadowPage ((d.released x).1 / 32)) = true := by
  unfold Dev.released at h ⊢
  split at h
  · next hon => rwa [if_pos hon]
  · cases h

theorem updHoldOn_effect (s : State) (el : Nat) {a : BitVec 24} (ha : isPage (pageOf a) = true) :
    Answers (.updHold el a true) s (fun _ d e => d.hif.inService = true →
      e.rd (HDR.UPD_HOLD (pageOf a)) = 1 ∧ OnlyRegs [HDR.UPD_HOLD (pageOf a)] d e) := by
  refine answers_of_forall_host (f := fun _ d => if isPage (pageOf a) then d.holdSet (pageOf a) true else d) rfl (fun now d _ => ?_)
  rw [if_pos ha]
  exact ⟨Dev.rd_wrB_self d _ true rfl, OnlyRegs.wr d _ _ (by simp)⟩

theorem updHoldOff_effect (s : State) (el : Nat) {a : BitVec 24} (ha : isPage (pageOf a) = true) :
    Answers (.updHold el a false) s (fun _ d e => d.hif.inService = true →
      e.rd (HDR.UPD_HOLD (pageOf a)) = 0 ∧ e.pend.map (fun x => (x.1, x.2.val)) = d.pend.map (fun x => (x.1, x.2.val)) ∧
      (∀ x ∈ e.pend, x.2.under = true → e.holdOn (shadowPage (x.1 / 32)) = true)) := by
  refine answers_of_forall_host (f := fun _ d => if isPage (pageOf a) then d.holdSet (pageOf a) false else d) rfl (fun now d _ => ?_)
  rw [if_pos ha]
  have hrd : (d.wrB (HDR.UPD_HOLD (pageOf a)) false).rd (HDR.UPD_HOLD (pageOf a)) = 0 := Dev.rd_wrB_self d _ false rfl
  obtain ⟨hregs, -, hpend⟩ := d.holdSet_off (pageOf a)
  generalize d.holdSet (pageOf a) false = e at *
  generalize d.wrB (HDR.UPD_HOLD (pageOf a)) false = x at *
  refine ⟨?_, ?_, fun y hy hu => ?_⟩
  · rw [Dev.rd, hregs]
    exact hrd
  · rw [hpend, List.map_map]
    exact List.map_congr_left fun y _ => x.val_released y
  · rw [hpend] at hy
    obtain ⟨z, -, rfl⟩ := List.mem_map.mp hy
    rw [Dev.holdOn_congr hregs]
    exact Dev.holdOn_of_released hu

/-! ### SOFT_RST of a word -/

/-- The fields of word `a` that SOFT_RST gives a pending value. -/
def Dev.rstShadow (d : Dev) (a : Nat) : List Field :=
  (fieldsAt a).filter (fun f => f.acc == .rws && !(f = HDR.PG_EN (a / 0x1000 * 0x1000) && !pageHasEn (a / 0x1000 * 0x1000)) && !d.standbyIgnores a)

/-- The fields of word `a` that SOFT_RST writes at once. -/
def rstDirect (a : Nat) : List Field := (fieldsAt a).filter (fun f => f.acc == .rw)

/-- Whether SOFT_RST writes the fields of word `a` alone. -/
def rstPlain (a : Nat) : Bool :=
  snapWord a || (0x078000 ≤ a / 0x1000 * 0x1000 && a / 0x1000 * 0x1000 < 0x080000 && a % 0x1000 == 0x068)

/-- The part of SOFT_RST that writes the fields of word `a` at once, in a block that stood as `o`. -/
def Dev.rstWrites (d o : Dev) (now a : Nat) : Dev :=
  if (rstDirect a).isEmpty then d
  else if rstPlain a then d.each (rstDirect a) (fun d f => d.wr f f.reset)
  else (d.each (rstDirect a) (fun d f => d.rwField now f f.reset)).rwAfter o now a

theorem Dev.softRstWord_eq (d : Dev) (now a : Nat) :
    d.softRstWord now a = (d.each (d.rstShadow a) (fun d f => d.shadowWrite now f f.reset)).rstWrites d now a := rfl

theorem Dev.softRstWord_of_no_rw (d : Dev) (now : Nat) {a : Nat} (h : ∀ f ∈ fieldsAt a, f.acc ≠ .rw) :
    d.softRstWord now a = d.each (d.rstShadow a) (fun d f => d.shadowWrite now f f.reset) := by
  have hnil : rstDirect a = [] := List.filter_eq_nil_iff.mpr fun f hf => by simpa using h f hf
  rw [Dev.softRstWord_eq, Dev.rstWrites, if_pos (by simp [hnil])]

theorem Dev.rstShadow_inj (d : Dev) (a : Nat) : ∀ f ∈ d.rstShadow a, ∀ g ∈ d.rstShadow a, f.key = g.key → f = g := fun f hf g hg hkey => by
  have hmem : ∀ x ∈ d.rstShadow a, x ∈ fieldsAt a ∧ x.acc = .rws := fun x hx => by
    obtain ⟨h1, h2⟩ := List.mem_filter.mp hx
    simp only [Bool.and_eq_true, beq_iff_eq] at h2
    exact ⟨h1, h2.1.1⟩
  exact eq_of_rws_of_key (hmem f hf).1 (hmem g hg).1 (hmem f hf).2 (hmem g hg).2 hkey

theorem softRstWord_idle (d : Dev) (now w : Nat) (h : ∀ f ∈ fieldsAt w, f.acc ≠ .rw ∧ f.acc ≠ .rws) : d.softRstWord now w = d := by
  have hnil : d.rstShadow w = [] := List.filter_eq_nil_iff.mpr fun f hf => by simp [(h f hf).2]
  rw [d.softRstWord_of_no_rw now (fun f hf => (h f hf).1), hnil]
  rfl

theorem softRstWord_single (d : Dev) (now w : Nat) (f : Field) (h : ∀ g ∈ fieldsAt w, g.acc ≠ .rw) (hst : d.standbyIgnores w = false)
    (hf : (fieldsAt w).filter (fun g => g.acc == .rws && !(g = HDR.PG_EN (w / 0x1000 * 0x1000) && !pageHasEn (w / 0x1000 * 0x1000))) = [f]) :
    (d.softRstWord now w).rdP f = f.reset ∧ (d.softRstWord now w).regs = d.regs := by
  have hl : d.rstShadow w = [f] := by
    unfold Dev.rstShadow
    simpa only [hst, Bool.not_false, Bool.and_true] using hf
  obtain ⟨hrest, hpend, -⟩ := Dev.shadowEach_spec now Field.reset (d.rstShadow w) (d.rstShadow_inj w) d
  rw [d.softRstWord_of_no_rw now h]
  exact ⟨Dev.rdP_of_pend (hpend f (by simp [hl])), (congrArg Dev.regs hrest :)⟩

end Sys2Proof.Machine
end

section
/-! PROOFS. SOFT_RST of the DEC page (R460). -/
namespace Sys2Proof.Machine

/-! ### The fields of DEC that a host writes at once -/

theorem filter_append_part {p : Field → Bool} {fs gs : List Field} {c : Bool} (h : gs.filter p = []) :
    (fs ++ if c then gs else []).filter p = fs.filter p := by
  rw [List.filter_append]
  split
  · rw [h, List.append_nil]
  · rw [List.filter_nil, List.append_nil]

theorem rw_header (o : Nat) : (HDR.cands 0x032000 o).filter (fun f => f.acc == .rw) = [HDR.FREEZE 0x032000, HDR.PG_EVT_EN 0x032000, HDR.UPD_HOLD 0x032000] := rfl

theorem rw_dec (o : Nat) : (DEC.cands o).filter (fun f => f.acc == .rw) = [DEC.PTD_IDX] := by
  unfold DEC.cands
  rw [filter_append_part rfl, filter_append_part rfl, filter_append_part rfl, filter_append_part rfl, filter_append_part rfl, filter_append_part rfl]
  rfl

/-- The words of DEC with a field that a host writes at once, and that field. -/
theorem rw_mem_dec {a : Nat} (ha : a / 0x1000 = 0x32) {f : Field} (hf : f ∈ fieldsAt a) (hacc : f.acc = .rw) :
    f ∈ [HDR.FREEZE 0x032000, HDR.PG_EVT_EN 0x032000, HDR.UPD_HOLD 0x032000, DEC.PTD_IDX] := by
  have hb : a / 0x1000 * 0x1000 = 0x032000 := by omega
  unfold fieldsAt at hf
  rw [hb, if_pos (by decide)] at hf
  have hmem := (List.mem_filter.mp hf).1
  have hrw : ∀ fs : List Field, f ∈ fs → f ∈ fs.filter (fun f => f.acc == .rw) := fun fs h => List.mem_filter.mpr ⟨h, by simp [hacc]⟩
  have hpage : pageCands 0x032000 (a % 0x1000) = if a % 0x1000 < 0x040 then HDR.cands 0x032000 (a % 0x1000) else DEC.cands (a % 0x1000) := by
    unfold pageCands
    rfl
  rw [hpage] at hmem
  split at hmem
  · have h := hrw _ hmem
    rw [rw_header] at h
    simp only [List.mem_cons, List.not_mem_nil, or_false] at h ⊢
    rcases h with h | h | h <;> simp [h]
  · have h := hrw _ hmem
    rw [rw_dec] at h
    simp [List.mem_singleton.mp h]

/-! ### What SOFT_RST writes at once -/

/-- What SOFT_RST writes at once in word `a`: the fields named read their reset values, and pending values stand. -/
def RstWritten (a : Nat) (x e : Dev) : Prop :=
  e.pair = x.pair ∧ (∀ k, (tget? e.pend k).map PendVal.val = (tget? x.pend k).map PendVal.val) ∧ (∀ f ∈ rstDirect a, e.rd f = f.reset) ∧
    ∀ g : Field, (∀ f ∈ rstDirect a, f.key ≠ g.key) → e.rd g = x.rd g

theorem val_tget?_released (d : Dev) (m : Tab PendVal) (k : Nat) :
    (tget? (m.map d.released) k).map PendVal.val = (tget? m k).map PendVal.val := by
  induction m with
  | nil => rfl
  | cons x t ih =>
    have hval := d.val_released x
    rw [Prod.mk.injEq] at hval
    obtain ⟨h1, h2⟩ := hval
    by_cases hk : x.1 = k
    · simp [tget?, h1, h2, hk]
    · simp [tget?, h1, hk, ih]

theorem RstWritten.of_wr {a : Nat} {f : Field} (x : Dev) (ha : rstDirect a = [f]) (hfit : f.reset % 2 ^ f.width = f.reset) : RstWritten a x (x.wr f f.reset) := by
  refine ⟨rfl, fun _ => rfl, fun g hg => ?_, fun g hg => Dev.rd_wr_ne x _ (hg f (by simp [ha]))⟩
  rw [ha, List.mem_singleton] at hg
  rw [hg, Dev.rd_wr_self, hfit]

theorem RstWritten.of_regs {a : Nat} {x y e : Dev} (h : RstWritten a x y) (hregs : e.regs = y.regs) (hpair : e.pair = y.pair)
    (hpend : ∀ k, (tget? e.pend k).map PendVal.val = (tget? y.pend k).map PendVal.val) : RstWritten a x e := by
  obtain ⟨h1, h2, h3, h4⟩ := h
  have hrd : ∀ f, e.rd f = y.rd f := fun f => by rw [Dev.rd, hregs, Dev.rd]
  exact ⟨hpair.trans h1, fun k => (hpend k).trans (h2 k), fun f hf => (hrd f).trans (h3 f hf), fun g hg => (hrd g).trans (h4 g hg)⟩

theorem rstWritten_dec (x o : Dev) (now : Nat) {a : Nat} (ha : a / 0x1000 = 0x32) : RstWritten a x (x.rstWrites o now a) := by
  by_cases hnil : rstDirect a = []
  · rw [Dev.rstWrites, if_pos (by simp [hnil])]
    exact ⟨rfl, fun _ => rfl, fun f hf => absurd hf (by simp [hnil]), fun _ _ => rfl⟩
  · obtain ⟨f, hf⟩ := List.exists_mem_of_ne_nil _ hnil
    obtain ⟨hmem, hacc⟩ := List.mem_filter.mp hf
    have haddr := addr_of_mem_fieldsAt hmem
    have hfour := rw_mem_dec ha hmem (beq_iff_eq.mp hacc)
    clear hnil hf hmem hacc ha
    simp only [List.mem_cons, List.not_mem_nil, or_false] at hfour
    rcases hfour with rfl | rfl | rfl | rfl <;> subst haddr
    · have hone : rstDirect (HDR.FREEZE 0x032000).addr = [HDR.FREEZE 0x032000] := by decide
      have hplain : rstPlain (HDR.FREEZE 0x032000).addr = false := by simp [rstPlain, snapWord, HDR.FREEZE]
      have heq : x.rstWrites o now (HDR.FREEZE 0x032000).addr = x.freezeSet now 0x032000 false := by
        rw [Dev.rstWrites, hone, if_neg (by decide), hplain, if_neg (by decide)]
        simp [Dev.each, Dev.rwField, Dev.rwAfter, HDR.FREEZE]
      rw [heq]
      exact (RstWritten.of_wr x hone (by decide)).of_regs rfl rfl (fun _ => rfl)
    · have hone : rstDirect (HDR.PG_EVT_EN 0x032000).addr = [HDR.PG_EVT_EN 0x032000] := by decide
      have hplain : rstPlain (HDR.PG_EVT_EN 0x032000).addr = false := by simp [rstPlain, snapWord, HDR.PG_EVT_EN]
      have heq : x.rstWrites o now (HDR.PG_EVT_EN 0x032000).addr = x.wr (HDR.PG_EVT_EN 0x032000) 0 := by
        rw [Dev.rstWrites, hone, if_neg (by decide), hplain, if_neg (by decide)]
        simp [Dev.each, Dev.rwField, Dev.rwAfter, HDR.PG_EVT_EN, HDR.FREEZE, HDR.UPD_HOLD, SYS.BULK_SHARE, isPage]
      rw [heq]
      exact RstWritten.of_wr x hone (by decide)
    · have hone : rstDirect (HDR.UPD_HOLD 0x032000).addr = [HDR.UPD_HOLD 0x032000] := by decide
      have hplain : rstPlain (HDR.UPD_HOLD 0x032000).addr = false := by simp [rstPlain, snapWord, HDR.UPD_HOLD]
      have heq : x.rstWrites o now (HDR.UPD_HOLD 0x032000).addr = x.holdSet 0x032000 false := by
        rw [Dev.rstWrites, hone, if_neg (by decide), hplain, if_neg (by decide)]
        simp [Dev.each, Dev.rwField, Dev.rwAfter, HDR.UPD_HOLD, HDR.FREEZE]
      obtain ⟨hregs, hpair, hpend⟩ := x.holdSet_off 0x032000
      rw [heq]
      refine (RstWritten.of_wr x hone (by decide)).of_regs hregs hpair (fun k => ?_)
      rw [hpend, val_tget?_released]
      rfl
    · have hone : rstDirect DEC.PTD_IDX.addr = [DEC.PTD_IDX] := by decide
      have heq : x.rstWrites o now DEC.PTD_IDX.addr = x.wr DEC.PTD_IDX DEC.PTD_IDX.reset := by
        rw [Dev.rstWrites, hone, if_neg (by decide), if_pos (by decide)]
        rfl
      rw [heq]
      exact RstWritten.of_wr x hone (by decide)

end Sys2Proof.Machine
end

section
/-! PROOFS. SOFT_RST works through the words of DEC (R460). -/
namespace Sys2Proof.Machine

/-! ### The places of the fields of DEC -/

/-- A field at a word address, its lowest bit in the word. -/
def Field.placed (f : Field) : Bool := f.addr % 4 == 0 && decide (f.lo < 32)

theorem all_append_part {p : Field → Bool} {fs gs : List Field} {c : Bool} (hf : fs.all p = true) (hg : c = true → gs.all p = true) :
    (fs ++ if c then gs else []).all p = true := by
  rw [List.all_append, hf, Bool.true_and]
  split
  · next h => exact hg h
  · rfl

theorem placed_dec {o : Nat} : (DEC.cands o).all Field.placed = true := by
  refine all_append_part (all_append_part (all_append_part (all_append_part (all_append_part (all_append_part (by decide) fun h => ?_) fun h => ?_) fun h => ?_)
    fun h => ?_) fun h => ?_) fun h => ?_ <;> rw [inPart_iff] at h
  · have hi : (o - 0x80) / 0x10 < 8 := by omega
    generalize (o - 0x80) / 0x10 = i at hi
    clear * - hi
    decide +revert
  · have hi : (o - 0x200) / 0x4 < 128 := by omega
    generalize (o - 0x200) / 0x4 = i at hi
    clear * - hi
    decide +revert
  · have hi : (o - 0x400) / 0x4 < 4 := by omega
    generalize (o - 0x400) / 0x4 = i at hi
    clear * - hi
    decide +revert
  · have hi : (o - 0x410) / 0x4 < 4 := by omega
    generalize (o - 0x410) / 0x4 = i at hi
    clear * - hi
    decide +revert
  · have hi : (o - 0x420) / 0x4 < 4 := by omega
    generalize (o - 0x420) / 0x4 = i at hi
    clear * - hi
    decide +revert
  · have hi : (o - 0x500) / 0x4 < 64 := by omega
    generalize (o - 0x500) / 0x4 = i at hi
    clear * - hi
    decide +revert

theorem placed_of_mem_dec {a : Nat} (ha : a / 0x1000 = 0x32) {f : Field} (hf : f ∈ fieldsAt a) : f.addr % 4 = 0 ∧ f.lo < 32 := by
  have hall : (pageCands 0x032000 (a % 0x1000)).all Field.placed = true := by
    have hpage : pageCands 0x032000 (a % 0x1000) = if a % 0x1000 < 0x040 then HDR.cands 0x032000 (a % 0x1000) else DEC.cands (a % 0x1000) := by
      unfold pageCands
      rfl
    rw [hpage]
    split
    · exact (by decide : (HDR.cands 0x032000 0).all Field.placed = true)
    · exact placed_dec
  have hb : a / 0x1000 * 0x1000 = 0x032000 := by omega
  unfold fieldsAt at hf
  rw [hb, if_pos (by decide)] at hf
  have h := List.all_eq_true.mp hall f (List.mem_filter.mp hf).1
  simpa [Field.placed] using h

theorem mem_fieldsAt_of_fieldOfKey {f : Field} (h : fieldOfKey f.key = some f) : f ∈ fieldsAt f.addr := by
  have hmem := List.mem_of_find?_eq_some h
  exact (addr_of_mem_fieldsAt hmem).symm ▸ hmem

/-- A field of another access does not share its place with one that SOFT_RST writes at once. -/
theorem rstDirect_key_ne {a : Nat} (ha : a / 0x1000 = 0x32) {f g : Field} (hf : fieldOfKey f.key = some f) (hacc : f.acc = .rws)
    (hg : g ∈ rstDirect a) : g.key ≠ f.key := by
  obtain ⟨hmem, hrw⟩ := List.mem_filter.mp hg
  have hrw := beq_iff_eq.mp hrw
  have hown : fieldOfKey g.key = some g := by
    have hfour := rw_mem_dec ha hmem hrw
    simp only [List.mem_cons, List.not_mem_nil, or_false] at hfour
    rcases hfour with rfl | rfl | rfl | rfl <;> decide
  intro hkey
  rw [hkey, hf, Option.some.injEq] at hown
  rw [← hown, hacc] at hrw
  cases hrw

/-! ### One word -/

/-- SOFT_RST of one word of DEC, on a unit that is no standby. -/
theorem softRstWord_dec (d : Dev) (now : Nat) {a : Nat} (ha : a / 0x1000 = 0x32) (hst : d.pair.st ≠ .standby) :
    let e := d.softRstWord now a
    e.pair = d.pair ∧
      (∀ f ∈ fieldsAt a, f.acc = .rws → f ≠ HDR.PG_EN 0x032000 → (tget? e.pend f.key).map PendVal.val = some f.reset) ∧
      (∀ g : Field, g.addr ≠ a → g.lo < 32 → (tget? e.pend g.key).map PendVal.val = (tget? d.pend g.key).map PendVal.val) ∧
      (∀ f ∈ rstDirect a, e.rd f = f.reset) ∧ (∀ g : Field, (∀ f ∈ rstDirect a, f.key ≠ g.key) → e.rd g = d.rd g) := by
  rw [Dev.softRstWord_eq]
  obtain ⟨hrest, hpend, hother⟩ := Dev.shadowEach_spec now Field.reset (d.rstShadow a) (d.rstShadow_inj a) d
  generalize d.each (d.rstShadow a) (fun d f => d.shadowWrite now f f.reset) = x at *
  obtain ⟨hpair, hval, hself, hkeep⟩ := rstWritten_dec x d now ha
  have hrd : ∀ f, x.rd f = d.rd f := fun f => by rw [Dev.rd, (congrArg Dev.regs hrest :), Dev.rd]
  have hb : a / 0x1000 * 0x1000 = 0x032000 := by omega
  intro e
  refine ⟨hpair.trans (congrArg Dev.pair hrest :), fun f hf hacc hen => ?_, fun g hg hlo => ?_, hself, fun g hg => (hkeep g hg).trans (hrd g)⟩
  · have hin : f ∈ d.rstShadow a := List.mem_filter.mpr ⟨hf, by rw [hb]; simp [hacc, hen, Dev.standbyIgnores, hst]⟩
    rw [hval, hpend f hin]
    rfl
  · rw [hval, hother g.key fun f hf hkey => ?_]
    have hfm := (List.mem_filter.mp hf).1
    have hfa := addr_of_mem_fieldsAt hfm
    have hfl := (placed_of_mem_dec ha hfm).2
    simp only [Field.key] at hkey
    omega

/-! ### The page -/

/-- What stands of a word of DEC that SOFT_RST has worked on. -/
def RstDone (x : Dev) (k : Nat) : Prop :=
  (∀ f ∈ fieldsAt (0x032000 + 4 * k), f.acc = .rws → f ≠ HDR.PG_EN 0x032000 → (tget? x.pend f.key).map PendVal.val = some f.reset) ∧
    ∀ f ∈ rstDirect (0x032000 + 4 * k), x.rd f = f.reset

/-- What SOFT_RST of DEC keeps in every word. -/
def RstKeeps (d x : Dev) : Prop := x.pair = d.pair ∧ ∀ f : Field, fieldOfKey f.key = some f → f.acc = .rws → x.rd f = d.rd f

theorem softRst_dec (d : Dev) (now : Nat) (hst : d.pair.st ≠ .standby) :
    let e := d.each (List.range 1024) (fun d k => d.softRstWord now (0x032000 + 4 * k))
    (∀ f : Field, fieldOfKey f.key = some f → f.acc = .rws → e.rd f = d.rd f) ∧ ∀ k, k < 1024 → RstDone e k := by
  have hword : ∀ k ∈ List.range 1024, (0x032000 + 4 * k) / 0x1000 = 0x32 := fun k hk => by
    have := List.mem_range.mp hk
    omega
  have h : RstKeeps d (d.each (List.range 1024) (fun d k => d.softRstWord now (0x032000 + 4 * k))) ∧
      ∀ k ∈ List.range 1024, RstDone (d.each (List.range 1024) (fun d k => d.softRstWord now (0x032000 + 4 * k))) k := by
    refine Dev.each_establishes (P := RstKeeps d) (Q := RstDone) (fun x n hn hx => ?_) (fun x n hn hx => ?_) (fun x n hn k hk hne hx hq => ?_)
      ⟨rfl, fun _ _ _ => rfl⟩
    all_goals
      obtain ⟨hpair, hpend, hother, hself, hkeep⟩ := softRstWord_dec x now (hword n hn) (by rw [hx.1]; exact hst)
    · exact ⟨hpair.trans hx.1, fun f hf hacc => (hkeep f fun g hg => rstDirect_key_ne (hword n hn) hf hacc hg).trans (hx.2 f hf hacc)⟩
    · exact ⟨hpend, hself⟩
    · refine ⟨fun f hf hacc hen => (hother f ?_ (placed_of_mem_dec (hword k hk) hf).2).trans (hq.1 f hf hacc hen),
        fun f hf => (hkeep f fun g hg hkey => ?_).trans (hq.2 f hf)⟩
      · rw [addr_of_mem_fieldsAt hf]
        omega
      · have hfm := (List.mem_filter.mp hf).1
        have hgm := (List.mem_filter.mp hg).1
        have h1 := addr_of_mem_fieldsAt hfm
        have h2 := addr_of_mem_fieldsAt hgm
        have h3 := (placed_of_mem_dec (hword k hk) hfm).2
        have h4 := (placed_of_mem_dec (hword n hn) hgm).2
        simp only [Field.key] at hkey
        omega
  exact ⟨h.1.2, fun k hk => h.2 k (List.mem_range.mpr hk)⟩

theorem softRst_effect (s : State) (el : Nat) {a : BitVec 24} (ha : isPage (pageOf a) = true) :
    Answers (.softRst el a) s (fun now d e => d.hif.inService = true →
      e = (List.range 1024).foldl (fun d k => d.softRstWord now (pageOf a + 4 * k)) d ∧
      (pageOf a = 0x032000 → d.pair.st ≠ .standby →
        (∀ f : Field, fieldOfKey f.key = some f → f.addr / 0x1000 = 0x32 → f.acc = .rws → f ≠ HDR.PG_EN 0x032000 →
          e.rdP f = f.reset ∧ e.rd f = d.rd f) ∧
        (∀ f : Field, fieldOfKey f.key = some f → f.addr / 0x1000 = 0x32 → f.acc = .rw → e.rd f = f.reset))) := by
  refine answers_of_forall_host (f := fun now d => if isPage (pageOf a) then d.softRst now (pageOf a) else d) rfl (fun now d _ => ?_)
  rw [if_pos ha]
  refine ⟨rfl, fun hp hst => ?_⟩
  rw [hp]
  obtain ⟨hrd, hdone⟩ := softRst_dec d now hst
  have heq : d.softRst now 0x032000 = d.each (List.range 1024) (fun d k => d.softRstWord now (0x032000 + 4 * k)) := rfl
  rw [heq]
  generalize d.each (List.range 1024) (fun d k => d.softRstWord now (0x032000 + 4 * k)) = e at *
  have hplace : ∀ f : Field, fieldOfKey f.key = some f → f.addr / 0x1000 = 0x32 → ∃ k, k < 1024 ∧ f ∈ fieldsAt (0x032000 + 4 * k) := fun f hf hpage => by
    have hmem := mem_fieldsAt_of_fieldOfKey hf
    obtain ⟨h4, -⟩ := placed_of_mem_dec hpage hmem
    refine ⟨(f.addr - 0x032000) / 4, by omega, ?_⟩
    rwa [show 0x032000 + 4 * ((f.addr - 0x032000) / 4) = f.addr by omega]
  refine ⟨fun f hf hpage hacc hen => ⟨?_, hrd f hf hacc⟩, fun f hf hpage hacc => ?_⟩
  · obtain ⟨k, hk, hmem⟩ := hplace f hf hpage
    rw [Dev.rdP, (hdone k hk).1 f hmem hacc hen]
    rfl
  · obtain ⟨k, hk, hmem⟩ := hplace f hf hpage
    exact (hdone k hk).2 f (List.mem_filter.mpr ⟨hmem, by simp [hacc]⟩)

/-- Settles O10: FREEZE and UPD_HOLD act on their page alone, and SOFT_RST gives each field its reset value in the way of its access. -/
theorem freezeHoldAndSoftReset : Obligations.FreezeHoldAndSoftReset := by
  unfold Obligations.FreezeHoldAndSoftReset
  exact ⟨fun s el a ha => ⟨freezeOn_effect s el ha, freezeOff_effect s el ha, updHoldOn_effect s el ha, updHoldOff_effect s el ha⟩,
    fun s el a ha => ⟨softRst_effect s el ha, softRstWord_idle, softRstWord_single⟩⟩

end Sys2Proof.Machine
end

section
/-! PROOFS. What the commands of the actuator channels leave as it was. -/
namespace Sys2Proof.Machine

/-! ### Channels only -/

/-- The block without registers and channels. -/
def Dev.sansChannels (d : Dev) : Dev := { d with regs := [], idc := [] }

/-- The block without registers, recorder and channels. -/
def Dev.sansChannelEvents (d : Dev) : Dev := { d.sansChannels with evh := {}, rec_ := {} }

/-- A change of the channels and their pages only. -/
abbrev ChannelTouch (d e : Dev) : Prop := Touches channelPages Dev.sansChannels d e

/-- The same with a firing. -/
abbrev ChannelEvents (d e : Dev) : Prop := Touches channelPages Dev.sansChannelEvents d e

theorem ChannelTouch.events {d e : Dev} (h : ChannelTouch d e) : ChannelEvents d e :=
  h.mono (fun p hp => ⟨p, hp, le_rfl, le_rfl⟩) (fun hk => (congrArg Dev.sansChannelEvents hk :))

/-- What a command leaves of the block that stays in the channels. -/
theorem ChannelTouch.stays {d e : Dev} (h : ChannelTouch d e) :
    RegsWithin channelPages d e ∧ e = { d with regs := e.regs, idc := e.idc } :=
  ⟨h.regs, (congrArg (fun x : Dev => { x with regs := e.regs, idc := e.idc }) h.rest :)⟩

theorem ChannelEvents.stays {d e : Dev} (h : ChannelEvents d e) :
    RegsWithin channelPages d e ∧ e = { d with regs := e.regs, evh := e.evh, rec_ := e.rec_, idc := e.idc } :=
  ⟨h.regs, (congrArg (fun x : Dev => { x with regs := e.regs, evh := e.evh, rec_ := e.rec_, idc := e.idc }) h.rest :)⟩

theorem channelTouch_modIdc (d : Dev) (c : Nat) (f : IdcCh → IdcCh) : ChannelTouch d (d.modIdc c f) := Touches.of_regs rfl rfl

theorem channelTouch_latchEnds (d : Dev) (now c : Nat) : ChannelTouch d (d.latchEnds now c) := by
  have hend : ∀ x : Dev, ChannelTouch x (x.endDrive now c [14] false) := fun x => by
    unfold Dev.endDrive
    split
    · exact channelTouch_modIdc x c _
    · exact Touches.refl x
  exact (Touches.opt (channelTouch_modIdc d c _)).trans (hend _)

theorem channelTouch_idcShow (d : Dev) {g : Nat} (hg : g < 8) : ChannelTouch d (d.idcShow g) :=
  (regTouch_idcShow d hg).mono (fun p hp => ⟨p, hp, le_rfl, le_rfl⟩) (fun hk => (congrArg Dev.sansChannels hk :))

theorem channelTouch_idcFaultEnd (d : Dev) {c : Nat} (hc : c < 32) : ChannelTouch d (d.idcFaultEnd c) :=
  Touches.ite (fun _ => channelTouch_modIdc d c _) (fun _ => Touches.wr d _ _ (by clear * - hc; decide +revert) (by rfl))

theorem channelEvents_idcFault (d : Dev) (now : Nat) {c : Nat} (hc : c < 32) (code : Nat) : ChannelEvents d (d.idcFault now c code) := by
  unfold Dev.idcFault
  extract_lets old d1
  have h1 : ChannelEvents d d1 := Touches.wr d _ _ (by clear * - hc; decide +revert) (by rfl)
  exact Touches.ite (fun _ => (channelTouch_modIdc d c _).events)
    (fun _ => h1.trans (Touches.opt (Touches.fire _ _ _ _ _ (by intros; rfl))))

theorem channelEvents_idcGroupLatch (d : Dev) (now : Nat) {g : Nat} (hg : g < 8) (oc : Bool) : ChannelEvents d (d.idcGroupLatch now g oc) := by
  have hends : ChannelTouch d (d.each (groupChs g) (fun d c => d.latchEnds now c)) :=
    Touches.each _ _ (fun x c _ => channelTouch_latchEnds x now c) d
  have heq : d.idcGroupLatch now g oc =
      (fun x : Dev => (if x.on (IDG.GRP_LATCH g) then (x.wr (IDG.GRP_LATCH g) 1).wrB (IDG.HSG_OC g) oc
        else ((x.wr (IDG.GRP_LATCH g) 1).wrB (IDG.HSG_OC g) oc).fire now EVT.IDC_GRP_LATCH g (b2n oc)).idcShow g)
      (d.each (groupChs g) (fun d c => d.latchEnds now c)) := rfl
  rw [heq]
  generalize d.each (groupChs g) (fun d c => d.latchEnds now c) = x at hends ⊢
  have hwr : ChannelEvents x ((x.wr (IDG.GRP_LATCH g) 1).wrB (IDG.HSG_OC g) oc) :=
    (Touches.wr x _ _ (by clear * - hg; decide +revert) (by rfl)).trans (Touches.wr _ _ _ (by clear * - hg; decide +revert) (by rfl))
  have hfire : ChannelEvents x (if x.on (IDG.GRP_LATCH g) then (x.wr (IDG.GRP_LATCH g) 1).wrB (IDG.HSG_OC g) oc
      else ((x.wr (IDG.GRP_LATCH g) 1).wrB (IDG.HSG_OC g) oc).fire now EVT.IDC_GRP_LATCH g (b2n oc)) :=
    Touches.ite (fun _ => hwr) (fun _ => hwr.trans (Touches.fire _ _ _ _ _ (by intros; rfl)))
  exact (hends.events.trans hfire).trans (channelTouch_idcShow _ hg).events

/-! ### The commands -/

/-- A command of the actuator channels stays in the map's count of unconfirmed movements, the actuator pages, and the parts a drive changes. -/
def IdcStays (d e : Dev) : Prop :=
  RegsWithin [(0x030000, 0x031000), (0x040000, 0x048000)] d e ∧
    e = { d with
          regs := e.regs
          evh := e.evh
          rec_ := e.rec_
          tst := e.tst
          cov := e.cov
          dec := e.dec
          ksp := e.ksp
          pair := e.pair
          idc := e.idc }

theorem IdcTouch.stays {d e : Dev} (h : IdcTouch d e) : IdcStays d e := by
  have hrest : e.sansIdcParts = d.sansIdcParts := (congrArg (fun x => x.1.1) h.rest :)
  exact ⟨h.regs.mono (by decide), congrArg (fun x : Dev => { x with
    regs := e.regs
    evh := e.evh
    rec_ := e.rec_
    tst := e.tst
    cov := e.cov
    dec := e.dec
    ksp := e.ksp
    pair := e.pair
    idc := e.idc }) hrest⟩

theorem idcTouch_latchEnds (d : Dev) (now c : Nat) : IdcTouch d (d.latchEnds now c) :=
  (Touches.opt (idcTouch_modIdc d c _ (by intro; rfl))).trans (idcTouch_endDrive _ _ _ _ _)

theorem idcTouch_idcFault (d : Dev) (now : Nat) {c : Nat} (hc : c < 32) (code : Nat) : IdcTouch d (d.idcFault now c code) := by
  unfold Dev.idcFault
  extract_lets old d1
  have h1 : IdcTouch d d1 := Touches.wr d _ _ (by clear * - hc; decide +revert) (by rfl)
  exact Touches.ite (fun _ => idcTouch_modIdc d c _ (by intro; rfl))
    (fun _ => h1.trans (Touches.opt (Touches.fire _ _ _ _ _ (by intros; rfl))))

theorem idcTouch_idcLatch (d : Dev) (now : Nat) {c : Nat} (hc : c < 32) (code : Nat) : IdcTouch d (d.idcLatch now c code) :=
  (((idcTouch_latchEnds d now c).trans (idcTouch_modIdc _ c _ (by intro; rfl))).trans (idcTouch_idcFault _ now hc code)).trans
    (idcTouch_readmit _ now (by omega))

theorem idcTouch_idcFaultEnd (d : Dev) {c : Nat} (hc : c < 32) : IdcTouch d (d.idcFaultEnd c) :=
  Touches.ite (fun _ => idcTouch_modIdc d c _ (by intro; rfl)) (fun _ => Touches.wr d _ _ (by clear * - hc; decide +revert) (by rfl))

theorem idcTouch_snuffAgain (d : Dev) (now : Nat) {c : Nat} (hc : c < 32) : IdcTouch d (d.snuffAgain now c) :=
  Touches.opt ((idcTouch_chOn d c now now).trans (idcTouch_idcRun _ now hc))

theorem idcTouch_idcFltClr (d : Dev) (now : Nat) {c : Nat} (hc : c < 32) : IdcTouch d (d.idcFltClr now c) :=
  Touches.opt ((((idcTouch_modIdc d c _ (by intro; rfl)).trans (idcTouch_idcFaultEnd _ hc)).trans (idcTouch_snuffAgain _ now hc)).trans
    (idcTouch_idcShow _ (by omega)))

/-- What GRP_FLT_CLR does on channel `c` before the channel goes on in its snuff state. -/
def Dev.grpClrFault (d : Dev) (c : Nat) : Dev :=
  let d := d.modIdc c (fun x => { x with cmds := [] })
  if (d.idcFaultOf c = 2 || d.idcFaultOf c = 4) && !(d.idcCh c).latched then d.idcFaultEnd c else d

theorem Dev.grpClrCh_eq (d : Dev) (now c : Nat) : d.grpClrCh now c = (d.grpClrFault c).snuffAgain now c := rfl

theorem idcTouch_grpClrFault (d : Dev) {c : Nat} (hc : c < 32) : IdcTouch d (d.grpClrFault c) :=
  (idcTouch_modIdc d c (fun x => { x with cmds := [] }) (by intro; rfl)).trans (Touches.opt (idcTouch_idcFaultEnd _ hc))

theorem channelTouch_grpClrFault (d : Dev) {c : Nat} (hc : c < 32) : ChannelTouch d (d.grpClrFault c) :=
  (channelTouch_modIdc d c (fun x => { x with cmds := [] })).trans (Touches.opt (channelTouch_idcFaultEnd _ hc))

/-- GRP_FLT_CLR of a latched group (R323). -/
theorem Dev.grpFltClr_of_latched {d : Dev} {g : Nat} (now : Nat) (h : d.on (IDG.GRP_LATCH g) = true) :
    d.grpFltClr now g = ((((d.wr (IDG.GRP_LATCH g) 0).wr (IDG.HSG_OC g) 0).wr (IDG.MISMATCH g) 0).each (groupChs g)
      (fun d c => d.grpClrCh now c)).idcShow g := if_pos h

theorem idcTouch_grpFltClr (d : Dev) (now : Nat) {g : Nat} (hg : g < 8) : IdcTouch d (d.grpFltClr now g) := by
  by_cases hl : d.on (IDG.GRP_LATCH g) = true
  · rw [Dev.grpFltClr_of_latched now hl]
    refine Touches.trans (Touches.trans ?_ (Touches.each _ _ (fun x c hc => ?_) _)) (idcTouch_idcShow _ hg)
    · exact ((Touches.wr d _ _ (by clear * - hg; decide +revert) (by rfl)).trans
        (Touches.wr _ _ _ (by clear * - hg; decide +revert) (by rfl))).trans (Touches.wr _ _ _ (by clear * - hg; decide +revert) (by rfl))
    · have hc := groupChs_lt hg hc
      rw [Dev.grpClrCh_eq]
      exact (idcTouch_grpClrFault x hc).trans (idcTouch_snuffAgain _ now hc)
  · rw [Dev.grpFltClr, if_neg hl]
    exact Touches.refl d

/-- PULSE_START to GRP_FLT_CLR stay in their unit. -/
theorem idcCommands_stay (s : State) (el : Nat) (c : Fin 32) (g : Fin 8) (ma : BitVec 16) (t : BitVec 10) (held : Nat) :
    ∀ i ∈ [Instr.pulseStart el c, .pulseEnd el c, .minOnEnd el c, .minOffEnd el c, .scSup el c ma held, .staggerMaxExpiry el g,
      .pulseRecord el c t, .idcFltClr el c, .grpFltClr el g], Answers i s (fun _ d e => IdcStays d e) := by
  have hrun : ∀ (d : Dev) (now : Nat), IdcStays d (if d.driving then d.idcRun now c.val else d) := fun d now =>
    IdcTouch.stays (Touches.opt (idcTouch_idcRun d now c.isLt))
  simp only [List.forall_mem_cons, List.not_mem_nil, false_implies, implies_true, and_true]
  refine ⟨?_, answers_of_forall (f := fun now d => if d.driving then d.idcRun now c.val else d) rfl fun now d => hrun d now,
    answers_of_forall (f := fun now d => if d.driving then d.idcRun now c.val else d) rfl fun now d => hrun d now, ?_, ?_, ?_, ?_, ?_, ?_⟩
  · refine answers_of_forall (f := fun now d => if d.driving then (d.idcFeed now c.val).idcRun now c.val else d) rfl fun now d => ?_
    exact IdcTouch.stays (Touches.opt (Touches.trans (Touches.opt (idcTouch_chStay _ _ _ _)) (idcTouch_idcRun _ now c.isLt)))
  · refine answers_of_forall (f := fun now d => if d.driving then d.idcTime now c.val else d) rfl fun now d => ?_
    exact IdcTouch.stays (Touches.opt (idcTouch_idcTimeN 24 d now c.isLt))
  · refine answers_of_forall (f := fun now d => if d.driving && (d.idcCh c.val).act == .on && decide (6000 < ma.toNat) && decide (us 2 ≤ held) then
      d.idcLatch now c.val 3 else d) rfl fun now d => ?_
    exact IdcTouch.stays (Touches.opt (idcTouch_idcLatch d now c.isLt 3))
  · refine answers_of_forall (f := fun now d => if d.driving then d.readmit now g.val else d) rfl fun now d => ?_
    exact IdcTouch.stays (Touches.opt (idcTouch_readmit d now g.isLt))
  · refine answers_of_forall (f := fun now d => match (d.idcCh c.val).done with
      | some p => if d.alive && decide (p.ended + ms p.prof.ckWin ≤ now) then (d.wrS (IDG.DIE_TEMP (c.val / 4)) t.toInt).finishRecord now c.val else d
      | none => d) rfl fun now d => ?_
    have htemp : IdcTouch d (d.wrS (IDG.DIE_TEMP (c.val / 4)) t.toInt) := Touches.wr d _ _ (by clear * -; decide +revert) (by rfl)
    cases (d.idcCh c.val).done with
    | none => exact IdcTouch.stays (Touches.refl d)
    | some p => exact IdcTouch.stays (Touches.opt (htemp.trans (idcTouch_finishRecord _ now c.isLt)))
  · refine answers_of_forall (f := fun now d => if d.hif.inService then d.idcFltClr now c.val else d) rfl fun now d => ?_
    exact IdcTouch.stays (Touches.opt (idcTouch_idcFltClr d now c.isLt))
  · refine answers_of_forall (f := fun now d => if d.hif.inService then d.grpFltClr now g.val else d) rfl fun now d => ?_
    exact IdcTouch.stays (Touches.opt (idcTouch_grpFltClr d now g.isLt))

/-- SC_GND and HSG_OC stay in the channels and their pages. -/
theorem idcGroupFaults_stay (s : State) (el : Nat) (c : Fin 32) (g : Fin 8) (ma : BitVec 16) (held : Nat) :
    ∀ i ∈ [Instr.scGnd el c ma, .hsgOc el g ma held], Answers i s (fun _ d e => RegsWithin channelPages d e ∧
      e = { d with regs := e.regs, evh := e.evh, rec_ := e.rec_, idc := e.idc }) := by
  simp only [List.forall_mem_cons, List.not_mem_nil, false_implies, implies_true, and_true]
  constructor
  · refine answers_of_forall (f := fun now d => if d.driving && d.notFallen now c.val ma.toNat then d.idcScGnd now c.val else d) rfl
      fun now d => ChannelEvents.stays (Touches.opt ?_)
    exact (channelEvents_idcGroupLatch d now (by omega) false).trans (channelEvents_idcFault _ now c.isLt 2)
  · refine answers_of_forall (f := fun now d =>
      if d.driving && d.on (IDG.HSG_ON g.val) && decide (10000 < ma.toNat) && decide (us 2 ≤ held) then
        let d := d.wr (IDG.I_HSG g.val) (min 4095 ma.toNat)
        let on_ := (groupChs g.val).filter (fun c => (d.idcCh c).act == .on)
        (d.idcGroupLatch now g.val true).each on_ (fun d c => d.idcFault now c 4) else d) rfl
      fun now d => ChannelEvents.stays (Touches.opt ?_)
    have hmeas : ChannelEvents d (d.wr (IDG.I_HSG g.val) (min 4095 ma.toNat)) := Touches.wr d _ _ (by clear * -; decide +revert) (by rfl)
    generalize d.wr (IDG.I_HSG g.val) (min 4095 ma.toNat) = x at hmeas ⊢
    exact (hmeas.trans (channelEvents_idcGroupLatch x now g.isLt true)).trans (Touches.each _ _ (fun y k hk =>
      channelEvents_idcFault y now (groupChs_lt g.isLt (List.mem_filter.mp hk).1) 4) _)

/-- Every channel's snuff state stands. -/
def SnuffsKept (d e : Dev) : Prop := ∀ k, (e.idcCh k).snuff = (d.idcCh k).snuff

theorem Dev.snuff_grpClrFault (d : Dev) {c : Nat} (hc : c < 32) : SnuffsKept d (d.grpClrFault c) := fun k =>
  congrArg Prod.fst ((idcTouch_grpClrFault d hc).mode k)

/-- FLT_CLR and GRP_FLT_CLR where no channel stands in the snuff state ON. -/
theorem idcClears_stay (s : State) (el : Nat) (c : Fin 32) (g : Fin 8) :
    ∀ i ∈ [Instr.idcFltClr el c, .grpFltClr el g], Answers i s (fun _ d e => (∀ k, k < 32 → (d.idcCh k).snuff ≠ some 1) →
      RegsWithin channelPages d e ∧ e = { d with regs := e.regs, idc := e.idc }) := by
  simp only [List.forall_mem_cons, List.not_mem_nil, false_implies, implies_true, and_true]
  constructor
  · refine answers_of_forall (f := fun now d => if d.hif.inService then d.idcFltClr now c.val else d) rfl
      fun now d hsnuff => ChannelTouch.stays (Touches.opt (Touches.opt ?_))
    have hfault := (channelTouch_modIdc d c (fun x => { x with latched := false, cmds := [] })).trans (channelTouch_idcFaultEnd _ c.isLt)
    have hmode := IdcTouch.mode ((idcTouch_modIdc d c (fun x => { x with latched := false, cmds := [] }) (by intro; rfl)).trans
      (idcTouch_idcFaultEnd _ c.isLt)) c
    generalize (d.modIdc c (fun x => { x with latched := false, cmds := [] })).idcFaultEnd c = x at hfault hmode ⊢
    rw [Dev.snuffAgain_of_ne now (by rw [show (x.idcCh c).snuff = (d.idcCh c).snuff from congrArg Prod.fst hmode]; exact hsnuff c c.isLt)]
    exact hfault.trans (channelTouch_idcShow x (by omega))
  · refine answers_of_forall (f := fun now d => if d.hif.inService then d.grpFltClr now g.val else d) rfl
      fun now d hsnuff => ChannelTouch.stays (Touches.opt ?_)
    by_cases hl : d.on (IDG.GRP_LATCH g) = true
    · rw [Dev.grpFltClr_of_latched now hl]
      have hwr : ChannelTouch d (((d.wr (IDG.GRP_LATCH g) 0).wr (IDG.HSG_OC g) 0).wr (IDG.MISMATCH g) 0) :=
        ((Touches.wr d _ _ (by clear * -; decide +revert) (by rfl)).trans
          (Touches.wr _ _ _ (by clear * -; decide +revert) (by rfl))).trans (Touches.wr _ _ _ (by clear * -; decide +revert) (by rfl))
      have hsnuff : ∀ k, k < 32 → ((((d.wr (IDG.GRP_LATCH g) 0).wr (IDG.HSG_OC g) 0).wr (IDG.MISMATCH g) 0).idcCh k).snuff ≠ some 1 := hsnuff
      generalize ((d.wr (IDG.GRP_LATCH g) 0).wr (IDG.HSG_OC g) 0).wr (IDG.MISMATCH g) 0 = x at hwr hsnuff ⊢
      have hturns : ∀ (l : List Nat) (y : Dev), (∀ k ∈ l, k < 32) → (∀ k, k < 32 → (y.idcCh k).snuff ≠ some 1) →
          ChannelTouch y (y.each l (fun d c => d.grpClrCh now c)) := by
        intro l
        induction l with
        | nil => exact fun y _ _ => Touches.refl y
        | cons k l ih =>
          intro y hl hy
          have hk : k < 32 := hl k (by simp)
          have hkept := Dev.snuff_grpClrFault y hk
          have hturn : y.grpClrCh now k = y.grpClrFault k := Dev.snuffAgain_of_ne (d := y.grpClrFault k) now (hkept k ▸ hy k hk)
          refine Touches.trans (b := y.grpClrCh now k) ?_ (ih _ (fun j hj => hl j (by simp [hj])) fun j hj => ?_)
          · rw [hturn]
            exact channelTouch_grpClrFault y hk
          · rw [hturn, hkept j]
            exact hy j hj
      exact (hwr.trans (hturns _ x (fun k hk => groupChs_lt g.isLt hk) hsnuff)).trans (channelTouch_idcShow _ g.isLt)
    · rw [Dev.grpFltClr, if_neg hl]
      exact Touches.refl d

end Sys2Proof.Machine
end

section
/-! PROOFS. What the commands of the load switches leave as it was. -/
namespace Sys2Proof.Machine

/-- The block without registers, recorder and the parts a load switch's operations change. -/
def Dev.sansSwitchEvents (d : Dev) : Dev := { d.sansLswParts with evh := {}, rec_ := {} }

/-- The same without the mark of a shed in this episode of DIM. -/
def Dev.sansShedMark (d : Dev) : Dev := { d.sansSwitchEvents with pwr := { d.pwr with dimShed := false } }

/-- A change of the switches, their pages and the paint state only. -/
abbrev SwitchTouch (d e : Dev) : Prop := Touches lswPages Dev.sansLswParts d e

/-- The same with a firing. -/
abbrev SwitchEvents (d e : Dev) : Prop := Touches lswPages Dev.sansSwitchEvents d e

/-- The same with the mark of a shed. -/
abbrev SwitchSheds (d e : Dev) : Prop := Touches lswPages Dev.sansShedMark d e

theorem LswTouch.switch {d e : Dev} (h : LswTouch d e) : SwitchTouch d e := h.mono (by decide) (fun hk => (congrArg Prod.fst hk :))

theorem SwitchTouch.events {d e : Dev} (h : SwitchTouch d e) : SwitchEvents d e :=
  h.mono (by decide) (fun hk => (congrArg Dev.sansSwitchEvents hk :))

theorem LswTouch.events {d e : Dev} (h : LswTouch d e) : SwitchEvents d e := SwitchTouch.events (LswTouch.switch h)

theorem SwitchEvents.sheds {d e : Dev} (h : SwitchEvents d e) : SwitchSheds d e :=
  h.mono (by decide) (fun hk => (congrArg Dev.sansShedMark hk :))

theorem SwitchTouch.stays {d e : Dev} (h : SwitchTouch d e) :
    RegsWithin lswPages d e ∧ e = { d with regs := e.regs, cov := e.cov, pair := e.pair, lsw := e.lsw } :=
  ⟨h.regs, (congrArg (fun x : Dev => { x with regs := e.regs, cov := e.cov, pair := e.pair, lsw := e.lsw }) h.rest :)⟩

theorem SwitchEvents.stays {d e : Dev} (h : SwitchEvents d e) :
    RegsWithin lswPages d e ∧ e = { d with regs := e.regs, evh := e.evh, rec_ := e.rec_, cov := e.cov, pair := e.pair, lsw := e.lsw } :=
  ⟨h.regs, (congrArg (fun x : Dev => { x with regs := e.regs, evh := e.evh, rec_ := e.rec_, cov := e.cov, pair := e.pair, lsw := e.lsw }) h.rest :)⟩

theorem SwitchSheds.stays {d e : Dev} (h : SwitchSheds d e) :
    RegsWithin lswPages d e ∧ e = { d with
      regs := e.regs
      evh := e.evh
      rec_ := e.rec_
      cov := e.cov
      pair := e.pair
      lsw := e.lsw
      pwr := { d.pwr with dimShed := e.pwr.dimShed } } := by
  have hpwr : ({ e.pwr with dimShed := false } : PwrBlk) = { d.pwr with dimShed := false } := congrArg Dev.pwr h.rest
  have hpwr' : e.pwr = { d.pwr with dimShed := e.pwr.dimShed } := congrArg (fun p : PwrBlk => { p with dimShed := e.pwr.dimShed }) hpwr
  refine ⟨h.regs, ?_⟩
  rw [← hpwr']
  exact (congrArg (fun x : Dev => { x with
    regs := e.regs
    evh := e.evh
    rec_ := e.rec_
    cov := e.cov
    pair := e.pair
    lsw := e.lsw
    pwr := e.pwr }) h.rest :)

theorem switchTouch_modLsw (d : Dev) (n : Nat) (f : LswCh → LswCh) : SwitchTouch d (d.modLsw n f) := Touches.of_regs rfl rfl

theorem switchEvents_covPair {d e : Dev} (h : CovPair d e) : SwitchEvents d e := h.touches (by intros; rfl)

theorem switchEvents_lswFire (d : Dev) (now ev n v : Nat) : SwitchEvents d (d.lswFire now ev n v) :=
  Touches.opt (Touches.fire _ _ _ _ _ (by intros; rfl))

theorem switchEvents_lswFault (d : Dev) (now : Nat) {n : Nat} (hn : n < 16) (code : Nat) : SwitchEvents d (d.lswFault now n code) := by
  have hwr : SwitchEvents d (d.wr (LSW.FAULT n) code) := Touches.wr d _ _ (by clear * - hn; decide +revert) (by rfl)
  exact Touches.ite (fun _ => Touches.refl d) (fun _ => hwr.trans (switchEvents_lswFire _ _ _ _ _))

theorem switchEvents_lswSetLatch (d : Dev) (now : Nat) {n : Nat} (hn : n < 16) : SwitchEvents d (d.lswSetLatch now n) := by
  have hwr : SwitchEvents d (d.wr (LSW.THERM_LATCH n) 1) := Touches.wr d _ _ (by clear * - hn; decide +revert) (by rfl)
  exact hwr.trans (switchEvents_lswFire _ _ _ _ _)

/-- A restart is tried, and noted while the switch waits for it. -/
theorem switchEvents_restart (d : Dev) (now : Nat) {n : Nat} (hn : n < 16) (f : LswCh → LswCh) {x : Dev}
    (hx : (d.modLsw n f).lswApply now now n = x) :
    SwitchEvents d (if (x.lswCh n).waitFrom.isSome then x else x.modLsw n (fun c => { c with restart := false })) := by
  have h : SwitchEvents d x := hx ▸ (switchTouch_modLsw d n f).events.trans (lswTouch_lswApply _ now now hn).events
  exact Touches.ite (fun _ => h) (fun _ => h.trans (switchTouch_modLsw x n _).events)

theorem switchEvents_lswThermal (d : Dev) (now : Nat) {n : Nat} (hn : n < 16) (code : Nat) (hot : Bool) :
    SwitchEvents d (d.lswThermal now n code hot) := by
  unfold Dev.lswThermal
  extract_lets d1 d2 d3 d4 d5
  have h1 : SwitchEvents d d1 := Touches.trans (Touches.bump d (LSW.THERM_CNT n) (by clear * - hn; decide +revert) (by rfl)) (switchEvents_lswFault _ now hn code)
  have h2 : SwitchEvents d1 d2 := (switchTouch_modLsw d1 n _).events
  have h3 : SwitchEvents d2 d3 := Touches.ite (fun _ => switchEvents_lswSetLatch d2 now hn)
    (fun _ => Touches.opt ((switchEvents_lswFault d2 now hn 6).trans (switchEvents_lswSetLatch _ now hn)))
  exact (((h1.trans h2).trans h3).trans (lswTouch_lswStop d3 now hn).events).trans (switchEvents_restart d4 now hn _ rfl)

theorem switchTouch_lswCool (d : Dev) (now : Nat) {n : Nat} (hn : n < 16) : SwitchTouch d (d.lswCool now n) := by
  unfold Dev.lswCool
  extract_lets d1 d2
  have h2 : SwitchTouch d d2 := (switchTouch_modLsw d n _).trans (lswTouch_lswApply _ now now hn).switch
  exact Touches.ite (fun _ => h2) (fun _ => h2.trans (switchTouch_modLsw d2 n _))

theorem lswTouch_inrushOver (d : Dev) (now : Nat) {n : Nat} (hn : n < 16) : LswTouch d (d.inrushOver now n) :=
  (lswTouch_modLsw d n _ (by intro; rfl)).trans (lswTouch_lswShow _ now hn)

theorem switchSheds_shedEvent (d : Dev) (now : Nat) : SwitchSheds d (d.shedEvent now) :=
  Touches.ite (fun _ => Touches.refl d) (fun _ => Touches.trans (b := { d with pwr := { d.pwr with dimShed := true } })
    (Touches.of_regs rfl rfl) (Touches.fire _ _ _ _ _ (by intros; rfl)))

theorem switchSheds_lswExec (d : Dev) (now : Nat) {n : Nat} (hn : n < 16) (k : LswCmd) : SwitchSheds d (d.lswExec now n k) := by
  unfold Dev.lswExec
  extract_lets d1 d2
  have h1 : SwitchSheds d d1 := Touches.opt (switchSheds_shedEvent d now)
  have h2 : SwitchSheds d1 d2 := (switchTouch_modLsw d1 n _).events.sheds
  exact (h1.trans h2).trans (lswTouch_lswApply d2 now k.dt hn).events.sheds

theorem switchSheds_lswRun (d : Dev) (now : Nat) {n : Nat} (hn : n < 16) : SwitchSheds d (d.lswRun now n) :=
  Touches.trans (switchTouch_modLsw d n _).events.sheds (Touches.each _ _ (fun x k _ => switchSheds_lswExec x now hn k) _)

theorem switchEvents_lswOffFound (d : Dev) (now : Nat) {n : Nat} (hn : n < 16) (mv : Nat) : SwitchEvents d (d.lswOffFound now n mv) := by
  have hset : ∀ v, SwitchEvents d (d.wr (LSW.DIAG_OFF n) v) := fun v => Touches.wr d _ v (by clear * - hn; decide +revert) (by rfl)
  unfold Dev.lswOffFound
  exact Touches.ite (fun _ => hset 1) (fun _ => Touches.ite (fun _ => hset 2) (fun _ => Touches.ite
    (fun _ => Touches.ite (fun _ => hset 4) (fun _ => (hset 3).trans (switchEvents_lswFault _ now hn 3))) (fun _ => hset 5)))

theorem switchEvents_bankMeas (d : Dev) (now : Nat) {b : Nat} (hb : b < 4) (is : List Nat) : SwitchEvents d (d.bankMeas now b is) := by
  unfold Dev.bankMeas
  extract_lets d1 d2 total f
  have h1 : SwitchEvents d d1 := Touches.each _ _ (fun x _ _ => Touches.opt (switchEvents_covPair (covPair_covLoad x _ _ _))) d
  have h2 : SwitchEvents d1 d2 := Touches.each _ _ (fun x y hy => by
    have hn := bankSwitches_lt hb (List.of_mem_zip hy).1
    exact Touches.wr x _ _ (by clear * - hn; generalize y.1 = n at hn ⊢; decide +revert) (by rfl)) d1
  have hf : f = bankCurrent b := rfl
  clear_value total d2 d1 f
  have h3 : SwitchEvents d2 (d2.wrU f total) := Touches.wr d2 f _ (by subst hf; clear * - hb; decide +revert) (by rfl)
  exact ((h1.trans h2).trans h3).trans (Touches.wr _ _ _ (by clear * - hb; decide +revert) (by rfl))

theorem switchEvents_bankPeak (d : Dev) (now held : Nat) {b : Nat} (hb : b < 4) : SwitchEvents d (d.bankPeak now b held) := by
  have hover : SwitchEvents d (d.each ((bankSwitches b).filter (fun n => (d.lswCh n).inr)) (fun d n => d.inrushOver now n)) :=
    Touches.each _ _ (fun x n hn => (lswTouch_inrushOver x now (bankSwitches_lt hb (List.mem_filter.mp hn).1)).events) d
  have hcut : ∀ x : Dev, SwitchEvents x (x.bump LSB.INRUSH_CUT_CNT) := fun x => Touches.bump x _ (by decide) (by rfl)
  exact Touches.opt (((hover.trans (hcut _)).trans (switchEvents_lswFire _ _ _ _ _)).trans (lswTouch_lswAdmit _ now hb).events)

/-! ### The commands -/

theorem switchTimes_stay (s : State) (el : Nat) (c : Fin 16) (temp : BitVec 10) :
    ∀ i ∈ [Instr.lswAdmitTimeout el c, .inrushEnd el c, .coolRestart el c temp, .lswFltClr el c],
      Answers i s (fun _ d e => RegsWithin lswPages d e ∧ e = { d with regs := e.regs, cov := e.cov, pair := e.pair, lsw := e.lsw }) := by
  simp only [List.forall_mem_cons, List.not_mem_nil, false_implies, implies_true, and_true]
  refine ⟨?_, ?_, ?_, ?_⟩
  · refine answers_of_forall (f := fun now d => if d.driving then d.lswAdmit now (lswBank c.val) else d) rfl fun now d => ?_
    exact SwitchTouch.stays (Touches.opt (lswTouch_lswAdmit d now (lswBank_lt _)).switch)
  · refine answers_of_forall (f := fun now d =>
      if d.driving && (d.lswCh c.val).inr && decide ((d.lswCh c.val).onAt + d.lswInrush c.val ≤ now) then
        (d.inrushOver now c.val).lswAdmit now (lswBank c.val) else d) rfl fun now d => SwitchTouch.stays (Touches.opt ?_)
    exact LswTouch.switch ((lswTouch_inrushOver d now c.isLt).trans (lswTouch_lswAdmit _ now (lswBank_lt _)))
  · refine answers_of_forall (f := fun now d => if d.driving then
        let d := d.wrS (LSW.CH_TEMP c.val) temp.toInt
        if decide (temp.toInt ≤ 160) && (d.lswCh c.val).hot then d.lswCool now c.val else d
      else d) rfl fun now d => SwitchTouch.stays (Touches.opt ?_)
    have htemp : SwitchTouch d (d.wrS (LSW.CH_TEMP c.val) temp.toInt) := Touches.wr d _ _ (by clear * -; decide +revert) (by rfl)
    exact htemp.trans (Touches.opt (switchTouch_lswCool _ now c.isLt))
  · refine answers_of_forall (f := fun now d => if d.hif.inService then d.lswFltClr now c.val else d) rfl
      fun now d => SwitchTouch.stays (Touches.opt ?_)
    have hclr : SwitchTouch d ((d.wr (LSW.THERM_LATCH c.val) 0).wr (LSW.FAULT c.val) 0) :=
      (Touches.wr d _ _ (by clear * -; decide +revert) (by rfl)).trans (Touches.wr _ _ _ (by clear * -; decide +revert) (by rfl))
    exact (hclr.trans (switchTouch_modLsw _ c.val _)).trans (lswTouch_lswApply _ now now c.isLt).switch

theorem switchCommands_stay (s : State) (el : Nat) (c : Fin 16) :
    ∀ i ∈ [Instr.lswSwitchOn el c, .lswSwitchOff el c], Answers i s (fun _ d e => RegsWithin lswPages d e ∧
      e = { d with
            regs := e.regs
            evh := e.evh
            rec_ := e.rec_
            cov := e.cov
            pair := e.pair
            lsw := e.lsw
            pwr := { d.pwr with dimShed := e.pwr.dimShed } }) := by
  have hrun : ∀ i, exec i s = s.run i.elapsed (fun now d => if d.driving then d.lswRun now c.val else d) →
      Answers i s (fun _ d e => RegsWithin lswPages d e ∧ e = { d with
            regs := e.regs
            evh := e.evh
            rec_ := e.rec_
            cov := e.cov
            pair := e.pair
            lsw := e.lsw
            pwr := { d.pwr with dimShed := e.pwr.dimShed } }) := fun i hi =>
    answers_of_forall hi fun now d => SwitchSheds.stays (Touches.opt (switchSheds_lswRun d now c.isLt))
  simp only [List.forall_mem_cons, List.not_mem_nil, false_implies, implies_true, and_true]
  exact ⟨hrun _ rfl, hrun _ rfl⟩

theorem switchFaults_stay (s : State) (el : Nat) (c : Fin 16) (b : Fin 4) (i0 i1 i2 i3 : BitVec 16) (temp : BitVec 10) (held : Nat) :
    ∀ i ∈ [Instr.lswOverload el c i0 held, .thermalShutdown el c temp, .lswOpen el c i0 held, .lswScGnd el c i0 i1 held, .lswOffTest el c i0,
      .bankPeak el b i0 i1 i2 i3 held], Answers i s (fun _ d e => RegsWithin lswPages d e ∧
        e = { d with regs := e.regs, evh := e.evh, rec_ := e.rec_, cov := e.cov, pair := e.pair, lsw := e.lsw }) := by
  have hmeas : ∀ d : Dev, SwitchEvents d (d.wr (LSW.I_MEAS c.val) i0.toNat) := fun d =>
    Touches.wr d _ _ (by clear * -; decide +revert) (by rfl)
  simp only [List.forall_mem_cons, List.not_mem_nil, false_implies, implies_true, and_true]
  refine ⟨?_, ?_, ?_, ?_, ?_, ?_⟩
  · refine answers_of_forall (f := fun now d =>
      if d.driving && (d.lswCh c.val).drv && !(d.lswCh c.val).inr && decide (d.lswLimit now c.val ≤ i0.toNat) &&
          decide (ms (max 1 (d.rd (LSW.OVL_TIME c.val))) ≤ held) &&
          decide ((d.lswCh c.val).inrEnd + ms (max 1 (d.rd (LSW.OVL_TIME c.val))) ≤ now) then
        (d.wr (LSW.I_MEAS c.val) i0.toNat).lswThermal now c.val 4 false else d) rfl fun now d => SwitchEvents.stays (Touches.opt ?_)
    exact (hmeas d).trans (switchEvents_lswThermal _ now c.isLt 4 false)
  · refine answers_of_forall (f := fun now d => if d.driving then
        let d := d.wrS (LSW.CH_TEMP c.val) temp.toInt
        if decide (175 ≤ temp.toInt) && (d.lswCh c.val).drv then d.lswThermal now c.val 5 true else d
      else d) rfl fun now d => SwitchEvents.stays (Touches.opt ?_)
    have htemp : SwitchEvents d (d.wrS (LSW.CH_TEMP c.val) temp.toInt) := Touches.wr d _ _ (by clear * -; decide +revert) (by rfl)
    exact htemp.trans (Touches.opt (switchEvents_lswThermal _ now c.isLt 5 true))
  · refine answers_of_forall (f := fun now d =>
      if d.lswJudged c.val && !(d.lswCh c.val).inr && decide (i0.toNat < d.rd (LSW.OL_ON_MA c.val)) && decide (ms 10 ≤ held) &&
          decide ((d.lswCh c.val).inrEnd + ms 10 ≤ now) then
        (((d.wr (LSW.I_MEAS c.val) i0.toNat).lswFault now c.val 1).lswShow now c.val).covNoLoad c.val now else d) rfl
      fun now d => SwitchEvents.stays (Touches.opt ?_)
    exact (((hmeas d).trans (switchEvents_lswFault _ now c.isLt 1)).trans (lswTouch_lswShow _ now c.isLt).events).trans
      (switchEvents_covPair (covPair_covNoLoad _ _ _))
  · refine answers_of_forall (f := fun now d =>
      if d.lswJudged c.val && decide (d.lswLimit now c.val ≤ i0.toNat) && decide (i1.toNat < 2000) && decide (ms 1 ≤ held) then
        (((d.wr (LSW.I_MEAS c.val) i0.toNat).lswFault now c.val 2).lswShow now c.val).covLoad c.val now false else d) rfl
      fun now d => SwitchEvents.stays (Touches.opt ?_)
    exact (((hmeas d).trans (switchEvents_lswFault _ now c.isLt 2)).trans (lswTouch_lswShow _ now c.isLt).events).trans
      (switchEvents_covPair (covPair_covLoad _ _ _ _))
  · refine answers_of_forall (f := fun now d => if d.driving && d.pwr.stage == .none then d.lswOffTest now c.val i0.toNat else d) rfl
      fun now d => SwitchEvents.stays (Touches.opt ?_)
    rw [Dev.lswOffTest_eq]
    exact Touches.opt ((switchTouch_modLsw d c.val _).events.trans (switchEvents_lswOffFound _ now c.isLt _))
  · refine answers_of_forall (f := fun now d => if d.driving then
      (d.bankMeas now b.val [i0.toNat, i1.toNat, i2.toNat, i3.toNat]).bankPeak now b.val held else d) rfl
      fun now d => SwitchEvents.stays (Touches.opt ?_)
    exact (switchEvents_bankMeas d now b.isLt _).trans (switchEvents_bankPeak _ now held b.isLt)

end Sys2Proof.Machine
end

section
/-! PROOFS. What the commands of the PWM outputs, the trip inputs and motion feedback leave as it was. -/
namespace Sys2Proof.Machine

/-- A pair of registers that show one value. -/
theorem Touches.wr2 {α : Type} {ps : List (Nat × Nat)} {er : Dev → α} (d : Dev) (lo hi : Field) (v : Nat)
    (hw : lo.writable ps = true ∧ hi.writable ps = true) (her : ∀ d f v, er (Dev.wr d f v) = er d) : Touches ps er d (d.wr2 lo hi v) :=
  (Touches.wr d lo _ hw.1 (her _ _ _)).trans (Touches.wr _ hi _ hw.2 (her _ _ _))

/-! ### Outputs and trips -/

/-- The block without registers, recorder and PWM outputs. -/
def Dev.sansPwmEvents (d : Dev) : Dev := { d.sansPwmParts with evh := {}, rec_ := {} }

/-- An operation of the PWM outputs, with a firing. -/
abbrev PwmEvents (d e : Dev) : Prop := Touches pwmPages Dev.sansPwmEvents d e

theorem PwmTouch.events {d e : Dev} (h : PwmTouch d e) : PwmEvents d e :=
  h.mono (by decide) (fun hk => (congrArg (fun x : Dev × Bool => x.1.sansPwmEvents) hk :))

theorem PwmEvents.stays {d e : Dev} (h : PwmEvents d e) :
    RegsWithin pwmPages d e ∧ e = { d with regs := e.regs, evh := e.evh, rec_ := e.rec_, pwm := e.pwm } :=
  ⟨h.regs, (congrArg (fun x : Dev => { x with regs := e.regs, evh := e.evh, rec_ := e.rec_, pwm := e.pwm }) h.rest :)⟩

theorem pwmTouch_outEnWrite (d : Dev) (now v : Nat) : PwmTouch d (d.outEnWrite now v) := by
  unfold Dev.outEnWrite
  extract_lets d1 old ran d2
  have h2 : PwmTouch d d2 := (pwmTouch_pwmSyncAll d now).trans (Touches.wr d1 PWM.OUT_EN v (by decide) (by rfl))
  clear_value d2 ran old
  refine h2.trans (Touches.each _ _ (fun x n hn => ?_) d2)
  have hn : n < 12 := List.mem_range.mp hn
  refine Touches.ite (fun _ => Touches.refl x) (fun _ => ?_)
  extract_lets x1 x2 x3
  have h1 : PwmTouch x x1 := pwmTouch_modPwm x n _
  have h3 : PwmTouch x1 x3 := (pwmTouch_pwmTake x1 _).trans (pwmTouch_modPwm x2 _ _)
  clear_value x3
  exact h1.trans (Touches.opt ((h3.trans (Touches.wr x3 (PWM.CMP_ACT n) _ (by clear * - hn; decide +revert) (by rfl))).trans
    (pwmTouch_tripBoundary _ _ _)))

theorem pwmTouch_modTrip (d : Dev) (t : Nat) (f : TripIn → TripIn) : PwmTouch d (d.modTrip t f) := Touches.of_regs rfl rfl

theorem pwmEvents_tripAct (d : Dev) (now t : Nat) : PwmEvents d (d.tripAct now t) := by
  unfold Dev.tripAct
  extract_lets m was d1 c d2 d3
  have h2 : PwmTouch d d2 := (pwmTouch_modTrip d t _).trans (Touches.wr d1 TRIP.TRIP_CNT _ (by decide) (by rfl))
  clear_value d2
  have h3 : PwmTouch d2 d3 := Touches.each _ _ (fun x n _ => Touches.opt (pwmTouch_modPwm x n _)) d2
  exact (PwmTouch.events ((h2.trans h3).trans (pwmTouch_tripShow d3))).trans (Touches.fire _ _ _ _ _ (by intros; rfl))

theorem pwmTouch_level (d : Dev) (v : Nat) : PwmTouch d (d.wr TRIP.TRIP_LEVEL v) := Touches.wr d _ v (by decide) (by rfl)

theorem pwmEvents_tripAssert (d : Dev) (now t : Nat) : PwmEvents d (d.tripAssert now t) := by
  unfold Dev.tripAssert
  extract_lets d1 d2
  have h2 : PwmTouch d d2 := (pwmTouch_pwmSyncAll d now).trans (pwmTouch_level d1 _)
  exact Touches.ite (fun _ => Touches.refl d) (fun _ => Touches.ite (fun _ => PwmTouch.events (h2.trans (pwmTouch_modTrip d2 t _)))
    (fun _ => h2.events.trans (pwmEvents_tripAct d2 now t)))

theorem pwmTouch_tripDeassert (d : Dev) (now t : Nat) : PwmTouch d (d.tripDeassert now t) :=
  ((pwmTouch_pwmSyncAll d now).trans (pwmTouch_level _ _)).trans (pwmTouch_modTrip _ _ _)

theorem pwmEvents_tripLevel (d : Dev) (now t held : Nat) (high : Bool) : PwmEvents d (d.tripLevel now t held high) := by
  have hcfg : ∀ x : Dev, PwmEvents x (x.tripCfg now t) := fun x => by
    unfold Dev.tripCfg
    refine Touches.trans ?_ (pwmTouch_tripShow _).events
    exact Touches.ite (fun _ => pwmEvents_tripAssert x now t) (fun _ => Touches.ite (fun _ => (pwmTouch_tripDeassert x now t).events)
      (fun _ => Touches.opt (pwmTouch_modTrip x t _).events))
  exact Touches.opt ((pwmTouch_modTrip d t _).events.trans (hcfg _))

theorem pwmEvents_tripBlankEnd (d : Dev) (now t : Nat) : PwmEvents d (d.tripBlankEnd now t) :=
  (pwmTouch_pwmSyncAll d now).events.trans (Touches.opt (pwmEvents_tripAct _ now t))

theorem outputCommands_stay (s : State) (el : Nat) (m : BitVec 12) (t : Fin 4) (held : Nat) :
    ∀ i ∈ [Instr.outEn el m, .tripDeassert el t held, .tripAssert el t held, .tripBlankEnd el t],
      Answers i s (fun _ d e => RegsWithin pwmPages d e ∧ e = { d with regs := e.regs, evh := e.evh, rec_ := e.rec_, pwm := e.pwm }) := by
  simp only [List.forall_mem_cons, List.not_mem_nil, false_implies, implies_true, and_true]
  refine ⟨?_, ?_, ?_, ?_⟩
  · refine answers_of_forall (f := fun now d => if d.hif.inService then d.outEnWrite now m.toNat else d) rfl fun now d => ?_
    exact PwmEvents.stays (Touches.opt (pwmTouch_outEnWrite d now _).events)
  · refine answers_of_forall (f := fun now d => if d.pwr.st = .off then d else d.tripLevel now t.val held (!d.tripPol t.val)) rfl fun now d => ?_
    exact PwmEvents.stays (Touches.ite (fun _ => Touches.refl d) (fun _ => pwmEvents_tripLevel d now _ _ _))
  · refine answers_of_forall (f := fun now d => if d.pwr.st = .off then d else d.tripLevel now t.val held (d.tripPol t.val)) rfl fun now d => ?_
    exact PwmEvents.stays (Touches.ite (fun _ => Touches.refl d) (fun _ => pwmEvents_tripLevel d now _ _ _))
  · refine answers_of_forall (f := fun now d => if d.pwr.st = .off then d else d.tripBlankEnd now t.val) rfl fun now d => ?_
    exact PwmEvents.stays (Touches.ite (fun _ => Touches.refl d) (fun _ => pwmEvents_tripBlankEnd d now _))

/-! ### Motion feedback and loops -/

/-- The block without registers, recorder, feedback channels and loops. -/
def Dev.sansLoops (d : Dev) : Dev := { d with regs := [], evh := {}, rec_ := {}, rate := {}, fbk := [] }

/-- An operation of the feedback channels and of the loops that read them. -/
abbrev LoopTouch (d e : Dev) : Prop := Touches [(0x033000, 0x034000), (0x050000, 0x058000)] Dev.sansLoops d e

theorem LoopTouch.stays {d e : Dev} (h : LoopTouch d e) : RegsWithin [(0x033000, 0x034000), (0x050000, 0x058000)] d e ∧
    e = { d with regs := e.regs, evh := e.evh, rec_ := e.rec_, rate := e.rate, fbk := e.fbk } :=
  ⟨h.regs, (congrArg (fun x : Dev => { x with regs := e.regs, evh := e.evh, rec_ := e.rec_, rate := e.rate, fbk := e.fbk }) h.rest :)⟩

theorem loopTouch_modLoop (d : Dev) (p : Nat) (f : LoopSt → LoopSt) : LoopTouch d (d.modLoop p f) := Touches.of_regs rfl rfl

theorem loopTouch_modFbk (d : Dev) (n : Nat) (f : FbkCh → FbkCh) : LoopTouch d (d.modFbk n f) := Touches.of_regs rfl rfl

theorem loopTouch_fire (d : Dev) (now ev inst val : Nat) : LoopTouch d (d.fire now ev inst val) := Touches.fire d now ev inst val (by intros; rfl)

theorem loopTouch_fbCheck (d : Dev) (now t : Nat) {p : Nat} (hp : p < 8) (e1 : Option Nat) : LoopTouch d (d.fbCheck now t p e1) := by
  have hshow : ∀ (x : Dev) v, LoopTouch x (x.wr (RATE.FB_LOST p) v) := fun x v => Touches.wr x _ v (by clear * - hp; decide +revert) (by rfl)
  unfold Dev.fbCheck
  split
  · exact Touches.opt ((loopTouch_modLoop d p _).trans (hshow _ 0))
  · exact Touches.opt (((loopTouch_modLoop d p _).trans (hshow _ 1)).trans (loopTouch_fire _ _ _ _ _))

theorem loopTouch_idxMismatch (d : Dev) (now : Nat) {n : Nat} (hn : n < 8) : LoopTouch d (d.idxMismatch now n) := by
  unfold Dev.idxMismatch
  extract_lets d1 run d2
  have h1 : LoopTouch d d1 := loopTouch_modFbk d n _
  have h2 : LoopTouch d1 d2 := ((Touches.wr d1 (FBK.MISS_RUN n) _ (by clear * - hn; decide +revert) (by rfl)).trans
    (Touches.bump _ (FBK.IDX_MISMATCH_CNT n) (by clear * - hn; decide +revert) (by rfl))).trans (loopTouch_fire _ _ _ _ _)
  clear_value d2
  exact (h1.trans h2).trans (Touches.opt ((Touches.wr d2 (FBK.SUSPECT n) _ (by clear * - hn; decide +revert) (by rfl)).trans (loopTouch_fire _ _ _ _ _)))

theorem loopTouch_idxTravel (d : Dev) (now : Nat) {n : Nat} (hn : n < 8) : LoopTouch d (d.idxTravel now n) := by
  unfold Dev.idxTravel
  split
  · exact Touches.refl d
  · exact Touches.opt (((loopTouch_modFbk d n _).trans (Touches.wr _ (FBK.IDX_MISSING n) _ (by clear * - hn; decide +revert) (by rfl))).trans
      (loopTouch_idxMismatch _ now hn))

theorem loopTouch_fbkEdge (d : Dev) (now : Nat) {n : Nat} (hn : n < 8) (pinB a b : Bool) : LoopTouch d (d.fbkEdge now n pinB a b) := by
  unfold Dev.fbkEdge
  extract_lets c d1 d2 d3 d4
  have h1 : LoopTouch d d1 := Touches.wr d (FBK.POS n) _ (by clear * - hn; decide +revert) (by rfl)
  have h2 : LoopTouch d1 d2 := loopTouch_modFbk d1 n _
  have h3 : LoopTouch d2 d3 := Touches.wr2 d2 _ _ _ (by clear * - hn; decide +revert) (by intros; rfl)
  have h4 : LoopTouch d3 d4 := Touches.each _ _ (fun x p hp => Touches.opt (loopTouch_fbCheck x now now (List.mem_range.mp hp) _)) d3
  exact Touches.ite (fun _ => Touches.refl d) (fun _ => (((h1.trans h2).trans h3).trans h4).trans (loopTouch_idxTravel d4 now hn))

theorem fbkEdge_stays (s : State) (el : Nat) (c : Fin 8) (p a b : Bool) (held : Nat) :
    Answers (.fbkEdge el c p a b held) s (fun _ d e => RegsWithin [(0x033000, 0x034000), (0x050000, 0x058000)] d e ∧
      e = { d with regs := e.regs, evh := e.evh, rec_ := e.rec_, rate := e.rate, fbk := e.fbk }) := by
  refine answers_of_forall (f := fun now d => if d.pwr.st = .off || !d.fbkPasses c.val held then d else d.fbkEdge now c.val p a b) rfl
    fun now d => ?_
  exact LoopTouch.stays (Touches.ite (fun _ => Touches.refl d) (fun _ => loopTouch_fbkEdge d now c.isLt _ _ _))

/-- The block without registers, recorder, loops and the count of free values drawn. -/
def Dev.sansRates (d : Dev) : Dev := { d with regs := [], evh := {}, rec_ := {}, rate := {}, freeCtr := 0 }

/-- An operation of the loops. -/
abbrev RateTouch (d e : Dev) : Prop := Touches [(0x033000, 0x034000)] Dev.sansRates d e

theorem RateTouch.stays {d e : Dev} (h : RateTouch d e) : RegsWithin [(0x033000, 0x034000)] d e ∧
    e = { d with regs := e.regs, evh := e.evh, rec_ := e.rec_, rate := e.rate, freeCtr := e.freeCtr } :=
  ⟨h.regs, (congrArg (fun x : Dev => { x with regs := e.regs, evh := e.evh, rec_ := e.rec_, rate := e.rate, freeCtr := e.freeCtr }) h.rest :)⟩

theorem rateTouch_loopPv (d : Dev) (edge p : Nat) : RateTouch d (d.loopPv edge p).2 := by
  have hdraw : RateTouch d (d.drawS 32).2 := Touches.of_regs rfl rfl
  unfold Dev.loopPv
  dsimp only
  split
  · split
    · exact hdraw
    · exact Touches.refl d
  · exact Touches.refl d
  · split
    · exact hdraw
    · exact Touches.refl d
  · exact Touches.refl d

theorem rateTouch_devCheck (d : Dev) (now t sp : Nat) (pv : Int) {p : Nat} (hp : p < 8) : RateTouch d (d.devCheck now t p sp pv) := by
  have hshow : ∀ (x : Dev) v, RateTouch x (x.wr (RATE.DEV_ACT p) v) := fun x v => Touches.wr x _ v (by clear * - hp; decide +revert) (by rfl)
  unfold Dev.devCheck
  extract_lets pct hold dev d1 act
  have h1 : RateTouch d d1 := Touches.of_regs rfl rfl
  refine h1.trans ?_
  split
  · exact Touches.opt ((hshow d1 1).trans (Touches.fire _ _ _ _ _ (by intros; rfl)))
  · exact Touches.opt (hshow d1 0)
  · exact Touches.refl d1

theorem rateDeviation_stays (s : State) (el : Nat) (p : Fin 8) :
    Answers (.rateDeviation el p) s (fun _ d e => RegsWithin [(0x033000, 0x034000)] d e ∧
      e = { d with regs := e.regs, evh := e.evh, rec_ := e.rec_, rate := e.rate, freeCtr := e.freeCtr }) := by
  refine answers_of_forall (exec_rateDeviation el p s) fun now d => RateTouch.stays (Touches.opt ?_)
  exact (rateTouch_loopPv _ _ _).trans (rateTouch_devCheck _ _ _ _ _ p.isLt)

end Sys2Proof.Machine
end

section
/-! PROOFS. What the commands of the bus controllers, the node protocol, the sensor ports and the pose policy leave as it was. -/
namespace Sys2Proof.Machine

/-! ### The controllers -/

theorem CanTouch.stays {d e : Dev} (h : CanTouch d e) : RegsWithin canPages d e ∧ e = { d with regs := e.regs, can := e.can } :=
  ⟨h.regs, (congrArg (fun x : Dev => { x with regs := e.regs, can := e.can }) h.rest :)⟩

theorem canTouch_wr {n : Nat} (hn : n < 6) (d : Dev) (v : Nat) : ∀ f ∈ [CAN.CAN_STATE n, CAN.TEC n, CAN.REC_ERR n, CAN.TX_BUSY n, CAN.LISTEN n, CAN.ABD_STATE n],
    CanTouch d (d.wr f v) := fun f hf =>
  Touches.wr d f v (by
    have h : ∀ f ∈ [CAN.CAN_STATE n, CAN.TEC n, CAN.REC_ERR n, CAN.TX_BUSY n, CAN.LISTEN n, CAN.ABD_STATE n], f.writable canPages = true := by
      clear * - hn
      decide +revert
    exact h f hf) rfl

theorem canTouch_busOn (d : Dev) (now : Nat) {n : Nat} (hn : n < 6) : CanTouch d (d.busOn now n) :=
  Touches.opt ((((canTouch_wr hn d 1 _ (by simp)).trans (canTouch_wr hn _ 0 _ (by simp))).trans (canTouch_wr hn _ 0 _ (by simp))).trans
    (canTouch_canSettle _ now hn false))

theorem canTouch_busError (d : Dev) {n : Nat} (hn : n < 6) (tec rec_ : Nat) : CanTouch d (d.busError n tec rec_) := by
  unfold Dev.busError
  extract_lets d1 d2
  have h1 : CanTouch d d1 := (canTouch_wr hn d _ _ (by simp)).trans (canTouch_wr hn _ _ _ (by simp))
  have h2 : CanTouch d1 d2 := (canTouch_wr hn d1 3 _ (by simp)).trans (canTouch_wr hn _ 0 _ (by simp))
  exact Touches.ite (fun _ => Touches.refl d) (fun _ => h1.trans (Touches.ite (fun _ => h2.trans (canTouch_modCan d2 n _))
    (fun _ => canTouch_wr hn d1 _ _ (by simp))))

theorem canTouch_abdStart (d : Dev) (now : Nat) {n : Nat} (hn : n < 6) : CanTouch d (d.abdStart now n) :=
  (((canTouch_wr hn d 1 _ (by simp)).trans (canTouch_wr hn _ 1 _ (by simp))).trans (canTouch_canFollow _ hn)).trans (canTouch_modCan _ n _)

theorem busCommands_stay (s : State) (el : Nat) (n : Fin 6) (x : BitVec 9) (y : BitVec 8) :
    ∀ i ∈ [Instr.busOn el n, .busError el n x y, .abdStart el n], Answers i s (fun _ d e => RegsWithin canPages d e ∧
      e = { d with regs := e.regs, can := e.can }) := by
  simp only [List.forall_mem_cons, List.not_mem_nil, false_implies, implies_true, and_true]
  refine ⟨?_, ?_, ?_⟩
  · refine answers_of_forall (f := fun now d => if d.hif.inService then d.busOn now n.val else d) rfl fun now d => ?_
    exact CanTouch.stays (Touches.opt (canTouch_busOn d now n.isLt))
  · refine answers_of_forall (f := fun _ d => if d.alive then d.busError n.val x.toNat y.toNat else d) rfl fun now d => ?_
    exact CanTouch.stays (Touches.opt (canTouch_busError d n.isLt _ _))
  · refine answers_of_forall (f := fun now d => if d.hif.inService then d.abdStart now n.val else d) rfl fun now d => ?_
    exact CanTouch.stays (Touches.opt (canTouch_abdStart d now n.isLt))

/-! ### The node protocol -/

/-- The block without registers, nodes, and the parts that a point's confirmations and latencies stand in. -/
def Dev.sansReports (d : Dev) : Dev := { d.sansConf with vnp := [] }

/-- A node's latency report is taken. -/
abbrev ReportTouch (d e : Dev) : Prop := Touches [(0x030000, 0x031000), (0x060000, 0x066000)] Dev.sansReports d e

theorem ReportTouch.stays {d e : Dev} (h : ReportTouch d e) : RegsWithin [(0x030000, 0x031000), (0x060000, 0x066000)] d e ∧
    e = { d with regs := e.regs, cov := e.cov, dec := e.dec, pair := e.pair, vnp := e.vnp } :=
  ⟨h.regs, (congrArg (fun x : Dev => { x with regs := e.regs, cov := e.cov, dec := e.dec, pair := e.pair, vnp := e.vnp }) h.rest :)⟩

theorem ConfTouch.report {d e : Dev} (h : ConfTouch d e) : ReportTouch d e :=
  h.mono (by decide) (fun hk => (congrArg Dev.sansReports hk :))

theorem reportTouch_setNode (d : Dev) (b a : Nat) (v : VnpNode) : ReportTouch d (d.setNode b a v) := Touches.of_regs rfl rfl

theorem reportTouch_latRecord (d : Dev) (now : Nat) {b : Nat} (hb : b < 4) (a : Nat) (r : List Nat) : ReportTouch d (d.latRecord now b a r) := by
  unfold Dev.latRecord
  extract_lets by_ t10 ct start _ d1 oo cl so temp use
  refine Touches.ite (fun _ => Touches.bump d _ (by clear * - hb; decide +revert) (by rfl)) (fun _ => ?_)
  have h1 : ReportTouch d d1 := reportTouch_setNode d b a _
  clear_value d1
  split
  · exact h1
  · extract_lets off ce d2 d3
    have h2 : ReportTouch d1 d2 := Touches.opt (confTouch_latSample d1 now _ true _ _).report
    have h3 : ReportTouch d2 d3 := Touches.opt (confTouch_latSample d2 now _ false _ _).report
    exact ((h1.trans h2).trans h3).trans (confTouch_covRecord d3 now _ start _ _).report

theorem reportTouch_vnpLatency (d : Dev) (now : Nat) {b : Nat} (hb : b < 4) (a : Nat) (bs : List Nat) :
    ReportTouch d (d.vnpLatency now b a bs) := by
  have hheard : ReportTouch d (d.nodeHeard now b a) := Touches.ite (fun _ => Touches.refl d) (fun _ => reportTouch_setNode d b a _)
  exact Touches.ite (fun _ => Touches.refl d) (fun _ => hheard.trans (Touches.each _ _ (fun x r _ => reportTouch_latRecord x now hb a r) _))

/-- The block without registers, recorder, nodes and controllers. -/
def Dev.sansEnrol (d : Dev) : Dev := { d.sansBus with regs := [], evh := {}, rec_ := {} }

/-- An enrolment request is answered. -/
abbrev EnrolTouch (d e : Dev) : Prop := Touches [] Dev.sansEnrol d e

theorem EnrolTouch.stays {d e : Dev} (h : EnrolTouch d e) : RegsWithin [] d e ∧
    e = { d with regs := e.regs, evh := e.evh, rec_ := e.rec_, vnp := e.vnp, can := e.can } :=
  ⟨h.regs, (congrArg (fun x : Dev => { x with regs := e.regs, evh := e.evh, rec_ := e.rec_, vnp := e.vnp, can := e.can }) h.rest :)⟩

theorem enrolTouch_vnpSend (d : Dev) (b fn addr : Nat) (bs : List Nat) : EnrolTouch d (d.vnpSend b fn addr bs) := by
  have h := d.sansBus_vnpSend b fn addr bs
  exact Touches.of_regs (congrArg Dev.regs h :) (congrArg Dev.sansEnrol h :)

theorem enrolTouch_vnpEnrol (d : Dev) (now b : Nat) (bs : List Nat) : EnrolTouch d (d.vnpEnrol now b bs) := by
  unfold Dev.vnpEnrol
  extract_lets uid by_ l
  refine Touches.ite (fun _ => Touches.refl d) (fun _ => ?_)
  split
  · extract_lets d1
    have h1 : EnrolTouch d d1 := Touches.of_regs rfl rfl
    have hmark : ∀ x : Dev, EnrolTouch x x.ptErrUpdate := fun x => Touches.of_regs rfl rfl
    exact ((h1.trans (enrolTouch_vnpSend d1 _ _ _ _)).trans (enrolTouch_vnpSend _ _ _ _ _)).trans (hmark _)
  · have hnew : ∀ f, EnrolTouch d (d.modCan (2 + b) f) := fun f => Touches.of_regs rfl rfl
    exact Touches.ite (fun _ => Touches.refl d) (fun _ => (hnew _).trans (Touches.fire _ _ _ _ _ (by intros; rfl)))

theorem latency_stays (s : State) (el : Nat) (b : Fin 4) (n : Fin 64) (bs : List Byte) :
    Answers (.latency el b n bs) s (fun _ d e => RegsWithin [(0x030000, 0x031000), (0x060000, 0x066000)] d e ∧
      e = { d with regs := e.regs, cov := e.cov, dec := e.dec, pair := e.pair, vnp := e.vnp }) := by
  refine answers_of_forall (f := fun now d => if d.vnpHears b.val then d.vnpLatency now b.val n.val (natBytes bs) else d) rfl fun now d => ?_
  exact ReportTouch.stays (Touches.opt (reportTouch_vnpLatency d now b.isLt _ _))

theorem enrolReq_stays (s : State) (el : Nat) (b : Fin 4) (bs : List Byte) :
    Answers (.enrolReq el b bs) s (fun _ d e => RegsWithin [] d e ∧
      e = { d with regs := e.regs, evh := e.evh, rec_ := e.rec_, vnp := e.vnp, can := e.can }) := by
  refine answers_of_forall (f := fun now d => if d.vnpHears b.val then d.vnpEnrol now b.val (natBytes bs) else d) rfl fun now d => ?_
  exact EnrolTouch.stays (Touches.opt (enrolTouch_vnpEnrol d now _ _))

/-! ### The sensor ports -/

/-- The block without registers, pose engine and sensor ports. -/
def Dev.sansPorts (d : Dev) : Dev := { d with regs := [], pose := {}, ssp := [] }

/-- An operation of the sensor ports. -/
abbrev PortTouch (d e : Dev) : Prop := Touches [(0x037000, 0x038000)] Dev.sansPorts d e

theorem PortTouch.stays {d e : Dev} (h : PortTouch d e) : RegsWithin [(0x037000, 0x038000)] d e ∧
    e = { d with regs := e.regs, pose := e.pose, ssp := e.ssp } :=
  ⟨h.regs, (congrArg (fun x : Dev => { x with regs := e.regs, pose := e.pose, ssp := e.ssp }) h.rest :)⟩

theorem portTouch_modSsp (d : Dev) (n : Nat) (f : SspPort → SspPort) : PortTouch d (d.modSsp n f) := Touches.of_regs rfl rfl

theorem portTouch_sspSample (d : Dev) (now : Nat) {n : Nat} (hn : n < 4) (rx : List Nat) : PortTouch d (d.sspSample now n rx) := by
  unfold Dev.sspSample
  split
  · exact Touches.refl d
  extract_lets cap bs d1 w cnt last cntOn jump d2 g a x d3 d4 role
  have h1 : PortTouch d d1 := portTouch_modSsp d n _
  have h2 : PortTouch d1 d2 := Touches.opt (Touches.wr d1 (SSP.MISSED n) _ (by clear * - hn; decide +revert) (by rfl))
  have h3 : PortTouch d2 d3 := portTouch_modSsp d2 n _
  have h4 : PortTouch d3 d4 := ((Touches.bump d3 (SSP.SAMPLES n) (by clear * - hn; decide +revert) (by rfl)).trans
    (Touches.wr2 _ (SSP.LAST_DT_LO n) (SSP.LAST_DT_HI n) _ (by clear * - hn; decide +revert) (by intros; rfl))).trans
      (Touches.wr _ (SSP.STALE n) _ (by clear * - hn; decide +revert) (by rfl))
  exact Touches.ite (fun _ => Touches.refl d) (fun _ => Touches.ite
    (fun _ => h1.trans (Touches.bump d1 (SSP.BAD n) (by clear * - hn; decide +revert) (by rfl)))
    (fun _ => (((h1.trans h2).trans h3).trans h4).trans (Touches.opt (Touches.of_regs rfl rfl))))

theorem sspSample_stays (s : State) (el : Nat) (n : Fin 4) (rx : List Byte) :
    Answers (.sspSample el n rx) s (fun _ d e => RegsWithin [(0x037000, 0x038000)] d e ∧
      e = { d with regs := e.regs, pose := e.pose, ssp := e.ssp }) := by
  refine answers_of_forall (f := fun now d => if d.alive then d.sspSample now n.val (natBytes rx) else d) rfl fun now d => ?_
  exact PortTouch.stays (Touches.opt (portTouch_sspSample d now n.isLt _))

/-! ### The pose policy -/

/-- The block without registers, recorder and decisions. -/
def Dev.sansPolicy (d : Dev) : Dev := { d with regs := [], evh := {}, rec_ := {}, dec := {} }

/-- An operation of the decisions. -/
abbrev PolicyTouch (d e : Dev) : Prop := Touches [(0x032000, 0x033000)] Dev.sansPolicy d e

theorem PolicyTouch.stays {d e : Dev} (h : PolicyTouch d e) : RegsWithin [(0x032000, 0x033000)] d e ∧
    e = { d with regs := e.regs, evh := e.evh, rec_ := e.rec_, dec := e.dec } :=
  ⟨h.regs, (congrArg (fun x : Dev => { x with regs := e.regs, evh := e.evh, rec_ := e.rec_, dec := e.dec }) h.rest :)⟩

theorem policyTouch_dec (d : Dev) (x : DecBlk) : PolicyTouch d { d with dec := x } := Touches.of_regs rfl rfl

theorem policyTouch_policyBits (d : Dev) (p : Nat) (below hold exp : Bool) : PolicyTouch d (d.policyBits p below hold exp) :=
  ((Touches.wr d DEC.BELOW_MIN _ (by decide) (by rfl)).trans (Touches.wr _ DEC.HOLD_ACT _ (by decide) (by rfl))).trans
    (Touches.wr _ DEC.HOLD_EXP _ (by decide) (by rfl))

theorem policyTouch_policyStep (d : Dev) (now t p : Nat) : PolicyTouch d (d.policyStep now t p) := by
  have hfire : ∀ (x : Dev) ev inst val, PolicyTouch x (x.fire now ev inst val) := fun x ev inst val => Touches.fire x _ _ _ _ (by intros; rfl)
  unfold Dev.policyStep
  extract_lets _ o below exp0 want from_ hm expired act d1 d2
  have h1 : PolicyTouch d d1 := (policyTouch_dec d _).trans (policyTouch_policyBits _ _ _ _ _)
  have h2 : PolicyTouch d1 d2 := Touches.opt (hfire d1 _ _ _)
  exact Touches.ite (fun _ => (policyTouch_dec d _).trans (policyTouch_policyBits _ _ _ _ _))
    (fun _ => (h1.trans h2).trans (Touches.opt (hfire d2 _ _ _)))

theorem holdExpired_stays (s : State) (el : Nat) (p : Fin 8) :
    Answers (.holdExpired el p) s (fun _ d e => RegsWithin [(0x032000, 0x033000)] d e ∧
      e = { d with regs := e.regs, evh := e.evh, rec_ := e.rec_, dec := e.dec }) := by
  refine answers_of_forall (f := fun now d => if d.ticking && d.policyOf p.val == 2 then d.policyStep now now p.val else d) rfl fun now d => ?_
  exact PolicyTouch.stays (Touches.opt (policyTouch_policyStep d now now _))

end Sys2Proof.Machine
end

section
/-! PROOFS. What the commands of the receiver, the time unit, GRID, calibration, coverage and the tile store leave as it was. -/
namespace Sys2Proof.Machine

/-! ### The receiver and the time unit -/

theorem gnssParts_stay {d e : Dev} (h : Touches [(0x035000, 0x037000)] Dev.sansGnss d e) : RegsWithin [(0x035000, 0x037000)] d e ∧
    e = { d with
          regs := e.regs
          evh := e.evh
          rec_ := e.rec_
          pose := e.pose
          gnss := e.gnss
          time := e.time
          ksp := e.ksp } :=
  ⟨h.regs, (congrArg (fun x : Dev => { x with
    regs := e.regs
    evh := e.evh
    rec_ := e.rec_
    pose := e.pose
    gnss := e.gnss
    time := e.time
    ksp := e.ksp }) h.rest :)⟩

theorem measurementEpoch_stays (s : State) (el : Nat) (x : EpochIn) :
    Answers (.measurementEpoch el x) s (fun _ d e => RegsWithin [(0x035000, 0x037000)] d e ∧
      e = { d with
            regs := e.regs
            evh := e.evh
            rec_ := e.rec_
            pose := e.pose
            gnss := e.gnss
            time := e.time
            ksp := e.ksp }) := by
  refine answers_of_forall (f := fun now d => if d.gnssOn then d.gnssEpoch now x else d) rfl fun now d => gnssParts_stay (Touches.opt ?_)
  rw [Dev.gnssEpoch_eq]
  exact Touches.ite (fun _ => Touches.refl d) (fun _ => (epochTaken_spec d now _ _ x).2.2)

theorem CorrTouch.stays {d e : Dev} (h : CorrTouch d e) : RegsWithin [(0x035000, 0x036000)] d e ∧
    e = { d with regs := e.regs, evh := e.evh, rec_ := e.rec_, gnss := e.gnss } :=
  ⟨h.regs, (congrArg (fun x : Dev × Option (Bool × Int) × Option Nat × Bool =>
    { x.1 with regs := e.regs, evh := e.evh, rec_ := e.rec_, gnss := e.gnss }) h.rest :)⟩

/-- The block with the correction epoch `c` no longer open. -/
def Dev.corrShut (d : Dev) (c : CorrEpoch) : Dev :=
  { d with gnss := { d.gnss with opens := d.gnss.opens.filter (fun x => x.time != c.time) } }

/-- The block with the correction epoch `c` in use. -/
def Dev.corrTaken (d : Dev) (c : CorrEpoch) : Dev := ({ d with gnss := { d.gnss with closed := some c } } : Dev).wr GNSS.BASE_ID c.station

/-- Ambiguity resolution anew, for another reference station. -/
def Dev.ambRestart (d : Dev) (now : Nat) : Dev :=
  let d := { d with gnss := { d.gnss with ambNew := true, ambUntil := none } }
  if d.rd GNSS.SOL_TYPE = 4 then d.setSolType now 3 else d

theorem Dev.corrClose_eq (d : Dev) (now : Nat) (c : CorrEpoch) : d.corrClose now c =
    match d.gnss.closed with
    | none => (d.corrShut c).corrTaken c
    | some o =>
      if towAfter o.time c.time < 0 then d.corrShut c
      else (if c.station = o.station then (d.corrShut c).corrTaken c else ((d.corrShut c).corrTaken c).ambRestart now).corrAgeCheck now := rfl

theorem corrTouch_corrShut (d : Dev) (c : CorrEpoch) : CorrTouch d (d.corrShut c) := Touches.of_regs rfl rfl

theorem corrTouch_corrTaken (d : Dev) (c : CorrEpoch) : CorrTouch d (d.corrTaken c) :=
  Touches.trans (b := { d with gnss := { d.gnss with closed := some c } }) (Touches.of_regs rfl rfl) (Touches.wr _ _ _ (by decide) (by rfl))

theorem corrTouch_ambRestart (d : Dev) (now : Nat) : CorrTouch d (d.ambRestart now) := by
  unfold Dev.ambRestart
  extract_lets _ d1
  have h1 : CorrTouch d d1 := Touches.of_regs rfl rfl
  exact Touches.ite (fun _ => h1.trans (corrTouch_setSolType d1 now 3)) (fun _ => h1)

theorem corrTouch_corrClose (d : Dev) (now : Nat) (c : CorrEpoch) : CorrTouch d (d.corrClose now c) := by
  rw [Dev.corrClose_eq]
  have hshut := corrTouch_corrShut d c
  generalize d.corrShut c = x at hshut ⊢
  have htaken := hshut.trans (corrTouch_corrTaken x c)
  generalize x.corrTaken c = y at htaken ⊢
  split
  · exact htaken
  · refine Touches.ite (fun _ => hshut) (fun _ => Touches.trans (Touches.ite (fun _ => htaken) (fun _ => ?_)) (corrTouch_corrAgeCheck _ now))
    exact htaken.trans (corrTouch_ambRestart y now)

theorem correctionEpochClose_stays (s : State) (el : Nat) :
    Answers (.correctionEpochClose el) s (fun _ d e => RegsWithin [(0x035000, 0x036000)] d e ∧
      e = { d with regs := e.regs, evh := e.evh, rec_ := e.rec_, gnss := e.gnss }) := by
  refine answers_of_forall (f := fun now d => if d.gnssOn then d.corrTimeout now else d) rfl fun now d => CorrTouch.stays (Touches.opt ?_)
  exact Touches.each _ _ (fun x c _ => corrTouch_corrClose x now c) d

theorem TimeTouch.stays {d e : Dev} (h : TimeTouch d e) : RegsWithin [(0x036000, 0x037000)] d e ∧
    e = { d with regs := e.regs, evh := e.evh, rec_ := e.rec_, time := e.time } :=
  ⟨h.regs, (congrArg (fun x : Dev => { x with regs := e.regs, evh := e.evh, rec_ := e.rec_, time := e.time }) h.rest :)⟩

theorem timeTouch_holdoverCheck (d : Dev) (now : Nat) : TimeTouch d (d.holdoverCheck now) := by
  unfold Dev.holdoverCheck
  split
  · exact Touches.refl d
  · exact Touches.opt ((((timeTouch_time d _).trans (Touches.wr _ TIME.SLEWING _ (by decide) (by rfl))).trans
      (Touches.wr _ TIME.SLEW_REM _ (by decide) (by rfl))).trans (timeTouch_setTimeStatus _ now 1))

theorem holdover_stays (s : State) (el : Nat) :
    Answers (.holdover el) s (fun _ d e => RegsWithin [(0x036000, 0x037000)] d e ∧
      e = { d with regs := e.regs, evh := e.evh, rec_ := e.rec_, time := e.time }) := by
  refine answers_of_forall (f := fun now d => if d.alive then d.holdoverCheck now else d) rfl fun now d => ?_
  exact TimeTouch.stays (Touches.opt (timeTouch_holdoverCheck d now))

/-! ### GRID and calibration -/

theorem FusionTouch.stays {d e : Dev} (h : FusionTouch d e) : RegsWithin [(0x038000, 0x039000)] d e ∧
    e = { d with regs := e.regs, evh := e.evh, rec_ := e.rec_, grid := e.grid } :=
  ⟨h.regs, (congrArg (fun x : Dev => { x with regs := e.regs, evh := e.evh, rec_ := e.rec_, grid := e.grid }) h.rest :)⟩

theorem auditReq_stays (s : State) (el : Nat) :
    Answers (.auditReq el) s (fun _ d e => RegsWithin [(0x038000, 0x039000)] d e ∧
      e = { d with regs := e.regs, evh := e.evh, rec_ := e.rec_, grid := e.grid }) := by
  refine answers_of_forall (f := fun now d => if d.hif.inService then d.enterAudit now 2 else d) rfl fun now d => ?_
  exact FusionTouch.stays (Touches.opt (fusionTouch_enterAudit d now 2))

theorem srcRetry_stays (s : State) (el : Nat) (src : Fin 16) :
    Answers (.srcRetry el src) s (fun _ d e => e = { d with grid := e.grid }) := by
  refine answers_of_forall (f := fun _ d => if d.hif.inService then d.srcRetry src.val else d) rfl fun now d => ?_
  split
  · rfl
  · rfl

/-- The block without registers, recorder, GRID and calibration. -/
def Dev.sansCal (d : Dev) : Dev := { d.sansFusion with cal := {} }

/-- An operation of GRID and calibration. -/
abbrev CalTouch (d e : Dev) : Prop := Touches [(0x038000, 0x03A000)] Dev.sansCal d e

theorem CalTouch.stays {d e : Dev} (h : CalTouch d e) : RegsWithin [(0x038000, 0x03A000)] d e ∧
    e = { d with regs := e.regs, evh := e.evh, rec_ := e.rec_, grid := e.grid, cal := e.cal } :=
  ⟨h.regs, (congrArg (fun x : Dev => { x with regs := e.regs, evh := e.evh, rec_ := e.rec_, grid := e.grid, cal := e.cal }) h.rest :)⟩

theorem FusionTouch.cal {d e : Dev} (h : FusionTouch d e) : CalTouch d e := Touches.mono h (by decide) (fun hk => (congrArg Dev.sansCal hk :))

theorem RegTouch.cal {d e : Dev} (h : RegTouch calPages d e) : CalTouch d e := Touches.mono h (by decide) (fun hk => (congrArg Dev.sansCal hk :))

theorem calTouch_calReset (d : Dev) (now mask : Nat) : CalTouch d (d.calReset now mask) := by
  unfold Dev.calReset
  extract_lets d1
  refine Touches.ite (fun _ => Touches.refl d) (fun _ => Touches.trans (b := d1) ?_ (fusionTouch_enterAudit d1 now 5).cal)
  refine Touches.each _ _ (fun x n hn => ?_) d
  have hn : n < 16 := List.mem_range.mp (List.mem_filter.mp hn).1
  extract_lets _ x1 x2
  have h1 : CalTouch x x1 := Touches.trans (b := { x with cal := { x.cal with corr := tdel x.cal.corr n, run := tdel x.cal.run n, changed := true } })
    (Touches.of_regs rfl rfl) (RegTouch.cal (calTouch_calShow _ hn))
  clear_value x1
  have h2 : CalTouch x1 x2 := (Touches.wr x1 CAL.CAL_CONV _ (by decide) (by rfl)).trans (Touches.wr _ CAL.CAL_OOB _ (by decide) (by rfl))
  clear_value x2
  exact (h1.trans h2).trans (Touches.of_regs rfl rfl)

theorem calReset_stays (s : State) (el : Nat) (m : BitVec 16) :
    Answers (.calReset el m) s (fun _ d e => RegsWithin [(0x038000, 0x03A000)] d e ∧
      e = { d with regs := e.regs, evh := e.evh, rec_ := e.rec_, grid := e.grid, cal := e.cal }) := by
  refine answers_of_forall (f := fun now d => if d.hif.inService then d.calReset now m.toNat else d) rfl fun now d => ?_
  exact CalTouch.stays (Touches.opt (calTouch_calReset d now _))

/-! ### Coverage and the tile store -/

theorem confTimeout_stays (s : State) (el : Nat) (n : Fin 1024) :
    Answers (.confTimeout el n) s (fun _ d e => RegsWithin [(0x030000, 0x031000)] d e ∧ e = { d with regs := e.regs, cov := e.cov }) := by
  refine answers_of_forall (f := fun now d => if d.ticking && d.on (PD.VALID n.val) then d.confCheck now n.val else d) rfl fun now d => ?_
  have hcheck : Touches [(0x030000, 0x031000)] (fun x : Dev => { x with regs := [], cov := {} }) d (d.confCheck now n.val) := by
    unfold Dev.confCheck
    extract_lets late k
    have hres : ∀ f, Touches [(0x030000, 0x031000)] (fun x : Dev => { x with regs := [], cov := {} }) d (d.resolveEdges n.val late f) :=
      fun f => Touches.of_regs rfl rfl
    exact Touches.ite (fun _ => Touches.refl d) (fun _ => (hres _).trans (Touches.wr _ COV.CONF_TIMEOUTS _ (by decide) (by rfl)))
  have h : Touches [(0x030000, 0x031000)] (fun x : Dev => { x with regs := [], cov := {} }) d
    (if d.ticking && d.on (PD.VALID n.val) then d.confCheck now n.val else d) := Touches.opt hcheck
  generalize (if d.ticking && d.on (PD.VALID n.val) then d.confCheck now n.val else d) = e at h ⊢
  exact ⟨h.regs, (congrArg (fun x : Dev => { x with regs := e.regs, cov := e.cov }) h.rest :)⟩

/-- The block without the tile store, the stream ports and the event handler. -/
def Dev.sansRequests (d : Dev) : Dev := { d with evh := {}, ksp := [], tpl := {} }

/-- A request to the store changes no register. -/
def Requests (d e : Dev) : Prop := e.sansRequests = d.sansRequests

theorem Requests.stays {d e : Dev} (h : Requests d e) : e = { d with evh := e.evh, tpl := e.tpl, ksp := e.ksp } :=
  (congrArg (fun x : Dev => { x with evh := e.evh, tpl := e.tpl, ksp := e.ksp }) h :)

theorem Requests.trans {a b c : Dev} (h : Requests a b) (g : Requests b c) : Requests a c := Eq.trans g h

theorem requests_toStore (d : Dev) (bs : List Nat) : Requests d (d.toStore bs) := (congrArg Dev.sansRequests (d.sansSend_toStore bs) :)

theorem requests_tagOf (d : Dev) (i : Nat) (isPut : Bool) : Requests d (d.tagOf i isPut).2 := by
  unfold Dev.tagOf
  split
  · split
    · rfl
    · rfl
  · rfl

theorem requests_setSlot (d : Dev) (i : Nat) (x : Slot) : Requests d (d.setSlot i x) := rfl

theorem requests_sendReq (d : Dev) (now i tries : Nat) : Requests d (d.sendReq now i tries) :=
  ((requests_tagOf d i false).trans (requests_setSlot _ _ _)).trans (requests_toStore _ _)

theorem requests_reqRoom (d : Dev) : Requests d d.reqRoom := by
  unfold Dev.reqRoom
  split
  · rfl
  split
  · rfl
  split
  · rfl
  · rfl

theorem requests_probeFor (d : Dev) (now layer : Nat) (tx ty : Int) : Requests d (d.probeFor now layer tx ty) := by
  unfold Dev.probeFor
  extract_lets prov same t _ _ d1
  clear_value prov same
  split
  · refine Requests.trans ?_ (requests_sendReq _ _ _ _)
    split
    · rfl
    · exact requests_reqRoom d
  · have ht : Requests d t.2 := by
      subst t
      split
      · rfl
      · exact (requests_reqRoom d).trans rfl
    clear_value t
    have h1 : Requests t.2 d1 := by
      subst d1
      split
      · rfl
      · rfl
    exact (ht.trans h1).trans (requests_toStore _ _)

theorem storeRequests_stay (s : State) (el : Nat) (k : Fin 416) :
    ∀ i ∈ [Instr.storeProbe el, .provisionalRerequest el k], Answers i s (fun _ d e => e = { d with evh := e.evh, tpl := e.tpl, ksp := e.ksp }) := by
  simp only [List.forall_mem_cons, List.not_mem_nil, false_implies, implies_true, and_true]
  constructor
  · refine answers_of_forall (f := fun now d => if d.inT6 now then d.probeCheck now else d) rfl fun now d => Requests.stays ?_
    split
    · rw [Dev.probeCheck_eq]
      split
      · rfl
      split
      · rfl
      · exact Requests.trans (b := { d with tpl := { d.tpl with lastProbe := now } }) rfl (requests_probeFor _ _ _ _ _)
    · rfl
  · refine answers_of_forall (f := fun now d => if d.inT6 now then d.reRequest now k.val else d) rfl fun now d => Requests.stays ?_
    have hask : Requests d (d.askHome now k.val) := by
      unfold Dev.askHome
      split
      · exact requests_sendReq d now _ 0
      · rfl
    split
    · unfold Dev.reRequest
      dsimp only
      split
      · exact hask
      · rfl
    · rfl

theorem StoreTouch.stays {d e : Dev} (h : StoreTouch d e) : RegsWithin [(0x030000, 0x032000)] d e ∧
    e = { d with regs := e.regs, evh := e.evh, rec_ := e.rec_, tpl := e.tpl, ksp := e.ksp } :=
  ⟨h.regs, (congrArg (fun x : Dev × (Nat → KspPort × Option KspPort) =>
    { x.1 with regs := e.regs, evh := e.evh, rec_ := e.rec_, tpl := e.tpl, ksp := e.ksp }) h.rest :)⟩

theorem storeTouch_storeFail (d : Dev) (now i : Nat) : StoreTouch d (d.storeFail now i) := by
  rw [Dev.storeFail_eq]
  have hlost : StoreTouch d (d.storeLost now i) := Touches.trans
    (b := { d with tpl := { d.tpl with lastFail := some ((d.slot i).layer, (d.slot i).tx, (d.slot i).ty), lastProbe := now } })
    (Touches.of_regs rfl rfl) ((Touches.wr _ TPL.STORE_OK 0 (by decide) (by rfl)).trans (Touches.fire _ _ _ _ _ (by intros; rfl)))
  have hreplay : ∀ (x : Dev) k, StoreTouch x (x.replay k).2 := fun x k => by
    unfold Dev.replay
    dsimp only
    split
    · exact Touches.refl x
    · exact ((storeTouch_setSlot x k _).trans (storeTouch_setJournal _ _)).trans (Touches.wr _ COV.PAINT_LOST _ (by decide) (by rfl))
  exact hlost.trans (Touches.each _ _ (fun x y _ => Touches.opt ((storeTouch_setSlot x y.1 _).trans (hreplay _ y.1))) _)

theorem storeTouch_reqTimedOut (d : Dev) (now i : Nat) : StoreTouch d (d.reqTimedOut now i) := by
  unfold Dev.reqTimedOut
  split
  · exact Touches.refl d
  · exact Touches.ite (fun _ => Touches.refl d) (fun _ => Touches.ite
      (fun _ => Touches.ite (fun _ => storeTouch_sendPut d _ _ _ _) (fun _ => storeTouch_sendReq d _ _ _)) (fun _ => storeTouch_storeFail d now i))

theorem tileTimers_stay (s : State) (el : Nat) (k : Fin 416) :
    ∀ i ∈ [Instr.tileWriteback el k, .reqTimeout el k], Answers i s (fun _ d e => RegsWithin [(0x030000, 0x032000)] d e ∧
      e = { d with regs := e.regs, evh := e.evh, rec_ := e.rec_, tpl := e.tpl, ksp := e.ksp }) := by
  simp only [List.forall_mem_cons, List.not_mem_nil, false_implies, implies_true, and_true]
  constructor
  · refine answers_of_forall (f := fun now d => if d.inT6 now then d.writebackCheck now k.val else d) rfl fun now d => ?_
    exact StoreTouch.stays (Touches.opt (Touches.opt (storeTouch_sendPut d _ _ _ _)))
  · refine answers_of_forall (f := fun now d => if d.inT6 now then d.reqCheck now k.val else d) rfl fun now d => StoreTouch.stays (Touches.opt ?_)
    unfold Dev.reqCheck
    split
    · exact Touches.opt (storeTouch_reqTimedOut d now _)
    · exact Touches.refl d

/-- The block without registers and the tile store. -/
def Dev.sansTiles (d : Dev) : Dev := { d with regs := [], tpl := {} }

/-- A change of the tile store and its pages alone. -/
abbrev FlushTouch (d e : Dev) : Prop := Touches [(0x030000, 0x032000)] Dev.sansTiles d e

theorem flushTouch_fieldAbandon (d : Dev) : FlushTouch d d.fieldAbandon := by
  have hjournal : ∀ (x : Dev) j, FlushTouch x (x.setJournal j) := fun x j => by
    have h0 : FlushTouch x { x with tpl := { x.tpl with journal := j } } := Touches.of_regs rfl rfl
    have h1 : FlushTouch x (({ x with tpl := { x.tpl with journal := j } } : Dev).wr COV.JNL_USED j.length) :=
      h0.trans (Touches.wr _ COV.JNL_USED _ (by decide) (by rfl))
    exact h1.trans (Touches.opt (Touches.wr _ COV.JNL_MAX _ (by decide) (by rfl)))
  have hall : FlushTouch d d.covDiscardAll := by
    unfold Dev.covDiscardAll
    extract_lets k j d1
    have h1 : FlushTouch d d1 := (Touches.wr d COV.TILES_DISCARDED _ (by decide) (by rfl)).trans (Touches.wr _ COV.PAINT_LOST _ (by decide) (by rfl))
    have h2 : FlushTouch d1 { d1 with tpl := { d1.tpl with slots := [], wanted := [], probes := [], refetch := [] } } := Touches.of_regs rfl rfl
    exact (h1.trans h2).trans (hjournal _ [])
  exact hall.trans (Touches.wr _ COV.FIELD_STATE _ (by decide) (by rfl))

theorem emberFlushMaxExpiry_stays (s : State) (el : Nat) :
    Answers (.emberFlushMaxExpiry el) s (fun _ d e => RegsWithin [(0x030000, 0x032000)] d e ∧ e = { d with regs := e.regs, tpl := e.tpl }) := by
  refine answers_of_forall (f := fun now d => d.emberFlushEnd now) rfl fun now d => ?_
  have h : FlushTouch d (d.emberFlushEnd now) := by
    unfold Dev.emberFlushEnd
    split
    · exact Touches.opt (flushTouch_fieldAbandon d)
    · exact Touches.refl d
  generalize d.emberFlushEnd now = e at h ⊢
  exact ⟨h.regs, (congrArg (fun x : Dev => { x with regs := e.regs, tpl := e.tpl }) h.rest :)⟩

end Sys2Proof.Machine
end

section
/-! PROOFS. What the commands of the stream ports, pairing and the check-value units leave as it was. -/
namespace Sys2Proof.Machine

/-! ### The stream ports -/

/-- The block without registers, stream ports and event handler. -/
def Dev.sansLinks (d : Dev) : Dev := { d with regs := [], evh := {}, ksp := [] }

/-- An operation of a link. -/
abbrev LinkTouch (d e : Dev) : Prop := Touches [(0x070000, 0x072000)] Dev.sansLinks d e

theorem LinkTouch.stays {d e : Dev} (h : LinkTouch d e) : RegsWithin [(0x070000, 0x072000)] d e ∧
    e = { d with regs := e.regs, evh := e.evh, ksp := e.ksp } :=
  ⟨h.regs, (congrArg (fun x : Dev => { x with regs := e.regs, evh := e.evh, ksp := e.ksp }) h.rest :)⟩

/-- The block without registers and stream ports. -/
def Dev.sansTraining (d : Dev) : Dev := { d with regs := [], ksp := [] }

/-- An operation of a link's training. -/
abbrev TrainTouch (d e : Dev) : Prop := Touches [(0x070000, 0x072000)] Dev.sansTraining d e

theorem TrainTouch.stays {d e : Dev} (h : TrainTouch d e) : RegsWithin [(0x070000, 0x072000)] d e ∧ e = { d with regs := e.regs, ksp := e.ksp } :=
  ⟨h.regs, (congrArg (fun x : Dev => { x with regs := e.regs, ksp := e.ksp }) h.rest :)⟩

theorem TrainTouch.link {d e : Dev} (h : TrainTouch d e) : LinkTouch d e :=
  Touches.mono h (fun p hp => ⟨p, hp, le_rfl, le_rfl⟩) (fun hk => (congrArg Dev.sansLinks hk :))

theorem trainTouch_modPort (d : Dev) (n : Nat) (f : KspPort → KspPort) : TrainTouch d (d.modPort n f) := Touches.of_regs rfl rfl

theorem trainTouch_kspRetrain (d : Dev) (now : Nat) {n : Nat} (hn : n < 2) : TrainTouch d (d.kspRetrain now n) := by
  have hlock : ∀ x : Dev, TrainTouch x (x.enterLock now n) := fun x => trainTouch_modPort x n _
  unfold Dev.kspRetrain
  split
  · exact Touches.refl d
  · exact (trainTouch_modPort d n _).trans (hlock _)
  · exact Touches.trans (Touches.bump d (KSP.TRAIN_FAIL n) (by clear * - hn; decide +revert) (by rfl)) (hlock _)

theorem linkTouch_kspPump (fuel : Nat) (d : Dev) (n : Nat) : LinkTouch d (Dev.kspPump fuel d n) := by
  have h := Dev.sansSend_kspPump fuel d n
  exact Touches.of_regs (congrArg Dev.regs h :) (congrArg Dev.sansLinks h :)

theorem linkTouch_kspLinkRx (d : Dev) (now ack : Nat) {n : Nat} (hn : n < 2) (nak : Bool) (credits : List Nat) :
    LinkTouch d (d.kspLinkRx now n ack nak credits) := by
  unfold Dev.kspLinkRx
  extract_lets d1 s run d2 d3
  have h1 : TrainTouch d d1 := trainTouch_modPort d n _
  clear_value d1
  have h2 : TrainTouch d1 d2 := Touches.trans (Touches.bump d1 (KSP.REPLAY_CNT n) (by clear * - hn; decide +revert) (by rfl)) (trainTouch_modPort _ n _)
  have h3 : TrainTouch d1 d3 := Touches.ite
    (fun _ => h2.trans (Touches.opt ((trainTouch_modPort d2 n _).trans (trainTouch_kspRetrain _ now hn)))) (fun _ => trainTouch_modPort d1 n _)
  exact Touches.ite (fun _ => Touches.refl d) (fun _ => (TrainTouch.link (h1.trans h3)).trans (linkTouch_kspPump 4096 d3 n))

theorem laneLockWaitExpiry_stays (s : State) (el : Nat) (p : Fin 2) :
    Answers (.laneLockWaitExpiry el p) s (fun _ d e => e = { d with ksp := e.ksp }) := by
  refine answers_of_forall (f := fun now d => if d.powered then d.kspLockWait now p.val else d) rfl fun now d => ?_
  split
  · rfl
  · rfl

theorem trainTimeout_stays (s : State) (el : Nat) (p : Fin 2) :
    Answers (.trainTimeout el p) s (fun _ d e => RegsWithin [(0x070000, 0x072000)] d e ∧ e = { d with regs := e.regs, ksp := e.ksp }) := by
  refine answers_of_forall (f := fun now d => if d.powered then d.kspTrainTimeout now p.val else d) rfl fun now d => TrainTouch.stays (Touches.opt ?_)
  unfold Dev.kspTrainTimeout
  split
  · exact Touches.refl d
  · exact Touches.refl d
  · exact Touches.opt (trainTouch_kspRetrain d now p.isLt)

theorem linkPacket_stays (s : State) (el : Nat) (p : Fin 2) (ack : BitVec 12) (nak : Bool) (c0 c1 c2 c3 c4 : BitVec 16) :
    Answers (.linkPacket el p ack nak c0 c1 c2 c3 c4) s (fun _ d e => RegsWithin [(0x070000, 0x072000)] d e ∧
      e = { d with regs := e.regs, evh := e.evh, ksp := e.ksp }) := by
  refine answers_of_forall (f := fun now d =>
    if d.powered then d.kspLinkRx now p.val ack.toNat nak [c0.toNat, c1.toNat, c2.toNat, c3.toNat, c4.toNat] else d) rfl fun now d => ?_
  exact LinkTouch.stays (Touches.opt (linkTouch_kspLinkRx d now _ p.isLt _ _))

/-! ### Pairing -/

theorem PairTouch.stays {d e : Dev} (h : PairTouch d e) : RegsWithin [(0x072000, 0x073000)] d e ∧
    e = { d with regs := e.regs, evh := e.evh, rec_ := e.rec_, ksp := e.ksp, pair := e.pair } :=
  ⟨h.regs, (congrArg (fun x : Dev => { x with regs := e.regs, evh := e.evh, rec_ := e.rec_, ksp := e.ksp, pair := e.pair }) h.rest :)⟩

theorem pairTouch_ptFirst (d : Dev) : PairTouch d d.ptFirst :=
  Touches.trans (Touches.wr2 d PAIR.PT_OFS_LO PAIR.PT_OFS_HI _ (by decide) (by intros; rfl)) (Touches.wr _ PAIR.PT_RATE 0 (by decide) (by rfl))

theorem pairTouch_setPair_helloSend (d : Dev) (now : Nat) (st : PairState) : PairTouch d ((d.setPair now st).helloSend now) :=
  (pairTouch_setPair d now st).trans (pairTouch_helloSend _ now)

theorem pairTouch_helloNoted (d : Dev) (now : Nat) (h : HelloMsg) : PairTouch d (d.helloNoted now h) := by
  unfold Dev.helloNoted
  extract_lets d1 code was d2
  have h1 : PairTouch d d1 := (pairTouch_pair d { d.pair with hello := some h, helloAt := now }).trans (Touches.wr _ PAIR.PARTNER_UNIT _ (by decide) (by rfl))
  have h2 : PairTouch d1 d2 := Touches.wr d1 PAIR.PAIR_ERR _ (by decide) (by rfl)
  exact (h1.trans h2).trans (Touches.opt (Touches.fire _ _ _ _ _ (by intros; rfl)))

theorem pairTouch_helloMeets (d : Dev) (now : Nat) (h : HelloMsg) (code : Nat) : PairTouch d (d.helloMeets now h code) := by
  have hjoins : PairTouch d (d.joins now) := (pairTouch_pair d _).trans (pairTouch_setPair_helloSend _ now _)
  exact Touches.ite (fun _ => pairTouch_setPair d now _) (fun _ => Touches.ite (fun _ => hjoins) (fun _ => Touches.ite (fun _ => pairTouch_setPair d now _)
    (fun _ => Touches.ite (fun _ => (pairTouch_ptFirst d).trans (pairTouch_setPair_helloSend _ now _)) (fun _ => hjoins))))

theorem pairTouch_helloActs (d : Dev) (now : Nat) (h : HelloMsg) (code : Nat) : PairTouch d (d.helloActs now h code) := by
  unfold Dev.helloActs
  split
  · exact pairTouch_helloMeets d now h code
  · exact pairTouch_helloMeets d now h code
  · exact Touches.refl d
  · exact Touches.ite (fun _ => Touches.refl d) (fun _ => Touches.ite (fun _ => pairTouch_pair d _)
      (fun _ => Touches.opt (pairTouch_setPair_helloSend d now _)))
  · exact Touches.ite (fun _ => Touches.refl d) (fun _ => Touches.ite (fun _ => pairTouch_setPair d now _)
      (fun _ => Touches.ite (fun _ => pairTouch_pair d _) (fun _ => pairTouch_helloSend d now)))
  · exact Touches.refl d

theorem pairTouch_helloRx (d : Dev) (now : Nat) (h : HelloMsg) : PairTouch d (d.helloRx now h) := by
  rw [Dev.helloRx_eq]
  exact (pairTouch_helloNoted d now h).trans (pairTouch_helloActs _ now h _)

theorem pairTouch_mirrorStale (d : Dev) (now : Nat) : PairTouch d (d.mirrorStale now) :=
  Touches.opt (((pairTouch_pair d _).trans (Touches.wr _ PAIR.SYNCED 0 (by decide) (by rfl))).trans (pairTouch_helloSend _ now))

theorem pairCommands_stay (s : State) (el : Nat) (h : HelloMsg) :
    ∀ i ∈ [Instr.hello el h, .pairWaitExpiry el, .beaconListenExpiry el, .mirrorStale el],
      Answers i s (fun _ d e => RegsWithin [(0x072000, 0x073000)] d e ∧
        e = { d with regs := e.regs, evh := e.evh, rec_ := e.rec_, ksp := e.ksp, pair := e.pair }) := by
  simp only [List.forall_mem_cons, List.not_mem_nil, false_implies, implies_true, and_true]
  refine ⟨?_, ?_, ?_, ?_⟩
  · refine answers_of_forall (f := fun now d => if d.alive && d.pairLink && d.pair.en then d.helloRx now h else d) rfl fun now d => ?_
    exact PairTouch.stays (Touches.opt (pairTouch_helloRx d now h))
  · refine answers_of_forall (f := fun now d => if d.alive then d.pairWait now else d) rfl fun now d => ?_
    exact PairTouch.stays (Touches.opt (Touches.opt (pairTouch_setPair d now _)))
  · refine answers_of_forall (f := fun now d => if d.alive then d.beaconListen now else d) rfl fun now d => ?_
    exact PairTouch.stays (Touches.opt (Touches.opt ((pairTouch_ptFirst d).trans (pairTouch_setPair _ now _))))
  · refine answers_of_forall (f := fun now d => if d.alive then d.mirrorStale now else d) rfl fun now d => ?_
    exact PairTouch.stays (Touches.opt (pairTouch_mirrorStale d now))

/-! ### The check-value units -/

/-- Address range of the pages of the check-value units. -/
abbrev crcPages : List (Nat × Nat) := [(0x078000, 0x080000)]

theorem stateWrite_stays (s : State) (el : Nat) (n : Fin 8) (lo : Word) :
    Answers (.stateWrite el n lo) s (fun _ d e => RegsWithin crcPages d e ∧ e = { d with regs := e.regs, hif := e.hif }) := by
  refine answers_of_forall (f := fun _ d => if d.hif.inService then d.crcStateLo n.val lo.toNat else d) rfl fun now d => ?_
  have h : Touches crcPages (fun x : Dev => { x with regs := [], hif := {} }) d (if d.hif.inService then d.crcStateLo n.val lo.toNat else d) := by
    refine Touches.opt ?_
    unfold Dev.crcStateLo
    extract_lets hi
    refine Touches.ite (fun _ => Touches.wr d (CRC.FEED_IGN n.val) 1 (by clear * -; decide +revert) (by rfl)) (fun _ => ?_)
    exact Touches.trans (b := { d with hif := { d.hif with stateHi := tdel d.hif.stateHi n.val } }) (Touches.of_regs rfl rfl)
      (Touches.wr2 _ (CRC.STATE_LO n.val) (CRC.STATE_HI n.val) _ (by clear * -; decide +revert) (by intros; rfl))
  generalize (if d.hif.inService then d.crcStateLo n.val lo.toNat else d) = e at h ⊢
  exact ⟨h.regs, (congrArg (fun x : Dev => { x with regs := e.regs, hif := e.hif }) h.rest :)⟩

theorem crcParts_stay {d e : Dev} (h : Touches crcPages Dev.sansCrc d e) : RegsWithin crcPages d e ∧
    e = { d with regs := e.regs, evh := e.evh, rec_ := e.rec_, freeCtr := e.freeCtr } :=
  ⟨h.regs, (congrArg (fun x : Dev => { x with regs := e.regs, evh := e.evh, rec_ := e.rec_, freeCtr := e.freeCtr }) h.rest :)⟩

theorem dmaEnds_stay (s : State) (el : Nat) (n : Fin 8) :
    ∀ i ∈ [Instr.dmaAbort el n, .dmaDone el n], Answers i s (fun _ d e => RegsWithin crcPages d e ∧
      e = { d with regs := e.regs, evh := e.evh, rec_ := e.rec_, freeCtr := e.freeCtr }) := by
  simp only [List.forall_mem_cons, List.not_mem_nil, false_implies, implies_true, and_true]
  constructor
  · refine answers_of_forall (f := fun now d => if d.hif.inService then d.crcAbort now n.val else d) rfl fun now d => ?_
    exact crcParts_stay (Touches.opt (crcTouch_crcAbort d now n.isLt))
  · refine answers_of_forall (f := fun now d => if d.alive then d.crcDone now n.val else d) rfl fun now d => ?_
    exact crcParts_stay (Touches.opt (Touches.opt (crcTouch_crcEnd d now n.isLt _ _)))

end Sys2Proof.Machine
end

section
/-! PROOFS. What the commands of the power unit, the self-tests and the counted settings leave as it was. -/
namespace Sys2Proof.Machine

theorem Quiet.regsWithin {d e : Dev} (h : Quiet d e) (ps : List (Nat × Nat)) : RegsWithin ps d e := fun g hlo hev _ =>
  h.rd g (g.not_evtKey_of_ofEvents_eq_false hlo hev)

/-- A record staged without a limit. -/
theorem Touches.stageFree {α : Type} {ps : List (Nat × Nat)} {er : Dev → α} (d : Dev) (now k c g : Nat) (bs : List Nat)
    (her : ∀ r v x, er { d with regs := r, evh := v, rec_ := x } = er d) : Touches ps er d (d.stageFree now k c g bs) :=
  ⟨(stageFree_quiet d now k c g bs).regsWithin ps, (congrArg er (stageFree_quiet d now k c g bs).1).trans (her _ _ _), stageFree_rawKept d now k c g bs⟩

/-! ### Episodes and the firmware -/

/-- Address ranges of the pages of the power unit and the load switches. -/
abbrev dimPages : List (Nat × Nat) := [(0x001000, 0x002000), (0x048000, 0x04A000)]

/-- The block without registers, recorder, power unit, non-volatile memory, and the parts a load switch's operations change. -/
def Dev.sansDim (d : Dev) : Dev := { d.sansSwitchEvents with pwr := {}, mram := {} }

/-- An operation at the beginning of an episode. -/
abbrev DimTouch (d e : Dev) : Prop := Touches dimPages Dev.sansDim d e

theorem DimTouch.stays {d e : Dev} (h : DimTouch d e) : RegsWithin dimPages d e ∧
    e = { d with
          regs := e.regs
          evh := e.evh
          rec_ := e.rec_
          cov := e.cov
          pair := e.pair
          lsw := e.lsw
          pwr := e.pwr
          mram := e.mram } :=
  ⟨h.regs, (congrArg (fun x : Dev => { x with
    regs := e.regs
    evh := e.evh
    rec_ := e.rec_
    cov := e.cov
    pair := e.pair
    lsw := e.lsw
    pwr := e.pwr
    mram := e.mram }) h.rest :)⟩

theorem SwitchSheds.dim {d e : Dev} (h : SwitchSheds d e) : DimTouch d e := h.mono (by decide) (fun hk => (congrArg Dev.sansDim hk :))

theorem dimTouch_lswDim (d : Dev) (now : Nat) : DimTouch d (d.lswDim now) := by
  unfold Dev.lswDim
  extract_lets ns d1
  have h1 : DimTouch d d1 := Touches.each _ _ (fun x n hn => by
    have hn : n < 16 := List.mem_range.mp (List.mem_filter.mp hn).1
    exact SwitchSheds.dim (SwitchEvents.sheds ((switchTouch_modLsw x n _).events.trans (lswTouch_lswApply _ now now hn).events))) d
  exact Touches.ite (fun _ => h1) (fun _ => h1.trans (switchSheds_shedEvent d1 now).dim)

theorem dimTouch_episodeBegins (d : Dev) (now mv held : Nat) : DimTouch d (d.episodeBegins now mv held) :=
  ((Touches.wr d PWR.VBAT_MV mv (by decide) (by rfl)).trans (Touches.wr _ PWR.VMIN_MV mv (by decide) (by rfl))).trans (Touches.of_regs rfl rfl)

theorem dimTouch_dimEntry (d : Dev) (now mv held : Nat) : DimTouch d (d.dimEntry now mv held) := by
  have hdim (x : Dev) : DimTouch x { x with pwr := { x.pwr with st := .dim } } := Touches.of_regs rfl rfl
  exact Touches.opt ((dimTouch_episodeBegins d now mv held).trans
    (Touches.opt (((hdim _).trans (Touches.fire _ _ _ _ _ (by intros; rfl))).trans (dimTouch_lswDim _ now))))

theorem dimEntry_stays (s : State) (el : Nat) (mv : BitVec 16) (held : Nat) :
    Answers (.dimEntry el mv held) s (fun _ d e => RegsWithin dimPages d e ∧
      e = { d with
            regs := e.regs
            evh := e.evh
            rec_ := e.rec_
            cov := e.cov
            pair := e.pair
            lsw := e.lsw
            pwr := e.pwr
            mram := e.mram }) :=
  answers_of_forall (f := fun now d => d.dimEntry now mv.toNat held) rfl fun now d => DimTouch.stays (dimTouch_dimEntry d now _ _)

/-- Address range of the page of the power unit. -/
abbrev pwrPages : List (Nat × Nat) := [(0x001000, 0x002000)]

/-- The block without registers, recorder, coverage, power unit and non-volatile memory. -/
def Dev.sansEpisode (d : Dev) : Dev := { d with regs := [], evh := {}, rec_ := {}, cov := {}, pwr := {}, mram := {} }

/-- An operation at the end of an episode. -/
abbrev EpisodeTouch (d e : Dev) : Prop := Touches pwrPages Dev.sansEpisode d e

theorem EpisodeTouch.stays {d e : Dev} (h : EpisodeTouch d e) : RegsWithin pwrPages d e ∧
    e = { d with regs := e.regs, evh := e.evh, rec_ := e.rec_, cov := e.cov, pwr := e.pwr, mram := e.mram } :=
  ⟨h.regs, (congrArg (fun x : Dev =>
    { x with regs := e.regs, evh := e.evh, rec_ := e.rec_, cov := e.cov, pwr := e.pwr, mram := e.mram }) h.rest :)⟩

theorem episodeTouch_pwr (d : Dev) (x : PwrBlk) : EpisodeTouch d { d with pwr := x } := Touches.of_regs rfl rfl

theorem episodeTouch_closeEpisode (d : Dev) (now : Nat) (x : Episode) (cycles : Nat) (byReset : Bool) :
    EpisodeTouch d (d.closeEpisode now x cycles byReset) := by
  unfold Dev.closeEpisode
  extract_lets dur _ _ d1 d2
  have h1 : EpisodeTouch d d1 := Touches.of_regs rfl rfl
  have h2 : EpisodeTouch d1 d2 := ((Touches.bump d1 PWR.DIM_CNT (by decide) (by rfl)).trans (Touches.wr _ PWR.DIM_LAST _ (by decide) (by rfl))).trans
    (Touches.wr _ PWR.VMIN_MV _ (by decide) (by rfl))
  exact (h1.trans h2).trans (Touches.stageFree d2 _ _ _ _ _ (by intros; rfl))

theorem episodeTouch_emberAsk (d : Dev) (now : Nat) : EpisodeTouch d (d.emberAsk now) := by
  have hstart : EpisodeTouch d (d.emberStart now) :=
    Touches.ite (fun _ => Touches.of_regs rfl rfl) (fun _ => episodeTouch_pwr d _)
  exact Touches.ite (fun _ => Touches.refl d) (fun _ => Touches.ite (fun _ => hstart) (fun _ => Touches.opt (episodeTouch_pwr d _)))

theorem episodeTouch_dimEnd (d : Dev) (now mv low held : Nat) : EpisodeTouch d (d.dimEnd now mv low held) := by
  unfold Dev.dimEnd
  split
  · exact Touches.refl d
  next e _ =>
    extract_lets d1 _ d2
    have h1 : EpisodeTouch d d1 := Touches.trans (Touches.wr d PWR.VBAT_MV mv (by decide) (by rfl)) (episodeTouch_closeEpisode _ _ _ _ _)
    clear_value d1
    have h2 : EpisodeTouch d1 d2 := (episodeTouch_pwr d1 _).trans (Touches.fire _ _ _ _ _ (by intros; rfl))
    exact Touches.opt (h1.trans (Touches.ite (fun _ => h2.trans (Touches.opt (episodeTouch_emberAsk d2 now)))
      (fun _ => Touches.opt (Touches.wr d1 PWR.SNUFF_CAUSES _ (by decide) (by rfl)))))

theorem dimEnd_stays (s : State) (el : Nat) (mv low : BitVec 16) (held : Nat) :
    Answers (.dimEnd el mv low held) s (fun _ d e => RegsWithin pwrPages d e ∧
      e = { d with regs := e.regs, evh := e.evh, rec_ := e.rec_, cov := e.cov, pwr := e.pwr, mram := e.mram }) :=
  answers_of_forall (f := fun now d => d.dimEnd now mv.toNat low.toNat held) rfl fun now d => EpisodeTouch.stays (episodeTouch_dimEnd d now _ _ _)

theorem fwPushDone_stays (s : State) (el : Nat) : Answers (.fwPushDone el) s (fun _ d e => e = { d with pwr := e.pwr, mram := e.mram }) := by
  refine answers_of_forall (f := fun _ d => if d.alive then d.fwPushDone else d) rfl fun now d => ?_
  split
  · unfold Dev.fwPushDone
    split
    · rfl
    · rfl
  · rfl

/-! ### Self-tests -/

/-- Address range of the page of the self-tests. -/
abbrev tstPages : List (Nat × Nat) := [(0x006000, 0x007000)]

/-- The block without registers, self-tests and channels. -/
def Dev.sansTests (d : Dev) : Dev := { d with regs := [], tst := {}, idc := [] }

/-- The same without the recorder. -/
def Dev.sansTestEvents (d : Dev) : Dev := { d.sansTests with evh := {}, rec_ := {} }

/-- An operation of the self-tests. -/
abbrev TestTouch (d e : Dev) : Prop := Touches tstPages Dev.sansTests d e

/-- The same with a firing. -/
abbrev TestEvents (d e : Dev) : Prop := Touches tstPages Dev.sansTestEvents d e

theorem TestTouch.events {d e : Dev} (h : TestTouch d e) : TestEvents d e :=
  h.mono (fun p hp => ⟨p, hp, le_rfl, le_rfl⟩) (fun hk => (congrArg Dev.sansTestEvents hk :))

theorem TestTouch.stays {d e : Dev} (h : TestTouch d e) : RegsWithin tstPages d e ∧ e = { d with regs := e.regs, tst := e.tst, idc := e.idc } :=
  ⟨h.regs, (congrArg (fun x : Dev => { x with regs := e.regs, tst := e.tst, idc := e.idc }) h.rest :)⟩

theorem TestEvents.stays {d e : Dev} (h : TestEvents d e) : RegsWithin tstPages d e ∧
    e = { d with regs := e.regs, evh := e.evh, rec_ := e.rec_, tst := e.tst, idc := e.idc } :=
  ⟨h.regs, (congrArg (fun x : Dev => { x with regs := e.regs, evh := e.evh, rec_ := e.rec_, tst := e.tst, idc := e.idc }) h.rest :)⟩

theorem testTouch_slot (d : Dev) {q : Nat} (hq : q < 16) (t : TstSlot) (v : Nat) : TestTouch d ((d.setTslot q t).wr (TST.STATUS q) v) :=
  Touches.trans (b := d.setTslot q t) (Touches.of_regs rfl rfl) (Touches.wr _ _ v (by clear * - hq; decide +revert) (by rfl))

theorem testTouch_modIdc (d : Dev) (c : Nat) (f : IdcCh → IdcCh) : TestTouch d (d.modIdc c f) := Touches.of_regs rfl rfl

theorem testTouch_tstTurn (d : Dev) (now : Nat) : TestTouch d (d.tstTurn now) := by
  refine Touches.each _ _ (fun x q hq => ?_) d
  have hq : q < 16 := List.mem_range.mp (List.mem_filter.mp hq).1
  exact (testTouch_slot x hq _ 1).trans (Touches.ite (fun _ => Touches.refl _) (fun _ => testTouch_modIdc _ _ _))

theorem Dev.slotClass_tstTurn (d : Dev) (now p : Nat) : (d.tstTurn now).slotClass p = d.slotClass p := by
  refine Dev.each_keeps (fun x : Dev => x.slotClass p) (fun d q =>
    let d := (d.setTslot q { d.tslot q with endAt := none, cut := none }).wr (TST.STATUS q) 1
    if d.rd (TST.S_ID q) = 18 then d else d.modIdc (d.rd (TST.S_TARGET q)) (fun x => { x with offFrom := now })) (fun x q => ?_) d _
  have hrd : ∀ f : Field, (TST.STATUS q).key ≠ f.key → ((x.setTslot q { x.tslot q with endAt := none, cut := none }).wr (TST.STATUS q) 1).rd f = x.rd f :=
    fun f hf => (Dev.rd_wr_ne _ _ hf).trans rfl
  have hkeys : (TST.STATUS q).key ≠ (TST.S_ID p).key ∧ (TST.STATUS q).key ≠ (TST.S_TARGET p).key := by
    simp only [Field.key, TST.STATUS, TST.S_ID, TST.S_TARGET]
    omega
  have hsame : ((x.setTslot q { x.tslot q with endAt := none, cut := none }).wr (TST.STATUS q) 1).slotClass p = x.slotClass p := by
    rw [Dev.slotClass, Dev.slotClass, hrd _ hkeys.1, hrd _ hkeys.2]
  dsimp only
  split
  · exact hsame
  · exact hsame

theorem testTouch_tstStart (d : Dev) (now : Nat) {q : Nat} (hq : q < 16) (hclass : d.slotClass q ≠ some 2) : TestTouch d (d.tstStart now q) := by
  have hturn := testTouch_tstTurn d now
  have hclass := d.slotClass_tstTurn now q ▸ hclass
  unfold Dev.tstStart
  dsimp only
  generalize d.tstTurn now = x at hturn hclass ⊢
  refine Touches.ite (fun _ => hturn) (fun _ => ?_)
  split
  · exact hturn.trans (Touches.opt (testTouch_slot x hq _ 2))
  · next h => exact absurd h hclass
  · exact hturn

theorem testTouch_tstFinish (d : Dev) {q : Nat} (hq : q < 16) (status result detail : Nat) : TestTouch d (d.tstFinish q status result detail) :=
  (((Touches.wr d (TST.STATUS q) _ (by clear * - hq; decide +revert) (by rfl)).trans
    (Touches.wr _ (TST.RESULT q) _ (by clear * - hq; decide +revert) (by rfl))).trans
      (Touches.wr _ (TST.DETAIL q) _ (by clear * - hq; decide +revert) (by rfl))).trans (Touches.wr _ TST.FINISHED _ (by decide) (by rfl))

theorem testEvents_tstDefer (d : Dev) (now : Nat) {q : Nat} (hq : q < 16) : TestEvents d (d.tstDefer now q) := by
  have hfinish : ∀ x : Dev, TestEvents x ((x.tstFinish q 4 0 0).fire now EVT.TST_DEFERRED q 0) := fun x =>
    (testTouch_tstFinish x hq 4 0 0).events.trans (Touches.fire _ _ _ _ _ (by intros; rfl))
  exact (testTouch_tstTurn d now).events.trans (Touches.opt (hfinish _))

theorem testEvents_tstDone (d : Dev) (now : Nat) {q : Nat} (hq : q < 16) (pass : Bool) (detail : Nat) :
    TestEvents d (d.tstDone now q pass detail) := by
  have hfire : ∀ (x : Dev) ev v, TestEvents x (x.fire now ev q v) := fun x ev v => Touches.fire _ _ _ _ _ (by intros; rfl)
  unfold Dev.tstDone
  extract_lets d1 id mean r d2 d3
  have h1 : TestTouch d d1 := testTouch_tstTurn d now
  have h2 : TestTouch d1 d2 := Touches.opt (testTouch_modIdc d1 _ _)
  have h3 : TestEvents d2 d3 := (testTouch_tstFinish d2 hq _ _ _).events.trans (hfire _ _ _)
  have hend : TestEvents d d3 := (TestTouch.events (h1.trans h2)).trans h3
  exact Touches.ite (fun _ => h1.events) (fun _ => Touches.ite (fun _ => hend) (fun _ => hend.trans (hfire d3 _ _)))

theorem testStart_stays (s : State) (el : Nat) (q : Fin 16) :
    Answers (.testStart el q) s (fun _ d e => d.slotClass q.val ≠ some 2 →
      RegsWithin tstPages d e ∧ e = { d with regs := e.regs, tst := e.tst, idc := e.idc }) :=
  answers_of_forall (f := fun now d => d.tstStart now q.val) rfl fun now d hclass => TestTouch.stays (testTouch_tstStart d now q.isLt hclass)

theorem testEnds_stay (s : State) (el : Nat) (q : Fin 16) (pass : Bool) (w : Word) :
    ∀ i ∈ [Instr.testWaitMax el q, .testDone el q pass w], Answers i s (fun _ d e => RegsWithin tstPages d e ∧
      e = { d with regs := e.regs, evh := e.evh, rec_ := e.rec_, tst := e.tst, idc := e.idc }) := by
  simp only [List.forall_mem_cons, List.not_mem_nil, false_implies, implies_true, and_true]
  constructor
  · refine answers_of_forall (f := fun now d => if d.alive then d.tstDefer now q.val else d) rfl fun now d => ?_
    exact TestEvents.stays (Touches.opt (testEvents_tstDefer d now q.isLt))
  · refine answers_of_forall (f := fun now d => if d.ticking then d.tstDone now q.val pass w.toNat else d) rfl fun now d => ?_
    exact TestEvents.stays (Touches.opt (testEvents_tstDone d now q.isLt pass _))

/-! ### Counted settings and the log -/

/-- Address range of the page of the counted settings. -/
abbrev cntPages : List (Nat × Nat) := [(0x005000, 0x006000)]

/-- `e` differs from `d` in registers of the address ranges `ps`, what a record changes, and parts that `er` does not see. -/
structure Stays {α : Type} (ps : List (Nat × Nat)) (er : Dev → α) (d e : Dev) : Prop where
  regs : RegsWithin ps d e
  rest : er e = er d

section
variable {α : Type} {ps : List (Nat × Nat)} {er : Dev → α} {a b d e : Dev}

theorem Stays.trans (h : Stays ps er a b) (g : Stays ps er b d) : Stays ps er a d :=
  ⟨fun f hlo hev hps => (g.regs f hlo hev hps).trans (h.regs f hlo hev hps), g.rest.trans h.rest⟩

theorem Touches.unflagged (h : Touches ps er d e) : Stays ps er d e := ⟨h.regs, h.rest⟩

theorem Quiet.stays (h : Quiet d e) (her : ∀ r v x, er { d with regs := r, evh := v, rec_ := x } = er d) : Stays ps er d e :=
  ⟨h.regsWithin ps, (congrArg er h.1).trans (her _ _ _)⟩

end

/-- The block without registers, pending values, recorder, the counted act, the stream ports and the non-volatile memory. -/
def Dev.sansCounted (d : Dev) : Dev := { d with regs := [], pend := [], evh := {}, rec_ := {}, cntAct := none, mram := {} }

theorem stays_cntEffect (d : Dev) (now i v : Nat) : Stays cntPages Dev.sansCounted d (d.cntEffect now i v) := by
  unfold Dev.cntEffect
  split
  · exact (Touches.refl d).unflagged
  next f hf =>
    have hw : f.writable cntPages = true := by
      revert hf
      unfold cntField
      split
      all_goals
        intro h
        cases h
      all_goals decide
    split
    · exact Touches.unflagged (Touches.of_regs rfl rfl)
    · exact (Touches.wr d f v hw rfl).unflagged

theorem stays_cntDone (d : Dev) (now : Nat) : Stays cntPages Dev.sansCounted d (d.cntDone now) := by
  cases h : d.cntAct with
  | none =>
    rw [Dev.cntDone, h]
    exact (Touches.refl d).unflagged
  | some a =>
    have hfire : ∀ (x : Dev) ev, Stays cntPages Dev.sansCounted x (x.fire now ev a.idx 0) := fun x ev =>
      (fire_quiet x now ev a.idx 0).stays (by intros; rfl)
    have hact : Stays cntPages Dev.sansCounted d { d with cntAct := none } := ⟨fun _ _ _ _ => rfl, rfl⟩
    have happlied : Stays cntPages Dev.sansCounted d (d.cntApplied now a) := by
      unfold Dev.cntApplied
      split
      · exact hact
      · exact Stays.trans (b := ({ d with cntAct := none } : Dev).cntStore now a.idx a.path a.old a.new a.new) ⟨fun _ _ _ _ => rfl, rfl⟩
          (stays_cntEffect _ now _ _)
    have hevents : Stays cntPages Dev.sansCounted d (d.cntEvents now a) := by
      unfold Dev.cntEvents
      dsimp only
      split
      · exact (happlied.trans (hfire _ _)).trans (hfire _ _)
      · exact happlied.trans (hfire _ _)
    rw [Dev.cntDone_of_act now h]
    exact hevents.trans ((stageFree_quiet _ _ _ _ _ _).stays (by intros; rfl))

theorem countedChangeDone_stays (s : State) (el : Nat) :
    Answers (.countedChangeDone el) s (fun _ d e => RegsWithin cntPages d e ∧
      e = { d with regs := e.regs, pend := e.pend, evh := e.evh, rec_ := e.rec_, cntAct := e.cntAct, mram := e.mram }) := by
  refine answers_of_forall (f := fun now d => if d.alive then d.cntDone now else d) rfl fun now d => ?_
  have h : Stays cntPages Dev.sansCounted d (if d.alive then d.cntDone now else d) := by
    split
    · exact stays_cntDone d now
    · exact (Touches.refl d).unflagged
  generalize (if d.alive then d.cntDone now else d) = e at h ⊢
  exact ⟨h.regs, (congrArg (fun x : Dev =>
    { x with regs := e.regs, pend := e.pend, evh := e.evh, rec_ := e.rec_, cntAct := e.cntAct, mram := e.mram }) h.rest :)⟩

/-- The block without registers, recorder, the counted act, the stream ports and the non-volatile memory. -/
def Dev.sansLog (d : Dev) : Dev := { d with regs := [], evh := {}, rec_ := {}, cntAct := none, ksp := [], mram := {} }

theorem stays_cntRefuse (d : Dev) (now i v code : Nat) : Stays cntPages Dev.sansLog d (d.cntRefuse now i v code) := by
  have hregs : Stays cntPages Dev.sansLog d (((d.wr CNT.LAST_ERR code).wr CNT.LAST_ERR_IDX i).bump CNT.REFUSED_CNT) :=
    Touches.unflagged (((Touches.wr d CNT.LAST_ERR code (by decide) (by rfl)).trans (Touches.wr _ CNT.LAST_ERR_IDX i (by decide) (by rfl))).trans
      (Touches.bump _ CNT.REFUSED_CNT (by decide) (by rfl)))
  unfold Dev.cntRefuse
  dsimp only
  split
  · exact hregs.trans ((stageLimited_quiet _ _ _ _ _ _).stays (by intros; rfl))
  · exact hregs

theorem stays_logClear (d : Dev) (now path : Nat) : Stays cntPages Dev.sansLog d (d.logClear now path) := by
  have hsend : ∀ (x : Dev) bs, Stays cntPages Dev.sansLog x (x.kspSend 0 4 bs) := fun x bs => by
    have h := x.sansSend_kspSend 0 4 bs
    exact Touches.unflagged (Touches.of_regs (congrArg Dev.regs h :) (congrArg Dev.sansLog h :))
  have habort : Stays cntPages Dev.sansLog d d.streamAbort := by
    unfold Dev.streamAbort
    split
    · exact (Touches.refl d).unflagged
    · exact Stays.trans (b := { d with rec_ := { d.rec_ with stream := none } }) ⟨fun _ _ _ _ => rfl, rfl⟩ (hsend _ _)
  unfold Dev.logClear
  extract_lets d1 n gen d2 _ _ d3 d4
  have h2 : Stays cntPages Dev.sansLog d d2 := habort.trans ⟨fun _ _ _ _ => rfl, rfl⟩
  have h3 : Stays cntPages Dev.sansLog d2 d3 := ⟨fun _ _ _ _ => rfl, rfl⟩
  clear_value d3 d2 n gen
  have h4 : Quiet d3 d4 := ((Quiet.wr_rec d3 REC.REC_SEQ 0 (by decide)).trans (Quiet.wr_rec _ REC.REC_FULL 0 (by decide))).trans
    (Quiet.wr_rec _ REC.LOST_CNT 0 (by decide))
  exact (h2.trans h3).trans ((h4.trans (stageFree_quiet _ _ _ _ _ _)).stays (by intros; rfl))

theorem logClr_stays (s : State) (el : Nat) (p : Fin 3) :
    Answers (.logClr el p) s (fun _ d e => RegsWithin cntPages d e ∧
      e = { d with regs := e.regs, evh := e.evh, rec_ := e.rec_, cntAct := e.cntAct, ksp := e.ksp, mram := e.mram }) := by
  refine answers_of_forall (f := fun now d => if d.hif.inService then (d.cntWrite now p.val 12 1).2 else d) rfl fun now d => ?_
  have hwrite : Stays cntPages Dev.sansLog d (d.cntWrite now p.val 12 1).2 := by
    have hnarrow : cntNarrow 12 1 = 1 := rfl
    by_cases hcode : d.cntRefusal now p.val 12 1 = 0
    · have hclear : (d.cntWrite now p.val 12 1).2 = { d.logClear now p.val with
          cntAct := some { idx := 12, old := d.cntVal 12, new := 1, path := p.val, start := now } } := by
        simp [Dev.cntWrite, hnarrow, hcode]
      rw [hclear]
      exact (stays_logClear d now p.val).trans ⟨fun _ _ _ _ => rfl, rfl⟩
    · have href : (d.cntWrite now p.val 12 1).2 = d.cntRefuse now 12 1 (d.cntRefusal now p.val 12 1) := by
        simp [Dev.cntWrite, hnarrow, hcode]
      rw [href]
      exact stays_cntRefuse d now _ _ _
  have h : Stays cntPages Dev.sansLog d (if d.hif.inService then (d.cntWrite now p.val 12 1).2 else d) := by
    split
    · exact hwrite
    · exact (Touches.refl d).unflagged
  generalize (if d.hif.inService then (d.cntWrite now p.val 12 1).2 else d) = e at h ⊢
  exact ⟨h.regs, (congrArg (fun x : Dev =>
    { x with regs := e.regs, evh := e.evh, rec_ := e.rec_, cntAct := e.cntAct, ksp := e.ksp, mram := e.mram }) h.rest :)⟩

end Sys2Proof.Machine
end

section
/-! PROOFS. The commands named leave every other unit and every other page as they were. -/
namespace Sys2Proof.Machine

/-- Settles O60, unit by unit. -/
theorem commandsStayInTheirUnits : Obligations.CommandsStayInTheirUnits := by
  unfold Obligations.CommandsStayInTheirUnits
  exact fun s el => ⟨fun c g ma t held => ⟨idcCommands_stay s el c g ma t held, idcGroupFaults_stay s el c g ma held, idcClears_stay s el c g⟩,
    fun c temp => switchTimes_stay s el c temp, fun c => switchCommands_stay s el c,
    fun c b i0 i1 i2 i3 temp held => switchFaults_stay s el c b i0 i1 i2 i3 temp held,
    fun m t held => outputCommands_stay s el m t held, fun c p a b held => fbkEdge_stays s el c p a b held,
    fun n x y => busCommands_stay s el n x y, fun b n bs => ⟨latency_stays s el b n bs, enrolReq_stays s el b bs⟩,
    fun n rx => sspSample_stays s el n rx, fun p => ⟨holdExpired_stays s el p, rateDeviation_stays s el p⟩,
    fun x => measurementEpoch_stays s el x, correctionEpochClose_stays s el, holdover_stays s el, auditReq_stays s el,
    fun src m => ⟨srcRetry_stays s el src, calReset_stays s el m⟩,
    fun k n => ⟨confTimeout_stays s el n, storeRequests_stay s el k, tileTimers_stay s el k, emberFlushMaxExpiry_stays s el⟩,
    fun p ack nak c0 c1 c2 c3 c4 => ⟨laneLockWaitExpiry_stays s el p, trainTimeout_stays s el p, linkPacket_stays s el p ack nak c0 c1 c2 c3 c4⟩,
    fun h => pairCommands_stay s el h, fun n lo => ⟨stateWrite_stays s el n lo, dmaEnds_stay s el n⟩,
    fun mv low held => ⟨dimEntry_stays s el mv held, dimEnd_stays s el mv low held⟩, fwPushDone_stays s el,
    fun q pass w => ⟨testStart_stays s el q, testEnds_stay s el q pass w⟩, fun p => logClr_stays s el p, countedChangeDone_stays s el⟩

end Sys2Proof.Machine
end
